-- ==== Sys2Proof/Word.lean ====
section
/-! DEFINITION. The word types of the block and their plainest arithmetic: bytes, little-endian byte strings, saturating and
wrapping counters. Everything a test could show wrong stands in Decode.lean or under Machine/, not here. -/
namespace Sys2Proof

/-- One byte, as the dictionary carries it (R316). -/
abbrev Byte := BitVec 8

/-- A string of bytes, first byte first. -/
abbrev Bytes := List Byte

/-- The unsigned number that a byte string spells, least significant byte first (R316). -/
def leNat : Bytes → Nat
  | [] => 0
  | b :: bs => b.toNat + 256 * leNat bs

/-- The `n` bytes of a number, least significant byte first (R316). -/
def leBytes : Nat → Nat → Bytes
  | 0, _ => []
  | n + 1, v => BitVec.ofNat 8 v :: leBytes n (v / 256)

/-- Bit `i` of a number. -/
def bitOf (v i : Nat) : Bool := v / 2 ^ i % 2 == 1

/-- The `len` bits of `v` from bit `lo` upward. -/
def field (v lo len : Nat) : Nat := v / 2 ^ lo % 2 ^ len

/-- The number with bit `i` set when `b` holds, and 0 otherwise. -/
def bitIf (b : Bool) (i : Nat) : Nat := if b then 2 ^ i else 0

/-- One more, saturating at 65,535. -/
def sat16 (v : Nat) : Nat := if v < 65535 then v + 1 else 65535

/-- One more, modulo 2^32. -/
def wrap32 (v : Nat) : Nat := (v + 1) % 4294967296

end Sys2Proof
end

