-- ==== Sys2Proof/Syntax.lean ====
section
/-! DEFINITION. The commands of the block: `Instr` has one constructor for each row of spec/opcode_table.json, with the operands
that the spec's text gives the happening (the table gives no row any bits). Each docstring cites the row's rule. -/
namespace Sys2Proof

/-- The roles of the dictionary (R319, R454). -/
inductive Role where
  | owner
  | partition (p : Fin 16)
  | service
  | peer
  deriving DecidableEq, Repr

/-- The upper or the lower comparator of a channel (R101). -/
inductive Side where
  | upper
  | lower
  deriving DecidableEq, Repr

/-- What a comparator of a channel finds (R101, R104): which one, the pin voltage that it compares, in nanovolts, and for how long it has been
asserted without interruption, in nanoseconds. -/
structure Crossing where
  side : Side
  pin  : Int
  held : Nat
  deriving DecidableEq, Repr

/-- A channel whose comparators find the pin voltage inside: the channel, and the voltage in nanovolts (R101). -/
structure Inside where
  chan : Fin 512
  pin  : Int
  deriving DecidableEq, Repr

/-- The eighteen islands (Table 1-3). -/
inductive Island where
  | cl (n : Fin 8)
  | hutch
  | mgmt
  | telemetry
  | nv
  | drive
  | can (k : Fin 2)
  | t1s
  | host
  | twoWire
  deriving DecidableEq, Repr

/-- The commit participants (text before R15). -/
inductive Participant where
  | cl (n : Fin 8)
  | telemetry
  | drive
  | twoWire
  deriving DecidableEq, Repr

/-- The transports of dictionary requests (R328). -/
inductive Transport where
  | spi
  | can (k : Fin 2)
  | t1s
  | svc (w : Fin 16)
  deriving DecidableEq, Repr

/-- The three field links (R354). -/
inductive Link where
  | can (k : Fin 2)
  | t1s
  deriving DecidableEq, Repr

/-- Why a link goes down (Table 13-10). -/
inductive LinkCause where
  | busOff
  | silence
  | phyFault
  | beaconLost
  deriving DecidableEq, Repr

/-- What the check tour adds to a visit: the spare's window mean and, where the comparison goes on, the two reference reads of
the next slot and the two means of the next visit (R86). All in nanovolts at the pin. -/
structure Tour where
  spare      : Int
  refActive  : Int
  refSpare   : Int
  again      : Int
  againSpare : Int
  deriving DecidableEq, Repr

/-- One visit of a slice to a channel: the mean pin voltage of its window in nanovolts (R67, R79), the content of the gap
integrator in nanovolt-nanoseconds (R97), and the check-tour comparison if the spare joined the visit (R85). -/
structure Visit where
  mean : Int
  gap  : Int
  tour : Option Tour
  deriving DecidableEq, Repr

/-- The readings of a spare's calibration (R82, R91): the 2.048 V reference and the check reference in pin counts, whether the
calibration keeps to its limits, and whether the reference read passes. -/
structure Calibration where
  ref      : Nat
  checkRef : Nat
  inLimits : Bool
  refPass  : Bool
  deriving DecidableEq, Repr

/-- What an event names (Table 12-7). -/
structure EventBody where
  code  : Byte
  part  : Byte
  clear : Bool
  param : Bytes
  deriving DecidableEq, Repr

/-- A received Ethernet frame (R349, R350). -/
structure EthFrame where
  unicast   : Bool
  fcsOk     : Bool
  src       : BitVec 48
  vlan      : Option (BitVec 12)
  ethertype : BitVec 16
  payload   : Bytes
  deriving DecidableEq, Repr

/-- What the host sent in one SPI frame: its bytes and the clocks counted from HCS_N falling to rising (R363, R365). -/
structure SpiRx where
  bytes  : Bytes
  clocks : Nat
  deriving DecidableEq, Repr

/-- The straps sampled at power-up (R283). -/
structure Straps where
  devid : Fin 16
  enPol : Bool
  psel  : Fin 4
  deriving DecidableEq, Repr

/-- What a power-up finds: its straps (R283), and the reading of CL0's die at its calibration in 0.1 °C (R254). -/
structure Start where
  straps : Straps
  die    : Int
  deriving DecidableEq, Repr

/-- How a PS transaction ended on the bus (Table 15-3, codes 0 to 3). -/
inductive PsResult where
  | acknowledged
  | addressNack
  | dataNack
  | pecInvalid
  deriving DecidableEq, Repr

/-- What the bus answered to the STATUS_WORD read of one entry at an alert, its PAGE write included (R395): the result (Table 15-3, 0 to 5) and the
word; and, at the entry's first turn, those of the VOUT_MODE read before it (R388). -/
structure AlertRead where
  modeCode : Fin 6
  mode     : Byte
  code     : Fin 6
  word     : BitVec 16
  deriving DecidableEq, Repr

/-- What the bus answered to the alert handling of R395: whether SDA stays low, so that no turn begins (R394); the alert response byte, or none
without an acknowledge or with an invalid PEC; and the reads of the entries of that address, in ascending number. -/
structure AlertReply where
  heldLow  : Bool
  response : Option Byte
  reads    : List AlertRead
  deriving DecidableEq, Repr

/-- SDA as a port finds it once SCL is high again (R391): high, high after so many of its SCL pulses and one, or low after nine of them. -/
inductive SdaLine where
  | high
  | freed (pulses : Fin 9)
  | low
  deriving DecidableEq, Repr

/-- What the margin sense of a flash read finds in the cells (R410): bits corrected, weak cells, and the granules (offset in
granules from the address read) found uncorrectable. -/
structure Sense where
  corrected     : Nat
  weak          : Nat
  uncorrectable : List Nat
  deriving DecidableEq, Repr

/-- What the read-back of a drawer finds (R255): a granule without its marker, or 8 programmed granules with their margin sense. -/
inductive ReadBack where
  | torn
  | whole (sense : Sense)
  deriving DecidableEq, Repr

/-- What the absolute position sensor answered (R434): POSn_DAT low at the start, the bits shifted in as a number, the parity
bit, and POSn_DAT high again in time. -/
structure PosRead where
  startLow : Bool
  word     : Nat
  parity   : Bool
  released : Bool
  deriving DecidableEq, Repr

/-- A request on the debug port (R456, R458). -/
inductive DebugReq where
  | identify
  | halt
  | resume
  | inspect (addr : Nat)
  deriving DecidableEq, Repr

/-- The four VIO banks (Table 19-5). -/
inductive VioBank where
  | vioA
  | vioB
  | vioC
  | vioD
  deriving DecidableEq, Repr

/-- What the hardware answers while requests are executed: whether the fault-fabric test passes where one is made (R110), and the margin
sense of a flash read by its address (R410); a read that is not listed senses clean cells. -/
structure Hw where
  fabricOk : Bool
  senses   : List (Nat × Sense)
  deriving DecidableEq, Repr

/-- A complete request that arrives at the DAP engine: its transport, its endpoint, whether it is of the SVC service form, and its bytes
(R337, R399). -/
structure Arrival where
  tr      : Transport
  ep      : Nat
  service : Bool
  bytes   : Bytes
  deriving DecidableEq, Repr

/-- The commands of the block, one constructor for each row of the opcode table. A dictionary write carries the role of its
writer; where the row does not fix the value written, it carries the value. -/
inductive Instr where
  /-- COMMIT (R16). -/
  | commit (r : Role) (fabricOk : Bool)
  /-- COMMIT_DISCARD (R324). -/
  | commitDiscard (r : Role)
  /-- PARTITION_COMMIT (R322). -/
  | partitionCommit (r : Role) (p : Fin 16) (fabricOk : Bool)
  /-- PARTITION_COMMIT_DISCARD (R324). -/
  | partitionCommitDiscard (r : Role) (p : Fin 16)
  /-- COMMIT_QUEUE_START (R323). -/
  | commitQueueStart (fabricOk : Bool)
  /-- SWAP (R16). -/
  | swap
  /-- COMMIT_ABANDON (R17). -/
  | commitAbandon (part : Participant) (hw : Hw)
  /-- FRAME_PULSE (R25). -/
  | framePulse
  /-- REFERENCE_FAIL (R28). -/
  | referenceFail
  /-- TIME_FREE_CLEAR (R28). -/
  | timeFreeClear
  /-- HANDSHAKE_STALL (R31). -/
  | handshakeStall (i : Island)
  /-- ISLAND_CLOCK_FAULT (R32). -/
  | islandClockFault (i : Island)
  /-- ISLAND_READY (R31). -/
  | islandReady (i : Island)
  /-- MGMT_RESUME (R36). -/
  | mgmtResume
  /-- WINDOW_EXIT (R55). -/
  | windowExit (c : Fin 512) (x : Crossing)
  /-- WINDOW_ENTER (R53). -/
  | windowEnter (x : Inside)
  /-- SETTLE_TIME_EXPIRE (R53). -/
  | settleTimeExpire (c : Fin 512)
  /-- DEADLINE_EXPIRE (R55). -/
  | deadlineExpire (c : Fin 512)
  /-- CLEAR (R62). -/
  | clear (r : Role) (c : Fin 512) (v : Byte)
  /-- SLICE_RESULT (R67). -/
  | sliceResult (c : Fin 512) (visit : Visit)
  /-- EPOCH_END (R83). -/
  | epochEnd (n : Fin 8)
  /-- SPARE_CALIBRATION_DONE (R82). -/
  | spareCalibrationDone (n : Fin 8) (cal : Calibration)
  /-- SLICE_HW_FAULT (R88). -/
  | sliceHwFault (n : Fin 8) (k : Fin 9)
  /-- OPEN_WIRE_TEST (R92). -/
  | openWireTest (n : Fin 8) (g : Fin 8)
  /-- OPEN_WIRE_RESULT (R95). -/
  | openWireResult (c : Fin 512) (first : Visit) (second : Visit)
  /-- LOCK_FALLBACK (R72). -/
  | lockFallback (period : Nat)
  /-- LOCK_RESUME (R72). -/
  | lockResume
  /-- SYNCOUT_RESTART (R77). -/
  | syncoutRestart
  /-- DISCHARGE_END (R115). -/
  | dischargeEnd (p : Fin 16)
  /-- TR_FLT_RECEIVE (R119). -/
  | trFltReceive (n : Fin 4)
  /-- FLT_PULSE_END (R118). -/
  | fltPulseEnd (n : Fin 4)
  /-- FLT_STUCK (R121). -/
  | fltStuck (n : Fin 4)
  /-- FLT_STUCK_CLEAR (R121). -/
  | fltStuckClear (n : Fin 4)
  /-- CLUSTER_CLOCK_LOSS (R122). -/
  | clusterClockLoss (n : Fin 8)
  /-- CLUSTER_CLOCK_BACK (R124). -/
  | clusterClockBack (n : Fin 8)
  /-- RETRY_DUE (R127). -/
  | retryDue (p : Fin 16)
  /-- RESTART (R126). -/
  | restart (r : Role) (p : Fin 16) (v : Byte)
  /-- FORCE_OFF (R113). -/
  | forceOff (r : Role) (p : Fin 16) (v : Byte)
  /-- SAFE_N_RELEASE (R130). -/
  | safeNRelease
  /-- BARRIER_ADVANCE (R170). -/
  | barrierAdvance (n : Fin 4)
  /-- GUARD_END (R169). -/
  | guardEnd (n : Fin 4)
  /-- GOAL (R137). -/
  | goal (r : Role) (n : Fin 4) (v : Byte)
  /-- START (R159). -/
  | start (r : Role) (p : Fin 16) (v : Byte)
  /-- STOP (R159). -/
  | stop (r : Role) (p : Fin 16) (v : Byte)
  /-- START_PENDING_RELEASE (R160). -/
  | startPendingRelease (p : Fin 16)
  /-- ACTION_ARM (R143). -/
  | actionArm (e : Fin 4096)
  /-- ACTION_ISSUE (R143). -/
  | actionIssue (e : Fin 4096)
  /-- ACTION_COMPLETE (R141). -/
  | actionComplete (e : Fin 4096)
  /-- ACTION_TIMEOUT (R141). -/
  | actionTimeout (e : Fin 4096)
  /-- ARM_CAPTURE (R164). -/
  | armCapture (r : Role) (u : Fin 32) (v : Byte)
  /-- CAPTURE_OCCURRENCE (R165). -/
  | captureOccurrence (u : Fin 32) (start : Bool)
  /-- CAPTURE_LIMIT (R165). -/
  | captureLimit (u : Fin 32)
  /-- GROUP_RESET (R183). -/
  | groupReset (r : Role) (n : Fin 4) (v : Byte)
  /-- DISCOVERY_BEGIN (R177). -/
  | discoveryBegin
  /-- ANNOUNCE_SEND (R177). -/
  | announceSend
  /-- ANNOUNCE (R177). -/
  | announce (msg : Bytes)
  /-- DISCOVERY_CLOSE (R177). -/
  | discoveryClose
  /-- PRESENCE_SEND (R188). -/
  | presenceSend
  /-- PRESENCE (R182). -/
  | presence (msg : Bytes)
  /-- STATE_SEND (R181). -/
  | stateSend (n : Fin 4) (sent : Bool)
  /-- STATE (R181). -/
  | state (msg : Bytes)
  /-- STATE_CHECK_TIMEOUT (R181). -/
  | stateCheckTimeout (n : Fin 4)
  /-- TSYNC_PULSE (R185). -/
  | tsyncPulse
  /-- TSYNC_EDGE (R185). -/
  | tsyncEdge
  /-- SYNC (R185). -/
  | sync (msg : Bytes)
  /-- ACK (R174). -/
  | ack (msg : Bytes)
  /-- TSYNC_LOST (R187). -/
  | tsyncLost
  /-- RELEASE_SEND (R193). -/
  | releaseSend
  /-- RELEASE (R193). -/
  | release (msg : Bytes)
  /-- RELEASE_RESEND (R193). -/
  | releaseResend
  /-- STARTUP_HOLD_LIFT (R193). -/
  | startupHoldLift
  /-- PEER_LOST (R188). -/
  | peerLost (d : Fin 16)
  /-- SUB_INTERVAL_END (R212). -/
  | subIntervalEnd
  /-- RELIEF_EVALUATE (R216). -/
  | reliefEvaluate
  /-- TABLE_SELECT (R222). -/
  | tableSelect (r : Role) (v : Byte)
  /-- SCHEDULE_MATCH (R223). -/
  | scheduleMatch
  /-- DEMAND_INTERVAL_END (R221). -/
  | demandIntervalEnd
  /-- LEDGER_RECORD_WRITE (R226). -/
  | ledgerRecordWrite
  /-- DAP_REQUEST (R320). -/
  | dapRequest (arrival : Option Arrival) (hw : Hw)
  /-- REGISTER_WRITE (R317). -/
  | registerWrite (r : Role) (idx : BitVec 16) (sub : Byte) (val : Bytes)
  /-- EVENT_NEXT (R332). -/
  | eventNext (k : Nat)
  /-- EVENT_RAISE (R332). -/
  | eventRaise (src : Island) (ev : EventBody)
  /-- EVENT_SUBSCRIBE (R352). -/
  | eventSubscribe (k : Nat) (v : Byte)
  /-- EVENT_FRAME_SEND (R352). -/
  | eventFrameSend (k : Nat)
  /-- CAN_FRAME_RECEIVE (R348). -/
  | canFrameReceive (k : Fin 2) (fd : Bool) (id : BitVec 29) (data : Bytes)
  /-- T1S_FRAME_RECEIVE (R350). -/
  | t1sFrameReceive (eth : EthFrame)
  /-- SEG_TIMEOUT (R346). -/
  | segTimeout (link : Link) (ep : Nat) (tid : Byte)
  /-- SESSION_IDLE (R342). -/
  | sessionIdle (k : Nat)
  /-- LINK_DOWN (R354). -/
  | linkDown (link : Link) (cause : LinkCause)
  /-- LINK_UP (R354). -/
  | linkUp (link : Link)
  /-- BUSOFF_RECOVERY (R347). -/
  | busoffRecovery (k : Fin 2)
  /-- HOST_TIMEOUT (R355). -/
  | hostTimeout (p : Fin 16)
  /-- TC10_SLEEP_REQUEST (R357). -/
  | tc10SleepRequest
  /-- TC10_WAKE_UP (R357). -/
  | tc10WakeUp
  /-- TELEM_FRAME_SEND (R350). -/
  | telemFrameSend (s : Fin 32)
  /-- SPI_FRAME_START (R364). -/
  | spiFrameStart (mode3 : Bool)
  /-- SPI_FRAME_END (R365). -/
  | spiFrameEnd (rx : SpiRx)
  /-- NOP (R362). -/
  | nop
  /-- DAP (R362). -/
  | dap (frame : Bytes)
  /-- SLEEP_LINK (R371). -/
  | sleepLink
  /-- HOST_RESUME (R372). -/
  | hostResume (lowNs : Nat)
  /-- DEVICE_WAKE (R372). -/
  | deviceWake
  /-- TELEM_IRQ_AGE_EXPIRE (R369). -/
  | telemIrqAgeExpire (s : Fin 32)
  /-- PMBUS_TRIM_PERIOD (R231). -/
  | pmbusTrimPeriod (c : Fin 512)
  /-- MARGIN_APPLY (R237). -/
  | marginApply (r : Role) (p : Fin 16)
  /-- MARGIN_REMOVE (R237). -/
  | marginRemove (r : Role) (p : Fin 16)
  /-- BENCH_START (R238). -/
  | benchStart (r : Role) (p : Fin 16)
  /-- BENCH_ABORT (R240). -/
  | benchAbort (r : Role) (p : Fin 16)
  /-- BENCH_SETTLED (R239). -/
  | benchSettled (p : Fin 16)
  /-- BENCH_SETTLE_TIMEOUT (R239). -/
  | benchSettleTimeout (p : Fin 16)
  /-- BENCH_DWELL_END (R239). -/
  | benchDwellEnd (p : Fin 16)
  /-- VERDICT_PASS (R239). -/
  | verdictPass (r : Role) (p : Fin 16)
  /-- VERDICT_FAIL (R239). -/
  | verdictFail (r : Role) (p : Fin 16)
  /-- VERDICT_TIMEOUT (R239). -/
  | verdictTimeout (p : Fin 16)
  /-- MAINTENANCE_WAIT_START (R242). -/
  | maintenanceWaitStart
  /-- ACTIVATION_WAIT_TIMEOUT (R242). -/
  | activationWaitTimeout
  /-- LATCH_ENTRY_ARRIVE (R246). -/
  | latchEntryArrive (p : Fin 16) (n : Fin 8)
  /-- MERGE_WINDOW_END (R246). -/
  | mergeWindowEnd (p : Fin 16)
  /-- DRAWER_COMMIT (R253). -/
  | drawerCommit
  /-- DRAWER_READBACK (R255). -/
  | drawerReadback (found : ReadBack)
  /-- ERASE_OLDEST (R258). -/
  | eraseOldest (r : Role)
  /-- ERASE_ALL (R258). -/
  | eraseAll (r : Role)
  /-- VERIFY_ALL (R259). -/
  | verifyAll (r : Role) (senses : List (Nat × Sense))
  /-- DRAWER_READ (R259). -/
  | drawerRead (r : Role) (k : Nat) (d : Fin 512) (sense : Sense)
  /-- THERMAL_SAMPLE (R264). -/
  | thermalSample (own : Int)
  /-- DRIVE_WAIT_EXPIRE (R272). -/
  | driveWaitExpire
  /-- CHATTER_CLEAR (R268). -/
  | chatterClear
  /-- NEIGHBOUR_POLL (R274). -/
  | neighbourPoll (readings : List (Option Int))
  /-- NO_SAMPLE (R276). -/
  | noSample
  /-- VAUX_VALID (R300). -/
  | vauxValid
  /-- POWER_UP (R282). -/
  | powerUp (start : Start) (hw : Hw)
  /-- VCORE_START_TIMEOUT (R284). -/
  | vcoreStartTimeout
  /-- VCORE_FAULT (R285). -/
  | vcoreFault
  /-- VCORE_RECOVERY (R285). -/
  | vcoreRecovery
  /-- POWER_LOSS_WARNING (R290). -/
  | powerLossWarning
  /-- WARNING_WITHDRAWN (R291). -/
  | warningWithdrawn
  /-- SUPPLY_SWITCHOVER (R293). -/
  | supplySwitchover (falling : Bool)
  /-- CONTINUITY_LOSS (R294). -/
  | continuityLoss
  /-- BKUP_LOW (R296). -/
  | bkupLow (low : Bool)
  /-- RETAINED_COPY (R287). -/
  | retainedCopy
  /-- MR_N (R289). -/
  | mrN (lowNs : Nat)
  /-- LOCKSTEP_MISMATCH (R288). -/
  | lockstepMismatch
  /-- WATCHDOG (R288). -/
  | watchdog
  /-- RESET_REQUEST_MGMT (R288). -/
  | resetRequestMgmt (r : Role)
  /-- RESET_REQUEST_POWER (R288). -/
  | resetRequestPower (r : Role)
  /-- PB_RELEASE (R297). -/
  | pbRelease (lowMs : Nat)
  /-- LONG_PRESS (R299). -/
  | longPress
  /-- LP_POWER_CYCLE (R299). -/
  | lpPowerCycle
  /-- RTC_ALARM (R300). -/
  | rtcAlarm
  /-- CAN_WAKE (R356). -/
  | canWake (highUs : Nat)
  /-- SLEEP (R300). -/
  | sleep (r : Role) (v : Byte)
  /-- RTC (R295). -/
  | rtc (r : Role) (v : BitVec 32)
  /-- BOOT_RETRY (R447). -/
  | bootRetry (hw : Hw)
  /-- OWNER_INIT (R451). -/
  | ownerInit (r : Role) (val : Bytes)
  /-- KEY_LOAD (R452). -/
  | keyLoad (r : Role) (val : Bytes)
  /-- DEBUG_CHALLENGE (R457). -/
  | debugChallenge (r : Role)
  /-- DEBUG_RESPONSE (R458). -/
  | debugResponse (r : Role) (val : Bytes)
  /-- DEBUG_LOCK (R459). -/
  | debugLock (r : Role) (v : Byte)
  /-- ATTEST_REQUEST (R461). -/
  | attestRequest (r : Role) (k : Nat) (val : Bytes) (sense : Sense)
  /-- ROLLBACK_ADVANCE (R448). -/
  | rollbackAdvance
  /-- DEBUG_PORT_REQUEST (R456). -/
  | debugPortRequest (q : DebugReq)
  /-- SHELF_ERASE (R304). -/
  | shelfErase (r : Role) (k : Nat)
  /-- SHELF_DATA (R304). -/
  | shelfData (r : Role) (k : Nat) (data : Bytes)
  /-- SHELF_SEAL (R304). -/
  | shelfSeal (r : Role) (k : Nat) (sense : Sense)
  /-- SWITCH (R309). -/
  | switch (r : Role) (v : Byte) (hw : Hw)
  /-- PSEL_CHANGE (R310). -/
  | pselChange (v : Fin 4) (hw : Hw)
  /-- PS_TURN (R387). -/
  | psTurn (n : Fin 8)
  /-- PS_TRANSACTION_END (R389). -/
  | psTransactionEnd (n : Fin 8) (result : PsResult) (data : BitVec 16)
  /-- PS_STRETCH_TIMEOUT (R391). -/
  | psStretchTimeout (n : Fin 9)
  /-- SCL_RELEASED (R391). -/
  | sclReleased (n : Fin 9) (sda : SdaLine)
  /-- LINE_STUCK (R392). -/
  | lineStuck (n : Fin 9)
  /-- LINE_STUCK_CLEAR (R392). -/
  | lineStuckClear (n : Fin 9)
  /-- PS_BUS_ERROR (R393). -/
  | psBusError (n : Fin 9)
  /-- ATTENTION_REQUEST (R395). -/
  | attentionRequest (n : Fin 8) (reply : AlertReply)
  /-- SVC_WRITE (R398). -/
  | svcWrite (addr : Fin 128) (bytes : Bytes)
  /-- SVC_READ (R398). -/
  | svcRead (addr : Fin 128) (count : Nat)
  /-- SUBMIT_DAP (R399). -/
  | submitDap (w : Fin 16)
  /-- SUBMIT_SERVICE (R399). -/
  | submitService (w : Fin 16)
  /-- WINDOW_CLEAR (R399). -/
  | windowClear (w : Fin 16)
  /-- DROP_HEAD (R399). -/
  | dropHead (w : Fin 16)
  /-- SVC_ATTENTION (R402). -/
  | svcAttention
  /-- PEER_READ_REQUEST (R404). -/
  | peerReadRequest (bytes : Bytes)
  /-- PEER_READ_RESULT (R404). -/
  | peerReadResult
  /-- PEER_ARBITRATION_LOSS (R403). -/
  | peerArbitrationLoss (addressed : Bool)
  /-- ERASE_REDO (R417). -/
  | eraseRedo
  /-- NV_PROGRAM (R412). -/
  | nvProgram
  /-- NV_ERASE (R415). -/
  | nvErase
  /-- ERASE_SUSPEND (R416). -/
  | eraseSuspend
  /-- ERASE_RESUME (R416). -/
  | eraseResume
  /-- ERASE_DONE (R415). -/
  | eraseDone (verified : Bool)
  /-- NV_INTERRUPT (R413). -/
  | nvInterrupt (done : Nat)
  /-- SCRUB_READ (R421). -/
  | scrubRead (sense : Sense)
  /-- MEM_READ (R410). -/
  | memRead (r : Role) (k : Nat) (sense : Sense)
  /-- MEM_WRITE (R412). -/
  | memWrite (r : Role) (k : Nat) (data : Bytes)
  /-- MEM_ERASE (R415). -/
  | memErase (r : Role) (addr : BitVec 32)
  /-- MEM_ADDR (R408). -/
  | memAddr (r : Role) (k : Nat) (addr : BitVec 32)
  /-- FW_ERASE (R420). -/
  | fwErase (r : Role)
  /-- FW_DATA (R420). -/
  | fwData (r : Role) (data : Bytes)
  /-- FW_SEAL (R446). -/
  | fwSeal (r : Role)
  /-- FW_ACTIVATE (R420). -/
  | fwActivate (r : Role)
  /-- FW_ABANDON (R420). -/
  | fwAbandon (r : Role)
  /-- CARRIER_PERIOD (R428). -/
  | carrierPeriod (d : Fin 4)
  /-- POSITION_READ (R434). -/
  | positionRead (d : Fin 4) (rd : PosRead)
  /-- STANDSTILL (R436). -/
  | standstill (d : Fin 4)
  /-- DRIVE_OVERCURRENT (R430). -/
  | driveOvercurrent (c : Fin 512)
  /-- DRIVE_STALL (R438). -/
  | driveStall (d : Fin 4)
  /-- RUN (R437). -/
  | run (r : Role) (d : Fin 4) (v : Byte)
  /-- CLEAR_FAULT (R438). -/
  | clearFault (r : Role) (d : Fin 4) (v : Byte)
  /-- VIO_BANK_LOSS (R468). -/
  | vioBankLoss (b : VioBank)
  /-- VIO_BANK_RETURN (R468). -/
  | vioBankReturn (b : VioBank)
  /-- STALE (R88). -/
  | stale (c : Fin 512)
  deriving DecidableEq, Repr

end Sys2Proof
end

