-- ==== Sys2Proof/Decode.lean ====
section
/-! DEFINITION. Decoding of table words. No row of spec/opcode_table.json gives any bits: the commands reach the block as happenings and as
dictionary frames (Machine/Dap.lean reads those), so no word spells a command. -/
namespace Sys2Proof

/-- The command that a word spells by the bits of the opcode table: none of its rows has bits, so no word spells any. -/
def decodeTableWord (_nbits _w : Nat) : Option Instr := none

end Sys2Proof
end

