-- ==== Sys2Proof/Config.lean ====
section
/-! DEFINITION. What one implementation of the block fixes, and the free values: constants with no body, of which nothing can be
proved. Each is named in the assumption log. -/
namespace Sys2Proof.Config

/-- The 128-bit AES-CMAC of a message under a key (NIST SP 800-38B); the spec names the standard and does not give it. Log 4. -/
opaque cmac : BitVec 128 → Bytes → BitVec 128

/-- The device unique key in the Hutch OTP (R449). Log 4. -/
opaque deviceKey : BitVec 128

/-- The SP 800-108 derivation of a key: parent key, ASCII label, context (R450). Log 4. -/
opaque kdf : BitVec 128 → Bytes → Bytes → BitVec 128

/-- AES-KW unwrap (SP 800-38F): wrapping key and wrapped bytes; none when the unwrap fails (R450 to R452). Log 4. -/
opaque unwrap : BitVec 128 → Bytes → Option (BitVec 128)

/-- The transport key of this device (R451). Log 4. -/
def transportLabel : Bytes := [0x54, 0x52, 0x41, 0x4E, 0x53, 0x50, 0x4F, 0x52, 0x54]

/-- The SHA-256 digest of a byte string (R307). Log 4. -/
opaque sha256 : Bytes → BitVec 256

/-- Whether the ECDSA P-256 signature of an image verifies under the public key of a slot: slot, image bytes (R445, R446). Log 4. -/
opaque signatureOk : Nat → Bytes → Bool

/-- Random bytes of the n-th challenge (R457). Log 5. -/
opaque randomBytes : Nat → BitVec 128

/-- Factory value SERIAL (R333). Log 6. -/
opaque serial : BitVec 64

/-- Factory value MAC_ADDR (R359). Log 6. -/
opaque macAddr : BitVec 48

/-- The version of the firmware with which the device left the factory (R333), its ROLLBACK level, its REVOKE_MASK and its signing-key
slot (R445). Log 6. -/
opaque factoryVersion : BitVec 32
opaque factoryRollback : Fin 65
opaque factoryRevoke : BitVec 4
opaque factorySlot : Fin 4

/-- The factory compensation tables (R275): a unit of `compUnits`, a point 0 to 31. Log 6. -/
opaque compPoint : Nat → Nat → Int

/-- The granule of the device area, counted from its first, in which a copy (0, 1) of a record lies (R407): record 0 is FALLBACK_SHELF, record
1 + k the freshness counters of key k. The spec gives the area no layout. Log 12. -/
opaque recordPlace : Nat → Fin 2 → Fin 8192

/-- The free values of the n-th reading that the spec leaves open, in a width of 64 bits (log 3): a place of
State counts how many have been taken. -/
opaque freeValue : Nat → BitVec 64

end Sys2Proof.Config
end

