-- ==== Sys2Proof/Machine/Tab.lean ====
section
/-! DEFINITION. Tables: sparse data by a numeric key, as a list of (key, value) pairs in one canonical form: keys strictly
rising, and no entry equal to what an unlisted key reads as. Registers, unit records and the flash cells are all tables, so that
equal contents are equal data. -/
namespace Sys2Proof.Machine

/-- The value listed under a key. -/
def tabFind {α : Type} : List (Nat × α) → Nat → Option α
  | [], _ => none
  | (a, v) :: t, k => if a = k then some v else tabFind t k

/-- The value at a key: what is listed, or what an unlisted key reads as. -/
def tabGet {α : Type} (d : Nat → α) (t : List (Nat × α)) (k : Nat) : α := (tabFind t k).getD (d k)

/-- The table without a key. -/
def tabErase {α : Type} (t : List (Nat × α)) (k : Nat) : List (Nat × α) := t.filter (fun e => e.1 != k)

/-- The table with an entry put before the first greater key. -/
def tabInsert {α : Type} (k : Nat) (v : α) : List (Nat × α) → List (Nat × α)
  | [] => [(k, v)]
  | e :: t => if k < e.1 then (k, v) :: e :: t else e :: tabInsert k v t

/-- The table with a value at a key; writing what an unlisted key reads as removes the entry. -/
def tabSet {α : Type} [DecidableEq α] (d : Nat → α) (t : List (Nat × α)) (k : Nat) (v : α) : List (Nat × α) :=
  if v = d k then tabErase t k else tabInsert k v (tabErase t k)

/-- Keys strictly rising. -/
def tabSorted {α : Type} : List (Nat × α) → Bool
  | [] => true
  | [_] => true
  | e :: f :: t => decide (e.1 < f.1) && tabSorted (f :: t)

/-- The canonical form of a table. -/
def tabOk {α : Type} [DecidableEq α] (d : Nat → α) (t : List (Nat × α)) : Bool :=
  tabSorted t && t.all (fun e => e.2 != d e.1)

/-- The key of a dictionary register: the index of its object's table, the number of the unit (channel, partition, ...), and the
sub-index. -/
def rk (base unit sub : Nat) : Nat := base * 16777216 + unit % 65536 * 256 + sub % 256

end Sys2Proof.Machine
end

