-- ==== Sys2Proof/Machine/Regs.lean ====
section
/-! DEFINITION. The names of the dictionary registers: for each entry of the object tables, the key of the register (`rk`), with
the unit number (channel, partition, cluster, ...) as an argument where the object is one of many. -/
namespace Sys2Proof.Machine

/-- 0x1000:01 VENDOR. -/
abbrev identVendor : Nat := rk 0x1000 0 0x01
/-- 0x1000:02 PRODUCT. -/
abbrev identProduct : Nat := rk 0x1000 0 0x02
/-- 0x1000:03 SILICON_REV. -/
abbrev identSiliconRev : Nat := rk 0x1000 0 0x03
/-- 0x1000:04 SERIAL. -/
abbrev identSerial : Nat := rk 0x1000 0 0x04
/-- 0x1000:05 FW_VERSION. -/
abbrev identFwVersion : Nat := rk 0x1000 0 0x05
/-- 0x1000:06 FW_BANK. -/
abbrev identFwBank : Nat := rk 0x1000 0 0x06
/-- 0x1000:07 FW_OTHER. -/
abbrev identFwOther : Nat := rk 0x1000 0 0x07
/-- 0x1000:08 DICT_VERSION. -/
abbrev identDictVersion : Nat := rk 0x1000 0 0x08
/-- 0x1001:01 CHANNELS. -/
abbrev capabChannels : Nat := rk 0x1001 0 0x01
/-- 0x1001:02 ENABLES. -/
abbrev capabEnables : Nat := rk 0x1001 0 0x02
/-- 0x1001:03 TRIMS. -/
abbrev capabTrims : Nat := rk 0x1001 0 0x03
/-- 0x1001:04 SLICES. -/
abbrev capabSlices : Nat := rk 0x1001 0 0x04
/-- 0x1001:05 PARTITIONS. -/
abbrev capabPartitions : Nat := rk 0x1001 0 0x05
/-- 0x1001:06 ACTION_ENTRIES. -/
abbrev capabActionEntries : Nat := rk 0x1001 0 0x06
/-- 0x1001:07 ACTION_SLOTS. -/
abbrev capabActionSlots : Nat := rk 0x1001 0 0x07
/-- 0x1001:08 CAPTURE_UNITS. -/
abbrev capabCaptureUnits : Nat := rk 0x1001 0 0x08
/-- 0x1001:09 DRAWERS. -/
abbrev capabDrawers : Nat := rk 0x1001 0 0x09
/-- 0x1001:0A STREAMS. -/
abbrev capabStreams : Nat := rk 0x1001 0 0x0A
/-- 0x1001:0B DRIVES. -/
abbrev capabDrives : Nat := rk 0x1001 0 0x0B
/-- 0x1001:0C PS_PORTS. -/
abbrev capabPsPorts : Nat := rk 0x1001 0 0x0C
/-- 0x1002:01 POWER_STATE. -/
abbrev devPowerState : Nat := rk 0x1002 0 0x01
/-- 0x1002:02 DEVICE_TIME. -/
abbrev devDeviceTime : Nat := rk 0x1002 0 0x02
/-- 0x1002:03 MGMT_UP_SINCE. -/
abbrev devMgmtUpSince : Nat := rk 0x1002 0 0x03
/-- 0x1002:04 DEVICE_FLAGS. -/
abbrev devDeviceFlags : Nat := rk 0x1002 0 0x04
/-- 0x1010:01 EVENT_CURSOR. -/
abbrev evEventCursor : Nat := rk 0x1010 0 0x01
/-- 0x1010:02 EVENT_NEXT. -/
abbrev evEventNext : Nat := rk 0x1010 0 0x02
/-- 0x1010:03 NEWEST_ESEQ. -/
abbrev evNewestEseq : Nat := rk 0x1010 0 0x03
/-- 0x1010:04 EVENTS_LOST. -/
abbrev evEventsLost : Nat := rk 0x1010 0 0x04
/-- 0x1010:05 RING_FILL. -/
abbrev evRingFill : Nat := rk 0x1010 0 0x05
/-- 0x1020+p:01 COMMIT. -/
abbrev setsCommit (u : Nat) : Nat := rk 0x1020 u 0x01
/-- 0x1020+p:02 STAGED_COUNT. -/
abbrev setsStagedCount (u : Nat) : Nat := rk 0x1020 u 0x02
/-- 0x1020+p:03 SET_STATE. -/
abbrev setsSetState (u : Nat) : Nat := rk 0x1020 u 0x03
/-- 0x1020+p:04 LAST_STATUS. -/
abbrev setsLastStatus (u : Nat) : Nat := rk 0x1020 u 0x04
/-- 0x1020+p:05 LAST_REPORT. -/
abbrev setsLastReport (u : Nat) : Nat := rk 0x1020 u 0x05
/-- 0x1020+p:06 LAST_TICK. -/
abbrev setsLastTick (u : Nat) : Nat := rk 0x1020 u 0x06
/-- 0x1020+p:07 DISCARDED. -/
abbrev setsDiscarded (u : Nat) : Nat := rk 0x1020 u 0x07
/-- 0x1100:01 ACTIVE_SHELF. -/
abbrev profActiveShelf : Nat := rk 0x1100 0 0x01
/-- 0x1100:02 ACTIVE_ID. -/
abbrev profActiveId : Nat := rk 0x1100 0 0x02
/-- 0x1100:03 PSEL_VALUE. -/
abbrev profPselValue : Nat := rk 0x1100 0 0x03
/-- 0x1100:04 PIN_FOLLOW. -/
abbrev profPinFollow : Nat := rk 0x1100 0 0x04
/-- 0x1100:05 FALLBACK_SHELF. -/
abbrev profFallbackShelf : Nat := rk 0x1100 0 0x05
/-- 0x1100:06 SWITCH. -/
abbrev profSwitch : Nat := rk 0x1100 0 0x06
/-- 0x1100:07 SWITCH_STATE. -/
abbrev profSwitchState : Nat := rk 0x1100 0 0x07
/-- 0x1100:08 COMMIT. -/
abbrev profCommit : Nat := rk 0x1100 0 0x08
/-- 0x1100:09 COMMIT_LEAD. -/
abbrev profCommitLead : Nat := rk 0x1100 0 0x09
/-- 0x1100:0A LAST_COMMIT_STATUS. -/
abbrev profLastCommitStatus : Nat := rk 0x1100 0 0x0A
/-- 0x1100:0B LAST_COMMIT_TICK. -/
abbrev profLastCommitTick : Nat := rk 0x1100 0 0x0B
/-- 0x1100:0C COMMIT_COUNT. -/
abbrev profCommitCount : Nat := rk 0x1100 0 0x0C
/-- 0x1100:0D PSEL_REFUSED. -/
abbrev profPselRefused : Nat := rk 0x1100 0 0x0D
/-- 0x1110+s:01 STATUS. -/
abbrev shelfStatus (u : Nat) : Nat := rk 0x1110 u 0x01
/-- 0x1110+s:02 PROFILE_ID. -/
abbrev shelfProfileId (u : Nat) : Nat := rk 0x1110 u 0x02
/-- 0x1110+s:03 LENGTH. -/
abbrev shelfLength (u : Nat) : Nat := rk 0x1110 u 0x03
/-- 0x1110+s:04 LABEL. -/
abbrev shelfLabel (u : Nat) : Nat := rk 0x1110 u 0x04
/-- 0x1110+s:05 FW_MIN. -/
abbrev shelfFwMin (u : Nat) : Nat := rk 0x1110 u 0x05
/-- 0x1110+s:06 BUILD_RTC. -/
abbrev shelfBuildRtc (u : Nat) : Nat := rk 0x1110 u 0x06
/-- 0x1110+s:07 DEVID_MAP. -/
abbrev shelfDevidMap (u : Nat) : Nat := rk 0x1110 u 0x07
/-- 0x1110+s:08 to :17 COMPAT_P0 to COMPAT_P15. -/
abbrev shelfCompat (u i : Nat) : Nat := rk 0x1110 u (0x08 + i)
/-- 0x1120:01 TARGET_SHELF. -/
abbrev shelfwTargetShelf : Nat := rk 0x1120 0 0x01
/-- 0x1120:02 OFFSET. -/
abbrev shelfwOffset : Nat := rk 0x1120 0 0x02
/-- 0x1120:03 DATA. -/
abbrev shelfwData : Nat := rk 0x1120 0 0x03
/-- 0x1120:04 COMMAND. -/
abbrev shelfwCommand : Nat := rk 0x1120 0 0x04
/-- 0x1180:01 LAST_POWER_UP. -/
abbrev supLastPowerUp : Nat := rk 0x1180 0 0x01
/-- 0x1180:02 LAST_MGMT_RESET. -/
abbrev supLastMgmtReset : Nat := rk 0x1180 0 0x02
/-- 0x1180:03 POWER_UP_COUNT. -/
abbrev supPowerUpCount : Nat := rk 0x1180 0 0x03
/-- 0x1180:04 MGMT_RESET_COUNT. -/
abbrev supMgmtResetCount : Nat := rk 0x1180 0 0x04
/-- 0x1180:05 PLW_COUNT. -/
abbrev supPlwCount : Nat := rk 0x1180 0 0x05
/-- 0x1180:06 VCORE_FAULT_COUNT. -/
abbrev supVcoreFaultCount : Nat := rk 0x1180 0 0x06
/-- 0x1180:07 SUPPLY_FLAGS. -/
abbrev supSupplyFlags : Nat := rk 0x1180 0 0x07
/-- 0x1180:08 RTC. -/
abbrev supRtc : Nat := rk 0x1180 0 0x08
/-- 0x1180:09 RTC_ALARM. -/
abbrev supRtcAlarm : Nat := rk 0x1180 0 0x09
/-- 0x1180:0A START_POLICY. -/
abbrev supStartPolicy : Nat := rk 0x1180 0 0x0A
/-- 0x1180:0B WAKE_MASK. -/
abbrev supWakeMask : Nat := rk 0x1180 0 0x0B
/-- 0x1180:0C LONG_PRESS. -/
abbrev supLongPress : Nat := rk 0x1180 0 0x0C
/-- 0x1180:0D LP_ACTION. -/
abbrev supLpAction : Nat := rk 0x1180 0 0x0D
/-- 0x1180:0E PB_IGNORED. -/
abbrev supPbIgnored : Nat := rk 0x1180 0 0x0E
/-- 0x1180:0F SLEEP. -/
abbrev supSleep : Nat := rk 0x1180 0 0x0F
/-- 0x1180:10 RESET_REQUEST. -/
abbrev supResetRequest : Nat := rk 0x1180 0 0x10
/-- 0x2000+c:01 KIND. -/
abbrev chKind (u : Nat) : Nat := rk 0x2000 u 0x01
/-- 0x2000+c:02 PARTITION. -/
abbrev chPartition (u : Nat) : Nat := rk 0x2000 u 0x02
/-- 0x2000+c:03 DIVIDER. -/
abbrev chDivider (u : Nat) : Nat := rk 0x2000 u 0x03
/-- 0x2000+c:04 NOMINAL. -/
abbrev chNominal (u : Nat) : Nat := rk 0x2000 u 0x04
/-- 0x2000+c:05 UPPER_CODE. -/
abbrev chUpperCode (u : Nat) : Nat := rk 0x2000 u 0x05
/-- 0x2000+c:06 LOWER_CODE. -/
abbrev chLowerCode (u : Nat) : Nat := rk 0x2000 u 0x06
/-- 0x2000+c:07 HYSTERESIS. -/
abbrev chHysteresis (u : Nat) : Nat := rk 0x2000 u 0x07
/-- 0x2000+c:08 DEGLITCH. -/
abbrev chDeglitch (u : Nat) : Nat := rk 0x2000 u 0x08
/-- 0x2000+c:09 UPPER_WARN. -/
abbrev chUpperWarn (u : Nat) : Nat := rk 0x2000 u 0x09
/-- 0x2000+c:0A LOWER_WARN. -/
abbrev chLowerWarn (u : Nat) : Nat := rk 0x2000 u 0x0A
/-- 0x2000+c:0B RAMP_START. -/
abbrev chRampStart (u : Nat) : Nat := rk 0x2000 u 0x0B
/-- 0x2000+c:0C SETTLE_TIME. -/
abbrev chSettleTime (u : Nat) : Nat := rk 0x2000 u 0x0C
/-- 0x2000+c:0D DEADLINE. -/
abbrev chDeadline (u : Nat) : Nat := rk 0x2000 u 0x0D
/-- 0x2000+c:0E ENABLE. -/
abbrev chEnable (u : Nat) : Nat := rk 0x2000 u 0x0E
/-- 0x2000+c:0F ABSENT_EN. -/
abbrev chAbsentEn (u : Nat) : Nat := rk 0x2000 u 0x0F
/-- 0x2000+c:10 SHEDDABLE. -/
abbrev chSheddable (u : Nat) : Nat := rk 0x2000 u 0x10
/-- 0x2000+c:11 TRIM_KIND. -/
abbrev chTrimKind (u : Nat) : Nat := rk 0x2000 u 0x11
/-- 0x2000+c:12 TRIM_ID. -/
abbrev chTrimId (u : Nat) : Nat := rk 0x2000 u 0x12
/-- 0x2000+c:13 COMPANION. -/
abbrev chCompanion (u : Nat) : Nat := rk 0x2000 u 0x13
/-- 0x2000+c:14 CUR_SCALE. -/
abbrev chCurScale (u : Nat) : Nat := rk 0x2000 u 0x14
/-- 0x2000+c:15 CUR_OFFSET. -/
abbrev chCurOffset (u : Nat) : Nat := rk 0x2000 u 0x15
/-- 0x2000+c:20 EN_MODE. -/
abbrev chEnMode (u : Nat) : Nat := rk 0x2000 u 0x20
/-- 0x2000+c:21 EN_POLARITY. -/
abbrev chEnPolarity (u : Nat) : Nat := rk 0x2000 u 0x21
/-- 0x2000+c:22 EN_PARTITION. -/
abbrev chEnPartition (u : Nat) : Nat := rk 0x2000 u 0x22
/-- 0x2200+n:01 WINDOW_MODE. -/
abbrev clWindowMode (u : Nat) : Nat := rk 0x2200 u 0x01
/-- 0x2200+n:02 FREE_WINDOW. -/
abbrev clFreeWindow (u : Nat) : Nat := rk 0x2200 u 0x02
/-- 0x2200+n:03 LOCK_SOURCE. -/
abbrev clLockSource (u : Nat) : Nat := rk 0x2200 u 0x03
/-- 0x2200+n:04 LOCK_PERIODS. -/
abbrev clLockPeriods (u : Nat) : Nat := rk 0x2200 u 0x04
/-- 0x2200+n:05 SYNC_ENABLE. -/
abbrev clSyncEnable (u : Nat) : Nat := rk 0x2200 u 0x05
/-- 0x2200+n:06 SYNC_FREQ. -/
abbrev clSyncFreq (u : Nat) : Nat := rk 0x2200 u 0x06
/-- 0x2200+n:07 SYNC_PHASE. -/
abbrev clSyncPhase (u : Nat) : Nat := rk 0x2200 u 0x07
/-- 0x2200+n:08 EPOCH. -/
abbrev clEpoch (u : Nat) : Nat := rk 0x2200 u 0x08
/-- 0x2200+n:09 OW_OFF_ENABLE. -/
abbrev clOwOffEnable (u : Nat) : Nat := rk 0x2200 u 0x09
/-- 0x2200+n:0A OW_RUN_ENABLE. -/
abbrev clOwRunEnable (u : Nat) : Nat := rk 0x2200 u 0x0A
/-- 0x2200+n:0B WARN_COUNT. -/
abbrev clWarnCount (u : Nat) : Nat := rk 0x2200 u 0x0B
/-- 0x2200+n:0C WARN_HYST. -/
abbrev clWarnHyst (u : Nat) : Nat := rk 0x2200 u 0x0C
/-- 0x2300:01 DISCHARGE_MAP. -/
abbrev fabDischargeMap : Nat := rk 0x2300 0 0x01
/-- 0x2300:02 FLT_PULSE. -/
abbrev fabFltPulse : Nat := rk 0x2300 0 0x02
/-- 0x2300:03 FLT_RX_ENABLE. -/
abbrev fabFltRxEnable : Nat := rk 0x2300 0 0x03
/-- 0x2310+p:01 DISCHARGE_TIME. -/
abbrev shutDischargeTime (u : Nat) : Nat := rk 0x2310 u 0x01
/-- 0x2310+p:02 RETRY_COUNT. -/
abbrev shutRetryCount (u : Nat) : Nat := rk 0x2310 u 0x02
/-- 0x2310+p:03 RETRY_SPACING. -/
abbrev shutRetrySpacing (u : Nat) : Nat := rk 0x2310 u 0x03
/-- 0x2310+p:04 RETRY_RESET. -/
abbrev shutRetryReset (u : Nat) : Nat := rk 0x2310 u 0x04
/-- 0x2310+p:05 RESTART. -/
abbrev shutRestart (u : Nat) : Nat := rk 0x2310 u 0x05
/-- 0x2310+p:06 FORCE_OFF. -/
abbrev shutForceOff (u : Nat) : Nat := rk 0x2310 u 0x06
/-- 0x2400+c:01 STATE. -/
abbrev chsState (u : Nat) : Nat := rk 0x2400 u 0x01
/-- 0x2400+c:02 STATE_SINCE. -/
abbrev chsStateSince (u : Nat) : Nat := rk 0x2400 u 0x02
/-- 0x2400+c:03 RESULT. -/
abbrev chsResult (u : Nat) : Nat := rk 0x2400 u 0x03
/-- 0x2400+c:04 RESULT_TICK. -/
abbrev chsResultTick (u : Nat) : Nat := rk 0x2400 u 0x04
/-- 0x2400+c:05 RAIL_VALUE. -/
abbrev chsRailValue (u : Nat) : Nat := rk 0x2400 u 0x05
/-- 0x2400+c:06 FLAGS. -/
abbrev chsFlags (u : Nat) : Nat := rk 0x2400 u 0x06
/-- 0x2400+c:07 MIN_RESULT. -/
abbrev chsMinResult (u : Nat) : Nat := rk 0x2400 u 0x07
/-- 0x2400+c:08 MAX_RESULT. -/
abbrev chsMaxResult (u : Nat) : Nat := rk 0x2400 u 0x08
/-- 0x2400+c:09 TRIP_COUNT. -/
abbrev chsTripCount (u : Nat) : Nat := rk 0x2400 u 0x09
/-- 0x2400+c:0A LAST_TRIP_TICK. -/
abbrev chsLastTripTick (u : Nat) : Nat := rk 0x2400 u 0x0A
/-- 0x2400+c:0B ABSENT_COUNT. -/
abbrev chsAbsentCount (u : Nat) : Nat := rk 0x2400 u 0x0B
/-- 0x2400+c:0C RECOVER_COUNT. -/
abbrev chsRecoverCount (u : Nat) : Nat := rk 0x2400 u 0x0C
/-- 0x2400+c:0D WINDOW_EXITS. -/
abbrev chsWindowExits (u : Nat) : Nat := rk 0x2400 u 0x0D
/-- 0x2400+c:0E SERVING_SLICE. -/
abbrev chsServingSlice (u : Nat) : Nat := rk 0x2400 u 0x0E
/-- 0x2400+c:0F CLEAR. -/
abbrev chsClear (u : Nat) : Nat := rk 0x2400 u 0x0F
/-- 0x2400+c:20 EN_LEVEL. -/
abbrev chsEnLevel (u : Nat) : Nat := rk 0x2400 u 0x20
/-- 0x2600+n:01 SLICE_MAP. -/
abbrev clsSliceMap (u : Nat) : Nat := rk 0x2600 u 0x01
/-- 0x2600+n:02 SLICE_FLAGS. -/
abbrev clsSliceFlags (u : Nat) : Nat := rk 0x2600 u 0x02
/-- 0x2600+n:03 CLUSTER_FLAGS. -/
abbrev clsClusterFlags (u : Nat) : Nat := rk 0x2600 u 0x03
/-- 0x2600+n:04 EPOCH_COUNT. -/
abbrev clsEpochCount (u : Nat) : Nat := rk 0x2600 u 0x04
/-- 0x2600+n:05 LAST_TOUR_TICK. -/
abbrev clsLastTourTick (u : Nat) : Nat := rk 0x2600 u 0x05
/-- 0x2600+n:06 TOUR_DISAGREE. -/
abbrev clsTourDisagree (u : Nat) : Nat := rk 0x2600 u 0x06
/-- 0x2600+n:07 REF_RESULT. -/
abbrev clsRefResult (u : Nat) : Nat := rk 0x2600 u 0x07
/-- 0x2600+n:08 CHECK_REF_RESULT. -/
abbrev clsCheckRefResult (u : Nat) : Nat := rk 0x2600 u 0x08
/-- 0x2600+n:10 to :17 REFRESH_G0 to REFRESH_G7. -/
abbrev clsRefreshG (u i : Nat) : Nat := rk 0x2600 u (0x10 + i)
/-- 0x2600+n:40 to :7F CHARGE_POS_0 to CHARGE_POS_63. -/
abbrev clsChargePos (u i : Nat) : Nat := rk 0x2600 u (0x40 + i)
/-- 0x2600+n:80 to :BF CHARGE_NEG_0 to CHARGE_NEG_63. -/
abbrev clsChargeNeg (u i : Nat) : Nat := rk 0x2600 u (0x80 + i)
/-- 0x2700:01 SAFE_N_LEVEL. -/
abbrev fabsSafeNLevel : Nat := rk 0x2700 0 0x01
/-- 0x2700:02 FAULTED_MAP. -/
abbrev fabsFaultedMap : Nat := rk 0x2700 0 0x02
/-- 0x2700:03 FABRIC_FAULT. -/
abbrev fabsFabricFault : Nat := rk 0x2700 0 0x03
/-- 0x2700:04 CLK_LOSS_MAP. -/
abbrev fabsClkLossMap : Nat := rk 0x2700 0 0x04
/-- 0x2700:05 CLK_LOSS_COUNT. -/
abbrev fabsClkLossCount : Nat := rk 0x2700 0 0x05
/-- 0x2700:06 FLT_STUCK. -/
abbrev fabsFltStuck : Nat := rk 0x2700 0 0x06
/-- 0x2700:07 to :0A FLT_RX_COUNT0 to FLT_RX_COUNT3. -/
abbrev fabsFltRxCount (i : Nat) : Nat := rk 0x2700 0 (0x07 + i)
/-- 0x2700:0B FLT_TX_COUNT. -/
abbrev fabsFltTxCount : Nat := rk 0x2700 0 0x0B
/-- 0x2700:0C FABRIC_UNTESTED. -/
abbrev fabsFabricUntested : Nat := rk 0x2700 0 0x0C
/-- 0x2710+p:01 SHUTOFF_COUNT. -/
abbrev shutsShutoffCount (u : Nat) : Nat := rk 0x2710 u 0x01
/-- 0x2710+p:02 LAST_SHUTOFF_TICK. -/
abbrev shutsLastShutoffTick (u : Nat) : Nat := rk 0x2710 u 0x02
/-- 0x2710+p:03 LAST_CAUSE. -/
abbrev shutsLastCause (u : Nat) : Nat := rk 0x2710 u 0x03
/-- 0x2710+p:04 RETRIES_USED. -/
abbrev shutsRetriesUsed (u : Nat) : Nat := rk 0x2710 u 0x04
/-- 0x2710+p:05 NEXT_RETRY_TICK. -/
abbrev shutsNextRetryTick (u : Nat) : Nat := rk 0x2710 u 0x05
/-- 0x2710+p:06 LATCH_CLUSTERS. -/
abbrev shutsLatchClusters (u : Nat) : Nat := rk 0x2710 u 0x06
/-- 0x2710+p:07 DISCHARGE_ACTIVE. -/
abbrev shutsDischargeActive (u : Nat) : Nat := rk 0x2710 u 0x07
/-- 0x2800+p:01 ENTRY_BASE. -/
abbrev seqEntryBase (u : Nat) : Nat := rk 0x2800 u 0x01
/-- 0x2800+p:02 ENTRY_COUNT. -/
abbrev seqEntryCount (u : Nat) : Nat := rk 0x2800 u 0x02
/-- 0x2800+p:03 AUTO_START. -/
abbrev seqAutoStart (u : Nat) : Nat := rk 0x2800 u 0x03
/-- 0x2800+p:04 RESTART_MODE. -/
abbrev seqRestartMode (u : Nat) : Nat := rk 0x2800 u 0x04
/-- 0x2800+p:05 DECAY_DEFAULT. -/
abbrev seqDecayDefault (u : Nat) : Nat := rk 0x2800 u 0x05
/-- 0x2800+p:06 HOME_CLUSTER. -/
abbrev seqHomeCluster (u : Nat) : Nat := rk 0x2800 u 0x06
/-- 0x2800+p:07 START. -/
abbrev seqStart (u : Nat) : Nat := rk 0x2800 u 0x07
/-- 0x2800+p:08 STOP. -/
abbrev seqStop (u : Nat) : Nat := rk 0x2800 u 0x08
/-- 0x2820+n:01 UP_GOAL. -/
abbrev grpUpGoal (u : Nat) : Nat := rk 0x2820 u 0x01
/-- 0x2820+n:02 GOAL. -/
abbrev grpGoal (u : Nat) : Nat := rk 0x2820 u 0x02
/-- 0x2840+p:01 PHASE. -/
abbrev seqsPhase (u : Nat) : Nat := rk 0x2840 u 0x01
/-- 0x2840+p:02 MEMBER. -/
abbrev seqsMember (u : Nat) : Nat := rk 0x2840 u 0x02
/-- 0x2840+p:03 POSITION. -/
abbrev seqsPosition (u : Nat) : Nat := rk 0x2840 u 0x03
/-- 0x2840+p:04 ORDER_NOW. -/
abbrev seqsOrderNow (u : Nat) : Nat := rk 0x2840 u 0x04
/-- 0x2840+p:05 START_PENDING. -/
abbrev seqsStartPending (u : Nat) : Nat := rk 0x2840 u 0x05
/-- 0x2840+p:06 ABSENT_NOW. -/
abbrev seqsAbsentNow (u : Nat) : Nat := rk 0x2840 u 0x06
/-- 0x2840+p:07 DEGRADED. -/
abbrev seqsDegraded (u : Nat) : Nat := rk 0x2840 u 0x07
/-- 0x2840+p:08 SLOTS_HELD. -/
abbrev seqsSlotsHeld (u : Nat) : Nat := rk 0x2840 u 0x08
/-- 0x2840+p:09 ACTIONS_WAITING. -/
abbrev seqsActionsWaiting (u : Nat) : Nat := rk 0x2840 u 0x09
/-- 0x2840+p:0A FLAGGED_COUNT. -/
abbrev seqsFlaggedCount (u : Nat) : Nat := rk 0x2840 u 0x0A
/-- 0x2840+p:0B SKIPPED_COUNT. -/
abbrev seqsSkippedCount (u : Nat) : Nat := rk 0x2840 u 0x0B
/-- 0x2840+p:0C SLOT_WAIT_COUNT. -/
abbrev seqsSlotWaitCount (u : Nat) : Nat := rk 0x2840 u 0x0C
/-- 0x2840+p:0D LAST_STEP_TICK. -/
abbrev seqsLastStepTick (u : Nat) : Nat := rk 0x2840 u 0x0D
/-- 0x2860+n:01 STATE. -/
abbrev grpsState (u : Nat) : Nat := rk 0x2860 u 0x01
/-- 0x2860+n:02 RESTING. -/
abbrev grpsResting (u : Nat) : Nat := rk 0x2860 u 0x02
/-- 0x2860+n:03 HOLD_MAP. -/
abbrev grpsHoldMap (u : Nat) : Nat := rk 0x2860 u 0x03
/-- 0x2860+n:04 LAST_ADVANCE_TICK. -/
abbrev grpsLastAdvanceTick (u : Nat) : Nat := rk 0x2860 u 0x04
/-- 0x2880+u:01 PARTITION. -/
abbrev capPartition (u : Nat) : Nat := rk 0x2880 u 0x01
/-- 0x2880+u:02 START_SRC. -/
abbrev capStartSrc (u : Nat) : Nat := rk 0x2880 u 0x02
/-- 0x2880+u:03 START_TARGET. -/
abbrev capStartTarget (u : Nat) : Nat := rk 0x2880 u 0x03
/-- 0x2880+u:04 START_LEVEL. -/
abbrev capStartLevel (u : Nat) : Nat := rk 0x2880 u 0x04
/-- 0x2880+u:05 STOP_SRC. -/
abbrev capStopSrc (u : Nat) : Nat := rk 0x2880 u 0x05
/-- 0x2880+u:06 STOP_TARGET. -/
abbrev capStopTarget (u : Nat) : Nat := rk 0x2880 u 0x06
/-- 0x2880+u:07 STOP_LEVEL. -/
abbrev capStopLevel (u : Nat) : Nat := rk 0x2880 u 0x07
/-- 0x2880+u:08 LIMIT. -/
abbrev capLimit (u : Nat) : Nat := rk 0x2880 u 0x08
/-- 0x2880+u:09 ARM. -/
abbrev capArm (u : Nat) : Nat := rk 0x2880 u 0x09
/-- 0x28C0+u:01 OUTCOME. -/
abbrev capsOutcome (u : Nat) : Nat := rk 0x28C0 u 0x01
/-- 0x28C0+u:02 DURATION. -/
abbrev capsDuration (u : Nat) : Nat := rk 0x28C0 u 0x02
/-- 0x28C0+u:03 START_TICK. -/
abbrev capsStartTick (u : Nat) : Nat := rk 0x28C0 u 0x03
/-- 0x28C0+u:04 STOP_TICK. -/
abbrev capsStopTick (u : Nat) : Nat := rk 0x28C0 u 0x04
/-- 0x28C0+u:05 COARSE. -/
abbrev capsCoarse (u : Nat) : Nat := rk 0x28C0 u 0x05
/-- ENTRY, unit e: 0x2A00 + e / 16, sub-index 1 + e mod 16. -/
abbrev actEntry (e : Nat) : Nat := rk 0x2A00 e 1
/-- 0x2B00:01 to :08 FREE_CL0 to FREE_CL7. -/
abbrev poolFreeCl (i : Nat) : Nat := rk 0x2B00 0 (0x01 + i)
/-- 0x2B00:09 WAITING_TOTAL. -/
abbrev poolWaitingTotal : Nat := rk 0x2B00 0 0x09
/-- 0x3000+p:01 DEFINED. -/
abbrev partDefined (u : Nat) : Nat := rk 0x3000 u 0x01
/-- 0x3000+p:02 STEP_GROUP. -/
abbrev partStepGroup (u : Nat) : Nat := rk 0x3000 u 0x02
/-- 0x3000+p:03 DEVICE_MAP. -/
abbrev partDeviceMap (u : Nat) : Nat := rk 0x3000 u 0x03
/-- 0x3000+p:04 LEDGER_EXCLUDE. -/
abbrev partLedgerExclude (u : Nat) : Nat := rk 0x3000 u 0x04
/-- 0x3000+p:05 RELIEF_GRACE. -/
abbrev partReliefGrace (u : Nat) : Nat := rk 0x3000 u 0x05
/-- 0x3000+p:06 THERMAL_GRACE. -/
abbrev partThermalGrace (u : Nat) : Nat := rk 0x3000 u 0x06
/-- 0x3000+p:07 STEP_DWELL. -/
abbrev partStepDwell (u : Nat) : Nat := rk 0x3000 u 0x07
/-- 0x3000+p:08 to :0B ENFORCE_STEP1 to ENFORCE_STEP4. -/
abbrev partEnforceStep (u i : Nat) : Nat := rk 0x3000 u (0x08 + i)
/-- 0x3000+p:0C TRIM_MARGIN. -/
abbrev partTrimMargin (u : Nat) : Nat := rk 0x3000 u 0x0C
/-- 0x3000+p:0D LOWER_STATE. -/
abbrev partLowerState (u : Nat) : Nat := rk 0x3000 u 0x0D
/-- 0x3000+p:0E RELEASE_MARGIN. -/
abbrev partReleaseMargin (u : Nat) : Nat := rk 0x3000 u 0x0E
/-- 0x3000+p:0F RELEASE_TIME. -/
abbrev partReleaseTime (u : Nat) : Nat := rk 0x3000 u 0x0F
/-- 0x3000+p:10 NAME. -/
abbrev partName (u : Nat) : Nat := rk 0x3000 u 0x10
/-- 0x3020+p:01 STATE. -/
abbrev partsState (u : Nat) : Nat := rk 0x3020 u 0x01
/-- 0x3020+p:02 STATE_SINCE. -/
abbrev partsStateSince (u : Nat) : Nat := rk 0x3020 u 0x02
/-- 0x3020+p:03 RELIEF_LEVEL. -/
abbrev partsReliefLevel (u : Nat) : Nat := rk 0x3020 u 0x03
/-- 0x3020+p:04 RELIEF_CAUSE. -/
abbrev partsReliefCause (u : Nat) : Nat := rk 0x3020 u 0x04
/-- 0x3020+p:05 GRACE_END. -/
abbrev partsGraceEnd (u : Nat) : Nat := rk 0x3020 u 0x05
/-- 0x3020+p:06 DEMAND_POWER. -/
abbrev partsDemandPower (u : Nat) : Nat := rk 0x3020 u 0x06
/-- 0x3020+p:07 RECENT_POWER. -/
abbrev partsRecentPower (u : Nat) : Nat := rk 0x3020 u 0x07
/-- 0x3020+p:08 REQ_REFUSED. -/
abbrev partsReqRefused (u : Nat) : Nat := rk 0x3020 u 0x08
/-- 0x3020+p:09 STREAMS_PAUSED. -/
abbrev partsStreamsPaused (u : Nat) : Nat := rk 0x3020 u 0x09
/-- 0x3020+p:0A RELIEF_COUNT. -/
abbrev partsReliefCount (u : Nat) : Nat := rk 0x3020 u 0x0A
/-- 0x3020+p:0B ENFORCE_COUNT. -/
abbrev partsEnforceCount (u : Nat) : Nat := rk 0x3020 u 0x0B
/-- 0x3040:01 to :04 PAIR0 to PAIR3. -/
abbrev lanePair (i : Nat) : Nat := rk 0x3040 0 (0x01 + i)
/-- 0x3048:01 to :04 PAIR_FLAGS0 to PAIR_FLAGS3. -/
abbrev lanesPairFlags (i : Nat) : Nat := rk 0x3048 0 (0x01 + i)
/-- 0x3100:01 DEMAND_INTERVAL. -/
abbrev ledDemandInterval : Nat := rk 0x3100 0 0x01
/-- 0x3100:02 ACTIVE_TABLE. -/
abbrev ledActiveTable : Nat := rk 0x3100 0 0x02
/-- 0x3100:03 TABLE_SELECT. -/
abbrev ledTableSelect : Nat := rk 0x3100 0 0x03
/-- 0x3100:04 SCHEDULE_ENABLE. -/
abbrev ledScheduleEnable : Nat := rk 0x3100 0 0x04
/-- 0x3100:05 LEDGER_ENABLE. -/
abbrev ledLedgerEnable : Nat := rk 0x3100 0 0x05
/-- 0x3100:06 RECORD_SELECT. -/
abbrev ledRecordSelect : Nat := rk 0x3100 0 0x06
/-- 0x3100:07 RECORD. -/
abbrev ledRecord : Nat := rk 0x3100 0 0x07
/-- 0x3110+k:01 to :10 POWER_BUDGET_P0 to _P15. -/
abbrev budPowerBudget (u i : Nat) : Nat := rk 0x3110 u (0x01 + i)
/-- 0x3110+k:11 to :20 SLOT_QUOTA_P0 to _P15. -/
abbrev budSlotQuota (u i : Nat) : Nat := rk 0x3110 u (0x11 + i)
/-- 0x3110+k:21 to :30 TELEM_RATE_P0 to _P15. -/
abbrev budTelemRate (u i : Nat) : Nat := rk 0x3110 u (0x21 + i)
/-- 0x3110+k:31 to :40 REQ_RATE_P0 to _P15. -/
abbrev budReqRate (u i : Nat) : Nat := rk 0x3110 u (0x31 + i)
/-- 0x3120:01 to :10 SCHED_0 to SCHED_15. -/
abbrev schedSched (i : Nat) : Nat := rk 0x3120 0 (0x01 + i)
/-- 0x3140+p:01 ENERGY_IN. -/
abbrev ledsEnergyIn (u : Nat) : Nat := rk 0x3140 u 0x01
/-- 0x3140+p:02 ENERGY_OUT. -/
abbrev ledsEnergyOut (u : Nat) : Nat := rk 0x3140 u 0x02
/-- 0x3140+p:03 INTERVAL_IN. -/
abbrev ledsIntervalIn (u : Nat) : Nat := rk 0x3140 u 0x03
/-- 0x3140+p:04 INTERVAL_START. -/
abbrev ledsIntervalStart (u : Nat) : Nat := rk 0x3140 u 0x04
/-- 0x3140+p:05 LAST_SEQ. -/
abbrev ledsLastSeq (u : Nat) : Nat := rk 0x3140 u 0x05
/-- 0x3140+p:06 TRUNCATED_COUNT. -/
abbrev ledsTruncatedCount (u : Nat) : Nat := rk 0x3140 u 0x06
/-- 0x3400+t:01 RTOP. -/
abbrev trmRtop (u : Nat) : Nat := rk 0x3400 u 0x01
/-- 0x3400+t:02 CODE_MIN. -/
abbrev trmCodeMin (u : Nat) : Nat := rk 0x3400 u 0x02
/-- 0x3400+t:03 CODE_MAX. -/
abbrev trmCodeMax (u : Nat) : Nat := rk 0x3400 u 0x03
/-- 0x3400+t:04 SLEW_LIMIT. -/
abbrev trmSlewLimit (u : Nat) : Nat := rk 0x3400 u 0x04
/-- 0x3400+t:05 KI. -/
abbrev trmKi (u : Nat) : Nat := rk 0x3400 u 0x05
/-- 0x3400+t:06 CODE_NOW. -/
abbrev trmCodeNow (u : Nat) : Nat := rk 0x3400 u 0x06
/-- 0x3400+t:07 LOOP_STATE. -/
abbrev trmLoopState (u : Nat) : Nat := rk 0x3400 u 0x07
/-- 0x3400+t:08 SAT_COUNT. -/
abbrev trmSatCount (u : Nat) : Nat := rk 0x3400 u 0x08
/-- 0x3480+n:01 PMBUS_PERIOD. -/
abbrev psTrimPmbusPeriod (u : Nat) : Nat := rk 0x3480 u 0x01
/-- 0x3480+n:02 PMBUS_STEP_MAX. -/
abbrev psTrimPmbusStepMax (u : Nat) : Nat := rk 0x3480 u 0x02
/-- 0x3480+n:03 SWEEP_OWNER. -/
abbrev psTrimSweepOwner (u : Nat) : Nat := rk 0x3480 u 0x03
/-- 0x3480+n:04 SWEEPS_WAITING. -/
abbrev psTrimSweepsWaiting (u : Nat) : Nat := rk 0x3480 u 0x04
/-- 0x3480+n:05 NACK_COUNT. -/
abbrev psTrimNackCount (u : Nat) : Nat := rk 0x3480 u 0x05
/-- HELD_SETPOINT, unit e: 0x3490 + e / 16, sub-index 1 + e mod 16. -/
abbrev heldHeldSetpoint (e : Nat) : Nat := rk 0x3490 e 1
/-- SETPOINT_NOW, unit e: 0x34B0 + e / 16, sub-index 1 + e mod 16. -/
abbrev setpSetpointNow (e : Nat) : Nat := rk 0x34B0 e 1
/-- 0x34D0:01 GUARD. -/
abbrev mgnGuard : Nat := rk 0x34D0 0 0x01
/-- 0x34D0:02 SET_TOL. -/
abbrev mgnSetTol : Nat := rk 0x34D0 0 0x02
/-- 0x34D0:03 SET_COUNT. -/
abbrev mgnSetCount : Nat := rk 0x34D0 0 0x03
/-- 0x34E0+p:01 CHANNEL. -/
abbrev benchChannel (u : Nat) : Nat := rk 0x34E0 u 0x01
/-- 0x34E0+p:02 MODE. -/
abbrev benchMode (u : Nat) : Nat := rk 0x34E0 u 0x02
/-- 0x34E0+p:03 SIDES. -/
abbrev benchSides (u : Nat) : Nat := rk 0x34E0 u 0x03
/-- 0x34E0+p:04 STEP. -/
abbrev benchStep (u : Nat) : Nat := rk 0x34E0 u 0x04
/-- 0x34E0+p:05 DWELL. -/
abbrev benchDwell (u : Nat) : Nat := rk 0x34E0 u 0x05
/-- 0x34E0+p:06 VERDICT_TIMEOUT. -/
abbrev benchVerdictTimeout (u : Nat) : Nat := rk 0x34E0 u 0x06
/-- 0x34E0+p:07 WATCH_CH. -/
abbrev benchWatchCh (u : Nat) : Nat := rk 0x34E0 u 0x07
/-- 0x34E0+p:08 WATCH_LOW. -/
abbrev benchWatchLow (u : Nat) : Nat := rk 0x34E0 u 0x08
/-- 0x34E0+p:09 WATCH_HIGH. -/
abbrev benchWatchHigh (u : Nat) : Nat := rk 0x34E0 u 0x09
/-- 0x34E0+p:0A COMMAND. -/
abbrev benchCommand (u : Nat) : Nat := rk 0x34E0 u 0x0A
/-- 0x34E0+p:0B VERDICT. -/
abbrev benchVerdict (u : Nat) : Nat := rk 0x34E0 u 0x0B
/-- 0x34E0+p:0C STATUS. -/
abbrev benchStatus (u : Nat) : Nat := rk 0x34E0 u 0x0C
/-- 0x34E0+p:0D STEP_NOW. -/
abbrev benchStepNow (u : Nat) : Nat := rk 0x34E0 u 0x0D
/-- 0x34E0+p:0E EDGE_HIGH. -/
abbrev benchEdgeHigh (u : Nat) : Nat := rk 0x34E0 u 0x0E
/-- 0x34E0+p:0F EDGE_LOW. -/
abbrev benchEdgeLow (u : Nat) : Nat := rk 0x34E0 u 0x0F
/-- 0x34E0+p:10 HIGH_REASON. -/
abbrev benchHighReason (u : Nat) : Nat := rk 0x34E0 u 0x10
/-- 0x34E0+p:11 LOW_REASON. -/
abbrev benchLowReason (u : Nat) : Nat := rk 0x34E0 u 0x11
/-- 0x34E0+p:12 ABORT_REASON. -/
abbrev benchAbortReason (u : Nat) : Nat := rk 0x34E0 u 0x12
/-- 0x34E0+p:13 MARGIN_SET. -/
abbrev benchMarginSet (u : Nat) : Nat := rk 0x34E0 u 0x13
/-- 0x34E0+p:14 MARGIN_OFFSET. -/
abbrev benchMarginOffset (u : Nat) : Nat := rk 0x34E0 u 0x14
/-- 0x34E0+p:15 MARGIN_APPLY. -/
abbrev benchMarginApply (u : Nat) : Nat := rk 0x34E0 u 0x15
/-- 0x34F0:01 ACTIVE. -/
abbrev maintActive : Nat := rk 0x34F0 0 0x01
/-- 0x34F0:02 WAITING. -/
abbrev maintWaiting : Nat := rk 0x34F0 0 0x02
/-- 0x34F0:03 REFUSED_COUNT. -/
abbrev maintRefusedCount : Nat := rk 0x34F0 0 0x03
/-- 0x3800:01 HOT_SHUT. -/
abbrev thHotShut : Nat := rk 0x3800 0 0x01
/-- 0x3800:02 HOT_RELIEF. -/
abbrev thHotRelief : Nat := rk 0x3800 0 0x02
/-- 0x3800:03 HOT_WARN. -/
abbrev thHotWarn : Nat := rk 0x3800 0 0x03
/-- 0x3800:04 COLD_WARN. -/
abbrev thColdWarn : Nat := rk 0x3800 0 0x04
/-- 0x3800:05 COLD_INHIBIT. -/
abbrev thColdInhibit : Nat := rk 0x3800 0 0x05
/-- 0x3800:06 HYSTERESIS. -/
abbrev thHysteresis : Nat := rk 0x3800 0 0x06
/-- 0x3800:07 SHUT_MAP. -/
abbrev thShutMap : Nat := rk 0x3800 0 0x07
/-- 0x3800:08 RELIEF_MAP. -/
abbrev thReliefMap : Nat := rk 0x3800 0 0x08
/-- 0x3800:09 COLD_HOLD_MAP. -/
abbrev thColdHoldMap : Nat := rk 0x3800 0 0x09
/-- 0x3800:0A BOOST_MAP. -/
abbrev thBoostMap : Nat := rk 0x3800 0 0x0A
/-- 0x3800:0B BOOST_SPEED. -/
abbrev thBoostSpeed : Nat := rk 0x3800 0 0x0B
/-- 0x3800:0C DRIVE_WAIT. -/
abbrev thDriveWait : Nat := rk 0x3800 0 0x0C
/-- 0x3800:0D SUSPECT_LIMIT. -/
abbrev thSuspectLimit : Nat := rk 0x3800 0 0x0D
/-- 0x3800:0E SUSPECT_TIME. -/
abbrev thSuspectTime : Nat := rk 0x3800 0 0x0E
/-- 0x3810:01 to :08 NEIGHBOUR_0 to NEIGHBOUR_7. -/
abbrev thnNeighbour (i : Nat) : Nat := rk 0x3810 0 (0x01 + i)
/-- 0x3820:01 TEMP. -/
abbrev thsTemp : Nat := rk 0x3820 0 0x01
/-- 0x3820:02 OWN_TEMP. -/
abbrev thsOwnTemp : Nat := rk 0x3820 0 0x02
/-- 0x3820:03 MEDIAN. -/
abbrev thsMedian : Nat := rk 0x3820 0 0x03
/-- 0x3820:04 LIMIT_STATE. -/
abbrev thsLimitState : Nat := rk 0x3820 0 0x04
/-- 0x3820:05 THERM_FLAGS. -/
abbrev thsThermFlags : Nat := rk 0x3820 0 0x05
/-- 0x3820:06 NEIGH_FRESH. -/
abbrev thsNeighFresh : Nat := rk 0x3820 0 0x06
/-- 0x3820:07 SAMPLE_TICK. -/
abbrev thsSampleTick : Nat := rk 0x3820 0 0x07
/-- 0x3820:08 CHANGE_COUNT. -/
abbrev thsChangeCount : Nat := rk 0x3820 0 0x08
/-- 0x3820:09 MAX_TEMP. -/
abbrev thsMaxTemp : Nat := rk 0x3820 0 0x09
/-- 0x3820:0A MIN_TEMP. -/
abbrev thsMinTemp : Nat := rk 0x3820 0 0x0A
/-- 0x3820:0B SUSPECT_COUNT. -/
abbrev thsSuspectCount : Nat := rk 0x3820 0 0x0B
/-- 0x4000:01 MODE. -/
abbrev logMode : Nat := rk 0x4000 0 0x01
/-- 0x4000:02 COMMAND. -/
abbrev logCommand : Nat := rk 0x4000 0 0x02
/-- 0x4001:01 WRITE_POS. -/
abbrev logsWritePos : Nat := rk 0x4001 0 0x01
/-- 0x4001:02 OCCUPIED. -/
abbrev logsOccupied : Nat := rk 0x4001 0 0x02
/-- 0x4001:03 LAST_SEQ. -/
abbrev logsLastSeq : Nat := rk 0x4001 0 0x03
/-- 0x4001:04 STAGED. -/
abbrev logsStaged : Nat := rk 0x4001 0 0x04
/-- 0x4001:05 STAGE_OVERFLOW. -/
abbrev logsStageOverflow : Nat := rk 0x4001 0 0x05
/-- 0x4001:06 OVERFLOW_COUNT. -/
abbrev logsOverflowCount : Nat := rk 0x4001 0 0x06
/-- 0x4001:07 LATE_ENTRY_COUNT. -/
abbrev logsLateEntryCount : Nat := rk 0x4001 0 0x07
/-- 0x4001:08 TORN_COUNT. -/
abbrev logsTornCount : Nat := rk 0x4001 0 0x08
/-- 0x4001:09 TAG_FAIL_COUNT. -/
abbrev logsTagFailCount : Nat := rk 0x4001 0 0x09
/-- 0x4001:0A DAMAGED_COUNT. -/
abbrev logsDamagedCount : Nat := rk 0x4001 0 0x0A
/-- 0x4001:0B COMMAND_STATE. -/
abbrev logsCommandState : Nat := rk 0x4001 0 0x0B
/-- 0x4001:0C LAST_VERIFY_TICK. -/
abbrev logsLastVerifyTick : Nat := rk 0x4001 0 0x0C
/-- 0x4010+p:01 DRAWERS. -/
abbrev logpDrawers (u : Nat) : Nat := rk 0x4010 u 0x01
/-- 0x4010+p:02 LAST_DRAWER. -/
abbrev logpLastDrawer (u : Nat) : Nat := rk 0x4010 u 0x02
/-- 0x4010+p:03 LAST_PSEQ. -/
abbrev logpLastPseq (u : Nat) : Nat := rk 0x4010 u 0x03
/-- 0x4010+p:04 ACK_SEQ. -/
abbrev logpAckSeq (u : Nat) : Nat := rk 0x4010 u 0x04
/-- 0x4010+p:05 P_OVERFLOW. -/
abbrev logpPOverflow (u : Nat) : Nat := rk 0x4010 u 0x05
/-- DRAWER, unit e: 0x4100 + e / 16, sub-index 1 + e mod 16. -/
abbrev drwDrawer (e : Nat) : Nat := rk 0x4100 e 1
/-- READ_STATUS, unit e: 0x4140 + e / 16, sub-index 1 + e mod 16. -/
abbrev drwsReadStatus (e : Nat) : Nat := rk 0x4140 e 1
/-- 0x4800+n:01 ENABLE. -/
abbrev psEnable (u : Nat) : Nat := rk 0x4800 u 0x01
/-- 0x4800+n:02 SPEED. -/
abbrev psSpeed (u : Nat) : Nat := rk 0x4800 u 0x02
/-- 0x4800+n:03 ALERT_ENABLE. -/
abbrev psAlertEnable (u : Nat) : Nat := rk 0x4800 u 0x03
/-- 0x4808+n:01 PORT_STATE. -/
abbrev pssPortState (u : Nat) : Nat := rk 0x4808 u 0x01
/-- 0x4808+n:02 TURNS. -/
abbrev pssTurns (u : Nat) : Nat := rk 0x4808 u 0x02
/-- 0x4808+n:03 BUS_ERR_COUNT. -/
abbrev pssBusErrCount (u : Nat) : Nat := rk 0x4808 u 0x03
/-- 0x4808+n:04 STRETCH_COUNT. -/
abbrev pssStretchCount (u : Nat) : Nat := rk 0x4808 u 0x04
/-- 0x4808+n:05 STUCK_COUNT. -/
abbrev pssStuckCount (u : Nat) : Nat := rk 0x4808 u 0x05
/-- 0x4808+n:06 ALERT_COUNT. -/
abbrev pssAlertCount (u : Nat) : Nat := rk 0x4808 u 0x06
/-- 0x4808+n:07 ALERT_UNKNOWN. -/
abbrev pssAlertUnknown (u : Nat) : Nat := rk 0x4808 u 0x07
/-- 0x4808+n:08 PEC_ERR_COUNT. -/
abbrev pssPecErrCount (u : Nat) : Nat := rk 0x4808 u 0x08
/-- 0x4810:01 SVC_BASE. -/
abbrev svcSvcBase : Nat := rk 0x4810 0 0x01
/-- 0x4810:02 SVC_WINDOWS. -/
abbrev svcSvcWindows : Nat := rk 0x4810 0 0x02
/-- 0x4810:03 ATTN_ENABLE. -/
abbrev svcAttnEnable : Nat := rk 0x4810 0 0x03
/-- 0x4810:04 ATTN_REPEAT. -/
abbrev svcAttnRepeat : Nat := rk 0x4810 0 0x04
/-- 0x4810:05 SERVICE_FORM. -/
abbrev svcServiceForm : Nat := rk 0x4810 0 0x05
/-- 0x4811:01 SVC_IGNORED. -/
abbrev svcsSvcIgnored : Nat := rk 0x4811 0 0x01
/-- 0x4811:02 SVC_CRC_ERR. -/
abbrev svcsSvcCrcErr : Nat := rk 0x4811 0 0x02
/-- 0x4811:03 SVC_ATTN_COUNT. -/
abbrev svcsSvcAttnCount : Nat := rk 0x4811 0 0x03
/-- 0x4818:01 PEER_SPEED. -/
abbrev peerPeerSpeed : Nat := rk 0x4818 0 0x01
/-- 0x4818:02 PEER_ADDR_BASE. -/
abbrev peerPeerAddrBase : Nat := rk 0x4818 0 0x02
/-- 0x4819:01 ARB_LOST_COUNT. -/
abbrev peersArbLostCount : Nat := rk 0x4819 0 0x01
/-- 0x4819:02 PEER_DROP. -/
abbrev peersPeerDrop : Nat := rk 0x4819 0 0x02
/-- 0x4819:03 PEER_REQ_COUNT. -/
abbrev peersPeerReqCount : Nat := rk 0x4819 0 0x03
/-- ENTRY, unit e: 0x4820 + e / 16, sub-index 1 + e mod 16. -/
abbrev tgtEntry (e : Nat) : Nat := rk 0x4820 e 1
/-- ESTAT, unit e: 0x4840 + e / 16, sub-index 1 + e mod 16. -/
abbrev tgtsEstat (e : Nat) : Nat := rk 0x4840 e 1
/-- 0x5000+n:01 ENABLE. -/
abbrev drvEnable (u : Nat) : Nat := rk 0x5000 u 0x01
/-- 0x5000+n:02 PARTITION. -/
abbrev drvPartition (u : Nat) : Nat := rk 0x5000 u 0x02
/-- 0x5000+n:03 CARRIER_FREQ. -/
abbrev drvCarrierFreq (u : Nat) : Nat := rk 0x5000 u 0x03
/-- 0x5000+n:04 CARRIER_SOURCE. -/
abbrev drvCarrierSource (u : Nat) : Nat := rk 0x5000 u 0x04
/-- 0x5000+n:05 CARRIER_PHASE. -/
abbrev drvCarrierPhase (u : Nat) : Nat := rk 0x5000 u 0x05
/-- 0x5000+n:06 to :09 CUR_U, CUR_V, CUR_W, CUR_DC. -/
abbrev drvCur (u i : Nat) : Nat := rk 0x5000 u (0x06 + i)
/-- 0x5000+n:0A DEAD_TIME. -/
abbrev drvDeadTime (u : Nat) : Nat := rk 0x5000 u 0x0A
/-- 0x5000+n:0B MIN_PULSE. -/
abbrev drvMinPulse (u : Nat) : Nat := rk 0x5000 u 0x0B
/-- 0x5000+n:0C PHASE_SCALE. -/
abbrev drvPhaseScale (u : Nat) : Nat := rk 0x5000 u 0x0C
/-- 0x5000+n:0D PHASE_OFFSET. -/
abbrev drvPhaseOffset (u : Nat) : Nat := rk 0x5000 u 0x0D
/-- 0x5000+n:0E CTRL_MODE. -/
abbrev drvCtrlMode (u : Nat) : Nat := rk 0x5000 u 0x0E
/-- 0x5000+n:0F POLE_PAIRS. -/
abbrev drvPolePairs (u : Nat) : Nat := rk 0x5000 u 0x0F
/-- 0x5000+n:10 ANGLE_OFFSET. -/
abbrev drvAngleOffset (u : Nat) : Nat := rk 0x5000 u 0x10
/-- 0x5000+n:11 POS_BITS. -/
abbrev drvPosBits (u : Nat) : Nat := rk 0x5000 u 0x11
/-- 0x5000+n:12 POS_STATUS_BITS. -/
abbrev drvPosStatusBits (u : Nat) : Nat := rk 0x5000 u 0x12
/-- 0x5000+n:13 POS_CODE. -/
abbrev drvPosCode (u : Nat) : Nat := rk 0x5000 u 0x13
/-- 0x5000+n:14 POS_PARITY. -/
abbrev drvPosParity (u : Nat) : Nat := rk 0x5000 u 0x14
/-- 0x5000+n:15 POS_CLK. -/
abbrev drvPosClk (u : Nat) : Nat := rk 0x5000 u 0x15
/-- 0x5000+n:16 POS_PERIOD. -/
abbrev drvPosPeriod (u : Nat) : Nat := rk 0x5000 u 0x16
/-- 0x5000+n:17 POS_STATUS_MASK. -/
abbrev drvPosStatusMask (u : Nat) : Nat := rk 0x5000 u 0x17
/-- 0x5000+n:18 COUNTS_REV. -/
abbrev drvCountsRev (u : Nat) : Nat := rk 0x5000 u 0x18
/-- 0x5000+n:19 CUR_KP. -/
abbrev drvCurKp (u : Nat) : Nat := rk 0x5000 u 0x19
/-- 0x5000+n:1A CUR_KI. -/
abbrev drvCurKi (u : Nat) : Nat := rk 0x5000 u 0x1A
/-- 0x5000+n:1B CUR_LIMIT. -/
abbrev drvCurLimit (u : Nat) : Nat := rk 0x5000 u 0x1B
/-- 0x5000+n:1C SPEED_KP. -/
abbrev drvSpeedKp (u : Nat) : Nat := rk 0x5000 u 0x1C
/-- 0x5000+n:1D SPEED_KI. -/
abbrev drvSpeedKi (u : Nat) : Nat := rk 0x5000 u 0x1D
/-- 0x5000+n:1E SPEED_WINDOW. -/
abbrev drvSpeedWindow (u : Nat) : Nat := rk 0x5000 u 0x1E
/-- 0x5000+n:1F STALL_TIME. -/
abbrev drvStallTime (u : Nat) : Nat := rk 0x5000 u 0x1F
/-- 0x5000+n:20 RUN_ON_UP. -/
abbrev drvRunOnUp (u : Nat) : Nat := rk 0x5000 u 0x20
/-- 0x5010+n:01 RUN. -/
abbrev drvcRun (u : Nat) : Nat := rk 0x5010 u 0x01
/-- 0x5010+n:02 DUTY_SET. -/
abbrev drvcDutySet (u : Nat) : Nat := rk 0x5010 u 0x02
/-- 0x5010+n:03 CURRENT_SET. -/
abbrev drvcCurrentSet (u : Nat) : Nat := rk 0x5010 u 0x03
/-- 0x5010+n:04 SPEED_SET. -/
abbrev drvcSpeedSet (u : Nat) : Nat := rk 0x5010 u 0x04
/-- 0x5010+n:05 CLEAR_FAULT. -/
abbrev drvcClearFault (u : Nat) : Nat := rk 0x5010 u 0x05
/-- 0x5020+n:01 DRV_STATE. -/
abbrev drvsDrvState (u : Nat) : Nat := rk 0x5020 u 0x01
/-- 0x5020+n:02 FAULT_CAUSE. -/
abbrev drvsFaultCause (u : Nat) : Nat := rk 0x5020 u 0x02
/-- 0x5020+n:03 SPEED. -/
abbrev drvsSpeed (u : Nat) : Nat := rk 0x5020 u 0x03
/-- 0x5020+n:04 SPEED_FLAGS. -/
abbrev drvsSpeedFlags (u : Nat) : Nat := rk 0x5020 u 0x04
/-- 0x5020+n:05 POSITION. -/
abbrev drvsPosition (u : Nat) : Nat := rk 0x5020 u 0x05
/-- 0x5020+n:06 REVS. -/
abbrev drvsRevs (u : Nat) : Nat := rk 0x5020 u 0x06
/-- 0x5020+n:07 RAW_POS. -/
abbrev drvsRawPos (u : Nat) : Nat := rk 0x5020 u 0x07
/-- 0x5020+n:08 IQ. -/
abbrev drvsIq (u : Nat) : Nat := rk 0x5020 u 0x08
/-- 0x5020+n:09 ID. -/
abbrev drvsId (u : Nat) : Nat := rk 0x5020 u 0x09
/-- 0x5020+n:0A LAST_POS_TICK. -/
abbrev drvsLastPosTick (u : Nat) : Nat := rk 0x5020 u 0x0A
/-- 0x5020+n:0B POS_ERR_COUNT. -/
abbrev drvsPosErrCount (u : Nat) : Nat := rk 0x5020 u 0x0B
/-- 0x5020+n:0C FAULT_COUNT. -/
abbrev drvsFaultCount (u : Nat) : Nat := rk 0x5020 u 0x0C
/-- 0x5020+n:0D MOD_INDEX. -/
abbrev drvsModIndex (u : Nat) : Nat := rk 0x5020 u 0x0D
/-- 0x5800:01 SESSION_IDLE. -/
abbrev dapSessionIdle : Nat := rk 0x5800 0 0x01
/-- 0x5800:02 SEG_TIMEOUT. -/
abbrev dapSegTimeout : Nat := rk 0x5800 0 0x02
/-- 0x5800:03 RESP_CACHE_TIME. -/
abbrev dapRespCacheTime : Nat := rk 0x5800 0 0x03
/-- 0x5801:01 SESSIONS_OPEN. -/
abbrev dapsSessionsOpen : Nat := rk 0x5801 0 0x01
/-- 0x5801:02 DISCARD_COUNT. -/
abbrev dapsDiscardCount : Nat := rk 0x5801 0 0x02
/-- 0x5801:03 SEG_ERR_COUNT. -/
abbrev dapsSegErrCount : Nat := rk 0x5801 0 0x03
/-- 0x5801:04 TAG_FAIL_COUNT. -/
abbrev dapsTagFailCount : Nat := rk 0x5801 0 0x04
/-- 0x5801:05 FRESH_FAIL_COUNT. -/
abbrev dapsFreshFailCount : Nat := rk 0x5801 0 0x05
/-- 0x5801:06 DUP_COUNT. -/
abbrev dapsDupCount : Nat := rk 0x5801 0 0x06
/-- 0x5801:07 DUP_CONFLICT_COUNT. -/
abbrev dapsDupConflictCount : Nat := rk 0x5801 0 0x07
/-- 0x5801:08 REFUSAL_DROPPED. -/
abbrev dapsRefusalDropped : Nat := rk 0x5801 0 0x08
/-- 0x5808:01 to :11 FRESH_LAST_00 to _10. -/
abbrev frLastFreshLast (i : Nat) : Nat := rk 0x5808 0 (0x01 + i)
/-- 0x5809:01 to :11 FRESH_TX_00 to _10. -/
abbrev frTxFreshTx (i : Nat) : Nat := rk 0x5809 0 (0x01 + i)
/-- 0x5810+k:01 ENABLE. -/
abbrev canEnable (u : Nat) : Nat := rk 0x5810 u 0x01
/-- 0x5810+k:02 NOM_RATE. -/
abbrev canNomRate (u : Nat) : Nat := rk 0x5810 u 0x02
/-- 0x5810+k:03 DATA_RATE. -/
abbrev canDataRate (u : Nat) : Nat := rk 0x5810 u 0x03
/-- 0x5810+k:04 NOM_SP. -/
abbrev canNomSp (u : Nat) : Nat := rk 0x5810 u 0x04
/-- 0x5810+k:05 DATA_SP. -/
abbrev canDataSp (u : Nat) : Nat := rk 0x5810 u 0x05
/-- 0x5810+k:06 CAN_PREFIX. -/
abbrev canCanPrefix (u : Nat) : Nat := rk 0x5810 u 0x06
/-- 0x5810+k:07 CAN_TX_GAP. -/
abbrev canCanTxGap (u : Nat) : Nat := rk 0x5810 u 0x07
/-- 0x5810+k:08 BUSOFF_HOLD. -/
abbrev canBusoffHold (u : Nat) : Nat := rk 0x5810 u 0x08
/-- 0x5810+k:09 LINK_SILENCE. -/
abbrev canLinkSilence (u : Nat) : Nat := rk 0x5810 u 0x09
/-- 0x5818+k:01 LINK_STATE. -/
abbrev cansLinkState (u : Nat) : Nat := rk 0x5818 u 0x01
/-- 0x5818+k:02 TEC. -/
abbrev cansTec (u : Nat) : Nat := rk 0x5818 u 0x02
/-- 0x5818+k:03 REC. -/
abbrev cansRec (u : Nat) : Nat := rk 0x5818 u 0x03
/-- 0x5818+k:04 BUSOFF_COUNT. -/
abbrev cansBusoffCount (u : Nat) : Nat := rk 0x5818 u 0x04
/-- 0x5818+k:05 RX_FRAMES. -/
abbrev cansRxFrames (u : Nat) : Nat := rk 0x5818 u 0x05
/-- 0x5818+k:06 TX_FRAMES. -/
abbrev cansTxFrames (u : Nat) : Nat := rk 0x5818 u 0x06
/-- 0x5818+k:07 LINK_DOWN_COUNT. -/
abbrev cansLinkDownCount (u : Nat) : Nat := rk 0x5818 u 0x07
/-- 0x5820:01 ENABLE. -/
abbrev t1sEnable : Nat := rk 0x5820 0 0x01
/-- 0x5820:02 PLCA_ENABLE. -/
abbrev t1sPlcaEnable : Nat := rk 0x5820 0 0x02
/-- 0x5820:03 PLCA_NODE_ID. -/
abbrev t1sPlcaNodeId : Nat := rk 0x5820 0 0x03
/-- 0x5820:04 PLCA_NODE_COUNT. -/
abbrev t1sPlcaNodeCount : Nat := rk 0x5820 0 0x04
/-- 0x5820:05 PLCA_TO_TIMER. -/
abbrev t1sPlcaToTimer : Nat := rk 0x5820 0 0x05
/-- 0x5820:06 PLCA_MAX_BURST. -/
abbrev t1sPlcaMaxBurst : Nat := rk 0x5820 0 0x06
/-- 0x5820:07 PLCA_BURST_TIMER. -/
abbrev t1sPlcaBurstTimer : Nat := rk 0x5820 0 0x07
/-- 0x5820:08 ETHERTYPE. -/
abbrev t1sEthertype : Nat := rk 0x5820 0 0x08
/-- 0x5820:09 VLAN_ID. -/
abbrev t1sVlanId : Nat := rk 0x5820 0 0x09
/-- 0x5820:0A VLAN_PCP. -/
abbrev t1sVlanPcp : Nat := rk 0x5820 0 0x0A
/-- 0x5820:0B TELEM_MCAST. -/
abbrev t1sTelemMcast : Nat := rk 0x5820 0 0x0B
/-- 0x5820:0C TELEM_FLUSH. -/
abbrev t1sTelemFlush : Nat := rk 0x5820 0 0x0C
/-- 0x5820:0D TC10_SLEEP_OK. -/
abbrev t1sTc10SleepOk : Nat := rk 0x5820 0 0x0D
/-- 0x5820:0E LINK_SILENCE. -/
abbrev t1sLinkSilence : Nat := rk 0x5820 0 0x0E
/-- 0x5828:01 MAC_ADDR. -/
abbrev t1ssMacAddr : Nat := rk 0x5828 0 0x01
/-- 0x5828:02 LINK_STATE. -/
abbrev t1ssLinkState : Nat := rk 0x5828 0 0x02
/-- 0x5828:03 PLCA_STATUS. -/
abbrev t1ssPlcaStatus : Nat := rk 0x5828 0 0x03
/-- 0x5828:04 FCS_ERR_COUNT. -/
abbrev t1ssFcsErrCount : Nat := rk 0x5828 0 0x04
/-- 0x5828:05 RX_FRAMES. -/
abbrev t1ssRxFrames : Nat := rk 0x5828 0 0x05
/-- 0x5828:06 TX_FRAMES. -/
abbrev t1ssTxFrames : Nat := rk 0x5828 0 0x06
/-- 0x5828:07 TELEM_DROPPED. -/
abbrev t1ssTelemDropped : Nat := rk 0x5828 0 0x07
/-- 0x5828:08 LINK_DOWN_COUNT. -/
abbrev t1ssLinkDownCount : Nat := rk 0x5828 0 0x08
/-- 0x5828:09 SLEEP_COUNT. -/
abbrev t1ssSleepCount : Nat := rk 0x5828 0 0x09
/-- 0x5830+p:01 HOST_TIMEOUT. -/
abbrev watchHostTimeout (u : Nat) : Nat := rk 0x5830 u 0x01
/-- 0x5830+p:02 HOST_ACTION. -/
abbrev watchHostAction (u : Nat) : Nat := rk 0x5830 u 0x02
/-- 0x5830+p:03 WATCH_EXPIRIES. -/
abbrev watchWatchExpiries (u : Nat) : Nat := rk 0x5830 u 0x03
/-- 0x5848:01 EVENT_SUBSCRIBE. -/
abbrev sessEventSubscribe : Nat := rk 0x5848 0 0x01
/-- 0x5848:02 SESSION_LINK. -/
abbrev sessSessionLink : Nat := rk 0x5848 0 0x02
/-- 0x5848:03 SESSION_OPENED. -/
abbrev sessSessionOpened : Nat := rk 0x5848 0 0x03
/-- 0x5850:01 IRQ_MASK. -/
abbrev hostIrqMask : Nat := rk 0x5850 0 0x01
/-- 0x5850:02 HOST_WAKE_MASK. -/
abbrev hostHostWakeMask : Nat := rk 0x5850 0 0x02
/-- 0x5850:03 TELEM_IRQ_LEVEL. -/
abbrev hostTelemIrqLevel : Nat := rk 0x5850 0 0x03
/-- 0x5850:04 TELEM_IRQ_AGE. -/
abbrev hostTelemIrqAge : Nat := rk 0x5850 0 0x04
/-- 0x5851:01 LINK_STATE. -/
abbrev hostsLinkState : Nat := rk 0x5851 0 0x01
/-- 0x5851:02 LAST_FORMAT. -/
abbrev hostsLastFormat : Nat := rk 0x5851 0 0x02
/-- 0x5851:03 FRAMES_OK. -/
abbrev hostsFramesOk : Nat := rk 0x5851 0 0x03
/-- 0x5851:04 CRC_ERR_COUNT. -/
abbrev hostsCrcErrCount : Nat := rk 0x5851 0 0x04
/-- 0x5851:05 SHORT_COUNT. -/
abbrev hostsShortCount : Nat := rk 0x5851 0 0x05
/-- 0x5851:06 OVERLONG_COUNT. -/
abbrev hostsOverlongCount : Nat := rk 0x5851 0 0x06
/-- 0x5851:07 HDR_ERR_COUNT. -/
abbrev hostsHdrErrCount : Nat := rk 0x5851 0 0x07
/-- 0x5851:08 QUEUE_DROP_COUNT. -/
abbrev hostsQueueDropCount : Nat := rk 0x5851 0 0x08
/-- 0x5851:09 RESEND_COUNT. -/
abbrev hostsResendCount : Nat := rk 0x5851 0 0x09
/-- 0x5851:0A WAKE_COUNT. -/
abbrev hostsWakeCount : Nat := rk 0x5851 0 0x0A
/-- 0x5851:0B COLLISION_COUNT. -/
abbrev hostsCollisionCount : Nat := rk 0x5851 0 0x0B
/-- 0x5880+s:01 ENABLE. -/
abbrev strEnable (u : Nat) : Nat := rk 0x5880 u 0x01
/-- 0x5880+s:02 PARTITION. -/
abbrev strPartition (u : Nat) : Nat := rk 0x5880 u 0x02
/-- 0x5880+s:03 DESTINATION. -/
abbrev strDestination (u : Nat) : Nat := rk 0x5880 u 0x03
/-- 0x5880+s:04 CHANNELS. -/
abbrev strChannels (u : Nat) : Nat := rk 0x5880 u 0x04
/-- 0x5880+s:05 MODE. -/
abbrev strMode (u : Nat) : Nat := rk 0x5880 u 0x05
/-- 0x5880+s:06 FACTOR. -/
abbrev strFactor (u : Nat) : Nat := rk 0x5880 u 0x06
/-- 0x5880+s:07 PRIORITY. -/
abbrev strPriority (u : Nat) : Nat := rk 0x5880 u 0x07
/-- 0x5880+s:08 RING_BLOCKS. -/
abbrev strRingBlocks (u : Nat) : Nat := rk 0x5880 u 0x08
/-- 0x58C0+s:01 SAMPLE_RATE. -/
abbrev strsSampleRate (u : Nat) : Nat := rk 0x58C0 u 0x01
/-- 0x58C0+s:02 PAUSED. -/
abbrev strsPaused (u : Nat) : Nat := rk 0x58C0 u 0x02
/-- 0x58C0+s:03 FILL. -/
abbrev strsFill (u : Nat) : Nat := rk 0x58C0 u 0x03
/-- 0x58C0+s:04 SAMPLES. -/
abbrev strsSamples (u : Nat) : Nat := rk 0x58C0 u 0x04
/-- 0x58C0+s:05 LOST. -/
abbrev strsLost (u : Nat) : Nat := rk 0x58C0 u 0x05
/-- 0x58C0+s:06 LAST_STAMP. -/
abbrev strsLastStamp (u : Nat) : Nat := rk 0x58C0 u 0x06
/-- 0x58C0+s:07 FRAME_SEQ. -/
abbrev strsFrameSeq (u : Nat) : Nat := rk 0x58C0 u 0x07
/-- 0x6000:01 OWNER_STATE. -/
abbrev secOwnerState : Nat := rk 0x6000 0 0x01
/-- 0x6000:02 ROLLBACK_COUNT. -/
abbrev secRollbackCount : Nat := rk 0x6000 0 0x02
/-- 0x6000:03 BOOT_BANK. -/
abbrev secBootBank : Nat := rk 0x6000 0 0x03
/-- 0x6000:04 REVOKED. -/
abbrev secRevoked : Nat := rk 0x6000 0 0x04
/-- 0x6000:05 DEBUG_UNLOCKS. -/
abbrev secDebugUnlocks : Nat := rk 0x6000 0 0x05
/-- 0x6000:06 KEY_LOADS. -/
abbrev secKeyLoads : Nat := rk 0x6000 0 0x06
/-- 0x6000:07 AUTH_FAIL_BURSTS. -/
abbrev secAuthFailBursts : Nat := rk 0x6000 0 0x07
/-- 0x6001:01 to :11 KEY_VERSION_00 to _10. -/
abbrev keyKeyVersion (i : Nat) : Nat := rk 0x6001 0 (0x01 + i)
/-- 0x6001:12 KEY_ERASED. -/
abbrev keyKeyErased : Nat := rk 0x6001 0 0x12
/-- 0x6010:01 OWNER_INIT. -/
abbrev keywOwnerInit : Nat := rk 0x6010 0 0x01
/-- 0x6010:02 KEY_LOAD. -/
abbrev keywKeyLoad : Nat := rk 0x6010 0 0x02
/-- 0x6020:01 DEBUG_CHALLENGE. -/
abbrev dbgDebugChallenge : Nat := rk 0x6020 0 0x01
/-- 0x6020:02 DEBUG_RESPONSE. -/
abbrev dbgDebugResponse : Nat := rk 0x6020 0 0x02
/-- 0x6020:03 DEBUG_LOCK. -/
abbrev dbgDebugLock : Nat := rk 0x6020 0 0x03
/-- 0x6030:01 ATTEST_REQUEST. -/
abbrev attAttestRequest : Nat := rk 0x6030 0 0x01
/-- 0x6030:02 ATTEST_TAG. -/
abbrev attAttestTag : Nat := rk 0x6030 0 0x02
/-- 0x6040:01 AUTH_FAIL_LIMIT. -/
abbrev seccAuthFailLimit : Nat := rk 0x6040 0 0x01
/-- 0x7000:01 EXPECTED_MAP. -/
abbrev treExpectedMap : Nat := rk 0x7000 0 0x01
/-- 0x7000:02 TRESTLE_TAG. -/
abbrev treTrestleTag : Nat := rk 0x7000 0 0x02
/-- 0x7000:03 TSYNC_PERIOD. -/
abbrev treTsyncPeriod : Nat := rk 0x7000 0 0x03
/-- 0x7000:04 TSYNC_COMP. -/
abbrev treTsyncComp : Nat := rk 0x7000 0 0x04
/-- 0x7000:05 PRESENCE_PERIOD. -/
abbrev trePresencePeriod : Nat := rk 0x7000 0 0x05
/-- 0x7000:06 LOSS_COUNT. -/
abbrev treLossCount : Nat := rk 0x7000 0 0x06
/-- 0x7000:07 CHECK_TIMEOUT. -/
abbrev treCheckTimeout : Nat := rk 0x7000 0 0x07
/-- 0x7000:08 RELEASE_LEAD. -/
abbrev treReleaseLead : Nat := rk 0x7000 0 0x08
/-- 0x7010+n:01 SPAN_MAP. -/
abbrev treGrpSpanMap (u : Nat) : Nat := rk 0x7010 u 0x01
/-- 0x7010+n:02 MISSING_RULE. -/
abbrev treGrpMissingRule (u : Nat) : Nat := rk 0x7010 u 0x02
/-- 0x7020:01 DEVID. -/
abbrev tresDevid : Nat := rk 0x7020 0 0x01
/-- 0x7020:02 PRESENT_MAP. -/
abbrev tresPresentMap : Nat := rk 0x7020 0 0x02
/-- 0x7020:03 LEADER. -/
abbrev tresLeader : Nat := rk 0x7020 0 0x03
/-- 0x7020:04 PHASE. -/
abbrev tresPhase : Nat := rk 0x7020 0 0x04
/-- 0x7020:05 TRESTLE_OFFSET. -/
abbrev tresTrestleOffset : Nat := rk 0x7020 0 0x05
/-- 0x7020:06 TSYNC_FLAGS. -/
abbrev tresTsyncFlags : Nat := rk 0x7020 0 0x06
/-- 0x7020:07 LAST_RESIDUAL. -/
abbrev tresLastResidual : Nat := rk 0x7020 0 0x07
/-- 0x7020:08 DUP_DEVID. -/
abbrev tresDupDevid : Nat := rk 0x7020 0 0x08
/-- 0x7020:09 FOREIGN_MAP. -/
abbrev tresForeignMap : Nat := rk 0x7020 0 0x09
/-- 0x7020:0A PEER_ERR_COUNT. -/
abbrev tresPeerErrCount : Nat := rk 0x7020 0 0x0A
/-- 0x7020:0B LEADER_CHANGES. -/
abbrev tresLeaderChanges : Nat := rk 0x7020 0 0x0B
/-- 0x7020:0C TRESTLE_TIME. -/
abbrev tresTrestleTime : Nat := rk 0x7020 0 0x0C
/-- 0x7030+n:01 ADVANCE_COUNT. -/
abbrev tresGrpAdvanceCount (u : Nat) : Nat := rk 0x7030 u 0x01
/-- 0x7030+n:02 HOLD_REASONS. -/
abbrev tresGrpHoldReasons (u : Nat) : Nat := rk 0x7030 u 0x02
/-- 0x7030+n:03 MISMATCH_COUNT. -/
abbrev tresGrpMismatchCount (u : Nat) : Nat := rk 0x7030 u 0x03
/-- 0x7030+n:04 LAST_CHECK_TICK. -/
abbrev tresGrpLastCheckTick (u : Nat) : Nat := rk 0x7030 u 0x04
/-- 0x7030+n:05 GLITCH_COUNT. -/
abbrev tresGrpGlitchCount (u : Nat) : Nat := rk 0x7030 u 0x05
/-- 0x7030+n:06 GROUP_RESET. -/
abbrev tresGrpGroupReset (u : Nat) : Nat := rk 0x7030 u 0x06
/-- 0x7800:01 SCRUB_ENABLE. -/
abbrev nvScrubEnable : Nat := rk 0x7800 0 0x01
/-- 0x7800:02 SCRUB_PERIOD. -/
abbrev nvScrubPeriod : Nat := rk 0x7800 0 0x02
/-- 0x7800:03 WEAK_THRESHOLD. -/
abbrev nvWeakThreshold : Nat := rk 0x7800 0 0x03
/-- 0x7801:01 NV_STATE. -/
abbrev nvsNvState : Nat := rk 0x7801 0 0x01
/-- 0x7801:02 ERASE_SECTOR. -/
abbrev nvsEraseSector : Nat := rk 0x7801 0 0x02
/-- 0x7801:03 ERASE_RUN. -/
abbrev nvsEraseRun : Nat := rk 0x7801 0 0x03
/-- 0x7801:04 SCRUB_SECTOR. -/
abbrev nvsScrubSector : Nat := rk 0x7801 0 0x04
/-- 0x7801:05 SCRUB_PASS_TICK. -/
abbrev nvsScrubPassTick : Nat := rk 0x7801 0 0x05
/-- 0x7801:06 SCRUB_PASSES. -/
abbrev nvsScrubPasses : Nat := rk 0x7801 0 0x06
/-- 0x7801:07 CORRECTED_COUNT. -/
abbrev nvsCorrectedCount : Nat := rk 0x7801 0 0x07
/-- 0x7801:08 WEAK_READS. -/
abbrev nvsWeakReads : Nat := rk 0x7801 0 0x08
/-- 0x7801:09 UNCORR_COUNT. -/
abbrev nvsUncorrCount : Nat := rk 0x7801 0 0x09
/-- 0x7801:0A TORN_PAGES. -/
abbrev nvsTornPages : Nat := rk 0x7801 0 0x0A
/-- 0x7801:0B ERASE_REDO. -/
abbrev nvsEraseRedo : Nat := rk 0x7801 0 0x0B
/-- 0x7801:0C ERASE_FAIL. -/
abbrev nvsEraseFail : Nat := rk 0x7801 0 0x0C
/-- 0x7801:0D SUSPEND_COUNT. -/
abbrev nvsSuspendCount : Nat := rk 0x7801 0 0x0D
/-- 0x7801:0E INHIBIT_REFUSED. -/
abbrev nvsInhibitRefused : Nat := rk 0x7801 0 0x0E
/-- 0x7801:0F ERASE_COUNT. -/
abbrev nvsEraseCount : Nat := rk 0x7801 0 0x0F
/-- 0x7801:10 LEDGER_WAIT_DROP. -/
abbrev nvsLedgerWaitDrop : Nat := rk 0x7801 0 0x10
/-- 0x7810+r:01 REGION_FLAGS. -/
abbrev nvrRegionFlags (u : Nat) : Nat := rk 0x7810 u 0x01
/-- 0x7810+r:02 UNCORR_SECTORS. -/
abbrev nvrUncorrSectors (u : Nat) : Nat := rk 0x7810 u 0x02
/-- 0x7810+r:03 WEAK_SECTORS. -/
abbrev nvrWeakSectors (u : Nat) : Nat := rk 0x7810 u 0x03
/-- 0x7810+r:04 FAILED_SECTORS. -/
abbrev nvrFailedSectors (u : Nat) : Nat := rk 0x7810 u 0x04
/-- 0x7810+r:05 LAST_UNCORR_ADDR. -/
abbrev nvrLastUncorrAddr (u : Nat) : Nat := rk 0x7810 u 0x05
/-- 0x7820:01 MEM_ADDR. -/
abbrev memMemAddr : Nat := rk 0x7820 0 0x01
/-- 0x7820:02 MEM_LEN. -/
abbrev memMemLen : Nat := rk 0x7820 0 0x02
/-- 0x7820:03 MEM_READ. -/
abbrev memMemRead : Nat := rk 0x7820 0 0x03
/-- 0x7820:04 MEM_WRITE. -/
abbrev memMemWrite : Nat := rk 0x7820 0 0x04
/-- 0x7820:05 MEM_RESULT. -/
abbrev memMemResult : Nat := rk 0x7820 0 0x05
/-- 0x7820:06 MEM_ERASE. -/
abbrev memMemErase : Nat := rk 0x7820 0 0x06
/-- 0x7830:01 FW_COMMAND. -/
abbrev fwFwCommand : Nat := rk 0x7830 0 0x01
/-- 0x7830:02 FW_OFFSET. -/
abbrev fwFwOffset : Nat := rk 0x7830 0 0x02
/-- 0x7830:03 FW_DATA. -/
abbrev fwFwData : Nat := rk 0x7830 0 0x03
/-- 0x7830:04 FW_STATE. -/
abbrev fwFwState : Nat := rk 0x7830 0 0x04
/-- 0x7830:05 FW_STATUS. -/
abbrev fwFwStatus : Nat := rk 0x7830 0 0x05
/-- 0x7F00:01 REQUEST_COUNT. -/
abbrev diagRequestCount : Nat := rk 0x7F00 0 0x01
/-- 0x7F00:02 REFUSED_COUNT. -/
abbrev diagRefusedCount : Nat := rk 0x7F00 0 0x02
/-- 0x7F00:03 LAST_REFUSAL. -/
abbrev diagLastRefusal : Nat := rk 0x7F00 0 0x03
/-- 0x7F00:04 CHECK_REPORT. -/
abbrev diagCheckReport : Nat := rk 0x7F00 0 0x04
/-- 0x7F00:05 CHECK_TICK. -/
abbrev diagCheckTick : Nat := rk 0x7F00 0 0x05
/-- 0x7F00:06 ISLAND_STALLED. -/
abbrev diagIslandStalled : Nat := rk 0x7F00 0 0x06
/-- 0x7F00:07 ISLAND_FAULT_COUNT. -/
abbrev diagIslandFaultCount : Nat := rk 0x7F00 0 0x07
/-- 0x7F00:08 OUTSTANDING. -/
abbrev diagOutstanding : Nat := rk 0x7F00 0 0x08
/-- 0x7F00:09 MGMT_LOAD. -/
abbrev diagMgmtLoad : Nat := rk 0x7F00 0 0x09
/-- 0x7F00:0A COMMITS_QUEUED. -/
abbrev diagCommitsQueued : Nat := rk 0x7F00 0 0x0A
/-- 0x7F00:0B LOCKSTEP_COUNT. -/
abbrev diagLockstepCount : Nat := rk 0x7F00 0 0x0B
/-- 0x7F10+p:01 P_REQUESTS. -/
abbrev diagpPRequests (u : Nat) : Nat := rk 0x7F10 u 0x01
/-- 0x7F10+p:02 P_REFUSED. -/
abbrev diagpPRefused (u : Nat) : Nat := rk 0x7F10 u 0x02
/-- 0x7F10+p:03 P_LAST_REFUSAL. -/
abbrev diagpPLastRefusal (u : Nat) : Nat := rk 0x7F10 u 0x03

end Sys2Proof.Machine
end

