-- ==== Sys2Proof/Machine/Dict.lean ====
section
/-! DEFINITION. The object dictionary as data: each object table of the spec as a row list with the index of the table, how many
objects follow each other there, and for each entry its sub-indices, access code (R317), length in bytes (Table 12-2), default and
range. Values are unsigned numbers, least significant byte first; a signed entry holds its two's complement. The default of
EN_POLARITY, the value of the EN_POL strap, stands as 2 (see `enPolarity`). -/
namespace Sys2Proof.Machine

/-- The access codes of R317. -/
inductive Acc where
  | ro
  | wo
  | rw
  | rwc
  deriving DecidableEq, Repr

/-- A range of values: the ranges of the object tables. -/
inductive Rng where
  | any
  | between (lo hi : Nat)
  | signed (bits : Nat) (lo hi : Int)
  | oneOf (l : List Nat)
  | stepped (lo hi m : Nat)
  | orElse (lo hi x : Nat)
  deriving DecidableEq, Repr

/-- The signed number whose two's complement in some bits is v. -/
def toSigned (bits v : Nat) : Int := if v < 2 ^ (bits - 1) then v else (v : Int) - 2 ^ bits

/-- The two's complement of a signed number. -/
def ofSigned (bits : Nat) (x : Int) : Nat := (x % 2 ^ bits).toNat

/-- Whether a value lies in a range. -/
def Rng.has : Rng → Nat → Bool
  | .any, _ => true
  | .between lo hi, v => decide (lo ≤ v ∧ v ≤ hi)
  | .signed n lo hi, v => decide (lo ≤ toSigned n v ∧ toSigned n v ≤ hi)
  | .oneOf l, v => l.contains v
  | .stepped lo hi m, v => decide (lo ≤ v ∧ v ≤ hi ∧ v % m = 0)
  | .orElse lo hi x, v => decide (lo ≤ v ∧ v ≤ hi ∨ v = x)

/-- One row of an object table: sub-indices lo to hi. -/
structure Entry where
  lo   : Nat
  hi   : Nat
  acc  : Acc
  lenMin : Nat
  lenMax : Nat
  dflt : Nat
  rng  : Rng
  deriving DecidableEq, Repr

/-- One object table: the first index, how many objects, whether its sub-indices 0x01 to 0x10 number units of a window, and its
rows. -/
structure Obj where
  base  : Nat
  count : Nat
  win   : Bool
  rows  : List Entry
  deriving DecidableEq, Repr

/-- Object 0x1000. -/
def objIdent : Obj := ⟨0x1000, 1, false, [
    ⟨0x00, 0x00, .ro, 1, 1, 8, .any⟩,
    ⟨0x01, 0x01, .ro, 0, 64, 167247480181790248800165198974407463334565800277061, .any⟩,
    ⟨0x02, 0x02, .ro, 0, 64, 14127853883710038, .any⟩,
    ⟨0x03, 0x03, .ro, 0, 64, 12354, .any⟩,
    ⟨0x04, 0x04, .ro, 8, 8, (Config.serial.toNat), .any⟩,
    ⟨0x05, 0x05, .ro, 4, 4, 0, .any⟩,
    ⟨0x06, 0x06, .ro, 1, 1, 0, .any⟩,
    ⟨0x07, 0x07, .ro, 4, 4, 0, .any⟩,
    ⟨0x08, 0x08, .ro, 2, 2, 256, .any⟩]⟩

/-- Object 0x1001. -/
def objCapab : Obj := ⟨0x1001, 1, false, [
    ⟨0x00, 0x00, .ro, 1, 1, 12, .any⟩,
    ⟨0x01, 0x01, .ro, 2, 2, 512, .any⟩,
    ⟨0x02, 0x02, .ro, 2, 2, 256, .any⟩,
    ⟨0x03, 0x03, .ro, 2, 2, 128, .any⟩,
    ⟨0x04, 0x04, .ro, 2, 2, 72, .any⟩,
    ⟨0x05, 0x05, .ro, 2, 2, 16, .any⟩,
    ⟨0x06, 0x06, .ro, 2, 2, 4096, .any⟩,
    ⟨0x07, 0x07, .ro, 2, 2, 1024, .any⟩,
    ⟨0x08, 0x08, .ro, 2, 2, 32, .any⟩,
    ⟨0x09, 0x09, .ro, 2, 2, 512, .any⟩,
    ⟨0x0A, 0x0A, .ro, 2, 2, 32, .any⟩,
    ⟨0x0B, 0x0B, .ro, 2, 2, 4, .any⟩,
    ⟨0x0C, 0x0C, .ro, 2, 2, 8, .any⟩]⟩

/-- Object 0x1002. -/
def objDev : Obj := ⟨0x1002, 1, false, [
    ⟨0x00, 0x00, .ro, 1, 1, 4, .any⟩,
    ⟨0x01, 0x01, .ro, 1, 1, 2, .any⟩,
    ⟨0x02, 0x02, .ro, 8, 8, 0, .any⟩,
    ⟨0x03, 0x03, .ro, 8, 8, 0, .any⟩,
    ⟨0x04, 0x04, .ro, 2, 2, 1, .any⟩]⟩

/-- Object 0x1010. -/
def objEv : Obj := ⟨0x1010, 1, false, [
    ⟨0x00, 0x00, .ro, 1, 1, 5, .any⟩,
    ⟨0x01, 0x01, .rw, 4, 4, 0, .any⟩,
    ⟨0x02, 0x02, .ro, 0, 24, 0, .any⟩,
    ⟨0x03, 0x03, .ro, 4, 4, 0, .any⟩,
    ⟨0x04, 0x04, .ro, 4, 4, 0, .any⟩,
    ⟨0x05, 0x05, .ro, 2, 2, 0, .any⟩]⟩

/-- Object 0x1020. -/
def objSets : Obj := ⟨0x1020, 16, false, [
    ⟨0x00, 0x00, .ro, 1, 1, 7, .any⟩,
    ⟨0x01, 0x01, .wo, 1, 1, 0, .between 1 2⟩,
    ⟨0x02, 0x02, .ro, 2, 2, 0, .any⟩,
    ⟨0x03, 0x03, .ro, 1, 1, 0, .any⟩,
    ⟨0x04, 0x04, .ro, 2, 2, 0, .any⟩,
    ⟨0x05, 0x05, .ro, 8, 8, 0, .any⟩,
    ⟨0x06, 0x06, .ro, 8, 8, 0, .any⟩,
    ⟨0x07, 0x07, .ro, 1, 1, 0, .any⟩]⟩

/-- Object 0x1100. -/
def objProf : Obj := ⟨0x1100, 1, false, [
    ⟨0x00, 0x00, .ro, 1, 1, 13, .any⟩,
    ⟨0x01, 0x01, .ro, 1, 1, 255, .any⟩,
    ⟨0x02, 0x02, .ro, 4, 4, 0, .any⟩,
    ⟨0x03, 0x03, .ro, 1, 1, 0, .any⟩,
    ⟨0x04, 0x04, .rwc, 1, 1, 0, .between 0 1⟩,
    ⟨0x05, 0x05, .rw, 1, 1, 255, .orElse 0 3 0xFF⟩,
    ⟨0x06, 0x06, .wo, 1, 1, 0, .between 0 3⟩,
    ⟨0x07, 0x07, .ro, 1, 1, 0, .any⟩,
    ⟨0x08, 0x08, .wo, 1, 1, 0, .between 1 2⟩,
    ⟨0x09, 0x09, .rw, 4, 4, 50, .between 20 10000⟩,
    ⟨0x0A, 0x0A, .ro, 2, 2, 0, .any⟩,
    ⟨0x0B, 0x0B, .ro, 8, 8, 0, .any⟩,
    ⟨0x0C, 0x0C, .ro, 4, 4, 0, .any⟩,
    ⟨0x0D, 0x0D, .ro, 1, 1, 0, .any⟩]⟩

/-- Object 0x1110. -/
def objShelf : Obj := ⟨0x1110, 4, false, [
    ⟨0x00, 0x00, .ro, 1, 1, 23, .any⟩,
    ⟨0x01, 0x01, .ro, 1, 1, 0, .any⟩,
    ⟨0x02, 0x02, .ro, 4, 4, 0, .any⟩,
    ⟨0x03, 0x03, .ro, 4, 4, 0, .any⟩,
    ⟨0x04, 0x04, .ro, 0, 64, 0, .any⟩,
    ⟨0x05, 0x05, .ro, 4, 4, 0, .any⟩,
    ⟨0x06, 0x06, .ro, 4, 4, 0, .any⟩,
    ⟨0x07, 0x07, .ro, 2, 2, 0, .any⟩,
    ⟨0x08, 0x17, .ro, 4, 4, 0, .any⟩]⟩

/-- Object 0x1120. -/
def objShelfw : Obj := ⟨0x1120, 1, false, [
    ⟨0x00, 0x00, .ro, 1, 1, 4, .any⟩,
    ⟨0x01, 0x01, .rw, 1, 1, 255, .orElse 0 3 0xFF⟩,
    ⟨0x02, 0x02, .rw, 4, 4, 0, .stepped 0 524272 16⟩,
    ⟨0x03, 0x03, .wo, 16, 256, 0, .any⟩,
    ⟨0x04, 0x04, .wo, 1, 1, 0, .between 1 2⟩]⟩

/-- Object 0x1180. -/
def objSup : Obj := ⟨0x1180, 1, false, [
    ⟨0x00, 0x00, .ro, 1, 1, 16, .any⟩,
    ⟨0x01, 0x01, .ro, 1, 1, 1, .any⟩,
    ⟨0x02, 0x02, .ro, 1, 1, 1, .any⟩,
    ⟨0x03, 0x03, .ro, 4, 4, 0, .any⟩,
    ⟨0x04, 0x04, .ro, 2, 2, 0, .any⟩,
    ⟨0x05, 0x05, .ro, 2, 2, 0, .any⟩,
    ⟨0x06, 0x06, .ro, 2, 2, 0, .any⟩,
    ⟨0x07, 0x07, .ro, 1, 1, 0, .any⟩,
    ⟨0x08, 0x08, .rw, 4, 4, 0, .any⟩,
    ⟨0x09, 0x09, .rw, 4, 4, 0, .any⟩,
    ⟨0x0A, 0x0A, .rw, 1, 1, 0, .between 0 1⟩,
    ⟨0x0B, 0x0B, .rw, 1, 1, 7, .between 0 7⟩,
    ⟨0x0C, 0x0C, .rw, 2, 2, 8000, .between 4000 16000⟩,
    ⟨0x0D, 0x0D, .rw, 1, 1, 0, .between 0 1⟩,
    ⟨0x0E, 0x0E, .ro, 2, 2, 0, .any⟩,
    ⟨0x0F, 0x0F, .wo, 1, 1, 0, .oneOf [1]⟩,
    ⟨0x10, 0x10, .wo, 1, 1, 0, .between 1 2⟩]⟩

/-- Object 0x2000. -/
def objCh : Obj := ⟨0x2000, 512, false, [
    ⟨0x00, 0x00, .ro, 1, 1, 0, .any⟩,
    ⟨0x01, 0x01, .rwc, 1, 1, 0, .between 0 3⟩,
    ⟨0x02, 0x02, .rwc, 1, 1, 0, .between 0 15⟩,
    ⟨0x03, 0x03, .rwc, 4, 4, 65536, .between 65536 16777216⟩,
    ⟨0x04, 0x04, .rwc, 4, 4, 0, .between 0 614400000⟩,
    ⟨0x05, 0x05, .rwc, 2, 2, 1023, .between 1 1023⟩,
    ⟨0x06, 0x06, .rwc, 2, 2, 0, .between 0 1022⟩,
    ⟨0x07, 0x07, .rwc, 1, 1, 2, .between 0 15⟩,
    ⟨0x08, 0x08, .rwc, 1, 1, 10, .between 0 255⟩,
    ⟨0x09, 0x09, .rwc, 2, 2, 65535, .any⟩,
    ⟨0x0A, 0x0A, .rwc, 2, 2, 0, .any⟩,
    ⟨0x0B, 0x0B, .rwc, 2, 2, 0, .any⟩,
    ⟨0x0C, 0x0C, .rwc, 4, 4, 1000, .between 0 10000000⟩,
    ⟨0x0D, 0x0D, .rwc, 4, 4, 100, .between 1 60000⟩,
    ⟨0x0E, 0x0E, .rwc, 2, 2, 65535, .orElse 0 255 0xFFFF⟩,
    ⟨0x0F, 0x0F, .rwc, 1, 1, 0, .between 0 1⟩,
    ⟨0x10, 0x10, .rwc, 1, 1, 0, .between 0 1⟩,
    ⟨0x11, 0x11, .rwc, 1, 1, 0, .between 0 2⟩,
    ⟨0x12, 0x12, .rwc, 2, 2, 0, .between 0 255⟩,
    ⟨0x13, 0x13, .rwc, 2, 2, 65535, .orElse 0 511 0xFFFF⟩,
    ⟨0x14, 0x14, .rwc, 4, 4, 65536, .between 7 2147418112⟩,
    ⟨0x15, 0x15, .rwc, 2, 2, 0, .any⟩,
    ⟨0x20, 0x20, .rwc, 1, 1, 0, .between 0 2⟩,
    ⟨0x21, 0x21, .rwc, 1, 1, 2, .between 0 1⟩,
    ⟨0x22, 0x22, .rwc, 1, 1, 0, .between 0 15⟩]⟩

/-- Object 0x2200. -/
def objCl : Obj := ⟨0x2200, 8, false, [
    ⟨0x00, 0x00, .ro, 1, 1, 12, .any⟩,
    ⟨0x01, 0x01, .rwc, 1, 1, 1, .between 0 1⟩,
    ⟨0x02, 0x02, .rwc, 4, 4, 4000, .stepped 500 1024000 10⟩,
    ⟨0x03, 0x03, .rwc, 1, 1, 0, .between 0 4⟩,
    ⟨0x04, 0x04, .rwc, 1, 1, 4, .between 1 64⟩,
    ⟨0x05, 0x05, .rwc, 1, 1, 1, .between 0 1⟩,
    ⟨0x06, 0x06, .rwc, 4, 4, 1000000, .between 100000 4000000⟩,
    ⟨0x07, 0x07, .rwc, 1, 1, 0, .between 0 63⟩,
    ⟨0x08, 0x08, .rwc, 2, 2, 10, .between 5 1000⟩,
    ⟨0x09, 0x09, .rwc, 1, 1, 1, .between 0 1⟩,
    ⟨0x0A, 0x0A, .rwc, 1, 1, 1, .between 0 1⟩,
    ⟨0x0B, 0x0B, .rwc, 1, 1, 3, .between 1 255⟩,
    ⟨0x0C, 0x0C, .rwc, 2, 2, 64, .between 0 4096⟩]⟩

/-- Object 0x2300. -/
def objFab : Obj := ⟨0x2300, 1, false, [
    ⟨0x00, 0x00, .ro, 1, 1, 3, .any⟩,
    ⟨0x01, 0x01, .rwc, 64, 64, 0, .between 0 (2 ^ 256 - 1)⟩,
    ⟨0x02, 0x02, .rwc, 2, 2, 5, .between 2 1000⟩,
    ⟨0x03, 0x03, .rwc, 1, 1, 15, .between 0 15⟩]⟩

/-- Object 0x2310. -/
def objShut : Obj := ⟨0x2310, 16, false, [
    ⟨0x00, 0x00, .ro, 1, 1, 6, .any⟩,
    ⟨0x01, 0x01, .rwc, 2, 2, 0, .between 0 10000⟩,
    ⟨0x02, 0x02, .rwc, 1, 1, 0, .between 0 7⟩,
    ⟨0x03, 0x03, .rwc, 4, 4, 1000, .between 100 600000⟩,
    ⟨0x04, 0x04, .rwc, 4, 4, 60, .between 1 86400⟩,
    ⟨0x05, 0x05, .wo, 1, 1, 0, .oneOf [1]⟩,
    ⟨0x06, 0x06, .wo, 1, 1, 0, .oneOf [1]⟩]⟩

/-- Object 0x2400. -/
def objChs : Obj := ⟨0x2400, 512, false, [
    ⟨0x00, 0x00, .ro, 1, 1, 0, .any⟩,
    ⟨0x01, 0x01, .ro, 1, 1, 0, .any⟩,
    ⟨0x02, 0x02, .ro, 8, 8, 0, .any⟩,
    ⟨0x03, 0x03, .ro, 2, 2, 0, .any⟩,
    ⟨0x04, 0x04, .ro, 8, 8, 0, .any⟩,
    ⟨0x05, 0x05, .ro, 4, 4, 0, .any⟩,
    ⟨0x06, 0x06, .ro, 2, 2, 0, .any⟩,
    ⟨0x07, 0x07, .ro, 2, 2, 65535, .any⟩,
    ⟨0x08, 0x08, .ro, 2, 2, 0, .any⟩,
    ⟨0x09, 0x09, .ro, 2, 2, 0, .any⟩,
    ⟨0x0A, 0x0A, .ro, 8, 8, 0, .any⟩,
    ⟨0x0B, 0x0B, .ro, 2, 2, 0, .any⟩,
    ⟨0x0C, 0x0C, .ro, 2, 2, 0, .any⟩,
    ⟨0x0D, 0x0D, .ro, 2, 2, 0, .any⟩,
    ⟨0x0E, 0x0E, .ro, 1, 1, 0, .any⟩,
    ⟨0x0F, 0x0F, .wo, 1, 1, 0, .oneOf [1]⟩,
    ⟨0x20, 0x20, .ro, 1, 1, 0, .any⟩]⟩

/-- Object 0x2600. -/
def objCls : Obj := ⟨0x2600, 8, false, [
    ⟨0x00, 0x00, .ro, 1, 1, 191, .any⟩,
    ⟨0x01, 0x01, .ro, 9, 9, 148080050112590643456, .any⟩,
    ⟨0x02, 0x02, .ro, 4, 4, 0, .any⟩,
    ⟨0x03, 0x03, .ro, 2, 2, 0, .any⟩,
    ⟨0x04, 0x04, .ro, 4, 4, 0, .any⟩,
    ⟨0x05, 0x05, .ro, 8, 8, 0, .any⟩,
    ⟨0x06, 0x06, .ro, 2, 2, 0, .any⟩,
    ⟨0x07, 0x07, .ro, 2, 2, 0, .any⟩,
    ⟨0x08, 0x08, .ro, 2, 2, 0, .any⟩,
    ⟨0x10, 0x17, .ro, 4, 4, 0, .any⟩,
    ⟨0x40, 0x7F, .ro, 8, 8, 0, .any⟩,
    ⟨0x80, 0xBF, .ro, 8, 8, 0, .any⟩]⟩

/-- Object 0x2700. -/
def objFabs : Obj := ⟨0x2700, 1, false, [
    ⟨0x00, 0x00, .ro, 1, 1, 12, .any⟩,
    ⟨0x01, 0x01, .ro, 1, 1, 0, .any⟩,
    ⟨0x02, 0x02, .ro, 2, 2, 0, .any⟩,
    ⟨0x03, 0x03, .ro, 1, 1, 0, .any⟩,
    ⟨0x04, 0x04, .ro, 1, 1, 0, .any⟩,
    ⟨0x05, 0x05, .ro, 2, 2, 0, .any⟩,
    ⟨0x06, 0x06, .ro, 1, 1, 0, .any⟩,
    ⟨0x07, 0x0A, .ro, 2, 2, 0, .any⟩,
    ⟨0x0B, 0x0B, .ro, 2, 2, 0, .any⟩,
    ⟨0x0C, 0x0C, .ro, 2, 2, 0, .any⟩]⟩

/-- Object 0x2710. -/
def objShuts : Obj := ⟨0x2710, 16, false, [
    ⟨0x00, 0x00, .ro, 1, 1, 7, .any⟩,
    ⟨0x01, 0x01, .ro, 2, 2, 0, .any⟩,
    ⟨0x02, 0x02, .ro, 8, 8, 0, .any⟩,
    ⟨0x03, 0x03, .ro, 1, 1, 0, .any⟩,
    ⟨0x04, 0x04, .ro, 1, 1, 0, .any⟩,
    ⟨0x05, 0x05, .ro, 8, 8, 0, .any⟩,
    ⟨0x06, 0x06, .ro, 1, 1, 0, .any⟩,
    ⟨0x07, 0x07, .ro, 1, 1, 0, .any⟩]⟩

/-- Object 0x2800. -/
def objSeq : Obj := ⟨0x2800, 16, false, [
    ⟨0x00, 0x00, .ro, 1, 1, 8, .any⟩,
    ⟨0x01, 0x01, .rwc, 2, 2, 0, .between 0 4095⟩,
    ⟨0x02, 0x02, .rwc, 2, 2, 0, .between 0 4096⟩,
    ⟨0x03, 0x03, .rwc, 1, 1, 0, .between 0 1⟩,
    ⟨0x04, 0x04, .rwc, 1, 1, 0, .between 0 1⟩,
    ⟨0x05, 0x05, .rwc, 2, 2, 100, .between 1 60000⟩,
    ⟨0x06, 0x06, .ro, 1, 1, 255, .any⟩,
    ⟨0x07, 0x07, .wo, 1, 1, 0, .oneOf [1]⟩,
    ⟨0x08, 0x08, .wo, 1, 1, 0, .oneOf [1]⟩]⟩

/-- Object 0x2820. -/
def objGrp : Obj := ⟨0x2820, 4, false, [
    ⟨0x00, 0x00, .ro, 1, 1, 2, .any⟩,
    ⟨0x01, 0x01, .rwc, 1, 1, 1, .between 1 254⟩,
    ⟨0x02, 0x02, .rw, 1, 1, 1, .between 0 254⟩]⟩

/-- Object 0x2840. -/
def objSeqs : Obj := ⟨0x2840, 16, false, [
    ⟨0x00, 0x00, .ro, 1, 1, 13, .any⟩,
    ⟨0x01, 0x01, .ro, 1, 1, 0, .any⟩,
    ⟨0x02, 0x02, .ro, 1, 1, 0, .any⟩,
    ⟨0x03, 0x03, .ro, 1, 1, 0, .any⟩,
    ⟨0x04, 0x04, .ro, 1, 1, 0, .any⟩,
    ⟨0x05, 0x05, .ro, 1, 1, 0, .any⟩,
    ⟨0x06, 0x06, .ro, 2, 2, 0, .any⟩,
    ⟨0x07, 0x07, .ro, 1, 1, 0, .any⟩,
    ⟨0x08, 0x08, .ro, 2, 2, 0, .any⟩,
    ⟨0x09, 0x09, .ro, 2, 2, 0, .any⟩,
    ⟨0x0A, 0x0A, .ro, 2, 2, 0, .any⟩,
    ⟨0x0B, 0x0B, .ro, 2, 2, 0, .any⟩,
    ⟨0x0C, 0x0C, .ro, 4, 4, 0, .any⟩,
    ⟨0x0D, 0x0D, .ro, 8, 8, 0, .any⟩]⟩

/-- Object 0x2860. -/
def objGrps : Obj := ⟨0x2860, 4, false, [
    ⟨0x00, 0x00, .ro, 1, 1, 4, .any⟩,
    ⟨0x01, 0x01, .ro, 1, 1, 0, .any⟩,
    ⟨0x02, 0x02, .ro, 1, 1, 0, .any⟩,
    ⟨0x03, 0x03, .ro, 2, 2, 0, .any⟩,
    ⟨0x04, 0x04, .ro, 8, 8, 0, .any⟩]⟩

/-- Object 0x2880. -/
def objCap : Obj := ⟨0x2880, 32, false, [
    ⟨0x00, 0x00, .ro, 1, 1, 9, .any⟩,
    ⟨0x01, 0x01, .rwc, 1, 1, 0, .between 0 15⟩,
    ⟨0x02, 0x02, .rwc, 1, 1, 0, .any⟩,
    ⟨0x03, 0x03, .rwc, 2, 2, 0, .between 0 511⟩,
    ⟨0x04, 0x04, .rwc, 2, 2, 0, .any⟩,
    ⟨0x05, 0x05, .rwc, 1, 1, 0, .any⟩,
    ⟨0x06, 0x06, .rwc, 2, 2, 0, .between 0 511⟩,
    ⟨0x07, 0x07, .rwc, 2, 2, 0, .any⟩,
    ⟨0x08, 0x08, .rwc, 4, 4, 100000, .between 1 60000000⟩,
    ⟨0x09, 0x09, .wo, 1, 1, 0, .oneOf [1]⟩]⟩

/-- Object 0x28C0. -/
def objCaps : Obj := ⟨0x28C0, 32, false, [
    ⟨0x00, 0x00, .ro, 1, 1, 5, .any⟩,
    ⟨0x01, 0x01, .ro, 1, 1, 0, .any⟩,
    ⟨0x02, 0x02, .ro, 8, 8, 0, .any⟩,
    ⟨0x03, 0x03, .ro, 8, 8, 0, .any⟩,
    ⟨0x04, 0x04, .ro, 8, 8, 0, .any⟩,
    ⟨0x05, 0x05, .ro, 1, 1, 0, .any⟩]⟩

/-- Object 0x2A00. -/
def objAct : Obj := ⟨0x2A00, 256, true, [
    ⟨0x00, 0x00, .ro, 1, 1, 16, .any⟩,
    ⟨0x01, 0x10, .rwc, 16, 16, 0, .any⟩]⟩

/-- Object 0x2B00. -/
def objPool : Obj := ⟨0x2B00, 1, false, [
    ⟨0x00, 0x00, .ro, 1, 1, 9, .any⟩,
    ⟨0x01, 0x08, .ro, 2, 2, 128, .any⟩,
    ⟨0x09, 0x09, .ro, 2, 2, 0, .any⟩]⟩

/-- Object 0x3000. -/
def objPart : Obj := ⟨0x3000, 16, false, [
    ⟨0x00, 0x00, .ro, 1, 1, 16, .any⟩,
    ⟨0x01, 0x01, .rwc, 1, 1, 0, .between 0 1⟩,
    ⟨0x02, 0x02, .rwc, 1, 1, 0, .between 0 3⟩,
    ⟨0x03, 0x03, .rwc, 2, 2, 0, .any⟩,
    ⟨0x04, 0x04, .rwc, 64, 64, 0, .any⟩,
    ⟨0x05, 0x05, .rwc, 4, 4, 30000, .between 100 600000⟩,
    ⟨0x06, 0x06, .rwc, 4, 4, 10000, .between 100 600000⟩,
    ⟨0x07, 0x07, .rwc, 4, 4, 5000, .between 100 600000⟩,
    ⟨0x08, 0x08, .rwc, 1, 1, 2, .any⟩,
    ⟨0x09, 0x09, .rwc, 1, 1, 0, .any⟩,
    ⟨0x0A, 0x0A, .rwc, 1, 1, 0, .any⟩,
    ⟨0x0B, 0x0B, .rwc, 1, 1, 0, .any⟩,
    ⟨0x0C, 0x0C, .rwc, 2, 2, 20, .between 1 100⟩,
    ⟨0x0D, 0x0D, .rwc, 1, 1, 1, .between 1 254⟩,
    ⟨0x0E, 0x0E, .rwc, 2, 2, 100, .between 0 500⟩,
    ⟨0x0F, 0x0F, .rwc, 4, 4, 60, .between 1 86400⟩,
    ⟨0x10, 0x10, .rwc, 0, 16, 0, .any⟩]⟩

/-- Object 0x3020. -/
def objParts : Obj := ⟨0x3020, 16, false, [
    ⟨0x00, 0x00, .ro, 1, 1, 11, .any⟩,
    ⟨0x01, 0x01, .ro, 1, 1, 0, .any⟩,
    ⟨0x02, 0x02, .ro, 8, 8, 0, .any⟩,
    ⟨0x03, 0x03, .ro, 1, 1, 0, .any⟩,
    ⟨0x04, 0x04, .ro, 1, 1, 0, .any⟩,
    ⟨0x05, 0x05, .ro, 8, 8, 0, .any⟩,
    ⟨0x06, 0x06, .ro, 4, 4, 0, .any⟩,
    ⟨0x07, 0x07, .ro, 4, 4, 0, .any⟩,
    ⟨0x08, 0x08, .ro, 4, 4, 0, .any⟩,
    ⟨0x09, 0x09, .ro, 4, 4, 0, .any⟩,
    ⟨0x0A, 0x0A, .ro, 2, 2, 0, .any⟩,
    ⟨0x0B, 0x0B, .ro, 2, 2, 0, .any⟩]⟩

/-- Object 0x3040. -/
def objLane : Obj := ⟨0x3040, 1, false, [
    ⟨0x00, 0x00, .ro, 1, 1, 4, .any⟩,
    ⟨0x01, 0x04, .rwc, 1, 1, 0, .any⟩]⟩

/-- Object 0x3048. -/
def objLanes : Obj := ⟨0x3048, 1, false, [
    ⟨0x00, 0x00, .ro, 1, 1, 4, .any⟩,
    ⟨0x01, 0x04, .ro, 1, 1, 0, .any⟩]⟩

/-- Object 0x3100. -/
def objLed : Obj := ⟨0x3100, 1, false, [
    ⟨0x00, 0x00, .ro, 1, 1, 7, .any⟩,
    ⟨0x01, 0x01, .rwc, 2, 2, 900, .between 1 3600⟩,
    ⟨0x02, 0x02, .ro, 1, 1, 0, .any⟩,
    ⟨0x03, 0x03, .wo, 1, 1, 0, .between 0 7⟩,
    ⟨0x04, 0x04, .rwc, 1, 1, 0, .between 0 1⟩,
    ⟨0x05, 0x05, .rwc, 2, 2, 65535, .any⟩,
    ⟨0x06, 0x06, .rw, 2, 2, 0, .between 0 2047⟩,
    ⟨0x07, 0x07, .ro, 32, 32, 0, .any⟩]⟩

/-- Object 0x3110. -/
def objBud : Obj := ⟨0x3110, 8, false, [
    ⟨0x00, 0x00, .ro, 1, 1, 64, .any⟩,
    ⟨0x01, 0x10, .rwc, 4, 4, 4294967295, .any⟩,
    ⟨0x11, 0x20, .rwc, 2, 2, 64, .between 0 1024⟩,
    ⟨0x21, 0x30, .rwc, 4, 4, 4294967295, .any⟩,
    ⟨0x31, 0x40, .rwc, 2, 2, 200, .between 1 10000⟩]⟩

/-- Object 0x3120. -/
def objSched : Obj := ⟨0x3120, 1, false, [
    ⟨0x00, 0x00, .ro, 1, 1, 16, .any⟩,
    ⟨0x01, 0x10, .rwc, 4, 4, 0, .any⟩]⟩

/-- Object 0x3140. -/
def objLeds : Obj := ⟨0x3140, 16, false, [
    ⟨0x00, 0x00, .ro, 1, 1, 6, .any⟩,
    ⟨0x01, 0x01, .ro, 8, 8, 0, .any⟩,
    ⟨0x02, 0x02, .ro, 8, 8, 0, .any⟩,
    ⟨0x03, 0x03, .ro, 8, 8, 0, .any⟩,
    ⟨0x04, 0x04, .ro, 4, 4, 0, .any⟩,
    ⟨0x05, 0x05, .ro, 4, 4, 0, .any⟩,
    ⟨0x06, 0x06, .ro, 2, 2, 0, .any⟩]⟩

/-- Object 0x3400. -/
def objTrm : Obj := ⟨0x3400, 128, false, [
    ⟨0x00, 0x00, .ro, 1, 1, 8, .any⟩,
    ⟨0x01, 0x01, .rwc, 4, 4, 10000, .between 100 1000000⟩,
    ⟨0x02, 0x02, .rwc, 2, 2, 63488, .signed 16 (-2048) (2047)⟩,
    ⟨0x03, 0x03, .rwc, 2, 2, 2047, .signed 16 (-2048) (2047)⟩,
    ⟨0x04, 0x04, .rwc, 1, 1, 8, .between 1 255⟩,
    ⟨0x05, 0x05, .rwc, 1, 1, 64, .between 1 255⟩,
    ⟨0x06, 0x06, .ro, 2, 2, 0, .any⟩,
    ⟨0x07, 0x07, .ro, 1, 1, 4, .any⟩,
    ⟨0x08, 0x08, .ro, 2, 2, 0, .any⟩]⟩

/-- Object 0x3480. -/
def objPsTrim : Obj := ⟨0x3480, 8, false, [
    ⟨0x00, 0x00, .ro, 1, 1, 5, .any⟩,
    ⟨0x01, 0x01, .rwc, 2, 2, 10, .between 2 1000⟩,
    ⟨0x02, 0x02, .rwc, 4, 4, 10000, .between 100 100000⟩,
    ⟨0x03, 0x03, .ro, 1, 1, 255, .any⟩,
    ⟨0x04, 0x04, .ro, 1, 1, 0, .any⟩,
    ⟨0x05, 0x05, .ro, 2, 2, 0, .any⟩]⟩

/-- Object 0x3490. -/
def objHeld : Obj := ⟨0x3490, 32, true, [
    ⟨0x00, 0x00, .ro, 1, 1, 16, .any⟩,
    ⟨0x01, 0x10, .rwc, 4, 4, 0, .any⟩]⟩

/-- Object 0x34B0. -/
def objSetp : Obj := ⟨0x34B0, 32, true, [
    ⟨0x00, 0x00, .ro, 1, 1, 16, .any⟩,
    ⟨0x01, 0x10, .ro, 4, 4, 0, .any⟩]⟩

/-- Object 0x34D0. -/
def objMgn : Obj := ⟨0x34D0, 1, false, [
    ⟨0x00, 0x00, .ro, 1, 1, 3, .any⟩,
    ⟨0x01, 0x01, .rwc, 2, 2, 256, .between 128 4096⟩,
    ⟨0x02, 0x02, .rwc, 2, 2, 64, .between 8 1024⟩,
    ⟨0x03, 0x03, .rwc, 1, 1, 3, .between 1 16⟩]⟩

/-- Object 0x34E0. -/
def objBench : Obj := ⟨0x34E0, 16, false, [
    ⟨0x00, 0x00, .ro, 1, 1, 21, .any⟩,
    ⟨0x01, 0x01, .rw, 2, 2, 65535, .orElse 0 511 0xFFFF⟩,
    ⟨0x02, 0x02, .rw, 1, 1, 0, .between 0 2⟩,
    ⟨0x03, 0x03, .rw, 1, 1, 3, .between 0 3⟩,
    ⟨0x04, 0x04, .rw, 4, 4, 5000, .between 100 100000⟩,
    ⟨0x05, 0x05, .rw, 4, 4, 10, .between 0 600000⟩,
    ⟨0x06, 0x06, .rw, 4, 4, 1000, .between 1 600000⟩,
    ⟨0x07, 0x07, .rw, 2, 2, 65535, .orElse 0 511 0xFFFF⟩,
    ⟨0x08, 0x08, .rw, 2, 2, 0, .any⟩,
    ⟨0x09, 0x09, .rw, 2, 2, 65535, .any⟩,
    ⟨0x0A, 0x0A, .wo, 1, 1, 0, .between 1 2⟩,
    ⟨0x0B, 0x0B, .wo, 1, 1, 0, .between 1 2⟩,
    ⟨0x0C, 0x0C, .ro, 1, 1, 0, .any⟩,
    ⟨0x0D, 0x0D, .ro, 4, 4, 0, .any⟩,
    ⟨0x0E, 0x0E, .ro, 4, 4, 0, .any⟩,
    ⟨0x0F, 0x0F, .ro, 4, 4, 0, .any⟩,
    ⟨0x10, 0x10, .ro, 1, 1, 0, .any⟩,
    ⟨0x11, 0x11, .ro, 1, 1, 0, .any⟩,
    ⟨0x12, 0x12, .ro, 1, 1, 0, .any⟩,
    ⟨0x13, 0x13, .rw, 64, 64, 0, .any⟩,
    ⟨0x14, 0x14, .rw, 2, 2, 0, .signed 16 (-500) 500⟩,
    ⟨0x15, 0x15, .wo, 1, 1, 0, .between 0 1⟩]⟩

/-- Object 0x34F0. -/
def objMaint : Obj := ⟨0x34F0, 1, false, [
    ⟨0x00, 0x00, .ro, 1, 1, 3, .any⟩,
    ⟨0x01, 0x01, .ro, 1, 1, 0, .any⟩,
    ⟨0x02, 0x02, .ro, 1, 1, 0, .any⟩,
    ⟨0x03, 0x03, .ro, 2, 2, 0, .any⟩]⟩

/-- Object 0x3800. -/
def objTh : Obj := ⟨0x3800, 1, false, [
    ⟨0x00, 0x00, .ro, 1, 1, 14, .any⟩,
    ⟨0x01, 0x01, .rwc, 2, 2, 1450, .signed 16 (1000) (1500)⟩,
    ⟨0x02, 0x02, .rwc, 2, 2, 1350, .signed 16 (800) (1490)⟩,
    ⟨0x03, 0x03, .rwc, 2, 2, 1250, .signed 16 (600) (1480)⟩,
    ⟨0x04, 0x04, .rwc, 2, 2, 65186, .signed 16 (-450) (0)⟩,
    ⟨0x05, 0x05, .rwc, 2, 2, 65116, .signed 16 (-500) (-100)⟩,
    ⟨0x06, 0x06, .rwc, 1, 1, 20, .between 5 80⟩,
    ⟨0x07, 0x07, .rwc, 2, 2, 65534, .any⟩,
    ⟨0x08, 0x08, .rwc, 2, 2, 65534, .any⟩,
    ⟨0x09, 0x09, .rwc, 2, 2, 0, .any⟩,
    ⟨0x0A, 0x0A, .rwc, 1, 1, 0, .between 0 15⟩,
    ⟨0x0B, 0x0B, .rwc, 2, 2, 0, .between 0 20000⟩,
    ⟨0x0C, 0x0C, .rwc, 4, 4, 30000, .between 0 600000⟩,
    ⟨0x0D, 0x0D, .rwc, 1, 1, 120, .between 50 250⟩,
    ⟨0x0E, 0x0E, .rwc, 2, 2, 1000, .between 100 10000⟩]⟩

/-- Object 0x3810. -/
def objThn : Obj := ⟨0x3810, 1, false, [
    ⟨0x00, 0x00, .ro, 1, 1, 8, .any⟩,
    ⟨0x01, 0x08, .rwc, 4, 4, 0, .any⟩]⟩

/-- Object 0x3820. -/
def objThs : Obj := ⟨0x3820, 1, false, [
    ⟨0x00, 0x00, .ro, 1, 1, 11, .any⟩,
    ⟨0x01, 0x01, .ro, 2, 2, 32768, .any⟩,
    ⟨0x02, 0x02, .ro, 2, 2, 32768, .any⟩,
    ⟨0x03, 0x03, .ro, 2, 2, 32768, .any⟩,
    ⟨0x04, 0x04, .ro, 1, 1, 0, .any⟩,
    ⟨0x05, 0x05, .ro, 1, 1, 0, .any⟩,
    ⟨0x06, 0x06, .ro, 1, 1, 0, .any⟩,
    ⟨0x07, 0x07, .ro, 8, 8, 0, .any⟩,
    ⟨0x08, 0x08, .ro, 2, 2, 0, .any⟩,
    ⟨0x09, 0x09, .ro, 2, 2, 32768, .any⟩,
    ⟨0x0A, 0x0A, .ro, 2, 2, 32768, .any⟩,
    ⟨0x0B, 0x0B, .ro, 2, 2, 0, .any⟩]⟩

/-- Object 0x4000. -/
def objLog : Obj := ⟨0x4000, 1, false, [
    ⟨0x00, 0x00, .ro, 1, 1, 2, .any⟩,
    ⟨0x01, 0x01, .rwc, 1, 1, 0, .between 0 1⟩,
    ⟨0x02, 0x02, .wo, 1, 1, 0, .between 1 3⟩]⟩

/-- Object 0x4001. -/
def objLogs : Obj := ⟨0x4001, 1, false, [
    ⟨0x00, 0x00, .ro, 1, 1, 12, .any⟩,
    ⟨0x01, 0x01, .ro, 2, 2, 0, .any⟩,
    ⟨0x02, 0x02, .ro, 2, 2, 0, .any⟩,
    ⟨0x03, 0x03, .ro, 4, 4, 0, .any⟩,
    ⟨0x04, 0x04, .ro, 1, 1, 0, .any⟩,
    ⟨0x05, 0x05, .ro, 2, 2, 0, .any⟩,
    ⟨0x06, 0x06, .ro, 2, 2, 0, .any⟩,
    ⟨0x07, 0x07, .ro, 2, 2, 0, .any⟩,
    ⟨0x08, 0x08, .ro, 2, 2, 0, .any⟩,
    ⟨0x09, 0x09, .ro, 2, 2, 0, .any⟩,
    ⟨0x0A, 0x0A, .ro, 2, 2, 0, .any⟩,
    ⟨0x0B, 0x0B, .ro, 1, 1, 0, .any⟩,
    ⟨0x0C, 0x0C, .ro, 8, 8, 0, .any⟩]⟩

/-- Object 0x4010. -/
def objLogp : Obj := ⟨0x4010, 16, false, [
    ⟨0x00, 0x00, .ro, 1, 1, 5, .any⟩,
    ⟨0x01, 0x01, .ro, 2, 2, 0, .any⟩,
    ⟨0x02, 0x02, .ro, 2, 2, 65535, .any⟩,
    ⟨0x03, 0x03, .ro, 4, 4, 0, .any⟩,
    ⟨0x04, 0x04, .rw, 4, 4, 0, .any⟩,
    ⟨0x05, 0x05, .ro, 2, 2, 0, .any⟩]⟩

/-- Object 0x4100. -/
def objDrw : Obj := ⟨0x4100, 32, true, [
    ⟨0x00, 0x00, .ro, 1, 1, 16, .any⟩,
    ⟨0x01, 0x10, .ro, 128, 128, (2 ^ 1024 - 1), .any⟩]⟩

/-- Object 0x4140. -/
def objDrws : Obj := ⟨0x4140, 32, true, [
    ⟨0x00, 0x00, .ro, 1, 1, 16, .any⟩,
    ⟨0x01, 0x10, .ro, 4, 4, 1, .any⟩]⟩

/-- Object 0x4800. -/
def objPs : Obj := ⟨0x4800, 8, false, [
    ⟨0x00, 0x00, .ro, 1, 1, 3, .any⟩,
    ⟨0x01, 0x01, .rwc, 1, 1, 0, .between 0 1⟩,
    ⟨0x02, 0x02, .rwc, 2, 2, 400, .oneOf [100, 400, 1000]⟩,
    ⟨0x03, 0x03, .rwc, 1, 1, 1, .between 0 1⟩]⟩

/-- Object 0x4808. -/
def objPss : Obj := ⟨0x4808, 8, false, [
    ⟨0x00, 0x00, .ro, 1, 1, 8, .any⟩,
    ⟨0x01, 0x01, .ro, 1, 1, 0, .any⟩,
    ⟨0x02, 0x02, .ro, 4, 4, 0, .any⟩,
    ⟨0x03, 0x03, .ro, 2, 2, 0, .any⟩,
    ⟨0x04, 0x04, .ro, 2, 2, 0, .any⟩,
    ⟨0x05, 0x05, .ro, 2, 2, 0, .any⟩,
    ⟨0x06, 0x06, .ro, 2, 2, 0, .any⟩,
    ⟨0x07, 0x07, .ro, 2, 2, 0, .any⟩,
    ⟨0x08, 0x08, .ro, 2, 2, 0, .any⟩]⟩

/-- Object 0x4810. -/
def objSvc : Obj := ⟨0x4810, 1, false, [
    ⟨0x00, 0x00, .ro, 1, 1, 5, .any⟩,
    ⟨0x01, 0x01, .rwc, 1, 1, 64, .stepped 16 96 16⟩,
    ⟨0x02, 0x02, .rwc, 2, 2, 1, .any⟩,
    ⟨0x03, 0x03, .rwc, 1, 1, 1, .between 0 1⟩,
    ⟨0x04, 0x04, .rwc, 2, 2, 100, .orElse 10 10000 0⟩,
    ⟨0x05, 0x05, .rwc, 1, 1, 1, .between 0 1⟩]⟩

/-- Object 0x4811. -/
def objSvcs : Obj := ⟨0x4811, 1, false, [
    ⟨0x00, 0x00, .ro, 1, 1, 3, .any⟩,
    ⟨0x01, 0x01, .ro, 4, 4, 0, .any⟩,
    ⟨0x02, 0x02, .ro, 4, 4, 0, .any⟩,
    ⟨0x03, 0x03, .ro, 4, 4, 0, .any⟩]⟩

/-- Object 0x4818. -/
def objPeer : Obj := ⟨0x4818, 1, false, [
    ⟨0x00, 0x00, .ro, 1, 1, 2, .any⟩,
    ⟨0x01, 0x01, .rwc, 2, 2, 1000, .oneOf [100, 400, 1000]⟩,
    ⟨0x02, 0x02, .rwc, 1, 1, 96, .between 16 104⟩]⟩

/-- Object 0x4819. -/
def objPeers : Obj := ⟨0x4819, 1, false, [
    ⟨0x00, 0x00, .ro, 1, 1, 3, .any⟩,
    ⟨0x01, 0x01, .ro, 4, 4, 0, .any⟩,
    ⟨0x02, 0x02, .ro, 2, 2, 0, .any⟩,
    ⟨0x03, 0x03, .ro, 4, 4, 0, .any⟩]⟩

/-- Object 0x4820. -/
def objTgt : Obj := ⟨0x4820, 16, true, [
    ⟨0x00, 0x00, .ro, 1, 1, 16, .any⟩,
    ⟨0x01, 0x10, .rwc, 4, 4, 8160, .any⟩]⟩

/-- Object 0x4840. -/
def objTgts : Obj := ⟨0x4840, 16, true, [
    ⟨0x00, 0x00, .ro, 1, 1, 16, .any⟩,
    ⟨0x01, 0x10, .ro, 4, 4, 4278190080, .any⟩]⟩

/-- Object 0x5000. -/
def objDrv : Obj := ⟨0x5000, 4, false, [
    ⟨0x00, 0x00, .ro, 1, 1, 32, .any⟩,
    ⟨0x01, 0x01, .rwc, 1, 1, 0, .between 0 1⟩,
    ⟨0x02, 0x02, .rwc, 1, 1, 0, .between 0 15⟩,
    ⟨0x03, 0x03, .rwc, 4, 4, 25000, .between 20000 100000⟩,
    ⟨0x04, 0x04, .rwc, 1, 1, 0, .between 0 4⟩,
    ⟨0x05, 0x05, .rwc, 1, 1, 0, .between 0 63⟩,
    ⟨0x06, 0x09, .rwc, 2, 2, 65535, .orElse 448 511 0xFFFF⟩,
    ⟨0x0A, 0x0A, .rwc, 2, 2, 200, .between 8 1000⟩,
    ⟨0x0B, 0x0B, .rwc, 2, 2, 80, .between 20 2000⟩,
    ⟨0x0C, 0x0C, .rwc, 4, 4, 65536, .between 7 2147418112⟩,
    ⟨0x0D, 0x0D, .rwc, 2, 2, 32768, .any⟩,
    ⟨0x0E, 0x0E, .rwc, 1, 1, 1, .between 1 3⟩,
    ⟨0x0F, 0x0F, .rwc, 1, 1, 1, .between 1 32⟩,
    ⟨0x10, 0x10, .rwc, 2, 2, 0, .any⟩,
    ⟨0x11, 0x11, .rwc, 1, 1, 12, .between 12 24⟩,
    ⟨0x12, 0x12, .rwc, 1, 1, 0, .between 0 4⟩,
    ⟨0x13, 0x13, .rwc, 1, 1, 0, .between 0 1⟩,
    ⟨0x14, 0x14, .rwc, 1, 1, 0, .between 0 2⟩,
    ⟨0x15, 0x15, .rwc, 4, 4, 1000000, .between 100000 4000000⟩,
    ⟨0x16, 0x16, .rwc, 1, 1, 1, .between 1 255⟩,
    ⟨0x17, 0x17, .rwc, 1, 1, 0, .between 0 15⟩,
    ⟨0x18, 0x18, .rwc, 4, 4, 4096, .between 1 16777216⟩,
    ⟨0x19, 0x19, .rwc, 4, 4, 0, .between 0 6553600⟩,
    ⟨0x1A, 0x1A, .rwc, 4, 4, 0, .between 0 6553600⟩,
    ⟨0x1B, 0x1B, .rwc, 4, 4, 1000, .between 1 1000000⟩,
    ⟨0x1C, 0x1C, .rwc, 4, 4, 0, .between 0 65536000⟩,
    ⟨0x1D, 0x1D, .rwc, 4, 4, 0, .between 0 65536000⟩,
    ⟨0x1E, 0x1E, .rwc, 2, 2, 10, .between 1 100⟩,
    ⟨0x1F, 0x1F, .rwc, 2, 2, 0, .orElse 100 10000 0⟩,
    ⟨0x20, 0x20, .rwc, 1, 1, 0, .between 0 1⟩]⟩

/-- Object 0x5010. -/
def objDrvc : Obj := ⟨0x5010, 4, false, [
    ⟨0x00, 0x00, .ro, 1, 1, 5, .any⟩,
    ⟨0x01, 0x01, .rw, 1, 1, 0, .between 0 1⟩,
    ⟨0x02, 0x02, .rw, 2, 2, 0, .signed 16 (-1154) 1154⟩,
    ⟨0x03, 0x03, .rw, 4, 4, 0, .any⟩,
    ⟨0x04, 0x04, .rw, 4, 4, 0, .signed 32 (-200000) 200000⟩,
    ⟨0x05, 0x05, .wo, 1, 1, 0, .oneOf [1]⟩]⟩

/-- Object 0x5020. -/
def objDrvs : Obj := ⟨0x5020, 4, false, [
    ⟨0x00, 0x00, .ro, 1, 1, 13, .any⟩,
    ⟨0x01, 0x01, .ro, 1, 1, 0, .any⟩,
    ⟨0x02, 0x02, .ro, 1, 1, 0, .any⟩,
    ⟨0x03, 0x03, .ro, 4, 4, 0, .any⟩,
    ⟨0x04, 0x04, .ro, 1, 1, 2, .any⟩,
    ⟨0x05, 0x05, .ro, 4, 4, 0, .any⟩,
    ⟨0x06, 0x06, .ro, 4, 4, 0, .any⟩,
    ⟨0x07, 0x07, .ro, 4, 4, 0, .any⟩,
    ⟨0x08, 0x08, .ro, 4, 4, 0, .any⟩,
    ⟨0x09, 0x09, .ro, 4, 4, 0, .any⟩,
    ⟨0x0A, 0x0A, .ro, 8, 8, 0, .any⟩,
    ⟨0x0B, 0x0B, .ro, 2, 2, 0, .any⟩,
    ⟨0x0C, 0x0C, .ro, 2, 2, 0, .any⟩,
    ⟨0x0D, 0x0D, .ro, 2, 2, 0, .any⟩]⟩

/-- Object 0x5800. -/
def objDap : Obj := ⟨0x5800, 1, false, [
    ⟨0x00, 0x00, .ro, 1, 1, 3, .any⟩,
    ⟨0x01, 0x01, .rwc, 2, 2, 60, .between 1 3600⟩,
    ⟨0x02, 0x02, .rwc, 2, 2, 100, .between 10 1000⟩,
    ⟨0x03, 0x03, .rwc, 2, 2, 2000, .between 500 10000⟩]⟩

/-- Object 0x5801. -/
def objDaps : Obj := ⟨0x5801, 1, false, [
    ⟨0x00, 0x00, .ro, 1, 1, 8, .any⟩,
    ⟨0x01, 0x01, .ro, 1, 1, 0, .any⟩,
    ⟨0x02, 0x02, .ro, 4, 4, 0, .any⟩,
    ⟨0x03, 0x03, .ro, 4, 4, 0, .any⟩,
    ⟨0x04, 0x04, .ro, 4, 4, 0, .any⟩,
    ⟨0x05, 0x05, .ro, 4, 4, 0, .any⟩,
    ⟨0x06, 0x06, .ro, 4, 4, 0, .any⟩,
    ⟨0x07, 0x07, .ro, 2, 2, 0, .any⟩,
    ⟨0x08, 0x08, .ro, 4, 4, 0, .any⟩]⟩

/-- Object 0x5808. -/
def objFrLast : Obj := ⟨0x5808, 1, false, [
    ⟨0x00, 0x00, .ro, 1, 1, 17, .any⟩,
    ⟨0x01, 0x11, .ro, 4, 4, 0, .any⟩]⟩

/-- Object 0x5809. -/
def objFrTx : Obj := ⟨0x5809, 1, false, [
    ⟨0x00, 0x00, .ro, 1, 1, 17, .any⟩,
    ⟨0x01, 0x11, .ro, 4, 4, 0, .any⟩]⟩

/-- Object 0x5810. -/
def objCan : Obj := ⟨0x5810, 2, false, [
    ⟨0x00, 0x00, .ro, 1, 1, 9, .any⟩,
    ⟨0x01, 0x01, .rwc, 1, 1, 0, .between 0 1⟩,
    ⟨0x02, 0x02, .rwc, 4, 4, 500000, .oneOf [125000, 250000, 500000, 1000000]⟩,
    ⟨0x03, 0x03, .rwc, 4, 4, 2000000, .oneOf [1000000, 2000000, 4000000, 5000000, 8000000]⟩,
    ⟨0x04, 0x04, .rwc, 2, 2, 800, .between 500 900⟩,
    ⟨0x05, 0x05, .rwc, 2, 2, 750, .between 500 900⟩,
    ⟨0x06, 0x06, .rwc, 1, 1, 182, .between 0 255⟩,
    ⟨0x07, 0x07, .rwc, 2, 2, 0, .between 0 1000⟩,
    ⟨0x08, 0x08, .rwc, 2, 2, 0, .between 0 1000⟩,
    ⟨0x09, 0x09, .rwc, 2, 2, 1000, .orElse 10 60000 0⟩]⟩

/-- Object 0x5818. -/
def objCans : Obj := ⟨0x5818, 2, false, [
    ⟨0x00, 0x00, .ro, 1, 1, 7, .any⟩,
    ⟨0x01, 0x01, .ro, 1, 1, 0, .any⟩,
    ⟨0x02, 0x02, .ro, 1, 1, 0, .any⟩,
    ⟨0x03, 0x03, .ro, 1, 1, 0, .any⟩,
    ⟨0x04, 0x04, .ro, 2, 2, 0, .any⟩,
    ⟨0x05, 0x05, .ro, 4, 4, 0, .any⟩,
    ⟨0x06, 0x06, .ro, 4, 4, 0, .any⟩,
    ⟨0x07, 0x07, .ro, 2, 2, 0, .any⟩]⟩

/-- Object 0x5820. -/
def objT1s : Obj := ⟨0x5820, 1, false, [
    ⟨0x00, 0x00, .ro, 1, 1, 14, .any⟩,
    ⟨0x01, 0x01, .rwc, 1, 1, 0, .between 0 1⟩,
    ⟨0x02, 0x02, .rwc, 1, 1, 1, .between 0 1⟩,
    ⟨0x03, 0x03, .rwc, 1, 1, 1, .between 0 254⟩,
    ⟨0x04, 0x04, .rwc, 1, 1, 8, .between 1 255⟩,
    ⟨0x05, 0x05, .rwc, 1, 1, 32, .between 1 255⟩,
    ⟨0x06, 0x06, .rwc, 1, 1, 0, .between 0 255⟩,
    ⟨0x07, 0x07, .rwc, 1, 1, 128, .between 0 255⟩,
    ⟨0x08, 0x08, .rwc, 2, 2, 34998, .between 0x0600 0xFFFF⟩,
    ⟨0x09, 0x09, .rwc, 2, 2, 0, .between 0 4094⟩,
    ⟨0x0A, 0x0A, .rwc, 1, 1, 5, .between 0 7⟩,
    ⟨0x0B, 0x0B, .rwc, 8, 8, 0, .between 0 (2 ^ 48 - 1)⟩,
    ⟨0x0C, 0x0C, .rwc, 1, 1, 10, .between 1 100⟩,
    ⟨0x0D, 0x0D, .rwc, 1, 1, 0, .between 0 1⟩,
    ⟨0x0E, 0x0E, .rwc, 2, 2, 0, .orElse 10 60000 0⟩]⟩

/-- Object 0x5828. -/
def objT1ss : Obj := ⟨0x5828, 1, false, [
    ⟨0x00, 0x00, .ro, 1, 1, 9, .any⟩,
    ⟨0x01, 0x01, .ro, 8, 8, (Config.macAddr.toNat), .any⟩,
    ⟨0x02, 0x02, .ro, 1, 1, 0, .any⟩,
    ⟨0x03, 0x03, .ro, 1, 1, 0, .any⟩,
    ⟨0x04, 0x04, .ro, 4, 4, 0, .any⟩,
    ⟨0x05, 0x05, .ro, 4, 4, 0, .any⟩,
    ⟨0x06, 0x06, .ro, 4, 4, 0, .any⟩,
    ⟨0x07, 0x07, .ro, 4, 4, 0, .any⟩,
    ⟨0x08, 0x08, .ro, 2, 2, 0, .any⟩,
    ⟨0x09, 0x09, .ro, 2, 2, 0, .any⟩]⟩

/-- Object 0x5830. -/
def objWatch : Obj := ⟨0x5830, 16, false, [
    ⟨0x00, 0x00, .ro, 1, 1, 3, .any⟩,
    ⟨0x01, 0x01, .rwc, 4, 4, 0, .orElse 100 600000 0⟩,
    ⟨0x02, 0x02, .rwc, 1, 1, 0, .between 0 2⟩,
    ⟨0x03, 0x03, .ro, 2, 2, 0, .any⟩]⟩

/-- Object 0x5848. -/
def objSess : Obj := ⟨0x5848, 1, false, [
    ⟨0x00, 0x00, .ro, 1, 1, 3, .any⟩,
    ⟨0x01, 0x01, .rw, 1, 1, 0, .between 0 1⟩,
    ⟨0x02, 0x02, .ro, 1, 1, 0, .any⟩,
    ⟨0x03, 0x03, .ro, 8, 8, 0, .any⟩]⟩

/-- Object 0x5850. -/
def objHost : Obj := ⟨0x5850, 1, false, [
    ⟨0x00, 0x00, .ro, 1, 1, 4, .any⟩,
    ⟨0x01, 0x01, .rwc, 1, 1, 7, .between 0 7⟩,
    ⟨0x02, 0x02, .rwc, 1, 1, 7, .between 0 7⟩,
    ⟨0x03, 0x03, .rwc, 1, 1, 50, .between 1 100⟩,
    ⟨0x04, 0x04, .rwc, 2, 2, 10, .between 0 10000⟩]⟩

/-- Object 0x5851. -/
def objHosts : Obj := ⟨0x5851, 1, false, [
    ⟨0x00, 0x00, .ro, 1, 1, 11, .any⟩,
    ⟨0x01, 0x01, .ro, 1, 1, 0, .any⟩,
    ⟨0x02, 0x02, .ro, 1, 1, 0, .any⟩,
    ⟨0x03, 0x03, .ro, 4, 4, 0, .any⟩,
    ⟨0x04, 0x04, .ro, 4, 4, 0, .any⟩,
    ⟨0x05, 0x05, .ro, 4, 4, 0, .any⟩,
    ⟨0x06, 0x06, .ro, 4, 4, 0, .any⟩,
    ⟨0x07, 0x07, .ro, 4, 4, 0, .any⟩,
    ⟨0x08, 0x08, .ro, 4, 4, 0, .any⟩,
    ⟨0x09, 0x09, .ro, 4, 4, 0, .any⟩,
    ⟨0x0A, 0x0A, .ro, 2, 2, 0, .any⟩,
    ⟨0x0B, 0x0B, .ro, 2, 2, 0, .any⟩]⟩

/-- Object 0x5880. -/
def objStr : Obj := ⟨0x5880, 32, false, [
    ⟨0x00, 0x00, .ro, 1, 1, 8, .any⟩,
    ⟨0x01, 0x01, .rwc, 1, 1, 0, .between 0 1⟩,
    ⟨0x02, 0x02, .rwc, 1, 1, 0, .between 0 15⟩,
    ⟨0x03, 0x03, .rwc, 1, 1, 1, .between 1 2⟩,
    ⟨0x04, 0x04, .rwc, 64, 64, 0, .any⟩,
    ⟨0x05, 0x05, .rwc, 1, 1, 0, .between 0 1⟩,
    ⟨0x06, 0x06, .rwc, 2, 2, 1, .between 1 65535⟩,
    ⟨0x07, 0x07, .rwc, 1, 1, 0, .between 0 7⟩,
    ⟨0x08, 0x08, .rwc, 1, 1, 1, .between 1 240⟩]⟩

/-- Object 0x58C0. -/
def objStrs : Obj := ⟨0x58C0, 32, false, [
    ⟨0x00, 0x00, .ro, 1, 1, 7, .any⟩,
    ⟨0x01, 0x01, .ro, 4, 4, 0, .any⟩,
    ⟨0x02, 0x02, .ro, 1, 1, 0, .any⟩,
    ⟨0x03, 0x03, .ro, 4, 4, 0, .any⟩,
    ⟨0x04, 0x04, .ro, 4, 4, 0, .any⟩,
    ⟨0x05, 0x05, .ro, 4, 4, 0, .any⟩,
    ⟨0x06, 0x06, .ro, 8, 8, 0, .any⟩,
    ⟨0x07, 0x07, .ro, 4, 4, 0, .any⟩]⟩

/-- Object 0x6000. -/
def objSec : Obj := ⟨0x6000, 1, false, [
    ⟨0x00, 0x00, .ro, 1, 1, 7, .any⟩,
    ⟨0x01, 0x01, .ro, 1, 1, 0, .any⟩,
    ⟨0x02, 0x02, .ro, 1, 1, 0, .any⟩,
    ⟨0x03, 0x03, .ro, 1, 1, 0, .any⟩,
    ⟨0x04, 0x04, .ro, 1, 1, 0, .any⟩,
    ⟨0x05, 0x05, .ro, 2, 2, 0, .any⟩,
    ⟨0x06, 0x06, .ro, 2, 2, 0, .any⟩,
    ⟨0x07, 0x07, .ro, 2, 2, 0, .any⟩]⟩

/-- Object 0x6001. -/
def objKey : Obj := ⟨0x6001, 1, false, [
    ⟨0x00, 0x00, .ro, 1, 1, 18, .any⟩,
    ⟨0x01, 0x11, .ro, 4, 4, 0, .any⟩,
    ⟨0x12, 0x12, .ro, 4, 4, 0, .any⟩]⟩

/-- Object 0x6010. -/
def objKeyw : Obj := ⟨0x6010, 1, false, [
    ⟨0x00, 0x00, .ro, 1, 1, 2, .any⟩,
    ⟨0x01, 0x01, .wo, 28, 28, 0, .any⟩,
    ⟨0x02, 0x02, .wo, 32, 32, 0, .any⟩]⟩

/-- Object 0x6020. -/
def objDbg : Obj := ⟨0x6020, 1, false, [
    ⟨0x00, 0x00, .ro, 1, 1, 3, .any⟩,
    ⟨0x01, 0x01, .ro, 16, 16, 0, .any⟩,
    ⟨0x02, 0x02, .wo, 16, 16, 0, .any⟩,
    ⟨0x03, 0x03, .wo, 1, 1, 0, .oneOf [1]⟩]⟩

/-- Object 0x6030. -/
def objAtt : Obj := ⟨0x6030, 1, false, [
    ⟨0x00, 0x00, .ro, 1, 1, 2, .any⟩,
    ⟨0x01, 0x01, .wo, 10, 10, 0, .any⟩,
    ⟨0x02, 0x02, .ro, 0, 8, 0, .any⟩]⟩

/-- Object 0x6040. -/
def objSecc : Obj := ⟨0x6040, 1, false, [
    ⟨0x00, 0x00, .ro, 1, 1, 1, .any⟩,
    ⟨0x01, 0x01, .rwc, 2, 2, 100, .between 1 10000⟩]⟩

/-- Object 0x7000. -/
def objTre : Obj := ⟨0x7000, 1, false, [
    ⟨0x00, 0x00, .ro, 1, 1, 8, .any⟩,
    ⟨0x01, 0x01, .rwc, 2, 2, 0, .any⟩,
    ⟨0x02, 0x02, .rwc, 4, 4, 0, .any⟩,
    ⟨0x03, 0x03, .rwc, 2, 2, 100, .between 10 1000⟩,
    ⟨0x04, 0x04, .rwc, 1, 1, 0, .between 0 100⟩,
    ⟨0x05, 0x05, .rwc, 2, 2, 10, .between 5 100⟩,
    ⟨0x06, 0x06, .rwc, 1, 1, 3, .between 2 10⟩,
    ⟨0x07, 0x07, .rwc, 2, 2, 2, .between 1 50⟩,
    ⟨0x08, 0x08, .rwc, 2, 2, 20, .between 10 100⟩]⟩

/-- Object 0x7010. -/
def objTreGrp : Obj := ⟨0x7010, 4, false, [
    ⟨0x00, 0x00, .ro, 1, 1, 2, .any⟩,
    ⟨0x01, 0x01, .rwc, 2, 2, 0, .any⟩,
    ⟨0x02, 0x02, .rwc, 1, 1, 0, .between 0 1⟩]⟩

/-- Object 0x7020. -/
def objTres : Obj := ⟨0x7020, 1, false, [
    ⟨0x00, 0x00, .ro, 1, 1, 12, .any⟩,
    ⟨0x01, 0x01, .ro, 1, 1, 0, .any⟩,
    ⟨0x02, 0x02, .ro, 2, 2, 0, .any⟩,
    ⟨0x03, 0x03, .ro, 1, 1, 255, .any⟩,
    ⟨0x04, 0x04, .ro, 1, 1, 0, .any⟩,
    ⟨0x05, 0x05, .ro, 8, 8, 0, .any⟩,
    ⟨0x06, 0x06, .ro, 1, 1, 0, .any⟩,
    ⟨0x07, 0x07, .ro, 4, 4, 0, .any⟩,
    ⟨0x08, 0x08, .ro, 1, 1, 0, .any⟩,
    ⟨0x09, 0x09, .ro, 2, 2, 0, .any⟩,
    ⟨0x0A, 0x0A, .ro, 2, 2, 0, .any⟩,
    ⟨0x0B, 0x0B, .ro, 2, 2, 0, .any⟩,
    ⟨0x0C, 0x0C, .ro, 8, 8, 0, .any⟩]⟩

/-- Object 0x7030. -/
def objTresGrp : Obj := ⟨0x7030, 4, false, [
    ⟨0x00, 0x00, .ro, 1, 1, 6, .any⟩,
    ⟨0x01, 0x01, .ro, 2, 2, 0, .any⟩,
    ⟨0x02, 0x02, .ro, 1, 1, 1, .any⟩,
    ⟨0x03, 0x03, .ro, 2, 2, 0, .any⟩,
    ⟨0x04, 0x04, .ro, 8, 8, 0, .any⟩,
    ⟨0x05, 0x05, .ro, 2, 2, 0, .any⟩,
    ⟨0x06, 0x06, .wo, 1, 1, 0, .oneOf [1]⟩]⟩

/-- Object 0x7800. -/
def objNv : Obj := ⟨0x7800, 1, false, [
    ⟨0x00, 0x00, .ro, 1, 1, 3, .any⟩,
    ⟨0x01, 0x01, .rwc, 1, 1, 1, .between 0 1⟩,
    ⟨0x02, 0x02, .rwc, 2, 2, 24, .between 1 168⟩,
    ⟨0x03, 0x03, .rwc, 1, 1, 3, .between 1 32⟩]⟩

/-- Object 0x7801. -/
def objNvs : Obj := ⟨0x7801, 1, false, [
    ⟨0x00, 0x00, .ro, 1, 1, 16, .any⟩,
    ⟨0x01, 0x01, .ro, 1, 1, 0, .any⟩,
    ⟨0x02, 0x02, .ro, 2, 2, 65535, .any⟩,
    ⟨0x03, 0x03, .ro, 4, 4, 0, .any⟩,
    ⟨0x04, 0x04, .ro, 2, 2, 0, .any⟩,
    ⟨0x05, 0x05, .ro, 8, 8, 0, .any⟩,
    ⟨0x06, 0x06, .ro, 4, 4, 0, .any⟩,
    ⟨0x07, 0x07, .ro, 4, 4, 0, .any⟩,
    ⟨0x08, 0x08, .ro, 4, 4, 0, .any⟩,
    ⟨0x09, 0x09, .ro, 2, 2, 0, .any⟩,
    ⟨0x0A, 0x0A, .ro, 2, 2, 0, .any⟩,
    ⟨0x0B, 0x0B, .ro, 2, 2, 0, .any⟩,
    ⟨0x0C, 0x0C, .ro, 2, 2, 0, .any⟩,
    ⟨0x0D, 0x0D, .ro, 4, 4, 0, .any⟩,
    ⟨0x0E, 0x0E, .ro, 2, 2, 0, .any⟩,
    ⟨0x0F, 0x0F, .ro, 4, 4, 0, .any⟩,
    ⟨0x10, 0x10, .ro, 2, 2, 0, .any⟩]⟩

/-- Object 0x7810. -/
def objNvr : Obj := ⟨0x7810, 6, false, [
    ⟨0x00, 0x00, .ro, 1, 1, 5, .any⟩,
    ⟨0x01, 0x01, .ro, 1, 1, 0, .any⟩,
    ⟨0x02, 0x02, .ro, 2, 2, 0, .any⟩,
    ⟨0x03, 0x03, .ro, 2, 2, 0, .any⟩,
    ⟨0x04, 0x04, .ro, 2, 2, 0, .any⟩,
    ⟨0x05, 0x05, .ro, 4, 4, 4294967295, .any⟩]⟩

/-- Object 0x7820. -/
def objMem : Obj := ⟨0x7820, 1, false, [
    ⟨0x00, 0x00, .ro, 1, 1, 6, .any⟩,
    ⟨0x01, 0x01, .rw, 4, 4, 4194304, .any⟩,
    ⟨0x02, 0x02, .rw, 2, 2, 16, .stepped 16 256 16⟩,
    ⟨0x03, 0x03, .ro, 16, 256, 0, .any⟩,
    ⟨0x04, 0x04, .wo, 16, 256, 0, .any⟩,
    ⟨0x05, 0x05, .ro, 4, 4, 1, .any⟩,
    ⟨0x06, 0x06, .wo, 4, 4, 0, .any⟩]⟩

/-- Object 0x7830. -/
def objFw : Obj := ⟨0x7830, 1, false, [
    ⟨0x00, 0x00, .ro, 1, 1, 5, .any⟩,
    ⟨0x01, 0x01, .wo, 1, 1, 0, .between 1 4⟩,
    ⟨0x02, 0x02, .rw, 4, 4, 0, .stepped 0 2097136 16⟩,
    ⟨0x03, 0x03, .wo, 16, 256, 0, .any⟩,
    ⟨0x04, 0x04, .ro, 1, 1, 0, .any⟩,
    ⟨0x05, 0x05, .ro, 2, 2, 0, .any⟩]⟩

/-- Object 0x7F00. -/
def objDiag : Obj := ⟨0x7F00, 1, false, [
    ⟨0x00, 0x00, .ro, 1, 1, 11, .any⟩,
    ⟨0x01, 0x01, .ro, 4, 4, 0, .any⟩,
    ⟨0x02, 0x02, .ro, 4, 4, 0, .any⟩,
    ⟨0x03, 0x03, .ro, 2, 2, 0, .any⟩,
    ⟨0x04, 0x04, .ro, 8, 8, 0, .any⟩,
    ⟨0x05, 0x05, .ro, 8, 8, 0, .any⟩,
    ⟨0x06, 0x06, .ro, 4, 4, 0, .any⟩,
    ⟨0x07, 0x07, .ro, 2, 2, 0, .any⟩,
    ⟨0x08, 0x08, .ro, 2, 2, 0, .any⟩,
    ⟨0x09, 0x09, .ro, 1, 1, 0, .any⟩,
    ⟨0x0A, 0x0A, .ro, 1, 1, 0, .any⟩,
    ⟨0x0B, 0x0B, .ro, 2, 2, 0, .any⟩]⟩

/-- Object 0x7F10. -/
def objDiagp : Obj := ⟨0x7F10, 16, false, [
    ⟨0x00, 0x00, .ro, 1, 1, 3, .any⟩,
    ⟨0x01, 0x01, .ro, 4, 4, 0, .any⟩,
    ⟨0x02, 0x02, .ro, 4, 4, 0, .any⟩,
    ⟨0x03, 0x03, .ro, 2, 2, 0, .any⟩]⟩

/-- The object tables, part 0. -/
def objs0 : List Obj := [objIdent, objCapab, objDev, objEv, objSets, objProf, objShelf, objShelfw, objSup, objCh, objCl, objFab, objShut, objChs, objCls]

/-- The object tables, part 1. -/
def objs1 : List Obj := [objFabs, objShuts, objSeq, objGrp, objSeqs, objGrps, objCap, objCaps, objAct, objPool, objPart, objParts, objLane, objLanes, objLed]

/-- The object tables, part 2. -/
def objs2 : List Obj := [objBud, objSched, objLeds, objTrm, objPsTrim, objHeld, objSetp, objMgn, objBench, objMaint, objTh, objThn, objThs, objLog, objLogs]

/-- The object tables, part 3. -/
def objs3 : List Obj := [objLogp, objDrw, objDrws, objPs, objPss, objSvc, objSvcs, objPeer, objPeers, objTgt, objTgts, objDrv, objDrvc, objDrvs, objDap]

/-- The object tables, part 4. -/
def objs4 : List Obj := [objDaps, objFrLast, objFrTx, objCan, objCans, objT1s, objT1ss, objWatch, objSess, objHost, objHosts, objStr, objStrs, objSec, objKey]

/-- The object tables, part 5. -/
def objs5 : List Obj := [objKeyw, objDbg, objAtt, objSecc, objTre, objTreGrp, objTres, objTresGrp, objNv, objNvs, objNvr, objMem, objFw, objDiag, objDiagp]

/-- The object tables of the dictionary. -/
def objs : List Obj := objs0 ++ objs1 ++ objs2 ++ objs3 ++ objs4 ++ objs5

/-- The object table whose first index is given. -/
def objOf (base : Nat) : Option Obj := objs.find? (fun o => o.base.beq base)

/-- The row of an object for a sub-index. -/
def Obj.row (o : Obj) (sub : Nat) : Option Entry := o.rows.find? (fun e => e.lo.ble sub && sub.ble e.hi)

/-- The row of a sub-index; the enable entries of a channel object exist for c = 0 to 255 only. -/
def rowAt (o : Obj) (u sub : Nat) : Option Entry :=
  if (o.base = 0x2000 ∨ o.base = 0x2400) ∧ 256 ≤ u ∧ 0x20 ≤ sub then none else o.row sub

/-- The value that a register of the dictionary has before anything has written it: the defaults of the object tables. DEFINED
(0x3000 + p:01) is 1 for P0 (Table 7-11), RTC and Hutch-held settings as their tables give. -/
def dflt (k : Nat) : Nat :=
  let base := k / 16777216
  let unit := k / 256 % 65536
  let sub := k % 256
  if base = 0x3000 ∧ sub = 1 then (if unit = 0 then 1 else 0)
  else match objOf base with
    | none => 0
    | some o => match o.row sub with
      | none => 0
      | some e => e.dflt

/-- Where a dictionary address (index, sub-index) points: the object table, the unit and the sub-index of the key. -/
def locate (idx sub : Nat) : Option (Obj × Nat × Nat) :=
  match objs.find? (fun o => decide (o.base ≤ idx ∧ idx < o.base + o.count)) with
  | none => none
  | some o => some (if o.win ∧ 1 ≤ sub ∧ sub ≤ 16 then (o, 16 * (idx - o.base) + (sub - 1), 1) else (o, idx - o.base, sub))

/-- The index and sub-index at which a register's key stands in the dictionary. -/
def addressOf (k : Nat) : Nat × Nat :=
  let base := k / 16777216
  let unit := k / 256 % 65536
  let sub := k % 256
  match objOf base with
  | none => (base + unit, sub)
  | some o => if o.win then (base + unit / 16, unit % 16 + 1) else (base + unit, sub)

end Sys2Proof.Machine
end

