-- ==== Sys2Proof/Machine/State.lean ====
section
/-! DEFINITION. The state of the block as plain data. The numbered registers of the object dictionary stand in three tables
(`active` and `shadow`: the banks of RWC entries, R15, R317; `regs`: RW entries and the RO entries that hold a value of their
own); what the spec gives the machine beside them (timers, latch entries, outputs, queues, sessions, flash cells) stands in
named fields. A table is a list of (key, value) pairs, keys strictly rising, no entry equal to its default, so that an empty table
is the table of defaults (`tabGet`, `tabSet` in Machine/Tab.lean). -/
namespace Sys2Proof.Machine

/-- Table 2-8, the states of a channel. -/
inductive ChanState where
  | off
  | armed
  | ramp
  | settle
  | running
  | absent
  | tripped
  | margin
  | parked
  deriving DecidableEq, Repr

/-- Table 7-3, the states of a partition that the sequence and the shut-off give it; RELIEF and ENFORCED are UP with a relief
level (R204). -/
inductive PartState where
  | down
  | starting
  | up
  | stopping
  | faulted
  | lockedOut
  deriving DecidableEq, Repr

/-- PHASE of Table 5-17. -/
inductive SeqPhase where
  | notMember
  | inStep
  | catchingUp
  | descending
  | lowered
  deriving DecidableEq, Repr

/-- LOOP_STATE of Table 8-6. -/
inductive TrimState where
  | zero
  | preset
  | closed
  | saturated
  | hiZ
  deriving DecidableEq, Repr

/-- Table 11-1, the power states. -/
inductive PowerState where
  | backup
  | standby
  | starting
  | active
  deriving DecidableEq, Repr

/-- What a channel was before it entered or left window in a tick without being connected: the tick, its state and the last entries into each
state, WINDOW_EXITS and RAMP_SKIPPED. A stop or a park of the same tick takes the change back (R57 item 3). -/
structure ChanMark where
  tick    : Nat
  state   : ChanState
  entered : List (Nat × Nat)
  exits   : Nat
  skip    : Bool
  deriving DecidableEq, Repr

/-- The dynamic state of one channel that has no dictionary entry of its own or that FLAGS reports bit by bit (R52 to R59). -/
structure ChanX where
  /-- STATE (R52); of a CURRENT channel only TRIPPED is kept here (R58). -/
  state      : ChanState := .off
  /-- Stamp of the last entry into each state, by its code (Table 5-11). -/
  entered    : List (Nat × Nat) := []
  /-- Tick at which the channel last entered window, the start of its settle timer (R53). -/
  settleAt   : Nat := 0
  /-- Tick of arming, the start of the deadline timer. -/
  armedAt    : Nat := 0
  /-- Stamp of the last window exit (R56). -/
  exitAt     : Option Nat := none
  /-- Arrival tick at which a shut-off turned it OFF while it was connected (R56). -/
  cutAt      : Option Nat := none
  /-- RECOVERED and the stamp of the latest entry to OFF before that cut, for a channel that the same tick makes TRIPPED (R56, R57). -/
  cutRec     : Bool := false
  cutOff     : Option Nat := none
  /-- Deglitch outputs (R102). -/
  upperCmp   : Bool := false
  lowerCmp   : Bool := false
  /-- Stamps of the last assertion of the upper and the last clearing of the lower comparator (Table 5-11, R106). -/
  upperAt    : Option Nat := none
  lowerOff   : Option Nat := none
  /-- The comparator outputs as they change while the clock of the cluster is lost (upper, lower); its status shows the last ones
  before (R59). -/
  lostCmp    : Option (Bool × Bool) := none
  /-- FLAGS bits of the warnings (R96). -/
  upperWarn  : Bool := false
  lowerWarn  : Bool := false
  /-- Whether EV 0x12 has been raised and not cleared, per side. -/
  upperSet   : Bool := false
  lowerSet   : Bool := false
  /-- Consecutive results beyond, and inside by the hysteresis, per side. -/
  upperRun   : Nat := 0
  lowerRun   : Nat := 0
  upperIn    : Nat := 0
  lowerIn    : Nat := 0
  /-- Open-wire flag, consecutive outcomes (R95) and the test pairs that its next visits are: true the pair of R93, false that of R92. -/
  openWire   : Bool := false
  owFails    : Nat := 0
  owPasses   : Nat := 0
  owKinds    : List Bool := []
  rampSkip   : Bool := false
  recovered  : Bool := false
  stale      : Bool := false
  hasResult  : Bool := false
  /-- The next gap integral is cleared without being counted (R98). -/
  gapClear   : Bool := true
  /-- The gap integrator saturated at its last visit (R98). -/
  gapSat     : Bool := false
  /-- Latest result and its rail value, as the cluster's own logic holds them, and the latest result from no test window with its rail value (R232,
  R432). -/
  res        : Nat := 0
  rail       : Int := 0
  loopRail   : Int := 0
  loopRes    : Nat := 0
  /-- By how much its visits have been delayed since its latest result, in ns (R66). -/
  late       : Nat := 0
  /-- The stamp of the latest result, and the result before it with its stamp (for FIRST_RESULT, Table 9-1). -/
  resAt      : Nat := 0
  prevRes    : Option (Nat × Nat) := none
  /-- Remainders below 1 nC of the positive and negative charge, in 2^-32 of 10^-21 C (R97), and below 1 nJ of the energies, in
  2^-32 of 10^-27 J (R220). -/
  chargeRem  : Nat := 0
  chargeRemN : Nat := 0
  energyRem  : Nat := 0
  energyRemN : Nat := 0
  /-- Held setpoints before each relief step TRIM_DOWN that is applied, latest first (R215). -/
  trimSaved  : List (Option Nat) := []
  /-- Held setpoint set in the control plane by SET_TRIM or TRIM_DOWN (R235), none: HELD_SETPOINT or NOMINAL. -/
  held       : Option Nat := none
  /-- Setpoint of a margin in force, and whether it is a static margin (R237) or a sweep. -/
  marginSet  : Option Nat := none
  staticMgn  : Bool := false
  /-- A margin that waits for the second visit of an open-wire pair (Table 8-4). -/
  marginPend : Option Nat := none
  /-- Relief has parked it, or unparked it, while the clock of its cluster is lost: it is PARKED, or ARMED from PARKED, when the clock is
  back (R33, R59). -/
  parkPend   : Bool := false
  unparkPend : Bool := false
  /-- The latest change by entering or leaving window without being connected (R57 item 3). -/
  mark       : Option ChanMark := none
  /-- Consecutive results inside SET_TOL (R233). -/
  settled    : Nat := 0
  deriving DecidableEq, Repr

/-- One enable pin (R45 to R50, R132). -/
structure EnX where
  /-- Logical level of the output latch. -/
  asserted   : Bool := false
  /-- The latch of R132 in the pin's bank holds a configured mode and polarity. -/
  configured : Bool := false
  mode       : Nat := 0
  polarity   : Nat := 0
  /-- Tick of the last change of the latch (Table 5-11). -/
  changedAt  : Option Nat := none
  /-- A level ordered while the clock of the cluster is lost, which the enable takes when it is back (R33, R115). -/
  order      : Option Bool := none
  deriving DecidableEq, Repr

/-- One TRM output (Table 8-1). -/
structure TrimX where
  loop : TrimState := .hiZ
  code : Int := 0
  deriving DecidableEq, Repr

/-- One fault latch entry (Table 1-2), with the fault line received when its cause is 0x03. -/
structure Latch where
  isSet     : Bool := false
  firstTick : Nat := 0
  upperMap  : Nat := 0
  lowerMap  : Nat := 0
  cause     : Nat := 0
  later     : Nat := 0
  fltLine   : Nat := 0
  /-- The latest result of its lowest tripped channel stamped before FIRST_TICK, and its age (Table 9-1). -/
  result    : Nat := 0
  age       : Nat := 4294967295
  /-- It has reached the Hutch (R23, R246). -/
  arrived   : Bool := false
  deriving DecidableEq, Repr

/-- A step of a member in progress (R135): the group state, its direction and the present ORDER group. -/
structure SeqStep where
  st    : Nat
  exit  : Bool
  order : Nat
  /-- Entries of this ORDER group that have completed. -/
  done  : List Nat := []
  deriving DecidableEq, Repr

/-- The merge window of a partition event (R246): when it opened and the clusters whose entries arrived in it. -/
structure Merge where
  openedAt : Nat
  clusters : List Nat
  /-- An entry came after the window while the drawer still waits to be staged (R248, R261). -/
  late     : Bool := false
  deriving DecidableEq, Repr

/-- One drawer as the Hutch merges and stages it (Table 9-1), before its tag: the fields of the record, and whether it was staged before
the present power-up (R254). -/
structure Drawer where
  seq       : Nat := 0
  kind      : Nat := 1
  part      : Nat := 255
  cause     : Nat := 0
  /-- FLAGS (Table 9-2), as far as they are known. -/
  flags     : Nat := 0
  firstTick : Nat := 0
  trestle   : Nat := 0
  firstChan : Nat := 65535
  firstSide : Nat := 0
  clusters  : Nat := 0
  later     : Nat := 0
  retries   : Nat := 0
  shelf     : Nat := 0
  rtc       : Nat := 0
  coFault   : Nat := 0
  profile   : Nat := 0
  coCount   : Nat := 0
  stageDelay : Nat := 0
  age       : Nat := 0
  result    : Nat := 0
  temp      : Nat := 32768
  stagedAt  : Nat := 0
  old       : Bool := false
  deriving DecidableEq, Repr

/-- Phase of a Bench sweep (R239). -/
inductive BenchPhase where
  | idle
  | waiting
  | settling
  | dwelling
  | verdict
  | returning
  | ended
  deriving DecidableEq, Repr

/-- A move of a sweep (R239): the step passes, the side ends with a reason of Table 8-2, or the return to the held setpoint is over. -/
inductive BenchAct where
  | pass
  | side (reason : Nat)
  | back
  deriving DecidableEq, Repr

/-- A Bench sweep: the parameters read at its start and its progress (R238, R239). -/
structure Bench where
  phase    : BenchPhase := .idle
  /-- What the sweep does at the end of this tick, when nothing that goes before it (R241) has aborted it. -/
  pend     : Option BenchAct := none
  chan     : Nat := 0
  mode     : Nat := 0
  sides    : Nat := 0
  stepUv   : Nat := 0
  dwell    : Nat := 0
  timeout  : Nat := 0
  watchCh  : Nat := 0
  watchLo  : Nat := 0
  watchHi  : Nat := 0
  base     : Nat := 0
  /-- The low side is running. -/
  low      : Bool := false
  /-- Step number k. -/
  k        : Nat := 0
  /-- Start of the present wait. -/
  since    : Nat := 0
  /-- A watch result left its range in this dwell. -/
  watchBad : Bool := false
  /-- A management reset ends the sweep after the step in progress (R35). -/
  ending   : Bool := false
  deriving DecidableEq, Repr

/-- A sub-interval that has ended (R212): its tick of begin and of end, its energy in nJ and its recent power in mW. -/
structure SubInterval where
  begun  : Nat
  ended  : Nat
  energy : Nat
  recent : Nat
  deriving DecidableEq, Repr

/-- The dynamic state of one partition that has no dictionary entry of its own. -/
structure PartX where
  state      : PartState := .down
  /-- The partition line of the fault fabric (R108). -/
  line       : Bool := false
  /-- Spanning shut-off that drives TR_FLT, as configured when it began (R116). -/
  phase      : SeqPhase := .notMember
  position   : Nat := 0
  step       : Option SeqStep := none
  /-- The exit step of the present group state is complete; the member waits for the advance down (R135). -/
  exitDone   : Bool := false
  /-- Lower end of a descent in progress (R155). -/
  descendTo  : Option Nat := none
  startPend  : Bool := false
  /-- EV 0x42 already raised in this step (R153). -/
  waitRaised : Bool := false
  /-- Start of the present continuous stay in UP, RELIEF or ENFORCED (R127). -/
  upSince    : Option Nat := none
  /-- Length of the last completed stay of that kind. -/
  upLast     : Nat := 0
  /-- Tick of the last entry into STARTING (R212). -/
  startedAt  : Nat := 0
  /-- End of the discharge time (R115). -/
  dischEnd   : Option Nat := none
  /-- The discharge enables that the shut-off asserted, as configured when it began (R116). -/
  dischEns   : List Nat := []
  /-- Device time of the latest shut-off: a cause of the same tick joins it (R128, R129). -/
  cutTick    : Option Nat := none
  /-- A retry is pending: the tick at which it is due (R127). -/
  retryAt    : Option Nat := none
  /-- Cause of the shut-off in force. -/
  cause      : Nat := 0
  /-- An event is open (R244), its merge window, and whether the Hutch stages the drawer itself (R245). -/
  eventOpen  : Bool := false
  merge      : Option Merge := none
  merged     : Bool := false
  hutchStage : Bool := false
  /-- SEQ of the drawer that the open event has staged (R248). -/
  evSeq      : Option Nat := none
  /-- What the drawer of the open event records of the device at FIRST_TICK (Table 9-1). -/
  snap       : Drawer := {}
  /-- Relief (R214 to R217): steps applied (their types, first first), the tick of the last one, causes now. -/
  applied    : List Nat := []
  tStep      : Nat := 0
  overPower  : Bool := false
  /-- Levels that the relief has reached (R204): 0 none, 1 grace, 2 to 5 enforced. -/
  relief     : Nat := 0
  /-- The last sub-intervals, newest first: start tick, energy in nJ, recent power in mW (R212, R217). -/
  subs       : List SubInterval := []
  subIn      : Nat := 0
  /-- Energy in the running interval and since the cold start in nJ (R220). -/
  intIn      : Nat := 0
  intOut     : Nat := 0
  totIn      : Nat := 0
  totOut     : Nat := 0
  frozen     : Bool := false
  /-- Flag GAP of the running interval (Table 7-9, byte 6, bit 4), as 16 or 0. -/
  intFlags   : Nat := 0
  /-- Request bucket in thousandths of a token, and when it was last filled (R213). -/
  tokens     : Nat := 800000000
  tokensAt   : Nat := 0
  ev23At     : Option Nat := none
  /-- Start of the host watch (R355); none when it does not run. -/
  hostAt     : Option Nat := none
  /-- The tick at which the partition entered STOPPING: the host watch stands still from it on. -/
  hostOff    : Nat := 0
  bench      : Bench := {}
  deriving DecidableEq, Repr

/-- One armed or waiting action (R143): the entry with which it armed (R146), its stage and its slots (R149). -/
structure ActX where
  entry    : Nat
  part     : Nat
  armed    : Bool
  armedAt  : Nat
  issued   : Bool
  issuedAt : Nat
  slots    : List Nat
  /-- Done or flagged by an event that has come (a PMBus result, a settled trim): outcome code 1 DONE, 2 FLAGGED and reason. -/
  result   : Option (Nat × Nat)
  /-- Its present wait for a slot or for quota has been counted (R153). -/
  waited   : Bool := false
  deriving DecidableEq, Repr

/-- One step group on this device (R134, R169 to R182). -/
structure GroupX where
  /-- TR_STEPn is seen high since this tick (R170). -/
  highSince : Option Nat := none
  guardFrom : Option Nat := none
  checkFrom : Option Nat := none
  mismatch  : Bool := false
  missing   : Bool := false
  released  : Bool := false
  /-- Zeroed by a replay shut-off in this tick (R170). -/
  zeroedAt  : Option Nat := none
  /-- Consecutive disagreeing and agreeing PRESENCE messages per DEVID (R182). -/
  disagree  : List (Nat × Nat) := []
  agree     : List (Nat × Nat) := []
  /-- TR_FLTn driven low by this device until this tick (R118), seen low since, high since this tick at the earliest (R121). -/
  fltDrive  : Option Nat := none
  fltLow    : Option Nat := none
  fltHigh   : Option Nat := none
  /-- Another device's driver has pulled TR_FLTn low and has not been seen to release it (R121). -/
  fltPeer   : Bool := false
  /-- STATE messages of this check that were resent (R181). -/
  resends   : Nat := 0
  /-- This device is to repeat STATE of the latest advance as the new group leader (R191). -/
  repeats   : Bool := false
  /-- Tick of the latest STATE that decided a check; tick of the latest PRESENCE that disagreed, with the counts, the hold and MISMATCH_COUNT
  before it (Table 6-6). -/
  stateAt   : Option Nat := none
  presTie   : Option (Nat × List (Nat × Nat) × Bool × Nat) := none
  deriving DecidableEq, Repr

/-- A window with the settings with which it began (R73): its length in ps, whether SYNCOUT of its cluster is its lock source, and KIND,
DIVIDER, CUR_SCALE and CUR_OFFSET of its channel. -/
structure Window where
  chan    : Nat
  ps      : Nat
  lock    : Bool
  kind    : Nat
  divider : Nat
  scale   : Nat
  offset  : Nat
  deriving DecidableEq, Repr

/-- The round of a slice over its group (R65): the channel it has served last, the tick from which its next window may be open, and that
window, and the second one of an open-wire pair, when a commit came while it was in progress; the tick before which no further window of the
group opens (R77), and whether this round has had its test pair (R94). -/
structure Round where
  last   : Option Nat := none
  opens  : Nat := 0
  win    : Option Window := none
  win2   : Option Window := none
  hold   : Nat := 0
  tested : Bool := false
  deriving DecidableEq, Repr

/-- One cluster (R25, R81 to R91, R122). -/
structure ClusterX where
  counter    : Nat := 0
  acc        : Nat := 0
  inc        : Nat := 2147483648
  /-- The latest frame pulse and the difference it measured, in 2^-32 of a tick (R25). -/
  pulsed     : Option Nat := none
  pulseDiff  : Int := 0
  clockLost  : Bool := false
  lostAt     : Nat := 0
  /-- Device time at which the loss was declared (R124), and the partitions whose channels go OFF at the return, as a map (R59). -/
  lostTime   : Nat := 0
  lostParts  : Nat := 0
  /-- The partitions that the loss itself shut off, as a map (R122). -/
  lostHits   : Nat := 0
  /-- Slice serving each group, then the spare; none: no slice (Table 3-5). -/
  sliceMap   : List (Option Nat) := [some 0, some 1, some 2, some 3, some 4, some 5, some 6, some 7, some 8]
  calibrated : Nat := 0
  suspect    : Nat := 0
  failed     : Nat := 0
  /-- Last tick at which each slice was marked suspect (R86). -/
  suspectAt  : List (Nat × Nat) := []
  calAt      : List (Nat × Nat) := []
  epochAt    : Nat := 0
  calDone    : Bool := false
  /-- The check reference has been judged in this epoch (R91); a reading of the diode holds the spare until this tick (R90). -/
  refDone    : Bool := false
  spareBusy  : Nat := 0
  /-- The round of each group that has begun one (R65). -/
  rounds     : List (Nat × Round) := []
  tourDone   : Bool := false
  /-- Channels of the cluster that the tour has compared (R85), as a map. -/
  toured     : Nat := 0
  refSuspect : Bool := false
  refBad     : Nat := 0
  refGood    : Nat := 0
  lockFall   : Bool := false
  /-- Carrier period of the fallback in ps, and the tick since which its carrier may have run without interruption (R72). -/
  lockPeriod : Nat := 0
  lockAt     : Nat := 0
  /-- The carrier has run its 10 periods: the windows that open from now on are LOCK windows (R72). -/
  lockRes    : Bool := false
  /-- The tick at which the first of them opens. -/
  lockOpen   : Option Nat := none
  /-- SYNCOUT held low until its common origin T0 (R77); the origin of the running SYNCOUT. -/
  syncRestart : Option Nat := none
  syncOrigin : Option Nat := none
  /-- Phase accumulator and increment of the running SYNCOUT (R74). -/
  syncAcc    : Nat := 0
  syncInc    : Nat := 0
  /-- End of the high phase that was in progress at the swap (R77). -/
  syncTail   : Nat := 0
  /-- When each group's open-wire test last began (R92, R93). -/
  owAt       : List (Nat × Nat) := []
  deriving DecidableEq, Repr

/-- An event record (Table 12-7). -/
structure EventRec where
  code   : Nat
  source : Nat
  part   : Nat
  clear  : Bool := false
  queued : Bool := false
  gap    : Bool := false
  eseq   : Nat := 0
  param  : Bytes := []
  stamp  : Nat := 0
  deriving DecidableEq, Repr

/-- One staging set (R321 to R325). -/
structure StageSet where
  entries   : List (Nat × Nat) := []
  discarded : Bool := false
  lastStatus : Nat := 0
  lastReport : Nat := 0
  lastTick  : Nat := 0
  deriving DecidableEq, Repr

/-- What a commit in progress carries (R16, R309): a set (0 to 15 partitions, 16 OWNER), a switch, or the power-up profile. -/
inductive CommitKind where
  | set (w : Nat)
  | switch (shelf : Nat) (pin : Bool)
  | powerUp (shelf : Nat)
  deriving DecidableEq, Repr

/-- The armed commit: what it is, its tick T, the staged values, the participants that have not answered READY. -/
structure Armed where
  kind  : CommitKind
  tick  : Nat
  /-- Device time of the request: its stage and check phases are in progress for what happens in that tick (R323). -/
  since : Nat
  /-- Every participant could answer READY when T was sent to it (R17). -/
  ready : Bool := true
  deriving DecidableEq, Repr

/-- A ramp-capture unit (R164 to R166): outcome code, arming tick, occurrences. -/
structure CapX where
  outcome : Nat := 0
  /-- The arming tick, and the counters of the clusters of its start and its stop source at it (R25, R164). -/
  armedAt : Nat := 0
  startBy : Nat := 0
  stopBy  : Nat := 0
  /-- The first occurrence of each source at or after arming, as it is stamped (R164). -/
  seenStart : Option Nat := none
  seenStop  : Option Nat := none
  start   : Option Nat := none
  stop    : Option Nat := none
  dur     : Nat := 0
  deriving DecidableEq, Repr

/-- A DAP session (R342): who it belongs to and its per-session state. -/
structure Session where
  tr       : Transport
  ep       : Nat
  keyId    : Nat
  opened   : Nat
  lastUsed : Nat
  cursor   : Nat
  recSel   : Nat := 0
  memAddr  : Nat := 4194304
  memLen   : Nat := 16
  subscribed : Bool := false
  evOut    : List EventRec := []
  evGap    : Bool := false
  evSentAt : Option Nat := none
  /-- Response cache: TID, request payload, response payload, when sent (R344). -/
  cache    : List (Nat × Bytes × Bytes × Nat) := []
  /-- READ_STATUS of the latest drawer read (Table 9-11). -/
  drawStat : List (Nat × Nat) := []
  attTag   : Bytes := []
  /-- EVENT_NEXT read since the last EV 0x04 (R332). -/
  nextSeen : Bool := true
  deriving DecidableEq, Repr

/-- A frame that the device has put on a field link: the CAN identifier (0 on T1S), and the data field of the CAN frame, or the Ethernet
frame from its destination address to the end of its payload. -/
structure OutFrame where
  link : Link
  id   : Nat
  data : Bytes
  brs  : Bool := false
  deriving DecidableEq, Repr

/-- What the device holds of a field link (R347, R354): why it is down (Table 13-10; 0: it is not), the tick of its last bus-off, the one at
which a valid frame was last received or the link restarted, and whether no PLCA beacon is seen. -/
structure LinkX where
  cause      : Nat := 0
  offAt      : Nat := 0
  heardAt    : Nat := 0
  beaconLost : Bool := false
  deriving DecidableEq, Repr

/-- One item of a request (Table 13-2). -/
structure ReqItem where
  write  : Bool
  shadow : Bool
  snap   : Bool
  idx    : Nat
  sub    : Nat
  val    : Bytes
  deriving DecidableEq, Repr

/-- One of the 17 keys (R340, R341, R449): present or erased, its value, its counters. -/
structure KeyX where
  key       : Option (BitVec 128) := none
  freshLast : Nat := 0
  /-- Accepted values below FRESH_LAST, as a map of 63 bits: bit i is FRESH_LAST - 1 - i. -/
  accepted  : Nat := 0
  freshTx   : Nat := 0
  /-- Stored values in general-data flash (R341). -/
  storedRx  : Nat := 0
  storedTx  : Nat := 0
  /-- Ticks of the step 1 failures (R455) and of the refusals sent (R341) of the last second, and of the last EV 0x66. -/
  failsAt   : List Nat := []
  evAt      : Option Nat := none
  refusalsAt : List Nat := []
  deriving DecidableEq, Repr

/-- A request whose response waits for a commit or a switch (R324, R343), for the tick of its next RW or WO item (R326) or for its snapshot tick
(R327): for which (0 to 15 the set of a partition, 16 that of OWNER, 17 a switch, 18 the next tick, 19 the snapshot tick) and, once a commit or
switch has ended, its status; the session, its role, and the TID; the request's payload; the response items so far; the item that waits and those
behind it; what the hardware answers, and whether the response will be discarded (R354); the snapshot tick, and the values taken at it, each under
the number of items from its own to the last; the owner key that the response is tagged under where the batch has changed it, and the KEY_IDs whose
sessions close after the response (R453). -/
structure Wait where
  what    : Nat
  result  : Option Nat := none
  sess    : Nat
  role    : Role
  tid     : Nat
  request : Bytes
  done    : Bytes
  item    : ReqItem
  rest    : List ReqItem
  hw      : Hw
  muted   : Bool := false
  snapAt  : Nat := 0
  taken   : List (Nat × Bytes) := []
  oldKey  : Option KeyX := none
  closes  : List Nat := []
  deriving DecidableEq, Repr

/-- A complete request that awaits execution (R328, R343): when it arrived, and whether its link went down since, so that the response is
discarded (R354). -/
structure InReq where
  req   : Arrival
  at_   : Nat
  muted : Bool := false
  deriving DecidableEq, Repr

/-- A segment assembly in progress (R346). -/
structure Assembly where
  link   : Link
  ep     : Nat
  tid    : Nat
  next   : Nat
  bytes  : Bytes
  lastAt : Nat
  deriving DecidableEq, Repr

/-- A stream (R375 to R380): runs, ring, marks. -/
structure StreamX where
  /-- Per channel: results seen and their sum in the present run. -/
  runs     : List (Nat × Nat × Nat) := []
  /-- Records in the ring, oldest first: head, value, stamp (a TIME record: that of the sample behind it), and when written. -/
  ring     : List (Nat × Nat × Nat × Nat) := []
  lostRun  : Nat := 0
  ev75     : Bool := false
  paused   : Bool := false
  deriving DecidableEq, Repr

/-- One transaction waiting on a PS port (R387): its entry, its command, data, and why it was asked for. -/
inductive PsWhy where
  | action (e : Nat)
  | loop (c : Nat)
  | shutoff (tries : Nat)
  | poll (k : Nat)
  | mode
  deriving DecidableEq, Repr

/-- A waiting or running PS transaction. On the bus it bears the page that its turn writes first (0xFF: none), and whether that PAGE write is
still on the bus (R387). -/
structure PsTx where
  entry : Nat
  part  : Nat
  cmd   : Nat
  data  : Nat
  why   : PsWhy
  page  : Nat := 255
  paging : Bool := false
  deriving DecidableEq, Repr

/-- One two-wire port: a power-stage port (R385 to R395); PEER as controller, which recovers its bus as they do (R403); SVC, with its attention
pulse (R402). SDA is held low (R394); the SCL pulses that the last recovery of the bus sent before its STOP (R391); the tick at which the last
attention pulse began, whether a pulse was cut off and is to be given again, and the tick of the last transaction. -/
structure PortX where
  sdaLow   : Bool := false
  freed    : Nat := 0
  pulseAt  : Option Nat := none
  again    : Bool := false
  stopAt   : Nat := 0
  queue    : List PsTx := []
  busy     : Option PsTx := none
  lastPart : Nat := 15
  recovering : Bool := false
  stuck    : Bool := false
  deriving DecidableEq, Repr

/-- A target entry's status (Table 15-13) and the trim loop's command (R231). -/
structure EntryX where
  voutMode : Nat := 255
  result   : Nat := 0
  loop     : Nat := 0
  fails    : Nat := 0
  modeRead : Bool := false
  commanded : Option Nat := none
  sentAt   : Option Nat := none
  deriving DecidableEq, Repr

/-- One SVC window (Table 15-6). -/
structure SvcX where
  pointer : Nat := 0
  req     : Bytes := []
  overrun : Bool := false
  refused : Bool := false
  /-- Frames awaiting reading, head first, with the event mark. -/
  queue   : List (Bool × Bytes) := []
  /-- The latest attention pulse given while the window held a frame; none: none since its queue was empty (R402). -/
  attnAt  : Option Nat := none
  deriving DecidableEq, Repr

/-- The output pins of the device whose level its state decides (Table 19-10); a phase output of a drive by drive, phase and side. -/
inductive Pin where
  | en (e : Fin 256)
  | syncout (n : Fin 8)
  | drv (d : Fin 4) (phase : Fin 3) (high : Bool)
  | posClk (d : Fin 4)
  | safeN
  | trStep (g : Fin 4)
  | trFlt (g : Fin 4)
  | trTsync
  | hirqN
  | canTx (k : Fin 2)
  | enCore
  deriving DecidableEq, Repr

/-- The outputs of one phase of a drive (R428, R429): begin and end of its latest high-side pulse and of the latest low-side pulse that a
high-side pulse ended, and from when its low output is on next; all in ps of device time. -/
structure PhaseX where
  high    : Option (Nat × Nat) := none
  low     : Option (Nat × Nat) := none
  lowFrom : Nat := 0
  deriving DecidableEq, Repr

/-- A drive (R426 to R438). -/
structure DriveX where
  running   : Bool := false
  fault     : Nat := 0
  /-- Duties per phase in parts of 2^16, and carries in ps (R428). -/
  duty      : List Int := [0, 0, 0]
  carry     : List Int := [0, 0, 0]
  pulses    : List PhaseX := [{}, {}, {}]
  /-- When its latest fault was found (R438, R440). -/
  faultAt   : Option Nat := none
  /-- Phase channels that have published since the last run of the current loop (R432). -/
  fresh     : List Nat := []
  iqInt     : Int := 0
  idInt     : Int := 0
  spInt     : Int := 0
  curSet    : Int := 0
  clipRaised : Bool := false
  /-- Position (R434, R435). -/
  lastRaw   : Option Nat := none
  unwrapped : Int := 0
  failRun   : Nat := 0
  qPrev     : Int := 0
  tChange   : Nat := 0
  points    : List (Int × Nat) := []
  lastSign  : Int := 0
  estimating : Bool := false
  standstill : Bool := true
  stallFrom : Option Nat := none
  /-- Tick at which its carrier began, and the periods of it that have begun since (R427). -/
  carrierAt : Nat := 0
  begun     : Nat := 0
  /-- Carrier periods since the last position read (R434). -/
  periods   : Nat := 0
  /-- Voltage vector of the latest current-loop run in parts of 2^16, and whether the carrier has yet to take it (R431, R432). -/
  vd        : Int := 0
  vq        : Int := 0
  vNew      : Bool := false
  deriving DecidableEq, Repr

/-- The state of a flash granule beside its data (R409, R413). -/
structure Granule where
  intent  : Bool := false
  marker  : Bool := false
  damaged : Bool := false
  /-- Found TORN and counted in TORN_PAGES. -/
  seen    : Bool := false
  deriving DecidableEq, Repr

/-- The state of a flash sector (R411, R415, R417). -/
structure Sector where
  weak    : Bool := false
  failed  : Bool := false
  open_   : Bool := false
  deriving DecidableEq, Repr

/-- Why a program operation or an erase was asked for; the classes of R418. -/
inductive NvWhy where
  | drawer
  | ringErase (log : Bool)
  | shelf
  | firmware
  | owner
  deriving DecidableEq, Repr

/-- Waiting or running flash work (R412, R415, R418): a program of bytes at an address, or an erase of a number of sectors. -/
structure NvOp where
  why   : NvWhy
  erase : Bool
  addr  : Nat
  data  : Bytes := []
  count : Nat := 1
  deriving DecidableEq, Repr

/-- A thermal neighbour's last reading (R274). -/
structure Neighbour where
  reading : Int
  at_     : Nat
  fresh   : Bool
  deriving DecidableEq, Repr

/-- One thermal limit (R266): in force, and its dwell count. -/
structure Limit where
  inForce : Bool := false
  count   : Nat := 0
  deriving DecidableEq, Repr

/-- The Trestle function of this device (R177 to R193). -/
structure TrestleX where
  phase     : Nat := 0
  firstCommit : Option Nat := none
  beganAt   : Option Nat := none
  closedAt  : Option Nat := none
  announced : Bool := false
  present   : List Nat := []
  foreign   : List Nat := []
  dup       : Bool := false
  /-- Last message of each DEVID, and the payload of its last PRESENCE. -/
  heard     : List (Nat × Nat) := []
  presMsgs  : List (Nat × Bytes) := []
  spanOf    : List (Nat × Nat) := []
  offset    : BitVec 64 := 0
  /-- The steering of device time (R185) in parts in 10^9: its steady rate; the rate until a tick, by which the latest residual goes; and what
  has come up of a tick, in 10^-9 of one. -/
  rate      : Int := 0
  steer     : Int := 0
  steerTo   : Nat := 0
  steerAcc  : Int := 0
  /-- Sequence number of the pulse of the latest alignment (R186). -/
  lastSeq   : Option Nat := none
  /-- Leader: sequence number and time of the last pulse, pulses given, when. Follower: captured edge. -/
  pulseSeq  : Nat := 0
  pulseTime : Nat := 0
  pulses    : Nat := 0
  pulseAt   : Option Nat := none
  edge      : Option (Nat × Nat) := none
  edgeAt    : Option Nat := none
  aligns    : Nat := 0
  aligned   : Bool := false
  lost      : Bool := false
  stepped   : Bool := false
  everAligned : Bool := false
  /-- Leader: pulses that a follower has acknowledged in succession, the pulse it acknowledged last, and the pulses given before it
  announced (R187, R190). -/
  acks      : List (Nat × Nat) := []
  ackAt     : List (Nat × Nat) := []
  joined    : List (Nat × Nat) := []
  /-- DEVIDs declared lost and not yet back (R188); those that announced and have not released (R189), with the T_rel that names
  them. -/
  gone      : List Nat := []
  unrel     : List (Nat × Option Nat) := []
  trel      : Option Nat := none
  relMap    : Nat := 0
  relAcks   : List Nat := []
  resent    : Bool := false
  liftedAt  : Option Nat := none
  /-- A joiner (R190): when the PRESENCE came by which it knows, and the groups whose state it still adopts. -/
  late      : Option Nat := none
  adopt     : List Nat := []
  presAt    : Nat := 0
  deriving DecidableEq, Repr

/-- The thermal function (R263 to R278): readings in 0.1 °C. -/
structure ThermalX where
  hotShut     : Limit := {}
  hotRelief   : Limit := {}
  hotWarn     : Limit := {}
  coldInhibit : Limit := {}
  coldWarn    : Limit := {}
  own         : Option Int := none
  decision    : Option Int := none
  medianHold  : Option Int := none
  suspect     : Bool := false
  chatter     : Bool := false
  fast        : Bool := false
  noSample    : Bool := false
  noNeighbour : Bool := false
  boost       : Bool := false
  tBoost      : Nat := 0
  request     : Bool := false
  /-- Ticks of the limit changes of the last 10 s (R268). -/
  changes     : List Nat := []
  neighbours  : List (Nat × Neighbour) := []
  /-- Spans of R274: since when every poll found the difference beyond, and within, SUSPECT_LIMIT. -/
  beyondFrom  : Option Nat := none
  withinFrom  : Option Nat := none
  sampleAt    : Option Nat := none
  lastOwnAt   : Nat := 0
  pollAt      : Option Nat := none
  deriving DecidableEq, Repr

/-- The Hutch's supply and button state (R280 to R300). -/
structure SupplyX where
  power      : PowerState := .backup
  vauxValid  : Bool := false
  vauxAbove  : Bool := false
  enCore     : Bool := false
  enCoreAt   : Nat := 0
  vcore      : Bool := false
  recoverAt  : Option Nat := none
  /-- Start of the management reset in progress or last made (R35). -/
  mgmtDownAt : Nat := 0
  faultTicks : List Nat := []
  lockout    : Bool := false
  lockRecord : Bool := false
  lockShown  : Bool := false
  plw        : Bool := false
  plwPending : Bool := false
  rtcValid   : Bool := false
  rtcDegraded : Bool := false
  /-- The islands 10 to 18 whose clock fault has been found and not mended (R32). -/
  clockBad   : List Nat := []
  rtc        : Nat := 0
  /-- Fraction of a second of RTC, in 1/128 of a tick, and of device time on the crystal, in 1/128 of a tick (R27). -/
  rtcFrac    : Nat := 0
  tickFrac   : Nat := 0
  bkupLow    : Bool := false
  retainStale : Bool := false
  /-- The last retained copy was made at a warning or by SLEEP (R287); there is no copy after a cold start. -/
  copyFresh  : Bool := true
  pendWake   : Bool := false
  longDone   : Bool := false
  pressAt    : Option Nat := none
  lpCycleAt  : Option Nat := none
  faultRaise : Nat := 0
  reason     : Nat := 1
  /-- Wake source of a power-up with reason 3: the WAKE_MASK bit. -/
  wakeSrc    : Nat := 0
  clamp      : Bool := false
  /-- PSEL as last sampled stable, and as last accepted (R283, R310). -/
  pselNow    : Nat := 0
  psel       : Nat := 0
  enPol      : Bool := false
  /-- The straps are to be sampled: the power-up has begun at the Hutch-out-of-reset step (R283). -/
  strapsDue  : Bool := true
  /-- A change of the pins waits to be judged (R312), and the refused request of the pins that is tried again, with the activities and partition
  states that stood against it when it was last tried (R310). -/
  pselDue    : Bool := false
  pselAsk    : Option (Nat × List Bool) := none
  /-- A power-up whose commit was abandoned during a management reset goes on from this shelf when the plane resumes (R305). -/
  loadNext   : Option Nat := none
  /-- In retained RAM beside the registers: what the clusters keep (0x2600 + n), and FAIL_COUNT of the target entries (R287). -/
  keptCls    : List (Nat × ClusterX) := []
  keptFails  : List (Nat × Nat) := []
  devid      : Nat := 0
  xtalOk     : Bool := true
  /-- The Hutch's record of the partitions that were live when VCORE was lost (R245). -/
  liveParts  : List Nat := []
  /-- GOAL is to be set from UP_GOAL at the first commit after a cold start (R137). -/
  goalInit   : Bool := true
  deriving DecidableEq, Repr

/-- A closed demand interval of one partition, without its record number (Table 7-9): energies in µJ and mJ, duration in ms. -/
structure Interval where
  part  : Nat
  table : Nat
  flags : Nat
  startRtc : Nat
  dur   : Nat
  ein   : Nat
  eout  : Nat
  deriving DecidableEq, Repr

/-- The ledger as a whole (R220 to R226). -/
structure LedgerX where
  /-- An interval runs; its start, its end on the grid, START_RTC, and whether it is PARTIAL so far. -/
  running   : Bool := false
  start     : Nat := 0
  endAt     : Nat := 0
  startRtc  : Nat := 0
  startNoRtc : Bool := true
  partialNow : Bool := true
  /-- Start of the running sub-interval, and whether it is unusable (R212). -/
  subStart  : Nat := 0
  subTrunc  : Bool := false
  /-- Evaluation waits for the first complete sub-interval after a management reset (R218). -/
  hold      : Bool := false
  /-- Closed intervals that wait to be written (R419). -/
  queue     : List Interval := []
  seq       : Nat := 0
  /-- Ring position of the next record (R226). -/
  ringPos   : Nat := 0
  /-- Hutch snapshot at the power-loss warning (R224): the intervals, the table, the RTC. -/
  snapshot  : Option (List Interval × Nat × Nat) := none
  /-- Intervals closed during the warning: they join the records if it is withdrawn, and the snapshot stands for them if it is not. -/
  held      : List Interval := []
  deriving DecidableEq, Repr

/-- The drawer ring and staging (R252 to R258). -/
structure LogX where
  staged    : List Drawer := []
  nextSeq   : Nat := 0
  writePos  : Nat := 0
  /-- The slot and the drawer being programmed or read back. -/
  writing   : Option (Nat × Drawer) := none
  /-- The erase command in progress (1 ERASE_OLDEST, 2 ERASE_ALL), and its sectors not yet erased. -/
  command   : Nat := 0
  /-- What the ERASED marker of the command records of the device when it was given (Table 9-1). -/
  cmdSnap   : Drawer := {}
  left      : List Nat := []
  /-- The occupied slots that the command erases (CO_COUNT of its marker). -/
  erased    : Nat := 0
  /-- The ERASED marker that waits to be written. -/
  marker    : Option Drawer := none
  /-- Drawers of events that were left before their merge windows ended, with the opening of each window: the Hutch still stages them (R244). -/
  closing   : List (Nat × Drawer) := []
  /-- READ_STATUS of the latest read of each drawer (Table 9-11). -/
  readStat  : List (Nat × Nat) := []
  fullRaised : Bool := false
  latchRaised : Bool := false
  /-- Drawers of earlier power-ups committed since this one (R254). -/
  oldDone   : Nat := 0
  deriving DecidableEq, Repr

/-- The NV island (R412 to R421). -/
structure NvX where
  queue     : List NvOp := []
  program   : Option NvOp := none
  /-- Erase in progress: work, sector, run time so far in ticks, start of the present run, suspended, failed verifies. -/
  erase     : Option NvOp := none
  eraseRun  : Nat := 0
  eraseFrom : Nat := 0
  suspended : Bool := false
  haltAt    : Nat := 0
  verifyFail : Nat := 0
  journalRead : Bool := false
  /-- The sector that the scrub read last, if it did not skip it, and when it began (R421). -/
  scrubNow  : Option Nat := none
  scrubAt   : Nat := 0
  /-- The open write session of a shelf (R304): what identifies the DAP session (R342), the shelf. -/
  shelfw    : Option (Option (Transport × Nat × Nat) × Nat) := none
  /-- Damaged copies of records of the device area (Table 16-3): copy k of record r as 2 r + k. -/
  badCopies : List Nat := []
  /-- The tick in which the image of an update was verified: FW_STATE reads 3 in it (R420). -/
  sealAt    : Option Nat := none
  deriving DecidableEq, Repr

/-- The host link (R360 to R373). -/
structure HostX where
  sleep     : Bool := false
  inFrame   : Bool := false
  mode3     : Bool := false
  /-- What was ready at the falling edge of the frame in progress: bits [31:8] of the status word, a DAP frame, and the records of each
  SPI stream. -/
  word      : Nat := 0
  dapReady  : Bool := false
  ready     : List (Nat × Nat) := []
  /-- DAP frames awaiting delivery: event mark and the bytes left. -/
  out       : List (Bool × Bytes) := []
  /-- The chunk last sent: RTYPE, MORE, its bytes; and the device phase of the last frame as sent. -/
  lastType  : Nat := 0
  lastMore  : Bool := false
  lastChunk : Bytes := []
  sent      : Bytes := []
  /-- CMD_DROPPED and DROP_CAUSE of the next status word. -/
  dropped   : Bool := false
  dropCause : Nat := 0
  /-- The next complete frame is the first after link sleep, with its WAKE_REASON; the wake window and its opening. -/
  woke      : Bool := false
  wakeReason : Nat := 0
  wakeOpen  : Bool := false
  wakeAt    : Nat := 0
  ev77At    : Option Nat := none
  deriving DecidableEq, Repr

/-- Firmware banks and the debug port (R420, R445 to R459). -/
structure SecX where
  running    : Nat := 0
  bootBank   : Nat := 0
  bootOther  : Bool := false
  inRom      : Bool := false
  /-- The boot ROM took over at a power-up, whose profile is still to be loaded (R306, R447). -/
  romUp      : Bool := false
  /-- When the boot ROM last looked for a valid bank (R447). -/
  romAt      : Nat := 0
  /-- Bank A still holds the image with which the device left the factory (R333). -/
  factory    : Bool := true
  initFails  : Nat := 0
  challenge  : Option (BitVec 128 × Nat) := none
  draws      : Nat := 0
  unlocked   : Bool := false
  halted     : Bool := false
  deriving DecidableEq, Repr

/-- Why a step may stop with a fault: no command of this block does, so there is no reason. Safe: a type with no member. -/
inductive Fault where
  deriving DecidableEq, Repr

/-- Why a step may be refused. -/
inductive Refusal where
  /-- Raised by an arm of the dispatch whose command has no meaning yet, with the command's mnemonic; no meaning answers with it.
  Safe: the machine stops where the hardware goes on. -/
  | notModelled (mnemonic : String)
  deriving DecidableEq, Repr

/-- The state of the block. -/
structure State where
  /-- Commands waiting, first in, first out. -/
  pending   : List Instr
  /-- ST code of the response to the last dictionary command (R329), and the value of a read. -/
  status    : Nat
  reply     : Bytes
  /-- Device time in ticks of 10 ns (R12). -/
  now       : Nat
  timeFree  : Bool
  refFailAt : Option Nat
  /-- The banks of RWC entries (R15) and the registers (see the head of this file). -/
  active    : List (Nat × Nat)
  /-- The active bank before the latest swap, which governs a cluster whose counter has not come to its tick (R16, R19). -/
  prior     : List (Nat × Nat)
  shadow    : List (Nat × Nat)
  regs      : List (Nat × Nat)
  /-- Retained RAM: the last copy of the retained registers (R287). -/
  retained  : List (Nat × Nat)
  committed : Bool
  sets      : List (Nat × StageSet)
  armed     : Option Armed
  /-- Commits queued (R323): the set and the tick of the request. -/
  queueC    : List (Nat × Nat)
  switchSt  : Nat
  chans     : List (Nat × ChanX)
  ens       : List (Nat × EnX)
  trims     : List (Nat × TrimX)
  clusters  : List (Nat × ClusterX)
  latches   : List (Nat × Latch)
  parts     : List (Nat × PartX)
  groups    : List (Nat × GroupX)
  actions   : List (Nat × ActX)
  caps      : List (Nat × CapX)
  mgmtDown  : Bool
  stalled   : List Nat
  islandBad : List Nat
  fabricFault : Bool
  safeN     : Bool
  vioLost   : List Nat
  evRing    : List EventRec
  evNext    : Nat
  ev04At    : Option Nat
  evQueues  : List (Nat × List EventRec)
  evQueueGap : List Nat
  /-- Events of the management plane that a management reset owes at its end (R309, R325): the tick at which
  it happened, code, PARTITION, PARAM. -/
  later     : List (Nat × Nat × Nat × Bytes)
  sessions  : List (Nat × Session)
  sessNext  : Nat
  asms      : List Assembly
  /-- Complete requests that await execution, in arrival order (R343). -/
  inbox     : List InReq
  /-- Requests whose response waits (R324). -/
  waits     : List Wait
  /-- What the device has sent on its field links, oldest first: the model's own record of its outputs. -/
  outFrames : List OutFrame
  /-- The field links: CAN0, CAN1, T1S as 0 to 2. -/
  downs     : List (Nat × LinkX)
  t1sSleep  : Bool
  keys      : List (Nat × KeyX)
  streams   : List (Nat × StreamX)
  ports     : List (Nat × PortX)
  entries   : List (Nat × EntryX)
  svc       : List (Nat × SvcX)
  peerOut   : List Bytes
  peerTries : Nat
  /-- The peer request held (R404): INDEX, SUB, and the STATUS and VALUE of its result. -/
  peerReq   : Option (Nat × Nat × Nat × Bytes)
  /-- When the peer requests of the last second were accepted (R404). -/
  peerReqsAt : List Nat
  drives    : List (Nat × DriveX)
  trestle   : TrestleX
  thermal   : ThermalX
  supply    : SupplyX
  ledger    : LedgerX
  log       : LogX
  nv        : NvX
  host      : HostX
  sec       : SecX
  flash     : List Host.Cell
  granules  : List (Nat × Granule)
  sectors   : List (Nat × Sector)
  /-- Deferred maintenance activities, in the order of their requests (R242): 0 to 15 a sweep of that partition, 16 a firmware update, 17 a
  firmware activation, 18 and 19 the erase commands of the log. -/
  waitMaint : List Nat
  fwWaitAt  : Option Nat
  /-- The model's own counter of the free values taken (log 3). -/
  draws     : Nat
  deriving DecidableEq, Repr

/-- The block right after reset: a cold start at the first application of power (R286), before VAUX is valid (Table 11-1: BACKUP). The
management island has no VCORE, so it is down. Every table is empty: each register has its default (log 7 names those to which
the spec gives none), flash reads erased, the Hutch's settings have their defaults, and no command waits. -/
def State.reset : State :=
  {
    pending := [], status := 0, reply := [], now := 0, timeFree := false, refFailAt := none,
    active := [], prior := [], shadow := [], regs := [], retained := [], committed := false, sets := [], armed := none,
    queueC := [], switchSt := 0, chans := [], ens := [], trims := [], clusters := [], latches := [],
    parts := [], groups := [], actions := [], caps := [], mgmtDown := true, stalled := [], islandBad := [],
    fabricFault := false, safeN := false, vioLost := [], evRing := [], evNext := 0, ev04At := none,
    evQueues := [], evQueueGap := [], later := [], sessions := [], sessNext := 0, asms := [], inbox := [], waits := [], outFrames := [], downs := [],
    t1sSleep := false, keys := [], streams := [], ports := [], entries := [], svc := [], peerOut := [], peerTries := 0,
    peerReq := none, peerReqsAt := [], drives := [], trestle := {}, thermal := {}, supply := {},
    ledger := {}, log := {}, nv := {}, host := {}, sec := {}, flash := [], granules := [], sectors := [],
    waitMaint := [], fwWaitAt := none, draws := 0 }

end Sys2Proof.Machine
end

