-- ==== Sys2Proof/Machine/Ops.lean ====
section
/-! DEFINITION. The named operations over the state: reading and writing registers and unit records, raising events (R24, R330 to
R332), channel states, enables, trims, actions and partition states. -/
namespace Sys2Proof.Machine

open Host

/-! ### Time -/

/-- Ticks in a microsecond, a millisecond and a second (R12). -/
def usTicks (n : Nat) : Nat := 100 * n
def msTicks (n : Nat) : Nat := 100000 * n
def sTicks (n : Nat) : Nat := 100000000 * n

/-- Whether a wait that began at a tick has lasted some ticks. -/
def State.passed (s : State) (since ticks : Nat) : Bool := decide (since + ticks ≤ s.now)

/-! ### Registers -/

/-- A register of its own value. -/
def State.reg (s : State) (k : Nat) : Nat := tabGet dflt s.regs k
/-- An RWC entry in the active bank (R15). -/
def State.act (s : State) (k : Nat) : Nat := tabGet dflt s.active k
/-- An RWC entry in the shadow bank (R15). -/
def State.shad (s : State) (k : Nat) : Nat := tabGet dflt s.shadow k
/-- Write a register. -/
def State.setReg (s : State) (k v : Nat) : State := { s with regs := tabSet dflt s.regs k v }
/-- Count in a register that saturates at 65,535. -/
def State.bump16 (s : State) (k : Nat) : State := s.setReg k (sat16 (s.reg k))
/-- Count in a register that wraps modulo 2^32. -/
def State.bump32 (s : State) (k : Nat) : State := s.setReg k (wrap32 (s.reg k))

/-! ### Unit records -/

def State.chan (s : State) (c : Nat) : ChanX := tabGet (fun _ => {}) s.chans c
def State.en (s : State) (e : Nat) : EnX := tabGet (fun _ => {}) s.ens e
def State.trim (s : State) (t : Nat) : TrimX := tabGet (fun _ => {}) s.trims t
def State.cluster (s : State) (n : Nat) : ClusterX := tabGet (fun _ => {}) s.clusters n
/-- The fault latch entry of cluster n and partition p (Table 1-2). -/
def State.latch (s : State) (n p : Nat) : Latch := tabGet (fun _ => {}) s.latches (16 * n + p)
def State.part (s : State) (p : Nat) : PartX := tabGet (fun _ => {}) s.parts p
def State.group (s : State) (n : Nat) : GroupX := tabGet (fun _ => {}) s.groups n
def State.cap (s : State) (u : Nat) : CapX := tabGet (fun _ => {}) s.caps u
def State.key (s : State) (k : Nat) : KeyX := tabGet (fun _ => {}) s.keys k
def State.stream (s : State) (k : Nat) : StreamX := tabGet (fun _ => {}) s.streams k
def State.port (s : State) (k : Nat) : PortX := tabGet (fun _ => {}) s.ports k
def State.entry (s : State) (k : Nat) : EntryX := tabGet (fun _ => {}) s.entries k
def State.window (s : State) (k : Nat) : SvcX := tabGet (fun _ => {}) s.svc k
def State.drive (s : State) (d : Nat) : DriveX := tabGet (fun _ => {}) s.drives d
def State.stageSet (s : State) (w : Nat) : StageSet := tabGet (fun _ => {}) s.sets w
def State.downCause (s : State) (l : Nat) : Nat := (tabGet (fun _ => {}) s.downs l : LinkX).cause

def State.setChan (s : State) (c : Nat) (x : ChanX) : State := { s with chans := tabSet (fun _ => {}) s.chans c x }
def State.setEn (s : State) (e : Nat) (x : EnX) : State := { s with ens := tabSet (fun _ => {}) s.ens e x }
def State.setTrim (s : State) (t : Nat) (x : TrimX) : State := { s with trims := tabSet (fun _ => {}) s.trims t x }
def State.setCluster (s : State) (n : Nat) (x : ClusterX) : State := { s with clusters := tabSet (fun _ => {}) s.clusters n x }
def State.setLatch (s : State) (n p : Nat) (x : Latch) : State :=
  { s with latches := tabSet (fun _ => {}) s.latches (16 * n + p) x }
def State.setPart (s : State) (p : Nat) (x : PartX) : State := { s with parts := tabSet (fun _ => {}) s.parts p x }
def State.setGroup (s : State) (n : Nat) (x : GroupX) : State := { s with groups := tabSet (fun _ => {}) s.groups n x }
def State.setCap (s : State) (u : Nat) (x : CapX) : State := { s with caps := tabSet (fun _ => {}) s.caps u x }
def State.setKey (s : State) (k : Nat) (x : KeyX) : State := { s with keys := tabSet (fun _ => {}) s.keys k x }
def State.setStream (s : State) (k : Nat) (x : StreamX) : State := { s with streams := tabSet (fun _ => {}) s.streams k x }
def State.setPort (s : State) (k : Nat) (x : PortX) : State := { s with ports := tabSet (fun _ => {}) s.ports k x }
def State.setEntry (s : State) (k : Nat) (x : EntryX) : State := { s with entries := tabSet (fun _ => {}) s.entries k x }
def State.setWindow (s : State) (k : Nat) (x : SvcX) : State := { s with svc := tabSet (fun _ => {}) s.svc k x }
def State.setDrive (s : State) (d : Nat) (x : DriveX) : State := { s with drives := tabSet (fun _ => {}) s.drives d x }
def State.setStage (s : State) (w : Nat) (x : StageSet) : State := { s with sets := tabSet (fun _ => {}) s.sets w x }
def State.setDown (s : State) (l cause : Nat) : State :=
  let x : LinkX := tabGet (fun _ => {}) s.downs l
  let y := { x with cause := cause, offAt := if cause = 1 then s.now else x.offAt, beaconLost := x.beaconLost && cause != 0 }
  { s with downs := tabSet (fun _ => {}) s.downs l y }

/-- Apply an operation for each unit of a list, first unit first. -/
def State.each (s : State) (l : List Nat) (f : State → Nat → State) : State := l.foldl f s

/-- The two bytes of a number, least significant first. -/
def two (n : Nat) : Bytes := leBytes 2 n

/-! ### Events (R24, R330 to R332) -/

/-- Whether a record is visible under a KEY_ID: a partition's own records and the device-wide ones, or every one to OWNER (16) and SERVICE
(17) (R331). -/
def visibleTo (keyId : Nat) (e : EventRec) : Bool := decide (16 ≤ keyId) || e.part == 255 || e.part == keyId

/-- Whether sequence number e is at or after c (modulo 2^32, within half of the range). -/
def atOrAfter (e c : Nat) : Bool := decide ((e + 4294967296 - c) % 4294967296 < 2147483648)

/-- Queue a record for a subscribed session; the 65th drops the oldest, and the next record carries GAP (R352). -/
def Session.push (x : Session) (e : EventRec) : Session :=
  if x.subscribed && visibleTo x.keyId e then
    if x.evOut.length < 64 then { x with evOut := x.evOut ++ [e] }
    else { x with evOut := match x.evOut.drop 1 ++ [e] with
                            | [] => []
                            | f :: t => { f with gap := true } :: t }
  else x

/-- Change every open session. -/
def onSessions (l : List (Nat × Session)) (f : Session → Session) : List (Nat × Session) := l.map (fun x => (x.1, f x.2))

/-- Enter a record in the ring (R332): the ring holds 2,048 records, and an overwritten one is counted. -/
def State.ringPut (s : State) (e : EventRec) : State :=
  let rec' := { e with eseq := s.evNext % 4294967296 }
  let full := s.evRing ++ [rec']
  let s := { s with evNext := s.evNext + 1, sessions := onSessions s.sessions (fun x => x.push rec') }
  if full.length ≤ 2048 then { s with evRing := full }
  else { s with evRing := full.drop 1 }.bump32 evEventsLost

/-- Whether the record that the next entry overwrites is unread by an open session (R332). -/
def State.overwritesUnread (s : State) : Bool :=
  match s.evRing with
  | [] => false
  | e :: _ => decide (2048 ≤ s.evRing.length) &&
      s.sessions.any (fun x => visibleTo x.2.keyId e && atOrAfter e.eseq x.2.cursor)

/-- Enter a record, with EV 0x04 for the first overwrite of an unread record, at most once a second (R332). -/
def State.ringEnter (s : State) (e : EventRec) : State :=
  let loses := s.overwritesUnread
  let s := s.ringPut e
  let quiet := match s.ev04At with
    | none => true
    | some t => s.passed t (sTicks 1) && s.sessions.all (fun x => x.2.nextSeen)
  if loses && quiet then
    let s := { s with ev04At := some s.now, sessions := onSessions s.sessions (fun x => { x with nextSeen := false }) }
    s.ringPut { code := 4, source := 10, part := 255, param := leBytes 4 (s.reg evEventsLost), stamp := s.now }
  else s

/-- The device time of an island (R26): the counter of a cluster whose clock runs, else the master's. -/
def State.islandTime (s : State) (dom : Nat) : Nat :=
  let x : ClusterX := tabGet (fun _ => {}) s.clusters (dom - 1)
  if decide (1 ≤ dom ∧ dom ≤ 8) && !x.clockLost then x.counter else s.now

/-- Raise an event from an island domain (R24, R26): it enters the ring, or while the management plane is down, or the crossing to the island
is isolated (R31), it waits in the queue of its island, at most 64, and an event of the management plane itself is not raised. -/
def State.raise (s : State) (dom code part : Nat) (clear : Bool := false) (param : Bytes := []) : State :=
  let e : EventRec := { code := code, source := dom, part := part, clear := clear, param := param, stamp := s.islandTime dom }
  if !s.mgmtDown && (dom == 10 || !s.stalled.contains dom) then s.ringEnter e
  else if dom == 10 then s
  else
    let q := tabGet (fun _ => []) s.evQueues dom
    if q.length < 64 then { s with evQueues := tabSet (fun _ => []) s.evQueues dom (q ++ [{ e with queued := true }]) }
    else { s with evQueueGap := s.evQueueGap.insert dom }.bump32 evEventsLost

/-! ### Ownership (Table 1-5, R197) -/

def State.kind (s : State) (c : Nat) : Nat := s.act (chKind c)
/-- The partition of a channel; an unused channel belongs to P0 (R42). -/
def State.chPart (s : State) (c : Nat) : Nat := if s.kind c = 0 then 0 else s.act (chPartition c)
/-- The channels of partition p: kind not unused (R42). -/
def State.chansOf (s : State) (p : Nat) : List Nat :=
  (List.range 512).filter (fun c => s.kind c != 0 && s.chPart c == p)
/-- The enables of partition p that are not in unused mode. -/
def State.ensOf (s : State) (p : Nat) : List Nat :=
  (List.range 256).filter (fun e => s.act (chEnMode e) != 0 && s.act (chEnPartition e) == p)
/-- The VOLTAGE channels that an enable serves (R48). -/
def State.served (s : State) (e : Nat) : List Nat :=
  (List.range 512).filter (fun c => s.kind c == 1 && s.act (chEnable c) == e)
/-- Whether an enable is a discharge enable (R115). -/
def State.isDischarge (s : State) (e : Nat) : Bool := bitOf (s.act fabDischargeMap) e
/-- The drives owned by partition p. -/
def State.drivesOf (s : State) (p : Nat) : List Nat :=
  (List.range 4).filter (fun d => s.act (drvEnable d) == 1 && s.act (drvPartition d) == p)
/-- The partitions in order. -/
def partitions : List Nat := List.range 16
def clustersAll : List Nat := List.range 8
/-- The step group of a partition. -/
def State.groupOf (s : State) (p : Nat) : Nat := s.act (partStepGroup p)
def State.defined (s : State) (p : Nat) : Bool := s.act (partDefined p) == 1
/-- How many bits of a 16-bit map are set. -/
def popCount (n : Nat) : Nat := ((List.range 16).filter (bitOf n)).length
/-- A partition is spanning when its DEVICE_MAP has more than one bit set (R199). -/
def State.spanning (s : State) (p : Nat) : Bool := decide (1 < popCount (s.act (partDeviceMap p)))

/-- The clusters in which a capture unit lies (Table 1-5), in a bank given by its read. -/
def capClusters (b : Nat → Nat) (u : Nat) : List Nat :=
  let side := fun (src tgt : Nat) => if src = 0 then [] else if src ≤ 2 then [tgt / 32] else [tgt / 64]
  side (b (capStartSrc u)) (b (capStartTarget u)) ++ side (b (capStopSrc u)) (b (capStopTarget u))

/-- Partition p holds a resource in cluster n (R197), judged in a bank given by its read. -/
def holdsIn (b : Nat → Nat) (p n : Nat) : Bool :=
  (List.range 64).any (fun i => b (chKind (64 * n + i)) != 0 && b (chPartition (64 * n + i)) == p) ||
  (List.range 32).any (fun i => b (chEnMode (32 * n + i)) != 0 && b (chEnPartition (32 * n + i)) == p) ||
  (List.range 512).any (fun c => b (chKind c) != 0 && b (chPartition c) == p && b (chTrimKind c) == 1 && b (chTrimId c) / 16 == n) ||
  (List.range 32).any (fun u => b (capPartition u) == p && (capClusters b u).contains n)

/-- Partition p holds a resource on the device (R197), judged in a bank. -/
def holds (b : Nat → Nat) (p : Nat) : Bool :=
  clustersAll.any (holdsIn b p) ||
  (List.range 256).any (fun e => bitOf (b (tgtEntry e)) 31 && field (b (tgtEntry e)) 20 4 == p) ||
  (List.range 4).any (fun d => b (drvEnable d) == 1 && b (drvPartition d) == p) ||
  (List.range 32).any (fun t => b (strEnable t) == 1 && b (strPartition t) == p)

def State.holdsIn (s : State) (p n : Nat) : Bool := Sys2Proof.Machine.holdsIn s.act p n

/-- HOME_CLUSTER (Table 5-15): the lowest-numbered cluster holding a resource of the partition, or 0xFF. -/
def State.home (s : State) (p : Nat) : Nat := (clustersAll.find? (fun n => s.holdsIn p n)).getD 255

/-- The island that raises the events of a partition's sequence: its home cluster, or the management island when it holds no
cluster resource. -/
def State.homeDom (s : State) (p : Nat) : Nat := if s.home p = 255 then 10 else s.home p + 1

/-! ### Setpoints and trims (R229 to R235) -/

/-- The held setpoint (before R236): set in the control plane, or HELD_SETPOINT, or NOMINAL. -/
def State.heldSetpoint (s : State) (c : Nat) : Nat :=
  match (s.chan c).held with
  | some v => v
  | none => if s.act (heldHeldSetpoint c) = 0 then s.act (chNominal c) else s.act (heldHeldSetpoint c)

/-- The setpoint in force, margin included (SETPOINT_NOW). -/
def State.setpoint (s : State) (c : Nat) : Nat := ((s.chan c).marginSet).getD (s.heldSetpoint c)

/-- A setpoint lies in the guard band of a channel (R235): 64 LOWER_CODE + GUARD to 64 UPPER_CODE - GUARD in pin counts, the setpoint
taken at the pin (divider in 1/65,536, one count 2,400,000 / 65,536 µV). -/
def State.inGuard (s : State) (c v : Nat) : Bool :=
  let g := s.act mgnGuard
  let x := v * 4294967296
  let u := s.act (chDivider c) * 2400000
  decide ((64 * s.act (chLowerCode c) + g) * u ≤ x ∧ x + g * u ≤ 64 * s.act (chUpperCode c) * u)

/-- The effective RAMP_START in pin counts (R141, Table 2-5): RAMP_START, or 10 % of NOMINAL at the pin, rounded down. -/
def State.rampStart (s : State) (c : Nat) : Nat :=
  if s.act (chRampStart c) = 0 then s.act (chNominal c) * 4294967296 / (s.act (chDivider c) * 24000000) else s.act (chRampStart c)

/-- Rounded quotient, halves away from zero; den > 0. -/
def roundAway (num den : Int) : Int := if 0 ≤ num then (2 * num + den) / (2 * den) else -((-2 * num + den) / (2 * den))

/-- Rounded quotient of naturals, halves up. -/
def roundUp (num den : Nat) : Nat := (2 * num + den) / (2 * den)

def clampInt (lo hi x : Int) : Int := if x < lo then lo else if hi < x then hi else x

/-- The preset code (R230): (NOMINAL - SETPOINT) over the rail step, RTOP times 97.65625 nA, that is RTOP * 100 / 1024 µV. -/
def State.presetCode (s : State) (c t : Nat) : Int :=
  clampInt (toSigned 16 (s.act (trmCodeMin t))) (toSigned 16 (s.act (trmCodeMax t)))
    (roundAway (((s.act (chNominal c) : Int) - s.setpoint c) * 1024) (100 * s.act (trmRtop t)))

/-- The TRM output of a channel after the channel took a state (Table 8-1). An output of a cluster whose clock is lost holds (R33). The
PMBus loop of a channel that is off is idle. -/
def State.trimFollow (s : State) (c : Nat) (st : ChanState) : State :=
  if s.act (chTrimKind c) == 2 && (st == .off || st == .parked || st == .tripped) then
    let e := s.act (chTrimId c)
    s.setEntry e { s.entry e with loop := 0, commanded := none }
  else if s.act (chTrimKind c) != 1 || (s.cluster (s.act (chTrimId c) / 16)).clockLost then s
  else
    let t := s.act (chTrimId c)
    let x := s.trim t
    match st with
    | .off | .parked | .tripped => s.setTrim t { loop := .zero, code := 0 }
    | .armed => s.setTrim t { loop := .preset, code := s.presetCode c t }
    | .ramp | .settle | .absent => s.setTrim t { x with loop := .preset }
    | .running | .margin => if x.loop = .closed || x.loop = .saturated then s else s.setTrim t { x with loop := .closed }

/-! ### Power-stage transactions waiting at the ports (R387) -/

def tgtPort (w : Nat) : Nat := field w 28 3
def tgtPart (w : Nat) : Nat := field w 20 4
def tgtOn (w : Nat) : Bool := bitOf w 31
def tgtAddress (w : Nat) : Nat := field w 13 7
def tgtPage (w : Nat) : Nat := field w 5 8
/-- Two enabled entries name one target page (Table 2-2, rule 3). -/
def samePage (v w : Nat) : Bool := tgtOn v && tgtOn w && tgtPort v == tgtPort w && tgtAddress v == tgtAddress w && tgtPage v == tgtPage w

/-- The target of an entry reports a VOUT_MODE that is not supported (R388). -/
def State.modeBad (s : State) (e : Nat) : Bool := (s.entry e).modeRead && (s.entry e).voutMode / 32 != 0

/-- Ask the port of an entry for a transaction; it belongs to the partition of the entry. -/
def State.askPort (s : State) (tx : PsTx) : State :=
  let n := tgtPort (s.act (tgtEntry tx.entry))
  let x := s.port n
  s.setPort n { x with queue := x.queue ++ [tx] }

/-- The VOUT_COMMAND that the trim loop of a channel sends: the rail value in µV (encoded at the turn, R388). -/
def State.askSetpoint (s : State) (c v : Nat) : State :=
  let e := s.act (chTrimId c)
  s.askPort { entry := e, part := tgtPart (s.act (tgtEntry e)), cmd := 0x21, data := v, why := .loop c }

/-- Shut-off commands of partition p (R390): waiting loop and action transactions of p are discarded, and each enabled entry of p
with a SHUTOFF_ACTION gets OPERATION before every other transaction of p. -/
def State.psShutoff (s : State) (p : Nat) : State :=
  let s := s.each (List.range 8) (fun s n =>
    let x := s.port n
    s.setPort n { x with queue := x.queue.filter (fun t => !(t.part == p && match t.why with
      | .action _ => true
      | .loop _ => true
      | _ => false)) })
  let mine := (List.range 256).filter (fun e =>
    tgtOn (s.act (tgtEntry e)) && tgtPart (s.act (tgtEntry e)) == p && field (s.act (tgtEntry e)) 25 2 != 0)
  s.each mine.reverse (fun s e =>
    let w := s.act (tgtEntry e)
    let x := s.port (tgtPort w)
    s.setPort (tgtPort w) { x with queue :=
      { entry := e, part := p, cmd := 1, data := if field w 25 2 = 1 then 0 else 0x40, why := .shutoff 0 } :: x.queue })

/-! ### Channels (R52 to R58) -/

/-- The cluster of a channel and of an enable (R37). -/
def clOf (c : Nat) : Nat := c / 64
def enCl (e : Nat) : Nat := e / 32
/-- The counter of a channel's cluster, by which it is stamped (R26). -/
def State.ctr (s : State) (n : Nat) : Nat := (s.cluster n).counter

/-- Code of a channel state (Table 2-8). -/
def ChanState.code : ChanState → Nat
  | .off => 0
  | .armed => 1
  | .ramp => 2
  | .settle => 3
  | .running => 4
  | .absent => 5
  | .tripped => 6
  | .margin => 7
  | .parked => 8

/-- The state a channel reports (R42, R52, R58): a VOLTAGE channel its own, a CURRENT channel its companion's unless it is
TRIPPED, any other OFF. -/
def State.chState (s : State) (c : Nat) : ChanState :=
  if s.kind c = 1 then (s.chan c).state
  else if s.kind c = 2 then
    if (s.chan c).state = .tripped then .tripped else (s.chan (s.act (chCompanion c))).state
  else .off

/-- Whether the comparators of a channel are connected to the fault fabric (R54, R107): it, or the companion of a CURRENT channel, is
RUNNING or MARGIN. A shut-off has taken the channels of its partition out of these states, also where the record of a cluster whose clock
is lost does not yet show it (R56, R59). -/
def State.connected (s : State) (c : Nat) : Bool :=
  (s.kind c == 1 || s.kind c == 2) && (s.chState c == .running || s.chState c == .margin) && !(s.part (s.chPart c)).line

/-- A channel is in window when both comparators are clear at their deglitch outputs. -/
def State.inWindow (s : State) (c : Nat) : Bool := !(s.chan c).upperCmp && !(s.chan c).lowerCmp

/-- The armed capture units take a stamp as the first occurrence of each of their sources that it is one of, given by source, target and level
(R164). -/
def State.noteCap (s : State) (hits : Nat → Nat → Nat → Bool) (stamp : Nat) : State :=
  s.each ((List.range 32).filter (fun u => (s.cap u).outcome == 1)) (fun s u =>
    let x := s.cap u
    let a := x.seenStart.isNone && decide (x.startBy ≤ stamp) && hits (s.act (capStartSrc u)) (s.act (capStartTarget u)) (s.act (capStartLevel u))
    let b := x.seenStop.isNone && decide (x.stopBy ≤ stamp) && hits (s.act (capStopSrc u)) (s.act (capStopTarget u)) (s.act (capStopLevel u))
    s.setCap u { x with seenStart := if a then some stamp else x.seenStart, seenStop := if b then some stamp else x.seenStop })

/-- Whether channel d reports the state that channel c enters: it is c, or a CURRENT channel that follows c (R58). -/
def State.follows (s : State) (c d : Nat) : Bool :=
  d == c || (s.kind d == 2 && s.act (chCompanion d) == c && (s.chan d).state != .tripped)

/-- Take a channel to a state at a tick of its cluster: STATE_SINCE, the counters of Table 2-6, captures of the entry and the trim output
follow. -/
def State.toState (s : State) (c : Nat) (st : ChanState) (at_ : Nat) : State :=
  let x := s.chan c
  let s := s.setChan c { x with
    state := st, entered := tabInsert st.code at_ (tabErase x.entered st.code),
    recovered := if st = .off then false else x.recovered,
    settled := if st = .running || st = .margin then x.settled else 0 }
  let s := (s.setReg (chsStateSince c) at_).noteCap (fun src d lvl => src == 3 && lvl == st.code && s.follows c d) at_
  let s := match st with
    | .tripped => (s.bump16 (chsTripCount c)).setReg (chsLastTripTick c) at_
    | .absent => s.bump16 (chsAbsentCount c)
    | _ => s
  s.trimFollow c st

/-- The channel enters window or is armed in window: SETTLE with its timer, or RUNNING at once when SETTLE_TIME is 0 (R53). -/
def State.enterSettle (s : State) (c : Nat) : State :=
  let t := s.ctr (clOf c)
  let s := s.setChan c { s.chan c with settleAt := t }
  let s := s.toState c .settle t
  if s.act (chSettleTime c) = 0 then s.toState c .running t else s

/-- Arm a channel (Table 2-3): the deadline timer starts; a channel armed in window goes to SETTLE with RAMP_SKIPPED (R142). -/
def State.armChan (s : State) (c : Nat) : State :=
  let t := s.ctr (clOf c)
  let s := s.setChan c { s.chan c with armedAt := t, rampSkip := false }
  let s := s.toState c .armed t
  let s := if s.act (chTrimKind c) = 2 then s.askSetpoint c (s.setpoint c) else s
  if s.inWindow c then (s.setChan c { s.chan c with rampSkip := true }).enterSettle c else s

/-- The CURRENT channels whose companion is a channel. -/
def State.companions (s : State) (c : Nat) : List Nat :=
  (List.range 512).filter (fun d => s.kind d == 2 && s.act (chCompanion d) == c)

/-- The evaluation of warnings of one channel ends (R96): the flags and counts return to 0, and EV 0x12 is raised as cleared for each
warning that is set, unless a window exit ended it. -/
def State.warnClear (s : State) (c : Nat) (quiet : Bool) : State :=
  let x := s.chan c
  let s := s.setChan c { x with upperWarn := false, lowerWarn := false, upperSet := false, lowerSet := false,
                                upperRun := 0, lowerRun := 0, upperIn := 0, lowerIn := 0 }
  let s := if x.upperSet && !quiet then s.raise (clOf c + 1) 0x12 (s.chPart c) true (two c ++ [1]) else s
  if x.lowerSet && !quiet then s.raise (clOf c + 1) 0x12 (s.chPart c) true (two c ++ [2]) else s

/-- A RUNNING VOLTAGE channel leaves RUNNING: its own evaluation and that of its CURRENT channels end (R96). -/
def State.warnEnd (s : State) (c : Nat) (quiet : Bool) : State :=
  if (s.chan c).state != .running then s
  else s.each (c :: s.companions c) (fun s d => s.warnClear d quiet)

/-- A connected channel leaves RUNNING or MARGIN by another cause than an exit: an exit stamped in the same tick still makes it TRIPPED
(R56, R57 item 1), with RECOVERED and its latest entry to OFF as they were. -/
def State.markCut (s : State) (c : Nat) : State :=
  let x := s.chan c
  if s.connected c then
    s.setChan c { x with cutAt := some (s.ctr (clOf c)), cutRec := x.recovered, cutOff := tabFind x.entered 0 }
  else s

/-- The same for a VOLTAGE channel and the CURRENT channels that follow it. -/
def State.markCuts (s : State) (c : Nat) : State := s.each (s.companions c ++ [c]) (fun s d => s.markCut d)

/-! ### What the ledger counts (R220, R226) -/

/-- A CURRENT channel is counted in the ledger of its partition unless LEDGER_EXCLUDE names it. -/
def State.counted (s : State) (c : Nat) : Bool := s.kind c == 2 && !bitOf (s.act (partLedgerExclude (s.chPart c))) c

/-- Whether cluster n holds a channel counted in the ledger of partition p. -/
def State.countsIn (s : State) (p n : Nat) : Bool :=
  (List.range 64).any (fun i => s.chPart (64 * n + i) == p && s.counted (64 * n + i))

/-- Flag GAP of the running interval of partition p (Table 7-9). -/
def State.gapFlag (s : State) (p : Nat) : State := s.setPart p { s.part p with intFlags := (s.part p).intFlags ||| 16 }

/-! ### Enables (R45 to R50) -/

/-- The polarity that the EN_POL strap gives. -/
def State.strapPol (s : State) : Nat := if s.supply.enPol then 1 else 0

/-- EN_POLARITY of an enable; a polarity never committed is the EN_POL strap's (Table 2-5): 0 active high, 1 active low. -/
def State.enPolarity (s : State) (e : Nat) : Nat :=
  if s.act (chEnPolarity e) = 2 then s.strapPol else s.act (chEnPolarity e)

/-- Set the latch of an enable; a change is an occurrence for captures (Table 5-11). -/
def State.latchEn (s : State) (e : Nat) (b : Bool) : State :=
  let x := s.en e
  let t := s.ctr (enCl e)
  let s := s.setEn e { x with asserted := b, order := none, changedAt := if x.asserted == b then x.changedAt else some t }
  if x.asserted == b then s else s.noteCap (fun src d _ => src == (if b then 1 else 2) && d == e) t

/-- Give an enable a level by a clocked cause: while the clock of its cluster is lost it holds, and takes the level when the clock is back
(R33, R115, R123). -/
def State.orderEn (s : State) (e : Nat) (b : Bool) : State :=
  if (s.cluster (enCl e)).clockLost then s.setEn e { s.en e with order := some b } else s.latchEn e b

/-- The mode and polarity of an enable as the active bank has them (R46, R132), but for a bank that is lost (R468). -/
def State.modeEn (s : State) (e : Nat) : State :=
  let m := s.act (chEnMode e)
  s.setEn e (if m = 0 then {} else { s.en e with configured := !s.vioLost.contains (e / 128), mode := m, polarity := s.enPolarity e })

/-- What the device does at a pin. -/
inductive PinDrive where
  | high
  | low
  | released
  deriving DecidableEq, Repr

/-- What the device does at enable pin e (R45, R46, R468): nothing without a configured mode or with its bank lost; push-pull drives both
levels, open-drain the low one. Asserted is high for polarity 0 and low for polarity 1. -/
def State.enPin (s : State) (e : Nat) : PinDrive :=
  let x := s.en e
  let high := x.asserted != (x.polarity == 1)
  if s.vioLost.contains (e / 128) || !x.configured then .released
  else match x.mode with
    | 0 => .released
    | 1 => if high then .high else .low
    | _ => if high then .released else .low

/-- Whether the reset pulls of the EN and TRM pins go to the high rail, with the EN_POL strap high, or to VSS: an enable rests at the level that
is inactive for the polarity of the strap (R45, R470, R471). -/
def State.pullHigh (s : State) : Bool := s.supply.enPol

/-- The deadline of a channel (Table 2-3) at a tick: ABSENT with EV 0x11; the settle timer runs on from where the channel last entered window
(R53), and its enable is held, or deasserted when ABSENT_EN is 1 and the enable serves it alone. -/
def State.goAbsent (s : State) (c at_ : Nat) : State :=
  let s := s.toState c .absent at_
  let s := s.raise (clOf c + 1) 0x11 (s.chPart c) false (two c)
  if s.act (chAbsentEn c) = 1 ∧ s.act (chEnable c) < 256 then s.orderEn (s.act (chEnable c)) false else s

/-- Assert an enable by a sequence action: every OFF channel it serves is armed in the same tick (R48, Table 2-3). -/
def State.assertEn (s : State) (e : Nat) : State :=
  (s.latchEn e true).each ((s.served e).filter (fun c => decide ((s.chan c).state = .off))) (fun s c => s.armChan c)

/-! ### Drives (R437) -/

/-- A drive runs while it is enabled with RUN 1, its owner is STARTING, UP, RELIEF or ENFORCED, it has no fault, and the drive island is
up (R437). -/
def State.driveRuns (s : State) (d : Nat) : Bool :=
  s.act (drvEnable d) == 1 && s.reg (drvcRun d) == 1 && (s.drive d).fault == 0 && !s.islandBad.contains 13 && s.committed &&
    ((s.part (s.act (drvPartition d))).state == .starting || (s.part (s.act (drvPartition d))).state == .up)

/-- The outputs of a phase whose carrier restarts at t ps (R427, R429): a high-side pulse that is on ends, one that has not begun does not
come, and the low output then goes on. -/
def PhaseX.cutAt (x : PhaseX) (t dead : Nat) : PhaseX :=
  match x.high with
  | none => x
  | some (a, b) =>
    if b ≤ t then x
    else if a ≤ t then { x with high := some (a, t), lowFrom := t + dead }
    else match x.low with
      | some (l, e) => if t < e then { high := none, low := none, lowFrom := l } else { high := none, low := some (l, e), lowFrom := t }
      | none => { high := none, low := none, lowFrom := t }

/-- Start or stop the outputs of a drive as R437 sets, with EV 0x82 at each change. At a start the carries are 0 (R428), the integrals are
0, the low outputs are on at once (R429), a clipping is not yet raised (R431), and the next good read gives no step (R435). -/
def State.driveSync (s : State) (d : Nat) : State :=
  let x := s.drive d
  let go := s.driveRuns d
  if go == x.running then s
  else
    let x := if go then { x with running := true, carry := [0, 0, 0], pulses := List.replicate 3 { lowFrom := 10000 * s.now }, iqInt := 0, idInt := 0, spInt := 0,
                                 curSet := 0, clipRaised := false, lastRaw := none, fresh := [], stallFrom := none }
             else { x with running := false, duty := [0, 0, 0], pulses := [{}, {}, {}], vd := 0, vq := 0, vNew := false, stallFrom := none }
    (s.setDrive d x).raise 13 0x82 (s.act (drvPartition d)) (!go) [BitVec.ofNat 8 d]

/-- RUN is written: in the tick of a shut-off of the owner it stays 0 (Table 17-2). -/
def State.runWrite (s : State) (d v : Nat) : State :=
  (s.setReg (drvcRun d) (if (s.part (s.act (drvPartition d))).cutTick = some s.now then 0 else v)).driveSync d

/-- RUN of a drive is set to 0, and it stops. -/
def State.driveHalt (s : State) (d : Nat) : State := (s.setReg (drvcRun d) 0).driveSync d

/-! ### Partition states (Table 7-3, R204) -/

/-- Whether a state counts as UP: UP, RELIEF and ENFORCED (R138). -/
def PartState.isUp (x : PartState) : Bool := decide (x = .up)
/-- FAULTED or LOCKED_OUT (R125). -/
def PartState.isFaulted (x : PartState) : Bool := decide (x = .faulted ∨ x = .lockedOut)
/-- STARTING, UP, RELIEF, ENFORCED or STOPPING (R119). -/
def PartState.isLive (x : PartState) : Bool := decide (x = .starting ∨ x = .up ∨ x = .stopping)

/-- Where a restart of the host watch begins: now, or while the partition stops the tick at which the watch came to stand still. -/
def PartX.hostStart (x : PartX) (now : Nat) : Nat := if x.state = .stopping then x.hostOff else now

/-- The code that STATE of 0x3020 + p reports (R204). -/
def PartX.code (x : PartX) : Nat :=
  match x.state with
  | .faulted => 6
  | .lockedOut => 7
  | .stopping => 5
  | .down => 0
  | .starting => 1
  | .up => if 2 ≤ x.relief then 4 else if x.relief = 1 then 3 else 2

/-- Change the record of a partition; STATE_SINCE takes a tick when the reported code changes. -/
def State.partSince (s : State) (p : Nat) (x : PartX) (at_ : Nat) : State :=
  let s := if (s.part p).code = x.code then s else s.setReg (partsStateSince p) at_
  s.setPart p x

/-- Take a partition to a state (Table 5-1, R125): the stay in UP is timed (R127), the relief level returns to 0 in DOWN, STOPPING,
FAULTED and LOCKED_OUT, and stays with its cause at a return from UP to STARTING (R204); a power figure from before a start is no cause (R212,
R214); the host watch restarts at entry to STARTING (R355). -/
def State.toPart (s : State) (p : Nat) (st : PartState) (at_ : Nat) : State :=
  let x := s.part p
  let ends := x.state.isUp && !st.isUp
  let s := s.partSince p { x with
    state := st,
    upSince := if st.isUp then (if x.state.isUp then x.upSince else some s.now) else none,
    upLast := if ends then s.now - x.upSince.getD s.now else x.upLast,
    relief := if st.isUp || st = .starting then x.relief else 0,
    overPower := if st.isUp || (st = .starting && (x.state.isUp || x.state = .starting)) then x.overPower else false,
    applied := if st.isUp || st = .starting then x.applied else [],
    startedAt := if st = .starting then s.now else x.startedAt,
    hostOff := if st = .stopping then s.now else x.hostOff,
    hostAt := if st = .starting then some s.now
              else if st = .stopping then x.hostAt
              else if !st.isUp then none
              else if x.state = .stopping then x.hostAt.map (fun t => t + (s.now - x.hostOff)) else x.hostAt } at_
  let s := s.each (s.drivesOf p) (fun s d => s.driveSync d)
  if st.isUp || st = .starting then s
  else ((s.setReg (partsReliefLevel p) 0).setReg (partsReliefCause p) 0).setReg (partsGraceEnd p) 0

/-- Whether a thermal relief request stands for partition p (R272). -/
def State.thermalReq (s : State) (p : Nat) : Bool := s.thermal.request && bitOf (s.act thReliefMap) p

/-! ### Actions (R145) -/

def State.action (s : State) (e : Nat) : Option ActX := tabFind s.actions e
def State.setAction (s : State) (e : Nat) (x : ActX) : State :=
  { s with actions := tabInsert e x (tabErase s.actions e) }
def State.dropAction (s : State) (e : Nat) : State := { s with actions := tabErase s.actions e }

/-- Withdraw actions of partition p (R145): all of them, or the entry actions only. Their slots are freed. -/
def State.withdraw (s : State) (p : Nat) (entryOnly : Bool) : State :=
  { s with actions := s.actions.filter (fun a => !(a.2.part == p && (!entryOnly || !bitOf a.2.entry 15))) }

/-! ### Responses to dictionary commands (R329) -/

/-- Answer a dictionary command with a status code. -/
def State.answer (s : State) (st : Nat) : State := { s with status := st, reply := [] }

/-- Answer a read with a value. -/
def State.give (s : State) (b : Bytes) : State := { s with status := 0, reply := b }

/-- Whether the dictionary is served: the management plane is up and the power state is STARTING or ACTIVE (Table 12-14, R35). -/
def State.serves (s : State) : Bool := !s.mgmtDown && (s.supply.power == .starting || s.supply.power == .active)

def isOwner (r : Role) : Bool := decide (r = .owner)
/-- OWNER, or the PARTITION role of partition p. -/
def ownerOr (r : Role) (p : Nat) : Bool :=
  match r with
  | .owner => true
  | .partition q => q.val == p
  | _ => false

/-- Count an item that has its status (Tables 12-17 and 12-18). -/
def State.countItem (s : State) (r : Role) : State :=
  let refused := decide (0x0101 ≤ s.status ∧ s.status < 0x0800)
  let s := s.bump32 diagRequestCount
  let s := if refused then (s.bump32 diagRefusedCount).setReg diagLastRefusal s.status else s
  match r with
  | .partition p =>
    let s := s.bump32 (diagpPRequests p)
    if refused then (s.bump32 (diagpPRefused p)).setReg (diagpPLastRefusal p) s.status else s
  | _ => s

/-- A dictionary write that acts at the write (R317), from step 3 of Table 12-3 on: the PARTITION role's partition defined, the right,
the length, the value, and then the execution, which answers for itself. A command that comes while no request is served has no effect. -/
def State.itemLen (s : State) (r : Role) (right lenOk valueOk : Bool) (f : State → State) : State :=
  if !s.serves then s
  else
    let undef := match r with
      | .partition p => !s.defined p
      | _ => false
    let s := if undef then s.answer 0x0205
      else if !right then s.answer 0x0201
      else if !lenOk then s.answer 0x0305
      else if !valueOk then s.answer 0x0301
      else f s
    s.countItem r

/-- The same for a value whose length its type fixes. -/
def State.item (s : State) (r : Role) (right valueOk : Bool) (f : State → State) : State := s.itemLen r right true valueOk f

/-! ### Who is present and who leads (R177, R178, R180) -/

/-- This device's DEVID. -/
def State.devid (s : State) : Nat := s.supply.devid

/-- A present device that is not foreign. -/
def State.counts (s : State) (d : Nat) : Bool := s.trestle.present.contains d && !s.trestle.foreign.contains d

/-- The leader: the lowest present DEVID; 0xFF before discovery closes (R178, Table 6-13). -/
def State.leader (s : State) : Nat :=
  if s.trestle.closedAt.isNone then 255 else ((List.range 16).find? s.counts).getD 255

/-- Whether this device cooperates with no other: EXPECTED_MAP empty or its own bit alone (R177). -/
def State.alone (s : State) : Bool :=
  s.act treExpectedMap == 0 || s.act treExpectedMap == 2 ^ s.devid

/-- ALIGNED: a follower from its third alignment; the leader, whose Trestle time is the reference, while another device is present
(R184, R186, and the text before Table 9-6; log 22). -/
def State.isAligned (s : State) : Bool :=
  s.trestle.aligned || (s.leader == s.devid && (List.range 16).any (fun d => d != s.devid && s.counts d))

/-- The outcome of a meaning: this block goes on after every command. -/
def ok (s : State) : Outcome State Fault Refusal := .next s

end Sys2Proof.Machine
end

