-- ==== Sys2Proof/Machine/Cut.lean ====
section
/-! DEFINITION. The shut-off and force-off of a partition, as one shared operation (R22, R56, R107 to R130), with what other chapters
hang on it: the end of a Bench sweep (R240), of armed captures (R166), of relief (R204), of a pending start (R160), and the
shut-off commands of the power stages (R390). -/
namespace Sys2Proof.Machine

/-! ### Ending a Bench sweep, a static margin and captures -/

/-- Whether a sweep is in one of its running phases. -/
def BenchPhase.runs (x : BenchPhase) : Bool := decide (x ≠ .idle ∧ x ≠ .waiting ∧ x ≠ .ended)

/-- The channel of a margin returns to its held setpoint (R237, R240). -/
def State.marginDrop (s : State) (c : Nat) : State :=
  s.setChan c { s.chan c with marginSet := none, staticMgn := false, marginPend := none, settled := 0 }

/-- The same, and from MARGIN to RUNNING; while the clock of its cluster is lost the channel keeps its state (R59). -/
def State.marginOff (s : State) (c : Nat) : State :=
  let t := s.marginDrop c
  if (s.chan c).state = .margin ∧ (s.cluster (clOf c)).clockLost = false then t.toState c .running (s.ctr (clOf c)) else t

/-- The end of a margin for a reason of Table 8-3: at a shut-off (2) the channel goes from MARGIN where the shut-off takes it (R56). -/
def State.marginEnd (s : State) (c reason : Nat) : State := if reason = 2 then s.marginDrop c else s.marginOff c

/-- End a sweep of partition p with an ABORT_REASON (Table 8-3; 0 for its own end) and EV 0x1D. A sweep that only waits ends too. -/
def State.sweepEnd (s : State) (p reason : Nat) : State :=
  let b := (s.part p).bench
  if b.phase = .idle ∨ b.phase = .ended then s
  else
    let s := { s with waitMaint := s.waitMaint.filter (fun k => k != p) }
    let s := if b.phase.runs then s.marginEnd b.chan reason else s
    let x := s.part p
    let s := s.setPart p { x with bench := { x.bench with phase := .ended, pend := none } }
    let s := ((s.setReg (benchStatus p) 4).setReg (benchStepNow p) 0).setReg (benchAbortReason p) reason
    s.raise (clOf b.chan + 1) 0x1D p false (two b.chan ++ [BitVec.ofNat 8 reason])

/-- Abort the sweep of partition p and remove its static margins (R237, R240). -/
def State.benchAbort (s : State) (p reason : Nat) : State :=
  (s.sweepEnd p reason).each ((s.chansOf p).filter (fun c => (s.chan c).staticMgn)) (fun s c => s.marginEnd c reason)

/-- The later of two ticks that there may be. -/
def laterOf : Option Nat → Option Nat → Option Nat
  | some a, some b => some (max a b)
  | some a, none => some a
  | none, y => y

/-- When a channel last entered a state by its code: a CURRENT channel with its companion, or by its own trip and the release of it
(R58). -/
def State.enteredAt (s : State) (c st : Nat) : Option Nat :=
  let own := tabFind (s.chan c).entered st
  if s.kind c = 1 then own
  else if s.kind c = 2 then laterOf own (tabFind (s.chan (s.act (chCompanion c))).entered st)
  else none

/-- The stamp of the latest occurrence of a source (Table 5-11). -/
def State.occurrence (s : State) (src tgt lvl : Nat) : Option Nat :=
  match src with
  | 1 => if (s.en tgt).asserted then (s.en tgt).changedAt else none
  | 2 => if (s.en tgt).asserted then none else (s.en tgt).changedAt
  | 3 => s.enteredAt tgt lvl
  | 4 => if (s.chan tgt).hasResult && decide (lvl ≤ (s.chan tgt).res) then some (s.chan tgt).resAt else none
  | 5 => if (s.chan tgt).hasResult && decide ((s.chan tgt).res ≤ lvl) then some (s.chan tgt).resAt else none
  | 6 => (s.chan tgt).lowerOff
  | 7 => (s.chan tgt).upperAt
  | _ => none

/-- Outcome and duration of a unit with both occurrences (Table 5-12). -/
def CapX.close (x : CapX) : CapX :=
  match x.start, x.stop with
  | some a, some b =>
    if a < b then { x with outcome := 2, dur := b - a }
    else if a = b then { x with outcome := 3, dur := 0 }
    else { x with outcome := 4, dur := 0 }
  | _, _ => x

/-- The counter of the cluster that stamps a source (R25, Table 5-11). -/
def State.sourceCtr (s : State) (src tgt : Nat) : Nat := s.ctr (if src = 1 ∨ src = 2 then enCl tgt else clOf tgt)

/-- Take the first occurrence of one side of an armed unit, if it has been stamped, by a tick at the latest, and none is held (R164, R165). -/
def CapX.take (x : CapX) (start : Bool) (until_ : Nat) : CapX :=
  if x.outcome = 1 ∧ (if start then x.start else x.stop).isNone then
    match (if start then x.seenStart else x.seenStop) with
    | none => x
    | some t => if t ≤ until_ then (if start then { x with start := some t } else { x with stop := some t }).close else x
  else x

/-- Take what both sides of unit u have seen, by the present tick and within LIMIT of the arming (R165). -/
def State.captureTake (s : State) (u : Nat) (start : Bool) : CapX :=
  let x := s.cap u
  let lim := usTicks (s.act (capLimit u))
  if start then x.take true (min (s.sourceCtr (s.act (capStartSrc u)) (s.act (capStartTarget u))) (x.startBy + lim))
  else x.take false (min (s.sourceCtr (s.act (capStopSrc u)) (s.act (capStopTarget u))) (x.stopBy + lim))

/-- A unit that is armed still ends as at LIMIT: NO_STOP with a start alone, else NO_START (Table 5-12). -/
def CapX.atLimit (x : CapX) : CapX :=
  if x.outcome = 1 then { x with outcome := if x.start.isSome && x.stop.isNone then 6 else 5, dur := 0 } else x

/-- End capture unit u with the occurrences seen so far (R165, R166). -/
def State.captureEnd (s : State) (u : Nat) : State :=
  let s := s.setCap u (s.captureTake u true)
  let s := s.setCap u (s.captureTake u false)
  s.setCap u (s.cap u).atLimit

/-- End the armed capture units of partition p, before its shut-off changes anything (R166). -/
def State.capturesEnd (s : State) (p : Nat) : State :=
  s.each ((List.range 32).filter (fun u => s.act (capPartition u) == p && (s.cap u).outcome == 1)) (fun s u => s.captureEnd u)

/-! ### Fault latch entries (R22) -/

/-- Causes that the retry rule serves: window trip, loss of cluster clock, fault line from a peer (Table 4-5). -/
def retryable (cause : Nat) : Bool := decide (1 ≤ cause ∧ cause ≤ 3)

/-- The latest result of a channel stamped before a tick, and its age; 0 and 0xFFFFFFFF when there is none (Table 9-1). -/
def State.firstResult (s : State) (c t0 : Nat) : Nat × Nat :=
  let x := s.chan c
  if x.hasResult && decide (x.resAt < t0) then (x.res, min 4294967295 (t0 - x.resAt))
  else match x.prevRes with
    | some (r, t) => if t < t0 then (r, min 4294967295 (t0 - t)) else (0, 4294967295)
    | none => (0, 4294967295)

/-- An entry with the result and its age of the lowest channel of its maps (Table 9-1), as they stand at its stamp. -/
def State.withResult (s : State) (n : Nat) (x : Latch) : Latch :=
  match (List.range 64).find? (bitOf (x.upperMap ||| x.lowerMap)) with
  | none => x
  | some i => { x with result := (s.firstResult (64 * n + i) x.firstTick).1, age := (s.firstResult (64 * n + i) x.firstTick).2 }

/-- Set the latch entry of cluster n and partition p. -/
def State.latchEntry (s : State) (n p cause tick upper lower line : Nat) : State :=
  s.setLatch n p (s.withResult n
    { isSet := true, firstTick := tick, upperMap := upper, lowerMap := lower, cause := cause, fltLine := line })

/-- Count a later cause of partition p (R22): in the entry of its own cluster, or, for a cause of no one cluster, in the
lowest-numbered set entry. -/
def State.countLater (s : State) (p : Nat) (cl : Option Nat) : State :=
  let n? := match cl with
    | some n => some n
    | none => clustersAll.find? (fun n => (s.latch n p).isSet)
  match n? with
  | none => s
  | some n =>
    let x := s.latch n p
    if x.isSet then s.setLatch n p { x with later := sat16 x.later } else s

/-- The map of the clusters whose entry of partition p is set (LATCH_CLUSTERS). -/
def State.latchMap (s : State) (p : Nat) : Nat :=
  (clustersAll.map (fun n => bitIf (s.latch n p).isSet n)).sum

/-- The entries that a first cause sets (R22): of its own cluster at that cluster's stamp, or in every cluster in which the partition holds a
resource. DESIGN CHOICE (log 32): R123 gives a lost cluster clock its own FIRST_TICK, the last tick counted, and says nothing of another cause that
sets the entry while the clock is lost; it takes the counter where it stands, which is that tick. -/
def State.latchCause (s : State) (p cause : Nat) (cl : Option Nat) (tick upper lower line : Nat) : State :=
  match cl with
  | some n => s.latchEntry n p cause tick upper lower line
  | none => s.each (clustersAll.filter (fun n => s.holdsIn p n && !(s.latch n p).isSet))
      (fun s n => s.latchEntry n p cause (s.ctr n) 0 0 line)

/-- The earliest FIRST_TICK of the set entries of partition p, or a given tick when it holds none (LAST_SHUTOFF_TICK, Table 4-12). -/
def State.earliest (s : State) (p tick : Nat) : Nat :=
  match (clustersAll.filter (fun n => (s.latch n p).isSet)).map (fun n => (s.latch n p).firstTick) with
  | [] => tick
  | t :: l => l.foldl min t

/-- A set entry is published (R23): it goes to the Hutch (which takes it in with LATCH_ENTRY_ARRIVE, R246), then to the data plane, which
freezes the partition's ledger interval, then to the management plane as EV 0x10 of an island with the map of set entries. -/
def State.publishEntry (s : State) (p cause dom : Nat) : State :=
  let s := s.setPart p { s.part p with frozen := true }
  s.raise dom 0x10 p false [BitVec.ofNat 8 cause, BitVec.ofNat 8 (s.latchMap p)]

/-! ### What a shut-off does (R113) -/

/-- The clusters whose clock is lost note that partition p was shut off meanwhile: their channels follow when the clock is back (R59). -/
def State.noteLost (s : State) (p : Nat) : State :=
  s.each (clustersAll.filter (fun n => (s.cluster n).clockLost && !bitOf (s.cluster n).lostParts p)) (fun s n =>
    s.setCluster n { s.cluster n with lostParts := (s.cluster n).lostParts + 2 ^ p })

/-- The channels of partition p become OFF in every cluster whose clock runs (R56); a channel that was connected keeps the arrival
tick, for an exit with that stamp makes it TRIPPED. -/
def State.cutChannels (s : State) (p : Nat) (quiet : Bool) : State :=
  let s := s.noteLost p
  let mine := (s.chansOf p).filter (fun c => !(s.cluster (clOf c)).clockLost)
  let joined := mine.filter (fun c => s.connected c)
  let s := s.each joined (fun s c => s.warnEnd c quiet)
  let s := s.each joined (fun s c => s.markCut c)
  s.each (mine.filter (fun c => s.kind c == 1 && (s.chan c).state != .off && (s.chan c).state != .tripped))
    (fun s c => (s.setChan c { s.chan c with marginSet := none, staticMgn := false, marginPend := none }).toState c .off (s.ctr (clOf c) + 1))

/-- The TRM outputs of partition p go to 0 µA (R113, R156). -/
def State.trimsZero (s : State) (p : Nat) : State :=
  s.each ((s.chansOf p).filter (fun c => s.act (chTrimKind c) == 1))
    (fun s c => s.setTrim (s.act (chTrimId c)) { loop := .zero, code := 0 })

/-- The enables of partition p drop, in every cluster (their clear inputs need no clock, R123); its discharge enables are asserted for
DISCHARGE_TIME, when that is not 0, and kept as they are configured now (R113, R115, R116). -/
def State.cutEnables (s : State) (p : Nat) : State :=
  let time := s.act (shutDischargeTime p)
  let es := if time = 0 then [] else (s.ensOf p).filter (fun e => s.isDischarge e)
  let s := s.each (s.ensOf p) (fun s e => s.latchEn e (es.contains e))
  if es.isEmpty then s
  else s.setPart p { s.part p with dischEnd := some (s.now + msTicks time), dischEns := es }

/-- TR_FLTn is driven low for FLT_PULSE from the tick after the shut-off (R118), at which it is complete in every cluster, by the model's
choice also in one whose clock is lost (log 25). A duty that an earlier shut-off of the group began lasts to its own end (R116). -/
def State.driveFlt (s : State) (n : Nat) : State :=
  let g := s.group n
  let s := if g.fltDrive.isSome then s else s.bump16 fabsFltTxCount
  s.setGroup n { g with fltDrive := some (max (g.fltDrive.getD 0) (s.now + 1 + usTicks (s.act fabFltPulse))),
                        fltLow := if g.fltLow.isSome then g.fltLow else some s.now }

/-- The step group of a replay partition is set to 0 (R157). -/
def State.groupZero (s : State) (n : Nat) : State :=
  (s.setReg (grpsState n) 0).setGroup n { s.group n with zeroedAt := some s.now, guardFrom := none, checkFrom := none }

/-- Whether the partition is a replay partition (R157). -/
def State.isReplay (s : State) (p : Nat) : Bool := s.act (seqRestartMode p) == 1

/-- The sequence at a shut-off (R114, R138, R157): actions withdrawn, membership ended, unless the partition is a replay partition,
which is a member at position 0, holds its line and zeroes its group. -/
def State.cutSequence (s : State) (p : Nat) : State :=
  let s := s.withdraw p false
  let x := s.part p
  let s := s.setPart p { x with
    step := none, exitDone := false, descendTo := none, startPend := false, waitRaised := false, position := 0,
    phase := if s.isReplay p then .inStep else .notMember }
  if s.isReplay p then s.groupZero (s.groupOf p) else s

/-- The retry rule at a shut-off (R125, R127), made before the state is chosen: RETRIES_USED returns to 0 after RETRY_RESET in UP, and a
retry is due RETRY_SPACING after the first tick while retries remain. The state is LOCKED_OUT when none remains of at least one. -/
def State.retryRule (s : State) (p cause first up : Nat) : State :=
  let x := s.part p
  let used0 := s.reg (shutsRetriesUsed p)
  let used := if retryable cause && decide (sTicks (s.act (shutRetryReset p)) ≤ up) then 0 else used0
  let count := s.act (shutRetryCount p)
  let out := retryable cause && decide (1 ≤ count ∧ count ≤ used)
  let due := if retryable cause && decide (used < count) then some (first + msTicks (s.act (shutRetrySpacing p))) else none
  let s := s.setReg (shutsRetriesUsed p) used
  let s := s.setPart p { x with cause := cause, retryAt := due }
  let s := s.setReg (shutsNextRetryTick p) (due.getD 0)
  s.toPart p (if out then .lockedOut else .faulted) (s.now + 1)

/-- What a drawer of an event that opens now records of the device (Table 9-1, bytes 11, 34 to 39, 104 to 107 and 118 to 119; TEMP is the
decision reading, R265), and the offset by which its TRESTLE_TIME follows from FIRST_TICK (R249). -/
def State.drawerSnap (s : State) (p : Nat) : Drawer :=
  { part := p, retries := s.reg (shutsRetriesUsed p), shelf := s.reg profActiveShelf % 4, rtc := s.supply.rtc,
    profile := s.reg profActiveId, trestle := s.trestle.offset.toNat,
    temp := match s.thermal.decision with
      | some v => ofSigned 16 v
      | none => 32768,
    flags := bitIf s.timeFree 0 + bitIf (!s.supply.rtcValid) 1 +
      bitIf (!s.isAligned || s.alone) 2 }

/-- A partition event opens at a shut-off of a live partition, unless it is open (R244); the Hutch stages its drawer itself at a long
press (R245). -/
def State.openEvent (s : State) (p cause : Nat) : State :=
  let x := s.part p
  if x.state.isLive && !x.eventOpen then
    s.setPart p { x with eventOpen := true, merge := none, merged := false, hutchStage := decide (cause = 5), evSeq := none,
                         snap := s.drawerSnap p }
  else s

/-- An event of a partition that holds no resource sets no latch entry: by the model's choice its merge window opens with the shut-off
(log 31), so that it too has its one drawer (R244). -/
def State.bareMerge (s : State) (p : Nat) : State :=
  let x := s.part p
  if x.eventOpen && !x.merged && !x.hutchStage && x.merge.isNone && s.latchMap p == 0 then
    s.setPart p { x with merge := some { openedAt := s.now, clusters := [] } }
  else s

/-! ### The merge (R246, R247) -/

/-- The channel map of a latch entry, in device channel numbers. -/
def coMap (n : Nat) (v : Nat) : Nat := v * 2 ^ (64 * n)

/-- The content of the drawer of partition p from the entries of some clusters (R246); of an event without an entry, from its cause. -/
def State.mergeEntries (s : State) (p : Nat) (cls : List Nat) : Drawer :=
  let e := cls.filter (fun n => (s.latch n p).isSet)
  let bare := (s.part p).cutTick.getD s.now
  let t0 := e.foldl (fun m n => min m (s.latch n p).firstTick) (((e.head?).map (fun n => (s.latch n p).firstTick)).getD bare)
  let f := e.filter (fun n => (s.latch n p).firstTick == t0)
  let cause := if e.isEmpty then (s.part p).cause else f.foldl (fun m n => min m (s.latch n p).cause) 255
  let upper := (f.map (fun n => coMap n (s.latch n p).upperMap)).sum
  let lower := (f.map (fun n => coMap n (s.latch n p).lowerMap)).sum
  let co := (List.range 512).filter (fun c => bitOf upper c || bitOf lower c)
  let first := co.head?.getD 0
  let line := ((f.find? (fun n => (s.latch n p).cause == 3)).map (fun n => (s.latch n p).fltLine)).getD 0
  { (s.part p).snap with
    part := p, cause := cause, firstTick := t0, trestle := (t0 + (s.part p).snap.trestle) % 18446744073709551616,
    firstChan := if cause = 1 then first else if cause = 3 then 0xFFF0 + line else 0xFFFF,
    firstSide := if cause = 1 then (if bitOf upper first then 1 else 0) + (if bitOf lower first then 2 else 0) else 0,
    clusters := (e.map (fun n => 2 ^ n)).sum,
    later := min 65535 ((e.map (fun n => (s.latch n p).later)).sum),
    coFault := (co.map (fun c => 2 ^ c)).sum, coCount := co.length,
    result := if cause = 1 then (s.latch (clOf first) p).result else 0,
    age := if cause = 1 then (s.latch (clOf first) p).age else 4294967295 }

/-- An event that is left before its merge window has ended: what the Hutch has of it is kept, with every entry that is set, and staged at
the end of the window (R244, R252). -/
def State.keepMerge (s : State) (p : Nat) : State :=
  let x := s.part p
  if !x.eventOpen || x.merged || x.hutchStage then s
  else
    let at_ := match x.merge with
      | some m => m.openedAt
      | none => s.now
    let cls := clustersAll.filter (fun n => (s.latch n p).isSet)
    { s with log := { s.log with closing := s.log.closing ++ [(at_, s.mergeEntries p cls)] } }

/-- The shut-off or force-off of partition p, whose line a cause sets while it is clear: in the cluster of the cause, or for a
cause of no one cluster in every one (R22, R56, R113). The tick is the stamp in the cause's cluster.
DESIGN CHOICE (log 32): `up`, the up_time that R127 takes for its count of retries, is the stay in UP that ends now, or, in a partition that trips
again in STARTING, the last one that ended: R127 does not say whether a restart clears it. -/
def State.shutOff (s : State) (p cause : Nat) (cl : Option Nat) (tick upper lower line : Nat) : State :=
  let x := s.part p
  let up := if x.state.isUp then s.now - x.upSince.getD s.now else x.upLast
  let spans := s.spanning p && cause != 3
  let s := (s.openEvent p cause).benchAbort p 2
  let s := s.latchCause p cause cl tick upper lower line
  let s := s.capturesEnd p
  let s := s.cutChannels p (cause == 1)
  let s := s.cutEnables p
  let s := s.trimsZero p
  let s := s.each (s.drivesOf p) (fun s d => s.driveHalt d)
  let s := s.psShutoff p
  let s := s.cutSequence p
  let s := s.setPart p { s.part p with line := true, cutTick := some s.now }
  let s := s.retryRule p cause tick up
  let s := if spans then s.driveFlt (s.groupOf p) else s
  let s := ((s.bump16 (shutsShutoffCount p)).setReg (shutsLastShutoffTick p) (s.earliest p tick)).setReg (shutsLastCause p) cause
  let s := { s with safeN := false }.bareMerge p
  s.publishEntry p cause (match cl with
    | some n => n + 1
    | none => 9)

/-! ### Causes that come while the line is set (R22, R125, R128, R129) -/

/-- Whether the shut-off of partition p was made in this very tick. -/
def State.cutThisTick (s : State) (p : Nat) : Bool := (s.part p).cutTick == some s.now

/-- A cause of the tick of the shut-off that has the higher priority is the cause of it: of the retry rule and of LAST_CAUSE; a spanning
partition then drives TR_FLT if only its reception had shut it off (Tables 4-5 and 4-6). -/
def State.joinCause (s : State) (p cause tick : Nat) : State :=
  let x := s.part p
  let s := s.setReg (shutsLastShutoffTick p) (s.earliest p tick)
  if s.cutThisTick p && decide (cause < x.cause) then
    let s := (s.retryRule p cause tick x.upLast).setReg (shutsLastCause p) cause
    if x.cause = 3 ∧ s.spanning p then s.driveFlt (s.groupOf p) else s
  else s

/-- A cause of cluster n comes while the line is set: it sets a clear entry, which is published; in an entry with the same stamp the
channels join and the cause of higher priority stands (R128); in an older entry it is counted (R22). -/
def State.causeIn (s : State) (p cause n tick upper lower : Nat) : State :=
  let x := s.latch n p
  if !x.isSet then ((s.latchEntry n p cause tick upper lower 0).joinCause p cause tick).publishEntry p cause (n + 1)
  else if x.firstTick = tick then
    (s.setLatch n p (s.withResult n
      { x with upperMap := x.upperMap ||| upper, lowerMap := x.lowerMap ||| lower, cause := min cause x.cause })).joinCause p cause tick
  else s.countLater p (some n)

/-- A cause of no one cluster comes in the tick of the shut-off: it sets the entries still clear, and in those of its stamp the cause of
higher priority stands (R22, R128). -/
def State.joinAll (s : State) (p cause line : Nat) : State :=
  let fresh := clustersAll.filter (fun n => s.holdsIn p n && !(s.latch n p).isSet)
  let same := clustersAll.filter (fun n => (s.latch n p).isSet && (s.latch n p).firstTick == s.ctr n && decide (cause < (s.latch n p).cause))
  let s := s.each fresh (fun s n => s.latchEntry n p cause (s.ctr n) 0 0 line)
  let s := s.each same (fun s n => s.setLatch n p { s.latch n p with cause := cause, fltLine := line })
  let s := s.joinCause p cause s.now
  if fresh.isEmpty then s else s.publishEntry p cause 9

/-- A cause of no one cluster arrives (TR_FLT reception, HOT_SHUT, long press, FORCE_OFF): it shuts the partition off, joins a shut-off of the same
tick, or is counted while the line is set (R22, R125); a later force-off then cancels the retries that remain (Table 4-6). DESIGN CHOICE (log 32):
t_first of R127 is device time at such a shut-off: the entries of the clusters bear their own counters, and R127 does not say which one counts. -/
def State.causeAt (s : State) (p cause line : Nat) : State :=
  if !(s.part p).line then s.shutOff p cause none s.now 0 0 line
  else if s.cutThisTick p then s.joinAll p cause line
  else
    let s := s.countLater p none
    if cause = 5 ∨ cause = 6 then
      (s.setPart p { s.part p with retryAt := none, startPend := false }).setReg (shutsNextRetryTick p) 0
    else s

/-! ### Trips (R54 to R58, R106, R107) -/

/-- The record of a channel that trips, before it enters TRIPPED: a cut of the same tick is taken back, for the channel was connected in
its exit (R56, R57 item 1). -/
def ChanX.uncut (x : ChanX) (tick : Nat) : ChanX :=
  if x.cutAt = some tick then
    { x with cutAt := none, recovered := x.cutRec, entered := match x.cutOff with
        | some t => tabInsert 0 t (tabErase x.entered 0)
        | none => tabErase x.entered 0 }
  else x

/-- A channel goes from RUNNING or MARGIN to TRIPPED at a stamp (Table 2-3, R56): its warnings end (R96), and an exit of one of its CURRENT
channels in the same tick trips too. -/
def State.toTripped (s : State) (c tick : Nat) : State :=
  let s := (s.warnEnd c true).each ((s.companions c).filter (fun d => d != c)) (fun s d => s.markCut d)
  let s := s.setChan c { (s.chan c).uncut tick with marginSet := none, staticMgn := false, marginPend := none }
  (s.toState c .tripped (tick + 1)).setReg (chsLastTripTick c) tick

/-- A window exit of a connected channel: it is TRIPPED from the next tick, and its partition is shut off with cause 0x01, or the trip is
entered in the shut-off there is (R54, R56, R107). The exit of a channel that another cause of the same tick has cut is a trip too. -/
def State.trip (s : State) (c : Nat) (side : Side) : State :=
  let p := s.chPart c
  let tick := s.ctr (clOf c)
  let up := if side = .upper then 2 ^ (c % 64) else 0
  let lo := if side = .lower then 2 ^ (c % 64) else 0
  let s := s.toTripped c tick
  if (s.part p).line then s.causeIn p 1 (clOf c) tick up lo else s.shutOff p 1 (some (clOf c)) tick up lo 0

/-- The connection gate of a CURRENT channel closes when its companion becomes RUNNING (R107): an output that is asserted then trips. -/
def State.gateTrip (s : State) (c : Nat) : State :=
  s.each ((s.companions c).filter (fun d => s.connected d && !s.inWindow d))
    (fun s d => s.trip d (if (s.chan d).upperCmp then .upper else .lower))

/-! ### The timers of a channel (R53, R55, R57)

An expiry yields to an exit, a stop, a park and a shut-off of its own tick, and wins over entering window in it. So a timer acts from the
tick after the one at which it is due, with the due tick as its stamp; an exit, an entry, a stop and a park first let the timers act that
were due before it. -/

/-- The tick at which the settle timer of a channel expires. -/
def State.settleDue (s : State) (c : Nat) : Nat := (s.chan c).settleAt + usTicks (s.act (chSettleTime c))

/-- The tick at which the deadline of a channel is reached. -/
def State.deadlineDue (s : State) (c : Nat) : Nat := (s.chan c).armedAt + msTicks (s.act (chDeadline c))

/-- An ABSENT channel reaches RUNNING (Table 2-3): EV 0x13, RECOVERED, RECOVER_COUNT. -/
def State.recover (s : State) (c at_ : Nat) : State :=
  let s := s.toState c .running at_
  let s := (s.setChan c { s.chan c with recovered := true }).bump16 (chsRecoverCount c)
  s.raise (clOf c + 1) 0x13 (s.chPart c) false (two c)

/-- The settle timer of a VOLTAGE channel has run its time before a tick, in window, with the clock of its cluster: in SETTLE the deadline
wins when it was reached earlier (R57 item 5); with ABSENT_EN 1 an ABSENT channel stays ABSENT (R55). -/
def State.settles (s : State) (c t : Nat) : Bool :=
  s.kind c == 1 && s.inWindow c && decide (s.settleDue c < t) && !(s.cluster (clOf c)).clockLost &&
    match (s.chan c).state with
    | .settle => decide (s.settleDue c ≤ s.deadlineDue c)
    | .absent => s.act (chAbsentEn c) == 0
    | _ => false

/-- The settle timer of a channel acts when it was due before a tick: SETTLE and ABSENT go to RUNNING. -/
def State.settleBy (s : State) (c t : Nat) : State :=
  if s.settles c t then
    (if (s.chan c).state = .absent then s.recover c (s.settleDue c) else s.toState c .running (s.settleDue c)).gateTrip c
  else s

/-- The deadline of a channel acts when it was reached before a tick: ARMED, RAMP and SETTLE go to ABSENT, but for a settle timer that
expired at or before it (R57 item 5). -/
def State.deadlineBy (s : State) (c t : Nat) : State :=
  let due := s.deadlineDue c
  if s.kind c = 1 ∧ due < t ∧ (s.cluster (clOf c)).clockLost = false then
    match (s.chan c).state with
    | .armed | .ramp => s.goAbsent c due
    | .settle => if s.inWindow c ∧ s.settleDue c ≤ due then s else s.goAbsent c due
    | _ => s
  else s

/-- The timers of a channel that were due before the present tick of its cluster act. -/
def State.timersBy (s : State) (c : Nat) : State :=
  let t := s.ctr (clOf c)
  ((s.settleBy c t).deadlineBy c t).settleBy c t

/-- What a CURRENT channel's exit depends on is its companion's state. -/
def State.stateOwner (s : State) (c : Nat) : Nat := if s.kind c = 2 then s.act (chCompanion c) else c

/-! ### Stop and park (Table 2-3, R48, R57) -/

/-- What the channel is, before it enters or leaves window in this tick without being connected. -/
def State.markTick (s : State) (c : Nat) : State :=
  let x := s.chan c
  let t := s.ctr (clOf c)
  if x.mark.map (fun m => m.tick) = some t then s
  else s.setChan c { x with mark := some { tick := t, state := x.state, entered := x.entered, exits := s.reg (chsWindowExits c), skip := x.rampSkip } }

/-- An occurrence that armed capture units have seen in a tick, given by source, target and level, has not been (R164). -/
def State.unseeCap (s : State) (hits : Nat → Nat → Nat → Bool) (stamp : Nat) : State :=
  s.each ((List.range 32).filter (fun u => (s.cap u).outcome == 1)) (fun s u =>
    let x := s.cap u
    s.setCap u { x with
      seenStart := if x.seenStart == some stamp && hits (s.act (capStartSrc u)) (s.act (capStartTarget u)) (s.act (capStartLevel u)) then none else x.seenStart,
      seenStop := if x.seenStop == some stamp && hits (s.act (capStopSrc u)) (s.act (capStopTarget u)) (s.act (capStopLevel u)) then none else x.seenStop })

/-- A stop or a park of the tick in which the channel entered or left window without being connected wins over that (R57 item 3): its state,
WINDOW_EXITS and what captures have seen of it are as before. -/
def State.unmark (s : State) (c : Nat) : State :=
  let x := s.chan c
  match x.mark with
  | none => s
  | some m =>
    if m.tick ≠ s.ctr (clOf c) ∨ x.state = .tripped ∨ x.state = .off then s
    else
      let new := fun (lvl : Nat) => tabFind x.entered lvl == some m.tick && tabFind m.entered lvl != some m.tick
      let s := s.unseeCap (fun src d lvl => src == 3 && s.follows c d && new lvl) m.tick
      (s.setChan c { x with state := m.state, entered := m.entered, rampSkip := m.skip, mark := none }).setReg (chsWindowExits c) m.exits

/-- What a stop and a park of a channel do first: earlier timers act, and what it wins over is taken back (R57 item 3); its warnings end (R96),
and a margin on it. An exit of the same tick still trips it (R57 item 1). -/
def State.leaves (s : State) (c : Nat) : State :=
  let s := (((s.timersBy c).unmark c).warnEnd c false).markCuts c
  s.setChan c { s.chan c with marginSet := none, staticMgn := false, marginPend := none }

/-- Take a channel to OFF in an orderly way (Table 2-3: any state except OFF and TRIPPED). -/
def State.chanOff (s : State) (c : Nat) : State :=
  if (s.chan c).state = .off || (s.chan c).state = .tripped then s
  else
    let t := s.leaves c
    if (t.chan c).state = .off || (t.chan c).state = .tripped then t else t.toState c .off (t.ctr (clOf c))

/-- A channel is PARKED, unless a timer that was due before has had it tripped (R107). -/
def State.parkChan (s : State) (c : Nat) : State :=
  let t := s.leaves c
  if (t.chan c).state = .off || (t.chan c).state = .tripped then t else t.toState c .parked (t.ctr (clOf c))

/-- Deassert an enable in an orderly way: every channel it serves moves to OFF in the same tick (R48). -/
def State.deassertEn (s : State) (e : Nat) : State :=
  (s.latchEn e false).each (s.served e) (fun s c => s.chanOff c)

/-! ### SAFE_N (R130) -/

/-- The conditions that hold SAFE_N low. -/
def State.safeHeld (s : State) : Bool :=
  !s.committed || s.fabricFault || partitions.any (fun p => (s.part p).state.isFaulted)

/-- FAULTED_MAP of 0x2700. -/
def State.faultedMap (s : State) : Nat := (partitions.map (fun p => bitIf (s.part p).state.isFaulted p)).sum

/-! ### Leaving FAULTED or LOCKED_OUT (R22, R55, R58, R126) -/

/-- The partition leaves FAULTED or LOCKED_OUT: its line is released, its latch entries are cleared, and its TRIPPED channels go
OFF. -/
def State.release (s : State) (p : Nat) : State :=
  let s := (s.keepMerge p).each clustersAll (fun s n => if (s.latch n p).isSet then s.setLatch n p {} else s)
  let s := s.each ((s.chansOf p).filter (fun c => (s.chan c).state == .tripped))
    (fun s c => s.toState c .off (s.ctr (clOf c)))
  let x := s.part p
  let s := s.setPart p { x with
    line := false, frozen := false, retryAt := none, eventOpen := false, merge := none, merged := false, hutchStage := false, evSeq := none }
  s.setReg (shutsNextRetryTick p) 0

end Sys2Proof.Machine
end

