-- ==== Sys2Proof/Machine/Walk.lean ====
section
/-! DEFINITION. The sequence of a partition (R134 to R160): the action entries, membership, steps, catch-up, descent, the final sweep,
and the partition transitions of Table 5-1. An operation that completes a step goes on at once to the next one; the number of steps
that can be empty in a row is bounded by the 254 states, which the fuel of `State.walk` counts. -/
namespace Sys2Proof.Machine

/-! ### Action entries (Table 5-2) -/

def aeState (w : Nat) : Nat := field w 0 8
/-- DIR: exit. -/
def aeExit (w : Nat) : Bool := bitOf w 15
def aeFlagsReserved (w : Nat) : Nat := field w 8 7
def aeType (w : Nat) : Nat := field w 16 8
def aeOrder (w : Nat) : Nat := field w 24 8
def aeTarget (w : Nat) : Nat := field w 32 16
def aeDelay (w : Nat) : Nat := field w 48 16
def aeParam (w : Nat) : Nat := field w 64 32
def aeTimeout (w : Nat) : Nat := field w 96 16
def aeReserved (w : Nat) : Nat := field w 112 16

/-- The entry numbers of the range of partition p (R140). -/
def State.rangeOf (s : State) (p : Nat) : List Nat :=
  (List.range (s.act (seqEntryCount p))).map (fun i => s.act (seqEntryBase p) + i)

/-- The entries of partition p for one state and direction that are not empty. -/
def State.stepEntries (s : State) (p st : Nat) (exit : Bool) : List Nat :=
  (s.rangeOf p).filter (fun e =>
    let w := s.act (actEntry e)
    aeType w != 0 && aeState w == st && aeExit w == exit)

/-- The entries of one ORDER group of a step (R143). -/
def State.orderEntries (s : State) (p : Nat) (x : SeqStep) : List Nat :=
  (s.stepEntries p x.st x.exit).filter (fun e => aeOrder (s.act (actEntry e)) == x.order)

/-- The lowest ORDER at or above a bound among entries. -/
def State.nextOrder (s : State) (es : List Nat) (lo : Nat) : Option Nat :=
  ((es.map (fun e => aeOrder (s.act (actEntry e)))).filter (fun o => decide (lo ≤ o))).min?

/-! ### Groups -/

def State.grpState (s : State) (n : Nat) : Nat := s.reg (grpsState n)
def State.goalOf (s : State) (n : Nat) : Nat := s.reg (grpGoal n)
/-- Whether a partition is a member of its step group (R135). -/
def State.member (s : State) (p : Nat) : Bool := (s.part p).phase != .notMember

/-- A member holds TR_STEPn low (R136): an action of its step is not complete, it is catching up, it rests, or it is a faulted replay
partition. A lowered partition holds no line (R155). -/
def State.holdsLine (s : State) (p : Nat) : Bool :=
  let x := s.part p
  let n := s.groupOf p
  let busy := x.step.isSome || s.grpState n == s.goalOf n || (s.isReplay p && x.state.isFaulted)
  match x.phase with
  | .notMember | .lowered => false
  | .catchingUp => true
  | .descending => busy
  | .inStep => busy || (decide (s.goalOf n < s.grpState n) && !x.exitDone)

/-- The partitions whose step group is n. -/
def State.groupParts (s : State) (n : Nat) : List Nat := partitions.filter (fun p => s.defined p && s.groupOf p == n)

/-- HOLD_MAP of 0x2860 + n. -/
def State.holdMap (s : State) (n : Nat) : Nat := ((s.groupParts n).map (fun p => bitIf (s.holdsLine p) p)).sum

/-! ### Starts that are held (R160) -/

/-- A spanning partition is not started while TR_FLT of its group is low (R121). -/
def State.fltHeld (s : State) (p : Nat) : Bool := s.spanning p && (s.group (s.groupOf p)).fltLow.isSome

/-- Whether a start of partition p is held: TR_FLT low for a spanning partition, a cold inhibit, a thermal hold, a discharge that has
not ended, or a lost clock in a cluster holding the partition. -/
def State.startHeld (s : State) (p : Nat) : Bool :=
  s.fltHeld p ||
  (s.thermal.coldInhibit.inForce && bitOf (s.act thColdHoldMap) p) ||
  (s.thermal.hotShut.inForce && bitOf (s.act thShutMap) p) ||
  (s.part p).dischEnd.isSome ||
  clustersAll.any (fun n => (s.cluster n).clockLost && s.holdsIn p n)

/-! ### The final sweep (R156) -/

/-- RUN of the drives of partition p when it enters DOWN (R437). -/
def State.drivesDown (s : State) (p : Nat) : State := s.each (s.drivesOf p) (fun s d => s.driveHalt d)

/-- The final sweep: enables other than discharge enables inactive, channels OFF, TRM outputs at 0 µA; the partition leaves
membership and becomes DOWN with EV 0x40. What lies in a cluster whose clock is lost follows when the clock is back (R33, R123). -/
def State.sweepDown (s : State) (p : Nat) : State :=
  let runs := fun (n : Nat) => !(s.cluster n).clockLost
  let s := s.noteLost p
  let s := s.each ((s.ensOf p).filter (fun e => !s.isDischarge e && (s.en e).asserted)) (fun s e => s.orderEn e false)
  let s := s.each ((s.chansOf p).filter (fun c => runs (clOf c))) (fun s c => s.chanOff c)
  let s := s.each ((s.chansOf p).filter (fun c => s.act (chTrimKind c) == 1 && runs (s.act (chTrimId c) / 16)))
    (fun s c => s.setTrim (s.act (chTrimId c)) { loop := .zero, code := 0 })
  let s := s.withdraw p false
  let x := s.part p
  let s := s.setPart p { x with phase := .notMember, position := 0, step := none, exitDone := false, descendTo := none }
  let s := s.toPart p .down s.now
  let s := s.drivesDown p
  s.raise (s.homeDom p) 0x40 p false [0]

/-- Timers of its channels that were due before act first (R57); a partition that is shut off by one of them is FAULTED and not swept. -/
def State.finalSweep (s : State) (p : Nat) : State :=
  let s := s.each (s.chansOf p) (fun s c => s.timersBy c)
  if (s.part p).line then s else s.sweepDown p

/-! ### Steps -/

/-- Begin the actions of a step; none of them makes the step complete at once (R136). -/
def State.openStep (s : State) (p st : Nat) (exit : Bool) : State × Bool :=
  match s.nextOrder (s.stepEntries p st exit) 0 with
  | none => (s, true)
  | some o => (s.setPart p { s.part p with step := some { st := st, exit := exit, order := o }, waitRaised := false }, false)

/-- Drives of partition p start at entry to UP with RUN_ON_UP (R437). -/
def State.runOnUp (s : State) (p : Nat) : State :=
  s.each ((s.drivesOf p).filter (fun d => s.act (drvRunOnUp d) == 1)) (fun s d => (s.setReg (drvcRun d) 1).driveSync d)

/-- A partition reaches UP by its sequence (Table 5-1, EV 0x40). -/
def State.reachUp (s : State) (p : Nat) : State :=
  let s := s.toPart p .up s.now
  let s := s.runOnUp p
  s.raise (s.homeDom p) 0x40 p false [BitVec.ofNat 8 (s.part p).code]

/-- A member in step above its goal goes on down: from STARTING, as a catch-up to a group state above its goal leaves it, or UP, it is
STOPPING (Table 5-1, R139). -/
def State.turnDown (s : State) (p : Nat) : State :=
  if (s.part p).state = .starting ∨ (s.part p).state = .up then s.toPart p .stopping s.now else s

/-- What follows when partition p has no step in progress, with fuel for the steps that are empty: a member in step decides its
direction from the goal (R135) and rests at it (Table 5-1); a catch-up goes to the next state (R154); a descent goes to the next
lower state, to the lowered state or to the final sweep (R155, R156). -/
def State.walk : Nat → State → Nat → State
  | 0, s, _ => s
  | k + 1, s, p =>
    let x := s.part p
    let n := s.groupOf p
    match x.phase with
    | .notMember | .lowered => s
    | .inStep =>
      if s.grpState n = s.goalOf n then
        if x.state = .starting ∨ (x.state = .stopping ∧ 0 < s.goalOf n) then s.reachUp p else s
      else if s.grpState n < s.goalOf n then s
      else if x.exitDone then s
      else
        let s := s.turnDown p
        match s.openStep p x.position true with
        | (s, false) => s
        | (s, true) => (s.setPart p { s.part p with exitDone := true }).setReg (seqsLastStepTick p) s.now
    | .catchingUp =>
      if s.grpState n ≤ x.position then
        State.walk k (s.setPart p { x with phase := .inStep, exitDone := false }) p
      else
        let s := s.setPart p { x with position := x.position + 1 }
        match s.openStep p (x.position + 1) false with
        | (s, false) => s
        | (s, true) => State.walk k (s.setReg (seqsLastStepTick p) s.now) p
    | .descending =>
      let low := x.descendTo.getD 0
      if x.position ≤ low then
        if low = 0 then s.finalSweep p
        else s.setPart p { x with phase := .lowered, descendTo := none }
      else match s.openStep p x.position true with
        | (s, false) => s
        | (s, true) =>
          State.walk k ((s.setPart p { s.part p with position := x.position - 1 }).setReg (seqsLastStepTick p) s.now) p

/-- Fuel for every state of a walk up or down. -/
def walkFuel : Nat := 600

/-- Go on with the sequence of partition p when no step is in progress. -/
def State.goOn (s : State) (p : Nat) : State := if (s.part p).step.isSome then s else State.walk walkFuel s p

/-- A step of partition p is complete (R143): its LAST_STEP_TICK, and the position that an exit step of a descent leaves, also of one that
relief has released meanwhile, so that the catch-up enters its state again (R154, R155). -/
def State.stepDone (s : State) (p : Nat) : State :=
  let x := s.part p
  match x.step with
  | none => s
  | some st =>
    let s := s.setReg (seqsLastStepTick p) s.now
    let x := { x with step := none }
    let s := if st.exit then
        if x.phase = .descending ∨ x.phase = .catchingUp then s.setPart p { x with position := st.st - 1 }
        else s.setPart p { x with exitDone := true }
      else s.setPart p x
    s.goOn p

/-- An action of the present ORDER group has completed (R143): the next ORDER group becomes eligible, or the step is complete. -/
def State.orderAdvance (s : State) (p e : Nat) : State :=
  let x := s.part p
  match x.step with
  | none => s
  | some st =>
    let st := { st with done := e :: st.done }
    if (s.orderEntries p st).all (fun j => st.done.contains j) then
      match s.nextOrder (s.stepEntries p st.st st.exit) (st.order + 1) with
      | some o => s.setPart p { x with step := some { st with order := o, done := [] } }
      | none => (s.setPart p { x with step := some st }).stepDone p
    else s.setPart p { x with step := some st }

/-! ### Membership (R138) -/

/-- The partition becomes a member: in step at state 0, or catching up (R138, R154). It enters STARTING when the group state or the
goal is above 0 (Table 5-1). -/
def State.join (s : State) (p : Nat) : State :=
  let n := s.groupOf p
  let x := s.part p
  let s := s.setPart p { x with startPend := false, position := 0, step := none, exitDone := false, descendTo := none,
                                phase := if s.grpState n = 0 then .inStep else .catchingUp }
  if 0 < s.grpState n ∨ 0 < s.goalOf n then (s.toPart p .starting s.now).goOn p else s

/-- A restart waits for the end of the discharge and, for a spanning partition, for TR_FLT (R115, R121). -/
def State.restartWaits (s : State) (p : Nat) : Bool :=
  (s.part p).dischEnd.isSome || s.fltHeld p

/-- An accepted START of a DOWN partition, or AUTO_START at the release of its group: it waits while a start is held, with EV 0x43
once (R138, R160). -/
def State.startOrWait (s : State) (p : Nat) : State :=
  if s.startHeld p then
    if (s.part p).startPend then s
    else (s.setPart p { s.part p with startPend := true }).raise (s.homeDom p) 0x43 p
  else s.join p

/-- The entry to STARTING of a FAULTED or LOCKED_OUT partition by RESTART or retry (R126, R127, R157). While its group state and its goal are
both 0 it takes no step and is DOWN as a member at position 0 (R138). -/
def State.restartPart (s : State) (p : Nat) : State :=
  let s := s.release p
  let n := s.groupOf p
  let x := s.part p
  let s := s.setPart p { x with position := 0, step := none, exitDone := false, descendTo := none, startPend := false,
                                phase := if s.grpState n = 0 ∨ s.isReplay p then .inStep else .catchingUp }
  if s.grpState n = 0 ∧ s.goalOf n = 0 then s.toPart p .down s.now else (s.toPart p .starting s.now).goOn p

/-! ### Orderly stops (R145, R155, R159) -/

/-- Start a descent of partition p to a lower state (R155): entry actions are withdrawn, the step they belong to counts as
complete, an exit step in progress completes, and exit steps follow from the position. -/
def State.descend (s : State) (p low : Nat) : State :=
  let s := s.withdraw p true
  let x := s.part p
  let entryStep := match x.step with
    | some st => !st.exit
    | none => false
  let s := s.setPart p { x with
    phase := .descending, descendTo := some low,
    step := if entryStep then none else x.step,
    position := if x.exitDone then x.position - 1 else x.position,
    exitDone := false }
  s.goOn p

/-- An accepted STOP (Table 5-7): the partition descends to 0, a pending start ends, and a margin is removed with cause 5 (Table 8-3). -/
def State.stopPart (s : State) (p : Nat) : State :=
  let x := s.part p
  match x.state with
  | .down =>
    s.setPart p { x with startPend := false, phase := .notMember, position := 0 }
  | .starting | .up | .stopping =>
    let s := s.benchAbort p 5
    (s.toPart p .stopping s.now).descend p 0
  | .faulted | .lockedOut => s

/-- A DOWN member whose goal is raised while TR_FLT holds it back waits as an accepted START does (R121, R138, R160; log 26). -/
def State.memberWaits (s : State) (p : Nat) : State :=
  (s.setPart p { s.part p with startPend := true, phase := .notMember }).raise (s.homeDom p) 0x43 p

/-- A write of the goal of group n (R137, Table 5-1): each member's state follows, RELIEF and ENFORCED counting as UP, and a member in step
decides anew. -/
def State.goalWrite (s : State) (n v : Nat) : State :=
  let s := s.setReg (grpGoal n) v
  s.each ((s.groupParts n).filter (fun p => s.member p)) (fun s p =>
    let x := s.part p
    if x.state = .down ∧ 0 < v ∧ s.fltHeld p then s.memberWaits p
    else
      let s :=
        if x.state = .down ∧ 0 < v then s.toPart p .starting s.now
        else if x.state = .up ∧ s.grpState n < v then s.toPart p .starting s.now
        else if (x.state = .starting ∨ x.state = .up) ∧ v < x.position then (s.benchAbort p 5).toPart p .stopping s.now
        else s
      s.goOn p)

/-- The group advances one state toward its goal (R134, R135): members in step take the new position and run the entry step of a
higher state; after an advance down they rest, go on down, or reach 0; a lowered partition is in step again at its state. -/
def State.advance (s : State) (n : Nat) : State :=
  let g := s.grpState n
  let v := if g < s.goalOf n then g + 1 else g - 1
  let up := decide (g < s.goalOf n)
  let s := (s.setReg (grpsState n) v).setReg (grpsLastAdvanceTick n) s.now
  s.each (s.groupParts n) (fun s p =>
    let x := s.part p
    match x.phase with
    | .inStep =>
      let s := s.setPart p { x with position := v, exitDone := false }
      if up then
        match s.openStep p v false with
        | (s, false) => s
        | (s, true) => (s.setReg (seqsLastStepTick p) s.now).goOn p
      else if v = 0 then s.finalSweep p
      else s.goOn p
    | .lowered =>
      if !up && v == x.position then (s.setPart p { x with phase := .inStep, exitDone := false }).goOn p else s
    | .notMember | .catchingUp | .descending => s)

end Sys2Proof.Machine
end

