-- ==== Sys2Proof/Machine/Trestle.lean ====
section
/-! DEFINITION. Cooperating devices (R168 to R196): the PEER messages, discovery and the leader, the state check, Trestle time and its
alignment, presence and loss, and the release of the groups. A command of this family is a happening whose time or condition is
checked in the state; when it has not come, the happening has not occurred and nothing changes (log 2). -/
namespace Sys2Proof.Machine

open Host

/-! ### PEER messages (R174, R175) -/

/-- One step of the SMBus CRC-8, polynomial x^8 + x^2 + x + 1, for the top bit. -/
def crc8Bit (c : BitVec 8) : BitVec 8 := if c.msb then (c <<< 1) ^^^ 7 else c <<< 1
/-- CRC-8 over one byte. -/
def crc8Byte (c b : BitVec 8) : BitVec 8 := (List.range 8).foldl (fun c _ => crc8Bit c) (c ^^^ b)
/-- PEC of SMBus over bytes (R174). -/
def crc8 (bs : Bytes) : BitVec 8 := bs.foldl crc8Byte 0

/-- A Trestle message: TYPE, SENDER, LENGTH, PAYLOAD and PEC over the general-call address and those bytes (Table 6-3). -/
def peerMsg (type sender : Nat) (payload : Bytes) : Bytes :=
  let body := [BitVec.ofNat 8 type, BitVec.ofNat 8 sender, BitVec.ofNat 8 payload.length] ++ payload
  body ++ [crc8 (0 :: body)]

/-- Sender and payload of a message of a type and length; none when R175 discards it. -/
def peerParse (type len : Nat) (msg : Bytes) : Option (Nat × Bytes) :=
  match msg with
  | t :: snd :: l :: rest =>
    let payload := rest.take len
    if t.toNat = type ∧ l.toNat = len ∧ snd.toNat < 16 ∧ rest.length = len + 1 ∧
        rest.drop len = [crc8 (0 :: t :: snd :: l :: payload)] then some (snd.toNat, payload)
    else none
  | _ => none

/-- The PEER port is up: its island runs (Table 1-5) and its pins are supplied (R468). -/
def State.peerOn (s : State) : Bool := s.supply.vcore && !s.islandBad.contains 18 && !s.vioLost.contains 2

/-- This device may send on PEER: the port is up, and no other device bears its DEVID (R179). -/
def State.peerTalks (s : State) : Bool := !s.trestle.dup && s.peerOn

/-- Send a message on PEER; a device with DUP_DEVID sends nothing (R179), and none leaves while the port is down. -/
def State.peerSend (s : State) (type : Nat) (payload : Bytes) : State :=
  if !s.peerTalks then s else { s with peerOut := s.peerOut ++ [peerMsg type s.devid payload], peerTries := 0 }

/-- Count a discarded message (R175). -/
def State.peerError (s : State) : State := s.bump16 tresPeerErrCount

/-! ### Trestle time and the groups' leaders -/

/-- Trestle time (R184). -/
def State.trestleTime (s : State) : Nat := (s.now + s.trestle.offset.toNat) % 18446744073709551616

/-- The devices of SPAN_MAP of group n. -/
def State.spanDevs (s : State) (n : Nat) : List Nat := (List.range 16).filter (bitOf (s.act (treGrpSpanMap n)))

/-- The group leader: the lowest present DEVID in SPAN_MAP (R178). -/
def State.groupLeader (s : State) (n : Nat) : Nat := ((s.spanDevs n).find? s.counts).getD 255

/-- Whether the span of group n holds a present device other than this one (R170, R181). -/
def State.checksWithPeers (s : State) (n : Nat) : Bool := (s.spanDevs n).any (fun d => d != s.devid && s.counts d)

/-- A device has released its groups, as far as its messages show: it has not announced since, or a RELEASE named it and its time has
come (R189). -/
def State.hasReleased (s : State) (d : Nat) : Bool :=
  match tabFind s.trestle.unrel d with
  | none => true
  | some none => false
  | some (some t) => decide (t ≤ s.trestleTime)

/-- Missing-peer hold of group n (R189). -/
def State.missingHold (s : State) (n : Nat) : Bool := (s.group n).missing

/-- The condition that clears it: every span device is present again and has released its groups. -/
def State.spanBack (s : State) (n : Nat) : Bool :=
  (s.spanDevs n).all (fun d => d == s.devid || (s.counts d && s.hasReleased d))

/-- This device becomes the leader: its first pulse waits for no period (R191). -/
def State.takeLead (s : State) : State :=
  if s.leader = s.devid then { s with trestle := { s.trestle with pulseAt := none } } else s

/-- Run an operation and raise EV 0x4A when the leader is another one after it (R191). A device that has become a group leader repeats STATE of
the latest advance. -/
def State.followLeader (s : State) (f : State → State) : State :=
  let a := s.leader
  let mine := (List.range 4).filter (fun n => s.groupLeader n == s.devid)
  let s := f s
  let s := s.each ((List.range 4).filter (fun n => s.groupLeader n == s.devid && !mine.contains n && s.checksWithPeers n))
    (fun s n => s.setGroup n { s.group n with repeats := true, resends := 0 })
  if a = 255 ∨ s.leader = a ∨ s.leader = 255 then s
  else (s.takeLead.bump16 tresLeaderChanges).raise 18 0x4A 255 false [BitVec.ofNat 8 s.leader]

/-! ### The step line of this device (R169) -/

/-- HOLD_REASONS (Table 6-11). -/
def State.holdReasons (s : State) (n : Nat) : Nat :=
  let g := s.group n
  bitIf s.trestle.liftedAt.isNone 0 + bitIf g.guardFrom.isSome 1 + bitIf g.checkFrom.isSome 2 + bitIf g.mismatch 3 +
    bitIf (s.missingHold n) 4 + bitIf s.trestle.dup 5 + bitIf (s.holdMap n != 0) 6

/-- The reasons that hold the line other than a group at rest, whose high level only a fault of the line gives (R136, R170). -/
def State.heldLow (s : State) (n : Nat) : Bool :=
  s.holdReasons n % 64 != 0 || (s.grpState n != s.goalOf n && s.holdMap n != 0)

/-! ### Release of the groups (R138, R189, R193) -/

/-- Release each group that is not released and that no missing peer holds: its AUTO_START partitions become members or wait. -/
def State.releaseGroups (s : State) : State :=
  if s.trestle.liftedAt.isNone then s
  else s.each ((List.range 4).filter (fun n => !(s.group n).released && !s.missingHold n)) (fun s n =>
    let s := s.setGroup n { s.group n with released := true, missing := false }
    s.each ((s.groupParts n).filter (fun p => s.act (seqAutoStart p) == 1 && !s.member p && (s.part p).state == .down))
      (fun s p => s.startOrWait p))

/-- Lift the start-up hold (R193). -/
def State.liftHold (s : State) : State :=
  { s with trestle := { s.trestle with liftedAt := some s.now, phase := 4 } }.releaseGroups

/-- Missing-peer hold at the close of discovery, for groups with MISSING_RULE 0 whose span has an absent device (R189). -/
def State.closeMissing (s : State) : State :=
  s.each ((List.range 4).filter (fun n => s.act (treGrpMissingRule n) == 0 && bitOf (s.act (treGrpSpanMap n)) s.devid &&
      (s.spanDevs n).any (fun d => d != s.devid && !s.counts d)))
    (fun s n => s.setGroup n { s.group n with missing := true })

/-- Close discovery (R177): a device alone skips alignment and releases its groups at once. -/
def State.closeDiscovery (s : State) : State :=
  let s := { s with trestle := { s.trestle with phase := 2, closedAt := some s.now } }
  if s.alone then s.liftHold else s.closeMissing

/-- Adopt group state and ADVANCE_COUNT from the latest PRESENCE of each group's leader, for the groups that still wait for it; one whose
leader has sent none yet goes on waiting, until this device has released (R190). -/
def State.adoptGroups (s : State) : State :=
  if s.trestle.liftedAt.isSome then s
  else s.each s.trestle.adopt (fun s n =>
    match ((s.spanDevs n).find? (fun d => d != s.devid && s.counts d)).bind (tabFind s.trestle.presMsgs) with
    | none => s
    | some m =>
      let s := (s.setReg (grpsState n) ((m[n]?).getD 0).toNat).setReg (tresGrpAdvanceCount n) (leNat ((m.drop (4 + 2 * n)).take 2))
      { s with trestle := { s.trestle with adopt := s.trestle.adopt.filter (· != n) } })

/-- A joiner closes discovery with its leader's PRESENCE, and adopts the groups of its span (R190). -/
def State.joinClose (s : State) : State :=
  let s := s.closeDiscovery
  { s with trestle := { s.trestle with
    adopt := (List.range 4).filter (fun n => bitOf (s.act (treGrpSpanMap n)) s.devid) } }.adoptGroups

/-! ### Hearing a device (R178, R179, R188) -/

/-- A message of any type has come from DEVID d (R188). -/
def State.heardFrom (s : State) (d : Nat) : State :=
  { s with trestle := { s.trestle with heard := tabInsert d s.now (tabErase s.trestle.heard d) } }

/-- An ANNOUNCE or PRESENCE of DEVID d has come: present (R178), heard now, and back if it had been lost (EV 0x49). -/
def State.hear (s : State) (d : Nat) : State :=
  let t := s.trestle
  let back := t.gone.contains d
  let s := { s with trestle := { t with
    present := t.present.insert d, gone := t.gone.filter (· != d), heard := tabInsert d s.now (tabErase t.heard d) } }
  if back then s.raise 18 0x49 255 false [BitVec.ofNat 8 d] else s

/-- DUP_DEVID: an ANNOUNCE or PRESENCE bears this device's own DEVID (R179). -/
def State.duplicate (s : State) : State :=
  if s.trestle.dup then s
  else { s with trestle := { s.trestle with dup := true } }.raise 18 0x48 255 false [1, BitVec.ofNat 8 s.devid]

/-! ### Mismatch hold (R181, R182) -/

/-- Set the mismatch hold of group n with a reason; EV 0x44 is raised once. A check that is pending goes on (R181). -/
def State.setMismatch (s : State) (n reason : Nat) : State :=
  let g := s.group n
  let s := s.setGroup n { g with mismatch := true, agree := [] }
  if g.mismatch then s
  else (s.bump16 (tresGrpMismatchCount n)).raise 18 0x44 255 false [BitVec.ofNat 8 n, BitVec.ofNat 8 reason]

/-- The check of the latest advance fails with a reason: it is complete, with the hold (R181). -/
def State.checkFail (s : State) (n reason : Nat) : State :=
  ((s.setGroup n { s.group n with checkFrom := none, resends := 0 }).setMismatch n reason).setReg (tresGrpLastCheckTick n) s.now

/-- The check of the latest advance passes. -/
def State.checkPass (s : State) (n : Nat) : State :=
  (s.setGroup n { s.group n with checkFrom := none, resends := 0 }).setReg (tresGrpLastCheckTick n) s.now

/-- Compare a PRESENCE of span device d with this device's own state and count (R182): two disagreeing in a row set the hold; two
agreeing of every present span device clear it. A STATE that decided in this tick stands, and the comparison resumes with the next message
(Table 6-6). DESIGN CHOICE (log 32): the spec does not say which reason EV 0x44 marked as cleared carries; it carries 1. -/
def State.comparePresence (s : State) (n d st cnt : Nat) : State :=
  let same := st == s.grpState n && cnt == s.reg (tresGrpAdvanceCount n)
  let g := s.group n
  let tie := if same then g.presTie else some (s.now, g.disagree, g.mismatch, s.reg (tresGrpMismatchCount n))
  let g := { g with presTie := tie }
  if g.stateAt = some s.now ∧ same = false then s else
  let a := if same then (tabFind g.agree d).getD 0 + 1 else 0
  let b := if same then 0 else (tabFind g.disagree d).getD 0 + 1
  let s := s.setGroup n { g with agree := tabInsert d a (tabErase g.agree d), disagree := tabInsert d b (tabErase g.disagree d) }
  if 2 ≤ b then s.setMismatch n 1
  else if (s.group n).mismatch &&
      ((s.spanDevs n).filter (fun e => e != s.devid && s.counts e)).all (fun e => 2 ≤ (tabFind (s.group n).agree e).getD 0) then
    (s.setGroup n { s.group n with mismatch := false }).raise 18 0x44 255 true [BitVec.ofNat 8 n, 1]
  else s

/-- Span device d is missing from now on: the missing-peer hold of each group with MISSING_RULE 0 whose span holds it and this device (R189;
for a foreign device R180). -/
def State.missingFrom (s : State) (d : Nat) : State :=
  s.each ((List.range 4).filter (fun n => (s.spanDevs n).contains d && (s.spanDevs n).contains s.devid && s.act (treGrpMissingRule n) == 0))
    (fun s n => s.setGroup n { s.group n with missing := true })

/-! ### The commands -/

/-- DISCOVERY_BEGIN (R177): 5 ms after the first commit. -/
def execDiscoveryBegin (s : State) : Outcome State Fault Refusal :=
  match s.trestle.firstCommit with
  | some t =>
    if s.trestle.phase = 0 ∧ s.passed t (msTicks 5) then
      ok { s with trestle := { s.trestle with phase := 1, beganAt := some s.now } }
    else ok s
  | none => ok s

/-- The map of step groups in which a defined partition holds a resource on this device (ANNOUNCE byte 12). -/
def State.groupMap (s : State) : Nat :=
  ((List.range 4).map (fun n => bitIf ((s.groupParts n).any (fun p => holds s.act p)) n)).sum

/-- ANNOUNCE_SEND (R177, R190): at DEVID times 2 ms after discovery began, or at once by a device that joins late. -/
def execAnnounceSend (s : State) : Outcome State Fault Refusal :=
  match s.trestle.beganAt with
  | some t =>
    if s.trestle.phase = 1 ∧ s.trestle.announced = false ∧ (s.trestle.late.isSome ∨ s.passed t (msTicks (2 * s.devid))) then
      let s := s.peerSend 1 (leBytes 4 (s.act treTrestleTag) ++ leBytes 8 s.trestleTime ++ leBytes 1 s.groupMap)
      let s := { s with trestle := { s.trestle with announced := true, present := s.trestle.present.insert s.devid } }
      ok (if s.alone then s.closeDiscovery else s)
    else ok s
  | none => ok s

/-- ANNOUNCE (R177 to R180, R190): a foreign TRESTLE_TAG marks the sender foreign, with EV 0x48. DESIGN CHOICE (log 32): the spec does not say when
a device leaves FOREIGN_MAP; it does so with an ANNOUNCE that carries the equal tag. -/
def execAnnounce (msg : Bytes) (s : State) : Outcome State Fault Refusal :=
  if !s.peerOn then ok s else
  match peerParse 1 13 msg with
  | none => ok s.peerError
  | some (d, m) =>
    if d = s.devid then ok s.duplicate
    else
      ok (s.followLeader (fun s =>
        let s := s.hear d
        let t := s.trestle
        let s := { s with trestle := { t with spanOf := tabInsert d (leNat (m.drop 12)) (tabErase t.spanOf d),
                                              unrel := tabInsert d none (tabErase t.unrel d),
                                              acks := tabErase t.acks d, ackAt := tabErase t.ackAt d,
                                              joined := tabInsert d t.pulses (tabErase t.joined d) } }
        if leNat (m.take 4) = s.act treTrestleTag then
          { s with trestle := { s.trestle with foreign := s.trestle.foreign.filter (· != d) } }
        else if s.trestle.foreign.contains d then s
        else
          let s := { s with trestle := { s.trestle with foreign := s.trestle.foreign.insert d } }.raise 18 0x48 255 false [2, BitVec.ofNat 8 d]
          if s.trestle.closedAt.isSome then s.missingFrom d else s))

/-- Every expected DEVID but its own has announced, once its own ANNOUNCE has been sent (R177). -/
def State.allAnnounced (s : State) : Bool :=
  s.trestle.announced &&
    ((List.range 16).filter (fun d => d != s.devid && bitOf (s.act treExpectedMap) d)).all
      (fun d => (tabFind s.trestle.spanOf d).isSome)

/-- DISCOVERY_CLOSE (R177): 35 ms after it began, or with every expected ANNOUNCE. -/
def execDiscoveryClose (s : State) : Outcome State Fault Refusal :=
  match s.trestle.beganAt with
  | some t => if s.trestle.phase = 1 ∧ (s.passed t (msTicks 35) ∨ s.allAnnounced) then ok s.closeDiscovery else ok s
  | none => ok s

/-- PRESENCE_SEND (R188): each PRESENCE_PERIOD, from the close of discovery. -/
def execPresenceSend (s : State) : Outcome State Fault Refusal :=
  if s.trestle.closedAt.isSome ∧ s.passed s.trestle.presAt (msTicks (s.act trePresencePeriod)) then
    let g := List.range 4
    let flags := (g.map (fun n => bitIf (s.group n).mismatch n)).sum + bitIf s.trestle.lost 4
    let s := s.peerSend 2 (g.map (fun n => BitVec.ofNat 8 (s.grpState n)) ++
      (g.map (fun n => two (s.reg (tresGrpAdvanceCount n)))).flatten ++ [BitVec.ofNat 8 flags])
    ok { s with trestle := { s.trestle with presAt := s.now } }
  else ok s

/-- A device that has not closed discovery hears a PRESENCE of DEVID d (R190). One from a leader whose ANNOUNCE has not come shows that the
leader was there before: this device is a joiner (log 28). It closes with a PRESENCE of its leader, once every device has had a period in
which to send one. -/
def State.lateHear (s : State) (d : Nat) : State :=
  let lead := (List.range 16).find? (fun e => e != s.devid && s.counts e) = some d
  match s.trestle.late with
  | none =>
    if lead ∧ (tabFind s.trestle.spanOf d).isNone then { s with trestle := { s.trestle with late := some s.now } } else s
  | some t =>
    if s.trestle.phase = 1 ∧ s.trestle.announced ∧ lead ∧ s.passed t (msTicks (s.act trePresencePeriod)) then s.joinClose else s

/-- PRESENCE (R178, R179, R182, R188 to R190). -/
def execPresence (msg : Bytes) (s : State) : Outcome State Fault Refusal :=
  if !s.peerOn then ok s else
  match peerParse 2 13 msg with
  | none => ok s.peerError
  | some (d, m) =>
    if d = s.devid then ok s.duplicate
    else
      ok (s.followLeader (fun s =>
        let s := s.hear d
        let s := { s with trestle := { s.trestle with presMsgs := tabInsert d m (tabErase s.trestle.presMsgs d) } }
        if s.trestle.closedAt.isNone then s.lateHear d
        else
          let s := s.adoptGroups
          let s := s.each ((List.range 4).filter (fun n => (s.spanDevs n).contains d && (s.spanDevs n).contains s.devid && s.counts d))
            (fun s n => s.comparePresence n d ((m[n]?).getD 0).toNat (leNat ((m.drop (4 + 2 * n)).take 2)))
          let s := s.each ((List.range 4).filter (fun n => (s.group n).missing && s.spanBack n))
            (fun s n => s.setGroup n { s.group n with missing := false })
          s.releaseGroups))

/-- STATE_SEND (R181): the group leader sends STATE for its latest advance; without an acknowledge it sends again, up to three times
within CHECK_TIMEOUT. Its own check passes when the message has been sent. A new group leader repeats STATE of the latest advance (R191). A
device that sends nothing on PEER (R179) or whose port is down has sent no message. -/
def execStateSend (n : Fin 4) (sent : Bool) (s : State) : Outcome State Fault Refusal :=
  let g := s.group n
  let due : Bool := match g.checkFrom with
    | none => g.repeats
    | some t => !s.passed t (msTicks (s.act treCheckTimeout))
  if s.groupLeader n = s.devid ∧ g.resends ≤ 3 ∧ due then
    if sent && s.peerTalks then
      let s := s.setGroup n { g with repeats := false }
      let s := s.peerSend 3 ([BitVec.ofNat 8 n, BitVec.ofNat 8 (s.grpState n)] ++ two (s.reg (tresGrpAdvanceCount n)))
      ok (if g.checkFrom.isSome then s.checkPass n else s)
    else ok (s.setGroup n { g with resends := g.resends + 1 })
  else ok s

/-- A STATE decides against a PRESENCE of the same tick (Table 6-6): what that PRESENCE counted is taken back, and, when the STATE passes, the
hold that it set, with its count. -/
def State.stateDecides (s : State) (n : Nat) (passes : Bool) : State :=
  let g := { s.group n with stateAt := some s.now }
  match g.presTie with
  | none => s.setGroup n g
  | some (t, dis, held, count) =>
    if t ≠ s.now then s.setGroup n g
    else
      let back := passes && g.mismatch && !held
      let s := s.setGroup n { g with disagree := dis, presTie := none, mismatch := g.mismatch && !back }
      if back then (s.setReg (tresGrpMismatchCount n) count).raise 18 0x44 255 true [BitVec.ofNat 8 n, 1] else s

/-- STATE (R181) of the group leader, for a group in whose span this device is: equal fields pass the check; a field that differs sets the
mismatch hold. From any device it counts as a message (R188). -/
def execState (msg : Bytes) (s : State) : Outcome State Fault Refusal :=
  if !s.peerOn then ok s else
  match peerParse 3 4 msg with
  | none => ok s.peerError
  | some (d, m) =>
    let n := ((m[0]?).getD 0).toNat
    if d = s.devid then ok s
    else if 3 < n ∨ (s.spanDevs n).contains s.devid = false ∨ s.groupLeader n ≠ d then ok (s.heardFrom d)
    else
      let same := ((m[1]?).getD 0).toNat == s.grpState n && leNat (m.drop 2) == s.reg (tresGrpAdvanceCount n)
      let s := (s.heardFrom d).stateDecides n same
      if same then ok (if (s.group n).checkFrom.isSome then s.checkPass n else s) else ok (s.checkFail n 1)

/-- STATE_CHECK_TIMEOUT (R181): no STATE within CHECK_TIMEOUT of this device's own advance. -/
def execStateCheckTimeout (n : Fin 4) (s : State) : Outcome State Fault Refusal :=
  match (s.group n).checkFrom with
  | none => ok s
  | some t =>
    if s.passed t (msTicks (s.act treCheckTimeout)) then ok (s.checkFail n 2) else ok s

/-- The start-up alignment phase of the leader goes on until every present follower has acknowledged three pulses in succession, with at
most five pulses (R187). It is over when the leader has sent its RELEASE or lifted its hold (log 22). -/
def State.aligning (s : State) : Bool :=
  decide (s.trestle.pulses < 5) && s.trestle.trel.isNone && s.trestle.liftedAt.isNone &&
    ((List.range 16).filter (fun d => d != s.devid && s.trestle.present.contains d)).any (fun d => (tabFind s.trestle.acks d).getD 0 < 3)

/-- TSYNC_PULSE (R185, R187, R192): the leader's pulse and its SYNC, the first 10 ms after discovery closed (Table 6-5), then 5 ms apart
in the start-up phase and every TSYNC_PERIOD after it. -/
def execTsyncPulse (s : State) : Outcome State Fault Refusal :=
  let gap := if s.aligning then msTicks 5 else msTicks (s.act treTsyncPeriod)
  let due : Bool := match s.trestle.pulseAt with
    | none => s.passed (s.trestle.closedAt.getD 0) (msTicks 10)
    | some t => s.passed t gap
  if s.leader = s.devid ∧ due ∧ s.trestle.dup = false then
    let t := s.trestle
    let s := { s with trestle := { t with
      pulseSeq := (t.pulseSeq + 1) % 256, pulseTime := s.trestleTime, pulses := t.pulses + 1, pulseAt := some s.now } }
    ok (s.peerSend 4 (leBytes 1 s.trestle.pulseSeq ++ leBytes 8 s.trestle.pulseTime))
  else ok s

/-- TSYNC_EDGE (R185): a follower captures the falling edge of the pulse. -/
def execTsyncEdge (s : State) : Outcome State Fault Refusal :=
  if s.trestle.closedAt.isSome ∧ s.leader ≠ s.devid ∧ s.vioLost.contains 2 = false then
    ok { s with trestle := { s.trestle with edge := some (s.trestleTime, s.now) } }
  else ok s

/-- The difference of two Trestle times as a signed number of ticks (R184 counts modulo 2^64). -/
def trestleDiff (a b : Nat) : Int := toSigned 64 ((a + 18446744073709551616 - b) % 18446744073709551616)

/-- The residual of an alignment in ns (R185): C, the captured Trestle time less TSYNC_COMP, minus T_p. -/
def State.residual (s : State) (c tp : Nat) : Int := trestleDiff c tp * 10 - s.act treTsyncComp

/-- 100 ppm in parts in 10^9 (R185). -/
def steerMax : Int := 100000

/-- The steering that a residual of e ns asks for, whose last alignment was some ticks ago (R185, log 28): the steady rate takes what e has
shown of drift, and until the next pulse e itself is driven to zero as well; both within 100 ppm. -/
def TrestleX.steerBy (t : TrestleX) (e : Int) (now gap : Nat) : TrestleX :=
  let part := roundAway (-e * 1000000000) (10 * max 1 gap)
  let rate := clampInt (-steerMax) steerMax (t.rate + part)
  { t with rate := rate, steer := clampInt (-steerMax) steerMax (rate + part), steerTo := now + gap }

/-- The ticks by which device time goes on with one tick of the clock: none or two when the steering omits or adds one (R185). -/
def TrestleX.steerTick (t : TrestleX) (now : Nat) : Nat × TrestleX :=
  let acc := t.steerAcc + (if now < t.steerTo then t.steer else t.rate)
  if 1000000000 ≤ acc then (2, { t with steerAcc := acc - 1000000000 })
  else if acc ≤ -1000000000 then (0, { t with steerAcc := acc + 1000000000 })
  else (1, { t with steerAcc := acc })

/-- Align to pulse number q (R185 to R187): the offset takes the first residual and every one above 2 µs (EV 0x47, reason 2); a smaller one
steers device time. ALIGNED from the third alignment in succession, and after TSYNC_LOST from the third one more. -/
def State.align (s : State) (q : Nat) (e : Int) : State :=
  let t := s.trestle
  let steps := t.everAligned && decide (2000 < e.natAbs)
  let offset := if t.everAligned && !steps then t.offset else BitVec.ofInt 64 ((t.offset.toNat : Int) - roundAway e 10)
  let n := if t.lost then 0 else if t.lastSeq.any (fun p => (p + 1) % 256 == q) then t.aligns + 1 else 1
  let t := if t.everAligned && !steps then t.steerBy e s.now (s.now - t.edgeAt.getD s.now) else t
  let s := { s with trestle := { t with
    offset := offset, aligns := n, aligned := t.aligned || decide (3 ≤ n), lost := false, everAligned := true, lastSeq := some q,
    stepped := t.stepped || steps, edge := none, edgeAt := some s.now } }
  let s := s.setReg tresLastResidual (ofSigned 32 e)
  if steps then s.raise 18 0x47 255 false [2] else s

/-- A residual as the I16 of an ACK, clipped (Table 6-4). -/
def residualWord (e : Int) : Nat := ofSigned 16 (clampInt (-32767) 32767 e)

/-- SYNC (R185): with a pulse captured within 1 ms the follower aligns and sends ACK; without one it is discarded. -/
def execSync (msg : Bytes) (s : State) : Outcome State Fault Refusal :=
  if !s.peerOn then ok s else
  match peerParse 4 9 msg with
  | none => ok s.peerError
  | some (d, m) =>
    if d = s.devid then ok s
    else if s.trestle.foreign.contains d then ok (s.heardFrom d)
    else
      let s := s.heardFrom d
      match s.trestle.edge with
      | none => ok s
      | some (c, t) =>
        if t + msTicks 1 < s.now then ok { s with trestle := { s.trestle with edge := none } }
        else
          let e := s.residual c (leNat (m.drop 1))
          let s := s.align (leNat (m.take 1)) e
          ok (s.peerSend 6 ([4] ++ m.take 1 ++ two (residualWord e)))

/-- ACK (R174, R187, R193): the leader counts the alignments a follower has acknowledged in succession, and who acknowledged RELEASE. -/
def execAck (msg : Bytes) (s : State) : Outcome State Fault Refusal :=
  if !s.peerOn then ok s else
  match peerParse 6 4 msg with
  | none => ok s.peerError
  | some (d, m) =>
    if d = s.devid then ok s
    else
      let s := s.heardFrom d
      let t := s.trestle
      let kind := ((m[0]?).getD 0).toNat
      if kind = 4 ∧ ((m[1]?).getD 0).toNat = t.pulseSeq then
        let k := if tabFind t.ackAt d = some (t.pulses - 1) then (tabFind t.acks d).getD 0 + 1 else 1
        ok { s with trestle := { t with acks := tabInsert d k (tabErase t.acks d), ackAt := tabInsert d t.pulses (tabErase t.ackAt d) } }
      else if kind = 5 then ok { s with trestle := { t with relAcks := t.relAcks.insert d } }
      else ok s

/-- Pulses of the start-up phase that follow the latest one this device aligned to, 5 ms apart (R187): up to the fifth, while it is short of three
alignments and has not lifted its hold; none for a joiner, whose leader keeps to TSYNC_PERIOD (R190). -/
def State.startPulses (s : State) : Nat :=
  let t := s.trestle
  if t.late.isNone && t.liftedAt.isNone && decide (t.aligns < 3) then 5 - t.lastSeq.getD 0 else 0

/-- When a follower has missed three pulses in succession (R187): three pulses after its latest alignment, or, with none yet, after the close of
discovery, whose first pulse comes 10 ms later in the start-up phase (Table 6-5). -/
def State.tsyncDue (s : State) : Option Nat :=
  let t := s.trestle
  let k := min 3 s.startPulses
  match t.edgeAt with
  | some e => some (e + k * msTicks 5 + (3 - k) * msTicks (s.act treTsyncPeriod))
  | none => t.closedAt.map (fun c => if t.late.isSome then c + 3 * msTicks (s.act treTsyncPeriod) else c + msTicks 20)

/-- TSYNC_LOST (R187): a follower has missed three pulses in succession; its steered rate runs on. -/
def execTsyncLost (s : State) : Outcome State Fault Refusal :=
  match s.tsyncDue with
  | none => ok s
  | some t =>
    if s.leader ≠ s.devid ∧ s.leader ≠ 255 ∧ s.trestle.lost = false ∧ t ≤ s.now then
      ok ({ s with trestle := { s.trestle with lost := true, aligned := false, aligns := 0 } }.raise 18 0x47 255 false [1])
    else ok s

/-- The DEVIDs that a RELEASE of the leader names now: every present one at the end of the alignment phase (R193), or one joiner whose
alignment is done (R190). -/
def State.releaseNames (s : State) : List Nat :=
  let others := (List.range 16).filter (fun d => d != s.devid && s.counts d)
  if s.trestle.trel.isNone ∧ s.trestle.liftedAt.isNone then
    if s.aligning then [] else (List.range 16).filter s.trestle.present.contains
  else (others.filter (fun d => tabFind s.trestle.unrel d = some none ∧
    (3 ≤ (tabFind s.trestle.acks d).getD 0 ∨ (tabFind s.trestle.joined d).getD 0 + 5 ≤ s.trestle.pulses))).take 1

def mapOf (l : List Nat) : Nat := (l.map (fun d => 2 ^ d)).sum

/-- Note the release time of the devices that a RELEASE names. -/
def State.noteRelease (s : State) (l : List Nat) (t : Nat) : State :=
  { s with trestle := { s.trestle with
      unrel := l.foldl (fun u d => tabInsert d (some t) (tabErase u d)) s.trestle.unrel,
      trel := if l.contains s.devid then some (max t (s.trestle.trel.getD 0)) else s.trestle.trel,
      phase := if l.contains s.devid && s.trestle.liftedAt.isNone then 3 else s.trestle.phase } }

/-- RELEASE_SEND (R190, R193): the leader names the devices, with T_rel at RELEASE_LEAD from its Trestle time. -/
def execReleaseSend (s : State) : Outcome State Fault Refusal :=
  let l := s.releaseNames
  if s.leader = s.devid ∧ l ≠ [] ∧ s.trestle.dup = false then
    let t := (s.trestleTime + msTicks (s.act treReleaseLead)) % 18446744073709551616
    let s := s.peerSend 5 (two (mapOf l) ++ leBytes 8 t)
    ok ({ s with trestle := { s.trestle with relMap := mapOf l, relAcks := [], resent := false } }.noteRelease l t)
  else ok s

/-- RELEASE (R193): a device that it names takes the latest T_rel and acknowledges; one from a foreign device, which is no leader, is only heard
(R180). DESIGN CHOICE (log 32): a RELEASE has neither sequence number nor group, so byte [1] of its ACK is 0. -/
def execRelease (msg : Bytes) (s : State) : Outcome State Fault Refusal :=
  if !s.peerOn then ok s else
  match peerParse 5 10 msg with
  | none => ok s.peerError
  | some (d, m) =>
    if d = s.devid then ok s
    else
      let s := s.heardFrom d
      let l := (List.range 16).filter (bitOf (leNat (m.take 2)))
      if s.trestle.foreign.contains d then ok s else
      let s := s.noteRelease l (leNat (m.drop 2))
      ok (if l.contains s.devid then s.peerSend 6 ([5, 0] ++ two (residualWord (toSigned 32 (s.reg tresLastResidual)))) else s)

/-- RELEASE_RESEND (R193): an acknowledgement is missing 10 ms before T_rel; sent again once, 10 ms later. -/
def execReleaseResend (s : State) : Outcome State Fault Refusal :=
  match s.trestle.trel with
  | none => ok s
  | some t =>
    let l := (List.range 16).filter (bitOf s.trestle.relMap)
    if s.leader = s.devid ∧ s.trestle.resent = false ∧ s.trestle.dup = false ∧ t ≤ s.trestleTime + msTicks 10 ∧ s.trestleTime < t ∧
        l.any (fun d => d != s.devid && !s.trestle.relAcks.contains d) then
      let t := t + msTicks 10
      let s := s.peerSend 5 (two s.trestle.relMap ++ leBytes 8 t)
      ok ({ s with trestle := { s.trestle with resent := true } }.noteRelease l t)
    else ok s

/-- STARTUP_HOLD_LIFT (R193): at the latest T_rel received, or 60 ms after discovery closed without a RELEASE. -/
def execStartupHoldLift (s : State) : Outcome State Fault Refusal :=
  let due : Bool := match s.trestle.trel, s.trestle.closedAt with
    | some t, _ => decide (t ≤ s.trestleTime)
    | none, some c => s.passed c (msTicks 60)
    | none, none => false
  if s.trestle.liftedAt.isNone ∧ due then ok s.liftHold else ok s

/-- PEER_LOST (R188, R189, R191): no message of DEVID d for LOSS_COUNT presence periods. -/
def execPeerLost (d : Fin 16) (s : State) : Outcome State Fault Refusal :=
  let silent : Bool := match tabFind s.trestle.heard d with
    | none => true
    | some t => s.passed t (s.act treLossCount * msTicks (s.act trePresencePeriod))
  if s.trestle.present.contains d.val ∧ d.val ≠ s.devid ∧ silent then
    ok (s.followLeader (fun s =>
      let t := s.trestle
      let s := { s with trestle := { t with present := t.present.filter (· != d.val), gone := t.gone.insert d.val,
                                            acks := tabErase t.acks d } }
      let s := s.raise 18 0x46 255 false [BitVec.ofNat 8 d]
      s.each ((List.range 4).filter (fun n => (s.spanDevs n).contains d.val && (s.spanDevs n).contains s.devid &&
          s.act (treGrpMissingRule n) == 0 && (s.group n).released))
        (fun s n => s.setGroup n { s.group n with missing := true })))
  else ok s

end Sys2Proof.Machine
end

