-- ==== Sys2Proof/Machine/Shutoff.lean ====
section
/-! DEFINITION. The commands of shut-off and restart (R113 to R130): discharge, fault lines, loss and return of a cluster clock, the
retry rule, RESTART and FORCE_OFF, and the release of SAFE_N. -/
namespace Sys2Proof.Machine

open Host

/-- A discharge enable whose time has passed is released (R115, R116): in a cluster whose clock is lost it holds until the clock is back, and
then takes the mode of the configuration in force. -/
def State.releaseEn (s : State) (e : Nat) : State :=
  if (s.cluster (enCl e)).clockLost then s.orderEn e false else (s.latchEn e false).modeEn e

/-- DISCHARGE_END (R113, R115, R116): the discharge time has passed; the discharge enables that the shut-off asserted are released. The
discharge has ended when none of them is held by a lost clock. -/
def State.dischargeEnd (s : State) (p : Nat) : State :=
  let es := (s.part p).dischEns
  let s := s.each es (fun s e => s.releaseEn e)
  if es.any (fun e => (s.cluster (enCl e)).clockLost && (s.en e).asserted) then s
  else s.setPart p { s.part p with dischEnd := none, dischEns := [] }

def execDischargeEnd (p : Fin 16) (s : State) : Outcome State Fault Refusal :=
  match (s.part p).dischEnd with
  | none => ok s
  | some t => if t ≤ s.now then ok (s.dischargeEnd p) else ok s

/-- Whether this device began to drive TR_FLTn in this very tick, so that another driver's edge has the same stamp as its own (R129). -/
def State.fltNew (s : State) (n : Nat) : Bool :=
  match (s.group n).fltDrive with
  | none => false
  | some _ => (s.group n).fltLow == some s.now

/-- TR_FLT_RECEIVE (R109, R119): another device's driver pulls TR_FLTn low; every spanning partition of the group in STARTING, UP, RELIEF,
ENFORCED or STOPPING is shut off with cause 0x03, when the receiver is enabled. Edges before the first commit are ignored; on a line that
this device drives already, or that is stuck low, no edge can be seen (R119, R121), but the line stays low when this device releases it.
DESIGN CHOICE (log 32): R120 has a fault of one spanning partition shut off every one of its group on every device, while R109 and R119 give
the faulting device no cause for it, for it ignores the edge of its own driver: there the other spanning partitions of the group go on. -/
def execTrFltReceive (n : Fin 4) (s : State) : Outcome State Fault Refusal :=
  let g := s.group n
  let hidden := g.fltDrive.isSome && !s.fltNew n
  let s := s.setGroup n { g with fltLow := if g.fltLow.isSome then g.fltLow else some s.now, fltHigh := some s.now, fltPeer := true }
  if hidden ∨ s.committed = false ∨ bitOf (s.act fabFltRxEnable) n = false ∨ bitOf (s.reg fabsFltStuck) n then ok s
  else
    let s := s.bump16 (fabsFltRxCount n)
    ok (s.each ((s.groupParts n).filter (fun p => s.spanning p && ((s.part p).state.isLive || s.cutThisTick p))) (fun s p => s.causeAt p 3 n))

/-- FLT_PULSE_END (R118): this device releases TR_FLTn; the line stays low while another device's driver holds it. -/
def execFltPulseEnd (n : Fin 4) (s : State) : Outcome State Fault Refusal :=
  let g := s.group n
  match g.fltDrive with
  | none => ok s
  | some t => if t ≤ s.now then
      ok (s.setGroup n { g with fltDrive := none, fltLow := if g.fltPeer then g.fltLow else none, fltHigh := some s.now })
    else ok s

/-- FLT_STUCK (R121): TR_FLTn has been low for more than 10 ms; EV 0x45 once. -/
def execFltStuck (n : Fin 4) (s : State) : Outcome State Fault Refusal :=
  match (s.group n).fltLow with
  | none => ok s
  | some t =>
    if t + msTicks 10 < s.now ∧ bitOf (s.reg fabsFltStuck) n = false then
      let s := s.setGroup n { s.group n with fltHigh := some s.now }
      ok ((s.setReg fabsFltStuck (s.reg fabsFltStuck + 2 ^ n.val)).raise 1 0x45 255 false [BitVec.ofNat 8 n])
    else ok s

/-- FLT_STUCK_CLEAR (R121): TR_FLTn has been high for 1 ms, so at least 1 ms has passed since it was last known to be low. -/
def execFltStuckClear (n : Fin 4) (s : State) : Outcome State Fault Refusal :=
  let g := s.group n
  let short : Bool := match g.fltHigh with
    | none => false
    | some t => !s.passed t (msTicks 1)
  if g.fltDrive.isSome ∨ short then ok s
  else
    let s := s.setGroup n { g with fltLow := none, fltHigh := none, fltPeer := false }
    if bitOf (s.reg fabsFltStuck) n then ok (s.setReg fabsFltStuck (s.reg fabsFltStuck - 2 ^ n.val)) else ok s

/-! ### Cluster clocks (R33, R59, R122 to R124, R149) -/

/-- A shut-off has cut the channel within the 20 ticks by which a loss of its cluster's clock is found after the last edge (R122, R123). -/
def State.cutLately (s : State) (c : Nat) : Bool :=
  (s.part (s.chPart c)).line && (match (s.chan c).cutAt with
    | none => false
    | some t => decide (s.ctr (clOf c) ≤ t + 20))

/-- The partitions whose lines a loss of the clock of cluster n sets (R122): those with a connected channel in it, also at the last edge
before the loss (Table 4-6). -/
def State.lossHits (s : State) (n : Nat) : List Nat :=
  partitions.filter (fun p => (List.range 64).any (fun i =>
    s.kind (64 * n + i) != 0 && s.chPart (64 * n + i) == p && (s.connected (64 * n + i) || s.cutLately (64 * n + i))))

/-- The slots held in a cluster whose clock is lost are released (R149): an action that had not issued gives up its other slots and
waits again; one that had issued keeps its other slots. -/
def ActX.loseCluster (x : ActX) (n : Nat) : ActX :=
  if !x.slots.contains n then x
  else if x.issued then { x with slots := x.slots.filter (· != n) }
  else { x with armed := false, slots := [], waited := false }

/-- The armed actions of cluster n wait for its clock (R33). -/
def State.loseActions (s : State) (n : Nat) : State :=
  { s with actions := s.actions.map (fun (a : Nat × ActX) => (a.1, a.2.loseCluster n)) }

/-- CLUSTER_CLOCK_LOSS (R122, R123): the partitions with connected channels there are shut off with cause 0x02, FIRST_TICK the master
device time less 20 ticks; a sweep there is aborted with cause 6; EV 0x1B. The channel states of the cluster follow when the clock is
back (R59); until then its status is STALE. -/
def State.clockLoss (s : State) (n : Nat) : State :=
  let hits := s.lossHits n
  let first := s.now - 20
  let x := s.cluster n
  let s := s.setCluster n { x with clockLost := true, lostAt := x.counter, lostTime := s.now, lostParts := 0,
                                   lostHits := (hits.map (fun p => 2 ^ p)).sum }
  let s := s.each (partitions.filter (fun p => clOf (s.part p).bench.chan == n)) (fun s p => s.sweepEnd p 6)
  let s := s.each ((List.range 64).filter (fun i => (s.chan (64 * n + i)).staticMgn)) (fun s i => s.marginOff (64 * n + i))
  let s := s.loseActions n
  let s := s.each hits (fun s p =>
    if (s.part p).line then s.causeIn p 2 n first 0 0 else s.shutOff p 2 (some n) first 0 0 0)
  let s := s.setReg fabsFabricUntested 65535
  let s := s.each (partitions.filter (fun p => s.countsIn p n)) (fun s p => s.gapFlag p)
  (s.bump16 fabsClkLossCount).raise 9 0x1B 255 false [BitVec.ofNat 8 n]

def execClusterClockLoss (n : Fin 8) (s : State) : Outcome State Fault Refusal :=
  if (s.cluster n).clockLost then ok s else ok (s.clockLoss n)

/-- A channel of a partition that was shut off while its cluster's clock was lost, or by the loss (R56, R59): it becomes OFF at the tick after the
arrival tick, which is the last tick before the loss for a shut-off by the loss, else the first one after it; or TRIPPED when it was connected and
left window since it became so, with its exit stamped at or before that last tick. A partition that has left FAULTED meanwhile leaves no channel
TRIPPED. -/
def State.resolveCut (s : State) (c lost : Nat) (byLoss : Bool) : State :=
  let x := s.chan c
  let p := s.chPart c
  if x.state = .off ∨ x.state = .tripped then s
  else
    let at_ := if byLoss then lost + 1 else s.ctr (clOf c) + 1
    let trips := byLoss && (x.state == .running || x.state == .margin) && !s.inWindow c &&
      (match x.exitAt, tabFind x.entered 4 with
        | some e, some r => decide (r < e ∧ e ≤ lost)
        | _, _ => false) && (s.part p).state.isFaulted
    let quiet := !byLoss && clustersAll.any (fun n => (s.latch n p).isSet && (s.latch n p).cause == 1)
    let s := s.warnEnd c quiet
    (s.setChan c { s.chan c with marginSet := none, staticMgn := false, marginPend := none }).toState c (if trips then .tripped else .off) at_

/-- A channel of a cluster whose clock is back (R59): of a partition that was shut off it follows R56; of another partition SETTLE returns
to RAMP, an ABSENT channel restarts its settle timer, and a passed deadline makes it ABSENT. An ARMED or RAMP channel that is in window
settles anew (R53). -/
def State.resolveChan (s : State) (c : Nat) (k : ClusterX) : State :=
  let x := s.chan c
  let p := s.chPart c
  if s.kind c ≠ 1 then s
  else if bitOf k.lostParts p then s.resolveCut c k.lostAt (bitOf k.lostHits p)
  else
    let t := s.ctr (clOf c)
    let late := decide (x.armedAt + msTicks (s.act (chDeadline c)) ≤ t)
    let s := s.setChan c { x with settleAt := t }
    match x.state with
    | .armed => if late then s.goAbsent c t else if s.inWindow c then
        ((s.setChan c { s.chan c with rampSkip := true }).enterSettle c).gateTrip c
      else s
    | .ramp | .settle =>
      if late then s.goAbsent c t
      else
        let s := if x.state = .settle then s.toState c .ramp t else s
        if s.inWindow c then (s.enterSettle c).gateTrip c else s
    | _ => s

/-- A channel that relief parked while the clock of its cluster was lost is PARKED, unless it went OFF meanwhile; one that relief unparked is
ARMED from PARKED (R47, Table 2-3). -/
def State.parkBack (s : State) (c : Nat) : State :=
  let x := s.chan c
  let s := s.setChan c { x with parkPend := false, unparkPend := false }
  let s := if !x.parkPend then s else match x.state with
    | .armed | .ramp | .settle | .running | .margin | .absent => s.parkChan c
    | _ => s
  if x.unparkPend && (s.chan c).state == .parked then (s.armChan c).gateTrip c else s

/-- An enable takes the level that was ordered while the clock of its cluster was lost (R33, R115). -/
def State.takeOrder (s : State) (e : Nat) : State :=
  match (s.en e).order with
  | some b => s.latchEn e b
  | none => s

/-- CLUSTER_CLOCK_BACK (R124): the counter is reloaded from device time, forward only, a new epoch begins with calibration of the spare
(R90), gap integrators are cleared without being counted (R98), the comparator outputs are seen again, and the channels are resolved;
enables and trims take what was ordered meanwhile, and discharge enables whose time has passed are released at the first tick. -/
def State.clockBack (s : State) (n : Nat) : State :=
  let x := s.cluster n
  let mine := (List.range 64).map (fun i => 64 * n + i)
  let s := s.setCluster n
    { x with clockLost := false, counter := max x.counter s.now, acc := 0, inc := 2147483648, pulsed := none, pulseDiff := 0,
             epochAt := s.now, calDone := false, tourDone := false, toured := 0, refDone := false,
             rounds := x.rounds.map (fun (e : Nat × Round) => (e.1, { e.2 with opens := max x.counter s.now, win := none, win2 := none, tested := false })) }
  let s := s.each mine (fun s c =>
    let y := s.chan c
    let o := y.lostCmp.getD (y.upperCmp, y.lowerCmp)
    if s.kind c = 0 then s
    else s.setChan c { y with owKinds := [], gapClear := true, upperCmp := o.1, lowerCmp := o.2, lostCmp := none })
  let s := s.each mine (fun s c => s.resolveChan c x)
  let s := s.each (mine.filter (fun c => (s.chan c).parkPend || (s.chan c).unparkPend)) (fun s c => s.parkBack c)
  let s := s.each ((List.range 32).map (fun i => 32 * n + i)) (fun s e => s.takeOrder e)
  let s := s.each ((List.range 512).filter (fun c => s.kind c == 1 && s.act (chTrimKind c) == 1 && s.act (chTrimId c) / 16 == n))
    (fun s c => s.trimFollow c (s.chan c).state)
  s.each (partitions.filter (fun p => match (s.part p).dischEnd with
      | some t => decide (t ≤ s.now)
      | none => false)) (fun s p => s.dischargeEnd p)

/-- The clock of cluster n may be back (R124): 1 ms has passed since its loss, the time for which edges have come without a gap. -/
def State.mayReturn (s : State) (n : Nat) : Bool := (s.cluster n).clockLost && s.passed (s.cluster n).lostTime (msTicks 1)

/-- CLUSTER_CLOCK_BACK (R124). A cluster that is isolated as stalled waits for ISLAND_READY (R31). -/
def execClusterClockBack (n : Fin 8) (s : State) : Outcome State Fault Refusal :=
  if s.mayReturn n && !s.stalled.contains (n.val + 1) then ok (s.clockBack n) else ok s

/-! ### Retry, RESTART, FORCE_OFF (R125 to R127) -/

/-- The conditions beside the time that a retry waits for (R127). -/
def State.retryReady (s : State) (p : Nat) : Bool :=
  (s.part p).dischEnd.isNone && !clustersAll.any (fun n => (s.cluster n).clockLost && s.holdsIn p n) &&
    !s.fltHeld p

/-- The first channel of partition p with UPPER_CMP set. -/
def State.heldHigh (s : State) (p : Nat) : Option Nat := (s.chansOf p).find? (fun c => (s.chan c).upperCmp)

/-- A retry that is due is made (R127): counted as used; not made, with EV 0x1E, when a rail is held high; else the partition enters
STARTING with EV 0x1C. -/
def State.retry (s : State) (p : Nat) : State :=
  let used := s.reg (shutsRetriesUsed p) + 1
  let s := (s.setReg (shutsRetriesUsed p) used).setReg (shutsNextRetryTick p) 0
  let s := s.setPart p { s.part p with retryAt := none }
  match s.heldHigh p with
  | some c => s.raise (s.homeDom p) 0x1E p false (two c)
  | none => (s.restartPart p).raise (s.homeDom p) 0x1C p false [BitVec.ofNat 8 used]

/-- RETRY_DUE (R127). -/
def execRetryDue (p : Fin 16) (s : State) : Outcome State Fault Refusal :=
  match (s.part p).retryAt with
  | none => ok s
  | some t =>
    if t ≤ s.now ∧ s.retryReady p ∧ (s.part p).state = .faulted then ok (s.retry p) else ok s

/-- A RESTART (R126, R270): refused for a partition that is not FAULTED or LOCKED_OUT, for a LOCKED_OUT one by another role than OWNER,
and under a thermal hold. It begins only after the discharge has ended (R115) and, for a spanning partition, with TR_FLT high
(R121); until then it waits like a start that is held. -/
def State.restartWrite (s : State) (r : Role) (p : Nat) : State :=
  let x := s.part p
  match x.state with
  | .faulted | .lockedOut =>
    if x.state = .lockedOut ∧ isOwner r = false then s.answer 0x0201
    else if s.thermal.hotShut.inForce && bitOf (s.act thShutMap) p then s.answer 0x0507
    else
      let s := s.setReg (shutsRetriesUsed p) 0
      let s := (s.setPart p { s.part p with retryAt := none }).setReg (shutsNextRetryTick p) 0
      if s.restartWaits p then (s.setPart p { s.part p with startPend := true }).answer 2
      else (s.restartPart p).answer 0
  | _ => s.answer 0x0503

/-- RESTART (R126). -/
def execRestart (r : Role) (p : Fin 16) (v : Byte) (s : State) : Outcome State Fault Refusal :=
  ok (s.item r (ownerOr r p) (v == 1) (fun s => s.restartWrite r p))

/-- FORCE_OFF (R108, R113, R125): a force-off with cause 0x06; it cancels a pending start (R160). -/
def execForceOff (r : Role) (p : Fin 16) (v : Byte) (s : State) : Outcome State Fault Refusal :=
  ok (s.item r (ownerOr r p) (v == 1) (fun s => (s.causeAt p 6 0).answer 0))

/-- SAFE_N_RELEASE (R130): the last condition that holds SAFE_N low has ended. -/
def execSafeNRelease (s : State) : Outcome State Fault Refusal :=
  if s.safeHeld then ok s else ok { s with safeN := true }

end Sys2Proof.Machine
end

