-- ==== Sys2Proof/Machine/Clock.lean ====
section
/-! DEFINITION. The frame clock (R25 to R28): the passing of one tick, frame pulses, and the loss and return of the 25 MHz
reference. -/
namespace Sys2Proof.Machine

open Host

/-! ### One tick -/

/-- One edge of a cluster's 200 MHz oscillator: the accumulator takes the increment, and its overflow advances the counter (R25). -/
def ClusterX.edge (x : ClusterX) : ClusterX :=
  let a := x.acc + x.inc
  { x with acc := a % 4294967296, counter := x.counter + a / 4294967296 }

/-- The SYNCOUT accumulator takes its increment at two edges (R74). -/
def ClusterX.syncTick (x : ClusterX) : ClusterX :=
  if x.syncOrigin.isSome then { x with syncAcc := (x.syncAcc + 2 * x.syncInc) % 4294967296 } else x

/-- Two oscillator edges, the nominal length of one tick; a cluster whose clock is lost stands still. -/
def ClusterX.tick (x : ClusterX) : ClusterX := if x.clockLost then x else x.edge.edge.syncTick

/-- The middle of the counters of the clusters whose clocks run, the upper one of an even number (R28). -/
def State.medianCounter (s : State) : Option Nat :=
  let l := ((clustersAll.filter (fun n => !(s.cluster n).clockLost)).map (fun n => s.ctr n)).mergeSort (fun a b => decide (a ≤ b))
  l[l.length / 2]?

/-- The RTC counts seconds; the time passed is given in 1/128 of a tick (12,800,000,000 to a second). -/
def SupplyX.rtcPass (x : SupplyX) (d : Nat) : SupplyX :=
  let f := x.rtcFrac + d
  { x with rtc := (x.rtc + f / 12800000000) % 4294967296, rtcFrac := f % 12800000000 }

/-- The master counts, steered as a follower (R185), or follows the median of the cluster counters while the reference has failed (R28). By the
model's choice (log 1) device time is a number without a bound, of which reads and stamps show 64 bits, and it stands still while the
reference has failed and the clusters have no supply. -/
def State.masterTick (s : State) : State :=
  match s.refFailAt with
  | none => { s with now := s.now + (s.trestle.steerTick s.now).1, trestle := (s.trestle.steerTick s.now).2 }
  | some _ => { s with now := max s.now (s.medianCounter.getD (s.now + 1)) }

/-- One tick of 10 ns of device time with VAUX present: the clusters' oscillators, the RTC and the master run (R25 to R28). -/
def State.tickVaux (s : State) : State :=
  let s := s.each clustersAll (fun s n => s.setCluster n (s.cluster n).tick)
  { s with supply := s.supply.rtcPass 128 }.masterTick

/-- One cycle of the 32.768 kHz crystal from VBKUP: 3,051 or 3,052 ticks with the remainder carried (R27). -/
def State.tickCrystal (s : State) : State :=
  let f := s.supply.tickFrac + 97
  { s with now := s.now + 3051 + f / 128, supply := { s.supply with tickFrac := f % 128 }.rtcPass 390625 }

/-- Time passes by one cycle of the crystal in BACKUP, else by one tick. -/
def State.timePasses (s : State) : State := if s.supply.power = .backup then s.tickCrystal else s.tickVaux

/-! ### Frame pulses (R25, R122) -/

/-- The difference of the master from the counter of a cluster, with its accumulator, in 2^-32 of a tick (R25). -/
def State.counterDiff (s : State) (x : ClusterX) : Int := ((s.now : Int) - x.counter) * 4294967296 - x.acc

/-- The accumulator increment for the next millisecond, of 200,000 edges, from the present one (R25): it removes the difference d by the next
pulse, and what the rates differ by, which is what the difference has grown by since the latest pulse, some ticks ago; held to ±1,000 ppm
of 2^31 (log 32). -/
def incrementFor (inc : Nat) (d grown : Int) (ticks : Nat) : Nat :=
  let rate := roundAway (grown * 100000) (max 1 ticks)
  (2147483648 + clampInt (-2147484) 2147484 ((inc : Int) - 2147483648 + roundAway (d + rate) 200000)).toNat

/-- The phase that SYNCOUTn is to have now, in 2^-32 of a period (R74): SYNC_PHASE / 64 plus SYNC_FREQ times the time since its origin. -/
def State.syncTarget (s : State) (n t : Nat) : Nat :=
  (s.act (clSyncPhase n) * 67108864 + s.act (clSyncFreq n) * (s.now - t) * 4294967296 / 100000000) % 4294967296

/-- The phase increment of an edge for the next 200,000 edges: SYNC_FREQ, and what removes a phase error by their end (R74, log 27). -/
def syncIncrement (f : Nat) (err : Int) : Nat := (roundAway ((f : Int) * 4294967296 / 1000 + err) 200000).toNat

/-- The adjustment of a running SYNCOUT at a frame pulse (R74): its phase is never corrected by a jump. -/
def State.syncAdjust (s : State) (n : Nat) : State :=
  let x := s.cluster n
  match x.syncOrigin with
  | none => s
  | some t =>
    let err := toSigned 32 ((s.syncTarget n t + 4294967296 - x.syncAcc) % 4294967296)
    s.setCluster n { x with syncInc := syncIncrement (s.act (clSyncFreq n)) err }

/-- Whether the millisecond since the latest frame pulse at a cluster has passed (R25). -/
def State.pulseDue (s : State) (x : ClusterX) : Bool :=
  match x.pulsed with
  | none => true
  | some t => s.passed t (msTicks 1)

/-- A frame pulse at one cluster: a difference above 1 µs is a loss of its clock (R122), any other sets its increment and that of its
SYNCOUT. -/
def State.pulseAt (s : State) (n : Nat) : State :=
  let x := s.cluster n
  let d : Int := (s.now : Int) - x.counter
  if x.clockLost || !s.pulseDue x then s
  else if 100 < d ∨ d < -100 then s.clockLoss n
  else
    let e := s.counterDiff x
    let inc := match x.pulsed with
      | none => incrementFor x.inc e 0 100000
      | some t => incrementFor x.inc e (e - x.pulseDiff) (s.now - t)
    (s.setCluster n { x with inc := inc, pulsed := some s.now, pulseDiff := e }).syncAdjust n

/-- FRAME_PULSE (R25), a millisecond after the latest: while the clusters have no supply, or the crossing to the Hutch is isolated (R31), no
pulse reaches them. -/
def execFramePulse (s : State) : Outcome State Fault Refusal :=
  if !s.supply.vcore || s.stalled.contains 9 then ok s else ok (s.each clustersAll (fun s n => s.pulseAt n))

/-! ### The reference (R28, Table 1-4) -/

/-- REFERENCE_FAIL (R28): TIME_FREE is set, with EV 0x17 raised once. -/
def execReferenceFail (s : State) : Outcome State Fault Refusal :=
  let s := { s with refFailAt := some s.now }
  if s.timeFree then ok s else ok ({ s with timeFree := true }.raise 9 0x17 255)

/-- TIME_FREE_CLEAR (R28): the reference has been present without interruption for 100 ms. -/
def execTimeFreeClear (s : State) : Outcome State Fault Refusal :=
  match s.refFailAt with
  | none => ok { s with timeFree := false }
  | some t => if s.passed t (msTicks 100) then ok { s with timeFree := false, refFailAt := none } else ok s

/-! ### SYNCOUT (R74 to R77) -/

/-- The level of SYNCOUTn: low before its origin and while SYNC_ENABLE is 0, but for a high phase that a restart lets end; else the
square wave of its accumulator. -/
def State.syncHigh (s : State) (n : Nat) : Bool :=
  let x := s.cluster n
  decide (s.now < x.syncTail) || (x.syncOrigin.isSome && s.act (clSyncEnable n) == 1 && decide (x.syncAcc < 2147483648))

/-- The tick at which a high phase in progress ends; now, when the pin is low. -/
def State.syncTailAt (s : State) (n : Nat) : Nat :=
  let x := s.cluster n
  if x.syncOrigin.isSome && s.syncHigh n then s.now + (2147483648 - x.syncAcc + 2 * x.syncInc - 1) / (2 * x.syncInc)
  else max s.now x.syncTail

end Sys2Proof.Machine
end

