-- ==== Sys2Proof/Machine/Drives.lean ====
section
/-! DEFINITION. The pump and fan drives (R426 to R440): carrier periods and duties, the current and speed loops, position and speed,
faults, RUN and CLEAR_FAULT. Angles are in 1/65,536 of an electrical turn, voltages and duties in 1/65,536, currents in mA. The spec states
the loops as mathematics and no word length: the rounding here is the model's (log 8). -/
namespace Sys2Proof.Machine

open Host

/-! ### Trigonometry (log 8) -/

/-- The sine of an angle of the first quadrant, k of 65,536 parts of a turn, in 2^-30, by its series. -/
def sinQuarter (k : Int) : Int :=
  let x := k * 6746518852 / 65536
  let sq := x * x / 1073741824
  let t3 := x * sq / 1073741824 / 6
  let t5 := t3 * sq / 1073741824 / 20
  let t7 := t5 * sq / 1073741824 / 42
  let t9 := t7 * sq / 1073741824 / 72
  let t11 := t9 * sq / 1073741824 / 110
  x - t3 + t5 - t7 + t9 - t11

/-- The sine of an angle in 2^-30. -/
def sinTurn (k : Int) : Int :=
  let a := k % 65536
  if a ≤ 16384 then sinQuarter a
  else if a ≤ 32768 then sinQuarter (32768 - a)
  else if a ≤ 49152 then -sinQuarter (a - 32768)
  else -sinQuarter (65536 - a)

/-- The cosine of an angle in 2^-30. -/
def cosTurn (k : Int) : Int := sinTurn (k + 16384)

/-- The integer square root, rounded down. -/
def isqrt (n : Nat) : Nat := Nat.sqrt n

/-! ### Names of a drive's configuration -/

/-- The drive whose carrier a drive takes (R427). -/
def State.carrierOf (s : State) (d : Nat) : Nat :=
  if s.act (drvCarrierSource d) = 0 then d else s.act (drvCarrierSource d) - 1

/-- Carrier frequency in Hz (R427). -/
def State.carrierFreq (s : State) (d : Nat) : Nat := s.act (drvCarrierFreq (s.carrierOf d))

/-- Whether a drive's carrier runs: whenever the drive is enabled (R427) and its island is up. -/
def State.carrierRuns (s : State) (d : Nat) : Bool :=
  s.committed && s.act (drvEnable d) == 1 && s.act (drvEnable (s.carrierOf d)) == 1 && !s.islandBad.contains 13

/-- A current binding of a drive: CUR_U, CUR_V, CUR_W, CUR_DC for i = 0 to 3. -/
def State.curOf (s : State) (d i : Nat) : Nat := s.act (drvCur d i)

/-- The bound phase channels of a drive (R432). -/
def State.phasesOf (s : State) (d : Nat) : List Nat := ([0, 1, 2].map (fun i => s.curOf d i)).filter (· != 65535)

/-- The bound current channels of a drive, CUR_DC among them (R430). -/
def State.currentsOf (s : State) (d : Nat) : List Nat := ([0, 1, 2, 3].map (fun i => s.curOf d i)).filter (· != 65535)

/-- CUR_LIMIT as a signed number. -/
def State.curLimit (s : State) (d : Nat) : Int := (s.act (drvCurLimit d) : Int)

/-- Q16.16 gains. -/
def mulGain (k e : Int) : Int := k * e

/-! ### Electrical angle (R431) -/

/-- The angle at a tick: the raw position scaled by POLE_PAIRS, ANGLE_OFFSET, and the turn since the last good read at SPEED (0.1 rpm
is 1/600 of a turn in a second). -/
def State.angleAt (s : State) (d t : Nat) : Int :=
  let raw := s.reg (drvsRawPos d) / 16
  let pp := s.act (drvPolePairs d)
  let base : Int := (raw * pp * 65536 / 2 ^ s.act (drvPosBits d) + s.act (drvAngleOffset d) : Nat)
  let dt : Int := (t : Int) - s.reg (drvsLastPosTick d)
  (base + toSigned 32 (s.reg (drvsSpeed d)) * pp * 65536 * dt / 60000000000) % 65536

/-! ### Currents (R431, R432) -/

/-- The current of a bound channel in mA: (pin count - PHASE_OFFSET) times 36.62109375 µV times PHASE_SCALE. -/
def State.phaseCurrent (s : State) (d c : Nat) : Int :=
  roundAway ((((s.chan c).loopRes : Int) - s.act (drvPhaseOffset d)) * 2400000 * s.act (drvPhaseScale d)) 4294967296000

/-- The three phase currents; W is -(U + V) when CUR_W is not bound. -/
def State.phaseCurrents (s : State) (d : Nat) : Int × Int × Int :=
  let u := s.phaseCurrent d (s.curOf d 0)
  let v := s.phaseCurrent d (s.curOf d 1)
  (u, v, if s.curOf d 2 = 65535 then -(u + v) else s.phaseCurrent d (s.curOf d 2))

/-- Id and Iq by the Clarke and Park transforms at an angle. 619925131 is 1/√3 in 2^-30. -/
def park (i : Int × Int × Int) (th : Int) : Int × Int :=
  let (u, v, w) := i
  let a := roundAway (2 * u - v - w) 3
  let b := (v - w) * 619925131 / 1073741824
  (roundAway (a * cosTurn th + b * sinTurn th) 1073741824, roundAway (b * cosTurn th - a * sinTurn th) 1073741824)

/-- 2/√3 in 1/65,536. -/
def vMax : Int := 75674

/-- One run of a PI regulator on an error in mA with Q16.16 gains per A: output, and the integral held so that the output stays within
2/√3 (R432). -/
def piCurrent (kp ki e int : Int) : Int × Int :=
  let p := kp * e / 1000
  let i := clampInt (-vMax - p) (vMax - p) (int + ki * e / 1000)
  (clampInt (-vMax) vMax (p + i), i)

/-- The current setpoint of the Iq regulator (R431). -/
def State.iqSet (s : State) (d : Nat) : Int :=
  if s.act (drvCtrlMode d) = 3 then (s.drive d).curSet else toSigned 32 (s.reg (drvcCurrentSet d))

/-- The current loop of a drive at the end of the window that completed its set (R432): Id and Iq at the mid-point of that window and, in
modes 2 and 3 of a running drive, a new voltage vector. -/
def State.currentLoop (s : State) (d mid : Nat) : State :=
  let (id, iq) := park (s.phaseCurrents d) (s.angleAt d mid)
  let s := (s.setReg (drvsId d) (ofSigned 32 id)).setReg (drvsIq d) (ofSigned 32 iq)
  let x := { s.drive d with fresh := [] }
  if x.running && s.act (drvCtrlMode d) != 1 then
    let kp : Int := s.act (drvCurKp d)
    let ki : Int := s.act (drvCurKi d)
    let (vq, qi) := piCurrent kp ki (s.iqSet d - iq) x.iqInt
    let (vd, di) := piCurrent kp ki (0 - id) x.idInt
    s.setDrive d { x with vd := vd, vq := vq, iqInt := qi, idInt := di, vNew := true }
  else s.setDrive d x

/-- A published result of a phase channel (R432): the loop of each drive that binds it runs once its set is complete. -/
def State.phasePublished (s : State) (c mid : Nat) : State :=
  s.each ((List.range 4).filter (fun d => s.act (drvEnable d) == 1 && (s.phasesOf d).contains c)) (fun s d =>
    let x := s.drive d
    let fresh := x.fresh.insert c
    let s := s.setDrive d { x with fresh := fresh }
    if (s.phasesOf d).all (fun k => fresh.contains k) then s.currentLoop d mid else s)

/-! ### Carrier periods and outputs (R426 to R429) -/

/-- The voltage vector held to a modulus of 2/√3 (R431), and whether it was clipped. -/
def clipVector (vd vq : Int) : Int × Int × Bool :=
  let m2 := (vd * vd + vq * vq).toNat
  if 3 * m2 > 17179869184 then
    let m : Int := isqrt m2
    (vd * vMax / m, vq * vMax / m, true)
  else (vd, vq, false)

/-- The duties of the three phases for a voltage vector at an angle (R431): the phase voltages shifted by minus half the sum of the
largest and the smallest, and ±1 mapped to a duty of 1 or 0. 1859775393 is √3 in 2^-30. -/
def dutiesOf (vd vq th : Int) : List Int :=
  let a := roundAway (vd * cosTurn th - vq * sinTurn th) 1073741824
  let b := roundAway (vd * sinTurn th + vq * cosTurn th) 1073741824
  let q := b * 1859775393 / 1073741824
  let u := a
  let v := (q - a) / 2
  let w := (-q - a) / 2
  let mid := (max u (max v w) + min u (min v w)) / 2
  [u, v, w].map (fun x => clampInt 0 65536 ((x - mid + 65536) / 2))

/-- One phase in a carrier period of t ps (R428): its on-time in ps and its carry. -/
def phasePeriod (t minPulse duty carry : Int) : Int × Int :=
  let want := clampInt 0 t (duty * t / 65536 + carry)
  if want < minPulse then (0, want)
  else if t - want < minPulse then (t, want - t)
  else
    let on := roundAway want 2500 * 2500
    (on, want - on)

/-- Where the high-side pulse of a period begins that starts at t0 and lasts t ps: it is centred, on an edge of the 400 MHz clock (log 8). -/
def highRise (t0 t on : Nat) : Nat := if on = t then t0 else (t0 + (t - on) / 2) / 2500 * 2500

/-- The outputs of a phase with a high-side pulse of the period (R428, R429), and the gap to the pulse before that it bridges. A gap shorter
than MIN_PULSE stays on; else the low output has been on in it, shortened by DEAD_TIME at both ends, unless less than MIN_PULSE remains. -/
def PhaseX.pulse (x : PhaseX) (rise on dead minPulse : Nat) : PhaseX × Nat :=
  if on = 0 then (x, 0)
  else
    let fall := rise + on
    let apart : PhaseX × Nat := ({
      high := some (rise, fall), lowFrom := fall + dead,
      low := if x.lowFrom + minPulse + dead ≤ rise then some (x.lowFrom, rise - dead) else none }, 0)
    match x.high with
    | some h => if rise < h.2 + minPulse then ({ x with high := some (h.1, fall), lowFrom := fall + dead }, rise - h.2) else apart
    | none => apart

/-- Whether the high and the low output of a phase are on at a time in ps. -/
def PhaseX.highOn (x : PhaseX) (t : Nat) : Bool := x.high.any (fun h => decide (h.1 ≤ t ∧ t < h.2))
def PhaseX.lowOn (x : PhaseX) (t : Nat) : Bool := x.low.any (fun l => decide (l.1 ≤ t ∧ t < l.2)) || decide (x.lowFrom ≤ t)

/-- The level of an output of a drive, of phase i its high or its low one (R426, R429): low while the drive does not run, before the first
commit and under the clamp of R132. -/
def State.driveOut (s : State) (d i : Nat) (high : Bool) : Bool :=
  let x := (s.drive d).pulses.getD i {}
  (s.drive d).running && s.committed && s.supply.vcore && (if high then x.highOn (10000 * s.now) else x.lowOn (10000 * s.now))

/-- New duties, when there are any, taken at the start of a carrier period (R431, R432). In mode 1 they are formed anew in each. -/
def State.takeDuties (s : State) (d : Nat) : State :=
  let x := s.drive d
  let duty := s.act (drvCtrlMode d) == 1
  if !(duty || x.vNew) then s
  else
    let vq : Int := if duty then toSigned 16 (s.reg (drvcDutySet d)) * 65536 / 1000 else x.vq
    let vd : Int := if duty then 0 else x.vd
    let (cd, cq, clipped) := clipVector vd vq
    let s := s.setReg (drvsModIndex d) (isqrt ((cd * cd + cq * cq).toNat * 1000000) / 65536)
    let s := s.setDrive d { x with duty := dutiesOf cd cq (s.angleAt d s.now), vNew := false, clipRaised := x.clipRaised || clipped }
    if clipped && !x.clipRaised then s.raise 13 0x83 (s.act (drvPartition d)) false [BitVec.ofNat 8 d] else s

/-- When period k of the carrier of drive d begins, in ps of device time (R427): the carrier of another drive is delayed by CARRIER_PHASE / 64
of a period. -/
def State.periodAt (s : State) (d k : Nat) : Nat :=
  let phase := if s.act (drvCarrierSource d) = 0 then 0 else s.act (drvCarrierPhase d)
  10000 * (s.drive (s.carrierOf d)).carrierAt + (64 * k + phase) * 1000000000000 / (64 * s.carrierFreq d)

/-- The phases of a running drive in period k of its carrier (R428, R429). -/
def State.phasePeriods (s : State) (d k : Nat) : State :=
  let x := s.drive d
  let t0 := s.periodAt d k
  let t := s.periodAt d (k + 1) - t0
  let m := 2500 * s.act (drvMinPulse d)
  let r := [0, 1, 2].map (fun i =>
    let (on, c) := phasePeriod t m (x.duty.getD i 0) (x.carry.getD i 0)
    let (y, gap) := (x.pulses.getD i {}).pulse (highRise t0 t on.toNat) on.toNat (2500 * s.act (drvDeadTime d)) m
    (y, c - (gap : Int)))
  s.setDrive d { x with pulses := r.map (·.1), carry := r.map (·.2) }

/-- CARRIER_PERIOD (R427, R428): the next carrier period of drive d starts. -/
def State.carrierPeriod (s : State) (d : Nat) : State :=
  let k := (s.drive d).begun
  let s := s.setDrive d { s.drive d with begun := k + 1, periods := (s.drive d).periods + 1 }
  if !(s.drive d).running then s else (s.takeDuties d).phasePeriods d k

def execCarrierPeriod (d : Fin 4) (s : State) : Outcome State Fault Refusal :=
  if s.carrierRuns d ∧ s.periodAt d (s.drive d).begun ≤ 10000 * s.now then ok (s.carrierPeriod d) else ok s

/-! ### Drive faults (R438) -/

/-- A drive fault: the outputs stop, FAULT_CAUSE, EV 0x80 and FAULT_COUNT. A drive that is faulted keeps its first cause. -/
def State.driveFault (s : State) (d cause : Nat) : State :=
  let s := s.setDrive d { s.drive d with faultAt := some s.now }
  let x := s.drive d
  if x.fault ≠ 0 then s
  else
    let s := (s.setDrive d { x with fault := cause }).bump16 (drvsFaultCount d)
    (s.raise 13 0x80 (s.act (drvPartition d)) false [BitVec.ofNat 8 d, BitVec.ofNat 8 cause]).driveSync d

/-- DRIVE_OVERCURRENT (R430): a comparator of a bound current channel is asserted. -/
def execDriveOvercurrent (c : Fin 512) (s : State) : Outcome State Fault Refusal :=
  if s.inWindow c then ok s
  else ok (s.each ((List.range 4).filter (fun d => s.act (drvEnable d) == 1 && (s.currentsOf d).contains c.val))
    (fun s d => s.driveFault d 1))

/-- The stall condition of a drive in SPEED mode: the current setpoint at ±CUR_LIMIT with STANDSTILL set (Table 17-1). -/
def State.stalls (s : State) (d : Nat) : Bool :=
  let x := s.drive d
  x.running && s.act (drvCtrlMode d) == 3 && x.standstill && (x.curSet == s.curLimit d || x.curSet == -s.curLimit d)

/-- Note since when the stall condition holds. -/
def State.stallTrack (s : State) (d : Nat) : State :=
  let x := s.drive d
  s.setDrive d { x with stallFrom := if s.stalls d then (if x.stallFrom.isSome then x.stallFrom else some s.now) else none }

/-- DRIVE_STALL (Table 17-1): the stall condition has held for STALL_TIME, which 0 turns off. -/
def execDriveStall (d : Fin 4) (s : State) : Outcome State Fault Refusal :=
  match (s.drive d).stallFrom with
  | none => ok s
  | some t =>
    if s.act (drvStallTime d) ≠ 0 ∧ s.passed t (msTicks (s.act (drvStallTime d))) ∧ s.stalls d then ok (s.driveFault d 3) else ok s

/-! ### Position and speed (R433 to R436) -/

/-- The change points within SPEED_WINDOW of a tick, keeping at least the last two. -/
def dropOld (l : List (Int × Nat)) (t w : Nat) : List (Int × Nat) :=
  let keep := l.filter (fun p => decide (t ≤ p.2 + w))
  if 2 ≤ keep.length then keep else l.drop (l.length - 2)

/-- SPEED over change points, in 0.1 rpm, rounded toward zero (R436). -/
def speedOver (l : List (Int × Nat)) (rev : Nat) : Int :=
  match l.head?, l.getLast? with
  | some (qf, tf), some (ql, tl) => if tl ≤ tf then 0 else ((ql - qf) * 60000000000).tdiv ((rev * (tl - tf) : Nat) : Int)
  | _, _ => 0

/-- SPEED becomes 0, STANDSTILL set and no change points (R436). -/
def State.stand (s : State) (d : Nat) : State :=
  (s.setReg (drvsSpeed d) 0).setDrive d { s.drive d with standstill := true, estimating := false, points := [] }

/-- The procedure speed_read of R436 at a good read of unwrapped count q stamped t. -/
def State.speedRead (s : State) (d : Nat) (q : Int) (t : Nat) : State :=
  let x := s.drive d
  if q = x.qPrev then (if msTicks 100 ≤ t - x.tChange then s.stand d else s)
  else
    let sg : Int := if x.qPrev < q then 1 else -1
    let y := { x with qPrev := q, tChange := t, lastSign := sg }
    if x.standstill then s.setDrive d { y with standstill := false, points := [(q, t)], estimating := true }
    else
      let pts := if sg = x.lastSign then dropOld (x.points ++ [(q, t)]) t (msTicks (s.act (drvSpeedWindow d)))
        else x.points.drop (x.points.length - 1) ++ [(q, t)]
      (s.setDrive d { y with points := pts, estimating := sg != x.lastSign }).setReg (drvsSpeed d)
        (ofSigned 32 (speedOver pts (s.act (drvCountsRev d))))

/-- The thermal boost acts on a drive (R272, R433). -/
def State.boosted (s : State) (d : Nat) : Bool := s.thermal.boost && bitOf (s.act thBoostMap) d

/-- The effective speed setpoint (R433). -/
def State.speedSet (s : State) (d : Nat) : Int :=
  let v := toSigned 32 (s.reg (drvcSpeedSet d))
  let b : Int := 10 * s.act thBoostSpeed
  if s.boosted d then (if v < 0 then min v (-b) else max v b) else v

/-- The speed loop after a good read (R433): the current setpoint, the integral held while ESTIMATING is set. -/
def State.speedLoop (s : State) (d : Nat) : State :=
  let x := s.drive d
  if x.running && s.act (drvCtrlMode d) == 3 then
    let e := s.speedSet d - toSigned 32 (s.reg (drvsSpeed d))
    let i := if x.estimating then x.spInt else x.spInt + (s.act (drvSpeedKi d) : Int) * e
    let out := roundAway ((s.act (drvSpeedKp d) : Int) * e + i) 65536
    (s.setDrive d { x with spInt := i, curSet := clampInt (-s.curLimit d) (s.curLimit d) out }).stallTrack d
  else s.stallTrack d

/-- The binary value of a Gray-coded word of n bits. -/
def grayToBinary (n w : Nat) : Nat := (List.range n).foldl (fun a i => a ^^^ (w / 2 ^ i)) 0

/-- The position step of a raw difference modulo 2^n (R435). -/
def posStep (n : Nat) (new old : Nat) : Int := toSigned n ((new + 2 ^ n - old) % 2 ^ n)

/-- Whether the words that a sensor gave pass the checks of R434: DAT high at the start and released at the end, parity, status bits. -/
def State.readPasses (s : State) (d : Nat) (r : PosRead) : Bool :=
  let st := s.act (drvPosStatusBits d)
  let n := s.act (drvPosBits d) + st
  let ones := ((List.range n).filter (bitOf r.word)).length + (if r.parity then 1 else 0)
  let par := s.act (drvPosParity d)
  !r.startLow && r.released && (par == 0 || (par == 1 && ones % 2 == 0) || (par == 2 && ones % 2 == 1)) &&
    (r.word % 2 ^ st) &&& s.act (drvPosStatusMask d) == 0

/-- A failed read (R434, R435): counted; the third in succession is a drive fault with cause 2 and EV 0x81, SPEED 0 and STANDSTILL. -/
def State.posFail (s : State) (d : Nat) : State :=
  let s := s.bump16 (drvsPosErrCount d)
  let x := s.drive d
  let s := s.setDrive d { x with failRun := x.failRun + 1 }
  if x.failRun + 1 = 3 then
    let s := s.raise 13 0x81 (s.act (drvPartition d)) false (BitVec.ofNat 8 d :: two (s.reg (drvsPosErrCount d)))
    (s.stand d).driveFault d 2
  else s

/-- POSITION adds a step modulo COUNTS_REV, and REVS counts its wraps (R435). -/
def State.addStep (s : State) (d : Nat) (step : Int) : State :=
  let rev : Int := s.act (drvCountsRev d)
  let p : Int := s.reg (drvsPosition d) + step
  let s := (s.setReg (drvsPosition d) (p % rev).toNat).setReg (drvsRevs d)
    (ofSigned 32 (toSigned 32 (s.reg (drvsRevs d)) + p / rev))
  s.setDrive d { s.drive d with unwrapped := (s.drive d).unwrapped + step }

/-- A good read (R435, R436, R433). -/
def State.posGood (s : State) (d bits status : Nat) : State :=
  let n := s.act (drvPosBits d)
  let x := s.drive d
  let step := match x.lastRaw with
    | none => 0
    | some old => posStep n bits old
  if (2 ^ (n - 2) : Int) < step ∨ step < -(2 ^ (n - 2) : Int) then s.posFail d
  else
    let s := s.setDrive d { x with lastRaw := some bits, failRun := 0 }
    let s := (s.setReg (drvsRawPos d) (bits * 16 + status)).setReg (drvsLastPosTick d) s.now
    let s := s.addStep d step
    (s.speedRead d (s.drive d).unwrapped s.now).speedLoop d

/-- POSITION_READ (R434): the read at the start of every POS_PERIOD-th carrier period. Position bits come before status bits. -/
def execPositionRead (d : Fin 4) (rd : PosRead) (s : State) : Outcome State Fault Refusal :=
  let x := s.drive d
  if s.carrierRuns d = false ∨ x.periods < s.act (drvPosPeriod d) then ok s
  else
    let s := s.setDrive d { x with periods := 0 }
    if !s.readPasses d rd then ok (s.posFail d)
    else
      let st := s.act (drvPosStatusBits d)
      let n := s.act (drvPosBits d)
      let w := rd.word / 2 ^ st % 2 ^ n
      ok (s.posGood d (if s.act (drvPosCode d) = 1 then grayToBinary n w else w) (rd.word % 2 ^ st))

/-- STANDSTILL (R436): 100 ms have passed with no change point, not even one in their last tick (Table 17-2). -/
def execStandstill (d : Fin 4) (s : State) : Outcome State Fault Refusal :=
  let x := s.drive d
  if x.standstill = false ∧ x.tChange + msTicks 100 < s.now then ok ((s.stand d).stallTrack d) else ok s

/-! ### RUN and CLEAR_FAULT (R437, R438) -/

/-- RUN (R437): kept in any state of the owner. -/
def execRun (r : Role) (d : Fin 4) (v : Byte) (s : State) : Outcome State Fault Refusal :=
  ok (s.item r (ownerOr r (s.act (drvPartition d))) (v == 0 || v == 1)
    (fun s => (s.runWrite d v.toNat).answer 0))

/-- Whether the cause of a drive fault persists, or the fault was found in this tick (R438, Table 17-2). -/
def State.faultPersists (s : State) (d : Nat) : Bool :=
  (s.drive d).faultAt == some s.now ||
  (s.currentsOf d).any (fun c => !s.inWindow c) || s.islandBad.contains 13

/-- CLEAR_FAULT: refused while the cause persists; the drive then runs again if RUN is 1. -/
def State.clearFault (s : State) (d : Nat) : State :=
  if s.faultPersists d then s.answer 0x0506
  else ((s.setDrive d { s.drive d with fault := 0, failRun := 0 }).driveSync d).answer 0

def execClearFault (r : Role) (d : Fin 4) (v : Byte) (s : State) : Outcome State Fault Refusal :=
  ok (s.item r (ownerOr r (s.act (drvPartition d))) (v == 1) (fun s => s.clearFault d))

end Sys2Proof.Machine
end

