-- ==== Sys2Proof/Machine/Measure.lean ====
section
/-! DEFINITION. Integrating measurement (R65 to R99): windows, results and what each result drives (ramp detection, warnings, charge and
energy, the hardware trim loop, streams, drive loops), the rotation, calibration and check tour of slices, and open-wire tests.
A visit carries means at the pin in nV; pin counts are 2,400,000,000 / 65,536 nV. -/
namespace Sys2Proof.Machine

open Host

/-! ### Windows (R66 to R72) -/

/-- The group of a channel in its cluster (R37). -/
def groupIn (c : Nat) : Nat := c % 64 / 8

/-- The channels of group g of cluster n that take a slot (R65). -/
def State.boundIn (s : State) (n g : Nat) : List Nat :=
  ((List.range 8).map (fun i => 64 * n + 8 * g + i)).filter (fun c => s.kind c != 0)

/-- Frequency of the lock source of cluster n in Hz (R70). -/
def State.lockFreq (s : State) (n : Nat) : Nat :=
  if s.act (clLockSource n) = 0 then s.act (clSyncFreq n) else s.carrierFreq (s.act (clLockSource n) - 1)

/-- Window length W of cluster n in ns as a fraction (R68, R69, R72). -/
def State.windowRatio (s : State) (n : Nat) : Nat × Nat :=
  if s.act (clWindowMode n) = 0 then (s.act (clFreeWindow n), 1)
  else if (s.cluster n).lockFall && !(s.cluster n).lockRes then (roundUp (s.act (clLockPeriods n) * (s.cluster n).lockPeriod) 10000 * 10, 1)
  else (s.act (clLockPeriods n) * 1000000000, s.lockFreq n)

/-- Window length W of cluster n in ps: FREE_WINDOW, LOCK_PERIODS periods of the lock source, or in fallback LOCK_PERIODS times the
carrier period last measured, rounded to 10 ns (R68, R69, R72). -/
def State.windowPs (s : State) (n : Nat) : Nat :=
  if s.act (clWindowMode n) = 0 then s.act (clFreeWindow n) * 1000
  else if (s.cluster n).lockFall && !(s.cluster n).lockRes then roundUp (s.act (clLockPeriods n) * (s.cluster n).lockPeriod) 10000 * 10000
  else s.act (clLockPeriods n) * 1000000000000 / s.lockFreq n

/-- The round of group g of cluster n. -/
def State.round (s : State) (n g : Nat) : Round := (tabFind (s.cluster n).rounds g).getD {}

/-- Set the round of a group. -/
def State.setRound (s : State) (n g : Nat) (r : Round) : State :=
  let x := s.cluster n
  s.setCluster n { x with rounds := tabInsert g r (tabErase x.rounds g) }

/-- The channel whose window is the next or the present one of its group (R65): the one of a window that a commit came into, else the one
after the channel served last, in ascending order and from the beginning again. -/
def State.nextIn (s : State) (n g : Nat) : Option Nat :=
  let r := s.round n g
  match r.win, r.last with
  | some w, _ => some w.chan
  | none, none => (s.boundIn n g).head?
  | none, some c => ((s.boundIn n g).find? (fun d => decide (c < d))).or (s.boundIn n g).head?

/-- A window of channel c under the settings in force. -/
def State.windowNow (s : State) (c : Nat) : Window :=
  { chan := c, ps := s.windowPs (clOf c), lock := s.act (clWindowMode (clOf c)) == 1 && s.act (clLockSource (clOf c)) == 0,
    kind := s.kind c, divider := s.act (chDivider c), scale := s.act (chCurScale c), offset := s.act (chCurOffset c) }

/-- The window of channel c with the settings with which it began (R73). -/
def State.sliceWindow (s : State) (c : Nat) : Window :=
  match (s.round (clOf c) (groupIn c)).win with
  | some w => if w.chan = c then w else s.windowNow c
  | none => s.windowNow c

/-- The second window of a test pair of channel c with the settings with which it began (R73). -/
def State.pairWindow (s : State) (c : Nat) : Window :=
  match (s.round (clOf c) (groupIn c)).win2 with
  | some w => w
  | none => s.windowNow c

/-- Window length in ticks, rounded down. -/
def Window.ticks (w : Window) : Nat := w.ps / 10000

/-- The tick at which the window of channel c ends, and that at which the second window of its test pair does, after a changeover of 0.25 µs
and not before the tick for which its group is held (R65, R77). -/
def State.windowEnds (s : State) (c : Nat) : Nat := (s.round (clOf c) (groupIn c)).opens + (s.sliceWindow c).ticks
def State.pairEnds (s : State) (c : Nat) : Nat :=
  max (s.windowEnds c + 25) (s.round (clOf c) (groupIn c)).hold + (s.pairWindow c).ticks

/-- It is the turn of channel c in its group, and its visit ends at a tick or has ended (R65). -/
def State.visitDue (s : State) (c ends : Nat) : Bool :=
  s.nextIn (clOf c) (groupIn c) == some c && decide (ends ≤ s.ctr (clOf c))

/-- A visit has ended: the changeover of 0.25 µs begins, and then the next channel's window (R65). Each round of the group over its channels may
have one test pair (R94). -/
def State.visitEnd (s : State) (c : Nat) (pair : Bool) : State :=
  let n := clOf c
  let r := s.round n (groupIn c)
  let at_ := max (s.ctr n + 25) r.hold
  let s := if (s.cluster n).lockRes && (s.cluster n).lockOpen.isNone then s.setCluster n { s.cluster n with lockOpen := some at_ } else s
  let wraps := !(s.boundIn n (groupIn c)).any (fun d => decide (c < d))
  s.setRound n (groupIn c) { last := some c, opens := at_, hold := r.hold, tested := (r.tested || pair) && !wraps }

/-- The windows of a group in progress are discarded; the next one opens at a tick or later, on the same channel (R72, R77). -/
def State.roundBreak (s : State) (n g at_ : Nat) : State :=
  s.setRound n g { s.round n g with opens := at_, win := none, win2 := none }

/-- The visits of a group come later by a time in ns (R66). -/
def State.lengthen (s : State) (n g ns : Nat) : State :=
  s.each (s.boundIn n g) (fun s c => s.setChan c { s.chan c with late := (s.chan c).late + ns })

/-- The refresh period of group g of cluster n in ns without any lengthening (R66): 0 for an idle group. The spec states no rounding; by the
model's choice (log 27) W is rounded down to ps and the period down to ns. -/
def State.refreshBase (s : State) (n g : Nat) : Nat := (s.boundIn n g).length * (s.windowPs n + 250000) / 1000

/-- The present refresh period of group g in ns (REFRESH_Gn): with the time by which the channel to be served next has been delayed (R66,
log 27). -/
def State.refreshNs (s : State) (n g : Nat) : Nat :=
  match s.nextIn n g with
  | none => 0
  | some c => s.refreshBase n g + (s.chan c).late

/-- Resolution of a result in bits (Table 3-1). -/
def resolution (ps : Nat) : Nat :=
  if ps < 1000000 then 11 else if ps < 2000000 then 12 else if ps < 4000000 then 13
  else if ps < 8000000 then 14 else if ps < 16000000 then 15 else 16

/-- The result of a window mean in nV (R79). -/
def resultOf (ps : Nat) (mean : Int) : Nat :=
  let bits := resolution ps
  let q := (2 * mean * 2 ^ bits + 2400000000) / (2 * 2400000000)
  if q ≤ 0 then 0 else if 2 ^ bits ≤ q then 65535 else q.toNat * 2 ^ (16 - bits)

/-- Rounded quotient, halves up, of an integer. -/
def roundHalfUp (num den : Int) : Int := (2 * num + den) / (2 * den)

/-- The rail value of a result (R44): µV for VOLTAGE and MEASURE channels, µA for CURRENT channels. -/
def Window.rail (w : Window) (r : Nat) : Int :=
  if w.kind = 2 then roundHalfUp (((r : Int) - w.offset) * 2400000 * w.scale) 4294967296
  else roundHalfUp ((r : Int) * 2400000 * w.divider) 4294967296

/-- The slice that serves the group of a channel (SERVING_SLICE). -/
def State.servingSlice (s : State) (c : Nat) : Option Nat := ((s.cluster (clOf c)).sliceMap[groupIn c]?).join

/-- The spare slice of cluster n. -/
def State.spare (s : State) (n : Nat) : Option Nat := ((s.cluster n).sliceMap[8]?).join

/-- Whether windows of a channel are measured: configured, clocked, served, and not held by a restart of its lock source (R77). -/
def State.measures (s : State) (c : Nat) : Bool :=
  let n := clOf c
  s.committed && (s.sliceWindow c).kind != 0 && !(s.cluster n).clockLost && (s.servingSlice c).isSome &&
    !((s.sliceWindow c).lock && (s.cluster n).syncRestart.isSome)

/-! ### Warnings (R96) -/

/-- Whether the results of a channel are evaluated for warnings. -/
def State.evaluates (s : State) (c : Nat) : Bool :=
  if s.kind c = 3 then true else s.chState c == .running

/-- One side of a warning: its set mark, run beyond and run inside. Answers the new ones and an event to raise: some true set, some
false cleared. -/
def warnSide (count : Nat) (beyond inside isSet : Bool) (run ins : Nat) : Bool × Nat × Nat × Option Bool :=
  let run := if beyond then run + 1 else 0
  let ins := if inside then ins + 1 else 0
  if !isSet && decide (count ≤ run) then (true, run, 0, some true)
  else if isSet && decide (count ≤ ins) then (false, 0, ins, some false)
  else (isSet, run, ins, none)

/-- Raise EV 0x12 for one side. -/
def State.warnEvent (s : State) (c side : Nat) (e : Option Bool) : State :=
  match e with
  | none => s
  | some b => s.raise (clOf c + 1) 0x12 (s.chPart c) (!b) (two c ++ [BitVec.ofNat 8 side])

/-- Evaluate a result against the warning limits (R96). -/
def State.warnEvaluate (s : State) (c r : Nat) : State :=
  if !s.evaluates c then s
  else
    let n := clOf c
    let hyst := s.act (clWarnHyst n)
    let u := s.act (chUpperWarn c)
    let l := s.act (chLowerWarn c)
    let above := u != 65535 && decide (u < r)
    let below := l != 0 && decide (r < l)
    let x := s.chan c
    let (us, ur, ui, ue) := warnSide (s.act (clWarnCount n)) above (decide (r + hyst ≤ u)) x.upperSet x.upperRun x.upperIn
    let (ls, lr, li, le) := warnSide (s.act (clWarnCount n)) below (decide (l + hyst ≤ r)) x.lowerSet x.lowerRun x.lowerIn
    let s := s.setChan c { x with upperWarn := above, lowerWarn := below, upperSet := us, upperRun := ur, upperIn := ui,
                                  lowerSet := ls, lowerRun := lr, lowerIn := li }
    (s.warnEvent c 1 ue).warnEvent c 2 le

/-! ### Charge and energy (R97 to R99, R220) -/

/-- What the gap integrator holds at most: 2.400 V over 8.5 ms, in nV ns (R98). -/
def gapMax : Int := 20400000000000000

/-- The visit charge in 2^-32 of 10^-21 C (R97): CUR_SCALE times the sum of the gap and window integrals. -/
def Window.charge (w : Window) (mean gap : Int) : Int :=
  (w.scale : Int) * (gap * 65536000 + (mean * 65536 - (w.offset : Int) * 2400000000) * w.ps)

/-- 1 nC in 2^-32 of 10^-21 C, and 1 nJ in 2^-32 of 10^-27 J. -/
def unitCharge : Nat := 1000000000000 * 4294967296
def unitEnergy : Nat := 1000000000000000000 * 4294967296

/-- Add a visit charge to CHARGE_POS or CHARGE_NEG by its sign, in nC modulo 2^64, the remainder carried. -/
def State.addCharge (s : State) (c : Nat) (q : Int) : State :=
  let n := clOf c
  let x := s.chan c
  let k := if 0 ≤ q then clsChargePos n (c % 64) else clsChargeNeg n (c % 64)
  let r := (if 0 ≤ q then x.chargeRem else x.chargeRemN) + q.natAbs
  let s := s.setChan c (if 0 ≤ q then { x with chargeRem := r % unitCharge } else { x with chargeRemN := r % unitCharge })
  s.setReg k ((s.reg k + r / unitCharge) % 18446744073709551616)

/-- Add a visit energy to the ledger of the channel's partition (R220); the running interval of a partition whose latch entry is set
stands still (R23). -/
def State.addEnergy (s : State) (c : Nat) (e : Int) : State :=
  let p := s.chPart c
  let x := s.chan c
  let r := (if 0 ≤ e then x.energyRem else x.energyRemN) + e.natAbs
  let s := s.setChan c (if 0 ≤ e then { x with energyRem := r % unitEnergy } else { x with energyRemN := r % unitEnergy })
  let y := s.part p
  let m := r / unitEnergy
  s.setPart p (
    if 0 ≤ e then { y with totIn := y.totIn + m,
                           intIn := if y.frozen then y.intIn else y.intIn + m,
                           subIn := if y.frozen then y.subIn else y.subIn + m }
    else { y with totOut := y.totOut + m, intOut := if y.frozen then y.intOut else y.intOut + m })

/-- The visit of a CURRENT channel (R97 to R99): its charge, and its energy at the latest rail value of its companion. The first visit
after a clearing of the gap integrator counts the window alone (R98). -/
def State.visitCounts (s : State) (c : Nat) (w : Window) (mean gap : Int) : State :=
  if w.kind ≠ 2 then s
  else
    let x := s.chan c
    let sat := !x.gapClear && (decide (gapMax < gap) || decide (gap < -gapMax))
    let g := if x.gapClear then 0 else clampInt (-gapMax) gapMax gap
    let q := w.charge mean g
    let s := s.setChan c { x with gapClear := false, gapSat := sat }
    let s := s.addCharge c q
    if s.counted c then
      let s := if sat then s.gapFlag (s.chPart c) else s
      s.addEnergy c (q * (s.chan (s.act (chCompanion c))).rail)
    else s

/-! ### The hardware trim loop and settling (R232, R233) -/

/-- A result lies within SET_TOL pin counts of the setpoint taken at the pin. -/
def State.nearSet (s : State) (c r : Nat) : Bool :=
  let u := s.act (chDivider c) * 2400000
  let d : Int := (r * u : Nat) - (s.setpoint c * 4294967296 : Nat)
  decide (d.natAbs ≤ s.act mgnSetTol * u)

/-- Count consecutive results inside SET_TOL of a RUNNING or MARGIN channel. -/
def State.settleCount (s : State) (c r : Nat) : State :=
  let x := s.chan c
  if s.kind c = 1 ∧ (x.state = .running ∨ x.state = .margin) then
    s.setChan c { x with settled := if s.nearSet c r then x.settled + 1 else 0 }
  else s

/-- The channel is settled at its setpoint (R233). -/
def State.isSettled (s : State) (c : Nat) : Bool := decide (s.act mgnSetCount ≤ (s.chan c).settled)

/-- SET_TOL in µV of the rail (R44, R232). -/
def State.setTolUv (s : State) (c : Nat) : Nat := roundUp (s.act mgnSetTol * s.act (chDivider c) * 2400000) 4294967296

/-- The procedure trim_update of R232 for a channel with a TRM output. The rail step is RTOP * 100 / 1,024 µV, so ki e / (256 steps)
is ki e / (25 RTOP); a half is rounded away from zero, as R230 has it for the preset code: R232 names no direction (DESIGN CHOICE, log 32). A
code outside its limits is clamped at the update, inside the tolerance band too (R234). -/
def State.trimUpdate (s : State) (c : Nat) (rail : Int) : State :=
  let x := s.chan c
  if s.kind c ≠ 1 ∨ s.act (chTrimKind c) ≠ 1 ∨ (x.state ≠ .running ∧ x.state ≠ .margin) then s
  else
    let t := s.act (chTrimId c)
    let e : Int := s.setpoint c - rail
    let lo := toSigned 16 (s.act (trmCodeMin t))
    let hi := toSigned 16 (s.act (trmCodeMax t))
    if e.natAbs ≤ s.setTolUv c then s.setTrim t { s.trim t with code := clampInt lo hi (s.trim t).code }
    else
      let slew : Int := s.act (trmSlewLimit t)
      let d := clampInt (-slew) slew (roundAway ((s.act (trmKi t) : Int) * e) (25 * s.act (trmRtop t)))
      let code := clampInt lo hi ((s.trim t).code - d)
      if code = lo ∨ code = hi then
        if (s.trim t).loop = .saturated then s.setTrim t { loop := .saturated, code := code }
        else ((s.setTrim t { loop := .saturated, code := code }).bump16 (trmSatCount t)).raise (clOf c + 1) 0x29 (s.chPart c) false (two c)
      else s.setTrim t { loop := .closed, code := code }

/-! ### Bench watch (R239) -/

/-- A result of a watch channel outside its range marks the dwell of each sweep that watches it. -/
def State.benchWatch (s : State) (c r : Nat) : State :=
  s.each (partitions.filter (fun p =>
      let b := (s.part p).bench
      b.phase == .dwelling && b.mode == 1 && b.watchCh == c && (decide (r < b.watchLo) || decide (b.watchHi < r))))
    (fun s p => s.setPart p { s.part p with bench := { (s.part p).bench with watchBad := true } })

/-! ### Streams (R376 to R378) -/

/-- Records that the ring of stream k holds. -/
def State.ringRoom (s : State) (k : Nat) : Nat := s.act (strRingBlocks k) * 128

/-- Write a sample in the ring of stream k, with a TIME record that carries LOST after a loss, both or neither (R378). -/
def State.samplePut (s : State) (k head value stamp : Nat) : State :=
  let x := s.stream k
  let recs := if x.lostRun = 0 then [(head, value, stamp, s.now)] else
    [(16384, min x.lostRun 65535, stamp, s.now), (head, value, stamp, s.now)]
  if x.ring.length + recs.length ≤ s.ringRoom k then
    let s := s.setStream k { x with ring := x.ring ++ recs, lostRun := 0 }
    (s.bump32 (strsSamples k)).setReg (strsLastStamp k) stamp
  else
    let s := (s.setStream k { x with lostRun := x.lostRun + 1, ev75 := true }).bump32 (strsLost k)
    if x.ev75 then s
    else s.raise 11 0x75 (s.act (strPartition k)) false (BitVec.ofNat 8 k :: two (min (x.lostRun + 1) 65535))

/-- HEAD of a sample (Table 14-8): MARKED when the partition is FAULTED or LOCKED_OUT and the stamp is at or after its FIRST_TICK in the
cluster, STALE as the flag stood. -/
def State.sampleHead (s : State) (c stamp : Nat) (stale : Bool) : Nat :=
  let p := s.chPart c
  let l := s.latch (clOf c) p
  let marked := (s.part p).state.isFaulted && l.isSet && decide (l.firstTick ≤ stamp)
  c + bitIf stale 12 + bitIf marked 13

/-- One result in stream k (R376): DECIMATE takes every FACTOR-th, AVERAGE the mean of FACTOR with halves rounded up. -/
def State.streamResult (s : State) (k c r stamp : Nat) (stale : Bool) : State :=
  let x := s.stream k
  let (n, sum) := (tabFind x.runs c).getD (0, 0)
  let f := s.act (strFactor k)
  if n + 1 < f then s.setStream k { x with runs := tabInsert c (n + 1, sum + r) (tabErase x.runs c) }
  else
    let s := s.setStream k { x with runs := tabErase x.runs c }
    if x.paused then s else
    s.samplePut k (s.sampleHead c stamp stale) (if s.act (strMode k) = 1 then (2 * (sum + r) + f) / (2 * f) else r) stamp

/-- A published result in every stream whose set holds the channel. While a stream is paused its runs go on, of consecutive results, and it forms no
sample (R376, R378). -/
def State.streamsTake (s : State) (c r stamp : Nat) (stale : Bool) : State :=
  s.each ((List.range 32).filter (fun k =>
      s.act (strEnable k) == 1 && bitOf (s.act (strChannels k)) c))
    (fun s k => s.streamResult k c r stamp stale)

/-! ### Publishing a result -/

/-- ARMED channel at or above RAMP_START and out of window (R55). -/
def State.rampDetect (s : State) (c r : Nat) : State :=
  if s.kind c = 1 ∧ (s.chan c).state = .armed ∧ s.rampStart c ≤ r ∧ s.inWindow c = false then s.toState c .ramp (s.ctr (clOf c)) else s

/-- The status table of the telemetry island takes the result (R67), and the streams, while that island is up (Table 1-4). The spec states no
RAIL_VALUE beyond its 32 bits: by the model's choice (log 27) it shows the value modulo 2^32. -/
def State.tableTake (s : State) (c r : Nat) (rail : Int) (stamp : Nat) : State :=
  if s.islandBad.contains 11 then s
  else
    let stale := (s.chan c).stale
    let s := (s.setReg (chsResult c) r).setReg (chsResultTick c) stamp
    let s := s.setReg (chsRailValue c) (ofSigned 32 rail)
    let s := s.setReg (chsMinResult c) (min (s.reg (chsMinResult c)) r)
    let s := s.setReg (chsMaxResult c) (max (s.reg (chsMaxResult c)) r)
    s.streamsTake c r stamp stale

/-- A result r of a window is published (R67): tables and streams, the capture units (Table 5-11), ramp detection, warnings, settling, the
Bench watch, and, unless it comes from a test pair, the trim loop and the drive loops (R232, R432). -/
def State.publish (s : State) (c : Nat) (w : Window) (r : Nat) (test : Bool) : State :=
  let stamp := s.ctr (clOf c)
  let rail := w.rail r
  let s := s.tableTake c r rail stamp
  let s := s.noteCap (fun src d lvl => d == c && ((src == 4 && decide (lvl ≤ r)) || (src == 5 && decide (r ≤ lvl)))) stamp
  let x := s.chan c
  let s := s.setChan c { x with res := r, rail := rail, hasResult := true, stale := false, resAt := stamp, late := 0,
                                loopRail := if test then x.loopRail else rail, loopRes := if test then x.loopRes else r,
                                prevRes := if x.hasResult then some (x.res, x.resAt) else none }
  let s := (s.rampDetect c r).warnEvaluate c r
  let s := (s.settleCount c r).benchWatch c r
  if test then s else (s.trimUpdate c rail).phasePublished c (s.now - w.ps / 20000)

/-! ### The check tour (R85, R86) -/

/-- Whether a sweep runs in cluster n: the tour waits (R89). -/
def State.sweepIn (s : State) (n : Nat) : Bool :=
  partitions.any (fun p => (s.part p).bench.phase.runs && clOf (s.part p).bench.chan == n)

/-- The check tour of cluster n runs. -/
def State.tourRuns (s : State) (n : Nat) : Bool :=
  let x := s.cluster n
  s.committed && (s.spare n).isSome && x.calDone && !x.tourDone && !s.sweepIn n

/-- The check tour of cluster n waits (TOUR_WAITING). -/
def State.tourWaits (s : State) (n : Nat) : Bool :=
  let x := s.cluster n
  (s.spare n).isSome && x.calDone && !x.tourDone && s.sweepIn n

/-- The bound channels of cluster n that the tour has not compared, in the order of its groups. -/
def State.tourLeft (s : State) (n : Nat) : List Nat :=
  ((List.range 64).filter (fun i => s.kind (64 * n + i) != 0 && !bitOf (s.cluster n).toured i)).map (fun i => 64 * n + i)

/-- Whether the tour of the channel's cluster joins this visit: the first group that is not complete (R85), and a window that opened after
the last reading of the diode by the spare (R90). -/
def State.tourJoins (s : State) (c : Nat) : Bool :=
  let n := clOf c
  s.tourRuns n && (s.tourLeft n).contains c && ((s.tourLeft n).map groupIn).head? == some (groupIn c) &&
    decide ((s.cluster n).spareBusy + (s.sliceWindow c).ticks ≤ s.ctr n)

/-- The tour ends when no channel is left to it (LAST_TOUR_TICK). -/
def State.tourClose (s : State) (n : Nat) : State :=
  if s.tourRuns n && (s.tourLeft n).isEmpty then
    (s.setCluster n { s.cluster n with tourDone := true }).setReg (clsLastTourTick n) (s.ctr n)
  else s

/-- Mark a channel as compared; the tour ends with the last one. -/
def State.tourMark (s : State) (c : Nat) : State :=
  let n := clOf c
  (s.setCluster n { s.cluster n with toured := (s.cluster n).toured ||| 2 ^ (c % 64) }).tourClose n

/-- Two results agree (R86): within 0.30 % of the active result plus 1.0 mV, in pin counts of 2,400,000 / 65,536 µV. -/
def agree (a b : Nat) : Bool :=
  decide (((a : Int) - b).natAbs * 2400000000 ≤ a * 7200000 + 65536000000)

/-- A reference read passes: within 0.30 % + 1.0 mV of 2.048 V (R86), in nV. -/
def refPasses (v : Int) : Bool := decide ((v - 2048000000).natAbs ≤ 7144000)

/-- Raise EV 0x18 for a slice (R87, R88). -/
def State.sliceEvent (s : State) (n k : Nat) : State :=
  let m := (s.cluster n).sliceMap
  s.raise (n + 1) 0x18 255 false [BitVec.ofNat 8 n, BitVec.ofNat 8 k,
    BitVec.ofNat 8 (bitIf (m[8]? == some none) 0 + bitIf ((m.take 8).contains none) 1)]

/-- Mark the spare k of cluster n FAILED: there is no spare any more (R87). -/
def State.spareFails (s : State) (n k : Nat) : State :=
  let x := s.cluster n
  (s.setCluster n { x with failed := x.failed ||| 2 ^ k, sliceMap := x.sliceMap.set 8 none }).sliceEvent n k

/-- Mark a slice suspect now. -/
def ClusterX.suspectNow (x : ClusterX) (k now : Nat) : ClusterX :=
  { x with suspect := x.suspect ||| 2 ^ k, suspectAt := tabInsert k now (tabErase x.suspectAt k) }

/-- The spare takes over the group of an active slice (R86): the slice is suspect and becomes spare with a new epoch; it FAILS at once
when it was marked suspect within the last 3,600 s, or when its hardware has failed. An epoch whose end coincides ends with it, and counts
(R90): `ends` tells that the visit compared was the last of the tour. -/
def State.takeOver (s : State) (n g : Nat) (hw ends : Bool) : State :=
  let x := s.cluster n
  let endsNow := x.calDone && (x.tourDone || ends) && s.passed x.epochAt (msTicks (s.act (clEpoch n)))
  match (x.sliceMap[g]?).join, s.spare n with
  | some a, some sp =>
    let again := match tabFind x.suspectAt a with
      | none => false
      | some t => decide (s.now ≤ t + sTicks 3600)
    let y := { x.suspectNow a s.now with
      sliceMap := (x.sliceMap.set g (some sp)).set 8 (some a), epochAt := s.now, calDone := false, tourDone := false, toured := 0,
      refDone := false }
    let s := (s.setCluster n y).raise (n + 1) 0x15 255 false [BitVec.ofNat 8 n, BitVec.ofNat 8 a, BitVec.ofNat 8 g]
    let s := if endsNow then s.bump32 (clsEpochCount n) else s
    if again || hw then s.spareFails n a else s
  | _, _ => s

/-- The comparison of one tour visit, of result r in a window of ps (R86). -/
def State.tourCompare (s : State) (c ps r : Nat) (t : Tour) : State :=
  let n := clOf c
  let ends := s.tourLeft n == [c]
  if agree r (resultOf ps t.spare) then s.tourMark c
  else
    let s := s.bump16 (clsTourDisagree n)
    if !refPasses t.refSpare then
      match s.spare n with
      | none => s
      | some k => s.setCluster n { (s.cluster n).suspectNow k s.now with calDone := false, tourDone := false, toured := 0 }
    else if !refPasses t.refActive then s.takeOver n (groupIn c) false ends
    else if agree (resultOf ps t.again) (resultOf ps t.againSpare) then s.tourMark c
    else s.takeOver n (groupIn c) false ends

/-- Whether a channel takes the test of OFF and PARKED channels (R92; a MEASURE channel is always OFF, R42), or that of RUNNING and MEASURE
channels (R93). -/
def State.owOff (s : State) (c : Nat) : Bool :=
  s.kind c != 0 && s.act (clOwOffEnable (clOf c)) == 1 && (s.chState c == .off || s.chState c == .parked)
def State.owRun (s : State) (c : Nat) : Bool :=
  s.kind c != 0 && s.act (clOwRunEnable (clOf c)) == 1 && (s.kind c == 3 || s.chState c == .running)

/-- A test of kind `run` may act on the channel as it is now (R94). -/
def State.owFits (s : State) (c : Nat) (run : Bool) : Bool := if run then s.owRun c else s.owOff c

/-- The test pair that the next visits of channel c are, one pair in a round of its group: one that no longer fits the state of the channel is
skipped (R94). -/
def State.owNext (s : State) (c : Nat) : Option Bool :=
  if (s.round (clOf c) (groupIn c)).tested then none else (s.chan c).owKinds.find? (s.owFits c)

/-- A test pair runs on channel c: it is its turn, and the first window of the pair may be open (Table 8-4). -/
def State.pairRuns (s : State) (c : Nat) : Bool :=
  (s.owNext c).isSome && s.nextIn (clOf c) (groupIn c) == some c && decide ((s.round (clOf c) (groupIn c)).opens ≤ s.ctr (clOf c))

/-- A channel enters MARGIN with a setpoint (R237, R239): its warnings end (R96). While an open-wire pair runs on it, the margin waits
for the pair's second visit (Table 8-4). -/
def State.marginOn (s : State) (c v : Nat) (static : Bool) : State :=
  let x := { s.chan c with staticMgn := static }
  if s.pairRuns c then s.setChan c { x with marginPend := some v }
  else
    let s := (s.setChan c x).warnEnd c false
    let s := s.setChan c { s.chan c with marginSet := some v, settled := 0 }
    if (s.chan c).state = .margin then s else s.toState c .margin (s.ctr (clOf c))

/-- A margin that waited for an open-wire pair is applied, on a channel that still runs (Table 8-4). -/
def State.marginAfter (s : State) (c : Nat) : State :=
  match (s.chan c).marginPend with
  | none => s
  | some v =>
    if (s.chan c).state = .running then (s.setChan c { s.chan c with marginPend := none }).marginOn c v (s.chan c).staticMgn
    else s.setChan c { s.chan c with marginPend := none, staticMgn := false }

/-- At a visit that could have been one of its test pairs, the pairs of a channel that no longer fit its state are dropped (R94). -/
def State.owSkip (s : State) (c : Nat) : State :=
  if (s.chan c).owKinds = [] || (s.round (clOf c) (groupIn c)).tested then s
  else (s.setChan c { s.chan c with owKinds := [] }).marginAfter c

/-- SLICE_RESULT (R67): a window ends, in the turn and the time of its slice (R65). A visit of an open-wire pair ends with OPEN_WIRE_RESULT. -/
def execSliceResult (c : Fin 512) (visit : Visit) (s : State) : Outcome State Fault Refusal :=
  if !s.measures c || !s.visitDue c (s.windowEnds c) || (s.owNext c).isSome then ok s
  else
    let w := s.sliceWindow c
    let r := resultOf w.ps visit.mean
    let s := s.publish c w r false
    let s := s.visitCounts c w visit.mean visit.gap
    let joins := s.tourJoins c
    let s := (s.owSkip c).visitEnd c false
    match visit.tour with
    | none => ok s
    | some t => if joins then ok (s.tourCompare c w.ps r t) else ok s

/-! ### Epochs and calibration (R81 to R91) -/

/-- EPOCH_END (R81, R83): the three conditions of the end of an epoch hold; the spare takes over group EPOCH_COUNT mod 8, and the
slice that served it becomes spare. A group left unserved is then served by the spare, and there is none. -/
def State.epochEnd (s : State) (n : Nat) : State :=
  let x := s.cluster n
  let g := s.reg (clsEpochCount n) % 8
  let s := s.setCluster n { x with
    sliceMap := (x.sliceMap.set g (s.spare n)).set 8 (x.sliceMap[g]?).join,
    epochAt := s.now, calDone := false, tourDone := false, toured := 0, refDone := false }
  s.bump32 (clsEpochCount n)

def execEpochEnd (n : Fin 8) (s : State) : Outcome State Fault Refusal :=
  let s := s.tourClose n
  let x := s.cluster n
  if s.committed ∧ x.clockLost = false ∧ (s.spare n).isSome ∧ x.calDone ∧ x.tourDone ∧ s.passed x.epochAt (msTicks (s.act (clEpoch n))) then
    ok (s.epochEnd n)
  else ok s

/-- The check-reference test of R91: beyond 0.20 % + 0.5 mV of 1.250 V, which is 3,000 µV, in two consecutive epochs. The first calibration
of an epoch is the one that counts (log 27). -/
def State.refCheck (s : State) (n check : Nat) : State :=
  let bad := decide (196608000 < ((check : Int) * 2400000 - 81920000000).natAbs)
  let x := s.cluster n
  let y := { x with refBad := if bad then x.refBad + 1 else 0, refGood := if bad then 0 else x.refGood + 1, refDone := true }
  if x.refDone then s
  else if !x.refSuspect && decide (2 ≤ y.refBad) then (s.setCluster n { y with refSuspect := true }).raise (n + 1) 0x19 255 false [BitVec.ofNat 8 n]
  else if x.refSuspect && decide (2 ≤ y.refGood) then s.setCluster n { y with refSuspect := false }
  else s.setCluster n y

/-- SPARE_CALIBRATION_DONE (R82, R86, R91): the readings are reported, the check reference is judged, the spare is calibrated; a suspect
spare fails when it breaks its calibration limits, and is cleared by a passing reference read. The procedure speaks of a slice that a
takeover made suspect. By the model's choice (log 27) one that was found at fault as the spare is judged in the same way, one that is not
suspect counts as calibrated, and a suspect one within its limits that fails its reference read stays suspect and goes on. -/
def State.spareCalibrated (s : State) (n k : Nat) (cal : Calibration) : State :=
  let s := (s.setReg (clsRefResult n) (cal.ref % 65536)).setReg (clsCheckRefResult n) (cal.checkRef % 65536)
  let s := s.refCheck n (cal.checkRef % 65536)
  let x := s.cluster n
  if bitOf x.suspect k && !cal.inLimits then s.spareFails n k
  else (s.setCluster n { x with
    calibrated := x.calibrated ||| 2 ^ k, calAt := tabInsert k s.now (tabErase x.calAt k), calDone := true,
    suspect := if bitOf x.suspect k && cal.refPass then x.suspect - 2 ^ k else x.suspect }).tourClose n

def execSpareCalibrationDone (n : Fin 8) (cal : Calibration) (s : State) : Outcome State Fault Refusal :=
  match s.spare n with
  | none => ok s
  | some k => if s.committed ∧ (s.cluster n).clockLost = false ∧ (s.cluster n).calDone = false then ok (s.spareCalibrated n k cal) else ok s

/-- SLICE_HW_FAULT (R88): the slice is FAILED at once: as spare it leaves none; as active it is replaced by the spare, or leaves its group
unserved. -/
def State.sliceHwFault (s : State) (n k : Nat) : State :=
  let x := s.cluster n
  if bitOf x.failed k then s
  else if s.spare n = some k then s.spareFails n k
  else match x.sliceMap.findIdx? (fun m => m == some k) with
    | none => s
    | some g =>
      if (s.spare n).isSome then s.takeOver n g true false
      else (s.setCluster n { x with failed := x.failed ||| 2 ^ k, sliceMap := x.sliceMap.set g none }).sliceEvent n k

def execSliceHwFault (n : Fin 8) (k : Fin 9) (s : State) : Outcome State Fault Refusal := ok (s.sliceHwFault n k)

/-- SLICE_FLAGS (Table 3-6): CALIBRATED falls, with no spare, 90 ms after the last calibration. -/
def State.calibratedNow (s : State) (n k : Nat) : Bool :=
  let x := s.cluster n
  bitOf x.calibrated k && ((s.spare n).isSome || !s.passed ((tabFind x.calAt k).getD 0) (msTicks 90))

def State.sliceFlags (s : State) (n : Nat) : Nat :=
  let x := s.cluster n
  ((List.range 9).map (fun k => bitIf (s.calibratedNow n k) k)).sum + x.suspect * 512 + x.failed * 262144

/-- LOCK_FALLBACK (R72): from the fall until the first LOCK window opens after the carrier has run its 10 periods. -/
def State.lockShown (s : State) : Bool := (s.cluster 7).lockFall && !(s.cluster 7).lockOpen.any (fun t => decide (t ≤ s.ctr 7))

/-- CLUSTER_FLAGS (Table 3-7). -/
def State.clusterFlags (s : State) (n : Nat) : Nat :=
  let x := s.cluster n
  bitIf x.syncRestart.isSome 0 + bitIf (n == 7 && s.lockShown) 1 + bitIf (x.sliceMap[8]? == some none) 2 + bitIf (s.tourWaits n) 3 +
    bitIf x.refSuspect 4 + bitIf ((x.sliceMap.take 8).contains none) 5 +
    bitIf ((List.range 64).any (fun i => (s.chan (64 * n + i)).gapSat)) 6

/-- SLICE_SUSPECT of FLAGS (R87). -/
def State.sliceSuspect (s : State) (c : Nat) : Bool :=
  let n := clOf c
  match s.servingSlice c with
  | none => false
  | some k => bitOf (s.cluster n).suspect k || ((s.spare n).isNone && !s.calibratedNow n k)

/-! ### Open-wire tests (R92 to R95) -/

/-- Test pairs of these kinds are due on a channel. -/
def State.owBegin (s : State) (c : Nat) : State := s.setChan c { s.chan c with owKinds := [true, false].filter (s.owFits c) }

/-- OPEN_WIRE_TEST (R92, R93): 100 ms after the last one, the slice of group g takes a test pair on each channel that is to have one, one pair
in each round from now on (R94, log 27). -/
def execOpenWireTest (n : Fin 8) (g : Fin 8) (s : State) : Outcome State Fault Refusal :=
  let x := s.cluster n
  let due : Bool := match tabFind x.owAt g with
    | none => true
    | some t => s.passed t (msTicks 100)
  if s.committed ∧ x.clockLost = false ∧ due ∧ ((x.sliceMap[g.val]?).join).isSome then
    let s := s.setCluster n { x with owAt := tabInsert g.val s.now (tabErase x.owAt g) }
    ok (s.each ((s.boundIn n g).filter (fun c => s.owOff c || s.owRun c)) (fun s c => s.owBegin c))
  else ok s

/-- Count the outcome of a test: two failing in a row set OPEN_WIRE, two passing clear it, with EV 0x14 at each change (R95). -/
def State.owCount (s : State) (c : Nat) (fails : Bool) : State :=
  let x := s.chan c
  let y := { x with owFails := if fails then x.owFails + 1 else 0, owPasses := if fails then 0 else x.owPasses + 1 }
  if !x.openWire && decide (2 ≤ y.owFails) then
    (s.setChan c { y with openWire := true }).raise (clOf c + 1) 0x14 (s.chPart c) false (two c)
  else if x.openWire && decide (2 ≤ y.owPasses) then
    (s.setChan c { y with openWire := false }).raise (clOf c + 1) 0x14 (s.chPart c) true (two c)
  else s.setChan c y

/-- The published result of a pair (R93): the mean of its two results to the nearest step of the resolution of a window of some ps, halves up
(R43, R79, log 27). -/
def pairMean (ps a b : Nat) : Nat :=
  let step := 2 ^ (16 - resolution ps)
  min 65535 ((a + b + step) / (2 * step) * step)

/-- The outcome of a pair with two results (R92, R93): the results differ at the pin by 0.200 V or more for a RUNNING or MEASURE channel; the
first exceeds the second by 1.000 V or more for one that is OFF or PARKED. Pin counts are 2,400,000 / 65,536 µV. -/
def pairFails (run : Bool) (a b : Nat) : Bool :=
  if run then decide (200000 * 65536 ≤ ((a : Int) - b).natAbs * 2400000)
  else decide (1000000 * 65536 ≤ ((a : Int) - b) * 2400000)

/-- OPEN_WIRE_RESULT (R92 to R95): the second visit of a pair ends, in the turn and the time of its slice, each under the settings with which
it began (R73); both visits are counted as charge (R97), and the visits of the group come a visit slot later (R94). A margin that waited for
the pair is applied (Table 8-4). -/
def State.owResult (s : State) (c : Nat) (run : Bool) (first second : Visit) : State :=
  let w := s.sliceWindow c
  let v := s.pairWindow c
  let a := resultOf w.ps first.mean
  let b := resultOf v.ps second.mean
  let s := s.setChan c { s.chan c with owKinds := (s.chan c).owKinds.drop ((s.chan c).owKinds.idxOf run + 1) }
  let s := s.lengthen (clOf c) (groupIn c) ((w.ps + 250000) / 1000)
  let s := (s.visitCounts c w first.mean first.gap).visitCounts c v second.mean second.gap
  let s := (if run then s.publish c v (pairMean v.ps a b) true else s).owCount c (pairFails run a b)
  (s.visitEnd c true).marginAfter c

def execOpenWireResult (c : Fin 512) (first second : Visit) (s : State) : Outcome State Fault Refusal :=
  match s.owNext c with
  | none => ok s
  | some run => if s.measures c && s.visitDue c (s.pairEnds c) then ok (s.owResult c run first second) else ok s

/-! ### Lock sources (R72, R77) -/

/-- CL7's LOCK windows fall back to FREE (R72): the LOCK windows in progress are discarded, and EV 0x1A is raised once. While in fallback the
carrier has stopped again. The last carrier period measured is given in ps. -/
def State.lockFalls (s : State) (period : Nat) : State :=
  let x := s.cluster 7
  let shown := s.lockShown
  let t := s.setCluster 7 { x with lockFall := true, lockPeriod := period, lockAt := s.now, lockRes := false, lockOpen := none }
  if shown then t
  else (t.each (List.range 8) (fun s g => s.roundBreak 7 g (s.ctr 7))).raise 8 0x1A 255 false [7]

/-- The last period of the carrier of drive d in ps. -/
def State.carrierPs (s : State) (d : Nat) : Nat := 1000000000000 / max 1 (s.carrierFreq d)

/-- The carrier that CL7 waits for in fallback begins to run (R72). -/
def State.carriersBegin (s : State) : State :=
  if (s.cluster 7).lockFall then s.setCluster 7 { s.cluster 7 with lockAt := s.now } else s

/-- LOCK_FALLBACK (R72): the drive carrier that is the lock source of CL7 stops; period is the last carrier period measured, in ps. -/
def execLockFallback (period : Nat) (s : State) : Outcome State Fault Refusal :=
  if s.act (clLockSource 7) = 0 ∨ s.act (clWindowMode 7) ≠ 1 then ok s else ok (s.lockFalls period)

/-- The windows in progress, by cluster and group (R73): that of the channel whose turn it is, once it may be open, and the second one of its
test pair once that may be. -/
def State.openWindows (s : State) : List (Nat × Nat × Window × Option Window) :=
  (clustersAll.map (fun n => (List.range 8).filterMap (fun g =>
    match s.nextIn n g with
    | some c =>
      if s.measures c && decide ((s.round n g).opens < s.ctr n) then
        some (n, g, s.sliceWindow c, if (s.owNext c).isSome && decide (s.windowEnds c + 25 < s.ctr n) then some (s.pairWindow c) else none)
      else none
    | none => none))).flatten

/-- Those windows complete under the settings with which they began; the others open under the settings in force from now on, no window of a
group that had none earlier than now (R72, R73). -/
def State.keepWindows (s : State) (n g : Nat) (l : List (Nat × Nat × Window × Option Window)) : State :=
  let r := s.round n g
  match l.find? (fun x => x.1 == n && x.2.1 == g) with
  | some x => s.setRound n g { r with win := some x.2.2.1, win2 := x.2.2.2 }
  | none => s.setRound n g { r with opens := max r.opens (s.ctr n) }

/-- The carrier has run its 10 periods: the windows in progress complete as they began, and the next ones are LOCK windows (R72). -/
def State.lockResumes (s : State) : State :=
  let l := s.openWindows
  let free := ((List.range 8).filter (fun g => (s.nextIn 7 g).isSome && !l.any (fun x => x.1 == 7 && x.2.1 == g))).map (fun g => max (s.round 7 g).opens (s.ctr 7))
  let s := s.setCluster 7 { s.cluster 7 with lockRes := true, lockOpen := free.min? }
  s.each (List.range 8) (fun s g => s.keepWindows 7 g l)

/-- LOCK_RESUME (R72): the carrier has run without interruption for 10 periods. -/
def execLockResume (s : State) : Outcome State Fault Refusal :=
  let x := s.cluster 7
  let d := s.act (clLockSource 7) - 1
  if x.lockFall ∧ x.lockRes = false ∧ s.act (clLockSource 7) ≠ 0 ∧ s.carrierRuns d ∧ s.passed x.lockAt (1000000000 / s.carrierFreq d) then
    ok s.lockResumes
  else ok s

/-- SYNCOUTn starts at its origin T0 (R74, R77). -/
def State.syncStart (s : State) (n t : Nat) : State :=
  s.setCluster n { s.cluster n with syncOrigin := some t, syncRestart := none, syncAcc := s.syncTarget n t,
                                    syncInc := syncIncrement (s.act (clSyncFreq n)) 0 }

/-- SYNCOUT_RESTART (R77): the common origin T0 has come for the SYNCOUTs that a commit changed. -/
def execSyncoutRestart (s : State) : Outcome State Fault Refusal :=
  ok (s.each clustersAll (fun s n => match (s.cluster n).syncRestart with
    | none => s
    | some t => if t ≤ s.now then s.syncStart n t else s))

/-- STALE (R67, Table 2-7): no result of a bound channel for four refresh periods, with what lengthened them (R66). -/
def execStale (c : Fin 512) (s : State) : Outcome State Fault Refusal :=
  let n := clOf c
  let r := 4 * s.refreshBase n (groupIn c) + (s.chan c).late
  if s.kind c ≠ 0 ∧ (s.reg (chsResultTick c) * 10 + r ≤ s.ctr n * 10 ∨ (s.cluster n).clockLost) then
    ok (s.setChan c { s.chan c with stale := true })
  else ok s

end Sys2Proof.Machine
end

