-- ==== Sys2Proof/Machine/Budget.lean ====
section
/-! DEFINITION. Budgets, relief and the energy ledger (R211 to R226): sub-intervals and power figures, the relief procedure and its steps,
budget tables and their schedule, stream pausing, and the closing of demand intervals. -/
namespace Sys2Proof.Machine

open Host

/-! ### Budgets in force (R211) -/

/-- ACTIVE_TABLE. -/
def State.table (s : State) : Nat := s.reg ledActiveTable
/-- POWER_BUDGET of partition p in the active table; 0xFFFFFFFF is no budget. -/
def State.powerBudget (s : State) (p : Nat) : Nat := s.act (budPowerBudget s.table p)

/-! ### Streams within TELEM_RATE (R213) -/

/-- The enabled streams of partition p. -/
def State.streamsOf (s : State) (p : Nat) : List Nat :=
  (List.range 32).filter (fun k => s.act (strEnable k) == 1 && s.act (strPartition k) == p)

/-- The order in which streams are paused: lowest priority first, then highest number first. -/
def State.pauseBefore (s : State) (a b : Nat) : Bool :=
  decide (s.act (strPriority a) < s.act (strPriority b)) || (s.act (strPriority a) == s.act (strPriority b) && decide (b ≤ a))

/-- How many of the streams must pause until the rate that remains is within the limit. -/
def pauseCount (limit : Nat) : List Nat → Nat → Nat
  | [], _ => 0
  | r :: rest, total => if total ≤ limit then 0 else 1 + pauseCount limit rest (total - r)

/-- Pause or resume the streams of partition p as its TELEM_RATE asks, with EV 0x24 at a change. -/
def State.streamPace (s : State) (p : Nat) : State :=
  let limit := s.act (budTelemRate s.table p)
  let order := (s.streamsOf p).mergeSort s.pauseBefore
  let rates := order.map (fun k => s.reg (strsSampleRate k))
  let n := if limit = 4294967295 then 0 else pauseCount limit rates rates.sum
  let paused := order.take n
  let s := s.each order (fun s k => s.setStream k { s.stream k with paused := paused.contains k })
  let map := (paused.map (fun k => 2 ^ k)).sum
  if s.reg (partsStreamsPaused p) = map then s
  else (s.setReg (partsStreamsPaused p) map).raise 10 0x24 p false (leBytes 4 map)

/-! ### Request rate (R213) -/

/-- The tokens of partition p now, in 10^-8: filled at REQ_RATE a second up to a depth of REQ_RATE / 10, at least 8. -/
def State.tokensNow (s : State) (p : Nat) : Nat :=
  let rate := s.act (budReqRate s.table p)
  min (max (10000000 * rate) 800000000) ((s.part p).tokens + (s.now - (s.part p).tokensAt) * rate)

/-- The buckets as they stand now: what follows is filled at the rate that is then in force. -/
def State.settleTokens (s : State) : State :=
  s.each partitions (fun s p => s.setPart p { s.part p with tokens := s.tokensNow p, tokensAt := s.now })

/-- Take a token for one request; none: it is refused, counted, and EV 0x23 is raised at most once a second. -/
def State.takeToken (s : State) (p : Nat) : State × Bool :=
  let t := s.tokensNow p
  if 100000000 ≤ t then (s.setPart p { s.part p with tokens := t - 100000000, tokensAt := s.now }, true)
  else
    let s := s.bump32 (partsReqRefused p)
    let quiet := match (s.part p).ev23At with
      | none => true
      | some at_ => s.passed at_ (sTicks 1)
    if quiet then ((s.setPart p { s.part p with ev23At := some s.now }).raise 10 0x23 p, false) else (s, false)

/-! ### Intervals and sub-intervals (R212, R220 to R222) -/

/-- DEMAND_INTERVAL in s, and the length of a sub-interval in ticks. -/
def State.demand (s : State) : Nat := s.act ledDemandInterval
def State.subLen (s : State) : Nat := s.demand * 6250000

/-- The next boundary of the grid in force (R221): the first tick at which the RTC, or the device time, has reached it. -/
def State.nextBoundary (s : State) : Nat :=
  if s.supply.rtcValid then
    s.now + ((s.demand - s.supply.rtc % s.demand) * 12800000000 - s.supply.rtcFrac + 127) / 128
  else (s.now / sTicks s.demand + 1) * sTicks s.demand

/-- End of the running sub-interval: the next point after its start of the sixteenths counted from the interval's end, before that end or
after it. -/
def State.subEndAt (s : State) : Nat :=
  let l := s.ledger
  if l.subStart < l.endAt then l.endAt - (l.endAt - l.subStart - 1) / s.subLen * s.subLen
  else l.endAt + ((l.subStart - l.endAt) / s.subLen + 1) * s.subLen

/-- The energy of the last 16 sub-intervals, those begun before the last entry to STARTING counting as zero, as mW over DEMAND_INTERVAL. -/
def State.demandPower (s : State) (p : Nat) : Nat :=
  let x := s.part p
  (((x.subs.take 16).filter (fun e => decide (x.startedAt ≤ e.begun))).map (fun e => e.energy)).sum / (s.demand * 1000000)

/-- Sub-intervals are kept as long as RELEASE_TIME can ever ask for them (R217, Table 7-11, Table 7-14), whatever it is now. -/
def subKeep : Nat := sTicks (86400 + 3600)

/-- Close the sub-interval of partition p: recent power, demand power, and the power cause (R212, R214). The rules name no rounding: both
figures are rounded down to whole mW, and compared so (DESIGN CHOICE, log 32). -/
def State.subClose (s : State) (p : Nat) : State :=
  let x := s.part p
  let len := s.now - s.ledger.subStart
  let recent := x.subIn * 100 / max len 1
  let subs := { begun := s.ledger.subStart, ended := s.now, energy := x.subIn, recent := recent : SubInterval } :: x.subs
  let subs := subs.take 16 ++ (subs.drop 16).filter (fun e => decide (s.now ≤ e.begun + subKeep))
  let s := s.setPart p { x with subIn := 0, subs := if s.ledger.subTrunc then x.subs else subs }
  if s.ledger.subTrunc then s
  else
    let d := s.demandPower p
    let s := (s.setReg (partsRecentPower p) (recent % 4294967296)).setReg (partsDemandPower p) (d % 4294967296)
    if s.mgmtDown || s.ledger.hold then s
    else s.setPart p { s.part p with overPower := decide (s.powerBudget p < d) }

/-- End the running sub-interval of every partition and begin the next one. -/
def State.subEnd (s : State) : State :=
  let s := { s with ledger := { s.ledger with
    hold := s.ledger.hold && !(!s.mgmtDown && decide (s.reg devMgmtUpSince ≤ s.ledger.subStart)) } }
  let s := s.each partitions (fun s p => s.subClose p)
  { s with ledger := { s.ledger with subStart := s.now, subTrunc := false } }

/-- Start an interval now; the first one begins the sub-intervals (R212). -/
def State.intervalStart (s : State) (partial_ : Bool) : State :=
  { s with ledger := { s.ledger with
    running := true, subStart := if s.ledger.running then s.ledger.subStart else s.now, start := s.now, endAt := s.nextBoundary, partialNow := partial_,
    startRtc := if s.supply.rtcValid then s.supply.rtc else s.now / 100000000 % 4294967296,
    startNoRtc := !s.supply.rtcValid } }

/-- The record of the running interval of partition p, with more flags. -/
def State.intervalRec (s : State) (p flags : Nat) : Interval :=
  let x := s.part p
  let l := s.ledger
  { part := p, table := s.table,
    flags := flags ||| bitIf l.partialNow 2 ||| bitIf l.startNoRtc 3 ||| x.intFlags,
    startRtc := l.startRtc, dur := max 1 (min 3600000 ((s.now - l.start) / 100000)),
    ein := x.intIn / 1000 % 18446744073709551616, eout := x.intOut / 1000000 % 4294967296 }

/-- A closed interval joins the records that wait, at most 256; one more is discarded and counted (R419). One closed during a power-loss
warning is held until it shows whether the snapshot stands in its place (R224) or the interval went on unbroken (R291). -/
def State.ledgerEnqueue (s : State) (r : Interval) : State :=
  if s.supply.plw then { s with ledger := { s.ledger with held := s.ledger.held ++ [r] } }
  else if s.ledger.queue.length < 256 then { s with ledger := { s.ledger with queue := s.ledger.queue ++ [r] } }
  else s.bump16 nvsLedgerWaitDrop

/-- Close the running interval of every partition: a record for each defined one that LEDGER_ENABLE names, and the remainders below a
unit go into the next interval (R220, R226). -/
def State.intervalClose (s : State) (flags : Nat) : State :=
  s.each partitions (fun s p =>
    let s := if s.defined p && bitOf (s.act ledLedgerEnable) p then s.ledgerEnqueue (s.intervalRec p flags) else s
    let x := s.part p
    s.setPart p { x with intIn := x.intIn % 1000, intOut := x.intOut % 1000000, intFlags := 0 })

/-- A happening that closes the running interval where it occurs (R221): the record is PARTIAL, the sub-interval ends, and a PARTIAL
interval begins on the grid then in force, after a change of settings. -/
def State.intervalBreak (s : State) (change : State → State) : State :=
  if !s.ledger.running then change s
  else
    let s := (s.subEnd.intervalClose 4)
    (change s).intervalStart true

/-- SUB_INTERVAL_END (R212). -/
def execSubIntervalEnd (s : State) : Outcome State Fault Refusal :=
  if s.ledger.running ∧ s.subEndAt ≤ s.now then ok s.subEnd else ok s

/-- The end of a demand interval at its boundary (R220, R221): its last sub-interval ends with it. -/
def State.demandEnd (s : State) : State :=
  let s := if s.ledger.subStart < s.now then s.subEnd else s
  (s.intervalClose 0).intervalStart false

/-- DEMAND_INTERVAL_END (R221). -/
def execDemandIntervalEnd (s : State) : Outcome State Fault Refusal :=
  if s.ledger.running ∧ s.ledger.endAt ≤ s.now then ok s.demandEnd else ok s

/-! ### Budget tables (R211, R222, R223) -/

/-- The power figures of the sub-interval that ends in this tick are judged by the budget of the table now in force (Table 7-7). -/
def State.judgePower (s : State) (p : Nat) : State :=
  if s.mgmtDown || s.ledger.hold || !((s.part p).subs.head?.any (fun e => e.ended == s.now)) then s
  else s.setPart p { s.part p with overPower := decide (s.powerBudget p < s.demandPower p) }

/-- A switch to another table (R222): the running interval is closed with SPLIT, unless it began in this tick (R224); PARAM of EV 0x25 is
the old table, the new one, and 0 schedule, 1 command. The table in force already is no switch. -/
def State.tableSwitch (s : State) (v source : Nat) : State :=
  let old := s.table
  if v = old then s
  else
    let breaks := s.ledger.running && decide (s.ledger.start < s.now)
    let s := if breaks then s.intervalClose 6 else s
    let s := s.settleTokens.setReg ledActiveTable v
    let s := if breaks then s.intervalStart true else s
    let s := s.raise 10 0x25 255 false [BitVec.ofNat 8 old, BitVec.ofNat 8 v, BitVec.ofNat 8 source]
    s.each partitions (fun s p => (s.streamPace p).judgePower p)

/-- TABLE_SELECT (R222, R223): an OWNER write of 0 to 7. -/
def execTableSelect (r : Role) (v : Byte) (s : State) : Outcome State Fault Refusal :=
  ok (s.item r (isOwner r) (decide (v.toNat < 8)) (fun s => (s.tableSwitch v.toNat 1).answer 0))

/-- Fields of a schedule entry (Table 7-16). -/
def schedOn (w : Nat) : Bool := bitOf w 31
def schedTable (w : Nat) : Nat := field w 28 3
def schedDays (w : Nat) : Nat := field w 17 7
def schedTime (w : Nat) : Nat := field w 0 17

/-- An entry matches an RTC second (R223): day 2000-01-01 is a Saturday, and bit 0 of DAYS is Monday. -/
def schedMatches (w rtc : Nat) : Bool :=
  schedOn w && bitOf (schedDays w) ((rtc / 86400 + 5) % 7) && schedTime w == rtc % 86400

/-- The table of the highest-numbered entry that matches an RTC second. -/
def State.schedAt (s : State) (rtc : Nat) : Option Nat :=
  ((List.range 16).reverse.find? (fun i => schedMatches (s.act (schedSched i)) rtc)).map (fun i => schedTable (s.act (schedSched i)))

/-- SCHEDULE_MATCH (R223): an interval that ends in the same RTC tick is closed first; after a power-loss warning the change waits for the next
power-up, or for the end of the warning (R224, R225). -/
def execScheduleMatch (s : State) : Outcome State Fault Refusal :=
  if s.act ledScheduleEnable ≠ 1 ∨ s.supply.rtcValid = false ∨ s.supply.plw then ok s
  else match s.schedAt s.supply.rtc with
    | none => ok s
    | some v =>
      let s := if s.ledger.running && decide (s.ledger.endAt ≤ s.now) then s.demandEnd else s
      ok (s.tableSwitch v 0)

/-- The table of the latest schedule entry that matched after one RTC second and up to another (R225), by the day: for each entry the last
match at or before the end. -/
def State.schedLatest (s : State) (from_ to_ : Nat) : Option Nat :=
  let last := fun (w : Nat) => ((List.range 8).map (fun k => to_ / 86400 * 86400 + schedTime w - k * 86400)).find? (fun t =>
    decide (from_ < t ∧ t ≤ to_) && schedMatches w t)
  let hits := (List.range 16).filterMap (fun i => (last (s.act (schedSched i))).map (fun t => (t, i)))
  (hits.foldl (fun (a : Option (Nat × Nat)) h => match a with
    | none => some h
    | some b => if b.1 ≤ h.1 then some h else a) none).map (fun h => schedTable (s.act (schedSched h.2)))

/-! ### Relief (R214 to R217) -/

/-- The power cause now: demand power above POWER_BUDGET at the end of the last sub-interval, while there is a budget. -/
def State.overBudget (s : State) (p : Nat) : Bool := (s.part p).overPower && s.powerBudget p != 4294967295

/-- Cause bits of RELIEF_CAUSE. -/
def State.reliefCause (s : State) (p : Nat) : Nat := bitIf (s.overBudget p) 0 + bitIf (s.thermalReq p) 1

/-- Set the relief level of partition p, RELIEF_LEVEL and the partition state that follows it (R204). -/
def State.setRelief (s : State) (p level : Nat) : State :=
  let s := s.partSince p { s.part p with relief := level } s.now
  s.setReg (partsReliefLevel p) level

/-- Step k of partition p, 1 to 4; there is none above. -/
def State.enforceStep (s : State) (p k : Nat) : Nat := if 1 ≤ k ∧ k ≤ 4 then s.act (partEnforceStep p (k - 1)) else 0

/-- The lowest setpoint of a channel in its guard band, in µV rounded up (R235). -/
def State.guardLow (s : State) (c : Nat) : Nat :=
  ((64 * s.act (chLowerCode c) + s.act mgnGuard) * s.act (chDivider c) * 2400000 + 4294967295) / 4294967296

/-- TRIM_DOWN (Table 7-6): lower each held setpoint by TRIM_MARGIN per mille of NOMINAL, not below the guard band. The amount is rounded
down to whole µV: R235 names no rounding (DESIGN CHOICE, log 32). -/
def State.trimDown (s : State) (p : Nat) : State :=
  s.each ((s.chansOf p).filter (fun c => s.kind c == 1 && s.act (chTrimKind c) != 0)) (fun s c =>
    let v := s.heldSetpoint c
    let d := s.act (chNominal c) * s.act (partTrimMargin p) / 1000
    let x := s.chan c
    s.setChan c { x with held := some (max (v - d) (min v (s.guardLow c))), trimSaved := x.held :: x.trimSaved, settled := 0 })

/-- Undo the latest TRIM_DOWN of partition p. -/
def State.trimBack (s : State) (p : Nat) : State :=
  s.each (s.chansOf p) (fun s c =>
    let x := s.chan c
    match x.trimSaved with
    | [] => s
    | h :: t => s.setChan c { x with held := h, trimSaved := t, settled := 0 })

/-- The sheddable channels of partition p. -/
def State.sheddable (s : State) (p : Nat) : List Nat :=
  (s.chansOf p).filter (fun c => s.kind c == 1 && s.act (chSheddable c) == 1)

/-- Relief parks one channel: in a cluster whose clock is lost it keeps its state until the clock is back (R33, R59). -/
def State.parkOne (s : State) (c : Nat) : State :=
  if (s.cluster (clOf c)).clockLost then
    s.setChan c { s.chan c with parkPend := (s.chan c).parkPend || (s.chan c).state != .parked, unparkPend := false }
  else s.parkChan c

/-- Relief release unparks one channel: it is ARMED, in a cluster whose clock is lost when the clock is back (R33, R59). -/
def State.unparkOne (s : State) (c : Nat) : State :=
  if (s.cluster (clOf c)).clockLost then s.setChan c { s.chan c with unparkPend := true } else (s.armChan c).gateTrip c

/-- PARK (R47, R48, Table 2-3): sheddable channels go to PARKED, with every channel that their enables serve, and those enables are
deasserted; in a cluster whose clock is lost they follow when it is back (R33). -/
def State.park (s : State) (p : Nat) : State :=
  let es := ((s.sheddable p).map (fun c => s.act (chEnable c))).filter (fun e => decide (e < 256))
  let cs := ((s.sheddable p) ++ (es.map (fun e => s.served e)).flatten).eraseDups
  let s := s.each es.eraseDups (fun s e => s.orderEn e false)
  s.each (cs.filter (fun c => match (s.chan c).state with
      | .armed | .ramp | .settle | .running | .margin | .absent => true
      | .parked => (s.chan c).unparkPend
      | _ => false)) (fun s c => s.parkOne c)

/-- Unpark (R47): the enables of the channels that relief has parked are asserted, and those channels armed. -/
def State.unpark (s : State) (p : Nat) : State :=
  let cs := (s.chansOf p).filter (fun c => s.kind c == 1 && ((s.chan c).state == .parked || (s.chan c).parkPend))
  let es := ((cs.map (fun c => s.act (chEnable c))).filter (fun e => decide (e < 256))).eraseDups
  let s := s.each es (fun s e => s.orderEn e true)
  s.each cs (fun s c => s.unparkOne c)

/-- Apply a step type (Table 7-6). -/
def State.applyStep (s : State) (p type : Nat) : State :=
  match type with
  | 1 => s.trimDown p
  | 2 => s.park p
  | 3 => if (s.part p).position ≤ s.act (partLowerState p) then s else s.descend p (s.act (partLowerState p))
  | 4 => s.stopPart p
  | 5 => s.causeAt p 6 0
  | _ => s

/-- Undo a step type: setpoints restored, unparked, or a catch-up (R154). -/
def State.undoStep (s : State) (p type : Nat) : State :=
  match type with
  | 1 => s.trimBack p
  | 2 => s.unpark p
  | 3 =>
    let x := s.part p
    if x.phase = .lowered ∨ x.phase = .descending then (s.setPart p { x with phase := .catchingUp, descendTo := none }).goOn p else s
  | _ => s

/-- Apply step k and take level k + 1, with EV 0x21 (PARAM: step number, type); a STOP or FORCE_OFF step ends relief. -/
def State.enforce (s : State) (p k : Nat) : State :=
  let type := s.enforceStep p k
  let s := (s.bump16 (partsEnforceCount p)).raise 10 0x21 p false [BitVec.ofNat 8 k, BitVec.ofNat 8 type]
  let x := s.part p
  let s := (s.setPart p { x with applied := type :: x.applied, tStep := s.now }).setRelief p (k + 1)
  (s.setReg (partsGraceEnd p) 0).applyStep p type

/-- Undo every applied step, the latest first, and return to level 0 with EV 0x22. -/
def State.reliefEnd (s : State) (p : Nat) : State :=
  let l := (s.part p).applied
  let s := s.setPart p { s.part p with applied := [] }
  let s := s.each l (fun s t => s.undoStep p t)
  ((s.setRelief p 0).setReg (partsGraceEnd p) 0).raise 10 0x22 p

/-- The procedure release_ok of R217. -/
def State.releaseOk (s : State) (p : Nat) : Bool :=
  let x := s.part p
  let b := s.powerBudget p
  let rt := sTicks (s.act (partReleaseTime p))
  let limit := b * (1000 - s.act (partReleaseMargin p)) / 1000
  let cover := x.subs.filter (fun e => decide (s.now < e.ended + rt))
  !s.thermalReq p && (b == 4294967295 ||
    (cover.all (fun e => decide (x.tStep ≤ e.begun ∧ e.recent ≤ limit)) && cover.any (fun e => decide (e.begun + rt ≤ s.now))))

/-- The escalation condition of R216: after STEP_DWELL, a recent power of a sub-interval begun since the last step above the budget, or
a thermal request. -/
def State.escalates (s : State) (p : Nat) : Bool :=
  let x := s.part p
  s.passed x.tStep (msTicks (s.act (partStepDwell p))) &&
    (s.thermalReq p || x.subs.any (fun e => decide (x.tStep ≤ e.begun ∧ s.powerBudget p < e.recent)))

/-- The shorter grace of the causes present, in ms (R214). -/
def State.grace (s : State) (p : Nat) : Nat :=
  let pw := s.act (partReliefGrace p)
  let th := s.act (partThermalGrace p)
  if s.overBudget p && s.thermalReq p then min pw th else if s.overBudget p then pw else th

/-- The relief procedure of R216 for partition p. -/
def State.relief (s : State) (p : Nat) : State :=
  let x := s.part p
  if !(x.state == .starting || x.state == .up) then s
  else
    let cause := s.reliefCause p
    let s := s.setReg (partsReliefCause p) cause
    let level := x.relief
    if level = 0 then
      if cause = 0 then s
      else
        let s := s.benchAbort p 3
        let s := (s.setRelief p 1).setReg (partsGraceEnd p) (s.now + msTicks (s.grace p))
        (s.bump16 (partsReliefCount p)).raise 10 0x20 p false [BitVec.ofNat 8 cause]
    else if level = 1 then
      if cause = 0 then s.reliefEnd p
      else if s.reg (partsGraceEnd p) ≤ s.now then s.enforce p 1 else s
    else
      let k := level - 1
      if s.releaseOk p then s.reliefEnd p
      else if cause ≠ 0 ∧ s.escalates p ∧ k < 4 ∧ s.enforceStep p (k + 1) ≠ 0 then s.enforce p (k + 1)
      else s

/-- RELIEF_EVALUATE (R216): the procedure for every partition; it pauses while the management plane is down (R35), and after it until
the first complete sub-interval (R218). -/
def execReliefEvaluate (s : State) : Outcome State Fault Refusal :=
  if s.mgmtDown ∨ s.ledger.hold ∨ s.committed = false then ok s else ok (s.each partitions (fun s p => s.relief p))

end Sys2Proof.Machine
end

