-- ==== Sys2Proof/Machine/Mem.lean ====
section
/-! DEFINITION. The embedded flash (R407 to R419): its cells, granules and sectors, what a read finds, program operations and erases, and
when the NV island may start one. -/
namespace Sys2Proof.Machine

/-! ### Cells, granules and sectors (R407, R409) -/

/-- What an unlisted flash cell reads as: the erased state (R409). -/
def erased (_ : Nat) : Byte := 0xFF

/-- The canonical form of the flash cells. -/
def Memory.wf (m : List Host.Cell) : Bool := tabOk erased m

/-- One cell of the flash. -/
def State.cell (s : State) (a : Nat) : Byte := tabGet erased s.flash a
/-- Change one cell. -/
def State.setCell (s : State) (a : Nat) (b : Byte) : State := { s with flash := tabSet erased s.flash a b }
/-- Change consecutive cells. -/
def State.setCells (s : State) (a : Nat) : Bytes → State
  | [] => s
  | b :: t => (s.setCell a b).setCells (a + 1) t
/-- The cells from an address. -/
def State.cells (s : State) (a n : Nat) : Bytes := (List.range n).map (fun i => s.cell (a + i))

def State.granule (s : State) (g : Nat) : Granule := tabGet (fun _ => {}) s.granules g
def State.setGranule (s : State) (g : Nat) (x : Granule) : State := { s with granules := tabSet (fun _ => {}) s.granules g x }
def State.sector (s : State) (n : Nat) : Sector := tabGet (fun _ => {}) s.sectors n
def State.setSector (s : State) (n : Nat) (x : Sector) : State := { s with sectors := tabSet (fun _ => {}) s.sectors n x }

/-- The sector of an address, and of a granule. -/
def secOf (a : Nat) : Nat := a / 4096
def secOfGranule (g : Nat) : Nat := g / 256

/-- Region of an address (Table 16-1). -/
def regionOf (a : Nat) : Nat :=
  if a < 0x200000 then 0 else if a < 0x400000 then 1 else if a < 0x600000 then 2
  else if a < 0x610000 then 3 else if a < 0x620000 then 4 else 5

/-- First address and end of a region (Table 16-1). -/
def regionBase : Nat → Nat
  | 0 => 0
  | 1 => 0x200000
  | 2 => 0x400000
  | 3 => 0x600000
  | 4 => 0x610000
  | 5 => 0x620000
  | _ => 0x800000

/-- The granules that n bytes from an address touch. -/
def granulesOf (a n : Nat) : List Nat := if n = 0 then [] else (List.range ((a + n - 1) / 16 - a / 16 + 1)).map (fun i => a / 16 + i)

/-! ### What a read finds (R410, R415 to R417) -/

/-- STATUS of one granule (R410): 5 ERASING, 4 DAMAGED, 2 TORN, 0 VALID, 1 EMPTY. A sector that is open in the erase journal reads 5; a
FAILED one reads DAMAGED. -/
def State.granuleStatus (s : State) (g : Nat) : Nat :=
  let x := s.granule g
  let y := s.sector (secOfGranule g)
  if y.open_ then 5 else if y.failed || x.damaged then 4
  else if x.intent && !x.marker then 2
  else if x.marker then 0 else 1

/-- STATUS of a read: the first of 5, 4, 2, 0, 1 that applies to any granule (R410). -/
def State.readStatus (s : State) (a n : Nat) : Nat :=
  let l := (granulesOf a n).map s.granuleStatus
  ([5, 4, 2, 0].find? (fun k => l.contains k)).getD 1

/-- The bytes of a read: granules that read ERASING, TORN or EMPTY give 0xFF (R410). -/
def State.readBytes (s : State) (a n : Nat) : Bytes :=
  (List.range n).map (fun i => if s.granuleStatus ((a + i) / 16) = 0 then s.cell (a + i) else 0xFF)

/-- A page is sealed while it holds a TORN granule (R412). -/
def State.pageSealed (s : State) (a : Nat) : Bool := (granulesOf (a / 256 * 256) 256).any (fun g => s.granuleStatus g == 2)

/-- Sectors of a region with a property. -/
def State.sectorsWith (s : State) (r : Nat) (f : Sector → Bool) : Nat :=
  (s.sectors.filter (fun e => regionOf (e.1 * 4096) == r && f e.2)).length

/-- UNCORR_SECTORS: sectors of a region with an uncorrectable granule. -/
def State.uncorrSectors (s : State) (r : Nat) : Nat :=
  (((s.granules.filter (fun e => e.2.damaged && regionOf (e.1 * 16) == r)).map (fun e => secOfGranule e.1)).eraseDups).length

/-- The shelf of an address. -/
def shelfOfAddr (a : Nat) : Nat := (a - 0x400000) / 0x80000

/-- The address of copy k of record r of the device area, numbered 2 r + k. -/
def recordCopyAt (x : Nat) : Nat := 0x620000 + 16 * (Config.recordPlace (x / 2) (Fin.ofNat 2 x)).val

/-- A record of the device area is written: a damaged copy is replaced, and EV 0x58 says so with consequence 0x02 (Table 16-3). -/
def State.recordUpdated (s : State) (r : Nat) : State :=
  let bad := s.nv.badCopies.filter (fun x => x / 2 == r)
  let s := { s with nv := { s.nv with badCopies := s.nv.badCopies.filter (fun x => x / 2 != r) } }
  s.each bad (fun s x => s.raise 12 0x58 255 false (5 :: leBytes 4 (recordCopyAt x) ++ [2]))

/-- A key after a cold start: each counter resumes from its stored value plus 65,536, and the accepted record is empty; a
counter that so passes a multiple of 65,536 is written (R341). -/
def KeyX.coldStart (x : KeyX) : KeyX :=
  let rx := min 4294967295 (x.storedRx + 65536)
  let tx := (x.storedTx + 65536) % 4294967296
  { x with freshLast := rx, storedRx := rx, accepted := 0, freshTx := tx, storedTx := tx,
           failsAt := [], evAt := none, refusalsAt := [] }

/-- Change a key's counters: what is stored of them is a record of the device area (R341, R407). -/
def State.storeKey (s : State) (k : Nat) (x : KeyX) : State :=
  let y := s.key k
  let s := s.setKey k x
  if x.storedRx = y.storedRx ∧ x.storedTx = y.storedTx then s else s.recordUpdated (k + 1)

/-- Both copies of a record are damaged: it takes its default, and freshness counters resume as after a cold start (Table 16-3). -/
def State.recordLost (s : State) (r : Nat) : State :=
  if r = 0 then s.setReg profFallbackShelf (dflt profFallbackShelf)
  else s.storeKey (r - 1) (KeyX.coldStart { s.key (r - 1) with storedRx := 0, storedTx := 0 })

/-- A granule of the device area is found uncorrectable: the other copy of its record is used, if it is not damaged too (Table 16-3). -/
def State.copyBad (s : State) (a : Nat) : State :=
  s.each ((List.range 36).filter (fun x => recordCopyAt x == a)) (fun s x =>
    let s := { s with nv := { s.nv with badCopies := s.nv.badCopies ++ [x] } }
    if 2 ≤ (s.nv.badCopies.filter (fun y => y / 2 == x / 2)).length then s.recordLost (x / 2) else s)

/-- The effect of an uncorrectable error by its region (Table 16-3); a drawer is counted once, whatever granules of it are found. -/
def State.uncorrEffect (s : State) (a : Nat) : State :=
  match regionOf a with
  | 2 => s.setReg (shelfStatus (shelfOfAddr a)) 2
  | 3 => if (granulesOf (a / 128 * 128) 128).any (fun g => g != a / 16 && (s.granule g).damaged) then s else s.bump16 logsDamagedCount
  | 0 => if s.sec.running = 0 then { s with sec := { s.sec with bootOther := true } } else s.setReg identFwOther 0
  | 1 => if s.sec.running = 1 then { s with sec := { s.sec with bootOther := true } } else s.setReg identFwOther 0
  | 5 => s.copyBad a
  | _ => s

/-- A granule is found uncorrectable: EV 0x58 at the first finding, the counts, and the effect of Table 16-3 (R422). -/
def State.foundBad (s : State) (g : Nat) : State :=
  let x := s.granule g
  if x.damaged then s
  else
    let a := 16 * g
    let s := (s.setGranule g { x with damaged := true }).bump16 nvsUncorrCount
    let s := s.setReg (nvrLastUncorrAddr (regionOf a)) a
    (s.raise 12 0x58 255 false (BitVec.ofNat 8 (regionOf a) :: leBytes 4 a ++ [1])).uncorrEffect a

/-- The sealed pages that a read finds are counted once each (TORN_PAGES). -/
def State.foundTorn (s : State) (a n : Nat) : State :=
  let torn := (granulesOf a n).filter (fun g => s.granuleStatus g == 2)
  let pages := (torn.map (fun g => g / 16)).eraseDups
  s.each pages (fun s pg =>
    let l := ((List.range 16).map (fun i => 16 * pg + i)).filter (fun g => s.granuleStatus g == 2)
    if l.any (fun g => (s.granule g).seen) then s
    else (s.each l (fun s g => s.setGranule g { s.granule g with seen := true })).bump16 nvsTornPages)

/-- The margin sense of a read of n bytes at an address (R410, R411): corrected bits, weak cells with the WEAK flag of the sector, and
uncorrectable granules. -/
def State.sensed (s : State) (a n : Nat) (x : Sense) : State :=
  let s := s.setReg nvsCorrectedCount ((s.reg nvsCorrectedCount + x.corrected) % 4294967296)
  let y := s.sector (secOf a)
  let s := if s.act nvWeakThreshold ≤ x.weak then
      let s := s.bump32 nvsWeakReads
      if y.weak then s
      else (s.setSector (secOf a) { y with weak := true }).raise 12 0x59 255 false
        (BitVec.ofNat 8 (regionOf a) :: two (secOf a))
    else s
  let s := s.each ((x.uncorrectable.map (fun i => a / 16 + i)).filter (fun g => (granulesOf a n).contains g)) (fun s g => s.foundBad g)
  s.foundTorn a n

/-- The word of Table 9-4 for a read: WEAK, CORRECTED, STATUS. -/
def resultWord (x : Sense) (status : Nat) : Nat := status + 256 * min 255 x.corrected + 65536 * min 255 x.weak

/-! ### Program operations (R412, R413) -/

/-- The intent bits of the granules are set, in one pulse. -/
def State.setIntents (s : State) (gs : List Nat) : State := s.each gs (fun s g => s.setGranule g { s.granule g with intent := true })

/-- The first k granules of an operation get their data and their commit markers. -/
def State.setMarkers (s : State) (a : Nat) (data : Bytes) (k : Nat) : State :=
  s.each ((granulesOf a data.length).take k) (fun s g =>
    (s.setCells (16 * g) ((data.drop (16 * g - a)).take 16)).setGranule g { s.granule g with marker := true })

/-- A whole program operation: intent bits, then data, ECC and marker of each granule (R412). -/
def State.programAll (s : State) (a : Nat) (data : Bytes) : State :=
  (s.setIntents (granulesOf a data.length)).setMarkers a data data.length

/-- A waiting program operation names a granule. -/
def State.granuleAsked (s : State) (g : Nat) : Bool :=
  s.nv.queue.any (fun o => !o.erase && (granulesOf o.addr o.data.length).contains g)

/-- A block of up to 256 bytes, which may cross a page border, touches a FAILED sector or a sealed page (R412, R415). -/
def State.blockFailed (s : State) (a n : Nat) : Bool := (s.sector (secOf a)).failed || (s.sector (secOf (a + n - 1))).failed
def State.blockSealed (s : State) (a n : Nat) : Bool := s.pageSealed a || s.pageSealed (a + n - 1)

/-- Why a program operation is refused (R412, R415), none when it is not: FAILED sector, granule programmed, page sealed. -/
def State.programRefusal (s : State) (a n : Nat) : Option Nat :=
  if (s.sector (secOf a)).failed then some 0x0703
  else if (granulesOf a n).any (fun g => (s.granule g).intent || s.granuleAsked g) then some 0x0603
  else if s.pageSealed a then some 0x0605
  else none

/-- An erase sets every bit of a sector to the erased state (R409). -/
def State.eraseSector (s : State) (n : Nat) : State :=
  { s with flash := s.flash.filter (fun e => secOf e.1 != n), granules := s.granules.filter (fun e => secOfGranule e.1 != n) }

/-! ### When an operation may start (R418, R419) -/

/-- COLD_INHIBIT or the power-loss warning inhibits the flash (R419). -/
def State.nvInhibited (s : State) : Bool := s.thermal.coldInhibit.inForce || s.supply.plw

/-- The NV island runs: it has VCORE and is neither stalled nor without its clock. -/
def State.nvRuns (s : State) : Bool := s.supply.vcore && !s.islandBad.contains 12

/-- An operation may start: nothing is being programmed, the journal has been read, and nothing inhibits (R418, R419). -/
def State.nvReady (s : State) : Bool := s.nvRuns && s.nv.journalRead && !s.nvInhibited && s.nv.program.isNone

/-- The NV island is stalled or without its clock: a request that needs it is refused with ST 0x0702 (Table 12-6). -/
def State.nvBad (s : State) : Bool := s.islandBad.contains 12

/-- A dictionary request for a program operation or an erase is refused at once (R419, Table 12-6). -/
def State.nvStops (s : State) : Bool := s.nvBad || s.nvInhibited

/-- That refusal: ST 0x0702, or ST 0x0601, which is counted. -/
def State.refuseStopped (s : State) : State := if s.nvBad then s.answer 0x0702 else (s.bump16 nvsInhibitRefused).answer 0x0601

/-- Ask for work on the flash. -/
def State.nvAsk (s : State) (o : NvOp) : State := { s with nv := { s.nv with queue := s.nv.queue ++ [o] } }

/-- Class of waiting work in the dictionary's part of the queue (R418): 4 ring erases, 5 programs, 6 erases. -/
def NvOp.isLogErase (o : NvOp) : Bool := decide (o.why = .ringErase true)
def NvOp.cls (o : NvOp) : Nat :=
  match o.why with
  | .ringErase _ => 4
  | .drawer => 1
  | _ => if o.erase then 6 else 5

/-- Whether the firmware update activity of Table 8-4 runs: from the erase to the seal or the abandonment (R420). -/
def State.fwUpdates (s : State) : Bool := s.reg fwFwState == 1 || s.reg fwFwState == 2

/-- The sector that the scrub is reading: for 256 µs from its begin at most, which the model takes as the time of every read (log 30). -/
def State.scrubbing (s : State) : Option Nat :=
  if s.passed s.nv.scrubAt (usTicks 256) || !s.nvRuns then none else s.nv.scrubNow

/-- An erase that Table 8-4 holds: of a drawer sector during a firmware update, and of the sector that the scrub is reading. -/
def State.opHeld (s : State) (o : NvOp) : Bool :=
  o.erase && ((o.isLogErase && s.fwUpdates) || s.scrubbing == some (secOf o.addr))

/-- The first waiting work of a class that is not held. -/
def State.nvFirst (s : State) (k : Nat) : Option NvOp := s.nv.queue.find? (fun o => o.cls == k && !s.opHeld o)

/-- The queue without the first occurrence of a work. -/
def nvDrop (x : NvOp) : List NvOp → List NvOp
  | [] => []
  | o :: t => if o = x then t else o :: nvDrop x t

/-- A drawer sector erase runs or waits in the queue, or an erase command of the log is in progress. -/
def State.logErases (s : State) : Bool :=
  decide (s.log.command ≠ 0) || s.nv.queue.any (fun o => o.isLogErase) || (match s.nv.erase with
    | some o => o.isLogErase
    | none => false)

/-- A switch is staged or armed. -/
def State.switching (s : State) : Bool :=
  match s.armed with
  | some a => (match a.kind with
    | .switch _ _ => true
    | _ => false)
  | none => decide (s.switchSt ≠ 0)

/-- The conditions under which the commit bound holds (R253). -/
def State.commitRuns (s : State) : Bool := s.nvRuns && !s.nvInhibited

/-- A condition of R253 fails: every staged drawer that is not being programmed will be committed with COMMITTED_LATE. -/
def State.holdDrawers (s : State) : State :=
  let busy := match s.log.writing with
    | some x => [x.2.seq]
    | none => []
  { s with log := { s.log with staged := s.log.staged.map (fun d => if busy.contains d.seq then d else { d with flags := d.flags ||| 16 }) } }

end Sys2Proof.Machine
end

