-- ==== Sys2Proof/Machine/Own.lean ====
section
/-! DEFINITION. Whose an entry of the configuration is (R335, R309): the item of each dictionary key, what belongs to a partition, and which
partitions a switch affects. -/
namespace Sys2Proof.Machine

/-- The item of which a configuration entry is a value. -/
inductive Item where
  | chan (c : Nat)
  | en (e : Nat)
  | entry (e : Nat)
  | cap (u : Nat)
  | part (p : Nat)
  | group (g : Nat)
  | cluster (n : Nat)
  | trim (t : Nat)
  | drive (d : Nat)
  | stream (k : Nat)
  | target (e : Nat)
  | device
  deriving DecidableEq, Repr

/-- The item of a register's key: by the object's table, its unit and sub-index. -/
def itemOf (k : Nat) : Item :=
  let base := k / 16777216
  let u := k / 256 % 65536
  let sub := k % 256
  if base = 0x2000 then (if sub < 0x20 then .chan u else .en u)
  else if base = 0x2200 then .cluster u
  else if base = 0x2310 ∨ base = 0x2800 ∨ base = 0x3000 ∨ base = 0x5830 then .part u
  else if base = 0x2820 ∨ base = 0x7010 then .group u
  else if base = 0x2880 then .cap u
  else if base = 0x2A00 then .entry u
  else if base = 0x3110 then .part ((sub - 1) % 16)
  else if base = 0x3400 then .trim u
  else if base = 0x3490 then .chan u
  else if base = 0x4820 then .target u
  else if base = 0x5000 then .drive u
  else if base = 0x5880 then .stream u
  else .device

/-- The action entries of partition p in a bank (R134). -/
def inRange (b : Nat → Nat) (p e : Nat) : Bool :=
  decide (b (seqEntryBase p) ≤ e ∧ e < b (seqEntryBase p) + b (seqEntryCount p))

/-- A TRM output is named by a channel of partition p. -/
def trimOfPart (b : Nat → Nat) (p t : Nat) : Bool :=
  (List.range 512).any (fun c => b (chKind c) != 0 && b (chPartition c) == p && b (chTrimKind c) == 1 && b (chTrimId c) == t)

/-- The partition of a channel in a bank: an unused channel belongs to P0 (R42). -/
def partIn (b : Nat → Nat) (c : Nat) : Nat := if b (chKind c) = 0 then 0 else b (chPartition c)

/-- An item belongs to partition p, judged in a bank (R335, R309). -/
def belongs (b : Nat → Nat) (p : Nat) : Item → Bool
  | .chan c => partIn b c == p
  | .en e => b (chEnPartition e) == p
  | .entry e => inRange b p e
  | .cap u => b (capPartition u) == p
  | .part q => q == p
  | .group g => b (partStepGroup p) == g
  | .cluster n => holdsIn b p n
  | .trim t => trimOfPart b p t
  | .drive d => b (drvPartition d) == p
  | .stream k => b (strPartition k) == p
  | .target e => tgtPart (b (tgtEntry e)) == p
  | .device => false

/-- An item that a partition's LAST_REPORT names (R335): one of the listed kinds that belongs to it; drives, streams and target entries are none. -/
def reportable (b : Nat → Nat) (p : Nat) : Item → Bool
  | .drive _ | .stream _ | .target _ => false
  | i => belongs b p i

/-- The keys at which two banks differ. -/
def diffKeys (a b : List (Nat × Nat)) : List Nat :=
  ((a.map (fun e => e.1)) ++ ((b.map (fun e => e.1)).filter (fun k => (tabFind a k).isNone))).filter
    (fun k => tabGet dflt a k != tabGet dflt b k)

/-- EN_POLARITY of an enable. -/
def isPolarity (k : Nat) : Bool := k / 16777216 == 0x2000 && k % 256 == 0x21

/-- A bank in which every EN_POLARITY that names the value of the EN_POL strap stands as the default, which is that value: two banks so written
differ where a value differs (R308, R309, R311). -/
def State.norm (s : State) (t : List (Nat × Nat)) : List (Nat × Nat) := t.filter (fun e => !(isPolarity e.1 && e.2 == s.strapPol))

/-- A change from one bank to another affects partition p: a value that belongs to Pp, of a cluster or a step group of Pp, or of the device
as a whole (R309). -/
def affects (a b : List (Nat × Nat)) (p : Nat) : Bool :=
  (diffKeys a b).any (fun k =>
    let i := itemOf k
    i == .device || belongs (tabGet dflt a) p i || belongs (tabGet dflt b) p i)

/-- A change from the active banks to others affects partition p. -/
def State.affectsTo (s : State) (t : List (Nat × Nat)) (p : Nat) : Bool := affects (s.norm s.active) (s.norm t) p

/-- A switch that is armed affects partition p (Table 8-4). -/
def State.switchAffects (s : State) (p : Nat) : Bool := s.switching && s.affectsTo s.shadow p

end Sys2Proof.Machine
end

