-- ==== Sys2Proof/Machine/Check.lean ====
section
/-! DEFINITION. The check phase of a commit (R16 step 2): the compatibility classes (R307, R308), the binding rules (Table 2-2), the
sequence rules (Table 5-10), the placement rules (Table 7-2), the checks of the other chapters in their order, and the words of
CHECK_REPORT (Table 12-19). A bank is given by its read. -/
namespace Sys2Proof.Machine

/-- A bank of RWC entries, by its read. -/
abbrev Bank := Nat → Nat

/-- A failing check: ST code, rule number, the item's KIND and number, and the first entry at fault (Table 12-19). -/
structure Fail where
  st   : Nat
  rule : Nat := 0
  kind : Nat := 0
  item : Nat := 0
  key  : Option Nat := none
  deriving DecidableEq, Repr

/-- CHECK_REPORT of a failing check. -/
def Fail.word (x : Fail) : Nat :=
  let (i, sub) := match x.key with
    | none => (0, 0)
    | some k => addressOf k
  x.st * 2 ^ 48 + x.rule * 2 ^ 40 + x.kind * 2 ^ 36 + x.item * 2 ^ 24 + i * 256 + sub

/-- The first failing item of a list. -/
def firstFail (l : List Nat) (f : Nat → Option Fail) : Option Fail := l.findSome? f

/-- Of the failures that a rule finds, the one of the lowest item (R16). -/
def lowestItem (l : List Fail) : Option Fail :=
  l.foldl (fun (m : Option Fail) x => match m with
    | none => some x
    | some y => if x.item < y.item then some x else some y) none

/-- A failure when a condition holds. -/
def failIf (c : Bool) (x : Fail) : Option Fail := if c then some x else none

/-- All channels, enables. -/
def allChans : List Nat := List.range 512
def allEns : List Nat := List.range 256

/-! ### Compatibility classes (R307, R308) -/

/-- The sub-indices of Table 11-8 that a channel and an enable bring to a class. -/
def chanSubs : List Nat := [0x01, 0x02, 0x03, 0x0E, 0x11, 0x12, 0x13]
def enSubs : List Nat := [0x20, 0x21, 0x22]

/-- An action entry without its DELAY and TIMEOUT. -/
def entryBare (w : Nat) : Nat := w - aeDelay w * 2 ^ 48 - aeTimeout w * 2 ^ 96

/-- The bits of the enables of partition p in a map. -/
def maskEns (b : Bank) (p w : Nat) : Nat :=
  ((allEns.filter (fun e => bitOf w e && b (chEnPartition e) == p)).map (fun e => 2 ^ e)).sum

/-- Whether a PAIR entry names partition p. -/
def pairNames (w p : Nat) : Bool := w != 0 && (w / 16 == p || w % 16 == p)

/-- A bank in which every EN_POLARITY at its default reads the value of the EN_POL strap. -/
def State.withPol (s : State) (b : Bank) : Bank := fun k => if isPolarity k && b k == 2 then s.strapPol else b k

/-- Keys and values that form the class of partition p, in ascending order of index and sub-index (R307, Table 11-8). -/
def classOf (b : Bank) (p : Nat) : List (Nat × Nat) :=
  let plain := fun (k : Nat) => (k, b k)
  (allChans.map (fun c =>
      (if b (chPartition c) = p then chanSubs.map (fun i => plain (rk 0x2000 c i)) else []) ++
      (if c < 256 ∧ b (chEnPartition c) = p then enSubs.map (fun i => plain (rk 0x2000 c i)) else []))).flatten ++
  ((clustersAll.filter (fun n => p == 0 || holdsIn b p n)).map (fun n => [5, 6, 7].map (fun i => plain (rk 0x2200 n i)))).flatten ++
  [(fabDischargeMap, maskEns b p (b fabDischargeMap))] ++
  [1, 2, 4].map (fun i => plain (rk 0x2800 p i)) ++
  ((List.range 4096).filter (inRange b p)).map (fun e => (actEntry e, entryBare (b (actEntry e)))) ++
  [1, 2, 3].map (fun i => plain (rk 0x3000 p i)) ++
  ((List.range 4).filter (fun i => pairNames (b (lanePair i)) p)).map (fun i => plain (lanePair i)) ++
  (((List.range 4).filter (fun d => b (drvPartition d) == p)).map (fun d => ((List.range 9).map (fun i => plain (rk 0x5000 d (i + 1)))))).flatten ++
  (if p = 0 then (List.range 8).map (fun i => plain (rk 0x7000 0 (i + 1))) else []) ++
  [1, 2].map (fun i => plain (rk 0x7010 (b (partStepGroup p)) i))

/-- The first entry, by index and sub-index, in which two classes differ. -/
def classDiff (x y : List (Nat × Nat)) : Option Nat :=
  let diff := ((x.map (·.1)) ++ (y.map (·.1))).filter (fun k => tabFind x k != tabFind y k)
  let pos := fun (k : Nat) => (addressOf k).1 * 256 + (addressOf k).2
  diff.foldl (fun (m : Option Nat) k => match m with
    | none => some k
    | some j => if pos k < pos j then some k else some j) none

/-- A partition that is not DOWN must keep its class (R308, rule 13 of Table 2-2). -/
def State.checkClasses (s : State) (b : Bank) : Option Fail :=
  firstFail (partitions.filter (fun p => (s.part p).state != .down)) (fun p =>
    (classDiff (classOf (s.withPol s.act) p) (classOf (s.withPol b) p)).map (fun k =>
      { st := 0x0501, rule := if k / 16777216 = 0x2000 ∧ chanSubs.contains (k % 256) then 13 else 0, kind := 5, item := p, key := some k }))

/-- The bytes of a class as records under R302 (R307). -/
def classBytes (l : List (Nat × Nat)) : Bytes :=
  (l.map (fun e =>
    let (i, sub) := addressOf e.1
    let n := (((objOf (e.1 / 16777216)).bind (fun o => o.row (e.1 % 256))).map (fun r => r.lenMin)).getD 1
    leBytes 2 i ++ leBytes 1 sub ++ leBytes 1 n ++ leBytes n e.2 ++ List.replicate ((4 - n % 4) % 4) 0)).flatten

/-- COMPAT_Pp: the first four bytes of the class digest as a big-endian number (R307). -/
def compatOf (b : Bank) (p : Nat) : Nat := (Config.sha256 (classBytes (classOf b p))).toNat / 2 ^ 224

/-! ### Rule 14 of Table 2-2 -/

/-- The window entries of a channel that differ from the active ones. -/
def State.windowMoves (s : State) (b : Bank) (c : Nat) : List Nat :=
  ([5, 6, 7, 8].map (fun i => rk 0x2000 c i)).filter (fun k => s.act k != b k)

/-- A changed window of a RUNNING or MARGIN channel needs its latest result at least 256 pin counts inside. -/
def State.checkWindows (s : State) (b : Bank) : Option Fail :=
  firstFail (allChans.filter (fun c => s.chState c == .running || s.chState c == .margin)) (fun c =>
    match (s.windowMoves b c).head? with
    | none => none
    | some k =>
      let x := s.chan c
      failIf (!x.hasResult || x.stale || (s.cluster (clOf c)).clockLost ||
          decide (x.res < 64 * b (chLowerCode c) + 256 ∨ 64 * b (chUpperCode c) < x.res + 256))
        { st := 0x0502, rule := 14, kind := 1, item := c, key := some k })

/-! ### Binding rules (Table 2-2, R51) -/

/-- A failing channel or enable of a binding rule. -/
def chanFail (rule c sub : Nat) : Fail := { st := 0x0302, rule := rule, kind := 1, item := c, key := some (rk 0x2000 c sub) }
def enFail (rule e : Nat) (k : Nat) : Fail := { st := 0x0302, rule := rule, kind := 2, item := e, key := some k }

def isDefined (b : Bank) (p : Nat) : Bool := b (partDefined p) == 1
def usedChans (b : Bank) : List Nat := allChans.filter (fun c => b (chKind c) != 0)
/-- The channels bound to an enable, and those that it serves. -/
def boundTo (b : Bank) (e : Nat) : List Nat := (usedChans b).filter (fun c => b (chEnable c) == e)

/-- Rule 1. -/
def bindRule1 (b : Bank) : Option Fail :=
  firstFail (usedChans b) (fun c => failIf (!isDefined b (b (chPartition c))) (chanFail 1 c 0x02)) <|>
  firstFail allEns (fun e => failIf (b (chEnMode e) != 0 && !isDefined b (b (chEnPartition e))) (enFail 1 e (chEnPartition e)))

/-- Rule 2, with the rule of R115 for discharge enables. -/
def bindRule2 (b : Bank) : Option Fail :=
  firstFail (usedChans b) (fun c =>
    let e := b (chEnable c)
    failIf (e != 65535 && (decide (255 < e) || b (chEnPartition e) != b (chPartition c) || b (chEnMode e) == 0)) (chanFail 2 c 0x0E)) <|>
  firstFail (allEns.filter (bitOf (b fabDischargeMap))) (fun e =>
    failIf (b (chEnMode e) == 0) (enFail 2 e (chEnMode e)) <|>
    failIf (!(boundTo b e).isEmpty) (enFail 2 e fabDischargeMap)) <|>
  failIf (decide (2 ^ 256 ≤ b fabDischargeMap)) { st := 0x0302, rule := 2, key := some fabDischargeMap }

/-- Rule 3. -/
def bindRule3 (b : Bank) : Option Fail :=
  firstFail (usedChans b) (fun c =>
    let k := b (chTrimKind c)
    let t := b (chTrimId c)
    let twice := (usedChans b).any (fun d => decide (d < c) && b (chTrimKind d) == k &&
      (b (chTrimId d) == t || k == 2 && samePage (b (tgtEntry (b (chTrimId d)))) (b (tgtEntry t))))
    failIf (k != 0 && (twice || (k == 2 && decide (t ≤ 255) && tgtPart (b (tgtEntry t)) != b (chPartition c)))) (chanFail 3 c 0x12))

/-- Rules 4 to 7. -/
def bindRule4 (b : Bank) : Option Fail :=
  firstFail allChans (fun c => failIf (decide (b (chUpperCode c) < b (chLowerCode c) + 2 * b (chHysteresis c) + 2)) (chanFail 4 c 0x05))

def bindRule5 (b : Bank) : Option Fail :=
  firstFail allChans (fun c =>
    let lo := 64 * b (chLowerCode c)
    let hi := 64 * b (chUpperCode c)
    let lw := b (chLowerWarn c)
    let uw := b (chUpperWarn c)
    failIf (lw != 0 && decide (lw ≤ lo ∨ hi ≤ lw)) (chanFail 5 c 0x0A) <|>
    failIf (uw != 65535 && decide (uw ≤ lo ∨ hi ≤ uw)) (chanFail 5 c 0x09) <|>
    failIf (lw != 0 && uw != 65535 && decide (uw < lw)) (chanFail 5 c 0x09))

def bindRule6 (b : Bank) : Option Fail :=
  firstFail ((usedChans b).filter (fun c => b (chKind c) == 1)) (fun c =>
    let v := b (chNominal c) * 65536
    let d := b (chDivider c) * 2400000
    failIf (decide (d < v ∨ v * 1024 ≤ b (chLowerCode c) * d ∨ b (chUpperCode c) * d ≤ v * 1024)) (chanFail 6 c 0x04))

def bindRule7 (b : Bank) : Option Fail :=
  firstFail allChans (fun c => failIf (b (chRampStart c) != 0 && decide (64 * b (chLowerCode c) ≤ b (chRampStart c))) (chanFail 7 c 0x0B))

/-- Rule 8. -/
def bindRule8 (b : Bank) : Option Fail :=
  let cur := (usedChans b).filter (fun c => b (chKind c) == 2)
  firstFail cur (fun c =>
    let d := b (chCompanion c)
    failIf (decide (511 < d) || b (chKind d) != 1 || b (chPartition d) != b (chPartition c)) (chanFail 8 c 0x13) <|>
    failIf (b (chEnable c) != 65535) (chanFail 8 c 0x0E) <|>
    failIf (b (chTrimKind c) != 0) (chanFail 8 c 0x11) <|>
    failIf (decide (4 ≤ (cur.filter (fun e => decide (e < c) && b (chCompanion e) == d)).length)) (chanFail 8 c 0x13))

/-- Rules 9 and 10. -/
def bindRule9 (b : Bank) : Option Fail :=
  firstFail (usedChans b) (fun c =>
    failIf (b (chAbsentEn c) == 1 && b (chEnable c) != 65535 && decide (1 < (boundTo b (b (chEnable c))).length)) (chanFail 9 c 0x0F))

def bindRule10 (b : Bank) : Option Fail :=
  firstFail (usedChans b) (fun c =>
    failIf (b (chEnable c) != 65535 && (boundTo b (b (chEnable c))).any (fun d => decide (d < c) && b (chSheddable d) != b (chSheddable c)))
      (chanFail 10 c 0x10))

/-- The pairs that are declared: number, first and second member (Table 7-13). -/
def pairsOf (b : Bank) : List (Nat × Nat × Nat) :=
  ((List.range 4).filter (fun k => b (lanePair k) != 0)).map (fun k => (k, b (lanePair k) / 16, b (lanePair k) % 16))

/-- The other member of a pair of partition p. -/
def pairMate (b : Bank) (p q : Nat) : Bool := (pairsOf b).any (fun x => (x.2.1 == p && x.2.2 == q) || (x.2.1 == q && x.2.2 == p))

/-- Rule 11. -/
def bindRule11 (b : Bank) : Option Fail :=
  firstFail (usedChans b) (fun c =>
    failIf (((List.range 8).map (fun i => c / 8 * 8 + i)).any (fun d => b (chKind d) != 0 && pairMate b (b (chPartition c)) (b (chPartition d))))
      (chanFail 11 c 0x02))

/-- Rule 12. -/
def bindRule12 (b : Bank) : Option Fail :=
  firstFail (allChans.filter (fun c => b (chKind c) == 0 || b (chKind c) == 3)) (fun c =>
    failIf (b (chEnable c) != 65535) (chanFail 12 c 0x0E) <|>
    failIf (b (chTrimKind c) != 0) (chanFail 12 c 0x11) <|>
    failIf (b (chCompanion c) != 65535) (chanFail 12 c 0x13))

/-- Whether a partition spans devices in a bank (R199). -/
def spansIn (b : Bank) (p : Nat) : Bool := decide (1 < popCount (b (partDeviceMap p)))

/-- Rule 15. -/
def bindRule15 (b : Bank) : Option Fail :=
  firstFail (List.range 4) (fun n =>
    failIf (!bitOf (b fabFltRxEnable) n && partitions.any (fun p => isDefined b p && b (partStepGroup p) == n && spansIn b p && holds b p))
      { st := 0x0302, rule := 15, kind := 6, item := n, key := some fabFltRxEnable })

/-- The binding rules in ascending number. -/
def checkBinding (b : Bank) : Option Fail :=
  bindRule1 b <|> bindRule2 b <|> bindRule3 b <|> bindRule4 b <|> bindRule5 b <|> bindRule6 b <|> bindRule7 b <|> bindRule8 b <|>
  bindRule9 b <|> bindRule10 b <|> bindRule11 b <|> bindRule12 b <|> bindRule15 b

/-! ### Sequence rules (Table 5-10, R163) -/

def entryFail (rule e : Nat) : Fail := { st := 0x0303, rule := rule, kind := 3, item := e, key := some (actEntry e) }

/-- The entries of partition p's range that are not empty. -/
def entriesIn (b : Bank) (p : Nat) : List Nat :=
  ((List.range (min 4096 (b (seqEntryCount p)))).map (fun i => b (seqEntryBase p) + i)).filter (fun e => aeType (b (actEntry e)) != 0)

/-- The first failing entry of the ranges, in ascending entry number. -/
def firstEntry (b : Bank) (f : Nat → Nat → Option Fail) : Option Fail :=
  let all := (partitions.map (fun p => (entriesIn b p).map (fun e => (e, p)))).flatten
  firstFail (List.range 4096) (fun e => (tabFind all e).bind (fun p => f p e))

/-- The first entry that lies in the ranges of two partitions, where they overlap. -/
def rangesMeet (b : Bank) (p q : Nat) : Option Nat :=
  let lo := b (seqEntryBase p)
  let at_ := b (seqEntryBase q)
  if b (seqEntryCount p) != 0 && b (seqEntryCount q) != 0 && decide (lo < at_ + b (seqEntryCount q) ∧ at_ < lo + b (seqEntryCount p)) then some (max lo at_) else none

/-- Rule 1. A range beyond entry 4,095 is reported as its partition, the lowest of them; else two ranges that overlap as the lowest entry
that lies in two (log 16). -/
def seqRule1 (b : Bank) : Option Fail :=
  firstFail partitions (fun p => failIf (b (seqEntryCount p) != 0 && decide (4096 < b (seqEntryBase p) + b (seqEntryCount p)))
    { st := 0x0303, rule := 1, kind := 5, item := p, key := some (seqEntryCount p) }) <|>
  lowestItem ((partitions.map (fun p => (List.range p).filterMap (fun q => (rangesMeet b p q).map (entryFail 1)))).flatten)

/-- Rule 2, over every entry that is not empty. -/
def seqRule2 (b : Bank) : Option Fail :=
  firstFail ((List.range 4096).filter (fun e => aeType (b (actEntry e)) != 0)) (fun e =>
    let w := b (actEntry e)
    failIf (aeState w == 0 || aeState w == 255 || decide (10 < aeType w) || aeFlagsReserved w != 0 || aeReserved w != 0) (entryFail 2 e))

/-- The place of an entry in the order of rule 3. -/
def entryRank (w : Nat) : Nat := (if aeExit w then 65536 else 0) + aeState w * 256 + aeOrder w

/-- Rule 3. -/
def seqRule3 (b : Bank) : Option Fail :=
  firstEntry b (fun p e =>
    failIf ((entriesIn b p).any (fun d => decide (d < e) && decide (entryRank (b (actEntry e)) < entryRank (b (actEntry d))))) (entryFail 3 e))

/-- A channel of a partition, of some kinds. -/
def chanOfPart (b : Bank) (p c : Nat) : Bool := decide (c < 512) && b (chKind c) != 0 && b (chPartition c) == p
/-- An enable of a partition in use. -/
def enOfPart (b : Bank) (p e : Nat) : Bool := decide (e < 256) && b (chEnMode e) != 0 && b (chEnPartition e) == p

/-- The target of an action entry belongs to its partition and is of the kind that its type requires (Table 5-3). -/
def targetOk (b : Bank) (p w : Nat) : Bool :=
  let t := aeTarget w
  match aeType w with
  | 1 | 2 => enOfPart b p t && !bitOf (b fabDischargeMap) t
  | 3 | 4 => chanOfPart b p t && b (chKind t) == 1 && b (chEnable t) == 65535
  | 5 => t == 0
  | 6 => chanOfPart b p t
  | 7 => decide (t < 256) && tgtPart (b (tgtEntry t)) == p
  | 8 => chanOfPart b p t && b (chTrimKind t) != 0
  | 9 => enOfPart b p t
  | 10 => decide (t < 32) && b (capPartition t) == p
  | _ => false

/-- The guard of an entry that has one belongs to its partition. -/
def guardOk (b : Bank) (p w : Nat) : Bool :=
  if aeType w = 1 ∨ aeType w = 3 then aeParam w % 65536 == 65535 || chanOfPart b p (aeParam w % 65536) else true

/-- Rule 4. -/
def seqRule4 (b : Bank) : Option Fail :=
  firstEntry b (fun p e => failIf (!(targetOk b p (b (actEntry e)) && guardOk b p (b (actEntry e)))) (entryFail 4 e))

/-- PARAM and TIMEOUT of an action entry lie in their ranges (Table 5-3, text before R386). -/
def paramOk (w : Nat) : Bool :=
  let x := aeParam w
  let t := aeTimeout w
  match aeType w with
  | 1 | 3 => decide (x < 65536 ∧ t = 0)
  | 2 | 4 => decide (x = 0 ∧ t ≤ 60000)
  | 5 => decide (1 ≤ x ∧ x ≤ 60000000 ∧ t = 0)
  | 6 => decide (x < 512 ∧ 1 ≤ t ∧ t ≤ 60000)
  | 7 =>
    let data := field x 8 16
    let fits := match field x 0 8 with
      | 0x01 | 0x02 => decide (data < 256)
      | 0x03 => data == 0
      | 0x21 => true
      | _ => false
    fits && decide (x < 16777216 ∧ t ≤ 60000)
  | 8 => decide (t ≤ 60000)
  | 9 => decide (1 ≤ x ∧ x ≤ 10000 ∧ t = 0)
  | 10 => decide (x = 0 ∧ t = 0)
  | _ => false

/-- Rules 5 and 6. -/
def seqRule5 (b : Bank) : Option Fail := firstEntry b (fun _ e => failIf (!paramOk (b (actEntry e))) (entryFail 5 e))
def seqRule6 (b : Bank) : Option Fail :=
  firstEntry b (fun _ e =>
    let w := b (actEntry e)
    failIf (aeType w == 9 && (!aeExit w || !bitOf (b fabDischargeMap) (aeTarget w))) (entryFail 6 e))

/-- What an entry acts on, for rule 7: an enable 1, a channel 2, neither 0. -/
def targetSpace (w : Nat) : Nat :=
  match aeType w with
  | 1 | 2 | 9 => 1
  | 3 | 4 | 6 | 8 => 2
  | _ => 0

/-- Rule 7. -/
def seqRule7 (b : Bank) : Option Fail :=
  firstEntry b (fun p e =>
    let w := b (actEntry e)
    failIf (targetSpace w != 0 && (entriesIn b p).any (fun d =>
      let v := b (actEntry d)
      decide (d < e) && entryRank v == entryRank w && targetSpace v == targetSpace w && aeTarget v == aeTarget w)) (entryFail 7 e))

/-- Rules 8 and 9. -/
def seqRule8 (b : Bank) : Option Fail :=
  firstFail (List.range 4) (fun n => failIf (b (grpUpGoal n) == 0 || decide (254 < b (grpUpGoal n)))
    { st := 0x0303, rule := 8, kind := 6, item := n, key := some (grpUpGoal n) })

def seqRule9 (b : Bank) : Option Fail :=
  firstFail (partitions.filter (isDefined b)) (fun p =>
    failIf (b (seqRestartMode p) == 1 && partitions.any (fun q => q != p && isDefined b q && b (partStepGroup q) == b (partStepGroup p)))
      { st := 0x0303, rule := 9, kind := 5, item := p, key := some (seqRestartMode p) })

/-- One side of a capture unit (Table 5-11): its target is a resource of the partition and its level lies in range. -/
def captureOk (b : Bank) (p src tgt lvl : Nat) : Bool :=
  match src with
  | 0 => true
  | 1 | 2 => enOfPart b p tgt && lvl == 0
  | 3 => chanOfPart b p tgt && decide (lvl ≤ 8)
  | 4 | 5 => chanOfPart b p tgt
  | 6 | 7 => chanOfPart b p tgt && lvl == 0
  | _ => false

/-- Rule 10. -/
def seqRule10 (b : Bank) : Option Fail :=
  firstFail (List.range 32) (fun u =>
    let p := b (capPartition u)
    failIf (!captureOk b p (b (capStartSrc u)) (b (capStartTarget u)) (b (capStartLevel u)))
      { st := 0x0303, rule := 10, kind := 4, item := u, key := some (capStartTarget u) } <|>
    failIf (!captureOk b p (b (capStopSrc u)) (b (capStopTarget u)) (b (capStopLevel u)))
      { st := 0x0303, rule := 10, kind := 4, item := u, key := some (capStopTarget u) })

/-- The sequence rules in ascending number. -/
def checkSequence (b : Bank) : Option Fail :=
  seqRule1 b <|> seqRule2 b <|> seqRule3 b <|> seqRule4 b <|> seqRule5 b <|> seqRule6 b <|> seqRule7 b <|> seqRule8 b <|>
  seqRule9 b <|> seqRule10 b

/-! ### Placement rules (Table 7-2, R199, R201) -/

def partFail (rule p key : Nat) : Fail := { st := 0x0304, rule := rule, kind := 5, item := p, key := some key }

/-- Rules 1 and 2. -/
def placeRule1 (b : Bank) : Option Fail :=
  firstFail (partitions.filter (fun p => p != 0 && isDefined b p)) (fun p =>
    failIf (decide (3 < b (partStepGroup p)) && holds b p) (partFail 1 p (partStepGroup p)))

def placeRule2 (b : Bank) (devid : Nat) : Option Fail :=
  firstFail partitions (fun p =>
    let m := b (partDeviceMap p)
    failIf (bitOf m devid != holds b p || (m &&& b (treGrpSpanMap (b (partStepGroup p)))) != m) (partFail 2 p (partDeviceMap p)))

/-- Over the declared pairs, number and members: the failure of the lowest item. -/
def overPairs (b : Bank) (f : Nat → Nat → Nat → Option Fail) : Option Fail :=
  lowestItem ((pairsOf b).filterMap (fun (k, x, y) => f k x y))

/-- Rules 3 to 7, over the declared pairs. A failure of both members is reported as the lower one (log 16). -/
def placeRule3 (b : Bank) : Option Fail :=
  overPairs b (fun k x y =>
    let others := (pairsOf b).filter (fun z => decide (z.1 < k))
    let bad := fun (p : Nat) => p == 0 || !isDefined b p || others.any (fun z => z.2.1 == p || z.2.2 == p)
    failIf (x == y || bad x || bad y)
      (partFail 3 (if x == y || (bad x && bad y) then min x y else if bad x then x else y) (lanePair k)))

def placeRule4 (b : Bank) : Option Fail :=
  overPairs b (fun k x y => failIf (b (partStepGroup x) == b (partStepGroup y)) (partFail 4 (min x y) (lanePair k)))

def placeRule5 (b : Bank) : Option Fail :=
  overPairs b (fun k x y =>
    firstFail clustersAll (fun n => failIf (holdsIn b x n && holdsIn b y n)
      { st := 0x0304, rule := 5, kind := 7, item := n, key := some (lanePair k) }))

/-- Port n carries an enabled target entry of partition p. -/
def portCarries (b : Bank) (n p : Nat) : Bool :=
  allEns.any (fun e => tgtOn (b (tgtEntry e)) && tgtPort (b (tgtEntry e)) == n && tgtPart (b (tgtEntry e)) == p)

def placeRule6 (b : Bank) : Option Fail :=
  overPairs b (fun k x y =>
    failIf ((List.range 8).any (fun n => portCarries b n x && portCarries b n y)) (partFail 6 (min x y) (lanePair k)))

def placeRule7 (b : Bank) : Option Fail :=
  let owns := fun (p : Nat) => (List.range 4).any (fun d => b (drvEnable d) == 1 && b (drvPartition d) == p)
  overPairs b (fun k x y =>
    let at_ := fun (p q : Nat) => owns p && holdsIn b q 7
    failIf (at_ x y || at_ y x) (partFail 7 (if at_ x y && at_ y x then min x y else if at_ x y then x else y) (lanePair k)))

/-- Rule 8. -/
def placeRule8 (b : Bank) : Option Fail :=
  firstFail partitions (fun p =>
    let l := (List.range 4).map (fun i => b (partEnforceStep p i))
    firstFail (List.range 4) (fun i =>
      let v := l.getD i 0
      let later := (l.drop (i + 1)).any (fun w => w != 0)
      failIf (decide (5 < v) || ((v == 0 || v == 4 || v == 5) && later)) (partFail 8 p (partEnforceStep p i))))

/-- The placement rules in ascending number. -/
def checkPlacement (b : Bank) (devid : Nat) : Option Fail :=
  placeRule1 b <|> placeRule2 b devid <|> placeRule3 b <|> placeRule4 b <|> placeRule5 b <|> placeRule6 b <|> placeRule7 b <|> placeRule8 b

/-! ### The checks of the other chapters (R16 item 6) -/

def valueFail (key : Nat) : Fail := { st := 0x0301, key := some key }

/-- R40, R375: the rings take at most 240 blocks; the first stream that goes beyond. -/
def checkRings (b : Bank) : Option Fail :=
  let on := (List.range 32).filter (fun k => b (strEnable k) == 1)
  firstFail on (fun k =>
    failIf (decide (240 < ((on.filter (fun j => decide (j ≤ k))).map (fun j => b (strRingBlocks j))).sum))
      { st := 0x0402, key := some (strRingBlocks k) })

/-- TRIM_ID lies in the range that its TRIM_KIND gives it (Table 2-5). -/
def checkTrimIds (b : Bank) : Option Fail :=
  firstFail (usedChans b) (fun c =>
    failIf ((b (chTrimKind c) == 1 && decide (127 < b (chTrimId c))) || (b (chTrimKind c) == 2 && decide (255 < b (chTrimId c))))
      { st := 0x0301, kind := 1, item := c, key := some (chTrimId c) })

/-- R197: every drive, capture unit and telemetry stream belongs to a defined partition, and a target entry with it. One that is in use
and names an undefined partition is refused (log 16). -/
def checkOwners (b : Bank) : Option Fail :=
  let v := fun (kind item k : Nat) => ({ st := 0x0301, kind := kind, item := item, key := some k } : Fail)
  firstFail ((List.range 4).filter (fun d => b (drvEnable d) == 1)) (fun d =>
    failIf (!isDefined b (b (drvPartition d))) (v 0 0 (drvPartition d))) <|>
  firstFail ((List.range 32).filter (fun u => b (capStartSrc u) != 0 || b (capStopSrc u) != 0)) (fun u =>
    failIf (!isDefined b (b (capPartition u))) (v 4 u (capPartition u))) <|>
  firstFail ((List.range 32).filter (fun k => b (strEnable k) == 1)) (fun k =>
    failIf (!isDefined b (b (strPartition k))) (v 0 0 (strPartition k))) <|>
  firstFail (allEns.filter (fun e => tgtOn (b (tgtEntry e)))) (fun e =>
    failIf (!isDefined b (tgtPart (b (tgtEntry e)))) (v 0 0 (tgtEntry e)))

/-- The carrier frequency of drive d in a bank, none when its carrier is not configured (R71, R427). -/
def carrierIn (b : Bank) (d : Nat) : Option Nat :=
  let src := b (drvCarrierSource d)
  if b (drvEnable d) ≠ 1 then none
  else if src = 0 then some (b (drvCarrierFreq d))
  else if b (drvEnable (src - 1)) = 1 then some (b (drvCarrierFreq (src - 1))) else none

/-- R70 and R71. -/
def checkLocks (b : Bank) : Option Fail :=
  let bad := fun (n key : Nat) => ({ st := 0x0301, kind := 7, item := n, key := some key } : Fail)
  firstFail (List.range 7) (fun n => failIf (b (clLockSource n) != 0) (bad n (clLockSource n))) <|>
  firstFail (clustersAll.filter (fun n => b (clWindowMode n) == 1)) (fun n =>
    let src := b (clLockSource n)
    let f := if src = 0 then (if b (clSyncEnable n) = 1 then some (b (clSyncFreq n)) else none) else carrierIn b (src - 1)
    match f with
    | none => some (bad n (clLockSource n))
    | some f =>
      let w := b (clLockPeriods n) * 1000000000
      failIf (decide (w < 500 * f ∨ 1024000 * f < w)) (bad n (clLockPeriods n)))

/-- R176: how many devices PEER_SPEED serves. -/
def peerLimit (speed : Nat) : Nat := if speed = 100 then 2 else if speed = 400 then 8 else 16

/-- R176 and the range of SPAN_MAP (Table 6-10); an EXPECTED_MAP of 0 means this device alone (Table 6-9). -/
def checkTrestle (b : Bank) (devid : Nat) : Option Fail :=
  let e := if b treExpectedMap = 0 then 2 ^ devid else b treExpectedMap
  failIf (decide (peerLimit (b peerPeerSpeed) < popCount (b treExpectedMap))) (valueFail treExpectedMap) <|>
  firstFail (List.range 4) (fun n =>
    let m := b (treGrpSpanMap n)
    let mine := partitions.any (fun p => isDefined b p && b (partStepGroup p) == n && holds b p)
    failIf ((m &&& e) != m || (mine && !bitOf m devid)) { st := 0x0301, kind := 6, item := n, key := some (treGrpSpanMap n) })

/-- R221. -/
def checkDemand (b : Bank) : Option Fail :=
  failIf (b ledDemandInterval == 0 || 3600 % b ledDemandInterval != 0) (valueFail ledDemandInterval)

/-- A setpoint lies in the guard band of a channel in a bank (R235). -/
def guardIn (b : Bank) (c v : Nat) : Bool :=
  let g := b mgnGuard
  let x := v * 4294967296
  let u := b (chDivider c) * 2400000
  decide ((64 * b (chLowerCode c) + g) * u ≤ x ∧ x + g * u ≤ 64 * b (chUpperCode c) * u)

/-- R235: a HELD_SETPOINT that is given lies in the guard band. -/
def checkHeld (b : Bank) : Option Fail :=
  firstFail ((usedChans b).filter (fun c => b (chKind c) == 1 && b (heldHeldSetpoint c) != 0)) (fun c =>
    failIf (!guardIn b c (b (heldHeldSetpoint c))) { st := 0x0301, kind := 1, item := c, key := some (heldHeldSetpoint c) })

/-- A channel with a sweep or a static margin. -/
def State.margined (s : State) (c : Nat) : Bool :=
  (s.chan c).marginSet.isSome || (s.chan c).staticMgn || partitions.any (fun p => (s.part p).bench.phase.runs && (s.part p).bench.chan == c)

/-- What a commit may not change of a margined channel (Table 8-4). -/
def State.marginKeys (s : State) (c : Nat) : List Nat :=
  let t := s.act (chTrimId c)
  [chDivider c, chUpperCode c, chLowerCode c, chTrimKind c, chTrimId c] ++
  (if s.act (chTrimKind c) = 1 then [trmRtop t, trmCodeMin t, trmCodeMax t, trmSlewLimit t, trmKi t]
   else
    let n := tgtPort (s.act (tgtEntry t))
    [psTrimPmbusPeriod n, psTrimPmbusStepMax n, tgtEntry t])

/-- R242, Table 8-4. -/
def State.checkMargins (s : State) (b : Bank) : Option Fail :=
  firstFail (allChans.filter s.margined) (fun c =>
    ((s.marginKeys c).find? (fun k => s.act k != b k)).map (fun k => { st := 0x0401, kind := 1, item := c, key := some k }))

/-- CODE_MIN is not above CODE_MAX (objects of R243). -/
def checkCodes (b : Bank) : Option Fail :=
  firstFail (List.range 128) (fun t => failIf (decide (toSigned 16 (b (trmCodeMax t)) < toSigned 16 (b (trmCodeMin t))))
    { st := 0x0301, kind := 8, item := t, key := some (trmCodeMin t) })

/-- R267, R273 and the ID field of a neighbour (Table 10-7). -/
def checkThermal (b : Bank) (devid : Nat) : Option Fail :=
  let v := fun (k : Nat) => toSigned 16 (b k)
  let gap : Int := 2 * b thHysteresis
  let l := [(thColdInhibit, thColdWarn), (thColdWarn, thHotWarn), (thHotWarn, thHotRelief), (thHotRelief, thHotShut)]
  (l.findSome? (fun (x, y) => failIf (decide (v y ≤ v x ∨ v y < v x + gap)) (valueFail y))) <|>
  failIf ((List.range 4).any (fun d => bitOf (b thBoostMap) d && b (drvPartition d) != 0)) (valueFail thBoostMap) <|>
  failIf (bitOf (b thReliefMap) 0) (valueFail thReliefMap) <|>
  firstFail (List.range 8) (fun i =>
    let w := b (thnNeighbour i)
    let id := field w 16 8
    failIf ((field w 30 2 == 1 && (decide (15 < id) || id == devid)) || (field w 30 2 == 2 && tgtPart (b (tgtEntry id)) != 0))
      (valueFail (thnNeighbour i)))

/-- R375. -/
def checkStreams (b : Bank) : Option Fail :=
  firstFail ((List.range 32).filter (fun k => b (strEnable k) == 1)) (fun k =>
    firstFail (allChans.filter (bitOf (b (strChannels k)))) (fun c =>
      failIf (b (chKind c) == 0 || b (chPartition c) != b (strPartition k)) { st := 0x0301, kind := 1, item := c, key := some (strChannels k) }) <|>
    failIf (b (strDestination k) == 2 && (b t1sEnable != 1 || !bitOf (b t1sTelemMcast) 40)) (valueFail (strDestination k)))

/-- An ADDRESS that no target entry may have (R386). -/
def badAddress (a : Nat) : Bool := decide (a ≤ 7 ∨ a = 0x0C ∨ 0x78 ≤ a)
def tgtPec (w : Nat) : Bool := bitOf w 27

/-- R386. -/
def checkTargets (b : Bank) : Option Fail :=
  let on := allEns.filter (fun e => tgtOn (b (tgtEntry e)))
  let off := fun (e : Nat) => !tgtOn (b (tgtEntry e))
  firstFail ((usedChans b).filter (fun c => b (chTrimKind c) == 2)) (fun c =>
    failIf (off (b (chTrimId c))) { st := 0x0301, kind := 1, item := c, key := some (chTrimId c) }) <|>
  firstEntry b (fun _ e =>
    failIf (aeType (b (actEntry e)) == 7 && off (aeTarget (b (actEntry e)))) { st := 0x0301, kind := 3, item := e, key := some (actEntry e) }) <|>
  firstFail (List.range 8) (fun i =>
    failIf (field (b (thnNeighbour i)) 30 2 == 2 && off (field (b (thnNeighbour i)) 16 8)) (valueFail (thnNeighbour i))) <|>
  firstFail on (fun e =>
    let w := b (tgtEntry e)
    failIf (badAddress (tgtAddress w) || b (psEnable (tgtPort w)) != 1 || on.any (fun d => decide (d < e) && samePage (b (tgtEntry d)) w))
      (valueFail (tgtEntry e)))

/-- The position read fits its period (R434). -/
def readFits (b : Bank) (d : Nat) : Bool :=
  match carrierIn b d with
  | none => true
  | some f =>
    let n := b (drvPosBits d) + b (drvPosStatusBits d) + (if b (drvPosParity d) = 0 then 0 else 1)
    let clk := b (drvPosClk d)
    decide ((n + 1) * f * 1000000 + 20 * clk * f ≤ b (drvPosPeriod d) * clk * 1000000)

/-- R434 and R439. -/
def checkDrives (b : Bank) : Option Fail :=
  let on := (List.range 4).filter (fun d => b (drvEnable d) == 1)
  let cur := fun (d : Nat) => ((List.range 4).map (fun i => (i, b (drvCur d i)))).filter (fun x => x.2 != 65535)
  firstFail on (fun d => failIf (!readFits b d) (valueFail (drvPosPeriod d))) <|>
  firstFail on (fun d => (cur d).findSome? (fun (i, c) =>
    failIf (decide (c < 448 ∨ 511 < c) || b (chKind c) != 3 || b (chPartition c) != b (drvPartition d) ||
        on.any (fun e => e != d && (cur e).any (fun x => x.2 == c)))
      { st := 0x0301, kind := 1, item := c, key := some (drvCur d i) })) <|>
  firstFail on (fun d =>
    let src := b (drvCarrierSource d)
    failIf (src != 0 && (src - 1 == d || b (drvEnable (src - 1)) != 1 || b (drvCarrierSource (src - 1)) != 0)) (valueFail (drvCarrierSource d))) <|>
  firstFail (on.filter (fun d => b (drvCtrlMode d) != 1)) (fun d =>
    let l := b (clLockSource 7)
    failIf (b (clWindowMode 7) != 1 || (l != d + 1 && (l == 0 || l != b (drvCarrierSource d)))) (valueFail (drvCtrlMode d))) <|>
  firstFail ((List.range 4).filter (bitOf (b thBoostMap))) (fun d => failIf (b (drvCtrlMode d) != 3) (valueFail (drvCtrlMode d)))

/-- Every check that belongs to no table of rules, in the order of the chapters. -/
def State.checkOthers (s : State) (b : Bank) : Option Fail :=
  checkRings b <|> checkTrimIds b <|> checkLocks b <|> checkTrestle b s.supply.devid <|> checkOwners b <|> checkDemand b <|> checkHeld b <|> s.checkMargins b <|> checkCodes b <|>
  checkThermal b s.supply.devid <|> checkStreams b <|> checkTargets b <|> checkDrives b

/-- The checks of the check phase before the fault-fabric test, in the order of R16. -/
def State.checkAll (s : State) (b : Bank) : Option Fail :=
  s.checkClasses b <|> s.checkWindows b <|> checkBinding b <|> checkSequence b <|> checkPlacement b s.supply.devid <|> s.checkOthers b

/-! ### Withholding (R335) -/

/-- The item that a KIND and number name. -/
def failItem (kind n : Nat) : Item :=
  match kind with
  | 1 => .chan n
  | 2 => .en n
  | 3 => .entry n
  | 4 => .cap n
  | 5 => .part n
  | 6 => .group n
  | 7 => .cluster n
  | 8 => .trim n
  | _ => .device

/-- LAST_REPORT of partition p: the report, or its last four fields withheld. -/
def Fail.withheld (x : Fail) (b : Bank) (p : Nat) : Nat :=
  let itemOk := x.kind == 0 || reportable b p (failItem x.kind x.item)
  let keyOk := match x.key with
    | none => true
    | some k => reportable b p (itemOf k)
  if itemOk && keyOk then x.word else x.st * 2 ^ 48 + x.rule * 2 ^ 40 + 15 * 2 ^ 36 + 0xFFF * 2 ^ 24

end Sys2Proof.Machine
end

