-- ==== Sys2Proof/Machine/Log.lean ====
section
/-! DEFINITION. The first-fault log (R244 to R262): the merge of latch entries into a drawer, its staging, its commit to the ring and
read-back, the erase commands, and reading and verifying. -/
namespace Sys2Proof.Machine

open Host

/-- The ASCII bytes of a label. -/
def ascii (l : String) : Bytes := l.toList.map (fun c => BitVec.ofNat 8 c.toNat)

/-- The drawer key: derived from the device unique key under the label DRAWER, with SERIAL as context (R450). -/
def drawerKey : BitVec 128 := Config.kdf Config.deviceKey (ascii "DRAWER") (leBytes 8 Config.serial.toNat)

/-- The 64 most significant bits of a CMAC (R250). -/
def tag64 (key : BitVec 128) (m : Bytes) : Nat := (Config.cmac key m).toNat / 18446744073709551616

/-- Bytes 0 to 119 of a drawer (Table 9-1). -/
def drawerBody (d : Drawer) (devid : Nat) : Bytes :=
  [0xD7, 0x01, 0x00, 0x00] ++ leBytes 4 d.seq ++ leBytes 1 d.kind ++ leBytes 1 d.part ++ leBytes 1 d.cause ++ leBytes 1 d.flags ++
  leBytes 8 d.firstTick ++ leBytes 8 d.trestle ++ leBytes 2 d.firstChan ++ leBytes 1 d.firstSide ++ leBytes 1 d.clusters ++
  leBytes 2 d.later ++ leBytes 1 devid ++ leBytes 1 (64 * (d.shelf % 4) + 8 * (d.retries % 8)) ++ leBytes 4 d.rtc ++
  leBytes 64 d.coFault ++ leBytes 4 d.profile ++ leBytes 2 d.coCount ++ leBytes 2 d.stageDelay ++ leBytes 4 d.age ++
  leBytes 2 d.result ++ leBytes 2 d.temp

/-- The 128 bytes of a drawer: the body and its tag (R250, R251). -/
def drawerBytes (d : Drawer) (devid : Nat) : Bytes :=
  let m := drawerBody d devid
  m ++ leBytes 8 (tag64 drawerKey m)

/-! ### Slots of the ring (R256) -/

/-- The address of drawer n. -/
def slotAddr (n : Nat) : Nat := 0x600000 + 128 * n
/-- The flash sector of drawer sector k. -/
def drawerSector (k : Nat) : Nat := 0x600 + k

def State.slotStatus (s : State) (n : Nat) : Nat := s.readStatus (slotAddr n) 128
/-- A slot is occupied unless it reads all 0xFF; a TORN slot is occupied (R256). -/
def State.occupied (s : State) (n : Nat) : Bool := s.slotStatus n != 1 && s.slotStatus n != 5
/-- A slot that a drawer can be programmed into: free, and its page not sealed (R412). -/
def State.slotFreeAt (s : State) (n : Nat) : Bool := s.slotStatus n == 1 && !s.pageSealed (slotAddr n)
def slots : List Nat := List.range 512
/-- Drawer sector k holds a drawer. -/
def State.sectorHolds (s : State) (k : Nat) : Bool := (List.range 32).any (fun i => s.occupied (32 * k + i))

def State.latched (s : State) : Bool := s.act logMode == 1

/-- The slots from the write position on, in the order of the ring. -/
def State.ringOrder (s : State) : List Nat := slots.map (fun i => (s.log.writePos + i) % 512)

/-- The WRAP writer passes slot n: in its own sector, in an empty one, and in a FAILED one, which it passes over as if it were full; it waits
at a sector that is under erase or still holds drawers (R256, R257, R415). -/
def State.slotGoes (s : State) (n : Nat) : Bool :=
  let here := (s.log.writePos + 511) % 512 / 32
  let x := s.sector (drawerSector (n / 32))
  x.failed || (!x.open_ && (n / 32 == here || n / 32 == s.log.writePos / 32 && !s.occupied n || !s.sectorHolds (n / 32)))

/-- The next free slot: in LATCHED mode the first one of the ring, in WRAP mode the first one up to the sector at which the writer waits. -/
def State.nextSlot (s : State) : Option Nat :=
  if s.latched then s.ringOrder.find? s.slotFreeAt
  else (s.ringOrder.takeWhile s.slotGoes).find? s.slotFreeAt

/-- The drawer sector at which the WRAP writer waits. -/
def State.sectorInWay (s : State) : Option Nat :=
  if s.latched then none else (s.ringOrder.find? (fun n => !s.slotGoes n)).map (fun n => n / 32)

/-- SEQ of the drawer in slot n, where its first granule reads VALID. -/
def State.seqAt (s : State) (n : Nat) : Option Nat :=
  if s.granuleStatus (slotAddr n / 16) = 0 then some (leNat (s.cells (slotAddr n + 4) 4)) else none
/-- PARTITION of the drawer in slot n, where its first granule reads VALID. -/
def State.partAt (s : State) (n : Nat) : Nat := if (s.seqAt n).isSome then (s.cell (slotAddr n + 9)).toNat else 255

/-- The slots whose SEQ reads, of all drawers or of one partition's. -/
def State.seqSlots (s : State) (p : Option Nat) : List (Nat × Nat) :=
  slots.filterMap (fun n => match s.seqAt n with
    | none => none
    | some q => if p.all (fun k => s.partAt n == k) then some (n, q) else none)

/-- The newest of some drawers in the order of SEQ (modulo 2^32). -/
def newest (l : List (Nat × Nat)) : Option (Nat × Nat) :=
  l.foldl (fun b e => match b with
    | none => some e
    | some x => if atOrAfter e.2 x.2 then some e else some x) none
/-- The oldest of some drawers in the order of SEQ. -/
def oldest (l : List (Nat × Nat)) : Option (Nat × Nat) :=
  l.foldl (fun b e => match b with
    | none => some e
    | some x => if atOrAfter x.2 e.2 then some e else some x) none

/-- LAST_SEQ of the log status. -/
def State.lastSeq (s : State) : Nat := ((newest (s.seqSlots none)).map (fun e => e.2)).getD 0
/-- OCCUPIED of the log status. -/
def State.occupiedCount (s : State) : Nat := (slots.filter s.occupied).length

/-! ### Staging (R252, R253, R258) -/

/-- A drawer of LATCHED mode is discarded when no free slot remains (R258). -/
def State.overflow (s : State) (p : Nat) : State :=
  let s := s.bump16 logsOverflowCount
  let s := if p < 16 then s.bump16 (logpPOverflow p) else s
  if s.log.latchRaised then s
  else { s with log := { s.log with latchRaised := true } }.raise 12 0x5E 255 false [2]

/-- A drawer that finds staging full is discarded; the staged ones are kept and marked STAGE_FULL_SEEN (R252). -/
def State.stageFull (s : State) (p : Nat) : State :=
  let s := s.bump16 logsStageOverflow
  let s := if p < 16 then s.bump16 (logpPOverflow p) else s
  let raised := s.log.fullRaised
  let s := { s with log := { s.log with fullRaised := true, staged := s.log.staged.map (fun d => { d with flags := d.flags ||| 32 }) } }
  if raised then s else s.raise 9 0x5F 255

/-- Stage a drawer at the end of the list, with the next SEQ. -/
def State.stageLast (s : State) (d : Drawer) : State :=
  let d := { d with seq := s.log.nextSeq % 4294967296, stagedAt := s.now, flags := d.flags ||| bitIf (!s.commitRuns) 4 }
  { s with log := { s.log with staged := s.log.staged ++ [d], nextSeq := (s.log.nextSeq + 1) % 4294967296 } }

/-- A drawer that gives up its SEQ stays staged, with the next one (R261). -/
def State.stageAfter (s : State) (u : Drawer) : State :=
  { s with log := { s.log with staged := s.log.staged ++ [{ u with seq := s.log.nextSeq }], nextSeq := (s.log.nextSeq + 1) % 4294967296 } }

/-- Stage a drawer: it takes the next SEQ (R252, R258). The drawer of a debug unlock of the same tick as a partition event takes the higher
SEQ (Table 9-5): one that is staged last gives its own to the FAULT drawer. -/
def State.stage (s : State) (d : Drawer) : State :=
  if s.latched && !slots.any s.slotFreeAt then s.overflow d.part
  else if 32 ≤ s.log.staged.length then s.stageFull d.part
  else match s.log.staged.getLast? with
    | some u =>
      if d.kind = 1 ∧ u.kind = 2 ∧ u.firstTick = d.firstTick ∧ s.log.writing.all (fun w => w.2.seq != u.seq) then
        (({ s with log := { s.log with staged := s.log.staged.dropLast, nextSeq := u.seq } }).stageLast d).stageAfter u
      else s.stageLast d
    | none => s.stageLast d

/-! ### The merge (R246 to R248) -/

/-- An entry after its merge window counts as late, and marks the drawer of its event while that is staged (R248). -/
def State.lateEntry (s : State) (p : Nat) : State :=
  let s := s.bump16 logsLateEntryCount
  { s with log := { s.log with staged := s.log.staged.map (fun d =>
      if (s.part p).evSeq = some d.seq then { d with flags := d.flags ||| 64 } else d) } }

/-- The merge window of partition p has ended: an entry of its last tick was still in it (Table 9-5). -/
def State.mergeOver (s : State) (p : Nat) : Bool := (s.part p).merge.any (fun m => decide (m.openedAt + 100 < s.now))

/-- The stamp of the open event of partition p whose drawer is still to be staged. -/
def State.eventStamp (s : State) (p : Nat) : Option Nat :=
  let x := s.part p
  if x.eventOpen && !x.merged && !x.hutchStage then some (s.earliest p (x.cutTick.getD 0)) else none

/-- A lower partition's event with the stamp of partition p's is still to be staged: its drawer comes first (R261). -/
def State.stampedBefore (s : State) (p : Nat) : Bool := (List.range p).any (fun q => (s.eventStamp q).isSome && s.eventStamp q == s.eventStamp p)

/-- Stage the drawer of the open event of partition p, which then knows its SEQ if it was not discarded. -/
def State.mergeEnd (s : State) (p : Nat) : State :=
  match (s.part p).merge with
  | none => s
  | some m =>
    let d := s.mergeEntries p m.clusters
    let d := { d with stageDelay := (s.now - d.firstTick) % 65536, flags := d.flags ||| bitIf m.late 6 }
    let n := s.log.staged.length
    let s := (s.setPart p { s.part p with merge := none, merged := true }).stage d
    if s.log.staged.length ≤ n then s
    else s.setPart p { s.part p with evSeq := ((s.log.staged.filter (fun x => x.part == p && x.kind == 1)).getLast?).map (fun x => x.seq) }

/-- LATCH_ENTRY_ARRIVE (R246, R248): a set entry reaches the Hutch, once; it opens the merge window of the open event, joins it, or is late,
also while the drawer still waits for that of a lower partition (R261). The Hutch merges no entry of an event whose drawer it stages itself
(R245). -/
def execLatchEntryArrive (p : Fin 16) (n : Fin 8) (s : State) : Outcome State Fault Refusal :=
  let l := s.latch n p
  if !l.isSet || l.arrived || s.stalled.contains 9 then ok s
  else
    let s := s.setLatch n p { l with arrived := true }
    let closed := s.mergeOver p
    let s := if closed && !s.stampedBefore p then s.mergeEnd p else s
    let x := s.part p
    if !x.eventOpen || x.hutchStage then ok s
    else match x.merge with
      | some m =>
        if closed then ok ((s.setPart p { x with merge := some { m with late := true } }).bump16 logsLateEntryCount)
        else ok (s.setPart p { x with merge := some { m with clusters := m.clusters ++ [n.val] } })
      | none => if x.merged then ok (s.lateEntry p) else ok (s.setPart p { x with merge := some { openedAt := s.now, clusters := [n.val] } })

/-- The drawers of partition p's events that were left, whose windows have ended, are staged (R244). -/
def State.closingEnd (s : State) (p : Nat) : State :=
  let l := s.log.closing.filter (fun e => e.2.part == p && decide (e.1 + 100 < s.now))
  let s := { s with log := { s.log with closing := s.log.closing.filter (fun e => !(e.2.part == p && decide (e.1 + 100 < s.now))) } }
  l.foldl (fun s e => s.stage { e.2 with stageDelay := (s.now - e.2.firstTick) % 65536 }) s

/-- MERGE_WINDOW_END (R246): 1 µs after the first entry, the drawer content is frozen and staged. Of events with equal stamps the lower
partition's drawer comes first (R261). -/
def execMergeWindowEnd (p : Fin 16) (s : State) : Outcome State Fault Refusal :=
  let s := s.closingEnd p
  if s.mergeOver p && !s.stampedBefore p then ok (s.mergeEnd p) else ok s

/-- The drawer that the Hutch stages itself at a long press (R245), from what it records of the device: no cluster entry takes part. -/
def State.hutchDrawer (s : State) (p : Nat) (snap : Drawer) : State :=
  s.stage { snap with
    part := p, cause := 5, firstTick := s.now, trestle := (s.now + s.trestle.offset.toNat) % 18446744073709551616,
    age := 4294967295 }

/-- A drawer of KIND 0x02 or 0x03, stamped with device time (Table 9-1). -/
def State.kindDrawer (s : State) (kind : Nat) : Drawer :=
  { s.drawerSnap 255 with kind := kind, part := 255, retries := 0, firstTick := s.now,
                          trestle := (s.now + s.trestle.offset.toNat) % 18446744073709551616 }

/-! ### Commit and read-back (R253 to R257) -/

/-- Ask for the erase of a drawer sector, unless that erase runs or waits (Table 16-5: one erase). -/
def State.askRingErase (s : State) (k : Nat) : State :=
  let a := 0x600000 + 4096 * k
  let has := fun (o : NvOp) => o.erase && o.addr == a
  if s.nv.queue.any has || (match s.nv.erase with
    | some o => has o
    | none => false) then s
  else s.nvAsk { why := .ringErase true, erase := true, addr := a }

/-- The write position enters the sector of slot n in WRAP mode: the next sector that has not FAILED is erased if it holds a drawer (R257,
R415). -/
def State.enterSector (s : State) (n : Nat) : State :=
  let k := n / 32
  let next := ((List.range 15).map (fun i => (k + 1 + i) % 16)).find? (fun j => !(s.sector (drawerSector j)).failed)
  match next with
  | some j => if !s.latched && k != (s.log.writePos + 511) % 512 / 32 && s.sectorHolds j then s.askRingErase j else s
  | none => s

/-- COMMITTED_LATE is known to apply when programming begins: the bound of Table 9-3 has passed since staging, or since the halt of an
erase that had to reach its minimum run time (R253). -/
def State.commitLate (s : State) (d : Drawer) : Bool :=
  let from_ := if s.nv.suspended then max d.stagedAt s.nv.haltAt else d.stagedAt
  d.old || decide (from_ + usTicks 200 < s.now)

/-- Begin the program operation of a drawer in slot n. -/
def State.beginDrawer (s : State) (n : Nat) (d : Drawer) (isMarker : Bool) : State :=
  let d := { d with flags := d.flags ||| bitIf (s.commitLate d) 4 }
  let data := drawerBytes d s.devid
  let s := (s.enterSector n).setIntents (granulesOf (slotAddr n) 128)
  { s with nv := { s.nv with program := some { why := .drawer, erase := false, addr := slotAddr n, data := data } },
           log := { s.log with writing := some (n, d), writePos := (n + 1) % 512,
                               marker := if isMarker then some d else s.log.marker,
                               staged := if isMarker then s.log.staged else d :: s.log.staged.drop 1 } }

/-- Whether a staged drawer may be written now: not in the tick in which it was staged; that of a debug unlock not before a drawer of an
event with its stamp (Table 9-5); and one that became staged during ERASE_ALL, or before it when the erase has begun, not before the
marker (R258). -/
def State.drawerGoes (s : State) (d : Drawer) : Bool :=
  decide (d.stagedAt < s.now) && !(d.kind == 2 && partitions.any (fun p => s.eventStamp p == some d.firstTick)) &&
    !(s.log.command == 2 && s.log.left.contains 0 &&
      (atOrAfter d.seq s.log.cmdSnap.seq || s.nv.erase.any (fun o => o.isLogErase && secOf o.addr == drawerSector 0)))

/-- The drawer that is written next, in the order of SEQ (R256): the ERASED marker among the staged ones, but at once in slot 0 at ERASE_ALL
(R258). None crosses from a Hutch whose crossing is isolated (R31). -/
def State.nextDrawer (s : State) : Option (Drawer × Bool) :=
  let first := (s.log.staged.head?).filter (fun d => s.drawerGoes d)
  if s.stalled.contains 9 then none else match s.log.marker with
  | some m => match first with
    | some d => if s.log.command = 2 ∨ atOrAfter d.seq m.seq then some (m, true) else some (d, false)
    | none => some (m, true)
  | none => first.map (fun d => (d, false))

/-- A drawer waits that could be programmed now but for the work of the NV island. -/
def State.drawerWaits (s : State) : Bool := s.nextDrawer.isSome && s.nextSlot.isSome && s.log.writing.isNone

/-- DRAWER_COMMIT (R253): the NV island begins programming the first waiting drawer into the next free slot; a running erase must have been
suspended (R418). In WRAP mode, a drawer that finds a sector with old drawers in its way has that sector erased (R257). -/
def execDrawerCommit (s : State) : Outcome State Fault Refusal :=
  let free := match s.nv.erase with
    | none => true
    | some _ => s.nv.suspended
  if !(s.nvReady && free && s.log.writing.isNone) then ok s
  else match s.nextDrawer with
    | none => ok s
    | some (d, mk) =>
      match s.nextSlot with
      | some n => ok (s.beginDrawer n d mk)
      | none =>
        match s.sectorInWay with
        | some k => if (s.sector (drawerSector k)).open_ then ok s else ok (s.askRingErase k)
        | none => ok s

/-- After the marker of an erase command is committed: ERASE_ALL goes on with sectors 1 to 15, ERASE_OLDEST is complete (R258). -/
def State.markerDone (s : State) : State :=
  let s := { s with log := { s.log with marker := none } }
  if s.log.command = 2 ∧ s.log.left ≠ [] then s.each s.log.left (fun s k => s.askRingErase k)
  else { s with log := { s.log with command := 0 } }

/-- The commit of a drawer is complete: its staged copy is released, with EV 0x5C, and EV 0x5D after the last drawer of an earlier
power-up (R253, R254). -/
def State.drawerDone (s : State) (n : Nat) (d : Drawer) : State :=
  let isMarker := s.log.marker.any (fun (m : Drawer) => m.seq == d.seq && m.kind == 3)
  let s := { s with log := { s.log with
    writing := none, fullRaised := if isMarker then s.log.fullRaised else false,
    staged := if isMarker then s.log.staged else s.log.staged.drop 1,
    oldDone := if d.old then s.log.oldDone + 1 else s.log.oldDone } }
  let s := s.raise 12 0x5C d.part false (two n ++ leBytes 4 d.seq ++ [BitVec.ofNat 8 d.part, BitVec.ofNat 8 d.kind])
  let s := if d.old && !s.log.staged.any (fun (x : Drawer) => x.old) then
      { s with log := { s.log with oldDone := 0 } }.raise 12 0x5D 255 false (two s.log.oldDone)
    else s
  if isMarker then s.markerDone else s

/-- A commit that is not clean: the slot stays as it is, and the drawer will be written again with REWRITTEN (R255). -/
def State.drawerTorn (s : State) (d : Drawer) : State :=
  let again := fun (x : Drawer) => if x.seq = d.seq then { x with flags := x.flags ||| 8 } else x
  let s := { s with log := { s.log with writing := none, marker := s.log.marker.map again, staged := s.log.staged.map again } }
  s.bump16 logsTornCount

/-- DRAWER_READBACK (R255): the program operation of a drawer has ended and is read back with its margin sense, clean or with a TORN or
uncorrectable granule. -/
def execDrawerReadback (found : ReadBack) (s : State) : Outcome State Fault Refusal :=
  match s.log.writing, s.nv.program with
  | some (n, d), some o =>
    let s := { s with nv := { s.nv with program := none } }
    match found with
    | .torn => ok ((s.foundTorn (slotAddr n) 128).drawerTorn d)
    | .whole sense =>
      let s := (s.setMarkers o.addr o.data 8).sensed (slotAddr n) 128 sense
      if s.slotStatus n = 4 then ok (s.drawerTorn d) else ok (s.drawerDone n d)
  | _, _ => ok s

/-! ### Commands (R258, R259) -/

/-- An erase command is accepted; it waits while a firmware update runs (Table 8-4). -/
def State.logEraseAsked (s : State) (cmd : Nat) : State :=
  if s.fwUpdates then { s with waitMaint := s.waitMaint ++ [17 + cmd] }.answer 2 else s.answer 2

/-- A write of COMMAND that erases: refused while the ring is empty, while a command is in progress, and under R419; it waits while a
firmware update runs (Table 8-4). -/
def State.logErase (s : State) (cmd : Nat) : State :=
  if s.occupiedCount = 0 then s.answer 0x0506
  else if s.log.command ≠ 0 ∨ s.waitMaint.contains 18 ∨ s.waitMaint.contains 19 then (s.bump16 maintRefusedCount).answer 0x0401
  else if s.nvStops then s.refuseStopped
  else
    ({ s with log := { s.log with cmdSnap := s.kindDrawer 3 } }).logEraseAsked cmd

/-- The sector that holds the lowest SEQ. -/
def State.oldestSector (s : State) : Nat := (((oldest (s.seqSlots none)).map (fun e => e.1 / 32)).getD
  (((slots.find? s.occupied).getD 0) / 32))

/-- The marker of the erase command takes the next SEQ. -/
def State.markerSeq (s : State) : State :=
  { s with log := { s.log with cmdSnap := { s.log.cmdSnap with seq := s.log.nextSeq % 4294967296 }, nextSeq := (s.log.nextSeq + 1) % 4294967296 } }

/-- The erase of drawer sector k begins: the command that asked for it counts the occupied slots that it erases (CO_COUNT, Table 9-5). -/
def State.countErased (s : State) (k : Nat) : State :=
  if s.log.command = 0 ∨ s.log.left.contains k = false ∨ (s.log.command = 2 ∧ k ≠ 0) then s
  else
    let count := if s.log.command = 2 then s.occupiedCount else ((List.range 32).filter (fun i => s.occupied (32 * k + i))).length
    { s with log := { s.log with erased := count } }

/-- An erase command starts: ERASE_OLDEST erases the sector of the lowest SEQ, ERASE_ALL sector 0 first (R258). The marker of ERASE_ALL takes
its SEQ now, between those of the drawers staged before and after; that of ERASE_OLDEST when it is written, so that SEQ gives the order of the
slots (R256). An erase of that sector which runs already is the command's. -/
def State.logEraseStart (s : State) (cmd : Nat) : State :=
  let k := if cmd = 2 then 0 else s.oldestSector
  let s := { s with log := { s.log with command := cmd, left := if cmd = 2 then List.range 16 else [k], erased := 0 } }
  let s := if cmd = 2 then s.markerSeq else s
  if s.nv.erase.any (fun o => o.isLogErase && secOf o.addr == drawerSector k) then s.countErased k else s.askRingErase k

/-- ERASE_OLDEST (R258). -/
def execEraseOldest (r : Role) (s : State) : Outcome State Fault Refusal :=
  ok (s.item r (isOwner r) true (fun s =>
    let s := s.logErase 1
    if s.status = 2 ∧ s.waitMaint.contains 18 = false then s.logEraseStart 1 else s))

/-- ERASE_ALL (R258). -/
def execEraseAll (r : Role) (s : State) : Outcome State Fault Refusal :=
  ok (s.item r (isOwner r) true (fun s =>
    let s := s.logErase 2
    if s.status = 2 ∧ s.waitMaint.contains 19 = false then s.logEraseStart 2 else s))

/-- The end of the erase of drawer sector k (R257, R258). -/
def State.ringErased (s : State) (k : Nat) (failed : Bool) : State :=
  let s := { s with log := { s.log with latchRaised := false } }
  if s.log.command = 0 ∨ s.log.left.contains k = false then (if failed then s else s.raise 12 0x5E 255 false [1])
  else
    let s := { s with log := { s.log with left := s.log.left.filter (fun x => x != k) } }
    if s.log.command = 1 ∨ k = 0 then
      let s := if s.log.command = 1 then s.markerSeq else s
      let d := { s.log.cmdSnap with coCount := s.log.erased, stagedAt := s.now }
      let s := { s with log := { s.log with marker := some d,
                                            writePos := if s.log.command = 2 && !failed then 0 else s.log.writePos } }
      if failed && s.log.command == 2 then s.each s.log.left (fun s j => s.askRingErase j) else s
    else if s.log.left = [] ∧ s.log.marker = none then { s with log := { s.log with command := 0 } }
    else s

/-! ### Reading (R259, R260) -/

/-- STATUS of drawer n: the flash status, or TAG_FAIL when bytes 0 to 119 do not match the tag (R251). -/
def State.drawerStatus (s : State) (n : Nat) : Nat :=
  let st := s.slotStatus n
  if st = 0 then
    let b := s.cells (slotAddr n) 128
    if tag64 drawerKey (b.take 120) = leNat (b.drop 120) then 0 else 3
  else st

/-- Read drawer n: the margin sense, the counts of STATUS 3 and 4, the record and its READ_STATUS word (R259). -/
def State.readDrawer (s : State) (n : Nat) (x : Sense) : State × Bytes × Nat :=
  let before := s.reg logsDamagedCount
  let s := s.sensed (slotAddr n) 128 x
  let st := s.drawerStatus n
  let s := if st = 3 then s.bump16 logsTagFailCount
    else if st = 4 ∧ s.reg logsDamagedCount = before then s.bump16 logsDamagedCount else s
  let w := resultWord x st
  ({ s with log := { s.log with readStat := tabInsert n w (tabErase s.log.readStat n) } }, s.readBytes (slotAddr n) 128, w)

/-- Whether a role may read drawer n (R260). -/
def State.mayReadDrawer (s : State) (r : Role) (n : Nat) : Bool :=
  match r with
  | .owner => true
  | .service => true
  | .partition p =>
    let st := s.drawerStatus n
    st == 1 || st == 5 || (st == 0 && s.partAt n == p.val)
  | .peer => false

/-- Change an open session. -/
def State.onSession (s : State) (k : Nat) (f : Session → Session) : State :=
  { s with sessions := s.sessions.map (fun e => if e.1 = k then (e.1, f e.2) else e) }

/-- VERIFY_ALL (R259): every occupied slot is read, with its margin sense by address, and each status counted. -/
def execVerifyAll (r : Role) (senses : List (Nat × Sense)) (s : State) : Outcome State Fault Refusal :=
  ok (s.item r (isOwner r) true (fun s =>
    if s.log.command ≠ 0 ∨ s.waitMaint.contains 18 ∨ s.waitMaint.contains 19 then (s.bump16 maintRefusedCount).answer 0x0401
    else if s.nvBad then s.answer 0x0702
    else
      let s := s.each (slots.filter s.occupied) (fun s n =>
        let (t, _, w) := s.readDrawer n ((tabFind senses (slotAddr n)).getD { corrected := 0, weak := 0, uncorrectable := [] })
        if w % 256 = 2 then t.bump16 logsTornCount else t)
      (s.setReg logsLastVerifyTick s.now).answer 0))

/-- READ_STATUS_d: of the session's own read of the drawer when it follows that, else of the latest read of the drawer (Table 9-11). -/
def State.readStatOf (s : State) (x : Session) (d : Nat) : Nat :=
  ((tabFind x.drawStat d).orElse (fun _ => tabFind s.log.readStat d)).getD 1

/-- DRAWER_d (R259): the record; the session keeps its READ_STATUS for the read of it that follows. A drawer that this very read finds damaged is
not for a PARTITION role (R260). -/
def State.drawerRead (s : State) (r : Role) (k d : Nat) (sense : Sense) : State :=
  if s.nvBad then s.answer 0x0702
  else
    let (s, b, w) := s.readDrawer d sense
    if !s.mayReadDrawer r d then s.answer 0x0201
    else (s.onSession k (fun x => { x with drawStat := tabInsert d w (tabErase x.drawStat d) })).give b

/-- DRAWER_READ (R259). -/
def execDrawerRead (r : Role) (k : Nat) (d : Fin 512) (sense : Sense) (s : State) : Outcome State Fault Refusal :=
  ok (s.item r (s.mayReadDrawer r d) true (fun s => s.drawerRead r k d sense))

end Sys2Proof.Machine
end

