-- ==== Sys2Proof/Machine/Reply.lean ====
section
/-! DEFINITION. What the device sends: DAP frames and their tags (R336 to R341), their segments (R345) and carriage on each transport
(R347 to R350, R364, R399), responses with the response cache (R344), and the closing of sessions (R342). -/
namespace Sys2Proof.Machine

/-! ### Sealing a frame -/

/-- FRESH_TX rises by 1 for each frame; it is written to flash whenever it passes a multiple of 65,536 (R341). -/
def KeyX.nextTx (x : KeyX) : KeyX :=
  let n := (x.freshTx + 1) % 4294967296
  { x with freshTx := n, storedTx := if n % 65536 = 0 then n else x.storedTx }

/-- A DAP frame of the device (Table 13-1) under a key: header, payload, tag. Under a key that is erased the tag is a free value (log 3). -/
def State.seal (s : State) (k flags tid : Nat) (payload : Bytes) : State × Bytes :=
  let x := (s.key k).nextTx
  let s := s.storeKey k x
  let m := [0x18#8, BitVec.ofNat 8 s.supply.devid, BitVec.ofNat 8 k, BitVec.ofNat 8 flags] ++ leBytes 2 tid ++ leBytes 2 payload.length ++
    leBytes 4 x.freshTx ++ payload
  match x.key with
  | some key => (s, m ++ leBytes 8 (tag64 key m))
  | none => ({ s with draws := s.draws + 1 }, m ++ leBytes 8 (Config.freeValue s.draws).toNat)

/-! ### Segments (R345) -/

/-- The parts of a frame, n bytes each; an empty frame has one empty part. -/
def chunks (n : Nat) (frame : Bytes) : List Bytes :=
  (List.range (max 1 ((frame.length + n - 1) / n))).map (fun i => (frame.drop (n * i)).take n)

/-- The segments of a frame: TID_LO, SEG_NO and CTRL before each part, LAST in the last one. -/
def segments (n tid : Nat) (frame : Bytes) : List Bytes :=
  let parts := chunks n frame
  parts.zipIdx.map (fun p => [BitVec.ofNat 8 tid, BitVec.ofNat 8 p.2, if p.2 + 1 = parts.length then 0x80#8 else 0#8] ++ p.1)

/-- A string of bytes filled up to a length. -/
def padTo (n : Nat) (b : Byte) (l : Bytes) : Bytes := l ++ List.replicate (n - l.length) b

/-- The next valid CAN FD data length (Table 13-4). -/
def canLen (n : Nat) : Nat := ([8, 12, 16, 20, 24, 32, 48, 64].find? (fun l => decide (n ≤ l))).getD 64

/-! ### The field links -/

/-- Number of a link: 0 CAN0, 1 CAN1, 2 T1S (Table 13-10). -/
def linkNum : Link → Nat
  | .can k => k.val
  | .t1s => 2

/-- ENABLE of a link. -/
def State.linkOn (s : State) : Link → Bool
  | .can k => s.act (canEnable k.val) == 1
  | .t1s => s.act t1sEnable == 1

/-- The pins of a CAN channel lie in the bank VIO_C (Table 19-5); those of T1S in no VIO bank. -/
def State.linkPins (s : State) : Link → Bool
  | .can _ => !s.vioLost.contains 2
  | .t1s => true

/-- A link can carry frames: enabled, its pins supplied, its island up and the reference present (Table 1-4), VCORE in window. -/
def State.linkRuns (s : State) (l : Link) : Bool :=
  s.linkOn l && s.linkPins l && s.supply.vcore && s.refFailAt.isNone && !s.islandBad.contains (14 + linkNum l)

/-- What the device holds of a link. -/
def State.linkX (s : State) (l : Link) : LinkX := tabGet (fun _ => {}) s.downs (linkNum l)

def State.setLink (s : State) (l : Link) (x : LinkX) : State := { s with downs := tabSet (fun _ => {}) s.downs (linkNum l) x }

/-- Put a frame on a link. -/
def State.emit (s : State) (l : Link) (id : Nat) (data : Bytes) (brs : Bool := false) : State :=
  { s with outFrames := s.outFrames ++ [{ link := l, id := id, data := data, brs := brs }] }

/-- Identifier of a DAP frame from the device (Table 13-5). -/
def State.canId (s : State) (k node : Nat) : Nat :=
  s.act (canCanPrefix k) * 2097152 + 1048576 + s.supply.devid * 65536 + node % 256 * 256

/-- Send a DAP frame on a CAN channel: every segment in a frame of its own, the last filled with 0xCC; BRS where the two
bit rates differ (R347, R348). -/
def State.canSend (s : State) (k : Fin 2) (node tid : Nat) (frame : Bytes) : State :=
  if !s.linkRuns (.can k) then s
  else (segments 61 tid frame).foldl (fun s g =>
    (s.emit (.can k) (s.canId k.val node) (padTo (canLen g.length) 0xCC g) (s.act (canNomRate k.val) != s.act (canDataRate k.val))).bump32 (cansTxFrames k.val)) s

/-- Bytes of a number, most significant byte first, as Ethernet carries its header. -/
def beBytes (n v : Nat) : Bytes := (leBytes n v).reverse

/-- An Ethernet frame of the device: destination, own address, the 802.1Q tag when VLAN_ID is not 0, EtherType, and the payload filled up
to 46 bytes (R349, R350). -/
def State.ethFrame (s : State) (dest : Nat) (payload : Bytes) : Bytes :=
  let tag := if s.act t1sVlanId = 0 then [] else beBytes 2 0x8100 ++ beBytes 2 (s.act t1sVlanPcp * 8192 + s.act t1sVlanId)
  beBytes 6 dest ++ beBytes 6 Config.macAddr.toNat ++ tag ++ beBytes 2 (s.act t1sEthertype) ++ padTo 46 0 payload

/-- Wake the T1S link for a frame to send (R357). -/
def State.t1sWake (s : State) : State :=
  if s.t1sSleep then { s with t1sSleep := false }.raise 16 0x73 255 true [3] else s

/-- Send a DAP frame on T1S: a wake-up first while the link sleeps, then its segments (R350, R357). -/
def State.t1sSend (s : State) (mac tid : Nat) (frame : Bytes) : State :=
  if !s.linkRuns .t1s then s
  else (segments 1496 tid frame).foldl (fun s g =>
    (s.emit .t1s 0 (s.ethFrame mac ([1] ++ g))).bump32 t1ssTxFrames) s.t1sWake

/-- Hand a DAP frame to a transport: the field links, the queue of the host link (R364), or the frame queue of a window (R399). -/
def State.handOver (s : State) (tr : Transport) (ep tid : Nat) (event : Bool) (frame : Bytes) : State :=
  match tr with
  | .spi => { s with host := { s.host with out := s.host.out ++ [(event, frame)] } }
  | .can k => s.canSend k ep tid frame
  | .t1s => s.t1sSend ep tid frame
  | .svc w => s.setWindow w.val { s.window w.val with queue := (s.window w.val).queue ++ [(event, frame)] }

/-! ### Responses -/

/-- RESP_CACHE_TIME in ticks. -/
def State.cacheTime (s : State) : Nat := msTicks (s.act dapRespCacheTime)

/-- A request payload followed by its CRC-32 (R399). -/
def withCrc (b : Bytes) : Bytes := b ++ leBytes 4 (crc32 b).toNat

/-- Send a payload under a key to a transport: KEY_ID 17 stands for the service form of SVC, which carries a CRC in place of header and
tag (R399). -/
def State.sendPayload (s : State) (tr : Transport) (ep k flags tid : Nat) (payload : Bytes) : State :=
  if k = 17 then s.handOver tr ep tid false (withCrc payload)
  else
    let (t, f) := s.seal k flags tid payload
    t.handOver tr ep tid (bitOf flags 0) f

/-- Keep a response in the cache of its session: at most 64, none older than RESP_CACHE_TIME (R344). -/
def Session.keep (x : Session) (life now tid : Nat) (request response : Bytes) : Session :=
  let l := x.cache.filter (fun c => decide (now < c.2.2.2 + life)) ++ [(tid, request, response, now)]
  { x with cache := l.drop (l.length - 64) }

/-- Send the response of a session's request, and keep it in the cache. The response of a session that has closed is discarded
(R354). -/
def State.respond (s : State) (k tid : Nat) (request response : Bytes) : State :=
  match tabFind s.sessions k with
  | none => s
  | some x =>
    let s := if x.keyId = 17 then s
             else s.onSession k (fun y => y.keep s.cacheTime s.now tid request response)
    s.sendPayload x.tr x.ep x.keyId 0 tid response

/-! ### What is pending on the host link (R367 to R373, Table 14-4) -/

/-- A stream with destination SPI whose records fill TELEM_IRQ_LEVEL of its ring, or one of which is older than TELEM_IRQ_AGE (R369). -/
def State.streamDue (s : State) (k : Nat) : Bool :=
  let x := s.stream k
  let age := s.act hostTelemIrqAge
  s.act (strEnable k) == 1 && s.act (strDestination k) == 1 && !x.ring.isEmpty &&
    (decide (s.act hostTelemIrqLevel * s.ringRoom k ≤ 100 * x.ring.length) ||
      (age != 0 && x.ring.any (fun (r : Nat × Nat × Nat × Nat) => decide (r.2.2.2 + msTicks age < s.now))))

/-- The conditions as IRQ_MASK and HOST_WAKE_MASK number them: bit 0 response, 1 telemetry, 2 event. RESP_PENDING is set for every DAP frame
that awaits delivery, EVENT_PENDING for an event frame. -/
def State.hostConds (s : State) : Nat :=
  bitIf (!s.host.out.isEmpty) 0 + bitIf ((List.range 32).any s.streamDue) 1 + bitIf (s.host.out.any (fun f => f.1)) 2

/-- WAKE_REASON of conditions: bit 2 response, 1 telemetry, 0 event (Table 14-4). -/
def wakeBits (conds : Nat) : Nat := bitIf (bitOf conds 2) 0 + bitIf (bitOf conds 1) 1 + bitIf (bitOf conds 0) 2

/-- A condition that is present during link sleep or the wake window joins WAKE_REASON (R373). -/
def State.hostNote (s : State) : State :=
  if s.host.sleep || s.host.wakeOpen then
    { s with host := { s.host with wakeReason := s.host.wakeReason ||| wakeBits s.hostConds } }
  else s

/-! ### Sessions (R342) -/

/-- Close the sessions that meet a condition, with all that belongs to them. -/
def State.closeSessions (s : State) (f : Session → Bool) : State :=
  { s with sessions := s.sessions.filter (fun x => !f x.2) }

/-- The transport of a link. -/
def linkTr : Link → Transport
  | .can k => .can k
  | .t1s => .t1s

/-- Close every session of a link, and discard every assembly there (R353, R354). -/
def State.closeLink (s : State) (l : Link) : State :=
  let s := s.closeSessions (fun x => x.tr == linkTr l)
  { s with asms := s.asms.filter (fun a => a.link != l) }

end Sys2Proof.Machine
end

