-- ==== Sys2Proof/Machine/Commit.lean ====
section
/-! DEFINITION. The commit point (R15 to R20, R110, R321 to R325): stage, check, the fault-fabric test, arm and swap as operations over
the state, the queue of commits, and what the swap does in each unit. -/
namespace Sys2Proof.Machine

/-! ### Staging sets (R321, R325) -/

/-- PARTITION of the events of set w: its writer, or 0xFF for OWNER. -/
def writerPart (w : Nat) : Nat := if w = 16 then 255 else w

/-- The requests whose response waits for what has ended take its status (R324). -/
def State.endWaits (s : State) (what st : Nat) : State :=
  { s with waits := s.waits.map (fun (x : Wait) => if x.what = what ∧ x.result.isNone then { x with result := some st } else x) }

/-- Empty every staging set and set DISCARDED (R325): cause 1 a management reset, 2 a switch. The queued commits end with ST 0x0401. What a
management reset causes is raised when it ends. -/
def State.discardSets (s : State) (cause : Nat) : State :=
  let tell := fun (s : State) (code w : Nat) (param : Bytes) =>
    if cause = 1 then { s with later := s.later ++ [(s.now, code, writerPart w, param)] } else s.raise 10 code (writerPart w) false param
  let queued := s.queueC.map (fun x => x.1)
  let s := s.each (List.range 17) (fun s w =>
    let x := s.stageSet w
    let s := s.setStage w { x with entries := [], discarded := true, lastStatus := if queued.contains w then 0x0401 else x.lastStatus }
    if x.entries.isEmpty then s else tell s 3 w [BitVec.ofNat 8 cause])
  let s := queued.foldl (fun s w => (tell s 2 w (two 0x0401)).endWaits w 0x0401) s
  { s with queueC := [] }

/-! ### The fault-fabric test (R110) -/

/-- The lines that a test touches: those of partitions that are DOWN, FAULTED or LOCKED_OUT; before the first commit all of them, else the
ones marked in FABRIC_UNTESTED. -/
def State.testLines (s : State) : List Nat :=
  partitions.filter (fun p => !(s.part p).state.isLive && (!s.committed || bitOf (s.reg fabsFabricUntested) p))

/-- The test of the lines, with its outcome: passed lines are no longer untested; a failed test sets FABRIC_FAULT, holds SAFE_N low and raises
EV 0x1F. -/
def State.fabricTest (s : State) (good : Bool) : State × Bool :=
  let l := s.testLines
  if l.isEmpty then (s, true)
  else if good then
    (s.setReg fabsFabricUntested ((partitions.filter (fun p => bitOf (s.reg fabsFabricUntested) p && !l.contains p)).map (fun p => 2 ^ p)).sum, true)
  else ({ s with fabricFault := true, safeN := false }.raise 9 0x1F 255, false)

/-! ### Stage and check (R16) -/

/-- The shadow banks of a commit: the active banks plus the entries of the set (R322). -/
def State.stageEntries (s : State) (w : Nat) : State :=
  { s with shadow := (s.stageSet w).entries.foldl (fun t e => tabSet dflt t e.1 e.2) s.active }

/-- CHECK_REPORT, its tick, and LAST_REPORT of the set (Table 12-19, R335). -/
def State.checkReport (s : State) (k : CommitKind) (x : Fail) : State :=
  let s := (s.setReg diagCheckReport x.word).setReg diagCheckTick s.now
  match k with
  | .set w =>
    let r := if w < 16 ∧ x.st ≠ 0 then x.withheld s.shad w else x.word
    s.setStage w { s.stageSet w with lastReport := r }
  | _ => s

/-- The check phase on the shadow banks: every check in order, and the fault-fabric test when all others have passed. It answers the
status. -/
def State.checkPhase (s : State) (k : CommitKind) (good : Bool) : State × Nat :=
  match s.checkAll s.shad with
  | some x => (s.checkReport k x, x.st)
  | none =>
    let (t, passed) := s.fabricTest good
    if passed then (t.checkReport k { st := 0 }, 0) else (t.checkReport k { st := 0x0701 }, 0x0701)

/-! ### Arm, refuse -/

/-- Whether every participant can answer READY (R16, R17): no cluster's clock is lost, and the telemetry, drive and two-wire islands run. -/
def State.participantsReady (s : State) : Bool :=
  clustersAll.all (fun n => !(s.cluster n).clockLost) && [11, 13, 18].all (fun d => !s.islandBad.contains d)

/-- Arm a commit (R16): T is COMMIT_LEAD after now. -/
def State.arm (s : State) (k : CommitKind) : State :=
  { s with armed := some { kind := k, tick := s.now + usTicks (s.reg profCommitLead), since := s.now, ready := s.participantsReady },
           switchSt := match k with
             | .switch _ _ => 4
             | _ => s.switchSt }

/-- A commit ends without a swap: LAST_COMMIT_STATUS, and for a set LAST_STATUS, EV 0x02 and the waiting response; for a switch EV 0x55
with the shelf's STATUS after the attempt (R17, R309). -/
def State.commitEnds (s : State) (k : CommitKind) (st : Nat) : State :=
  let s := s.setReg profLastCommitStatus st
  match k with
  | .set w => ((s.setStage w { s.stageSet w with lastStatus := st }).raise 10 2 (writerPart w) false (two st)).endWaits w st
  | .switch n _ =>
    ({ s with switchSt := 0 }.raise 10 0x55 255 false ([BitVec.ofNat 8 n] ++ two st ++ [BitVec.ofNat 8 (s.reg (shelfStatus n))])).endWaits 17 st
  | .powerUp _ => s

/-- Run the commit of a set: stage, check, arm; a refusal leaves the set as it is and drops the shadow content (R16, R322). -/
def State.runCommit (s : State) (w : Nat) (good : Bool) : State :=
  let (t, st) := (s.stageEntries w).checkPhase (.set w) good
  if st = 0 then t.arm (.set w) else { t with shadow := t.active }.commitEnds (.set w) st

/-- The set of the armed commit. -/
def State.armedSet (s : State) : Option Nat :=
  match s.armed with
  | some { kind := .set w, .. } => some w
  | _ => none

/-- The commit of set w is queued, in its stage or check phase, or armed (R323). -/
def State.setBusy (s : State) (w : Nat) : Bool := s.queueC.any (fun x => x.1 == w) || s.armedSet == some w

/-- A stage or check phase is in progress: a commit was requested in this tick (R323). -/
def State.checking (s : State) : Bool :=
  match s.armed with
  | some a => a.since == s.now
  | none => false

/-- Order of the sets in one tick: OWNER, then P0 to P15 (Table 12-5). -/
def setRank (w : Nat) : Nat := if w = 16 then 0 else w + 1

/-- Queue a commit request, in arrival order, and within one tick in the order of the sets. -/
def State.enqueue (s : State) (w : Nat) : State :=
  let stay := fun (x : Nat × Nat) => x.2 != s.now || decide (setRank x.1 < setRank w)
  { s with queueC := s.queueC.takeWhile stay ++ [(w, s.now)] ++ s.queueC.dropWhile stay }

/-- A commit request (R323): refused while the set's own commit is in progress, and while another commit is armed; queued behind another
one in its stage or check phase; else run. An accepted request answers when it ends (ST 0x0002 until then). -/
def State.commitRequest (s : State) (w : Nat) (good : Bool) : State :=
  if s.setBusy w then s.answer 0x0401
  else if s.armed.isSome && !s.checking then s.answer 0x0403
  else if s.armed.isSome || !s.queueC.isEmpty then (s.enqueue w).answer 2
  else
    let t := s.runCommit w good
    if t.armed.isSome then t.answer 2 else t.answer (t.stageSet w).lastStatus

/-- A COMMIT with value 0x02 (R324): the set is emptied without a commit. -/
def State.discardRequest (s : State) (w : Nat) : State :=
  if s.setBusy w then s.answer 0x0401 else (s.setStage w { s.stageSet w with entries := [] }).answer 0

/-- The next queued commit is taken up once no other is in progress (R323). -/
def State.queueStart (s : State) (good : Bool) : State :=
  match s.queueC with
  | [] => s
  | x :: rest => if s.armed.isSome then s else { s with queueC := rest }.runCommit x.1 good

/-! ### The swap in each unit (R18 to R20) -/

/-- Change a table value for each changed key of a list. -/
def changedAny (diff keys : List Nat) : Bool := keys.any (fun k => diff.contains k)

/-- Enables (R46, R132): the output latches take the configured mode and polarity. A discharge enable of a shut-off in progress keeps its
own until its time has passed (R20, R116). -/
def State.swapEnables (s : State) : State :=
  s.each ((List.range 256).filter (fun e => !partitions.any (fun p => (s.part p).dischEns.contains e))) (fun s e => s.modeEn e)

/-- TRM outputs (Table 8-1): unbound outputs are at high impedance, newly bound ones follow their channel. -/
def State.swapTrims (s : State) : State :=
  let bound := (List.range 512).filter (fun c => s.kind c != 0 && s.act (chTrimKind c) == 1)
  let s := s.each ((List.range 128).filter (fun t => !bound.any (fun c => s.act (chTrimId c) == t))) (fun s t => s.setTrim t {})
  s.each (bound.filter (fun c => (s.trim (s.act (chTrimId c))).loop == .hiZ)) (fun s c => s.trimFollow c (s.chan c).state)

/-- Channels: a changed KIND, CUR_SCALE or CUR_OFFSET clears the gap integrator (R98), a changed HELD_SETPOINT is the held setpoint
(R235). -/
def State.swapChans (s : State) (diff : List Nat) : State :=
  let s := s.each ((List.range 512).filter (fun c => changedAny diff [chKind c, chCurScale c, chCurOffset c]))
    (fun s c => s.setChan c { s.chan c with gapClear := true })
  s.each ((List.range 512).filter (fun c => diff.contains (heldHeldSetpoint c))) (fun s c => s.setChan c { s.chan c with held := none })

/-- The SYNCOUTs that a commit changes; at the first commit every enabled one begins (R76, R77). -/
def State.syncChanged (s : State) (diff : List Nat) (first : Bool) : List Nat :=
  clustersAll.filter (fun n =>
    changedAny diff [clSyncFreq n, clSyncPhase n, clSyncEnable n] || (first && s.act (clSyncEnable n) == 1))

/-- One changed SYNCOUT (R77, R98): it is held low after the high phase in progress, given by its end, and restarts at the common origin
T + 10 µs. Its LOCK windows in progress are discarded, the next ones open at the origin, and the gap integrators of the cluster are cleared.
A FREE window in progress ends as it began, and a LOCK window after it waits for the origin; FREE windows after the commit do not wait. By the
model's choice (log 27) a SYNCOUT that the commit disables has no restart, and the gap integrators of a cluster in FREE mode, for whose windows it
is not the source, are not cleared. -/
def State.syncBreak (s : State) (n tail : Nat) : State :=
  let on := s.act (clSyncEnable n) == 1
  let t0 := s.now + usTicks 10
  let s := s.setCluster n { s.cluster n with syncOrigin := none, syncTail := tail, syncRestart := if on then some t0 else none }
  let waits := on && s.act (clWindowMode n) == 1 && s.act (clLockSource n) == 0
  let s := s.each (List.range 8) (fun s g =>
    let r := s.round n g
    let s := if waits then s.setRound n g { r with hold := t0 } else s
    match r.win with
    | some w => if w.lock then (if waits then (s.roundBreak n g t0).lengthen n g 10000 else s.roundBreak n g (s.ctr n)) else s
    | none => if waits then (s.roundBreak n g t0).lengthen n g 10000 else s)
  if s.act (clWindowMode n) = 1 ∧ s.act (clLockSource n) = 0 then
    s.each ((List.range 64).map (fun i => 64 * n + i)) (fun s c => if s.kind c = 0 then s else s.setChan c { s.chan c with gapClear := true })
  else s

def State.swapSync (s : State) (l : List (Nat × Nat)) : State := l.foldl (fun s x => s.syncBreak x.1 x.2) s

/-- The windows that the swap finds in progress complete under the settings with which they began; the others open under the new ones (R73).
At the first commit every round begins (R65). -/
def State.swapRounds (s : State) (l : List (Nat × Nat × Window × Option Window)) (first : Bool) : State :=
  s.each clustersAll (fun s n => s.each (List.range 8) (fun s g =>
    if first then s.setRound n g { opens := s.ctr n } else s.keepWindows n g l))

/-- The warnings of a channel whose KIND changes end (R96). -/
def State.warnKinds (s : State) (diff : List Nat) : State :=
  s.each ((List.range 512).filter (fun c => diff.contains (chKind c))) (fun s c => s.warnClear c false)

/-- Sum of 10^9 / (refresh period in ns) over the channels of a stream, as a fraction; the refresh periods are those of R66 without open-wire
lengthening, not rounded (R377). -/
def State.rateSum (s : State) (k : Nat) : Nat × Nat :=
  (List.range 64).foldl (fun a i =>
    let n := i / 8
    let w := s.windowRatio n
    let r := (s.boundIn n (i % 8)).length * (w.1 + 250 * w.2)
    let m := ((List.range 8).filter (fun j => bitOf (s.act (strChannels k)) (8 * i + j))).length
    if r = 0 ∨ m = 0 then a
    else
      let x := a.1 * r + m * 1000000000 * w.2 * a.2
      let y := a.2 * r
      let g := max 1 (Nat.gcd x y)
      (x / g, y / g)) (0, 1)

/-- SAMPLE_RATE (R377): rounded up to a whole number; 0 when the stream is not enabled. -/
def State.sampleRate (s : State) (k : Nat) : Nat :=
  if s.act (strEnable k) = 0 then 0
  else
    let (x, y) := s.rateSum k
    (x + y * s.act (strFactor k) - 1) / (y * s.act (strFactor k))

/-- Streams (R376, R377, R380): runs of changed streams are discarded; a ring whose ENABLE, DESTINATION or RING_BLOCKS changed is emptied
and its samples counted in LOST; sample rates and pauses are formed anew. -/
def State.swapStreams (s : State) (diff : List Nat) : State :=
  let s := s.each (List.range 32) (fun s k =>
    let x := s.stream k
    if changedAny diff [strEnable k, strDestination k, strRingBlocks k] then
      let n := (x.ring.filter (fun r => decide (r.1 < 16384))).length
      let on := s.act (strEnable k) == 1
      (s.setStream k { runs := [], lostRun := if on then x.lostRun + n else 0, ev75 := on && x.ev75, paused := x.paused }).setReg (strsLost k)
        ((s.reg (strsLost k) + n) % 4294967296)
    else if changedAny diff [strPartition k, strChannels k, strMode k, strFactor k, strPriority k] then s.setStream k { x with runs := [] }
    else s)
  let s := s.each (List.range 32) (fun s k => s.setReg (strsSampleRate k) (s.sampleRate k))
  s.each partitions (fun s p => s.streamPace p)

/-- Twin lanes (R202): EV 0x28 when SHARED_DEVICE becomes set. -/
def sharedPair (b : Bank) (k : Nat) : Bool :=
  b (lanePair k) != 0 && decide (b (partDeviceMap (b (lanePair k) / 16)) &&& b (partDeviceMap (b (lanePair k) % 16)) ≠ 0)

/-- The pair of slot k of a bank stood, shared, in some slot of another. -/
def pairStood (old b : Bank) (k : Nat) : Bool :=
  (List.range 4).any (fun j => sharedPair old j && (old (lanePair j) == b (lanePair k) ||
    old (lanePair j) == b (lanePair k) % 16 * 16 + b (lanePair k) / 16))

def State.swapPairs (s : State) (old : List (Nat × Nat)) (first : Bool) : State :=
  s.each ((List.range 4).filter (fun k => sharedPair s.act k && (first || !pairStood (tabGet dflt old) s.act k)))
    (fun s k => s.raise 10 0x28 255 false [BitVec.ofNat 8 k])

/-- Thermal limits (R267): the dwell count of a changed limit is 0; neighbour entries that changed have no reading. -/
def State.swapThermal (s : State) (diff : List Nat) : State :=
  let z := fun (k : Nat) (l : Limit) => if diff.contains k then { l with count := 0 } else l
  let t := s.thermal
  { s with thermal := { t with
      hotShut := z thHotShut t.hotShut, hotRelief := z thHotRelief t.hotRelief, hotWarn := z thHotWarn t.hotWarn,
      coldInhibit := z thColdInhibit t.coldInhibit, coldWarn := z thColdWarn t.coldWarn,
      neighbours := t.neighbours.filter (fun x => !diff.contains (thnNeighbour x.1)) } }

/-- The drives whose carrier a commit changes (R427), with the carriers taken from them. -/
def State.carrierChanged (s : State) (diff : List Nat) : List Nat :=
  let own := fun (d : Nat) => changedAny diff [drvEnable d, drvCarrierSource d, drvCarrierPhase d] ||
    (s.act (drvCarrierSource d) == 0 && diff.contains (drvCarrierFreq d))
  (List.range 4).filter (fun d => own d || own (s.carrierOf d))

/-- Drives (R72, R427, R437): a changed carrier restarts at T, with the carries of R428 as they are, which is a stop of it for CL7's LOCK
windows; a fallback ends with the use of
its source; the drives start or stop as their conditions now are. The last carrier period of the lock source before the swap is given in
ps. -/
def State.swapDrives (s : State) (diff : List Nat) (first : Bool) (period : Nat) : State :=
  let l := s.carrierChanged diff
  let s := s.each l (fun s d =>
    let ends := (s.drive d).pulses.map (fun y => y.cutAt (10000 * s.now) (2500 * s.act (drvDeadTime d)))
    s.setDrive d { s.drive d with carrierAt := s.now, begun := 0, pulses := ends, periods := 0 })
  let src := s.act (clLockSource 7)
  let s := if s.act (clWindowMode 7) != 1 || src == 0 || diff.contains (clLockSource 7) then
      s.setCluster 7 { s.cluster 7 with lockFall := false, lockRes := false, lockOpen := none }
    else if !first && l.contains (src - 1) then s.lockFalls period else s
  s.each (List.range 4) (fun s d => s.driveSync d)

/-- Target entries (R388): VOUT_MODE is read again at the first turn of an entry that the commit enables or changes. -/
def State.swapTargets (s : State) (diff : List Nat) : State :=
  s.each ((List.range 256).filter (fun e => diff.contains (tgtEntry e))) (fun s e => s.setEntry e { s.entry e with modeRead := false })

/-- The settings of a link whose change closes its sessions (R353). -/
def linkKeys : Link → List Nat
  | .can k => [canEnable k.val, canNomRate k.val, canDataRate k.val, canNomSp k.val, canDataSp k.val, canCanPrefix k.val]
  | .t1s => [t1sEnable, t1sPlcaEnable, t1sPlcaNodeId, t1sPlcaNodeCount, t1sPlcaToTimer, t1sPlcaMaxBurst, t1sPlcaBurstTimer, t1sEthertype,
             t1sVlanId]

/-- The three field links. -/
def links : List Link := [.can 0, .can 1, .t1s]

/-- Field links (R353): a changed link closes its sessions, its requests are discarded, and it restarts. -/
def State.swapLinks (s : State) (diff : List Nat) : State :=
  (links.filter (fun l => changedAny diff (linkKeys l))).foldl (fun s l =>
    let s := (s.closeLink l).setLink l { heardAt := s.now }
    { s with inbox := s.inbox.filter (fun (x : InReq) => x.req.tr != linkTr l), t1sSleep := s.t1sSleep && l != .t1s }) s

/-- What the first commit of a power-up adds (R282, R285, R291): ACTIVE, the events of the power-up, and the start of the Trestle. -/
def State.powerUpDone (s : State) : State :=
  let u := s.supply
  let s := if u.goalInit then s.each (List.range 4) (fun s n => s.setReg (grpGoal n) (s.act (grpUpGoal n))) else s
  let s := { s with supply := { u with power := .active, faultRaise := 0, goalInit := false },
                    trestle := { s.trestle with firstCommit := some s.now } }
  let s := s.each clustersAll (fun s n => s.setCluster n { s.cluster n with epochAt := s.now })
  let s := s.raise 9 0x50 255 false (if u.reason = 3 then [BitVec.ofNat 8 3, BitVec.ofNat 8 u.wakeSrc] else [BitVec.ofNat 8 u.reason])
  if 0 < u.faultRaise then s.raise 9 0x53 255 false (two (s.reg supVcoreFaultCount) ++ [if u.lockShown then 1 else 0]) else s

/-- At a power-up with the snapshot of a warning and RTC_VALID, the table of the latest schedule entry that matched since the snapshot is
applied (R225); the snapshot is used up. -/
def State.scheduleUp (s : State) : State :=
  let s0 := { s with ledger := { s.ledger with snapshot := none } }
  match s.ledger.snapshot with
  | none => s0
  | some x =>
    if s.act ledScheduleEnable = 1 ∧ s.supply.rtcValid then
      match s.schedLatest x.2.2 s.supply.rtc with
      | some v => s0.tableSwitch v 0
      | none => s0
    else s0

/-- The swap in every unit, from the banks before it. -/
def State.swapUnits (s : State) (old : List (Nat × Nat)) (first : Bool) (syncs : List (Nat × Nat)) (period : Nat) : State :=
  let diff := diffKeys (s.norm old) (s.norm s.active)
  ((((((((s.swapEnables.swapTrims.swapChans diff).swapSync syncs).swapPairs old first).swapThermal diff).swapDrives diff
    first period).swapStreams diff).swapTargets diff).swapLinks diff)

/-- EV 0x56 of a power-up (Table 11-11): the shelf named by PSEL and the fallback, each with its STATUS after the attempt, 0xFF for one that
there is not or that was not tried, and the shelf committed, 0xFF if none. -/
def State.fallbackEvent (s : State) (tried : Bool) (n : Nat) : State :=
  let f := s.reg profFallbackShelf
  s.raise 10 0x56 255 false [BitVec.ofNat 8 s.supply.psel, BitVec.ofNat 8 (s.reg (shelfStatus s.supply.psel)), BitVec.ofNat 8 f,
    BitVec.ofNat 8 (if tried then s.reg (shelfStatus f) else 255), BitVec.ofNat 8 n]

/-- The shelf of a power-up is committed: EV 0x56 when it is not the one named by PSEL (R305). -/
def State.powerUpShelf (s : State) (n : Nat) : State := if n = s.supply.psel then s else s.fallbackEvent true n

/-- What the swap means for the commit that it ends: its set is emptied, or its shelf is the active one (R304, R309, R311, R322). -/
def State.swapEnds (s : State) (a : Armed) (changed : Bool) : State :=
  let load := fun (s : State) (n : Nat) =>
    ((s.setReg profActiveShelf n).setReg profActiveId (s.reg (shelfProfileId n) % 2147483648)).setReg (shelfStatus n) 1
  match a.kind with
  | .set w =>
    let s := if changed then s.setReg profActiveId (s.reg profActiveId % 2147483648 + 2147483648) else s
    let s := s.setStage w { s.stageSet w with entries := [], lastStatus := 0, lastTick := a.tick }
    (s.raise 10 1 (writerPart w) false (leBytes 8 a.tick)).endWaits w 0
  | .switch n pin =>
    let was := s.reg profActiveShelf
    let s := ((load s n).setReg profPselRefused 0).raise 10 0x54 255 false [BitVec.ofNat 8 was, BitVec.ofNat 8 n, if pin then 1 else 0]
    ({ s with switchSt := 0 }).endWaits 17 0
  | .powerUp n => (load s n).powerUpShelf n

/-- The shadow bank becomes the active one (R16); no commit is armed any more. -/
def State.takeShadow (s : State) : State := { s with active := s.shadow, prior := s.active, committed := true, armed := none }

/-- The swap (R16, R18 to R20): at T the shadow bank of every participant becomes active. -/
def State.swap (s : State) (a : Armed) : State :=
  let s := s.hostNote
  let old := s.active
  let first := !s.committed
  let diff := diffKeys (s.norm old) (s.norm s.shadow)
  let syncs := (({ s with active := s.shadow }).syncChanged diff first).map (fun n => (n, s.syncTailAt n))
  let src := s.act (clLockSource 7)
  let period := if src = 0 then 0 else s.carrierPs (src - 1)
  let wins := if first then [] else s.openWindows
  let s := s.warnKinds diff
  let s := s.settleTokens
  let s := if !first && diff.contains ledDemandInterval then s.intervalBreak State.takeShadow else s.takeShadow
  let s := ((s.setReg profLastCommitStatus 0).setReg profLastCommitTick a.tick).bump32 profCommitCount
  let s := (s.swapRounds wins first).swapUnits old first syncs period
  let s := s.swapEnds a (!diff.isEmpty)
  if first then ((s.scheduleUp).intervalStart true).powerUpDone else s

/-- The swap of a commit has begun (R16, R17): every participant has answered READY, and the first of their counters equals T: that of a
cluster whose clock runs, or device time, by which the other participants count. A cluster that has not come to T itself goes on with its
prior bank (`State.lags`); one that lost its clock after it had answered swaps with the others (log 24). -/
def State.swapDue (s : State) (a : Armed) : Bool :=
  a.ready && (decide (a.tick ≤ s.now) || clustersAll.any (fun n => !(s.cluster n).clockLost && decide (a.tick ≤ s.ctr n)))

/-- What is done or stamped at T or later is done after the swap (R19, Table 12-5). -/
def State.swapIfDue (s : State) : State :=
  match s.armed with
  | none => s
  | some a => if s.swapDue a then s.swap a else s

/-- Cluster n has not come to the tick of the latest swap: its prior bank governs it still (R16). -/
def State.lags (s : State) (n : Nat) : Bool := !(s.cluster n).clockLost && decide (s.ctr n < s.reg profLastCommitTick)

/-- What cluster n does and stamps is judged under the bank that governs it: the prior one at a tick before T (R16, R19). The drives, another
participant, follow theirs. -/
def State.inBank (s : State) (n : Nat) (f : State → State) : State :=
  if s.lags n then
    ({ f { s with active := s.prior } with active := s.active }).each (List.range 4) (fun s d => s.driveSync d)
  else f s

end Sys2Proof.Machine
end

