-- ==== Sys2Proof/Machine/Thermal.lean ====
section
/-! DEFINITION. The thermal function (R263 to R278): samples and the decision reading, limits and their effects, drive-first relief, and the
cross-check with neighbours. Readings are in 0.1 °C. -/
namespace Sys2Proof.Machine

open Host

/-! ### Configuration -/

def State.limHotShut (s : State) : Int := toSigned 16 (s.act thHotShut)
def State.limHotRelief (s : State) : Int := toSigned 16 (s.act thHotRelief)
def State.limHotWarn (s : State) : Int := toSigned 16 (s.act thHotWarn)
def State.limColdWarn (s : State) : Int := toSigned 16 (s.act thColdWarn)
def State.limColdInhibit (s : State) : Int := toSigned 16 (s.act thColdInhibit)

/-- Fields of a neighbour entry (Table 10-7). -/
def nbKind (w : Nat) : Nat := field w 30 2
def nbId (w : Nat) : Nat := field w 16 8
def nbOffset (w : Nat) : Int := toSigned 16 (field w 0 16)

/-! ### Neighbours (R274) -/

/-- Whether neighbour k is fresh: declared, and its last successful reading at most 500 ms old. -/
def State.nbFresh (s : State) (k : Nat) : Bool :=
  nbKind (s.act (thnNeighbour k)) != 0 &&
    match tabFind s.thermal.neighbours k with
    | none => false
    | some n => n.fresh && decide (s.now ≤ n.at_ + msTicks 500)

/-- The middle value of a sorted list; of an even number, the mean of the middle two rounded down. -/
def medianOf (l : List Int) : Option Int :=
  let l := l.mergeSort (fun a b => decide (a ≤ b))
  if l.length = 0 then none
  else if l.length % 2 = 1 then l[l.length / 2]?
  else some ((l.getD (l.length / 2 - 1) 0 + l.getD (l.length / 2) 0) / 2)

/-- The median of the fresh neighbours. -/
def State.median (s : State) : Option Int :=
  medianOf ((List.range 8).filterMap (fun k => if s.nbFresh k then (tabFind s.thermal.neighbours k).map (·.reading) else none))

/-! ### Limits (R266 to R269) -/

/-- One sample at a limit: its new state, whether it changed. `crosses` and `leaves` tell whether the reading qualifies. -/
def Limit.sample (l : Limit) (crosses leaves : Bool) : Limit × Bool :=
  let q := if l.inForce then leaves else crosses
  if !q then ({ l with count := 0 }, false)
  else if 2 ≤ l.count then ({ inForce := !l.inForce, count := 0 }, true)
  else ({ l with count := l.count + 1 }, false)

/-- A sample at a hot limit: crossed above it, left at or below it less HYSTERESIS. -/
def Limit.hot (l : Limit) (lim hyst v : Int) : Limit × Bool := l.sample (decide (lim < v)) (decide (v ≤ lim - hyst))
/-- A sample at a cold limit. -/
def Limit.cold (l : Limit) (lim hyst v : Int) : Limit × Bool := l.sample (decide (v < lim)) (decide (lim + hyst ≤ v))

/-- Count a change of a limit's state (R268): more than 8 within 10 s set CHATTER with EV 0x36. -/
def State.limitChange (s : State) : State :=
  let l := s.now :: s.thermal.changes.filter (fun t => decide (s.now < t + sTicks 10))
  let s := (s.bump16 thsChangeCount)
  let was := s.thermal.chatter
  let s := { s with thermal := { s.thermal with changes := l, chatter := was || decide (8 < l.length) } }
  if !was && decide (8 < l.length) then s.raise 10 0x36 255 else s

/-- The partitions that a crossing of HOT_SHUT shuts off (R270): those that were live in this tick, whose shut-off by another cause of the tick
it joins (Table 10-2). -/
def State.hotParts (s : State) : List Nat :=
  partitions.filter (fun p => bitOf (s.act thShutMap) p && ((s.part p).state.isLive || (s.part p).line && s.cutThisTick p))

/-- The reading of a sample at HOT_SHUT (R266, R270): a crossing shuts off with cause 0x04. -/
def State.sampleHotShut (s : State) (v : Int) : State :=
  let (l, ch) := s.thermal.hotShut.hot s.limHotShut (s.act thHysteresis) v
  let s := { s with thermal := { s.thermal with hotShut := l } }
  if !ch then s
  else
    let ps := if l.inForce then s.hotParts else []
    let s := s.each ps (fun s p => s.causeAt p 4 0)
    s.limitChange.raise 1 0x32 255 (!l.inForce) (two (ps.map (fun p => 2 ^ p)).sum)

/-- An event of a limit when it changed. -/
def State.limitEvent (s : State) (ch inForce : Bool) (code : Nat) : State :=
  if ch then s.limitChange.raise 10 code 255 (!inForce) else s

/-- Whether the decision reading lies within 5.0 °C of any limit: that of HOT_SHUT is its own (R264, R265). -/
def State.nearLimit (s : State) (v hot : Int) : Bool :=
  [(v, s.limHotRelief), (v, s.limHotWarn), (v, s.limColdWarn), (v, s.limColdInhibit), (hot, s.limHotShut)].any
    (fun l => decide ((l.1 - l.2).natAbs ≤ 50))

/-! ### Drive-first relief (R272) -/

/-- The drives of BOOST_MAP. -/
def State.boostDrives (s : State) : List Nat := (List.range 4).filter (bitOf (s.act thBoostMap))

/-- A drive counts as running (R272): enabled, its owner not FAULTED or LOCKED_OUT, measured speed above 0, and its island up. -/
def State.pumpRuns (s : State) (d : Nat) : Bool :=
  s.act (drvEnable d) == 1 && !(s.part (s.act (drvPartition d))).state.isFaulted && s.reg (drvsSpeed d) != 0 && !s.islandBad.contains 13

/-- Apply or remove the boost, with EV 0x37. -/
def State.setBoost (s : State) (b : Bool) : State :=
  let s := { s with thermal := { s.thermal with boost := b, tBoost := if b then s.now else s.thermal.tBoost } }
  s.raise 10 0x37 255 (!b)

/-- Raise the thermal request once the boost has had DRIVE_WAIT, or at once when no drive of BOOST_MAP runs. -/
def State.askRelief (s : State) : State :=
  if !s.thermal.request && (s.passed s.thermal.tBoost (msTicks (s.act thDriveWait)) || !s.boostDrives.any s.pumpRuns) then
    { s with thermal := { s.thermal with request := true } }
  else s

/-- The procedure thermal_relief of R272. -/
def State.thermalRelief (s : State) : State :=
  if s.thermal.hotRelief.inForce || s.thermal.hotShut.inForce then
    (if s.thermal.boost then s else s.setBoost true).askRelief
  else
    let s := { s with thermal := { s.thermal with request := false } }
    if s.thermal.boost && !s.thermal.hotWarn.inForce then s.setBoost false else s

/-- The reading of a sample at the other limits; the effects of the changes come in the order of R269. -/
def State.sampleOthers (s : State) (v : Int) : State :=
  let h : Int := s.act thHysteresis
  let t := s.thermal
  let (r, rc) := t.hotRelief.hot s.limHotRelief h v
  let (w, wc) := t.hotWarn.hot s.limHotWarn h v
  let (i, ic) := t.coldInhibit.cold s.limColdInhibit h v
  let (c, cc) := t.coldWarn.cold s.limColdWarn h v
  let s := { s with thermal := { t with hotRelief := r, hotWarn := w, coldInhibit := i, coldWarn := c } }
  let s := ((s.limitEvent rc r.inForce 0x31).thermalRelief.limitEvent wc w.inForce 0x30).limitEvent ic i.inForce 0x34
  (if i.inForce then s.holdDrawers else s).limitEvent cc c.inForce 0x33

/-! ### Samples (R263 to R265) -/

/-- The decision reading for every limit but HOT_SHUT, and whether SUSPECT finds no neighbour (R265). -/
def State.decisionReading (s : State) (own : Int) : Int × Bool :=
  if !s.thermal.suspect then (own, false)
  else match s.median with
    | some m => (m, false)
    | none => (own, true)

/-- One diode sample. While the management plane is down only HOT_SHUT is compared (R277). -/
def State.sample (s : State) (own : Int) : State :=
  let (v, lone) := s.decisionReading own
  let hot := if s.thermal.suspect then max own (s.thermal.medianHold.getD own) else own
  let first := s.reg thsMaxTemp == 0x8000
  let s := s.setReg thsMaxTemp (ofSigned 16 (if first then own else max own (toSigned 16 (s.reg thsMaxTemp))))
  let s := s.setReg thsMinTemp (ofSigned 16 (if first then own else min own (toSigned 16 (s.reg thsMinTemp))))
  let s := s.setReg thsSampleTick (s.ctr 0)
  let s := { s with thermal := { s.thermal with
    own := some own, decision := some v, noNeighbour := lone, noSample := false, sampleAt := some s.now, lastOwnAt := s.now,
    fast := s.nearLimit v hot } }
  let s := s.sampleHotShut hot
  if s.mgmtDown then s else s.sampleOthers v

/-- Whether a slice can read the diode: the spare, or the slice of group 0 of CL0 (R263). -/
def State.diodeReads (s : State) : Bool :=
  !(s.cluster 0).clockLost && ((s.spare 0).isSome || (((s.cluster 0).sliceMap[0]?).join).isSome) &&
    (s.supply.power == .starting || s.supply.power == .active)

/-- A reading of the diode ends: it has held the spare, which then joins the windows that open later (R90), or, with no spare, the slice of
group 0 of CL0 for 32.25 µs (R66, R263). -/
def State.diodeTaken (s : State) : State :=
  if (s.spare 0).isSome then s.setCluster 0 { s.cluster 0 with spareBusy := s.ctr 0 }
  else
    let r := s.round 0 0
    (s.setRound 0 0 { r with opens := max (r.opens + 3225) (s.ctr 0) }).lengthen 0 0 32250

/-- THERMAL_SAMPLE (R264): every 10 ms, or every 1 ms while FAST is set; own is the diode reading in 0.1 °C. It is judged on the limits of the
bank that CL0 is in (Table 10-2). -/
def execThermalSample (own : Int) (s : State) : Outcome State Fault Refusal :=
  let due : Bool := match s.thermal.sampleAt with
    | none => true
    | some t => s.passed t (msTicks (if s.thermal.fast then 1 else 10))
  if s.diodeReads && due then ok (s.swapIfDue.inBank 0 (fun s => s.diodeTaken.sample own)) else ok s

/-- DRIVE_WAIT_EXPIRE (R272): the boost has had DRIVE_WAIT with HOT_RELIEF or HOT_SHUT still in force. -/
def execDriveWaitExpire (s : State) : Outcome State Fault Refusal :=
  let t := s.thermal
  if !s.mgmtDown && t.boost && (t.hotRelief.inForce || t.hotShut.inForce) && s.passed t.tBoost (msTicks (s.act thDriveWait)) then
    ok s.askRelief
  else ok s

/-- CHATTER_CLEAR (R268): 10 s have passed with no change. -/
def execChatterClear (s : State) : Outcome State Fault Refusal :=
  if s.thermal.changes.all (fun t => s.passed t (sTicks 10)) then
    ok { s with thermal := { s.thermal with chatter := false, changes := [] } }
  else ok s

/-- NO_SAMPLE (R276): no own reading for 50 ms. -/
def execNoSample (s : State) : Outcome State Fault Refusal :=
  if s.supply.vcore = true ∧ s.passed s.thermal.lastOwnAt (msTicks 50) ∧ s.thermal.noSample = false then
    ok ({ s with thermal := { s.thermal with noSample := true } }.raise 1 0x39 255)
  else ok s

/-! ### Polls (R274, R276) -/

/-- A neighbour that has stopped being fresh raises EV 0x38, once. -/
def State.nbAges (s : State) (k : Nat) : State :=
  match tabFind s.thermal.neighbours k with
  | none => s
  | some n =>
    if n.fresh && !s.nbFresh k then
      { s with thermal := { s.thermal with
        neighbours := tabInsert k { n with fresh := false } (tabErase s.thermal.neighbours k) } }.raise 10 0x38 255 false [BitVec.ofNat 8 k]
    else s

/-- A successful reading of neighbour k, with its OFFSET. -/
def State.nbReading (s : State) (k : Nat) (v : Int) : State :=
  let s := s.nbAges k
  let x : Neighbour := { reading := v + nbOffset (s.act (thnNeighbour k)), at_ := s.now, fresh := true }
  { s with thermal := { s.thermal with neighbours := tabInsert k x (tabErase s.thermal.neighbours k) } }

/-- The poll of a PMIC waits or runs at a port. -/
def State.pollAsked (s : State) (k : Nat) : Bool :=
  let mine := fun (t : PsTx) => decide (t.why = .poll k)
  (List.range 8).any (fun n => (s.port n).queue.any mine || (s.port n).busy.any mine)

/-- Ask the port of a PMIC for READ_TEMPERATURE_1, a transaction of P0 (R274). -/
def State.pollAsk (s : State) (k : Nat) : State :=
  if s.pollAsked k then s
  else s.askPort { entry := nbId (s.act (thnNeighbour k)), part := 0, cmd := 0x8D, data := 0, why := .poll k }

/-- The two transactions by which a peer's OWN_TEMP is read on PEER (R274, R404): the request to its address, and the read of the result, of which
this device sends the address byte. -/
def State.peerAsk (s : State) (id : Nat) : State :=
  let a := 2 * (s.act peerPeerAddrBase + id)
  let b : Bytes := [BitVec.ofNat 8 a, 0xD1, 0x20, 0x38, 2]
  if s.peerTalks then { s with peerOut := s.peerOut ++ [b ++ [crc8 b], [BitVec.ofNat 8 (a + 1)]], peerTries := 0 } else s

/-- One neighbour at a poll: a peer is asked and has answered with its reading or not, a PMIC is asked through its port; a neighbour that stops being
fresh raises EV 0x38 once. -/
def State.pollTake (s : State) (k : Nat) (r : Option Int) : State :=
  let w := s.act (thnNeighbour k)
  let s := if nbKind w = 2 then s.pollAsk k else if nbKind w = 1 then s.peerAsk (nbId w) else s
  let r := if nbKind w = 1 ∧ s.peerTalks then r else none
  if nbKind w = 0 then s
  else match r with
    | some v => s.nbReading k v
    | none => s.nbAges k

/-- The cross-check of R274 on one poll: SUSPECT after SUSPECT_TIME beyond the limit, cleared after 60 s within it. -/
def State.crossCheck (s : State) (own m : Int) : State :=
  let t := s.thermal
  let beyond := decide ((s.act thSuspectLimit : Int) < (own - m).natAbs)
  let bf := if beyond then some (t.beyondFrom.getD s.now) else none
  let wf := if beyond then none else some (t.withinFrom.getD s.now)
  let s := { s with thermal := { t with beyondFrom := bf, withinFrom := wf } }
  let arg := two (ofSigned 16 own) ++ two (ofSigned 16 m)
  if !t.suspect && beyond && s.passed (bf.getD s.now) (msTicks (s.act thSuspectTime)) then
    ({ s with thermal := { s.thermal with suspect := true } }.bump16 thsSuspectCount).raise 10 0x35 255 false arg
  else if t.suspect && !beyond && s.passed (wf.getD s.now) (sTicks 60) then
    { s with thermal := { s.thermal with suspect := false } }.raise 10 0x35 255 true arg
  else s

/-- A poll that compares nothing neither continues nor breaks a span of R274: the time since the poll before it does not count. -/
def State.spansWait (s : State) (since : Nat) : State :=
  let later := fun (x : Option Nat) => x.map (fun t => t + (s.now - since))
  { s with thermal := { s.thermal with beyondFrom := later s.thermal.beyondFrom, withinFrom := later s.thermal.withinFrom } }

/-- A median is formed at a poll: it is held, and is the decision reading where there is no sample of its own; else the two are
cross-checked (R265, R274). -/
def State.medianTaken (s : State) (m : Int) (since : Nat) : State :=
  let s := { s with thermal := { s.thermal with medianHold := some m } }
  if s.thermal.noSample then
    (({ s with thermal := { s.thermal with decision := some m } }.sampleHotShut m).sampleOthers m).spansWait since
  else match s.thermal.own with
    | none => s.spansWait since
    | some own => s.crossCheck own m

/-- NEIGHBOUR_POLL (R274): every 100 ms, what each peer answered (none: no successful reading); a PMIC's reading comes with the end of its
transaction. While NO_SAMPLE is set, the median
decides at the poll, HOT_SHUT included (R276). -/
def State.poll (s : State) (readings : List (Option Int)) : State :=
  let since := s.thermal.pollAt.getD s.now
  let s := { s with thermal := { s.thermal with pollAt := some s.now } }
  let s := (List.range 8).foldl (fun s k => s.pollTake k ((readings[k]?).join)) s
  match s.median with
  | none => s.spansWait since
  | some m => s.medianTaken m since

def execNeighbourPoll (readings : List (Option Int)) (s : State) : Outcome State Fault Refusal :=
  let due : Bool := match s.thermal.pollAt with
    | none => true
    | some t => s.passed t (msTicks 100)
  if s.mgmtDown || !due || !s.committed then ok s else ok (s.poll readings)

/-! ### Compensation (R275) -/

/-- How many units are compensated, each from its own table: the oscillators of CL0 to CL7 as 0 to 7, those of the telemetry, NV, drive and
two-wire islands as 8 to 11, the Hutch RC as 12, the 2.048 V references of CL0 to CL7 as 13 to 20, the check reference as 21. -/
def compUnits : Nat := 22

/-- The correction of a unit at a temperature, in 1/70 of its table's unit: 32 points from -50 °C in steps of 7 °C, linear between two points,
the end point outside the span. -/
def compAt (k : Nat) (v : Int) : Int :=
  if v ≤ -500 then Config.compPoint k 0 * 70
  else if 1670 ≤ v then Config.compPoint k 31 * 70
  else
    let i := ((v + 500) / 70).toNat
    let r := (v + 500) % 70
    Config.compPoint k i * (70 - r) + Config.compPoint k (i + 1) * r

/-- The correction in force: the input is the decision reading, which is held while there is no reading; none before the first sample. -/
def State.correction (s : State) (k : Nat) : Option Int :=
  if k < compUnits then s.thermal.decision.map (compAt k) else none

/-! ### Status (Table 10-8) -/

/-- LIMIT_STATE. -/
def ThermalX.limitState (t : ThermalX) : Nat :=
  bitIf t.coldInhibit.inForce 0 + bitIf t.coldWarn.inForce 1 + bitIf t.hotWarn.inForce 2 + bitIf t.hotRelief.inForce 3 +
    bitIf t.hotShut.inForce 4

/-- THERM_FLAGS. -/
def ThermalX.flags (t : ThermalX) : Nat :=
  bitIf t.suspect 0 + bitIf t.chatter 1 + bitIf t.fast 2 + bitIf t.noSample 3 + bitIf t.boost 4 + bitIf t.request 5 +
    bitIf t.noNeighbour 6

/-- A reading as an I16, 0x8000 for none. -/
def tempWord (x : Option Int) : Nat :=
  match x with
  | none => 0x8000
  | some v => ofSigned 16 v

end Sys2Proof.Machine
end

