-- ==== Sys2Proof/Machine/Nv.lean ====
section
/-! DEFINITION. The NV island (R407 to R425) and firmware images (R445, R446): program operations, erases with their journal, the scrub, the
memory window, the firmware update, and the records of the ledger ring (R226). -/
namespace Sys2Proof.Machine

open Host

/-! ### Ledger records (R226) -/

/-- The 32 bytes of a ledger record (Table 7-9). -/
def recordBytes (seq : Nat) (r : Interval) : Bytes :=
  let m := leBytes 4 seq ++ leBytes 1 r.part ++ leBytes 1 r.table ++ leBytes 1 r.flags ++ [0] ++ leBytes 4 r.startRtc ++
    leBytes 4 r.dur ++ leBytes 8 r.ein ++ leBytes 4 r.eout
  m ++ leBytes 4 (crc32 m).toNat

/-- The address of a position of the ledger ring. -/
def recordAddr (i : Nat) : Nat := 0x610000 + 32 * i
/-- The flash sector of a position. -/
def recordSector (i : Nat) : Nat := 0x610 + i / 128

/-- A position holds a record or the rest of one. -/
def State.recordThere (s : State) (i : Nat) : Bool := s.readStatus (recordAddr i) 32 != 1 && s.readStatus (recordAddr i) 32 != 5
/-- A position that a record can be programmed into. -/
def State.recordFree (s : State) (i : Nat) : Bool := s.readStatus (recordAddr i) 32 == 1 && !s.pageSealed (recordAddr i)

/-- The next free position of the ledger ring: the writer passes over sealed pages of its own sector and over FAILED sectors, and stops at a
sector that holds records or is under erase (R226, R415). -/
def State.nextRecord (s : State) : Option Nat :=
  let here := (s.ledger.ringPos + 2047) % 2048 / 128
  let goes := fun i =>
    (s.sector (recordSector i)).failed || (!(s.sector (recordSector i)).open_ &&
      (i / 128 == here || !(List.range 128).any (fun j => s.recordThere (i / 128 * 128 + j)) || i / 128 == s.ledger.ringPos / 128 && !s.recordThere i))
  (((List.range 2048).map (fun i => (s.ledger.ringPos + i) % 2048)).takeWhile goes).find? s.recordFree

/-- A ledger record waits that can be written (class 3 of R418): the one of a full ring waits for the erase of class 4 itself (R226). -/
def State.ledgerWaits (s : State) : Bool := !s.ledger.queue.isEmpty && s.nextRecord.isSome

/-- Whether the erase in progress, if any, lets a program operation of classes 1 to 3 run: there is none, or it is suspended (R416, R418). -/
def State.eraseHalted (s : State) : Bool :=
  match s.nv.erase with
  | none => true
  | some _ => s.nv.suspended

/-- Ask for the erase of a ledger sector. -/
def State.askLedgerErase (s : State) (a : Nat) : State :=
  let has := fun (o : NvOp) => o.erase && o.addr == a
  if s.nv.queue.any has || (match s.nv.erase with
    | some o => has o
    | none => false) then s
  else s.nvAsk { why := .ringErase false, erase := true, addr := a }

/-- The oldest sector of the ledger ring that can be erased: the writer passes over FAILED sectors (R415). -/
def State.oldestLedger (s : State) : Option Nat :=
  ((List.range 16).map (fun i => 0x610 + (s.ledger.ringPos / 128 + i) % 16)).find? (fun n => !(s.sector n).failed)

/-- LEDGER_RECORD_WRITE (R226): the first waiting record is written to the next position; a full ring has its oldest sector erased first. -/
def execLedgerRecordWrite (s : State) : Outcome State Fault Refusal :=
  match s.ledger.queue with
  | [] => ok s
  | r :: rest =>
    if !(s.nvReady && s.eraseHalted) || s.drawerWaits then ok s
    else match s.nextRecord with
      | some i =>
        let s := s.programAll (recordAddr i) (recordBytes s.ledger.seq r)
        let s := s.setReg (ledsLastSeq r.part) s.ledger.seq
        ok { s with ledger := { s.ledger with queue := rest, seq := wrap32 s.ledger.seq, ringPos := (i + 1) % 2048 } }
      | none =>
        match s.oldestLedger with
        | some n => if (s.sector n).open_ then ok s else ok (s.askLedgerErase (4096 * n))
        | none => ok s

/-! ### Program operations (R412, R413) -/

/-- Ask for a program operation, split at the page borders (R412: one page for each operation). -/
def State.askProgram (s : State) (why : NvWhy) (a : Nat) (data : Bytes) : State :=
  let k := 256 - a % 256
  if data.length ≤ k then s.nvAsk { why := why, erase := false, addr := a, data := data }
  else (s.nvAsk { why := why, erase := false, addr := a, data := data.take k }).nvAsk
    { why := why, erase := false, addr := a + k, data := data.drop k }

/-- A program operation of class 5 may run: nothing of classes 1 to 4 waits, and an erase in progress is a suspended one of class 6
(R418). -/
def State.programRuns (s : State) : Bool :=
  s.nvReady && !s.drawerWaits && !s.ledgerWaits && (s.nvFirst 4).isNone &&
    (match s.nv.erase with
      | none => true
      | some o => s.nv.suspended && o.cls == 6)

/-- Granules of an operation are free to be programmed (R412, R415). -/
def State.programFits (s : State) (o : NvOp) : Bool :=
  !(s.sector (secOf o.addr)).failed && !s.pageSealed o.addr && (granulesOf o.addr o.data.length).all (fun g => !(s.granule g).intent)

/-- An operation addressed to the sector under erase waits (R416). -/
def State.programWaits (s : State) (o : NvOp) : Bool := (s.sector (secOf o.addr)).open_

/-- NV_PROGRAM (R412): the first waiting program operation of the dictionary is made, whole. -/
def execNvProgram (s : State) : Outcome State Fault Refusal :=
  match s.nvFirst 5 with
  | none => ok s
  | some o =>
    if !s.programRuns || s.programWaits o then ok s
    else
      let s := { s with nv := { s.nv with queue := nvDrop o s.nv.queue } }
      if !s.programFits o then ok s
      else
        let s := s.programAll o.addr o.data
        ok (if o.why = .owner then s.setReg memMemResult (s.readStatus o.addr o.data.length) else s)

/-- An interrupted operation: the granules whose markers were programmed keep the data, the others of the operation read TORN (R413). -/
def State.tear (s : State) (o : NvOp) (done : Nat) : State :=
  (s.setIntents (granulesOf o.addr o.data.length)).setMarkers o.addr o.data done

/-- NV_INTERRUPT (R413): the program operation in progress, or the one that has just begun, ends after so many commit markers. -/
def execNvInterrupt (done : Nat) (s : State) : Outcome State Fault Refusal :=
  match s.nv.program with
  | some o =>
    if (granulesOf o.addr o.data.length).length ≤ done then ok s
    else
      let s := (s.tear o done).foundTorn o.addr o.data.length
      let s := { s with nv := { s.nv with program := none } }
      match s.log.writing with
      | some (_, d) => ok (s.drawerTorn d).holdDrawers
      | none => ok s.holdDrawers
  | none =>
    match s.nvFirst 5 with
    | none => ok s
    | some o =>
      if !s.programRuns || s.programWaits o || decide ((granulesOf o.addr o.data.length).length ≤ done) then ok s
      else
        let s := { s with nv := { s.nv with queue := nvDrop o s.nv.queue } }
        ok (if s.programFits o then s.tear o done else s)

/-! ### Erases (R415 to R417) -/

/-- The waiting erase that is taken next: a ring erase before one of the dictionary (R418). One that Table 8-4 holds keeps nothing else
back. -/
def State.nextErase (s : State) : Option NvOp :=
  match s.nvFirst 4 with
  | some o => some o
  | none => if (s.nvFirst 5).isSome then none else s.nvFirst 6

/-- NV_ERASE (R415, R417): the erase of a sector starts, with its journal entry opened. -/
def execNvErase (s : State) : Outcome State Fault Refusal :=
  if !s.nvReady || s.nv.erase.isSome || s.drawerWaits || s.ledgerWaits then ok s
  else match s.nextErase with
    | none => ok s
    | some o =>
      let rest := nvDrop o s.nv.queue
      let queue := if 1 < o.count then { o with addr := o.addr + 4096, count := o.count - 1 } :: rest else rest
      let s := { s with nv := { s.nv with
        queue := queue, erase := some { o with count := 1 }, eraseRun := 0, eraseFrom := s.now, suspended := false, verifyFail := 0 } }
      let s := if o.isLogErase then s.countErased (secOf o.addr - 0x600) else s
      ok (s.setSector (secOf o.addr) { s.sector (secOf o.addr) with open_ := true })

/-- A program operation of sufficient class waits for the suspension of the erase in progress (R418). -/
def State.suspendAsked (s : State) : Bool :=
  match s.nv.erase with
  | none => false
  | some o => !s.nvInhibited && (s.drawerWaits || s.ledgerWaits || (o.cls == 6 && (s.nvFirst 5).any (fun w => !s.programWaits w)))

/-- The erase in progress halts (R416). -/
def State.haltErase (s : State) : State :=
  match s.nv.erase with
  | none => s
  | some _ =>
    if s.nv.suspended then s
    else { s with nv := { s.nv with suspended := true, eraseRun := s.nv.eraseRun + (s.now - s.nv.eraseFrom), haltAt := s.now } }.bump32 nvsSuspendCount

/-- ERASE_SUSPEND (R416): for a waiting program operation after 500 µs of run time, or at the power-loss warning whatever the run time. -/
def execEraseSuspend (s : State) : Outcome State Fault Refusal :=
  if s.supply.plw || (s.suspendAsked && s.passed s.nv.eraseFrom (usTicks 500)) then ok s.haltErase else ok s

/-- ERASE_RESUME (R416): no program operation waits for the suspension, and the warning is not active. -/
def execEraseResume (s : State) : Outcome State Fault Refusal :=
  if s.nv.erase.isSome && s.nv.suspended && s.nv.program.isNone && !s.suspendAsked && !s.supply.plw && s.nvRuns then
    ok { s with nv := { s.nv with suspended := false, eraseFrom := s.now } }
  else ok s

/-- The end of an erase is reported to what asked for it. -/
def State.eraseEnds (s : State) (o : NvOp) (failed : Bool) : State :=
  match o.why with
  | .ringErase true => s.ringErased (secOf o.addr - 0x600) failed
  | .ringErase false => s.raise 12 0x27 255
  | .firmware =>
    if s.reg fwFwState = 1 ∧ s.nv.queue.all (fun w => !(w.erase && decide (w.why = .firmware))) then s.setReg fwFwState 2 else s
  | _ => s

/-- ERASE_DONE (R415): the erase ends with its verify; a first failure repeats it, a second marks the sector FAILED with EV 0x5A. The
journal entry is closed. -/
def execEraseDone (verified : Bool) (s : State) : Outcome State Fault Refusal :=
  match s.nv.erase with
  | none => ok s
  | some o =>
    if s.nv.suspended then ok s
    else
      let n := secOf o.addr
      let close := { s.nv with erase := none, eraseRun := 0, verifyFail := 0 }
      if verified then
        let s := ({ s with nv := close }.eraseSector n).bump32 nvsEraseCount
        ok ((s.setSector n { s.sector n with open_ := false }).eraseEnds o false)
      else
        let s := s.bump16 nvsEraseFail
        if s.nv.verifyFail = 0 then ok { s with nv := { s.nv with verifyFail := 1, eraseRun := 0, eraseFrom := s.now } }
        else
          let s := { s with nv := close }
          let s := s.setSector n { s.sector n with open_ := false, failed := true }
          let s := s.raise 12 0x5A 255 false (BitVec.ofNat 8 (regionOf o.addr) :: two n)
          ok (s.eraseEnds o true)

/-- The open sectors that wait for their redo: open in the journal and not under erase (R417). -/
def State.openSectors (s : State) : List Nat :=
  (s.sectors.filter (fun e => e.2.open_ && !(match s.nv.erase with
    | some o => secOf o.addr == e.1
    | none => false))).map (fun e => e.1)

/-- The open sectors are erased again, their journal entries closed, with EV 0x5B (R417); a shelf so erased reads WRITING, and a firmware
bank holds no valid image. -/
def State.redo (s : State) (l : List Nat) : State :=
  let s := s.each l (fun s n =>
    let s := ((s.eraseSector n).setSector n { s.sector n with open_ := false }).bump16 nvsEraseRedo
    let s := s.bump32 nvsEraseCount
    match regionOf (n * 4096) with
    | 2 => s.setReg (shelfStatus (shelfOfAddr (n * 4096))) 8
    | 0 => s.setReg identFwOther 0
    | 1 => s.setReg identFwOther 0
    | _ => s)
  s.raise 12 0x5B 255 false (two l.length)

/-- ERASE_REDO (R417): each sector still open at power-up is erased again, its entry closed; under COLD_INHIBIT it waits (R419). -/
def execEraseRedo (s : State) : Outcome State Fault Refusal :=
  let l := s.openSectors
  if l = [] ∨ s.nvReady = false ∨ s.nv.erase.isSome then ok s
  else ok (s.redo l)

/-! ### Scrub (R421, R422) -/

/-- The scrub skips a sector that is under erase or open, and the bank that a firmware update programs (Table 8-4). -/
def State.scrubSkips (s : State) (n : Nat) : Bool :=
  (s.sector n).open_ || (s.fwUpdates && regionOf (n * 4096) == 1 - s.sec.running)

/-- SCRUB_READ (R421): the next sector is read when it is due and no other work waits, or skipped (Table 8-4); the last one ends the pass. -/
def execScrubRead (sense : Sense) (s : State) : Outcome State Fault Refusal :=
  let due : Bool := s.passed s.nv.scrubAt (s.act nvScrubPeriod * 175781250)
  let free := s.nvRuns && s.nv.program.isNone && s.nv.erase.isNone && s.nv.queue.isEmpty && !s.drawerWaits && !s.ledgerWaits
  let n := s.reg nvsScrubSector
  let skips := s.scrubSkips n
  if s.act nvScrubEnable = 0 ∨ due = false ∨ !(free || skips && s.nvRuns) then ok s
  else
    let s := if skips then s else s.sensed (4096 * n) 4096 sense
    let s := { s with nv := { s.nv with scrubAt := s.now, scrubNow := if skips then none else some n } }
    let s := s.setReg nvsScrubSector ((n + 1) % 2048)
    ok (if n = 2047 then (s.bump32 nvsScrubPasses).setReg nvsScrubPassTick s.now else s)

/-! ### The memory window (R408, R410, R412, R415) -/

/-- An open session. -/
def State.session (s : State) (k : Nat) : Option Session := tabFind s.sessions k

/-- Whether MEM_ADDR names a firmware bank or the device area (R408). -/
def memHidden (a : Nat) : Bool := decide (a < 0x400000 ∨ 0x620000 ≤ a ∧ a < 0x640000)
/-- Whether MEM_ADDR takes a value (Table 16-12). -/
def memAddrOk (a : Nat) : Bool := decide (a % 16 = 0 ∧ 0x400000 ≤ a ∧ a < 0x800000)

/-- MEM_ADDR (R408): the window address of the writer's session; a hidden address is refused as for lack of a right. -/
def execMemAddr (r : Role) (k : Nat) (addr : BitVec 32) (s : State) : Outcome State Fault Refusal :=
  ok (s.item r (isOwner r && !memHidden addr.toNat) (memAddrOk addr.toNat)
    (fun s => (s.onSession k (fun x => { x with memAddr := addr.toNat })).answer 0))

/-- The end of the region in which a memory window lies. -/
def regionEnd (a : Nat) : Nat := regionBase (regionOf a + 1)

/-- MEM_READ (R410): MEM_LEN bytes from MEM_ADDR with the result of the margin sense; a DAMAGED granule is refused. -/
def State.memRead (s : State) (x : Session) (sense : Sense) : State :=
  if s.nvBad then s.answer 0x0702
  else
    let s := s.sensed x.memAddr x.memLen sense
    let st := s.readStatus x.memAddr x.memLen
    let s := s.setReg memMemResult (resultWord sense st)
    if st = 4 then s.answer 0x0602 else s.give (s.readBytes x.memAddr x.memLen)

/-- MEM_READ (R410). -/
def execMemRead (r : Role) (k : Nat) (sense : Sense) (s : State) : Outcome State Fault Refusal :=
  match s.session k with
  | none => ok s
  | some x => ok (s.item r (isOwner r) true (fun s => s.memRead x sense))

/-- MEM_WRITE (R412): a program operation in the owner area, within one page. -/
def execMemWrite (r : Role) (k : Nat) (data : Bytes) (s : State) : Outcome State Fault Refusal :=
  match s.session k with
  | none => ok s
  | some x =>
    ok (s.itemLen r (isOwner r) (decide (16 ≤ data.length ∧ data.length ≤ 256)) true (fun s =>
      if x.memAddr < 0x640000 then s.answer 0x0604
      else if 256 < x.memAddr % 256 + data.length then s.answer 0x0301
      else match s.programRefusal x.memAddr data.length with
        | some st => s.answer st
        | none => if s.nvStops then s.refuseStopped else (s.askProgram .owner x.memAddr data).answer 2))

/-- MEM_ERASE (R415): the erase of a sector of the owner area. Two requests for one sector are one erase (R424). -/
def execMemErase (r : Role) (addr : BitVec 32) (s : State) : Outcome State Fault Refusal :=
  let a := addr.toNat
  ok (s.item r (isOwner r) true (fun s =>
    if a < 0x640000 ∨ 0x800000 ≤ a ∨ a % 4096 ≠ 0 then s.answer 0x0604
    else if s.nvStops then s.refuseStopped
    else
      let has := fun (o : NvOp) => o.erase && o.addr == a
      if s.nv.queue.any has || (match s.nv.erase with
        | some o => has o
        | none => false) then s.answer 2
      else (s.nvAsk { why := .owner, erase := true, addr := a }).answer 2))

/-! ### Firmware images (R445, R446) -/

/-- First address of a bank. -/
def bankBase (b : Nat) : Nat := 0x200000 * (b % 2)

/-- Fields of the image header in a bank (Table 18-3). -/
def State.imgVersion (s : State) (b : Nat) : Nat :=
  if b = 0 ∧ s.sec.factory then Config.factoryVersion.toNat else leNat (s.readBytes (bankBase b + 4) 4)
def State.imgLength (s : State) (b : Nat) : Nat := leNat (s.readBytes (bankBase b + 8) 4)
def State.imgRollback (s : State) (b : Nat) : Nat :=
  if b = 0 ∧ s.sec.factory then Config.factoryRollback.val else leNat (s.readBytes (bankBase b + 13) 1)
def State.imgSlot (s : State) (b : Nat) : Nat :=
  if b = 0 ∧ s.sec.factory then Config.factorySlot.val else leNat (s.readBytes (bankBase b + 14) 1)
def State.imgRevoke (s : State) (b : Nat) : Nat :=
  if b = 0 ∧ s.sec.factory then Config.factoryRevoke.toNat else leNat (s.readBytes (bankBase b + 15) 1)

/-- The checks of an image that stands in the flash (R446): 0, or the number of the first failing check. An uncorrectable granule found in
the running bank does not fail it while BOOT_OTHER stands, since Table 16-3 has that bank booted again (DEDUCED, log 19). -/
def State.flashImageCheck (s : State) (b : Nat) : Nat :=
  let h := s.readBytes (bankBase b) 128
  let n := s.imgLength b
  if h.take 4 ≠ [0x46, 0x57, 0x49, 0x4D] then 1
  else if leNat ((h.drop 16).take 4) ≠ 0x0050B512 ∨ ((h.drop 20).take 44).any (fun x => x != 0) ∨ h[12]? ≠ some 0 ∨ 16 ≤ s.imgRevoke b then 2
  else if n = 0 ∨ 2097024 < n then 3
  else if 3 < s.imgSlot b ∨ bitOf (s.reg secRevoked) (s.imgSlot b) then 4
  else if s.imgRollback b < s.reg secRollbackCount then 5
  else if (s.readStatus (bankBase b) (128 + n) = 0 ∨ (s.sec.bootOther ∧ b = s.sec.running)) ∧ Config.signatureOk (s.imgSlot b) (s.readBytes (bankBase b) (128 + n)) = true then 0
  else 6

/-- The first failing check of the image in a bank, 0 for a valid one; the image with which the device left the factory is valid as to
checks 1 to 3 and 6 (R333). -/
def State.imageCheck (s : State) (b : Nat) : Nat :=
  if b = 0 ∧ s.sec.factory then
    if bitOf (s.reg secRevoked) (s.imgSlot b) then 4 else if s.imgRollback b < s.reg secRollbackCount then 5 else 0
  else s.flashImageCheck b

/-! ### Firmware update (R420) -/

/-- The bank that is not running. -/
def State.otherBank (s : State) : Nat := 1 - s.sec.running

/-- A write of FW_COMMAND: OWNER only, and FW_STATUS takes its ST code. -/
def State.fwCommand (s : State) (r : Role) (f : State → State) : State :=
  s.item r (isOwner r) true (fun s => let s := f s; s.setReg fwFwStatus s.status)

/-- The erase of the other bank begins: FW_STATE 1, and the bank holds no valid image. -/
def State.fwStart (s : State) : State :=
  let b := s.otherBank
  let s := { s with sec := { s.sec with factory := s.sec.factory && b != 0 } }
  ((s.setReg fwFwState 1).setReg identFwOther 0).nvAsk { why := .firmware, erase := true, addr := bankBase b, count := 512 }

/-- FW_ERASE (R420): FW_COMMAND 0x01. It waits for the erases of the log and for a profile switch (Table 8-4). -/
def execFwErase (r : Role) (s : State) : Outcome State Fault Refusal :=
  ok (s.fwCommand r (fun s =>
    if s.fwUpdates ∨ s.reg fwFwState = 5 ∨ s.waitMaint.contains 16 then (s.bump16 maintRefusedCount).answer 0x0401
    else if s.nvStops then s.refuseStopped
    else if s.logErases || s.switching then { s with waitMaint := s.waitMaint ++ [16] }.answer 2
    else s.fwStart.answer 2))

/-- FW_DATA (R420): offset and length multiples of 16, within the bank, no granule twice. -/
def execFwData (r : Role) (data : Bytes) (s : State) : Outcome State Fault Refusal :=
  let n := data.length
  ok (s.itemLen r (isOwner r) (decide (16 ≤ n ∧ n ≤ 256)) (decide (n % 16 = 0)) (fun s =>
    let a := bankBase s.otherBank + s.reg fwFwOffset
    if s.reg fwFwState ≠ 2 then s.answer 0x0506
    else if 0x200000 < s.reg fwFwOffset + n then s.answer 0x0301
    else if s.blockFailed a n then s.answer 0x0703
    else if (granulesOf a n).any (fun g => (s.granule g).intent || s.granuleAsked g) then s.answer 0x0301
    else if s.blockSealed a n then s.answer 0x0605
    else if s.nvStops then s.refuseStopped
    else (s.askProgram .firmware a data).answer 2))

/-- FW_SEAL (R420, R446): FW_COMMAND 0x02. The image is verified once its data are programmed: FW_STATE 4, or 6 with no valid image, and EV
0x61 where the rollback level is too low. FW_STATE reads 3 in the tick of the verification. -/
def execFwSeal (r : Role) (s : State) : Outcome State Fault Refusal :=
  ok (s.fwCommand r (fun s =>
    if s.reg fwFwState ≠ 2 then s.answer 0x0506
    else if s.nv.queue.any (fun o => decide (o.why = .firmware)) then (s.bump16 maintRefusedCount).answer 0x0401
    else
      let b := s.otherBank
      let s := { s with nv := { s.nv with sealAt := some s.now } }
      match s.imageCheck b with
      | 0 => ((s.setReg fwFwState 4).setReg identFwOther (s.imgVersion b)).answer 0
      | c =>
        let s := (s.setReg fwFwState 6).setReg identFwOther 0
        let s := if c = 5 then s.raise 12 0x61 255 false [BitVec.ofNat 8 (s.imgRollback b), BitVec.ofNat 8 (s.reg secRollbackCount)] else s
        s.answer 0))

/-- FW_ABANDON (R420): FW_COMMAND 0x04 leaves FW_STATE 0; what waits for the flash is dropped. -/
def execFwAbandon (r : Role) (s : State) : Outcome State Fault Refusal :=
  ok (s.fwCommand r (fun s =>
    let s := { s with
      waitMaint := s.waitMaint.filter (fun k => k != 16 && k != 17), fwWaitAt := none,
      nv := { s.nv with queue := s.nv.queue.filter (fun o => decide (o.why ≠ NvWhy.firmware)) } }
    (s.setReg fwFwState 0).answer 0))

end Sys2Proof.Machine
end

