-- ==== Sys2Proof/Machine/Trim.lean ====
section
/-! DEFINITION. Trim by PMBus, static margins and the Bench (R229 to R243). -/
namespace Sys2Proof.Machine

open Host

/-- A channel has a trim source: TRIM_KIND 1 or 2. -/
def State.hasTrim (s : State) (c : Nat) : Bool := s.act (chTrimKind c) == 1 || s.act (chTrimKind c) == 2

/-! ### The PMBus loop (R231, R232) -/

/-- A transaction of an entry's loop waits or runs at its port. -/
def State.loopAsked (s : State) (e : Nat) : Bool :=
  let x := s.port (tgtPort (s.act (tgtEntry e)))
  let mine := fun (t : PsTx) => t.entry == e && match t.why with
    | .loop _ => true
    | _ => false
  x.queue.any mine || x.busy.any mine

/-- The value of the loop's next command: the commanded voltage moved by the error, at most PMBUS_STEP_MAX, when the error leaves the
tolerance band; the last value once more after a command that was not acknowledged. After a shut-off, a stop or a parking nothing is sent. -/
def State.loopNext (s : State) (c : Nat) : Option Nat :=
  let x := s.chan c
  let e := s.entry (s.act (chTrimId c))
  if x.state = .off ∨ x.state = .parked ∨ x.state = .tripped then none
  else if e.loop = 5 then some (e.commanded.getD (s.setpoint c))
  else if x.state = .running ∨ x.state = .margin then
    let d : Int := s.setpoint c - x.loopRail
    if !x.hasResult || decide (d.natAbs ≤ s.setTolUv c) then none
    else
      let m : Int := s.act (psTrimPmbusStepMax (tgtPort (s.act (tgtEntry (s.act (chTrimId c))))))
      some (((e.commanded.getD (s.setpoint c) : Nat) : Int) + clampInt (-m) m d).toNat
  else none

/-- PMBUS_TRIM_PERIOD (R231): a period of the port has passed since the last command of the loop. -/
def execPmbusTrimPeriod (c : Fin 512) (s : State) : Outcome State Fault Refusal :=
  let e := s.act (chTrimId c)
  let port := tgtPort (s.act (tgtEntry e))
  let due : Bool := match (s.entry e).sentAt with
    | none => true
    | some t => s.passed t (msTicks (s.act (psTrimPmbusPeriod port)))
  if s.kind c ≠ 1 ∨ s.act (chTrimKind c) ≠ 2 ∨ due = false ∨ s.loopAsked e ∨ s.islandBad.contains 18 then ok s
  else match s.loopNext c with
    | none => ok s
    | some v => ok (s.askSetpoint c v)

/-! ### Static margins (R237) -/

/-- The channels of MARGIN_SET. -/
def State.marginChans (s : State) (p : Nat) : List Nat := (List.range 512).filter (bitOf (s.reg (benchMarginSet p)))

/-- The setpoint of a static margin (R237): the held setpoint plus MARGIN_OFFSET per mille of NOMINAL. The share is rounded down to whole µV:
R237 names no rounding (DESIGN CHOICE, log 32). -/
def State.marginGoal (s : State) (p c : Nat) : Int :=
  (s.heldSetpoint c : Int) + (toSigned 16 (s.reg (benchMarginOffset p)) * (s.act (chNominal c) : Int)) / 1000

/-- A setpoint may be applied (R235). -/
def State.mayApply (s : State) (c : Nat) (v : Int) : Bool := decide (0 ≤ v) && s.inGuard c v.toNat

/-- A start that Table 8-4 refuses for partition p: a switch that affects it, or a firmware activation pending. -/
def State.marginBarred (s : State) (p : Nat) : Bool :=
  s.switchAffects p || s.reg fwFwState == 4 || s.reg fwFwState == 5

/-- MARGIN_APPLY (R237): MARGIN_APPLY 0x01. -/
def execMarginApply (r : Role) (p : Fin 16) (s : State) : Outcome State Fault Refusal :=
  ok (s.item r (ownerOr r p) true (fun s =>
    let cs := s.marginChans p
    if !cs.all (fun c => s.kind c == 1 && s.chPart c == p && (s.chan c).state == .running && s.hasTrim c) then s.answer 0x0506
    else if !cs.all (fun c => s.mayApply c (s.marginGoal p c)) then s.answer 0x0301
    else if s.marginBarred p then (s.bump16 maintRefusedCount).answer 0x0401
    else (s.each cs (fun s c => s.marginOn c (s.marginGoal p c).toNat true)).answer 0))

/-- MARGIN_REMOVE (R237): MARGIN_APPLY 0x00. -/
def execMarginRemove (r : Role) (p : Fin 16) (s : State) : Outcome State Fault Refusal :=
  ok (s.item r (ownerOr r p) true (fun s =>
    (s.each ((s.chansOf p).filter (fun c => (s.chan c).staticMgn)) (fun s c => s.marginOff c)).answer 0))

/-! ### The Bench (R238 to R241) -/

def State.bench (s : State) (p : Nat) : Bench := (s.part p).bench
def State.setBench (s : State) (p : Nat) (b : Bench) : State := s.setPart p { s.part p with bench := b }

/-- The setpoint of the present step (R239). -/
def Bench.next (b : Bench) : Int := if b.low then (b.base : Int) - b.k * b.stepUv else (b.base : Int) + b.k * b.stepUv

/-- A side ends with a reason of Table 8-2: the setpoint returns to the held one, and the sweep waits for it to settle; a sweep that a
management reset ends is over (R35, R239, Table 8-3). -/
def State.sideEnd (s : State) (p reason : Nat) : State :=
  let b := s.bench p
  let s := s.setReg (if b.low then benchLowReason p else benchHighReason p) reason
  if b.ending then s.sweepEnd p 4
  else
    let s := (s.marginOn b.chan b.base false).setReg (benchStepNow p) 0
    s.setBench p { s.bench p with phase := .returning, since := s.now }

/-- Take the present step, or end the side at the guard band (R239). -/
def State.benchTake (s : State) (p : Nat) : State :=
  let b := s.bench p
  if s.mayApply b.chan b.next then
    let s := (s.marginOn b.chan b.next.toNat false).setReg (benchStepNow p) (ofSigned 32 (b.next - b.base))
    s.setBench p { s.bench p with phase := .settling, since := s.now, watchBad := false }
  else s.sideEnd p 1

/-- Begin a side: its edge is 0, and its first step is taken. -/
def State.sideBegin (s : State) (p : Nat) (low : Bool) : State :=
  let s := s.setBench p { s.bench p with low := low, k := 1 }
  let s := (s.setReg (if low then benchEdgeLow p else benchEdgeHigh p) 0).setReg (benchStatus p) (if low then 3 else 2)
  s.benchTake p

/-- A sweep starts: its channel enters MARGIN at the held setpoint, and the high side is walked before the low one (R239). -/
def State.benchBegin (s : State) (p : Nat) : State :=
  let b := s.bench p
  let base := s.heldSetpoint b.chan
  let s := s.setBench p { b with base := base, phase := .returning }
  let s := (((s.setReg (benchEdgeHigh p) 0).setReg (benchEdgeLow p) 0).setReg (benchHighReason p) 0).setReg (benchLowReason p) 0
  let s := (s.setReg (benchAbortReason p) 0).marginOn b.chan base false
  s.sideBegin p (!bitOf b.sides 0)

/-- The step passed: its setpoint is the edge of the side, and the next step is taken (R239). -/
def State.stepPass (s : State) (p : Nat) : State :=
  let b := s.bench p
  let s := s.setReg (if b.low then benchEdgeLow p else benchEdgeHigh p) b.next.toNat
  if b.ending then s.sweepEnd p 4
  else (s.setBench p { b with k := b.k + 1 }).benchTake p

/-- The channel is back at the held setpoint: the low side follows, or the sweep ends (R239). -/
def State.sideOver (s : State) (p : Nat) : State :=
  let b := s.bench p
  if b.ending then s.sweepEnd p 4
  else if !b.low && bitOf b.sides 1 then s.sideBegin p true
  else s.sweepEnd p 0

/-- A move of the sweep is due: it is made at the end of the tick, after the window exits, shut-offs, relief, STOP and aborts of the tick
(R241). -/
def State.benchAct (s : State) (p : Nat) (a : BenchAct) : State := s.setBench p { s.bench p with pend := some a }

/-- The move that is due is made. -/
def State.benchDo (s : State) (p : Nat) : State :=
  let t := s.setBench p { s.bench p with pend := none }
  match (s.bench p).pend with
  | none => s
  | some .pass => t.stepPass p
  | some (.side r) => t.sideEnd p r
  | some .back => t.sideOver p

/-- The end of a tick: every sweep makes the move that is due. -/
def State.benchTurn (s : State) : State := s.each partitions (fun s p => s.benchDo p)

/-- The channel of a sweep is trimmed over PMBus at this port. -/
def State.sweepsOn (s : State) (p n : Nat) : Bool :=
  let c := (s.bench p).chan
  s.act (chTrimKind c) == 2 && tgtPort (s.act (tgtEntry (s.act (chTrimId c)))) == n

/-- A sweep of partition p has to wait (Table 8-4): the check tour runs in its cluster, or another sweep uses its PMBus port. -/
def State.sweepWaits (s : State) (p : Nat) : Bool :=
  let c := (s.bench p).chan
  let n := tgtPort (s.act (tgtEntry (s.act (chTrimId c))))
  s.tourRuns (clOf c) ||
    (s.act (chTrimKind c) == 2 && partitions.any (fun q => q != p && (s.bench q).phase.runs && s.sweepsOn q n))

/-- Sweeps that wait on the port of a sweep's channel. -/
def State.sweepsWaiting (s : State) (n : Nat) : Nat :=
  (partitions.filter (fun q => (s.bench q).phase == .waiting && s.sweepsOn q n)).length

/-- The parameters of a sweep, read at its start (R238). -/
def State.benchParams (s : State) (p : Nat) : Bench :=
  { phase := .waiting, chan := s.reg (benchChannel p), mode := s.reg (benchMode p), sides := s.reg (benchSides p),
    stepUv := s.reg (benchStep p), dwell := s.reg (benchDwell p), timeout := s.reg (benchVerdictTimeout p),
    watchCh := s.reg (benchWatchCh p), watchLo := s.reg (benchWatchLow p), watchHi := s.reg (benchWatchHigh p) }

/-- A sweep runs or waits. -/
def State.sweeping (s : State) (p : Nat) : Bool := (s.bench p).phase != .idle && (s.bench p).phase != .ended

/-- COMMAND 0x01 (R238): the refusals in their order, a second sweep of the partition before the state of its channel (Table 8-4), then the start,
or the wait of Table 8-4. -/
def State.benchWrite (s : State) (p : Nat) : State :=
  let b := s.benchParams p
  let c := b.chan
  if !(decide (c < 512) && s.kind c == 1 && s.chPart c == p && s.hasTrim c) ||
      (b.mode == 1 && !(decide (b.watchCh < 512) && s.kind b.watchCh != 0 && s.chPart b.watchCh == p)) || b.sides % 4 == 0 then s.answer 0x0301
  else if s.sweeping p then (s.bump16 maintRefusedCount).answer 0x0401
  else if (s.chan c).state ≠ .running ∨ 1 ≤ (s.part p).relief then s.answer 0x0506
  else if s.marginBarred p then (s.bump16 maintRefusedCount).answer 0x0401
  else
    let t := s.setBench p b
    if t.sweepWaits p then
      if s.act (chTrimKind c) = 2 ∧ 8 ≤ s.sweepsWaiting (tgtPort (s.act (tgtEntry (s.act (chTrimId c))))) then s.answer 0x0402
      else (({ t with waitMaint := t.waitMaint ++ [p] }.setReg (benchStatus p) 1).setReg (benchAbortReason p) 0).answer 2
    else (t.benchBegin p).answer 0

/-- BENCH_START (R238). -/
def execBenchStart (r : Role) (p : Fin 16) (s : State) : Outcome State Fault Refusal :=
  ok (s.item r (ownerOr r p) true (fun s => s.benchWrite p))

/-- BENCH_ABORT (R237, R240): COMMAND 0x02 ends the sweep and the static margins of the partition. -/
def execBenchAbort (r : Role) (p : Fin 16) (s : State) : Outcome State Fault Refusal :=
  ok (s.item r (ownerOr r p) true (fun s =>
    if s.sweeping p || (s.chansOf p).any (fun c => (s.chan c).staticMgn) then (s.benchAbort p 1).answer 0 else s.answer 0x0506))

/-- The channel of a sweep is settled at its setpoint, which is in force (R239). -/
def State.benchSettled (s : State) (p : Nat) : Bool :=
  let c := (s.bench p).chan
  s.isSettled c && (s.chan c).marginPend.isNone

/-- BENCH_SETTLED (R239): the dwell begins, or the return is over. -/
def execBenchSettled (p : Fin 16) (s : State) : Outcome State Fault Refusal :=
  if !s.benchSettled p || (s.bench p).pend.isSome then ok s
  else match (s.bench p).phase with
    | .settling => ok (s.setBench p { s.bench p with phase := .dwelling, since := s.now, watchBad := false })
    | .returning => ok (s.benchAct p .back)
    | _ => ok s

/-- BENCH_SETTLE_TIMEOUT (R239): 100 ms without settling; a channel that is settled by then has not failed. -/
def execBenchSettleTimeout (p : Fin 16) (s : State) : Outcome State Fault Refusal :=
  if s.benchSettled p || (s.bench p).pend.isSome || !s.passed (s.bench p).since (msTicks 100) then ok s
  else match (s.bench p).phase with
    | .settling => ok (s.benchAct p (.side 5))
    | .returning => ok (s.benchAct p .back)
    | _ => ok s

/-- The dwell of the present step ends once its time has passed (R239): HOST mode waits for its verdict from the dwell's end on, WATCH mode
judges the results of the dwell, GUARD mode passes. -/
def State.dwellOver (s : State) (p : Nat) : State :=
  let b := s.bench p
  if b.phase = .dwelling ∧ s.passed b.since (msTicks b.dwell) = true then
    if b.mode = 0 then s.setBench p { b with phase := .verdict, since := b.since + msTicks b.dwell }
    else s.benchAct p (if b.mode = 1 ∧ b.watchBad then .side 3 else .pass)
  else s

/-- The step fails with TIMEOUT once VERDICT_TIMEOUT has passed since the dwell's end without a verdict; a verdict in the very tick in which
it expires comes first (R239, R241). -/
def State.verdictOver (s : State) (p : Nat) : State :=
  let b := s.bench p
  if b.phase = .verdict ∧ b.pend = none ∧ b.since + msTicks b.timeout < s.now then s.benchAct p (.side 4) else s

/-- BENCH_DWELL_END (R239). -/
def execBenchDwellEnd (p : Fin 16) (s : State) : Outcome State Fault Refusal := ok (s.dwellOver p)

/-- The first verdict of the host after the dwell of a HOST step and no later than its timeout is the step's (R239). -/
def State.verdict (s : State) (p : Nat) (a : BenchAct) : State :=
  let s := if (s.bench p).mode = 0 then (s.dwellOver p).verdictOver p else s
  if (s.bench p).phase = .verdict ∧ (s.bench p).pend = none then (s.benchAct p a).answer 0 else s.answer 0x0506

/-- VERDICT_PASS (R239): VERDICT 0x01. -/
def execVerdictPass (r : Role) (p : Fin 16) (s : State) : Outcome State Fault Refusal :=
  ok (s.item r (ownerOr r p) true (fun s => s.verdict p .pass))

/-- VERDICT_FAIL (R239): VERDICT 0x02. -/
def execVerdictFail (r : Role) (p : Fin 16) (s : State) : Outcome State Fault Refusal :=
  ok (s.item r (ownerOr r p) true (fun s => s.verdict p (.side 2)))

/-- VERDICT_TIMEOUT (R239): no verdict within VERDICT_TIMEOUT of the dwell end. -/
def execVerdictTimeout (p : Fin 16) (s : State) : Outcome State Fault Refusal := ok (s.verdictOver p)

end Sys2Proof.Machine
end

