-- ==== Sys2Proof/Machine/Profile.lean ====
section
/-! DEFINITION. Values of dictionary entries (R316, Table 12-3 steps 10 and 11), and the shelves (R301 to R309): their layout, the
verification, the load into the shadow banks, their writing, and the switch from one shelf to another. -/
namespace Sys2Proof.Machine

open Host

/-! ### Values (R316) -/

/-- The characters of a STRING. -/
def isText (b : Bytes) : Bool := b.all (fun x => decide (0x20 ≤ x.toNat ∧ x.toNat ≤ 0x7E))

/-- What a table says of single fields of an entry beside its range: R70, Table 5-11, Table 7-11, Table 7-15, Table 10-7, Table 15-7, and
TELEM_MCAST of Table 13-13, whose multicast bit is the lowest bit of the first octet (log 17). The reserved fields of an action entry are
rule 2 of Table 5-10, which an EMPTY entry never breaks, so they are not refused at the write (R163). -/
def fieldsOk (base unit sub v : Nat) : Bool :=
  if base = 0x2200 ∧ sub = 3 then unit == 7 || v == 0
  else if base = 0x2880 ∧ (sub = 2 ∨ sub = 5) then decide (v ≤ 7)
  else if base = 0x2A00 then aeReserved v == 0 && aeFlagsReserved v == 0
  else if base = 0x3000 ∧ sub = 1 then unit != 0 || v == 1
  else if base = 0x3120 then field v 24 4 == 0 && decide (field v 0 17 ≤ 86399)
  else if base = 0x3810 then field v 30 2 != 3 && field v 24 6 == 0
  else if base = 0x4820 then field v 25 2 != 3 && !bitOf v 24 && field v 0 5 == 0
  else if base = 0x5820 ∧ sub = 0x0B then bitOf v 40 && decide (v < 281474976710656)
  else true

/-- DATA of a shelf and FW_DATA take a multiple of 16 bytes (R304 step 3, R420 step 2). -/
def wholeGranules (base sub : Nat) (b : Bytes) : Bool :=
  !(base == 0x1120 && sub == 3 || base == 0x7830 && sub == 3) || decide (b.length % 16 = 0)

/-- Step 11: the bytes of a value lie in the entry's range and encoding. The only STRING that can be written is NAME (Table 7-11). -/
def valueFits (base unit sub : Nat) (e : Entry) (b : Bytes) : Bool :=
  e.rng.has (leNat b) && fieldsOk base unit sub (leNat b) && (base != 0x3000 || sub != 0x10 || isText b) && wholeGranules base sub b

/-- Step 10: the length of a value. -/
def lengthFits (e : Entry) (b : Bytes) : Bool := decide (e.lenMin ≤ b.length ∧ b.length ≤ e.lenMax)

/-! ### The layout of a shelf (R301, R302, Table 11-6) -/

/-- First address of a shelf (Table 16-1). -/
def shelfBase (n : Nat) : Nat := 0x400000 + 0x80000 * n

/-- A field of a shelf's header: offset and length in bytes. -/
def State.hdr (s : State) (n off len : Nat) : Nat := leNat (s.readBytes (shelfBase n + off) len)

/-- LENGTH of a shelf as its header gives it. -/
def State.shelfLen (s : State) (n : Nat) : Nat := s.hdr n 12 4

/-- A LABEL: ASCII characters, padded with 0x00. -/
def labelOk (b : Bytes) : Bool := isText (b.takeWhile (fun x => x != 0)) && (b.dropWhile (fun x => x != 0)).all (fun x => x == 0)

/-- The header's own checks. -/
def State.hdrOk (s : State) (n : Nat) : Bool :=
  let len := s.shelfLen n
  s.readBytes (shelfBase n) 4 == ascii "SHLF" && s.hdr n 4 2 == 1 && s.hdr n 6 2 == 0 && decide (s.hdr n 8 4 < 2147483648) &&
    decide (128 ≤ len ∧ len ≤ 524288 ∧ len % 16 = 0) && s.hdr n 22 2 == 0 && labelOk (s.readBytes (shelfBase n + 32) 16) && s.hdr n 48 16 == 0

/-- The records of a body, in their order: index, sub-index, value; none where the layout is broken. The count is the number of
records. -/
def parseRecords : Nat → Bytes → Option (List (Nat × Nat × Bytes))
  | 0, b => if b.all (fun x => x == 0) then some [] else none
  | n + 1, b =>
    match b with
    | i0 :: i1 :: sub :: l :: rest =>
      let len := l.toNat
      let pad := (4 - len % 4) % 4
      if len = 0 ∨ rest.length < len + pad ∨ ((rest.drop len).take pad).any (fun x => x != 0) then none
      else (parseRecords n (rest.drop (len + pad))).map (fun t => (leNat [i0, i1], sub.toNat, rest.take len) :: t)
    | _ => none

/-- The key of a record that names an RWC entry with a value of its type and range (R302). -/
def recordKey (x : Nat × Nat × Bytes) : Option Nat :=
  match locate x.1 x.2.1 with
  | none => none
  | some (o, u, sub) =>
    match rowAt o u sub with
    | none => none
    | some e => if e.acc = .rwc ∧ lengthFits e x.2.2 ∧ valueFits o.base u sub e x.2.2 then some (rk o.base u sub) else none

/-- Strictly ascending index and sub-index. -/
def ascending : List Nat → Bool
  | [] => true
  | [_] => true
  | a :: b :: t => decide (a < b) && ascending (b :: t)

/-- The records of a shelf as keys and values; none where one of them is at fault. -/
def State.shelfRecords (s : State) (n : Nat) : Option (List (Nat × Nat)) :=
  match parseRecords (s.hdr n 16 4) (s.readBytes (shelfBase n + 64) (s.shelfLen n - 96)) with
  | none => none
  | some l =>
    if ascending (l.map (fun x => 256 * x.1 + x.2.1)) then l.mapM (fun x => (recordKey x).map (fun k => (k, leNat x.2.2))) else none

/-- The banks that a shelf loads: its records, and the default of every RWC entry that it does not carry (R302). -/
def State.shelfBank (s : State) (n : Nat) : List (Nat × Nat) :=
  ((s.shelfRecords n).getD []).foldl (fun t e => tabSet dflt t e.1 e.2) []

/-! ### Verification (R303, R460) -/

/-- A key derived from the owner key (R450). -/
def State.ownerKdf (s : State) (label : String) : Option (BitVec 128) :=
  (s.key 16).key.map (fun k => Config.kdf k (ascii label) (leBytes 8 Config.serial.toNat))

/-- The trailer: MAGIC, the version of the present owner key, reserved bytes, and TAG under the shelf key (R460). -/
def State.trailerOk (s : State) (n : Nat) : Bool :=
  let len := s.shelfLen n
  let t := s.readBytes (shelfBase n + len - 32) 32
  match s.ownerKdf "SHELF" with
  | none => false
  | some k =>
    t.take 4 == ascii "SEAL" && leNat ((t.drop 4).take 4) == s.reg (keyKeyVersion 16) && ((t.drop 8).take 8).all (fun x => x == 0) &&
      leNat (t.drop 16) == (Config.cmac k (s.readBytes (shelfBase n) (len - 16))).toNat

/-- A shelf reads all 0xFF. -/
def State.shelfEmpty (s : State) (n : Nat) : Bool :=
  !(s.flash.any (fun e => decide (shelfBase n ≤ e.1 ∧ e.1 < shelfBase (n + 1)) && s.granuleStatus (e.1 / 16) == 0))

/-- How far a shelf is read: LENGTH where the header gives a possible one, else the header. -/
def State.shelfSpan (s : State) (n : Nat) : Nat := if 128 ≤ s.shelfLen n ∧ s.shelfLen n ≤ 524288 then s.shelfLen n else 64

/-- STATUS of a shelf that is verified (Table 11-7): the first failure in the order of R303; a shelf that passes keeps REFUSED until its
next commit. -/
def State.shelfCheck (s : State) (n : Nat) : Nat :=
  if s.readStatus (shelfBase n) (s.shelfSpan n) = 4 then 2
  else if s.shelfEmpty n then 0
  else if !s.hdrOk n then 4
  else if !bitOf (s.hdr n 20 2) s.supply.devid then 5
  else if s.imgVersion s.sec.running < s.hdr n 24 4 then 6
  else if !s.trailerOk n then 3
  else if (s.shelfRecords n).isNone then 4
  else if s.reg (shelfStatus n) = 7 then 7 else 1

/-- What 0x1110 + s reports from the header (Table 11-13). -/
def State.shelfFields (s : State) (n : Nat) : State :=
  let g := fun (off len : Nat) => if s.shelfEmpty n then 0 else s.hdr n off len
  (((((s.setReg (shelfProfileId n) (g 8 4)).setReg (shelfLength n) (g 12 4)).setReg (shelfLabel n) (g 32 16)).setReg (shelfFwMin n)
    (g 24 4)).setReg (shelfBuildRtc n) (g 28 4)).setReg (shelfDevidMap n) (g 20 2)

/-- The margin sense of a read at an address. -/
def senseAt (hw : Hw) (a : Nat) : Sense := (tabFind hw.senses a).getD { corrected := 0, weak := 0, uncorrectable := [] }

/-- Verify a shelf: it is read, and takes its STATUS and its fields. -/
def State.shelfVerify (s : State) (n : Nat) (hw : Hw) : State :=
  let s := s.sensed (shelfBase n) (s.shelfSpan n) (senseAt hw (shelfBase n))
  (s.setReg (shelfStatus n) (s.shelfCheck n)).shelfFields n

/-- A shelf can be chosen (Table 11-7). -/
def State.selectable (s : State) (n : Nat) : Bool := s.reg (shelfStatus n) == 1 || s.reg (shelfStatus n) == 7

/-- COMPAT_Pp of a shelf (R307): 0 unless its STATUS is 1 or 7. -/
def State.compat (s : State) (n p : Nat) : Nat := if s.selectable n then compatOf (s.withPol (tabGet dflt (s.shelfBank n))) p else 0

/-! ### Writing a shelf (R304) -/

/-- A switch to shelf n is accepted or armed. -/
def State.switchTo (s : State) (n : Nat) : Bool :=
  match s.armed with
  | some { kind := .switch m _, .. } => m == n
  | _ => false

/-- Shelf n may not be the target of a write session: it is active or the target of a switch in progress. -/
def State.shelfBarred (s : State) (n : Nat) : Bool := s.reg profActiveShelf == n || s.switchTo n

/-- Who writes as DAP session k: what identifies the session, by which it is the same after it has closed and opened again (R342). -/
def State.who (s : State) (k : Nat) : Option (Transport × Nat × Nat) := (s.session k).map (fun x => (x.tr, x.ep, x.keyId))

/-- The open write session belongs to another DAP session. It is open from the erase to the seal (R304). -/
def State.shelfwOther (s : State) (k : Nat) : Bool := s.nv.shelfw.any (fun w => w.1 != s.who k)

/-- Shelf n has its write session open. -/
def State.shelfOpen (s : State) (n : Nat) : Bool := s.nv.shelfw.any (fun w => w.2 == n)

/-- TARGET_SHELF (R304 step 1). -/
def State.targetWrite (s : State) (k v : Nat) : State :=
  if s.shelfwOther k then s.answer 0x0401
  else if v < 4 ∧ s.shelfBarred v then s.answer 0x0509
  else (s.setReg shelfwTargetShelf v).answer 0

/-- OFFSET (R304 step 3). -/
def State.offsetWrite (s : State) (k v : Nat) : State :=
  if s.shelfwOther k then s.answer 0x0401 else (s.setReg shelfwOffset v).answer 0

/-- Work of a shelf waits for the flash, or its erase runs. -/
def State.shelfWork (s : State) (erase : Bool) : Bool :=
  let has := fun (o : NvOp) => decide (o.why = NvWhy.shelf) && o.erase == erase
  s.nv.queue.any has || (match s.nv.erase with
    | some o => has o
    | none => false)

/-- COMMAND 0x01 (R304 step 2): the target shelf is erased and reads WRITING. Without a target the command has no shelf (log 18). -/
def State.shelfErase (s : State) (k : Nat) : State :=
  let n := s.reg shelfwTargetShelf
  if s.shelfwOther k then s.answer 0x0401
  else if 4 ≤ n then s.answer 0x0506
  else if s.shelfBarred n then s.answer 0x0509
  else if s.nvStops then s.refuseStopped
  else
    let s := { s with nv := { s.nv with
      shelfw := some (s.who k, n), queue := s.nv.queue.filter (fun o => decide (o.why ≠ NvWhy.shelf)) } }
    let s := (s.nvAsk { why := .shelf, erase := true, addr := shelfBase n, count := 128 }).setReg (shelfStatus n) 8
    s.answer 2

/-- DATA (R304 step 3): a block at OFFSET of the open shelf, no granule twice; it waits for the erase (log 18). -/
def State.shelfData (s : State) (k : Nat) (data : Bytes) : State :=
  let n := s.reg shelfwTargetShelf
  let off := s.reg shelfwOffset
  let a := shelfBase n + off
  if s.shelfwOther k then s.answer 0x0401
  else if 4 ≤ n ∨ s.shelfOpen n = false then s.answer 0x0506
  else if s.shelfWork true then s.answer 0x0401
  else if 0x80000 < off + data.length then s.answer 0x0301
  else if s.blockFailed a data.length then s.answer 0x0703
  else if (granulesOf a data.length).any (fun g => (s.granule g).intent || s.granuleAsked g) then s.answer 0x0301
  else if s.blockSealed a data.length then s.answer 0x0605
  else if s.nvStops then s.refuseStopped
  else (s.askProgram .shelf a data).answer 2

/-- The write session ends; ST 0x0000 only when the shelf is VALID (R304 step 4, log 18). -/
def State.shelfSealed (s : State) (n : Nat) : State :=
  let st := if s.reg (shelfStatus n) = 1 then 0 else 0x050A
  { s with nv := { s.nv with shelfw := none } }.answer st

/-- COMMAND 0x02 (R304 step 4): the shelf is verified once its data are programmed. -/
def State.shelfSeal (s : State) (k : Nat) (hw : Hw) : State :=
  let n := s.reg shelfwTargetShelf
  if s.shelfwOther k then s.answer 0x0401
  else if 4 ≤ n ∨ s.shelfOpen n = false then s.answer 0x0506
  else if s.shelfWork true || s.shelfWork false then s.answer 0x0401
  else (s.shelfVerify n hw).shelfSealed n

/-- Hardware that answers nothing unusual: clean cells. -/
def noHw : Hw := { fabricOk := true, senses := [] }

/-- SHELF_ERASE (R304). -/
def execShelfErase (r : Role) (k : Nat) (s : State) : Outcome State Fault Refusal :=
  ok (s.item r (isOwner r) true (fun s => s.shelfErase k))

/-- SHELF_DATA (R304). -/
def execShelfData (r : Role) (k : Nat) (data : Bytes) (s : State) : Outcome State Fault Refusal :=
  let n := data.length
  ok (s.itemLen r (isOwner r) (decide (16 ≤ n ∧ n ≤ 256)) (decide (n % 16 = 0)) (fun s => s.shelfData k data))

/-- SHELF_SEAL (R304). -/
def execShelfSeal (r : Role) (k : Nat) (sense : Sense) (s : State) : Outcome State Fault Refusal :=
  ok (s.item r (isOwner r) true (fun s =>
    s.shelfSeal k { fabricOk := true, senses := [(shelfBase (s.reg shelfwTargetShelf), sense)] }))

/-! ### Switching (R309) -/

/-- A switch is refused: LAST_COMMIT_STATUS, EV 0x55 with the shelf, the code and the shelf's STATUS, 0xFF where there is no such shelf
(log 24). -/
def State.switchRefuse (s : State) (n st : Nat) : State :=
  ((s.setReg profLastCommitStatus st).raise 10 0x55 255 false
    ([BitVec.ofNat 8 n] ++ two st ++ [if n < 4 then BitVec.ofNat 8 (s.reg (shelfStatus n)) else 255])).answer st

/-- Table 8-4 refuses a switch to shelf n: a sweep or a static margin in a partition that it affects, or a firmware update. -/
def State.switchBarred (s : State) (n : Nat) : Bool :=
  s.fwUpdates || partitions.any (fun p =>
    (s.sweeping p || (s.chansOf p).any (fun c => (s.chan c).staticMgn)) && s.affectsTo (s.shelfBank n) p)

/-- Why a switch to shelf n is not accepted (R309 step 1), 0: it is. -/
def State.switchCheck (s : State) (n : Nat) : Nat :=
  let first := match s.armed with
    | some { kind := .powerUp _, .. } => true
    | _ => false
  if first then 0x0401
  else if s.armed.isSome && !s.checking then 0x0403
  else if s.armed.isSome then 0x0401
  else if s.shelfOpen n || s.switchBarred n then 0x0401
  else if !s.selectable n then 0x050A
  else 0

/-- The stage and check of a shelf (R303, R309 steps 3 and 4): a shelf that fails the check phase is REFUSED. -/
def State.shelfStage (s : State) (n : Nat) (k : CommitKind) (good : Bool) : State × Nat :=
  let (t, st) := { s with shadow := s.shelfBank n }.checkPhase k good
  if st = 0 then (t, 0) else ({ t with shadow := t.active }.setReg (shelfStatus n) 7, st)

/-- A switch to shelf n, by SWITCH or by pin-follow (R309): accept, verify, stage, check, arm. An armed switch answers when it ends. -/
def State.switchRequest (s : State) (n : Nat) (pin : Bool) (hw : Hw) : State :=
  match s.switchCheck n with
  | 0 =>
    let s := s.shelfVerify n hw
    if !s.selectable n then s.switchRefuse n 0x050A
    else
      let (t, st) := (s.discardSets 2).shelfStage n (.switch n pin) hw.fabricOk
      if st = 0 then (t.arm (.switch n pin)).answer 2 else t.switchRefuse n st
  | st =>
    let s := if st = 0x0401 ∧ s.switchBarred n then s.bump16 maintRefusedCount else s
    s.switchRefuse n st

end Sys2Proof.Machine
end

