-- ==== Sys2Proof/Machine/Retain.lean ====
section
/-! DEFINITION. What survives a loss of VCORE and what a cold start clears (R132, R286 to R288, R294, R413): the registers that flash or the
Hutch holds, the retained copy, and the two resets as shared operations. -/
namespace Sys2Proof.Machine

/-! ### Which register lives where (R287, R313, R262, R449) -/

/-- A register's object and sub-index lie in one of some ranges: first index of the object table, first and last sub-index. -/
def inRanges (l : List (Nat × Nat × Nat)) (k : Nat) : Bool :=
  l.any (fun r => r.1 == k / 16777216 && decide (r.2.1 ≤ k % 256 ∧ k % 256 ≤ r.2.2))

/-- Flash or the OTP holds FALLBACK_SHELF, what a shelf reports, FW_OTHER, OWNER_STATE, ROLLBACK_COUNT, REVOKED and the key versions. -/
def inFlash (k : Nat) : Bool :=
  inRanges [(0x1100, 5, 5), (0x1110, 1, 255), (0x1000, 7, 7), (0x6000, 1, 2), (0x6000, 4, 4), (0x6001, 1, 0x11)] k

/-- The Hutch holds 0x1180 and the acknowledged drawer numbers. -/
def inHutch (k : Nat) : Bool := inRanges [(0x1180, 1, 255), (0x4010, 4, 4)] k

/-- A firmware update that SLEEP leaves open keeps its place (R419). -/
def inSleep (k : Nat) : Bool := inRanges [(0x7830, 2, 2), (0x7830, 4, 4)] k

/-- The registers that the retained copy carries: those that their chapters declare to be reset only by a cold start (R287). -/
def retainedKey (k : Nat) : Bool :=
  inRanges [(0x1010, 4, 4), (0x1100, 0x0C, 0x0C), (0x2400, 7, 0x0D), (0x2600, 1, 255), (0x2700, 5, 5), (0x2700, 7, 0x0B),
    (0x2710, 1, 1), (0x2820, 2, 2), (0x2840, 0x0A, 0x0C), (0x3020, 8, 8), (0x3020, 0x0A, 0x0B), (0x3140, 5, 6), (0x3400, 8, 8),
    (0x3480, 5, 5), (0x34F0, 3, 3), (0x3820, 8, 0x0B), (0x4001, 5, 0x0A), (0x4010, 5, 5), (0x4808, 2, 8), (0x4811, 1, 3),
    (0x4819, 1, 3), (0x5020, 0x0B, 0x0C)] k ||
  inRanges [(0x5801, 2, 8), (0x5818, 4, 7), (0x5828, 4, 9), (0x5830, 3, 3), (0x5851, 3, 0x0B), (0x58C0, 4, 5), (0x58C0, 7, 7),
    (0x6000, 5, 7), (0x7020, 0x0A, 0x0B), (0x7030, 1, 1), (0x7030, 3, 3), (0x7030, 5, 5), (0x7801, 6, 0x10), (0x7F00, 1, 2),
    (0x7F00, 7, 7), (0x7F00, 0x0B, 0x0B), (0x7F10, 1, 2)] k

/-- The energies of partition p since the cold start that a copy carries: from the power-loss warning on those at the warning, since
energy between it and the loss of VCORE is not counted (R224). -/
def State.keptIn (s : State) (p : Nat) : Nat := if s.supply.plw then tabGet dflt s.retained (ledsEnergyIn p) else (s.part p).totIn
def State.keptOut (s : State) (p : Nat) : Nat := if s.supply.plw then tabGet dflt s.retained (ledsEnergyOut p) else (s.part p).totOut

/-- The retained copy (R287): the retained registers, and beside them the energies since the cold start in nJ under the keys of
ENERGY_IN and ENERGY_OUT, and the number of the next event under that of NEWEST_ESEQ. -/
def State.retainCopy (s : State) : List (Nat × Nat) :=
  let t := s.regs.filter (fun e => retainedKey e.1)
  let t := tabSet dflt t evNewestEseq s.evNext
  partitions.foldl (fun t p => tabSet dflt (tabSet dflt t (ledsEnergyIn p) (s.keptIn p)) (ledsEnergyOut p) (s.keptOut p)) t

/-- What 0x2600 + n keeps of a cluster until a cold start: which slice serves which group, the suspect and failed slices, REF_SUSPECT. -/
def ClusterX.kept (x : ClusterX) : ClusterX :=
  { sliceMap := x.sliceMap, suspect := x.suspect, failed := x.failed, refSuspect := x.refSuspect }

/-- The clusters with what they keep. -/
def State.keptClusters (s : State) : List (Nat × ClusterX) :=
  s.clusters.foldl (fun t e => tabSet (fun _ => {}) t e.1 e.2.kept) []

/-- Make the retained copy: fresh at a warning or by SLEEP, or the periodic one. -/
def State.retain (s : State) (fresh : Bool) : State :=
  { s with retained := s.retainCopy, supply := { s.supply with
    copyFresh := fresh, keptCls := s.keptClusters, keptFails := s.entries.map (fun e => (e.1, e.2.fails)) } }

/-- Restore the retained values before the first commit of a power-up (R287); every other register of a VCORE island starts at its
default, and FRAME_SEQ of each stream at its retained value plus 65,536 (Table 13-7). -/
def State.restore (s : State) : State :=
  let r := s.retained
  let kept := s.regs.filter (fun (e : Nat × Nat) => inFlash e.1 || inHutch e.1 || inSleep e.1)
  let s := { s with
    regs := (r.filter (fun (e : Nat × Nat) => retainedKey e.1)).foldl (fun t (e : Nat × Nat) => tabSet dflt t e.1 e.2) kept,
    evNext := tabGet dflt r evNewestEseq, clusters := s.supply.keptCls,
    supply := { s.supply with retainStale := !s.supply.copyFresh } }
  let s := s.supply.keptFails.foldl (fun s e => s.setEntry e.1 { s.entry e.1 with fails := e.2 }) s
  let s := s.each (List.range 32) (fun s k => s.setReg (strsFrameSeq k) ((s.reg (strsFrameSeq k) + 65536) % 4294967296))
  s.each partitions (fun s p =>
    s.setPart p { s.part p with totIn := tabGet dflt r (ledsEnergyIn p), totOut := tabGet dflt r (ledsEnergyOut p) })

/-! ### Loss of VCORE (R132, R285, R290, R413) -/

/-- The program operation in progress: a warned device completes it within its hold-up (R290, R292), else it ends after a number of
commit markers that the spec leaves open (log 3). -/
def State.programStops (s : State) : State :=
  match s.nv.program with
  | none => s
  | some o =>
    match s.log.writing with
    | some (n, d) =>
      if s.supply.plw then (s.setMarkers o.addr o.data 8).drawerDone n d
      else
        let k := (Config.freeValue s.draws).toNat % (granulesOf o.addr o.data.length).length
        ({ s with draws := s.draws + 1 }.tear o k).drawerTorn d
    | none => s

/-- The enables under the clamp of R132: each latch keeps its configured mode and polarity at the inactive level. -/
def State.clampedEns (s : State) : List (Nat × EnX) :=
  s.ens.foldl (fun t e => tabSet (fun _ => {}) t e.1 { e.2 with asserted := false }) []

/-- Every VCORE island loses its supply: the clamp, EN_CORE inactive, and all that these islands hold is gone. The Hutch keeps its own
state, staging RAM, the merges in progress (R244, R252), retained RAM and its record of live partitions; flash keeps its cells. -/
def State.vcoreDown (s : State) : State :=
  let s := s.programStops.each partitions (fun s p => s.keepMerge p)
  let live := partitions.filter (fun p => (s.part p).state.isLive)
  { State.reset with
    pending := s.pending, status := s.status, reply := s.reply, now := s.now, timeFree := s.timeFree, refFailAt := s.refFailAt,
    regs := s.regs.filter (fun e => inFlash e.1 || inHutch e.1), retained := s.retained,
    ens := s.clampedEns, vioLost := s.vioLost, evNext := s.evNext,
    evQueues := s.evQueues.filter (fun e => e.1 == 9), evQueueGap := s.evQueueGap.filter (fun d => d == 9),
    outFrames := s.outFrames, keys := s.keys,
    trestle := { dup := s.trestle.dup },
    supply := { s.supply with
      clamp := true, vcore := false, enCore := false, clockBad := [], plwPending := s.supply.plwPending || (s.supply.plw && s.supply.vcore), lpCycleAt := none,
      pselDue := s.supply.pselNow != s.supply.psel, pselAsk := none, loadNext := none,
      liveParts := if s.supply.vcore then live else s.supply.liveParts },
    ledger := { queue := s.ledger.queue, seq := s.ledger.seq, ringPos := s.ledger.ringPos,
                snapshot := s.ledger.snapshot },
    nv := { badCopies := s.nv.badCopies },
    log := { s.log with writing := none, command := 0, cmdSnap := {}, left := [], erased := 0, readStat := [] },
    sec := { s.sec with challenge := none, halted := false, inRom := false, romUp := false, initFails := 0 },
    flash := s.flash, granules := s.granules, sectors := s.sectors, draws := s.draws }

/-! ### Cold start (R27, R286, R341) -/

/-- A cold start of the device: everything but flash is cleared. The position of the drawer ring and the next SEQ follow from what the
flash holds (R252, R256). -/
def State.coldStart (s : State) : State :=
  { State.reset with
    pending := s.pending, regs := s.regs.filter (fun e => inFlash e.1),
    keys := (List.range 17).foldl (fun t k => tabSet (fun _ => {}) t k (s.key k).coldStart) [],
    outFrames := s.outFrames, vioLost := s.vioLost,
    ledger := { seq := s.ledger.seq, ringPos := s.ledger.ringPos },
    nv := { badCopies := s.nv.badCopies },
    log := { writePos := s.log.writePos, nextSeq := if (s.seqSlots none).isEmpty then 0 else (s.lastSeq + 1) % 4294967296 },
    sec := { running := s.sec.running, bootBank := s.sec.bootBank, bootOther := s.sec.bootOther, factory := s.sec.factory, draws := s.sec.draws,
             unlocked := s.sec.unlocked },
    flash := s.flash, granules := s.granules, sectors := s.sectors, draws := s.draws }

end Sys2Proof.Machine
end

