-- ==== Sys2Proof/Machine/Boot.lean ====
section
/-! DEFINITION. The management island in reset and its return (R24, R35, R36, R288, R289, R447), and the load of the power-up profile (R305,
R306). -/
namespace Sys2Proof.Machine

open Host

/-! ### The choice of a bank (R447) -/

/-- The bank that a boot prefers: BOOT_BANK, or the other one while BOOT_OTHER is set. -/
def State.bootPref (s : State) : Nat := if s.sec.bootOther then 1 - s.sec.bootBank else s.sec.bootBank

/-- The bank that a boot runs, with the failing check of the preferred one (0: it runs itself); none when neither bank is valid. -/
def State.bootChoice (s : State) : Option (Nat × Nat) :=
  let b := s.bootPref
  if s.imageCheck b = 0 then some (b, 0)
  else if s.imageCheck (1 - b) = 0 then some (1 - b, s.imageCheck b) else none

/-- Run a bank: BOOT_BANK is that bank, and BOOT_OTHER is clear unless the running bank had to be booted again (Table 16-3). FW_OTHER takes the
version of a valid image in the bank that no longer runs. EV 0x60 when the preferred bank failed. -/
def State.runBank (s : State) (b check : Nat) : State :=
  let was := s.sec.running
  let s := { s with sec := { s.sec with
    running := b, bootBank := b, bootOther := s.sec.bootOther && check != 0 && b == was, inRom := false } }
  let s := if was = b then s else s.setReg identFwOther (if s.imageCheck was = 0 then s.imgVersion was else 0)
  if check = 0 then s else s.raise 10 0x60 255 false [BitVec.ofNat 8 b, BitVec.ofNat 8 check]

/-- No bank is valid: the boot ROM goes on looking (R447). -/
def State.stayInRom (s : State) : State := { s with mgmtDown := true, sec := { s.sec with inRom := true, romAt := s.now } }

/-! ### The profile of a power-up (R305, R306) -/

/-- One shelf is tried: one that reads WRITING is not verified (R304), any other is, and a selectable one is staged, checked and armed. It
answers whether it is armed. -/
def State.tryShelf (s : State) (n : Nat) (hw : Hw) : State × Bool :=
  if s.reg (shelfStatus n) = 8 then (s, false)
  else
    let s := s.shelfVerify n hw
    if !s.selectable n then (s, false)
    else
      let (t, st) := s.shelfStage n (.powerUp n) hw.fabricOk
      if st = 0 then (t.arm (.powerUp n), true) else (t.setReg profLastCommitStatus st, false)

/-- The fallback shelf is tried in its turn; without a commit EV 0x56 says so. -/
def State.tryFallback (s : State) (hw : Hw) : State :=
  let f := s.reg profFallbackShelf
  if 4 ≤ f ∨ f = s.supply.psel then s.fallbackEvent false 255
  else
    let (t, armed) := s.tryShelf f hw
    if armed then t else t.fallbackEvent true 255

/-- The shelf named by PSEL, then the fallback (R305). -/
def State.loadProfile (s : State) (hw : Hw) : State :=
  let (t, armed) := s.tryShelf s.supply.psel hw
  if armed then t else t.tryFallback hw

/-- A power-up whose shelf n was not confirmed goes on with the fallback, or stays without a configuration (R305); in a management reset it
does so when the plane resumes. -/
def State.powerUpAbandoned (s : State) (n : Nat) (hw : Hw) : State :=
  if s.mgmtDown then { s with supply := { s.supply with loadNext := some n } }
  else if n = s.supply.psel then s.tryFallback hw else s.fallbackEvent true 255

/-- What an abandoned commit of the power-up left to be done is done: with clean cells and a passing fabric test (log 24). -/
def State.loadOn (s : State) : State :=
  match s.supply.loadNext with
  | none => s
  | some n => { s with supply := { s.supply with loadNext := none } }.powerUpAbandoned n noHw

/-! ### A management reset (R35, R288, R325, R342, R366, R370, R398) -/

/-- Bench sweeps at a management reset: a running one ends after its step, a waiting one and every static margin end (R35,
R237, Table 8-3). -/
def State.sweepsReset (s : State) : State :=
  s.each partitions (fun s p =>
    let s := s.each ((s.chansOf p).filter (fun c => (s.chan c).staticMgn)) (fun s c => s.marginOff c)
    let b := (s.part p).bench
    if b.phase.runs then s.setPart p { s.part p with bench := { b with ending := true } }
    else if b.phase = .waiting then s.sweepEnd p 4
    else s)

/-- The working entries of the management island return to their defaults (log 19). -/
def State.workReset (s : State) : State :=
  let s := s.each [profCommitLead, shelfwTargetShelf, shelfwOffset, fwFwOffset] (fun s k => s.setReg k (dflt k))
  if s.reg fwFwState = 5 then s.setReg fwFwState 4 else s

/-- A switch that has not yet been armed, which is one of this tick, is abandoned: LAST_COMMIT_STATUS, EV 0x55 when the plane resumes, and a
request of the pins is tried again (R309). -/
def State.switchStops (s : State) : State :=
  match s.armed with
  | some { kind := .switch n pin, since := t, .. } =>
    if t = s.now then
      { s with
        armed := none, switchSt := 0, shadow := s.active,
        later := s.later ++ [(s.now, 0x55, 255, [BitVec.ofNat 8 n] ++ two 0x0401 ++ [BitVec.ofNat 8 (s.reg (shelfStatus n))])],
        supply := { s.supply with pselAsk := if pin then some (n, List.replicate 64 true) else s.supply.pselAsk } }.setReg profLastCommitStatus 0x0401
    else s
  | _ => s

/-- A management reset begins, with its code of Table 11-4. -/
def State.mgmtReset (s : State) (code : Nat) : State :=
  let s := (s.switchStops.setReg supLastMgmtReset code).bump16 supMgmtResetCount
  let s := (s.discardSets 1).sweepsReset.workReset
  { s with
    mgmtDown := true, shadow := if s.armed.isSome then s.shadow else s.active, sessions := [], asms := [], inbox := [], waits := [],
    evRing := [], ev04At := none, waitMaint := [], fwWaitAt := none, peerReq := none,
    svc := s.svc.filterMap (fun e => let x := { e.2 with pointer := 0 }; if x = {} then none else some (e.1, x)),
    host := { s.host with out := [], sleep := false, woke := false, wakeOpen := false, wakeReason := 0 },
    ledger := { s.ledger with hold := true },
    supply := { s.supply with mgmtDownAt := if s.mgmtDown then s.supply.mgmtDownAt else s.now },
    sec := { s.sec with inRom := false, challenge := none, halted := false } }

/-! ### Its end (R24, R36, R218, R277, R355, R401) -/

/-- The events held by one island are entered in their order; the first after a discard carries GAP (R24). -/
def State.deliverQueue (s : State) (dom : Nat) : State :=
  let q := tabGet (fun _ => []) s.evQueues dom
  let gap := s.evQueueGap.contains dom
  let s := { s with evQueues := tabErase s.evQueues dom, evQueueGap := s.evQueueGap.filter (fun d => d != dom) }
  q.zipIdx.foldl (fun s e => s.ringEnter { e.1 with gap := gap && e.2 == 0 }) s

/-- The held events of every island, and those that the management plane owes. In which order the islands' queues enter is left open; the
model takes them by ascending domain (log 24). -/
def State.deliverHeld (s : State) : State :=
  let s := s.each ((List.range 18).map (fun i => i + 1)) (fun s d => s.deliverQueue d)
  let l := s.later
  l.foldl (fun s e => s.ringEnter { code := e.2.1, source := 10, part := e.2.2.1, param := e.2.2.2, stamp := e.1 }) { s with later := [] }

/-- Grace timers shift by the time for which the management plane was down (R35). -/
def State.shiftGrace (s : State) : State :=
  let d := s.now - s.supply.mgmtDownAt
  s.each (partitions.filter (fun p => s.reg (partsGraceEnd p) != 0)) (fun s p => s.setReg (partsGraceEnd p) (s.reg (partsGraceEnd p) + d))

/-- What stood still during the reset goes on: grace timers shift by the time it took (R35), the host watch restarts (R355), thermal counts
other than that of HOT_SHUT are 0 and no neighbour is fresh (R277). -/
def State.resumeTimers (s : State) : State :=
  let s := s.shiftGrace.each partitions (fun s p => s.setPart p { s.part p with hostAt := (s.part p).hostAt.map (fun _ => (s.part p).hostStart s.now) })
  let t := s.thermal
  let later := fun (x : Option Nat) => x.map (fun b => b + (s.now - s.supply.mgmtDownAt))
  { s with thermal := { t with
      beyondFrom := later t.beyondFrom, withinFrom := later t.withinFrom,
      hotRelief := { t.hotRelief with count := 0 }, hotWarn := { t.hotWarn with count := 0 },
      coldInhibit := { t.coldInhibit with count := 0 }, coldWarn := { t.coldWarn with count := 0 },
      neighbours := t.neighbours.map (fun x => (x.1, { x.2 with fresh := false })) } }

/-- The management plane is up: MGMT_UP_SINCE; every request buffer and frame queue of SVC is empty (R401). -/
def State.mgmtUp (s : State) : State := { s with mgmtDown := false, svc := [], sec := { s.sec with romUp := false } }.setReg devMgmtUpSince s.now

/-- The management plane resumes in a bank: it adopts the configuration and the states as they are, without a commit (R36), and raises EV
0x51 with the cause. -/
def State.resumeIn (s : State) (b check : Nat) : State :=
  let s := if s.reg supLastMgmtReset = 5 then s.setReg fwFwState 0 else s
  let s := s.mgmtUp.resumeTimers.runBank b check
  ((s.deliverHeld).raise 10 0x51 255 false [BitVec.ofNat 8 (s.reg supLastMgmtReset)]).loadOn

/-- MGMT_RESUME (R36, R447): the end of a management reset with a valid bank. -/
def execMgmtResume (s : State) : Outcome State Fault Refusal :=
  if !s.mgmtDown || !s.supply.vcore || s.sec.inRom || s.sec.halted || s.islandBad.contains 10 then ok s
  else match s.bootChoice with
    | some (b, c) => ok (s.resumeIn b c)
    | none => ok s.stayInRom

/-- BOOT_RETRY (R447): every 10 s the boot ROM looks again. A power-up that had no valid bank goes on with its profile (R306, log 19). -/
def execBootRetry (hw : Hw) (s : State) : Outcome State Fault Refusal :=
  if !s.sec.inRom || !s.supply.vcore || !s.passed s.sec.romAt (sTicks 10) then ok s
  else match s.bootChoice with
    | none => ok s.stayInRom
    | some (b, c) =>
      if s.sec.romUp then ok ((s.mgmtUp.runBank b c).deliverHeld.loadProfile hw)
      else ok (s.resumeIn b c)

end Sys2Proof.Machine
end

