-- ==== Sys2Proof/Machine/Channels.lean ====
section
/-! DEFINITION. The commands of a channel's comparators and timers (R52 to R58, R101 to R107) and of its counters (R62). -/
namespace Sys2Proof.Machine

open Host

/-- Set the deglitch output of one comparator. -/
def ChanX.setCmp (x : ChanX) (side : Side) (b : Bool) : ChanX :=
  match side with
  | .upper => { x with upperCmp := b }
  | .lower => { x with lowerCmp := b }

/-- Whether another cause of this very tick cut the channel while it was connected (R56, R57 item 1). -/
def State.cutNow (s : State) (c : Nat) : Bool := (s.chan c).cutAt == some (s.ctr (clOf c))

/-- A window exit of a channel that is not connected (Table 2-3): SETTLE goes back to RAMP, an ABSENT channel waits to enter window
again, any other keeps its state. -/
def State.exitUnjoined (s : State) (c : Nat) : State :=
  match (s.chan c).state with
  | .settle => ((s.markTick c).toState c .ramp (s.ctr (clOf c))).bump16 (chsWindowExits c)
  | _ => s

/-! ### The compare (R101, R104) -/

/-- A threshold code in nanovolts at the pin (R101): one step is 2.34375 mV. -/
def codeNv (code : Nat) : Int := (code * 2343750 : Nat)

/-- The comparator of a crossing is asserted at its deglitch output (R101, R104): the pin is beyond its threshold, and has been for DEGLITCH
times 10 ns without interruption. -/
def State.asserts (s : State) (c : Nat) (x : Crossing) : Bool :=
  decide (10 * s.act (chDeglitch c) ≤ x.held) &&
    match x.side with
    | .upper => decide (codeNv (s.act (chUpperCode c)) < x.pin)
    | .lower => decide (x.pin < codeNv (s.act (chLowerCode c)))

/-- An output that is asserted (upper, lower) clears at a pin voltage: by the hysteresis inside its threshold; between the two points it
keeps what it was (R101). -/
def State.clearsAt (s : State) (c : Nat) (outs : Bool × Bool) (pin : Int) : Bool :=
  let h := codeNv (s.act (chHysteresis c))
  (!outs.1 || decide (pin < codeNv (s.act (chUpperCode c)) - h)) && (!outs.2 || decide (codeNv (s.act (chLowerCode c)) + h < pin))

/-! ### The comparators (R53 to R58, R102) -/

/-- The outputs as they are while the clock of the cluster is lost. -/
def ChanX.lostOuts (x : ChanX) : Bool × Bool := x.lostCmp.getD (x.upperCmp, x.lowerCmp)

/-- A window exit of a channel of a cluster whose clock runs: nothing more than the flag when the channel was out of window already. -/
def State.windowExit (s : State) (c : Nat) (side : Side) : State :=
  let wasIn := s.inWindow c
  let joined := s.connected c || s.cutNow c
  let x := (s.chan c).setCmp side true
  let t := s.ctr (clOf c)
  let s := s.setChan c { x with exitAt := if wasIn then some t else x.exitAt,
                                upperAt := if side = .upper then some t else x.upperAt }
  let s := if side = .upper then s.noteCap (fun src d _ => src == 7 && d == c) t else s
  if !wasIn then s
  else if joined then s.trip c side
  else s.exitUnjoined c

/-- The deglitch output of one comparator asserts. While the clock of the cluster is lost nothing is stamped, no state changes, and the flags
stay (R59). -/
def State.exitAt (s : State) (c : Nat) (side : Side) : State :=
  if (s.cluster (clOf c)).clockLost then
    let x := s.chan c
    let o := x.lostOuts
    s.setChan c { x with lostCmp := some (o.1 || side == .upper, o.2 || side == .lower) }
  else (s.timersBy (s.stateOwner c)).windowExit c side

/-- WINDOW_EXIT (R53 to R58, R101, R102): a comparator finds the pin beyond its threshold, for the deglitch time. A channel that leaves window
trips when it is connected; an exit is judged under the configuration of its stamp (R19). -/
def execWindowExit (c : Fin 512) (x : Crossing) (s : State) : Outcome State Fault Refusal :=
  ok (s.swapIfDue.inBank (clOf c) (fun s => if s.kind c = 0 || !s.asserts c x then s else s.exitAt c x.side))

/-- A channel enters window (Table 2-3): ARMED goes to SETTLE with RAMP_SKIPPED, RAMP goes to SETTLE, and an ABSENT channel starts its settle
timer. A deadline reached in this tick wins (R57 item 6), so the state stays for it. -/
def State.windowEnter (s : State) (c : Nat) : State :=
  let t := s.ctr (clOf c)
  let x := s.chan c
  let s := s.setChan c { x with upperCmp := false, lowerCmp := false, lowerOff := if x.lowerCmp then some t else x.lowerOff }
  let s := if x.lowerCmp then s.noteCap (fun src d _ => src == 6 && d == c) t else s
  if s.kind c ≠ 1 then s
  else
    let late := decide (s.deadlineDue c ≤ t)
    let s := (s.markTick c).setChan c { (s.markTick c).chan c with settleAt := t }
    match (s.chan c).state with
    | .armed => if late then s else ((s.setChan c { s.chan c with rampSkip := true }).enterSettle c).gateTrip c
    | .ramp => if late then s else (s.enterSettle c).gateTrip c
    | _ => s

/-- Both deglitch outputs of a channel are clear at a pin voltage, of which one was asserted. -/
def State.enterAt (s : State) (c : Nat) (pin : Int) : State :=
  if (s.cluster (clOf c)).clockLost then
    if s.clearsAt c (s.chan c).lostOuts pin then s.setChan c { s.chan c with lostCmp := some (false, false) } else s
  else if s.inWindow c || !s.clearsAt c ((s.chan c).upperCmp, (s.chan c).lowerCmp) pin then s
  else (s.timersBy c).windowEnter c

/-- WINDOW_ENTER (R53, R101, Table 2-3): the comparators find the pin inside their thresholds by the hysteresis. -/
def execWindowEnter (x : Inside) (s : State) : Outcome State Fault Refusal :=
  ok (s.swapIfDue.inBank (clOf x.chan) (fun s => if s.kind x.chan = 0 then s else s.enterAt x.chan x.pin))

/-- SETTLE_TIME_EXPIRE (R53, R55): in window without interruption for SETTLE_TIME. -/
def execSettleTimeExpire (c : Fin 512) (s : State) : Outcome State Fault Refusal :=
  ok (s.swapIfDue.inBank (clOf c) (fun s => s.settleBy c (s.ctr (clOf c))))

/-- DEADLINE_EXPIRE (R55): the deadline timer of an ARMED, RAMP or SETTLE channel has reached DEADLINE. -/
def execDeadlineExpire (c : Fin 512) (s : State) : Outcome State Fault Refusal :=
  ok (s.swapIfDue.inBank (clOf c) (fun s => (s.settleBy c (s.ctr (clOf c))).deadlineBy c (s.ctr (clOf c))))

/-- The counters of Table 2-6 that CLEAR returns to their defaults: sub-indices 0x07 to 0x0D. -/
def State.clearCounts (s : State) (c : Nat) : State :=
  s.each [0x07, 0x08, 0x09, 0x0A, 0x0B, 0x0C, 0x0D] (fun s sub => s.setReg (rk 0x2400 c sub) (dflt (rk 0x2400 c sub)))

/-- CLEAR (R62, R63): OWNER and the PARTITION role of the channel's own partition. -/
def execClear (r : Role) (c : Fin 512) (v : Byte) (s : State) : Outcome State Fault Refusal :=
  ok (s.item r (ownerOr r (s.chPart c)) (v == 1) (fun s => (s.clearCounts c).answer 0))

end Sys2Proof.Machine
end

