-- ==== Sys2Proof/Machine/Security.lean ====
section
/-! DEFINITION. Security functions (R448 to R461): keys, the debug port, attestation, the rollback advance; and firmware activation (R420)
with the maintenance waits of Table 8-4. -/
namespace Sys2Proof.Machine

open Host

/-! ### Keys (R449 to R453) -/

/-- The key under which OWNER_INIT is wrapped: derived from the device unique key (R450, R451). -/
def transportKey : BitVec 128 := Config.kdf Config.deviceKey Config.transportLabel (leBytes 8 Config.serial.toNat)

/-- Load a key: its version, its counters at 0 (R453). -/
def State.loadKey (s : State) (id version : Nat) (key : BitVec 128) : State :=
  (s.setKey id { key := some key }).setReg (keyKeyVersion id) version

/-- OWNER_INIT (R451): VERSION and the wrapped owner key. -/
def State.ownerInit (s : State) (b : Bytes) : State :=
  let version := leNat (b.take 4)
  if s.reg secOwnerState = 1 then s.answer 0x0506
  else if 16 ≤ s.sec.initFails then s.answer 0x0402
  else if version = 0 then s.answer 0x0301
  else match Config.unwrap transportKey (b.drop 4) with
    | none => { s with sec := { s.sec with initFails := s.sec.initFails + 1 } }.answer 0x0202
    | some key => (((s.loadKey 16 version key).setReg secOwnerState 1).raise 10 0x63 255 false (leBytes 4 version)).answer 0

/-- OWNER_INIT (R451): by the SERVICE role through the SVC service form, or OWNER (R463). -/
def execOwnerInit (r : Role) (val : Bytes) (s : State) : Outcome State Fault Refusal :=
  let right := match r with
    | .owner => true
    | .service => true
    | _ => false
  ok (s.itemLen r right (decide (val.length = 28)) true (fun s => s.ownerInit val))

/-- A shelf seal or a profile switch is in progress (R452): a write session is open, or a switch is armed. -/
def State.sealOrSwitch (s : State) : Bool := s.switching || (List.range 4).any (fun n => s.shelfOpen n)

/-- Fields of a KEY_LOAD value (Table 18-11). -/
def klId (b : Bytes) : Nat := leNat (b.take 1)
def klVersion (b : Bytes) : Nat := leNat ((b.drop 4).take 4)

/-- KEY_LOAD's own encoding: KEY_ID 0x00 to 0x10, three bytes of 0. -/
def keyLoadFits (b : Bytes) : Bool := decide (klId b ≤ 16) && ((b.drop 1).take 3).all (fun x => x == 0)

/-- KEY_LOAD (R452, R453): the checks of its value, then the change of the key, which leaves its sessions to be closed. -/
def State.keyLoad (s : State) (b : Bytes) : State :=
  let id := klId b
  if klVersion b ≤ s.reg (keyKeyVersion id) then s.answer 0x0301
  else if id = 16 ∧ s.sealOrSwitch then s.answer 0x0401
  else match s.ownerKdf "KEYLOAD" with
    | none => s.answer 0x0202
    | some k =>
      match Config.unwrap k (b.drop 8) with
      | none => s.answer 0x0202
      | some key =>
        (((s.loadKey id (klVersion b) key).bump16 secKeyLoads).raise 10 0x62 255 false
          (BitVec.ofNat 8 id :: leBytes 4 (klVersion b))).answer 0

/-- The sessions of a KEY_ID close (R342, R453). -/
def State.closeKey (s : State) (id : Nat) : State := s.closeSessions (fun x => x.keyId == id)

/-- KEY_LOAD (R452). -/
def execKeyLoad (r : Role) (val : Bytes) (s : State) : Outcome State Fault Refusal :=
  ok (s.itemLen r (isOwner r) (decide (val.length = 32)) (keyLoadFits val) (fun s =>
    let t := s.keyLoad val
    if t.status = 0 then t.closeKey (klId val) else t))

/-! ### Debug port (R456 to R459) -/

/-- DEBUG_CHALLENGE (R457): 16 fresh random bytes, valid for 60 s; an earlier challenge is void. -/
def State.debugChallenge (s : State) : State :=
  let c := Config.randomBytes s.sec.draws
  { s with sec := { s.sec with draws := s.sec.draws + 1, challenge := some (c, s.now) }, status := 0, reply := leBytes 16 c.toNat }

def execDebugChallenge (r : Role) (s : State) : Outcome State Fault Refusal := ok (s.item r (isOwner r) true (fun s => s.debugChallenge))

/-- A response matches the challenge: the CMAC under the debug key over the challenge followed by SERIAL. -/
def State.responseOk (s : State) (b : Bytes) : Bool :=
  match s.sec.challenge, s.ownerKdf "DEBUG" with
  | some (c, t), some k =>
    decide (s.now ≤ t + sTicks 60) && leNat b == (Config.cmac k (leBytes 16 c.toNat ++ leBytes 8 Config.serial.toNat)).toNat
  | _, _ => false

/-- An accepted response, in its order (R458). -/
def State.debugUnlock (s : State) : State :=
  let s := s.each (List.range 16) (fun s k => s.setKey k { s.key k with key := none })
  let s := s.closeSessions (fun x => decide (x.keyId < 16))
  let s := s.stage (s.kindDrawer 2)
  let s := { s with sec := { s.sec with unlocked := true } }
  (s.bump16 secDebugUnlocks).raise 10 0x64 255

/-- DEBUG_RESPONSE (R457): every partition DOWN; a wrong or late response voids the challenge. -/
def State.debugResponse (s : State) (b : Bytes) : State :=
  if partitions.any (fun p => (s.part p).state != .down) then s.answer 0x0508
  else
    let good := s.responseOk b
    let s := { s with sec := { s.sec with challenge := none } }
    if good then s.debugUnlock.answer 0 else s.answer 0x0202

def execDebugResponse (r : Role) (val : Bytes) (s : State) : Outcome State Fault Refusal :=
  ok (s.itemLen r (isOwner r) (decide (val.length = 16)) true (fun s => s.debugResponse val))

/-- The events, the service and the grace timers that a halt of the management island held back go on (R24, R35). -/
def State.debugResume (s : State) : State :=
  if s.sec.halted then ({ s.shiftGrace with mgmtDown := false, sec := { s.sec with halted := false } }).deliverHeld else s

/-- DEBUG_LOCK (R459). A halted island runs again when its port closes (log 20). -/
def State.debugLock (s : State) : State :=
  let was := s.sec.unlocked
  let s := { s with sec := { s.sec with unlocked := false } }.debugResume
  (if was then s.raise 10 0x65 255 false [1] else s).answer 0

def execDebugLock (r : Role) (v : Byte) (s : State) : Outcome State Fault Refusal :=
  ok (s.item r (isOwner r) (v == 1) (fun s => s.debugLock))

/-- Bytes that the debug port gives and the spec does not state (log 3). -/
def State.debugAnswer (s : State) : State :=
  { s with draws := s.draws + 1, reply := leBytes 8 (Config.freeValue s.draws).toNat }

/-- DEBUG_PORT_REQUEST (R456, R458): locked, the port answers identification only; open, it may halt and inspect the management island, and a
halted island is a wedge under R35. -/
def execDebugPortRequest (q : DebugReq) (s : State) : Outcome State Fault Refusal :=
  if !s.supply.vcore then ok s
  else match q with
    | .identify => ok s.debugAnswer
    | .halt =>
      if s.sec.unlocked && !s.mgmtDown then
        ok { s with mgmtDown := true, host := { s.host with out := [] }, sec := { s.sec with halted := true }, supply := { s.supply with mgmtDownAt := s.now } }
      else ok s
    | .resume => if s.sec.unlocked then ok s.debugResume else ok s
    | .inspect _ => if s.sec.unlocked then ok s.debugAnswer else ok s

/-! ### Attestation (R461) -/

/-- KEY_ID of a role. -/
def roleKey : Role → Nat
  | .owner => 16
  | .partition p => p.val
  | _ => 17

/-- The 64 most significant bits of the CMAC under a requester's key; without a key a free value (log 3). -/
def State.attestTag (s : State) (r : Role) (m : Bytes) : State × Bytes :=
  match (s.key (roleKey r)).key with
  | some k => (s, leBytes 8 (tag64 k m))
  | none => ({ s with draws := s.draws + 1 }, leBytes 8 (Config.freeValue s.draws).toNat)

/-- ATTEST_REQUEST (R461): the drawer is read under R259 and R260, and the tag is formed over it, READ_STATUS, the nonce, SERIAL and DEVID. -/
def State.attest (s : State) (r : Role) (k : Nat) (b : Bytes) (x : Sense) : State :=
  let d := leNat (b.take 2)
  if !s.mayReadDrawer r d then s.answer 0x0201
  else if s.nvBad then s.answer 0x0702
  else
    let (s, rec', w) := s.readDrawer d x
    if !s.mayReadDrawer r d then s.answer 0x0201 else
    let m := rec' ++ leBytes 4 w ++ b.drop 2 ++ leBytes 8 Config.serial.toNat ++ [BitVec.ofNat 8 s.supply.devid]
    let (s, t) := s.attestTag r m
    (s.onSession k (fun y => { y with attTag := t, drawStat := tabInsert d w (tabErase y.drawStat d) })).answer 0

/-- ATTEST_REQUEST (R461, R463): by OWNER or a PARTITION role. -/
def execAttestRequest (r : Role) (k : Nat) (val : Bytes) (sense : Sense) (s : State) : Outcome State Fault Refusal :=
  let right := match r with
    | .owner => true
    | .partition _ => true
    | _ => false
  ok (s.itemLen r right (decide (val.length = 10)) (decide (leNat (val.take 2) < 512)) (fun s => s.attest r k val sense))

/-! ### Rollback (R448) -/

/-- The advance of the rollback counter to the running image's ROLLBACK, with the revocations of its REVOKE_MASK but for its own slot. -/
def State.rollbackAdvance (s : State) : State :=
  let b := s.sec.running
  let m := (List.range 4).filter (fun k => bitOf (s.reg secRevoked) k || (bitOf (s.imgRevoke b) k && k != s.imgSlot b))
  let s := (s.setReg secRollbackCount (s.imgRollback b)).setReg secRevoked (m.map (fun k => 2 ^ k)).sum
  if s.imageCheck s.otherBank = 0 then s else s.setReg identFwOther 0

/-- ROLLBACK_ADVANCE (R448): after the first commit of a power-up, or the adoption after a management reset. -/
def execRollbackAdvance (s : State) : Outcome State Fault Refusal :=
  if s.supply.vcore && !s.mgmtDown && (s.committed || s.reg supLastMgmtReset != 1) &&
      decide (s.reg secRollbackCount < s.imgRollback s.sec.running) then ok s.rollbackAdvance else ok s

/-! ### Firmware activation and maintenance waits (R242, R420) -/

/-- The activation: the other bank is chosen, and a management reset with code 5 boots it. -/
def State.fwActivate (s : State) : State :=
  { s with sec := { s.sec with bootBank := s.otherBank, bootOther := false }, fwWaitAt := none,
           waitMaint := s.waitMaint.filter (fun k => k != 17) }.mgmtReset 5

/-- A sweep runs or waits. -/
def State.anySweep (s : State) : Bool := partitions.any (fun p => s.sweeping p)

/-- FW_ACTIVATE (R420): FW_COMMAND 0x03; it waits for every sweep to end (Table 8-4). -/
def execFwActivate (r : Role) (s : State) : Outcome State Fault Refusal :=
  ok (s.fwCommand r (fun s =>
    if s.reg fwFwState ≠ 4 then s.answer 0x0506
    else
      let s := s.setReg fwFwState 5
      if s.anySweep then { s with waitMaint := s.waitMaint ++ [17], fwWaitAt := some s.now }.answer 2
      else s.fwActivate.answer 0))

/-- The conflict of a waiting activity has ended (Table 8-4). -/
def State.maintReady (s : State) (k : Nat) : Bool :=
  if k < 16 then !s.sweepWaits k
  else if k = 16 then !(s.logErases || s.switching)
  else if k = 17 then !s.anySweep
  else !s.fwUpdates

/-- A waiting activity starts. -/
def State.maintStart (s : State) (k : Nat) : State :=
  let s := { s with waitMaint := s.waitMaint.filter (fun j => j != k) }
  if k < 16 then s.benchBegin k
  else if k = 16 then s.fwStart
  else if k = 17 then s.fwActivate
  else s.logEraseStart (k - 17)

/-- MAINTENANCE_WAIT_START (R242): the first waiting activity whose conflict has ended starts. -/
def execMaintenanceWaitStart (s : State) : Outcome State Fault Refusal :=
  match s.waitMaint.find? s.maintReady with
  | none => ok s
  | some k => ok (s.maintStart k)

/-- ACTIVATION_WAIT_TIMEOUT (R242): after 600 s the sweeps that still run are aborted with cause 4, and the activation proceeds. -/
def execActivationWaitTimeout (s : State) : Outcome State Fault Refusal :=
  match s.fwWaitAt with
  | none => ok s
  | some t =>
    if s.passed t (sTicks 600) then ok (s.each (partitions.filter (fun p => s.sweeping p)) (fun s p => s.sweepEnd p 4)).fwActivate else ok s

end Sys2Proof.Machine
end

