-- ==== Sys2Proof/Machine/Sequence.lean ====
section
/-! DEFINITION. The commands of sequences (R134 to R170): the barrier, goals, START and STOP, the stages of an action, and the ramp
captures. -/
namespace Sys2Proof.Machine

open Host

/-! ### The barrier -/

/-- The step cluster of group n (R170): the lowest clocked cluster that holds a resource of a partition of the group. -/
def State.stepCluster (s : State) (n : Nat) : Option Nat :=
  clustersAll.find? (fun c => !(s.cluster c).clockLost && (s.groupParts n).any (fun p => s.holdsIn p c))

/-- BARRIER_ADVANCE (R170): the line of group n has been high for the qualification time. A device without a step cluster receives
nothing. Zeroing in the same tick wins; a group at rest counts a glitch, whatever else holds its line; while this device itself holds the line
low there is no high level to qualify (R169, R182); otherwise the group advances, its guard begins, and its check is
pending when its span has a present peer. -/
def execBarrierAdvance (n : Fin 4) (s : State) : Outcome State Fault Refusal :=
  if s.committed = false ∨ s.stepCluster n = none ∨ (s.group n).zeroedAt = some s.now then ok s
  else if s.grpState n = s.goalOf n then ok (s.bump16 (tresGrpGlitchCount n))
  else if s.heldLow n then ok s
  else
    let checks := s.checksWithPeers n
    let s := s.setReg (tresGrpAdvanceCount n) ((s.reg (tresGrpAdvanceCount n) + 1) % 65536)
    let s := s.setGroup n { s.group n with
      guardFrom := some s.now, checkFrom := if checks then some s.now else none, resends := 0 }
    ok (s.advance n)

/-- GUARD_END (R169): 1 µs after the own advance. -/
def execGuardEnd (n : Fin 4) (s : State) : Outcome State Fault Refusal :=
  match (s.group n).guardFrom with
  | none => ok s
  | some t => if s.passed t (usTicks 1) then ok (s.setGroup n { s.group n with guardFrom := none }) else ok s

/-- A profile switch is between its acceptance and the end of its check, which is the tick of its request (R309). -/
def State.switchChecks (s : State) : Bool :=
  match s.armed with
  | some { kind := .switch _ _, since := t, .. } => t == s.now
  | _ => false

/-- A write of GOAL: refused while a switch is checked (R309). -/
def State.goalRequest (s : State) (n v : Nat) : State := if s.switchChecks then s.answer 0x0401 else (s.goalWrite n v).answer 0

/-- GOAL (R137): an OWNER write of 0 to 254. -/
def execGoal (r : Role) (n : Fin 4) (v : Byte) (s : State) : Outcome State Fault Refusal :=
  ok (s.item r (isOwner r) (v != 255) (fun s => s.goalRequest n v.toNat))

/-- START (Table 5-7): not available before the first commit (Table 12-6), and refused while a switch is checked (R309). -/
def State.startWrite (s : State) (p : Nat) : State :=
  if !s.committed then s.answer 0x050B
  else if s.switchChecks then s.answer 0x0401
  else match (s.part p).state with
  | .stopping | .faulted | .lockedOut => s.answer 0x0504
  | .down => (if s.member p then s else s.startOrWait p).answer 0
  | .starting | .up => s.answer 0

def execStart (r : Role) (p : Fin 16) (v : Byte) (s : State) : Outcome State Fault Refusal :=
  ok (s.item r (ownerOr r p) (v == 1) (fun s => s.startWrite p))

/-- STOP (Table 5-7). -/
def State.stopWrite (s : State) (p : Nat) : State :=
  if (s.part p).state.isFaulted then s.answer 0x0504 else (s.stopPart p).answer 0

def execStop (r : Role) (p : Fin 16) (v : Byte) (s : State) : Outcome State Fault Refusal :=
  ok (s.item r (ownerOr r p) (v == 1) (fun s => s.stopWrite p))

/-- START_PENDING_RELEASE (R115, R121, R160): the last hold of a pending start, or of a RESTART that waits, has ended. -/
def execStartPendingRelease (p : Fin 16) (s : State) : Outcome State Fault Refusal :=
  if (s.part p).startPend = false then ok s
  else if (s.part p).state.isFaulted then (if s.restartWaits p then ok s else ok (s.restartPart p))
  else if s.startHeld p then ok s else ok (s.join p)

/-- GROUP_RESET (R183): group state and ADVANCE_COUNT to 0, refused while a partition of the group is a member. -/
def State.groupReset (s : State) (n : Nat) : State :=
  if (s.groupParts n).any (fun p => s.member p) then s.answer 0x0505
  else
    let s := s.setGroup n { s.group n with zeroedAt := some s.now }
    ((s.setReg (grpsState n) 0).setReg (tresGrpAdvanceCount n) 0).answer 0

def execGroupReset (r : Role) (n : Fin 4) (v : Byte) (s : State) : Outcome State Fault Refusal :=
  ok (s.item r (isOwner r) (v == 1) (fun s => s.groupReset n))

/-! ### Captures (R164 to R166) -/

/-- An occurrence of a source that the arming tick has already stamped (R164). -/
def State.seenAt (s : State) (src tgt lvl by_ : Nat) : Option Nat :=
  match s.occurrence src tgt lvl with
  | none => none
  | some t => if by_ ≤ t then some t else none

/-- Arm a capture unit: its previous outcome is cleared. A unit with both sources 0x00 is disabled (Table 5-11). -/
def State.captureArm (s : State) (u : Nat) : State :=
  let a := s.act (capStartSrc u)
  let b := s.act (capStopSrc u)
  let i := s.sourceCtr a (s.act (capStartTarget u))
  let j := s.sourceCtr b (s.act (capStopTarget u))
  if a = 0 ∧ b = 0 then s
  else s.setCap u { outcome := 1, armedAt := s.now, startBy := i, stopBy := j,
                    seenStart := s.seenAt a (s.act (capStartTarget u)) (s.act (capStartLevel u)) i,
                    seenStop := s.seenAt b (s.act (capStopTarget u)) (s.act (capStopLevel u)) j }

/-- ARM (R164): refused with both sources 0x00. -/
def State.captureWrite (s : State) (u : Nat) : State :=
  if s.act (capStartSrc u) = 0 ∧ s.act (capStopSrc u) = 0 then s.answer 0x0301 else (s.captureArm u).answer 0

def execArmCapture (r : Role) (u : Fin 32) (v : Byte) (s : State) : Outcome State Fault Refusal :=
  ok (s.item r (ownerOr r (s.act (capPartition u))) (v == 1) (fun s => s.captureWrite u))

/-- CAPTURE_OCCURRENCE (R164, R165): the unit takes the first occurrence of one side at or after arming, and completes when it has both. -/
def execCaptureOccurrence (u : Fin 32) (start : Bool) (s : State) : Outcome State Fault Refusal := ok (s.setCap u (s.captureTake u start))

/-- CAPTURE_LIMIT (R165): LIMIT has passed since arming. -/
def execCaptureLimit (u : Fin 32) (s : State) : Outcome State Fault Refusal :=
  let x := s.cap u
  if x.outcome = 1 ∧ s.passed x.armedAt (usTicks (s.act (capLimit u))) then ok (s.captureEnd u) else ok s

/-! ### The action-slot pool (R38, R149 to R152) -/

/-- The clusters that an action acts on (R149). DESIGN CHOICE (log 32): a partition that holds no cluster resource has HOME_CLUSTER 0xFF, and the
spec gives its WAIT and PMBUS actions no cluster; they take their slots in a cluster of number 255, which no other action uses. -/
def State.actsOn (s : State) (p w : Nat) : List Nat :=
  let t := aeTarget w
  (match aeType w with
   | 1 | 2 => enCl t :: (s.served t).map clOf
   | 3 | 4 | 6 | 8 => [clOf t]
   | 9 => [enCl t]
   | _ => [s.home p]).eraseDups

/-- Slots in use in cluster n, of all partitions and of one. -/
def State.slotsUsed (s : State) (n : Nat) : Nat := (s.actions.filter (fun a => a.2.slots.contains n)).length
def State.slotsUsedBy (s : State) (p n : Nat) : Nat := (s.actions.filter (fun a => a.2.part == p && a.2.slots.contains n)).length
/-- Armed actions of a partition, its use against the quota (R151). -/
def State.armedCount (s : State) (p : Nat) : Nat := (s.actions.filter (fun a => a.2.part == p && a.2.armed)).length
def State.waitingCount (s : State) (p : Nat) : Nat := (s.actions.filter (fun a => a.2.part == p && !a.2.armed)).length

/-- The floor of a cluster: 128 over the partitions that hold resources there (R38). -/
def State.slotFloor (s : State) (n : Nat) : Nat := 128 / max 1 ((partitions.filter (fun p => s.holdsIn p n)).length)

/-- Whether partition p can take a slot in cluster n: there is a free one, and p is within its floor or takes from what the floors of the
others leave (R38). -/
def State.slotFree (s : State) (p n : Nat) : Bool :=
  let floor := s.slotFloor n
  let owed := ((partitions.filter (fun q => q != p && s.holdsIn q n)).map (fun q => floor - s.slotsUsedBy q n)).sum
  decide (s.slotsUsed n < 128) && (decide (s.slotsUsedBy p n < floor) || decide (s.slotsUsed n + owed < 128))

/-- SLOT_QUOTA of a partition in the active budget table (R151). -/
def State.slotQuota (s : State) (p : Nat) : Nat := s.act (budSlotQuota (s.reg ledActiveTable) p)

/-- The partition whose range holds an entry. -/
def State.partOfEntry (s : State) (e : Nat) : Option Nat :=
  partitions.find? (fun p => decide (s.act (seqEntryBase p) ≤ e ∧ e < s.act (seqEntryBase p) + s.act (seqEntryCount p)))

/-- Whether entry e is eligible in the present ORDER group of partition p (R143). -/
def State.eligible (s : State) (p e : Nat) : Bool :=
  match (s.part p).step with
  | none => false
  | some st => (s.orderEntries p st).contains e && !st.done.contains e

/-- An eligible action waits for a slot or for quota (R153): counted once per wait, and EV 0x42 once per partition and step. -/
def State.waitAction (s : State) (p e w : Nat) (quota : Bool) : State :=
  let again : Bool := match s.action e with
    | some a => a.waited
    | none => false
  if again then s
  else
    let s := (s.setAction e { entry := w, part := p, armed := false, armedAt := s.now, issued := false, issuedAt := 0,
                              slots := [], result := none, waited := true }).bump32 (seqsSlotWaitCount p)
    if (s.part p).waitRaised then s
    else (s.setPart p { s.part p with waitRaised := true }).raise 10 0x42 p false
      [BitVec.ofNat 8 (aeState w), if quota then 2 else 1]

/-- An action is armed. -/
def State.isArmed (s : State) (e : Nat) : Bool :=
  match s.action e with
  | some a => a.armed
  | none => false

/-- Use of the quota holds an entry action back (R151); an exit action it does not (R152). -/
def State.quotaHolds (s : State) (p w : Nat) : Bool := !aeExit w && decide (s.slotQuota p ≤ s.armedCount p)

/-- An action that acts on some clusters can take a slot in each of them: their clocks run (R149). -/
def State.slotsFree (s : State) (p : Nat) (cls : List Nat) : Bool := cls.all (fun n => !(s.cluster n).clockLost && s.slotFree p n)

/-- A request beyond its partition's floor stands behind another of this tick that could be served in one of its clusters: one of a lower
partition, or of its own and a lower entry (R150). -/
def State.outranked (s : State) (p e : Nat) (cls : List Nat) : Bool :=
  !cls.all (fun n => decide (s.slotsUsedBy p n < s.slotFloor n)) &&
  (List.range (p + 1)).any (fun q => (s.rangeOf q).any (fun d =>
    let w := s.act (actEntry d)
    let l := s.actsOn q w
    (decide (q < p) || decide (d < e)) && s.partOfEntry d == some q && s.eligible q d && !s.isArmed d && !s.quotaHolds q w &&
      l.any (fun n => cls.contains n) && s.slotsFree q l))

/-- ACTION_ARM (R143, R149 to R153): an eligible action arms when it can take a slot in every cluster it acts on in the same tick and,
for an entry action, its partition's use stays within the quota; otherwise it waits. A request that another one of the tick stands before
is served after that one. -/
def State.armAction (s : State) (e : Nat) : State :=
  match s.partOfEntry e with
  | none => s
  | some p =>
    if s.isArmed e ∨ s.eligible p e = false then s
    else
      let w := s.act (actEntry e)
      let cls := s.actsOn p w
      if s.quotaHolds p w then s.waitAction p e w true
      else if !s.slotsFree p cls then s.waitAction p e w false
      else if s.outranked p e cls then s
      else s.setAction e { entry := w, part := p, armed := true, armedAt := s.now, issued := false, issuedAt := 0, slots := cls, result := none }

/-- The cluster that carries an entry out: of its target, or the home of the partition. -/
def State.entryCluster (s : State) (p w : Nat) : Nat := (s.actsOn p w).headD 0

/-- ACTION_ARM: it arms from the table that governs its cluster at its tick (R16, R146). -/
def execActionArm (e : Fin 4096) (s : State) : Outcome State Fault Refusal :=
  let s := s.swapIfDue
  ok (s.inBank (s.entryCluster ((s.partOfEntry e).getD 0) (s.act (actEntry e))) (fun s => s.armAction e))

/-! ### Outcomes (R141, R147) -/

/-- An action completes; its slots are freed and its ORDER group goes on. -/
def State.finish (s : State) (p e : Nat) : State := (s.dropAction e).orderAdvance p e

/-- FLAGGED with a reason of Table 5-4; a rail that became ABSENT (reason 0) has raised its own event. -/
def State.flagged (s : State) (p e reason : Nat) : State :=
  let s := s.bump16 (seqsFlaggedCount p)
  let s := if reason = 0 then s else s.raise (s.homeDom p) 0x41 p false (two e ++ [BitVec.ofNat 8 reason])
  s.finish p e

/-- SKIPPED by its guard, EV 0x41 with reason 0x05 (R144). -/
def State.skipped (s : State) (p e : Nat) : State :=
  ((s.bump16 (seqsSkippedCount p)).raise (s.homeDom p) 0x41 p false (two e ++ [5])).finish p e

/-- RUNNING or MARGIN: what counts as RUNNING for guards and outcomes (R141, R144). -/
def State.runs (s : State) (c : Nat) : Bool := s.chState c == .running || s.chState c == .margin

/-- Whether a rail has decayed since a tick: a later result below its effective RAMP_START (Table 5-3). -/
def State.decayed (s : State) (c since : Nat) : Bool :=
  (s.chan c).hasResult && decide (since < (s.chan c).resAt ∧ (s.chan c).res < s.rampStart c)

/-- The guard channel of an entry that accepts one (R141). -/
def guardOf (w : Nat) : Option Nat :=
  if (aeType w = 1 ∨ aeType w = 3) ∧ field (aeParam w) 0 16 ≠ 0xFFFF then some (field (aeParam w) 0 16) else none

/-- The channel of a SET_TRIM is set through a power-stage target whose VOUT_MODE is not supported (R388). -/
def State.trimBad (s : State) (c : Nat) : Bool := s.act (chTrimKind c) == 2 && s.modeBad (s.act (chTrimId c))

/-- What an action does when it issues (Table 5-3, R142); true when it completes DONE in that tick. -/
def State.actIssue (s : State) (p e w : Nat) : State × Bool :=
  let t := aeTarget w
  match aeType w with
  | 1 =>
    if (s.en t).asserted then (s, true)
    else if (s.part p).line then (s, false)
    else ((s.assertEn t).each (s.served t) (fun s c => s.gateTrip c), (s.served t).isEmpty)
  | 2 => if (s.en t).asserted then (s.deassertEn t, false) else (s, true)
  | 3 => (if (s.chan t).state = .off then (s.armChan t).gateTrip t else s, false)
  | 4 => (s.chanOff t, aeTimeout w == 0)
  | 7 => (s.askPort { entry := t, part := p, cmd := field (aeParam w) 0 8, data := field (aeParam w) 8 16, why := .action e }, false)
  | 8 => (s.setChan t { s.chan t with held := some (aeParam w), settled := 0 }, !s.runs t)
  | 9 => (if (s.part p).line then s else s.latchEn t true, false)
  | 10 => (s.captureArm t, true)
  | _ => (s, false)

/-- A guard channel counts as RUNNING after the transitions of this tick (R144, Table 5-9): it runs, or its settle timer, or its companion's,
has run its time by now. -/
def State.guardRuns (s : State) (g : Nat) : Bool := s.runs g || s.settles (s.stateOwner g) (s.ctr (clOf g) + 1)

/-- An action issues (R143, R144): DELAY has passed since arming. The guard is read first; a SET_TRIM outside the guard band is FLAGGED with
reason 0x04 (R235), and so is one whose target has no supported VOUT_MODE (R388). -/
def State.issueAction (s : State) (e : Nat) : State :=
  match s.action e with
  | none => s
  | some a =>
    let w := a.entry
    if a.armed = false ∨ a.issued ∨ s.passed a.armedAt (1000 * aeDelay w) = false then s
    else if !(guardOf w).all (fun g => s.guardRuns g) then s.skipped a.part e
    else if aeType w = 8 ∧ (s.inGuard (aeTarget w) (aeParam w) = false ∨ s.trimBad (aeTarget w)) then s.flagged a.part e 4
    else
      let (t, done) := (s.setAction e { a with issued := true, issuedAt := s.now }).actIssue a.part e w
      if done then t.finish a.part e else t

/-- ACTION_ISSUE (R143, R144), under the bank that governs its cluster (R16). -/
def execActionIssue (e : Fin 4096) (s : State) : Outcome State Fault Refusal :=
  let s := s.swapIfDue
  ok (s.inBank (match s.action e with
    | some a => s.entryCluster a.part a.entry
    | none => 0) (fun s => s.issueAction e))

/-- The outcome that an issued action has reached: DONE, or FLAGGED with a reason (0 when a rail is ABSENT) (Table 5-3). -/
def State.reached (s : State) (a : ActX) : Option (Option Nat) :=
  let w := a.entry
  let t := aeTarget w
  match aeType w with
  | 1 =>
    let cs := s.served t
    if cs.all (fun c => s.runs c) then some none
    else if cs.all (fun c => s.runs c || s.chState c == .absent) then some (some 0) else none
  | 2 => if (s.served t).all (fun c => s.decayed c a.issuedAt) then some none else none
  | 3 => if s.runs t then some none else if s.chState t = .absent then some (some 0) else none
  | 4 => if s.decayed t a.issuedAt then some none else none
  | 5 => if s.passed a.issuedAt (usTicks (aeParam w)) then some none else none
  | 6 =>
    let set := field (aeParam w) 0 9
    if bitOf set (s.chState t).code || (s.chState t == .margin && bitOf set 4) then some none else none
  | 7 => match a.result with
    | some (1, _) => some none
    | some (_, r) => some (some r)
    | none => none
  | 8 =>
    if s.trimBad t then some (some 4)
    else if s.act mgnSetCount ≤ (s.chan t).settled then some none else none
  | 9 => if s.passed a.issuedAt (msTicks (aeParam w)) then some none else none
  | _ => none

/-- ACTION_COMPLETE (R141): an issued action has reached its outcome. A DISCHARGE makes its enable inactive again. -/
def execActionComplete (e : Fin 4096) (s : State) : Outcome State Fault Refusal :=
  match s.action e with
  | none => ok s
  | some a =>
    if a.issued = false then ok s
    else match s.reached a with
      | none => ok s
      | some none =>
        let s := if aeType a.entry = 9 then s.orderEn (aeTarget a.entry) false else s
        ok (s.finish a.part e)
      | some (some r) => ok (s.flagged a.part e r)

/-- The limit of an action in ticks and the reason of its FLAGGED outcome (Table 5-3); none where TIMEOUT is no limit. -/
def State.limitOf (s : State) (a : ActX) : Option (Nat × Nat) :=
  let w := a.entry
  let ms := fun (d : Nat) => msTicks (if aeTimeout w = 0 then d else aeTimeout w)
  match aeType w with
  | 2 => some (ms (s.act (seqDecayDefault a.part)), 2)
  | 4 => some (msTicks (aeTimeout w), 2)
  | 6 => some (msTicks (aeTimeout w), 1)
  | 7 => some (ms 50, 3)
  | 8 => some (ms 100, 4)
  | _ => none

/-- ACTION_TIMEOUT (R141, Table 5-3): the limit of an issued action passes first. -/
def execActionTimeout (e : Fin 4096) (s : State) : Outcome State Fault Refusal :=
  match s.action e with
  | none => ok s
  | some a =>
    match s.limitOf a with
    | none => ok s
    | some (ticks, reason) =>
      if a.issued ∧ s.passed a.issuedAt ticks ∧ (s.reached a).isNone then ok (s.flagged a.part e reason) else ok s

end Sys2Proof.Machine
end

