-- ==== Sys2Proof/Machine/Supply.lean ====
section
/-! DEFINITION. Supplies, power-up, resets and the push-button (R280 to R300, R356): the passage through the power states, VCORE faults, the
power-loss warning and hold-up, sleep and wake, the RTC. -/
namespace Sys2Proof.Machine

open Host

/-! ### Power-up (R282 to R287) -/

/-- A power-up begins at its EN_CORE step with a reason of EV 0x50 and, for a wake, its source (R282). -/
def State.beginPowerUp (s : State) (reason source : Nat) : State :=
  let u := s.supply
  let s := { s with supply := { u with
    strapsDue := u.strapsDue || reason != 4, power := .starting, enCore := true, enCoreAt := s.now, recoverAt := none, reason := reason, wakeSrc := source, pendWake := false,
    lockout := false, lockShown := u.lockRecord, lockRecord := false } }
  ((s.setReg supLastPowerUp reason).bump32 supPowerUpCount).setReg supLastMgmtReset 1

/-- A wake in STANDBY from an enabled source (R300). -/
def State.wake (s : State) (source : Nat) : State :=
  if s.supply.power = .standby ∧ bitOf (s.reg supWakeMask) source then s.beginPowerUp 3 source else s

/-- VAUX_VALID (R300): the device comes from BACKUP and acts on START_POLICY. The first power-up after a cold start has reason 1. -/
def execVauxValid (s : State) : Outcome State Fault Refusal :=
  if s.supply.power ≠ .backup then ok s
  else
    let latched := s.supply.pendWake
    let s := { s with supply := { s.supply with vauxAbove := true, vauxValid := true, power := .standby, pendWake := false } }
    if s.reg supStartPolicy = 0 then ok (s.beginPowerUp (if s.reg supPowerUpCount = 0 then 1 else 2) 0)
    else if latched then ok (s.wake 0)
    else ok s

/-- The straps as they were sampled at the Hutch-out-of-reset step of this power-up; one that begins at the EN_CORE step, after a VCORE fault,
goes on with those of the power-up before it (R283, R285). -/
def State.sampleStraps (s : State) (x : Straps) : State :=
  if !s.supply.strapsDue then s
  else { s with supply := { s.supply with strapsDue := false, devid := x.devid.val, enPol := x.enPol, psel := x.psel.val, pselNow := x.psel.val, pselDue := false } }

/-- The truncated intervals of a power loss join the records that wait, each with EV 0x26, once, and the table in force is that of the
snapshot (R224, R225). -/
def State.truncated (s : State) : State :=
  match s.ledger.snapshot with
  | none => s
  | some x =>
    let s := x.1.foldl (fun s r =>
      ((s.ledgerEnqueue { r with flags := r.flags ||| 1 }).bump16 (ledsTruncatedCount r.part)).raise 9 0x26 r.part) s
    { s with ledger := { s.ledger with snapshot := some ([], x.2) } }.setReg ledActiveTable x.2.1

/-- A warning that was followed by the loss of VCORE raises EV 0x52 at the next power-up (R291). -/
def State.lossTold (s : State) : State :=
  if s.supply.plwPending then { s with supply := { s.supply with plwPending := false } }.raise 9 0x52 255 false [1] else s

/-- The clusters after the start: their counters reloaded from device time (R26), every slice calibrated (R84). -/
def State.startClusters (s : State) : State :=
  s.each clustersAll (fun s n => s.setCluster n { s.cluster n with
    counter := s.now, calibrated := 511, calAt := (List.range 9).map (fun k => (k, s.now)), calDone := true, epochAt := s.now })

/-- The debug port is locked at a power-up: EV 0x65 when it had been unlocked (R456, R459). -/
def State.lockDebug (s : State) : State :=
  let was := s.sec.unlocked
  let s := { s with sec := { s.sec with unlocked := false, halted := false, challenge := none } }
  if was then s.raise 10 0x65 255 false [2] else s

/-- VCORE is in window: the VCORE islands leave reset at their defaults, retained values are restored, the erase journal is read, and staged
drawers are those of an earlier power-up (R254, R287, R417). -/
def State.vcoreUp (s : State) : State :=
  let s := s.restore.startClusters
  { s with
    supply := { s.supply with vcore := true, clamp := false, liveParts := [] }, ens := [], mgmtDown := false,
    nv := { s.nv with journalRead := true },
    log := { s.log with oldDone := 0, staged := s.log.staged.map (fun (d : Drawer) => { d with old := true }) },
    host := { s.host with sleep := false } }.setReg devMgmtUpSince s.now

/-- The first power-up after a cold start finds every staging set discarded by it (R325). -/
def State.coldSets (s : State) : State :=
  if s.supply.reason = 1 then s.each (List.range 17) (fun s w => s.setStage w { s.stageSet w with discarded := true }) else s

/-- The NV island judges COLD_INHIBIT from the die reading of CL0's calibration, in 0.1 °C, before the first sample (R254). -/
def State.judgeCold (s : State) (die : Int) : State :=
  let s := { s with thermal := { s.thermal with lastOwnAt := s.now } }
  if die < s.limColdInhibit then
    ({ s with thermal := { s.thermal with coldInhibit := { inForce := true } } }.limitEvent true true 0x34).holdDrawers
  else s

/-- At a power-up, the sectors that stand in the way of a staged drawer are erased before the first commit point (R254): those still open in the
journal (R417), and the one at which the WRAP writer waits (R257). -/
def State.wayCleared (s : State) : State :=
  let stuck := fun (s : State) => s.nextDrawer.isSome && s.nextSlot.isNone && s.nvReady
  let s := if stuck s && s.openSectors != [] then s.redo s.openSectors else s
  match s.sectorInWay with
  | some k =>
    if stuck s && s.nv.erase.isNone then
      let n := drawerSector k
      let s := { s with nv := { s.nv with queue := s.nv.queue.filter (fun o => !(o.isLogErase && secOf o.addr == n)) } }
      (((s.eraseSector n).setSector n { s.sector n with open_ := false }).bump32 nvsEraseCount).raise 12 0x5E 255 false [1]
    else s
  | none => s

/-- Commit staged drawers before the first commit point of a power-up (R254), where the ring is cleared for them, or at SLEEP (R300), as far as
the ring and R419 allow, at most so many. -/
def State.commitStaged (s : State) (boot : Bool) : Nat → State
  | 0 => s
  | k + 1 =>
    let s := if boot then s.wayCleared else s
    match s.nextDrawer, s.nextSlot with
    | some (d, isMarker), some n =>
      if s.nvReady && s.eraseHalted && s.log.writing.isNone then
        match (s.beginDrawer n d isMarker).log.writing with
        | some (m, e) =>
          let t := s.beginDrawer n d isMarker
          match t.nv.program with
          | some o => ({ t with nv := { t.nv with program := none } }.setMarkers o.addr o.data 8 |>.drawerDone m e).commitStaged boot k
          | none => t
        | none => s
      else s
    | _, _ => s

/-- POWER_UP (R282): VCORE is in window, the firmware is verified, the clusters are calibrated with a reading of the die, the staged drawers are
committed as far as they can be (R254), and the profile is loaded and armed. -/
def execPowerUp (start : Start) (hw : Hw) (s : State) : Outcome State Fault Refusal :=
  let u := s.supply
  if u.power ≠ .starting ∨ u.enCore = false ∨ u.vcore then ok s
  else
    let s := (s.sampleStraps start.straps).vcoreUp.coldSets
    match s.bootChoice with
    | none => ok (({ s.stayInRom with sec := { s.stayInRom.sec with romUp := true } }.truncated.lossTold.judgeCold start.die).commitStaged true 33)
    | some (b, c) => ok (((((s.runBank b c).deliverHeld).lockDebug.truncated.lossTold.judgeCold start.die).commitStaged true 33).loadProfile hw)

/-! ### VCORE faults (R284, R285) -/

/-- VCORE is lost in STARTING or ACTIVE: EN_CORE stays inactive for 10 ms, and the third fault within 60 s is a lockout. -/
def State.vcoreLost (s : State) : State :=
  let s := s.vcoreDown.bump16 supVcoreFaultCount
  let u := s.supply
  let l := s.now :: u.faultTicks.filter (fun t => decide (s.now < t + sTicks 60))
  if 3 ≤ l.length then
    { s with supply := { u with faultTicks := [], faultRaise := u.faultRaise + 1, power := .standby, lockout := true, lockRecord := true,
                                recoverAt := none } }
  else { s with supply := { u with faultTicks := l, faultRaise := u.faultRaise + 1, power := .starting, reason := 4,
                                   recoverAt := some (s.now + msTicks 10) } }

/-- VCORE_FAULT (R285). -/
def execVcoreFault (s : State) : Outcome State Fault Refusal :=
  if s.supply.vcore && (s.supply.power == .starting || s.supply.power == .active) then ok s.vcoreLost else ok s

/-- VCORE_START_TIMEOUT (R284): 20 ms after EN_CORE without VCORE in window. -/
def execVcoreStartTimeout (s : State) : Outcome State Fault Refusal :=
  let u := s.supply
  if u.power = .starting ∧ u.enCore = true ∧ u.vcore = false ∧ s.passed u.enCoreAt (msTicks 20) = true then ok s.vcoreLost else ok s

/-- VCORE_RECOVERY (R285, R299, Table 11-4): EN_CORE has been inactive for 10 ms after a VCORE fault or for a power cycle. -/
def execVcoreRecovery (s : State) : Outcome State Fault Refusal :=
  match s.supply.recoverAt with
  | none => ok s
  | some t => if t ≤ s.now then ok (s.beginPowerUp s.supply.reason 0) else ok s

/-- EN_CORE is deasserted for a power cycle, and a power-up with reason 5 begins 10 ms later. -/
def State.powerCycle (s : State) : State :=
  let s := s.vcoreDown
  { s with supply := { s.supply with power := .starting, reason := 5, recoverAt := some (s.now + msTicks 10) } }

/-! ### Power-loss warning (R290 to R294, R224) -/

/-- The snapshot of every running interval, which ends short of its boundary (PARTIAL, Table 7-9), ACTIVE_TABLE and the RTC. -/
def State.takeSnapshot (s : State) : State :=
  if !s.ledger.running then s
  else
    let l := (partitions.filter (fun p => s.defined p && bitOf (s.act ledLedgerEnable) p)).map (fun p => s.intervalRec p 4)
    { s with ledger := { s.ledger with snapshot := some (l, s.table, s.supply.rtc) } }

/-- POWER_LOSS_WARNING (R290). -/
def execPowerLossWarning (s : State) : Outcome State Fault Refusal :=
  if s.supply.power = .backup ∨ s.supply.plw then ok s
  else
    let s := s.bump16 supPlwCount
    let s := if s.supply.vcore then s.takeSnapshot.haltErase.holdDrawers.retain true else s
    ok { s with supply := { s.supply with plw := true } }

/-- The schedule change whose time came during a warning that is withdrawn is made now (log 29). -/
def State.scheduleBack (s : State) : State :=
  match s.ledger.snapshot with
  | none => s
  | some x =>
    if s.act ledScheduleEnable = 1 ∧ s.supply.rtcValid then
      match s.schedLatest x.2.2 s.supply.rtc with
      | some v => s.tableSwitch v 0
      | none => s
    else s

/-- The records held since the warning are queued in their order (R224, R291). -/
def State.heldQueued (s : State) : State := s.ledger.held.foldl State.ledgerEnqueue { s with ledger := { s.ledger with held := [] } }

/-- WARNING_WITHDRAWN (R291): the snapshot is discarded, EV 0x52, and a suspended erase resumes when nothing waits for its suspension. -/
def execWarningWithdrawn (s : State) : Outcome State Fault Refusal :=
  if !s.supply.plw then ok s
  else
    let s := { s with supply := { s.supply with plw := false } }
    if !s.supply.vcore then ok s
    else
      let s := s.heldQueued.scheduleBack
      let s := ({ s with ledger := { s.ledger with snapshot := none } }).raise 9 0x52 255 false [2]
      if s.nv.erase.isSome && s.nv.suspended && s.nv.program.isNone && !s.suspendAsked && s.nvRuns then
        ok { s with nv := { s.nv with suspended := false, eraseFrom := s.now } }
      else ok s

/-- SUPPLY_SWITCHOVER (R290, R293): falling, the Hutch deasserts EN_CORE and runs from VBKUP, which clears a lockout (R285); rising, it runs
from VAUX. -/
def execSupplySwitchover (falling : Bool) (s : State) : Outcome State Fault Refusal :=
  if !falling then ok { s with supply := { s.supply with vauxAbove := true } }
  else if s.supply.power = .backup then ok { s with supply := { s.supply with vauxAbove := false } }
  else
    let s := s.vcoreDown
    ok { s with supply := { s.supply with
      power := .backup, vauxAbove := false, vauxValid := false, plw := false, lockout := false, recoverAt := none, tickFrac := 0 } }

/-- CONTINUITY_LOSS (R294): VBKUP falls below the continuity limit while VAUX is below the switchover threshold. -/
def execContinuityLoss (s : State) : Outcome State Fault Refusal :=
  if s.supply.vauxAbove then ok s else ok s.coldStart

/-- BKUP_LOW (R296): a change raises EV 0x50 with reason 0x10. -/
def execBkupLow (low : Bool) (s : State) : Outcome State Fault Refusal :=
  if s.supply.bkupLow = low then ok s
  else ok ({ s with supply := { s.supply with bkupLow := low } }.raise 9 0x50 255 (!low) [0x10])

/-- RETAINED_COPY (R287): the periodic copy. -/
def execRetainedCopy (s : State) : Outcome State Fault Refusal := if s.supply.vcore then ok (s.retain false) else ok s

/-! ### Management resets (R288, R289) -/

/-- MR_N (R289): a low level of at least 1 µs resets, one below 100 ns is ignored; between, the outcome is not specified (log 3). -/
def execMrN (lowNs : Nat) (s : State) : Outcome State Fault Refusal :=
  if !s.supply.vcore || decide (lowNs < 100) then ok s
  else if 1000 ≤ lowNs then ok (s.mgmtReset 2)
  else
    let t := { s with draws := s.draws + 1 }
    if (Config.freeValue s.draws).toNat % 2 = 1 then ok (t.mgmtReset 2) else ok t

/-- LOCKSTEP_MISMATCH (R288). -/
def execLockstepMismatch (s : State) : Outcome State Fault Refusal :=
  if s.supply.vcore && !s.mgmtDown then ok ((s.bump16 diagLockstepCount).mgmtReset 3) else ok s

/-- WATCHDOG (R288): the firmware, a halted one too, has not serviced it for 100 ms. -/
def execWatchdog (s : State) : Outcome State Fault Refusal :=
  if s.supply.vcore && (!s.mgmtDown || s.sec.halted) then ok (s.mgmtReset 4) else ok s

/-- RESET_REQUEST_MGMT (Table 11-4): RESET_REQUEST 0x01. -/
def execResetRequestMgmt (r : Role) (s : State) : Outcome State Fault Refusal :=
  ok (s.item r (isOwner r) true (fun s => (s.mgmtReset 6).answer 0))

/-- Every partition is DOWN. -/
def State.allDown (s : State) : Bool := partitions.all (fun p => (s.part p).state == .down)

/-- RESET_REQUEST_POWER (Table 11-4): RESET_REQUEST 0x02. -/
def execResetRequestPower (r : Role) (s : State) : Outcome State Fault Refusal :=
  ok (s.item r (isOwner r) true (fun s => if s.allDown then s.powerCycle.answer 0 else s.answer 0x0508))

/-! ### Push-button (R297 to R299) -/

/-- A short press (Table 11-5). -/
def State.shortPress (s : State) : State :=
  match s.supply.power with
  | .backup => { s with supply := { s.supply with pendWake := true } }
  | .standby => s.wake 0
  | _ => { s with supply := { s.supply with pressAt := some s.now } }.raise 9 0x57 255

/-- PB_RELEASE (R297): the press is classified by its time low; the release after a long press is not. -/
def execPbRelease (lowMs : Nat) (s : State) : Outcome State Fault Refusal :=
  if s.supply.longDone then ok { s with supply := { s.supply with longDone := false } }
  else if lowMs < 20 then ok s
  else if lowMs ≤ 1000 then ok s.shortPress
  else if lowMs < s.reg supLongPress then ok (s.bump16 supPbIgnored)
  else ok s

/-- The force-off of a long press (R245, R299): with VCORE the line of every partition that is not DOWN is set; the Hutch stages the drawers
of live partitions, from its own record when VCORE is absent. -/
def State.longForceOff (s : State) : State :=
  if s.supply.vcore then
    s.each (partitions.filter (fun p => (s.part p).state != .down)) (fun s p =>
      let live := (s.part p).state.isLive
      let s := s.causeAt p 5 0
      if live then s.hutchDrawer p (s.part p).snap else s)
  else
    let s := s.each s.supply.liveParts (fun s p => s.hutchDrawer p { s.drawerSnap p with retries := 0 })
    { s with supply := { s.supply with liveParts := [] } }

/-- LONG_PRESS (R299): in BACKUP and STANDBY it is counted only. -/
def execLongPress (s : State) : Outcome State Fault Refusal :=
  let s := { s with supply := { s.supply with longDone := true } }
  if s.supply.power = .starting ∨ s.supply.power = .active then
    let s := s.longForceOff
    if s.reg supLpAction = 1 then ok { s with supply := { s.supply with lpCycleAt := some (s.now + msTicks 100) } } else ok s
  else ok (s.bump16 supPbIgnored)

/-- LP_POWER_CYCLE (R299): 100 ms after the decision of a long press with LP_ACTION 1. -/
def execLpPowerCycle (s : State) : Outcome State Fault Refusal :=
  match s.supply.lpCycleAt with
  | none => ok s
  | some t => if t ≤ s.now then ok s.powerCycle else ok s

/-! ### Wake and sleep (R300, R356) -/

/-- RTC_ALARM (R300): RTC equals RTC_ALARM, which is not 0, while RTC_VALID is set. -/
def execRtcAlarm (s : State) : Outcome State Fault Refusal :=
  if s.supply.rtcValid && s.reg supRtcAlarm != 0 && s.supply.rtc == s.reg supRtcAlarm then ok (s.wake 2) else ok s

/-- CAN_WAKE (R356): a high level of 50 µs or more in STANDBY. -/
def execCanWake (highUs : Nat) (s : State) : Outcome State Fault Refusal := if 50 ≤ highUs then ok (s.wake 1) else ok s

/-- A short press decided in this tick wakes the device from STANDBY (R312). -/
def State.wakePressed (s : State) : State := if s.supply.pressAt == some s.now then s.wake 0 else s

/-- A program operation in progress completes at SLEEP (R419). -/
def State.programEnds (s : State) : State :=
  match s.log.writing, s.nv.program with
  | some (n, d), some o => ({ s with nv := { s.nv with program := none } }.setMarkers o.addr o.data 8).drawerDone n d
  | _, _ => s

/-- SLEEP (R300, R312, R419): the erase is halted and stays open, staged drawers are committed, what waits is dropped, the retained copy is made,
the open write sessions of a shelf and of the firmware stay open, and the device enters STANDBY, from which a short press decided in the same tick
wakes it. -/
def State.sleepNow (s : State) : State :=
  let s := (s.programEnds.haltErase).commitStaged false 33
  let fw := [fwFwState, fwFwOffset].map (fun k => (k, s.reg k))
  let w := s.nv.shelfw
  let s := ({ s with nv := { s.nv with queue := [] } }.retain true).vcoreDown
  let s := { s with supply := { s.supply with power := .standby }, nv := { s.nv with shelfw := w } }
  (fw.foldl (fun s e => s.setReg e.1 e.2) s).wakePressed

/-- SLEEP (R300): refused while a partition is not DOWN. -/
def execSleep (r : Role) (v : Byte) (s : State) : Outcome State Fault Refusal :=
  ok (s.item r (isOwner r) (v == 1) (fun s => if s.allDown then s.sleepNow.answer 0 else s.answer 0x0508))

/-! ### The RTC (R221, R295) -/

/-- RTC (R295): an OWNER write sets RTC and RTC_VALID, and closes the running intervals (R221). -/
def execRtc (r : Role) (v : BitVec 32) (s : State) : Outcome State Fault Refusal :=
  ok (s.item r (isOwner r) true (fun s =>
    (s.intervalBreak (fun s => { s with supply := { s.supply with rtc := v.toNat, rtcFrac := 0, rtcValid := true } })).answer 0))

end Sys2Proof.Machine
end

