-- ==== Sys2Proof/Machine/TwoWire.lean ====
section
/-! DEFINITION. The two-wire ports (R383 to R403): the turns of the power-stage ports and their results, VOUT_MODE, shut-off commands, faults of the
bus, alerts; the windows of SVC; arbitration on PEER. -/
namespace Sys2Proof.Machine

open Host

/-! ### Encodings (R388) -/

/-- The exponent N of ULINEAR16 (VOUT_MODE bits [4:0]) and of LINEAR11 (bits [15:11]). -/
def linearExp (x : Nat) : Int := toSigned 5 (x % 32)

/-- VOUT_COMMAND of a rail value in µV: the value in volts over 2^N, halves rounded up. -/
def voutWord (mode v : Nat) : Nat :=
  match linearExp mode with
  | .ofNat n => roundUp v (1000000 * 2 ^ n)
  | .negSucc n => roundUp (v * 2 ^ (n + 1)) 1000000

/-- READ_TEMPERATURE_1 in 0.1 °C: LINEAR11, halves rounded up (log 21). -/
def linear11 (w : Nat) : Int :=
  let y := toSigned 11 (w % 2048) * 10
  match linearExp (w / 2048) with
  | .ofNat n => y * 2 ^ n
  | .negSucc n => roundHalfUp y (2 ^ (n + 1))

/-! ### Turns of a port (R387, R388, R390) -/

/-- A port works: enabled, its island up with VCORE. -/
def State.portRuns (s : State) (n : Nat) : Bool :=
  s.act (psEnable n) == 1 && s.committed && s.supply.vcore && !s.islandBad.contains 18

/-- An action gets its outcome from its port: code 1 done, 2 flagged with reason 0x03 (R389). -/
def State.actResult (s : State) (e code : Nat) : State :=
  match s.action e with
  | none => s
  | some a => if a.issued && a.result.isNone then s.setAction e { a with result := some (code, 3) } else s

/-- A transaction that is still wanted: an action's only while the action waits for it. -/
def State.txLive (s : State) (t : PsTx) : Bool :=
  match t.why with
  | .action e => (match s.action e with
    | some a => a.issued && a.result.isNone
    | none => false)
  | _ => true

/-- What an entry without a supported VOUT_MODE refuses: its actions are FLAGGED, its loop sends nothing (R388). -/
def State.modeDrop (s : State) (n : Nat) : State :=
  let bad := fun (t : PsTx) => s.modeBad t.entry && (match t.why with
    | .action _ => true
    | .loop _ => true
    | _ => false)
  let x := s.port n
  let s := (x.queue.filter bad).foldl (fun s (t : PsTx) => match t.why with
    | .action e => s.actResult e 2
    | _ => s) s
  s.setPort n { x with queue := x.queue.filter (fun t => !bad t) }

/-- The partition whose turn is next: the first after the last one, cyclically, with a transaction waiting. -/
def PortX.nextPart (x : PortX) : Option Nat :=
  ((List.range 16).map (fun i => (x.lastPart + 1 + i) % 16)).find? (fun p => x.queue.any (fun t => t.part == p))

/-- The queue without the first transaction of a partition. -/
def dropFirst (p : Nat) : List PsTx → List PsTx
  | [] => []
  | t :: l => if t.part = p then l else t :: dropFirst p l

/-- The data of a transaction on the bus: a loop's rail value is encoded with the entry's exponent; a value that its 16 bits cannot hold is a
free value (log 3). -/
def State.txData (s : State) (t : PsTx) : State × Nat :=
  match t.why with
  | .loop _ =>
    let w := voutWord (s.entry t.entry).voutMode t.data
    if w < 65536 then (s, w) else ({ s with draws := s.draws + 1 }, (Config.freeValue s.draws).toNat % 65536)
  | _ => (s, t.data)

/-- A command of a trim loop goes on the bus: its value is the commanded one, and its period begins (R231). -/
def State.loopSent (s : State) (t : PsTx) : State :=
  match t.why with
  | .loop _ => s.setEntry t.entry { s.entry t.entry with commanded := some t.data, sentAt := some s.now }
  | _ => s

/-- A command of a trim loop was not acknowledged, or its entry's VOUT_MODE was not (R231): LOOP_STATE 5, EV 0x29, and a period passes before
the next try. -/
def State.loopFails (s : State) (n : Nat) (t : PsTx) (c : Nat) : State :=
  ((s.setEntry t.entry { s.entry t.entry with loop := 5, sentAt := some s.now }).bump16 (psTrimNackCount n)).raise 18 0x29 t.part false (two c)

/-- A transaction as its turn begins: a PAGE write of its entry's page comes first, if the entry is paged (R387). -/
def State.paged (s : State) (t : PsTx) : PsTx :=
  let g := tgtPage (s.act (tgtEntry t.entry))
  { t with page := g, paging := g != 0xFF }

/-- Take the next turn of a port: its transaction is on the bus, or the PAGE write before it. VOUT_MODE is read first at the first turn of an entry,
but not before a shut-off command (R388, R390). -/
def State.takeTurn (s : State) (n : Nat) : State :=
  let s := s.modeDrop n
  let s := s.setPort n { s.port n with queue := (s.port n).queue.filter s.txLive }
  let x := s.port n
  match x.nextPart with
  | none => s
  | some p =>
    match x.queue.find? (fun t => t.part == p) with
    | none => s
    | some t =>
      let off := match t.why with
        | .shutoff _ => true
        | _ => false
      let s := s.bump32 (pssTurns n)
      if !(s.entry t.entry).modeRead && !off then
        s.setPort n { x with lastPart := p, busy := some (s.paged { t with cmd := 0x20, data := 0, why := .mode }) }
      else
        let (u, d) := s.txData t
        let b := u.paged { t with data := d }
        let u := if b.paging then u else u.loopSent t
        u.setPort n { x with lastPart := p, queue := dropFirst p x.queue, busy := some b }

/-- PS_TURN (R387); no turn begins while SDA is low (R394). -/
def execPsTurn (n : Fin 8) (s : State) : Outcome State Fault Refusal :=
  let x := s.port n
  if s.portRuns n && x.busy.isNone && !x.recovering && !x.stuck && !x.sdaLow then ok (s.takeTurn n) else ok s

/-! ### Results (R389 to R393) -/

/-- Record a result of an entry. -/
def State.entryResult (s : State) (e code : Nat) : State :=
  let y := s.entry e
  s.setEntry e { y with result := code, fails := if code = 0 then y.fails else sat16 y.fails }

/-- A shut-off command. -/
def PsTx.isOff (t : PsTx) : Bool :=
  match t.why with
  | .shutoff _ => true
  | _ => false

/-- The transaction of the entry that waited for a VOUT_MODE that could not be read ends with it; a shut-off command waits for none. -/
def State.modeFail (s : State) (n : Nat) (t : PsTx) : State :=
  let x := s.port n
  match x.queue.find? (fun u => u.part == t.part && u.entry == t.entry && !u.isOff) with
  | none => s
  | some u =>
    let s := s.setPort n { x with queue := x.queue.erase u }
    match u.why with
    | .action e => s.actResult e 2
    | .loop c => s.loopFails n u c
    | _ => s

/-- A transaction of an entry on a port has a result of Table 15-3: it is recorded, and results 3 to 5 are counted for the port. -/
def State.txResult (s : State) (n e code : Nat) : State :=
  let s := s.entryResult e code
  if code = 3 then s.bump16 (pssPecErrCount n) else if code = 4 then s.bump16 (pssStretchCount n)
  else if code = 5 then s.bump16 (pssBusErrCount n) else s

/-- VOUT_MODE of an entry has been read (R388). -/
def State.modeIn (s : State) (e mode : Nat) : State :=
  let s := s.setEntry e { s.entry e with voutMode := mode, modeRead := true }
  if mode / 32 = 0 then s else s.entryResult e 6

/-- A transaction ends with a result of Table 15-3 and the word that a read gave. -/
def State.txEnd (s : State) (n : Nat) (t : PsTx) (code data : Nat) : State :=
  let s := (s.setPort n { s.port n with busy := none }).txResult n t.entry code
  match t.why with
  | .action e => s.actResult e (if code = 0 then 1 else 2)
  | .loop c =>
    if code = 0 then s.setEntry t.entry { s.entry t.entry with loop := 2 }
    else (s.setEntry t.entry { s.entry t.entry with loop := 5 }).bump16 (psTrimNackCount n) |>.raise 18 0x29 t.part false (two c)
  | .shutoff tries =>
    if code = 0 then s
    else if tries < 2 then
      let x := s.port n
      s.setPort n { x with queue := { t with why := .shutoff (tries + 1), page := 255, paging := false } :: x.queue }
    else s.raise 18 0x7A t.part false [BitVec.ofNat 8 t.entry, BitVec.ofNat 8 code]
  | .poll k => if code = 0 then s.nbReading k (linear11 data) else s
  | .mode =>
    if code ≠ 0 then s.modeFail n t else s.modeIn t.entry (data % 256)

/-- The result code of a transaction that ended on the bus (Table 15-3). -/
def psCode : PsResult → Nat
  | .acknowledged => 0
  | .addressNack => 1
  | .dataNack => 2
  | .pecInvalid => 3

/-- The PAGE write of a turn is acknowledged: its transaction follows on the bus (R387). -/
def State.pageDone (s : State) (n : Nat) (t : PsTx) : State :=
  (s.setPort n { s.port n with busy := some { t with paging := false } }).loopSent t

/-- PS_TRANSACTION_END (R387, R389): the end of what is on the bus. A PAGE write that fails is the result of its turn. -/
def execPsTransactionEnd (n : Fin 8) (result : PsResult) (data : BitVec 16) (s : State) : Outcome State Fault Refusal :=
  match (s.port n).busy with
  | none => ok s
  | some t => if t.paging ∧ result = .acknowledged then ok (s.pageDone n t) else ok (s.txEnd n t (psCode result) data.toNat)

/-- What a port sends on its bus, from the address byte on (Table 15-2): the PAGE write of a turn, or its transaction; of a read the command and,
behind a repeated START, the address byte that begins the read. -/
def State.psBus (s : State) (n : Nat) : Option Bytes :=
  (s.port n).busy.map (fun (t : PsTx) =>
    let w := s.act (tgtEntry t.entry)
    let a : Byte := BitVec.ofNat 8 (2 * field w 13 7)
    let close := fun (b : Bytes) => if bitOf w 27 then b ++ [crc8 b] else b
    let c : Byte := BitVec.ofNat 8 t.cmd
    if t.paging then close [a, 0, BitVec.ofNat 8 t.page]
    else if t.cmd = 0x20 ∨ t.cmd = 0x79 ∨ t.cmd = 0x8D then [a, c, a ||| 1]
    else if t.cmd = 3 then close [a, c]
    else if t.cmd = 0x21 then close (a :: c :: two t.data)
    else close [a, c, BitVec.ofNat 8 t.data])

/-- A PS port fault, or its end (EV 0x78). -/
def State.portFault (s : State) (n cause : Nat) (clear : Bool) : State :=
  s.raise 18 0x78 255 clear [BitVec.ofNat 8 n, BitVec.ofNat 8 cause]

/-- The port waits for SCL to go high, with its fault event (R391). -/
def State.stretched (s : State) (n : Nat) : State := (s.setPort n { s.port n with recovering := true }).portFault n 1 false

/-- The message of this device on PEER is dropped: PEER_DROP and EV 0x7B (R403). -/
def State.peerDropped (s : State) : State :=
  ({ s with peerTries := 0, peerOut := s.peerOut.dropLast }.bump16 peersPeerDrop).raise 18 0x7B 255 false [1]

/-- PS_STRETCH_TIMEOUT (R391, R403): SCL low for more than 25 ms ends the transaction with result 4, and the port recovers the bus. PEER (8) as
controller does so too; its message is not sent again and is dropped (log 21). -/
def execPsStretchTimeout (n : Fin 9) (s : State) : Outcome State Fault Refusal :=
  if n.val = 8 then
    if s.peerOut.isEmpty || !s.peerOn then ok s else ok ((s.setPort 8 { s.port 8 with recovering := true }).peerDropped)
  else match (s.port n).busy with
    | none => ok s
    | some t => ok ((s.txEnd n t 4 0).stretched n)

/-- SCL_RELEASED (R391, R403): SCL is high again. With SDA low the port sends SCL pulses until SDA is high, at most nine, and a STOP; then it is
idle. SDA that is low even then stays a state of the bus (R392, R394). -/
def execSclReleased (n : Fin 9) (sda : SdaLine) (s : State) : Outcome State Fault Refusal :=
  let x := s.port n
  if !x.recovering then ok s
  else match sda with
    | .high => ok (s.setPort n { x with recovering := false, freed := 0 })
    | .freed k => ok (s.setPort n { x with recovering := false, freed := k.val + 1 })
    | .low => ok (s.setPort n { x with recovering := false, freed := 9, sdaLow := true })

/-- LINE_STUCK (R392, R403): a line low for more than 35 ms; on PEER (8) it is only an event. A transaction on the bus ends with result 5. -/
def execLineStuck (n : Fin 9) (s : State) : Outcome State Fault Refusal :=
  if n.val = 8 then ok (s.raise 18 0x7B 255 false [2])
  else if (s.port n).stuck then ok s
  else
    let s := match (s.port n).busy with
      | none => s
      | some t => s.txEnd n t 5 0
    let s := s.setPort n { s.port n with stuck := true }
    ok ((s.bump16 (pssStuckCount n)).portFault n 2 false)

/-- LINE_STUCK_CLEAR (R392): both lines have been high for 1 ms. -/
def execLineStuckClear (n : Fin 9) (s : State) : Outcome State Fault Refusal :=
  let s := s.setPort n { s.port n with sdaLow := false }
  if n.val < 8 ∧ (s.port n).stuck then ok ((s.setPort n { s.port n with stuck := false }).portFault n 2 true) else ok s

/-- PS_BUS_ERROR (R393, R403): the transaction ends with result 5; a message of PEER (8) is dropped (log 21). -/
def execPsBusError (n : Fin 9) (s : State) : Outcome State Fault Refusal :=
  if n.val = 8 then (if s.peerOut.isEmpty || !s.peerOn then ok s else ok s.peerDropped)
  else match (s.port n).busy with
    | none => ok s
    | some t => ok ((s.txEnd n t 5 0).portFault n 3 false)

/-! ### Alerts (R394, R395) -/

/-- The enabled entries of a port with an address, in ascending number. -/
def State.entriesAt (s : State) (n a : Nat) : List Nat :=
  (List.range 256).filter (fun e =>
    let w := s.act (tgtEntry e)
    tgtOn w && tgtPort w == n && field w 13 7 == a)

/-- A read of the alert handling ends: a turn with a result, and with result 4 or 5 the fault of the port (R389, R391, R393). -/
def State.alertTx (s : State) (n e code : Nat) : State :=
  let s := (s.bump32 (pssTurns n)).txResult n e code
  if code = 4 then s.stretched n else if code = 5 then s.portFault n 3 false else s

/-- One entry of an alert (R395): VOUT_MODE first at its first turn (R388), then STATUS_WORD, with EV 0x79 to its partition. While the port
recovers its bus, what is left is not read. -/
def State.alertEntry (s : State) (n e : Nat) (r : AlertRead) : State :=
  let mode := fun (s : State) =>
    let t := s.alertTx n e r.modeCode.val
    if r.modeCode.val = 0 then t.modeIn e r.mode.toNat else t
  let word := fun (s : State) =>
    let t := s.alertTx n e r.code.val
    if r.code.val = 0 then t.raise 18 0x79 (tgtPart (s.act (tgtEntry e))) false (BitVec.ofNat 8 e :: two r.word.toNat) else t
  if (s.port n).recovering then s
  else
    let s := if (s.entry e).modeRead then s else mode s
    if (s.port n).recovering then s else word s

/-- The entries at the address in ascending number; a read of which nothing is said was not acknowledged (log 21). -/
def State.alertWords (s : State) (n : Nat) (l : List Nat) (reads : List AlertRead) : State :=
  l.zipIdx.foldl (fun s e =>
    s.alertEntry n e.1 ((reads[e.2]?).getD { modeCode := 1, mode := 0, code := 1, word := 0 })) s

/-- ATTENTION_REQUEST (R394, R395): SDA low on the idle bus. Its transactions count as turns of P0 in the round robin; while SDA stays low none
begins. -/
def execAttentionRequest (n : Fin 8) (reply : AlertReply) (s : State) : Outcome State Fault Refusal :=
  let x := s.port n
  if !s.portRuns n || x.busy.isSome || x.recovering || x.stuck then ok s
  else
    let s := (s.setPort n { x with sdaLow := reply.heldLow }).bump16 (pssAlertCount n)
    if s.act (psAlertEnable n) = 0 || reply.heldLow then ok s
    else
      let s := (s.setPort n { s.port n with lastPart := 0 }).bump32 (pssTurns n)
      match reply.response with
      | none => ok (s.bump16 (pssAlertUnknown n))
      | some a =>
        let l := s.entriesAt n (a.toNat / 2)
        if l.isEmpty then ok (s.bump16 (pssAlertUnknown n)) else ok (s.alertWords n l reply.reads)

/-! ### SVC windows (R397 to R402) -/

/-- SVC acknowledges the address of window w (R397). -/
def State.svcOpen (s : State) (w : Nat) : Bool :=
  bitOf (s.act svcSvcWindows) w && s.supply.vcore && !s.islandBad.contains 18 && !s.vioLost.contains 2

/-- The window that a 7-bit address opens: SVC_BASE + n opens window n (R397). -/
def State.svcWindow (s : State) (a : Nat) : Option Nat :=
  let b := s.act svcSvcBase
  if b ≤ a ∧ a < b + 16 ∧ s.svcOpen (a - b) then some (a - b) else none

/-- SVC among the two-wire ports of the state; PEER is 8. -/
def svcPort : Nat := 9

/-- The transport of a window. -/
def svcTr (w : Nat) : Transport := .svc (Fin.ofNat 16 w)

/-- Requests of window w submitted and unanswered: waiting to be executed, or waiting for a commit. -/
def State.outstanding (s : State) (w : Nat) : Nat :=
  (s.inbox.filter (fun (x : InReq) => x.req.tr == svcTr w)).length +
    (s.waits.filter (fun x => match tabFind s.sessions x.sess with
      | some y => y.tr == svcTr w
      | none => false)).length

/-- Count a write that is ignored. -/
def State.svcIgnore (s : State) : State := s.bump32 svcsSvcIgnored

/-- A submit of window w is refused (R399): while OVERRUN is set, and while four of its requests and frames are outstanding or queued. -/
def State.submitFull (s : State) (w : Nat) : Bool := (s.window w).overrun || decide (4 ≤ s.outstanding w + (s.window w).queue.length)

/-- A submit of window w as a request (R399): refused while OVERRUN is set or four are outstanding or queued; it empties the buffer. -/
def State.submit (s : State) (w : Nat) (service : Bool) (bytes : Bytes) : State :=
  let x := s.window w
  if s.mgmtDown then s
  else if s.submitFull w then s.setWindow w { x with refused := true }
  else
    let s := s.setWindow w { x with req := [] }
    { s with inbox := s.inbox ++ [{ req := { tr := svcTr w, ep := w, service := service, bytes := bytes }, at_ := s.now }] }

/-- SUBMIT_DAP (R399): the buffer is a DAP frame. -/
def State.submitDap (s : State) (w : Nat) : State := s.submit w false (s.window w).req

/-- SUBMIT_SERVICE (R399): a payload and its CRC-32; ignored while SERVICE_FORM is clear, discarded with an invalid CRC. -/
def State.submitService (s : State) (w : Nat) : State :=
  let x := s.window w
  let n := x.req.length
  if s.act svcServiceForm = 0 then s.svcIgnore
  else if s.mgmtDown then s
  else if s.submitFull w then s.setWindow w { x with refused := true }
  else if n < 4 ∨ leNat (x.req.drop (n - 4)) ≠ (crc32 (x.req.take (n - 4))).toNat then
    (s.setWindow w { x with req := [] }).bump32 svcsSvcCrcErr
  else s.submit w true (x.req.take (n - 4))

/-- CLEAR (R399). -/
def State.windowClear (s : State) (w : Nat) : State := s.setWindow w { s.window w with req := [], overrun := false, refused := false }

/-- The attention of a window whose queue has become empty begins anew (R402). -/
def SvcX.emptied (x : SvcX) : SvcX := if x.queue.isEmpty then { x with attnAt := none } else x

/-- DROP_HEAD (R399). -/
def State.dropHead (s : State) (w : Nat) : State :=
  s.setWindow w (SvcX.emptied { s.window w with queue := (s.window w).queue.drop 1 })

/-- One byte written to a window acts at its pointer, which then moves by one (R398). -/
def State.svcByte (s : State) (w : Nat) (b : Byte) : State :=
  let x := s.window w
  let s := s.setWindow w { x with pointer := (x.pointer + 1) % 256 }
  if 16 ≤ x.pointer then
    let y := s.window w
    if 8476 ≤ y.req.length then s.setWindow w { y with overrun := true } else s.setWindow w { y with req := y.req ++ [b] }
  else if x.pointer = 1 then
    match b.toNat with
    | 1 => s.submitDap w
    | 2 => s.submitService w
    | 3 => s.windowClear w
    | 4 => s.dropHead w
    | _ => s.svcIgnore
  else s.svcIgnore

/-- A transaction runs on the SVC bus: SVC releases SDA and follows it as target; an attention pulse that it cuts off is given again after its
STOP and idle (R402). -/
def State.svcBus (s : State) : State :=
  let x := s.port svcPort
  let cut := x.pulseAt.any (fun t => !s.passed t (usTicks 50))
  s.setPort svcPort { x with pulseAt := if cut then none else x.pulseAt, again := x.again || cut, stopAt := s.now }

/-- SVC_WRITE (R397, R398): a write to a 7-bit address; the first byte sets the pointer of the window that it opens. -/
def execSvcWrite (addr : Fin 128) (bytes : Bytes) (s : State) : Outcome State Fault Refusal :=
  let s := s.svcBus
  match s.svcWindow addr.val with
  | none => ok s
  | some w => match bytes with
    | [] => ok s
    | p :: rest => ok (rest.foldl (fun s b => s.svcByte w b) (s.setWindow w { s.window w with pointer := p.toNat }))

/-- WIN_STATUS (Table 15-6). -/
def State.winStatus (s : State) (w : Nat) : Nat :=
  let x := s.window w
  bitIf (!x.queue.isEmpty) 0 + bitIf ((x.queue.head?.map (fun f => f.1)).getD false) 1 + bitIf (decide (0 < s.outstanding w)) 3 +
    bitIf x.refused 5 + bitIf x.overrun 6 + bitIf s.mgmtDown 7

/-- The byte at a position of the window map other than DATA. -/
def State.winByte (s : State) (w pos : Nat) : Nat :=
  let x := s.window w
  let left := ((x.queue.head?).map (fun f => f.2.length)).getD 0
  match pos with
  | 0 => s.winStatus w
  | 2 => x.req.length % 256
  | 3 => x.req.length / 256
  | 4 => left % 256
  | 5 => left / 256
  | 6 => x.queue.length
  | 7 => w
  | _ => 0

/-- Take the next byte of the head frame, 0xFF if there is none; a frame read to its end is gone. -/
def SvcX.takeByte (x : SvcX) : SvcX × Byte :=
  match x.queue with
  | [] => (x, 0xFF)
  | (ev, f) :: rest =>
    match f with
    | [] => ({ x with queue := rest }, 0xFF)
    | b :: t => ({ x with queue := if t.isEmpty then rest else (ev, t) :: rest }, b)

/-- One byte read from a window (R398). -/
def State.svcTake (s : State) (w : Nat) : State × Byte :=
  let x := s.window w
  let (y, b) := if 16 ≤ x.pointer then x.takeByte else (x, BitVec.ofNat 8 (s.winByte w x.pointer))
  (s.setWindow w (SvcX.emptied { y with pointer := (x.pointer + 1) % 256 }), b)

/-- SVC_READ (R397, R398): a read from a 7-bit address, a number of bytes from the pointer of its window on. -/
def execSvcRead (addr : Fin 128) (count : Nat) (s : State) : Outcome State Fault Refusal :=
  let s := s.svcBus
  match s.svcWindow addr.val with
  | none => ok s
  | some w =>
    let (t, l) := (List.range count).foldl (fun (a : State × Bytes) _ =>
      let (u, b) := a.1.svcTake w
      (u, a.2 ++ [b])) (s, [])
    ok { t with reply := l }

/-- A write of WIN_CMD of a window, in a transaction on the bus; in a window that is not acknowledged it does nothing. -/
def State.winCmd (s : State) (w : Nat) (f : State → State) : State :=
  let s := s.svcBus
  if s.svcOpen w then f s else s

def execSubmitDap (w : Fin 16) (s : State) : Outcome State Fault Refusal := ok (s.winCmd w (fun s => s.submitDap w))
def execSubmitService (w : Fin 16) (s : State) : Outcome State Fault Refusal := ok (s.winCmd w (fun s => s.submitService w))
def execWindowClear (w : Fin 16) (s : State) : Outcome State Fault Refusal := ok (s.winCmd w (fun s => s.windowClear w))
def execDropHead (w : Fin 16) (s : State) : Outcome State Fault Refusal := ok (s.winCmd w (fun s => s.dropHead w))

/-- Window w calls for attention (R402): its queue has gone from empty to holding a frame, or ATTN_REPEAT, if not 0, has passed. -/
def State.attnDue (s : State) (w : Nat) : Bool :=
  let x := s.window w
  !x.queue.isEmpty && (match x.attnAt with
    | none => true
    | some t => s.act svcAttnRepeat != 0 && s.passed t (msTicks (s.act svcAttnRepeat)))

/-- SVC_ATTENTION (R402): a pulse, which stands for every window that holds an unread frame, once the bus has been idle for 50 µs; one that a
transaction cut off is given again. -/
def execSvcAttention (s : State) : Outcome State Fault Refusal :=
  let x := s.port svcPort
  if s.act svcAttnEnable = 1 ∧ s.supply.vcore ∧ s.islandBad.contains 18 = false ∧ s.vioLost.contains 2 = false ∧
      (partitions.any s.attnDue ∨ x.again) ∧ s.passed x.stopAt (usTicks 50) then
    let s := s.setPort svcPort { x with pulseAt := some s.now, again := false }
    ok ((s.each (partitions.filter (fun w => !(s.window w).queue.isEmpty)) (fun s w =>
      s.setWindow w { s.window w with attnAt := some s.now })).bump32 svcsSvcAttnCount)
  else ok s

/-! ### PEER (R403) -/

/-- PEER_ARBITRATION_LOSS (R403): a device that is not addressed sends its message again, up to three times; then it is dropped with EV
0x7B. The message on the bus is the last one handed over. -/
def execPeerArbitrationLoss (addressed : Bool) (s : State) : Outcome State Fault Refusal :=
  let s := s.bump32 peersArbLostCount
  if addressed || s.peerOut.isEmpty then ok s
  else if s.peerTries < 3 then ok { s with peerTries := s.peerTries + 1 }
  else ok s.peerDropped

end Sys2Proof.Machine
end

