-- ==== Sys2Proof/Machine/Flags.lean ====
section
/-! DEFINITION. The status words of the dictionary that the device forms at the read from its state: the FLAGS words and maps of each
chapter, bit by bit as their tables set them. -/
namespace Sys2Proof.Machine

/-! ### Channels and enables (Table 2-7) -/

/-- A trim loop acts on channel c: its TRM output is closed or saturated, or its PMBus loop has sent a command (TRIM_ACTIVE). -/
def State.trimActive (s : State) (c : Nat) : Bool :=
  let t := s.act (chTrimId c)
  match s.act (chTrimKind c) with
  | 1 => decide ((s.trim t).loop = .closed ∨ (s.trim t).loop = .saturated)
  | 2 => (s.entry t).loop == 2
  | _ => false

/-- The enable of channel c is frozen by a loss of its cluster clock (ENABLE_HELD). -/
def State.enableHeld (s : State) (c : Nat) : Bool :=
  decide (s.act (chEnable c) < 256) && (s.cluster (s.act (chEnable c) / 32)).clockLost

/-- FLAGS of channel c. -/
def State.chanFlags (s : State) (c : Nat) : Nat :=
  let x := s.chan c
  bitIf (s.kind c != 0) 0 + bitIf (x.stale || (s.cluster (clOf c)).clockLost) 1 + bitIf (s.trimActive c) 2 + bitIf (s.enableHeld c) 3 + bitIf x.recovered 4 +
    bitIf x.rampSkip 5 + bitIf x.lowerCmp 6 + bitIf x.upperCmp 7 + bitIf x.lowerWarn 8 + bitIf x.upperWarn 9 +
    bitIf (s.sliceSuspect c) 10 + bitIf x.openWire 11

/-- EN_LEVEL of enable e. -/
def State.enLevel (s : State) (e : Nat) : Nat :=
  if s.act (chEnMode e) = 0 then 3 else if (s.cluster (e / 32)).clockLost then 2 else if (s.en e).asserted then 1 else 0

/-- The byte of a slice number, 0xFF for none (SLICE_MAP, SERVING_SLICE). -/
def sliceByte (x : Option Nat) : Nat := x.getD 255

/-- SLICE_MAP of cluster n as the number that its 9 bytes spell. -/
def State.sliceMapWord (s : State) (n : Nat) : Nat :=
  leNat ((s.cluster n).sliceMap.map (fun x => BitVec.ofNat 8 (sliceByte x)))

/-! ### The device (Tables 12-14, 12-16, 12-17, 11-15) -/

/-- POWER_STATE (Table 11-1). -/
def PowerState.code : PowerState → Nat
  | .backup => 0
  | .standby => 1
  | .starting => 2
  | .active => 3

/-- DEVICE_FLAGS. -/
def State.deviceFlags (s : State) : Nat :=
  bitIf (!s.committed) 0 + bitIf s.timeFree 1 + bitIf s.fabricFault 2 + bitIf s.sec.unlocked 3

/-- SUPPLY_FLAGS. -/
def SupplyX.flags (x : SupplyX) : Nat :=
  bitIf x.rtcValid 0 + bitIf x.rtcDegraded 1 + bitIf x.bkupLow 2 + bitIf x.retainStale 3 + bitIf x.plw 4 + bitIf x.lockShown 5

/-- SET_STATE of a staging set. -/
def State.setState (s : State) (w : Nat) : Nat :=
  if s.armedSet = some w then (if s.checking then 3 else 4)
  else if s.queueC.any (fun x => x.1 == w) then 2
  else if (s.stageSet w).entries.isEmpty then 0 else 1

/-- A map of 16 units with a property. -/
def map16 (f : Nat → Bool) : Nat := ((List.range 16).map (fun i => bitIf (f i) i)).sum

/-- OUTSTANDING: requests that await their execution or their response (R343). -/
def State.openRequests (s : State) : Nat := s.inbox.length + s.waits.length

/-! ### Fault fabric, sequences, captures (Tables 4-9, 4-10, 5-17, 5-20, 5-22) -/

/-- LATCH_CLUSTERS of partition p. -/
def State.latchClusters (s : State) (p : Nat) : Nat := map16 (fun n => decide (n < 8) && (s.latch n p).isSet)

/-- DISCHARGE_ACTIVE of partition p. -/
def State.dischargeActive (s : State) (p : Nat) : Bool := (s.ensOf p).any (fun e => s.isDischarge e && (s.en e).asserted)

/-- PHASE of Table 5-17. -/
def SeqPhase.code : SeqPhase → Nat
  | .notMember => 0
  | .inStep => 1
  | .catchingUp => 2
  | .descending => 3
  | .lowered => 4

/-- ABSENT_NOW of partition p. DESIGN CHOICE (log 24): a VOLTAGE channel counts; a CURRENT channel that reports ABSENT through its companion
does not count beside it. -/
def State.absentNow (s : State) (p : Nat) : Nat := ((s.chansOf p).filter (fun c => decide ((s.chan c).state = .absent))).length

/-- COARSE of capture unit u (R166). -/
def State.capCoarse (s : State) (u : Nat) : Bool :=
  [4, 5].contains (s.act (capStartSrc u)) || [4, 5].contains (s.act (capStopSrc u))

/-! ### Trim and maintenance (Tables 8-6, 8-7, 8-11, 8-4) -/

/-- LOOP_STATE of a TRM output. -/
def TrimState.code : TrimState → Nat
  | .zero => 0
  | .preset => 1
  | .closed => 2
  | .saturated => 3
  | .hiZ => 4

/-- SWEEP_OWNER of port n. -/
def State.sweepOwner (s : State) (n : Nat) : Nat :=
  (partitions.find? (fun p => (s.bench p).phase.runs && s.sweepsOn p n)).getD 255

/-- ACTIVE of the maintenance status. -/
def State.maintActiveMap (s : State) : Nat :=
  let sweep := partitions.any (fun p => (s.bench p).phase.runs) || s.chans.any (fun e => e.2.staticMgn)
  let cal := clustersAll.any (fun n => s.tourRuns n || (s.committed && (s.spare n).isSome && !(s.cluster n).calDone))
  bitIf sweep 0 + bitIf cal 1 + bitIf (s.chans.any (fun e => !e.2.owKinds.isEmpty)) 2 + bitIf s.scrubbing.isSome 3 + bitIf s.switching 4 + bitIf s.fwUpdates 5 +
    bitIf s.nv.erase.isSome 6

/-- WAITING of the maintenance status: what waits under R242. -/
def State.maintWaitMap (s : State) : Nat :=
  bitIf (partitions.any (fun p => decide ((s.bench p).phase = .waiting)) || s.chans.any (fun e => e.2.marginPend.isSome)) 0 + bitIf (clustersAll.any s.tourWaits) 1 +
    bitIf (s.waitMaint.contains 16 || s.waitMaint.contains 17) 5 + bitIf (s.waitMaint.contains 18 || s.waitMaint.contains 19 || s.nv.queue.any s.opHeld) 6

/-! ### The log, the flash (Tables 9-8, 9-9, 16-10, 16-11) -/

/-- COMMAND_STATE: a command, or its erase, waits under R242. A verification takes no time in this model. -/
def State.logState (s : State) : Nat :=
  if s.waitMaint.contains 18 || s.waitMaint.contains 19 || s.nv.queue.any (fun o => o.isLogErase && s.opHeld o) then 3
  else if s.log.command ≠ 0 then 1 else 0

/-- DRAWERS of partition p: the occupied slots whose PARTITION reads p. -/
def State.drawersOf (s : State) (p : Nat) : Nat := (slots.filter (fun n => s.occupied n && s.partAt n == p)).length

/-- NV_STATE. -/
def State.nvState (s : State) : Nat :=
  if s.nv.program.isSome then 1
  else if s.nv.erase.isSome then (if s.nv.suspended then 3 else 2)
  else if s.nvInhibited then 4 else 0

/-- ERASE_SECTOR and ERASE_RUN. -/
def State.eraseSectorNow (s : State) : Nat := ((s.nv.erase).map (fun o => secOf o.addr)).getD 0xFFFF
def State.eraseRunUs (s : State) : Nat :=
  if s.nv.erase.isNone then 0 else (s.nv.eraseRun + (if s.nv.suspended then 0 else s.now - s.nv.eraseFrom)) / 100

/-- REGION_FLAGS of region r: BOOT_OTHER stands at the bank that runs (Table 16-3). -/
def State.regionFlags (s : State) (r : Nat) : Nat :=
  bitIf (decide (0 < s.uncorrSectors r)) 0 + bitIf (decide (0 < s.sectorsWith r (·.weak))) 1 +
    bitIf (decide (0 < s.sectorsWith r (·.failed))) 2 + bitIf (decide (r < 2) && r == s.sec.running && s.sec.bootOther) 3

/-! ### Ports, drives, Trestle (Tables 15-7, 15-13, 17-8, 6-14) -/

/-- PORT_STATE of port n. -/
def State.portState (s : State) (n : Nat) : Nat :=
  let x := s.port n
  if s.act (psEnable n) = 0 then 0 else if x.stuck then 4 else if x.recovering then 3 else if x.busy.isSome then 2 else 1

/-- The status word of target entry e. -/
def State.entryWord (s : State) (e : Nat) : Nat :=
  let x := s.entry e
  x.voutMode * 16777216 + x.result * 1048576 + x.loop * 131072 + x.fails

/-- DRV_STATE of drive d. -/
def State.drvState (s : State) (d : Nat) : Nat :=
  if s.act (drvEnable d) = 0 then 0 else if (s.drive d).fault ≠ 0 then 3 else if (s.drive d).running then 2 else 1

/-- SPEED_FLAGS of drive d. -/
def State.speedFlags (s : State) (d : Nat) : Nat :=
  bitIf (s.drive d).estimating 0 + bitIf (s.drive d).standstill 1 + bitIf (s.boosted d) 2

/-- TSYNC_FLAGS. -/
def State.tsyncFlags (s : State) : Nat := bitIf s.isAligned 0 + bitIf s.trestle.lost 1 + bitIf s.trestle.stepped 2

/-! ### Links and the host (Tables 13-14, 13-16, 14-9) -/

/-- LINK_STATE of CAN channel k. Error active or passive follows from the error counters, which no command of the block determines: a bit
that the spec leaves open here (log 3). -/
def State.canState (s : State) (k : Nat) : Nat :=
  if s.act (canEnable k) = 0 then 0
  else match s.downCause k with
    | 0 => if (Config.freeValue s.draws).getLsbD 0 then 2 else 1
    | 1 => 3
    | _ => 4

/-- LINK_STATE of the T1S port. -/
def State.t1sState (s : State) : Nat :=
  if s.act t1sEnable = 0 then 0 else if s.t1sSleep then 2 else if s.downCause 2 = 0 then 1 else 3

/-- PLCA_STATUS: 0 in link sleep, with a PHY fault, and while the PHY does not run; a link that is down for want of valid frames may still see
beacons. -/
def State.plcaState (s : State) : Nat :=
  if s.act t1sEnable = 0 ∨ s.act t1sPlcaEnable = 0 then 0
  else if s.t1sSleep ∨ s.downCause 2 = 3 ∨ s.islandBad.contains 16 ∨ s.refFailAt.isSome then 0
  else if s.act t1sPlcaNodeId = 0 then 2
  else if (tabGet (fun _ => {}) s.downs 2 : LinkX).beaconLost then 0 else 1

/-- LINK_STATE of the host link. -/
def HostX.linkState (h : HostX) : Nat := if h.wakeOpen then 2 else if h.sleep then 1 else 0

/-- KEY_ERASED. -/
def State.keyErased (s : State) : Nat := ((List.range 17).map (fun k => bitIf (s.key k).key.isNone k)).sum

/-- SESSION_LINK of a session's transport. -/
def trNum : Transport → Nat
  | .can k => k.val
  | .t1s => 2
  | .spi => 3
  | .svc _ => 4

end Sys2Proof.Machine
end

