-- ==== Sys2Proof/Machine/Operands.lean ====
section
/-! DEFINITION. The operands of dictionary items: which entries there are (R314, step 8 of Table 12-3), which role holds which right (R319,
step 7), and which values a write may carry (R316, steps 10 and 11), with the fields that the state bounds. -/
namespace Sys2Proof.Machine

/-! ### Entries (R314) -/

/-- Sub-index of a charge counter (R100). -/
def isCharge (base sub : Nat) : Bool := decide (base = 0x2600 ∧ 0x40 ≤ sub ∧ sub ≤ 0xBF)

/-! ### Rights (R61, R63, R100, R133, R167, R196, R228, R243, R262, R279, R313, R333, R334, R359, R382, R406, R425, R441, R463) -/

/-- Whether the item of a channel object, of the channel or of the enable of its number, belongs to partition p. -/
def State.chanItem (s : State) (p u sub : Nat) (en : Bool) : Bool :=
  if en && decide (u < 256) then s.act (chEnPartition u) == p else decide (sub < 256) && s.chPart u == p

/-- What the PARTITION role of partition p may read of the objects below 0x3000. -/
def State.partReadsLow (s : State) (p base u sub : Nat) : Bool :=
  match base with
  | 0x1000 | 0x1001 | 0x1002 | 0x1010 => true
  | 0x1020 => u == p
  | 0x1100 => decide (1 ≤ sub ∧ sub ≤ 3)
  | 0x1180 => decide (7 ≤ sub ∧ sub ≤ 8)
  | 0x2000 => s.chanItem p u sub (decide (0x20 ≤ sub ∧ sub ≤ 0x22))
  | 0x2400 => s.chanItem p u sub (sub == 0x20)
  | 0x2200 => true
  | 0x2600 => if isCharge base sub then s.chPart (64 * u + sub % 64) == p else true
  | 0x2310 | 0x2710 | 0x2800 | 0x2840 => u == p
  | 0x2860 => s.groupOf p == u
  | 0x2880 | 0x28C0 => s.act (capPartition u) == p
  | 0x2A00 => sub == 1 && inRange s.act p u
  | _ => false

/-- What the PARTITION role of partition p may read of the objects from 0x3000 on. -/
def State.partReadsHigh (s : State) (p base u sub : Nat) : Bool :=
  match base with
  | 0x3000 | 0x3020 | 0x3140 | 0x4010 | 0x5830 | 0x7F10 => u == p
  | 0x3100 => [1, 2, 5, 6, 7].contains sub
  | 0x3110 => decide (1 ≤ sub) && (sub - 1) % 16 == p
  | 0x3400 => trimOfPart s.act p u
  | 0x3490 | 0x34B0 => sub == 1 && s.chPart u == p
  | 0x3820 => true
  | 0x4000 => sub == 1
  | 0x4100 | 0x4140 => sub == 1 && s.mayReadDrawer (.partition (Fin.ofNat 16 p)) u
  | 0x4800 | 0x5818 | 0x5848 | 0x6030 => true
  | 0x4820 | 0x4840 => sub == 1 && tgtPart (s.act (tgtEntry u)) == p
  | 0x5000 | 0x5020 => s.act (drvPartition u) == p
  | 0x5808 | 0x5809 | 0x6001 => sub == p + 1
  | 0x5828 => sub == 2
  | 0x5880 | 0x58C0 => s.act (strPartition u) == p
  | 0x6000 => decide (1 ≤ sub ∧ sub ≤ 3)
  | 0x7020 => decide (1 ≤ sub ∧ sub ≤ 4)
  | 0x7030 => s.groupOf p == u
  | _ => false

/-- What the PARTITION role of partition p may write. -/
def State.partWrites (s : State) (p base u sub : Nat) : Bool :=
  match base with
  | 0x1010 => sub == 1
  | 0x1020 => u == p && sub == 1
  | 0x2000 =>
    if sub = 0x21 then decide (u < 256) && s.act (chEnPartition u) == p
    else (decide (4 ≤ sub ∧ sub ≤ 0x0D) || [0x0F, 0x10, 0x14, 0x15].contains sub) && s.chPart u == p
  | 0x2400 => sub == 0x0F && s.chPart u == p
  | 0x2310 => u == p && decide (5 ≤ sub ∧ sub ≤ 6)
  | 0x2800 => u == p && decide (7 ≤ sub ∧ sub ≤ 8)
  | 0x2880 => sub == 9 && s.act (capPartition u) == p
  | 0x3100 => sub == 6
  | 0x3490 => sub == 1 && s.chPart u == p
  | 0x34E0 => u == p && (decide (1 ≤ sub ∧ sub ≤ 0x0B) || decide (0x13 ≤ sub ∧ sub ≤ 0x15))
  | 0x4010 => u == p && sub == 4
  | 0x5010 => s.act (drvPartition u) == p
  | 0x5848 | 0x6030 => true
  | 0x5880 => (sub == 1 || decide (4 ≤ sub ∧ sub ≤ 7)) && s.act (strPartition u) == p
  | _ => false

/-- What the SERVICE role may read. -/
def serviceReads (base sub : Nat) : Bool :=
  match base with
  | 0x1020 => decide (2 ≤ sub ∧ sub ≤ 3)
  | 0x1120 | 0x3120 | 0x3140 | 0x5848 | 0x6010 | 0x6020 | 0x6030 | 0x6040 | 0x7820 => false
  | 0x2600 => !isCharge base sub
  | 0x3100 => decide (1 ≤ sub ∧ sub ≤ 5)
  | 0x7830 => decide (4 ≤ sub ∧ sub ≤ 5)
  | _ => true

/-- What the PEER role may read; it may write nothing. -/
def State.peerReads (s : State) (base u sub : Nat) : Bool :=
  match base with
  | 0x1000 | 0x1001 | 0x3820 | 0x7000 | 0x7010 | 0x7020 | 0x7030 => true
  | 0x1002 | 0x1100 | 0x2700 => decide (1 ≤ sub ∧ sub ≤ 2)
  | 0x2400 => (sub == 1 || sub == 5) && s.chPart u == 0
  | 0x2860 => sub == 1
  | _ => false

/-- OWNER may write an object, or the sub-index of it, for which a right to write is stated (R319): identity, device, cluster status and diagnostics
are read only, and of the events and the staging sets EVENT_CURSOR and COMMIT alone are written (R100, R333, R334). -/
def ownerWrites (base sub : Nat) : Bool :=
  if base = 0x1000 ∨ base = 0x1001 ∨ base = 0x1002 ∨ base = 0x2600 ∨ base = 0x7F00 ∨ base = 0x7F10 then false
  else if base = 0x1010 ∨ base = 0x1020 then sub == 1
  else true

/-- Step 7: the role holds the right to read or to write. OWNER reads every object. -/
def State.mayAccess (s : State) (r : Role) (write : Bool) (base u sub : Nat) : Bool :=
  match r with
  | .owner => !write || ownerWrites base sub
  | .partition p => if write then s.partWrites p base u sub else s.partReadsLow p base u sub || s.partReadsHigh p base u sub
  | .service => if write then (base == 0x1010 || base == 0x6010) && sub == 1 else serviceReads base sub
  | .peer => !write && s.peerReads base u sub

/-! ### Values that the state bounds (steps 10 and 11) -/

/-- The writer's session, with which a request without one reads as a new one. -/
def State.sess (s : State) (k : Nat) : Session :=
  (s.session k).getD { tr := .spi, ep := 0, keyId := 16, opened := 0, lastUsed := 0, cursor := 0 }

/-- Step 11 (R316), as a status: WATCH_HIGH is not below WATCH_LOW, CURRENT_SET is within CUR_LIMIT, MEM_ADDR names an address that can be
read, MEM_LEN keeps to the region (R408), and the encodings of the two keyed commands. -/
def State.valueStatus (s : State) (k base u sub : Nat) (e : Entry) (b : Bytes) : Nat :=
  let v := leNat b
  if base = 0x7820 ∧ sub = 1 then (if memHidden v then 0x0201 else if memAddrOk v then 0 else 0x0301)
  else
    let good :=
      if base = 0x34E0 ∧ sub = 9 then decide (s.reg (benchWatchLow u) ≤ v)
      else if base = 0x5010 ∧ sub = 3 then decide (-(s.curLimit u) ≤ toSigned 32 v ∧ toSigned 32 v ≤ s.curLimit u)
      else if base = 0x7820 ∧ sub = 2 then decide ((s.sess k).memAddr + v ≤ regionEnd (s.sess k).memAddr)
      else if base = 0x6010 ∧ sub = 2 then keyLoadFits b
      else if base = 0x6030 ∧ sub = 1 then decide (leNat (b.take 2) < 512)
      else true
    if valueFits base u sub e b && good then 0 else 0x0301

/-- Steps 6 to 11 of Table 12-3 for one item; 0 when it passes them. -/
def State.itemCheck (s : State) (r : Role) (k : Nat) (x : ReqItem) : Nat :=
  match locate x.idx x.sub with
  | none => 0x0102
  | some (o, u, sub) =>
    if !s.mayAccess r x.write o.base u sub then 0x0201
    else match rowAt o u sub with
      | none => 0x0101
      | some e =>
        if (if x.write then e.acc == .ro else e.acc == .wo) then 0x0204
        else if !x.write then 0
        else if !lengthFits e x.val then 0x0305
        else s.valueStatus k o.base u sub e x.val

end Sys2Proof.Machine
end

