-- ==== Sys2Proof/Machine/Read.lean ====
section
/-! DEFINITION. Reading a dictionary entry (R317, R318): the value of each register, of each status that the device forms at the read, the
entries that belong to a session, and the reads with an effect of their own. -/
namespace Sys2Proof.Machine

open Host

/-! ### Values that the device forms at the read -/

/-- Identity, device, events, staging sets, profiles and supplies. -/
def State.wordDevice (s : State) (base u sub : Nat) : Option Nat :=
  match base, sub with
  | 0x1000, 5 => some (s.imgVersion s.sec.running)
  | 0x1000, 6 => some s.sec.running
  | 0x1002, 1 => some s.supply.power.code
  | 0x1002, 2 => some s.now
  | 0x1002, 4 => some s.deviceFlags
  | 0x1010, 3 => some (if s.evNext = 0 then 0 else (s.evNext - 1) % 4294967296)
  | 0x1010, 5 => some s.evRing.length
  | 0x1020, 2 => some (s.stageSet u).entries.length
  | 0x1020, 3 => some (s.setState u)
  | 0x1020, 4 => some (s.stageSet u).lastStatus
  | 0x1020, 5 => some (s.stageSet u).lastReport
  | 0x1020, 6 => some (s.stageSet u).lastTick
  | 0x1020, 7 => some (bitIf (s.stageSet u).discarded 0)
  | 0x1100, 3 => some s.supply.pselNow
  | 0x1100, 7 => some (if s.switchChecks then 3 else s.switchSt)
  | 0x1180, 7 => some s.supply.flags
  | 0x1180, 8 => some s.supply.rtc
  | 0x1110, _ => if 8 ≤ sub then some (s.compat u (sub - 8)) else none
  | _, _ => none

/-- Channels, clusters and the fault fabric. -/
def State.wordRails (s : State) (base u sub : Nat) : Option Nat :=
  match base, sub with
  | 0x2000, 0 => some (if u < 256 then 0x22 else 0x15)
  | 0x2400, 0 => some (if u < 256 then 0x20 else 0x0F)
  | 0x2400, 1 => some (s.chState u).code
  | 0x2400, 2 =>
    if s.kind u = 2 ∧ (s.chan u).state ≠ .tripped then some (max (s.reg (chsStateSince u)) (s.reg (chsStateSince (s.act (chCompanion u)))))
    else none
  | 0x2400, 6 => some (s.chanFlags u)
  | 0x2400, 0x0E => some (sliceByte (s.servingSlice u))
  | 0x2400, 0x20 => some (s.enLevel u)
  | 0x2600, 1 => some (s.sliceMapWord u)
  | 0x2600, 2 => some (s.sliceFlags u)
  | 0x2600, 3 => some (s.clusterFlags u)
  | 0x2600, _ =>
    if 0x10 ≤ sub ∧ sub ≤ 0x17 then some (s.refreshNs u (sub - 0x10))
    else if isCharge 0x2600 sub ∧ s.kind (64 * u + sub % 64) ≠ 2 then some 0 else none
  | 0x2700, 1 => some (bitIf s.safeN 0)
  | 0x2700, 2 => some s.faultedMap
  | 0x2700, 3 => some (bitIf s.fabricFault 0)
  | 0x2700, 4 => some (map16 (fun n => decide (n < 8) && (s.cluster n).clockLost))
  | 0x2710, 6 => some (s.latchClusters u)
  | 0x2710, 7 => some (bitIf (s.dischargeActive u) 0)
  | _, _ => none

/-- Sequences, captures, slots and the Trestle. -/
def State.wordSequence (s : State) (base u sub : Nat) : Option Nat :=
  match base, sub with
  | 0x2800, 6 => some (s.home u)
  | 0x2840, 1 => some (s.part u).phase.code
  | 0x2840, 2 => some (bitIf (s.member u) 0)
  | 0x2840, 3 => some (s.part u).position
  | 0x2840, 4 => some (((s.part u).step.map (·.order)).getD 0)
  | 0x2840, 5 => some (bitIf (s.part u).startPend 0)
  | 0x2840, 6 => some (s.absentNow u)
  | 0x2840, 7 => some (bitIf (decide (0 < s.absentNow u)) 0)
  | 0x2840, 8 => some (s.armedCount u)
  | 0x2840, 9 => some (s.waitingCount u)
  | 0x2860, 2 => some (bitIf (decide (s.grpState u = s.goalOf u)) 0)
  | 0x2860, 3 => some (s.holdMap u)
  | 0x28C0, 1 => some (s.cap u).outcome
  | 0x28C0, 2 => some (s.cap u).dur
  | 0x28C0, 3 => some ((s.cap u).start.getD 0)
  | 0x28C0, 4 => some ((s.cap u).stop.getD 0)
  | 0x28C0, 5 => some (bitIf (s.capCoarse u) 0)
  | 0x2B00, 9 => some ((partitions.map s.waitingCount).sum)
  | 0x2B00, _ => if 1 ≤ sub then some (128 - s.slotsUsed (sub - 1)) else none
  | 0x7020, 1 => some s.devid
  | 0x7020, 2 => some (mapOf s.trestle.present)
  | 0x7020, 3 => some s.leader
  | 0x7020, 4 => some s.trestle.phase
  | 0x7020, 5 => some s.trestle.offset.toNat
  | 0x7020, 6 => some s.tsyncFlags
  | 0x7020, 8 => some (bitIf s.trestle.dup 0)
  | 0x7020, 9 => some (mapOf s.trestle.foreign)
  | 0x7020, 0x0C => some s.trestleTime
  | 0x7030, 2 => some (s.holdReasons u)
  | _, _ => none

/-- Partitions, the ledger, trim and thermal. -/
def State.wordPartition (s : State) (base u sub : Nat) : Option Nat :=
  match base, sub with
  | 0x3020, 1 => some (s.part u).code
  | 0x3048, _ =>
    if 1 ≤ sub then some (bitIf (s.act (lanePair (sub - 1)) != 0) 0 + bitIf (sharedPair s.act (sub - 1)) 1) else none
  | 0x3140, 1 => some ((s.part u).totIn / 1000 % 18446744073709551616)
  | 0x3140, 2 => some ((s.part u).totOut / 1000 % 18446744073709551616)
  | 0x3140, 3 => some ((s.part u).intIn / 1000 % 18446744073709551616)
  | 0x3140, 4 => some s.ledger.startRtc
  | 0x3400, 6 => some (ofSigned 16 (s.trim u).code)
  | 0x3400, 7 => some (s.trim u).loop.code
  | 0x3480, 3 => some (s.sweepOwner u)
  | 0x3480, 4 => some (s.sweepsWaiting u)
  | 0x34B0, 1 => some (if s.hasTrim u then s.setpoint u else 0)
  | 0x34F0, 1 => some s.maintActiveMap
  | 0x34F0, 2 => some s.maintWaitMap
  | 0x3820, 1 => some (tempWord s.thermal.decision)
  | 0x3820, 2 => some (tempWord s.thermal.own)
  | 0x3820, 3 => some (tempWord s.median)
  | 0x3820, 4 => some s.thermal.limitState
  | 0x3820, 5 => some s.thermal.flags
  | 0x3820, 6 => some (map16 (fun k => decide (k < 8) && s.nbFresh k))
  | _, _ => none

/-- The log, the flash and security. -/
def State.wordStore (s : State) (base u sub : Nat) : Option Nat :=
  match base, sub with
  | 0x4001, 1 => some s.log.writePos
  | 0x4001, 2 => some s.occupiedCount
  | 0x4001, 3 => some s.lastSeq
  | 0x4001, 4 => some s.log.staged.length
  | 0x4001, 0x0B => some s.logState
  | 0x4010, 1 => some (s.drawersOf u)
  | 0x4010, 2 => some (((newest (s.seqSlots (some u))).map (fun e => e.1)).getD 0xFFFF)
  | 0x4010, 3 => some (((newest (s.seqSlots (some u))).map (fun e => e.2)).getD 0)
  | 0x6000, 3 => some s.sec.bootBank
  | 0x6001, 0x12 => some s.keyErased
  | 0x7801, 1 => some s.nvState
  | 0x7801, 2 => some s.eraseSectorNow
  | 0x7801, 3 => some s.eraseRunUs
  | 0x7810, 1 => some (s.regionFlags u)
  | 0x7810, 2 => some (s.uncorrSectors u)
  | 0x7810, 3 => some (s.sectorsWith u (·.weak))
  | 0x7810, 4 => some (s.sectorsWith u (·.failed))
  | 0x7830, 4 => if s.nv.sealAt = some s.now then some 3 else none
  | 0x7F00, 6 => some ((s.stalled.eraseDups.map (fun d => 2 ^ d)).sum)
  | 0x7F00, 8 => some s.openRequests
  | 0x7F00, 9 => some ((Config.freeValue s.draws).toNat % 101)
  | 0x7F00, 0x0A => some s.queueC.length
  | _, _ => none

/-- Ports, drives, links and streams. The error counters of CAN and the processor load follow from what no command of the block
determines (log 3). -/
def State.wordLinks (s : State) (base u sub : Nat) : Option Nat :=
  match base, sub with
  | 0x4808, 1 => some (s.portState u)
  | 0x4840, 1 => some (s.entryWord u)
  | 0x5020, 1 => some (s.drvState u)
  | 0x5020, 2 => some (s.drive u).fault
  | 0x5020, 4 => some (s.speedFlags u)
  | 0x5801, 1 => some s.sessions.length
  | 0x5808, _ => if 1 ≤ sub then some (s.key (sub - 1)).freshLast else none
  | 0x5809, _ => if 1 ≤ sub then some (s.key (sub - 1)).freshTx else none
  | 0x5818, 1 => some (s.canState u)
  | 0x5818, 2 => some (if s.act (canEnable u) = 0 then 0 else (Config.freeValue s.draws).toNat % 256)
  | 0x5818, 3 => some (if s.act (canEnable u) = 0 then 0 else (Config.freeValue s.draws).toNat % 256)
  | 0x5828, 2 => some s.t1sState
  | 0x5828, 3 => some s.plcaState
  | 0x5851, 1 => some s.host.linkState
  | 0x58C0, 2 => some (bitIf (s.stream u).paused 0)
  | 0x58C0, 3 => some (8 * (s.stream u).ring.length)
  | _, _ => none

/-- The value of an entry that the device forms at the read; none: the entry is a register. -/
def State.wordNow (s : State) (base u sub : Nat) : Option Nat :=
  if base < 0x2000 then s.wordDevice base u sub
  else if base < 0x2800 then s.wordRails base u sub
  else if base < 0x3000 ∨ base / 256 = 0x70 then s.wordSequence base u sub
  else if base < 0x4000 then s.wordPartition base u sub
  else if base < 0x4800 ∨ 0x6000 ≤ base then s.wordStore base u sub
  else s.wordLinks base u sub

/-- A read that takes a free value (log 3). -/
def takesFree (base sub : Nat) : Bool := base == 0x7F00 && sub == 9 || base == 0x5818 && decide (1 ≤ sub ∧ sub ≤ 3)

/-! ### RWC entries (R318) -/

/-- The staging set of a role. -/
def roleSet : Role → Option Nat
  | .owner => some 16
  | .partition p => some p.val
  | _ => none

/-- The value of an RWC entry: the active one, or with SHADOW the requester's own staged one. -/
def State.rwcValue (s : State) (r : Role) (shadow : Bool) (key : Nat) : Nat :=
  let staged := if shadow then (roleSet r).bind (fun w => tabFind (s.stageSet w).entries key) else none
  let v := staged.getD (s.act key)
  if key / 16777216 = 0x2000 ∧ key % 256 = 0x21 ∧ v = 2 then bitIf s.supply.enPol 0 else v

/-! ### Bytes of a value (R316) -/

/-- The bytes of a number without trailing zeros, for STRING and for OCTETS of open length. -/
def shortBytes : Nat → Nat → Bytes
  | 0, _ => []
  | n + 1, v => if v = 0 then [] else BitVec.ofNat 8 v :: shortBytes n (v / 256)

/-- The bytes of an entry's value. -/
def valueBytes (e : Entry) (v : Nat) : Bytes := if e.lenMin = e.lenMax then leBytes e.lenMax v else shortBytes e.lenMax v

/-! ### EVENT_NEXT (R330 to R332) -/

/-- The 24 bytes of an event record (Table 12-7). -/
def EventRec.bytes (e : EventRec) : Bytes :=
  [BitVec.ofNat 8 e.code, BitVec.ofNat 8 e.source, BitVec.ofNat 8 e.part,
    BitVec.ofNat 8 (bitIf e.clear 0 + bitIf e.queued 1 + bitIf e.gap 2)] ++
  leBytes 4 e.eseq ++ padTo 8 0 (e.param.take 8) ++ leBytes 8 e.stamp

/-- The first record visible to a session at or after its cursor. -/
def State.nextFor (s : State) (x : Session) : Option EventRec :=
  s.evRing.find? (fun e => visibleTo x.keyId e && atOrAfter e.eseq x.cursor)

/-- Records from the cursor on have been overwritten: the ring is full and begins after the cursor. -/
def State.gapBefore (s : State) (x : Session) : Bool :=
  match s.evRing with
  | [] => false
  | f :: _ => decide (2048 ≤ s.evRing.length) && f.eseq != x.cursor && atOrAfter f.eseq x.cursor

/-- Read EVENT_NEXT in session k: the record, with GAP where older ones are gone, and the cursor moves past it. Roles without a session
read nothing. -/
def State.eventRead (s : State) (k : Nat) : State × Bytes :=
  match s.session k with
  | none => (s, [])
  | some x =>
    let seen := s.onSession k (fun y => { y with nextSeen := true })
    match s.nextFor x with
    | none => (seen, [])
    | some e =>
      (seen.onSession k (fun y => { y with cursor := (e.eseq + 1) % 4294967296 }),
       ({ e with gap := e.gap || s.gapBefore x }).bytes)

/-! ### One read -/

/-- Whether a role may read the ledger record at a position (R228): a record of another partition reads as refused, and so does what holds no
readable record and is not free. -/
def State.mayReadRecord (s : State) (r : Role) (i : Nat) : Bool :=
  match r with
  | .owner => true
  | .partition p =>
    let st := s.readStatus (recordAddr i) 32
    st == 1 || st == 5 || (st == 0 && (s.cell (recordAddr i + 4)).toNat == p.val)
  | _ => false

/-- RECORD of the position that the session selects (R226, R228, R410). -/
def State.recordRead (s : State) (r : Role) (k : Nat) (hw : Hw) : State :=
  let i := (s.sess k).recSel
  if !s.mayReadRecord r i then s.answer 0x0201
  else if s.nvBad then s.answer 0x0702
  else
    let s := s.sensed (recordAddr i) 32 (senseAt hw (recordAddr i))
    if s.readStatus (recordAddr i) 32 = 4 then s.answer 0x0602 else s.give (s.readBytes (recordAddr i) 32)

/-- The reads that belong to a session or have an effect of their own; none: an ordinary read. -/
def State.readSpecial (s : State) (r : Role) (k base u sub : Nat) (hw : Hw) : Option State :=
  let x := s.sess k
  match base, sub with
  | 0x1010, 1 => some (s.give (leBytes 4 x.cursor))
  | 0x1010, 2 =>
    let (t, b) := s.eventRead k
    some (t.give b)
  | 0x3100, 6 => some (s.give (leBytes 2 x.recSel))
  | 0x3100, 7 => some (s.recordRead r k hw)
  | 0x4100, 1 => some (s.drawerRead r k u (senseAt hw (slotAddr u)))
  | 0x4140, 1 => some ((s.onSession k (fun y => { y with drawStat := tabErase y.drawStat u })).give (leBytes 4 (s.readStatOf x u)))
  | 0x5848, 1 => some (s.give [if x.subscribed then 1 else 0])
  | 0x5848, 2 => some (s.give [BitVec.ofNat 8 (trNum x.tr)])
  | 0x5848, 3 => some (s.give (leBytes 8 x.opened))
  | 0x6020, 1 => some s.debugChallenge
  | 0x6030, 2 => some (s.give x.attTag)
  | 0x7020, 6 =>
    let t := s.give [BitVec.ofNat 8 s.tsyncFlags]
    some { t with trestle := { t.trestle with stepped := false } }
  | 0x7820, 1 => some (s.give (leBytes 4 x.memAddr))
  | 0x7820, 2 => some (s.give (leBytes 2 x.memLen))
  | 0x7820, 3 => some (s.memRead x (senseAt hw x.memAddr))
  | _, _ => none

/-- A read that has passed steps 6 to 11. -/
def State.readItem (s : State) (r : Role) (k : Nat) (x : ReqItem) (hw : Hw) : State :=
  match locate x.idx x.sub with
  | none => s.answer 0x0102
  | some (o, u, sub) =>
    match rowAt o u sub with
    | none => s.answer 0x0101
    | some e =>
      match s.readSpecial r k o.base u sub hw with
      | some t => t
      | none =>
        let v := if e.acc = .rwc then s.rwcValue r x.shadow (rk o.base u sub)
          else (s.wordNow o.base u sub).getD (s.reg (rk o.base u sub))
        let t := s.give (valueBytes e v)
        if takesFree o.base sub then { t with draws := t.draws + 1 } else t

end Sys2Proof.Machine
end

