-- ==== Sys2Proof/Machine/Write.lean ====
section
/-! DEFINITION. Writing a dictionary entry (R317): an RWC write enters the writer's staging set (R321, R323), an RW write takes effect when it
is executed, a WO write is a command and acts as its row of the command table does. -/
namespace Sys2Proof.Machine

open Host

/-- The state that a meaning leaves: no command of this block stops. -/
def State.after (s : State) (o : Outcome State Fault Refusal) : State :=
  match o with
  | .next t => t
  | _ => s

/-! ### Staging (R321, R323) -/

/-- Length in bytes of an entry's value under its key. -/
def keyLen (key v : Nat) : Nat :=
  match objOf (key / 16777216) with
  | none => 0
  | some o => ((o.row (key % 256)).map (fun e => (valueBytes e v).length)).getD 0

/-- Bytes of the values that a set holds. -/
def setBytes (l : List (Nat × Nat)) : Nat := (l.map (fun e => keyLen e.1 e.2)).sum

/-- Another set holds a write of the entry. -/
def State.heldElsewhere (s : State) (w key : Nat) : Bool :=
  (List.range 17).any (fun v => v != w && (tabFind (s.stageSet v).entries key).isSome)

/-- An RWC write (R321, R323): refused while the set's own commit is in progress, where another set holds the entry, and where the set would
exceed 1,024 entries or 64 KiB; else it is staged, in place of an earlier write of that entry, and DISCARDED is cleared (R325). -/
def State.stageWrite (s : State) (w key v : Nat) : State :=
  let x := s.stageSet w
  let l := tabInsert key v (tabErase x.entries key)
  if s.setBusy w then s.answer 0x0401
  else if s.heldElsewhere w key then s.answer 0x0405
  else if 1024 < l.length ∨ 65536 < setBytes l then s.answer 0x0402
  else (s.setStage w { x with entries := l, discarded := false }).answer 1

/-- An RWC write by a role. -/
def State.stageBy (s : State) (r : Role) (key v : Nat) : State :=
  match roleSet r with
  | some w => s.stageWrite w key v
  | none => s.answer 0x0201

/-! ### Commits and switches (R322 to R324, R309) -/

/-- A COMMIT write of set w: 0x01 commits it, 0x02 empties it. -/
def State.commitItem (s : State) (r : Role) (right : Bool) (w : Nat) (b : Byte) (good : Bool) : State :=
  s.item r right (b == 1 || b == 2) (fun s => if b = 1 then s.commitRequest w good else s.discardRequest w)

/-- A SWITCH write; a shelf above 3 is a refused switch (R309). -/
def State.switchItem (s : State) (r : Role) (b : Byte) (hw : Hw) : State :=
  s.item r (isOwner r) true (fun s => if b.toNat < 4 then s.switchRequest b.toNat false hw else s.switchRefuse b.toNat 0x0301)

/-! ### RW entries -/

/-- A write of an RW entry that its session holds, or that has an effect beside its register; it answers for itself. -/
def State.writeSpecial (s : State) (k base u sub v : Nat) : Option State :=
  match base, sub with
  | 0x1010, 1 => some ((s.onSession k (fun x => { x with cursor := v })).answer 0)
  | 0x1100, 5 => some (((s.setReg profFallbackShelf v).recordUpdated 0).answer 0)
  | 0x1120, 1 => some (s.targetWrite k v)
  | 0x1120, 2 => some (s.offsetWrite k v)
  | 0x2820, 2 => some (s.goalRequest u v)
  | 0x3100, 6 => some ((s.onSession k (fun x => { x with recSel := v })).answer 0)
  | 0x5010, 1 => some ((s.runWrite u v).answer 0)
  | 0x5848, 1 => some ((s.onSession k (fun x =>
      if v = 1 then { x with subscribed := true } else { x with subscribed := false, evOut := [], evGap := false })).answer 0)
  | 0x7820, 1 => some ((s.onSession k (fun x => { x with memAddr := v })).answer 0)
  | 0x7820, 2 => some ((s.onSession k (fun x => { x with memLen := v })).answer 0)
  | _, _ => none

/-- A write of an RW entry. -/
def State.writeReg (s : State) (r : Role) (k base u sub : Nat) (b : Bytes) : State :=
  if base = 0x1180 ∧ sub = 8 then s.after (execRtc r (BitVec.ofNat 32 (leNat b)) s)
  else
    let t := match s.writeSpecial k base u sub (leNat b) with
      | some t => t
      | none => (s.setReg (rk base u sub) (leNat b)).answer 0
    t.countItem r

/-! ### WO entries -/

/-- The commands of the objects below 0x3000. -/
def State.commandLow (s : State) (r : Role) (k base u sub : Nat) (val : Bytes) (hw : Hw) : State :=
  let b : Byte := val.headD 0
  let p := Fin.ofNat 16 u
  match base, sub with
  | 0x1020, 1 => s.commitItem r (ownerOr r u) u b hw.fabricOk
  | 0x1100, 6 => s.switchItem r b hw
  | 0x1100, 8 => s.commitItem r (isOwner r) 16 b hw.fabricOk
  | 0x1120, 3 => s.after (execShelfData r k val s)
  | 0x1120, 4 =>
    if b = 1 then s.after (execShelfErase r k s)
    else s.after (execShelfSeal r k (senseAt hw (shelfBase (s.reg shelfwTargetShelf))) s)
  | 0x1180, 0x0F => s.after (execSleep r b s)
  | 0x1180, 0x10 => if b = 1 then s.after (execResetRequestMgmt r s) else s.after (execResetRequestPower r s)
  | 0x2310, 5 => s.after (execRestart r p b s)
  | 0x2310, 6 => s.after (execForceOff r p b s)
  | 0x2400, 0x0F => s.after (execClear r (Fin.ofNat 512 u) b s)
  | 0x2800, 7 => s.after (execStart r p b s)
  | 0x2800, 8 => s.after (execStop r p b s)
  | 0x2880, 9 => s.after (execArmCapture r (Fin.ofNat 32 u) b s)
  | _, _ => s

/-- FW_COMMAND. -/
def State.fwWrite (s : State) (r : Role) (b : Byte) : State :=
  match b.toNat with
  | 1 => s.after (execFwErase r s)
  | 2 => s.after (execFwSeal r s)
  | 3 => s.after (execFwActivate r s)
  | _ => s.after (execFwAbandon r s)

/-- The commands of the objects from 0x3000 on. A key load leaves its sessions open until the response has been sent (R453). -/
def State.commandHigh (s : State) (r : Role) (k base u sub : Nat) (val : Bytes) (hw : Hw) : State :=
  let b : Byte := val.headD 0
  let p := Fin.ofNat 16 u
  match base, sub with
  | 0x3100, 3 => s.after (execTableSelect r b s)
  | 0x34E0, 0x0A => if b = 1 then s.after (execBenchStart r p s) else s.after (execBenchAbort r p s)
  | 0x34E0, 0x0B => if b = 1 then s.after (execVerdictPass r p s) else s.after (execVerdictFail r p s)
  | 0x34E0, 0x15 => if b = 1 then s.after (execMarginApply r p s) else s.after (execMarginRemove r p s)
  | 0x4000, 2 =>
    if b = 1 then s.after (execEraseOldest r s)
    else if b = 2 then s.after (execEraseAll r s) else s.after (execVerifyAll r hw.senses s)
  | 0x5010, 5 => s.after (execClearFault r (Fin.ofNat 4 u) b s)
  | 0x6010, 1 => s.after (execOwnerInit r val s)
  | 0x6010, 2 => s.itemLen r (isOwner r) (decide (val.length = 32)) (keyLoadFits val) (fun s => s.keyLoad val)
  | 0x6020, 2 => s.after (execDebugResponse r val s)
  | 0x6020, 3 => s.after (execDebugLock r b s)
  | 0x6030, 1 => s.after (execAttestRequest r k val (senseAt hw (slotAddr (leNat (val.take 2)))) s)
  | 0x7030, 6 => s.after (execGroupReset r (Fin.ofNat 4 u) b s)
  | 0x7820, 4 => s.after (execMemWrite r k val s)
  | 0x7820, 6 => s.after (execMemErase r (BitVec.ofNat 32 (leNat val)) s)
  | 0x7830, 1 => s.fwWrite r b
  | 0x7830, 3 => s.after (execFwData r val s)
  | _, _ => s

/-! ### One item -/

/-- A write that has passed steps 6 to 11, by its access code (R317). -/
def State.writeItem (s : State) (r : Role) (k : Nat) (x : ReqItem) (hw : Hw) : State :=
  match locate x.idx x.sub with
  | none => (s.answer 0x0102).countItem r
  | some (o, u, sub) =>
    match rowAt o u sub with
    | none => (s.answer 0x0101).countItem r
    | some e =>
      match e.acc with
      | .ro => (s.answer 0x0204).countItem r
      | .rwc => (s.stageBy r (rk o.base u sub) (leNat x.val)).countItem r
      | .rw => s.writeReg r k o.base u sub x.val
      | .wo => if o.base < 0x3000 then s.commandLow r k o.base u sub x.val hw else s.commandHigh r k o.base u sub x.val hw

/-- Step 12 of one item, counted. -/
def State.runItem (s : State) (r : Role) (k : Nat) (x : ReqItem) (hw : Hw) : State :=
  if x.write then s.writeItem r k x hw else (s.readItem r k x hw).countItem r

/-- An item ends with a code of its check and is counted; a SWITCH write of a shelf above 3 is a refused switch too (R309). -/
def State.giveCode (s : State) (r : Role) (x : ReqItem) (st : Nat) : State :=
  let s := if x.write ∧ x.idx = 0x1100 ∧ x.sub = 6 ∧ st = 0x0301 then s.switchRefuse (leNat x.val) st else s
  (s.answer st).countItem r

/-- Steps 6 to 12 of one item. -/
def State.oneItem (s : State) (r : Role) (k : Nat) (x : ReqItem) (hw : Hw) : State :=
  match s.itemCheck r k x with
  | 0 => s.runItem r k x hw
  | st => s.giveCode r x st

end Sys2Proof.Machine
end

