-- ==== Sys2Proof/Machine/Dap.lean ====
section
/-! DEFINITION. The DAP engine (R320, R326 to R328, R336 to R344, R399, R404): the checks of a frame, sessions and repeats, batches, responses
that wait, and the commands that bring a request in. -/
namespace Sys2Proof.Machine

open Host

/-! ### Fields of a frame (Table 13-1) -/

def frByte (b : Bytes) (i : Nat) : Nat := ((b[i]?).getD 0).toNat
def frKey (b : Bytes) : Nat := frByte b 2
def frTid (b : Bytes) : Nat := leNat ((b.drop 4).take 2)
def frFresh (b : Bytes) : Nat := leNat ((b.drop 8).take 4)
def frPayload (b : Bytes) : Bytes := (b.drop 12).take (b.length - 20)

/-- The frame is not discarded under R337 (a window takes its own key and the owner key only, R399): version 1 and DIR 0 in VER_DIR, this
device's DEVID, a KEY_ID that is not reserved, reserved bits of FLAGS clear, the LENGTH of the frame. -/
def State.frameFits (s : State) (tr : Transport) (b : Bytes) : Bool :=
  decide (20 ≤ b.length) && frByte b 0 == 0x10 && frByte b 1 == s.supply.devid && decide (frKey b ≤ 16) && decide (frByte b 3 < 4) &&
    leNat ((b.drop 6).take 2) == b.length - 20 &&
    (match tr with
      | .svc w => frKey b == w.val || frKey b == 16
      | _ => true)

/-! ### Steps 1 and 2 of Table 12-3 (R340, R341, R455) -/

/-- The ticks of a list that lie within the last second. -/
def State.lastSecond (s : State) (l : List Nat) : List Nat := l.filter (fun t => decide (s.now < t + sTicks 1))

/-- Step 1: the tag; a KEY_ID that has no key fails it (R453). -/
def State.tagGood (s : State) (b : Bytes) : Bool :=
  match (s.key (frKey b)).key with
  | none => false
  | some k => leNat (b.drop (b.length - 8)) == tag64 k (b.take (b.length - 8))

/-- A failure of step 1 (R455): EV 0x66 when more than AUTH_FAIL_LIMIT fall within 1 s, at most once a second. -/
def State.authFail (s : State) (k : Nat) : State :=
  let x := s.key k
  let l := s.lastSecond x.failsAt ++ [s.now]
  let s := (s.setKey k { x with failsAt := l }).bump32 dapsTagFailCount
  let quiet := match x.evAt with
    | none => true
    | some t => s.passed t (sTicks 1)
  if decide (s.act seccAuthFailLimit < l.length) && quiet then
    ((s.setKey k { s.key k with evAt := some s.now }).bump16 secAuthFailBursts).raise 10 0x66 255 false
      (BitVec.ofNat 8 k :: two (min 65535 l.length))
  else s

/-- Step 2 (R340): a value above FRESH_LAST, or one of the 63 below it that has not been accepted; the key's record after it. -/
def KeyX.fresh (x : KeyX) (f : Nat) : Option KeyX :=
  if f = 0 ∨ x.freshLast = 4294967295 then none
  else if x.freshLast < f then
    let d := f - x.freshLast
    some { x with freshLast := f,
                  accepted := if 63 < d then 0 else (2 * x.accepted + 1) * 2 ^ (d - 1) % 2 ^ 63,
                  storedRx := if x.freshLast / 65536 < f / 65536 then f else x.storedRx }
  else
    let i := x.freshLast - 1 - f
    if x.freshLast = f ∨ 63 ≤ i ∨ bitOf x.accepted i then none else some { x with accepted := x.accepted + 2 ^ i }

/-- A response with FRAME_STATUS alone (R339). -/
def refusalBytes (st : Nat) : Bytes := [0, 0] ++ two st

/-- A response of steps 1 and 2: at most 10 a second for each key, the others are dropped (R341). -/
def State.refuseKey (s : State) (x : InReq) (response : Bytes) : State :=
  let k := frKey x.req.bytes
  let l := s.lastSecond (s.key k).refusalsAt
  if x.muted then s
  else if 10 ≤ l.length then s.bump32 dapsRefusalDropped
  else (s.setKey k { s.key k with refusalsAt := l ++ [s.now] }).sendPayload x.req.tr x.req.ep k 0 (frTid x.req.bytes) response

/-- A request under KEY_ID p that has passed step 2 restarts the host watch of p (R355), also in STOPPING, where the watch stands still. -/
def State.hostSeen (s : State) (p : Nat) : State :=
  let x := s.part p
  if p < 16 ∧ (x.state.isUp ∨ x.state = .starting ∨ x.state = .stopping) then s.setPart p { x with hostAt := some (x.hostStart s.now) } else s

/-! ### Sessions (R342) -/

/-- The session of a transport, an endpoint and a KEY_ID (17 stands for the SERVICE role of a window, R400). -/
def State.findSession (s : State) (tr : Transport) (ep keyId : Nat) : Option Nat :=
  (s.sessions.find? (fun x => x.2.tr == tr && x.2.ep == ep && x.2.keyId == keyId)).map (fun x => x.1)

/-- The oldest ESEQ in the ring (Table 12-15). -/
def State.oldestEseq (s : State) : Nat :=
  match s.evRing with
  | [] => s.evNext % 4294967296
  | e :: _ => e.eseq

/-- A new session in a table that has room. -/
def State.addSession (s : State) (tr : Transport) (ep keyId : Nat) : State :=
  { s with sessions := s.sessions ++ [(s.sessNext, { tr := tr, ep := ep, keyId := keyId, opened := s.now, lastUsed := s.now,
                                                     cursor := s.oldestEseq, nextSeen := s.ev04At.isNone })],
           sessNext := s.sessNext + 1 }

/-- The session that has been idle longest. -/
def State.idlest (s : State) : Option (Nat × Session) :=
  s.sessions.foldl (fun a x => match a with
    | none => some x
    | some y => if x.2.lastUsed < y.2.lastUsed then some x else some y) none

/-- Open a session; in a full table one that has been idle for 1 s gives way, else it is refused, with EV 0x74. The number of the session,
none where it is refused. -/
def State.openSession (s : State) (tr : Transport) (ep keyId : Nat) : State × Option Nat :=
  if s.sessions.length < 64 then (s.addSession tr ep keyId, some s.sessNext)
  else match s.idlest with
    | none => (s, none)
    | some x =>
      if s.passed x.2.lastUsed (sTicks 1) then
        (({ s with sessions := s.sessions.filter (fun y => y.1 != x.1) }.raise 10 0x74 255 false [1]).addSession tr ep keyId, some s.sessNext)
      else (s.raise 10 0x74 255 false [2], none)

/-! ### Repeats (R344) -/

/-- The response of a transaction in the cache: its request and its response. -/
def State.cached (s : State) (x : Session) (tid : Nat) : Option (Bytes × Bytes) :=
  (x.cache.find? (fun c => c.1 == tid && decide (s.now < c.2.2.2 + s.cacheTime))).map (fun c => (c.2.1, c.2.2.1))

/-- A transaction of a session that waits for its response. -/
def State.waiting (s : State) (k tid : Nat) : Option Wait := s.waits.find? (fun (w : Wait) => w.sess == k && w.tid == tid)

/-! ### The payload of a request (R338, Table 13-2) -/

/-- The items of a batch, which fill the payload exactly. -/
def parseItems : Nat → Bytes → Option (List ReqItem)
  | 0, b => if b.isEmpty then some [] else none
  | n + 1, b =>
    match b with
    | op :: fl :: i0 :: i1 :: sub :: z :: l0 :: l1 :: rest =>
      let v := leNat [l0, l1]
      if (op = 1 ∧ v = 0 ∨ op = 2) ∧ fl.toNat < 4 ∧ z = 0 ∧ v ≤ rest.length then
        (parseItems n (rest.drop v)).map (fun t =>
          { write := decide (op = 2), shadow := bitOf fl.toNat 0, snap := bitOf fl.toNat 1, idx := leNat [i0, i1], sub := sub.toNat,
            val := rest.take v } :: t)
      else none
    | _ => none

/-- A batch: 1 to 32 items. -/
def parseBatch (b : Bytes) : Option (List ReqItem) :=
  match b with
  | n :: z0 :: z1 :: z2 :: rest => if 1 ≤ n.toNat ∧ n.toNat ≤ 32 ∧ z0 = 0 ∧ z1 = 0 ∧ z2 = 0 then parseItems n.toNat rest else none
  | _ => none

/-! ### Responses (R339) -/

/-- One response item (Table 13-3). -/
def respItem (x : ReqItem) (st : Nat) (v : Bytes) : Bytes := two st ++ two x.idx ++ [BitVec.ofNat 8 x.sub, 0] ++ two v.length ++ v

/-- A response of n items. -/
def respBytes (n : Nat) (items : Bytes) : Bytes := [BitVec.ofNat 8 n, 0, 0, 0] ++ items

/-- A code of family 0x01 to 0x07. -/
def refuses (st : Nat) : Bool := decide (0x0101 ≤ st ∧ st < 0x0800)

/-- Items that end with codes of their own without execution: each is counted. -/
def State.giveCodes (s : State) (r : Role) (l : List (ReqItem × Nat)) : State :=
  l.foldl (fun s x => s.giveCode r x.1 x.2) s

/-- The response items of such items. -/
def codeItems (l : List (ReqItem × Nat)) : Bytes := (l.map (fun x => respItem x.1 x.2 [])).flatten

/-- Items that are not executed because another failed. -/
def notRun (l : List ReqItem) : List (ReqItem × Nat) := l.map (fun x => (x, 0x0407))

/-! ### Batches (R326, R327) -/

/-- The combination rule of R327: a batch with a SNAPSHOT read and a write, or a write with the flag. -/
def combines (l : List ReqItem) : Bool :=
  (l.any (fun x => !x.write && x.snap) && l.any (fun x => x.write)) || l.any (fun x => x.write && x.snap)

/-- The check pass: the code of every item, none when the batch is executed. -/
def State.batchCheck (s : State) (r : Role) (k : Nat) (l : List ReqItem) : Option (List (ReqItem × Nat)) :=
  if combines l then some (l.map (fun x => (x, if x.write then 0x0306 else 0x0407)))
  else
    let c := l.map (fun x => (x, s.itemCheck r k x))
    if c.all (fun x => x.2 == 0) then none else some (c.map (fun x => (x.1, if x.2 = 0 then 0x0407 else x.2)))

/-- What the response to an item waits for once it is accepted (R324): the commit of a set, or a switch. -/
def waitsFor (x : ReqItem) : Option Nat :=
  match locate x.idx x.sub with
  | none => none
  | some (o, u, sub) =>
    if !x.write then none
    else if o.base = 0x1020 ∧ sub = 1 then some u
    else if o.base = 0x1100 ∧ sub = 8 then some 16
    else if o.base = 0x1100 ∧ sub = 6 then some 17
    else none

/-- A write of an RW or WO entry, which acts in a tick of its own (R326). -/
def actsAlone (x : ReqItem) : Bool :=
  match locate x.idx x.sub with
  | none => false
  | some (o, u, sub) =>
    match rowAt o u sub with
    | none => false
    | some e => x.write && (e.acc == .rw || e.acc == .wo)

/-- The island domain that holds the value of an entry (Table 1-3), which takes it at its own snapshot tick: a cluster with its channels, TRM
outputs and capture units, the Hutch, the other islands with their status; 10, the management plane, holds the rest. -/
def State.holder (s : State) (base u sub : Nat) : Nat :=
  match base with
  | 0x2400 => clOf u + 1
  | 0x2600 => u + 1
  | 0x28C0 => ((capClusters s.act u).headD 9) + 1
  | 0x3400 => u / 16 + 1
  | 0x34B0 => clOf (16 * u + (sub - 1)) + 1
  | 0x4001 => 9
  | 0x7801 | 0x7810 => 12
  | 0x4808 | 0x4840 => 18
  | 0x5020 => 13
  | 0x5818 => 14 + u
  | 0x5828 => 16
  | 0x5851 => 17
  | 0x58C0 => 11
  | _ => 10

/-- The island that takes an item's value at the snapshot tick. -/
def State.snapDomain (s : State) (x : ReqItem) : Option Nat :=
  match locate x.idx x.sub with
  | none => none
  | some (o, u, sub) => if x.snap && s.holder o.base u sub != 10 then some (s.holder o.base u sub) else none

/-- Every flagged value of a SNAPSHOT batch whose island has reached the snapshot tick is taken (R327). -/
def State.snapTake (s : State) (w : Wait) : Wait :=
  { w with taken := w.rest.zipIdx.foldl (fun t x =>
      let left := w.rest.length - x.2
      match s.snapDomain x.1 with
      | none => t
      | some d =>
        if (tabFind t left).isNone && decide (w.snapAt ≤ s.islandTime d) then tabInsert left (s.readItem w.role w.sess x.1 w.hw).reply t
        else t) w.taken }

/-- Every island has taken its values of a SNAPSHOT batch, and device time has reached the tick: the items are executed. -/
def State.snapDone (s : State) (w : Wait) : Bool :=
  decide (w.snapAt ≤ s.now) && w.rest.zipIdx.all (fun x => (s.snapDomain x.1).isNone || (tabFind w.taken (w.rest.length - x.2)).isSome)

/-- Step 12 of one item of a batch, with left items from it to the last: a value that was taken at the snapshot tick is given as it was. -/
def State.runOne (s : State) (w : Wait) (left : Nat) (x : ReqItem) (hw : Hw) : State :=
  match tabFind w.taken left with
  | some v => (s.give v).countItem w.role
  | none => s.runItem w.role w.sess x hw

/-- The execution pass: items in order, up to the first refusal, to an item that waits, or to an RW or WO item after another one of the tick
(R326); the request then joins the waiting ones. The response items, none when the request waits or the management plane has gone down. -/
def State.runItems (s : State) (w : Wait) (acted : Bool) (hw : Hw) : List ReqItem → State × Option Bytes
  | [] => if s.mgmtDown then (s, none) else (s, some w.done)
  | x :: rest =>
    if s.mgmtDown then (s, none)
    else if acted && actsAlone x then ({ s with waits := s.waits ++ [{ w with what := 18, result := none, rest := x :: rest, hw := hw }] }, none)
    else
      let t := s.runOne w (rest.length + 1) x hw
      let acted := acted || actsAlone x
      match waitsFor x with
      | some what =>
        if t.status = 2 then ({ t with waits := t.waits ++ [{ w with what := what, result := none, item := x, rest := rest }] }, none)
        else if refuses t.status then
          (t.giveCodes w.role (notRun rest), some (w.done ++ respItem x t.status [] ++ codeItems (notRun rest)))
        else t.runItems { w with done := w.done ++ respItem x t.status [] } acted hw rest
      | none =>
        let done := w.done ++ respItem x t.status (if x.write || t.status != 0 then [] else t.reply)
        if refuses t.status then (t.giveCodes w.role (notRun rest), some (done ++ codeItems (notRun rest)))
        else t.runItems { w with done := done } acted hw rest

/-- The number of items of a request. -/
def itemCount (request : Bytes) : Nat := frByte request 0

/-- The KEY_IDs whose key the execution has changed. -/
def keyChanges (a b : State) : List Nat := (List.range 17).filter (fun i => a.reg (keyKeyVersion i) != b.reg (keyKeyVersion i))

/-- Answer a session's request; the response of a muted request is discarded. -/
def State.replyTo (s : State) (muted : Bool) (k tid : Nat) (request response : Bytes) : State :=
  if muted || s.mgmtDown then s else s.respond k tid request response

/-- Send a response under the owner key as it was before the batch changed it (R453). -/
def State.sealedBy (s : State) (old : Option KeyX) (f : State → State) : State :=
  match old with
  | none => f s
  | some x => (f (s.setKey 16 x)).setKey 16 (s.key 16)

/-- What follows the execution of a request's items, from the state before it: a request that waits takes along which keys have changed;
else its response is sent and the sessions of changed keys close (R453). -/
def State.afterItems (s : State) (before : State) (w : Wait) (muted : Bool) (response : Option Bytes) : State :=
  let ids := keyChanges before s
  let old := match w.oldKey with
    | some x => some x
    | none => if ids.contains 16 then some (before.key 16) else none
  match response with
  | none =>
    { s with waits := s.waits.map (fun (v : Wait) =>
      if v.sess = w.sess ∧ v.tid = w.tid ∧ v.result.isNone ∧ v.request = w.request then { v with oldKey := old, closes := w.closes ++ ids } else v) }
  | some b =>
    (w.closes ++ ids).foldl (fun s i => s.closeKey i)
      (s.sealedBy old (fun s => s.replyTo muted w.sess w.tid w.request (respBytes (itemCount w.request) b)))

/-- The snapshot tick lies between 5 µs and 1 ms after the check pass: the device chooses it (R327), within the response time of Table 12-4; where, is
a free value (log 3). -/
def snapSpan : Nat := 99500

/-- A batch in session k (R326); the items of a SNAPSHOT batch are executed when its tick has come (R327). -/
def State.runBatch (s : State) (r : Role) (k tid : Nat) (request : Bytes) (l : List ReqItem) (muted : Bool) (hw : Hw) : State :=
  match s.batchCheck r k l with
  | some c => (s.giveCodes r c).replyTo muted k tid request (respBytes l.length (codeItems c))
  | none =>
    let w : Wait := { what := 19, sess := k, role := r, tid := tid, request := request, done := [], hw := hw, muted := muted,
                      item := { write := false, shadow := false, snap := false, idx := 0, sub := 0, val := [] }, rest := l }
    if l.any (·.snap) then
      { s with draws := s.draws + 1,
               waits := s.waits ++ [{ w with snapAt := s.now + usTicks 5 + (Config.freeValue s.draws).toNat % snapSpan }] }
    else
      let (t, b) := s.runItems w false hw l
      t.afterItems s w muted b

/-! ### Requests (R320, R344) -/

/-- The role of a KEY_ID; 17 is the SERVICE role. -/
def keyRole (k : Nat) : Role := if k = 16 then .owner else if k = 17 then .service else .partition (Fin.ofNat 16 k)

/-- Step 3 on a new request. -/
def State.undefinedRole (s : State) (r : Role) : Bool :=
  match r with
  | .partition p => !s.defined p.val
  | _ => false

/-- Step 4 on a new request: a token of the partition's bucket (R213). -/
def State.rateStep (s : State) (r : Role) : State × Bool :=
  match r with
  | .partition p => s.takeToken p.val
  | _ => (s, true)

/-- A new request of session k: steps 3 to 5, the form of its payload (R338), its batch. -/
def State.newRequest (s : State) (r : Role) (k tid : Nat) (payload : Bytes) (muted : Bool) (hw : Hw) : State :=
  if s.undefinedRole r then s.replyTo muted k tid payload (refusalBytes 0x0205)
  else
    let (s, good) := s.rateStep r
    if !good then s.replyTo muted k tid payload (refusalBytes 0x0402)
    else if 256 ≤ s.openRequests then s.replyTo muted k tid payload (refusalBytes 0x0406)
    else match parseBatch payload with
      | none => s.replyTo muted k tid payload (refusalBytes 0x0103)
      | some l => s.runBatch r k tid payload l muted hw

/-- A request of an open session: a repeat is answered as R344 sets and does nothing else. -/
def State.sessionRequest (s : State) (k : Nat) (x : InReq) (hw : Hw) : State :=
  let tid := frTid x.req.bytes
  let p := frPayload x.req.bytes
  let s := s.onSession k (fun y => { y with lastUsed := s.now })
  match s.session k with
  | none => s
  | some y =>
    match s.waiting k tid, s.cached y tid with
    | some w, _ => if w.request = p then s.bump32 dapsDupCount else s.bump16 dapsDupConflictCount
    | none, some (q, response) =>
      if q ≠ p then s.bump16 dapsDupConflictCount
      else
        let s := s.bump32 dapsDupCount
        if x.muted then s else s.sendPayload y.tr y.ep y.keyId 2 tid response
    | none, none => s.newRequest (keyRole y.keyId) k tid p x.muted hw

/-- A request that has passed step 2, in its session or a new one. A session that a muted request opened does not stay open. -/
def State.inSession (s : State) (x : InReq) (hw : Hw) : State :=
  let k := frKey x.req.bytes
  match s.findSession x.req.tr x.req.ep k with
  | some n => s.sessionRequest n x hw
  | none =>
    match s.openSession x.req.tr x.req.ep k with
    | (t, none) => if x.muted then t else t.sendPayload x.req.tr x.req.ep k 0 (frTid x.req.bytes) (refusalBytes 0x0402)
    | (t, some n) =>
      let t := t.sessionRequest n x hw
      if x.muted then { t with sessions := t.sessions.filter (fun y => y.1 != n) } else t

/-- A DAP frame: R337, then steps 1 and 2. -/
def State.runFrame (s : State) (x : InReq) (hw : Hw) : State :=
  let b := x.req.bytes
  let k := frKey b
  if !s.frameFits x.req.tr b then s.bump32 dapsDiscardCount
  else if !s.tagGood b then (s.authFail k).refuseKey x (refusalBytes 0x0202)
  else match (s.key k).fresh (frFresh b) with
    | none => (s.bump32 dapsFreshFailCount).refuseKey x (refusalBytes 0x0203 ++ leBytes 4 (s.key k).freshLast)
    | some y => ((s.storeKey k y).hostSeen k).inSession x hw

/-- A request in the SVC service form (R399): the SERVICE role, without steps 1 to 3. -/
def State.runService (s : State) (x : InReq) (hw : Hw) : State :=
  let go := fun (s : State) (n : Nat) =>
    (s.onSession n (fun y => { y with lastUsed := s.now })).newRequest .service n 0 x.req.bytes false hw
  match s.findSession x.req.tr x.req.ep 17 with
  | some n => go s n
  | none =>
    match s.openSession x.req.tr x.req.ep 17 with
    | (t, none) => t.sendPayload x.req.tr x.req.ep 17 0 0 (refusalBytes 0x0402)
    | (t, some n) => go t n

def State.runRequest (s : State) (x : InReq) (hw : Hw) : State := if x.req.service then s.runService x hw else s.runFrame x hw

/-! ### Responses that are due (R324, R343) -/

/-- Count the refusal of an item that was accepted and has ended. -/
def State.countRefusal (s : State) (r : Role) (st : Nat) : State :=
  let s := (s.bump32 diagRefusedCount).setReg diagLastRefusal st
  match r with
  | .partition p => (s.bump32 (diagpPRefused p)).setReg (diagpPLastRefusal p) st
  | _ => s

/-- A request whose commit or switch has ended with a status: its item takes it, and the items behind it are executed or notRun. -/
def State.deliverOne (s : State) (w : Wait) (st : Nat) (hw : Hw) : State :=
  let done := w.done ++ respItem w.item st []
  if refuses st then
    let t := (s.countRefusal w.role st).giveCodes w.role (notRun w.rest)
    t.afterItems s w w.muted (some (done ++ codeItems (notRun w.rest)))
  else
    let (t, b) := s.runItems { w with done := done } false hw w.rest
    t.afterItems s w w.muted b

/-- Every request that no longer waits, oldest first. -/
def State.deliverLoop : Nat → Hw → State → State
  | 0, _, s => s
  | n + 1, hw, s =>
    match s.waits.find? (fun (w : Wait) => w.result.isSome) with
    | none => s
    | some w => ({ s with waits := s.waits.erase w }.deliverOne w (w.result.getD 0) hw).deliverLoop n hw

/-- A batch whose items are still to be executed in a later tick: no other request is executed before (R326). -/
def State.batchOpen (s : State) : Bool := s.waits.any (fun (w : Wait) => decide (18 ≤ w.what))

def State.deliver (s : State) (hw : Hw) : State := if s.batchOpen then s else s.deliverLoop (33 * (s.waits.length + 1)) hw

/-- A batch goes on in a new tick: values of a SNAPSHOT batch are taken where their tick has come, and the items that can be executed in this
tick are (R326, R327). -/
def State.batchTurn (s : State) : State :=
  match s.waits.find? (fun (w : Wait) => decide (18 ≤ w.what)) with
  | none => s
  | some w =>
    let w' := if w.what = 19 then s.snapTake w else w
    if w.what = 19 ∧ !s.snapDone w' then { s with waits := s.waits.map (fun v => if v = w then w' else v) }
    else
      let u := { s with waits := s.waits.erase w }
      let (t, b) := u.runItems w' false w.hw w.rest
      (t.afterItems u w' w.muted b).deliver w.hw

/-! ### The next request (R328) -/

/-- Order of the transports in one tick (Table 12-5). -/
def trRank : Transport → Nat
  | .spi => 0
  | .can k => 1 + k.val
  | .t1s => 3
  | .svc _ => 4

/-- The request that is executed next: the earliest, and in one tick in the order of the transports. -/
def State.nextRequest (s : State) : Option InReq :=
  s.inbox.foldl (fun a x => match a with
    | none => some x
    | some y => if x.at_ < y.at_ ∨ x.at_ = y.at_ ∧ trRank x.req.tr < trRank y.req.tr then some x else some y) none

/-- A transport can bring a request in: its link carries frames; for SPI the island is up and fewer than 16 requests of it wait (R364). -/
def State.canArrive (s : State) (tr : Transport) : Bool :=
  match tr with
  | .spi => s.supply.vcore && !s.islandBad.contains 17 && !s.host.sleep &&
      decide ((s.inbox.filter (fun (x : InReq) => x.req.tr == .spi)).length < 16)
  | .can k => s.linkRuns (.can k) && s.downCause k.val != 1
  | .t1s => s.linkRuns .t1s && !s.t1sSleep
  | .svc _ => s.supply.vcore && !s.islandBad.contains 18

/-- The endpoint of a transport: the link itself on SPI, the window on SVC (R364, R400). -/
def endpointOf (a : Arrival) : Nat :=
  match a.tr with
  | .spi => 0
  | .svc w => w.val
  | _ => a.ep

/-- A complete request arrives; one of a window as a submit of it (R399). -/
def State.arrive (s : State) (a : Arrival) : State :=
  match a.tr with
  | .svc w =>
    if !s.svcOpen w.val then s
    else if a.service ∧ s.act svcServiceForm = 0 then s.svcIgnore
    else s.submit w.val a.service a.bytes
  | _ =>
  if s.canArrive a.tr then
    { s with inbox := s.inbox ++ [{ req := { a with ep := endpointOf a, service := false }, at_ := s.now }] }
  else s

/-- Execute the next request, unless a batch is not yet through (R326). -/
def State.serveNext (s : State) (hw : Hw) : State :=
  match if s.batchOpen then none else s.nextRequest with
  | none => s
  | some x => { s with inbox := s.inbox.erase x }.runRequest x hw

/-- DAP_REQUEST (R320): a complete request may arrive, and the next one that waits is executed. -/
def execDapRequest (a : Option Arrival) (hw : Hw) (s : State) : Outcome State Fault Refusal :=
  if !s.serves then ok s
  else
    let s := match a with
      | none => s
      | some x => s.arrive x
    ok (((s.swapIfDue.deliver hw).serveNext hw).deliver hw)

/-- REGISTER_WRITE (R317): one write from step 3 of Table 12-3 on, in the first open session of the role's key. -/
def execRegisterWrite (r : Role) (idx : BitVec 16) (sub : Byte) (val : Bytes) (s : State) : Outcome State Fault Refusal :=
  if !s.serves then ok s
  else if s.undefinedRole r then ok ((s.answer 0x0205).countItem r)
  else
    let s := s.swapIfDue
    let k := ((s.sessions.find? (fun x => x.2.keyId == roleKey r)).map (fun x => x.1)).getD s.sessNext
    let x : ReqItem := { write := true, shadow := false, snap := false, idx := idx.toNat, sub := sub.toNat, val := val }
    ok ((s.oneItem r k x noHw).deliver noHw)

/-! ### Peer dictionary reads (R404) -/

/-- The address of this device on PEER, as its write address byte. -/
def State.peerAddr (s : State) : Nat := 2 * (s.act peerPeerAddrBase + s.supply.devid)

/-- The peer request held is executed: PEER role, without steps 1 to 3; step 4 is of partitions. -/
def State.peerRun (s : State) (idx sub : Nat) : State :=
  if 256 ≤ s.openRequests then { s with peerReq := some (idx, sub, 0x0406, []) } else
  let x : ReqItem := { write := false, shadow := false, snap := false, idx := idx, sub := sub, val := [] }
  let t := s.oneItem .peer s.sessNext x noHw
  let v := if t.status = 0 then t.reply else []
  if 32 < v.length then { t with peerReq := some (idx, sub, 0x0402, []) } else { t with peerReq := some (idx, sub, t.status, v) }

/-- A request that a peer has written and that is not yet complete (ST 0x0002) is executed, behind the requests that the other transports brought
in the same tick (R328, R404). -/
def State.peerTurn (s : State) : State :=
  match s.peerReq with
  | some (idx, sub, 2, _) => if s.serves && !s.batchOpen then s.swapIfDue.peerRun idx sub else s
  | _ => s

/-- PEER_READ_REQUEST (R404): the bytes written to this device's address. The request replaces the one held, and is executed at the end of the tick,
or when requests are served again. -/
def execPeerReadRequest (bytes : Bytes) (s : State) : Outcome State Fault Refusal :=
  if !s.supply.vcore || s.islandBad.contains 18 then ok s
  else match bytes with
    | [c, i0, i1, sub, pec] =>
      if c = 0xD1 ∧ pec = crc8 [BitVec.ofNat 8 s.peerAddr, c, i0, i1, sub] then
        let s := s.bump32 peersPeerReqCount
        let idx := leNat [i0, i1]
        if 100 ≤ (s.lastSecond s.peerReqsAt).length then ok { s with peerReq := some (idx, sub.toNat, 0x0402, []) }
        else ok { s with peerReqsAt := s.lastSecond s.peerReqsAt ++ [s.now], peerReq := some (idx, sub.toNat, 2, []) }
      else ok s.peerError
    | _ => ok s.peerError

/-- PEER_READ_RESULT (R404; not from a device with DUP_DEVID, R179): STATUS, INDEX, SUB, LEN, VALUE and the PEC over the read address and them. -/
def execPeerReadResult (s : State) : Outcome State Fault Refusal :=
  if !s.supply.vcore || s.islandBad.contains 18 || s.trestle.dup then ok s
  else
    let (idx, sub, st, v) := s.peerReq.getD (0xFFFF, 0xFF, 2, [])
    let b := two st ++ two idx ++ [BitVec.ofNat 8 sub, BitVec.ofNat 8 v.length] ++ v
    ok (s.give (b ++ [crc8 (BitVec.ofNat 8 (s.peerAddr + 1) :: b)]))

end Sys2Proof.Machine
end

