-- ==== Sys2Proof/Machine/CommitCmds.lean ====
section
/-! DEFINITION. The commands of the commit point and of profile switching (R16, R17, R309, R310, R322 to R324). -/
namespace Sys2Proof.Machine

open Host

/-! ### COMMIT writes (R322 to R324) -/

/-- COMMIT (R16): 0x1100:08 = 0x01 in the OWNER role. The answer of an accepted commit comes at its end (ST 0x0002 until then). -/
def execCommit (r : Role) (fabricOk : Bool) (s : State) : Outcome State Fault Refusal :=
  ok ((s.commitItem r (isOwner r) 16 1 fabricOk).deliver { fabricOk := fabricOk, senses := [] })

/-- COMMIT_DISCARD (R324). -/
def execCommitDiscard (r : Role) (s : State) : Outcome State Fault Refusal := ok (s.commitItem r (isOwner r) 16 2 true)

/-- PARTITION_COMMIT (R322): 0x1020 + p:01 = 0x01. -/
def execPartitionCommit (r : Role) (p : Fin 16) (fabricOk : Bool) (s : State) : Outcome State Fault Refusal :=
  ok ((s.commitItem r (ownerOr r p) p 1 fabricOk).deliver { fabricOk := fabricOk, senses := [] })

/-- PARTITION_COMMIT_DISCARD (R324). -/
def execPartitionCommitDiscard (r : Role) (p : Fin 16) (s : State) : Outcome State Fault Refusal :=
  ok (s.commitItem r (ownerOr r p) p 2 true)

/-- COMMIT_QUEUE_START (R323): the oldest queued request is taken up when no commit is in progress. -/
def execCommitQueueStart (fabricOk : Bool) (s : State) : Outcome State Fault Refusal :=
  if s.mgmtDown then ok s else ok ((s.queueStart fabricOk).deliver { fabricOk := fabricOk, senses := [] })

/-! ### The swap and its failure (R16, R17) -/

/-- SWAP (R16): at T. The responses that it makes due are sent, also after a swap that a stamp brought (R19). -/
def execSwap (s : State) : Outcome State Fault Refusal :=
  match s.armed with
  | none => ok (s.deliver noHw)
  | some a => if s.swapDue a then ok ((s.swap a).deliver noHw) else ok s

/-- COMMIT_ABANDON (R17): from 2 µs before T on, with a participant that has not answered. The shadow banks keep their content. -/
def execCommitAbandon (_part : Participant) (hw : Hw) (s : State) : Outcome State Fault Refusal :=
  match s.armed with
  | none => ok s
  | some a =>
    if s.now + usTicks 2 < a.tick then ok s
    else
      let t := { s with armed := none }.commitEnds a.kind 0x0404
      match a.kind with
      | .powerUp n => ok (t.powerUpAbandoned n hw)
      | _ => ok (t.deliver hw)

/-! ### Switching (R309, R310) -/

/-- SWITCH (R309). -/
def execSwitch (r : Role) (v : Byte) (hw : Hw) (s : State) : Outcome State Fault Refusal := ok ((s.switchItem r v hw).deliver hw)

/-- What can stand against a switch to shelf n and end: that a partition which the switch affects is not DOWN, and each activity that
conflicts with it (R309, R310, Table 8-4). -/
def State.pinBars (s : State) (n : Nat) : List Bool :=
  let hit := partitions.filter (s.affectsTo (s.shelfBank n))
  partitions.map (fun p => hit.contains p && (s.part p).state != .down) ++
    partitions.map (fun p => hit.contains p && s.sweeping p) ++
    partitions.map (fun p => hit.contains p && (s.chansOf p).any (fun c => (s.chan c).staticMgn)) ++
    [s.fwUpdates, s.shelfOpen n, s.armed.isSome]

/-- A switch asked for by the pins: what it names becomes the accepted value, or the refusal sets PSEL_REFUSED and the request is to be tried
again (R310); EV 0x55 is the switch's own. -/
def State.pinSwitch (s : State) (v : Nat) (hw : Hw) : State :=
  let st := s.status
  let t := s.switchRequest v true hw
  let u := if t.status = 2 then { t with supply := { t.supply with psel := v, pselAsk := none } }
    else { t with supply := { t.supply with pselAsk := some (v, s.pinBars v) } }.setReg profPselRefused 1
  { u.deliver hw with status := st }

/-- The pins are judged (R310): a value that is not the last accepted one asks for a switch; one that is ends what was asked. PSEL_REFUSED is
clear when they name the active shelf. -/
def State.pinsJudged (s : State) (hw : Hw) : State :=
  let v := s.supply.pselNow
  let s := { s with supply := { s.supply with pselDue := false, pselAsk := none } }
  let s := if v = s.reg profActiveShelf then s.setReg profPselRefused 0 else s
  if v = s.supply.psel then s else s.pinSwitch v hw

/-- The pins are followed: PIN_FOLLOW 1 in the active configuration, and no switch in progress (R310, R312). -/
def State.pinsFollow (s : State) : Bool := s.supply.vcore && !s.mgmtDown && s.committed && s.act profPinFollow == 1 && !s.switching

/-- PSEL_CHANGE (R310): the pins have been stable for 10 ms at another value. While a switch is in progress, and while the management plane is
down, the change waits to be judged (R312). -/
def execPselChange (v : Fin 4) (hw : Hw) (s : State) : Outcome State Fault Refusal :=
  if !s.supply.vcore then ok s
  else
    let s := { s with supply := { s.supply with pselNow := v.val, pselDue := true } }
    if s.pinsFollow then ok (s.pinsJudged hw) else ok s

/-- The end of a tick (R310, R312): a change that waited for the end of a switch is judged, and a refused request is tried again when an
affected partition has entered DOWN or a conflicting activity has ended; with clean cells and a passing fabric test (log 24). -/
def State.pinsTurn (s : State) : State :=
  if !s.pinsFollow then s
  else if s.supply.pselDue then s.pinsJudged noHw
  else match s.supply.pselAsk with
    | none => s
    | some (v, was) =>
      let bars := s.pinBars v
      if (was.zip bars).any (fun x => x.1 && !x.2) then s.pinSwitch v noHw
      else { s with supply := { s.supply with pselAsk := some (v, bars) } }

end Sys2Proof.Machine
end

