-- ==== Sys2Proof/Machine/Events.lean ====
section
/-! DEFINITION. The commands of the event ring and of event frames (R24, R331, R332, R352). -/
namespace Sys2Proof.Machine

open Host

/-- Island domain (Table 1-3). -/
def islandDom : Island → Nat
  | .cl n => n.val + 1
  | .hutch => 9
  | .mgmt => 10
  | .telemetry => 11
  | .nv => 12
  | .drive => 13
  | .can k => 14 + k.val
  | .t1s => 16
  | .host => 17
  | .twoWire => 18

/-- The codes that a chapter lists (Table 12-8); no other one is ever raised. -/
def listedCode (c : Nat) : Bool :=
  [(0x01, 0x04), (0x10, 0x1F), (0x20, 0x29), (0x30, 0x39), (0x40, 0x4A), (0x50, 0x5F), (0x60, 0x66), (0x70, 0x7B), (0x80, 0x83)].any
    (fun r => decide (r.1 ≤ c ∧ c ≤ r.2))

/-- EVENT_RAISE (R332): an island raises an event; a reserved code is never raised. -/
def execEventRaise (src : Island) (ev : EventBody) (s : State) : Outcome State Fault Refusal :=
  if !listedCode ev.code.toNat then ok s else ok (s.raise (islandDom src) ev.code.toNat ev.part.toNat ev.clear ev.param)

/-- EVENT_NEXT (R332): a read of 0x1010:02 in session k. -/
def execEventNext (k : Nat) (s : State) : Outcome State Fault Refusal :=
  match s.session k with
  | none => ok s
  | some x =>
    ok (s.item (keyRole x.keyId) true true (fun s =>
      let (t, b) := s.eventRead k
      t.give b))

/-- EVENT_SUBSCRIBE (R352): a write of 0x5848:01 in session k; SERVICE has no right. -/
def execEventSubscribe (k : Nat) (v : Byte) (s : State) : Outcome State Fault Refusal :=
  match s.session k with
  | none => ok s
  | some x =>
    ok (s.item (keyRole x.keyId) (decide (x.keyId ≤ 16)) (decide (v.toNat ≤ 1))
      (fun s => (s.writeSpecial k 0x5848 0 1 v.toNat).getD s))

/-- An event frame of a session can be handed over: its link carries frames, and in a window a place is free (R399, R400). -/
def State.eventPlace (s : State) (x : Session) : Bool :=
  match x.tr with
  | .spi => s.supply.vcore && !s.islandBad.contains 17
  | .can k => s.linkRuns (.can k) && s.downCause k.val == 0
  | .t1s => s.linkRuns .t1s && s.downCause 2 == 0
  | .svc w => s.supply.vcore && !s.islandBad.contains 18 && decide (s.outstanding w.val + (s.window w.val).queue.length < 4)

/-- The payload of an event frame (R352). -/
def eventPayload (l : List EventRec) : Bytes := [BitVec.ofNat 8 l.length, 0, 0, 0] ++ (l.map (fun e => e.bytes)).flatten

/-- EVENT_FRAME_SEND (R352): up to 8 unsent records of a subscribed session, at most one frame a millisecond, TID 0 and EVENT set. -/
def execEventFrameSend (k : Nat) (s : State) : Outcome State Fault Refusal :=
  match s.session k with
  | none => ok s
  | some x =>
    let due : Bool := match x.evSentAt with
      | none => true
      | some t => s.passed t (msTicks 1)
    if !s.serves || !x.subscribed || x.evOut.isEmpty || !due || !s.eventPlace x then ok s
    else
      let l := x.evOut.take 8
      let s := s.onSession k (fun y => { y with evOut := y.evOut.drop 8, evSentAt := some s.now })
      ok (s.sendPayload x.tr x.ep x.keyId 1 0 (eventPayload l))

end Sys2Proof.Machine
end

