-- ==== Sys2Proof/Machine/Net.lean ====
section
/-! DEFINITION. The field links (R345 to R357): received frames and their segments, links that go down and come back, the host watch, TC10
sleep and wake, and telemetry frames on T1S. -/
namespace Sys2Proof.Machine

open Host

/-! ### Segments (R345, R346) -/

/-- Count a discarded assembly or segment. -/
def State.segError (s : State) : State := s.bump32 dapsSegErrCount

/-- The assembly of a link, an endpoint and a TID_LO. -/
def State.asm (s : State) (l : Link) (ep tid : Nat) : Option Assembly :=
  s.asms.find? (fun (a : Assembly) => a.link == l && a.ep == ep && a.tid == tid)

/-- Drop an assembly. -/
def State.dropAsm (s : State) (l : Link) (ep tid : Nat) : State :=
  { s with asms := s.asms.filter (fun (a : Assembly) => !(a.link == l && a.ep == ep && a.tid == tid)) }

/-- More than SEG_TIMEOUT has passed since the last segment of an assembly. -/
def State.asmLate (s : State) (a : Assembly) : Bool := decide (a.lastAt + msTicks (s.act dapSegTimeout) < s.now)

/-- The bytes of a frame whose last part came with the padding of its carriage, which is ignored: the length in its header tells what
belongs to it, where that much padding is possible. -/
def unpad (before last : Bytes) (fits : Nat → Bool) : Bytes :=
  let all := before ++ last
  let need := 20 + leNat ((all.drop 6).take 2)
  if before.length ≤ need ∧ need ≤ all.length ∧ fits (need - before.length) then all.take need else all

/-- A part of a frame joins what has come before it: the frame is complete with its last part, or the assembly goes on; beyond 8,472 bytes it
is discarded. -/
def State.joinPart (s : State) (l : Link) (ep tid no : Nat) (before part : Bytes) (last : Bool) (fits : Nat → Bool) : State :=
  let s := s.dropAsm l ep tid
  let all := if last then unpad before part fits else before ++ part
  if 8472 < all.length then s.segError
  else if last then s.arrive { tr := linkTr l, ep := ep, service := false, bytes := all }
  else { s with asms := s.asms ++ [{ link := l, ep := ep, tid := tid, next := no + 1, bytes := all, lastAt := s.now }] }

/-- A segment on a link (R346). -/
def State.segmentIn (s : State) (l : Link) (ep : Nat) (seg : Bytes) (fits : Nat → Bool) : State :=
  match seg with
  | t :: n :: ctrl :: part =>
    let tid := t.toNat
    let no := n.toNat
    let last := bitOf ctrl.toNat 7
    let s := match s.asm l ep tid with
      | some a => if s.asmLate a then (s.dropAsm l ep tid).segError else s
      | none => s
    match s.asm l ep tid with
    | some a =>
      if no = 0 then (s.segError).joinPart l ep tid 0 [] part last fits
      else if a.next = no then s.joinPart l ep tid no a.bytes part last fits
      else (s.dropAsm l ep tid).segError
    | none =>
      if no ≠ 0 then s.segError
      else if 16 ≤ (s.asms.filter (fun (a : Assembly) => a.link == l)).length then s.segError
      else s.joinPart l ep tid 0 [] part last fits
  | _ => s

/-- SEG_TIMEOUT (R346). -/
def execSegTimeout (l : Link) (ep : Nat) (tid : Byte) (s : State) : Outcome State Fault Refusal :=
  match s.asm l ep tid.toNat with
  | none => ok s
  | some a => if s.asmLate a then ok ((s.dropAsm l ep tid.toNat).segError) else ok s

/-! ### Links down and up (R354) -/

/-- Domain of a link's island. -/
def linkDom (l : Link) : Nat := 14 + linkNum l

/-- LINK_DOWN_COUNT of a link. -/
def linkDownKey : Link → Nat
  | .can k => cansLinkDownCount k.val
  | .t1s => t1ssLinkDownCount

/-- LINK_SILENCE of a link. -/
def State.silence (s : State) : Link → Nat
  | .can k => s.act (canLinkSilence k.val)
  | .t1s => s.act t1sLinkSilence

/-- Cause code of Table 13-10 when a link can go down for it; 0 when not: bus-off is of CAN, a PHY fault and, with PLCA, a lost beacon of T1S,
and the silence test may be off, and else is made on the frames received; whether a sent frame was acknowledged within LINK_SILENCE is for the
sender of the command to know (log 10). -/
def State.linkCause (s : State) (l : Link) (c : LinkCause) : Nat :=
  match l, c with
  | .can _, .busOff => 1
  | .t1s, .phyFault => 3
  | .t1s, .beaconLost => if s.act t1sPlcaEnable = 1 then 4 else 0
  | l, .silence => if s.silence l ≠ 0 ∧ s.passed (s.linkX l).heardAt (msTicks (s.silence l)) then 2 else 0
  | _, _ => 0

/-- A link goes down: its sessions close, its assemblies are discarded, the responses to requests that came over it will be discarded; EV
0x70. -/
def State.linkFalls (s : State) (l : Link) (cause : Nat) : State :=
  let s := (s.closeLink l).setDown (linkNum l) cause
  let s := { s with inbox := s.inbox.map (fun (x : InReq) => if x.req.tr = linkTr l then { x with muted := true } else x) }
  (s.bump16 (linkDownKey l)).raise (linkDom l) 0x70 255 false [BitVec.ofNat 8 (linkNum l), BitVec.ofNat 8 cause]

/-- The happening is noticed: silence also on a link that carries no frames for want of its pins' supply, the reference or its island. -/
def State.linkSees (s : State) (l : Link) (c : LinkCause) : Bool :=
  s.linkRuns l || (c == .silence && s.linkOn l && s.supply.vcore)

/-- A lost beacon shows in PLCA_STATUS also where the link is down already. -/
def State.beaconGone (s : State) (l : Link) (cause : Nat) : State :=
  if cause = 4 then s.setLink l { s.linkX l with beaconLost := true } else s

/-- LINK_DOWN (R354). Link sleep is not down; a link that is silent may still go to bus-off. -/
def execLinkDown (l : Link) (c : LinkCause) (s : State) : Outcome State Fault Refusal :=
  let cause := s.linkCause l c
  let was := s.downCause (linkNum l)
  if !s.linkSees l c || cause == 0 || (s.t1sSleep && l == .t1s) || was == 1 then ok s
  else if was ≠ 0 ∧ cause ≠ 1 then ok (s.beaconGone l cause)
  else
    let s := match l with
      | .can k => if cause = 1 then s.bump16 (cansBusoffCount k.val) else s
      | .t1s => s
    if was = 0 then ok ((s.linkFalls l cause).beaconGone l cause) else ok (s.setDown (linkNum l) cause)

/-- A link is up again, with EV 0x70 as cleared and the cause that ends. -/
def State.linkRises (s : State) (l : Link) : State :=
  let c := s.downCause (linkNum l)
  if c = 0 then s
  else (s.setDown (linkNum l) 0).raise (linkDom l) 0x70 255 true [BitVec.ofNat 8 (linkNum l), BitVec.ofNat 8 c]

/-- A valid frame is received on a link (R354): its silence ends, and it is up again. -/
def State.linkHeard (s : State) (l : Link) : State := (s.setLink l { s.linkX l with heardAt := s.now }).linkRises l

/-- LINK_UP (R354): a first valid frame; bus-off ends by its recovery alone. -/
def execLinkUp (l : Link) (s : State) : Outcome State Fault Refusal :=
  if !s.linkRuns l || s.downCause (linkNum l) == 1 then ok s else ok (s.linkHeard l)

/-- BUSOFF_RECOVERY (R347, R354): a recovery, begun BUSOFF_HOLD after bus-off, is complete. -/
def execBusoffRecovery (k : Fin 2) (s : State) : Outcome State Fault Refusal :=
  if !s.linkRuns (.can k) || s.downCause k.val != 1 || !s.passed (s.linkX (.can k)).offAt (msTicks (s.act (canBusoffHold k.val))) then ok s
  else
    ok ((s.raise (14 + k.val) 0x71 255 false (BitVec.ofNat 8 k.val :: two (s.reg (cansBusoffCount k.val)))).linkRises (.can k))

/-! ### Received frames (R347 to R350) -/

/-- Identifier of a DAP frame to this device, without its NODE (Table 13-5). -/
def State.canMine (s : State) (k : Nat) (id : Nat) : Bool :=
  id / 65536 == s.act (canCanPrefix k) * 32 + s.supply.devid && id % 256 == 0

/-- The data lengths of an FD frame that are supported (Table 13-4). -/
def canLenOk (n : Nat) : Bool := [8, 12, 16, 20, 24, 32, 48, 64].contains n

/-- CAN_FRAME_RECEIVE (R348): an FD frame; while no request is served it does not reach the DAP engine. -/
def execCanFrameReceive (k : Fin 2) (fd : Bool) (id : BitVec 29) (data : Bytes) (s : State) : Outcome State Fault Refusal :=
  if !s.linkRuns (.can k) || s.downCause k.val == 1 || !fd || !canLenOk data.length then ok s
  else
    let s := s.linkHeard (.can k)
    if !s.serves || !s.canMine k.val id.toNat then ok s
    else
      ok ((s.bump32 (cansRxFrames k.val)).segmentIn (.can k) (id.toNat / 256 % 256) data (fun n => canLen (n + 3) == data.length))

/-- The shortest payload of an Ethernet frame: 46 bytes, 42 behind a tag. -/
def ethMin (e : EthFrame) : Nat := if e.vlan.isSome then 42 else 46

/-- The VLAN rule of Table 13-6. -/
def State.vlanOk (s : State) (e : EthFrame) : Bool :=
  match e.vlan with
  | none => s.act t1sVlanId == 0
  | some v => s.act t1sVlanId != 0 && v.toNat == s.act t1sVlanId

/-- T1S_FRAME_RECEIVE (R349, R350). -/
def execT1sFrameReceive (e : EthFrame) (s : State) : Outcome State Fault Refusal :=
  let n := e.payload.length
  if !s.linkRuns .t1s || s.t1sSleep then ok s
  else if !e.fcsOk || decide (n < ethMin e) || decide (1500 < n) then ok (s.bump32 t1ssFcsErrCount)
  else
    let s := s.linkHeard .t1s
    if !s.serves || !e.unicast || e.ethertype.toNat != s.act t1sEthertype || !s.vlanOk e || e.payload.headD 0 != 1 then ok s
    else
      ok ((s.bump32 t1ssRxFrames).segmentIn .t1s e.src.toNat (e.payload.drop 1)
        (fun m => m + 4 == n || (decide (m + 4 ≤ n) && decide (n ≤ 46))))

/-! ### Sessions and the host watch (R342, R355) -/

/-- A request of the session awaits execution, which keeps it open (Table 13-8). -/
def State.sessionAsked (s : State) (x : Session) : Bool :=
  s.inbox.any (fun (y : InReq) =>
    y.req.tr == x.tr && y.req.ep == x.ep && (if y.req.service then x.keyId == 17 else frKey y.req.bytes == x.keyId))

/-- SESSION_IDLE (R342): a request in the tick of the limit keeps the session open (R358). -/
def execSessionIdle (k : Nat) (s : State) : Outcome State Fault Refusal :=
  match s.session k with
  | none => ok s
  | some x =>
    if decide (x.lastUsed + sTicks (s.act dapSessionIdle) < s.now) && !s.sessionAsked x then
      ok { s with sessions := s.sessions.filter (fun y => y.1 != k) }
    else ok s

/-- HOST_TIMEOUT (R355): the watch of p has run out, without a request in its last tick (R358); the timer stands still during a management
reset, and in STOPPING (log 2). -/
def execHostTimeout (p : Fin 16) (s : State) : Outcome State Fault Refusal :=
  match (s.part p).hostAt with
  | none => ok s
  | some t =>
    let n := s.act (watchHostTimeout p)
    if s.mgmtDown || n == 0 || (s.part p).state == .stopping || decide (s.now ≤ t + msTicks n) then ok s
    else
      let a := s.act (watchHostAction p)
      let s := (s.setPart p { s.part p with hostAt := none }).raise 10 0x72 p.val false [BitVec.ofNat 8 a]
      let s := s.bump16 (watchWatchExpiries p)
      ok (if a = 1 then s.stopPart p else if a = 2 then s.causeAt p 6 0 else s)

/-! ### TC10 sleep (R357) -/

/-- A session of T1S. -/
def State.t1sSessions (s : State) : List (Nat × Session) := s.sessions.filter (fun x => x.2.tr == .t1s)

/-- A sleep request is acknowledged. -/
def State.sleepOk (s : State) : Bool :=
  s.act t1sTc10SleepOk == 1 &&
    !s.inbox.any (fun (x : InReq) => x.req.tr == .t1s) &&
    !s.waits.any (fun (w : Wait) => s.t1sSessions.any (fun x => x.1 == w.sess)) &&
    s.t1sSessions.all (fun x => x.2.evOut.isEmpty) &&
    (List.range 32).all (fun k => s.act (strEnable k) == 0 || s.act (strDestination k) != 2)

/-- TC10_SLEEP_REQUEST (R357): acknowledged, or rejected without effect. -/
def execTc10SleepRequest (s : State) : Outcome State Fault Refusal :=
  if !s.linkRuns .t1s || s.t1sSleep || !s.sleepOk then ok s
  else ok ((({ s with t1sSleep := true }).bump16 t1ssSleepCount).raise 16 0x73 255 false [1])

/-- TC10_WAKE_UP (R357). -/
def execTc10WakeUp (s : State) : Outcome State Fault Refusal :=
  if !s.linkRuns .t1s || !s.t1sSleep then ok s else ok ({ s with t1sSleep := false }.raise 16 0x73 255 true [2])

/-! ### Blocks of records and telemetry frames (R350, R351, R378) -/

/-- One record (Table 14-8). -/
def streamRecord (head value stamp : Nat) : Bytes := two head ++ two value ++ leBytes 4 stamp

/-- The records of a block of at most so many bytes, and how many of the ring they are; `hi` is the STAMP of the last TIME record. A TIME
record of the ring goes with its sample; one without LOST is inserted where the high word changes. -/
def blockOf : List (Nat × Nat × Nat × Nat) → Nat → Option Nat → Bytes × Nat
  | [], _, _ => ([], 0)
  | r :: rest, room, hi =>
    let h := r.2.2.1 / 4294967296
    if 16384 ≤ r.1 then
      if room < 16 then ([], 0)
      else
        let (b, n) := blockOf rest (room - 8) (some h)
        (streamRecord 16384 r.2.1 h ++ b, n + 1)
    else if hi = some h then
      if room < 8 then ([], 0)
      else
        let (b, n) := blockOf rest (room - 8) hi
        (streamRecord r.1 r.2.1 (r.2.2.1 % 4294967296) ++ b, n + 1)
    else if room < 16 then ([], 0)
    else
      let (b, n) := blockOf rest (room - 16) (some h)
      (streamRecord 16384 0 h ++ streamRecord r.1 r.2.1 (r.2.2.1 % 4294967296) ++ b, n + 1)

/-- Take n records from the ring of stream k; a TIME record with LOST among them ends the silence of EV 0x75 (Table 14-10). -/
def State.takeRecords (s : State) (k n : Nat) : State :=
  let x := s.stream k
  let lost := (x.ring.take n).any (fun (r : Nat × Nat × Nat × Nat) => decide (16384 ≤ r.1 ∧ 0 < r.2.1))
  s.setStream k { x with ring := x.ring.drop n, ev75 := x.ev75 && !lost }

/-- A telemetry frame of stream k is due: its records reach 1,480 bytes, or TELEM_FLUSH has passed since the first. -/
def State.frameDue (s : State) (k : Nat) : Bool :=
  let x := s.stream k
  let (_, n) := blockOf x.ring 1480 none
  decide (n < x.ring.length) || decide (1480 ≤ (blockOf x.ring 1480 none).1.length) ||
    (x.ring.head?.map (fun (r : Nat × Nat × Nat × Nat) => s.passed r.2.2.2 (msTicks (s.act t1sTelemFlush)))).getD false

/-- The telemetry frame of a stream before its tag (Table 13-7). -/
def State.telemBody (s : State) (k seq : Nat) (records : Bytes) : Bytes :=
  [2, 0, 0, BitVec.ofNat 8 s.supply.devid, BitVec.ofNat 8 k, BitVec.ofNat 8 (s.act (strPartition k))] ++ leBytes 4 seq ++
    two records.length ++ records

/-- Send a telemetry frame to TELEM_MCAST under the key of the stream's partition; without that key its tag is a free value (log 3). -/
def State.telemSend (s : State) (k : Nat) (records : Bytes) : State :=
  let seq := (s.reg (strsFrameSeq k) + 1) % 4294967296
  let s := s.setReg (strsFrameSeq k) seq
  let m := s.telemBody k seq records
  let go := fun (s : State) (tag : Nat) =>
    (s.emit .t1s 0 (s.ethFrame (s.act t1sTelemMcast) (m ++ leBytes 8 tag))).bump32 t1ssTxFrames
  match (s.key (s.act (strPartition k))).key with
  | some key => go s (tag64 key m)
  | none => go { s with draws := s.draws + 1 } (Config.freeValue s.draws).toNat

/-- TELEM_FRAME_SEND (R350, R354, R357): a frame of a stream directed to T1S; with the link asleep, down or silent it is discarded. -/
def execTelemFrameSend (k : Fin 32) (s : State) : Outcome State Fault Refusal :=
  let x := s.stream k
  if s.act (strEnable k) ≠ 1 ∨ s.act (strDestination k) ≠ 2 ∨ x.ring.isEmpty ∨ s.islandBad.contains 11 ∨ s.frameDue k = false then ok s
  else
    let (b, n) := blockOf x.ring 1480 none
    let s := s.takeRecords k n
    if s.linkRuns .t1s && !s.t1sSleep && s.downCause 2 == 0 then ok (s.telemSend k b) else ok (s.bump32 t1ssTelemDropped)

end Sys2Proof.Machine
end

