-- ==== Sys2Proof/Machine/HostLink.lean ====
section
/-! DEFINITION. The host link (R360 to R373, R379): frames, their commands and device phases, telemetry chunks, link sleep and wake. -/
namespace Sys2Proof.Machine

open Host

/-! ### The host phase (Table 14-1) -/

def hfCtrl (b : Bytes) : Nat := frByte b 0
def hfQuad (b : Bytes) : Bool := bitOf (hfCtrl b) 7
def hfResend (b : Bytes) : Bool := bitOf (hfCtrl b) 6
def hfTelem (b : Bytes) : Bool := bitOf (hfCtrl b) 5
def hfCmd (b : Bytes) : Nat := hfCtrl b % 16
def hfRsize (b : Bytes) : Nat := frByte b 1
def hfLen (b : Bytes) : Nat := leNat ((b.drop 2).take 2)

/-- D, the data capacity of the device phase. -/
def hfRoom (b : Bytes) : Nat := 64 * hfRsize b

/-- The header is no header error (R362, Table 14-2). -/
def headerOk (b : Bytes) : Bool :=
  !bitOf (hfCtrl b) 4 &&
    (match hfCmd b with
      | 0 | 2 => hfLen b == 0
      | 1 => decide (20 ≤ hfLen b ∧ hfLen b ≤ 8472)
      | _ => false)

/-- C, the clocks of a frame (R363). -/
def hfClocks (b : Bytes) : Nat :=
  if hfQuad b then 8 + 2 * (7 + hfLen b) + 8 + 2 * (12 + hfRoom b) else 8 * (8 + hfLen b) + 8 + 8 * (12 + hfRoom b)

/-- The CRC of the host phase. -/
def hostCrcOk (b : Bytes) : Bool :=
  leNat ((b.drop (4 + hfLen b)).take 4) == (crc32 (b.take (4 + hfLen b))).toNat && decide (8 + hfLen b ≤ b.length)

/-- The host-link island has VCORE and its clock, and its pins their supply (VIO_C). -/
def State.hostRuns (s : State) : Bool := s.supply.vcore && !s.islandBad.contains 17 && !s.vioLost.contains 2

/-! ### HIRQ_N (R367, R372, R373) -/

/-- HIRQ_N is driven low, else released: while the link is awake for a pending condition that IRQ_MASK enables; from a device wake until the
first complete frame after the resume ends; and not at all in STANDBY, in BACKUP or without VCORE. -/
def State.hirqLow (s : State) : Bool :=
  s.hostRuns && (s.supply.power == .starting || s.supply.power == .active) &&
    (s.host.wakeOpen || (!s.host.sleep && decide (s.hostConds &&& s.act hostIrqMask ≠ 0)))

/-! ### The falling edge (R360, R364, R368, Table 14-4) -/

/-- The SPI streams that hold records, in the order of R379: highest PRIORITY first, then lowest number. -/
def State.spiStreams (s : State) : List Nat :=
  ((List.range 32).filter (fun k => s.act (strEnable k) == 1 && s.act (strDestination k) == 1 && !(s.stream k).ring.isEmpty)).mergeSort
    (fun a b => decide (s.act (strPriority b) < s.act (strPriority a) ∨ s.act (strPriority a) = s.act (strPriority b) ∧ a ≤ b))

/-- The status word (Table 14-4) but FRAME_SEQ. -/
def State.statusWord (s : State) : Nat :=
  let c := s.hostConds
  bitIf s.mgmtDown 31 + bitIf s.host.dropped 30 + s.host.dropCause * 134217728 + bitIf (bitOf c 0) 26 + bitIf (bitOf c 1) 25 +
    bitIf (bitOf c 2) 24 + (if s.host.woke then 8388608 + s.host.wakeReason * 1048576 else 0) + min 255 s.host.out.length * 256

/-- SPI_FRAME_START (R360, R364): HCS_N falls while the link is awake. -/
def execSpiFrameStart (mode3 : Bool) (s : State) : Outcome State Fault Refusal :=
  if !s.hostRuns || s.host.inFrame then ok s
  else
    let s := s.hostNote
    ok { s with host := { s.host with
      inFrame := true, mode3 := mode3, word := s.statusWord, dapReady := !s.host.out.isEmpty && !s.mgmtDown,
      ready := s.spiStreams.map (fun k => (k, (s.stream k).ring.length)) } }

/-! ### The device phase (Table 14-3, R364, R379) -/

/-- The blocks of a telemetry chunk of at most so many bytes, and how many records of each stream it takes. -/
def State.chunkOf (s : State) : List (Nat × Nat) → Nat → Bytes × List (Nat × Nat)
  | [], _ => ([], [])
  | (k, n) :: rest, room =>
    let (b, m) := if room < 4 then ([], 0) else blockOf ((s.stream k).ring.take n) (room - 4) none
    if b.isEmpty then s.chunkOf rest room
    else
      let (c, l) := s.chunkOf rest (room - 4 - b.length)
      ([BitVec.ofNat 8 k, BitVec.ofNat 8 (s.act (strPartition k))] ++ two b.length ++ b ++ c, (k, m) :: l)

/-- RTYPE, MORE, REPEAT and the chunk of a device phase: under RESEND the last chunk again (none where it does not fit, or a DAP chunk
while the management plane is down, R366), else a DAP chunk, a telemetry chunk, or none. -/
def State.chunkFor (s : State) (b : Bytes) : Nat × Bool × Bool × Bytes :=
  let h := s.host
  if hfResend b && h.lastType != 0 then
    if hfRoom b < h.lastChunk.length ∨ h.lastType = 1 ∧ s.mgmtDown then (0, false, false, []) else (h.lastType, h.lastMore, true, h.lastChunk)
  else
    match h.dapReady, s.mgmtDown, h.out with
    | true, false, f :: _ => (1, decide (hfRoom b < f.2.length), false, f.2.take (hfRoom b))
    | _, _, _ =>
      let c := if hfTelem b && !s.islandBad.contains 11 then (s.chunkOf h.ready (hfRoom b)).1 else []
      if c.isEmpty then (0, false, false, []) else (2, false, false, c)

/-- The bytes of a device phase. -/
def State.devicePhase (s : State) (b : Bytes) : Bytes :=
  let (t, more, again, c) := s.chunkFor b
  let m := leBytes 4 (s.host.word + (s.reg hostsFramesOk + 1) % 256) ++ [BitVec.ofNat 8 t, BitVec.ofNat 8 (bitIf more 0 + bitIf again 1)] ++
    two c.length ++ padTo (hfRoom b) 0 c
  m ++ leBytes 4 (crc32 m).toNat

/-- The DAP chunk of a complete frame is delivered: its frame keeps the rest, or is gone. -/
def State.dapDelivered (s : State) (n : Nat) : State :=
  match s.host.out with
  | [] => s
  | f :: rest => { s with host := { s.host with out := if n < f.2.length then (f.1, f.2.drop n) :: rest else rest } }

/-- The chunk of a complete frame is delivered (R364), and is the one that RESEND asks for. -/
def State.deliverChunk (s : State) (b : Bytes) : State :=
  let (t, more, again, c) := s.chunkFor b
  let sent := s.devicePhase b
  let takes := (s.chunkOf s.host.ready (hfRoom b)).2
  let s := { s with host := { s.host with lastType := t, lastMore := more, lastChunk := c, sent := sent } }
  if again then s.bump32 hostsResendCount
  else if t = 1 then s.dapDelivered c.length
  else if t = 2 then takes.foldl (fun s x => s.takeRecords x.1 x.2) s
  else s

/-! ### Commands (R362, R364, R365) -/

/-- What the next status word reports. -/
def State.hostDrop (s : State) (cause : Nat) : State := { s with host := { s.host with dropped := true, dropCause := cause } }

/-- EV 0x77, at most once a second (Table 14-10). -/
def State.queueFullEvent (s : State) : State :=
  let quiet := match s.host.ev77At with
    | none => true
    | some t => s.passed t (sTicks 1)
  if quiet then { s with host := { s.host with ev77At := some s.now } }.raise 17 0x77 255 else s

/-- A DAP command of a complete frame (R364, Table 14-5): cause 4 while the management plane is down, cause 5 when 16 wait. -/
def State.hostDap (s : State) (frame : Bytes) : State :=
  if !s.serves then (s.bump32 hostsQueueDropCount).hostDrop 4
  else if !s.canArrive .spi then ((s.bump32 hostsQueueDropCount).hostDrop 5).queueFullEvent
  else s.arrive { tr := .spi, ep := 0, service := false, bytes := frame }

/-- The wake window opens (R372, R373), or a host resume ends link sleep. -/
def State.wakeWindow (s : State) : State := { s with host := { s.host with wakeOpen := true, wakeAt := s.now } }

/-- Whether a condition enabled in HOST_WAKE_MASK is present. -/
def State.wakeWanted (s : State) : Bool := decide (s.hostConds &&& s.act hostHostWakeMask ≠ 0)

/-- SLEEP (R371): link sleep, with a device wake at once when an enabled condition is pending. -/
def State.hostSleep (s : State) : State :=
  let s := { s with host := { s.host with sleep := true, wakeReason := 0, woke := false } }.hostNote
  if s.wakeWanted then s.wakeWindow else s

/-- NOP (R362): nothing. -/
def execNop (s : State) : Outcome State Fault Refusal := ok s

/-- DAP (R362): the DAP frame of a complete frame is queued for execution. -/
def execDap (frame : Bytes) (s : State) : Outcome State Fault Refusal :=
  if !s.hostRuns || s.host.sleep then ok s else ok (s.hostDap frame)

/-- SLEEP_LINK (R371). -/
def execSleepLink (s : State) : Outcome State Fault Refusal := if !s.hostRuns || s.host.sleep then ok s else ok s.hostSleep

/-! ### The rising edge (R364, R365, Table 14-5) -/

/-- The first complete frame after link sleep closes the wake window (R373). -/
def State.frameAfterWake (s : State) : State :=
  { s with host := { s.host with woke := false, wakeOpen := false, wakeReason := 0 } }

/-- A complete frame: its chunk is delivered, its command executed unless its CRC is invalid. -/
def State.frameComplete (s : State) (b : Bytes) : State :=
  let s := (s.deliverChunk b).bump32 hostsFramesOk
  let s := (s.setReg hostsLastFormat (bitIf (hfQuad b) 0 + bitIf s.host.mode3 1)).frameAfterWake
  let s := { s with host := { s.host with dropped := false, dropCause := 0 } }
  if !hostCrcOk b then (s.bump32 hostsCrcErrCount).hostDrop 1
  else match hfCmd b with
    | 1 => s.hostDap ((b.drop 4).take (hfLen b))
    | 2 => s.hostSleep
    | _ => s

/-- A frame that is discarded: the device phase is not delivered, and the next status word reports the cause; CMD_DROPPED is of a frame that
had a header (Tables 14-4 and 14-5). -/
def State.frameLost (s : State) (counter cause : Nat) (header : Bool) : State :=
  let s := { s with host := { s.host with sent := [] } }.bump32 counter
  if header then s.hostDrop cause else { s with host := { s.host with dropCause := cause } }

/-- SPI_FRAME_END (R365): the bytes of the host phase and the clocks between the edges of HCS_N. Clocks in link sleep are cause 7. -/
def execSpiFrameEnd (rx : SpiRx) (s : State) : Outcome State Fault Refusal :=
  if !s.hostRuns || !s.host.inFrame then ok s
  else
    let s := { s with host := { s.host with inFrame := false } }
    let b := rx.bytes
    let header := decide (4 ≤ b.length)
    if s.host.sleep then
      (if rx.clocks = 0 then ok s else ok (s.frameLost hostsShortCount 7 true))
    else if !header then ok (s.frameLost hostsShortCount 2 false)
    else if !headerOk b then ok (s.frameLost hostsHdrErrCount 6 true)
    else if rx.clocks < hfClocks b then ok (s.frameLost hostsShortCount 2 true)
    else if hfClocks b < rx.clocks then ok (s.frameLost hostsOverlongCount 3 true)
    else ok (s.frameComplete b)

/-! ### Sleep and wake (R372, R373) -/

/-- The link wakes, with EV 0x76. -/
def State.hostWakes (s : State) (how : Nat) : State :=
  let s := s.hostNote
  let s := { s with host := { s.host with sleep := false, inFrame := false, woke := true } }.bump16 hostsWakeCount
  s.raise 17 0x76 255 false [BitVec.ofNat 8 how, BitVec.ofNat 8 s.host.wakeReason]

/-- HOST_RESUME (R372, R373): HCS_N rises after a time low without a clock; below 1 µs it is ignored. A resume that had begun when the wake
window opened is a collision, one inside the window answers the device wake. -/
def execHostResume (lowNs : Nat) (s : State) : Outcome State Fault Refusal :=
  if !s.hostRuns || !s.host.sleep then ok s
  else
    let s := { s with host := { s.host with inFrame := false } }
    if lowNs < 1000 then ok s
    else if !s.host.wakeOpen then ok (s.hostWakes 1)
    else if s.now ≤ s.host.wakeAt + lowNs / 10 then ok ((s.bump16 hostsCollisionCount).hostWakes 3)
    else ok (s.hostWakes 2)

/-- DEVICE_WAKE (R372): in link sleep an enabled condition is present. -/
def execDeviceWake (s : State) : Outcome State Fault Refusal :=
  let s := s.hostNote
  if s.hostRuns && s.host.sleep && !s.host.wakeOpen && s.wakeWanted then ok s.wakeWindow else ok s

/-- TELEM_IRQ_AGE_EXPIRE (R369): a stream has held a record for longer than TELEM_IRQ_AGE; TELEM_PENDING follows the records themselves, and in
link sleep the condition joins WAKE_REASON and may wake the host. -/
def execTelemIrqAgeExpire (k : Fin 32) (s : State) : Outcome State Fault Refusal :=
  if !s.hostRuns || !s.streamDue k then ok s
  else
    let s := s.hostNote
    if s.host.sleep && !s.host.wakeOpen && bitOf (s.act hostHostWakeMask) 1 then ok s.wakeWindow else ok s

end Sys2Proof.Machine
end

