-- ==== Sys2Proof/Machine/Islands.lean ====
section
/-! DEFINITION. Islands that fail and return (R31 to R33, Table 1-4), and the VIO banks (R468). -/
namespace Sys2Proof.Machine

open Host

/-! ### The effects of Table 1-4 -/

/-- The telemetry island: streams resume from an empty ring; a condition that was present in link sleep stays in WAKE_REASON (R373). -/
def State.telemetryFails (s : State) : State :=
  s.hostNote.each (List.range 32) (fun s k => s.setStream k { s.stream k with runs := [], ring := [] })

/-- The program operation in progress ends after a number of commit markers that the spec leaves open (log 3). -/
def State.programBreaks (s : State) : State :=
  match s.nv.program with
  | none => s
  | some o =>
    let k := (Config.freeValue s.draws).toNat % (granulesOf o.addr o.data.length).length
    let t := (({ s with draws := s.draws + 1 }.tear o k).foundTorn o.addr o.data.length)
    let t := { t with nv := { t.nv with program := none } }
    match t.log.writing with
    | some (_, d) => t.drawerTorn d
    | none => t

/-- The NV island: open operations end as interrupted ones, the erase stays open in the journal, and what waits is lost; staged drawers
stay, to be committed late (R253). -/
def State.nvFails (s : State) : State :=
  let s := s.programBreaks.holdDrawers
  { s with nv := { s.nv with queue := [], erase := none, eraseRun := 0, suspended := false, verifyFail := 0 },
           log := { s.log with command := 0, left := [] } }

/-- The drive island: all outputs off, and CL7 loses a drive carrier that it locks to (R72). -/
def State.driveFails (s : State) : State :=
  let src := s.act (clLockSource 7)
  let locks := s.committed && src != 0 && s.act (clWindowMode 7) == 1
  let s := s.each (List.range 4) (fun s d => s.driveSync d)
  if locks then s.lockFalls (s.carrierPs (src - 1)) else s

/-- The two-wire island: the ports stop, PEER and SVC with them. A transaction on a bus is discarded; a shut-off command is made again at the next
turn. -/
def State.twoWireFails (s : State) : State :=
  (s.setPort 8 {}).setPort svcPort {} |>.each (List.range 8) (fun s n =>
    let x := s.port n
    let keep : List PsTx := match x.busy with
      | some t => (match t.why with
        | .shutoff _ => [{ t with page := 255, paging := false }]
        | _ => [])
      | none => []
    s.setPort n { x with busy := none, queue := keep ++ x.queue, recovering := false, sdaLow := false })

/-- The host link: the frame in progress is discarded whole (R31, R33). -/
def State.hostFails (s : State) : State := { s with host := { s.host with inFrame := false } }

/-- What the failure of an island of domains 10 to 18 does (Table 1-4). The islands of CAN0, CAN1 and T1S are silent while they are marked.
A management reset that comes from such a failure has no code in Table 11-4: by the model's choice LAST_MGMT_RESET and EV 0x51 keep the
code of the reset before (log 24). -/
def State.islandFails (s : State) (d : Nat) : State :=
  let s := { s with islandBad := s.islandBad.insert d }
  match d with
  | 10 => s.mgmtReset (s.reg supLastMgmtReset)
  | 11 => s.telemetryFails
  | 12 => s.nvFails
  | 13 => s.driveFails
  | 17 => s.hostFails
  | 18 => s.twoWireFails
  | _ => s

/-- An island fails unless it has failed already. -/
def State.failOnce (s : State) (d : Nat) : State := if s.islandBad.contains d then s else s.islandFails d

/-! ### The commands (R31, R32) -/

/-- HANDSHAKE_STALL (R31): the island is stalled, and isolated until it is ready again. A cluster that is stalled is lost like one without its
clock (Table 1-4); from a stalled Hutch no frame pulse comes and no latch entry reaches it. -/
def execHandshakeStall (i : Island) (s : State) : Outcome State Fault Refusal :=
  let d := islandDom i
  if s.stalled.contains d then ok s
  else
    let s := { s with stalled := s.stalled.insert d }
    match i with
    | .cl n => if (s.cluster n).clockLost then ok s else ok (s.clockLoss n)
    | .hutch => ok (s.bump16 diagIslandFaultCount)
    | _ => ok ((s.bump16 diagIslandFaultCount).failOnce d)

/-- ISLAND_CLOCK_FAULT (R32): islands 9 to 18 have monitors; EV 0x16, also of an island that has stalled before. The Hutch's is that of its
crystal, whose place the internal RC takes. The loss of a cluster's clock is CLUSTER_CLOCK_LOSS. -/
def execIslandClockFault (i : Island) (s : State) : Outcome State Fault Refusal :=
  let d := islandDom i
  match i with
  | .cl _ => ok s
  | .hutch =>
    if !s.supply.xtalOk then ok s
    else
      ok (({ s with supply := { s.supply with xtalOk := false, rtcDegraded := true } }.bump16 diagIslandFaultCount).raise 9 0x16 255 false [9])
  | _ =>
    if s.supply.clockBad.contains d then ok s
    else
      let s := { s with stalled := s.stalled.insert d, supply := { s.supply with clockBad := s.supply.clockBad.insert d } }
      ok (((s.bump16 diagIslandFaultCount).failOnce d).raise 9 0x16 255 false [BitVec.ofNat 8 d])

/-- The drive island is back: fault 4 in every enabled drive, with RUN 0 (Table 17-1); its carriers run from now on (R72). -/
def State.driveReturns (s : State) : State :=
  s.carriersBegin.each ((List.range 4).filter (fun d => s.act (drvEnable d) == 1)) (fun s d =>
    ((s.setReg (drvcRun d) 0).setDrive d { s.drive d with carrierAt := s.now, begun := 0, periods := 0 }).driveFault d 4)

/-- ISLAND_READY (R31): the island has been reset and has signalled ready; the events that it holds cross now (R24). A cluster's clock is back
no earlier than R124 has it. -/
def execIslandReady (i : Island) (s : State) : Outcome State Fault Refusal :=
  let d := islandDom i
  if !s.stalled.contains d then ok s
  else
    let s := { s with stalled := s.stalled.filter (fun x => x != d), islandBad := s.islandBad.filter (fun x => x != d),
                      supply := { s.supply with clockBad := s.supply.clockBad.filter (fun x => x != d) } }
    let s := if s.mgmtDown then s else s.deliverQueue d
    match i with
    | .cl n => if s.mayReturn n then ok (s.clockBack n) else ok s
    | .drive => ok s.driveReturns
    | _ => ok s

/-! ### VIO banks (R468, Table 19-5) -/

/-- Number of a bank: 0 to 3 for VIO_A to VIO_D. -/
def vioNum : VioBank → Nat
  | .vioA => 0
  | .vioB => 1
  | .vioC => 2
  | .vioD => 3

/-- The enables of a bank. -/
def bankEnables (n : Nat) : List Nat := if n < 2 then (List.range 128).map (fun i => 128 * n + i) else []

/-- VIO_BANK_LOSS (R468): the pins are at high impedance, and the latches of R132 in the bank lose their content. -/
def execVioBankLoss (b : VioBank) (s : State) : Outcome State Fault Refusal :=
  let n := vioNum b
  let s := { s with vioLost := s.vioLost.insert n }
  ok (s.each (bankEnables n) (fun s e => s.setEn e { s.en e with configured := false, mode := 0, polarity := 0 }))

/-- VIO_BANK_RETURN (R468): the latches take the committed mode and polarity, and each enable the level that its partition and its actions
give. -/
def execVioBankReturn (b : VioBank) (s : State) : Outcome State Fault Refusal :=
  let n := vioNum b
  let s := { s with vioLost := s.vioLost.filter (fun x => x != n) }
  if !s.committed then ok s
  else
    ok (s.each ((bankEnables n).filter (fun e => s.act (chEnMode e) != 0)) (fun s e =>
      s.modeEn e))

end Sys2Proof.Machine
end

