-- ==== Sys2Proof/Machine/Dispatch.lean ====
section
/-! DEFINITION. The dispatch of the commands: one arm for each row of the opcode table, each one direct call of its meaning. -/
namespace Sys2Proof.Machine

def exec (i : Instr) (s : State) : Host.Outcome State Fault Refusal :=
  match i with
  | .commit r fabricOk => Sys2Proof.Machine.execCommit r fabricOk s
  | .commitDiscard r => Sys2Proof.Machine.execCommitDiscard r s
  | .partitionCommit r p fabricOk => Sys2Proof.Machine.execPartitionCommit r p fabricOk s
  | .partitionCommitDiscard r p => Sys2Proof.Machine.execPartitionCommitDiscard r p s
  | .commitQueueStart fabricOk => Sys2Proof.Machine.execCommitQueueStart fabricOk s
  | .swap => Sys2Proof.Machine.execSwap s
  | .commitAbandon part hw => Sys2Proof.Machine.execCommitAbandon part hw s
  | .framePulse => Sys2Proof.Machine.execFramePulse s
  | .referenceFail => Sys2Proof.Machine.execReferenceFail s
  | .timeFreeClear => Sys2Proof.Machine.execTimeFreeClear s
  | .handshakeStall isl => Sys2Proof.Machine.execHandshakeStall isl s
  | .islandClockFault isl => Sys2Proof.Machine.execIslandClockFault isl s
  | .islandReady isl => Sys2Proof.Machine.execIslandReady isl s
  | .mgmtResume => Sys2Proof.Machine.execMgmtResume s
  | .windowExit c x => Sys2Proof.Machine.execWindowExit c x s
  | .windowEnter x => Sys2Proof.Machine.execWindowEnter x s
  | .settleTimeExpire c => Sys2Proof.Machine.execSettleTimeExpire c s
  | .deadlineExpire c => Sys2Proof.Machine.execDeadlineExpire c s
  | .clear r c v => Sys2Proof.Machine.execClear r c v s
  | .sliceResult c visit => Sys2Proof.Machine.execSliceResult c visit s
  | .epochEnd n => Sys2Proof.Machine.execEpochEnd n s
  | .spareCalibrationDone n cal => Sys2Proof.Machine.execSpareCalibrationDone n cal s
  | .sliceHwFault n k => Sys2Proof.Machine.execSliceHwFault n k s
  | .openWireTest n g => Sys2Proof.Machine.execOpenWireTest n g s
  | .openWireResult c first second => Sys2Proof.Machine.execOpenWireResult c first second s
  | .lockFallback period => Sys2Proof.Machine.execLockFallback period s
  | .lockResume => Sys2Proof.Machine.execLockResume s
  | .syncoutRestart => Sys2Proof.Machine.execSyncoutRestart s
  | .dischargeEnd p => Sys2Proof.Machine.execDischargeEnd p s
  | .trFltReceive n => Sys2Proof.Machine.execTrFltReceive n s
  | .fltPulseEnd n => Sys2Proof.Machine.execFltPulseEnd n s
  | .fltStuck n => Sys2Proof.Machine.execFltStuck n s
  | .fltStuckClear n => Sys2Proof.Machine.execFltStuckClear n s
  | .clusterClockLoss n => Sys2Proof.Machine.execClusterClockLoss n s
  | .clusterClockBack n => Sys2Proof.Machine.execClusterClockBack n s
  | .retryDue p => Sys2Proof.Machine.execRetryDue p s
  | .restart r p v => Sys2Proof.Machine.execRestart r p v s
  | .forceOff r p v => Sys2Proof.Machine.execForceOff r p v s
  | .safeNRelease => Sys2Proof.Machine.execSafeNRelease s
  | .barrierAdvance n => Sys2Proof.Machine.execBarrierAdvance n s
  | .guardEnd n => Sys2Proof.Machine.execGuardEnd n s
  | .goal r n v => Sys2Proof.Machine.execGoal r n v s
  | .start r p v => Sys2Proof.Machine.execStart r p v s
  | .stop r p v => Sys2Proof.Machine.execStop r p v s
  | .startPendingRelease p => Sys2Proof.Machine.execStartPendingRelease p s
  | .actionArm e => Sys2Proof.Machine.execActionArm e s
  | .actionIssue e => Sys2Proof.Machine.execActionIssue e s
  | .actionComplete e => Sys2Proof.Machine.execActionComplete e s
  | .actionTimeout e => Sys2Proof.Machine.execActionTimeout e s
  | .armCapture r u v => Sys2Proof.Machine.execArmCapture r u v s
  | .captureOccurrence u start => Sys2Proof.Machine.execCaptureOccurrence u start s
  | .captureLimit u => Sys2Proof.Machine.execCaptureLimit u s
  | .groupReset r n v => Sys2Proof.Machine.execGroupReset r n v s
  | .discoveryBegin => Sys2Proof.Machine.execDiscoveryBegin s
  | .announceSend => Sys2Proof.Machine.execAnnounceSend s
  | .announce msg => Sys2Proof.Machine.execAnnounce msg s
  | .discoveryClose => Sys2Proof.Machine.execDiscoveryClose s
  | .presenceSend => Sys2Proof.Machine.execPresenceSend s
  | .presence msg => Sys2Proof.Machine.execPresence msg s
  | .stateSend n sent => Sys2Proof.Machine.execStateSend n sent s
  | .state msg => Sys2Proof.Machine.execState msg s
  | .stateCheckTimeout n => Sys2Proof.Machine.execStateCheckTimeout n s
  | .tsyncPulse => Sys2Proof.Machine.execTsyncPulse s
  | .tsyncEdge => Sys2Proof.Machine.execTsyncEdge s
  | .sync msg => Sys2Proof.Machine.execSync msg s
  | .ack msg => Sys2Proof.Machine.execAck msg s
  | .tsyncLost => Sys2Proof.Machine.execTsyncLost s
  | .releaseSend => Sys2Proof.Machine.execReleaseSend s
  | .release msg => Sys2Proof.Machine.execRelease msg s
  | .releaseResend => Sys2Proof.Machine.execReleaseResend s
  | .startupHoldLift => Sys2Proof.Machine.execStartupHoldLift s
  | .peerLost d => Sys2Proof.Machine.execPeerLost d s
  | .subIntervalEnd => Sys2Proof.Machine.execSubIntervalEnd s
  | .reliefEvaluate => Sys2Proof.Machine.execReliefEvaluate s
  | .tableSelect r v => Sys2Proof.Machine.execTableSelect r v s
  | .scheduleMatch => Sys2Proof.Machine.execScheduleMatch s
  | .demandIntervalEnd => Sys2Proof.Machine.execDemandIntervalEnd s
  | .ledgerRecordWrite => Sys2Proof.Machine.execLedgerRecordWrite s
  | .dapRequest arrival hw => Sys2Proof.Machine.execDapRequest arrival hw s
  | .registerWrite r idx sub val => Sys2Proof.Machine.execRegisterWrite r idx sub val s
  | .eventNext k => Sys2Proof.Machine.execEventNext k s
  | .eventRaise src ev => Sys2Proof.Machine.execEventRaise src ev s
  | .eventSubscribe k v => Sys2Proof.Machine.execEventSubscribe k v s
  | .eventFrameSend k => Sys2Proof.Machine.execEventFrameSend k s
  | .canFrameReceive k fd id data => Sys2Proof.Machine.execCanFrameReceive k fd id data s
  | .t1sFrameReceive eth => Sys2Proof.Machine.execT1sFrameReceive eth s
  | .segTimeout link ep tid => Sys2Proof.Machine.execSegTimeout link ep tid s
  | .sessionIdle k => Sys2Proof.Machine.execSessionIdle k s
  | .linkDown link cause => Sys2Proof.Machine.execLinkDown link cause s
  | .linkUp link => Sys2Proof.Machine.execLinkUp link s
  | .busoffRecovery k => Sys2Proof.Machine.execBusoffRecovery k s
  | .hostTimeout p => Sys2Proof.Machine.execHostTimeout p s
  | .tc10SleepRequest => Sys2Proof.Machine.execTc10SleepRequest s
  | .tc10WakeUp => Sys2Proof.Machine.execTc10WakeUp s
  | .telemFrameSend k => Sys2Proof.Machine.execTelemFrameSend k s
  | .spiFrameStart mode3 => Sys2Proof.Machine.execSpiFrameStart mode3 s
  | .spiFrameEnd rx => Sys2Proof.Machine.execSpiFrameEnd rx s
  | .nop => Sys2Proof.Machine.execNop s
  | .dap frame => Sys2Proof.Machine.execDap frame s
  | .sleepLink => Sys2Proof.Machine.execSleepLink s
  | .hostResume lowNs => Sys2Proof.Machine.execHostResume lowNs s
  | .deviceWake => Sys2Proof.Machine.execDeviceWake s
  | .telemIrqAgeExpire k => Sys2Proof.Machine.execTelemIrqAgeExpire k s
  | .pmbusTrimPeriod c => Sys2Proof.Machine.execPmbusTrimPeriod c s
  | .marginApply r p => Sys2Proof.Machine.execMarginApply r p s
  | .marginRemove r p => Sys2Proof.Machine.execMarginRemove r p s
  | .benchStart r p => Sys2Proof.Machine.execBenchStart r p s
  | .benchAbort r p => Sys2Proof.Machine.execBenchAbort r p s
  | .benchSettled p => Sys2Proof.Machine.execBenchSettled p s
  | .benchSettleTimeout p => Sys2Proof.Machine.execBenchSettleTimeout p s
  | .benchDwellEnd p => Sys2Proof.Machine.execBenchDwellEnd p s
  | .verdictPass r p => Sys2Proof.Machine.execVerdictPass r p s
  | .verdictFail r p => Sys2Proof.Machine.execVerdictFail r p s
  | .verdictTimeout p => Sys2Proof.Machine.execVerdictTimeout p s
  | .maintenanceWaitStart => Sys2Proof.Machine.execMaintenanceWaitStart s
  | .activationWaitTimeout => Sys2Proof.Machine.execActivationWaitTimeout s
  | .latchEntryArrive p n => Sys2Proof.Machine.execLatchEntryArrive p n s
  | .mergeWindowEnd p => Sys2Proof.Machine.execMergeWindowEnd p s
  | .drawerCommit => Sys2Proof.Machine.execDrawerCommit s
  | .drawerReadback found => Sys2Proof.Machine.execDrawerReadback found s
  | .eraseOldest r => Sys2Proof.Machine.execEraseOldest r s
  | .eraseAll r => Sys2Proof.Machine.execEraseAll r s
  | .verifyAll r senses => Sys2Proof.Machine.execVerifyAll r senses s
  | .drawerRead r k d sense => Sys2Proof.Machine.execDrawerRead r k d sense s
  | .thermalSample own => Sys2Proof.Machine.execThermalSample own s
  | .driveWaitExpire => Sys2Proof.Machine.execDriveWaitExpire s
  | .chatterClear => Sys2Proof.Machine.execChatterClear s
  | .neighbourPoll readings => Sys2Proof.Machine.execNeighbourPoll readings s
  | .noSample => Sys2Proof.Machine.execNoSample s
  | .vauxValid => Sys2Proof.Machine.execVauxValid s
  | .powerUp start hw => Sys2Proof.Machine.execPowerUp start hw s
  | .vcoreStartTimeout => Sys2Proof.Machine.execVcoreStartTimeout s
  | .vcoreFault => Sys2Proof.Machine.execVcoreFault s
  | .vcoreRecovery => Sys2Proof.Machine.execVcoreRecovery s
  | .powerLossWarning => Sys2Proof.Machine.execPowerLossWarning s
  | .warningWithdrawn => Sys2Proof.Machine.execWarningWithdrawn s
  | .supplySwitchover falling => Sys2Proof.Machine.execSupplySwitchover falling s
  | .continuityLoss => Sys2Proof.Machine.execContinuityLoss s
  | .bkupLow low => Sys2Proof.Machine.execBkupLow low s
  | .retainedCopy => Sys2Proof.Machine.execRetainedCopy s
  | .mrN lowNs => Sys2Proof.Machine.execMrN lowNs s
  | .lockstepMismatch => Sys2Proof.Machine.execLockstepMismatch s
  | .watchdog => Sys2Proof.Machine.execWatchdog s
  | .resetRequestMgmt r => Sys2Proof.Machine.execResetRequestMgmt r s
  | .resetRequestPower r => Sys2Proof.Machine.execResetRequestPower r s
  | .pbRelease lowMs => Sys2Proof.Machine.execPbRelease lowMs s
  | .longPress => Sys2Proof.Machine.execLongPress s
  | .lpPowerCycle => Sys2Proof.Machine.execLpPowerCycle s
  | .rtcAlarm => Sys2Proof.Machine.execRtcAlarm s
  | .canWake highUs => Sys2Proof.Machine.execCanWake highUs s
  | .sleep r v => Sys2Proof.Machine.execSleep r v s
  | .rtc r v => Sys2Proof.Machine.execRtc r v s
  | .bootRetry hw => Sys2Proof.Machine.execBootRetry hw s
  | .ownerInit r val => Sys2Proof.Machine.execOwnerInit r val s
  | .keyLoad r val => Sys2Proof.Machine.execKeyLoad r val s
  | .debugChallenge r => Sys2Proof.Machine.execDebugChallenge r s
  | .debugResponse r val => Sys2Proof.Machine.execDebugResponse r val s
  | .debugLock r v => Sys2Proof.Machine.execDebugLock r v s
  | .attestRequest r k val sense => Sys2Proof.Machine.execAttestRequest r k val sense s
  | .rollbackAdvance => Sys2Proof.Machine.execRollbackAdvance s
  | .debugPortRequest q => Sys2Proof.Machine.execDebugPortRequest q s
  | .shelfErase r k => Sys2Proof.Machine.execShelfErase r k s
  | .shelfData r k data => Sys2Proof.Machine.execShelfData r k data s
  | .shelfSeal r k sense => Sys2Proof.Machine.execShelfSeal r k sense s
  | .switch r v hw => Sys2Proof.Machine.execSwitch r v hw s
  | .pselChange v hw => Sys2Proof.Machine.execPselChange v hw s
  | .psTurn n => Sys2Proof.Machine.execPsTurn n s
  | .psTransactionEnd n result data => Sys2Proof.Machine.execPsTransactionEnd n result data s
  | .psStretchTimeout n => Sys2Proof.Machine.execPsStretchTimeout n s
  | .sclReleased n sda => Sys2Proof.Machine.execSclReleased n sda s
  | .lineStuck n => Sys2Proof.Machine.execLineStuck n s
  | .lineStuckClear n => Sys2Proof.Machine.execLineStuckClear n s
  | .psBusError n => Sys2Proof.Machine.execPsBusError n s
  | .attentionRequest n reply => Sys2Proof.Machine.execAttentionRequest n reply s
  | .svcWrite addr bytes => Sys2Proof.Machine.execSvcWrite addr bytes s
  | .svcRead addr count => Sys2Proof.Machine.execSvcRead addr count s
  | .submitDap w => Sys2Proof.Machine.execSubmitDap w s
  | .submitService w => Sys2Proof.Machine.execSubmitService w s
  | .windowClear w => Sys2Proof.Machine.execWindowClear w s
  | .dropHead w => Sys2Proof.Machine.execDropHead w s
  | .svcAttention => Sys2Proof.Machine.execSvcAttention s
  | .peerReadRequest bytes => Sys2Proof.Machine.execPeerReadRequest bytes s
  | .peerReadResult => Sys2Proof.Machine.execPeerReadResult s
  | .peerArbitrationLoss addressed => Sys2Proof.Machine.execPeerArbitrationLoss addressed s
  | .eraseRedo => Sys2Proof.Machine.execEraseRedo s
  | .nvProgram => Sys2Proof.Machine.execNvProgram s
  | .nvErase => Sys2Proof.Machine.execNvErase s
  | .eraseSuspend => Sys2Proof.Machine.execEraseSuspend s
  | .eraseResume => Sys2Proof.Machine.execEraseResume s
  | .eraseDone verified => Sys2Proof.Machine.execEraseDone verified s
  | .nvInterrupt done => Sys2Proof.Machine.execNvInterrupt done s
  | .scrubRead sense => Sys2Proof.Machine.execScrubRead sense s
  | .memRead r k sense => Sys2Proof.Machine.execMemRead r k sense s
  | .memWrite r k data => Sys2Proof.Machine.execMemWrite r k data s
  | .memErase r addr => Sys2Proof.Machine.execMemErase r addr s
  | .memAddr r k addr => Sys2Proof.Machine.execMemAddr r k addr s
  | .fwErase r => Sys2Proof.Machine.execFwErase r s
  | .fwData r data => Sys2Proof.Machine.execFwData r data s
  | .fwSeal r => Sys2Proof.Machine.execFwSeal r s
  | .fwActivate r => Sys2Proof.Machine.execFwActivate r s
  | .fwAbandon r => Sys2Proof.Machine.execFwAbandon r s
  | .carrierPeriod d => Sys2Proof.Machine.execCarrierPeriod d s
  | .positionRead d rd => Sys2Proof.Machine.execPositionRead d rd s
  | .standstill d => Sys2Proof.Machine.execStandstill d s
  | .driveOvercurrent c => Sys2Proof.Machine.execDriveOvercurrent c s
  | .driveStall d => Sys2Proof.Machine.execDriveStall d s
  | .run r d v => Sys2Proof.Machine.execRun r d v s
  | .clearFault r d v => Sys2Proof.Machine.execClearFault r d v s
  | .vioBankLoss b => Sys2Proof.Machine.execVioBankLoss b s
  | .vioBankReturn b => Sys2Proof.Machine.execVioBankReturn b s
  | .stale c => Sys2Proof.Machine.execStale c s

end Sys2Proof.Machine
end

