-- ==== Sys2Proof/Machine/Tick.lean ====
section
/-! DEFINITION. The passing of time (log 1): what the end of a tick brings, and the next one. -/
namespace Sys2Proof.Machine

/-- What passes when no command waits (log 1): the moves that the sweeps owe this tick are made (R241), the pins are judged (R310) and a peer's
request is executed (R404). Then one cycle of the crystal passes in BACKUP, else one tick. A swap is made in the tick that brings it (R16), and a
batch goes on (R326, R327). -/
def State.tick (s : State) : State := s.benchTurn.pinsTurn.peerTurn.timePasses.swapIfDue.batchTurn

end Sys2Proof.Machine
end

