-- ==== Sys2Proof/Machine/Pins.lean ====
section
/-! DEFINITION. The levels that the device gives to its output pins: in operation, in low power, before the first commit and under the VCORE
clamp (R45, R74, R118, R130, R169, R367, R428, R468, R473, Table 19-10). -/
namespace Sys2Proof.Machine

/-- The VIO bank of an output pin (Table 19-5); none: the pin lies in the Hutch bank. -/
def Pin.bank : Pin → Option Nat
  | .en e => some (e.val / 128)
  | .drv _ _ _ | .posClk _ => some 3
  | .enCore => none
  | _ => some 2

/-- The VCORE islands run, or start without the clamp of R132: the power state is STARTING or ACTIVE. -/
def State.pinsLive (s : State) : Bool := !s.supply.clamp && (s.supply.power == .starting || s.supply.power == .active)

/-- A level driven both ways. -/
def pinLevel (high : Bool) : PinDrive := if high then .high else .low

/-- An open-drain pin: driven low, or released. -/
def pinPull (low : Bool) : PinDrive := if low then .low else .released

/-- What the device does at an output pin. A pin whose bank is lost is at high impedance (R468). SAFE_N and SYNCOUT are low wherever no
configuration is committed (R76, R130). TR_STEPn is held low for every reason of R169, and from the moment
the VCORE islands leave reset; the leader pulls TR_TSYNC low for 1 µs from its pulse (R185). POSn_CLK rests high in STARTING
and ACTIVE (R434, Table 19-10). -/
def State.pin (s : State) (p : Pin) : PinDrive :=
  if p.bank.any s.vioLost.contains then .released
  else match p with
    | .en e => s.enPin e
    | .syncout n => pinLevel (s.syncHigh n)
    | .drv d i high => pinLevel (s.driveOut d i high)
    | .posClk _ => pinLevel s.pinsLive
    | .safeN => pinPull (!s.safeN)
    | .trStep g => pinPull (s.supply.vcore && (!s.committed || s.holdReasons g != 0))
    | .trFlt g => pinPull (s.supply.vcore && (s.group g).fltDrive.isSome)
    | .trTsync => pinPull (s.supply.vcore && s.trestle.pulseAt.any (fun t => decide (s.now < t + usTicks 1)))
    | .hirqN => pinPull s.hirqLow
    | .canTx _ => if s.pinsLive then .high else .released
    | .enCore => pinLevel s.supply.enCore

/-- TRM output t drives its feedback node; else it is at high impedance behind its reset pull (R229, Table 19-10). -/
def State.trmDrives (s : State) (t : Nat) : Bool := s.supply.vcore && (s.trim t).loop != .hiZ

end Sys2Proof.Machine
end

