-- ==== Sys2Proof/Safety.lean ====
section
/-! DEFINITION. The terms the statements use: what a command answers, what a statement leaves of the rest of the state, and what counts as
a safe state. -/
namespace Sys2Proof.Machine

/-! ### What a command answers -/

/-- A step that neither faults nor refuses. -/
def Goes (o : Host.Outcome State Fault Refusal) : Prop := ∃ s', o = .next s'

/-- The command completes: its meaning answers a next state, and that state has a property. -/
def Answers (c : Instr) (s : State) (P : State → Prop) : Prop := ∃ t, exec c s = .next t ∧ P t

/-! ### Frames -/

/-- Every register keeps its value but those of a list. -/
def RegsBut (s t : State) (l : List Nat) : Prop := ∀ k, k ∉ l → t.reg k = s.reg k

/-- Every unit of a kind (a channel, a partition, a group …) is as it was but those of a list of numbers. -/
def AllBut {α : Type} (f g : Nat → α) (l : List Nat) : Prop := ∀ k, k ∉ l → g k = f k

/-- The parts of the state that a frame names: one for each field, and `events` for the event ring, the queues of the islands, and what the
sessions hold of events. -/
inductive Fld where
  | pending
  | status
  | reply
  | now
  | timeFree
  | refFailAt
  | active
  | prior
  | shadow
  | regs
  | retained
  | committed
  | sets
  | armed
  | queueC
  | switchSt
  | chans
  | ens
  | trims
  | clusters
  | latches
  | parts
  | groups
  | actions
  | caps
  | mgmtDown
  | stalled
  | islandBad
  | fabricFault
  | safeN
  | vioLost
  | later
  | sessions
  | sessNext
  | asms
  | inbox
  | waits
  | outFrames
  | downs
  | t1sSleep
  | keys
  | streams
  | ports
  | entries
  | svc
  | peerOut
  | peerTries
  | peerReq
  | peerReqsAt
  | drives
  | trestle
  | thermal
  | supply
  | ledger
  | log
  | nv
  | host
  | sec
  | flash
  | granules
  | sectors
  | waitMaint
  | fwWaitAt
  | draws
  | events
  deriving DecidableEq, Repr

/-- A session without what it holds of events (R332, R352). -/
def Session.noEvents (x : Session) : Session := { x with evOut := [], evGap := false, nextSeen := true }

/-- The state with some parts blanked out. -/
def State.but (s : State) (l : List Fld) : State :=
  { pending := if Fld.pending ∈ l then [] else s.pending,
    status := if Fld.status ∈ l then 0 else s.status,
    reply := if Fld.reply ∈ l then [] else s.reply,
    now := if Fld.now ∈ l then 0 else s.now,
    timeFree := if Fld.timeFree ∈ l then false else s.timeFree,
    refFailAt := if Fld.refFailAt ∈ l then none else s.refFailAt,
    active := if Fld.active ∈ l then [] else s.active,
    prior := if Fld.prior ∈ l then [] else s.prior,
    shadow := if Fld.shadow ∈ l then [] else s.shadow,
    regs := if Fld.regs ∈ l then [] else s.regs,
    retained := if Fld.retained ∈ l then [] else s.retained,
    committed := if Fld.committed ∈ l then false else s.committed,
    sets := if Fld.sets ∈ l then [] else s.sets,
    armed := if Fld.armed ∈ l then none else s.armed,
    queueC := if Fld.queueC ∈ l then [] else s.queueC,
    switchSt := if Fld.switchSt ∈ l then 0 else s.switchSt,
    chans := if Fld.chans ∈ l then [] else s.chans,
    ens := if Fld.ens ∈ l then [] else s.ens,
    trims := if Fld.trims ∈ l then [] else s.trims,
    clusters := if Fld.clusters ∈ l then [] else s.clusters,
    latches := if Fld.latches ∈ l then [] else s.latches,
    parts := if Fld.parts ∈ l then [] else s.parts,
    groups := if Fld.groups ∈ l then [] else s.groups,
    actions := if Fld.actions ∈ l then [] else s.actions,
    caps := if Fld.caps ∈ l then [] else s.caps,
    mgmtDown := if Fld.mgmtDown ∈ l then false else s.mgmtDown,
    stalled := if Fld.stalled ∈ l then [] else s.stalled,
    islandBad := if Fld.islandBad ∈ l then [] else s.islandBad,
    fabricFault := if Fld.fabricFault ∈ l then false else s.fabricFault,
    safeN := if Fld.safeN ∈ l then false else s.safeN,
    vioLost := if Fld.vioLost ∈ l then [] else s.vioLost,
    evRing := if Fld.events ∈ l then [] else s.evRing,
    evNext := if Fld.events ∈ l then 0 else s.evNext,
    ev04At := if Fld.events ∈ l then none else s.ev04At,
    evQueues := if Fld.events ∈ l then [] else s.evQueues,
    evQueueGap := if Fld.events ∈ l then [] else s.evQueueGap,
    later := if Fld.later ∈ l then [] else s.later,
    sessions := if Fld.sessions ∈ l then [] else if Fld.events ∈ l then onSessions s.sessions Session.noEvents else s.sessions,
    sessNext := if Fld.sessNext ∈ l then 0 else s.sessNext,
    asms := if Fld.asms ∈ l then [] else s.asms,
    inbox := if Fld.inbox ∈ l then [] else s.inbox,
    waits := if Fld.waits ∈ l then [] else s.waits,
    outFrames := if Fld.outFrames ∈ l then [] else s.outFrames,
    downs := if Fld.downs ∈ l then [] else s.downs,
    t1sSleep := if Fld.t1sSleep ∈ l then false else s.t1sSleep,
    keys := if Fld.keys ∈ l then [] else s.keys,
    streams := if Fld.streams ∈ l then [] else s.streams,
    ports := if Fld.ports ∈ l then [] else s.ports,
    entries := if Fld.entries ∈ l then [] else s.entries,
    svc := if Fld.svc ∈ l then [] else s.svc,
    peerOut := if Fld.peerOut ∈ l then [] else s.peerOut,
    peerTries := if Fld.peerTries ∈ l then 0 else s.peerTries,
    peerReq := if Fld.peerReq ∈ l then none else s.peerReq,
    peerReqsAt := if Fld.peerReqsAt ∈ l then [] else s.peerReqsAt,
    drives := if Fld.drives ∈ l then [] else s.drives,
    trestle := if Fld.trestle ∈ l then {} else s.trestle,
    thermal := if Fld.thermal ∈ l then {} else s.thermal,
    supply := if Fld.supply ∈ l then {} else s.supply,
    ledger := if Fld.ledger ∈ l then {} else s.ledger,
    log := if Fld.log ∈ l then {} else s.log,
    nv := if Fld.nv ∈ l then {} else s.nv,
    host := if Fld.host ∈ l then {} else s.host,
    sec := if Fld.sec ∈ l then {} else s.sec,
    flash := if Fld.flash ∈ l then [] else s.flash,
    granules := if Fld.granules ∈ l then [] else s.granules,
    sectors := if Fld.sectors ∈ l then [] else s.sectors,
    waitMaint := if Fld.waitMaint ∈ l then [] else s.waitMaint,
    fwWaitAt := if Fld.fwWaitAt ∈ l then none else s.fwWaitAt,
    draws := if Fld.draws ∈ l then 0 else s.draws }

/-- The frame of a command: nothing but the listed parts of the state differs. -/
def Same (l : List Fld) (s t : State) : Prop := t.but l = s.but l

/-- The registers in which an item is counted (Tables 12-17 and 12-18). -/
def itemKeys (r : Role) : List Nat :=
  [diagRequestCount, diagRefusedCount, diagLastRefusal] ++
  match r with
  | .partition p => [diagpPRequests p, diagpPRefused p, diagpPLastRefusal p]
  | _ => []

/-- A dictionary command ends with a status code: it is counted for its role, and beside that only the listed parts and registers differ. -/
def ItemEnds (r : Role) (l : List Fld) (ks : List Nat) (s t : State) (st : Nat) : Prop :=
  Same ([.regs, .status, .reply] ++ l) s t ∧ RegsBut s t (ks ++ itemKeys r) ∧ t.status = st

/-- A record of an event that is on record now, with the device time of the island that raised it: in the ring of the management plane. -/
def State.recorded (t : State) (dom code part : Nat) (clear : Bool) (param : Bytes) : Prop :=
  ∃ e ∈ t.evRing, e.source = dom ∧ e.code = code ∧ e.part = part ∧ e.clear = clear ∧ e.param = param ∧ e.stamp = t.islandTime dom

/-- An event of an island reaches the ring at once (R24, R31): the management plane is up, and the island's crossing is not isolated. -/
def State.enters (s : State) (dom : Nat) : Prop := s.mgmtDown = false ∧ (dom = 10 ∨ dom ∉ s.stalled)

/-- A dictionary request of a role is heard: requests are served, and the partition of a PARTITION role is defined (step 3 of Table 12-3). -/
def State.hears (s : State) (r : Role) : Prop := s.serves = true ∧ ∀ p, r = .partition p → s.defined p = true

/-! ### A commit -/

/-- What the stage and check phases of set w lead to (R16, R110, R322): with every check passed the commit is armed with its tick, and the
shadow banks hold the staged content; a check that fails, or the fault-fabric test, ends the commit with its status, and nothing is armed.
Neither changes the active banks, a partition, a channel or an enable. -/
def StageAndCheck (s u : State) (w : Nat) (fabricOk : Bool) : Prop :=
  u.active = s.active ∧ u.committed = s.committed ∧ u.parts = s.parts ∧ u.chans = s.chans ∧ u.ens = s.ens ∧
  (u.stageSet w).entries = (s.stageSet w).entries ∧
  ((s.stageEntries w).checkAll (s.stageEntries w).shad = none → (fabricOk = true ∨ s.testLines = []) →
    u.armed = some { kind := .set w, tick := s.now + usTicks (s.reg profCommitLead), since := s.now, ready := s.participantsReady } ∧
    u.shadow = (s.stageEntries w).shadow) ∧
  ((s.stageEntries w).checkAll (s.stageEntries w).shad = none → fabricOk = false → s.testLines ≠ [] →
    u.armed = none ∧ u.shadow = s.active ∧ u.fabricFault = true ∧ u.safeN = false ∧ (u.stageSet w).lastStatus = 0x0701 ∧
    u.reg profLastCommitStatus = 0x0701) ∧
  (∀ x, (s.stageEntries w).checkAll (s.stageEntries w).shad = some x → x.st ≠ 0 →
    u.armed = none ∧ u.shadow = s.active ∧ u.fabricFault = s.fabricFault ∧ (u.stageSet w).lastStatus = x.st ∧
    u.reg profLastCommitStatus = x.st ∧ u.reg diagCheckReport = x.word)

/-- A commit request that runs at once: its stage and check phases, and its answer, which is ST 0x0002 while it is armed. -/
def Committing (s u : State) (w : Nat) (fabricOk : Bool) : Prop :=
  StageAndCheck s u w fabricOk ∧ (u.armed ≠ none → u.status = 2) ∧ (u.armed = none → u.status = (u.stageSet w).lastStatus)

/-- No armed commit is due: a command that comes now is not preceded by a swap. -/
def State.noSwapDue (s : State) : Prop := ∀ a, s.armed = some a → s.swapDue a = false

/-- No swap is due, and cluster n has come to the tick of the latest one: the active bank governs what it does. -/
def State.noSwapAt (s : State) (n : Nat) : Prop := s.noSwapDue ∧ s.lags n = false

/-- A command that a due swap comes with: the SWAP itself, a request of the dictionary, a transition or a timer of a channel, the arming and the
issue of an action, and the sample of the diodes. -/
def SwapComes (c : Instr) (s : State) : Prop := ∃ a, s.armed = some a ∧ s.swapDue a = true ∧
  (c = .swap ∨ (∃ x hw, c = .dapRequest x hw) ∨ (∃ r idx sub val, c = .registerWrite r idx sub val) ∨ (∃ k x, c = .windowExit k x) ∨
    (∃ x, c = .windowEnter x) ∨ (∃ k, c = .settleTimeExpire k) ∨ (∃ k, c = .deadlineExpire k) ∨ (∃ e, c = .actionArm e) ∨
    (∃ e, c = .actionIssue e) ∨ ∃ x, c = .thermalSample x)

/-- No timer of channel c was due before the present tick of its cluster: neither the settle timer of a SETTLE or ABSENT channel, nor the
deadline of an ARMED, RAMP or SETTLE one. -/
def State.timersIdle (s : State) (c : Nat) : Prop :=
  s.kind c = 1 → ((s.chan c).state = .settle ∨ (s.chan c).state = .absent → s.ctr (clOf c) ≤ s.settleDue c) ∧
    ((s.chan c).state = .armed ∨ (s.chan c).state = .ramp ∨ (s.chan c).state = .settle → s.ctr (clOf c) ≤ s.deadlineDue c)

/-- What a step that ends and a sweep to DOWN may change: a timer that was due before acts first in a sweep, and may have its partition shut off. -/
def sweepFlds : List Fld :=
  [.actions, .caps, .chans, .clusters, .drives, .ens, .entries, .events, .groups, .latches, .parts, .ports, .regs, .safeN, .trims, .waitMaint]

/-! ### Actions -/

/-- With action e the last ORDER group of the present step of partition p is done: the step is complete (R143). -/
def State.stepEnds (s : State) (p e : Nat) : Prop :=
  ∃ st, (s.part p).step = some st ∧ (∀ j ∈ s.orderEntries p st, j = e ∨ j ∈ st.done) ∧
    s.nextOrder (s.stepEntries p st.st st.exit) (st.order + 1) = none

/-- Action e of partition p has ended (R143): it holds no slot any more. Unless its step ends with it, only the listed parts and registers differ
beside the actions and the partition's step, which notes it as done, or goes on to the next ORDER group when it was the last one of its own.
Where the step ends, its tick is noted. -/
def ActionEnds (s t : State) (p e : Nat) (l : List Fld) (ks : List Nat) : Prop :=
  t.action e = none ∧
  (¬ s.stepEnds p e →
    Same ([.actions, .parts] ++ l) s t ∧ RegsBut s t ks ∧ (∀ j, j ≠ e → t.action j = s.action j) ∧ AllBut s.part t.part [p] ∧
    ((s.part p).step = none → t.part p = s.part p) ∧
    ∀ st, (s.part p).step = some st →
      ((∃ j ∈ s.orderEntries p st, j ≠ e ∧ j ∉ st.done) → t.part p = { s.part p with step := some { st with done := e :: st.done } }) ∧
      ((∀ j ∈ s.orderEntries p st, j = e ∨ j ∈ st.done) → ∀ o, s.nextOrder (s.stepEntries p st.st st.exit) (st.order + 1) = some o →
        t.part p = { s.part p with step := some { st with order := o, done := [] } })) ∧
  (s.stepEnds p e → Same sweepFlds s t ∧ t.reg (seqsLastStepTick p) = s.now)

/-- Every CURRENT companion of a channel is in window: none of them trips when the channel is armed (R107). -/
def State.gatesClear (s : State) (c : Nat) : Prop := ∀ d < 512, s.kind d = 2 → s.act (chCompanion d) = c → s.inWindow d = true

/-! ### A shut-off -/

/-- A shut-off or force-off of partition p with a cause leads from one state to another (R108, R113): its line is set, it is FAULTED or
LOCKED_OUT, SAFE_N is low; each of its enables is inactive, but for a discharge enable with a DISCHARGE_TIME, which is asserted; each of its
VOLTAGE channels whose cluster has its clock is OFF or TRIPPED; the enables, the line and the state of every other partition are as they were,
and so is the configuration. -/
def ShutDown (s t : State) (p cause : Nat) : Prop :=
  (t.part p).line = true ∧ (t.part p).state.isFaulted = true ∧ t.safeN = false ∧ t.reg (shutsLastCause p) = cause ∧
  t.reg (shutsShutoffCount p) = sat16 (s.reg (shutsShutoffCount p)) ∧ t.active = s.active ∧ t.shadow = s.shadow ∧
  (∀ e < 256, if s.act (chEnMode e) ≠ 0 ∧ s.act (chEnPartition e) = p then
      (t.en e).asserted = (s.isDischarge e && s.act (shutDischargeTime p) != 0)
    else t.en e = s.en e) ∧
  (∀ c < 512, s.kind c = 1 → s.chPart c = p → (s.cluster (clOf c)).clockLost = false →
    (t.chan c).state = .off ∨ (t.chan c).state = .tripped) ∧
  (∀ q < 16, q ≠ p → (t.part q).line = (s.part q).line ∧ (t.part q).state = (s.part q).state)

/-! ### Resets and the loss of VCORE -/

/-- A switch of the profile was armed in this tick: it counts as not yet armed for a management reset of the same tick (R309). -/
def State.switchAsked (s : State) : Prop := ∃ a n pin, s.armed = some a ∧ a.kind = .switch n pin ∧ a.since = s.now

/-- A management reset with a code of Table 11-4 (R34, R35, R288): the management plane is down, its sessions and requests are gone; the
configuration, an armed commit (but for a switch of the same tick, which is abandoned), the enables, the latches, and the states and lines of the
partitions are as they were. -/
def ManagementReset (s t : State) (code : Nat) : Prop :=
  t.mgmtDown = true ∧ t.reg supLastMgmtReset = code ∧ t.reg supMgmtResetCount = sat16 (s.reg supMgmtResetCount) ∧
  t.sessions = [] ∧ t.inbox = [] ∧ t.waits = [] ∧ t.asms = [] ∧
  t.active = s.active ∧ (¬ s.switchAsked → t.armed = s.armed) ∧ (s.switchAsked → t.armed = none) ∧ t.committed = s.committed ∧ t.ens = s.ens ∧
  t.latches = s.latches ∧ t.safeN = s.safeN ∧
  ∀ p, (t.part p).state = (s.part p).state ∧ (t.part p).line = (s.part p).line

/-- VCORE is gone (R132, R285, R290): the clamp holds, EN_CORE is inactive, every enable is inactive, and no configuration is active; the keys, and
the flash when no program operation was in progress, are as they were. -/
def VcoreGone (s t : State) : Prop :=
  t.supply.vcore = false ∧ t.supply.enCore = false ∧ t.supply.clamp = true ∧ t.active = [] ∧ t.committed = false ∧ t.mgmtDown = true ∧
  t.safeN = false ∧ t.parts = [] ∧ t.chans = [] ∧ (∀ e, (t.en e).asserted = false) ∧ t.keys = s.keys ∧ t.pending = s.pending ∧
  t.now = s.now ∧ (s.nv.program = none → t.flash = s.flash ∧ t.granules = s.granules ∧ t.sectors = s.sectors)

/-- A power-up begins at its EN_CORE step with a reason and a wake source (R282): nothing but the supply's state and three registers of the
Hutch changes. -/
def PowerUpBegins (s t : State) (reason source : Nat) : Prop :=
  Same [.regs, .supply] s t ∧ RegsBut s t [supLastPowerUp, supPowerUpCount, supLastMgmtReset] ∧ t.reg supLastPowerUp = reason ∧
  t.reg supPowerUpCount = wrap32 (s.reg supPowerUpCount) ∧ t.supply.power = .starting ∧ t.supply.enCore = true ∧ t.supply.enCoreAt = s.now ∧
  t.supply.vcore = s.supply.vcore ∧ t.supply.reason = reason ∧ t.supply.wakeSrc = source ∧ t.supply.recoverAt = none ∧
  t.supply.strapsDue = (s.supply.strapsDue || reason != 4) ∧ t.supply.lockout = false ∧ t.supply.pendWake = false

/-! ### The SVC bus -/

/-- A transaction has run on the SVC bus (R402): its tick is noted, and an attention pulse of the last 50 µs that it cut off is to be given again;
no other port is touched. -/
def BusTaken (s t : State) : Prop :=
  AllBut s.port t.port [svcPort] ∧ (t.port svcPort).stopAt = s.now ∧
  ((∃ a, (s.port svcPort).pulseAt = some a ∧ s.now < a + 5000) → (t.port svcPort).pulseAt = none ∧ (t.port svcPort).again = true) ∧
  ((∀ a, (s.port svcPort).pulseAt = some a → a + 5000 ≤ s.now) →
    (t.port svcPort).pulseAt = (s.port svcPort).pulseAt ∧ (t.port svcPort).again = (s.port svcPort).again)

/-! ### The canonical forms -/

/-- The flash cells and the two banks stand in their canonical forms, so that equal contents are equal data. -/
def State.formsOk (s : State) : Prop := Memory.wf s.flash = true ∧ tabOk dflt s.active = true ∧ tabOk dflt s.shadow = true

end Sys2Proof.Machine
end

