-- ==== Sys2Proof/Certificates/Slice0/Obligations.lean ====
section
/-! DEFINITION. The statements for the provers. Each docstring names the rules of spec/ that its statement rests on. A command that comes
outside the conditions of a clause is the matter of another clause, or of the meaning's own text. `Answers c s P` says that the command
completes and what its next state holds; `Same l s t` that nothing but the listed parts of the state differs; `RegsBut s t l` that every
register but the listed ones keeps its value; `ItemEnds` the same for a dictionary command with its status code. -/
open Sys2Proof Sys2Proof.Machine

/-! ### The step, reset, and the whole machine -/

/-- The queue is first in, first out: a step runs the command at its front on the state with the queue's rest. With an empty queue one tick passes,
or one cycle of the crystal in BACKUP (the model's choice, log 1). -/
def Obligations.StepRunsFrontCommand : Prop :=
  (∀ (c : Instr) (rest : List Instr) (s : State), s.pending = c :: rest → step s = exec c { s with pending := rest }) ∧
  (∀ s : State, s.pending = [] → step s = .next s.tick)

/-- Reset (R286, Table 11-1): BACKUP, device time 0, nothing committed, SAFE_N low, every partition DOWN, every channel OFF, every enable inactive,
every key erased, every register and every RWC entry at the default of its table, the flash erased. Which defaults the spec does not give, log 7
says. -/
def Obligations.ResetIsAColdStart : Prop :=
  State.reset.pending = [] ∧ State.reset.now = 0 ∧ State.reset.supply.power = .backup ∧ State.reset.committed = false ∧
  State.reset.safeN = false ∧ State.reset.armed = none ∧ State.reset.evRing = [] ∧ State.reset.flash = [] ∧
  (∀ p, (State.reset.part p).state = .down ∧ (State.reset.part p).line = false) ∧ (∀ c, (State.reset.chan c).state = .off) ∧
  (∀ e, (State.reset.en e).asserted = false) ∧ (∀ k, (State.reset.key k).key = none) ∧
  (∀ k, State.reset.reg k = dflt k ∧ State.reset.act k = dflt k ∧ State.reset.shad k = dflt k)

/-- Every command of the block completes, and takes nothing from the queue and puts nothing into it. -/
def Obligations.EveryCommandCompletesAndLeavesTheQueue : Prop :=
  ∀ (c : Instr) (s : State), ∃ t, exec c s = .next t ∧ t.pending = s.pending

/-- Device time (R12, R27, R294): a command never changes it, but for the loss of continuity, which sets it to 0; a step on an empty queue never
takes it back. -/
def Obligations.DeviceTimeRunsForward : Prop :=
  (∀ (c : Instr) (s t : State), exec c s = .next t → t.now = s.now ∨ (c = .continuityLoss ∧ t.now = 0)) ∧
  (∀ s t : State, s.pending = [] → step s = .next t → s.now ≤ t.now)

/-! ### Islands and the frame clock -/

/-- The frame pulse (after R25), with the clusters supplied and the crossing to the Hutch joined: when every running cluster is within 1 µs of
device time, nothing but the increments of the clusters and of their SYNCOUTs and the record of the pulse changes; a cluster whose clock is lost, or
whose millisecond has not passed, keeps all. A cluster that takes it has its increment within 1,000 ppm of 2^31; where that bound is not met,
200,000 edges at the new increment carry the counter over what they would have carried it at the old one and the difference, and, a millisecond
after the pulse before, over what the difference has grown by too, to within 100,000 units of 2^-32 ticks (the growth, which holds a steady rate
difference out, is the model's reading, log 32). A running cluster that differs by more is taken as one that lost its clock. Without the supply or
across an isolated crossing a pulse changes nothing. The reference (after R28): its failure sets TIME_FREE, and raises EV 0x17 if it was clear;
TIME_FREE clears after the reference has been present for 100 ms, and not before. -/
def Obligations.FramePulseAndReferenceKeepTime : Prop :=
  (
  (∀ s : State, s.supply.vcore = true → 9 ∉ s.stalled →
    (∀ n < 8, (s.cluster n).clockLost = false → (s.cluster n).counter ≤ s.now + 100 ∧ s.now ≤ (s.cluster n).counter + 100) →
    Answers .framePulse s (fun t => Same [.clusters] s t ∧
      (∀ n < 8, t.cluster n = { s.cluster n with inc := (t.cluster n).inc, syncInc := (t.cluster n).syncInc, pulsed := (t.cluster n).pulsed,
                                                 pulseDiff := (t.cluster n).pulseDiff }) ∧
      (∀ n < 8, (s.cluster n).clockLost = true ∨ s.pulseDue (s.cluster n) = false → t.cluster n = s.cluster n) ∧
      (∀ n < 8, (s.cluster n).clockLost = false → s.pulseDue (s.cluster n) = true →
        (t.cluster n).pulsed = some s.now ∧ (t.cluster n).pulseDiff = s.counterDiff (s.cluster n) ∧
        2145336164 ≤ (t.cluster n).inc ∧ (t.cluster n).inc ≤ 2149631132 ∧
        (2145336164 < (t.cluster n).inc → (t.cluster n).inc < 2149631132 →
          ((s.cluster n).pulsed = none → ∃ e : Int, -100000 ≤ e ∧ e ≤ 100000 ∧
            200000 * ((t.cluster n).inc : Int) + e = 200000 * (s.cluster n).inc + s.counterDiff (s.cluster n)) ∧
          (∀ a, (s.cluster n).pulsed = some a → s.now = a + 100000 → ∃ e : Int, -100000 ≤ e ∧ e ≤ 100000 ∧
            200000 * ((t.cluster n).inc : Int) + e = 200000 * (s.cluster n).inc + s.counterDiff (s.cluster n) +
              (s.counterDiff (s.cluster n) - (s.cluster n).pulseDiff)))))) ∧
  (∀ s : State, s.supply.vcore = true → 9 ∉ s.stalled → Answers .framePulse s (fun t => ∀ n < 8, (s.cluster n).clockLost = false →
    s.pulseDue (s.cluster n) = true →
    ((t.cluster n).clockLost = true ↔ s.now + 100 < (s.cluster n).counter ∨ (s.cluster n).counter + 100 < s.now))) ∧
  (∀ s : State, s.supply.vcore = false ∨ 9 ∈ s.stalled → exec .framePulse s = .next s))
  ∧ (
  (∀ s : State, Answers .referenceFail s (fun t => Same [.events, .refFailAt, .regs, .timeFree] s t ∧ RegsBut s t [evEventsLost] ∧
    t.timeFree = true ∧ t.refFailAt = some s.now ∧
    (s.timeFree = false → s.enters 9 → t.recorded 9 0x17 255 false []) ∧ (s.timeFree = true → t.evRing = s.evRing))) ∧
  (∀ (s : State) (a : Nat), s.refFailAt = some a → a + 10000000 ≤ s.now →
    Answers .timeFreeClear s (fun t => Same [.refFailAt, .timeFree] s t ∧ t.timeFree = false ∧ t.refFailAt = none)) ∧
  (∀ (s : State) (a : Nat), s.refFailAt = some a → s.now < a + 10000000 → exec .timeFreeClear s = .next s))

/-- A stalled island (after R31 to R33, Table 1-4). Of an island that is no cluster and not the Hutch: it is marked as stalled and as failed, DIAG's
island fault count counts it, no other island's marks change, and the configuration, the enables, the latches, SAFE_N and an armed commit hold (a
switch armed in the same tick ends with the management plane); beside that a CAN or 10BASE-T1S island changes nothing, the host island drops the
frame in progress, the telemetry island its rings and runs (a condition present in link sleep stays noted), the two-wire island the transactions in
progress, the drive island stops its drives, the NV island stops its operations and loses no staged drawer, and the management plane is down with
the clusters, drives and streams, and the states and lines of the partitions, as they were. A stalled cluster is marked, and has lost its clock;
another cluster at most notes a partition as cut while its own clock is lost. A stalled Hutch is marked and counted, and nothing else differs. A
clock fault of an island that is no cluster, not the Hutch and not the management plane: it is marked and counted, EV 0x16 names it, and the
configuration, the enables and the latches hold. The Hutch's is that of its crystal: RTC_DEGRADED, with EV 0x16 (9). An island that is marked as
stalled already stalls without effect. -/
def Obligations.IslandFailureIsContained : Prop :=
  (∀ (i : Island) (s : State), (∀ n, i ≠ .cl n) → i ≠ .hutch → islandDom i ∉ s.stalled → islandDom i ∉ s.islandBad →
    Answers (.handshakeStall i) s (fun t => islandDom i ∈ t.stalled ∧ islandDom i ∈ t.islandBad ∧
      (∀ d, d ≠ islandDom i → (d ∈ t.stalled ↔ d ∈ s.stalled) ∧ (d ∈ t.islandBad ↔ d ∈ s.islandBad)) ∧
      t.active = s.active ∧ t.ens = s.ens ∧ t.latches = s.latches ∧ t.safeN = s.safeN ∧ (i ≠ .mgmt ∨ ¬ s.switchAsked → t.armed = s.armed) ∧
      t.reg diagIslandFaultCount = sat16 (s.reg diagIslandFaultCount) ∧
      ((∃ k, i = .can k) ∨ i = .t1s → Same [.stalled, .islandBad, .regs] s t ∧ RegsBut s t [diagIslandFaultCount]) ∧
      (i = .host → Same [.stalled, .islandBad, .regs, .host] s t ∧ RegsBut s t [diagIslandFaultCount] ∧
        t.host = { s.host with inFrame := false }) ∧
      (i = .telemetry → Same [.stalled, .islandBad, .regs, .streams, .host] s t ∧ RegsBut s t [diagIslandFaultCount] ∧
        t.host = { s.host with wakeReason := t.host.wakeReason } ∧ ∀ k < 32, (t.stream k).ring = [] ∧ (t.stream k).runs = []) ∧
      (i = .twoWire → Same [.stalled, .islandBad, .regs, .ports] s t ∧ RegsBut s t [diagIslandFaultCount] ∧
        ∀ n < 8, (t.port n).busy = none) ∧
      (i = .drive → Same [.stalled, .islandBad, .regs, .drives, .clusters, .events] s t ∧ ∀ d < 4, (t.drive d).running = false) ∧
      (i = .nv → Same [.stalled, .islandBad, .regs, .nv, .log, .flash, .granules, .draws] s t ∧
        t.log.staged.map (fun d => d.seq) = s.log.staged.map (fun d => d.seq) ∧ t.nv.queue = [] ∧ t.nv.program = none ∧ t.nv.erase = none) ∧
      (i = .mgmt → t.mgmtDown = true ∧ t.clusters = s.clusters ∧ t.drives = s.drives ∧ t.streams = s.streams ∧
        ∀ p, (t.part p).state = (s.part p).state ∧ (t.part p).line = (s.part p).line))) ∧
  (∀ (n : Fin 8) (s : State), islandDom (.cl n) ∉ s.stalled → (s.cluster n).clockLost = false →
    Answers (.handshakeStall (.cl n)) s (fun t => islandDom (.cl n) ∈ t.stalled ∧ (t.cluster n).clockLost = true ∧ t.active = s.active ∧
      ∀ m < 8, m ≠ n.val → t.cluster m = { s.cluster m with lostParts := (t.cluster m).lostParts })) ∧
  (∀ s : State, islandDom .hutch ∉ s.stalled → Answers (.handshakeStall .hutch) s (fun t => Same [.stalled, .regs] s t ∧
    RegsBut s t [diagIslandFaultCount] ∧ t.reg diagIslandFaultCount = sat16 (s.reg diagIslandFaultCount) ∧ islandDom .hutch ∈ t.stalled)) ∧
  (∀ (i : Island) (s : State), islandDom i ∈ s.stalled → exec (.handshakeStall i) s = .next s) ∧
  (∀ (i : Island) (s : State), (∀ n, i ≠ .cl n) → i ≠ .hutch → i ≠ .mgmt → islandDom i ∉ s.supply.clockBad →
    Answers (.islandClockFault i) s (fun t => islandDom i ∈ t.stalled ∧ islandDom i ∈ t.islandBad ∧ t.active = s.active ∧ t.ens = s.ens ∧
      t.latches = s.latches ∧ t.reg diagIslandFaultCount = sat16 (s.reg diagIslandFaultCount) ∧
      (s.enters 9 → t.recorded 9 0x16 255 false [BitVec.ofNat 8 (islandDom i)]))) ∧
  (∀ s : State, s.supply.xtalOk = true → Answers (.islandClockFault .hutch) s (fun t =>
    Same [.supply, .regs, .events] s t ∧ RegsBut s t [diagIslandFaultCount, evEventsLost] ∧
    t.supply = { s.supply with xtalOk := false, rtcDegraded := true } ∧ t.reg diagIslandFaultCount = sat16 (s.reg diagIslandFaultCount) ∧
    (s.enters 9 → t.recorded 9 0x16 255 false [9])))

/-- An island that has been reset and has signalled ready (after R31): its marks are taken away, no other island's are, and the configuration holds.
What it raised while its crossing was isolated is delivered if the management plane is up. Of an island that is neither a cluster nor the drive
island nothing else changes; the enabled drives of the drive island have RUN 0 and a fault, which is 4 if they had none (after Table 17-1); a
cluster whose millisecond has passed has its clock back, and its counter is not set back (after R124), and one whose has not stays as it is. The end
of a management reset (after R36), with the supply, the ROM and the debug port not in its way, a valid bank and no shelf of the power-up left to be
tried: the plane is up, what it held is delivered, no partition's state or line changes, and neither bank, the armed commit nor a channel does; EV
0x51 carries the cause. With no valid bank the boot ROM keeps the device (after R447). -/
def Obligations.IslandsAndTheManagementPlaneReturn : Prop :=
  (
  (∀ (i : Island) (s : State), islandDom i ∈ s.stalled →
    Answers (.islandReady i) s (fun t => islandDom i ∉ t.stalled ∧ islandDom i ∉ t.islandBad ∧
      (∀ d, d ≠ islandDom i → (d ∈ t.stalled ↔ d ∈ s.stalled) ∧ (d ∈ t.islandBad ↔ d ∈ s.islandBad)) ∧ t.active = s.active ∧
      ((∀ n, i ≠ .cl n) → i ≠ .drive → Same [.stalled, .islandBad, .supply, .events, .regs] s t ∧ RegsBut s t [evEventsLost] ∧
        (s.mgmtDown = true → t.reg evEventsLost = s.reg evEventsLost ∧ t.evRing = s.evRing) ∧
        t.supply = { s.supply with clockBad := s.supply.clockBad.filter (fun d => d != islandDom i) }) ∧
      (i = .drive → Same [.stalled, .islandBad, .supply, .drives, .regs, .clusters, .events] s t ∧
        ∀ d < 4, s.act (drvEnable d) = 1 → t.reg (drvcRun d) = 0 ∧ (t.drive d).fault ≠ 0 ∧
          ((s.drive d).fault = 0 → (t.drive d).fault = 4)))) ∧
  (∀ (n : Fin 8) (s : State), islandDom (.cl n) ∈ s.stalled → Answers (.islandReady (.cl n)) s (fun t =>
    (s.mayReturn n = true → (t.cluster n).clockLost = false ∧ (s.cluster n).counter ≤ (t.cluster n).counter) ∧
    (s.mayReturn n = false → t.clusters = s.clusters))))
  ∧ (
  (∀ s : State, s.mgmtDown = true → s.supply.vcore = true → s.sec.inRom = false → s.sec.halted = false → 10 ∉ s.islandBad →
    s.bootChoice ≠ none → s.supply.loadNext = none →
    Answers .mgmtResume s (fun t => t.mgmtDown = false ∧ Same [.events, .later, .mgmtDown, .parts, .regs, .sec, .svc, .thermal] s t ∧
      (∀ p, (t.part p).state = (s.part p).state ∧ (t.part p).line = (s.part p).line) ∧ t.later = [] ∧ t.svc = [] ∧
      t.reg devMgmtUpSince = s.now ∧ t.recorded 10 0x51 255 false [BitVec.ofNat 8 (s.reg supLastMgmtReset)])) ∧
  (∀ s : State, s.mgmtDown = true → s.supply.vcore = true → s.sec.inRom = false → s.sec.halted = false → 10 ∉ s.islandBad →
    s.bootChoice = none → Answers .mgmtResume s (fun t => Same [.mgmtDown, .sec] s t ∧ t.mgmtDown = true ∧ t.sec.inRom = true)))


/-! ### The commit point -/

/-- A COMMIT or PARTITION_COMMIT with no commit in progress and none queued (after R16, R322): its set is staged and checked, and it is armed or it
ends with its status, as `Committing` says; the response, with those that the end of a commit makes due, is sent in `deliver`. A role without the
right to the set ends with ST 0x0201, and nothing but the count of its items changes. The swap (after R16, R18, R20), when it is due: the shadow
bank is the active one at once, the bank before it stays as the prior one (which governs a cluster whose counter has not come to T), the commit is
counted; no partition state or line, no channel state and no latch changes by it, an enable changes its state only by becoming unused, and the set
of the commit is empty. It is due when every participant answered READY and device time or the counter of a running cluster has come to T; before
that nothing happens. -/
def Obligations.CommitsStageCheckArmAndSwap : Prop :=
  (
  (∀ (fabricOk : Bool) (s : State), s.serves = true → s.armed = none → s.queueC = [] →
    ∃ u : State, exec (.commit .owner fabricOk) s = .next (u.deliver { fabricOk := fabricOk, senses := [] }) ∧ Committing s u 16 fabricOk) ∧
  (∀ (r : Role) (p : Fin 16) (fabricOk : Bool) (s : State), s.hears r → (r = .owner ∨ r = .partition p) → s.armed = none → s.queueC = [] →
    ∃ u : State, exec (.partitionCommit r p fabricOk) s = .next (u.deliver { fabricOk := fabricOk, senses := [] }) ∧
      Committing s u p fabricOk) ∧
  (∀ (r : Role) (fabricOk : Bool) (s : State), s.hears r → r ≠ .owner →
    ∃ u : State, exec (.commit r fabricOk) s = .next (u.deliver { fabricOk := fabricOk, senses := [] }) ∧ ItemEnds r [] [] s u 0x0201) ∧
  (∀ (r : Role) (p : Fin 16) (fabricOk : Bool) (s : State), s.hears r → r ≠ .owner → r ≠ .partition p →
    ∃ u : State, exec (.partitionCommit r p fabricOk) s = .next (u.deliver { fabricOk := fabricOk, senses := [] }) ∧
      ItemEnds r [] [] s u 0x0201))
  ∧ (
  (∀ (a : Armed) (s : State), s.armed = some a → a.ready = true →
    (a.tick ≤ s.now ∨ ∃ n < 8, (s.cluster n).clockLost = false ∧ a.tick ≤ (s.cluster n).counter) →
    ∃ u : State, exec .swap s = .next (u.deliver noHw) ∧ u.active = s.shadow ∧ u.prior = s.active ∧ u.shadow = s.shadow ∧ u.committed = true ∧ u.armed = none ∧
      u.reg profLastCommitStatus = 0 ∧ u.reg profLastCommitTick = a.tick ∧ u.reg profCommitCount = wrap32 (s.reg profCommitCount) ∧
      (∀ p, (u.part p).state = (s.part p).state ∧ (u.part p).line = (s.part p).line) ∧
      (∀ c, (u.chan c).state = (s.chan c).state) ∧ (∀ e, (u.en e).asserted = (s.en e).asserted ∨ u.act (chEnMode e) = 0) ∧
      u.latches = s.latches ∧ (∀ w, a.kind = .set w → (u.stageSet w).entries = [] ∧ (u.stageSet w).lastTick = a.tick)) ∧
  (∀ (a : Armed) (s : State), s.armed = some a →
    a.ready = false ∨ (s.now < a.tick ∧ ∀ n < 8, (s.cluster n).clockLost = false → (s.cluster n).counter < a.tick) → exec .swap s = .next s))

/-- A commit request beside another (after R17, R323): while one of another tick is armed it is refused with ST 0x0403; while one of this tick is in
its stage or check phase it is queued, behind every request of an earlier tick, and among those of this tick by its set, OWNER's first; while the
set's own is in progress it is refused with ST 0x0401. COMMIT and PARTITION_COMMIT with value 0x02 (after R324): the set is emptied, no other set
changes, and the answer is ST 0x0000; a set whose commit is in progress is refused with ST 0x0401, and a role without the right with ST 0x0201. -/
def Obligations.CommitRequestsWaitAreRefusedOrDiscard : Prop :=
  (
  (∀ (fabricOk : Bool) (s : State), s.serves = true → s.setBusy 16 = false → s.armed ≠ none → s.checking = false →
    ∃ u : State, exec (.commit .owner fabricOk) s = .next (u.deliver { fabricOk := fabricOk, senses := [] }) ∧
      ItemEnds .owner [] [] s u 0x0403) ∧
  (∀ (fabricOk : Bool) (s : State), s.serves = true → s.setBusy 16 = false → s.checking = true →
    ∃ u : State, exec (.commit .owner fabricOk) s = .next (u.deliver { fabricOk := fabricOk, senses := [] }) ∧
      ItemEnds .owner [.queueC] [] s u 2 ∧ ∃ a b, s.queueC = a ++ b ∧ u.queueC = a ++ (16, s.now) :: b ∧
        (∀ x ∈ a, x.2 ≠ s.now) ∧ ∀ x, b.head? = some x → x.2 = s.now) ∧
  (∀ (fabricOk : Bool) (s : State), s.serves = true → s.setBusy 16 = true →
    ∃ u : State, exec (.commit .owner fabricOk) s = .next (u.deliver { fabricOk := fabricOk, senses := [] }) ∧
      ItemEnds .owner [] [] s u 0x0401) ∧
  (∀ (r : Role) (p : Fin 16) (fabricOk : Bool) (s : State), s.hears r → (r = .owner ∨ r = .partition p) → s.setBusy p = false →
    s.armed ≠ none → s.checking = false →
    ∃ u : State, exec (.partitionCommit r p fabricOk) s = .next (u.deliver { fabricOk := fabricOk, senses := [] }) ∧
      ItemEnds r [] [] s u 0x0403) ∧
  (∀ (r : Role) (p : Fin 16) (fabricOk : Bool) (s : State), s.hears r → (r = .owner ∨ r = .partition p) → s.setBusy p = false →
    s.checking = true →
    ∃ u : State, exec (.partitionCommit r p fabricOk) s = .next (u.deliver { fabricOk := fabricOk, senses := [] }) ∧
      ItemEnds r [.queueC] [] s u 2 ∧ ∃ a b, s.queueC = a ++ b ∧ u.queueC = a ++ (p.val, s.now) :: b ∧
        (∀ x ∈ a, x.2 ≠ s.now ∨ x.1 = 16 ∨ x.1 < p.val) ∧ ∀ x, b.head? = some x → x.2 = s.now ∧ x.1 ≠ 16 ∧ p.val ≤ x.1) ∧
  (∀ (r : Role) (p : Fin 16) (fabricOk : Bool) (s : State), s.hears r → (r = .owner ∨ r = .partition p) → s.setBusy p = true →
    ∃ u : State, exec (.partitionCommit r p fabricOk) s = .next (u.deliver { fabricOk := fabricOk, senses := [] }) ∧
      ItemEnds r [] [] s u 0x0401))
  ∧ (
  (∀ s : State, s.serves = true → s.setBusy 16 = false →
    Answers (.commitDiscard .owner) s (fun t => ItemEnds .owner [.sets] [] s t 0 ∧ (t.stageSet 16).entries = [] ∧
      AllBut s.stageSet t.stageSet [16])) ∧
  (∀ (r : Role) (p : Fin 16) (s : State), s.hears r → (r = .owner ∨ r = .partition p) → s.setBusy p = false →
    Answers (.partitionCommitDiscard r p) s (fun t => ItemEnds r [.sets] [] s t 0 ∧ (t.stageSet p).entries = [] ∧
      AllBut s.stageSet t.stageSet [p.val])) ∧
  (∀ s : State, s.serves = true → s.setBusy 16 = true →
    Answers (.commitDiscard .owner) s (fun t => ItemEnds .owner [] [] s t 0x0401)) ∧
  (∀ (r : Role) (p : Fin 16) (s : State), s.hears r → (r = .owner ∨ r = .partition p) → s.setBusy p = true →
    Answers (.partitionCommitDiscard r p) s (fun t => ItemEnds r [] [] s t 0x0401)) ∧
  (∀ (r : Role) (s : State), s.hears r → r ≠ .owner → Answers (.commitDiscard r) s (fun t => ItemEnds r [] [] s t 0x0201)) ∧
  (∀ (r : Role) (p : Fin 16) (s : State), s.hears r → r ≠ .owner → r ≠ .partition p →
    Answers (.partitionCommitDiscard r p) s (fun t => ItemEnds r [] [] s t 0x0201)))

/-- A queued request (after R323), with the management plane up: when no commit is armed the oldest one leaves the queue, and its set is staged and
checked, as `StageAndCheck` says: it is armed, or the check or the fault-fabric test that fails ends it; the responses that this makes due are sent
in `deliver`, which is nothing when none waits. While a commit is armed the queue stands. A commit that is still armed at T less 2 µs or later is
abandoned (after R17) with ST 0x0404: nothing is armed, and neither bank changes. One of a staging set keeps its entries and its request ends with
that status; a switch ends with EV 0x55, and SWITCH_STATE is 0; one of the power-up with a shelf that is not the one named by PSEL ends the
power-up's search, with EV 0x56, with that one the fallback is tried, and in a management reset the search goes on at its end (after R305). Earlier,
or with nothing armed, the happening has no effect. -/
def Obligations.QueuedAndUnconfirmedCommits : Prop :=
  (
  (∀ (w tick : Nat) (rest : List (Nat × Nat)) (fabricOk : Bool) (s : State), s.mgmtDown = false → s.queueC = (w, tick) :: rest →
    s.armed = none →
    Answers (.commitQueueStart fabricOk) s (fun t => ∃ u : State, t = u.deliver { fabricOk := fabricOk, senses := [] } ∧
      (s.waits = [] → t = u) ∧ StageAndCheck s u w fabricOk ∧ u.queueC = rest)) ∧
  (∀ (fabricOk : Bool) (s : State), s.mgmtDown = false → s.armed ≠ none ∨ s.queueC = [] →
    Answers (.commitQueueStart fabricOk) s (fun t => t = s.deliver { fabricOk := fabricOk, senses := [] } ∧ (s.waits = [] → t = s))) ∧
  (∀ (fabricOk : Bool) (s : State), s.mgmtDown = true → exec (.commitQueueStart fabricOk) s = .next s))
  ∧ (
  (∀ (part : Participant) (hw : Hw) (w : Nat) (a : Armed) (s : State), s.armed = some a → a.kind = .set w → a.tick ≤ s.now + 200 →
    Answers (.commitAbandon part hw) s (fun t => ∃ u : State, t = u.deliver hw ∧ (s.waits = [] → t = u) ∧
      u.armed = none ∧ u.active = s.active ∧ u.shadow = s.shadow ∧
      u.committed = s.committed ∧ u.reg profLastCommitStatus = 0x0404 ∧ (u.stageSet w).lastStatus = 0x0404 ∧
      (u.stageSet w).entries = (s.stageSet w).entries ∧ AllBut s.stageSet u.stageSet [w] ∧
      Same [.armed, .regs, .sets, .events, .waits] s u ∧ RegsBut s u [profLastCommitStatus, evEventsLost])) ∧
  (∀ (part : Participant) (hw : Hw) (n : Nat) (pin : Bool) (a : Armed) (s : State), s.armed = some a → a.kind = .switch n pin →
    a.tick ≤ s.now + 200 →
    Answers (.commitAbandon part hw) s (fun t => ∃ u : State, t = u.deliver hw ∧ (s.waits = [] → t = u) ∧
      u.armed = none ∧ u.switchSt = 0 ∧ u.reg profLastCommitStatus = 0x0404 ∧
      (s.mgmtDown = false → u.recorded 10 0x55 255 false ([BitVec.ofNat 8 n] ++ two 0x0404 ++ [BitVec.ofNat 8 (s.reg (shelfStatus n))])) ∧
      Same [.armed, .regs, .switchSt, .events, .waits] s u ∧ RegsBut s u [profLastCommitStatus, evEventsLost])) ∧
  (∀ (part : Participant) (hw : Hw) (n : Nat) (a : Armed) (s : State), s.armed = some a → a.kind = .powerUp n → a.tick ≤ s.now + 200 →
    Answers (.commitAbandon part hw) s (fun t => ∃ u : State, u.armed = none ∧ u.reg profLastCommitStatus = 0x0404 ∧
      Same [.armed, .regs] s u ∧ RegsBut s u [profLastCommitStatus] ∧
      (s.mgmtDown = true → t = { u with supply := { u.supply with loadNext := some n } }) ∧
      (s.mgmtDown = false → n = s.supply.psel → t = u.tryFallback hw) ∧
      (s.mgmtDown = false → n ≠ s.supply.psel → Same [.events, .regs] u t ∧ RegsBut u t [evEventsLost] ∧
        t.recorded 10 0x56 255 false [BitVec.ofNat 8 s.supply.psel, BitVec.ofNat 8 (s.reg (shelfStatus s.supply.psel)),
          BitVec.ofNat 8 (s.reg profFallbackShelf), BitVec.ofNat 8 (s.reg (shelfStatus (s.reg profFallbackShelf))), 255]))) ∧
  (∀ (part : Participant) (hw : Hw) (a : Armed) (s : State), s.armed = some a → s.now + 200 < a.tick →
    exec (.commitAbandon part hw) s = .next s) ∧
  (∀ (part : Participant) (hw : Hw) (s : State), s.armed = none → exec (.commitAbandon part hw) s = .next s))


/-! ### Channels and pins -/

/-- Connected (R54) is a RUNNING or MARGIN channel, or a CURRENT channel that is not itself TRIPPED and whose companion is RUNNING or MARGIN (R58),
of a partition whose line is clear. A window exit of a connected channel: its partition is shut off with cause 0x01, the channel is TRIPPED, and the
latch entry of its cluster, when it was clear, takes the tick and the channel's side. A window exit of any other channel is no trip and changes its
state only as Table 2-3 states: SETTLE goes back to RAMP with WINDOW_EXITS counted, every other state stays; no partition, enable or latch changes.
Left aside are a channel that another cause cut in this very tick, and timers that were due before. A comparator asserts when the pin is beyond its
threshold for DEGLITCH (R101, R104); a crossing that does not is no exit. While its cluster's clock is lost an exit is only noted (R59). An exit, an
entry and an expiry come after a swap that is due (R19); in a cluster whose counter has not come to the tick of the latest swap an exit is judged
under the bank before it (R16). -/
def Obligations.WindowExitTripsOnlyAConnectedChannel : Prop :=
  (∀ (c : Fin 512) (s : State), s.connected c = true ↔ (s.part (s.chPart c)).line = false ∧
    (s.kind c = 1 ∧ ((s.chan c).state = .running ∨ (s.chan c).state = .margin) ∨
      s.kind c = 2 ∧ (s.chan c).state ≠ .tripped ∧ ((s.chan (s.act (chCompanion c))).state = .running ∨
        (s.chan (s.act (chCompanion c))).state = .margin)))
  ∧ (
  ∀ (c : Fin 512) (x : Crossing) (s : State), s.connected c = true → s.inWindow c = true → (s.cluster (clOf c)).clockLost = false →
    s.noSwapAt (clOf c) → s.asserts c x = true →
    Answers (.windowExit c x) s (fun t =>
      Same [.actions, .caps, .chans, .clusters, .drives, .ens, .entries, .events, .groups, .latches, .parts, .ports, .regs, .safeN, .trims,
        .waitMaint] s t ∧
      ShutDown s t (s.chPart c) 1 ∧ (t.chan c).state = .tripped ∧ t.reg (chsTripCount c) = sat16 (s.reg (chsTripCount c)) ∧
      ((s.latch (clOf c) (s.chPart c)).isSet = false →
        (t.latch (clOf c) (s.chPart c)).isSet = true ∧ (t.latch (clOf c) (s.chPart c)).firstTick = s.ctr (clOf c) ∧
        (t.latch (clOf c) (s.chPart c)).cause = 1 ∧
        (t.latch (clOf c) (s.chPart c)).upperMap = (if x.side = .upper then 2 ^ (c.val % 64) else 0) ∧
        (t.latch (clOf c) (s.chPart c)).lowerMap = (if x.side = .lower then 2 ^ (c.val % 64) else 0)) ∧
      (s.enters (clOf c + 1) → ∃ m, t.recorded (clOf c + 1) 0x10 (s.chPart c) false [1, m])))
  ∧ (
  ∀ (c : Fin 512) (x : Crossing) (s : State), s.kind c ≠ 0 → s.connected c = false → s.cutNow c = false →
    (s.cluster (clOf c)).clockLost = false → s.noSwapAt (clOf c) → s.timersIdle (s.stateOwner c) → s.asserts c x = true →
    Answers (.windowExit c x) s (fun t => Same [.caps, .chans, .entries, .regs, .trims] s t ∧ AllBut s.chan t.chan [c.val] ∧
      RegsBut s t [chsStateSince c, chsWindowExits c] ∧ t.inWindow c = false ∧
      ((s.chan c).state = .settle → s.inWindow c = true → (t.chan c).state = .ramp ∧ t.reg (chsStateSince c) = s.ctr (clOf c) ∧
        t.reg (chsWindowExits c) = sat16 (s.reg (chsWindowExits c))) ∧
      ((s.chan c).state ≠ .settle → (t.chan c).state = (s.chan c).state ∧ t.regs = s.regs ∧ t.trims = s.trims ∧ t.entries = s.entries)))
  ∧ (
  (∀ (c : Fin 512) (x : Crossing) (s : State), s.asserts c x = true ↔ 10 * s.act (chDeglitch c) ≤ x.held ∧
    (x.side = .upper → (s.act (chUpperCode c) : Int) * 2343750 < x.pin) ∧ (x.side = .lower → x.pin < (s.act (chLowerCode c) : Int) * 2343750)) ∧
  (∀ (c : Fin 512) (x : Crossing) (s : State), s.noSwapAt (clOf c) → s.asserts c x = false → exec (.windowExit c x) s = .next s) ∧
  (∀ (c : Fin 512) (x : Crossing) (s : State), s.noSwapDue → (s.cluster (clOf c)).clockLost = true → s.kind c ≠ 0 → s.asserts c x = true →
    Answers (.windowExit c x) s (fun t => Same [.chans] s t ∧ AllBut s.chan t.chan [c.val] ∧
      t.chan c = { s.chan c with lostCmp := some ((s.chan c).lostOuts.1 || x.side == .upper, (s.chan c).lostOuts.2 || x.side == .lower) })) ∧
  (∀ (c : Fin 512) (x : Crossing) (a : Armed) (v : Int) (s : State), s.armed = some a → s.swapDue a = true →
    exec (.windowExit c x) s = exec (.windowExit c x) (s.swap a) ∧ exec (.windowEnter ⟨c, v⟩) s = exec (.windowEnter ⟨c, v⟩) (s.swap a) ∧
    exec (.settleTimeExpire c) s = exec (.settleTimeExpire c) (s.swap a) ∧ exec (.deadlineExpire c) s = exec (.deadlineExpire c) (s.swap a)) ∧
  (∀ (c : Fin 512) (x : Crossing) (q s : State), s.noSwapDue → s.lags (clOf c) = true → q = { s with active := s.prior } →
    q.connected c = true → q.inWindow c = true → q.asserts c x = true →
    Answers (.windowExit c x) s (fun t => t.active = s.active ∧ t.prior = s.prior ∧ (t.part (q.chPart c)).line = true ∧
      (t.chan c).state = .tripped)))

/-- A VOLTAGE channel enters its window (after R53, R55, R57, R101), with no swap due and the pin inside the thresholds of its asserted outputs by
the hysteresis (a pin that is not leaves it out): ARMED (with RAMP_SKIPPED) and RAMP go to SETTLE with the settle timer started, when its deadline
is still to come; an ABSENT channel whose settle timer starts anew stays ABSENT. At the tick of the deadline the state stays, for the deadline;
after it the channel has become ABSENT, stamped with the tick of the deadline, and starts its settle timer. A channel in window without interruption
for SETTLE_TIME, with the tick at which that was so past (log 11), is RUNNING from that tick: from SETTLE, when the deadline was not earlier, and
from ABSENT with EV 0x13, RECOVERED and RECOVER_COUNT, but for ABSENT_EN 1, with which it stays ABSENT; up to that tick nothing happens. A CURRENT
channel out of its window whose companion so becomes RUNNING trips (after R107). -/
def Obligations.WindowEntryThenSettlingThenRunning : Prop :=
  (
  (∀ (c : Fin 512) (v : Int) (s : State), s.kind c = 1 → s.inWindow c = false → (s.cluster (clOf c)).clockLost = false → s.noSwapAt (clOf c) →
    s.clearsAt c ((s.chan c).upperCmp, (s.chan c).lowerCmp) v = true → s.act (chSettleTime c) ≠ 0 → s.ctr (clOf c) < s.deadlineDue c → ((s.chan c).state = .armed ∨ (s.chan c).state = .ramp) →
    Answers (.windowEnter ⟨c, v⟩) s (fun t => Same [.caps, .chans, .entries, .regs, .trims] s t ∧ AllBut s.chan t.chan [c.val] ∧
      RegsBut s t [chsStateSince c] ∧ t.reg (chsStateSince c) = s.ctr (clOf c) ∧ (t.chan c).state = .settle ∧
      (t.chan c).settleAt = s.ctr (clOf c) ∧ t.inWindow c = true ∧ ((s.chan c).state = .armed → (t.chan c).rampSkip = true))) ∧
  (∀ (c : Fin 512) (v : Int) (s : State), s.kind c = 1 → s.inWindow c = false → (s.cluster (clOf c)).clockLost = false → s.noSwapAt (clOf c) →
    s.clearsAt c ((s.chan c).upperCmp, (s.chan c).lowerCmp) v = true → (s.chan c).state = .absent →
    Answers (.windowEnter ⟨c, v⟩) s (fun t => Same [.caps, .chans] s t ∧ AllBut s.chan t.chan [c.val] ∧ (t.chan c).state = .absent ∧
      (t.chan c).settleAt = s.ctr (clOf c) ∧ t.inWindow c = true)) ∧
  (∀ (c : Fin 512) (v : Int) (s : State), s.kind c = 1 → s.inWindow c = false → (s.cluster (clOf c)).clockLost = false → s.noSwapAt (clOf c) →
    s.clearsAt c ((s.chan c).upperCmp, (s.chan c).lowerCmp) v = true → s.deadlineDue c = s.ctr (clOf c) → ((s.chan c).state = .armed ∨ (s.chan c).state = .ramp) →
    Answers (.windowEnter ⟨c, v⟩) s (fun t => Same [.caps, .chans] s t ∧ AllBut s.chan t.chan [c.val] ∧ (t.chan c).state = (s.chan c).state ∧
      t.inWindow c = true)) ∧
  (∀ (c : Fin 512) (v : Int) (s : State), s.kind c = 1 → s.inWindow c = false → (s.cluster (clOf c)).clockLost = false → s.noSwapAt (clOf c) →
    s.clearsAt c ((s.chan c).upperCmp, (s.chan c).lowerCmp) v = true → s.deadlineDue c < s.ctr (clOf c) → ((s.chan c).state = .armed ∨ (s.chan c).state = .ramp) →
    Answers (.windowEnter ⟨c, v⟩) s (fun t => AllBut s.chan t.chan [c.val] ∧ (t.chan c).state = .absent ∧ t.inWindow c = true ∧
      (t.chan c).settleAt = s.ctr (clOf c) ∧ t.reg (chsStateSince c) = s.deadlineDue c)) ∧
  (∀ (c : Fin 512) (v : Int) (s : State), s.clearsAt c ((s.chan c).upperCmp, (s.chan c).lowerCmp) v = true ↔
    ((s.chan c).upperCmp = true → v < (s.act (chUpperCode c) : Int) * 2343750 - s.act (chHysteresis c) * 2343750) ∧
    ((s.chan c).lowerCmp = true → (s.act (chLowerCode c) : Int) * 2343750 + s.act (chHysteresis c) * 2343750 < v)) ∧
  (∀ (c : Fin 512) (v : Int) (s : State), (s.cluster (clOf c)).clockLost = false → s.noSwapAt (clOf c) →
    (s.inWindow c = true ∨ s.clearsAt c ((s.chan c).upperCmp, (s.chan c).lowerCmp) v = false) → exec (.windowEnter ⟨c, v⟩) s = .next s))
  ∧ (
  (∀ (c : Fin 512) (s : State), s.kind c = 1 → s.inWindow c = true → (s.cluster (clOf c)).clockLost = false → s.noSwapAt (clOf c) →
    s.settleDue c < s.ctr (clOf c) → (∀ d < 512, s.kind d = 2 → s.act (chCompanion d) = c.val → s.inWindow d = true) →
    ((s.chan c).state = .settle → s.settleDue c ≤ s.deadlineDue c →
      Answers (.settleTimeExpire c) s (fun t => Same [.caps, .chans, .entries, .regs, .trims] s t ∧ AllBut s.chan t.chan [c.val] ∧
        RegsBut s t [chsStateSince c] ∧ t.reg (chsStateSince c) = s.settleDue c ∧ (t.chan c).state = .running)) ∧
    ((s.chan c).state = .absent → s.act (chAbsentEn c) = 1 → exec (.settleTimeExpire c) s = .next s) ∧
    ((s.chan c).state = .absent → s.act (chAbsentEn c) = 0 → Answers (.settleTimeExpire c) s (fun t => Same [.caps, .chans, .entries, .regs, .trims, .events] s t ∧
      AllBut s.chan t.chan [c.val] ∧ RegsBut s t [chsStateSince c, chsRecoverCount c, evEventsLost] ∧ (t.chan c).state = .running ∧
      t.reg (chsStateSince c) = s.settleDue c ∧
      (t.chan c).recovered = true ∧ t.reg (chsRecoverCount c) = sat16 (s.reg (chsRecoverCount c)) ∧
      (s.enters (clOf c + 1) → t.recorded (clOf c + 1) 0x13 (s.chPart c) false (two c))))) ∧
  (∀ (c : Fin 512) (s : State), s.noSwapAt (clOf c) → s.ctr (clOf c) ≤ s.settleDue c → exec (.settleTimeExpire c) s = .next s) ∧
  (∀ (c : Fin 512) (d : Nat) (s : State), s.kind c = 1 → s.inWindow c = true → (s.cluster (clOf c)).clockLost = false →
    s.noSwapAt (clOf c) → s.settleDue c < s.ctr (clOf c) → s.settleDue c ≤ s.deadlineDue c → (s.chan c).state = .settle →
    (s.companions c).filter (fun e => !s.inWindow e && (s.chan e).state != .tripped) = [d] → (s.part (s.chPart d)).line = false →
    Answers (.settleTimeExpire c) s (fun t => ShutDown s t (s.chPart d) 1 ∧ (t.chan d).state = .tripped)))

/-- The deadline (after R55, R57), with no swap due and the tick of the deadline past (log 11): an ARMED, RAMP or SETTLE channel becomes ABSENT from
that tick with ABSENT_COUNT and EV 0x11, its enable deasserted when ABSENT_EN is 1, at the return of the clock where its cluster's is lost, and else
held; a settle timer that expired at that tick or earlier has won. Up to the tick of the deadline, with no settle timer due, nothing happens. CLEAR
returns the counters 0x07 to 0x0D of its channel to their defaults (after R62, R63), for OWNER and the channel's own partition; any other role ends
with ST 0x0201, any other value than 1 with ST 0x0301. A channel without a result for four refresh periods, with what delayed its visit added, or
whose cluster's clock is lost, reads STALE. A VIO bank that is lost leaves the latches of its enables without a configuration (after R468); when it
returns, each enable that is in use takes the committed mode and polarity, and the level that it had. No other bank's enables change. -/
def Obligations.DeadlinesClearStaleAndVioBanks : Prop :=
  (
  (∀ (c : Fin 512) (s : State), s.kind c = 1 → (s.cluster (clOf c)).clockLost = false → s.noSwapAt (clOf c) →
    s.deadlineDue c < s.ctr (clOf c) →
    ((s.chan c).state = .armed ∨ (s.chan c).state = .ramp ∨ ((s.chan c).state = .settle ∧
      (s.inWindow c = false ∨ s.deadlineDue c < s.settleDue c))) →
    Answers (.deadlineExpire c) s (fun t => Same [.caps, .chans, .entries, .regs, .trims, .ens, .events] s t ∧
      AllBut s.chan t.chan [c.val] ∧ AllBut s.en t.en [s.act (chEnable c)] ∧ RegsBut s t [chsStateSince c, chsAbsentCount c, evEventsLost] ∧
      (t.chan c).state = .absent ∧ t.reg (chsStateSince c) = s.deadlineDue c ∧ t.reg (chsAbsentCount c) = sat16 (s.reg (chsAbsentCount c)) ∧
      (s.enters (clOf c + 1) → t.recorded (clOf c + 1) 0x11 (s.chPart c) false (two c)) ∧
      (s.act (chAbsentEn c) = 1 → s.act (chEnable c) < 256 →
        ((s.cluster (enCl (s.act (chEnable c)))).clockLost = false → (t.en (s.act (chEnable c))).asserted = false) ∧
        ((s.cluster (enCl (s.act (chEnable c)))).clockLost = true →
          t.en (s.act (chEnable c)) = { s.en (s.act (chEnable c)) with order := some false })) ∧
      (s.act (chAbsentEn c) ≠ 1 → t.ens = s.ens))) ∧
  (∀ (c : Fin 512) (s : State), s.kind c = 1 → s.inWindow c = true → (s.cluster (clOf c)).clockLost = false → s.noSwapAt (clOf c) →
    s.settleDue c < s.ctr (clOf c) → (s.chan c).state = .settle → s.settleDue c ≤ s.deadlineDue c →
    (∀ d < 512, s.kind d = 2 → s.act (chCompanion d) = c.val → s.inWindow d = true) →
    Answers (.deadlineExpire c) s (fun t => Same [.caps, .chans, .entries, .regs, .trims] s t ∧ (t.chan c).state = .running)) ∧
  (∀ (c : Fin 512) (s : State), s.noSwapAt (clOf c) → s.ctr (clOf c) ≤ s.deadlineDue c → s.ctr (clOf c) ≤ s.settleDue c →
    exec (.deadlineExpire c) s = .next s))
  ∧ (
  (
  (∀ (r : Role) (c : Fin 512) (s : State), s.hears r → ownerOr r (s.chPart c) = true →
    Answers (.clear r c 1) s (fun t =>
      ItemEnds r [] [chsMinResult c, chsMaxResult c, chsTripCount c, chsLastTripTick c, chsAbsentCount c, chsRecoverCount c,
        chsWindowExits c] s t 0 ∧
      t.reg (chsMinResult c) = 65535 ∧ t.reg (chsMaxResult c) = 0 ∧ t.reg (chsTripCount c) = 0 ∧ t.reg (chsLastTripTick c) = 0 ∧
      t.reg (chsAbsentCount c) = 0 ∧ t.reg (chsRecoverCount c) = 0 ∧ t.reg (chsWindowExits c) = 0)) ∧
  (∀ (r : Role) (c : Fin 512) (v : Byte) (s : State), s.hears r → ownerOr r (s.chPart c) = false →
    Answers (.clear r c v) s (fun t => ItemEnds r [] [] s t 0x0201)) ∧
  (∀ (r : Role) (c : Fin 512) (v : Byte) (s : State), s.hears r → ownerOr r (s.chPart c) = true → v ≠ 1 →
    Answers (.clear r c v) s (fun t => ItemEnds r [] [] s t 0x0301)) ∧
  (∀ (c : Fin 512) (s : State), s.kind c ≠ 0 →
    (s.reg (chsResultTick c) * 10 + (4 * s.refreshBase (clOf c) (groupIn c) + (s.chan c).late) ≤ s.ctr (clOf c) * 10 ∨
      (s.cluster (clOf c)).clockLost = true) →
    Answers (.stale c) s (fun t => Same [.chans] s t ∧ AllBut s.chan t.chan [c.val] ∧ t.chan c = { s.chan c with stale := true })))
  ∧ (
  (∀ (b : VioBank) (s : State), Answers (.vioBankLoss b) s (fun t => Same [.vioLost, .ens] s t ∧ vioNum b ∈ t.vioLost ∧
    AllBut s.en t.en (bankEnables (vioNum b)) ∧
    ∀ e ∈ bankEnables (vioNum b), t.en e = { s.en e with configured := false, mode := 0, polarity := 0 })) ∧
  (∀ (b : VioBank) (s : State), s.committed = true → Answers (.vioBankReturn b) s (fun t => Same [.vioLost, .ens] s t ∧
    vioNum b ∉ t.vioLost ∧ (∀ n, n ≠ vioNum b → (n ∈ t.vioLost ↔ n ∈ s.vioLost)) ∧ AllBut s.en t.en (bankEnables (vioNum b)) ∧
    ∀ e ∈ bankEnables (vioNum b), s.act (chEnMode e) ≠ 0 →
      t.en e = { s.en e with configured := true, mode := s.act (chEnMode e), polarity := s.enPolarity e }))))


/-! ### Integrating measurement -/

/-- The resolution of a result by its window length and its rounding (R79): the mean is rounded to the nearest step, halves up, with the bits beyond
the resolution 0; at or below 0 V it reads 0, and from a rounded 2.400 V on 65,535. Means in nV, window lengths in ps. -/
def Obligations.ResultsRoundToTheirResolution : Prop :=
  (∀ ps : Nat, (500000 ≤ ps → ps < 1000000 → resolution ps = 11) ∧ (1000000 ≤ ps → ps < 2000000 → resolution ps = 12) ∧
    (2000000 ≤ ps → ps < 4000000 → resolution ps = 13) ∧ (4000000 ≤ ps → ps < 8000000 → resolution ps = 14) ∧
    (8000000 ≤ ps → ps < 16000000 → resolution ps = 15) ∧ (16000000 ≤ ps → ps ≤ 1024000000 → resolution ps = 16)) ∧
  (∀ (ps : Nat) (mean : Int), mean ≤ 0 → resultOf ps mean = 0) ∧
  (∀ (ps : Nat) (mean : Int), 0 < mean → ∃ q : Nat,
    2 * (q : Int) * 2400000000 ≤ 2 * mean * 2 ^ resolution ps + 2400000000 ∧
    2 * mean * 2 ^ resolution ps + 2400000000 < 2 * ((q : Int) + 1) * 2400000000 ∧
    (q < 2 ^ resolution ps → resultOf ps mean = q * 2 ^ (16 - resolution ps)) ∧ (2 ^ resolution ps ≤ q → resultOf ps mean = 65535))

/-- The visit of a channel ends with its result (after R26, R43, R44, R65, R67): when its window is measured, it is its turn and the window has had
its time, and no open-wire pair is next. The result is kept for the other planes; while the telemetry island is up RESULT, its stamp, the rail value
and the extremes are published from the settings with which the window began (R73). STALE falls, and the next channel of the group, in ascending
order and round again, is next after 0.25 µs, but not before the tick for which the group is held (R77). The visit charge of a CURRENT channel
enters the counter of its sign without loss, modulo 2^64 nC, the remainder carried (R97); the first visit after a clearing of the gap integrator
counts the window alone (R98). Out of its turn or time, or before a pair, nothing happens. Open-wire tests (after R92 to R95): every 100 ms the
channels of a group that take a test have its kinds before them, and nothing else changes. A pair takes two visits, each under the settings with
which it began, and a round of the group has one. The pair of a RUNNING or MEASURE channel publishes the mean of its two results on a step of their
resolution, 65,535 the one exception (log 27), and fails from 0.200 V difference on; that of an OFF or PARKED channel publishes nothing, fails from
1.000 V on, and brings the visits of its group a visit slot later; the second failing test in succession sets OPEN_WIRE, of the latter with EV 0x14,
and the second passing one clears it. -/
def Obligations.SliceResultsAndOpenWireTests : Prop :=
  (
  (∀ (c : Fin 512) (v : Visit) (s : State), s.measures c = true → s.visitDue c (s.windowEnds c) = true → s.owNext c = none →
    Answers (.sliceResult c v) s (fun t =>
      Same [.caps, .chans, .clusters, .drives, .entries, .events, .parts, .regs, .streams, .trims] s t ∧
      (11 ∉ s.islandBad → t.reg (chsResult c) = resultOf (s.sliceWindow c).ps v.mean ∧ t.reg (chsResultTick c) = s.ctr (clOf c) ∧
        t.reg (chsRailValue c) = ofSigned 32 ((s.sliceWindow c).rail (resultOf (s.sliceWindow c).ps v.mean)) ∧
        t.reg (chsMinResult c) = min (s.reg (chsMinResult c)) (t.reg (chsResult c)) ∧
        t.reg (chsMaxResult c) = max (s.reg (chsMaxResult c)) (t.reg (chsResult c))) ∧
      (t.chan c).res = resultOf (s.sliceWindow c).ps v.mean ∧ (t.chan c).resAt = s.ctr (clOf c) ∧
      (t.chan c).rail = (s.sliceWindow c).rail (resultOf (s.sliceWindow c).ps v.mean) ∧ (t.chan c).stale = false ∧ (t.chan c).late = 0 ∧
      t.nextIn (clOf c) (groupIn c) =
        ((s.boundIn (clOf c) (groupIn c)).find? (fun d => decide (c.val < d))).or (s.boundIn (clOf c) (groupIn c)).head? ∧
      (t.round (clOf c) (groupIn c)).opens = max (s.ctr (clOf c) + 25) (s.round (clOf c) (groupIn c)).hold ∧
      ((s.sliceWindow c).kind = 2 → ∀ q : Int, q = (s.sliceWindow c).charge v.mean
          (if (s.chan c).gapClear = true then 0 else clampInt (-gapMax) gapMax v.gap) →
        (0 ≤ q → t.reg (clsChargeNeg (clOf c) (c.val % 64)) = s.reg (clsChargeNeg (clOf c) (c.val % 64)) ∧
          ∃ w, (t.reg (clsChargePos (clOf c) (c.val % 64)) + 18446744073709551616 * w) * unitCharge + (t.chan c).chargeRem =
            s.reg (clsChargePos (clOf c) (c.val % 64)) * unitCharge + (s.chan c).chargeRem + q.natAbs) ∧
        (q < 0 → t.reg (clsChargePos (clOf c) (c.val % 64)) = s.reg (clsChargePos (clOf c) (c.val % 64)) ∧
          ∃ w, (t.reg (clsChargeNeg (clOf c) (c.val % 64)) + 18446744073709551616 * w) * unitCharge + (t.chan c).chargeRemN =
            s.reg (clsChargeNeg (clOf c) (c.val % 64)) * unitCharge + (s.chan c).chargeRemN + q.natAbs)))) ∧
  (∀ (c : Fin 512) (v : Visit) (s : State), s.measures c = false ∨ s.visitDue c (s.windowEnds c) = false ∨ s.owNext c ≠ none →
    exec (.sliceResult c v) s = .next s))
  ∧ (
  (∀ (n g : Fin 8) (s : State), s.committed = true → (s.cluster n).clockLost = false →
    (∀ a, tabFind (s.cluster n).owAt g = some a → a + 10000000 ≤ s.now) → ((s.cluster n).sliceMap[g.val]?).join ≠ none →
    Answers (.openWireTest n g) s (fun t => Same [.chans, .clusters] s t ∧ AllBut s.cluster t.cluster [n.val] ∧
      (∀ c, t.chan c = { s.chan c with owKinds := (t.chan c).owKinds }) ∧
      (∀ c, c ∉ s.boundIn n g → t.chan c = s.chan c) ∧
      ∀ c ∈ s.boundIn n g, (t.chan c).owKinds = if s.owOff c = true ∨ s.owRun c = true then [true, false].filter (s.owFits c)
        else (s.chan c).owKinds)) ∧
  (∀ ps a b : Nat, (pairMean ps a b = 65535 ∧ 131070 ≤ a + b + 2 ^ (16 - resolution ps)) ∨
    (pairMean ps a b % 2 ^ (16 - resolution ps) = 0 ∧ a + b < 2 * pairMean ps a b + 2 ^ (16 - resolution ps) ∧
      2 * pairMean ps a b ≤ a + b + 2 ^ (16 - resolution ps))) ∧
  (∀ (c : Nat) (s : State), (s.round (clOf c) (groupIn c)).tested = true → s.owNext c = none) ∧
  (∀ (c : Fin 512) (first second : Visit) (a b : Nat) (s : State), s.owNext c = some true → s.measures c = true →
    s.visitDue c (s.pairEnds c) = true → a = resultOf (s.sliceWindow c).ps first.mean → b = resultOf (s.pairWindow c).ps second.mean →
    Answers (.openWireResult c first second) s (fun t =>
      Same [.caps, .chans, .clusters, .drives, .entries, .events, .parts, .regs, .streams, .trims] s t ∧
      (11 ∉ s.islandBad → t.reg (chsResult c) = pairMean (s.pairWindow c).ps a b) ∧ (t.chan c).res = pairMean (s.pairWindow c).ps a b ∧
      (13107200000 ≤ ((a : Int) - b).natAbs * 2400000 → (t.chan c).owFails = (s.chan c).owFails + 1 ∧ (t.chan c).owPasses = 0 ∧
        (1 ≤ (s.chan c).owFails → (t.chan c).openWire = true)) ∧
      (((a : Int) - b).natAbs * 2400000 < 13107200000 → (t.chan c).owFails = 0 ∧ (t.chan c).owPasses = (s.chan c).owPasses + 1 ∧
        (1 ≤ (s.chan c).owPasses → (t.chan c).openWire = false)))) ∧
  (∀ (c : Fin 512) (first second : Visit) (a b : Nat) (s : State), s.owNext c = some false → s.measures c = true →
    s.visitDue c (s.pairEnds c) = true → (s.chan c).marginPend = none → a = resultOf (s.sliceWindow c).ps first.mean →
    b = resultOf (s.pairWindow c).ps second.mean →
    Answers (.openWireResult c first second) s (fun t => Same [.chans, .clusters, .events, .parts, .regs] s t ∧
      (∀ d, d ≠ c.val → t.chan d = { s.chan d with late := (t.chan d).late }) ∧
      (∀ d, (t.chan d).late = (s.chan d).late +
        if d ∈ s.boundIn (clOf c) (groupIn c) then ((s.sliceWindow c).ps + 250000) / 1000 else 0) ∧
      (t.round (clOf c) (groupIn c)).tested = (s.boundIn (clOf c) (groupIn c)).any (fun d => decide (c.val < d)) ∧
      RegsBut s t [clsChargePos (clOf c) (c.val % 64), clsChargeNeg (clOf c) (c.val % 64), evEventsLost] ∧
      (65536000000 ≤ ((a : Int) - b) * 2400000 → (t.chan c).owFails = (s.chan c).owFails + 1 ∧ (t.chan c).owPasses = 0 ∧
        (1 ≤ (s.chan c).owFails → (t.chan c).openWire = true ∧
          ((s.chan c).openWire = false → s.enters (clOf c + 1) → t.recorded (clOf c + 1) 0x14 (s.chPart c) false (two c)))) ∧
      (((a : Int) - b) * 2400000 < 65536000000 → (t.chan c).owFails = 0 ∧ (t.chan c).owPasses = (s.chan c).owPasses + 1 ∧
        (1 ≤ (s.chan c).owPasses → (t.chan c).openWire = false)))) ∧
  (∀ (c : Fin 512) (first second : Visit) (s : State), s.owNext c = none ∨ s.measures c = false ∨ s.visitDue c (s.pairEnds c) = false →
    exec (.openWireResult c first second) s = .next s))

/-- The end of an epoch (after R81, R83): with the spare calibrated, the tour done and EPOCH passed, the spare takes over group EPOCH_COUNT mod 8,
the slice that served it becomes the spare, and EPOCH_COUNT increases by 1. Calibration of the spare (after R82, R86, R91): the readings are
reported and the spare is calibrated; one that is suspect keeps its mark when its reference read does not pass (log 27), and FAILS outside its
limits, with EV 0x18. REF_SUSPECT is set, with EV 0x19, by the second epoch in succession whose first calibration (log 27) reads beyond 0.20 % + 0.5
mV of 1.250 V (3,000 µV; one pin count is 2,400,000 / 65,536 µV). -/
def Obligations.EpochsRotateAndCalibrateTheSpare : Prop :=
  (
  ∀ (n : Fin 8) (s : State), s.committed = true → (s.cluster n).clockLost = false → s.spare n ≠ none → (s.cluster n).calDone = true →
    (s.cluster n).tourDone = true → (s.cluster n).epochAt + 100000 * s.act (clEpoch n) ≤ s.now → (s.cluster n).sliceMap.length = 9 →
    Answers (.epochEnd n) s (fun t => Same [.clusters, .regs] s t ∧ RegsBut s t [clsEpochCount n] ∧ AllBut s.cluster t.cluster [n.val] ∧
      t.reg (clsEpochCount n) = wrap32 (s.reg (clsEpochCount n)) ∧ (t.cluster n).sliceMap.length = 9 ∧
      (t.cluster n).sliceMap[s.reg (clsEpochCount n) % 8]? = some (s.spare n) ∧
      (t.cluster n).sliceMap[8]? = (s.cluster n).sliceMap[s.reg (clsEpochCount n) % 8]? ∧
      (∀ g < 8, g ≠ s.reg (clsEpochCount n) % 8 → (t.cluster n).sliceMap[g]? = (s.cluster n).sliceMap[g]?) ∧
      (t.cluster n).calDone = false ∧ (t.cluster n).tourDone = false))
  ∧ (
  (∀ (n : Fin 8) (k : Nat) (cal : Calibration) (s : State), s.committed = true → (s.cluster n).clockLost = false →
    (s.cluster n).calDone = false → s.spare n = some k → (bitOf (s.cluster n).suspect k = false ∨ cal.inLimits = true) →
    Answers (.spareCalibrationDone n cal) s (fun t => Same [.clusters, .events, .regs] s t ∧ AllBut s.cluster t.cluster [n.val] ∧
      RegsBut s t [clsRefResult n, clsCheckRefResult n, clsLastTourTick n, evEventsLost] ∧ t.reg (clsRefResult n) = cal.ref % 65536 ∧
      t.reg (clsCheckRefResult n) = cal.checkRef % 65536 ∧ (t.cluster n).calDone = true ∧ bitOf (t.cluster n).calibrated k = true ∧
      (t.cluster n).sliceMap = (s.cluster n).sliceMap ∧ (t.cluster n).failed = (s.cluster n).failed ∧
      (cal.refPass = false → (t.cluster n).suspect = (s.cluster n).suspect) ∧
      ((s.cluster n).refDone = false → (s.cluster n).refSuspect = false → 1 ≤ (s.cluster n).refBad →
        196608000 < ((cal.checkRef % 65536 : Nat) * (2400000 : Int) - 81920000000).natAbs →
        (t.cluster n).refSuspect = true ∧ (s.enters (n.val + 1) → t.recorded (n.val + 1) 0x19 255 false [BitVec.ofNat 8 n.val])))) ∧
  (∀ (n : Fin 8) (k : Nat) (cal : Calibration) (s : State), s.committed = true → (s.cluster n).clockLost = false →
    (s.cluster n).calDone = false → s.spare n = some k → bitOf (s.cluster n).suspect k = true → cal.inLimits = false →
    (s.cluster n).sliceMap.length = 9 →
    Answers (.spareCalibrationDone n cal) s (fun t => Same [.clusters, .events, .regs] s t ∧ AllBut s.cluster t.cluster [n.val] ∧
      bitOf (t.cluster n).failed k = true ∧ t.spare n = none ∧ (s.enters (n.val + 1) → ∃ m, t.recorded (n.val + 1) 0x18 255 false m))))

/-- A slice whose hardware fails is FAILED at once (after R88), with EV 0x18, and there is no spare: as the spare it leaves none; as an active slice
it is replaced by the spare; with no spare its group is left unserved. One that is FAILED already fails without effect. Lock sources: a drive
carrier that stops makes CL7 fall back to LOCK_PERIODS of the last carrier period, to the nearest 10 ns, with its windows in progress discarded and
EV 0x1A (after R72); when the carrier has run for 10 periods, and not before, the windows in progress complete as they began and the next ones are
LOCK windows: the fallback shows until the first of these opens. SYNCOUTs whose common origin has come start at it, with the phase of that origin,
and no other differs (after R77). -/
def Obligations.FailedSlicesAndLockSourcesFallBack : Prop :=
  (
  (∀ (n : Fin 8) (k : Fin 9) (s : State), bitOf (s.cluster n).failed k = false → (s.cluster n).sliceMap.length = 9 →
    (some k.val) ∈ (s.cluster n).sliceMap →
    Answers (.sliceHwFault n k) s (fun t => Same [.clusters, .events, .regs] s t ∧ AllBut s.cluster t.cluster [n.val] ∧
      RegsBut s t [clsEpochCount n, evEventsLost] ∧ bitOf (t.cluster n).failed k = true ∧ t.spare n = none ∧
      (s.enters (n.val + 1) → ∃ m, t.recorded (n.val + 1) 0x18 255 false m) ∧
      (s.spare n = some k.val → (t.cluster n).sliceMap = (s.cluster n).sliceMap.set 8 none) ∧
      (∀ g sp, s.spare n = some sp → sp ≠ k.val → (s.cluster n).sliceMap.findIdx? (fun m => m == some k.val) = some g →
        (t.cluster n).sliceMap = ((s.cluster n).sliceMap.set g (some sp)).set 8 none) ∧
      (∀ g, s.spare n = none → (s.cluster n).sliceMap.findIdx? (fun m => m == some k.val) = some g →
        (t.cluster n).sliceMap = (s.cluster n).sliceMap.set g none))) ∧
  (∀ (n : Fin 8) (k : Fin 9) (s : State), bitOf (s.cluster n).failed k = true → exec (.sliceHwFault n k) s = .next s))
  ∧ (
  (∀ (period : Nat) (s : State), s.act (clLockSource 7) ≠ 0 → s.act (clWindowMode 7) = 1 → (s.cluster 7).lockFall = false →
    Answers (.lockFallback period) s (fun t => Same [.clusters, .events, .regs] s t ∧ AllBut s.cluster t.cluster [7] ∧
      RegsBut s t [evEventsLost] ∧
      t.cluster 7 = { s.cluster 7 with lockFall := true, lockPeriod := period, lockAt := s.now, lockRes := false, lockOpen := none, rounds := (t.cluster 7).rounds } ∧
      (∀ g < 8, t.round 7 g = { s.round 7 g with opens := s.ctr 7, win := none, win2 := none }) ∧ t.lockShown = true ∧
      t.windowPs 7 = roundUp (s.act (clLockPeriods 7) * period) 10000 * 10000 ∧
      (s.enters 8 → t.recorded 8 0x1A 255 false [7]))) ∧
  (∀ s : State, (s.cluster 7).lockFall = true → (s.cluster 7).lockRes = false → s.act (clLockSource 7) ≠ 0 → s.carrierRuns (s.act (clLockSource 7) - 1) = true →
    (s.cluster 7).lockAt + 1000000000 / s.carrierFreq (s.act (clLockSource 7) - 1) ≤ s.now →
    Answers .lockResume s (fun t => Same [.clusters] s t ∧ AllBut s.cluster t.cluster [7] ∧
      t.cluster 7 = { s.cluster 7 with lockRes := true, lockOpen := (t.cluster 7).lockOpen, rounds := (t.cluster 7).rounds } ∧
      (s.act (clWindowMode 7) = 1 → t.windowPs 7 = s.act (clLockPeriods 7) * 1000000000000 / s.lockFreq 7) ∧
      (∀ g < 8, ∀ c, s.nextIn 7 g = some c → s.measures c = true → (s.round 7 g).opens < s.ctr 7 →
        (t.round 7 g).win = some (s.sliceWindow c) ∧ (t.round 7 g).opens = (s.round 7 g).opens))) ∧
  (∀ s : State, s.now < (s.cluster 7).lockAt + 1000000000 / s.carrierFreq (s.act (clLockSource 7) - 1) →
    exec .lockResume s = .next s) ∧
  (∀ s : State, Answers .syncoutRestart s (fun t => Same [.clusters] s t ∧ ∀ n < 8,
    (∀ a, (s.cluster n).syncRestart = some a → a ≤ s.now →
      t.cluster n = { s.cluster n with syncOrigin := some a, syncRestart := none, syncAcc := s.syncTarget n a,
                                       syncInc := syncIncrement (s.act (clSyncFreq n)) 0 }) ∧
    (∀ a, (s.cluster n).syncRestart = some a → s.now < a → t.cluster n = s.cluster n) ∧
    ((s.cluster n).syncRestart = none → t.cluster n = s.cluster n))))


/-! ### Shut-off and restart -/

/-- The ends of what a shut-off starts (after R113, R115, R116, R118, R121, R130). When DISCHARGE_TIME has passed, each enable that the discharge
asserted is inactive, but in a cluster whose clock is lost, where the order waits; the discharge has ended when none of them is asserted there; no
other enable changes, and before that time none does. TR_FLTn is released after FLT_PULSE and not before; the line stays low while another device
holds it. A line low for more than 10 ms is FLT_STUCK, with EV 0x45 once; it is cleared when the line has been high for 1 ms and this device does
not drive it, and not before. SAFE_N rises when no condition holds it low, and not before. -/
def Obligations.DischargeFaultLinesAndSafeNEnd : Prop :=
  (∀ (p : Fin 16) (k : Nat) (s : State), (s.part p).dischEnd = some k → k ≤ s.now →
    Answers (.dischargeEnd p) s (fun t => Same [.caps, .ens, .parts] s t ∧ AllBut s.part t.part [p.val] ∧
      (∀ e ∈ (s.part p).dischEns, ((s.cluster (enCl e)).clockLost = false → (t.en e).asserted = false) ∧
        ((s.cluster (enCl e)).clockLost = true → t.en e = { s.en e with order := some false })) ∧
      (∀ e, e ∉ (s.part p).dischEns → t.en e = s.en e) ∧
      (t.part p = s.part p ∧ (∃ e ∈ (s.part p).dischEns, (s.cluster (enCl e)).clockLost = true ∧ (s.en e).asserted = true) ∨
        t.part p = { s.part p with dischEnd := none, dischEns := [] } ∧
          ∀ e ∈ (s.part p).dischEns, (s.cluster (enCl e)).clockLost = true → (s.en e).asserted = false))) ∧
  (∀ (p : Fin 16) (k : Nat) (s : State), (s.part p).dischEnd = some k → s.now < k → exec (.dischargeEnd p) s = .next s) ∧
  (∀ (n : Fin 4) (k : Nat) (s : State), (s.group n).fltDrive = some k →
    (k ≤ s.now → Answers (.fltPulseEnd n) s (fun t => Same [.groups] s t ∧ AllBut s.group t.group [n.val] ∧
      t.group n = { s.group n with fltDrive := none, fltHigh := some s.now,
                                   fltLow := if (s.group n).fltPeer = true then (s.group n).fltLow else none })) ∧
    (s.now < k → exec (.fltPulseEnd n) s = .next s)) ∧
  (∀ (n : Fin 4) (k : Nat) (s : State), (s.group n).fltLow = some k → k + 1000000 < s.now → bitOf (s.reg fabsFltStuck) n = false →
    Answers (.fltStuck n) s (fun t => Same [.events, .groups, .regs] s t ∧ RegsBut s t [fabsFltStuck, evEventsLost] ∧
      AllBut s.group t.group [n.val] ∧ t.group n = { s.group n with fltHigh := some s.now } ∧
      t.reg fabsFltStuck = s.reg fabsFltStuck + 2 ^ n.val ∧
      (s.enters 1 → t.recorded 1 0x45 255 false [BitVec.ofNat 8 n]))) ∧
  (∀ (n : Fin 4) (s : State), bitOf (s.reg fabsFltStuck) n = true → exec (.fltStuck n) s = .next s) ∧
  (∀ (n : Fin 4) (s : State), (s.group n).fltDrive = none → (∀ a, (s.group n).fltHigh = some a → a + 100000 ≤ s.now) →
    bitOf (s.reg fabsFltStuck) n = true →
    Answers (.fltStuckClear n) s (fun t => Same [.groups, .regs] s t ∧ RegsBut s t [fabsFltStuck] ∧ AllBut s.group t.group [n.val] ∧
      t.group n = { s.group n with fltLow := none, fltHigh := none, fltPeer := false } ∧
      t.reg fabsFltStuck = s.reg fabsFltStuck - 2 ^ n.val)) ∧
  (∀ (n : Fin 4) (s : State), ((s.group n).fltDrive ≠ none ∨ ∃ a, (s.group n).fltHigh = some a ∧ s.now < a + 100000) →
    exec (.fltStuckClear n) s = .next s) ∧
  (∀ s : State, s.safeHeld = false → Answers .safeNRelease s (fun t => Same [.safeN] s t ∧ t.safeN = true)) ∧
  (∀ s : State, s.safeHeld = true → exec .safeNRelease s = .next s)

/-- The causes of no one channel. A falling edge of TR_FLTn that this device can see (after R119): every spanning partition of the group that is
live with its line clear is shut off with cause 0x03; no partition that is neither such nor shut off in this very tick changes line or state. With
the receiver off, or before the first commit, nothing but what is known of the line changes. A loss of the clock of a cluster (after R122): the
partitions with a connected channel in it are shut off with cause 0x02, and LAST_SHUTOFF_TICK of one with no entry set is the device time less 20
ticks; the loss is counted, all lines are untested, and EV 0x1B is raised; no other partition's line or state changes. The clock of a cluster is
back (after R59, R124), from 1 ms after the loss on and not before, in a cluster that is not isolated: the counter is reloaded from device time,
forward only, and a new epoch begins; a channel of a partition cut meanwhile is OFF or TRIPPED; with no CURRENT channel configured and no park
waiting, an ABSENT channel of another partition starts its settle timer anew, and an ARMED, RAMP or SETTLE one whose deadline has passed is ABSENT.
-/
def Obligations.FaultLineClockLossAndClockBack : Prop :=
  (
  (∀ (n : Fin 4) (s : State), (s.group n).fltDrive = none → s.committed = true → bitOf (s.act fabFltRxEnable) n = true →
    bitOf (s.reg fabsFltStuck) n = false →
    Answers (.trFltReceive n) s (fun t =>
      Same [.actions, .caps, .chans, .clusters, .drives, .ens, .entries, .events, .groups, .latches, .parts, .ports, .regs, .safeN, .trims,
        .waitMaint] s t ∧
      t.reg (fabsFltRxCount n) = sat16 (s.reg (fabsFltRxCount n)) ∧
      ∀ p < 16,
        (s.defined p = true ∧ s.groupOf p = n.val ∧ s.spanning p = true ∧ (s.part p).state.isLive = true → (s.part p).line = false →
          (t.part p).line = true ∧ (t.part p).state.isFaulted = true ∧ t.reg (shutsLastCause p) = 3 ∧ t.safeN = false ∧
          t.reg (shutsShutoffCount p) = sat16 (s.reg (shutsShutoffCount p))) ∧
        (¬(s.defined p = true ∧ s.groupOf p = n.val ∧ s.spanning p = true ∧ (s.part p).state.isLive = true) → s.cutThisTick p = false →
          (t.part p).line = (s.part p).line ∧ (t.part p).state = (s.part p).state))) ∧
  (∀ (n : Fin 4) (s : State), (s.committed = false ∨ bitOf (s.act fabFltRxEnable) n = false) →
    Answers (.trFltReceive n) s (fun t => Same [.groups] s t ∧ AllBut s.group t.group [n.val])) ∧
  (∀ (n : Fin 8) (s : State), (s.cluster n).clockLost = false →
    Answers (.clusterClockLoss n) s (fun t =>
      Same [.actions, .caps, .chans, .clusters, .drives, .ens, .entries, .events, .groups, .latches, .parts, .ports, .regs, .safeN, .trims,
        .waitMaint] s t ∧
      (∀ m < 8, m ≠ n.val → t.cluster m = { s.cluster m with lostParts := (t.cluster m).lostParts }) ∧
      t.cluster n = { s.cluster n with clockLost := true, lostAt := (s.cluster n).counter, lostTime := s.now,
                                       lostParts := (t.cluster n).lostParts, lostHits := (t.cluster n).lostHits } ∧
      t.reg fabsFabricUntested = 65535 ∧ t.reg fabsClkLossCount = sat16 (s.reg fabsClkLossCount) ∧
      (s.enters 9 → t.recorded 9 0x1B 255 false [BitVec.ofNat 8 n]) ∧
      ∀ p < 16,
        (p ∈ s.lossHits n → (s.part p).line = false → (t.part p).line = true ∧ (t.part p).state.isFaulted = true ∧
          t.reg (shutsLastCause p) = 2 ∧ t.safeN = false ∧
          ((∀ m < 8, (s.latch m p).isSet = false) → t.reg (shutsLastShutoffTick p) = s.now - 20)) ∧
        (p ∉ s.lossHits n → (t.part p).line = (s.part p).line ∧ (t.part p).state = (s.part p).state))) ∧
  (∀ (n : Fin 8) (s : State), (s.cluster n).clockLost = true → exec (.clusterClockLoss n) s = .next s))
  ∧ (
  (∀ (n : Fin 8) (s : State), (s.cluster n).clockLost = true → (s.cluster n).lostTime + 100000 ≤ s.now → n.val + 1 ∉ s.stalled →
    Answers (.clusterClockBack n) s (fun t =>
      Same [.actions, .caps, .chans, .clusters, .drives, .ens, .entries, .events, .groups, .latches, .parts, .ports, .regs, .safeN, .trims,
        .waitMaint] s t ∧
      (∀ m < 8, m ≠ n.val → t.cluster m = { s.cluster m with lostParts := (t.cluster m).lostParts }) ∧
      (t.cluster n).clockLost = false ∧ (t.cluster n).counter = max (s.cluster n).counter s.now ∧
      (t.cluster n).epochAt = s.now ∧ (t.cluster n).calDone = false ∧
      (∀ c < 512, clOf c = n.val → s.kind c = 1 → bitOf (s.cluster n).lostParts (s.chPart c) = true →
        (t.chan c).state = .off ∨ (t.chan c).state = .tripped) ∧
      ((∀ d < 512, s.kind d ≠ 2) → ∀ c < 512, clOf c = n.val → s.kind c = 1 → bitOf (s.cluster n).lostParts (s.chPart c) = false →
        (s.chan c).parkPend = false →
        ((s.chan c).state = .absent → (t.chan c).state = .absent ∧ (t.chan c).settleAt = (t.cluster n).counter) ∧
        ((s.chan c).state = .armed ∨ (s.chan c).state = .ramp ∨ (s.chan c).state = .settle →
          s.deadlineDue c ≤ (t.cluster n).counter → (t.chan c).state = .absent)))) ∧
  (∀ (n : Fin 8) (s : State), ((s.cluster n).clockLost = false ∨ s.now < (s.cluster n).lostTime + 100000 ∨ n.val + 1 ∈ s.stalled) →
    exec (.clusterClockBack n) s = .next s))

/-- RESTART and the retry (after R115, R121, R126, R127, R138, R270): a partition that is shut off leaves FAULTED with its line released and enters
STARTING, or goes on to UP, or to STOPPING above its goal, or is DOWN where its group and goal are at 0. A retry comes at its time, when nothing
holds it back, and is counted, with EV 0x1C; one that finds a rail held high is not made, with EV 0x1E. A RESTART by OWNER or by the partition's own
role waits for the discharge and for TR_FLT; for a LOCKED_OUT partition another role than OWNER has ST 0x0201, under a thermal hold the answer is ST
0x0507, and for a partition that is not shut off ST 0x0503. FORCE_OFF (after R108, R113, R125): the partition is shut off with cause 0x06; written
for one that was shut off in an earlier tick it cancels the retry that is to come. OWNER and the partition's own role have the right; another has ST
0x0201. -/
def Obligations.RestartRetryAndForceOff : Prop :=
  (
  (∀ (p : Fin 16) (k : Nat) (s : State), (s.part p).retryAt = some k → k ≤ s.now → s.retryReady p = true → (s.part p).state = .faulted →
    (s.heldHigh p = none → Answers (.retryDue p) s (fun t =>
      Same [.actions, .caps, .chans, .clusters, .drives, .ens, .entries, .events, .latches, .log, .parts, .regs, .trims] s t ∧
      AllBut s.part t.part [p.val] ∧ (t.part p).line = false ∧
      (s.grpState (s.groupOf p) = 0 ∧ s.goalOf (s.groupOf p) = 0 → (t.part p).state = .down) ∧
      (s.grpState (s.groupOf p) ≤ s.goalOf (s.groupOf p) → 0 < s.goalOf (s.groupOf p) →
        (t.part p).state = .starting ∨ (t.part p).state = .up) ∧
      (s.goalOf (s.groupOf p) < s.grpState (s.groupOf p) → (t.part p).state = .starting ∨ (t.part p).state = .stopping) ∧
      (t.part p).retryAt = none ∧
      t.reg (shutsRetriesUsed p) = s.reg (shutsRetriesUsed p) + 1 ∧ t.reg (shutsNextRetryTick p) = 0 ∧
      (s.enters (s.homeDom p) → t.recorded (s.homeDom p) 0x1C p false [BitVec.ofNat 8 (s.reg (shutsRetriesUsed p) + 1)]))) ∧
    (∀ c, s.heldHigh p = some c → Answers (.retryDue p) s (fun t => Same [.events, .parts, .regs] s t ∧ AllBut s.part t.part [p.val] ∧
      RegsBut s t [shutsRetriesUsed p, shutsNextRetryTick p, evEventsLost] ∧ t.part p = { s.part p with retryAt := none } ∧
      t.reg (shutsRetriesUsed p) = s.reg (shutsRetriesUsed p) + 1 ∧
      (s.enters (s.homeDom p) → t.recorded (s.homeDom p) 0x1E p false (two c))))) ∧
  (∀ (p : Fin 16) (k : Nat) (s : State), (s.part p).retryAt = some k → (s.now < k ∨ s.retryReady p = false) →
    exec (.retryDue p) s = .next s) ∧
  (∀ (r : Role) (p : Fin 16) (s : State), s.hears r → ownerOr r p = true →
    ((s.part p).state = .faulted ∨ ((s.part p).state = .lockedOut ∧ r = .owner)) →
    (s.thermal.hotShut.inForce && bitOf (s.act thShutMap) p) = false →
    (s.restartWaits p = false → Answers (.restart r p 1) s (fun t =>
      Same [.actions, .caps, .chans, .clusters, .drives, .ens, .entries, .events, .latches, .log, .parts, .regs, .reply, .status, .trims] s t ∧
      AllBut s.part t.part [p.val] ∧ (t.part p).line = false ∧
      (s.grpState (s.groupOf p) = 0 ∧ s.goalOf (s.groupOf p) = 0 → (t.part p).state = .down) ∧
      (s.grpState (s.groupOf p) ≤ s.goalOf (s.groupOf p) → 0 < s.goalOf (s.groupOf p) →
        (t.part p).state = .starting ∨ (t.part p).state = .up) ∧
      (s.goalOf (s.groupOf p) < s.grpState (s.groupOf p) → (t.part p).state = .starting ∨ (t.part p).state = .stopping) ∧
      (t.part p).retryAt = none ∧ t.reg (shutsRetriesUsed p) = 0 ∧ t.status = 0)) ∧
    (s.restartWaits p = true → Answers (.restart r p 1) s (fun t =>
      ItemEnds r [.parts] [shutsRetriesUsed p, shutsNextRetryTick p] s t 2 ∧ AllBut s.part t.part [p.val] ∧
      t.part p = { s.part p with retryAt := none, startPend := true }))) ∧
  (∀ (p : Fin 16) (s : State), s.serves = true → s.defined p = true → (s.part p).state = .lockedOut →
    Answers (.restart (.partition p) p 1) s (fun t => ItemEnds (.partition p) [] [] s t 0x0201)) ∧
  (∀ (r : Role) (p : Fin 16) (v : Byte) (s : State), s.hears r → ownerOr r p = false →
    Answers (.restart r p v) s (fun t => ItemEnds r [] [] s t 0x0201)) ∧
  (∀ (p : Fin 16) (s : State), s.serves = true → (s.part p).state.isFaulted = true → s.thermal.hotShut.inForce = true →
    bitOf (s.act thShutMap) p = true → Answers (.restart .owner p 1) s (fun t => ItemEnds .owner [] [] s t 0x0507)) ∧
  (∀ (p : Fin 16) (s : State), s.serves = true → (s.part p).state.isFaulted = false →
    Answers (.restart .owner p 1) s (fun t => ItemEnds .owner [] [] s t 0x0503)))
  ∧ (
  (∀ (r : Role) (p : Fin 16) (s : State), s.hears r → ownerOr r p = true → (s.part p).line = false →
    Answers (.forceOff r p 1) s (fun t =>
      Same [.actions, .caps, .chans, .clusters, .drives, .ens, .entries, .events, .groups, .latches, .parts, .ports, .regs, .reply, .safeN,
        .status, .trims, .waitMaint] s t ∧
      ShutDown s t p 6 ∧ t.status = 0)) ∧
  (∀ (r : Role) (p : Fin 16) (s : State), s.hears r → ownerOr r p = true → (s.part p).line = true → s.cutThisTick p = false →
    Answers (.forceOff r p 1) s (fun t => ItemEnds r [.latches, .parts] [shutsNextRetryTick p] s t 0 ∧ AllBut s.part t.part [p.val] ∧
      t.part p = { s.part p with retryAt := none, startPend := false } ∧ t.reg (shutsNextRetryTick p) = 0)) ∧
  (∀ (r : Role) (p : Fin 16) (v : Byte) (s : State), s.hears r → ownerOr r p = false →
    Answers (.forceOff r p v) s (fun t => ItemEnds r [] [] s t 0x0201)))


/-! ### Sequences -/

/-- The barrier (after R134, R135, R169, R170), with a configuration and a step cluster: when the group is at its goal a high level of the line
counts a glitch and nothing else; else, while nothing holds the line low, the group state moves one state toward the goal; unless a timer of a
channel is overdue, the advance is counted, the guard begins, no other group and no goal changes, and no partition of another group. While something
holds the line of a group that is not at its goal, and when the group was zeroed in this tick, nothing happens. The guard ends after 1 µs and not
before. GROUP_RESET by OWNER returns state and count to 0, is refused with ST 0x0505 while a partition of the group is a member (after R183), and
another role has ST 0x0201. -/
def Obligations.BarrierAdvancesOneState : Prop :=
  (∀ (n : Fin 4) (s : State), s.committed = true → s.stepCluster n ≠ none → (s.group n).zeroedAt ≠ some s.now →
    (s.grpState n = s.goalOf n → Answers (.barrierAdvance n) s (fun t => Same [.regs] s t ∧ RegsBut s t [tresGrpGlitchCount n] ∧
      t.reg (tresGrpGlitchCount n) = sat16 (s.reg (tresGrpGlitchCount n)))) ∧
    (s.grpState n ≠ s.goalOf n → s.heldLow n = false → Answers (.barrierAdvance n) s (fun t =>
      Same sweepFlds s t ∧
      (s.grpState n < s.goalOf n → t.grpState n = s.grpState n + 1) ∧ (s.goalOf n < s.grpState n → t.grpState n = s.grpState n - 1) ∧
      t.reg (grpsLastAdvanceTick n) = s.now ∧
      ((∀ c < 512, s.timersIdle c) →
        Same [.actions, .caps, .chans, .clusters, .drives, .ens, .entries, .events, .groups, .parts, .regs, .trims] s t ∧
        (∀ m < 4, t.goalOf m = s.goalOf m ∧ (m ≠ n.val → t.grpState m = s.grpState m)) ∧ AllBut s.group t.group [n.val] ∧
        (t.group n).guardFrom = some s.now ∧ t.reg (tresGrpAdvanceCount n) = (s.reg (tresGrpAdvanceCount n) + 1) % 65536 ∧
        ∀ p, p ∉ s.groupParts n → t.part p = s.part p))) ∧
    (s.grpState n ≠ s.goalOf n → s.heldLow n = true → exec (.barrierAdvance n) s = .next s)) ∧
  (∀ (n : Fin 4) (s : State), (s.committed = false ∨ s.stepCluster n = none ∨ (s.group n).zeroedAt = some s.now) →
    exec (.barrierAdvance n) s = .next s) ∧
  (∀ (n : Fin 4) (k : Nat) (s : State), (s.group n).guardFrom = some k →
    (k + 100 ≤ s.now → Answers (.guardEnd n) s (fun t => Same [.groups] s t ∧ AllBut s.group t.group [n.val] ∧
      t.group n = { s.group n with guardFrom := none })) ∧
    (s.now < k + 100 → exec (.guardEnd n) s = .next s)) ∧
  (∀ (n : Fin 4) (s : State), s.serves = true → (∀ p ∈ s.groupParts n, s.member p = false) →
    Answers (.groupReset .owner n 1) s (fun t => ItemEnds .owner [.groups] [grpsState n, tresGrpAdvanceCount n] s t 0 ∧ t.grpState n = 0 ∧
      t.reg (tresGrpAdvanceCount n) = 0 ∧ AllBut s.group t.group [n.val] ∧ t.group n = { s.group n with zeroedAt := some s.now })) ∧
  (∀ (n : Fin 4) (p : Nat) (s : State), s.serves = true → p ∈ s.groupParts n → s.member p = true →
    Answers (.groupReset .owner n 1) s (fun t => ItemEnds .owner [] [] s t 0x0505)) ∧
  (∀ (r : Role) (n : Fin 4) (v : Byte) (s : State), s.hears r → r ≠ .owner →
    Answers (.groupReset r n v) s (fun t => ItemEnds r [] [] s t 0x0201))

/-- GOAL, START and STOP (after R137, R138, R155, R160, R309), with no switch in its check. GOAL by OWNER with 0 to 254 sets the goal of its group,
moves no group by itself, and changes no partition line and no partition of another group; 255 has ST 0x0301 and another role ST 0x0201. START by
OWNER or the partition's own role makes a DOWN partition a member, in STARTING or UP when its group or goal is above 0, or in STOPPING above its
goal, or waits while its start is held, with EV 0x43; before the first commit it has ST 0x050B. STOP takes a partition that is STARTING, UP or
STOPPING to STOPPING or DOWN, unless a timer of a channel is overdue, and ends the pending start or the membership of one that is DOWN. A partition
that is shut off refuses both with ST 0x0504. A pending start is made when nothing holds it, and not before; no command here changes the line of a
partition that is not shut off. -/
def Obligations.GoalStartAndStopMoveMembers : Prop :=
  (∀ (n : Fin 4) (v : Byte) (s : State), s.serves = true → v.toNat ≠ 255 → s.switchChecks = false →
    Answers (.goal .owner n v) s (fun t =>
      Same (sweepFlds ++ [.reply, .status]) s t ∧ t.status = 0 ∧ t.goalOf n = v.toNat ∧
      ((∀ c < 512, s.timersIdle c) →
        Same [.actions, .caps, .chans, .clusters, .drives, .ens, .entries, .events, .parts, .regs, .reply, .status, .trims, .waitMaint] s t ∧
        (∀ m < 4, t.grpState m = s.grpState m ∧ (m ≠ n.val → t.goalOf m = s.goalOf m)) ∧
        (∀ p, (t.part p).line = (s.part p).line) ∧ ∀ p, p ∉ s.groupParts n → t.part p = s.part p))) ∧
  (∀ (n : Fin 4) (s : State), s.serves = true → Answers (.goal .owner n 255) s (fun t => ItemEnds .owner [] [] s t 0x0301)) ∧
  (∀ (n : Fin 4) (p : Fin 16) (v : Byte) (s : State), s.serves = true → s.defined p = true →
    Answers (.goal (.partition p) n v) s (fun t => ItemEnds (.partition p) [] [] s t 0x0201)) ∧
  (∀ (r : Role) (p : Fin 16) (s : State), s.hears r → ownerOr r p = true → s.committed = true → s.switchChecks = false →
    (s.part p).state = .down → s.member p = false →
    (s.startHeld p = false → Answers (.start r p 1) s (fun t =>
      Same [.actions, .caps, .chans, .clusters, .drives, .ens, .entries, .events, .parts, .regs, .reply, .status, .trims] s t ∧ AllBut s.part t.part [p.val] ∧
      t.status = 0 ∧ t.member p = true ∧ (t.part p).line = (s.part p).line ∧
      (s.grpState (s.groupOf p) ≤ s.goalOf (s.groupOf p) → 0 < s.goalOf (s.groupOf p) →
        (t.part p).state = .starting ∨ (t.part p).state = .up) ∧
      (s.goalOf (s.groupOf p) < s.grpState (s.groupOf p) → (t.part p).state = .starting ∨ (t.part p).state = .stopping) ∧
      (s.grpState (s.groupOf p) = 0 → s.goalOf (s.groupOf p) = 0 → (t.part p).state = .down))) ∧
    (s.startHeld p = true → (s.part p).startPend = false → Answers (.start r p 1) s (fun t =>
      ItemEnds r [.parts, .events] [evEventsLost] s t 0 ∧ AllBut s.part t.part [p.val] ∧
      t.part p = { s.part p with startPend := true } ∧ (s.enters (s.homeDom p) → t.recorded (s.homeDom p) 0x43 p false [])))) ∧
  (∀ (r : Role) (p : Fin 16) (s : State), s.hears r → ownerOr r p = true → s.committed = false →
    Answers (.start r p 1) s (fun t => ItemEnds r [] [] s t 0x050B)) ∧
  (∀ (r : Role) (p : Fin 16) (s : State), s.hears r → ownerOr r p = true → (s.part p).state.isFaulted = true →
    Answers (.stop r p 1) s (fun t => ItemEnds r [] [] s t 0x0504) ∧
    (s.committed = true → s.switchChecks = false → Answers (.start r p 1) s (fun t => ItemEnds r [] [] s t 0x0504))) ∧
  (∀ (r : Role) (p : Fin 16) (s : State), s.hears r → ownerOr r p = true →
    ((s.part p).state = .starting ∨ (s.part p).state = .up ∨ (s.part p).state = .stopping) →
    Answers (.stop r p 1) s (fun t =>
      Same (sweepFlds ++ [.reply, .status]) s t ∧ t.status = 0 ∧
      ((∀ c < 512, s.timersIdle c) →
        Same [.actions, .caps, .chans, .clusters, .drives, .ens, .entries, .events, .parts, .regs, .reply, .status, .trims, .waitMaint] s t ∧
        AllBut s.part t.part [p.val] ∧ (t.part p).line = (s.part p).line ∧
        ((s.part p).line = false → (t.part p).state = .stopping ∨ (t.part p).state = .down)))) ∧
  (∀ (r : Role) (p : Fin 16) (s : State), s.hears r → ownerOr r p = true → (s.part p).state = .down →
    Answers (.stop r p 1) s (fun t => ItemEnds r [.parts] [] s t 0 ∧ AllBut s.part t.part [p.val] ∧
      t.part p = { s.part p with startPend := false, phase := .notMember, position := 0 })) ∧
  (∀ (p : Fin 16) (s : State), (s.part p).startPend = true →
    ((s.part p).state.isFaulted = false → s.startHeld p = false → Answers (.startPendingRelease p) s (fun t =>
      Same [.actions, .caps, .chans, .clusters, .drives, .ens, .entries, .events, .parts, .regs, .trims] s t ∧ AllBut s.part t.part [p.val] ∧
      t.member p = true ∧ (t.part p).line = (s.part p).line ∧ (t.part p).startPend = false)) ∧
    ((s.part p).state.isFaulted = true → s.restartWaits p = false → Answers (.startPendingRelease p) s (fun t =>
      Same [.actions, .caps, .chans, .clusters, .drives, .ens, .entries, .events, .latches, .log, .parts, .regs, .trims] s t ∧
      AllBut s.part t.part [p.val] ∧ (t.part p).line = false ∧ (t.part p).startPend = false ∧
      ((t.part p).state = .starting ∨ (t.part p).state = .up ∨ (t.part p).state = .stopping ∨ (t.part p).state = .down))) ∧
    ((s.part p).state.isFaulted = true → s.restartWaits p = true → exec (.startPendingRelease p) s = .next s) ∧
    ((s.part p).state.isFaulted = false → s.startHeld p = true → exec (.startPendingRelease p) s = .next s))

/-- The stages of an action (after R141, R143, R144, R149 to R153), under the bank that governs its cluster. An eligible entry that is not armed
arms with a slot in every cluster that it acts on, when their clocks run, each has a slot for its partition, an entry action keeps to its quota, and
no other request of the tick stands before it; with no slot or quota it waits, counted once, and with EV 0x42 the first time in its step; behind
another request, or not eligible, nothing happens. DELAY (units of 10 µs) after it was armed it issues, with the effect of its type (Table 5-3); one
with nothing left to wait for ends DONE at once. It is SKIPPED, counted and with EV 0x41, when its guard channel does not run after the transitions
of the tick, and a SET_TRIM outside its guard band, or by a target of no supported VOUT_MODE, is FLAGGED. At its outcome an issued action ends DONE,
a DISCHARGE with its enable inactive where the clock runs, or FLAGGED, counted and with EV 0x41; at its limit it is FLAGGED so; before either
nothing happens. -/
def Obligations.ActionsArmIssueAndEnd : Prop :=
  (
  (∀ (e : Fin 4096) (p w : Nat) (s : State), s.partOfEntry e = some p → w = s.act (actEntry e) → s.noSwapAt (s.entryCluster p w) →
    (s.isArmed e = false → s.eligible p e = true →
      ((aeExit w = true ∨ s.armedCount p < s.slotQuota p) →
        (∀ n ∈ s.actsOn p w, (s.cluster n).clockLost = false ∧ s.slotFree p n = true) →
        (s.outranked p e (s.actsOn p w) = false → Answers (.actionArm e) s (fun t => Same [.actions] s t ∧
          t.action e = some { entry := w, part := p, armed := true, armedAt := s.now, issued := false, issuedAt := 0,
                              slots := s.actsOn p w, result := none } ∧
          ∀ j, j ≠ e.val → t.action j = s.action j)) ∧
        (s.outranked p e (s.actsOn p w) = true → exec (.actionArm e) s = .next s)) ∧
      ((aeExit w = false ∧ s.slotQuota p ≤ s.armedCount p) ∨
          (∃ n ∈ s.actsOn p w, (s.cluster n).clockLost = true ∨ s.slotFree p n = false) →
        ((∀ a, s.action e = some a → a.waited = false) → Answers (.actionArm e) s (fun t => Same [.actions, .events, .parts, .regs] s t ∧
          RegsBut s t [seqsSlotWaitCount p, evEventsLost] ∧ t.reg (seqsSlotWaitCount p) = wrap32 (s.reg (seqsSlotWaitCount p)) ∧
          t.action e = some { entry := w, part := p, armed := false, armedAt := s.now, issued := false, issuedAt := 0,
                              slots := [], result := none, waited := true } ∧
          AllBut s.part t.part [p] ∧ t.part p = { s.part p with waitRaised := true } ∧
          ((s.part p).waitRaised = false → s.enters 10 → t.recorded 10 0x42 p false
            [BitVec.ofNat 8 (aeState w), if aeExit w = false ∧ s.slotQuota p ≤ s.armedCount p then 2 else 1]))) ∧
        (∀ a, s.action e = some a → a.waited = true → exec (.actionArm e) s = .next s))) ∧
    (s.isArmed e = true ∨ s.eligible p e = false → exec (.actionArm e) s = .next s)) ∧
  (∀ (e : Fin 4096) (s : State), s.partOfEntry e = none → s.noSwapAt (s.entryCluster 0 (s.act (actEntry e))) →
    exec (.actionArm e) s = .next s))
  ∧ (
  (∀ (e : Fin 4096) (a : ActX) (s : State), s.action e = some a → s.noSwapAt (s.entryCluster a.part a.entry) →
    (a.armed = false ∨ a.issued = true ∨ s.now < a.armedAt + 1000 * aeDelay a.entry) → exec (.actionIssue e) s = .next s) ∧
  (∀ (e : Fin 4096) (s : State), s.action e = none → s.noSwapAt 0 → exec (.actionIssue e) s = .next s) ∧
  (∀ (e : Fin 4096) (a b : ActX) (g : Nat) (s : State), s.action e = some a → s.noSwapAt (s.entryCluster a.part a.entry) → a.armed = true →
    a.issued = false → a.armedAt + 1000 * aeDelay a.entry ≤ s.now → g = aeTarget a.entry →
    (∀ d, guardOf a.entry = some d → s.guardRuns d = true) → b = { a with issued := true, issuedAt := s.now } →
    ((aeType a.entry = 5 ∨ aeType a.entry = 6) → Answers (.actionIssue e) s (fun t => Same [.actions] s t ∧
      t.action e = some b ∧ ∀ j, j ≠ e.val → t.action j = s.action j)) ∧
    (aeType a.entry = 1 → (s.en g).asserted = false → (s.part a.part).line = false → (∀ c ∈ s.served g, s.gatesClear c) →
      (s.served g ≠ [] → Answers (.actionIssue e) s (fun t => Same [.actions, .caps, .chans, .ens, .entries, .ports, .regs, .trims] s t ∧
        (t.en g).asserted = true ∧ AllBut s.en t.en [g] ∧ (∀ c ∈ s.served g, (t.chan c).state ≠ .off) ∧ t.action e = some b)) ∧
      (s.served g = [] → Answers (.actionIssue e) s (fun t => ActionEnds s t a.part e [.caps, .ens] [] ∧
        (¬ s.stepEnds a.part e → (t.en g).asserted = true ∧ AllBut s.en t.en [g])))) ∧
    (aeType a.entry = 1 → (s.en g).asserted = true → Answers (.actionIssue e) s (fun t => ActionEnds s t a.part e [] [])) ∧
    (aeType a.entry = 1 → (s.en g).asserted = false → (s.part a.part).line = true → Answers (.actionIssue e) s (fun t =>
      Same [.actions] s t ∧ t.action e = some b)) ∧
    (aeType a.entry = 2 → (s.en g).asserted = true → (∀ c ∈ s.served g, s.timersIdle c) → Answers (.actionIssue e) s (fun t =>
      Same [.actions, .caps, .chans, .ens, .entries, .events, .regs, .trims] s t ∧ (t.en g).asserted = false ∧ AllBut s.en t.en [g] ∧
      (∀ c ∈ s.served g, (t.chan c).state = .off ∨ (t.chan c).state = .tripped) ∧ t.action e = some b)) ∧
    (aeType a.entry = 2 → (s.en g).asserted = false → Answers (.actionIssue e) s (fun t => ActionEnds s t a.part e [] [])) ∧
    (aeType a.entry = 3 → (s.chan g).state = .off → s.gatesClear g → Answers (.actionIssue e) s (fun t =>
      Same [.actions, .caps, .chans, .entries, .ports, .regs, .trims] s t ∧ AllBut s.chan t.chan [g] ∧ (t.chan g).state ≠ .off ∧
      t.action e = some b)) ∧
    (aeType a.entry = 3 → (s.chan g).state ≠ .off → Answers (.actionIssue e) s (fun t => Same [.actions] s t ∧ t.action e = some b)) ∧
    (aeType a.entry = 4 → s.timersIdle g →
      (aeTimeout a.entry ≠ 0 → Answers (.actionIssue e) s (fun t => Same [.actions, .caps, .chans, .entries, .events, .regs, .trims] s t ∧
        ((t.chan g).state = .off ∨ (t.chan g).state = .tripped) ∧ t.action e = some b)) ∧
      (aeTimeout a.entry = 0 → Answers (.actionIssue e) s (fun t => t.action e = none ∧
        (¬ s.stepEnds a.part e → Same [.actions, .caps, .chans, .entries, .events, .parts, .regs, .trims] s t ∧
          ((t.chan g).state = .off ∨ (t.chan g).state = .tripped))))) ∧
    (aeType a.entry = 7 → Answers (.actionIssue e) s (fun t => Same [.actions, .ports] s t ∧ t.action e = some b ∧
      AllBut s.port t.port [tgtPort (s.act (tgtEntry g))] ∧
      t.port (tgtPort (s.act (tgtEntry g))) = { s.port (tgtPort (s.act (tgtEntry g))) with queue := (s.port (tgtPort (s.act (tgtEntry g)))).queue ++
        [{ entry := g, part := a.part, cmd := field (aeParam a.entry) 0 8, data := field (aeParam a.entry) 8 16, why := .action e }] })) ∧
    (aeType a.entry = 8 → s.inGuard g (aeParam a.entry) = true → s.trimBad g = false →
      (s.runs g = true → Answers (.actionIssue e) s (fun t => Same [.actions, .chans] s t ∧ AllBut s.chan t.chan [g] ∧
        t.chan g = { s.chan g with held := some (aeParam a.entry), settled := 0 } ∧ t.action e = some b)) ∧
      (s.runs g = false → Answers (.actionIssue e) s (fun t => ActionEnds s t a.part e [.chans] [] ∧
        (¬ s.stepEnds a.part e → AllBut s.chan t.chan [g] ∧ t.chan g = { s.chan g with held := some (aeParam a.entry), settled := 0 })))) ∧
    (aeType a.entry = 8 → (s.inGuard g (aeParam a.entry) = false ∨ s.trimBad g = true) → Answers (.actionIssue e) s (fun t =>
      ActionEnds s t a.part e [.events, .regs] [seqsFlaggedCount a.part, evEventsLost] ∧
      t.reg (seqsFlaggedCount a.part) = sat16 (s.reg (seqsFlaggedCount a.part)) ∧
      (¬ s.stepEnds a.part e → s.enters (s.homeDom a.part) → t.recorded (s.homeDom a.part) 0x41 a.part false (two e ++ [4])))) ∧
    (aeType a.entry = 9 → ((s.part a.part).line = false → Answers (.actionIssue e) s (fun t => Same [.actions, .caps, .ens] s t ∧
        AllBut s.en t.en [g] ∧ (t.en g).asserted = true ∧ t.action e = some b)) ∧
      ((s.part a.part).line = true → Answers (.actionIssue e) s (fun t => Same [.actions] s t ∧ t.action e = some b))) ∧
    (aeType a.entry = 10 → Answers (.actionIssue e) s (fun t => ActionEnds s t a.part e [.caps] [] ∧
      (¬ s.stepEnds a.part e → AllBut s.cap t.cap [g] ∧
        (s.act (capStartSrc g) ≠ 0 ∨ s.act (capStopSrc g) ≠ 0 → (t.cap g).outcome = 1 ∧ (t.cap g).armedAt = s.now))))) ∧
  (∀ (e : Fin 4096) (a : ActX) (d : Nat) (s : State), s.action e = some a → s.noSwapAt (s.entryCluster a.part a.entry) → a.armed = true →
    a.issued = false → a.armedAt + 1000 * aeDelay a.entry ≤ s.now → guardOf a.entry = some d → s.guardRuns d = false →
    Answers (.actionIssue e) s (fun t => ActionEnds s t a.part e [.events, .regs] [seqsSkippedCount a.part, evEventsLost] ∧
      t.reg (seqsSkippedCount a.part) = sat16 (s.reg (seqsSkippedCount a.part)) ∧
      (¬ s.stepEnds a.part e → s.enters (s.homeDom a.part) → t.recorded (s.homeDom a.part) 0x41 a.part false (two e ++ [5])))))
  ∧ (
  (∀ (e : Fin 4096) (s : State), s.action e = none → exec (.actionComplete e) s = .next s ∧ exec (.actionTimeout e) s = .next s) ∧
  (∀ (e : Fin 4096) (a : ActX) (s : State), s.action e = some a → a.issued = false →
    exec (.actionComplete e) s = .next s ∧ exec (.actionTimeout e) s = .next s) ∧
  (∀ (e : Fin 4096) (a : ActX) (s : State), s.action e = some a → a.issued = true →
    (s.reached a = none → exec (.actionComplete e) s = .next s) ∧
    (s.reached a = some none → aeType a.entry ≠ 9 → Answers (.actionComplete e) s (fun t => ActionEnds s t a.part e [] [])) ∧
    (s.reached a = some none → aeType a.entry = 9 → Answers (.actionComplete e) s (fun t => ActionEnds s t a.part e [.caps, .ens] [] ∧
      (¬ s.stepEnds a.part e → AllBut s.en t.en [aeTarget a.entry] ∧
        ((s.cluster (enCl (aeTarget a.entry))).clockLost = false → (t.en (aeTarget a.entry)).asserted = false)))) ∧
    (∀ r, s.reached a = some (some r) → Answers (.actionComplete e) s (fun t =>
      ActionEnds s t a.part e [.events, .regs] [seqsFlaggedCount a.part, evEventsLost] ∧
      t.reg (seqsFlaggedCount a.part) = sat16 (s.reg (seqsFlaggedCount a.part)) ∧
      (r ≠ 0 → ¬ s.stepEnds a.part e → s.enters (s.homeDom a.part) →
        t.recorded (s.homeDom a.part) 0x41 a.part false (two e ++ [BitVec.ofNat 8 r])))) ∧
    (s.limitOf a = none ∨ s.reached a ≠ none ∨ (∃ k r, s.limitOf a = some (k, r) ∧ s.now < a.issuedAt + k) →
      exec (.actionTimeout e) s = .next s) ∧
    (∀ k r, s.limitOf a = some (k, r) → a.issuedAt + k ≤ s.now → s.reached a = none → Answers (.actionTimeout e) s (fun t =>
      ActionEnds s t a.part e [.events, .regs] [seqsFlaggedCount a.part, evEventsLost] ∧
      t.reg (seqsFlaggedCount a.part) = sat16 (s.reg (seqsFlaggedCount a.part)) ∧
      (¬ s.stepEnds a.part e → s.enters (s.homeDom a.part) →
        t.recorded (s.homeDom a.part) 0x41 a.part false (two e ++ [BitVec.ofNat 8 r]))))))

/-- Ramp captures (after R164, R165): ARM by OWNER or the unit's partition clears the previous outcome and starts the unit, and has ST 0x0301 with
both sources 0x00. Of a unit that runs and lacks a side, the occurrence of that side that it has seen is taken, when its cluster's counter has come
to it and it lies within LIMIT; with the second side the unit is VALID (2) with the time between them, SAME (3) or ORDER (4). At LIMIT a unit with
nothing more to take ends without a duration, as 6 with a start alone and else as 5; before it nothing happens. -/
def Obligations.CaptureUnitsMeasureOnce : Prop :=
  (∀ (r : Role) (u : Fin 32) (s : State), s.hears r → ownerOr r (s.act (capPartition u)) = true →
    (¬(s.act (capStartSrc u) = 0 ∧ s.act (capStopSrc u) = 0) → Answers (.armCapture r u 1) s (fun t => ItemEnds r [.caps] [] s t 0 ∧
      AllBut s.cap t.cap [u.val] ∧ (t.cap u).outcome = 1 ∧ (t.cap u).armedAt = s.now ∧ (t.cap u).start = none ∧ (t.cap u).stop = none ∧
      (t.cap u).dur = 0)) ∧
    (s.act (capStartSrc u) = 0 → s.act (capStopSrc u) = 0 → Answers (.armCapture r u 1) s (fun t => ItemEnds r [] [] s t 0x0301))) ∧
  (∀ (u : Fin 32) (k : Nat) (s : State), (s.cap u).outcome = 1 → (s.cap u).start = none → (s.cap u).seenStart = some k →
    k ≤ s.sourceCtr (s.act (capStartSrc u)) (s.act (capStartTarget u)) → k ≤ (s.cap u).startBy + 100 * s.act (capLimit u) →
    Answers (.captureOccurrence u true) s (fun t => Same [.caps] s t ∧ AllBut s.cap t.cap [u.val] ∧ (t.cap u).start = some k ∧
      (t.cap u).stop = (s.cap u).stop ∧ ((s.cap u).stop = none → (t.cap u).outcome = 1) ∧
      ∀ b, (s.cap u).stop = some b → (k < b → (t.cap u).outcome = 2 ∧ (t.cap u).dur = b - k) ∧ (k = b → (t.cap u).outcome = 3) ∧
        (b < k → (t.cap u).outcome = 4))) ∧
  (∀ (u : Fin 32) (k : Nat) (s : State), (s.cap u).outcome = 1 → (s.cap u).stop = none → (s.cap u).seenStop = some k →
    k ≤ s.sourceCtr (s.act (capStopSrc u)) (s.act (capStopTarget u)) → k ≤ (s.cap u).stopBy + 100 * s.act (capLimit u) →
    Answers (.captureOccurrence u false) s (fun t => Same [.caps] s t ∧ AllBut s.cap t.cap [u.val] ∧ (t.cap u).stop = some k ∧
      (t.cap u).start = (s.cap u).start ∧ ((s.cap u).start = none → (t.cap u).outcome = 1) ∧
      ∀ a, (s.cap u).start = some a → (a < k → (t.cap u).outcome = 2 ∧ (t.cap u).dur = k - a) ∧ (a = k → (t.cap u).outcome = 3) ∧
        (k < a → (t.cap u).outcome = 4))) ∧
  (∀ (u : Fin 32) (s : State), (s.cap u).outcome = 1 → (s.cap u).armedAt + 100 * s.act (capLimit u) ≤ s.now →
    ((s.cap u).start ≠ none ∨ (s.cap u).seenStart = none) → ((s.cap u).stop ≠ none ∨ (s.cap u).seenStop = none) →
    Answers (.captureLimit u) s (fun t => Same [.caps] s t ∧ AllBut s.cap t.cap [u.val] ∧ (t.cap u).dur = 0 ∧
      (t.cap u).outcome = (if (s.cap u).start.isSome ∧ (s.cap u).stop = none then 6 else 5))) ∧
  (∀ (u : Fin 32) (s : State), s.now < (s.cap u).armedAt + 100 * s.act (capLimit u) → exec (.captureLimit u) s = .next s)


/-! ### Budgets and the ledger -/

/-- Sub-intervals and demand intervals (after R212, R220, R221, R226): at the end of a sub-interval, and not before, each partition's recent power
is its energy over the length, but where the sub-interval was cut short, and the next one begins; at the boundary of a demand interval, and not
before, the record of each defined partition that LEDGER_ENABLE names joins the records that wait while they have room for all, or is held during a
power-loss warning, the remainders below a unit stay in the next interval, and no partition changes state. The table in force (after R222, R223):
TABLE_SELECT is an OWNER write of 0 to 7 (another value has ST 0x0301, a PARTITION role ST 0x0201); a switch closes the running interval and begins
a PARTIAL one, and EV 0x25 names the old table, the new one and the source, last of all where no stream is enabled or paused; the table in force
already is no switch; a schedule entry that matches the RTC second switches, while the schedule is enabled, the RTC valid and no power-loss warning
holds; power of a sub-interval that ends in that tick is judged by the new budget (Table 7-7). -/
def Obligations.LedgerIntervalsAndTables : Prop :=
  (
  (∀ s : State, s.ledger.running = true → s.subEndAt ≤ s.now →
    Answers .subIntervalEnd s (fun t => Same [.ledger, .parts, .regs] s t ∧ t.ledger.subStart = s.now ∧ t.ledger.subTrunc = false ∧
      t.ledger.queue = s.ledger.queue ∧ t.ledger.start = s.ledger.start ∧
      ∀ p < 16, (t.part p).subIn = 0 ∧ (t.part p).intIn = (s.part p).intIn ∧ (t.part p).intOut = (s.part p).intOut ∧
        (t.part p).state = (s.part p).state ∧
        (s.ledger.subTrunc = false → t.reg (partsRecentPower p) =
          ((s.part p).subIn * 100 / max (s.now - s.ledger.subStart) 1) % 4294967296))) ∧
  (∀ s : State, (s.ledger.running = false ∨ s.now < s.subEndAt) → exec .subIntervalEnd s = .next s) ∧
  (∀ s : State, s.ledger.running = true → s.ledger.endAt ≤ s.now →
    Answers .demandIntervalEnd s (fun t => Same [.ledger, .parts, .regs] s t ∧ t.ledger.running = true ∧ t.ledger.start = s.now ∧
      t.ledger.partialNow = false ∧
      (s.supply.plw = false → t.ledger.held = s.ledger.held ∧ (s.ledger.queue.length ≤ 240 → t.ledger.queue = s.ledger.queue ++
        (partitions.filter (fun p => s.defined p && bitOf (s.act ledLedgerEnable) p)).map (fun p => s.intervalRec p 0))) ∧
      (s.supply.plw = true → t.ledger.queue = s.ledger.queue ∧ t.ledger.held = s.ledger.held ++
        (partitions.filter (fun p => s.defined p && bitOf (s.act ledLedgerEnable) p)).map (fun p => s.intervalRec p 0)) ∧
      ∀ p < 16, (t.part p).intIn = (s.part p).intIn % 1000 ∧ (t.part p).intOut = (s.part p).intOut % 1000000 ∧
        (t.part p).intFlags = 0 ∧ (t.part p).state = (s.part p).state)) ∧
  (∀ s : State, (s.ledger.running = false ∨ s.now < s.ledger.endAt) → exec .demandIntervalEnd s = .next s))
  ∧ (
  (∀ (v : Byte) (s : State), s.serves = true → v.toNat < 8 → v.toNat ≠ s.table →
    Answers (.tableSelect .owner v) s (fun t => Same [.events, .ledger, .parts, .regs, .reply, .status, .streams] s t ∧
      t.table = v.toNat ∧ t.status = 0 ∧ (∀ p, (t.part p).state = (s.part p).state) ∧
      (s.ledger.running = true → s.ledger.start < s.now → t.ledger.start = s.now ∧ t.ledger.partialNow = true ∧
        ∀ p < 16, (t.part p).intIn = (s.part p).intIn % 1000) ∧
      ((∀ k < 32, s.act (strEnable k) ≠ 1) → (∀ p < 16, s.reg (partsStreamsPaused p) = 0) →
        t.recorded 10 0x25 255 false [BitVec.ofNat 8 s.table, v, 1]))) ∧
  (∀ (v : Byte) (s : State), s.serves = true → s.table < 8 → v.toNat = s.table →
    Answers (.tableSelect .owner v) s (fun t => ItemEnds .owner [] [] s t 0)) ∧
  (∀ (v : Byte) (s : State), s.serves = true → 8 ≤ v.toNat →
    Answers (.tableSelect .owner v) s (fun t => ItemEnds .owner [] [] s t 0x0301)) ∧
  (∀ (p : Fin 16) (v : Byte) (s : State), s.serves = true → s.defined p = true →
    Answers (.tableSelect (.partition p) v) s (fun t => ItemEnds (.partition p) [] [] s t 0x0201)) ∧
  (∀ (v : Nat) (s : State), s.act ledScheduleEnable = 1 → s.supply.rtcValid = true → s.supply.plw = false →
    s.schedAt s.supply.rtc = some v → v ≠ s.table →
    Answers .scheduleMatch s (fun t => Same [.events, .ledger, .parts, .regs, .streams] s t ∧ t.table = v ∧
      (∀ p, (t.part p).state = (s.part p).state) ∧
      (s.mgmtDown = false → s.ledger.hold = false → ∀ p < 16, (∃ e, (t.part p).subs.head? = some e ∧ e.ended = s.now) →
        (t.part p).overPower = decide (t.powerBudget p < t.demandPower p)) ∧
      (s.mgmtDown = false → (∀ k < 32, s.act (strEnable k) ≠ 1) → (∀ p < 16, s.reg (partsStreamsPaused p) = 0) →
        t.recorded 10 0x25 255 false [BitVec.ofNat 8 s.table, BitVec.ofNat 8 v, 0]))) ∧
  (∀ s : State, (s.act ledScheduleEnable ≠ 1 ∨ s.supply.rtcValid = false ∨ s.supply.plw = true ∨ s.schedAt s.supply.rtc = none) →
    exec .scheduleMatch s = .next s))

/-- The relief procedure of one partition in STARTING or UP while every other is in neither state (after R214 to R217): without a cause level 0
stays; the first cause begins the grace with EV 0x20; while the grace runs nothing but RELIEF_CAUSE changes; a cause that goes before a step has
been applied returns the partition to level 0 with EV 0x22; at the end of the grace a first step of TRIM_DOWN is applied, counted, with EV 0x21,
which raises no held setpoint and touches no channel without a trim. While the management plane is down, or holds relief after it, and before the
first commit, nothing happens. -/
def Obligations.ReliefGraceAndFirstStep : Prop :=
  (∀ (p : Fin 16) (s : State), s.mgmtDown = false → s.ledger.hold = false → s.committed = true →
    (∀ q < 16, q ≠ p.val → (s.part q).state ≠ .starting ∧ (s.part q).state ≠ .up) →
    ((s.part p).state = .starting ∨ (s.part p).state = .up) →
    ((s.part p).relief = 0 → s.reliefCause p = 0 → Answers .reliefEvaluate s (fun t => Same [.regs] s t ∧
      RegsBut s t [partsReliefCause p] ∧ t.reg (partsReliefCause p) = 0)) ∧
    ((s.part p).relief = 0 → s.reliefCause p ≠ 0 → Answers .reliefEvaluate s (fun t =>
      Same [.caps, .chans, .entries, .events, .parts, .regs, .trims, .waitMaint] s t ∧ AllBut s.part t.part [p.val] ∧ (t.part p).relief = 1 ∧
      (t.part p).state = (s.part p).state ∧ t.reg (partsReliefLevel p) = 1 ∧ t.reg (partsReliefCause p) = s.reliefCause p ∧
      t.reg (partsGraceEnd p) = s.now + 100000 * s.grace p ∧ t.reg (partsReliefCount p) = sat16 (s.reg (partsReliefCount p)) ∧
      t.recorded 10 0x20 p false [BitVec.ofNat 8 (s.reliefCause p)])) ∧
    ((s.part p).relief = 1 → (s.part p).applied = [] → s.reliefCause p = 0 → Answers .reliefEvaluate s (fun t =>
      Same [.events, .parts, .regs] s t ∧ AllBut s.part t.part [p.val] ∧ (t.part p).relief = 0 ∧
      (t.part p).state = (s.part p).state ∧ t.reg (partsReliefLevel p) = 0 ∧ t.reg (partsGraceEnd p) = 0 ∧ t.recorded 10 0x22 p false [])) ∧
    ((s.part p).relief = 1 → s.reliefCause p ≠ 0 → s.reg (partsGraceEnd p) ≤ s.now → s.enforceStep p 1 = 1 →
      Answers .reliefEvaluate s (fun t => Same [.chans, .events, .parts, .regs] s t ∧ AllBut s.part t.part [p.val] ∧
        (t.part p).relief = 2 ∧ (t.part p).applied = 1 :: (s.part p).applied ∧ (t.part p).tStep = s.now ∧
        t.reg (partsReliefLevel p) = 2 ∧ t.reg (partsEnforceCount p) = sat16 (s.reg (partsEnforceCount p)) ∧
        (∀ c, ¬(c ∈ s.chansOf p ∧ s.kind c = 1 ∧ s.act (chTrimKind c) ≠ 0) → t.chan c = s.chan c) ∧
        (∀ c, c ∈ s.chansOf p → s.kind c = 1 → s.act (chTrimKind c) ≠ 0 → t.heldSetpoint c ≤ s.heldSetpoint c) ∧
        t.recorded 10 0x21 p false [1, 1])) ∧
    ((s.part p).relief = 1 → s.reliefCause p ≠ 0 → s.now < s.reg (partsGraceEnd p) → Answers .reliefEvaluate s (fun t =>
      Same [.regs] s t ∧ RegsBut s t [partsReliefCause p] ∧ t.reg (partsReliefCause p) = s.reliefCause p))) ∧
  (∀ s : State, (s.mgmtDown = true ∨ s.ledger.hold = true ∨ s.committed = false) → exec .reliefEvaluate s = .next s)

/-! ### Cooperating devices -/

/-- The messages of the PEER port and discovery (after R175 to R180, R189, R190). A message that R175 discards is counted in PEER_ERR_COUNT, and
nothing else changes; while the port is down no message comes; a STATE, SYNC, RELEASE or ACK that bears this device's own DEVID has no effect.
Discovery begins 5 ms after the first commit and not before. ANNOUNCE is sent at DEVID times 2 ms after it began, or at once by a late device, while
its port talks; a device alone closes discovery with it. An ANNOUNCE of another device makes its sender present and heard; an equal TRESTLE_TAG
makes it no foreign one, another one makes it foreign, with EV 0x48 when it was not, and after the close with a missing-peer hold of each group with
MISSING_RULE 0 that holds both devices. An ANNOUNCE with this device's own DEVID sets DUP_DEVID, with EV 0x48, once. Discovery closes 35 ms after it
began or with every expected ANNOUNCE: the groups with MISSING_RULE 0 that miss a device of their span have the missing-peer hold, and a device
alone lifts its start-up hold and releases every other group in the same tick. -/
def Obligations.DiscoveryFindsTheDevices : Prop :=
  (∀ (f : Bytes → Instr) (type len : Nat), (f, type, len) ∈ [(Instr.announce, 1, 13), (Instr.presence, 2, 13), (Instr.state, 3, 4),
      (Instr.sync, 4, 9), (Instr.release, 5, 10), (Instr.ack, 6, 4)] → ∀ (msg m : Bytes) (s : State),
    (s.peerOn = false → exec (f msg) s = .next s) ∧
    (s.peerOn = true → peerParse type len msg = none → Answers (f msg) s (fun t => Same [.regs] s t ∧ RegsBut s t [tresPeerErrCount] ∧
      t.reg tresPeerErrCount = sat16 (s.reg tresPeerErrCount))) ∧
    (3 ≤ type → s.peerOn = true → peerParse type len msg = some (s.devid, m) → exec (f msg) s = .next s)) ∧
  (∀ (k : Nat) (s : State), s.trestle.firstCommit = some k → s.trestle.phase = 0 → k + 500000 ≤ s.now →
    Answers .discoveryBegin s (fun t => Same [.trestle] s t ∧ t.trestle = { s.trestle with phase := 1, beganAt := some s.now })) ∧
  (∀ s : State, (∀ k, s.trestle.firstCommit = some k → s.trestle.phase ≠ 0 ∨ s.now < k + 500000) → exec .discoveryBegin s = .next s) ∧
  (∀ (k : Nat) (s : State), s.trestle.beganAt = some k → s.trestle.phase = 1 → s.trestle.announced = false →
    (s.trestle.late ≠ none ∨ k + 200000 * s.devid ≤ s.now) → Answers .announceSend s (fun t =>
      (s.peerTalks = true → t.peerOut = s.peerOut ++ [peerMsg 1 s.devid
        (leBytes 4 (s.act treTrestleTag) ++ leBytes 8 s.trestleTime ++ leBytes 1 s.groupMap)]) ∧
      (s.peerTalks = false → t.peerOut = s.peerOut) ∧
      (s.alone = false → Same [.peerOut, .peerTries, .trestle] s t ∧
        t.trestle = { s.trestle with announced := true, present := s.trestle.present.insert s.devid }) ∧
      (s.alone = true → t.trestle = { s.trestle with announced := true, present := s.trestle.present.insert s.devid, phase := 4,
                                                            closedAt := some s.now, liftedAt := some s.now }))) ∧
  (∀ s : State, (∀ k, s.trestle.beganAt = some k → s.trestle.phase ≠ 1 ∨ s.trestle.announced = true ∨
      (s.trestle.late = none ∧ s.now < k + 200000 * s.devid)) → exec .announceSend s = .next s) ∧
  (∀ (msg m : Bytes) (d : Nat) (s : State), s.peerOn = true → peerParse 1 13 msg = some (d, m) → d ≠ s.devid →
    Answers (.announce msg) s (fun t => Same [.events, .groups, .regs, .trestle] s t ∧ RegsBut s t [tresLeaderChanges, evEventsLost] ∧
      d ∈ t.trestle.present ∧ tabFind t.trestle.heard d = some s.now ∧
      (leNat (m.take 4) = s.act treTrestleTag → d ∉ t.trestle.foreign) ∧
      (leNat (m.take 4) ≠ s.act treTrestleTag → d ∈ t.trestle.foreign ∧
        (d ∉ s.trestle.foreign → (s.enters 18 → t.recorded 18 0x48 255 false [2, BitVec.ofNat 8 d]) ∧
          (s.trestle.closedAt ≠ none → ∀ n < 4, d ∈ s.spanDevs n → s.devid ∈ s.spanDevs n → s.act (treGrpMissingRule n) = 0 →
            (t.group n).missing = true))))) ∧
  (∀ (msg m : Bytes) (s : State), s.peerOn = true → peerParse 1 13 msg = some (s.devid, m) →
    (s.trestle.dup = false → Answers (.announce msg) s (fun t => Same [.events, .regs, .trestle] s t ∧
      t.trestle = { s.trestle with dup := true } ∧
      (s.enters 18 → t.recorded 18 0x48 255 false [1, BitVec.ofNat 8 s.devid]))) ∧
    (s.trestle.dup = true → exec (.announce msg) s = .next s)) ∧
  (∀ (k : Nat) (s : State), s.trestle.beganAt = some k → s.trestle.phase = 1 → (k + 3500000 ≤ s.now ∨ s.allAnnounced = true) →
    (s.alone = false → Answers .discoveryClose s (fun t => Same [.groups, .trestle] s t ∧
      t.trestle = { s.trestle with phase := 2, closedAt := some s.now } ∧
      ∀ n < 4, s.act (treGrpMissingRule n) = 0 → bitOf (s.act (treGrpSpanMap n)) s.devid = true →
        (∃ d ∈ s.spanDevs n, d ≠ s.devid ∧ s.counts d = false) → (t.group n).missing = true)) ∧
    (s.alone = true → Answers .discoveryClose s (fun t =>
      Same [.actions, .caps, .chans, .clusters, .drives, .ens, .entries, .events, .groups, .parts, .regs, .trestle, .trims] s t ∧
      t.trestle = { s.trestle with phase := 4, closedAt := some s.now, liftedAt := some s.now } ∧
      ∀ n < 4, (s.group n).missing = false → (t.group n).released = true))) ∧
  (∀ s : State, (∀ k, s.trestle.beganAt = some k → s.trestle.phase ≠ 1 ∨ (s.now < k + 3500000 ∧ s.allAnnounced = false)) →
    exec .discoveryClose s = .next s)

/-- The release of the groups (after R190, R193). In the first phase the leader names every present device, and none while the alignment phase goes
on; later it names one joiner at a time. A leader with devices to name and no duplicate of its DEVID sends RELEASE with T_rel at RELEASE_LEAD from
its Trestle time, and takes the later of that and its own T_rel when it names itself; another device sends none. A device that a RELEASE names takes
the latest T_rel and answers ACK with the residual of its latest alignment, clipped; one that it does not name keeps its own, and one from a foreign
device is only heard (R180). A RELEASE whose acknowledgement is missing 10 ms before T_rel is sent again once, 10 ms later. At T_rel, or 60 ms after
discovery closed without one, the start-up hold is lifted and every group that no missing peer holds is released; before that, and when it is
lifted, nothing changes. -/
def Obligations.ReleaseLiftsTheStartupHold : Prop :=
  (∀ s : State, s.trestle.trel = none → s.trestle.liftedAt = none → ∀ d < 16,
    (d ∈ s.releaseNames ↔ s.aligning = false ∧ d ∈ s.trestle.present)) ∧
  (∀ s : State, s.trestle.trel ≠ none ∨ s.trestle.liftedAt ≠ none → s.releaseNames.length ≤ 1 ∧
    ∀ d ∈ s.releaseNames, d ≠ s.devid ∧ s.counts d = true ∧ tabFind s.trestle.unrel d = some none) ∧
  (∀ s : State, s.leader = s.devid → s.releaseNames ≠ [] → s.trestle.dup = false →
    Answers .releaseSend s (fun t => Same [.peerOut, .peerTries, .trestle] s t ∧ t.trestle.relMap = mapOf s.releaseNames ∧
      t.trestle.relAcks = [] ∧ t.trestle.resent = false ∧
      (s.peerOn = true → t.peerOut = s.peerOut ++ [peerMsg 5 s.devid (two (mapOf s.releaseNames) ++
        leBytes 8 ((s.trestleTime + 100000 * s.act treReleaseLead) % 18446744073709551616))]) ∧
      (s.peerOn = false → t.peerOut = s.peerOut) ∧
      (s.devid ∈ s.releaseNames → t.trestle.trel =
        some (max ((s.trestleTime + 100000 * s.act treReleaseLead) % 18446744073709551616) (s.trestle.trel.getD 0))) ∧
      (s.devid ∉ s.releaseNames → t.trestle.trel = s.trestle.trel))) ∧
  (∀ s : State, s.leader ≠ s.devid ∨ s.releaseNames = [] ∨ s.trestle.dup = true → exec .releaseSend s = .next s) ∧
  (∀ (msg m : Bytes) (d : Nat) (s : State), s.peerOn = true → peerParse 5 10 msg = some (d, m) → d ≠ s.devid → s.devid < 16 →
    d ∉ s.trestle.foreign → Answers (.release msg) s (fun t => Same [.peerOut, .peerTries, .trestle] s t ∧ t.trestle.present = s.trestle.present ∧
      tabFind t.trestle.heard d = some s.now ∧
      (bitOf (leNat (m.take 2)) s.devid = true → t.trestle.trel = some (max (leNat (m.drop 2)) (s.trestle.trel.getD 0)) ∧
        (s.trestle.dup = false → t.peerOut = s.peerOut ++
          [peerMsg 6 s.devid ([5, 0] ++ two (ofSigned 16 (clampInt (-32767) 32767 (toSigned 32 (s.reg tresLastResidual)))))])) ∧
      (bitOf (leNat (m.take 2)) s.devid = false → t.trestle.trel = s.trestle.trel ∧ t.peerOut = s.peerOut))) ∧
  (∀ (msg m : Bytes) (d : Nat) (s : State), s.peerOn = true → peerParse 5 10 msg = some (d, m) → d ≠ s.devid → d ∈ s.trestle.foreign →
    Answers (.release msg) s (fun t => Same [.trestle] s t ∧ t.trestle = { s.trestle with heard := t.trestle.heard } ∧
      tabFind t.trestle.heard d = some s.now)) ∧
  (∀ (k d : Nat) (s : State), s.trestle.trel = some k → s.leader = s.devid → s.trestle.resent = false → s.trestle.dup = false →
    k ≤ s.trestleTime + 1000000 → s.trestleTime < k → d < 16 → bitOf s.trestle.relMap d = true → d ≠ s.devid → d ∉ s.trestle.relAcks →
    Answers .releaseResend s (fun t => Same [.peerOut, .peerTries, .trestle] s t ∧ t.trestle.resent = true ∧
      (s.peerOn = true → t.peerOut = s.peerOut ++ [peerMsg 5 s.devid (two s.trestle.relMap ++ leBytes 8 (k + 1000000))]) ∧
      (s.peerOn = false → t.peerOut = s.peerOut))) ∧
  (∀ s : State, (∀ k, s.trestle.trel = some k → s.leader ≠ s.devid ∨ s.trestle.resent = true ∨ s.trestle.dup = true ∨
      s.trestleTime + 1000000 < k ∨ k ≤ s.trestleTime ∨
      ∀ d < 16, bitOf s.trestle.relMap d = true → d = s.devid ∨ d ∈ s.trestle.relAcks) → exec .releaseResend s = .next s) ∧
  (∀ s : State, s.trestle.liftedAt = none → ((∃ k, s.trestle.trel = some k ∧ k ≤ s.trestleTime) ∨
      (s.trestle.trel = none ∧ ∃ c, s.trestle.closedAt = some c ∧ c + 6000000 ≤ s.now)) →
    Answers .startupHoldLift s (fun t =>
      Same [.actions, .caps, .chans, .clusters, .drives, .ens, .entries, .events, .groups, .parts, .regs, .trestle, .trims] s t ∧
      t.trestle = { s.trestle with liftedAt := some s.now, phase := 4 } ∧ ∀ n < 4, (s.group n).missing = false → (t.group n).released = true)) ∧
  (∀ s : State, (s.trestle.liftedAt ≠ none ∨ (∃ k, s.trestle.trel = some k ∧ s.trestleTime < k) ∨
      (s.trestle.trel = none ∧ ∀ c, s.trestle.closedAt = some c → s.now < c + 6000000)) → exec .startupHoldLift s = .next s)

/-- Presence, the state check and a lost device (after R178, R179, R181, R182, R188, R189, R191 and Table 6-6). PRESENCE is sent each
PRESENCE_PERIOD from the close of discovery, with the states and counts of the groups. A PRESENCE of another device makes it present and heard;
after the close, with nothing left to adopt, a second disagreeing one in succession sets the mismatch hold of a group, unless a STATE decided in
this tick, and the second agreeing one of every present device of the span takes it away. The group leader sends STATE for its check, or to repeat
it, within CHECK_TIMEOUT and at most three times more, and its own check passes when it has been sent; a STATE that has not left counts as a try. A
STATE of the group leader that is equal ends the check, which passes, and takes back what a PRESENCE of the same tick had set and counted; one that
differs sets the mismatch hold, with EV 0x44 when it was not set; from another sender it counts as heard and nothing else. A check without a STATE
in CHECK_TIMEOUT sets the hold as well. A present device not heard for LOSS_COUNT periods is lost, with EV 0x46 and the missing-peer hold of the
released groups with MISSING_RULE 0 that hold both; a new leader is EV 0x4A. -/
def Obligations.PresenceAndStateChecksHoldTheGroups : Prop :=
  (∀ s : State, s.trestle.closedAt ≠ none → s.trestle.presAt + 100000 * s.act trePresencePeriod ≤ s.now →
    Answers .presenceSend s (fun t => Same [.peerOut, .peerTries, .trestle] s t ∧ t.trestle = { s.trestle with presAt := s.now } ∧
      (s.peerTalks = true → ∃ flags : Byte, t.peerOut = s.peerOut ++ [peerMsg 2 s.devid
        ((List.range 4).map (fun n => BitVec.ofNat 8 (s.grpState n)) ++
          ((List.range 4).map (fun n => two (s.reg (tresGrpAdvanceCount n)))).flatten ++ [flags])]) ∧
      (s.peerTalks = false → t.peerOut = s.peerOut))) ∧
  (∀ s : State, s.trestle.closedAt = none ∨ s.now < s.trestle.presAt + 100000 * s.act trePresencePeriod →
    exec .presenceSend s = .next s) ∧
  (∀ (msg m : Bytes) (d : Nat) (s : State), s.peerOn = true → peerParse 2 13 msg = some (d, m) → d ≠ s.devid →
    Answers (.presence msg) s (fun t =>
      Same [.actions, .caps, .chans, .clusters, .drives, .ens, .entries, .events, .groups, .parts, .regs, .trestle, .trims] s t ∧
      d ∈ t.trestle.present ∧ tabFind t.trestle.presMsgs d = some m ∧ tabFind t.trestle.heard d = some s.now ∧
      (s.trestle.closedAt ≠ none → ∀ n < 4, d ∈ s.spanDevs n → s.devid ∈ s.spanDevs n → d ∉ s.trestle.foreign → n ∉ s.trestle.adopt →
        (¬(((m[n]?).getD 0).toNat = s.grpState n ∧ leNat ((m.drop (4 + 2 * n)).take 2) = s.reg (tresGrpAdvanceCount n)) →
          1 ≤ (tabFind (s.group n).disagree d).getD 0 → (s.group n).stateAt ≠ some s.now → (t.group n).mismatch = true) ∧
        (((m[n]?).getD 0).toNat = s.grpState n ∧ leNat ((m.drop (4 + 2 * n)).take 2) = s.reg (tresGrpAdvanceCount n) →
          1 ≤ (tabFind (s.group n).agree d).getD 0 →
          (∀ e ∈ s.spanDevs n, e ≠ s.devid → e ≠ d → s.counts e = true → 2 ≤ (tabFind (s.group n).agree e).getD 0) →
          (t.group n).mismatch = false)))) ∧
  (∀ (msg m : Bytes) (s : State), s.peerOn = true → peerParse 2 13 msg = some (s.devid, m) →
    Answers (.presence msg) s (fun t => Same [.events, .regs, .trestle] s t ∧ t.trestle = { s.trestle with dup := true })) ∧
  (∀ (n : Fin 4) (s : State), s.groupLeader n = s.devid → (s.group n).resends ≤ 3 →
    ((s.group n).checkFrom = none ∧ (s.group n).repeats = true) ∨
      (∃ k, (s.group n).checkFrom = some k ∧ s.now < k + 100000 * s.act treCheckTimeout) →
    (s.peerTalks = true → Answers (.stateSend n true) s (fun t => Same [.groups, .peerOut, .peerTries, .regs] s t ∧
      AllBut s.group t.group [n.val] ∧ (t.group n).checkFrom = none ∧ (t.group n).repeats = false ∧
      RegsBut s t [tresGrpLastCheckTick n] ∧ ((s.group n).checkFrom ≠ none → t.reg (tresGrpLastCheckTick n) = s.now) ∧
      t.peerOut = s.peerOut ++ [peerMsg 3 s.devid
        ([BitVec.ofNat 8 n, BitVec.ofNat 8 (s.grpState n)] ++ two (s.reg (tresGrpAdvanceCount n)))])) ∧
    (∀ sent : Bool, (sent = false ∨ s.peerTalks = false) → Answers (.stateSend n sent) s (fun t => Same [.groups] s t ∧
      AllBut s.group t.group [n.val] ∧ t.group n = { s.group n with resends := (s.group n).resends + 1 }))) ∧
  (∀ (n : Fin 4) (sent : Bool) (s : State), s.groupLeader n ≠ s.devid ∨ 3 < (s.group n).resends ∨
      ((s.group n).checkFrom = none ∧ (s.group n).repeats = false) ∨
      (∃ k, (s.group n).checkFrom = some k ∧ k + 100000 * s.act treCheckTimeout ≤ s.now) → exec (.stateSend n sent) s = .next s) ∧
  (∀ (msg m : Bytes) (n d : Nat) (s : State), s.peerOn = true → peerParse 3 4 msg = some (d, m) → d ≠ s.devid →
    ((m[0]?).getD 0).toNat = n →
    (n < 4 → s.devid ∈ s.spanDevs n → s.groupLeader n = d → Answers (.state msg) s (fun t => Same [.events, .groups, .regs, .trestle] s t ∧
      AllBut s.group t.group [n] ∧ tabFind t.trestle.heard d = some s.now ∧ t.trestle.present = s.trestle.present ∧
      (t.group n).checkFrom = none ∧
      (((m[1]?).getD 0).toNat = s.grpState n ∧ leNat (m.drop 2) = s.reg (tresGrpAdvanceCount n) →
        ((s.group n).checkFrom ≠ none → t.reg (tresGrpLastCheckTick n) = s.now) ∧
        ((∀ k dis held count, (s.group n).presTie = some (k, dis, held, count) → k ≠ s.now) →
          (t.group n).mismatch = (s.group n).mismatch ∧ t.reg (tresGrpMismatchCount n) = s.reg (tresGrpMismatchCount n)) ∧
        (∀ dis held count, (s.group n).presTie = some (s.now, dis, held, count) →
          (t.group n).mismatch = ((s.group n).mismatch && held) ∧ (t.group n).disagree = dis ∧
          t.reg (tresGrpMismatchCount n) =
            (if (s.group n).mismatch = true ∧ held = false then count else s.reg (tresGrpMismatchCount n)))) ∧
      (¬(((m[1]?).getD 0).toNat = s.grpState n ∧ leNat (m.drop 2) = s.reg (tresGrpAdvanceCount n)) →
        (t.group n).mismatch = true ∧ t.reg (tresGrpLastCheckTick n) = s.now ∧
        ((s.group n).mismatch = false → t.reg (tresGrpMismatchCount n) = sat16 (s.reg (tresGrpMismatchCount n)) ∧
          (s.enters 18 → t.recorded 18 0x44 255 false [BitVec.ofNat 8 n, 1]))))) ∧
    (3 < n ∨ s.devid ∉ s.spanDevs n ∨ s.groupLeader n ≠ d → Answers (.state msg) s (fun t => Same [.trestle] s t ∧
      t.trestle = { s.trestle with heard := t.trestle.heard } ∧ tabFind t.trestle.heard d = some s.now))) ∧
  (∀ (n : Fin 4) (k : Nat) (s : State), (s.group n).checkFrom = some k → k + 100000 * s.act treCheckTimeout ≤ s.now →
    Answers (.stateCheckTimeout n) s (fun t => Same [.events, .groups, .regs] s t ∧ AllBut s.group t.group [n.val] ∧
      (t.group n).mismatch = true ∧ (t.group n).checkFrom = none ∧ t.reg (tresGrpLastCheckTick n) = s.now ∧
      ((s.group n).mismatch = false → s.enters 18 → t.recorded 18 0x44 255 false [BitVec.ofNat 8 n, 2]))) ∧
  (∀ (n : Fin 4) (s : State), (∀ k, (s.group n).checkFrom = some k → s.now < k + 100000 * s.act treCheckTimeout) →
    exec (.stateCheckTimeout n) s = .next s) ∧
  (∀ (d : Fin 16) (s : State), d.val ∈ s.trestle.present → d.val ≠ s.devid → (∀ k, tabFind s.trestle.heard d = some k →
      k + s.act treLossCount * (100000 * s.act trePresencePeriod) ≤ s.now) →
    Answers (.peerLost d) s (fun t => Same [.events, .groups, .regs, .trestle] s t ∧ RegsBut s t [tresLeaderChanges, evEventsLost] ∧
      d.val ∉ t.trestle.present ∧ d.val ∈ t.trestle.gone ∧ (s.enters 18 → t.recorded 18 0x46 255 false [BitVec.ofNat 8 d]) ∧
      (t.leader ≠ s.leader → s.leader ≠ 255 → t.leader ≠ 255 → t.reg tresLeaderChanges = sat16 (s.reg tresLeaderChanges) ∧
        (s.enters 18 → t.recorded 18 0x4A 255 false [BitVec.ofNat 8 t.leader])) ∧
      ∀ n < 4, d.val ∈ s.spanDevs n → s.devid ∈ s.spanDevs n → s.act (treGrpMissingRule n) = 0 → (s.group n).released = true →
        (t.group n).missing = true)) ∧
  (∀ (d : Fin 16) (k : Nat) (s : State), d.val ∉ s.trestle.present ∨ d.val = s.devid ∨ (tabFind s.trestle.heard d = some k ∧
      s.now < k + s.act treLossCount * (100000 * s.act trePresencePeriod)) → exec (.peerLost d) s = .next s)

/-- Trestle time (after R185 to R187). The leader gives a numbered pulse and sends its Trestle time in SYNC, the first 10 ms after the close of
discovery, then each 5 ms in the alignment phase and each TSYNC_PERIOD later, while no other device bears its DEVID; no other device gives one. A
follower captures the edge. A SYNC of a foreign device, without a capture, or more than 1 ms after it, aligns nothing. One within 1 ms of the
capture aligns: LAST_RESIDUAL holds the residual, which is sent in ACK, clipped; the first residual, and every one above 2 µs (with EV 0x47), goes
into the offset; a smaller one changes the steering, within 100 ppm; and ALIGNED is set with the third alignment to successive pulses. An ACK of the
leader's present pulse counts for its sender, and an ACK of RELEASE is noted. The leader pulls TR_TSYNC low for 1 µs from its pulse. A follower that
has missed three pulses, of the start-up phase while it goes on and else one for each TSYNC_PERIOD, is no longer aligned: TSYNC_LOST, with EV 0x47;
its offset and its steered rate stay. How a residual becomes a steered rate is the model's choice (log 28). -/
def Obligations.TrestleTimeAlignsTheFollowers : Prop :=
  (∀ s : State, s.leader = s.devid → s.trestle.dup = false →
    ((s.trestle.pulseAt = none ∧ s.trestle.closedAt.getD 0 + 1000000 ≤ s.now) ∨
      (∃ k, s.trestle.pulseAt = some k ∧ k + (if s.aligning then 500000 else 100000 * s.act treTsyncPeriod) ≤ s.now)) →
    Answers .tsyncPulse s (fun t => Same [.peerOut, .peerTries, .trestle] s t ∧
      t.trestle = { s.trestle with pulseSeq := (s.trestle.pulseSeq + 1) % 256, pulseTime := s.trestleTime,
                                   pulses := s.trestle.pulses + 1, pulseAt := some s.now } ∧
      (s.supply.vcore = true → 2 ∉ s.vioLost → t.pin .trTsync = .low) ∧
      (s.peerOn = true → t.peerOut = s.peerOut ++
        [peerMsg 4 s.devid (leBytes 1 ((s.trestle.pulseSeq + 1) % 256) ++ leBytes 8 s.trestleTime)]))) ∧
  (∀ s : State, s.leader ≠ s.devid ∨ s.trestle.dup = true ∨ (s.trestle.pulseAt = none ∧ s.now < s.trestle.closedAt.getD 0 + 1000000) ∨
      (∃ k, s.trestle.pulseAt = some k ∧ s.now < k + (if s.aligning then 500000 else 100000 * s.act treTsyncPeriod)) →
    exec .tsyncPulse s = .next s) ∧
  (∀ s : State, s.trestle.closedAt ≠ none → s.leader ≠ s.devid → 2 ∉ s.vioLost →
    Answers .tsyncEdge s (fun t => Same [.trestle] s t ∧ t.trestle = { s.trestle with edge := some (s.trestleTime, s.now) })) ∧
  (∀ s : State, s.trestle.closedAt = none ∨ s.leader = s.devid ∨ 2 ∈ s.vioLost → exec .tsyncEdge s = .next s) ∧
  (∀ (msg m : Bytes) (d c k : Nat) (e : Int) (s : State), s.peerOn = true → peerParse 4 9 msg = some (d, m) → d ≠ s.devid →
    d ∉ s.trestle.foreign → s.trestle.edge = some (c, k) → s.now ≤ k + 100000 → e = s.residual c (leNat (m.drop 1)) →
    Answers (.sync msg) s (fun t => Same [.events, .peerOut, .peerTries, .regs, .trestle] s t ∧ RegsBut s t [tresLastResidual, evEventsLost] ∧
      t.reg tresLastResidual = ofSigned 32 e ∧ t.trestle.edge = none ∧ t.trestle.edgeAt = some s.now ∧ t.trestle.lost = false ∧
      ((s.trestle.everAligned = false ∨ 2000 < e.natAbs) →
        t.trestle.offset = BitVec.ofInt 64 ((s.trestle.offset.toNat : Int) - roundAway e 10) ∧ t.trestle.rate = s.trestle.rate) ∧
      (s.trestle.everAligned = true → e.natAbs ≤ 2000 → t.trestle.offset = s.trestle.offset ∧
        -100000 ≤ t.trestle.rate ∧ t.trestle.rate ≤ 100000 ∧ -100000 ≤ t.trestle.steer ∧ t.trestle.steer ≤ 100000 ∧
        ∀ a, s.trestle.edgeAt = some a → t.trestle.rate = clampInt (-100000) 100000
          (s.trestle.rate + roundAway (-e * 1000000000) (10 * max 1 (s.now - a)))) ∧
      (s.trestle.everAligned = true → 2000 < e.natAbs → s.enters 18 → t.recorded 18 0x47 255 false [2]) ∧
      (s.trestle.lost = false → t.trestle.aligns =
        if s.trestle.lastSeq.any (fun p => (p + 1) % 256 == leNat (m.take 1)) then s.trestle.aligns + 1 else 1) ∧
      (t.trestle.aligned = true ↔ s.trestle.aligned = true ∨ 3 ≤ t.trestle.aligns) ∧
      (s.trestle.dup = false → t.peerOut = s.peerOut ++
        [peerMsg 6 s.devid ([4] ++ m.take 1 ++ two (ofSigned 16 (clampInt (-32767) 32767 e)))]))) ∧
  (∀ (msg m : Bytes) (d : Nat) (s : State), s.peerOn = true → peerParse 4 9 msg = some (d, m) → d ≠ s.devid →
    (d ∈ s.trestle.foreign ∨ s.trestle.edge = none ∨ (∃ c k, s.trestle.edge = some (c, k) ∧ k + 100000 < s.now)) →
    Answers (.sync msg) s (fun t => Same [.trestle] s t ∧
      t.trestle = { s.trestle with heard := t.trestle.heard, edge := t.trestle.edge } ∧ tabFind t.trestle.heard d = some s.now)) ∧
  (∀ (msg m : Bytes) (d : Nat) (s : State), s.peerOn = true → peerParse 6 4 msg = some (d, m) → d ≠ s.devid →
    Answers (.ack msg) s (fun t => Same [.trestle] s t ∧ t.trestle.present = s.trestle.present ∧ tabFind t.trestle.heard d = some s.now ∧
      (m[0]? = some 4 → ((m[1]?).getD 0).toNat = s.trestle.pulseSeq → tabFind t.trestle.ackAt d = some s.trestle.pulses ∧
        tabFind t.trestle.acks d = some (if tabFind s.trestle.ackAt d = some (s.trestle.pulses - 1)
          then (tabFind s.trestle.acks d).getD 0 + 1 else 1)) ∧
      (m[0]? = some 5 → d ∈ t.trestle.relAcks))) ∧
  (∀ (s : State) (q k : Nat), q = (if s.trestle.late = none ∧ s.trestle.liftedAt = none ∧ s.trestle.aligns < 3
      then min 3 (5 - s.trestle.lastSeq.getD 0) else 0) →
    ((∃ a, s.trestle.edgeAt = some a ∧ k = a + q * 500000 + (3 - q) * (100000 * s.act treTsyncPeriod)) ∨
      (s.trestle.edgeAt = none ∧ ∃ a, s.trestle.closedAt = some a ∧
        k = a + if s.trestle.late = none then 2000000 else 3 * (100000 * s.act treTsyncPeriod))) →
    (s.leader ≠ s.devid → s.leader ≠ 255 → s.trestle.lost = false → k ≤ s.now →
      Answers .tsyncLost s (fun t => Same [.events, .regs, .trestle] s t ∧ RegsBut s t [evEventsLost] ∧
        t.trestle = { s.trestle with lost := true, aligned := false, aligns := 0 } ∧
        (s.enters 18 → t.recorded 18 0x47 255 false [1]))) ∧
    (s.leader = s.devid ∨ s.leader = 255 ∨ s.trestle.lost = true ∨ s.now < k → exec .tsyncLost s = .next s))

/-! ### The dictionary, requests and events -/

/-- A register write while no armed commit is due (after R315 to R317, R321 to R323): from an undefined PARTITION it ends with ST 0x0205; a write
that fails a check of steps 6 to 11 ends with its code and does nothing else, but that a write of SWITCH above 3 is a refused switch, with EV 0x55.
A good RWC write of an OWNER or PARTITION enters its writer's staging set and answers ST 0x0001; it ends with ST 0x0401 while the set's own commit
is in progress, and with ST 0x0405 where another set holds the entry. A good RW write without a special effect answers ST 0x0000 and its register
has the value. None of these changes anything but the item's counts and what is named; then the waiting requests of batches go on. While no request
is served, nothing happens. -/
def Obligations.RegisterWritesStageOrTakeEffect : Prop :=
  (∀ (r : Role) (idx : BitVec 16) (sub : Byte) (val : Bytes) (s : State), s.serves = true → s.undefinedRole r = true →
    Answers (.registerWrite r idx sub val) s (fun t => ItemEnds r [] [] s t 0x0205)) ∧
  (∀ (r : Role) (idx : BitVec 16) (sub : Byte) (val : Bytes) (k : Nat) (s : State), s.hears r → s.noSwapDue →
    k = ((s.sessions.find? (fun x => x.2.keyId == roleKey r)).map (fun x => x.1)).getD s.sessNext →
    (∀ st, s.itemCheck r k { write := true, shadow := false, snap := false, idx := idx.toNat, sub := sub.toNat, val := val } = st → st ≠ 0 →
      (¬(idx = 0x1100 ∧ sub = 6 ∧ st = 0x0301) →
        ∃ t : State, exec (.registerWrite r idx sub val) s = .next (t.deliver noHw) ∧ ItemEnds r [] [] s t st) ∧
      (idx = 0x1100 → sub = 6 → st = 0x0301 →
        ∃ t : State, exec (.registerWrite r idx sub val) s = .next (t.deliver noHw) ∧
          ItemEnds r [.events] [profLastCommitStatus, evEventsLost] s t st ∧ t.reg profLastCommitStatus = 0x0301 ∧
          ∃ pre : Byte, t.recorded 10 0x55 255 false ([BitVec.ofNat 8 (leNat val)] ++ two 0x0301 ++ [pre]))) ∧
    (s.itemCheck r k { write := true, shadow := false, snap := false, idx := idx.toNat, sub := sub.toNat, val := val } = 0 →
      ∀ (o : Obj) (n b : Nat) (e : Entry), locate idx.toNat sub.toNat = some (o, n, b) → rowAt o n b = some e →
      (e.acc = .rwc → ∀ w, roleSet r = some w →
        (s.setBusy w = true →
          ∃ t : State, exec (.registerWrite r idx sub val) s = .next (t.deliver noHw) ∧ ItemEnds r [] [] s t 0x0401) ∧
        (s.setBusy w = false → s.heldElsewhere w (rk o.base n b) = true →
          ∃ t : State, exec (.registerWrite r idx sub val) s = .next (t.deliver noHw) ∧ ItemEnds r [] [] s t 0x0405) ∧
        (s.setBusy w = false → s.heldElsewhere w (rk o.base n b) = false →
          (tabInsert (rk o.base n b) (leNat val) (tabErase (s.stageSet w).entries (rk o.base n b))).length ≤ 1024 →
          setBytes (tabInsert (rk o.base n b) (leNat val) (tabErase (s.stageSet w).entries (rk o.base n b))) ≤ 65536 →
          ∃ t : State, exec (.registerWrite r idx sub val) s = .next (t.deliver noHw) ∧ ItemEnds r [.sets] [] s t 1 ∧
            AllBut s.stageSet t.stageSet [w] ∧ (t.stageSet w).discarded = false ∧
            (t.stageSet w).entries = tabInsert (rk o.base n b) (leNat val) (tabErase (s.stageSet w).entries (rk o.base n b)))) ∧
      (e.acc = .rw → ¬(o.base = 0x1180 ∧ b = 8) → s.writeSpecial k o.base n b (leNat val) = none → rk o.base n b ∉ itemKeys r →
        ∃ t : State, exec (.registerWrite r idx sub val) s = .next (t.deliver noHw) ∧ ItemEnds r [] [rk o.base n b] s t 0 ∧
          t.reg (rk o.base n b) = leNat val))) ∧
  (∀ (r : Role) (idx : BitVec 16) (sub : Byte) (val : Bytes) (s : State), s.serves = false → exec (.registerWrite r idx sub val) s = .next s)

/-- Requests pass their steps (after R320, R326, R337, R340, R341, R399), while no armed commit is due: an arrival joins the queue, one of a window
when it is open and has room, and is a refused submit else; the waiting requests of batches go on, and then, unless a batch still has items to come,
the request that is due leaves the queue; a frame that does not fit is discarded and counted; one with a wrong tag, or a stale freshness value, is
counted and changes at most its link's answer, the keys' counters and the events; of a good one that is one RWC write of OWNER in an open session,
the value stands in OWNER's set and no partition, channel or active value changes; a read of the service form leaves its response in its window's
queue. After each of them the waiting requests go on again. With no request in the queue nothing else happens, and while none is served nothing at
all. -/
def Obligations.RequestsPassTheirSteps : Prop :=
  (∀ (a : Arrival) (hw : Hw) (s : State), s.serves = true → exec (.dapRequest (some a) hw) s = exec (.dapRequest none hw) (s.arrive a) ∧
    ((∀ w, a.tr ≠ .svc w) → (s.canArrive a.tr = false → s.arrive a = s) ∧ (s.canArrive a.tr = true → Same [.inbox] s (s.arrive a) ∧
      (s.arrive a).inbox.length = s.inbox.length + 1)) ∧
    (∀ w : Fin 16, a.tr = .svc w → (s.svcOpen w = false → s.arrive a = s) ∧
      (s.svcOpen w = true → a.service = true → s.act svcServiceForm = 0 → Same [.regs] s (s.arrive a) ∧
        RegsBut s (s.arrive a) [svcsSvcIgnored] ∧ (s.arrive a).reg svcsSvcIgnored = wrap32 (s.reg svcsSvcIgnored)) ∧
      (s.svcOpen w = true → (a.service = true → s.act svcServiceForm ≠ 0) → s.mgmtDown = false →
        (s.submitFull w = true → Same [.svc] s (s.arrive a) ∧ AllBut s.window (s.arrive a).window [w.val] ∧
          (s.arrive a).window w = { s.window w with refused := true }) ∧
        (s.submitFull w = false → Same [.inbox, .svc] s (s.arrive a) ∧ (s.arrive a).inbox.length = s.inbox.length + 1)))) ∧
  (∀ (hw : Hw) (s u : State), s.serves = true → s.noSwapDue → u = s.deliver hw → (u.nextRequest = none ∨ u.batchOpen = true) →
    exec (.dapRequest none hw) s = .next (u.deliver hw)) ∧
  (∀ (x : InReq) (hw : Hw) (s u : State), s.serves = true → s.noSwapDue → u = s.deliver hw → u.batchOpen = false → u.nextRequest = some x →
    x.req.service = false →
    (u.frameFits x.req.tr x.req.bytes = false →
      ∃ t : State, exec (.dapRequest none hw) s = .next (t.deliver hw) ∧ Same [.inbox, .regs] u t ∧ t.inbox = u.inbox.erase x ∧
        RegsBut u t [dapsDiscardCount] ∧ t.reg dapsDiscardCount = wrap32 (u.reg dapsDiscardCount)) ∧
    (u.frameFits x.req.tr x.req.bytes = true → u.tagGood x.req.bytes = false →
      ∃ t : State, exec (.dapRequest none hw) s = .next (t.deliver hw) ∧ t.inbox = u.inbox.erase x ∧
        Same [.draws, .events, .host, .inbox, .keys, .nv, .outFrames, .regs, .svc, .t1sSleep] u t ∧
        t.reg dapsTagFailCount = wrap32 (u.reg dapsTagFailCount)) ∧
    (u.frameFits x.req.tr x.req.bytes = true → u.tagGood x.req.bytes = true →
      (u.key (frKey x.req.bytes)).fresh (frFresh x.req.bytes) = none →
      ∃ t : State, exec (.dapRequest none hw) s = .next (t.deliver hw) ∧ t.inbox = u.inbox.erase x ∧
        Same [.draws, .events, .host, .inbox, .keys, .nv, .outFrames, .regs, .svc, .t1sSleep] u t ∧
        t.reg dapsFreshFailCount = wrap32 (u.reg dapsFreshFailCount)) ∧
    (∀ (y : KeyX) (n : Nat) (z : Session) (it : ReqItem) (o : Obj) (m b : Nat) (e : Entry),
      u.frameFits x.req.tr x.req.bytes = true → u.tagGood x.req.bytes = true →
      (u.key (frKey x.req.bytes)).fresh (frFresh x.req.bytes) = some y → frKey x.req.bytes = 16 →
      u.findSession x.req.tr x.req.ep 16 = some n → u.session n = some z → z.keyId = 16 →
      u.waiting n (frTid x.req.bytes) = none → u.cached z (frTid x.req.bytes) = none → u.openRequests ≤ 256 →
      parseBatch (frPayload x.req.bytes) = some [it] → it.write = true → it.snap = false → u.itemCheck .owner n it = 0 →
      waitsFor it = none → locate it.idx it.sub = some (o, m, b) → rowAt o m b = some e → e.acc = .rwc →
      u.setBusy 16 = false → u.heldElsewhere 16 (rk o.base m b) = false →
      (tabInsert (rk o.base m b) (leNat it.val) (tabErase (u.stageSet 16).entries (rk o.base m b))).length ≤ 1024 →
      setBytes (tabInsert (rk o.base m b) (leNat it.val) (tabErase (u.stageSet 16).entries (rk o.base m b))) ≤ 65536 →
      ∃ t : State, exec (.dapRequest none hw) s = .next (t.deliver hw) ∧ t.inbox = u.inbox.erase x ∧ t.active = u.active ∧
        t.parts = u.parts ∧ t.chans = u.chans ∧
        (t.stageSet 16).entries = tabInsert (rk o.base m b) (leNat it.val) (tabErase (u.stageSet 16).entries (rk o.base m b)))) ∧
  (∀ (x : InReq) (w : Fin 16) (n : Nat) (z : Session) (it : ReqItem) (hw : Hw) (s u : State), s.serves = true → s.noSwapDue →
    u = s.deliver hw → u.batchOpen = false → u.nextRequest = some x →
    x.req.service = true → u.findSession x.req.tr x.req.ep 17 = some n → u.session n = some z → z.tr = .svc w → z.keyId = 17 →
    u.openRequests ≤ 256 → parseBatch x.req.bytes = some [it] → it.write = false → it.snap = false → u.itemCheck .service n it = 0 →
    ∃ t : State, exec (.dapRequest none hw) s = .next (t.deliver hw) ∧ t.inbox = u.inbox.erase x ∧ t.active = u.active ∧
      t.parts = u.parts ∧ t.chans = u.chans ∧ ∃ (st : Nat) (v : Bytes),
        (t.window w).queue = (u.window w).queue ++ [(false, withCrc (respBytes 1 (respItem it st v)))]) ∧
  (∀ (a : Option Arrival) (hw : Hw) (s : State), s.serves = false → exec (.dapRequest a hw) s = .next s)

/-- Dictionary reads by a peer (after R328, R404): a request with a valid PEC is counted and replaces the one held, with ST 0x0002 until it is
executed; after 100 within a second the next is held as ST 0x0402 without a read. At the end of the tick, while requests are served and no batch has
items to come, the one held is executed, behind the requests of that tick, and its STATUS and a VALUE of at most 32 bytes are held; with 256
requests outstanding it has ST 0x0406. Another code, length or PEC is an error of the bus. The result gives what is held, or ST 0x0002, 0xFFFF and
0xFF when nothing is, with a PEC of its own; a device with DUP_DEVID gives none (R179). Without the supply or with its island stalled the device
takes no part. -/
def Obligations.PeerReadsHoldTheirResult : Prop :=
  (∀ (i0 i1 sub pec : Byte) (s : State), s.supply.vcore = true → 18 ∉ s.islandBad →
    pec = crc8 [BitVec.ofNat 8 s.peerAddr, 0xD1, i0, i1, sub] →
    ((s.lastSecond s.peerReqsAt).length < 100 → Answers (.peerReadRequest [0xD1, i0, i1, sub, pec]) s (fun t =>
      Same [.peerReq, .peerReqsAt, .regs] s t ∧ RegsBut s t [peersPeerReqCount] ∧
      t.reg peersPeerReqCount = wrap32 (s.reg peersPeerReqCount) ∧ t.peerReqsAt = s.lastSecond s.peerReqsAt ++ [s.now] ∧
      t.peerReq = some (leNat [i0, i1], sub.toNat, 2, []))) ∧
    (100 ≤ (s.lastSecond s.peerReqsAt).length → Answers (.peerReadRequest [0xD1, i0, i1, sub, pec]) s (fun t =>
      Same [.peerReq, .regs] s t ∧ RegsBut s t [peersPeerReqCount] ∧ t.peerReq = some (leNat [i0, i1], sub.toNat, 0x0402, [])))) ∧
  (∀ (idx sub : Nat) (v : Bytes) (s : State), s.peerReq = some (idx, sub, 2, v) → s.serves = true → s.batchOpen = false → s.noSwapDue →
    s.peerTurn.active = s.active ∧ s.peerTurn.parts = s.parts ∧ s.peerTurn.chans = s.chans ∧
    (s.openRequests < 256 → ∃ (st : Nat) (r : Bytes), r.length ≤ 32 ∧ s.peerTurn.peerReq = some (idx, sub, st, r)) ∧
    (256 ≤ s.openRequests → s.peerTurn = { s with peerReq := some (idx, sub, 0x0406, []) })) ∧
  (∀ s : State, s.serves = false ∨ s.batchOpen = true ∨ s.peerReq = none → s.peerTurn = s) ∧
  (∀ (i0 i1 sub pec : Byte) (s : State), s.supply.vcore = true → 18 ∉ s.islandBad →
    pec ≠ crc8 [BitVec.ofNat 8 s.peerAddr, 0xD1, i0, i1, sub] →
    Answers (.peerReadRequest [0xD1, i0, i1, sub, pec]) s (fun t => Same [.regs] s t ∧ RegsBut s t [tresPeerErrCount] ∧
      t.reg tresPeerErrCount = sat16 (s.reg tresPeerErrCount))) ∧
  (∀ (b : Bytes) (s : State), s.supply.vcore = true → 18 ∉ s.islandBad → (b.length ≠ 5 ∨ b[0]? ≠ some 0xD1) →
    Answers (.peerReadRequest b) s (fun t => Same [.regs] s t ∧ RegsBut s t [tresPeerErrCount] ∧
      t.reg tresPeerErrCount = sat16 (s.reg tresPeerErrCount))) ∧
  (∀ (b : Bytes) (s : State), s.supply.vcore = false ∨ 18 ∈ s.islandBad → exec (.peerReadRequest b) s = .next s ∧
    exec .peerReadResult s = .next s) ∧
  (∀ s : State, s.trestle.dup = true → exec .peerReadResult s = .next s) ∧
  (∀ (idx sub st : Nat) (v : Bytes) (s : State), s.supply.vcore = true → 18 ∉ s.islandBad → s.trestle.dup = false →
    (s.peerReq = some (idx, sub, st, v) ∨ (s.peerReq = none ∧ (idx, sub, st, v) = (0xFFFF, 0xFF, 2, []))) →
    Answers .peerReadResult s (fun t => Same [.reply, .status] s t ∧ t.status = 0 ∧ ∃ b : Bytes,
      b = two st ++ two idx ++ [BitVec.ofNat 8 sub, BitVec.ofNat 8 v.length] ++ v ∧
      t.reply = b ++ [crc8 (BitVec.ofNat 8 (s.peerAddr + 1) :: b)]))

/-- Events (after R24, R26, R31, R330 to R332, R352): an event of a listed code enters the ring with its sequence number and the device time of the
island that raises it, and with the ring full the oldest record leaves it, with a count of those that were not read; while the management plane is
down, or the island's crossing isolated, it waits in its island's queue of 64, or is counted as lost, and one of the management plane itself has no
effect. EVENT_NEXT gives the first record that its session may see from the cursor on, and moves past it, or none. EVENT_SUBSCRIBE sets and ends the
subscription of its session, with ST 0x0301 for another value and ST 0x0201 for the service key. An event frame carries up to 8 records, which leave
the session's queue, at most each 1 ms and while there is a place for it. -/
def Obligations.EventsReachTheRingAndTheSessions : Prop :=
  (∀ (src : Island) (ev : EventBody) (s : State), listedCode ev.code.toNat = true → s.enters (islandDom src) → s.evRing.length < 2048 →
    Answers (.eventRaise src ev) s (fun t => Same [.events] s t ∧ t.evNext = s.evNext + 1 ∧ t.evRing = s.evRing ++
      [{ code := ev.code.toNat, source := islandDom src, part := ev.part.toNat, clear := ev.clear, queued := false, gap := false,
         eseq := s.evNext % 4294967296, param := ev.param, stamp := s.islandTime (islandDom src) }])) ∧
  (∀ (src : Island) (ev : EventBody) (s : State), listedCode ev.code.toNat = true → s.enters (islandDom src) → s.evRing.length = 2048 → s.overwritesUnread = false →
    Answers (.eventRaise src ev) s (fun t => Same [.events, .regs] s t ∧ RegsBut s t [evEventsLost] ∧
      t.reg evEventsLost = wrap32 (s.reg evEventsLost) ∧ t.evRing = s.evRing.drop 1 ++
      [{ code := ev.code.toNat, source := islandDom src, part := ev.part.toNat, clear := ev.clear, queued := false, gap := false,
         eseq := s.evNext % 4294967296, param := ev.param, stamp := s.islandTime (islandDom src) }])) ∧
  (∀ (src : Island) (ev : EventBody) (s : State), listedCode ev.code.toNat = true → ¬ s.enters (islandDom src) → src ≠ .mgmt →
    (tabGet (fun _ => []) s.evQueues (islandDom src)).length < 64 →
    Answers (.eventRaise src ev) s (fun t => Same [.events] s t ∧ t.evRing = s.evRing ∧
      tabGet (fun _ => []) t.evQueues (islandDom src) = tabGet (fun _ => []) s.evQueues (islandDom src) ++
        [{ code := ev.code.toNat, source := islandDom src, part := ev.part.toNat, clear := ev.clear, queued := true, gap := false,
           eseq := 0, param := ev.param, stamp := s.islandTime (islandDom src) }])) ∧
  (∀ (src : Island) (ev : EventBody) (s : State), listedCode ev.code.toNat = true → s.enters (islandDom src) → s.evRing.length = 2048 → s.overwritesUnread = true →
    Answers (.eventRaise src ev) s (fun t => Same [.events, .regs] s t ∧ RegsBut s t [evEventsLost] ∧
      t.recorded (islandDom src) ev.code.toNat ev.part.toNat ev.clear ev.param)) ∧
  (∀ (src : Island) (ev : EventBody) (s : State), listedCode ev.code.toNat = true → ¬ s.enters (islandDom src) → src ≠ .mgmt →
    64 ≤ (tabGet (fun _ => []) s.evQueues (islandDom src)).length →
    Answers (.eventRaise src ev) s (fun t => Same [.events, .regs] s t ∧ t.evRing = s.evRing ∧ t.evQueues = s.evQueues ∧
      t.reg evEventsLost = wrap32 (s.reg evEventsLost) ∧ islandDom src ∈ t.evQueueGap)) ∧
  (∀ (ev : EventBody) (s : State), s.mgmtDown = true → exec (.eventRaise .mgmt ev) s = .next s) ∧
  (∀ (src : Island) (ev : EventBody) (s : State), listedCode ev.code.toNat = false → exec (.eventRaise src ev) s = .next s) ∧
  (∀ (k : Nat) (v : Byte) (s : State), s.session k = none → exec (.eventNext k) s = .next s ∧ exec (.eventSubscribe k v) s = .next s ∧
    exec (.eventFrameSend k) s = .next s) ∧
  (∀ (k : Nat) (v : Byte) (s : State), s.serves = false → exec (.eventNext k) s = .next s ∧ exec (.eventSubscribe k v) s = .next s ∧
    exec (.eventFrameSend k) s = .next s) ∧
  (∀ (k : Nat) (x : Session) (s : State), s.session k = some x → s.hears (keyRole x.keyId) →
    (∀ e, s.nextFor x = some e → Answers (.eventNext k) s (fun t => ItemEnds (keyRole x.keyId) [.sessions] [] s t 0 ∧
      t.reply = ({ e with gap := e.gap || s.gapBefore x }).bytes ∧
      t.session k = some { x with nextSeen := true, cursor := (e.eseq + 1) % 4294967296 } ∧
      ∀ j, j ≠ k → t.session j = s.session j)) ∧
    (s.nextFor x = none → Answers (.eventNext k) s (fun t => ItemEnds (keyRole x.keyId) [.sessions] [] s t 0 ∧ t.reply = [] ∧
      t.session k = some { x with nextSeen := true }))) ∧
  (∀ (k : Nat) (x : Session) (s : State), s.session k = some x → s.hears (keyRole x.keyId) →
    (x.keyId ≤ 16 → Answers (.eventSubscribe k 1) s (fun t => ItemEnds (keyRole x.keyId) [.sessions] [] s t 0 ∧
        t.session k = some { x with subscribed := true } ∧ ∀ j, j ≠ k → t.session j = s.session j) ∧
      Answers (.eventSubscribe k 0) s (fun t => ItemEnds (keyRole x.keyId) [.sessions] [] s t 0 ∧
        t.session k = some { x with subscribed := false, evOut := [], evGap := false })) ∧
    (x.keyId ≤ 16 → ∀ v : Byte, 2 ≤ v.toNat → Answers (.eventSubscribe k v) s (fun t => ItemEnds (keyRole x.keyId) [] [] s t 0x0301)) ∧
    (x.keyId = 17 → ∀ v, Answers (.eventSubscribe k v) s (fun t => ItemEnds .service [] [] s t 0x0201))) ∧
  (∀ (k : Nat) (x : Session) (s : State), s.session k = some x → s.serves = true → x.subscribed = true → x.evOut ≠ [] →
    (∀ a, x.evSentAt = some a → a + 100000 ≤ s.now) → s.eventPlace x = true → x.keyId ≤ 16 →
    (x.tr = .spi → Answers (.eventFrameSend k) s (fun t => Same [.draws, .events, .host, .keys, .nv, .regs, .sessions] s t ∧
      ((∀ b ∈ s.nv.badCopies, b / 2 ≠ x.keyId + 1) → Same [.draws, .host, .keys, .sessions] s t ∧
        t.session k = some { x with evOut := x.evOut.drop 8, evSentAt := some s.now }) ∧
      t.host.out = s.host.out ++ [(true, (s.seal x.keyId 1 0 (eventPayload (x.evOut.take 8))).2)])) ∧
    (∀ w : Fin 16, x.tr = .svc w → Answers (.eventFrameSend k) s (fun t => Same [.draws, .events, .keys, .nv, .regs, .sessions, .svc] s t ∧
      ((∀ b ∈ s.nv.badCopies, b / 2 ≠ x.keyId + 1) → Same [.draws, .keys, .sessions, .svc] s t ∧
        t.session k = some { x with evOut := x.evOut.drop 8, evSentAt := some s.now }) ∧
      (t.window w).queue = (s.window w).queue ++ [(true, (s.seal x.keyId 1 0 (eventPayload (x.evOut.take 8))).2)])) ∧
    (x.tr = .t1s ∨ (∃ n, x.tr = .can n) → s.t1sSleep = false → Answers (.eventFrameSend k) s (fun t =>
      Same [.draws, .events, .keys, .nv, .outFrames, .regs, .sessions] s t ∧
      ((∀ b ∈ s.nv.badCopies, b / 2 ≠ x.keyId + 1) → Same [.draws, .keys, .outFrames, .regs, .sessions] s t ∧
        t.session k = some { x with evOut := x.evOut.drop 8, evSentAt := some s.now })))) ∧
  (∀ (k : Nat) (x : Session) (s : State), s.session k = some x →
    (x.subscribed = false ∨ x.evOut = [] ∨ s.eventPlace x = false ∨ ∃ a, x.evSentAt = some a ∧ s.now < a + 100000) →
    exec (.eventFrameSend k) s = .next s)

/-! ### Field links and the host link -/

/-- Frames on the field links (after R345, R346, R348 to R351), on a link that is up, with no assembly of the same request open and room for one: a
frame of one segment is counted and its request joins the queue; a first segment opens an assembly (CAN). An assembly whose last segment is more
than SEG_TIMEOUT old is discarded and counted, an earlier one stays. A frame of another format, or on a link that does not run, brings nothing, and
one for another node only ends the link's silence; a 10BASE-T1S frame with a bad FCS is counted; a CAN FD frame on a link that is down without
bus-off brings it up. A due telemetry frame takes its records from the stream and is sent with the next sequence number, or is dropped and counted
where the link does not carry it; one that is not due takes none. -/
def Obligations.FieldLinkFramesBringRequests : Prop :=
  (∀ (k : Fin 2) (id : BitVec 29) (tid : Byte) (part : Bytes) (s : State), s.linkRuns (.can k) = true → s.downCause k.val = 0 →
    s.serves = true → s.canMine k.val id.toNat = true → canLenOk (part.length + 3) = true →
    s.asm (.can k) (id.toNat / 256 % 256) tid.toNat = none → (s.asms.filter (fun a => a.link == .can k)).length < 16 →
    Answers (.canFrameReceive k true id (tid :: 0 :: 0x80 :: part)) s (fun t => Same [.downs, .inbox, .regs] s t ∧
      RegsBut s t [cansRxFrames k] ∧ t.linkX (.can k) = { s.linkX (.can k) with heardAt := s.now } ∧
      t.reg (cansRxFrames k) = wrap32 (s.reg (cansRxFrames k)) ∧ t.inbox = s.inbox ++
        [{ req := { tr := .can k, ep := id.toNat / 256 % 256, service := false,
                    bytes := unpad [] part (fun n => canLen (n + 3) == part.length + 3) }, at_ := s.now }]) ∧
    Answers (.canFrameReceive k true id (tid :: 0 :: 0 :: part)) s (fun t => Same [.asms, .downs, .regs] s t ∧ RegsBut s t [cansRxFrames k] ∧
      t.asm (.can k) (id.toNat / 256 % 256) tid.toNat = some
        { link := .can k, ep := id.toNat / 256 % 256, tid := tid.toNat, next := 1, bytes := part, lastAt := s.now })) ∧
  (∀ (k : Fin 2) (id : BitVec 29) (data : Bytes) (s : State), s.linkRuns (.can k) = true → s.downCause k.val = 0 →
    canLenOk data.length = true → (s.serves = false ∨ s.canMine k.val id.toNat = false) → Answers (.canFrameReceive k true id data) s (fun t =>
      Same [.downs] s t ∧ t.linkX (.can k) = { s.linkX (.can k) with heardAt := s.now })) ∧
  (∀ (k : Fin 2) (fd : Bool) (id : BitVec 29) (data : Bytes) (s : State), (s.linkRuns (.can k) = false ∨ s.downCause k.val = 1 ∨
      fd = false ∨ canLenOk data.length = false) → exec (.canFrameReceive k fd id data) s = .next s) ∧
  (∀ (k : Fin 2) (id : BitVec 29) (data : Bytes) (s : State), s.linkRuns (.can k) = true → s.downCause k.val ≠ 0 → s.downCause k.val ≠ 1 →
    canLenOk data.length = true → Answers (.canFrameReceive k true id data) s (fun t =>
      Same [.asms, .downs, .events, .inbox, .regs] s t ∧ t.downCause k.val = 0)) ∧
  (∀ (e : EthFrame) (tid : Byte) (part : Bytes) (s : State), s.linkRuns .t1s = true → s.t1sSleep = false → s.downCause 2 = 0 →
    s.serves = true → e.fcsOk = true → e.unicast = true → e.ethertype.toNat = s.act t1sEthertype → s.vlanOk e = true →
    e.payload = 1 :: tid :: 0 :: 0x80 :: part → ethMin e ≤ e.payload.length → e.payload.length ≤ 1500 →
    s.asm .t1s e.src.toNat tid.toNat = none → (s.asms.filter (fun a => a.link == .t1s)).length < 16 →
    Answers (.t1sFrameReceive e) s (fun t => Same [.downs, .inbox, .regs] s t ∧ RegsBut s t [t1ssRxFrames] ∧
      t.linkX .t1s = { s.linkX .t1s with heardAt := s.now } ∧
      t.reg t1ssRxFrames = wrap32 (s.reg t1ssRxFrames) ∧ ∃ b : Bytes, b.length ≤ part.length ∧ b = part.take b.length ∧ t.inbox = s.inbox ++
        [{ req := { tr := .t1s, ep := e.src.toNat, service := false, bytes := b }, at_ := s.now }])) ∧
  (∀ (e : EthFrame) (s : State), s.linkRuns .t1s = true → s.t1sSleep = false → e.fcsOk = false →
    Answers (.t1sFrameReceive e) s (fun t => Same [.regs] s t ∧ RegsBut s t [t1ssFcsErrCount] ∧
      t.reg t1ssFcsErrCount = wrap32 (s.reg t1ssFcsErrCount))) ∧
  (∀ (e : EthFrame) (s : State), (s.linkRuns .t1s = false ∨ s.t1sSleep = true) → exec (.t1sFrameReceive e) s = .next s) ∧
  (∀ (l : Link) (ep : Nat) (tid : Byte) (s : State), s.asm l ep tid.toNat = none → exec (.segTimeout l ep tid) s = .next s) ∧
  (∀ (l : Link) (ep : Nat) (tid : Byte) (a : Assembly) (s : State), s.asm l ep tid.toNat = some a →
    (a.lastAt + 100000 * s.act dapSegTimeout < s.now → Answers (.segTimeout l ep tid) s (fun t => Same [.asms, .regs] s t ∧
      RegsBut s t [dapsSegErrCount] ∧ t.asm l ep tid.toNat = none ∧ t.reg dapsSegErrCount = wrap32 (s.reg dapsSegErrCount))) ∧
    (s.now ≤ a.lastAt + 100000 * s.act dapSegTimeout → exec (.segTimeout l ep tid) s = .next s)) ∧
  (∀ (k : Fin 32) (s : State), s.act (strEnable k) = 1 → s.act (strDestination k) = 2 → (s.stream k).ring ≠ [] → 11 ∉ s.islandBad →
    s.frameDue k = true →
    (s.linkRuns .t1s = true → s.t1sSleep = false → s.downCause 2 = 0 → Answers (.telemFrameSend k) s (fun t =>
      Same [.draws, .outFrames, .regs, .streams] s t ∧ AllBut s.stream t.stream [k.val] ∧ RegsBut s t [strsFrameSeq k, t1ssTxFrames] ∧
      t.reg (strsFrameSeq k) = (s.reg (strsFrameSeq k) + 1) % 4294967296 ∧ t.reg t1ssTxFrames = wrap32 (s.reg t1ssTxFrames) ∧
      (t.stream k).ring = (s.stream k).ring.drop (blockOf (s.stream k).ring 1480 none).2 ∧
      ∃ f : Bytes, t.outFrames = s.outFrames ++ [{ link := .t1s, id := 0, data := f }])) ∧
    ((s.linkRuns .t1s = false ∨ s.t1sSleep = true ∨ s.downCause 2 ≠ 0) → Answers (.telemFrameSend k) s (fun t =>
      Same [.regs, .streams] s t ∧ AllBut s.stream t.stream [k.val] ∧ RegsBut s t [t1ssTelemDropped] ∧
      t.reg t1ssTelemDropped = wrap32 (s.reg t1ssTelemDropped) ∧
      (t.stream k).ring = (s.stream k).ring.drop (blockOf (s.stream k).ring 1480 none).2))) ∧
  (∀ (k : Fin 32) (s : State), (s.act (strEnable k) ≠ 1 ∨ s.act (strDestination k) ≠ 2 ∨ (s.stream k).ring = [] ∨ 11 ∈ s.islandBad ∨
    s.frameDue k = false) → exec (.telemFrameSend k) s = .next s)

/-- Links that go down and come back (after R342, R347, R354, R355, R357, R358). A link that is up goes down for a cause that applies to it: it
closes its sessions, discards its assemblies, mutes its waiting requests, is counted and raises EV 0x70; silence is one only when no frame has been
received for its time; a link that is down already may still go to bus-off, or lose its beacon. The event is raised as cleared when the link is up
again, after bus-off by the recovery only, BUSOFF_HOLD later and with EV 0x71. A session idle for longer than SESSION_IDLE, without an open request,
closes; another stays. A partition whose host has been silent for longer than its watch time takes its HOST_ACTION, counted, with EV 0x72, but not
in STOPPING: the event only, a stop when it is STARTING or UP, or a shut-off with cause 0x06 when it is not shut off. TC10 sleep, when allowed, and
wake raise EV 0x73. Otherwise nothing happens. -/
def Obligations.LinksAndHostsThatFallSilent : Prop :=
  (∀ (l : Link) (c : LinkCause) (s : State), s.linkSees l c = true → s.linkCause l c ≠ 0 → s.downCause (linkNum l) = 0 →
    ¬(s.t1sSleep = true ∧ l = .t1s) →
    Answers (.linkDown l c) s (fun t => Same [.asms, .downs, .events, .inbox, .regs, .sessions] s t ∧
      t.downCause (linkNum l) = s.linkCause l c ∧ t.reg (linkDownKey l) = sat16 (s.reg (linkDownKey l)) ∧
      (∀ x ∈ t.sessions, x.2.tr ≠ linkTr l) ∧ (∀ a ∈ t.asms, a.link ≠ l) ∧ (∀ x ∈ t.inbox, x.req.tr = linkTr l → x.muted = true) ∧
      (s.enters (linkDom l) → t.recorded (linkDom l) 0x70 255 false [BitVec.ofNat 8 (linkNum l), BitVec.ofNat 8 (s.linkCause l c)]))) ∧
  (∀ (l : Link) (c : LinkCause) (s : State), s.linkSees l c = true → s.downCause (linkNum l) ≠ 0 → s.downCause (linkNum l) ≠ 1 →
    ¬(s.t1sSleep = true ∧ l = .t1s) →
    (s.linkCause l c = 4 → Answers (.linkDown l c) s (fun t => Same [.downs] s t ∧ t.linkX l = { s.linkX l with beaconLost := true })) ∧
    (s.linkCause l c ≠ 1 → s.linkCause l c ≠ 4 → exec (.linkDown l c) s = .next s) ∧
    (s.linkCause l c = 1 → Answers (.linkDown l c) s (fun t => Same [.downs, .regs] s t ∧ t.downCause (linkNum l) = 1))) ∧
  (∀ (l : Link) (c : LinkCause) (s : State), (s.linkSees l c = false ∨ s.linkCause l c = 0 ∨ (s.t1sSleep = true ∧ l = .t1s) ∨
      s.downCause (linkNum l) = 1) → exec (.linkDown l c) s = .next s) ∧
  (∀ (l : Link) (s : State), s.now < (s.linkX l).heardAt + 100000 * s.silence l ∨ s.silence l = 0 → s.linkCause l .silence = 0) ∧
  (∀ (l : Link) (s : State), s.linkRuns l = false → exec (.linkUp l) s = .next s) ∧
  (∀ (l : Link) (s : State), s.linkRuns l = true → s.downCause (linkNum l) = 0 → Answers (.linkUp l) s (fun t => Same [.downs] s t ∧
    t.linkX l = { s.linkX l with heardAt := s.now })) ∧
  (∀ (k : Fin 2) (s : State), (s.linkRuns (.can k) = false ∨ s.downCause k.val ≠ 1 ∨
      s.now < (s.linkX (.can k)).offAt + 100000 * s.act (canBusoffHold k.val)) → exec (.busoffRecovery k) s = .next s) ∧
  (∀ (l : Link) (s : State), s.linkRuns l = true → s.downCause (linkNum l) ≠ 0 → s.downCause (linkNum l) ≠ 1 →
    Answers (.linkUp l) s (fun t => Same [.downs, .events, .regs] s t ∧ RegsBut s t [evEventsLost] ∧ t.downCause (linkNum l) = 0 ∧
      (s.enters (linkDom l) → t.recorded (linkDom l) 0x70 255 true
        [BitVec.ofNat 8 (linkNum l), BitVec.ofNat 8 (s.downCause (linkNum l))]))) ∧
  (∀ (k : Fin 2) (s : State), s.linkRuns (.can k) = true → s.downCause k.val = 1 →
    exec (.linkUp (.can k)) s = .next s ∧ ((s.linkX (.can k)).offAt + 100000 * s.act (canBusoffHold k.val) ≤ s.now →
    Answers (.busoffRecovery k) s (fun t => Same [.downs, .events, .regs] s t ∧ RegsBut s t [evEventsLost] ∧ t.downCause k.val = 0 ∧
      (s.enters (14 + k.val) → t.recorded (14 + k.val) 0x71 255 false (BitVec.ofNat 8 k :: two (s.reg (cansBusoffCount k))) ∧
        t.recorded (14 + k.val) 0x70 255 true [BitVec.ofNat 8 k, 1])))) ∧
  (∀ (k : Nat) (s : State), s.session k = none → exec (.sessionIdle k) s = .next s) ∧
  (∀ (k : Nat) (x : Session) (s : State), s.session k = some x →
    (x.lastUsed + 100000000 * s.act dapSessionIdle < s.now → s.sessionAsked x = false → Answers (.sessionIdle k) s (fun t =>
      Same [.sessions] s t ∧ t.session k = none ∧ ∀ j, j ≠ k → t.session j = s.session j)) ∧
    (s.now ≤ x.lastUsed + 100000000 * s.act dapSessionIdle ∨ s.sessionAsked x = true → exec (.sessionIdle k) s = .next s)) ∧
  (∀ (p : Fin 16) (k : Nat) (s : State), (s.part p).hostAt = some k → s.mgmtDown = false → s.act (watchHostTimeout p) ≠ 0 →
    (s.part p).state ≠ .stopping → k + 100000 * s.act (watchHostTimeout p) < s.now →
    (s.act (watchHostAction p) = 0 → Answers (.hostTimeout p) s (fun t => Same [.events, .parts, .regs] s t ∧
      AllBut s.part t.part [p.val] ∧ t.part p = { s.part p with hostAt := none } ∧ RegsBut s t [watchWatchExpiries p, evEventsLost] ∧
      t.reg (watchWatchExpiries p) = sat16 (s.reg (watchWatchExpiries p)) ∧ t.recorded 10 0x72 p false [0])) ∧
    (s.act (watchHostAction p) = 1 → (s.part p).state.isLive = true → Answers (.hostTimeout p) s (fun t =>
      Same sweepFlds s t ∧ t.reg (watchWatchExpiries p) = sat16 (s.reg (watchWatchExpiries p)) ∧
      ((∀ c < 512, s.timersIdle c) → AllBut s.part t.part [p.val] ∧ ((t.part p).state = .stopping ∨ (t.part p).state = .down) ∧
        (t.part p).line = (s.part p).line))) ∧
    (s.act (watchHostAction p) = 2 → (s.part p).line = false → Answers (.hostTimeout p) s (fun t => ShutDown s t p 6 ∧
      t.reg (watchWatchExpiries p) = sat16 (s.reg (watchWatchExpiries p))))) ∧
  (∀ (p : Fin 16) (s : State), (s.mgmtDown = true ∨ s.act (watchHostTimeout p) = 0 ∨ (s.part p).state = .stopping ∨
      ∀ k, (s.part p).hostAt = some k → s.now ≤ k + 100000 * s.act (watchHostTimeout p)) → exec (.hostTimeout p) s = .next s) ∧
  (∀ s : State, (s.linkRuns .t1s = false ∨ s.t1sSleep = true) → exec .tc10SleepRequest s = .next s) ∧
  (∀ s : State, (s.linkRuns .t1s = false ∨ s.t1sSleep = false) → exec .tc10WakeUp s = .next s) ∧
  (∀ s : State, s.linkRuns .t1s = true → s.t1sSleep = false →
    (s.sleepOk = true → Answers .tc10SleepRequest s (fun t => Same [.events, .regs, .t1sSleep] s t ∧ t.t1sSleep = true ∧
      RegsBut s t [t1ssSleepCount, evEventsLost] ∧ t.reg t1ssSleepCount = sat16 (s.reg t1ssSleepCount) ∧
      (s.enters 16 → t.recorded 16 0x73 255 false [1]))) ∧
    (s.sleepOk = false → exec .tc10SleepRequest s = .next s)) ∧
  (∀ s : State, s.linkRuns .t1s = true → s.t1sSleep = true → Answers .tc10WakeUp s (fun t => Same [.events, .regs, .t1sSleep] s t ∧
    RegsBut s t [evEventsLost] ∧ t.t1sSleep = false ∧ (s.enters 16 → t.recorded 16 0x73 255 true [2])))

/-- The host link while its island and pins run (after R360 to R367, R369, R371 to R373): a frame samples its status word at the falling edge of
HCS_N; a complete one is counted, its device phase sent and its command executed, NOP, DAP or SLEEP, unless its CRC is wrong; one that is short,
overlong or misheaded is counted and not delivered. DAP queues its frame or is dropped with its cause. SLEEP, a host resume of 1 µs or more and a
device wake take the link into and out of sleep, with EV 0x76. HIRQ_N is low, in STARTING and ACTIVE only, in a wake window, and while the link is
awake for a pending condition that IRQ_MASK enables. While the island or its pins do not run, and where a command meets the link in the wrong state,
nothing happens. -/
def Obligations.HostLinkFramesAndSleep : Prop :=
  (∀ (m : Bool) (s : State), s.hostRuns = true → s.host.inFrame = false → s.host.sleep = false → s.host.wakeOpen = false →
    Answers (.spiFrameStart m) s (fun t => Same [.host] s t ∧
      t.host = { s.host with inFrame := true, mode3 := m, word := s.statusWord, dapReady := !s.host.out.isEmpty && !s.mgmtDown,
                             ready := s.spiStreams.map (fun k => (k, (s.stream k).ring.length)) })) ∧
  (∀ (rx : SpiRx) (s : State), s.hostRuns = true → s.host.inFrame = true → s.host.sleep = false →
    (rx.bytes.length < 4 → Answers (.spiFrameEnd rx) s (fun t => Same [.host, .regs] s t ∧ RegsBut s t [hostsShortCount] ∧
      t.reg hostsShortCount = wrap32 (s.reg hostsShortCount) ∧ t.host = { s.host with inFrame := false, sent := [], dropCause := 2 })) ∧
    (4 ≤ rx.bytes.length → headerOk rx.bytes = false → Answers (.spiFrameEnd rx) s (fun t => Same [.host, .regs] s t ∧
      RegsBut s t [hostsHdrErrCount] ∧ t.reg hostsHdrErrCount = wrap32 (s.reg hostsHdrErrCount) ∧
      t.host = { s.host with inFrame := false, sent := [], dropped := true, dropCause := 6 })) ∧
    (4 ≤ rx.bytes.length → headerOk rx.bytes = true → rx.clocks < hfClocks rx.bytes → Answers (.spiFrameEnd rx) s (fun t =>
      Same [.host, .regs] s t ∧ RegsBut s t [hostsShortCount] ∧ t.reg hostsShortCount = wrap32 (s.reg hostsShortCount) ∧
      t.host = { s.host with inFrame := false, sent := [], dropped := true, dropCause := 2 })) ∧
    (4 ≤ rx.bytes.length → headerOk rx.bytes = true → hfClocks rx.bytes < rx.clocks → Answers (.spiFrameEnd rx) s (fun t =>
      Same [.host, .regs] s t ∧ RegsBut s t [hostsOverlongCount] ∧ t.reg hostsOverlongCount = wrap32 (s.reg hostsOverlongCount) ∧
      t.host = { s.host with inFrame := false, sent := [], dropped := true, dropCause := 3 })) ∧
    (4 ≤ rx.bytes.length → headerOk rx.bytes = true → rx.clocks = hfClocks rx.bytes → Answers (.spiFrameEnd rx) s (fun t =>
      Same [.events, .host, .inbox, .regs, .streams] s t ∧ t.reg hostsFramesOk = wrap32 (s.reg hostsFramesOk) ∧
      t.host.sent = s.devicePhase rx.bytes ∧ t.host.inFrame = false ∧
      (hostCrcOk rx.bytes = false → t.host.dropped = true ∧ t.host.dropCause = 1 ∧ t.inbox = s.inbox ∧
        t.reg hostsCrcErrCount = wrap32 (s.reg hostsCrcErrCount)) ∧
      (hostCrcOk rx.bytes = true → hfCmd rx.bytes = 0 → t.host.dropped = false ∧ t.inbox = s.inbox) ∧
      (hostCrcOk rx.bytes = true → hfCmd rx.bytes = 2 → t.host.sleep = true ∧ t.inbox = s.inbox) ∧
      (hostCrcOk rx.bytes = true → hfCmd rx.bytes = 1 → s.serves = true → s.canArrive .spi = true → t.inbox = s.inbox ++
        [{ req := { tr := .spi, ep := 0, service := false, bytes := (rx.bytes.drop 4).take (hfLen rx.bytes) }, at_ := s.now }])))) ∧
  (∀ s : State, exec .nop s = .next s) ∧
  (∀ s : State, s.hirqLow = true ↔ s.hostRuns = true ∧ (s.supply.power = .starting ∨ s.supply.power = .active) ∧
    (s.host.wakeOpen = true ∨ (s.host.sleep = false ∧ s.hostConds &&& s.act hostIrqMask ≠ 0))) ∧
  (∀ (m : Bool) (rx : SpiRx) (frame : Bytes) (n : Nat) (k : Fin 32) (s : State), s.hostRuns = false →
    exec (.spiFrameStart m) s = .next s ∧ exec (.spiFrameEnd rx) s = .next s ∧ exec (.dap frame) s = .next s ∧ exec .sleepLink s = .next s ∧
    exec (.hostResume n) s = .next s ∧ exec (.telemIrqAgeExpire k) s = .next s) ∧
  (∀ (m : Bool) (s : State), s.host.inFrame = true → exec (.spiFrameStart m) s = .next s) ∧
  (∀ (rx : SpiRx) (s : State), s.host.inFrame = false → exec (.spiFrameEnd rx) s = .next s) ∧
  (∀ (frame : Bytes) (s : State), s.host.sleep = true → exec (.dap frame) s = .next s ∧ exec .sleepLink s = .next s) ∧
  (∀ (n : Nat) (s : State), s.host.sleep = false → exec (.hostResume n) s = .next s) ∧
  (∀ (frame : Bytes) (s : State), s.hostRuns = true → s.host.sleep = false →
    (s.serves = true → s.canArrive .spi = true → Answers (.dap frame) s (fun t => Same [.inbox] s t ∧ t.inbox = s.inbox ++
      [{ req := { tr := .spi, ep := 0, service := false, bytes := frame }, at_ := s.now }])) ∧
    (s.serves = false → Answers (.dap frame) s (fun t => Same [.host, .regs] s t ∧ RegsBut s t [hostsQueueDropCount] ∧
      t.reg hostsQueueDropCount = wrap32 (s.reg hostsQueueDropCount) ∧ t.host = { s.host with dropped := true, dropCause := 4 })) ∧
    (s.serves = true → s.canArrive .spi = false → Answers (.dap frame) s (fun t => Same [.events, .host, .regs] s t ∧
      t.reg hostsQueueDropCount = wrap32 (s.reg hostsQueueDropCount) ∧ t.host.dropped = true ∧ t.host.dropCause = 5))) ∧
  (∀ s : State, s.hostRuns = true → s.host.sleep = false →
    Answers .sleepLink s (fun t => Same [.host] s t ∧ t.host.sleep = true ∧ t.host.woke = false ∧
      t.host.wakeReason = wakeBits s.hostConds ∧ (s.wakeWanted = true → t.host.wakeOpen = true ∧ t.host.wakeAt = s.now) ∧
      (s.wakeWanted = false → t.host.wakeOpen = s.host.wakeOpen))) ∧
  (∀ (lowNs : Nat) (s : State), s.hostRuns = true → s.host.sleep = true →
    (lowNs < 1000 → Answers (.hostResume lowNs) s (fun t => Same [.host] s t ∧ t.host = { s.host with inFrame := false })) ∧
    (1000 ≤ lowNs → Answers (.hostResume lowNs) s (fun t => Same [.events, .host, .regs] s t ∧ t.host.sleep = false ∧ t.host.woke = true ∧
      t.reg hostsWakeCount = sat16 (s.reg hostsWakeCount) ∧
      (s.host.wakeOpen = false → s.enters 17 → ∃ r, t.recorded 17 0x76 255 false [1, r]) ∧
      (s.host.wakeOpen = true → s.now ≤ s.host.wakeAt + lowNs / 10 → t.reg hostsCollisionCount = sat16 (s.reg hostsCollisionCount) ∧
        (s.enters 17 → ∃ r, t.recorded 17 0x76 255 false [3, r])) ∧
      (s.host.wakeOpen = true → s.host.wakeAt + lowNs / 10 < s.now → s.enters 17 →
        ∃ r, t.recorded 17 0x76 255 false [2, r])))) ∧
  (∀ s : State, s.hostRuns = true → s.host.sleep = true → s.host.wakeOpen = false → s.wakeWanted = true →
    Answers .deviceWake s (fun t => Same [.host] s t ∧
      t.host = { s.host with wakeOpen := true, wakeAt := s.now, wakeReason := s.host.wakeReason ||| wakeBits s.hostConds })) ∧
  (∀ s : State, (s.hostRuns = false ∨ s.host.sleep = false ∨ s.wakeWanted = false) → s.host.wakeOpen = false →
    Answers .deviceWake s (fun t => Same [.host] s t ∧ t.host = { s.host with wakeReason := t.host.wakeReason })) ∧
  (∀ (k : Fin 32) (s : State), s.streamDue k = false → exec (.telemIrqAgeExpire k) s = .next s) ∧
  (∀ (k : Fin 32) (s : State), s.hostRuns = true → s.streamDue k = true → s.host.wakeOpen = false →
    (s.host.sleep = true → bitOf (s.act hostHostWakeMask) 1 = true → Answers (.telemIrqAgeExpire k) s (fun t => Same [.host] s t ∧
      t.host = { s.host with wakeOpen := true, wakeAt := s.now, wakeReason := s.host.wakeReason ||| wakeBits s.hostConds })) ∧
    (s.host.sleep = false → exec (.telemIrqAgeExpire k) s = .next s))

/-! ### Trims, margins and the Bench -/

/-- The PMBus trim loop and static margins (after R231, R235, R237, Table 8-4). Each period of its port, the loop of a channel asks the port for a
VOUT_COMMAND, when its error calls for one and none of its own waits; otherwise nothing happens. MARGIN_APPLY by OWNER or the partition's own role
puts every named channel into MARGIN at its offset setpoint, or notes the setpoint for the end of an open-wire pair that runs on it; a channel that
is not a RUNNING VOLTAGE channel of the partition with a trim is ST 0x0506, a setpoint outside the guard band ST 0x0301, and a switch or a firmware
activation ST 0x0401, and then nothing else changes. MARGIN_REMOVE ends every static margin of the partition; a channel whose clock is lost keeps
its state. Another role has ST 0x0201. -/
def Obligations.TrimLoopAndStaticMargins : Prop :=
  (∀ (c : Fin 512) (e n v : Nat) (s : State), e = s.act (chTrimId c) → n = tgtPort (s.act (tgtEntry e)) → s.kind c = 1 →
    s.act (chTrimKind c) = 2 → (∀ a, (s.entry e).sentAt = some a → a + 100000 * s.act (psTrimPmbusPeriod n) ≤ s.now) →
    s.loopAsked e = false → 18 ∉ s.islandBad → s.loopNext c = some v →
    Answers (.pmbusTrimPeriod c) s (fun t => Same [.ports] s t ∧ AllBut s.port t.port [n] ∧
      t.port n = { s.port n with queue := (s.port n).queue ++
        [{ entry := e, part := tgtPart (s.act (tgtEntry e)), cmd := 0x21, data := v, why := .loop c }] })) ∧
  (∀ (c : Fin 512) (a : Nat) (s : State), (s.kind c ≠ 1 ∨ s.act (chTrimKind c) ≠ 2 ∨ s.loopAsked (s.act (chTrimId c)) = true ∨
      18 ∈ s.islandBad ∨ s.loopNext c = none ∨ ((s.entry (s.act (chTrimId c))).sentAt = some a ∧
        s.now < a + 100000 * s.act (psTrimPmbusPeriod (tgtPort (s.act (tgtEntry (s.act (chTrimId c)))))))) →
    exec (.pmbusTrimPeriod c) s = .next s) ∧
  (∀ (r : Role) (p : Fin 16) (s : State), s.hears r → ownerOr r p = true →
    ((∀ c ∈ s.marginChans p, s.kind c = 1 ∧ s.chPart c = p ∧ (s.chan c).state = .running ∧ s.hasTrim c = true) →
      ((∀ c ∈ s.marginChans p, s.mayApply c (s.marginGoal p c) = true) → s.marginBarred p = false →
        Answers (.marginApply r p) s (fun t => Same [.caps, .chans, .entries, .events, .regs, .reply, .status, .trims] s t ∧ t.status = 0 ∧
          (∀ c ∈ s.marginChans p, (t.chan c).staticMgn = true ∧
            (s.pairRuns c = false → (t.chan c).state = .margin ∧ (t.chan c).marginSet = some (s.marginGoal p c).toNat) ∧
            (s.pairRuns c = true → (t.chan c).state = .running ∧ (t.chan c).marginPend = some (s.marginGoal p c).toNat)) ∧
          ∀ c < 512, c ∉ s.marginChans p → (t.chan c).state = (s.chan c).state ∧ (t.chan c).marginSet = (s.chan c).marginSet)) ∧
      (∀ c ∈ s.marginChans p, s.mayApply c (s.marginGoal p c) = false →
        Answers (.marginApply r p) s (fun t => ItemEnds r [] [] s t 0x0301)) ∧
      ((∀ c ∈ s.marginChans p, s.mayApply c (s.marginGoal p c) = true) → s.marginBarred p = true →
        Answers (.marginApply r p) s (fun t => ItemEnds r [] [maintRefusedCount] s t 0x0401))) ∧
    (∀ c ∈ s.marginChans p, ¬(s.kind c = 1 ∧ s.chPart c = p ∧ (s.chan c).state = .running ∧ s.hasTrim c = true) →
      Answers (.marginApply r p) s (fun t => ItemEnds r [] [] s t 0x0506)) ∧
    Answers (.marginRemove r p) s (fun t => Same [.caps, .chans, .entries, .regs, .reply, .status, .trims] s t ∧ t.status = 0 ∧
      (∀ c ∈ s.chansOf p, (s.chan c).staticMgn = true → (t.chan c).staticMgn = false ∧ (t.chan c).marginSet = none ∧
        ((s.chan c).state = .margin → (s.cluster (clOf c)).clockLost = false → (t.chan c).state = .running) ∧
        ((s.chan c).state ≠ .margin ∨ (s.cluster (clOf c)).clockLost = true → (t.chan c).state = (s.chan c).state)) ∧
      ∀ c, (c ∉ s.chansOf p ∨ (s.chan c).staticMgn = false) → t.chan c = s.chan c)) ∧
  (∀ (r : Role) (p : Fin 16) (s : State), s.hears r → ownerOr r p = false →
    Answers (.marginApply r p) s (fun t => ItemEnds r [] [] s t 0x0201) ∧ Answers (.marginRemove r p) s (fun t => ItemEnds r [] [] s t 0x0201))

/-- A Bench sweep begins and is aborted (after R238, R240, R242, Table 8-4). COMMAND 0x01 by OWNER or the partition's own role with parameters that
R238 does not allow has ST 0x0301, a second sweep ST 0x0401, a channel that does not run or a partition under relief ST 0x0506, and a switch or a
firmware activation ST 0x0401; else the sweep starts at the held setpoint, with its channel in MARGIN or noted for it behind an open-wire pair, or
waits, with ST 0x0002, or with ST 0x0402 when eight wait for its port. COMMAND 0x02 ends the sweep with reason 1 and EV 0x1D, and the static margins
of the partition; with neither it has ST 0x0506. Another role has ST 0x0201. The first deferred activity whose conflict has ended starts, a sweep
that is not ending, an update, an activation or an erase of the ring; with none nothing happens. An activation that has waited 10 minutes ends every
sweep with reason 4, and resets. -/
def Obligations.BenchSweepsStartWaitAndAbort : Prop :=
  (∀ (r : Role) (p : Fin 16) (c : Nat) (b : Bench) (s : State), s.hears r → ownerOr r p = true → b = s.benchParams p → c = b.chan →
    ((¬(c < 512 ∧ s.kind c = 1 ∧ s.chPart c = p ∧ s.hasTrim c = true) ∨ b.sides % 4 = 0 ∨
        (b.mode = 1 ∧ ¬(b.watchCh < 512 ∧ s.kind b.watchCh ≠ 0 ∧ s.chPart b.watchCh = p))) →
      Answers (.benchStart r p) s (fun t => ItemEnds r [] [] s t 0x0301)) ∧
    (c < 512 → s.kind c = 1 → s.chPart c = p → s.hasTrim c = true → b.sides % 4 ≠ 0 →
      (b.mode = 1 → b.watchCh < 512 ∧ s.kind b.watchCh ≠ 0 ∧ s.chPart b.watchCh = p) →
      (s.sweeping p = true → Answers (.benchStart r p) s (fun t => ItemEnds r [] [maintRefusedCount] s t 0x0401 ∧
        t.reg maintRefusedCount = sat16 (s.reg maintRefusedCount))) ∧
      (s.sweeping p = false → ((s.chan c).state ≠ .running ∨ 1 ≤ (s.part p).relief) →
        Answers (.benchStart r p) s (fun t => ItemEnds r [] [] s t 0x0506)) ∧
      (s.sweeping p = false → (s.chan c).state = .running → (s.part p).relief = 0 →
        (s.marginBarred p = true → Answers (.benchStart r p) s (fun t => ItemEnds r [] [maintRefusedCount] s t 0x0401 ∧
          t.reg maintRefusedCount = sat16 (s.reg maintRefusedCount))) ∧
        (s.marginBarred p = false → (s.setBench p b).sweepWaits p = false →
          Answers (.benchStart r p) s (fun t => Same [.caps, .chans, .entries, .events, .parts, .regs, .reply, .status, .trims] s t ∧
            t.status = 0 ∧ AllBut s.part t.part [p.val] ∧ (∀ d, d ≠ c → (t.chan d).state = (s.chan d).state) ∧
            ((t.bench p).phase = .settling ∨ (t.bench p).phase = .returning) ∧ (t.bench p).base = s.heldSetpoint c ∧ (t.bench p).chan = c ∧
            (s.pairRuns c = false → (t.chan c).state = .margin) ∧
            (s.pairRuns c = true → (t.chan c).state = .running ∧ (t.chan c).marginPend ≠ none) ∧
            t.reg (benchStatus p) = (if bitOf b.sides 0 then 2 else 3))) ∧
        (s.marginBarred p = false → (s.setBench p b).sweepWaits p = true →
          (s.act (chTrimKind c) ≠ 2 ∨ s.sweepsWaiting (tgtPort (s.act (tgtEntry (s.act (chTrimId c))))) < 8) →
          Answers (.benchStart r p) s (fun t => ItemEnds r [.parts, .waitMaint] [benchStatus p, benchAbortReason p] s t 2 ∧
            AllBut s.part t.part [p.val] ∧ (t.bench p).phase = .waiting ∧ t.waitMaint = s.waitMaint ++ [p.val] ∧
            t.reg (benchStatus p) = 1)) ∧
        (s.marginBarred p = false → (s.setBench p b).sweepWaits p = true → s.act (chTrimKind c) = 2 →
          8 ≤ s.sweepsWaiting (tgtPort (s.act (tgtEntry (s.act (chTrimId c))))) →
          Answers (.benchStart r p) s (fun t => ItemEnds r [] [] s t 0x0402))))) ∧
  (∀ (r : Role) (p : Fin 16) (s : State), s.hears r → ownerOr r p = true →
    (s.sweeping p = true → Answers (.benchAbort r p) s (fun t =>
      Same [.caps, .chans, .entries, .events, .parts, .regs, .reply, .status, .trims, .waitMaint] s t ∧
      t.status = 0 ∧ (t.bench p).phase = .ended ∧ t.reg (benchStatus p) = 4 ∧ t.reg (benchAbortReason p) = 1 ∧ p.val ∉ t.waitMaint ∧
      AllBut s.part t.part [p.val] ∧ ((s.bench p).phase.runs = true → (t.chan (s.bench p).chan).marginSet = none) ∧
      (∀ c ∈ s.chansOf p, (t.chan c).staticMgn = false) ∧
      (s.enters (clOf (s.bench p).chan + 1) →
        t.recorded (clOf (s.bench p).chan + 1) 0x1D p false (two (s.bench p).chan ++ [1])))) ∧
    (s.sweeping p = false → (∃ c ∈ s.chansOf p, (s.chan c).staticMgn = true) → Answers (.benchAbort r p) s (fun t =>
      Same [.caps, .chans, .entries, .regs, .reply, .status, .trims] s t ∧ t.status = 0 ∧ ∀ c ∈ s.chansOf p, (t.chan c).staticMgn = false ∧
        ((s.chan c).staticMgn = true → (t.chan c).marginSet = none))) ∧
    (s.sweeping p = false → (∀ c ∈ s.chansOf p, (s.chan c).staticMgn = false) →
      Answers (.benchAbort r p) s (fun t => ItemEnds r [] [] s t 0x0506))) ∧
  (∀ (r : Role) (p : Fin 16) (s : State), s.hears r → ownerOr r p = false →
    Answers (.benchStart r p) s (fun t => ItemEnds r [] [] s t 0x0201) ∧ Answers (.benchAbort r p) s (fun t => ItemEnds r [] [] s t 0x0201)) ∧
  (∀ s : State,
    (s.waitMaint.find? s.maintReady = none → exec .maintenanceWaitStart s = .next s) ∧
    (∀ k < 16, s.waitMaint.find? s.maintReady = some k → (s.bench k).ending = false →
      Answers .maintenanceWaitStart s (fun t => Same [.caps, .chans, .entries, .events, .parts, .regs, .trims, .waitMaint] s t ∧
        k ∉ t.waitMaint ∧ AllBut s.part t.part [k] ∧ (∀ d, d ≠ (s.bench k).chan → (t.chan d).state = (s.chan d).state) ∧
        ((t.bench k).phase = .settling ∨ (t.bench k).phase = .returning) ∧
        (s.pairRuns (s.bench k).chan = false → (t.chan (s.bench k).chan).state = .margin) ∧
        (s.pairRuns (s.bench k).chan = true → (t.chan (s.bench k).chan).marginPend ≠ none))) ∧
    (s.waitMaint.find? s.maintReady = some 16 → Answers .maintenanceWaitStart s (fun t => Same [.nv, .regs, .sec, .waitMaint] s t ∧
      16 ∉ t.waitMaint ∧ t.reg fwFwState = 1 ∧ t.nv.queue = s.nv.queue ++
        [{ why := .firmware, erase := true, addr := bankBase s.otherBank, data := [], count := 512 }])) ∧
    (s.waitMaint.find? s.maintReady = some 17 → Answers .maintenanceWaitStart s (fun t => ManagementReset s t 5 ∧
      t.sec.bootBank = s.otherBank ∧ t.fwWaitAt = none)) ∧
    (∀ k, k = 18 ∨ k = 19 → s.waitMaint.find? s.maintReady = some k → Answers .maintenanceWaitStart s (fun t =>
      Same [.log, .nv, .waitMaint] s t ∧ k ∉ t.waitMaint ∧ t.log.command = k - 17 ∧ (k = 19 → t.log.left = List.range 16) ∧
      (k = 18 → t.log.left = [s.oldestSector])))) ∧
  (∀ (a : Nat) (s : State), s.fwWaitAt = some a →
    (a + 60000000000 ≤ s.now → Answers .activationWaitTimeout s (fun t => ManagementReset s t 5 ∧ t.sec.bootBank = s.otherBank ∧
      t.fwWaitAt = none ∧ ∀ p < 16, s.sweeping p = true → (t.bench p).phase = .ended ∧ t.reg (benchAbortReason p) = 4)) ∧
    (s.now < a + 60000000000 → exec .activationWaitTimeout s = .next s)) ∧
  (∀ s : State, s.fwWaitAt = none → exec .activationWaitTimeout s = .next s)

/-- The walk of a sweep that no management reset ends (after R239, R241): a settled step dwells; after the dwell a HOST step waits for its verdict,
a WATCH step whose results left their range fails, and any other passes; a fail, no settling within 100 ms, and no verdict within its time end the
side with their reason, and the channel goes back to the held setpoint; there, or 100 ms later, the side is over. Each such move is noted, and made
at the end of the tick: a pass makes the step's setpoint the edge of its side and takes the next step or ends the side; after the return the low
side is walked when it is asked for and still to come, and else the sweep is over, with EV 0x1D. The first verdict from the dwell's end on and no
later than the last tick of its time counts, and another has ST 0x0506. Before its time, and in another phase, nothing happens. -/
def Obligations.BenchStepsPassAndFail : Prop :=
  (∀ (p : Fin 16) (s : State), s.benchSettled p = true → (s.bench p).pend = none →
    ((s.bench p).phase = .settling → Answers (.benchSettled p) s (fun t => Same [.parts] s t ∧ AllBut s.part t.part [p.val] ∧
      t.bench p = { s.bench p with phase := .dwelling, since := s.now, watchBad := false })) ∧
    ((s.bench p).phase = .returning → Answers (.benchSettled p) s (fun t => Same [.parts] s t ∧ AllBut s.part t.part [p.val] ∧
      t.bench p = { s.bench p with pend := some .back }))) ∧
  (∀ (p : Fin 16) (s : State), (s.benchSettled p = false ∨ (s.bench p).pend ≠ none ∨
      ((s.bench p).phase ≠ .settling ∧ (s.bench p).phase ≠ .returning)) → exec (.benchSettled p) s = .next s) ∧
  (∀ (p : Fin 16) (s : State), s.benchSettled p = false → (s.bench p).pend = none → (s.bench p).since + 10000000 ≤ s.now →
    ((s.bench p).phase = .settling → Answers (.benchSettleTimeout p) s (fun t => Same [.parts] s t ∧ AllBut s.part t.part [p.val] ∧
      t.bench p = { s.bench p with pend := some (.side 5) })) ∧
    ((s.bench p).phase = .returning → Answers (.benchSettleTimeout p) s (fun t => Same [.parts] s t ∧ AllBut s.part t.part [p.val] ∧
      t.bench p = { s.bench p with pend := some .back }))) ∧
  (∀ (p : Fin 16) (s : State), (s.benchSettled p = true ∨ (s.bench p).pend ≠ none ∨ s.now < (s.bench p).since + 10000000 ∨
      ((s.bench p).phase ≠ .settling ∧ (s.bench p).phase ≠ .returning)) → exec (.benchSettleTimeout p) s = .next s) ∧
  (∀ (p : Fin 16) (s : State), (s.bench p).phase = .dwelling → (s.bench p).since + 100000 * (s.bench p).dwell ≤ s.now →
    Answers (.benchDwellEnd p) s (fun t => Same [.parts] s t ∧ AllBut s.part t.part [p.val] ∧
      ((s.bench p).mode = 0 →
        t.bench p = { s.bench p with phase := .verdict, since := (s.bench p).since + 100000 * (s.bench p).dwell }) ∧
      ((s.bench p).mode = 1 → (s.bench p).watchBad = true → t.bench p = { s.bench p with pend := some (.side 3) }) ∧
      ((s.bench p).mode ≠ 0 → ((s.bench p).mode ≠ 1 ∨ (s.bench p).watchBad = false) →
        t.bench p = { s.bench p with pend := some .pass }))) ∧
  (∀ (p : Fin 16) (s : State), ((s.bench p).phase ≠ .dwelling ∨ s.now < (s.bench p).since + 100000 * (s.bench p).dwell) →
    exec (.benchDwellEnd p) s = .next s) ∧
  (∀ (r : Role) (p : Fin 16) (s : State), s.hears r → ownerOr r p = true → (s.bench p).pend = none →
    ((s.bench p).phase = .verdict → ((s.bench p).mode ≠ 0 ∨ s.now ≤ (s.bench p).since + 100000 * (s.bench p).timeout) →
      Answers (.verdictPass r p) s (fun t => ItemEnds r [.parts] [] s t 0 ∧ AllBut s.part t.part [p.val] ∧
        t.bench p = { s.bench p with pend := some .pass }) ∧
      Answers (.verdictFail r p) s (fun t => ItemEnds r [.parts] [] s t 0 ∧ AllBut s.part t.part [p.val] ∧
        t.bench p = { s.bench p with pend := some (.side 2) })) ∧
    ((s.bench p).phase = .dwelling → (s.bench p).mode = 0 → (s.bench p).since + 100000 * (s.bench p).dwell ≤ s.now →
      s.now ≤ (s.bench p).since + 100000 * (s.bench p).dwell + 100000 * (s.bench p).timeout →
      Answers (.verdictPass r p) s (fun t => ItemEnds r [.parts] [] s t 0 ∧ (t.bench p).phase = .verdict ∧ (t.bench p).pend = some .pass) ∧
      Answers (.verdictFail r p) s (fun t => ItemEnds r [.parts] [] s t 0 ∧ (t.bench p).phase = .verdict ∧
        (t.bench p).pend = some (.side 2))) ∧
    ((s.bench p).phase = .verdict → (s.bench p).mode = 0 → (s.bench p).since + 100000 * (s.bench p).timeout < s.now →
      Answers (.verdictPass r p) s (fun t => ItemEnds r [.parts] [] s t 0x0506 ∧ (t.bench p).pend = some (.side 4)) ∧
      Answers (.verdictFail r p) s (fun t => ItemEnds r [.parts] [] s t 0x0506 ∧ (t.bench p).pend = some (.side 4)))) ∧
  (∀ (r : Role) (p : Fin 16) (s : State), s.hears r → ownerOr r p = true →
    (((s.bench p).phase ≠ .verdict ∧ (s.bench p).phase ≠ .dwelling) ∨ ((s.bench p).phase = .verdict ∧ (s.bench p).pend ≠ none) ∨
        ((s.bench p).phase = .dwelling ∧ ((s.bench p).mode ≠ 0 ∨ s.now < (s.bench p).since + 100000 * (s.bench p).dwell)) →
      Answers (.verdictPass r p) s (fun t => ItemEnds r [] [] s t 0x0506) ∧ Answers (.verdictFail r p) s (fun t => ItemEnds r [] [] s t 0x0506))) ∧
  (∀ (r : Role) (p : Fin 16) (s : State), s.hears r → ownerOr r p = false →
    Answers (.verdictPass r p) s (fun t => ItemEnds r [] [] s t 0x0201) ∧ Answers (.verdictFail r p) s (fun t => ItemEnds r [] [] s t 0x0201)) ∧
  (∀ (p : Fin 16) (s : State), (s.bench p).phase = .verdict → (s.bench p).pend = none →
    (s.bench p).since + 100000 * (s.bench p).timeout < s.now → Answers (.verdictTimeout p) s (fun t =>
      Same [.parts] s t ∧ AllBut s.part t.part [p.val] ∧ t.bench p = { s.bench p with pend := some (.side 4) })) ∧
  (∀ (p : Fin 16) (s : State), ((s.bench p).phase ≠ .verdict ∨ (s.bench p).pend ≠ none ∨
      s.now ≤ (s.bench p).since + 100000 * (s.bench p).timeout) → exec (.verdictTimeout p) s = .next s) ∧
  (∀ (p : Nat) (s : State), (s.bench p).pend = none → s.benchDo p = s) ∧
  (∀ (p : Nat) (s t : State), (s.bench p).ending = false → t = s.benchDo p →
    ((s.bench p).pend = some .pass → Same [.caps, .chans, .entries, .events, .parts, .regs, .trims] s t ∧ AllBut s.part t.part [p] ∧
      (t.bench p).pend = none ∧ (t.bench p).k = (s.bench p).k + 1 ∧ ((t.bench p).phase = .settling ∨ (t.bench p).phase = .returning) ∧
      t.reg (if (s.bench p).low then benchEdgeLow p else benchEdgeHigh p) = (s.bench p).next.toNat) ∧
    (∀ r, (s.bench p).pend = some (.side r) → Same [.caps, .chans, .entries, .events, .parts, .regs, .trims] s t ∧
      AllBut s.part t.part [p] ∧ (t.bench p).pend = none ∧ (t.bench p).phase = .returning ∧
      t.reg (if (s.bench p).low then benchLowReason p else benchHighReason p) = r) ∧
    ((s.bench p).pend = some .back → (s.bench p).low = false → bitOf (s.bench p).sides 1 = true →
      Same [.caps, .chans, .entries, .events, .parts, .regs, .trims] s t ∧ (t.bench p).low = true ∧ (t.bench p).k = 1 ∧
      ((t.bench p).phase = .settling ∨ (t.bench p).phase = .returning) ∧ t.reg (benchStatus p) = 3) ∧
    ((s.bench p).pend = some .back → ((s.bench p).low = true ∨ bitOf (s.bench p).sides 1 = false) → s.sweeping p = true →
      Same [.caps, .chans, .entries, .events, .parts, .regs, .trims, .waitMaint] s t ∧ (t.bench p).phase = .ended ∧
      t.reg (benchStatus p) = 4 ∧ t.reg (benchAbortReason p) = 0 ∧
      (s.enters (clOf (s.bench p).chan + 1) →
        t.recorded (clOf (s.bench p).chan + 1) 0x1D p false (two (s.bench p).chan ++ [0]))))


/-! ### The first-fault log -/

/-- Latch entries and their merge (after R244, R246, R248, R252, R258, R261). A set entry that reaches a running Hutch is marked as arrived; it
opens the merge window of its partition's open event, joins the open window, ends one whose 1 µs is over, or is counted late and flags the drawer of
that event while it is staged, or once it is staged, where an event of a lower partition and the same stamp still has to be staged first; one of no
open event only arrives; one that is not set or has arrived before changes nothing. After the window, with no event of a lower partition and the
same stamp to be staged, the drawer is staged with the next SEQ and the smallest FIRST_TICK of its set entries, before the drawer of a debug unlock
of that tick; in LATCHED mode with no free slot it is discarded and counted, and so it is with 32 drawers staged, which are then flagged. Drawers of
events that were left are staged when their windows are over. Before that nothing is staged. -/
def Obligations.LatchEntriesMergeIntoOneDrawer : Prop :=
  (∀ (p : Fin 16) (n : Fin 8) (s : State), ((s.latch n p).isSet = false ∨ (s.latch n p).arrived = true ∨ 9 ∈ s.stalled) →
    exec (.latchEntryArrive p n) s = .next s) ∧
  (∀ (p : Fin 16) (n : Fin 8) (s : State), (s.latch n p).isSet = true → (s.latch n p).arrived = false → 9 ∉ s.stalled →
    Answers (.latchEntryArrive p n) s (fun t => t.latch n p = { s.latch n p with arrived := true } ∧
      (∀ m q, m < 8 → q < 16 → ¬(m = n.val ∧ q = p.val) → t.latch m q = s.latch m q) ∧ AllBut s.part t.part [p.val] ∧
      ((∀ m, (s.part p).merge = some m → s.now ≤ m.openedAt + 100) →
        (((s.part p).eventOpen = false ∨ (s.part p).hutchStage = true) → Same [.latches] s t) ∧
        ((s.part p).eventOpen = true → (s.part p).hutchStage = false →
          (∀ m, (s.part p).merge = some m → Same [.latches, .parts] s t ∧
            t.part p = { s.part p with merge := some { m with clusters := m.clusters ++ [n.val] } }) ∧
          ((s.part p).merge = none → (s.part p).merged = false → Same [.latches, .parts] s t ∧
            t.part p = { s.part p with merge := some { openedAt := s.now, clusters := [n.val] } }) ∧
          ((s.part p).merge = none → (s.part p).merged = true → Same [.latches, .log, .regs] s t ∧ RegsBut s t [logsLateEntryCount] ∧
            t.reg logsLateEntryCount = sat16 (s.reg logsLateEntryCount) ∧
            t.log = { s.log with staged := s.log.staged.map (fun d =>
              if (s.part p).evSeq = some d.seq then { d with flags := d.flags ||| 64 } else d) }))) ∧
      (∀ m, (s.part p).merge = some m → m.openedAt + 100 < s.now → (s.part p).eventOpen = true → (s.part p).hutchStage = false →
        (s.stampedBefore p = false → Same [.events, .latches, .log, .parts, .regs] s t ∧ (t.part p).merge = none ∧ (t.part p).merged = true ∧
          t.reg logsLateEntryCount = sat16 (s.reg logsLateEntryCount)) ∧
        (s.stampedBefore p = true → Same [.latches, .parts, .regs] s t ∧ RegsBut s t [logsLateEntryCount] ∧
          t.part p = { s.part p with merge := some { m with late := true } } ∧
          t.reg logsLateEntryCount = sat16 (s.reg logsLateEntryCount))))) ∧
  (∀ (p : Fin 16) (m : Merge) (s : State), (s.part p).merge = some m → m.openedAt + 100 < s.now →
    (∀ e ∈ s.log.closing, e.2.part = p → s.now ≤ e.1 + 100) →
    (∀ q < p.val, s.eventStamp q = none ∨ s.eventStamp q ≠ s.eventStamp p) →
    Answers (.mergeWindowEnd p) s (fun t => Same [.events, .log, .parts, .regs] s t ∧ AllBut s.part t.part [p.val] ∧
      t.part p = { s.part p with merge := none, merged := true, evSeq := (t.part p).evSeq } ∧
      ((s.latched = false ∨ slots.any s.slotFreeAt = true) → s.log.staged.length < 32 →
        (∀ u, s.log.staged.getLast? = some u → u.kind ≠ 2) → Same [.parts, .log] s t ∧
        t.log.nextSeq = (s.log.nextSeq + 1) % 4294967296 ∧
        ∃ d : Drawer, t.log.staged = s.log.staged ++ [d] ∧ d.seq = s.log.nextSeq % 4294967296 ∧ d.part = p ∧ d.stagedAt = s.now ∧
          d.firstTick = (s.mergeEntries p m.clusters).firstTick ∧ d.cause = (s.mergeEntries p m.clusters).cause ∧
          d.coFault = (s.mergeEntries p m.clusters).coFault ∧ d.stageDelay = (s.now - d.firstTick) % 65536 ∧
          ((s.part p).snap.kind = 1 → (t.part p).evSeq = some d.seq) ∧
          ∀ n ∈ m.clusters, (s.latch n p).isSet = true → d.firstTick ≤ (s.latch n p).firstTick) ∧
      (∀ u, (s.latched = false ∨ slots.any s.slotFreeAt = true) → s.log.staged.length < 32 → (s.part p).snap.kind = 1 →
        s.log.staged.getLast? = some u → u.kind = 2 → u.firstTick = (s.mergeEntries p m.clusters).firstTick →
        (∀ w, s.log.writing = some w → w.2.seq ≠ u.seq) → ∃ d : Drawer, d.part = p ∧ d.seq = u.seq % 4294967296 ∧
          t.log.staged = s.log.staged.dropLast ++ [d, { u with seq := (u.seq + 1) % 4294967296 }]) ∧
      (s.latched = true → slots.any s.slotFreeAt = false → t.log.staged = s.log.staged ∧ t.log.nextSeq = s.log.nextSeq ∧
        t.reg logsOverflowCount = sat16 (s.reg logsOverflowCount)) ∧
      ((s.latched = false ∨ slots.any s.slotFreeAt = true) → 32 ≤ s.log.staged.length → t.log.nextSeq = s.log.nextSeq ∧
        t.log.staged = s.log.staged.map (fun d => { d with flags := d.flags ||| 32 }) ∧
        t.reg logsStageOverflow = sat16 (s.reg logsStageOverflow)))) ∧
  (∀ (p : Fin 16) (s : State), Answers (.mergeWindowEnd p) s (fun t => Same [.events, .log, .parts, .regs] s t ∧
    t.log.closing = s.log.closing.filter (fun e => !(e.2.part == p.val && decide (e.1 + 100 < s.now))))) ∧
  (∀ (p : Fin 16) (s : State), (∀ e ∈ s.log.closing, e.2.part = p → s.now ≤ e.1 + 100) →
    ((∀ m, (s.part p).merge = some m → s.now ≤ m.openedAt + 100) ∨ (∃ q < p.val, s.eventStamp q ≠ none ∧ s.eventStamp q = s.eventStamp p)) →
    exec (.mergeWindowEnd p) s = .next s)

/-- The commit of a drawer (after R253 to R257, R412). A ready NV island with no running erase begins to program the next drawer into the next free
slot, its granules marked with their intent first; with no slot free for it, in WRAP mode, the erase of the sector in its way is asked for, unless
that erase has begun. A read-back of 8 sound granules in a sound sector writes the bytes and the markers, releases the staged copy with EV 0x5C, and
EV 0x5D after the last drawer of an earlier power-up; one that finds an uncorrectable granule leaves the slot damaged, and a torn one leaves it as
it is; both count a torn commit, and the drawer stays staged with REWRITTEN. No flash cell outside the slot changes. Otherwise nothing happens. -/
def Obligations.DrawersCommitAndReadBack : Prop :=
  (∀ (d : Drawer) (mk : Bool) (n : Nat) (s : State), s.nvReady = true → s.eraseHalted = true → s.log.writing = none →
    s.nextDrawer = some (d, mk) → s.nextSlot = some n →
    Answers .drawerCommit s (fun t => Same [.granules, .log, .nv] s t ∧
      ∃ e : Drawer, e = { d with flags := d.flags ||| bitIf (s.commitLate d) 4 } ∧ t.log.writing = some (n, e) ∧
        t.log.writePos = (n + 1) % 512 ∧ (mk = true → t.log.marker = some e ∧ t.log.staged = s.log.staged) ∧
        t.nv.program = some { why := .drawer, erase := false, addr := slotAddr n, data := drawerBytes e s.devid } ∧
        (∀ g ∈ granulesOf (slotAddr n) 128, t.granule g = { s.granule g with intent := true }) ∧
        AllBut s.granule t.granule (granulesOf (slotAddr n) 128))) ∧
  (∀ (d : Drawer × Bool) (s : State), s.nvReady = true → s.eraseHalted = true → s.log.writing = none →
    s.nextDrawer = some d → s.nextSlot = none →
    (∀ k, s.sectorInWay = some k → (s.sector (drawerSector k)).open_ = false → s.nv.queue = [] → s.nv.erase = none →
      s.latched = false ∧ Answers .drawerCommit s (fun t => Same [.nv] s t ∧
        t.nv = { s.nv with queue := [{ why := .ringErase true, erase := true, addr := 0x600000 + 4096 * k }] })) ∧
    (∀ k, s.sectorInWay = some k → (s.sector (drawerSector k)).open_ = true → exec .drawerCommit s = .next s) ∧
    (s.sectorInWay = none → exec .drawerCommit s = .next s)) ∧
  (∀ s : State, (s.nvReady = false ∨ s.eraseHalted = false ∨ s.log.writing ≠ none ∨ s.nextDrawer = none) →
    exec .drawerCommit s = .next s) ∧
  (∀ (n : Nat) (d : Drawer) (o : NvOp) (sense : Sense) (s : State), s.log.writing = some (n, d) → s.nv.program = some o →
    o.addr = slotAddr n → o.data.length = 128 → (∀ g ∈ granulesOf (slotAddr n) 128, (s.granule g).damaged = false) →
    (s.sector (secOf (slotAddr n))).open_ = false → (s.sector (secOf (slotAddr n))).failed = false →
    (sense.uncorrectable = [] → s.log.marker = none → Answers (.drawerReadback (.whole sense)) s (fun t =>
      Same [.events, .flash, .granules, .log, .nv, .regs, .sectors] s t ∧
      t.log.writing = none ∧ t.nv = { s.nv with program := none } ∧ t.log.staged = s.log.staged.drop 1 ∧
      (∀ g ∈ granulesOf (slotAddr n) 128, (t.granule g).marker = true) ∧ AllBut s.granule t.granule (granulesOf (slotAddr n) 128) ∧
      t.cells (slotAddr n) 128 = o.data ∧ (∀ a, ¬(slotAddr n ≤ a ∧ a < slotAddr n + 128) → t.cell a = s.cell a) ∧
      (s.enters 12 → t.recorded 12 0x5C d.part false (two n ++ leBytes 4 d.seq ++ [BitVec.ofNat 8 d.part, BitVec.ofNat 8 d.kind])) ∧
      (s.enters 12 → d.old = true → (s.log.staged.drop 1).any (fun x => x.old) = false →
        t.recorded 12 0x5D 255 false (two (s.log.oldDone + 1))))) ∧
    (∀ i ∈ sense.uncorrectable, i < 8 → Answers (.drawerReadback (.whole sense)) s (fun t =>
      t.log.writing = none ∧ t.nv = { s.nv with program := none } ∧ t.slotStatus n = 4 ∧
      t.reg logsTornCount = sat16 (s.reg logsTornCount) ∧
      (∀ a, ¬(slotAddr n ≤ a ∧ a < slotAddr n + 128) → t.cell a = s.cell a) ∧
      t.log.staged = s.log.staged.map (fun x => if x.seq = d.seq then { x with flags := x.flags ||| 8 } else x)))) ∧
  (∀ (n : Nat) (d : Drawer) (o : NvOp) (s : State), s.log.writing = some (n, d) → s.nv.program = some o →
    Answers (.drawerReadback .torn) s (fun t => Same [.granules, .log, .nv, .regs] s t ∧ RegsBut s t [nvsTornPages, logsTornCount] ∧
      t.log.writing = none ∧ t.nv = { s.nv with program := none } ∧ t.reg logsTornCount = sat16 (s.reg logsTornCount) ∧
      t.log.staged = s.log.staged.map (fun x => if x.seq = d.seq then { x with flags := x.flags ||| 8 } else x))) ∧
  (∀ (found : ReadBack) (s : State), (s.log.writing = none ∨ s.nv.program = none) →
    exec (.drawerReadback found) s = .next s)

/-- The log commands of OWNER (after R258, R259, R260, Table 8-4): an erase is refused while the ring is empty, while an erase command is in
progress or waits, and while the NV island is stalled or inhibited; it waits while a firmware update runs; else it starts with its sectors, and the
marker of an ERASE_ALL has the next SEQ. VERIFY_ALL is refused while an erase command is in progress or waits, and while the NV island is stalled;
else it answers ST 0x0000 with its tick. Another role has ST 0x0201. A drawer read by OWNER or SERVICE gives the record and keeps its READ_STATUS
word as the latest one of that drawer and in the session; without the right, or when a PARTITION's own drawer proves damaged in the reading, it has
ST 0x0201, and ST 0x0702 while the NV island is stalled. -/
def Obligations.LogCommandsEraseVerifyAndRead : Prop :=
  (∀ s : State, s.serves = true → s.occupiedCount = 0 →
    Answers (.eraseOldest .owner) s (fun t => ItemEnds .owner [] [] s t 0x0506) ∧
    Answers (.eraseAll .owner) s (fun t => ItemEnds .owner [] [] s t 0x0506)) ∧
  (∀ s : State, s.serves = true → s.occupiedCount ≠ 0 → (s.log.command ≠ 0 ∨ s.waitMaint.contains 18 = true ∨ s.waitMaint.contains 19 = true) →
    Answers (.eraseOldest .owner) s (fun t => ItemEnds .owner [] [maintRefusedCount] s t 0x0401) ∧
    Answers (.eraseAll .owner) s (fun t => ItemEnds .owner [] [maintRefusedCount] s t 0x0401)) ∧
  (∀ s : State, s.serves = true → s.occupiedCount ≠ 0 → s.log.command = 0 → s.waitMaint.contains 18 = false → s.waitMaint.contains 19 = false →
    (s.nvBad = true →
      Answers (.eraseOldest .owner) s (fun t => ItemEnds .owner [] [] s t 0x0702) ∧
      Answers (.eraseAll .owner) s (fun t => ItemEnds .owner [] [] s t 0x0702)) ∧
    (s.nvBad = false → s.nvInhibited = true →
      Answers (.eraseOldest .owner) s (fun t => ItemEnds .owner [] [nvsInhibitRefused] s t 0x0601) ∧
      Answers (.eraseAll .owner) s (fun t => ItemEnds .owner [] [nvsInhibitRefused] s t 0x0601)) ∧
    (s.nvStops = false → s.fwUpdates = true →
      Answers (.eraseOldest .owner) s (fun t => ItemEnds .owner [.log, .waitMaint] [] s t 2 ∧ t.waitMaint = s.waitMaint ++ [18] ∧
        t.log = { s.log with cmdSnap := s.kindDrawer 3 }) ∧
      Answers (.eraseAll .owner) s (fun t => ItemEnds .owner [.log, .waitMaint] [] s t 2 ∧ t.waitMaint = s.waitMaint ++ [19] ∧
        t.log = { s.log with cmdSnap := s.kindDrawer 3 })) ∧
    (s.nvStops = false → s.fwUpdates = false →
      Answers (.eraseOldest .owner) s (fun t => ItemEnds .owner [.log, .nv] [] s t 2 ∧
        t.log = { s.log with command := 1, left := [s.oldestSector], erased := t.log.erased, cmdSnap := s.kindDrawer 3 } ∧
        (s.nv.erase = none → t.log.erased = 0) ∧
        (s.nv.queue = [] → s.nv.erase = none →
          t.nv.queue = [{ why := .ringErase true, erase := true, addr := 0x600000 + 4096 * s.oldestSector }])) ∧
      Answers (.eraseAll .owner) s (fun t => ItemEnds .owner [.log, .nv] [] s t 2 ∧
        t.log = { s.log with command := 2, left := List.range 16, nextSeq := (s.log.nextSeq + 1) % 4294967296, erased := t.log.erased,
                             cmdSnap := { s.kindDrawer 3 with seq := s.log.nextSeq % 4294967296 } } ∧
        (s.nv.erase = none → t.log.erased = 0) ∧
        (s.nv.queue = [] → s.nv.erase = none → t.nv.queue = [{ why := .ringErase true, erase := true, addr := 0x600000 }])))) ∧
  (∀ (senses : List (Nat × Sense)) (s : State), s.serves = true →
    ((s.log.command ≠ 0 ∨ s.waitMaint.contains 18 = true ∨ s.waitMaint.contains 19 = true) →
      Answers (.verifyAll .owner senses) s (fun t => ItemEnds .owner [] [maintRefusedCount] s t 0x0401)) ∧
    (s.log.command = 0 → s.waitMaint.contains 18 = false → s.waitMaint.contains 19 = false → s.nvBad = true →
      Answers (.verifyAll .owner senses) s (fun t => ItemEnds .owner [] [] s t 0x0702)) ∧
    (s.log.command = 0 → s.waitMaint.contains 18 = false → s.waitMaint.contains 19 = false → s.nvBad = false →
      Answers (.verifyAll .owner senses) s (fun t => Same [.events, .granules, .log, .regs, .reply, .sec, .sectors, .status] s t ∧ t.status = 0 ∧
        t.log = { s.log with readStat := t.log.readStat } ∧ t.reg logsLastVerifyTick = s.now ∧
        (s.occupiedCount = 0 → ItemEnds .owner [] [logsLastVerifyTick] s t 0)))) ∧
  (∀ (r : Role) (senses : List (Nat × Sense)) (s : State), s.hears r → r ≠ .owner →
    Answers (.eraseOldest r) s (fun t => ItemEnds r [] [] s t 0x0201) ∧ Answers (.eraseAll r) s (fun t => ItemEnds r [] [] s t 0x0201) ∧
    Answers (.verifyAll r senses) s (fun t => ItemEnds r [] [] s t 0x0201)) ∧
  (∀ (r : Role) (k : Nat) (d : Fin 512) (sense : Sense) (s : State), s.serves = true → s.nvBad = false → (r = .owner ∨ r = .service) →
    Answers (.drawerRead r k d sense) s (fun t => Same [.events, .granules, .log, .regs, .reply, .sec, .sectors, .sessions, .status] s t ∧
      t.log = { s.log with readStat := t.log.readStat } ∧ tabFind t.log.readStat d = some (resultWord sense (t.drawerStatus d)) ∧
      t.status = 0 ∧ t.reply = t.readBytes (slotAddr d) 128 ∧ (sense.uncorrectable = [] → t.reply = s.readBytes (slotAddr d) 128) ∧
      (∀ x, s.session k = some x →
        ∃ y, t.session k = some y ∧ tabFind y.drawStat d = some (resultWord sense (t.drawerStatus d))))) ∧
  (∀ (p : Fin 16) (k : Nat) (d : Fin 512) (sense : Sense) (s : State), s.hears (.partition p) → s.nvBad = false → s.drawerStatus d = 0 →
    s.partAt d = p → (∃ i ∈ sense.uncorrectable, i < 8) →
    Answers (.drawerRead (.partition p) k d sense) s (fun t => t.status = 0x0201)) ∧
  (∀ (r : Role) (k : Nat) (d : Fin 512) (sense : Sense) (s : State), s.hears r →
    (s.mayReadDrawer r d = false → Answers (.drawerRead r k d sense) s (fun t => ItemEnds r [] [] s t 0x0201)) ∧
    (s.mayReadDrawer r d = true → s.nvBad = true → Answers (.drawerRead r k d sense) s (fun t => ItemEnds r [] [] s t 0x0702)))

/-! ### The flash -/

/-- The NV island's program operations (after R226, R412, R413). With the island ready, no running erase and no drawer waiting, the first ledger
record is written to the next free position with its number; with none free, the erase of the oldest usable sector is asked for once. The first
program operation of the dictionary is made whole when it may run, its sector is not under erase and its granules are free, and is dropped when they
are not. An interrupted one sets the intent of all its granules, and the markers of the first of them only; a drawer so interrupted is not being
written any more, counts as torn, and stays staged with REWRITTEN; the staged drawers are flagged COMMITTED_LATE. A whole operation and a record
change no cell and no granule but those that they name. Otherwise nothing happens. -/
def Obligations.ProgramOperationsWriteTheirGranules : Prop :=
  (∀ (r : Interval) (rest : List Interval) (i : Nat) (s : State), s.ledger.queue = r :: rest → s.nvReady = true → s.eraseHalted = true →
    s.drawerWaits = false → s.nextRecord = some i →
    Answers .ledgerRecordWrite s (fun t => Same [.flash, .granules, .ledger, .regs] s t ∧ RegsBut s t [ledsLastSeq r.part] ∧
      t.reg (ledsLastSeq r.part) = s.ledger.seq ∧
      t.ledger = { s.ledger with queue := rest, seq := wrap32 s.ledger.seq, ringPos := (i + 1) % 2048 } ∧
      t.readBytes (recordAddr i) 32 = recordBytes s.ledger.seq r ∧ AllBut s.granule t.granule (granulesOf (recordAddr i) 32) ∧
      ∀ a, ¬(recordAddr i ≤ a ∧ a < recordAddr i + 32) → t.cell a = s.cell a)) ∧
  (∀ s : State, (s.ledger.queue = [] ∨ s.nvReady = false ∨ s.eraseHalted = false ∨ s.drawerWaits = true) →
    exec .ledgerRecordWrite s = .next s) ∧
  (∀ (n : Nat) (s : State), s.ledger.queue ≠ [] → s.nvReady = true → s.eraseHalted = true → s.drawerWaits = false → s.nextRecord = none →
    (s.oldestLedger = some n → (s.sector n).open_ = false → s.nv.queue = [] → s.nv.erase = none →
      Answers .ledgerRecordWrite s (fun t => Same [.nv] s t ∧
        t.nv = { s.nv with queue := [{ why := .ringErase false, erase := true, addr := 4096 * n }] })) ∧
    ((s.oldestLedger = none ∨ (s.oldestLedger = some n ∧ (s.sector n).open_ = true)) → exec .ledgerRecordWrite s = .next s)) ∧
  (∀ (o : NvOp) (s : State), s.nvFirst 5 = some o → s.programRuns = true → s.programWaits o = false → s.programFits o = true →
    o.addr % 16 = 0 →
    Answers .nvProgram s (fun t => Same [.flash, .granules, .nv, .regs] s t ∧ RegsBut s t [memMemResult] ∧
      t.nv = { s.nv with queue := nvDrop o s.nv.queue } ∧ (o.why ≠ .owner → t.regs = s.regs) ∧
      (∀ g ∈ granulesOf o.addr o.data.length, (t.granule g).intent = true ∧ (t.granule g).marker = true) ∧
      AllBut s.granule t.granule (granulesOf o.addr o.data.length) ∧ t.cells o.addr o.data.length = o.data ∧
      ∀ a, ¬(o.addr ≤ a ∧ a < o.addr + o.data.length) → t.cell a = s.cell a)) ∧
  (∀ (o : NvOp) (s : State), s.nvFirst 5 = some o → s.programRuns = true → s.programWaits o = false → s.programFits o = false →
    Answers .nvProgram s (fun t => t = { s with nv := { s.nv with queue := nvDrop o s.nv.queue } })) ∧
  (∀ s : State, (s.nvFirst 5 = none ∨ s.programRuns = false) → exec .nvProgram s = .next s) ∧
  (∀ (o : NvOp) (s : State), s.nvFirst 5 = some o → s.programWaits o = true → exec .nvProgram s = .next s) ∧
  (∀ (done : Nat) (s : State), ((∃ o, s.nv.program = some o ∧ (granulesOf o.addr o.data.length).length ≤ done) ∨
      (s.nv.program = none ∧ (s.nvFirst 5 = none ∨ s.programRuns = false))) → exec (.nvInterrupt done) s = .next s) ∧
  (∀ (done : Nat) (o : NvOp) (s : State), s.nv.program = some o → s.log.writing = none → done < (granulesOf o.addr o.data.length).length →
    Answers (.nvInterrupt done) s (fun t => Same [.flash, .granules, .log, .nv, .regs] s t ∧ t.nv = { s.nv with program := none } ∧
      t.log = { s.log with staged := s.log.staged.map (fun x => { x with flags := x.flags ||| 16 }) } ∧
      (∀ g ∈ granulesOf o.addr o.data.length, (t.granule g).intent = true) ∧
      (∀ g ∈ (granulesOf o.addr o.data.length).take done, (t.granule g).marker = true) ∧
      (∀ g ∈ (granulesOf o.addr o.data.length).drop done, (t.granule g).marker = (s.granule g).marker))) ∧
  (∀ (done : Nat) (o : NvOp) (n : Nat) (d : Drawer) (s : State), s.nv.program = some o → s.log.writing = some (n, d) →
    done < (granulesOf o.addr o.data.length).length →
    Answers (.nvInterrupt done) s (fun t => Same [.flash, .granules, .log, .nv, .regs] s t ∧ t.nv = { s.nv with program := none } ∧
      t.log.writing = none ∧ t.reg logsTornCount = sat16 (s.reg logsTornCount) ∧
      t.log.staged = s.log.staged.map (fun x =>
        if x.seq = d.seq then { x with flags := x.flags ||| 8 ||| 16 } else { x with flags := x.flags ||| 16 }) ∧
      (∀ g ∈ granulesOf o.addr o.data.length, (t.granule g).intent = true) ∧
      (∀ g ∈ (granulesOf o.addr o.data.length).take done, (t.granule g).marker = true) ∧
      (∀ g ∈ (granulesOf o.addr o.data.length).drop done, (t.granule g).marker = (s.granule g).marker))) ∧
  (∀ (done : Nat) (o : NvOp) (s : State), s.nv.program = none → s.nvFirst 5 = some o → s.programRuns = true → s.programWaits o = false →
    s.programFits o = true → done < (granulesOf o.addr o.data.length).length →
    Answers (.nvInterrupt done) s (fun t => Same [.flash, .granules, .nv] s t ∧ t.nv = { s.nv with queue := nvDrop o s.nv.queue } ∧
      (∀ g ∈ granulesOf o.addr o.data.length, (t.granule g).intent = true) ∧
      (∀ g ∈ (granulesOf o.addr o.data.length).take done, (t.granule g).marker = true) ∧
      (∀ g ∈ (granulesOf o.addr o.data.length).drop done, (t.granule g).marker = (s.granule g).marker)))

/-- The erases of the NV island (after R415 to R417, R421). The next erase starts when the island is ready, none runs, and no drawer or ledger
record waits: its journal entry is open, and the rest of the queue waits. It halts at the warning, or after 500 µs of run time for a program that
waits for it, counted; it resumes with nothing in its way; it ends, while it runs, with its sector in the erased state and its entry closed,
counted, FW_STATE 2 after the last erase of an update, and EV 0x27 after one of the ledger; a first failed verify repeats it, and a second leaves
the sector FAILED, with EV 0x5A. Sectors still open when the journal has been read are erased and closed, with EV 0x5B. The scrub reads the next
sector when it is due and the island idle, skips one that is open or under update also while other work waits, and counts its passes; in the device
area it may find a record's copies damaged. No cell of another sector changes. Otherwise nothing happens. -/
def Obligations.ErasesRunHaltAndEnd : Prop :=
  (∀ (o : NvOp) (s : State), s.nvReady = true → s.nv.erase = none → s.drawerWaits = false → s.ledgerWaits = false → s.nextErase = some o →
    Answers .nvErase s (fun t => Same [.log, .nv, .sectors] s t ∧ (o.isLogErase = false → t.log = s.log) ∧
      t.log = { s.log with erased := t.log.erased } ∧ t.nv.erase = some { o with count := 1 } ∧ t.nv.eraseRun = 0 ∧
      t.nv.eraseFrom = s.now ∧ t.nv.suspended = false ∧
      t.nv.queue = (if 1 < o.count then { o with addr := o.addr + 4096, count := o.count - 1 } :: nvDrop o s.nv.queue
        else nvDrop o s.nv.queue) ∧
      t.sector (secOf o.addr) = { s.sector (secOf o.addr) with open_ := true } ∧ AllBut s.sector t.sector [secOf o.addr])) ∧
  (∀ s : State, (s.nvReady = false ∨ s.nv.erase ≠ none ∨ s.drawerWaits = true ∨ s.ledgerWaits = true ∨ s.nextErase = none) →
    exec .nvErase s = .next s) ∧
  (∀ (o : NvOp) (s : State), s.nv.erase = some o → s.nv.suspended = false →
    (s.supply.plw = true ∨ s.suspendAsked = true ∧ s.nv.eraseFrom + 50000 ≤ s.now) →
    Answers .eraseSuspend s (fun t => Same [.nv, .regs] s t ∧ RegsBut s t [nvsSuspendCount] ∧
      t.reg nvsSuspendCount = wrap32 (s.reg nvsSuspendCount) ∧
      t.nv = { s.nv with suspended := true, eraseRun := s.nv.eraseRun + (s.now - s.nv.eraseFrom), haltAt := s.now })) ∧
  (∀ s : State, (s.nv.erase = none ∨ s.nv.suspended = true) → exec .eraseSuspend s = .next s) ∧
  (∀ s : State, s.supply.plw = false → (s.suspendAsked = false ∨ s.now < s.nv.eraseFrom + 50000) → exec .eraseSuspend s = .next s) ∧
  (∀ (o : NvOp) (s : State), s.nv.erase = some o → s.nv.suspended = true → s.nv.program = none → s.suspendAsked = false → s.supply.plw = false →
    s.nvRuns = true →
    Answers .eraseResume s (fun t => t = { s with nv := { s.nv with suspended := false, eraseFrom := s.now } })) ∧
  (∀ s : State, (s.nv.erase = none ∨ s.nv.suspended = false ∨ s.nv.program ≠ none ∨ s.suspendAsked = true ∨ s.supply.plw = true ∨
      s.nvRuns = false) → exec .eraseResume s = .next s) ∧
  (∀ (o : NvOp) (s : State), s.nv.erase = some o → s.nv.suspended = false →
    Answers (.eraseDone true) s (fun t => Same [.events, .flash, .granules, .log, .nv, .regs, .sectors] s t ∧
      t.reg nvsEraseCount = wrap32 (s.reg nvsEraseCount) ∧ t.nv = { s.nv with erase := none, eraseRun := 0, verifyFail := 0 } ∧
      (∀ a, secOf a = secOf o.addr → t.cell a = 0xFF) ∧ (∀ g, secOfGranule g = secOf o.addr → t.granule g = {}) ∧
      (∀ a, secOf a ≠ secOf o.addr → t.cell a = s.cell a) ∧ (∀ g, secOfGranule g ≠ secOf o.addr → t.granule g = s.granule g) ∧
      t.sector (secOf o.addr) = { s.sector (secOf o.addr) with open_ := false } ∧ AllBut s.sector t.sector [secOf o.addr] ∧
      ((o.why = .owner ∨ o.why = .shelf) → t.evRing = s.evRing ∧ t.log = s.log ∧ RegsBut s t [nvsEraseCount]) ∧
      (o.why = .firmware → s.reg fwFwState = 1 → (∀ w ∈ s.nv.queue, ¬(w.erase = true ∧ w.why = .firmware)) → t.reg fwFwState = 2) ∧
      (o.why = .ringErase false → s.enters 12 → t.recorded 12 0x27 255 false [])) ∧
    (s.nv.verifyFail = 0 → Answers (.eraseDone false) s (fun t => Same [.nv, .regs] s t ∧ RegsBut s t [nvsEraseFail] ∧
      t.reg nvsEraseFail = sat16 (s.reg nvsEraseFail) ∧ t.nv = { s.nv with verifyFail := 1, eraseRun := 0, eraseFrom := s.now })) ∧
    (s.nv.verifyFail ≠ 0 → Answers (.eraseDone false) s (fun t => Same [.events, .log, .nv, .regs, .sectors] s t ∧
      t.nv = { s.nv with erase := none, eraseRun := 0, verifyFail := 0, queue := t.nv.queue } ∧
      t.sector (secOf o.addr) = { s.sector (secOf o.addr) with open_ := false, failed := true } ∧
      AllBut s.sector t.sector [secOf o.addr] ∧ ((o.why = .owner ∨ o.why = .shelf) → t.log = s.log ∧ t.nv.queue = s.nv.queue) ∧
      (s.enters 12 → t.recorded 12 0x5A 255 false (BitVec.ofNat 8 (regionOf o.addr) :: two (secOf o.addr)))))) ∧
  (∀ (v : Bool) (s : State), (s.nv.erase = none ∨ s.nv.suspended = true) → exec (.eraseDone v) s = .next s) ∧
  (∀ s : State, s.openSectors ≠ [] → s.nvReady = true → s.nv.erase = none →
    Answers .eraseRedo s (fun t => Same [.events, .flash, .granules, .regs, .sectors] s t ∧
      (∀ n ∈ s.openSectors, (∀ a, secOf a = n → t.cell a = 0xFF) ∧ t.sector n = { s.sector n with open_ := false }) ∧
      (∀ a, secOf a ∉ s.openSectors → t.cell a = s.cell a) ∧ AllBut s.sector t.sector s.openSectors ∧
      (s.enters 12 → t.recorded 12 0x5B 255 false (two s.openSectors.length)))) ∧
  (∀ s : State, (s.openSectors = [] ∨ s.nvReady = false ∨ s.nv.erase ≠ none) → exec .eraseRedo s = .next s) ∧
  (∀ (sense : Sense) (s : State), s.act nvScrubEnable ≠ 0 → s.nv.scrubAt + s.act nvScrubPeriod * 175781250 ≤ s.now → s.nvRuns = true →
    (s.scrubSkips (s.reg nvsScrubSector) = true ∨ (s.nv.program = none ∧ s.nv.erase = none ∧ s.nv.queue = [] ∧ s.drawerWaits = false ∧
      s.ledgerWaits = false)) →
    Answers (.scrubRead sense) s (fun t => Same [.events, .granules, .keys, .nv, .regs, .sec, .sectors] s t ∧
      t.nv = { s.nv with scrubAt := s.now, scrubNow := if s.scrubSkips (s.reg nvsScrubSector) then none else some (s.reg nvsScrubSector),
                         badCopies := t.nv.badCopies } ∧
      (regionOf (4096 * s.reg nvsScrubSector) ≠ 5 → t.keys = s.keys ∧ t.nv.badCopies = s.nv.badCopies) ∧
      (s.scrubSkips (s.reg nvsScrubSector) = true → Same [.nv, .regs] s t) ∧
      t.reg nvsScrubSector = (s.reg nvsScrubSector + 1) % 2048 ∧
      (s.reg nvsScrubSector = 2047 → t.reg nvsScrubPasses = wrap32 (s.reg nvsScrubPasses) ∧ t.reg nvsScrubPassTick = s.now))) ∧
  (∀ (sense : Sense) (s : State), (s.act nvScrubEnable = 0 ∨ s.now < s.nv.scrubAt + s.act nvScrubPeriod * 175781250 ∨ s.nvRuns = false ∨
      (s.scrubSkips (s.reg nvsScrubSector) = false ∧
        (s.nv.program ≠ none ∨ s.nv.erase ≠ none ∨ s.nv.queue ≠ [] ∨ s.drawerWaits = true ∨ s.ledgerWaits = true))) →
    exec (.scrubRead sense) s = .next s)

/-- The memory window of OWNER (after R408, R410, R412, R415, R419, R424). MEM_ADDR takes an address of its range; a hidden one has ST 0x0201 and
another ST 0x0301. MEM_READ gives the bytes with the result of the margin sense, or ST 0x0602 for a DAMAGED granule. MEM_WRITE queues a program
operation in the owner area within one page; below it ST 0x0604, over a page border ST 0x0301, on a FAILED sector, a programmed granule or a sealed
page the code of that, and 16 to 256 bytes or ST 0x0305. MEM_ERASE queues the erase of a sector of the owner area, once; another address has ST
0x0604. While the NV island is stalled they have ST 0x0702, and what changes the flash ST 0x0601 under COLD_INHIBIT or the warning. Another role has
ST 0x0201. -/
def Obligations.MemoryWindowReadsWritesAndErases : Prop :=
  (∀ (k : Nat) (addr : BitVec 32) (s : State), s.serves = true →
    (memHidden addr.toNat = true → Answers (.memAddr .owner k addr) s (fun t => ItemEnds .owner [] [] s t 0x0201)) ∧
    (memHidden addr.toNat = false → memAddrOk addr.toNat = false →
      Answers (.memAddr .owner k addr) s (fun t => ItemEnds .owner [] [] s t 0x0301)) ∧
    (memHidden addr.toNat = false → memAddrOk addr.toNat = true →
      Answers (.memAddr .owner k addr) s (fun t => ItemEnds .owner [.sessions] [] s t 0 ∧
        (∀ x, s.session k = some x → t.session k = some { x with memAddr := addr.toNat }) ∧ AllBut s.session t.session [k]))) ∧
  (∀ (k : Nat) (sense : Sense) (x : Session) (s : State), s.serves = true → s.session k = some x →
    (s.nvBad = true → Answers (.memRead .owner k sense) s (fun t => ItemEnds .owner [] [] s t 0x0702)) ∧
    (s.nvBad = false → Answers (.memRead .owner k sense) s (fun t =>
      Same [.events, .granules, .keys, .nv, .regs, .reply, .sec, .sectors, .status] s t ∧
      t.nv = { s.nv with badCopies := t.nv.badCopies } ∧ (sense.uncorrectable = [] → t.nv = s.nv ∧ t.keys = s.keys) ∧
      (sense.uncorrectable = [] → t.readStatus x.memAddr x.memLen = s.readStatus x.memAddr x.memLen) ∧
      t.reg memMemResult = resultWord sense (t.readStatus x.memAddr x.memLen) ∧
      (t.readStatus x.memAddr x.memLen = 4 → t.status = 0x0602) ∧
      (t.readStatus x.memAddr x.memLen ≠ 4 → t.status = 0 ∧ t.reply = t.readBytes x.memAddr x.memLen)))) ∧
  (∀ (k : Nat) (sense : Sense) (data : Bytes) (s : State), s.session k = none →
    exec (.memRead .owner k sense) s = .next s ∧ exec (.memWrite .owner k data) s = .next s) ∧
  (∀ (r : Role) (k : Nat) (addr : BitVec 32) (sense : Sense) (data : Bytes) (s : State), s.hears r → r ≠ .owner →
    Answers (.memAddr r k addr) s (fun t => ItemEnds r [] [] s t 0x0201) ∧ Answers (.memErase r addr) s (fun t => ItemEnds r [] [] s t 0x0201) ∧
    (s.session k ≠ none → Answers (.memRead r k sense) s (fun t => ItemEnds r [] [] s t 0x0201) ∧
      Answers (.memWrite r k data) s (fun t => ItemEnds r [] [] s t 0x0201))) ∧
  (∀ (k : Nat) (data : Bytes) (s : State), s.serves = true → s.session k ≠ none → (data.length < 16 ∨ 256 < data.length) →
    Answers (.memWrite .owner k data) s (fun t => ItemEnds .owner [] [] s t 0x0305)) ∧
  (∀ (k : Nat) (data : Bytes) (x : Session) (s : State), s.serves = true → s.session k = some x → 16 ≤ data.length → data.length ≤ 256 →
    (x.memAddr < 0x640000 → Answers (.memWrite .owner k data) s (fun t => ItemEnds .owner [] [] s t 0x0604)) ∧
    (0x640000 ≤ x.memAddr → 256 < x.memAddr % 256 + data.length →
      Answers (.memWrite .owner k data) s (fun t => ItemEnds .owner [] [] s t 0x0301)) ∧
    (0x640000 ≤ x.memAddr → x.memAddr % 256 + data.length ≤ 256 →
      (∀ st, s.programRefusal x.memAddr data.length = some st →
        Answers (.memWrite .owner k data) s (fun t => ItemEnds .owner [] [] s t st)) ∧
      (s.programRefusal x.memAddr data.length = none → s.nvBad = true →
        Answers (.memWrite .owner k data) s (fun t => ItemEnds .owner [] [] s t 0x0702)) ∧
      (s.programRefusal x.memAddr data.length = none → s.nvBad = false → s.nvInhibited = true →
        Answers (.memWrite .owner k data) s (fun t => ItemEnds .owner [] [nvsInhibitRefused] s t 0x0601)) ∧
      (s.programRefusal x.memAddr data.length = none → s.nvStops = false →
        Answers (.memWrite .owner k data) s (fun t => ItemEnds .owner [.nv] [] s t 2 ∧
          t.nv = { s.nv with queue := s.nv.queue ++ [{ why := .owner, erase := false, addr := x.memAddr, data := data }] })))) ∧
  (∀ (addr : BitVec 32) (s : State), s.serves = true →
    ((addr.toNat < 0x640000 ∨ 0x800000 ≤ addr.toNat ∨ addr.toNat % 4096 ≠ 0) →
      Answers (.memErase .owner addr) s (fun t => ItemEnds .owner [] [] s t 0x0604)) ∧
    (0x640000 ≤ addr.toNat → addr.toNat < 0x800000 → addr.toNat % 4096 = 0 →
      (s.nvBad = true → Answers (.memErase .owner addr) s (fun t => ItemEnds .owner [] [] s t 0x0702)) ∧
      (s.nvBad = false → s.nvInhibited = true →
        Answers (.memErase .owner addr) s (fun t => ItemEnds .owner [] [nvsInhibitRefused] s t 0x0601)) ∧
      (s.nvStops = false → (∃ o ∈ s.nv.queue, o.erase = true ∧ o.addr = addr.toNat) →
        Answers (.memErase .owner addr) s (fun t => ItemEnds .owner [] [] s t 2))) ∧
    (0x640000 ≤ addr.toNat → addr.toNat < 0x800000 → addr.toNat % 4096 = 0 → s.nvStops = false →
      (∀ o ∈ s.nv.queue, ¬(o.erase = true ∧ o.addr = addr.toNat)) → s.nv.erase = none →
      Answers (.memErase .owner addr) s (fun t => ItemEnds .owner [.nv] [] s t 2 ∧
        t.nv = { s.nv with queue := s.nv.queue ++ [{ why := .owner, erase := true, addr := addr.toNat }] })))

/-- The firmware update of OWNER (after R420, R446, Table 8-4). FW_ERASE erases the bank that does not run, or waits for an erase of the log or a
switch; during an update, before a pending activation and while one waits it has ST 0x0401. FW_DATA queues its data at the offset, page by page; it
is refused outside FW_STATE 2, outside the bank, on a FAILED sector, on granules already programmed or asked for, on a sealed page, with a length
outside 16 to 256 bytes, and with one that is no multiple of 16. FW_SEAL verifies the image: FW_STATE 4 and its version, or 6 and 0, with EV 0x61
for a rollback level too low; it is refused outside FW_STATE 2 and while data wait. FW_ACTIVATE of a sealed image resets the management island into
the other bank, or waits for the sweeps; FW_ABANDON ends the update. While the NV island is stalled or inhibited, erase and data are refused.
Another role has ST 0x0201. -/
def Obligations.FirmwareIsErasedWrittenSealedAndActivated : Prop :=
  (∀ s : State, s.serves = true →
    ((s.fwUpdates = true ∨ s.reg fwFwState = 5 ∨ s.waitMaint.contains 16 = true) → Answers (.fwErase .owner) s (fun t =>
      ItemEnds .owner [] [maintRefusedCount, fwFwStatus] s t 0x0401 ∧ t.reg maintRefusedCount = sat16 (s.reg maintRefusedCount) ∧
      t.reg fwFwStatus = 0x0401)) ∧
    (s.fwUpdates = false → s.reg fwFwState ≠ 5 → s.waitMaint.contains 16 = false →
      (s.nvBad = true → Answers (.fwErase .owner) s (fun t => ItemEnds .owner [] [fwFwStatus] s t 0x0702)) ∧
      (s.nvBad = false → s.nvInhibited = true →
        Answers (.fwErase .owner) s (fun t => ItemEnds .owner [] [nvsInhibitRefused, fwFwStatus] s t 0x0601))) ∧
    (s.fwUpdates = false → s.reg fwFwState ≠ 5 → s.waitMaint.contains 16 = false → s.nvStops = false →
      ((s.logErases = true ∨ s.switching = true) → Answers (.fwErase .owner) s (fun t =>
        ItemEnds .owner [.waitMaint] [fwFwStatus] s t 2 ∧ t.waitMaint = s.waitMaint ++ [16])) ∧
      (s.logErases = false → s.switching = false → Answers (.fwErase .owner) s (fun t =>
        ItemEnds .owner [.nv, .sec] [fwFwState, identFwOther, fwFwStatus] s t 2 ∧ t.reg fwFwState = 1 ∧ t.reg identFwOther = 0 ∧
        t.sec = { s.sec with factory := s.sec.factory && s.otherBank != 0 } ∧
        t.nv = { s.nv with queue := s.nv.queue ++
          [{ why := .firmware, erase := true, addr := bankBase s.otherBank, data := [], count := 512 }] })))) ∧
  (∀ (r : Role) (data : Bytes) (s : State), s.hears r → r ≠ .owner →
    Answers (.fwErase r) s (fun t => ItemEnds r [] [] s t 0x0201) ∧ Answers (.fwData r data) s (fun t => ItemEnds r [] [] s t 0x0201) ∧
    Answers (.fwSeal r) s (fun t => ItemEnds r [] [] s t 0x0201) ∧ Answers (.fwActivate r) s (fun t => ItemEnds r [] [] s t 0x0201) ∧
    Answers (.fwAbandon r) s (fun t => ItemEnds r [] [] s t 0x0201)) ∧
  (∀ (data : Bytes) (s : State), s.serves = true →
    ((data.length < 16 ∨ 256 < data.length) → Answers (.fwData .owner data) s (fun t => ItemEnds .owner [] [] s t 0x0305)) ∧
    (16 ≤ data.length → data.length ≤ 256 → data.length % 16 ≠ 0 →
      Answers (.fwData .owner data) s (fun t => ItemEnds .owner [] [] s t 0x0301))) ∧
  (∀ (data : Bytes) (s : State), s.serves = true → 16 ≤ data.length → data.length ≤ 256 → data.length % 16 = 0 →
    (s.reg fwFwState ≠ 2 → Answers (.fwData .owner data) s (fun t => ItemEnds .owner [] [] s t 0x0506)) ∧
    (s.reg fwFwState = 2 → 0x200000 < s.reg fwFwOffset + data.length →
      Answers (.fwData .owner data) s (fun t => ItemEnds .owner [] [] s t 0x0301)) ∧
    (s.reg fwFwState = 2 → s.reg fwFwOffset + data.length ≤ 0x200000 →
      (s.blockFailed (bankBase s.otherBank + s.reg fwFwOffset) data.length = true →
        Answers (.fwData .owner data) s (fun t => ItemEnds .owner [] [] s t 0x0703)) ∧
      (s.blockFailed (bankBase s.otherBank + s.reg fwFwOffset) data.length = false →
        (∃ g ∈ granulesOf (bankBase s.otherBank + s.reg fwFwOffset) data.length, (s.granule g).intent = true ∨ s.granuleAsked g = true) →
        Answers (.fwData .owner data) s (fun t => ItemEnds .owner [] [] s t 0x0301))) ∧
    (s.reg fwFwState = 2 → s.reg fwFwOffset + data.length ≤ 0x200000 →
      s.blockFailed (bankBase s.otherBank + s.reg fwFwOffset) data.length = false →
      (∀ g ∈ granulesOf (bankBase s.otherBank + s.reg fwFwOffset) data.length, (s.granule g).intent = false ∧ s.granuleAsked g = false) →
      (s.blockSealed (bankBase s.otherBank + s.reg fwFwOffset) data.length = true →
        Answers (.fwData .owner data) s (fun t => ItemEnds .owner [] [] s t 0x0605)) ∧
      (s.blockSealed (bankBase s.otherBank + s.reg fwFwOffset) data.length = false → s.nvBad = true →
        Answers (.fwData .owner data) s (fun t => ItemEnds .owner [] [] s t 0x0702)) ∧
      (s.blockSealed (bankBase s.otherBank + s.reg fwFwOffset) data.length = false → s.nvBad = false → s.nvInhibited = true →
        Answers (.fwData .owner data) s (fun t => ItemEnds .owner [] [nvsInhibitRefused] s t 0x0601)) ∧
      (s.blockSealed (bankBase s.otherBank + s.reg fwFwOffset) data.length = false → s.nvStops = false →
        Answers (.fwData .owner data) s (fun t => ItemEnds .owner [.nv] [] s t 2 ∧
          t.nv = { s.nv with queue := t.nv.queue } ∧ ∃ l : List NvOp, t.nv.queue = s.nv.queue ++ l ∧
            (l.map (fun o => o.data)).flatten = data ∧
            ∀ o ∈ l, o.why = .firmware ∧ o.erase = false ∧ o.addr % 256 + o.data.length ≤ 256)))) ∧
  (∀ s : State, s.serves = true →
    (s.reg fwFwState ≠ 2 → Answers (.fwSeal .owner) s (fun t => ItemEnds .owner [] [fwFwStatus] s t 0x0506)) ∧
    (s.reg fwFwState = 2 → (∃ o ∈ s.nv.queue, o.why = .firmware) → Answers (.fwSeal .owner) s (fun t =>
      ItemEnds .owner [] [maintRefusedCount, fwFwStatus] s t 0x0401)) ∧
    (s.reg fwFwState = 2 → (∀ o ∈ s.nv.queue, o.why ≠ .firmware) →
      (s.imageCheck s.otherBank = 0 → Answers (.fwSeal .owner) s (fun t =>
        ItemEnds .owner [.nv] [fwFwState, identFwOther, fwFwStatus] s t 0 ∧ t.nv = { s.nv with sealAt := some s.now } ∧ t.reg fwFwState = 4 ∧
        t.reg identFwOther = s.imgVersion s.otherBank)) ∧
      (s.imageCheck s.otherBank ≠ 0 → Answers (.fwSeal .owner) s (fun t =>
        Same [.events, .nv, .regs, .reply, .status] s t ∧ t.nv = { s.nv with sealAt := some s.now } ∧ t.status = 0 ∧ t.reg fwFwState = 6 ∧
        t.reg identFwOther = 0 ∧
        (s.imageCheck s.otherBank = 5 → s.enters 12 → t.recorded 12 0x61 255 false
          [BitVec.ofNat 8 (s.imgRollback s.otherBank), BitVec.ofNat 8 (s.reg secRollbackCount)]))))) ∧
  (∀ s : State, s.serves = true →
    (s.reg fwFwState ≠ 4 → Answers (.fwActivate .owner) s (fun t => ItemEnds .owner [] [fwFwStatus] s t 0x0506)) ∧
    (s.reg fwFwState = 4 → s.anySweep = true → Answers (.fwActivate .owner) s (fun t =>
      ItemEnds .owner [.waitMaint, .fwWaitAt] [fwFwState, fwFwStatus] s t 2 ∧ t.reg fwFwState = 5 ∧ t.fwWaitAt = some s.now ∧
      t.waitMaint = s.waitMaint ++ [17])) ∧
    (s.reg fwFwState = 4 → s.anySweep = false → Answers (.fwActivate .owner) s (fun t =>
      ManagementReset s t 5 ∧ t.status = 0 ∧ t.sec.bootBank = s.otherBank ∧ t.sec.bootOther = false ∧ t.fwWaitAt = none))) ∧
  (∀ s : State, s.serves = true → Answers (.fwAbandon .owner) s (fun t =>
    ItemEnds .owner [.nv, .waitMaint, .fwWaitAt] [fwFwState, fwFwStatus] s t 0 ∧ t.reg fwFwState = 0 ∧
    (∀ o ∈ t.nv.queue, o.why ≠ .firmware) ∧ t.fwWaitAt = none ∧ 16 ∉ t.waitMaint ∧ 17 ∉ t.waitMaint))

/-! ### The thermal function -/

/-- A diode sample (after R264 to R266, R270): its reading and its stamp, and while SUSPECT is clear it is the decision reading; the third reading
in succession beyond HOT_SHUT puts the limit in force and shuts off every live partition of SHUT_MAP with cause 0x04, a reading within it starts the
count anew; a sample that a due swap comes before is the matter of the swap's statement. A sample that is not due, and one that no slice can make,
changes nothing. The other happenings of the thermal function: DRIVE_WAIT in a boost with HOT_RELIEF or HOT_SHUT in force raises the thermal relief
request (after R272), 10 s without a change clear CHATTER (after R268), 50 ms without a reading set NO_SAMPLE with EV 0x39 (after R276), and a poll
sends each peer its request on PEER (after R274, R404), takes the reading of each that answered with its OFFSET while PEER talks, and asks each PMIC
through its port (after R274), also while NO_SAMPLE is set. Each of them changes nothing where it is not due, the poll also before the first commit
and while the management plane is down. -/
def Obligations.ThermalSamplesWaitsAndPolls : Prop :=
  (
  (∀ (own : Int) (s : State), s.diodeReads = true → s.noSwapAt 0 →
    (∀ a, s.thermal.sampleAt = some a → a + 100000 * (if s.thermal.fast then 1 else 10) ≤ s.now) →
    Answers (.thermalSample own) s (fun t =>
      Same [.actions, .caps, .chans, .clusters, .drives, .ens, .entries, .events, .groups, .latches, .log, .parts, .ports, .regs, .safeN, .thermal,
        .trims, .waitMaint] s t ∧
      t.thermal.own = some own ∧ t.thermal.sampleAt = some s.now ∧ t.thermal.lastOwnAt = s.now ∧ t.thermal.noSample = false ∧
      t.reg thsSampleTick = s.ctr 0 ∧ (s.thermal.suspect = false → t.thermal.decision = some own) ∧
      (s.thermal.suspect = false → s.thermal.hotShut.inForce = false → s.limHotShut < own →
        (s.thermal.hotShut.count < 2 → t.thermal.hotShut = { inForce := false, count := s.thermal.hotShut.count + 1 } ∧ t.parts = s.parts) ∧
        (2 ≤ s.thermal.hotShut.count → t.thermal.hotShut = { inForce := true, count := 0 } ∧
          (s.hotParts ≠ [] → (∀ p ∈ s.hotParts, (s.part p).line = false) → t.safeN = false) ∧
          ∀ p < 16, (p ∈ s.hotParts → (s.part p).line = false → (t.part p).line = true ∧ (t.part p).state.isFaulted = true ∧
              t.reg (shutsLastCause p) = 4) ∧
            (p ∉ s.hotParts → (t.part p).state = (s.part p).state ∧ (t.part p).line = (s.part p).line))) ∧
      (s.thermal.suspect = false → s.thermal.hotShut.inForce = false → own ≤ s.limHotShut →
        t.thermal.hotShut = { inForce := false, count := 0 } ∧ t.parts = s.parts ∧ t.ens = s.ens ∧
        (∀ c, (t.chan c).state = (s.chan c).state) ∧ t.safeN = s.safeN))) ∧
  (∀ (own : Int) (a : Nat) (s : State), s.thermal.sampleAt = some a → s.now < a + 100000 * (if s.thermal.fast then 1 else 10) →
    exec (.thermalSample own) s = .next s) ∧
  (∀ (own : Int) (s : State), s.diodeReads = false → exec (.thermalSample own) s = .next s))
  ∧ (
  (∀ s : State, s.mgmtDown = false → s.thermal.boost = true → (s.thermal.hotRelief.inForce = true ∨ s.thermal.hotShut.inForce = true) →
    s.thermal.tBoost + 100000 * s.act thDriveWait ≤ s.now →
    Answers .driveWaitExpire s (fun t => t = { s with thermal := { s.thermal with request := true } })) ∧
  (∀ s : State, (s.mgmtDown = true ∨ s.thermal.boost = false ∨ s.now < s.thermal.tBoost + 100000 * s.act thDriveWait ∨
      (s.thermal.hotRelief.inForce = false ∧ s.thermal.hotShut.inForce = false)) →
    exec .driveWaitExpire s = .next s) ∧
  (∀ s : State, (∀ a ∈ s.thermal.changes, a + 1000000000 ≤ s.now) →
    Answers .chatterClear s (fun t => t = { s with thermal := { s.thermal with chatter := false, changes := [] } })) ∧
  (∀ s : State, (∃ a ∈ s.thermal.changes, s.now < a + 1000000000) → exec .chatterClear s = .next s) ∧
  (∀ s : State, s.supply.vcore = true → s.thermal.lastOwnAt + 5000000 ≤ s.now → s.thermal.noSample = false →
    Answers .noSample s (fun t => Same [.events, .regs, .thermal] s t ∧ RegsBut s t [evEventsLost] ∧
      t.thermal = { s.thermal with noSample := true } ∧ (s.enters 1 → t.recorded 1 0x39 255 false []))) ∧
  (∀ s : State, (s.supply.vcore = false ∨ s.now < s.thermal.lastOwnAt + 5000000 ∨ s.thermal.noSample = true) → exec .noSample s = .next s) ∧
  (∀ (readings : List (Option Int)) (s : State), s.mgmtDown = false → s.committed = true → s.thermal.noSample = false →
    (∀ a, s.thermal.pollAt = some a → a + 10000000 ≤ s.now) →
    Answers (.neighbourPoll readings) s (fun t => Same [.events, .peerOut, .peerTries, .ports, .regs, .thermal] s t ∧
      t.thermal.pollAt = some s.now ∧
      (s.peerTalks = false → t.peerOut = s.peerOut) ∧
      (s.peerTalks = true → ∃ l, t.peerOut = s.peerOut ++ l ∧ ∀ k < 8, nbKind (s.act (thnNeighbour k)) = 1 → ∀ (a : Nat) (b : Bytes),
        a = 2 * (s.act peerPeerAddrBase + nbId (s.act (thnNeighbour k))) → b = [BitVec.ofNat 8 a, 0xD1, 0x20, 0x38, 2] →
          b ++ [crc8 b] ∈ l ∧ [BitVec.ofNat 8 (a + 1)] ∈ l) ∧
      ∀ k < 8,
        (∀ v, nbKind (s.act (thnNeighbour k)) = 1 → s.peerTalks = true → readings[k]? = some (some v) →
          tabFind t.thermal.neighbours k = some { reading := v + nbOffset (s.act (thnNeighbour k)), at_ := s.now, fresh := true }) ∧
        (nbKind (s.act (thnNeighbour k)) = 2 → s.pollAsked k = false →
          { entry := nbId (s.act (thnNeighbour k)), part := 0, cmd := 0x8D, data := 0, why := .poll k } ∈
            (t.port (tgtPort (s.act (tgtEntry (nbId (s.act (thnNeighbour k))))))).queue) ∧
        (nbKind (s.act (thnNeighbour k)) = 0 → tabFind t.thermal.neighbours k = tabFind s.thermal.neighbours k))) ∧
  (∀ (readings : List (Option Int)) (s : State), s.mgmtDown = false → s.committed = true → s.thermal.noSample = true →
    (∀ a, s.thermal.pollAt = some a → a + 10000000 ≤ s.now) →
    Answers (.neighbourPoll readings) s (fun t =>
      Same [.actions, .caps, .chans, .clusters, .drives, .ens, .entries, .events, .groups, .latches, .log, .parts, .peerOut, .peerTries, .ports,
        .regs, .safeN, .thermal, .trims, .waitMaint] s t ∧
      t.thermal.pollAt = some s.now ∧ ∀ k < 8, ∀ v, nbKind (s.act (thnNeighbour k)) = 1 → s.peerTalks = true → readings[k]? = some (some v) →
        tabFind t.thermal.neighbours k = some { reading := v + nbOffset (s.act (thnNeighbour k)), at_ := s.now, fresh := true })) ∧
  (∀ (readings : List (Option Int)) (s : State), (s.mgmtDown = true ∨ s.committed = false) → exec (.neighbourPoll readings) s = .next s) ∧
  (∀ (readings : List (Option Int)) (a : Nat) (s : State), s.thermal.pollAt = some a → s.now < a + 10000000 →
    exec (.neighbourPoll readings) s = .next s))

/-! ### The drives -/

/-- A drive. A carrier period (after R427, R428, with the carrier's edges as log 8 places them) forms the on-time of each phase from its duty and
carry: an on-time shorter than MIN_PULSE is left out and carried on, a gap shorter than MIN_PULSE is left out too, every other one is rounded to the
400 MHz clock with the rest carried. The outputs (after R429): two high pulses apart by MIN_PULSE leave the low output on between them, shortened by
DEAD_TIME at both ends, unless less than MIN_PULSE remains; DEAD_TIME stays between the outputs of a phase and a low pulse is never shorter than
MIN_PULSE, so both outputs of a phase are never on together; a drive that does not run, is not committed or has no supply holds both low. A good
position read of a binary sensor (after R433 to R435) stores the raw word and moves POSITION by its step modulo COUNTS_REV; a failed one is counted,
and the third in succession faults the drive with cause 2; a comparator out of its window faults with 1 the enabled drives that bind it, a stall for
STALL_TIME with 3 (after R430, Table 17-1, R438), and a fault stops the outputs and is counted. More than 100 ms without a change point are
STANDSTILL (after R436). RUN starts and stops the outputs, and CLEAR_FAULT ends a fault whose cause is gone and is refused while it is there (after
R437, R438). What is not due changes nothing. -/
def Obligations.DrivesRunMeasureAndFault : Prop :=
  (∀ (d : Fin 4) (s : State), s.carrierRuns d = true → s.periodAt d (s.drive d).begun ≤ 10000 * s.now →
    Answers (.carrierPeriod d) s (fun t => Same [.drives, .events, .regs] s t ∧ AllBut s.drive t.drive [d.val] ∧
      (t.drive d).begun = (s.drive d).begun + 1 ∧ (t.drive d).periods = (s.drive d).periods + 1 ∧
      ((s.drive d).running = false → t.regs = s.regs ∧
        t.drive d = { s.drive d with begun := (s.drive d).begun + 1, periods := (s.drive d).periods + 1 }) ∧
      ((s.drive d).running = true → s.act (drvCtrlMode d) ≠ 1 → (s.drive d).vNew = false →
        t.regs = s.regs ∧ (t.drive d).duty = (s.drive d).duty ∧
        ∀ (t0 len m : Nat), t0 = s.periodAt d (s.drive d).begun → len = s.periodAt d ((s.drive d).begun + 1) - t0 →
          m = 2500 * s.act (drvMinPulse d) → ∀ i < 3, ∀ on c : Int,
          phasePeriod len m ((s.drive d).duty.getD i 0) ((s.drive d).carry.getD i 0) = (on, c) → ∀ (y : PhaseX) (gap : Nat),
          ((s.drive d).pulses.getD i {}).pulse (highRise t0 len on.toNat) on.toNat (2500 * s.act (drvDeadTime d)) m = (y, gap) →
            (t.drive d).pulses.getD i {} = y ∧ (t.drive d).carry.getD i 0 = c - gap))) ∧
  (∀ (t m duty carry : Int), 0 ≤ t →
    (clampInt 0 t (duty * t / 65536 + carry) < m → phasePeriod t m duty carry = (0, clampInt 0 t (duty * t / 65536 + carry))) ∧
    (m ≤ clampInt 0 t (duty * t / 65536 + carry) → t - clampInt 0 t (duty * t / 65536 + carry) < m →
      phasePeriod t m duty carry = (t, clampInt 0 t (duty * t / 65536 + carry) - t)) ∧
    (m ≤ clampInt 0 t (duty * t / 65536 + carry) → m ≤ t - clampInt 0 t (duty * t / 65536 + carry) →
      ∃ k rest : Int, phasePeriod t m duty carry = (2500 * k, rest) ∧ 2500 * k + rest = clampInt 0 t (duty * t / 65536 + carry) ∧
        -1250 ≤ rest ∧ rest ≤ 1250)) ∧
  (∀ (x : PhaseX) (rise on dead m : Nat),
    (on = 0 → x.pulse rise on dead m = (x, 0)) ∧
    (0 < on → (∀ h, x.high = some h → h.2 + m ≤ rise) → x.pulse rise on dead m =
      ({ high := some (rise, rise + on), lowFrom := rise + on + dead,
         low := if x.lowFrom + m + dead ≤ rise then some (x.lowFrom, rise - dead) else none }, 0)) ∧
    (∀ h, 0 < on → x.high = some h → rise < h.2 + m → x.pulse rise on dead m =
      ({ x with high := some (h.1, rise + on), lowFrom := rise + on + dead }, rise - h.2)) ∧
    ((∀ h l, x.high = some h → x.low = some l → l.2 + dead ≤ h.1 ∧ l.1 + m ≤ l.2) → (∀ h, x.high = some h → h.2 + dead ≤ x.lowFrom) →
      ∀ y, y = (x.pulse rise on dead m).1 →
        (∀ h l, y.high = some h → y.low = some l → l.2 + dead ≤ h.1 ∧ l.1 + m ≤ l.2) ∧ (∀ h, y.high = some h → h.2 + dead ≤ y.lowFrom) ∧
        ∀ t, ¬ (y.highOn t = true ∧ y.lowOn t = true))) ∧
  (∀ (s : State) (d i : Nat) (high : Bool), ((s.drive d).running = false ∨ s.committed = false ∨ s.supply.vcore = false) →
    s.driveOut d i high = false) ∧
  (∀ (d : Fin 4) (s : State), (s.carrierRuns d = false ∨ 10000 * s.now < s.periodAt d (s.drive d).begun) →
    exec (.carrierPeriod d) s = .next s) ∧
  (∀ (d : Fin 4) (rd : PosRead) (w n : Nat) (step : Int) (s : State), s.carrierRuns d = true →
    s.act (drvPosPeriod d) ≤ (s.drive d).periods → n = s.act (drvPosBits d) → s.act (drvPosCode d) ≠ 1 →
    w = rd.word / 2 ^ s.act (drvPosStatusBits d) % 2 ^ n →
    step = (match (s.drive d).lastRaw with
      | none => 0
      | some old => posStep n w old) →
    step ≤ 2 ^ (n - 2) → -(2 ^ (n - 2)) ≤ step → s.readPasses d rd = true →
    Answers (.positionRead d rd) s (fun t => Same [.drives, .regs] s t ∧ AllBut s.drive t.drive [d.val] ∧
      RegsBut s t [drvsRawPos d, drvsLastPosTick d, drvsPosition d, drvsRevs d, drvsSpeed d] ∧
      (t.drive d).lastRaw = some w ∧ (t.drive d).failRun = 0 ∧ (t.drive d).periods = 0 ∧
      t.reg (drvsRawPos d) = w * 16 + rd.word % 2 ^ s.act (drvPosStatusBits d) ∧ t.reg (drvsLastPosTick d) = s.now ∧
      t.reg (drvsPosition d) = (((s.reg (drvsPosition d) : Int) + step) % s.act (drvCountsRev d)).toNat ∧
      (t.drive d).unwrapped = (s.drive d).unwrapped + step)) ∧
  (∀ (d : Fin 4) (rd : PosRead) (s : State), s.carrierRuns d = true → s.act (drvPosPeriod d) ≤ (s.drive d).periods → s.readPasses d rd = false →
    Answers (.positionRead d rd) s (fun t => Same [.drives, .events, .regs] s t ∧ AllBut s.drive t.drive [d.val] ∧
      t.reg (drvsPosErrCount d) = sat16 (s.reg (drvsPosErrCount d)) ∧ (t.drive d).periods = 0 ∧
      ((s.drive d).failRun ≠ 2 → t.drive d = { s.drive d with periods := 0, failRun := (s.drive d).failRun + 1 }) ∧
      ((s.drive d).failRun = 2 → (s.drive d).fault = 0 → (t.drive d).fault = 2 ∧ (t.drive d).running = false ∧
        (t.drive d).standstill = true ∧ t.reg (drvsSpeed d) = 0 ∧ t.reg (drvsFaultCount d) = sat16 (s.reg (drvsFaultCount d))))) ∧
  (∀ (d : Fin 4) (rd : PosRead) (s : State), (s.carrierRuns d = false ∨ (s.drive d).periods < s.act (drvPosPeriod d)) →
    exec (.positionRead d rd) s = .next s) ∧
  (∀ (d : Fin 4) (s : State), (s.drive d).standstill = false → (s.drive d).tChange + 10000000 < s.now →
    Answers (.standstill d) s (fun t => Same [.drives, .regs] s t ∧ RegsBut s t [drvsSpeed d] ∧ t.reg (drvsSpeed d) = 0 ∧
      AllBut s.drive t.drive [d.val] ∧ (t.drive d).standstill = true ∧ (t.drive d).points = [] ∧ (t.drive d).estimating = false)) ∧
  (∀ (d : Fin 4) (s : State), ((s.drive d).standstill = true ∨ s.now ≤ (s.drive d).tChange + 10000000) →
    exec (.standstill d) s = .next s) ∧
  (∀ (c : Fin 512) (s : State), s.inWindow c = false →
    Answers (.driveOvercurrent c) s (fun t => Same [.drives, .events, .regs] s t ∧
      ∀ d < 4, (s.act (drvEnable d) = 1 → c.val ∈ s.currentsOf d → (s.drive d).fault = 0 → (t.drive d).fault = 1 ∧
          (t.drive d).running = false ∧ t.reg (drvsFaultCount d) = sat16 (s.reg (drvsFaultCount d))) ∧
        (s.act (drvEnable d) = 1 → c.val ∈ s.currentsOf d → (s.drive d).fault ≠ 0 → t.drive d = { s.drive d with faultAt := some s.now }) ∧
        ((s.act (drvEnable d) ≠ 1 ∨ c.val ∉ s.currentsOf d) → t.drive d = s.drive d))) ∧
  (∀ (c : Fin 512) (s : State), s.inWindow c = true → exec (.driveOvercurrent c) s = .next s) ∧
  (∀ (d : Fin 4) (a : Nat) (s : State), (s.drive d).stallFrom = some a → s.act (drvStallTime d) ≠ 0 →
    a + 100000 * s.act (drvStallTime d) ≤ s.now → s.stalls d = true → (s.drive d).fault = 0 →
    Answers (.driveStall d) s (fun t => Same [.drives, .events, .regs] s t ∧ AllBut s.drive t.drive [d.val] ∧ (t.drive d).fault = 3 ∧
      (t.drive d).running = false ∧ (t.drive d).duty = [0, 0, 0] ∧ t.reg (drvsFaultCount d) = sat16 (s.reg (drvsFaultCount d)))) ∧
  (∀ (d : Fin 4) (s : State), ((s.drive d).stallFrom = none ∨ s.act (drvStallTime d) = 0 ∨ s.stalls d = false ∨
      ∃ a, (s.drive d).stallFrom = some a ∧ s.now < a + 100000 * s.act (drvStallTime d)) → exec (.driveStall d) s = .next s) ∧
  (∀ (r : Role) (d : Fin 4) (v : Byte) (s : State), s.hears r → ownerOr r (s.act (drvPartition d)) = true →
    (v = 0 ∨ v = 1 → Answers (.run r d v) s (fun t => Same [.drives, .events, .regs, .reply, .status] s t ∧ t.status = 0 ∧
      AllBut s.drive t.drive [d.val] ∧ t.reg (drvcRun d) = (if (s.part (s.act (drvPartition d))).cutTick = some s.now then 0 else v.toNat) ∧
      (v = 0 → (t.drive d).running = false) ∧
      (v = 1 → (s.part (s.act (drvPartition d))).cutTick ≠ some s.now → s.act (drvEnable d) = 1 → (s.drive d).fault = 0 → s.committed = true → 13 ∉ s.islandBad →
        ((s.part (s.act (drvPartition d))).state = .starting ∨ (s.part (s.act (drvPartition d))).state = .up) →
        (t.drive d).running = true))) ∧
    (v ≠ 0 → v ≠ 1 → Answers (.run r d v) s (fun t => ItemEnds r [] [] s t 0x0301)) ∧
    (s.faultPersists d = true → Answers (.clearFault r d 1) s (fun t => ItemEnds r [] [] s t 0x0506)) ∧
    (s.faultPersists d = false → Answers (.clearFault r d 1) s (fun t => Same [.drives, .events, .regs, .reply, .status] s t ∧
      t.status = 0 ∧ AllBut s.drive t.drive [d.val] ∧ (t.drive d).fault = 0 ∧ (t.drive d).failRun = 0)) ∧
    (v ≠ 1 → Answers (.clearFault r d v) s (fun t => ItemEnds r [] [] s t 0x0301))) ∧
  (∀ (r : Role) (d : Fin 4) (v : Byte) (s : State), s.hears r → ownerOr r (s.act (drvPartition d)) = false →
    Answers (.run r d v) s (fun t => ItemEnds r [] [] s t 0x0201) ∧ Answers (.clearFault r d v) s (fun t => ItemEnds r [] [] s t 0x0201))

/-! ### Supplies, power-up and resets -/

/-- The power states (after R282 to R287, R293, R294, R300). Valid VAUX in BACKUP begins a power-up or STANDBY as START_POLICY says, and a latched
wake begins one where WAKE_MASK enables it. VCORE in window takes the clamp away, gives every cluster device time and calibrated slices, takes the
straps where one of the power-ups since the last sampling was to sample them, and sets COLD_INHIBIT where the die reading lies below its limit
(after R254); with a valid firmware bank the management plane runs it with the debug port locked, and a profile may be armed, else the boot ROM
keeps the device; no configuration becomes active, and with no drawer staged the flash is as it was. A VCORE fault, a start that takes 20 ms, and
the loss of VAUX take VCORE away, and the third VCORE fault within 60 s is a lockout; a power-up begins again after 10 ms without EN_CORE; a loss of
continuity clears everything but flash. Outside its conditions each changes nothing, but for the note of where VAUX stands. -/
def Obligations.PowerUpsFaultsAndSwitchovers : Prop :=
  (∀ s : State, s.supply.power = .backup → s.reg supStartPolicy = 0 →
    Answers .vauxValid s (fun t => PowerUpBegins s t (if s.reg supPowerUpCount = 0 then 1 else 2) 0 ∧ t.supply.vauxValid = true ∧
      t.supply.vauxAbove = true)) ∧
  (∀ s : State, s.supply.power = .backup → s.reg supStartPolicy ≠ 0 →
    ((s.supply.pendWake = false ∨ bitOf (s.reg supWakeMask) 0 = false) → Answers .vauxValid s (fun t =>
      t = { s with supply := { s.supply with vauxAbove := true, vauxValid := true, power := .standby, pendWake := false } })) ∧
    (s.supply.pendWake = true → bitOf (s.reg supWakeMask) 0 = true → Answers .vauxValid s (fun t => PowerUpBegins s t 3 0))) ∧
  (∀ s : State, s.supply.power ≠ .backup → exec .vauxValid s = .next s) ∧
  (∀ (start : Start) (hw : Hw) (s : State), s.supply.power = .starting → s.supply.enCore = true → s.supply.vcore = false →
    Answers (.powerUp start hw) s (fun t => t.supply.power = .starting ∧ t.supply.vcore = true ∧ t.supply.clamp = false ∧ t.active = s.active ∧
      t.committed = s.committed ∧ (s.log.staged = [] → s.log.marker = none → t.flash = s.flash) ∧
      ((s.supply.strapsDue = true ∨ s.supply.psel < 4) → t.keys = s.keys) ∧ t.nv.journalRead = true ∧ t.supply.plwPending = false ∧
      (start.die < s.limColdInhibit → t.thermal.coldInhibit.inForce = true) ∧ (s.limColdInhibit ≤ start.die → t.thermal.coldInhibit = s.thermal.coldInhibit) ∧
      (s.supply.strapsDue = true → t.supply.devid = start.straps.devid ∧ t.supply.enPol = start.straps.enPol ∧ t.supply.psel = start.straps.psel) ∧
      (s.supply.strapsDue = false → t.supply.devid = s.supply.devid ∧ t.supply.enPol = s.supply.enPol ∧ t.supply.psel = s.supply.psel) ∧
      t.supply.strapsDue = false ∧
      (∀ n < 8, (t.cluster n).counter = s.now ∧ (t.cluster n).calibrated = 511) ∧
      ((((s.sampleStraps start.straps).vcoreUp).coldSets).bootChoice = none → t.mgmtDown = true ∧ t.sec.inRom = true) ∧
      (∀ b c, (((s.sampleStraps start.straps).vcoreUp).coldSets).bootChoice = some (b, c) → t.mgmtDown = false ∧ t.sec.running = b ∧
        t.sec.bootBank = b ∧ t.sec.unlocked = false ∧ t.sec.halted = false ∧
        (s.armed = none → t.armed = none ∨ ∃ (n : Nat) (ready : Bool), t.armed =
          some { kind := .powerUp n, tick := s.now + usTicks (t.reg profCommitLead), since := s.now, ready := ready })))) ∧
  (∀ (start : Start) (hw : Hw) (s : State), (s.supply.power ≠ .starting ∨ s.supply.enCore = false ∨ s.supply.vcore = true) →
    exec (.powerUp start hw) s = .next s) ∧
  (∀ s : State, s.supply.vcore = true → (s.supply.power = .starting ∨ s.supply.power = .active) →
    Answers .vcoreFault s (fun t => VcoreGone s t ∧ t.reg supVcoreFaultCount = sat16 (s.reg supVcoreFaultCount) ∧
      ((s.supply.faultTicks.filter (fun a => decide (s.now < a + 6000000000))).length < 2 → t.supply.power = .starting ∧
        t.supply.reason = 4 ∧ t.supply.recoverAt = some (s.now + 1000000)) ∧
      (2 ≤ (s.supply.faultTicks.filter (fun a => decide (s.now < a + 6000000000))).length → t.supply.power = .standby ∧
        t.supply.lockout = true ∧ t.supply.recoverAt = none))) ∧
  (∀ s : State, (s.supply.vcore = false ∨ s.supply.power = .backup ∨ s.supply.power = .standby) → exec .vcoreFault s = .next s) ∧
  (∀ s : State, s.supply.power = .starting → s.supply.enCore = true → s.supply.vcore = false →
    (s.supply.enCoreAt + 2000000 ≤ s.now → Answers .vcoreStartTimeout s (fun t => VcoreGone s t ∧
      t.reg supVcoreFaultCount = sat16 (s.reg supVcoreFaultCount))) ∧
    (s.now < s.supply.enCoreAt + 2000000 → exec .vcoreStartTimeout s = .next s)) ∧
  (∀ (a : Nat) (s : State), s.supply.recoverAt = some a →
    (a ≤ s.now → Answers .vcoreRecovery s (fun t => PowerUpBegins s t s.supply.reason 0)) ∧
    (s.now < a → exec .vcoreRecovery s = .next s)) ∧
  (∀ s : State, Answers (.supplySwitchover false) s (fun t => t = { s with supply := { s.supply with vauxAbove := true } })) ∧
  (∀ s : State, s.supply.power ≠ .backup → Answers (.supplySwitchover true) s (fun t => VcoreGone s t ∧ t.supply.power = .backup ∧
    t.supply.vauxAbove = false ∧ t.supply.vauxValid = false ∧ t.supply.plw = false ∧ t.supply.lockout = false)) ∧
  (∀ s : State, s.supply.power = .backup →
    Answers (.supplySwitchover true) s (fun t => t = { s with supply := { s.supply with vauxAbove := false } })) ∧
  (∀ s : State, s.supply.vauxAbove = false →
    Answers .continuityLoss s (fun t => t.pending = s.pending ∧ t.now = 0 ∧ t.timeFree = false ∧ t.active = [] ∧ t.committed = false ∧
      t.parts = [] ∧ t.ens = [] ∧ t.supply = {} ∧ t.retained = [] ∧ t.thermal = {} ∧ t.log.staged = [] ∧ t.flash = s.flash ∧
      t.granules = s.granules ∧ t.sectors = s.sectors ∧ (∀ k < 17, t.key k = (s.key k).coldStart) ∧
      ∀ k, t.reg k = (if inFlash k then s.reg k else dflt k))) ∧
  (∀ s : State, s.supply.vauxAbove = true → exec .continuityLoss s = .next s)

/-- The power-loss warning, its withdrawal, the retained copy and the management resets (after R35, R287 to R292, R296, Table 11-4). The warning is
counted, halts the erase in progress and makes a fresh retained copy with the energies of its tick; one that is withdrawn raises EV 0x52, drops the
snapshot, the records held since it are queued, and the erase goes on where nothing waits for its suspension (a change of the tariff table that fell
due in between is made then: the model's choice, log 29). VBKUP falling low or coming back raises EV 0x50. A pulse on MR_N of at least 1 µs, a
lockstep mismatch, a watchdog and the command reset the management plane, each with its code, and leave the configuration, the enables, the latches
and the partitions' states as they are; a pulse between 100 ns and 1 µs does so or not (the free value of log 3), a shorter one is ignored. The
power command takes VCORE away while every partition is DOWN and is refused else, and no role but OWNER may give either command. -/
def Obligations.WarningsCopiesAndManagementResets : Prop :=
  (∀ s : State, s.supply.power ≠ .backup → s.supply.plw = false →
    (s.supply.vcore = true → Answers .powerLossWarning s (fun t => Same [.ledger, .log, .nv, .regs, .retained, .supply] s t ∧
      RegsBut s t [supPlwCount, nvsSuspendCount] ∧ t.reg supPlwCount = sat16 (s.reg supPlwCount) ∧
      t.supply = { s.supply with
        plw := true, copyFresh := true, keptCls := s.keptClusters, keptFails := s.entries.map (fun e => (e.1, e.2.fails)) } ∧
      (∀ p < 16, tabGet dflt t.retained (ledsEnergyIn p) = (s.part p).totIn ∧ tabGet dflt t.retained (ledsEnergyOut p) = (s.part p).totOut) ∧
      (s.nv.erase ≠ none → t.nv.suspended = true) ∧
      (s.nv.erase = none → t.nv = s.nv) ∧ (s.ledger.running = false → t.ledger = s.ledger) ∧
      ∀ k, retainedKey k = true → k ≠ evNewestEseq → (∀ p < 16, k ≠ ledsEnergyIn p ∧ k ≠ ledsEnergyOut p) →
        tabGet dflt t.retained k = t.reg k)) ∧
    (s.supply.vcore = false → Answers .powerLossWarning s (fun t => Same [.regs, .supply] s t ∧ RegsBut s t [supPlwCount] ∧
      t.reg supPlwCount = sat16 (s.reg supPlwCount) ∧ t.supply = { s.supply with plw := true }))) ∧
  (∀ s : State, (s.supply.power = .backup ∨ s.supply.plw = true) → exec .powerLossWarning s = .next s) ∧
  (∀ s : State, s.supply.plw = true →
    (s.supply.vcore = false → Answers .warningWithdrawn s (fun t => t = { s with supply := { s.supply with plw := false } })) ∧
    (s.supply.vcore = true → Answers .warningWithdrawn s (fun t => Same [.events, .ledger, .nv, .parts, .regs, .streams, .supply] s t ∧
      t.supply = { s.supply with plw := false } ∧ t.ledger.snapshot = none ∧ (s.nv.erase = none → t.nv = s.nv) ∧
      (s.enters 9 → t.recorded 9 0x52 255 false [2]))) ∧
    (s.supply.vcore = true → (s.ledger.snapshot = none ∨ s.act ledScheduleEnable ≠ 1 ∨ s.supply.rtcValid = false) →
      s.ledger.queue.length + s.ledger.held.length ≤ 256 →
      Answers .warningWithdrawn s (fun t => Same [.events, .ledger, .nv, .regs, .supply] s t ∧ RegsBut s t [evEventsLost] ∧
      t.supply = { s.supply with plw := false } ∧
      t.ledger = { s.ledger with snapshot := none, held := [], queue := s.ledger.queue ++ s.ledger.held } ∧ (s.nv.erase = none → t.nv = s.nv) ∧
      (s.nv.erase ≠ none → s.nv.program = none → s.nvRuns = true → ({ s with supply := { s.supply with plw := false } }).suspendAsked = false →
        t.nv.suspended = false)))) ∧
  (∀ s : State, s.supply.plw = false → exec .warningWithdrawn s = .next s) ∧
  (∀ (low : Bool) (s : State), s.supply.bkupLow ≠ low → Answers (.bkupLow low) s (fun t => Same [.events, .regs, .supply] s t ∧
    t.supply = { s.supply with bkupLow := low } ∧ (s.enters 9 → t.recorded 9 0x50 255 (!low) [0x10]))) ∧
  (∀ s : State, exec (.bkupLow s.supply.bkupLow) s = .next s) ∧
  (∀ s : State, s.supply.vcore = true → Answers .retainedCopy s (fun t => Same [.retained, .supply] s t ∧
    t.supply = { s.supply with
      copyFresh := false, keptCls := s.keptClusters, keptFails := s.entries.map (fun e => (e.1, e.2.fails)) } ∧
    (∀ p < 16, (s.supply.plw = false → tabGet dflt t.retained (ledsEnergyIn p) = (s.part p).totIn ∧
        tabGet dflt t.retained (ledsEnergyOut p) = (s.part p).totOut) ∧
      (s.supply.plw = true → tabGet dflt t.retained (ledsEnergyIn p) = tabGet dflt s.retained (ledsEnergyIn p) ∧
        tabGet dflt t.retained (ledsEnergyOut p) = tabGet dflt s.retained (ledsEnergyOut p))) ∧
    ∀ k, retainedKey k = true → k ≠ evNewestEseq → (∀ p < 16, k ≠ ledsEnergyIn p ∧ k ≠ ledsEnergyOut p) →
      tabGet dflt t.retained k = s.reg k)) ∧
  (∀ s : State, s.supply.vcore = false → exec .retainedCopy s = .next s) ∧
  (∀ (lowNs : Nat) (s : State), s.supply.vcore = true →
    (1000 ≤ lowNs → Answers (.mrN lowNs) s (fun t => ManagementReset s t 2)) ∧
    (100 ≤ lowNs → lowNs < 1000 → Answers (.mrN lowNs) s (fun t => ManagementReset s t 2 ∨ t = { s with draws := s.draws + 1 }))) ∧
  (∀ (lowNs : Nat) (s : State), (s.supply.vcore = false ∨ lowNs < 100) → exec (.mrN lowNs) s = .next s) ∧
  (∀ s : State, s.supply.vcore = true →
    (s.mgmtDown = false → Answers .lockstepMismatch s (fun t => ManagementReset s t 3 ∧
      t.reg diagLockstepCount = sat16 (s.reg diagLockstepCount))) ∧
    (s.mgmtDown = true → exec .lockstepMismatch s = .next s) ∧
    ((s.mgmtDown = false ∨ s.sec.halted = true) → Answers .watchdog s (fun t => ManagementReset s t 4)) ∧
    (s.mgmtDown = true → s.sec.halted = false → exec .watchdog s = .next s)) ∧
  (∀ s : State, s.serves = true →
    Answers (.resetRequestMgmt .owner) s (fun t => ManagementReset s t 6 ∧ t.status = 0) ∧
    (s.allDown = true → Answers (.resetRequestPower .owner) s (fun t => VcoreGone s t ∧ t.status = 0 ∧ t.supply.power = .starting ∧
      t.supply.reason = 5 ∧ t.supply.recoverAt = some (s.now + 1000000))) ∧
    (s.allDown = false → Answers (.resetRequestPower .owner) s (fun t => ItemEnds .owner [] [] s t 0x0508))) ∧
  (∀ (r : Role) (s : State), s.hears r → r ≠ .owner →
    Answers (.resetRequestMgmt r) s (fun t => ItemEnds r [] [] s t 0x0201) ∧
    Answers (.resetRequestPower r) s (fun t => ItemEnds r [] [] s t 0x0201))

/-- The button, wake, sleep and the RTC (after R245, R295, R297 to R300, R312, R356). A press is classified by its length: a short one is latched in
BACKUP, wakes from STANDBY where WAKE_MASK enables it, and raises EV 0x57 in STARTING and ACTIVE; one too long for that is counted. A long press is
only counted in BACKUP and STANDBY; with VCORE it forces off every partition that is not DOWN, with cause 0x05, and with LP_ACTION 1 a power cycle
follows after 100 ms. An enabled alarm and a CAN wake of 50 µs begin a power-up in STANDBY, and do nothing else. SLEEP enters STANDBY while every
partition is DOWN, with an open write session of a shelf and the firmware update kept open, but for an enabled short press of the same tick, which
begins a power-up; it is refused else. A write of RTC sets it and RTC_VALID, and with no running interval does nothing else. No role but OWNER may
give SLEEP or write RTC. -/
def Obligations.ButtonWakeSleepAndClock : Prop :=
  (∀ (lowMs : Nat) (s : State),
    (s.supply.longDone = true → Answers (.pbRelease lowMs) s (fun t => t = { s with supply := { s.supply with longDone := false } })) ∧
    (s.supply.longDone = false →
      (lowMs < 20 → exec (.pbRelease lowMs) s = .next s) ∧
      (20 ≤ lowMs → lowMs ≤ 1000 →
        (s.supply.power = .backup → Answers (.pbRelease lowMs) s (fun t => t = { s with supply := { s.supply with pendWake := true } })) ∧
        (s.supply.power = .standby → bitOf (s.reg supWakeMask) 0 = true → Answers (.pbRelease lowMs) s (fun t => PowerUpBegins s t 3 0)) ∧
        (s.supply.power = .standby → bitOf (s.reg supWakeMask) 0 = false → exec (.pbRelease lowMs) s = .next s) ∧
        ((s.supply.power = .starting ∨ s.supply.power = .active) → Answers (.pbRelease lowMs) s (fun t => Same [.events, .regs, .supply] s t ∧
          RegsBut s t [evEventsLost] ∧ t.supply = { s.supply with pressAt := some s.now } ∧ (s.enters 9 → t.recorded 9 0x57 255 false [])))) ∧
      (1000 < lowMs → lowMs < s.reg supLongPress → Answers (.pbRelease lowMs) s (fun t => Same [.regs] s t ∧ RegsBut s t [supPbIgnored] ∧
        t.reg supPbIgnored = sat16 (s.reg supPbIgnored))) ∧
      (1000 < lowMs → s.reg supLongPress ≤ lowMs → exec (.pbRelease lowMs) s = .next s))) ∧
  (∀ s : State, (s.supply.power = .backup ∨ s.supply.power = .standby) → Answers .longPress s (fun t => Same [.regs, .supply] s t ∧
    RegsBut s t [supPbIgnored] ∧ t.reg supPbIgnored = sat16 (s.reg supPbIgnored) ∧ t.supply = { s.supply with longDone := true })) ∧
  (∀ s : State, (s.supply.power = .starting ∨ s.supply.power = .active) → s.supply.vcore = true → Answers .longPress s (fun t =>
    Same [.actions, .caps, .chans, .clusters, .drives, .ens, .entries, .events, .groups, .latches, .log, .parts, .ports, .regs, .safeN, .supply,
      .trims, .waitMaint] s t ∧
    t.supply = { s.supply with longDone := true,
                               lpCycleAt := if s.reg supLpAction = 1 then some (s.now + 10000000) else s.supply.lpCycleAt } ∧
    ∀ p < 16, ((s.part p).state ≠ .down → (s.part p).line = false → (t.part p).line = true ∧ (t.part p).state.isFaulted = true ∧
        t.reg (shutsLastCause p) = 5) ∧
      ((s.part p).state = .down → (t.part p).state = .down ∧ (t.part p).line = (s.part p).line))) ∧
  (∀ s : State, (s.supply.power = .starting ∨ s.supply.power = .active) → s.supply.vcore = false → Answers .longPress s (fun t =>
    Same [.events, .log, .regs, .supply] s t ∧ t.supply = { s.supply with
      longDone := true, liveParts := [], lpCycleAt := if s.reg supLpAction = 1 then some (s.now + 10000000) else s.supply.lpCycleAt })) ∧
  (∀ s : State, s.supply.lpCycleAt = none → exec .lpPowerCycle s = .next s) ∧
  (∀ (a : Nat) (s : State), s.supply.lpCycleAt = some a →
    (a ≤ s.now → Answers .lpPowerCycle s (fun t => VcoreGone s t ∧ t.supply.power = .starting ∧ t.supply.reason = 5 ∧
      t.supply.recoverAt = some (s.now + 1000000))) ∧
    (s.now < a → exec .lpPowerCycle s = .next s)) ∧
  (∀ s : State, s.supply.power = .standby → s.supply.rtcValid = true → s.reg supRtcAlarm ≠ 0 → s.supply.rtc = s.reg supRtcAlarm →
    bitOf (s.reg supWakeMask) 2 = true → Answers .rtcAlarm s (fun t => PowerUpBegins s t 3 2)) ∧
  (∀ s : State, (s.supply.power ≠ .standby ∨ s.supply.rtcValid = false ∨ s.reg supRtcAlarm = 0 ∨ s.supply.rtc ≠ s.reg supRtcAlarm ∨
    bitOf (s.reg supWakeMask) 2 = false) → exec .rtcAlarm s = .next s) ∧
  (∀ (highUs : Nat) (s : State), 50 ≤ highUs → s.supply.power = .standby → bitOf (s.reg supWakeMask) 1 = true →
    Answers (.canWake highUs) s (fun t => PowerUpBegins s t 3 1)) ∧
  (∀ (highUs : Nat) (s : State), (highUs < 50 ∨ s.supply.power ≠ .standby ∨ bitOf (s.reg supWakeMask) 1 = false) →
    exec (.canWake highUs) s = .next s) ∧
  (∀ s : State, s.serves = true →
    (s.allDown = true → bitOf (s.reg supWakeMask) 0 = true → s.supply.pressAt = some s.now → Answers (.sleep .owner 1) s (fun t =>
      t.supply.power = .starting ∧ t.supply.reason = 3 ∧ t.supply.vcore = false ∧ t.active = [] ∧ t.committed = false ∧ t.status = 0)) ∧
    (s.allDown = true → (s.supply.pressAt ≠ some s.now ∨ bitOf (s.reg supWakeMask) 0 = false) → Answers (.sleep .owner 1) s (fun t =>
      t.supply.power = .standby ∧ t.supply.vcore = false ∧ t.supply.clamp = true ∧
      t.supply.copyFresh = true ∧ t.active = [] ∧ t.committed = false ∧ t.mgmtDown = true ∧ t.status = 0 ∧ t.nv.queue = [] ∧
      (s.nextDrawer = none → s.nv.program = none → VcoreGone s t ∧ t.nv.shelfw = s.nv.shelfw ∧ t.reg fwFwState = s.reg fwFwState ∧
        t.reg fwFwOffset = s.reg fwFwOffset))) ∧
    (s.allDown = false → Answers (.sleep .owner 1) s (fun t => ItemEnds .owner [] [] s t 0x0508)) ∧
    (∀ v : Byte, v ≠ 1 → Answers (.sleep .owner v) s (fun t => ItemEnds .owner [] [] s t 0x0301))) ∧
  (∀ (v : BitVec 32) (s : State), s.serves = true → Answers (.rtc .owner v) s (fun t =>
    Same [.ledger, .parts, .regs, .reply, .status, .supply] s t ∧ t.status = 0 ∧
    t.supply = { s.supply with rtc := v.toNat, rtcFrac := 0, rtcValid := true } ∧
    (s.ledger.running = false → ItemEnds .owner [.supply] [] s t 0))) ∧
  (∀ (r : Role) (v : Byte) (x : BitVec 32) (s : State), s.hears r → r ≠ .owner →
    Answers (.sleep r v) s (fun t => ItemEnds r [] [] s t 0x0201) ∧ Answers (.rtc r x) s (fun t => ItemEnds r [] [] s t 0x0201))

/-! ### Security -/

/-- The boot ROM, keys, the debug port, attestation and the rollback counter (after R447 to R461). The cryptographic functions and the random bytes
are the configuration's constants without a body (log 4, log 5), so a statement holds whatever they give. Every 10 s the boot ROM looks for a valid
bank: it runs it, after a management reset with EV 0x51 and with the profile of a power-up commit that was abandoned in it, after a power-up with
its profile (log 19), or waits on. OWNER_INIT and KEY_LOAD refuse by state, count, version and encoding, and load a key that unwraps, with EV 0x63
or 0x62; a loaded key closes its sessions. A challenge is random; a response is refused while a partition is not DOWN, a wrong one voids the
challenge, a right one erases the partition keys, closes their sessions and unlocks the port with EV 0x64; DEBUG_LOCK locks it. A locked port only
identifies the device, an open one halts, resumes and inspects the management island. An attestation is read as a drawer is and its tag is formed
with the requester's key. The rollback counter takes the running image's value, with its revocations but for its own slot, and FW_OTHER is 0 once
the other image is not valid. Roles without the right, lengths and values that do not fit are refused with their codes. -/
def Obligations.BootKeysDebugAttestAndRollback : Prop :=
  (∀ (hw : Hw) (s : State), s.sec.inRom = true → s.supply.vcore = true → s.sec.romAt + 1000000000 ≤ s.now →
    (s.bootChoice = none → Answers (.bootRetry hw) s (fun t => t = { s with mgmtDown := true, sec := { s.sec with inRom := true, romAt := s.now } })) ∧
    (∀ b c, s.bootChoice = some (b, c) → Answers (.bootRetry hw) s (fun t => t.mgmtDown = false ∧ t.sec.running = b ∧ t.sec.bootBank = b ∧
      t.sec.inRom = false ∧ t.active = s.active ∧ t.committed = s.committed ∧ t.ens = s.ens ∧
      (∀ p, (t.part p).state = (s.part p).state ∧ (t.part p).line = (s.part p).line) ∧
      (s.sec.romUp = false → t.recorded 10 0x51 255 false [BitVec.ofNat 8 (s.reg supLastMgmtReset)] ∧
        (s.supply.loadNext = none → t.armed = s.armed)) ∧
      (s.sec.romUp = true ∨ s.supply.loadNext ≠ none → t.armed = s.armed ∨ ∃ (n : Nat) (ready : Bool), t.armed =
        some { kind := .powerUp n, tick := s.now + usTicks (t.reg profCommitLead), since := s.now, ready := ready })))) ∧
  (∀ (hw : Hw) (s : State), (s.sec.inRom = false ∨ s.supply.vcore = false ∨ s.now < s.sec.romAt + 1000000000) →
    exec (.bootRetry hw) s = .next s) ∧
  (∀ (r : Role) (val : Bytes) (s : State), s.hears r → (r = .owner ∨ r = .service) → val.length = 28 →
    (s.reg secOwnerState = 1 → Answers (.ownerInit r val) s (fun t => ItemEnds r [] [] s t 0x0506)) ∧
    (s.reg secOwnerState ≠ 1 → 16 ≤ s.sec.initFails → Answers (.ownerInit r val) s (fun t => ItemEnds r [] [] s t 0x0402)) ∧
    (s.reg secOwnerState ≠ 1 → s.sec.initFails < 16 → leNat (val.take 4) = 0 →
      Answers (.ownerInit r val) s (fun t => ItemEnds r [] [] s t 0x0301)) ∧
    (s.reg secOwnerState ≠ 1 → s.sec.initFails < 16 → leNat (val.take 4) ≠ 0 → Answers (.ownerInit r val) s (fun t =>
      match Config.unwrap transportKey (val.drop 4) with
      | none => ItemEnds r [.sec] [] s t 0x0202 ∧ t.sec = { s.sec with initFails := s.sec.initFails + 1 }
      | some key => Same [.events, .keys, .regs, .reply, .status] s t ∧ t.status = 0 ∧ t.key 16 = { key := some key } ∧
          AllBut s.key t.key [16] ∧ t.reg (keyKeyVersion 16) = leNat (val.take 4) ∧ t.reg secOwnerState = 1 ∧
          t.recorded 10 0x63 255 false (leBytes 4 (leNat (val.take 4)))))) ∧
  (∀ (r : Role) (val : Bytes) (s : State), s.hears r →
    (r ≠ .owner → r ≠ .service → Answers (.ownerInit r val) s (fun t => ItemEnds r [] [] s t 0x0201)) ∧
    ((r = .owner ∨ r = .service) → val.length ≠ 28 → Answers (.ownerInit r val) s (fun t => ItemEnds r [] [] s t 0x0305)) ∧
    (r ≠ .owner → Answers (.keyLoad r val) s (fun t => ItemEnds r [] [] s t 0x0201) ∧
      Answers (.debugChallenge r) s (fun t => ItemEnds r [] [] s t 0x0201) ∧
      Answers (.debugResponse r val) s (fun t => ItemEnds r [] [] s t 0x0201) ∧
      ∀ v : Byte, Answers (.debugLock r v) s (fun t => ItemEnds r [] [] s t 0x0201)) ∧
    (r = .owner → val.length ≠ 32 → Answers (.keyLoad r val) s (fun t => ItemEnds r [] [] s t 0x0305)) ∧
    (r = .owner → val.length = 32 → keyLoadFits val = false → Answers (.keyLoad r val) s (fun t => ItemEnds r [] [] s t 0x0301)) ∧
    (r = .owner → val.length ≠ 16 → Answers (.debugResponse r val) s (fun t => ItemEnds r [] [] s t 0x0305))) ∧
  (∀ (val : Bytes) (s : State), s.serves = true → val.length = 32 → keyLoadFits val = true →
    (klVersion val ≤ s.reg (keyKeyVersion (klId val)) → Answers (.keyLoad .owner val) s (fun t => ItemEnds .owner [] [] s t 0x0301)) ∧
    (s.reg (keyKeyVersion 16) < klVersion val → klId val = 16 → s.sealOrSwitch = true →
      Answers (.keyLoad .owner val) s (fun t => ItemEnds .owner [] [] s t 0x0401)) ∧
    (s.reg (keyKeyVersion (klId val)) < klVersion val → (klId val ≠ 16 ∨ s.sealOrSwitch = false) → Answers (.keyLoad .owner val) s (fun t =>
      match (s.ownerKdf "KEYLOAD").bind (fun k => Config.unwrap k (val.drop 8)) with
      | none => ItemEnds .owner [] [] s t 0x0202
      | some key => Same [.events, .keys, .regs, .reply, .sessions, .status] s t ∧ t.status = 0 ∧
          t.key (klId val) = { key := some key } ∧ AllBut s.key t.key [klId val] ∧ t.reg (keyKeyVersion (klId val)) = klVersion val ∧
          t.reg secKeyLoads = sat16 (s.reg secKeyLoads) ∧ (∀ e ∈ t.sessions, e.2.keyId ≠ klId val) ∧
          t.recorded 10 0x62 255 false (BitVec.ofNat 8 (klId val) :: leBytes 4 (klVersion val))))) ∧
  (∀ s : State, s.serves = true → Answers (.debugChallenge .owner) s (fun t => ItemEnds .owner [.sec] [] s t 0 ∧
    t.sec = { s.sec with draws := s.sec.draws + 1, challenge := some (Config.randomBytes s.sec.draws, s.now) } ∧
    t.reply = leBytes 16 (Config.randomBytes s.sec.draws).toNat)) ∧
  (∀ (val : Bytes) (s : State), s.serves = true → val.length = 16 →
    ((∃ p < 16, (s.part p).state ≠ .down) → Answers (.debugResponse .owner val) s (fun t => ItemEnds .owner [] [] s t 0x0508)) ∧
    ((∀ p < 16, (s.part p).state = .down) → Answers (.debugResponse .owner val) s (fun t =>
      match s.responseOk val with
      | false => ItemEnds .owner [.sec] [] s t 0x0202 ∧ t.sec = { s.sec with challenge := none }
      | true => Same [.events, .keys, .log, .regs, .reply, .sec, .sessions, .status] s t ∧ t.status = 0 ∧
          t.sec = { s.sec with challenge := none, unlocked := true } ∧ (∀ k < 16, (t.key k).key = none) ∧ t.key 16 = s.key 16 ∧
          (∀ e ∈ t.sessions, 16 ≤ e.2.keyId) ∧ t.reg secDebugUnlocks = sat16 (s.reg secDebugUnlocks) ∧
          t.recorded 10 0x64 255 false []))) ∧
  (∀ s : State, s.serves = true → s.sec.halted = false →
    Answers (.debugLock .owner 1) s (fun t => Same [.events, .regs, .reply, .sec, .status] s t ∧ t.status = 0 ∧
      t.sec = { s.sec with unlocked := false } ∧ (s.sec.unlocked = true → t.recorded 10 0x65 255 false [1]) ∧
      (s.sec.unlocked = false → ItemEnds .owner [.sec] [] s t 0)) ∧
    ∀ v : Byte, v ≠ 1 → Answers (.debugLock .owner v) s (fun t => ItemEnds .owner [] [] s t 0x0301)) ∧
  (∀ s : State, s.supply.vcore = true →
    Answers (.debugPortRequest .identify) s (fun t => Same [.draws, .reply] s t ∧ t.reply.length = 8) ∧
    (s.sec.unlocked = true → s.mgmtDown = false → Answers (.debugPortRequest .halt) s (fun t =>
      t = { s with mgmtDown := true, host := { s.host with out := [] }, sec := { s.sec with halted := true },
                   supply := { s.supply with mgmtDownAt := s.now } })) ∧
    (s.sec.unlocked = true → s.mgmtDown = true → exec (.debugPortRequest .halt) s = .next s) ∧
    (s.sec.unlocked = true → s.sec.halted = true → Answers (.debugPortRequest .resume) s (fun t =>
      Same [.events, .later, .mgmtDown, .regs, .sec] s t ∧ t.mgmtDown = false ∧ t.sec = { s.sec with halted := false })) ∧
    (s.sec.unlocked = true → s.sec.halted = false → exec (.debugPortRequest .resume) s = .next s) ∧
    (∀ a, s.sec.unlocked = true → Answers (.debugPortRequest (.inspect a)) s (fun t => Same [.draws, .reply] s t ∧ t.reply.length = 8)) ∧
    (s.sec.unlocked = false → exec (.debugPortRequest .halt) s = .next s ∧ exec (.debugPortRequest .resume) s = .next s ∧
      ∀ a, exec (.debugPortRequest (.inspect a)) s = .next s)) ∧
  (∀ (q : DebugReq) (s : State), s.supply.vcore = false → exec (.debugPortRequest q) s = .next s) ∧
  (∀ (r : Role) (k : Nat) (val : Bytes) (sense : Sense) (s : State), s.hears r → (r = .owner ∨ ∃ p, r = .partition p) → val.length = 10 →
    leNat (val.take 2) < 512 →
    (s.mayReadDrawer r (leNat (val.take 2)) = false → Answers (.attestRequest r k val sense) s (fun t => ItemEnds r [] [] s t 0x0201)) ∧
    (s.mayReadDrawer r (leNat (val.take 2)) = true → s.nvBad = true →
      Answers (.attestRequest r k val sense) s (fun t => ItemEnds r [] [] s t 0x0702)) ∧
    (s.mayReadDrawer r (leNat (val.take 2)) = true → s.nvBad = false → Answers (.attestRequest r k val sense) s (fun t =>
      Same [.draws, .events, .granules, .log, .regs, .reply, .sec, .sectors, .sessions, .status] s t ∧
      t.log = { s.log with readStat := t.log.readStat } ∧ (t.status = 0 ∨ t.status = 0x0201))) ∧
    (s.mayReadDrawer r (leNat (val.take 2)) = true → s.nvBad = false → sense.uncorrectable = [] → Answers (.attestRequest r k val sense) s (fun t =>
      Same [.draws, .events, .granules, .log, .regs, .reply, .sectors, .sessions, .status] s t ∧ t.status = 0 ∧
      t.log = { s.log with readStat := t.log.readStat } ∧
      tabFind t.log.readStat (leNat (val.take 2)) = some (resultWord sense (s.drawerStatus (leNat (val.take 2)))) ∧
      ∀ x, s.session k = some x → ∃ y, t.session k = some y ∧
        tabFind y.drawStat (leNat (val.take 2)) = some (resultWord sense (s.drawerStatus (leNat (val.take 2)))) ∧
        ∀ key, (s.key (roleKey r)).key = some key → y.attTag = leBytes 8 (tag64 key (s.readBytes (slotAddr (leNat (val.take 2))) 128 ++
          leBytes 4 (resultWord sense (s.drawerStatus (leNat (val.take 2)))) ++ val.drop 2 ++ leBytes 8 Config.serial.toNat ++
          [BitVec.ofNat 8 s.supply.devid]))))) ∧
  (∀ (r : Role) (k : Nat) (val : Bytes) (sense : Sense) (s : State), s.hears r →
    (r ≠ .owner → (∀ p, r ≠ .partition p) → Answers (.attestRequest r k val sense) s (fun t => ItemEnds r [] [] s t 0x0201)) ∧
    ((r = .owner ∨ ∃ p, r = .partition p) → val.length ≠ 10 → Answers (.attestRequest r k val sense) s (fun t => ItemEnds r [] [] s t 0x0305)) ∧
    ((r = .owner ∨ ∃ p, r = .partition p) → val.length = 10 → 512 ≤ leNat (val.take 2) →
      Answers (.attestRequest r k val sense) s (fun t => ItemEnds r [] [] s t 0x0301))) ∧
  (∀ s : State, s.supply.vcore = true → s.mgmtDown = false → (s.committed = true ∨ s.reg supLastMgmtReset ≠ 1) →
    s.reg secRollbackCount < s.imgRollback s.sec.running →
    Answers .rollbackAdvance s (fun t => Same [.regs] s t ∧ RegsBut s t [secRollbackCount, secRevoked, identFwOther] ∧
      (t.imageCheck t.otherBank = 0 → t.reg identFwOther = s.reg identFwOther) ∧ (t.imageCheck t.otherBank ≠ 0 → t.reg identFwOther = 0) ∧
      t.reg secRollbackCount = s.imgRollback s.sec.running ∧
      ∀ k < 4, bitOf (t.reg secRevoked) k = (bitOf (s.reg secRevoked) k ||
        (bitOf (s.imgRevoke s.sec.running) k && k != s.imgSlot s.sec.running)))) ∧
  (∀ s : State, (s.supply.vcore = false ∨ s.mgmtDown = true ∨ (s.committed = false ∧ s.reg supLastMgmtReset = 1) ∨
    s.imgRollback s.sec.running ≤ s.reg secRollbackCount) → exec .rollbackAdvance s = .next s)

/-! ### Profiles -/

/-- Shelves (after R303, R304, R309, R310). A write session erases a shelf that is neither active nor the target of a switch, writes whole blocks at
an offset, no granule twice, and seals it with its verified STATUS; each is refused with its code where another session writes, no shelf or the
wrong one is named, an operation is in progress, a sector has failed, a page is sealed or flash stops. A switch is staged, checked and armed with
its tick, or refused with its code in LAST_COMMIT_STATUS and EV 0x55; a shelf number above 3 is refused with STATUS 0xFF in it (the model's choice,
log 24). The pins of PSEL, once stable, are noted, and judged at once where they are followed and no switch is in progress: they clear PSEL_REFUSED
where they name the active shelf, and ask for a switch where they name another than the accepted one; a request that is refused is kept, to be tried
again. -/
def Obligations.ShelvesAreWrittenSealedAndSwitched : Prop :=
  (∀ (k n : Nat) (s : State), s.serves = true → n = s.reg shelfwTargetShelf →
    (s.shelfwOther k = true → Answers (.shelfErase .owner k) s (fun t => ItemEnds .owner [] [] s t 0x0401)) ∧
    (s.shelfwOther k = false → 4 ≤ n → Answers (.shelfErase .owner k) s (fun t => ItemEnds .owner [] [] s t 0x0506)) ∧
    (s.shelfwOther k = false → n < 4 → s.shelfBarred n = true →
      Answers (.shelfErase .owner k) s (fun t => ItemEnds .owner [] [] s t 0x0509)) ∧
    (s.shelfwOther k = false → n < 4 → s.shelfBarred n = false → s.nvStops = false → Answers (.shelfErase .owner k) s (fun t =>
      ItemEnds .owner [.nv] [shelfStatus n] s t 2 ∧ t.reg (shelfStatus n) = 8 ∧ t.nv = { s.nv with
        shelfw := some (s.who k, n),
        queue := s.nv.queue.filter (fun o => decide (o.why ≠ NvWhy.shelf)) ++
          [{ why := .shelf, erase := true, addr := shelfBase n, data := [], count := 128 }] })) ∧
    (s.shelfwOther k = false → n < 4 → s.shelfBarred n = false → s.nvStops = true →
      (s.nvBad = true → Answers (.shelfErase .owner k) s (fun t => ItemEnds .owner [] [] s t 0x0702)) ∧
      (s.nvBad = false → Answers (.shelfErase .owner k) s (fun t => ItemEnds .owner [] [nvsInhibitRefused] s t 0x0601 ∧
        t.reg nvsInhibitRefused = sat16 (s.reg nvsInhibitRefused))))) ∧
  (∀ (r : Role) (k : Nat) (data : Bytes) (sense : Sense) (s : State), s.hears r → r ≠ .owner →
    Answers (.shelfErase r k) s (fun t => ItemEnds r [] [] s t 0x0201) ∧ Answers (.shelfData r k data) s (fun t => ItemEnds r [] [] s t 0x0201) ∧
    Answers (.shelfSeal r k sense) s (fun t => ItemEnds r [] [] s t 0x0201)) ∧
  (∀ (k : Nat) (data : Bytes) (s : State), s.serves = true →
    ((data.length < 16 ∨ 256 < data.length) → Answers (.shelfData .owner k data) s (fun t => ItemEnds .owner [] [] s t 0x0305)) ∧
    (16 ≤ data.length → data.length ≤ 256 → data.length % 16 ≠ 0 →
      Answers (.shelfData .owner k data) s (fun t => ItemEnds .owner [] [] s t 0x0301))) ∧
  (∀ (k : Nat) (data : Bytes) (s : State), s.serves = true → 16 ≤ data.length → data.length ≤ 256 → data.length % 16 = 0 →
    s.shelfwOther k = true → Answers (.shelfData .owner k data) s (fun t => ItemEnds .owner [] [] s t 0x0401)) ∧
  (∀ (k : Nat) (sense : Sense) (s : State), s.serves = true → s.shelfwOther k = true →
    Answers (.shelfSeal .owner k sense) s (fun t => ItemEnds .owner [] [] s t 0x0401)) ∧
  (∀ (k n off : Nat) (data : Bytes) (s : State), s.serves = true → n = s.reg shelfwTargetShelf → off = s.reg shelfwOffset →
    16 ≤ data.length → data.length ≤ 256 → data.length % 16 = 0 → s.shelfwOther k = false →
    ((4 ≤ n ∨ s.shelfOpen n = false) → Answers (.shelfData .owner k data) s (fun t => ItemEnds .owner [] [] s t 0x0506)) ∧
    (n < 4 → s.shelfOpen n = true →
      (s.shelfWork true = true → Answers (.shelfData .owner k data) s (fun t => ItemEnds .owner [] [] s t 0x0401)) ∧
      (s.shelfWork true = false → 0x80000 < off + data.length →
        Answers (.shelfData .owner k data) s (fun t => ItemEnds .owner [] [] s t 0x0301)) ∧
      (s.shelfWork true = false → off + data.length ≤ 0x80000 → s.blockFailed (shelfBase n + off) data.length = true →
        Answers (.shelfData .owner k data) s (fun t => ItemEnds .owner [] [] s t 0x0703)) ∧
      (s.shelfWork true = false → off + data.length ≤ 0x80000 → s.blockFailed (shelfBase n + off) data.length = false →
        (∃ g ∈ granulesOf (shelfBase n + off) data.length, (s.granule g).intent = true ∨ s.granuleAsked g = true) →
        Answers (.shelfData .owner k data) s (fun t => ItemEnds .owner [] [] s t 0x0301)) ∧
      (s.shelfWork true = false → off + data.length ≤ 0x80000 → s.blockFailed (shelfBase n + off) data.length = false →
        (∀ g ∈ granulesOf (shelfBase n + off) data.length, (s.granule g).intent = false ∧ s.granuleAsked g = false) →
        (s.blockSealed (shelfBase n + off) data.length = true →
          Answers (.shelfData .owner k data) s (fun t => ItemEnds .owner [] [] s t 0x0605)) ∧
        (s.blockSealed (shelfBase n + off) data.length = false → s.nvBad = true →
          Answers (.shelfData .owner k data) s (fun t => ItemEnds .owner [] [] s t 0x0702)) ∧
        (s.blockSealed (shelfBase n + off) data.length = false → s.nvBad = false → s.nvInhibited = true →
          Answers (.shelfData .owner k data) s (fun t => ItemEnds .owner [] [nvsInhibitRefused] s t 0x0601)) ∧
        (s.blockSealed (shelfBase n + off) data.length = false → s.nvStops = false →
          Answers (.shelfData .owner k data) s (fun t => ItemEnds .owner [.nv] [] s t 2 ∧ ∃ l : List NvOp,
            t.nv = { s.nv with queue := s.nv.queue ++ l } ∧ (l.map (fun o => o.data)).flatten = data ∧
            (∀ o ∈ l, o.why = .shelf ∧ o.erase = false ∧ o.addr % 256 + o.data.length ≤ 256) ∧
            l.head?.map (fun o => o.addr) = some (shelfBase n + off)))))) ∧
  (∀ (k n : Nat) (sense : Sense) (s : State), s.serves = true → n = s.reg shelfwTargetShelf → s.shelfwOther k = false →
    ((4 ≤ n ∨ s.shelfOpen n = false) → Answers (.shelfSeal .owner k sense) s (fun t => ItemEnds .owner [] [] s t 0x0506)) ∧
    (n < 4 → s.shelfOpen n = true → (s.shelfWork true = true ∨ s.shelfWork false = true) →
      Answers (.shelfSeal .owner k sense) s (fun t => ItemEnds .owner [] [] s t 0x0401)) ∧
    (n < 4 → s.shelfOpen n = true → s.shelfWork true = false → s.shelfWork false = false →
      Answers (.shelfSeal .owner k sense) s (fun t => Same [.events, .granules, .nv, .regs, .reply, .sec, .sectors, .status] s t ∧
        t.nv = { s.nv with shelfw := none } ∧ (t.reg (shelfStatus n) = 1 → t.status = 0) ∧ (t.reg (shelfStatus n) ≠ 1 → t.status = 0x050A))) ∧
    (n < 4 → s.shelfOpen n = true → s.shelfWork true = false → s.shelfWork false = false → sense.uncorrectable = [] →
      Answers (.shelfSeal .owner k sense) s (fun t => Same [.events, .granules, .nv, .regs, .reply, .sectors, .status] s t ∧
        t.nv = { s.nv with shelfw := none } ∧ t.reg (shelfStatus n) = s.shelfCheck n ∧
        (s.shelfCheck n = 1 → t.status = 0) ∧ (s.shelfCheck n ≠ 1 → t.status = 0x050A)))) ∧
  (∀ (v : Byte) (hw : Hw) (s : State), s.serves = true →
    (4 ≤ v.toNat → ∃ u : State, exec (.switch .owner v hw) s = .next (u.deliver hw) ∧
      ItemEnds .owner [.events] [profLastCommitStatus, evEventsLost] s u 0x0301 ∧ u.reg profLastCommitStatus = 0x0301 ∧
      u.recorded 10 0x55 255 false ([BitVec.ofNat 8 v.toNat] ++ two 0x0301 ++ [255])) ∧
    (v.toNat < 4 → s.switchCheck v.toNat ≠ 0 → ∃ u : State, exec (.switch .owner v hw) s = .next (u.deliver hw) ∧
      Same [.events, .regs, .reply, .status] s u ∧ u.status = s.switchCheck v.toNat ∧
      u.reg profLastCommitStatus = s.switchCheck v.toNat ∧
      u.recorded 10 0x55 255 false ([BitVec.ofNat 8 v.toNat] ++ two (s.switchCheck v.toNat) ++ [BitVec.ofNat 8 (s.reg (shelfStatus v.toNat))])) ∧
    (v.toNat < 4 → s.switchCheck v.toNat = 0 → ∃ u : State, exec (.switch .owner v hw) s = .next (u.deliver hw) ∧
      u.active = s.active ∧ u.committed = s.committed ∧ u.parts = s.parts ∧ u.chans = s.chans ∧ u.ens = s.ens ∧
      (u.armed = none ∧ u.reg profLastCommitStatus = u.status ∨
        u.armed = some { kind := .switch v.toNat false, tick := s.now + usTicks (s.reg profCommitLead), since := s.now,
                         ready := s.participantsReady } ∧
        u.status = 2 ∧ u.switchSt = 4 ∧ u.shadow = u.shelfBank v.toNat ∧
        (u.reg (shelfStatus v.toNat) = 1 ∨ u.reg (shelfStatus v.toNat) = 7)))) ∧
  (∀ (r : Role) (v : Byte) (hw : Hw) (s : State), s.hears r → r ≠ .owner →
    ∃ u : State, exec (.switch r v hw) s = .next (u.deliver hw) ∧ ItemEnds r [] [] s u 0x0201) ∧
  (∀ (v : Fin 4) (hw : Hw) (s : State), s.supply.vcore = true →
    (s.mgmtDown = true ∨ s.committed = false ∨ s.act profPinFollow ≠ 1 ∨ s.switching = true) →
    Answers (.pselChange v hw) s (fun t => t = { s with supply := { s.supply with pselNow := v, pselDue := true } })) ∧
  (∀ (v : Fin 4) (hw : Hw) (s : State), s.supply.vcore = true → s.mgmtDown = false → s.committed = true → s.act profPinFollow = 1 → s.switching = false →
    (v.val = s.supply.psel → Answers (.pselChange v hw) s (fun t => Same [.regs, .supply] s t ∧ RegsBut s t [profPselRefused] ∧
      (v.val = s.reg profActiveShelf → t.reg profPselRefused = 0) ∧ (v.val ≠ s.reg profActiveShelf → t.regs = s.regs) ∧
      t.supply = { s.supply with pselNow := v, pselDue := false, pselAsk := none })) ∧
    (v.val ≠ s.supply.psel → ∃ u : State, exec (.pselChange v hw) s = .next { u.deliver hw with status := s.status } ∧
      u.active = s.active ∧ u.supply.pselNow = v ∧ u.supply.pselDue = false ∧
      (u.supply.psel = v ∧ u.status = 2 ∧ u.supply.pselAsk = none ∧
          u.armed = some { kind := .switch v true, tick := s.now + usTicks (s.reg profCommitLead), since := s.now, ready := s.participantsReady } ∨
        u.armed = s.armed ∧ u.reg profLastCommitStatus = u.status ∧
          (u.status ≠ 2 → u.supply.psel = s.supply.psel ∧ u.reg profPselRefused = 1 ∧ ∃ l, u.supply.pselAsk = some (v.val, l))))) ∧
  (∀ (v : Fin 4) (hw : Hw) (s : State), s.supply.vcore = false → exec (.pselChange v hw) s = .next s)

/-! ### Two-wire ports -/

/-- The power-stage ports (after R231, R387 to R395): partitions take turns, none while SDA is low; a turn of a paged entry begins with its PAGE
write, VOUT_MODE is read before the first transaction of an entry that is no shut-off command, a trim loop's value is the commanded one from its own
transaction on, and a transaction ends with its result code: an action's outcome, a loop's state, up to two more tries of a shut-off command and
then EV 0x7A, a neighbour's reading; a failed read of VOUT_MODE takes no shut-off command with it. A stretch, a stuck line and a bus error end it
with codes 4, 5 and 5 and EV 0x78; a released SCL and high lines bring the port back; on PEER a stuck line is EV 0x7B only. An alert is answered on
an idle bus: it is counted, its reads are turns of P0, and the one entry at the address that answers has its result and, read well, its word in EV
0x79. A port that does not run, is busy, recovering or stuck takes no turn and answers no alert. -/
def Obligations.PowerStagePortsTakeTurnsAndReport : Prop :=
  (∀ (n : Fin 8) (p g : Nat) (x : PsTx) (s : State), s.portRuns n = true → (s.port n).busy = none → (s.port n).recovering = false →
    (s.port n).stuck = false → (s.port n).sdaLow = false → (∀ y ∈ (s.port n).queue, s.modeBad y.entry = false ∧ s.txLive y = true) →
    (s.port n).nextPart = some p → (s.port n).queue.find? (fun y => y.part == p) = some x → g = tgtPage (s.act (tgtEntry x.entry)) →
    Answers (.psTurn n) s (fun t => Same [.draws, .entries, .ports, .regs] s t ∧ RegsBut s t [pssTurns n] ∧
      AllBut s.entry t.entry [x.entry] ∧
      ((∀ c, x.why ≠ .loop c) ∨ (s.entry x.entry).modeRead = false ∨ g ≠ 0xFF → t.entry x.entry = s.entry x.entry) ∧
      (∀ c, x.why = .loop c → (s.entry x.entry).modeRead = true → g = 0xFF →
        t.entry x.entry = { s.entry x.entry with commanded := some x.data, sentAt := some s.now }) ∧
      t.reg (pssTurns n) = wrap32 (s.reg (pssTurns n)) ∧ AllBut s.port t.port [n.val] ∧ (t.port n).lastPart = p ∧
      (g ≠ 0xFF → ∃ b, t.psBus n = some b ∧ b.take 3 = [BitVec.ofNat 8 (2 * field (s.act (tgtEntry x.entry)) 13 7), 0, BitVec.ofNat 8 g]) ∧
      ((s.entry x.entry).modeRead = false → (∀ k, x.why ≠ .shutoff k) →
        t.port n = { s.port n with
          lastPart := p, busy := some { x with cmd := 0x20, data := 0, why := .mode, page := g, paging := g != 0xFF } }) ∧
      (((s.entry x.entry).modeRead = true ∨ ∃ k, x.why = .shutoff k) → (t.port n).queue = dropFirst p (s.port n).queue ∧
        ∃ d, (t.port n).busy = some { x with data := d, page := g, paging := g != 0xFF } ∧ ((∀ c, x.why ≠ .loop c) → d = x.data) ∧
          (∀ c, x.why = .loop c → voutWord (s.entry x.entry).voutMode x.data < 65536 → d = voutWord (s.entry x.entry).voutMode x.data)))) ∧
  (∀ (n : Fin 8) (s : State), s.portRuns n = true → (s.port n).busy = none → (s.port n).recovering = false → (s.port n).stuck = false →
    (s.port n).sdaLow = false → (∀ y ∈ (s.port n).queue, s.modeBad y.entry = false ∧ s.txLive y = true) → (s.port n).nextPart = none →
    Answers (.psTurn n) s (fun t => Same [.ports] s t ∧ t.port = s.port)) ∧
  (∀ (n : Fin 8) (s : State), (s.portRuns n = false ∨ (s.port n).busy ≠ none ∨ (s.port n).recovering = true ∨ (s.port n).stuck = true ∨
      (s.port n).sdaLow = true) → exec (.psTurn n) s = .next s) ∧
  (∀ (n : Fin 8) (data : BitVec 16) (x : PsTx) (s : State), (s.port n).busy = some x → x.paging = true →
    Answers (.psTransactionEnd n .acknowledged data) s (fun t => Same [.entries, .ports] s t ∧ AllBut s.port t.port [n.val] ∧
      t.port n = { s.port n with busy := some { x with paging := false } } ∧ AllBut s.entry t.entry [x.entry] ∧
      ((∀ c, x.why ≠ .loop c) → t.entry x.entry = s.entry x.entry) ∧
      (∀ c, x.why = .loop c → t.entry x.entry = { s.entry x.entry with commanded := some x.data, sentAt := some s.now }))) ∧
  (∀ (n : Fin 8) (result : PsResult) (data : BitVec 16) (x : PsTx) (s : State), (s.port n).busy = some x →
    (x.paging = false ∨ result ≠ .acknowledged) →
    Answers (.psTransactionEnd n result data) s (fun t => Same [.actions, .entries, .events, .ports, .regs, .thermal] s t ∧
      (t.port n).busy = none ∧ AllBut s.port t.port [n.val] ∧ AllBut s.entry t.entry (x.entry :: (s.port n).queue.map (fun y => y.entry)) ∧
      (result = .pecInvalid → t.reg (pssPecErrCount n) = sat16 (s.reg (pssPecErrCount n))) ∧
      (x.why = .mode → result = .acknowledged → (t.entry x.entry).voutMode = data.toNat % 256 ∧ (t.entry x.entry).modeRead = true ∧
        (t.entry x.entry).result = (if data.toNat % 256 / 32 = 0 then 0 else 6)) ∧
      (x.why = .mode → ∀ y ∈ (s.port n).queue, (∃ k, y.why = .shutoff k) → y ∈ (t.port n).queue) ∧
      (x.why ≠ .mode ∨ result ≠ .acknowledged → (t.entry x.entry).result = psCode result) ∧
      (∀ e a, x.why = .action e → s.action e = some a → a.issued = true → a.result = none →
        t.action e = some { a with result := some (if result = .acknowledged then 1 else 2, 3) }) ∧
      (∀ c, x.why = .loop c → result = .acknowledged → (t.entry x.entry).loop = 2) ∧
      (∀ c, x.why = .loop c → result ≠ .acknowledged → (t.entry x.entry).loop = 5 ∧
        t.reg (psTrimNackCount n) = sat16 (s.reg (psTrimNackCount n)) ∧
        (s.enters 18 → t.recorded 18 0x29 x.part false (two c))) ∧
      (∀ k, x.why = .shutoff k → result ≠ .acknowledged →
        (k < 2 → (t.port n).queue = { x with why := .shutoff (k + 1), page := 255, paging := false } :: (s.port n).queue) ∧
        (2 ≤ k → s.enters 18 →
          t.recorded 18 0x7A x.part false [BitVec.ofNat 8 x.entry, BitVec.ofNat 8 (psCode result)])) ∧
      (∀ k, x.why = .poll k → result = .acknowledged → tabFind t.thermal.neighbours k =
        some { reading := linear11 data.toNat + nbOffset (s.act (thnNeighbour k)), at_ := s.now, fresh := true }))) ∧
  (∀ (n : Fin 8) (result : PsResult) (data : BitVec 16) (s : State), (s.port n).busy = none →
    exec (.psTransactionEnd n result data) s = .next s) ∧
  (∀ (n : Fin 9) (s : State), n.val < 8 → (s.port n).busy = none →
    exec (.psStretchTimeout n) s = .next s ∧ exec (.psBusError n) s = .next s) ∧
  (∀ (n : Fin 9) (x : PsTx) (s : State), n.val < 8 → (s.port n).busy = some x →
    Answers (.psStretchTimeout n) s (fun t => Same [.actions, .entries, .events, .ports, .regs] s t ∧ (t.port n).busy = none ∧
      (t.port n).recovering = true ∧ t.reg (pssStretchCount n) = sat16 (s.reg (pssStretchCount n)) ∧ (t.entry x.entry).result = 4 ∧
      (s.enters 18 → t.recorded 18 0x78 255 false [BitVec.ofNat 8 n, 1])) ∧
    Answers (.psBusError n) s (fun t => Same [.actions, .entries, .events, .ports, .regs] s t ∧ (t.port n).busy = none ∧
      t.reg (pssBusErrCount n) = sat16 (s.reg (pssBusErrCount n)) ∧ (t.entry x.entry).result = 5 ∧
      (s.enters 18 → t.recorded 18 0x78 255 false [BitVec.ofNat 8 n, 3]))) ∧
  (∀ (n : Fin 9) (sda : SdaLine) (s : State),
    ((s.port n).recovering = false → exec (.sclReleased n sda) s = .next s) ∧
    ((s.port n).recovering = true → Answers (.sclReleased n sda) s (fun t => Same [.ports] s t ∧ AllBut s.port t.port [n.val] ∧
      (sda = .high → t.port n = { s.port n with recovering := false, freed := 0 }) ∧
      (∀ k, sda = .freed k → t.port n = { s.port n with recovering := false, freed := k.val + 1 }) ∧
      (sda = .low → t.port n = { s.port n with recovering := false, freed := 9, sdaLow := true })))) ∧
  (∀ (n : Fin 9) (s : State), n.val < 8 →
    ((s.port n).stuck = false → Answers (.lineStuck n) s (fun t => Same [.actions, .entries, .events, .ports, .regs] s t ∧
      (t.port n).stuck = true ∧ (t.port n).busy = none ∧ t.reg (pssStuckCount n) = sat16 (s.reg (pssStuckCount n)) ∧
      (∀ x, (s.port n).busy = some x → (t.entry x.entry).result = 5) ∧
      (s.enters 18 → t.recorded 18 0x78 255 false [BitVec.ofNat 8 n, 2]))) ∧
    ((s.port n).stuck = true → exec (.lineStuck n) s = .next s ∧
      Answers (.lineStuckClear n) s (fun t => Same [.events, .ports, .regs] s t ∧ RegsBut s t [evEventsLost] ∧
        t.port n = { s.port n with stuck := false, sdaLow := false } ∧ AllBut s.port t.port [n.val] ∧
        (s.enters 18 → t.recorded 18 0x78 255 true [BitVec.ofNat 8 n, 2])))) ∧
  (∀ (n : Fin 9) (s : State), (n.val = 8 ∨ (s.port n).stuck = false) → Answers (.lineStuckClear n) s (fun t => Same [.ports] s t ∧
    t.port n = { s.port n with sdaLow := false } ∧ AllBut s.port t.port [n.val])) ∧
  (∀ s : State, Answers (.lineStuck 8) s (fun t => Same [.events, .regs] s t ∧ RegsBut s t [evEventsLost] ∧
      (s.enters 18 → t.recorded 18 0x7B 255 false [2]))) ∧
  (∀ (n : Fin 8) (reply : AlertReply) (s : State), s.portRuns n = true → (s.port n).busy = none → (s.port n).recovering = false →
    (s.port n).stuck = false →
    Answers (.attentionRequest n reply) s (fun t => Same [.entries, .events, .ports, .regs] s t ∧ AllBut s.port t.port [n.val] ∧
      t.reg (pssAlertCount n) = sat16 (s.reg (pssAlertCount n)) ∧ (t.port n).sdaLow = reply.heldLow ∧ (t.port n).queue = (s.port n).queue ∧
      (s.act (psAlertEnable n) = 0 ∨ reply.heldLow = true → RegsBut s t [pssAlertCount n] ∧ t.entry = s.entry ∧
        t.port n = { s.port n with sdaLow := reply.heldLow }) ∧
      (s.act (psAlertEnable n) ≠ 0 → reply.heldLow = false → (t.port n).lastPart = 0 ∧
        ((reply.response = none ∨ ∃ a, reply.response = some a ∧ s.entriesAt n (a.toNat / 2) = []) →
          RegsBut s t [pssAlertCount n, pssTurns n, pssAlertUnknown n] ∧ t.entry = s.entry ∧
          t.reg (pssAlertUnknown n) = sat16 (s.reg (pssAlertUnknown n)) ∧ t.reg (pssTurns n) = wrap32 (s.reg (pssTurns n))) ∧
        (∀ a e r, reply.response = some a → s.entriesAt n (a.toNat / 2) = [e] → reply.reads = [r] → AllBut s.entry t.entry [e] ∧
          ((s.entry e).modeRead = true → t.reg (pssTurns n) = wrap32 (wrap32 (s.reg (pssTurns n)))) ∧
          ((s.entry e).modeRead = true ∨ r.modeCode.val ≠ 4 → (t.entry e).result = r.code.val ∧
            (r.code.val = 0 → s.enters 18 → t.recorded 18 0x79 (tgtPart (s.act (tgtEntry e))) false (BitVec.ofNat 8 e :: two r.word.toNat)) ∧
            ((t.port n).recovering = true ↔ r.code.val = 4)) ∧
          ((s.entry e).modeRead = false → r.modeCode.val = 0 →
            (t.entry e).voutMode = r.mode.toNat ∧ (t.entry e).modeRead = true) ∧
          ((s.entry e).modeRead = false → r.modeCode.val = 4 → (t.entry e).result = 4 ∧ (t.port n).recovering = true))))) ∧
  (∀ (n : Fin 8) (reply : AlertReply) (s : State), (s.portRuns n = false ∨ (s.port n).busy ≠ none ∨ (s.port n).recovering = true ∨
      (s.port n).stuck = true) → exec (.attentionRequest n reply) s = .next s)

/-- The SVC windows and the faults of PEER (after R397 to R403). A window has the address SVC_BASE and its number; an address of no open window
answers nothing. A write sets the pointer and its data bytes fill the request buffer; a read gives bytes from the pointer on and takes them from the
head frame; a submit makes the buffer a request, but is ignored as a service form that is off, without effect while the management plane is down,
refused while OVERRUN is set or four are outstanding, and discarded with an invalid CRC; CLEAR and DROP_HEAD empty what they name. Each transaction
takes the bus, and cuts off an attention pulse that runs. A pulse is due for a window whose queue has gone from empty to holding a frame or has
waited for ATTN_REPEAT, or after one that was cut off, once the bus has been idle for 50 µs; it is counted and stands for every window that holds a
frame. On PEER a message that lost arbitration is sent again up to three times, then dropped with EV 0x7B; a stretch and a bus error drop it at once
(the model's choice, log 21). -/
def Obligations.SvcWindowsAndPeerArbitration : Prop :=
  (∀ (a w : Nat) (s : State), s.svcWindow a = some w ↔ a = s.act svcSvcBase + w ∧ w < 16 ∧ s.svcOpen w = true) ∧
  (∀ (a : Fin 128) (bytes : Bytes) (count : Nat) (s : State), s.svcWindow a = none →
    Answers (.svcWrite a bytes) s (fun t => Same [.ports] s t ∧ BusTaken s t) ∧
    Answers (.svcRead a count) s (fun t => Same [.ports] s t ∧ BusTaken s t)) ∧
  (∀ (w : Fin 16) (s : State), s.svcOpen w = false →
    Answers (.submitDap w) s (fun t => Same [.ports] s t ∧ BusTaken s t) ∧ Answers (.submitService w) s (fun t => Same [.ports] s t ∧ BusTaken s t) ∧
    Answers (.windowClear w) s (fun t => Same [.ports] s t ∧ BusTaken s t) ∧ Answers (.dropHead w) s (fun t => Same [.ports] s t ∧ BusTaken s t)) ∧
  (∀ (a : Fin 128) (w : Nat) (p : Byte) (b : Bytes) (s : State), s.svcWindow a = some w →
    Answers (.svcWrite a []) s (fun t => Same [.ports] s t ∧ BusTaken s t) ∧
    Answers (.svcWrite a [p]) s (fun t => Same [.ports, .svc] s t ∧ BusTaken s t ∧ AllBut s.window t.window [w] ∧
      t.window w = { s.window w with pointer := p.toNat }) ∧
    (16 ≤ p.toNat → p.toNat + b.length ≤ 256 → (s.window w).req.length + b.length ≤ 8476 →
      Answers (.svcWrite a (p :: b)) s (fun t => Same [.ports, .svc] s t ∧ BusTaken s t ∧ AllBut s.window t.window [w] ∧
        t.window w = { s.window w with pointer := (p.toNat + b.length) % 256, req := (s.window w).req ++ b }))) ∧
  (∀ (a : Fin 128) (w : Nat) (event : Bool) (f : Bytes) (l : List (Bool × Bytes)) (c : Nat) (s : State), s.svcWindow a = some w →
    16 ≤ (s.window w).pointer → (s.window w).pointer < 256 → (s.window w).pointer + c ≤ 256 → (s.window w).queue = (event, f) :: l → c < f.length →
    Answers (.svcRead a c) s (fun t => Same [.ports, .reply, .svc] s t ∧ BusTaken s t ∧ t.reply = f.take c ∧ AllBut s.window t.window [w] ∧
      t.window w = { s.window w with pointer := ((s.window w).pointer + c) % 256,
                                     queue := (event, f.drop c) :: l })) ∧
  (∀ (a : Fin 128) (w : Nat) (event : Bool) (f : Bytes) (l : List (Bool × Bytes)) (s : State), s.svcWindow a = some w →
    16 ≤ (s.window w).pointer → (s.window w).pointer + f.length ≤ 256 → (s.window w).queue = (event, f) :: l → f ≠ [] →
    Answers (.svcRead a f.length) s (fun t => Same [.ports, .reply, .svc] s t ∧ BusTaken s t ∧ t.reply = f ∧ AllBut s.window t.window [w] ∧
      t.window w = { s.window w with
        pointer := ((s.window w).pointer + f.length) % 256, queue := l, attnAt := if l = [] then none else (s.window w).attnAt })) ∧
  (∀ (a : Fin 128) (w : Nat) (s : State), s.svcWindow a = some w → (s.window w).pointer = 0 →
    Answers (.svcRead a 1) s (fun t => Same [.ports, .reply, .svc] s t ∧ BusTaken s t ∧ t.reply = [BitVec.ofNat 8 (s.winStatus w)] ∧
      t.window w = { s.window w with
        pointer := 1, attnAt := if (s.window w).queue = [] then none else (s.window w).attnAt })) ∧
  (∀ (w : Fin 16) (s : State), s.svcOpen w = true → s.mgmtDown = true →
    Answers (.submitDap w) s (fun t => Same [.ports] s t ∧ BusTaken s t) ∧
    (s.act svcServiceForm ≠ 0 → Answers (.submitService w) s (fun t => Same [.ports] s t ∧ BusTaken s t))) ∧
  (∀ (w : Fin 16) (s : State), s.svcOpen w = true → s.mgmtDown = false →
    (((s.window w).overrun = true ∨ 4 ≤ s.outstanding w + (s.window w).queue.length) →
      Answers (.submitDap w) s (fun t => Same [.ports, .svc] s t ∧ BusTaken s t ∧ AllBut s.window t.window [w.val] ∧
        t.window w = { s.window w with refused := true }) ∧
      (s.act svcServiceForm ≠ 0 → Answers (.submitService w) s (fun t => Same [.ports, .svc] s t ∧ BusTaken s t ∧
        AllBut s.window t.window [w.val] ∧ t.window w = { s.window w with refused := true }))) ∧
    ((s.window w).overrun = false → s.outstanding w + (s.window w).queue.length < 4 →
      Answers (.submitDap w) s (fun t => Same [.inbox, .ports, .svc] s t ∧ BusTaken s t ∧ AllBut s.window t.window [w.val] ∧
        t.window w = { s.window w with req := [] } ∧ t.inbox = s.inbox ++
          [{ req := { tr := .svc w, ep := w, service := false, bytes := (s.window w).req }, at_ := s.now }]) ∧
      (∀ b : Bytes, s.act svcServiceForm ≠ 0 → (s.window w).req = withCrc b →
        Answers (.submitService w) s (fun t => Same [.inbox, .ports, .svc] s t ∧ BusTaken s t ∧ t.window w = { s.window w with req := [] } ∧
          t.inbox = s.inbox ++ [{ req := { tr := .svc w, ep := w, service := true, bytes := b }, at_ := s.now }])) ∧
      (s.act svcServiceForm ≠ 0 → (∀ b : Bytes, (s.window w).req ≠ withCrc b) →
        Answers (.submitService w) s (fun t => Same [.ports, .regs, .svc] s t ∧ BusTaken s t ∧ t.window w = { s.window w with req := [] } ∧
          t.reg svcsSvcCrcErr = wrap32 (s.reg svcsSvcCrcErr))))) ∧
  (∀ (w : Fin 16) (s : State), s.svcOpen w = true → s.act svcServiceForm = 0 →
    Answers (.submitService w) s (fun t => Same [.ports, .regs] s t ∧ BusTaken s t ∧ RegsBut s t [svcsSvcIgnored] ∧
      t.reg svcsSvcIgnored = wrap32 (s.reg svcsSvcIgnored))) ∧
  (∀ (w : Fin 16) (s : State), s.svcOpen w = true →
    Answers (.windowClear w) s (fun t => Same [.ports, .svc] s t ∧ BusTaken s t ∧ AllBut s.window t.window [w.val] ∧
      t.window w = { s.window w with req := [], overrun := false, refused := false }) ∧
    Answers (.dropHead w) s (fun t => Same [.ports, .svc] s t ∧ BusTaken s t ∧ AllBut s.window t.window [w.val] ∧
      t.window w = { s.window w with
        queue := (s.window w).queue.drop 1, attnAt := if (s.window w).queue.drop 1 = [] then none else (s.window w).attnAt })) ∧
  (∀ s : State,
    (s.act svcAttnEnable = 1 → s.supply.vcore = true → 18 ∉ s.islandBad → 2 ∉ s.vioLost →
      ((∃ w < 16, s.attnDue w = true) ∨ (s.port svcPort).again = true) → (s.port svcPort).stopAt + 5000 ≤ s.now →
      Answers .svcAttention s (fun t => Same [.ports, .regs, .svc] s t ∧ RegsBut s t [svcsSvcAttnCount] ∧
        t.reg svcsSvcAttnCount = wrap32 (s.reg svcsSvcAttnCount) ∧ AllBut s.port t.port [svcPort] ∧
        t.port svcPort = { s.port svcPort with pulseAt := some s.now, again := false } ∧
        ∀ w < 16, ((s.window w).queue = [] → t.window w = s.window w) ∧
          ((s.window w).queue ≠ [] → t.window w = { s.window w with attnAt := some s.now }))) ∧
    ((s.act svcAttnEnable ≠ 1 ∨ s.supply.vcore = false ∨ 18 ∈ s.islandBad ∨ 2 ∈ s.vioLost ∨ s.now < (s.port svcPort).stopAt + 5000 ∨
        ((∀ w < 16, s.attnDue w = false) ∧ (s.port svcPort).again = false)) →
      exec .svcAttention s = .next s) ∧
    ∀ w, (s.attnDue w = true ↔ (s.window w).queue ≠ [] ∧ ((s.window w).attnAt = none ∨ ∃ a, (s.window w).attnAt = some a ∧
      s.act svcAttnRepeat ≠ 0 ∧ a + 100000 * s.act svcAttnRepeat ≤ s.now))) ∧
  (∀ (addressed : Bool) (s : State), Answers (.peerArbitrationLoss addressed) s (fun t => Same [.events, .peerOut, .peerTries, .regs] s t ∧
    t.reg peersArbLostCount = wrap32 (s.reg peersArbLostCount) ∧
    ((addressed = true ∨ s.peerOut = []) → t.peerOut = s.peerOut ∧ t.peerTries = s.peerTries ∧ RegsBut s t [peersArbLostCount]) ∧
    (addressed = false → s.peerOut ≠ [] →
      (s.peerTries < 3 → t.peerOut = s.peerOut ∧ t.peerTries = s.peerTries + 1 ∧ RegsBut s t [peersArbLostCount]) ∧
      (3 ≤ s.peerTries → t.peerOut = s.peerOut.dropLast ∧ t.peerTries = 0 ∧ t.reg peersPeerDrop = sat16 (s.reg peersPeerDrop) ∧
        (s.enters 18 → t.recorded 18 0x7B 255 false [1]))))) ∧
  (∀ s : State, ((s.peerOut = [] ∨ s.peerOn = false) → exec (.psStretchTimeout 8) s = .next s ∧ exec (.psBusError 8) s = .next s) ∧
    (s.peerOut ≠ [] → s.peerOn = true →
      Answers (.psStretchTimeout 8) s (fun t => Same [.events, .peerOut, .peerTries, .ports, .regs] s t ∧ AllBut s.port t.port [8] ∧
        t.port 8 = { s.port 8 with recovering := true } ∧ t.peerOut = s.peerOut.dropLast ∧ t.peerTries = 0 ∧
        RegsBut s t [peersPeerDrop, evEventsLost] ∧ t.reg peersPeerDrop = sat16 (s.reg peersPeerDrop) ∧
        (s.enters 18 → t.recorded 18 0x7B 255 false [1])) ∧
      Answers (.psBusError 8) s (fun t => Same [.events, .peerOut, .peerTries, .regs] s t ∧ t.peerOut = s.peerOut.dropLast ∧
        t.peerTries = 0 ∧ RegsBut s t [peersPeerDrop, evEventsLost] ∧ t.reg peersPeerDrop = sat16 (s.reg peersPeerDrop) ∧
        (s.enters 18 → t.recorded 18 0x7B 255 false [1]))))

/-! ### The whole machine -/

/-- The canonical forms of the flash and of the two banks (the model's own representation, log 12) hold after every step from a state in which they
hold: whatever command stands at the front of the queue, and on the empty queue. -/
def Obligations.EveryStepKeepsTheForms : Prop := ∀ s t : State, s.formsOk → step s = .next t → t.formsOk

/-- The canonical forms hold at reset. -/
def Obligations.ResetHasTheForms : Prop := State.reset.formsOk

/-- Nothing but a due swap brings a configuration into force (after R15, R16, R19): after any command the active banks are what they were, or none,
or what the shadow banks were where an armed commit whose participants answered READY was due: at the SWAP itself, at a request of the dictionary at
T or later, or at a channel's transition or timer, the arming or issue of an action or a sample of the diodes that comes at T or later (the model
makes the swap first there, log 24). -/
def Obligations.OnlyTheSwapBringsAConfiguration : Prop := ∀ (c : Instr) (s t : State), exec c s = .next t →
  (t.active = s.active ∨ t.active = [] ∨ (SwapComes c s ∧ t.active = s.shadow)) ∧ (t.committed = true → s.committed = true ∨ SwapComes c s)

/-- SAFE_N rises only by its release, with a committed configuration, no fabric fault and no partition FAULTED or LOCKED_OUT (after R130). -/
def Obligations.SafeNRisesOnlyByItsRelease : Prop := ∀ (c : Instr) (s t : State), exec c s = .next t → s.safeN = false → t.safeN = true →
  c = .safeNRelease ∧ s.committed = true ∧ s.fabricFault = false ∧ ∀ p < 16, (s.part p).state.isFaulted = false
end

