-- ==== Sys2Proof/Laws/Tab.lean ====
section
/-! SUPPORT. The laws of tables: a read after a write, and that a write keeps the canonical form. -/
namespace Sys2Proof.Machine

theorem tabFind_erase_self {α : Type} (t : List (Nat × α)) (k : Nat) : tabFind (tabErase t k) k = none := by
  induction t with
  | nil => rfl
  | cons e t ih =>
    unfold tabErase at *
    by_cases h : e.1 = k <;> simp [h, tabFind, ih]

theorem tabFind_erase_ne {α : Type} (t : List (Nat × α)) {k j : Nat} (h : j ≠ k) :
    tabFind (tabErase t k) j = tabFind t j := by
  induction t with
  | nil => rfl
  | cons e t ih =>
    unfold tabErase at *
    by_cases he : e.1 = k
    · have : e.1 ≠ j := fun q => h (q ▸ he)
      simp [he, tabFind, ih, Ne.symm h]
    · simp [he, tabFind, ih]

theorem tabFind_insert_self {α : Type} (t : List (Nat × α)) (k : Nat) (v : α) (h : tabFind t k = none) :
    tabFind (tabInsert k v t) k = some v := by
  induction t with
  | nil => simp [tabInsert, tabFind]
  | cons e t ih =>
    unfold tabFind at h
    by_cases he : e.1 = k
    · simp [he] at h
    · simp only [he, if_false] at h
      unfold tabInsert
      split <;> simp [tabFind, he, ih h]

theorem tabFind_insert_ne {α : Type} (t : List (Nat × α)) {k j : Nat} (v : α) (h : j ≠ k) :
    tabFind (tabInsert k v t) j = tabFind t j := by
  induction t with
  | nil => simp [tabInsert, tabFind, Ne.symm h]
  | cons e t ih =>
    unfold tabInsert
    split <;> simp [tabFind, ih, Ne.symm h]

/-- A read after a write, at any key. -/
theorem tabGet_set {α : Type} [DecidableEq α] (d : Nat → α) (t : List (Nat × α)) (k j : Nat) (v : α) :
    tabGet d (tabSet d t k v) j = if j = k then v else tabGet d t j := by
  unfold tabGet tabSet
  by_cases hj : j = k
  · subst hj
    split <;> simp [tabFind_erase_self, tabFind_insert_self, *]
  · split <;> simp [tabFind_erase_ne _ hj, tabFind_insert_ne _ _ hj]

@[simp] theorem tabGet_set_self {α : Type} [DecidableEq α] (d : Nat → α) (t : List (Nat × α)) (k : Nat) (v : α) :
    tabGet d (tabSet d t k v) k = v := by simp [tabGet_set]

theorem tabGet_set_ne {α : Type} [DecidableEq α] (d : Nat → α) (t : List (Nat × α)) {k j : Nat} (v : α) (h : j ≠ k) :
    tabGet d (tabSet d t k v) j = tabGet d t j := by simp [tabGet_set, h]

@[simp] theorem tabGet_nil {α : Type} (d : Nat → α) (k : Nat) : tabGet d [] k = d k := rfl

theorem tabSorted_iff {α : Type} (t : List (Nat × α)) : tabSorted t = true ↔ t.Pairwise (fun e f => e.1 < f.1) := by
  induction t with
  | nil => simp [tabSorted]
  | cons e t ih =>
    cases t with
    | nil => simp [tabSorted]
    | cons f t =>
      simp only [tabSorted, Bool.and_eq_true, decide_eq_true_eq, ih, List.pairwise_cons]
      constructor
      · rintro ⟨h, hf, ht⟩
        refine ⟨?_, hf, ht⟩
        intro x hx
        rcases List.mem_cons.mp hx with rfl | hx
        · exact h
        · exact h.trans (hf x hx)
      · rintro ⟨h, hf, ht⟩
        exact ⟨h f (List.mem_cons_self ..), hf, ht⟩

theorem mem_tabInsert {α : Type} (k : Nat) (v : α) (t : List (Nat × α)) (x : Nat × α) :
    x ∈ tabInsert k v t ↔ x = (k, v) ∨ x ∈ t := by
  induction t with
  | nil => simp [tabInsert]
  | cons e t ih =>
    unfold tabInsert
    split <;> simp [ih, or_left_comm]

theorem tabInsert_pairwise {α : Type} (k : Nat) (v : α) (t : List (Nat × α)) (h : t.Pairwise (fun e f => e.1 < f.1))
    (hk : ∀ e ∈ t, e.1 ≠ k) : (tabInsert k v t).Pairwise (fun e f => e.1 < f.1) := by
  induction t with
  | nil => simp [tabInsert]
  | cons e t ih =>
    rw [List.pairwise_cons] at h
    unfold tabInsert
    split
    · rename_i hlt
      rw [List.pairwise_cons, List.pairwise_cons]
      refine ⟨?_, h⟩
      intro x hx
      rcases List.mem_cons.mp hx with rfl | hx
      · exact hlt
      · exact lt_trans hlt (h.1 x hx)
    · rename_i hge
      rw [List.pairwise_cons]
      refine ⟨?_, ih h.2 (fun x hx => hk x (List.mem_cons_of_mem _ hx))⟩
      intro x hx
      rcases (mem_tabInsert k v t x).mp hx with rfl | hx
      · have := hk e (List.mem_cons_self ..)
        show e.1 < k
        omega
      · exact h.1 x hx

/-- A write keeps the canonical form. -/
theorem tabOk_set {α : Type} [DecidableEq α] (d : Nat → α) (t : List (Nat × α)) (k : Nat) (v : α) (h : tabOk d t = true) :
    tabOk d (tabSet d t k v) = true := by
  unfold tabOk at *
  rw [Bool.and_eq_true, tabSorted_iff] at *
  have hp : (tabErase t k).Pairwise (fun e f => e.1 < f.1) := h.1.filter _
  have hd : (tabErase t k).all (fun e => e.2 != d e.1) = true := by
    simp only [List.all_eq_true, tabErase, List.mem_filter] at *
    exact fun x hx => h.2 x hx.1
  unfold tabSet
  split
  · exact ⟨hp, hd⟩
  · rename_i hv
    refine ⟨tabInsert_pairwise k v _ hp ?_, ?_⟩
    · intro e he
      simp only [tabErase, List.mem_filter] at he
      simpa using he.2
    · simp only [List.all_eq_true, mem_tabInsert] at *
      rintro x (rfl | hx)
      · simpa using hv
      · exact hd x hx

theorem tabOk_nil {α : Type} [DecidableEq α] (d : Nat → α) : tabOk d [] = true := rfl

/-- Register keys name their registers apart. -/
@[simp] theorem rk_inj (b u s b' u' s' : Nat) :
    rk b u s = rk b' u' s' ↔ b = b' ∧ u % 65536 = u' % 65536 ∧ s % 256 = s' % 256 := by
  unfold rk
  constructor
  · intro h
    have := Nat.mod_lt u (show 65536 > 0 by decide)
    have := Nat.mod_lt u' (show 65536 > 0 by decide)
    have := Nat.mod_lt s (show 256 > 0 by decide)
    have := Nat.mod_lt s' (show 256 > 0 by decide)
    refine ⟨?_, ?_, ?_⟩ <;> omega
  · rintro ⟨rfl, h, h'⟩
    rw [h, h']

end Sys2Proof.Machine
end

