-- ==== Sys2Proof/Laws/State.lean ====
section
/-! SUPPORT. The laws of the named updates of the state: what each update leaves of every field and of every unit record, true by
unfolding, so that no proof unfolds a record update. -/
namespace Sys2Proof.Machine

/-! ### setReg -/

@[simp] theorem State.setReg_pending (s : State) (k v : Nat) : (s.setReg k v).pending = s.pending := rfl
@[simp] theorem State.setReg_status (s : State) (k v : Nat) : (s.setReg k v).status = s.status := rfl
@[simp] theorem State.setReg_reply (s : State) (k v : Nat) : (s.setReg k v).reply = s.reply := rfl
@[simp] theorem State.setReg_now (s : State) (k v : Nat) : (s.setReg k v).now = s.now := rfl
@[simp] theorem State.setReg_timeFree (s : State) (k v : Nat) : (s.setReg k v).timeFree = s.timeFree := rfl
@[simp] theorem State.setReg_refFailAt (s : State) (k v : Nat) : (s.setReg k v).refFailAt = s.refFailAt := rfl
@[simp] theorem State.setReg_active (s : State) (k v : Nat) : (s.setReg k v).active = s.active := rfl
@[simp] theorem State.setReg_prior (s : State) (k v : Nat) : (s.setReg k v).prior = s.prior := rfl
@[simp] theorem State.setReg_shadow (s : State) (k v : Nat) : (s.setReg k v).shadow = s.shadow := rfl
@[simp] theorem State.setReg_retained (s : State) (k v : Nat) : (s.setReg k v).retained = s.retained := rfl
@[simp] theorem State.setReg_committed (s : State) (k v : Nat) : (s.setReg k v).committed = s.committed := rfl
@[simp] theorem State.setReg_sets (s : State) (k v : Nat) : (s.setReg k v).sets = s.sets := rfl
@[simp] theorem State.setReg_armed (s : State) (k v : Nat) : (s.setReg k v).armed = s.armed := rfl
@[simp] theorem State.setReg_queueC (s : State) (k v : Nat) : (s.setReg k v).queueC = s.queueC := rfl
@[simp] theorem State.setReg_switchSt (s : State) (k v : Nat) : (s.setReg k v).switchSt = s.switchSt := rfl
@[simp] theorem State.setReg_chans (s : State) (k v : Nat) : (s.setReg k v).chans = s.chans := rfl
@[simp] theorem State.setReg_ens (s : State) (k v : Nat) : (s.setReg k v).ens = s.ens := rfl
@[simp] theorem State.setReg_trims (s : State) (k v : Nat) : (s.setReg k v).trims = s.trims := rfl
@[simp] theorem State.setReg_clusters (s : State) (k v : Nat) : (s.setReg k v).clusters = s.clusters := rfl
@[simp] theorem State.setReg_latches (s : State) (k v : Nat) : (s.setReg k v).latches = s.latches := rfl
@[simp] theorem State.setReg_parts (s : State) (k v : Nat) : (s.setReg k v).parts = s.parts := rfl
@[simp] theorem State.setReg_groups (s : State) (k v : Nat) : (s.setReg k v).groups = s.groups := rfl
@[simp] theorem State.setReg_actions (s : State) (k v : Nat) : (s.setReg k v).actions = s.actions := rfl
@[simp] theorem State.setReg_caps (s : State) (k v : Nat) : (s.setReg k v).caps = s.caps := rfl
@[simp] theorem State.setReg_mgmtDown (s : State) (k v : Nat) : (s.setReg k v).mgmtDown = s.mgmtDown := rfl
@[simp] theorem State.setReg_stalled (s : State) (k v : Nat) : (s.setReg k v).stalled = s.stalled := rfl
@[simp] theorem State.setReg_islandBad (s : State) (k v : Nat) : (s.setReg k v).islandBad = s.islandBad := rfl
@[simp] theorem State.setReg_fabricFault (s : State) (k v : Nat) : (s.setReg k v).fabricFault = s.fabricFault := rfl
@[simp] theorem State.setReg_safeN (s : State) (k v : Nat) : (s.setReg k v).safeN = s.safeN := rfl
@[simp] theorem State.setReg_vioLost (s : State) (k v : Nat) : (s.setReg k v).vioLost = s.vioLost := rfl
@[simp] theorem State.setReg_evRing (s : State) (k v : Nat) : (s.setReg k v).evRing = s.evRing := rfl
@[simp] theorem State.setReg_evNext (s : State) (k v : Nat) : (s.setReg k v).evNext = s.evNext := rfl
@[simp] theorem State.setReg_ev04At (s : State) (k v : Nat) : (s.setReg k v).ev04At = s.ev04At := rfl
@[simp] theorem State.setReg_evQueues (s : State) (k v : Nat) : (s.setReg k v).evQueues = s.evQueues := rfl
@[simp] theorem State.setReg_evQueueGap (s : State) (k v : Nat) : (s.setReg k v).evQueueGap = s.evQueueGap := rfl
@[simp] theorem State.setReg_later (s : State) (k v : Nat) : (s.setReg k v).later = s.later := rfl
@[simp] theorem State.setReg_sessions (s : State) (k v : Nat) : (s.setReg k v).sessions = s.sessions := rfl
@[simp] theorem State.setReg_sessNext (s : State) (k v : Nat) : (s.setReg k v).sessNext = s.sessNext := rfl
@[simp] theorem State.setReg_asms (s : State) (k v : Nat) : (s.setReg k v).asms = s.asms := rfl
@[simp] theorem State.setReg_inbox (s : State) (k v : Nat) : (s.setReg k v).inbox = s.inbox := rfl
@[simp] theorem State.setReg_waits (s : State) (k v : Nat) : (s.setReg k v).waits = s.waits := rfl
@[simp] theorem State.setReg_outFrames (s : State) (k v : Nat) : (s.setReg k v).outFrames = s.outFrames := rfl
@[simp] theorem State.setReg_downs (s : State) (k v : Nat) : (s.setReg k v).downs = s.downs := rfl
@[simp] theorem State.setReg_t1sSleep (s : State) (k v : Nat) : (s.setReg k v).t1sSleep = s.t1sSleep := rfl
@[simp] theorem State.setReg_keys (s : State) (k v : Nat) : (s.setReg k v).keys = s.keys := rfl
@[simp] theorem State.setReg_streams (s : State) (k v : Nat) : (s.setReg k v).streams = s.streams := rfl
@[simp] theorem State.setReg_ports (s : State) (k v : Nat) : (s.setReg k v).ports = s.ports := rfl
@[simp] theorem State.setReg_entries (s : State) (k v : Nat) : (s.setReg k v).entries = s.entries := rfl
@[simp] theorem State.setReg_svc (s : State) (k v : Nat) : (s.setReg k v).svc = s.svc := rfl
@[simp] theorem State.setReg_peerOut (s : State) (k v : Nat) : (s.setReg k v).peerOut = s.peerOut := rfl
@[simp] theorem State.setReg_peerTries (s : State) (k v : Nat) : (s.setReg k v).peerTries = s.peerTries := rfl
@[simp] theorem State.setReg_peerReq (s : State) (k v : Nat) : (s.setReg k v).peerReq = s.peerReq := rfl
@[simp] theorem State.setReg_peerReqsAt (s : State) (k v : Nat) : (s.setReg k v).peerReqsAt = s.peerReqsAt := rfl
@[simp] theorem State.setReg_drives (s : State) (k v : Nat) : (s.setReg k v).drives = s.drives := rfl
@[simp] theorem State.setReg_trestle (s : State) (k v : Nat) : (s.setReg k v).trestle = s.trestle := rfl
@[simp] theorem State.setReg_thermal (s : State) (k v : Nat) : (s.setReg k v).thermal = s.thermal := rfl
@[simp] theorem State.setReg_supply (s : State) (k v : Nat) : (s.setReg k v).supply = s.supply := rfl
@[simp] theorem State.setReg_ledger (s : State) (k v : Nat) : (s.setReg k v).ledger = s.ledger := rfl
@[simp] theorem State.setReg_log (s : State) (k v : Nat) : (s.setReg k v).log = s.log := rfl
@[simp] theorem State.setReg_nv (s : State) (k v : Nat) : (s.setReg k v).nv = s.nv := rfl
@[simp] theorem State.setReg_host (s : State) (k v : Nat) : (s.setReg k v).host = s.host := rfl
@[simp] theorem State.setReg_sec (s : State) (k v : Nat) : (s.setReg k v).sec = s.sec := rfl
@[simp] theorem State.setReg_flash (s : State) (k v : Nat) : (s.setReg k v).flash = s.flash := rfl
@[simp] theorem State.setReg_granules (s : State) (k v : Nat) : (s.setReg k v).granules = s.granules := rfl
@[simp] theorem State.setReg_sectors (s : State) (k v : Nat) : (s.setReg k v).sectors = s.sectors := rfl
@[simp] theorem State.setReg_waitMaint (s : State) (k v : Nat) : (s.setReg k v).waitMaint = s.waitMaint := rfl
@[simp] theorem State.setReg_fwWaitAt (s : State) (k v : Nat) : (s.setReg k v).fwWaitAt = s.fwWaitAt := rfl
@[simp] theorem State.setReg_draws (s : State) (k v : Nat) : (s.setReg k v).draws = s.draws := rfl
@[simp] theorem State.setReg_get_act (s : State) (k v : Nat) (i : Nat) : (s.setReg k v).act i = s.act i := rfl
@[simp] theorem State.setReg_get_shad (s : State) (k v : Nat) (i : Nat) : (s.setReg k v).shad i = s.shad i := rfl
@[simp] theorem State.setReg_get_chan (s : State) (k v : Nat) (i : Nat) : (s.setReg k v).chan i = s.chan i := rfl
@[simp] theorem State.setReg_get_en (s : State) (k v : Nat) (i : Nat) : (s.setReg k v).en i = s.en i := rfl
@[simp] theorem State.setReg_get_trim (s : State) (k v : Nat) (i : Nat) : (s.setReg k v).trim i = s.trim i := rfl
@[simp] theorem State.setReg_get_cluster (s : State) (k v : Nat) (i : Nat) : (s.setReg k v).cluster i = s.cluster i := rfl
@[simp] theorem State.setReg_get_latch (s : State) (k v : Nat) (i j : Nat) : (s.setReg k v).latch i j = s.latch i j := rfl
@[simp] theorem State.setReg_get_part (s : State) (k v : Nat) (i : Nat) : (s.setReg k v).part i = s.part i := rfl
@[simp] theorem State.setReg_get_group (s : State) (k v : Nat) (i : Nat) : (s.setReg k v).group i = s.group i := rfl
@[simp] theorem State.setReg_get_cap (s : State) (k v : Nat) (i : Nat) : (s.setReg k v).cap i = s.cap i := rfl
@[simp] theorem State.setReg_get_key (s : State) (k v : Nat) (i : Nat) : (s.setReg k v).key i = s.key i := rfl
@[simp] theorem State.setReg_get_stream (s : State) (k v : Nat) (i : Nat) : (s.setReg k v).stream i = s.stream i := rfl
@[simp] theorem State.setReg_get_port (s : State) (k v : Nat) (i : Nat) : (s.setReg k v).port i = s.port i := rfl
@[simp] theorem State.setReg_get_entry (s : State) (k v : Nat) (i : Nat) : (s.setReg k v).entry i = s.entry i := rfl
@[simp] theorem State.setReg_get_window (s : State) (k v : Nat) (i : Nat) : (s.setReg k v).window i = s.window i := rfl
@[simp] theorem State.setReg_get_drive (s : State) (k v : Nat) (i : Nat) : (s.setReg k v).drive i = s.drive i := rfl
@[simp] theorem State.setReg_get_stageSet (s : State) (k v : Nat) (i : Nat) : (s.setReg k v).stageSet i = s.stageSet i := rfl
@[simp] theorem State.setReg_get_downCause (s : State) (k v : Nat) (i : Nat) : (s.setReg k v).downCause i = s.downCause i := rfl
@[simp] theorem State.setReg_get_action (s : State) (k v : Nat) (i : Nat) : (s.setReg k v).action i = s.action i := rfl

/-! ### setChan -/

@[simp] theorem State.setChan_pending (s : State) (c : Nat) (x : ChanX) : (s.setChan c x).pending = s.pending := rfl
@[simp] theorem State.setChan_status (s : State) (c : Nat) (x : ChanX) : (s.setChan c x).status = s.status := rfl
@[simp] theorem State.setChan_reply (s : State) (c : Nat) (x : ChanX) : (s.setChan c x).reply = s.reply := rfl
@[simp] theorem State.setChan_now (s : State) (c : Nat) (x : ChanX) : (s.setChan c x).now = s.now := rfl
@[simp] theorem State.setChan_timeFree (s : State) (c : Nat) (x : ChanX) : (s.setChan c x).timeFree = s.timeFree := rfl
@[simp] theorem State.setChan_refFailAt (s : State) (c : Nat) (x : ChanX) : (s.setChan c x).refFailAt = s.refFailAt := rfl
@[simp] theorem State.setChan_active (s : State) (c : Nat) (x : ChanX) : (s.setChan c x).active = s.active := rfl
@[simp] theorem State.setChan_prior (s : State) (c : Nat) (x : ChanX) : (s.setChan c x).prior = s.prior := rfl
@[simp] theorem State.setChan_shadow (s : State) (c : Nat) (x : ChanX) : (s.setChan c x).shadow = s.shadow := rfl
@[simp] theorem State.setChan_regs (s : State) (c : Nat) (x : ChanX) : (s.setChan c x).regs = s.regs := rfl
@[simp] theorem State.setChan_retained (s : State) (c : Nat) (x : ChanX) : (s.setChan c x).retained = s.retained := rfl
@[simp] theorem State.setChan_committed (s : State) (c : Nat) (x : ChanX) : (s.setChan c x).committed = s.committed := rfl
@[simp] theorem State.setChan_sets (s : State) (c : Nat) (x : ChanX) : (s.setChan c x).sets = s.sets := rfl
@[simp] theorem State.setChan_armed (s : State) (c : Nat) (x : ChanX) : (s.setChan c x).armed = s.armed := rfl
@[simp] theorem State.setChan_queueC (s : State) (c : Nat) (x : ChanX) : (s.setChan c x).queueC = s.queueC := rfl
@[simp] theorem State.setChan_switchSt (s : State) (c : Nat) (x : ChanX) : (s.setChan c x).switchSt = s.switchSt := rfl
@[simp] theorem State.setChan_ens (s : State) (c : Nat) (x : ChanX) : (s.setChan c x).ens = s.ens := rfl
@[simp] theorem State.setChan_trims (s : State) (c : Nat) (x : ChanX) : (s.setChan c x).trims = s.trims := rfl
@[simp] theorem State.setChan_clusters (s : State) (c : Nat) (x : ChanX) : (s.setChan c x).clusters = s.clusters := rfl
@[simp] theorem State.setChan_latches (s : State) (c : Nat) (x : ChanX) : (s.setChan c x).latches = s.latches := rfl
@[simp] theorem State.setChan_parts (s : State) (c : Nat) (x : ChanX) : (s.setChan c x).parts = s.parts := rfl
@[simp] theorem State.setChan_groups (s : State) (c : Nat) (x : ChanX) : (s.setChan c x).groups = s.groups := rfl
@[simp] theorem State.setChan_actions (s : State) (c : Nat) (x : ChanX) : (s.setChan c x).actions = s.actions := rfl
@[simp] theorem State.setChan_caps (s : State) (c : Nat) (x : ChanX) : (s.setChan c x).caps = s.caps := rfl
@[simp] theorem State.setChan_mgmtDown (s : State) (c : Nat) (x : ChanX) : (s.setChan c x).mgmtDown = s.mgmtDown := rfl
@[simp] theorem State.setChan_stalled (s : State) (c : Nat) (x : ChanX) : (s.setChan c x).stalled = s.stalled := rfl
@[simp] theorem State.setChan_islandBad (s : State) (c : Nat) (x : ChanX) : (s.setChan c x).islandBad = s.islandBad := rfl
@[simp] theorem State.setChan_fabricFault (s : State) (c : Nat) (x : ChanX) : (s.setChan c x).fabricFault = s.fabricFault := rfl
@[simp] theorem State.setChan_safeN (s : State) (c : Nat) (x : ChanX) : (s.setChan c x).safeN = s.safeN := rfl
@[simp] theorem State.setChan_vioLost (s : State) (c : Nat) (x : ChanX) : (s.setChan c x).vioLost = s.vioLost := rfl
@[simp] theorem State.setChan_evRing (s : State) (c : Nat) (x : ChanX) : (s.setChan c x).evRing = s.evRing := rfl
@[simp] theorem State.setChan_evNext (s : State) (c : Nat) (x : ChanX) : (s.setChan c x).evNext = s.evNext := rfl
@[simp] theorem State.setChan_ev04At (s : State) (c : Nat) (x : ChanX) : (s.setChan c x).ev04At = s.ev04At := rfl
@[simp] theorem State.setChan_evQueues (s : State) (c : Nat) (x : ChanX) : (s.setChan c x).evQueues = s.evQueues := rfl
@[simp] theorem State.setChan_evQueueGap (s : State) (c : Nat) (x : ChanX) : (s.setChan c x).evQueueGap = s.evQueueGap := rfl
@[simp] theorem State.setChan_later (s : State) (c : Nat) (x : ChanX) : (s.setChan c x).later = s.later := rfl
@[simp] theorem State.setChan_sessions (s : State) (c : Nat) (x : ChanX) : (s.setChan c x).sessions = s.sessions := rfl
@[simp] theorem State.setChan_sessNext (s : State) (c : Nat) (x : ChanX) : (s.setChan c x).sessNext = s.sessNext := rfl
@[simp] theorem State.setChan_asms (s : State) (c : Nat) (x : ChanX) : (s.setChan c x).asms = s.asms := rfl
@[simp] theorem State.setChan_inbox (s : State) (c : Nat) (x : ChanX) : (s.setChan c x).inbox = s.inbox := rfl
@[simp] theorem State.setChan_waits (s : State) (c : Nat) (x : ChanX) : (s.setChan c x).waits = s.waits := rfl
@[simp] theorem State.setChan_outFrames (s : State) (c : Nat) (x : ChanX) : (s.setChan c x).outFrames = s.outFrames := rfl
@[simp] theorem State.setChan_downs (s : State) (c : Nat) (x : ChanX) : (s.setChan c x).downs = s.downs := rfl
@[simp] theorem State.setChan_t1sSleep (s : State) (c : Nat) (x : ChanX) : (s.setChan c x).t1sSleep = s.t1sSleep := rfl
@[simp] theorem State.setChan_keys (s : State) (c : Nat) (x : ChanX) : (s.setChan c x).keys = s.keys := rfl
@[simp] theorem State.setChan_streams (s : State) (c : Nat) (x : ChanX) : (s.setChan c x).streams = s.streams := rfl
@[simp] theorem State.setChan_ports (s : State) (c : Nat) (x : ChanX) : (s.setChan c x).ports = s.ports := rfl
@[simp] theorem State.setChan_entries (s : State) (c : Nat) (x : ChanX) : (s.setChan c x).entries = s.entries := rfl
@[simp] theorem State.setChan_svc (s : State) (c : Nat) (x : ChanX) : (s.setChan c x).svc = s.svc := rfl
@[simp] theorem State.setChan_peerOut (s : State) (c : Nat) (x : ChanX) : (s.setChan c x).peerOut = s.peerOut := rfl
@[simp] theorem State.setChan_peerTries (s : State) (c : Nat) (x : ChanX) : (s.setChan c x).peerTries = s.peerTries := rfl
@[simp] theorem State.setChan_peerReq (s : State) (c : Nat) (x : ChanX) : (s.setChan c x).peerReq = s.peerReq := rfl
@[simp] theorem State.setChan_peerReqsAt (s : State) (c : Nat) (x : ChanX) : (s.setChan c x).peerReqsAt = s.peerReqsAt := rfl
@[simp] theorem State.setChan_drives (s : State) (c : Nat) (x : ChanX) : (s.setChan c x).drives = s.drives := rfl
@[simp] theorem State.setChan_trestle (s : State) (c : Nat) (x : ChanX) : (s.setChan c x).trestle = s.trestle := rfl
@[simp] theorem State.setChan_thermal (s : State) (c : Nat) (x : ChanX) : (s.setChan c x).thermal = s.thermal := rfl
@[simp] theorem State.setChan_supply (s : State) (c : Nat) (x : ChanX) : (s.setChan c x).supply = s.supply := rfl
@[simp] theorem State.setChan_ledger (s : State) (c : Nat) (x : ChanX) : (s.setChan c x).ledger = s.ledger := rfl
@[simp] theorem State.setChan_log (s : State) (c : Nat) (x : ChanX) : (s.setChan c x).log = s.log := rfl
@[simp] theorem State.setChan_nv (s : State) (c : Nat) (x : ChanX) : (s.setChan c x).nv = s.nv := rfl
@[simp] theorem State.setChan_host (s : State) (c : Nat) (x : ChanX) : (s.setChan c x).host = s.host := rfl
@[simp] theorem State.setChan_sec (s : State) (c : Nat) (x : ChanX) : (s.setChan c x).sec = s.sec := rfl
@[simp] theorem State.setChan_flash (s : State) (c : Nat) (x : ChanX) : (s.setChan c x).flash = s.flash := rfl
@[simp] theorem State.setChan_granules (s : State) (c : Nat) (x : ChanX) : (s.setChan c x).granules = s.granules := rfl
@[simp] theorem State.setChan_sectors (s : State) (c : Nat) (x : ChanX) : (s.setChan c x).sectors = s.sectors := rfl
@[simp] theorem State.setChan_waitMaint (s : State) (c : Nat) (x : ChanX) : (s.setChan c x).waitMaint = s.waitMaint := rfl
@[simp] theorem State.setChan_fwWaitAt (s : State) (c : Nat) (x : ChanX) : (s.setChan c x).fwWaitAt = s.fwWaitAt := rfl
@[simp] theorem State.setChan_draws (s : State) (c : Nat) (x : ChanX) : (s.setChan c x).draws = s.draws := rfl
@[simp] theorem State.setChan_get_reg (s : State) (c : Nat) (x : ChanX) (i : Nat) : (s.setChan c x).reg i = s.reg i := rfl
@[simp] theorem State.setChan_get_act (s : State) (c : Nat) (x : ChanX) (i : Nat) : (s.setChan c x).act i = s.act i := rfl
@[simp] theorem State.setChan_get_shad (s : State) (c : Nat) (x : ChanX) (i : Nat) : (s.setChan c x).shad i = s.shad i := rfl
@[simp] theorem State.setChan_get_en (s : State) (c : Nat) (x : ChanX) (i : Nat) : (s.setChan c x).en i = s.en i := rfl
@[simp] theorem State.setChan_get_trim (s : State) (c : Nat) (x : ChanX) (i : Nat) : (s.setChan c x).trim i = s.trim i := rfl
@[simp] theorem State.setChan_get_cluster (s : State) (c : Nat) (x : ChanX) (i : Nat) : (s.setChan c x).cluster i = s.cluster i := rfl
@[simp] theorem State.setChan_get_latch (s : State) (c : Nat) (x : ChanX) (i j : Nat) : (s.setChan c x).latch i j = s.latch i j := rfl
@[simp] theorem State.setChan_get_part (s : State) (c : Nat) (x : ChanX) (i : Nat) : (s.setChan c x).part i = s.part i := rfl
@[simp] theorem State.setChan_get_group (s : State) (c : Nat) (x : ChanX) (i : Nat) : (s.setChan c x).group i = s.group i := rfl
@[simp] theorem State.setChan_get_cap (s : State) (c : Nat) (x : ChanX) (i : Nat) : (s.setChan c x).cap i = s.cap i := rfl
@[simp] theorem State.setChan_get_key (s : State) (c : Nat) (x : ChanX) (i : Nat) : (s.setChan c x).key i = s.key i := rfl
@[simp] theorem State.setChan_get_stream (s : State) (c : Nat) (x : ChanX) (i : Nat) : (s.setChan c x).stream i = s.stream i := rfl
@[simp] theorem State.setChan_get_port (s : State) (c : Nat) (x : ChanX) (i : Nat) : (s.setChan c x).port i = s.port i := rfl
@[simp] theorem State.setChan_get_entry (s : State) (c : Nat) (x : ChanX) (i : Nat) : (s.setChan c x).entry i = s.entry i := rfl
@[simp] theorem State.setChan_get_window (s : State) (c : Nat) (x : ChanX) (i : Nat) : (s.setChan c x).window i = s.window i := rfl
@[simp] theorem State.setChan_get_drive (s : State) (c : Nat) (x : ChanX) (i : Nat) : (s.setChan c x).drive i = s.drive i := rfl
@[simp] theorem State.setChan_get_stageSet (s : State) (c : Nat) (x : ChanX) (i : Nat) : (s.setChan c x).stageSet i = s.stageSet i := rfl
@[simp] theorem State.setChan_get_downCause (s : State) (c : Nat) (x : ChanX) (i : Nat) : (s.setChan c x).downCause i = s.downCause i := rfl
@[simp] theorem State.setChan_get_action (s : State) (c : Nat) (x : ChanX) (i : Nat) : (s.setChan c x).action i = s.action i := rfl

/-! ### setEn -/

@[simp] theorem State.setEn_pending (s : State) (c : Nat) (x : EnX) : (s.setEn c x).pending = s.pending := rfl
@[simp] theorem State.setEn_status (s : State) (c : Nat) (x : EnX) : (s.setEn c x).status = s.status := rfl
@[simp] theorem State.setEn_reply (s : State) (c : Nat) (x : EnX) : (s.setEn c x).reply = s.reply := rfl
@[simp] theorem State.setEn_now (s : State) (c : Nat) (x : EnX) : (s.setEn c x).now = s.now := rfl
@[simp] theorem State.setEn_timeFree (s : State) (c : Nat) (x : EnX) : (s.setEn c x).timeFree = s.timeFree := rfl
@[simp] theorem State.setEn_refFailAt (s : State) (c : Nat) (x : EnX) : (s.setEn c x).refFailAt = s.refFailAt := rfl
@[simp] theorem State.setEn_active (s : State) (c : Nat) (x : EnX) : (s.setEn c x).active = s.active := rfl
@[simp] theorem State.setEn_prior (s : State) (c : Nat) (x : EnX) : (s.setEn c x).prior = s.prior := rfl
@[simp] theorem State.setEn_shadow (s : State) (c : Nat) (x : EnX) : (s.setEn c x).shadow = s.shadow := rfl
@[simp] theorem State.setEn_regs (s : State) (c : Nat) (x : EnX) : (s.setEn c x).regs = s.regs := rfl
@[simp] theorem State.setEn_retained (s : State) (c : Nat) (x : EnX) : (s.setEn c x).retained = s.retained := rfl
@[simp] theorem State.setEn_committed (s : State) (c : Nat) (x : EnX) : (s.setEn c x).committed = s.committed := rfl
@[simp] theorem State.setEn_sets (s : State) (c : Nat) (x : EnX) : (s.setEn c x).sets = s.sets := rfl
@[simp] theorem State.setEn_armed (s : State) (c : Nat) (x : EnX) : (s.setEn c x).armed = s.armed := rfl
@[simp] theorem State.setEn_queueC (s : State) (c : Nat) (x : EnX) : (s.setEn c x).queueC = s.queueC := rfl
@[simp] theorem State.setEn_switchSt (s : State) (c : Nat) (x : EnX) : (s.setEn c x).switchSt = s.switchSt := rfl
@[simp] theorem State.setEn_chans (s : State) (c : Nat) (x : EnX) : (s.setEn c x).chans = s.chans := rfl
@[simp] theorem State.setEn_trims (s : State) (c : Nat) (x : EnX) : (s.setEn c x).trims = s.trims := rfl
@[simp] theorem State.setEn_clusters (s : State) (c : Nat) (x : EnX) : (s.setEn c x).clusters = s.clusters := rfl
@[simp] theorem State.setEn_latches (s : State) (c : Nat) (x : EnX) : (s.setEn c x).latches = s.latches := rfl
@[simp] theorem State.setEn_parts (s : State) (c : Nat) (x : EnX) : (s.setEn c x).parts = s.parts := rfl
@[simp] theorem State.setEn_groups (s : State) (c : Nat) (x : EnX) : (s.setEn c x).groups = s.groups := rfl
@[simp] theorem State.setEn_actions (s : State) (c : Nat) (x : EnX) : (s.setEn c x).actions = s.actions := rfl
@[simp] theorem State.setEn_caps (s : State) (c : Nat) (x : EnX) : (s.setEn c x).caps = s.caps := rfl
@[simp] theorem State.setEn_mgmtDown (s : State) (c : Nat) (x : EnX) : (s.setEn c x).mgmtDown = s.mgmtDown := rfl
@[simp] theorem State.setEn_stalled (s : State) (c : Nat) (x : EnX) : (s.setEn c x).stalled = s.stalled := rfl
@[simp] theorem State.setEn_islandBad (s : State) (c : Nat) (x : EnX) : (s.setEn c x).islandBad = s.islandBad := rfl
@[simp] theorem State.setEn_fabricFault (s : State) (c : Nat) (x : EnX) : (s.setEn c x).fabricFault = s.fabricFault := rfl
@[simp] theorem State.setEn_safeN (s : State) (c : Nat) (x : EnX) : (s.setEn c x).safeN = s.safeN := rfl
@[simp] theorem State.setEn_vioLost (s : State) (c : Nat) (x : EnX) : (s.setEn c x).vioLost = s.vioLost := rfl
@[simp] theorem State.setEn_evRing (s : State) (c : Nat) (x : EnX) : (s.setEn c x).evRing = s.evRing := rfl
@[simp] theorem State.setEn_evNext (s : State) (c : Nat) (x : EnX) : (s.setEn c x).evNext = s.evNext := rfl
@[simp] theorem State.setEn_ev04At (s : State) (c : Nat) (x : EnX) : (s.setEn c x).ev04At = s.ev04At := rfl
@[simp] theorem State.setEn_evQueues (s : State) (c : Nat) (x : EnX) : (s.setEn c x).evQueues = s.evQueues := rfl
@[simp] theorem State.setEn_evQueueGap (s : State) (c : Nat) (x : EnX) : (s.setEn c x).evQueueGap = s.evQueueGap := rfl
@[simp] theorem State.setEn_later (s : State) (c : Nat) (x : EnX) : (s.setEn c x).later = s.later := rfl
@[simp] theorem State.setEn_sessions (s : State) (c : Nat) (x : EnX) : (s.setEn c x).sessions = s.sessions := rfl
@[simp] theorem State.setEn_sessNext (s : State) (c : Nat) (x : EnX) : (s.setEn c x).sessNext = s.sessNext := rfl
@[simp] theorem State.setEn_asms (s : State) (c : Nat) (x : EnX) : (s.setEn c x).asms = s.asms := rfl
@[simp] theorem State.setEn_inbox (s : State) (c : Nat) (x : EnX) : (s.setEn c x).inbox = s.inbox := rfl
@[simp] theorem State.setEn_waits (s : State) (c : Nat) (x : EnX) : (s.setEn c x).waits = s.waits := rfl
@[simp] theorem State.setEn_outFrames (s : State) (c : Nat) (x : EnX) : (s.setEn c x).outFrames = s.outFrames := rfl
@[simp] theorem State.setEn_downs (s : State) (c : Nat) (x : EnX) : (s.setEn c x).downs = s.downs := rfl
@[simp] theorem State.setEn_t1sSleep (s : State) (c : Nat) (x : EnX) : (s.setEn c x).t1sSleep = s.t1sSleep := rfl
@[simp] theorem State.setEn_keys (s : State) (c : Nat) (x : EnX) : (s.setEn c x).keys = s.keys := rfl
@[simp] theorem State.setEn_streams (s : State) (c : Nat) (x : EnX) : (s.setEn c x).streams = s.streams := rfl
@[simp] theorem State.setEn_ports (s : State) (c : Nat) (x : EnX) : (s.setEn c x).ports = s.ports := rfl
@[simp] theorem State.setEn_entries (s : State) (c : Nat) (x : EnX) : (s.setEn c x).entries = s.entries := rfl
@[simp] theorem State.setEn_svc (s : State) (c : Nat) (x : EnX) : (s.setEn c x).svc = s.svc := rfl
@[simp] theorem State.setEn_peerOut (s : State) (c : Nat) (x : EnX) : (s.setEn c x).peerOut = s.peerOut := rfl
@[simp] theorem State.setEn_peerTries (s : State) (c : Nat) (x : EnX) : (s.setEn c x).peerTries = s.peerTries := rfl
@[simp] theorem State.setEn_peerReq (s : State) (c : Nat) (x : EnX) : (s.setEn c x).peerReq = s.peerReq := rfl
@[simp] theorem State.setEn_peerReqsAt (s : State) (c : Nat) (x : EnX) : (s.setEn c x).peerReqsAt = s.peerReqsAt := rfl
@[simp] theorem State.setEn_drives (s : State) (c : Nat) (x : EnX) : (s.setEn c x).drives = s.drives := rfl
@[simp] theorem State.setEn_trestle (s : State) (c : Nat) (x : EnX) : (s.setEn c x).trestle = s.trestle := rfl
@[simp] theorem State.setEn_thermal (s : State) (c : Nat) (x : EnX) : (s.setEn c x).thermal = s.thermal := rfl
@[simp] theorem State.setEn_supply (s : State) (c : Nat) (x : EnX) : (s.setEn c x).supply = s.supply := rfl
@[simp] theorem State.setEn_ledger (s : State) (c : Nat) (x : EnX) : (s.setEn c x).ledger = s.ledger := rfl
@[simp] theorem State.setEn_log (s : State) (c : Nat) (x : EnX) : (s.setEn c x).log = s.log := rfl
@[simp] theorem State.setEn_nv (s : State) (c : Nat) (x : EnX) : (s.setEn c x).nv = s.nv := rfl
@[simp] theorem State.setEn_host (s : State) (c : Nat) (x : EnX) : (s.setEn c x).host = s.host := rfl
@[simp] theorem State.setEn_sec (s : State) (c : Nat) (x : EnX) : (s.setEn c x).sec = s.sec := rfl
@[simp] theorem State.setEn_flash (s : State) (c : Nat) (x : EnX) : (s.setEn c x).flash = s.flash := rfl
@[simp] theorem State.setEn_granules (s : State) (c : Nat) (x : EnX) : (s.setEn c x).granules = s.granules := rfl
@[simp] theorem State.setEn_sectors (s : State) (c : Nat) (x : EnX) : (s.setEn c x).sectors = s.sectors := rfl
@[simp] theorem State.setEn_waitMaint (s : State) (c : Nat) (x : EnX) : (s.setEn c x).waitMaint = s.waitMaint := rfl
@[simp] theorem State.setEn_fwWaitAt (s : State) (c : Nat) (x : EnX) : (s.setEn c x).fwWaitAt = s.fwWaitAt := rfl
@[simp] theorem State.setEn_draws (s : State) (c : Nat) (x : EnX) : (s.setEn c x).draws = s.draws := rfl
@[simp] theorem State.setEn_get_reg (s : State) (c : Nat) (x : EnX) (i : Nat) : (s.setEn c x).reg i = s.reg i := rfl
@[simp] theorem State.setEn_get_act (s : State) (c : Nat) (x : EnX) (i : Nat) : (s.setEn c x).act i = s.act i := rfl
@[simp] theorem State.setEn_get_shad (s : State) (c : Nat) (x : EnX) (i : Nat) : (s.setEn c x).shad i = s.shad i := rfl
@[simp] theorem State.setEn_get_chan (s : State) (c : Nat) (x : EnX) (i : Nat) : (s.setEn c x).chan i = s.chan i := rfl
@[simp] theorem State.setEn_get_trim (s : State) (c : Nat) (x : EnX) (i : Nat) : (s.setEn c x).trim i = s.trim i := rfl
@[simp] theorem State.setEn_get_cluster (s : State) (c : Nat) (x : EnX) (i : Nat) : (s.setEn c x).cluster i = s.cluster i := rfl
@[simp] theorem State.setEn_get_latch (s : State) (c : Nat) (x : EnX) (i j : Nat) : (s.setEn c x).latch i j = s.latch i j := rfl
@[simp] theorem State.setEn_get_part (s : State) (c : Nat) (x : EnX) (i : Nat) : (s.setEn c x).part i = s.part i := rfl
@[simp] theorem State.setEn_get_group (s : State) (c : Nat) (x : EnX) (i : Nat) : (s.setEn c x).group i = s.group i := rfl
@[simp] theorem State.setEn_get_cap (s : State) (c : Nat) (x : EnX) (i : Nat) : (s.setEn c x).cap i = s.cap i := rfl
@[simp] theorem State.setEn_get_key (s : State) (c : Nat) (x : EnX) (i : Nat) : (s.setEn c x).key i = s.key i := rfl
@[simp] theorem State.setEn_get_stream (s : State) (c : Nat) (x : EnX) (i : Nat) : (s.setEn c x).stream i = s.stream i := rfl
@[simp] theorem State.setEn_get_port (s : State) (c : Nat) (x : EnX) (i : Nat) : (s.setEn c x).port i = s.port i := rfl
@[simp] theorem State.setEn_get_entry (s : State) (c : Nat) (x : EnX) (i : Nat) : (s.setEn c x).entry i = s.entry i := rfl
@[simp] theorem State.setEn_get_window (s : State) (c : Nat) (x : EnX) (i : Nat) : (s.setEn c x).window i = s.window i := rfl
@[simp] theorem State.setEn_get_drive (s : State) (c : Nat) (x : EnX) (i : Nat) : (s.setEn c x).drive i = s.drive i := rfl
@[simp] theorem State.setEn_get_stageSet (s : State) (c : Nat) (x : EnX) (i : Nat) : (s.setEn c x).stageSet i = s.stageSet i := rfl
@[simp] theorem State.setEn_get_downCause (s : State) (c : Nat) (x : EnX) (i : Nat) : (s.setEn c x).downCause i = s.downCause i := rfl
@[simp] theorem State.setEn_get_action (s : State) (c : Nat) (x : EnX) (i : Nat) : (s.setEn c x).action i = s.action i := rfl

/-! ### setTrim -/

@[simp] theorem State.setTrim_pending (s : State) (c : Nat) (x : TrimX) : (s.setTrim c x).pending = s.pending := rfl
@[simp] theorem State.setTrim_status (s : State) (c : Nat) (x : TrimX) : (s.setTrim c x).status = s.status := rfl
@[simp] theorem State.setTrim_reply (s : State) (c : Nat) (x : TrimX) : (s.setTrim c x).reply = s.reply := rfl
@[simp] theorem State.setTrim_now (s : State) (c : Nat) (x : TrimX) : (s.setTrim c x).now = s.now := rfl
@[simp] theorem State.setTrim_timeFree (s : State) (c : Nat) (x : TrimX) : (s.setTrim c x).timeFree = s.timeFree := rfl
@[simp] theorem State.setTrim_refFailAt (s : State) (c : Nat) (x : TrimX) : (s.setTrim c x).refFailAt = s.refFailAt := rfl
@[simp] theorem State.setTrim_active (s : State) (c : Nat) (x : TrimX) : (s.setTrim c x).active = s.active := rfl
@[simp] theorem State.setTrim_prior (s : State) (c : Nat) (x : TrimX) : (s.setTrim c x).prior = s.prior := rfl
@[simp] theorem State.setTrim_shadow (s : State) (c : Nat) (x : TrimX) : (s.setTrim c x).shadow = s.shadow := rfl
@[simp] theorem State.setTrim_regs (s : State) (c : Nat) (x : TrimX) : (s.setTrim c x).regs = s.regs := rfl
@[simp] theorem State.setTrim_retained (s : State) (c : Nat) (x : TrimX) : (s.setTrim c x).retained = s.retained := rfl
@[simp] theorem State.setTrim_committed (s : State) (c : Nat) (x : TrimX) : (s.setTrim c x).committed = s.committed := rfl
@[simp] theorem State.setTrim_sets (s : State) (c : Nat) (x : TrimX) : (s.setTrim c x).sets = s.sets := rfl
@[simp] theorem State.setTrim_armed (s : State) (c : Nat) (x : TrimX) : (s.setTrim c x).armed = s.armed := rfl
@[simp] theorem State.setTrim_queueC (s : State) (c : Nat) (x : TrimX) : (s.setTrim c x).queueC = s.queueC := rfl
@[simp] theorem State.setTrim_switchSt (s : State) (c : Nat) (x : TrimX) : (s.setTrim c x).switchSt = s.switchSt := rfl
@[simp] theorem State.setTrim_chans (s : State) (c : Nat) (x : TrimX) : (s.setTrim c x).chans = s.chans := rfl
@[simp] theorem State.setTrim_ens (s : State) (c : Nat) (x : TrimX) : (s.setTrim c x).ens = s.ens := rfl
@[simp] theorem State.setTrim_clusters (s : State) (c : Nat) (x : TrimX) : (s.setTrim c x).clusters = s.clusters := rfl
@[simp] theorem State.setTrim_latches (s : State) (c : Nat) (x : TrimX) : (s.setTrim c x).latches = s.latches := rfl
@[simp] theorem State.setTrim_parts (s : State) (c : Nat) (x : TrimX) : (s.setTrim c x).parts = s.parts := rfl
@[simp] theorem State.setTrim_groups (s : State) (c : Nat) (x : TrimX) : (s.setTrim c x).groups = s.groups := rfl
@[simp] theorem State.setTrim_actions (s : State) (c : Nat) (x : TrimX) : (s.setTrim c x).actions = s.actions := rfl
@[simp] theorem State.setTrim_caps (s : State) (c : Nat) (x : TrimX) : (s.setTrim c x).caps = s.caps := rfl
@[simp] theorem State.setTrim_mgmtDown (s : State) (c : Nat) (x : TrimX) : (s.setTrim c x).mgmtDown = s.mgmtDown := rfl
@[simp] theorem State.setTrim_stalled (s : State) (c : Nat) (x : TrimX) : (s.setTrim c x).stalled = s.stalled := rfl
@[simp] theorem State.setTrim_islandBad (s : State) (c : Nat) (x : TrimX) : (s.setTrim c x).islandBad = s.islandBad := rfl
@[simp] theorem State.setTrim_fabricFault (s : State) (c : Nat) (x : TrimX) : (s.setTrim c x).fabricFault = s.fabricFault := rfl
@[simp] theorem State.setTrim_safeN (s : State) (c : Nat) (x : TrimX) : (s.setTrim c x).safeN = s.safeN := rfl
@[simp] theorem State.setTrim_vioLost (s : State) (c : Nat) (x : TrimX) : (s.setTrim c x).vioLost = s.vioLost := rfl
@[simp] theorem State.setTrim_evRing (s : State) (c : Nat) (x : TrimX) : (s.setTrim c x).evRing = s.evRing := rfl
@[simp] theorem State.setTrim_evNext (s : State) (c : Nat) (x : TrimX) : (s.setTrim c x).evNext = s.evNext := rfl
@[simp] theorem State.setTrim_ev04At (s : State) (c : Nat) (x : TrimX) : (s.setTrim c x).ev04At = s.ev04At := rfl
@[simp] theorem State.setTrim_evQueues (s : State) (c : Nat) (x : TrimX) : (s.setTrim c x).evQueues = s.evQueues := rfl
@[simp] theorem State.setTrim_evQueueGap (s : State) (c : Nat) (x : TrimX) : (s.setTrim c x).evQueueGap = s.evQueueGap := rfl
@[simp] theorem State.setTrim_later (s : State) (c : Nat) (x : TrimX) : (s.setTrim c x).later = s.later := rfl
@[simp] theorem State.setTrim_sessions (s : State) (c : Nat) (x : TrimX) : (s.setTrim c x).sessions = s.sessions := rfl
@[simp] theorem State.setTrim_sessNext (s : State) (c : Nat) (x : TrimX) : (s.setTrim c x).sessNext = s.sessNext := rfl
@[simp] theorem State.setTrim_asms (s : State) (c : Nat) (x : TrimX) : (s.setTrim c x).asms = s.asms := rfl
@[simp] theorem State.setTrim_inbox (s : State) (c : Nat) (x : TrimX) : (s.setTrim c x).inbox = s.inbox := rfl
@[simp] theorem State.setTrim_waits (s : State) (c : Nat) (x : TrimX) : (s.setTrim c x).waits = s.waits := rfl
@[simp] theorem State.setTrim_outFrames (s : State) (c : Nat) (x : TrimX) : (s.setTrim c x).outFrames = s.outFrames := rfl
@[simp] theorem State.setTrim_downs (s : State) (c : Nat) (x : TrimX) : (s.setTrim c x).downs = s.downs := rfl
@[simp] theorem State.setTrim_t1sSleep (s : State) (c : Nat) (x : TrimX) : (s.setTrim c x).t1sSleep = s.t1sSleep := rfl
@[simp] theorem State.setTrim_keys (s : State) (c : Nat) (x : TrimX) : (s.setTrim c x).keys = s.keys := rfl
@[simp] theorem State.setTrim_streams (s : State) (c : Nat) (x : TrimX) : (s.setTrim c x).streams = s.streams := rfl
@[simp] theorem State.setTrim_ports (s : State) (c : Nat) (x : TrimX) : (s.setTrim c x).ports = s.ports := rfl
@[simp] theorem State.setTrim_entries (s : State) (c : Nat) (x : TrimX) : (s.setTrim c x).entries = s.entries := rfl
@[simp] theorem State.setTrim_svc (s : State) (c : Nat) (x : TrimX) : (s.setTrim c x).svc = s.svc := rfl
@[simp] theorem State.setTrim_peerOut (s : State) (c : Nat) (x : TrimX) : (s.setTrim c x).peerOut = s.peerOut := rfl
@[simp] theorem State.setTrim_peerTries (s : State) (c : Nat) (x : TrimX) : (s.setTrim c x).peerTries = s.peerTries := rfl
@[simp] theorem State.setTrim_peerReq (s : State) (c : Nat) (x : TrimX) : (s.setTrim c x).peerReq = s.peerReq := rfl
@[simp] theorem State.setTrim_peerReqsAt (s : State) (c : Nat) (x : TrimX) : (s.setTrim c x).peerReqsAt = s.peerReqsAt := rfl
@[simp] theorem State.setTrim_drives (s : State) (c : Nat) (x : TrimX) : (s.setTrim c x).drives = s.drives := rfl
@[simp] theorem State.setTrim_trestle (s : State) (c : Nat) (x : TrimX) : (s.setTrim c x).trestle = s.trestle := rfl
@[simp] theorem State.setTrim_thermal (s : State) (c : Nat) (x : TrimX) : (s.setTrim c x).thermal = s.thermal := rfl
@[simp] theorem State.setTrim_supply (s : State) (c : Nat) (x : TrimX) : (s.setTrim c x).supply = s.supply := rfl
@[simp] theorem State.setTrim_ledger (s : State) (c : Nat) (x : TrimX) : (s.setTrim c x).ledger = s.ledger := rfl
@[simp] theorem State.setTrim_log (s : State) (c : Nat) (x : TrimX) : (s.setTrim c x).log = s.log := rfl
@[simp] theorem State.setTrim_nv (s : State) (c : Nat) (x : TrimX) : (s.setTrim c x).nv = s.nv := rfl
@[simp] theorem State.setTrim_host (s : State) (c : Nat) (x : TrimX) : (s.setTrim c x).host = s.host := rfl
@[simp] theorem State.setTrim_sec (s : State) (c : Nat) (x : TrimX) : (s.setTrim c x).sec = s.sec := rfl
@[simp] theorem State.setTrim_flash (s : State) (c : Nat) (x : TrimX) : (s.setTrim c x).flash = s.flash := rfl
@[simp] theorem State.setTrim_granules (s : State) (c : Nat) (x : TrimX) : (s.setTrim c x).granules = s.granules := rfl
@[simp] theorem State.setTrim_sectors (s : State) (c : Nat) (x : TrimX) : (s.setTrim c x).sectors = s.sectors := rfl
@[simp] theorem State.setTrim_waitMaint (s : State) (c : Nat) (x : TrimX) : (s.setTrim c x).waitMaint = s.waitMaint := rfl
@[simp] theorem State.setTrim_fwWaitAt (s : State) (c : Nat) (x : TrimX) : (s.setTrim c x).fwWaitAt = s.fwWaitAt := rfl
@[simp] theorem State.setTrim_draws (s : State) (c : Nat) (x : TrimX) : (s.setTrim c x).draws = s.draws := rfl
@[simp] theorem State.setTrim_get_reg (s : State) (c : Nat) (x : TrimX) (i : Nat) : (s.setTrim c x).reg i = s.reg i := rfl
@[simp] theorem State.setTrim_get_act (s : State) (c : Nat) (x : TrimX) (i : Nat) : (s.setTrim c x).act i = s.act i := rfl
@[simp] theorem State.setTrim_get_shad (s : State) (c : Nat) (x : TrimX) (i : Nat) : (s.setTrim c x).shad i = s.shad i := rfl
@[simp] theorem State.setTrim_get_chan (s : State) (c : Nat) (x : TrimX) (i : Nat) : (s.setTrim c x).chan i = s.chan i := rfl
@[simp] theorem State.setTrim_get_en (s : State) (c : Nat) (x : TrimX) (i : Nat) : (s.setTrim c x).en i = s.en i := rfl
@[simp] theorem State.setTrim_get_cluster (s : State) (c : Nat) (x : TrimX) (i : Nat) : (s.setTrim c x).cluster i = s.cluster i := rfl
@[simp] theorem State.setTrim_get_latch (s : State) (c : Nat) (x : TrimX) (i j : Nat) : (s.setTrim c x).latch i j = s.latch i j := rfl
@[simp] theorem State.setTrim_get_part (s : State) (c : Nat) (x : TrimX) (i : Nat) : (s.setTrim c x).part i = s.part i := rfl
@[simp] theorem State.setTrim_get_group (s : State) (c : Nat) (x : TrimX) (i : Nat) : (s.setTrim c x).group i = s.group i := rfl
@[simp] theorem State.setTrim_get_cap (s : State) (c : Nat) (x : TrimX) (i : Nat) : (s.setTrim c x).cap i = s.cap i := rfl
@[simp] theorem State.setTrim_get_key (s : State) (c : Nat) (x : TrimX) (i : Nat) : (s.setTrim c x).key i = s.key i := rfl
@[simp] theorem State.setTrim_get_stream (s : State) (c : Nat) (x : TrimX) (i : Nat) : (s.setTrim c x).stream i = s.stream i := rfl
@[simp] theorem State.setTrim_get_port (s : State) (c : Nat) (x : TrimX) (i : Nat) : (s.setTrim c x).port i = s.port i := rfl
@[simp] theorem State.setTrim_get_entry (s : State) (c : Nat) (x : TrimX) (i : Nat) : (s.setTrim c x).entry i = s.entry i := rfl
@[simp] theorem State.setTrim_get_window (s : State) (c : Nat) (x : TrimX) (i : Nat) : (s.setTrim c x).window i = s.window i := rfl
@[simp] theorem State.setTrim_get_drive (s : State) (c : Nat) (x : TrimX) (i : Nat) : (s.setTrim c x).drive i = s.drive i := rfl
@[simp] theorem State.setTrim_get_stageSet (s : State) (c : Nat) (x : TrimX) (i : Nat) : (s.setTrim c x).stageSet i = s.stageSet i := rfl
@[simp] theorem State.setTrim_get_downCause (s : State) (c : Nat) (x : TrimX) (i : Nat) : (s.setTrim c x).downCause i = s.downCause i := rfl
@[simp] theorem State.setTrim_get_action (s : State) (c : Nat) (x : TrimX) (i : Nat) : (s.setTrim c x).action i = s.action i := rfl

/-! ### setCluster -/

@[simp] theorem State.setCluster_pending (s : State) (c : Nat) (x : ClusterX) : (s.setCluster c x).pending = s.pending := rfl
@[simp] theorem State.setCluster_status (s : State) (c : Nat) (x : ClusterX) : (s.setCluster c x).status = s.status := rfl
@[simp] theorem State.setCluster_reply (s : State) (c : Nat) (x : ClusterX) : (s.setCluster c x).reply = s.reply := rfl
@[simp] theorem State.setCluster_now (s : State) (c : Nat) (x : ClusterX) : (s.setCluster c x).now = s.now := rfl
@[simp] theorem State.setCluster_timeFree (s : State) (c : Nat) (x : ClusterX) : (s.setCluster c x).timeFree = s.timeFree := rfl
@[simp] theorem State.setCluster_refFailAt (s : State) (c : Nat) (x : ClusterX) : (s.setCluster c x).refFailAt = s.refFailAt := rfl
@[simp] theorem State.setCluster_active (s : State) (c : Nat) (x : ClusterX) : (s.setCluster c x).active = s.active := rfl
@[simp] theorem State.setCluster_prior (s : State) (c : Nat) (x : ClusterX) : (s.setCluster c x).prior = s.prior := rfl
@[simp] theorem State.setCluster_shadow (s : State) (c : Nat) (x : ClusterX) : (s.setCluster c x).shadow = s.shadow := rfl
@[simp] theorem State.setCluster_regs (s : State) (c : Nat) (x : ClusterX) : (s.setCluster c x).regs = s.regs := rfl
@[simp] theorem State.setCluster_retained (s : State) (c : Nat) (x : ClusterX) : (s.setCluster c x).retained = s.retained := rfl
@[simp] theorem State.setCluster_committed (s : State) (c : Nat) (x : ClusterX) : (s.setCluster c x).committed = s.committed := rfl
@[simp] theorem State.setCluster_sets (s : State) (c : Nat) (x : ClusterX) : (s.setCluster c x).sets = s.sets := rfl
@[simp] theorem State.setCluster_armed (s : State) (c : Nat) (x : ClusterX) : (s.setCluster c x).armed = s.armed := rfl
@[simp] theorem State.setCluster_queueC (s : State) (c : Nat) (x : ClusterX) : (s.setCluster c x).queueC = s.queueC := rfl
@[simp] theorem State.setCluster_switchSt (s : State) (c : Nat) (x : ClusterX) : (s.setCluster c x).switchSt = s.switchSt := rfl
@[simp] theorem State.setCluster_chans (s : State) (c : Nat) (x : ClusterX) : (s.setCluster c x).chans = s.chans := rfl
@[simp] theorem State.setCluster_ens (s : State) (c : Nat) (x : ClusterX) : (s.setCluster c x).ens = s.ens := rfl
@[simp] theorem State.setCluster_trims (s : State) (c : Nat) (x : ClusterX) : (s.setCluster c x).trims = s.trims := rfl
@[simp] theorem State.setCluster_latches (s : State) (c : Nat) (x : ClusterX) : (s.setCluster c x).latches = s.latches := rfl
@[simp] theorem State.setCluster_parts (s : State) (c : Nat) (x : ClusterX) : (s.setCluster c x).parts = s.parts := rfl
@[simp] theorem State.setCluster_groups (s : State) (c : Nat) (x : ClusterX) : (s.setCluster c x).groups = s.groups := rfl
@[simp] theorem State.setCluster_actions (s : State) (c : Nat) (x : ClusterX) : (s.setCluster c x).actions = s.actions := rfl
@[simp] theorem State.setCluster_caps (s : State) (c : Nat) (x : ClusterX) : (s.setCluster c x).caps = s.caps := rfl
@[simp] theorem State.setCluster_mgmtDown (s : State) (c : Nat) (x : ClusterX) : (s.setCluster c x).mgmtDown = s.mgmtDown := rfl
@[simp] theorem State.setCluster_stalled (s : State) (c : Nat) (x : ClusterX) : (s.setCluster c x).stalled = s.stalled := rfl
@[simp] theorem State.setCluster_islandBad (s : State) (c : Nat) (x : ClusterX) : (s.setCluster c x).islandBad = s.islandBad := rfl
@[simp] theorem State.setCluster_fabricFault (s : State) (c : Nat) (x : ClusterX) : (s.setCluster c x).fabricFault = s.fabricFault := rfl
@[simp] theorem State.setCluster_safeN (s : State) (c : Nat) (x : ClusterX) : (s.setCluster c x).safeN = s.safeN := rfl
@[simp] theorem State.setCluster_vioLost (s : State) (c : Nat) (x : ClusterX) : (s.setCluster c x).vioLost = s.vioLost := rfl
@[simp] theorem State.setCluster_evRing (s : State) (c : Nat) (x : ClusterX) : (s.setCluster c x).evRing = s.evRing := rfl
@[simp] theorem State.setCluster_evNext (s : State) (c : Nat) (x : ClusterX) : (s.setCluster c x).evNext = s.evNext := rfl
@[simp] theorem State.setCluster_ev04At (s : State) (c : Nat) (x : ClusterX) : (s.setCluster c x).ev04At = s.ev04At := rfl
@[simp] theorem State.setCluster_evQueues (s : State) (c : Nat) (x : ClusterX) : (s.setCluster c x).evQueues = s.evQueues := rfl
@[simp] theorem State.setCluster_evQueueGap (s : State) (c : Nat) (x : ClusterX) : (s.setCluster c x).evQueueGap = s.evQueueGap := rfl
@[simp] theorem State.setCluster_later (s : State) (c : Nat) (x : ClusterX) : (s.setCluster c x).later = s.later := rfl
@[simp] theorem State.setCluster_sessions (s : State) (c : Nat) (x : ClusterX) : (s.setCluster c x).sessions = s.sessions := rfl
@[simp] theorem State.setCluster_sessNext (s : State) (c : Nat) (x : ClusterX) : (s.setCluster c x).sessNext = s.sessNext := rfl
@[simp] theorem State.setCluster_asms (s : State) (c : Nat) (x : ClusterX) : (s.setCluster c x).asms = s.asms := rfl
@[simp] theorem State.setCluster_inbox (s : State) (c : Nat) (x : ClusterX) : (s.setCluster c x).inbox = s.inbox := rfl
@[simp] theorem State.setCluster_waits (s : State) (c : Nat) (x : ClusterX) : (s.setCluster c x).waits = s.waits := rfl
@[simp] theorem State.setCluster_outFrames (s : State) (c : Nat) (x : ClusterX) : (s.setCluster c x).outFrames = s.outFrames := rfl
@[simp] theorem State.setCluster_downs (s : State) (c : Nat) (x : ClusterX) : (s.setCluster c x).downs = s.downs := rfl
@[simp] theorem State.setCluster_t1sSleep (s : State) (c : Nat) (x : ClusterX) : (s.setCluster c x).t1sSleep = s.t1sSleep := rfl
@[simp] theorem State.setCluster_keys (s : State) (c : Nat) (x : ClusterX) : (s.setCluster c x).keys = s.keys := rfl
@[simp] theorem State.setCluster_streams (s : State) (c : Nat) (x : ClusterX) : (s.setCluster c x).streams = s.streams := rfl
@[simp] theorem State.setCluster_ports (s : State) (c : Nat) (x : ClusterX) : (s.setCluster c x).ports = s.ports := rfl
@[simp] theorem State.setCluster_entries (s : State) (c : Nat) (x : ClusterX) : (s.setCluster c x).entries = s.entries := rfl
@[simp] theorem State.setCluster_svc (s : State) (c : Nat) (x : ClusterX) : (s.setCluster c x).svc = s.svc := rfl
@[simp] theorem State.setCluster_peerOut (s : State) (c : Nat) (x : ClusterX) : (s.setCluster c x).peerOut = s.peerOut := rfl
@[simp] theorem State.setCluster_peerTries (s : State) (c : Nat) (x : ClusterX) : (s.setCluster c x).peerTries = s.peerTries := rfl
@[simp] theorem State.setCluster_peerReq (s : State) (c : Nat) (x : ClusterX) : (s.setCluster c x).peerReq = s.peerReq := rfl
@[simp] theorem State.setCluster_peerReqsAt (s : State) (c : Nat) (x : ClusterX) : (s.setCluster c x).peerReqsAt = s.peerReqsAt := rfl
@[simp] theorem State.setCluster_drives (s : State) (c : Nat) (x : ClusterX) : (s.setCluster c x).drives = s.drives := rfl
@[simp] theorem State.setCluster_trestle (s : State) (c : Nat) (x : ClusterX) : (s.setCluster c x).trestle = s.trestle := rfl
@[simp] theorem State.setCluster_thermal (s : State) (c : Nat) (x : ClusterX) : (s.setCluster c x).thermal = s.thermal := rfl
@[simp] theorem State.setCluster_supply (s : State) (c : Nat) (x : ClusterX) : (s.setCluster c x).supply = s.supply := rfl
@[simp] theorem State.setCluster_ledger (s : State) (c : Nat) (x : ClusterX) : (s.setCluster c x).ledger = s.ledger := rfl
@[simp] theorem State.setCluster_log (s : State) (c : Nat) (x : ClusterX) : (s.setCluster c x).log = s.log := rfl
@[simp] theorem State.setCluster_nv (s : State) (c : Nat) (x : ClusterX) : (s.setCluster c x).nv = s.nv := rfl
@[simp] theorem State.setCluster_host (s : State) (c : Nat) (x : ClusterX) : (s.setCluster c x).host = s.host := rfl
@[simp] theorem State.setCluster_sec (s : State) (c : Nat) (x : ClusterX) : (s.setCluster c x).sec = s.sec := rfl
@[simp] theorem State.setCluster_flash (s : State) (c : Nat) (x : ClusterX) : (s.setCluster c x).flash = s.flash := rfl
@[simp] theorem State.setCluster_granules (s : State) (c : Nat) (x : ClusterX) : (s.setCluster c x).granules = s.granules := rfl
@[simp] theorem State.setCluster_sectors (s : State) (c : Nat) (x : ClusterX) : (s.setCluster c x).sectors = s.sectors := rfl
@[simp] theorem State.setCluster_waitMaint (s : State) (c : Nat) (x : ClusterX) : (s.setCluster c x).waitMaint = s.waitMaint := rfl
@[simp] theorem State.setCluster_fwWaitAt (s : State) (c : Nat) (x : ClusterX) : (s.setCluster c x).fwWaitAt = s.fwWaitAt := rfl
@[simp] theorem State.setCluster_draws (s : State) (c : Nat) (x : ClusterX) : (s.setCluster c x).draws = s.draws := rfl
@[simp] theorem State.setCluster_get_reg (s : State) (c : Nat) (x : ClusterX) (i : Nat) : (s.setCluster c x).reg i = s.reg i := rfl
@[simp] theorem State.setCluster_get_act (s : State) (c : Nat) (x : ClusterX) (i : Nat) : (s.setCluster c x).act i = s.act i := rfl
@[simp] theorem State.setCluster_get_shad (s : State) (c : Nat) (x : ClusterX) (i : Nat) : (s.setCluster c x).shad i = s.shad i := rfl
@[simp] theorem State.setCluster_get_chan (s : State) (c : Nat) (x : ClusterX) (i : Nat) : (s.setCluster c x).chan i = s.chan i := rfl
@[simp] theorem State.setCluster_get_en (s : State) (c : Nat) (x : ClusterX) (i : Nat) : (s.setCluster c x).en i = s.en i := rfl
@[simp] theorem State.setCluster_get_trim (s : State) (c : Nat) (x : ClusterX) (i : Nat) : (s.setCluster c x).trim i = s.trim i := rfl
@[simp] theorem State.setCluster_get_latch (s : State) (c : Nat) (x : ClusterX) (i j : Nat) : (s.setCluster c x).latch i j = s.latch i j := rfl
@[simp] theorem State.setCluster_get_part (s : State) (c : Nat) (x : ClusterX) (i : Nat) : (s.setCluster c x).part i = s.part i := rfl
@[simp] theorem State.setCluster_get_group (s : State) (c : Nat) (x : ClusterX) (i : Nat) : (s.setCluster c x).group i = s.group i := rfl
@[simp] theorem State.setCluster_get_cap (s : State) (c : Nat) (x : ClusterX) (i : Nat) : (s.setCluster c x).cap i = s.cap i := rfl
@[simp] theorem State.setCluster_get_key (s : State) (c : Nat) (x : ClusterX) (i : Nat) : (s.setCluster c x).key i = s.key i := rfl
@[simp] theorem State.setCluster_get_stream (s : State) (c : Nat) (x : ClusterX) (i : Nat) : (s.setCluster c x).stream i = s.stream i := rfl
@[simp] theorem State.setCluster_get_port (s : State) (c : Nat) (x : ClusterX) (i : Nat) : (s.setCluster c x).port i = s.port i := rfl
@[simp] theorem State.setCluster_get_entry (s : State) (c : Nat) (x : ClusterX) (i : Nat) : (s.setCluster c x).entry i = s.entry i := rfl
@[simp] theorem State.setCluster_get_window (s : State) (c : Nat) (x : ClusterX) (i : Nat) : (s.setCluster c x).window i = s.window i := rfl
@[simp] theorem State.setCluster_get_drive (s : State) (c : Nat) (x : ClusterX) (i : Nat) : (s.setCluster c x).drive i = s.drive i := rfl
@[simp] theorem State.setCluster_get_stageSet (s : State) (c : Nat) (x : ClusterX) (i : Nat) : (s.setCluster c x).stageSet i = s.stageSet i := rfl
@[simp] theorem State.setCluster_get_downCause (s : State) (c : Nat) (x : ClusterX) (i : Nat) : (s.setCluster c x).downCause i = s.downCause i := rfl
@[simp] theorem State.setCluster_get_action (s : State) (c : Nat) (x : ClusterX) (i : Nat) : (s.setCluster c x).action i = s.action i := rfl

/-! ### setLatch -/

@[simp] theorem State.setLatch_pending (s : State) (c p : Nat) (x : Latch) : (s.setLatch c p x).pending = s.pending := rfl
@[simp] theorem State.setLatch_status (s : State) (c p : Nat) (x : Latch) : (s.setLatch c p x).status = s.status := rfl
@[simp] theorem State.setLatch_reply (s : State) (c p : Nat) (x : Latch) : (s.setLatch c p x).reply = s.reply := rfl
@[simp] theorem State.setLatch_now (s : State) (c p : Nat) (x : Latch) : (s.setLatch c p x).now = s.now := rfl
@[simp] theorem State.setLatch_timeFree (s : State) (c p : Nat) (x : Latch) : (s.setLatch c p x).timeFree = s.timeFree := rfl
@[simp] theorem State.setLatch_refFailAt (s : State) (c p : Nat) (x : Latch) : (s.setLatch c p x).refFailAt = s.refFailAt := rfl
@[simp] theorem State.setLatch_active (s : State) (c p : Nat) (x : Latch) : (s.setLatch c p x).active = s.active := rfl
@[simp] theorem State.setLatch_prior (s : State) (c p : Nat) (x : Latch) : (s.setLatch c p x).prior = s.prior := rfl
@[simp] theorem State.setLatch_shadow (s : State) (c p : Nat) (x : Latch) : (s.setLatch c p x).shadow = s.shadow := rfl
@[simp] theorem State.setLatch_regs (s : State) (c p : Nat) (x : Latch) : (s.setLatch c p x).regs = s.regs := rfl
@[simp] theorem State.setLatch_retained (s : State) (c p : Nat) (x : Latch) : (s.setLatch c p x).retained = s.retained := rfl
@[simp] theorem State.setLatch_committed (s : State) (c p : Nat) (x : Latch) : (s.setLatch c p x).committed = s.committed := rfl
@[simp] theorem State.setLatch_sets (s : State) (c p : Nat) (x : Latch) : (s.setLatch c p x).sets = s.sets := rfl
@[simp] theorem State.setLatch_armed (s : State) (c p : Nat) (x : Latch) : (s.setLatch c p x).armed = s.armed := rfl
@[simp] theorem State.setLatch_queueC (s : State) (c p : Nat) (x : Latch) : (s.setLatch c p x).queueC = s.queueC := rfl
@[simp] theorem State.setLatch_switchSt (s : State) (c p : Nat) (x : Latch) : (s.setLatch c p x).switchSt = s.switchSt := rfl
@[simp] theorem State.setLatch_chans (s : State) (c p : Nat) (x : Latch) : (s.setLatch c p x).chans = s.chans := rfl
@[simp] theorem State.setLatch_ens (s : State) (c p : Nat) (x : Latch) : (s.setLatch c p x).ens = s.ens := rfl
@[simp] theorem State.setLatch_trims (s : State) (c p : Nat) (x : Latch) : (s.setLatch c p x).trims = s.trims := rfl
@[simp] theorem State.setLatch_clusters (s : State) (c p : Nat) (x : Latch) : (s.setLatch c p x).clusters = s.clusters := rfl
@[simp] theorem State.setLatch_parts (s : State) (c p : Nat) (x : Latch) : (s.setLatch c p x).parts = s.parts := rfl
@[simp] theorem State.setLatch_groups (s : State) (c p : Nat) (x : Latch) : (s.setLatch c p x).groups = s.groups := rfl
@[simp] theorem State.setLatch_actions (s : State) (c p : Nat) (x : Latch) : (s.setLatch c p x).actions = s.actions := rfl
@[simp] theorem State.setLatch_caps (s : State) (c p : Nat) (x : Latch) : (s.setLatch c p x).caps = s.caps := rfl
@[simp] theorem State.setLatch_mgmtDown (s : State) (c p : Nat) (x : Latch) : (s.setLatch c p x).mgmtDown = s.mgmtDown := rfl
@[simp] theorem State.setLatch_stalled (s : State) (c p : Nat) (x : Latch) : (s.setLatch c p x).stalled = s.stalled := rfl
@[simp] theorem State.setLatch_islandBad (s : State) (c p : Nat) (x : Latch) : (s.setLatch c p x).islandBad = s.islandBad := rfl
@[simp] theorem State.setLatch_fabricFault (s : State) (c p : Nat) (x : Latch) : (s.setLatch c p x).fabricFault = s.fabricFault := rfl
@[simp] theorem State.setLatch_safeN (s : State) (c p : Nat) (x : Latch) : (s.setLatch c p x).safeN = s.safeN := rfl
@[simp] theorem State.setLatch_vioLost (s : State) (c p : Nat) (x : Latch) : (s.setLatch c p x).vioLost = s.vioLost := rfl
@[simp] theorem State.setLatch_evRing (s : State) (c p : Nat) (x : Latch) : (s.setLatch c p x).evRing = s.evRing := rfl
@[simp] theorem State.setLatch_evNext (s : State) (c p : Nat) (x : Latch) : (s.setLatch c p x).evNext = s.evNext := rfl
@[simp] theorem State.setLatch_ev04At (s : State) (c p : Nat) (x : Latch) : (s.setLatch c p x).ev04At = s.ev04At := rfl
@[simp] theorem State.setLatch_evQueues (s : State) (c p : Nat) (x : Latch) : (s.setLatch c p x).evQueues = s.evQueues := rfl
@[simp] theorem State.setLatch_evQueueGap (s : State) (c p : Nat) (x : Latch) : (s.setLatch c p x).evQueueGap = s.evQueueGap := rfl
@[simp] theorem State.setLatch_later (s : State) (c p : Nat) (x : Latch) : (s.setLatch c p x).later = s.later := rfl
@[simp] theorem State.setLatch_sessions (s : State) (c p : Nat) (x : Latch) : (s.setLatch c p x).sessions = s.sessions := rfl
@[simp] theorem State.setLatch_sessNext (s : State) (c p : Nat) (x : Latch) : (s.setLatch c p x).sessNext = s.sessNext := rfl
@[simp] theorem State.setLatch_asms (s : State) (c p : Nat) (x : Latch) : (s.setLatch c p x).asms = s.asms := rfl
@[simp] theorem State.setLatch_inbox (s : State) (c p : Nat) (x : Latch) : (s.setLatch c p x).inbox = s.inbox := rfl
@[simp] theorem State.setLatch_waits (s : State) (c p : Nat) (x : Latch) : (s.setLatch c p x).waits = s.waits := rfl
@[simp] theorem State.setLatch_outFrames (s : State) (c p : Nat) (x : Latch) : (s.setLatch c p x).outFrames = s.outFrames := rfl
@[simp] theorem State.setLatch_downs (s : State) (c p : Nat) (x : Latch) : (s.setLatch c p x).downs = s.downs := rfl
@[simp] theorem State.setLatch_t1sSleep (s : State) (c p : Nat) (x : Latch) : (s.setLatch c p x).t1sSleep = s.t1sSleep := rfl
@[simp] theorem State.setLatch_keys (s : State) (c p : Nat) (x : Latch) : (s.setLatch c p x).keys = s.keys := rfl
@[simp] theorem State.setLatch_streams (s : State) (c p : Nat) (x : Latch) : (s.setLatch c p x).streams = s.streams := rfl
@[simp] theorem State.setLatch_ports (s : State) (c p : Nat) (x : Latch) : (s.setLatch c p x).ports = s.ports := rfl
@[simp] theorem State.setLatch_entries (s : State) (c p : Nat) (x : Latch) : (s.setLatch c p x).entries = s.entries := rfl
@[simp] theorem State.setLatch_svc (s : State) (c p : Nat) (x : Latch) : (s.setLatch c p x).svc = s.svc := rfl
@[simp] theorem State.setLatch_peerOut (s : State) (c p : Nat) (x : Latch) : (s.setLatch c p x).peerOut = s.peerOut := rfl
@[simp] theorem State.setLatch_peerTries (s : State) (c p : Nat) (x : Latch) : (s.setLatch c p x).peerTries = s.peerTries := rfl
@[simp] theorem State.setLatch_peerReq (s : State) (c p : Nat) (x : Latch) : (s.setLatch c p x).peerReq = s.peerReq := rfl
@[simp] theorem State.setLatch_peerReqsAt (s : State) (c p : Nat) (x : Latch) : (s.setLatch c p x).peerReqsAt = s.peerReqsAt := rfl
@[simp] theorem State.setLatch_drives (s : State) (c p : Nat) (x : Latch) : (s.setLatch c p x).drives = s.drives := rfl
@[simp] theorem State.setLatch_trestle (s : State) (c p : Nat) (x : Latch) : (s.setLatch c p x).trestle = s.trestle := rfl
@[simp] theorem State.setLatch_thermal (s : State) (c p : Nat) (x : Latch) : (s.setLatch c p x).thermal = s.thermal := rfl
@[simp] theorem State.setLatch_supply (s : State) (c p : Nat) (x : Latch) : (s.setLatch c p x).supply = s.supply := rfl
@[simp] theorem State.setLatch_ledger (s : State) (c p : Nat) (x : Latch) : (s.setLatch c p x).ledger = s.ledger := rfl
@[simp] theorem State.setLatch_log (s : State) (c p : Nat) (x : Latch) : (s.setLatch c p x).log = s.log := rfl
@[simp] theorem State.setLatch_nv (s : State) (c p : Nat) (x : Latch) : (s.setLatch c p x).nv = s.nv := rfl
@[simp] theorem State.setLatch_host (s : State) (c p : Nat) (x : Latch) : (s.setLatch c p x).host = s.host := rfl
@[simp] theorem State.setLatch_sec (s : State) (c p : Nat) (x : Latch) : (s.setLatch c p x).sec = s.sec := rfl
@[simp] theorem State.setLatch_flash (s : State) (c p : Nat) (x : Latch) : (s.setLatch c p x).flash = s.flash := rfl
@[simp] theorem State.setLatch_granules (s : State) (c p : Nat) (x : Latch) : (s.setLatch c p x).granules = s.granules := rfl
@[simp] theorem State.setLatch_sectors (s : State) (c p : Nat) (x : Latch) : (s.setLatch c p x).sectors = s.sectors := rfl
@[simp] theorem State.setLatch_waitMaint (s : State) (c p : Nat) (x : Latch) : (s.setLatch c p x).waitMaint = s.waitMaint := rfl
@[simp] theorem State.setLatch_fwWaitAt (s : State) (c p : Nat) (x : Latch) : (s.setLatch c p x).fwWaitAt = s.fwWaitAt := rfl
@[simp] theorem State.setLatch_draws (s : State) (c p : Nat) (x : Latch) : (s.setLatch c p x).draws = s.draws := rfl
@[simp] theorem State.setLatch_get_reg (s : State) (c p : Nat) (x : Latch) (i : Nat) : (s.setLatch c p x).reg i = s.reg i := rfl
@[simp] theorem State.setLatch_get_act (s : State) (c p : Nat) (x : Latch) (i : Nat) : (s.setLatch c p x).act i = s.act i := rfl
@[simp] theorem State.setLatch_get_shad (s : State) (c p : Nat) (x : Latch) (i : Nat) : (s.setLatch c p x).shad i = s.shad i := rfl
@[simp] theorem State.setLatch_get_chan (s : State) (c p : Nat) (x : Latch) (i : Nat) : (s.setLatch c p x).chan i = s.chan i := rfl
@[simp] theorem State.setLatch_get_en (s : State) (c p : Nat) (x : Latch) (i : Nat) : (s.setLatch c p x).en i = s.en i := rfl
@[simp] theorem State.setLatch_get_trim (s : State) (c p : Nat) (x : Latch) (i : Nat) : (s.setLatch c p x).trim i = s.trim i := rfl
@[simp] theorem State.setLatch_get_cluster (s : State) (c p : Nat) (x : Latch) (i : Nat) : (s.setLatch c p x).cluster i = s.cluster i := rfl
@[simp] theorem State.setLatch_get_part (s : State) (c p : Nat) (x : Latch) (i : Nat) : (s.setLatch c p x).part i = s.part i := rfl
@[simp] theorem State.setLatch_get_group (s : State) (c p : Nat) (x : Latch) (i : Nat) : (s.setLatch c p x).group i = s.group i := rfl
@[simp] theorem State.setLatch_get_cap (s : State) (c p : Nat) (x : Latch) (i : Nat) : (s.setLatch c p x).cap i = s.cap i := rfl
@[simp] theorem State.setLatch_get_key (s : State) (c p : Nat) (x : Latch) (i : Nat) : (s.setLatch c p x).key i = s.key i := rfl
@[simp] theorem State.setLatch_get_stream (s : State) (c p : Nat) (x : Latch) (i : Nat) : (s.setLatch c p x).stream i = s.stream i := rfl
@[simp] theorem State.setLatch_get_port (s : State) (c p : Nat) (x : Latch) (i : Nat) : (s.setLatch c p x).port i = s.port i := rfl
@[simp] theorem State.setLatch_get_entry (s : State) (c p : Nat) (x : Latch) (i : Nat) : (s.setLatch c p x).entry i = s.entry i := rfl
@[simp] theorem State.setLatch_get_window (s : State) (c p : Nat) (x : Latch) (i : Nat) : (s.setLatch c p x).window i = s.window i := rfl
@[simp] theorem State.setLatch_get_drive (s : State) (c p : Nat) (x : Latch) (i : Nat) : (s.setLatch c p x).drive i = s.drive i := rfl
@[simp] theorem State.setLatch_get_stageSet (s : State) (c p : Nat) (x : Latch) (i : Nat) : (s.setLatch c p x).stageSet i = s.stageSet i := rfl
@[simp] theorem State.setLatch_get_downCause (s : State) (c p : Nat) (x : Latch) (i : Nat) : (s.setLatch c p x).downCause i = s.downCause i := rfl
@[simp] theorem State.setLatch_get_action (s : State) (c p : Nat) (x : Latch) (i : Nat) : (s.setLatch c p x).action i = s.action i := rfl

/-! ### setPart -/

@[simp] theorem State.setPart_pending (s : State) (c : Nat) (x : PartX) : (s.setPart c x).pending = s.pending := rfl
@[simp] theorem State.setPart_status (s : State) (c : Nat) (x : PartX) : (s.setPart c x).status = s.status := rfl
@[simp] theorem State.setPart_reply (s : State) (c : Nat) (x : PartX) : (s.setPart c x).reply = s.reply := rfl
@[simp] theorem State.setPart_now (s : State) (c : Nat) (x : PartX) : (s.setPart c x).now = s.now := rfl
@[simp] theorem State.setPart_timeFree (s : State) (c : Nat) (x : PartX) : (s.setPart c x).timeFree = s.timeFree := rfl
@[simp] theorem State.setPart_refFailAt (s : State) (c : Nat) (x : PartX) : (s.setPart c x).refFailAt = s.refFailAt := rfl
@[simp] theorem State.setPart_active (s : State) (c : Nat) (x : PartX) : (s.setPart c x).active = s.active := rfl
@[simp] theorem State.setPart_prior (s : State) (c : Nat) (x : PartX) : (s.setPart c x).prior = s.prior := rfl
@[simp] theorem State.setPart_shadow (s : State) (c : Nat) (x : PartX) : (s.setPart c x).shadow = s.shadow := rfl
@[simp] theorem State.setPart_regs (s : State) (c : Nat) (x : PartX) : (s.setPart c x).regs = s.regs := rfl
@[simp] theorem State.setPart_retained (s : State) (c : Nat) (x : PartX) : (s.setPart c x).retained = s.retained := rfl
@[simp] theorem State.setPart_committed (s : State) (c : Nat) (x : PartX) : (s.setPart c x).committed = s.committed := rfl
@[simp] theorem State.setPart_sets (s : State) (c : Nat) (x : PartX) : (s.setPart c x).sets = s.sets := rfl
@[simp] theorem State.setPart_armed (s : State) (c : Nat) (x : PartX) : (s.setPart c x).armed = s.armed := rfl
@[simp] theorem State.setPart_queueC (s : State) (c : Nat) (x : PartX) : (s.setPart c x).queueC = s.queueC := rfl
@[simp] theorem State.setPart_switchSt (s : State) (c : Nat) (x : PartX) : (s.setPart c x).switchSt = s.switchSt := rfl
@[simp] theorem State.setPart_chans (s : State) (c : Nat) (x : PartX) : (s.setPart c x).chans = s.chans := rfl
@[simp] theorem State.setPart_ens (s : State) (c : Nat) (x : PartX) : (s.setPart c x).ens = s.ens := rfl
@[simp] theorem State.setPart_trims (s : State) (c : Nat) (x : PartX) : (s.setPart c x).trims = s.trims := rfl
@[simp] theorem State.setPart_clusters (s : State) (c : Nat) (x : PartX) : (s.setPart c x).clusters = s.clusters := rfl
@[simp] theorem State.setPart_latches (s : State) (c : Nat) (x : PartX) : (s.setPart c x).latches = s.latches := rfl
@[simp] theorem State.setPart_groups (s : State) (c : Nat) (x : PartX) : (s.setPart c x).groups = s.groups := rfl
@[simp] theorem State.setPart_actions (s : State) (c : Nat) (x : PartX) : (s.setPart c x).actions = s.actions := rfl
@[simp] theorem State.setPart_caps (s : State) (c : Nat) (x : PartX) : (s.setPart c x).caps = s.caps := rfl
@[simp] theorem State.setPart_mgmtDown (s : State) (c : Nat) (x : PartX) : (s.setPart c x).mgmtDown = s.mgmtDown := rfl
@[simp] theorem State.setPart_stalled (s : State) (c : Nat) (x : PartX) : (s.setPart c x).stalled = s.stalled := rfl
@[simp] theorem State.setPart_islandBad (s : State) (c : Nat) (x : PartX) : (s.setPart c x).islandBad = s.islandBad := rfl
@[simp] theorem State.setPart_fabricFault (s : State) (c : Nat) (x : PartX) : (s.setPart c x).fabricFault = s.fabricFault := rfl
@[simp] theorem State.setPart_safeN (s : State) (c : Nat) (x : PartX) : (s.setPart c x).safeN = s.safeN := rfl
@[simp] theorem State.setPart_vioLost (s : State) (c : Nat) (x : PartX) : (s.setPart c x).vioLost = s.vioLost := rfl
@[simp] theorem State.setPart_evRing (s : State) (c : Nat) (x : PartX) : (s.setPart c x).evRing = s.evRing := rfl
@[simp] theorem State.setPart_evNext (s : State) (c : Nat) (x : PartX) : (s.setPart c x).evNext = s.evNext := rfl
@[simp] theorem State.setPart_ev04At (s : State) (c : Nat) (x : PartX) : (s.setPart c x).ev04At = s.ev04At := rfl
@[simp] theorem State.setPart_evQueues (s : State) (c : Nat) (x : PartX) : (s.setPart c x).evQueues = s.evQueues := rfl
@[simp] theorem State.setPart_evQueueGap (s : State) (c : Nat) (x : PartX) : (s.setPart c x).evQueueGap = s.evQueueGap := rfl
@[simp] theorem State.setPart_later (s : State) (c : Nat) (x : PartX) : (s.setPart c x).later = s.later := rfl
@[simp] theorem State.setPart_sessions (s : State) (c : Nat) (x : PartX) : (s.setPart c x).sessions = s.sessions := rfl
@[simp] theorem State.setPart_sessNext (s : State) (c : Nat) (x : PartX) : (s.setPart c x).sessNext = s.sessNext := rfl
@[simp] theorem State.setPart_asms (s : State) (c : Nat) (x : PartX) : (s.setPart c x).asms = s.asms := rfl
@[simp] theorem State.setPart_inbox (s : State) (c : Nat) (x : PartX) : (s.setPart c x).inbox = s.inbox := rfl
@[simp] theorem State.setPart_waits (s : State) (c : Nat) (x : PartX) : (s.setPart c x).waits = s.waits := rfl
@[simp] theorem State.setPart_outFrames (s : State) (c : Nat) (x : PartX) : (s.setPart c x).outFrames = s.outFrames := rfl
@[simp] theorem State.setPart_downs (s : State) (c : Nat) (x : PartX) : (s.setPart c x).downs = s.downs := rfl
@[simp] theorem State.setPart_t1sSleep (s : State) (c : Nat) (x : PartX) : (s.setPart c x).t1sSleep = s.t1sSleep := rfl
@[simp] theorem State.setPart_keys (s : State) (c : Nat) (x : PartX) : (s.setPart c x).keys = s.keys := rfl
@[simp] theorem State.setPart_streams (s : State) (c : Nat) (x : PartX) : (s.setPart c x).streams = s.streams := rfl
@[simp] theorem State.setPart_ports (s : State) (c : Nat) (x : PartX) : (s.setPart c x).ports = s.ports := rfl
@[simp] theorem State.setPart_entries (s : State) (c : Nat) (x : PartX) : (s.setPart c x).entries = s.entries := rfl
@[simp] theorem State.setPart_svc (s : State) (c : Nat) (x : PartX) : (s.setPart c x).svc = s.svc := rfl
@[simp] theorem State.setPart_peerOut (s : State) (c : Nat) (x : PartX) : (s.setPart c x).peerOut = s.peerOut := rfl
@[simp] theorem State.setPart_peerTries (s : State) (c : Nat) (x : PartX) : (s.setPart c x).peerTries = s.peerTries := rfl
@[simp] theorem State.setPart_peerReq (s : State) (c : Nat) (x : PartX) : (s.setPart c x).peerReq = s.peerReq := rfl
@[simp] theorem State.setPart_peerReqsAt (s : State) (c : Nat) (x : PartX) : (s.setPart c x).peerReqsAt = s.peerReqsAt := rfl
@[simp] theorem State.setPart_drives (s : State) (c : Nat) (x : PartX) : (s.setPart c x).drives = s.drives := rfl
@[simp] theorem State.setPart_trestle (s : State) (c : Nat) (x : PartX) : (s.setPart c x).trestle = s.trestle := rfl
@[simp] theorem State.setPart_thermal (s : State) (c : Nat) (x : PartX) : (s.setPart c x).thermal = s.thermal := rfl
@[simp] theorem State.setPart_supply (s : State) (c : Nat) (x : PartX) : (s.setPart c x).supply = s.supply := rfl
@[simp] theorem State.setPart_ledger (s : State) (c : Nat) (x : PartX) : (s.setPart c x).ledger = s.ledger := rfl
@[simp] theorem State.setPart_log (s : State) (c : Nat) (x : PartX) : (s.setPart c x).log = s.log := rfl
@[simp] theorem State.setPart_nv (s : State) (c : Nat) (x : PartX) : (s.setPart c x).nv = s.nv := rfl
@[simp] theorem State.setPart_host (s : State) (c : Nat) (x : PartX) : (s.setPart c x).host = s.host := rfl
@[simp] theorem State.setPart_sec (s : State) (c : Nat) (x : PartX) : (s.setPart c x).sec = s.sec := rfl
@[simp] theorem State.setPart_flash (s : State) (c : Nat) (x : PartX) : (s.setPart c x).flash = s.flash := rfl
@[simp] theorem State.setPart_granules (s : State) (c : Nat) (x : PartX) : (s.setPart c x).granules = s.granules := rfl
@[simp] theorem State.setPart_sectors (s : State) (c : Nat) (x : PartX) : (s.setPart c x).sectors = s.sectors := rfl
@[simp] theorem State.setPart_waitMaint (s : State) (c : Nat) (x : PartX) : (s.setPart c x).waitMaint = s.waitMaint := rfl
@[simp] theorem State.setPart_fwWaitAt (s : State) (c : Nat) (x : PartX) : (s.setPart c x).fwWaitAt = s.fwWaitAt := rfl
@[simp] theorem State.setPart_draws (s : State) (c : Nat) (x : PartX) : (s.setPart c x).draws = s.draws := rfl
@[simp] theorem State.setPart_get_reg (s : State) (c : Nat) (x : PartX) (i : Nat) : (s.setPart c x).reg i = s.reg i := rfl
@[simp] theorem State.setPart_get_act (s : State) (c : Nat) (x : PartX) (i : Nat) : (s.setPart c x).act i = s.act i := rfl
@[simp] theorem State.setPart_get_shad (s : State) (c : Nat) (x : PartX) (i : Nat) : (s.setPart c x).shad i = s.shad i := rfl
@[simp] theorem State.setPart_get_chan (s : State) (c : Nat) (x : PartX) (i : Nat) : (s.setPart c x).chan i = s.chan i := rfl
@[simp] theorem State.setPart_get_en (s : State) (c : Nat) (x : PartX) (i : Nat) : (s.setPart c x).en i = s.en i := rfl
@[simp] theorem State.setPart_get_trim (s : State) (c : Nat) (x : PartX) (i : Nat) : (s.setPart c x).trim i = s.trim i := rfl
@[simp] theorem State.setPart_get_cluster (s : State) (c : Nat) (x : PartX) (i : Nat) : (s.setPart c x).cluster i = s.cluster i := rfl
@[simp] theorem State.setPart_get_latch (s : State) (c : Nat) (x : PartX) (i j : Nat) : (s.setPart c x).latch i j = s.latch i j := rfl
@[simp] theorem State.setPart_get_group (s : State) (c : Nat) (x : PartX) (i : Nat) : (s.setPart c x).group i = s.group i := rfl
@[simp] theorem State.setPart_get_cap (s : State) (c : Nat) (x : PartX) (i : Nat) : (s.setPart c x).cap i = s.cap i := rfl
@[simp] theorem State.setPart_get_key (s : State) (c : Nat) (x : PartX) (i : Nat) : (s.setPart c x).key i = s.key i := rfl
@[simp] theorem State.setPart_get_stream (s : State) (c : Nat) (x : PartX) (i : Nat) : (s.setPart c x).stream i = s.stream i := rfl
@[simp] theorem State.setPart_get_port (s : State) (c : Nat) (x : PartX) (i : Nat) : (s.setPart c x).port i = s.port i := rfl
@[simp] theorem State.setPart_get_entry (s : State) (c : Nat) (x : PartX) (i : Nat) : (s.setPart c x).entry i = s.entry i := rfl
@[simp] theorem State.setPart_get_window (s : State) (c : Nat) (x : PartX) (i : Nat) : (s.setPart c x).window i = s.window i := rfl
@[simp] theorem State.setPart_get_drive (s : State) (c : Nat) (x : PartX) (i : Nat) : (s.setPart c x).drive i = s.drive i := rfl
@[simp] theorem State.setPart_get_stageSet (s : State) (c : Nat) (x : PartX) (i : Nat) : (s.setPart c x).stageSet i = s.stageSet i := rfl
@[simp] theorem State.setPart_get_downCause (s : State) (c : Nat) (x : PartX) (i : Nat) : (s.setPart c x).downCause i = s.downCause i := rfl
@[simp] theorem State.setPart_get_action (s : State) (c : Nat) (x : PartX) (i : Nat) : (s.setPart c x).action i = s.action i := rfl

/-! ### setGroup -/

@[simp] theorem State.setGroup_pending (s : State) (c : Nat) (x : GroupX) : (s.setGroup c x).pending = s.pending := rfl
@[simp] theorem State.setGroup_status (s : State) (c : Nat) (x : GroupX) : (s.setGroup c x).status = s.status := rfl
@[simp] theorem State.setGroup_reply (s : State) (c : Nat) (x : GroupX) : (s.setGroup c x).reply = s.reply := rfl
@[simp] theorem State.setGroup_now (s : State) (c : Nat) (x : GroupX) : (s.setGroup c x).now = s.now := rfl
@[simp] theorem State.setGroup_timeFree (s : State) (c : Nat) (x : GroupX) : (s.setGroup c x).timeFree = s.timeFree := rfl
@[simp] theorem State.setGroup_refFailAt (s : State) (c : Nat) (x : GroupX) : (s.setGroup c x).refFailAt = s.refFailAt := rfl
@[simp] theorem State.setGroup_active (s : State) (c : Nat) (x : GroupX) : (s.setGroup c x).active = s.active := rfl
@[simp] theorem State.setGroup_prior (s : State) (c : Nat) (x : GroupX) : (s.setGroup c x).prior = s.prior := rfl
@[simp] theorem State.setGroup_shadow (s : State) (c : Nat) (x : GroupX) : (s.setGroup c x).shadow = s.shadow := rfl
@[simp] theorem State.setGroup_regs (s : State) (c : Nat) (x : GroupX) : (s.setGroup c x).regs = s.regs := rfl
@[simp] theorem State.setGroup_retained (s : State) (c : Nat) (x : GroupX) : (s.setGroup c x).retained = s.retained := rfl
@[simp] theorem State.setGroup_committed (s : State) (c : Nat) (x : GroupX) : (s.setGroup c x).committed = s.committed := rfl
@[simp] theorem State.setGroup_sets (s : State) (c : Nat) (x : GroupX) : (s.setGroup c x).sets = s.sets := rfl
@[simp] theorem State.setGroup_armed (s : State) (c : Nat) (x : GroupX) : (s.setGroup c x).armed = s.armed := rfl
@[simp] theorem State.setGroup_queueC (s : State) (c : Nat) (x : GroupX) : (s.setGroup c x).queueC = s.queueC := rfl
@[simp] theorem State.setGroup_switchSt (s : State) (c : Nat) (x : GroupX) : (s.setGroup c x).switchSt = s.switchSt := rfl
@[simp] theorem State.setGroup_chans (s : State) (c : Nat) (x : GroupX) : (s.setGroup c x).chans = s.chans := rfl
@[simp] theorem State.setGroup_ens (s : State) (c : Nat) (x : GroupX) : (s.setGroup c x).ens = s.ens := rfl
@[simp] theorem State.setGroup_trims (s : State) (c : Nat) (x : GroupX) : (s.setGroup c x).trims = s.trims := rfl
@[simp] theorem State.setGroup_clusters (s : State) (c : Nat) (x : GroupX) : (s.setGroup c x).clusters = s.clusters := rfl
@[simp] theorem State.setGroup_latches (s : State) (c : Nat) (x : GroupX) : (s.setGroup c x).latches = s.latches := rfl
@[simp] theorem State.setGroup_parts (s : State) (c : Nat) (x : GroupX) : (s.setGroup c x).parts = s.parts := rfl
@[simp] theorem State.setGroup_actions (s : State) (c : Nat) (x : GroupX) : (s.setGroup c x).actions = s.actions := rfl
@[simp] theorem State.setGroup_caps (s : State) (c : Nat) (x : GroupX) : (s.setGroup c x).caps = s.caps := rfl
@[simp] theorem State.setGroup_mgmtDown (s : State) (c : Nat) (x : GroupX) : (s.setGroup c x).mgmtDown = s.mgmtDown := rfl
@[simp] theorem State.setGroup_stalled (s : State) (c : Nat) (x : GroupX) : (s.setGroup c x).stalled = s.stalled := rfl
@[simp] theorem State.setGroup_islandBad (s : State) (c : Nat) (x : GroupX) : (s.setGroup c x).islandBad = s.islandBad := rfl
@[simp] theorem State.setGroup_fabricFault (s : State) (c : Nat) (x : GroupX) : (s.setGroup c x).fabricFault = s.fabricFault := rfl
@[simp] theorem State.setGroup_safeN (s : State) (c : Nat) (x : GroupX) : (s.setGroup c x).safeN = s.safeN := rfl
@[simp] theorem State.setGroup_vioLost (s : State) (c : Nat) (x : GroupX) : (s.setGroup c x).vioLost = s.vioLost := rfl
@[simp] theorem State.setGroup_evRing (s : State) (c : Nat) (x : GroupX) : (s.setGroup c x).evRing = s.evRing := rfl
@[simp] theorem State.setGroup_evNext (s : State) (c : Nat) (x : GroupX) : (s.setGroup c x).evNext = s.evNext := rfl
@[simp] theorem State.setGroup_ev04At (s : State) (c : Nat) (x : GroupX) : (s.setGroup c x).ev04At = s.ev04At := rfl
@[simp] theorem State.setGroup_evQueues (s : State) (c : Nat) (x : GroupX) : (s.setGroup c x).evQueues = s.evQueues := rfl
@[simp] theorem State.setGroup_evQueueGap (s : State) (c : Nat) (x : GroupX) : (s.setGroup c x).evQueueGap = s.evQueueGap := rfl
@[simp] theorem State.setGroup_later (s : State) (c : Nat) (x : GroupX) : (s.setGroup c x).later = s.later := rfl
@[simp] theorem State.setGroup_sessions (s : State) (c : Nat) (x : GroupX) : (s.setGroup c x).sessions = s.sessions := rfl
@[simp] theorem State.setGroup_sessNext (s : State) (c : Nat) (x : GroupX) : (s.setGroup c x).sessNext = s.sessNext := rfl
@[simp] theorem State.setGroup_asms (s : State) (c : Nat) (x : GroupX) : (s.setGroup c x).asms = s.asms := rfl
@[simp] theorem State.setGroup_inbox (s : State) (c : Nat) (x : GroupX) : (s.setGroup c x).inbox = s.inbox := rfl
@[simp] theorem State.setGroup_waits (s : State) (c : Nat) (x : GroupX) : (s.setGroup c x).waits = s.waits := rfl
@[simp] theorem State.setGroup_outFrames (s : State) (c : Nat) (x : GroupX) : (s.setGroup c x).outFrames = s.outFrames := rfl
@[simp] theorem State.setGroup_downs (s : State) (c : Nat) (x : GroupX) : (s.setGroup c x).downs = s.downs := rfl
@[simp] theorem State.setGroup_t1sSleep (s : State) (c : Nat) (x : GroupX) : (s.setGroup c x).t1sSleep = s.t1sSleep := rfl
@[simp] theorem State.setGroup_keys (s : State) (c : Nat) (x : GroupX) : (s.setGroup c x).keys = s.keys := rfl
@[simp] theorem State.setGroup_streams (s : State) (c : Nat) (x : GroupX) : (s.setGroup c x).streams = s.streams := rfl
@[simp] theorem State.setGroup_ports (s : State) (c : Nat) (x : GroupX) : (s.setGroup c x).ports = s.ports := rfl
@[simp] theorem State.setGroup_entries (s : State) (c : Nat) (x : GroupX) : (s.setGroup c x).entries = s.entries := rfl
@[simp] theorem State.setGroup_svc (s : State) (c : Nat) (x : GroupX) : (s.setGroup c x).svc = s.svc := rfl
@[simp] theorem State.setGroup_peerOut (s : State) (c : Nat) (x : GroupX) : (s.setGroup c x).peerOut = s.peerOut := rfl
@[simp] theorem State.setGroup_peerTries (s : State) (c : Nat) (x : GroupX) : (s.setGroup c x).peerTries = s.peerTries := rfl
@[simp] theorem State.setGroup_peerReq (s : State) (c : Nat) (x : GroupX) : (s.setGroup c x).peerReq = s.peerReq := rfl
@[simp] theorem State.setGroup_peerReqsAt (s : State) (c : Nat) (x : GroupX) : (s.setGroup c x).peerReqsAt = s.peerReqsAt := rfl
@[simp] theorem State.setGroup_drives (s : State) (c : Nat) (x : GroupX) : (s.setGroup c x).drives = s.drives := rfl
@[simp] theorem State.setGroup_trestle (s : State) (c : Nat) (x : GroupX) : (s.setGroup c x).trestle = s.trestle := rfl
@[simp] theorem State.setGroup_thermal (s : State) (c : Nat) (x : GroupX) : (s.setGroup c x).thermal = s.thermal := rfl
@[simp] theorem State.setGroup_supply (s : State) (c : Nat) (x : GroupX) : (s.setGroup c x).supply = s.supply := rfl
@[simp] theorem State.setGroup_ledger (s : State) (c : Nat) (x : GroupX) : (s.setGroup c x).ledger = s.ledger := rfl
@[simp] theorem State.setGroup_log (s : State) (c : Nat) (x : GroupX) : (s.setGroup c x).log = s.log := rfl
@[simp] theorem State.setGroup_nv (s : State) (c : Nat) (x : GroupX) : (s.setGroup c x).nv = s.nv := rfl
@[simp] theorem State.setGroup_host (s : State) (c : Nat) (x : GroupX) : (s.setGroup c x).host = s.host := rfl
@[simp] theorem State.setGroup_sec (s : State) (c : Nat) (x : GroupX) : (s.setGroup c x).sec = s.sec := rfl
@[simp] theorem State.setGroup_flash (s : State) (c : Nat) (x : GroupX) : (s.setGroup c x).flash = s.flash := rfl
@[simp] theorem State.setGroup_granules (s : State) (c : Nat) (x : GroupX) : (s.setGroup c x).granules = s.granules := rfl
@[simp] theorem State.setGroup_sectors (s : State) (c : Nat) (x : GroupX) : (s.setGroup c x).sectors = s.sectors := rfl
@[simp] theorem State.setGroup_waitMaint (s : State) (c : Nat) (x : GroupX) : (s.setGroup c x).waitMaint = s.waitMaint := rfl
@[simp] theorem State.setGroup_fwWaitAt (s : State) (c : Nat) (x : GroupX) : (s.setGroup c x).fwWaitAt = s.fwWaitAt := rfl
@[simp] theorem State.setGroup_draws (s : State) (c : Nat) (x : GroupX) : (s.setGroup c x).draws = s.draws := rfl
@[simp] theorem State.setGroup_get_reg (s : State) (c : Nat) (x : GroupX) (i : Nat) : (s.setGroup c x).reg i = s.reg i := rfl
@[simp] theorem State.setGroup_get_act (s : State) (c : Nat) (x : GroupX) (i : Nat) : (s.setGroup c x).act i = s.act i := rfl
@[simp] theorem State.setGroup_get_shad (s : State) (c : Nat) (x : GroupX) (i : Nat) : (s.setGroup c x).shad i = s.shad i := rfl
@[simp] theorem State.setGroup_get_chan (s : State) (c : Nat) (x : GroupX) (i : Nat) : (s.setGroup c x).chan i = s.chan i := rfl
@[simp] theorem State.setGroup_get_en (s : State) (c : Nat) (x : GroupX) (i : Nat) : (s.setGroup c x).en i = s.en i := rfl
@[simp] theorem State.setGroup_get_trim (s : State) (c : Nat) (x : GroupX) (i : Nat) : (s.setGroup c x).trim i = s.trim i := rfl
@[simp] theorem State.setGroup_get_cluster (s : State) (c : Nat) (x : GroupX) (i : Nat) : (s.setGroup c x).cluster i = s.cluster i := rfl
@[simp] theorem State.setGroup_get_latch (s : State) (c : Nat) (x : GroupX) (i j : Nat) : (s.setGroup c x).latch i j = s.latch i j := rfl
@[simp] theorem State.setGroup_get_part (s : State) (c : Nat) (x : GroupX) (i : Nat) : (s.setGroup c x).part i = s.part i := rfl
@[simp] theorem State.setGroup_get_cap (s : State) (c : Nat) (x : GroupX) (i : Nat) : (s.setGroup c x).cap i = s.cap i := rfl
@[simp] theorem State.setGroup_get_key (s : State) (c : Nat) (x : GroupX) (i : Nat) : (s.setGroup c x).key i = s.key i := rfl
@[simp] theorem State.setGroup_get_stream (s : State) (c : Nat) (x : GroupX) (i : Nat) : (s.setGroup c x).stream i = s.stream i := rfl
@[simp] theorem State.setGroup_get_port (s : State) (c : Nat) (x : GroupX) (i : Nat) : (s.setGroup c x).port i = s.port i := rfl
@[simp] theorem State.setGroup_get_entry (s : State) (c : Nat) (x : GroupX) (i : Nat) : (s.setGroup c x).entry i = s.entry i := rfl
@[simp] theorem State.setGroup_get_window (s : State) (c : Nat) (x : GroupX) (i : Nat) : (s.setGroup c x).window i = s.window i := rfl
@[simp] theorem State.setGroup_get_drive (s : State) (c : Nat) (x : GroupX) (i : Nat) : (s.setGroup c x).drive i = s.drive i := rfl
@[simp] theorem State.setGroup_get_stageSet (s : State) (c : Nat) (x : GroupX) (i : Nat) : (s.setGroup c x).stageSet i = s.stageSet i := rfl
@[simp] theorem State.setGroup_get_downCause (s : State) (c : Nat) (x : GroupX) (i : Nat) : (s.setGroup c x).downCause i = s.downCause i := rfl
@[simp] theorem State.setGroup_get_action (s : State) (c : Nat) (x : GroupX) (i : Nat) : (s.setGroup c x).action i = s.action i := rfl

/-! ### setCap -/

@[simp] theorem State.setCap_pending (s : State) (c : Nat) (x : CapX) : (s.setCap c x).pending = s.pending := rfl
@[simp] theorem State.setCap_status (s : State) (c : Nat) (x : CapX) : (s.setCap c x).status = s.status := rfl
@[simp] theorem State.setCap_reply (s : State) (c : Nat) (x : CapX) : (s.setCap c x).reply = s.reply := rfl
@[simp] theorem State.setCap_now (s : State) (c : Nat) (x : CapX) : (s.setCap c x).now = s.now := rfl
@[simp] theorem State.setCap_timeFree (s : State) (c : Nat) (x : CapX) : (s.setCap c x).timeFree = s.timeFree := rfl
@[simp] theorem State.setCap_refFailAt (s : State) (c : Nat) (x : CapX) : (s.setCap c x).refFailAt = s.refFailAt := rfl
@[simp] theorem State.setCap_active (s : State) (c : Nat) (x : CapX) : (s.setCap c x).active = s.active := rfl
@[simp] theorem State.setCap_prior (s : State) (c : Nat) (x : CapX) : (s.setCap c x).prior = s.prior := rfl
@[simp] theorem State.setCap_shadow (s : State) (c : Nat) (x : CapX) : (s.setCap c x).shadow = s.shadow := rfl
@[simp] theorem State.setCap_regs (s : State) (c : Nat) (x : CapX) : (s.setCap c x).regs = s.regs := rfl
@[simp] theorem State.setCap_retained (s : State) (c : Nat) (x : CapX) : (s.setCap c x).retained = s.retained := rfl
@[simp] theorem State.setCap_committed (s : State) (c : Nat) (x : CapX) : (s.setCap c x).committed = s.committed := rfl
@[simp] theorem State.setCap_sets (s : State) (c : Nat) (x : CapX) : (s.setCap c x).sets = s.sets := rfl
@[simp] theorem State.setCap_armed (s : State) (c : Nat) (x : CapX) : (s.setCap c x).armed = s.armed := rfl
@[simp] theorem State.setCap_queueC (s : State) (c : Nat) (x : CapX) : (s.setCap c x).queueC = s.queueC := rfl
@[simp] theorem State.setCap_switchSt (s : State) (c : Nat) (x : CapX) : (s.setCap c x).switchSt = s.switchSt := rfl
@[simp] theorem State.setCap_chans (s : State) (c : Nat) (x : CapX) : (s.setCap c x).chans = s.chans := rfl
@[simp] theorem State.setCap_ens (s : State) (c : Nat) (x : CapX) : (s.setCap c x).ens = s.ens := rfl
@[simp] theorem State.setCap_trims (s : State) (c : Nat) (x : CapX) : (s.setCap c x).trims = s.trims := rfl
@[simp] theorem State.setCap_clusters (s : State) (c : Nat) (x : CapX) : (s.setCap c x).clusters = s.clusters := rfl
@[simp] theorem State.setCap_latches (s : State) (c : Nat) (x : CapX) : (s.setCap c x).latches = s.latches := rfl
@[simp] theorem State.setCap_parts (s : State) (c : Nat) (x : CapX) : (s.setCap c x).parts = s.parts := rfl
@[simp] theorem State.setCap_groups (s : State) (c : Nat) (x : CapX) : (s.setCap c x).groups = s.groups := rfl
@[simp] theorem State.setCap_actions (s : State) (c : Nat) (x : CapX) : (s.setCap c x).actions = s.actions := rfl
@[simp] theorem State.setCap_mgmtDown (s : State) (c : Nat) (x : CapX) : (s.setCap c x).mgmtDown = s.mgmtDown := rfl
@[simp] theorem State.setCap_stalled (s : State) (c : Nat) (x : CapX) : (s.setCap c x).stalled = s.stalled := rfl
@[simp] theorem State.setCap_islandBad (s : State) (c : Nat) (x : CapX) : (s.setCap c x).islandBad = s.islandBad := rfl
@[simp] theorem State.setCap_fabricFault (s : State) (c : Nat) (x : CapX) : (s.setCap c x).fabricFault = s.fabricFault := rfl
@[simp] theorem State.setCap_safeN (s : State) (c : Nat) (x : CapX) : (s.setCap c x).safeN = s.safeN := rfl
@[simp] theorem State.setCap_vioLost (s : State) (c : Nat) (x : CapX) : (s.setCap c x).vioLost = s.vioLost := rfl
@[simp] theorem State.setCap_evRing (s : State) (c : Nat) (x : CapX) : (s.setCap c x).evRing = s.evRing := rfl
@[simp] theorem State.setCap_evNext (s : State) (c : Nat) (x : CapX) : (s.setCap c x).evNext = s.evNext := rfl
@[simp] theorem State.setCap_ev04At (s : State) (c : Nat) (x : CapX) : (s.setCap c x).ev04At = s.ev04At := rfl
@[simp] theorem State.setCap_evQueues (s : State) (c : Nat) (x : CapX) : (s.setCap c x).evQueues = s.evQueues := rfl
@[simp] theorem State.setCap_evQueueGap (s : State) (c : Nat) (x : CapX) : (s.setCap c x).evQueueGap = s.evQueueGap := rfl
@[simp] theorem State.setCap_later (s : State) (c : Nat) (x : CapX) : (s.setCap c x).later = s.later := rfl
@[simp] theorem State.setCap_sessions (s : State) (c : Nat) (x : CapX) : (s.setCap c x).sessions = s.sessions := rfl
@[simp] theorem State.setCap_sessNext (s : State) (c : Nat) (x : CapX) : (s.setCap c x).sessNext = s.sessNext := rfl
@[simp] theorem State.setCap_asms (s : State) (c : Nat) (x : CapX) : (s.setCap c x).asms = s.asms := rfl
@[simp] theorem State.setCap_inbox (s : State) (c : Nat) (x : CapX) : (s.setCap c x).inbox = s.inbox := rfl
@[simp] theorem State.setCap_waits (s : State) (c : Nat) (x : CapX) : (s.setCap c x).waits = s.waits := rfl
@[simp] theorem State.setCap_outFrames (s : State) (c : Nat) (x : CapX) : (s.setCap c x).outFrames = s.outFrames := rfl
@[simp] theorem State.setCap_downs (s : State) (c : Nat) (x : CapX) : (s.setCap c x).downs = s.downs := rfl
@[simp] theorem State.setCap_t1sSleep (s : State) (c : Nat) (x : CapX) : (s.setCap c x).t1sSleep = s.t1sSleep := rfl
@[simp] theorem State.setCap_keys (s : State) (c : Nat) (x : CapX) : (s.setCap c x).keys = s.keys := rfl
@[simp] theorem State.setCap_streams (s : State) (c : Nat) (x : CapX) : (s.setCap c x).streams = s.streams := rfl
@[simp] theorem State.setCap_ports (s : State) (c : Nat) (x : CapX) : (s.setCap c x).ports = s.ports := rfl
@[simp] theorem State.setCap_entries (s : State) (c : Nat) (x : CapX) : (s.setCap c x).entries = s.entries := rfl
@[simp] theorem State.setCap_svc (s : State) (c : Nat) (x : CapX) : (s.setCap c x).svc = s.svc := rfl
@[simp] theorem State.setCap_peerOut (s : State) (c : Nat) (x : CapX) : (s.setCap c x).peerOut = s.peerOut := rfl
@[simp] theorem State.setCap_peerTries (s : State) (c : Nat) (x : CapX) : (s.setCap c x).peerTries = s.peerTries := rfl
@[simp] theorem State.setCap_peerReq (s : State) (c : Nat) (x : CapX) : (s.setCap c x).peerReq = s.peerReq := rfl
@[simp] theorem State.setCap_peerReqsAt (s : State) (c : Nat) (x : CapX) : (s.setCap c x).peerReqsAt = s.peerReqsAt := rfl
@[simp] theorem State.setCap_drives (s : State) (c : Nat) (x : CapX) : (s.setCap c x).drives = s.drives := rfl
@[simp] theorem State.setCap_trestle (s : State) (c : Nat) (x : CapX) : (s.setCap c x).trestle = s.trestle := rfl
@[simp] theorem State.setCap_thermal (s : State) (c : Nat) (x : CapX) : (s.setCap c x).thermal = s.thermal := rfl
@[simp] theorem State.setCap_supply (s : State) (c : Nat) (x : CapX) : (s.setCap c x).supply = s.supply := rfl
@[simp] theorem State.setCap_ledger (s : State) (c : Nat) (x : CapX) : (s.setCap c x).ledger = s.ledger := rfl
@[simp] theorem State.setCap_log (s : State) (c : Nat) (x : CapX) : (s.setCap c x).log = s.log := rfl
@[simp] theorem State.setCap_nv (s : State) (c : Nat) (x : CapX) : (s.setCap c x).nv = s.nv := rfl
@[simp] theorem State.setCap_host (s : State) (c : Nat) (x : CapX) : (s.setCap c x).host = s.host := rfl
@[simp] theorem State.setCap_sec (s : State) (c : Nat) (x : CapX) : (s.setCap c x).sec = s.sec := rfl
@[simp] theorem State.setCap_flash (s : State) (c : Nat) (x : CapX) : (s.setCap c x).flash = s.flash := rfl
@[simp] theorem State.setCap_granules (s : State) (c : Nat) (x : CapX) : (s.setCap c x).granules = s.granules := rfl
@[simp] theorem State.setCap_sectors (s : State) (c : Nat) (x : CapX) : (s.setCap c x).sectors = s.sectors := rfl
@[simp] theorem State.setCap_waitMaint (s : State) (c : Nat) (x : CapX) : (s.setCap c x).waitMaint = s.waitMaint := rfl
@[simp] theorem State.setCap_fwWaitAt (s : State) (c : Nat) (x : CapX) : (s.setCap c x).fwWaitAt = s.fwWaitAt := rfl
@[simp] theorem State.setCap_draws (s : State) (c : Nat) (x : CapX) : (s.setCap c x).draws = s.draws := rfl
@[simp] theorem State.setCap_get_reg (s : State) (c : Nat) (x : CapX) (i : Nat) : (s.setCap c x).reg i = s.reg i := rfl
@[simp] theorem State.setCap_get_act (s : State) (c : Nat) (x : CapX) (i : Nat) : (s.setCap c x).act i = s.act i := rfl
@[simp] theorem State.setCap_get_shad (s : State) (c : Nat) (x : CapX) (i : Nat) : (s.setCap c x).shad i = s.shad i := rfl
@[simp] theorem State.setCap_get_chan (s : State) (c : Nat) (x : CapX) (i : Nat) : (s.setCap c x).chan i = s.chan i := rfl
@[simp] theorem State.setCap_get_en (s : State) (c : Nat) (x : CapX) (i : Nat) : (s.setCap c x).en i = s.en i := rfl
@[simp] theorem State.setCap_get_trim (s : State) (c : Nat) (x : CapX) (i : Nat) : (s.setCap c x).trim i = s.trim i := rfl
@[simp] theorem State.setCap_get_cluster (s : State) (c : Nat) (x : CapX) (i : Nat) : (s.setCap c x).cluster i = s.cluster i := rfl
@[simp] theorem State.setCap_get_latch (s : State) (c : Nat) (x : CapX) (i j : Nat) : (s.setCap c x).latch i j = s.latch i j := rfl
@[simp] theorem State.setCap_get_part (s : State) (c : Nat) (x : CapX) (i : Nat) : (s.setCap c x).part i = s.part i := rfl
@[simp] theorem State.setCap_get_group (s : State) (c : Nat) (x : CapX) (i : Nat) : (s.setCap c x).group i = s.group i := rfl
@[simp] theorem State.setCap_get_key (s : State) (c : Nat) (x : CapX) (i : Nat) : (s.setCap c x).key i = s.key i := rfl
@[simp] theorem State.setCap_get_stream (s : State) (c : Nat) (x : CapX) (i : Nat) : (s.setCap c x).stream i = s.stream i := rfl
@[simp] theorem State.setCap_get_port (s : State) (c : Nat) (x : CapX) (i : Nat) : (s.setCap c x).port i = s.port i := rfl
@[simp] theorem State.setCap_get_entry (s : State) (c : Nat) (x : CapX) (i : Nat) : (s.setCap c x).entry i = s.entry i := rfl
@[simp] theorem State.setCap_get_window (s : State) (c : Nat) (x : CapX) (i : Nat) : (s.setCap c x).window i = s.window i := rfl
@[simp] theorem State.setCap_get_drive (s : State) (c : Nat) (x : CapX) (i : Nat) : (s.setCap c x).drive i = s.drive i := rfl
@[simp] theorem State.setCap_get_stageSet (s : State) (c : Nat) (x : CapX) (i : Nat) : (s.setCap c x).stageSet i = s.stageSet i := rfl
@[simp] theorem State.setCap_get_downCause (s : State) (c : Nat) (x : CapX) (i : Nat) : (s.setCap c x).downCause i = s.downCause i := rfl
@[simp] theorem State.setCap_get_action (s : State) (c : Nat) (x : CapX) (i : Nat) : (s.setCap c x).action i = s.action i := rfl

/-! ### setKey -/

@[simp] theorem State.setKey_pending (s : State) (c : Nat) (x : KeyX) : (s.setKey c x).pending = s.pending := rfl
@[simp] theorem State.setKey_status (s : State) (c : Nat) (x : KeyX) : (s.setKey c x).status = s.status := rfl
@[simp] theorem State.setKey_reply (s : State) (c : Nat) (x : KeyX) : (s.setKey c x).reply = s.reply := rfl
@[simp] theorem State.setKey_now (s : State) (c : Nat) (x : KeyX) : (s.setKey c x).now = s.now := rfl
@[simp] theorem State.setKey_timeFree (s : State) (c : Nat) (x : KeyX) : (s.setKey c x).timeFree = s.timeFree := rfl
@[simp] theorem State.setKey_refFailAt (s : State) (c : Nat) (x : KeyX) : (s.setKey c x).refFailAt = s.refFailAt := rfl
@[simp] theorem State.setKey_active (s : State) (c : Nat) (x : KeyX) : (s.setKey c x).active = s.active := rfl
@[simp] theorem State.setKey_prior (s : State) (c : Nat) (x : KeyX) : (s.setKey c x).prior = s.prior := rfl
@[simp] theorem State.setKey_shadow (s : State) (c : Nat) (x : KeyX) : (s.setKey c x).shadow = s.shadow := rfl
@[simp] theorem State.setKey_regs (s : State) (c : Nat) (x : KeyX) : (s.setKey c x).regs = s.regs := rfl
@[simp] theorem State.setKey_retained (s : State) (c : Nat) (x : KeyX) : (s.setKey c x).retained = s.retained := rfl
@[simp] theorem State.setKey_committed (s : State) (c : Nat) (x : KeyX) : (s.setKey c x).committed = s.committed := rfl
@[simp] theorem State.setKey_sets (s : State) (c : Nat) (x : KeyX) : (s.setKey c x).sets = s.sets := rfl
@[simp] theorem State.setKey_armed (s : State) (c : Nat) (x : KeyX) : (s.setKey c x).armed = s.armed := rfl
@[simp] theorem State.setKey_queueC (s : State) (c : Nat) (x : KeyX) : (s.setKey c x).queueC = s.queueC := rfl
@[simp] theorem State.setKey_switchSt (s : State) (c : Nat) (x : KeyX) : (s.setKey c x).switchSt = s.switchSt := rfl
@[simp] theorem State.setKey_chans (s : State) (c : Nat) (x : KeyX) : (s.setKey c x).chans = s.chans := rfl
@[simp] theorem State.setKey_ens (s : State) (c : Nat) (x : KeyX) : (s.setKey c x).ens = s.ens := rfl
@[simp] theorem State.setKey_trims (s : State) (c : Nat) (x : KeyX) : (s.setKey c x).trims = s.trims := rfl
@[simp] theorem State.setKey_clusters (s : State) (c : Nat) (x : KeyX) : (s.setKey c x).clusters = s.clusters := rfl
@[simp] theorem State.setKey_latches (s : State) (c : Nat) (x : KeyX) : (s.setKey c x).latches = s.latches := rfl
@[simp] theorem State.setKey_parts (s : State) (c : Nat) (x : KeyX) : (s.setKey c x).parts = s.parts := rfl
@[simp] theorem State.setKey_groups (s : State) (c : Nat) (x : KeyX) : (s.setKey c x).groups = s.groups := rfl
@[simp] theorem State.setKey_actions (s : State) (c : Nat) (x : KeyX) : (s.setKey c x).actions = s.actions := rfl
@[simp] theorem State.setKey_caps (s : State) (c : Nat) (x : KeyX) : (s.setKey c x).caps = s.caps := rfl
@[simp] theorem State.setKey_mgmtDown (s : State) (c : Nat) (x : KeyX) : (s.setKey c x).mgmtDown = s.mgmtDown := rfl
@[simp] theorem State.setKey_stalled (s : State) (c : Nat) (x : KeyX) : (s.setKey c x).stalled = s.stalled := rfl
@[simp] theorem State.setKey_islandBad (s : State) (c : Nat) (x : KeyX) : (s.setKey c x).islandBad = s.islandBad := rfl
@[simp] theorem State.setKey_fabricFault (s : State) (c : Nat) (x : KeyX) : (s.setKey c x).fabricFault = s.fabricFault := rfl
@[simp] theorem State.setKey_safeN (s : State) (c : Nat) (x : KeyX) : (s.setKey c x).safeN = s.safeN := rfl
@[simp] theorem State.setKey_vioLost (s : State) (c : Nat) (x : KeyX) : (s.setKey c x).vioLost = s.vioLost := rfl
@[simp] theorem State.setKey_evRing (s : State) (c : Nat) (x : KeyX) : (s.setKey c x).evRing = s.evRing := rfl
@[simp] theorem State.setKey_evNext (s : State) (c : Nat) (x : KeyX) : (s.setKey c x).evNext = s.evNext := rfl
@[simp] theorem State.setKey_ev04At (s : State) (c : Nat) (x : KeyX) : (s.setKey c x).ev04At = s.ev04At := rfl
@[simp] theorem State.setKey_evQueues (s : State) (c : Nat) (x : KeyX) : (s.setKey c x).evQueues = s.evQueues := rfl
@[simp] theorem State.setKey_evQueueGap (s : State) (c : Nat) (x : KeyX) : (s.setKey c x).evQueueGap = s.evQueueGap := rfl
@[simp] theorem State.setKey_later (s : State) (c : Nat) (x : KeyX) : (s.setKey c x).later = s.later := rfl
@[simp] theorem State.setKey_sessions (s : State) (c : Nat) (x : KeyX) : (s.setKey c x).sessions = s.sessions := rfl
@[simp] theorem State.setKey_sessNext (s : State) (c : Nat) (x : KeyX) : (s.setKey c x).sessNext = s.sessNext := rfl
@[simp] theorem State.setKey_asms (s : State) (c : Nat) (x : KeyX) : (s.setKey c x).asms = s.asms := rfl
@[simp] theorem State.setKey_inbox (s : State) (c : Nat) (x : KeyX) : (s.setKey c x).inbox = s.inbox := rfl
@[simp] theorem State.setKey_waits (s : State) (c : Nat) (x : KeyX) : (s.setKey c x).waits = s.waits := rfl
@[simp] theorem State.setKey_outFrames (s : State) (c : Nat) (x : KeyX) : (s.setKey c x).outFrames = s.outFrames := rfl
@[simp] theorem State.setKey_downs (s : State) (c : Nat) (x : KeyX) : (s.setKey c x).downs = s.downs := rfl
@[simp] theorem State.setKey_t1sSleep (s : State) (c : Nat) (x : KeyX) : (s.setKey c x).t1sSleep = s.t1sSleep := rfl
@[simp] theorem State.setKey_streams (s : State) (c : Nat) (x : KeyX) : (s.setKey c x).streams = s.streams := rfl
@[simp] theorem State.setKey_ports (s : State) (c : Nat) (x : KeyX) : (s.setKey c x).ports = s.ports := rfl
@[simp] theorem State.setKey_entries (s : State) (c : Nat) (x : KeyX) : (s.setKey c x).entries = s.entries := rfl
@[simp] theorem State.setKey_svc (s : State) (c : Nat) (x : KeyX) : (s.setKey c x).svc = s.svc := rfl
@[simp] theorem State.setKey_peerOut (s : State) (c : Nat) (x : KeyX) : (s.setKey c x).peerOut = s.peerOut := rfl
@[simp] theorem State.setKey_peerTries (s : State) (c : Nat) (x : KeyX) : (s.setKey c x).peerTries = s.peerTries := rfl
@[simp] theorem State.setKey_peerReq (s : State) (c : Nat) (x : KeyX) : (s.setKey c x).peerReq = s.peerReq := rfl
@[simp] theorem State.setKey_peerReqsAt (s : State) (c : Nat) (x : KeyX) : (s.setKey c x).peerReqsAt = s.peerReqsAt := rfl
@[simp] theorem State.setKey_drives (s : State) (c : Nat) (x : KeyX) : (s.setKey c x).drives = s.drives := rfl
@[simp] theorem State.setKey_trestle (s : State) (c : Nat) (x : KeyX) : (s.setKey c x).trestle = s.trestle := rfl
@[simp] theorem State.setKey_thermal (s : State) (c : Nat) (x : KeyX) : (s.setKey c x).thermal = s.thermal := rfl
@[simp] theorem State.setKey_supply (s : State) (c : Nat) (x : KeyX) : (s.setKey c x).supply = s.supply := rfl
@[simp] theorem State.setKey_ledger (s : State) (c : Nat) (x : KeyX) : (s.setKey c x).ledger = s.ledger := rfl
@[simp] theorem State.setKey_log (s : State) (c : Nat) (x : KeyX) : (s.setKey c x).log = s.log := rfl
@[simp] theorem State.setKey_nv (s : State) (c : Nat) (x : KeyX) : (s.setKey c x).nv = s.nv := rfl
@[simp] theorem State.setKey_host (s : State) (c : Nat) (x : KeyX) : (s.setKey c x).host = s.host := rfl
@[simp] theorem State.setKey_sec (s : State) (c : Nat) (x : KeyX) : (s.setKey c x).sec = s.sec := rfl
@[simp] theorem State.setKey_flash (s : State) (c : Nat) (x : KeyX) : (s.setKey c x).flash = s.flash := rfl
@[simp] theorem State.setKey_granules (s : State) (c : Nat) (x : KeyX) : (s.setKey c x).granules = s.granules := rfl
@[simp] theorem State.setKey_sectors (s : State) (c : Nat) (x : KeyX) : (s.setKey c x).sectors = s.sectors := rfl
@[simp] theorem State.setKey_waitMaint (s : State) (c : Nat) (x : KeyX) : (s.setKey c x).waitMaint = s.waitMaint := rfl
@[simp] theorem State.setKey_fwWaitAt (s : State) (c : Nat) (x : KeyX) : (s.setKey c x).fwWaitAt = s.fwWaitAt := rfl
@[simp] theorem State.setKey_draws (s : State) (c : Nat) (x : KeyX) : (s.setKey c x).draws = s.draws := rfl
@[simp] theorem State.setKey_get_reg (s : State) (c : Nat) (x : KeyX) (i : Nat) : (s.setKey c x).reg i = s.reg i := rfl
@[simp] theorem State.setKey_get_act (s : State) (c : Nat) (x : KeyX) (i : Nat) : (s.setKey c x).act i = s.act i := rfl
@[simp] theorem State.setKey_get_shad (s : State) (c : Nat) (x : KeyX) (i : Nat) : (s.setKey c x).shad i = s.shad i := rfl
@[simp] theorem State.setKey_get_chan (s : State) (c : Nat) (x : KeyX) (i : Nat) : (s.setKey c x).chan i = s.chan i := rfl
@[simp] theorem State.setKey_get_en (s : State) (c : Nat) (x : KeyX) (i : Nat) : (s.setKey c x).en i = s.en i := rfl
@[simp] theorem State.setKey_get_trim (s : State) (c : Nat) (x : KeyX) (i : Nat) : (s.setKey c x).trim i = s.trim i := rfl
@[simp] theorem State.setKey_get_cluster (s : State) (c : Nat) (x : KeyX) (i : Nat) : (s.setKey c x).cluster i = s.cluster i := rfl
@[simp] theorem State.setKey_get_latch (s : State) (c : Nat) (x : KeyX) (i j : Nat) : (s.setKey c x).latch i j = s.latch i j := rfl
@[simp] theorem State.setKey_get_part (s : State) (c : Nat) (x : KeyX) (i : Nat) : (s.setKey c x).part i = s.part i := rfl
@[simp] theorem State.setKey_get_group (s : State) (c : Nat) (x : KeyX) (i : Nat) : (s.setKey c x).group i = s.group i := rfl
@[simp] theorem State.setKey_get_cap (s : State) (c : Nat) (x : KeyX) (i : Nat) : (s.setKey c x).cap i = s.cap i := rfl
@[simp] theorem State.setKey_get_stream (s : State) (c : Nat) (x : KeyX) (i : Nat) : (s.setKey c x).stream i = s.stream i := rfl
@[simp] theorem State.setKey_get_port (s : State) (c : Nat) (x : KeyX) (i : Nat) : (s.setKey c x).port i = s.port i := rfl
@[simp] theorem State.setKey_get_entry (s : State) (c : Nat) (x : KeyX) (i : Nat) : (s.setKey c x).entry i = s.entry i := rfl
@[simp] theorem State.setKey_get_window (s : State) (c : Nat) (x : KeyX) (i : Nat) : (s.setKey c x).window i = s.window i := rfl
@[simp] theorem State.setKey_get_drive (s : State) (c : Nat) (x : KeyX) (i : Nat) : (s.setKey c x).drive i = s.drive i := rfl
@[simp] theorem State.setKey_get_stageSet (s : State) (c : Nat) (x : KeyX) (i : Nat) : (s.setKey c x).stageSet i = s.stageSet i := rfl
@[simp] theorem State.setKey_get_downCause (s : State) (c : Nat) (x : KeyX) (i : Nat) : (s.setKey c x).downCause i = s.downCause i := rfl
@[simp] theorem State.setKey_get_action (s : State) (c : Nat) (x : KeyX) (i : Nat) : (s.setKey c x).action i = s.action i := rfl

/-! ### setStream -/

@[simp] theorem State.setStream_pending (s : State) (c : Nat) (x : StreamX) : (s.setStream c x).pending = s.pending := rfl
@[simp] theorem State.setStream_status (s : State) (c : Nat) (x : StreamX) : (s.setStream c x).status = s.status := rfl
@[simp] theorem State.setStream_reply (s : State) (c : Nat) (x : StreamX) : (s.setStream c x).reply = s.reply := rfl
@[simp] theorem State.setStream_now (s : State) (c : Nat) (x : StreamX) : (s.setStream c x).now = s.now := rfl
@[simp] theorem State.setStream_timeFree (s : State) (c : Nat) (x : StreamX) : (s.setStream c x).timeFree = s.timeFree := rfl
@[simp] theorem State.setStream_refFailAt (s : State) (c : Nat) (x : StreamX) : (s.setStream c x).refFailAt = s.refFailAt := rfl
@[simp] theorem State.setStream_active (s : State) (c : Nat) (x : StreamX) : (s.setStream c x).active = s.active := rfl
@[simp] theorem State.setStream_prior (s : State) (c : Nat) (x : StreamX) : (s.setStream c x).prior = s.prior := rfl
@[simp] theorem State.setStream_shadow (s : State) (c : Nat) (x : StreamX) : (s.setStream c x).shadow = s.shadow := rfl
@[simp] theorem State.setStream_regs (s : State) (c : Nat) (x : StreamX) : (s.setStream c x).regs = s.regs := rfl
@[simp] theorem State.setStream_retained (s : State) (c : Nat) (x : StreamX) : (s.setStream c x).retained = s.retained := rfl
@[simp] theorem State.setStream_committed (s : State) (c : Nat) (x : StreamX) : (s.setStream c x).committed = s.committed := rfl
@[simp] theorem State.setStream_sets (s : State) (c : Nat) (x : StreamX) : (s.setStream c x).sets = s.sets := rfl
@[simp] theorem State.setStream_armed (s : State) (c : Nat) (x : StreamX) : (s.setStream c x).armed = s.armed := rfl
@[simp] theorem State.setStream_queueC (s : State) (c : Nat) (x : StreamX) : (s.setStream c x).queueC = s.queueC := rfl
@[simp] theorem State.setStream_switchSt (s : State) (c : Nat) (x : StreamX) : (s.setStream c x).switchSt = s.switchSt := rfl
@[simp] theorem State.setStream_chans (s : State) (c : Nat) (x : StreamX) : (s.setStream c x).chans = s.chans := rfl
@[simp] theorem State.setStream_ens (s : State) (c : Nat) (x : StreamX) : (s.setStream c x).ens = s.ens := rfl
@[simp] theorem State.setStream_trims (s : State) (c : Nat) (x : StreamX) : (s.setStream c x).trims = s.trims := rfl
@[simp] theorem State.setStream_clusters (s : State) (c : Nat) (x : StreamX) : (s.setStream c x).clusters = s.clusters := rfl
@[simp] theorem State.setStream_latches (s : State) (c : Nat) (x : StreamX) : (s.setStream c x).latches = s.latches := rfl
@[simp] theorem State.setStream_parts (s : State) (c : Nat) (x : StreamX) : (s.setStream c x).parts = s.parts := rfl
@[simp] theorem State.setStream_groups (s : State) (c : Nat) (x : StreamX) : (s.setStream c x).groups = s.groups := rfl
@[simp] theorem State.setStream_actions (s : State) (c : Nat) (x : StreamX) : (s.setStream c x).actions = s.actions := rfl
@[simp] theorem State.setStream_caps (s : State) (c : Nat) (x : StreamX) : (s.setStream c x).caps = s.caps := rfl
@[simp] theorem State.setStream_mgmtDown (s : State) (c : Nat) (x : StreamX) : (s.setStream c x).mgmtDown = s.mgmtDown := rfl
@[simp] theorem State.setStream_stalled (s : State) (c : Nat) (x : StreamX) : (s.setStream c x).stalled = s.stalled := rfl
@[simp] theorem State.setStream_islandBad (s : State) (c : Nat) (x : StreamX) : (s.setStream c x).islandBad = s.islandBad := rfl
@[simp] theorem State.setStream_fabricFault (s : State) (c : Nat) (x : StreamX) : (s.setStream c x).fabricFault = s.fabricFault := rfl
@[simp] theorem State.setStream_safeN (s : State) (c : Nat) (x : StreamX) : (s.setStream c x).safeN = s.safeN := rfl
@[simp] theorem State.setStream_vioLost (s : State) (c : Nat) (x : StreamX) : (s.setStream c x).vioLost = s.vioLost := rfl
@[simp] theorem State.setStream_evRing (s : State) (c : Nat) (x : StreamX) : (s.setStream c x).evRing = s.evRing := rfl
@[simp] theorem State.setStream_evNext (s : State) (c : Nat) (x : StreamX) : (s.setStream c x).evNext = s.evNext := rfl
@[simp] theorem State.setStream_ev04At (s : State) (c : Nat) (x : StreamX) : (s.setStream c x).ev04At = s.ev04At := rfl
@[simp] theorem State.setStream_evQueues (s : State) (c : Nat) (x : StreamX) : (s.setStream c x).evQueues = s.evQueues := rfl
@[simp] theorem State.setStream_evQueueGap (s : State) (c : Nat) (x : StreamX) : (s.setStream c x).evQueueGap = s.evQueueGap := rfl
@[simp] theorem State.setStream_later (s : State) (c : Nat) (x : StreamX) : (s.setStream c x).later = s.later := rfl
@[simp] theorem State.setStream_sessions (s : State) (c : Nat) (x : StreamX) : (s.setStream c x).sessions = s.sessions := rfl
@[simp] theorem State.setStream_sessNext (s : State) (c : Nat) (x : StreamX) : (s.setStream c x).sessNext = s.sessNext := rfl
@[simp] theorem State.setStream_asms (s : State) (c : Nat) (x : StreamX) : (s.setStream c x).asms = s.asms := rfl
@[simp] theorem State.setStream_inbox (s : State) (c : Nat) (x : StreamX) : (s.setStream c x).inbox = s.inbox := rfl
@[simp] theorem State.setStream_waits (s : State) (c : Nat) (x : StreamX) : (s.setStream c x).waits = s.waits := rfl
@[simp] theorem State.setStream_outFrames (s : State) (c : Nat) (x : StreamX) : (s.setStream c x).outFrames = s.outFrames := rfl
@[simp] theorem State.setStream_downs (s : State) (c : Nat) (x : StreamX) : (s.setStream c x).downs = s.downs := rfl
@[simp] theorem State.setStream_t1sSleep (s : State) (c : Nat) (x : StreamX) : (s.setStream c x).t1sSleep = s.t1sSleep := rfl
@[simp] theorem State.setStream_keys (s : State) (c : Nat) (x : StreamX) : (s.setStream c x).keys = s.keys := rfl
@[simp] theorem State.setStream_ports (s : State) (c : Nat) (x : StreamX) : (s.setStream c x).ports = s.ports := rfl
@[simp] theorem State.setStream_entries (s : State) (c : Nat) (x : StreamX) : (s.setStream c x).entries = s.entries := rfl
@[simp] theorem State.setStream_svc (s : State) (c : Nat) (x : StreamX) : (s.setStream c x).svc = s.svc := rfl
@[simp] theorem State.setStream_peerOut (s : State) (c : Nat) (x : StreamX) : (s.setStream c x).peerOut = s.peerOut := rfl
@[simp] theorem State.setStream_peerTries (s : State) (c : Nat) (x : StreamX) : (s.setStream c x).peerTries = s.peerTries := rfl
@[simp] theorem State.setStream_peerReq (s : State) (c : Nat) (x : StreamX) : (s.setStream c x).peerReq = s.peerReq := rfl
@[simp] theorem State.setStream_peerReqsAt (s : State) (c : Nat) (x : StreamX) : (s.setStream c x).peerReqsAt = s.peerReqsAt := rfl
@[simp] theorem State.setStream_drives (s : State) (c : Nat) (x : StreamX) : (s.setStream c x).drives = s.drives := rfl
@[simp] theorem State.setStream_trestle (s : State) (c : Nat) (x : StreamX) : (s.setStream c x).trestle = s.trestle := rfl
@[simp] theorem State.setStream_thermal (s : State) (c : Nat) (x : StreamX) : (s.setStream c x).thermal = s.thermal := rfl
@[simp] theorem State.setStream_supply (s : State) (c : Nat) (x : StreamX) : (s.setStream c x).supply = s.supply := rfl
@[simp] theorem State.setStream_ledger (s : State) (c : Nat) (x : StreamX) : (s.setStream c x).ledger = s.ledger := rfl
@[simp] theorem State.setStream_log (s : State) (c : Nat) (x : StreamX) : (s.setStream c x).log = s.log := rfl
@[simp] theorem State.setStream_nv (s : State) (c : Nat) (x : StreamX) : (s.setStream c x).nv = s.nv := rfl
@[simp] theorem State.setStream_host (s : State) (c : Nat) (x : StreamX) : (s.setStream c x).host = s.host := rfl
@[simp] theorem State.setStream_sec (s : State) (c : Nat) (x : StreamX) : (s.setStream c x).sec = s.sec := rfl
@[simp] theorem State.setStream_flash (s : State) (c : Nat) (x : StreamX) : (s.setStream c x).flash = s.flash := rfl
@[simp] theorem State.setStream_granules (s : State) (c : Nat) (x : StreamX) : (s.setStream c x).granules = s.granules := rfl
@[simp] theorem State.setStream_sectors (s : State) (c : Nat) (x : StreamX) : (s.setStream c x).sectors = s.sectors := rfl
@[simp] theorem State.setStream_waitMaint (s : State) (c : Nat) (x : StreamX) : (s.setStream c x).waitMaint = s.waitMaint := rfl
@[simp] theorem State.setStream_fwWaitAt (s : State) (c : Nat) (x : StreamX) : (s.setStream c x).fwWaitAt = s.fwWaitAt := rfl
@[simp] theorem State.setStream_draws (s : State) (c : Nat) (x : StreamX) : (s.setStream c x).draws = s.draws := rfl
@[simp] theorem State.setStream_get_reg (s : State) (c : Nat) (x : StreamX) (i : Nat) : (s.setStream c x).reg i = s.reg i := rfl
@[simp] theorem State.setStream_get_act (s : State) (c : Nat) (x : StreamX) (i : Nat) : (s.setStream c x).act i = s.act i := rfl
@[simp] theorem State.setStream_get_shad (s : State) (c : Nat) (x : StreamX) (i : Nat) : (s.setStream c x).shad i = s.shad i := rfl
@[simp] theorem State.setStream_get_chan (s : State) (c : Nat) (x : StreamX) (i : Nat) : (s.setStream c x).chan i = s.chan i := rfl
@[simp] theorem State.setStream_get_en (s : State) (c : Nat) (x : StreamX) (i : Nat) : (s.setStream c x).en i = s.en i := rfl
@[simp] theorem State.setStream_get_trim (s : State) (c : Nat) (x : StreamX) (i : Nat) : (s.setStream c x).trim i = s.trim i := rfl
@[simp] theorem State.setStream_get_cluster (s : State) (c : Nat) (x : StreamX) (i : Nat) : (s.setStream c x).cluster i = s.cluster i := rfl
@[simp] theorem State.setStream_get_latch (s : State) (c : Nat) (x : StreamX) (i j : Nat) : (s.setStream c x).latch i j = s.latch i j := rfl
@[simp] theorem State.setStream_get_part (s : State) (c : Nat) (x : StreamX) (i : Nat) : (s.setStream c x).part i = s.part i := rfl
@[simp] theorem State.setStream_get_group (s : State) (c : Nat) (x : StreamX) (i : Nat) : (s.setStream c x).group i = s.group i := rfl
@[simp] theorem State.setStream_get_cap (s : State) (c : Nat) (x : StreamX) (i : Nat) : (s.setStream c x).cap i = s.cap i := rfl
@[simp] theorem State.setStream_get_key (s : State) (c : Nat) (x : StreamX) (i : Nat) : (s.setStream c x).key i = s.key i := rfl
@[simp] theorem State.setStream_get_port (s : State) (c : Nat) (x : StreamX) (i : Nat) : (s.setStream c x).port i = s.port i := rfl
@[simp] theorem State.setStream_get_entry (s : State) (c : Nat) (x : StreamX) (i : Nat) : (s.setStream c x).entry i = s.entry i := rfl
@[simp] theorem State.setStream_get_window (s : State) (c : Nat) (x : StreamX) (i : Nat) : (s.setStream c x).window i = s.window i := rfl
@[simp] theorem State.setStream_get_drive (s : State) (c : Nat) (x : StreamX) (i : Nat) : (s.setStream c x).drive i = s.drive i := rfl
@[simp] theorem State.setStream_get_stageSet (s : State) (c : Nat) (x : StreamX) (i : Nat) : (s.setStream c x).stageSet i = s.stageSet i := rfl
@[simp] theorem State.setStream_get_downCause (s : State) (c : Nat) (x : StreamX) (i : Nat) : (s.setStream c x).downCause i = s.downCause i := rfl
@[simp] theorem State.setStream_get_action (s : State) (c : Nat) (x : StreamX) (i : Nat) : (s.setStream c x).action i = s.action i := rfl

/-! ### setPort -/

@[simp] theorem State.setPort_pending (s : State) (c : Nat) (x : PortX) : (s.setPort c x).pending = s.pending := rfl
@[simp] theorem State.setPort_status (s : State) (c : Nat) (x : PortX) : (s.setPort c x).status = s.status := rfl
@[simp] theorem State.setPort_reply (s : State) (c : Nat) (x : PortX) : (s.setPort c x).reply = s.reply := rfl
@[simp] theorem State.setPort_now (s : State) (c : Nat) (x : PortX) : (s.setPort c x).now = s.now := rfl
@[simp] theorem State.setPort_timeFree (s : State) (c : Nat) (x : PortX) : (s.setPort c x).timeFree = s.timeFree := rfl
@[simp] theorem State.setPort_refFailAt (s : State) (c : Nat) (x : PortX) : (s.setPort c x).refFailAt = s.refFailAt := rfl
@[simp] theorem State.setPort_active (s : State) (c : Nat) (x : PortX) : (s.setPort c x).active = s.active := rfl
@[simp] theorem State.setPort_prior (s : State) (c : Nat) (x : PortX) : (s.setPort c x).prior = s.prior := rfl
@[simp] theorem State.setPort_shadow (s : State) (c : Nat) (x : PortX) : (s.setPort c x).shadow = s.shadow := rfl
@[simp] theorem State.setPort_regs (s : State) (c : Nat) (x : PortX) : (s.setPort c x).regs = s.regs := rfl
@[simp] theorem State.setPort_retained (s : State) (c : Nat) (x : PortX) : (s.setPort c x).retained = s.retained := rfl
@[simp] theorem State.setPort_committed (s : State) (c : Nat) (x : PortX) : (s.setPort c x).committed = s.committed := rfl
@[simp] theorem State.setPort_sets (s : State) (c : Nat) (x : PortX) : (s.setPort c x).sets = s.sets := rfl
@[simp] theorem State.setPort_armed (s : State) (c : Nat) (x : PortX) : (s.setPort c x).armed = s.armed := rfl
@[simp] theorem State.setPort_queueC (s : State) (c : Nat) (x : PortX) : (s.setPort c x).queueC = s.queueC := rfl
@[simp] theorem State.setPort_switchSt (s : State) (c : Nat) (x : PortX) : (s.setPort c x).switchSt = s.switchSt := rfl
@[simp] theorem State.setPort_chans (s : State) (c : Nat) (x : PortX) : (s.setPort c x).chans = s.chans := rfl
@[simp] theorem State.setPort_ens (s : State) (c : Nat) (x : PortX) : (s.setPort c x).ens = s.ens := rfl
@[simp] theorem State.setPort_trims (s : State) (c : Nat) (x : PortX) : (s.setPort c x).trims = s.trims := rfl
@[simp] theorem State.setPort_clusters (s : State) (c : Nat) (x : PortX) : (s.setPort c x).clusters = s.clusters := rfl
@[simp] theorem State.setPort_latches (s : State) (c : Nat) (x : PortX) : (s.setPort c x).latches = s.latches := rfl
@[simp] theorem State.setPort_parts (s : State) (c : Nat) (x : PortX) : (s.setPort c x).parts = s.parts := rfl
@[simp] theorem State.setPort_groups (s : State) (c : Nat) (x : PortX) : (s.setPort c x).groups = s.groups := rfl
@[simp] theorem State.setPort_actions (s : State) (c : Nat) (x : PortX) : (s.setPort c x).actions = s.actions := rfl
@[simp] theorem State.setPort_caps (s : State) (c : Nat) (x : PortX) : (s.setPort c x).caps = s.caps := rfl
@[simp] theorem State.setPort_mgmtDown (s : State) (c : Nat) (x : PortX) : (s.setPort c x).mgmtDown = s.mgmtDown := rfl
@[simp] theorem State.setPort_stalled (s : State) (c : Nat) (x : PortX) : (s.setPort c x).stalled = s.stalled := rfl
@[simp] theorem State.setPort_islandBad (s : State) (c : Nat) (x : PortX) : (s.setPort c x).islandBad = s.islandBad := rfl
@[simp] theorem State.setPort_fabricFault (s : State) (c : Nat) (x : PortX) : (s.setPort c x).fabricFault = s.fabricFault := rfl
@[simp] theorem State.setPort_safeN (s : State) (c : Nat) (x : PortX) : (s.setPort c x).safeN = s.safeN := rfl
@[simp] theorem State.setPort_vioLost (s : State) (c : Nat) (x : PortX) : (s.setPort c x).vioLost = s.vioLost := rfl
@[simp] theorem State.setPort_evRing (s : State) (c : Nat) (x : PortX) : (s.setPort c x).evRing = s.evRing := rfl
@[simp] theorem State.setPort_evNext (s : State) (c : Nat) (x : PortX) : (s.setPort c x).evNext = s.evNext := rfl
@[simp] theorem State.setPort_ev04At (s : State) (c : Nat) (x : PortX) : (s.setPort c x).ev04At = s.ev04At := rfl
@[simp] theorem State.setPort_evQueues (s : State) (c : Nat) (x : PortX) : (s.setPort c x).evQueues = s.evQueues := rfl
@[simp] theorem State.setPort_evQueueGap (s : State) (c : Nat) (x : PortX) : (s.setPort c x).evQueueGap = s.evQueueGap := rfl
@[simp] theorem State.setPort_later (s : State) (c : Nat) (x : PortX) : (s.setPort c x).later = s.later := rfl
@[simp] theorem State.setPort_sessions (s : State) (c : Nat) (x : PortX) : (s.setPort c x).sessions = s.sessions := rfl
@[simp] theorem State.setPort_sessNext (s : State) (c : Nat) (x : PortX) : (s.setPort c x).sessNext = s.sessNext := rfl
@[simp] theorem State.setPort_asms (s : State) (c : Nat) (x : PortX) : (s.setPort c x).asms = s.asms := rfl
@[simp] theorem State.setPort_inbox (s : State) (c : Nat) (x : PortX) : (s.setPort c x).inbox = s.inbox := rfl
@[simp] theorem State.setPort_waits (s : State) (c : Nat) (x : PortX) : (s.setPort c x).waits = s.waits := rfl
@[simp] theorem State.setPort_outFrames (s : State) (c : Nat) (x : PortX) : (s.setPort c x).outFrames = s.outFrames := rfl
@[simp] theorem State.setPort_downs (s : State) (c : Nat) (x : PortX) : (s.setPort c x).downs = s.downs := rfl
@[simp] theorem State.setPort_t1sSleep (s : State) (c : Nat) (x : PortX) : (s.setPort c x).t1sSleep = s.t1sSleep := rfl
@[simp] theorem State.setPort_keys (s : State) (c : Nat) (x : PortX) : (s.setPort c x).keys = s.keys := rfl
@[simp] theorem State.setPort_streams (s : State) (c : Nat) (x : PortX) : (s.setPort c x).streams = s.streams := rfl
@[simp] theorem State.setPort_entries (s : State) (c : Nat) (x : PortX) : (s.setPort c x).entries = s.entries := rfl
@[simp] theorem State.setPort_svc (s : State) (c : Nat) (x : PortX) : (s.setPort c x).svc = s.svc := rfl
@[simp] theorem State.setPort_peerOut (s : State) (c : Nat) (x : PortX) : (s.setPort c x).peerOut = s.peerOut := rfl
@[simp] theorem State.setPort_peerTries (s : State) (c : Nat) (x : PortX) : (s.setPort c x).peerTries = s.peerTries := rfl
@[simp] theorem State.setPort_peerReq (s : State) (c : Nat) (x : PortX) : (s.setPort c x).peerReq = s.peerReq := rfl
@[simp] theorem State.setPort_peerReqsAt (s : State) (c : Nat) (x : PortX) : (s.setPort c x).peerReqsAt = s.peerReqsAt := rfl
@[simp] theorem State.setPort_drives (s : State) (c : Nat) (x : PortX) : (s.setPort c x).drives = s.drives := rfl
@[simp] theorem State.setPort_trestle (s : State) (c : Nat) (x : PortX) : (s.setPort c x).trestle = s.trestle := rfl
@[simp] theorem State.setPort_thermal (s : State) (c : Nat) (x : PortX) : (s.setPort c x).thermal = s.thermal := rfl
@[simp] theorem State.setPort_supply (s : State) (c : Nat) (x : PortX) : (s.setPort c x).supply = s.supply := rfl
@[simp] theorem State.setPort_ledger (s : State) (c : Nat) (x : PortX) : (s.setPort c x).ledger = s.ledger := rfl
@[simp] theorem State.setPort_log (s : State) (c : Nat) (x : PortX) : (s.setPort c x).log = s.log := rfl
@[simp] theorem State.setPort_nv (s : State) (c : Nat) (x : PortX) : (s.setPort c x).nv = s.nv := rfl
@[simp] theorem State.setPort_host (s : State) (c : Nat) (x : PortX) : (s.setPort c x).host = s.host := rfl
@[simp] theorem State.setPort_sec (s : State) (c : Nat) (x : PortX) : (s.setPort c x).sec = s.sec := rfl
@[simp] theorem State.setPort_flash (s : State) (c : Nat) (x : PortX) : (s.setPort c x).flash = s.flash := rfl
@[simp] theorem State.setPort_granules (s : State) (c : Nat) (x : PortX) : (s.setPort c x).granules = s.granules := rfl
@[simp] theorem State.setPort_sectors (s : State) (c : Nat) (x : PortX) : (s.setPort c x).sectors = s.sectors := rfl
@[simp] theorem State.setPort_waitMaint (s : State) (c : Nat) (x : PortX) : (s.setPort c x).waitMaint = s.waitMaint := rfl
@[simp] theorem State.setPort_fwWaitAt (s : State) (c : Nat) (x : PortX) : (s.setPort c x).fwWaitAt = s.fwWaitAt := rfl
@[simp] theorem State.setPort_draws (s : State) (c : Nat) (x : PortX) : (s.setPort c x).draws = s.draws := rfl
@[simp] theorem State.setPort_get_reg (s : State) (c : Nat) (x : PortX) (i : Nat) : (s.setPort c x).reg i = s.reg i := rfl
@[simp] theorem State.setPort_get_act (s : State) (c : Nat) (x : PortX) (i : Nat) : (s.setPort c x).act i = s.act i := rfl
@[simp] theorem State.setPort_get_shad (s : State) (c : Nat) (x : PortX) (i : Nat) : (s.setPort c x).shad i = s.shad i := rfl
@[simp] theorem State.setPort_get_chan (s : State) (c : Nat) (x : PortX) (i : Nat) : (s.setPort c x).chan i = s.chan i := rfl
@[simp] theorem State.setPort_get_en (s : State) (c : Nat) (x : PortX) (i : Nat) : (s.setPort c x).en i = s.en i := rfl
@[simp] theorem State.setPort_get_trim (s : State) (c : Nat) (x : PortX) (i : Nat) : (s.setPort c x).trim i = s.trim i := rfl
@[simp] theorem State.setPort_get_cluster (s : State) (c : Nat) (x : PortX) (i : Nat) : (s.setPort c x).cluster i = s.cluster i := rfl
@[simp] theorem State.setPort_get_latch (s : State) (c : Nat) (x : PortX) (i j : Nat) : (s.setPort c x).latch i j = s.latch i j := rfl
@[simp] theorem State.setPort_get_part (s : State) (c : Nat) (x : PortX) (i : Nat) : (s.setPort c x).part i = s.part i := rfl
@[simp] theorem State.setPort_get_group (s : State) (c : Nat) (x : PortX) (i : Nat) : (s.setPort c x).group i = s.group i := rfl
@[simp] theorem State.setPort_get_cap (s : State) (c : Nat) (x : PortX) (i : Nat) : (s.setPort c x).cap i = s.cap i := rfl
@[simp] theorem State.setPort_get_key (s : State) (c : Nat) (x : PortX) (i : Nat) : (s.setPort c x).key i = s.key i := rfl
@[simp] theorem State.setPort_get_stream (s : State) (c : Nat) (x : PortX) (i : Nat) : (s.setPort c x).stream i = s.stream i := rfl
@[simp] theorem State.setPort_get_entry (s : State) (c : Nat) (x : PortX) (i : Nat) : (s.setPort c x).entry i = s.entry i := rfl
@[simp] theorem State.setPort_get_window (s : State) (c : Nat) (x : PortX) (i : Nat) : (s.setPort c x).window i = s.window i := rfl
@[simp] theorem State.setPort_get_drive (s : State) (c : Nat) (x : PortX) (i : Nat) : (s.setPort c x).drive i = s.drive i := rfl
@[simp] theorem State.setPort_get_stageSet (s : State) (c : Nat) (x : PortX) (i : Nat) : (s.setPort c x).stageSet i = s.stageSet i := rfl
@[simp] theorem State.setPort_get_downCause (s : State) (c : Nat) (x : PortX) (i : Nat) : (s.setPort c x).downCause i = s.downCause i := rfl
@[simp] theorem State.setPort_get_action (s : State) (c : Nat) (x : PortX) (i : Nat) : (s.setPort c x).action i = s.action i := rfl

/-! ### setEntry -/

@[simp] theorem State.setEntry_pending (s : State) (c : Nat) (x : EntryX) : (s.setEntry c x).pending = s.pending := rfl
@[simp] theorem State.setEntry_status (s : State) (c : Nat) (x : EntryX) : (s.setEntry c x).status = s.status := rfl
@[simp] theorem State.setEntry_reply (s : State) (c : Nat) (x : EntryX) : (s.setEntry c x).reply = s.reply := rfl
@[simp] theorem State.setEntry_now (s : State) (c : Nat) (x : EntryX) : (s.setEntry c x).now = s.now := rfl
@[simp] theorem State.setEntry_timeFree (s : State) (c : Nat) (x : EntryX) : (s.setEntry c x).timeFree = s.timeFree := rfl
@[simp] theorem State.setEntry_refFailAt (s : State) (c : Nat) (x : EntryX) : (s.setEntry c x).refFailAt = s.refFailAt := rfl
@[simp] theorem State.setEntry_active (s : State) (c : Nat) (x : EntryX) : (s.setEntry c x).active = s.active := rfl
@[simp] theorem State.setEntry_prior (s : State) (c : Nat) (x : EntryX) : (s.setEntry c x).prior = s.prior := rfl
@[simp] theorem State.setEntry_shadow (s : State) (c : Nat) (x : EntryX) : (s.setEntry c x).shadow = s.shadow := rfl
@[simp] theorem State.setEntry_regs (s : State) (c : Nat) (x : EntryX) : (s.setEntry c x).regs = s.regs := rfl
@[simp] theorem State.setEntry_retained (s : State) (c : Nat) (x : EntryX) : (s.setEntry c x).retained = s.retained := rfl
@[simp] theorem State.setEntry_committed (s : State) (c : Nat) (x : EntryX) : (s.setEntry c x).committed = s.committed := rfl
@[simp] theorem State.setEntry_sets (s : State) (c : Nat) (x : EntryX) : (s.setEntry c x).sets = s.sets := rfl
@[simp] theorem State.setEntry_armed (s : State) (c : Nat) (x : EntryX) : (s.setEntry c x).armed = s.armed := rfl
@[simp] theorem State.setEntry_queueC (s : State) (c : Nat) (x : EntryX) : (s.setEntry c x).queueC = s.queueC := rfl
@[simp] theorem State.setEntry_switchSt (s : State) (c : Nat) (x : EntryX) : (s.setEntry c x).switchSt = s.switchSt := rfl
@[simp] theorem State.setEntry_chans (s : State) (c : Nat) (x : EntryX) : (s.setEntry c x).chans = s.chans := rfl
@[simp] theorem State.setEntry_ens (s : State) (c : Nat) (x : EntryX) : (s.setEntry c x).ens = s.ens := rfl
@[simp] theorem State.setEntry_trims (s : State) (c : Nat) (x : EntryX) : (s.setEntry c x).trims = s.trims := rfl
@[simp] theorem State.setEntry_clusters (s : State) (c : Nat) (x : EntryX) : (s.setEntry c x).clusters = s.clusters := rfl
@[simp] theorem State.setEntry_latches (s : State) (c : Nat) (x : EntryX) : (s.setEntry c x).latches = s.latches := rfl
@[simp] theorem State.setEntry_parts (s : State) (c : Nat) (x : EntryX) : (s.setEntry c x).parts = s.parts := rfl
@[simp] theorem State.setEntry_groups (s : State) (c : Nat) (x : EntryX) : (s.setEntry c x).groups = s.groups := rfl
@[simp] theorem State.setEntry_actions (s : State) (c : Nat) (x : EntryX) : (s.setEntry c x).actions = s.actions := rfl
@[simp] theorem State.setEntry_caps (s : State) (c : Nat) (x : EntryX) : (s.setEntry c x).caps = s.caps := rfl
@[simp] theorem State.setEntry_mgmtDown (s : State) (c : Nat) (x : EntryX) : (s.setEntry c x).mgmtDown = s.mgmtDown := rfl
@[simp] theorem State.setEntry_stalled (s : State) (c : Nat) (x : EntryX) : (s.setEntry c x).stalled = s.stalled := rfl
@[simp] theorem State.setEntry_islandBad (s : State) (c : Nat) (x : EntryX) : (s.setEntry c x).islandBad = s.islandBad := rfl
@[simp] theorem State.setEntry_fabricFault (s : State) (c : Nat) (x : EntryX) : (s.setEntry c x).fabricFault = s.fabricFault := rfl
@[simp] theorem State.setEntry_safeN (s : State) (c : Nat) (x : EntryX) : (s.setEntry c x).safeN = s.safeN := rfl
@[simp] theorem State.setEntry_vioLost (s : State) (c : Nat) (x : EntryX) : (s.setEntry c x).vioLost = s.vioLost := rfl
@[simp] theorem State.setEntry_evRing (s : State) (c : Nat) (x : EntryX) : (s.setEntry c x).evRing = s.evRing := rfl
@[simp] theorem State.setEntry_evNext (s : State) (c : Nat) (x : EntryX) : (s.setEntry c x).evNext = s.evNext := rfl
@[simp] theorem State.setEntry_ev04At (s : State) (c : Nat) (x : EntryX) : (s.setEntry c x).ev04At = s.ev04At := rfl
@[simp] theorem State.setEntry_evQueues (s : State) (c : Nat) (x : EntryX) : (s.setEntry c x).evQueues = s.evQueues := rfl
@[simp] theorem State.setEntry_evQueueGap (s : State) (c : Nat) (x : EntryX) : (s.setEntry c x).evQueueGap = s.evQueueGap := rfl
@[simp] theorem State.setEntry_later (s : State) (c : Nat) (x : EntryX) : (s.setEntry c x).later = s.later := rfl
@[simp] theorem State.setEntry_sessions (s : State) (c : Nat) (x : EntryX) : (s.setEntry c x).sessions = s.sessions := rfl
@[simp] theorem State.setEntry_sessNext (s : State) (c : Nat) (x : EntryX) : (s.setEntry c x).sessNext = s.sessNext := rfl
@[simp] theorem State.setEntry_asms (s : State) (c : Nat) (x : EntryX) : (s.setEntry c x).asms = s.asms := rfl
@[simp] theorem State.setEntry_inbox (s : State) (c : Nat) (x : EntryX) : (s.setEntry c x).inbox = s.inbox := rfl
@[simp] theorem State.setEntry_waits (s : State) (c : Nat) (x : EntryX) : (s.setEntry c x).waits = s.waits := rfl
@[simp] theorem State.setEntry_outFrames (s : State) (c : Nat) (x : EntryX) : (s.setEntry c x).outFrames = s.outFrames := rfl
@[simp] theorem State.setEntry_downs (s : State) (c : Nat) (x : EntryX) : (s.setEntry c x).downs = s.downs := rfl
@[simp] theorem State.setEntry_t1sSleep (s : State) (c : Nat) (x : EntryX) : (s.setEntry c x).t1sSleep = s.t1sSleep := rfl
@[simp] theorem State.setEntry_keys (s : State) (c : Nat) (x : EntryX) : (s.setEntry c x).keys = s.keys := rfl
@[simp] theorem State.setEntry_streams (s : State) (c : Nat) (x : EntryX) : (s.setEntry c x).streams = s.streams := rfl
@[simp] theorem State.setEntry_ports (s : State) (c : Nat) (x : EntryX) : (s.setEntry c x).ports = s.ports := rfl
@[simp] theorem State.setEntry_svc (s : State) (c : Nat) (x : EntryX) : (s.setEntry c x).svc = s.svc := rfl
@[simp] theorem State.setEntry_peerOut (s : State) (c : Nat) (x : EntryX) : (s.setEntry c x).peerOut = s.peerOut := rfl
@[simp] theorem State.setEntry_peerTries (s : State) (c : Nat) (x : EntryX) : (s.setEntry c x).peerTries = s.peerTries := rfl
@[simp] theorem State.setEntry_peerReq (s : State) (c : Nat) (x : EntryX) : (s.setEntry c x).peerReq = s.peerReq := rfl
@[simp] theorem State.setEntry_peerReqsAt (s : State) (c : Nat) (x : EntryX) : (s.setEntry c x).peerReqsAt = s.peerReqsAt := rfl
@[simp] theorem State.setEntry_drives (s : State) (c : Nat) (x : EntryX) : (s.setEntry c x).drives = s.drives := rfl
@[simp] theorem State.setEntry_trestle (s : State) (c : Nat) (x : EntryX) : (s.setEntry c x).trestle = s.trestle := rfl
@[simp] theorem State.setEntry_thermal (s : State) (c : Nat) (x : EntryX) : (s.setEntry c x).thermal = s.thermal := rfl
@[simp] theorem State.setEntry_supply (s : State) (c : Nat) (x : EntryX) : (s.setEntry c x).supply = s.supply := rfl
@[simp] theorem State.setEntry_ledger (s : State) (c : Nat) (x : EntryX) : (s.setEntry c x).ledger = s.ledger := rfl
@[simp] theorem State.setEntry_log (s : State) (c : Nat) (x : EntryX) : (s.setEntry c x).log = s.log := rfl
@[simp] theorem State.setEntry_nv (s : State) (c : Nat) (x : EntryX) : (s.setEntry c x).nv = s.nv := rfl
@[simp] theorem State.setEntry_host (s : State) (c : Nat) (x : EntryX) : (s.setEntry c x).host = s.host := rfl
@[simp] theorem State.setEntry_sec (s : State) (c : Nat) (x : EntryX) : (s.setEntry c x).sec = s.sec := rfl
@[simp] theorem State.setEntry_flash (s : State) (c : Nat) (x : EntryX) : (s.setEntry c x).flash = s.flash := rfl
@[simp] theorem State.setEntry_granules (s : State) (c : Nat) (x : EntryX) : (s.setEntry c x).granules = s.granules := rfl
@[simp] theorem State.setEntry_sectors (s : State) (c : Nat) (x : EntryX) : (s.setEntry c x).sectors = s.sectors := rfl
@[simp] theorem State.setEntry_waitMaint (s : State) (c : Nat) (x : EntryX) : (s.setEntry c x).waitMaint = s.waitMaint := rfl
@[simp] theorem State.setEntry_fwWaitAt (s : State) (c : Nat) (x : EntryX) : (s.setEntry c x).fwWaitAt = s.fwWaitAt := rfl
@[simp] theorem State.setEntry_draws (s : State) (c : Nat) (x : EntryX) : (s.setEntry c x).draws = s.draws := rfl
@[simp] theorem State.setEntry_get_reg (s : State) (c : Nat) (x : EntryX) (i : Nat) : (s.setEntry c x).reg i = s.reg i := rfl
@[simp] theorem State.setEntry_get_act (s : State) (c : Nat) (x : EntryX) (i : Nat) : (s.setEntry c x).act i = s.act i := rfl
@[simp] theorem State.setEntry_get_shad (s : State) (c : Nat) (x : EntryX) (i : Nat) : (s.setEntry c x).shad i = s.shad i := rfl
@[simp] theorem State.setEntry_get_chan (s : State) (c : Nat) (x : EntryX) (i : Nat) : (s.setEntry c x).chan i = s.chan i := rfl
@[simp] theorem State.setEntry_get_en (s : State) (c : Nat) (x : EntryX) (i : Nat) : (s.setEntry c x).en i = s.en i := rfl
@[simp] theorem State.setEntry_get_trim (s : State) (c : Nat) (x : EntryX) (i : Nat) : (s.setEntry c x).trim i = s.trim i := rfl
@[simp] theorem State.setEntry_get_cluster (s : State) (c : Nat) (x : EntryX) (i : Nat) : (s.setEntry c x).cluster i = s.cluster i := rfl
@[simp] theorem State.setEntry_get_latch (s : State) (c : Nat) (x : EntryX) (i j : Nat) : (s.setEntry c x).latch i j = s.latch i j := rfl
@[simp] theorem State.setEntry_get_part (s : State) (c : Nat) (x : EntryX) (i : Nat) : (s.setEntry c x).part i = s.part i := rfl
@[simp] theorem State.setEntry_get_group (s : State) (c : Nat) (x : EntryX) (i : Nat) : (s.setEntry c x).group i = s.group i := rfl
@[simp] theorem State.setEntry_get_cap (s : State) (c : Nat) (x : EntryX) (i : Nat) : (s.setEntry c x).cap i = s.cap i := rfl
@[simp] theorem State.setEntry_get_key (s : State) (c : Nat) (x : EntryX) (i : Nat) : (s.setEntry c x).key i = s.key i := rfl
@[simp] theorem State.setEntry_get_stream (s : State) (c : Nat) (x : EntryX) (i : Nat) : (s.setEntry c x).stream i = s.stream i := rfl
@[simp] theorem State.setEntry_get_port (s : State) (c : Nat) (x : EntryX) (i : Nat) : (s.setEntry c x).port i = s.port i := rfl
@[simp] theorem State.setEntry_get_window (s : State) (c : Nat) (x : EntryX) (i : Nat) : (s.setEntry c x).window i = s.window i := rfl
@[simp] theorem State.setEntry_get_drive (s : State) (c : Nat) (x : EntryX) (i : Nat) : (s.setEntry c x).drive i = s.drive i := rfl
@[simp] theorem State.setEntry_get_stageSet (s : State) (c : Nat) (x : EntryX) (i : Nat) : (s.setEntry c x).stageSet i = s.stageSet i := rfl
@[simp] theorem State.setEntry_get_downCause (s : State) (c : Nat) (x : EntryX) (i : Nat) : (s.setEntry c x).downCause i = s.downCause i := rfl
@[simp] theorem State.setEntry_get_action (s : State) (c : Nat) (x : EntryX) (i : Nat) : (s.setEntry c x).action i = s.action i := rfl

/-! ### setWindow -/

@[simp] theorem State.setWindow_pending (s : State) (c : Nat) (x : SvcX) : (s.setWindow c x).pending = s.pending := rfl
@[simp] theorem State.setWindow_status (s : State) (c : Nat) (x : SvcX) : (s.setWindow c x).status = s.status := rfl
@[simp] theorem State.setWindow_reply (s : State) (c : Nat) (x : SvcX) : (s.setWindow c x).reply = s.reply := rfl
@[simp] theorem State.setWindow_now (s : State) (c : Nat) (x : SvcX) : (s.setWindow c x).now = s.now := rfl
@[simp] theorem State.setWindow_timeFree (s : State) (c : Nat) (x : SvcX) : (s.setWindow c x).timeFree = s.timeFree := rfl
@[simp] theorem State.setWindow_refFailAt (s : State) (c : Nat) (x : SvcX) : (s.setWindow c x).refFailAt = s.refFailAt := rfl
@[simp] theorem State.setWindow_active (s : State) (c : Nat) (x : SvcX) : (s.setWindow c x).active = s.active := rfl
@[simp] theorem State.setWindow_prior (s : State) (c : Nat) (x : SvcX) : (s.setWindow c x).prior = s.prior := rfl
@[simp] theorem State.setWindow_shadow (s : State) (c : Nat) (x : SvcX) : (s.setWindow c x).shadow = s.shadow := rfl
@[simp] theorem State.setWindow_regs (s : State) (c : Nat) (x : SvcX) : (s.setWindow c x).regs = s.regs := rfl
@[simp] theorem State.setWindow_retained (s : State) (c : Nat) (x : SvcX) : (s.setWindow c x).retained = s.retained := rfl
@[simp] theorem State.setWindow_committed (s : State) (c : Nat) (x : SvcX) : (s.setWindow c x).committed = s.committed := rfl
@[simp] theorem State.setWindow_sets (s : State) (c : Nat) (x : SvcX) : (s.setWindow c x).sets = s.sets := rfl
@[simp] theorem State.setWindow_armed (s : State) (c : Nat) (x : SvcX) : (s.setWindow c x).armed = s.armed := rfl
@[simp] theorem State.setWindow_queueC (s : State) (c : Nat) (x : SvcX) : (s.setWindow c x).queueC = s.queueC := rfl
@[simp] theorem State.setWindow_switchSt (s : State) (c : Nat) (x : SvcX) : (s.setWindow c x).switchSt = s.switchSt := rfl
@[simp] theorem State.setWindow_chans (s : State) (c : Nat) (x : SvcX) : (s.setWindow c x).chans = s.chans := rfl
@[simp] theorem State.setWindow_ens (s : State) (c : Nat) (x : SvcX) : (s.setWindow c x).ens = s.ens := rfl
@[simp] theorem State.setWindow_trims (s : State) (c : Nat) (x : SvcX) : (s.setWindow c x).trims = s.trims := rfl
@[simp] theorem State.setWindow_clusters (s : State) (c : Nat) (x : SvcX) : (s.setWindow c x).clusters = s.clusters := rfl
@[simp] theorem State.setWindow_latches (s : State) (c : Nat) (x : SvcX) : (s.setWindow c x).latches = s.latches := rfl
@[simp] theorem State.setWindow_parts (s : State) (c : Nat) (x : SvcX) : (s.setWindow c x).parts = s.parts := rfl
@[simp] theorem State.setWindow_groups (s : State) (c : Nat) (x : SvcX) : (s.setWindow c x).groups = s.groups := rfl
@[simp] theorem State.setWindow_actions (s : State) (c : Nat) (x : SvcX) : (s.setWindow c x).actions = s.actions := rfl
@[simp] theorem State.setWindow_caps (s : State) (c : Nat) (x : SvcX) : (s.setWindow c x).caps = s.caps := rfl
@[simp] theorem State.setWindow_mgmtDown (s : State) (c : Nat) (x : SvcX) : (s.setWindow c x).mgmtDown = s.mgmtDown := rfl
@[simp] theorem State.setWindow_stalled (s : State) (c : Nat) (x : SvcX) : (s.setWindow c x).stalled = s.stalled := rfl
@[simp] theorem State.setWindow_islandBad (s : State) (c : Nat) (x : SvcX) : (s.setWindow c x).islandBad = s.islandBad := rfl
@[simp] theorem State.setWindow_fabricFault (s : State) (c : Nat) (x : SvcX) : (s.setWindow c x).fabricFault = s.fabricFault := rfl
@[simp] theorem State.setWindow_safeN (s : State) (c : Nat) (x : SvcX) : (s.setWindow c x).safeN = s.safeN := rfl
@[simp] theorem State.setWindow_vioLost (s : State) (c : Nat) (x : SvcX) : (s.setWindow c x).vioLost = s.vioLost := rfl
@[simp] theorem State.setWindow_evRing (s : State) (c : Nat) (x : SvcX) : (s.setWindow c x).evRing = s.evRing := rfl
@[simp] theorem State.setWindow_evNext (s : State) (c : Nat) (x : SvcX) : (s.setWindow c x).evNext = s.evNext := rfl
@[simp] theorem State.setWindow_ev04At (s : State) (c : Nat) (x : SvcX) : (s.setWindow c x).ev04At = s.ev04At := rfl
@[simp] theorem State.setWindow_evQueues (s : State) (c : Nat) (x : SvcX) : (s.setWindow c x).evQueues = s.evQueues := rfl
@[simp] theorem State.setWindow_evQueueGap (s : State) (c : Nat) (x : SvcX) : (s.setWindow c x).evQueueGap = s.evQueueGap := rfl
@[simp] theorem State.setWindow_later (s : State) (c : Nat) (x : SvcX) : (s.setWindow c x).later = s.later := rfl
@[simp] theorem State.setWindow_sessions (s : State) (c : Nat) (x : SvcX) : (s.setWindow c x).sessions = s.sessions := rfl
@[simp] theorem State.setWindow_sessNext (s : State) (c : Nat) (x : SvcX) : (s.setWindow c x).sessNext = s.sessNext := rfl
@[simp] theorem State.setWindow_asms (s : State) (c : Nat) (x : SvcX) : (s.setWindow c x).asms = s.asms := rfl
@[simp] theorem State.setWindow_inbox (s : State) (c : Nat) (x : SvcX) : (s.setWindow c x).inbox = s.inbox := rfl
@[simp] theorem State.setWindow_waits (s : State) (c : Nat) (x : SvcX) : (s.setWindow c x).waits = s.waits := rfl
@[simp] theorem State.setWindow_outFrames (s : State) (c : Nat) (x : SvcX) : (s.setWindow c x).outFrames = s.outFrames := rfl
@[simp] theorem State.setWindow_downs (s : State) (c : Nat) (x : SvcX) : (s.setWindow c x).downs = s.downs := rfl
@[simp] theorem State.setWindow_t1sSleep (s : State) (c : Nat) (x : SvcX) : (s.setWindow c x).t1sSleep = s.t1sSleep := rfl
@[simp] theorem State.setWindow_keys (s : State) (c : Nat) (x : SvcX) : (s.setWindow c x).keys = s.keys := rfl
@[simp] theorem State.setWindow_streams (s : State) (c : Nat) (x : SvcX) : (s.setWindow c x).streams = s.streams := rfl
@[simp] theorem State.setWindow_ports (s : State) (c : Nat) (x : SvcX) : (s.setWindow c x).ports = s.ports := rfl
@[simp] theorem State.setWindow_entries (s : State) (c : Nat) (x : SvcX) : (s.setWindow c x).entries = s.entries := rfl
@[simp] theorem State.setWindow_peerOut (s : State) (c : Nat) (x : SvcX) : (s.setWindow c x).peerOut = s.peerOut := rfl
@[simp] theorem State.setWindow_peerTries (s : State) (c : Nat) (x : SvcX) : (s.setWindow c x).peerTries = s.peerTries := rfl
@[simp] theorem State.setWindow_peerReq (s : State) (c : Nat) (x : SvcX) : (s.setWindow c x).peerReq = s.peerReq := rfl
@[simp] theorem State.setWindow_peerReqsAt (s : State) (c : Nat) (x : SvcX) : (s.setWindow c x).peerReqsAt = s.peerReqsAt := rfl
@[simp] theorem State.setWindow_drives (s : State) (c : Nat) (x : SvcX) : (s.setWindow c x).drives = s.drives := rfl
@[simp] theorem State.setWindow_trestle (s : State) (c : Nat) (x : SvcX) : (s.setWindow c x).trestle = s.trestle := rfl
@[simp] theorem State.setWindow_thermal (s : State) (c : Nat) (x : SvcX) : (s.setWindow c x).thermal = s.thermal := rfl
@[simp] theorem State.setWindow_supply (s : State) (c : Nat) (x : SvcX) : (s.setWindow c x).supply = s.supply := rfl
@[simp] theorem State.setWindow_ledger (s : State) (c : Nat) (x : SvcX) : (s.setWindow c x).ledger = s.ledger := rfl
@[simp] theorem State.setWindow_log (s : State) (c : Nat) (x : SvcX) : (s.setWindow c x).log = s.log := rfl
@[simp] theorem State.setWindow_nv (s : State) (c : Nat) (x : SvcX) : (s.setWindow c x).nv = s.nv := rfl
@[simp] theorem State.setWindow_host (s : State) (c : Nat) (x : SvcX) : (s.setWindow c x).host = s.host := rfl
@[simp] theorem State.setWindow_sec (s : State) (c : Nat) (x : SvcX) : (s.setWindow c x).sec = s.sec := rfl
@[simp] theorem State.setWindow_flash (s : State) (c : Nat) (x : SvcX) : (s.setWindow c x).flash = s.flash := rfl
@[simp] theorem State.setWindow_granules (s : State) (c : Nat) (x : SvcX) : (s.setWindow c x).granules = s.granules := rfl
@[simp] theorem State.setWindow_sectors (s : State) (c : Nat) (x : SvcX) : (s.setWindow c x).sectors = s.sectors := rfl
@[simp] theorem State.setWindow_waitMaint (s : State) (c : Nat) (x : SvcX) : (s.setWindow c x).waitMaint = s.waitMaint := rfl
@[simp] theorem State.setWindow_fwWaitAt (s : State) (c : Nat) (x : SvcX) : (s.setWindow c x).fwWaitAt = s.fwWaitAt := rfl
@[simp] theorem State.setWindow_draws (s : State) (c : Nat) (x : SvcX) : (s.setWindow c x).draws = s.draws := rfl
@[simp] theorem State.setWindow_get_reg (s : State) (c : Nat) (x : SvcX) (i : Nat) : (s.setWindow c x).reg i = s.reg i := rfl
@[simp] theorem State.setWindow_get_act (s : State) (c : Nat) (x : SvcX) (i : Nat) : (s.setWindow c x).act i = s.act i := rfl
@[simp] theorem State.setWindow_get_shad (s : State) (c : Nat) (x : SvcX) (i : Nat) : (s.setWindow c x).shad i = s.shad i := rfl
@[simp] theorem State.setWindow_get_chan (s : State) (c : Nat) (x : SvcX) (i : Nat) : (s.setWindow c x).chan i = s.chan i := rfl
@[simp] theorem State.setWindow_get_en (s : State) (c : Nat) (x : SvcX) (i : Nat) : (s.setWindow c x).en i = s.en i := rfl
@[simp] theorem State.setWindow_get_trim (s : State) (c : Nat) (x : SvcX) (i : Nat) : (s.setWindow c x).trim i = s.trim i := rfl
@[simp] theorem State.setWindow_get_cluster (s : State) (c : Nat) (x : SvcX) (i : Nat) : (s.setWindow c x).cluster i = s.cluster i := rfl
@[simp] theorem State.setWindow_get_latch (s : State) (c : Nat) (x : SvcX) (i j : Nat) : (s.setWindow c x).latch i j = s.latch i j := rfl
@[simp] theorem State.setWindow_get_part (s : State) (c : Nat) (x : SvcX) (i : Nat) : (s.setWindow c x).part i = s.part i := rfl
@[simp] theorem State.setWindow_get_group (s : State) (c : Nat) (x : SvcX) (i : Nat) : (s.setWindow c x).group i = s.group i := rfl
@[simp] theorem State.setWindow_get_cap (s : State) (c : Nat) (x : SvcX) (i : Nat) : (s.setWindow c x).cap i = s.cap i := rfl
@[simp] theorem State.setWindow_get_key (s : State) (c : Nat) (x : SvcX) (i : Nat) : (s.setWindow c x).key i = s.key i := rfl
@[simp] theorem State.setWindow_get_stream (s : State) (c : Nat) (x : SvcX) (i : Nat) : (s.setWindow c x).stream i = s.stream i := rfl
@[simp] theorem State.setWindow_get_port (s : State) (c : Nat) (x : SvcX) (i : Nat) : (s.setWindow c x).port i = s.port i := rfl
@[simp] theorem State.setWindow_get_entry (s : State) (c : Nat) (x : SvcX) (i : Nat) : (s.setWindow c x).entry i = s.entry i := rfl
@[simp] theorem State.setWindow_get_drive (s : State) (c : Nat) (x : SvcX) (i : Nat) : (s.setWindow c x).drive i = s.drive i := rfl
@[simp] theorem State.setWindow_get_stageSet (s : State) (c : Nat) (x : SvcX) (i : Nat) : (s.setWindow c x).stageSet i = s.stageSet i := rfl
@[simp] theorem State.setWindow_get_downCause (s : State) (c : Nat) (x : SvcX) (i : Nat) : (s.setWindow c x).downCause i = s.downCause i := rfl
@[simp] theorem State.setWindow_get_action (s : State) (c : Nat) (x : SvcX) (i : Nat) : (s.setWindow c x).action i = s.action i := rfl

/-! ### setDrive -/

@[simp] theorem State.setDrive_pending (s : State) (c : Nat) (x : DriveX) : (s.setDrive c x).pending = s.pending := rfl
@[simp] theorem State.setDrive_status (s : State) (c : Nat) (x : DriveX) : (s.setDrive c x).status = s.status := rfl
@[simp] theorem State.setDrive_reply (s : State) (c : Nat) (x : DriveX) : (s.setDrive c x).reply = s.reply := rfl
@[simp] theorem State.setDrive_now (s : State) (c : Nat) (x : DriveX) : (s.setDrive c x).now = s.now := rfl
@[simp] theorem State.setDrive_timeFree (s : State) (c : Nat) (x : DriveX) : (s.setDrive c x).timeFree = s.timeFree := rfl
@[simp] theorem State.setDrive_refFailAt (s : State) (c : Nat) (x : DriveX) : (s.setDrive c x).refFailAt = s.refFailAt := rfl
@[simp] theorem State.setDrive_active (s : State) (c : Nat) (x : DriveX) : (s.setDrive c x).active = s.active := rfl
@[simp] theorem State.setDrive_prior (s : State) (c : Nat) (x : DriveX) : (s.setDrive c x).prior = s.prior := rfl
@[simp] theorem State.setDrive_shadow (s : State) (c : Nat) (x : DriveX) : (s.setDrive c x).shadow = s.shadow := rfl
@[simp] theorem State.setDrive_regs (s : State) (c : Nat) (x : DriveX) : (s.setDrive c x).regs = s.regs := rfl
@[simp] theorem State.setDrive_retained (s : State) (c : Nat) (x : DriveX) : (s.setDrive c x).retained = s.retained := rfl
@[simp] theorem State.setDrive_committed (s : State) (c : Nat) (x : DriveX) : (s.setDrive c x).committed = s.committed := rfl
@[simp] theorem State.setDrive_sets (s : State) (c : Nat) (x : DriveX) : (s.setDrive c x).sets = s.sets := rfl
@[simp] theorem State.setDrive_armed (s : State) (c : Nat) (x : DriveX) : (s.setDrive c x).armed = s.armed := rfl
@[simp] theorem State.setDrive_queueC (s : State) (c : Nat) (x : DriveX) : (s.setDrive c x).queueC = s.queueC := rfl
@[simp] theorem State.setDrive_switchSt (s : State) (c : Nat) (x : DriveX) : (s.setDrive c x).switchSt = s.switchSt := rfl
@[simp] theorem State.setDrive_chans (s : State) (c : Nat) (x : DriveX) : (s.setDrive c x).chans = s.chans := rfl
@[simp] theorem State.setDrive_ens (s : State) (c : Nat) (x : DriveX) : (s.setDrive c x).ens = s.ens := rfl
@[simp] theorem State.setDrive_trims (s : State) (c : Nat) (x : DriveX) : (s.setDrive c x).trims = s.trims := rfl
@[simp] theorem State.setDrive_clusters (s : State) (c : Nat) (x : DriveX) : (s.setDrive c x).clusters = s.clusters := rfl
@[simp] theorem State.setDrive_latches (s : State) (c : Nat) (x : DriveX) : (s.setDrive c x).latches = s.latches := rfl
@[simp] theorem State.setDrive_parts (s : State) (c : Nat) (x : DriveX) : (s.setDrive c x).parts = s.parts := rfl
@[simp] theorem State.setDrive_groups (s : State) (c : Nat) (x : DriveX) : (s.setDrive c x).groups = s.groups := rfl
@[simp] theorem State.setDrive_actions (s : State) (c : Nat) (x : DriveX) : (s.setDrive c x).actions = s.actions := rfl
@[simp] theorem State.setDrive_caps (s : State) (c : Nat) (x : DriveX) : (s.setDrive c x).caps = s.caps := rfl
@[simp] theorem State.setDrive_mgmtDown (s : State) (c : Nat) (x : DriveX) : (s.setDrive c x).mgmtDown = s.mgmtDown := rfl
@[simp] theorem State.setDrive_stalled (s : State) (c : Nat) (x : DriveX) : (s.setDrive c x).stalled = s.stalled := rfl
@[simp] theorem State.setDrive_islandBad (s : State) (c : Nat) (x : DriveX) : (s.setDrive c x).islandBad = s.islandBad := rfl
@[simp] theorem State.setDrive_fabricFault (s : State) (c : Nat) (x : DriveX) : (s.setDrive c x).fabricFault = s.fabricFault := rfl
@[simp] theorem State.setDrive_safeN (s : State) (c : Nat) (x : DriveX) : (s.setDrive c x).safeN = s.safeN := rfl
@[simp] theorem State.setDrive_vioLost (s : State) (c : Nat) (x : DriveX) : (s.setDrive c x).vioLost = s.vioLost := rfl
@[simp] theorem State.setDrive_evRing (s : State) (c : Nat) (x : DriveX) : (s.setDrive c x).evRing = s.evRing := rfl
@[simp] theorem State.setDrive_evNext (s : State) (c : Nat) (x : DriveX) : (s.setDrive c x).evNext = s.evNext := rfl
@[simp] theorem State.setDrive_ev04At (s : State) (c : Nat) (x : DriveX) : (s.setDrive c x).ev04At = s.ev04At := rfl
@[simp] theorem State.setDrive_evQueues (s : State) (c : Nat) (x : DriveX) : (s.setDrive c x).evQueues = s.evQueues := rfl
@[simp] theorem State.setDrive_evQueueGap (s : State) (c : Nat) (x : DriveX) : (s.setDrive c x).evQueueGap = s.evQueueGap := rfl
@[simp] theorem State.setDrive_later (s : State) (c : Nat) (x : DriveX) : (s.setDrive c x).later = s.later := rfl
@[simp] theorem State.setDrive_sessions (s : State) (c : Nat) (x : DriveX) : (s.setDrive c x).sessions = s.sessions := rfl
@[simp] theorem State.setDrive_sessNext (s : State) (c : Nat) (x : DriveX) : (s.setDrive c x).sessNext = s.sessNext := rfl
@[simp] theorem State.setDrive_asms (s : State) (c : Nat) (x : DriveX) : (s.setDrive c x).asms = s.asms := rfl
@[simp] theorem State.setDrive_inbox (s : State) (c : Nat) (x : DriveX) : (s.setDrive c x).inbox = s.inbox := rfl
@[simp] theorem State.setDrive_waits (s : State) (c : Nat) (x : DriveX) : (s.setDrive c x).waits = s.waits := rfl
@[simp] theorem State.setDrive_outFrames (s : State) (c : Nat) (x : DriveX) : (s.setDrive c x).outFrames = s.outFrames := rfl
@[simp] theorem State.setDrive_downs (s : State) (c : Nat) (x : DriveX) : (s.setDrive c x).downs = s.downs := rfl
@[simp] theorem State.setDrive_t1sSleep (s : State) (c : Nat) (x : DriveX) : (s.setDrive c x).t1sSleep = s.t1sSleep := rfl
@[simp] theorem State.setDrive_keys (s : State) (c : Nat) (x : DriveX) : (s.setDrive c x).keys = s.keys := rfl
@[simp] theorem State.setDrive_streams (s : State) (c : Nat) (x : DriveX) : (s.setDrive c x).streams = s.streams := rfl
@[simp] theorem State.setDrive_ports (s : State) (c : Nat) (x : DriveX) : (s.setDrive c x).ports = s.ports := rfl
@[simp] theorem State.setDrive_entries (s : State) (c : Nat) (x : DriveX) : (s.setDrive c x).entries = s.entries := rfl
@[simp] theorem State.setDrive_svc (s : State) (c : Nat) (x : DriveX) : (s.setDrive c x).svc = s.svc := rfl
@[simp] theorem State.setDrive_peerOut (s : State) (c : Nat) (x : DriveX) : (s.setDrive c x).peerOut = s.peerOut := rfl
@[simp] theorem State.setDrive_peerTries (s : State) (c : Nat) (x : DriveX) : (s.setDrive c x).peerTries = s.peerTries := rfl
@[simp] theorem State.setDrive_peerReq (s : State) (c : Nat) (x : DriveX) : (s.setDrive c x).peerReq = s.peerReq := rfl
@[simp] theorem State.setDrive_peerReqsAt (s : State) (c : Nat) (x : DriveX) : (s.setDrive c x).peerReqsAt = s.peerReqsAt := rfl
@[simp] theorem State.setDrive_trestle (s : State) (c : Nat) (x : DriveX) : (s.setDrive c x).trestle = s.trestle := rfl
@[simp] theorem State.setDrive_thermal (s : State) (c : Nat) (x : DriveX) : (s.setDrive c x).thermal = s.thermal := rfl
@[simp] theorem State.setDrive_supply (s : State) (c : Nat) (x : DriveX) : (s.setDrive c x).supply = s.supply := rfl
@[simp] theorem State.setDrive_ledger (s : State) (c : Nat) (x : DriveX) : (s.setDrive c x).ledger = s.ledger := rfl
@[simp] theorem State.setDrive_log (s : State) (c : Nat) (x : DriveX) : (s.setDrive c x).log = s.log := rfl
@[simp] theorem State.setDrive_nv (s : State) (c : Nat) (x : DriveX) : (s.setDrive c x).nv = s.nv := rfl
@[simp] theorem State.setDrive_host (s : State) (c : Nat) (x : DriveX) : (s.setDrive c x).host = s.host := rfl
@[simp] theorem State.setDrive_sec (s : State) (c : Nat) (x : DriveX) : (s.setDrive c x).sec = s.sec := rfl
@[simp] theorem State.setDrive_flash (s : State) (c : Nat) (x : DriveX) : (s.setDrive c x).flash = s.flash := rfl
@[simp] theorem State.setDrive_granules (s : State) (c : Nat) (x : DriveX) : (s.setDrive c x).granules = s.granules := rfl
@[simp] theorem State.setDrive_sectors (s : State) (c : Nat) (x : DriveX) : (s.setDrive c x).sectors = s.sectors := rfl
@[simp] theorem State.setDrive_waitMaint (s : State) (c : Nat) (x : DriveX) : (s.setDrive c x).waitMaint = s.waitMaint := rfl
@[simp] theorem State.setDrive_fwWaitAt (s : State) (c : Nat) (x : DriveX) : (s.setDrive c x).fwWaitAt = s.fwWaitAt := rfl
@[simp] theorem State.setDrive_draws (s : State) (c : Nat) (x : DriveX) : (s.setDrive c x).draws = s.draws := rfl
@[simp] theorem State.setDrive_get_reg (s : State) (c : Nat) (x : DriveX) (i : Nat) : (s.setDrive c x).reg i = s.reg i := rfl
@[simp] theorem State.setDrive_get_act (s : State) (c : Nat) (x : DriveX) (i : Nat) : (s.setDrive c x).act i = s.act i := rfl
@[simp] theorem State.setDrive_get_shad (s : State) (c : Nat) (x : DriveX) (i : Nat) : (s.setDrive c x).shad i = s.shad i := rfl
@[simp] theorem State.setDrive_get_chan (s : State) (c : Nat) (x : DriveX) (i : Nat) : (s.setDrive c x).chan i = s.chan i := rfl
@[simp] theorem State.setDrive_get_en (s : State) (c : Nat) (x : DriveX) (i : Nat) : (s.setDrive c x).en i = s.en i := rfl
@[simp] theorem State.setDrive_get_trim (s : State) (c : Nat) (x : DriveX) (i : Nat) : (s.setDrive c x).trim i = s.trim i := rfl
@[simp] theorem State.setDrive_get_cluster (s : State) (c : Nat) (x : DriveX) (i : Nat) : (s.setDrive c x).cluster i = s.cluster i := rfl
@[simp] theorem State.setDrive_get_latch (s : State) (c : Nat) (x : DriveX) (i j : Nat) : (s.setDrive c x).latch i j = s.latch i j := rfl
@[simp] theorem State.setDrive_get_part (s : State) (c : Nat) (x : DriveX) (i : Nat) : (s.setDrive c x).part i = s.part i := rfl
@[simp] theorem State.setDrive_get_group (s : State) (c : Nat) (x : DriveX) (i : Nat) : (s.setDrive c x).group i = s.group i := rfl
@[simp] theorem State.setDrive_get_cap (s : State) (c : Nat) (x : DriveX) (i : Nat) : (s.setDrive c x).cap i = s.cap i := rfl
@[simp] theorem State.setDrive_get_key (s : State) (c : Nat) (x : DriveX) (i : Nat) : (s.setDrive c x).key i = s.key i := rfl
@[simp] theorem State.setDrive_get_stream (s : State) (c : Nat) (x : DriveX) (i : Nat) : (s.setDrive c x).stream i = s.stream i := rfl
@[simp] theorem State.setDrive_get_port (s : State) (c : Nat) (x : DriveX) (i : Nat) : (s.setDrive c x).port i = s.port i := rfl
@[simp] theorem State.setDrive_get_entry (s : State) (c : Nat) (x : DriveX) (i : Nat) : (s.setDrive c x).entry i = s.entry i := rfl
@[simp] theorem State.setDrive_get_window (s : State) (c : Nat) (x : DriveX) (i : Nat) : (s.setDrive c x).window i = s.window i := rfl
@[simp] theorem State.setDrive_get_stageSet (s : State) (c : Nat) (x : DriveX) (i : Nat) : (s.setDrive c x).stageSet i = s.stageSet i := rfl
@[simp] theorem State.setDrive_get_downCause (s : State) (c : Nat) (x : DriveX) (i : Nat) : (s.setDrive c x).downCause i = s.downCause i := rfl
@[simp] theorem State.setDrive_get_action (s : State) (c : Nat) (x : DriveX) (i : Nat) : (s.setDrive c x).action i = s.action i := rfl

/-! ### setStage -/

@[simp] theorem State.setStage_pending (s : State) (c : Nat) (x : StageSet) : (s.setStage c x).pending = s.pending := rfl
@[simp] theorem State.setStage_status (s : State) (c : Nat) (x : StageSet) : (s.setStage c x).status = s.status := rfl
@[simp] theorem State.setStage_reply (s : State) (c : Nat) (x : StageSet) : (s.setStage c x).reply = s.reply := rfl
@[simp] theorem State.setStage_now (s : State) (c : Nat) (x : StageSet) : (s.setStage c x).now = s.now := rfl
@[simp] theorem State.setStage_timeFree (s : State) (c : Nat) (x : StageSet) : (s.setStage c x).timeFree = s.timeFree := rfl
@[simp] theorem State.setStage_refFailAt (s : State) (c : Nat) (x : StageSet) : (s.setStage c x).refFailAt = s.refFailAt := rfl
@[simp] theorem State.setStage_active (s : State) (c : Nat) (x : StageSet) : (s.setStage c x).active = s.active := rfl
@[simp] theorem State.setStage_prior (s : State) (c : Nat) (x : StageSet) : (s.setStage c x).prior = s.prior := rfl
@[simp] theorem State.setStage_shadow (s : State) (c : Nat) (x : StageSet) : (s.setStage c x).shadow = s.shadow := rfl
@[simp] theorem State.setStage_regs (s : State) (c : Nat) (x : StageSet) : (s.setStage c x).regs = s.regs := rfl
@[simp] theorem State.setStage_retained (s : State) (c : Nat) (x : StageSet) : (s.setStage c x).retained = s.retained := rfl
@[simp] theorem State.setStage_committed (s : State) (c : Nat) (x : StageSet) : (s.setStage c x).committed = s.committed := rfl
@[simp] theorem State.setStage_armed (s : State) (c : Nat) (x : StageSet) : (s.setStage c x).armed = s.armed := rfl
@[simp] theorem State.setStage_queueC (s : State) (c : Nat) (x : StageSet) : (s.setStage c x).queueC = s.queueC := rfl
@[simp] theorem State.setStage_switchSt (s : State) (c : Nat) (x : StageSet) : (s.setStage c x).switchSt = s.switchSt := rfl
@[simp] theorem State.setStage_chans (s : State) (c : Nat) (x : StageSet) : (s.setStage c x).chans = s.chans := rfl
@[simp] theorem State.setStage_ens (s : State) (c : Nat) (x : StageSet) : (s.setStage c x).ens = s.ens := rfl
@[simp] theorem State.setStage_trims (s : State) (c : Nat) (x : StageSet) : (s.setStage c x).trims = s.trims := rfl
@[simp] theorem State.setStage_clusters (s : State) (c : Nat) (x : StageSet) : (s.setStage c x).clusters = s.clusters := rfl
@[simp] theorem State.setStage_latches (s : State) (c : Nat) (x : StageSet) : (s.setStage c x).latches = s.latches := rfl
@[simp] theorem State.setStage_parts (s : State) (c : Nat) (x : StageSet) : (s.setStage c x).parts = s.parts := rfl
@[simp] theorem State.setStage_groups (s : State) (c : Nat) (x : StageSet) : (s.setStage c x).groups = s.groups := rfl
@[simp] theorem State.setStage_actions (s : State) (c : Nat) (x : StageSet) : (s.setStage c x).actions = s.actions := rfl
@[simp] theorem State.setStage_caps (s : State) (c : Nat) (x : StageSet) : (s.setStage c x).caps = s.caps := rfl
@[simp] theorem State.setStage_mgmtDown (s : State) (c : Nat) (x : StageSet) : (s.setStage c x).mgmtDown = s.mgmtDown := rfl
@[simp] theorem State.setStage_stalled (s : State) (c : Nat) (x : StageSet) : (s.setStage c x).stalled = s.stalled := rfl
@[simp] theorem State.setStage_islandBad (s : State) (c : Nat) (x : StageSet) : (s.setStage c x).islandBad = s.islandBad := rfl
@[simp] theorem State.setStage_fabricFault (s : State) (c : Nat) (x : StageSet) : (s.setStage c x).fabricFault = s.fabricFault := rfl
@[simp] theorem State.setStage_safeN (s : State) (c : Nat) (x : StageSet) : (s.setStage c x).safeN = s.safeN := rfl
@[simp] theorem State.setStage_vioLost (s : State) (c : Nat) (x : StageSet) : (s.setStage c x).vioLost = s.vioLost := rfl
@[simp] theorem State.setStage_evRing (s : State) (c : Nat) (x : StageSet) : (s.setStage c x).evRing = s.evRing := rfl
@[simp] theorem State.setStage_evNext (s : State) (c : Nat) (x : StageSet) : (s.setStage c x).evNext = s.evNext := rfl
@[simp] theorem State.setStage_ev04At (s : State) (c : Nat) (x : StageSet) : (s.setStage c x).ev04At = s.ev04At := rfl
@[simp] theorem State.setStage_evQueues (s : State) (c : Nat) (x : StageSet) : (s.setStage c x).evQueues = s.evQueues := rfl
@[simp] theorem State.setStage_evQueueGap (s : State) (c : Nat) (x : StageSet) : (s.setStage c x).evQueueGap = s.evQueueGap := rfl
@[simp] theorem State.setStage_later (s : State) (c : Nat) (x : StageSet) : (s.setStage c x).later = s.later := rfl
@[simp] theorem State.setStage_sessions (s : State) (c : Nat) (x : StageSet) : (s.setStage c x).sessions = s.sessions := rfl
@[simp] theorem State.setStage_sessNext (s : State) (c : Nat) (x : StageSet) : (s.setStage c x).sessNext = s.sessNext := rfl
@[simp] theorem State.setStage_asms (s : State) (c : Nat) (x : StageSet) : (s.setStage c x).asms = s.asms := rfl
@[simp] theorem State.setStage_inbox (s : State) (c : Nat) (x : StageSet) : (s.setStage c x).inbox = s.inbox := rfl
@[simp] theorem State.setStage_waits (s : State) (c : Nat) (x : StageSet) : (s.setStage c x).waits = s.waits := rfl
@[simp] theorem State.setStage_outFrames (s : State) (c : Nat) (x : StageSet) : (s.setStage c x).outFrames = s.outFrames := rfl
@[simp] theorem State.setStage_downs (s : State) (c : Nat) (x : StageSet) : (s.setStage c x).downs = s.downs := rfl
@[simp] theorem State.setStage_t1sSleep (s : State) (c : Nat) (x : StageSet) : (s.setStage c x).t1sSleep = s.t1sSleep := rfl
@[simp] theorem State.setStage_keys (s : State) (c : Nat) (x : StageSet) : (s.setStage c x).keys = s.keys := rfl
@[simp] theorem State.setStage_streams (s : State) (c : Nat) (x : StageSet) : (s.setStage c x).streams = s.streams := rfl
@[simp] theorem State.setStage_ports (s : State) (c : Nat) (x : StageSet) : (s.setStage c x).ports = s.ports := rfl
@[simp] theorem State.setStage_entries (s : State) (c : Nat) (x : StageSet) : (s.setStage c x).entries = s.entries := rfl
@[simp] theorem State.setStage_svc (s : State) (c : Nat) (x : StageSet) : (s.setStage c x).svc = s.svc := rfl
@[simp] theorem State.setStage_peerOut (s : State) (c : Nat) (x : StageSet) : (s.setStage c x).peerOut = s.peerOut := rfl
@[simp] theorem State.setStage_peerTries (s : State) (c : Nat) (x : StageSet) : (s.setStage c x).peerTries = s.peerTries := rfl
@[simp] theorem State.setStage_peerReq (s : State) (c : Nat) (x : StageSet) : (s.setStage c x).peerReq = s.peerReq := rfl
@[simp] theorem State.setStage_peerReqsAt (s : State) (c : Nat) (x : StageSet) : (s.setStage c x).peerReqsAt = s.peerReqsAt := rfl
@[simp] theorem State.setStage_drives (s : State) (c : Nat) (x : StageSet) : (s.setStage c x).drives = s.drives := rfl
@[simp] theorem State.setStage_trestle (s : State) (c : Nat) (x : StageSet) : (s.setStage c x).trestle = s.trestle := rfl
@[simp] theorem State.setStage_thermal (s : State) (c : Nat) (x : StageSet) : (s.setStage c x).thermal = s.thermal := rfl
@[simp] theorem State.setStage_supply (s : State) (c : Nat) (x : StageSet) : (s.setStage c x).supply = s.supply := rfl
@[simp] theorem State.setStage_ledger (s : State) (c : Nat) (x : StageSet) : (s.setStage c x).ledger = s.ledger := rfl
@[simp] theorem State.setStage_log (s : State) (c : Nat) (x : StageSet) : (s.setStage c x).log = s.log := rfl
@[simp] theorem State.setStage_nv (s : State) (c : Nat) (x : StageSet) : (s.setStage c x).nv = s.nv := rfl
@[simp] theorem State.setStage_host (s : State) (c : Nat) (x : StageSet) : (s.setStage c x).host = s.host := rfl
@[simp] theorem State.setStage_sec (s : State) (c : Nat) (x : StageSet) : (s.setStage c x).sec = s.sec := rfl
@[simp] theorem State.setStage_flash (s : State) (c : Nat) (x : StageSet) : (s.setStage c x).flash = s.flash := rfl
@[simp] theorem State.setStage_granules (s : State) (c : Nat) (x : StageSet) : (s.setStage c x).granules = s.granules := rfl
@[simp] theorem State.setStage_sectors (s : State) (c : Nat) (x : StageSet) : (s.setStage c x).sectors = s.sectors := rfl
@[simp] theorem State.setStage_waitMaint (s : State) (c : Nat) (x : StageSet) : (s.setStage c x).waitMaint = s.waitMaint := rfl
@[simp] theorem State.setStage_fwWaitAt (s : State) (c : Nat) (x : StageSet) : (s.setStage c x).fwWaitAt = s.fwWaitAt := rfl
@[simp] theorem State.setStage_draws (s : State) (c : Nat) (x : StageSet) : (s.setStage c x).draws = s.draws := rfl
@[simp] theorem State.setStage_get_reg (s : State) (c : Nat) (x : StageSet) (i : Nat) : (s.setStage c x).reg i = s.reg i := rfl
@[simp] theorem State.setStage_get_act (s : State) (c : Nat) (x : StageSet) (i : Nat) : (s.setStage c x).act i = s.act i := rfl
@[simp] theorem State.setStage_get_shad (s : State) (c : Nat) (x : StageSet) (i : Nat) : (s.setStage c x).shad i = s.shad i := rfl
@[simp] theorem State.setStage_get_chan (s : State) (c : Nat) (x : StageSet) (i : Nat) : (s.setStage c x).chan i = s.chan i := rfl
@[simp] theorem State.setStage_get_en (s : State) (c : Nat) (x : StageSet) (i : Nat) : (s.setStage c x).en i = s.en i := rfl
@[simp] theorem State.setStage_get_trim (s : State) (c : Nat) (x : StageSet) (i : Nat) : (s.setStage c x).trim i = s.trim i := rfl
@[simp] theorem State.setStage_get_cluster (s : State) (c : Nat) (x : StageSet) (i : Nat) : (s.setStage c x).cluster i = s.cluster i := rfl
@[simp] theorem State.setStage_get_latch (s : State) (c : Nat) (x : StageSet) (i j : Nat) : (s.setStage c x).latch i j = s.latch i j := rfl
@[simp] theorem State.setStage_get_part (s : State) (c : Nat) (x : StageSet) (i : Nat) : (s.setStage c x).part i = s.part i := rfl
@[simp] theorem State.setStage_get_group (s : State) (c : Nat) (x : StageSet) (i : Nat) : (s.setStage c x).group i = s.group i := rfl
@[simp] theorem State.setStage_get_cap (s : State) (c : Nat) (x : StageSet) (i : Nat) : (s.setStage c x).cap i = s.cap i := rfl
@[simp] theorem State.setStage_get_key (s : State) (c : Nat) (x : StageSet) (i : Nat) : (s.setStage c x).key i = s.key i := rfl
@[simp] theorem State.setStage_get_stream (s : State) (c : Nat) (x : StageSet) (i : Nat) : (s.setStage c x).stream i = s.stream i := rfl
@[simp] theorem State.setStage_get_port (s : State) (c : Nat) (x : StageSet) (i : Nat) : (s.setStage c x).port i = s.port i := rfl
@[simp] theorem State.setStage_get_entry (s : State) (c : Nat) (x : StageSet) (i : Nat) : (s.setStage c x).entry i = s.entry i := rfl
@[simp] theorem State.setStage_get_window (s : State) (c : Nat) (x : StageSet) (i : Nat) : (s.setStage c x).window i = s.window i := rfl
@[simp] theorem State.setStage_get_drive (s : State) (c : Nat) (x : StageSet) (i : Nat) : (s.setStage c x).drive i = s.drive i := rfl
@[simp] theorem State.setStage_get_downCause (s : State) (c : Nat) (x : StageSet) (i : Nat) : (s.setStage c x).downCause i = s.downCause i := rfl
@[simp] theorem State.setStage_get_action (s : State) (c : Nat) (x : StageSet) (i : Nat) : (s.setStage c x).action i = s.action i := rfl

/-! ### setDown -/

@[simp] theorem State.setDown_pending (s : State) (m c : Nat) : (s.setDown m c).pending = s.pending := rfl
@[simp] theorem State.setDown_status (s : State) (m c : Nat) : (s.setDown m c).status = s.status := rfl
@[simp] theorem State.setDown_reply (s : State) (m c : Nat) : (s.setDown m c).reply = s.reply := rfl
@[simp] theorem State.setDown_now (s : State) (m c : Nat) : (s.setDown m c).now = s.now := rfl
@[simp] theorem State.setDown_timeFree (s : State) (m c : Nat) : (s.setDown m c).timeFree = s.timeFree := rfl
@[simp] theorem State.setDown_refFailAt (s : State) (m c : Nat) : (s.setDown m c).refFailAt = s.refFailAt := rfl
@[simp] theorem State.setDown_active (s : State) (m c : Nat) : (s.setDown m c).active = s.active := rfl
@[simp] theorem State.setDown_prior (s : State) (m c : Nat) : (s.setDown m c).prior = s.prior := rfl
@[simp] theorem State.setDown_shadow (s : State) (m c : Nat) : (s.setDown m c).shadow = s.shadow := rfl
@[simp] theorem State.setDown_regs (s : State) (m c : Nat) : (s.setDown m c).regs = s.regs := rfl
@[simp] theorem State.setDown_retained (s : State) (m c : Nat) : (s.setDown m c).retained = s.retained := rfl
@[simp] theorem State.setDown_committed (s : State) (m c : Nat) : (s.setDown m c).committed = s.committed := rfl
@[simp] theorem State.setDown_sets (s : State) (m c : Nat) : (s.setDown m c).sets = s.sets := rfl
@[simp] theorem State.setDown_armed (s : State) (m c : Nat) : (s.setDown m c).armed = s.armed := rfl
@[simp] theorem State.setDown_queueC (s : State) (m c : Nat) : (s.setDown m c).queueC = s.queueC := rfl
@[simp] theorem State.setDown_switchSt (s : State) (m c : Nat) : (s.setDown m c).switchSt = s.switchSt := rfl
@[simp] theorem State.setDown_chans (s : State) (m c : Nat) : (s.setDown m c).chans = s.chans := rfl
@[simp] theorem State.setDown_ens (s : State) (m c : Nat) : (s.setDown m c).ens = s.ens := rfl
@[simp] theorem State.setDown_trims (s : State) (m c : Nat) : (s.setDown m c).trims = s.trims := rfl
@[simp] theorem State.setDown_clusters (s : State) (m c : Nat) : (s.setDown m c).clusters = s.clusters := rfl
@[simp] theorem State.setDown_latches (s : State) (m c : Nat) : (s.setDown m c).latches = s.latches := rfl
@[simp] theorem State.setDown_parts (s : State) (m c : Nat) : (s.setDown m c).parts = s.parts := rfl
@[simp] theorem State.setDown_groups (s : State) (m c : Nat) : (s.setDown m c).groups = s.groups := rfl
@[simp] theorem State.setDown_actions (s : State) (m c : Nat) : (s.setDown m c).actions = s.actions := rfl
@[simp] theorem State.setDown_caps (s : State) (m c : Nat) : (s.setDown m c).caps = s.caps := rfl
@[simp] theorem State.setDown_mgmtDown (s : State) (m c : Nat) : (s.setDown m c).mgmtDown = s.mgmtDown := rfl
@[simp] theorem State.setDown_stalled (s : State) (m c : Nat) : (s.setDown m c).stalled = s.stalled := rfl
@[simp] theorem State.setDown_islandBad (s : State) (m c : Nat) : (s.setDown m c).islandBad = s.islandBad := rfl
@[simp] theorem State.setDown_fabricFault (s : State) (m c : Nat) : (s.setDown m c).fabricFault = s.fabricFault := rfl
@[simp] theorem State.setDown_safeN (s : State) (m c : Nat) : (s.setDown m c).safeN = s.safeN := rfl
@[simp] theorem State.setDown_vioLost (s : State) (m c : Nat) : (s.setDown m c).vioLost = s.vioLost := rfl
@[simp] theorem State.setDown_evRing (s : State) (m c : Nat) : (s.setDown m c).evRing = s.evRing := rfl
@[simp] theorem State.setDown_evNext (s : State) (m c : Nat) : (s.setDown m c).evNext = s.evNext := rfl
@[simp] theorem State.setDown_ev04At (s : State) (m c : Nat) : (s.setDown m c).ev04At = s.ev04At := rfl
@[simp] theorem State.setDown_evQueues (s : State) (m c : Nat) : (s.setDown m c).evQueues = s.evQueues := rfl
@[simp] theorem State.setDown_evQueueGap (s : State) (m c : Nat) : (s.setDown m c).evQueueGap = s.evQueueGap := rfl
@[simp] theorem State.setDown_later (s : State) (m c : Nat) : (s.setDown m c).later = s.later := rfl
@[simp] theorem State.setDown_sessions (s : State) (m c : Nat) : (s.setDown m c).sessions = s.sessions := rfl
@[simp] theorem State.setDown_sessNext (s : State) (m c : Nat) : (s.setDown m c).sessNext = s.sessNext := rfl
@[simp] theorem State.setDown_asms (s : State) (m c : Nat) : (s.setDown m c).asms = s.asms := rfl
@[simp] theorem State.setDown_inbox (s : State) (m c : Nat) : (s.setDown m c).inbox = s.inbox := rfl
@[simp] theorem State.setDown_waits (s : State) (m c : Nat) : (s.setDown m c).waits = s.waits := rfl
@[simp] theorem State.setDown_outFrames (s : State) (m c : Nat) : (s.setDown m c).outFrames = s.outFrames := rfl
@[simp] theorem State.setDown_t1sSleep (s : State) (m c : Nat) : (s.setDown m c).t1sSleep = s.t1sSleep := rfl
@[simp] theorem State.setDown_keys (s : State) (m c : Nat) : (s.setDown m c).keys = s.keys := rfl
@[simp] theorem State.setDown_streams (s : State) (m c : Nat) : (s.setDown m c).streams = s.streams := rfl
@[simp] theorem State.setDown_ports (s : State) (m c : Nat) : (s.setDown m c).ports = s.ports := rfl
@[simp] theorem State.setDown_entries (s : State) (m c : Nat) : (s.setDown m c).entries = s.entries := rfl
@[simp] theorem State.setDown_svc (s : State) (m c : Nat) : (s.setDown m c).svc = s.svc := rfl
@[simp] theorem State.setDown_peerOut (s : State) (m c : Nat) : (s.setDown m c).peerOut = s.peerOut := rfl
@[simp] theorem State.setDown_peerTries (s : State) (m c : Nat) : (s.setDown m c).peerTries = s.peerTries := rfl
@[simp] theorem State.setDown_peerReq (s : State) (m c : Nat) : (s.setDown m c).peerReq = s.peerReq := rfl
@[simp] theorem State.setDown_peerReqsAt (s : State) (m c : Nat) : (s.setDown m c).peerReqsAt = s.peerReqsAt := rfl
@[simp] theorem State.setDown_drives (s : State) (m c : Nat) : (s.setDown m c).drives = s.drives := rfl
@[simp] theorem State.setDown_trestle (s : State) (m c : Nat) : (s.setDown m c).trestle = s.trestle := rfl
@[simp] theorem State.setDown_thermal (s : State) (m c : Nat) : (s.setDown m c).thermal = s.thermal := rfl
@[simp] theorem State.setDown_supply (s : State) (m c : Nat) : (s.setDown m c).supply = s.supply := rfl
@[simp] theorem State.setDown_ledger (s : State) (m c : Nat) : (s.setDown m c).ledger = s.ledger := rfl
@[simp] theorem State.setDown_log (s : State) (m c : Nat) : (s.setDown m c).log = s.log := rfl
@[simp] theorem State.setDown_nv (s : State) (m c : Nat) : (s.setDown m c).nv = s.nv := rfl
@[simp] theorem State.setDown_host (s : State) (m c : Nat) : (s.setDown m c).host = s.host := rfl
@[simp] theorem State.setDown_sec (s : State) (m c : Nat) : (s.setDown m c).sec = s.sec := rfl
@[simp] theorem State.setDown_flash (s : State) (m c : Nat) : (s.setDown m c).flash = s.flash := rfl
@[simp] theorem State.setDown_granules (s : State) (m c : Nat) : (s.setDown m c).granules = s.granules := rfl
@[simp] theorem State.setDown_sectors (s : State) (m c : Nat) : (s.setDown m c).sectors = s.sectors := rfl
@[simp] theorem State.setDown_waitMaint (s : State) (m c : Nat) : (s.setDown m c).waitMaint = s.waitMaint := rfl
@[simp] theorem State.setDown_fwWaitAt (s : State) (m c : Nat) : (s.setDown m c).fwWaitAt = s.fwWaitAt := rfl
@[simp] theorem State.setDown_draws (s : State) (m c : Nat) : (s.setDown m c).draws = s.draws := rfl
@[simp] theorem State.setDown_get_reg (s : State) (m c : Nat) (i : Nat) : (s.setDown m c).reg i = s.reg i := rfl
@[simp] theorem State.setDown_get_act (s : State) (m c : Nat) (i : Nat) : (s.setDown m c).act i = s.act i := rfl
@[simp] theorem State.setDown_get_shad (s : State) (m c : Nat) (i : Nat) : (s.setDown m c).shad i = s.shad i := rfl
@[simp] theorem State.setDown_get_chan (s : State) (m c : Nat) (i : Nat) : (s.setDown m c).chan i = s.chan i := rfl
@[simp] theorem State.setDown_get_en (s : State) (m c : Nat) (i : Nat) : (s.setDown m c).en i = s.en i := rfl
@[simp] theorem State.setDown_get_trim (s : State) (m c : Nat) (i : Nat) : (s.setDown m c).trim i = s.trim i := rfl
@[simp] theorem State.setDown_get_cluster (s : State) (m c : Nat) (i : Nat) : (s.setDown m c).cluster i = s.cluster i := rfl
@[simp] theorem State.setDown_get_latch (s : State) (m c : Nat) (i j : Nat) : (s.setDown m c).latch i j = s.latch i j := rfl
@[simp] theorem State.setDown_get_part (s : State) (m c : Nat) (i : Nat) : (s.setDown m c).part i = s.part i := rfl
@[simp] theorem State.setDown_get_group (s : State) (m c : Nat) (i : Nat) : (s.setDown m c).group i = s.group i := rfl
@[simp] theorem State.setDown_get_cap (s : State) (m c : Nat) (i : Nat) : (s.setDown m c).cap i = s.cap i := rfl
@[simp] theorem State.setDown_get_key (s : State) (m c : Nat) (i : Nat) : (s.setDown m c).key i = s.key i := rfl
@[simp] theorem State.setDown_get_stream (s : State) (m c : Nat) (i : Nat) : (s.setDown m c).stream i = s.stream i := rfl
@[simp] theorem State.setDown_get_port (s : State) (m c : Nat) (i : Nat) : (s.setDown m c).port i = s.port i := rfl
@[simp] theorem State.setDown_get_entry (s : State) (m c : Nat) (i : Nat) : (s.setDown m c).entry i = s.entry i := rfl
@[simp] theorem State.setDown_get_window (s : State) (m c : Nat) (i : Nat) : (s.setDown m c).window i = s.window i := rfl
@[simp] theorem State.setDown_get_drive (s : State) (m c : Nat) (i : Nat) : (s.setDown m c).drive i = s.drive i := rfl
@[simp] theorem State.setDown_get_stageSet (s : State) (m c : Nat) (i : Nat) : (s.setDown m c).stageSet i = s.stageSet i := rfl
@[simp] theorem State.setDown_get_action (s : State) (m c : Nat) (i : Nat) : (s.setDown m c).action i = s.action i := rfl

/-! ### setAction -/

@[simp] theorem State.setAction_pending (s : State) (e : Nat) (x : ActX) : (s.setAction e x).pending = s.pending := rfl
@[simp] theorem State.setAction_status (s : State) (e : Nat) (x : ActX) : (s.setAction e x).status = s.status := rfl
@[simp] theorem State.setAction_reply (s : State) (e : Nat) (x : ActX) : (s.setAction e x).reply = s.reply := rfl
@[simp] theorem State.setAction_now (s : State) (e : Nat) (x : ActX) : (s.setAction e x).now = s.now := rfl
@[simp] theorem State.setAction_timeFree (s : State) (e : Nat) (x : ActX) : (s.setAction e x).timeFree = s.timeFree := rfl
@[simp] theorem State.setAction_refFailAt (s : State) (e : Nat) (x : ActX) : (s.setAction e x).refFailAt = s.refFailAt := rfl
@[simp] theorem State.setAction_active (s : State) (e : Nat) (x : ActX) : (s.setAction e x).active = s.active := rfl
@[simp] theorem State.setAction_prior (s : State) (e : Nat) (x : ActX) : (s.setAction e x).prior = s.prior := rfl
@[simp] theorem State.setAction_shadow (s : State) (e : Nat) (x : ActX) : (s.setAction e x).shadow = s.shadow := rfl
@[simp] theorem State.setAction_regs (s : State) (e : Nat) (x : ActX) : (s.setAction e x).regs = s.regs := rfl
@[simp] theorem State.setAction_retained (s : State) (e : Nat) (x : ActX) : (s.setAction e x).retained = s.retained := rfl
@[simp] theorem State.setAction_committed (s : State) (e : Nat) (x : ActX) : (s.setAction e x).committed = s.committed := rfl
@[simp] theorem State.setAction_sets (s : State) (e : Nat) (x : ActX) : (s.setAction e x).sets = s.sets := rfl
@[simp] theorem State.setAction_armed (s : State) (e : Nat) (x : ActX) : (s.setAction e x).armed = s.armed := rfl
@[simp] theorem State.setAction_queueC (s : State) (e : Nat) (x : ActX) : (s.setAction e x).queueC = s.queueC := rfl
@[simp] theorem State.setAction_switchSt (s : State) (e : Nat) (x : ActX) : (s.setAction e x).switchSt = s.switchSt := rfl
@[simp] theorem State.setAction_chans (s : State) (e : Nat) (x : ActX) : (s.setAction e x).chans = s.chans := rfl
@[simp] theorem State.setAction_ens (s : State) (e : Nat) (x : ActX) : (s.setAction e x).ens = s.ens := rfl
@[simp] theorem State.setAction_trims (s : State) (e : Nat) (x : ActX) : (s.setAction e x).trims = s.trims := rfl
@[simp] theorem State.setAction_clusters (s : State) (e : Nat) (x : ActX) : (s.setAction e x).clusters = s.clusters := rfl
@[simp] theorem State.setAction_latches (s : State) (e : Nat) (x : ActX) : (s.setAction e x).latches = s.latches := rfl
@[simp] theorem State.setAction_parts (s : State) (e : Nat) (x : ActX) : (s.setAction e x).parts = s.parts := rfl
@[simp] theorem State.setAction_groups (s : State) (e : Nat) (x : ActX) : (s.setAction e x).groups = s.groups := rfl
@[simp] theorem State.setAction_caps (s : State) (e : Nat) (x : ActX) : (s.setAction e x).caps = s.caps := rfl
@[simp] theorem State.setAction_mgmtDown (s : State) (e : Nat) (x : ActX) : (s.setAction e x).mgmtDown = s.mgmtDown := rfl
@[simp] theorem State.setAction_stalled (s : State) (e : Nat) (x : ActX) : (s.setAction e x).stalled = s.stalled := rfl
@[simp] theorem State.setAction_islandBad (s : State) (e : Nat) (x : ActX) : (s.setAction e x).islandBad = s.islandBad := rfl
@[simp] theorem State.setAction_fabricFault (s : State) (e : Nat) (x : ActX) : (s.setAction e x).fabricFault = s.fabricFault := rfl
@[simp] theorem State.setAction_safeN (s : State) (e : Nat) (x : ActX) : (s.setAction e x).safeN = s.safeN := rfl
@[simp] theorem State.setAction_vioLost (s : State) (e : Nat) (x : ActX) : (s.setAction e x).vioLost = s.vioLost := rfl
@[simp] theorem State.setAction_evRing (s : State) (e : Nat) (x : ActX) : (s.setAction e x).evRing = s.evRing := rfl
@[simp] theorem State.setAction_evNext (s : State) (e : Nat) (x : ActX) : (s.setAction e x).evNext = s.evNext := rfl
@[simp] theorem State.setAction_ev04At (s : State) (e : Nat) (x : ActX) : (s.setAction e x).ev04At = s.ev04At := rfl
@[simp] theorem State.setAction_evQueues (s : State) (e : Nat) (x : ActX) : (s.setAction e x).evQueues = s.evQueues := rfl
@[simp] theorem State.setAction_evQueueGap (s : State) (e : Nat) (x : ActX) : (s.setAction e x).evQueueGap = s.evQueueGap := rfl
@[simp] theorem State.setAction_later (s : State) (e : Nat) (x : ActX) : (s.setAction e x).later = s.later := rfl
@[simp] theorem State.setAction_sessions (s : State) (e : Nat) (x : ActX) : (s.setAction e x).sessions = s.sessions := rfl
@[simp] theorem State.setAction_sessNext (s : State) (e : Nat) (x : ActX) : (s.setAction e x).sessNext = s.sessNext := rfl
@[simp] theorem State.setAction_asms (s : State) (e : Nat) (x : ActX) : (s.setAction e x).asms = s.asms := rfl
@[simp] theorem State.setAction_inbox (s : State) (e : Nat) (x : ActX) : (s.setAction e x).inbox = s.inbox := rfl
@[simp] theorem State.setAction_waits (s : State) (e : Nat) (x : ActX) : (s.setAction e x).waits = s.waits := rfl
@[simp] theorem State.setAction_outFrames (s : State) (e : Nat) (x : ActX) : (s.setAction e x).outFrames = s.outFrames := rfl
@[simp] theorem State.setAction_downs (s : State) (e : Nat) (x : ActX) : (s.setAction e x).downs = s.downs := rfl
@[simp] theorem State.setAction_t1sSleep (s : State) (e : Nat) (x : ActX) : (s.setAction e x).t1sSleep = s.t1sSleep := rfl
@[simp] theorem State.setAction_keys (s : State) (e : Nat) (x : ActX) : (s.setAction e x).keys = s.keys := rfl
@[simp] theorem State.setAction_streams (s : State) (e : Nat) (x : ActX) : (s.setAction e x).streams = s.streams := rfl
@[simp] theorem State.setAction_ports (s : State) (e : Nat) (x : ActX) : (s.setAction e x).ports = s.ports := rfl
@[simp] theorem State.setAction_entries (s : State) (e : Nat) (x : ActX) : (s.setAction e x).entries = s.entries := rfl
@[simp] theorem State.setAction_svc (s : State) (e : Nat) (x : ActX) : (s.setAction e x).svc = s.svc := rfl
@[simp] theorem State.setAction_peerOut (s : State) (e : Nat) (x : ActX) : (s.setAction e x).peerOut = s.peerOut := rfl
@[simp] theorem State.setAction_peerTries (s : State) (e : Nat) (x : ActX) : (s.setAction e x).peerTries = s.peerTries := rfl
@[simp] theorem State.setAction_peerReq (s : State) (e : Nat) (x : ActX) : (s.setAction e x).peerReq = s.peerReq := rfl
@[simp] theorem State.setAction_peerReqsAt (s : State) (e : Nat) (x : ActX) : (s.setAction e x).peerReqsAt = s.peerReqsAt := rfl
@[simp] theorem State.setAction_drives (s : State) (e : Nat) (x : ActX) : (s.setAction e x).drives = s.drives := rfl
@[simp] theorem State.setAction_trestle (s : State) (e : Nat) (x : ActX) : (s.setAction e x).trestle = s.trestle := rfl
@[simp] theorem State.setAction_thermal (s : State) (e : Nat) (x : ActX) : (s.setAction e x).thermal = s.thermal := rfl
@[simp] theorem State.setAction_supply (s : State) (e : Nat) (x : ActX) : (s.setAction e x).supply = s.supply := rfl
@[simp] theorem State.setAction_ledger (s : State) (e : Nat) (x : ActX) : (s.setAction e x).ledger = s.ledger := rfl
@[simp] theorem State.setAction_log (s : State) (e : Nat) (x : ActX) : (s.setAction e x).log = s.log := rfl
@[simp] theorem State.setAction_nv (s : State) (e : Nat) (x : ActX) : (s.setAction e x).nv = s.nv := rfl
@[simp] theorem State.setAction_host (s : State) (e : Nat) (x : ActX) : (s.setAction e x).host = s.host := rfl
@[simp] theorem State.setAction_sec (s : State) (e : Nat) (x : ActX) : (s.setAction e x).sec = s.sec := rfl
@[simp] theorem State.setAction_flash (s : State) (e : Nat) (x : ActX) : (s.setAction e x).flash = s.flash := rfl
@[simp] theorem State.setAction_granules (s : State) (e : Nat) (x : ActX) : (s.setAction e x).granules = s.granules := rfl
@[simp] theorem State.setAction_sectors (s : State) (e : Nat) (x : ActX) : (s.setAction e x).sectors = s.sectors := rfl
@[simp] theorem State.setAction_waitMaint (s : State) (e : Nat) (x : ActX) : (s.setAction e x).waitMaint = s.waitMaint := rfl
@[simp] theorem State.setAction_fwWaitAt (s : State) (e : Nat) (x : ActX) : (s.setAction e x).fwWaitAt = s.fwWaitAt := rfl
@[simp] theorem State.setAction_draws (s : State) (e : Nat) (x : ActX) : (s.setAction e x).draws = s.draws := rfl
@[simp] theorem State.setAction_get_reg (s : State) (e : Nat) (x : ActX) (i : Nat) : (s.setAction e x).reg i = s.reg i := rfl
@[simp] theorem State.setAction_get_act (s : State) (e : Nat) (x : ActX) (i : Nat) : (s.setAction e x).act i = s.act i := rfl
@[simp] theorem State.setAction_get_shad (s : State) (e : Nat) (x : ActX) (i : Nat) : (s.setAction e x).shad i = s.shad i := rfl
@[simp] theorem State.setAction_get_chan (s : State) (e : Nat) (x : ActX) (i : Nat) : (s.setAction e x).chan i = s.chan i := rfl
@[simp] theorem State.setAction_get_en (s : State) (e : Nat) (x : ActX) (i : Nat) : (s.setAction e x).en i = s.en i := rfl
@[simp] theorem State.setAction_get_trim (s : State) (e : Nat) (x : ActX) (i : Nat) : (s.setAction e x).trim i = s.trim i := rfl
@[simp] theorem State.setAction_get_cluster (s : State) (e : Nat) (x : ActX) (i : Nat) : (s.setAction e x).cluster i = s.cluster i := rfl
@[simp] theorem State.setAction_get_latch (s : State) (e : Nat) (x : ActX) (i j : Nat) : (s.setAction e x).latch i j = s.latch i j := rfl
@[simp] theorem State.setAction_get_part (s : State) (e : Nat) (x : ActX) (i : Nat) : (s.setAction e x).part i = s.part i := rfl
@[simp] theorem State.setAction_get_group (s : State) (e : Nat) (x : ActX) (i : Nat) : (s.setAction e x).group i = s.group i := rfl
@[simp] theorem State.setAction_get_cap (s : State) (e : Nat) (x : ActX) (i : Nat) : (s.setAction e x).cap i = s.cap i := rfl
@[simp] theorem State.setAction_get_key (s : State) (e : Nat) (x : ActX) (i : Nat) : (s.setAction e x).key i = s.key i := rfl
@[simp] theorem State.setAction_get_stream (s : State) (e : Nat) (x : ActX) (i : Nat) : (s.setAction e x).stream i = s.stream i := rfl
@[simp] theorem State.setAction_get_port (s : State) (e : Nat) (x : ActX) (i : Nat) : (s.setAction e x).port i = s.port i := rfl
@[simp] theorem State.setAction_get_entry (s : State) (e : Nat) (x : ActX) (i : Nat) : (s.setAction e x).entry i = s.entry i := rfl
@[simp] theorem State.setAction_get_window (s : State) (e : Nat) (x : ActX) (i : Nat) : (s.setAction e x).window i = s.window i := rfl
@[simp] theorem State.setAction_get_drive (s : State) (e : Nat) (x : ActX) (i : Nat) : (s.setAction e x).drive i = s.drive i := rfl
@[simp] theorem State.setAction_get_stageSet (s : State) (e : Nat) (x : ActX) (i : Nat) : (s.setAction e x).stageSet i = s.stageSet i := rfl
@[simp] theorem State.setAction_get_downCause (s : State) (e : Nat) (x : ActX) (i : Nat) : (s.setAction e x).downCause i = s.downCause i := rfl

/-! ### dropAction -/

@[simp] theorem State.dropAction_pending (s : State) (e : Nat) : (s.dropAction e).pending = s.pending := rfl
@[simp] theorem State.dropAction_status (s : State) (e : Nat) : (s.dropAction e).status = s.status := rfl
@[simp] theorem State.dropAction_reply (s : State) (e : Nat) : (s.dropAction e).reply = s.reply := rfl
@[simp] theorem State.dropAction_now (s : State) (e : Nat) : (s.dropAction e).now = s.now := rfl
@[simp] theorem State.dropAction_timeFree (s : State) (e : Nat) : (s.dropAction e).timeFree = s.timeFree := rfl
@[simp] theorem State.dropAction_refFailAt (s : State) (e : Nat) : (s.dropAction e).refFailAt = s.refFailAt := rfl
@[simp] theorem State.dropAction_active (s : State) (e : Nat) : (s.dropAction e).active = s.active := rfl
@[simp] theorem State.dropAction_prior (s : State) (e : Nat) : (s.dropAction e).prior = s.prior := rfl
@[simp] theorem State.dropAction_shadow (s : State) (e : Nat) : (s.dropAction e).shadow = s.shadow := rfl
@[simp] theorem State.dropAction_regs (s : State) (e : Nat) : (s.dropAction e).regs = s.regs := rfl
@[simp] theorem State.dropAction_retained (s : State) (e : Nat) : (s.dropAction e).retained = s.retained := rfl
@[simp] theorem State.dropAction_committed (s : State) (e : Nat) : (s.dropAction e).committed = s.committed := rfl
@[simp] theorem State.dropAction_sets (s : State) (e : Nat) : (s.dropAction e).sets = s.sets := rfl
@[simp] theorem State.dropAction_armed (s : State) (e : Nat) : (s.dropAction e).armed = s.armed := rfl
@[simp] theorem State.dropAction_queueC (s : State) (e : Nat) : (s.dropAction e).queueC = s.queueC := rfl
@[simp] theorem State.dropAction_switchSt (s : State) (e : Nat) : (s.dropAction e).switchSt = s.switchSt := rfl
@[simp] theorem State.dropAction_chans (s : State) (e : Nat) : (s.dropAction e).chans = s.chans := rfl
@[simp] theorem State.dropAction_ens (s : State) (e : Nat) : (s.dropAction e).ens = s.ens := rfl
@[simp] theorem State.dropAction_trims (s : State) (e : Nat) : (s.dropAction e).trims = s.trims := rfl
@[simp] theorem State.dropAction_clusters (s : State) (e : Nat) : (s.dropAction e).clusters = s.clusters := rfl
@[simp] theorem State.dropAction_latches (s : State) (e : Nat) : (s.dropAction e).latches = s.latches := rfl
@[simp] theorem State.dropAction_parts (s : State) (e : Nat) : (s.dropAction e).parts = s.parts := rfl
@[simp] theorem State.dropAction_groups (s : State) (e : Nat) : (s.dropAction e).groups = s.groups := rfl
@[simp] theorem State.dropAction_caps (s : State) (e : Nat) : (s.dropAction e).caps = s.caps := rfl
@[simp] theorem State.dropAction_mgmtDown (s : State) (e : Nat) : (s.dropAction e).mgmtDown = s.mgmtDown := rfl
@[simp] theorem State.dropAction_stalled (s : State) (e : Nat) : (s.dropAction e).stalled = s.stalled := rfl
@[simp] theorem State.dropAction_islandBad (s : State) (e : Nat) : (s.dropAction e).islandBad = s.islandBad := rfl
@[simp] theorem State.dropAction_fabricFault (s : State) (e : Nat) : (s.dropAction e).fabricFault = s.fabricFault := rfl
@[simp] theorem State.dropAction_safeN (s : State) (e : Nat) : (s.dropAction e).safeN = s.safeN := rfl
@[simp] theorem State.dropAction_vioLost (s : State) (e : Nat) : (s.dropAction e).vioLost = s.vioLost := rfl
@[simp] theorem State.dropAction_evRing (s : State) (e : Nat) : (s.dropAction e).evRing = s.evRing := rfl
@[simp] theorem State.dropAction_evNext (s : State) (e : Nat) : (s.dropAction e).evNext = s.evNext := rfl
@[simp] theorem State.dropAction_ev04At (s : State) (e : Nat) : (s.dropAction e).ev04At = s.ev04At := rfl
@[simp] theorem State.dropAction_evQueues (s : State) (e : Nat) : (s.dropAction e).evQueues = s.evQueues := rfl
@[simp] theorem State.dropAction_evQueueGap (s : State) (e : Nat) : (s.dropAction e).evQueueGap = s.evQueueGap := rfl
@[simp] theorem State.dropAction_later (s : State) (e : Nat) : (s.dropAction e).later = s.later := rfl
@[simp] theorem State.dropAction_sessions (s : State) (e : Nat) : (s.dropAction e).sessions = s.sessions := rfl
@[simp] theorem State.dropAction_sessNext (s : State) (e : Nat) : (s.dropAction e).sessNext = s.sessNext := rfl
@[simp] theorem State.dropAction_asms (s : State) (e : Nat) : (s.dropAction e).asms = s.asms := rfl
@[simp] theorem State.dropAction_inbox (s : State) (e : Nat) : (s.dropAction e).inbox = s.inbox := rfl
@[simp] theorem State.dropAction_waits (s : State) (e : Nat) : (s.dropAction e).waits = s.waits := rfl
@[simp] theorem State.dropAction_outFrames (s : State) (e : Nat) : (s.dropAction e).outFrames = s.outFrames := rfl
@[simp] theorem State.dropAction_downs (s : State) (e : Nat) : (s.dropAction e).downs = s.downs := rfl
@[simp] theorem State.dropAction_t1sSleep (s : State) (e : Nat) : (s.dropAction e).t1sSleep = s.t1sSleep := rfl
@[simp] theorem State.dropAction_keys (s : State) (e : Nat) : (s.dropAction e).keys = s.keys := rfl
@[simp] theorem State.dropAction_streams (s : State) (e : Nat) : (s.dropAction e).streams = s.streams := rfl
@[simp] theorem State.dropAction_ports (s : State) (e : Nat) : (s.dropAction e).ports = s.ports := rfl
@[simp] theorem State.dropAction_entries (s : State) (e : Nat) : (s.dropAction e).entries = s.entries := rfl
@[simp] theorem State.dropAction_svc (s : State) (e : Nat) : (s.dropAction e).svc = s.svc := rfl
@[simp] theorem State.dropAction_peerOut (s : State) (e : Nat) : (s.dropAction e).peerOut = s.peerOut := rfl
@[simp] theorem State.dropAction_peerTries (s : State) (e : Nat) : (s.dropAction e).peerTries = s.peerTries := rfl
@[simp] theorem State.dropAction_peerReq (s : State) (e : Nat) : (s.dropAction e).peerReq = s.peerReq := rfl
@[simp] theorem State.dropAction_peerReqsAt (s : State) (e : Nat) : (s.dropAction e).peerReqsAt = s.peerReqsAt := rfl
@[simp] theorem State.dropAction_drives (s : State) (e : Nat) : (s.dropAction e).drives = s.drives := rfl
@[simp] theorem State.dropAction_trestle (s : State) (e : Nat) : (s.dropAction e).trestle = s.trestle := rfl
@[simp] theorem State.dropAction_thermal (s : State) (e : Nat) : (s.dropAction e).thermal = s.thermal := rfl
@[simp] theorem State.dropAction_supply (s : State) (e : Nat) : (s.dropAction e).supply = s.supply := rfl
@[simp] theorem State.dropAction_ledger (s : State) (e : Nat) : (s.dropAction e).ledger = s.ledger := rfl
@[simp] theorem State.dropAction_log (s : State) (e : Nat) : (s.dropAction e).log = s.log := rfl
@[simp] theorem State.dropAction_nv (s : State) (e : Nat) : (s.dropAction e).nv = s.nv := rfl
@[simp] theorem State.dropAction_host (s : State) (e : Nat) : (s.dropAction e).host = s.host := rfl
@[simp] theorem State.dropAction_sec (s : State) (e : Nat) : (s.dropAction e).sec = s.sec := rfl
@[simp] theorem State.dropAction_flash (s : State) (e : Nat) : (s.dropAction e).flash = s.flash := rfl
@[simp] theorem State.dropAction_granules (s : State) (e : Nat) : (s.dropAction e).granules = s.granules := rfl
@[simp] theorem State.dropAction_sectors (s : State) (e : Nat) : (s.dropAction e).sectors = s.sectors := rfl
@[simp] theorem State.dropAction_waitMaint (s : State) (e : Nat) : (s.dropAction e).waitMaint = s.waitMaint := rfl
@[simp] theorem State.dropAction_fwWaitAt (s : State) (e : Nat) : (s.dropAction e).fwWaitAt = s.fwWaitAt := rfl
@[simp] theorem State.dropAction_draws (s : State) (e : Nat) : (s.dropAction e).draws = s.draws := rfl
@[simp] theorem State.dropAction_get_reg (s : State) (e : Nat) (i : Nat) : (s.dropAction e).reg i = s.reg i := rfl
@[simp] theorem State.dropAction_get_act (s : State) (e : Nat) (i : Nat) : (s.dropAction e).act i = s.act i := rfl
@[simp] theorem State.dropAction_get_shad (s : State) (e : Nat) (i : Nat) : (s.dropAction e).shad i = s.shad i := rfl
@[simp] theorem State.dropAction_get_chan (s : State) (e : Nat) (i : Nat) : (s.dropAction e).chan i = s.chan i := rfl
@[simp] theorem State.dropAction_get_en (s : State) (e : Nat) (i : Nat) : (s.dropAction e).en i = s.en i := rfl
@[simp] theorem State.dropAction_get_trim (s : State) (e : Nat) (i : Nat) : (s.dropAction e).trim i = s.trim i := rfl
@[simp] theorem State.dropAction_get_cluster (s : State) (e : Nat) (i : Nat) : (s.dropAction e).cluster i = s.cluster i := rfl
@[simp] theorem State.dropAction_get_latch (s : State) (e : Nat) (i j : Nat) : (s.dropAction e).latch i j = s.latch i j := rfl
@[simp] theorem State.dropAction_get_part (s : State) (e : Nat) (i : Nat) : (s.dropAction e).part i = s.part i := rfl
@[simp] theorem State.dropAction_get_group (s : State) (e : Nat) (i : Nat) : (s.dropAction e).group i = s.group i := rfl
@[simp] theorem State.dropAction_get_cap (s : State) (e : Nat) (i : Nat) : (s.dropAction e).cap i = s.cap i := rfl
@[simp] theorem State.dropAction_get_key (s : State) (e : Nat) (i : Nat) : (s.dropAction e).key i = s.key i := rfl
@[simp] theorem State.dropAction_get_stream (s : State) (e : Nat) (i : Nat) : (s.dropAction e).stream i = s.stream i := rfl
@[simp] theorem State.dropAction_get_port (s : State) (e : Nat) (i : Nat) : (s.dropAction e).port i = s.port i := rfl
@[simp] theorem State.dropAction_get_entry (s : State) (e : Nat) (i : Nat) : (s.dropAction e).entry i = s.entry i := rfl
@[simp] theorem State.dropAction_get_window (s : State) (e : Nat) (i : Nat) : (s.dropAction e).window i = s.window i := rfl
@[simp] theorem State.dropAction_get_drive (s : State) (e : Nat) (i : Nat) : (s.dropAction e).drive i = s.drive i := rfl
@[simp] theorem State.dropAction_get_stageSet (s : State) (e : Nat) (i : Nat) : (s.dropAction e).stageSet i = s.stageSet i := rfl
@[simp] theorem State.dropAction_get_downCause (s : State) (e : Nat) (i : Nat) : (s.dropAction e).downCause i = s.downCause i := rfl

/-! ### answer -/

@[simp] theorem State.answer_pending (s : State) (c : Nat) : (s.answer c).pending = s.pending := rfl
@[simp] theorem State.answer_now (s : State) (c : Nat) : (s.answer c).now = s.now := rfl
@[simp] theorem State.answer_timeFree (s : State) (c : Nat) : (s.answer c).timeFree = s.timeFree := rfl
@[simp] theorem State.answer_refFailAt (s : State) (c : Nat) : (s.answer c).refFailAt = s.refFailAt := rfl
@[simp] theorem State.answer_active (s : State) (c : Nat) : (s.answer c).active = s.active := rfl
@[simp] theorem State.answer_prior (s : State) (c : Nat) : (s.answer c).prior = s.prior := rfl
@[simp] theorem State.answer_shadow (s : State) (c : Nat) : (s.answer c).shadow = s.shadow := rfl
@[simp] theorem State.answer_regs (s : State) (c : Nat) : (s.answer c).regs = s.regs := rfl
@[simp] theorem State.answer_retained (s : State) (c : Nat) : (s.answer c).retained = s.retained := rfl
@[simp] theorem State.answer_committed (s : State) (c : Nat) : (s.answer c).committed = s.committed := rfl
@[simp] theorem State.answer_sets (s : State) (c : Nat) : (s.answer c).sets = s.sets := rfl
@[simp] theorem State.answer_armed (s : State) (c : Nat) : (s.answer c).armed = s.armed := rfl
@[simp] theorem State.answer_queueC (s : State) (c : Nat) : (s.answer c).queueC = s.queueC := rfl
@[simp] theorem State.answer_switchSt (s : State) (c : Nat) : (s.answer c).switchSt = s.switchSt := rfl
@[simp] theorem State.answer_chans (s : State) (c : Nat) : (s.answer c).chans = s.chans := rfl
@[simp] theorem State.answer_ens (s : State) (c : Nat) : (s.answer c).ens = s.ens := rfl
@[simp] theorem State.answer_trims (s : State) (c : Nat) : (s.answer c).trims = s.trims := rfl
@[simp] theorem State.answer_clusters (s : State) (c : Nat) : (s.answer c).clusters = s.clusters := rfl
@[simp] theorem State.answer_latches (s : State) (c : Nat) : (s.answer c).latches = s.latches := rfl
@[simp] theorem State.answer_parts (s : State) (c : Nat) : (s.answer c).parts = s.parts := rfl
@[simp] theorem State.answer_groups (s : State) (c : Nat) : (s.answer c).groups = s.groups := rfl
@[simp] theorem State.answer_actions (s : State) (c : Nat) : (s.answer c).actions = s.actions := rfl
@[simp] theorem State.answer_caps (s : State) (c : Nat) : (s.answer c).caps = s.caps := rfl
@[simp] theorem State.answer_mgmtDown (s : State) (c : Nat) : (s.answer c).mgmtDown = s.mgmtDown := rfl
@[simp] theorem State.answer_stalled (s : State) (c : Nat) : (s.answer c).stalled = s.stalled := rfl
@[simp] theorem State.answer_islandBad (s : State) (c : Nat) : (s.answer c).islandBad = s.islandBad := rfl
@[simp] theorem State.answer_fabricFault (s : State) (c : Nat) : (s.answer c).fabricFault = s.fabricFault := rfl
@[simp] theorem State.answer_safeN (s : State) (c : Nat) : (s.answer c).safeN = s.safeN := rfl
@[simp] theorem State.answer_vioLost (s : State) (c : Nat) : (s.answer c).vioLost = s.vioLost := rfl
@[simp] theorem State.answer_evRing (s : State) (c : Nat) : (s.answer c).evRing = s.evRing := rfl
@[simp] theorem State.answer_evNext (s : State) (c : Nat) : (s.answer c).evNext = s.evNext := rfl
@[simp] theorem State.answer_ev04At (s : State) (c : Nat) : (s.answer c).ev04At = s.ev04At := rfl
@[simp] theorem State.answer_evQueues (s : State) (c : Nat) : (s.answer c).evQueues = s.evQueues := rfl
@[simp] theorem State.answer_evQueueGap (s : State) (c : Nat) : (s.answer c).evQueueGap = s.evQueueGap := rfl
@[simp] theorem State.answer_later (s : State) (c : Nat) : (s.answer c).later = s.later := rfl
@[simp] theorem State.answer_sessions (s : State) (c : Nat) : (s.answer c).sessions = s.sessions := rfl
@[simp] theorem State.answer_sessNext (s : State) (c : Nat) : (s.answer c).sessNext = s.sessNext := rfl
@[simp] theorem State.answer_asms (s : State) (c : Nat) : (s.answer c).asms = s.asms := rfl
@[simp] theorem State.answer_inbox (s : State) (c : Nat) : (s.answer c).inbox = s.inbox := rfl
@[simp] theorem State.answer_waits (s : State) (c : Nat) : (s.answer c).waits = s.waits := rfl
@[simp] theorem State.answer_outFrames (s : State) (c : Nat) : (s.answer c).outFrames = s.outFrames := rfl
@[simp] theorem State.answer_downs (s : State) (c : Nat) : (s.answer c).downs = s.downs := rfl
@[simp] theorem State.answer_t1sSleep (s : State) (c : Nat) : (s.answer c).t1sSleep = s.t1sSleep := rfl
@[simp] theorem State.answer_keys (s : State) (c : Nat) : (s.answer c).keys = s.keys := rfl
@[simp] theorem State.answer_streams (s : State) (c : Nat) : (s.answer c).streams = s.streams := rfl
@[simp] theorem State.answer_ports (s : State) (c : Nat) : (s.answer c).ports = s.ports := rfl
@[simp] theorem State.answer_entries (s : State) (c : Nat) : (s.answer c).entries = s.entries := rfl
@[simp] theorem State.answer_svc (s : State) (c : Nat) : (s.answer c).svc = s.svc := rfl
@[simp] theorem State.answer_peerOut (s : State) (c : Nat) : (s.answer c).peerOut = s.peerOut := rfl
@[simp] theorem State.answer_peerTries (s : State) (c : Nat) : (s.answer c).peerTries = s.peerTries := rfl
@[simp] theorem State.answer_peerReq (s : State) (c : Nat) : (s.answer c).peerReq = s.peerReq := rfl
@[simp] theorem State.answer_peerReqsAt (s : State) (c : Nat) : (s.answer c).peerReqsAt = s.peerReqsAt := rfl
@[simp] theorem State.answer_drives (s : State) (c : Nat) : (s.answer c).drives = s.drives := rfl
@[simp] theorem State.answer_trestle (s : State) (c : Nat) : (s.answer c).trestle = s.trestle := rfl
@[simp] theorem State.answer_thermal (s : State) (c : Nat) : (s.answer c).thermal = s.thermal := rfl
@[simp] theorem State.answer_supply (s : State) (c : Nat) : (s.answer c).supply = s.supply := rfl
@[simp] theorem State.answer_ledger (s : State) (c : Nat) : (s.answer c).ledger = s.ledger := rfl
@[simp] theorem State.answer_log (s : State) (c : Nat) : (s.answer c).log = s.log := rfl
@[simp] theorem State.answer_nv (s : State) (c : Nat) : (s.answer c).nv = s.nv := rfl
@[simp] theorem State.answer_host (s : State) (c : Nat) : (s.answer c).host = s.host := rfl
@[simp] theorem State.answer_sec (s : State) (c : Nat) : (s.answer c).sec = s.sec := rfl
@[simp] theorem State.answer_flash (s : State) (c : Nat) : (s.answer c).flash = s.flash := rfl
@[simp] theorem State.answer_granules (s : State) (c : Nat) : (s.answer c).granules = s.granules := rfl
@[simp] theorem State.answer_sectors (s : State) (c : Nat) : (s.answer c).sectors = s.sectors := rfl
@[simp] theorem State.answer_waitMaint (s : State) (c : Nat) : (s.answer c).waitMaint = s.waitMaint := rfl
@[simp] theorem State.answer_fwWaitAt (s : State) (c : Nat) : (s.answer c).fwWaitAt = s.fwWaitAt := rfl
@[simp] theorem State.answer_draws (s : State) (c : Nat) : (s.answer c).draws = s.draws := rfl
@[simp] theorem State.answer_get_reg (s : State) (c : Nat) (i : Nat) : (s.answer c).reg i = s.reg i := rfl
@[simp] theorem State.answer_get_act (s : State) (c : Nat) (i : Nat) : (s.answer c).act i = s.act i := rfl
@[simp] theorem State.answer_get_shad (s : State) (c : Nat) (i : Nat) : (s.answer c).shad i = s.shad i := rfl
@[simp] theorem State.answer_get_chan (s : State) (c : Nat) (i : Nat) : (s.answer c).chan i = s.chan i := rfl
@[simp] theorem State.answer_get_en (s : State) (c : Nat) (i : Nat) : (s.answer c).en i = s.en i := rfl
@[simp] theorem State.answer_get_trim (s : State) (c : Nat) (i : Nat) : (s.answer c).trim i = s.trim i := rfl
@[simp] theorem State.answer_get_cluster (s : State) (c : Nat) (i : Nat) : (s.answer c).cluster i = s.cluster i := rfl
@[simp] theorem State.answer_get_latch (s : State) (c : Nat) (i j : Nat) : (s.answer c).latch i j = s.latch i j := rfl
@[simp] theorem State.answer_get_part (s : State) (c : Nat) (i : Nat) : (s.answer c).part i = s.part i := rfl
@[simp] theorem State.answer_get_group (s : State) (c : Nat) (i : Nat) : (s.answer c).group i = s.group i := rfl
@[simp] theorem State.answer_get_cap (s : State) (c : Nat) (i : Nat) : (s.answer c).cap i = s.cap i := rfl
@[simp] theorem State.answer_get_key (s : State) (c : Nat) (i : Nat) : (s.answer c).key i = s.key i := rfl
@[simp] theorem State.answer_get_stream (s : State) (c : Nat) (i : Nat) : (s.answer c).stream i = s.stream i := rfl
@[simp] theorem State.answer_get_port (s : State) (c : Nat) (i : Nat) : (s.answer c).port i = s.port i := rfl
@[simp] theorem State.answer_get_entry (s : State) (c : Nat) (i : Nat) : (s.answer c).entry i = s.entry i := rfl
@[simp] theorem State.answer_get_window (s : State) (c : Nat) (i : Nat) : (s.answer c).window i = s.window i := rfl
@[simp] theorem State.answer_get_drive (s : State) (c : Nat) (i : Nat) : (s.answer c).drive i = s.drive i := rfl
@[simp] theorem State.answer_get_stageSet (s : State) (c : Nat) (i : Nat) : (s.answer c).stageSet i = s.stageSet i := rfl
@[simp] theorem State.answer_get_downCause (s : State) (c : Nat) (i : Nat) : (s.answer c).downCause i = s.downCause i := rfl
@[simp] theorem State.answer_get_action (s : State) (c : Nat) (i : Nat) : (s.answer c).action i = s.action i := rfl

/-! ### give -/

@[simp] theorem State.give_pending (s : State) (b : Bytes) : (s.give b).pending = s.pending := rfl
@[simp] theorem State.give_now (s : State) (b : Bytes) : (s.give b).now = s.now := rfl
@[simp] theorem State.give_timeFree (s : State) (b : Bytes) : (s.give b).timeFree = s.timeFree := rfl
@[simp] theorem State.give_refFailAt (s : State) (b : Bytes) : (s.give b).refFailAt = s.refFailAt := rfl
@[simp] theorem State.give_active (s : State) (b : Bytes) : (s.give b).active = s.active := rfl
@[simp] theorem State.give_prior (s : State) (b : Bytes) : (s.give b).prior = s.prior := rfl
@[simp] theorem State.give_shadow (s : State) (b : Bytes) : (s.give b).shadow = s.shadow := rfl
@[simp] theorem State.give_regs (s : State) (b : Bytes) : (s.give b).regs = s.regs := rfl
@[simp] theorem State.give_retained (s : State) (b : Bytes) : (s.give b).retained = s.retained := rfl
@[simp] theorem State.give_committed (s : State) (b : Bytes) : (s.give b).committed = s.committed := rfl
@[simp] theorem State.give_sets (s : State) (b : Bytes) : (s.give b).sets = s.sets := rfl
@[simp] theorem State.give_armed (s : State) (b : Bytes) : (s.give b).armed = s.armed := rfl
@[simp] theorem State.give_queueC (s : State) (b : Bytes) : (s.give b).queueC = s.queueC := rfl
@[simp] theorem State.give_switchSt (s : State) (b : Bytes) : (s.give b).switchSt = s.switchSt := rfl
@[simp] theorem State.give_chans (s : State) (b : Bytes) : (s.give b).chans = s.chans := rfl
@[simp] theorem State.give_ens (s : State) (b : Bytes) : (s.give b).ens = s.ens := rfl
@[simp] theorem State.give_trims (s : State) (b : Bytes) : (s.give b).trims = s.trims := rfl
@[simp] theorem State.give_clusters (s : State) (b : Bytes) : (s.give b).clusters = s.clusters := rfl
@[simp] theorem State.give_latches (s : State) (b : Bytes) : (s.give b).latches = s.latches := rfl
@[simp] theorem State.give_parts (s : State) (b : Bytes) : (s.give b).parts = s.parts := rfl
@[simp] theorem State.give_groups (s : State) (b : Bytes) : (s.give b).groups = s.groups := rfl
@[simp] theorem State.give_actions (s : State) (b : Bytes) : (s.give b).actions = s.actions := rfl
@[simp] theorem State.give_caps (s : State) (b : Bytes) : (s.give b).caps = s.caps := rfl
@[simp] theorem State.give_mgmtDown (s : State) (b : Bytes) : (s.give b).mgmtDown = s.mgmtDown := rfl
@[simp] theorem State.give_stalled (s : State) (b : Bytes) : (s.give b).stalled = s.stalled := rfl
@[simp] theorem State.give_islandBad (s : State) (b : Bytes) : (s.give b).islandBad = s.islandBad := rfl
@[simp] theorem State.give_fabricFault (s : State) (b : Bytes) : (s.give b).fabricFault = s.fabricFault := rfl
@[simp] theorem State.give_safeN (s : State) (b : Bytes) : (s.give b).safeN = s.safeN := rfl
@[simp] theorem State.give_vioLost (s : State) (b : Bytes) : (s.give b).vioLost = s.vioLost := rfl
@[simp] theorem State.give_evRing (s : State) (b : Bytes) : (s.give b).evRing = s.evRing := rfl
@[simp] theorem State.give_evNext (s : State) (b : Bytes) : (s.give b).evNext = s.evNext := rfl
@[simp] theorem State.give_ev04At (s : State) (b : Bytes) : (s.give b).ev04At = s.ev04At := rfl
@[simp] theorem State.give_evQueues (s : State) (b : Bytes) : (s.give b).evQueues = s.evQueues := rfl
@[simp] theorem State.give_evQueueGap (s : State) (b : Bytes) : (s.give b).evQueueGap = s.evQueueGap := rfl
@[simp] theorem State.give_later (s : State) (b : Bytes) : (s.give b).later = s.later := rfl
@[simp] theorem State.give_sessions (s : State) (b : Bytes) : (s.give b).sessions = s.sessions := rfl
@[simp] theorem State.give_sessNext (s : State) (b : Bytes) : (s.give b).sessNext = s.sessNext := rfl
@[simp] theorem State.give_asms (s : State) (b : Bytes) : (s.give b).asms = s.asms := rfl
@[simp] theorem State.give_inbox (s : State) (b : Bytes) : (s.give b).inbox = s.inbox := rfl
@[simp] theorem State.give_waits (s : State) (b : Bytes) : (s.give b).waits = s.waits := rfl
@[simp] theorem State.give_outFrames (s : State) (b : Bytes) : (s.give b).outFrames = s.outFrames := rfl
@[simp] theorem State.give_downs (s : State) (b : Bytes) : (s.give b).downs = s.downs := rfl
@[simp] theorem State.give_t1sSleep (s : State) (b : Bytes) : (s.give b).t1sSleep = s.t1sSleep := rfl
@[simp] theorem State.give_keys (s : State) (b : Bytes) : (s.give b).keys = s.keys := rfl
@[simp] theorem State.give_streams (s : State) (b : Bytes) : (s.give b).streams = s.streams := rfl
@[simp] theorem State.give_ports (s : State) (b : Bytes) : (s.give b).ports = s.ports := rfl
@[simp] theorem State.give_entries (s : State) (b : Bytes) : (s.give b).entries = s.entries := rfl
@[simp] theorem State.give_svc (s : State) (b : Bytes) : (s.give b).svc = s.svc := rfl
@[simp] theorem State.give_peerOut (s : State) (b : Bytes) : (s.give b).peerOut = s.peerOut := rfl
@[simp] theorem State.give_peerTries (s : State) (b : Bytes) : (s.give b).peerTries = s.peerTries := rfl
@[simp] theorem State.give_peerReq (s : State) (b : Bytes) : (s.give b).peerReq = s.peerReq := rfl
@[simp] theorem State.give_peerReqsAt (s : State) (b : Bytes) : (s.give b).peerReqsAt = s.peerReqsAt := rfl
@[simp] theorem State.give_drives (s : State) (b : Bytes) : (s.give b).drives = s.drives := rfl
@[simp] theorem State.give_trestle (s : State) (b : Bytes) : (s.give b).trestle = s.trestle := rfl
@[simp] theorem State.give_thermal (s : State) (b : Bytes) : (s.give b).thermal = s.thermal := rfl
@[simp] theorem State.give_supply (s : State) (b : Bytes) : (s.give b).supply = s.supply := rfl
@[simp] theorem State.give_ledger (s : State) (b : Bytes) : (s.give b).ledger = s.ledger := rfl
@[simp] theorem State.give_log (s : State) (b : Bytes) : (s.give b).log = s.log := rfl
@[simp] theorem State.give_nv (s : State) (b : Bytes) : (s.give b).nv = s.nv := rfl
@[simp] theorem State.give_host (s : State) (b : Bytes) : (s.give b).host = s.host := rfl
@[simp] theorem State.give_sec (s : State) (b : Bytes) : (s.give b).sec = s.sec := rfl
@[simp] theorem State.give_flash (s : State) (b : Bytes) : (s.give b).flash = s.flash := rfl
@[simp] theorem State.give_granules (s : State) (b : Bytes) : (s.give b).granules = s.granules := rfl
@[simp] theorem State.give_sectors (s : State) (b : Bytes) : (s.give b).sectors = s.sectors := rfl
@[simp] theorem State.give_waitMaint (s : State) (b : Bytes) : (s.give b).waitMaint = s.waitMaint := rfl
@[simp] theorem State.give_fwWaitAt (s : State) (b : Bytes) : (s.give b).fwWaitAt = s.fwWaitAt := rfl
@[simp] theorem State.give_draws (s : State) (b : Bytes) : (s.give b).draws = s.draws := rfl
@[simp] theorem State.give_get_reg (s : State) (b : Bytes) (i : Nat) : (s.give b).reg i = s.reg i := rfl
@[simp] theorem State.give_get_act (s : State) (b : Bytes) (i : Nat) : (s.give b).act i = s.act i := rfl
@[simp] theorem State.give_get_shad (s : State) (b : Bytes) (i : Nat) : (s.give b).shad i = s.shad i := rfl
@[simp] theorem State.give_get_chan (s : State) (b : Bytes) (i : Nat) : (s.give b).chan i = s.chan i := rfl
@[simp] theorem State.give_get_en (s : State) (b : Bytes) (i : Nat) : (s.give b).en i = s.en i := rfl
@[simp] theorem State.give_get_trim (s : State) (b : Bytes) (i : Nat) : (s.give b).trim i = s.trim i := rfl
@[simp] theorem State.give_get_cluster (s : State) (b : Bytes) (i : Nat) : (s.give b).cluster i = s.cluster i := rfl
@[simp] theorem State.give_get_latch (s : State) (b : Bytes) (i j : Nat) : (s.give b).latch i j = s.latch i j := rfl
@[simp] theorem State.give_get_part (s : State) (b : Bytes) (i : Nat) : (s.give b).part i = s.part i := rfl
@[simp] theorem State.give_get_group (s : State) (b : Bytes) (i : Nat) : (s.give b).group i = s.group i := rfl
@[simp] theorem State.give_get_cap (s : State) (b : Bytes) (i : Nat) : (s.give b).cap i = s.cap i := rfl
@[simp] theorem State.give_get_key (s : State) (b : Bytes) (i : Nat) : (s.give b).key i = s.key i := rfl
@[simp] theorem State.give_get_stream (s : State) (b : Bytes) (i : Nat) : (s.give b).stream i = s.stream i := rfl
@[simp] theorem State.give_get_port (s : State) (b : Bytes) (i : Nat) : (s.give b).port i = s.port i := rfl
@[simp] theorem State.give_get_entry (s : State) (b : Bytes) (i : Nat) : (s.give b).entry i = s.entry i := rfl
@[simp] theorem State.give_get_window (s : State) (b : Bytes) (i : Nat) : (s.give b).window i = s.window i := rfl
@[simp] theorem State.give_get_drive (s : State) (b : Bytes) (i : Nat) : (s.give b).drive i = s.drive i := rfl
@[simp] theorem State.give_get_stageSet (s : State) (b : Bytes) (i : Nat) : (s.give b).stageSet i = s.stageSet i := rfl
@[simp] theorem State.give_get_downCause (s : State) (b : Bytes) (i : Nat) : (s.give b).downCause i = s.downCause i := rfl
@[simp] theorem State.give_get_action (s : State) (b : Bytes) (i : Nat) : (s.give b).action i = s.action i := rfl

/-! ### Reading after writing -/

@[simp] theorem State.setChan_chan_same (s : State) (c : Nat) (x : ChanX) : (s.setChan c x).chan c = x := tabGet_set_self _ _ _ _
@[simp] theorem State.setChan_chan_ne (s : State) (c d : Nat) (x : ChanX) (h : d ≠ c) : (s.setChan c x).chan d = s.chan d :=
  tabGet_set_ne _ _ _ h
@[simp] theorem State.setEn_en_same (s : State) (c : Nat) (x : EnX) : (s.setEn c x).en c = x := tabGet_set_self _ _ _ _
@[simp] theorem State.setEn_en_ne (s : State) (c d : Nat) (x : EnX) (h : d ≠ c) : (s.setEn c x).en d = s.en d :=
  tabGet_set_ne _ _ _ h
@[simp] theorem State.setTrim_trim_same (s : State) (c : Nat) (x : TrimX) : (s.setTrim c x).trim c = x := tabGet_set_self _ _ _ _
@[simp] theorem State.setTrim_trim_ne (s : State) (c d : Nat) (x : TrimX) (h : d ≠ c) : (s.setTrim c x).trim d = s.trim d :=
  tabGet_set_ne _ _ _ h
@[simp] theorem State.setCluster_cluster_same (s : State) (c : Nat) (x : ClusterX) : (s.setCluster c x).cluster c = x := tabGet_set_self _ _ _ _
@[simp] theorem State.setCluster_cluster_ne (s : State) (c d : Nat) (x : ClusterX) (h : d ≠ c) : (s.setCluster c x).cluster d = s.cluster d :=
  tabGet_set_ne _ _ _ h
@[simp] theorem State.setPart_part_same (s : State) (c : Nat) (x : PartX) : (s.setPart c x).part c = x := tabGet_set_self _ _ _ _
@[simp] theorem State.setPart_part_ne (s : State) (c d : Nat) (x : PartX) (h : d ≠ c) : (s.setPart c x).part d = s.part d :=
  tabGet_set_ne _ _ _ h
@[simp] theorem State.setGroup_group_same (s : State) (c : Nat) (x : GroupX) : (s.setGroup c x).group c = x := tabGet_set_self _ _ _ _
@[simp] theorem State.setGroup_group_ne (s : State) (c d : Nat) (x : GroupX) (h : d ≠ c) : (s.setGroup c x).group d = s.group d :=
  tabGet_set_ne _ _ _ h
@[simp] theorem State.setCap_cap_same (s : State) (c : Nat) (x : CapX) : (s.setCap c x).cap c = x := tabGet_set_self _ _ _ _
@[simp] theorem State.setCap_cap_ne (s : State) (c d : Nat) (x : CapX) (h : d ≠ c) : (s.setCap c x).cap d = s.cap d :=
  tabGet_set_ne _ _ _ h
@[simp] theorem State.setKey_key_same (s : State) (c : Nat) (x : KeyX) : (s.setKey c x).key c = x := tabGet_set_self _ _ _ _
@[simp] theorem State.setKey_key_ne (s : State) (c d : Nat) (x : KeyX) (h : d ≠ c) : (s.setKey c x).key d = s.key d :=
  tabGet_set_ne _ _ _ h
@[simp] theorem State.setStream_stream_same (s : State) (c : Nat) (x : StreamX) : (s.setStream c x).stream c = x := tabGet_set_self _ _ _ _
@[simp] theorem State.setStream_stream_ne (s : State) (c d : Nat) (x : StreamX) (h : d ≠ c) : (s.setStream c x).stream d = s.stream d :=
  tabGet_set_ne _ _ _ h
@[simp] theorem State.setPort_port_same (s : State) (c : Nat) (x : PortX) : (s.setPort c x).port c = x := tabGet_set_self _ _ _ _
@[simp] theorem State.setPort_port_ne (s : State) (c d : Nat) (x : PortX) (h : d ≠ c) : (s.setPort c x).port d = s.port d :=
  tabGet_set_ne _ _ _ h
@[simp] theorem State.setEntry_entry_same (s : State) (c : Nat) (x : EntryX) : (s.setEntry c x).entry c = x := tabGet_set_self _ _ _ _
@[simp] theorem State.setEntry_entry_ne (s : State) (c d : Nat) (x : EntryX) (h : d ≠ c) : (s.setEntry c x).entry d = s.entry d :=
  tabGet_set_ne _ _ _ h
@[simp] theorem State.setWindow_window_same (s : State) (c : Nat) (x : SvcX) : (s.setWindow c x).window c = x := tabGet_set_self _ _ _ _
@[simp] theorem State.setWindow_window_ne (s : State) (c d : Nat) (x : SvcX) (h : d ≠ c) : (s.setWindow c x).window d = s.window d :=
  tabGet_set_ne _ _ _ h
@[simp] theorem State.setDrive_drive_same (s : State) (c : Nat) (x : DriveX) : (s.setDrive c x).drive c = x := tabGet_set_self _ _ _ _
@[simp] theorem State.setDrive_drive_ne (s : State) (c d : Nat) (x : DriveX) (h : d ≠ c) : (s.setDrive c x).drive d = s.drive d :=
  tabGet_set_ne _ _ _ h
@[simp] theorem State.setStage_stageSet_same (s : State) (c : Nat) (x : StageSet) : (s.setStage c x).stageSet c = x := tabGet_set_self _ _ _ _
@[simp] theorem State.setStage_stageSet_ne (s : State) (c d : Nat) (x : StageSet) (h : d ≠ c) : (s.setStage c x).stageSet d = s.stageSet d :=
  tabGet_set_ne _ _ _ h
@[simp] theorem State.setDown_downCause_same (s : State) (l c : Nat) : (s.setDown l c).downCause l = c := by
  simp [State.downCause, State.setDown]
@[simp] theorem State.setDown_downCause_ne (s : State) (l m c : Nat) (h : m ≠ l) : (s.setDown l c).downCause m = s.downCause m := by
  simp [State.downCause, State.setDown, tabGet_set_ne _ _ _ h]
@[simp] theorem State.setReg_reg_same (s : State) (k v : Nat) : (s.setReg k v).reg k = v := tabGet_set_self _ _ _ _
@[simp] theorem State.setReg_reg_ne (s : State) (k j v : Nat) (h : j ≠ k) : (s.setReg k v).reg j = s.reg j := tabGet_set_ne _ _ _ h
@[simp] theorem State.bump16_eq (s : State) (k : Nat) : s.bump16 k = s.setReg k (sat16 (s.reg k)) := rfl
@[simp] theorem State.bump32_eq (s : State) (k : Nat) : s.bump32 k = s.setReg k (wrap32 (s.reg k)) := rfl
@[simp] theorem State.answer_status (s : State) (c : Nat) : (s.answer c).status = c := rfl
@[simp] theorem State.answer_reply (s : State) (c : Nat) : (s.answer c).reply = [] := rfl
@[simp] theorem State.give_status (s : State) (b : Bytes) : (s.give b).status = 0 := rfl
@[simp] theorem State.give_reply (s : State) (b : Bytes) : (s.give b).reply = b := rfl

end Sys2Proof.Machine
end

