-- ==== Sys2Proof/Laws/Frame.lean ====
section
/-! SUPPORT. The laws of frames: which updates a frame does not see, what a frame says of each field, and how frames compose. -/
namespace Sys2Proof.Machine

/-! ### Composition -/

theorem Same.refl (l : List Fld) (s : State) : Same l s s := rfl
theorem Same.trans {l : List Fld} {s t u : State} (h : Same l s t) (h' : Same l t u) : Same l s u := Eq.trans h' h

/-! ### The updates -/

@[simp] theorem State.setReg_but (s : State) (k v : Nat) (l : List Fld) (h0 : Fld.regs ∈ l) : (s.setReg k v).but l = s.but l := by
  simp [State.but, State.setReg, h0]
@[simp] theorem State.setChan_but (s : State) (c : Nat) (x : ChanX) (l : List Fld) (h0 : Fld.chans ∈ l) : (s.setChan c x).but l = s.but l := by
  simp [State.but, State.setChan, h0]
@[simp] theorem State.setEn_but (s : State) (c : Nat) (x : EnX) (l : List Fld) (h0 : Fld.ens ∈ l) : (s.setEn c x).but l = s.but l := by
  simp [State.but, State.setEn, h0]
@[simp] theorem State.setTrim_but (s : State) (c : Nat) (x : TrimX) (l : List Fld) (h0 : Fld.trims ∈ l) : (s.setTrim c x).but l = s.but l := by
  simp [State.but, State.setTrim, h0]
@[simp] theorem State.setCluster_but (s : State) (c : Nat) (x : ClusterX) (l : List Fld) (h0 : Fld.clusters ∈ l) : (s.setCluster c x).but l = s.but l := by
  simp [State.but, State.setCluster, h0]
@[simp] theorem State.setLatch_but (s : State) (c p : Nat) (x : Latch) (l : List Fld) (h0 : Fld.latches ∈ l) : (s.setLatch c p x).but l = s.but l := by
  simp [State.but, State.setLatch, h0]
@[simp] theorem State.setPart_but (s : State) (c : Nat) (x : PartX) (l : List Fld) (h0 : Fld.parts ∈ l) : (s.setPart c x).but l = s.but l := by
  simp [State.but, State.setPart, h0]
@[simp] theorem State.setGroup_but (s : State) (c : Nat) (x : GroupX) (l : List Fld) (h0 : Fld.groups ∈ l) : (s.setGroup c x).but l = s.but l := by
  simp [State.but, State.setGroup, h0]
@[simp] theorem State.setCap_but (s : State) (c : Nat) (x : CapX) (l : List Fld) (h0 : Fld.caps ∈ l) : (s.setCap c x).but l = s.but l := by
  simp [State.but, State.setCap, h0]
@[simp] theorem State.setKey_but (s : State) (c : Nat) (x : KeyX) (l : List Fld) (h0 : Fld.keys ∈ l) : (s.setKey c x).but l = s.but l := by
  simp [State.but, State.setKey, h0]
@[simp] theorem State.setStream_but (s : State) (c : Nat) (x : StreamX) (l : List Fld) (h0 : Fld.streams ∈ l) : (s.setStream c x).but l = s.but l := by
  simp [State.but, State.setStream, h0]
@[simp] theorem State.setPort_but (s : State) (c : Nat) (x : PortX) (l : List Fld) (h0 : Fld.ports ∈ l) : (s.setPort c x).but l = s.but l := by
  simp [State.but, State.setPort, h0]
@[simp] theorem State.setEntry_but (s : State) (c : Nat) (x : EntryX) (l : List Fld) (h0 : Fld.entries ∈ l) : (s.setEntry c x).but l = s.but l := by
  simp [State.but, State.setEntry, h0]
@[simp] theorem State.setWindow_but (s : State) (c : Nat) (x : SvcX) (l : List Fld) (h0 : Fld.svc ∈ l) : (s.setWindow c x).but l = s.but l := by
  simp [State.but, State.setWindow, h0]
@[simp] theorem State.setDrive_but (s : State) (c : Nat) (x : DriveX) (l : List Fld) (h0 : Fld.drives ∈ l) : (s.setDrive c x).but l = s.but l := by
  simp [State.but, State.setDrive, h0]
@[simp] theorem State.setStage_but (s : State) (c : Nat) (x : StageSet) (l : List Fld) (h0 : Fld.sets ∈ l) : (s.setStage c x).but l = s.but l := by
  simp [State.but, State.setStage, h0]
@[simp] theorem State.setDown_but (s : State) (m c : Nat) (l : List Fld) (h0 : Fld.downs ∈ l) : (s.setDown m c).but l = s.but l := by
  simp [State.but, State.setDown, h0]
@[simp] theorem State.setAction_but (s : State) (e : Nat) (x : ActX) (l : List Fld) (h0 : Fld.actions ∈ l) : (s.setAction e x).but l = s.but l := by
  simp [State.but, State.setAction, h0]
@[simp] theorem State.dropAction_but (s : State) (e : Nat) (l : List Fld) (h0 : Fld.actions ∈ l) : (s.dropAction e).but l = s.but l := by
  simp [State.but, State.dropAction, h0]
@[simp] theorem State.answer_but (s : State) (c : Nat) (l : List Fld) (h0 : Fld.status ∈ l) (h1 : Fld.reply ∈ l) : (s.answer c).but l = s.but l := by
  simp [State.but, State.answer, h0, h1]
@[simp] theorem State.give_but (s : State) (b : Bytes) (l : List Fld) (h0 : Fld.status ∈ l) (h1 : Fld.reply ∈ l) : (s.give b).but l = s.but l := by
  simp [State.but, State.give, h0, h1]
@[simp] theorem State.bump16_but (s : State) (k : Nat) (l : List Fld) (h : Fld.regs ∈ l) : (s.bump16 k).but l = s.but l :=
  State.setReg_but _ _ _ _ h
@[simp] theorem State.bump32_but (s : State) (k : Nat) (l : List Fld) (h : Fld.regs ∈ l) : (s.bump32 k).but l = s.but l :=
  State.setReg_but _ _ _ _ h

/-! ### Updates of one field -/

@[simp] theorem State.but_pending (s : State) (x) (l : List Fld) (h : Fld.pending ∈ l) : ({ s with pending := x } : State).but l = s.but l := by
  simp [State.but, h]
@[simp] theorem State.but_status (s : State) (x) (l : List Fld) (h : Fld.status ∈ l) : ({ s with status := x } : State).but l = s.but l := by
  simp [State.but, h]
@[simp] theorem State.but_reply (s : State) (x) (l : List Fld) (h : Fld.reply ∈ l) : ({ s with reply := x } : State).but l = s.but l := by
  simp [State.but, h]
@[simp] theorem State.but_now (s : State) (x) (l : List Fld) (h : Fld.now ∈ l) : ({ s with now := x } : State).but l = s.but l := by
  simp [State.but, h]
@[simp] theorem State.but_timeFree (s : State) (x) (l : List Fld) (h : Fld.timeFree ∈ l) : ({ s with timeFree := x } : State).but l = s.but l := by
  simp [State.but, h]
@[simp] theorem State.but_refFailAt (s : State) (x) (l : List Fld) (h : Fld.refFailAt ∈ l) : ({ s with refFailAt := x } : State).but l = s.but l := by
  simp [State.but, h]
@[simp] theorem State.but_active (s : State) (x) (l : List Fld) (h : Fld.active ∈ l) : ({ s with active := x } : State).but l = s.but l := by
  simp [State.but, h]
@[simp] theorem State.but_prior (s : State) (x) (l : List Fld) (h : Fld.prior ∈ l) : ({ s with prior := x } : State).but l = s.but l := by
  simp [State.but, h]
@[simp] theorem State.but_shadow (s : State) (x) (l : List Fld) (h : Fld.shadow ∈ l) : ({ s with shadow := x } : State).but l = s.but l := by
  simp [State.but, h]
@[simp] theorem State.but_regs (s : State) (x) (l : List Fld) (h : Fld.regs ∈ l) : ({ s with regs := x } : State).but l = s.but l := by
  simp [State.but, h]
@[simp] theorem State.but_retained (s : State) (x) (l : List Fld) (h : Fld.retained ∈ l) : ({ s with retained := x } : State).but l = s.but l := by
  simp [State.but, h]
@[simp] theorem State.but_committed (s : State) (x) (l : List Fld) (h : Fld.committed ∈ l) : ({ s with committed := x } : State).but l = s.but l := by
  simp [State.but, h]
@[simp] theorem State.but_sets (s : State) (x) (l : List Fld) (h : Fld.sets ∈ l) : ({ s with sets := x } : State).but l = s.but l := by
  simp [State.but, h]
@[simp] theorem State.but_armed (s : State) (x) (l : List Fld) (h : Fld.armed ∈ l) : ({ s with armed := x } : State).but l = s.but l := by
  simp [State.but, h]
@[simp] theorem State.but_queueC (s : State) (x) (l : List Fld) (h : Fld.queueC ∈ l) : ({ s with queueC := x } : State).but l = s.but l := by
  simp [State.but, h]
@[simp] theorem State.but_switchSt (s : State) (x) (l : List Fld) (h : Fld.switchSt ∈ l) : ({ s with switchSt := x } : State).but l = s.but l := by
  simp [State.but, h]
@[simp] theorem State.but_chans (s : State) (x) (l : List Fld) (h : Fld.chans ∈ l) : ({ s with chans := x } : State).but l = s.but l := by
  simp [State.but, h]
@[simp] theorem State.but_ens (s : State) (x) (l : List Fld) (h : Fld.ens ∈ l) : ({ s with ens := x } : State).but l = s.but l := by
  simp [State.but, h]
@[simp] theorem State.but_trims (s : State) (x) (l : List Fld) (h : Fld.trims ∈ l) : ({ s with trims := x } : State).but l = s.but l := by
  simp [State.but, h]
@[simp] theorem State.but_clusters (s : State) (x) (l : List Fld) (h : Fld.clusters ∈ l) : ({ s with clusters := x } : State).but l = s.but l := by
  simp [State.but, h]
@[simp] theorem State.but_latches (s : State) (x) (l : List Fld) (h : Fld.latches ∈ l) : ({ s with latches := x } : State).but l = s.but l := by
  simp [State.but, h]
@[simp] theorem State.but_parts (s : State) (x) (l : List Fld) (h : Fld.parts ∈ l) : ({ s with parts := x } : State).but l = s.but l := by
  simp [State.but, h]
@[simp] theorem State.but_groups (s : State) (x) (l : List Fld) (h : Fld.groups ∈ l) : ({ s with groups := x } : State).but l = s.but l := by
  simp [State.but, h]
@[simp] theorem State.but_actions (s : State) (x) (l : List Fld) (h : Fld.actions ∈ l) : ({ s with actions := x } : State).but l = s.but l := by
  simp [State.but, h]
@[simp] theorem State.but_caps (s : State) (x) (l : List Fld) (h : Fld.caps ∈ l) : ({ s with caps := x } : State).but l = s.but l := by
  simp [State.but, h]
@[simp] theorem State.but_mgmtDown (s : State) (x) (l : List Fld) (h : Fld.mgmtDown ∈ l) : ({ s with mgmtDown := x } : State).but l = s.but l := by
  simp [State.but, h]
@[simp] theorem State.but_stalled (s : State) (x) (l : List Fld) (h : Fld.stalled ∈ l) : ({ s with stalled := x } : State).but l = s.but l := by
  simp [State.but, h]
@[simp] theorem State.but_islandBad (s : State) (x) (l : List Fld) (h : Fld.islandBad ∈ l) : ({ s with islandBad := x } : State).but l = s.but l := by
  simp [State.but, h]
@[simp] theorem State.but_fabricFault (s : State) (x) (l : List Fld) (h : Fld.fabricFault ∈ l) : ({ s with fabricFault := x } : State).but l = s.but l := by
  simp [State.but, h]
@[simp] theorem State.but_safeN (s : State) (x) (l : List Fld) (h : Fld.safeN ∈ l) : ({ s with safeN := x } : State).but l = s.but l := by
  simp [State.but, h]
@[simp] theorem State.but_vioLost (s : State) (x) (l : List Fld) (h : Fld.vioLost ∈ l) : ({ s with vioLost := x } : State).but l = s.but l := by
  simp [State.but, h]
@[simp] theorem State.but_later (s : State) (x) (l : List Fld) (h : Fld.later ∈ l) : ({ s with later := x } : State).but l = s.but l := by
  simp [State.but, h]
@[simp] theorem State.but_sessions (s : State) (x) (l : List Fld) (h : Fld.sessions ∈ l) : ({ s with sessions := x } : State).but l = s.but l := by
  simp [State.but, h]
@[simp] theorem State.but_sessNext (s : State) (x) (l : List Fld) (h : Fld.sessNext ∈ l) : ({ s with sessNext := x } : State).but l = s.but l := by
  simp [State.but, h]
@[simp] theorem State.but_asms (s : State) (x) (l : List Fld) (h : Fld.asms ∈ l) : ({ s with asms := x } : State).but l = s.but l := by
  simp [State.but, h]
@[simp] theorem State.but_inbox (s : State) (x) (l : List Fld) (h : Fld.inbox ∈ l) : ({ s with inbox := x } : State).but l = s.but l := by
  simp [State.but, h]
@[simp] theorem State.but_waits (s : State) (x) (l : List Fld) (h : Fld.waits ∈ l) : ({ s with waits := x } : State).but l = s.but l := by
  simp [State.but, h]
@[simp] theorem State.but_outFrames (s : State) (x) (l : List Fld) (h : Fld.outFrames ∈ l) : ({ s with outFrames := x } : State).but l = s.but l := by
  simp [State.but, h]
@[simp] theorem State.but_downs (s : State) (x) (l : List Fld) (h : Fld.downs ∈ l) : ({ s with downs := x } : State).but l = s.but l := by
  simp [State.but, h]
@[simp] theorem State.but_t1sSleep (s : State) (x) (l : List Fld) (h : Fld.t1sSleep ∈ l) : ({ s with t1sSleep := x } : State).but l = s.but l := by
  simp [State.but, h]
@[simp] theorem State.but_keys (s : State) (x) (l : List Fld) (h : Fld.keys ∈ l) : ({ s with keys := x } : State).but l = s.but l := by
  simp [State.but, h]
@[simp] theorem State.but_streams (s : State) (x) (l : List Fld) (h : Fld.streams ∈ l) : ({ s with streams := x } : State).but l = s.but l := by
  simp [State.but, h]
@[simp] theorem State.but_ports (s : State) (x) (l : List Fld) (h : Fld.ports ∈ l) : ({ s with ports := x } : State).but l = s.but l := by
  simp [State.but, h]
@[simp] theorem State.but_entries (s : State) (x) (l : List Fld) (h : Fld.entries ∈ l) : ({ s with entries := x } : State).but l = s.but l := by
  simp [State.but, h]
@[simp] theorem State.but_svc (s : State) (x) (l : List Fld) (h : Fld.svc ∈ l) : ({ s with svc := x } : State).but l = s.but l := by
  simp [State.but, h]
@[simp] theorem State.but_peerOut (s : State) (x) (l : List Fld) (h : Fld.peerOut ∈ l) : ({ s with peerOut := x } : State).but l = s.but l := by
  simp [State.but, h]
@[simp] theorem State.but_peerTries (s : State) (x) (l : List Fld) (h : Fld.peerTries ∈ l) : ({ s with peerTries := x } : State).but l = s.but l := by
  simp [State.but, h]
@[simp] theorem State.but_peerReq (s : State) (x) (l : List Fld) (h : Fld.peerReq ∈ l) : ({ s with peerReq := x } : State).but l = s.but l := by
  simp [State.but, h]
@[simp] theorem State.but_peerReqsAt (s : State) (x) (l : List Fld) (h : Fld.peerReqsAt ∈ l) : ({ s with peerReqsAt := x } : State).but l = s.but l := by
  simp [State.but, h]
@[simp] theorem State.but_drives (s : State) (x) (l : List Fld) (h : Fld.drives ∈ l) : ({ s with drives := x } : State).but l = s.but l := by
  simp [State.but, h]
@[simp] theorem State.but_trestle (s : State) (x) (l : List Fld) (h : Fld.trestle ∈ l) : ({ s with trestle := x } : State).but l = s.but l := by
  simp [State.but, h]
@[simp] theorem State.but_thermal (s : State) (x) (l : List Fld) (h : Fld.thermal ∈ l) : ({ s with thermal := x } : State).but l = s.but l := by
  simp [State.but, h]
@[simp] theorem State.but_supply (s : State) (x) (l : List Fld) (h : Fld.supply ∈ l) : ({ s with supply := x } : State).but l = s.but l := by
  simp [State.but, h]
@[simp] theorem State.but_ledger (s : State) (x) (l : List Fld) (h : Fld.ledger ∈ l) : ({ s with ledger := x } : State).but l = s.but l := by
  simp [State.but, h]
@[simp] theorem State.but_log (s : State) (x) (l : List Fld) (h : Fld.log ∈ l) : ({ s with log := x } : State).but l = s.but l := by
  simp [State.but, h]
@[simp] theorem State.but_nv (s : State) (x) (l : List Fld) (h : Fld.nv ∈ l) : ({ s with nv := x } : State).but l = s.but l := by
  simp [State.but, h]
@[simp] theorem State.but_host (s : State) (x) (l : List Fld) (h : Fld.host ∈ l) : ({ s with host := x } : State).but l = s.but l := by
  simp [State.but, h]
@[simp] theorem State.but_sec (s : State) (x) (l : List Fld) (h : Fld.sec ∈ l) : ({ s with sec := x } : State).but l = s.but l := by
  simp [State.but, h]
@[simp] theorem State.but_flash (s : State) (x) (l : List Fld) (h : Fld.flash ∈ l) : ({ s with flash := x } : State).but l = s.but l := by
  simp [State.but, h]
@[simp] theorem State.but_granules (s : State) (x) (l : List Fld) (h : Fld.granules ∈ l) : ({ s with granules := x } : State).but l = s.but l := by
  simp [State.but, h]
@[simp] theorem State.but_sectors (s : State) (x) (l : List Fld) (h : Fld.sectors ∈ l) : ({ s with sectors := x } : State).but l = s.but l := by
  simp [State.but, h]
@[simp] theorem State.but_waitMaint (s : State) (x) (l : List Fld) (h : Fld.waitMaint ∈ l) : ({ s with waitMaint := x } : State).but l = s.but l := by
  simp [State.but, h]
@[simp] theorem State.but_fwWaitAt (s : State) (x) (l : List Fld) (h : Fld.fwWaitAt ∈ l) : ({ s with fwWaitAt := x } : State).but l = s.but l := by
  simp [State.but, h]
@[simp] theorem State.but_draws (s : State) (x) (l : List Fld) (h : Fld.draws ∈ l) : ({ s with draws := x } : State).but l = s.but l := by
  simp [State.but, h]
@[simp] theorem State.but_evRing (s : State) (x) (l : List Fld) (h : Fld.events ∈ l) : ({ s with evRing := x } : State).but l = s.but l := by
  simp [State.but, h]
@[simp] theorem State.but_evNext (s : State) (x) (l : List Fld) (h : Fld.events ∈ l) : ({ s with evNext := x } : State).but l = s.but l := by
  simp [State.but, h]
@[simp] theorem State.but_ev04At (s : State) (x) (l : List Fld) (h : Fld.events ∈ l) : ({ s with ev04At := x } : State).but l = s.but l := by
  simp [State.but, h]
@[simp] theorem State.but_evQueues (s : State) (x) (l : List Fld) (h : Fld.events ∈ l) : ({ s with evQueues := x } : State).but l = s.but l := by
  simp [State.but, h]
@[simp] theorem State.but_evQueueGap (s : State) (x) (l : List Fld) (h : Fld.events ∈ l) : ({ s with evQueueGap := x } : State).but l = s.but l := by
  simp [State.but, h]

/-! ### What a frame says of a field -/

theorem Same.pending {l : List Fld} {s t : State} (h : Same l s t) (hn : Fld.pending ∉ l) : t.pending = s.pending := by
  have := congrArg State.pending h
  simpa [State.but, hn] using this
theorem Same.status {l : List Fld} {s t : State} (h : Same l s t) (hn : Fld.status ∉ l) : t.status = s.status := by
  have := congrArg State.status h
  simpa [State.but, hn] using this
theorem Same.reply {l : List Fld} {s t : State} (h : Same l s t) (hn : Fld.reply ∉ l) : t.reply = s.reply := by
  have := congrArg State.reply h
  simpa [State.but, hn] using this
theorem Same.now {l : List Fld} {s t : State} (h : Same l s t) (hn : Fld.now ∉ l) : t.now = s.now := by
  have := congrArg State.now h
  simpa [State.but, hn] using this
theorem Same.timeFree {l : List Fld} {s t : State} (h : Same l s t) (hn : Fld.timeFree ∉ l) : t.timeFree = s.timeFree := by
  have := congrArg State.timeFree h
  simpa [State.but, hn] using this
theorem Same.refFailAt {l : List Fld} {s t : State} (h : Same l s t) (hn : Fld.refFailAt ∉ l) : t.refFailAt = s.refFailAt := by
  have := congrArg State.refFailAt h
  simpa [State.but, hn] using this
theorem Same.active {l : List Fld} {s t : State} (h : Same l s t) (hn : Fld.active ∉ l) : t.active = s.active := by
  have := congrArg State.active h
  simpa [State.but, hn] using this
theorem Same.prior {l : List Fld} {s t : State} (h : Same l s t) (hn : Fld.prior ∉ l) : t.prior = s.prior := by
  have := congrArg State.prior h
  simpa [State.but, hn] using this
theorem Same.shadow {l : List Fld} {s t : State} (h : Same l s t) (hn : Fld.shadow ∉ l) : t.shadow = s.shadow := by
  have := congrArg State.shadow h
  simpa [State.but, hn] using this
theorem Same.regs {l : List Fld} {s t : State} (h : Same l s t) (hn : Fld.regs ∉ l) : t.regs = s.regs := by
  have := congrArg State.regs h
  simpa [State.but, hn] using this
theorem Same.retained {l : List Fld} {s t : State} (h : Same l s t) (hn : Fld.retained ∉ l) : t.retained = s.retained := by
  have := congrArg State.retained h
  simpa [State.but, hn] using this
theorem Same.committed {l : List Fld} {s t : State} (h : Same l s t) (hn : Fld.committed ∉ l) : t.committed = s.committed := by
  have := congrArg State.committed h
  simpa [State.but, hn] using this
theorem Same.sets {l : List Fld} {s t : State} (h : Same l s t) (hn : Fld.sets ∉ l) : t.sets = s.sets := by
  have := congrArg State.sets h
  simpa [State.but, hn] using this
theorem Same.armed {l : List Fld} {s t : State} (h : Same l s t) (hn : Fld.armed ∉ l) : t.armed = s.armed := by
  have := congrArg State.armed h
  simpa [State.but, hn] using this
theorem Same.queueC {l : List Fld} {s t : State} (h : Same l s t) (hn : Fld.queueC ∉ l) : t.queueC = s.queueC := by
  have := congrArg State.queueC h
  simpa [State.but, hn] using this
theorem Same.switchSt {l : List Fld} {s t : State} (h : Same l s t) (hn : Fld.switchSt ∉ l) : t.switchSt = s.switchSt := by
  have := congrArg State.switchSt h
  simpa [State.but, hn] using this
theorem Same.chans {l : List Fld} {s t : State} (h : Same l s t) (hn : Fld.chans ∉ l) : t.chans = s.chans := by
  have := congrArg State.chans h
  simpa [State.but, hn] using this
theorem Same.ens {l : List Fld} {s t : State} (h : Same l s t) (hn : Fld.ens ∉ l) : t.ens = s.ens := by
  have := congrArg State.ens h
  simpa [State.but, hn] using this
theorem Same.trims {l : List Fld} {s t : State} (h : Same l s t) (hn : Fld.trims ∉ l) : t.trims = s.trims := by
  have := congrArg State.trims h
  simpa [State.but, hn] using this
theorem Same.clusters {l : List Fld} {s t : State} (h : Same l s t) (hn : Fld.clusters ∉ l) : t.clusters = s.clusters := by
  have := congrArg State.clusters h
  simpa [State.but, hn] using this
theorem Same.latches {l : List Fld} {s t : State} (h : Same l s t) (hn : Fld.latches ∉ l) : t.latches = s.latches := by
  have := congrArg State.latches h
  simpa [State.but, hn] using this
theorem Same.parts {l : List Fld} {s t : State} (h : Same l s t) (hn : Fld.parts ∉ l) : t.parts = s.parts := by
  have := congrArg State.parts h
  simpa [State.but, hn] using this
theorem Same.groups {l : List Fld} {s t : State} (h : Same l s t) (hn : Fld.groups ∉ l) : t.groups = s.groups := by
  have := congrArg State.groups h
  simpa [State.but, hn] using this
theorem Same.actions {l : List Fld} {s t : State} (h : Same l s t) (hn : Fld.actions ∉ l) : t.actions = s.actions := by
  have := congrArg State.actions h
  simpa [State.but, hn] using this
theorem Same.caps {l : List Fld} {s t : State} (h : Same l s t) (hn : Fld.caps ∉ l) : t.caps = s.caps := by
  have := congrArg State.caps h
  simpa [State.but, hn] using this
theorem Same.mgmtDown {l : List Fld} {s t : State} (h : Same l s t) (hn : Fld.mgmtDown ∉ l) : t.mgmtDown = s.mgmtDown := by
  have := congrArg State.mgmtDown h
  simpa [State.but, hn] using this
theorem Same.stalled {l : List Fld} {s t : State} (h : Same l s t) (hn : Fld.stalled ∉ l) : t.stalled = s.stalled := by
  have := congrArg State.stalled h
  simpa [State.but, hn] using this
theorem Same.islandBad {l : List Fld} {s t : State} (h : Same l s t) (hn : Fld.islandBad ∉ l) : t.islandBad = s.islandBad := by
  have := congrArg State.islandBad h
  simpa [State.but, hn] using this
theorem Same.fabricFault {l : List Fld} {s t : State} (h : Same l s t) (hn : Fld.fabricFault ∉ l) : t.fabricFault = s.fabricFault := by
  have := congrArg State.fabricFault h
  simpa [State.but, hn] using this
theorem Same.safeN {l : List Fld} {s t : State} (h : Same l s t) (hn : Fld.safeN ∉ l) : t.safeN = s.safeN := by
  have := congrArg State.safeN h
  simpa [State.but, hn] using this
theorem Same.vioLost {l : List Fld} {s t : State} (h : Same l s t) (hn : Fld.vioLost ∉ l) : t.vioLost = s.vioLost := by
  have := congrArg State.vioLost h
  simpa [State.but, hn] using this
theorem Same.evRing {l : List Fld} {s t : State} (h : Same l s t) (hn : Fld.events ∉ l) : t.evRing = s.evRing := by
  have := congrArg State.evRing h
  simpa [State.but, hn] using this
theorem Same.evNext {l : List Fld} {s t : State} (h : Same l s t) (hn : Fld.events ∉ l) : t.evNext = s.evNext := by
  have := congrArg State.evNext h
  simpa [State.but, hn] using this
theorem Same.ev04At {l : List Fld} {s t : State} (h : Same l s t) (hn : Fld.events ∉ l) : t.ev04At = s.ev04At := by
  have := congrArg State.ev04At h
  simpa [State.but, hn] using this
theorem Same.evQueues {l : List Fld} {s t : State} (h : Same l s t) (hn : Fld.events ∉ l) : t.evQueues = s.evQueues := by
  have := congrArg State.evQueues h
  simpa [State.but, hn] using this
theorem Same.evQueueGap {l : List Fld} {s t : State} (h : Same l s t) (hn : Fld.events ∉ l) : t.evQueueGap = s.evQueueGap := by
  have := congrArg State.evQueueGap h
  simpa [State.but, hn] using this
theorem Same.later {l : List Fld} {s t : State} (h : Same l s t) (hn : Fld.later ∉ l) : t.later = s.later := by
  have := congrArg State.later h
  simpa [State.but, hn] using this
theorem Same.sessions {l : List Fld} {s t : State} (h : Same l s t) (h1 : Fld.sessions ∉ l) (h2 : Fld.events ∉ l) :
    t.sessions = s.sessions := by
  have := congrArg State.sessions h
  simpa [State.but, h1, h2] using this
theorem Same.sessNext {l : List Fld} {s t : State} (h : Same l s t) (hn : Fld.sessNext ∉ l) : t.sessNext = s.sessNext := by
  have := congrArg State.sessNext h
  simpa [State.but, hn] using this
theorem Same.asms {l : List Fld} {s t : State} (h : Same l s t) (hn : Fld.asms ∉ l) : t.asms = s.asms := by
  have := congrArg State.asms h
  simpa [State.but, hn] using this
theorem Same.inbox {l : List Fld} {s t : State} (h : Same l s t) (hn : Fld.inbox ∉ l) : t.inbox = s.inbox := by
  have := congrArg State.inbox h
  simpa [State.but, hn] using this
theorem Same.waits {l : List Fld} {s t : State} (h : Same l s t) (hn : Fld.waits ∉ l) : t.waits = s.waits := by
  have := congrArg State.waits h
  simpa [State.but, hn] using this
theorem Same.outFrames {l : List Fld} {s t : State} (h : Same l s t) (hn : Fld.outFrames ∉ l) : t.outFrames = s.outFrames := by
  have := congrArg State.outFrames h
  simpa [State.but, hn] using this
theorem Same.downs {l : List Fld} {s t : State} (h : Same l s t) (hn : Fld.downs ∉ l) : t.downs = s.downs := by
  have := congrArg State.downs h
  simpa [State.but, hn] using this
theorem Same.t1sSleep {l : List Fld} {s t : State} (h : Same l s t) (hn : Fld.t1sSleep ∉ l) : t.t1sSleep = s.t1sSleep := by
  have := congrArg State.t1sSleep h
  simpa [State.but, hn] using this
theorem Same.keys {l : List Fld} {s t : State} (h : Same l s t) (hn : Fld.keys ∉ l) : t.keys = s.keys := by
  have := congrArg State.keys h
  simpa [State.but, hn] using this
theorem Same.streams {l : List Fld} {s t : State} (h : Same l s t) (hn : Fld.streams ∉ l) : t.streams = s.streams := by
  have := congrArg State.streams h
  simpa [State.but, hn] using this
theorem Same.ports {l : List Fld} {s t : State} (h : Same l s t) (hn : Fld.ports ∉ l) : t.ports = s.ports := by
  have := congrArg State.ports h
  simpa [State.but, hn] using this
theorem Same.entries {l : List Fld} {s t : State} (h : Same l s t) (hn : Fld.entries ∉ l) : t.entries = s.entries := by
  have := congrArg State.entries h
  simpa [State.but, hn] using this
theorem Same.svc {l : List Fld} {s t : State} (h : Same l s t) (hn : Fld.svc ∉ l) : t.svc = s.svc := by
  have := congrArg State.svc h
  simpa [State.but, hn] using this
theorem Same.peerOut {l : List Fld} {s t : State} (h : Same l s t) (hn : Fld.peerOut ∉ l) : t.peerOut = s.peerOut := by
  have := congrArg State.peerOut h
  simpa [State.but, hn] using this
theorem Same.peerTries {l : List Fld} {s t : State} (h : Same l s t) (hn : Fld.peerTries ∉ l) : t.peerTries = s.peerTries := by
  have := congrArg State.peerTries h
  simpa [State.but, hn] using this
theorem Same.peerReq {l : List Fld} {s t : State} (h : Same l s t) (hn : Fld.peerReq ∉ l) : t.peerReq = s.peerReq := by
  have := congrArg State.peerReq h
  simpa [State.but, hn] using this
theorem Same.peerReqsAt {l : List Fld} {s t : State} (h : Same l s t) (hn : Fld.peerReqsAt ∉ l) : t.peerReqsAt = s.peerReqsAt := by
  have := congrArg State.peerReqsAt h
  simpa [State.but, hn] using this
theorem Same.drives {l : List Fld} {s t : State} (h : Same l s t) (hn : Fld.drives ∉ l) : t.drives = s.drives := by
  have := congrArg State.drives h
  simpa [State.but, hn] using this
theorem Same.trestle {l : List Fld} {s t : State} (h : Same l s t) (hn : Fld.trestle ∉ l) : t.trestle = s.trestle := by
  have := congrArg State.trestle h
  simpa [State.but, hn] using this
theorem Same.thermal {l : List Fld} {s t : State} (h : Same l s t) (hn : Fld.thermal ∉ l) : t.thermal = s.thermal := by
  have := congrArg State.thermal h
  simpa [State.but, hn] using this
theorem Same.supply {l : List Fld} {s t : State} (h : Same l s t) (hn : Fld.supply ∉ l) : t.supply = s.supply := by
  have := congrArg State.supply h
  simpa [State.but, hn] using this
theorem Same.ledger {l : List Fld} {s t : State} (h : Same l s t) (hn : Fld.ledger ∉ l) : t.ledger = s.ledger := by
  have := congrArg State.ledger h
  simpa [State.but, hn] using this
theorem Same.log {l : List Fld} {s t : State} (h : Same l s t) (hn : Fld.log ∉ l) : t.log = s.log := by
  have := congrArg State.log h
  simpa [State.but, hn] using this
theorem Same.nv {l : List Fld} {s t : State} (h : Same l s t) (hn : Fld.nv ∉ l) : t.nv = s.nv := by
  have := congrArg State.nv h
  simpa [State.but, hn] using this
theorem Same.host {l : List Fld} {s t : State} (h : Same l s t) (hn : Fld.host ∉ l) : t.host = s.host := by
  have := congrArg State.host h
  simpa [State.but, hn] using this
theorem Same.sec {l : List Fld} {s t : State} (h : Same l s t) (hn : Fld.sec ∉ l) : t.sec = s.sec := by
  have := congrArg State.sec h
  simpa [State.but, hn] using this
theorem Same.flash {l : List Fld} {s t : State} (h : Same l s t) (hn : Fld.flash ∉ l) : t.flash = s.flash := by
  have := congrArg State.flash h
  simpa [State.but, hn] using this
theorem Same.granules {l : List Fld} {s t : State} (h : Same l s t) (hn : Fld.granules ∉ l) : t.granules = s.granules := by
  have := congrArg State.granules h
  simpa [State.but, hn] using this
theorem Same.sectors {l : List Fld} {s t : State} (h : Same l s t) (hn : Fld.sectors ∉ l) : t.sectors = s.sectors := by
  have := congrArg State.sectors h
  simpa [State.but, hn] using this
theorem Same.waitMaint {l : List Fld} {s t : State} (h : Same l s t) (hn : Fld.waitMaint ∉ l) : t.waitMaint = s.waitMaint := by
  have := congrArg State.waitMaint h
  simpa [State.but, hn] using this
theorem Same.fwWaitAt {l : List Fld} {s t : State} (h : Same l s t) (hn : Fld.fwWaitAt ∉ l) : t.fwWaitAt = s.fwWaitAt := by
  have := congrArg State.fwWaitAt h
  simpa [State.but, hn] using this
theorem Same.draws {l : List Fld} {s t : State} (h : Same l s t) (hn : Fld.draws ∉ l) : t.draws = s.draws := by
  have := congrArg State.draws h
  simpa [State.but, hn] using this
theorem Same.get_reg {l : List Fld} {s t : State} (h : Same l s t) (hn : Fld.regs ∉ l) (i : Nat) : t.reg i = s.reg i := by
  unfold State.reg
  rw [h.regs hn]
theorem Same.get_act {l : List Fld} {s t : State} (h : Same l s t) (hn : Fld.active ∉ l) (i : Nat) : t.act i = s.act i := by
  unfold State.act
  rw [h.active hn]
theorem Same.get_shad {l : List Fld} {s t : State} (h : Same l s t) (hn : Fld.shadow ∉ l) (i : Nat) : t.shad i = s.shad i := by
  unfold State.shad
  rw [h.shadow hn]
theorem Same.get_chan {l : List Fld} {s t : State} (h : Same l s t) (hn : Fld.chans ∉ l) (i : Nat) : t.chan i = s.chan i := by
  unfold State.chan
  rw [h.chans hn]
theorem Same.get_en {l : List Fld} {s t : State} (h : Same l s t) (hn : Fld.ens ∉ l) (i : Nat) : t.en i = s.en i := by
  unfold State.en
  rw [h.ens hn]
theorem Same.get_trim {l : List Fld} {s t : State} (h : Same l s t) (hn : Fld.trims ∉ l) (i : Nat) : t.trim i = s.trim i := by
  unfold State.trim
  rw [h.trims hn]
theorem Same.get_cluster {l : List Fld} {s t : State} (h : Same l s t) (hn : Fld.clusters ∉ l) (i : Nat) : t.cluster i = s.cluster i := by
  unfold State.cluster
  rw [h.clusters hn]
theorem Same.get_latch {l : List Fld} {s t : State} (h : Same l s t) (hn : Fld.latches ∉ l) (i j : Nat) : t.latch i j = s.latch i j := by
  unfold State.latch
  rw [h.latches hn]
theorem Same.get_part {l : List Fld} {s t : State} (h : Same l s t) (hn : Fld.parts ∉ l) (i : Nat) : t.part i = s.part i := by
  unfold State.part
  rw [h.parts hn]
theorem Same.get_group {l : List Fld} {s t : State} (h : Same l s t) (hn : Fld.groups ∉ l) (i : Nat) : t.group i = s.group i := by
  unfold State.group
  rw [h.groups hn]
theorem Same.get_cap {l : List Fld} {s t : State} (h : Same l s t) (hn : Fld.caps ∉ l) (i : Nat) : t.cap i = s.cap i := by
  unfold State.cap
  rw [h.caps hn]
theorem Same.get_key {l : List Fld} {s t : State} (h : Same l s t) (hn : Fld.keys ∉ l) (i : Nat) : t.key i = s.key i := by
  unfold State.key
  rw [h.keys hn]
theorem Same.get_stream {l : List Fld} {s t : State} (h : Same l s t) (hn : Fld.streams ∉ l) (i : Nat) : t.stream i = s.stream i := by
  unfold State.stream
  rw [h.streams hn]
theorem Same.get_port {l : List Fld} {s t : State} (h : Same l s t) (hn : Fld.ports ∉ l) (i : Nat) : t.port i = s.port i := by
  unfold State.port
  rw [h.ports hn]
theorem Same.get_entry {l : List Fld} {s t : State} (h : Same l s t) (hn : Fld.entries ∉ l) (i : Nat) : t.entry i = s.entry i := by
  unfold State.entry
  rw [h.entries hn]
theorem Same.get_window {l : List Fld} {s t : State} (h : Same l s t) (hn : Fld.svc ∉ l) (i : Nat) : t.window i = s.window i := by
  unfold State.window
  rw [h.svc hn]
theorem Same.get_drive {l : List Fld} {s t : State} (h : Same l s t) (hn : Fld.drives ∉ l) (i : Nat) : t.drive i = s.drive i := by
  unfold State.drive
  rw [h.drives hn]
theorem Same.get_stageSet {l : List Fld} {s t : State} (h : Same l s t) (hn : Fld.sets ∉ l) (i : Nat) : t.stageSet i = s.stageSet i := by
  unfold State.stageSet
  rw [h.sets hn]
theorem Same.get_downCause {l : List Fld} {s t : State} (h : Same l s t) (hn : Fld.downs ∉ l) (i : Nat) : t.downCause i = s.downCause i := by
  unfold State.downCause
  rw [h.downs hn]
theorem Same.get_action {l : List Fld} {s t : State} (h : Same l s t) (hn : Fld.actions ∉ l) (i : Nat) : t.action i = s.action i := by
  unfold State.action
  rw [h.actions hn]


/-- A frame holds when every field outside its list is as it was; a field that is so by unfolding needs no proof. -/
theorem Same.of_fields {l : List Fld} {s t : State}
    (h_pending : Fld.pending ∉ l → t.pending = s.pending := by first | exact fun h => absurd (by decide) h | exact fun _ => rfl)
    (h_status : Fld.status ∉ l → t.status = s.status := by first | exact fun h => absurd (by decide) h | exact fun _ => rfl)
    (h_reply : Fld.reply ∉ l → t.reply = s.reply := by first | exact fun h => absurd (by decide) h | exact fun _ => rfl)
    (h_now : Fld.now ∉ l → t.now = s.now := by first | exact fun h => absurd (by decide) h | exact fun _ => rfl)
    (h_timeFree : Fld.timeFree ∉ l → t.timeFree = s.timeFree := by first | exact fun h => absurd (by decide) h | exact fun _ => rfl)
    (h_refFailAt : Fld.refFailAt ∉ l → t.refFailAt = s.refFailAt := by first | exact fun h => absurd (by decide) h | exact fun _ => rfl)
    (h_active : Fld.active ∉ l → t.active = s.active := by first | exact fun h => absurd (by decide) h | exact fun _ => rfl)
    (h_prior : Fld.prior ∉ l → t.prior = s.prior := by first | exact fun h => absurd (by decide) h | exact fun _ => rfl)
    (h_shadow : Fld.shadow ∉ l → t.shadow = s.shadow := by first | exact fun h => absurd (by decide) h | exact fun _ => rfl)
    (h_regs : Fld.regs ∉ l → t.regs = s.regs := by first | exact fun h => absurd (by decide) h | exact fun _ => rfl)
    (h_retained : Fld.retained ∉ l → t.retained = s.retained := by first | exact fun h => absurd (by decide) h | exact fun _ => rfl)
    (h_committed : Fld.committed ∉ l → t.committed = s.committed := by first | exact fun h => absurd (by decide) h | exact fun _ => rfl)
    (h_sets : Fld.sets ∉ l → t.sets = s.sets := by first | exact fun h => absurd (by decide) h | exact fun _ => rfl)
    (h_armed : Fld.armed ∉ l → t.armed = s.armed := by first | exact fun h => absurd (by decide) h | exact fun _ => rfl)
    (h_queueC : Fld.queueC ∉ l → t.queueC = s.queueC := by first | exact fun h => absurd (by decide) h | exact fun _ => rfl)
    (h_switchSt : Fld.switchSt ∉ l → t.switchSt = s.switchSt := by first | exact fun h => absurd (by decide) h | exact fun _ => rfl)
    (h_chans : Fld.chans ∉ l → t.chans = s.chans := by first | exact fun h => absurd (by decide) h | exact fun _ => rfl)
    (h_ens : Fld.ens ∉ l → t.ens = s.ens := by first | exact fun h => absurd (by decide) h | exact fun _ => rfl)
    (h_trims : Fld.trims ∉ l → t.trims = s.trims := by first | exact fun h => absurd (by decide) h | exact fun _ => rfl)
    (h_clusters : Fld.clusters ∉ l → t.clusters = s.clusters := by first | exact fun h => absurd (by decide) h | exact fun _ => rfl)
    (h_latches : Fld.latches ∉ l → t.latches = s.latches := by first | exact fun h => absurd (by decide) h | exact fun _ => rfl)
    (h_parts : Fld.parts ∉ l → t.parts = s.parts := by first | exact fun h => absurd (by decide) h | exact fun _ => rfl)
    (h_groups : Fld.groups ∉ l → t.groups = s.groups := by first | exact fun h => absurd (by decide) h | exact fun _ => rfl)
    (h_actions : Fld.actions ∉ l → t.actions = s.actions := by first | exact fun h => absurd (by decide) h | exact fun _ => rfl)
    (h_caps : Fld.caps ∉ l → t.caps = s.caps := by first | exact fun h => absurd (by decide) h | exact fun _ => rfl)
    (h_mgmtDown : Fld.mgmtDown ∉ l → t.mgmtDown = s.mgmtDown := by first | exact fun h => absurd (by decide) h | exact fun _ => rfl)
    (h_stalled : Fld.stalled ∉ l → t.stalled = s.stalled := by first | exact fun h => absurd (by decide) h | exact fun _ => rfl)
    (h_islandBad : Fld.islandBad ∉ l → t.islandBad = s.islandBad := by first | exact fun h => absurd (by decide) h | exact fun _ => rfl)
    (h_fabricFault : Fld.fabricFault ∉ l → t.fabricFault = s.fabricFault := by first | exact fun h => absurd (by decide) h | exact fun _ => rfl)
    (h_safeN : Fld.safeN ∉ l → t.safeN = s.safeN := by first | exact fun h => absurd (by decide) h | exact fun _ => rfl)
    (h_vioLost : Fld.vioLost ∉ l → t.vioLost = s.vioLost := by first | exact fun h => absurd (by decide) h | exact fun _ => rfl)
    (h_evRing : Fld.events ∉ l → t.evRing = s.evRing := by first | exact fun h => absurd (by decide) h | exact fun _ => rfl)
    (h_evNext : Fld.events ∉ l → t.evNext = s.evNext := by first | exact fun h => absurd (by decide) h | exact fun _ => rfl)
    (h_ev04At : Fld.events ∉ l → t.ev04At = s.ev04At := by first | exact fun h => absurd (by decide) h | exact fun _ => rfl)
    (h_evQueues : Fld.events ∉ l → t.evQueues = s.evQueues := by first | exact fun h => absurd (by decide) h | exact fun _ => rfl)
    (h_evQueueGap : Fld.events ∉ l → t.evQueueGap = s.evQueueGap := by first | exact fun h => absurd (by decide) h | exact fun _ => rfl)
    (h_later : Fld.later ∉ l → t.later = s.later := by first | exact fun h => absurd (by decide) h | exact fun _ => rfl)
    (h_sessions : Fld.sessions ∉ l → t.sessions = s.sessions := by first | exact fun h => absurd (by decide) h | exact fun _ => rfl)
    (h_sessNext : Fld.sessNext ∉ l → t.sessNext = s.sessNext := by first | exact fun h => absurd (by decide) h | exact fun _ => rfl)
    (h_asms : Fld.asms ∉ l → t.asms = s.asms := by first | exact fun h => absurd (by decide) h | exact fun _ => rfl)
    (h_inbox : Fld.inbox ∉ l → t.inbox = s.inbox := by first | exact fun h => absurd (by decide) h | exact fun _ => rfl)
    (h_waits : Fld.waits ∉ l → t.waits = s.waits := by first | exact fun h => absurd (by decide) h | exact fun _ => rfl)
    (h_outFrames : Fld.outFrames ∉ l → t.outFrames = s.outFrames := by first | exact fun h => absurd (by decide) h | exact fun _ => rfl)
    (h_downs : Fld.downs ∉ l → t.downs = s.downs := by first | exact fun h => absurd (by decide) h | exact fun _ => rfl)
    (h_t1sSleep : Fld.t1sSleep ∉ l → t.t1sSleep = s.t1sSleep := by first | exact fun h => absurd (by decide) h | exact fun _ => rfl)
    (h_keys : Fld.keys ∉ l → t.keys = s.keys := by first | exact fun h => absurd (by decide) h | exact fun _ => rfl)
    (h_streams : Fld.streams ∉ l → t.streams = s.streams := by first | exact fun h => absurd (by decide) h | exact fun _ => rfl)
    (h_ports : Fld.ports ∉ l → t.ports = s.ports := by first | exact fun h => absurd (by decide) h | exact fun _ => rfl)
    (h_entries : Fld.entries ∉ l → t.entries = s.entries := by first | exact fun h => absurd (by decide) h | exact fun _ => rfl)
    (h_svc : Fld.svc ∉ l → t.svc = s.svc := by first | exact fun h => absurd (by decide) h | exact fun _ => rfl)
    (h_peerOut : Fld.peerOut ∉ l → t.peerOut = s.peerOut := by first | exact fun h => absurd (by decide) h | exact fun _ => rfl)
    (h_peerTries : Fld.peerTries ∉ l → t.peerTries = s.peerTries := by first | exact fun h => absurd (by decide) h | exact fun _ => rfl)
    (h_peerReq : Fld.peerReq ∉ l → t.peerReq = s.peerReq := by first | exact fun h => absurd (by decide) h | exact fun _ => rfl)
    (h_peerReqsAt : Fld.peerReqsAt ∉ l → t.peerReqsAt = s.peerReqsAt := by first | exact fun h => absurd (by decide) h | exact fun _ => rfl)
    (h_drives : Fld.drives ∉ l → t.drives = s.drives := by first | exact fun h => absurd (by decide) h | exact fun _ => rfl)
    (h_trestle : Fld.trestle ∉ l → t.trestle = s.trestle := by first | exact fun h => absurd (by decide) h | exact fun _ => rfl)
    (h_thermal : Fld.thermal ∉ l → t.thermal = s.thermal := by first | exact fun h => absurd (by decide) h | exact fun _ => rfl)
    (h_supply : Fld.supply ∉ l → t.supply = s.supply := by first | exact fun h => absurd (by decide) h | exact fun _ => rfl)
    (h_ledger : Fld.ledger ∉ l → t.ledger = s.ledger := by first | exact fun h => absurd (by decide) h | exact fun _ => rfl)
    (h_log : Fld.log ∉ l → t.log = s.log := by first | exact fun h => absurd (by decide) h | exact fun _ => rfl)
    (h_nv : Fld.nv ∉ l → t.nv = s.nv := by first | exact fun h => absurd (by decide) h | exact fun _ => rfl)
    (h_host : Fld.host ∉ l → t.host = s.host := by first | exact fun h => absurd (by decide) h | exact fun _ => rfl)
    (h_sec : Fld.sec ∉ l → t.sec = s.sec := by first | exact fun h => absurd (by decide) h | exact fun _ => rfl)
    (h_flash : Fld.flash ∉ l → t.flash = s.flash := by first | exact fun h => absurd (by decide) h | exact fun _ => rfl)
    (h_granules : Fld.granules ∉ l → t.granules = s.granules := by first | exact fun h => absurd (by decide) h | exact fun _ => rfl)
    (h_sectors : Fld.sectors ∉ l → t.sectors = s.sectors := by first | exact fun h => absurd (by decide) h | exact fun _ => rfl)
    (h_waitMaint : Fld.waitMaint ∉ l → t.waitMaint = s.waitMaint := by first | exact fun h => absurd (by decide) h | exact fun _ => rfl)
    (h_fwWaitAt : Fld.fwWaitAt ∉ l → t.fwWaitAt = s.fwWaitAt := by first | exact fun h => absurd (by decide) h | exact fun _ => rfl)
    (h_draws : Fld.draws ∉ l → t.draws = s.draws := by first | exact fun h => absurd (by decide) h | exact fun _ => rfl) : Same l s t := by
  unfold Same State.but
  congr 1
  · split
    · rfl
    · rename_i h
      exact h_pending h
  · split
    · rfl
    · rename_i h
      exact h_status h
  · split
    · rfl
    · rename_i h
      exact h_reply h
  · split
    · rfl
    · rename_i h
      exact h_now h
  · split
    · rfl
    · rename_i h
      exact h_timeFree h
  · split
    · rfl
    · rename_i h
      exact h_refFailAt h
  · split
    · rfl
    · rename_i h
      exact h_active h
  · split
    · rfl
    · rename_i h
      exact h_prior h
  · split
    · rfl
    · rename_i h
      exact h_shadow h
  · split
    · rfl
    · rename_i h
      exact h_regs h
  · split
    · rfl
    · rename_i h
      exact h_retained h
  · split
    · rfl
    · rename_i h
      exact h_committed h
  · split
    · rfl
    · rename_i h
      exact h_sets h
  · split
    · rfl
    · rename_i h
      exact h_armed h
  · split
    · rfl
    · rename_i h
      exact h_queueC h
  · split
    · rfl
    · rename_i h
      exact h_switchSt h
  · split
    · rfl
    · rename_i h
      exact h_chans h
  · split
    · rfl
    · rename_i h
      exact h_ens h
  · split
    · rfl
    · rename_i h
      exact h_trims h
  · split
    · rfl
    · rename_i h
      exact h_clusters h
  · split
    · rfl
    · rename_i h
      exact h_latches h
  · split
    · rfl
    · rename_i h
      exact h_parts h
  · split
    · rfl
    · rename_i h
      exact h_groups h
  · split
    · rfl
    · rename_i h
      exact h_actions h
  · split
    · rfl
    · rename_i h
      exact h_caps h
  · split
    · rfl
    · rename_i h
      exact h_mgmtDown h
  · split
    · rfl
    · rename_i h
      exact h_stalled h
  · split
    · rfl
    · rename_i h
      exact h_islandBad h
  · split
    · rfl
    · rename_i h
      exact h_fabricFault h
  · split
    · rfl
    · rename_i h
      exact h_safeN h
  · split
    · rfl
    · rename_i h
      exact h_vioLost h
  · split
    · rfl
    · rename_i h
      exact h_evRing h
  · split
    · rfl
    · rename_i h
      exact h_evNext h
  · split
    · rfl
    · rename_i h
      exact h_ev04At h
  · split
    · rfl
    · rename_i h
      exact h_evQueues h
  · split
    · rfl
    · rename_i h
      exact h_evQueueGap h
  · split
    · rfl
    · rename_i h
      exact h_later h
  · split
    · rfl
    · rename_i h
      rw [h_sessions h]
  · split
    · rfl
    · rename_i h
      exact h_sessNext h
  · split
    · rfl
    · rename_i h
      exact h_asms h
  · split
    · rfl
    · rename_i h
      exact h_inbox h
  · split
    · rfl
    · rename_i h
      exact h_waits h
  · split
    · rfl
    · rename_i h
      exact h_outFrames h
  · split
    · rfl
    · rename_i h
      exact h_downs h
  · split
    · rfl
    · rename_i h
      exact h_t1sSleep h
  · split
    · rfl
    · rename_i h
      exact h_keys h
  · split
    · rfl
    · rename_i h
      exact h_streams h
  · split
    · rfl
    · rename_i h
      exact h_ports h
  · split
    · rfl
    · rename_i h
      exact h_entries h
  · split
    · rfl
    · rename_i h
      exact h_svc h
  · split
    · rfl
    · rename_i h
      exact h_peerOut h
  · split
    · rfl
    · rename_i h
      exact h_peerTries h
  · split
    · rfl
    · rename_i h
      exact h_peerReq h
  · split
    · rfl
    · rename_i h
      exact h_peerReqsAt h
  · split
    · rfl
    · rename_i h
      exact h_drives h
  · split
    · rfl
    · rename_i h
      exact h_trestle h
  · split
    · rfl
    · rename_i h
      exact h_thermal h
  · split
    · rfl
    · rename_i h
      exact h_supply h
  · split
    · rfl
    · rename_i h
      exact h_ledger h
  · split
    · rfl
    · rename_i h
      exact h_log h
  · split
    · rfl
    · rename_i h
      exact h_nv h
  · split
    · rfl
    · rename_i h
      exact h_host h
  · split
    · rfl
    · rename_i h
      exact h_sec h
  · split
    · rfl
    · rename_i h
      exact h_flash h
  · split
    · rfl
    · rename_i h
      exact h_granules h
  · split
    · rfl
    · rename_i h
      exact h_sectors h
  · split
    · rfl
    · rename_i h
      exact h_waitMaint h
  · split
    · rfl
    · rename_i h
      exact h_fwWaitAt h
  · split
    · rfl
    · rename_i h
      exact h_draws h

/-! ### Lists of units -/

@[simp] theorem State.each_nil (s : State) (f : State → Nat → State) : s.each [] f = s := rfl
@[simp] theorem State.each_cons (s : State) (x : Nat) (l : List Nat) (f : State → Nat → State) :
    s.each (x :: l) f = (f s x).each l f := rfl

/-- What every application keeps, all of them keep. -/
theorem State.each_keeps {α : Type} (g : State → α) (f : State → Nat → State) (xs : List Nat) (h : ∀ s, ∀ x ∈ xs, g (f s x) = g s)
    (s : State) : g (s.each xs f) = g s := by
  induction xs generalizing s with
  | nil => rfl
  | cons x xs ih => rw [State.each_cons, ih (fun s y hy => h s y (List.mem_cons_of_mem _ hy)), h _ _ (List.mem_cons_self ..)]

@[simp] theorem State.each_but (f : State → Nat → State) (xs : List Nat) (l : List Fld) (s : State)
    (h : ∀ s, ∀ x ∈ xs, (f s x).but l = s.but l) : (s.each xs f).but l = s.but l :=
  State.each_keeps (fun s => s.but l) f xs h s

/-- The same for a list of any data. -/
theorem foldl_but {α : Type} (f : State → α → State) (xs : List α) (l : List Fld) (s : State)
    (h : ∀ s, ∀ x ∈ xs, (f s x).but l = s.but l) : (xs.foldl f s).but l = s.but l := by
  induction xs generalizing s with
  | nil => rfl
  | cons x xs ih =>
    rw [List.foldl_cons, ih _ (fun s y hy => h s y (List.mem_cons_of_mem _ hy)), h _ _ (List.mem_cons_self ..)]

/-- A choice between two states. -/
@[simp] theorem State.ite_but (c : Prop) [Decidable c] (t u : State) (l : List Fld) :
    (if c then t else u).but l = if c then t.but l else u.but l := by
  split <;> rfl

end Sys2Proof.Machine
end

