-- ==== Sys2Proof/Laws/Ops.lean ====
section
/-! SUPPORT. What each shared operation can do, said once: raising an event, counting an item, an operation over a list of units. -/
namespace Sys2Proof.Machine

/-! ### Reading a table of registers -/

theorem State.setReg_reg (s : State) (k v j : Nat) : (s.setReg k v).reg j = if j = k then v else s.reg j := tabGet_set _ _ _ _ _

/-! ### Events -/

theorem onSessions_noEvents (l : List (Nat × Session)) (f : Session → Session) (h : ∀ x, (f x).noEvents = x.noEvents) :
    onSessions (onSessions l f) Session.noEvents = onSessions l Session.noEvents := by
  simp [onSessions, h]

theorem Session.push_noEvents (x : Session) (e : EventRec) : (x.push e).noEvents = x.noEvents := by
  unfold Session.push
  split
  · split <;> rfl
  · rfl

/-- Sessions that differ in what they hold of events only. -/
theorem State.sessions_but (s : State) (f : Session → Session) (l : List Fld) (h : Fld.events ∈ l) (hf : ∀ x, (f x).noEvents = x.noEvents) :
    ({ s with sessions := onSessions s.sessions f } : State).but l = s.but l := by
  simp [State.but, h, onSessions_noEvents _ _ hf]

theorem State.ringPut_but (s : State) (e : EventRec) (l : List Fld) (h : Fld.events ∈ l) (hr : Fld.regs ∈ l) :
    (s.ringPut e).but l = s.but l := by
  have key : ∀ r : EventRec, ({ s with evNext := s.evNext + 1, sessions := onSessions s.sessions (fun x => x.push r) } : State).but l
      = s.but l := by
    intro r
    have := State.sessions_but { s with evNext := s.evNext + 1 } (fun x => x.push r) l h (fun x => x.push_noEvents r)
    rw [show ({ s with evNext := s.evNext + 1, sessions := onSessions s.sessions (fun x => x.push r) } : State)
      = { ({ s with evNext := s.evNext + 1 } : State) with sessions := onSessions s.sessions (fun x => x.push r) } from rfl]
    exact this.trans (State.but_evNext s _ l h)
  unfold State.ringPut
  dsimp only
  split
  · exact (State.but_evRing _ _ l h).trans (key _)
  · exact (State.bump32_but _ _ l hr).trans ((State.but_evRing _ _ l h).trans (key _))

theorem State.ringPut_reg (s : State) (e : EventRec) (k : Nat) (h : k ≠ evEventsLost) : (s.ringPut e).reg k = s.reg k := by
  unfold State.ringPut
  dsimp only
  split
  · rfl
  · simp only [State.bump32_eq]
    rw [State.setReg_reg_ne _ _ _ _ h]
    rfl

/-- Entering a record, with EV 0x04 behind it or not; EV 0x04 only in a full ring. -/
theorem State.ringEnter_cases (s : State) (e : EventRec) :
    s.ringEnter e = s.ringPut e ∨ ∃ x, 2048 ≤ s.evRing.length ∧ s.ringEnter e = { s.ringPut e with
      ev04At := some (s.ringPut e).now, sessions := onSessions (s.ringPut e).sessions (fun x => { x with nextSeen := false }) }.ringPut x := by
  have hl : s.overwritesUnread = true → 2048 ≤ s.evRing.length := by
    unfold State.overwritesUnread
    split
    · simp
    · rename_i h
      intro h'
      simp only [Bool.and_eq_true, decide_eq_true_eq] at h'
      exact h'.1
  unfold State.ringEnter
  dsimp only
  split
  · split
    · rename_i h
      exact .inr ⟨_, hl (by simpa using h), rfl⟩
    · exact .inl rfl
  · split
    · rename_i h
      simp only [Bool.and_eq_true] at h
      exact .inr ⟨_, hl h.1, rfl⟩
    · exact .inl rfl

theorem State.ringEnter_but (s : State) (e : EventRec) (l : List Fld) (h : Fld.events ∈ l) (hr : Fld.regs ∈ l) :
    (s.ringEnter e).but l = s.but l := by
  rcases s.ringEnter_cases e with h' | ⟨x, -, h'⟩
  · rw [h']
    exact State.ringPut_but s e l h hr
  · rw [h', State.ringPut_but _ _ l h hr]
    refine Eq.trans ?_ (State.ringPut_but s e l h hr)
    exact (State.sessions_but { s.ringPut e with ev04At := some (s.ringPut e).now } (fun x => { x with nextSeen := false }) l h
      (fun x => rfl)).trans (State.but_ev04At _ _ l h)

theorem State.ringEnter_reg (s : State) (e : EventRec) (k : Nat) (h : k ≠ evEventsLost) : (s.ringEnter e).reg k = s.reg k := by
  rcases s.ringEnter_cases e with h' | ⟨x, -, h'⟩
  · rw [h', State.ringPut_reg _ _ _ h]
  · rw [h', State.ringPut_reg _ _ _ h]
    exact State.ringPut_reg s e k h

/-- Raising an event changes nothing but the ring, the queues of the islands, the sessions' records and EVENTS_LOST. -/
@[simp] theorem State.raise_but (s : State) (d c p : Nat) (cl : Bool) (x : Bytes) (l : List Fld) (h : Fld.events ∈ l) (hr : Fld.regs ∈ l) :
    (s.raise d c p cl x).but l = s.but l := by
  unfold State.raise
  dsimp only
  split
  · exact State.ringEnter_but _ _ l h hr
  · split
    · rfl
    · split
      · exact State.but_evQueues _ _ l h
      · exact (State.bump32_but _ _ l hr).trans (State.but_evQueueGap _ _ l h)

@[simp] theorem State.raise_reg_ne (s : State) (d c p : Nat) (cl : Bool) (x : Bytes) (k : Nat) (h : k ≠ evEventsLost) :
    (s.raise d c p cl x).reg k = s.reg k := by
  unfold State.raise
  dsimp only
  split
  · exact State.ringEnter_reg _ _ _ h
  · split
    · rfl
    · split
      · rfl
      · simp only [State.bump32_eq]
        rw [State.setReg_reg_ne _ _ _ _ h]
        rfl

/-- The frame of raising an event. -/
theorem State.raise_same (s : State) (d c p : Nat) (cl : Bool) (x : Bytes) : Same [.events, .regs] s (s.raise d c p cl x) :=
  State.raise_but s d c p cl x _ (by decide) (by decide)

@[simp] theorem State.raise_pending (s : State) (d c p : Nat) (cl : Bool) (x : Bytes) : (s.raise d c p cl x).pending = s.pending :=
  (s.raise_same d c p cl x).pending (by decide)
@[simp] theorem State.raise_status (s : State) (d c p : Nat) (cl : Bool) (x : Bytes) : (s.raise d c p cl x).status = s.status :=
  (s.raise_same d c p cl x).status (by decide)
@[simp] theorem State.raise_reply (s : State) (d c p : Nat) (cl : Bool) (x : Bytes) : (s.raise d c p cl x).reply = s.reply :=
  (s.raise_same d c p cl x).reply (by decide)
@[simp] theorem State.raise_now (s : State) (d c p : Nat) (cl : Bool) (x : Bytes) : (s.raise d c p cl x).now = s.now :=
  (s.raise_same d c p cl x).now (by decide)
@[simp] theorem State.raise_timeFree (s : State) (d c p : Nat) (cl : Bool) (x : Bytes) : (s.raise d c p cl x).timeFree = s.timeFree :=
  (s.raise_same d c p cl x).timeFree (by decide)
@[simp] theorem State.raise_refFailAt (s : State) (d c p : Nat) (cl : Bool) (x : Bytes) : (s.raise d c p cl x).refFailAt = s.refFailAt :=
  (s.raise_same d c p cl x).refFailAt (by decide)
@[simp] theorem State.raise_active (s : State) (d c p : Nat) (cl : Bool) (x : Bytes) : (s.raise d c p cl x).active = s.active :=
  (s.raise_same d c p cl x).active (by decide)
@[simp] theorem State.raise_prior (s : State) (d c p : Nat) (cl : Bool) (x : Bytes) : (s.raise d c p cl x).prior = s.prior :=
  (s.raise_same d c p cl x).prior (by decide)
@[simp] theorem State.raise_shadow (s : State) (d c p : Nat) (cl : Bool) (x : Bytes) : (s.raise d c p cl x).shadow = s.shadow :=
  (s.raise_same d c p cl x).shadow (by decide)
@[simp] theorem State.raise_retained (s : State) (d c p : Nat) (cl : Bool) (x : Bytes) : (s.raise d c p cl x).retained = s.retained :=
  (s.raise_same d c p cl x).retained (by decide)
@[simp] theorem State.raise_committed (s : State) (d c p : Nat) (cl : Bool) (x : Bytes) : (s.raise d c p cl x).committed = s.committed :=
  (s.raise_same d c p cl x).committed (by decide)
@[simp] theorem State.raise_sets (s : State) (d c p : Nat) (cl : Bool) (x : Bytes) : (s.raise d c p cl x).sets = s.sets :=
  (s.raise_same d c p cl x).sets (by decide)
@[simp] theorem State.raise_armed (s : State) (d c p : Nat) (cl : Bool) (x : Bytes) : (s.raise d c p cl x).armed = s.armed :=
  (s.raise_same d c p cl x).armed (by decide)
@[simp] theorem State.raise_queueC (s : State) (d c p : Nat) (cl : Bool) (x : Bytes) : (s.raise d c p cl x).queueC = s.queueC :=
  (s.raise_same d c p cl x).queueC (by decide)
@[simp] theorem State.raise_switchSt (s : State) (d c p : Nat) (cl : Bool) (x : Bytes) : (s.raise d c p cl x).switchSt = s.switchSt :=
  (s.raise_same d c p cl x).switchSt (by decide)
@[simp] theorem State.raise_chans (s : State) (d c p : Nat) (cl : Bool) (x : Bytes) : (s.raise d c p cl x).chans = s.chans :=
  (s.raise_same d c p cl x).chans (by decide)
@[simp] theorem State.raise_ens (s : State) (d c p : Nat) (cl : Bool) (x : Bytes) : (s.raise d c p cl x).ens = s.ens :=
  (s.raise_same d c p cl x).ens (by decide)
@[simp] theorem State.raise_trims (s : State) (d c p : Nat) (cl : Bool) (x : Bytes) : (s.raise d c p cl x).trims = s.trims :=
  (s.raise_same d c p cl x).trims (by decide)
@[simp] theorem State.raise_clusters (s : State) (d c p : Nat) (cl : Bool) (x : Bytes) : (s.raise d c p cl x).clusters = s.clusters :=
  (s.raise_same d c p cl x).clusters (by decide)
@[simp] theorem State.raise_latches (s : State) (d c p : Nat) (cl : Bool) (x : Bytes) : (s.raise d c p cl x).latches = s.latches :=
  (s.raise_same d c p cl x).latches (by decide)
@[simp] theorem State.raise_parts (s : State) (d c p : Nat) (cl : Bool) (x : Bytes) : (s.raise d c p cl x).parts = s.parts :=
  (s.raise_same d c p cl x).parts (by decide)
@[simp] theorem State.raise_groups (s : State) (d c p : Nat) (cl : Bool) (x : Bytes) : (s.raise d c p cl x).groups = s.groups :=
  (s.raise_same d c p cl x).groups (by decide)
@[simp] theorem State.raise_actions (s : State) (d c p : Nat) (cl : Bool) (x : Bytes) : (s.raise d c p cl x).actions = s.actions :=
  (s.raise_same d c p cl x).actions (by decide)
@[simp] theorem State.raise_caps (s : State) (d c p : Nat) (cl : Bool) (x : Bytes) : (s.raise d c p cl x).caps = s.caps :=
  (s.raise_same d c p cl x).caps (by decide)
@[simp] theorem State.raise_mgmtDown (s : State) (d c p : Nat) (cl : Bool) (x : Bytes) : (s.raise d c p cl x).mgmtDown = s.mgmtDown :=
  (s.raise_same d c p cl x).mgmtDown (by decide)
@[simp] theorem State.raise_stalled (s : State) (d c p : Nat) (cl : Bool) (x : Bytes) : (s.raise d c p cl x).stalled = s.stalled :=
  (s.raise_same d c p cl x).stalled (by decide)
@[simp] theorem State.raise_islandBad (s : State) (d c p : Nat) (cl : Bool) (x : Bytes) : (s.raise d c p cl x).islandBad = s.islandBad :=
  (s.raise_same d c p cl x).islandBad (by decide)
@[simp] theorem State.raise_fabricFault (s : State) (d c p : Nat) (cl : Bool) (x : Bytes) : (s.raise d c p cl x).fabricFault = s.fabricFault :=
  (s.raise_same d c p cl x).fabricFault (by decide)
@[simp] theorem State.raise_safeN (s : State) (d c p : Nat) (cl : Bool) (x : Bytes) : (s.raise d c p cl x).safeN = s.safeN :=
  (s.raise_same d c p cl x).safeN (by decide)
@[simp] theorem State.raise_vioLost (s : State) (d c p : Nat) (cl : Bool) (x : Bytes) : (s.raise d c p cl x).vioLost = s.vioLost :=
  (s.raise_same d c p cl x).vioLost (by decide)
@[simp] theorem State.raise_later (s : State) (d c p : Nat) (cl : Bool) (x : Bytes) : (s.raise d c p cl x).later = s.later :=
  (s.raise_same d c p cl x).later (by decide)
@[simp] theorem State.raise_sessNext (s : State) (d c p : Nat) (cl : Bool) (x : Bytes) : (s.raise d c p cl x).sessNext = s.sessNext :=
  (s.raise_same d c p cl x).sessNext (by decide)
@[simp] theorem State.raise_asms (s : State) (d c p : Nat) (cl : Bool) (x : Bytes) : (s.raise d c p cl x).asms = s.asms :=
  (s.raise_same d c p cl x).asms (by decide)
@[simp] theorem State.raise_inbox (s : State) (d c p : Nat) (cl : Bool) (x : Bytes) : (s.raise d c p cl x).inbox = s.inbox :=
  (s.raise_same d c p cl x).inbox (by decide)
@[simp] theorem State.raise_waits (s : State) (d c p : Nat) (cl : Bool) (x : Bytes) : (s.raise d c p cl x).waits = s.waits :=
  (s.raise_same d c p cl x).waits (by decide)
@[simp] theorem State.raise_outFrames (s : State) (d c p : Nat) (cl : Bool) (x : Bytes) : (s.raise d c p cl x).outFrames = s.outFrames :=
  (s.raise_same d c p cl x).outFrames (by decide)
@[simp] theorem State.raise_downs (s : State) (d c p : Nat) (cl : Bool) (x : Bytes) : (s.raise d c p cl x).downs = s.downs :=
  (s.raise_same d c p cl x).downs (by decide)
@[simp] theorem State.raise_t1sSleep (s : State) (d c p : Nat) (cl : Bool) (x : Bytes) : (s.raise d c p cl x).t1sSleep = s.t1sSleep :=
  (s.raise_same d c p cl x).t1sSleep (by decide)
@[simp] theorem State.raise_keys (s : State) (d c p : Nat) (cl : Bool) (x : Bytes) : (s.raise d c p cl x).keys = s.keys :=
  (s.raise_same d c p cl x).keys (by decide)
@[simp] theorem State.raise_streams (s : State) (d c p : Nat) (cl : Bool) (x : Bytes) : (s.raise d c p cl x).streams = s.streams :=
  (s.raise_same d c p cl x).streams (by decide)
@[simp] theorem State.raise_ports (s : State) (d c p : Nat) (cl : Bool) (x : Bytes) : (s.raise d c p cl x).ports = s.ports :=
  (s.raise_same d c p cl x).ports (by decide)
@[simp] theorem State.raise_entries (s : State) (d c p : Nat) (cl : Bool) (x : Bytes) : (s.raise d c p cl x).entries = s.entries :=
  (s.raise_same d c p cl x).entries (by decide)
@[simp] theorem State.raise_svc (s : State) (d c p : Nat) (cl : Bool) (x : Bytes) : (s.raise d c p cl x).svc = s.svc :=
  (s.raise_same d c p cl x).svc (by decide)
@[simp] theorem State.raise_peerOut (s : State) (d c p : Nat) (cl : Bool) (x : Bytes) : (s.raise d c p cl x).peerOut = s.peerOut :=
  (s.raise_same d c p cl x).peerOut (by decide)
@[simp] theorem State.raise_peerTries (s : State) (d c p : Nat) (cl : Bool) (x : Bytes) : (s.raise d c p cl x).peerTries = s.peerTries :=
  (s.raise_same d c p cl x).peerTries (by decide)
@[simp] theorem State.raise_peerReq (s : State) (d c p : Nat) (cl : Bool) (x : Bytes) : (s.raise d c p cl x).peerReq = s.peerReq :=
  (s.raise_same d c p cl x).peerReq (by decide)
@[simp] theorem State.raise_peerReqsAt (s : State) (d c p : Nat) (cl : Bool) (x : Bytes) : (s.raise d c p cl x).peerReqsAt = s.peerReqsAt :=
  (s.raise_same d c p cl x).peerReqsAt (by decide)
@[simp] theorem State.raise_drives (s : State) (d c p : Nat) (cl : Bool) (x : Bytes) : (s.raise d c p cl x).drives = s.drives :=
  (s.raise_same d c p cl x).drives (by decide)
@[simp] theorem State.raise_trestle (s : State) (d c p : Nat) (cl : Bool) (x : Bytes) : (s.raise d c p cl x).trestle = s.trestle :=
  (s.raise_same d c p cl x).trestle (by decide)
@[simp] theorem State.raise_thermal (s : State) (d c p : Nat) (cl : Bool) (x : Bytes) : (s.raise d c p cl x).thermal = s.thermal :=
  (s.raise_same d c p cl x).thermal (by decide)
@[simp] theorem State.raise_supply (s : State) (d c p : Nat) (cl : Bool) (x : Bytes) : (s.raise d c p cl x).supply = s.supply :=
  (s.raise_same d c p cl x).supply (by decide)
@[simp] theorem State.raise_ledger (s : State) (d c p : Nat) (cl : Bool) (x : Bytes) : (s.raise d c p cl x).ledger = s.ledger :=
  (s.raise_same d c p cl x).ledger (by decide)
@[simp] theorem State.raise_log (s : State) (d c p : Nat) (cl : Bool) (x : Bytes) : (s.raise d c p cl x).log = s.log :=
  (s.raise_same d c p cl x).log (by decide)
@[simp] theorem State.raise_nv (s : State) (d c p : Nat) (cl : Bool) (x : Bytes) : (s.raise d c p cl x).nv = s.nv :=
  (s.raise_same d c p cl x).nv (by decide)
@[simp] theorem State.raise_host (s : State) (d c p : Nat) (cl : Bool) (x : Bytes) : (s.raise d c p cl x).host = s.host :=
  (s.raise_same d c p cl x).host (by decide)
@[simp] theorem State.raise_sec (s : State) (d c p : Nat) (cl : Bool) (x : Bytes) : (s.raise d c p cl x).sec = s.sec :=
  (s.raise_same d c p cl x).sec (by decide)
@[simp] theorem State.raise_flash (s : State) (d c p : Nat) (cl : Bool) (x : Bytes) : (s.raise d c p cl x).flash = s.flash :=
  (s.raise_same d c p cl x).flash (by decide)
@[simp] theorem State.raise_granules (s : State) (d c p : Nat) (cl : Bool) (x : Bytes) : (s.raise d c p cl x).granules = s.granules :=
  (s.raise_same d c p cl x).granules (by decide)
@[simp] theorem State.raise_sectors (s : State) (d c p : Nat) (cl : Bool) (x : Bytes) : (s.raise d c p cl x).sectors = s.sectors :=
  (s.raise_same d c p cl x).sectors (by decide)
@[simp] theorem State.raise_waitMaint (s : State) (d c p : Nat) (cl : Bool) (x : Bytes) : (s.raise d c p cl x).waitMaint = s.waitMaint :=
  (s.raise_same d c p cl x).waitMaint (by decide)
@[simp] theorem State.raise_fwWaitAt (s : State) (d c p : Nat) (cl : Bool) (x : Bytes) : (s.raise d c p cl x).fwWaitAt = s.fwWaitAt :=
  (s.raise_same d c p cl x).fwWaitAt (by decide)
@[simp] theorem State.raise_draws (s : State) (d c p : Nat) (cl : Bool) (x : Bytes) : (s.raise d c p cl x).draws = s.draws :=
  (s.raise_same d c p cl x).draws (by decide)
@[simp] theorem State.raise_get_act (s : State) (d c p : Nat) (cl : Bool) (x : Bytes) (i : Nat) :
    (s.raise d c p cl x).act i = s.act i := (s.raise_same d c p cl x).get_act (by decide) i
@[simp] theorem State.raise_get_shad (s : State) (d c p : Nat) (cl : Bool) (x : Bytes) (i : Nat) :
    (s.raise d c p cl x).shad i = s.shad i := (s.raise_same d c p cl x).get_shad (by decide) i
@[simp] theorem State.raise_get_chan (s : State) (d c p : Nat) (cl : Bool) (x : Bytes) (i : Nat) :
    (s.raise d c p cl x).chan i = s.chan i := (s.raise_same d c p cl x).get_chan (by decide) i
@[simp] theorem State.raise_get_en (s : State) (d c p : Nat) (cl : Bool) (x : Bytes) (i : Nat) :
    (s.raise d c p cl x).en i = s.en i := (s.raise_same d c p cl x).get_en (by decide) i
@[simp] theorem State.raise_get_trim (s : State) (d c p : Nat) (cl : Bool) (x : Bytes) (i : Nat) :
    (s.raise d c p cl x).trim i = s.trim i := (s.raise_same d c p cl x).get_trim (by decide) i
@[simp] theorem State.raise_get_cluster (s : State) (d c p : Nat) (cl : Bool) (x : Bytes) (i : Nat) :
    (s.raise d c p cl x).cluster i = s.cluster i := (s.raise_same d c p cl x).get_cluster (by decide) i
@[simp] theorem State.raise_get_latch (s : State) (d c p : Nat) (cl : Bool) (x : Bytes) (i j : Nat) :
    (s.raise d c p cl x).latch i j = s.latch i j := (s.raise_same d c p cl x).get_latch (by decide) i j
@[simp] theorem State.raise_get_part (s : State) (d c p : Nat) (cl : Bool) (x : Bytes) (i : Nat) :
    (s.raise d c p cl x).part i = s.part i := (s.raise_same d c p cl x).get_part (by decide) i
@[simp] theorem State.raise_get_group (s : State) (d c p : Nat) (cl : Bool) (x : Bytes) (i : Nat) :
    (s.raise d c p cl x).group i = s.group i := (s.raise_same d c p cl x).get_group (by decide) i
@[simp] theorem State.raise_get_cap (s : State) (d c p : Nat) (cl : Bool) (x : Bytes) (i : Nat) :
    (s.raise d c p cl x).cap i = s.cap i := (s.raise_same d c p cl x).get_cap (by decide) i
@[simp] theorem State.raise_get_key (s : State) (d c p : Nat) (cl : Bool) (x : Bytes) (i : Nat) :
    (s.raise d c p cl x).key i = s.key i := (s.raise_same d c p cl x).get_key (by decide) i
@[simp] theorem State.raise_get_stream (s : State) (d c p : Nat) (cl : Bool) (x : Bytes) (i : Nat) :
    (s.raise d c p cl x).stream i = s.stream i := (s.raise_same d c p cl x).get_stream (by decide) i
@[simp] theorem State.raise_get_port (s : State) (d c p : Nat) (cl : Bool) (x : Bytes) (i : Nat) :
    (s.raise d c p cl x).port i = s.port i := (s.raise_same d c p cl x).get_port (by decide) i
@[simp] theorem State.raise_get_entry (s : State) (d c p : Nat) (cl : Bool) (x : Bytes) (i : Nat) :
    (s.raise d c p cl x).entry i = s.entry i := (s.raise_same d c p cl x).get_entry (by decide) i
@[simp] theorem State.raise_get_window (s : State) (d c p : Nat) (cl : Bool) (x : Bytes) (i : Nat) :
    (s.raise d c p cl x).window i = s.window i := (s.raise_same d c p cl x).get_window (by decide) i
@[simp] theorem State.raise_get_drive (s : State) (d c p : Nat) (cl : Bool) (x : Bytes) (i : Nat) :
    (s.raise d c p cl x).drive i = s.drive i := (s.raise_same d c p cl x).get_drive (by decide) i
@[simp] theorem State.raise_get_stageSet (s : State) (d c p : Nat) (cl : Bool) (x : Bytes) (i : Nat) :
    (s.raise d c p cl x).stageSet i = s.stageSet i := (s.raise_same d c p cl x).get_stageSet (by decide) i
@[simp] theorem State.raise_get_downCause (s : State) (d c p : Nat) (cl : Bool) (x : Bytes) (i : Nat) :
    (s.raise d c p cl x).downCause i = s.downCause i := (s.raise_same d c p cl x).get_downCause (by decide) i
@[simp] theorem State.raise_get_action (s : State) (d c p : Nat) (cl : Bool) (x : Bytes) (i : Nat) :
    (s.raise d c p cl x).action i = s.action i := (s.raise_same d c p cl x).get_action (by decide) i

/-- The record that the last entry put into the ring. -/
theorem State.ringPut_mem (s : State) (e : EventRec) : { e with eseq := s.evNext % 4294967296 } ∈ (s.ringPut e).evRing := by
  unfold State.ringPut
  dsimp only
  split
  · simp
  · rename_i h
    simp only [State.bump32_eq, State.setReg_evRing]
    cases hr : s.evRing with
    | nil => simp [hr] at h
    | cons a t => simp

/-- A record in a ring that is not its oldest stays when one more is put in. -/
theorem State.ringPut_keeps (s : State) (e x : EventRec) (h : x ∈ s.evRing.drop 1) : x ∈ (s.ringPut e).evRing := by
  unfold State.ringPut
  dsimp only
  split
  · exact List.mem_append_left _ (List.mem_of_mem_drop h)
  · simp only [State.bump32_eq, State.setReg_evRing]
    rw [List.drop_append]
    exact List.mem_append_left _ h

/-- An event of an island whose crossing is whole is on record while the management plane is up. -/
theorem State.raise_recorded (s : State) (d c p : Nat) (cl : Bool) (x : Bytes) (h : s.enters d) :
    (s.raise d c p cl x).recorded d c p cl x := by
  have hn : (s.raise d c p cl x).islandTime d = s.islandTime d := by
    unfold State.islandTime
    rw [s.raise_clusters d c p cl x, s.raise_now d c p cl x]
  have hc : (!s.mgmtDown && (d == 10 || !s.stalled.contains d)) = true := by
    obtain ⟨h1, h2⟩ := h
    simp only [h1, Bool.not_false, Bool.true_and, Bool.or_eq_true, beq_iff_eq, Bool.not_eq_true', List.contains_eq_mem, decide_eq_false_iff_not]
    exact h2
  unfold State.raise at hn ⊢
  simp only [hc, if_true] at hn ⊢
  rcases s.ringEnter_cases { code := c, source := d, part := p, clear := cl, param := x, stamp := s.islandTime d } with h' | ⟨y, hl, h'⟩
  · rw [h'] at hn ⊢
    exact ⟨_, State.ringPut_mem _ _, rfl, rfl, rfl, rfl, rfl, hn.symm⟩
  · rw [h'] at hn ⊢
    refine ⟨{ code := c, source := d, part := p, clear := cl, param := x, stamp := s.islandTime d, eseq := s.evNext % 4294967296 },
      State.ringPut_keeps _ _ _ ?_, rfl, rfl, rfl, rfl, rfl, hn.symm⟩
    show _ ∈ (s.ringPut _).evRing.drop 1
    unfold State.ringPut
    dsimp only
    rw [if_neg (by simp; omega)]
    simp only [State.bump32_eq, State.setReg_evRing, List.drop_drop]
    rw [List.drop_append_of_le_length (by omega)]
    simp

/-! ### Items -/

/-- Counting an item changes registers of the diagnostics only. -/
@[simp] theorem State.countItem_but (s : State) (r : Role) (l : List Fld) (h : Fld.regs ∈ l) : (s.countItem r).but l = s.but l := by
  unfold State.countItem
  cases r <;> dsimp only <;> split <;> simp only [State.bump32_but, State.setReg_but, h]

theorem State.countItem_same (s : State) (r : Role) : Same [.regs] s (s.countItem r) := State.countItem_but s r _ (by decide)

theorem State.countItem_reg (s : State) (r : Role) : RegsBut s (s.countItem r) (itemKeys r) := by
  intro k h
  unfold State.countItem
  cases r <;> simp only [itemKeys, List.cons_append, List.nil_append, List.append_nil, List.mem_cons, not_or] at h <;> dsimp only <;>
    split <;> simp only [State.bump32_eq, State.setReg_reg] <;> simp_all

@[simp] theorem State.countItem_pending (s : State) (r : Role) : (s.countItem r).pending = s.pending := (s.countItem_same r).pending (by decide)
@[simp] theorem State.countItem_status (s : State) (r : Role) : (s.countItem r).status = s.status := (s.countItem_same r).status (by decide)
@[simp] theorem State.countItem_reply (s : State) (r : Role) : (s.countItem r).reply = s.reply := (s.countItem_same r).reply (by decide)
@[simp] theorem State.countItem_now (s : State) (r : Role) : (s.countItem r).now = s.now := (s.countItem_same r).now (by decide)
@[simp] theorem State.countItem_timeFree (s : State) (r : Role) : (s.countItem r).timeFree = s.timeFree := (s.countItem_same r).timeFree (by decide)
@[simp] theorem State.countItem_refFailAt (s : State) (r : Role) : (s.countItem r).refFailAt = s.refFailAt := (s.countItem_same r).refFailAt (by decide)
@[simp] theorem State.countItem_active (s : State) (r : Role) : (s.countItem r).active = s.active := (s.countItem_same r).active (by decide)
@[simp] theorem State.countItem_prior (s : State) (r : Role) : (s.countItem r).prior = s.prior := (s.countItem_same r).prior (by decide)
@[simp] theorem State.countItem_shadow (s : State) (r : Role) : (s.countItem r).shadow = s.shadow := (s.countItem_same r).shadow (by decide)
@[simp] theorem State.countItem_retained (s : State) (r : Role) : (s.countItem r).retained = s.retained := (s.countItem_same r).retained (by decide)
@[simp] theorem State.countItem_committed (s : State) (r : Role) : (s.countItem r).committed = s.committed := (s.countItem_same r).committed (by decide)
@[simp] theorem State.countItem_sets (s : State) (r : Role) : (s.countItem r).sets = s.sets := (s.countItem_same r).sets (by decide)
@[simp] theorem State.countItem_armed (s : State) (r : Role) : (s.countItem r).armed = s.armed := (s.countItem_same r).armed (by decide)
@[simp] theorem State.countItem_queueC (s : State) (r : Role) : (s.countItem r).queueC = s.queueC := (s.countItem_same r).queueC (by decide)
@[simp] theorem State.countItem_switchSt (s : State) (r : Role) : (s.countItem r).switchSt = s.switchSt := (s.countItem_same r).switchSt (by decide)
@[simp] theorem State.countItem_chans (s : State) (r : Role) : (s.countItem r).chans = s.chans := (s.countItem_same r).chans (by decide)
@[simp] theorem State.countItem_ens (s : State) (r : Role) : (s.countItem r).ens = s.ens := (s.countItem_same r).ens (by decide)
@[simp] theorem State.countItem_trims (s : State) (r : Role) : (s.countItem r).trims = s.trims := (s.countItem_same r).trims (by decide)
@[simp] theorem State.countItem_clusters (s : State) (r : Role) : (s.countItem r).clusters = s.clusters := (s.countItem_same r).clusters (by decide)
@[simp] theorem State.countItem_latches (s : State) (r : Role) : (s.countItem r).latches = s.latches := (s.countItem_same r).latches (by decide)
@[simp] theorem State.countItem_parts (s : State) (r : Role) : (s.countItem r).parts = s.parts := (s.countItem_same r).parts (by decide)
@[simp] theorem State.countItem_groups (s : State) (r : Role) : (s.countItem r).groups = s.groups := (s.countItem_same r).groups (by decide)
@[simp] theorem State.countItem_actions (s : State) (r : Role) : (s.countItem r).actions = s.actions := (s.countItem_same r).actions (by decide)
@[simp] theorem State.countItem_caps (s : State) (r : Role) : (s.countItem r).caps = s.caps := (s.countItem_same r).caps (by decide)
@[simp] theorem State.countItem_mgmtDown (s : State) (r : Role) : (s.countItem r).mgmtDown = s.mgmtDown := (s.countItem_same r).mgmtDown (by decide)
@[simp] theorem State.countItem_stalled (s : State) (r : Role) : (s.countItem r).stalled = s.stalled := (s.countItem_same r).stalled (by decide)
@[simp] theorem State.countItem_islandBad (s : State) (r : Role) : (s.countItem r).islandBad = s.islandBad := (s.countItem_same r).islandBad (by decide)
@[simp] theorem State.countItem_fabricFault (s : State) (r : Role) : (s.countItem r).fabricFault = s.fabricFault := (s.countItem_same r).fabricFault (by decide)
@[simp] theorem State.countItem_safeN (s : State) (r : Role) : (s.countItem r).safeN = s.safeN := (s.countItem_same r).safeN (by decide)
@[simp] theorem State.countItem_vioLost (s : State) (r : Role) : (s.countItem r).vioLost = s.vioLost := (s.countItem_same r).vioLost (by decide)
@[simp] theorem State.countItem_evRing (s : State) (r : Role) : (s.countItem r).evRing = s.evRing := (s.countItem_same r).evRing (by decide)
@[simp] theorem State.countItem_evNext (s : State) (r : Role) : (s.countItem r).evNext = s.evNext := (s.countItem_same r).evNext (by decide)
@[simp] theorem State.countItem_ev04At (s : State) (r : Role) : (s.countItem r).ev04At = s.ev04At := (s.countItem_same r).ev04At (by decide)
@[simp] theorem State.countItem_evQueues (s : State) (r : Role) : (s.countItem r).evQueues = s.evQueues := (s.countItem_same r).evQueues (by decide)
@[simp] theorem State.countItem_evQueueGap (s : State) (r : Role) : (s.countItem r).evQueueGap = s.evQueueGap := (s.countItem_same r).evQueueGap (by decide)
@[simp] theorem State.countItem_later (s : State) (r : Role) : (s.countItem r).later = s.later := (s.countItem_same r).later (by decide)
@[simp] theorem State.countItem_sessions (s : State) (r : Role) : (s.countItem r).sessions = s.sessions := (s.countItem_same r).sessions (by decide) (by decide)
@[simp] theorem State.countItem_sessNext (s : State) (r : Role) : (s.countItem r).sessNext = s.sessNext := (s.countItem_same r).sessNext (by decide)
@[simp] theorem State.countItem_asms (s : State) (r : Role) : (s.countItem r).asms = s.asms := (s.countItem_same r).asms (by decide)
@[simp] theorem State.countItem_inbox (s : State) (r : Role) : (s.countItem r).inbox = s.inbox := (s.countItem_same r).inbox (by decide)
@[simp] theorem State.countItem_waits (s : State) (r : Role) : (s.countItem r).waits = s.waits := (s.countItem_same r).waits (by decide)
@[simp] theorem State.countItem_outFrames (s : State) (r : Role) : (s.countItem r).outFrames = s.outFrames := (s.countItem_same r).outFrames (by decide)
@[simp] theorem State.countItem_downs (s : State) (r : Role) : (s.countItem r).downs = s.downs := (s.countItem_same r).downs (by decide)
@[simp] theorem State.countItem_t1sSleep (s : State) (r : Role) : (s.countItem r).t1sSleep = s.t1sSleep := (s.countItem_same r).t1sSleep (by decide)
@[simp] theorem State.countItem_keys (s : State) (r : Role) : (s.countItem r).keys = s.keys := (s.countItem_same r).keys (by decide)
@[simp] theorem State.countItem_streams (s : State) (r : Role) : (s.countItem r).streams = s.streams := (s.countItem_same r).streams (by decide)
@[simp] theorem State.countItem_ports (s : State) (r : Role) : (s.countItem r).ports = s.ports := (s.countItem_same r).ports (by decide)
@[simp] theorem State.countItem_entries (s : State) (r : Role) : (s.countItem r).entries = s.entries := (s.countItem_same r).entries (by decide)
@[simp] theorem State.countItem_svc (s : State) (r : Role) : (s.countItem r).svc = s.svc := (s.countItem_same r).svc (by decide)
@[simp] theorem State.countItem_peerOut (s : State) (r : Role) : (s.countItem r).peerOut = s.peerOut := (s.countItem_same r).peerOut (by decide)
@[simp] theorem State.countItem_peerTries (s : State) (r : Role) : (s.countItem r).peerTries = s.peerTries := (s.countItem_same r).peerTries (by decide)
@[simp] theorem State.countItem_peerReq (s : State) (r : Role) : (s.countItem r).peerReq = s.peerReq := (s.countItem_same r).peerReq (by decide)
@[simp] theorem State.countItem_peerReqsAt (s : State) (r : Role) : (s.countItem r).peerReqsAt = s.peerReqsAt := (s.countItem_same r).peerReqsAt (by decide)
@[simp] theorem State.countItem_drives (s : State) (r : Role) : (s.countItem r).drives = s.drives := (s.countItem_same r).drives (by decide)
@[simp] theorem State.countItem_trestle (s : State) (r : Role) : (s.countItem r).trestle = s.trestle := (s.countItem_same r).trestle (by decide)
@[simp] theorem State.countItem_thermal (s : State) (r : Role) : (s.countItem r).thermal = s.thermal := (s.countItem_same r).thermal (by decide)
@[simp] theorem State.countItem_supply (s : State) (r : Role) : (s.countItem r).supply = s.supply := (s.countItem_same r).supply (by decide)
@[simp] theorem State.countItem_ledger (s : State) (r : Role) : (s.countItem r).ledger = s.ledger := (s.countItem_same r).ledger (by decide)
@[simp] theorem State.countItem_log (s : State) (r : Role) : (s.countItem r).log = s.log := (s.countItem_same r).log (by decide)
@[simp] theorem State.countItem_nv (s : State) (r : Role) : (s.countItem r).nv = s.nv := (s.countItem_same r).nv (by decide)
@[simp] theorem State.countItem_host (s : State) (r : Role) : (s.countItem r).host = s.host := (s.countItem_same r).host (by decide)
@[simp] theorem State.countItem_sec (s : State) (r : Role) : (s.countItem r).sec = s.sec := (s.countItem_same r).sec (by decide)
@[simp] theorem State.countItem_flash (s : State) (r : Role) : (s.countItem r).flash = s.flash := (s.countItem_same r).flash (by decide)
@[simp] theorem State.countItem_granules (s : State) (r : Role) : (s.countItem r).granules = s.granules := (s.countItem_same r).granules (by decide)
@[simp] theorem State.countItem_sectors (s : State) (r : Role) : (s.countItem r).sectors = s.sectors := (s.countItem_same r).sectors (by decide)
@[simp] theorem State.countItem_waitMaint (s : State) (r : Role) : (s.countItem r).waitMaint = s.waitMaint := (s.countItem_same r).waitMaint (by decide)
@[simp] theorem State.countItem_fwWaitAt (s : State) (r : Role) : (s.countItem r).fwWaitAt = s.fwWaitAt := (s.countItem_same r).fwWaitAt (by decide)
@[simp] theorem State.countItem_draws (s : State) (r : Role) : (s.countItem r).draws = s.draws := (s.countItem_same r).draws (by decide)
@[simp] theorem State.countItem_get_act (s : State) (r : Role) (i : Nat) : (s.countItem r).act i = s.act i :=
  (s.countItem_same r).get_act (by decide) i
@[simp] theorem State.countItem_get_shad (s : State) (r : Role) (i : Nat) : (s.countItem r).shad i = s.shad i :=
  (s.countItem_same r).get_shad (by decide) i
@[simp] theorem State.countItem_get_chan (s : State) (r : Role) (i : Nat) : (s.countItem r).chan i = s.chan i :=
  (s.countItem_same r).get_chan (by decide) i
@[simp] theorem State.countItem_get_en (s : State) (r : Role) (i : Nat) : (s.countItem r).en i = s.en i :=
  (s.countItem_same r).get_en (by decide) i
@[simp] theorem State.countItem_get_trim (s : State) (r : Role) (i : Nat) : (s.countItem r).trim i = s.trim i :=
  (s.countItem_same r).get_trim (by decide) i
@[simp] theorem State.countItem_get_cluster (s : State) (r : Role) (i : Nat) : (s.countItem r).cluster i = s.cluster i :=
  (s.countItem_same r).get_cluster (by decide) i
@[simp] theorem State.countItem_get_latch (s : State) (r : Role) (i j : Nat) : (s.countItem r).latch i j = s.latch i j :=
  (s.countItem_same r).get_latch (by decide) i j
@[simp] theorem State.countItem_get_part (s : State) (r : Role) (i : Nat) : (s.countItem r).part i = s.part i :=
  (s.countItem_same r).get_part (by decide) i
@[simp] theorem State.countItem_get_group (s : State) (r : Role) (i : Nat) : (s.countItem r).group i = s.group i :=
  (s.countItem_same r).get_group (by decide) i
@[simp] theorem State.countItem_get_cap (s : State) (r : Role) (i : Nat) : (s.countItem r).cap i = s.cap i :=
  (s.countItem_same r).get_cap (by decide) i
@[simp] theorem State.countItem_get_key (s : State) (r : Role) (i : Nat) : (s.countItem r).key i = s.key i :=
  (s.countItem_same r).get_key (by decide) i
@[simp] theorem State.countItem_get_stream (s : State) (r : Role) (i : Nat) : (s.countItem r).stream i = s.stream i :=
  (s.countItem_same r).get_stream (by decide) i
@[simp] theorem State.countItem_get_port (s : State) (r : Role) (i : Nat) : (s.countItem r).port i = s.port i :=
  (s.countItem_same r).get_port (by decide) i
@[simp] theorem State.countItem_get_entry (s : State) (r : Role) (i : Nat) : (s.countItem r).entry i = s.entry i :=
  (s.countItem_same r).get_entry (by decide) i
@[simp] theorem State.countItem_get_window (s : State) (r : Role) (i : Nat) : (s.countItem r).window i = s.window i :=
  (s.countItem_same r).get_window (by decide) i
@[simp] theorem State.countItem_get_drive (s : State) (r : Role) (i : Nat) : (s.countItem r).drive i = s.drive i :=
  (s.countItem_same r).get_drive (by decide) i
@[simp] theorem State.countItem_get_stageSet (s : State) (r : Role) (i : Nat) : (s.countItem r).stageSet i = s.stageSet i :=
  (s.countItem_same r).get_stageSet (by decide) i
@[simp] theorem State.countItem_get_downCause (s : State) (r : Role) (i : Nat) : (s.countItem r).downCause i = s.downCause i :=
  (s.countItem_same r).get_downCause (by decide) i
@[simp] theorem State.countItem_get_action (s : State) (r : Role) (i : Nat) : (s.countItem r).action i = s.action i :=
  (s.countItem_same r).get_action (by decide) i

/-- A dictionary write that reaches its execution. -/
theorem State.item_run (s : State) (r : Role) (right valueOk : Bool) (f : State → State) (hs : s.serves = true)
    (hd : ∀ p, r = .partition p → s.defined p = true) (hr : right = true) (hv : valueOk = true) :
    s.item r right valueOk f = (f s).countItem r := by
  unfold State.item State.itemLen
  cases r <;> simp_all

/-- A dictionary write that comes while no request is served does nothing. -/
theorem State.item_unserved (s : State) (r : Role) (right valueOk : Bool) (f : State → State) (hs : s.serves = false) :
    s.item r right valueOk f = s := by
  unfold State.item State.itemLen
  simp [hs]

/-- A dictionary write without the right is refused with ST 0x0201. -/
theorem State.item_noRight (s : State) (r : Role) (valueOk : Bool) (f : State → State) (hs : s.serves = true)
    (hd : ∀ p, r = .partition p → s.defined p = true) : s.item r false valueOk f = (s.answer 0x0201).countItem r := by
  unfold State.item State.itemLen
  cases r <;> simp_all

/-- A dictionary write with a value out of range is refused with ST 0x0301. -/
theorem State.item_badValue (s : State) (r : Role) (f : State → State) (hs : s.serves = true)
    (hd : ∀ p, r = .partition p → s.defined p = true) : s.item r true false f = (s.answer 0x0301).countItem r := by
  unfold State.item State.itemLen
  cases r <;> simp_all

/-! ### A change of every unit of a list -/

theorem State.setCluster_get (s : State) (c d : Nat) (x : ClusterX) : (s.setCluster c x).cluster d = if d = c then x else s.cluster d := tabGet_set _ _ _ _ _

/-- Each unit of a list without repeats is changed once, from what it was. -/
theorem State.each_setCluster (f : Nat → ClusterX → ClusterX) (l : List Nat) (h : l.Nodup) (s : State) (k : Nat) :
    (s.each l (fun s n => s.setCluster n (f n (s.cluster n)))).cluster k = if k ∈ l then f k (s.cluster k) else s.cluster k := by
  induction l generalizing s with
  | nil => simp
  | cons x l ih =>
    rw [List.nodup_cons] at h
    rw [State.each_cons, ih h.2, State.setCluster_get]
    by_cases hk : k = x
    · subst hk
      simp [h.1]
    · simp [hk]

theorem State.setPart_get (s : State) (c d : Nat) (x : PartX) : (s.setPart c x).part d = if d = c then x else s.part d := tabGet_set _ _ _ _ _

/-- Each unit of a list without repeats is changed once, from what it was. -/
theorem State.each_setPart (f : Nat → PartX → PartX) (l : List Nat) (h : l.Nodup) (s : State) (k : Nat) :
    (s.each l (fun s n => s.setPart n (f n (s.part n)))).part k = if k ∈ l then f k (s.part k) else s.part k := by
  induction l generalizing s with
  | nil => simp
  | cons x l ih =>
    rw [List.nodup_cons] at h
    rw [State.each_cons, ih h.2, State.setPart_get]
    by_cases hk : k = x
    · subst hk
      simp [h.1]
    · simp [hk]

theorem State.setStream_get (s : State) (c d : Nat) (x : StreamX) : (s.setStream c x).stream d = if d = c then x else s.stream d := tabGet_set _ _ _ _ _

/-- Each unit of a list without repeats is changed once, from what it was. -/
theorem State.each_setStream (f : Nat → StreamX → StreamX) (l : List Nat) (h : l.Nodup) (s : State) (k : Nat) :
    (s.each l (fun s n => s.setStream n (f n (s.stream n)))).stream k = if k ∈ l then f k (s.stream k) else s.stream k := by
  induction l generalizing s with
  | nil => simp
  | cons x l ih =>
    rw [List.nodup_cons] at h
    rw [State.each_cons, ih h.2, State.setStream_get]
    by_cases hk : k = x
    · subst hk
      simp [h.1]
    · simp [hk]

theorem State.setEn_get (s : State) (c d : Nat) (x : EnX) : (s.setEn c x).en d = if d = c then x else s.en d := tabGet_set _ _ _ _ _

/-- Each unit of a list without repeats is changed once, from what it was. -/
theorem State.each_setEn (f : Nat → EnX → EnX) (l : List Nat) (h : l.Nodup) (s : State) (k : Nat) :
    (s.each l (fun s n => s.setEn n (f n (s.en n)))).en k = if k ∈ l then f k (s.en k) else s.en k := by
  induction l generalizing s with
  | nil => simp
  | cons x l ih =>
    rw [List.nodup_cons] at h
    rw [State.each_cons, ih h.2, State.setEn_get]
    by_cases hk : k = x
    · subst hk
      simp [h.1]
    · simp [hk]

theorem State.setChan_get (s : State) (c d : Nat) (x : ChanX) : (s.setChan c x).chan d = if d = c then x else s.chan d := tabGet_set _ _ _ _ _

/-- Each unit of a list without repeats is changed once, from what it was. -/
theorem State.each_setChan (f : Nat → ChanX → ChanX) (l : List Nat) (h : l.Nodup) (s : State) (k : Nat) :
    (s.each l (fun s n => s.setChan n (f n (s.chan n)))).chan k = if k ∈ l then f k (s.chan k) else s.chan k := by
  induction l generalizing s with
  | nil => simp
  | cons x l ih =>
    rw [List.nodup_cons] at h
    rw [State.each_cons, ih h.2, State.setChan_get]
    by_cases hk : k = x
    · subst hk
      simp [h.1]
    · simp [hk]

theorem State.setPort_get (s : State) (c d : Nat) (x : PortX) : (s.setPort c x).port d = if d = c then x else s.port d := tabGet_set _ _ _ _ _

/-- Each unit of a list without repeats is changed once, from what it was. -/
theorem State.each_setPort (f : Nat → PortX → PortX) (l : List Nat) (h : l.Nodup) (s : State) (k : Nat) :
    (s.each l (fun s n => s.setPort n (f n (s.port n)))).port k = if k ∈ l then f k (s.port k) else s.port k := by
  induction l generalizing s with
  | nil => simp
  | cons x l ih =>
    rw [List.nodup_cons] at h
    rw [State.each_cons, ih h.2, State.setPort_get]
    by_cases hk : k = x
    · subst hk
      simp [h.1]
    · simp [hk]

end Sys2Proof.Machine
end

