-- ==== Sys2Proof/Laws/Keep/Ops.lean ====
section
/-! SUPPORT. The frames of the operations of Machine/Ops.lean: the parts of the state that each of them can change. -/
set_option linter.all false

namespace Sys2Proof.Machine

@[simp] theorem State.trimFollow_but (s : State) (c : Nat) (st : ChanState) (l : List Fld) (h_entries : Fld.entries ∈ l) (h_trims : Fld.trims ∈ l) : (State.trimFollow s c st).but l = s.but l := by
  unfold State.trimFollow
  (try dsimp only); (repeat' split) <;> first
    | with_reducible rfl
    | (simp [h_entries, h_trims, ↓State.setEntry_but, ↓State.setTrim_but, ↓State.ite_but]; done)
    | (rename_i heq; have hk := congrArg (fun x => x.1.but l) heq; simp [h_entries, h_trims, ↓State.setEntry_but, ↓State.setTrim_but, ↓State.ite_but] at hk; simp [hk, h_entries, h_trims, ↓State.setEntry_but, ↓State.setTrim_but, ↓State.ite_but]; done)

@[simp] theorem State.askPort_but (s : State) (tx : PsTx) (l : List Fld) (h_ports : Fld.ports ∈ l) : (State.askPort s tx).but l = s.but l := by
  unfold State.askPort
  simp [h_ports, ↓State.setPort_but, ↓State.ite_but]

@[simp] theorem State.askSetpoint_but (s : State) (c v : Nat) (l : List Fld) (h_ports : Fld.ports ∈ l) : (State.askSetpoint s c v).but l = s.but l := by
  unfold State.askSetpoint
  first
  | (simp [h_ports, ↓State.askPort_but, ↓State.ite_but]; done)
  | ((try dsimp only); (repeat' split) <;> first
    | with_reducible rfl
    | (simp [h_ports, ↓State.askPort_but, ↓State.ite_but]; done))

@[simp] theorem State.psShutoff_but (s : State) (p : Nat) (l : List Fld) (h_ports : Fld.ports ∈ l) : (State.psShutoff s p).but l = s.but l := by
  unfold State.psShutoff
  simp [h_ports, ↓State.setPort_but, ↓State.each_but, ↓State.ite_but]

@[simp] theorem State.noteCap_but (s : State) (hits : Nat → Nat → Nat → Bool) (stamp : Nat) (l : List Fld) (h_caps : Fld.caps ∈ l) : (State.noteCap s hits stamp).but l = s.but l := by
  unfold State.noteCap
  first
  | (simp [h_caps, ↓State.setCap_but, ↓State.each_but, ↓State.ite_but]; done)
  | ((try dsimp only); (repeat' split) <;> first
    | with_reducible rfl
    | (simp [h_caps, ↓State.setCap_but, ↓State.each_but, ↓State.ite_but]; done)
    | (refine (State.each_but _ _ _ _ (fun s x _ => ?_)).trans ?_ <;> (try dsimp only) <;> (repeat' split) <;> first
      | with_reducible rfl
      | (simp [h_caps, ↓State.setCap_but, ↓State.each_but, ↓State.ite_but]; done)))

@[simp] theorem State.toState_but (s : State) (c : Nat) (st : ChanState) (at_ : Nat) (l : List Fld) (h_caps : Fld.caps ∈ l) (h_chans : Fld.chans ∈ l) (h_entries : Fld.entries ∈ l) (h_regs : Fld.regs ∈ l) (h_trims : Fld.trims ∈ l) : (State.toState s c st at_).but l = s.but l := by
  unfold State.toState
  (try dsimp only); (repeat' split) <;> first
    | with_reducible rfl
    | (simp [h_caps, h_chans, h_entries, h_regs, h_trims, ↓State.bump16_but, ↓State.noteCap_but, ↓State.setChan_but, ↓State.setReg_but, ↓State.trimFollow_but, ↓State.ite_but]; done)
    | (rename_i heq; have hk := congrArg (fun x => x.1.but l) heq; simp [h_caps, h_chans, h_entries, h_regs, h_trims, ↓State.bump16_but, ↓State.noteCap_but, ↓State.setChan_but, ↓State.setReg_but, ↓State.trimFollow_but, ↓State.ite_but] at hk; simp [hk, h_caps, h_chans, h_entries, h_regs, h_trims, ↓State.bump16_but, ↓State.noteCap_but, ↓State.setChan_but, ↓State.setReg_but, ↓State.trimFollow_but, ↓State.ite_but]; done)

@[simp] theorem State.enterSettle_but (s : State) (c : Nat) (l : List Fld) (h_caps : Fld.caps ∈ l) (h_chans : Fld.chans ∈ l) (h_entries : Fld.entries ∈ l) (h_regs : Fld.regs ∈ l) (h_trims : Fld.trims ∈ l) : (State.enterSettle s c).but l = s.but l := by
  unfold State.enterSettle
  simp [h_caps, h_chans, h_entries, h_regs, h_trims, ↓State.setChan_but, ↓State.toState_but, ↓State.ite_but]

@[simp] theorem State.armChan_but (s : State) (c : Nat) (l : List Fld) (h_caps : Fld.caps ∈ l) (h_chans : Fld.chans ∈ l) (h_entries : Fld.entries ∈ l) (h_ports : Fld.ports ∈ l) (h_regs : Fld.regs ∈ l) (h_trims : Fld.trims ∈ l) : (State.armChan s c).but l = s.but l := by
  unfold State.armChan
  simp [h_caps, h_chans, h_entries, h_ports, h_regs, h_trims, ↓State.askSetpoint_but, ↓State.enterSettle_but, ↓State.setChan_but, ↓State.toState_but, ↓State.ite_but]

@[simp] theorem State.warnClear_but (s : State) (c : Nat) (quiet : Bool) (l : List Fld) (h_chans : Fld.chans ∈ l) (h_events : Fld.events ∈ l) (h_regs : Fld.regs ∈ l) : (State.warnClear s c quiet).but l = s.but l := by
  unfold State.warnClear
  simp [h_chans, h_events, h_regs, ↓State.raise_but, ↓State.setChan_but, ↓State.ite_but]

@[simp] theorem State.warnEnd_but (s : State) (c : Nat) (quiet : Bool) (l : List Fld) (h_chans : Fld.chans ∈ l) (h_events : Fld.events ∈ l) (h_regs : Fld.regs ∈ l) : (State.warnEnd s c quiet).but l = s.but l := by
  unfold State.warnEnd
  simp [h_chans, h_events, h_regs, ↓State.warnClear_but, ↓State.each_but, ↓State.ite_but]

@[simp] theorem State.markCut_but (s : State) (c : Nat) (l : List Fld) (h_chans : Fld.chans ∈ l) : (State.markCut s c).but l = s.but l := by
  unfold State.markCut
  first
  | (simp [h_chans, ↓State.setChan_but, ↓State.ite_but]; done)
  | ((try dsimp only); (repeat' split) <;> first
    | with_reducible rfl
    | (simp [h_chans, ↓State.setChan_but, ↓State.ite_but]; done))

@[simp] theorem State.markCuts_but (s : State) (c : Nat) (l : List Fld) (h_chans : Fld.chans ∈ l) : (State.markCuts s c).but l = s.but l := by
  unfold State.markCuts
  first
  | (simp [h_chans, ↓State.markCut_but, ↓State.each_but, ↓State.ite_but]; done)
  | ((try dsimp only); (repeat' split) <;> first
    | with_reducible rfl
    | (simp [h_chans, ↓State.markCut_but, ↓State.each_but, ↓State.ite_but]; done)
    | (refine (State.each_but _ _ _ _ (fun s x _ => ?_)).trans ?_ <;> (try dsimp only) <;> (repeat' split) <;> first
      | with_reducible rfl
      | (simp [h_chans, ↓State.markCut_but, ↓State.each_but, ↓State.ite_but]; done)))

@[simp] theorem State.gapFlag_but (s : State) (p : Nat) (l : List Fld) (h_parts : Fld.parts ∈ l) : (State.gapFlag s p).but l = s.but l := by
  unfold State.gapFlag
  simp [h_parts, ↓State.setPart_but, ↓State.ite_but]

@[simp] theorem State.latchEn_but (s : State) (e : Nat) (b : Bool) (l : List Fld) (h_caps : Fld.caps ∈ l) (h_ens : Fld.ens ∈ l) : (State.latchEn s e b).but l = s.but l := by
  unfold State.latchEn
  first
  | (simp [h_caps, h_ens, ↓State.noteCap_but, ↓State.setEn_but, ↓State.ite_but]; done)
  | ((try dsimp only); (repeat' split) <;> first
    | with_reducible rfl
    | (simp [h_caps, h_ens, ↓State.noteCap_but, ↓State.setEn_but, ↓State.ite_but]; done))

@[simp] theorem State.orderEn_but (s : State) (e : Nat) (b : Bool) (l : List Fld) (h_caps : Fld.caps ∈ l) (h_ens : Fld.ens ∈ l) : (State.orderEn s e b).but l = s.but l := by
  unfold State.orderEn
  first
  | (simp [h_caps, h_ens, ↓State.latchEn_but, ↓State.setEn_but, ↓State.ite_but]; done)
  | ((try dsimp only); (repeat' split) <;> first
    | with_reducible rfl
    | (simp [h_caps, h_ens, ↓State.latchEn_but, ↓State.setEn_but, ↓State.ite_but]; done))

@[simp] theorem State.modeEn_but (s : State) (e : Nat) (l : List Fld) (h_ens : Fld.ens ∈ l) : (State.modeEn s e).but l = s.but l := by
  unfold State.modeEn
  first
  | (simp [h_ens, ↓State.setEn_but, ↓State.ite_but]; done)
  | ((try dsimp only); (repeat' split) <;> first
    | with_reducible rfl
    | (simp [h_ens, ↓State.setEn_but, ↓State.ite_but]; done))

@[simp] theorem State.goAbsent_but (s : State) (c at_ : Nat) (l : List Fld) (h_caps : Fld.caps ∈ l) (h_chans : Fld.chans ∈ l) (h_ens : Fld.ens ∈ l) (h_entries : Fld.entries ∈ l) (h_events : Fld.events ∈ l) (h_regs : Fld.regs ∈ l) (h_trims : Fld.trims ∈ l) : (State.goAbsent s c at_).but l = s.but l := by
  unfold State.goAbsent
  first
  | (simp [h_caps, h_chans, h_ens, h_entries, h_events, h_regs, h_trims, ↓State.orderEn_but, ↓State.raise_but, ↓State.toState_but, ↓State.ite_but]; done)
  | ((try dsimp only); (repeat' split) <;> first
    | with_reducible rfl
    | (simp [h_caps, h_chans, h_ens, h_entries, h_events, h_regs, h_trims, ↓State.orderEn_but, ↓State.raise_but, ↓State.toState_but, ↓State.ite_but]; done))

@[simp] theorem State.assertEn_but (s : State) (e : Nat) (l : List Fld) (h_caps : Fld.caps ∈ l) (h_chans : Fld.chans ∈ l) (h_ens : Fld.ens ∈ l) (h_entries : Fld.entries ∈ l) (h_ports : Fld.ports ∈ l) (h_regs : Fld.regs ∈ l) (h_trims : Fld.trims ∈ l) : (State.assertEn s e).but l = s.but l := by
  unfold State.assertEn
  simp [h_caps, h_chans, h_ens, h_entries, h_ports, h_regs, h_trims, ↓State.armChan_but, ↓State.latchEn_but, ↓State.each_but, ↓State.ite_but]

@[simp] theorem State.driveSync_but (s : State) (d : Nat) (l : List Fld) (h_drives : Fld.drives ∈ l) (h_events : Fld.events ∈ l) (h_regs : Fld.regs ∈ l) : (State.driveSync s d).but l = s.but l := by
  unfold State.driveSync
  first
  | (simp [h_drives, h_events, h_regs, ↓State.raise_but, ↓State.setDrive_but, ↓State.ite_but]; done)
  | ((try dsimp only); (repeat' split) <;> first
    | with_reducible rfl
    | (simp [h_drives, h_events, h_regs, ↓State.raise_but, ↓State.setDrive_but, ↓State.ite_but]; done))

@[simp] theorem State.runWrite_but (s : State) (d v : Nat) (l : List Fld) (h_drives : Fld.drives ∈ l) (h_events : Fld.events ∈ l) (h_regs : Fld.regs ∈ l) : (State.runWrite s d v).but l = s.but l := by
  unfold State.runWrite
  first
  | (simp [h_drives, h_events, h_regs, ↓State.driveSync_but, ↓State.setReg_but, ↓State.ite_but]; done)
  | ((try dsimp only); (repeat' split) <;> first
    | with_reducible rfl
    | (simp [h_drives, h_events, h_regs, ↓State.driveSync_but, ↓State.setReg_but, ↓State.ite_but]; done))

@[simp] theorem State.driveHalt_but (s : State) (d : Nat) (l : List Fld) (h_drives : Fld.drives ∈ l) (h_events : Fld.events ∈ l) (h_regs : Fld.regs ∈ l) : (State.driveHalt s d).but l = s.but l := by
  unfold State.driveHalt
  simp [h_drives, h_events, h_regs, ↓State.driveSync_but, ↓State.setReg_but, ↓State.ite_but]

@[simp] theorem State.partSince_but (s : State) (p : Nat) (x : PartX) (at_ : Nat) (l : List Fld) (h_parts : Fld.parts ∈ l) (h_regs : Fld.regs ∈ l) : (State.partSince s p x at_).but l = s.but l := by
  unfold State.partSince
  simp [h_parts, h_regs, ↓State.setPart_but, ↓State.setReg_but, ↓State.ite_but]

@[simp] theorem State.toPart_but (s : State) (p : Nat) (st : PartState) (at_ : Nat) (l : List Fld) (h_drives : Fld.drives ∈ l) (h_events : Fld.events ∈ l) (h_parts : Fld.parts ∈ l) (h_regs : Fld.regs ∈ l) : (State.toPart s p st at_).but l = s.but l := by
  unfold State.toPart
  first
  | (simp [h_drives, h_events, h_parts, h_regs, ↓State.driveSync_but, ↓State.partSince_but, ↓State.setReg_but, ↓State.each_but, ↓State.ite_but]; done)
  | ((try dsimp only); (repeat' split) <;> first
    | with_reducible rfl
    | (simp [h_drives, h_events, h_parts, h_regs, ↓State.driveSync_but, ↓State.partSince_but, ↓State.setReg_but, ↓State.each_but, ↓State.ite_but]; done)
    | (refine (State.each_but _ _ _ _ (fun s x _ => ?_)).trans ?_ <;> (try dsimp only) <;> (repeat' split) <;> first
      | with_reducible rfl
      | (simp [h_drives, h_events, h_parts, h_regs, ↓State.driveSync_but, ↓State.partSince_but, ↓State.setReg_but, ↓State.each_but, ↓State.ite_but]; done)))

@[simp] theorem State.withdraw_but (s : State) (p : Nat) (entryOnly : Bool) (l : List Fld) (h_actions : Fld.actions ∈ l) : (State.withdraw s p entryOnly).but l = s.but l := by
  unfold State.withdraw
  simp [h_actions, ↓State.but_actions, ↓State.ite_but]

@[simp] theorem State.itemLen_but (s : State) (r : Role) (right lenOk valueOk : Bool) (f : State → State) (l : List Fld) (h_regs : Fld.regs ∈ l) (h_reply : Fld.reply ∈ l) (h_status : Fld.status ∈ l) (hf : ∀ s, (f s).but l = s.but l) : (State.itemLen s r right lenOk valueOk f).but l = s.but l := by
  unfold State.itemLen
  dsimp only
  (repeat' split) <;> simp [hf, h_regs, h_reply, h_status]

@[simp] theorem State.item_but (s : State) (r : Role) (right valueOk : Bool) (f : State → State) (l : List Fld) (h_regs : Fld.regs ∈ l) (h_reply : Fld.reply ∈ l) (h_status : Fld.status ∈ l) (hf : ∀ s, (f s).but l = s.but l) : (State.item s r right valueOk f).but l = s.but l := by
  exact State.itemLen_but _ _ _ _ _ _ _ h_regs h_reply h_status hf

end Sys2Proof.Machine
end

