-- ==== Sys2Proof/Laws/Keep/Cut.lean ====
section
/-! SUPPORT. The frames of the operations of Machine/Cut.lean: the parts of the state that each of them can change. -/
set_option linter.all false

namespace Sys2Proof.Machine

@[simp] theorem State.marginDrop_but (s : State) (c : Nat) (l : List Fld) (h_chans : Fld.chans ∈ l) : (State.marginDrop s c).but l = s.but l := by
  unfold State.marginDrop
  first
  | (simp [h_chans, ↓State.setChan_but, ↓State.ite_but]; done)
  | ((try dsimp only); (repeat' split) <;> first
    | with_reducible rfl
    | (simp [h_chans, ↓State.setChan_but, ↓State.ite_but]; done))

@[simp] theorem State.marginOff_but (s : State) (c : Nat) (l : List Fld) (h_caps : Fld.caps ∈ l) (h_chans : Fld.chans ∈ l) (h_entries : Fld.entries ∈ l) (h_regs : Fld.regs ∈ l) (h_trims : Fld.trims ∈ l) : (State.marginOff s c).but l = s.but l := by
  unfold State.marginOff
  first
  | (simp [h_caps, h_chans, h_entries, h_regs, h_trims, ↓State.marginDrop_but, ↓State.toState_but, ↓State.ite_but]; done)
  | ((try dsimp only); (repeat' split) <;> first
    | with_reducible rfl
    | (simp [h_caps, h_chans, h_entries, h_regs, h_trims, ↓State.marginDrop_but, ↓State.toState_but, ↓State.ite_but]; done))

@[simp] theorem State.marginEnd_but (s : State) (c reason : Nat) (l : List Fld) (h_caps : Fld.caps ∈ l) (h_chans : Fld.chans ∈ l) (h_entries : Fld.entries ∈ l) (h_regs : Fld.regs ∈ l) (h_trims : Fld.trims ∈ l) : (State.marginEnd s c reason).but l = s.but l := by
  unfold State.marginEnd
  first
  | (simp [h_caps, h_chans, h_entries, h_regs, h_trims, ↓State.marginDrop_but, ↓State.marginOff_but, ↓State.ite_but]; done)
  | ((try dsimp only); (repeat' split) <;> first
    | with_reducible rfl
    | (simp [h_caps, h_chans, h_entries, h_regs, h_trims, ↓State.marginDrop_but, ↓State.marginOff_but, ↓State.ite_but]; done))

@[simp] theorem State.sweepEnd_but (s : State) (p reason : Nat) (l : List Fld) (h_caps : Fld.caps ∈ l) (h_chans : Fld.chans ∈ l) (h_entries : Fld.entries ∈ l) (h_events : Fld.events ∈ l) (h_parts : Fld.parts ∈ l) (h_regs : Fld.regs ∈ l) (h_trims : Fld.trims ∈ l) (h_waitMaint : Fld.waitMaint ∈ l) : (State.sweepEnd s p reason).but l = s.but l := by
  unfold State.sweepEnd
  first
  | (simp [h_caps, h_chans, h_entries, h_events, h_parts, h_regs, h_trims, h_waitMaint, ↓State.marginEnd_but, ↓State.raise_but, ↓State.setPart_but, ↓State.setReg_but, ↓State.but_waitMaint, ↓State.ite_but]; done)
  | ((try dsimp only); (repeat' split) <;> first
    | with_reducible rfl
    | (simp [h_caps, h_chans, h_entries, h_events, h_parts, h_regs, h_trims, h_waitMaint, ↓State.marginEnd_but, ↓State.raise_but, ↓State.setPart_but, ↓State.setReg_but, ↓State.but_waitMaint, ↓State.ite_but]; done))

@[simp] theorem State.benchAbort_but (s : State) (p reason : Nat) (l : List Fld) (h_caps : Fld.caps ∈ l) (h_chans : Fld.chans ∈ l) (h_entries : Fld.entries ∈ l) (h_events : Fld.events ∈ l) (h_parts : Fld.parts ∈ l) (h_regs : Fld.regs ∈ l) (h_trims : Fld.trims ∈ l) (h_waitMaint : Fld.waitMaint ∈ l) : (State.benchAbort s p reason).but l = s.but l := by
  unfold State.benchAbort
  first
  | (simp [h_caps, h_chans, h_entries, h_events, h_parts, h_regs, h_trims, h_waitMaint, ↓State.marginEnd_but, ↓State.sweepEnd_but, ↓State.each_but, ↓State.ite_but]; done)
  | ((try dsimp only); (repeat' split) <;> first
    | with_reducible rfl
    | (simp [h_caps, h_chans, h_entries, h_events, h_parts, h_regs, h_trims, h_waitMaint, ↓State.marginEnd_but, ↓State.sweepEnd_but, ↓State.each_but, ↓State.ite_but]; done)
    | (refine (State.each_but _ _ _ _ (fun s x _ => ?_)).trans ?_ <;> (try dsimp only) <;> (repeat' split) <;> first
      | with_reducible rfl
      | (simp [h_caps, h_chans, h_entries, h_events, h_parts, h_regs, h_trims, h_waitMaint, ↓State.marginEnd_but, ↓State.sweepEnd_but, ↓State.each_but, ↓State.ite_but]; done)))

@[simp] theorem State.captureEnd_but (s : State) (u : Nat) (l : List Fld) (h_caps : Fld.caps ∈ l) : (State.captureEnd s u).but l = s.but l := by
  unfold State.captureEnd
  first
  | (simp [h_caps, ↓State.setCap_but, ↓State.ite_but]; done)
  | ((try dsimp only); (repeat' split) <;> first
    | with_reducible rfl
    | (simp [h_caps, ↓State.setCap_but, ↓State.ite_but]; done))

@[simp] theorem State.capturesEnd_but (s : State) (p : Nat) (l : List Fld) (h_caps : Fld.caps ∈ l) : (State.capturesEnd s p).but l = s.but l := by
  unfold State.capturesEnd
  first
  | (simp [h_caps, ↓State.captureEnd_but, ↓State.each_but, ↓State.ite_but]; done)
  | ((try dsimp only); (repeat' split) <;> first
    | with_reducible rfl
    | (simp [h_caps, ↓State.captureEnd_but, ↓State.each_but, ↓State.ite_but]; done)
    | (refine (State.each_but _ _ _ _ (fun s x _ => ?_)).trans ?_ <;> (try dsimp only) <;> (repeat' split) <;> first
      | with_reducible rfl
      | (simp [h_caps, ↓State.captureEnd_but, ↓State.each_but, ↓State.ite_but]; done)))

@[simp] theorem State.latchEntry_but (s : State) (n p cause tick upper lower line : Nat) (l : List Fld) (h_latches : Fld.latches ∈ l) : (State.latchEntry s n p cause tick upper lower line).but l = s.but l := by
  unfold State.latchEntry
  first
  | (simp [h_latches, ↓State.setLatch_but, ↓State.ite_but]; done)
  | ((try dsimp only); (repeat' split) <;> first
    | with_reducible rfl
    | (simp [h_latches, ↓State.setLatch_but, ↓State.ite_but]; done))

@[simp] theorem State.countLater_but (s : State) (p : Nat) (cl : Option Nat) (l : List Fld) (h_latches : Fld.latches ∈ l) : (State.countLater s p cl).but l = s.but l := by
  unfold State.countLater
  (try dsimp only); (repeat' split) <;> first
    | with_reducible rfl
    | (simp [h_latches, ↓State.setLatch_but, ↓State.ite_but]; done)
    | (rename_i heq; have hk := congrArg (fun x => x.1.but l) heq; simp [h_latches, ↓State.setLatch_but, ↓State.ite_but] at hk; simp [hk, h_latches, ↓State.setLatch_but, ↓State.ite_but]; done)

@[simp] theorem State.latchCause_but (s : State) (p cause : Nat) (cl : Option Nat) (tick upper lower line : Nat) (l : List Fld) (h_latches : Fld.latches ∈ l) : (State.latchCause s p cause cl tick upper lower line).but l = s.but l := by
  unfold State.latchCause
  (try dsimp only); (repeat' split) <;> first
    | with_reducible rfl
    | (simp [h_latches, ↓State.latchEntry_but, ↓State.each_but, ↓State.ite_but]; done)
    | (refine (State.each_but _ _ _ _ (fun s x _ => ?_)).trans ?_ <;> (try dsimp only) <;> (repeat' split) <;> first
      | with_reducible rfl
      | (simp [h_latches, ↓State.latchEntry_but, ↓State.each_but, ↓State.ite_but]; done))
    | (rename_i heq; have hk := congrArg (fun x => x.1.but l) heq; simp [h_latches, ↓State.latchEntry_but, ↓State.each_but, ↓State.ite_but] at hk; simp [hk, h_latches, ↓State.latchEntry_but, ↓State.each_but, ↓State.ite_but]; done)

@[simp] theorem State.publishEntry_but (s : State) (p cause dom : Nat) (l : List Fld) (h_events : Fld.events ∈ l) (h_parts : Fld.parts ∈ l) (h_regs : Fld.regs ∈ l) : (State.publishEntry s p cause dom).but l = s.but l := by
  unfold State.publishEntry
  first
  | (simp [h_events, h_parts, h_regs, ↓State.raise_but, ↓State.setPart_but, ↓State.ite_but]; done)
  | ((try dsimp only); (repeat' split) <;> first
    | with_reducible rfl
    | (simp [h_events, h_parts, h_regs, ↓State.raise_but, ↓State.setPart_but, ↓State.ite_but]; done))

@[simp] theorem State.noteLost_but (s : State) (p : Nat) (l : List Fld) (h_clusters : Fld.clusters ∈ l) : (State.noteLost s p).but l = s.but l := by
  unfold State.noteLost
  first
  | (simp [h_clusters, ↓State.setCluster_but, ↓State.each_but, ↓State.ite_but]; done)
  | ((try dsimp only); (repeat' split) <;> first
    | with_reducible rfl
    | (simp [h_clusters, ↓State.setCluster_but, ↓State.each_but, ↓State.ite_but]; done)
    | (refine (State.each_but _ _ _ _ (fun s x _ => ?_)).trans ?_ <;> (try dsimp only) <;> (repeat' split) <;> first
      | with_reducible rfl
      | (simp [h_clusters, ↓State.setCluster_but, ↓State.each_but, ↓State.ite_but]; done)))

@[simp] theorem State.cutChannels_but (s : State) (p : Nat) (quiet : Bool) (l : List Fld) (h_caps : Fld.caps ∈ l) (h_chans : Fld.chans ∈ l) (h_clusters : Fld.clusters ∈ l) (h_entries : Fld.entries ∈ l) (h_events : Fld.events ∈ l) (h_regs : Fld.regs ∈ l) (h_trims : Fld.trims ∈ l) : (State.cutChannels s p quiet).but l = s.but l := by
  unfold State.cutChannels
  first
  | (simp [h_caps, h_chans, h_clusters, h_entries, h_events, h_regs, h_trims, ↓State.markCut_but, ↓State.noteLost_but, ↓State.setChan_but, ↓State.toState_but, ↓State.warnEnd_but, ↓State.each_but, ↓State.ite_but]; done)
  | ((try dsimp only); (repeat' split) <;> first
    | with_reducible rfl
    | (simp [h_caps, h_chans, h_clusters, h_entries, h_events, h_regs, h_trims, ↓State.markCut_but, ↓State.noteLost_but, ↓State.setChan_but, ↓State.toState_but, ↓State.warnEnd_but, ↓State.each_but, ↓State.ite_but]; done)
    | (refine (State.each_but _ _ _ _ (fun s x _ => ?_)).trans ?_ <;> (try dsimp only) <;> (repeat' split) <;> first
      | with_reducible rfl
      | (simp [h_caps, h_chans, h_clusters, h_entries, h_events, h_regs, h_trims, ↓State.markCut_but, ↓State.noteLost_but, ↓State.setChan_but, ↓State.toState_but, ↓State.warnEnd_but, ↓State.each_but, ↓State.ite_but]; done)))

@[simp] theorem State.trimsZero_but (s : State) (p : Nat) (l : List Fld) (h_trims : Fld.trims ∈ l) : (State.trimsZero s p).but l = s.but l := by
  unfold State.trimsZero
  simp [h_trims, ↓State.setTrim_but, ↓State.each_but, ↓State.ite_but]

@[simp] theorem State.cutEnables_but (s : State) (p : Nat) (l : List Fld) (h_caps : Fld.caps ∈ l) (h_ens : Fld.ens ∈ l) (h_parts : Fld.parts ∈ l) : (State.cutEnables s p).but l = s.but l := by
  unfold State.cutEnables
  first
  | (simp [h_caps, h_ens, h_parts, ↓State.latchEn_but, ↓State.setPart_but, ↓State.each_but, ↓State.ite_but]; done)
  | ((try dsimp only); (repeat' split) <;> first
    | with_reducible rfl
    | (simp [h_caps, h_ens, h_parts, ↓State.latchEn_but, ↓State.setPart_but, ↓State.each_but, ↓State.ite_but]; done)
    | (refine (State.each_but _ _ _ _ (fun s x _ => ?_)).trans ?_ <;> (try dsimp only) <;> (repeat' split) <;> first
      | with_reducible rfl
      | (simp [h_caps, h_ens, h_parts, ↓State.latchEn_but, ↓State.setPart_but, ↓State.each_but, ↓State.ite_but]; done)))

@[simp] theorem State.driveFlt_but (s : State) (n : Nat) (l : List Fld) (h_groups : Fld.groups ∈ l) (h_regs : Fld.regs ∈ l) : (State.driveFlt s n).but l = s.but l := by
  unfold State.driveFlt
  first
  | (simp [h_groups, h_regs, ↓State.bump16_but, ↓State.setGroup_but, ↓State.ite_but]; done)
  | ((try dsimp only); (repeat' split) <;> first
    | with_reducible rfl
    | (simp [h_groups, h_regs, ↓State.bump16_but, ↓State.setGroup_but, ↓State.ite_but]; done))

@[simp] theorem State.groupZero_but (s : State) (n : Nat) (l : List Fld) (h_groups : Fld.groups ∈ l) (h_regs : Fld.regs ∈ l) : (State.groupZero s n).but l = s.but l := by
  unfold State.groupZero
  simp [h_groups, h_regs, ↓State.setGroup_but, ↓State.setReg_but, ↓State.ite_but]

@[simp] theorem State.cutSequence_but (s : State) (p : Nat) (l : List Fld) (h_actions : Fld.actions ∈ l) (h_groups : Fld.groups ∈ l) (h_parts : Fld.parts ∈ l) (h_regs : Fld.regs ∈ l) : (State.cutSequence s p).but l = s.but l := by
  unfold State.cutSequence
  first
  | (simp [h_actions, h_groups, h_parts, h_regs, ↓State.groupZero_but, ↓State.setPart_but, ↓State.withdraw_but, ↓State.ite_but]; done)
  | ((try dsimp only); (repeat' split) <;> first
    | with_reducible rfl
    | (simp [h_actions, h_groups, h_parts, h_regs, ↓State.groupZero_but, ↓State.setPart_but, ↓State.withdraw_but, ↓State.ite_but]; done))

@[simp] theorem State.retryRule_but (s : State) (p cause first up : Nat) (l : List Fld) (h_drives : Fld.drives ∈ l) (h_events : Fld.events ∈ l) (h_parts : Fld.parts ∈ l) (h_regs : Fld.regs ∈ l) : (State.retryRule s p cause first up).but l = s.but l := by
  unfold State.retryRule
  simp [h_drives, h_events, h_parts, h_regs, ↓State.setPart_but, ↓State.setReg_but, ↓State.toPart_but, ↓State.ite_but]

@[simp] theorem State.openEvent_but (s : State) (p cause : Nat) (l : List Fld) (h_parts : Fld.parts ∈ l) : (State.openEvent s p cause).but l = s.but l := by
  unfold State.openEvent
  first
  | (simp [h_parts, ↓State.setPart_but, ↓State.ite_but]; done)
  | ((try dsimp only); (repeat' split) <;> first
    | with_reducible rfl
    | (simp [h_parts, ↓State.setPart_but, ↓State.ite_but]; done))

@[simp] theorem State.bareMerge_but (s : State) (p : Nat) (l : List Fld) (h_parts : Fld.parts ∈ l) : (State.bareMerge s p).but l = s.but l := by
  unfold State.bareMerge
  first
  | (simp [h_parts, ↓State.setPart_but, ↓State.ite_but]; done)
  | ((try dsimp only); (repeat' split) <;> first
    | with_reducible rfl
    | (simp [h_parts, ↓State.setPart_but, ↓State.ite_but]; done))

@[simp] theorem State.keepMerge_but (s : State) (p : Nat) (l : List Fld) (h_log : Fld.log ∈ l) : (State.keepMerge s p).but l = s.but l := by
  unfold State.keepMerge
  first
  | (simp [h_log, ↓State.but_log, ↓State.ite_but]; done)
  | ((try dsimp only); (repeat' split) <;> first
    | with_reducible rfl
    | (simp [h_log, ↓State.but_log, ↓State.ite_but]; done)
    | (rename_i heq; have hk := congrArg (fun x => x.1.but l) heq; simp [h_log, ↓State.but_log, ↓State.ite_but] at hk; simp [hk, h_log, ↓State.but_log, ↓State.ite_but]; done))

@[simp] theorem State.shutOff_but (s : State) (p cause : Nat) (cl : Option Nat) (tick upper lower line : Nat) (l : List Fld) (h_actions : Fld.actions ∈ l) (h_caps : Fld.caps ∈ l) (h_chans : Fld.chans ∈ l) (h_clusters : Fld.clusters ∈ l) (h_drives : Fld.drives ∈ l) (h_ens : Fld.ens ∈ l) (h_entries : Fld.entries ∈ l) (h_events : Fld.events ∈ l) (h_groups : Fld.groups ∈ l) (h_latches : Fld.latches ∈ l) (h_parts : Fld.parts ∈ l) (h_ports : Fld.ports ∈ l) (h_regs : Fld.regs ∈ l) (h_safeN : Fld.safeN ∈ l) (h_trims : Fld.trims ∈ l) (h_waitMaint : Fld.waitMaint ∈ l) : (State.shutOff s p cause cl tick upper lower line).but l = s.but l := by
  unfold State.shutOff
  first
  | (simp [h_actions, h_caps, h_chans, h_clusters, h_drives, h_ens, h_entries, h_events, h_groups, h_latches, h_parts, h_ports, h_regs, h_safeN, h_trims, h_waitMaint, ↓State.bareMerge_but, ↓State.benchAbort_but, ↓State.bump16_but, ↓State.capturesEnd_but, ↓State.cutChannels_but, ↓State.cutEnables_but, ↓State.cutSequence_but, ↓State.driveFlt_but, ↓State.driveHalt_but, ↓State.latchCause_but, ↓State.openEvent_but, ↓State.psShutoff_but, ↓State.publishEntry_but, ↓State.retryRule_but, ↓State.setPart_but, ↓State.setReg_but, ↓State.trimsZero_but, ↓State.but_safeN, ↓State.each_but, ↓State.ite_but]; done)
  | ((try dsimp only); (repeat' split) <;> first
    | with_reducible rfl
    | (simp [h_actions, h_caps, h_chans, h_clusters, h_drives, h_ens, h_entries, h_events, h_groups, h_latches, h_parts, h_ports, h_regs, h_safeN, h_trims, h_waitMaint, ↓State.bareMerge_but, ↓State.benchAbort_but, ↓State.bump16_but, ↓State.capturesEnd_but, ↓State.cutChannels_but, ↓State.cutEnables_but, ↓State.cutSequence_but, ↓State.driveFlt_but, ↓State.driveHalt_but, ↓State.latchCause_but, ↓State.openEvent_but, ↓State.psShutoff_but, ↓State.publishEntry_but, ↓State.retryRule_but, ↓State.setPart_but, ↓State.setReg_but, ↓State.trimsZero_but, ↓State.but_safeN, ↓State.each_but, ↓State.ite_but]; done)
    | (refine (State.each_but _ _ _ _ (fun s x _ => ?_)).trans ?_ <;> (try dsimp only) <;> (repeat' split) <;> first
      | with_reducible rfl
      | (simp [h_actions, h_caps, h_chans, h_clusters, h_drives, h_ens, h_entries, h_events, h_groups, h_latches, h_parts, h_ports, h_regs, h_safeN, h_trims, h_waitMaint, ↓State.bareMerge_but, ↓State.benchAbort_but, ↓State.bump16_but, ↓State.capturesEnd_but, ↓State.cutChannels_but, ↓State.cutEnables_but, ↓State.cutSequence_but, ↓State.driveFlt_but, ↓State.driveHalt_but, ↓State.latchCause_but, ↓State.openEvent_but, ↓State.psShutoff_but, ↓State.publishEntry_but, ↓State.retryRule_but, ↓State.setPart_but, ↓State.setReg_but, ↓State.trimsZero_but, ↓State.but_safeN, ↓State.each_but, ↓State.ite_but]; done))
    | (rename_i heq; have hk := congrArg (fun x => x.1.but l) heq; simp [h_actions, h_caps, h_chans, h_clusters, h_drives, h_ens, h_entries, h_events, h_groups, h_latches, h_parts, h_ports, h_regs, h_safeN, h_trims, h_waitMaint, ↓State.bareMerge_but, ↓State.benchAbort_but, ↓State.bump16_but, ↓State.capturesEnd_but, ↓State.cutChannels_but, ↓State.cutEnables_but, ↓State.cutSequence_but, ↓State.driveFlt_but, ↓State.driveHalt_but, ↓State.latchCause_but, ↓State.openEvent_but, ↓State.psShutoff_but, ↓State.publishEntry_but, ↓State.retryRule_but, ↓State.setPart_but, ↓State.setReg_but, ↓State.trimsZero_but, ↓State.but_safeN, ↓State.each_but, ↓State.ite_but] at hk; simp [hk, h_actions, h_caps, h_chans, h_clusters, h_drives, h_ens, h_entries, h_events, h_groups, h_latches, h_parts, h_ports, h_regs, h_safeN, h_trims, h_waitMaint, ↓State.bareMerge_but, ↓State.benchAbort_but, ↓State.bump16_but, ↓State.capturesEnd_but, ↓State.cutChannels_but, ↓State.cutEnables_but, ↓State.cutSequence_but, ↓State.driveFlt_but, ↓State.driveHalt_but, ↓State.latchCause_but, ↓State.openEvent_but, ↓State.psShutoff_but, ↓State.publishEntry_but, ↓State.retryRule_but, ↓State.setPart_but, ↓State.setReg_but, ↓State.trimsZero_but, ↓State.but_safeN, ↓State.each_but, ↓State.ite_but]; done))

@[simp] theorem State.joinCause_but (s : State) (p cause tick : Nat) (l : List Fld) (h_drives : Fld.drives ∈ l) (h_events : Fld.events ∈ l) (h_groups : Fld.groups ∈ l) (h_parts : Fld.parts ∈ l) (h_regs : Fld.regs ∈ l) : (State.joinCause s p cause tick).but l = s.but l := by
  unfold State.joinCause
  first
  | (simp [h_drives, h_events, h_groups, h_parts, h_regs, ↓State.driveFlt_but, ↓State.retryRule_but, ↓State.setReg_but, ↓State.ite_but]; done)
  | ((try dsimp only); (repeat' split) <;> first
    | with_reducible rfl
    | (simp [h_drives, h_events, h_groups, h_parts, h_regs, ↓State.driveFlt_but, ↓State.retryRule_but, ↓State.setReg_but, ↓State.ite_but]; done))

@[simp] theorem State.causeIn_but (s : State) (p cause n tick upper lower : Nat) (l : List Fld) (h_drives : Fld.drives ∈ l) (h_events : Fld.events ∈ l) (h_groups : Fld.groups ∈ l) (h_latches : Fld.latches ∈ l) (h_parts : Fld.parts ∈ l) (h_regs : Fld.regs ∈ l) : (State.causeIn s p cause n tick upper lower).but l = s.but l := by
  unfold State.causeIn
  first
  | (simp [h_drives, h_events, h_groups, h_latches, h_parts, h_regs, ↓State.countLater_but, ↓State.joinCause_but, ↓State.latchEntry_but, ↓State.publishEntry_but, ↓State.setLatch_but, ↓State.ite_but]; done)
  | ((try dsimp only); (repeat' split) <;> first
    | with_reducible rfl
    | (simp [h_drives, h_events, h_groups, h_latches, h_parts, h_regs, ↓State.countLater_but, ↓State.joinCause_but, ↓State.latchEntry_but, ↓State.publishEntry_but, ↓State.setLatch_but, ↓State.ite_but]; done))

@[simp] theorem State.joinAll_but (s : State) (p cause line : Nat) (l : List Fld) (h_drives : Fld.drives ∈ l) (h_events : Fld.events ∈ l) (h_groups : Fld.groups ∈ l) (h_latches : Fld.latches ∈ l) (h_parts : Fld.parts ∈ l) (h_regs : Fld.regs ∈ l) : (State.joinAll s p cause line).but l = s.but l := by
  unfold State.joinAll
  first
  | (simp [h_drives, h_events, h_groups, h_latches, h_parts, h_regs, ↓State.joinCause_but, ↓State.latchEntry_but, ↓State.publishEntry_but, ↓State.setLatch_but, ↓State.each_but, ↓State.ite_but]; done)
  | ((try dsimp only); (repeat' split) <;> first
    | with_reducible rfl
    | (simp [h_drives, h_events, h_groups, h_latches, h_parts, h_regs, ↓State.joinCause_but, ↓State.latchEntry_but, ↓State.publishEntry_but, ↓State.setLatch_but, ↓State.each_but, ↓State.ite_but]; done)
    | (refine (State.each_but _ _ _ _ (fun s x _ => ?_)).trans ?_ <;> (try dsimp only) <;> (repeat' split) <;> first
      | with_reducible rfl
      | (simp [h_drives, h_events, h_groups, h_latches, h_parts, h_regs, ↓State.joinCause_but, ↓State.latchEntry_but, ↓State.publishEntry_but, ↓State.setLatch_but, ↓State.each_but, ↓State.ite_but]; done)))

@[simp] theorem State.causeAt_but (s : State) (p cause line : Nat) (l : List Fld) (h_actions : Fld.actions ∈ l) (h_caps : Fld.caps ∈ l) (h_chans : Fld.chans ∈ l) (h_clusters : Fld.clusters ∈ l) (h_drives : Fld.drives ∈ l) (h_ens : Fld.ens ∈ l) (h_entries : Fld.entries ∈ l) (h_events : Fld.events ∈ l) (h_groups : Fld.groups ∈ l) (h_latches : Fld.latches ∈ l) (h_parts : Fld.parts ∈ l) (h_ports : Fld.ports ∈ l) (h_regs : Fld.regs ∈ l) (h_safeN : Fld.safeN ∈ l) (h_trims : Fld.trims ∈ l) (h_waitMaint : Fld.waitMaint ∈ l) : (State.causeAt s p cause line).but l = s.but l := by
  unfold State.causeAt
  first
  | (simp [h_actions, h_caps, h_chans, h_clusters, h_drives, h_ens, h_entries, h_events, h_groups, h_latches, h_parts, h_ports, h_regs, h_safeN, h_trims, h_waitMaint, ↓State.countLater_but, ↓State.joinAll_but, ↓State.setPart_but, ↓State.setReg_but, ↓State.shutOff_but, ↓State.ite_but]; done)
  | ((try dsimp only); (repeat' split) <;> first
    | with_reducible rfl
    | (simp [h_actions, h_caps, h_chans, h_clusters, h_drives, h_ens, h_entries, h_events, h_groups, h_latches, h_parts, h_ports, h_regs, h_safeN, h_trims, h_waitMaint, ↓State.countLater_but, ↓State.joinAll_but, ↓State.setPart_but, ↓State.setReg_but, ↓State.shutOff_but, ↓State.ite_but]; done))

@[simp] theorem State.toTripped_but (s : State) (c tick : Nat) (l : List Fld) (h_caps : Fld.caps ∈ l) (h_chans : Fld.chans ∈ l) (h_entries : Fld.entries ∈ l) (h_events : Fld.events ∈ l) (h_regs : Fld.regs ∈ l) (h_trims : Fld.trims ∈ l) : (State.toTripped s c tick).but l = s.but l := by
  unfold State.toTripped
  first
  | (simp [h_caps, h_chans, h_entries, h_events, h_regs, h_trims, ↓State.markCut_but, ↓State.setChan_but, ↓State.setReg_but, ↓State.toState_but, ↓State.warnEnd_but, ↓State.each_but, ↓State.ite_but]; done)
  | ((try dsimp only); (repeat' split) <;> first
    | with_reducible rfl
    | (simp [h_caps, h_chans, h_entries, h_events, h_regs, h_trims, ↓State.markCut_but, ↓State.setChan_but, ↓State.setReg_but, ↓State.toState_but, ↓State.warnEnd_but, ↓State.each_but, ↓State.ite_but]; done)
    | (refine (State.each_but _ _ _ _ (fun s x _ => ?_)).trans ?_ <;> (try dsimp only) <;> (repeat' split) <;> first
      | with_reducible rfl
      | (simp [h_caps, h_chans, h_entries, h_events, h_regs, h_trims, ↓State.markCut_but, ↓State.setChan_but, ↓State.setReg_but, ↓State.toState_but, ↓State.warnEnd_but, ↓State.each_but, ↓State.ite_but]; done)))

@[simp] theorem State.trip_but (s : State) (c : Nat) (side : Side) (l : List Fld) (h_actions : Fld.actions ∈ l) (h_caps : Fld.caps ∈ l) (h_chans : Fld.chans ∈ l) (h_clusters : Fld.clusters ∈ l) (h_drives : Fld.drives ∈ l) (h_ens : Fld.ens ∈ l) (h_entries : Fld.entries ∈ l) (h_events : Fld.events ∈ l) (h_groups : Fld.groups ∈ l) (h_latches : Fld.latches ∈ l) (h_parts : Fld.parts ∈ l) (h_ports : Fld.ports ∈ l) (h_regs : Fld.regs ∈ l) (h_safeN : Fld.safeN ∈ l) (h_trims : Fld.trims ∈ l) (h_waitMaint : Fld.waitMaint ∈ l) : (State.trip s c side).but l = s.but l := by
  unfold State.trip
  first
  | (simp [h_actions, h_caps, h_chans, h_clusters, h_drives, h_ens, h_entries, h_events, h_groups, h_latches, h_parts, h_ports, h_regs, h_safeN, h_trims, h_waitMaint, ↓State.causeIn_but, ↓State.shutOff_but, ↓State.toTripped_but, ↓State.ite_but]; done)
  | ((try dsimp only); (repeat' split) <;> first
    | with_reducible rfl
    | (simp [h_actions, h_caps, h_chans, h_clusters, h_drives, h_ens, h_entries, h_events, h_groups, h_latches, h_parts, h_ports, h_regs, h_safeN, h_trims, h_waitMaint, ↓State.causeIn_but, ↓State.shutOff_but, ↓State.toTripped_but, ↓State.ite_but]; done))

@[simp] theorem State.gateTrip_but (s : State) (c : Nat) (l : List Fld) (h_actions : Fld.actions ∈ l) (h_caps : Fld.caps ∈ l) (h_chans : Fld.chans ∈ l) (h_clusters : Fld.clusters ∈ l) (h_drives : Fld.drives ∈ l) (h_ens : Fld.ens ∈ l) (h_entries : Fld.entries ∈ l) (h_events : Fld.events ∈ l) (h_groups : Fld.groups ∈ l) (h_latches : Fld.latches ∈ l) (h_parts : Fld.parts ∈ l) (h_ports : Fld.ports ∈ l) (h_regs : Fld.regs ∈ l) (h_safeN : Fld.safeN ∈ l) (h_trims : Fld.trims ∈ l) (h_waitMaint : Fld.waitMaint ∈ l) : (State.gateTrip s c).but l = s.but l := by
  unfold State.gateTrip
  simp [h_actions, h_caps, h_chans, h_clusters, h_drives, h_ens, h_entries, h_events, h_groups, h_latches, h_parts, h_ports, h_regs, h_safeN, h_trims, h_waitMaint, ↓State.trip_but, ↓State.each_but, ↓State.ite_but]

@[simp] theorem State.recover_but (s : State) (c at_ : Nat) (l : List Fld) (h_caps : Fld.caps ∈ l) (h_chans : Fld.chans ∈ l) (h_entries : Fld.entries ∈ l) (h_events : Fld.events ∈ l) (h_regs : Fld.regs ∈ l) (h_trims : Fld.trims ∈ l) : (State.recover s c at_).but l = s.but l := by
  unfold State.recover
  first
  | (simp [h_caps, h_chans, h_entries, h_events, h_regs, h_trims, ↓State.bump16_but, ↓State.raise_but, ↓State.setChan_but, ↓State.toState_but, ↓State.ite_but]; done)
  | ((try dsimp only); (repeat' split) <;> first
    | with_reducible rfl
    | (simp [h_caps, h_chans, h_entries, h_events, h_regs, h_trims, ↓State.bump16_but, ↓State.raise_but, ↓State.setChan_but, ↓State.toState_but, ↓State.ite_but]; done))

@[simp] theorem State.settleBy_but (s : State) (c t : Nat) (l : List Fld) (h_actions : Fld.actions ∈ l) (h_caps : Fld.caps ∈ l) (h_chans : Fld.chans ∈ l) (h_clusters : Fld.clusters ∈ l) (h_drives : Fld.drives ∈ l) (h_ens : Fld.ens ∈ l) (h_entries : Fld.entries ∈ l) (h_events : Fld.events ∈ l) (h_groups : Fld.groups ∈ l) (h_latches : Fld.latches ∈ l) (h_parts : Fld.parts ∈ l) (h_ports : Fld.ports ∈ l) (h_regs : Fld.regs ∈ l) (h_safeN : Fld.safeN ∈ l) (h_trims : Fld.trims ∈ l) (h_waitMaint : Fld.waitMaint ∈ l) : (State.settleBy s c t).but l = s.but l := by
  unfold State.settleBy
  first
  | (simp [h_actions, h_caps, h_chans, h_clusters, h_drives, h_ens, h_entries, h_events, h_groups, h_latches, h_parts, h_ports, h_regs, h_safeN, h_trims, h_waitMaint, ↓State.gateTrip_but, ↓State.recover_but, ↓State.toState_but, ↓State.ite_but]; done)
  | ((try dsimp only); (repeat' split) <;> first
    | with_reducible rfl
    | (simp [h_actions, h_caps, h_chans, h_clusters, h_drives, h_ens, h_entries, h_events, h_groups, h_latches, h_parts, h_ports, h_regs, h_safeN, h_trims, h_waitMaint, ↓State.gateTrip_but, ↓State.recover_but, ↓State.toState_but, ↓State.ite_but]; done))

@[simp] theorem State.deadlineBy_but (s : State) (c t : Nat) (l : List Fld) (h_caps : Fld.caps ∈ l) (h_chans : Fld.chans ∈ l) (h_ens : Fld.ens ∈ l) (h_entries : Fld.entries ∈ l) (h_events : Fld.events ∈ l) (h_regs : Fld.regs ∈ l) (h_trims : Fld.trims ∈ l) : (State.deadlineBy s c t).but l = s.but l := by
  unfold State.deadlineBy
  first
  | (simp [h_caps, h_chans, h_ens, h_entries, h_events, h_regs, h_trims, ↓State.goAbsent_but, ↓State.ite_but]; done)
  | ((try dsimp only); (repeat' split) <;> first
    | with_reducible rfl
    | (simp [h_caps, h_chans, h_ens, h_entries, h_events, h_regs, h_trims, ↓State.goAbsent_but, ↓State.ite_but]; done)
    | (rename_i heq; have hk := congrArg (fun x => x.1.but l) heq; simp [h_caps, h_chans, h_ens, h_entries, h_events, h_regs, h_trims, ↓State.goAbsent_but, ↓State.ite_but] at hk; simp [hk, h_caps, h_chans, h_ens, h_entries, h_events, h_regs, h_trims, ↓State.goAbsent_but, ↓State.ite_but]; done))

@[simp] theorem State.timersBy_but (s : State) (c : Nat) (l : List Fld) (h_actions : Fld.actions ∈ l) (h_caps : Fld.caps ∈ l) (h_chans : Fld.chans ∈ l) (h_clusters : Fld.clusters ∈ l) (h_drives : Fld.drives ∈ l) (h_ens : Fld.ens ∈ l) (h_entries : Fld.entries ∈ l) (h_events : Fld.events ∈ l) (h_groups : Fld.groups ∈ l) (h_latches : Fld.latches ∈ l) (h_parts : Fld.parts ∈ l) (h_ports : Fld.ports ∈ l) (h_regs : Fld.regs ∈ l) (h_safeN : Fld.safeN ∈ l) (h_trims : Fld.trims ∈ l) (h_waitMaint : Fld.waitMaint ∈ l) : (State.timersBy s c).but l = s.but l := by
  unfold State.timersBy
  first
  | (simp [h_actions, h_caps, h_chans, h_clusters, h_drives, h_ens, h_entries, h_events, h_groups, h_latches, h_parts, h_ports, h_regs, h_safeN, h_trims, h_waitMaint, ↓State.deadlineBy_but, ↓State.settleBy_but, ↓State.ite_but]; done)
  | ((try dsimp only); (repeat' split) <;> first
    | with_reducible rfl
    | (simp [h_actions, h_caps, h_chans, h_clusters, h_drives, h_ens, h_entries, h_events, h_groups, h_latches, h_parts, h_ports, h_regs, h_safeN, h_trims, h_waitMaint, ↓State.deadlineBy_but, ↓State.settleBy_but, ↓State.ite_but]; done))

@[simp] theorem State.markTick_but (s : State) (c : Nat) (l : List Fld) (h_chans : Fld.chans ∈ l) : (State.markTick s c).but l = s.but l := by
  unfold State.markTick
  first
  | (simp [h_chans, ↓State.setChan_but, ↓State.ite_but]; done)
  | ((try dsimp only); (repeat' split) <;> first
    | with_reducible rfl
    | (simp [h_chans, ↓State.setChan_but, ↓State.ite_but]; done))

@[simp] theorem State.unseeCap_but (s : State) (hits : Nat → Nat → Nat → Bool) (stamp : Nat) (l : List Fld) (h_caps : Fld.caps ∈ l) : (State.unseeCap s hits stamp).but l = s.but l := by
  unfold State.unseeCap
  first
  | (simp [h_caps, ↓State.setCap_but, ↓State.each_but, ↓State.ite_but]; done)
  | ((try dsimp only); (repeat' split) <;> first
    | with_reducible rfl
    | (simp [h_caps, ↓State.setCap_but, ↓State.each_but, ↓State.ite_but]; done)
    | (refine (State.each_but _ _ _ _ (fun s x _ => ?_)).trans ?_ <;> (try dsimp only) <;> (repeat' split) <;> first
      | with_reducible rfl
      | (simp [h_caps, ↓State.setCap_but, ↓State.each_but, ↓State.ite_but]; done)))

@[simp] theorem State.unmark_but (s : State) (c : Nat) (l : List Fld) (h_caps : Fld.caps ∈ l) (h_chans : Fld.chans ∈ l) (h_regs : Fld.regs ∈ l) : (State.unmark s c).but l = s.but l := by
  unfold State.unmark
  first
  | (simp [h_caps, h_chans, h_regs, ↓State.setChan_but, ↓State.setReg_but, ↓State.unseeCap_but, ↓State.ite_but]; done)
  | ((try dsimp only); (repeat' split) <;> first
    | with_reducible rfl
    | (simp [h_caps, h_chans, h_regs, ↓State.setChan_but, ↓State.setReg_but, ↓State.unseeCap_but, ↓State.ite_but]; done)
    | (rename_i heq; have hk := congrArg (fun x => x.1.but l) heq; simp [h_caps, h_chans, h_regs, ↓State.setChan_but, ↓State.setReg_but, ↓State.unseeCap_but, ↓State.ite_but] at hk; simp [h_caps, h_chans, h_regs, ↓State.setChan_but, ↓State.setReg_but, ↓State.unseeCap_but, ↓State.ite_but, hk]; done))

@[simp] theorem State.leaves_but (s : State) (c : Nat) (l : List Fld) (h_actions : Fld.actions ∈ l) (h_caps : Fld.caps ∈ l) (h_chans : Fld.chans ∈ l) (h_clusters : Fld.clusters ∈ l) (h_drives : Fld.drives ∈ l) (h_ens : Fld.ens ∈ l) (h_entries : Fld.entries ∈ l) (h_events : Fld.events ∈ l) (h_groups : Fld.groups ∈ l) (h_latches : Fld.latches ∈ l) (h_parts : Fld.parts ∈ l) (h_ports : Fld.ports ∈ l) (h_regs : Fld.regs ∈ l) (h_safeN : Fld.safeN ∈ l) (h_trims : Fld.trims ∈ l) (h_waitMaint : Fld.waitMaint ∈ l) : (State.leaves s c).but l = s.but l := by
  unfold State.leaves
  first
  | (simp [h_actions, h_caps, h_chans, h_clusters, h_drives, h_ens, h_entries, h_events, h_groups, h_latches, h_parts, h_ports, h_regs, h_safeN, h_trims, h_waitMaint, ↓State.markCuts_but, ↓State.setChan_but, ↓State.timersBy_but, ↓State.unmark_but, ↓State.warnEnd_but, ↓State.ite_but]; done)
  | ((try dsimp only); (repeat' split) <;> first
    | with_reducible rfl
    | (simp [h_actions, h_caps, h_chans, h_clusters, h_drives, h_ens, h_entries, h_events, h_groups, h_latches, h_parts, h_ports, h_regs, h_safeN, h_trims, h_waitMaint, ↓State.markCuts_but, ↓State.setChan_but, ↓State.timersBy_but, ↓State.unmark_but, ↓State.warnEnd_but, ↓State.ite_but]; done))

@[simp] theorem State.chanOff_but (s : State) (c : Nat) (l : List Fld) (h_actions : Fld.actions ∈ l) (h_caps : Fld.caps ∈ l) (h_chans : Fld.chans ∈ l) (h_clusters : Fld.clusters ∈ l) (h_drives : Fld.drives ∈ l) (h_ens : Fld.ens ∈ l) (h_entries : Fld.entries ∈ l) (h_events : Fld.events ∈ l) (h_groups : Fld.groups ∈ l) (h_latches : Fld.latches ∈ l) (h_parts : Fld.parts ∈ l) (h_ports : Fld.ports ∈ l) (h_regs : Fld.regs ∈ l) (h_safeN : Fld.safeN ∈ l) (h_trims : Fld.trims ∈ l) (h_waitMaint : Fld.waitMaint ∈ l) : (State.chanOff s c).but l = s.but l := by
  unfold State.chanOff
  first
  | (simp [h_actions, h_caps, h_chans, h_clusters, h_drives, h_ens, h_entries, h_events, h_groups, h_latches, h_parts, h_ports, h_regs, h_safeN, h_trims, h_waitMaint, ↓State.leaves_but, ↓State.toState_but, ↓State.ite_but]; done)
  | ((try dsimp only); (repeat' split) <;> first
    | with_reducible rfl
    | (simp [h_actions, h_caps, h_chans, h_clusters, h_drives, h_ens, h_entries, h_events, h_groups, h_latches, h_parts, h_ports, h_regs, h_safeN, h_trims, h_waitMaint, ↓State.leaves_but, ↓State.toState_but, ↓State.ite_but]; done))

@[simp] theorem State.parkChan_but (s : State) (c : Nat) (l : List Fld) (h_actions : Fld.actions ∈ l) (h_caps : Fld.caps ∈ l) (h_chans : Fld.chans ∈ l) (h_clusters : Fld.clusters ∈ l) (h_drives : Fld.drives ∈ l) (h_ens : Fld.ens ∈ l) (h_entries : Fld.entries ∈ l) (h_events : Fld.events ∈ l) (h_groups : Fld.groups ∈ l) (h_latches : Fld.latches ∈ l) (h_parts : Fld.parts ∈ l) (h_ports : Fld.ports ∈ l) (h_regs : Fld.regs ∈ l) (h_safeN : Fld.safeN ∈ l) (h_trims : Fld.trims ∈ l) (h_waitMaint : Fld.waitMaint ∈ l) : (State.parkChan s c).but l = s.but l := by
  unfold State.parkChan
  first
  | (simp [h_actions, h_caps, h_chans, h_clusters, h_drives, h_ens, h_entries, h_events, h_groups, h_latches, h_parts, h_ports, h_regs, h_safeN, h_trims, h_waitMaint, ↓State.leaves_but, ↓State.toState_but, ↓State.ite_but]; done)
  | ((try dsimp only); (repeat' split) <;> first
    | with_reducible rfl
    | (simp [h_actions, h_caps, h_chans, h_clusters, h_drives, h_ens, h_entries, h_events, h_groups, h_latches, h_parts, h_ports, h_regs, h_safeN, h_trims, h_waitMaint, ↓State.leaves_but, ↓State.toState_but, ↓State.ite_but]; done))

@[simp] theorem State.deassertEn_but (s : State) (e : Nat) (l : List Fld) (h_actions : Fld.actions ∈ l) (h_caps : Fld.caps ∈ l) (h_chans : Fld.chans ∈ l) (h_clusters : Fld.clusters ∈ l) (h_drives : Fld.drives ∈ l) (h_ens : Fld.ens ∈ l) (h_entries : Fld.entries ∈ l) (h_events : Fld.events ∈ l) (h_groups : Fld.groups ∈ l) (h_latches : Fld.latches ∈ l) (h_parts : Fld.parts ∈ l) (h_ports : Fld.ports ∈ l) (h_regs : Fld.regs ∈ l) (h_safeN : Fld.safeN ∈ l) (h_trims : Fld.trims ∈ l) (h_waitMaint : Fld.waitMaint ∈ l) : (State.deassertEn s e).but l = s.but l := by
  unfold State.deassertEn
  simp [h_actions, h_caps, h_chans, h_clusters, h_drives, h_ens, h_entries, h_events, h_groups, h_latches, h_parts, h_ports, h_regs, h_safeN, h_trims, h_waitMaint, ↓State.chanOff_but, ↓State.latchEn_but, ↓State.each_but, ↓State.ite_but]

@[simp] theorem State.release_but (s : State) (p : Nat) (l : List Fld) (h_caps : Fld.caps ∈ l) (h_chans : Fld.chans ∈ l) (h_entries : Fld.entries ∈ l) (h_latches : Fld.latches ∈ l) (h_log : Fld.log ∈ l) (h_parts : Fld.parts ∈ l) (h_regs : Fld.regs ∈ l) (h_trims : Fld.trims ∈ l) : (State.release s p).but l = s.but l := by
  unfold State.release
  first
  | (simp [h_caps, h_chans, h_entries, h_latches, h_log, h_parts, h_regs, h_trims, ↓State.keepMerge_but, ↓State.setLatch_but, ↓State.setPart_but, ↓State.setReg_but, ↓State.toState_but, ↓State.each_but, ↓State.ite_but]; done)
  | ((try dsimp only); (repeat' split) <;> first
    | with_reducible rfl
    | (simp [h_caps, h_chans, h_entries, h_latches, h_log, h_parts, h_regs, h_trims, ↓State.keepMerge_but, ↓State.setLatch_but, ↓State.setPart_but, ↓State.setReg_but, ↓State.toState_but, ↓State.each_but, ↓State.ite_but]; done)
    | (refine (State.each_but _ _ _ _ (fun s x _ => ?_)).trans ?_ <;> (try dsimp only) <;> (repeat' split) <;> first
      | with_reducible rfl
      | (simp [h_caps, h_chans, h_entries, h_latches, h_log, h_parts, h_regs, h_trims, ↓State.keepMerge_but, ↓State.setLatch_but, ↓State.setPart_but, ↓State.setReg_but, ↓State.toState_but, ↓State.each_but, ↓State.ite_but]; done)))

end Sys2Proof.Machine
end

