-- ==== Sys2Proof/Laws/Keep/Walk.lean ====
section
/-! SUPPORT. The frames of the operations of Machine/Walk.lean: the parts of the state that each of them can change. -/
set_option linter.all false

namespace Sys2Proof.Machine

@[simp] theorem State.drivesDown_but (s : State) (p : Nat) (l : List Fld) (h_drives : Fld.drives ∈ l) (h_events : Fld.events ∈ l) (h_regs : Fld.regs ∈ l) : (State.drivesDown s p).but l = s.but l := by
  unfold State.drivesDown
  simp [h_drives, h_events, h_regs, ↓State.driveHalt_but, ↓State.each_but, ↓State.ite_but]

@[simp] theorem State.sweepDown_but (s : State) (p : Nat) (l : List Fld) (h_actions : Fld.actions ∈ l) (h_caps : Fld.caps ∈ l) (h_chans : Fld.chans ∈ l) (h_clusters : Fld.clusters ∈ l) (h_drives : Fld.drives ∈ l) (h_ens : Fld.ens ∈ l) (h_entries : Fld.entries ∈ l) (h_events : Fld.events ∈ l) (h_groups : Fld.groups ∈ l) (h_latches : Fld.latches ∈ l) (h_parts : Fld.parts ∈ l) (h_ports : Fld.ports ∈ l) (h_regs : Fld.regs ∈ l) (h_safeN : Fld.safeN ∈ l) (h_trims : Fld.trims ∈ l) (h_waitMaint : Fld.waitMaint ∈ l) : (State.sweepDown s p).but l = s.but l := by
  unfold State.sweepDown
  first
  | (simp [h_actions, h_caps, h_chans, h_clusters, h_drives, h_ens, h_entries, h_events, h_groups, h_latches, h_parts, h_ports, h_regs, h_safeN, h_trims, h_waitMaint, ↓State.chanOff_but, ↓State.drivesDown_but, ↓State.noteLost_but, ↓State.orderEn_but, ↓State.raise_but, ↓State.setPart_but, ↓State.setTrim_but, ↓State.toPart_but, ↓State.withdraw_but, ↓State.each_but, ↓State.ite_but]; done)
  | ((try dsimp only); (repeat' split) <;> first
    | with_reducible rfl
    | (simp [h_actions, h_caps, h_chans, h_clusters, h_drives, h_ens, h_entries, h_events, h_groups, h_latches, h_parts, h_ports, h_regs, h_safeN, h_trims, h_waitMaint, ↓State.chanOff_but, ↓State.drivesDown_but, ↓State.noteLost_but, ↓State.orderEn_but, ↓State.raise_but, ↓State.setPart_but, ↓State.setTrim_but, ↓State.toPart_but, ↓State.withdraw_but, ↓State.each_but, ↓State.ite_but]; done)
    | (refine (State.each_but _ _ _ _ (fun s x _ => ?_)).trans ?_ <;> (try dsimp only) <;> (repeat' split) <;> first
      | with_reducible rfl
      | (simp [h_actions, h_caps, h_chans, h_clusters, h_drives, h_ens, h_entries, h_events, h_groups, h_latches, h_parts, h_ports, h_regs, h_safeN, h_trims, h_waitMaint, ↓State.chanOff_but, ↓State.drivesDown_but, ↓State.noteLost_but, ↓State.orderEn_but, ↓State.raise_but, ↓State.setPart_but, ↓State.setTrim_but, ↓State.toPart_but, ↓State.withdraw_but, ↓State.each_but, ↓State.ite_but]; done)))

@[simp] theorem State.finalSweep_but (s : State) (p : Nat) (l : List Fld) (h_actions : Fld.actions ∈ l) (h_caps : Fld.caps ∈ l) (h_chans : Fld.chans ∈ l) (h_clusters : Fld.clusters ∈ l) (h_drives : Fld.drives ∈ l) (h_ens : Fld.ens ∈ l) (h_entries : Fld.entries ∈ l) (h_events : Fld.events ∈ l) (h_groups : Fld.groups ∈ l) (h_latches : Fld.latches ∈ l) (h_parts : Fld.parts ∈ l) (h_ports : Fld.ports ∈ l) (h_regs : Fld.regs ∈ l) (h_safeN : Fld.safeN ∈ l) (h_trims : Fld.trims ∈ l) (h_waitMaint : Fld.waitMaint ∈ l) : (State.finalSweep s p).but l = s.but l := by
  unfold State.finalSweep
  first
  | (simp [h_actions, h_caps, h_chans, h_clusters, h_drives, h_ens, h_entries, h_events, h_groups, h_latches, h_parts, h_ports, h_regs, h_safeN, h_trims, h_waitMaint, ↓State.sweepDown_but, ↓State.timersBy_but, ↓State.each_but, ↓State.ite_but]; done)
  | ((try dsimp only); (repeat' split) <;> first
    | with_reducible rfl
    | (simp [h_actions, h_caps, h_chans, h_clusters, h_drives, h_ens, h_entries, h_events, h_groups, h_latches, h_parts, h_ports, h_regs, h_safeN, h_trims, h_waitMaint, ↓State.sweepDown_but, ↓State.timersBy_but, ↓State.each_but, ↓State.ite_but]; done)
    | (refine (State.each_but _ _ _ _ (fun s x _ => ?_)).trans ?_ <;> (try dsimp only) <;> (repeat' split) <;> first
      | with_reducible rfl
      | (simp [h_actions, h_caps, h_chans, h_clusters, h_drives, h_ens, h_entries, h_events, h_groups, h_latches, h_parts, h_ports, h_regs, h_safeN, h_trims, h_waitMaint, ↓State.sweepDown_but, ↓State.timersBy_but, ↓State.each_but, ↓State.ite_but]; done)))

@[simp] theorem State.openStep_but (s : State) (p st : Nat) (exit : Bool) (l : List Fld) (h_parts : Fld.parts ∈ l) : (State.openStep s p st exit).1.but l = s.but l := by
  unfold State.openStep
  (try dsimp only); (repeat' split) <;> first
    | with_reducible rfl
    | (simp [h_parts, ↓State.setPart_but, ↓State.ite_but]; done)
    | (rename_i heq; have hk := congrArg (fun x => x.1.but l) heq; simp [h_parts, ↓State.setPart_but, ↓State.ite_but] at hk; simp [hk, h_parts, ↓State.setPart_but, ↓State.ite_but]; done)

@[simp] theorem State.runOnUp_but (s : State) (p : Nat) (l : List Fld) (h_drives : Fld.drives ∈ l) (h_events : Fld.events ∈ l) (h_regs : Fld.regs ∈ l) : (State.runOnUp s p).but l = s.but l := by
  unfold State.runOnUp
  simp [h_drives, h_events, h_regs, ↓State.driveSync_but, ↓State.setReg_but, ↓State.each_but, ↓State.ite_but]

@[simp] theorem State.reachUp_but (s : State) (p : Nat) (l : List Fld) (h_drives : Fld.drives ∈ l) (h_events : Fld.events ∈ l) (h_parts : Fld.parts ∈ l) (h_regs : Fld.regs ∈ l) : (State.reachUp s p).but l = s.but l := by
  unfold State.reachUp
  simp [h_drives, h_events, h_parts, h_regs, ↓State.raise_but, ↓State.runOnUp_but, ↓State.toPart_but, ↓State.ite_but]

@[simp] theorem State.turnDown_but (s : State) (p : Nat) (l : List Fld) (h_drives : Fld.drives ∈ l) (h_events : Fld.events ∈ l) (h_parts : Fld.parts ∈ l) (h_regs : Fld.regs ∈ l) : (State.turnDown s p).but l = s.but l := by
  unfold State.turnDown
  first
  | (simp [h_drives, h_events, h_parts, h_regs, ↓State.toPart_but, ↓State.ite_but]; done)
  | ((try dsimp only); (repeat' split) <;> first
    | with_reducible rfl
    | (simp [h_drives, h_events, h_parts, h_regs, ↓State.toPart_but, ↓State.ite_but]; done))

@[simp] theorem State.walk_but (k : Nat) (s : State) (p : Nat) (l : List Fld) (h_actions : Fld.actions ∈ l) (h_caps : Fld.caps ∈ l) (h_chans : Fld.chans ∈ l) (h_clusters : Fld.clusters ∈ l) (h_drives : Fld.drives ∈ l) (h_ens : Fld.ens ∈ l) (h_entries : Fld.entries ∈ l) (h_events : Fld.events ∈ l) (h_groups : Fld.groups ∈ l) (h_latches : Fld.latches ∈ l) (h_parts : Fld.parts ∈ l) (h_ports : Fld.ports ∈ l) (h_regs : Fld.regs ∈ l) (h_safeN : Fld.safeN ∈ l) (h_trims : Fld.trims ∈ l) (h_waitMaint : Fld.waitMaint ∈ l) : (State.walk k s p).but l = s.but l := by
  induction k generalizing s with
  | zero => rfl
  | succ k ih =>
    unfold State.walk
    dsimp only
    (repeat' split) <;> first
      | with_reducible rfl
      | (simp [ih, h_actions, h_caps, h_chans, h_clusters, h_drives, h_ens, h_entries, h_events, h_groups, h_latches, h_parts, h_ports, h_regs, h_safeN, h_trims, h_waitMaint]; done)
      | (rename_i heq; have hk := congrArg (fun x => x.1.but l) heq; simp [h_actions, h_caps, h_chans, h_clusters, h_drives, h_ens, h_entries, h_events, h_groups, h_latches, h_parts, h_ports, h_regs, h_safeN, h_trims, h_waitMaint] at hk; simp [ih, hk, h_actions, h_caps, h_chans, h_clusters, h_drives, h_ens, h_entries, h_events, h_groups, h_latches, h_parts, h_ports, h_regs, h_safeN, h_trims, h_waitMaint]; done)

@[simp] theorem State.goOn_but (s : State) (p : Nat) (l : List Fld) (h_actions : Fld.actions ∈ l) (h_caps : Fld.caps ∈ l) (h_chans : Fld.chans ∈ l) (h_clusters : Fld.clusters ∈ l) (h_drives : Fld.drives ∈ l) (h_ens : Fld.ens ∈ l) (h_entries : Fld.entries ∈ l) (h_events : Fld.events ∈ l) (h_groups : Fld.groups ∈ l) (h_latches : Fld.latches ∈ l) (h_parts : Fld.parts ∈ l) (h_ports : Fld.ports ∈ l) (h_regs : Fld.regs ∈ l) (h_safeN : Fld.safeN ∈ l) (h_trims : Fld.trims ∈ l) (h_waitMaint : Fld.waitMaint ∈ l) : (State.goOn s p).but l = s.but l := by
  unfold State.goOn
  simp [h_actions, h_caps, h_chans, h_clusters, h_drives, h_ens, h_entries, h_events, h_groups, h_latches, h_parts, h_ports, h_regs, h_safeN, h_trims, h_waitMaint, ↓State.walk_but, ↓State.ite_but]

@[simp] theorem State.stepDone_but (s : State) (p : Nat) (l : List Fld) (h_actions : Fld.actions ∈ l) (h_caps : Fld.caps ∈ l) (h_chans : Fld.chans ∈ l) (h_clusters : Fld.clusters ∈ l) (h_drives : Fld.drives ∈ l) (h_ens : Fld.ens ∈ l) (h_entries : Fld.entries ∈ l) (h_events : Fld.events ∈ l) (h_groups : Fld.groups ∈ l) (h_latches : Fld.latches ∈ l) (h_parts : Fld.parts ∈ l) (h_ports : Fld.ports ∈ l) (h_regs : Fld.regs ∈ l) (h_safeN : Fld.safeN ∈ l) (h_trims : Fld.trims ∈ l) (h_waitMaint : Fld.waitMaint ∈ l) : (State.stepDone s p).but l = s.but l := by
  unfold State.stepDone
  (try dsimp only); (repeat' split) <;> first
    | with_reducible rfl
    | (simp [h_actions, h_caps, h_chans, h_clusters, h_drives, h_ens, h_entries, h_events, h_groups, h_latches, h_parts, h_ports, h_regs, h_safeN, h_trims, h_waitMaint, ↓State.goOn_but, ↓State.setPart_but, ↓State.setReg_but, ↓State.ite_but]; done)
    | (rename_i heq; have hk := congrArg (fun x => x.1.but l) heq; simp [h_actions, h_caps, h_chans, h_clusters, h_drives, h_ens, h_entries, h_events, h_groups, h_latches, h_parts, h_ports, h_regs, h_safeN, h_trims, h_waitMaint, ↓State.goOn_but, ↓State.setPart_but, ↓State.setReg_but, ↓State.ite_but] at hk; simp [hk, h_actions, h_caps, h_chans, h_clusters, h_drives, h_ens, h_entries, h_events, h_groups, h_latches, h_parts, h_ports, h_regs, h_safeN, h_trims, h_waitMaint, ↓State.goOn_but, ↓State.setPart_but, ↓State.setReg_but, ↓State.ite_but]; done)

@[simp] theorem State.orderAdvance_but (s : State) (p e : Nat) (l : List Fld) (h_actions : Fld.actions ∈ l) (h_caps : Fld.caps ∈ l) (h_chans : Fld.chans ∈ l) (h_clusters : Fld.clusters ∈ l) (h_drives : Fld.drives ∈ l) (h_ens : Fld.ens ∈ l) (h_entries : Fld.entries ∈ l) (h_events : Fld.events ∈ l) (h_groups : Fld.groups ∈ l) (h_latches : Fld.latches ∈ l) (h_parts : Fld.parts ∈ l) (h_ports : Fld.ports ∈ l) (h_regs : Fld.regs ∈ l) (h_safeN : Fld.safeN ∈ l) (h_trims : Fld.trims ∈ l) (h_waitMaint : Fld.waitMaint ∈ l) : (State.orderAdvance s p e).but l = s.but l := by
  unfold State.orderAdvance
  (try dsimp only); (repeat' split) <;> first
    | with_reducible rfl
    | (simp [h_actions, h_caps, h_chans, h_clusters, h_drives, h_ens, h_entries, h_events, h_groups, h_latches, h_parts, h_ports, h_regs, h_safeN, h_trims, h_waitMaint, ↓State.setPart_but, ↓State.stepDone_but, ↓State.ite_but]; done)
    | (rename_i heq; have hk := congrArg (fun x => x.1.but l) heq; simp [h_actions, h_caps, h_chans, h_clusters, h_drives, h_ens, h_entries, h_events, h_groups, h_latches, h_parts, h_ports, h_regs, h_safeN, h_trims, h_waitMaint, ↓State.setPart_but, ↓State.stepDone_but, ↓State.ite_but] at hk; simp [hk, h_actions, h_caps, h_chans, h_clusters, h_drives, h_ens, h_entries, h_events, h_groups, h_latches, h_parts, h_ports, h_regs, h_safeN, h_trims, h_waitMaint, ↓State.setPart_but, ↓State.stepDone_but, ↓State.ite_but]; done)

@[simp] theorem State.join_but (s : State) (p : Nat) (l : List Fld) (h_actions : Fld.actions ∈ l) (h_caps : Fld.caps ∈ l) (h_chans : Fld.chans ∈ l) (h_clusters : Fld.clusters ∈ l) (h_drives : Fld.drives ∈ l) (h_ens : Fld.ens ∈ l) (h_entries : Fld.entries ∈ l) (h_events : Fld.events ∈ l) (h_groups : Fld.groups ∈ l) (h_latches : Fld.latches ∈ l) (h_parts : Fld.parts ∈ l) (h_ports : Fld.ports ∈ l) (h_regs : Fld.regs ∈ l) (h_safeN : Fld.safeN ∈ l) (h_trims : Fld.trims ∈ l) (h_waitMaint : Fld.waitMaint ∈ l) : (State.join s p).but l = s.but l := by
  unfold State.join
  simp [h_actions, h_caps, h_chans, h_clusters, h_drives, h_ens, h_entries, h_events, h_groups, h_latches, h_parts, h_ports, h_regs, h_safeN, h_trims, h_waitMaint, ↓State.goOn_but, ↓State.setPart_but, ↓State.toPart_but, ↓State.ite_but]

@[simp] theorem State.startOrWait_but (s : State) (p : Nat) (l : List Fld) (h_actions : Fld.actions ∈ l) (h_caps : Fld.caps ∈ l) (h_chans : Fld.chans ∈ l) (h_clusters : Fld.clusters ∈ l) (h_drives : Fld.drives ∈ l) (h_ens : Fld.ens ∈ l) (h_entries : Fld.entries ∈ l) (h_events : Fld.events ∈ l) (h_groups : Fld.groups ∈ l) (h_latches : Fld.latches ∈ l) (h_parts : Fld.parts ∈ l) (h_ports : Fld.ports ∈ l) (h_regs : Fld.regs ∈ l) (h_safeN : Fld.safeN ∈ l) (h_trims : Fld.trims ∈ l) (h_waitMaint : Fld.waitMaint ∈ l) : (State.startOrWait s p).but l = s.but l := by
  unfold State.startOrWait
  simp [h_actions, h_caps, h_chans, h_clusters, h_drives, h_ens, h_entries, h_events, h_groups, h_latches, h_parts, h_ports, h_regs, h_safeN, h_trims, h_waitMaint, ↓State.join_but, ↓State.raise_but, ↓State.setPart_but, ↓State.ite_but]

@[simp] theorem State.restartPart_but (s : State) (p : Nat) (l : List Fld) (h_actions : Fld.actions ∈ l) (h_caps : Fld.caps ∈ l) (h_chans : Fld.chans ∈ l) (h_clusters : Fld.clusters ∈ l) (h_drives : Fld.drives ∈ l) (h_ens : Fld.ens ∈ l) (h_entries : Fld.entries ∈ l) (h_events : Fld.events ∈ l) (h_groups : Fld.groups ∈ l) (h_latches : Fld.latches ∈ l) (h_log : Fld.log ∈ l) (h_parts : Fld.parts ∈ l) (h_ports : Fld.ports ∈ l) (h_regs : Fld.regs ∈ l) (h_safeN : Fld.safeN ∈ l) (h_trims : Fld.trims ∈ l) (h_waitMaint : Fld.waitMaint ∈ l) : (State.restartPart s p).but l = s.but l := by
  unfold State.restartPart
  first
  | (simp [h_actions, h_caps, h_chans, h_clusters, h_drives, h_ens, h_entries, h_events, h_groups, h_latches, h_log, h_parts, h_ports, h_regs, h_safeN, h_trims, h_waitMaint, ↓State.goOn_but, ↓State.release_but, ↓State.setPart_but, ↓State.toPart_but, ↓State.ite_but]; done)
  | ((try dsimp only); (repeat' split) <;> first
    | with_reducible rfl
    | (simp [h_actions, h_caps, h_chans, h_clusters, h_drives, h_ens, h_entries, h_events, h_groups, h_latches, h_log, h_parts, h_ports, h_regs, h_safeN, h_trims, h_waitMaint, ↓State.goOn_but, ↓State.release_but, ↓State.setPart_but, ↓State.toPart_but, ↓State.ite_but]; done))

@[simp] theorem State.descend_but (s : State) (p low : Nat) (l : List Fld) (h_actions : Fld.actions ∈ l) (h_caps : Fld.caps ∈ l) (h_chans : Fld.chans ∈ l) (h_clusters : Fld.clusters ∈ l) (h_drives : Fld.drives ∈ l) (h_ens : Fld.ens ∈ l) (h_entries : Fld.entries ∈ l) (h_events : Fld.events ∈ l) (h_groups : Fld.groups ∈ l) (h_latches : Fld.latches ∈ l) (h_parts : Fld.parts ∈ l) (h_ports : Fld.ports ∈ l) (h_regs : Fld.regs ∈ l) (h_safeN : Fld.safeN ∈ l) (h_trims : Fld.trims ∈ l) (h_waitMaint : Fld.waitMaint ∈ l) : (State.descend s p low).but l = s.but l := by
  unfold State.descend
  simp [h_actions, h_caps, h_chans, h_clusters, h_drives, h_ens, h_entries, h_events, h_groups, h_latches, h_parts, h_ports, h_regs, h_safeN, h_trims, h_waitMaint, ↓State.goOn_but, ↓State.setPart_but, ↓State.withdraw_but, ↓State.ite_but]

@[simp] theorem State.stopPart_but (s : State) (p : Nat) (l : List Fld) (h_actions : Fld.actions ∈ l) (h_caps : Fld.caps ∈ l) (h_chans : Fld.chans ∈ l) (h_clusters : Fld.clusters ∈ l) (h_drives : Fld.drives ∈ l) (h_ens : Fld.ens ∈ l) (h_entries : Fld.entries ∈ l) (h_events : Fld.events ∈ l) (h_groups : Fld.groups ∈ l) (h_latches : Fld.latches ∈ l) (h_parts : Fld.parts ∈ l) (h_ports : Fld.ports ∈ l) (h_regs : Fld.regs ∈ l) (h_safeN : Fld.safeN ∈ l) (h_trims : Fld.trims ∈ l) (h_waitMaint : Fld.waitMaint ∈ l) : (State.stopPart s p).but l = s.but l := by
  unfold State.stopPart
  (try dsimp only); (repeat' split) <;> first
    | with_reducible rfl
    | (simp [h_actions, h_caps, h_chans, h_clusters, h_drives, h_ens, h_entries, h_events, h_groups, h_latches, h_parts, h_ports, h_regs, h_safeN, h_trims, h_waitMaint, ↓State.benchAbort_but, ↓State.descend_but, ↓State.setPart_but, ↓State.toPart_but, ↓State.ite_but]; done)
    | (rename_i heq; have hk := congrArg (fun x => x.1.but l) heq; simp [h_actions, h_caps, h_chans, h_clusters, h_drives, h_ens, h_entries, h_events, h_groups, h_latches, h_parts, h_ports, h_regs, h_safeN, h_trims, h_waitMaint, ↓State.benchAbort_but, ↓State.descend_but, ↓State.setPart_but, ↓State.toPart_but, ↓State.ite_but] at hk; simp [hk, h_actions, h_caps, h_chans, h_clusters, h_drives, h_ens, h_entries, h_events, h_groups, h_latches, h_parts, h_ports, h_regs, h_safeN, h_trims, h_waitMaint, ↓State.benchAbort_but, ↓State.descend_but, ↓State.setPart_but, ↓State.toPart_but, ↓State.ite_but]; done)

@[simp] theorem State.memberWaits_but (s : State) (p : Nat) (l : List Fld) (h_events : Fld.events ∈ l) (h_parts : Fld.parts ∈ l) (h_regs : Fld.regs ∈ l) : (State.memberWaits s p).but l = s.but l := by
  unfold State.memberWaits
  first
  | (simp [h_events, h_parts, h_regs, ↓State.raise_but, ↓State.setPart_but, ↓State.ite_but]; done)
  | ((try dsimp only); (repeat' split) <;> first
    | with_reducible rfl
    | (simp [h_events, h_parts, h_regs, ↓State.raise_but, ↓State.setPart_but, ↓State.ite_but]; done))

@[simp] theorem State.goalWrite_but (s : State) (n v : Nat) (l : List Fld) (h_actions : Fld.actions ∈ l) (h_caps : Fld.caps ∈ l) (h_chans : Fld.chans ∈ l) (h_clusters : Fld.clusters ∈ l) (h_drives : Fld.drives ∈ l) (h_ens : Fld.ens ∈ l) (h_entries : Fld.entries ∈ l) (h_events : Fld.events ∈ l) (h_groups : Fld.groups ∈ l) (h_latches : Fld.latches ∈ l) (h_parts : Fld.parts ∈ l) (h_ports : Fld.ports ∈ l) (h_regs : Fld.regs ∈ l) (h_safeN : Fld.safeN ∈ l) (h_trims : Fld.trims ∈ l) (h_waitMaint : Fld.waitMaint ∈ l) : (State.goalWrite s n v).but l = s.but l := by
  unfold State.goalWrite
  first
  | (simp [h_actions, h_caps, h_chans, h_clusters, h_drives, h_ens, h_entries, h_events, h_groups, h_latches, h_parts, h_ports, h_regs, h_safeN, h_trims, h_waitMaint, ↓State.benchAbort_but, ↓State.goOn_but, ↓State.memberWaits_but, ↓State.setReg_but, ↓State.toPart_but, ↓State.each_but, ↓State.ite_but]; done)
  | ((try dsimp only); (repeat' split) <;> first
    | with_reducible rfl
    | (simp [h_actions, h_caps, h_chans, h_clusters, h_drives, h_ens, h_entries, h_events, h_groups, h_latches, h_parts, h_ports, h_regs, h_safeN, h_trims, h_waitMaint, ↓State.benchAbort_but, ↓State.goOn_but, ↓State.memberWaits_but, ↓State.setReg_but, ↓State.toPart_but, ↓State.each_but, ↓State.ite_but]; done)
    | (refine (State.each_but _ _ _ _ (fun s x _ => ?_)).trans ?_ <;> (try dsimp only) <;> (repeat' split) <;> first
      | with_reducible rfl
      | (simp [h_actions, h_caps, h_chans, h_clusters, h_drives, h_ens, h_entries, h_events, h_groups, h_latches, h_parts, h_ports, h_regs, h_safeN, h_trims, h_waitMaint, ↓State.benchAbort_but, ↓State.goOn_but, ↓State.memberWaits_but, ↓State.setReg_but, ↓State.toPart_but, ↓State.each_but, ↓State.ite_but]; done)))

@[simp] theorem State.advance_but (s : State) (n : Nat) (l : List Fld) (h_actions : Fld.actions ∈ l) (h_caps : Fld.caps ∈ l) (h_chans : Fld.chans ∈ l) (h_clusters : Fld.clusters ∈ l) (h_drives : Fld.drives ∈ l) (h_ens : Fld.ens ∈ l) (h_entries : Fld.entries ∈ l) (h_events : Fld.events ∈ l) (h_groups : Fld.groups ∈ l) (h_latches : Fld.latches ∈ l) (h_parts : Fld.parts ∈ l) (h_ports : Fld.ports ∈ l) (h_regs : Fld.regs ∈ l) (h_safeN : Fld.safeN ∈ l) (h_trims : Fld.trims ∈ l) (h_waitMaint : Fld.waitMaint ∈ l) : (State.advance s n).but l = s.but l := by
  unfold State.advance
  (try dsimp only); (repeat' split) <;> first
      | (simp [h_actions, h_caps, h_chans, h_clusters, h_drives, h_ens, h_entries, h_events, h_groups, h_latches, h_parts, h_ports, h_regs, h_safeN, h_trims, h_waitMaint, ↓State.finalSweep_but, ↓State.goOn_but, ↓State.openStep_but, ↓State.setPart_but, ↓State.setReg_but, ↓State.each_but, ↓State.ite_but]; done)
      | (refine (State.each_but _ _ _ _ (fun s x _ => ?_)).trans ?_ <;> (try dsimp only) <;> (repeat' split) <;> first
        | with_reducible rfl
        | (simp [h_actions, h_caps, h_chans, h_clusters, h_drives, h_ens, h_entries, h_events, h_groups, h_latches, h_parts, h_ports, h_regs, h_safeN, h_trims, h_waitMaint, ↓State.finalSweep_but, ↓State.goOn_but, ↓State.openStep_but, ↓State.setPart_but, ↓State.setReg_but, ↓State.each_but, ↓State.ite_but]; done)
        | (rename_i heq; have hk := congrArg (fun x => x.1.but l) heq; simp [h_actions, h_caps, h_chans, h_clusters, h_drives, h_ens, h_entries, h_events, h_groups, h_latches, h_parts, h_ports, h_regs, h_safeN, h_trims, h_waitMaint, ↓State.finalSweep_but, ↓State.goOn_but, ↓State.openStep_but, ↓State.setPart_but, ↓State.setReg_but, ↓State.each_but, ↓State.ite_but] at hk; simp [hk, h_actions, h_caps, h_chans, h_clusters, h_drives, h_ens, h_entries, h_events, h_groups, h_latches, h_parts, h_ports, h_regs, h_safeN, h_trims, h_waitMaint, ↓State.finalSweep_but, ↓State.goOn_but, ↓State.openStep_but, ↓State.setPart_but, ↓State.setReg_but, ↓State.each_but, ↓State.ite_but]; done))

end Sys2Proof.Machine
end

