-- ==== Sys2Proof/Laws/Keep/Trestle.lean ====
section
/-! SUPPORT. The frames of the operations of Machine/Trestle.lean: the parts of the state that each of them can change. -/
set_option linter.all false

namespace Sys2Proof.Machine

@[simp] theorem State.peerSend_but (s : State) (type : Nat) (payload : Bytes) (l : List Fld) (h_peerOut : Fld.peerOut ∈ l) (h_peerTries : Fld.peerTries ∈ l) : (State.peerSend s type payload).but l = s.but l := by
  unfold State.peerSend
  first
  | (simp [State.but, h_peerOut, h_peerTries, State.but, ↓State.but_peerOut, ↓State.but_peerTries, ↓State.ite_but]; done)
  | ((try dsimp only); (repeat' split) <;> first
    | with_reducible rfl
    | (simp [State.but, h_peerOut, h_peerTries, State.but, ↓State.but_peerOut, ↓State.but_peerTries, ↓State.ite_but]; done))

@[simp] theorem State.peerError_but (s : State) (l : List Fld) (h_regs : Fld.regs ∈ l) : (State.peerError s).but l = s.but l := by
  unfold State.peerError
  simp [h_regs, ↓State.bump16_but, ↓State.ite_but]

@[simp] theorem State.takeLead_but (s : State) (l : List Fld) (h_trestle : Fld.trestle ∈ l) : (State.takeLead s).but l = s.but l := by
  unfold State.takeLead
  first
  | (simp [h_trestle, ↓State.but_trestle, ↓State.ite_but]; done)
  | ((try dsimp only); (repeat' split) <;> first
    | with_reducible rfl
    | (simp [h_trestle, ↓State.but_trestle, ↓State.ite_but]; done))

@[simp] theorem State.followLeader_but (s : State) (f : State → State) (l : List Fld) (h_events : Fld.events ∈ l) (h_groups : Fld.groups ∈ l) (h_regs : Fld.regs ∈ l) (h_trestle : Fld.trestle ∈ l) (hf : ∀ s, (f s).but l = s.but l) : (State.followLeader s f).but l = s.but l := by
  unfold State.followLeader
  dsimp only
  split <;> simp [h_events, h_groups, h_regs, h_trestle, ↓State.bump16_but, ↓State.raise_but, ↓State.setGroup_but, ↓State.takeLead_but, ↓State.each_but, ↓State.ite_but, hf, hf]

@[simp] theorem State.releaseGroups_but (s : State) (l : List Fld) (h_actions : Fld.actions ∈ l) (h_caps : Fld.caps ∈ l) (h_chans : Fld.chans ∈ l) (h_clusters : Fld.clusters ∈ l) (h_drives : Fld.drives ∈ l) (h_ens : Fld.ens ∈ l) (h_entries : Fld.entries ∈ l) (h_events : Fld.events ∈ l) (h_groups : Fld.groups ∈ l) (h_latches : Fld.latches ∈ l) (h_parts : Fld.parts ∈ l) (h_ports : Fld.ports ∈ l) (h_regs : Fld.regs ∈ l) (h_safeN : Fld.safeN ∈ l) (h_trims : Fld.trims ∈ l) (h_waitMaint : Fld.waitMaint ∈ l) : (State.releaseGroups s).but l = s.but l := by
  unfold State.releaseGroups
  (try dsimp only); (repeat' split) <;> first
      | (simp [h_actions, h_caps, h_chans, h_clusters, h_drives, h_ens, h_entries, h_events, h_groups, h_latches, h_parts, h_ports, h_regs, h_safeN, h_trims, h_waitMaint, ↓State.setGroup_but, ↓State.startOrWait_but, ↓State.each_but, ↓State.ite_but]; done)
      | (refine (State.each_but _ _ _ _ (fun s x _ => ?_)).trans ?_ <;> (try dsimp only) <;> (repeat' split) <;> first
        | with_reducible rfl
        | (simp [h_actions, h_caps, h_chans, h_clusters, h_drives, h_ens, h_entries, h_events, h_groups, h_latches, h_parts, h_ports, h_regs, h_safeN, h_trims, h_waitMaint, ↓State.setGroup_but, ↓State.startOrWait_but, ↓State.each_but, ↓State.ite_but]; done)
        | (rename_i heq; have hk := congrArg (fun x => x.1.but l) heq; simp [h_actions, h_caps, h_chans, h_clusters, h_drives, h_ens, h_entries, h_events, h_groups, h_latches, h_parts, h_ports, h_regs, h_safeN, h_trims, h_waitMaint, ↓State.setGroup_but, ↓State.startOrWait_but, ↓State.each_but, ↓State.ite_but] at hk; simp [hk, h_actions, h_caps, h_chans, h_clusters, h_drives, h_ens, h_entries, h_events, h_groups, h_latches, h_parts, h_ports, h_regs, h_safeN, h_trims, h_waitMaint, ↓State.setGroup_but, ↓State.startOrWait_but, ↓State.each_but, ↓State.ite_but]; done))

@[simp] theorem State.liftHold_but (s : State) (l : List Fld) (h_actions : Fld.actions ∈ l) (h_caps : Fld.caps ∈ l) (h_chans : Fld.chans ∈ l) (h_clusters : Fld.clusters ∈ l) (h_drives : Fld.drives ∈ l) (h_ens : Fld.ens ∈ l) (h_entries : Fld.entries ∈ l) (h_events : Fld.events ∈ l) (h_groups : Fld.groups ∈ l) (h_latches : Fld.latches ∈ l) (h_parts : Fld.parts ∈ l) (h_ports : Fld.ports ∈ l) (h_regs : Fld.regs ∈ l) (h_safeN : Fld.safeN ∈ l) (h_trestle : Fld.trestle ∈ l) (h_trims : Fld.trims ∈ l) (h_waitMaint : Fld.waitMaint ∈ l) : (State.liftHold s).but l = s.but l := by
  unfold State.liftHold
  simp [h_actions, h_caps, h_chans, h_clusters, h_drives, h_ens, h_entries, h_events, h_groups, h_latches, h_parts, h_ports, h_regs, h_safeN, h_trestle, h_trims, h_waitMaint, ↓State.releaseGroups_but, ↓State.but_trestle, ↓State.ite_but]

@[simp] theorem State.closeMissing_but (s : State) (l : List Fld) (h_groups : Fld.groups ∈ l) : (State.closeMissing s).but l = s.but l := by
  unfold State.closeMissing
  simp [h_groups, ↓State.setGroup_but, ↓State.each_but, ↓State.ite_but]

@[simp] theorem State.closeDiscovery_but (s : State) (l : List Fld) (h_actions : Fld.actions ∈ l) (h_caps : Fld.caps ∈ l) (h_chans : Fld.chans ∈ l) (h_clusters : Fld.clusters ∈ l) (h_drives : Fld.drives ∈ l) (h_ens : Fld.ens ∈ l) (h_entries : Fld.entries ∈ l) (h_events : Fld.events ∈ l) (h_groups : Fld.groups ∈ l) (h_latches : Fld.latches ∈ l) (h_parts : Fld.parts ∈ l) (h_ports : Fld.ports ∈ l) (h_regs : Fld.regs ∈ l) (h_safeN : Fld.safeN ∈ l) (h_trestle : Fld.trestle ∈ l) (h_trims : Fld.trims ∈ l) (h_waitMaint : Fld.waitMaint ∈ l) : (State.closeDiscovery s).but l = s.but l := by
  unfold State.closeDiscovery
  simp [h_actions, h_caps, h_chans, h_clusters, h_drives, h_ens, h_entries, h_events, h_groups, h_latches, h_parts, h_ports, h_regs, h_safeN, h_trestle, h_trims, h_waitMaint, ↓State.closeMissing_but, ↓State.liftHold_but, ↓State.but_trestle, ↓State.ite_but]

@[simp] theorem State.adoptGroups_but (s : State) (l : List Fld) (h_regs : Fld.regs ∈ l) (h_trestle : Fld.trestle ∈ l) : (State.adoptGroups s).but l = s.but l := by
  unfold State.adoptGroups
  first
  | (simp [h_regs, h_trestle, ↓State.setReg_but, ↓State.but_trestle, ↓State.each_but, ↓State.ite_but]; done)
  | ((try dsimp only); (repeat' split) <;> first
    | with_reducible rfl
    | (simp [h_regs, h_trestle, ↓State.setReg_but, ↓State.but_trestle, ↓State.each_but, ↓State.ite_but]; done)
    | (refine (State.each_but _ _ _ _ (fun s x _ => ?_)).trans ?_ <;> (try dsimp only) <;> (repeat' split) <;> first
      | with_reducible rfl
      | (simp [h_regs, h_trestle, ↓State.setReg_but, ↓State.but_trestle, ↓State.each_but, ↓State.ite_but]; done))
    | (rename_i heq; have hk := congrArg (fun x => x.1.but l) heq; simp [h_regs, h_trestle, ↓State.setReg_but, ↓State.but_trestle, ↓State.each_but, ↓State.ite_but] at hk; simp [hk, h_regs, h_trestle, ↓State.setReg_but, ↓State.but_trestle, ↓State.each_but, ↓State.ite_but]; done))

@[simp] theorem State.joinClose_but (s : State) (l : List Fld) (h_actions : Fld.actions ∈ l) (h_caps : Fld.caps ∈ l) (h_chans : Fld.chans ∈ l) (h_clusters : Fld.clusters ∈ l) (h_drives : Fld.drives ∈ l) (h_ens : Fld.ens ∈ l) (h_entries : Fld.entries ∈ l) (h_events : Fld.events ∈ l) (h_groups : Fld.groups ∈ l) (h_latches : Fld.latches ∈ l) (h_parts : Fld.parts ∈ l) (h_ports : Fld.ports ∈ l) (h_regs : Fld.regs ∈ l) (h_safeN : Fld.safeN ∈ l) (h_trestle : Fld.trestle ∈ l) (h_trims : Fld.trims ∈ l) (h_waitMaint : Fld.waitMaint ∈ l) : (State.joinClose s).but l = s.but l := by
  unfold State.joinClose
  first
  | (simp [h_actions, h_caps, h_chans, h_clusters, h_drives, h_ens, h_entries, h_events, h_groups, h_latches, h_parts, h_ports, h_regs, h_safeN, h_trestle, h_trims, h_waitMaint, ↓State.adoptGroups_but, ↓State.closeDiscovery_but, ↓State.but_trestle, ↓State.ite_but]; done)
  | ((try dsimp only); (repeat' split) <;> first
    | with_reducible rfl
    | (simp [h_actions, h_caps, h_chans, h_clusters, h_drives, h_ens, h_entries, h_events, h_groups, h_latches, h_parts, h_ports, h_regs, h_safeN, h_trestle, h_trims, h_waitMaint, ↓State.adoptGroups_but, ↓State.closeDiscovery_but, ↓State.but_trestle, ↓State.ite_but]; done))

@[simp] theorem State.heardFrom_but (s : State) (d : Nat) (l : List Fld) (h_trestle : Fld.trestle ∈ l) : (State.heardFrom s d).but l = s.but l := by
  unfold State.heardFrom
  first
  | (simp [h_trestle, ↓State.but_trestle, ↓State.ite_but]; done)
  | ((try dsimp only); (repeat' split) <;> first
    | with_reducible rfl
    | (simp [h_trestle, ↓State.but_trestle, ↓State.ite_but]; done))

@[simp] theorem State.hear_but (s : State) (d : Nat) (l : List Fld) (h_events : Fld.events ∈ l) (h_regs : Fld.regs ∈ l) (h_trestle : Fld.trestle ∈ l) : (State.hear s d).but l = s.but l := by
  unfold State.hear
  simp [h_events, h_regs, h_trestle, ↓State.raise_but, ↓State.but_trestle, ↓State.ite_but]

@[simp] theorem State.duplicate_but (s : State) (l : List Fld) (h_events : Fld.events ∈ l) (h_regs : Fld.regs ∈ l) (h_trestle : Fld.trestle ∈ l) : (State.duplicate s).but l = s.but l := by
  unfold State.duplicate
  simp [h_events, h_regs, h_trestle, ↓State.raise_but, ↓State.but_trestle, ↓State.ite_but]

@[simp] theorem State.setMismatch_but (s : State) (n reason : Nat) (l : List Fld) (h_events : Fld.events ∈ l) (h_groups : Fld.groups ∈ l) (h_regs : Fld.regs ∈ l) : (State.setMismatch s n reason).but l = s.but l := by
  unfold State.setMismatch
  first
  | (simp [h_events, h_groups, h_regs, ↓State.bump16_but, ↓State.raise_but, ↓State.setGroup_but, ↓State.ite_but]; done)
  | ((try dsimp only); (repeat' split) <;> first
    | with_reducible rfl
    | (simp [h_events, h_groups, h_regs, ↓State.bump16_but, ↓State.raise_but, ↓State.setGroup_but, ↓State.ite_but]; done)
    | (rename_i heq; have hk := congrArg (fun x => x.1.but l) heq; simp [h_events, h_groups, h_regs, ↓State.bump16_but, ↓State.raise_but, ↓State.setGroup_but, ↓State.ite_but] at hk; simp [h_events, h_groups, h_regs, ↓State.bump16_but, ↓State.raise_but, ↓State.setGroup_but, ↓State.ite_but, hk]; done))

@[simp] theorem State.checkFail_but (s : State) (n reason : Nat) (l : List Fld) (h_events : Fld.events ∈ l) (h_groups : Fld.groups ∈ l) (h_regs : Fld.regs ∈ l) : (State.checkFail s n reason).but l = s.but l := by
  unfold State.checkFail
  first
  | (simp [h_events, h_groups, h_regs, ↓State.setGroup_but, ↓State.setMismatch_but, ↓State.setReg_but, ↓State.ite_but]; done)
  | ((try dsimp only); (repeat' split) <;> first
    | with_reducible rfl
    | (simp [h_events, h_groups, h_regs, ↓State.setGroup_but, ↓State.setMismatch_but, ↓State.setReg_but, ↓State.ite_but]; done)
    | (rename_i heq; have hk := congrArg (fun x => x.1.but l) heq; simp [h_events, h_groups, h_regs, ↓State.setGroup_but, ↓State.setMismatch_but, ↓State.setReg_but, ↓State.ite_but] at hk; simp [h_events, h_groups, h_regs, ↓State.setGroup_but, ↓State.setMismatch_but, ↓State.setReg_but, ↓State.ite_but, hk]; done))

@[simp] theorem State.checkPass_but (s : State) (n : Nat) (l : List Fld) (h_groups : Fld.groups ∈ l) (h_regs : Fld.regs ∈ l) : (State.checkPass s n).but l = s.but l := by
  unfold State.checkPass
  simp [h_groups, h_regs, ↓State.setGroup_but, ↓State.setReg_but, ↓State.ite_but]

@[simp] theorem State.comparePresence_but (s : State) (n d st cnt : Nat) (l : List Fld) (h_events : Fld.events ∈ l) (h_groups : Fld.groups ∈ l) (h_regs : Fld.regs ∈ l) : (State.comparePresence s n d st cnt).but l = s.but l := by
  unfold State.comparePresence
  first
  | (simp [h_events, h_groups, h_regs, ↓State.raise_but, ↓State.setGroup_but, ↓State.setMismatch_but, ↓State.ite_but]; done)
  | ((try dsimp only); (repeat' split) <;> first
    | with_reducible rfl
    | (simp [h_events, h_groups, h_regs, ↓State.raise_but, ↓State.setGroup_but, ↓State.setMismatch_but, ↓State.ite_but]; done)
    | (rename_i heq; have hk := congrArg (fun x => x.1.but l) heq; simp [h_events, h_groups, h_regs, ↓State.raise_but, ↓State.setGroup_but, ↓State.setMismatch_but, ↓State.ite_but] at hk; simp [h_events, h_groups, h_regs, ↓State.raise_but, ↓State.setGroup_but, ↓State.setMismatch_but, ↓State.ite_but, hk]; done))

@[simp] theorem State.missingFrom_but (s : State) (d : Nat) (l : List Fld) (h_groups : Fld.groups ∈ l) : (State.missingFrom s d).but l = s.but l := by
  unfold State.missingFrom
  first
  | (simp [h_groups, ↓State.setGroup_but, ↓State.each_but, ↓State.ite_but]; done)
  | ((try dsimp only); (repeat' split) <;> first
    | with_reducible rfl
    | (simp [h_groups, ↓State.setGroup_but, ↓State.each_but, ↓State.ite_but]; done)
    | (refine (State.each_but _ _ _ _ (fun s x _ => ?_)).trans ?_ <;> (try dsimp only) <;> (repeat' split) <;> first
      | with_reducible rfl
      | (simp [h_groups, ↓State.setGroup_but, ↓State.each_but, ↓State.ite_but]; done)))

theorem execDiscoveryBegin_but (s : State) (l : List Fld) (h_trestle : Fld.trestle ∈ l) :
    ∀ t, execDiscoveryBegin s = .next t → t.but l = s.but l := by
  intro t ht
  unfold execDiscoveryBegin at ht
  (try simp only [ok] at ht); (repeat' split at ht) <;> (replace ht := Host.Outcome.next.inj ht; subst ht; first
    | with_reducible rfl
    | (simp [h_trestle, ↓State.but_trestle, ↓State.ite_but]; done)
    | (rename_i heq; have hk := congrArg (fun x => x.1.but l) heq; simp [h_trestle, ↓State.but_trestle, ↓State.ite_but] at hk; simp [hk, h_trestle, ↓State.but_trestle, ↓State.ite_but]; done))

theorem execAnnounceSend_but (s : State) (l : List Fld) (h_actions : Fld.actions ∈ l) (h_caps : Fld.caps ∈ l) (h_chans : Fld.chans ∈ l) (h_clusters : Fld.clusters ∈ l) (h_drives : Fld.drives ∈ l) (h_ens : Fld.ens ∈ l) (h_entries : Fld.entries ∈ l) (h_events : Fld.events ∈ l) (h_groups : Fld.groups ∈ l) (h_latches : Fld.latches ∈ l) (h_parts : Fld.parts ∈ l) (h_peerOut : Fld.peerOut ∈ l) (h_peerTries : Fld.peerTries ∈ l) (h_ports : Fld.ports ∈ l) (h_regs : Fld.regs ∈ l) (h_safeN : Fld.safeN ∈ l) (h_trestle : Fld.trestle ∈ l) (h_trims : Fld.trims ∈ l) (h_waitMaint : Fld.waitMaint ∈ l) :
    ∀ t, execAnnounceSend s = .next t → t.but l = s.but l := by
  intro t ht
  unfold execAnnounceSend at ht
  (try simp only [ok] at ht); (repeat' split at ht) <;> (replace ht := Host.Outcome.next.inj ht; subst ht; first
    | with_reducible rfl
    | (simp [h_actions, h_caps, h_chans, h_clusters, h_drives, h_ens, h_entries, h_events, h_groups, h_latches, h_parts, h_peerOut, h_peerTries, h_ports, h_regs, h_safeN, h_trestle, h_trims, h_waitMaint, ↓State.closeDiscovery_but, ↓State.peerSend_but, ↓State.but_trestle, ↓State.ite_but]; done)
    | (rename_i heq; have hk := congrArg (fun x => x.1.but l) heq; simp [h_actions, h_caps, h_chans, h_clusters, h_drives, h_ens, h_entries, h_events, h_groups, h_latches, h_parts, h_peerOut, h_peerTries, h_ports, h_regs, h_safeN, h_trestle, h_trims, h_waitMaint, ↓State.closeDiscovery_but, ↓State.peerSend_but, ↓State.but_trestle, ↓State.ite_but] at hk; simp [hk, h_actions, h_caps, h_chans, h_clusters, h_drives, h_ens, h_entries, h_events, h_groups, h_latches, h_parts, h_peerOut, h_peerTries, h_ports, h_regs, h_safeN, h_trestle, h_trims, h_waitMaint, ↓State.closeDiscovery_but, ↓State.peerSend_but, ↓State.but_trestle, ↓State.ite_but]; done))

theorem execAnnounce_but (msg : Bytes) (s : State) (l : List Fld) (h_events : Fld.events ∈ l) (h_groups : Fld.groups ∈ l) (h_regs : Fld.regs ∈ l) (h_trestle : Fld.trestle ∈ l) :
    ∀ t, execAnnounce msg s = .next t → t.but l = s.but l := by
  intro t ht
  unfold execAnnounce at ht
  (try simp only [ok] at ht); (repeat' split at ht) <;> (replace ht := Host.Outcome.next.inj ht; subst ht; first
    | with_reducible rfl
    | (simp [h_events, h_groups, h_regs, h_trestle, ↓State.duplicate_but, ↓State.followLeader_but, ↓State.hear_but, ↓State.missingFrom_but, ↓State.peerError_but, ↓State.raise_but, ↓State.but_trestle, ↓State.ite_but]; done)
    | (rename_i heq; have hk := congrArg (fun x => x.1.but l) heq; simp [h_events, h_groups, h_regs, h_trestle, ↓State.duplicate_but, ↓State.followLeader_but, ↓State.hear_but, ↓State.missingFrom_but, ↓State.peerError_but, ↓State.raise_but, ↓State.but_trestle, ↓State.ite_but] at hk; simp [hk, h_events, h_groups, h_regs, h_trestle, ↓State.duplicate_but, ↓State.followLeader_but, ↓State.hear_but, ↓State.missingFrom_but, ↓State.peerError_but, ↓State.raise_but, ↓State.but_trestle, ↓State.ite_but]; done))

theorem execDiscoveryClose_but (s : State) (l : List Fld) (h_actions : Fld.actions ∈ l) (h_caps : Fld.caps ∈ l) (h_chans : Fld.chans ∈ l) (h_clusters : Fld.clusters ∈ l) (h_drives : Fld.drives ∈ l) (h_ens : Fld.ens ∈ l) (h_entries : Fld.entries ∈ l) (h_events : Fld.events ∈ l) (h_groups : Fld.groups ∈ l) (h_latches : Fld.latches ∈ l) (h_parts : Fld.parts ∈ l) (h_ports : Fld.ports ∈ l) (h_regs : Fld.regs ∈ l) (h_safeN : Fld.safeN ∈ l) (h_trestle : Fld.trestle ∈ l) (h_trims : Fld.trims ∈ l) (h_waitMaint : Fld.waitMaint ∈ l) :
    ∀ t, execDiscoveryClose s = .next t → t.but l = s.but l := by
  intro t ht
  unfold execDiscoveryClose at ht
  (try simp only [ok] at ht); (repeat' split at ht) <;> (replace ht := Host.Outcome.next.inj ht; subst ht; first
    | with_reducible rfl
    | (simp [h_actions, h_caps, h_chans, h_clusters, h_drives, h_ens, h_entries, h_events, h_groups, h_latches, h_parts, h_ports, h_regs, h_safeN, h_trestle, h_trims, h_waitMaint, ↓State.closeDiscovery_but, ↓State.ite_but]; done)
    | (rename_i heq; have hk := congrArg (fun x => x.1.but l) heq; simp [h_actions, h_caps, h_chans, h_clusters, h_drives, h_ens, h_entries, h_events, h_groups, h_latches, h_parts, h_ports, h_regs, h_safeN, h_trestle, h_trims, h_waitMaint, ↓State.closeDiscovery_but, ↓State.ite_but] at hk; simp [hk, h_actions, h_caps, h_chans, h_clusters, h_drives, h_ens, h_entries, h_events, h_groups, h_latches, h_parts, h_ports, h_regs, h_safeN, h_trestle, h_trims, h_waitMaint, ↓State.closeDiscovery_but, ↓State.ite_but]; done))

theorem execPresenceSend_but (s : State) (l : List Fld) (h_peerOut : Fld.peerOut ∈ l) (h_peerTries : Fld.peerTries ∈ l) (h_trestle : Fld.trestle ∈ l) :
    ∀ t, execPresenceSend s = .next t → t.but l = s.but l := by
  intro t ht
  unfold execPresenceSend at ht
  (try simp only [ok] at ht); (repeat' split at ht) <;> (replace ht := Host.Outcome.next.inj ht; subst ht; first
    | with_reducible rfl
    | (simp [h_peerOut, h_peerTries, h_trestle, ↓State.peerSend_but, ↓State.but_trestle, ↓State.ite_but]; done)
    | (rename_i heq; have hk := congrArg (fun x => x.1.but l) heq; simp [h_peerOut, h_peerTries, h_trestle, ↓State.peerSend_but, ↓State.but_trestle, ↓State.ite_but] at hk; simp [hk, h_peerOut, h_peerTries, h_trestle, ↓State.peerSend_but, ↓State.but_trestle, ↓State.ite_but]; done))

@[simp] theorem State.lateHear_but (s : State) (d : Nat) (l : List Fld) (h_actions : Fld.actions ∈ l) (h_caps : Fld.caps ∈ l) (h_chans : Fld.chans ∈ l) (h_clusters : Fld.clusters ∈ l) (h_drives : Fld.drives ∈ l) (h_ens : Fld.ens ∈ l) (h_entries : Fld.entries ∈ l) (h_events : Fld.events ∈ l) (h_groups : Fld.groups ∈ l) (h_latches : Fld.latches ∈ l) (h_parts : Fld.parts ∈ l) (h_ports : Fld.ports ∈ l) (h_regs : Fld.regs ∈ l) (h_safeN : Fld.safeN ∈ l) (h_trestle : Fld.trestle ∈ l) (h_trims : Fld.trims ∈ l) (h_waitMaint : Fld.waitMaint ∈ l) : (State.lateHear s d).but l = s.but l := by
  unfold State.lateHear
  first
  | (simp [h_actions, h_caps, h_chans, h_clusters, h_drives, h_ens, h_entries, h_events, h_groups, h_latches, h_parts, h_ports, h_regs, h_safeN, h_trestle, h_trims, h_waitMaint, ↓State.joinClose_but, ↓State.but_trestle, ↓State.ite_but]; done)
  | ((try dsimp only); (repeat' split) <;> first
    | with_reducible rfl
    | (simp [h_actions, h_caps, h_chans, h_clusters, h_drives, h_ens, h_entries, h_events, h_groups, h_latches, h_parts, h_ports, h_regs, h_safeN, h_trestle, h_trims, h_waitMaint, ↓State.joinClose_but, ↓State.but_trestle, ↓State.ite_but]; done)
    | (rename_i heq; have hk := congrArg (fun x => x.1.but l) heq; simp [h_actions, h_caps, h_chans, h_clusters, h_drives, h_ens, h_entries, h_events, h_groups, h_latches, h_parts, h_ports, h_regs, h_safeN, h_trestle, h_trims, h_waitMaint, ↓State.joinClose_but, ↓State.but_trestle, ↓State.ite_but] at hk; simp [hk, h_actions, h_caps, h_chans, h_clusters, h_drives, h_ens, h_entries, h_events, h_groups, h_latches, h_parts, h_ports, h_regs, h_safeN, h_trestle, h_trims, h_waitMaint, ↓State.joinClose_but, ↓State.but_trestle, ↓State.ite_but]; done))

theorem execPresence_but (msg : Bytes) (s : State) (l : List Fld) (h_actions : Fld.actions ∈ l) (h_caps : Fld.caps ∈ l) (h_chans : Fld.chans ∈ l) (h_clusters : Fld.clusters ∈ l) (h_drives : Fld.drives ∈ l) (h_ens : Fld.ens ∈ l) (h_entries : Fld.entries ∈ l) (h_events : Fld.events ∈ l) (h_groups : Fld.groups ∈ l) (h_latches : Fld.latches ∈ l) (h_parts : Fld.parts ∈ l) (h_ports : Fld.ports ∈ l) (h_regs : Fld.regs ∈ l) (h_safeN : Fld.safeN ∈ l) (h_trestle : Fld.trestle ∈ l) (h_trims : Fld.trims ∈ l) (h_waitMaint : Fld.waitMaint ∈ l) :
    ∀ t, execPresence msg s = .next t → t.but l = s.but l := by
  intro t ht
  unfold execPresence at ht
  (repeat' split at ht) <;> (replace ht := Host.Outcome.next.inj ht; subst ht)
  · rfl
  · simp [h_actions, h_caps, h_chans, h_clusters, h_drives, h_ens, h_entries, h_events, h_groups, h_latches, h_parts, h_ports, h_regs, h_safeN, h_trestle, h_trims, h_waitMaint, ↓State.adoptGroups_but, ↓State.comparePresence_but, ↓State.duplicate_but, ↓State.followLeader_but, ↓State.hear_but, ↓State.lateHear_but, ↓State.peerError_but, ↓State.releaseGroups_but, ↓State.setGroup_but, ↓State.but_trestle, ↓State.each_but, ↓State.ite_but]
  · simp [h_actions, h_caps, h_chans, h_clusters, h_drives, h_ens, h_entries, h_events, h_groups, h_latches, h_parts, h_ports, h_regs, h_safeN, h_trestle, h_trims, h_waitMaint, ↓State.adoptGroups_but, ↓State.comparePresence_but, ↓State.duplicate_but, ↓State.followLeader_but, ↓State.hear_but, ↓State.lateHear_but, ↓State.peerError_but, ↓State.releaseGroups_but, ↓State.setGroup_but, ↓State.but_trestle, ↓State.each_but, ↓State.ite_but]
  · apply State.followLeader_but <;> try assumption
    intro s
    dsimp only
    split <;> simp [h_actions, h_caps, h_chans, h_clusters, h_drives, h_ens, h_entries, h_events, h_groups, h_latches, h_parts, h_ports, h_regs, h_safeN, h_trestle, h_trims, h_waitMaint, ↓State.adoptGroups_but, ↓State.comparePresence_but, ↓State.duplicate_but, ↓State.followLeader_but, ↓State.hear_but, ↓State.lateHear_but, ↓State.peerError_but, ↓State.releaseGroups_but, ↓State.setGroup_but, ↓State.but_trestle, ↓State.each_but, ↓State.ite_but]

theorem execStateSend_but (n : Fin 4) (sent : Bool) (s : State) (l : List Fld) (h_groups : Fld.groups ∈ l) (h_peerOut : Fld.peerOut ∈ l) (h_peerTries : Fld.peerTries ∈ l) (h_regs : Fld.regs ∈ l) :
    ∀ t, execStateSend n sent s = .next t → t.but l = s.but l := by
  intro t ht
  unfold execStateSend at ht
  (try simp only [ok] at ht); (repeat' split at ht) <;> (replace ht := Host.Outcome.next.inj ht; subst ht; first
    | with_reducible rfl
    | (simp [h_groups, h_peerOut, h_peerTries, h_regs, ↓State.checkPass_but, ↓State.peerSend_but, ↓State.setGroup_but, ↓State.ite_but]; done)
    | (rename_i heq; have hk := congrArg (fun x => x.1.but l) heq; simp [h_groups, h_peerOut, h_peerTries, h_regs, ↓State.checkPass_but, ↓State.peerSend_but, ↓State.setGroup_but, ↓State.ite_but] at hk; simp [hk, h_groups, h_peerOut, h_peerTries, h_regs, ↓State.checkPass_but, ↓State.peerSend_but, ↓State.setGroup_but, ↓State.ite_but]; done))

@[simp] theorem State.stateDecides_but (s : State) (n : Nat) (passes : Bool) (l : List Fld) (h_events : Fld.events ∈ l) (h_groups : Fld.groups ∈ l) (h_regs : Fld.regs ∈ l) : (State.stateDecides s n passes).but l = s.but l := by
  unfold State.stateDecides
  first
  | (simp [h_events, h_groups, h_regs, ↓State.raise_but, ↓State.setGroup_but, ↓State.setReg_but, ↓State.ite_but]; done)
  | ((try dsimp only); (repeat' split) <;> first
    | with_reducible rfl
    | (simp [h_events, h_groups, h_regs, ↓State.raise_but, ↓State.setGroup_but, ↓State.setReg_but, ↓State.ite_but]; done)
    | (rename_i heq; have hk := congrArg (fun x => x.1.but l) heq; simp [h_events, h_groups, h_regs, ↓State.raise_but, ↓State.setGroup_but, ↓State.setReg_but, ↓State.ite_but] at hk; simp [h_events, h_groups, h_regs, ↓State.raise_but, ↓State.setGroup_but, ↓State.setReg_but, ↓State.ite_but, hk]; done))

theorem execState_but (msg : Bytes) (s : State) (l : List Fld) (h_events : Fld.events ∈ l) (h_groups : Fld.groups ∈ l) (h_regs : Fld.regs ∈ l) (h_trestle : Fld.trestle ∈ l) :
    ∀ t, execState msg s = .next t → t.but l = s.but l := by
  intro t ht
  unfold execState at ht
  (try simp only [ok] at ht); (repeat' split at ht) <;> (replace ht := Host.Outcome.next.inj ht; subst ht; first
    | with_reducible rfl
    | (simp [h_events, h_groups, h_regs, h_trestle, ↓State.checkFail_but, ↓State.checkPass_but, ↓State.heardFrom_but, ↓State.peerError_but, ↓State.stateDecides_but, ↓State.ite_but]; done)
    | (rename_i heq; have hk := congrArg (fun x => x.1.but l) heq; simp [h_events, h_groups, h_regs, h_trestle, ↓State.checkFail_but, ↓State.checkPass_but, ↓State.heardFrom_but, ↓State.peerError_but, ↓State.stateDecides_but, ↓State.ite_but] at hk; simp [h_events, h_groups, h_regs, h_trestle, ↓State.checkFail_but, ↓State.checkPass_but, ↓State.heardFrom_but, ↓State.peerError_but, ↓State.stateDecides_but, ↓State.ite_but, hk]; done))

theorem execStateCheckTimeout_but (n : Fin 4) (s : State) (l : List Fld) (h_events : Fld.events ∈ l) (h_groups : Fld.groups ∈ l) (h_regs : Fld.regs ∈ l) :
    ∀ t, execStateCheckTimeout n s = .next t → t.but l = s.but l := by
  intro t ht
  unfold execStateCheckTimeout at ht
  (try simp only [ok] at ht); (repeat' split at ht) <;> (replace ht := Host.Outcome.next.inj ht; subst ht; first
    | with_reducible rfl
    | (simp [h_events, h_groups, h_regs, ↓State.checkFail_but, ↓State.ite_but]; done)
    | (rename_i heq; have hk := congrArg (fun x => x.1.but l) heq; simp [h_events, h_groups, h_regs, ↓State.checkFail_but, ↓State.ite_but] at hk; simp [h_events, h_groups, h_regs, ↓State.checkFail_but, ↓State.ite_but, hk]; done))

theorem execTsyncPulse_but (s : State) (l : List Fld) (h_peerOut : Fld.peerOut ∈ l) (h_peerTries : Fld.peerTries ∈ l) (h_trestle : Fld.trestle ∈ l) :
    ∀ t, execTsyncPulse s = .next t → t.but l = s.but l := by
  intro t ht
  unfold execTsyncPulse at ht
  (try simp only [ok] at ht); (repeat' split at ht) <;> (replace ht := Host.Outcome.next.inj ht; subst ht; first
    | with_reducible rfl
    | (simp [h_peerOut, h_peerTries, h_trestle, ↓State.peerSend_but, ↓State.but_trestle, ↓State.ite_but]; done)
    | (rename_i heq; have hk := congrArg (fun x => x.1.but l) heq; simp [h_peerOut, h_peerTries, h_trestle, ↓State.peerSend_but, ↓State.but_trestle, ↓State.ite_but] at hk; simp [hk, h_peerOut, h_peerTries, h_trestle, ↓State.peerSend_but, ↓State.but_trestle, ↓State.ite_but]; done))

theorem execTsyncEdge_but (s : State) (l : List Fld) (h_trestle : Fld.trestle ∈ l) :
    ∀ t, execTsyncEdge s = .next t → t.but l = s.but l := by
  intro t ht
  unfold execTsyncEdge at ht
  (try simp only [ok] at ht); (repeat' split at ht) <;> (replace ht := Host.Outcome.next.inj ht; subst ht; first
    | with_reducible rfl
    | (simp [h_trestle, ↓State.but_trestle, ↓State.ite_but]; done))

@[simp] theorem State.align_but (s : State) (q : Nat) (e : Int) (l : List Fld) (h_events : Fld.events ∈ l) (h_regs : Fld.regs ∈ l) (h_trestle : Fld.trestle ∈ l) : (State.align s q e).but l = s.but l := by
  unfold State.align
  first
  | (simp [h_events, h_regs, h_trestle, ↓State.raise_but, ↓State.setReg_but, ↓State.but_trestle, ↓State.ite_but]; done)
  | ((try dsimp only); (repeat' split) <;> first
    | with_reducible rfl
    | (simp [h_events, h_regs, h_trestle, ↓State.raise_but, ↓State.setReg_but, ↓State.but_trestle, ↓State.ite_but]; done))

theorem execSync_but (msg : Bytes) (s : State) (l : List Fld) (h_events : Fld.events ∈ l) (h_peerOut : Fld.peerOut ∈ l) (h_peerTries : Fld.peerTries ∈ l) (h_regs : Fld.regs ∈ l) (h_trestle : Fld.trestle ∈ l) :
    ∀ t, execSync msg s = .next t → t.but l = s.but l := by
  intro t ht
  unfold execSync at ht
  (try simp only [ok] at ht); (repeat' split at ht) <;> (replace ht := Host.Outcome.next.inj ht; subst ht; first
    | with_reducible rfl
    | (simp [h_events, h_peerOut, h_peerTries, h_regs, h_trestle, ↓State.align_but, ↓State.heardFrom_but, ↓State.peerError_but, ↓State.peerSend_but, ↓State.but_trestle, ↓State.ite_but]; done)
    | (rename_i heq; have hk := congrArg (fun x => x.1.but l) heq; simp [h_events, h_peerOut, h_peerTries, h_regs, h_trestle, ↓State.align_but, ↓State.heardFrom_but, ↓State.peerError_but, ↓State.peerSend_but, ↓State.but_trestle, ↓State.ite_but] at hk; simp [hk, h_events, h_peerOut, h_peerTries, h_regs, h_trestle, ↓State.align_but, ↓State.heardFrom_but, ↓State.peerError_but, ↓State.peerSend_but, ↓State.but_trestle, ↓State.ite_but]; done))

theorem execAck_but (msg : Bytes) (s : State) (l : List Fld) (h_regs : Fld.regs ∈ l) (h_trestle : Fld.trestle ∈ l) :
    ∀ t, execAck msg s = .next t → t.but l = s.but l := by
  intro t ht
  unfold execAck at ht
  (try simp only [ok] at ht); (repeat' split at ht) <;> (replace ht := Host.Outcome.next.inj ht; subst ht; first
    | with_reducible rfl
    | (simp [h_regs, h_trestle, ↓State.heardFrom_but, ↓State.peerError_but, ↓State.but_trestle, ↓State.ite_but]; done)
    | (rename_i heq; have hk := congrArg (fun x => x.1.but l) heq; simp [h_regs, h_trestle, ↓State.heardFrom_but, ↓State.peerError_but, ↓State.but_trestle, ↓State.ite_but] at hk; simp [hk, h_regs, h_trestle, ↓State.heardFrom_but, ↓State.peerError_but, ↓State.but_trestle, ↓State.ite_but]; done))

theorem execTsyncLost_but (s : State) (l : List Fld) (h_events : Fld.events ∈ l) (h_regs : Fld.regs ∈ l) (h_trestle : Fld.trestle ∈ l) :
    ∀ t, execTsyncLost s = .next t → t.but l = s.but l := by
  intro t ht
  unfold execTsyncLost at ht
  (try simp only [ok] at ht); (repeat' split at ht) <;> (replace ht := Host.Outcome.next.inj ht; subst ht; first
    | with_reducible rfl
    | (simp [h_events, h_regs, h_trestle, ↓State.raise_but, ↓State.but_trestle, ↓State.ite_but]; done)
    | (rename_i heq; have hk := congrArg (fun x => x.1.but l) heq; simp [h_events, h_regs, h_trestle, ↓State.raise_but, ↓State.but_trestle, ↓State.ite_but] at hk; simp [hk, h_events, h_regs, h_trestle, ↓State.raise_but, ↓State.but_trestle, ↓State.ite_but]; done))

@[simp] theorem State.noteRelease_but (s : State) (ll : List Nat) (t : Nat) (l : List Fld) (h_trestle : Fld.trestle ∈ l) : (State.noteRelease s ll t).but l = s.but l := by
  unfold State.noteRelease
  simp [h_trestle, ↓State.but_trestle, foldl_but, ↓State.ite_but]

theorem execReleaseSend_but (s : State) (l : List Fld) (h_peerOut : Fld.peerOut ∈ l) (h_peerTries : Fld.peerTries ∈ l) (h_trestle : Fld.trestle ∈ l) :
    ∀ t, execReleaseSend s = .next t → t.but l = s.but l := by
  intro t ht
  unfold execReleaseSend at ht
  (try simp only [ok] at ht); (repeat' split at ht) <;> (replace ht := Host.Outcome.next.inj ht; subst ht; first
    | with_reducible rfl
    | (simp [h_peerOut, h_peerTries, h_trestle, ↓State.noteRelease_but, ↓State.peerSend_but, ↓State.but_trestle, ↓State.ite_but]; done))

theorem execRelease_but (msg : Bytes) (s : State) (l : List Fld) (h_peerOut : Fld.peerOut ∈ l) (h_peerTries : Fld.peerTries ∈ l) (h_regs : Fld.regs ∈ l) (h_trestle : Fld.trestle ∈ l) :
    ∀ t, execRelease msg s = .next t → t.but l = s.but l := by
  intro t ht
  unfold execRelease at ht
  (try simp only [ok] at ht); (repeat' split at ht) <;> (replace ht := Host.Outcome.next.inj ht; subst ht; first
    | with_reducible rfl
    | (simp [h_peerOut, h_peerTries, h_regs, h_trestle, ↓State.heardFrom_but, ↓State.noteRelease_but, ↓State.peerError_but, ↓State.peerSend_but, ↓State.ite_but]; done)
    | (rename_i heq; have hk := congrArg (fun x => x.1.but l) heq; simp [h_peerOut, h_peerTries, h_regs, h_trestle, ↓State.heardFrom_but, ↓State.noteRelease_but, ↓State.peerError_but, ↓State.peerSend_but, ↓State.ite_but] at hk; simp [h_peerOut, h_peerTries, h_regs, h_trestle, ↓State.heardFrom_but, ↓State.noteRelease_but, ↓State.peerError_but, ↓State.peerSend_but, ↓State.ite_but, hk]; done))

theorem execReleaseResend_but (s : State) (l : List Fld) (h_peerOut : Fld.peerOut ∈ l) (h_peerTries : Fld.peerTries ∈ l) (h_trestle : Fld.trestle ∈ l) :
    ∀ t, execReleaseResend s = .next t → t.but l = s.but l := by
  intro t ht
  unfold execReleaseResend at ht
  (try simp only [ok] at ht); (repeat' split at ht) <;> (replace ht := Host.Outcome.next.inj ht; subst ht; first
    | with_reducible rfl
    | (simp [h_peerOut, h_peerTries, h_trestle, ↓State.noteRelease_but, ↓State.peerSend_but, ↓State.but_trestle, ↓State.ite_but]; done)
    | (rename_i heq; have hk := congrArg (fun x => x.1.but l) heq; simp [h_peerOut, h_peerTries, h_trestle, ↓State.noteRelease_but, ↓State.peerSend_but, ↓State.but_trestle, ↓State.ite_but] at hk; simp [hk, h_peerOut, h_peerTries, h_trestle, ↓State.noteRelease_but, ↓State.peerSend_but, ↓State.but_trestle, ↓State.ite_but]; done))

theorem execStartupHoldLift_but (s : State) (l : List Fld) (h_actions : Fld.actions ∈ l) (h_caps : Fld.caps ∈ l) (h_chans : Fld.chans ∈ l) (h_clusters : Fld.clusters ∈ l) (h_drives : Fld.drives ∈ l) (h_ens : Fld.ens ∈ l) (h_entries : Fld.entries ∈ l) (h_events : Fld.events ∈ l) (h_groups : Fld.groups ∈ l) (h_latches : Fld.latches ∈ l) (h_parts : Fld.parts ∈ l) (h_ports : Fld.ports ∈ l) (h_regs : Fld.regs ∈ l) (h_safeN : Fld.safeN ∈ l) (h_trestle : Fld.trestle ∈ l) (h_trims : Fld.trims ∈ l) (h_waitMaint : Fld.waitMaint ∈ l) :
    ∀ t, execStartupHoldLift s = .next t → t.but l = s.but l := by
  intro t ht
  unfold execStartupHoldLift at ht
  (try simp only [ok] at ht); (repeat' split at ht) <;> (replace ht := Host.Outcome.next.inj ht; subst ht; first
    | with_reducible rfl
    | (simp [h_actions, h_caps, h_chans, h_clusters, h_drives, h_ens, h_entries, h_events, h_groups, h_latches, h_parts, h_ports, h_regs, h_safeN, h_trestle, h_trims, h_waitMaint, ↓State.liftHold_but, ↓State.ite_but]; done)
    | (rename_i heq; have hk := congrArg (fun x => x.1.but l) heq; simp [h_actions, h_caps, h_chans, h_clusters, h_drives, h_ens, h_entries, h_events, h_groups, h_latches, h_parts, h_ports, h_regs, h_safeN, h_trestle, h_trims, h_waitMaint, ↓State.liftHold_but, ↓State.ite_but] at hk; simp [hk, h_actions, h_caps, h_chans, h_clusters, h_drives, h_ens, h_entries, h_events, h_groups, h_latches, h_parts, h_ports, h_regs, h_safeN, h_trestle, h_trims, h_waitMaint, ↓State.liftHold_but, ↓State.ite_but]; done))

theorem execPeerLost_but (d : Fin 16) (s : State) (l : List Fld) (h_events : Fld.events ∈ l) (h_groups : Fld.groups ∈ l) (h_regs : Fld.regs ∈ l) (h_trestle : Fld.trestle ∈ l) :
    ∀ t, execPeerLost d s = .next t → t.but l = s.but l := by
  intro t ht
  unfold execPeerLost at ht
  extract_lets silent at ht
  clear_value silent
  (repeat' split at ht) <;> (replace ht := Host.Outcome.next.inj ht; subst ht)
  all_goals first
    | rfl
    | (apply State.followLeader_but <;> try assumption
       intro s
       extract_lets t a b
       have ka : a.but l = s.but l := by simp only [a]; simp [h_events, h_groups, h_regs, h_trestle, ↓State.followLeader_but, ↓State.raise_but, ↓State.setGroup_but, ↓State.but_trestle, ↓State.each_but, ↓State.ite_but]
       clear_value a
       have kb : b.but l = s.but l := by simp only [b]; simp [h_events, h_groups, h_regs, h_trestle, ↓State.followLeader_but, ↓State.raise_but, ↓State.setGroup_but, ↓State.but_trestle, ↓State.each_but, ↓State.ite_but, ka]
       clear_value b
       simp [h_events, h_groups, h_regs, h_trestle, ↓State.followLeader_but, ↓State.raise_but, ↓State.setGroup_but, ↓State.but_trestle, ↓State.each_but, ↓State.ite_but, kb])

end Sys2Proof.Machine
end

