-- ==== Sys2Proof/Laws/Keep/Shutoff.lean ====
section
/-! SUPPORT. The frames of the operations of Machine/Shutoff.lean: the parts of the state that each of them can change. -/
set_option linter.all false

namespace Sys2Proof.Machine

@[simp] theorem State.releaseEn_but (s : State) (e : Nat) (l : List Fld) (h_caps : Fld.caps ∈ l) (h_ens : Fld.ens ∈ l) : (State.releaseEn s e).but l = s.but l := by
  unfold State.releaseEn
  first
  | (simp [h_caps, h_ens, ↓State.latchEn_but, ↓State.modeEn_but, ↓State.orderEn_but, ↓State.ite_but]; done)
  | ((try dsimp only); (repeat' split) <;> first
    | with_reducible rfl
    | (simp [h_caps, h_ens, ↓State.latchEn_but, ↓State.modeEn_but, ↓State.orderEn_but, ↓State.ite_but]; done))

@[simp] theorem State.dischargeEnd_but (s : State) (p : Nat) (l : List Fld) (h_caps : Fld.caps ∈ l) (h_ens : Fld.ens ∈ l) (h_parts : Fld.parts ∈ l) : (State.dischargeEnd s p).but l = s.but l := by
  unfold State.dischargeEnd
  first
  | (simp [h_caps, h_ens, h_parts, ↓State.releaseEn_but, ↓State.setPart_but, ↓State.each_but, ↓State.ite_but]; done)
  | ((try dsimp only); (repeat' split) <;> first
    | with_reducible rfl
    | (simp [h_caps, h_ens, h_parts, ↓State.releaseEn_but, ↓State.setPart_but, ↓State.each_but, ↓State.ite_but]; done)
    | (refine (State.each_but _ _ _ _ (fun s x _ => ?_)).trans ?_ <;> (try dsimp only) <;> (repeat' split) <;> first
      | with_reducible rfl
      | (simp [h_caps, h_ens, h_parts, ↓State.releaseEn_but, ↓State.setPart_but, ↓State.each_but, ↓State.ite_but]; done)))

theorem execDischargeEnd_but (p : Fin 16) (s : State) (l : List Fld) (h_caps : Fld.caps ∈ l) (h_ens : Fld.ens ∈ l) (h_parts : Fld.parts ∈ l) :
    ∀ t, execDischargeEnd p s = .next t → t.but l = s.but l := by
  intro t ht
  unfold execDischargeEnd at ht
  (try simp only [ok] at ht); (repeat' split at ht) <;> (replace ht := Host.Outcome.next.inj ht; subst ht; first
    | with_reducible rfl
    | (simp [h_caps, h_ens, h_parts, ↓State.dischargeEnd_but, ↓State.ite_but]; done)
    | (rename_i heq; have hk := congrArg (fun x => x.1.but l) heq; simp [h_caps, h_ens, h_parts, ↓State.dischargeEnd_but, ↓State.ite_but] at hk; simp [hk, h_caps, h_ens, h_parts, ↓State.dischargeEnd_but, ↓State.ite_but]; done))

theorem execTrFltReceive_but (n : Fin 4) (s : State) (l : List Fld) (h_actions : Fld.actions ∈ l) (h_caps : Fld.caps ∈ l) (h_chans : Fld.chans ∈ l) (h_clusters : Fld.clusters ∈ l) (h_drives : Fld.drives ∈ l) (h_ens : Fld.ens ∈ l) (h_entries : Fld.entries ∈ l) (h_events : Fld.events ∈ l) (h_groups : Fld.groups ∈ l) (h_latches : Fld.latches ∈ l) (h_parts : Fld.parts ∈ l) (h_ports : Fld.ports ∈ l) (h_regs : Fld.regs ∈ l) (h_safeN : Fld.safeN ∈ l) (h_trims : Fld.trims ∈ l) (h_waitMaint : Fld.waitMaint ∈ l) :
    ∀ t, execTrFltReceive n s = .next t → t.but l = s.but l := by
  intro t ht
  unfold execTrFltReceive at ht
  (try simp only [ok] at ht); (repeat' split at ht) <;> (replace ht := Host.Outcome.next.inj ht; subst ht; first
    | with_reducible rfl
    | (simp [h_actions, h_caps, h_chans, h_clusters, h_drives, h_ens, h_entries, h_events, h_groups, h_latches, h_parts, h_ports, h_regs, h_safeN, h_trims, h_waitMaint, ↓State.bump16_but, ↓State.causeAt_but, ↓State.setGroup_but, ↓State.each_but, ↓State.ite_but]; done)
    | (refine (State.each_but _ _ _ _ (fun s x _ => ?_)).trans ?_ <;> (try dsimp only) <;> (repeat' split) <;> first
      | with_reducible rfl
      | (simp [h_actions, h_caps, h_chans, h_clusters, h_drives, h_ens, h_entries, h_events, h_groups, h_latches, h_parts, h_ports, h_regs, h_safeN, h_trims, h_waitMaint, ↓State.bump16_but, ↓State.causeAt_but, ↓State.setGroup_but, ↓State.each_but, ↓State.ite_but]; done)))

theorem execFltPulseEnd_but (n : Fin 4) (s : State) (l : List Fld) (h_groups : Fld.groups ∈ l) :
    ∀ t, execFltPulseEnd n s = .next t → t.but l = s.but l := by
  intro t ht
  unfold execFltPulseEnd at ht
  (try simp only [ok] at ht); (repeat' split at ht) <;> (replace ht := Host.Outcome.next.inj ht; subst ht; first
    | with_reducible rfl
    | (simp [h_groups, ↓State.setGroup_but, ↓State.ite_but]; done)
    | (rename_i heq; have hk := congrArg (fun x => x.1.but l) heq; simp [h_groups, ↓State.setGroup_but, ↓State.ite_but] at hk; simp [hk, h_groups, ↓State.setGroup_but, ↓State.ite_but]; done))

theorem execFltStuck_but (n : Fin 4) (s : State) (l : List Fld) (h_events : Fld.events ∈ l) (h_groups : Fld.groups ∈ l) (h_regs : Fld.regs ∈ l) :
    ∀ t, execFltStuck n s = .next t → t.but l = s.but l := by
  intro t ht
  unfold execFltStuck at ht
  (try simp only [ok] at ht); (repeat' split at ht) <;> (replace ht := Host.Outcome.next.inj ht; subst ht; first
    | with_reducible rfl
    | (simp [h_events, h_groups, h_regs, ↓State.raise_but, ↓State.setGroup_but, ↓State.setReg_but, ↓State.ite_but]; done)
    | (rename_i heq; have hk := congrArg (fun x => x.1.but l) heq; simp [h_events, h_groups, h_regs, ↓State.raise_but, ↓State.setGroup_but, ↓State.setReg_but, ↓State.ite_but] at hk; simp [hk, h_events, h_groups, h_regs, ↓State.raise_but, ↓State.setGroup_but, ↓State.setReg_but, ↓State.ite_but]; done))

theorem execFltStuckClear_but (n : Fin 4) (s : State) (l : List Fld) (h_groups : Fld.groups ∈ l) (h_regs : Fld.regs ∈ l) :
    ∀ t, execFltStuckClear n s = .next t → t.but l = s.but l := by
  intro t ht
  unfold execFltStuckClear at ht
  (try simp only [ok] at ht); (repeat' split at ht) <;> (replace ht := Host.Outcome.next.inj ht; subst ht; first
    | with_reducible rfl
    | (simp [h_groups, h_regs, ↓State.setGroup_but, ↓State.setReg_but, ↓State.ite_but]; done)
    | (rename_i heq; have hk := congrArg (fun x => x.1.but l) heq; simp [h_groups, h_regs, ↓State.setGroup_but, ↓State.setReg_but, ↓State.ite_but] at hk; simp [hk, h_groups, h_regs, ↓State.setGroup_but, ↓State.setReg_but, ↓State.ite_but]; done))

@[simp] theorem State.loseActions_but (s : State) (n : Nat) (l : List Fld) (h_actions : Fld.actions ∈ l) : (State.loseActions s n).but l = s.but l := by
  unfold State.loseActions
  first
  | (simp [h_actions, ↓State.but_actions, ↓State.ite_but]; done)
  | ((try dsimp only); (repeat' split) <;> first
    | with_reducible rfl
    | (simp [h_actions, ↓State.but_actions, ↓State.ite_but]; done))

@[simp] theorem State.clockLoss_but (s : State) (n : Nat) (l : List Fld) (h_actions : Fld.actions ∈ l) (h_caps : Fld.caps ∈ l) (h_chans : Fld.chans ∈ l) (h_clusters : Fld.clusters ∈ l) (h_drives : Fld.drives ∈ l) (h_ens : Fld.ens ∈ l) (h_entries : Fld.entries ∈ l) (h_events : Fld.events ∈ l) (h_groups : Fld.groups ∈ l) (h_latches : Fld.latches ∈ l) (h_parts : Fld.parts ∈ l) (h_ports : Fld.ports ∈ l) (h_regs : Fld.regs ∈ l) (h_safeN : Fld.safeN ∈ l) (h_trims : Fld.trims ∈ l) (h_waitMaint : Fld.waitMaint ∈ l) : (State.clockLoss s n).but l = s.but l := by
  unfold State.clockLoss
  simp [h_actions, h_caps, h_chans, h_clusters, h_drives, h_ens, h_entries, h_events, h_groups, h_latches, h_parts, h_ports, h_regs, h_safeN, h_trims, h_waitMaint, ↓State.bump16_but, ↓State.causeIn_but, ↓State.gapFlag_but, ↓State.loseActions_but, ↓State.marginOff_but, ↓State.raise_but, ↓State.setCluster_but, ↓State.setReg_but, ↓State.shutOff_but, ↓State.sweepEnd_but, ↓State.each_but, ↓State.ite_but]

theorem execClusterClockLoss_but (n : Fin 8) (s : State) (l : List Fld) (h_actions : Fld.actions ∈ l) (h_caps : Fld.caps ∈ l) (h_chans : Fld.chans ∈ l) (h_clusters : Fld.clusters ∈ l) (h_drives : Fld.drives ∈ l) (h_ens : Fld.ens ∈ l) (h_entries : Fld.entries ∈ l) (h_events : Fld.events ∈ l) (h_groups : Fld.groups ∈ l) (h_latches : Fld.latches ∈ l) (h_parts : Fld.parts ∈ l) (h_ports : Fld.ports ∈ l) (h_regs : Fld.regs ∈ l) (h_safeN : Fld.safeN ∈ l) (h_trims : Fld.trims ∈ l) (h_waitMaint : Fld.waitMaint ∈ l) :
    ∀ t, execClusterClockLoss n s = .next t → t.but l = s.but l := by
  intro t ht
  unfold execClusterClockLoss at ht
  (try simp only [ok] at ht); (repeat' split at ht) <;> (replace ht := Host.Outcome.next.inj ht; subst ht; first
    | with_reducible rfl
    | (simp [h_actions, h_caps, h_chans, h_clusters, h_drives, h_ens, h_entries, h_events, h_groups, h_latches, h_parts, h_ports, h_regs, h_safeN, h_trims, h_waitMaint, ↓State.clockLoss_but, ↓State.ite_but]; done))

@[simp] theorem State.resolveCut_but (s : State) (c lost : Nat) (byLoss : Bool) (l : List Fld) (h_caps : Fld.caps ∈ l) (h_chans : Fld.chans ∈ l) (h_entries : Fld.entries ∈ l) (h_events : Fld.events ∈ l) (h_regs : Fld.regs ∈ l) (h_trims : Fld.trims ∈ l) : (State.resolveCut s c lost byLoss).but l = s.but l := by
  unfold State.resolveCut
  first
  | (simp [h_caps, h_chans, h_entries, h_events, h_regs, h_trims, ↓State.setChan_but, ↓State.toState_but, ↓State.warnEnd_but, ↓State.ite_but]; done)
  | ((try dsimp only); (repeat' split) <;> first
    | with_reducible rfl
    | (simp [h_caps, h_chans, h_entries, h_events, h_regs, h_trims, ↓State.setChan_but, ↓State.toState_but, ↓State.warnEnd_but, ↓State.ite_but]; done)
    | (rename_i heq; have hk := congrArg (fun x => x.1.but l) heq; simp [h_caps, h_chans, h_entries, h_events, h_regs, h_trims, ↓State.setChan_but, ↓State.toState_but, ↓State.warnEnd_but, ↓State.ite_but] at hk; simp [h_caps, h_chans, h_entries, h_events, h_regs, h_trims, ↓State.setChan_but, ↓State.toState_but, ↓State.warnEnd_but, ↓State.ite_but, hk]; done))

@[simp] theorem State.resolveChan_but (s : State) (c : Nat) (k : ClusterX) (l : List Fld) (h_actions : Fld.actions ∈ l) (h_caps : Fld.caps ∈ l) (h_chans : Fld.chans ∈ l) (h_clusters : Fld.clusters ∈ l) (h_drives : Fld.drives ∈ l) (h_ens : Fld.ens ∈ l) (h_entries : Fld.entries ∈ l) (h_events : Fld.events ∈ l) (h_groups : Fld.groups ∈ l) (h_latches : Fld.latches ∈ l) (h_parts : Fld.parts ∈ l) (h_ports : Fld.ports ∈ l) (h_regs : Fld.regs ∈ l) (h_safeN : Fld.safeN ∈ l) (h_trims : Fld.trims ∈ l) (h_waitMaint : Fld.waitMaint ∈ l) : (State.resolveChan s c k).but l = s.but l := by
  unfold State.resolveChan
  first
  | (simp [h_actions, h_caps, h_chans, h_clusters, h_drives, h_ens, h_entries, h_events, h_groups, h_latches, h_parts, h_ports, h_regs, h_safeN, h_trims, h_waitMaint, ↓State.enterSettle_but, ↓State.gateTrip_but, ↓State.goAbsent_but, ↓State.resolveCut_but, ↓State.setChan_but, ↓State.toState_but, ↓State.ite_but]; done)
  | ((try dsimp only); (repeat' split) <;> first
    | with_reducible rfl
    | (simp [h_actions, h_caps, h_chans, h_clusters, h_drives, h_ens, h_entries, h_events, h_groups, h_latches, h_parts, h_ports, h_regs, h_safeN, h_trims, h_waitMaint, ↓State.enterSettle_but, ↓State.gateTrip_but, ↓State.goAbsent_but, ↓State.resolveCut_but, ↓State.setChan_but, ↓State.toState_but, ↓State.ite_but]; done)
    | (rename_i heq; have hk := congrArg (fun x => x.1.but l) heq; simp [h_actions, h_caps, h_chans, h_clusters, h_drives, h_ens, h_entries, h_events, h_groups, h_latches, h_parts, h_ports, h_regs, h_safeN, h_trims, h_waitMaint, ↓State.enterSettle_but, ↓State.gateTrip_but, ↓State.goAbsent_but, ↓State.resolveCut_but, ↓State.setChan_but, ↓State.toState_but, ↓State.ite_but] at hk; simp [h_actions, h_caps, h_chans, h_clusters, h_drives, h_ens, h_entries, h_events, h_groups, h_latches, h_parts, h_ports, h_regs, h_safeN, h_trims, h_waitMaint, ↓State.enterSettle_but, ↓State.gateTrip_but, ↓State.goAbsent_but, ↓State.resolveCut_but, ↓State.setChan_but, ↓State.toState_but, ↓State.ite_but, hk]; done))

@[simp] theorem State.parkBack_but (s : State) (c : Nat) (l : List Fld) (h_actions : Fld.actions ∈ l) (h_caps : Fld.caps ∈ l) (h_chans : Fld.chans ∈ l) (h_clusters : Fld.clusters ∈ l) (h_drives : Fld.drives ∈ l) (h_ens : Fld.ens ∈ l) (h_entries : Fld.entries ∈ l) (h_events : Fld.events ∈ l) (h_groups : Fld.groups ∈ l) (h_latches : Fld.latches ∈ l) (h_parts : Fld.parts ∈ l) (h_ports : Fld.ports ∈ l) (h_regs : Fld.regs ∈ l) (h_safeN : Fld.safeN ∈ l) (h_trims : Fld.trims ∈ l) (h_waitMaint : Fld.waitMaint ∈ l) : (State.parkBack s c).but l = s.but l := by
  unfold State.parkBack
  first
  | (simp [h_actions, h_caps, h_chans, h_clusters, h_drives, h_ens, h_entries, h_events, h_groups, h_latches, h_parts, h_ports, h_regs, h_safeN, h_trims, h_waitMaint, ↓State.armChan_but, ↓State.gateTrip_but, ↓State.parkChan_but, ↓State.setChan_but, ↓State.ite_but]; done)
  | ((try dsimp only); (repeat' split) <;> first
    | with_reducible rfl
    | (simp [h_actions, h_caps, h_chans, h_clusters, h_drives, h_ens, h_entries, h_events, h_groups, h_latches, h_parts, h_ports, h_regs, h_safeN, h_trims, h_waitMaint, ↓State.armChan_but, ↓State.gateTrip_but, ↓State.parkChan_but, ↓State.setChan_but, ↓State.ite_but]; done)
    | (rename_i heq; have hk := congrArg (fun x => x.1.but l) heq; simp [h_actions, h_caps, h_chans, h_clusters, h_drives, h_ens, h_entries, h_events, h_groups, h_latches, h_parts, h_ports, h_regs, h_safeN, h_trims, h_waitMaint, ↓State.armChan_but, ↓State.gateTrip_but, ↓State.parkChan_but, ↓State.setChan_but, ↓State.ite_but] at hk; simp [h_actions, h_caps, h_chans, h_clusters, h_drives, h_ens, h_entries, h_events, h_groups, h_latches, h_parts, h_ports, h_regs, h_safeN, h_trims, h_waitMaint, ↓State.armChan_but, ↓State.gateTrip_but, ↓State.parkChan_but, ↓State.setChan_but, ↓State.ite_but, hk]; done))

@[simp] theorem State.takeOrder_but (s : State) (e : Nat) (l : List Fld) (h_caps : Fld.caps ∈ l) (h_ens : Fld.ens ∈ l) : (State.takeOrder s e).but l = s.but l := by
  unfold State.takeOrder
  first
  | (simp [h_caps, h_ens, ↓State.latchEn_but, ↓State.ite_but]; done)
  | ((try dsimp only); (repeat' split) <;> first
    | with_reducible rfl
    | (simp [h_caps, h_ens, ↓State.latchEn_but, ↓State.ite_but]; done)
    | (rename_i heq; have hk := congrArg (fun x => x.1.but l) heq; simp [h_caps, h_ens, ↓State.latchEn_but, ↓State.ite_but] at hk; simp [hk, h_caps, h_ens, ↓State.latchEn_but, ↓State.ite_but]; done))

@[simp] theorem State.clockBack_but (s : State) (n : Nat) (l : List Fld) (h_actions : Fld.actions ∈ l) (h_caps : Fld.caps ∈ l) (h_chans : Fld.chans ∈ l) (h_clusters : Fld.clusters ∈ l) (h_drives : Fld.drives ∈ l) (h_ens : Fld.ens ∈ l) (h_entries : Fld.entries ∈ l) (h_events : Fld.events ∈ l) (h_groups : Fld.groups ∈ l) (h_latches : Fld.latches ∈ l) (h_parts : Fld.parts ∈ l) (h_ports : Fld.ports ∈ l) (h_regs : Fld.regs ∈ l) (h_safeN : Fld.safeN ∈ l) (h_trims : Fld.trims ∈ l) (h_waitMaint : Fld.waitMaint ∈ l) : (State.clockBack s n).but l = s.but l := by
  unfold State.clockBack
  first
  | (simp [h_actions, h_caps, h_chans, h_clusters, h_drives, h_ens, h_entries, h_events, h_groups, h_latches, h_parts, h_ports, h_regs, h_safeN, h_trims, h_waitMaint, ↓State.dischargeEnd_but, ↓State.parkBack_but, ↓State.resolveChan_but, ↓State.setChan_but, ↓State.setCluster_but, ↓State.takeOrder_but, ↓State.trimFollow_but, ↓State.each_but, ↓State.ite_but]; done)
  | ((try dsimp only); (repeat' split) <;> first
    | with_reducible rfl
    | (simp [h_actions, h_caps, h_chans, h_clusters, h_drives, h_ens, h_entries, h_events, h_groups, h_latches, h_parts, h_ports, h_regs, h_safeN, h_trims, h_waitMaint, ↓State.dischargeEnd_but, ↓State.parkBack_but, ↓State.resolveChan_but, ↓State.setChan_but, ↓State.setCluster_but, ↓State.takeOrder_but, ↓State.trimFollow_but, ↓State.each_but, ↓State.ite_but]; done)
    | (refine (State.each_but _ _ _ _ (fun s x _ => ?_)).trans ?_ <;> (try dsimp only) <;> (repeat' split) <;> first
      | with_reducible rfl
      | (simp [h_actions, h_caps, h_chans, h_clusters, h_drives, h_ens, h_entries, h_events, h_groups, h_latches, h_parts, h_ports, h_regs, h_safeN, h_trims, h_waitMaint, ↓State.dischargeEnd_but, ↓State.parkBack_but, ↓State.resolveChan_but, ↓State.setChan_but, ↓State.setCluster_but, ↓State.takeOrder_but, ↓State.trimFollow_but, ↓State.each_but, ↓State.ite_but]; done))
    | (rename_i heq; have hk := congrArg (fun x => x.1.but l) heq; simp [h_actions, h_caps, h_chans, h_clusters, h_drives, h_ens, h_entries, h_events, h_groups, h_latches, h_parts, h_ports, h_regs, h_safeN, h_trims, h_waitMaint, ↓State.dischargeEnd_but, ↓State.parkBack_but, ↓State.resolveChan_but, ↓State.setChan_but, ↓State.setCluster_but, ↓State.takeOrder_but, ↓State.trimFollow_but, ↓State.each_but, ↓State.ite_but] at hk; simp [h_actions, h_caps, h_chans, h_clusters, h_drives, h_ens, h_entries, h_events, h_groups, h_latches, h_parts, h_ports, h_regs, h_safeN, h_trims, h_waitMaint, ↓State.dischargeEnd_but, ↓State.parkBack_but, ↓State.resolveChan_but, ↓State.setChan_but, ↓State.setCluster_but, ↓State.takeOrder_but, ↓State.trimFollow_but, ↓State.each_but, ↓State.ite_but, hk]; done))

theorem execClusterClockBack_but (n : Fin 8) (s : State) (l : List Fld) (h_actions : Fld.actions ∈ l) (h_caps : Fld.caps ∈ l) (h_chans : Fld.chans ∈ l) (h_clusters : Fld.clusters ∈ l) (h_drives : Fld.drives ∈ l) (h_ens : Fld.ens ∈ l) (h_entries : Fld.entries ∈ l) (h_events : Fld.events ∈ l) (h_groups : Fld.groups ∈ l) (h_latches : Fld.latches ∈ l) (h_parts : Fld.parts ∈ l) (h_ports : Fld.ports ∈ l) (h_regs : Fld.regs ∈ l) (h_safeN : Fld.safeN ∈ l) (h_trims : Fld.trims ∈ l) (h_waitMaint : Fld.waitMaint ∈ l) :
    ∀ t, execClusterClockBack n s = .next t → t.but l = s.but l := by
  intro t ht
  unfold execClusterClockBack at ht
  (try simp only [ok] at ht); (repeat' split at ht) <;> (replace ht := Host.Outcome.next.inj ht; subst ht; first
    | with_reducible rfl
    | (simp [h_actions, h_caps, h_chans, h_clusters, h_drives, h_ens, h_entries, h_events, h_groups, h_latches, h_parts, h_ports, h_regs, h_safeN, h_trims, h_waitMaint, ↓State.clockBack_but, ↓State.ite_but]; done))

@[simp] theorem State.retry_but (s : State) (p : Nat) (l : List Fld) (h_actions : Fld.actions ∈ l) (h_caps : Fld.caps ∈ l) (h_chans : Fld.chans ∈ l) (h_clusters : Fld.clusters ∈ l) (h_drives : Fld.drives ∈ l) (h_ens : Fld.ens ∈ l) (h_entries : Fld.entries ∈ l) (h_events : Fld.events ∈ l) (h_groups : Fld.groups ∈ l) (h_latches : Fld.latches ∈ l) (h_log : Fld.log ∈ l) (h_parts : Fld.parts ∈ l) (h_ports : Fld.ports ∈ l) (h_regs : Fld.regs ∈ l) (h_safeN : Fld.safeN ∈ l) (h_trims : Fld.trims ∈ l) (h_waitMaint : Fld.waitMaint ∈ l) : (State.retry s p).but l = s.but l := by
  unfold State.retry
  (try dsimp only); (repeat' split) <;> first
    | with_reducible rfl
    | (simp [h_actions, h_caps, h_chans, h_clusters, h_drives, h_ens, h_entries, h_events, h_groups, h_latches, h_log, h_parts, h_ports, h_regs, h_safeN, h_trims, h_waitMaint, ↓State.raise_but, ↓State.restartPart_but, ↓State.setPart_but, ↓State.setReg_but, ↓State.ite_but]; done)
    | (rename_i heq; have hk := congrArg (fun x => x.1.but l) heq; simp [h_actions, h_caps, h_chans, h_clusters, h_drives, h_ens, h_entries, h_events, h_groups, h_latches, h_log, h_parts, h_ports, h_regs, h_safeN, h_trims, h_waitMaint, ↓State.raise_but, ↓State.restartPart_but, ↓State.setPart_but, ↓State.setReg_but, ↓State.ite_but] at hk; simp [hk, h_actions, h_caps, h_chans, h_clusters, h_drives, h_ens, h_entries, h_events, h_groups, h_latches, h_log, h_parts, h_ports, h_regs, h_safeN, h_trims, h_waitMaint, ↓State.raise_but, ↓State.restartPart_but, ↓State.setPart_but, ↓State.setReg_but, ↓State.ite_but]; done)

theorem execRetryDue_but (p : Fin 16) (s : State) (l : List Fld) (h_actions : Fld.actions ∈ l) (h_caps : Fld.caps ∈ l) (h_chans : Fld.chans ∈ l) (h_clusters : Fld.clusters ∈ l) (h_drives : Fld.drives ∈ l) (h_ens : Fld.ens ∈ l) (h_entries : Fld.entries ∈ l) (h_events : Fld.events ∈ l) (h_groups : Fld.groups ∈ l) (h_latches : Fld.latches ∈ l) (h_log : Fld.log ∈ l) (h_parts : Fld.parts ∈ l) (h_ports : Fld.ports ∈ l) (h_regs : Fld.regs ∈ l) (h_safeN : Fld.safeN ∈ l) (h_trims : Fld.trims ∈ l) (h_waitMaint : Fld.waitMaint ∈ l) :
    ∀ t, execRetryDue p s = .next t → t.but l = s.but l := by
  intro t ht
  unfold execRetryDue at ht
  (try simp only [ok] at ht); (repeat' split at ht) <;> (replace ht := Host.Outcome.next.inj ht; subst ht; first
    | with_reducible rfl
    | (simp [h_actions, h_caps, h_chans, h_clusters, h_drives, h_ens, h_entries, h_events, h_groups, h_latches, h_log, h_parts, h_ports, h_regs, h_safeN, h_trims, h_waitMaint, ↓State.retry_but, ↓State.ite_but]; done)
    | (rename_i heq; have hk := congrArg (fun x => x.1.but l) heq; simp [h_actions, h_caps, h_chans, h_clusters, h_drives, h_ens, h_entries, h_events, h_groups, h_latches, h_log, h_parts, h_ports, h_regs, h_safeN, h_trims, h_waitMaint, ↓State.retry_but, ↓State.ite_but] at hk; simp [hk, h_actions, h_caps, h_chans, h_clusters, h_drives, h_ens, h_entries, h_events, h_groups, h_latches, h_log, h_parts, h_ports, h_regs, h_safeN, h_trims, h_waitMaint, ↓State.retry_but, ↓State.ite_but]; done))

@[simp] theorem State.restartWrite_but (s : State) (r : Role) (p : Nat) (l : List Fld) (h_actions : Fld.actions ∈ l) (h_caps : Fld.caps ∈ l) (h_chans : Fld.chans ∈ l) (h_clusters : Fld.clusters ∈ l) (h_drives : Fld.drives ∈ l) (h_ens : Fld.ens ∈ l) (h_entries : Fld.entries ∈ l) (h_events : Fld.events ∈ l) (h_groups : Fld.groups ∈ l) (h_latches : Fld.latches ∈ l) (h_log : Fld.log ∈ l) (h_parts : Fld.parts ∈ l) (h_ports : Fld.ports ∈ l) (h_regs : Fld.regs ∈ l) (h_reply : Fld.reply ∈ l) (h_safeN : Fld.safeN ∈ l) (h_status : Fld.status ∈ l) (h_trims : Fld.trims ∈ l) (h_waitMaint : Fld.waitMaint ∈ l) : (State.restartWrite s r p).but l = s.but l := by
  unfold State.restartWrite
  (try dsimp only); (repeat' split) <;> first
    | with_reducible rfl
    | (simp [h_actions, h_caps, h_chans, h_clusters, h_drives, h_ens, h_entries, h_events, h_groups, h_latches, h_log, h_parts, h_ports, h_regs, h_reply, h_safeN, h_status, h_trims, h_waitMaint, ↓State.answer_but, ↓State.restartPart_but, ↓State.setPart_but, ↓State.setReg_but, ↓State.ite_but]; done)
    | (rename_i heq; have hk := congrArg (fun x => x.1.but l) heq; simp [h_actions, h_caps, h_chans, h_clusters, h_drives, h_ens, h_entries, h_events, h_groups, h_latches, h_log, h_parts, h_ports, h_regs, h_reply, h_safeN, h_status, h_trims, h_waitMaint, ↓State.answer_but, ↓State.restartPart_but, ↓State.setPart_but, ↓State.setReg_but, ↓State.ite_but] at hk; simp [hk, h_actions, h_caps, h_chans, h_clusters, h_drives, h_ens, h_entries, h_events, h_groups, h_latches, h_log, h_parts, h_ports, h_regs, h_reply, h_safeN, h_status, h_trims, h_waitMaint, ↓State.answer_but, ↓State.restartPart_but, ↓State.setPart_but, ↓State.setReg_but, ↓State.ite_but]; done)

theorem execRestart_but (r : Role) (p : Fin 16) (v : Byte) (s : State) (l : List Fld) (h_actions : Fld.actions ∈ l) (h_caps : Fld.caps ∈ l) (h_chans : Fld.chans ∈ l) (h_clusters : Fld.clusters ∈ l) (h_drives : Fld.drives ∈ l) (h_ens : Fld.ens ∈ l) (h_entries : Fld.entries ∈ l) (h_events : Fld.events ∈ l) (h_groups : Fld.groups ∈ l) (h_latches : Fld.latches ∈ l) (h_log : Fld.log ∈ l) (h_parts : Fld.parts ∈ l) (h_ports : Fld.ports ∈ l) (h_regs : Fld.regs ∈ l) (h_reply : Fld.reply ∈ l) (h_safeN : Fld.safeN ∈ l) (h_status : Fld.status ∈ l) (h_trims : Fld.trims ∈ l) (h_waitMaint : Fld.waitMaint ∈ l) :
    ∀ t, execRestart r p v s = .next t → t.but l = s.but l := by
  intro t ht
  unfold execRestart at ht
  (try simp only [ok] at ht); (repeat' split at ht) <;> (replace ht := Host.Outcome.next.inj ht; subst ht; first
    | with_reducible rfl
    | (simp [h_actions, h_caps, h_chans, h_clusters, h_drives, h_ens, h_entries, h_events, h_groups, h_latches, h_log, h_parts, h_ports, h_regs, h_reply, h_safeN, h_status, h_trims, h_waitMaint, ↓State.item_but, ↓State.restartWrite_but, ↓State.ite_but]; done)
    | ((first
        | refine State.item_but _ _ _ _ _ _ h_regs h_reply h_status (fun s => ?_)
        | refine State.itemLen_but _ _ _ _ _ _ _ h_regs h_reply h_status (fun s => ?_)) <;> (try dsimp only) <;> (repeat' split) <;> first
      | with_reducible rfl
      | (simp [h_actions, h_caps, h_chans, h_clusters, h_drives, h_ens, h_entries, h_events, h_groups, h_latches, h_log, h_parts, h_ports, h_regs, h_reply, h_safeN, h_status, h_trims, h_waitMaint, ↓State.item_but, ↓State.restartWrite_but, ↓State.ite_but]; done)
      | (rename_i heq; have hk := congrArg (fun x => x.1.but l) heq; simp [h_actions, h_caps, h_chans, h_clusters, h_drives, h_ens, h_entries, h_events, h_groups, h_latches, h_log, h_parts, h_ports, h_regs, h_reply, h_safeN, h_status, h_trims, h_waitMaint, ↓State.item_but, ↓State.restartWrite_but, ↓State.ite_but] at hk; simp [hk, h_actions, h_caps, h_chans, h_clusters, h_drives, h_ens, h_entries, h_events, h_groups, h_latches, h_log, h_parts, h_ports, h_regs, h_reply, h_safeN, h_status, h_trims, h_waitMaint, ↓State.item_but, ↓State.restartWrite_but, ↓State.ite_but]; done)))

theorem execForceOff_but (r : Role) (p : Fin 16) (v : Byte) (s : State) (l : List Fld) (h_actions : Fld.actions ∈ l) (h_caps : Fld.caps ∈ l) (h_chans : Fld.chans ∈ l) (h_clusters : Fld.clusters ∈ l) (h_drives : Fld.drives ∈ l) (h_ens : Fld.ens ∈ l) (h_entries : Fld.entries ∈ l) (h_events : Fld.events ∈ l) (h_groups : Fld.groups ∈ l) (h_latches : Fld.latches ∈ l) (h_parts : Fld.parts ∈ l) (h_ports : Fld.ports ∈ l) (h_regs : Fld.regs ∈ l) (h_reply : Fld.reply ∈ l) (h_safeN : Fld.safeN ∈ l) (h_status : Fld.status ∈ l) (h_trims : Fld.trims ∈ l) (h_waitMaint : Fld.waitMaint ∈ l) :
    ∀ t, execForceOff r p v s = .next t → t.but l = s.but l := by
  intro t ht
  unfold execForceOff at ht
  (try simp only [ok] at ht); (repeat' split at ht) <;> (replace ht := Host.Outcome.next.inj ht; subst ht; first
    | with_reducible rfl
    | (simp [h_actions, h_caps, h_chans, h_clusters, h_drives, h_ens, h_entries, h_events, h_groups, h_latches, h_parts, h_ports, h_regs, h_reply, h_safeN, h_status, h_trims, h_waitMaint, ↓State.answer_but, ↓State.causeAt_but, ↓State.item_but, ↓State.ite_but]; done)
    | ((first
        | refine State.item_but _ _ _ _ _ _ h_regs h_reply h_status (fun s => ?_)
        | refine State.itemLen_but _ _ _ _ _ _ _ h_regs h_reply h_status (fun s => ?_)) <;> (try dsimp only) <;> (repeat' split) <;> first
      | with_reducible rfl
      | (simp [h_actions, h_caps, h_chans, h_clusters, h_drives, h_ens, h_entries, h_events, h_groups, h_latches, h_parts, h_ports, h_regs, h_reply, h_safeN, h_status, h_trims, h_waitMaint, ↓State.answer_but, ↓State.causeAt_but, ↓State.item_but, ↓State.ite_but]; done)
      | (rename_i heq; have hk := congrArg (fun x => x.1.but l) heq; simp [h_actions, h_caps, h_chans, h_clusters, h_drives, h_ens, h_entries, h_events, h_groups, h_latches, h_parts, h_ports, h_regs, h_reply, h_safeN, h_status, h_trims, h_waitMaint, ↓State.answer_but, ↓State.causeAt_but, ↓State.item_but, ↓State.ite_but] at hk; simp [hk, h_actions, h_caps, h_chans, h_clusters, h_drives, h_ens, h_entries, h_events, h_groups, h_latches, h_parts, h_ports, h_regs, h_reply, h_safeN, h_status, h_trims, h_waitMaint, ↓State.answer_but, ↓State.causeAt_but, ↓State.item_but, ↓State.ite_but]; done)))

theorem execSafeNRelease_but (s : State) (l : List Fld) (h_safeN : Fld.safeN ∈ l) :
    ∀ t, execSafeNRelease s = .next t → t.but l = s.but l := by
  intro t ht
  unfold execSafeNRelease at ht
  (try simp only [ok] at ht); (repeat' split at ht) <;> (replace ht := Host.Outcome.next.inj ht; subst ht; first
    | with_reducible rfl
    | (simp [h_safeN, ↓State.but_safeN, ↓State.ite_but]; done))

end Sys2Proof.Machine
end

