-- ==== Sys2Proof/Laws/Keep/Clock.lean ====
section
/-! SUPPORT. The frames of the operations of Machine/Clock.lean: the parts of the state that each of them can change. -/
set_option linter.all false

namespace Sys2Proof.Machine

@[simp] theorem State.masterTick_but (s : State) (l : List Fld) (h_now : Fld.now ∈ l) (h_trestle : Fld.trestle ∈ l) : (State.masterTick s).but l = s.but l := by
  unfold State.masterTick
  split <;> simp [State.but, h_now, h_trestle]

@[simp] theorem State.tickVaux_but (s : State) (l : List Fld) (h_clusters : Fld.clusters ∈ l) (h_now : Fld.now ∈ l) (h_supply : Fld.supply ∈ l) (h_trestle : Fld.trestle ∈ l) : (State.tickVaux s).but l = s.but l := by
  unfold State.tickVaux
  simp [h_clusters, h_now, h_supply, h_trestle, ↓State.masterTick_but, ↓State.setCluster_but, ↓State.but_supply, ↓State.each_but, ↓State.ite_but]

@[simp] theorem State.tickCrystal_but (s : State) (l : List Fld) (h_now : Fld.now ∈ l) (h_supply : Fld.supply ∈ l) : (State.tickCrystal s).but l = s.but l := by
  unfold State.tickCrystal
  (try dsimp only); (repeat' split) <;> first
    | with_reducible rfl
    | (simp [State.but, h_now, h_supply]; done)

@[simp] theorem State.timePasses_but (s : State) (l : List Fld) (h_clusters : Fld.clusters ∈ l) (h_now : Fld.now ∈ l) (h_supply : Fld.supply ∈ l) (h_trestle : Fld.trestle ∈ l) : (State.timePasses s).but l = s.but l := by
  unfold State.timePasses
  first
  | (simp [h_clusters, h_now, h_supply, h_trestle, ↓State.tickCrystal_but, ↓State.tickVaux_but, ↓State.ite_but]; done)
  | ((try dsimp only); (repeat' split) <;> first
    | with_reducible rfl
    | (simp [h_clusters, h_now, h_supply, h_trestle, ↓State.tickCrystal_but, ↓State.tickVaux_but, ↓State.ite_but]; done))

@[simp] theorem State.syncAdjust_but (s : State) (n : Nat) (l : List Fld) (h_clusters : Fld.clusters ∈ l) : (State.syncAdjust s n).but l = s.but l := by
  unfold State.syncAdjust
  first
  | (simp [h_clusters, ↓State.setCluster_but, ↓State.ite_but]; done)
  | ((try dsimp only); (repeat' split) <;> first
    | with_reducible rfl
    | (simp [h_clusters, ↓State.setCluster_but, ↓State.ite_but]; done)
    | (rename_i heq; have hk := congrArg (fun x => x.1.but l) heq; simp [h_clusters, ↓State.setCluster_but, ↓State.ite_but] at hk; simp [hk, h_clusters, ↓State.setCluster_but, ↓State.ite_but]; done))

@[simp] theorem State.pulseAt_but (s : State) (n : Nat) (l : List Fld) (h_actions : Fld.actions ∈ l) (h_caps : Fld.caps ∈ l) (h_chans : Fld.chans ∈ l) (h_clusters : Fld.clusters ∈ l) (h_drives : Fld.drives ∈ l) (h_ens : Fld.ens ∈ l) (h_entries : Fld.entries ∈ l) (h_events : Fld.events ∈ l) (h_groups : Fld.groups ∈ l) (h_latches : Fld.latches ∈ l) (h_parts : Fld.parts ∈ l) (h_ports : Fld.ports ∈ l) (h_regs : Fld.regs ∈ l) (h_safeN : Fld.safeN ∈ l) (h_trims : Fld.trims ∈ l) (h_waitMaint : Fld.waitMaint ∈ l) : (State.pulseAt s n).but l = s.but l := by
  unfold State.pulseAt
  first
  | (simp [h_actions, h_caps, h_chans, h_clusters, h_drives, h_ens, h_entries, h_events, h_groups, h_latches, h_parts, h_ports, h_regs, h_safeN, h_trims, h_waitMaint, ↓State.clockLoss_but, ↓State.setCluster_but, ↓State.syncAdjust_but, ↓State.ite_but]; done)
  | ((try dsimp only); (repeat' split) <;> first
    | with_reducible rfl
    | (simp [h_actions, h_caps, h_chans, h_clusters, h_drives, h_ens, h_entries, h_events, h_groups, h_latches, h_parts, h_ports, h_regs, h_safeN, h_trims, h_waitMaint, ↓State.clockLoss_but, ↓State.setCluster_but, ↓State.syncAdjust_but, ↓State.ite_but]; done)
    | (rename_i heq; have hk := congrArg (fun x => x.1.but l) heq; simp [h_actions, h_caps, h_chans, h_clusters, h_drives, h_ens, h_entries, h_events, h_groups, h_latches, h_parts, h_ports, h_regs, h_safeN, h_trims, h_waitMaint, ↓State.clockLoss_but, ↓State.setCluster_but, ↓State.syncAdjust_but, ↓State.ite_but] at hk; simp [h_actions, h_caps, h_chans, h_clusters, h_drives, h_ens, h_entries, h_events, h_groups, h_latches, h_parts, h_ports, h_regs, h_safeN, h_trims, h_waitMaint, ↓State.clockLoss_but, ↓State.setCluster_but, ↓State.syncAdjust_but, ↓State.ite_but, hk]; done))

theorem execFramePulse_but (s : State) (l : List Fld) (h_actions : Fld.actions ∈ l) (h_caps : Fld.caps ∈ l) (h_chans : Fld.chans ∈ l) (h_clusters : Fld.clusters ∈ l) (h_drives : Fld.drives ∈ l) (h_ens : Fld.ens ∈ l) (h_entries : Fld.entries ∈ l) (h_events : Fld.events ∈ l) (h_groups : Fld.groups ∈ l) (h_latches : Fld.latches ∈ l) (h_parts : Fld.parts ∈ l) (h_ports : Fld.ports ∈ l) (h_regs : Fld.regs ∈ l) (h_safeN : Fld.safeN ∈ l) (h_trims : Fld.trims ∈ l) (h_waitMaint : Fld.waitMaint ∈ l) :
    ∀ t, execFramePulse s = .next t → t.but l = s.but l := by
  intro t ht
  unfold execFramePulse at ht
  (try simp only [ok] at ht); (repeat' split at ht) <;> (replace ht := Host.Outcome.next.inj ht; subst ht; first
    | with_reducible rfl
    | (simp [h_actions, h_caps, h_chans, h_clusters, h_drives, h_ens, h_entries, h_events, h_groups, h_latches, h_parts, h_ports, h_regs, h_safeN, h_trims, h_waitMaint, ↓State.pulseAt_but, ↓State.each_but, ↓State.ite_but]; done)
    | (refine (State.each_but _ _ _ _ (fun s x _ => ?_)).trans ?_ <;> (try dsimp only) <;> (repeat' split) <;> first
      | with_reducible rfl
      | (simp [h_actions, h_caps, h_chans, h_clusters, h_drives, h_ens, h_entries, h_events, h_groups, h_latches, h_parts, h_ports, h_regs, h_safeN, h_trims, h_waitMaint, ↓State.pulseAt_but, ↓State.each_but, ↓State.ite_but]; done)))

theorem execReferenceFail_but (s : State) (l : List Fld) (h_events : Fld.events ∈ l) (h_refFailAt : Fld.refFailAt ∈ l) (h_regs : Fld.regs ∈ l) (h_timeFree : Fld.timeFree ∈ l) :
    ∀ t, execReferenceFail s = .next t → t.but l = s.but l := by
  suffices key : ∃ u, execReferenceFail s = .next u ∧ u.but l = s.but l by
    intro t ht; obtain ⟨u, hu, hk⟩ := key; rw [hu] at ht; replace ht := Host.Outcome.next.inj ht; subst ht; exact hk
  unfold execReferenceFail
  extract_lets e1
  have k1 : e1.but l = s.but l := by
    simp only [e1]
    (try dsimp only)
    (repeat' split) <;> first
      | with_reducible rfl
      | (simp [↓State.but_ev04At, ↓State.but_evNext, ↓State.but_evQueueGap, ↓State.but_evQueues, ↓State.but_evRing, ↓State.but_regs, h_events, h_refFailAt, h_regs, h_timeFree, ↓State.raise_but, ↓State.but_refFailAt, ↓State.but_timeFree, ↓State.ite_but]; done)
      | (refine Eq.trans ?_ rfl; simp [State.but, h_events, h_refFailAt, h_regs, h_timeFree])
  clear_value e1
  (try dsimp only)
  (repeat' split) <;> refine ⟨_, rfl, ?_⟩ <;> first
    | with_reducible rfl
    | (simp [↓State.but_ev04At, ↓State.but_evNext, ↓State.but_evQueueGap, ↓State.but_evQueues, ↓State.but_evRing, ↓State.but_regs, k1, h_events, h_refFailAt, h_regs, h_timeFree, ↓State.raise_but, ↓State.but_refFailAt, ↓State.but_timeFree, ↓State.ite_but]; done)
    | (refine Eq.trans (b := e1.but l) ?_ k1; simp [State.but, h_events, h_refFailAt, h_regs, h_timeFree]; done)

theorem execTimeFreeClear_but (s : State) (l : List Fld) (h_refFailAt : Fld.refFailAt ∈ l) (h_timeFree : Fld.timeFree ∈ l) :
    ∀ t, execTimeFreeClear s = .next t → t.but l = s.but l := by
  intro t ht
  unfold execTimeFreeClear at ht
  (repeat' split at ht) <;> (replace ht := Host.Outcome.next.inj ht; subst ht) <;> simp [State.but, h_refFailAt, h_timeFree]

end Sys2Proof.Machine
end

