-- ==== Sys2Proof/Laws/Keep/Drives.lean ====
section
/-! SUPPORT. The frames of the operations of Machine/Drives.lean: the parts of the state that each of them can change. -/
set_option linter.all false

namespace Sys2Proof.Machine

@[simp] theorem State.currentLoop_but (s : State) (d mid : Nat) (l : List Fld) (h_drives : Fld.drives ∈ l) (h_regs : Fld.regs ∈ l) : (State.currentLoop s d mid).but l = s.but l := by
  unfold State.currentLoop
  simp [h_drives, h_regs, ↓State.setDrive_but, ↓State.setReg_but, ↓State.ite_but]

@[simp] theorem State.phasePublished_but (s : State) (c mid : Nat) (l : List Fld) (h_drives : Fld.drives ∈ l) (h_regs : Fld.regs ∈ l) : (State.phasePublished s c mid).but l = s.but l := by
  unfold State.phasePublished
  simp [h_drives, h_regs, ↓State.currentLoop_but, ↓State.setDrive_but, ↓State.each_but, ↓State.ite_but]

@[simp] theorem State.takeDuties_but (s : State) (d : Nat) (l : List Fld) (h_drives : Fld.drives ∈ l) (h_events : Fld.events ∈ l) (h_regs : Fld.regs ∈ l) : (State.takeDuties s d).but l = s.but l := by
  unfold State.takeDuties
  extract_lets x duty
  split
  · rfl
  · generalize clipVector _ _ = c
    obtain ⟨cd, cq, cl⟩ := c
    dsimp -zeta -zetaHave only
    extract_lets a b
    have ka : a.but l = s.but l := State.setReg_but _ _ _ _ h_regs
    clear_value a
    have kb : b.but l = s.but l := (State.setDrive_but _ _ _ _ h_drives).trans ka
    clear_value b
    split
    · exact (State.raise_but _ _ _ _ _ _ _ h_events h_regs).trans kb
    · exact kb

@[simp] theorem State.phasePeriods_but (s : State) (d k : Nat) (l : List Fld) (h_drives : Fld.drives ∈ l) : (State.phasePeriods s d k).but l = s.but l := by
  unfold State.phasePeriods
  first
  | (simp [h_drives, ↓State.setDrive_but, ↓State.ite_but]; done)
  | ((try dsimp only); (repeat' split) <;> first
    | with_reducible rfl
    | (simp [h_drives, ↓State.setDrive_but, ↓State.ite_but]; done)
    | (rename_i heq; have hk := congrArg (fun x => x.1.but l) heq; simp [h_drives, ↓State.setDrive_but, ↓State.ite_but] at hk; simp [hk, h_drives, ↓State.setDrive_but, ↓State.ite_but]; done))

@[simp] theorem State.carrierPeriod_but (s : State) (d : Nat) (l : List Fld) (h_drives : Fld.drives ∈ l) (h_events : Fld.events ∈ l) (h_regs : Fld.regs ∈ l) : (State.carrierPeriod s d).but l = s.but l := by
  unfold State.carrierPeriod
  first
  | (simp [h_drives, h_events, h_regs, ↓State.phasePeriods_but, ↓State.setDrive_but, ↓State.takeDuties_but, ↓State.ite_but]; done)
  | ((try dsimp only); (repeat' split) <;> first
    | with_reducible rfl
    | (simp [h_drives, h_events, h_regs, ↓State.phasePeriods_but, ↓State.setDrive_but, ↓State.takeDuties_but, ↓State.ite_but]; done))

theorem execCarrierPeriod_but (d : Fin 4) (s : State) (l : List Fld) (h_drives : Fld.drives ∈ l) (h_events : Fld.events ∈ l) (h_regs : Fld.regs ∈ l) :
    ∀ t, execCarrierPeriod d s = .next t → t.but l = s.but l := by
  intro t ht
  unfold execCarrierPeriod at ht
  (try simp only [ok] at ht); (repeat' split at ht) <;> (replace ht := Host.Outcome.next.inj ht; subst ht; first
    | with_reducible rfl
    | (simp [h_drives, h_events, h_regs, ↓State.carrierPeriod_but, ↓State.ite_but]; done))

@[simp] theorem State.driveFault_but (s : State) (d cause : Nat) (l : List Fld) (h_drives : Fld.drives ∈ l) (h_events : Fld.events ∈ l) (h_regs : Fld.regs ∈ l) : (State.driveFault s d cause).but l = s.but l := by
  unfold State.driveFault
  first
  | (simp [h_drives, h_events, h_regs, ↓State.bump16_but, ↓State.driveSync_but, ↓State.raise_but, ↓State.setDrive_but, ↓State.ite_but]; done)
  | ((try dsimp only); (repeat' split) <;> first
    | with_reducible rfl
    | (simp [h_drives, h_events, h_regs, ↓State.bump16_but, ↓State.driveSync_but, ↓State.raise_but, ↓State.setDrive_but, ↓State.ite_but]; done))

theorem execDriveOvercurrent_but (c : Fin 512) (s : State) (l : List Fld) (h_drives : Fld.drives ∈ l) (h_events : Fld.events ∈ l) (h_regs : Fld.regs ∈ l) :
    ∀ t, execDriveOvercurrent c s = .next t → t.but l = s.but l := by
  intro t ht
  unfold execDriveOvercurrent at ht
  (try simp only [ok] at ht); (repeat' split at ht) <;> (replace ht := Host.Outcome.next.inj ht; subst ht; first
    | with_reducible rfl
    | (simp [h_drives, h_events, h_regs, ↓State.driveFault_but, ↓State.each_but, ↓State.ite_but]; done)
    | (refine (State.each_but _ _ _ _ (fun s x _ => ?_)).trans ?_ <;> (try dsimp only) <;> (repeat' split) <;> first
      | with_reducible rfl
      | (simp [h_drives, h_events, h_regs, ↓State.driveFault_but, ↓State.each_but, ↓State.ite_but]; done)))

@[simp] theorem State.stallTrack_but (s : State) (d : Nat) (l : List Fld) (h_drives : Fld.drives ∈ l) : (State.stallTrack s d).but l = s.but l := by
  unfold State.stallTrack
  simp [h_drives, ↓State.setDrive_but, ↓State.ite_but]

theorem execDriveStall_but (d : Fin 4) (s : State) (l : List Fld) (h_drives : Fld.drives ∈ l) (h_events : Fld.events ∈ l) (h_regs : Fld.regs ∈ l) :
    ∀ t, execDriveStall d s = .next t → t.but l = s.but l := by
  intro t ht
  unfold execDriveStall at ht
  (try simp only [ok] at ht); (repeat' split at ht) <;> (replace ht := Host.Outcome.next.inj ht; subst ht; first
    | with_reducible rfl
    | (simp [h_drives, h_events, h_regs, ↓State.driveFault_but, ↓State.ite_but]; done)
    | (rename_i heq; have hk := congrArg (fun x => x.1.but l) heq; simp [h_drives, h_events, h_regs, ↓State.driveFault_but, ↓State.ite_but] at hk; simp [hk, h_drives, h_events, h_regs, ↓State.driveFault_but, ↓State.ite_but]; done))

@[simp] theorem State.stand_but (s : State) (d : Nat) (l : List Fld) (h_drives : Fld.drives ∈ l) (h_regs : Fld.regs ∈ l) : (State.stand s d).but l = s.but l := by
  unfold State.stand
  simp [h_drives, h_regs, ↓State.setDrive_but, ↓State.setReg_but, ↓State.ite_but]

@[simp] theorem State.speedRead_but (s : State) (d : Nat) (q : Int) (t : Nat) (l : List Fld) (h_drives : Fld.drives ∈ l) (h_regs : Fld.regs ∈ l) : (State.speedRead s d q t).but l = s.but l := by
  unfold State.speedRead
  simp [h_drives, h_regs, ↓State.setDrive_but, ↓State.setReg_but, ↓State.stand_but, ↓State.ite_but]

@[simp] theorem State.speedLoop_but (s : State) (d : Nat) (l : List Fld) (h_drives : Fld.drives ∈ l) : (State.speedLoop s d).but l = s.but l := by
  unfold State.speedLoop
  simp [h_drives, ↓State.setDrive_but, ↓State.stallTrack_but, ↓State.ite_but]

@[simp] theorem State.posFail_but (s : State) (d : Nat) (l : List Fld) (h_drives : Fld.drives ∈ l) (h_events : Fld.events ∈ l) (h_regs : Fld.regs ∈ l) : (State.posFail s d).but l = s.but l := by
  unfold State.posFail
  simp [h_drives, h_events, h_regs, ↓State.bump16_but, ↓State.driveFault_but, ↓State.raise_but, ↓State.setDrive_but, ↓State.stand_but, ↓State.ite_but]

@[simp] theorem State.addStep_but (s : State) (d : Nat) (step : Int) (l : List Fld) (h_drives : Fld.drives ∈ l) (h_regs : Fld.regs ∈ l) : (State.addStep s d step).but l = s.but l := by
  unfold State.addStep
  simp [h_drives, h_regs, ↓State.setDrive_but, ↓State.setReg_but, ↓State.ite_but]

@[simp] theorem State.posGood_but (s : State) (d bits status : Nat) (l : List Fld) (h_drives : Fld.drives ∈ l) (h_events : Fld.events ∈ l) (h_regs : Fld.regs ∈ l) : (State.posGood s d bits status).but l = s.but l := by
  unfold State.posGood
  simp [h_drives, h_events, h_regs, ↓State.addStep_but, ↓State.posFail_but, ↓State.setDrive_but, ↓State.setReg_but, ↓State.speedLoop_but, ↓State.speedRead_but, ↓State.ite_but]

theorem execPositionRead_but (d : Fin 4) (rd : PosRead) (s : State) (l : List Fld) (h_drives : Fld.drives ∈ l) (h_events : Fld.events ∈ l) (h_regs : Fld.regs ∈ l) :
    ∀ t, execPositionRead d rd s = .next t → t.but l = s.but l := by
  intro t ht
  unfold execPositionRead at ht
  (try simp only [ok] at ht); (repeat' split at ht) <;> (replace ht := Host.Outcome.next.inj ht; subst ht; first
    | with_reducible rfl
    | (simp [h_drives, h_events, h_regs, ↓State.posFail_but, ↓State.posGood_but, ↓State.setDrive_but, ↓State.ite_but]; done))

theorem execStandstill_but (d : Fin 4) (s : State) (l : List Fld) (h_drives : Fld.drives ∈ l) (h_regs : Fld.regs ∈ l) :
    ∀ t, execStandstill d s = .next t → t.but l = s.but l := by
  intro t ht
  unfold execStandstill at ht
  (try simp only [ok] at ht); (repeat' split at ht) <;> (replace ht := Host.Outcome.next.inj ht; subst ht; first
    | with_reducible rfl
    | (simp [h_drives, h_regs, ↓State.stallTrack_but, ↓State.stand_but, ↓State.ite_but]; done))

theorem execRun_but (r : Role) (d : Fin 4) (v : Byte) (s : State) (l : List Fld) (h_drives : Fld.drives ∈ l) (h_events : Fld.events ∈ l) (h_regs : Fld.regs ∈ l) (h_reply : Fld.reply ∈ l) (h_status : Fld.status ∈ l) :
    ∀ t, execRun r d v s = .next t → t.but l = s.but l := by
  intro t ht
  unfold execRun at ht
  (try simp only [ok] at ht); (repeat' split at ht) <;> (replace ht := Host.Outcome.next.inj ht; subst ht; first
    | with_reducible rfl
    | (simp [h_drives, h_events, h_regs, h_reply, h_status, ↓State.answer_but, ↓State.item_but, ↓State.runWrite_but, ↓State.ite_but]; done)
    | ((first
        | refine State.item_but _ _ _ _ _ _ h_regs h_reply h_status (fun s => ?_)
        | refine State.itemLen_but _ _ _ _ _ _ _ h_regs h_reply h_status (fun s => ?_)) <;> (try dsimp only) <;> (repeat' split) <;> first
      | with_reducible rfl
      | (simp [h_drives, h_events, h_regs, h_reply, h_status, ↓State.answer_but, ↓State.item_but, ↓State.runWrite_but, ↓State.ite_but]; done)
      | (rename_i heq; have hk := congrArg (fun x => x.1.but l) heq; simp [h_drives, h_events, h_regs, h_reply, h_status, ↓State.answer_but, ↓State.item_but, ↓State.runWrite_but, ↓State.ite_but] at hk; simp [hk, h_drives, h_events, h_regs, h_reply, h_status, ↓State.answer_but, ↓State.item_but, ↓State.runWrite_but, ↓State.ite_but]; done)))

@[simp] theorem State.clearFault_but (s : State) (d : Nat) (l : List Fld) (h_drives : Fld.drives ∈ l) (h_events : Fld.events ∈ l) (h_regs : Fld.regs ∈ l) (h_reply : Fld.reply ∈ l) (h_status : Fld.status ∈ l) : (State.clearFault s d).but l = s.but l := by
  unfold State.clearFault
  simp [h_drives, h_events, h_regs, h_reply, h_status, ↓State.answer_but, ↓State.driveSync_but, ↓State.setDrive_but, ↓State.ite_but]

theorem execClearFault_but (r : Role) (d : Fin 4) (v : Byte) (s : State) (l : List Fld) (h_drives : Fld.drives ∈ l) (h_events : Fld.events ∈ l) (h_regs : Fld.regs ∈ l) (h_reply : Fld.reply ∈ l) (h_status : Fld.status ∈ l) :
    ∀ t, execClearFault r d v s = .next t → t.but l = s.but l := by
  intro t ht
  unfold execClearFault at ht
  (try simp only [ok] at ht); (repeat' split at ht) <;> (replace ht := Host.Outcome.next.inj ht; subst ht; first
    | with_reducible rfl
    | (simp [h_drives, h_events, h_regs, h_reply, h_status, ↓State.clearFault_but, ↓State.item_but, ↓State.ite_but]; done)
    | ((first
        | refine State.item_but _ _ _ _ _ _ h_regs h_reply h_status (fun s => ?_)
        | refine State.itemLen_but _ _ _ _ _ _ _ h_regs h_reply h_status (fun s => ?_)) <;> (try dsimp only) <;> (repeat' split) <;> first
      | with_reducible rfl
      | (simp [h_drives, h_events, h_regs, h_reply, h_status, ↓State.clearFault_but, ↓State.item_but, ↓State.ite_but]; done)
      | (rename_i heq; have hk := congrArg (fun x => x.1.but l) heq; simp [h_drives, h_events, h_regs, h_reply, h_status, ↓State.clearFault_but, ↓State.item_but, ↓State.ite_but] at hk; simp [hk, h_drives, h_events, h_regs, h_reply, h_status, ↓State.clearFault_but, ↓State.item_but, ↓State.ite_but]; done)))

end Sys2Proof.Machine
end

