-- ==== Sys2Proof/Laws/Keep/Measure.lean ====
section
/-! SUPPORT. The frames of the operations of Machine/Measure.lean: the parts of the state that each of them can change. -/
set_option linter.all false

namespace Sys2Proof.Machine

@[simp] theorem State.setRound_but (s : State) (n g : Nat) (r : Round) (l : List Fld) (h_clusters : Fld.clusters ∈ l) : (State.setRound s n g r).but l = s.but l := by
  unfold State.setRound
  first
  | (simp [h_clusters, ↓State.setCluster_but, ↓State.ite_but]; done)
  | ((try dsimp only); (repeat' split) <;> first
    | with_reducible rfl
    | (simp [h_clusters, ↓State.setCluster_but, ↓State.ite_but]; done))

@[simp] theorem State.visitEnd_but (s : State) (c : Nat) (pair : Bool) (l : List Fld) (h_clusters : Fld.clusters ∈ l) : (State.visitEnd s c pair).but l = s.but l := by
  unfold State.visitEnd
  first
  | (simp [h_clusters, ↓State.setCluster_but, ↓State.setRound_but, ↓State.ite_but]; done)
  | ((try dsimp only); (repeat' split) <;> first
    | with_reducible rfl
    | (simp [h_clusters, ↓State.setCluster_but, ↓State.setRound_but, ↓State.ite_but]; done))

@[simp] theorem State.roundBreak_but (s : State) (n g at_ : Nat) (l : List Fld) (h_clusters : Fld.clusters ∈ l) : (State.roundBreak s n g at_).but l = s.but l := by
  unfold State.roundBreak
  first
  | (simp [h_clusters, ↓State.setRound_but, ↓State.ite_but]; done)
  | ((try dsimp only); (repeat' split) <;> first
    | with_reducible rfl
    | (simp [h_clusters, ↓State.setRound_but, ↓State.ite_but]; done))

@[simp] theorem State.lengthen_but (s : State) (n g ns : Nat) (l : List Fld) (h_chans : Fld.chans ∈ l) : (State.lengthen s n g ns).but l = s.but l := by
  unfold State.lengthen
  first
  | (simp [h_chans, ↓State.setChan_but, ↓State.each_but, ↓State.ite_but]; done)
  | ((try dsimp only); (repeat' split) <;> first
    | with_reducible rfl
    | (simp [h_chans, ↓State.setChan_but, ↓State.each_but, ↓State.ite_but]; done)
    | (refine (State.each_but _ _ _ _ (fun s x _ => ?_)).trans ?_ <;> (try dsimp only) <;> (repeat' split) <;> first
      | with_reducible rfl
      | (simp [h_chans, ↓State.setChan_but, ↓State.each_but, ↓State.ite_but]; done)))

@[simp] theorem State.warnEvent_but (s : State) (c side : Nat) (e : Option Bool) (l : List Fld) (h_events : Fld.events ∈ l) (h_regs : Fld.regs ∈ l) : (State.warnEvent s c side e).but l = s.but l := by
  unfold State.warnEvent
  (try dsimp only); (repeat' split) <;> first
    | with_reducible rfl
    | (simp [h_events, h_regs, ↓State.raise_but, ↓State.ite_but]; done)
    | (rename_i heq; have hk := congrArg (fun x => x.1.but l) heq; simp [h_events, h_regs, ↓State.raise_but, ↓State.ite_but] at hk; simp [hk, h_events, h_regs, ↓State.raise_but, ↓State.ite_but]; done)

@[simp] theorem State.warnEvaluate_but (s : State) (c r : Nat) (l : List Fld) (h_chans : Fld.chans ∈ l) (h_events : Fld.events ∈ l) (h_regs : Fld.regs ∈ l) : (State.warnEvaluate s c r).but l = s.but l := by
  unfold State.warnEvaluate
  simp [h_chans, h_events, h_regs, ↓State.setChan_but, ↓State.warnEvent_but, ↓State.ite_but]

@[simp] theorem State.addCharge_but (s : State) (c : Nat) (q : Int) (l : List Fld) (h_chans : Fld.chans ∈ l) (h_regs : Fld.regs ∈ l) : (State.addCharge s c q).but l = s.but l := by
  unfold State.addCharge
  simp [h_chans, h_regs, ↓State.setChan_but, ↓State.setReg_but, ↓State.ite_but]

@[simp] theorem State.addEnergy_but (s : State) (c : Nat) (e : Int) (l : List Fld) (h_chans : Fld.chans ∈ l) (h_parts : Fld.parts ∈ l) : (State.addEnergy s c e).but l = s.but l := by
  unfold State.addEnergy
  simp [h_chans, h_parts, ↓State.setChan_but, ↓State.setPart_but, ↓State.ite_but]

@[simp] theorem State.visitCounts_but (s : State) (c : Nat) (w : Window) (mean gap : Int) (l : List Fld) (h_chans : Fld.chans ∈ l) (h_parts : Fld.parts ∈ l) (h_regs : Fld.regs ∈ l) : (State.visitCounts s c w mean gap).but l = s.but l := by
  unfold State.visitCounts
  first
  | (simp [h_chans, h_parts, h_regs, ↓State.addCharge_but, ↓State.addEnergy_but, ↓State.gapFlag_but, ↓State.setChan_but, ↓State.ite_but]; done)
  | ((try dsimp only); (repeat' split) <;> first
    | with_reducible rfl
    | (simp [h_chans, h_parts, h_regs, ↓State.addCharge_but, ↓State.addEnergy_but, ↓State.gapFlag_but, ↓State.setChan_but, ↓State.ite_but]; done))

@[simp] theorem State.settleCount_but (s : State) (c r : Nat) (l : List Fld) (h_chans : Fld.chans ∈ l) : (State.settleCount s c r).but l = s.but l := by
  unfold State.settleCount
  simp [h_chans, ↓State.setChan_but, ↓State.ite_but]

@[simp] theorem State.trimUpdate_but (s : State) (c : Nat) (rail : Int) (l : List Fld) (h_events : Fld.events ∈ l) (h_regs : Fld.regs ∈ l) (h_trims : Fld.trims ∈ l) : (State.trimUpdate s c rail).but l = s.but l := by
  unfold State.trimUpdate
  first
  | (simp [h_events, h_regs, h_trims, ↓State.bump16_but, ↓State.raise_but, ↓State.setTrim_but, ↓State.ite_but]; done)
  | ((try dsimp only); (repeat' split) <;> first
    | with_reducible rfl
    | (simp [h_events, h_regs, h_trims, ↓State.bump16_but, ↓State.raise_but, ↓State.setTrim_but, ↓State.ite_but]; done))

@[simp] theorem State.benchWatch_but (s : State) (c r : Nat) (l : List Fld) (h_parts : Fld.parts ∈ l) : (State.benchWatch s c r).but l = s.but l := by
  unfold State.benchWatch
  simp [h_parts, ↓State.setPart_but, ↓State.each_but, ↓State.ite_but]

@[simp] theorem State.samplePut_but (s : State) (k head value stamp : Nat) (l : List Fld) (h_events : Fld.events ∈ l) (h_regs : Fld.regs ∈ l) (h_streams : Fld.streams ∈ l) : (State.samplePut s k head value stamp).but l = s.but l := by
  unfold State.samplePut
  simp [h_events, h_regs, h_streams, ↓State.bump32_but, ↓State.raise_but, ↓State.setReg_but, ↓State.setStream_but, ↓State.ite_but]

@[simp] theorem State.streamResult_but (s : State) (k c r stamp : Nat) (stale : Bool) (l : List Fld) (h_events : Fld.events ∈ l) (h_regs : Fld.regs ∈ l) (h_streams : Fld.streams ∈ l) : (State.streamResult s k c r stamp stale).but l = s.but l := by
  unfold State.streamResult
  first
  | (simp [h_events, h_regs, h_streams, ↓State.samplePut_but, ↓State.setStream_but, ↓State.ite_but]; done)
  | ((try dsimp only); (repeat' split) <;> first
    | with_reducible rfl
    | (simp [h_events, h_regs, h_streams, ↓State.samplePut_but, ↓State.setStream_but, ↓State.ite_but]; done)
    | (rename_i heq; have hk := congrArg (fun x => x.1.but l) heq; simp [h_events, h_regs, h_streams, ↓State.samplePut_but, ↓State.setStream_but, ↓State.ite_but] at hk; simp [h_events, h_regs, h_streams, ↓State.samplePut_but, ↓State.setStream_but, ↓State.ite_but, hk]; done))

@[simp] theorem State.streamsTake_but (s : State) (c r stamp : Nat) (stale : Bool) (l : List Fld) (h_events : Fld.events ∈ l) (h_regs : Fld.regs ∈ l) (h_streams : Fld.streams ∈ l) : (State.streamsTake s c r stamp stale).but l = s.but l := by
  unfold State.streamsTake
  first
  | (simp [h_events, h_regs, h_streams, ↓State.streamResult_but, ↓State.each_but, ↓State.ite_but]; done)
  | ((try dsimp only); (repeat' split) <;> first
    | with_reducible rfl
    | (simp [h_events, h_regs, h_streams, ↓State.streamResult_but, ↓State.each_but, ↓State.ite_but]; done)
    | (refine (State.each_but _ _ _ _ (fun s x _ => ?_)).trans ?_ <;> (try dsimp only) <;> (repeat' split) <;> first
      | with_reducible rfl
      | (simp [h_events, h_regs, h_streams, ↓State.streamResult_but, ↓State.each_but, ↓State.ite_but]; done)))

@[simp] theorem State.rampDetect_but (s : State) (c r : Nat) (l : List Fld) (h_caps : Fld.caps ∈ l) (h_chans : Fld.chans ∈ l) (h_entries : Fld.entries ∈ l) (h_regs : Fld.regs ∈ l) (h_trims : Fld.trims ∈ l) : (State.rampDetect s c r).but l = s.but l := by
  unfold State.rampDetect
  simp [h_caps, h_chans, h_entries, h_regs, h_trims, ↓State.toState_but, ↓State.ite_but]

@[simp] theorem State.tableTake_but (s : State) (c r : Nat) (rail : Int) (stamp : Nat) (l : List Fld) (h_events : Fld.events ∈ l) (h_regs : Fld.regs ∈ l) (h_streams : Fld.streams ∈ l) : (State.tableTake s c r rail stamp).but l = s.but l := by
  unfold State.tableTake
  first
  | (simp [h_events, h_regs, h_streams, ↓State.setReg_but, ↓State.streamsTake_but, ↓State.ite_but]; done)
  | ((try dsimp only); (repeat' split) <;> first
    | with_reducible rfl
    | (simp [h_events, h_regs, h_streams, ↓State.setReg_but, ↓State.streamsTake_but, ↓State.ite_but]; done))

@[simp] theorem State.publish_but (s : State) (c : Nat) (w : Window) (r : Nat) (test : Bool) (l : List Fld) (h_caps : Fld.caps ∈ l) (h_chans : Fld.chans ∈ l) (h_drives : Fld.drives ∈ l) (h_entries : Fld.entries ∈ l) (h_events : Fld.events ∈ l) (h_parts : Fld.parts ∈ l) (h_regs : Fld.regs ∈ l) (h_streams : Fld.streams ∈ l) (h_trims : Fld.trims ∈ l) : (State.publish s c w r test).but l = s.but l := by
  unfold State.publish
  first
  | (simp [h_caps, h_chans, h_drives, h_entries, h_events, h_parts, h_regs, h_streams, h_trims, ↓State.benchWatch_but, ↓State.noteCap_but, ↓State.phasePublished_but, ↓State.rampDetect_but, ↓State.setChan_but, ↓State.settleCount_but, ↓State.tableTake_but, ↓State.trimUpdate_but, ↓State.warnEvaluate_but, ↓State.ite_but]; done)
  | ((try dsimp only); (repeat' split) <;> first
    | with_reducible rfl
    | (simp [h_caps, h_chans, h_drives, h_entries, h_events, h_parts, h_regs, h_streams, h_trims, ↓State.benchWatch_but, ↓State.noteCap_but, ↓State.phasePublished_but, ↓State.rampDetect_but, ↓State.setChan_but, ↓State.settleCount_but, ↓State.tableTake_but, ↓State.trimUpdate_but, ↓State.warnEvaluate_but, ↓State.ite_but]; done))

@[simp] theorem State.tourClose_but (s : State) (n : Nat) (l : List Fld) (h_clusters : Fld.clusters ∈ l) (h_regs : Fld.regs ∈ l) : (State.tourClose s n).but l = s.but l := by
  unfold State.tourClose
  first
  | (simp [h_clusters, h_regs, ↓State.setCluster_but, ↓State.setReg_but, ↓State.ite_but]; done)
  | ((try dsimp only); (repeat' split) <;> first
    | with_reducible rfl
    | (simp [h_clusters, h_regs, ↓State.setCluster_but, ↓State.setReg_but, ↓State.ite_but]; done))

@[simp] theorem State.tourMark_but (s : State) (c : Nat) (l : List Fld) (h_clusters : Fld.clusters ∈ l) (h_regs : Fld.regs ∈ l) : (State.tourMark s c).but l = s.but l := by
  unfold State.tourMark
  first
  | (simp [h_clusters, h_regs, ↓State.setCluster_but, ↓State.tourClose_but, ↓State.ite_but]; done)
  | ((try dsimp only); (repeat' split) <;> first
    | with_reducible rfl
    | (simp [h_clusters, h_regs, ↓State.setCluster_but, ↓State.tourClose_but, ↓State.ite_but]; done))

@[simp] theorem State.sliceEvent_but (s : State) (n k : Nat) (l : List Fld) (h_events : Fld.events ∈ l) (h_regs : Fld.regs ∈ l) : (State.sliceEvent s n k).but l = s.but l := by
  unfold State.sliceEvent
  simp [h_events, h_regs, ↓State.raise_but, ↓State.ite_but]

@[simp] theorem State.spareFails_but (s : State) (n k : Nat) (l : List Fld) (h_clusters : Fld.clusters ∈ l) (h_events : Fld.events ∈ l) (h_regs : Fld.regs ∈ l) : (State.spareFails s n k).but l = s.but l := by
  unfold State.spareFails
  simp [h_clusters, h_events, h_regs, ↓State.setCluster_but, ↓State.sliceEvent_but, ↓State.ite_but]

@[simp] theorem State.takeOver_but (s : State) (n g : Nat) (hw ends : Bool) (l : List Fld) (h_clusters : Fld.clusters ∈ l) (h_events : Fld.events ∈ l) (h_regs : Fld.regs ∈ l) : (State.takeOver s n g hw ends).but l = s.but l := by
  unfold State.takeOver
  (try dsimp only); (repeat' split) <;> first
    | with_reducible rfl
    | (simp [h_clusters, h_events, h_regs, ↓State.bump32_but, ↓State.raise_but, ↓State.setCluster_but, ↓State.spareFails_but, ↓State.ite_but]; done)
    | (rename_i heq; have hk := congrArg (fun x => x.1.but l) heq; simp [h_clusters, h_events, h_regs, ↓State.bump32_but, ↓State.raise_but, ↓State.setCluster_but, ↓State.spareFails_but, ↓State.ite_but] at hk; simp [hk, h_clusters, h_events, h_regs, ↓State.bump32_but, ↓State.raise_but, ↓State.setCluster_but, ↓State.spareFails_but, ↓State.ite_but]; done)

@[simp] theorem State.tourCompare_but (s : State) (c ps r : Nat) (t : Tour) (l : List Fld) (h_clusters : Fld.clusters ∈ l) (h_events : Fld.events ∈ l) (h_regs : Fld.regs ∈ l) : (State.tourCompare s c ps r t).but l = s.but l := by
  unfold State.tourCompare
  (try dsimp only); (repeat' split) <;> first
    | with_reducible rfl
    | (simp [h_clusters, h_events, h_regs, ↓State.bump16_but, ↓State.setCluster_but, ↓State.takeOver_but, ↓State.tourMark_but, ↓State.ite_but]; done)
    | (rename_i heq; have hk := congrArg (fun x => x.1.but l) heq; simp [h_clusters, h_events, h_regs, ↓State.bump16_but, ↓State.setCluster_but, ↓State.takeOver_but, ↓State.tourMark_but, ↓State.ite_but] at hk; simp [hk, h_clusters, h_events, h_regs, ↓State.bump16_but, ↓State.setCluster_but, ↓State.takeOver_but, ↓State.tourMark_but, ↓State.ite_but]; done)

@[simp] theorem State.marginOn_but (s : State) (c v : Nat) (static : Bool) (l : List Fld) (h_caps : Fld.caps ∈ l) (h_chans : Fld.chans ∈ l) (h_entries : Fld.entries ∈ l) (h_events : Fld.events ∈ l) (h_regs : Fld.regs ∈ l) (h_trims : Fld.trims ∈ l) : (State.marginOn s c v static).but l = s.but l := by
  unfold State.marginOn
  first
  | (simp [h_caps, h_chans, h_entries, h_events, h_regs, h_trims, ↓State.setChan_but, ↓State.toState_but, ↓State.warnEnd_but, ↓State.ite_but]; done)
  | ((try dsimp only); (repeat' split) <;> first
    | with_reducible rfl
    | (simp [h_caps, h_chans, h_entries, h_events, h_regs, h_trims, ↓State.setChan_but, ↓State.toState_but, ↓State.warnEnd_but, ↓State.ite_but]; done))

@[simp] theorem State.marginAfter_but (s : State) (c : Nat) (l : List Fld) (h_caps : Fld.caps ∈ l) (h_chans : Fld.chans ∈ l) (h_entries : Fld.entries ∈ l) (h_events : Fld.events ∈ l) (h_regs : Fld.regs ∈ l) (h_trims : Fld.trims ∈ l) : (State.marginAfter s c).but l = s.but l := by
  unfold State.marginAfter
  first
  | (simp [h_caps, h_chans, h_entries, h_events, h_regs, h_trims, ↓State.marginOn_but, ↓State.setChan_but, ↓State.ite_but]; done)
  | ((try dsimp only); (repeat' split) <;> first
    | with_reducible rfl
    | (simp [h_caps, h_chans, h_entries, h_events, h_regs, h_trims, ↓State.marginOn_but, ↓State.setChan_but, ↓State.ite_but]; done)
    | (rename_i heq; have hk := congrArg (fun x => x.1.but l) heq; simp [h_caps, h_chans, h_entries, h_events, h_regs, h_trims, ↓State.marginOn_but, ↓State.setChan_but, ↓State.ite_but] at hk; simp [hk, h_caps, h_chans, h_entries, h_events, h_regs, h_trims, ↓State.marginOn_but, ↓State.setChan_but, ↓State.ite_but]; done))

@[simp] theorem State.owSkip_but (s : State) (c : Nat) (l : List Fld) (h_caps : Fld.caps ∈ l) (h_chans : Fld.chans ∈ l) (h_entries : Fld.entries ∈ l) (h_events : Fld.events ∈ l) (h_regs : Fld.regs ∈ l) (h_trims : Fld.trims ∈ l) : (State.owSkip s c).but l = s.but l := by
  unfold State.owSkip
  first
  | (simp [h_caps, h_chans, h_entries, h_events, h_regs, h_trims, ↓State.marginAfter_but, ↓State.setChan_but, ↓State.ite_but]; done)
  | ((try dsimp only); (repeat' split) <;> first
    | with_reducible rfl
    | (simp [h_caps, h_chans, h_entries, h_events, h_regs, h_trims, ↓State.marginAfter_but, ↓State.setChan_but, ↓State.ite_but]; done))

theorem execSliceResult_but (c : Fin 512) (visit : Visit) (s : State) (l : List Fld) (h_caps : Fld.caps ∈ l) (h_chans : Fld.chans ∈ l) (h_clusters : Fld.clusters ∈ l) (h_drives : Fld.drives ∈ l) (h_entries : Fld.entries ∈ l) (h_events : Fld.events ∈ l) (h_parts : Fld.parts ∈ l) (h_regs : Fld.regs ∈ l) (h_streams : Fld.streams ∈ l) (h_trims : Fld.trims ∈ l) :
    ∀ t, execSliceResult c visit s = .next t → t.but l = s.but l := by
  intro t ht
  unfold execSliceResult at ht
  (try simp only [ok] at ht); (repeat' split at ht) <;> (replace ht := Host.Outcome.next.inj ht; subst ht; first
    | with_reducible rfl
    | (simp [h_caps, h_chans, h_clusters, h_drives, h_entries, h_events, h_parts, h_regs, h_streams, h_trims, ↓State.owSkip_but, ↓State.publish_but, ↓State.tourCompare_but, ↓State.visitCounts_but, ↓State.visitEnd_but, ↓State.ite_but]; done)
    | (rename_i heq; have hk := congrArg (fun x => x.1.but l) heq; simp [h_caps, h_chans, h_clusters, h_drives, h_entries, h_events, h_parts, h_regs, h_streams, h_trims, ↓State.owSkip_but, ↓State.publish_but, ↓State.tourCompare_but, ↓State.visitCounts_but, ↓State.visitEnd_but, ↓State.ite_but] at hk; simp [h_caps, h_chans, h_clusters, h_drives, h_entries, h_events, h_parts, h_regs, h_streams, h_trims, ↓State.owSkip_but, ↓State.publish_but, ↓State.tourCompare_but, ↓State.visitCounts_but, ↓State.visitEnd_but, ↓State.ite_but, hk]; done))

@[simp] theorem State.epochEnd_but (s : State) (n : Nat) (l : List Fld) (h_clusters : Fld.clusters ∈ l) (h_regs : Fld.regs ∈ l) : (State.epochEnd s n).but l = s.but l := by
  unfold State.epochEnd
  first
  | (simp [h_clusters, h_regs, ↓State.bump32_but, ↓State.setCluster_but, ↓State.ite_but]; done)
  | ((try dsimp only); (repeat' split) <;> first
    | with_reducible rfl
    | (simp [h_clusters, h_regs, ↓State.bump32_but, ↓State.setCluster_but, ↓State.ite_but]; done))

theorem execEpochEnd_but (n : Fin 8) (s : State) (l : List Fld) (h_clusters : Fld.clusters ∈ l) (h_regs : Fld.regs ∈ l) :
    ∀ t, execEpochEnd n s = .next t → t.but l = s.but l := by
  intro t ht
  unfold execEpochEnd at ht
  (try simp only [ok] at ht); (repeat' split at ht) <;> (replace ht := Host.Outcome.next.inj ht; subst ht; first
    | with_reducible rfl
    | (simp [h_clusters, h_regs, ↓State.epochEnd_but, ↓State.tourClose_but, ↓State.ite_but]; done))

@[simp] theorem State.refCheck_but (s : State) (n check : Nat) (l : List Fld) (h_clusters : Fld.clusters ∈ l) (h_events : Fld.events ∈ l) (h_regs : Fld.regs ∈ l) : (State.refCheck s n check).but l = s.but l := by
  unfold State.refCheck
  first
  | (simp [h_clusters, h_events, h_regs, ↓State.raise_but, ↓State.setCluster_but, ↓State.ite_but]; done)
  | ((try dsimp only); (repeat' split) <;> first
    | with_reducible rfl
    | (simp [h_clusters, h_events, h_regs, ↓State.raise_but, ↓State.setCluster_but, ↓State.ite_but]; done))

@[simp] theorem State.spareCalibrated_but (s : State) (n k : Nat) (cal : Calibration) (l : List Fld) (h_clusters : Fld.clusters ∈ l) (h_events : Fld.events ∈ l) (h_regs : Fld.regs ∈ l) : (State.spareCalibrated s n k cal).but l = s.but l := by
  unfold State.spareCalibrated
  first
  | (simp [h_clusters, h_events, h_regs, ↓State.refCheck_but, ↓State.setCluster_but, ↓State.setReg_but, ↓State.spareFails_but, ↓State.tourClose_but, ↓State.ite_but]; done)
  | ((try dsimp only); (repeat' split) <;> first
    | with_reducible rfl
    | (simp [h_clusters, h_events, h_regs, ↓State.refCheck_but, ↓State.setCluster_but, ↓State.setReg_but, ↓State.spareFails_but, ↓State.tourClose_but, ↓State.ite_but]; done))

theorem execSpareCalibrationDone_but (n : Fin 8) (cal : Calibration) (s : State) (l : List Fld) (h_clusters : Fld.clusters ∈ l) (h_events : Fld.events ∈ l) (h_regs : Fld.regs ∈ l) :
    ∀ t, execSpareCalibrationDone n cal s = .next t → t.but l = s.but l := by
  intro t ht
  unfold execSpareCalibrationDone at ht
  (try simp only [ok] at ht); (repeat' split at ht) <;> (replace ht := Host.Outcome.next.inj ht; subst ht; first
    | with_reducible rfl
    | (simp [h_clusters, h_events, h_regs, ↓State.spareCalibrated_but, ↓State.ite_but]; done)
    | (rename_i heq; have hk := congrArg (fun x => x.1.but l) heq; simp [h_clusters, h_events, h_regs, ↓State.spareCalibrated_but, ↓State.ite_but] at hk; simp [hk, h_clusters, h_events, h_regs, ↓State.spareCalibrated_but, ↓State.ite_but]; done))

@[simp] theorem State.sliceHwFault_but (s : State) (n k : Nat) (l : List Fld) (h_clusters : Fld.clusters ∈ l) (h_events : Fld.events ∈ l) (h_regs : Fld.regs ∈ l) : (State.sliceHwFault s n k).but l = s.but l := by
  unfold State.sliceHwFault
  (try dsimp only); (repeat' split) <;> first
    | with_reducible rfl
    | (simp [h_clusters, h_events, h_regs, ↓State.setCluster_but, ↓State.sliceEvent_but, ↓State.spareFails_but, ↓State.takeOver_but, ↓State.ite_but]; done)
    | (rename_i heq; have hk := congrArg (fun x => x.1.but l) heq; simp [h_clusters, h_events, h_regs, ↓State.setCluster_but, ↓State.sliceEvent_but, ↓State.spareFails_but, ↓State.takeOver_but, ↓State.ite_but] at hk; simp [hk, h_clusters, h_events, h_regs, ↓State.setCluster_but, ↓State.sliceEvent_but, ↓State.spareFails_but, ↓State.takeOver_but, ↓State.ite_but]; done)

theorem execSliceHwFault_but (n : Fin 8) (k : Fin 9) (s : State) (l : List Fld) (h_clusters : Fld.clusters ∈ l) (h_events : Fld.events ∈ l) (h_regs : Fld.regs ∈ l) :
    ∀ t, execSliceHwFault n k s = .next t → t.but l = s.but l := by
  intro t ht
  unfold execSliceHwFault at ht
  (try simp only [ok] at ht); (repeat' split at ht) <;> (replace ht := Host.Outcome.next.inj ht; subst ht; first
    | with_reducible rfl
    | (simp [h_clusters, h_events, h_regs, ↓State.sliceHwFault_but, ↓State.ite_but]; done))

@[simp] theorem State.owBegin_but (s : State) (c : Nat) (l : List Fld) (h_chans : Fld.chans ∈ l) : (State.owBegin s c).but l = s.but l := by
  unfold State.owBegin
  first
  | (simp [h_chans, ↓State.setChan_but, ↓State.ite_but]; done)
  | ((try dsimp only); (repeat' split) <;> first
    | with_reducible rfl
    | (simp [h_chans, ↓State.setChan_but, ↓State.ite_but]; done))

theorem execOpenWireTest_but (n : Fin 8) (g : Fin 8) (s : State) (l : List Fld) (h_chans : Fld.chans ∈ l) (h_clusters : Fld.clusters ∈ l) :
    ∀ t, execOpenWireTest n g s = .next t → t.but l = s.but l := by
  intro t ht
  unfold execOpenWireTest at ht
  (try simp only [ok] at ht); (repeat' split at ht) <;> (replace ht := Host.Outcome.next.inj ht; subst ht; first
    | with_reducible rfl
    | (simp [h_chans, h_clusters, ↓State.owBegin_but, ↓State.setCluster_but, ↓State.each_but, ↓State.ite_but]; done)
    | (refine (State.each_but _ _ _ _ (fun s x _ => ?_)).trans ?_ <;> (try dsimp only) <;> (repeat' split) <;> first
      | with_reducible rfl
      | (simp [h_chans, h_clusters, ↓State.owBegin_but, ↓State.setCluster_but, ↓State.each_but, ↓State.ite_but]; done))
    | (rename_i heq; have hk := congrArg (fun x => x.1.but l) heq; simp [h_chans, h_clusters, ↓State.owBegin_but, ↓State.setCluster_but, ↓State.each_but, ↓State.ite_but] at hk; simp [h_chans, h_clusters, ↓State.owBegin_but, ↓State.setCluster_but, ↓State.each_but, ↓State.ite_but, hk]; done))

@[simp] theorem State.owCount_but (s : State) (c : Nat) (fails : Bool) (l : List Fld) (h_chans : Fld.chans ∈ l) (h_events : Fld.events ∈ l) (h_regs : Fld.regs ∈ l) : (State.owCount s c fails).but l = s.but l := by
  unfold State.owCount
  simp [h_chans, h_events, h_regs, ↓State.raise_but, ↓State.setChan_but, ↓State.ite_but]

@[simp] theorem State.owResult_but (s : State) (c : Nat) (run : Bool) (first second : Visit) (l : List Fld) (h_caps : Fld.caps ∈ l) (h_chans : Fld.chans ∈ l) (h_clusters : Fld.clusters ∈ l) (h_drives : Fld.drives ∈ l) (h_entries : Fld.entries ∈ l) (h_events : Fld.events ∈ l) (h_parts : Fld.parts ∈ l) (h_regs : Fld.regs ∈ l) (h_streams : Fld.streams ∈ l) (h_trims : Fld.trims ∈ l) : (State.owResult s c run first second).but l = s.but l := by
  unfold State.owResult
  first
  | (simp [h_caps, h_chans, h_clusters, h_drives, h_entries, h_events, h_parts, h_regs, h_streams, h_trims, ↓State.lengthen_but, ↓State.marginAfter_but, ↓State.owCount_but, ↓State.publish_but, ↓State.setChan_but, ↓State.visitCounts_but, ↓State.visitEnd_but, ↓State.ite_but]; done)
  | ((try dsimp only); (repeat' split) <;> first
    | with_reducible rfl
    | (simp [h_caps, h_chans, h_clusters, h_drives, h_entries, h_events, h_parts, h_regs, h_streams, h_trims, ↓State.lengthen_but, ↓State.marginAfter_but, ↓State.owCount_but, ↓State.publish_but, ↓State.setChan_but, ↓State.visitCounts_but, ↓State.visitEnd_but, ↓State.ite_but]; done))

theorem execOpenWireResult_but (c : Fin 512) (first second : Visit) (s : State) (l : List Fld) (h_caps : Fld.caps ∈ l) (h_chans : Fld.chans ∈ l) (h_clusters : Fld.clusters ∈ l) (h_drives : Fld.drives ∈ l) (h_entries : Fld.entries ∈ l) (h_events : Fld.events ∈ l) (h_parts : Fld.parts ∈ l) (h_regs : Fld.regs ∈ l) (h_streams : Fld.streams ∈ l) (h_trims : Fld.trims ∈ l) :
    ∀ t, execOpenWireResult c first second s = .next t → t.but l = s.but l := by
  intro t ht
  unfold execOpenWireResult at ht
  (try simp only [ok] at ht); (repeat' split at ht) <;> (replace ht := Host.Outcome.next.inj ht; subst ht; first
    | with_reducible rfl
    | (simp [h_caps, h_chans, h_clusters, h_drives, h_entries, h_events, h_parts, h_regs, h_streams, h_trims, ↓State.owResult_but, ↓State.ite_but]; done)
    | (rename_i heq; have hk := congrArg (fun x => x.1.but l) heq; simp [h_caps, h_chans, h_clusters, h_drives, h_entries, h_events, h_parts, h_regs, h_streams, h_trims, ↓State.owResult_but, ↓State.ite_but] at hk; simp [h_caps, h_chans, h_clusters, h_drives, h_entries, h_events, h_parts, h_regs, h_streams, h_trims, ↓State.owResult_but, ↓State.ite_but, hk]; done))

@[simp] theorem State.lockFalls_but (s : State) (period : Nat) (l : List Fld) (h_clusters : Fld.clusters ∈ l) (h_events : Fld.events ∈ l) (h_regs : Fld.regs ∈ l) : (State.lockFalls s period).but l = s.but l := by
  unfold State.lockFalls
  first
  | (simp [h_clusters, h_events, h_regs, ↓State.raise_but, ↓State.roundBreak_but, ↓State.setCluster_but, ↓State.each_but, ↓State.ite_but]; done)
  | ((try dsimp only); (repeat' split) <;> first
    | with_reducible rfl
    | (simp [h_clusters, h_events, h_regs, ↓State.raise_but, ↓State.roundBreak_but, ↓State.setCluster_but, ↓State.each_but, ↓State.ite_but]; done)
    | (refine (State.each_but _ _ _ _ (fun s x _ => ?_)).trans ?_ <;> (try dsimp only) <;> (repeat' split) <;> first
      | with_reducible rfl
      | (simp [h_clusters, h_events, h_regs, ↓State.raise_but, ↓State.roundBreak_but, ↓State.setCluster_but, ↓State.each_but, ↓State.ite_but]; done)))

@[simp] theorem State.carriersBegin_but (s : State) (l : List Fld) (h_clusters : Fld.clusters ∈ l) : (State.carriersBegin s).but l = s.but l := by
  unfold State.carriersBegin
  first
  | (simp [h_clusters, ↓State.setCluster_but, ↓State.ite_but]; done)
  | ((try dsimp only); (repeat' split) <;> first
    | with_reducible rfl
    | (simp [h_clusters, ↓State.setCluster_but, ↓State.ite_but]; done))

theorem execLockFallback_but (period : Nat) (s : State) (l : List Fld) (h_clusters : Fld.clusters ∈ l) (h_events : Fld.events ∈ l) (h_regs : Fld.regs ∈ l) :
    ∀ t, execLockFallback period s = .next t → t.but l = s.but l := by
  intro t ht
  unfold execLockFallback at ht
  (try simp only [ok] at ht); (repeat' split at ht) <;> (replace ht := Host.Outcome.next.inj ht; subst ht; first
    | with_reducible rfl
    | (simp [h_clusters, h_events, h_regs, ↓State.lockFalls_but, ↓State.ite_but]; done))

@[simp] theorem State.keepWindows_but (s : State) (n g : Nat) (ll : List (Nat × Nat × Window × Option Window)) (l : List Fld) (h_clusters : Fld.clusters ∈ l) : (State.keepWindows s n g ll).but l = s.but l := by
  unfold State.keepWindows
  first
  | (simp [h_clusters, ↓State.setRound_but, ↓State.ite_but]; done)
  | ((try dsimp only); (repeat' split) <;> first
    | with_reducible rfl
    | (simp [h_clusters, ↓State.setRound_but, ↓State.ite_but]; done)
    | (rename_i heq; have hk := congrArg (fun x => x.1.but l) heq; simp [h_clusters, ↓State.setRound_but, ↓State.ite_but] at hk; simp [h_clusters, ↓State.setRound_but, ↓State.ite_but, hk]; done))

@[simp] theorem State.lockResumes_but (s : State) (l : List Fld) (h_clusters : Fld.clusters ∈ l) : (State.lockResumes s).but l = s.but l := by
  unfold State.lockResumes
  first
  | (simp [h_clusters, ↓State.keepWindows_but, ↓State.setCluster_but, ↓State.each_but, ↓State.ite_but]; done)
  | ((try dsimp only); (repeat' split) <;> first
    | with_reducible rfl
    | (simp [h_clusters, ↓State.keepWindows_but, ↓State.setCluster_but, ↓State.each_but, ↓State.ite_but]; done)
    | (refine (State.each_but _ _ _ _ (fun s x _ => ?_)).trans ?_ <;> (try dsimp only) <;> (repeat' split) <;> first
      | with_reducible rfl
      | (simp [h_clusters, ↓State.keepWindows_but, ↓State.setCluster_but, ↓State.each_but, ↓State.ite_but]; done)))

theorem execLockResume_but (s : State) (l : List Fld) (h_clusters : Fld.clusters ∈ l) :
    ∀ t, execLockResume s = .next t → t.but l = s.but l := by
  intro t ht
  unfold execLockResume at ht
  (try simp only [ok] at ht); (repeat' split at ht) <;> (replace ht := Host.Outcome.next.inj ht; subst ht; first
    | with_reducible rfl
    | (simp [h_clusters, ↓State.lockResumes_but, ↓State.ite_but]; done))

@[simp] theorem State.syncStart_but (s : State) (n t : Nat) (l : List Fld) (h_clusters : Fld.clusters ∈ l) : (State.syncStart s n t).but l = s.but l := by
  unfold State.syncStart
  first
  | (simp [h_clusters, ↓State.setCluster_but, ↓State.ite_but]; done)
  | ((try dsimp only); (repeat' split) <;> first
    | with_reducible rfl
    | (simp [h_clusters, ↓State.setCluster_but, ↓State.ite_but]; done))

theorem execSyncoutRestart_but (s : State) (l : List Fld) (h_clusters : Fld.clusters ∈ l) :
    ∀ t, execSyncoutRestart s = .next t → t.but l = s.but l := by
  intro t ht
  unfold execSyncoutRestart at ht
  (try simp only [ok] at ht); (repeat' split at ht) <;> (replace ht := Host.Outcome.next.inj ht; subst ht; first
    | with_reducible rfl
    | (simp [h_clusters, ↓State.syncStart_but, ↓State.each_but, ↓State.ite_but]; done)
    | (refine (State.each_but _ _ _ _ (fun s x _ => ?_)).trans ?_ <;> (try dsimp only) <;> (repeat' split) <;> first
      | with_reducible rfl
      | (simp [h_clusters, ↓State.syncStart_but, ↓State.each_but, ↓State.ite_but]; done))
    | (rename_i heq; have hk := congrArg (fun x => x.1.but l) heq; simp [h_clusters, ↓State.syncStart_but, ↓State.each_but, ↓State.ite_but] at hk; simp [hk, h_clusters, ↓State.syncStart_but, ↓State.each_but, ↓State.ite_but]; done))

theorem execStale_but (c : Fin 512) (s : State) (l : List Fld) (h_chans : Fld.chans ∈ l) :
    ∀ t, execStale c s = .next t → t.but l = s.but l := by
  intro t ht
  unfold execStale at ht
  (try simp only [ok] at ht); (repeat' split at ht) <;> (replace ht := Host.Outcome.next.inj ht; subst ht; first
    | with_reducible rfl
    | (simp [h_chans, ↓State.setChan_but, ↓State.ite_but]; done))

end Sys2Proof.Machine
end

