-- ==== Sys2Proof/Laws/Keep/Budget.lean ====
section
/-! SUPPORT. The frames of the operations of Machine/Budget.lean: the parts of the state that each of them can change. -/
set_option linter.all false

namespace Sys2Proof.Machine

@[simp] theorem State.streamPace_but (s : State) (p : Nat) (l : List Fld) (h_events : Fld.events ∈ l) (h_regs : Fld.regs ∈ l) (h_streams : Fld.streams ∈ l) : (State.streamPace s p).but l = s.but l := by
  unfold State.streamPace
  simp [h_events, h_regs, h_streams, ↓State.raise_but, ↓State.setReg_but, ↓State.setStream_but, ↓State.each_but, ↓State.ite_but]

@[simp] theorem State.settleTokens_but (s : State) (l : List Fld) (h_parts : Fld.parts ∈ l) : (State.settleTokens s).but l = s.but l := by
  unfold State.settleTokens
  first
  | (simp [h_parts, ↓State.setPart_but, ↓State.each_but, ↓State.ite_but]; done)
  | ((try dsimp only); (repeat' split) <;> first
    | with_reducible rfl
    | (simp [h_parts, ↓State.setPart_but, ↓State.each_but, ↓State.ite_but]; done)
    | (refine (State.each_but _ _ _ _ (fun s x _ => ?_)).trans ?_ <;> (try dsimp only) <;> (repeat' split) <;> first
      | with_reducible rfl
      | (simp [h_parts, ↓State.setPart_but, ↓State.each_but, ↓State.ite_but]; done)))

@[simp] theorem State.takeToken_but (s : State) (p : Nat) (l : List Fld) (h_events : Fld.events ∈ l) (h_parts : Fld.parts ∈ l) (h_regs : Fld.regs ∈ l) : (State.takeToken s p).1.but l = s.but l := by
  unfold State.takeToken
  (try dsimp only); (repeat' split) <;> first
    | with_reducible rfl
    | (simp [h_events, h_parts, h_regs, ↓State.bump32_but, ↓State.raise_but, ↓State.setPart_but, ↓State.ite_but]; done)
    | (rename_i heq; have hk := congrArg (fun x => x.1.but l) heq; simp [h_events, h_parts, h_regs, ↓State.bump32_but, ↓State.raise_but, ↓State.setPart_but, ↓State.ite_but] at hk; simp [hk, h_events, h_parts, h_regs, ↓State.bump32_but, ↓State.raise_but, ↓State.setPart_but, ↓State.ite_but]; done)

@[simp] theorem State.subClose_but (s : State) (p : Nat) (l : List Fld) (h_parts : Fld.parts ∈ l) (h_regs : Fld.regs ∈ l) : (State.subClose s p).but l = s.but l := by
  unfold State.subClose
  extract_lets x len recent subs1 subs2 e1 d e2
  have k1 : e1.but l = s.but l := by simp only [e1]; rw [State.setPart_but _ _ _ _ h_parts]
  have k2 : e2.but l = s.but l := by simp only [e2]; rw [State.setReg_but _ _ _ _ h_regs, State.setReg_but _ _ _ _ h_regs, k1]
  clear_value e2
  clear_value e1
  split
  · exact k1
  · split
    · exact k2
    · rw [State.setPart_but _ _ _ _ h_parts, k2]

@[simp] theorem State.subEnd_but (s : State) (l : List Fld) (h_ledger : Fld.ledger ∈ l) (h_parts : Fld.parts ∈ l) (h_regs : Fld.regs ∈ l) : (State.subEnd s).but l = s.but l := by
  unfold State.subEnd
  simp [h_ledger, h_parts, h_regs, ↓State.subClose_but, ↓State.but_ledger, ↓State.each_but, ↓State.ite_but]

@[simp] theorem State.intervalStart_but (s : State) (partial_ : Bool) (l : List Fld) (h_ledger : Fld.ledger ∈ l) : (State.intervalStart s partial_).but l = s.but l := by
  unfold State.intervalStart
  first
  | (simp [h_ledger, ↓State.but_ledger, ↓State.ite_but]; done)
  | ((try dsimp only); (repeat' split) <;> first
    | with_reducible rfl
    | (simp [h_ledger, ↓State.but_ledger, ↓State.ite_but]; done))

@[simp] theorem State.ledgerEnqueue_but (s : State) (r : Interval) (l : List Fld) (h_ledger : Fld.ledger ∈ l) (h_regs : Fld.regs ∈ l) : (State.ledgerEnqueue s r).but l = s.but l := by
  unfold State.ledgerEnqueue
  first
  | (simp [h_ledger, h_regs, ↓State.bump16_but, ↓State.but_ledger, ↓State.ite_but]; done)
  | ((try dsimp only); (repeat' split) <;> first
    | with_reducible rfl
    | (simp [h_ledger, h_regs, ↓State.bump16_but, ↓State.but_ledger, ↓State.ite_but]; done))

@[simp] theorem State.intervalClose_but (s : State) (flags : Nat) (l : List Fld) (h_ledger : Fld.ledger ∈ l) (h_parts : Fld.parts ∈ l) (h_regs : Fld.regs ∈ l) : (State.intervalClose s flags).but l = s.but l := by
  unfold State.intervalClose
  simp [h_ledger, h_parts, h_regs, ↓State.ledgerEnqueue_but, ↓State.setPart_but, ↓State.each_but, ↓State.ite_but]

@[simp] theorem State.intervalBreak_but (s : State) (change : State → State) (l : List Fld) (h_ledger : Fld.ledger ∈ l) (h_parts : Fld.parts ∈ l) (h_regs : Fld.regs ∈ l) (hc : ∀ s, (change s).but l = s.but l) : (State.intervalBreak s change).but l = s.but l := by
  unfold State.intervalBreak
  first
  | (simp [h_ledger, h_parts, h_regs, ↓State.intervalClose_but, ↓State.intervalStart_but, ↓State.subEnd_but, ↓State.ite_but, hc]; done)
  | ((try dsimp only); (repeat' split) <;> first
    | with_reducible rfl
    | (simp [h_ledger, h_parts, h_regs, ↓State.intervalClose_but, ↓State.intervalStart_but, ↓State.subEnd_but, ↓State.ite_but, hc]; done))

theorem execSubIntervalEnd_but (s : State) (l : List Fld) (h_ledger : Fld.ledger ∈ l) (h_parts : Fld.parts ∈ l) (h_regs : Fld.regs ∈ l) :
    ∀ t, execSubIntervalEnd s = .next t → t.but l = s.but l := by
  intro t ht
  unfold execSubIntervalEnd at ht
  (try simp only [ok] at ht); (repeat' split at ht) <;> (replace ht := Host.Outcome.next.inj ht; subst ht; first
    | with_reducible rfl
    | (simp [h_ledger, h_parts, h_regs, ↓State.subEnd_but, ↓State.ite_but]; done))

@[simp] theorem State.demandEnd_but (s : State) (l : List Fld) (h_ledger : Fld.ledger ∈ l) (h_parts : Fld.parts ∈ l) (h_regs : Fld.regs ∈ l) : (State.demandEnd s).but l = s.but l := by
  unfold State.demandEnd
  simp [h_ledger, h_parts, h_regs, ↓State.intervalClose_but, ↓State.intervalStart_but, ↓State.subEnd_but, ↓State.ite_but]

theorem execDemandIntervalEnd_but (s : State) (l : List Fld) (h_ledger : Fld.ledger ∈ l) (h_parts : Fld.parts ∈ l) (h_regs : Fld.regs ∈ l) :
    ∀ t, execDemandIntervalEnd s = .next t → t.but l = s.but l := by
  intro t ht
  unfold execDemandIntervalEnd at ht
  (try simp only [ok] at ht); (repeat' split at ht) <;> (replace ht := Host.Outcome.next.inj ht; subst ht; first
    | with_reducible rfl
    | (simp [h_ledger, h_parts, h_regs, ↓State.demandEnd_but, ↓State.ite_but]; done))

@[simp] theorem State.judgePower_but (s : State) (p : Nat) (l : List Fld) (h_parts : Fld.parts ∈ l) : (State.judgePower s p).but l = s.but l := by
  unfold State.judgePower
  first
  | (simp [h_parts, ↓State.setPart_but, ↓State.ite_but]; done)
  | ((try dsimp only); (repeat' split) <;> first
    | with_reducible rfl
    | (simp [h_parts, ↓State.setPart_but, ↓State.ite_but]; done))

@[simp] theorem State.tableSwitch_but (s : State) (v source : Nat) (l : List Fld) (h_events : Fld.events ∈ l) (h_ledger : Fld.ledger ∈ l) (h_parts : Fld.parts ∈ l) (h_regs : Fld.regs ∈ l) (h_streams : Fld.streams ∈ l) : (State.tableSwitch s v source).but l = s.but l := by
  unfold State.tableSwitch
  first
  | (simp [h_events, h_ledger, h_parts, h_regs, h_streams, ↓State.intervalClose_but, ↓State.intervalStart_but, ↓State.judgePower_but, ↓State.raise_but, ↓State.setReg_but, ↓State.settleTokens_but, ↓State.streamPace_but, ↓State.each_but, ↓State.ite_but]; done)
  | ((try dsimp only); (repeat' split) <;> first
    | with_reducible rfl
    | (simp [h_events, h_ledger, h_parts, h_regs, h_streams, ↓State.intervalClose_but, ↓State.intervalStart_but, ↓State.judgePower_but, ↓State.raise_but, ↓State.setReg_but, ↓State.settleTokens_but, ↓State.streamPace_but, ↓State.each_but, ↓State.ite_but]; done)
    | (refine (State.each_but _ _ _ _ (fun s x _ => ?_)).trans ?_ <;> (try dsimp only) <;> (repeat' split) <;> first
      | with_reducible rfl
      | (simp [h_events, h_ledger, h_parts, h_regs, h_streams, ↓State.intervalClose_but, ↓State.intervalStart_but, ↓State.judgePower_but, ↓State.raise_but, ↓State.setReg_but, ↓State.settleTokens_but, ↓State.streamPace_but, ↓State.each_but, ↓State.ite_but]; done)))

theorem execTableSelect_but (r : Role) (v : Byte) (s : State) (l : List Fld) (h_events : Fld.events ∈ l) (h_ledger : Fld.ledger ∈ l) (h_parts : Fld.parts ∈ l) (h_regs : Fld.regs ∈ l) (h_reply : Fld.reply ∈ l) (h_status : Fld.status ∈ l) (h_streams : Fld.streams ∈ l) :
    ∀ t, execTableSelect r v s = .next t → t.but l = s.but l := by
  intro t ht
  unfold execTableSelect at ht
  (try simp only [ok] at ht); (repeat' split at ht) <;> (replace ht := Host.Outcome.next.inj ht; subst ht; first
    | with_reducible rfl
    | (simp [h_events, h_ledger, h_parts, h_regs, h_reply, h_status, h_streams, ↓State.answer_but, ↓State.item_but, ↓State.tableSwitch_but, ↓State.ite_but]; done)
    | ((first
        | refine State.item_but _ _ _ _ _ _ h_regs h_reply h_status (fun s => ?_)
        | refine State.itemLen_but _ _ _ _ _ _ _ h_regs h_reply h_status (fun s => ?_)) <;> (try dsimp only) <;> (repeat' split) <;> first
      | with_reducible rfl
      | (simp [h_events, h_ledger, h_parts, h_regs, h_reply, h_status, h_streams, ↓State.answer_but, ↓State.item_but, ↓State.tableSwitch_but, ↓State.ite_but]; done)
      | (rename_i heq; have hk := congrArg (fun x => x.1.but l) heq; simp [h_events, h_ledger, h_parts, h_regs, h_reply, h_status, h_streams, ↓State.answer_but, ↓State.item_but, ↓State.tableSwitch_but, ↓State.ite_but] at hk; simp [hk, h_events, h_ledger, h_parts, h_regs, h_reply, h_status, h_streams, ↓State.answer_but, ↓State.item_but, ↓State.tableSwitch_but, ↓State.ite_but]; done)))

theorem execScheduleMatch_but (s : State) (l : List Fld) (h_events : Fld.events ∈ l) (h_ledger : Fld.ledger ∈ l) (h_parts : Fld.parts ∈ l) (h_regs : Fld.regs ∈ l) (h_streams : Fld.streams ∈ l) :
    ∀ t, execScheduleMatch s = .next t → t.but l = s.but l := by
  intro t ht
  unfold execScheduleMatch at ht
  (try simp only [ok] at ht); (repeat' split at ht) <;> (replace ht := Host.Outcome.next.inj ht; subst ht; first
    | with_reducible rfl
    | (simp [h_events, h_ledger, h_parts, h_regs, h_streams, ↓State.demandEnd_but, ↓State.tableSwitch_but, ↓State.ite_but]; done)
    | (rename_i heq; have hk := congrArg (fun x => x.1.but l) heq; simp [h_events, h_ledger, h_parts, h_regs, h_streams, ↓State.demandEnd_but, ↓State.tableSwitch_but, ↓State.ite_but] at hk; simp [h_events, h_ledger, h_parts, h_regs, h_streams, ↓State.demandEnd_but, ↓State.tableSwitch_but, ↓State.ite_but, hk]; done))

@[simp] theorem State.setRelief_but (s : State) (p level : Nat) (l : List Fld) (h_parts : Fld.parts ∈ l) (h_regs : Fld.regs ∈ l) : (State.setRelief s p level).but l = s.but l := by
  unfold State.setRelief
  simp [h_parts, h_regs, ↓State.partSince_but, ↓State.setReg_but, ↓State.ite_but]

@[simp] theorem State.trimDown_but (s : State) (p : Nat) (l : List Fld) (h_chans : Fld.chans ∈ l) : (State.trimDown s p).but l = s.but l := by
  unfold State.trimDown
  simp [h_chans, ↓State.setChan_but, ↓State.each_but, ↓State.ite_but]

@[simp] theorem State.trimBack_but (s : State) (p : Nat) (l : List Fld) (h_chans : Fld.chans ∈ l) : (State.trimBack s p).but l = s.but l := by
  unfold State.trimBack
  (try dsimp only); (repeat' split) <;> first
      | (simp [h_chans, ↓State.setChan_but, ↓State.each_but, ↓State.ite_but]; done)
      | (refine (State.each_but _ _ _ _ (fun s x _ => ?_)).trans ?_ <;> (try dsimp only) <;> (repeat' split) <;> first
        | with_reducible rfl
        | (simp [h_chans, ↓State.setChan_but, ↓State.each_but, ↓State.ite_but]; done)
        | (rename_i heq; have hk := congrArg (fun x => x.1.but l) heq; simp [h_chans, ↓State.setChan_but, ↓State.each_but, ↓State.ite_but] at hk; simp [hk, h_chans, ↓State.setChan_but, ↓State.each_but, ↓State.ite_but]; done))

@[simp] theorem State.parkOne_but (s : State) (c : Nat) (l : List Fld) (h_actions : Fld.actions ∈ l) (h_caps : Fld.caps ∈ l) (h_chans : Fld.chans ∈ l) (h_clusters : Fld.clusters ∈ l) (h_drives : Fld.drives ∈ l) (h_ens : Fld.ens ∈ l) (h_entries : Fld.entries ∈ l) (h_events : Fld.events ∈ l) (h_groups : Fld.groups ∈ l) (h_latches : Fld.latches ∈ l) (h_parts : Fld.parts ∈ l) (h_ports : Fld.ports ∈ l) (h_regs : Fld.regs ∈ l) (h_safeN : Fld.safeN ∈ l) (h_trims : Fld.trims ∈ l) (h_waitMaint : Fld.waitMaint ∈ l) : (State.parkOne s c).but l = s.but l := by
  unfold State.parkOne
  first
  | (simp [h_actions, h_caps, h_chans, h_clusters, h_drives, h_ens, h_entries, h_events, h_groups, h_latches, h_parts, h_ports, h_regs, h_safeN, h_trims, h_waitMaint, ↓State.parkChan_but, ↓State.setChan_but, ↓State.ite_but]; done)
  | ((try dsimp only); (repeat' split) <;> first
    | with_reducible rfl
    | (simp [h_actions, h_caps, h_chans, h_clusters, h_drives, h_ens, h_entries, h_events, h_groups, h_latches, h_parts, h_ports, h_regs, h_safeN, h_trims, h_waitMaint, ↓State.parkChan_but, ↓State.setChan_but, ↓State.ite_but]; done))

@[simp] theorem State.unparkOne_but (s : State) (c : Nat) (l : List Fld) (h_actions : Fld.actions ∈ l) (h_caps : Fld.caps ∈ l) (h_chans : Fld.chans ∈ l) (h_clusters : Fld.clusters ∈ l) (h_drives : Fld.drives ∈ l) (h_ens : Fld.ens ∈ l) (h_entries : Fld.entries ∈ l) (h_events : Fld.events ∈ l) (h_groups : Fld.groups ∈ l) (h_latches : Fld.latches ∈ l) (h_parts : Fld.parts ∈ l) (h_ports : Fld.ports ∈ l) (h_regs : Fld.regs ∈ l) (h_safeN : Fld.safeN ∈ l) (h_trims : Fld.trims ∈ l) (h_waitMaint : Fld.waitMaint ∈ l) : (State.unparkOne s c).but l = s.but l := by
  unfold State.unparkOne
  first
  | (simp [h_actions, h_caps, h_chans, h_clusters, h_drives, h_ens, h_entries, h_events, h_groups, h_latches, h_parts, h_ports, h_regs, h_safeN, h_trims, h_waitMaint, ↓State.armChan_but, ↓State.gateTrip_but, ↓State.setChan_but, ↓State.ite_but]; done)
  | ((try dsimp only); (repeat' split) <;> first
    | with_reducible rfl
    | (simp [h_actions, h_caps, h_chans, h_clusters, h_drives, h_ens, h_entries, h_events, h_groups, h_latches, h_parts, h_ports, h_regs, h_safeN, h_trims, h_waitMaint, ↓State.armChan_but, ↓State.gateTrip_but, ↓State.setChan_but, ↓State.ite_but]; done))

@[simp] theorem State.park_but (s : State) (p : Nat) (l : List Fld) (h_actions : Fld.actions ∈ l) (h_caps : Fld.caps ∈ l) (h_chans : Fld.chans ∈ l) (h_clusters : Fld.clusters ∈ l) (h_drives : Fld.drives ∈ l) (h_ens : Fld.ens ∈ l) (h_entries : Fld.entries ∈ l) (h_events : Fld.events ∈ l) (h_groups : Fld.groups ∈ l) (h_latches : Fld.latches ∈ l) (h_parts : Fld.parts ∈ l) (h_ports : Fld.ports ∈ l) (h_regs : Fld.regs ∈ l) (h_safeN : Fld.safeN ∈ l) (h_trims : Fld.trims ∈ l) (h_waitMaint : Fld.waitMaint ∈ l) : (State.park s p).but l = s.but l := by
  unfold State.park
  first
  | (simp [h_actions, h_caps, h_chans, h_clusters, h_drives, h_ens, h_entries, h_events, h_groups, h_latches, h_parts, h_ports, h_regs, h_safeN, h_trims, h_waitMaint, ↓State.orderEn_but, ↓State.parkOne_but, ↓State.each_but, ↓State.ite_but]; done)
  | ((try dsimp only); (repeat' split) <;> first
    | with_reducible rfl
    | (simp [h_actions, h_caps, h_chans, h_clusters, h_drives, h_ens, h_entries, h_events, h_groups, h_latches, h_parts, h_ports, h_regs, h_safeN, h_trims, h_waitMaint, ↓State.orderEn_but, ↓State.parkOne_but, ↓State.each_but, ↓State.ite_but]; done)
    | (refine (State.each_but _ _ _ _ (fun s x _ => ?_)).trans ?_ <;> (try dsimp only) <;> (repeat' split) <;> first
      | with_reducible rfl
      | (simp [h_actions, h_caps, h_chans, h_clusters, h_drives, h_ens, h_entries, h_events, h_groups, h_latches, h_parts, h_ports, h_regs, h_safeN, h_trims, h_waitMaint, ↓State.orderEn_but, ↓State.parkOne_but, ↓State.each_but, ↓State.ite_but]; done))
    | (rename_i heq; have hk := congrArg (fun x => x.1.but l) heq; simp [h_actions, h_caps, h_chans, h_clusters, h_drives, h_ens, h_entries, h_events, h_groups, h_latches, h_parts, h_ports, h_regs, h_safeN, h_trims, h_waitMaint, ↓State.orderEn_but, ↓State.parkOne_but, ↓State.each_but, ↓State.ite_but] at hk; simp [h_actions, h_caps, h_chans, h_clusters, h_drives, h_ens, h_entries, h_events, h_groups, h_latches, h_parts, h_ports, h_regs, h_safeN, h_trims, h_waitMaint, ↓State.orderEn_but, ↓State.parkOne_but, ↓State.each_but, ↓State.ite_but, hk]; done))

@[simp] theorem State.unpark_but (s : State) (p : Nat) (l : List Fld) (h_actions : Fld.actions ∈ l) (h_caps : Fld.caps ∈ l) (h_chans : Fld.chans ∈ l) (h_clusters : Fld.clusters ∈ l) (h_drives : Fld.drives ∈ l) (h_ens : Fld.ens ∈ l) (h_entries : Fld.entries ∈ l) (h_events : Fld.events ∈ l) (h_groups : Fld.groups ∈ l) (h_latches : Fld.latches ∈ l) (h_parts : Fld.parts ∈ l) (h_ports : Fld.ports ∈ l) (h_regs : Fld.regs ∈ l) (h_safeN : Fld.safeN ∈ l) (h_trims : Fld.trims ∈ l) (h_waitMaint : Fld.waitMaint ∈ l) : (State.unpark s p).but l = s.but l := by
  unfold State.unpark
  first
  | (simp [h_actions, h_caps, h_chans, h_clusters, h_drives, h_ens, h_entries, h_events, h_groups, h_latches, h_parts, h_ports, h_regs, h_safeN, h_trims, h_waitMaint, ↓State.orderEn_but, ↓State.unparkOne_but, ↓State.each_but, ↓State.ite_but]; done)
  | ((try dsimp only); (repeat' split) <;> first
    | with_reducible rfl
    | (simp [h_actions, h_caps, h_chans, h_clusters, h_drives, h_ens, h_entries, h_events, h_groups, h_latches, h_parts, h_ports, h_regs, h_safeN, h_trims, h_waitMaint, ↓State.orderEn_but, ↓State.unparkOne_but, ↓State.each_but, ↓State.ite_but]; done)
    | (refine (State.each_but _ _ _ _ (fun s x _ => ?_)).trans ?_ <;> (try dsimp only) <;> (repeat' split) <;> first
      | with_reducible rfl
      | (simp [h_actions, h_caps, h_chans, h_clusters, h_drives, h_ens, h_entries, h_events, h_groups, h_latches, h_parts, h_ports, h_regs, h_safeN, h_trims, h_waitMaint, ↓State.orderEn_but, ↓State.unparkOne_but, ↓State.each_but, ↓State.ite_but]; done)))

@[simp] theorem State.applyStep_but (s : State) (p type : Nat) (l : List Fld) (h_actions : Fld.actions ∈ l) (h_caps : Fld.caps ∈ l) (h_chans : Fld.chans ∈ l) (h_clusters : Fld.clusters ∈ l) (h_drives : Fld.drives ∈ l) (h_ens : Fld.ens ∈ l) (h_entries : Fld.entries ∈ l) (h_events : Fld.events ∈ l) (h_groups : Fld.groups ∈ l) (h_latches : Fld.latches ∈ l) (h_parts : Fld.parts ∈ l) (h_ports : Fld.ports ∈ l) (h_regs : Fld.regs ∈ l) (h_safeN : Fld.safeN ∈ l) (h_trims : Fld.trims ∈ l) (h_waitMaint : Fld.waitMaint ∈ l) : (State.applyStep s p type).but l = s.but l := by
  unfold State.applyStep
  (try dsimp only); (repeat' split) <;> first
    | with_reducible rfl
    | (simp [h_actions, h_caps, h_chans, h_clusters, h_drives, h_ens, h_entries, h_events, h_groups, h_latches, h_parts, h_ports, h_regs, h_safeN, h_trims, h_waitMaint, ↓State.causeAt_but, ↓State.descend_but, ↓State.park_but, ↓State.stopPart_but, ↓State.trimDown_but, ↓State.ite_but]; done)
    | (rename_i heq; have hk := congrArg (fun x => x.1.but l) heq; simp [h_actions, h_caps, h_chans, h_clusters, h_drives, h_ens, h_entries, h_events, h_groups, h_latches, h_parts, h_ports, h_regs, h_safeN, h_trims, h_waitMaint, ↓State.causeAt_but, ↓State.descend_but, ↓State.park_but, ↓State.stopPart_but, ↓State.trimDown_but, ↓State.ite_but] at hk; simp [hk, h_actions, h_caps, h_chans, h_clusters, h_drives, h_ens, h_entries, h_events, h_groups, h_latches, h_parts, h_ports, h_regs, h_safeN, h_trims, h_waitMaint, ↓State.causeAt_but, ↓State.descend_but, ↓State.park_but, ↓State.stopPart_but, ↓State.trimDown_but, ↓State.ite_but]; done)

@[simp] theorem State.undoStep_but (s : State) (p type : Nat) (l : List Fld) (h_actions : Fld.actions ∈ l) (h_caps : Fld.caps ∈ l) (h_chans : Fld.chans ∈ l) (h_clusters : Fld.clusters ∈ l) (h_drives : Fld.drives ∈ l) (h_ens : Fld.ens ∈ l) (h_entries : Fld.entries ∈ l) (h_events : Fld.events ∈ l) (h_groups : Fld.groups ∈ l) (h_latches : Fld.latches ∈ l) (h_parts : Fld.parts ∈ l) (h_ports : Fld.ports ∈ l) (h_regs : Fld.regs ∈ l) (h_safeN : Fld.safeN ∈ l) (h_trims : Fld.trims ∈ l) (h_waitMaint : Fld.waitMaint ∈ l) : (State.undoStep s p type).but l = s.but l := by
  unfold State.undoStep
  (try dsimp only); (repeat' split) <;> first
    | with_reducible rfl
    | (simp [h_actions, h_caps, h_chans, h_clusters, h_drives, h_ens, h_entries, h_events, h_groups, h_latches, h_parts, h_ports, h_regs, h_safeN, h_trims, h_waitMaint, ↓State.goOn_but, ↓State.setPart_but, ↓State.trimBack_but, ↓State.unpark_but, ↓State.ite_but]; done)
    | (rename_i heq; have hk := congrArg (fun x => x.1.but l) heq; simp [h_actions, h_caps, h_chans, h_clusters, h_drives, h_ens, h_entries, h_events, h_groups, h_latches, h_parts, h_ports, h_regs, h_safeN, h_trims, h_waitMaint, ↓State.goOn_but, ↓State.setPart_but, ↓State.trimBack_but, ↓State.unpark_but, ↓State.ite_but] at hk; simp [hk, h_actions, h_caps, h_chans, h_clusters, h_drives, h_ens, h_entries, h_events, h_groups, h_latches, h_parts, h_ports, h_regs, h_safeN, h_trims, h_waitMaint, ↓State.goOn_but, ↓State.setPart_but, ↓State.trimBack_but, ↓State.unpark_but, ↓State.ite_but]; done)

@[simp] theorem State.enforce_but (s : State) (p k : Nat) (l : List Fld) (h_actions : Fld.actions ∈ l) (h_caps : Fld.caps ∈ l) (h_chans : Fld.chans ∈ l) (h_clusters : Fld.clusters ∈ l) (h_drives : Fld.drives ∈ l) (h_ens : Fld.ens ∈ l) (h_entries : Fld.entries ∈ l) (h_events : Fld.events ∈ l) (h_groups : Fld.groups ∈ l) (h_latches : Fld.latches ∈ l) (h_parts : Fld.parts ∈ l) (h_ports : Fld.ports ∈ l) (h_regs : Fld.regs ∈ l) (h_safeN : Fld.safeN ∈ l) (h_trims : Fld.trims ∈ l) (h_waitMaint : Fld.waitMaint ∈ l) : (State.enforce s p k).but l = s.but l := by
  unfold State.enforce
  simp [h_actions, h_caps, h_chans, h_clusters, h_drives, h_ens, h_entries, h_events, h_groups, h_latches, h_parts, h_ports, h_regs, h_safeN, h_trims, h_waitMaint, ↓State.applyStep_but, ↓State.bump16_but, ↓State.raise_but, ↓State.setPart_but, ↓State.setReg_but, ↓State.setRelief_but, ↓State.ite_but]

@[simp] theorem State.reliefEnd_but (s : State) (p : Nat) (l : List Fld) (h_actions : Fld.actions ∈ l) (h_caps : Fld.caps ∈ l) (h_chans : Fld.chans ∈ l) (h_clusters : Fld.clusters ∈ l) (h_drives : Fld.drives ∈ l) (h_ens : Fld.ens ∈ l) (h_entries : Fld.entries ∈ l) (h_events : Fld.events ∈ l) (h_groups : Fld.groups ∈ l) (h_latches : Fld.latches ∈ l) (h_parts : Fld.parts ∈ l) (h_ports : Fld.ports ∈ l) (h_regs : Fld.regs ∈ l) (h_safeN : Fld.safeN ∈ l) (h_trims : Fld.trims ∈ l) (h_waitMaint : Fld.waitMaint ∈ l) : (State.reliefEnd s p).but l = s.but l := by
  unfold State.reliefEnd
  simp [h_actions, h_caps, h_chans, h_clusters, h_drives, h_ens, h_entries, h_events, h_groups, h_latches, h_parts, h_ports, h_regs, h_safeN, h_trims, h_waitMaint, ↓State.raise_but, ↓State.setPart_but, ↓State.setReg_but, ↓State.setRelief_but, ↓State.undoStep_but, ↓State.each_but, ↓State.ite_but]

@[simp] theorem State.relief_but (s : State) (p : Nat) (l : List Fld) (h_actions : Fld.actions ∈ l) (h_caps : Fld.caps ∈ l) (h_chans : Fld.chans ∈ l) (h_clusters : Fld.clusters ∈ l) (h_drives : Fld.drives ∈ l) (h_ens : Fld.ens ∈ l) (h_entries : Fld.entries ∈ l) (h_events : Fld.events ∈ l) (h_groups : Fld.groups ∈ l) (h_latches : Fld.latches ∈ l) (h_parts : Fld.parts ∈ l) (h_ports : Fld.ports ∈ l) (h_regs : Fld.regs ∈ l) (h_safeN : Fld.safeN ∈ l) (h_trims : Fld.trims ∈ l) (h_waitMaint : Fld.waitMaint ∈ l) : (State.relief s p).but l = s.but l := by
  unfold State.relief
  first
  | (simp [h_actions, h_caps, h_chans, h_clusters, h_drives, h_ens, h_entries, h_events, h_groups, h_latches, h_parts, h_ports, h_regs, h_safeN, h_trims, h_waitMaint, ↓State.benchAbort_but, ↓State.bump16_but, ↓State.enforce_but, ↓State.raise_but, ↓State.reliefEnd_but, ↓State.setReg_but, ↓State.setRelief_but, ↓State.ite_but]; done)
  | ((try dsimp only); (repeat' split) <;> first
    | with_reducible rfl
    | (simp [h_actions, h_caps, h_chans, h_clusters, h_drives, h_ens, h_entries, h_events, h_groups, h_latches, h_parts, h_ports, h_regs, h_safeN, h_trims, h_waitMaint, ↓State.benchAbort_but, ↓State.bump16_but, ↓State.enforce_but, ↓State.raise_but, ↓State.reliefEnd_but, ↓State.setReg_but, ↓State.setRelief_but, ↓State.ite_but]; done))

theorem execReliefEvaluate_but (s : State) (l : List Fld) (h_actions : Fld.actions ∈ l) (h_caps : Fld.caps ∈ l) (h_chans : Fld.chans ∈ l) (h_clusters : Fld.clusters ∈ l) (h_drives : Fld.drives ∈ l) (h_ens : Fld.ens ∈ l) (h_entries : Fld.entries ∈ l) (h_events : Fld.events ∈ l) (h_groups : Fld.groups ∈ l) (h_latches : Fld.latches ∈ l) (h_parts : Fld.parts ∈ l) (h_ports : Fld.ports ∈ l) (h_regs : Fld.regs ∈ l) (h_safeN : Fld.safeN ∈ l) (h_trims : Fld.trims ∈ l) (h_waitMaint : Fld.waitMaint ∈ l) :
    ∀ t, execReliefEvaluate s = .next t → t.but l = s.but l := by
  intro t ht
  unfold execReliefEvaluate at ht
  (try simp only [ok] at ht); (repeat' split at ht) <;> (replace ht := Host.Outcome.next.inj ht; subst ht; first
    | with_reducible rfl
    | (simp [h_actions, h_caps, h_chans, h_clusters, h_drives, h_ens, h_entries, h_events, h_groups, h_latches, h_parts, h_ports, h_regs, h_safeN, h_trims, h_waitMaint, ↓State.relief_but, ↓State.each_but, ↓State.ite_but]; done)
    | (refine (State.each_but _ _ _ _ (fun s x _ => ?_)).trans ?_ <;> (try dsimp only) <;> (repeat' split) <;> first
      | with_reducible rfl
      | (simp [h_actions, h_caps, h_chans, h_clusters, h_drives, h_ens, h_entries, h_events, h_groups, h_latches, h_parts, h_ports, h_regs, h_safeN, h_trims, h_waitMaint, ↓State.relief_but, ↓State.each_but, ↓State.ite_but]; done)))

end Sys2Proof.Machine
end

