-- ==== Sys2Proof/Laws/Keep/Mem.lean ====
section
/-! SUPPORT. The frames of the operations of Machine/Mem.lean: the parts of the state that each of them can change. -/
set_option linter.all false

namespace Sys2Proof.Machine

@[simp] theorem State.setCell_but (s : State) (a : Nat) (b : Byte) (l : List Fld) (h_flash : Fld.flash ∈ l) : (State.setCell s a b).but l = s.but l := by
  unfold State.setCell
  simp [h_flash, ↓State.but_flash, ↓State.ite_but]

@[simp] theorem State.setCells_but (s : State) (a : Nat) (z0 : Bytes) (l : List Fld) (h_flash : Fld.flash ∈ l) : (State.setCells s a z0).but l = s.but l := by
  induction z0 generalizing s a with
  | nil => rfl
  | cons b t ih => exact (ih _ _).trans (State.setCell_but _ _ _ _ h_flash)

@[simp] theorem State.setGranule_but (s : State) (g : Nat) (x : Granule) (l : List Fld) (h_granules : Fld.granules ∈ l) : (State.setGranule s g x).but l = s.but l := by
  unfold State.setGranule
  simp [h_granules, ↓State.but_granules, ↓State.ite_but]

@[simp] theorem State.setSector_but (s : State) (n : Nat) (x : Sector) (l : List Fld) (h_sectors : Fld.sectors ∈ l) : (State.setSector s n x).but l = s.but l := by
  unfold State.setSector
  simp [h_sectors, ↓State.but_sectors, ↓State.ite_but]

@[simp] theorem State.recordUpdated_but (s : State) (r : Nat) (l : List Fld) (h_events : Fld.events ∈ l) (h_nv : Fld.nv ∈ l) (h_regs : Fld.regs ∈ l) : (State.recordUpdated s r).but l = s.but l := by
  unfold State.recordUpdated
  first
  | (simp [h_events, h_nv, h_regs, ↓State.raise_but, ↓State.but_nv, ↓State.each_but, ↓State.ite_but]; done)
  | ((try dsimp only); (repeat' split) <;> first
    | with_reducible rfl
    | (simp [h_events, h_nv, h_regs, ↓State.raise_but, ↓State.but_nv, ↓State.each_but, ↓State.ite_but]; done)
    | (refine (State.each_but _ _ _ _ (fun s x _ => ?_)).trans ?_ <;> (try dsimp only) <;> (repeat' split) <;> first
      | with_reducible rfl
      | (simp [h_events, h_nv, h_regs, ↓State.raise_but, ↓State.but_nv, ↓State.each_but, ↓State.ite_but]; done)))

@[simp] theorem State.storeKey_but (s : State) (k : Nat) (x : KeyX) (l : List Fld) (h_events : Fld.events ∈ l) (h_keys : Fld.keys ∈ l) (h_nv : Fld.nv ∈ l) (h_regs : Fld.regs ∈ l) : (State.storeKey s k x).but l = s.but l := by
  unfold State.storeKey
  first
  | (simp [h_events, h_keys, h_nv, h_regs, ↓State.recordUpdated_but, ↓State.setKey_but, ↓State.ite_but]; done)
  | ((try dsimp only); (repeat' split) <;> first
    | with_reducible rfl
    | (simp [h_events, h_keys, h_nv, h_regs, ↓State.recordUpdated_but, ↓State.setKey_but, ↓State.ite_but]; done))

@[simp] theorem State.recordLost_but (s : State) (r : Nat) (l : List Fld) (h_events : Fld.events ∈ l) (h_keys : Fld.keys ∈ l) (h_nv : Fld.nv ∈ l) (h_regs : Fld.regs ∈ l) : (State.recordLost s r).but l = s.but l := by
  unfold State.recordLost
  first
  | (simp [h_events, h_keys, h_nv, h_regs, ↓State.setReg_but, ↓State.storeKey_but, ↓State.ite_but]; done)
  | ((try dsimp only); (repeat' split) <;> first
    | with_reducible rfl
    | (simp [h_events, h_keys, h_nv, h_regs, ↓State.setReg_but, ↓State.storeKey_but, ↓State.ite_but]; done))

@[simp] theorem State.copyBad_but (s : State) (a : Nat) (l : List Fld) (h_events : Fld.events ∈ l) (h_keys : Fld.keys ∈ l) (h_nv : Fld.nv ∈ l) (h_regs : Fld.regs ∈ l) : (State.copyBad s a).but l = s.but l := by
  unfold State.copyBad
  first
  | (simp [h_events, h_keys, h_nv, h_regs, ↓State.recordLost_but, ↓State.but_nv, ↓State.each_but, ↓State.ite_but]; done)
  | ((try dsimp only); (repeat' split) <;> first
    | with_reducible rfl
    | (simp [h_events, h_keys, h_nv, h_regs, ↓State.recordLost_but, ↓State.but_nv, ↓State.each_but, ↓State.ite_but]; done)
    | (refine (State.each_but _ _ _ _ (fun s x _ => ?_)).trans ?_ <;> (try dsimp only) <;> (repeat' split) <;> first
      | with_reducible rfl
      | (simp [h_events, h_keys, h_nv, h_regs, ↓State.recordLost_but, ↓State.but_nv, ↓State.each_but, ↓State.ite_but]; done)))

@[simp] theorem State.uncorrEffect_but (s : State) (a : Nat) (l : List Fld) (h_events : Fld.events ∈ l) (h_keys : Fld.keys ∈ l) (h_nv : Fld.nv ∈ l) (h_regs : Fld.regs ∈ l) (h_sec : Fld.sec ∈ l) : (State.uncorrEffect s a).but l = s.but l := by
  unfold State.uncorrEffect
  first
  | (simp [h_events, h_keys, h_nv, h_regs, h_sec, ↓State.bump16_but, ↓State.copyBad_but, ↓State.setReg_but, ↓State.but_sec, ↓State.ite_but]; done)
  | ((try dsimp only); (repeat' split) <;> first
    | with_reducible rfl
    | (simp [h_events, h_keys, h_nv, h_regs, h_sec, ↓State.bump16_but, ↓State.copyBad_but, ↓State.setReg_but, ↓State.but_sec, ↓State.ite_but]; done)
    | (rename_i heq; have hk := congrArg (fun x => x.1.but l) heq; simp [h_events, h_keys, h_nv, h_regs, h_sec, ↓State.bump16_but, ↓State.copyBad_but, ↓State.setReg_but, ↓State.but_sec, ↓State.ite_but] at hk; simp [h_events, h_keys, h_nv, h_regs, h_sec, ↓State.bump16_but, ↓State.copyBad_but, ↓State.setReg_but, ↓State.but_sec, ↓State.ite_but, hk]; done))

@[simp] theorem State.foundBad_but (s : State) (g : Nat) (l : List Fld) (h_events : Fld.events ∈ l) (h_granules : Fld.granules ∈ l) (h_keys : Fld.keys ∈ l) (h_nv : Fld.nv ∈ l) (h_regs : Fld.regs ∈ l) (h_sec : Fld.sec ∈ l) : (State.foundBad s g).but l = s.but l := by
  unfold State.foundBad
  simp [h_events, h_granules, h_keys, h_nv, h_regs, h_sec, ↓State.bump16_but, ↓State.raise_but, ↓State.setGranule_but, ↓State.setReg_but, ↓State.uncorrEffect_but, ↓State.ite_but]

@[simp] theorem State.foundTorn_but (s : State) (a n : Nat) (l : List Fld) (h_granules : Fld.granules ∈ l) (h_regs : Fld.regs ∈ l) : (State.foundTorn s a n).but l = s.but l := by
  unfold State.foundTorn
  (try dsimp only); (repeat' split) <;> first
      | (simp [h_granules, h_regs, ↓State.bump16_but, ↓State.setGranule_but, ↓State.each_but, ↓State.ite_but]; done)
      | (refine (State.each_but _ _ _ _ (fun s x _ => ?_)).trans ?_ <;> (try dsimp only) <;> (repeat' split) <;> first
        | with_reducible rfl
        | (simp [h_granules, h_regs, ↓State.bump16_but, ↓State.setGranule_but, ↓State.each_but, ↓State.ite_but]; done)
        | (rename_i heq; have hk := congrArg (fun x => x.1.but l) heq; simp [h_granules, h_regs, ↓State.bump16_but, ↓State.setGranule_but, ↓State.each_but, ↓State.ite_but] at hk; simp [hk, h_granules, h_regs, ↓State.bump16_but, ↓State.setGranule_but, ↓State.each_but, ↓State.ite_but]; done))

@[simp] theorem State.sensed_but (s : State) (a n : Nat) (x : Sense) (l : List Fld) (h_events : Fld.events ∈ l) (h_granules : Fld.granules ∈ l) (h_keys : Fld.keys ∈ l) (h_nv : Fld.nv ∈ l) (h_regs : Fld.regs ∈ l) (h_sec : Fld.sec ∈ l) (h_sectors : Fld.sectors ∈ l) : (State.sensed s a n x).but l = s.but l := by
  unfold State.sensed
  simp [h_events, h_granules, h_keys, h_nv, h_regs, h_sec, h_sectors, ↓State.bump32_but, ↓State.foundBad_but, ↓State.foundTorn_but, ↓State.raise_but, ↓State.setReg_but, ↓State.setSector_but, ↓State.each_but, ↓State.ite_but]

@[simp] theorem State.setIntents_but (s : State) (gs : List Nat) (l : List Fld) (h_granules : Fld.granules ∈ l) : (State.setIntents s gs).but l = s.but l := by
  unfold State.setIntents
  simp [h_granules, ↓State.setGranule_but, ↓State.each_but, ↓State.ite_but]

@[simp] theorem State.setMarkers_but (s : State) (a : Nat) (data : Bytes) (k : Nat) (l : List Fld) (h_flash : Fld.flash ∈ l) (h_granules : Fld.granules ∈ l) : (State.setMarkers s a data k).but l = s.but l := by
  unfold State.setMarkers
  simp [h_flash, h_granules, ↓State.setCells_but, ↓State.setGranule_but, ↓State.each_but, ↓State.ite_but]

@[simp] theorem State.programAll_but (s : State) (a : Nat) (data : Bytes) (l : List Fld) (h_flash : Fld.flash ∈ l) (h_granules : Fld.granules ∈ l) : (State.programAll s a data).but l = s.but l := by
  unfold State.programAll
  simp [h_flash, h_granules, ↓State.setIntents_but, ↓State.setMarkers_but, ↓State.ite_but]

@[simp] theorem State.eraseSector_but (s : State) (n : Nat) (l : List Fld) (h_flash : Fld.flash ∈ l) (h_granules : Fld.granules ∈ l) : (State.eraseSector s n).but l = s.but l := by
  unfold State.eraseSector
  simp [State.but, h_flash, h_granules]

@[simp] theorem State.refuseStopped_but (s : State) (l : List Fld) (h_regs : Fld.regs ∈ l) (h_reply : Fld.reply ∈ l) (h_status : Fld.status ∈ l) : (State.refuseStopped s).but l = s.but l := by
  unfold State.refuseStopped
  simp [h_regs, h_reply, h_status, ↓State.answer_but, ↓State.bump16_but, ↓State.ite_but]

@[simp] theorem State.nvAsk_but (s : State) (o : NvOp) (l : List Fld) (h_nv : Fld.nv ∈ l) : (State.nvAsk s o).but l = s.but l := by
  unfold State.nvAsk
  simp [h_nv, ↓State.but_nv, ↓State.ite_but]

@[simp] theorem State.holdDrawers_but (s : State) (l : List Fld) (h_log : Fld.log ∈ l) : (State.holdDrawers s).but l = s.but l := by
  unfold State.holdDrawers
  simp [h_log, ↓State.but_log, ↓State.ite_but]

end Sys2Proof.Machine
end

