-- ==== Sys2Proof/Laws/Keep/Log.lean ====
section
/-! SUPPORT. The frames of the operations of Machine/Log.lean: the parts of the state that each of them can change. -/
set_option linter.all false

namespace Sys2Proof.Machine

@[simp] theorem State.overflow_but (s : State) (p : Nat) (l : List Fld) (h_events : Fld.events ∈ l) (h_log : Fld.log ∈ l) (h_regs : Fld.regs ∈ l) : (State.overflow s p).but l = s.but l := by
  unfold State.overflow
  simp [h_events, h_log, h_regs, ↓State.bump16_but, ↓State.raise_but, ↓State.but_log, ↓State.ite_but]

@[simp] theorem State.stageFull_but (s : State) (p : Nat) (l : List Fld) (h_events : Fld.events ∈ l) (h_log : Fld.log ∈ l) (h_regs : Fld.regs ∈ l) : (State.stageFull s p).but l = s.but l := by
  unfold State.stageFull
  simp [h_events, h_log, h_regs, ↓State.bump16_but, ↓State.raise_but, ↓State.but_log, ↓State.ite_but]

@[simp] theorem State.stageLast_but (s : State) (d : Drawer) (l : List Fld) (h_log : Fld.log ∈ l) : (State.stageLast s d).but l = s.but l := by
  unfold State.stageLast
  first
  | (simp [h_log, ↓State.but_log, ↓State.ite_but]; done)
  | ((try dsimp only); (repeat' split) <;> first
    | with_reducible rfl
    | (simp [h_log, ↓State.but_log, ↓State.ite_but]; done))

@[simp] theorem State.stageAfter_but (s : State) (u : Drawer) (l : List Fld) (h_log : Fld.log ∈ l) : (State.stageAfter s u).but l = s.but l := by
  unfold State.stageAfter
  first
  | (simp [h_log, ↓State.but_log, ↓State.ite_but]; done)
  | ((try dsimp only); (repeat' split) <;> first
    | with_reducible rfl
    | (simp [h_log, ↓State.but_log, ↓State.ite_but]; done))

@[simp] theorem State.stage_but (s : State) (d : Drawer) (l : List Fld) (h_events : Fld.events ∈ l) (h_log : Fld.log ∈ l) (h_regs : Fld.regs ∈ l) : (State.stage s d).but l = s.but l := by
  unfold State.stage
  first
  | (simp [h_events, h_log, h_regs, ↓State.overflow_but, ↓State.stageAfter_but, ↓State.stageFull_but, ↓State.stageLast_but, ↓State.but_log, ↓State.ite_but]; done)
  | ((try dsimp only); (repeat' split) <;> first
    | with_reducible rfl
    | (simp [h_events, h_log, h_regs, ↓State.overflow_but, ↓State.stageAfter_but, ↓State.stageFull_but, ↓State.stageLast_but, ↓State.but_log, ↓State.ite_but]; done)
    | (rename_i heq; have hk := congrArg (fun x => x.1.but l) heq; simp [h_events, h_log, h_regs, ↓State.overflow_but, ↓State.stageAfter_but, ↓State.stageFull_but, ↓State.stageLast_but, ↓State.but_log, ↓State.ite_but] at hk; simp [hk, h_events, h_log, h_regs, ↓State.overflow_but, ↓State.stageAfter_but, ↓State.stageFull_but, ↓State.stageLast_but, ↓State.but_log, ↓State.ite_but]; done))

@[simp] theorem State.lateEntry_but (s : State) (p : Nat) (l : List Fld) (h_log : Fld.log ∈ l) (h_regs : Fld.regs ∈ l) : (State.lateEntry s p).but l = s.but l := by
  unfold State.lateEntry
  (try dsimp only); (repeat' split) <;> first
    | with_reducible rfl
    | (simp [h_log, h_regs, ↓State.bump16_but, ↓State.but_log, ↓State.ite_but]; done)

@[simp] theorem State.mergeEnd_but (s : State) (p : Nat) (l : List Fld) (h_events : Fld.events ∈ l) (h_log : Fld.log ∈ l) (h_parts : Fld.parts ∈ l) (h_regs : Fld.regs ∈ l) : (State.mergeEnd s p).but l = s.but l := by
  unfold State.mergeEnd
  first
  | (simp [h_events, h_log, h_parts, h_regs, ↓State.setPart_but, ↓State.stage_but, ↓State.ite_but]; done)
  | ((try dsimp only); (repeat' split) <;> first
    | with_reducible rfl
    | (simp [h_events, h_log, h_parts, h_regs, ↓State.setPart_but, ↓State.stage_but, ↓State.ite_but]; done)
    | (rename_i heq; have hk := congrArg (fun x => x.1.but l) heq; simp [h_events, h_log, h_parts, h_regs, ↓State.setPart_but, ↓State.stage_but, ↓State.ite_but] at hk; simp [h_events, h_log, h_parts, h_regs, ↓State.setPart_but, ↓State.stage_but, ↓State.ite_but, hk]; done))

theorem execLatchEntryArrive_but (p : Fin 16) (n : Fin 8) (s : State) (l : List Fld) (h_events : Fld.events ∈ l) (h_latches : Fld.latches ∈ l) (h_log : Fld.log ∈ l) (h_parts : Fld.parts ∈ l) (h_regs : Fld.regs ∈ l) :
    ∀ t, execLatchEntryArrive p n s = .next t → t.but l = s.but l := by
  intro t ht
  unfold execLatchEntryArrive at ht
  (try simp only [ok] at ht); (repeat' split at ht) <;> (replace ht := Host.Outcome.next.inj ht; subst ht; first
    | with_reducible rfl
    | (simp [h_events, h_latches, h_log, h_parts, h_regs, ↓State.bump16_but, ↓State.lateEntry_but, ↓State.mergeEnd_but, ↓State.setLatch_but, ↓State.setPart_but, ↓State.ite_but]; done)
    | (rename_i heq; have hk := congrArg (fun x => x.1.but l) heq; simp [h_events, h_latches, h_log, h_parts, h_regs, ↓State.bump16_but, ↓State.lateEntry_but, ↓State.mergeEnd_but, ↓State.setLatch_but, ↓State.setPart_but, ↓State.ite_but] at hk; simp [h_events, h_latches, h_log, h_parts, h_regs, ↓State.bump16_but, ↓State.lateEntry_but, ↓State.mergeEnd_but, ↓State.setLatch_but, ↓State.setPart_but, ↓State.ite_but, hk]; done))

@[simp] theorem State.closingEnd_but (s : State) (p : Nat) (l : List Fld) (h_events : Fld.events ∈ l) (h_log : Fld.log ∈ l) (h_regs : Fld.regs ∈ l) : (State.closingEnd s p).but l = s.but l := by
  unfold State.closingEnd
  first
  | (simp [h_events, h_log, h_regs, ↓State.stage_but, ↓State.but_log, foldl_but, ↓State.ite_but]; done)
  | ((try dsimp only); (repeat' split) <;> first
    | with_reducible rfl
    | (simp [h_events, h_log, h_regs, ↓State.stage_but, ↓State.but_log, foldl_but, ↓State.ite_but]; done))

theorem execMergeWindowEnd_but (p : Fin 16) (s : State) (l : List Fld) (h_events : Fld.events ∈ l) (h_log : Fld.log ∈ l) (h_parts : Fld.parts ∈ l) (h_regs : Fld.regs ∈ l) :
    ∀ t, execMergeWindowEnd p s = .next t → t.but l = s.but l := by
  intro t ht
  unfold execMergeWindowEnd at ht
  (try simp only [ok] at ht); (repeat' split at ht) <;> (replace ht := Host.Outcome.next.inj ht; subst ht; first
    | with_reducible rfl
    | (simp [h_events, h_log, h_parts, h_regs, ↓State.closingEnd_but, ↓State.mergeEnd_but, ↓State.ite_but]; done))

@[simp] theorem State.hutchDrawer_but (s : State) (p : Nat) (snap : Drawer) (l : List Fld) (h_events : Fld.events ∈ l) (h_log : Fld.log ∈ l) (h_regs : Fld.regs ∈ l) : (State.hutchDrawer s p snap).but l = s.but l := by
  unfold State.hutchDrawer
  simp [h_events, h_log, h_regs, ↓State.stage_but, ↓State.ite_but]

@[simp] theorem State.askRingErase_but (s : State) (k : Nat) (l : List Fld) (h_nv : Fld.nv ∈ l) : (State.askRingErase s k).but l = s.but l := by
  unfold State.askRingErase
  simp [h_nv, ↓State.nvAsk_but, ↓State.ite_but]

@[simp] theorem State.enterSector_but (s : State) (n : Nat) (l : List Fld) (h_nv : Fld.nv ∈ l) : (State.enterSector s n).but l = s.but l := by
  unfold State.enterSector
  first
  | (simp [h_nv, ↓State.askRingErase_but, ↓State.ite_but]; done)
  | ((try dsimp only); (repeat' split) <;> first
    | with_reducible rfl
    | (simp [h_nv, ↓State.askRingErase_but, ↓State.ite_but]; done)
    | (rename_i heq; have hk := congrArg (fun x => x.1.but l) heq; simp [h_nv, ↓State.askRingErase_but, ↓State.ite_but] at hk; simp [h_nv, ↓State.askRingErase_but, ↓State.ite_but, hk]; done))

@[simp] theorem State.beginDrawer_but (s : State) (n : Nat) (d : Drawer) (isMarker : Bool) (l : List Fld) (h_granules : Fld.granules ∈ l) (h_log : Fld.log ∈ l) (h_nv : Fld.nv ∈ l) : (State.beginDrawer s n d isMarker).but l = s.but l := by
  unfold State.beginDrawer
  extract_lets e1 e2 e3
  have k3 : e3.but l = s.but l := by
    simp only [e3]
    (try dsimp only)
    (repeat' split) <;> first
      | with_reducible rfl
      | (simp [↓State.but_granules, State.but, h_granules, h_log, h_nv, ↓State.enterSector_but, ↓State.setIntents_but, State.but, ↓State.but_log, ↓State.but_nv, ↓State.ite_but]; done)
      | (refine Eq.trans ?_ rfl; simp [State.but, h_granules, h_log, h_nv])
  clear_value e3
  (try dsimp only)
  (repeat' split) <;> first
    | with_reducible rfl
    | (simp [↓State.but_granules, k3, State.but, h_granules, h_log, h_nv, ↓State.enterSector_but, ↓State.setIntents_but, State.but, ↓State.but_log, ↓State.but_nv, ↓State.ite_but]; done)
    | (refine Eq.trans (b := e3.but l) ?_ k3; simp [State.but, h_granules, h_log, h_nv]; done)

theorem execDrawerCommit_but (s : State) (l : List Fld) (h_granules : Fld.granules ∈ l) (h_log : Fld.log ∈ l) (h_nv : Fld.nv ∈ l) :
    ∀ t, execDrawerCommit s = .next t → t.but l = s.but l := by
  intro t ht
  unfold execDrawerCommit at ht
  (try simp only [ok] at ht); (repeat' split at ht) <;> (replace ht := Host.Outcome.next.inj ht; subst ht; first
    | with_reducible rfl
    | (simp [h_granules, h_log, h_nv, ↓State.askRingErase_but, ↓State.beginDrawer_but, ↓State.ite_but]; done)
    | (rename_i heq; have hk := congrArg (fun x => x.1.but l) heq; simp [h_granules, h_log, h_nv, ↓State.askRingErase_but, ↓State.beginDrawer_but, ↓State.ite_but] at hk; simp [h_granules, h_log, h_nv, ↓State.askRingErase_but, ↓State.beginDrawer_but, ↓State.ite_but, hk]; done))

@[simp] theorem State.markerDone_but (s : State) (l : List Fld) (h_log : Fld.log ∈ l) (h_nv : Fld.nv ∈ l) : (State.markerDone s).but l = s.but l := by
  unfold State.markerDone
  simp [h_log, h_nv, ↓State.askRingErase_but, ↓State.but_log, ↓State.each_but, ↓State.ite_but]

@[simp] theorem State.drawerDone_but (s : State) (n : Nat) (d : Drawer) (l : List Fld) (h_events : Fld.events ∈ l) (h_log : Fld.log ∈ l) (h_nv : Fld.nv ∈ l) (h_regs : Fld.regs ∈ l) : (State.drawerDone s n d).but l = s.but l := by
  unfold State.drawerDone
  (try dsimp only); (repeat' split) <;> first
    | with_reducible rfl
    | (simp [h_events, h_log, h_nv, h_regs, ↓State.markerDone_but, ↓State.raise_but, ↓State.but_log, ↓State.ite_but]; done)

@[simp] theorem State.drawerTorn_but (s : State) (d : Drawer) (l : List Fld) (h_log : Fld.log ∈ l) (h_regs : Fld.regs ∈ l) : (State.drawerTorn s d).but l = s.but l := by
  unfold State.drawerTorn
  first
  | (simp [h_log, h_regs, ↓State.bump16_but, ↓State.but_log, ↓State.ite_but]; done)
  | ((try dsimp only); (repeat' split) <;> first
    | with_reducible rfl
    | (simp [h_log, h_regs, ↓State.bump16_but, ↓State.but_log, ↓State.ite_but]; done))

theorem execDrawerReadback_but (found : ReadBack) (s : State) (l : List Fld) (h_events : Fld.events ∈ l) (h_flash : Fld.flash ∈ l) (h_granules : Fld.granules ∈ l) (h_keys : Fld.keys ∈ l) (h_log : Fld.log ∈ l) (h_nv : Fld.nv ∈ l) (h_regs : Fld.regs ∈ l) (h_sec : Fld.sec ∈ l) (h_sectors : Fld.sectors ∈ l) :
    ∀ t, execDrawerReadback found s = .next t → t.but l = s.but l := by
  intro t ht
  unfold execDrawerReadback at ht
  (try simp only [ok] at ht); (repeat' split at ht) <;> (replace ht := Host.Outcome.next.inj ht; subst ht; first
    | with_reducible rfl
    | (simp [h_events, h_flash, h_granules, h_keys, h_log, h_nv, h_regs, h_sec, h_sectors, ↓State.drawerDone_but, ↓State.drawerTorn_but, ↓State.foundTorn_but, ↓State.sensed_but, ↓State.setMarkers_but, ↓State.but_nv, ↓State.ite_but]; done)
    | (rename_i heq; have hk := congrArg (fun x => x.1.but l) heq; simp [h_events, h_flash, h_granules, h_keys, h_log, h_nv, h_regs, h_sec, h_sectors, ↓State.drawerDone_but, ↓State.drawerTorn_but, ↓State.foundTorn_but, ↓State.sensed_but, ↓State.setMarkers_but, ↓State.but_nv, ↓State.ite_but] at hk; simp [hk, h_events, h_flash, h_granules, h_keys, h_log, h_nv, h_regs, h_sec, h_sectors, ↓State.drawerDone_but, ↓State.drawerTorn_but, ↓State.foundTorn_but, ↓State.sensed_but, ↓State.setMarkers_but, ↓State.but_nv, ↓State.ite_but]; done))

@[simp] theorem State.logEraseAsked_but (s : State) (cmd : Nat) (l : List Fld) (h_reply : Fld.reply ∈ l) (h_status : Fld.status ∈ l) (h_waitMaint : Fld.waitMaint ∈ l) : (State.logEraseAsked s cmd).but l = s.but l := by
  unfold State.logEraseAsked
  first
  | (simp [h_reply, h_status, h_waitMaint, ↓State.answer_but, ↓State.but_waitMaint, ↓State.ite_but]; done)
  | ((try dsimp only); (repeat' split) <;> first
    | with_reducible rfl
    | (simp [h_reply, h_status, h_waitMaint, ↓State.answer_but, ↓State.but_waitMaint, ↓State.ite_but]; done))

@[simp] theorem State.logErase_but (s : State) (cmd : Nat) (l : List Fld) (h_log : Fld.log ∈ l) (h_regs : Fld.regs ∈ l) (h_reply : Fld.reply ∈ l) (h_status : Fld.status ∈ l) (h_waitMaint : Fld.waitMaint ∈ l) : (State.logErase s cmd).but l = s.but l := by
  unfold State.logErase
  first
  | (simp [h_log, h_regs, h_reply, h_status, h_waitMaint, ↓State.answer_but, ↓State.bump16_but, ↓State.logEraseAsked_but, ↓State.refuseStopped_but, ↓State.but_log, ↓State.ite_but]; done)
  | ((try dsimp only); (repeat' split) <;> first
    | with_reducible rfl
    | (simp [h_log, h_regs, h_reply, h_status, h_waitMaint, ↓State.answer_but, ↓State.bump16_but, ↓State.logEraseAsked_but, ↓State.refuseStopped_but, ↓State.but_log, ↓State.ite_but]; done))

@[simp] theorem State.markerSeq_but (s : State) (l : List Fld) (h_log : Fld.log ∈ l) : (State.markerSeq s).but l = s.but l := by
  unfold State.markerSeq
  first
  | (simp [h_log, ↓State.but_log, ↓State.ite_but]; done)
  | ((try dsimp only); (repeat' split) <;> first
    | with_reducible rfl
    | (simp [h_log, ↓State.but_log, ↓State.ite_but]; done))

@[simp] theorem State.countErased_but (s : State) (k : Nat) (l : List Fld) (h_log : Fld.log ∈ l) : (State.countErased s k).but l = s.but l := by
  unfold State.countErased
  first
  | (simp [h_log, ↓State.but_log, ↓State.ite_but]; done)
  | ((try dsimp only); (repeat' split) <;> first
    | with_reducible rfl
    | (simp [h_log, ↓State.but_log, ↓State.ite_but]; done))

@[simp] theorem State.logEraseStart_but (s : State) (cmd : Nat) (l : List Fld) (h_log : Fld.log ∈ l) (h_nv : Fld.nv ∈ l) : (State.logEraseStart s cmd).but l = s.but l := by
  unfold State.logEraseStart
  first
  | (simp [h_log, h_nv, ↓State.askRingErase_but, ↓State.countErased_but, ↓State.markerSeq_but, ↓State.but_log, ↓State.ite_but]; done)
  | ((try dsimp only); (repeat' split) <;> first
    | with_reducible rfl
    | (simp [h_log, h_nv, ↓State.askRingErase_but, ↓State.countErased_but, ↓State.markerSeq_but, ↓State.but_log, ↓State.ite_but]; done))

theorem execEraseOldest_but (r : Role) (s : State) (l : List Fld) (h_log : Fld.log ∈ l) (h_nv : Fld.nv ∈ l) (h_regs : Fld.regs ∈ l) (h_reply : Fld.reply ∈ l) (h_status : Fld.status ∈ l) (h_waitMaint : Fld.waitMaint ∈ l) :
    ∀ t, execEraseOldest r s = .next t → t.but l = s.but l := by
  intro t ht
  unfold execEraseOldest at ht
  (try simp only [ok] at ht); (repeat' split at ht) <;> (replace ht := Host.Outcome.next.inj ht; subst ht; first
    | with_reducible rfl
    | (simp [h_log, h_nv, h_regs, h_reply, h_status, h_waitMaint, ↓State.item_but, ↓State.logErase_but, ↓State.logEraseStart_but, ↓State.ite_but]; done)
    | ((first
        | refine State.item_but _ _ _ _ _ _ h_regs h_reply h_status (fun s => ?_)
        | refine State.itemLen_but _ _ _ _ _ _ _ h_regs h_reply h_status (fun s => ?_)) <;> (try dsimp only) <;> (repeat' split) <;> first
      | with_reducible rfl
      | (simp [h_log, h_nv, h_regs, h_reply, h_status, h_waitMaint, ↓State.item_but, ↓State.logErase_but, ↓State.logEraseStart_but, ↓State.ite_but]; done)
      | (rename_i heq; have hk := congrArg (fun x => x.1.but l) heq; simp [h_log, h_nv, h_regs, h_reply, h_status, h_waitMaint, ↓State.item_but, ↓State.logErase_but, ↓State.logEraseStart_but, ↓State.ite_but] at hk; simp [hk, h_log, h_nv, h_regs, h_reply, h_status, h_waitMaint, ↓State.item_but, ↓State.logErase_but, ↓State.logEraseStart_but, ↓State.ite_but]; done)))

theorem execEraseAll_but (r : Role) (s : State) (l : List Fld) (h_log : Fld.log ∈ l) (h_nv : Fld.nv ∈ l) (h_regs : Fld.regs ∈ l) (h_reply : Fld.reply ∈ l) (h_status : Fld.status ∈ l) (h_waitMaint : Fld.waitMaint ∈ l) :
    ∀ t, execEraseAll r s = .next t → t.but l = s.but l := by
  intro t ht
  unfold execEraseAll at ht
  (try simp only [ok] at ht); (repeat' split at ht) <;> (replace ht := Host.Outcome.next.inj ht; subst ht; first
    | with_reducible rfl
    | (simp [h_log, h_nv, h_regs, h_reply, h_status, h_waitMaint, ↓State.item_but, ↓State.logErase_but, ↓State.logEraseStart_but, ↓State.ite_but]; done)
    | ((first
        | refine State.item_but _ _ _ _ _ _ h_regs h_reply h_status (fun s => ?_)
        | refine State.itemLen_but _ _ _ _ _ _ _ h_regs h_reply h_status (fun s => ?_)) <;> (try dsimp only) <;> (repeat' split) <;> first
      | with_reducible rfl
      | (simp [h_log, h_nv, h_regs, h_reply, h_status, h_waitMaint, ↓State.item_but, ↓State.logErase_but, ↓State.logEraseStart_but, ↓State.ite_but]; done)
      | (rename_i heq; have hk := congrArg (fun x => x.1.but l) heq; simp [h_log, h_nv, h_regs, h_reply, h_status, h_waitMaint, ↓State.item_but, ↓State.logErase_but, ↓State.logEraseStart_but, ↓State.ite_but] at hk; simp [hk, h_log, h_nv, h_regs, h_reply, h_status, h_waitMaint, ↓State.item_but, ↓State.logErase_but, ↓State.logEraseStart_but, ↓State.ite_but]; done)))

@[simp] theorem State.ringErased_but (s : State) (k : Nat) (failed : Bool) (l : List Fld) (h_events : Fld.events ∈ l) (h_log : Fld.log ∈ l) (h_nv : Fld.nv ∈ l) (h_regs : Fld.regs ∈ l) : (State.ringErased s k failed).but l = s.but l := by
  unfold State.ringErased
  first
  | (simp [h_events, h_log, h_nv, h_regs, ↓State.askRingErase_but, ↓State.markerSeq_but, ↓State.raise_but, ↓State.but_log, ↓State.each_but, ↓State.ite_but]; done)
  | ((try dsimp only); (repeat' split) <;> first
    | with_reducible rfl
    | (simp [h_events, h_log, h_nv, h_regs, ↓State.askRingErase_but, ↓State.markerSeq_but, ↓State.raise_but, ↓State.but_log, ↓State.each_but, ↓State.ite_but]; done)
    | (refine (State.each_but _ _ _ _ (fun s x _ => ?_)).trans ?_ <;> (try dsimp only) <;> (repeat' split) <;> first
      | with_reducible rfl
      | (simp [h_events, h_log, h_nv, h_regs, ↓State.askRingErase_but, ↓State.markerSeq_but, ↓State.raise_but, ↓State.but_log, ↓State.each_but, ↓State.ite_but]; done))
    | (rename_i heq; have hk := congrArg (fun x => x.1.but l) heq; simp [h_events, h_log, h_nv, h_regs, ↓State.askRingErase_but, ↓State.markerSeq_but, ↓State.raise_but, ↓State.but_log, ↓State.each_but, ↓State.ite_but] at hk; simp [h_events, h_log, h_nv, h_regs, ↓State.askRingErase_but, ↓State.markerSeq_but, ↓State.raise_but, ↓State.but_log, ↓State.each_but, ↓State.ite_but, hk]; done))

@[simp] theorem State.readDrawer_but (s : State) (n : Nat) (x : Sense) (l : List Fld) (h_events : Fld.events ∈ l) (h_granules : Fld.granules ∈ l) (h_keys : Fld.keys ∈ l) (h_log : Fld.log ∈ l) (h_nv : Fld.nv ∈ l) (h_regs : Fld.regs ∈ l) (h_sec : Fld.sec ∈ l) (h_sectors : Fld.sectors ∈ l) : (State.readDrawer s n x).1.but l = s.but l := by
  unfold State.readDrawer
  first
  | (simp [h_events, h_granules, h_keys, h_log, h_nv, h_regs, h_sec, h_sectors, ↓State.bump16_but, ↓State.sensed_but, ↓State.but_log, ↓State.ite_but]; done)
  | ((try dsimp only); (repeat' split) <;> first
    | with_reducible rfl
    | (simp [h_events, h_granules, h_keys, h_log, h_nv, h_regs, h_sec, h_sectors, ↓State.bump16_but, ↓State.sensed_but, ↓State.but_log, ↓State.ite_but]; done))

@[simp] theorem State.onSession_but (s : State) (k : Nat) (f : Session → Session) (l : List Fld) (h_sessions : Fld.sessions ∈ l) : (State.onSession s k f).but l = s.but l := by
  unfold State.onSession
  simp [h_sessions, ↓State.but_sessions, ↓State.ite_but]

theorem execVerifyAll_but (r : Role) (senses : List (Nat × Sense)) (s : State) (l : List Fld) (h_events : Fld.events ∈ l) (h_granules : Fld.granules ∈ l) (h_keys : Fld.keys ∈ l) (h_log : Fld.log ∈ l) (h_nv : Fld.nv ∈ l) (h_regs : Fld.regs ∈ l) (h_reply : Fld.reply ∈ l) (h_sec : Fld.sec ∈ l) (h_sectors : Fld.sectors ∈ l) (h_status : Fld.status ∈ l) :
    ∀ t, execVerifyAll r senses s = .next t → t.but l = s.but l := by
  intro t ht
  unfold execVerifyAll at ht
  (try simp only [ok] at ht); (repeat' split at ht) <;> (replace ht := Host.Outcome.next.inj ht; subst ht; first
    | with_reducible rfl
    | (simp [h_events, h_granules, h_keys, h_log, h_nv, h_regs, h_reply, h_sec, h_sectors, h_status, ↓State.answer_but, ↓State.bump16_but, ↓State.item_but, ↓State.readDrawer_but, ↓State.setReg_but, ↓State.each_but, ↓State.ite_but]; done)
    | (refine (State.each_but _ _ _ _ (fun s x _ => ?_)).trans ?_ <;> (try dsimp only) <;> (repeat' split) <;> first
      | with_reducible rfl
      | (simp [h_events, h_granules, h_keys, h_log, h_nv, h_regs, h_reply, h_sec, h_sectors, h_status, ↓State.answer_but, ↓State.bump16_but, ↓State.item_but, ↓State.readDrawer_but, ↓State.setReg_but, ↓State.each_but, ↓State.ite_but]; done))
    | ((first
        | refine State.item_but _ _ _ _ _ _ h_regs h_reply h_status (fun s => ?_)
        | refine State.itemLen_but _ _ _ _ _ _ _ h_regs h_reply h_status (fun s => ?_)) <;> (try dsimp only) <;> (repeat' split) <;> first
      | with_reducible rfl
      | (simp [h_events, h_granules, h_keys, h_log, h_nv, h_regs, h_reply, h_sec, h_sectors, h_status, ↓State.answer_but, ↓State.bump16_but, ↓State.item_but, ↓State.readDrawer_but, ↓State.setReg_but, ↓State.each_but, ↓State.ite_but]; done)
      | (rename_i heq; have hk := congrArg (fun x => x.1.but l) heq; simp [h_events, h_granules, h_keys, h_log, h_nv, h_regs, h_reply, h_sec, h_sectors, h_status, ↓State.answer_but, ↓State.bump16_but, ↓State.item_but, ↓State.readDrawer_but, ↓State.setReg_but, ↓State.each_but, ↓State.ite_but] at hk; simp [hk, h_events, h_granules, h_keys, h_log, h_nv, h_regs, h_reply, h_sec, h_sectors, h_status, ↓State.answer_but, ↓State.bump16_but, ↓State.item_but, ↓State.readDrawer_but, ↓State.setReg_but, ↓State.each_but, ↓State.ite_but]; done))
    | (rename_i heq; have hk := congrArg (fun x => x.1.but l) heq; simp [h_events, h_granules, h_keys, h_log, h_nv, h_regs, h_reply, h_sec, h_sectors, h_status, ↓State.answer_but, ↓State.bump16_but, ↓State.item_but, ↓State.readDrawer_but, ↓State.setReg_but, ↓State.each_but, ↓State.ite_but] at hk; simp [hk, h_events, h_granules, h_keys, h_log, h_nv, h_regs, h_reply, h_sec, h_sectors, h_status, ↓State.answer_but, ↓State.bump16_but, ↓State.item_but, ↓State.readDrawer_but, ↓State.setReg_but, ↓State.each_but, ↓State.ite_but]; done))

@[simp] theorem State.drawerRead_but (s : State) (r : Role) (k d : Nat) (sense : Sense) (l : List Fld) (h_events : Fld.events ∈ l) (h_granules : Fld.granules ∈ l) (h_keys : Fld.keys ∈ l) (h_log : Fld.log ∈ l) (h_nv : Fld.nv ∈ l) (h_regs : Fld.regs ∈ l) (h_reply : Fld.reply ∈ l) (h_sec : Fld.sec ∈ l) (h_sectors : Fld.sectors ∈ l) (h_sessions : Fld.sessions ∈ l) (h_status : Fld.status ∈ l) : (State.drawerRead s r k d sense).but l = s.but l := by
  unfold State.drawerRead
  first
  | (simp [h_events, h_granules, h_keys, h_log, h_nv, h_regs, h_reply, h_sec, h_sectors, h_sessions, h_status, ↓State.answer_but, ↓State.give_but, ↓State.onSession_but, ↓State.readDrawer_but, ↓State.ite_but]; done)
  | ((try dsimp only); (repeat' split) <;> first
    | with_reducible rfl
    | (simp [h_events, h_granules, h_keys, h_log, h_nv, h_regs, h_reply, h_sec, h_sectors, h_sessions, h_status, ↓State.answer_but, ↓State.give_but, ↓State.onSession_but, ↓State.readDrawer_but, ↓State.ite_but]; done)
    | (rename_i heq; have hk := congrArg (fun x => x.1.but l) heq; simp [h_events, h_granules, h_keys, h_log, h_nv, h_regs, h_reply, h_sec, h_sectors, h_sessions, h_status, ↓State.answer_but, ↓State.give_but, ↓State.onSession_but, ↓State.readDrawer_but, ↓State.ite_but] at hk; simp [hk, h_events, h_granules, h_keys, h_log, h_nv, h_regs, h_reply, h_sec, h_sectors, h_sessions, h_status, ↓State.answer_but, ↓State.give_but, ↓State.onSession_but, ↓State.readDrawer_but, ↓State.ite_but]; done))

theorem execDrawerRead_but (r : Role) (k : Nat) (d : Fin 512) (sense : Sense) (s : State) (l : List Fld) (h_events : Fld.events ∈ l) (h_granules : Fld.granules ∈ l) (h_keys : Fld.keys ∈ l) (h_log : Fld.log ∈ l) (h_nv : Fld.nv ∈ l) (h_regs : Fld.regs ∈ l) (h_reply : Fld.reply ∈ l) (h_sec : Fld.sec ∈ l) (h_sectors : Fld.sectors ∈ l) (h_sessions : Fld.sessions ∈ l) (h_status : Fld.status ∈ l) :
    ∀ t, execDrawerRead r k d sense s = .next t → t.but l = s.but l := by
  intro t ht
  unfold execDrawerRead at ht
  (try simp only [ok] at ht); (repeat' split at ht) <;> (replace ht := Host.Outcome.next.inj ht; subst ht; first
    | with_reducible rfl
    | (simp [h_events, h_granules, h_keys, h_log, h_nv, h_regs, h_reply, h_sec, h_sectors, h_sessions, h_status, ↓State.drawerRead_but, ↓State.item_but, ↓State.ite_but]; done)
    | ((first
        | refine State.item_but _ _ _ _ _ _ h_regs h_reply h_status (fun s => ?_)
        | refine State.itemLen_but _ _ _ _ _ _ _ h_regs h_reply h_status (fun s => ?_)) <;> (try dsimp only) <;> (repeat' split) <;> first
      | with_reducible rfl
      | (simp [h_events, h_granules, h_keys, h_log, h_nv, h_regs, h_reply, h_sec, h_sectors, h_sessions, h_status, ↓State.drawerRead_but, ↓State.item_but, ↓State.ite_but]; done)
      | (rename_i heq; have hk := congrArg (fun x => x.1.but l) heq; simp [h_events, h_granules, h_keys, h_log, h_nv, h_regs, h_reply, h_sec, h_sectors, h_sessions, h_status, ↓State.drawerRead_but, ↓State.item_but, ↓State.ite_but] at hk; simp [hk, h_events, h_granules, h_keys, h_log, h_nv, h_regs, h_reply, h_sec, h_sectors, h_sessions, h_status, ↓State.drawerRead_but, ↓State.item_but, ↓State.ite_but]; done)))

end Sys2Proof.Machine
end

