-- ==== Sys2Proof/Laws/Keep/Reply.lean ====
section
/-! SUPPORT. The frames of the operations of Machine/Reply.lean: the parts of the state that each of them can change. -/
set_option linter.all false

namespace Sys2Proof.Machine

@[simp] theorem State.seal_but (s : State) (k flags tid : Nat) (payload : Bytes) (l : List Fld) (h_draws : Fld.draws ∈ l) (h_events : Fld.events ∈ l) (h_keys : Fld.keys ∈ l) (h_nv : Fld.nv ∈ l) (h_regs : Fld.regs ∈ l) : (State.seal s k flags tid payload).1.but l = s.but l := by
  unfold State.seal
  first
  | (simp [h_draws, h_events, h_keys, h_nv, h_regs, ↓State.storeKey_but, ↓State.but_draws, ↓State.ite_but]; done)
  | ((try dsimp only); (repeat' split) <;> first
    | with_reducible rfl
    | (simp [h_draws, h_events, h_keys, h_nv, h_regs, ↓State.storeKey_but, ↓State.but_draws, ↓State.ite_but]; done)
    | (rename_i heq; have hk := congrArg (fun x => x.1.but l) heq; simp [h_draws, h_events, h_keys, h_nv, h_regs, ↓State.storeKey_but, ↓State.but_draws, ↓State.ite_but] at hk; simp [h_draws, h_events, h_keys, h_nv, h_regs, ↓State.storeKey_but, ↓State.but_draws, ↓State.ite_but, hk]; done))

@[simp] theorem State.setLink_but (s : State) (ll : Link) (x : LinkX) (l : List Fld) (h_downs : Fld.downs ∈ l) : (State.setLink s ll x).but l = s.but l := by
  unfold State.setLink
  first
  | (simp [h_downs, ↓State.but_downs, ↓State.ite_but]; done)
  | ((try dsimp only); (repeat' split) <;> first
    | with_reducible rfl
    | (simp [h_downs, ↓State.but_downs, ↓State.ite_but]; done))

@[simp] theorem State.emit_but (s : State) (ll : Link) (id : Nat) (data : Bytes) (brs : Bool) (l : List Fld) (h_outFrames : Fld.outFrames ∈ l) : (State.emit s ll id data brs).but l = s.but l := by
  unfold State.emit
  first
  | (simp [h_outFrames, ↓State.but_outFrames, ↓State.ite_but]; done)
  | ((try dsimp only); (repeat' split) <;> first
    | with_reducible rfl
    | (simp [h_outFrames, ↓State.but_outFrames, ↓State.ite_but]; done))

@[simp] theorem State.canSend_but (s : State) (k : Fin 2) (node tid : Nat) (frame : Bytes) (l : List Fld) (h_outFrames : Fld.outFrames ∈ l) (h_regs : Fld.regs ∈ l) : (State.canSend s k node tid frame).but l = s.but l := by
  unfold State.canSend
  first
  | (simp [h_outFrames, h_regs, ↓State.bump32_but, ↓State.emit_but, foldl_but, ↓State.ite_but]; done)
  | ((try dsimp only); (repeat' split) <;> first
    | with_reducible rfl
    | (simp [h_outFrames, h_regs, ↓State.bump32_but, ↓State.emit_but, foldl_but, ↓State.ite_but]; done))

@[simp] theorem State.t1sWake_but (s : State) (l : List Fld) (h_events : Fld.events ∈ l) (h_regs : Fld.regs ∈ l) (h_t1sSleep : Fld.t1sSleep ∈ l) : (State.t1sWake s).but l = s.but l := by
  unfold State.t1sWake
  simp [h_events, h_regs, h_t1sSleep, ↓State.raise_but, ↓State.but_t1sSleep, ↓State.ite_but]

@[simp] theorem State.t1sSend_but (s : State) (mac tid : Nat) (frame : Bytes) (l : List Fld) (h_events : Fld.events ∈ l) (h_outFrames : Fld.outFrames ∈ l) (h_regs : Fld.regs ∈ l) (h_t1sSleep : Fld.t1sSleep ∈ l) : (State.t1sSend s mac tid frame).but l = s.but l := by
  unfold State.t1sSend
  simp [h_events, h_outFrames, h_regs, h_t1sSleep, ↓State.bump32_but, ↓State.emit_but, ↓State.t1sWake_but, foldl_but, ↓State.ite_but]

@[simp] theorem State.handOver_but (s : State) (tr : Transport) (ep tid : Nat) (event : Bool) (frame : Bytes) (l : List Fld) (h_events : Fld.events ∈ l) (h_host : Fld.host ∈ l) (h_outFrames : Fld.outFrames ∈ l) (h_regs : Fld.regs ∈ l) (h_svc : Fld.svc ∈ l) (h_t1sSleep : Fld.t1sSleep ∈ l) : (State.handOver s tr ep tid event frame).but l = s.but l := by
  unfold State.handOver
  (try dsimp only); (repeat' split) <;> first
    | with_reducible rfl
    | (simp [h_events, h_host, h_outFrames, h_regs, h_svc, h_t1sSleep, ↓State.canSend_but, ↓State.setWindow_but, ↓State.t1sSend_but, ↓State.but_host, ↓State.ite_but]; done)
    | (rename_i heq; have hk := congrArg (fun x => x.1.but l) heq; simp [h_events, h_host, h_outFrames, h_regs, h_svc, h_t1sSleep, ↓State.canSend_but, ↓State.setWindow_but, ↓State.t1sSend_but, ↓State.but_host, ↓State.ite_but] at hk; simp [hk, h_events, h_host, h_outFrames, h_regs, h_svc, h_t1sSleep, ↓State.canSend_but, ↓State.setWindow_but, ↓State.t1sSend_but, ↓State.but_host, ↓State.ite_but]; done)

@[simp] theorem State.sendPayload_but (s : State) (tr : Transport) (ep k flags tid : Nat) (payload : Bytes) (l : List Fld) (h_draws : Fld.draws ∈ l) (h_events : Fld.events ∈ l) (h_host : Fld.host ∈ l) (h_keys : Fld.keys ∈ l) (h_nv : Fld.nv ∈ l) (h_outFrames : Fld.outFrames ∈ l) (h_regs : Fld.regs ∈ l) (h_svc : Fld.svc ∈ l) (h_t1sSleep : Fld.t1sSleep ∈ l) : (State.sendPayload s tr ep k flags tid payload).but l = s.but l := by
  unfold State.sendPayload
  simp [h_draws, h_events, h_host, h_keys, h_nv, h_outFrames, h_regs, h_svc, h_t1sSleep, ↓State.handOver_but, ↓State.seal_but, ↓State.ite_but]

@[simp] theorem State.respond_but (s : State) (k tid : Nat) (request response : Bytes) (l : List Fld) (h_draws : Fld.draws ∈ l) (h_events : Fld.events ∈ l) (h_host : Fld.host ∈ l) (h_keys : Fld.keys ∈ l) (h_nv : Fld.nv ∈ l) (h_outFrames : Fld.outFrames ∈ l) (h_regs : Fld.regs ∈ l) (h_sessions : Fld.sessions ∈ l) (h_svc : Fld.svc ∈ l) (h_t1sSleep : Fld.t1sSleep ∈ l) : (State.respond s k tid request response).but l = s.but l := by
  unfold State.respond
  (try dsimp only); (repeat' split) <;> first
    | with_reducible rfl
    | (simp [h_draws, h_events, h_host, h_keys, h_nv, h_outFrames, h_regs, h_sessions, h_svc, h_t1sSleep, ↓State.onSession_but, ↓State.sendPayload_but, ↓State.ite_but]; done)
    | (rename_i heq; have hk := congrArg (fun x => x.1.but l) heq; simp [h_draws, h_events, h_host, h_keys, h_nv, h_outFrames, h_regs, h_sessions, h_svc, h_t1sSleep, ↓State.onSession_but, ↓State.sendPayload_but, ↓State.ite_but] at hk; simp [hk, h_draws, h_events, h_host, h_keys, h_nv, h_outFrames, h_regs, h_sessions, h_svc, h_t1sSleep, ↓State.onSession_but, ↓State.sendPayload_but, ↓State.ite_but]; done)

@[simp] theorem State.hostNote_but (s : State) (l : List Fld) (h_host : Fld.host ∈ l) : (State.hostNote s).but l = s.but l := by
  unfold State.hostNote
  simp [h_host, ↓State.but_host, ↓State.ite_but]

@[simp] theorem State.closeSessions_but (s : State) (f : Session → Bool) (l : List Fld) (h_sessions : Fld.sessions ∈ l) : (State.closeSessions s f).but l = s.but l := by
  unfold State.closeSessions
  simp [h_sessions, ↓State.but_sessions, ↓State.ite_but]

@[simp] theorem State.closeLink_but (s : State) (ll : Link) (l : List Fld) (h_asms : Fld.asms ∈ l) (h_sessions : Fld.sessions ∈ l) : (State.closeLink s ll).but l = s.but l := by
  unfold State.closeLink
  simp [h_asms, h_sessions, ↓State.closeSessions_but, ↓State.but_asms, ↓State.ite_but]

end Sys2Proof.Machine
end

