-- ==== Sys2Proof/Laws/Keep/Commit.lean ====
section
/-! SUPPORT. The frames of the operations of Machine/Commit.lean: the parts of the state that each of them can change. -/
set_option linter.all false

namespace Sys2Proof.Machine

@[simp] theorem State.endWaits_but (s : State) (what st : Nat) (l : List Fld) (h_waits : Fld.waits ∈ l) : (State.endWaits s what st).but l = s.but l := by
  unfold State.endWaits
  simp [h_waits, ↓State.but_waits, ↓State.ite_but]

@[simp] theorem State.discardSets_but (s : State) (cause : Nat) (l : List Fld) (h_events : Fld.events ∈ l) (h_later : Fld.later ∈ l) (h_queueC : Fld.queueC ∈ l) (h_regs : Fld.regs ∈ l) (h_sets : Fld.sets ∈ l) (h_waits : Fld.waits ∈ l) : (State.discardSets s cause).but l = s.but l := by
  unfold State.discardSets
  extract_lets tell queued e1 e2
  have ht : ∀ (s : State) (code w : Nat) (param : Bytes), (tell s code w param).but l = s.but l := by
    intro s code w param
    simp only [tell]
    split <;> simp [h_events, h_later, h_queueC, h_regs, h_sets, h_waits, ↓State.endWaits_but, ↓State.raise_but, ↓State.setStage_but, ↓State.but_later, ↓State.but_queueC, ↓State.each_but, foldl_but, ↓State.ite_but]
  clear_value tell
  have k1 : e1.but l = s.but l := by
    simp only [e1]
    refine State.each_but _ _ _ _ (fun t w _ => ?_)
    (try dsimp only)
    split <;> simp [h_events, h_later, h_queueC, h_regs, h_sets, h_waits, ↓State.endWaits_but, ↓State.raise_but, ↓State.setStage_but, ↓State.but_later, ↓State.but_queueC, ↓State.each_but, foldl_but, ↓State.ite_but, ht]
  clear_value e1
  have k2 : e2.but l = s.but l := by
    simp only [e2]
    refine (foldl_but _ _ _ _ (fun t w _ => ?_)).trans k1
    simp [h_events, h_later, h_queueC, h_regs, h_sets, h_waits, ↓State.endWaits_but, ↓State.raise_but, ↓State.setStage_but, ↓State.but_later, ↓State.but_queueC, ↓State.each_but, foldl_but, ↓State.ite_but, ht]
  clear_value e2
  rw [State.but_queueC _ _ _ h_queueC, k2]

@[simp] theorem State.fabricTest_but (s : State) (good : Bool) (l : List Fld) (h_events : Fld.events ∈ l) (h_fabricFault : Fld.fabricFault ∈ l) (h_regs : Fld.regs ∈ l) (h_safeN : Fld.safeN ∈ l) : (State.fabricTest s good).1.but l = s.but l := by
  unfold State.fabricTest
  extract_lets ll
  clear_value ll
  split
  · rfl
  · split
    · simp [h_events, h_fabricFault, h_regs, h_safeN]
    · rw [State.raise_but _ _ _ _ _ _ _ h_events h_regs]
      simp [State.but, h_events, h_fabricFault, h_regs, h_safeN]

@[simp] theorem State.stageEntries_but (s : State) (w : Nat) (l : List Fld) (h_shadow : Fld.shadow ∈ l) : (State.stageEntries s w).but l = s.but l := by
  unfold State.stageEntries
  simp [h_shadow, ↓State.but_shadow, foldl_but, ↓State.ite_but]

@[simp] theorem State.checkReport_but (s : State) (k : CommitKind) (x : Fail) (l : List Fld) (h_regs : Fld.regs ∈ l) (h_sets : Fld.sets ∈ l) : (State.checkReport s k x).but l = s.but l := by
  unfold State.checkReport
  (try dsimp only); (repeat' split) <;> first
    | with_reducible rfl
    | (simp [h_regs, h_sets, ↓State.setReg_but, ↓State.setStage_but, ↓State.ite_but]; done)
    | (rename_i heq; have hk := congrArg (fun x => x.1.but l) heq; simp [h_regs, h_sets, ↓State.setReg_but, ↓State.setStage_but, ↓State.ite_but] at hk; simp [hk, h_regs, h_sets, ↓State.setReg_but, ↓State.setStage_but, ↓State.ite_but]; done)

@[simp] theorem State.checkPhase_but (s : State) (k : CommitKind) (good : Bool) (l : List Fld) (h_events : Fld.events ∈ l) (h_fabricFault : Fld.fabricFault ∈ l) (h_regs : Fld.regs ∈ l) (h_safeN : Fld.safeN ∈ l) (h_sets : Fld.sets ∈ l) : (State.checkPhase s k good).1.but l = s.but l := by
  unfold State.checkPhase
  (try dsimp only); (repeat' split) <;> first
    | with_reducible rfl
    | (simp [h_events, h_fabricFault, h_regs, h_safeN, h_sets, ↓State.checkReport_but, ↓State.fabricTest_but, ↓State.ite_but]; done)
    | (rename_i heq; have hk := congrArg (fun x => x.1.but l) heq; simp [h_events, h_fabricFault, h_regs, h_safeN, h_sets, ↓State.checkReport_but, ↓State.fabricTest_but, ↓State.ite_but] at hk; simp [hk, h_events, h_fabricFault, h_regs, h_safeN, h_sets, ↓State.checkReport_but, ↓State.fabricTest_but, ↓State.ite_but]; done)

@[simp] theorem State.arm_but (s : State) (k : CommitKind) (l : List Fld) (h_armed : Fld.armed ∈ l) (h_switchSt : Fld.switchSt ∈ l) : (State.arm s k).but l = s.but l := by
  unfold State.arm
  first
  | (simp [State.but, h_armed, h_switchSt, State.but, ↓State.but_armed, ↓State.but_switchSt, ↓State.ite_but]; done)
  | ((try dsimp only); (repeat' split) <;> first
    | with_reducible rfl
    | (simp [State.but, h_armed, h_switchSt, State.but, ↓State.but_armed, ↓State.but_switchSt, ↓State.ite_but]; done)
    | (rename_i heq; have hk := congrArg (fun x => x.1.but l) heq; simp [State.but, h_armed, h_switchSt, State.but, ↓State.but_armed, ↓State.but_switchSt, ↓State.ite_but] at hk; simp [State.but, hk, h_armed, h_switchSt, State.but, ↓State.but_armed, ↓State.but_switchSt, ↓State.ite_but]; done))

@[simp] theorem State.commitEnds_but (s : State) (k : CommitKind) (st : Nat) (l : List Fld) (h_events : Fld.events ∈ l) (h_regs : Fld.regs ∈ l) (h_sets : Fld.sets ∈ l) (h_switchSt : Fld.switchSt ∈ l) (h_waits : Fld.waits ∈ l) : (State.commitEnds s k st).but l = s.but l := by
  unfold State.commitEnds
  (try dsimp only); (repeat' split) <;> first
    | with_reducible rfl
    | (simp [h_events, h_regs, h_sets, h_switchSt, h_waits, ↓State.endWaits_but, ↓State.raise_but, ↓State.setReg_but, ↓State.setStage_but, ↓State.but_switchSt, ↓State.ite_but]; done)
    | (rename_i heq; have hk := congrArg (fun x => x.1.but l) heq; simp [h_events, h_regs, h_sets, h_switchSt, h_waits, ↓State.endWaits_but, ↓State.raise_but, ↓State.setReg_but, ↓State.setStage_but, ↓State.but_switchSt, ↓State.ite_but] at hk; simp [hk, h_events, h_regs, h_sets, h_switchSt, h_waits, ↓State.endWaits_but, ↓State.raise_but, ↓State.setReg_but, ↓State.setStage_but, ↓State.but_switchSt, ↓State.ite_but]; done)

@[simp] theorem State.runCommit_but (s : State) (w : Nat) (good : Bool) (l : List Fld) (h_armed : Fld.armed ∈ l) (h_events : Fld.events ∈ l) (h_fabricFault : Fld.fabricFault ∈ l) (h_regs : Fld.regs ∈ l) (h_safeN : Fld.safeN ∈ l) (h_sets : Fld.sets ∈ l) (h_shadow : Fld.shadow ∈ l) (h_switchSt : Fld.switchSt ∈ l) (h_waits : Fld.waits ∈ l) : (State.runCommit s w good).but l = s.but l := by
  unfold State.runCommit
  simp [h_armed, h_events, h_fabricFault, h_regs, h_safeN, h_sets, h_shadow, h_switchSt, h_waits, ↓State.arm_but, ↓State.checkPhase_but, ↓State.commitEnds_but, ↓State.stageEntries_but, ↓State.but_shadow, ↓State.ite_but]

@[simp] theorem State.enqueue_but (s : State) (w : Nat) (l : List Fld) (h_queueC : Fld.queueC ∈ l) : (State.enqueue s w).but l = s.but l := by
  unfold State.enqueue
  simp [h_queueC, ↓State.but_queueC, ↓State.ite_but]

@[simp] theorem State.commitRequest_but (s : State) (w : Nat) (good : Bool) (l : List Fld) (h_armed : Fld.armed ∈ l) (h_events : Fld.events ∈ l) (h_fabricFault : Fld.fabricFault ∈ l) (h_queueC : Fld.queueC ∈ l) (h_regs : Fld.regs ∈ l) (h_reply : Fld.reply ∈ l) (h_safeN : Fld.safeN ∈ l) (h_sets : Fld.sets ∈ l) (h_shadow : Fld.shadow ∈ l) (h_status : Fld.status ∈ l) (h_switchSt : Fld.switchSt ∈ l) (h_waits : Fld.waits ∈ l) : (State.commitRequest s w good).but l = s.but l := by
  unfold State.commitRequest
  simp [h_armed, h_events, h_fabricFault, h_queueC, h_regs, h_reply, h_safeN, h_sets, h_shadow, h_status, h_switchSt, h_waits, ↓State.answer_but, ↓State.enqueue_but, ↓State.runCommit_but, ↓State.ite_but]

@[simp] theorem State.discardRequest_but (s : State) (w : Nat) (l : List Fld) (h_reply : Fld.reply ∈ l) (h_sets : Fld.sets ∈ l) (h_status : Fld.status ∈ l) : (State.discardRequest s w).but l = s.but l := by
  unfold State.discardRequest
  simp [h_reply, h_sets, h_status, ↓State.answer_but, ↓State.setStage_but, ↓State.ite_but]

@[simp] theorem State.queueStart_but (s : State) (good : Bool) (l : List Fld) (h_armed : Fld.armed ∈ l) (h_events : Fld.events ∈ l) (h_fabricFault : Fld.fabricFault ∈ l) (h_queueC : Fld.queueC ∈ l) (h_regs : Fld.regs ∈ l) (h_safeN : Fld.safeN ∈ l) (h_sets : Fld.sets ∈ l) (h_shadow : Fld.shadow ∈ l) (h_switchSt : Fld.switchSt ∈ l) (h_waits : Fld.waits ∈ l) : (State.queueStart s good).but l = s.but l := by
  unfold State.queueStart
  (try dsimp only); (repeat' split) <;> first
    | with_reducible rfl
    | (simp [h_armed, h_events, h_fabricFault, h_queueC, h_regs, h_safeN, h_sets, h_shadow, h_switchSt, h_waits, ↓State.runCommit_but, ↓State.but_queueC, ↓State.ite_but]; done)
    | (rename_i heq; have hk := congrArg (fun x => x.1.but l) heq; simp [h_armed, h_events, h_fabricFault, h_queueC, h_regs, h_safeN, h_sets, h_shadow, h_switchSt, h_waits, ↓State.runCommit_but, ↓State.but_queueC, ↓State.ite_but] at hk; simp [hk, h_armed, h_events, h_fabricFault, h_queueC, h_regs, h_safeN, h_sets, h_shadow, h_switchSt, h_waits, ↓State.runCommit_but, ↓State.but_queueC, ↓State.ite_but]; done)

@[simp] theorem State.swapEnables_but (s : State) (l : List Fld) (h_ens : Fld.ens ∈ l) : (State.swapEnables s).but l = s.but l := by
  unfold State.swapEnables
  first
  | (simp [h_ens, ↓State.modeEn_but, ↓State.each_but, ↓State.ite_but]; done)
  | ((try dsimp only); (repeat' split) <;> first
    | with_reducible rfl
    | (simp [h_ens, ↓State.modeEn_but, ↓State.each_but, ↓State.ite_but]; done)
    | (refine (State.each_but _ _ _ _ (fun s x _ => ?_)).trans ?_ <;> (try dsimp only) <;> (repeat' split) <;> first
      | with_reducible rfl
      | (simp [h_ens, ↓State.modeEn_but, ↓State.each_but, ↓State.ite_but]; done)))

@[simp] theorem State.swapTrims_but (s : State) (l : List Fld) (h_entries : Fld.entries ∈ l) (h_trims : Fld.trims ∈ l) : (State.swapTrims s).but l = s.but l := by
  unfold State.swapTrims
  simp [h_entries, h_trims, ↓State.setTrim_but, ↓State.trimFollow_but, ↓State.each_but, ↓State.ite_but]

@[simp] theorem State.swapChans_but (s : State) (diff : List Nat) (l : List Fld) (h_chans : Fld.chans ∈ l) : (State.swapChans s diff).but l = s.but l := by
  unfold State.swapChans
  simp [h_chans, ↓State.setChan_but, ↓State.each_but, ↓State.ite_but]

@[simp] theorem State.syncBreak_but (s : State) (n tail : Nat) (l : List Fld) (h_chans : Fld.chans ∈ l) (h_clusters : Fld.clusters ∈ l) : (State.syncBreak s n tail).but l = s.but l := by
  unfold State.syncBreak
  extract_lets on t0 src e1 waits e2
  have k1 : e1.but l = s.but l := by simp only [e1]; simp [h_chans, h_clusters, ↓State.lengthen_but, ↓State.roundBreak_but, ↓State.setChan_but, ↓State.setCluster_but, ↓State.setRound_but, ↓State.each_but, ↓State.ite_but]
  have k2 : e2.but l = e1.but l := by
    simp only [e2]
    refine State.each_but _ _ _ _ (fun t g _ => ?_)
    split
    · split
      · split <;> simp [h_chans, h_clusters, ↓State.lengthen_but, ↓State.roundBreak_but, ↓State.setChan_but, ↓State.setCluster_but, ↓State.setRound_but, ↓State.each_but, ↓State.ite_but] <;> split <;> simp [h_chans, h_clusters, ↓State.lengthen_but, ↓State.roundBreak_but, ↓State.setChan_but, ↓State.setCluster_but, ↓State.setRound_but, ↓State.each_but, ↓State.ite_but]
      · split <;> simp [h_chans, h_clusters, ↓State.lengthen_but, ↓State.roundBreak_but, ↓State.setChan_but, ↓State.setCluster_but, ↓State.setRound_but, ↓State.each_but, ↓State.ite_but]
    · split <;> simp [h_chans, h_clusters, ↓State.lengthen_but, ↓State.roundBreak_but, ↓State.setChan_but, ↓State.setCluster_but, ↓State.setRound_but, ↓State.each_but, ↓State.ite_but]
  clear_value e2
  clear_value e1
  split
  · refine (State.each_but _ _ _ _ (fun t c _ => ?_)).trans (k2.trans k1)
    split <;> simp [h_chans, h_clusters, ↓State.lengthen_but, ↓State.roundBreak_but, ↓State.setChan_but, ↓State.setCluster_but, ↓State.setRound_but, ↓State.each_but, ↓State.ite_but]
  · exact k2.trans k1

@[simp] theorem State.swapSync_but (s : State) (ll : List (Nat × Nat)) (l : List Fld) (h_chans : Fld.chans ∈ l) (h_clusters : Fld.clusters ∈ l) : (State.swapSync s ll).but l = s.but l := by
  unfold State.swapSync
  first
  | (simp [h_chans, h_clusters, ↓State.syncBreak_but, foldl_but, ↓State.ite_but]; done)
  | ((try dsimp only); (repeat' split) <;> first
    | with_reducible rfl
    | (simp [h_chans, h_clusters, ↓State.syncBreak_but, foldl_but, ↓State.ite_but]; done))

@[simp] theorem State.swapRounds_but (s : State) (ll : List (Nat × Nat × Window × Option Window)) (first : Bool) (l : List Fld) (h_clusters : Fld.clusters ∈ l) : (State.swapRounds s ll first).but l = s.but l := by
  unfold State.swapRounds
  first
  | (simp [h_clusters, ↓State.keepWindows_but, ↓State.setRound_but, ↓State.each_but, ↓State.ite_but]; done)
  | ((try dsimp only); (repeat' split) <;> first
    | with_reducible rfl
    | (simp [h_clusters, ↓State.keepWindows_but, ↓State.setRound_but, ↓State.each_but, ↓State.ite_but]; done)
    | (refine (State.each_but _ _ _ _ (fun s x _ => ?_)).trans ?_ <;> (try dsimp only) <;> (repeat' split) <;> first
      | with_reducible rfl
      | (simp [h_clusters, ↓State.keepWindows_but, ↓State.setRound_but, ↓State.each_but, ↓State.ite_but]; done)))

@[simp] theorem State.warnKinds_but (s : State) (diff : List Nat) (l : List Fld) (h_chans : Fld.chans ∈ l) (h_events : Fld.events ∈ l) (h_regs : Fld.regs ∈ l) : (State.warnKinds s diff).but l = s.but l := by
  unfold State.warnKinds
  first
  | (simp [h_chans, h_events, h_regs, ↓State.warnClear_but, ↓State.each_but, ↓State.ite_but]; done)
  | ((try dsimp only); (repeat' split) <;> first
    | with_reducible rfl
    | (simp [h_chans, h_events, h_regs, ↓State.warnClear_but, ↓State.each_but, ↓State.ite_but]; done)
    | (refine (State.each_but _ _ _ _ (fun s x _ => ?_)).trans ?_ <;> (try dsimp only) <;> (repeat' split) <;> first
      | with_reducible rfl
      | (simp [h_chans, h_events, h_regs, ↓State.warnClear_but, ↓State.each_but, ↓State.ite_but]; done)))

@[simp] theorem State.swapStreams_but (s : State) (diff : List Nat) (l : List Fld) (h_events : Fld.events ∈ l) (h_regs : Fld.regs ∈ l) (h_streams : Fld.streams ∈ l) : (State.swapStreams s diff).but l = s.but l := by
  unfold State.swapStreams
  simp [h_events, h_regs, h_streams, ↓State.setReg_but, ↓State.setStream_but, ↓State.streamPace_but, ↓State.each_but, ↓State.ite_but]

@[simp] theorem State.swapPairs_but (s : State) (old : List (Nat × Nat)) (first : Bool) (l : List Fld) (h_events : Fld.events ∈ l) (h_regs : Fld.regs ∈ l) : (State.swapPairs s old first).but l = s.but l := by
  unfold State.swapPairs
  first
  | (simp [h_events, h_regs, ↓State.raise_but, ↓State.each_but, ↓State.ite_but]; done)
  | ((try dsimp only); (repeat' split) <;> first
    | with_reducible rfl
    | (simp [h_events, h_regs, ↓State.raise_but, ↓State.each_but, ↓State.ite_but]; done)
    | (refine (State.each_but _ _ _ _ (fun s x _ => ?_)).trans ?_ <;> (try dsimp only) <;> (repeat' split) <;> first
      | with_reducible rfl
      | (simp [h_events, h_regs, ↓State.raise_but, ↓State.each_but, ↓State.ite_but]; done)))

@[simp] theorem State.swapThermal_but (s : State) (diff : List Nat) (l : List Fld) (h_thermal : Fld.thermal ∈ l) : (State.swapThermal s diff).but l = s.but l := by
  unfold State.swapThermal
  simp [h_thermal, ↓State.but_thermal, ↓State.ite_but]

@[simp] theorem State.swapDrives_but (s : State) (diff : List Nat) (first : Bool) (period : Nat) (l : List Fld) (h_clusters : Fld.clusters ∈ l) (h_drives : Fld.drives ∈ l) (h_events : Fld.events ∈ l) (h_regs : Fld.regs ∈ l) : (State.swapDrives s diff first period).but l = s.but l := by
  unfold State.swapDrives
  first
  | (simp [h_clusters, h_drives, h_events, h_regs, ↓State.driveSync_but, ↓State.lockFalls_but, ↓State.setCluster_but, ↓State.setDrive_but, ↓State.each_but, ↓State.ite_but]; done)
  | ((try dsimp only); (repeat' split) <;> first
    | with_reducible rfl
    | (simp [h_clusters, h_drives, h_events, h_regs, ↓State.driveSync_but, ↓State.lockFalls_but, ↓State.setCluster_but, ↓State.setDrive_but, ↓State.each_but, ↓State.ite_but]; done)
    | (refine (State.each_but _ _ _ _ (fun s x _ => ?_)).trans ?_ <;> (try dsimp only) <;> (repeat' split) <;> first
      | with_reducible rfl
      | (simp [h_clusters, h_drives, h_events, h_regs, ↓State.driveSync_but, ↓State.lockFalls_but, ↓State.setCluster_but, ↓State.setDrive_but, ↓State.each_but, ↓State.ite_but]; done)))

@[simp] theorem State.swapTargets_but (s : State) (diff : List Nat) (l : List Fld) (h_entries : Fld.entries ∈ l) : (State.swapTargets s diff).but l = s.but l := by
  unfold State.swapTargets
  simp [h_entries, ↓State.setEntry_but, ↓State.each_but, ↓State.ite_but]

@[simp] theorem State.swapLinks_but (s : State) (diff : List Nat) (l : List Fld) (h_asms : Fld.asms ∈ l) (h_downs : Fld.downs ∈ l) (h_inbox : Fld.inbox ∈ l) (h_sessions : Fld.sessions ∈ l) (h_t1sSleep : Fld.t1sSleep ∈ l) : (State.swapLinks s diff).but l = s.but l := by
  unfold State.swapLinks
  refine foldl_but _ _ _ _ (fun t k _ => ?_)
  extract_lets e1
  have k1 : e1.but l = t.but l := by simp only [e1]; simp [h_asms, h_downs, h_inbox, h_sessions, h_t1sSleep, ↓State.closeLink_but, ↓State.setLink_but]
  clear_value e1
  refine Eq.trans ?_ k1
  simp [State.but, h_asms, h_downs, h_inbox, h_sessions, h_t1sSleep]

@[simp] theorem State.powerUpDone_but (s : State) (l : List Fld) (h_clusters : Fld.clusters ∈ l) (h_events : Fld.events ∈ l) (h_regs : Fld.regs ∈ l) (h_supply : Fld.supply ∈ l) (h_trestle : Fld.trestle ∈ l) : (State.powerUpDone s).but l = s.but l := by
  unfold State.powerUpDone
  extract_lets u e1 src e2 e3 e4
  have k1 : e1.but l = s.but l := by simp only [e1]; split <;> simp [h_clusters, h_events, h_regs, h_supply, h_trestle, ↓State.setReg_but, ↓State.each_but]
  clear_value e1
  have k2 : e2.but l = s.but l := by simp only [e2]; refine Eq.trans ?_ k1; simp [State.but, h_clusters, h_events, h_regs, h_supply, h_trestle]
  clear_value e2
  have k3 : e3.but l = s.but l := by simp only [e3]; simp [h_clusters, h_events, h_regs, h_supply, h_trestle, ↓State.setCluster_but, ↓State.each_but, k2]
  clear_value e3
  have k4 : e4.but l = s.but l := by simp only [e4]; simp [h_clusters, h_events, h_regs, h_supply, h_trestle, ↓State.raise_but, k3]
  clear_value e4
  split
  · simp [h_clusters, h_events, h_regs, h_supply, h_trestle, ↓State.raise_but, k4]
  · exact k4

@[simp] theorem State.scheduleUp_but (s : State) (l : List Fld) (h_events : Fld.events ∈ l) (h_ledger : Fld.ledger ∈ l) (h_parts : Fld.parts ∈ l) (h_regs : Fld.regs ∈ l) (h_streams : Fld.streams ∈ l) : (State.scheduleUp s).but l = s.but l := by
  unfold State.scheduleUp
  (try dsimp only); (repeat' split) <;> first
    | with_reducible rfl
    | (simp [h_events, h_ledger, h_parts, h_regs, h_streams, ↓State.tableSwitch_but, ↓State.but_ledger, ↓State.ite_but]; done)
    | (rename_i heq; have hk := congrArg (fun x => x.1.but l) heq; simp [h_events, h_ledger, h_parts, h_regs, h_streams, ↓State.tableSwitch_but, ↓State.but_ledger, ↓State.ite_but] at hk; simp [hk, h_events, h_ledger, h_parts, h_regs, h_streams, ↓State.tableSwitch_but, ↓State.but_ledger, ↓State.ite_but]; done)

@[simp] theorem State.swapUnits_but (s : State) (old : List (Nat × Nat)) (first : Bool) (syncs : List (Nat × Nat)) (period : Nat) (l : List Fld) (h_asms : Fld.asms ∈ l) (h_chans : Fld.chans ∈ l) (h_clusters : Fld.clusters ∈ l) (h_downs : Fld.downs ∈ l) (h_drives : Fld.drives ∈ l) (h_ens : Fld.ens ∈ l) (h_entries : Fld.entries ∈ l) (h_events : Fld.events ∈ l) (h_inbox : Fld.inbox ∈ l) (h_regs : Fld.regs ∈ l) (h_sessions : Fld.sessions ∈ l) (h_streams : Fld.streams ∈ l) (h_t1sSleep : Fld.t1sSleep ∈ l) (h_thermal : Fld.thermal ∈ l) (h_trims : Fld.trims ∈ l) : (State.swapUnits s old first syncs period).but l = s.but l := by
  unfold State.swapUnits
  first
  | (simp [h_asms, h_chans, h_clusters, h_downs, h_drives, h_ens, h_entries, h_events, h_inbox, h_regs, h_sessions, h_streams, h_t1sSleep, h_thermal, h_trims, ↓State.swapChans_but, ↓State.swapDrives_but, ↓State.swapEnables_but, ↓State.swapLinks_but, ↓State.swapPairs_but, ↓State.swapStreams_but, ↓State.swapSync_but, ↓State.swapTargets_but, ↓State.swapThermal_but, ↓State.swapTrims_but, ↓State.ite_but]; done)
  | ((try dsimp only); (repeat' split) <;> first
    | with_reducible rfl
    | (simp [h_asms, h_chans, h_clusters, h_downs, h_drives, h_ens, h_entries, h_events, h_inbox, h_regs, h_sessions, h_streams, h_t1sSleep, h_thermal, h_trims, ↓State.swapChans_but, ↓State.swapDrives_but, ↓State.swapEnables_but, ↓State.swapLinks_but, ↓State.swapPairs_but, ↓State.swapStreams_but, ↓State.swapSync_but, ↓State.swapTargets_but, ↓State.swapThermal_but, ↓State.swapTrims_but, ↓State.ite_but]; done))

@[simp] theorem State.fallbackEvent_but (s : State) (tried : Bool) (n : Nat) (l : List Fld) (h_events : Fld.events ∈ l) (h_regs : Fld.regs ∈ l) : (State.fallbackEvent s tried n).but l = s.but l := by
  unfold State.fallbackEvent
  simp [h_events, h_regs, ↓State.raise_but, ↓State.ite_but]

@[simp] theorem State.powerUpShelf_but (s : State) (n : Nat) (l : List Fld) (h_events : Fld.events ∈ l) (h_regs : Fld.regs ∈ l) : (State.powerUpShelf s n).but l = s.but l := by
  unfold State.powerUpShelf
  simp [h_events, h_regs, ↓State.fallbackEvent_but, ↓State.ite_but]

@[simp] theorem State.swapEnds_but (s : State) (a : Armed) (changed : Bool) (l : List Fld) (h_events : Fld.events ∈ l) (h_regs : Fld.regs ∈ l) (h_sets : Fld.sets ∈ l) (h_switchSt : Fld.switchSt ∈ l) (h_waits : Fld.waits ∈ l) : (State.swapEnds s a changed).but l = s.but l := by
  unfold State.swapEnds
  (try dsimp only); (repeat' split) <;> first
    | with_reducible rfl
    | (simp [h_events, h_regs, h_sets, h_switchSt, h_waits, ↓State.endWaits_but, ↓State.powerUpShelf_but, ↓State.raise_but, ↓State.setReg_but, ↓State.setStage_but, ↓State.but_switchSt, ↓State.ite_but]; done)
    | (rename_i heq; have hk := congrArg (fun x => x.1.but l) heq; simp [h_events, h_regs, h_sets, h_switchSt, h_waits, ↓State.endWaits_but, ↓State.powerUpShelf_but, ↓State.raise_but, ↓State.setReg_but, ↓State.setStage_but, ↓State.but_switchSt, ↓State.ite_but] at hk; simp [hk, h_events, h_regs, h_sets, h_switchSt, h_waits, ↓State.endWaits_but, ↓State.powerUpShelf_but, ↓State.raise_but, ↓State.setReg_but, ↓State.setStage_but, ↓State.but_switchSt, ↓State.ite_but]; done)

@[simp] theorem State.takeShadow_but (s : State) (l : List Fld) (h_active : Fld.active ∈ l) (h_armed : Fld.armed ∈ l) (h_committed : Fld.committed ∈ l) (h_prior : Fld.prior ∈ l) : (State.takeShadow s).but l = s.but l := by
  unfold State.takeShadow
  first
  | (simp [h_active, h_armed, h_committed, h_prior, State.but, ↓State.but_active, ↓State.but_armed, ↓State.but_committed, ↓State.but_prior, ↓State.ite_but]; done)
  | ((try dsimp only); (repeat' split) <;> first
    | with_reducible rfl
    | (simp [h_active, h_armed, h_committed, h_prior, State.but, ↓State.but_active, ↓State.but_armed, ↓State.but_committed, ↓State.but_prior, ↓State.ite_but]; done))

@[simp] theorem State.swap_but (s : State) (a : Armed) (l : List Fld) (h_active : Fld.active ∈ l) (h_armed : Fld.armed ∈ l) (h_asms : Fld.asms ∈ l) (h_chans : Fld.chans ∈ l) (h_clusters : Fld.clusters ∈ l) (h_committed : Fld.committed ∈ l) (h_downs : Fld.downs ∈ l) (h_drives : Fld.drives ∈ l) (h_ens : Fld.ens ∈ l) (h_entries : Fld.entries ∈ l) (h_events : Fld.events ∈ l) (h_host : Fld.host ∈ l) (h_inbox : Fld.inbox ∈ l) (h_ledger : Fld.ledger ∈ l) (h_parts : Fld.parts ∈ l) (h_prior : Fld.prior ∈ l) (h_regs : Fld.regs ∈ l) (h_sessions : Fld.sessions ∈ l) (h_sets : Fld.sets ∈ l) (h_streams : Fld.streams ∈ l) (h_supply : Fld.supply ∈ l) (h_switchSt : Fld.switchSt ∈ l) (h_t1sSleep : Fld.t1sSleep ∈ l) (h_thermal : Fld.thermal ∈ l) (h_trestle : Fld.trestle ∈ l) (h_trims : Fld.trims ∈ l) (h_waits : Fld.waits ∈ l) : (State.swap s a).but l = s.but l := by
  unfold State.swap
  extract_lets e1 old first diff syncs src period wins w1 w2 e2 e3 e4 e5
  have k1 : e1.but l = s.but l := by simp only [e1]; simp [h_active, h_armed, h_asms, h_chans, h_clusters, h_committed, h_downs, h_drives, h_ens, h_entries, h_events, h_host, h_inbox, h_ledger, h_parts, h_prior, h_regs, h_sessions, h_sets, h_streams, h_supply, h_switchSt, h_t1sSleep, h_thermal, h_trestle, h_trims, h_waits, ↓State.bump32_but, ↓State.hostNote_but, ↓State.intervalBreak_but, ↓State.intervalStart_but, ↓State.powerUpDone_but, ↓State.scheduleUp_but, ↓State.setReg_but, ↓State.settleTokens_but, ↓State.swapEnds_but, ↓State.swapRounds_but, ↓State.swapUnits_but, ↓State.takeShadow_but, ↓State.warnKinds_but, ↓State.but_active, ↓State.ite_but]
  clear_value e1
  have kw1 : w1.but l = s.but l := by simp only [w1]; simp [h_active, h_armed, h_asms, h_chans, h_clusters, h_committed, h_downs, h_drives, h_ens, h_entries, h_events, h_host, h_inbox, h_ledger, h_parts, h_prior, h_regs, h_sessions, h_sets, h_streams, h_supply, h_switchSt, h_t1sSleep, h_thermal, h_trestle, h_trims, h_waits, ↓State.bump32_but, ↓State.hostNote_but, ↓State.intervalBreak_but, ↓State.intervalStart_but, ↓State.powerUpDone_but, ↓State.scheduleUp_but, ↓State.setReg_but, ↓State.settleTokens_but, ↓State.swapEnds_but, ↓State.swapRounds_but, ↓State.swapUnits_but, ↓State.takeShadow_but, ↓State.warnKinds_but, ↓State.but_active, ↓State.ite_but, k1]
  clear_value w1
  have kw2 : w2.but l = s.but l := by simp only [w2]; simp [h_active, h_armed, h_asms, h_chans, h_clusters, h_committed, h_downs, h_drives, h_ens, h_entries, h_events, h_host, h_inbox, h_ledger, h_parts, h_prior, h_regs, h_sessions, h_sets, h_streams, h_supply, h_switchSt, h_t1sSleep, h_thermal, h_trestle, h_trims, h_waits, ↓State.bump32_but, ↓State.hostNote_but, ↓State.intervalBreak_but, ↓State.intervalStart_but, ↓State.powerUpDone_but, ↓State.scheduleUp_but, ↓State.setReg_but, ↓State.settleTokens_but, ↓State.swapEnds_but, ↓State.swapRounds_but, ↓State.swapUnits_but, ↓State.takeShadow_but, ↓State.warnKinds_but, ↓State.but_active, ↓State.ite_but, kw1]
  clear_value w2
  have k2 : e2.but l = s.but l := by
    simp only [e2]
    split
    · rw [State.intervalBreak_but _ _ _ h_ledger h_parts h_regs (fun x => by simp [h_active, h_armed, h_asms, h_chans, h_clusters, h_committed, h_downs, h_drives, h_ens, h_entries, h_events, h_host, h_inbox, h_ledger, h_parts, h_prior, h_regs, h_sessions, h_sets, h_streams, h_supply, h_switchSt, h_t1sSleep, h_thermal, h_trestle, h_trims, h_waits, ↓State.bump32_but, ↓State.hostNote_but, ↓State.intervalBreak_but, ↓State.intervalStart_but, ↓State.powerUpDone_but, ↓State.scheduleUp_but, ↓State.setReg_but, ↓State.settleTokens_but, ↓State.swapEnds_but, ↓State.swapRounds_but, ↓State.swapUnits_but, ↓State.takeShadow_but, ↓State.warnKinds_but, ↓State.but_active, ↓State.ite_but]), kw2]
    · simp [h_active, h_armed, h_asms, h_chans, h_clusters, h_committed, h_downs, h_drives, h_ens, h_entries, h_events, h_host, h_inbox, h_ledger, h_parts, h_prior, h_regs, h_sessions, h_sets, h_streams, h_supply, h_switchSt, h_t1sSleep, h_thermal, h_trestle, h_trims, h_waits, ↓State.bump32_but, ↓State.hostNote_but, ↓State.intervalBreak_but, ↓State.intervalStart_but, ↓State.powerUpDone_but, ↓State.scheduleUp_but, ↓State.setReg_but, ↓State.settleTokens_but, ↓State.swapEnds_but, ↓State.swapRounds_but, ↓State.swapUnits_but, ↓State.takeShadow_but, ↓State.warnKinds_but, ↓State.but_active, ↓State.ite_but, kw2]
  clear_value e2
  have k3 : e3.but l = s.but l := by simp only [e3]; simp [h_active, h_armed, h_asms, h_chans, h_clusters, h_committed, h_downs, h_drives, h_ens, h_entries, h_events, h_host, h_inbox, h_ledger, h_parts, h_prior, h_regs, h_sessions, h_sets, h_streams, h_supply, h_switchSt, h_t1sSleep, h_thermal, h_trestle, h_trims, h_waits, ↓State.bump32_but, ↓State.hostNote_but, ↓State.intervalBreak_but, ↓State.intervalStart_but, ↓State.powerUpDone_but, ↓State.scheduleUp_but, ↓State.setReg_but, ↓State.settleTokens_but, ↓State.swapEnds_but, ↓State.swapRounds_but, ↓State.swapUnits_but, ↓State.takeShadow_but, ↓State.warnKinds_but, ↓State.but_active, ↓State.ite_but, k2]
  clear_value e3
  have k4 : e4.but l = s.but l := by simp only [e4]; simp [h_active, h_armed, h_asms, h_chans, h_clusters, h_committed, h_downs, h_drives, h_ens, h_entries, h_events, h_host, h_inbox, h_ledger, h_parts, h_prior, h_regs, h_sessions, h_sets, h_streams, h_supply, h_switchSt, h_t1sSleep, h_thermal, h_trestle, h_trims, h_waits, ↓State.bump32_but, ↓State.hostNote_but, ↓State.intervalBreak_but, ↓State.intervalStart_but, ↓State.powerUpDone_but, ↓State.scheduleUp_but, ↓State.setReg_but, ↓State.settleTokens_but, ↓State.swapEnds_but, ↓State.swapRounds_but, ↓State.swapUnits_but, ↓State.takeShadow_but, ↓State.warnKinds_but, ↓State.but_active, ↓State.ite_but, k3]
  clear_value e4
  have k5 : e5.but l = s.but l := by simp only [e5]; simp [h_active, h_armed, h_asms, h_chans, h_clusters, h_committed, h_downs, h_drives, h_ens, h_entries, h_events, h_host, h_inbox, h_ledger, h_parts, h_prior, h_regs, h_sessions, h_sets, h_streams, h_supply, h_switchSt, h_t1sSleep, h_thermal, h_trestle, h_trims, h_waits, ↓State.bump32_but, ↓State.hostNote_but, ↓State.intervalBreak_but, ↓State.intervalStart_but, ↓State.powerUpDone_but, ↓State.scheduleUp_but, ↓State.setReg_but, ↓State.settleTokens_but, ↓State.swapEnds_but, ↓State.swapRounds_but, ↓State.swapUnits_but, ↓State.takeShadow_but, ↓State.warnKinds_but, ↓State.but_active, ↓State.ite_but, k4]
  clear_value e5
  split
  · simp [h_active, h_armed, h_asms, h_chans, h_clusters, h_committed, h_downs, h_drives, h_ens, h_entries, h_events, h_host, h_inbox, h_ledger, h_parts, h_prior, h_regs, h_sessions, h_sets, h_streams, h_supply, h_switchSt, h_t1sSleep, h_thermal, h_trestle, h_trims, h_waits, ↓State.bump32_but, ↓State.hostNote_but, ↓State.intervalBreak_but, ↓State.intervalStart_but, ↓State.powerUpDone_but, ↓State.scheduleUp_but, ↓State.setReg_but, ↓State.settleTokens_but, ↓State.swapEnds_but, ↓State.swapRounds_but, ↓State.swapUnits_but, ↓State.takeShadow_but, ↓State.warnKinds_but, ↓State.but_active, ↓State.ite_but, k5]
  · exact k5

@[simp] theorem State.swapIfDue_but (s : State) (l : List Fld) (h_active : Fld.active ∈ l) (h_armed : Fld.armed ∈ l) (h_asms : Fld.asms ∈ l) (h_chans : Fld.chans ∈ l) (h_clusters : Fld.clusters ∈ l) (h_committed : Fld.committed ∈ l) (h_downs : Fld.downs ∈ l) (h_drives : Fld.drives ∈ l) (h_ens : Fld.ens ∈ l) (h_entries : Fld.entries ∈ l) (h_events : Fld.events ∈ l) (h_host : Fld.host ∈ l) (h_inbox : Fld.inbox ∈ l) (h_ledger : Fld.ledger ∈ l) (h_parts : Fld.parts ∈ l) (h_prior : Fld.prior ∈ l) (h_regs : Fld.regs ∈ l) (h_sessions : Fld.sessions ∈ l) (h_sets : Fld.sets ∈ l) (h_streams : Fld.streams ∈ l) (h_supply : Fld.supply ∈ l) (h_switchSt : Fld.switchSt ∈ l) (h_t1sSleep : Fld.t1sSleep ∈ l) (h_thermal : Fld.thermal ∈ l) (h_trestle : Fld.trestle ∈ l) (h_trims : Fld.trims ∈ l) (h_waits : Fld.waits ∈ l) : (State.swapIfDue s).but l = s.but l := by
  unfold State.swapIfDue
  first
  | (simp [h_active, h_armed, h_asms, h_chans, h_clusters, h_committed, h_downs, h_drives, h_ens, h_entries, h_events, h_host, h_inbox, h_ledger, h_parts, h_prior, h_regs, h_sessions, h_sets, h_streams, h_supply, h_switchSt, h_t1sSleep, h_thermal, h_trestle, h_trims, h_waits, ↓State.swap_but, ↓State.ite_but]; done)
  | ((try dsimp only); (repeat' split) <;> first
    | with_reducible rfl
    | (simp [h_active, h_armed, h_asms, h_chans, h_clusters, h_committed, h_downs, h_drives, h_ens, h_entries, h_events, h_host, h_inbox, h_ledger, h_parts, h_prior, h_regs, h_sessions, h_sets, h_streams, h_supply, h_switchSt, h_t1sSleep, h_thermal, h_trestle, h_trims, h_waits, ↓State.swap_but, ↓State.ite_but]; done)
    | (rename_i heq; have hk := congrArg (fun x => x.1.but l) heq; simp [h_active, h_armed, h_asms, h_chans, h_clusters, h_committed, h_downs, h_drives, h_ens, h_entries, h_events, h_host, h_inbox, h_ledger, h_parts, h_prior, h_regs, h_sessions, h_sets, h_streams, h_supply, h_switchSt, h_t1sSleep, h_thermal, h_trestle, h_trims, h_waits, ↓State.swap_but, ↓State.ite_but] at hk; simp [hk, h_active, h_armed, h_asms, h_chans, h_clusters, h_committed, h_downs, h_drives, h_ens, h_entries, h_events, h_host, h_inbox, h_ledger, h_parts, h_prior, h_regs, h_sessions, h_sets, h_streams, h_supply, h_switchSt, h_t1sSleep, h_thermal, h_trestle, h_trims, h_waits, ↓State.swap_but, ↓State.ite_but]; done))

@[simp] theorem State.inBank_but (s : State) (n : Nat) (f : State → State) (l : List Fld) (h_active : Fld.active ∈ l) (h_drives : Fld.drives ∈ l) (h_events : Fld.events ∈ l) (h_regs : Fld.regs ∈ l) (hf : ∀ s, (f s).but l = s.but l) : (State.inBank s n f).but l = s.but l := by
  unfold State.inBank
  first
  | (simp [h_active, h_drives, h_events, h_regs, ↓State.driveSync_but, ↓State.but_active, ↓State.each_but, ↓State.ite_but, hf]; done)
  | ((try dsimp only); (repeat' split) <;> first
    | with_reducible rfl
    | (simp [h_active, h_drives, h_events, h_regs, ↓State.driveSync_but, ↓State.but_active, ↓State.each_but, ↓State.ite_but, hf]; done)
    | (refine (State.each_but _ _ _ _ (fun s x _ => ?_)).trans ?_ <;> (try dsimp only) <;> (repeat' split) <;> first
      | with_reducible rfl
      | (simp [h_active, h_drives, h_events, h_regs, ↓State.driveSync_but, ↓State.but_active, ↓State.each_but, ↓State.ite_but, hf]; done)))

end Sys2Proof.Machine
end

