-- ==== Sys2Proof/Laws/Keep/Thermal.lean ====
section
/-! SUPPORT. The frames of the operations of Machine/Thermal.lean: the parts of the state that each of them can change. -/
set_option linter.all false

namespace Sys2Proof.Machine

@[simp] theorem State.limitChange_but (s : State) (l : List Fld) (h_events : Fld.events ∈ l) (h_regs : Fld.regs ∈ l) (h_thermal : Fld.thermal ∈ l) : (State.limitChange s).but l = s.but l := by
  unfold State.limitChange
  (try dsimp only); (repeat' split) <;> first
    | with_reducible rfl
    | (simp [h_events, h_regs, h_thermal, ↓State.bump16_but, ↓State.raise_but, ↓State.but_thermal, ↓State.ite_but]; done)

@[simp] theorem State.sampleHotShut_but (s : State) (v : Int) (l : List Fld) (h_actions : Fld.actions ∈ l) (h_caps : Fld.caps ∈ l) (h_chans : Fld.chans ∈ l) (h_clusters : Fld.clusters ∈ l) (h_drives : Fld.drives ∈ l) (h_ens : Fld.ens ∈ l) (h_entries : Fld.entries ∈ l) (h_events : Fld.events ∈ l) (h_groups : Fld.groups ∈ l) (h_latches : Fld.latches ∈ l) (h_parts : Fld.parts ∈ l) (h_ports : Fld.ports ∈ l) (h_regs : Fld.regs ∈ l) (h_safeN : Fld.safeN ∈ l) (h_thermal : Fld.thermal ∈ l) (h_trims : Fld.trims ∈ l) (h_waitMaint : Fld.waitMaint ∈ l) : (State.sampleHotShut s v).but l = s.but l := by
  unfold State.sampleHotShut
  simp [h_actions, h_caps, h_chans, h_clusters, h_drives, h_ens, h_entries, h_events, h_groups, h_latches, h_parts, h_ports, h_regs, h_safeN, h_thermal, h_trims, h_waitMaint, ↓State.causeAt_but, ↓State.limitChange_but, ↓State.raise_but, ↓State.but_thermal, ↓State.each_but, ↓State.ite_but]

@[simp] theorem State.limitEvent_but (s : State) (ch inForce : Bool) (code : Nat) (l : List Fld) (h_events : Fld.events ∈ l) (h_regs : Fld.regs ∈ l) (h_thermal : Fld.thermal ∈ l) : (State.limitEvent s ch inForce code).but l = s.but l := by
  unfold State.limitEvent
  simp [h_events, h_regs, h_thermal, ↓State.limitChange_but, ↓State.raise_but, ↓State.ite_but]

@[simp] theorem State.setBoost_but (s : State) (b : Bool) (l : List Fld) (h_events : Fld.events ∈ l) (h_regs : Fld.regs ∈ l) (h_thermal : Fld.thermal ∈ l) : (State.setBoost s b).but l = s.but l := by
  unfold State.setBoost
  first
  | (simp [h_events, h_regs, h_thermal, ↓State.raise_but, ↓State.but_thermal, ↓State.ite_but]; done)
  | ((try dsimp only); (repeat' split) <;> first
    | with_reducible rfl
    | (simp [h_events, h_regs, h_thermal, ↓State.raise_but, ↓State.but_thermal, ↓State.ite_but]; done))

@[simp] theorem State.askRelief_but (s : State) (l : List Fld) (h_thermal : Fld.thermal ∈ l) : (State.askRelief s).but l = s.but l := by
  unfold State.askRelief
  simp [h_thermal, ↓State.but_thermal, ↓State.ite_but]

@[simp] theorem State.thermalRelief_but (s : State) (l : List Fld) (h_events : Fld.events ∈ l) (h_regs : Fld.regs ∈ l) (h_thermal : Fld.thermal ∈ l) : (State.thermalRelief s).but l = s.but l := by
  unfold State.thermalRelief
  simp [h_events, h_regs, h_thermal, ↓State.askRelief_but, ↓State.setBoost_but, ↓State.but_thermal, ↓State.ite_but]

@[simp] theorem State.sampleOthers_but (s : State) (v : Int) (l : List Fld) (h_events : Fld.events ∈ l) (h_log : Fld.log ∈ l) (h_regs : Fld.regs ∈ l) (h_thermal : Fld.thermal ∈ l) : (State.sampleOthers s v).but l = s.but l := by
  unfold State.sampleOthers
  first
  | (simp [h_events, h_log, h_regs, h_thermal, ↓State.holdDrawers_but, ↓State.limitEvent_but, ↓State.thermalRelief_but, ↓State.but_thermal, ↓State.ite_but]; done)
  | ((try dsimp only); (repeat' split) <;> first
    | with_reducible rfl
    | (simp [h_events, h_log, h_regs, h_thermal, ↓State.holdDrawers_but, ↓State.limitEvent_but, ↓State.thermalRelief_but, ↓State.but_thermal, ↓State.ite_but]; done)
    | (rename_i heq; have hk := congrArg (fun x => x.1.but l) heq; simp [h_events, h_log, h_regs, h_thermal, ↓State.holdDrawers_but, ↓State.limitEvent_but, ↓State.thermalRelief_but, ↓State.but_thermal, ↓State.ite_but] at hk; simp [hk, h_events, h_log, h_regs, h_thermal, ↓State.holdDrawers_but, ↓State.limitEvent_but, ↓State.thermalRelief_but, ↓State.but_thermal, ↓State.ite_but]; done))

@[simp] theorem State.sample_but (s : State) (own : Int) (l : List Fld) (h_actions : Fld.actions ∈ l) (h_caps : Fld.caps ∈ l) (h_chans : Fld.chans ∈ l) (h_clusters : Fld.clusters ∈ l) (h_drives : Fld.drives ∈ l) (h_ens : Fld.ens ∈ l) (h_entries : Fld.entries ∈ l) (h_events : Fld.events ∈ l) (h_groups : Fld.groups ∈ l) (h_latches : Fld.latches ∈ l) (h_log : Fld.log ∈ l) (h_parts : Fld.parts ∈ l) (h_ports : Fld.ports ∈ l) (h_regs : Fld.regs ∈ l) (h_safeN : Fld.safeN ∈ l) (h_thermal : Fld.thermal ∈ l) (h_trims : Fld.trims ∈ l) (h_waitMaint : Fld.waitMaint ∈ l) : (State.sample s own).but l = s.but l := by
  unfold State.sample
  (try dsimp only); (repeat' split) <;> first
    | with_reducible rfl
    | (simp [h_actions, h_caps, h_chans, h_clusters, h_drives, h_ens, h_entries, h_events, h_groups, h_latches, h_log, h_parts, h_ports, h_regs, h_safeN, h_thermal, h_trims, h_waitMaint, ↓State.sampleHotShut_but, ↓State.sampleOthers_but, ↓State.setReg_but, ↓State.but_thermal, ↓State.ite_but]; done)
    | (rename_i heq; have hk := congrArg (fun x => x.1.but l) heq; simp [h_actions, h_caps, h_chans, h_clusters, h_drives, h_ens, h_entries, h_events, h_groups, h_latches, h_log, h_parts, h_ports, h_regs, h_safeN, h_thermal, h_trims, h_waitMaint, ↓State.sampleHotShut_but, ↓State.sampleOthers_but, ↓State.setReg_but, ↓State.but_thermal, ↓State.ite_but] at hk; simp [hk, h_actions, h_caps, h_chans, h_clusters, h_drives, h_ens, h_entries, h_events, h_groups, h_latches, h_log, h_parts, h_ports, h_regs, h_safeN, h_thermal, h_trims, h_waitMaint, ↓State.sampleHotShut_but, ↓State.sampleOthers_but, ↓State.setReg_but, ↓State.but_thermal, ↓State.ite_but]; done)

@[simp] theorem State.diodeTaken_but (s : State) (l : List Fld) (h_chans : Fld.chans ∈ l) (h_clusters : Fld.clusters ∈ l) : (State.diodeTaken s).but l = s.but l := by
  unfold State.diodeTaken
  first
  | (simp [h_chans, h_clusters, ↓State.lengthen_but, ↓State.setCluster_but, ↓State.setRound_but, ↓State.ite_but]; done)
  | ((try dsimp only); (repeat' split) <;> first
    | with_reducible rfl
    | (simp [h_chans, h_clusters, ↓State.lengthen_but, ↓State.setCluster_but, ↓State.setRound_but, ↓State.ite_but]; done))

theorem execThermalSample_but (own : Int) (s : State) (l : List Fld) (h_actions : Fld.actions ∈ l) (h_active : Fld.active ∈ l) (h_armed : Fld.armed ∈ l) (h_asms : Fld.asms ∈ l) (h_caps : Fld.caps ∈ l) (h_chans : Fld.chans ∈ l) (h_clusters : Fld.clusters ∈ l) (h_committed : Fld.committed ∈ l) (h_downs : Fld.downs ∈ l) (h_drives : Fld.drives ∈ l) (h_ens : Fld.ens ∈ l) (h_entries : Fld.entries ∈ l) (h_events : Fld.events ∈ l) (h_groups : Fld.groups ∈ l) (h_host : Fld.host ∈ l) (h_inbox : Fld.inbox ∈ l) (h_latches : Fld.latches ∈ l) (h_ledger : Fld.ledger ∈ l) (h_log : Fld.log ∈ l) (h_parts : Fld.parts ∈ l) (h_ports : Fld.ports ∈ l) (h_prior : Fld.prior ∈ l) (h_regs : Fld.regs ∈ l) (h_safeN : Fld.safeN ∈ l) (h_sessions : Fld.sessions ∈ l) (h_sets : Fld.sets ∈ l) (h_streams : Fld.streams ∈ l) (h_supply : Fld.supply ∈ l) (h_switchSt : Fld.switchSt ∈ l) (h_t1sSleep : Fld.t1sSleep ∈ l) (h_thermal : Fld.thermal ∈ l) (h_trestle : Fld.trestle ∈ l) (h_trims : Fld.trims ∈ l) (h_waitMaint : Fld.waitMaint ∈ l) (h_waits : Fld.waits ∈ l) :
    ∀ t, execThermalSample own s = .next t → t.but l = s.but l := by
  intro t ht
  unfold execThermalSample at ht
  (try simp only [ok] at ht); (repeat' split at ht) <;> (replace ht := Host.Outcome.next.inj ht; subst ht; first
    | with_reducible rfl
    | (simp [h_actions, h_active, h_armed, h_asms, h_caps, h_chans, h_clusters, h_committed, h_downs, h_drives, h_ens, h_entries, h_events, h_groups, h_host, h_inbox, h_latches, h_ledger, h_log, h_parts, h_ports, h_prior, h_regs, h_safeN, h_sessions, h_sets, h_streams, h_supply, h_switchSt, h_t1sSleep, h_thermal, h_trestle, h_trims, h_waitMaint, h_waits, ↓State.diodeTaken_but, ↓State.inBank_but, ↓State.sample_but, ↓State.swapIfDue_but, ↓State.ite_but]; done)
    | (rename_i heq; have hk := congrArg (fun x => x.1.but l) heq; simp [h_actions, h_active, h_armed, h_asms, h_caps, h_chans, h_clusters, h_committed, h_downs, h_drives, h_ens, h_entries, h_events, h_groups, h_host, h_inbox, h_latches, h_ledger, h_log, h_parts, h_ports, h_prior, h_regs, h_safeN, h_sessions, h_sets, h_streams, h_supply, h_switchSt, h_t1sSleep, h_thermal, h_trestle, h_trims, h_waitMaint, h_waits, ↓State.diodeTaken_but, ↓State.inBank_but, ↓State.sample_but, ↓State.swapIfDue_but, ↓State.ite_but] at hk; simp [h_actions, h_active, h_armed, h_asms, h_caps, h_chans, h_clusters, h_committed, h_downs, h_drives, h_ens, h_entries, h_events, h_groups, h_host, h_inbox, h_latches, h_ledger, h_log, h_parts, h_ports, h_prior, h_regs, h_safeN, h_sessions, h_sets, h_streams, h_supply, h_switchSt, h_t1sSleep, h_thermal, h_trestle, h_trims, h_waitMaint, h_waits, ↓State.diodeTaken_but, ↓State.inBank_but, ↓State.sample_but, ↓State.swapIfDue_but, ↓State.ite_but, hk]; done))

theorem execDriveWaitExpire_but (s : State) (l : List Fld) (h_thermal : Fld.thermal ∈ l) :
    ∀ t, execDriveWaitExpire s = .next t → t.but l = s.but l := by
  intro t ht
  unfold execDriveWaitExpire at ht
  (try simp only [ok] at ht); (repeat' split at ht) <;> (replace ht := Host.Outcome.next.inj ht; subst ht; first
    | with_reducible rfl
    | (simp [h_thermal, ↓State.askRelief_but, ↓State.ite_but]; done))

theorem execChatterClear_but (s : State) (l : List Fld) (h_thermal : Fld.thermal ∈ l) :
    ∀ t, execChatterClear s = .next t → t.but l = s.but l := by
  intro t ht
  unfold execChatterClear at ht
  (try simp only [ok] at ht); (repeat' split at ht) <;> (replace ht := Host.Outcome.next.inj ht; subst ht; first
    | with_reducible rfl
    | (simp [h_thermal, ↓State.but_thermal, ↓State.ite_but]; done))

theorem execNoSample_but (s : State) (l : List Fld) (h_events : Fld.events ∈ l) (h_regs : Fld.regs ∈ l) (h_thermal : Fld.thermal ∈ l) :
    ∀ t, execNoSample s = .next t → t.but l = s.but l := by
  intro t ht
  unfold execNoSample at ht
  (try simp only [ok] at ht); (repeat' split at ht) <;> (replace ht := Host.Outcome.next.inj ht; subst ht; first
    | with_reducible rfl
    | (simp [h_events, h_regs, h_thermal, ↓State.raise_but, ↓State.but_thermal, ↓State.ite_but]; done))

@[simp] theorem State.nbAges_but (s : State) (k : Nat) (l : List Fld) (h_events : Fld.events ∈ l) (h_regs : Fld.regs ∈ l) (h_thermal : Fld.thermal ∈ l) : (State.nbAges s k).but l = s.but l := by
  unfold State.nbAges
  first
  | (simp [h_events, h_regs, h_thermal, ↓State.raise_but, ↓State.but_thermal, ↓State.ite_but]; done)
  | ((try dsimp only); (repeat' split) <;> first
    | with_reducible rfl
    | (simp [h_events, h_regs, h_thermal, ↓State.raise_but, ↓State.but_thermal, ↓State.ite_but]; done)
    | (rename_i heq; have hk := congrArg (fun x => x.1.but l) heq; simp [h_events, h_regs, h_thermal, ↓State.raise_but, ↓State.but_thermal, ↓State.ite_but] at hk; simp [h_events, h_regs, h_thermal, ↓State.raise_but, ↓State.but_thermal, ↓State.ite_but, hk]; done))

@[simp] theorem State.nbReading_but (s : State) (k : Nat) (v : Int) (l : List Fld) (h_events : Fld.events ∈ l) (h_regs : Fld.regs ∈ l) (h_thermal : Fld.thermal ∈ l) : (State.nbReading s k v).but l = s.but l := by
  unfold State.nbReading
  first
  | (simp [h_events, h_regs, h_thermal, ↓State.nbAges_but, ↓State.but_thermal, ↓State.ite_but]; done)
  | ((try dsimp only); (repeat' split) <;> first
    | with_reducible rfl
    | (simp [h_events, h_regs, h_thermal, ↓State.nbAges_but, ↓State.but_thermal, ↓State.ite_but]; done))

@[simp] theorem State.pollAsk_but (s : State) (k : Nat) (l : List Fld) (h_ports : Fld.ports ∈ l) : (State.pollAsk s k).but l = s.but l := by
  unfold State.pollAsk
  simp [h_ports, ↓State.askPort_but, ↓State.ite_but]

@[simp] theorem State.peerAsk_but (s : State) (id : Nat) (l : List Fld) (h_peerOut : Fld.peerOut ∈ l) (h_peerTries : Fld.peerTries ∈ l) : (State.peerAsk s id).but l = s.but l := by
  unfold State.peerAsk
  first
  | (simp [h_peerOut, h_peerTries, State.but, ↓State.but_peerOut, ↓State.but_peerTries, ↓State.ite_but]; done)
  | ((try dsimp only); (repeat' split) <;> first
    | with_reducible rfl
    | (simp [h_peerOut, h_peerTries, State.but, ↓State.but_peerOut, ↓State.but_peerTries, ↓State.ite_but]; done))

@[simp] theorem State.pollTake_but (s : State) (k : Nat) (r : Option Int) (l : List Fld) (h_events : Fld.events ∈ l) (h_peerOut : Fld.peerOut ∈ l) (h_peerTries : Fld.peerTries ∈ l) (h_ports : Fld.ports ∈ l) (h_regs : Fld.regs ∈ l) (h_thermal : Fld.thermal ∈ l) : (State.pollTake s k r).but l = s.but l := by
  unfold State.pollTake
  first
  | (simp [h_events, h_peerOut, h_peerTries, h_ports, h_regs, h_thermal, ↓State.nbAges_but, ↓State.nbReading_but, ↓State.peerAsk_but, ↓State.pollAsk_but, ↓State.ite_but]; done)
  | ((try dsimp only); (repeat' split) <;> first
    | with_reducible rfl
    | (simp [h_events, h_peerOut, h_peerTries, h_ports, h_regs, h_thermal, ↓State.nbAges_but, ↓State.nbReading_but, ↓State.peerAsk_but, ↓State.pollAsk_but, ↓State.ite_but]; done)
    | (rename_i heq; have hk := congrArg (fun x => x.1.but l) heq; simp [h_events, h_peerOut, h_peerTries, h_ports, h_regs, h_thermal, ↓State.nbAges_but, ↓State.nbReading_but, ↓State.peerAsk_but, ↓State.pollAsk_but, ↓State.ite_but] at hk; simp [h_events, h_peerOut, h_peerTries, h_ports, h_regs, h_thermal, ↓State.nbAges_but, ↓State.nbReading_but, ↓State.peerAsk_but, ↓State.pollAsk_but, ↓State.ite_but, hk]; done))

@[simp] theorem State.crossCheck_but (s : State) (own m : Int) (l : List Fld) (h_events : Fld.events ∈ l) (h_regs : Fld.regs ∈ l) (h_thermal : Fld.thermal ∈ l) : (State.crossCheck s own m).but l = s.but l := by
  unfold State.crossCheck
  simp [h_events, h_regs, h_thermal, ↓State.bump16_but, ↓State.raise_but, ↓State.but_thermal, ↓State.ite_but]

@[simp] theorem State.spansWait_but (s : State) (since : Nat) (l : List Fld) (h_thermal : Fld.thermal ∈ l) : (State.spansWait s since).but l = s.but l := by
  unfold State.spansWait
  first
  | (simp [h_thermal, ↓State.but_thermal, ↓State.ite_but]; done)
  | ((try dsimp only); (repeat' split) <;> first
    | with_reducible rfl
    | (simp [h_thermal, ↓State.but_thermal, ↓State.ite_but]; done))

@[simp] theorem State.medianTaken_but (s : State) (m : Int) (since : Nat) (l : List Fld) (h_actions : Fld.actions ∈ l) (h_caps : Fld.caps ∈ l) (h_chans : Fld.chans ∈ l) (h_clusters : Fld.clusters ∈ l) (h_drives : Fld.drives ∈ l) (h_ens : Fld.ens ∈ l) (h_entries : Fld.entries ∈ l) (h_events : Fld.events ∈ l) (h_groups : Fld.groups ∈ l) (h_latches : Fld.latches ∈ l) (h_log : Fld.log ∈ l) (h_parts : Fld.parts ∈ l) (h_ports : Fld.ports ∈ l) (h_regs : Fld.regs ∈ l) (h_safeN : Fld.safeN ∈ l) (h_thermal : Fld.thermal ∈ l) (h_trims : Fld.trims ∈ l) (h_waitMaint : Fld.waitMaint ∈ l) : (State.medianTaken s m since).but l = s.but l := by
  unfold State.medianTaken
  first
  | (simp [h_actions, h_caps, h_chans, h_clusters, h_drives, h_ens, h_entries, h_events, h_groups, h_latches, h_log, h_parts, h_ports, h_regs, h_safeN, h_thermal, h_trims, h_waitMaint, ↓State.crossCheck_but, ↓State.sampleHotShut_but, ↓State.sampleOthers_but, ↓State.spansWait_but, ↓State.but_thermal, ↓State.ite_but]; done)
  | ((try dsimp only); (repeat' split) <;> first
    | with_reducible rfl
    | (simp [h_actions, h_caps, h_chans, h_clusters, h_drives, h_ens, h_entries, h_events, h_groups, h_latches, h_log, h_parts, h_ports, h_regs, h_safeN, h_thermal, h_trims, h_waitMaint, ↓State.crossCheck_but, ↓State.sampleHotShut_but, ↓State.sampleOthers_but, ↓State.spansWait_but, ↓State.but_thermal, ↓State.ite_but]; done)
    | (rename_i heq; have hk := congrArg (fun x => x.1.but l) heq; simp [h_actions, h_caps, h_chans, h_clusters, h_drives, h_ens, h_entries, h_events, h_groups, h_latches, h_log, h_parts, h_ports, h_regs, h_safeN, h_thermal, h_trims, h_waitMaint, ↓State.crossCheck_but, ↓State.sampleHotShut_but, ↓State.sampleOthers_but, ↓State.spansWait_but, ↓State.but_thermal, ↓State.ite_but] at hk; simp [h_actions, h_caps, h_chans, h_clusters, h_drives, h_ens, h_entries, h_events, h_groups, h_latches, h_log, h_parts, h_ports, h_regs, h_safeN, h_thermal, h_trims, h_waitMaint, ↓State.crossCheck_but, ↓State.sampleHotShut_but, ↓State.sampleOthers_but, ↓State.spansWait_but, ↓State.but_thermal, ↓State.ite_but, hk]; done))

@[simp] theorem State.poll_but (s : State) (readings : List (Option Int)) (l : List Fld) (h_actions : Fld.actions ∈ l) (h_caps : Fld.caps ∈ l) (h_chans : Fld.chans ∈ l) (h_clusters : Fld.clusters ∈ l) (h_drives : Fld.drives ∈ l) (h_ens : Fld.ens ∈ l) (h_entries : Fld.entries ∈ l) (h_events : Fld.events ∈ l) (h_groups : Fld.groups ∈ l) (h_latches : Fld.latches ∈ l) (h_log : Fld.log ∈ l) (h_parts : Fld.parts ∈ l) (h_peerOut : Fld.peerOut ∈ l) (h_peerTries : Fld.peerTries ∈ l) (h_ports : Fld.ports ∈ l) (h_regs : Fld.regs ∈ l) (h_safeN : Fld.safeN ∈ l) (h_thermal : Fld.thermal ∈ l) (h_trims : Fld.trims ∈ l) (h_waitMaint : Fld.waitMaint ∈ l) : (State.poll s readings).but l = s.but l := by
  unfold State.poll
  first
  | (simp [h_actions, h_caps, h_chans, h_clusters, h_drives, h_ens, h_entries, h_events, h_groups, h_latches, h_log, h_parts, h_peerOut, h_peerTries, h_ports, h_regs, h_safeN, h_thermal, h_trims, h_waitMaint, ↓State.medianTaken_but, ↓State.pollTake_but, ↓State.spansWait_but, ↓State.but_thermal, foldl_but, ↓State.ite_but]; done)
  | ((try dsimp only); (repeat' split) <;> first
    | with_reducible rfl
    | (simp [h_actions, h_caps, h_chans, h_clusters, h_drives, h_ens, h_entries, h_events, h_groups, h_latches, h_log, h_parts, h_peerOut, h_peerTries, h_ports, h_regs, h_safeN, h_thermal, h_trims, h_waitMaint, ↓State.medianTaken_but, ↓State.pollTake_but, ↓State.spansWait_but, ↓State.but_thermal, foldl_but, ↓State.ite_but]; done)
    | (rename_i heq; have hk := congrArg (fun x => x.1.but l) heq; simp [h_actions, h_caps, h_chans, h_clusters, h_drives, h_ens, h_entries, h_events, h_groups, h_latches, h_log, h_parts, h_peerOut, h_peerTries, h_ports, h_regs, h_safeN, h_thermal, h_trims, h_waitMaint, ↓State.medianTaken_but, ↓State.pollTake_but, ↓State.spansWait_but, ↓State.but_thermal, foldl_but, ↓State.ite_but] at hk; simp [h_actions, h_caps, h_chans, h_clusters, h_drives, h_ens, h_entries, h_events, h_groups, h_latches, h_log, h_parts, h_peerOut, h_peerTries, h_ports, h_regs, h_safeN, h_thermal, h_trims, h_waitMaint, ↓State.medianTaken_but, ↓State.pollTake_but, ↓State.spansWait_but, ↓State.but_thermal, foldl_but, ↓State.ite_but, hk]; done))

theorem execNeighbourPoll_but (readings : List (Option Int)) (s : State) (l : List Fld) (h_actions : Fld.actions ∈ l) (h_caps : Fld.caps ∈ l) (h_chans : Fld.chans ∈ l) (h_clusters : Fld.clusters ∈ l) (h_drives : Fld.drives ∈ l) (h_ens : Fld.ens ∈ l) (h_entries : Fld.entries ∈ l) (h_events : Fld.events ∈ l) (h_groups : Fld.groups ∈ l) (h_latches : Fld.latches ∈ l) (h_log : Fld.log ∈ l) (h_parts : Fld.parts ∈ l) (h_peerOut : Fld.peerOut ∈ l) (h_peerTries : Fld.peerTries ∈ l) (h_ports : Fld.ports ∈ l) (h_regs : Fld.regs ∈ l) (h_safeN : Fld.safeN ∈ l) (h_thermal : Fld.thermal ∈ l) (h_trims : Fld.trims ∈ l) (h_waitMaint : Fld.waitMaint ∈ l) :
    ∀ t, execNeighbourPoll readings s = .next t → t.but l = s.but l := by
  intro t ht
  unfold execNeighbourPoll at ht
  (try simp only [ok] at ht); (repeat' split at ht) <;> (replace ht := Host.Outcome.next.inj ht; subst ht; first
    | with_reducible rfl
    | (simp [h_actions, h_caps, h_chans, h_clusters, h_drives, h_ens, h_entries, h_events, h_groups, h_latches, h_log, h_parts, h_peerOut, h_peerTries, h_ports, h_regs, h_safeN, h_thermal, h_trims, h_waitMaint, ↓State.poll_but, ↓State.ite_but]; done)
    | (rename_i heq; have hk := congrArg (fun x => x.1.but l) heq; simp [h_actions, h_caps, h_chans, h_clusters, h_drives, h_ens, h_entries, h_events, h_groups, h_latches, h_log, h_parts, h_peerOut, h_peerTries, h_ports, h_regs, h_safeN, h_thermal, h_trims, h_waitMaint, ↓State.poll_but, ↓State.ite_but] at hk; simp [hk, h_actions, h_caps, h_chans, h_clusters, h_drives, h_ens, h_entries, h_events, h_groups, h_latches, h_log, h_parts, h_peerOut, h_peerTries, h_ports, h_regs, h_safeN, h_thermal, h_trims, h_waitMaint, ↓State.poll_but, ↓State.ite_but]; done))

end Sys2Proof.Machine
end

