-- ==== Sys2Proof/Laws/Keep/Nv.lean ====
section
/-! SUPPORT. The frames of the operations of Machine/Nv.lean: the parts of the state that each of them can change. -/
set_option linter.all false

namespace Sys2Proof.Machine

@[simp] theorem State.askLedgerErase_but (s : State) (a : Nat) (l : List Fld) (h_nv : Fld.nv ∈ l) : (State.askLedgerErase s a).but l = s.but l := by
  unfold State.askLedgerErase
  simp [h_nv, ↓State.nvAsk_but, ↓State.ite_but]

theorem execLedgerRecordWrite_but (s : State) (l : List Fld) (h_flash : Fld.flash ∈ l) (h_granules : Fld.granules ∈ l) (h_ledger : Fld.ledger ∈ l) (h_nv : Fld.nv ∈ l) (h_regs : Fld.regs ∈ l) :
    ∀ t, execLedgerRecordWrite s = .next t → t.but l = s.but l := by
  intro t ht
  unfold execLedgerRecordWrite at ht
  (try simp only [ok] at ht); (repeat' split at ht) <;> (replace ht := Host.Outcome.next.inj ht; subst ht; first
    | with_reducible rfl
    | (simp [h_flash, h_granules, h_ledger, h_nv, h_regs, ↓State.askLedgerErase_but, ↓State.programAll_but, ↓State.setReg_but, ↓State.but_ledger, ↓State.ite_but]; done)
    | (rename_i heq; have hk := congrArg (fun x => x.1.but l) heq; simp [h_flash, h_granules, h_ledger, h_nv, h_regs, ↓State.askLedgerErase_but, ↓State.programAll_but, ↓State.setReg_but, ↓State.but_ledger, ↓State.ite_but] at hk; simp [hk, h_flash, h_granules, h_ledger, h_nv, h_regs, ↓State.askLedgerErase_but, ↓State.programAll_but, ↓State.setReg_but, ↓State.but_ledger, ↓State.ite_but]; done))

@[simp] theorem State.askProgram_but (s : State) (why : NvWhy) (a : Nat) (data : Bytes) (l : List Fld) (h_nv : Fld.nv ∈ l) : (State.askProgram s why a data).but l = s.but l := by
  unfold State.askProgram
  simp [h_nv, ↓State.nvAsk_but, ↓State.ite_but]

theorem execNvProgram_but (s : State) (l : List Fld) (h_flash : Fld.flash ∈ l) (h_granules : Fld.granules ∈ l) (h_nv : Fld.nv ∈ l) (h_regs : Fld.regs ∈ l) :
    ∀ t, execNvProgram s = .next t → t.but l = s.but l := by
  intro t ht
  unfold execNvProgram at ht
  (try simp only [ok] at ht); (repeat' split at ht) <;> (replace ht := Host.Outcome.next.inj ht; subst ht; first
    | with_reducible rfl
    | (simp [h_flash, h_granules, h_nv, h_regs, ↓State.programAll_but, ↓State.setReg_but, ↓State.but_nv, ↓State.ite_but]; done)
    | (rename_i heq; have hk := congrArg (fun x => x.1.but l) heq; simp [h_flash, h_granules, h_nv, h_regs, ↓State.programAll_but, ↓State.setReg_but, ↓State.but_nv, ↓State.ite_but] at hk; simp [hk, h_flash, h_granules, h_nv, h_regs, ↓State.programAll_but, ↓State.setReg_but, ↓State.but_nv, ↓State.ite_but]; done))

@[simp] theorem State.tear_but (s : State) (o : NvOp) (done : Nat) (l : List Fld) (h_flash : Fld.flash ∈ l) (h_granules : Fld.granules ∈ l) : (State.tear s o done).but l = s.but l := by
  unfold State.tear
  simp [h_flash, h_granules, ↓State.setIntents_but, ↓State.setMarkers_but, ↓State.ite_but]

theorem execNvInterrupt_but (done : Nat) (s : State) (l : List Fld) (h_flash : Fld.flash ∈ l) (h_granules : Fld.granules ∈ l) (h_log : Fld.log ∈ l) (h_nv : Fld.nv ∈ l) (h_regs : Fld.regs ∈ l) :
    ∀ t, execNvInterrupt done s = .next t → t.but l = s.but l := by
  intro t ht
  unfold execNvInterrupt at ht
  (try simp only [ok] at ht); (repeat' split at ht) <;> (replace ht := Host.Outcome.next.inj ht; subst ht; first
    | with_reducible rfl
    | (simp [h_flash, h_granules, h_log, h_nv, h_regs, ↓State.drawerTorn_but, ↓State.foundTorn_but, ↓State.holdDrawers_but, ↓State.tear_but, ↓State.but_nv, ↓State.ite_but]; done)
    | (rename_i heq; have hk := congrArg (fun x => x.1.but l) heq; simp [h_flash, h_granules, h_log, h_nv, h_regs, ↓State.drawerTorn_but, ↓State.foundTorn_but, ↓State.holdDrawers_but, ↓State.tear_but, ↓State.but_nv, ↓State.ite_but] at hk; simp [hk, h_flash, h_granules, h_log, h_nv, h_regs, ↓State.drawerTorn_but, ↓State.foundTorn_but, ↓State.holdDrawers_but, ↓State.tear_but, ↓State.but_nv, ↓State.ite_but]; done))

theorem execNvErase_but (s : State) (l : List Fld) (h_log : Fld.log ∈ l) (h_nv : Fld.nv ∈ l) (h_sectors : Fld.sectors ∈ l) :
    ∀ t, execNvErase s = .next t → t.but l = s.but l := by
  intro t ht
  unfold execNvErase at ht
  (try simp only [ok] at ht); (repeat' split at ht) <;> (replace ht := Host.Outcome.next.inj ht; subst ht; first
    | with_reducible rfl
    | (simp [h_log, h_nv, h_sectors, ↓State.countErased_but, ↓State.setSector_but, ↓State.but_nv, ↓State.ite_but]; done)
    | (rename_i heq; have hk := congrArg (fun x => x.1.but l) heq; simp [h_log, h_nv, h_sectors, ↓State.countErased_but, ↓State.setSector_but, ↓State.but_nv, ↓State.ite_but] at hk; simp [hk, h_log, h_nv, h_sectors, ↓State.countErased_but, ↓State.setSector_but, ↓State.but_nv, ↓State.ite_but]; done))

@[simp] theorem State.haltErase_but (s : State) (l : List Fld) (h_nv : Fld.nv ∈ l) (h_regs : Fld.regs ∈ l) : (State.haltErase s).but l = s.but l := by
  unfold State.haltErase
  (try dsimp only); (repeat' split) <;> first
    | with_reducible rfl
    | (simp [h_nv, h_regs, ↓State.bump32_but, ↓State.but_nv, ↓State.ite_but]; done)
    | (rename_i heq; have hk := congrArg (fun x => x.1.but l) heq; simp [h_nv, h_regs, ↓State.bump32_but, ↓State.but_nv, ↓State.ite_but] at hk; simp [hk, h_nv, h_regs, ↓State.bump32_but, ↓State.but_nv, ↓State.ite_but]; done)

theorem execEraseSuspend_but (s : State) (l : List Fld) (h_nv : Fld.nv ∈ l) (h_regs : Fld.regs ∈ l) :
    ∀ t, execEraseSuspend s = .next t → t.but l = s.but l := by
  intro t ht
  unfold execEraseSuspend at ht
  (try simp only [ok] at ht); (repeat' split at ht) <;> (replace ht := Host.Outcome.next.inj ht; subst ht; first
    | with_reducible rfl
    | (simp [h_nv, h_regs, ↓State.haltErase_but, ↓State.ite_but]; done))

theorem execEraseResume_but (s : State) (l : List Fld) (h_nv : Fld.nv ∈ l) :
    ∀ t, execEraseResume s = .next t → t.but l = s.but l := by
  intro t ht
  unfold execEraseResume at ht
  (try simp only [ok] at ht); (repeat' split at ht) <;> (replace ht := Host.Outcome.next.inj ht; subst ht; first
    | with_reducible rfl
    | (simp [h_nv, ↓State.but_nv, ↓State.ite_but]; done))

@[simp] theorem State.eraseEnds_but (s : State) (o : NvOp) (failed : Bool) (l : List Fld) (h_events : Fld.events ∈ l) (h_log : Fld.log ∈ l) (h_nv : Fld.nv ∈ l) (h_regs : Fld.regs ∈ l) : (State.eraseEnds s o failed).but l = s.but l := by
  unfold State.eraseEnds
  (try dsimp only); (repeat' split) <;> first
    | with_reducible rfl
    | (simp [h_events, h_log, h_nv, h_regs, ↓State.raise_but, ↓State.ringErased_but, ↓State.setReg_but, ↓State.ite_but]; done)
    | (rename_i heq; have hk := congrArg (fun x => x.1.but l) heq; simp [h_events, h_log, h_nv, h_regs, ↓State.raise_but, ↓State.ringErased_but, ↓State.setReg_but, ↓State.ite_but] at hk; simp [hk, h_events, h_log, h_nv, h_regs, ↓State.raise_but, ↓State.ringErased_but, ↓State.setReg_but, ↓State.ite_but]; done)

theorem execEraseDone_but (verified : Bool) (s : State) (l : List Fld) (h_events : Fld.events ∈ l) (h_flash : Fld.flash ∈ l) (h_granules : Fld.granules ∈ l) (h_log : Fld.log ∈ l) (h_nv : Fld.nv ∈ l) (h_regs : Fld.regs ∈ l) (h_sectors : Fld.sectors ∈ l) :
    ∀ t, execEraseDone verified s = .next t → t.but l = s.but l := by
  intro t ht
  unfold execEraseDone at ht
  (try simp only [ok] at ht); (repeat' split at ht) <;> (replace ht := Host.Outcome.next.inj ht; subst ht; first
    | with_reducible rfl
    | (simp [h_events, h_flash, h_granules, h_log, h_nv, h_regs, h_sectors, ↓State.bump16_but, ↓State.bump32_but, ↓State.eraseEnds_but, ↓State.eraseSector_but, ↓State.raise_but, ↓State.setSector_but, ↓State.but_nv, ↓State.ite_but]; done)
    | (rename_i heq; have hk := congrArg (fun x => x.1.but l) heq; simp [h_events, h_flash, h_granules, h_log, h_nv, h_regs, h_sectors, ↓State.bump16_but, ↓State.bump32_but, ↓State.eraseEnds_but, ↓State.eraseSector_but, ↓State.raise_but, ↓State.setSector_but, ↓State.but_nv, ↓State.ite_but] at hk; simp [hk, h_events, h_flash, h_granules, h_log, h_nv, h_regs, h_sectors, ↓State.bump16_but, ↓State.bump32_but, ↓State.eraseEnds_but, ↓State.eraseSector_but, ↓State.raise_but, ↓State.setSector_but, ↓State.but_nv, ↓State.ite_but]; done))

@[simp] theorem State.redo_but (s : State) (ll : List Nat) (l : List Fld) (h_events : Fld.events ∈ l) (h_flash : Fld.flash ∈ l) (h_granules : Fld.granules ∈ l) (h_regs : Fld.regs ∈ l) (h_sectors : Fld.sectors ∈ l) : (State.redo s ll).but l = s.but l := by
  unfold State.redo
  extract_lets e1
  have k1 : e1.but l = s.but l := by
    simp only [e1]
    refine State.each_but _ _ _ _ (fun t n _ => ?_)
    (try dsimp only)
    split <;> simp [h_events, h_flash, h_granules, h_regs, h_sectors, ↓State.bump16_but, ↓State.bump32_but, ↓State.eraseSector_but, ↓State.raise_but, ↓State.setReg_but, ↓State.setSector_but, ↓State.each_but, ↓State.ite_but]
  clear_value e1
  rw [State.raise_but _ _ _ _ _ _ _ h_events h_regs, k1]

theorem execEraseRedo_but (s : State) (l : List Fld) (h_events : Fld.events ∈ l) (h_flash : Fld.flash ∈ l) (h_granules : Fld.granules ∈ l) (h_regs : Fld.regs ∈ l) (h_sectors : Fld.sectors ∈ l) :
    ∀ t, execEraseRedo s = .next t → t.but l = s.but l := by
  intro t ht
  unfold execEraseRedo at ht
  (try simp only [ok] at ht); (repeat' split at ht) <;> (replace ht := Host.Outcome.next.inj ht; subst ht; first
    | with_reducible rfl
    | (simp [h_events, h_flash, h_granules, h_regs, h_sectors, ↓State.redo_but, ↓State.ite_but]; done))

theorem execScrubRead_but (sense : Sense) (s : State) (l : List Fld) (h_events : Fld.events ∈ l) (h_granules : Fld.granules ∈ l) (h_keys : Fld.keys ∈ l) (h_nv : Fld.nv ∈ l) (h_regs : Fld.regs ∈ l) (h_sec : Fld.sec ∈ l) (h_sectors : Fld.sectors ∈ l) :
    ∀ t, execScrubRead sense s = .next t → t.but l = s.but l := by
  intro t ht
  unfold execScrubRead at ht
  (try simp only [ok] at ht); (repeat' split at ht) <;> (replace ht := Host.Outcome.next.inj ht; subst ht; first
    | with_reducible rfl
    | (simp [h_events, h_granules, h_keys, h_nv, h_regs, h_sec, h_sectors, ↓State.bump32_but, ↓State.sensed_but, ↓State.setReg_but, ↓State.but_nv, ↓State.ite_but]; done))

theorem execMemAddr_but (r : Role) (k : Nat) (addr : BitVec 32) (s : State) (l : List Fld) (h_regs : Fld.regs ∈ l) (h_reply : Fld.reply ∈ l) (h_sessions : Fld.sessions ∈ l) (h_status : Fld.status ∈ l) :
    ∀ t, execMemAddr r k addr s = .next t → t.but l = s.but l := by
  intro t ht
  unfold execMemAddr at ht
  (try simp only [ok] at ht); (repeat' split at ht) <;> (replace ht := Host.Outcome.next.inj ht; subst ht; first
    | with_reducible rfl
    | (simp [h_regs, h_reply, h_sessions, h_status, ↓State.answer_but, ↓State.item_but, ↓State.onSession_but, ↓State.ite_but]; done)
    | ((first
        | refine State.item_but _ _ _ _ _ _ h_regs h_reply h_status (fun s => ?_)
        | refine State.itemLen_but _ _ _ _ _ _ _ h_regs h_reply h_status (fun s => ?_)) <;> (try dsimp only) <;> (repeat' split) <;> first
      | with_reducible rfl
      | (simp [h_regs, h_reply, h_sessions, h_status, ↓State.answer_but, ↓State.item_but, ↓State.onSession_but, ↓State.ite_but]; done)
      | (rename_i heq; have hk := congrArg (fun x => x.1.but l) heq; simp [h_regs, h_reply, h_sessions, h_status, ↓State.answer_but, ↓State.item_but, ↓State.onSession_but, ↓State.ite_but] at hk; simp [hk, h_regs, h_reply, h_sessions, h_status, ↓State.answer_but, ↓State.item_but, ↓State.onSession_but, ↓State.ite_but]; done)))

@[simp] theorem State.memRead_but (s : State) (x : Session) (sense : Sense) (l : List Fld) (h_events : Fld.events ∈ l) (h_granules : Fld.granules ∈ l) (h_keys : Fld.keys ∈ l) (h_nv : Fld.nv ∈ l) (h_regs : Fld.regs ∈ l) (h_reply : Fld.reply ∈ l) (h_sec : Fld.sec ∈ l) (h_sectors : Fld.sectors ∈ l) (h_status : Fld.status ∈ l) : (State.memRead s x sense).but l = s.but l := by
  unfold State.memRead
  simp [h_events, h_granules, h_keys, h_nv, h_regs, h_reply, h_sec, h_sectors, h_status, ↓State.answer_but, ↓State.give_but, ↓State.sensed_but, ↓State.setReg_but, ↓State.ite_but]

theorem execMemRead_but (r : Role) (k : Nat) (sense : Sense) (s : State) (l : List Fld) (h_events : Fld.events ∈ l) (h_granules : Fld.granules ∈ l) (h_keys : Fld.keys ∈ l) (h_nv : Fld.nv ∈ l) (h_regs : Fld.regs ∈ l) (h_reply : Fld.reply ∈ l) (h_sec : Fld.sec ∈ l) (h_sectors : Fld.sectors ∈ l) (h_status : Fld.status ∈ l) :
    ∀ t, execMemRead r k sense s = .next t → t.but l = s.but l := by
  intro t ht
  unfold execMemRead at ht
  (try simp only [ok] at ht); (repeat' split at ht) <;> (replace ht := Host.Outcome.next.inj ht; subst ht; first
    | with_reducible rfl
    | (simp [h_events, h_granules, h_keys, h_nv, h_regs, h_reply, h_sec, h_sectors, h_status, ↓State.item_but, ↓State.memRead_but, ↓State.ite_but]; done)
    | ((first
        | refine State.item_but _ _ _ _ _ _ h_regs h_reply h_status (fun s => ?_)
        | refine State.itemLen_but _ _ _ _ _ _ _ h_regs h_reply h_status (fun s => ?_)) <;> (try dsimp only) <;> (repeat' split) <;> first
      | with_reducible rfl
      | (simp [h_events, h_granules, h_keys, h_nv, h_regs, h_reply, h_sec, h_sectors, h_status, ↓State.item_but, ↓State.memRead_but, ↓State.ite_but]; done)
      | (rename_i heq; have hk := congrArg (fun x => x.1.but l) heq; simp [h_events, h_granules, h_keys, h_nv, h_regs, h_reply, h_sec, h_sectors, h_status, ↓State.item_but, ↓State.memRead_but, ↓State.ite_but] at hk; simp [hk, h_events, h_granules, h_keys, h_nv, h_regs, h_reply, h_sec, h_sectors, h_status, ↓State.item_but, ↓State.memRead_but, ↓State.ite_but]; done))
    | (rename_i heq; have hk := congrArg (fun x => x.1.but l) heq; simp [h_events, h_granules, h_keys, h_nv, h_regs, h_reply, h_sec, h_sectors, h_status, ↓State.item_but, ↓State.memRead_but, ↓State.ite_but] at hk; simp [hk, h_events, h_granules, h_keys, h_nv, h_regs, h_reply, h_sec, h_sectors, h_status, ↓State.item_but, ↓State.memRead_but, ↓State.ite_but]; done))

theorem execMemWrite_but (r : Role) (k : Nat) (data : Bytes) (s : State) (l : List Fld) (h_nv : Fld.nv ∈ l) (h_regs : Fld.regs ∈ l) (h_reply : Fld.reply ∈ l) (h_status : Fld.status ∈ l) :
    ∀ t, execMemWrite r k data s = .next t → t.but l = s.but l := by
  intro t ht
  unfold execMemWrite at ht
  split at ht
  · replace ht := Host.Outcome.next.inj ht; subst ht; rfl
  · replace ht := Host.Outcome.next.inj ht; rw [← ht]
    refine State.itemLen_but _ _ _ _ _ _ _ h_regs h_reply h_status (fun s => ?_)
    split
    · simp [h_nv, h_regs, h_reply, h_status]
    split
    · simp [h_nv, h_regs, h_reply, h_status]
    split
    · simp [h_nv, h_regs, h_reply, h_status]
    split <;> simp [h_nv, h_regs, h_reply, h_status]

theorem execMemErase_but (r : Role) (addr : BitVec 32) (s : State) (l : List Fld) (h_nv : Fld.nv ∈ l) (h_regs : Fld.regs ∈ l) (h_reply : Fld.reply ∈ l) (h_status : Fld.status ∈ l) :
    ∀ t, execMemErase r addr s = .next t → t.but l = s.but l := by
  intro t ht
  unfold execMemErase at ht
  (try simp only [ok] at ht); (repeat' split at ht) <;> (replace ht := Host.Outcome.next.inj ht; subst ht; first
    | with_reducible rfl
    | (simp [h_nv, h_regs, h_reply, h_status, ↓State.answer_but, ↓State.item_but, ↓State.nvAsk_but, ↓State.refuseStopped_but, ↓State.ite_but]; done)
    | ((first
        | refine State.item_but _ _ _ _ _ _ h_regs h_reply h_status (fun s => ?_)
        | refine State.itemLen_but _ _ _ _ _ _ _ h_regs h_reply h_status (fun s => ?_)) <;> (try dsimp only) <;> (repeat' split) <;> first
      | with_reducible rfl
      | (simp [h_nv, h_regs, h_reply, h_status, ↓State.answer_but, ↓State.item_but, ↓State.nvAsk_but, ↓State.refuseStopped_but, ↓State.ite_but]; done)
      | (rename_i heq; have hk := congrArg (fun x => x.1.but l) heq; simp [h_nv, h_regs, h_reply, h_status, ↓State.answer_but, ↓State.item_but, ↓State.nvAsk_but, ↓State.refuseStopped_but, ↓State.ite_but] at hk; simp [hk, h_nv, h_regs, h_reply, h_status, ↓State.answer_but, ↓State.item_but, ↓State.nvAsk_but, ↓State.refuseStopped_but, ↓State.ite_but]; done))
    | (rename_i heq; have hk := congrArg (fun x => x.1.but l) heq; simp [h_nv, h_regs, h_reply, h_status, ↓State.answer_but, ↓State.item_but, ↓State.nvAsk_but, ↓State.refuseStopped_but, ↓State.ite_but] at hk; simp [hk, h_nv, h_regs, h_reply, h_status, ↓State.answer_but, ↓State.item_but, ↓State.nvAsk_but, ↓State.refuseStopped_but, ↓State.ite_but]; done))

@[simp] theorem State.fwCommand_but (s : State) (r : Role) (f : State → State) (l : List Fld) (h_regs : Fld.regs ∈ l) (h_reply : Fld.reply ∈ l) (h_status : Fld.status ∈ l) (hf : ∀ s, (f s).but l = s.but l) : (State.fwCommand s r f).but l = s.but l := by
  unfold State.fwCommand
  refine State.item_but _ _ _ _ _ _ h_regs h_reply h_status (fun s => ?_)
  simp [hf, h_regs, h_reply, h_status]

@[simp] theorem State.fwStart_but (s : State) (l : List Fld) (h_nv : Fld.nv ∈ l) (h_regs : Fld.regs ∈ l) (h_sec : Fld.sec ∈ l) : (State.fwStart s).but l = s.but l := by
  unfold State.fwStart
  simp [h_nv, h_regs, h_sec, ↓State.nvAsk_but, ↓State.setReg_but, ↓State.but_sec, ↓State.ite_but]

theorem execFwErase_but (r : Role) (s : State) (l : List Fld) (h_nv : Fld.nv ∈ l) (h_regs : Fld.regs ∈ l) (h_reply : Fld.reply ∈ l) (h_sec : Fld.sec ∈ l) (h_status : Fld.status ∈ l) (h_waitMaint : Fld.waitMaint ∈ l) :
    ∀ t, execFwErase r s = .next t → t.but l = s.but l := by
  intro t ht
  unfold execFwErase at ht
  (try simp only [ok] at ht); (repeat' split at ht) <;> (replace ht := Host.Outcome.next.inj ht; subst ht; first
    | with_reducible rfl
    | (simp [h_nv, h_regs, h_reply, h_sec, h_status, h_waitMaint, ↓State.answer_but, ↓State.bump16_but, ↓State.fwCommand_but, ↓State.fwStart_but, ↓State.refuseStopped_but, ↓State.but_waitMaint, ↓State.ite_but]; done))

theorem execFwData_but (r : Role) (data : Bytes) (s : State) (l : List Fld) (h_nv : Fld.nv ∈ l) (h_regs : Fld.regs ∈ l) (h_reply : Fld.reply ∈ l) (h_status : Fld.status ∈ l) :
    ∀ t, execFwData r data s = .next t → t.but l = s.but l := by
  intro t ht
  unfold execFwData at ht
  (try simp only [ok] at ht); (repeat' split at ht) <;> (replace ht := Host.Outcome.next.inj ht; subst ht; first
    | with_reducible rfl
    | (simp [h_nv, h_regs, h_reply, h_status, ↓State.answer_but, ↓State.askProgram_but, ↓State.itemLen_but, ↓State.refuseStopped_but, ↓State.ite_but]; done)
    | ((first
        | refine State.item_but _ _ _ _ _ _ h_regs h_reply h_status (fun s => ?_)
        | refine State.itemLen_but _ _ _ _ _ _ _ h_regs h_reply h_status (fun s => ?_)) <;> (try dsimp only) <;> (repeat' split) <;> first
      | with_reducible rfl
      | (simp [h_nv, h_regs, h_reply, h_status, ↓State.answer_but, ↓State.askProgram_but, ↓State.itemLen_but, ↓State.refuseStopped_but, ↓State.ite_but]; done)
      | (rename_i heq; have hk := congrArg (fun x => x.1.but l) heq; simp [h_nv, h_regs, h_reply, h_status, ↓State.answer_but, ↓State.askProgram_but, ↓State.itemLen_but, ↓State.refuseStopped_but, ↓State.ite_but] at hk; simp [h_nv, h_regs, h_reply, h_status, ↓State.answer_but, ↓State.askProgram_but, ↓State.itemLen_but, ↓State.refuseStopped_but, ↓State.ite_but, hk]; done)))

theorem execFwSeal_but (r : Role) (s : State) (l : List Fld) (h_events : Fld.events ∈ l) (h_nv : Fld.nv ∈ l) (h_regs : Fld.regs ∈ l) (h_reply : Fld.reply ∈ l) (h_status : Fld.status ∈ l) :
    ∀ t, execFwSeal r s = .next t → t.but l = s.but l := by
  intro t ht
  unfold execFwSeal at ht
  replace ht := Host.Outcome.next.inj ht; rw [← ht]
  refine State.fwCommand_but _ _ _ _ h_regs h_reply h_status (fun s => ?_)
  split
  · simp [h_events, h_nv, h_regs, h_reply, h_status, ↓State.answer_but, ↓State.bump16_but, ↓State.fwCommand_but, ↓State.raise_but, ↓State.setReg_but, ↓State.but_nv, ↓State.ite_but]
  split
  · simp [h_events, h_nv, h_regs, h_reply, h_status, ↓State.answer_but, ↓State.bump16_but, ↓State.fwCommand_but, ↓State.raise_but, ↓State.setReg_but, ↓State.but_nv, ↓State.ite_but]
  dsimp only
  split
  · simp [h_events, h_nv, h_regs, h_reply, h_status, ↓State.answer_but, ↓State.bump16_but, ↓State.fwCommand_but, ↓State.raise_but, ↓State.setReg_but, ↓State.but_nv, ↓State.ite_but]
  · split <;> simp [h_events, h_nv, h_regs, h_reply, h_status, ↓State.answer_but, ↓State.bump16_but, ↓State.fwCommand_but, ↓State.raise_but, ↓State.setReg_but, ↓State.but_nv, ↓State.ite_but]

theorem execFwAbandon_but (r : Role) (s : State) (l : List Fld) (h_fwWaitAt : Fld.fwWaitAt ∈ l) (h_nv : Fld.nv ∈ l) (h_regs : Fld.regs ∈ l) (h_reply : Fld.reply ∈ l) (h_status : Fld.status ∈ l) (h_waitMaint : Fld.waitMaint ∈ l) :
    ∀ t, execFwAbandon r s = .next t → t.but l = s.but l := by
  intro t ht
  unfold execFwAbandon at ht
  replace ht := Host.Outcome.next.inj ht; rw [← ht]
  refine State.fwCommand_but _ _ _ _ h_regs h_reply h_status (fun s => ?_)
  dsimp only
  rw [State.answer_but _ _ _ h_status h_reply, State.setReg_but _ _ _ _ h_regs]
  simp [State.but, h_fwWaitAt, h_nv, h_regs, h_reply, h_status, h_waitMaint]

end Sys2Proof.Machine
end

