-- ==== Sys2Proof/Laws/Keep/Trim.lean ====
section
/-! SUPPORT. The frames of the operations of Machine/Trim.lean: the parts of the state that each of them can change. -/
set_option linter.all false

namespace Sys2Proof.Machine

theorem execPmbusTrimPeriod_but (c : Fin 512) (s : State) (l : List Fld) (h_ports : Fld.ports ∈ l) :
    ∀ t, execPmbusTrimPeriod c s = .next t → t.but l = s.but l := by
  intro t ht
  unfold execPmbusTrimPeriod at ht
  (try simp only [ok] at ht); (repeat' split at ht) <;> (replace ht := Host.Outcome.next.inj ht; subst ht; first
    | with_reducible rfl
    | (simp [h_ports, ↓State.askSetpoint_but, ↓State.ite_but]; done)
    | (rename_i heq; have hk := congrArg (fun x => x.1.but l) heq; simp [h_ports, ↓State.askSetpoint_but, ↓State.ite_but] at hk; simp [hk, h_ports, ↓State.askSetpoint_but, ↓State.ite_but]; done))

theorem execMarginApply_but (r : Role) (p : Fin 16) (s : State) (l : List Fld) (h_caps : Fld.caps ∈ l) (h_chans : Fld.chans ∈ l) (h_entries : Fld.entries ∈ l) (h_events : Fld.events ∈ l) (h_regs : Fld.regs ∈ l) (h_reply : Fld.reply ∈ l) (h_status : Fld.status ∈ l) (h_trims : Fld.trims ∈ l) :
    ∀ t, execMarginApply r p s = .next t → t.but l = s.but l := by
  intro t ht
  unfold execMarginApply at ht
  (repeat' split at ht) <;> (replace ht := Host.Outcome.next.inj ht; subst ht) <;> first
    | with_reducible rfl
    | (simp [h_caps, h_chans, h_entries, h_events, h_regs, h_reply, h_status, h_trims, ↓State.answer_but, ↓State.bump16_but, ↓State.item_but, ↓State.marginOn_but, ↓State.each_but, ↓State.ite_but]; done)
    | ((first
        | refine State.item_but _ _ _ _ _ _ h_regs h_reply h_status (fun s => ?_)
        | refine State.itemLen_but _ _ _ _ _ _ _ h_regs h_reply h_status (fun s => ?_)) <;> (try dsimp only) <;> (repeat' split) <;> first
      | with_reducible rfl
      | (simp [h_caps, h_chans, h_entries, h_events, h_regs, h_reply, h_status, h_trims, ↓State.answer_but, ↓State.bump16_but, ↓State.item_but, ↓State.marginOn_but, ↓State.each_but, ↓State.ite_but]; done)
      | (rename_i heq; have hk := congrArg (fun x => x.1.but l) heq; simp [h_caps, h_chans, h_entries, h_events, h_regs, h_reply, h_status, h_trims, ↓State.answer_but, ↓State.bump16_but, ↓State.item_but, ↓State.marginOn_but, ↓State.each_but, ↓State.ite_but] at hk; simp [hk, *]; done))

theorem execMarginRemove_but (r : Role) (p : Fin 16) (s : State) (l : List Fld) (h_caps : Fld.caps ∈ l) (h_chans : Fld.chans ∈ l) (h_entries : Fld.entries ∈ l) (h_regs : Fld.regs ∈ l) (h_reply : Fld.reply ∈ l) (h_status : Fld.status ∈ l) (h_trims : Fld.trims ∈ l) :
    ∀ t, execMarginRemove r p s = .next t → t.but l = s.but l := by
  intro t ht
  unfold execMarginRemove at ht
  (repeat' split at ht) <;> (replace ht := Host.Outcome.next.inj ht; subst ht) <;> first
    | with_reducible rfl
    | (simp [h_caps, h_chans, h_entries, h_regs, h_reply, h_status, h_trims, ↓State.answer_but, ↓State.item_but, ↓State.marginOff_but, ↓State.each_but, ↓State.ite_but]; done)
    | ((first
        | refine State.item_but _ _ _ _ _ _ h_regs h_reply h_status (fun s => ?_)
        | refine State.itemLen_but _ _ _ _ _ _ _ h_regs h_reply h_status (fun s => ?_)) <;> (try dsimp only) <;> (repeat' split) <;> first
      | with_reducible rfl
      | (simp [h_caps, h_chans, h_entries, h_regs, h_reply, h_status, h_trims, ↓State.answer_but, ↓State.item_but, ↓State.marginOff_but, ↓State.each_but, ↓State.ite_but]; done)
      | (rename_i heq; have hk := congrArg (fun x => x.1.but l) heq; simp [h_caps, h_chans, h_entries, h_regs, h_reply, h_status, h_trims, ↓State.answer_but, ↓State.item_but, ↓State.marginOff_but, ↓State.each_but, ↓State.ite_but] at hk; simp [hk, *]; done))

@[simp] theorem State.setBench_but (s : State) (p : Nat) (b : Bench) (l : List Fld) (h_parts : Fld.parts ∈ l) : (State.setBench s p b).but l = s.but l := by
  unfold State.setBench
  simp [h_parts, ↓State.setPart_but, ↓State.ite_but]

@[simp] theorem State.sideEnd_but (s : State) (p reason : Nat) (l : List Fld) (h_caps : Fld.caps ∈ l) (h_chans : Fld.chans ∈ l) (h_entries : Fld.entries ∈ l) (h_events : Fld.events ∈ l) (h_parts : Fld.parts ∈ l) (h_regs : Fld.regs ∈ l) (h_trims : Fld.trims ∈ l) (h_waitMaint : Fld.waitMaint ∈ l) : (State.sideEnd s p reason).but l = s.but l := by
  unfold State.sideEnd
  simp [h_caps, h_chans, h_entries, h_events, h_parts, h_regs, h_trims, h_waitMaint, ↓State.marginOn_but, ↓State.setBench_but, ↓State.setReg_but, ↓State.sweepEnd_but, ↓State.ite_but]

@[simp] theorem State.benchTake_but (s : State) (p : Nat) (l : List Fld) (h_caps : Fld.caps ∈ l) (h_chans : Fld.chans ∈ l) (h_entries : Fld.entries ∈ l) (h_events : Fld.events ∈ l) (h_parts : Fld.parts ∈ l) (h_regs : Fld.regs ∈ l) (h_trims : Fld.trims ∈ l) (h_waitMaint : Fld.waitMaint ∈ l) : (State.benchTake s p).but l = s.but l := by
  unfold State.benchTake
  simp [h_caps, h_chans, h_entries, h_events, h_parts, h_regs, h_trims, h_waitMaint, ↓State.marginOn_but, ↓State.setBench_but, ↓State.setReg_but, ↓State.sideEnd_but, ↓State.ite_but]

@[simp] theorem State.sideBegin_but (s : State) (p : Nat) (low : Bool) (l : List Fld) (h_caps : Fld.caps ∈ l) (h_chans : Fld.chans ∈ l) (h_entries : Fld.entries ∈ l) (h_events : Fld.events ∈ l) (h_parts : Fld.parts ∈ l) (h_regs : Fld.regs ∈ l) (h_trims : Fld.trims ∈ l) (h_waitMaint : Fld.waitMaint ∈ l) : (State.sideBegin s p low).but l = s.but l := by
  unfold State.sideBegin
  simp [h_caps, h_chans, h_entries, h_events, h_parts, h_regs, h_trims, h_waitMaint, ↓State.benchTake_but, ↓State.setBench_but, ↓State.setReg_but, ↓State.ite_but]

@[simp] theorem State.benchBegin_but (s : State) (p : Nat) (l : List Fld) (h_caps : Fld.caps ∈ l) (h_chans : Fld.chans ∈ l) (h_entries : Fld.entries ∈ l) (h_events : Fld.events ∈ l) (h_parts : Fld.parts ∈ l) (h_regs : Fld.regs ∈ l) (h_trims : Fld.trims ∈ l) (h_waitMaint : Fld.waitMaint ∈ l) : (State.benchBegin s p).but l = s.but l := by
  unfold State.benchBegin
  simp [h_caps, h_chans, h_entries, h_events, h_parts, h_regs, h_trims, h_waitMaint, ↓State.marginOn_but, ↓State.setBench_but, ↓State.setReg_but, ↓State.sideBegin_but, ↓State.ite_but]

@[simp] theorem State.stepPass_but (s : State) (p : Nat) (l : List Fld) (h_caps : Fld.caps ∈ l) (h_chans : Fld.chans ∈ l) (h_entries : Fld.entries ∈ l) (h_events : Fld.events ∈ l) (h_parts : Fld.parts ∈ l) (h_regs : Fld.regs ∈ l) (h_trims : Fld.trims ∈ l) (h_waitMaint : Fld.waitMaint ∈ l) : (State.stepPass s p).but l = s.but l := by
  unfold State.stepPass
  simp [h_caps, h_chans, h_entries, h_events, h_parts, h_regs, h_trims, h_waitMaint, ↓State.benchTake_but, ↓State.setBench_but, ↓State.setReg_but, ↓State.sweepEnd_but, ↓State.ite_but]

@[simp] theorem State.sideOver_but (s : State) (p : Nat) (l : List Fld) (h_caps : Fld.caps ∈ l) (h_chans : Fld.chans ∈ l) (h_entries : Fld.entries ∈ l) (h_events : Fld.events ∈ l) (h_parts : Fld.parts ∈ l) (h_regs : Fld.regs ∈ l) (h_trims : Fld.trims ∈ l) (h_waitMaint : Fld.waitMaint ∈ l) : (State.sideOver s p).but l = s.but l := by
  unfold State.sideOver
  simp [h_caps, h_chans, h_entries, h_events, h_parts, h_regs, h_trims, h_waitMaint, ↓State.sideBegin_but, ↓State.sweepEnd_but, ↓State.ite_but]

@[simp] theorem State.benchAct_but (s : State) (p : Nat) (a : BenchAct) (l : List Fld) (h_parts : Fld.parts ∈ l) : (State.benchAct s p a).but l = s.but l := by
  unfold State.benchAct
  first
  | (simp [h_parts, ↓State.setBench_but, ↓State.ite_but]; done)
  | ((try dsimp only); (repeat' split) <;> first
    | with_reducible rfl
    | (simp [h_parts, ↓State.setBench_but, ↓State.ite_but]; done))

@[simp] theorem State.benchDo_but (s : State) (p : Nat) (l : List Fld) (h_caps : Fld.caps ∈ l) (h_chans : Fld.chans ∈ l) (h_entries : Fld.entries ∈ l) (h_events : Fld.events ∈ l) (h_parts : Fld.parts ∈ l) (h_regs : Fld.regs ∈ l) (h_trims : Fld.trims ∈ l) (h_waitMaint : Fld.waitMaint ∈ l) : (State.benchDo s p).but l = s.but l := by
  unfold State.benchDo
  first
  | (simp [h_caps, h_chans, h_entries, h_events, h_parts, h_regs, h_trims, h_waitMaint, ↓State.setBench_but, ↓State.sideEnd_but, ↓State.sideOver_but, ↓State.stepPass_but, ↓State.ite_but]; done)
  | ((try dsimp only); (repeat' split) <;> first
    | with_reducible rfl
    | (simp [h_caps, h_chans, h_entries, h_events, h_parts, h_regs, h_trims, h_waitMaint, ↓State.setBench_but, ↓State.sideEnd_but, ↓State.sideOver_but, ↓State.stepPass_but, ↓State.ite_but]; done)
    | (rename_i heq; have hk := congrArg (fun x => x.1.but l) heq; simp [h_caps, h_chans, h_entries, h_events, h_parts, h_regs, h_trims, h_waitMaint, ↓State.setBench_but, ↓State.sideEnd_but, ↓State.sideOver_but, ↓State.stepPass_but, ↓State.ite_but] at hk; simp [h_caps, h_chans, h_entries, h_events, h_parts, h_regs, h_trims, h_waitMaint, ↓State.setBench_but, ↓State.sideEnd_but, ↓State.sideOver_but, ↓State.stepPass_but, ↓State.ite_but, hk]; done))

@[simp] theorem State.benchTurn_but (s : State) (l : List Fld) (h_caps : Fld.caps ∈ l) (h_chans : Fld.chans ∈ l) (h_entries : Fld.entries ∈ l) (h_events : Fld.events ∈ l) (h_parts : Fld.parts ∈ l) (h_regs : Fld.regs ∈ l) (h_trims : Fld.trims ∈ l) (h_waitMaint : Fld.waitMaint ∈ l) : (State.benchTurn s).but l = s.but l := by
  unfold State.benchTurn
  first
  | (simp [h_caps, h_chans, h_entries, h_events, h_parts, h_regs, h_trims, h_waitMaint, ↓State.benchDo_but, ↓State.each_but, ↓State.ite_but]; done)
  | ((try dsimp only); (repeat' split) <;> first
    | with_reducible rfl
    | (simp [h_caps, h_chans, h_entries, h_events, h_parts, h_regs, h_trims, h_waitMaint, ↓State.benchDo_but, ↓State.each_but, ↓State.ite_but]; done)
    | (refine (State.each_but _ _ _ _ (fun s x _ => ?_)).trans ?_ <;> (try dsimp only) <;> (repeat' split) <;> first
      | with_reducible rfl
      | (simp [h_caps, h_chans, h_entries, h_events, h_parts, h_regs, h_trims, h_waitMaint, ↓State.benchDo_but, ↓State.each_but, ↓State.ite_but]; done)))

@[simp] theorem State.benchWrite_but (s : State) (p : Nat) (l : List Fld) (h_caps : Fld.caps ∈ l) (h_chans : Fld.chans ∈ l) (h_entries : Fld.entries ∈ l) (h_events : Fld.events ∈ l) (h_parts : Fld.parts ∈ l) (h_regs : Fld.regs ∈ l) (h_reply : Fld.reply ∈ l) (h_status : Fld.status ∈ l) (h_trims : Fld.trims ∈ l) (h_waitMaint : Fld.waitMaint ∈ l) : (State.benchWrite s p).but l = s.but l := by
  unfold State.benchWrite
  first
  | (simp [h_caps, h_chans, h_entries, h_events, h_parts, h_regs, h_reply, h_status, h_trims, h_waitMaint, ↓State.answer_but, ↓State.benchBegin_but, ↓State.bump16_but, ↓State.setBench_but, ↓State.setReg_but, ↓State.but_waitMaint, ↓State.ite_but]; done)
  | ((try dsimp only); (repeat' split) <;> first
    | with_reducible rfl
    | (simp [h_caps, h_chans, h_entries, h_events, h_parts, h_regs, h_reply, h_status, h_trims, h_waitMaint, ↓State.answer_but, ↓State.benchBegin_but, ↓State.bump16_but, ↓State.setBench_but, ↓State.setReg_but, ↓State.but_waitMaint, ↓State.ite_but]; done))

theorem execBenchStart_but (r : Role) (p : Fin 16) (s : State) (l : List Fld) (h_caps : Fld.caps ∈ l) (h_chans : Fld.chans ∈ l) (h_entries : Fld.entries ∈ l) (h_events : Fld.events ∈ l) (h_parts : Fld.parts ∈ l) (h_regs : Fld.regs ∈ l) (h_reply : Fld.reply ∈ l) (h_status : Fld.status ∈ l) (h_trims : Fld.trims ∈ l) (h_waitMaint : Fld.waitMaint ∈ l) :
    ∀ t, execBenchStart r p s = .next t → t.but l = s.but l := by
  intro t ht
  unfold execBenchStart at ht
  (try simp only [ok] at ht); (repeat' split at ht) <;> (replace ht := Host.Outcome.next.inj ht; subst ht; first
    | with_reducible rfl
    | (simp [h_caps, h_chans, h_entries, h_events, h_parts, h_regs, h_reply, h_status, h_trims, h_waitMaint, ↓State.benchWrite_but, ↓State.item_but, ↓State.ite_but]; done)
    | ((first
        | refine State.item_but _ _ _ _ _ _ h_regs h_reply h_status (fun s => ?_)
        | refine State.itemLen_but _ _ _ _ _ _ _ h_regs h_reply h_status (fun s => ?_)) <;> (try dsimp only) <;> (repeat' split) <;> first
      | with_reducible rfl
      | (simp [h_caps, h_chans, h_entries, h_events, h_parts, h_regs, h_reply, h_status, h_trims, h_waitMaint, ↓State.benchWrite_but, ↓State.item_but, ↓State.ite_but]; done)
      | (rename_i heq; have hk := congrArg (fun x => x.1.but l) heq; simp [h_caps, h_chans, h_entries, h_events, h_parts, h_regs, h_reply, h_status, h_trims, h_waitMaint, ↓State.benchWrite_but, ↓State.item_but, ↓State.ite_but] at hk; simp [hk, h_caps, h_chans, h_entries, h_events, h_parts, h_regs, h_reply, h_status, h_trims, h_waitMaint, ↓State.benchWrite_but, ↓State.item_but, ↓State.ite_but]; done)))

theorem execBenchAbort_but (r : Role) (p : Fin 16) (s : State) (l : List Fld) (h_caps : Fld.caps ∈ l) (h_chans : Fld.chans ∈ l) (h_entries : Fld.entries ∈ l) (h_events : Fld.events ∈ l) (h_parts : Fld.parts ∈ l) (h_regs : Fld.regs ∈ l) (h_reply : Fld.reply ∈ l) (h_status : Fld.status ∈ l) (h_trims : Fld.trims ∈ l) (h_waitMaint : Fld.waitMaint ∈ l) :
    ∀ t, execBenchAbort r p s = .next t → t.but l = s.but l := by
  intro t ht
  unfold execBenchAbort at ht
  (try simp only [ok] at ht); (repeat' split at ht) <;> (replace ht := Host.Outcome.next.inj ht; subst ht; first
    | with_reducible rfl
    | (simp [h_caps, h_chans, h_entries, h_events, h_parts, h_regs, h_reply, h_status, h_trims, h_waitMaint, ↓State.answer_but, ↓State.benchAbort_but, ↓State.item_but, ↓State.ite_but]; done)
    | ((first
        | refine State.item_but _ _ _ _ _ _ h_regs h_reply h_status (fun s => ?_)
        | refine State.itemLen_but _ _ _ _ _ _ _ h_regs h_reply h_status (fun s => ?_)) <;> (try dsimp only) <;> (repeat' split) <;> first
      | with_reducible rfl
      | (simp [h_caps, h_chans, h_entries, h_events, h_parts, h_regs, h_reply, h_status, h_trims, h_waitMaint, ↓State.answer_but, ↓State.benchAbort_but, ↓State.item_but, ↓State.ite_but]; done)
      | (rename_i heq; have hk := congrArg (fun x => x.1.but l) heq; simp [h_caps, h_chans, h_entries, h_events, h_parts, h_regs, h_reply, h_status, h_trims, h_waitMaint, ↓State.answer_but, ↓State.benchAbort_but, ↓State.item_but, ↓State.ite_but] at hk; simp [hk, h_caps, h_chans, h_entries, h_events, h_parts, h_regs, h_reply, h_status, h_trims, h_waitMaint, ↓State.answer_but, ↓State.benchAbort_but, ↓State.item_but, ↓State.ite_but]; done)))

theorem execBenchSettled_but (p : Fin 16) (s : State) (l : List Fld) (h_parts : Fld.parts ∈ l) :
    ∀ t, execBenchSettled p s = .next t → t.but l = s.but l := by
  intro t ht
  unfold execBenchSettled at ht
  (try simp only [ok] at ht); (repeat' split at ht) <;> (replace ht := Host.Outcome.next.inj ht; subst ht; first
    | with_reducible rfl
    | (simp [h_parts, ↓State.benchAct_but, ↓State.setBench_but, ↓State.ite_but]; done)
    | (rename_i heq; have hk := congrArg (fun x => x.1.but l) heq; simp [h_parts, ↓State.benchAct_but, ↓State.setBench_but, ↓State.ite_but] at hk; simp [h_parts, ↓State.benchAct_but, ↓State.setBench_but, ↓State.ite_but, hk]; done))

theorem execBenchSettleTimeout_but (p : Fin 16) (s : State) (l : List Fld) (h_parts : Fld.parts ∈ l) :
    ∀ t, execBenchSettleTimeout p s = .next t → t.but l = s.but l := by
  intro t ht
  unfold execBenchSettleTimeout at ht
  (try simp only [ok] at ht); (repeat' split at ht) <;> (replace ht := Host.Outcome.next.inj ht; subst ht; first
    | with_reducible rfl
    | (simp [h_parts, ↓State.benchAct_but, ↓State.ite_but]; done)
    | (rename_i heq; have hk := congrArg (fun x => x.1.but l) heq; simp [h_parts, ↓State.benchAct_but, ↓State.ite_but] at hk; simp [h_parts, ↓State.benchAct_but, ↓State.ite_but, hk]; done))

@[simp] theorem State.dwellOver_but (s : State) (p : Nat) (l : List Fld) (h_parts : Fld.parts ∈ l) : (State.dwellOver s p).but l = s.but l := by
  unfold State.dwellOver
  first
  | (simp [h_parts, ↓State.benchAct_but, ↓State.setBench_but, ↓State.ite_but]; done)
  | ((try dsimp only); (repeat' split) <;> first
    | with_reducible rfl
    | (simp [h_parts, ↓State.benchAct_but, ↓State.setBench_but, ↓State.ite_but]; done))

@[simp] theorem State.verdictOver_but (s : State) (p : Nat) (l : List Fld) (h_parts : Fld.parts ∈ l) : (State.verdictOver s p).but l = s.but l := by
  unfold State.verdictOver
  first
  | (simp [h_parts, ↓State.benchAct_but, ↓State.ite_but]; done)
  | ((try dsimp only); (repeat' split) <;> first
    | with_reducible rfl
    | (simp [h_parts, ↓State.benchAct_but, ↓State.ite_but]; done))

theorem execBenchDwellEnd_but (p : Fin 16) (s : State) (l : List Fld) (h_parts : Fld.parts ∈ l) :
    ∀ t, execBenchDwellEnd p s = .next t → t.but l = s.but l := by
  intro t ht
  unfold execBenchDwellEnd at ht
  (try simp only [ok] at ht); (repeat' split at ht) <;> (replace ht := Host.Outcome.next.inj ht; subst ht; first
    | with_reducible rfl
    | (simp [h_parts, ↓State.dwellOver_but, ↓State.ite_but]; done))

@[simp] theorem State.verdict_but (s : State) (p : Nat) (a : BenchAct) (l : List Fld) (h_parts : Fld.parts ∈ l) (h_reply : Fld.reply ∈ l) (h_status : Fld.status ∈ l) : (State.verdict s p a).but l = s.but l := by
  unfold State.verdict
  first
  | (simp [h_parts, h_reply, h_status, ↓State.answer_but, ↓State.benchAct_but, ↓State.dwellOver_but, ↓State.verdictOver_but, ↓State.ite_but]; done)
  | ((try dsimp only); (repeat' split) <;> first
    | with_reducible rfl
    | (simp [h_parts, h_reply, h_status, ↓State.answer_but, ↓State.benchAct_but, ↓State.dwellOver_but, ↓State.verdictOver_but, ↓State.ite_but]; done))

theorem execVerdictPass_but (r : Role) (p : Fin 16) (s : State) (l : List Fld) (h_parts : Fld.parts ∈ l) (h_regs : Fld.regs ∈ l) (h_reply : Fld.reply ∈ l) (h_status : Fld.status ∈ l) :
    ∀ t, execVerdictPass r p s = .next t → t.but l = s.but l := by
  intro t ht
  unfold execVerdictPass at ht
  (try simp only [ok] at ht); (repeat' split at ht) <;> (replace ht := Host.Outcome.next.inj ht; subst ht; first
    | with_reducible rfl
    | (simp [h_parts, h_regs, h_reply, h_status, ↓State.item_but, ↓State.verdict_but, ↓State.ite_but]; done)
    | ((first
        | refine State.item_but _ _ _ _ _ _ h_regs h_reply h_status (fun s => ?_)
        | refine State.itemLen_but _ _ _ _ _ _ _ h_regs h_reply h_status (fun s => ?_)) <;> (try dsimp only) <;> (repeat' split) <;> first
      | with_reducible rfl
      | (simp [h_parts, h_regs, h_reply, h_status, ↓State.item_but, ↓State.verdict_but, ↓State.ite_but]; done)
      | (rename_i heq; have hk := congrArg (fun x => x.1.but l) heq; simp [h_parts, h_regs, h_reply, h_status, ↓State.item_but, ↓State.verdict_but, ↓State.ite_but] at hk; simp [h_parts, h_regs, h_reply, h_status, ↓State.item_but, ↓State.verdict_but, ↓State.ite_but, hk]; done)))

theorem execVerdictFail_but (r : Role) (p : Fin 16) (s : State) (l : List Fld) (h_parts : Fld.parts ∈ l) (h_regs : Fld.regs ∈ l) (h_reply : Fld.reply ∈ l) (h_status : Fld.status ∈ l) :
    ∀ t, execVerdictFail r p s = .next t → t.but l = s.but l := by
  intro t ht
  unfold execVerdictFail at ht
  (try simp only [ok] at ht); (repeat' split at ht) <;> (replace ht := Host.Outcome.next.inj ht; subst ht; first
    | with_reducible rfl
    | (simp [h_parts, h_regs, h_reply, h_status, ↓State.item_but, ↓State.verdict_but, ↓State.ite_but]; done)
    | ((first
        | refine State.item_but _ _ _ _ _ _ h_regs h_reply h_status (fun s => ?_)
        | refine State.itemLen_but _ _ _ _ _ _ _ h_regs h_reply h_status (fun s => ?_)) <;> (try dsimp only) <;> (repeat' split) <;> first
      | with_reducible rfl
      | (simp [h_parts, h_regs, h_reply, h_status, ↓State.item_but, ↓State.verdict_but, ↓State.ite_but]; done)
      | (rename_i heq; have hk := congrArg (fun x => x.1.but l) heq; simp [h_parts, h_regs, h_reply, h_status, ↓State.item_but, ↓State.verdict_but, ↓State.ite_but] at hk; simp [h_parts, h_regs, h_reply, h_status, ↓State.item_but, ↓State.verdict_but, ↓State.ite_but, hk]; done)))

theorem execVerdictTimeout_but (p : Fin 16) (s : State) (l : List Fld) (h_parts : Fld.parts ∈ l) :
    ∀ t, execVerdictTimeout p s = .next t → t.but l = s.but l := by
  intro t ht
  unfold execVerdictTimeout at ht
  (try simp only [ok] at ht); (repeat' split at ht) <;> (replace ht := Host.Outcome.next.inj ht; subst ht; first
    | with_reducible rfl
    | (simp [h_parts, ↓State.verdictOver_but, ↓State.ite_but]; done))

end Sys2Proof.Machine
end

