-- ==== Sys2Proof/Laws/Keep/Profile.lean ====
section
/-! SUPPORT. The frames of the operations of Machine/Profile.lean: the parts of the state that each of them can change. -/
set_option linter.all false

namespace Sys2Proof.Machine

@[simp] theorem State.shelfFields_but (s : State) (n : Nat) (l : List Fld) (h_regs : Fld.regs ∈ l) : (State.shelfFields s n).but l = s.but l := by
  unfold State.shelfFields
  simp [h_regs, ↓State.setReg_but, ↓State.ite_but]

@[simp] theorem State.shelfVerify_but (s : State) (n : Nat) (hw : Hw) (l : List Fld) (h_events : Fld.events ∈ l) (h_granules : Fld.granules ∈ l) (h_keys : Fld.keys ∈ l) (h_nv : Fld.nv ∈ l) (h_regs : Fld.regs ∈ l) (h_sec : Fld.sec ∈ l) (h_sectors : Fld.sectors ∈ l) : (State.shelfVerify s n hw).but l = s.but l := by
  unfold State.shelfVerify
  simp [h_events, h_granules, h_keys, h_nv, h_regs, h_sec, h_sectors, ↓State.sensed_but, ↓State.setReg_but, ↓State.shelfFields_but, ↓State.ite_but]

@[simp] theorem State.targetWrite_but (s : State) (k v : Nat) (l : List Fld) (h_regs : Fld.regs ∈ l) (h_reply : Fld.reply ∈ l) (h_status : Fld.status ∈ l) : (State.targetWrite s k v).but l = s.but l := by
  unfold State.targetWrite
  simp [h_regs, h_reply, h_status, ↓State.answer_but, ↓State.setReg_but, ↓State.ite_but]

@[simp] theorem State.offsetWrite_but (s : State) (k v : Nat) (l : List Fld) (h_regs : Fld.regs ∈ l) (h_reply : Fld.reply ∈ l) (h_status : Fld.status ∈ l) : (State.offsetWrite s k v).but l = s.but l := by
  unfold State.offsetWrite
  simp [h_regs, h_reply, h_status, ↓State.answer_but, ↓State.setReg_but, ↓State.ite_but]

@[simp] theorem State.shelfErase_but (s : State) (k : Nat) (l : List Fld) (h_nv : Fld.nv ∈ l) (h_regs : Fld.regs ∈ l) (h_reply : Fld.reply ∈ l) (h_status : Fld.status ∈ l) : (State.shelfErase s k).but l = s.but l := by
  unfold State.shelfErase
  first
  | (simp [h_nv, h_regs, h_reply, h_status, ↓State.answer_but, ↓State.nvAsk_but, ↓State.refuseStopped_but, ↓State.setReg_but, ↓State.but_nv, ↓State.ite_but]; done)
  | ((try dsimp only); (repeat' split) <;> first
    | with_reducible rfl
    | (simp [h_nv, h_regs, h_reply, h_status, ↓State.answer_but, ↓State.nvAsk_but, ↓State.refuseStopped_but, ↓State.setReg_but, ↓State.but_nv, ↓State.ite_but]; done))

@[simp] theorem State.shelfData_but (s : State) (k : Nat) (data : Bytes) (l : List Fld) (h_nv : Fld.nv ∈ l) (h_regs : Fld.regs ∈ l) (h_reply : Fld.reply ∈ l) (h_status : Fld.status ∈ l) : (State.shelfData s k data).but l = s.but l := by
  unfold State.shelfData
  first
  | (simp [h_nv, h_regs, h_reply, h_status, ↓State.answer_but, ↓State.askProgram_but, ↓State.refuseStopped_but, ↓State.ite_but]; done)
  | ((try dsimp only); (repeat' split) <;> first
    | with_reducible rfl
    | (simp [h_nv, h_regs, h_reply, h_status, ↓State.answer_but, ↓State.askProgram_but, ↓State.refuseStopped_but, ↓State.ite_but]; done))

@[simp] theorem State.shelfSealed_but (s : State) (n : Nat) (l : List Fld) (h_nv : Fld.nv ∈ l) (h_reply : Fld.reply ∈ l) (h_status : Fld.status ∈ l) : (State.shelfSealed s n).but l = s.but l := by
  unfold State.shelfSealed
  simp [h_nv, h_reply, h_status, ↓State.answer_but, ↓State.but_nv, ↓State.ite_but]

@[simp] theorem State.shelfSeal_but (s : State) (k : Nat) (hw : Hw) (l : List Fld) (h_events : Fld.events ∈ l) (h_granules : Fld.granules ∈ l) (h_keys : Fld.keys ∈ l) (h_nv : Fld.nv ∈ l) (h_regs : Fld.regs ∈ l) (h_reply : Fld.reply ∈ l) (h_sec : Fld.sec ∈ l) (h_sectors : Fld.sectors ∈ l) (h_status : Fld.status ∈ l) : (State.shelfSeal s k hw).but l = s.but l := by
  unfold State.shelfSeal
  simp [h_events, h_granules, h_keys, h_nv, h_regs, h_reply, h_sec, h_sectors, h_status, ↓State.answer_but, ↓State.shelfSealed_but, ↓State.shelfVerify_but, ↓State.ite_but]

theorem execShelfErase_but (r : Role) (k : Nat) (s : State) (l : List Fld) (h_nv : Fld.nv ∈ l) (h_regs : Fld.regs ∈ l) (h_reply : Fld.reply ∈ l) (h_status : Fld.status ∈ l) :
    ∀ t, execShelfErase r k s = .next t → t.but l = s.but l := by
  intro t ht
  unfold execShelfErase at ht
  (try simp only [ok] at ht); (repeat' split at ht) <;> (replace ht := Host.Outcome.next.inj ht; subst ht; first
    | with_reducible rfl
    | (simp [h_nv, h_regs, h_reply, h_status, ↓State.item_but, ↓State.shelfErase_but, ↓State.ite_but]; done)
    | ((first
        | refine State.item_but _ _ _ _ _ _ h_regs h_reply h_status (fun s => ?_)
        | refine State.itemLen_but _ _ _ _ _ _ _ h_regs h_reply h_status (fun s => ?_)) <;> (try dsimp only) <;> (repeat' split) <;> first
      | with_reducible rfl
      | (simp [h_nv, h_regs, h_reply, h_status, ↓State.item_but, ↓State.shelfErase_but, ↓State.ite_but]; done)
      | (rename_i heq; have hk := congrArg (fun x => x.1.but l) heq; simp [h_nv, h_regs, h_reply, h_status, ↓State.item_but, ↓State.shelfErase_but, ↓State.ite_but] at hk; simp [hk, h_nv, h_regs, h_reply, h_status, ↓State.item_but, ↓State.shelfErase_but, ↓State.ite_but]; done)))

theorem execShelfData_but (r : Role) (k : Nat) (data : Bytes) (s : State) (l : List Fld) (h_nv : Fld.nv ∈ l) (h_regs : Fld.regs ∈ l) (h_reply : Fld.reply ∈ l) (h_status : Fld.status ∈ l) :
    ∀ t, execShelfData r k data s = .next t → t.but l = s.but l := by
  intro t ht
  unfold execShelfData at ht
  (try simp only [ok] at ht); (repeat' split at ht) <;> (replace ht := Host.Outcome.next.inj ht; subst ht; first
    | with_reducible rfl
    | (simp [h_nv, h_regs, h_reply, h_status, ↓State.itemLen_but, ↓State.shelfData_but, ↓State.ite_but]; done)
    | ((first
        | refine State.item_but _ _ _ _ _ _ h_regs h_reply h_status (fun s => ?_)
        | refine State.itemLen_but _ _ _ _ _ _ _ h_regs h_reply h_status (fun s => ?_)) <;> (try dsimp only) <;> (repeat' split) <;> first
      | with_reducible rfl
      | (simp [h_nv, h_regs, h_reply, h_status, ↓State.itemLen_but, ↓State.shelfData_but, ↓State.ite_but]; done)
      | (rename_i heq; have hk := congrArg (fun x => x.1.but l) heq; simp [h_nv, h_regs, h_reply, h_status, ↓State.itemLen_but, ↓State.shelfData_but, ↓State.ite_but] at hk; simp [h_nv, h_regs, h_reply, h_status, ↓State.itemLen_but, ↓State.shelfData_but, ↓State.ite_but, hk]; done)))

theorem execShelfSeal_but (r : Role) (k : Nat) (sense : Sense) (s : State) (l : List Fld) (h_events : Fld.events ∈ l) (h_granules : Fld.granules ∈ l) (h_keys : Fld.keys ∈ l) (h_nv : Fld.nv ∈ l) (h_regs : Fld.regs ∈ l) (h_reply : Fld.reply ∈ l) (h_sec : Fld.sec ∈ l) (h_sectors : Fld.sectors ∈ l) (h_status : Fld.status ∈ l) :
    ∀ t, execShelfSeal r k sense s = .next t → t.but l = s.but l := by
  intro t ht
  unfold execShelfSeal at ht
  (try simp only [ok] at ht); (repeat' split at ht) <;> (replace ht := Host.Outcome.next.inj ht; subst ht; first
    | with_reducible rfl
    | (simp [h_events, h_granules, h_keys, h_nv, h_regs, h_reply, h_sec, h_sectors, h_status, ↓State.item_but, ↓State.shelfSeal_but, ↓State.ite_but]; done)
    | ((first
        | refine State.item_but _ _ _ _ _ _ h_regs h_reply h_status (fun s => ?_)
        | refine State.itemLen_but _ _ _ _ _ _ _ h_regs h_reply h_status (fun s => ?_)) <;> (try dsimp only) <;> (repeat' split) <;> first
      | with_reducible rfl
      | (simp [h_events, h_granules, h_keys, h_nv, h_regs, h_reply, h_sec, h_sectors, h_status, ↓State.item_but, ↓State.shelfSeal_but, ↓State.ite_but]; done)
      | (rename_i heq; have hk := congrArg (fun x => x.1.but l) heq; simp [h_events, h_granules, h_keys, h_nv, h_regs, h_reply, h_sec, h_sectors, h_status, ↓State.item_but, ↓State.shelfSeal_but, ↓State.ite_but] at hk; simp [hk, h_events, h_granules, h_keys, h_nv, h_regs, h_reply, h_sec, h_sectors, h_status, ↓State.item_but, ↓State.shelfSeal_but, ↓State.ite_but]; done)))

@[simp] theorem State.switchRefuse_but (s : State) (n st : Nat) (l : List Fld) (h_events : Fld.events ∈ l) (h_regs : Fld.regs ∈ l) (h_reply : Fld.reply ∈ l) (h_status : Fld.status ∈ l) : (State.switchRefuse s n st).but l = s.but l := by
  unfold State.switchRefuse
  first
  | (simp [h_events, h_regs, h_reply, h_status, ↓State.answer_but, ↓State.raise_but, ↓State.setReg_but, ↓State.ite_but]; done)
  | ((try dsimp only); (repeat' split) <;> first
    | with_reducible rfl
    | (simp [h_events, h_regs, h_reply, h_status, ↓State.answer_but, ↓State.raise_but, ↓State.setReg_but, ↓State.ite_but]; done))

@[simp] theorem State.shelfStage_but (s : State) (n : Nat) (k : CommitKind) (good : Bool) (l : List Fld) (h_events : Fld.events ∈ l) (h_fabricFault : Fld.fabricFault ∈ l) (h_regs : Fld.regs ∈ l) (h_safeN : Fld.safeN ∈ l) (h_sets : Fld.sets ∈ l) (h_shadow : Fld.shadow ∈ l) : (State.shelfStage s n k good).1.but l = s.but l := by
  unfold State.shelfStage
  (try dsimp only); (repeat' split) <;> first
    | with_reducible rfl
    | (simp [h_events, h_fabricFault, h_regs, h_safeN, h_sets, h_shadow, ↓State.checkPhase_but, ↓State.setReg_but, ↓State.but_shadow, ↓State.ite_but]; done)
    | (rename_i heq; have hk := congrArg (fun x => x.1.but l) heq; simp [h_events, h_fabricFault, h_regs, h_safeN, h_sets, h_shadow, ↓State.checkPhase_but, ↓State.setReg_but, ↓State.but_shadow, ↓State.ite_but] at hk; simp [hk, h_events, h_fabricFault, h_regs, h_safeN, h_sets, h_shadow, ↓State.checkPhase_but, ↓State.setReg_but, ↓State.but_shadow, ↓State.ite_but]; done)

@[simp] theorem State.switchRequest_but (s : State) (n : Nat) (pin : Bool) (hw : Hw) (l : List Fld) (h_armed : Fld.armed ∈ l) (h_events : Fld.events ∈ l) (h_fabricFault : Fld.fabricFault ∈ l) (h_granules : Fld.granules ∈ l) (h_keys : Fld.keys ∈ l) (h_later : Fld.later ∈ l) (h_nv : Fld.nv ∈ l) (h_queueC : Fld.queueC ∈ l) (h_regs : Fld.regs ∈ l) (h_reply : Fld.reply ∈ l) (h_safeN : Fld.safeN ∈ l) (h_sec : Fld.sec ∈ l) (h_sectors : Fld.sectors ∈ l) (h_sets : Fld.sets ∈ l) (h_shadow : Fld.shadow ∈ l) (h_status : Fld.status ∈ l) (h_switchSt : Fld.switchSt ∈ l) (h_waits : Fld.waits ∈ l) : (State.switchRequest s n pin hw).but l = s.but l := by
  unfold State.switchRequest
  (try dsimp only); (repeat' split) <;> first
    | with_reducible rfl
    | (simp [h_armed, h_events, h_fabricFault, h_granules, h_keys, h_later, h_nv, h_queueC, h_regs, h_reply, h_safeN, h_sec, h_sectors, h_sets, h_shadow, h_status, h_switchSt, h_waits, ↓State.answer_but, ↓State.arm_but, ↓State.bump16_but, ↓State.discardSets_but, ↓State.shelfStage_but, ↓State.shelfVerify_but, ↓State.switchRefuse_but, ↓State.ite_but]; done)
    | (rename_i heq; have hk := congrArg (fun x => x.1.but l) heq; simp [h_armed, h_events, h_fabricFault, h_granules, h_keys, h_later, h_nv, h_queueC, h_regs, h_reply, h_safeN, h_sec, h_sectors, h_sets, h_shadow, h_status, h_switchSt, h_waits, ↓State.answer_but, ↓State.arm_but, ↓State.bump16_but, ↓State.discardSets_but, ↓State.shelfStage_but, ↓State.shelfVerify_but, ↓State.switchRefuse_but, ↓State.ite_but] at hk; simp [hk, h_armed, h_events, h_fabricFault, h_granules, h_keys, h_later, h_nv, h_queueC, h_regs, h_reply, h_safeN, h_sec, h_sectors, h_sets, h_shadow, h_status, h_switchSt, h_waits, ↓State.answer_but, ↓State.arm_but, ↓State.bump16_but, ↓State.discardSets_but, ↓State.shelfStage_but, ↓State.shelfVerify_but, ↓State.switchRefuse_but, ↓State.ite_but]; done)

end Sys2Proof.Machine
end

