-- ==== Sys2Proof/Laws/Keep/Retain.lean ====
section
/-! SUPPORT. The frames of the operations of Machine/Retain.lean: the parts of the state that each of them can change. -/
set_option linter.all false

namespace Sys2Proof.Machine

@[simp] theorem State.retain_but (s : State) (fresh : Bool) (l : List Fld) (h_retained : Fld.retained ∈ l) (h_supply : Fld.supply ∈ l) : (State.retain s fresh).but l = s.but l := by
  unfold State.retain
  first
  | (simp [h_retained, h_supply, State.but, ↓State.but_retained, ↓State.but_supply, ↓State.ite_but]; done)
  | ((try dsimp only); (repeat' split) <;> first
    | with_reducible rfl
    | (simp [h_retained, h_supply, State.but, ↓State.but_retained, ↓State.but_supply, ↓State.ite_but]; done))

@[simp] theorem State.restore_but (s : State) (l : List Fld) (h_clusters : Fld.clusters ∈ l) (h_entries : Fld.entries ∈ l) (h_events : Fld.events ∈ l) (h_parts : Fld.parts ∈ l) (h_regs : Fld.regs ∈ l) (h_supply : Fld.supply ∈ l) : (State.restore s).but l = s.but l := by
  unfold State.restore
  extract_lets r kept src e1 e2 e3
  have k1 : e1.but l = s.but l := by simp only [e1]; simp [State.but, h_clusters, h_entries, h_events, h_parts, h_regs, h_supply]
  clear_value e1
  have k2 : e2.but l = s.but l := by
    simp only [e2]
    exact (foldl_but _ _ _ _ (fun t x _ => State.setEntry_but _ _ _ _ h_entries)).trans k1
  clear_value e2
  have k3 : e3.but l = s.but l := by simp only [e3]; simp [h_regs, ↓State.setReg_but, ↓State.each_but, k2]
  clear_value e3
  exact (State.each_but _ _ _ _ (fun t p _ => by simp [h_parts, h_regs, ↓State.setPart_but, ↓State.setReg_but])).trans k3

@[simp] theorem State.programStops_but (s : State) (l : List Fld) (h_draws : Fld.draws ∈ l) (h_events : Fld.events ∈ l) (h_flash : Fld.flash ∈ l) (h_granules : Fld.granules ∈ l) (h_log : Fld.log ∈ l) (h_nv : Fld.nv ∈ l) (h_regs : Fld.regs ∈ l) : (State.programStops s).but l = s.but l := by
  unfold State.programStops
  (try dsimp only); (repeat' split) <;> first
    | with_reducible rfl
    | (simp [h_draws, h_events, h_flash, h_granules, h_log, h_nv, h_regs, ↓State.drawerDone_but, ↓State.drawerTorn_but, ↓State.setMarkers_but, ↓State.tear_but, ↓State.but_draws, ↓State.ite_but]; done)
    | (rename_i heq; have hk := congrArg (fun x => x.1.but l) heq; simp [h_draws, h_events, h_flash, h_granules, h_log, h_nv, h_regs, ↓State.drawerDone_but, ↓State.drawerTorn_but, ↓State.setMarkers_but, ↓State.tear_but, ↓State.but_draws, ↓State.ite_but] at hk; simp [hk, h_draws, h_events, h_flash, h_granules, h_log, h_nv, h_regs, ↓State.drawerDone_but, ↓State.drawerTorn_but, ↓State.setMarkers_but, ↓State.tear_but, ↓State.but_draws, ↓State.ite_but]; done)

@[simp] theorem State.vcoreDown_but (s : State) (l : List Fld) (h_actions : Fld.actions ∈ l) (h_active : Fld.active ∈ l) (h_armed : Fld.armed ∈ l) (h_asms : Fld.asms ∈ l) (h_caps : Fld.caps ∈ l) (h_chans : Fld.chans ∈ l) (h_clusters : Fld.clusters ∈ l) (h_committed : Fld.committed ∈ l) (h_downs : Fld.downs ∈ l) (h_draws : Fld.draws ∈ l) (h_drives : Fld.drives ∈ l) (h_ens : Fld.ens ∈ l) (h_entries : Fld.entries ∈ l) (h_events : Fld.events ∈ l) (h_fabricFault : Fld.fabricFault ∈ l) (h_flash : Fld.flash ∈ l) (h_fwWaitAt : Fld.fwWaitAt ∈ l) (h_granules : Fld.granules ∈ l) (h_groups : Fld.groups ∈ l) (h_host : Fld.host ∈ l) (h_inbox : Fld.inbox ∈ l) (h_islandBad : Fld.islandBad ∈ l) (h_latches : Fld.latches ∈ l) (h_later : Fld.later ∈ l) (h_ledger : Fld.ledger ∈ l) (h_log : Fld.log ∈ l) (h_mgmtDown : Fld.mgmtDown ∈ l) (h_nv : Fld.nv ∈ l) (h_parts : Fld.parts ∈ l) (h_peerOut : Fld.peerOut ∈ l) (h_peerReq : Fld.peerReq ∈ l) (h_peerReqsAt : Fld.peerReqsAt ∈ l) (h_peerTries : Fld.peerTries ∈ l) (h_ports : Fld.ports ∈ l) (h_prior : Fld.prior ∈ l) (h_queueC : Fld.queueC ∈ l) (h_regs : Fld.regs ∈ l) (h_safeN : Fld.safeN ∈ l) (h_sec : Fld.sec ∈ l) (h_sessNext : Fld.sessNext ∈ l) (h_sessions : Fld.sessions ∈ l) (h_sets : Fld.sets ∈ l) (h_shadow : Fld.shadow ∈ l) (h_stalled : Fld.stalled ∈ l) (h_streams : Fld.streams ∈ l) (h_supply : Fld.supply ∈ l) (h_svc : Fld.svc ∈ l) (h_switchSt : Fld.switchSt ∈ l) (h_t1sSleep : Fld.t1sSleep ∈ l) (h_thermal : Fld.thermal ∈ l) (h_trestle : Fld.trestle ∈ l) (h_trims : Fld.trims ∈ l) (h_waitMaint : Fld.waitMaint ∈ l) (h_waits : Fld.waits ∈ l) : (State.vcoreDown s).but l = s.but l := by
  unfold State.vcoreDown
  extract_lets a live
  have ka : a.but l = s.but l := by
    simp only [a]
    rw [State.each_but _ _ _ _ (fun t p _ => by simp [State.keepMerge_but, h_actions, h_active, h_armed, h_asms, h_caps, h_chans, h_clusters, h_committed, h_downs, h_draws, h_drives, h_ens, h_entries, h_events, h_fabricFault, h_flash, h_fwWaitAt, h_granules, h_groups, h_host, h_inbox, h_islandBad, h_latches, h_later, h_ledger, h_log, h_mgmtDown, h_nv, h_parts, h_peerOut, h_peerReq, h_peerReqsAt, h_peerTries, h_ports, h_prior, h_queueC, h_regs, h_safeN, h_sec, h_sessNext, h_sessions, h_sets, h_shadow, h_stalled, h_streams, h_supply, h_svc, h_switchSt, h_t1sSleep, h_thermal, h_trestle, h_trims, h_waitMaint, h_waits])]
    simp [State.programStops_but, h_actions, h_active, h_armed, h_asms, h_caps, h_chans, h_clusters, h_committed, h_downs, h_draws, h_drives, h_ens, h_entries, h_events, h_fabricFault, h_flash, h_fwWaitAt, h_granules, h_groups, h_host, h_inbox, h_islandBad, h_latches, h_later, h_ledger, h_log, h_mgmtDown, h_nv, h_parts, h_peerOut, h_peerReq, h_peerReqsAt, h_peerTries, h_ports, h_prior, h_queueC, h_regs, h_safeN, h_sec, h_sessNext, h_sessions, h_sets, h_shadow, h_stalled, h_streams, h_supply, h_svc, h_switchSt, h_t1sSleep, h_thermal, h_trestle, h_trims, h_waitMaint, h_waits]
  clear_value a
  refine Eq.trans ?_ ka
  simp [State.but, h_actions, h_active, h_armed, h_asms, h_caps, h_chans, h_clusters, h_committed, h_downs, h_draws, h_drives, h_ens, h_entries, h_events, h_fabricFault, h_flash, h_fwWaitAt, h_granules, h_groups, h_host, h_inbox, h_islandBad, h_latches, h_later, h_ledger, h_log, h_mgmtDown, h_nv, h_parts, h_peerOut, h_peerReq, h_peerReqsAt, h_peerTries, h_ports, h_prior, h_queueC, h_regs, h_safeN, h_sec, h_sessNext, h_sessions, h_sets, h_shadow, h_stalled, h_streams, h_supply, h_svc, h_switchSt, h_t1sSleep, h_thermal, h_trestle, h_trims, h_waitMaint, h_waits]

@[simp] theorem State.coldStart_but (s : State) (l : List Fld) (h_actions : Fld.actions ∈ l) (h_active : Fld.active ∈ l) (h_armed : Fld.armed ∈ l) (h_asms : Fld.asms ∈ l) (h_caps : Fld.caps ∈ l) (h_chans : Fld.chans ∈ l) (h_clusters : Fld.clusters ∈ l) (h_committed : Fld.committed ∈ l) (h_downs : Fld.downs ∈ l) (h_drives : Fld.drives ∈ l) (h_ens : Fld.ens ∈ l) (h_entries : Fld.entries ∈ l) (h_events : Fld.events ∈ l) (h_fabricFault : Fld.fabricFault ∈ l) (h_fwWaitAt : Fld.fwWaitAt ∈ l) (h_groups : Fld.groups ∈ l) (h_host : Fld.host ∈ l) (h_inbox : Fld.inbox ∈ l) (h_islandBad : Fld.islandBad ∈ l) (h_keys : Fld.keys ∈ l) (h_latches : Fld.latches ∈ l) (h_later : Fld.later ∈ l) (h_ledger : Fld.ledger ∈ l) (h_log : Fld.log ∈ l) (h_mgmtDown : Fld.mgmtDown ∈ l) (h_now : Fld.now ∈ l) (h_nv : Fld.nv ∈ l) (h_parts : Fld.parts ∈ l) (h_peerOut : Fld.peerOut ∈ l) (h_peerReq : Fld.peerReq ∈ l) (h_peerReqsAt : Fld.peerReqsAt ∈ l) (h_peerTries : Fld.peerTries ∈ l) (h_ports : Fld.ports ∈ l) (h_prior : Fld.prior ∈ l) (h_queueC : Fld.queueC ∈ l) (h_refFailAt : Fld.refFailAt ∈ l) (h_regs : Fld.regs ∈ l) (h_reply : Fld.reply ∈ l) (h_retained : Fld.retained ∈ l) (h_safeN : Fld.safeN ∈ l) (h_sec : Fld.sec ∈ l) (h_sessNext : Fld.sessNext ∈ l) (h_sessions : Fld.sessions ∈ l) (h_sets : Fld.sets ∈ l) (h_shadow : Fld.shadow ∈ l) (h_stalled : Fld.stalled ∈ l) (h_status : Fld.status ∈ l) (h_streams : Fld.streams ∈ l) (h_supply : Fld.supply ∈ l) (h_svc : Fld.svc ∈ l) (h_switchSt : Fld.switchSt ∈ l) (h_t1sSleep : Fld.t1sSleep ∈ l) (h_thermal : Fld.thermal ∈ l) (h_timeFree : Fld.timeFree ∈ l) (h_trestle : Fld.trestle ∈ l) (h_trims : Fld.trims ∈ l) (h_waitMaint : Fld.waitMaint ∈ l) (h_waits : Fld.waits ∈ l) : (State.coldStart s).but l = s.but l := by
  unfold State.coldStart
  simp [State.but, h_actions, h_active, h_armed, h_asms, h_caps, h_chans, h_clusters, h_committed, h_downs, h_drives, h_ens, h_entries, h_events, h_fabricFault, h_fwWaitAt, h_groups, h_host, h_inbox, h_islandBad, h_keys, h_latches, h_later, h_ledger, h_log, h_mgmtDown, h_now, h_nv, h_parts, h_peerOut, h_peerReq, h_peerReqsAt, h_peerTries, h_ports, h_prior, h_queueC, h_refFailAt, h_regs, h_reply, h_retained, h_safeN, h_sec, h_sessNext, h_sessions, h_sets, h_shadow, h_stalled, h_status, h_streams, h_supply, h_svc, h_switchSt, h_t1sSleep, h_thermal, h_timeFree, h_trestle, h_trims, h_waitMaint, h_waits]

end Sys2Proof.Machine
end

