-- ==== Sys2Proof/Laws/Keep/Boot.lean ====
section
/-! SUPPORT. The frames of the operations of Machine/Boot.lean: the parts of the state that each of them can change. -/
set_option linter.all false

namespace Sys2Proof.Machine

@[simp] theorem State.runBank_but (s : State) (b check : Nat) (l : List Fld) (h_events : Fld.events ∈ l) (h_regs : Fld.regs ∈ l) (h_sec : Fld.sec ∈ l) : (State.runBank s b check).but l = s.but l := by
  unfold State.runBank
  simp [h_events, h_regs, h_sec, ↓State.raise_but, ↓State.setReg_but, ↓State.but_sec, ↓State.ite_but]

@[simp] theorem State.stayInRom_but (s : State) (l : List Fld) (h_mgmtDown : Fld.mgmtDown ∈ l) (h_sec : Fld.sec ∈ l) : (State.stayInRom s).but l = s.but l := by
  unfold State.stayInRom
  (try dsimp only); (repeat' split) <;> first
    | with_reducible rfl
    | (simp [State.but, h_mgmtDown, h_sec]; done)

@[simp] theorem State.tryShelf_but (s : State) (n : Nat) (hw : Hw) (l : List Fld) (h_armed : Fld.armed ∈ l) (h_events : Fld.events ∈ l) (h_fabricFault : Fld.fabricFault ∈ l) (h_granules : Fld.granules ∈ l) (h_keys : Fld.keys ∈ l) (h_nv : Fld.nv ∈ l) (h_regs : Fld.regs ∈ l) (h_safeN : Fld.safeN ∈ l) (h_sec : Fld.sec ∈ l) (h_sectors : Fld.sectors ∈ l) (h_sets : Fld.sets ∈ l) (h_shadow : Fld.shadow ∈ l) (h_switchSt : Fld.switchSt ∈ l) : (State.tryShelf s n hw).1.but l = s.but l := by
  unfold State.tryShelf
  (try dsimp only); (repeat' split) <;> first
    | with_reducible rfl
    | (simp [h_armed, h_events, h_fabricFault, h_granules, h_keys, h_nv, h_regs, h_safeN, h_sec, h_sectors, h_sets, h_shadow, h_switchSt, ↓State.arm_but, ↓State.setReg_but, ↓State.shelfStage_but, ↓State.shelfVerify_but, ↓State.ite_but]; done)
    | (rename_i heq; have hk := congrArg (fun x => x.1.but l) heq; simp [h_armed, h_events, h_fabricFault, h_granules, h_keys, h_nv, h_regs, h_safeN, h_sec, h_sectors, h_sets, h_shadow, h_switchSt, ↓State.arm_but, ↓State.setReg_but, ↓State.shelfStage_but, ↓State.shelfVerify_but, ↓State.ite_but] at hk; simp [hk, h_armed, h_events, h_fabricFault, h_granules, h_keys, h_nv, h_regs, h_safeN, h_sec, h_sectors, h_sets, h_shadow, h_switchSt, ↓State.arm_but, ↓State.setReg_but, ↓State.shelfStage_but, ↓State.shelfVerify_but, ↓State.ite_but]; done)

@[simp] theorem State.tryFallback_but (s : State) (hw : Hw) (l : List Fld) (h_armed : Fld.armed ∈ l) (h_events : Fld.events ∈ l) (h_fabricFault : Fld.fabricFault ∈ l) (h_granules : Fld.granules ∈ l) (h_keys : Fld.keys ∈ l) (h_nv : Fld.nv ∈ l) (h_regs : Fld.regs ∈ l) (h_safeN : Fld.safeN ∈ l) (h_sec : Fld.sec ∈ l) (h_sectors : Fld.sectors ∈ l) (h_sets : Fld.sets ∈ l) (h_shadow : Fld.shadow ∈ l) (h_switchSt : Fld.switchSt ∈ l) : (State.tryFallback s hw).but l = s.but l := by
  unfold State.tryFallback
  simp [h_armed, h_events, h_fabricFault, h_granules, h_keys, h_nv, h_regs, h_safeN, h_sec, h_sectors, h_sets, h_shadow, h_switchSt, ↓State.fallbackEvent_but, ↓State.tryShelf_but, ↓State.ite_but]

@[simp] theorem State.loadProfile_but (s : State) (hw : Hw) (l : List Fld) (h_armed : Fld.armed ∈ l) (h_events : Fld.events ∈ l) (h_fabricFault : Fld.fabricFault ∈ l) (h_granules : Fld.granules ∈ l) (h_keys : Fld.keys ∈ l) (h_nv : Fld.nv ∈ l) (h_regs : Fld.regs ∈ l) (h_safeN : Fld.safeN ∈ l) (h_sec : Fld.sec ∈ l) (h_sectors : Fld.sectors ∈ l) (h_sets : Fld.sets ∈ l) (h_shadow : Fld.shadow ∈ l) (h_switchSt : Fld.switchSt ∈ l) : (State.loadProfile s hw).but l = s.but l := by
  unfold State.loadProfile
  simp [h_armed, h_events, h_fabricFault, h_granules, h_keys, h_nv, h_regs, h_safeN, h_sec, h_sectors, h_sets, h_shadow, h_switchSt, ↓State.tryFallback_but, ↓State.tryShelf_but, ↓State.ite_but]

@[simp] theorem State.powerUpAbandoned_but (s : State) (n : Nat) (hw : Hw) (l : List Fld) (h_armed : Fld.armed ∈ l) (h_events : Fld.events ∈ l) (h_fabricFault : Fld.fabricFault ∈ l) (h_granules : Fld.granules ∈ l) (h_keys : Fld.keys ∈ l) (h_nv : Fld.nv ∈ l) (h_regs : Fld.regs ∈ l) (h_safeN : Fld.safeN ∈ l) (h_sec : Fld.sec ∈ l) (h_sectors : Fld.sectors ∈ l) (h_sets : Fld.sets ∈ l) (h_shadow : Fld.shadow ∈ l) (h_supply : Fld.supply ∈ l) (h_switchSt : Fld.switchSt ∈ l) : (State.powerUpAbandoned s n hw).but l = s.but l := by
  unfold State.powerUpAbandoned
  first
  | (simp [h_armed, h_events, h_fabricFault, h_granules, h_keys, h_nv, h_regs, h_safeN, h_sec, h_sectors, h_sets, h_shadow, h_supply, h_switchSt, ↓State.fallbackEvent_but, ↓State.tryFallback_but, ↓State.but_supply, ↓State.ite_but]; done)
  | ((try dsimp only); (repeat' split) <;> first
    | with_reducible rfl
    | (simp [h_armed, h_events, h_fabricFault, h_granules, h_keys, h_nv, h_regs, h_safeN, h_sec, h_sectors, h_sets, h_shadow, h_supply, h_switchSt, ↓State.fallbackEvent_but, ↓State.tryFallback_but, ↓State.but_supply, ↓State.ite_but]; done))

@[simp] theorem State.loadOn_but (s : State) (l : List Fld) (h_armed : Fld.armed ∈ l) (h_events : Fld.events ∈ l) (h_fabricFault : Fld.fabricFault ∈ l) (h_granules : Fld.granules ∈ l) (h_keys : Fld.keys ∈ l) (h_nv : Fld.nv ∈ l) (h_regs : Fld.regs ∈ l) (h_safeN : Fld.safeN ∈ l) (h_sec : Fld.sec ∈ l) (h_sectors : Fld.sectors ∈ l) (h_sets : Fld.sets ∈ l) (h_shadow : Fld.shadow ∈ l) (h_supply : Fld.supply ∈ l) (h_switchSt : Fld.switchSt ∈ l) : (State.loadOn s).but l = s.but l := by
  unfold State.loadOn
  first
  | (simp [h_armed, h_events, h_fabricFault, h_granules, h_keys, h_nv, h_regs, h_safeN, h_sec, h_sectors, h_sets, h_shadow, h_supply, h_switchSt, ↓State.powerUpAbandoned_but, ↓State.but_supply, ↓State.ite_but]; done)
  | ((try dsimp only); (repeat' split) <;> first
    | with_reducible rfl
    | (simp [h_armed, h_events, h_fabricFault, h_granules, h_keys, h_nv, h_regs, h_safeN, h_sec, h_sectors, h_sets, h_shadow, h_supply, h_switchSt, ↓State.powerUpAbandoned_but, ↓State.but_supply, ↓State.ite_but]; done)
    | (rename_i heq; have hk := congrArg (fun x => x.1.but l) heq; simp [h_armed, h_events, h_fabricFault, h_granules, h_keys, h_nv, h_regs, h_safeN, h_sec, h_sectors, h_sets, h_shadow, h_supply, h_switchSt, ↓State.powerUpAbandoned_but, ↓State.but_supply, ↓State.ite_but] at hk; simp [h_armed, h_events, h_fabricFault, h_granules, h_keys, h_nv, h_regs, h_safeN, h_sec, h_sectors, h_sets, h_shadow, h_supply, h_switchSt, ↓State.powerUpAbandoned_but, ↓State.but_supply, ↓State.ite_but, hk]; done))

@[simp] theorem State.sweepsReset_but (s : State) (l : List Fld) (h_caps : Fld.caps ∈ l) (h_chans : Fld.chans ∈ l) (h_entries : Fld.entries ∈ l) (h_events : Fld.events ∈ l) (h_parts : Fld.parts ∈ l) (h_regs : Fld.regs ∈ l) (h_trims : Fld.trims ∈ l) (h_waitMaint : Fld.waitMaint ∈ l) : (State.sweepsReset s).but l = s.but l := by
  unfold State.sweepsReset
  first
  | (simp [h_caps, h_chans, h_entries, h_events, h_parts, h_regs, h_trims, h_waitMaint, ↓State.marginOff_but, ↓State.setPart_but, ↓State.sweepEnd_but, ↓State.each_but, ↓State.ite_but]; done)
  | ((try dsimp only); (repeat' split) <;> first
    | with_reducible rfl
    | (simp [h_caps, h_chans, h_entries, h_events, h_parts, h_regs, h_trims, h_waitMaint, ↓State.marginOff_but, ↓State.setPart_but, ↓State.sweepEnd_but, ↓State.each_but, ↓State.ite_but]; done)
    | (refine (State.each_but _ _ _ _ (fun s x _ => ?_)).trans ?_ <;> (try dsimp only) <;> (repeat' split) <;> first
      | with_reducible rfl
      | (simp [h_caps, h_chans, h_entries, h_events, h_parts, h_regs, h_trims, h_waitMaint, ↓State.marginOff_but, ↓State.setPart_but, ↓State.sweepEnd_but, ↓State.each_but, ↓State.ite_but]; done)))

@[simp] theorem State.workReset_but (s : State) (l : List Fld) (h_regs : Fld.regs ∈ l) : (State.workReset s).but l = s.but l := by
  unfold State.workReset
  simp [h_regs, ↓State.setReg_but, ↓State.each_but, ↓State.ite_but]

@[simp] theorem State.switchStops_but (s : State) (l : List Fld) (h_armed : Fld.armed ∈ l) (h_later : Fld.later ∈ l) (h_regs : Fld.regs ∈ l) (h_shadow : Fld.shadow ∈ l) (h_supply : Fld.supply ∈ l) (h_switchSt : Fld.switchSt ∈ l) : (State.switchStops s).but l = s.but l := by
  unfold State.switchStops
  split
  · split
    · rw [State.setReg_but _ _ _ _ h_regs]
      simp [State.but, h_armed, h_later, h_regs, h_shadow, h_supply, h_switchSt]
    · rfl
  · rfl

@[simp] theorem State.mgmtReset_but (s : State) (code : Nat) (l : List Fld) (h_armed : Fld.armed ∈ l) (h_asms : Fld.asms ∈ l) (h_caps : Fld.caps ∈ l) (h_chans : Fld.chans ∈ l) (h_entries : Fld.entries ∈ l) (h_events : Fld.events ∈ l) (h_fwWaitAt : Fld.fwWaitAt ∈ l) (h_host : Fld.host ∈ l) (h_inbox : Fld.inbox ∈ l) (h_later : Fld.later ∈ l) (h_ledger : Fld.ledger ∈ l) (h_mgmtDown : Fld.mgmtDown ∈ l) (h_parts : Fld.parts ∈ l) (h_peerReq : Fld.peerReq ∈ l) (h_queueC : Fld.queueC ∈ l) (h_regs : Fld.regs ∈ l) (h_sec : Fld.sec ∈ l) (h_sessions : Fld.sessions ∈ l) (h_sets : Fld.sets ∈ l) (h_shadow : Fld.shadow ∈ l) (h_supply : Fld.supply ∈ l) (h_svc : Fld.svc ∈ l) (h_switchSt : Fld.switchSt ∈ l) (h_trims : Fld.trims ∈ l) (h_waitMaint : Fld.waitMaint ∈ l) (h_waits : Fld.waits ∈ l) : (State.mgmtReset s code).but l = s.but l := by
  unfold State.mgmtReset
  extract_lets e1 e2
  have k1 : e1.but l = s.but l := by simp only [e1]; simp [h_armed, h_asms, h_caps, h_chans, h_entries, h_events, h_fwWaitAt, h_host, h_inbox, h_later, h_ledger, h_mgmtDown, h_parts, h_peerReq, h_queueC, h_regs, h_sec, h_sessions, h_sets, h_shadow, h_supply, h_svc, h_switchSt, h_trims, h_waitMaint, h_waits, ↓State.bump16_but, ↓State.setReg_but, ↓State.switchStops_but]
  clear_value e1
  have k2 : e2.but l = s.but l := by simp only [e2]; simp [h_armed, h_asms, h_caps, h_chans, h_entries, h_events, h_fwWaitAt, h_host, h_inbox, h_later, h_ledger, h_mgmtDown, h_parts, h_peerReq, h_queueC, h_regs, h_sec, h_sessions, h_sets, h_shadow, h_supply, h_svc, h_switchSt, h_trims, h_waitMaint, h_waits, ↓State.workReset_but, ↓State.sweepsReset_but, ↓State.discardSets_but, k1]
  clear_value e2
  refine Eq.trans ?_ k2
  simp [State.but, h_armed, h_asms, h_caps, h_chans, h_entries, h_events, h_fwWaitAt, h_host, h_inbox, h_later, h_ledger, h_mgmtDown, h_parts, h_peerReq, h_queueC, h_regs, h_sec, h_sessions, h_sets, h_shadow, h_supply, h_svc, h_switchSt, h_trims, h_waitMaint, h_waits]

@[simp] theorem State.deliverQueue_but (s : State) (dom : Nat) (l : List Fld) (h_events : Fld.events ∈ l) (h_regs : Fld.regs ∈ l) : (State.deliverQueue s dom).but l = s.but l := by
  unfold State.deliverQueue
  extract_lets q gap a
  have ka : a.but l = s.but l := by simp only [a]; simp [State.but, h_events, h_regs]
  clear_value a
  exact (foldl_but _ _ _ _ (fun s e _ => State.ringEnter_but _ _ _ h_events h_regs)).trans ka

@[simp] theorem State.deliverHeld_but (s : State) (l : List Fld) (h_events : Fld.events ∈ l) (h_later : Fld.later ∈ l) (h_regs : Fld.regs ∈ l) : (State.deliverHeld s).but l = s.but l := by
  unfold State.deliverHeld
  first
  | (simp [h_events, h_later, h_regs, ↓State.deliverQueue_but, ↓State.ringEnter_but, ↓State.but_later, ↓State.each_but, foldl_but, ↓State.ite_but]; done)
  | ((try dsimp only); (repeat' split) <;> first
    | with_reducible rfl
    | (simp [h_events, h_later, h_regs, ↓State.deliverQueue_but, ↓State.ringEnter_but, ↓State.but_later, ↓State.each_but, foldl_but, ↓State.ite_but]; done)
    | (refine (State.each_but _ _ _ _ (fun s x _ => ?_)).trans ?_ <;> (try dsimp only) <;> (repeat' split) <;> first
      | with_reducible rfl
      | (simp [h_events, h_later, h_regs, ↓State.deliverQueue_but, ↓State.ringEnter_but, ↓State.but_later, ↓State.each_but, foldl_but, ↓State.ite_but]; done)))

@[simp] theorem State.shiftGrace_but (s : State) (l : List Fld) (h_regs : Fld.regs ∈ l) : (State.shiftGrace s).but l = s.but l := by
  unfold State.shiftGrace
  first
  | (simp [h_regs, ↓State.setReg_but, ↓State.each_but, ↓State.ite_but]; done)
  | ((try dsimp only); (repeat' split) <;> first
    | with_reducible rfl
    | (simp [h_regs, ↓State.setReg_but, ↓State.each_but, ↓State.ite_but]; done)
    | (refine (State.each_but _ _ _ _ (fun s x _ => ?_)).trans ?_ <;> (try dsimp only) <;> (repeat' split) <;> first
      | with_reducible rfl
      | (simp [h_regs, ↓State.setReg_but, ↓State.each_but, ↓State.ite_but]; done)))

@[simp] theorem State.resumeTimers_but (s : State) (l : List Fld) (h_parts : Fld.parts ∈ l) (h_regs : Fld.regs ∈ l) (h_thermal : Fld.thermal ∈ l) : (State.resumeTimers s).but l = s.but l := by
  unfold State.resumeTimers
  first
  | (simp [h_parts, h_regs, h_thermal, ↓State.setPart_but, ↓State.shiftGrace_but, ↓State.but_thermal, ↓State.each_but, ↓State.ite_but]; done)
  | ((try dsimp only); (repeat' split) <;> first
    | with_reducible rfl
    | (simp [h_parts, h_regs, h_thermal, ↓State.setPart_but, ↓State.shiftGrace_but, ↓State.but_thermal, ↓State.each_but, ↓State.ite_but]; done)
    | (refine (State.each_but _ _ _ _ (fun s x _ => ?_)).trans ?_ <;> (try dsimp only) <;> (repeat' split) <;> first
      | with_reducible rfl
      | (simp [h_parts, h_regs, h_thermal, ↓State.setPart_but, ↓State.shiftGrace_but, ↓State.but_thermal, ↓State.each_but, ↓State.ite_but]; done)))

@[simp] theorem State.mgmtUp_but (s : State) (l : List Fld) (h_mgmtDown : Fld.mgmtDown ∈ l) (h_regs : Fld.regs ∈ l) (h_sec : Fld.sec ∈ l) (h_svc : Fld.svc ∈ l) : (State.mgmtUp s).but l = s.but l := by
  unfold State.mgmtUp
  first
  | (simp [State.but, h_mgmtDown, h_regs, h_sec, h_svc, ↓State.setReg_but, State.but, ↓State.but_mgmtDown, ↓State.but_sec, ↓State.but_svc, ↓State.ite_but]; done)
  | ((try dsimp only); (repeat' split) <;> first
    | with_reducible rfl
    | (simp [State.but, h_mgmtDown, h_regs, h_sec, h_svc, ↓State.setReg_but, State.but, ↓State.but_mgmtDown, ↓State.but_sec, ↓State.but_svc, ↓State.ite_but]; done))

@[simp] theorem State.resumeIn_but (s : State) (b check : Nat) (l : List Fld) (h_armed : Fld.armed ∈ l) (h_events : Fld.events ∈ l) (h_fabricFault : Fld.fabricFault ∈ l) (h_granules : Fld.granules ∈ l) (h_keys : Fld.keys ∈ l) (h_later : Fld.later ∈ l) (h_mgmtDown : Fld.mgmtDown ∈ l) (h_nv : Fld.nv ∈ l) (h_parts : Fld.parts ∈ l) (h_regs : Fld.regs ∈ l) (h_safeN : Fld.safeN ∈ l) (h_sec : Fld.sec ∈ l) (h_sectors : Fld.sectors ∈ l) (h_sets : Fld.sets ∈ l) (h_shadow : Fld.shadow ∈ l) (h_supply : Fld.supply ∈ l) (h_svc : Fld.svc ∈ l) (h_switchSt : Fld.switchSt ∈ l) (h_thermal : Fld.thermal ∈ l) : (State.resumeIn s b check).but l = s.but l := by
  unfold State.resumeIn
  first
  | (simp [h_armed, h_events, h_fabricFault, h_granules, h_keys, h_later, h_mgmtDown, h_nv, h_parts, h_regs, h_safeN, h_sec, h_sectors, h_sets, h_shadow, h_supply, h_svc, h_switchSt, h_thermal, ↓State.deliverHeld_but, ↓State.loadOn_but, ↓State.mgmtUp_but, ↓State.raise_but, ↓State.resumeTimers_but, ↓State.runBank_but, ↓State.setReg_but, ↓State.ite_but]; done)
  | ((try dsimp only); (repeat' split) <;> first
    | with_reducible rfl
    | (simp [h_armed, h_events, h_fabricFault, h_granules, h_keys, h_later, h_mgmtDown, h_nv, h_parts, h_regs, h_safeN, h_sec, h_sectors, h_sets, h_shadow, h_supply, h_svc, h_switchSt, h_thermal, ↓State.deliverHeld_but, ↓State.loadOn_but, ↓State.mgmtUp_but, ↓State.raise_but, ↓State.resumeTimers_but, ↓State.runBank_but, ↓State.setReg_but, ↓State.ite_but]; done))

theorem execMgmtResume_but (s : State) (l : List Fld) (h_armed : Fld.armed ∈ l) (h_events : Fld.events ∈ l) (h_fabricFault : Fld.fabricFault ∈ l) (h_granules : Fld.granules ∈ l) (h_keys : Fld.keys ∈ l) (h_later : Fld.later ∈ l) (h_mgmtDown : Fld.mgmtDown ∈ l) (h_nv : Fld.nv ∈ l) (h_parts : Fld.parts ∈ l) (h_regs : Fld.regs ∈ l) (h_safeN : Fld.safeN ∈ l) (h_sec : Fld.sec ∈ l) (h_sectors : Fld.sectors ∈ l) (h_sets : Fld.sets ∈ l) (h_shadow : Fld.shadow ∈ l) (h_supply : Fld.supply ∈ l) (h_svc : Fld.svc ∈ l) (h_switchSt : Fld.switchSt ∈ l) (h_thermal : Fld.thermal ∈ l) :
    ∀ t, execMgmtResume s = .next t → t.but l = s.but l := by
  intro t ht
  unfold execMgmtResume at ht
  (try simp only [ok] at ht); (repeat' split at ht) <;> (replace ht := Host.Outcome.next.inj ht; subst ht; first
    | with_reducible rfl
    | (simp [h_armed, h_events, h_fabricFault, h_granules, h_keys, h_later, h_mgmtDown, h_nv, h_parts, h_regs, h_safeN, h_sec, h_sectors, h_sets, h_shadow, h_supply, h_svc, h_switchSt, h_thermal, ↓State.resumeIn_but, ↓State.stayInRom_but, ↓State.ite_but]; done)
    | (rename_i heq; have hk := congrArg (fun x => x.1.but l) heq; simp [h_armed, h_events, h_fabricFault, h_granules, h_keys, h_later, h_mgmtDown, h_nv, h_parts, h_regs, h_safeN, h_sec, h_sectors, h_sets, h_shadow, h_supply, h_svc, h_switchSt, h_thermal, ↓State.resumeIn_but, ↓State.stayInRom_but, ↓State.ite_but] at hk; simp [hk, h_armed, h_events, h_fabricFault, h_granules, h_keys, h_later, h_mgmtDown, h_nv, h_parts, h_regs, h_safeN, h_sec, h_sectors, h_sets, h_shadow, h_supply, h_svc, h_switchSt, h_thermal, ↓State.resumeIn_but, ↓State.stayInRom_but, ↓State.ite_but]; done))

theorem execBootRetry_but (hw : Hw) (s : State) (l : List Fld) (h_armed : Fld.armed ∈ l) (h_events : Fld.events ∈ l) (h_fabricFault : Fld.fabricFault ∈ l) (h_granules : Fld.granules ∈ l) (h_keys : Fld.keys ∈ l) (h_later : Fld.later ∈ l) (h_mgmtDown : Fld.mgmtDown ∈ l) (h_nv : Fld.nv ∈ l) (h_parts : Fld.parts ∈ l) (h_regs : Fld.regs ∈ l) (h_safeN : Fld.safeN ∈ l) (h_sec : Fld.sec ∈ l) (h_sectors : Fld.sectors ∈ l) (h_sets : Fld.sets ∈ l) (h_shadow : Fld.shadow ∈ l) (h_supply : Fld.supply ∈ l) (h_svc : Fld.svc ∈ l) (h_switchSt : Fld.switchSt ∈ l) (h_thermal : Fld.thermal ∈ l) :
    ∀ t, execBootRetry hw s = .next t → t.but l = s.but l := by
  intro t ht
  unfold execBootRetry at ht
  (try simp only [ok] at ht); (repeat' split at ht) <;> (replace ht := Host.Outcome.next.inj ht; subst ht; first
    | with_reducible rfl
    | (simp [h_armed, h_events, h_fabricFault, h_granules, h_keys, h_later, h_mgmtDown, h_nv, h_parts, h_regs, h_safeN, h_sec, h_sectors, h_sets, h_shadow, h_supply, h_svc, h_switchSt, h_thermal, ↓State.deliverHeld_but, ↓State.loadProfile_but, ↓State.mgmtUp_but, ↓State.resumeIn_but, ↓State.runBank_but, ↓State.stayInRom_but, ↓State.ite_but]; done)
    | (rename_i heq; have hk := congrArg (fun x => x.1.but l) heq; simp [h_armed, h_events, h_fabricFault, h_granules, h_keys, h_later, h_mgmtDown, h_nv, h_parts, h_regs, h_safeN, h_sec, h_sectors, h_sets, h_shadow, h_supply, h_svc, h_switchSt, h_thermal, ↓State.deliverHeld_but, ↓State.loadProfile_but, ↓State.mgmtUp_but, ↓State.resumeIn_but, ↓State.runBank_but, ↓State.stayInRom_but, ↓State.ite_but] at hk; simp [hk, h_armed, h_events, h_fabricFault, h_granules, h_keys, h_later, h_mgmtDown, h_nv, h_parts, h_regs, h_safeN, h_sec, h_sectors, h_sets, h_shadow, h_supply, h_svc, h_switchSt, h_thermal, ↓State.deliverHeld_but, ↓State.loadProfile_but, ↓State.mgmtUp_but, ↓State.resumeIn_but, ↓State.runBank_but, ↓State.stayInRom_but, ↓State.ite_but]; done))

end Sys2Proof.Machine
end

