-- ==== Sys2Proof/Laws/Keep/Channels.lean ====
section
/-! SUPPORT. The frames of the operations of Machine/Channels.lean: the parts of the state that each of them can change. -/
set_option linter.all false

namespace Sys2Proof.Machine

@[simp] theorem State.exitUnjoined_but (s : State) (c : Nat) (l : List Fld) (h_caps : Fld.caps ∈ l) (h_chans : Fld.chans ∈ l) (h_entries : Fld.entries ∈ l) (h_regs : Fld.regs ∈ l) (h_trims : Fld.trims ∈ l) : (State.exitUnjoined s c).but l = s.but l := by
  unfold State.exitUnjoined
  first
  | (simp [h_caps, h_chans, h_entries, h_regs, h_trims, ↓State.bump16_but, ↓State.markTick_but, ↓State.toState_but, ↓State.ite_but]; done)
  | ((try dsimp only); (repeat' split) <;> first
    | with_reducible rfl
    | (simp [h_caps, h_chans, h_entries, h_regs, h_trims, ↓State.bump16_but, ↓State.markTick_but, ↓State.toState_but, ↓State.ite_but]; done)
    | (rename_i heq; have hk := congrArg (fun x => x.1.but l) heq; simp [h_caps, h_chans, h_entries, h_regs, h_trims, ↓State.bump16_but, ↓State.markTick_but, ↓State.toState_but, ↓State.ite_but] at hk; simp [h_caps, h_chans, h_entries, h_regs, h_trims, ↓State.bump16_but, ↓State.markTick_but, ↓State.toState_but, ↓State.ite_but, hk]; done))

@[simp] theorem State.windowExit_but (s : State) (c : Nat) (side : Side) (l : List Fld) (h_actions : Fld.actions ∈ l) (h_caps : Fld.caps ∈ l) (h_chans : Fld.chans ∈ l) (h_clusters : Fld.clusters ∈ l) (h_drives : Fld.drives ∈ l) (h_ens : Fld.ens ∈ l) (h_entries : Fld.entries ∈ l) (h_events : Fld.events ∈ l) (h_groups : Fld.groups ∈ l) (h_latches : Fld.latches ∈ l) (h_parts : Fld.parts ∈ l) (h_ports : Fld.ports ∈ l) (h_regs : Fld.regs ∈ l) (h_safeN : Fld.safeN ∈ l) (h_trims : Fld.trims ∈ l) (h_waitMaint : Fld.waitMaint ∈ l) : (State.windowExit s c side).but l = s.but l := by
  unfold State.windowExit
  first
  | (simp [h_actions, h_caps, h_chans, h_clusters, h_drives, h_ens, h_entries, h_events, h_groups, h_latches, h_parts, h_ports, h_regs, h_safeN, h_trims, h_waitMaint, ↓State.exitUnjoined_but, ↓State.noteCap_but, ↓State.setChan_but, ↓State.trip_but, ↓State.ite_but]; done)
  | ((try dsimp only); (repeat' split) <;> first
    | with_reducible rfl
    | (simp [h_actions, h_caps, h_chans, h_clusters, h_drives, h_ens, h_entries, h_events, h_groups, h_latches, h_parts, h_ports, h_regs, h_safeN, h_trims, h_waitMaint, ↓State.exitUnjoined_but, ↓State.noteCap_but, ↓State.setChan_but, ↓State.trip_but, ↓State.ite_but]; done))

@[simp] theorem State.exitAt_but (s : State) (c : Nat) (side : Side) (l : List Fld) (h_actions : Fld.actions ∈ l) (h_caps : Fld.caps ∈ l) (h_chans : Fld.chans ∈ l) (h_clusters : Fld.clusters ∈ l) (h_drives : Fld.drives ∈ l) (h_ens : Fld.ens ∈ l) (h_entries : Fld.entries ∈ l) (h_events : Fld.events ∈ l) (h_groups : Fld.groups ∈ l) (h_latches : Fld.latches ∈ l) (h_parts : Fld.parts ∈ l) (h_ports : Fld.ports ∈ l) (h_regs : Fld.regs ∈ l) (h_safeN : Fld.safeN ∈ l) (h_trims : Fld.trims ∈ l) (h_waitMaint : Fld.waitMaint ∈ l) : (State.exitAt s c side).but l = s.but l := by
  unfold State.exitAt
  first
  | (simp [h_actions, h_caps, h_chans, h_clusters, h_drives, h_ens, h_entries, h_events, h_groups, h_latches, h_parts, h_ports, h_regs, h_safeN, h_trims, h_waitMaint, ↓State.setChan_but, ↓State.timersBy_but, ↓State.windowExit_but, ↓State.ite_but]; done)
  | ((try dsimp only); (repeat' split) <;> first
    | with_reducible rfl
    | (simp [h_actions, h_caps, h_chans, h_clusters, h_drives, h_ens, h_entries, h_events, h_groups, h_latches, h_parts, h_ports, h_regs, h_safeN, h_trims, h_waitMaint, ↓State.setChan_but, ↓State.timersBy_but, ↓State.windowExit_but, ↓State.ite_but]; done))

theorem execWindowExit_but (c : Fin 512) (x : Crossing) (s : State) (l : List Fld) (h_actions : Fld.actions ∈ l) (h_active : Fld.active ∈ l) (h_armed : Fld.armed ∈ l) (h_asms : Fld.asms ∈ l) (h_caps : Fld.caps ∈ l) (h_chans : Fld.chans ∈ l) (h_clusters : Fld.clusters ∈ l) (h_committed : Fld.committed ∈ l) (h_downs : Fld.downs ∈ l) (h_drives : Fld.drives ∈ l) (h_ens : Fld.ens ∈ l) (h_entries : Fld.entries ∈ l) (h_events : Fld.events ∈ l) (h_groups : Fld.groups ∈ l) (h_host : Fld.host ∈ l) (h_inbox : Fld.inbox ∈ l) (h_latches : Fld.latches ∈ l) (h_ledger : Fld.ledger ∈ l) (h_parts : Fld.parts ∈ l) (h_ports : Fld.ports ∈ l) (h_prior : Fld.prior ∈ l) (h_regs : Fld.regs ∈ l) (h_safeN : Fld.safeN ∈ l) (h_sessions : Fld.sessions ∈ l) (h_sets : Fld.sets ∈ l) (h_streams : Fld.streams ∈ l) (h_supply : Fld.supply ∈ l) (h_switchSt : Fld.switchSt ∈ l) (h_t1sSleep : Fld.t1sSleep ∈ l) (h_thermal : Fld.thermal ∈ l) (h_trestle : Fld.trestle ∈ l) (h_trims : Fld.trims ∈ l) (h_waitMaint : Fld.waitMaint ∈ l) (h_waits : Fld.waits ∈ l) :
    ∀ t, execWindowExit c x s = .next t → t.but l = s.but l := by
  intro t ht
  unfold execWindowExit at ht
  (try simp only [ok] at ht); (repeat' split at ht) <;> (replace ht := Host.Outcome.next.inj ht; subst ht; first
    | with_reducible rfl
    | (simp [h_actions, h_active, h_armed, h_asms, h_caps, h_chans, h_clusters, h_committed, h_downs, h_drives, h_ens, h_entries, h_events, h_groups, h_host, h_inbox, h_latches, h_ledger, h_parts, h_ports, h_prior, h_regs, h_safeN, h_sessions, h_sets, h_streams, h_supply, h_switchSt, h_t1sSleep, h_thermal, h_trestle, h_trims, h_waitMaint, h_waits, ↓State.exitAt_but, ↓State.inBank_but, ↓State.swapIfDue_but, ↓State.ite_but]; done))

@[simp] theorem State.windowEnter_but (s : State) (c : Nat) (l : List Fld) (h_actions : Fld.actions ∈ l) (h_caps : Fld.caps ∈ l) (h_chans : Fld.chans ∈ l) (h_clusters : Fld.clusters ∈ l) (h_drives : Fld.drives ∈ l) (h_ens : Fld.ens ∈ l) (h_entries : Fld.entries ∈ l) (h_events : Fld.events ∈ l) (h_groups : Fld.groups ∈ l) (h_latches : Fld.latches ∈ l) (h_parts : Fld.parts ∈ l) (h_ports : Fld.ports ∈ l) (h_regs : Fld.regs ∈ l) (h_safeN : Fld.safeN ∈ l) (h_trims : Fld.trims ∈ l) (h_waitMaint : Fld.waitMaint ∈ l) : (State.windowEnter s c).but l = s.but l := by
  unfold State.windowEnter
  first
  | (simp [h_actions, h_caps, h_chans, h_clusters, h_drives, h_ens, h_entries, h_events, h_groups, h_latches, h_parts, h_ports, h_regs, h_safeN, h_trims, h_waitMaint, ↓State.enterSettle_but, ↓State.gateTrip_but, ↓State.markTick_but, ↓State.noteCap_but, ↓State.setChan_but, ↓State.ite_but]; done)
  | ((try dsimp only); (repeat' split) <;> first
    | with_reducible rfl
    | (simp [h_actions, h_caps, h_chans, h_clusters, h_drives, h_ens, h_entries, h_events, h_groups, h_latches, h_parts, h_ports, h_regs, h_safeN, h_trims, h_waitMaint, ↓State.enterSettle_but, ↓State.gateTrip_but, ↓State.markTick_but, ↓State.noteCap_but, ↓State.setChan_but, ↓State.ite_but]; done)
    | (rename_i heq; have hk := congrArg (fun x => x.1.but l) heq; simp [h_actions, h_caps, h_chans, h_clusters, h_drives, h_ens, h_entries, h_events, h_groups, h_latches, h_parts, h_ports, h_regs, h_safeN, h_trims, h_waitMaint, ↓State.enterSettle_but, ↓State.gateTrip_but, ↓State.markTick_but, ↓State.noteCap_but, ↓State.setChan_but, ↓State.ite_but] at hk; simp [h_actions, h_caps, h_chans, h_clusters, h_drives, h_ens, h_entries, h_events, h_groups, h_latches, h_parts, h_ports, h_regs, h_safeN, h_trims, h_waitMaint, ↓State.enterSettle_but, ↓State.gateTrip_but, ↓State.markTick_but, ↓State.noteCap_but, ↓State.setChan_but, ↓State.ite_but, hk]; done))

@[simp] theorem State.enterAt_but (s : State) (c : Nat) (pin : Int) (l : List Fld) (h_actions : Fld.actions ∈ l) (h_caps : Fld.caps ∈ l) (h_chans : Fld.chans ∈ l) (h_clusters : Fld.clusters ∈ l) (h_drives : Fld.drives ∈ l) (h_ens : Fld.ens ∈ l) (h_entries : Fld.entries ∈ l) (h_events : Fld.events ∈ l) (h_groups : Fld.groups ∈ l) (h_latches : Fld.latches ∈ l) (h_parts : Fld.parts ∈ l) (h_ports : Fld.ports ∈ l) (h_regs : Fld.regs ∈ l) (h_safeN : Fld.safeN ∈ l) (h_trims : Fld.trims ∈ l) (h_waitMaint : Fld.waitMaint ∈ l) : (State.enterAt s c pin).but l = s.but l := by
  unfold State.enterAt
  first
  | (simp [h_actions, h_caps, h_chans, h_clusters, h_drives, h_ens, h_entries, h_events, h_groups, h_latches, h_parts, h_ports, h_regs, h_safeN, h_trims, h_waitMaint, ↓State.setChan_but, ↓State.timersBy_but, ↓State.windowEnter_but, ↓State.ite_but]; done)
  | ((try dsimp only); (repeat' split) <;> first
    | with_reducible rfl
    | (simp [h_actions, h_caps, h_chans, h_clusters, h_drives, h_ens, h_entries, h_events, h_groups, h_latches, h_parts, h_ports, h_regs, h_safeN, h_trims, h_waitMaint, ↓State.setChan_but, ↓State.timersBy_but, ↓State.windowEnter_but, ↓State.ite_but]; done))

theorem execWindowEnter_but (x : Inside) (s : State) (l : List Fld) (h_actions : Fld.actions ∈ l) (h_active : Fld.active ∈ l) (h_armed : Fld.armed ∈ l) (h_asms : Fld.asms ∈ l) (h_caps : Fld.caps ∈ l) (h_chans : Fld.chans ∈ l) (h_clusters : Fld.clusters ∈ l) (h_committed : Fld.committed ∈ l) (h_downs : Fld.downs ∈ l) (h_drives : Fld.drives ∈ l) (h_ens : Fld.ens ∈ l) (h_entries : Fld.entries ∈ l) (h_events : Fld.events ∈ l) (h_groups : Fld.groups ∈ l) (h_host : Fld.host ∈ l) (h_inbox : Fld.inbox ∈ l) (h_latches : Fld.latches ∈ l) (h_ledger : Fld.ledger ∈ l) (h_parts : Fld.parts ∈ l) (h_ports : Fld.ports ∈ l) (h_prior : Fld.prior ∈ l) (h_regs : Fld.regs ∈ l) (h_safeN : Fld.safeN ∈ l) (h_sessions : Fld.sessions ∈ l) (h_sets : Fld.sets ∈ l) (h_streams : Fld.streams ∈ l) (h_supply : Fld.supply ∈ l) (h_switchSt : Fld.switchSt ∈ l) (h_t1sSleep : Fld.t1sSleep ∈ l) (h_thermal : Fld.thermal ∈ l) (h_trestle : Fld.trestle ∈ l) (h_trims : Fld.trims ∈ l) (h_waitMaint : Fld.waitMaint ∈ l) (h_waits : Fld.waits ∈ l) :
    ∀ t, execWindowEnter x s = .next t → t.but l = s.but l := by
  intro t ht
  unfold execWindowEnter at ht
  (try simp only [ok] at ht); (repeat' split at ht) <;> (replace ht := Host.Outcome.next.inj ht; subst ht; first
    | with_reducible rfl
    | (simp [h_actions, h_active, h_armed, h_asms, h_caps, h_chans, h_clusters, h_committed, h_downs, h_drives, h_ens, h_entries, h_events, h_groups, h_host, h_inbox, h_latches, h_ledger, h_parts, h_ports, h_prior, h_regs, h_safeN, h_sessions, h_sets, h_streams, h_supply, h_switchSt, h_t1sSleep, h_thermal, h_trestle, h_trims, h_waitMaint, h_waits, ↓State.enterAt_but, ↓State.inBank_but, ↓State.swapIfDue_but, ↓State.ite_but]; done))

theorem execSettleTimeExpire_but (c : Fin 512) (s : State) (l : List Fld) (h_actions : Fld.actions ∈ l) (h_active : Fld.active ∈ l) (h_armed : Fld.armed ∈ l) (h_asms : Fld.asms ∈ l) (h_caps : Fld.caps ∈ l) (h_chans : Fld.chans ∈ l) (h_clusters : Fld.clusters ∈ l) (h_committed : Fld.committed ∈ l) (h_downs : Fld.downs ∈ l) (h_drives : Fld.drives ∈ l) (h_ens : Fld.ens ∈ l) (h_entries : Fld.entries ∈ l) (h_events : Fld.events ∈ l) (h_groups : Fld.groups ∈ l) (h_host : Fld.host ∈ l) (h_inbox : Fld.inbox ∈ l) (h_latches : Fld.latches ∈ l) (h_ledger : Fld.ledger ∈ l) (h_parts : Fld.parts ∈ l) (h_ports : Fld.ports ∈ l) (h_prior : Fld.prior ∈ l) (h_regs : Fld.regs ∈ l) (h_safeN : Fld.safeN ∈ l) (h_sessions : Fld.sessions ∈ l) (h_sets : Fld.sets ∈ l) (h_streams : Fld.streams ∈ l) (h_supply : Fld.supply ∈ l) (h_switchSt : Fld.switchSt ∈ l) (h_t1sSleep : Fld.t1sSleep ∈ l) (h_thermal : Fld.thermal ∈ l) (h_trestle : Fld.trestle ∈ l) (h_trims : Fld.trims ∈ l) (h_waitMaint : Fld.waitMaint ∈ l) (h_waits : Fld.waits ∈ l) :
    ∀ t, execSettleTimeExpire c s = .next t → t.but l = s.but l := by
  intro t ht
  unfold execSettleTimeExpire at ht
  (try simp only [ok] at ht); (repeat' split at ht) <;> (replace ht := Host.Outcome.next.inj ht; subst ht; first
    | with_reducible rfl
    | (simp [h_actions, h_active, h_armed, h_asms, h_caps, h_chans, h_clusters, h_committed, h_downs, h_drives, h_ens, h_entries, h_events, h_groups, h_host, h_inbox, h_latches, h_ledger, h_parts, h_ports, h_prior, h_regs, h_safeN, h_sessions, h_sets, h_streams, h_supply, h_switchSt, h_t1sSleep, h_thermal, h_trestle, h_trims, h_waitMaint, h_waits, ↓State.inBank_but, ↓State.settleBy_but, ↓State.swapIfDue_but, ↓State.ite_but]; done))

theorem execDeadlineExpire_but (c : Fin 512) (s : State) (l : List Fld) (h_actions : Fld.actions ∈ l) (h_active : Fld.active ∈ l) (h_armed : Fld.armed ∈ l) (h_asms : Fld.asms ∈ l) (h_caps : Fld.caps ∈ l) (h_chans : Fld.chans ∈ l) (h_clusters : Fld.clusters ∈ l) (h_committed : Fld.committed ∈ l) (h_downs : Fld.downs ∈ l) (h_drives : Fld.drives ∈ l) (h_ens : Fld.ens ∈ l) (h_entries : Fld.entries ∈ l) (h_events : Fld.events ∈ l) (h_groups : Fld.groups ∈ l) (h_host : Fld.host ∈ l) (h_inbox : Fld.inbox ∈ l) (h_latches : Fld.latches ∈ l) (h_ledger : Fld.ledger ∈ l) (h_parts : Fld.parts ∈ l) (h_ports : Fld.ports ∈ l) (h_prior : Fld.prior ∈ l) (h_regs : Fld.regs ∈ l) (h_safeN : Fld.safeN ∈ l) (h_sessions : Fld.sessions ∈ l) (h_sets : Fld.sets ∈ l) (h_streams : Fld.streams ∈ l) (h_supply : Fld.supply ∈ l) (h_switchSt : Fld.switchSt ∈ l) (h_t1sSleep : Fld.t1sSleep ∈ l) (h_thermal : Fld.thermal ∈ l) (h_trestle : Fld.trestle ∈ l) (h_trims : Fld.trims ∈ l) (h_waitMaint : Fld.waitMaint ∈ l) (h_waits : Fld.waits ∈ l) :
    ∀ t, execDeadlineExpire c s = .next t → t.but l = s.but l := by
  intro t ht
  unfold execDeadlineExpire at ht
  (try simp only [ok] at ht); (repeat' split at ht) <;> (replace ht := Host.Outcome.next.inj ht; subst ht; first
    | with_reducible rfl
    | (simp [h_actions, h_active, h_armed, h_asms, h_caps, h_chans, h_clusters, h_committed, h_downs, h_drives, h_ens, h_entries, h_events, h_groups, h_host, h_inbox, h_latches, h_ledger, h_parts, h_ports, h_prior, h_regs, h_safeN, h_sessions, h_sets, h_streams, h_supply, h_switchSt, h_t1sSleep, h_thermal, h_trestle, h_trims, h_waitMaint, h_waits, ↓State.deadlineBy_but, ↓State.inBank_but, ↓State.settleBy_but, ↓State.swapIfDue_but, ↓State.ite_but]; done))

@[simp] theorem State.clearCounts_but (s : State) (c : Nat) (l : List Fld) (h_regs : Fld.regs ∈ l) : (State.clearCounts s c).but l = s.but l := by
  unfold State.clearCounts
  simp [h_regs, ↓State.setReg_but, ↓State.each_but, ↓State.ite_but]

theorem execClear_but (r : Role) (c : Fin 512) (v : Byte) (s : State) (l : List Fld) (h_regs : Fld.regs ∈ l) (h_reply : Fld.reply ∈ l) (h_status : Fld.status ∈ l) :
    ∀ t, execClear r c v s = .next t → t.but l = s.but l := by
  intro t ht
  unfold execClear at ht
  (try simp only [ok] at ht); (repeat' split at ht) <;> (replace ht := Host.Outcome.next.inj ht; subst ht; first
    | with_reducible rfl
    | (simp [h_regs, h_reply, h_status, ↓State.answer_but, ↓State.clearCounts_but, ↓State.item_but, ↓State.ite_but]; done)
    | ((first
        | refine State.item_but _ _ _ _ _ _ h_regs h_reply h_status (fun s => ?_)
        | refine State.itemLen_but _ _ _ _ _ _ _ h_regs h_reply h_status (fun s => ?_)) <;> (try dsimp only) <;> (repeat' split) <;> first
      | with_reducible rfl
      | (simp [h_regs, h_reply, h_status, ↓State.answer_but, ↓State.clearCounts_but, ↓State.item_but, ↓State.ite_but]; done)
      | (rename_i heq; have hk := congrArg (fun x => x.1.but l) heq; simp [h_regs, h_reply, h_status, ↓State.answer_but, ↓State.clearCounts_but, ↓State.item_but, ↓State.ite_but] at hk; simp [hk, h_regs, h_reply, h_status, ↓State.answer_but, ↓State.clearCounts_but, ↓State.item_but, ↓State.ite_but]; done)))

end Sys2Proof.Machine
end

