-- ==== Sys2Proof/Laws/Keep/Security.lean ====
section
/-! SUPPORT. The frames of the operations of Machine/Security.lean: the parts of the state that each of them can change. -/
set_option linter.all false

namespace Sys2Proof.Machine

@[simp] theorem State.loadKey_but (s : State) (id version : Nat) (key : BitVec 128) (l : List Fld) (h_keys : Fld.keys ∈ l) (h_regs : Fld.regs ∈ l) : (State.loadKey s id version key).but l = s.but l := by
  unfold State.loadKey
  simp [h_keys, h_regs, ↓State.setKey_but, ↓State.setReg_but, ↓State.ite_but]

@[simp] theorem State.ownerInit_but (s : State) (b : Bytes) (l : List Fld) (h_events : Fld.events ∈ l) (h_keys : Fld.keys ∈ l) (h_regs : Fld.regs ∈ l) (h_reply : Fld.reply ∈ l) (h_sec : Fld.sec ∈ l) (h_status : Fld.status ∈ l) : (State.ownerInit s b).but l = s.but l := by
  unfold State.ownerInit
  (try dsimp only); (repeat' split) <;> first
    | with_reducible rfl
    | (simp [h_events, h_keys, h_regs, h_reply, h_sec, h_status, ↓State.answer_but, ↓State.loadKey_but, ↓State.raise_but, ↓State.setReg_but, ↓State.but_sec, ↓State.ite_but]; done)
    | (rename_i heq; have hk := congrArg (fun x => x.1.but l) heq; simp [h_events, h_keys, h_regs, h_reply, h_sec, h_status, ↓State.answer_but, ↓State.loadKey_but, ↓State.raise_but, ↓State.setReg_but, ↓State.but_sec, ↓State.ite_but] at hk; simp [hk, h_events, h_keys, h_regs, h_reply, h_sec, h_status, ↓State.answer_but, ↓State.loadKey_but, ↓State.raise_but, ↓State.setReg_but, ↓State.but_sec, ↓State.ite_but]; done)

theorem execOwnerInit_but (r : Role) (val : Bytes) (s : State) (l : List Fld) (h_events : Fld.events ∈ l) (h_keys : Fld.keys ∈ l) (h_regs : Fld.regs ∈ l) (h_reply : Fld.reply ∈ l) (h_sec : Fld.sec ∈ l) (h_status : Fld.status ∈ l) :
    ∀ t, execOwnerInit r val s = .next t → t.but l = s.but l := by
  intro t ht
  unfold execOwnerInit at ht
  (try simp only [ok] at ht); (repeat' split at ht) <;> (replace ht := Host.Outcome.next.inj ht; subst ht; first
    | with_reducible rfl
    | (simp [h_events, h_keys, h_regs, h_reply, h_sec, h_status, ↓State.itemLen_but, ↓State.ownerInit_but, ↓State.ite_but]; done)
    | ((first
        | refine State.item_but _ _ _ _ _ _ h_regs h_reply h_status (fun s => ?_)
        | refine State.itemLen_but _ _ _ _ _ _ _ h_regs h_reply h_status (fun s => ?_)) <;> (try dsimp only) <;> (repeat' split) <;> first
      | with_reducible rfl
      | (simp [h_events, h_keys, h_regs, h_reply, h_sec, h_status, ↓State.itemLen_but, ↓State.ownerInit_but, ↓State.ite_but]; done)
      | (rename_i heq; have hk := congrArg (fun x => x.1.but l) heq; simp [h_events, h_keys, h_regs, h_reply, h_sec, h_status, ↓State.itemLen_but, ↓State.ownerInit_but, ↓State.ite_but] at hk; simp [hk, h_events, h_keys, h_regs, h_reply, h_sec, h_status, ↓State.itemLen_but, ↓State.ownerInit_but, ↓State.ite_but]; done))
    | (rename_i heq; have hk := congrArg (fun x => x.1.but l) heq; simp [h_events, h_keys, h_regs, h_reply, h_sec, h_status, ↓State.itemLen_but, ↓State.ownerInit_but, ↓State.ite_but] at hk; simp [hk, h_events, h_keys, h_regs, h_reply, h_sec, h_status, ↓State.itemLen_but, ↓State.ownerInit_but, ↓State.ite_but]; done))

@[simp] theorem State.keyLoad_but (s : State) (b : Bytes) (l : List Fld) (h_events : Fld.events ∈ l) (h_keys : Fld.keys ∈ l) (h_regs : Fld.regs ∈ l) (h_reply : Fld.reply ∈ l) (h_status : Fld.status ∈ l) : (State.keyLoad s b).but l = s.but l := by
  unfold State.keyLoad
  (try dsimp only); (repeat' split) <;> first
    | with_reducible rfl
    | (simp [h_events, h_keys, h_regs, h_reply, h_status, ↓State.answer_but, ↓State.bump16_but, ↓State.loadKey_but, ↓State.raise_but, ↓State.ite_but]; done)
    | (rename_i heq; have hk := congrArg (fun x => x.1.but l) heq; simp [h_events, h_keys, h_regs, h_reply, h_status, ↓State.answer_but, ↓State.bump16_but, ↓State.loadKey_but, ↓State.raise_but, ↓State.ite_but] at hk; simp [hk, h_events, h_keys, h_regs, h_reply, h_status, ↓State.answer_but, ↓State.bump16_but, ↓State.loadKey_but, ↓State.raise_but, ↓State.ite_but]; done)

@[simp] theorem State.closeKey_but (s : State) (id : Nat) (l : List Fld) (h_sessions : Fld.sessions ∈ l) : (State.closeKey s id).but l = s.but l := by
  unfold State.closeKey
  simp [h_sessions, ↓State.closeSessions_but, ↓State.ite_but]

theorem execKeyLoad_but (r : Role) (val : Bytes) (s : State) (l : List Fld) (h_events : Fld.events ∈ l) (h_keys : Fld.keys ∈ l) (h_regs : Fld.regs ∈ l) (h_reply : Fld.reply ∈ l) (h_sessions : Fld.sessions ∈ l) (h_status : Fld.status ∈ l) :
    ∀ t, execKeyLoad r val s = .next t → t.but l = s.but l := by
  intro t ht
  unfold execKeyLoad at ht
  (try simp only [ok] at ht); (repeat' split at ht) <;> (replace ht := Host.Outcome.next.inj ht; subst ht; first
    | with_reducible rfl
    | (simp [h_events, h_keys, h_regs, h_reply, h_sessions, h_status, ↓State.closeKey_but, ↓State.itemLen_but, ↓State.keyLoad_but, ↓State.ite_but]; done)
    | ((first
        | refine State.item_but _ _ _ _ _ _ h_regs h_reply h_status (fun s => ?_)
        | refine State.itemLen_but _ _ _ _ _ _ _ h_regs h_reply h_status (fun s => ?_)) <;> (try dsimp only) <;> (repeat' split) <;> first
      | with_reducible rfl
      | (simp [h_events, h_keys, h_regs, h_reply, h_sessions, h_status, ↓State.closeKey_but, ↓State.itemLen_but, ↓State.keyLoad_but, ↓State.ite_but]; done)
      | (rename_i heq; have hk := congrArg (fun x => x.1.but l) heq; simp [h_events, h_keys, h_regs, h_reply, h_sessions, h_status, ↓State.closeKey_but, ↓State.itemLen_but, ↓State.keyLoad_but, ↓State.ite_but] at hk; simp [hk, h_events, h_keys, h_regs, h_reply, h_sessions, h_status, ↓State.closeKey_but, ↓State.itemLen_but, ↓State.keyLoad_but, ↓State.ite_but]; done)))

@[simp] theorem State.debugChallenge_but (s : State) (l : List Fld) (h_reply : Fld.reply ∈ l) (h_sec : Fld.sec ∈ l) (h_status : Fld.status ∈ l) : (State.debugChallenge s).but l = s.but l := by
  unfold State.debugChallenge
  (try dsimp only); (repeat' split) <;> first
    | with_reducible rfl
    | (simp [State.but, h_reply, h_sec, h_status]; done)

theorem execDebugChallenge_but (r : Role) (s : State) (l : List Fld) (h_regs : Fld.regs ∈ l) (h_reply : Fld.reply ∈ l) (h_sec : Fld.sec ∈ l) (h_status : Fld.status ∈ l) :
    ∀ t, execDebugChallenge r s = .next t → t.but l = s.but l := by
  intro t ht
  unfold execDebugChallenge at ht
  (try simp only [ok] at ht); (repeat' split at ht) <;> (replace ht := Host.Outcome.next.inj ht; subst ht; first
    | with_reducible rfl
    | (simp [h_regs, h_reply, h_sec, h_status, ↓State.debugChallenge_but, ↓State.item_but, ↓State.ite_but]; done)
    | ((first
        | refine State.item_but _ _ _ _ _ _ h_regs h_reply h_status (fun s => ?_)
        | refine State.itemLen_but _ _ _ _ _ _ _ h_regs h_reply h_status (fun s => ?_)) <;> (try dsimp only) <;> (repeat' split) <;> first
      | with_reducible rfl
      | (simp [h_regs, h_reply, h_sec, h_status, ↓State.debugChallenge_but, ↓State.item_but, ↓State.ite_but]; done)
      | (rename_i heq; have hk := congrArg (fun x => x.1.but l) heq; simp [h_regs, h_reply, h_sec, h_status, ↓State.debugChallenge_but, ↓State.item_but, ↓State.ite_but] at hk; simp [hk, h_regs, h_reply, h_sec, h_status, ↓State.debugChallenge_but, ↓State.item_but, ↓State.ite_but]; done)))

@[simp] theorem State.debugUnlock_but (s : State) (l : List Fld) (h_events : Fld.events ∈ l) (h_keys : Fld.keys ∈ l) (h_log : Fld.log ∈ l) (h_regs : Fld.regs ∈ l) (h_sec : Fld.sec ∈ l) (h_sessions : Fld.sessions ∈ l) : (State.debugUnlock s).but l = s.but l := by
  unfold State.debugUnlock
  first
  | (simp [h_events, h_keys, h_log, h_regs, h_sec, h_sessions, ↓State.bump16_but, ↓State.closeSessions_but, ↓State.raise_but, ↓State.setKey_but, ↓State.stage_but, ↓State.but_sec, ↓State.each_but, ↓State.ite_but]; done)
  | ((try dsimp only); (repeat' split) <;> first
    | with_reducible rfl
    | (simp [h_events, h_keys, h_log, h_regs, h_sec, h_sessions, ↓State.bump16_but, ↓State.closeSessions_but, ↓State.raise_but, ↓State.setKey_but, ↓State.stage_but, ↓State.but_sec, ↓State.each_but, ↓State.ite_but]; done)
    | (refine (State.each_but _ _ _ _ (fun s x _ => ?_)).trans ?_ <;> (try dsimp only) <;> (repeat' split) <;> first
      | with_reducible rfl
      | (simp [h_events, h_keys, h_log, h_regs, h_sec, h_sessions, ↓State.bump16_but, ↓State.closeSessions_but, ↓State.raise_but, ↓State.setKey_but, ↓State.stage_but, ↓State.but_sec, ↓State.each_but, ↓State.ite_but]; done)))

@[simp] theorem State.debugResponse_but (s : State) (b : Bytes) (l : List Fld) (h_events : Fld.events ∈ l) (h_keys : Fld.keys ∈ l) (h_log : Fld.log ∈ l) (h_regs : Fld.regs ∈ l) (h_reply : Fld.reply ∈ l) (h_sec : Fld.sec ∈ l) (h_sessions : Fld.sessions ∈ l) (h_status : Fld.status ∈ l) : (State.debugResponse s b).but l = s.but l := by
  unfold State.debugResponse
  simp [h_events, h_keys, h_log, h_regs, h_reply, h_sec, h_sessions, h_status, ↓State.answer_but, ↓State.debugUnlock_but, ↓State.but_sec, ↓State.ite_but]

theorem execDebugResponse_but (r : Role) (val : Bytes) (s : State) (l : List Fld) (h_events : Fld.events ∈ l) (h_keys : Fld.keys ∈ l) (h_log : Fld.log ∈ l) (h_regs : Fld.regs ∈ l) (h_reply : Fld.reply ∈ l) (h_sec : Fld.sec ∈ l) (h_sessions : Fld.sessions ∈ l) (h_status : Fld.status ∈ l) :
    ∀ t, execDebugResponse r val s = .next t → t.but l = s.but l := by
  intro t ht
  unfold execDebugResponse at ht
  (try simp only [ok] at ht); (repeat' split at ht) <;> (replace ht := Host.Outcome.next.inj ht; subst ht; first
    | with_reducible rfl
    | (simp [h_events, h_keys, h_log, h_regs, h_reply, h_sec, h_sessions, h_status, ↓State.debugResponse_but, ↓State.itemLen_but, ↓State.ite_but]; done)
    | ((first
        | refine State.item_but _ _ _ _ _ _ h_regs h_reply h_status (fun s => ?_)
        | refine State.itemLen_but _ _ _ _ _ _ _ h_regs h_reply h_status (fun s => ?_)) <;> (try dsimp only) <;> (repeat' split) <;> first
      | with_reducible rfl
      | (simp [h_events, h_keys, h_log, h_regs, h_reply, h_sec, h_sessions, h_status, ↓State.debugResponse_but, ↓State.itemLen_but, ↓State.ite_but]; done)
      | (rename_i heq; have hk := congrArg (fun x => x.1.but l) heq; simp [h_events, h_keys, h_log, h_regs, h_reply, h_sec, h_sessions, h_status, ↓State.debugResponse_but, ↓State.itemLen_but, ↓State.ite_but] at hk; simp [hk, h_events, h_keys, h_log, h_regs, h_reply, h_sec, h_sessions, h_status, ↓State.debugResponse_but, ↓State.itemLen_but, ↓State.ite_but]; done)))

@[simp] theorem State.debugResume_but (s : State) (l : List Fld) (h_events : Fld.events ∈ l) (h_later : Fld.later ∈ l) (h_mgmtDown : Fld.mgmtDown ∈ l) (h_regs : Fld.regs ∈ l) (h_sec : Fld.sec ∈ l) : (State.debugResume s).but l = s.but l := by
  unfold State.debugResume
  split
  · rw [State.deliverHeld_but _ _ (by assumption) (by assumption) (by assumption)]
    have ka : s.shiftGrace.but l = s.but l := by simp [h_events, h_later, h_mgmtDown, h_regs, h_sec, ↓State.deliverHeld_but, ↓State.shiftGrace_but, State.but, ↓State.but_mgmtDown, ↓State.but_sec, ↓State.ite_but]
    generalize s.shiftGrace = a at ka ⊢
    refine Eq.trans ?_ ka
    simp [State.but, h_events, h_later, h_mgmtDown, h_regs, h_sec]
  · rfl

@[simp] theorem State.debugLock_but (s : State) (l : List Fld) (h_events : Fld.events ∈ l) (h_later : Fld.later ∈ l) (h_mgmtDown : Fld.mgmtDown ∈ l) (h_regs : Fld.regs ∈ l) (h_reply : Fld.reply ∈ l) (h_sec : Fld.sec ∈ l) (h_status : Fld.status ∈ l) : (State.debugLock s).but l = s.but l := by
  unfold State.debugLock
  simp [h_events, h_later, h_mgmtDown, h_regs, h_reply, h_sec, h_status, ↓State.answer_but, ↓State.debugResume_but, ↓State.raise_but, ↓State.but_sec, ↓State.ite_but]

theorem execDebugLock_but (r : Role) (v : Byte) (s : State) (l : List Fld) (h_events : Fld.events ∈ l) (h_later : Fld.later ∈ l) (h_mgmtDown : Fld.mgmtDown ∈ l) (h_regs : Fld.regs ∈ l) (h_reply : Fld.reply ∈ l) (h_sec : Fld.sec ∈ l) (h_status : Fld.status ∈ l) :
    ∀ t, execDebugLock r v s = .next t → t.but l = s.but l := by
  intro t ht
  unfold execDebugLock at ht
  (try simp only [ok] at ht); (repeat' split at ht) <;> (replace ht := Host.Outcome.next.inj ht; subst ht; first
    | with_reducible rfl
    | (simp [h_events, h_later, h_mgmtDown, h_regs, h_reply, h_sec, h_status, ↓State.debugLock_but, ↓State.item_but, ↓State.ite_but]; done)
    | ((first
        | refine State.item_but _ _ _ _ _ _ h_regs h_reply h_status (fun s => ?_)
        | refine State.itemLen_but _ _ _ _ _ _ _ h_regs h_reply h_status (fun s => ?_)) <;> (try dsimp only) <;> (repeat' split) <;> first
      | with_reducible rfl
      | (simp [h_events, h_later, h_mgmtDown, h_regs, h_reply, h_sec, h_status, ↓State.debugLock_but, ↓State.item_but, ↓State.ite_but]; done)
      | (rename_i heq; have hk := congrArg (fun x => x.1.but l) heq; simp [h_events, h_later, h_mgmtDown, h_regs, h_reply, h_sec, h_status, ↓State.debugLock_but, ↓State.item_but, ↓State.ite_but] at hk; simp [hk, h_events, h_later, h_mgmtDown, h_regs, h_reply, h_sec, h_status, ↓State.debugLock_but, ↓State.item_but, ↓State.ite_but]; done)))

@[simp] theorem State.debugAnswer_but (s : State) (l : List Fld) (h_draws : Fld.draws ∈ l) (h_reply : Fld.reply ∈ l) : (State.debugAnswer s).but l = s.but l := by
  unfold State.debugAnswer
  (try dsimp only); (repeat' split) <;> first
    | with_reducible rfl
    | (simp [State.but, h_draws, h_reply]; done)

theorem execDebugPortRequest_but (q : DebugReq) (s : State) (l : List Fld) (h_draws : Fld.draws ∈ l) (h_events : Fld.events ∈ l) (h_host : Fld.host ∈ l) (h_later : Fld.later ∈ l) (h_mgmtDown : Fld.mgmtDown ∈ l) (h_regs : Fld.regs ∈ l) (h_reply : Fld.reply ∈ l) (h_sec : Fld.sec ∈ l) (h_supply : Fld.supply ∈ l) :
    ∀ t, execDebugPortRequest q s = .next t → t.but l = s.but l := by
  intro t ht
  unfold execDebugPortRequest at ht
  (try simp only [ok] at ht); (repeat' split at ht) <;> (replace ht := Host.Outcome.next.inj ht; subst ht; first
    | with_reducible rfl
    | (simp [h_draws, h_events, h_host, h_later, h_mgmtDown, h_regs, h_reply, h_sec, h_supply, ↓State.debugAnswer_but, ↓State.debugResume_but, State.but, ↓State.but_host, ↓State.but_mgmtDown, ↓State.but_sec, ↓State.but_supply, ↓State.ite_but]; done)
    | (rename_i heq; have hk := congrArg (fun x => x.1.but l) heq; simp [h_draws, h_events, h_host, h_later, h_mgmtDown, h_regs, h_reply, h_sec, h_supply, ↓State.debugAnswer_but, ↓State.debugResume_but, State.but, ↓State.but_host, ↓State.but_mgmtDown, ↓State.but_sec, ↓State.but_supply, ↓State.ite_but] at hk; simp [h_draws, h_events, h_host, h_later, h_mgmtDown, h_regs, h_reply, h_sec, h_supply, ↓State.debugAnswer_but, ↓State.debugResume_but, State.but, ↓State.but_host, ↓State.but_mgmtDown, ↓State.but_sec, ↓State.but_supply, ↓State.ite_but, hk]; done))

@[simp] theorem State.attestTag_but (s : State) (r : Role) (m : Bytes) (l : List Fld) (h_draws : Fld.draws ∈ l) : (State.attestTag s r m).1.but l = s.but l := by
  unfold State.attestTag
  (try dsimp only); (repeat' split) <;> first
    | with_reducible rfl
    | (simp [h_draws, ↓State.but_draws, ↓State.ite_but]; done)
    | (rename_i heq; have hk := congrArg (fun x => x.1.but l) heq; simp [h_draws, ↓State.but_draws, ↓State.ite_but] at hk; simp [hk, h_draws, ↓State.but_draws, ↓State.ite_but]; done)

@[simp] theorem State.attest_but (s : State) (r : Role) (k : Nat) (b : Bytes) (x : Sense) (l : List Fld) (h_draws : Fld.draws ∈ l) (h_events : Fld.events ∈ l) (h_granules : Fld.granules ∈ l) (h_keys : Fld.keys ∈ l) (h_log : Fld.log ∈ l) (h_nv : Fld.nv ∈ l) (h_regs : Fld.regs ∈ l) (h_reply : Fld.reply ∈ l) (h_sec : Fld.sec ∈ l) (h_sectors : Fld.sectors ∈ l) (h_sessions : Fld.sessions ∈ l) (h_status : Fld.status ∈ l) : (State.attest s r k b x).but l = s.but l := by
  unfold State.attest
  first
  | (simp [h_draws, h_events, h_granules, h_keys, h_log, h_nv, h_regs, h_reply, h_sec, h_sectors, h_sessions, h_status, ↓State.answer_but, ↓State.attestTag_but, ↓State.onSession_but, ↓State.readDrawer_but, ↓State.ite_but]; done)
  | ((try dsimp only); (repeat' split) <;> first
    | with_reducible rfl
    | (simp [h_draws, h_events, h_granules, h_keys, h_log, h_nv, h_regs, h_reply, h_sec, h_sectors, h_sessions, h_status, ↓State.answer_but, ↓State.attestTag_but, ↓State.onSession_but, ↓State.readDrawer_but, ↓State.ite_but]; done)
    | (rename_i heq; have hk := congrArg (fun x => x.1.but l) heq; simp [h_draws, h_events, h_granules, h_keys, h_log, h_nv, h_regs, h_reply, h_sec, h_sectors, h_sessions, h_status, ↓State.answer_but, ↓State.attestTag_but, ↓State.onSession_but, ↓State.readDrawer_but, ↓State.ite_but] at hk; simp [hk, h_draws, h_events, h_granules, h_keys, h_log, h_nv, h_regs, h_reply, h_sec, h_sectors, h_sessions, h_status, ↓State.answer_but, ↓State.attestTag_but, ↓State.onSession_but, ↓State.readDrawer_but, ↓State.ite_but]; done))

theorem execAttestRequest_but (r : Role) (k : Nat) (val : Bytes) (sense : Sense) (s : State) (l : List Fld) (h_draws : Fld.draws ∈ l) (h_events : Fld.events ∈ l) (h_granules : Fld.granules ∈ l) (h_keys : Fld.keys ∈ l) (h_log : Fld.log ∈ l) (h_nv : Fld.nv ∈ l) (h_regs : Fld.regs ∈ l) (h_reply : Fld.reply ∈ l) (h_sec : Fld.sec ∈ l) (h_sectors : Fld.sectors ∈ l) (h_sessions : Fld.sessions ∈ l) (h_status : Fld.status ∈ l) :
    ∀ t, execAttestRequest r k val sense s = .next t → t.but l = s.but l := by
  intro t ht
  unfold execAttestRequest at ht
  (try simp only [ok] at ht); (repeat' split at ht) <;> (replace ht := Host.Outcome.next.inj ht; subst ht; first
    | with_reducible rfl
    | (simp [h_draws, h_events, h_granules, h_keys, h_log, h_nv, h_regs, h_reply, h_sec, h_sectors, h_sessions, h_status, ↓State.attest_but, ↓State.itemLen_but, ↓State.ite_but]; done)
    | ((first
        | refine State.item_but _ _ _ _ _ _ h_regs h_reply h_status (fun s => ?_)
        | refine State.itemLen_but _ _ _ _ _ _ _ h_regs h_reply h_status (fun s => ?_)) <;> (try dsimp only) <;> (repeat' split) <;> first
      | with_reducible rfl
      | (simp [h_draws, h_events, h_granules, h_keys, h_log, h_nv, h_regs, h_reply, h_sec, h_sectors, h_sessions, h_status, ↓State.attest_but, ↓State.itemLen_but, ↓State.ite_but]; done)
      | (rename_i heq; have hk := congrArg (fun x => x.1.but l) heq; simp [h_draws, h_events, h_granules, h_keys, h_log, h_nv, h_regs, h_reply, h_sec, h_sectors, h_sessions, h_status, ↓State.attest_but, ↓State.itemLen_but, ↓State.ite_but] at hk; simp [hk, h_draws, h_events, h_granules, h_keys, h_log, h_nv, h_regs, h_reply, h_sec, h_sectors, h_sessions, h_status, ↓State.attest_but, ↓State.itemLen_but, ↓State.ite_but]; done))
    | (rename_i heq; have hk := congrArg (fun x => x.1.but l) heq; simp [h_draws, h_events, h_granules, h_keys, h_log, h_nv, h_regs, h_reply, h_sec, h_sectors, h_sessions, h_status, ↓State.attest_but, ↓State.itemLen_but, ↓State.ite_but] at hk; simp [hk, h_draws, h_events, h_granules, h_keys, h_log, h_nv, h_regs, h_reply, h_sec, h_sectors, h_sessions, h_status, ↓State.attest_but, ↓State.itemLen_but, ↓State.ite_but]; done))

@[simp] theorem State.rollbackAdvance_but (s : State) (l : List Fld) (h_regs : Fld.regs ∈ l) : (State.rollbackAdvance s).but l = s.but l := by
  unfold State.rollbackAdvance
  first
  | (simp [h_regs, ↓State.setReg_but, ↓State.ite_but]; done)
  | ((try dsimp only); (repeat' split) <;> first
    | with_reducible rfl
    | (simp [h_regs, ↓State.setReg_but, ↓State.ite_but]; done))

theorem execRollbackAdvance_but (s : State) (l : List Fld) (h_regs : Fld.regs ∈ l) :
    ∀ t, execRollbackAdvance s = .next t → t.but l = s.but l := by
  intro t ht
  unfold execRollbackAdvance at ht
  (try simp only [ok] at ht); (repeat' split at ht) <;> (replace ht := Host.Outcome.next.inj ht; subst ht; first
    | with_reducible rfl
    | (simp [h_regs, ↓State.rollbackAdvance_but, ↓State.ite_but]; done))

@[simp] theorem State.fwActivate_but (s : State) (l : List Fld) (h_armed : Fld.armed ∈ l) (h_asms : Fld.asms ∈ l) (h_caps : Fld.caps ∈ l) (h_chans : Fld.chans ∈ l) (h_entries : Fld.entries ∈ l) (h_events : Fld.events ∈ l) (h_fwWaitAt : Fld.fwWaitAt ∈ l) (h_host : Fld.host ∈ l) (h_inbox : Fld.inbox ∈ l) (h_later : Fld.later ∈ l) (h_ledger : Fld.ledger ∈ l) (h_mgmtDown : Fld.mgmtDown ∈ l) (h_parts : Fld.parts ∈ l) (h_peerReq : Fld.peerReq ∈ l) (h_queueC : Fld.queueC ∈ l) (h_regs : Fld.regs ∈ l) (h_sec : Fld.sec ∈ l) (h_sessions : Fld.sessions ∈ l) (h_sets : Fld.sets ∈ l) (h_shadow : Fld.shadow ∈ l) (h_supply : Fld.supply ∈ l) (h_svc : Fld.svc ∈ l) (h_switchSt : Fld.switchSt ∈ l) (h_trims : Fld.trims ∈ l) (h_waitMaint : Fld.waitMaint ∈ l) (h_waits : Fld.waits ∈ l) : (State.fwActivate s).but l = s.but l := by
  unfold State.fwActivate
  rw [State.mgmtReset_but] <;> first
    | assumption
    | simp [State.but, h_armed, h_asms, h_caps, h_chans, h_entries, h_events, h_fwWaitAt, h_host, h_inbox, h_later, h_ledger, h_mgmtDown, h_parts, h_peerReq, h_queueC, h_regs, h_sec, h_sessions, h_sets, h_shadow, h_supply, h_svc, h_switchSt, h_trims, h_waitMaint, h_waits]

theorem execFwActivate_but (r : Role) (s : State) (l : List Fld) (h_armed : Fld.armed ∈ l) (h_asms : Fld.asms ∈ l) (h_caps : Fld.caps ∈ l) (h_chans : Fld.chans ∈ l) (h_entries : Fld.entries ∈ l) (h_events : Fld.events ∈ l) (h_fwWaitAt : Fld.fwWaitAt ∈ l) (h_host : Fld.host ∈ l) (h_inbox : Fld.inbox ∈ l) (h_later : Fld.later ∈ l) (h_ledger : Fld.ledger ∈ l) (h_mgmtDown : Fld.mgmtDown ∈ l) (h_parts : Fld.parts ∈ l) (h_peerReq : Fld.peerReq ∈ l) (h_queueC : Fld.queueC ∈ l) (h_regs : Fld.regs ∈ l) (h_reply : Fld.reply ∈ l) (h_sec : Fld.sec ∈ l) (h_sessions : Fld.sessions ∈ l) (h_sets : Fld.sets ∈ l) (h_shadow : Fld.shadow ∈ l) (h_status : Fld.status ∈ l) (h_supply : Fld.supply ∈ l) (h_svc : Fld.svc ∈ l) (h_switchSt : Fld.switchSt ∈ l) (h_trims : Fld.trims ∈ l) (h_waitMaint : Fld.waitMaint ∈ l) (h_waits : Fld.waits ∈ l) :
    ∀ t, execFwActivate r s = .next t → t.but l = s.but l := by
  intro t ht
  unfold execFwActivate at ht
  replace ht := Host.Outcome.next.inj ht; rw [← ht]
  refine State.fwCommand_but _ _ _ _ h_regs h_reply h_status (fun s => ?_)
  split
  · simp [h_armed, h_asms, h_caps, h_chans, h_entries, h_events, h_fwWaitAt, h_host, h_inbox, h_later, h_ledger, h_mgmtDown, h_parts, h_peerReq, h_queueC, h_regs, h_reply, h_sec, h_sessions, h_sets, h_shadow, h_status, h_supply, h_svc, h_switchSt, h_trims, h_waitMaint, h_waits]
  extract_lets a
  have ka : a.but l = s.but l := State.setReg_but _ _ _ _ h_regs
  clear_value a
  split
  · rw [State.answer_but _ _ _ h_status h_reply, ← ka]
    simp [State.but, h_armed, h_asms, h_caps, h_chans, h_entries, h_events, h_fwWaitAt, h_host, h_inbox, h_later, h_ledger, h_mgmtDown, h_parts, h_peerReq, h_queueC, h_regs, h_reply, h_sec, h_sessions, h_sets, h_shadow, h_status, h_supply, h_svc, h_switchSt, h_trims, h_waitMaint, h_waits]
  · simp [ka, h_armed, h_asms, h_caps, h_chans, h_entries, h_events, h_fwWaitAt, h_host, h_inbox, h_later, h_ledger, h_mgmtDown, h_parts, h_peerReq, h_queueC, h_regs, h_reply, h_sec, h_sessions, h_sets, h_shadow, h_status, h_supply, h_svc, h_switchSt, h_trims, h_waitMaint, h_waits]

@[simp] theorem State.maintStart_but (s : State) (k : Nat) (l : List Fld) (h_armed : Fld.armed ∈ l) (h_asms : Fld.asms ∈ l) (h_caps : Fld.caps ∈ l) (h_chans : Fld.chans ∈ l) (h_entries : Fld.entries ∈ l) (h_events : Fld.events ∈ l) (h_fwWaitAt : Fld.fwWaitAt ∈ l) (h_host : Fld.host ∈ l) (h_inbox : Fld.inbox ∈ l) (h_later : Fld.later ∈ l) (h_ledger : Fld.ledger ∈ l) (h_log : Fld.log ∈ l) (h_mgmtDown : Fld.mgmtDown ∈ l) (h_nv : Fld.nv ∈ l) (h_parts : Fld.parts ∈ l) (h_peerReq : Fld.peerReq ∈ l) (h_queueC : Fld.queueC ∈ l) (h_regs : Fld.regs ∈ l) (h_sec : Fld.sec ∈ l) (h_sessions : Fld.sessions ∈ l) (h_sets : Fld.sets ∈ l) (h_shadow : Fld.shadow ∈ l) (h_supply : Fld.supply ∈ l) (h_svc : Fld.svc ∈ l) (h_switchSt : Fld.switchSt ∈ l) (h_trims : Fld.trims ∈ l) (h_waitMaint : Fld.waitMaint ∈ l) (h_waits : Fld.waits ∈ l) : (State.maintStart s k).but l = s.but l := by
  unfold State.maintStart
  simp [h_armed, h_asms, h_caps, h_chans, h_entries, h_events, h_fwWaitAt, h_host, h_inbox, h_later, h_ledger, h_log, h_mgmtDown, h_nv, h_parts, h_peerReq, h_queueC, h_regs, h_sec, h_sessions, h_sets, h_shadow, h_supply, h_svc, h_switchSt, h_trims, h_waitMaint, h_waits, ↓State.benchBegin_but, ↓State.fwActivate_but, ↓State.fwStart_but, ↓State.logEraseStart_but, ↓State.but_waitMaint, ↓State.ite_but]

theorem execMaintenanceWaitStart_but (s : State) (l : List Fld) (h_armed : Fld.armed ∈ l) (h_asms : Fld.asms ∈ l) (h_caps : Fld.caps ∈ l) (h_chans : Fld.chans ∈ l) (h_entries : Fld.entries ∈ l) (h_events : Fld.events ∈ l) (h_fwWaitAt : Fld.fwWaitAt ∈ l) (h_host : Fld.host ∈ l) (h_inbox : Fld.inbox ∈ l) (h_later : Fld.later ∈ l) (h_ledger : Fld.ledger ∈ l) (h_log : Fld.log ∈ l) (h_mgmtDown : Fld.mgmtDown ∈ l) (h_nv : Fld.nv ∈ l) (h_parts : Fld.parts ∈ l) (h_peerReq : Fld.peerReq ∈ l) (h_queueC : Fld.queueC ∈ l) (h_regs : Fld.regs ∈ l) (h_sec : Fld.sec ∈ l) (h_sessions : Fld.sessions ∈ l) (h_sets : Fld.sets ∈ l) (h_shadow : Fld.shadow ∈ l) (h_supply : Fld.supply ∈ l) (h_svc : Fld.svc ∈ l) (h_switchSt : Fld.switchSt ∈ l) (h_trims : Fld.trims ∈ l) (h_waitMaint : Fld.waitMaint ∈ l) (h_waits : Fld.waits ∈ l) :
    ∀ t, execMaintenanceWaitStart s = .next t → t.but l = s.but l := by
  intro t ht
  unfold execMaintenanceWaitStart at ht
  (try simp only [ok] at ht); (repeat' split at ht) <;> (replace ht := Host.Outcome.next.inj ht; subst ht; first
    | with_reducible rfl
    | (simp [h_armed, h_asms, h_caps, h_chans, h_entries, h_events, h_fwWaitAt, h_host, h_inbox, h_later, h_ledger, h_log, h_mgmtDown, h_nv, h_parts, h_peerReq, h_queueC, h_regs, h_sec, h_sessions, h_sets, h_shadow, h_supply, h_svc, h_switchSt, h_trims, h_waitMaint, h_waits, ↓State.maintStart_but, ↓State.ite_but]; done)
    | (rename_i heq; have hk := congrArg (fun x => x.1.but l) heq; simp [h_armed, h_asms, h_caps, h_chans, h_entries, h_events, h_fwWaitAt, h_host, h_inbox, h_later, h_ledger, h_log, h_mgmtDown, h_nv, h_parts, h_peerReq, h_queueC, h_regs, h_sec, h_sessions, h_sets, h_shadow, h_supply, h_svc, h_switchSt, h_trims, h_waitMaint, h_waits, ↓State.maintStart_but, ↓State.ite_but] at hk; simp [hk, h_armed, h_asms, h_caps, h_chans, h_entries, h_events, h_fwWaitAt, h_host, h_inbox, h_later, h_ledger, h_log, h_mgmtDown, h_nv, h_parts, h_peerReq, h_queueC, h_regs, h_sec, h_sessions, h_sets, h_shadow, h_supply, h_svc, h_switchSt, h_trims, h_waitMaint, h_waits, ↓State.maintStart_but, ↓State.ite_but]; done))

theorem execActivationWaitTimeout_but (s : State) (l : List Fld) (h_armed : Fld.armed ∈ l) (h_asms : Fld.asms ∈ l) (h_caps : Fld.caps ∈ l) (h_chans : Fld.chans ∈ l) (h_entries : Fld.entries ∈ l) (h_events : Fld.events ∈ l) (h_fwWaitAt : Fld.fwWaitAt ∈ l) (h_host : Fld.host ∈ l) (h_inbox : Fld.inbox ∈ l) (h_later : Fld.later ∈ l) (h_ledger : Fld.ledger ∈ l) (h_mgmtDown : Fld.mgmtDown ∈ l) (h_parts : Fld.parts ∈ l) (h_peerReq : Fld.peerReq ∈ l) (h_queueC : Fld.queueC ∈ l) (h_regs : Fld.regs ∈ l) (h_sec : Fld.sec ∈ l) (h_sessions : Fld.sessions ∈ l) (h_sets : Fld.sets ∈ l) (h_shadow : Fld.shadow ∈ l) (h_supply : Fld.supply ∈ l) (h_svc : Fld.svc ∈ l) (h_switchSt : Fld.switchSt ∈ l) (h_trims : Fld.trims ∈ l) (h_waitMaint : Fld.waitMaint ∈ l) (h_waits : Fld.waits ∈ l) :
    ∀ t, execActivationWaitTimeout s = .next t → t.but l = s.but l := by
  intro t ht
  unfold execActivationWaitTimeout at ht
  (try simp only [ok] at ht); (repeat' split at ht) <;> (replace ht := Host.Outcome.next.inj ht; subst ht; first
    | with_reducible rfl
    | (simp [h_armed, h_asms, h_caps, h_chans, h_entries, h_events, h_fwWaitAt, h_host, h_inbox, h_later, h_ledger, h_mgmtDown, h_parts, h_peerReq, h_queueC, h_regs, h_sec, h_sessions, h_sets, h_shadow, h_supply, h_svc, h_switchSt, h_trims, h_waitMaint, h_waits, ↓State.fwActivate_but, ↓State.sweepEnd_but, ↓State.each_but, ↓State.ite_but]; done)
    | (refine (State.each_but _ _ _ _ (fun s x _ => ?_)).trans ?_ <;> (try dsimp only) <;> (repeat' split) <;> first
      | with_reducible rfl
      | (simp [h_armed, h_asms, h_caps, h_chans, h_entries, h_events, h_fwWaitAt, h_host, h_inbox, h_later, h_ledger, h_mgmtDown, h_parts, h_peerReq, h_queueC, h_regs, h_sec, h_sessions, h_sets, h_shadow, h_supply, h_svc, h_switchSt, h_trims, h_waitMaint, h_waits, ↓State.fwActivate_but, ↓State.sweepEnd_but, ↓State.each_but, ↓State.ite_but]; done))
    | (rename_i heq; have hk := congrArg (fun x => x.1.but l) heq; simp [h_armed, h_asms, h_caps, h_chans, h_entries, h_events, h_fwWaitAt, h_host, h_inbox, h_later, h_ledger, h_mgmtDown, h_parts, h_peerReq, h_queueC, h_regs, h_sec, h_sessions, h_sets, h_shadow, h_supply, h_svc, h_switchSt, h_trims, h_waitMaint, h_waits, ↓State.fwActivate_but, ↓State.sweepEnd_but, ↓State.each_but, ↓State.ite_but] at hk; simp [hk, h_armed, h_asms, h_caps, h_chans, h_entries, h_events, h_fwWaitAt, h_host, h_inbox, h_later, h_ledger, h_mgmtDown, h_parts, h_peerReq, h_queueC, h_regs, h_sec, h_sessions, h_sets, h_shadow, h_supply, h_svc, h_switchSt, h_trims, h_waitMaint, h_waits, ↓State.fwActivate_but, ↓State.sweepEnd_but, ↓State.each_but, ↓State.ite_but]; done))

end Sys2Proof.Machine
end

