-- ==== Sys2Proof/Laws/Keep/Sequence.lean ====
section
/-! SUPPORT. The frames of the operations of Machine/Sequence.lean: the parts of the state that each of them can change. -/
set_option linter.all false

namespace Sys2Proof.Machine

theorem execBarrierAdvance_but (n : Fin 4) (s : State) (l : List Fld) (h_actions : Fld.actions ∈ l) (h_caps : Fld.caps ∈ l) (h_chans : Fld.chans ∈ l) (h_clusters : Fld.clusters ∈ l) (h_drives : Fld.drives ∈ l) (h_ens : Fld.ens ∈ l) (h_entries : Fld.entries ∈ l) (h_events : Fld.events ∈ l) (h_groups : Fld.groups ∈ l) (h_latches : Fld.latches ∈ l) (h_parts : Fld.parts ∈ l) (h_ports : Fld.ports ∈ l) (h_regs : Fld.regs ∈ l) (h_safeN : Fld.safeN ∈ l) (h_trims : Fld.trims ∈ l) (h_waitMaint : Fld.waitMaint ∈ l) :
    ∀ t, execBarrierAdvance n s = .next t → t.but l = s.but l := by
  intro t ht
  unfold execBarrierAdvance at ht
  (try simp only [ok] at ht); (repeat' split at ht) <;> (replace ht := Host.Outcome.next.inj ht; subst ht; first
    | with_reducible rfl
    | (simp [h_actions, h_caps, h_chans, h_clusters, h_drives, h_ens, h_entries, h_events, h_groups, h_latches, h_parts, h_ports, h_regs, h_safeN, h_trims, h_waitMaint, ↓State.advance_but, ↓State.bump16_but, ↓State.setGroup_but, ↓State.setReg_but, ↓State.ite_but]; done))

theorem execGuardEnd_but (n : Fin 4) (s : State) (l : List Fld) (h_groups : Fld.groups ∈ l) :
    ∀ t, execGuardEnd n s = .next t → t.but l = s.but l := by
  intro t ht
  unfold execGuardEnd at ht
  (try simp only [ok] at ht); (repeat' split at ht) <;> (replace ht := Host.Outcome.next.inj ht; subst ht; first
    | with_reducible rfl
    | (simp [h_groups, ↓State.setGroup_but, ↓State.ite_but]; done)
    | (rename_i heq; have hk := congrArg (fun x => x.1.but l) heq; simp [h_groups, ↓State.setGroup_but, ↓State.ite_but] at hk; simp [hk, h_groups, ↓State.setGroup_but, ↓State.ite_but]; done))

@[simp] theorem State.goalRequest_but (s : State) (n v : Nat) (l : List Fld) (h_actions : Fld.actions ∈ l) (h_caps : Fld.caps ∈ l) (h_chans : Fld.chans ∈ l) (h_clusters : Fld.clusters ∈ l) (h_drives : Fld.drives ∈ l) (h_ens : Fld.ens ∈ l) (h_entries : Fld.entries ∈ l) (h_events : Fld.events ∈ l) (h_groups : Fld.groups ∈ l) (h_latches : Fld.latches ∈ l) (h_parts : Fld.parts ∈ l) (h_ports : Fld.ports ∈ l) (h_regs : Fld.regs ∈ l) (h_reply : Fld.reply ∈ l) (h_safeN : Fld.safeN ∈ l) (h_status : Fld.status ∈ l) (h_trims : Fld.trims ∈ l) (h_waitMaint : Fld.waitMaint ∈ l) : (State.goalRequest s n v).but l = s.but l := by
  unfold State.goalRequest
  simp [h_actions, h_caps, h_chans, h_clusters, h_drives, h_ens, h_entries, h_events, h_groups, h_latches, h_parts, h_ports, h_regs, h_reply, h_safeN, h_status, h_trims, h_waitMaint, ↓State.answer_but, ↓State.goalWrite_but, ↓State.ite_but]

theorem execGoal_but (r : Role) (n : Fin 4) (v : Byte) (s : State) (l : List Fld) (h_actions : Fld.actions ∈ l) (h_caps : Fld.caps ∈ l) (h_chans : Fld.chans ∈ l) (h_clusters : Fld.clusters ∈ l) (h_drives : Fld.drives ∈ l) (h_ens : Fld.ens ∈ l) (h_entries : Fld.entries ∈ l) (h_events : Fld.events ∈ l) (h_groups : Fld.groups ∈ l) (h_latches : Fld.latches ∈ l) (h_parts : Fld.parts ∈ l) (h_ports : Fld.ports ∈ l) (h_regs : Fld.regs ∈ l) (h_reply : Fld.reply ∈ l) (h_safeN : Fld.safeN ∈ l) (h_status : Fld.status ∈ l) (h_trims : Fld.trims ∈ l) (h_waitMaint : Fld.waitMaint ∈ l) :
    ∀ t, execGoal r n v s = .next t → t.but l = s.but l := by
  intro t ht
  unfold execGoal at ht
  (try simp only [ok] at ht); (repeat' split at ht) <;> (replace ht := Host.Outcome.next.inj ht; subst ht; first
    | with_reducible rfl
    | (simp [h_actions, h_caps, h_chans, h_clusters, h_drives, h_ens, h_entries, h_events, h_groups, h_latches, h_parts, h_ports, h_regs, h_reply, h_safeN, h_status, h_trims, h_waitMaint, ↓State.goalRequest_but, ↓State.item_but, ↓State.ite_but]; done)
    | ((first
        | refine State.item_but _ _ _ _ _ _ h_regs h_reply h_status (fun s => ?_)
        | refine State.itemLen_but _ _ _ _ _ _ _ h_regs h_reply h_status (fun s => ?_)) <;> (try dsimp only) <;> (repeat' split) <;> first
      | with_reducible rfl
      | (simp [h_actions, h_caps, h_chans, h_clusters, h_drives, h_ens, h_entries, h_events, h_groups, h_latches, h_parts, h_ports, h_regs, h_reply, h_safeN, h_status, h_trims, h_waitMaint, ↓State.goalRequest_but, ↓State.item_but, ↓State.ite_but]; done)
      | (rename_i heq; have hk := congrArg (fun x => x.1.but l) heq; simp [h_actions, h_caps, h_chans, h_clusters, h_drives, h_ens, h_entries, h_events, h_groups, h_latches, h_parts, h_ports, h_regs, h_reply, h_safeN, h_status, h_trims, h_waitMaint, ↓State.goalRequest_but, ↓State.item_but, ↓State.ite_but] at hk; simp [hk, h_actions, h_caps, h_chans, h_clusters, h_drives, h_ens, h_entries, h_events, h_groups, h_latches, h_parts, h_ports, h_regs, h_reply, h_safeN, h_status, h_trims, h_waitMaint, ↓State.goalRequest_but, ↓State.item_but, ↓State.ite_but]; done)))

@[simp] theorem State.startWrite_but (s : State) (p : Nat) (l : List Fld) (h_actions : Fld.actions ∈ l) (h_caps : Fld.caps ∈ l) (h_chans : Fld.chans ∈ l) (h_clusters : Fld.clusters ∈ l) (h_drives : Fld.drives ∈ l) (h_ens : Fld.ens ∈ l) (h_entries : Fld.entries ∈ l) (h_events : Fld.events ∈ l) (h_groups : Fld.groups ∈ l) (h_latches : Fld.latches ∈ l) (h_parts : Fld.parts ∈ l) (h_ports : Fld.ports ∈ l) (h_regs : Fld.regs ∈ l) (h_reply : Fld.reply ∈ l) (h_safeN : Fld.safeN ∈ l) (h_status : Fld.status ∈ l) (h_trims : Fld.trims ∈ l) (h_waitMaint : Fld.waitMaint ∈ l) : (State.startWrite s p).but l = s.but l := by
  unfold State.startWrite
  (try dsimp only); (repeat' split) <;> first
    | with_reducible rfl
    | (simp [h_actions, h_caps, h_chans, h_clusters, h_drives, h_ens, h_entries, h_events, h_groups, h_latches, h_parts, h_ports, h_regs, h_reply, h_safeN, h_status, h_trims, h_waitMaint, ↓State.answer_but, ↓State.startOrWait_but, ↓State.ite_but]; done)
    | (rename_i heq; have hk := congrArg (fun x => x.1.but l) heq; simp [h_actions, h_caps, h_chans, h_clusters, h_drives, h_ens, h_entries, h_events, h_groups, h_latches, h_parts, h_ports, h_regs, h_reply, h_safeN, h_status, h_trims, h_waitMaint, ↓State.answer_but, ↓State.startOrWait_but, ↓State.ite_but] at hk; simp [hk, h_actions, h_caps, h_chans, h_clusters, h_drives, h_ens, h_entries, h_events, h_groups, h_latches, h_parts, h_ports, h_regs, h_reply, h_safeN, h_status, h_trims, h_waitMaint, ↓State.answer_but, ↓State.startOrWait_but, ↓State.ite_but]; done)

theorem execStart_but (r : Role) (p : Fin 16) (v : Byte) (s : State) (l : List Fld) (h_actions : Fld.actions ∈ l) (h_caps : Fld.caps ∈ l) (h_chans : Fld.chans ∈ l) (h_clusters : Fld.clusters ∈ l) (h_drives : Fld.drives ∈ l) (h_ens : Fld.ens ∈ l) (h_entries : Fld.entries ∈ l) (h_events : Fld.events ∈ l) (h_groups : Fld.groups ∈ l) (h_latches : Fld.latches ∈ l) (h_parts : Fld.parts ∈ l) (h_ports : Fld.ports ∈ l) (h_regs : Fld.regs ∈ l) (h_reply : Fld.reply ∈ l) (h_safeN : Fld.safeN ∈ l) (h_status : Fld.status ∈ l) (h_trims : Fld.trims ∈ l) (h_waitMaint : Fld.waitMaint ∈ l) :
    ∀ t, execStart r p v s = .next t → t.but l = s.but l := by
  intro t ht
  unfold execStart at ht
  (try simp only [ok] at ht); (repeat' split at ht) <;> (replace ht := Host.Outcome.next.inj ht; subst ht; first
    | with_reducible rfl
    | (simp [h_actions, h_caps, h_chans, h_clusters, h_drives, h_ens, h_entries, h_events, h_groups, h_latches, h_parts, h_ports, h_regs, h_reply, h_safeN, h_status, h_trims, h_waitMaint, ↓State.item_but, ↓State.startWrite_but, ↓State.ite_but]; done)
    | ((first
        | refine State.item_but _ _ _ _ _ _ h_regs h_reply h_status (fun s => ?_)
        | refine State.itemLen_but _ _ _ _ _ _ _ h_regs h_reply h_status (fun s => ?_)) <;> (try dsimp only) <;> (repeat' split) <;> first
      | with_reducible rfl
      | (simp [h_actions, h_caps, h_chans, h_clusters, h_drives, h_ens, h_entries, h_events, h_groups, h_latches, h_parts, h_ports, h_regs, h_reply, h_safeN, h_status, h_trims, h_waitMaint, ↓State.item_but, ↓State.startWrite_but, ↓State.ite_but]; done)
      | (rename_i heq; have hk := congrArg (fun x => x.1.but l) heq; simp [h_actions, h_caps, h_chans, h_clusters, h_drives, h_ens, h_entries, h_events, h_groups, h_latches, h_parts, h_ports, h_regs, h_reply, h_safeN, h_status, h_trims, h_waitMaint, ↓State.item_but, ↓State.startWrite_but, ↓State.ite_but] at hk; simp [hk, h_actions, h_caps, h_chans, h_clusters, h_drives, h_ens, h_entries, h_events, h_groups, h_latches, h_parts, h_ports, h_regs, h_reply, h_safeN, h_status, h_trims, h_waitMaint, ↓State.item_but, ↓State.startWrite_but, ↓State.ite_but]; done)))

@[simp] theorem State.stopWrite_but (s : State) (p : Nat) (l : List Fld) (h_actions : Fld.actions ∈ l) (h_caps : Fld.caps ∈ l) (h_chans : Fld.chans ∈ l) (h_clusters : Fld.clusters ∈ l) (h_drives : Fld.drives ∈ l) (h_ens : Fld.ens ∈ l) (h_entries : Fld.entries ∈ l) (h_events : Fld.events ∈ l) (h_groups : Fld.groups ∈ l) (h_latches : Fld.latches ∈ l) (h_parts : Fld.parts ∈ l) (h_ports : Fld.ports ∈ l) (h_regs : Fld.regs ∈ l) (h_reply : Fld.reply ∈ l) (h_safeN : Fld.safeN ∈ l) (h_status : Fld.status ∈ l) (h_trims : Fld.trims ∈ l) (h_waitMaint : Fld.waitMaint ∈ l) : (State.stopWrite s p).but l = s.but l := by
  unfold State.stopWrite
  simp [h_actions, h_caps, h_chans, h_clusters, h_drives, h_ens, h_entries, h_events, h_groups, h_latches, h_parts, h_ports, h_regs, h_reply, h_safeN, h_status, h_trims, h_waitMaint, ↓State.answer_but, ↓State.stopPart_but, ↓State.ite_but]

theorem execStop_but (r : Role) (p : Fin 16) (v : Byte) (s : State) (l : List Fld) (h_actions : Fld.actions ∈ l) (h_caps : Fld.caps ∈ l) (h_chans : Fld.chans ∈ l) (h_clusters : Fld.clusters ∈ l) (h_drives : Fld.drives ∈ l) (h_ens : Fld.ens ∈ l) (h_entries : Fld.entries ∈ l) (h_events : Fld.events ∈ l) (h_groups : Fld.groups ∈ l) (h_latches : Fld.latches ∈ l) (h_parts : Fld.parts ∈ l) (h_ports : Fld.ports ∈ l) (h_regs : Fld.regs ∈ l) (h_reply : Fld.reply ∈ l) (h_safeN : Fld.safeN ∈ l) (h_status : Fld.status ∈ l) (h_trims : Fld.trims ∈ l) (h_waitMaint : Fld.waitMaint ∈ l) :
    ∀ t, execStop r p v s = .next t → t.but l = s.but l := by
  intro t ht
  unfold execStop at ht
  (try simp only [ok] at ht); (repeat' split at ht) <;> (replace ht := Host.Outcome.next.inj ht; subst ht; first
    | with_reducible rfl
    | (simp [h_actions, h_caps, h_chans, h_clusters, h_drives, h_ens, h_entries, h_events, h_groups, h_latches, h_parts, h_ports, h_regs, h_reply, h_safeN, h_status, h_trims, h_waitMaint, ↓State.item_but, ↓State.stopWrite_but, ↓State.ite_but]; done)
    | ((first
        | refine State.item_but _ _ _ _ _ _ h_regs h_reply h_status (fun s => ?_)
        | refine State.itemLen_but _ _ _ _ _ _ _ h_regs h_reply h_status (fun s => ?_)) <;> (try dsimp only) <;> (repeat' split) <;> first
      | with_reducible rfl
      | (simp [h_actions, h_caps, h_chans, h_clusters, h_drives, h_ens, h_entries, h_events, h_groups, h_latches, h_parts, h_ports, h_regs, h_reply, h_safeN, h_status, h_trims, h_waitMaint, ↓State.item_but, ↓State.stopWrite_but, ↓State.ite_but]; done)
      | (rename_i heq; have hk := congrArg (fun x => x.1.but l) heq; simp [h_actions, h_caps, h_chans, h_clusters, h_drives, h_ens, h_entries, h_events, h_groups, h_latches, h_parts, h_ports, h_regs, h_reply, h_safeN, h_status, h_trims, h_waitMaint, ↓State.item_but, ↓State.stopWrite_but, ↓State.ite_but] at hk; simp [hk, h_actions, h_caps, h_chans, h_clusters, h_drives, h_ens, h_entries, h_events, h_groups, h_latches, h_parts, h_ports, h_regs, h_reply, h_safeN, h_status, h_trims, h_waitMaint, ↓State.item_but, ↓State.stopWrite_but, ↓State.ite_but]; done)))

theorem execStartPendingRelease_but (p : Fin 16) (s : State) (l : List Fld) (h_actions : Fld.actions ∈ l) (h_caps : Fld.caps ∈ l) (h_chans : Fld.chans ∈ l) (h_clusters : Fld.clusters ∈ l) (h_drives : Fld.drives ∈ l) (h_ens : Fld.ens ∈ l) (h_entries : Fld.entries ∈ l) (h_events : Fld.events ∈ l) (h_groups : Fld.groups ∈ l) (h_latches : Fld.latches ∈ l) (h_log : Fld.log ∈ l) (h_parts : Fld.parts ∈ l) (h_ports : Fld.ports ∈ l) (h_regs : Fld.regs ∈ l) (h_safeN : Fld.safeN ∈ l) (h_trims : Fld.trims ∈ l) (h_waitMaint : Fld.waitMaint ∈ l) :
    ∀ t, execStartPendingRelease p s = .next t → t.but l = s.but l := by
  intro t ht
  unfold execStartPendingRelease at ht
  (try simp only [ok] at ht); (repeat' split at ht) <;> (replace ht := Host.Outcome.next.inj ht; subst ht; first
    | with_reducible rfl
    | (simp [h_actions, h_caps, h_chans, h_clusters, h_drives, h_ens, h_entries, h_events, h_groups, h_latches, h_log, h_parts, h_ports, h_regs, h_safeN, h_trims, h_waitMaint, ↓State.join_but, ↓State.restartPart_but, ↓State.ite_but]; done))

@[simp] theorem State.groupReset_but (s : State) (n : Nat) (l : List Fld) (h_groups : Fld.groups ∈ l) (h_regs : Fld.regs ∈ l) (h_reply : Fld.reply ∈ l) (h_status : Fld.status ∈ l) : (State.groupReset s n).but l = s.but l := by
  unfold State.groupReset
  first
  | (simp [h_groups, h_regs, h_reply, h_status, ↓State.answer_but, ↓State.setGroup_but, ↓State.setReg_but, ↓State.ite_but]; done)
  | ((try dsimp only); (repeat' split) <;> first
    | with_reducible rfl
    | (simp [h_groups, h_regs, h_reply, h_status, ↓State.answer_but, ↓State.setGroup_but, ↓State.setReg_but, ↓State.ite_but]; done))

theorem execGroupReset_but (r : Role) (n : Fin 4) (v : Byte) (s : State) (l : List Fld) (h_groups : Fld.groups ∈ l) (h_regs : Fld.regs ∈ l) (h_reply : Fld.reply ∈ l) (h_status : Fld.status ∈ l) :
    ∀ t, execGroupReset r n v s = .next t → t.but l = s.but l := by
  intro t ht
  unfold execGroupReset at ht
  (try simp only [ok] at ht); (repeat' split at ht) <;> (replace ht := Host.Outcome.next.inj ht; subst ht; first
    | with_reducible rfl
    | (simp [h_groups, h_regs, h_reply, h_status, ↓State.groupReset_but, ↓State.item_but, ↓State.ite_but]; done)
    | ((first
        | refine State.item_but _ _ _ _ _ _ h_regs h_reply h_status (fun s => ?_)
        | refine State.itemLen_but _ _ _ _ _ _ _ h_regs h_reply h_status (fun s => ?_)) <;> (try dsimp only) <;> (repeat' split) <;> first
      | with_reducible rfl
      | (simp [h_groups, h_regs, h_reply, h_status, ↓State.groupReset_but, ↓State.item_but, ↓State.ite_but]; done)
      | (rename_i heq; have hk := congrArg (fun x => x.1.but l) heq; simp [h_groups, h_regs, h_reply, h_status, ↓State.groupReset_but, ↓State.item_but, ↓State.ite_but] at hk; simp [hk, h_groups, h_regs, h_reply, h_status, ↓State.groupReset_but, ↓State.item_but, ↓State.ite_but]; done)))

@[simp] theorem State.captureArm_but (s : State) (u : Nat) (l : List Fld) (h_caps : Fld.caps ∈ l) : (State.captureArm s u).but l = s.but l := by
  unfold State.captureArm
  first
  | (simp [h_caps, ↓State.setCap_but, ↓State.ite_but]; done)
  | ((try dsimp only); (repeat' split) <;> first
    | with_reducible rfl
    | (simp [h_caps, ↓State.setCap_but, ↓State.ite_but]; done))

@[simp] theorem State.captureWrite_but (s : State) (u : Nat) (l : List Fld) (h_caps : Fld.caps ∈ l) (h_reply : Fld.reply ∈ l) (h_status : Fld.status ∈ l) : (State.captureWrite s u).but l = s.but l := by
  unfold State.captureWrite
  simp [h_caps, h_reply, h_status, ↓State.answer_but, ↓State.captureArm_but, ↓State.ite_but]

theorem execArmCapture_but (r : Role) (u : Fin 32) (v : Byte) (s : State) (l : List Fld) (h_caps : Fld.caps ∈ l) (h_regs : Fld.regs ∈ l) (h_reply : Fld.reply ∈ l) (h_status : Fld.status ∈ l) :
    ∀ t, execArmCapture r u v s = .next t → t.but l = s.but l := by
  intro t ht
  unfold execArmCapture at ht
  (try simp only [ok] at ht); (repeat' split at ht) <;> (replace ht := Host.Outcome.next.inj ht; subst ht; first
    | with_reducible rfl
    | (simp [h_caps, h_regs, h_reply, h_status, ↓State.captureWrite_but, ↓State.item_but, ↓State.ite_but]; done)
    | ((first
        | refine State.item_but _ _ _ _ _ _ h_regs h_reply h_status (fun s => ?_)
        | refine State.itemLen_but _ _ _ _ _ _ _ h_regs h_reply h_status (fun s => ?_)) <;> (try dsimp only) <;> (repeat' split) <;> first
      | with_reducible rfl
      | (simp [h_caps, h_regs, h_reply, h_status, ↓State.captureWrite_but, ↓State.item_but, ↓State.ite_but]; done)
      | (rename_i heq; have hk := congrArg (fun x => x.1.but l) heq; simp [h_caps, h_regs, h_reply, h_status, ↓State.captureWrite_but, ↓State.item_but, ↓State.ite_but] at hk; simp [hk, h_caps, h_regs, h_reply, h_status, ↓State.captureWrite_but, ↓State.item_but, ↓State.ite_but]; done)))

theorem execCaptureOccurrence_but (u : Fin 32) (start : Bool) (s : State) (l : List Fld) (h_caps : Fld.caps ∈ l) :
    ∀ t, execCaptureOccurrence u start s = .next t → t.but l = s.but l := by
  intro t ht
  unfold execCaptureOccurrence at ht
  (try simp only [ok] at ht); (repeat' split at ht) <;> (replace ht := Host.Outcome.next.inj ht; subst ht; first
    | with_reducible rfl
    | (simp [h_caps, ↓State.setCap_but, ↓State.ite_but]; done))

theorem execCaptureLimit_but (u : Fin 32) (s : State) (l : List Fld) (h_caps : Fld.caps ∈ l) :
    ∀ t, execCaptureLimit u s = .next t → t.but l = s.but l := by
  intro t ht
  unfold execCaptureLimit at ht
  (try simp only [ok] at ht); (repeat' split at ht) <;> (replace ht := Host.Outcome.next.inj ht; subst ht; first
    | with_reducible rfl
    | (simp [h_caps, ↓State.captureEnd_but, ↓State.ite_but]; done))

@[simp] theorem State.waitAction_but (s : State) (p e w : Nat) (quota : Bool) (l : List Fld) (h_actions : Fld.actions ∈ l) (h_events : Fld.events ∈ l) (h_parts : Fld.parts ∈ l) (h_regs : Fld.regs ∈ l) : (State.waitAction s p e w quota).but l = s.but l := by
  unfold State.waitAction
  first
  | (simp [h_actions, h_events, h_parts, h_regs, ↓State.bump32_but, ↓State.raise_but, ↓State.setAction_but, ↓State.setPart_but, ↓State.ite_but]; done)
  | ((try dsimp only); (repeat' split) <;> first
    | with_reducible rfl
    | (simp [h_actions, h_events, h_parts, h_regs, ↓State.bump32_but, ↓State.raise_but, ↓State.setAction_but, ↓State.setPart_but, ↓State.ite_but]; done)
    | (rename_i heq; have hk := congrArg (fun x => x.1.but l) heq; simp [h_actions, h_events, h_parts, h_regs, ↓State.bump32_but, ↓State.raise_but, ↓State.setAction_but, ↓State.setPart_but, ↓State.ite_but] at hk; simp [hk, h_actions, h_events, h_parts, h_regs, ↓State.bump32_but, ↓State.raise_but, ↓State.setAction_but, ↓State.setPart_but, ↓State.ite_but]; done))

@[simp] theorem State.armAction_but (s : State) (e : Nat) (l : List Fld) (h_actions : Fld.actions ∈ l) (h_events : Fld.events ∈ l) (h_parts : Fld.parts ∈ l) (h_regs : Fld.regs ∈ l) : (State.armAction s e).but l = s.but l := by
  unfold State.armAction
  first
  | (simp [h_actions, h_events, h_parts, h_regs, ↓State.setAction_but, ↓State.waitAction_but, ↓State.ite_but]; done)
  | ((try dsimp only); (repeat' split) <;> first
    | with_reducible rfl
    | (simp [h_actions, h_events, h_parts, h_regs, ↓State.setAction_but, ↓State.waitAction_but, ↓State.ite_but]; done)
    | (rename_i heq; have hk := congrArg (fun x => x.1.but l) heq; simp [h_actions, h_events, h_parts, h_regs, ↓State.setAction_but, ↓State.waitAction_but, ↓State.ite_but] at hk; simp [h_actions, h_events, h_parts, h_regs, ↓State.setAction_but, ↓State.waitAction_but, ↓State.ite_but, hk]; done))

theorem execActionArm_but (e : Fin 4096) (s : State) (l : List Fld) (h_actions : Fld.actions ∈ l) (h_active : Fld.active ∈ l) (h_armed : Fld.armed ∈ l) (h_asms : Fld.asms ∈ l) (h_chans : Fld.chans ∈ l) (h_clusters : Fld.clusters ∈ l) (h_committed : Fld.committed ∈ l) (h_downs : Fld.downs ∈ l) (h_drives : Fld.drives ∈ l) (h_ens : Fld.ens ∈ l) (h_entries : Fld.entries ∈ l) (h_events : Fld.events ∈ l) (h_host : Fld.host ∈ l) (h_inbox : Fld.inbox ∈ l) (h_ledger : Fld.ledger ∈ l) (h_parts : Fld.parts ∈ l) (h_prior : Fld.prior ∈ l) (h_regs : Fld.regs ∈ l) (h_sessions : Fld.sessions ∈ l) (h_sets : Fld.sets ∈ l) (h_streams : Fld.streams ∈ l) (h_supply : Fld.supply ∈ l) (h_switchSt : Fld.switchSt ∈ l) (h_t1sSleep : Fld.t1sSleep ∈ l) (h_thermal : Fld.thermal ∈ l) (h_trestle : Fld.trestle ∈ l) (h_trims : Fld.trims ∈ l) (h_waits : Fld.waits ∈ l) :
    ∀ t, execActionArm e s = .next t → t.but l = s.but l := by
  intro t ht
  unfold execActionArm at ht
  (try simp only [ok] at ht); (repeat' split at ht) <;> (replace ht := Host.Outcome.next.inj ht; subst ht; first
    | with_reducible rfl
    | (simp [h_actions, h_active, h_armed, h_asms, h_chans, h_clusters, h_committed, h_downs, h_drives, h_ens, h_entries, h_events, h_host, h_inbox, h_ledger, h_parts, h_prior, h_regs, h_sessions, h_sets, h_streams, h_supply, h_switchSt, h_t1sSleep, h_thermal, h_trestle, h_trims, h_waits, ↓State.armAction_but, ↓State.inBank_but, ↓State.swapIfDue_but, ↓State.ite_but]; done))

@[simp] theorem State.finish_but (s : State) (p e : Nat) (l : List Fld) (h_actions : Fld.actions ∈ l) (h_caps : Fld.caps ∈ l) (h_chans : Fld.chans ∈ l) (h_clusters : Fld.clusters ∈ l) (h_drives : Fld.drives ∈ l) (h_ens : Fld.ens ∈ l) (h_entries : Fld.entries ∈ l) (h_events : Fld.events ∈ l) (h_groups : Fld.groups ∈ l) (h_latches : Fld.latches ∈ l) (h_parts : Fld.parts ∈ l) (h_ports : Fld.ports ∈ l) (h_regs : Fld.regs ∈ l) (h_safeN : Fld.safeN ∈ l) (h_trims : Fld.trims ∈ l) (h_waitMaint : Fld.waitMaint ∈ l) : (State.finish s p e).but l = s.but l := by
  unfold State.finish
  simp [h_actions, h_caps, h_chans, h_clusters, h_drives, h_ens, h_entries, h_events, h_groups, h_latches, h_parts, h_ports, h_regs, h_safeN, h_trims, h_waitMaint, ↓State.dropAction_but, ↓State.orderAdvance_but, ↓State.ite_but]

@[simp] theorem State.flagged_but (s : State) (p e reason : Nat) (l : List Fld) (h_actions : Fld.actions ∈ l) (h_caps : Fld.caps ∈ l) (h_chans : Fld.chans ∈ l) (h_clusters : Fld.clusters ∈ l) (h_drives : Fld.drives ∈ l) (h_ens : Fld.ens ∈ l) (h_entries : Fld.entries ∈ l) (h_events : Fld.events ∈ l) (h_groups : Fld.groups ∈ l) (h_latches : Fld.latches ∈ l) (h_parts : Fld.parts ∈ l) (h_ports : Fld.ports ∈ l) (h_regs : Fld.regs ∈ l) (h_safeN : Fld.safeN ∈ l) (h_trims : Fld.trims ∈ l) (h_waitMaint : Fld.waitMaint ∈ l) : (State.flagged s p e reason).but l = s.but l := by
  unfold State.flagged
  simp [h_actions, h_caps, h_chans, h_clusters, h_drives, h_ens, h_entries, h_events, h_groups, h_latches, h_parts, h_ports, h_regs, h_safeN, h_trims, h_waitMaint, ↓State.bump16_but, ↓State.finish_but, ↓State.raise_but, ↓State.ite_but]

@[simp] theorem State.skipped_but (s : State) (p e : Nat) (l : List Fld) (h_actions : Fld.actions ∈ l) (h_caps : Fld.caps ∈ l) (h_chans : Fld.chans ∈ l) (h_clusters : Fld.clusters ∈ l) (h_drives : Fld.drives ∈ l) (h_ens : Fld.ens ∈ l) (h_entries : Fld.entries ∈ l) (h_events : Fld.events ∈ l) (h_groups : Fld.groups ∈ l) (h_latches : Fld.latches ∈ l) (h_parts : Fld.parts ∈ l) (h_ports : Fld.ports ∈ l) (h_regs : Fld.regs ∈ l) (h_safeN : Fld.safeN ∈ l) (h_trims : Fld.trims ∈ l) (h_waitMaint : Fld.waitMaint ∈ l) : (State.skipped s p e).but l = s.but l := by
  unfold State.skipped
  simp [h_actions, h_caps, h_chans, h_clusters, h_drives, h_ens, h_entries, h_events, h_groups, h_latches, h_parts, h_ports, h_regs, h_safeN, h_trims, h_waitMaint, ↓State.bump16_but, ↓State.finish_but, ↓State.raise_but, ↓State.ite_but]

@[simp] theorem State.actIssue_but (s : State) (p e w : Nat) (l : List Fld) (h_actions : Fld.actions ∈ l) (h_caps : Fld.caps ∈ l) (h_chans : Fld.chans ∈ l) (h_clusters : Fld.clusters ∈ l) (h_drives : Fld.drives ∈ l) (h_ens : Fld.ens ∈ l) (h_entries : Fld.entries ∈ l) (h_events : Fld.events ∈ l) (h_groups : Fld.groups ∈ l) (h_latches : Fld.latches ∈ l) (h_parts : Fld.parts ∈ l) (h_ports : Fld.ports ∈ l) (h_regs : Fld.regs ∈ l) (h_safeN : Fld.safeN ∈ l) (h_trims : Fld.trims ∈ l) (h_waitMaint : Fld.waitMaint ∈ l) : (State.actIssue s p e w).1.but l = s.but l := by
  unfold State.actIssue
  (try dsimp only); (repeat' split) <;> first
    | with_reducible rfl
    | (simp [h_actions, h_caps, h_chans, h_clusters, h_drives, h_ens, h_entries, h_events, h_groups, h_latches, h_parts, h_ports, h_regs, h_safeN, h_trims, h_waitMaint, ↓State.armChan_but, ↓State.askPort_but, ↓State.assertEn_but, ↓State.captureArm_but, ↓State.chanOff_but, ↓State.deassertEn_but, ↓State.gateTrip_but, ↓State.latchEn_but, ↓State.setChan_but, ↓State.each_but, ↓State.ite_but]; done)
    | (refine (State.each_but _ _ _ _ (fun s x _ => ?_)).trans ?_ <;> (try dsimp only) <;> (repeat' split) <;> first
      | with_reducible rfl
      | (simp [h_actions, h_caps, h_chans, h_clusters, h_drives, h_ens, h_entries, h_events, h_groups, h_latches, h_parts, h_ports, h_regs, h_safeN, h_trims, h_waitMaint, ↓State.armChan_but, ↓State.askPort_but, ↓State.assertEn_but, ↓State.captureArm_but, ↓State.chanOff_but, ↓State.deassertEn_but, ↓State.gateTrip_but, ↓State.latchEn_but, ↓State.setChan_but, ↓State.each_but, ↓State.ite_but]; done))
    | (rename_i heq; have hk := congrArg (fun x => x.1.but l) heq; simp [h_actions, h_caps, h_chans, h_clusters, h_drives, h_ens, h_entries, h_events, h_groups, h_latches, h_parts, h_ports, h_regs, h_safeN, h_trims, h_waitMaint, ↓State.armChan_but, ↓State.askPort_but, ↓State.assertEn_but, ↓State.captureArm_but, ↓State.chanOff_but, ↓State.deassertEn_but, ↓State.gateTrip_but, ↓State.latchEn_but, ↓State.setChan_but, ↓State.each_but, ↓State.ite_but] at hk; simp [hk, h_actions, h_caps, h_chans, h_clusters, h_drives, h_ens, h_entries, h_events, h_groups, h_latches, h_parts, h_ports, h_regs, h_safeN, h_trims, h_waitMaint, ↓State.armChan_but, ↓State.askPort_but, ↓State.assertEn_but, ↓State.captureArm_but, ↓State.chanOff_but, ↓State.deassertEn_but, ↓State.gateTrip_but, ↓State.latchEn_but, ↓State.setChan_but, ↓State.each_but, ↓State.ite_but]; done)

@[simp] theorem State.issueAction_but (s : State) (e : Nat) (l : List Fld) (h_actions : Fld.actions ∈ l) (h_caps : Fld.caps ∈ l) (h_chans : Fld.chans ∈ l) (h_clusters : Fld.clusters ∈ l) (h_drives : Fld.drives ∈ l) (h_ens : Fld.ens ∈ l) (h_entries : Fld.entries ∈ l) (h_events : Fld.events ∈ l) (h_groups : Fld.groups ∈ l) (h_latches : Fld.latches ∈ l) (h_parts : Fld.parts ∈ l) (h_ports : Fld.ports ∈ l) (h_regs : Fld.regs ∈ l) (h_safeN : Fld.safeN ∈ l) (h_trims : Fld.trims ∈ l) (h_waitMaint : Fld.waitMaint ∈ l) : (State.issueAction s e).but l = s.but l := by
  unfold State.issueAction
  first
  | (simp [h_actions, h_caps, h_chans, h_clusters, h_drives, h_ens, h_entries, h_events, h_groups, h_latches, h_parts, h_ports, h_regs, h_safeN, h_trims, h_waitMaint, ↓State.actIssue_but, ↓State.finish_but, ↓State.flagged_but, ↓State.setAction_but, ↓State.skipped_but, ↓State.ite_but]; done)
  | ((try dsimp only); (repeat' split) <;> first
    | with_reducible rfl
    | (simp [h_actions, h_caps, h_chans, h_clusters, h_drives, h_ens, h_entries, h_events, h_groups, h_latches, h_parts, h_ports, h_regs, h_safeN, h_trims, h_waitMaint, ↓State.actIssue_but, ↓State.finish_but, ↓State.flagged_but, ↓State.setAction_but, ↓State.skipped_but, ↓State.ite_but]; done)
    | (rename_i heq; have hk := congrArg (fun x => x.1.but l) heq; simp [h_actions, h_caps, h_chans, h_clusters, h_drives, h_ens, h_entries, h_events, h_groups, h_latches, h_parts, h_ports, h_regs, h_safeN, h_trims, h_waitMaint, ↓State.actIssue_but, ↓State.finish_but, ↓State.flagged_but, ↓State.setAction_but, ↓State.skipped_but, ↓State.ite_but] at hk; simp [h_actions, h_caps, h_chans, h_clusters, h_drives, h_ens, h_entries, h_events, h_groups, h_latches, h_parts, h_ports, h_regs, h_safeN, h_trims, h_waitMaint, ↓State.actIssue_but, ↓State.finish_but, ↓State.flagged_but, ↓State.setAction_but, ↓State.skipped_but, ↓State.ite_but, hk]; done))

theorem execActionIssue_but (e : Fin 4096) (s : State) (l : List Fld) (h_actions : Fld.actions ∈ l) (h_active : Fld.active ∈ l) (h_armed : Fld.armed ∈ l) (h_asms : Fld.asms ∈ l) (h_caps : Fld.caps ∈ l) (h_chans : Fld.chans ∈ l) (h_clusters : Fld.clusters ∈ l) (h_committed : Fld.committed ∈ l) (h_downs : Fld.downs ∈ l) (h_drives : Fld.drives ∈ l) (h_ens : Fld.ens ∈ l) (h_entries : Fld.entries ∈ l) (h_events : Fld.events ∈ l) (h_groups : Fld.groups ∈ l) (h_host : Fld.host ∈ l) (h_inbox : Fld.inbox ∈ l) (h_latches : Fld.latches ∈ l) (h_ledger : Fld.ledger ∈ l) (h_parts : Fld.parts ∈ l) (h_ports : Fld.ports ∈ l) (h_prior : Fld.prior ∈ l) (h_regs : Fld.regs ∈ l) (h_safeN : Fld.safeN ∈ l) (h_sessions : Fld.sessions ∈ l) (h_sets : Fld.sets ∈ l) (h_streams : Fld.streams ∈ l) (h_supply : Fld.supply ∈ l) (h_switchSt : Fld.switchSt ∈ l) (h_t1sSleep : Fld.t1sSleep ∈ l) (h_thermal : Fld.thermal ∈ l) (h_trestle : Fld.trestle ∈ l) (h_trims : Fld.trims ∈ l) (h_waitMaint : Fld.waitMaint ∈ l) (h_waits : Fld.waits ∈ l) :
    ∀ t, execActionIssue e s = .next t → t.but l = s.but l := by
  intro t ht
  unfold execActionIssue at ht
  (try simp only [ok] at ht); (repeat' split at ht) <;> (replace ht := Host.Outcome.next.inj ht; subst ht; first
    | with_reducible rfl
    | (simp [h_actions, h_active, h_armed, h_asms, h_caps, h_chans, h_clusters, h_committed, h_downs, h_drives, h_ens, h_entries, h_events, h_groups, h_host, h_inbox, h_latches, h_ledger, h_parts, h_ports, h_prior, h_regs, h_safeN, h_sessions, h_sets, h_streams, h_supply, h_switchSt, h_t1sSleep, h_thermal, h_trestle, h_trims, h_waitMaint, h_waits, ↓State.inBank_but, ↓State.issueAction_but, ↓State.swapIfDue_but, ↓State.ite_but]; done)
    | (rename_i heq; have hk := congrArg (fun x => x.1.but l) heq; simp [h_actions, h_active, h_armed, h_asms, h_caps, h_chans, h_clusters, h_committed, h_downs, h_drives, h_ens, h_entries, h_events, h_groups, h_host, h_inbox, h_latches, h_ledger, h_parts, h_ports, h_prior, h_regs, h_safeN, h_sessions, h_sets, h_streams, h_supply, h_switchSt, h_t1sSleep, h_thermal, h_trestle, h_trims, h_waitMaint, h_waits, ↓State.inBank_but, ↓State.issueAction_but, ↓State.swapIfDue_but, ↓State.ite_but] at hk; simp [h_actions, h_active, h_armed, h_asms, h_caps, h_chans, h_clusters, h_committed, h_downs, h_drives, h_ens, h_entries, h_events, h_groups, h_host, h_inbox, h_latches, h_ledger, h_parts, h_ports, h_prior, h_regs, h_safeN, h_sessions, h_sets, h_streams, h_supply, h_switchSt, h_t1sSleep, h_thermal, h_trestle, h_trims, h_waitMaint, h_waits, ↓State.inBank_but, ↓State.issueAction_but, ↓State.swapIfDue_but, ↓State.ite_but, hk]; done))

theorem execActionComplete_but (e : Fin 4096) (s : State) (l : List Fld) (h_actions : Fld.actions ∈ l) (h_caps : Fld.caps ∈ l) (h_chans : Fld.chans ∈ l) (h_clusters : Fld.clusters ∈ l) (h_drives : Fld.drives ∈ l) (h_ens : Fld.ens ∈ l) (h_entries : Fld.entries ∈ l) (h_events : Fld.events ∈ l) (h_groups : Fld.groups ∈ l) (h_latches : Fld.latches ∈ l) (h_parts : Fld.parts ∈ l) (h_ports : Fld.ports ∈ l) (h_regs : Fld.regs ∈ l) (h_safeN : Fld.safeN ∈ l) (h_trims : Fld.trims ∈ l) (h_waitMaint : Fld.waitMaint ∈ l) :
    ∀ t, execActionComplete e s = .next t → t.but l = s.but l := by
  intro t ht
  unfold execActionComplete at ht
  (try simp only [ok] at ht); (repeat' split at ht) <;> (replace ht := Host.Outcome.next.inj ht; subst ht; first
    | with_reducible rfl
    | (simp [h_actions, h_caps, h_chans, h_clusters, h_drives, h_ens, h_entries, h_events, h_groups, h_latches, h_parts, h_ports, h_regs, h_safeN, h_trims, h_waitMaint, ↓State.finish_but, ↓State.flagged_but, ↓State.orderEn_but, ↓State.ite_but]; done)
    | (rename_i heq; have hk := congrArg (fun x => x.1.but l) heq; simp [h_actions, h_caps, h_chans, h_clusters, h_drives, h_ens, h_entries, h_events, h_groups, h_latches, h_parts, h_ports, h_regs, h_safeN, h_trims, h_waitMaint, ↓State.finish_but, ↓State.flagged_but, ↓State.orderEn_but, ↓State.ite_but] at hk; simp [hk, h_actions, h_caps, h_chans, h_clusters, h_drives, h_ens, h_entries, h_events, h_groups, h_latches, h_parts, h_ports, h_regs, h_safeN, h_trims, h_waitMaint, ↓State.finish_but, ↓State.flagged_but, ↓State.orderEn_but, ↓State.ite_but]; done))

theorem execActionTimeout_but (e : Fin 4096) (s : State) (l : List Fld) (h_actions : Fld.actions ∈ l) (h_caps : Fld.caps ∈ l) (h_chans : Fld.chans ∈ l) (h_clusters : Fld.clusters ∈ l) (h_drives : Fld.drives ∈ l) (h_ens : Fld.ens ∈ l) (h_entries : Fld.entries ∈ l) (h_events : Fld.events ∈ l) (h_groups : Fld.groups ∈ l) (h_latches : Fld.latches ∈ l) (h_parts : Fld.parts ∈ l) (h_ports : Fld.ports ∈ l) (h_regs : Fld.regs ∈ l) (h_safeN : Fld.safeN ∈ l) (h_trims : Fld.trims ∈ l) (h_waitMaint : Fld.waitMaint ∈ l) :
    ∀ t, execActionTimeout e s = .next t → t.but l = s.but l := by
  intro t ht
  unfold execActionTimeout at ht
  (try simp only [ok] at ht); (repeat' split at ht) <;> (replace ht := Host.Outcome.next.inj ht; subst ht; first
    | with_reducible rfl
    | (simp [h_actions, h_caps, h_chans, h_clusters, h_drives, h_ens, h_entries, h_events, h_groups, h_latches, h_parts, h_ports, h_regs, h_safeN, h_trims, h_waitMaint, ↓State.flagged_but, ↓State.ite_but]; done)
    | (rename_i heq; have hk := congrArg (fun x => x.1.but l) heq; simp [h_actions, h_caps, h_chans, h_clusters, h_drives, h_ens, h_entries, h_events, h_groups, h_latches, h_parts, h_ports, h_regs, h_safeN, h_trims, h_waitMaint, ↓State.flagged_but, ↓State.ite_but] at hk; simp [hk, h_actions, h_caps, h_chans, h_clusters, h_drives, h_ens, h_entries, h_events, h_groups, h_latches, h_parts, h_ports, h_regs, h_safeN, h_trims, h_waitMaint, ↓State.flagged_but, ↓State.ite_but]; done))

end Sys2Proof.Machine
end

