-- ==== Sys2Proof/Laws/Keep/Supply.lean ====
section
/-! SUPPORT. The frames of the operations of Machine/Supply.lean: the parts of the state that each of them can change. -/
set_option linter.all false

namespace Sys2Proof.Machine

@[simp] theorem State.beginPowerUp_but (s : State) (reason source : Nat) (l : List Fld) (h_regs : Fld.regs ∈ l) (h_supply : Fld.supply ∈ l) : (State.beginPowerUp s reason source).but l = s.but l := by
  unfold State.beginPowerUp
  first
  | (simp [h_regs, h_supply, ↓State.bump32_but, ↓State.setReg_but, ↓State.but_supply, ↓State.ite_but]; done)
  | ((try dsimp only); (repeat' split) <;> first
    | with_reducible rfl
    | (simp [h_regs, h_supply, ↓State.bump32_but, ↓State.setReg_but, ↓State.but_supply, ↓State.ite_but]; done))

@[simp] theorem State.wake_but (s : State) (source : Nat) (l : List Fld) (h_regs : Fld.regs ∈ l) (h_supply : Fld.supply ∈ l) : (State.wake s source).but l = s.but l := by
  unfold State.wake
  simp [h_regs, h_supply, ↓State.beginPowerUp_but, ↓State.ite_but]

theorem execVauxValid_but (s : State) (l : List Fld) (h_regs : Fld.regs ∈ l) (h_supply : Fld.supply ∈ l) :
    ∀ t, execVauxValid s = .next t → t.but l = s.but l := by
  intro t ht
  unfold execVauxValid at ht
  (try simp only [ok] at ht); (repeat' split at ht) <;> (replace ht := Host.Outcome.next.inj ht; subst ht; first
    | with_reducible rfl
    | (simp [h_regs, h_supply, ↓State.beginPowerUp_but, ↓State.wake_but, ↓State.but_supply, ↓State.ite_but]; done))

@[simp] theorem State.sampleStraps_but (s : State) (x : Straps) (l : List Fld) (h_supply : Fld.supply ∈ l) : (State.sampleStraps s x).but l = s.but l := by
  unfold State.sampleStraps
  first
  | (simp [h_supply, ↓State.but_supply, ↓State.ite_but]; done)
  | ((try dsimp only); (repeat' split) <;> first
    | with_reducible rfl
    | (simp [h_supply, ↓State.but_supply, ↓State.ite_but]; done))

@[simp] theorem State.truncated_but (s : State) (l : List Fld) (h_events : Fld.events ∈ l) (h_ledger : Fld.ledger ∈ l) (h_regs : Fld.regs ∈ l) : (State.truncated s).but l = s.but l := by
  unfold State.truncated
  (try dsimp only); (repeat' split) <;> first
    | with_reducible rfl
    | (simp [h_events, h_ledger, h_regs, ↓State.bump16_but, ↓State.ledgerEnqueue_but, ↓State.raise_but, ↓State.setReg_but, ↓State.but_ledger, foldl_but, ↓State.ite_but]; done)
    | (rename_i heq; have hk := congrArg (fun x => x.1.but l) heq; simp [h_events, h_ledger, h_regs, ↓State.bump16_but, ↓State.ledgerEnqueue_but, ↓State.raise_but, ↓State.setReg_but, ↓State.but_ledger, foldl_but, ↓State.ite_but] at hk; simp [hk, h_events, h_ledger, h_regs, ↓State.bump16_but, ↓State.ledgerEnqueue_but, ↓State.raise_but, ↓State.setReg_but, ↓State.but_ledger, foldl_but, ↓State.ite_but]; done)

@[simp] theorem State.lossTold_but (s : State) (l : List Fld) (h_events : Fld.events ∈ l) (h_regs : Fld.regs ∈ l) (h_supply : Fld.supply ∈ l) : (State.lossTold s).but l = s.but l := by
  unfold State.lossTold
  first
  | (simp [h_events, h_regs, h_supply, ↓State.raise_but, ↓State.but_supply, ↓State.ite_but]; done)
  | ((try dsimp only); (repeat' split) <;> first
    | with_reducible rfl
    | (simp [h_events, h_regs, h_supply, ↓State.raise_but, ↓State.but_supply, ↓State.ite_but]; done))

@[simp] theorem State.startClusters_but (s : State) (l : List Fld) (h_clusters : Fld.clusters ∈ l) : (State.startClusters s).but l = s.but l := by
  unfold State.startClusters
  first
  | (simp [h_clusters, ↓State.setCluster_but, ↓State.each_but, ↓State.ite_but]; done)
  | ((try dsimp only); (repeat' split) <;> first
    | with_reducible rfl
    | (simp [h_clusters, ↓State.setCluster_but, ↓State.each_but, ↓State.ite_but]; done)
    | (refine (State.each_but _ _ _ _ (fun s x _ => ?_)).trans ?_ <;> (try dsimp only) <;> (repeat' split) <;> first
      | with_reducible rfl
      | (simp [h_clusters, ↓State.setCluster_but, ↓State.each_but, ↓State.ite_but]; done)))

@[simp] theorem State.lockDebug_but (s : State) (l : List Fld) (h_events : Fld.events ∈ l) (h_regs : Fld.regs ∈ l) (h_sec : Fld.sec ∈ l) : (State.lockDebug s).but l = s.but l := by
  unfold State.lockDebug
  simp [h_events, h_regs, h_sec, ↓State.raise_but, ↓State.but_sec, ↓State.ite_but]

@[simp] theorem State.vcoreUp_but (s : State) (l : List Fld) (h_clusters : Fld.clusters ∈ l) (h_ens : Fld.ens ∈ l) (h_entries : Fld.entries ∈ l) (h_events : Fld.events ∈ l) (h_host : Fld.host ∈ l) (h_log : Fld.log ∈ l) (h_mgmtDown : Fld.mgmtDown ∈ l) (h_nv : Fld.nv ∈ l) (h_parts : Fld.parts ∈ l) (h_regs : Fld.regs ∈ l) (h_supply : Fld.supply ∈ l) : (State.vcoreUp s).but l = s.but l := by
  unfold State.vcoreUp
  extract_lets a
  have ka : a.but l = s.but l := by simp only [a]; simp [h_clusters, h_ens, h_entries, h_events, h_host, h_log, h_mgmtDown, h_nv, h_parts, h_regs, h_supply]
  clear_value a
  refine (State.setReg_but _ _ _ _ h_regs).trans (Eq.trans ?_ ka)
  simp [State.but, h_clusters, h_ens, h_entries, h_events, h_host, h_log, h_mgmtDown, h_nv, h_parts, h_regs, h_supply]

@[simp] theorem State.coldSets_but (s : State) (l : List Fld) (h_sets : Fld.sets ∈ l) : (State.coldSets s).but l = s.but l := by
  unfold State.coldSets
  simp [h_sets, ↓State.setStage_but, ↓State.each_but, ↓State.ite_but]

@[simp] theorem State.judgeCold_but (s : State) (die : Int) (l : List Fld) (h_events : Fld.events ∈ l) (h_log : Fld.log ∈ l) (h_regs : Fld.regs ∈ l) (h_thermal : Fld.thermal ∈ l) : (State.judgeCold s die).but l = s.but l := by
  unfold State.judgeCold
  first
  | (simp [h_events, h_log, h_regs, h_thermal, ↓State.holdDrawers_but, ↓State.limitEvent_but, ↓State.but_thermal, ↓State.ite_but]; done)
  | ((try dsimp only); (repeat' split) <;> first
    | with_reducible rfl
    | (simp [h_events, h_log, h_regs, h_thermal, ↓State.holdDrawers_but, ↓State.limitEvent_but, ↓State.but_thermal, ↓State.ite_but]; done))

@[simp] theorem State.wayCleared_but (s : State) (l : List Fld) (h_events : Fld.events ∈ l) (h_flash : Fld.flash ∈ l) (h_granules : Fld.granules ∈ l) (h_nv : Fld.nv ∈ l) (h_regs : Fld.regs ∈ l) (h_sectors : Fld.sectors ∈ l) : (State.wayCleared s).but l = s.but l := by
  unfold State.wayCleared
  first
  | (simp [h_events, h_flash, h_granules, h_nv, h_regs, h_sectors, ↓State.bump32_but, ↓State.eraseSector_but, ↓State.raise_but, ↓State.redo_but, ↓State.setSector_but, ↓State.but_nv, ↓State.ite_but]; done)
  | ((try dsimp only); (repeat' split) <;> first
    | with_reducible rfl
    | (simp [h_events, h_flash, h_granules, h_nv, h_regs, h_sectors, ↓State.bump32_but, ↓State.eraseSector_but, ↓State.raise_but, ↓State.redo_but, ↓State.setSector_but, ↓State.but_nv, ↓State.ite_but]; done)
    | (rename_i heq; have hk := congrArg (fun x => x.1.but l) heq; simp [h_events, h_flash, h_granules, h_nv, h_regs, h_sectors, ↓State.bump32_but, ↓State.eraseSector_but, ↓State.raise_but, ↓State.redo_but, ↓State.setSector_but, ↓State.but_nv, ↓State.ite_but] at hk; simp [h_events, h_flash, h_granules, h_nv, h_regs, h_sectors, ↓State.bump32_but, ↓State.eraseSector_but, ↓State.raise_but, ↓State.redo_but, ↓State.setSector_but, ↓State.but_nv, ↓State.ite_but, hk]; done))

@[simp] theorem State.commitStaged_but (s : State) (boot : Bool) (k : Nat) (l : List Fld) (h_events : Fld.events ∈ l) (h_flash : Fld.flash ∈ l) (h_granules : Fld.granules ∈ l) (h_log : Fld.log ∈ l) (h_nv : Fld.nv ∈ l) (h_regs : Fld.regs ∈ l) (h_sectors : Fld.sectors ∈ l) : (State.commitStaged s boot k).but l = s.but l := by
  induction k generalizing s with
  | zero => rfl
  | succ k ih =>
    unfold State.commitStaged
    extract_lets e1
    have k1 : e1.but l = s.but l := by simp only [e1]; split <;> simp [h_events, h_flash, h_granules, h_log, h_nv, h_regs, h_sectors, ↓State.beginDrawer_but, ↓State.drawerDone_but, ↓State.setMarkers_but, ↓State.wayCleared_but, ↓State.but_nv, ↓State.ite_but]
    clear_value e1
    refine Eq.trans ?_ k1
    (repeat' split) <;> first
      | rfl
      | (dsimp only; simp [h_events, h_flash, h_granules, h_log, h_nv, h_regs, h_sectors]; done)
      | (dsimp only; split <;> first
          | (simp [h_events, h_flash, h_granules, h_log, h_nv, h_regs, h_sectors]; done)
          | (rw [ih, State.drawerDone_but]
             · simp [h_events, h_flash, h_granules, h_log, h_nv, h_regs, h_sectors, ↓State.beginDrawer_but, ↓State.drawerDone_but, ↓State.setMarkers_but, ↓State.wayCleared_but, ↓State.but_nv, ↓State.ite_but]
             all_goals assumption))

theorem execPowerUp_but (start : Start) (hw : Hw) (s : State) (l : List Fld) (h_armed : Fld.armed ∈ l) (h_clusters : Fld.clusters ∈ l) (h_ens : Fld.ens ∈ l) (h_entries : Fld.entries ∈ l) (h_events : Fld.events ∈ l) (h_fabricFault : Fld.fabricFault ∈ l) (h_flash : Fld.flash ∈ l) (h_granules : Fld.granules ∈ l) (h_host : Fld.host ∈ l) (h_keys : Fld.keys ∈ l) (h_later : Fld.later ∈ l) (h_ledger : Fld.ledger ∈ l) (h_log : Fld.log ∈ l) (h_mgmtDown : Fld.mgmtDown ∈ l) (h_nv : Fld.nv ∈ l) (h_parts : Fld.parts ∈ l) (h_regs : Fld.regs ∈ l) (h_safeN : Fld.safeN ∈ l) (h_sec : Fld.sec ∈ l) (h_sectors : Fld.sectors ∈ l) (h_sets : Fld.sets ∈ l) (h_shadow : Fld.shadow ∈ l) (h_supply : Fld.supply ∈ l) (h_switchSt : Fld.switchSt ∈ l) (h_thermal : Fld.thermal ∈ l) :
    ∀ t, execPowerUp start hw s = .next t → t.but l = s.but l := by
  intro t ht
  unfold execPowerUp at ht
  (try simp only [ok] at ht); (repeat' split at ht) <;> (replace ht := Host.Outcome.next.inj ht; subst ht; first
    | with_reducible rfl
    | (simp [h_armed, h_clusters, h_ens, h_entries, h_events, h_fabricFault, h_flash, h_granules, h_host, h_keys, h_later, h_ledger, h_log, h_mgmtDown, h_nv, h_parts, h_regs, h_safeN, h_sec, h_sectors, h_sets, h_shadow, h_supply, h_switchSt, h_thermal, ↓State.coldSets_but, ↓State.commitStaged_but, ↓State.deliverHeld_but, ↓State.judgeCold_but, ↓State.loadProfile_but, ↓State.lockDebug_but, ↓State.lossTold_but, ↓State.runBank_but, ↓State.sampleStraps_but, ↓State.stayInRom_but, ↓State.truncated_but, ↓State.vcoreUp_but, ↓State.but_sec, ↓State.ite_but]; done)
    | (rename_i heq; have hk := congrArg (fun x => x.1.but l) heq; simp [h_armed, h_clusters, h_ens, h_entries, h_events, h_fabricFault, h_flash, h_granules, h_host, h_keys, h_later, h_ledger, h_log, h_mgmtDown, h_nv, h_parts, h_regs, h_safeN, h_sec, h_sectors, h_sets, h_shadow, h_supply, h_switchSt, h_thermal, ↓State.coldSets_but, ↓State.commitStaged_but, ↓State.deliverHeld_but, ↓State.judgeCold_but, ↓State.loadProfile_but, ↓State.lockDebug_but, ↓State.lossTold_but, ↓State.runBank_but, ↓State.sampleStraps_but, ↓State.stayInRom_but, ↓State.truncated_but, ↓State.vcoreUp_but, ↓State.but_sec, ↓State.ite_but] at hk; simp [h_armed, h_clusters, h_ens, h_entries, h_events, h_fabricFault, h_flash, h_granules, h_host, h_keys, h_later, h_ledger, h_log, h_mgmtDown, h_nv, h_parts, h_regs, h_safeN, h_sec, h_sectors, h_sets, h_shadow, h_supply, h_switchSt, h_thermal, ↓State.coldSets_but, ↓State.commitStaged_but, ↓State.deliverHeld_but, ↓State.judgeCold_but, ↓State.loadProfile_but, ↓State.lockDebug_but, ↓State.lossTold_but, ↓State.runBank_but, ↓State.sampleStraps_but, ↓State.stayInRom_but, ↓State.truncated_but, ↓State.vcoreUp_but, ↓State.but_sec, ↓State.ite_but, hk]; done))

@[simp] theorem State.vcoreLost_but (s : State) (l : List Fld) (h_actions : Fld.actions ∈ l) (h_active : Fld.active ∈ l) (h_armed : Fld.armed ∈ l) (h_asms : Fld.asms ∈ l) (h_caps : Fld.caps ∈ l) (h_chans : Fld.chans ∈ l) (h_clusters : Fld.clusters ∈ l) (h_committed : Fld.committed ∈ l) (h_downs : Fld.downs ∈ l) (h_draws : Fld.draws ∈ l) (h_drives : Fld.drives ∈ l) (h_ens : Fld.ens ∈ l) (h_entries : Fld.entries ∈ l) (h_events : Fld.events ∈ l) (h_fabricFault : Fld.fabricFault ∈ l) (h_flash : Fld.flash ∈ l) (h_fwWaitAt : Fld.fwWaitAt ∈ l) (h_granules : Fld.granules ∈ l) (h_groups : Fld.groups ∈ l) (h_host : Fld.host ∈ l) (h_inbox : Fld.inbox ∈ l) (h_islandBad : Fld.islandBad ∈ l) (h_latches : Fld.latches ∈ l) (h_later : Fld.later ∈ l) (h_ledger : Fld.ledger ∈ l) (h_log : Fld.log ∈ l) (h_mgmtDown : Fld.mgmtDown ∈ l) (h_nv : Fld.nv ∈ l) (h_parts : Fld.parts ∈ l) (h_peerOut : Fld.peerOut ∈ l) (h_peerReq : Fld.peerReq ∈ l) (h_peerReqsAt : Fld.peerReqsAt ∈ l) (h_peerTries : Fld.peerTries ∈ l) (h_ports : Fld.ports ∈ l) (h_prior : Fld.prior ∈ l) (h_queueC : Fld.queueC ∈ l) (h_regs : Fld.regs ∈ l) (h_safeN : Fld.safeN ∈ l) (h_sec : Fld.sec ∈ l) (h_sessNext : Fld.sessNext ∈ l) (h_sessions : Fld.sessions ∈ l) (h_sets : Fld.sets ∈ l) (h_shadow : Fld.shadow ∈ l) (h_stalled : Fld.stalled ∈ l) (h_streams : Fld.streams ∈ l) (h_supply : Fld.supply ∈ l) (h_svc : Fld.svc ∈ l) (h_switchSt : Fld.switchSt ∈ l) (h_t1sSleep : Fld.t1sSleep ∈ l) (h_thermal : Fld.thermal ∈ l) (h_trestle : Fld.trestle ∈ l) (h_trims : Fld.trims ∈ l) (h_waitMaint : Fld.waitMaint ∈ l) (h_waits : Fld.waits ∈ l) : (State.vcoreLost s).but l = s.but l := by
  unfold State.vcoreLost
  (try dsimp only); (repeat' split) <;> first
    | with_reducible rfl
    | (simp [h_actions, h_active, h_armed, h_asms, h_caps, h_chans, h_clusters, h_committed, h_downs, h_draws, h_drives, h_ens, h_entries, h_events, h_fabricFault, h_flash, h_fwWaitAt, h_granules, h_groups, h_host, h_inbox, h_islandBad, h_latches, h_later, h_ledger, h_log, h_mgmtDown, h_nv, h_parts, h_peerOut, h_peerReq, h_peerReqsAt, h_peerTries, h_ports, h_prior, h_queueC, h_regs, h_safeN, h_sec, h_sessNext, h_sessions, h_sets, h_shadow, h_stalled, h_streams, h_supply, h_svc, h_switchSt, h_t1sSleep, h_thermal, h_trestle, h_trims, h_waitMaint, h_waits, ↓State.bump16_but, ↓State.vcoreDown_but, ↓State.but_supply, ↓State.ite_but]; done)

theorem execVcoreFault_but (s : State) (l : List Fld) (h_actions : Fld.actions ∈ l) (h_active : Fld.active ∈ l) (h_armed : Fld.armed ∈ l) (h_asms : Fld.asms ∈ l) (h_caps : Fld.caps ∈ l) (h_chans : Fld.chans ∈ l) (h_clusters : Fld.clusters ∈ l) (h_committed : Fld.committed ∈ l) (h_downs : Fld.downs ∈ l) (h_draws : Fld.draws ∈ l) (h_drives : Fld.drives ∈ l) (h_ens : Fld.ens ∈ l) (h_entries : Fld.entries ∈ l) (h_events : Fld.events ∈ l) (h_fabricFault : Fld.fabricFault ∈ l) (h_flash : Fld.flash ∈ l) (h_fwWaitAt : Fld.fwWaitAt ∈ l) (h_granules : Fld.granules ∈ l) (h_groups : Fld.groups ∈ l) (h_host : Fld.host ∈ l) (h_inbox : Fld.inbox ∈ l) (h_islandBad : Fld.islandBad ∈ l) (h_latches : Fld.latches ∈ l) (h_later : Fld.later ∈ l) (h_ledger : Fld.ledger ∈ l) (h_log : Fld.log ∈ l) (h_mgmtDown : Fld.mgmtDown ∈ l) (h_nv : Fld.nv ∈ l) (h_parts : Fld.parts ∈ l) (h_peerOut : Fld.peerOut ∈ l) (h_peerReq : Fld.peerReq ∈ l) (h_peerReqsAt : Fld.peerReqsAt ∈ l) (h_peerTries : Fld.peerTries ∈ l) (h_ports : Fld.ports ∈ l) (h_prior : Fld.prior ∈ l) (h_queueC : Fld.queueC ∈ l) (h_regs : Fld.regs ∈ l) (h_safeN : Fld.safeN ∈ l) (h_sec : Fld.sec ∈ l) (h_sessNext : Fld.sessNext ∈ l) (h_sessions : Fld.sessions ∈ l) (h_sets : Fld.sets ∈ l) (h_shadow : Fld.shadow ∈ l) (h_stalled : Fld.stalled ∈ l) (h_streams : Fld.streams ∈ l) (h_supply : Fld.supply ∈ l) (h_svc : Fld.svc ∈ l) (h_switchSt : Fld.switchSt ∈ l) (h_t1sSleep : Fld.t1sSleep ∈ l) (h_thermal : Fld.thermal ∈ l) (h_trestle : Fld.trestle ∈ l) (h_trims : Fld.trims ∈ l) (h_waitMaint : Fld.waitMaint ∈ l) (h_waits : Fld.waits ∈ l) :
    ∀ t, execVcoreFault s = .next t → t.but l = s.but l := by
  intro t ht
  unfold execVcoreFault at ht
  (try simp only [ok] at ht); (repeat' split at ht) <;> (replace ht := Host.Outcome.next.inj ht; subst ht; first
    | with_reducible rfl
    | (simp [h_actions, h_active, h_armed, h_asms, h_caps, h_chans, h_clusters, h_committed, h_downs, h_draws, h_drives, h_ens, h_entries, h_events, h_fabricFault, h_flash, h_fwWaitAt, h_granules, h_groups, h_host, h_inbox, h_islandBad, h_latches, h_later, h_ledger, h_log, h_mgmtDown, h_nv, h_parts, h_peerOut, h_peerReq, h_peerReqsAt, h_peerTries, h_ports, h_prior, h_queueC, h_regs, h_safeN, h_sec, h_sessNext, h_sessions, h_sets, h_shadow, h_stalled, h_streams, h_supply, h_svc, h_switchSt, h_t1sSleep, h_thermal, h_trestle, h_trims, h_waitMaint, h_waits, ↓State.vcoreLost_but, ↓State.ite_but]; done))

theorem execVcoreStartTimeout_but (s : State) (l : List Fld) (h_actions : Fld.actions ∈ l) (h_active : Fld.active ∈ l) (h_armed : Fld.armed ∈ l) (h_asms : Fld.asms ∈ l) (h_caps : Fld.caps ∈ l) (h_chans : Fld.chans ∈ l) (h_clusters : Fld.clusters ∈ l) (h_committed : Fld.committed ∈ l) (h_downs : Fld.downs ∈ l) (h_draws : Fld.draws ∈ l) (h_drives : Fld.drives ∈ l) (h_ens : Fld.ens ∈ l) (h_entries : Fld.entries ∈ l) (h_events : Fld.events ∈ l) (h_fabricFault : Fld.fabricFault ∈ l) (h_flash : Fld.flash ∈ l) (h_fwWaitAt : Fld.fwWaitAt ∈ l) (h_granules : Fld.granules ∈ l) (h_groups : Fld.groups ∈ l) (h_host : Fld.host ∈ l) (h_inbox : Fld.inbox ∈ l) (h_islandBad : Fld.islandBad ∈ l) (h_latches : Fld.latches ∈ l) (h_later : Fld.later ∈ l) (h_ledger : Fld.ledger ∈ l) (h_log : Fld.log ∈ l) (h_mgmtDown : Fld.mgmtDown ∈ l) (h_nv : Fld.nv ∈ l) (h_parts : Fld.parts ∈ l) (h_peerOut : Fld.peerOut ∈ l) (h_peerReq : Fld.peerReq ∈ l) (h_peerReqsAt : Fld.peerReqsAt ∈ l) (h_peerTries : Fld.peerTries ∈ l) (h_ports : Fld.ports ∈ l) (h_prior : Fld.prior ∈ l) (h_queueC : Fld.queueC ∈ l) (h_regs : Fld.regs ∈ l) (h_safeN : Fld.safeN ∈ l) (h_sec : Fld.sec ∈ l) (h_sessNext : Fld.sessNext ∈ l) (h_sessions : Fld.sessions ∈ l) (h_sets : Fld.sets ∈ l) (h_shadow : Fld.shadow ∈ l) (h_stalled : Fld.stalled ∈ l) (h_streams : Fld.streams ∈ l) (h_supply : Fld.supply ∈ l) (h_svc : Fld.svc ∈ l) (h_switchSt : Fld.switchSt ∈ l) (h_t1sSleep : Fld.t1sSleep ∈ l) (h_thermal : Fld.thermal ∈ l) (h_trestle : Fld.trestle ∈ l) (h_trims : Fld.trims ∈ l) (h_waitMaint : Fld.waitMaint ∈ l) (h_waits : Fld.waits ∈ l) :
    ∀ t, execVcoreStartTimeout s = .next t → t.but l = s.but l := by
  intro t ht
  unfold execVcoreStartTimeout at ht
  (try simp only [ok] at ht); (repeat' split at ht) <;> (replace ht := Host.Outcome.next.inj ht; subst ht; first
    | with_reducible rfl
    | (simp [h_actions, h_active, h_armed, h_asms, h_caps, h_chans, h_clusters, h_committed, h_downs, h_draws, h_drives, h_ens, h_entries, h_events, h_fabricFault, h_flash, h_fwWaitAt, h_granules, h_groups, h_host, h_inbox, h_islandBad, h_latches, h_later, h_ledger, h_log, h_mgmtDown, h_nv, h_parts, h_peerOut, h_peerReq, h_peerReqsAt, h_peerTries, h_ports, h_prior, h_queueC, h_regs, h_safeN, h_sec, h_sessNext, h_sessions, h_sets, h_shadow, h_stalled, h_streams, h_supply, h_svc, h_switchSt, h_t1sSleep, h_thermal, h_trestle, h_trims, h_waitMaint, h_waits, ↓State.vcoreLost_but, ↓State.ite_but]; done))

theorem execVcoreRecovery_but (s : State) (l : List Fld) (h_regs : Fld.regs ∈ l) (h_supply : Fld.supply ∈ l) :
    ∀ t, execVcoreRecovery s = .next t → t.but l = s.but l := by
  intro t ht
  unfold execVcoreRecovery at ht
  (try simp only [ok] at ht); (repeat' split at ht) <;> (replace ht := Host.Outcome.next.inj ht; subst ht; first
    | with_reducible rfl
    | (simp [h_regs, h_supply, ↓State.beginPowerUp_but, ↓State.ite_but]; done)
    | (rename_i heq; have hk := congrArg (fun x => x.1.but l) heq; simp [h_regs, h_supply, ↓State.beginPowerUp_but, ↓State.ite_but] at hk; simp [hk, h_regs, h_supply, ↓State.beginPowerUp_but, ↓State.ite_but]; done))

@[simp] theorem State.powerCycle_but (s : State) (l : List Fld) (h_actions : Fld.actions ∈ l) (h_active : Fld.active ∈ l) (h_armed : Fld.armed ∈ l) (h_asms : Fld.asms ∈ l) (h_caps : Fld.caps ∈ l) (h_chans : Fld.chans ∈ l) (h_clusters : Fld.clusters ∈ l) (h_committed : Fld.committed ∈ l) (h_downs : Fld.downs ∈ l) (h_draws : Fld.draws ∈ l) (h_drives : Fld.drives ∈ l) (h_ens : Fld.ens ∈ l) (h_entries : Fld.entries ∈ l) (h_events : Fld.events ∈ l) (h_fabricFault : Fld.fabricFault ∈ l) (h_flash : Fld.flash ∈ l) (h_fwWaitAt : Fld.fwWaitAt ∈ l) (h_granules : Fld.granules ∈ l) (h_groups : Fld.groups ∈ l) (h_host : Fld.host ∈ l) (h_inbox : Fld.inbox ∈ l) (h_islandBad : Fld.islandBad ∈ l) (h_latches : Fld.latches ∈ l) (h_later : Fld.later ∈ l) (h_ledger : Fld.ledger ∈ l) (h_log : Fld.log ∈ l) (h_mgmtDown : Fld.mgmtDown ∈ l) (h_nv : Fld.nv ∈ l) (h_parts : Fld.parts ∈ l) (h_peerOut : Fld.peerOut ∈ l) (h_peerReq : Fld.peerReq ∈ l) (h_peerReqsAt : Fld.peerReqsAt ∈ l) (h_peerTries : Fld.peerTries ∈ l) (h_ports : Fld.ports ∈ l) (h_prior : Fld.prior ∈ l) (h_queueC : Fld.queueC ∈ l) (h_regs : Fld.regs ∈ l) (h_safeN : Fld.safeN ∈ l) (h_sec : Fld.sec ∈ l) (h_sessNext : Fld.sessNext ∈ l) (h_sessions : Fld.sessions ∈ l) (h_sets : Fld.sets ∈ l) (h_shadow : Fld.shadow ∈ l) (h_stalled : Fld.stalled ∈ l) (h_streams : Fld.streams ∈ l) (h_supply : Fld.supply ∈ l) (h_svc : Fld.svc ∈ l) (h_switchSt : Fld.switchSt ∈ l) (h_t1sSleep : Fld.t1sSleep ∈ l) (h_thermal : Fld.thermal ∈ l) (h_trestle : Fld.trestle ∈ l) (h_trims : Fld.trims ∈ l) (h_waitMaint : Fld.waitMaint ∈ l) (h_waits : Fld.waits ∈ l) : (State.powerCycle s).but l = s.but l := by
  unfold State.powerCycle
  simp [h_actions, h_active, h_armed, h_asms, h_caps, h_chans, h_clusters, h_committed, h_downs, h_draws, h_drives, h_ens, h_entries, h_events, h_fabricFault, h_flash, h_fwWaitAt, h_granules, h_groups, h_host, h_inbox, h_islandBad, h_latches, h_later, h_ledger, h_log, h_mgmtDown, h_nv, h_parts, h_peerOut, h_peerReq, h_peerReqsAt, h_peerTries, h_ports, h_prior, h_queueC, h_regs, h_safeN, h_sec, h_sessNext, h_sessions, h_sets, h_shadow, h_stalled, h_streams, h_supply, h_svc, h_switchSt, h_t1sSleep, h_thermal, h_trestle, h_trims, h_waitMaint, h_waits, ↓State.vcoreDown_but, ↓State.but_supply, ↓State.ite_but]

@[simp] theorem State.takeSnapshot_but (s : State) (l : List Fld) (h_ledger : Fld.ledger ∈ l) : (State.takeSnapshot s).but l = s.but l := by
  unfold State.takeSnapshot
  first
  | (simp [h_ledger, ↓State.but_ledger, ↓State.ite_but]; done)
  | ((try dsimp only); (repeat' split) <;> first
    | with_reducible rfl
    | (simp [h_ledger, ↓State.but_ledger, ↓State.ite_but]; done))

theorem execPowerLossWarning_but (s : State) (l : List Fld) (h_ledger : Fld.ledger ∈ l) (h_log : Fld.log ∈ l) (h_nv : Fld.nv ∈ l) (h_regs : Fld.regs ∈ l) (h_retained : Fld.retained ∈ l) (h_supply : Fld.supply ∈ l) :
    ∀ t, execPowerLossWarning s = .next t → t.but l = s.but l := by
  intro t ht
  unfold execPowerLossWarning at ht
  (try simp only [ok] at ht); (repeat' split at ht) <;> (replace ht := Host.Outcome.next.inj ht; subst ht; first
    | with_reducible rfl
    | (simp [h_ledger, h_log, h_nv, h_regs, h_retained, h_supply, ↓State.bump16_but, ↓State.haltErase_but, ↓State.holdDrawers_but, ↓State.retain_but, ↓State.takeSnapshot_but, ↓State.but_supply, ↓State.ite_but]; done))

@[simp] theorem State.scheduleBack_but (s : State) (l : List Fld) (h_events : Fld.events ∈ l) (h_ledger : Fld.ledger ∈ l) (h_parts : Fld.parts ∈ l) (h_regs : Fld.regs ∈ l) (h_streams : Fld.streams ∈ l) : (State.scheduleBack s).but l = s.but l := by
  unfold State.scheduleBack
  first
  | (simp [h_events, h_ledger, h_parts, h_regs, h_streams, ↓State.tableSwitch_but, ↓State.ite_but]; done)
  | ((try dsimp only); (repeat' split) <;> first
    | with_reducible rfl
    | (simp [h_events, h_ledger, h_parts, h_regs, h_streams, ↓State.tableSwitch_but, ↓State.ite_but]; done)
    | (rename_i heq; have hk := congrArg (fun x => x.1.but l) heq; simp [h_events, h_ledger, h_parts, h_regs, h_streams, ↓State.tableSwitch_but, ↓State.ite_but] at hk; simp [hk, h_events, h_ledger, h_parts, h_regs, h_streams, ↓State.tableSwitch_but, ↓State.ite_but]; done))

@[simp] theorem State.heldQueued_but (s : State) (l : List Fld) (h_ledger : Fld.ledger ∈ l) (h_regs : Fld.regs ∈ l) : (State.heldQueued s).but l = s.but l := by
  unfold State.heldQueued
  first
  | (simp [h_ledger, h_regs, ↓State.ledgerEnqueue_but, ↓State.but_ledger, foldl_but, ↓State.ite_but]; done)
  | ((try dsimp only); (repeat' split) <;> first
    | with_reducible rfl
    | (simp [h_ledger, h_regs, ↓State.ledgerEnqueue_but, ↓State.but_ledger, foldl_but, ↓State.ite_but]; done))

theorem execWarningWithdrawn_but (s : State) (l : List Fld) (h_events : Fld.events ∈ l) (h_ledger : Fld.ledger ∈ l) (h_nv : Fld.nv ∈ l) (h_parts : Fld.parts ∈ l) (h_regs : Fld.regs ∈ l) (h_streams : Fld.streams ∈ l) (h_supply : Fld.supply ∈ l) :
    ∀ t, execWarningWithdrawn s = .next t → t.but l = s.but l := by
  intro t ht
  unfold execWarningWithdrawn at ht
  (try simp only [ok] at ht); (repeat' split at ht) <;> (replace ht := Host.Outcome.next.inj ht; subst ht; first
    | with_reducible rfl
    | (simp [h_events, h_ledger, h_nv, h_parts, h_regs, h_streams, h_supply, ↓State.heldQueued_but, ↓State.raise_but, ↓State.scheduleBack_but, ↓State.but_ledger, ↓State.but_nv, ↓State.but_supply, ↓State.ite_but]; done))

theorem execSupplySwitchover_but (falling : Bool) (s : State) (l : List Fld) (h_actions : Fld.actions ∈ l) (h_active : Fld.active ∈ l) (h_armed : Fld.armed ∈ l) (h_asms : Fld.asms ∈ l) (h_caps : Fld.caps ∈ l) (h_chans : Fld.chans ∈ l) (h_clusters : Fld.clusters ∈ l) (h_committed : Fld.committed ∈ l) (h_downs : Fld.downs ∈ l) (h_draws : Fld.draws ∈ l) (h_drives : Fld.drives ∈ l) (h_ens : Fld.ens ∈ l) (h_entries : Fld.entries ∈ l) (h_events : Fld.events ∈ l) (h_fabricFault : Fld.fabricFault ∈ l) (h_flash : Fld.flash ∈ l) (h_fwWaitAt : Fld.fwWaitAt ∈ l) (h_granules : Fld.granules ∈ l) (h_groups : Fld.groups ∈ l) (h_host : Fld.host ∈ l) (h_inbox : Fld.inbox ∈ l) (h_islandBad : Fld.islandBad ∈ l) (h_latches : Fld.latches ∈ l) (h_later : Fld.later ∈ l) (h_ledger : Fld.ledger ∈ l) (h_log : Fld.log ∈ l) (h_mgmtDown : Fld.mgmtDown ∈ l) (h_nv : Fld.nv ∈ l) (h_parts : Fld.parts ∈ l) (h_peerOut : Fld.peerOut ∈ l) (h_peerReq : Fld.peerReq ∈ l) (h_peerReqsAt : Fld.peerReqsAt ∈ l) (h_peerTries : Fld.peerTries ∈ l) (h_ports : Fld.ports ∈ l) (h_prior : Fld.prior ∈ l) (h_queueC : Fld.queueC ∈ l) (h_regs : Fld.regs ∈ l) (h_safeN : Fld.safeN ∈ l) (h_sec : Fld.sec ∈ l) (h_sessNext : Fld.sessNext ∈ l) (h_sessions : Fld.sessions ∈ l) (h_sets : Fld.sets ∈ l) (h_shadow : Fld.shadow ∈ l) (h_stalled : Fld.stalled ∈ l) (h_streams : Fld.streams ∈ l) (h_supply : Fld.supply ∈ l) (h_svc : Fld.svc ∈ l) (h_switchSt : Fld.switchSt ∈ l) (h_t1sSleep : Fld.t1sSleep ∈ l) (h_thermal : Fld.thermal ∈ l) (h_trestle : Fld.trestle ∈ l) (h_trims : Fld.trims ∈ l) (h_waitMaint : Fld.waitMaint ∈ l) (h_waits : Fld.waits ∈ l) :
    ∀ t, execSupplySwitchover falling s = .next t → t.but l = s.but l := by
  intro t ht
  unfold execSupplySwitchover at ht
  (try simp only [ok] at ht); (repeat' split at ht) <;> (replace ht := Host.Outcome.next.inj ht; subst ht; first
    | with_reducible rfl
    | (simp [h_actions, h_active, h_armed, h_asms, h_caps, h_chans, h_clusters, h_committed, h_downs, h_draws, h_drives, h_ens, h_entries, h_events, h_fabricFault, h_flash, h_fwWaitAt, h_granules, h_groups, h_host, h_inbox, h_islandBad, h_latches, h_later, h_ledger, h_log, h_mgmtDown, h_nv, h_parts, h_peerOut, h_peerReq, h_peerReqsAt, h_peerTries, h_ports, h_prior, h_queueC, h_regs, h_safeN, h_sec, h_sessNext, h_sessions, h_sets, h_shadow, h_stalled, h_streams, h_supply, h_svc, h_switchSt, h_t1sSleep, h_thermal, h_trestle, h_trims, h_waitMaint, h_waits, ↓State.vcoreDown_but, ↓State.but_supply, ↓State.ite_but]; done))

theorem execContinuityLoss_but (s : State) (l : List Fld) (h_actions : Fld.actions ∈ l) (h_active : Fld.active ∈ l) (h_armed : Fld.armed ∈ l) (h_asms : Fld.asms ∈ l) (h_caps : Fld.caps ∈ l) (h_chans : Fld.chans ∈ l) (h_clusters : Fld.clusters ∈ l) (h_committed : Fld.committed ∈ l) (h_downs : Fld.downs ∈ l) (h_drives : Fld.drives ∈ l) (h_ens : Fld.ens ∈ l) (h_entries : Fld.entries ∈ l) (h_events : Fld.events ∈ l) (h_fabricFault : Fld.fabricFault ∈ l) (h_fwWaitAt : Fld.fwWaitAt ∈ l) (h_groups : Fld.groups ∈ l) (h_host : Fld.host ∈ l) (h_inbox : Fld.inbox ∈ l) (h_islandBad : Fld.islandBad ∈ l) (h_keys : Fld.keys ∈ l) (h_latches : Fld.latches ∈ l) (h_later : Fld.later ∈ l) (h_ledger : Fld.ledger ∈ l) (h_log : Fld.log ∈ l) (h_mgmtDown : Fld.mgmtDown ∈ l) (h_now : Fld.now ∈ l) (h_nv : Fld.nv ∈ l) (h_parts : Fld.parts ∈ l) (h_peerOut : Fld.peerOut ∈ l) (h_peerReq : Fld.peerReq ∈ l) (h_peerReqsAt : Fld.peerReqsAt ∈ l) (h_peerTries : Fld.peerTries ∈ l) (h_ports : Fld.ports ∈ l) (h_prior : Fld.prior ∈ l) (h_queueC : Fld.queueC ∈ l) (h_refFailAt : Fld.refFailAt ∈ l) (h_regs : Fld.regs ∈ l) (h_reply : Fld.reply ∈ l) (h_retained : Fld.retained ∈ l) (h_safeN : Fld.safeN ∈ l) (h_sec : Fld.sec ∈ l) (h_sessNext : Fld.sessNext ∈ l) (h_sessions : Fld.sessions ∈ l) (h_sets : Fld.sets ∈ l) (h_shadow : Fld.shadow ∈ l) (h_stalled : Fld.stalled ∈ l) (h_status : Fld.status ∈ l) (h_streams : Fld.streams ∈ l) (h_supply : Fld.supply ∈ l) (h_svc : Fld.svc ∈ l) (h_switchSt : Fld.switchSt ∈ l) (h_t1sSleep : Fld.t1sSleep ∈ l) (h_thermal : Fld.thermal ∈ l) (h_timeFree : Fld.timeFree ∈ l) (h_trestle : Fld.trestle ∈ l) (h_trims : Fld.trims ∈ l) (h_waitMaint : Fld.waitMaint ∈ l) (h_waits : Fld.waits ∈ l) :
    ∀ t, execContinuityLoss s = .next t → t.but l = s.but l := by
  intro t ht
  unfold execContinuityLoss at ht
  (try simp only [ok] at ht); (repeat' split at ht) <;> (replace ht := Host.Outcome.next.inj ht; subst ht; first
    | with_reducible rfl
    | (simp [h_actions, h_active, h_armed, h_asms, h_caps, h_chans, h_clusters, h_committed, h_downs, h_drives, h_ens, h_entries, h_events, h_fabricFault, h_fwWaitAt, h_groups, h_host, h_inbox, h_islandBad, h_keys, h_latches, h_later, h_ledger, h_log, h_mgmtDown, h_now, h_nv, h_parts, h_peerOut, h_peerReq, h_peerReqsAt, h_peerTries, h_ports, h_prior, h_queueC, h_refFailAt, h_regs, h_reply, h_retained, h_safeN, h_sec, h_sessNext, h_sessions, h_sets, h_shadow, h_stalled, h_status, h_streams, h_supply, h_svc, h_switchSt, h_t1sSleep, h_thermal, h_timeFree, h_trestle, h_trims, h_waitMaint, h_waits, ↓State.coldStart_but, ↓State.ite_but]; done))

theorem execBkupLow_but (low : Bool) (s : State) (l : List Fld) (h_events : Fld.events ∈ l) (h_regs : Fld.regs ∈ l) (h_supply : Fld.supply ∈ l) :
    ∀ t, execBkupLow low s = .next t → t.but l = s.but l := by
  intro t ht
  unfold execBkupLow at ht
  (try simp only [ok] at ht); (repeat' split at ht) <;> (replace ht := Host.Outcome.next.inj ht; subst ht; first
    | with_reducible rfl
    | (simp [h_events, h_regs, h_supply, ↓State.raise_but, ↓State.but_supply, ↓State.ite_but]; done))

theorem execRetainedCopy_but (s : State) (l : List Fld) (h_retained : Fld.retained ∈ l) (h_supply : Fld.supply ∈ l) :
    ∀ t, execRetainedCopy s = .next t → t.but l = s.but l := by
  intro t ht
  unfold execRetainedCopy at ht
  (try simp only [ok] at ht); (repeat' split at ht) <;> (replace ht := Host.Outcome.next.inj ht; subst ht; first
    | with_reducible rfl
    | (simp [h_retained, h_supply, ↓State.retain_but, ↓State.ite_but]; done))

theorem execMrN_but (lowNs : Nat) (s : State) (l : List Fld) (h_armed : Fld.armed ∈ l) (h_asms : Fld.asms ∈ l) (h_caps : Fld.caps ∈ l) (h_chans : Fld.chans ∈ l) (h_draws : Fld.draws ∈ l) (h_entries : Fld.entries ∈ l) (h_events : Fld.events ∈ l) (h_fwWaitAt : Fld.fwWaitAt ∈ l) (h_host : Fld.host ∈ l) (h_inbox : Fld.inbox ∈ l) (h_later : Fld.later ∈ l) (h_ledger : Fld.ledger ∈ l) (h_mgmtDown : Fld.mgmtDown ∈ l) (h_parts : Fld.parts ∈ l) (h_peerReq : Fld.peerReq ∈ l) (h_queueC : Fld.queueC ∈ l) (h_regs : Fld.regs ∈ l) (h_sec : Fld.sec ∈ l) (h_sessions : Fld.sessions ∈ l) (h_sets : Fld.sets ∈ l) (h_shadow : Fld.shadow ∈ l) (h_supply : Fld.supply ∈ l) (h_svc : Fld.svc ∈ l) (h_switchSt : Fld.switchSt ∈ l) (h_trims : Fld.trims ∈ l) (h_waitMaint : Fld.waitMaint ∈ l) (h_waits : Fld.waits ∈ l) :
    ∀ t, execMrN lowNs s = .next t → t.but l = s.but l := by
  intro t ht
  unfold execMrN at ht
  (try simp only [ok] at ht); (repeat' split at ht) <;> (replace ht := Host.Outcome.next.inj ht; subst ht; first
    | with_reducible rfl
    | (simp [h_armed, h_asms, h_caps, h_chans, h_draws, h_entries, h_events, h_fwWaitAt, h_host, h_inbox, h_later, h_ledger, h_mgmtDown, h_parts, h_peerReq, h_queueC, h_regs, h_sec, h_sessions, h_sets, h_shadow, h_supply, h_svc, h_switchSt, h_trims, h_waitMaint, h_waits, ↓State.mgmtReset_but, ↓State.but_draws, ↓State.ite_but]; done))

theorem execLockstepMismatch_but (s : State) (l : List Fld) (h_armed : Fld.armed ∈ l) (h_asms : Fld.asms ∈ l) (h_caps : Fld.caps ∈ l) (h_chans : Fld.chans ∈ l) (h_entries : Fld.entries ∈ l) (h_events : Fld.events ∈ l) (h_fwWaitAt : Fld.fwWaitAt ∈ l) (h_host : Fld.host ∈ l) (h_inbox : Fld.inbox ∈ l) (h_later : Fld.later ∈ l) (h_ledger : Fld.ledger ∈ l) (h_mgmtDown : Fld.mgmtDown ∈ l) (h_parts : Fld.parts ∈ l) (h_peerReq : Fld.peerReq ∈ l) (h_queueC : Fld.queueC ∈ l) (h_regs : Fld.regs ∈ l) (h_sec : Fld.sec ∈ l) (h_sessions : Fld.sessions ∈ l) (h_sets : Fld.sets ∈ l) (h_shadow : Fld.shadow ∈ l) (h_supply : Fld.supply ∈ l) (h_svc : Fld.svc ∈ l) (h_switchSt : Fld.switchSt ∈ l) (h_trims : Fld.trims ∈ l) (h_waitMaint : Fld.waitMaint ∈ l) (h_waits : Fld.waits ∈ l) :
    ∀ t, execLockstepMismatch s = .next t → t.but l = s.but l := by
  intro t ht
  unfold execLockstepMismatch at ht
  (try simp only [ok] at ht); (repeat' split at ht) <;> (replace ht := Host.Outcome.next.inj ht; subst ht; first
    | with_reducible rfl
    | (simp [h_armed, h_asms, h_caps, h_chans, h_entries, h_events, h_fwWaitAt, h_host, h_inbox, h_later, h_ledger, h_mgmtDown, h_parts, h_peerReq, h_queueC, h_regs, h_sec, h_sessions, h_sets, h_shadow, h_supply, h_svc, h_switchSt, h_trims, h_waitMaint, h_waits, ↓State.bump16_but, ↓State.mgmtReset_but, ↓State.ite_but]; done)
    | (rename_i heq; have hk := congrArg (fun x => x.1.but l) heq; simp [h_armed, h_asms, h_caps, h_chans, h_entries, h_events, h_fwWaitAt, h_host, h_inbox, h_later, h_ledger, h_mgmtDown, h_parts, h_peerReq, h_queueC, h_regs, h_sec, h_sessions, h_sets, h_shadow, h_supply, h_svc, h_switchSt, h_trims, h_waitMaint, h_waits, ↓State.bump16_but, ↓State.mgmtReset_but, ↓State.ite_but] at hk; simp [hk, h_armed, h_asms, h_caps, h_chans, h_entries, h_events, h_fwWaitAt, h_host, h_inbox, h_later, h_ledger, h_mgmtDown, h_parts, h_peerReq, h_queueC, h_regs, h_sec, h_sessions, h_sets, h_shadow, h_supply, h_svc, h_switchSt, h_trims, h_waitMaint, h_waits, ↓State.bump16_but, ↓State.mgmtReset_but, ↓State.ite_but]; done))

theorem execWatchdog_but (s : State) (l : List Fld) (h_armed : Fld.armed ∈ l) (h_asms : Fld.asms ∈ l) (h_caps : Fld.caps ∈ l) (h_chans : Fld.chans ∈ l) (h_entries : Fld.entries ∈ l) (h_events : Fld.events ∈ l) (h_fwWaitAt : Fld.fwWaitAt ∈ l) (h_host : Fld.host ∈ l) (h_inbox : Fld.inbox ∈ l) (h_later : Fld.later ∈ l) (h_ledger : Fld.ledger ∈ l) (h_mgmtDown : Fld.mgmtDown ∈ l) (h_parts : Fld.parts ∈ l) (h_peerReq : Fld.peerReq ∈ l) (h_queueC : Fld.queueC ∈ l) (h_regs : Fld.regs ∈ l) (h_sec : Fld.sec ∈ l) (h_sessions : Fld.sessions ∈ l) (h_sets : Fld.sets ∈ l) (h_shadow : Fld.shadow ∈ l) (h_supply : Fld.supply ∈ l) (h_svc : Fld.svc ∈ l) (h_switchSt : Fld.switchSt ∈ l) (h_trims : Fld.trims ∈ l) (h_waitMaint : Fld.waitMaint ∈ l) (h_waits : Fld.waits ∈ l) :
    ∀ t, execWatchdog s = .next t → t.but l = s.but l := by
  intro t ht
  unfold execWatchdog at ht
  (try simp only [ok] at ht); (repeat' split at ht) <;> (replace ht := Host.Outcome.next.inj ht; subst ht; first
    | with_reducible rfl
    | (simp [h_armed, h_asms, h_caps, h_chans, h_entries, h_events, h_fwWaitAt, h_host, h_inbox, h_later, h_ledger, h_mgmtDown, h_parts, h_peerReq, h_queueC, h_regs, h_sec, h_sessions, h_sets, h_shadow, h_supply, h_svc, h_switchSt, h_trims, h_waitMaint, h_waits, ↓State.mgmtReset_but, ↓State.ite_but]; done))

theorem execResetRequestMgmt_but (r : Role) (s : State) (l : List Fld) (h_armed : Fld.armed ∈ l) (h_asms : Fld.asms ∈ l) (h_caps : Fld.caps ∈ l) (h_chans : Fld.chans ∈ l) (h_entries : Fld.entries ∈ l) (h_events : Fld.events ∈ l) (h_fwWaitAt : Fld.fwWaitAt ∈ l) (h_host : Fld.host ∈ l) (h_inbox : Fld.inbox ∈ l) (h_later : Fld.later ∈ l) (h_ledger : Fld.ledger ∈ l) (h_mgmtDown : Fld.mgmtDown ∈ l) (h_parts : Fld.parts ∈ l) (h_peerReq : Fld.peerReq ∈ l) (h_queueC : Fld.queueC ∈ l) (h_regs : Fld.regs ∈ l) (h_reply : Fld.reply ∈ l) (h_sec : Fld.sec ∈ l) (h_sessions : Fld.sessions ∈ l) (h_sets : Fld.sets ∈ l) (h_shadow : Fld.shadow ∈ l) (h_status : Fld.status ∈ l) (h_supply : Fld.supply ∈ l) (h_svc : Fld.svc ∈ l) (h_switchSt : Fld.switchSt ∈ l) (h_trims : Fld.trims ∈ l) (h_waitMaint : Fld.waitMaint ∈ l) (h_waits : Fld.waits ∈ l) :
    ∀ t, execResetRequestMgmt r s = .next t → t.but l = s.but l := by
  intro t ht
  unfold execResetRequestMgmt at ht
  (try simp only [ok] at ht); (repeat' split at ht) <;> (replace ht := Host.Outcome.next.inj ht; subst ht; first
    | with_reducible rfl
    | (simp [h_armed, h_asms, h_caps, h_chans, h_entries, h_events, h_fwWaitAt, h_host, h_inbox, h_later, h_ledger, h_mgmtDown, h_parts, h_peerReq, h_queueC, h_regs, h_reply, h_sec, h_sessions, h_sets, h_shadow, h_status, h_supply, h_svc, h_switchSt, h_trims, h_waitMaint, h_waits, ↓State.answer_but, ↓State.item_but, ↓State.mgmtReset_but, ↓State.ite_but]; done)
    | ((first
        | refine State.item_but _ _ _ _ _ _ h_regs h_reply h_status (fun s => ?_)
        | refine State.itemLen_but _ _ _ _ _ _ _ h_regs h_reply h_status (fun s => ?_)) <;> (try dsimp only) <;> (repeat' split) <;> first
      | with_reducible rfl
      | (simp [h_armed, h_asms, h_caps, h_chans, h_entries, h_events, h_fwWaitAt, h_host, h_inbox, h_later, h_ledger, h_mgmtDown, h_parts, h_peerReq, h_queueC, h_regs, h_reply, h_sec, h_sessions, h_sets, h_shadow, h_status, h_supply, h_svc, h_switchSt, h_trims, h_waitMaint, h_waits, ↓State.answer_but, ↓State.item_but, ↓State.mgmtReset_but, ↓State.ite_but]; done)
      | (rename_i heq; have hk := congrArg (fun x => x.1.but l) heq; simp [h_armed, h_asms, h_caps, h_chans, h_entries, h_events, h_fwWaitAt, h_host, h_inbox, h_later, h_ledger, h_mgmtDown, h_parts, h_peerReq, h_queueC, h_regs, h_reply, h_sec, h_sessions, h_sets, h_shadow, h_status, h_supply, h_svc, h_switchSt, h_trims, h_waitMaint, h_waits, ↓State.answer_but, ↓State.item_but, ↓State.mgmtReset_but, ↓State.ite_but] at hk; simp [hk, h_armed, h_asms, h_caps, h_chans, h_entries, h_events, h_fwWaitAt, h_host, h_inbox, h_later, h_ledger, h_mgmtDown, h_parts, h_peerReq, h_queueC, h_regs, h_reply, h_sec, h_sessions, h_sets, h_shadow, h_status, h_supply, h_svc, h_switchSt, h_trims, h_waitMaint, h_waits, ↓State.answer_but, ↓State.item_but, ↓State.mgmtReset_but, ↓State.ite_but]; done)))

theorem execResetRequestPower_but (r : Role) (s : State) (l : List Fld) (h_actions : Fld.actions ∈ l) (h_active : Fld.active ∈ l) (h_armed : Fld.armed ∈ l) (h_asms : Fld.asms ∈ l) (h_caps : Fld.caps ∈ l) (h_chans : Fld.chans ∈ l) (h_clusters : Fld.clusters ∈ l) (h_committed : Fld.committed ∈ l) (h_downs : Fld.downs ∈ l) (h_draws : Fld.draws ∈ l) (h_drives : Fld.drives ∈ l) (h_ens : Fld.ens ∈ l) (h_entries : Fld.entries ∈ l) (h_events : Fld.events ∈ l) (h_fabricFault : Fld.fabricFault ∈ l) (h_flash : Fld.flash ∈ l) (h_fwWaitAt : Fld.fwWaitAt ∈ l) (h_granules : Fld.granules ∈ l) (h_groups : Fld.groups ∈ l) (h_host : Fld.host ∈ l) (h_inbox : Fld.inbox ∈ l) (h_islandBad : Fld.islandBad ∈ l) (h_latches : Fld.latches ∈ l) (h_later : Fld.later ∈ l) (h_ledger : Fld.ledger ∈ l) (h_log : Fld.log ∈ l) (h_mgmtDown : Fld.mgmtDown ∈ l) (h_nv : Fld.nv ∈ l) (h_parts : Fld.parts ∈ l) (h_peerOut : Fld.peerOut ∈ l) (h_peerReq : Fld.peerReq ∈ l) (h_peerReqsAt : Fld.peerReqsAt ∈ l) (h_peerTries : Fld.peerTries ∈ l) (h_ports : Fld.ports ∈ l) (h_prior : Fld.prior ∈ l) (h_queueC : Fld.queueC ∈ l) (h_regs : Fld.regs ∈ l) (h_reply : Fld.reply ∈ l) (h_safeN : Fld.safeN ∈ l) (h_sec : Fld.sec ∈ l) (h_sessNext : Fld.sessNext ∈ l) (h_sessions : Fld.sessions ∈ l) (h_sets : Fld.sets ∈ l) (h_shadow : Fld.shadow ∈ l) (h_stalled : Fld.stalled ∈ l) (h_status : Fld.status ∈ l) (h_streams : Fld.streams ∈ l) (h_supply : Fld.supply ∈ l) (h_svc : Fld.svc ∈ l) (h_switchSt : Fld.switchSt ∈ l) (h_t1sSleep : Fld.t1sSleep ∈ l) (h_thermal : Fld.thermal ∈ l) (h_trestle : Fld.trestle ∈ l) (h_trims : Fld.trims ∈ l) (h_waitMaint : Fld.waitMaint ∈ l) (h_waits : Fld.waits ∈ l) :
    ∀ t, execResetRequestPower r s = .next t → t.but l = s.but l := by
  intro t ht
  unfold execResetRequestPower at ht
  (try simp only [ok] at ht); (repeat' split at ht) <;> (replace ht := Host.Outcome.next.inj ht; subst ht; first
    | with_reducible rfl
    | (simp [h_actions, h_active, h_armed, h_asms, h_caps, h_chans, h_clusters, h_committed, h_downs, h_draws, h_drives, h_ens, h_entries, h_events, h_fabricFault, h_flash, h_fwWaitAt, h_granules, h_groups, h_host, h_inbox, h_islandBad, h_latches, h_later, h_ledger, h_log, h_mgmtDown, h_nv, h_parts, h_peerOut, h_peerReq, h_peerReqsAt, h_peerTries, h_ports, h_prior, h_queueC, h_regs, h_reply, h_safeN, h_sec, h_sessNext, h_sessions, h_sets, h_shadow, h_stalled, h_status, h_streams, h_supply, h_svc, h_switchSt, h_t1sSleep, h_thermal, h_trestle, h_trims, h_waitMaint, h_waits, ↓State.answer_but, ↓State.item_but, ↓State.powerCycle_but, ↓State.ite_but]; done)
    | ((first
        | refine State.item_but _ _ _ _ _ _ h_regs h_reply h_status (fun s => ?_)
        | refine State.itemLen_but _ _ _ _ _ _ _ h_regs h_reply h_status (fun s => ?_)) <;> (try dsimp only) <;> (repeat' split) <;> first
      | with_reducible rfl
      | (simp [h_actions, h_active, h_armed, h_asms, h_caps, h_chans, h_clusters, h_committed, h_downs, h_draws, h_drives, h_ens, h_entries, h_events, h_fabricFault, h_flash, h_fwWaitAt, h_granules, h_groups, h_host, h_inbox, h_islandBad, h_latches, h_later, h_ledger, h_log, h_mgmtDown, h_nv, h_parts, h_peerOut, h_peerReq, h_peerReqsAt, h_peerTries, h_ports, h_prior, h_queueC, h_regs, h_reply, h_safeN, h_sec, h_sessNext, h_sessions, h_sets, h_shadow, h_stalled, h_status, h_streams, h_supply, h_svc, h_switchSt, h_t1sSleep, h_thermal, h_trestle, h_trims, h_waitMaint, h_waits, ↓State.answer_but, ↓State.item_but, ↓State.powerCycle_but, ↓State.ite_but]; done)
      | (rename_i heq; have hk := congrArg (fun x => x.1.but l) heq; simp [h_actions, h_active, h_armed, h_asms, h_caps, h_chans, h_clusters, h_committed, h_downs, h_draws, h_drives, h_ens, h_entries, h_events, h_fabricFault, h_flash, h_fwWaitAt, h_granules, h_groups, h_host, h_inbox, h_islandBad, h_latches, h_later, h_ledger, h_log, h_mgmtDown, h_nv, h_parts, h_peerOut, h_peerReq, h_peerReqsAt, h_peerTries, h_ports, h_prior, h_queueC, h_regs, h_reply, h_safeN, h_sec, h_sessNext, h_sessions, h_sets, h_shadow, h_stalled, h_status, h_streams, h_supply, h_svc, h_switchSt, h_t1sSleep, h_thermal, h_trestle, h_trims, h_waitMaint, h_waits, ↓State.answer_but, ↓State.item_but, ↓State.powerCycle_but, ↓State.ite_but] at hk; simp [hk, h_actions, h_active, h_armed, h_asms, h_caps, h_chans, h_clusters, h_committed, h_downs, h_draws, h_drives, h_ens, h_entries, h_events, h_fabricFault, h_flash, h_fwWaitAt, h_granules, h_groups, h_host, h_inbox, h_islandBad, h_latches, h_later, h_ledger, h_log, h_mgmtDown, h_nv, h_parts, h_peerOut, h_peerReq, h_peerReqsAt, h_peerTries, h_ports, h_prior, h_queueC, h_regs, h_reply, h_safeN, h_sec, h_sessNext, h_sessions, h_sets, h_shadow, h_stalled, h_status, h_streams, h_supply, h_svc, h_switchSt, h_t1sSleep, h_thermal, h_trestle, h_trims, h_waitMaint, h_waits, ↓State.answer_but, ↓State.item_but, ↓State.powerCycle_but, ↓State.ite_but]; done)))

@[simp] theorem State.shortPress_but (s : State) (l : List Fld) (h_events : Fld.events ∈ l) (h_regs : Fld.regs ∈ l) (h_supply : Fld.supply ∈ l) : (State.shortPress s).but l = s.but l := by
  unfold State.shortPress
  (try dsimp only); (repeat' split) <;> first
    | with_reducible rfl
    | (simp [h_events, h_regs, h_supply, ↓State.raise_but, ↓State.wake_but, ↓State.but_supply, ↓State.ite_but]; done)
    | (rename_i heq; have hk := congrArg (fun x => x.1.but l) heq; simp [h_events, h_regs, h_supply, ↓State.raise_but, ↓State.wake_but, ↓State.but_supply, ↓State.ite_but] at hk; simp [hk, h_events, h_regs, h_supply, ↓State.raise_but, ↓State.wake_but, ↓State.but_supply, ↓State.ite_but]; done)

theorem execPbRelease_but (lowMs : Nat) (s : State) (l : List Fld) (h_events : Fld.events ∈ l) (h_regs : Fld.regs ∈ l) (h_supply : Fld.supply ∈ l) :
    ∀ t, execPbRelease lowMs s = .next t → t.but l = s.but l := by
  intro t ht
  unfold execPbRelease at ht
  (try simp only [ok] at ht); (repeat' split at ht) <;> (replace ht := Host.Outcome.next.inj ht; subst ht; first
    | with_reducible rfl
    | (simp [h_events, h_regs, h_supply, ↓State.bump16_but, ↓State.shortPress_but, ↓State.but_supply, ↓State.ite_but]; done))

@[simp] theorem State.longForceOff_but (s : State) (l : List Fld) (h_actions : Fld.actions ∈ l) (h_caps : Fld.caps ∈ l) (h_chans : Fld.chans ∈ l) (h_clusters : Fld.clusters ∈ l) (h_drives : Fld.drives ∈ l) (h_ens : Fld.ens ∈ l) (h_entries : Fld.entries ∈ l) (h_events : Fld.events ∈ l) (h_groups : Fld.groups ∈ l) (h_latches : Fld.latches ∈ l) (h_log : Fld.log ∈ l) (h_parts : Fld.parts ∈ l) (h_ports : Fld.ports ∈ l) (h_regs : Fld.regs ∈ l) (h_safeN : Fld.safeN ∈ l) (h_supply : Fld.supply ∈ l) (h_trims : Fld.trims ∈ l) (h_waitMaint : Fld.waitMaint ∈ l) : (State.longForceOff s).but l = s.but l := by
  unfold State.longForceOff
  simp [h_actions, h_caps, h_chans, h_clusters, h_drives, h_ens, h_entries, h_events, h_groups, h_latches, h_log, h_parts, h_ports, h_regs, h_safeN, h_supply, h_trims, h_waitMaint, ↓State.causeAt_but, ↓State.hutchDrawer_but, ↓State.but_supply, ↓State.each_but, ↓State.ite_but]

theorem execLongPress_but (s : State) (l : List Fld) (h_actions : Fld.actions ∈ l) (h_caps : Fld.caps ∈ l) (h_chans : Fld.chans ∈ l) (h_clusters : Fld.clusters ∈ l) (h_drives : Fld.drives ∈ l) (h_ens : Fld.ens ∈ l) (h_entries : Fld.entries ∈ l) (h_events : Fld.events ∈ l) (h_groups : Fld.groups ∈ l) (h_latches : Fld.latches ∈ l) (h_log : Fld.log ∈ l) (h_parts : Fld.parts ∈ l) (h_ports : Fld.ports ∈ l) (h_regs : Fld.regs ∈ l) (h_safeN : Fld.safeN ∈ l) (h_supply : Fld.supply ∈ l) (h_trims : Fld.trims ∈ l) (h_waitMaint : Fld.waitMaint ∈ l) :
    ∀ t, execLongPress s = .next t → t.but l = s.but l := by
  intro t ht
  unfold execLongPress at ht
  (try simp only [ok] at ht); (repeat' split at ht) <;> (replace ht := Host.Outcome.next.inj ht; subst ht; first
    | with_reducible rfl
    | (simp [h_actions, h_caps, h_chans, h_clusters, h_drives, h_ens, h_entries, h_events, h_groups, h_latches, h_log, h_parts, h_ports, h_regs, h_safeN, h_supply, h_trims, h_waitMaint, ↓State.bump16_but, ↓State.longForceOff_but, ↓State.but_supply, ↓State.ite_but]; done))

theorem execLpPowerCycle_but (s : State) (l : List Fld) (h_actions : Fld.actions ∈ l) (h_active : Fld.active ∈ l) (h_armed : Fld.armed ∈ l) (h_asms : Fld.asms ∈ l) (h_caps : Fld.caps ∈ l) (h_chans : Fld.chans ∈ l) (h_clusters : Fld.clusters ∈ l) (h_committed : Fld.committed ∈ l) (h_downs : Fld.downs ∈ l) (h_draws : Fld.draws ∈ l) (h_drives : Fld.drives ∈ l) (h_ens : Fld.ens ∈ l) (h_entries : Fld.entries ∈ l) (h_events : Fld.events ∈ l) (h_fabricFault : Fld.fabricFault ∈ l) (h_flash : Fld.flash ∈ l) (h_fwWaitAt : Fld.fwWaitAt ∈ l) (h_granules : Fld.granules ∈ l) (h_groups : Fld.groups ∈ l) (h_host : Fld.host ∈ l) (h_inbox : Fld.inbox ∈ l) (h_islandBad : Fld.islandBad ∈ l) (h_latches : Fld.latches ∈ l) (h_later : Fld.later ∈ l) (h_ledger : Fld.ledger ∈ l) (h_log : Fld.log ∈ l) (h_mgmtDown : Fld.mgmtDown ∈ l) (h_nv : Fld.nv ∈ l) (h_parts : Fld.parts ∈ l) (h_peerOut : Fld.peerOut ∈ l) (h_peerReq : Fld.peerReq ∈ l) (h_peerReqsAt : Fld.peerReqsAt ∈ l) (h_peerTries : Fld.peerTries ∈ l) (h_ports : Fld.ports ∈ l) (h_prior : Fld.prior ∈ l) (h_queueC : Fld.queueC ∈ l) (h_regs : Fld.regs ∈ l) (h_safeN : Fld.safeN ∈ l) (h_sec : Fld.sec ∈ l) (h_sessNext : Fld.sessNext ∈ l) (h_sessions : Fld.sessions ∈ l) (h_sets : Fld.sets ∈ l) (h_shadow : Fld.shadow ∈ l) (h_stalled : Fld.stalled ∈ l) (h_streams : Fld.streams ∈ l) (h_supply : Fld.supply ∈ l) (h_svc : Fld.svc ∈ l) (h_switchSt : Fld.switchSt ∈ l) (h_t1sSleep : Fld.t1sSleep ∈ l) (h_thermal : Fld.thermal ∈ l) (h_trestle : Fld.trestle ∈ l) (h_trims : Fld.trims ∈ l) (h_waitMaint : Fld.waitMaint ∈ l) (h_waits : Fld.waits ∈ l) :
    ∀ t, execLpPowerCycle s = .next t → t.but l = s.but l := by
  intro t ht
  unfold execLpPowerCycle at ht
  (try simp only [ok] at ht); (repeat' split at ht) <;> (replace ht := Host.Outcome.next.inj ht; subst ht; first
    | with_reducible rfl
    | (simp [h_actions, h_active, h_armed, h_asms, h_caps, h_chans, h_clusters, h_committed, h_downs, h_draws, h_drives, h_ens, h_entries, h_events, h_fabricFault, h_flash, h_fwWaitAt, h_granules, h_groups, h_host, h_inbox, h_islandBad, h_latches, h_later, h_ledger, h_log, h_mgmtDown, h_nv, h_parts, h_peerOut, h_peerReq, h_peerReqsAt, h_peerTries, h_ports, h_prior, h_queueC, h_regs, h_safeN, h_sec, h_sessNext, h_sessions, h_sets, h_shadow, h_stalled, h_streams, h_supply, h_svc, h_switchSt, h_t1sSleep, h_thermal, h_trestle, h_trims, h_waitMaint, h_waits, ↓State.powerCycle_but, ↓State.ite_but]; done)
    | (rename_i heq; have hk := congrArg (fun x => x.1.but l) heq; simp [h_actions, h_active, h_armed, h_asms, h_caps, h_chans, h_clusters, h_committed, h_downs, h_draws, h_drives, h_ens, h_entries, h_events, h_fabricFault, h_flash, h_fwWaitAt, h_granules, h_groups, h_host, h_inbox, h_islandBad, h_latches, h_later, h_ledger, h_log, h_mgmtDown, h_nv, h_parts, h_peerOut, h_peerReq, h_peerReqsAt, h_peerTries, h_ports, h_prior, h_queueC, h_regs, h_safeN, h_sec, h_sessNext, h_sessions, h_sets, h_shadow, h_stalled, h_streams, h_supply, h_svc, h_switchSt, h_t1sSleep, h_thermal, h_trestle, h_trims, h_waitMaint, h_waits, ↓State.powerCycle_but, ↓State.ite_but] at hk; simp [hk, h_actions, h_active, h_armed, h_asms, h_caps, h_chans, h_clusters, h_committed, h_downs, h_draws, h_drives, h_ens, h_entries, h_events, h_fabricFault, h_flash, h_fwWaitAt, h_granules, h_groups, h_host, h_inbox, h_islandBad, h_latches, h_later, h_ledger, h_log, h_mgmtDown, h_nv, h_parts, h_peerOut, h_peerReq, h_peerReqsAt, h_peerTries, h_ports, h_prior, h_queueC, h_regs, h_safeN, h_sec, h_sessNext, h_sessions, h_sets, h_shadow, h_stalled, h_streams, h_supply, h_svc, h_switchSt, h_t1sSleep, h_thermal, h_trestle, h_trims, h_waitMaint, h_waits, ↓State.powerCycle_but, ↓State.ite_but]; done))

theorem execRtcAlarm_but (s : State) (l : List Fld) (h_regs : Fld.regs ∈ l) (h_supply : Fld.supply ∈ l) :
    ∀ t, execRtcAlarm s = .next t → t.but l = s.but l := by
  intro t ht
  unfold execRtcAlarm at ht
  (try simp only [ok] at ht); (repeat' split at ht) <;> (replace ht := Host.Outcome.next.inj ht; subst ht; first
    | with_reducible rfl
    | (simp [h_regs, h_supply, ↓State.wake_but, ↓State.ite_but]; done))

theorem execCanWake_but (highUs : Nat) (s : State) (l : List Fld) (h_regs : Fld.regs ∈ l) (h_supply : Fld.supply ∈ l) :
    ∀ t, execCanWake highUs s = .next t → t.but l = s.but l := by
  intro t ht
  unfold execCanWake at ht
  (try simp only [ok] at ht); (repeat' split at ht) <;> (replace ht := Host.Outcome.next.inj ht; subst ht; first
    | with_reducible rfl
    | (simp [h_regs, h_supply, ↓State.wake_but, ↓State.ite_but]; done))

@[simp] theorem State.wakePressed_but (s : State) (l : List Fld) (h_regs : Fld.regs ∈ l) (h_supply : Fld.supply ∈ l) : (State.wakePressed s).but l = s.but l := by
  unfold State.wakePressed
  first
  | (simp [h_regs, h_supply, ↓State.wake_but, ↓State.ite_but]; done)
  | ((try dsimp only); (repeat' split) <;> first
    | with_reducible rfl
    | (simp [h_regs, h_supply, ↓State.wake_but, ↓State.ite_but]; done))

@[simp] theorem State.programEnds_but (s : State) (l : List Fld) (h_events : Fld.events ∈ l) (h_flash : Fld.flash ∈ l) (h_granules : Fld.granules ∈ l) (h_log : Fld.log ∈ l) (h_nv : Fld.nv ∈ l) (h_regs : Fld.regs ∈ l) : (State.programEnds s).but l = s.but l := by
  unfold State.programEnds
  (try dsimp only); (repeat' split) <;> first
    | with_reducible rfl
    | (simp [h_events, h_flash, h_granules, h_log, h_nv, h_regs, ↓State.drawerDone_but, ↓State.setMarkers_but, ↓State.but_nv, ↓State.ite_but]; done)
    | (rename_i heq; have hk := congrArg (fun x => x.1.but l) heq; simp [h_events, h_flash, h_granules, h_log, h_nv, h_regs, ↓State.drawerDone_but, ↓State.setMarkers_but, ↓State.but_nv, ↓State.ite_but] at hk; simp [hk, h_events, h_flash, h_granules, h_log, h_nv, h_regs, ↓State.drawerDone_but, ↓State.setMarkers_but, ↓State.but_nv, ↓State.ite_but]; done)

@[simp] theorem State.sleepNow_but (s : State) (l : List Fld) (h_actions : Fld.actions ∈ l) (h_active : Fld.active ∈ l) (h_armed : Fld.armed ∈ l) (h_asms : Fld.asms ∈ l) (h_caps : Fld.caps ∈ l) (h_chans : Fld.chans ∈ l) (h_clusters : Fld.clusters ∈ l) (h_committed : Fld.committed ∈ l) (h_downs : Fld.downs ∈ l) (h_draws : Fld.draws ∈ l) (h_drives : Fld.drives ∈ l) (h_ens : Fld.ens ∈ l) (h_entries : Fld.entries ∈ l) (h_events : Fld.events ∈ l) (h_fabricFault : Fld.fabricFault ∈ l) (h_flash : Fld.flash ∈ l) (h_fwWaitAt : Fld.fwWaitAt ∈ l) (h_granules : Fld.granules ∈ l) (h_groups : Fld.groups ∈ l) (h_host : Fld.host ∈ l) (h_inbox : Fld.inbox ∈ l) (h_islandBad : Fld.islandBad ∈ l) (h_latches : Fld.latches ∈ l) (h_later : Fld.later ∈ l) (h_ledger : Fld.ledger ∈ l) (h_log : Fld.log ∈ l) (h_mgmtDown : Fld.mgmtDown ∈ l) (h_nv : Fld.nv ∈ l) (h_parts : Fld.parts ∈ l) (h_peerOut : Fld.peerOut ∈ l) (h_peerReq : Fld.peerReq ∈ l) (h_peerReqsAt : Fld.peerReqsAt ∈ l) (h_peerTries : Fld.peerTries ∈ l) (h_ports : Fld.ports ∈ l) (h_prior : Fld.prior ∈ l) (h_queueC : Fld.queueC ∈ l) (h_regs : Fld.regs ∈ l) (h_retained : Fld.retained ∈ l) (h_safeN : Fld.safeN ∈ l) (h_sec : Fld.sec ∈ l) (h_sectors : Fld.sectors ∈ l) (h_sessNext : Fld.sessNext ∈ l) (h_sessions : Fld.sessions ∈ l) (h_sets : Fld.sets ∈ l) (h_shadow : Fld.shadow ∈ l) (h_stalled : Fld.stalled ∈ l) (h_streams : Fld.streams ∈ l) (h_supply : Fld.supply ∈ l) (h_svc : Fld.svc ∈ l) (h_switchSt : Fld.switchSt ∈ l) (h_t1sSleep : Fld.t1sSleep ∈ l) (h_thermal : Fld.thermal ∈ l) (h_trestle : Fld.trestle ∈ l) (h_trims : Fld.trims ∈ l) (h_waitMaint : Fld.waitMaint ∈ l) (h_waits : Fld.waits ∈ l) : (State.sleepNow s).but l = s.but l := by
  unfold State.sleepNow
  extract_lets e1 fw w src e2 src2 src3 e3
  have k1 : e1.but l = s.but l := by simp only [e1]; simp [h_actions, h_active, h_armed, h_asms, h_caps, h_chans, h_clusters, h_committed, h_downs, h_draws, h_drives, h_ens, h_entries, h_events, h_fabricFault, h_flash, h_fwWaitAt, h_granules, h_groups, h_host, h_inbox, h_islandBad, h_latches, h_later, h_ledger, h_log, h_mgmtDown, h_nv, h_parts, h_peerOut, h_peerReq, h_peerReqsAt, h_peerTries, h_ports, h_prior, h_queueC, h_regs, h_retained, h_safeN, h_sec, h_sectors, h_sessNext, h_sessions, h_sets, h_shadow, h_stalled, h_streams, h_supply, h_svc, h_switchSt, h_t1sSleep, h_thermal, h_trestle, h_trims, h_waitMaint, h_waits, ↓State.commitStaged_but, ↓State.haltErase_but, ↓State.programEnds_but]
  clear_value e1
  have k2 : e2.but l = s.but l := by simp only [e2]; simp [h_actions, h_active, h_armed, h_asms, h_caps, h_chans, h_clusters, h_committed, h_downs, h_draws, h_drives, h_ens, h_entries, h_events, h_fabricFault, h_flash, h_fwWaitAt, h_granules, h_groups, h_host, h_inbox, h_islandBad, h_latches, h_later, h_ledger, h_log, h_mgmtDown, h_nv, h_parts, h_peerOut, h_peerReq, h_peerReqsAt, h_peerTries, h_ports, h_prior, h_queueC, h_regs, h_retained, h_safeN, h_sec, h_sectors, h_sessNext, h_sessions, h_sets, h_shadow, h_stalled, h_streams, h_supply, h_svc, h_switchSt, h_t1sSleep, h_thermal, h_trestle, h_trims, h_waitMaint, h_waits, ↓State.vcoreDown_but, ↓State.retain_but, ↓State.but_nv, k1]
  clear_value e2
  have k3 : e3.but l = s.but l := by simp only [e3]; refine Eq.trans ?_ k2; simp [State.but, h_actions, h_active, h_armed, h_asms, h_caps, h_chans, h_clusters, h_committed, h_downs, h_draws, h_drives, h_ens, h_entries, h_events, h_fabricFault, h_flash, h_fwWaitAt, h_granules, h_groups, h_host, h_inbox, h_islandBad, h_latches, h_later, h_ledger, h_log, h_mgmtDown, h_nv, h_parts, h_peerOut, h_peerReq, h_peerReqsAt, h_peerTries, h_ports, h_prior, h_queueC, h_regs, h_retained, h_safeN, h_sec, h_sectors, h_sessNext, h_sessions, h_sets, h_shadow, h_stalled, h_streams, h_supply, h_svc, h_switchSt, h_t1sSleep, h_thermal, h_trestle, h_trims, h_waitMaint, h_waits]
  clear_value e3
  rw [State.wakePressed_but _ _ h_regs h_supply]
  exact (foldl_but _ _ _ _ (fun t x _ => State.setReg_but _ _ _ _ h_regs)).trans k3

theorem execSleep_but (r : Role) (v : Byte) (s : State) (l : List Fld) (h_actions : Fld.actions ∈ l) (h_active : Fld.active ∈ l) (h_armed : Fld.armed ∈ l) (h_asms : Fld.asms ∈ l) (h_caps : Fld.caps ∈ l) (h_chans : Fld.chans ∈ l) (h_clusters : Fld.clusters ∈ l) (h_committed : Fld.committed ∈ l) (h_downs : Fld.downs ∈ l) (h_draws : Fld.draws ∈ l) (h_drives : Fld.drives ∈ l) (h_ens : Fld.ens ∈ l) (h_entries : Fld.entries ∈ l) (h_events : Fld.events ∈ l) (h_fabricFault : Fld.fabricFault ∈ l) (h_flash : Fld.flash ∈ l) (h_fwWaitAt : Fld.fwWaitAt ∈ l) (h_granules : Fld.granules ∈ l) (h_groups : Fld.groups ∈ l) (h_host : Fld.host ∈ l) (h_inbox : Fld.inbox ∈ l) (h_islandBad : Fld.islandBad ∈ l) (h_latches : Fld.latches ∈ l) (h_later : Fld.later ∈ l) (h_ledger : Fld.ledger ∈ l) (h_log : Fld.log ∈ l) (h_mgmtDown : Fld.mgmtDown ∈ l) (h_nv : Fld.nv ∈ l) (h_parts : Fld.parts ∈ l) (h_peerOut : Fld.peerOut ∈ l) (h_peerReq : Fld.peerReq ∈ l) (h_peerReqsAt : Fld.peerReqsAt ∈ l) (h_peerTries : Fld.peerTries ∈ l) (h_ports : Fld.ports ∈ l) (h_prior : Fld.prior ∈ l) (h_queueC : Fld.queueC ∈ l) (h_regs : Fld.regs ∈ l) (h_reply : Fld.reply ∈ l) (h_retained : Fld.retained ∈ l) (h_safeN : Fld.safeN ∈ l) (h_sec : Fld.sec ∈ l) (h_sectors : Fld.sectors ∈ l) (h_sessNext : Fld.sessNext ∈ l) (h_sessions : Fld.sessions ∈ l) (h_sets : Fld.sets ∈ l) (h_shadow : Fld.shadow ∈ l) (h_stalled : Fld.stalled ∈ l) (h_status : Fld.status ∈ l) (h_streams : Fld.streams ∈ l) (h_supply : Fld.supply ∈ l) (h_svc : Fld.svc ∈ l) (h_switchSt : Fld.switchSt ∈ l) (h_t1sSleep : Fld.t1sSleep ∈ l) (h_thermal : Fld.thermal ∈ l) (h_trestle : Fld.trestle ∈ l) (h_trims : Fld.trims ∈ l) (h_waitMaint : Fld.waitMaint ∈ l) (h_waits : Fld.waits ∈ l) :
    ∀ t, execSleep r v s = .next t → t.but l = s.but l := by
  intro t ht
  unfold execSleep at ht
  (try simp only [ok] at ht); (repeat' split at ht) <;> (replace ht := Host.Outcome.next.inj ht; subst ht; first
    | with_reducible rfl
    | (simp [h_actions, h_active, h_armed, h_asms, h_caps, h_chans, h_clusters, h_committed, h_downs, h_draws, h_drives, h_ens, h_entries, h_events, h_fabricFault, h_flash, h_fwWaitAt, h_granules, h_groups, h_host, h_inbox, h_islandBad, h_latches, h_later, h_ledger, h_log, h_mgmtDown, h_nv, h_parts, h_peerOut, h_peerReq, h_peerReqsAt, h_peerTries, h_ports, h_prior, h_queueC, h_regs, h_reply, h_retained, h_safeN, h_sec, h_sectors, h_sessNext, h_sessions, h_sets, h_shadow, h_stalled, h_status, h_streams, h_supply, h_svc, h_switchSt, h_t1sSleep, h_thermal, h_trestle, h_trims, h_waitMaint, h_waits, ↓State.answer_but, ↓State.item_but, ↓State.sleepNow_but, ↓State.ite_but]; done)
    | ((first
        | refine State.item_but _ _ _ _ _ _ h_regs h_reply h_status (fun s => ?_)
        | refine State.itemLen_but _ _ _ _ _ _ _ h_regs h_reply h_status (fun s => ?_)) <;> (try dsimp only) <;> (repeat' split) <;> first
      | with_reducible rfl
      | (simp [h_actions, h_active, h_armed, h_asms, h_caps, h_chans, h_clusters, h_committed, h_downs, h_draws, h_drives, h_ens, h_entries, h_events, h_fabricFault, h_flash, h_fwWaitAt, h_granules, h_groups, h_host, h_inbox, h_islandBad, h_latches, h_later, h_ledger, h_log, h_mgmtDown, h_nv, h_parts, h_peerOut, h_peerReq, h_peerReqsAt, h_peerTries, h_ports, h_prior, h_queueC, h_regs, h_reply, h_retained, h_safeN, h_sec, h_sectors, h_sessNext, h_sessions, h_sets, h_shadow, h_stalled, h_status, h_streams, h_supply, h_svc, h_switchSt, h_t1sSleep, h_thermal, h_trestle, h_trims, h_waitMaint, h_waits, ↓State.answer_but, ↓State.item_but, ↓State.sleepNow_but, ↓State.ite_but]; done)
      | (rename_i heq; have hk := congrArg (fun x => x.1.but l) heq; simp [h_actions, h_active, h_armed, h_asms, h_caps, h_chans, h_clusters, h_committed, h_downs, h_draws, h_drives, h_ens, h_entries, h_events, h_fabricFault, h_flash, h_fwWaitAt, h_granules, h_groups, h_host, h_inbox, h_islandBad, h_latches, h_later, h_ledger, h_log, h_mgmtDown, h_nv, h_parts, h_peerOut, h_peerReq, h_peerReqsAt, h_peerTries, h_ports, h_prior, h_queueC, h_regs, h_reply, h_retained, h_safeN, h_sec, h_sectors, h_sessNext, h_sessions, h_sets, h_shadow, h_stalled, h_status, h_streams, h_supply, h_svc, h_switchSt, h_t1sSleep, h_thermal, h_trestle, h_trims, h_waitMaint, h_waits, ↓State.answer_but, ↓State.item_but, ↓State.sleepNow_but, ↓State.ite_but] at hk; simp [hk, h_actions, h_active, h_armed, h_asms, h_caps, h_chans, h_clusters, h_committed, h_downs, h_draws, h_drives, h_ens, h_entries, h_events, h_fabricFault, h_flash, h_fwWaitAt, h_granules, h_groups, h_host, h_inbox, h_islandBad, h_latches, h_later, h_ledger, h_log, h_mgmtDown, h_nv, h_parts, h_peerOut, h_peerReq, h_peerReqsAt, h_peerTries, h_ports, h_prior, h_queueC, h_regs, h_reply, h_retained, h_safeN, h_sec, h_sectors, h_sessNext, h_sessions, h_sets, h_shadow, h_stalled, h_status, h_streams, h_supply, h_svc, h_switchSt, h_t1sSleep, h_thermal, h_trestle, h_trims, h_waitMaint, h_waits, ↓State.answer_but, ↓State.item_but, ↓State.sleepNow_but, ↓State.ite_but]; done)))

theorem execRtc_but (r : Role) (v : BitVec 32) (s : State) (l : List Fld) (h_ledger : Fld.ledger ∈ l) (h_parts : Fld.parts ∈ l) (h_regs : Fld.regs ∈ l) (h_reply : Fld.reply ∈ l) (h_status : Fld.status ∈ l) (h_supply : Fld.supply ∈ l) :
    ∀ t, execRtc r v s = .next t → t.but l = s.but l := by
  intro t ht
  unfold execRtc at ht
  (repeat' split at ht) <;> (replace ht := Host.Outcome.next.inj ht; subst ht) <;> first
    | with_reducible rfl
    | (simp [h_ledger, h_parts, h_regs, h_reply, h_status, h_supply, ↓State.answer_but, ↓State.intervalBreak_but, ↓State.item_but, ↓State.but_supply, ↓State.ite_but]; done)
    | ((first
        | refine State.item_but _ _ _ _ _ _ h_regs h_reply h_status (fun s => ?_)
        | refine State.itemLen_but _ _ _ _ _ _ _ h_regs h_reply h_status (fun s => ?_)) <;> (try dsimp only) <;> (repeat' split) <;> first
      | with_reducible rfl
      | (simp [h_ledger, h_parts, h_regs, h_reply, h_status, h_supply, ↓State.answer_but, ↓State.intervalBreak_but, ↓State.item_but, ↓State.but_supply, ↓State.ite_but]; done)
      | (rename_i heq; have hk := congrArg (fun x => x.1.but l) heq; simp [h_ledger, h_parts, h_regs, h_reply, h_status, h_supply, ↓State.answer_but, ↓State.intervalBreak_but, ↓State.item_but, ↓State.but_supply, ↓State.ite_but] at hk; simp [hk, *]; done))

end Sys2Proof.Machine
end

