-- ==== Sys2Proof/Laws/Keep/TwoWire.lean ====
section
/-! SUPPORT. The frames of the operations of Machine/TwoWire.lean: the parts of the state that each of them can change. -/
set_option linter.all false

namespace Sys2Proof.Machine

@[simp] theorem State.actResult_but (s : State) (e code : Nat) (l : List Fld) (h_actions : Fld.actions ∈ l) : (State.actResult s e code).but l = s.but l := by
  unfold State.actResult
  (try dsimp only); (repeat' split) <;> first
    | with_reducible rfl
    | (simp [h_actions, ↓State.setAction_but, ↓State.ite_but]; done)
    | (rename_i heq; have hk := congrArg (fun x => x.1.but l) heq; simp [h_actions, ↓State.setAction_but, ↓State.ite_but] at hk; simp [hk, h_actions, ↓State.setAction_but, ↓State.ite_but]; done)

@[simp] theorem State.modeDrop_but (s : State) (n : Nat) (l : List Fld) (h_actions : Fld.actions ∈ l) (h_ports : Fld.ports ∈ l) : (State.modeDrop s n).but l = s.but l := by
  unfold State.modeDrop
  extract_lets bad x
  clear_value bad x
  rw [State.setPort_but _ _ _ _ h_ports]
  refine foldl_but _ _ _ _ (fun s t _ => ?_)
  split <;> simp [h_actions, h_ports]

@[simp] theorem State.txData_but (s : State) (t : PsTx) (l : List Fld) (h_draws : Fld.draws ∈ l) : (State.txData s t).1.but l = s.but l := by
  unfold State.txData
  (try dsimp only); (repeat' split) <;> first
    | with_reducible rfl
    | (simp [h_draws, ↓State.but_draws, ↓State.ite_but]; done)
    | (rename_i heq; have hk := congrArg (fun x => x.1.but l) heq; simp [h_draws, ↓State.but_draws, ↓State.ite_but] at hk; simp [hk, h_draws, ↓State.but_draws, ↓State.ite_but]; done)

@[simp] theorem State.loopSent_but (s : State) (t : PsTx) (l : List Fld) (h_entries : Fld.entries ∈ l) : (State.loopSent s t).but l = s.but l := by
  unfold State.loopSent
  first
  | (simp [h_entries, ↓State.setEntry_but, ↓State.ite_but]; done)
  | ((try dsimp only); (repeat' split) <;> first
    | with_reducible rfl
    | (simp [h_entries, ↓State.setEntry_but, ↓State.ite_but]; done)
    | (rename_i heq; have hk := congrArg (fun x => x.1.but l) heq; simp [h_entries, ↓State.setEntry_but, ↓State.ite_but] at hk; simp [hk, h_entries, ↓State.setEntry_but, ↓State.ite_but]; done))

@[simp] theorem State.loopFails_but (s : State) (n : Nat) (t : PsTx) (c : Nat) (l : List Fld) (h_entries : Fld.entries ∈ l) (h_events : Fld.events ∈ l) (h_regs : Fld.regs ∈ l) : (State.loopFails s n t c).but l = s.but l := by
  unfold State.loopFails
  first
  | (simp [h_entries, h_events, h_regs, ↓State.bump16_but, ↓State.raise_but, ↓State.setEntry_but, ↓State.ite_but]; done)
  | ((try dsimp only); (repeat' split) <;> first
    | with_reducible rfl
    | (simp [h_entries, h_events, h_regs, ↓State.bump16_but, ↓State.raise_but, ↓State.setEntry_but, ↓State.ite_but]; done))

@[simp] theorem State.takeTurn_but (s : State) (n : Nat) (l : List Fld) (h_actions : Fld.actions ∈ l) (h_draws : Fld.draws ∈ l) (h_entries : Fld.entries ∈ l) (h_ports : Fld.ports ∈ l) (h_regs : Fld.regs ∈ l) : (State.takeTurn s n).but l = s.but l := by
  unfold State.takeTurn
  first
  | (simp [h_actions, h_draws, h_entries, h_ports, h_regs, ↓State.bump32_but, ↓State.loopSent_but, ↓State.modeDrop_but, ↓State.setPort_but, ↓State.txData_but, ↓State.ite_but]; done)
  | ((try dsimp only); (repeat' split) <;> first
    | with_reducible rfl
    | (simp [h_actions, h_draws, h_entries, h_ports, h_regs, ↓State.bump32_but, ↓State.loopSent_but, ↓State.modeDrop_but, ↓State.setPort_but, ↓State.txData_but, ↓State.ite_but]; done)
    | (rename_i heq; have hk := congrArg (fun x => x.1.but l) heq; simp [h_actions, h_draws, h_entries, h_ports, h_regs, ↓State.bump32_but, ↓State.loopSent_but, ↓State.modeDrop_but, ↓State.setPort_but, ↓State.txData_but, ↓State.ite_but] at hk; simp [h_actions, h_draws, h_entries, h_ports, h_regs, ↓State.bump32_but, ↓State.loopSent_but, ↓State.modeDrop_but, ↓State.setPort_but, ↓State.txData_but, ↓State.ite_but, hk]; done))

theorem execPsTurn_but (n : Fin 8) (s : State) (l : List Fld) (h_actions : Fld.actions ∈ l) (h_draws : Fld.draws ∈ l) (h_entries : Fld.entries ∈ l) (h_ports : Fld.ports ∈ l) (h_regs : Fld.regs ∈ l) :
    ∀ t, execPsTurn n s = .next t → t.but l = s.but l := by
  intro t ht
  unfold execPsTurn at ht
  (try simp only [ok] at ht); (repeat' split at ht) <;> (replace ht := Host.Outcome.next.inj ht; subst ht; first
    | with_reducible rfl
    | (simp [h_actions, h_draws, h_entries, h_ports, h_regs, ↓State.takeTurn_but, ↓State.ite_but]; done))

@[simp] theorem State.entryResult_but (s : State) (e code : Nat) (l : List Fld) (h_entries : Fld.entries ∈ l) : (State.entryResult s e code).but l = s.but l := by
  unfold State.entryResult
  simp [h_entries, ↓State.setEntry_but, ↓State.ite_but]

@[simp] theorem State.modeFail_but (s : State) (n : Nat) (t : PsTx) (l : List Fld) (h_actions : Fld.actions ∈ l) (h_entries : Fld.entries ∈ l) (h_events : Fld.events ∈ l) (h_ports : Fld.ports ∈ l) (h_regs : Fld.regs ∈ l) : (State.modeFail s n t).but l = s.but l := by
  unfold State.modeFail
  first
  | (simp [h_actions, h_entries, h_events, h_ports, h_regs, ↓State.actResult_but, ↓State.loopFails_but, ↓State.setPort_but, ↓State.ite_but]; done)
  | ((try dsimp only); (repeat' split) <;> first
    | with_reducible rfl
    | (simp [h_actions, h_entries, h_events, h_ports, h_regs, ↓State.actResult_but, ↓State.loopFails_but, ↓State.setPort_but, ↓State.ite_but]; done)
    | (rename_i heq; have hk := congrArg (fun x => x.1.but l) heq; simp [h_actions, h_entries, h_events, h_ports, h_regs, ↓State.actResult_but, ↓State.loopFails_but, ↓State.setPort_but, ↓State.ite_but] at hk; simp [h_actions, h_entries, h_events, h_ports, h_regs, ↓State.actResult_but, ↓State.loopFails_but, ↓State.setPort_but, ↓State.ite_but, hk]; done))

@[simp] theorem State.txResult_but (s : State) (n e code : Nat) (l : List Fld) (h_entries : Fld.entries ∈ l) (h_regs : Fld.regs ∈ l) : (State.txResult s n e code).but l = s.but l := by
  unfold State.txResult
  first
  | (simp [h_entries, h_regs, ↓State.bump16_but, ↓State.entryResult_but, ↓State.ite_but]; done)
  | ((try dsimp only); (repeat' split) <;> first
    | with_reducible rfl
    | (simp [h_entries, h_regs, ↓State.bump16_but, ↓State.entryResult_but, ↓State.ite_but]; done))

@[simp] theorem State.modeIn_but (s : State) (e mode : Nat) (l : List Fld) (h_entries : Fld.entries ∈ l) : (State.modeIn s e mode).but l = s.but l := by
  unfold State.modeIn
  first
  | (simp [h_entries, ↓State.entryResult_but, ↓State.setEntry_but, ↓State.ite_but]; done)
  | ((try dsimp only); (repeat' split) <;> first
    | with_reducible rfl
    | (simp [h_entries, ↓State.entryResult_but, ↓State.setEntry_but, ↓State.ite_but]; done))

@[simp] theorem State.txEnd_but (s : State) (n : Nat) (t : PsTx) (code data : Nat) (l : List Fld) (h_actions : Fld.actions ∈ l) (h_entries : Fld.entries ∈ l) (h_events : Fld.events ∈ l) (h_ports : Fld.ports ∈ l) (h_regs : Fld.regs ∈ l) (h_thermal : Fld.thermal ∈ l) : (State.txEnd s n t code data).but l = s.but l := by
  unfold State.txEnd
  first
  | (simp [h_actions, h_entries, h_events, h_ports, h_regs, h_thermal, ↓State.actResult_but, ↓State.bump16_but, ↓State.modeFail_but, ↓State.modeIn_but, ↓State.nbReading_but, ↓State.raise_but, ↓State.setEntry_but, ↓State.setPort_but, ↓State.txResult_but, ↓State.ite_but]; done)
  | ((try dsimp only); (repeat' split) <;> first
    | with_reducible rfl
    | (simp [h_actions, h_entries, h_events, h_ports, h_regs, h_thermal, ↓State.actResult_but, ↓State.bump16_but, ↓State.modeFail_but, ↓State.modeIn_but, ↓State.nbReading_but, ↓State.raise_but, ↓State.setEntry_but, ↓State.setPort_but, ↓State.txResult_but, ↓State.ite_but]; done)
    | (rename_i heq; have hk := congrArg (fun x => x.1.but l) heq; simp [h_actions, h_entries, h_events, h_ports, h_regs, h_thermal, ↓State.actResult_but, ↓State.bump16_but, ↓State.modeFail_but, ↓State.modeIn_but, ↓State.nbReading_but, ↓State.raise_but, ↓State.setEntry_but, ↓State.setPort_but, ↓State.txResult_but, ↓State.ite_but] at hk; simp [h_actions, h_entries, h_events, h_ports, h_regs, h_thermal, ↓State.actResult_but, ↓State.bump16_but, ↓State.modeFail_but, ↓State.modeIn_but, ↓State.nbReading_but, ↓State.raise_but, ↓State.setEntry_but, ↓State.setPort_but, ↓State.txResult_but, ↓State.ite_but, hk]; done))

@[simp] theorem State.pageDone_but (s : State) (n : Nat) (t : PsTx) (l : List Fld) (h_entries : Fld.entries ∈ l) (h_ports : Fld.ports ∈ l) : (State.pageDone s n t).but l = s.but l := by
  unfold State.pageDone
  first
  | (simp [h_entries, h_ports, ↓State.loopSent_but, ↓State.setPort_but, ↓State.ite_but]; done)
  | ((try dsimp only); (repeat' split) <;> first
    | with_reducible rfl
    | (simp [h_entries, h_ports, ↓State.loopSent_but, ↓State.setPort_but, ↓State.ite_but]; done))

theorem execPsTransactionEnd_but (n : Fin 8) (result : PsResult) (data : BitVec 16) (s : State) (l : List Fld) (h_actions : Fld.actions ∈ l) (h_entries : Fld.entries ∈ l) (h_events : Fld.events ∈ l) (h_ports : Fld.ports ∈ l) (h_regs : Fld.regs ∈ l) (h_thermal : Fld.thermal ∈ l) :
    ∀ t, execPsTransactionEnd n result data s = .next t → t.but l = s.but l := by
  intro t ht
  unfold execPsTransactionEnd at ht
  (try simp only [ok] at ht); (repeat' split at ht) <;> (replace ht := Host.Outcome.next.inj ht; subst ht; first
    | with_reducible rfl
    | (simp [h_actions, h_entries, h_events, h_ports, h_regs, h_thermal, ↓State.pageDone_but, ↓State.txEnd_but, ↓State.ite_but]; done)
    | (rename_i heq; have hk := congrArg (fun x => x.1.but l) heq; simp [h_actions, h_entries, h_events, h_ports, h_regs, h_thermal, ↓State.pageDone_but, ↓State.txEnd_but, ↓State.ite_but] at hk; simp [h_actions, h_entries, h_events, h_ports, h_regs, h_thermal, ↓State.pageDone_but, ↓State.txEnd_but, ↓State.ite_but, hk]; done))

@[simp] theorem State.portFault_but (s : State) (n cause : Nat) (clear : Bool) (l : List Fld) (h_events : Fld.events ∈ l) (h_regs : Fld.regs ∈ l) : (State.portFault s n cause clear).but l = s.but l := by
  unfold State.portFault
  simp [h_events, h_regs, ↓State.raise_but, ↓State.ite_but]

@[simp] theorem State.stretched_but (s : State) (n : Nat) (l : List Fld) (h_events : Fld.events ∈ l) (h_ports : Fld.ports ∈ l) (h_regs : Fld.regs ∈ l) : (State.stretched s n).but l = s.but l := by
  unfold State.stretched
  first
  | (simp [h_events, h_ports, h_regs, ↓State.portFault_but, ↓State.setPort_but, ↓State.ite_but]; done)
  | ((try dsimp only); (repeat' split) <;> first
    | with_reducible rfl
    | (simp [h_events, h_ports, h_regs, ↓State.portFault_but, ↓State.setPort_but, ↓State.ite_but]; done))

@[simp] theorem State.peerDropped_but (s : State) (l : List Fld) (h_events : Fld.events ∈ l) (h_peerOut : Fld.peerOut ∈ l) (h_peerTries : Fld.peerTries ∈ l) (h_regs : Fld.regs ∈ l) : (State.peerDropped s).but l = s.but l := by
  unfold State.peerDropped
  first
  | (simp [h_events, h_peerOut, h_peerTries, h_regs, ↓State.bump16_but, ↓State.raise_but, State.but, ↓State.but_peerOut, ↓State.but_peerTries, ↓State.ite_but]; done)
  | ((try dsimp only); (repeat' split) <;> first
    | with_reducible rfl
    | (simp [h_events, h_peerOut, h_peerTries, h_regs, ↓State.bump16_but, ↓State.raise_but, State.but, ↓State.but_peerOut, ↓State.but_peerTries, ↓State.ite_but]; done))

theorem execPsStretchTimeout_but (n : Fin 9) (s : State) (l : List Fld) (h_actions : Fld.actions ∈ l) (h_entries : Fld.entries ∈ l) (h_events : Fld.events ∈ l) (h_peerOut : Fld.peerOut ∈ l) (h_peerTries : Fld.peerTries ∈ l) (h_ports : Fld.ports ∈ l) (h_regs : Fld.regs ∈ l) (h_thermal : Fld.thermal ∈ l) :
    ∀ t, execPsStretchTimeout n s = .next t → t.but l = s.but l := by
  intro t ht
  unfold execPsStretchTimeout at ht
  (try simp only [ok] at ht); (repeat' split at ht) <;> (replace ht := Host.Outcome.next.inj ht; subst ht; first
    | with_reducible rfl
    | (simp [h_actions, h_entries, h_events, h_peerOut, h_peerTries, h_ports, h_regs, h_thermal, ↓State.peerDropped_but, ↓State.setPort_but, ↓State.stretched_but, ↓State.txEnd_but, ↓State.ite_but]; done)
    | (rename_i heq; have hk := congrArg (fun x => x.1.but l) heq; simp [h_actions, h_entries, h_events, h_peerOut, h_peerTries, h_ports, h_regs, h_thermal, ↓State.peerDropped_but, ↓State.setPort_but, ↓State.stretched_but, ↓State.txEnd_but, ↓State.ite_but] at hk; simp [h_actions, h_entries, h_events, h_peerOut, h_peerTries, h_ports, h_regs, h_thermal, ↓State.peerDropped_but, ↓State.setPort_but, ↓State.stretched_but, ↓State.txEnd_but, ↓State.ite_but, hk]; done))

theorem execSclReleased_but (n : Fin 9) (sda : SdaLine) (s : State) (l : List Fld) (h_ports : Fld.ports ∈ l) :
    ∀ t, execSclReleased n sda s = .next t → t.but l = s.but l := by
  intro t ht
  unfold execSclReleased at ht
  (try simp only [ok] at ht); (repeat' split at ht) <;> (replace ht := Host.Outcome.next.inj ht; subst ht; first
    | with_reducible rfl
    | (simp [h_ports, ↓State.setPort_but, ↓State.ite_but]; done)
    | (rename_i heq; have hk := congrArg (fun x => x.1.but l) heq; simp [h_ports, ↓State.setPort_but, ↓State.ite_but] at hk; simp [h_ports, ↓State.setPort_but, ↓State.ite_but, hk]; done))

theorem execLineStuck_but (n : Fin 9) (s : State) (l : List Fld) (h_actions : Fld.actions ∈ l) (h_entries : Fld.entries ∈ l) (h_events : Fld.events ∈ l) (h_ports : Fld.ports ∈ l) (h_regs : Fld.regs ∈ l) (h_thermal : Fld.thermal ∈ l) :
    ∀ t, execLineStuck n s = .next t → t.but l = s.but l := by
  intro t ht
  unfold execLineStuck at ht
  (try simp only [ok] at ht); (repeat' split at ht) <;> (replace ht := Host.Outcome.next.inj ht; subst ht; first
    | with_reducible rfl
    | (simp [h_actions, h_entries, h_events, h_ports, h_regs, h_thermal, ↓State.bump16_but, ↓State.portFault_but, ↓State.raise_but, ↓State.setPort_but, ↓State.txEnd_but, ↓State.ite_but]; done)
    | (rename_i heq; have hk := congrArg (fun x => x.1.but l) heq; simp [h_actions, h_entries, h_events, h_ports, h_regs, h_thermal, ↓State.bump16_but, ↓State.portFault_but, ↓State.raise_but, ↓State.setPort_but, ↓State.txEnd_but, ↓State.ite_but] at hk; simp [hk, h_actions, h_entries, h_events, h_ports, h_regs, h_thermal, ↓State.bump16_but, ↓State.portFault_but, ↓State.raise_but, ↓State.setPort_but, ↓State.txEnd_but, ↓State.ite_but]; done))

theorem execLineStuckClear_but (n : Fin 9) (s : State) (l : List Fld) (h_events : Fld.events ∈ l) (h_ports : Fld.ports ∈ l) (h_regs : Fld.regs ∈ l) :
    ∀ t, execLineStuckClear n s = .next t → t.but l = s.but l := by
  intro t ht
  unfold execLineStuckClear at ht
  (try simp only [ok] at ht); (repeat' split at ht) <;> (replace ht := Host.Outcome.next.inj ht; subst ht; first
    | with_reducible rfl
    | (simp [h_events, h_ports, h_regs, ↓State.portFault_but, ↓State.setPort_but, ↓State.ite_but]; done))

theorem execPsBusError_but (n : Fin 9) (s : State) (l : List Fld) (h_actions : Fld.actions ∈ l) (h_entries : Fld.entries ∈ l) (h_events : Fld.events ∈ l) (h_peerOut : Fld.peerOut ∈ l) (h_peerTries : Fld.peerTries ∈ l) (h_ports : Fld.ports ∈ l) (h_regs : Fld.regs ∈ l) (h_thermal : Fld.thermal ∈ l) :
    ∀ t, execPsBusError n s = .next t → t.but l = s.but l := by
  intro t ht
  unfold execPsBusError at ht
  (try simp only [ok] at ht); (repeat' split at ht) <;> (replace ht := Host.Outcome.next.inj ht; subst ht; first
    | with_reducible rfl
    | (simp [h_actions, h_entries, h_events, h_peerOut, h_peerTries, h_ports, h_regs, h_thermal, ↓State.peerDropped_but, ↓State.portFault_but, ↓State.txEnd_but, ↓State.ite_but]; done)
    | (rename_i heq; have hk := congrArg (fun x => x.1.but l) heq; simp [h_actions, h_entries, h_events, h_peerOut, h_peerTries, h_ports, h_regs, h_thermal, ↓State.peerDropped_but, ↓State.portFault_but, ↓State.txEnd_but, ↓State.ite_but] at hk; simp [h_actions, h_entries, h_events, h_peerOut, h_peerTries, h_ports, h_regs, h_thermal, ↓State.peerDropped_but, ↓State.portFault_but, ↓State.txEnd_but, ↓State.ite_but, hk]; done))

@[simp] theorem State.alertTx_but (s : State) (n e code : Nat) (l : List Fld) (h_entries : Fld.entries ∈ l) (h_events : Fld.events ∈ l) (h_ports : Fld.ports ∈ l) (h_regs : Fld.regs ∈ l) : (State.alertTx s n e code).but l = s.but l := by
  unfold State.alertTx
  first
  | (simp [h_entries, h_events, h_ports, h_regs, ↓State.bump32_but, ↓State.portFault_but, ↓State.stretched_but, ↓State.txResult_but, ↓State.ite_but]; done)
  | ((try dsimp only); (repeat' split) <;> first
    | with_reducible rfl
    | (simp [h_entries, h_events, h_ports, h_regs, ↓State.bump32_but, ↓State.portFault_but, ↓State.stretched_but, ↓State.txResult_but, ↓State.ite_but]; done))

@[simp] theorem State.alertEntry_but (s : State) (n e : Nat) (r : AlertRead) (l : List Fld) (h_entries : Fld.entries ∈ l) (h_events : Fld.events ∈ l) (h_ports : Fld.ports ∈ l) (h_regs : Fld.regs ∈ l) : (State.alertEntry s n e r).but l = s.but l := by
  unfold State.alertEntry
  first
  | (simp [h_entries, h_events, h_ports, h_regs, ↓State.alertTx_but, ↓State.modeIn_but, ↓State.raise_but, ↓State.ite_but]; done)
  | ((try dsimp only); (repeat' split) <;> first
    | with_reducible rfl
    | (simp [h_entries, h_events, h_ports, h_regs, ↓State.alertTx_but, ↓State.modeIn_but, ↓State.raise_but, ↓State.ite_but]; done))

@[simp] theorem State.alertWords_but (s : State) (n : Nat) (ll : List Nat) (reads : List AlertRead) (l : List Fld) (h_entries : Fld.entries ∈ l) (h_events : Fld.events ∈ l) (h_ports : Fld.ports ∈ l) (h_regs : Fld.regs ∈ l) : (State.alertWords s n ll reads).but l = s.but l := by
  unfold State.alertWords
  first
  | (simp [h_entries, h_events, h_ports, h_regs, ↓State.alertEntry_but, foldl_but, ↓State.ite_but]; done)
  | ((try dsimp only); (repeat' split) <;> first
    | with_reducible rfl
    | (simp [h_entries, h_events, h_ports, h_regs, ↓State.alertEntry_but, foldl_but, ↓State.ite_but]; done))

theorem execAttentionRequest_but (n : Fin 8) (reply : AlertReply) (s : State) (l : List Fld) (h_entries : Fld.entries ∈ l) (h_events : Fld.events ∈ l) (h_ports : Fld.ports ∈ l) (h_regs : Fld.regs ∈ l) :
    ∀ t, execAttentionRequest n reply s = .next t → t.but l = s.but l := by
  intro t ht
  unfold execAttentionRequest at ht
  (try simp only [ok] at ht); (repeat' split at ht) <;> (replace ht := Host.Outcome.next.inj ht; subst ht; first
    | with_reducible rfl
    | (simp [h_entries, h_events, h_ports, h_regs, ↓State.alertWords_but, ↓State.bump16_but, ↓State.bump32_but, ↓State.setPort_but, ↓State.ite_but]; done)
    | (rename_i heq; have hk := congrArg (fun x => x.1.but l) heq; simp [h_entries, h_events, h_ports, h_regs, ↓State.alertWords_but, ↓State.bump16_but, ↓State.bump32_but, ↓State.setPort_but, ↓State.ite_but] at hk; simp [h_entries, h_events, h_ports, h_regs, ↓State.alertWords_but, ↓State.bump16_but, ↓State.bump32_but, ↓State.setPort_but, ↓State.ite_but, hk]; done))

@[simp] theorem State.svcIgnore_but (s : State) (l : List Fld) (h_regs : Fld.regs ∈ l) : (State.svcIgnore s).but l = s.but l := by
  unfold State.svcIgnore
  simp [h_regs, ↓State.bump32_but, ↓State.ite_but]

@[simp] theorem State.submit_but (s : State) (w : Nat) (service : Bool) (bytes : Bytes) (l : List Fld) (h_inbox : Fld.inbox ∈ l) (h_svc : Fld.svc ∈ l) : (State.submit s w service bytes).but l = s.but l := by
  unfold State.submit
  first
  | (simp [h_inbox, h_svc, ↓State.setWindow_but, ↓State.but_inbox, ↓State.ite_but]; done)
  | ((try dsimp only); (repeat' split) <;> first
    | with_reducible rfl
    | (simp [h_inbox, h_svc, ↓State.setWindow_but, ↓State.but_inbox, ↓State.ite_but]; done))

@[simp] theorem State.submitDap_but (s : State) (w : Nat) (l : List Fld) (h_inbox : Fld.inbox ∈ l) (h_svc : Fld.svc ∈ l) : (State.submitDap s w).but l = s.but l := by
  unfold State.submitDap
  simp [h_inbox, h_svc, ↓State.submit_but, ↓State.ite_but]

@[simp] theorem State.submitService_but (s : State) (w : Nat) (l : List Fld) (h_inbox : Fld.inbox ∈ l) (h_regs : Fld.regs ∈ l) (h_svc : Fld.svc ∈ l) : (State.submitService s w).but l = s.but l := by
  unfold State.submitService
  first
  | (simp [h_inbox, h_regs, h_svc, ↓State.bump32_but, ↓State.setWindow_but, ↓State.submit_but, ↓State.svcIgnore_but, ↓State.ite_but]; done)
  | ((try dsimp only); (repeat' split) <;> first
    | with_reducible rfl
    | (simp [h_inbox, h_regs, h_svc, ↓State.bump32_but, ↓State.setWindow_but, ↓State.submit_but, ↓State.svcIgnore_but, ↓State.ite_but]; done))

@[simp] theorem State.windowClear_but (s : State) (w : Nat) (l : List Fld) (h_svc : Fld.svc ∈ l) : (State.windowClear s w).but l = s.but l := by
  unfold State.windowClear
  simp [h_svc, ↓State.setWindow_but, ↓State.ite_but]

@[simp] theorem State.dropHead_but (s : State) (w : Nat) (l : List Fld) (h_svc : Fld.svc ∈ l) : (State.dropHead s w).but l = s.but l := by
  unfold State.dropHead
  first
  | (simp [h_svc, ↓State.setWindow_but, ↓State.ite_but]; done)
  | ((try dsimp only); (repeat' split) <;> first
    | with_reducible rfl
    | (simp [h_svc, ↓State.setWindow_but, ↓State.ite_but]; done))

@[simp] theorem State.svcByte_but (s : State) (w : Nat) (b : Byte) (l : List Fld) (h_inbox : Fld.inbox ∈ l) (h_regs : Fld.regs ∈ l) (h_svc : Fld.svc ∈ l) : (State.svcByte s w b).but l = s.but l := by
  unfold State.svcByte
  (try dsimp only); (repeat' split) <;> first
    | with_reducible rfl
    | (simp [h_inbox, h_regs, h_svc, ↓State.dropHead_but, ↓State.setWindow_but, ↓State.submitDap_but, ↓State.submitService_but, ↓State.svcIgnore_but, ↓State.windowClear_but, ↓State.ite_but]; done)
    | (rename_i heq; have hk := congrArg (fun x => x.1.but l) heq; simp [h_inbox, h_regs, h_svc, ↓State.dropHead_but, ↓State.setWindow_but, ↓State.submitDap_but, ↓State.submitService_but, ↓State.svcIgnore_but, ↓State.windowClear_but, ↓State.ite_but] at hk; simp [hk, h_inbox, h_regs, h_svc, ↓State.dropHead_but, ↓State.setWindow_but, ↓State.submitDap_but, ↓State.submitService_but, ↓State.svcIgnore_but, ↓State.windowClear_but, ↓State.ite_but]; done)

@[simp] theorem State.svcBus_but (s : State) (l : List Fld) (h_ports : Fld.ports ∈ l) : (State.svcBus s).but l = s.but l := by
  unfold State.svcBus
  first
  | (simp [h_ports, ↓State.setPort_but, ↓State.ite_but]; done)
  | ((try dsimp only); (repeat' split) <;> first
    | with_reducible rfl
    | (simp [h_ports, ↓State.setPort_but, ↓State.ite_but]; done))

theorem execSvcWrite_but (addr : Fin 128) (bytes : Bytes) (s : State) (l : List Fld) (h_inbox : Fld.inbox ∈ l) (h_ports : Fld.ports ∈ l) (h_regs : Fld.regs ∈ l) (h_svc : Fld.svc ∈ l) :
    ∀ t, execSvcWrite addr bytes s = .next t → t.but l = s.but l := by
  intro t ht
  unfold execSvcWrite at ht
  (try simp only [ok] at ht); (repeat' split at ht) <;> (replace ht := Host.Outcome.next.inj ht; subst ht; first
    | with_reducible rfl
    | (simp [h_inbox, h_ports, h_regs, h_svc, ↓State.setWindow_but, ↓State.svcBus_but, ↓State.svcByte_but, foldl_but, ↓State.ite_but]; done)
    | (rename_i heq; have hk := congrArg (fun x => x.1.but l) heq; simp [h_inbox, h_ports, h_regs, h_svc, ↓State.setWindow_but, ↓State.svcBus_but, ↓State.svcByte_but, foldl_but, ↓State.ite_but] at hk; simp [h_inbox, h_ports, h_regs, h_svc, ↓State.setWindow_but, ↓State.svcBus_but, ↓State.svcByte_but, foldl_but, ↓State.ite_but, hk]; done))

@[simp] theorem State.svcTake_but (s : State) (w : Nat) (l : List Fld) (h_svc : Fld.svc ∈ l) : (State.svcTake s w).1.but l = s.but l := by
  unfold State.svcTake
  first
  | (simp [h_svc, ↓State.setWindow_but, ↓State.ite_but]; done)
  | ((try dsimp only); (repeat' split) <;> first
    | with_reducible rfl
    | (simp [h_svc, ↓State.setWindow_but, ↓State.ite_but]; done)
    | (rename_i heq; have hk := congrArg (fun x => x.1.but l) heq; simp [h_svc, ↓State.setWindow_but, ↓State.ite_but] at hk; simp [hk, h_svc, ↓State.setWindow_but, ↓State.ite_but]; done))

theorem execSvcRead_but (addr : Fin 128) (count : Nat) (s : State) (l : List Fld) (h_ports : Fld.ports ∈ l) (h_reply : Fld.reply ∈ l) (h_svc : Fld.svc ∈ l) :
    ∀ t, execSvcRead addr count s = .next t → t.but l = s.but l := by
  intro t ht
  unfold execSvcRead at ht
  have kb : s.svcBus.but l = s.but l := by simp [h_ports, h_reply, h_svc, ↓State.svcBus_but, ↓State.svcTake_but, ↓State.but_reply, foldl_but, ↓State.ite_but]
  refine Eq.trans ?_ kb
  revert ht
  generalize s.svcBus = s
  intro ht
  dsimp only at ht
  split at ht
  · replace ht := Host.Outcome.next.inj ht; subst ht; rfl
  · rename_i w _
    have k : ∀ (n : List Nat) (a : State × Bytes), (n.foldl (fun (a : State × Bytes) _ =>
        let (u, b) := a.1.svcTake w
        (u, a.2 ++ [b])) a).1.but l = a.1.but l := by
      intro n
      induction n with
      | nil => intro a; rfl
      | cons x n ih =>
        intro a
        rw [List.foldl_cons, ih]
        simp [h_ports, h_reply, h_svc, ↓State.svcBus_but, ↓State.svcTake_but, ↓State.but_reply, foldl_but, ↓State.ite_but]
    have k0 := k (List.range count) (s, [])
    revert ht k0
    generalize List.foldl _ _ _ = q
    obtain ⟨u, b⟩ := q
    intro ht k0
    replace ht := Host.Outcome.next.inj ht; rw [← ht]
    exact (State.but_reply _ _ _ h_reply).trans k0

@[simp] theorem State.winCmd_but (s : State) (w : Nat) (f : State → State) (l : List Fld) (h_ports : Fld.ports ∈ l) (hf : ∀ s, (f s).but l = s.but l) : (State.winCmd s w f).but l = s.but l := by
  unfold State.winCmd
  first
  | (simp [h_ports, ↓State.svcBus_but, ↓State.ite_but, hf]; done)
  | ((try dsimp only); (repeat' split) <;> first
    | with_reducible rfl
    | (simp [h_ports, ↓State.svcBus_but, ↓State.ite_but, hf]; done))

theorem execSubmitDap_but (w : Fin 16) (s : State) (l : List Fld) (h_inbox : Fld.inbox ∈ l) (h_ports : Fld.ports ∈ l) (h_svc : Fld.svc ∈ l) :
    ∀ t, execSubmitDap w s = .next t → t.but l = s.but l := by
  intro t ht
  unfold execSubmitDap at ht
  (try simp only [ok] at ht); (repeat' split at ht) <;> (replace ht := Host.Outcome.next.inj ht; subst ht; first
    | with_reducible rfl
    | (simp [h_inbox, h_ports, h_svc, ↓State.submitDap_but, ↓State.winCmd_but, ↓State.ite_but]; done))

theorem execSubmitService_but (w : Fin 16) (s : State) (l : List Fld) (h_inbox : Fld.inbox ∈ l) (h_ports : Fld.ports ∈ l) (h_regs : Fld.regs ∈ l) (h_svc : Fld.svc ∈ l) :
    ∀ t, execSubmitService w s = .next t → t.but l = s.but l := by
  intro t ht
  unfold execSubmitService at ht
  (try simp only [ok] at ht); (repeat' split at ht) <;> (replace ht := Host.Outcome.next.inj ht; subst ht; first
    | with_reducible rfl
    | (simp [h_inbox, h_ports, h_regs, h_svc, ↓State.submitService_but, ↓State.winCmd_but, ↓State.ite_but]; done))

theorem execWindowClear_but (w : Fin 16) (s : State) (l : List Fld) (h_ports : Fld.ports ∈ l) (h_svc : Fld.svc ∈ l) :
    ∀ t, execWindowClear w s = .next t → t.but l = s.but l := by
  intro t ht
  unfold execWindowClear at ht
  (try simp only [ok] at ht); (repeat' split at ht) <;> (replace ht := Host.Outcome.next.inj ht; subst ht; first
    | with_reducible rfl
    | (simp [h_ports, h_svc, ↓State.winCmd_but, ↓State.windowClear_but, ↓State.ite_but]; done))

theorem execDropHead_but (w : Fin 16) (s : State) (l : List Fld) (h_ports : Fld.ports ∈ l) (h_svc : Fld.svc ∈ l) :
    ∀ t, execDropHead w s = .next t → t.but l = s.but l := by
  intro t ht
  unfold execDropHead at ht
  (try simp only [ok] at ht); (repeat' split at ht) <;> (replace ht := Host.Outcome.next.inj ht; subst ht; first
    | with_reducible rfl
    | (simp [h_ports, h_svc, ↓State.dropHead_but, ↓State.winCmd_but, ↓State.ite_but]; done))

theorem execSvcAttention_but (s : State) (l : List Fld) (h_ports : Fld.ports ∈ l) (h_regs : Fld.regs ∈ l) (h_svc : Fld.svc ∈ l) :
    ∀ t, execSvcAttention s = .next t → t.but l = s.but l := by
  intro t ht
  unfold execSvcAttention at ht
  (try simp only [ok] at ht); (repeat' split at ht) <;> (replace ht := Host.Outcome.next.inj ht; subst ht; first
    | with_reducible rfl
    | (simp [h_ports, h_regs, h_svc, ↓State.bump32_but, ↓State.setPort_but, ↓State.setWindow_but, ↓State.each_but, ↓State.ite_but]; done)
    | (refine (State.each_but _ _ _ _ (fun s x _ => ?_)).trans ?_ <;> (try dsimp only) <;> (repeat' split) <;> first
      | with_reducible rfl
      | (simp [h_ports, h_regs, h_svc, ↓State.bump32_but, ↓State.setPort_but, ↓State.setWindow_but, ↓State.each_but, ↓State.ite_but]; done)))

theorem execPeerArbitrationLoss_but (addressed : Bool) (s : State) (l : List Fld) (h_events : Fld.events ∈ l) (h_peerOut : Fld.peerOut ∈ l) (h_peerTries : Fld.peerTries ∈ l) (h_regs : Fld.regs ∈ l) :
    ∀ t, execPeerArbitrationLoss addressed s = .next t → t.but l = s.but l := by
  intro t ht
  unfold execPeerArbitrationLoss at ht
  (try simp only [ok] at ht); (repeat' split at ht) <;> (replace ht := Host.Outcome.next.inj ht; subst ht; first
    | with_reducible rfl
    | (simp [h_events, h_peerOut, h_peerTries, h_regs, ↓State.bump32_but, ↓State.peerDropped_but, ↓State.but_peerTries, ↓State.ite_but]; done))

end Sys2Proof.Machine
end

