-- ==== Sys2Proof/Laws/Keep/Read.lean ====
section
/-! SUPPORT. The frames of the operations of Machine/Read.lean: the parts of the state that each of them can change. -/
set_option linter.all false

namespace Sys2Proof.Machine

@[simp] theorem State.eventRead_but (s : State) (k : Nat) (l : List Fld) (h_sessions : Fld.sessions ∈ l) : (State.eventRead s k).1.but l = s.but l := by
  unfold State.eventRead
  (try dsimp only); (repeat' split) <;> first
    | with_reducible rfl
    | (simp [h_sessions, ↓State.onSession_but, ↓State.ite_but]; done)
    | (rename_i heq; have hk := congrArg (fun x => x.1.but l) heq; simp [h_sessions, ↓State.onSession_but, ↓State.ite_but] at hk; simp [hk, h_sessions, ↓State.onSession_but, ↓State.ite_but]; done)

@[simp] theorem State.recordRead_but (s : State) (r : Role) (k : Nat) (hw : Hw) (l : List Fld) (h_events : Fld.events ∈ l) (h_granules : Fld.granules ∈ l) (h_keys : Fld.keys ∈ l) (h_nv : Fld.nv ∈ l) (h_regs : Fld.regs ∈ l) (h_reply : Fld.reply ∈ l) (h_sec : Fld.sec ∈ l) (h_sectors : Fld.sectors ∈ l) (h_status : Fld.status ∈ l) : (State.recordRead s r k hw).but l = s.but l := by
  unfold State.recordRead
  simp [h_events, h_granules, h_keys, h_nv, h_regs, h_reply, h_sec, h_sectors, h_status, ↓State.answer_but, ↓State.give_but, ↓State.sensed_but, ↓State.ite_but]

theorem State.readSpecial_but (s : State) (r : Role) (k base u sub : Nat) (hw : Hw) (l : List Fld) (h_events : Fld.events ∈ l) (h_granules : Fld.granules ∈ l) (h_keys : Fld.keys ∈ l) (h_log : Fld.log ∈ l) (h_nv : Fld.nv ∈ l) (h_regs : Fld.regs ∈ l) (h_reply : Fld.reply ∈ l) (h_sec : Fld.sec ∈ l) (h_sectors : Fld.sectors ∈ l) (h_sessions : Fld.sessions ∈ l) (h_status : Fld.status ∈ l) (h_trestle : Fld.trestle ∈ l) :
    ∀ t, State.readSpecial s r k base u sub hw = some t → t.but l = s.but l := by
  intro t ht
  unfold State.readSpecial at ht
  (try dsimp only at ht)
  split at ht <;> first
    | (replace ht := Option.some.inj ht; subst ht; simp [h_events, h_granules, h_keys, h_log, h_nv, h_regs, h_reply, h_sec, h_sectors, h_sessions, h_status, h_trestle, ↓State.debugChallenge_but, ↓State.drawerRead_but, ↓State.eventRead_but, ↓State.give_but, ↓State.memRead_but, ↓State.onSession_but, ↓State.recordRead_but, ↓State.but_trestle, ↓State.ite_but]; done)
    | (exact absurd ht (by simp))

@[simp] theorem State.readItem_but (s : State) (r : Role) (k : Nat) (x : ReqItem) (hw : Hw) (l : List Fld) (h_draws : Fld.draws ∈ l) (h_events : Fld.events ∈ l) (h_granules : Fld.granules ∈ l) (h_keys : Fld.keys ∈ l) (h_log : Fld.log ∈ l) (h_nv : Fld.nv ∈ l) (h_regs : Fld.regs ∈ l) (h_reply : Fld.reply ∈ l) (h_sec : Fld.sec ∈ l) (h_sectors : Fld.sectors ∈ l) (h_sessions : Fld.sessions ∈ l) (h_status : Fld.status ∈ l) (h_trestle : Fld.trestle ∈ l) : (State.readItem s r k x hw).but l = s.but l := by
  unfold State.readItem
  split
  · simp [h_draws, h_events, h_granules, h_keys, h_log, h_nv, h_regs, h_reply, h_sec, h_sectors, h_sessions, h_status, h_trestle, ↓State.answer_but, ↓State.give_but, ↓State.readSpecial_but, ↓State.but_draws, ↓State.ite_but]
  · split
    · simp [h_draws, h_events, h_granules, h_keys, h_log, h_nv, h_regs, h_reply, h_sec, h_sectors, h_sessions, h_status, h_trestle, ↓State.answer_but, ↓State.give_but, ↓State.readSpecial_but, ↓State.but_draws, ↓State.ite_but]
    · split
      · rename_i h
        refine State.readSpecial_but _ _ _ _ _ _ _ l ?_ ?_ ?_ ?_ ?_ ?_ ?_ ?_ ?_ ?_ ?_ ?_ _ h <;> assumption
      · simp [h_draws, h_events, h_granules, h_keys, h_log, h_nv, h_regs, h_reply, h_sec, h_sectors, h_sessions, h_status, h_trestle, ↓State.answer_but, ↓State.give_but, ↓State.readSpecial_but, ↓State.but_draws, ↓State.ite_but]

end Sys2Proof.Machine
end

