-- ==== Sys2Proof/Laws/Keep/Write.lean ====
section
/-! SUPPORT. The frames of the operations of Machine/Write.lean: the parts of the state that each of them can change. -/
set_option linter.all false

namespace Sys2Proof.Machine

/-- What a meaning keeps, the state after it keeps. -/
theorem State.after_but (s : State) (o : Host.Outcome State Fault Refusal) (l : List Fld) (h : ∀ t, o = .next t → t.but l = s.but l) :
    (State.after s o).but l = s.but l := by
  unfold State.after
  split
  · exact h _ rfl
  · rfl

@[simp] theorem State.stageWrite_but (s : State) (w key v : Nat) (l : List Fld) (h_reply : Fld.reply ∈ l) (h_sets : Fld.sets ∈ l) (h_status : Fld.status ∈ l) : (State.stageWrite s w key v).but l = s.but l := by
  unfold State.stageWrite
  simp [h_reply, h_sets, h_status, ↓State.answer_but, ↓State.setStage_but, ↓State.ite_but]

@[simp] theorem State.stageBy_but (s : State) (r : Role) (key v : Nat) (l : List Fld) (h_reply : Fld.reply ∈ l) (h_sets : Fld.sets ∈ l) (h_status : Fld.status ∈ l) : (State.stageBy s r key v).but l = s.but l := by
  unfold State.stageBy
  (try dsimp only); (repeat' split) <;> first
    | with_reducible rfl
    | (simp [h_reply, h_sets, h_status, ↓State.answer_but, ↓State.stageWrite_but, ↓State.ite_but]; done)
    | (rename_i heq; have hk := congrArg (fun x => x.1.but l) heq; simp [h_reply, h_sets, h_status, ↓State.answer_but, ↓State.stageWrite_but, ↓State.ite_but] at hk; simp [hk, h_reply, h_sets, h_status, ↓State.answer_but, ↓State.stageWrite_but, ↓State.ite_but]; done)

@[simp] theorem State.commitItem_but (s : State) (r : Role) (right : Bool) (w : Nat) (b : Byte) (good : Bool) (l : List Fld) (h_armed : Fld.armed ∈ l) (h_events : Fld.events ∈ l) (h_fabricFault : Fld.fabricFault ∈ l) (h_queueC : Fld.queueC ∈ l) (h_regs : Fld.regs ∈ l) (h_reply : Fld.reply ∈ l) (h_safeN : Fld.safeN ∈ l) (h_sets : Fld.sets ∈ l) (h_shadow : Fld.shadow ∈ l) (h_status : Fld.status ∈ l) (h_switchSt : Fld.switchSt ∈ l) (h_waits : Fld.waits ∈ l) : (State.commitItem s r right w b good).but l = s.but l := by
  unfold State.commitItem
  simp [h_armed, h_events, h_fabricFault, h_queueC, h_regs, h_reply, h_safeN, h_sets, h_shadow, h_status, h_switchSt, h_waits, ↓State.commitRequest_but, ↓State.discardRequest_but, ↓State.item_but, ↓State.ite_but]

@[simp] theorem State.switchItem_but (s : State) (r : Role) (b : Byte) (hw : Hw) (l : List Fld) (h_armed : Fld.armed ∈ l) (h_events : Fld.events ∈ l) (h_fabricFault : Fld.fabricFault ∈ l) (h_granules : Fld.granules ∈ l) (h_keys : Fld.keys ∈ l) (h_later : Fld.later ∈ l) (h_nv : Fld.nv ∈ l) (h_queueC : Fld.queueC ∈ l) (h_regs : Fld.regs ∈ l) (h_reply : Fld.reply ∈ l) (h_safeN : Fld.safeN ∈ l) (h_sec : Fld.sec ∈ l) (h_sectors : Fld.sectors ∈ l) (h_sets : Fld.sets ∈ l) (h_shadow : Fld.shadow ∈ l) (h_status : Fld.status ∈ l) (h_switchSt : Fld.switchSt ∈ l) (h_waits : Fld.waits ∈ l) : (State.switchItem s r b hw).but l = s.but l := by
  unfold State.switchItem
  first
  | (simp [h_armed, h_events, h_fabricFault, h_granules, h_keys, h_later, h_nv, h_queueC, h_regs, h_reply, h_safeN, h_sec, h_sectors, h_sets, h_shadow, h_status, h_switchSt, h_waits, ↓State.item_but, ↓State.switchRefuse_but, ↓State.switchRequest_but, ↓State.ite_but]; done)
  | ((try dsimp only); (repeat' split) <;> first
    | with_reducible rfl
    | (simp [h_armed, h_events, h_fabricFault, h_granules, h_keys, h_later, h_nv, h_queueC, h_regs, h_reply, h_safeN, h_sec, h_sectors, h_sets, h_shadow, h_status, h_switchSt, h_waits, ↓State.item_but, ↓State.switchRefuse_but, ↓State.switchRequest_but, ↓State.ite_but]; done))

theorem State.writeSpecial_but (s : State) (k base u sub v : Nat) (l : List Fld) (h_actions : Fld.actions ∈ l) (h_caps : Fld.caps ∈ l) (h_chans : Fld.chans ∈ l) (h_clusters : Fld.clusters ∈ l) (h_drives : Fld.drives ∈ l) (h_ens : Fld.ens ∈ l) (h_entries : Fld.entries ∈ l) (h_events : Fld.events ∈ l) (h_groups : Fld.groups ∈ l) (h_latches : Fld.latches ∈ l) (h_nv : Fld.nv ∈ l) (h_parts : Fld.parts ∈ l) (h_ports : Fld.ports ∈ l) (h_regs : Fld.regs ∈ l) (h_reply : Fld.reply ∈ l) (h_safeN : Fld.safeN ∈ l) (h_sessions : Fld.sessions ∈ l) (h_status : Fld.status ∈ l) (h_trims : Fld.trims ∈ l) (h_waitMaint : Fld.waitMaint ∈ l) :
    ∀ t, State.writeSpecial s k base u sub v = some t → t.but l = s.but l := by
  unfold State.writeSpecial
  first
  | (simp [h_actions, h_caps, h_chans, h_clusters, h_drives, h_ens, h_entries, h_events, h_groups, h_latches, h_nv, h_parts, h_ports, h_regs, h_reply, h_safeN, h_sessions, h_status, h_trims, h_waitMaint, ↓State.answer_but, ↓State.goalRequest_but, ↓State.offsetWrite_but, ↓State.onSession_but, ↓State.recordUpdated_but, ↓State.runWrite_but, ↓State.setReg_but, ↓State.targetWrite_but, ↓State.ite_but]; done)
  | ((try dsimp only); (repeat' split) <;> first
    | with_reducible rfl
    | (simp [h_actions, h_caps, h_chans, h_clusters, h_drives, h_ens, h_entries, h_events, h_groups, h_latches, h_nv, h_parts, h_ports, h_regs, h_reply, h_safeN, h_sessions, h_status, h_trims, h_waitMaint, ↓State.answer_but, ↓State.goalRequest_but, ↓State.offsetWrite_but, ↓State.onSession_but, ↓State.recordUpdated_but, ↓State.runWrite_but, ↓State.setReg_but, ↓State.targetWrite_but, ↓State.ite_but]; done)
    | (rename_i heq; have hk := congrArg (fun x => x.1.but l) heq; simp [h_actions, h_caps, h_chans, h_clusters, h_drives, h_ens, h_entries, h_events, h_groups, h_latches, h_nv, h_parts, h_ports, h_regs, h_reply, h_safeN, h_sessions, h_status, h_trims, h_waitMaint, ↓State.answer_but, ↓State.goalRequest_but, ↓State.offsetWrite_but, ↓State.onSession_but, ↓State.recordUpdated_but, ↓State.runWrite_but, ↓State.setReg_but, ↓State.targetWrite_but, ↓State.ite_but] at hk; simp [h_actions, h_caps, h_chans, h_clusters, h_drives, h_ens, h_entries, h_events, h_groups, h_latches, h_nv, h_parts, h_ports, h_regs, h_reply, h_safeN, h_sessions, h_status, h_trims, h_waitMaint, ↓State.answer_but, ↓State.goalRequest_but, ↓State.offsetWrite_but, ↓State.onSession_but, ↓State.recordUpdated_but, ↓State.runWrite_but, ↓State.setReg_but, ↓State.targetWrite_but, ↓State.ite_but, hk]; done))

@[simp] theorem State.writeReg_but (s : State) (r : Role) (k base u sub : Nat) (b : Bytes) (l : List Fld) (h_actions : Fld.actions ∈ l) (h_caps : Fld.caps ∈ l) (h_chans : Fld.chans ∈ l) (h_clusters : Fld.clusters ∈ l) (h_drives : Fld.drives ∈ l) (h_ens : Fld.ens ∈ l) (h_entries : Fld.entries ∈ l) (h_events : Fld.events ∈ l) (h_groups : Fld.groups ∈ l) (h_latches : Fld.latches ∈ l) (h_ledger : Fld.ledger ∈ l) (h_nv : Fld.nv ∈ l) (h_parts : Fld.parts ∈ l) (h_ports : Fld.ports ∈ l) (h_regs : Fld.regs ∈ l) (h_reply : Fld.reply ∈ l) (h_safeN : Fld.safeN ∈ l) (h_sessions : Fld.sessions ∈ l) (h_status : Fld.status ∈ l) (h_supply : Fld.supply ∈ l) (h_trims : Fld.trims ∈ l) (h_waitMaint : Fld.waitMaint ∈ l) : (State.writeReg s r k base u sub b).but l = s.but l := by
  unfold State.writeReg
  split
  · refine State.after_but _ _ _ ?_
    apply execRtc_but <;> assumption
  · dsimp only
    split
    · rename_i t heq
      have hk : t.but l = s.but l := by apply State.writeSpecial_but <;> assumption
      simp [h_actions, h_caps, h_chans, h_clusters, h_drives, h_ens, h_entries, h_events, h_groups, h_latches, h_ledger, h_nv, h_parts, h_ports, h_regs, h_reply, h_safeN, h_sessions, h_status, h_supply, h_trims, h_waitMaint, ↓State.answer_but, ↓State.countItem_but, ↓State.setReg_but, ↓State.writeSpecial_but, ↓execRtc_but, ↓State.ite_but, hk]
    · simp [h_actions, h_caps, h_chans, h_clusters, h_drives, h_ens, h_entries, h_events, h_groups, h_latches, h_ledger, h_nv, h_parts, h_ports, h_regs, h_reply, h_safeN, h_sessions, h_status, h_supply, h_trims, h_waitMaint, ↓State.answer_but, ↓State.countItem_but, ↓State.setReg_but, ↓State.writeSpecial_but, ↓execRtc_but, ↓State.ite_but]

@[simp] theorem State.commandLow_but (s : State) (r : Role) (k base u sub : Nat) (val : Bytes) (hw : Hw) (l : List Fld) (h_actions : Fld.actions ∈ l) (h_active : Fld.active ∈ l) (h_armed : Fld.armed ∈ l) (h_asms : Fld.asms ∈ l) (h_caps : Fld.caps ∈ l) (h_chans : Fld.chans ∈ l) (h_clusters : Fld.clusters ∈ l) (h_committed : Fld.committed ∈ l) (h_downs : Fld.downs ∈ l) (h_draws : Fld.draws ∈ l) (h_drives : Fld.drives ∈ l) (h_ens : Fld.ens ∈ l) (h_entries : Fld.entries ∈ l) (h_events : Fld.events ∈ l) (h_fabricFault : Fld.fabricFault ∈ l) (h_flash : Fld.flash ∈ l) (h_fwWaitAt : Fld.fwWaitAt ∈ l) (h_granules : Fld.granules ∈ l) (h_groups : Fld.groups ∈ l) (h_host : Fld.host ∈ l) (h_inbox : Fld.inbox ∈ l) (h_islandBad : Fld.islandBad ∈ l) (h_keys : Fld.keys ∈ l) (h_latches : Fld.latches ∈ l) (h_later : Fld.later ∈ l) (h_ledger : Fld.ledger ∈ l) (h_log : Fld.log ∈ l) (h_mgmtDown : Fld.mgmtDown ∈ l) (h_nv : Fld.nv ∈ l) (h_parts : Fld.parts ∈ l) (h_peerOut : Fld.peerOut ∈ l) (h_peerReq : Fld.peerReq ∈ l) (h_peerReqsAt : Fld.peerReqsAt ∈ l) (h_peerTries : Fld.peerTries ∈ l) (h_ports : Fld.ports ∈ l) (h_prior : Fld.prior ∈ l) (h_queueC : Fld.queueC ∈ l) (h_regs : Fld.regs ∈ l) (h_reply : Fld.reply ∈ l) (h_retained : Fld.retained ∈ l) (h_safeN : Fld.safeN ∈ l) (h_sec : Fld.sec ∈ l) (h_sectors : Fld.sectors ∈ l) (h_sessNext : Fld.sessNext ∈ l) (h_sessions : Fld.sessions ∈ l) (h_sets : Fld.sets ∈ l) (h_shadow : Fld.shadow ∈ l) (h_stalled : Fld.stalled ∈ l) (h_status : Fld.status ∈ l) (h_streams : Fld.streams ∈ l) (h_supply : Fld.supply ∈ l) (h_svc : Fld.svc ∈ l) (h_switchSt : Fld.switchSt ∈ l) (h_t1sSleep : Fld.t1sSleep ∈ l) (h_thermal : Fld.thermal ∈ l) (h_trestle : Fld.trestle ∈ l) (h_trims : Fld.trims ∈ l) (h_waitMaint : Fld.waitMaint ∈ l) (h_waits : Fld.waits ∈ l) : (State.commandLow s r k base u sub val hw).but l = s.but l := by
  unfold State.commandLow
  (try dsimp only)
  (repeat' split) <;> first
    | with_reducible rfl
    | (refine State.after_but _ _ _ ?_; with_reducible apply execShelfData_but <;> assumption)
    | (refine State.after_but _ _ _ ?_; with_reducible apply execShelfErase_but <;> assumption)
    | (refine State.after_but _ _ _ ?_; with_reducible apply execShelfSeal_but <;> assumption)
    | (refine State.after_but _ _ _ ?_; with_reducible apply execSleep_but <;> assumption)
    | (refine State.after_but _ _ _ ?_; with_reducible apply execResetRequestMgmt_but <;> assumption)
    | (refine State.after_but _ _ _ ?_; with_reducible apply execResetRequestPower_but <;> assumption)
    | (refine State.after_but _ _ _ ?_; with_reducible apply execRestart_but <;> assumption)
    | (refine State.after_but _ _ _ ?_; with_reducible apply execForceOff_but <;> assumption)
    | (refine State.after_but _ _ _ ?_; with_reducible apply execClear_but <;> assumption)
    | (refine State.after_but _ _ _ ?_; with_reducible apply execStart_but <;> assumption)
    | (refine State.after_but _ _ _ ?_; with_reducible apply execStop_but <;> assumption)
    | (refine State.after_but _ _ _ ?_; with_reducible apply execArmCapture_but <;> assumption)
    | (simp [h_actions, h_active, h_armed, h_asms, h_caps, h_chans, h_clusters, h_committed, h_downs, h_draws, h_drives, h_ens, h_entries, h_events, h_fabricFault, h_flash, h_fwWaitAt, h_granules, h_groups, h_host, h_inbox, h_islandBad, h_keys, h_latches, h_later, h_ledger, h_log, h_mgmtDown, h_nv, h_parts, h_peerOut, h_peerReq, h_peerReqsAt, h_peerTries, h_ports, h_prior, h_queueC, h_regs, h_reply, h_retained, h_safeN, h_sec, h_sectors, h_sessNext, h_sessions, h_sets, h_shadow, h_stalled, h_status, h_streams, h_supply, h_svc, h_switchSt, h_t1sSleep, h_thermal, h_trestle, h_trims, h_waitMaint, h_waits]; done)

@[simp] theorem State.fwWrite_but (s : State) (r : Role) (b : Byte) (l : List Fld) (h_armed : Fld.armed ∈ l) (h_asms : Fld.asms ∈ l) (h_caps : Fld.caps ∈ l) (h_chans : Fld.chans ∈ l) (h_entries : Fld.entries ∈ l) (h_events : Fld.events ∈ l) (h_fwWaitAt : Fld.fwWaitAt ∈ l) (h_host : Fld.host ∈ l) (h_inbox : Fld.inbox ∈ l) (h_later : Fld.later ∈ l) (h_ledger : Fld.ledger ∈ l) (h_mgmtDown : Fld.mgmtDown ∈ l) (h_nv : Fld.nv ∈ l) (h_parts : Fld.parts ∈ l) (h_peerReq : Fld.peerReq ∈ l) (h_queueC : Fld.queueC ∈ l) (h_regs : Fld.regs ∈ l) (h_reply : Fld.reply ∈ l) (h_sec : Fld.sec ∈ l) (h_sessions : Fld.sessions ∈ l) (h_sets : Fld.sets ∈ l) (h_shadow : Fld.shadow ∈ l) (h_status : Fld.status ∈ l) (h_supply : Fld.supply ∈ l) (h_svc : Fld.svc ∈ l) (h_switchSt : Fld.switchSt ∈ l) (h_trims : Fld.trims ∈ l) (h_waitMaint : Fld.waitMaint ∈ l) (h_waits : Fld.waits ∈ l) : (State.fwWrite s r b).but l = s.but l := by
  unfold State.fwWrite
  (try dsimp only)
  (repeat' split) <;> first
    | with_reducible rfl
    | (refine State.after_but _ _ _ ?_; with_reducible apply execFwErase_but <;> assumption)
    | (refine State.after_but _ _ _ ?_; with_reducible apply execFwSeal_but <;> assumption)
    | (refine State.after_but _ _ _ ?_; with_reducible apply execFwActivate_but <;> assumption)
    | (refine State.after_but _ _ _ ?_; with_reducible apply execFwAbandon_but <;> assumption)
    | (simp [h_armed, h_asms, h_caps, h_chans, h_entries, h_events, h_fwWaitAt, h_host, h_inbox, h_later, h_ledger, h_mgmtDown, h_nv, h_parts, h_peerReq, h_queueC, h_regs, h_reply, h_sec, h_sessions, h_sets, h_shadow, h_status, h_supply, h_svc, h_switchSt, h_trims, h_waitMaint, h_waits]; done)

@[simp] theorem State.commandHigh_but (s : State) (r : Role) (k base u sub : Nat) (val : Bytes) (hw : Hw) (l : List Fld) (h_armed : Fld.armed ∈ l) (h_asms : Fld.asms ∈ l) (h_caps : Fld.caps ∈ l) (h_chans : Fld.chans ∈ l) (h_draws : Fld.draws ∈ l) (h_drives : Fld.drives ∈ l) (h_entries : Fld.entries ∈ l) (h_events : Fld.events ∈ l) (h_fwWaitAt : Fld.fwWaitAt ∈ l) (h_granules : Fld.granules ∈ l) (h_groups : Fld.groups ∈ l) (h_host : Fld.host ∈ l) (h_inbox : Fld.inbox ∈ l) (h_keys : Fld.keys ∈ l) (h_later : Fld.later ∈ l) (h_ledger : Fld.ledger ∈ l) (h_log : Fld.log ∈ l) (h_mgmtDown : Fld.mgmtDown ∈ l) (h_nv : Fld.nv ∈ l) (h_parts : Fld.parts ∈ l) (h_peerReq : Fld.peerReq ∈ l) (h_queueC : Fld.queueC ∈ l) (h_regs : Fld.regs ∈ l) (h_reply : Fld.reply ∈ l) (h_sec : Fld.sec ∈ l) (h_sectors : Fld.sectors ∈ l) (h_sessions : Fld.sessions ∈ l) (h_sets : Fld.sets ∈ l) (h_shadow : Fld.shadow ∈ l) (h_status : Fld.status ∈ l) (h_streams : Fld.streams ∈ l) (h_supply : Fld.supply ∈ l) (h_svc : Fld.svc ∈ l) (h_switchSt : Fld.switchSt ∈ l) (h_trims : Fld.trims ∈ l) (h_waitMaint : Fld.waitMaint ∈ l) (h_waits : Fld.waits ∈ l) : (State.commandHigh s r k base u sub val hw).but l = s.but l := by
  unfold State.commandHigh
  (try dsimp only)
  (repeat' split) <;> first
    | with_reducible rfl
    | (refine State.after_but _ _ _ ?_; with_reducible apply execTableSelect_but <;> assumption)
    | (refine State.after_but _ _ _ ?_; with_reducible apply execBenchStart_but <;> assumption)
    | (refine State.after_but _ _ _ ?_; with_reducible apply execBenchAbort_but <;> assumption)
    | (refine State.after_but _ _ _ ?_; with_reducible apply execVerdictPass_but <;> assumption)
    | (refine State.after_but _ _ _ ?_; with_reducible apply execVerdictFail_but <;> assumption)
    | (refine State.after_but _ _ _ ?_; with_reducible apply execMarginApply_but <;> assumption)
    | (refine State.after_but _ _ _ ?_; with_reducible apply execMarginRemove_but <;> assumption)
    | (refine State.after_but _ _ _ ?_; with_reducible apply execEraseOldest_but <;> assumption)
    | (refine State.after_but _ _ _ ?_; with_reducible apply execEraseAll_but <;> assumption)
    | (refine State.after_but _ _ _ ?_; with_reducible apply execVerifyAll_but <;> assumption)
    | (refine State.after_but _ _ _ ?_; with_reducible apply execClearFault_but <;> assumption)
    | (refine State.after_but _ _ _ ?_; with_reducible apply execOwnerInit_but <;> assumption)
    | (refine State.after_but _ _ _ ?_; with_reducible apply execDebugResponse_but <;> assumption)
    | (refine State.after_but _ _ _ ?_; with_reducible apply execDebugLock_but <;> assumption)
    | (refine State.after_but _ _ _ ?_; with_reducible apply execAttestRequest_but <;> assumption)
    | (refine State.after_but _ _ _ ?_; with_reducible apply execGroupReset_but <;> assumption)
    | (refine State.after_but _ _ _ ?_; with_reducible apply execMemWrite_but <;> assumption)
    | (refine State.after_but _ _ _ ?_; with_reducible apply execMemErase_but <;> assumption)
    | (refine State.after_but _ _ _ ?_; with_reducible apply execFwData_but <;> assumption)
    | (simp [h_armed, h_asms, h_caps, h_chans, h_draws, h_drives, h_entries, h_events, h_fwWaitAt, h_granules, h_groups, h_host, h_inbox, h_keys, h_later, h_ledger, h_log, h_mgmtDown, h_nv, h_parts, h_peerReq, h_queueC, h_regs, h_reply, h_sec, h_sectors, h_sessions, h_sets, h_shadow, h_status, h_streams, h_supply, h_svc, h_switchSt, h_trims, h_waitMaint, h_waits]; done)

@[simp] theorem State.writeItem_but (s : State) (r : Role) (k : Nat) (x : ReqItem) (hw : Hw) (l : List Fld) (h_actions : Fld.actions ∈ l) (h_active : Fld.active ∈ l) (h_armed : Fld.armed ∈ l) (h_asms : Fld.asms ∈ l) (h_caps : Fld.caps ∈ l) (h_chans : Fld.chans ∈ l) (h_clusters : Fld.clusters ∈ l) (h_committed : Fld.committed ∈ l) (h_downs : Fld.downs ∈ l) (h_draws : Fld.draws ∈ l) (h_drives : Fld.drives ∈ l) (h_ens : Fld.ens ∈ l) (h_entries : Fld.entries ∈ l) (h_events : Fld.events ∈ l) (h_fabricFault : Fld.fabricFault ∈ l) (h_flash : Fld.flash ∈ l) (h_fwWaitAt : Fld.fwWaitAt ∈ l) (h_granules : Fld.granules ∈ l) (h_groups : Fld.groups ∈ l) (h_host : Fld.host ∈ l) (h_inbox : Fld.inbox ∈ l) (h_islandBad : Fld.islandBad ∈ l) (h_keys : Fld.keys ∈ l) (h_latches : Fld.latches ∈ l) (h_later : Fld.later ∈ l) (h_ledger : Fld.ledger ∈ l) (h_log : Fld.log ∈ l) (h_mgmtDown : Fld.mgmtDown ∈ l) (h_nv : Fld.nv ∈ l) (h_parts : Fld.parts ∈ l) (h_peerOut : Fld.peerOut ∈ l) (h_peerReq : Fld.peerReq ∈ l) (h_peerReqsAt : Fld.peerReqsAt ∈ l) (h_peerTries : Fld.peerTries ∈ l) (h_ports : Fld.ports ∈ l) (h_prior : Fld.prior ∈ l) (h_queueC : Fld.queueC ∈ l) (h_regs : Fld.regs ∈ l) (h_reply : Fld.reply ∈ l) (h_retained : Fld.retained ∈ l) (h_safeN : Fld.safeN ∈ l) (h_sec : Fld.sec ∈ l) (h_sectors : Fld.sectors ∈ l) (h_sessNext : Fld.sessNext ∈ l) (h_sessions : Fld.sessions ∈ l) (h_sets : Fld.sets ∈ l) (h_shadow : Fld.shadow ∈ l) (h_stalled : Fld.stalled ∈ l) (h_status : Fld.status ∈ l) (h_streams : Fld.streams ∈ l) (h_supply : Fld.supply ∈ l) (h_svc : Fld.svc ∈ l) (h_switchSt : Fld.switchSt ∈ l) (h_t1sSleep : Fld.t1sSleep ∈ l) (h_thermal : Fld.thermal ∈ l) (h_trestle : Fld.trestle ∈ l) (h_trims : Fld.trims ∈ l) (h_waitMaint : Fld.waitMaint ∈ l) (h_waits : Fld.waits ∈ l) : (State.writeItem s r k x hw).but l = s.but l := by
  unfold State.writeItem
  (try dsimp only); (repeat' split) <;> first
    | with_reducible rfl
    | (simp [h_actions, h_active, h_armed, h_asms, h_caps, h_chans, h_clusters, h_committed, h_downs, h_draws, h_drives, h_ens, h_entries, h_events, h_fabricFault, h_flash, h_fwWaitAt, h_granules, h_groups, h_host, h_inbox, h_islandBad, h_keys, h_latches, h_later, h_ledger, h_log, h_mgmtDown, h_nv, h_parts, h_peerOut, h_peerReq, h_peerReqsAt, h_peerTries, h_ports, h_prior, h_queueC, h_regs, h_reply, h_retained, h_safeN, h_sec, h_sectors, h_sessNext, h_sessions, h_sets, h_shadow, h_stalled, h_status, h_streams, h_supply, h_svc, h_switchSt, h_t1sSleep, h_thermal, h_trestle, h_trims, h_waitMaint, h_waits, ↓State.answer_but, ↓State.commandHigh_but, ↓State.commandLow_but, ↓State.countItem_but, ↓State.stageBy_but, ↓State.writeReg_but, ↓State.ite_but]; done)
    | (rename_i heq; have hk := congrArg (fun x => x.1.but l) heq; simp [h_actions, h_active, h_armed, h_asms, h_caps, h_chans, h_clusters, h_committed, h_downs, h_draws, h_drives, h_ens, h_entries, h_events, h_fabricFault, h_flash, h_fwWaitAt, h_granules, h_groups, h_host, h_inbox, h_islandBad, h_keys, h_latches, h_later, h_ledger, h_log, h_mgmtDown, h_nv, h_parts, h_peerOut, h_peerReq, h_peerReqsAt, h_peerTries, h_ports, h_prior, h_queueC, h_regs, h_reply, h_retained, h_safeN, h_sec, h_sectors, h_sessNext, h_sessions, h_sets, h_shadow, h_stalled, h_status, h_streams, h_supply, h_svc, h_switchSt, h_t1sSleep, h_thermal, h_trestle, h_trims, h_waitMaint, h_waits, ↓State.answer_but, ↓State.commandHigh_but, ↓State.commandLow_but, ↓State.countItem_but, ↓State.stageBy_but, ↓State.writeReg_but, ↓State.ite_but] at hk; simp [hk, h_actions, h_active, h_armed, h_asms, h_caps, h_chans, h_clusters, h_committed, h_downs, h_draws, h_drives, h_ens, h_entries, h_events, h_fabricFault, h_flash, h_fwWaitAt, h_granules, h_groups, h_host, h_inbox, h_islandBad, h_keys, h_latches, h_later, h_ledger, h_log, h_mgmtDown, h_nv, h_parts, h_peerOut, h_peerReq, h_peerReqsAt, h_peerTries, h_ports, h_prior, h_queueC, h_regs, h_reply, h_retained, h_safeN, h_sec, h_sectors, h_sessNext, h_sessions, h_sets, h_shadow, h_stalled, h_status, h_streams, h_supply, h_svc, h_switchSt, h_t1sSleep, h_thermal, h_trestle, h_trims, h_waitMaint, h_waits, ↓State.answer_but, ↓State.commandHigh_but, ↓State.commandLow_but, ↓State.countItem_but, ↓State.stageBy_but, ↓State.writeReg_but, ↓State.ite_but]; done)

@[simp] theorem State.runItem_but (s : State) (r : Role) (k : Nat) (x : ReqItem) (hw : Hw) (l : List Fld) (h_actions : Fld.actions ∈ l) (h_active : Fld.active ∈ l) (h_armed : Fld.armed ∈ l) (h_asms : Fld.asms ∈ l) (h_caps : Fld.caps ∈ l) (h_chans : Fld.chans ∈ l) (h_clusters : Fld.clusters ∈ l) (h_committed : Fld.committed ∈ l) (h_downs : Fld.downs ∈ l) (h_draws : Fld.draws ∈ l) (h_drives : Fld.drives ∈ l) (h_ens : Fld.ens ∈ l) (h_entries : Fld.entries ∈ l) (h_events : Fld.events ∈ l) (h_fabricFault : Fld.fabricFault ∈ l) (h_flash : Fld.flash ∈ l) (h_fwWaitAt : Fld.fwWaitAt ∈ l) (h_granules : Fld.granules ∈ l) (h_groups : Fld.groups ∈ l) (h_host : Fld.host ∈ l) (h_inbox : Fld.inbox ∈ l) (h_islandBad : Fld.islandBad ∈ l) (h_keys : Fld.keys ∈ l) (h_latches : Fld.latches ∈ l) (h_later : Fld.later ∈ l) (h_ledger : Fld.ledger ∈ l) (h_log : Fld.log ∈ l) (h_mgmtDown : Fld.mgmtDown ∈ l) (h_nv : Fld.nv ∈ l) (h_parts : Fld.parts ∈ l) (h_peerOut : Fld.peerOut ∈ l) (h_peerReq : Fld.peerReq ∈ l) (h_peerReqsAt : Fld.peerReqsAt ∈ l) (h_peerTries : Fld.peerTries ∈ l) (h_ports : Fld.ports ∈ l) (h_prior : Fld.prior ∈ l) (h_queueC : Fld.queueC ∈ l) (h_regs : Fld.regs ∈ l) (h_reply : Fld.reply ∈ l) (h_retained : Fld.retained ∈ l) (h_safeN : Fld.safeN ∈ l) (h_sec : Fld.sec ∈ l) (h_sectors : Fld.sectors ∈ l) (h_sessNext : Fld.sessNext ∈ l) (h_sessions : Fld.sessions ∈ l) (h_sets : Fld.sets ∈ l) (h_shadow : Fld.shadow ∈ l) (h_stalled : Fld.stalled ∈ l) (h_status : Fld.status ∈ l) (h_streams : Fld.streams ∈ l) (h_supply : Fld.supply ∈ l) (h_svc : Fld.svc ∈ l) (h_switchSt : Fld.switchSt ∈ l) (h_t1sSleep : Fld.t1sSleep ∈ l) (h_thermal : Fld.thermal ∈ l) (h_trestle : Fld.trestle ∈ l) (h_trims : Fld.trims ∈ l) (h_waitMaint : Fld.waitMaint ∈ l) (h_waits : Fld.waits ∈ l) : (State.runItem s r k x hw).but l = s.but l := by
  unfold State.runItem
  simp [h_actions, h_active, h_armed, h_asms, h_caps, h_chans, h_clusters, h_committed, h_downs, h_draws, h_drives, h_ens, h_entries, h_events, h_fabricFault, h_flash, h_fwWaitAt, h_granules, h_groups, h_host, h_inbox, h_islandBad, h_keys, h_latches, h_later, h_ledger, h_log, h_mgmtDown, h_nv, h_parts, h_peerOut, h_peerReq, h_peerReqsAt, h_peerTries, h_ports, h_prior, h_queueC, h_regs, h_reply, h_retained, h_safeN, h_sec, h_sectors, h_sessNext, h_sessions, h_sets, h_shadow, h_stalled, h_status, h_streams, h_supply, h_svc, h_switchSt, h_t1sSleep, h_thermal, h_trestle, h_trims, h_waitMaint, h_waits, ↓State.countItem_but, ↓State.readItem_but, ↓State.writeItem_but, ↓State.ite_but]

@[simp] theorem State.giveCode_but (s : State) (r : Role) (x : ReqItem) (st : Nat) (l : List Fld) (h_events : Fld.events ∈ l) (h_regs : Fld.regs ∈ l) (h_reply : Fld.reply ∈ l) (h_status : Fld.status ∈ l) : (State.giveCode s r x st).but l = s.but l := by
  unfold State.giveCode
  first
  | (simp [h_events, h_regs, h_reply, h_status, ↓State.answer_but, ↓State.countItem_but, ↓State.switchRefuse_but, ↓State.ite_but]; done)
  | ((try dsimp only); (repeat' split) <;> first
    | with_reducible rfl
    | (simp [h_events, h_regs, h_reply, h_status, ↓State.answer_but, ↓State.countItem_but, ↓State.switchRefuse_but, ↓State.ite_but]; done))

@[simp] theorem State.oneItem_but (s : State) (r : Role) (k : Nat) (x : ReqItem) (hw : Hw) (l : List Fld) (h_actions : Fld.actions ∈ l) (h_active : Fld.active ∈ l) (h_armed : Fld.armed ∈ l) (h_asms : Fld.asms ∈ l) (h_caps : Fld.caps ∈ l) (h_chans : Fld.chans ∈ l) (h_clusters : Fld.clusters ∈ l) (h_committed : Fld.committed ∈ l) (h_downs : Fld.downs ∈ l) (h_draws : Fld.draws ∈ l) (h_drives : Fld.drives ∈ l) (h_ens : Fld.ens ∈ l) (h_entries : Fld.entries ∈ l) (h_events : Fld.events ∈ l) (h_fabricFault : Fld.fabricFault ∈ l) (h_flash : Fld.flash ∈ l) (h_fwWaitAt : Fld.fwWaitAt ∈ l) (h_granules : Fld.granules ∈ l) (h_groups : Fld.groups ∈ l) (h_host : Fld.host ∈ l) (h_inbox : Fld.inbox ∈ l) (h_islandBad : Fld.islandBad ∈ l) (h_keys : Fld.keys ∈ l) (h_latches : Fld.latches ∈ l) (h_later : Fld.later ∈ l) (h_ledger : Fld.ledger ∈ l) (h_log : Fld.log ∈ l) (h_mgmtDown : Fld.mgmtDown ∈ l) (h_nv : Fld.nv ∈ l) (h_parts : Fld.parts ∈ l) (h_peerOut : Fld.peerOut ∈ l) (h_peerReq : Fld.peerReq ∈ l) (h_peerReqsAt : Fld.peerReqsAt ∈ l) (h_peerTries : Fld.peerTries ∈ l) (h_ports : Fld.ports ∈ l) (h_prior : Fld.prior ∈ l) (h_queueC : Fld.queueC ∈ l) (h_regs : Fld.regs ∈ l) (h_reply : Fld.reply ∈ l) (h_retained : Fld.retained ∈ l) (h_safeN : Fld.safeN ∈ l) (h_sec : Fld.sec ∈ l) (h_sectors : Fld.sectors ∈ l) (h_sessNext : Fld.sessNext ∈ l) (h_sessions : Fld.sessions ∈ l) (h_sets : Fld.sets ∈ l) (h_shadow : Fld.shadow ∈ l) (h_stalled : Fld.stalled ∈ l) (h_status : Fld.status ∈ l) (h_streams : Fld.streams ∈ l) (h_supply : Fld.supply ∈ l) (h_svc : Fld.svc ∈ l) (h_switchSt : Fld.switchSt ∈ l) (h_t1sSleep : Fld.t1sSleep ∈ l) (h_thermal : Fld.thermal ∈ l) (h_trestle : Fld.trestle ∈ l) (h_trims : Fld.trims ∈ l) (h_waitMaint : Fld.waitMaint ∈ l) (h_waits : Fld.waits ∈ l) : (State.oneItem s r k x hw).but l = s.but l := by
  unfold State.oneItem
  (try dsimp only); (repeat' split) <;> first
    | with_reducible rfl
    | (simp [h_actions, h_active, h_armed, h_asms, h_caps, h_chans, h_clusters, h_committed, h_downs, h_draws, h_drives, h_ens, h_entries, h_events, h_fabricFault, h_flash, h_fwWaitAt, h_granules, h_groups, h_host, h_inbox, h_islandBad, h_keys, h_latches, h_later, h_ledger, h_log, h_mgmtDown, h_nv, h_parts, h_peerOut, h_peerReq, h_peerReqsAt, h_peerTries, h_ports, h_prior, h_queueC, h_regs, h_reply, h_retained, h_safeN, h_sec, h_sectors, h_sessNext, h_sessions, h_sets, h_shadow, h_stalled, h_status, h_streams, h_supply, h_svc, h_switchSt, h_t1sSleep, h_thermal, h_trestle, h_trims, h_waitMaint, h_waits, ↓State.giveCode_but, ↓State.runItem_but, ↓State.ite_but]; done)
    | (rename_i heq; have hk := congrArg (fun x => x.1.but l) heq; simp [h_actions, h_active, h_armed, h_asms, h_caps, h_chans, h_clusters, h_committed, h_downs, h_draws, h_drives, h_ens, h_entries, h_events, h_fabricFault, h_flash, h_fwWaitAt, h_granules, h_groups, h_host, h_inbox, h_islandBad, h_keys, h_latches, h_later, h_ledger, h_log, h_mgmtDown, h_nv, h_parts, h_peerOut, h_peerReq, h_peerReqsAt, h_peerTries, h_ports, h_prior, h_queueC, h_regs, h_reply, h_retained, h_safeN, h_sec, h_sectors, h_sessNext, h_sessions, h_sets, h_shadow, h_stalled, h_status, h_streams, h_supply, h_svc, h_switchSt, h_t1sSleep, h_thermal, h_trestle, h_trims, h_waitMaint, h_waits, ↓State.giveCode_but, ↓State.runItem_but, ↓State.ite_but] at hk; simp [hk, h_actions, h_active, h_armed, h_asms, h_caps, h_chans, h_clusters, h_committed, h_downs, h_draws, h_drives, h_ens, h_entries, h_events, h_fabricFault, h_flash, h_fwWaitAt, h_granules, h_groups, h_host, h_inbox, h_islandBad, h_keys, h_latches, h_later, h_ledger, h_log, h_mgmtDown, h_nv, h_parts, h_peerOut, h_peerReq, h_peerReqsAt, h_peerTries, h_ports, h_prior, h_queueC, h_regs, h_reply, h_retained, h_safeN, h_sec, h_sectors, h_sessNext, h_sessions, h_sets, h_shadow, h_stalled, h_status, h_streams, h_supply, h_svc, h_switchSt, h_t1sSleep, h_thermal, h_trestle, h_trims, h_waitMaint, h_waits, ↓State.giveCode_but, ↓State.runItem_but, ↓State.ite_but]; done)

end Sys2Proof.Machine
end

