-- ==== Sys2Proof/Laws/Keep/Dap.lean ====
section
/-! SUPPORT. The frames of the operations of Machine/Dap.lean: the parts of the state that each of them can change. -/
set_option linter.all false

namespace Sys2Proof.Machine

@[simp] theorem State.authFail_but (s : State) (k : Nat) (l : List Fld) (h_events : Fld.events ∈ l) (h_keys : Fld.keys ∈ l) (h_regs : Fld.regs ∈ l) : (State.authFail s k).but l = s.but l := by
  unfold State.authFail
  simp [h_events, h_keys, h_regs, ↓State.bump16_but, ↓State.bump32_but, ↓State.raise_but, ↓State.setKey_but, ↓State.ite_but]

@[simp] theorem State.refuseKey_but (s : State) (x : InReq) (response : Bytes) (l : List Fld) (h_draws : Fld.draws ∈ l) (h_events : Fld.events ∈ l) (h_host : Fld.host ∈ l) (h_keys : Fld.keys ∈ l) (h_nv : Fld.nv ∈ l) (h_outFrames : Fld.outFrames ∈ l) (h_regs : Fld.regs ∈ l) (h_svc : Fld.svc ∈ l) (h_t1sSleep : Fld.t1sSleep ∈ l) : (State.refuseKey s x response).but l = s.but l := by
  unfold State.refuseKey
  simp [h_draws, h_events, h_host, h_keys, h_nv, h_outFrames, h_regs, h_svc, h_t1sSleep, ↓State.bump32_but, ↓State.sendPayload_but, ↓State.setKey_but, ↓State.ite_but]

@[simp] theorem State.hostSeen_but (s : State) (p : Nat) (l : List Fld) (h_parts : Fld.parts ∈ l) : (State.hostSeen s p).but l = s.but l := by
  unfold State.hostSeen
  first
  | (simp [h_parts, ↓State.setPart_but, ↓State.ite_but]; done)
  | ((try dsimp only); (repeat' split) <;> first
    | with_reducible rfl
    | (simp [h_parts, ↓State.setPart_but, ↓State.ite_but]; done))

@[simp] theorem State.addSession_but (s : State) (tr : Transport) (ep keyId : Nat) (l : List Fld) (h_sessNext : Fld.sessNext ∈ l) (h_sessions : Fld.sessions ∈ l) : (State.addSession s tr ep keyId).but l = s.but l := by
  unfold State.addSession
  first
  | (simp [h_sessNext, h_sessions, State.but, ↓State.but_sessNext, ↓State.but_sessions, ↓State.ite_but]; done)
  | ((try dsimp only); (repeat' split) <;> first
    | with_reducible rfl
    | (simp [h_sessNext, h_sessions, State.but, ↓State.but_sessNext, ↓State.but_sessions, ↓State.ite_but]; done))

@[simp] theorem State.openSession_but (s : State) (tr : Transport) (ep keyId : Nat) (l : List Fld) (h_events : Fld.events ∈ l) (h_regs : Fld.regs ∈ l) (h_sessNext : Fld.sessNext ∈ l) (h_sessions : Fld.sessions ∈ l) : (State.openSession s tr ep keyId).1.but l = s.but l := by
  unfold State.openSession
  (try dsimp only); (repeat' split) <;> first
    | with_reducible rfl
    | (simp [h_events, h_regs, h_sessNext, h_sessions, ↓State.addSession_but, ↓State.raise_but, ↓State.but_sessions, ↓State.ite_but]; done)
    | (rename_i heq; have hk := congrArg (fun x => x.1.but l) heq; simp [h_events, h_regs, h_sessNext, h_sessions, ↓State.addSession_but, ↓State.raise_but, ↓State.but_sessions, ↓State.ite_but] at hk; simp [hk, h_events, h_regs, h_sessNext, h_sessions, ↓State.addSession_but, ↓State.raise_but, ↓State.but_sessions, ↓State.ite_but]; done)

@[simp] theorem State.giveCodes_but (s : State) (r : Role) (ll : List (ReqItem × Nat)) (l : List Fld) (h_events : Fld.events ∈ l) (h_regs : Fld.regs ∈ l) (h_reply : Fld.reply ∈ l) (h_status : Fld.status ∈ l) : (State.giveCodes s r ll).but l = s.but l := by
  unfold State.giveCodes
  first
  | (simp [h_events, h_regs, h_reply, h_status, ↓State.giveCode_but, foldl_but, ↓State.ite_but]; done)
  | ((try dsimp only); (repeat' split) <;> first
    | with_reducible rfl
    | (simp [h_events, h_regs, h_reply, h_status, ↓State.giveCode_but, foldl_but, ↓State.ite_but]; done))

@[simp] theorem State.runOne_but (s : State) (w : Wait) (left : Nat) (x : ReqItem) (hw : Hw) (l : List Fld) (h_actions : Fld.actions ∈ l) (h_active : Fld.active ∈ l) (h_armed : Fld.armed ∈ l) (h_asms : Fld.asms ∈ l) (h_caps : Fld.caps ∈ l) (h_chans : Fld.chans ∈ l) (h_clusters : Fld.clusters ∈ l) (h_committed : Fld.committed ∈ l) (h_downs : Fld.downs ∈ l) (h_draws : Fld.draws ∈ l) (h_drives : Fld.drives ∈ l) (h_ens : Fld.ens ∈ l) (h_entries : Fld.entries ∈ l) (h_events : Fld.events ∈ l) (h_fabricFault : Fld.fabricFault ∈ l) (h_flash : Fld.flash ∈ l) (h_fwWaitAt : Fld.fwWaitAt ∈ l) (h_granules : Fld.granules ∈ l) (h_groups : Fld.groups ∈ l) (h_host : Fld.host ∈ l) (h_inbox : Fld.inbox ∈ l) (h_islandBad : Fld.islandBad ∈ l) (h_keys : Fld.keys ∈ l) (h_latches : Fld.latches ∈ l) (h_later : Fld.later ∈ l) (h_ledger : Fld.ledger ∈ l) (h_log : Fld.log ∈ l) (h_mgmtDown : Fld.mgmtDown ∈ l) (h_nv : Fld.nv ∈ l) (h_parts : Fld.parts ∈ l) (h_peerOut : Fld.peerOut ∈ l) (h_peerReq : Fld.peerReq ∈ l) (h_peerReqsAt : Fld.peerReqsAt ∈ l) (h_peerTries : Fld.peerTries ∈ l) (h_ports : Fld.ports ∈ l) (h_prior : Fld.prior ∈ l) (h_queueC : Fld.queueC ∈ l) (h_regs : Fld.regs ∈ l) (h_reply : Fld.reply ∈ l) (h_retained : Fld.retained ∈ l) (h_safeN : Fld.safeN ∈ l) (h_sec : Fld.sec ∈ l) (h_sectors : Fld.sectors ∈ l) (h_sessNext : Fld.sessNext ∈ l) (h_sessions : Fld.sessions ∈ l) (h_sets : Fld.sets ∈ l) (h_shadow : Fld.shadow ∈ l) (h_stalled : Fld.stalled ∈ l) (h_status : Fld.status ∈ l) (h_streams : Fld.streams ∈ l) (h_supply : Fld.supply ∈ l) (h_svc : Fld.svc ∈ l) (h_switchSt : Fld.switchSt ∈ l) (h_t1sSleep : Fld.t1sSleep ∈ l) (h_thermal : Fld.thermal ∈ l) (h_trestle : Fld.trestle ∈ l) (h_trims : Fld.trims ∈ l) (h_waitMaint : Fld.waitMaint ∈ l) (h_waits : Fld.waits ∈ l) : (State.runOne s w left x hw).but l = s.but l := by
  unfold State.runOne
  first
  | (simp [h_actions, h_active, h_armed, h_asms, h_caps, h_chans, h_clusters, h_committed, h_downs, h_draws, h_drives, h_ens, h_entries, h_events, h_fabricFault, h_flash, h_fwWaitAt, h_granules, h_groups, h_host, h_inbox, h_islandBad, h_keys, h_latches, h_later, h_ledger, h_log, h_mgmtDown, h_nv, h_parts, h_peerOut, h_peerReq, h_peerReqsAt, h_peerTries, h_ports, h_prior, h_queueC, h_regs, h_reply, h_retained, h_safeN, h_sec, h_sectors, h_sessNext, h_sessions, h_sets, h_shadow, h_stalled, h_status, h_streams, h_supply, h_svc, h_switchSt, h_t1sSleep, h_thermal, h_trestle, h_trims, h_waitMaint, h_waits, ↓State.countItem_but, ↓State.give_but, ↓State.runItem_but, ↓State.ite_but]; done)
  | ((try dsimp only); (repeat' split) <;> first
    | with_reducible rfl
    | (simp [h_actions, h_active, h_armed, h_asms, h_caps, h_chans, h_clusters, h_committed, h_downs, h_draws, h_drives, h_ens, h_entries, h_events, h_fabricFault, h_flash, h_fwWaitAt, h_granules, h_groups, h_host, h_inbox, h_islandBad, h_keys, h_latches, h_later, h_ledger, h_log, h_mgmtDown, h_nv, h_parts, h_peerOut, h_peerReq, h_peerReqsAt, h_peerTries, h_ports, h_prior, h_queueC, h_regs, h_reply, h_retained, h_safeN, h_sec, h_sectors, h_sessNext, h_sessions, h_sets, h_shadow, h_stalled, h_status, h_streams, h_supply, h_svc, h_switchSt, h_t1sSleep, h_thermal, h_trestle, h_trims, h_waitMaint, h_waits, ↓State.countItem_but, ↓State.give_but, ↓State.runItem_but, ↓State.ite_but]; done)
    | (rename_i heq; have hk := congrArg (fun x => x.1.but l) heq; simp [h_actions, h_active, h_armed, h_asms, h_caps, h_chans, h_clusters, h_committed, h_downs, h_draws, h_drives, h_ens, h_entries, h_events, h_fabricFault, h_flash, h_fwWaitAt, h_granules, h_groups, h_host, h_inbox, h_islandBad, h_keys, h_latches, h_later, h_ledger, h_log, h_mgmtDown, h_nv, h_parts, h_peerOut, h_peerReq, h_peerReqsAt, h_peerTries, h_ports, h_prior, h_queueC, h_regs, h_reply, h_retained, h_safeN, h_sec, h_sectors, h_sessNext, h_sessions, h_sets, h_shadow, h_stalled, h_status, h_streams, h_supply, h_svc, h_switchSt, h_t1sSleep, h_thermal, h_trestle, h_trims, h_waitMaint, h_waits, ↓State.countItem_but, ↓State.give_but, ↓State.runItem_but, ↓State.ite_but] at hk; simp [h_actions, h_active, h_armed, h_asms, h_caps, h_chans, h_clusters, h_committed, h_downs, h_draws, h_drives, h_ens, h_entries, h_events, h_fabricFault, h_flash, h_fwWaitAt, h_granules, h_groups, h_host, h_inbox, h_islandBad, h_keys, h_latches, h_later, h_ledger, h_log, h_mgmtDown, h_nv, h_parts, h_peerOut, h_peerReq, h_peerReqsAt, h_peerTries, h_ports, h_prior, h_queueC, h_regs, h_reply, h_retained, h_safeN, h_sec, h_sectors, h_sessNext, h_sessions, h_sets, h_shadow, h_stalled, h_status, h_streams, h_supply, h_svc, h_switchSt, h_t1sSleep, h_thermal, h_trestle, h_trims, h_waitMaint, h_waits, ↓State.countItem_but, ↓State.give_but, ↓State.runItem_but, ↓State.ite_but, hk]; done))

@[simp] theorem State.runItems_but (s : State) (w : Wait) (acted : Bool) (hw : Hw) (ll : List ReqItem) (l : List Fld) (h_actions : Fld.actions ∈ l) (h_active : Fld.active ∈ l) (h_armed : Fld.armed ∈ l) (h_asms : Fld.asms ∈ l) (h_caps : Fld.caps ∈ l) (h_chans : Fld.chans ∈ l) (h_clusters : Fld.clusters ∈ l) (h_committed : Fld.committed ∈ l) (h_downs : Fld.downs ∈ l) (h_draws : Fld.draws ∈ l) (h_drives : Fld.drives ∈ l) (h_ens : Fld.ens ∈ l) (h_entries : Fld.entries ∈ l) (h_events : Fld.events ∈ l) (h_fabricFault : Fld.fabricFault ∈ l) (h_flash : Fld.flash ∈ l) (h_fwWaitAt : Fld.fwWaitAt ∈ l) (h_granules : Fld.granules ∈ l) (h_groups : Fld.groups ∈ l) (h_host : Fld.host ∈ l) (h_inbox : Fld.inbox ∈ l) (h_islandBad : Fld.islandBad ∈ l) (h_keys : Fld.keys ∈ l) (h_latches : Fld.latches ∈ l) (h_later : Fld.later ∈ l) (h_ledger : Fld.ledger ∈ l) (h_log : Fld.log ∈ l) (h_mgmtDown : Fld.mgmtDown ∈ l) (h_nv : Fld.nv ∈ l) (h_parts : Fld.parts ∈ l) (h_peerOut : Fld.peerOut ∈ l) (h_peerReq : Fld.peerReq ∈ l) (h_peerReqsAt : Fld.peerReqsAt ∈ l) (h_peerTries : Fld.peerTries ∈ l) (h_ports : Fld.ports ∈ l) (h_prior : Fld.prior ∈ l) (h_queueC : Fld.queueC ∈ l) (h_regs : Fld.regs ∈ l) (h_reply : Fld.reply ∈ l) (h_retained : Fld.retained ∈ l) (h_safeN : Fld.safeN ∈ l) (h_sec : Fld.sec ∈ l) (h_sectors : Fld.sectors ∈ l) (h_sessNext : Fld.sessNext ∈ l) (h_sessions : Fld.sessions ∈ l) (h_sets : Fld.sets ∈ l) (h_shadow : Fld.shadow ∈ l) (h_stalled : Fld.stalled ∈ l) (h_status : Fld.status ∈ l) (h_streams : Fld.streams ∈ l) (h_supply : Fld.supply ∈ l) (h_svc : Fld.svc ∈ l) (h_switchSt : Fld.switchSt ∈ l) (h_t1sSleep : Fld.t1sSleep ∈ l) (h_thermal : Fld.thermal ∈ l) (h_trestle : Fld.trestle ∈ l) (h_trims : Fld.trims ∈ l) (h_waitMaint : Fld.waitMaint ∈ l) (h_waits : Fld.waits ∈ l) : (State.runItems s w acted hw ll).1.but l = s.but l := by
  induction ll generalizing s w acted with
  | nil =>
    unfold State.runItems
    split <;> rfl
  | cons x rest ih =>
    unfold State.runItems
    split
    · rfl
    split
    · dsimp only
      rw [State.but_waits _ _ _ h_waits]
    · have kt : (s.runOne w (rest.length + 1) x hw).but l = s.but l := by
        apply State.runOne_but <;> assumption
      generalize s.runOne w (rest.length + 1) x hw = t at kt ⊢
      dsimp only
      (repeat' split) <;> first
        | (rw [ih, kt]; done)
        | (dsimp only; rw [State.but_waits _ _ _ h_waits, kt]; done)
        | (dsimp only; rw [State.giveCodes_but, kt] <;> assumption)

@[simp] theorem State.replyTo_but (s : State) (muted : Bool) (k tid : Nat) (request response : Bytes) (l : List Fld) (h_draws : Fld.draws ∈ l) (h_events : Fld.events ∈ l) (h_host : Fld.host ∈ l) (h_keys : Fld.keys ∈ l) (h_nv : Fld.nv ∈ l) (h_outFrames : Fld.outFrames ∈ l) (h_regs : Fld.regs ∈ l) (h_sessions : Fld.sessions ∈ l) (h_svc : Fld.svc ∈ l) (h_t1sSleep : Fld.t1sSleep ∈ l) : (State.replyTo s muted k tid request response).but l = s.but l := by
  unfold State.replyTo
  simp [h_draws, h_events, h_host, h_keys, h_nv, h_outFrames, h_regs, h_sessions, h_svc, h_t1sSleep, ↓State.respond_but, ↓State.ite_but]

@[simp] theorem State.sealedBy_but (s : State) (old : Option KeyX) (f : State → State) (l : List Fld) (h_keys : Fld.keys ∈ l) (hf : ∀ s, (f s).but l = s.but l) : (State.sealedBy s old f).but l = s.but l := by
  unfold State.sealedBy
  split
  · exact hf _
  · simp [hf, h_keys]

@[simp] theorem State.afterItems_but (s : State) (before : State) (w : Wait) (muted : Bool) (response : Option Bytes) (l : List Fld) (h_draws : Fld.draws ∈ l) (h_events : Fld.events ∈ l) (h_host : Fld.host ∈ l) (h_keys : Fld.keys ∈ l) (h_nv : Fld.nv ∈ l) (h_outFrames : Fld.outFrames ∈ l) (h_regs : Fld.regs ∈ l) (h_sessions : Fld.sessions ∈ l) (h_svc : Fld.svc ∈ l) (h_t1sSleep : Fld.t1sSleep ∈ l) (h_waits : Fld.waits ∈ l) : (State.afterItems s before w muted response).but l = s.but l := by
  unfold State.afterItems
  (try dsimp only); (repeat' split) <;> first
    | with_reducible rfl
    | (simp [h_draws, h_events, h_host, h_keys, h_nv, h_outFrames, h_regs, h_sessions, h_svc, h_t1sSleep, h_waits, ↓State.closeKey_but, ↓State.replyTo_but, ↓State.sealedBy_but, ↓State.but_waits, foldl_but, ↓State.ite_but]; done)
    | (rename_i heq; have hk := congrArg (fun x => x.1.but l) heq; simp [h_draws, h_events, h_host, h_keys, h_nv, h_outFrames, h_regs, h_sessions, h_svc, h_t1sSleep, h_waits, ↓State.closeKey_but, ↓State.replyTo_but, ↓State.sealedBy_but, ↓State.but_waits, foldl_but, ↓State.ite_but] at hk; simp [hk, h_draws, h_events, h_host, h_keys, h_nv, h_outFrames, h_regs, h_sessions, h_svc, h_t1sSleep, h_waits, ↓State.closeKey_but, ↓State.replyTo_but, ↓State.sealedBy_but, ↓State.but_waits, foldl_but, ↓State.ite_but]; done)

@[simp] theorem State.runBatch_but (s : State) (r : Role) (k tid : Nat) (request : Bytes) (ll : List ReqItem) (muted : Bool) (hw : Hw) (l : List Fld) (h_actions : Fld.actions ∈ l) (h_active : Fld.active ∈ l) (h_armed : Fld.armed ∈ l) (h_asms : Fld.asms ∈ l) (h_caps : Fld.caps ∈ l) (h_chans : Fld.chans ∈ l) (h_clusters : Fld.clusters ∈ l) (h_committed : Fld.committed ∈ l) (h_downs : Fld.downs ∈ l) (h_draws : Fld.draws ∈ l) (h_drives : Fld.drives ∈ l) (h_ens : Fld.ens ∈ l) (h_entries : Fld.entries ∈ l) (h_events : Fld.events ∈ l) (h_fabricFault : Fld.fabricFault ∈ l) (h_flash : Fld.flash ∈ l) (h_fwWaitAt : Fld.fwWaitAt ∈ l) (h_granules : Fld.granules ∈ l) (h_groups : Fld.groups ∈ l) (h_host : Fld.host ∈ l) (h_inbox : Fld.inbox ∈ l) (h_islandBad : Fld.islandBad ∈ l) (h_keys : Fld.keys ∈ l) (h_latches : Fld.latches ∈ l) (h_later : Fld.later ∈ l) (h_ledger : Fld.ledger ∈ l) (h_log : Fld.log ∈ l) (h_mgmtDown : Fld.mgmtDown ∈ l) (h_nv : Fld.nv ∈ l) (h_outFrames : Fld.outFrames ∈ l) (h_parts : Fld.parts ∈ l) (h_peerOut : Fld.peerOut ∈ l) (h_peerReq : Fld.peerReq ∈ l) (h_peerReqsAt : Fld.peerReqsAt ∈ l) (h_peerTries : Fld.peerTries ∈ l) (h_ports : Fld.ports ∈ l) (h_prior : Fld.prior ∈ l) (h_queueC : Fld.queueC ∈ l) (h_regs : Fld.regs ∈ l) (h_reply : Fld.reply ∈ l) (h_retained : Fld.retained ∈ l) (h_safeN : Fld.safeN ∈ l) (h_sec : Fld.sec ∈ l) (h_sectors : Fld.sectors ∈ l) (h_sessNext : Fld.sessNext ∈ l) (h_sessions : Fld.sessions ∈ l) (h_sets : Fld.sets ∈ l) (h_shadow : Fld.shadow ∈ l) (h_stalled : Fld.stalled ∈ l) (h_status : Fld.status ∈ l) (h_streams : Fld.streams ∈ l) (h_supply : Fld.supply ∈ l) (h_svc : Fld.svc ∈ l) (h_switchSt : Fld.switchSt ∈ l) (h_t1sSleep : Fld.t1sSleep ∈ l) (h_thermal : Fld.thermal ∈ l) (h_trestle : Fld.trestle ∈ l) (h_trims : Fld.trims ∈ l) (h_waitMaint : Fld.waitMaint ∈ l) (h_waits : Fld.waits ∈ l) : (State.runBatch s r k tid request ll muted hw).but l = s.but l := by
  unfold State.runBatch
  split
  · rw [State.replyTo_but, State.giveCodes_but] <;> assumption
  · extract_lets w
    split
    · simp [State.but, h_actions, h_active, h_armed, h_asms, h_caps, h_chans, h_clusters, h_committed, h_downs, h_draws, h_drives, h_ens, h_entries, h_events, h_fabricFault, h_flash, h_fwWaitAt, h_granules, h_groups, h_host, h_inbox, h_islandBad, h_keys, h_latches, h_later, h_ledger, h_log, h_mgmtDown, h_nv, h_outFrames, h_parts, h_peerOut, h_peerReq, h_peerReqsAt, h_peerTries, h_ports, h_prior, h_queueC, h_regs, h_reply, h_retained, h_safeN, h_sec, h_sectors, h_sessNext, h_sessions, h_sets, h_shadow, h_stalled, h_status, h_streams, h_supply, h_svc, h_switchSt, h_t1sSleep, h_thermal, h_trestle, h_trims, h_waitMaint, h_waits]
    · have k : (s.runItems w false hw ll).1.but l = s.but l := by apply State.runItems_but <;> assumption
      revert k
      generalize s.runItems w false hw ll = q
      obtain ⟨t, b⟩ := q
      intro k
      show (t.afterItems s w muted b).but l = s.but l
      rw [State.afterItems_but, k] <;> assumption

@[simp] theorem State.rateStep_but (s : State) (r : Role) (l : List Fld) (h_events : Fld.events ∈ l) (h_parts : Fld.parts ∈ l) (h_regs : Fld.regs ∈ l) : (State.rateStep s r).1.but l = s.but l := by
  unfold State.rateStep
  (try dsimp only); (repeat' split) <;> first
    | with_reducible rfl
    | (simp [h_events, h_parts, h_regs, ↓State.takeToken_but, ↓State.ite_but]; done)
    | (rename_i heq; have hk := congrArg (fun x => x.1.but l) heq; simp [h_events, h_parts, h_regs, ↓State.takeToken_but, ↓State.ite_but] at hk; simp [hk, h_events, h_parts, h_regs, ↓State.takeToken_but, ↓State.ite_but]; done)

@[simp] theorem State.newRequest_but (s : State) (r : Role) (k tid : Nat) (payload : Bytes) (muted : Bool) (hw : Hw) (l : List Fld) (h_actions : Fld.actions ∈ l) (h_active : Fld.active ∈ l) (h_armed : Fld.armed ∈ l) (h_asms : Fld.asms ∈ l) (h_caps : Fld.caps ∈ l) (h_chans : Fld.chans ∈ l) (h_clusters : Fld.clusters ∈ l) (h_committed : Fld.committed ∈ l) (h_downs : Fld.downs ∈ l) (h_draws : Fld.draws ∈ l) (h_drives : Fld.drives ∈ l) (h_ens : Fld.ens ∈ l) (h_entries : Fld.entries ∈ l) (h_events : Fld.events ∈ l) (h_fabricFault : Fld.fabricFault ∈ l) (h_flash : Fld.flash ∈ l) (h_fwWaitAt : Fld.fwWaitAt ∈ l) (h_granules : Fld.granules ∈ l) (h_groups : Fld.groups ∈ l) (h_host : Fld.host ∈ l) (h_inbox : Fld.inbox ∈ l) (h_islandBad : Fld.islandBad ∈ l) (h_keys : Fld.keys ∈ l) (h_latches : Fld.latches ∈ l) (h_later : Fld.later ∈ l) (h_ledger : Fld.ledger ∈ l) (h_log : Fld.log ∈ l) (h_mgmtDown : Fld.mgmtDown ∈ l) (h_nv : Fld.nv ∈ l) (h_outFrames : Fld.outFrames ∈ l) (h_parts : Fld.parts ∈ l) (h_peerOut : Fld.peerOut ∈ l) (h_peerReq : Fld.peerReq ∈ l) (h_peerReqsAt : Fld.peerReqsAt ∈ l) (h_peerTries : Fld.peerTries ∈ l) (h_ports : Fld.ports ∈ l) (h_prior : Fld.prior ∈ l) (h_queueC : Fld.queueC ∈ l) (h_regs : Fld.regs ∈ l) (h_reply : Fld.reply ∈ l) (h_retained : Fld.retained ∈ l) (h_safeN : Fld.safeN ∈ l) (h_sec : Fld.sec ∈ l) (h_sectors : Fld.sectors ∈ l) (h_sessNext : Fld.sessNext ∈ l) (h_sessions : Fld.sessions ∈ l) (h_sets : Fld.sets ∈ l) (h_shadow : Fld.shadow ∈ l) (h_stalled : Fld.stalled ∈ l) (h_status : Fld.status ∈ l) (h_streams : Fld.streams ∈ l) (h_supply : Fld.supply ∈ l) (h_svc : Fld.svc ∈ l) (h_switchSt : Fld.switchSt ∈ l) (h_t1sSleep : Fld.t1sSleep ∈ l) (h_thermal : Fld.thermal ∈ l) (h_trestle : Fld.trestle ∈ l) (h_trims : Fld.trims ∈ l) (h_waitMaint : Fld.waitMaint ∈ l) (h_waits : Fld.waits ∈ l) : (State.newRequest s r k tid payload muted hw).but l = s.but l := by
  unfold State.newRequest
  (try dsimp only); (repeat' split) <;> first
    | with_reducible rfl
    | (simp [h_actions, h_active, h_armed, h_asms, h_caps, h_chans, h_clusters, h_committed, h_downs, h_draws, h_drives, h_ens, h_entries, h_events, h_fabricFault, h_flash, h_fwWaitAt, h_granules, h_groups, h_host, h_inbox, h_islandBad, h_keys, h_latches, h_later, h_ledger, h_log, h_mgmtDown, h_nv, h_outFrames, h_parts, h_peerOut, h_peerReq, h_peerReqsAt, h_peerTries, h_ports, h_prior, h_queueC, h_regs, h_reply, h_retained, h_safeN, h_sec, h_sectors, h_sessNext, h_sessions, h_sets, h_shadow, h_stalled, h_status, h_streams, h_supply, h_svc, h_switchSt, h_t1sSleep, h_thermal, h_trestle, h_trims, h_waitMaint, h_waits, ↓State.rateStep_but, ↓State.replyTo_but, ↓State.runBatch_but, ↓State.ite_but]; done)
    | (rename_i heq; have hk := congrArg (fun x => x.1.but l) heq; simp [h_actions, h_active, h_armed, h_asms, h_caps, h_chans, h_clusters, h_committed, h_downs, h_draws, h_drives, h_ens, h_entries, h_events, h_fabricFault, h_flash, h_fwWaitAt, h_granules, h_groups, h_host, h_inbox, h_islandBad, h_keys, h_latches, h_later, h_ledger, h_log, h_mgmtDown, h_nv, h_outFrames, h_parts, h_peerOut, h_peerReq, h_peerReqsAt, h_peerTries, h_ports, h_prior, h_queueC, h_regs, h_reply, h_retained, h_safeN, h_sec, h_sectors, h_sessNext, h_sessions, h_sets, h_shadow, h_stalled, h_status, h_streams, h_supply, h_svc, h_switchSt, h_t1sSleep, h_thermal, h_trestle, h_trims, h_waitMaint, h_waits, ↓State.rateStep_but, ↓State.replyTo_but, ↓State.runBatch_but, ↓State.ite_but] at hk; simp [hk, h_actions, h_active, h_armed, h_asms, h_caps, h_chans, h_clusters, h_committed, h_downs, h_draws, h_drives, h_ens, h_entries, h_events, h_fabricFault, h_flash, h_fwWaitAt, h_granules, h_groups, h_host, h_inbox, h_islandBad, h_keys, h_latches, h_later, h_ledger, h_log, h_mgmtDown, h_nv, h_outFrames, h_parts, h_peerOut, h_peerReq, h_peerReqsAt, h_peerTries, h_ports, h_prior, h_queueC, h_regs, h_reply, h_retained, h_safeN, h_sec, h_sectors, h_sessNext, h_sessions, h_sets, h_shadow, h_stalled, h_status, h_streams, h_supply, h_svc, h_switchSt, h_t1sSleep, h_thermal, h_trestle, h_trims, h_waitMaint, h_waits, ↓State.rateStep_but, ↓State.replyTo_but, ↓State.runBatch_but, ↓State.ite_but]; done)

@[simp] theorem State.sessionRequest_but (s : State) (k : Nat) (x : InReq) (hw : Hw) (l : List Fld) (h_actions : Fld.actions ∈ l) (h_active : Fld.active ∈ l) (h_armed : Fld.armed ∈ l) (h_asms : Fld.asms ∈ l) (h_caps : Fld.caps ∈ l) (h_chans : Fld.chans ∈ l) (h_clusters : Fld.clusters ∈ l) (h_committed : Fld.committed ∈ l) (h_downs : Fld.downs ∈ l) (h_draws : Fld.draws ∈ l) (h_drives : Fld.drives ∈ l) (h_ens : Fld.ens ∈ l) (h_entries : Fld.entries ∈ l) (h_events : Fld.events ∈ l) (h_fabricFault : Fld.fabricFault ∈ l) (h_flash : Fld.flash ∈ l) (h_fwWaitAt : Fld.fwWaitAt ∈ l) (h_granules : Fld.granules ∈ l) (h_groups : Fld.groups ∈ l) (h_host : Fld.host ∈ l) (h_inbox : Fld.inbox ∈ l) (h_islandBad : Fld.islandBad ∈ l) (h_keys : Fld.keys ∈ l) (h_latches : Fld.latches ∈ l) (h_later : Fld.later ∈ l) (h_ledger : Fld.ledger ∈ l) (h_log : Fld.log ∈ l) (h_mgmtDown : Fld.mgmtDown ∈ l) (h_nv : Fld.nv ∈ l) (h_outFrames : Fld.outFrames ∈ l) (h_parts : Fld.parts ∈ l) (h_peerOut : Fld.peerOut ∈ l) (h_peerReq : Fld.peerReq ∈ l) (h_peerReqsAt : Fld.peerReqsAt ∈ l) (h_peerTries : Fld.peerTries ∈ l) (h_ports : Fld.ports ∈ l) (h_prior : Fld.prior ∈ l) (h_queueC : Fld.queueC ∈ l) (h_regs : Fld.regs ∈ l) (h_reply : Fld.reply ∈ l) (h_retained : Fld.retained ∈ l) (h_safeN : Fld.safeN ∈ l) (h_sec : Fld.sec ∈ l) (h_sectors : Fld.sectors ∈ l) (h_sessNext : Fld.sessNext ∈ l) (h_sessions : Fld.sessions ∈ l) (h_sets : Fld.sets ∈ l) (h_shadow : Fld.shadow ∈ l) (h_stalled : Fld.stalled ∈ l) (h_status : Fld.status ∈ l) (h_streams : Fld.streams ∈ l) (h_supply : Fld.supply ∈ l) (h_svc : Fld.svc ∈ l) (h_switchSt : Fld.switchSt ∈ l) (h_t1sSleep : Fld.t1sSleep ∈ l) (h_thermal : Fld.thermal ∈ l) (h_trestle : Fld.trestle ∈ l) (h_trims : Fld.trims ∈ l) (h_waitMaint : Fld.waitMaint ∈ l) (h_waits : Fld.waits ∈ l) : (State.sessionRequest s k x hw).but l = s.but l := by
  unfold State.sessionRequest
  (try dsimp only); (repeat' split) <;> first
    | with_reducible rfl
    | (simp [h_actions, h_active, h_armed, h_asms, h_caps, h_chans, h_clusters, h_committed, h_downs, h_draws, h_drives, h_ens, h_entries, h_events, h_fabricFault, h_flash, h_fwWaitAt, h_granules, h_groups, h_host, h_inbox, h_islandBad, h_keys, h_latches, h_later, h_ledger, h_log, h_mgmtDown, h_nv, h_outFrames, h_parts, h_peerOut, h_peerReq, h_peerReqsAt, h_peerTries, h_ports, h_prior, h_queueC, h_regs, h_reply, h_retained, h_safeN, h_sec, h_sectors, h_sessNext, h_sessions, h_sets, h_shadow, h_stalled, h_status, h_streams, h_supply, h_svc, h_switchSt, h_t1sSleep, h_thermal, h_trestle, h_trims, h_waitMaint, h_waits, ↓State.bump16_but, ↓State.bump32_but, ↓State.newRequest_but, ↓State.onSession_but, ↓State.sendPayload_but, ↓State.ite_but]; done)
    | (rename_i heq; have hk := congrArg (fun x => x.1.but l) heq; simp [h_actions, h_active, h_armed, h_asms, h_caps, h_chans, h_clusters, h_committed, h_downs, h_draws, h_drives, h_ens, h_entries, h_events, h_fabricFault, h_flash, h_fwWaitAt, h_granules, h_groups, h_host, h_inbox, h_islandBad, h_keys, h_latches, h_later, h_ledger, h_log, h_mgmtDown, h_nv, h_outFrames, h_parts, h_peerOut, h_peerReq, h_peerReqsAt, h_peerTries, h_ports, h_prior, h_queueC, h_regs, h_reply, h_retained, h_safeN, h_sec, h_sectors, h_sessNext, h_sessions, h_sets, h_shadow, h_stalled, h_status, h_streams, h_supply, h_svc, h_switchSt, h_t1sSleep, h_thermal, h_trestle, h_trims, h_waitMaint, h_waits, ↓State.bump16_but, ↓State.bump32_but, ↓State.newRequest_but, ↓State.onSession_but, ↓State.sendPayload_but, ↓State.ite_but] at hk; simp [hk, h_actions, h_active, h_armed, h_asms, h_caps, h_chans, h_clusters, h_committed, h_downs, h_draws, h_drives, h_ens, h_entries, h_events, h_fabricFault, h_flash, h_fwWaitAt, h_granules, h_groups, h_host, h_inbox, h_islandBad, h_keys, h_latches, h_later, h_ledger, h_log, h_mgmtDown, h_nv, h_outFrames, h_parts, h_peerOut, h_peerReq, h_peerReqsAt, h_peerTries, h_ports, h_prior, h_queueC, h_regs, h_reply, h_retained, h_safeN, h_sec, h_sectors, h_sessNext, h_sessions, h_sets, h_shadow, h_stalled, h_status, h_streams, h_supply, h_svc, h_switchSt, h_t1sSleep, h_thermal, h_trestle, h_trims, h_waitMaint, h_waits, ↓State.bump16_but, ↓State.bump32_but, ↓State.newRequest_but, ↓State.onSession_but, ↓State.sendPayload_but, ↓State.ite_but]; done)

@[simp] theorem State.inSession_but (s : State) (x : InReq) (hw : Hw) (l : List Fld) (h_actions : Fld.actions ∈ l) (h_active : Fld.active ∈ l) (h_armed : Fld.armed ∈ l) (h_asms : Fld.asms ∈ l) (h_caps : Fld.caps ∈ l) (h_chans : Fld.chans ∈ l) (h_clusters : Fld.clusters ∈ l) (h_committed : Fld.committed ∈ l) (h_downs : Fld.downs ∈ l) (h_draws : Fld.draws ∈ l) (h_drives : Fld.drives ∈ l) (h_ens : Fld.ens ∈ l) (h_entries : Fld.entries ∈ l) (h_events : Fld.events ∈ l) (h_fabricFault : Fld.fabricFault ∈ l) (h_flash : Fld.flash ∈ l) (h_fwWaitAt : Fld.fwWaitAt ∈ l) (h_granules : Fld.granules ∈ l) (h_groups : Fld.groups ∈ l) (h_host : Fld.host ∈ l) (h_inbox : Fld.inbox ∈ l) (h_islandBad : Fld.islandBad ∈ l) (h_keys : Fld.keys ∈ l) (h_latches : Fld.latches ∈ l) (h_later : Fld.later ∈ l) (h_ledger : Fld.ledger ∈ l) (h_log : Fld.log ∈ l) (h_mgmtDown : Fld.mgmtDown ∈ l) (h_nv : Fld.nv ∈ l) (h_outFrames : Fld.outFrames ∈ l) (h_parts : Fld.parts ∈ l) (h_peerOut : Fld.peerOut ∈ l) (h_peerReq : Fld.peerReq ∈ l) (h_peerReqsAt : Fld.peerReqsAt ∈ l) (h_peerTries : Fld.peerTries ∈ l) (h_ports : Fld.ports ∈ l) (h_prior : Fld.prior ∈ l) (h_queueC : Fld.queueC ∈ l) (h_regs : Fld.regs ∈ l) (h_reply : Fld.reply ∈ l) (h_retained : Fld.retained ∈ l) (h_safeN : Fld.safeN ∈ l) (h_sec : Fld.sec ∈ l) (h_sectors : Fld.sectors ∈ l) (h_sessNext : Fld.sessNext ∈ l) (h_sessions : Fld.sessions ∈ l) (h_sets : Fld.sets ∈ l) (h_shadow : Fld.shadow ∈ l) (h_stalled : Fld.stalled ∈ l) (h_status : Fld.status ∈ l) (h_streams : Fld.streams ∈ l) (h_supply : Fld.supply ∈ l) (h_svc : Fld.svc ∈ l) (h_switchSt : Fld.switchSt ∈ l) (h_t1sSleep : Fld.t1sSleep ∈ l) (h_thermal : Fld.thermal ∈ l) (h_trestle : Fld.trestle ∈ l) (h_trims : Fld.trims ∈ l) (h_waitMaint : Fld.waitMaint ∈ l) (h_waits : Fld.waits ∈ l) : (State.inSession s x hw).but l = s.but l := by
  unfold State.inSession
  have ko := State.openSession_but s x.req.tr x.req.ep (frKey x.req.bytes) l h_events h_regs h_sessNext h_sessions
  dsimp only
  split
  · apply State.sessionRequest_but <;> assumption
  · split
    · rename_i heq
      rw [heq] at ko
      dsimp only at ko
      split
      · exact ko
      · rw [State.sendPayload_but, ko] <;> assumption
    · rename_i t n heq
      rw [heq] at ko
      dsimp only at ko
      have kt : (t.sessionRequest n x hw).but l = s.but l := by
        refine Eq.trans ?_ ko
        apply State.sessionRequest_but <;> assumption
      split
      · exact (State.but_sessions _ _ _ h_sessions).trans kt
      · exact kt

@[simp] theorem State.runFrame_but (s : State) (x : InReq) (hw : Hw) (l : List Fld) (h_actions : Fld.actions ∈ l) (h_active : Fld.active ∈ l) (h_armed : Fld.armed ∈ l) (h_asms : Fld.asms ∈ l) (h_caps : Fld.caps ∈ l) (h_chans : Fld.chans ∈ l) (h_clusters : Fld.clusters ∈ l) (h_committed : Fld.committed ∈ l) (h_downs : Fld.downs ∈ l) (h_draws : Fld.draws ∈ l) (h_drives : Fld.drives ∈ l) (h_ens : Fld.ens ∈ l) (h_entries : Fld.entries ∈ l) (h_events : Fld.events ∈ l) (h_fabricFault : Fld.fabricFault ∈ l) (h_flash : Fld.flash ∈ l) (h_fwWaitAt : Fld.fwWaitAt ∈ l) (h_granules : Fld.granules ∈ l) (h_groups : Fld.groups ∈ l) (h_host : Fld.host ∈ l) (h_inbox : Fld.inbox ∈ l) (h_islandBad : Fld.islandBad ∈ l) (h_keys : Fld.keys ∈ l) (h_latches : Fld.latches ∈ l) (h_later : Fld.later ∈ l) (h_ledger : Fld.ledger ∈ l) (h_log : Fld.log ∈ l) (h_mgmtDown : Fld.mgmtDown ∈ l) (h_nv : Fld.nv ∈ l) (h_outFrames : Fld.outFrames ∈ l) (h_parts : Fld.parts ∈ l) (h_peerOut : Fld.peerOut ∈ l) (h_peerReq : Fld.peerReq ∈ l) (h_peerReqsAt : Fld.peerReqsAt ∈ l) (h_peerTries : Fld.peerTries ∈ l) (h_ports : Fld.ports ∈ l) (h_prior : Fld.prior ∈ l) (h_queueC : Fld.queueC ∈ l) (h_regs : Fld.regs ∈ l) (h_reply : Fld.reply ∈ l) (h_retained : Fld.retained ∈ l) (h_safeN : Fld.safeN ∈ l) (h_sec : Fld.sec ∈ l) (h_sectors : Fld.sectors ∈ l) (h_sessNext : Fld.sessNext ∈ l) (h_sessions : Fld.sessions ∈ l) (h_sets : Fld.sets ∈ l) (h_shadow : Fld.shadow ∈ l) (h_stalled : Fld.stalled ∈ l) (h_status : Fld.status ∈ l) (h_streams : Fld.streams ∈ l) (h_supply : Fld.supply ∈ l) (h_svc : Fld.svc ∈ l) (h_switchSt : Fld.switchSt ∈ l) (h_t1sSleep : Fld.t1sSleep ∈ l) (h_thermal : Fld.thermal ∈ l) (h_trestle : Fld.trestle ∈ l) (h_trims : Fld.trims ∈ l) (h_waitMaint : Fld.waitMaint ∈ l) (h_waits : Fld.waits ∈ l) : (State.runFrame s x hw).but l = s.but l := by
  unfold State.runFrame
  first
  | (simp [h_actions, h_active, h_armed, h_asms, h_caps, h_chans, h_clusters, h_committed, h_downs, h_draws, h_drives, h_ens, h_entries, h_events, h_fabricFault, h_flash, h_fwWaitAt, h_granules, h_groups, h_host, h_inbox, h_islandBad, h_keys, h_latches, h_later, h_ledger, h_log, h_mgmtDown, h_nv, h_outFrames, h_parts, h_peerOut, h_peerReq, h_peerReqsAt, h_peerTries, h_ports, h_prior, h_queueC, h_regs, h_reply, h_retained, h_safeN, h_sec, h_sectors, h_sessNext, h_sessions, h_sets, h_shadow, h_stalled, h_status, h_streams, h_supply, h_svc, h_switchSt, h_t1sSleep, h_thermal, h_trestle, h_trims, h_waitMaint, h_waits, ↓State.authFail_but, ↓State.bump32_but, ↓State.hostSeen_but, ↓State.inSession_but, ↓State.refuseKey_but, ↓State.storeKey_but, ↓State.ite_but]; done)
  | ((try dsimp only); (repeat' split) <;> first
    | with_reducible rfl
    | (simp [h_actions, h_active, h_armed, h_asms, h_caps, h_chans, h_clusters, h_committed, h_downs, h_draws, h_drives, h_ens, h_entries, h_events, h_fabricFault, h_flash, h_fwWaitAt, h_granules, h_groups, h_host, h_inbox, h_islandBad, h_keys, h_latches, h_later, h_ledger, h_log, h_mgmtDown, h_nv, h_outFrames, h_parts, h_peerOut, h_peerReq, h_peerReqsAt, h_peerTries, h_ports, h_prior, h_queueC, h_regs, h_reply, h_retained, h_safeN, h_sec, h_sectors, h_sessNext, h_sessions, h_sets, h_shadow, h_stalled, h_status, h_streams, h_supply, h_svc, h_switchSt, h_t1sSleep, h_thermal, h_trestle, h_trims, h_waitMaint, h_waits, ↓State.authFail_but, ↓State.bump32_but, ↓State.hostSeen_but, ↓State.inSession_but, ↓State.refuseKey_but, ↓State.storeKey_but, ↓State.ite_but]; done)
    | (rename_i heq; have hk := congrArg (fun x => x.1.but l) heq; simp [h_actions, h_active, h_armed, h_asms, h_caps, h_chans, h_clusters, h_committed, h_downs, h_draws, h_drives, h_ens, h_entries, h_events, h_fabricFault, h_flash, h_fwWaitAt, h_granules, h_groups, h_host, h_inbox, h_islandBad, h_keys, h_latches, h_later, h_ledger, h_log, h_mgmtDown, h_nv, h_outFrames, h_parts, h_peerOut, h_peerReq, h_peerReqsAt, h_peerTries, h_ports, h_prior, h_queueC, h_regs, h_reply, h_retained, h_safeN, h_sec, h_sectors, h_sessNext, h_sessions, h_sets, h_shadow, h_stalled, h_status, h_streams, h_supply, h_svc, h_switchSt, h_t1sSleep, h_thermal, h_trestle, h_trims, h_waitMaint, h_waits, ↓State.authFail_but, ↓State.bump32_but, ↓State.hostSeen_but, ↓State.inSession_but, ↓State.refuseKey_but, ↓State.storeKey_but, ↓State.ite_but] at hk; simp [h_actions, h_active, h_armed, h_asms, h_caps, h_chans, h_clusters, h_committed, h_downs, h_draws, h_drives, h_ens, h_entries, h_events, h_fabricFault, h_flash, h_fwWaitAt, h_granules, h_groups, h_host, h_inbox, h_islandBad, h_keys, h_latches, h_later, h_ledger, h_log, h_mgmtDown, h_nv, h_outFrames, h_parts, h_peerOut, h_peerReq, h_peerReqsAt, h_peerTries, h_ports, h_prior, h_queueC, h_regs, h_reply, h_retained, h_safeN, h_sec, h_sectors, h_sessNext, h_sessions, h_sets, h_shadow, h_stalled, h_status, h_streams, h_supply, h_svc, h_switchSt, h_t1sSleep, h_thermal, h_trestle, h_trims, h_waitMaint, h_waits, ↓State.authFail_but, ↓State.bump32_but, ↓State.hostSeen_but, ↓State.inSession_but, ↓State.refuseKey_but, ↓State.storeKey_but, ↓State.ite_but, hk]; done))

@[simp] theorem State.runService_but (s : State) (x : InReq) (hw : Hw) (l : List Fld) (h_actions : Fld.actions ∈ l) (h_active : Fld.active ∈ l) (h_armed : Fld.armed ∈ l) (h_asms : Fld.asms ∈ l) (h_caps : Fld.caps ∈ l) (h_chans : Fld.chans ∈ l) (h_clusters : Fld.clusters ∈ l) (h_committed : Fld.committed ∈ l) (h_downs : Fld.downs ∈ l) (h_draws : Fld.draws ∈ l) (h_drives : Fld.drives ∈ l) (h_ens : Fld.ens ∈ l) (h_entries : Fld.entries ∈ l) (h_events : Fld.events ∈ l) (h_fabricFault : Fld.fabricFault ∈ l) (h_flash : Fld.flash ∈ l) (h_fwWaitAt : Fld.fwWaitAt ∈ l) (h_granules : Fld.granules ∈ l) (h_groups : Fld.groups ∈ l) (h_host : Fld.host ∈ l) (h_inbox : Fld.inbox ∈ l) (h_islandBad : Fld.islandBad ∈ l) (h_keys : Fld.keys ∈ l) (h_latches : Fld.latches ∈ l) (h_later : Fld.later ∈ l) (h_ledger : Fld.ledger ∈ l) (h_log : Fld.log ∈ l) (h_mgmtDown : Fld.mgmtDown ∈ l) (h_nv : Fld.nv ∈ l) (h_outFrames : Fld.outFrames ∈ l) (h_parts : Fld.parts ∈ l) (h_peerOut : Fld.peerOut ∈ l) (h_peerReq : Fld.peerReq ∈ l) (h_peerReqsAt : Fld.peerReqsAt ∈ l) (h_peerTries : Fld.peerTries ∈ l) (h_ports : Fld.ports ∈ l) (h_prior : Fld.prior ∈ l) (h_queueC : Fld.queueC ∈ l) (h_regs : Fld.regs ∈ l) (h_reply : Fld.reply ∈ l) (h_retained : Fld.retained ∈ l) (h_safeN : Fld.safeN ∈ l) (h_sec : Fld.sec ∈ l) (h_sectors : Fld.sectors ∈ l) (h_sessNext : Fld.sessNext ∈ l) (h_sessions : Fld.sessions ∈ l) (h_sets : Fld.sets ∈ l) (h_shadow : Fld.shadow ∈ l) (h_stalled : Fld.stalled ∈ l) (h_status : Fld.status ∈ l) (h_streams : Fld.streams ∈ l) (h_supply : Fld.supply ∈ l) (h_svc : Fld.svc ∈ l) (h_switchSt : Fld.switchSt ∈ l) (h_t1sSleep : Fld.t1sSleep ∈ l) (h_thermal : Fld.thermal ∈ l) (h_trestle : Fld.trestle ∈ l) (h_trims : Fld.trims ∈ l) (h_waitMaint : Fld.waitMaint ∈ l) (h_waits : Fld.waits ∈ l) : (State.runService s x hw).but l = s.but l := by
  unfold State.runService
  (try dsimp only); (repeat' split) <;> first
      | (simp [h_actions, h_active, h_armed, h_asms, h_caps, h_chans, h_clusters, h_committed, h_downs, h_draws, h_drives, h_ens, h_entries, h_events, h_fabricFault, h_flash, h_fwWaitAt, h_granules, h_groups, h_host, h_inbox, h_islandBad, h_keys, h_latches, h_later, h_ledger, h_log, h_mgmtDown, h_nv, h_outFrames, h_parts, h_peerOut, h_peerReq, h_peerReqsAt, h_peerTries, h_ports, h_prior, h_queueC, h_regs, h_reply, h_retained, h_safeN, h_sec, h_sectors, h_sessNext, h_sessions, h_sets, h_shadow, h_stalled, h_status, h_streams, h_supply, h_svc, h_switchSt, h_t1sSleep, h_thermal, h_trestle, h_trims, h_waitMaint, h_waits, ↓State.newRequest_but, ↓State.onSession_but, ↓State.openSession_but, ↓State.sendPayload_but, ↓State.ite_but]; done)
      | (rename_i heq; have hk := congrArg (fun x => x.1.but l) heq; simp [h_actions, h_active, h_armed, h_asms, h_caps, h_chans, h_clusters, h_committed, h_downs, h_draws, h_drives, h_ens, h_entries, h_events, h_fabricFault, h_flash, h_fwWaitAt, h_granules, h_groups, h_host, h_inbox, h_islandBad, h_keys, h_latches, h_later, h_ledger, h_log, h_mgmtDown, h_nv, h_outFrames, h_parts, h_peerOut, h_peerReq, h_peerReqsAt, h_peerTries, h_ports, h_prior, h_queueC, h_regs, h_reply, h_retained, h_safeN, h_sec, h_sectors, h_sessNext, h_sessions, h_sets, h_shadow, h_stalled, h_status, h_streams, h_supply, h_svc, h_switchSt, h_t1sSleep, h_thermal, h_trestle, h_trims, h_waitMaint, h_waits, ↓State.newRequest_but, ↓State.onSession_but, ↓State.openSession_but, ↓State.sendPayload_but, ↓State.ite_but] at hk; simp [hk, h_actions, h_active, h_armed, h_asms, h_caps, h_chans, h_clusters, h_committed, h_downs, h_draws, h_drives, h_ens, h_entries, h_events, h_fabricFault, h_flash, h_fwWaitAt, h_granules, h_groups, h_host, h_inbox, h_islandBad, h_keys, h_latches, h_later, h_ledger, h_log, h_mgmtDown, h_nv, h_outFrames, h_parts, h_peerOut, h_peerReq, h_peerReqsAt, h_peerTries, h_ports, h_prior, h_queueC, h_regs, h_reply, h_retained, h_safeN, h_sec, h_sectors, h_sessNext, h_sessions, h_sets, h_shadow, h_stalled, h_status, h_streams, h_supply, h_svc, h_switchSt, h_t1sSleep, h_thermal, h_trestle, h_trims, h_waitMaint, h_waits, ↓State.newRequest_but, ↓State.onSession_but, ↓State.openSession_but, ↓State.sendPayload_but, ↓State.ite_but]; done)

@[simp] theorem State.runRequest_but (s : State) (x : InReq) (hw : Hw) (l : List Fld) (h_actions : Fld.actions ∈ l) (h_active : Fld.active ∈ l) (h_armed : Fld.armed ∈ l) (h_asms : Fld.asms ∈ l) (h_caps : Fld.caps ∈ l) (h_chans : Fld.chans ∈ l) (h_clusters : Fld.clusters ∈ l) (h_committed : Fld.committed ∈ l) (h_downs : Fld.downs ∈ l) (h_draws : Fld.draws ∈ l) (h_drives : Fld.drives ∈ l) (h_ens : Fld.ens ∈ l) (h_entries : Fld.entries ∈ l) (h_events : Fld.events ∈ l) (h_fabricFault : Fld.fabricFault ∈ l) (h_flash : Fld.flash ∈ l) (h_fwWaitAt : Fld.fwWaitAt ∈ l) (h_granules : Fld.granules ∈ l) (h_groups : Fld.groups ∈ l) (h_host : Fld.host ∈ l) (h_inbox : Fld.inbox ∈ l) (h_islandBad : Fld.islandBad ∈ l) (h_keys : Fld.keys ∈ l) (h_latches : Fld.latches ∈ l) (h_later : Fld.later ∈ l) (h_ledger : Fld.ledger ∈ l) (h_log : Fld.log ∈ l) (h_mgmtDown : Fld.mgmtDown ∈ l) (h_nv : Fld.nv ∈ l) (h_outFrames : Fld.outFrames ∈ l) (h_parts : Fld.parts ∈ l) (h_peerOut : Fld.peerOut ∈ l) (h_peerReq : Fld.peerReq ∈ l) (h_peerReqsAt : Fld.peerReqsAt ∈ l) (h_peerTries : Fld.peerTries ∈ l) (h_ports : Fld.ports ∈ l) (h_prior : Fld.prior ∈ l) (h_queueC : Fld.queueC ∈ l) (h_regs : Fld.regs ∈ l) (h_reply : Fld.reply ∈ l) (h_retained : Fld.retained ∈ l) (h_safeN : Fld.safeN ∈ l) (h_sec : Fld.sec ∈ l) (h_sectors : Fld.sectors ∈ l) (h_sessNext : Fld.sessNext ∈ l) (h_sessions : Fld.sessions ∈ l) (h_sets : Fld.sets ∈ l) (h_shadow : Fld.shadow ∈ l) (h_stalled : Fld.stalled ∈ l) (h_status : Fld.status ∈ l) (h_streams : Fld.streams ∈ l) (h_supply : Fld.supply ∈ l) (h_svc : Fld.svc ∈ l) (h_switchSt : Fld.switchSt ∈ l) (h_t1sSleep : Fld.t1sSleep ∈ l) (h_thermal : Fld.thermal ∈ l) (h_trestle : Fld.trestle ∈ l) (h_trims : Fld.trims ∈ l) (h_waitMaint : Fld.waitMaint ∈ l) (h_waits : Fld.waits ∈ l) : (State.runRequest s x hw).but l = s.but l := by
  unfold State.runRequest
  simp [h_actions, h_active, h_armed, h_asms, h_caps, h_chans, h_clusters, h_committed, h_downs, h_draws, h_drives, h_ens, h_entries, h_events, h_fabricFault, h_flash, h_fwWaitAt, h_granules, h_groups, h_host, h_inbox, h_islandBad, h_keys, h_latches, h_later, h_ledger, h_log, h_mgmtDown, h_nv, h_outFrames, h_parts, h_peerOut, h_peerReq, h_peerReqsAt, h_peerTries, h_ports, h_prior, h_queueC, h_regs, h_reply, h_retained, h_safeN, h_sec, h_sectors, h_sessNext, h_sessions, h_sets, h_shadow, h_stalled, h_status, h_streams, h_supply, h_svc, h_switchSt, h_t1sSleep, h_thermal, h_trestle, h_trims, h_waitMaint, h_waits, ↓State.runFrame_but, ↓State.runService_but, ↓State.ite_but]

@[simp] theorem State.countRefusal_but (s : State) (r : Role) (st : Nat) (l : List Fld) (h_regs : Fld.regs ∈ l) : (State.countRefusal s r st).but l = s.but l := by
  unfold State.countRefusal
  (try dsimp only); (repeat' split) <;> first
    | with_reducible rfl
    | (simp [h_regs, ↓State.bump32_but, ↓State.setReg_but, ↓State.ite_but]; done)
    | (rename_i heq; have hk := congrArg (fun x => x.1.but l) heq; simp [h_regs, ↓State.bump32_but, ↓State.setReg_but, ↓State.ite_but] at hk; simp [hk, h_regs, ↓State.bump32_but, ↓State.setReg_but, ↓State.ite_but]; done)

@[simp] theorem State.deliverOne_but (s : State) (w : Wait) (st : Nat) (hw : Hw) (l : List Fld) (h_actions : Fld.actions ∈ l) (h_active : Fld.active ∈ l) (h_armed : Fld.armed ∈ l) (h_asms : Fld.asms ∈ l) (h_caps : Fld.caps ∈ l) (h_chans : Fld.chans ∈ l) (h_clusters : Fld.clusters ∈ l) (h_committed : Fld.committed ∈ l) (h_downs : Fld.downs ∈ l) (h_draws : Fld.draws ∈ l) (h_drives : Fld.drives ∈ l) (h_ens : Fld.ens ∈ l) (h_entries : Fld.entries ∈ l) (h_events : Fld.events ∈ l) (h_fabricFault : Fld.fabricFault ∈ l) (h_flash : Fld.flash ∈ l) (h_fwWaitAt : Fld.fwWaitAt ∈ l) (h_granules : Fld.granules ∈ l) (h_groups : Fld.groups ∈ l) (h_host : Fld.host ∈ l) (h_inbox : Fld.inbox ∈ l) (h_islandBad : Fld.islandBad ∈ l) (h_keys : Fld.keys ∈ l) (h_latches : Fld.latches ∈ l) (h_later : Fld.later ∈ l) (h_ledger : Fld.ledger ∈ l) (h_log : Fld.log ∈ l) (h_mgmtDown : Fld.mgmtDown ∈ l) (h_nv : Fld.nv ∈ l) (h_outFrames : Fld.outFrames ∈ l) (h_parts : Fld.parts ∈ l) (h_peerOut : Fld.peerOut ∈ l) (h_peerReq : Fld.peerReq ∈ l) (h_peerReqsAt : Fld.peerReqsAt ∈ l) (h_peerTries : Fld.peerTries ∈ l) (h_ports : Fld.ports ∈ l) (h_prior : Fld.prior ∈ l) (h_queueC : Fld.queueC ∈ l) (h_regs : Fld.regs ∈ l) (h_reply : Fld.reply ∈ l) (h_retained : Fld.retained ∈ l) (h_safeN : Fld.safeN ∈ l) (h_sec : Fld.sec ∈ l) (h_sectors : Fld.sectors ∈ l) (h_sessNext : Fld.sessNext ∈ l) (h_sessions : Fld.sessions ∈ l) (h_sets : Fld.sets ∈ l) (h_shadow : Fld.shadow ∈ l) (h_stalled : Fld.stalled ∈ l) (h_status : Fld.status ∈ l) (h_streams : Fld.streams ∈ l) (h_supply : Fld.supply ∈ l) (h_svc : Fld.svc ∈ l) (h_switchSt : Fld.switchSt ∈ l) (h_t1sSleep : Fld.t1sSleep ∈ l) (h_thermal : Fld.thermal ∈ l) (h_trestle : Fld.trestle ∈ l) (h_trims : Fld.trims ∈ l) (h_waitMaint : Fld.waitMaint ∈ l) (h_waits : Fld.waits ∈ l) : (State.deliverOne s w st hw).but l = s.but l := by
  unfold State.deliverOne
  extract_lets done
  split
  · rw [State.afterItems_but, State.giveCodes_but, State.countRefusal_but] <;> assumption
  · have k : (s.runItems { w with done := done } false hw w.rest).1.but l = s.but l := by apply State.runItems_but <;> assumption
    revert k
    generalize s.runItems { w with done := done } false hw w.rest = q
    obtain ⟨t, b⟩ := q
    intro k
    show (t.afterItems s w w.muted b).but l = s.but l
    rw [State.afterItems_but, k] <;> assumption

@[simp] theorem State.deliverLoop_but  (z0 : Nat) (z1 : Hw) (s : State) (l : List Fld) (h_actions : Fld.actions ∈ l) (h_active : Fld.active ∈ l) (h_armed : Fld.armed ∈ l) (h_asms : Fld.asms ∈ l) (h_caps : Fld.caps ∈ l) (h_chans : Fld.chans ∈ l) (h_clusters : Fld.clusters ∈ l) (h_committed : Fld.committed ∈ l) (h_downs : Fld.downs ∈ l) (h_draws : Fld.draws ∈ l) (h_drives : Fld.drives ∈ l) (h_ens : Fld.ens ∈ l) (h_entries : Fld.entries ∈ l) (h_events : Fld.events ∈ l) (h_fabricFault : Fld.fabricFault ∈ l) (h_flash : Fld.flash ∈ l) (h_fwWaitAt : Fld.fwWaitAt ∈ l) (h_granules : Fld.granules ∈ l) (h_groups : Fld.groups ∈ l) (h_host : Fld.host ∈ l) (h_inbox : Fld.inbox ∈ l) (h_islandBad : Fld.islandBad ∈ l) (h_keys : Fld.keys ∈ l) (h_latches : Fld.latches ∈ l) (h_later : Fld.later ∈ l) (h_ledger : Fld.ledger ∈ l) (h_log : Fld.log ∈ l) (h_mgmtDown : Fld.mgmtDown ∈ l) (h_nv : Fld.nv ∈ l) (h_outFrames : Fld.outFrames ∈ l) (h_parts : Fld.parts ∈ l) (h_peerOut : Fld.peerOut ∈ l) (h_peerReq : Fld.peerReq ∈ l) (h_peerReqsAt : Fld.peerReqsAt ∈ l) (h_peerTries : Fld.peerTries ∈ l) (h_ports : Fld.ports ∈ l) (h_prior : Fld.prior ∈ l) (h_queueC : Fld.queueC ∈ l) (h_regs : Fld.regs ∈ l) (h_reply : Fld.reply ∈ l) (h_retained : Fld.retained ∈ l) (h_safeN : Fld.safeN ∈ l) (h_sec : Fld.sec ∈ l) (h_sectors : Fld.sectors ∈ l) (h_sessNext : Fld.sessNext ∈ l) (h_sessions : Fld.sessions ∈ l) (h_sets : Fld.sets ∈ l) (h_shadow : Fld.shadow ∈ l) (h_stalled : Fld.stalled ∈ l) (h_status : Fld.status ∈ l) (h_streams : Fld.streams ∈ l) (h_supply : Fld.supply ∈ l) (h_svc : Fld.svc ∈ l) (h_switchSt : Fld.switchSt ∈ l) (h_t1sSleep : Fld.t1sSleep ∈ l) (h_thermal : Fld.thermal ∈ l) (h_trestle : Fld.trestle ∈ l) (h_trims : Fld.trims ∈ l) (h_waitMaint : Fld.waitMaint ∈ l) (h_waits : Fld.waits ∈ l) : (State.deliverLoop z0 z1 s).but l = s.but l := by
  induction z0 generalizing s with
  | zero => rfl
  | succ n ih =>
    unfold State.deliverLoop
    split
    · rfl
    · rw [ih, State.deliverOne_but, State.but_waits _ _ _ h_waits] <;> assumption

@[simp] theorem State.deliver_but (s : State) (hw : Hw) (l : List Fld) (h_actions : Fld.actions ∈ l) (h_active : Fld.active ∈ l) (h_armed : Fld.armed ∈ l) (h_asms : Fld.asms ∈ l) (h_caps : Fld.caps ∈ l) (h_chans : Fld.chans ∈ l) (h_clusters : Fld.clusters ∈ l) (h_committed : Fld.committed ∈ l) (h_downs : Fld.downs ∈ l) (h_draws : Fld.draws ∈ l) (h_drives : Fld.drives ∈ l) (h_ens : Fld.ens ∈ l) (h_entries : Fld.entries ∈ l) (h_events : Fld.events ∈ l) (h_fabricFault : Fld.fabricFault ∈ l) (h_flash : Fld.flash ∈ l) (h_fwWaitAt : Fld.fwWaitAt ∈ l) (h_granules : Fld.granules ∈ l) (h_groups : Fld.groups ∈ l) (h_host : Fld.host ∈ l) (h_inbox : Fld.inbox ∈ l) (h_islandBad : Fld.islandBad ∈ l) (h_keys : Fld.keys ∈ l) (h_latches : Fld.latches ∈ l) (h_later : Fld.later ∈ l) (h_ledger : Fld.ledger ∈ l) (h_log : Fld.log ∈ l) (h_mgmtDown : Fld.mgmtDown ∈ l) (h_nv : Fld.nv ∈ l) (h_outFrames : Fld.outFrames ∈ l) (h_parts : Fld.parts ∈ l) (h_peerOut : Fld.peerOut ∈ l) (h_peerReq : Fld.peerReq ∈ l) (h_peerReqsAt : Fld.peerReqsAt ∈ l) (h_peerTries : Fld.peerTries ∈ l) (h_ports : Fld.ports ∈ l) (h_prior : Fld.prior ∈ l) (h_queueC : Fld.queueC ∈ l) (h_regs : Fld.regs ∈ l) (h_reply : Fld.reply ∈ l) (h_retained : Fld.retained ∈ l) (h_safeN : Fld.safeN ∈ l) (h_sec : Fld.sec ∈ l) (h_sectors : Fld.sectors ∈ l) (h_sessNext : Fld.sessNext ∈ l) (h_sessions : Fld.sessions ∈ l) (h_sets : Fld.sets ∈ l) (h_shadow : Fld.shadow ∈ l) (h_stalled : Fld.stalled ∈ l) (h_status : Fld.status ∈ l) (h_streams : Fld.streams ∈ l) (h_supply : Fld.supply ∈ l) (h_svc : Fld.svc ∈ l) (h_switchSt : Fld.switchSt ∈ l) (h_t1sSleep : Fld.t1sSleep ∈ l) (h_thermal : Fld.thermal ∈ l) (h_trestle : Fld.trestle ∈ l) (h_trims : Fld.trims ∈ l) (h_waitMaint : Fld.waitMaint ∈ l) (h_waits : Fld.waits ∈ l) : (State.deliver s hw).but l = s.but l := by
  unfold State.deliver
  first
  | (simp [h_actions, h_active, h_armed, h_asms, h_caps, h_chans, h_clusters, h_committed, h_downs, h_draws, h_drives, h_ens, h_entries, h_events, h_fabricFault, h_flash, h_fwWaitAt, h_granules, h_groups, h_host, h_inbox, h_islandBad, h_keys, h_latches, h_later, h_ledger, h_log, h_mgmtDown, h_nv, h_outFrames, h_parts, h_peerOut, h_peerReq, h_peerReqsAt, h_peerTries, h_ports, h_prior, h_queueC, h_regs, h_reply, h_retained, h_safeN, h_sec, h_sectors, h_sessNext, h_sessions, h_sets, h_shadow, h_stalled, h_status, h_streams, h_supply, h_svc, h_switchSt, h_t1sSleep, h_thermal, h_trestle, h_trims, h_waitMaint, h_waits, ↓State.deliverLoop_but, ↓State.ite_but]; done)
  | ((try dsimp only); (repeat' split) <;> first
    | with_reducible rfl
    | (simp [h_actions, h_active, h_armed, h_asms, h_caps, h_chans, h_clusters, h_committed, h_downs, h_draws, h_drives, h_ens, h_entries, h_events, h_fabricFault, h_flash, h_fwWaitAt, h_granules, h_groups, h_host, h_inbox, h_islandBad, h_keys, h_latches, h_later, h_ledger, h_log, h_mgmtDown, h_nv, h_outFrames, h_parts, h_peerOut, h_peerReq, h_peerReqsAt, h_peerTries, h_ports, h_prior, h_queueC, h_regs, h_reply, h_retained, h_safeN, h_sec, h_sectors, h_sessNext, h_sessions, h_sets, h_shadow, h_stalled, h_status, h_streams, h_supply, h_svc, h_switchSt, h_t1sSleep, h_thermal, h_trestle, h_trims, h_waitMaint, h_waits, ↓State.deliverLoop_but, ↓State.ite_but]; done))

@[simp] theorem State.batchTurn_but (s : State) (l : List Fld) (h_actions : Fld.actions ∈ l) (h_active : Fld.active ∈ l) (h_armed : Fld.armed ∈ l) (h_asms : Fld.asms ∈ l) (h_caps : Fld.caps ∈ l) (h_chans : Fld.chans ∈ l) (h_clusters : Fld.clusters ∈ l) (h_committed : Fld.committed ∈ l) (h_downs : Fld.downs ∈ l) (h_draws : Fld.draws ∈ l) (h_drives : Fld.drives ∈ l) (h_ens : Fld.ens ∈ l) (h_entries : Fld.entries ∈ l) (h_events : Fld.events ∈ l) (h_fabricFault : Fld.fabricFault ∈ l) (h_flash : Fld.flash ∈ l) (h_fwWaitAt : Fld.fwWaitAt ∈ l) (h_granules : Fld.granules ∈ l) (h_groups : Fld.groups ∈ l) (h_host : Fld.host ∈ l) (h_inbox : Fld.inbox ∈ l) (h_islandBad : Fld.islandBad ∈ l) (h_keys : Fld.keys ∈ l) (h_latches : Fld.latches ∈ l) (h_later : Fld.later ∈ l) (h_ledger : Fld.ledger ∈ l) (h_log : Fld.log ∈ l) (h_mgmtDown : Fld.mgmtDown ∈ l) (h_nv : Fld.nv ∈ l) (h_outFrames : Fld.outFrames ∈ l) (h_parts : Fld.parts ∈ l) (h_peerOut : Fld.peerOut ∈ l) (h_peerReq : Fld.peerReq ∈ l) (h_peerReqsAt : Fld.peerReqsAt ∈ l) (h_peerTries : Fld.peerTries ∈ l) (h_ports : Fld.ports ∈ l) (h_prior : Fld.prior ∈ l) (h_queueC : Fld.queueC ∈ l) (h_regs : Fld.regs ∈ l) (h_reply : Fld.reply ∈ l) (h_retained : Fld.retained ∈ l) (h_safeN : Fld.safeN ∈ l) (h_sec : Fld.sec ∈ l) (h_sectors : Fld.sectors ∈ l) (h_sessNext : Fld.sessNext ∈ l) (h_sessions : Fld.sessions ∈ l) (h_sets : Fld.sets ∈ l) (h_shadow : Fld.shadow ∈ l) (h_stalled : Fld.stalled ∈ l) (h_status : Fld.status ∈ l) (h_streams : Fld.streams ∈ l) (h_supply : Fld.supply ∈ l) (h_svc : Fld.svc ∈ l) (h_switchSt : Fld.switchSt ∈ l) (h_t1sSleep : Fld.t1sSleep ∈ l) (h_thermal : Fld.thermal ∈ l) (h_trestle : Fld.trestle ∈ l) (h_trims : Fld.trims ∈ l) (h_waitMaint : Fld.waitMaint ∈ l) (h_waits : Fld.waits ∈ l) : (State.batchTurn s).but l = s.but l := by
  unfold State.batchTurn
  split
  · rfl
  · rename_i w _
    extract_lets w' u
    split
    · rw [State.but_waits _ _ _ h_waits]
    · have ku : u.but l = s.but l := State.but_waits _ _ _ h_waits
      clear_value u
      have k : (u.runItems w' false w.hw w.rest).1.but l = u.but l := by apply State.runItems_but <;> assumption
      revert k
      generalize u.runItems w' false w.hw w.rest = q
      obtain ⟨t, b⟩ := q
      intro k
      show ((t.afterItems u w' w.muted b).deliver w.hw).but l = s.but l
      rw [State.deliver_but, State.afterItems_but, k, ku] <;> assumption

@[simp] theorem State.arrive_but (s : State) (a : Arrival) (l : List Fld) (h_inbox : Fld.inbox ∈ l) (h_regs : Fld.regs ∈ l) (h_svc : Fld.svc ∈ l) : (State.arrive s a).but l = s.but l := by
  unfold State.arrive
  first
  | (simp [h_inbox, h_regs, h_svc, ↓State.submit_but, ↓State.svcIgnore_but, ↓State.but_inbox, ↓State.ite_but]; done)
  | ((try dsimp only); (repeat' split) <;> first
    | with_reducible rfl
    | (simp [h_inbox, h_regs, h_svc, ↓State.submit_but, ↓State.svcIgnore_but, ↓State.but_inbox, ↓State.ite_but]; done)
    | (rename_i heq; have hk := congrArg (fun x => x.1.but l) heq; simp [h_inbox, h_regs, h_svc, ↓State.submit_but, ↓State.svcIgnore_but, ↓State.but_inbox, ↓State.ite_but] at hk; simp [h_inbox, h_regs, h_svc, ↓State.submit_but, ↓State.svcIgnore_but, ↓State.but_inbox, ↓State.ite_but, hk]; done))

@[simp] theorem State.serveNext_but (s : State) (hw : Hw) (l : List Fld) (h_actions : Fld.actions ∈ l) (h_active : Fld.active ∈ l) (h_armed : Fld.armed ∈ l) (h_asms : Fld.asms ∈ l) (h_caps : Fld.caps ∈ l) (h_chans : Fld.chans ∈ l) (h_clusters : Fld.clusters ∈ l) (h_committed : Fld.committed ∈ l) (h_downs : Fld.downs ∈ l) (h_draws : Fld.draws ∈ l) (h_drives : Fld.drives ∈ l) (h_ens : Fld.ens ∈ l) (h_entries : Fld.entries ∈ l) (h_events : Fld.events ∈ l) (h_fabricFault : Fld.fabricFault ∈ l) (h_flash : Fld.flash ∈ l) (h_fwWaitAt : Fld.fwWaitAt ∈ l) (h_granules : Fld.granules ∈ l) (h_groups : Fld.groups ∈ l) (h_host : Fld.host ∈ l) (h_inbox : Fld.inbox ∈ l) (h_islandBad : Fld.islandBad ∈ l) (h_keys : Fld.keys ∈ l) (h_latches : Fld.latches ∈ l) (h_later : Fld.later ∈ l) (h_ledger : Fld.ledger ∈ l) (h_log : Fld.log ∈ l) (h_mgmtDown : Fld.mgmtDown ∈ l) (h_nv : Fld.nv ∈ l) (h_outFrames : Fld.outFrames ∈ l) (h_parts : Fld.parts ∈ l) (h_peerOut : Fld.peerOut ∈ l) (h_peerReq : Fld.peerReq ∈ l) (h_peerReqsAt : Fld.peerReqsAt ∈ l) (h_peerTries : Fld.peerTries ∈ l) (h_ports : Fld.ports ∈ l) (h_prior : Fld.prior ∈ l) (h_queueC : Fld.queueC ∈ l) (h_regs : Fld.regs ∈ l) (h_reply : Fld.reply ∈ l) (h_retained : Fld.retained ∈ l) (h_safeN : Fld.safeN ∈ l) (h_sec : Fld.sec ∈ l) (h_sectors : Fld.sectors ∈ l) (h_sessNext : Fld.sessNext ∈ l) (h_sessions : Fld.sessions ∈ l) (h_sets : Fld.sets ∈ l) (h_shadow : Fld.shadow ∈ l) (h_stalled : Fld.stalled ∈ l) (h_status : Fld.status ∈ l) (h_streams : Fld.streams ∈ l) (h_supply : Fld.supply ∈ l) (h_svc : Fld.svc ∈ l) (h_switchSt : Fld.switchSt ∈ l) (h_t1sSleep : Fld.t1sSleep ∈ l) (h_thermal : Fld.thermal ∈ l) (h_trestle : Fld.trestle ∈ l) (h_trims : Fld.trims ∈ l) (h_waitMaint : Fld.waitMaint ∈ l) (h_waits : Fld.waits ∈ l) : (State.serveNext s hw).but l = s.but l := by
  unfold State.serveNext
  first
  | (simp [h_actions, h_active, h_armed, h_asms, h_caps, h_chans, h_clusters, h_committed, h_downs, h_draws, h_drives, h_ens, h_entries, h_events, h_fabricFault, h_flash, h_fwWaitAt, h_granules, h_groups, h_host, h_inbox, h_islandBad, h_keys, h_latches, h_later, h_ledger, h_log, h_mgmtDown, h_nv, h_outFrames, h_parts, h_peerOut, h_peerReq, h_peerReqsAt, h_peerTries, h_ports, h_prior, h_queueC, h_regs, h_reply, h_retained, h_safeN, h_sec, h_sectors, h_sessNext, h_sessions, h_sets, h_shadow, h_stalled, h_status, h_streams, h_supply, h_svc, h_switchSt, h_t1sSleep, h_thermal, h_trestle, h_trims, h_waitMaint, h_waits, ↓State.runRequest_but, ↓State.but_inbox, ↓State.ite_but]; done)
  | ((try dsimp only); (repeat' split) <;> first
    | with_reducible rfl
    | (simp [h_actions, h_active, h_armed, h_asms, h_caps, h_chans, h_clusters, h_committed, h_downs, h_draws, h_drives, h_ens, h_entries, h_events, h_fabricFault, h_flash, h_fwWaitAt, h_granules, h_groups, h_host, h_inbox, h_islandBad, h_keys, h_latches, h_later, h_ledger, h_log, h_mgmtDown, h_nv, h_outFrames, h_parts, h_peerOut, h_peerReq, h_peerReqsAt, h_peerTries, h_ports, h_prior, h_queueC, h_regs, h_reply, h_retained, h_safeN, h_sec, h_sectors, h_sessNext, h_sessions, h_sets, h_shadow, h_stalled, h_status, h_streams, h_supply, h_svc, h_switchSt, h_t1sSleep, h_thermal, h_trestle, h_trims, h_waitMaint, h_waits, ↓State.runRequest_but, ↓State.but_inbox, ↓State.ite_but]; done)
    | (rename_i heq; have hk := congrArg (fun x => x.1.but l) heq; simp [h_actions, h_active, h_armed, h_asms, h_caps, h_chans, h_clusters, h_committed, h_downs, h_draws, h_drives, h_ens, h_entries, h_events, h_fabricFault, h_flash, h_fwWaitAt, h_granules, h_groups, h_host, h_inbox, h_islandBad, h_keys, h_latches, h_later, h_ledger, h_log, h_mgmtDown, h_nv, h_outFrames, h_parts, h_peerOut, h_peerReq, h_peerReqsAt, h_peerTries, h_ports, h_prior, h_queueC, h_regs, h_reply, h_retained, h_safeN, h_sec, h_sectors, h_sessNext, h_sessions, h_sets, h_shadow, h_stalled, h_status, h_streams, h_supply, h_svc, h_switchSt, h_t1sSleep, h_thermal, h_trestle, h_trims, h_waitMaint, h_waits, ↓State.runRequest_but, ↓State.but_inbox, ↓State.ite_but] at hk; simp [h_actions, h_active, h_armed, h_asms, h_caps, h_chans, h_clusters, h_committed, h_downs, h_draws, h_drives, h_ens, h_entries, h_events, h_fabricFault, h_flash, h_fwWaitAt, h_granules, h_groups, h_host, h_inbox, h_islandBad, h_keys, h_latches, h_later, h_ledger, h_log, h_mgmtDown, h_nv, h_outFrames, h_parts, h_peerOut, h_peerReq, h_peerReqsAt, h_peerTries, h_ports, h_prior, h_queueC, h_regs, h_reply, h_retained, h_safeN, h_sec, h_sectors, h_sessNext, h_sessions, h_sets, h_shadow, h_stalled, h_status, h_streams, h_supply, h_svc, h_switchSt, h_t1sSleep, h_thermal, h_trestle, h_trims, h_waitMaint, h_waits, ↓State.runRequest_but, ↓State.but_inbox, ↓State.ite_but, hk]; done))

theorem execDapRequest_but (a : Option Arrival) (hw : Hw) (s : State) (l : List Fld) (h_actions : Fld.actions ∈ l) (h_active : Fld.active ∈ l) (h_armed : Fld.armed ∈ l) (h_asms : Fld.asms ∈ l) (h_caps : Fld.caps ∈ l) (h_chans : Fld.chans ∈ l) (h_clusters : Fld.clusters ∈ l) (h_committed : Fld.committed ∈ l) (h_downs : Fld.downs ∈ l) (h_draws : Fld.draws ∈ l) (h_drives : Fld.drives ∈ l) (h_ens : Fld.ens ∈ l) (h_entries : Fld.entries ∈ l) (h_events : Fld.events ∈ l) (h_fabricFault : Fld.fabricFault ∈ l) (h_flash : Fld.flash ∈ l) (h_fwWaitAt : Fld.fwWaitAt ∈ l) (h_granules : Fld.granules ∈ l) (h_groups : Fld.groups ∈ l) (h_host : Fld.host ∈ l) (h_inbox : Fld.inbox ∈ l) (h_islandBad : Fld.islandBad ∈ l) (h_keys : Fld.keys ∈ l) (h_latches : Fld.latches ∈ l) (h_later : Fld.later ∈ l) (h_ledger : Fld.ledger ∈ l) (h_log : Fld.log ∈ l) (h_mgmtDown : Fld.mgmtDown ∈ l) (h_nv : Fld.nv ∈ l) (h_outFrames : Fld.outFrames ∈ l) (h_parts : Fld.parts ∈ l) (h_peerOut : Fld.peerOut ∈ l) (h_peerReq : Fld.peerReq ∈ l) (h_peerReqsAt : Fld.peerReqsAt ∈ l) (h_peerTries : Fld.peerTries ∈ l) (h_ports : Fld.ports ∈ l) (h_prior : Fld.prior ∈ l) (h_queueC : Fld.queueC ∈ l) (h_regs : Fld.regs ∈ l) (h_reply : Fld.reply ∈ l) (h_retained : Fld.retained ∈ l) (h_safeN : Fld.safeN ∈ l) (h_sec : Fld.sec ∈ l) (h_sectors : Fld.sectors ∈ l) (h_sessNext : Fld.sessNext ∈ l) (h_sessions : Fld.sessions ∈ l) (h_sets : Fld.sets ∈ l) (h_shadow : Fld.shadow ∈ l) (h_stalled : Fld.stalled ∈ l) (h_status : Fld.status ∈ l) (h_streams : Fld.streams ∈ l) (h_supply : Fld.supply ∈ l) (h_svc : Fld.svc ∈ l) (h_switchSt : Fld.switchSt ∈ l) (h_t1sSleep : Fld.t1sSleep ∈ l) (h_thermal : Fld.thermal ∈ l) (h_trestle : Fld.trestle ∈ l) (h_trims : Fld.trims ∈ l) (h_waitMaint : Fld.waitMaint ∈ l) (h_waits : Fld.waits ∈ l) :
    ∀ t, execDapRequest a hw s = .next t → t.but l = s.but l := by
  intro t ht
  unfold execDapRequest at ht
  (try simp only [ok] at ht); (repeat' split at ht) <;> (replace ht := Host.Outcome.next.inj ht; subst ht; first
    | with_reducible rfl
    | (simp [h_actions, h_active, h_armed, h_asms, h_caps, h_chans, h_clusters, h_committed, h_downs, h_draws, h_drives, h_ens, h_entries, h_events, h_fabricFault, h_flash, h_fwWaitAt, h_granules, h_groups, h_host, h_inbox, h_islandBad, h_keys, h_latches, h_later, h_ledger, h_log, h_mgmtDown, h_nv, h_outFrames, h_parts, h_peerOut, h_peerReq, h_peerReqsAt, h_peerTries, h_ports, h_prior, h_queueC, h_regs, h_reply, h_retained, h_safeN, h_sec, h_sectors, h_sessNext, h_sessions, h_sets, h_shadow, h_stalled, h_status, h_streams, h_supply, h_svc, h_switchSt, h_t1sSleep, h_thermal, h_trestle, h_trims, h_waitMaint, h_waits, ↓State.arrive_but, ↓State.deliver_but, ↓State.serveNext_but, ↓State.swapIfDue_but, ↓State.ite_but]; done)
    | (rename_i heq; have hk := congrArg (fun x => x.1.but l) heq; simp [h_actions, h_active, h_armed, h_asms, h_caps, h_chans, h_clusters, h_committed, h_downs, h_draws, h_drives, h_ens, h_entries, h_events, h_fabricFault, h_flash, h_fwWaitAt, h_granules, h_groups, h_host, h_inbox, h_islandBad, h_keys, h_latches, h_later, h_ledger, h_log, h_mgmtDown, h_nv, h_outFrames, h_parts, h_peerOut, h_peerReq, h_peerReqsAt, h_peerTries, h_ports, h_prior, h_queueC, h_regs, h_reply, h_retained, h_safeN, h_sec, h_sectors, h_sessNext, h_sessions, h_sets, h_shadow, h_stalled, h_status, h_streams, h_supply, h_svc, h_switchSt, h_t1sSleep, h_thermal, h_trestle, h_trims, h_waitMaint, h_waits, ↓State.arrive_but, ↓State.deliver_but, ↓State.serveNext_but, ↓State.swapIfDue_but, ↓State.ite_but] at hk; simp [h_actions, h_active, h_armed, h_asms, h_caps, h_chans, h_clusters, h_committed, h_downs, h_draws, h_drives, h_ens, h_entries, h_events, h_fabricFault, h_flash, h_fwWaitAt, h_granules, h_groups, h_host, h_inbox, h_islandBad, h_keys, h_latches, h_later, h_ledger, h_log, h_mgmtDown, h_nv, h_outFrames, h_parts, h_peerOut, h_peerReq, h_peerReqsAt, h_peerTries, h_ports, h_prior, h_queueC, h_regs, h_reply, h_retained, h_safeN, h_sec, h_sectors, h_sessNext, h_sessions, h_sets, h_shadow, h_stalled, h_status, h_streams, h_supply, h_svc, h_switchSt, h_t1sSleep, h_thermal, h_trestle, h_trims, h_waitMaint, h_waits, ↓State.arrive_but, ↓State.deliver_but, ↓State.serveNext_but, ↓State.swapIfDue_but, ↓State.ite_but, hk]; done))

theorem execRegisterWrite_but (r : Role) (idx : BitVec 16) (sub : Byte) (val : Bytes) (s : State) (l : List Fld) (h_actions : Fld.actions ∈ l) (h_active : Fld.active ∈ l) (h_armed : Fld.armed ∈ l) (h_asms : Fld.asms ∈ l) (h_caps : Fld.caps ∈ l) (h_chans : Fld.chans ∈ l) (h_clusters : Fld.clusters ∈ l) (h_committed : Fld.committed ∈ l) (h_downs : Fld.downs ∈ l) (h_draws : Fld.draws ∈ l) (h_drives : Fld.drives ∈ l) (h_ens : Fld.ens ∈ l) (h_entries : Fld.entries ∈ l) (h_events : Fld.events ∈ l) (h_fabricFault : Fld.fabricFault ∈ l) (h_flash : Fld.flash ∈ l) (h_fwWaitAt : Fld.fwWaitAt ∈ l) (h_granules : Fld.granules ∈ l) (h_groups : Fld.groups ∈ l) (h_host : Fld.host ∈ l) (h_inbox : Fld.inbox ∈ l) (h_islandBad : Fld.islandBad ∈ l) (h_keys : Fld.keys ∈ l) (h_latches : Fld.latches ∈ l) (h_later : Fld.later ∈ l) (h_ledger : Fld.ledger ∈ l) (h_log : Fld.log ∈ l) (h_mgmtDown : Fld.mgmtDown ∈ l) (h_nv : Fld.nv ∈ l) (h_outFrames : Fld.outFrames ∈ l) (h_parts : Fld.parts ∈ l) (h_peerOut : Fld.peerOut ∈ l) (h_peerReq : Fld.peerReq ∈ l) (h_peerReqsAt : Fld.peerReqsAt ∈ l) (h_peerTries : Fld.peerTries ∈ l) (h_ports : Fld.ports ∈ l) (h_prior : Fld.prior ∈ l) (h_queueC : Fld.queueC ∈ l) (h_regs : Fld.regs ∈ l) (h_reply : Fld.reply ∈ l) (h_retained : Fld.retained ∈ l) (h_safeN : Fld.safeN ∈ l) (h_sec : Fld.sec ∈ l) (h_sectors : Fld.sectors ∈ l) (h_sessNext : Fld.sessNext ∈ l) (h_sessions : Fld.sessions ∈ l) (h_sets : Fld.sets ∈ l) (h_shadow : Fld.shadow ∈ l) (h_stalled : Fld.stalled ∈ l) (h_status : Fld.status ∈ l) (h_streams : Fld.streams ∈ l) (h_supply : Fld.supply ∈ l) (h_svc : Fld.svc ∈ l) (h_switchSt : Fld.switchSt ∈ l) (h_t1sSleep : Fld.t1sSleep ∈ l) (h_thermal : Fld.thermal ∈ l) (h_trestle : Fld.trestle ∈ l) (h_trims : Fld.trims ∈ l) (h_waitMaint : Fld.waitMaint ∈ l) (h_waits : Fld.waits ∈ l) :
    ∀ t, execRegisterWrite r idx sub val s = .next t → t.but l = s.but l := by
  intro t ht
  unfold execRegisterWrite at ht
  (try simp only [ok] at ht); (repeat' split at ht) <;> (replace ht := Host.Outcome.next.inj ht; subst ht; first
    | with_reducible rfl
    | (simp [h_actions, h_active, h_armed, h_asms, h_caps, h_chans, h_clusters, h_committed, h_downs, h_draws, h_drives, h_ens, h_entries, h_events, h_fabricFault, h_flash, h_fwWaitAt, h_granules, h_groups, h_host, h_inbox, h_islandBad, h_keys, h_latches, h_later, h_ledger, h_log, h_mgmtDown, h_nv, h_outFrames, h_parts, h_peerOut, h_peerReq, h_peerReqsAt, h_peerTries, h_ports, h_prior, h_queueC, h_regs, h_reply, h_retained, h_safeN, h_sec, h_sectors, h_sessNext, h_sessions, h_sets, h_shadow, h_stalled, h_status, h_streams, h_supply, h_svc, h_switchSt, h_t1sSleep, h_thermal, h_trestle, h_trims, h_waitMaint, h_waits, ↓State.answer_but, ↓State.countItem_but, ↓State.deliver_but, ↓State.oneItem_but, ↓State.swapIfDue_but, ↓State.ite_but]; done))

@[simp] theorem State.peerRun_but (s : State) (idx sub : Nat) (l : List Fld) (h_actions : Fld.actions ∈ l) (h_active : Fld.active ∈ l) (h_armed : Fld.armed ∈ l) (h_asms : Fld.asms ∈ l) (h_caps : Fld.caps ∈ l) (h_chans : Fld.chans ∈ l) (h_clusters : Fld.clusters ∈ l) (h_committed : Fld.committed ∈ l) (h_downs : Fld.downs ∈ l) (h_draws : Fld.draws ∈ l) (h_drives : Fld.drives ∈ l) (h_ens : Fld.ens ∈ l) (h_entries : Fld.entries ∈ l) (h_events : Fld.events ∈ l) (h_fabricFault : Fld.fabricFault ∈ l) (h_flash : Fld.flash ∈ l) (h_fwWaitAt : Fld.fwWaitAt ∈ l) (h_granules : Fld.granules ∈ l) (h_groups : Fld.groups ∈ l) (h_host : Fld.host ∈ l) (h_inbox : Fld.inbox ∈ l) (h_islandBad : Fld.islandBad ∈ l) (h_keys : Fld.keys ∈ l) (h_latches : Fld.latches ∈ l) (h_later : Fld.later ∈ l) (h_ledger : Fld.ledger ∈ l) (h_log : Fld.log ∈ l) (h_mgmtDown : Fld.mgmtDown ∈ l) (h_nv : Fld.nv ∈ l) (h_parts : Fld.parts ∈ l) (h_peerOut : Fld.peerOut ∈ l) (h_peerReq : Fld.peerReq ∈ l) (h_peerReqsAt : Fld.peerReqsAt ∈ l) (h_peerTries : Fld.peerTries ∈ l) (h_ports : Fld.ports ∈ l) (h_prior : Fld.prior ∈ l) (h_queueC : Fld.queueC ∈ l) (h_regs : Fld.regs ∈ l) (h_reply : Fld.reply ∈ l) (h_retained : Fld.retained ∈ l) (h_safeN : Fld.safeN ∈ l) (h_sec : Fld.sec ∈ l) (h_sectors : Fld.sectors ∈ l) (h_sessNext : Fld.sessNext ∈ l) (h_sessions : Fld.sessions ∈ l) (h_sets : Fld.sets ∈ l) (h_shadow : Fld.shadow ∈ l) (h_stalled : Fld.stalled ∈ l) (h_status : Fld.status ∈ l) (h_streams : Fld.streams ∈ l) (h_supply : Fld.supply ∈ l) (h_svc : Fld.svc ∈ l) (h_switchSt : Fld.switchSt ∈ l) (h_t1sSleep : Fld.t1sSleep ∈ l) (h_thermal : Fld.thermal ∈ l) (h_trestle : Fld.trestle ∈ l) (h_trims : Fld.trims ∈ l) (h_waitMaint : Fld.waitMaint ∈ l) (h_waits : Fld.waits ∈ l) : (State.peerRun s idx sub).but l = s.but l := by
  unfold State.peerRun
  first
  | (simp [h_actions, h_active, h_armed, h_asms, h_caps, h_chans, h_clusters, h_committed, h_downs, h_draws, h_drives, h_ens, h_entries, h_events, h_fabricFault, h_flash, h_fwWaitAt, h_granules, h_groups, h_host, h_inbox, h_islandBad, h_keys, h_latches, h_later, h_ledger, h_log, h_mgmtDown, h_nv, h_parts, h_peerOut, h_peerReq, h_peerReqsAt, h_peerTries, h_ports, h_prior, h_queueC, h_regs, h_reply, h_retained, h_safeN, h_sec, h_sectors, h_sessNext, h_sessions, h_sets, h_shadow, h_stalled, h_status, h_streams, h_supply, h_svc, h_switchSt, h_t1sSleep, h_thermal, h_trestle, h_trims, h_waitMaint, h_waits, ↓State.oneItem_but, ↓State.but_peerReq, ↓State.ite_but]; done)
  | ((try dsimp only); (repeat' split) <;> first
    | with_reducible rfl
    | (simp [h_actions, h_active, h_armed, h_asms, h_caps, h_chans, h_clusters, h_committed, h_downs, h_draws, h_drives, h_ens, h_entries, h_events, h_fabricFault, h_flash, h_fwWaitAt, h_granules, h_groups, h_host, h_inbox, h_islandBad, h_keys, h_latches, h_later, h_ledger, h_log, h_mgmtDown, h_nv, h_parts, h_peerOut, h_peerReq, h_peerReqsAt, h_peerTries, h_ports, h_prior, h_queueC, h_regs, h_reply, h_retained, h_safeN, h_sec, h_sectors, h_sessNext, h_sessions, h_sets, h_shadow, h_stalled, h_status, h_streams, h_supply, h_svc, h_switchSt, h_t1sSleep, h_thermal, h_trestle, h_trims, h_waitMaint, h_waits, ↓State.oneItem_but, ↓State.but_peerReq, ↓State.ite_but]; done))

@[simp] theorem State.peerTurn_but (s : State) (l : List Fld) (h_actions : Fld.actions ∈ l) (h_active : Fld.active ∈ l) (h_armed : Fld.armed ∈ l) (h_asms : Fld.asms ∈ l) (h_caps : Fld.caps ∈ l) (h_chans : Fld.chans ∈ l) (h_clusters : Fld.clusters ∈ l) (h_committed : Fld.committed ∈ l) (h_downs : Fld.downs ∈ l) (h_draws : Fld.draws ∈ l) (h_drives : Fld.drives ∈ l) (h_ens : Fld.ens ∈ l) (h_entries : Fld.entries ∈ l) (h_events : Fld.events ∈ l) (h_fabricFault : Fld.fabricFault ∈ l) (h_flash : Fld.flash ∈ l) (h_fwWaitAt : Fld.fwWaitAt ∈ l) (h_granules : Fld.granules ∈ l) (h_groups : Fld.groups ∈ l) (h_host : Fld.host ∈ l) (h_inbox : Fld.inbox ∈ l) (h_islandBad : Fld.islandBad ∈ l) (h_keys : Fld.keys ∈ l) (h_latches : Fld.latches ∈ l) (h_later : Fld.later ∈ l) (h_ledger : Fld.ledger ∈ l) (h_log : Fld.log ∈ l) (h_mgmtDown : Fld.mgmtDown ∈ l) (h_nv : Fld.nv ∈ l) (h_parts : Fld.parts ∈ l) (h_peerOut : Fld.peerOut ∈ l) (h_peerReq : Fld.peerReq ∈ l) (h_peerReqsAt : Fld.peerReqsAt ∈ l) (h_peerTries : Fld.peerTries ∈ l) (h_ports : Fld.ports ∈ l) (h_prior : Fld.prior ∈ l) (h_queueC : Fld.queueC ∈ l) (h_regs : Fld.regs ∈ l) (h_reply : Fld.reply ∈ l) (h_retained : Fld.retained ∈ l) (h_safeN : Fld.safeN ∈ l) (h_sec : Fld.sec ∈ l) (h_sectors : Fld.sectors ∈ l) (h_sessNext : Fld.sessNext ∈ l) (h_sessions : Fld.sessions ∈ l) (h_sets : Fld.sets ∈ l) (h_shadow : Fld.shadow ∈ l) (h_stalled : Fld.stalled ∈ l) (h_status : Fld.status ∈ l) (h_streams : Fld.streams ∈ l) (h_supply : Fld.supply ∈ l) (h_svc : Fld.svc ∈ l) (h_switchSt : Fld.switchSt ∈ l) (h_t1sSleep : Fld.t1sSleep ∈ l) (h_thermal : Fld.thermal ∈ l) (h_trestle : Fld.trestle ∈ l) (h_trims : Fld.trims ∈ l) (h_waitMaint : Fld.waitMaint ∈ l) (h_waits : Fld.waits ∈ l) : (State.peerTurn s).but l = s.but l := by
  unfold State.peerTurn
  first
  | (simp [h_actions, h_active, h_armed, h_asms, h_caps, h_chans, h_clusters, h_committed, h_downs, h_draws, h_drives, h_ens, h_entries, h_events, h_fabricFault, h_flash, h_fwWaitAt, h_granules, h_groups, h_host, h_inbox, h_islandBad, h_keys, h_latches, h_later, h_ledger, h_log, h_mgmtDown, h_nv, h_parts, h_peerOut, h_peerReq, h_peerReqsAt, h_peerTries, h_ports, h_prior, h_queueC, h_regs, h_reply, h_retained, h_safeN, h_sec, h_sectors, h_sessNext, h_sessions, h_sets, h_shadow, h_stalled, h_status, h_streams, h_supply, h_svc, h_switchSt, h_t1sSleep, h_thermal, h_trestle, h_trims, h_waitMaint, h_waits, ↓State.peerRun_but, ↓State.swapIfDue_but, ↓State.ite_but]; done)
  | ((try dsimp only); (repeat' split) <;> first
    | with_reducible rfl
    | (simp [h_actions, h_active, h_armed, h_asms, h_caps, h_chans, h_clusters, h_committed, h_downs, h_draws, h_drives, h_ens, h_entries, h_events, h_fabricFault, h_flash, h_fwWaitAt, h_granules, h_groups, h_host, h_inbox, h_islandBad, h_keys, h_latches, h_later, h_ledger, h_log, h_mgmtDown, h_nv, h_parts, h_peerOut, h_peerReq, h_peerReqsAt, h_peerTries, h_ports, h_prior, h_queueC, h_regs, h_reply, h_retained, h_safeN, h_sec, h_sectors, h_sessNext, h_sessions, h_sets, h_shadow, h_stalled, h_status, h_streams, h_supply, h_svc, h_switchSt, h_t1sSleep, h_thermal, h_trestle, h_trims, h_waitMaint, h_waits, ↓State.peerRun_but, ↓State.swapIfDue_but, ↓State.ite_but]; done)
    | (rename_i heq; have hk := congrArg (fun x => x.1.but l) heq; simp [h_actions, h_active, h_armed, h_asms, h_caps, h_chans, h_clusters, h_committed, h_downs, h_draws, h_drives, h_ens, h_entries, h_events, h_fabricFault, h_flash, h_fwWaitAt, h_granules, h_groups, h_host, h_inbox, h_islandBad, h_keys, h_latches, h_later, h_ledger, h_log, h_mgmtDown, h_nv, h_parts, h_peerOut, h_peerReq, h_peerReqsAt, h_peerTries, h_ports, h_prior, h_queueC, h_regs, h_reply, h_retained, h_safeN, h_sec, h_sectors, h_sessNext, h_sessions, h_sets, h_shadow, h_stalled, h_status, h_streams, h_supply, h_svc, h_switchSt, h_t1sSleep, h_thermal, h_trestle, h_trims, h_waitMaint, h_waits, ↓State.peerRun_but, ↓State.swapIfDue_but, ↓State.ite_but] at hk; simp [h_actions, h_active, h_armed, h_asms, h_caps, h_chans, h_clusters, h_committed, h_downs, h_draws, h_drives, h_ens, h_entries, h_events, h_fabricFault, h_flash, h_fwWaitAt, h_granules, h_groups, h_host, h_inbox, h_islandBad, h_keys, h_latches, h_later, h_ledger, h_log, h_mgmtDown, h_nv, h_parts, h_peerOut, h_peerReq, h_peerReqsAt, h_peerTries, h_ports, h_prior, h_queueC, h_regs, h_reply, h_retained, h_safeN, h_sec, h_sectors, h_sessNext, h_sessions, h_sets, h_shadow, h_stalled, h_status, h_streams, h_supply, h_svc, h_switchSt, h_t1sSleep, h_thermal, h_trestle, h_trims, h_waitMaint, h_waits, ↓State.peerRun_but, ↓State.swapIfDue_but, ↓State.ite_but, hk]; done))

theorem execPeerReadRequest_but (bytes : Bytes) (s : State) (l : List Fld) (h_peerReq : Fld.peerReq ∈ l) (h_peerReqsAt : Fld.peerReqsAt ∈ l) (h_regs : Fld.regs ∈ l) :
    ∀ t, execPeerReadRequest bytes s = .next t → t.but l = s.but l := by
  intro t ht
  unfold execPeerReadRequest at ht
  (try simp only [ok] at ht); (repeat' split at ht) <;> (replace ht := Host.Outcome.next.inj ht; subst ht; first
    | with_reducible rfl
    | (simp [h_peerReq, h_peerReqsAt, h_regs, ↓State.bump32_but, ↓State.peerError_but, State.but, ↓State.but_peerReq, ↓State.but_peerReqsAt, ↓State.ite_but]; done)
    | (rename_i heq; have hk := congrArg (fun x => x.1.but l) heq; simp [h_peerReq, h_peerReqsAt, h_regs, ↓State.bump32_but, ↓State.peerError_but, State.but, ↓State.but_peerReq, ↓State.but_peerReqsAt, ↓State.ite_but] at hk; simp [h_peerReq, h_peerReqsAt, h_regs, ↓State.bump32_but, ↓State.peerError_but, State.but, ↓State.but_peerReq, ↓State.but_peerReqsAt, ↓State.ite_but, hk]; done))

theorem execPeerReadResult_but (s : State) (l : List Fld) (h_reply : Fld.reply ∈ l) (h_status : Fld.status ∈ l) :
    ∀ t, execPeerReadResult s = .next t → t.but l = s.but l := by
  intro t ht
  unfold execPeerReadResult at ht
  (try simp only [ok] at ht); (repeat' split at ht) <;> (replace ht := Host.Outcome.next.inj ht; subst ht; first
    | with_reducible rfl
    | (simp [h_reply, h_status, ↓State.give_but, ↓State.ite_but]; done)
    | (rename_i heq; have hk := congrArg (fun x => x.1.but l) heq; simp [h_reply, h_status, ↓State.give_but, ↓State.ite_but] at hk; simp [hk, h_reply, h_status, ↓State.give_but, ↓State.ite_but]; done))

end Sys2Proof.Machine
end

