-- ==== Sys2Proof/Laws/Keep/CommitCmds.lean ====
section
/-! SUPPORT. The frames of the operations of Machine/CommitCmds.lean: the parts of the state that each of them can change. -/
set_option linter.all false

namespace Sys2Proof.Machine

theorem execCommit_but (r : Role) (fabricOk : Bool) (s : State) (l : List Fld) (h_actions : Fld.actions ∈ l) (h_active : Fld.active ∈ l) (h_armed : Fld.armed ∈ l) (h_asms : Fld.asms ∈ l) (h_caps : Fld.caps ∈ l) (h_chans : Fld.chans ∈ l) (h_clusters : Fld.clusters ∈ l) (h_committed : Fld.committed ∈ l) (h_downs : Fld.downs ∈ l) (h_draws : Fld.draws ∈ l) (h_drives : Fld.drives ∈ l) (h_ens : Fld.ens ∈ l) (h_entries : Fld.entries ∈ l) (h_events : Fld.events ∈ l) (h_fabricFault : Fld.fabricFault ∈ l) (h_flash : Fld.flash ∈ l) (h_fwWaitAt : Fld.fwWaitAt ∈ l) (h_granules : Fld.granules ∈ l) (h_groups : Fld.groups ∈ l) (h_host : Fld.host ∈ l) (h_inbox : Fld.inbox ∈ l) (h_islandBad : Fld.islandBad ∈ l) (h_keys : Fld.keys ∈ l) (h_latches : Fld.latches ∈ l) (h_later : Fld.later ∈ l) (h_ledger : Fld.ledger ∈ l) (h_log : Fld.log ∈ l) (h_mgmtDown : Fld.mgmtDown ∈ l) (h_nv : Fld.nv ∈ l) (h_outFrames : Fld.outFrames ∈ l) (h_parts : Fld.parts ∈ l) (h_peerOut : Fld.peerOut ∈ l) (h_peerReq : Fld.peerReq ∈ l) (h_peerReqsAt : Fld.peerReqsAt ∈ l) (h_peerTries : Fld.peerTries ∈ l) (h_ports : Fld.ports ∈ l) (h_prior : Fld.prior ∈ l) (h_queueC : Fld.queueC ∈ l) (h_regs : Fld.regs ∈ l) (h_reply : Fld.reply ∈ l) (h_retained : Fld.retained ∈ l) (h_safeN : Fld.safeN ∈ l) (h_sec : Fld.sec ∈ l) (h_sectors : Fld.sectors ∈ l) (h_sessNext : Fld.sessNext ∈ l) (h_sessions : Fld.sessions ∈ l) (h_sets : Fld.sets ∈ l) (h_shadow : Fld.shadow ∈ l) (h_stalled : Fld.stalled ∈ l) (h_status : Fld.status ∈ l) (h_streams : Fld.streams ∈ l) (h_supply : Fld.supply ∈ l) (h_svc : Fld.svc ∈ l) (h_switchSt : Fld.switchSt ∈ l) (h_t1sSleep : Fld.t1sSleep ∈ l) (h_thermal : Fld.thermal ∈ l) (h_trestle : Fld.trestle ∈ l) (h_trims : Fld.trims ∈ l) (h_waitMaint : Fld.waitMaint ∈ l) (h_waits : Fld.waits ∈ l) :
    ∀ t, execCommit r fabricOk s = .next t → t.but l = s.but l := by
  intro t ht
  unfold execCommit at ht
  (try simp only [ok] at ht); (repeat' split at ht) <;> (replace ht := Host.Outcome.next.inj ht; subst ht; first
    | with_reducible rfl
    | (simp [h_actions, h_active, h_armed, h_asms, h_caps, h_chans, h_clusters, h_committed, h_downs, h_draws, h_drives, h_ens, h_entries, h_events, h_fabricFault, h_flash, h_fwWaitAt, h_granules, h_groups, h_host, h_inbox, h_islandBad, h_keys, h_latches, h_later, h_ledger, h_log, h_mgmtDown, h_nv, h_outFrames, h_parts, h_peerOut, h_peerReq, h_peerReqsAt, h_peerTries, h_ports, h_prior, h_queueC, h_regs, h_reply, h_retained, h_safeN, h_sec, h_sectors, h_sessNext, h_sessions, h_sets, h_shadow, h_stalled, h_status, h_streams, h_supply, h_svc, h_switchSt, h_t1sSleep, h_thermal, h_trestle, h_trims, h_waitMaint, h_waits, ↓State.commitItem_but, ↓State.deliver_but, ↓State.ite_but]; done))

theorem execCommitDiscard_but (r : Role) (s : State) (l : List Fld) (h_armed : Fld.armed ∈ l) (h_events : Fld.events ∈ l) (h_fabricFault : Fld.fabricFault ∈ l) (h_queueC : Fld.queueC ∈ l) (h_regs : Fld.regs ∈ l) (h_reply : Fld.reply ∈ l) (h_safeN : Fld.safeN ∈ l) (h_sets : Fld.sets ∈ l) (h_shadow : Fld.shadow ∈ l) (h_status : Fld.status ∈ l) (h_switchSt : Fld.switchSt ∈ l) (h_waits : Fld.waits ∈ l) :
    ∀ t, execCommitDiscard r s = .next t → t.but l = s.but l := by
  intro t ht
  unfold execCommitDiscard at ht
  (try simp only [ok] at ht); (repeat' split at ht) <;> (replace ht := Host.Outcome.next.inj ht; subst ht; first
    | with_reducible rfl
    | (simp [h_armed, h_events, h_fabricFault, h_queueC, h_regs, h_reply, h_safeN, h_sets, h_shadow, h_status, h_switchSt, h_waits, ↓State.commitItem_but, ↓State.ite_but]; done))

theorem execPartitionCommit_but (r : Role) (p : Fin 16) (fabricOk : Bool) (s : State) (l : List Fld) (h_actions : Fld.actions ∈ l) (h_active : Fld.active ∈ l) (h_armed : Fld.armed ∈ l) (h_asms : Fld.asms ∈ l) (h_caps : Fld.caps ∈ l) (h_chans : Fld.chans ∈ l) (h_clusters : Fld.clusters ∈ l) (h_committed : Fld.committed ∈ l) (h_downs : Fld.downs ∈ l) (h_draws : Fld.draws ∈ l) (h_drives : Fld.drives ∈ l) (h_ens : Fld.ens ∈ l) (h_entries : Fld.entries ∈ l) (h_events : Fld.events ∈ l) (h_fabricFault : Fld.fabricFault ∈ l) (h_flash : Fld.flash ∈ l) (h_fwWaitAt : Fld.fwWaitAt ∈ l) (h_granules : Fld.granules ∈ l) (h_groups : Fld.groups ∈ l) (h_host : Fld.host ∈ l) (h_inbox : Fld.inbox ∈ l) (h_islandBad : Fld.islandBad ∈ l) (h_keys : Fld.keys ∈ l) (h_latches : Fld.latches ∈ l) (h_later : Fld.later ∈ l) (h_ledger : Fld.ledger ∈ l) (h_log : Fld.log ∈ l) (h_mgmtDown : Fld.mgmtDown ∈ l) (h_nv : Fld.nv ∈ l) (h_outFrames : Fld.outFrames ∈ l) (h_parts : Fld.parts ∈ l) (h_peerOut : Fld.peerOut ∈ l) (h_peerReq : Fld.peerReq ∈ l) (h_peerReqsAt : Fld.peerReqsAt ∈ l) (h_peerTries : Fld.peerTries ∈ l) (h_ports : Fld.ports ∈ l) (h_prior : Fld.prior ∈ l) (h_queueC : Fld.queueC ∈ l) (h_regs : Fld.regs ∈ l) (h_reply : Fld.reply ∈ l) (h_retained : Fld.retained ∈ l) (h_safeN : Fld.safeN ∈ l) (h_sec : Fld.sec ∈ l) (h_sectors : Fld.sectors ∈ l) (h_sessNext : Fld.sessNext ∈ l) (h_sessions : Fld.sessions ∈ l) (h_sets : Fld.sets ∈ l) (h_shadow : Fld.shadow ∈ l) (h_stalled : Fld.stalled ∈ l) (h_status : Fld.status ∈ l) (h_streams : Fld.streams ∈ l) (h_supply : Fld.supply ∈ l) (h_svc : Fld.svc ∈ l) (h_switchSt : Fld.switchSt ∈ l) (h_t1sSleep : Fld.t1sSleep ∈ l) (h_thermal : Fld.thermal ∈ l) (h_trestle : Fld.trestle ∈ l) (h_trims : Fld.trims ∈ l) (h_waitMaint : Fld.waitMaint ∈ l) (h_waits : Fld.waits ∈ l) :
    ∀ t, execPartitionCommit r p fabricOk s = .next t → t.but l = s.but l := by
  intro t ht
  unfold execPartitionCommit at ht
  (try simp only [ok] at ht); (repeat' split at ht) <;> (replace ht := Host.Outcome.next.inj ht; subst ht; first
    | with_reducible rfl
    | (simp [h_actions, h_active, h_armed, h_asms, h_caps, h_chans, h_clusters, h_committed, h_downs, h_draws, h_drives, h_ens, h_entries, h_events, h_fabricFault, h_flash, h_fwWaitAt, h_granules, h_groups, h_host, h_inbox, h_islandBad, h_keys, h_latches, h_later, h_ledger, h_log, h_mgmtDown, h_nv, h_outFrames, h_parts, h_peerOut, h_peerReq, h_peerReqsAt, h_peerTries, h_ports, h_prior, h_queueC, h_regs, h_reply, h_retained, h_safeN, h_sec, h_sectors, h_sessNext, h_sessions, h_sets, h_shadow, h_stalled, h_status, h_streams, h_supply, h_svc, h_switchSt, h_t1sSleep, h_thermal, h_trestle, h_trims, h_waitMaint, h_waits, ↓State.commitItem_but, ↓State.deliver_but, ↓State.ite_but]; done))

theorem execPartitionCommitDiscard_but (r : Role) (p : Fin 16) (s : State) (l : List Fld) (h_armed : Fld.armed ∈ l) (h_events : Fld.events ∈ l) (h_fabricFault : Fld.fabricFault ∈ l) (h_queueC : Fld.queueC ∈ l) (h_regs : Fld.regs ∈ l) (h_reply : Fld.reply ∈ l) (h_safeN : Fld.safeN ∈ l) (h_sets : Fld.sets ∈ l) (h_shadow : Fld.shadow ∈ l) (h_status : Fld.status ∈ l) (h_switchSt : Fld.switchSt ∈ l) (h_waits : Fld.waits ∈ l) :
    ∀ t, execPartitionCommitDiscard r p s = .next t → t.but l = s.but l := by
  intro t ht
  unfold execPartitionCommitDiscard at ht
  (try simp only [ok] at ht); (repeat' split at ht) <;> (replace ht := Host.Outcome.next.inj ht; subst ht; first
    | with_reducible rfl
    | (simp [h_armed, h_events, h_fabricFault, h_queueC, h_regs, h_reply, h_safeN, h_sets, h_shadow, h_status, h_switchSt, h_waits, ↓State.commitItem_but, ↓State.ite_but]; done))

theorem execCommitQueueStart_but (fabricOk : Bool) (s : State) (l : List Fld) (h_actions : Fld.actions ∈ l) (h_active : Fld.active ∈ l) (h_armed : Fld.armed ∈ l) (h_asms : Fld.asms ∈ l) (h_caps : Fld.caps ∈ l) (h_chans : Fld.chans ∈ l) (h_clusters : Fld.clusters ∈ l) (h_committed : Fld.committed ∈ l) (h_downs : Fld.downs ∈ l) (h_draws : Fld.draws ∈ l) (h_drives : Fld.drives ∈ l) (h_ens : Fld.ens ∈ l) (h_entries : Fld.entries ∈ l) (h_events : Fld.events ∈ l) (h_fabricFault : Fld.fabricFault ∈ l) (h_flash : Fld.flash ∈ l) (h_fwWaitAt : Fld.fwWaitAt ∈ l) (h_granules : Fld.granules ∈ l) (h_groups : Fld.groups ∈ l) (h_host : Fld.host ∈ l) (h_inbox : Fld.inbox ∈ l) (h_islandBad : Fld.islandBad ∈ l) (h_keys : Fld.keys ∈ l) (h_latches : Fld.latches ∈ l) (h_later : Fld.later ∈ l) (h_ledger : Fld.ledger ∈ l) (h_log : Fld.log ∈ l) (h_mgmtDown : Fld.mgmtDown ∈ l) (h_nv : Fld.nv ∈ l) (h_outFrames : Fld.outFrames ∈ l) (h_parts : Fld.parts ∈ l) (h_peerOut : Fld.peerOut ∈ l) (h_peerReq : Fld.peerReq ∈ l) (h_peerReqsAt : Fld.peerReqsAt ∈ l) (h_peerTries : Fld.peerTries ∈ l) (h_ports : Fld.ports ∈ l) (h_prior : Fld.prior ∈ l) (h_queueC : Fld.queueC ∈ l) (h_regs : Fld.regs ∈ l) (h_reply : Fld.reply ∈ l) (h_retained : Fld.retained ∈ l) (h_safeN : Fld.safeN ∈ l) (h_sec : Fld.sec ∈ l) (h_sectors : Fld.sectors ∈ l) (h_sessNext : Fld.sessNext ∈ l) (h_sessions : Fld.sessions ∈ l) (h_sets : Fld.sets ∈ l) (h_shadow : Fld.shadow ∈ l) (h_stalled : Fld.stalled ∈ l) (h_status : Fld.status ∈ l) (h_streams : Fld.streams ∈ l) (h_supply : Fld.supply ∈ l) (h_svc : Fld.svc ∈ l) (h_switchSt : Fld.switchSt ∈ l) (h_t1sSleep : Fld.t1sSleep ∈ l) (h_thermal : Fld.thermal ∈ l) (h_trestle : Fld.trestle ∈ l) (h_trims : Fld.trims ∈ l) (h_waitMaint : Fld.waitMaint ∈ l) (h_waits : Fld.waits ∈ l) :
    ∀ t, execCommitQueueStart fabricOk s = .next t → t.but l = s.but l := by
  intro t ht
  unfold execCommitQueueStart at ht
  (try simp only [ok] at ht); (repeat' split at ht) <;> (replace ht := Host.Outcome.next.inj ht; subst ht; first
    | with_reducible rfl
    | (simp [h_actions, h_active, h_armed, h_asms, h_caps, h_chans, h_clusters, h_committed, h_downs, h_draws, h_drives, h_ens, h_entries, h_events, h_fabricFault, h_flash, h_fwWaitAt, h_granules, h_groups, h_host, h_inbox, h_islandBad, h_keys, h_latches, h_later, h_ledger, h_log, h_mgmtDown, h_nv, h_outFrames, h_parts, h_peerOut, h_peerReq, h_peerReqsAt, h_peerTries, h_ports, h_prior, h_queueC, h_regs, h_reply, h_retained, h_safeN, h_sec, h_sectors, h_sessNext, h_sessions, h_sets, h_shadow, h_stalled, h_status, h_streams, h_supply, h_svc, h_switchSt, h_t1sSleep, h_thermal, h_trestle, h_trims, h_waitMaint, h_waits, ↓State.deliver_but, ↓State.queueStart_but, ↓State.ite_but]; done))

theorem execSwap_but (s : State) (l : List Fld) (h_actions : Fld.actions ∈ l) (h_active : Fld.active ∈ l) (h_armed : Fld.armed ∈ l) (h_asms : Fld.asms ∈ l) (h_caps : Fld.caps ∈ l) (h_chans : Fld.chans ∈ l) (h_clusters : Fld.clusters ∈ l) (h_committed : Fld.committed ∈ l) (h_downs : Fld.downs ∈ l) (h_draws : Fld.draws ∈ l) (h_drives : Fld.drives ∈ l) (h_ens : Fld.ens ∈ l) (h_entries : Fld.entries ∈ l) (h_events : Fld.events ∈ l) (h_fabricFault : Fld.fabricFault ∈ l) (h_flash : Fld.flash ∈ l) (h_fwWaitAt : Fld.fwWaitAt ∈ l) (h_granules : Fld.granules ∈ l) (h_groups : Fld.groups ∈ l) (h_host : Fld.host ∈ l) (h_inbox : Fld.inbox ∈ l) (h_islandBad : Fld.islandBad ∈ l) (h_keys : Fld.keys ∈ l) (h_latches : Fld.latches ∈ l) (h_later : Fld.later ∈ l) (h_ledger : Fld.ledger ∈ l) (h_log : Fld.log ∈ l) (h_mgmtDown : Fld.mgmtDown ∈ l) (h_nv : Fld.nv ∈ l) (h_outFrames : Fld.outFrames ∈ l) (h_parts : Fld.parts ∈ l) (h_peerOut : Fld.peerOut ∈ l) (h_peerReq : Fld.peerReq ∈ l) (h_peerReqsAt : Fld.peerReqsAt ∈ l) (h_peerTries : Fld.peerTries ∈ l) (h_ports : Fld.ports ∈ l) (h_prior : Fld.prior ∈ l) (h_queueC : Fld.queueC ∈ l) (h_regs : Fld.regs ∈ l) (h_reply : Fld.reply ∈ l) (h_retained : Fld.retained ∈ l) (h_safeN : Fld.safeN ∈ l) (h_sec : Fld.sec ∈ l) (h_sectors : Fld.sectors ∈ l) (h_sessNext : Fld.sessNext ∈ l) (h_sessions : Fld.sessions ∈ l) (h_sets : Fld.sets ∈ l) (h_shadow : Fld.shadow ∈ l) (h_stalled : Fld.stalled ∈ l) (h_status : Fld.status ∈ l) (h_streams : Fld.streams ∈ l) (h_supply : Fld.supply ∈ l) (h_svc : Fld.svc ∈ l) (h_switchSt : Fld.switchSt ∈ l) (h_t1sSleep : Fld.t1sSleep ∈ l) (h_thermal : Fld.thermal ∈ l) (h_trestle : Fld.trestle ∈ l) (h_trims : Fld.trims ∈ l) (h_waitMaint : Fld.waitMaint ∈ l) (h_waits : Fld.waits ∈ l) :
    ∀ t, execSwap s = .next t → t.but l = s.but l := by
  intro t ht
  unfold execSwap at ht
  (try simp only [ok] at ht); (repeat' split at ht) <;> (replace ht := Host.Outcome.next.inj ht; subst ht; first
    | with_reducible rfl
    | (simp [h_actions, h_active, h_armed, h_asms, h_caps, h_chans, h_clusters, h_committed, h_downs, h_draws, h_drives, h_ens, h_entries, h_events, h_fabricFault, h_flash, h_fwWaitAt, h_granules, h_groups, h_host, h_inbox, h_islandBad, h_keys, h_latches, h_later, h_ledger, h_log, h_mgmtDown, h_nv, h_outFrames, h_parts, h_peerOut, h_peerReq, h_peerReqsAt, h_peerTries, h_ports, h_prior, h_queueC, h_regs, h_reply, h_retained, h_safeN, h_sec, h_sectors, h_sessNext, h_sessions, h_sets, h_shadow, h_stalled, h_status, h_streams, h_supply, h_svc, h_switchSt, h_t1sSleep, h_thermal, h_trestle, h_trims, h_waitMaint, h_waits, ↓State.deliver_but, ↓State.swap_but, ↓State.ite_but]; done)
    | (rename_i heq; have hk := congrArg (fun x => x.1.but l) heq; simp [h_actions, h_active, h_armed, h_asms, h_caps, h_chans, h_clusters, h_committed, h_downs, h_draws, h_drives, h_ens, h_entries, h_events, h_fabricFault, h_flash, h_fwWaitAt, h_granules, h_groups, h_host, h_inbox, h_islandBad, h_keys, h_latches, h_later, h_ledger, h_log, h_mgmtDown, h_nv, h_outFrames, h_parts, h_peerOut, h_peerReq, h_peerReqsAt, h_peerTries, h_ports, h_prior, h_queueC, h_regs, h_reply, h_retained, h_safeN, h_sec, h_sectors, h_sessNext, h_sessions, h_sets, h_shadow, h_stalled, h_status, h_streams, h_supply, h_svc, h_switchSt, h_t1sSleep, h_thermal, h_trestle, h_trims, h_waitMaint, h_waits, ↓State.deliver_but, ↓State.swap_but, ↓State.ite_but] at hk; simp [hk, h_actions, h_active, h_armed, h_asms, h_caps, h_chans, h_clusters, h_committed, h_downs, h_draws, h_drives, h_ens, h_entries, h_events, h_fabricFault, h_flash, h_fwWaitAt, h_granules, h_groups, h_host, h_inbox, h_islandBad, h_keys, h_latches, h_later, h_ledger, h_log, h_mgmtDown, h_nv, h_outFrames, h_parts, h_peerOut, h_peerReq, h_peerReqsAt, h_peerTries, h_ports, h_prior, h_queueC, h_regs, h_reply, h_retained, h_safeN, h_sec, h_sectors, h_sessNext, h_sessions, h_sets, h_shadow, h_stalled, h_status, h_streams, h_supply, h_svc, h_switchSt, h_t1sSleep, h_thermal, h_trestle, h_trims, h_waitMaint, h_waits, ↓State.deliver_but, ↓State.swap_but, ↓State.ite_but]; done))

theorem execCommitAbandon_but (_part : Participant) (hw : Hw) (s : State) (l : List Fld) (h_actions : Fld.actions ∈ l) (h_active : Fld.active ∈ l) (h_armed : Fld.armed ∈ l) (h_asms : Fld.asms ∈ l) (h_caps : Fld.caps ∈ l) (h_chans : Fld.chans ∈ l) (h_clusters : Fld.clusters ∈ l) (h_committed : Fld.committed ∈ l) (h_downs : Fld.downs ∈ l) (h_draws : Fld.draws ∈ l) (h_drives : Fld.drives ∈ l) (h_ens : Fld.ens ∈ l) (h_entries : Fld.entries ∈ l) (h_events : Fld.events ∈ l) (h_fabricFault : Fld.fabricFault ∈ l) (h_flash : Fld.flash ∈ l) (h_fwWaitAt : Fld.fwWaitAt ∈ l) (h_granules : Fld.granules ∈ l) (h_groups : Fld.groups ∈ l) (h_host : Fld.host ∈ l) (h_inbox : Fld.inbox ∈ l) (h_islandBad : Fld.islandBad ∈ l) (h_keys : Fld.keys ∈ l) (h_latches : Fld.latches ∈ l) (h_later : Fld.later ∈ l) (h_ledger : Fld.ledger ∈ l) (h_log : Fld.log ∈ l) (h_mgmtDown : Fld.mgmtDown ∈ l) (h_nv : Fld.nv ∈ l) (h_outFrames : Fld.outFrames ∈ l) (h_parts : Fld.parts ∈ l) (h_peerOut : Fld.peerOut ∈ l) (h_peerReq : Fld.peerReq ∈ l) (h_peerReqsAt : Fld.peerReqsAt ∈ l) (h_peerTries : Fld.peerTries ∈ l) (h_ports : Fld.ports ∈ l) (h_prior : Fld.prior ∈ l) (h_queueC : Fld.queueC ∈ l) (h_regs : Fld.regs ∈ l) (h_reply : Fld.reply ∈ l) (h_retained : Fld.retained ∈ l) (h_safeN : Fld.safeN ∈ l) (h_sec : Fld.sec ∈ l) (h_sectors : Fld.sectors ∈ l) (h_sessNext : Fld.sessNext ∈ l) (h_sessions : Fld.sessions ∈ l) (h_sets : Fld.sets ∈ l) (h_shadow : Fld.shadow ∈ l) (h_stalled : Fld.stalled ∈ l) (h_status : Fld.status ∈ l) (h_streams : Fld.streams ∈ l) (h_supply : Fld.supply ∈ l) (h_svc : Fld.svc ∈ l) (h_switchSt : Fld.switchSt ∈ l) (h_t1sSleep : Fld.t1sSleep ∈ l) (h_thermal : Fld.thermal ∈ l) (h_trestle : Fld.trestle ∈ l) (h_trims : Fld.trims ∈ l) (h_waitMaint : Fld.waitMaint ∈ l) (h_waits : Fld.waits ∈ l) :
    ∀ t, execCommitAbandon _part hw s = .next t → t.but l = s.but l := by
  intro t ht
  unfold execCommitAbandon at ht
  (try simp only [ok] at ht); (repeat' split at ht) <;> (replace ht := Host.Outcome.next.inj ht; subst ht; first
    | with_reducible rfl
    | (simp [h_actions, h_active, h_armed, h_asms, h_caps, h_chans, h_clusters, h_committed, h_downs, h_draws, h_drives, h_ens, h_entries, h_events, h_fabricFault, h_flash, h_fwWaitAt, h_granules, h_groups, h_host, h_inbox, h_islandBad, h_keys, h_latches, h_later, h_ledger, h_log, h_mgmtDown, h_nv, h_outFrames, h_parts, h_peerOut, h_peerReq, h_peerReqsAt, h_peerTries, h_ports, h_prior, h_queueC, h_regs, h_reply, h_retained, h_safeN, h_sec, h_sectors, h_sessNext, h_sessions, h_sets, h_shadow, h_stalled, h_status, h_streams, h_supply, h_svc, h_switchSt, h_t1sSleep, h_thermal, h_trestle, h_trims, h_waitMaint, h_waits, ↓State.commitEnds_but, ↓State.deliver_but, ↓State.powerUpAbandoned_but, ↓State.but_armed, ↓State.ite_but]; done)
    | (rename_i heq; have hk := congrArg (fun x => x.1.but l) heq; simp [h_actions, h_active, h_armed, h_asms, h_caps, h_chans, h_clusters, h_committed, h_downs, h_draws, h_drives, h_ens, h_entries, h_events, h_fabricFault, h_flash, h_fwWaitAt, h_granules, h_groups, h_host, h_inbox, h_islandBad, h_keys, h_latches, h_later, h_ledger, h_log, h_mgmtDown, h_nv, h_outFrames, h_parts, h_peerOut, h_peerReq, h_peerReqsAt, h_peerTries, h_ports, h_prior, h_queueC, h_regs, h_reply, h_retained, h_safeN, h_sec, h_sectors, h_sessNext, h_sessions, h_sets, h_shadow, h_stalled, h_status, h_streams, h_supply, h_svc, h_switchSt, h_t1sSleep, h_thermal, h_trestle, h_trims, h_waitMaint, h_waits, ↓State.commitEnds_but, ↓State.deliver_but, ↓State.powerUpAbandoned_but, ↓State.but_armed, ↓State.ite_but] at hk; simp [hk, h_actions, h_active, h_armed, h_asms, h_caps, h_chans, h_clusters, h_committed, h_downs, h_draws, h_drives, h_ens, h_entries, h_events, h_fabricFault, h_flash, h_fwWaitAt, h_granules, h_groups, h_host, h_inbox, h_islandBad, h_keys, h_latches, h_later, h_ledger, h_log, h_mgmtDown, h_nv, h_outFrames, h_parts, h_peerOut, h_peerReq, h_peerReqsAt, h_peerTries, h_ports, h_prior, h_queueC, h_regs, h_reply, h_retained, h_safeN, h_sec, h_sectors, h_sessNext, h_sessions, h_sets, h_shadow, h_stalled, h_status, h_streams, h_supply, h_svc, h_switchSt, h_t1sSleep, h_thermal, h_trestle, h_trims, h_waitMaint, h_waits, ↓State.commitEnds_but, ↓State.deliver_but, ↓State.powerUpAbandoned_but, ↓State.but_armed, ↓State.ite_but]; done))

theorem execSwitch_but (r : Role) (v : Byte) (hw : Hw) (s : State) (l : List Fld) (h_actions : Fld.actions ∈ l) (h_active : Fld.active ∈ l) (h_armed : Fld.armed ∈ l) (h_asms : Fld.asms ∈ l) (h_caps : Fld.caps ∈ l) (h_chans : Fld.chans ∈ l) (h_clusters : Fld.clusters ∈ l) (h_committed : Fld.committed ∈ l) (h_downs : Fld.downs ∈ l) (h_draws : Fld.draws ∈ l) (h_drives : Fld.drives ∈ l) (h_ens : Fld.ens ∈ l) (h_entries : Fld.entries ∈ l) (h_events : Fld.events ∈ l) (h_fabricFault : Fld.fabricFault ∈ l) (h_flash : Fld.flash ∈ l) (h_fwWaitAt : Fld.fwWaitAt ∈ l) (h_granules : Fld.granules ∈ l) (h_groups : Fld.groups ∈ l) (h_host : Fld.host ∈ l) (h_inbox : Fld.inbox ∈ l) (h_islandBad : Fld.islandBad ∈ l) (h_keys : Fld.keys ∈ l) (h_latches : Fld.latches ∈ l) (h_later : Fld.later ∈ l) (h_ledger : Fld.ledger ∈ l) (h_log : Fld.log ∈ l) (h_mgmtDown : Fld.mgmtDown ∈ l) (h_nv : Fld.nv ∈ l) (h_outFrames : Fld.outFrames ∈ l) (h_parts : Fld.parts ∈ l) (h_peerOut : Fld.peerOut ∈ l) (h_peerReq : Fld.peerReq ∈ l) (h_peerReqsAt : Fld.peerReqsAt ∈ l) (h_peerTries : Fld.peerTries ∈ l) (h_ports : Fld.ports ∈ l) (h_prior : Fld.prior ∈ l) (h_queueC : Fld.queueC ∈ l) (h_regs : Fld.regs ∈ l) (h_reply : Fld.reply ∈ l) (h_retained : Fld.retained ∈ l) (h_safeN : Fld.safeN ∈ l) (h_sec : Fld.sec ∈ l) (h_sectors : Fld.sectors ∈ l) (h_sessNext : Fld.sessNext ∈ l) (h_sessions : Fld.sessions ∈ l) (h_sets : Fld.sets ∈ l) (h_shadow : Fld.shadow ∈ l) (h_stalled : Fld.stalled ∈ l) (h_status : Fld.status ∈ l) (h_streams : Fld.streams ∈ l) (h_supply : Fld.supply ∈ l) (h_svc : Fld.svc ∈ l) (h_switchSt : Fld.switchSt ∈ l) (h_t1sSleep : Fld.t1sSleep ∈ l) (h_thermal : Fld.thermal ∈ l) (h_trestle : Fld.trestle ∈ l) (h_trims : Fld.trims ∈ l) (h_waitMaint : Fld.waitMaint ∈ l) (h_waits : Fld.waits ∈ l) :
    ∀ t, execSwitch r v hw s = .next t → t.but l = s.but l := by
  intro t ht
  unfold execSwitch at ht
  (try simp only [ok] at ht); (repeat' split at ht) <;> (replace ht := Host.Outcome.next.inj ht; subst ht; first
    | with_reducible rfl
    | (simp [h_actions, h_active, h_armed, h_asms, h_caps, h_chans, h_clusters, h_committed, h_downs, h_draws, h_drives, h_ens, h_entries, h_events, h_fabricFault, h_flash, h_fwWaitAt, h_granules, h_groups, h_host, h_inbox, h_islandBad, h_keys, h_latches, h_later, h_ledger, h_log, h_mgmtDown, h_nv, h_outFrames, h_parts, h_peerOut, h_peerReq, h_peerReqsAt, h_peerTries, h_ports, h_prior, h_queueC, h_regs, h_reply, h_retained, h_safeN, h_sec, h_sectors, h_sessNext, h_sessions, h_sets, h_shadow, h_stalled, h_status, h_streams, h_supply, h_svc, h_switchSt, h_t1sSleep, h_thermal, h_trestle, h_trims, h_waitMaint, h_waits, ↓State.deliver_but, ↓State.switchItem_but, ↓State.ite_but]; done))

@[simp] theorem State.pinSwitch_but (s : State) (v : Nat) (hw : Hw) (l : List Fld) (h_actions : Fld.actions ∈ l) (h_active : Fld.active ∈ l) (h_armed : Fld.armed ∈ l) (h_asms : Fld.asms ∈ l) (h_caps : Fld.caps ∈ l) (h_chans : Fld.chans ∈ l) (h_clusters : Fld.clusters ∈ l) (h_committed : Fld.committed ∈ l) (h_downs : Fld.downs ∈ l) (h_draws : Fld.draws ∈ l) (h_drives : Fld.drives ∈ l) (h_ens : Fld.ens ∈ l) (h_entries : Fld.entries ∈ l) (h_events : Fld.events ∈ l) (h_fabricFault : Fld.fabricFault ∈ l) (h_flash : Fld.flash ∈ l) (h_fwWaitAt : Fld.fwWaitAt ∈ l) (h_granules : Fld.granules ∈ l) (h_groups : Fld.groups ∈ l) (h_host : Fld.host ∈ l) (h_inbox : Fld.inbox ∈ l) (h_islandBad : Fld.islandBad ∈ l) (h_keys : Fld.keys ∈ l) (h_latches : Fld.latches ∈ l) (h_later : Fld.later ∈ l) (h_ledger : Fld.ledger ∈ l) (h_log : Fld.log ∈ l) (h_mgmtDown : Fld.mgmtDown ∈ l) (h_nv : Fld.nv ∈ l) (h_outFrames : Fld.outFrames ∈ l) (h_parts : Fld.parts ∈ l) (h_peerOut : Fld.peerOut ∈ l) (h_peerReq : Fld.peerReq ∈ l) (h_peerReqsAt : Fld.peerReqsAt ∈ l) (h_peerTries : Fld.peerTries ∈ l) (h_ports : Fld.ports ∈ l) (h_prior : Fld.prior ∈ l) (h_queueC : Fld.queueC ∈ l) (h_regs : Fld.regs ∈ l) (h_reply : Fld.reply ∈ l) (h_retained : Fld.retained ∈ l) (h_safeN : Fld.safeN ∈ l) (h_sec : Fld.sec ∈ l) (h_sectors : Fld.sectors ∈ l) (h_sessNext : Fld.sessNext ∈ l) (h_sessions : Fld.sessions ∈ l) (h_sets : Fld.sets ∈ l) (h_shadow : Fld.shadow ∈ l) (h_stalled : Fld.stalled ∈ l) (h_status : Fld.status ∈ l) (h_streams : Fld.streams ∈ l) (h_supply : Fld.supply ∈ l) (h_svc : Fld.svc ∈ l) (h_switchSt : Fld.switchSt ∈ l) (h_t1sSleep : Fld.t1sSleep ∈ l) (h_thermal : Fld.thermal ∈ l) (h_trestle : Fld.trestle ∈ l) (h_trims : Fld.trims ∈ l) (h_waitMaint : Fld.waitMaint ∈ l) (h_waits : Fld.waits ∈ l) : (State.pinSwitch s v hw).but l = s.but l := by
  unfold State.pinSwitch
  first
  | (simp [h_actions, h_active, h_armed, h_asms, h_caps, h_chans, h_clusters, h_committed, h_downs, h_draws, h_drives, h_ens, h_entries, h_events, h_fabricFault, h_flash, h_fwWaitAt, h_granules, h_groups, h_host, h_inbox, h_islandBad, h_keys, h_latches, h_later, h_ledger, h_log, h_mgmtDown, h_nv, h_outFrames, h_parts, h_peerOut, h_peerReq, h_peerReqsAt, h_peerTries, h_ports, h_prior, h_queueC, h_regs, h_reply, h_retained, h_safeN, h_sec, h_sectors, h_sessNext, h_sessions, h_sets, h_shadow, h_stalled, h_status, h_streams, h_supply, h_svc, h_switchSt, h_t1sSleep, h_thermal, h_trestle, h_trims, h_waitMaint, h_waits, ↓State.deliver_but, ↓State.setReg_but, ↓State.switchRequest_but, ↓State.but_status, ↓State.but_supply, ↓State.ite_but]; done)
  | ((try dsimp only); (repeat' split) <;> first
    | with_reducible rfl
    | (simp [h_actions, h_active, h_armed, h_asms, h_caps, h_chans, h_clusters, h_committed, h_downs, h_draws, h_drives, h_ens, h_entries, h_events, h_fabricFault, h_flash, h_fwWaitAt, h_granules, h_groups, h_host, h_inbox, h_islandBad, h_keys, h_latches, h_later, h_ledger, h_log, h_mgmtDown, h_nv, h_outFrames, h_parts, h_peerOut, h_peerReq, h_peerReqsAt, h_peerTries, h_ports, h_prior, h_queueC, h_regs, h_reply, h_retained, h_safeN, h_sec, h_sectors, h_sessNext, h_sessions, h_sets, h_shadow, h_stalled, h_status, h_streams, h_supply, h_svc, h_switchSt, h_t1sSleep, h_thermal, h_trestle, h_trims, h_waitMaint, h_waits, ↓State.deliver_but, ↓State.setReg_but, ↓State.switchRequest_but, ↓State.but_status, ↓State.but_supply, ↓State.ite_but]; done))

@[simp] theorem State.pinsJudged_but (s : State) (hw : Hw) (l : List Fld) (h_actions : Fld.actions ∈ l) (h_active : Fld.active ∈ l) (h_armed : Fld.armed ∈ l) (h_asms : Fld.asms ∈ l) (h_caps : Fld.caps ∈ l) (h_chans : Fld.chans ∈ l) (h_clusters : Fld.clusters ∈ l) (h_committed : Fld.committed ∈ l) (h_downs : Fld.downs ∈ l) (h_draws : Fld.draws ∈ l) (h_drives : Fld.drives ∈ l) (h_ens : Fld.ens ∈ l) (h_entries : Fld.entries ∈ l) (h_events : Fld.events ∈ l) (h_fabricFault : Fld.fabricFault ∈ l) (h_flash : Fld.flash ∈ l) (h_fwWaitAt : Fld.fwWaitAt ∈ l) (h_granules : Fld.granules ∈ l) (h_groups : Fld.groups ∈ l) (h_host : Fld.host ∈ l) (h_inbox : Fld.inbox ∈ l) (h_islandBad : Fld.islandBad ∈ l) (h_keys : Fld.keys ∈ l) (h_latches : Fld.latches ∈ l) (h_later : Fld.later ∈ l) (h_ledger : Fld.ledger ∈ l) (h_log : Fld.log ∈ l) (h_mgmtDown : Fld.mgmtDown ∈ l) (h_nv : Fld.nv ∈ l) (h_outFrames : Fld.outFrames ∈ l) (h_parts : Fld.parts ∈ l) (h_peerOut : Fld.peerOut ∈ l) (h_peerReq : Fld.peerReq ∈ l) (h_peerReqsAt : Fld.peerReqsAt ∈ l) (h_peerTries : Fld.peerTries ∈ l) (h_ports : Fld.ports ∈ l) (h_prior : Fld.prior ∈ l) (h_queueC : Fld.queueC ∈ l) (h_regs : Fld.regs ∈ l) (h_reply : Fld.reply ∈ l) (h_retained : Fld.retained ∈ l) (h_safeN : Fld.safeN ∈ l) (h_sec : Fld.sec ∈ l) (h_sectors : Fld.sectors ∈ l) (h_sessNext : Fld.sessNext ∈ l) (h_sessions : Fld.sessions ∈ l) (h_sets : Fld.sets ∈ l) (h_shadow : Fld.shadow ∈ l) (h_stalled : Fld.stalled ∈ l) (h_status : Fld.status ∈ l) (h_streams : Fld.streams ∈ l) (h_supply : Fld.supply ∈ l) (h_svc : Fld.svc ∈ l) (h_switchSt : Fld.switchSt ∈ l) (h_t1sSleep : Fld.t1sSleep ∈ l) (h_thermal : Fld.thermal ∈ l) (h_trestle : Fld.trestle ∈ l) (h_trims : Fld.trims ∈ l) (h_waitMaint : Fld.waitMaint ∈ l) (h_waits : Fld.waits ∈ l) : (State.pinsJudged s hw).but l = s.but l := by
  unfold State.pinsJudged
  first
  | (simp [h_actions, h_active, h_armed, h_asms, h_caps, h_chans, h_clusters, h_committed, h_downs, h_draws, h_drives, h_ens, h_entries, h_events, h_fabricFault, h_flash, h_fwWaitAt, h_granules, h_groups, h_host, h_inbox, h_islandBad, h_keys, h_latches, h_later, h_ledger, h_log, h_mgmtDown, h_nv, h_outFrames, h_parts, h_peerOut, h_peerReq, h_peerReqsAt, h_peerTries, h_ports, h_prior, h_queueC, h_regs, h_reply, h_retained, h_safeN, h_sec, h_sectors, h_sessNext, h_sessions, h_sets, h_shadow, h_stalled, h_status, h_streams, h_supply, h_svc, h_switchSt, h_t1sSleep, h_thermal, h_trestle, h_trims, h_waitMaint, h_waits, ↓State.pinSwitch_but, ↓State.setReg_but, ↓State.but_supply, ↓State.ite_but]; done)
  | ((try dsimp only); (repeat' split) <;> first
    | with_reducible rfl
    | (simp [h_actions, h_active, h_armed, h_asms, h_caps, h_chans, h_clusters, h_committed, h_downs, h_draws, h_drives, h_ens, h_entries, h_events, h_fabricFault, h_flash, h_fwWaitAt, h_granules, h_groups, h_host, h_inbox, h_islandBad, h_keys, h_latches, h_later, h_ledger, h_log, h_mgmtDown, h_nv, h_outFrames, h_parts, h_peerOut, h_peerReq, h_peerReqsAt, h_peerTries, h_ports, h_prior, h_queueC, h_regs, h_reply, h_retained, h_safeN, h_sec, h_sectors, h_sessNext, h_sessions, h_sets, h_shadow, h_stalled, h_status, h_streams, h_supply, h_svc, h_switchSt, h_t1sSleep, h_thermal, h_trestle, h_trims, h_waitMaint, h_waits, ↓State.pinSwitch_but, ↓State.setReg_but, ↓State.but_supply, ↓State.ite_but]; done))

theorem execPselChange_but (v : Fin 4) (hw : Hw) (s : State) (l : List Fld) (h_actions : Fld.actions ∈ l) (h_active : Fld.active ∈ l) (h_armed : Fld.armed ∈ l) (h_asms : Fld.asms ∈ l) (h_caps : Fld.caps ∈ l) (h_chans : Fld.chans ∈ l) (h_clusters : Fld.clusters ∈ l) (h_committed : Fld.committed ∈ l) (h_downs : Fld.downs ∈ l) (h_draws : Fld.draws ∈ l) (h_drives : Fld.drives ∈ l) (h_ens : Fld.ens ∈ l) (h_entries : Fld.entries ∈ l) (h_events : Fld.events ∈ l) (h_fabricFault : Fld.fabricFault ∈ l) (h_flash : Fld.flash ∈ l) (h_fwWaitAt : Fld.fwWaitAt ∈ l) (h_granules : Fld.granules ∈ l) (h_groups : Fld.groups ∈ l) (h_host : Fld.host ∈ l) (h_inbox : Fld.inbox ∈ l) (h_islandBad : Fld.islandBad ∈ l) (h_keys : Fld.keys ∈ l) (h_latches : Fld.latches ∈ l) (h_later : Fld.later ∈ l) (h_ledger : Fld.ledger ∈ l) (h_log : Fld.log ∈ l) (h_mgmtDown : Fld.mgmtDown ∈ l) (h_nv : Fld.nv ∈ l) (h_outFrames : Fld.outFrames ∈ l) (h_parts : Fld.parts ∈ l) (h_peerOut : Fld.peerOut ∈ l) (h_peerReq : Fld.peerReq ∈ l) (h_peerReqsAt : Fld.peerReqsAt ∈ l) (h_peerTries : Fld.peerTries ∈ l) (h_ports : Fld.ports ∈ l) (h_prior : Fld.prior ∈ l) (h_queueC : Fld.queueC ∈ l) (h_regs : Fld.regs ∈ l) (h_reply : Fld.reply ∈ l) (h_retained : Fld.retained ∈ l) (h_safeN : Fld.safeN ∈ l) (h_sec : Fld.sec ∈ l) (h_sectors : Fld.sectors ∈ l) (h_sessNext : Fld.sessNext ∈ l) (h_sessions : Fld.sessions ∈ l) (h_sets : Fld.sets ∈ l) (h_shadow : Fld.shadow ∈ l) (h_stalled : Fld.stalled ∈ l) (h_status : Fld.status ∈ l) (h_streams : Fld.streams ∈ l) (h_supply : Fld.supply ∈ l) (h_svc : Fld.svc ∈ l) (h_switchSt : Fld.switchSt ∈ l) (h_t1sSleep : Fld.t1sSleep ∈ l) (h_thermal : Fld.thermal ∈ l) (h_trestle : Fld.trestle ∈ l) (h_trims : Fld.trims ∈ l) (h_waitMaint : Fld.waitMaint ∈ l) (h_waits : Fld.waits ∈ l) :
    ∀ t, execPselChange v hw s = .next t → t.but l = s.but l := by
  intro t ht
  unfold execPselChange at ht
  (try simp only [ok] at ht); (repeat' split at ht) <;> (replace ht := Host.Outcome.next.inj ht; subst ht; first
    | with_reducible rfl
    | (simp [h_actions, h_active, h_armed, h_asms, h_caps, h_chans, h_clusters, h_committed, h_downs, h_draws, h_drives, h_ens, h_entries, h_events, h_fabricFault, h_flash, h_fwWaitAt, h_granules, h_groups, h_host, h_inbox, h_islandBad, h_keys, h_latches, h_later, h_ledger, h_log, h_mgmtDown, h_nv, h_outFrames, h_parts, h_peerOut, h_peerReq, h_peerReqsAt, h_peerTries, h_ports, h_prior, h_queueC, h_regs, h_reply, h_retained, h_safeN, h_sec, h_sectors, h_sessNext, h_sessions, h_sets, h_shadow, h_stalled, h_status, h_streams, h_supply, h_svc, h_switchSt, h_t1sSleep, h_thermal, h_trestle, h_trims, h_waitMaint, h_waits, ↓State.pinsJudged_but, ↓State.but_supply, ↓State.ite_but]; done))

@[simp] theorem State.pinsTurn_but (s : State) (l : List Fld) (h_actions : Fld.actions ∈ l) (h_active : Fld.active ∈ l) (h_armed : Fld.armed ∈ l) (h_asms : Fld.asms ∈ l) (h_caps : Fld.caps ∈ l) (h_chans : Fld.chans ∈ l) (h_clusters : Fld.clusters ∈ l) (h_committed : Fld.committed ∈ l) (h_downs : Fld.downs ∈ l) (h_draws : Fld.draws ∈ l) (h_drives : Fld.drives ∈ l) (h_ens : Fld.ens ∈ l) (h_entries : Fld.entries ∈ l) (h_events : Fld.events ∈ l) (h_fabricFault : Fld.fabricFault ∈ l) (h_flash : Fld.flash ∈ l) (h_fwWaitAt : Fld.fwWaitAt ∈ l) (h_granules : Fld.granules ∈ l) (h_groups : Fld.groups ∈ l) (h_host : Fld.host ∈ l) (h_inbox : Fld.inbox ∈ l) (h_islandBad : Fld.islandBad ∈ l) (h_keys : Fld.keys ∈ l) (h_latches : Fld.latches ∈ l) (h_later : Fld.later ∈ l) (h_ledger : Fld.ledger ∈ l) (h_log : Fld.log ∈ l) (h_mgmtDown : Fld.mgmtDown ∈ l) (h_nv : Fld.nv ∈ l) (h_outFrames : Fld.outFrames ∈ l) (h_parts : Fld.parts ∈ l) (h_peerOut : Fld.peerOut ∈ l) (h_peerReq : Fld.peerReq ∈ l) (h_peerReqsAt : Fld.peerReqsAt ∈ l) (h_peerTries : Fld.peerTries ∈ l) (h_ports : Fld.ports ∈ l) (h_prior : Fld.prior ∈ l) (h_queueC : Fld.queueC ∈ l) (h_regs : Fld.regs ∈ l) (h_reply : Fld.reply ∈ l) (h_retained : Fld.retained ∈ l) (h_safeN : Fld.safeN ∈ l) (h_sec : Fld.sec ∈ l) (h_sectors : Fld.sectors ∈ l) (h_sessNext : Fld.sessNext ∈ l) (h_sessions : Fld.sessions ∈ l) (h_sets : Fld.sets ∈ l) (h_shadow : Fld.shadow ∈ l) (h_stalled : Fld.stalled ∈ l) (h_status : Fld.status ∈ l) (h_streams : Fld.streams ∈ l) (h_supply : Fld.supply ∈ l) (h_svc : Fld.svc ∈ l) (h_switchSt : Fld.switchSt ∈ l) (h_t1sSleep : Fld.t1sSleep ∈ l) (h_thermal : Fld.thermal ∈ l) (h_trestle : Fld.trestle ∈ l) (h_trims : Fld.trims ∈ l) (h_waitMaint : Fld.waitMaint ∈ l) (h_waits : Fld.waits ∈ l) : (State.pinsTurn s).but l = s.but l := by
  unfold State.pinsTurn
  first
  | (simp [h_actions, h_active, h_armed, h_asms, h_caps, h_chans, h_clusters, h_committed, h_downs, h_draws, h_drives, h_ens, h_entries, h_events, h_fabricFault, h_flash, h_fwWaitAt, h_granules, h_groups, h_host, h_inbox, h_islandBad, h_keys, h_latches, h_later, h_ledger, h_log, h_mgmtDown, h_nv, h_outFrames, h_parts, h_peerOut, h_peerReq, h_peerReqsAt, h_peerTries, h_ports, h_prior, h_queueC, h_regs, h_reply, h_retained, h_safeN, h_sec, h_sectors, h_sessNext, h_sessions, h_sets, h_shadow, h_stalled, h_status, h_streams, h_supply, h_svc, h_switchSt, h_t1sSleep, h_thermal, h_trestle, h_trims, h_waitMaint, h_waits, ↓State.pinSwitch_but, ↓State.pinsJudged_but, ↓State.but_supply, ↓State.ite_but]; done)
  | ((try dsimp only); (repeat' split) <;> first
    | with_reducible rfl
    | (simp [h_actions, h_active, h_armed, h_asms, h_caps, h_chans, h_clusters, h_committed, h_downs, h_draws, h_drives, h_ens, h_entries, h_events, h_fabricFault, h_flash, h_fwWaitAt, h_granules, h_groups, h_host, h_inbox, h_islandBad, h_keys, h_latches, h_later, h_ledger, h_log, h_mgmtDown, h_nv, h_outFrames, h_parts, h_peerOut, h_peerReq, h_peerReqsAt, h_peerTries, h_ports, h_prior, h_queueC, h_regs, h_reply, h_retained, h_safeN, h_sec, h_sectors, h_sessNext, h_sessions, h_sets, h_shadow, h_stalled, h_status, h_streams, h_supply, h_svc, h_switchSt, h_t1sSleep, h_thermal, h_trestle, h_trims, h_waitMaint, h_waits, ↓State.pinSwitch_but, ↓State.pinsJudged_but, ↓State.but_supply, ↓State.ite_but]; done)
    | (rename_i heq; have hk := congrArg (fun x => x.1.but l) heq; simp [h_actions, h_active, h_armed, h_asms, h_caps, h_chans, h_clusters, h_committed, h_downs, h_draws, h_drives, h_ens, h_entries, h_events, h_fabricFault, h_flash, h_fwWaitAt, h_granules, h_groups, h_host, h_inbox, h_islandBad, h_keys, h_latches, h_later, h_ledger, h_log, h_mgmtDown, h_nv, h_outFrames, h_parts, h_peerOut, h_peerReq, h_peerReqsAt, h_peerTries, h_ports, h_prior, h_queueC, h_regs, h_reply, h_retained, h_safeN, h_sec, h_sectors, h_sessNext, h_sessions, h_sets, h_shadow, h_stalled, h_status, h_streams, h_supply, h_svc, h_switchSt, h_t1sSleep, h_thermal, h_trestle, h_trims, h_waitMaint, h_waits, ↓State.pinSwitch_but, ↓State.pinsJudged_but, ↓State.but_supply, ↓State.ite_but] at hk; simp [h_actions, h_active, h_armed, h_asms, h_caps, h_chans, h_clusters, h_committed, h_downs, h_draws, h_drives, h_ens, h_entries, h_events, h_fabricFault, h_flash, h_fwWaitAt, h_granules, h_groups, h_host, h_inbox, h_islandBad, h_keys, h_latches, h_later, h_ledger, h_log, h_mgmtDown, h_nv, h_outFrames, h_parts, h_peerOut, h_peerReq, h_peerReqsAt, h_peerTries, h_ports, h_prior, h_queueC, h_regs, h_reply, h_retained, h_safeN, h_sec, h_sectors, h_sessNext, h_sessions, h_sets, h_shadow, h_stalled, h_status, h_streams, h_supply, h_svc, h_switchSt, h_t1sSleep, h_thermal, h_trestle, h_trims, h_waitMaint, h_waits, ↓State.pinSwitch_but, ↓State.pinsJudged_but, ↓State.but_supply, ↓State.ite_but, hk]; done))

end Sys2Proof.Machine
end

