-- ==== Sys2Proof/Laws/Keep/Events.lean ====
section
/-! SUPPORT. The frames of the operations of Machine/Events.lean: the parts of the state that each of them can change. -/
set_option linter.all false

namespace Sys2Proof.Machine

theorem execEventRaise_but (src : Island) (ev : EventBody) (s : State) (l : List Fld) (h_events : Fld.events ∈ l) (h_regs : Fld.regs ∈ l) :
    ∀ t, execEventRaise src ev s = .next t → t.but l = s.but l := by
  intro t ht
  unfold execEventRaise at ht
  (try simp only [ok] at ht); (repeat' split at ht) <;> (replace ht := Host.Outcome.next.inj ht; subst ht; first
    | with_reducible rfl
    | (simp [h_events, h_regs, ↓State.raise_but, ↓State.ite_but]; done))

theorem execEventNext_but (k : Nat) (s : State) (l : List Fld) (h_regs : Fld.regs ∈ l) (h_reply : Fld.reply ∈ l) (h_sessions : Fld.sessions ∈ l) (h_status : Fld.status ∈ l) :
    ∀ t, execEventNext k s = .next t → t.but l = s.but l := by
  intro t ht
  unfold execEventNext at ht
  (try simp only [ok] at ht); (repeat' split at ht) <;> (replace ht := Host.Outcome.next.inj ht; subst ht; first
    | with_reducible rfl
    | (simp [h_regs, h_reply, h_sessions, h_status, ↓State.eventRead_but, ↓State.give_but, ↓State.item_but, ↓State.ite_but]; done)
    | ((first
        | refine State.item_but _ _ _ _ _ _ h_regs h_reply h_status (fun s => ?_)
        | refine State.itemLen_but _ _ _ _ _ _ _ h_regs h_reply h_status (fun s => ?_)) <;> (try dsimp only) <;> (repeat' split) <;> first
      | with_reducible rfl
      | (simp [h_regs, h_reply, h_sessions, h_status, ↓State.eventRead_but, ↓State.give_but, ↓State.item_but, ↓State.ite_but]; done)
      | (rename_i heq; have hk := congrArg (fun x => x.1.but l) heq; simp [h_regs, h_reply, h_sessions, h_status, ↓State.eventRead_but, ↓State.give_but, ↓State.item_but, ↓State.ite_but] at hk; simp [hk, h_regs, h_reply, h_sessions, h_status, ↓State.eventRead_but, ↓State.give_but, ↓State.item_but, ↓State.ite_but]; done))
    | (rename_i heq; have hk := congrArg (fun x => x.1.but l) heq; simp [h_regs, h_reply, h_sessions, h_status, ↓State.eventRead_but, ↓State.give_but, ↓State.item_but, ↓State.ite_but] at hk; simp [hk, h_regs, h_reply, h_sessions, h_status, ↓State.eventRead_but, ↓State.give_but, ↓State.item_but, ↓State.ite_but]; done))

theorem execEventSubscribe_but (k : Nat) (v : Byte) (s : State) (l : List Fld) (h_actions : Fld.actions ∈ l) (h_caps : Fld.caps ∈ l) (h_chans : Fld.chans ∈ l) (h_clusters : Fld.clusters ∈ l) (h_drives : Fld.drives ∈ l) (h_ens : Fld.ens ∈ l) (h_entries : Fld.entries ∈ l) (h_events : Fld.events ∈ l) (h_groups : Fld.groups ∈ l) (h_latches : Fld.latches ∈ l) (h_nv : Fld.nv ∈ l) (h_parts : Fld.parts ∈ l) (h_ports : Fld.ports ∈ l) (h_regs : Fld.regs ∈ l) (h_reply : Fld.reply ∈ l) (h_safeN : Fld.safeN ∈ l) (h_sessions : Fld.sessions ∈ l) (h_status : Fld.status ∈ l) (h_trims : Fld.trims ∈ l) (h_waitMaint : Fld.waitMaint ∈ l) :
    ∀ t, execEventSubscribe k v s = .next t → t.but l = s.but l := by
  intro t ht
  unfold execEventSubscribe at ht
  split at ht
  · replace ht := Host.Outcome.next.inj ht; subst ht; rfl
  · replace ht := Host.Outcome.next.inj ht; rw [← ht]
    refine State.item_but _ _ _ _ _ _ h_regs h_reply h_status (fun s => ?_)
    cases hw : s.writeSpecial k 0x5848 0 1 v.toNat with
    | none => rfl
    | some u =>
      show u.but l = s.but l
      apply State.writeSpecial_but <;> assumption

theorem execEventFrameSend_but (k : Nat) (s : State) (l : List Fld) (h_draws : Fld.draws ∈ l) (h_events : Fld.events ∈ l) (h_host : Fld.host ∈ l) (h_keys : Fld.keys ∈ l) (h_nv : Fld.nv ∈ l) (h_outFrames : Fld.outFrames ∈ l) (h_regs : Fld.regs ∈ l) (h_sessions : Fld.sessions ∈ l) (h_svc : Fld.svc ∈ l) (h_t1sSleep : Fld.t1sSleep ∈ l) :
    ∀ t, execEventFrameSend k s = .next t → t.but l = s.but l := by
  intro t ht
  unfold execEventFrameSend at ht
  (try simp only [ok] at ht); (repeat' split at ht) <;> (replace ht := Host.Outcome.next.inj ht; subst ht; first
    | with_reducible rfl
    | (simp [h_draws, h_events, h_host, h_keys, h_nv, h_outFrames, h_regs, h_sessions, h_svc, h_t1sSleep, ↓State.onSession_but, ↓State.sendPayload_but, ↓State.ite_but]; done)
    | (rename_i heq; have hk := congrArg (fun x => x.1.but l) heq; simp [h_draws, h_events, h_host, h_keys, h_nv, h_outFrames, h_regs, h_sessions, h_svc, h_t1sSleep, ↓State.onSession_but, ↓State.sendPayload_but, ↓State.ite_but] at hk; simp [hk, h_draws, h_events, h_host, h_keys, h_nv, h_outFrames, h_regs, h_sessions, h_svc, h_t1sSleep, ↓State.onSession_but, ↓State.sendPayload_but, ↓State.ite_but]; done))

end Sys2Proof.Machine
end

