-- ==== Sys2Proof/Laws/Keep/Net.lean ====
section
/-! SUPPORT. The frames of the operations of Machine/Net.lean: the parts of the state that each of them can change. -/
set_option linter.all false

namespace Sys2Proof.Machine

@[simp] theorem State.segError_but (s : State) (l : List Fld) (h_regs : Fld.regs ∈ l) : (State.segError s).but l = s.but l := by
  unfold State.segError
  simp [h_regs, ↓State.bump32_but, ↓State.ite_but]

@[simp] theorem State.dropAsm_but (s : State) (ll : Link) (ep tid : Nat) (l : List Fld) (h_asms : Fld.asms ∈ l) : (State.dropAsm s ll ep tid).but l = s.but l := by
  unfold State.dropAsm
  simp [h_asms, ↓State.but_asms, ↓State.ite_but]

@[simp] theorem State.joinPart_but (s : State) (ll : Link) (ep tid no : Nat) (before part : Bytes) (last : Bool) (fits : Nat → Bool) (l : List Fld) (h_asms : Fld.asms ∈ l) (h_inbox : Fld.inbox ∈ l) (h_regs : Fld.regs ∈ l) (h_svc : Fld.svc ∈ l) : (State.joinPart s ll ep tid no before part last fits).but l = s.but l := by
  unfold State.joinPart
  simp [h_asms, h_inbox, h_regs, h_svc, ↓State.arrive_but, ↓State.dropAsm_but, ↓State.segError_but, ↓State.but_asms, ↓State.ite_but]

@[simp] theorem State.segmentIn_but (s : State) (ll : Link) (ep : Nat) (seg : Bytes) (fits : Nat → Bool) (l : List Fld) (h_asms : Fld.asms ∈ l) (h_inbox : Fld.inbox ∈ l) (h_regs : Fld.regs ∈ l) (h_svc : Fld.svc ∈ l) : (State.segmentIn s ll ep seg fits).but l = s.but l := by
  unfold State.segmentIn
  (try dsimp only); (repeat' split) <;> first
    | with_reducible rfl
    | (simp [h_asms, h_inbox, h_regs, h_svc, ↓State.dropAsm_but, ↓State.joinPart_but, ↓State.segError_but, ↓State.ite_but]; done)
    | (rename_i heq; have hk := congrArg (fun x => x.1.but l) heq; simp [h_asms, h_inbox, h_regs, h_svc, ↓State.dropAsm_but, ↓State.joinPart_but, ↓State.segError_but, ↓State.ite_but] at hk; simp [hk, h_asms, h_inbox, h_regs, h_svc, ↓State.dropAsm_but, ↓State.joinPart_but, ↓State.segError_but, ↓State.ite_but]; done)

theorem execSegTimeout_but (ll : Link) (ep : Nat) (tid : Byte) (s : State) (l : List Fld) (h_asms : Fld.asms ∈ l) (h_regs : Fld.regs ∈ l) :
    ∀ t, execSegTimeout ll ep tid s = .next t → t.but l = s.but l := by
  intro t ht
  unfold execSegTimeout at ht
  (try simp only [ok] at ht); (repeat' split at ht) <;> (replace ht := Host.Outcome.next.inj ht; subst ht; first
    | with_reducible rfl
    | (simp [h_asms, h_regs, ↓State.dropAsm_but, ↓State.segError_but, ↓State.ite_but]; done)
    | (rename_i heq; have hk := congrArg (fun x => x.1.but l) heq; simp [h_asms, h_regs, ↓State.dropAsm_but, ↓State.segError_but, ↓State.ite_but] at hk; simp [hk, h_asms, h_regs, ↓State.dropAsm_but, ↓State.segError_but, ↓State.ite_but]; done))

@[simp] theorem State.linkFalls_but (s : State) (ll : Link) (cause : Nat) (l : List Fld) (h_asms : Fld.asms ∈ l) (h_downs : Fld.downs ∈ l) (h_events : Fld.events ∈ l) (h_inbox : Fld.inbox ∈ l) (h_regs : Fld.regs ∈ l) (h_sessions : Fld.sessions ∈ l) : (State.linkFalls s ll cause).but l = s.but l := by
  unfold State.linkFalls
  simp [h_asms, h_downs, h_events, h_inbox, h_regs, h_sessions, ↓State.bump16_but, ↓State.closeLink_but, ↓State.raise_but, ↓State.setDown_but, ↓State.but_inbox, ↓State.ite_but]

@[simp] theorem State.beaconGone_but (s : State) (ll : Link) (cause : Nat) (l : List Fld) (h_downs : Fld.downs ∈ l) : (State.beaconGone s ll cause).but l = s.but l := by
  unfold State.beaconGone
  first
  | (simp [h_downs, ↓State.setLink_but, ↓State.ite_but]; done)
  | ((try dsimp only); (repeat' split) <;> first
    | with_reducible rfl
    | (simp [h_downs, ↓State.setLink_but, ↓State.ite_but]; done))

theorem execLinkDown_but (ll : Link) (c : LinkCause) (s : State) (l : List Fld) (h_asms : Fld.asms ∈ l) (h_downs : Fld.downs ∈ l) (h_events : Fld.events ∈ l) (h_inbox : Fld.inbox ∈ l) (h_regs : Fld.regs ∈ l) (h_sessions : Fld.sessions ∈ l) :
    ∀ t, execLinkDown ll c s = .next t → t.but l = s.but l := by
  intro t ht
  unfold execLinkDown at ht
  (try simp only [ok] at ht); (repeat' split at ht) <;> (replace ht := Host.Outcome.next.inj ht; subst ht; first
    | with_reducible rfl
    | (simp [h_asms, h_downs, h_events, h_inbox, h_regs, h_sessions, ↓State.beaconGone_but, ↓State.bump16_but, ↓State.linkFalls_but, ↓State.setDown_but, ↓State.ite_but]; done)
    | (rename_i heq; have hk := congrArg (fun x => x.1.but l) heq; simp [h_asms, h_downs, h_events, h_inbox, h_regs, h_sessions, ↓State.beaconGone_but, ↓State.bump16_but, ↓State.linkFalls_but, ↓State.setDown_but, ↓State.ite_but] at hk; simp [h_asms, h_downs, h_events, h_inbox, h_regs, h_sessions, ↓State.beaconGone_but, ↓State.bump16_but, ↓State.linkFalls_but, ↓State.setDown_but, ↓State.ite_but, hk]; done))

@[simp] theorem State.linkRises_but (s : State) (ll : Link) (l : List Fld) (h_downs : Fld.downs ∈ l) (h_events : Fld.events ∈ l) (h_regs : Fld.regs ∈ l) : (State.linkRises s ll).but l = s.but l := by
  unfold State.linkRises
  simp [h_downs, h_events, h_regs, ↓State.raise_but, ↓State.setDown_but, ↓State.ite_but]

@[simp] theorem State.linkHeard_but (s : State) (ll : Link) (l : List Fld) (h_downs : Fld.downs ∈ l) (h_events : Fld.events ∈ l) (h_regs : Fld.regs ∈ l) : (State.linkHeard s ll).but l = s.but l := by
  unfold State.linkHeard
  first
  | (simp [h_downs, h_events, h_regs, ↓State.linkRises_but, ↓State.setLink_but, ↓State.ite_but]; done)
  | ((try dsimp only); (repeat' split) <;> first
    | with_reducible rfl
    | (simp [h_downs, h_events, h_regs, ↓State.linkRises_but, ↓State.setLink_but, ↓State.ite_but]; done))

theorem execLinkUp_but (ll : Link) (s : State) (l : List Fld) (h_downs : Fld.downs ∈ l) (h_events : Fld.events ∈ l) (h_regs : Fld.regs ∈ l) :
    ∀ t, execLinkUp ll s = .next t → t.but l = s.but l := by
  intro t ht
  unfold execLinkUp at ht
  (try simp only [ok] at ht); (repeat' split at ht) <;> (replace ht := Host.Outcome.next.inj ht; subst ht; first
    | with_reducible rfl
    | (simp [h_downs, h_events, h_regs, ↓State.linkHeard_but, ↓State.ite_but]; done))

theorem execBusoffRecovery_but (k : Fin 2) (s : State) (l : List Fld) (h_downs : Fld.downs ∈ l) (h_events : Fld.events ∈ l) (h_regs : Fld.regs ∈ l) :
    ∀ t, execBusoffRecovery k s = .next t → t.but l = s.but l := by
  intro t ht
  unfold execBusoffRecovery at ht
  (try simp only [ok] at ht); (repeat' split at ht) <;> (replace ht := Host.Outcome.next.inj ht; subst ht; first
    | with_reducible rfl
    | (simp [h_downs, h_events, h_regs, ↓State.linkRises_but, ↓State.raise_but, ↓State.ite_but]; done))

theorem execCanFrameReceive_but (k : Fin 2) (fd : Bool) (id : BitVec 29) (data : Bytes) (s : State) (l : List Fld) (h_asms : Fld.asms ∈ l) (h_downs : Fld.downs ∈ l) (h_events : Fld.events ∈ l) (h_inbox : Fld.inbox ∈ l) (h_regs : Fld.regs ∈ l) (h_svc : Fld.svc ∈ l) :
    ∀ t, execCanFrameReceive k fd id data s = .next t → t.but l = s.but l := by
  intro t ht
  unfold execCanFrameReceive at ht
  (try simp only [ok] at ht); (repeat' split at ht) <;> (replace ht := Host.Outcome.next.inj ht; subst ht; first
    | with_reducible rfl
    | (simp [h_asms, h_downs, h_events, h_inbox, h_regs, h_svc, ↓State.bump32_but, ↓State.linkHeard_but, ↓State.segmentIn_but, ↓State.ite_but]; done))

theorem execT1sFrameReceive_but (e : EthFrame) (s : State) (l : List Fld) (h_asms : Fld.asms ∈ l) (h_downs : Fld.downs ∈ l) (h_events : Fld.events ∈ l) (h_inbox : Fld.inbox ∈ l) (h_regs : Fld.regs ∈ l) (h_svc : Fld.svc ∈ l) :
    ∀ t, execT1sFrameReceive e s = .next t → t.but l = s.but l := by
  intro t ht
  unfold execT1sFrameReceive at ht
  (try simp only [ok] at ht); (repeat' split at ht) <;> (replace ht := Host.Outcome.next.inj ht; subst ht; first
    | with_reducible rfl
    | (simp [h_asms, h_downs, h_events, h_inbox, h_regs, h_svc, ↓State.bump32_but, ↓State.linkHeard_but, ↓State.segmentIn_but, ↓State.ite_but]; done))

theorem execSessionIdle_but (k : Nat) (s : State) (l : List Fld) (h_sessions : Fld.sessions ∈ l) :
    ∀ t, execSessionIdle k s = .next t → t.but l = s.but l := by
  intro t ht
  unfold execSessionIdle at ht
  (try simp only [ok] at ht); (repeat' split at ht) <;> (replace ht := Host.Outcome.next.inj ht; subst ht; first
    | with_reducible rfl
    | (simp [h_sessions, ↓State.but_sessions, ↓State.ite_but]; done)
    | (rename_i heq; have hk := congrArg (fun x => x.1.but l) heq; simp [h_sessions, ↓State.but_sessions, ↓State.ite_but] at hk; simp [hk, h_sessions, ↓State.but_sessions, ↓State.ite_but]; done))

theorem execHostTimeout_but (p : Fin 16) (s : State) (l : List Fld) (h_actions : Fld.actions ∈ l) (h_caps : Fld.caps ∈ l) (h_chans : Fld.chans ∈ l) (h_clusters : Fld.clusters ∈ l) (h_drives : Fld.drives ∈ l) (h_ens : Fld.ens ∈ l) (h_entries : Fld.entries ∈ l) (h_events : Fld.events ∈ l) (h_groups : Fld.groups ∈ l) (h_latches : Fld.latches ∈ l) (h_parts : Fld.parts ∈ l) (h_ports : Fld.ports ∈ l) (h_regs : Fld.regs ∈ l) (h_safeN : Fld.safeN ∈ l) (h_trims : Fld.trims ∈ l) (h_waitMaint : Fld.waitMaint ∈ l) :
    ∀ t, execHostTimeout p s = .next t → t.but l = s.but l := by
  intro t ht
  unfold execHostTimeout at ht
  (try simp only [ok] at ht); (repeat' split at ht) <;> (replace ht := Host.Outcome.next.inj ht; subst ht; first
    | with_reducible rfl
    | (simp [h_actions, h_caps, h_chans, h_clusters, h_drives, h_ens, h_entries, h_events, h_groups, h_latches, h_parts, h_ports, h_regs, h_safeN, h_trims, h_waitMaint, ↓State.bump16_but, ↓State.causeAt_but, ↓State.raise_but, ↓State.setPart_but, ↓State.stopPart_but, ↓State.ite_but]; done)
    | (rename_i heq; have hk := congrArg (fun x => x.1.but l) heq; simp [h_actions, h_caps, h_chans, h_clusters, h_drives, h_ens, h_entries, h_events, h_groups, h_latches, h_parts, h_ports, h_regs, h_safeN, h_trims, h_waitMaint, ↓State.bump16_but, ↓State.causeAt_but, ↓State.raise_but, ↓State.setPart_but, ↓State.stopPart_but, ↓State.ite_but] at hk; simp [h_actions, h_caps, h_chans, h_clusters, h_drives, h_ens, h_entries, h_events, h_groups, h_latches, h_parts, h_ports, h_regs, h_safeN, h_trims, h_waitMaint, ↓State.bump16_but, ↓State.causeAt_but, ↓State.raise_but, ↓State.setPart_but, ↓State.stopPart_but, ↓State.ite_but, hk]; done))

theorem execTc10SleepRequest_but (s : State) (l : List Fld) (h_events : Fld.events ∈ l) (h_regs : Fld.regs ∈ l) (h_t1sSleep : Fld.t1sSleep ∈ l) :
    ∀ t, execTc10SleepRequest s = .next t → t.but l = s.but l := by
  intro t ht
  unfold execTc10SleepRequest at ht
  (try simp only [ok] at ht); (repeat' split at ht) <;> (replace ht := Host.Outcome.next.inj ht; subst ht; first
    | with_reducible rfl
    | (simp [h_events, h_regs, h_t1sSleep, ↓State.bump16_but, ↓State.raise_but, ↓State.but_t1sSleep, ↓State.ite_but]; done))

theorem execTc10WakeUp_but (s : State) (l : List Fld) (h_events : Fld.events ∈ l) (h_regs : Fld.regs ∈ l) (h_t1sSleep : Fld.t1sSleep ∈ l) :
    ∀ t, execTc10WakeUp s = .next t → t.but l = s.but l := by
  intro t ht
  unfold execTc10WakeUp at ht
  (try simp only [ok] at ht); (repeat' split at ht) <;> (replace ht := Host.Outcome.next.inj ht; subst ht; first
    | with_reducible rfl
    | (simp [h_events, h_regs, h_t1sSleep, ↓State.raise_but, ↓State.but_t1sSleep, ↓State.ite_but]; done))

@[simp] theorem State.takeRecords_but (s : State) (k n : Nat) (l : List Fld) (h_streams : Fld.streams ∈ l) : (State.takeRecords s k n).but l = s.but l := by
  unfold State.takeRecords
  simp [h_streams, ↓State.setStream_but, ↓State.ite_but]

@[simp] theorem State.telemSend_but (s : State) (k : Nat) (records : Bytes) (l : List Fld) (h_draws : Fld.draws ∈ l) (h_outFrames : Fld.outFrames ∈ l) (h_regs : Fld.regs ∈ l) : (State.telemSend s k records).but l = s.but l := by
  unfold State.telemSend
  (try dsimp only); (repeat' split) <;> first
    | with_reducible rfl
    | (simp [h_draws, h_outFrames, h_regs, ↓State.bump32_but, ↓State.emit_but, ↓State.setReg_but, ↓State.but_draws, ↓State.ite_but]; done)
    | (rename_i heq; have hk := congrArg (fun x => x.1.but l) heq; simp [h_draws, h_outFrames, h_regs, ↓State.bump32_but, ↓State.emit_but, ↓State.setReg_but, ↓State.but_draws, ↓State.ite_but] at hk; simp [hk, h_draws, h_outFrames, h_regs, ↓State.bump32_but, ↓State.emit_but, ↓State.setReg_but, ↓State.but_draws, ↓State.ite_but]; done)

theorem execTelemFrameSend_but (k : Fin 32) (s : State) (l : List Fld) (h_draws : Fld.draws ∈ l) (h_outFrames : Fld.outFrames ∈ l) (h_regs : Fld.regs ∈ l) (h_streams : Fld.streams ∈ l) :
    ∀ t, execTelemFrameSend k s = .next t → t.but l = s.but l := by
  intro t ht
  unfold execTelemFrameSend at ht
  (try simp only [ok] at ht); (repeat' split at ht) <;> (replace ht := Host.Outcome.next.inj ht; subst ht; first
    | with_reducible rfl
    | (simp [h_draws, h_outFrames, h_regs, h_streams, ↓State.bump32_but, ↓State.takeRecords_but, ↓State.telemSend_but, ↓State.ite_but]; done)
    | (rename_i heq; have hk := congrArg (fun x => x.1.but l) heq; simp [h_draws, h_outFrames, h_regs, h_streams, ↓State.bump32_but, ↓State.takeRecords_but, ↓State.telemSend_but, ↓State.ite_but] at hk; simp [hk, h_draws, h_outFrames, h_regs, h_streams, ↓State.bump32_but, ↓State.takeRecords_but, ↓State.telemSend_but, ↓State.ite_but]; done))

end Sys2Proof.Machine
end

