-- ==== Sys2Proof/Laws/Keep/HostLink.lean ====
section
/-! SUPPORT. The frames of the operations of Machine/HostLink.lean: the parts of the state that each of them can change. -/
set_option linter.all false

namespace Sys2Proof.Machine

theorem execSpiFrameStart_but (mode3 : Bool) (s : State) (l : List Fld) (h_host : Fld.host ∈ l) :
    ∀ t, execSpiFrameStart mode3 s = .next t → t.but l = s.but l := by
  intro t ht
  unfold execSpiFrameStart at ht
  (try simp only [ok] at ht); (repeat' split at ht) <;> (replace ht := Host.Outcome.next.inj ht; subst ht; first
    | with_reducible rfl
    | (simp [h_host, ↓State.hostNote_but, ↓State.but_host, ↓State.ite_but]; done))

@[simp] theorem State.dapDelivered_but (s : State) (n : Nat) (l : List Fld) (h_host : Fld.host ∈ l) : (State.dapDelivered s n).but l = s.but l := by
  unfold State.dapDelivered
  (try dsimp only); (repeat' split) <;> first
    | with_reducible rfl
    | (simp [h_host, ↓State.but_host, ↓State.ite_but]; done)
    | (rename_i heq; have hk := congrArg (fun x => x.1.but l) heq; simp [h_host, ↓State.but_host, ↓State.ite_but] at hk; simp [hk, h_host, ↓State.but_host, ↓State.ite_but]; done)

@[simp] theorem State.deliverChunk_but (s : State) (b : Bytes) (l : List Fld) (h_host : Fld.host ∈ l) (h_regs : Fld.regs ∈ l) (h_streams : Fld.streams ∈ l) : (State.deliverChunk s b).but l = s.but l := by
  unfold State.deliverChunk
  simp [h_host, h_regs, h_streams, ↓State.bump32_but, ↓State.dapDelivered_but, ↓State.takeRecords_but, ↓State.but_host, foldl_but, ↓State.ite_but]

@[simp] theorem State.hostDrop_but (s : State) (cause : Nat) (l : List Fld) (h_host : Fld.host ∈ l) : (State.hostDrop s cause).but l = s.but l := by
  unfold State.hostDrop
  simp [h_host, ↓State.but_host, ↓State.ite_but]

@[simp] theorem State.queueFullEvent_but (s : State) (l : List Fld) (h_events : Fld.events ∈ l) (h_host : Fld.host ∈ l) (h_regs : Fld.regs ∈ l) : (State.queueFullEvent s).but l = s.but l := by
  unfold State.queueFullEvent
  simp [h_events, h_host, h_regs, ↓State.raise_but, ↓State.but_host, ↓State.ite_but]

@[simp] theorem State.hostDap_but (s : State) (frame : Bytes) (l : List Fld) (h_events : Fld.events ∈ l) (h_host : Fld.host ∈ l) (h_inbox : Fld.inbox ∈ l) (h_regs : Fld.regs ∈ l) (h_svc : Fld.svc ∈ l) : (State.hostDap s frame).but l = s.but l := by
  unfold State.hostDap
  simp [h_events, h_host, h_inbox, h_regs, h_svc, ↓State.arrive_but, ↓State.bump32_but, ↓State.hostDrop_but, ↓State.queueFullEvent_but, ↓State.ite_but]

@[simp] theorem State.wakeWindow_but (s : State) (l : List Fld) (h_host : Fld.host ∈ l) : (State.wakeWindow s).but l = s.but l := by
  unfold State.wakeWindow
  simp [h_host, ↓State.but_host, ↓State.ite_but]

@[simp] theorem State.hostSleep_but (s : State) (l : List Fld) (h_host : Fld.host ∈ l) : (State.hostSleep s).but l = s.but l := by
  unfold State.hostSleep
  simp [h_host, ↓State.hostNote_but, ↓State.wakeWindow_but, ↓State.but_host, ↓State.ite_but]

theorem execDap_but (frame : Bytes) (s : State) (l : List Fld) (h_events : Fld.events ∈ l) (h_host : Fld.host ∈ l) (h_inbox : Fld.inbox ∈ l) (h_regs : Fld.regs ∈ l) (h_svc : Fld.svc ∈ l) :
    ∀ t, execDap frame s = .next t → t.but l = s.but l := by
  intro t ht
  unfold execDap at ht
  (try simp only [ok] at ht); (repeat' split at ht) <;> (replace ht := Host.Outcome.next.inj ht; subst ht; first
    | with_reducible rfl
    | (simp [h_events, h_host, h_inbox, h_regs, h_svc, ↓State.hostDap_but, ↓State.ite_but]; done))

theorem execSleepLink_but (s : State) (l : List Fld) (h_host : Fld.host ∈ l) :
    ∀ t, execSleepLink s = .next t → t.but l = s.but l := by
  intro t ht
  unfold execSleepLink at ht
  (try simp only [ok] at ht); (repeat' split at ht) <;> (replace ht := Host.Outcome.next.inj ht; subst ht; first
    | with_reducible rfl
    | (simp [h_host, ↓State.hostSleep_but, ↓State.ite_but]; done))

@[simp] theorem State.frameAfterWake_but (s : State) (l : List Fld) (h_host : Fld.host ∈ l) : (State.frameAfterWake s).but l = s.but l := by
  unfold State.frameAfterWake
  simp [h_host, ↓State.but_host, ↓State.ite_but]

@[simp] theorem State.frameComplete_but (s : State) (b : Bytes) (l : List Fld) (h_events : Fld.events ∈ l) (h_host : Fld.host ∈ l) (h_inbox : Fld.inbox ∈ l) (h_regs : Fld.regs ∈ l) (h_streams : Fld.streams ∈ l) (h_svc : Fld.svc ∈ l) : (State.frameComplete s b).but l = s.but l := by
  unfold State.frameComplete
  (try dsimp only); (repeat' split) <;> first
    | with_reducible rfl
    | (simp [h_events, h_host, h_inbox, h_regs, h_streams, h_svc, ↓State.bump32_but, ↓State.deliverChunk_but, ↓State.frameAfterWake_but, ↓State.hostDap_but, ↓State.hostDrop_but, ↓State.hostSleep_but, ↓State.setReg_but, ↓State.but_host, ↓State.ite_but]; done)
    | (rename_i heq; have hk := congrArg (fun x => x.1.but l) heq; simp [h_events, h_host, h_inbox, h_regs, h_streams, h_svc, ↓State.bump32_but, ↓State.deliverChunk_but, ↓State.frameAfterWake_but, ↓State.hostDap_but, ↓State.hostDrop_but, ↓State.hostSleep_but, ↓State.setReg_but, ↓State.but_host, ↓State.ite_but] at hk; simp [hk, h_events, h_host, h_inbox, h_regs, h_streams, h_svc, ↓State.bump32_but, ↓State.deliverChunk_but, ↓State.frameAfterWake_but, ↓State.hostDap_but, ↓State.hostDrop_but, ↓State.hostSleep_but, ↓State.setReg_but, ↓State.but_host, ↓State.ite_but]; done)

@[simp] theorem State.frameLost_but (s : State) (counter cause : Nat) (header : Bool) (l : List Fld) (h_host : Fld.host ∈ l) (h_regs : Fld.regs ∈ l) : (State.frameLost s counter cause header).but l = s.but l := by
  unfold State.frameLost
  first
  | (simp [h_host, h_regs, ↓State.bump32_but, ↓State.hostDrop_but, ↓State.but_host, ↓State.ite_but]; done)
  | ((try dsimp only); (repeat' split) <;> first
    | with_reducible rfl
    | (simp [h_host, h_regs, ↓State.bump32_but, ↓State.hostDrop_but, ↓State.but_host, ↓State.ite_but]; done))

theorem execSpiFrameEnd_but (rx : SpiRx) (s : State) (l : List Fld) (h_events : Fld.events ∈ l) (h_host : Fld.host ∈ l) (h_inbox : Fld.inbox ∈ l) (h_regs : Fld.regs ∈ l) (h_streams : Fld.streams ∈ l) (h_svc : Fld.svc ∈ l) :
    ∀ t, execSpiFrameEnd rx s = .next t → t.but l = s.but l := by
  intro t ht
  unfold execSpiFrameEnd at ht
  (try simp only [ok] at ht); (repeat' split at ht) <;> (replace ht := Host.Outcome.next.inj ht; subst ht; first
    | with_reducible rfl
    | (simp [h_events, h_host, h_inbox, h_regs, h_streams, h_svc, ↓State.frameComplete_but, ↓State.frameLost_but, ↓State.but_host, ↓State.ite_but]; done))

@[simp] theorem State.hostWakes_but (s : State) (how : Nat) (l : List Fld) (h_events : Fld.events ∈ l) (h_host : Fld.host ∈ l) (h_regs : Fld.regs ∈ l) : (State.hostWakes s how).but l = s.but l := by
  unfold State.hostWakes
  simp [h_events, h_host, h_regs, ↓State.bump16_but, ↓State.hostNote_but, ↓State.raise_but, ↓State.but_host, ↓State.ite_but]

theorem execHostResume_but (lowNs : Nat) (s : State) (l : List Fld) (h_events : Fld.events ∈ l) (h_host : Fld.host ∈ l) (h_regs : Fld.regs ∈ l) :
    ∀ t, execHostResume lowNs s = .next t → t.but l = s.but l := by
  intro t ht
  unfold execHostResume at ht
  (try simp only [ok] at ht); (repeat' split at ht) <;> (replace ht := Host.Outcome.next.inj ht; subst ht; first
    | with_reducible rfl
    | (simp [h_events, h_host, h_regs, ↓State.bump16_but, ↓State.hostWakes_but, ↓State.but_host, ↓State.ite_but]; done))

theorem execDeviceWake_but (s : State) (l : List Fld) (h_host : Fld.host ∈ l) :
    ∀ t, execDeviceWake s = .next t → t.but l = s.but l := by
  intro t ht
  unfold execDeviceWake at ht
  (try simp only [ok] at ht); (repeat' split at ht) <;> (replace ht := Host.Outcome.next.inj ht; subst ht; first
    | with_reducible rfl
    | (simp [h_host, ↓State.hostNote_but, ↓State.wakeWindow_but, ↓State.ite_but]; done))

theorem execTelemIrqAgeExpire_but (k : Fin 32) (s : State) (l : List Fld) (h_host : Fld.host ∈ l) :
    ∀ t, execTelemIrqAgeExpire k s = .next t → t.but l = s.but l := by
  intro t ht
  unfold execTelemIrqAgeExpire at ht
  (try simp only [ok] at ht); (repeat' split at ht) <;> (replace ht := Host.Outcome.next.inj ht; subst ht; first
    | with_reducible rfl
    | (simp [h_host, ↓State.hostNote_but, ↓State.wakeWindow_but, ↓State.ite_but]; done))

end Sys2Proof.Machine
end

