-- ==== Sys2Proof/Laws/Keep/Islands.lean ====
section
/-! SUPPORT. The frames of the operations of Machine/Islands.lean: the parts of the state that each of them can change. -/
set_option linter.all false

namespace Sys2Proof.Machine

@[simp] theorem State.telemetryFails_but (s : State) (l : List Fld) (h_host : Fld.host ∈ l) (h_streams : Fld.streams ∈ l) : (State.telemetryFails s).but l = s.but l := by
  unfold State.telemetryFails
  first
  | (simp [h_host, h_streams, ↓State.hostNote_but, ↓State.setStream_but, ↓State.each_but, ↓State.ite_but]; done)
  | ((try dsimp only); (repeat' split) <;> first
    | with_reducible rfl
    | (simp [h_host, h_streams, ↓State.hostNote_but, ↓State.setStream_but, ↓State.each_but, ↓State.ite_but]; done)
    | (refine (State.each_but _ _ _ _ (fun s x _ => ?_)).trans ?_ <;> (try dsimp only) <;> (repeat' split) <;> first
      | with_reducible rfl
      | (simp [h_host, h_streams, ↓State.hostNote_but, ↓State.setStream_but, ↓State.each_but, ↓State.ite_but]; done)))

@[simp] theorem State.programBreaks_but (s : State) (l : List Fld) (h_draws : Fld.draws ∈ l) (h_flash : Fld.flash ∈ l) (h_granules : Fld.granules ∈ l) (h_log : Fld.log ∈ l) (h_nv : Fld.nv ∈ l) (h_regs : Fld.regs ∈ l) : (State.programBreaks s).but l = s.but l := by
  unfold State.programBreaks
  (try dsimp only); (repeat' split) <;> first
    | with_reducible rfl
    | (simp [h_draws, h_flash, h_granules, h_log, h_nv, h_regs, ↓State.drawerTorn_but, ↓State.foundTorn_but, ↓State.tear_but, ↓State.but_draws, ↓State.but_nv, ↓State.ite_but]; done)
    | (rename_i heq; have hk := congrArg (fun x => x.1.but l) heq; simp [h_draws, h_flash, h_granules, h_log, h_nv, h_regs, ↓State.drawerTorn_but, ↓State.foundTorn_but, ↓State.tear_but, ↓State.but_draws, ↓State.but_nv, ↓State.ite_but] at hk; simp [hk, h_draws, h_flash, h_granules, h_log, h_nv, h_regs, ↓State.drawerTorn_but, ↓State.foundTorn_but, ↓State.tear_but, ↓State.but_draws, ↓State.but_nv, ↓State.ite_but]; done)

@[simp] theorem State.nvFails_but (s : State) (l : List Fld) (h_draws : Fld.draws ∈ l) (h_flash : Fld.flash ∈ l) (h_granules : Fld.granules ∈ l) (h_log : Fld.log ∈ l) (h_nv : Fld.nv ∈ l) (h_regs : Fld.regs ∈ l) : (State.nvFails s).but l = s.but l := by
  unfold State.nvFails
  extract_lets a
  have ka : a.but l = s.but l := by simp only [a]; simp [h_draws, h_flash, h_granules, h_log, h_nv, h_regs]
  clear_value a
  refine Eq.trans ?_ ka
  simp [State.but, h_draws, h_flash, h_granules, h_log, h_nv, h_regs]

@[simp] theorem State.driveFails_but (s : State) (l : List Fld) (h_clusters : Fld.clusters ∈ l) (h_drives : Fld.drives ∈ l) (h_events : Fld.events ∈ l) (h_regs : Fld.regs ∈ l) : (State.driveFails s).but l = s.but l := by
  unfold State.driveFails
  first
  | (simp [h_clusters, h_drives, h_events, h_regs, ↓State.driveSync_but, ↓State.lockFalls_but, ↓State.each_but, ↓State.ite_but]; done)
  | ((try dsimp only); (repeat' split) <;> first
    | with_reducible rfl
    | (simp [h_clusters, h_drives, h_events, h_regs, ↓State.driveSync_but, ↓State.lockFalls_but, ↓State.each_but, ↓State.ite_but]; done)
    | (refine (State.each_but _ _ _ _ (fun s x _ => ?_)).trans ?_ <;> (try dsimp only) <;> (repeat' split) <;> first
      | with_reducible rfl
      | (simp [h_clusters, h_drives, h_events, h_regs, ↓State.driveSync_but, ↓State.lockFalls_but, ↓State.each_but, ↓State.ite_but]; done)))

@[simp] theorem State.twoWireFails_but (s : State) (l : List Fld) (h_ports : Fld.ports ∈ l) : (State.twoWireFails s).but l = s.but l := by
  unfold State.twoWireFails
  first
  | (simp [h_ports, ↓State.setPort_but, ↓State.each_but, ↓State.ite_but]; done)
  | ((try dsimp only); (repeat' split) <;> first
    | with_reducible rfl
    | (simp [h_ports, ↓State.setPort_but, ↓State.each_but, ↓State.ite_but]; done)
    | (refine (State.each_but _ _ _ _ (fun s x _ => ?_)).trans ?_ <;> (try dsimp only) <;> (repeat' split) <;> first
      | with_reducible rfl
      | (simp [h_ports, ↓State.setPort_but, ↓State.each_but, ↓State.ite_but]; done))
    | (rename_i heq; have hk := congrArg (fun x => x.1.but l) heq; simp [h_ports, ↓State.setPort_but, ↓State.each_but, ↓State.ite_but] at hk; simp [h_ports, ↓State.setPort_but, ↓State.each_but, ↓State.ite_but, hk]; done))

@[simp] theorem State.hostFails_but (s : State) (l : List Fld) (h_host : Fld.host ∈ l) : (State.hostFails s).but l = s.but l := by
  unfold State.hostFails
  first
  | (simp [h_host, ↓State.but_host, ↓State.ite_but]; done)
  | ((try dsimp only); (repeat' split) <;> first
    | with_reducible rfl
    | (simp [h_host, ↓State.but_host, ↓State.ite_but]; done))

@[simp] theorem State.islandFails_but (s : State) (d : Nat) (l : List Fld) (h_armed : Fld.armed ∈ l) (h_asms : Fld.asms ∈ l) (h_caps : Fld.caps ∈ l) (h_chans : Fld.chans ∈ l) (h_clusters : Fld.clusters ∈ l) (h_draws : Fld.draws ∈ l) (h_drives : Fld.drives ∈ l) (h_entries : Fld.entries ∈ l) (h_events : Fld.events ∈ l) (h_flash : Fld.flash ∈ l) (h_fwWaitAt : Fld.fwWaitAt ∈ l) (h_granules : Fld.granules ∈ l) (h_host : Fld.host ∈ l) (h_inbox : Fld.inbox ∈ l) (h_islandBad : Fld.islandBad ∈ l) (h_later : Fld.later ∈ l) (h_ledger : Fld.ledger ∈ l) (h_log : Fld.log ∈ l) (h_mgmtDown : Fld.mgmtDown ∈ l) (h_nv : Fld.nv ∈ l) (h_parts : Fld.parts ∈ l) (h_peerReq : Fld.peerReq ∈ l) (h_ports : Fld.ports ∈ l) (h_queueC : Fld.queueC ∈ l) (h_regs : Fld.regs ∈ l) (h_sec : Fld.sec ∈ l) (h_sessions : Fld.sessions ∈ l) (h_sets : Fld.sets ∈ l) (h_shadow : Fld.shadow ∈ l) (h_streams : Fld.streams ∈ l) (h_supply : Fld.supply ∈ l) (h_svc : Fld.svc ∈ l) (h_switchSt : Fld.switchSt ∈ l) (h_trims : Fld.trims ∈ l) (h_waitMaint : Fld.waitMaint ∈ l) (h_waits : Fld.waits ∈ l) : (State.islandFails s d).but l = s.but l := by
  unfold State.islandFails
  (try dsimp only); (repeat' split) <;> first
    | with_reducible rfl
    | (simp [h_armed, h_asms, h_caps, h_chans, h_clusters, h_draws, h_drives, h_entries, h_events, h_flash, h_fwWaitAt, h_granules, h_host, h_inbox, h_islandBad, h_later, h_ledger, h_log, h_mgmtDown, h_nv, h_parts, h_peerReq, h_ports, h_queueC, h_regs, h_sec, h_sessions, h_sets, h_shadow, h_streams, h_supply, h_svc, h_switchSt, h_trims, h_waitMaint, h_waits, ↓State.driveFails_but, ↓State.hostFails_but, ↓State.mgmtReset_but, ↓State.nvFails_but, ↓State.telemetryFails_but, ↓State.twoWireFails_but, ↓State.but_islandBad, ↓State.ite_but]; done)
    | (rename_i heq; have hk := congrArg (fun x => x.1.but l) heq; simp [h_armed, h_asms, h_caps, h_chans, h_clusters, h_draws, h_drives, h_entries, h_events, h_flash, h_fwWaitAt, h_granules, h_host, h_inbox, h_islandBad, h_later, h_ledger, h_log, h_mgmtDown, h_nv, h_parts, h_peerReq, h_ports, h_queueC, h_regs, h_sec, h_sessions, h_sets, h_shadow, h_streams, h_supply, h_svc, h_switchSt, h_trims, h_waitMaint, h_waits, ↓State.driveFails_but, ↓State.hostFails_but, ↓State.mgmtReset_but, ↓State.nvFails_but, ↓State.telemetryFails_but, ↓State.twoWireFails_but, ↓State.but_islandBad, ↓State.ite_but] at hk; simp [hk, h_armed, h_asms, h_caps, h_chans, h_clusters, h_draws, h_drives, h_entries, h_events, h_flash, h_fwWaitAt, h_granules, h_host, h_inbox, h_islandBad, h_later, h_ledger, h_log, h_mgmtDown, h_nv, h_parts, h_peerReq, h_ports, h_queueC, h_regs, h_sec, h_sessions, h_sets, h_shadow, h_streams, h_supply, h_svc, h_switchSt, h_trims, h_waitMaint, h_waits, ↓State.driveFails_but, ↓State.hostFails_but, ↓State.mgmtReset_but, ↓State.nvFails_but, ↓State.telemetryFails_but, ↓State.twoWireFails_but, ↓State.but_islandBad, ↓State.ite_but]; done)

@[simp] theorem State.failOnce_but (s : State) (d : Nat) (l : List Fld) (h_armed : Fld.armed ∈ l) (h_asms : Fld.asms ∈ l) (h_caps : Fld.caps ∈ l) (h_chans : Fld.chans ∈ l) (h_clusters : Fld.clusters ∈ l) (h_draws : Fld.draws ∈ l) (h_drives : Fld.drives ∈ l) (h_entries : Fld.entries ∈ l) (h_events : Fld.events ∈ l) (h_flash : Fld.flash ∈ l) (h_fwWaitAt : Fld.fwWaitAt ∈ l) (h_granules : Fld.granules ∈ l) (h_host : Fld.host ∈ l) (h_inbox : Fld.inbox ∈ l) (h_islandBad : Fld.islandBad ∈ l) (h_later : Fld.later ∈ l) (h_ledger : Fld.ledger ∈ l) (h_log : Fld.log ∈ l) (h_mgmtDown : Fld.mgmtDown ∈ l) (h_nv : Fld.nv ∈ l) (h_parts : Fld.parts ∈ l) (h_peerReq : Fld.peerReq ∈ l) (h_ports : Fld.ports ∈ l) (h_queueC : Fld.queueC ∈ l) (h_regs : Fld.regs ∈ l) (h_sec : Fld.sec ∈ l) (h_sessions : Fld.sessions ∈ l) (h_sets : Fld.sets ∈ l) (h_shadow : Fld.shadow ∈ l) (h_streams : Fld.streams ∈ l) (h_supply : Fld.supply ∈ l) (h_svc : Fld.svc ∈ l) (h_switchSt : Fld.switchSt ∈ l) (h_trims : Fld.trims ∈ l) (h_waitMaint : Fld.waitMaint ∈ l) (h_waits : Fld.waits ∈ l) : (State.failOnce s d).but l = s.but l := by
  unfold State.failOnce
  first
  | (simp [h_armed, h_asms, h_caps, h_chans, h_clusters, h_draws, h_drives, h_entries, h_events, h_flash, h_fwWaitAt, h_granules, h_host, h_inbox, h_islandBad, h_later, h_ledger, h_log, h_mgmtDown, h_nv, h_parts, h_peerReq, h_ports, h_queueC, h_regs, h_sec, h_sessions, h_sets, h_shadow, h_streams, h_supply, h_svc, h_switchSt, h_trims, h_waitMaint, h_waits, ↓State.islandFails_but, ↓State.ite_but]; done)
  | ((try dsimp only); (repeat' split) <;> first
    | with_reducible rfl
    | (simp [h_armed, h_asms, h_caps, h_chans, h_clusters, h_draws, h_drives, h_entries, h_events, h_flash, h_fwWaitAt, h_granules, h_host, h_inbox, h_islandBad, h_later, h_ledger, h_log, h_mgmtDown, h_nv, h_parts, h_peerReq, h_ports, h_queueC, h_regs, h_sec, h_sessions, h_sets, h_shadow, h_streams, h_supply, h_svc, h_switchSt, h_trims, h_waitMaint, h_waits, ↓State.islandFails_but, ↓State.ite_but]; done))

theorem execHandshakeStall_but (i : Island) (s : State) (l : List Fld) (h_actions : Fld.actions ∈ l) (h_armed : Fld.armed ∈ l) (h_asms : Fld.asms ∈ l) (h_caps : Fld.caps ∈ l) (h_chans : Fld.chans ∈ l) (h_clusters : Fld.clusters ∈ l) (h_draws : Fld.draws ∈ l) (h_drives : Fld.drives ∈ l) (h_ens : Fld.ens ∈ l) (h_entries : Fld.entries ∈ l) (h_events : Fld.events ∈ l) (h_flash : Fld.flash ∈ l) (h_fwWaitAt : Fld.fwWaitAt ∈ l) (h_granules : Fld.granules ∈ l) (h_groups : Fld.groups ∈ l) (h_host : Fld.host ∈ l) (h_inbox : Fld.inbox ∈ l) (h_islandBad : Fld.islandBad ∈ l) (h_latches : Fld.latches ∈ l) (h_later : Fld.later ∈ l) (h_ledger : Fld.ledger ∈ l) (h_log : Fld.log ∈ l) (h_mgmtDown : Fld.mgmtDown ∈ l) (h_nv : Fld.nv ∈ l) (h_parts : Fld.parts ∈ l) (h_peerReq : Fld.peerReq ∈ l) (h_ports : Fld.ports ∈ l) (h_queueC : Fld.queueC ∈ l) (h_regs : Fld.regs ∈ l) (h_safeN : Fld.safeN ∈ l) (h_sec : Fld.sec ∈ l) (h_sessions : Fld.sessions ∈ l) (h_sets : Fld.sets ∈ l) (h_shadow : Fld.shadow ∈ l) (h_stalled : Fld.stalled ∈ l) (h_streams : Fld.streams ∈ l) (h_supply : Fld.supply ∈ l) (h_svc : Fld.svc ∈ l) (h_switchSt : Fld.switchSt ∈ l) (h_trims : Fld.trims ∈ l) (h_waitMaint : Fld.waitMaint ∈ l) (h_waits : Fld.waits ∈ l) :
    ∀ t, execHandshakeStall i s = .next t → t.but l = s.but l := by
  intro t ht
  unfold execHandshakeStall at ht
  (try simp only [ok] at ht); (repeat' split at ht) <;> (replace ht := Host.Outcome.next.inj ht; subst ht; first
    | with_reducible rfl
    | (simp [h_actions, h_armed, h_asms, h_caps, h_chans, h_clusters, h_draws, h_drives, h_ens, h_entries, h_events, h_flash, h_fwWaitAt, h_granules, h_groups, h_host, h_inbox, h_islandBad, h_latches, h_later, h_ledger, h_log, h_mgmtDown, h_nv, h_parts, h_peerReq, h_ports, h_queueC, h_regs, h_safeN, h_sec, h_sessions, h_sets, h_shadow, h_stalled, h_streams, h_supply, h_svc, h_switchSt, h_trims, h_waitMaint, h_waits, ↓State.bump16_but, ↓State.clockLoss_but, ↓State.failOnce_but, ↓State.but_stalled, ↓State.ite_but]; done)
    | (rename_i heq; have hk := congrArg (fun x => x.1.but l) heq; simp [h_actions, h_armed, h_asms, h_caps, h_chans, h_clusters, h_draws, h_drives, h_ens, h_entries, h_events, h_flash, h_fwWaitAt, h_granules, h_groups, h_host, h_inbox, h_islandBad, h_latches, h_later, h_ledger, h_log, h_mgmtDown, h_nv, h_parts, h_peerReq, h_ports, h_queueC, h_regs, h_safeN, h_sec, h_sessions, h_sets, h_shadow, h_stalled, h_streams, h_supply, h_svc, h_switchSt, h_trims, h_waitMaint, h_waits, ↓State.bump16_but, ↓State.clockLoss_but, ↓State.failOnce_but, ↓State.but_stalled, ↓State.ite_but] at hk; simp [hk, h_actions, h_armed, h_asms, h_caps, h_chans, h_clusters, h_draws, h_drives, h_ens, h_entries, h_events, h_flash, h_fwWaitAt, h_granules, h_groups, h_host, h_inbox, h_islandBad, h_latches, h_later, h_ledger, h_log, h_mgmtDown, h_nv, h_parts, h_peerReq, h_ports, h_queueC, h_regs, h_safeN, h_sec, h_sessions, h_sets, h_shadow, h_stalled, h_streams, h_supply, h_svc, h_switchSt, h_trims, h_waitMaint, h_waits, ↓State.bump16_but, ↓State.clockLoss_but, ↓State.failOnce_but, ↓State.but_stalled, ↓State.ite_but]; done))

theorem execIslandClockFault_but (i : Island) (s : State) (l : List Fld) (h_armed : Fld.armed ∈ l) (h_asms : Fld.asms ∈ l) (h_caps : Fld.caps ∈ l) (h_chans : Fld.chans ∈ l) (h_clusters : Fld.clusters ∈ l) (h_draws : Fld.draws ∈ l) (h_drives : Fld.drives ∈ l) (h_entries : Fld.entries ∈ l) (h_events : Fld.events ∈ l) (h_flash : Fld.flash ∈ l) (h_fwWaitAt : Fld.fwWaitAt ∈ l) (h_granules : Fld.granules ∈ l) (h_host : Fld.host ∈ l) (h_inbox : Fld.inbox ∈ l) (h_islandBad : Fld.islandBad ∈ l) (h_later : Fld.later ∈ l) (h_ledger : Fld.ledger ∈ l) (h_log : Fld.log ∈ l) (h_mgmtDown : Fld.mgmtDown ∈ l) (h_nv : Fld.nv ∈ l) (h_parts : Fld.parts ∈ l) (h_peerReq : Fld.peerReq ∈ l) (h_ports : Fld.ports ∈ l) (h_queueC : Fld.queueC ∈ l) (h_regs : Fld.regs ∈ l) (h_sec : Fld.sec ∈ l) (h_sessions : Fld.sessions ∈ l) (h_sets : Fld.sets ∈ l) (h_shadow : Fld.shadow ∈ l) (h_stalled : Fld.stalled ∈ l) (h_streams : Fld.streams ∈ l) (h_supply : Fld.supply ∈ l) (h_svc : Fld.svc ∈ l) (h_switchSt : Fld.switchSt ∈ l) (h_trims : Fld.trims ∈ l) (h_waitMaint : Fld.waitMaint ∈ l) (h_waits : Fld.waits ∈ l) :
    ∀ t, execIslandClockFault i s = .next t → t.but l = s.but l := by
  intro t ht
  unfold execIslandClockFault at ht
  (try simp only [ok] at ht); (repeat' split at ht) <;> (replace ht := Host.Outcome.next.inj ht; subst ht; first
    | with_reducible rfl
    | (simp [State.but, h_armed, h_asms, h_caps, h_chans, h_clusters, h_draws, h_drives, h_entries, h_events, h_flash, h_fwWaitAt, h_granules, h_host, h_inbox, h_islandBad, h_later, h_ledger, h_log, h_mgmtDown, h_nv, h_parts, h_peerReq, h_ports, h_queueC, h_regs, h_sec, h_sessions, h_sets, h_shadow, h_stalled, h_streams, h_supply, h_svc, h_switchSt, h_trims, h_waitMaint, h_waits, ↓State.bump16_but, ↓State.failOnce_but, ↓State.raise_but, State.but, ↓State.but_stalled, ↓State.but_supply, ↓State.ite_but]; done)
    | (rename_i heq; have hk := congrArg (fun x => x.1.but l) heq; simp [State.but, h_armed, h_asms, h_caps, h_chans, h_clusters, h_draws, h_drives, h_entries, h_events, h_flash, h_fwWaitAt, h_granules, h_host, h_inbox, h_islandBad, h_later, h_ledger, h_log, h_mgmtDown, h_nv, h_parts, h_peerReq, h_ports, h_queueC, h_regs, h_sec, h_sessions, h_sets, h_shadow, h_stalled, h_streams, h_supply, h_svc, h_switchSt, h_trims, h_waitMaint, h_waits, ↓State.bump16_but, ↓State.failOnce_but, ↓State.raise_but, State.but, ↓State.but_stalled, ↓State.but_supply, ↓State.ite_but] at hk; simp [State.but, hk, h_armed, h_asms, h_caps, h_chans, h_clusters, h_draws, h_drives, h_entries, h_events, h_flash, h_fwWaitAt, h_granules, h_host, h_inbox, h_islandBad, h_later, h_ledger, h_log, h_mgmtDown, h_nv, h_parts, h_peerReq, h_ports, h_queueC, h_regs, h_sec, h_sessions, h_sets, h_shadow, h_stalled, h_streams, h_supply, h_svc, h_switchSt, h_trims, h_waitMaint, h_waits, ↓State.bump16_but, ↓State.failOnce_but, ↓State.raise_but, State.but, ↓State.but_stalled, ↓State.but_supply, ↓State.ite_but]; done))

@[simp] theorem State.driveReturns_but (s : State) (l : List Fld) (h_clusters : Fld.clusters ∈ l) (h_drives : Fld.drives ∈ l) (h_events : Fld.events ∈ l) (h_regs : Fld.regs ∈ l) : (State.driveReturns s).but l = s.but l := by
  unfold State.driveReturns
  first
  | (simp [h_clusters, h_drives, h_events, h_regs, ↓State.carriersBegin_but, ↓State.driveFault_but, ↓State.setDrive_but, ↓State.setReg_but, ↓State.each_but, ↓State.ite_but]; done)
  | ((try dsimp only); (repeat' split) <;> first
    | with_reducible rfl
    | (simp [h_clusters, h_drives, h_events, h_regs, ↓State.carriersBegin_but, ↓State.driveFault_but, ↓State.setDrive_but, ↓State.setReg_but, ↓State.each_but, ↓State.ite_but]; done)
    | (refine (State.each_but _ _ _ _ (fun s x _ => ?_)).trans ?_ <;> (try dsimp only) <;> (repeat' split) <;> first
      | with_reducible rfl
      | (simp [h_clusters, h_drives, h_events, h_regs, ↓State.carriersBegin_but, ↓State.driveFault_but, ↓State.setDrive_but, ↓State.setReg_but, ↓State.each_but, ↓State.ite_but]; done)))

theorem execIslandReady_but (i : Island) (s : State) (l : List Fld) (h_actions : Fld.actions ∈ l) (h_caps : Fld.caps ∈ l) (h_chans : Fld.chans ∈ l) (h_clusters : Fld.clusters ∈ l) (h_drives : Fld.drives ∈ l) (h_ens : Fld.ens ∈ l) (h_entries : Fld.entries ∈ l) (h_events : Fld.events ∈ l) (h_groups : Fld.groups ∈ l) (h_islandBad : Fld.islandBad ∈ l) (h_latches : Fld.latches ∈ l) (h_parts : Fld.parts ∈ l) (h_ports : Fld.ports ∈ l) (h_regs : Fld.regs ∈ l) (h_safeN : Fld.safeN ∈ l) (h_stalled : Fld.stalled ∈ l) (h_supply : Fld.supply ∈ l) (h_trims : Fld.trims ∈ l) (h_waitMaint : Fld.waitMaint ∈ l) :
    ∀ t, execIslandReady i s = .next t → t.but l = s.but l := by
  intro t ht
  unfold execIslandReady at ht
  (try simp only [ok] at ht); (repeat' split at ht) <;> (replace ht := Host.Outcome.next.inj ht; subst ht; first
    | with_reducible rfl
    | (simp [h_actions, h_caps, h_chans, h_clusters, h_drives, h_ens, h_entries, h_events, h_groups, h_islandBad, h_latches, h_parts, h_ports, h_regs, h_safeN, h_stalled, h_supply, h_trims, h_waitMaint, ↓State.clockBack_but, ↓State.deliverQueue_but, ↓State.driveReturns_but, State.but, ↓State.but_islandBad, ↓State.but_stalled, ↓State.but_supply, ↓State.ite_but]; done)
    | (rename_i heq; have hk := congrArg (fun x => x.1.but l) heq; simp [h_actions, h_caps, h_chans, h_clusters, h_drives, h_ens, h_entries, h_events, h_groups, h_islandBad, h_latches, h_parts, h_ports, h_regs, h_safeN, h_stalled, h_supply, h_trims, h_waitMaint, ↓State.clockBack_but, ↓State.deliverQueue_but, ↓State.driveReturns_but, State.but, ↓State.but_islandBad, ↓State.but_stalled, ↓State.but_supply, ↓State.ite_but] at hk; simp [h_actions, h_caps, h_chans, h_clusters, h_drives, h_ens, h_entries, h_events, h_groups, h_islandBad, h_latches, h_parts, h_ports, h_regs, h_safeN, h_stalled, h_supply, h_trims, h_waitMaint, ↓State.clockBack_but, ↓State.deliverQueue_but, ↓State.driveReturns_but, State.but, ↓State.but_islandBad, ↓State.but_stalled, ↓State.but_supply, ↓State.ite_but, hk]; done))

theorem execVioBankLoss_but (b : VioBank) (s : State) (l : List Fld) (h_ens : Fld.ens ∈ l) (h_vioLost : Fld.vioLost ∈ l) :
    ∀ t, execVioBankLoss b s = .next t → t.but l = s.but l := by
  intro t ht
  unfold execVioBankLoss at ht
  (try simp only [ok] at ht); (repeat' split at ht) <;> (replace ht := Host.Outcome.next.inj ht; subst ht; first
    | with_reducible rfl
    | (simp [h_ens, h_vioLost, ↓State.setEn_but, ↓State.but_vioLost, ↓State.each_but, ↓State.ite_but]; done)
    | (refine (State.each_but _ _ _ _ (fun s x _ => ?_)).trans ?_ <;> (try dsimp only) <;> (repeat' split) <;> first
      | with_reducible rfl
      | (simp [h_ens, h_vioLost, ↓State.setEn_but, ↓State.but_vioLost, ↓State.each_but, ↓State.ite_but]; done)))

theorem execVioBankReturn_but (b : VioBank) (s : State) (l : List Fld) (h_ens : Fld.ens ∈ l) (h_vioLost : Fld.vioLost ∈ l) :
    ∀ t, execVioBankReturn b s = .next t → t.but l = s.but l := by
  intro t ht
  unfold execVioBankReturn at ht
  (try simp only [ok] at ht); (repeat' split at ht) <;> (replace ht := Host.Outcome.next.inj ht; subst ht; first
    | with_reducible rfl
    | (simp [h_ens, h_vioLost, ↓State.modeEn_but, ↓State.but_vioLost, ↓State.each_but, ↓State.ite_but]; done)
    | (refine (State.each_but _ _ _ _ (fun s x _ => ?_)).trans ?_ <;> (try dsimp only) <;> (repeat' split) <;> first
      | with_reducible rfl
      | (simp [h_ens, h_vioLost, ↓State.modeEn_but, ↓State.but_vioLost, ↓State.each_but, ↓State.ite_but]; done)))

end Sys2Proof.Machine
end

