-- ==== Sys2Proof/Laws/Regs.lean ====
section
/-! SUPPORT. How frames of registers compose: what each update of the state leaves of the registers, and which happenings stay on record. -/
namespace Sys2Proof.Machine

theorem RegsBut.refl (s : State) (l : List Nat) : RegsBut s s l := fun _ _ => rfl

theorem RegsBut.trans {s t u : State} {l : List Nat} (h : RegsBut s t l) (h' : RegsBut t u l) : RegsBut s u l :=
  fun k hk => (h' k hk).trans (h k hk)

theorem RegsBut.mono {s t : State} {l m : List Nat} (h : RegsBut s t l) (hs : ∀ k ∈ l, k ∈ m) : RegsBut s t m :=
  fun k hk => h k (fun hl => hk (hs k hl))

/-- An update that leaves the table of registers as it is. -/
theorem RegsBut.of_regs {s t u : State} {l : List Nat} (h : RegsBut s t l) (hu : u.regs = t.regs) : RegsBut s u l := by
  intro k hk
  rw [← h k hk]
  unfold State.reg
  rw [hu]

theorem RegsBut.setReg {s t : State} {l : List Nat} {k v : Nat} (h : RegsBut s t l) (hk : k ∈ l) : RegsBut s (t.setReg k v) l := by
  intro j hj
  have hne : j ≠ k := fun e => hj (by rw [e]; exact hk)
  rw [State.setReg_reg, if_neg hne, h j hj]

theorem RegsBut.bump16 {s t : State} {l : List Nat} {k : Nat} (h : RegsBut s t l) (hk : k ∈ l) : RegsBut s (t.bump16 k) l := h.setReg hk

theorem RegsBut.bump32 {s t : State} {l : List Nat} {k : Nat} (h : RegsBut s t l) (hk : k ∈ l) : RegsBut s (t.bump32 k) l := h.setReg hk

theorem RegsBut.raise {s t : State} {l : List Nat} {d c p : Nat} {cl : Bool} {x : Bytes} (h : RegsBut s t l) (hk : evEventsLost ∈ l) :
    RegsBut s (t.raise d c p cl x) l := by
  intro j hj
  have hne : j ≠ evEventsLost := fun e => hj (by rw [e]; exact hk)
  rw [State.raise_reg_ne _ _ _ _ _ _ _ hne, h j hj]

theorem RegsBut.each {s t : State} {l : List Nat} {xs : List Nat} {f : State → Nat → State} (h : RegsBut s t l)
    (hf : ∀ u, ∀ x ∈ xs, RegsBut u (f u x) l) : RegsBut s (t.each xs f) l := by
  induction xs generalizing t with
  | nil => exact h
  | cons x xs ih =>
    rw [State.each_cons]
    exact ih (h.trans (hf t x (List.mem_cons_self ..))) (fun u y hy => hf u y (List.mem_cons_of_mem _ hy))

theorem RegsBut.countItem {s t : State} {l : List Nat} {r : Role} (h : RegsBut s t l) (hk : ∀ k ∈ itemKeys r, k ∈ l) :
    RegsBut s (t.countItem r) l := h.trans ((State.countItem_reg t r).mono hk)

/-- The frame of an item: an execution that leaves what a frame lists, and then the counting. -/
theorem ItemEnds.of {r : Role} {l : List Fld} {ks : List Nat} {s t : State} {st : Nat}
    (hs : Same ([.regs, .status, .reply] ++ l) s t) (hr : RegsBut s t (ks ++ itemKeys r)) (hst : t.status = st) :
    ItemEnds r l ks s (t.countItem r) st := by
  refine ⟨hs.trans ?_, hr.countItem (fun k hk => List.mem_append_right _ hk), by rw [State.countItem_status, hst]⟩
  exact State.countItem_but t r _ (by simp)

end Sys2Proof.Machine
end

