-- ==== Sys2Proof/WellFormed.lean ====
section
/-! DEFINITION. Which commands are well formed: the operands that the types of Syntax.lean leave wider than the spec allows. A command that
is not well formed names no happening of the block; its meaning is defined all the same. -/
namespace Sys2Proof

/-- The data lengths of a CAN frame: up to 8 bytes, and the longer ones of an FD frame (ISO 11898-1, Table 13-4). -/
def canLength (fd : Bool) (n : Nat) : Bool := decide (n ≤ 8) || (fd && [12, 16, 20, 24, 32, 48, 64].contains n)

/-- A visit's mean lies within the range of the integrator, 0 V to 2.4 V at the pin, with half of that as margin on each side, and its gap
integral within what a second can bring (R67, R97). -/
def Visit.wf (v : Visit) : Bool :=
  decide (-1200000000 ≤ v.mean ∧ v.mean ≤ 3600000000) && decide (-3600000000000000000 ≤ v.gap ∧ v.gap ≤ 3600000000000000000)

/-- PARTITION of an event is 0 to 15 or 0xFF, and PARAM holds at most 8 bytes (Table 12-7). -/
def EventBody.wf (e : EventBody) : Bool := decide (e.part.toNat < 16 ∨ e.part.toNat = 255) && decide (e.param.length ≤ 8)

/-- The bytes that a number of clocks can carry: byte 0 on one lane, the others on one or four (R361). -/
def SpiRx.wf (x : SpiRx) : Bool :=
  match x.bytes with
  | [] => true
  | b :: rest => decide (8 + (if 128 ≤ b.toNat then 2 else 8) * rest.length ≤ x.clocks)

/-- A PEER message is one SMBus block of at most 32 bytes with its type, sender, length and PEC (R175). -/
def peerLength (m : Bytes) : Bool := decide (m.length ≤ 36)

/-- What an event reader, a session and a status carry in 32 bits. -/
def inWord (n : Nat) : Bool := decide (n < 4294967296)

/-- Whether the operands of a command are such as the spec allows. -/
def Instr.wf : Instr → Bool
  | .sliceResult _ v => v.wf
  | .openWireResult _ v w => v.wf && w.wf
  | .eventRaise _ e => e.wf
  | .canFrameReceive _ fd _ data => canLength fd data.length
  | .registerWrite _ _ _ val => decide (val.length ≤ 8452)
  | .dapRequest (some a) _ => decide (a.bytes.length ≤ 8476)
  | .dap frame => decide (20 ≤ frame.length ∧ frame.length ≤ 8472)
  | .spiFrameEnd rx => rx.wf
  | .lockFallback period => inWord period
  | .hostResume lowNs => inWord lowNs
  | .mrN lowNs => inWord lowNs
  | .pbRelease lowMs => inWord lowMs
  | .canWake highUs => inWord highUs
  | .neighbourPoll readings => decide (readings.length = 8)
  | .announce msg => peerLength msg
  | .presence msg => peerLength msg
  | .state msg => peerLength msg
  | .sync msg => peerLength msg
  | .ack msg => peerLength msg
  | .release msg => peerLength msg
  | _ => true

end Sys2Proof
end

