-- ==== Sys2Proof/Tests/Slice0.lean ====
section
/-! SUPPORT. Tests. The theorems `meets_…` show, for the statement that they name and clause by clause, a state and operands that meet all
hypotheses of the clause together, at a boundary of their range where the clause has one. The theorems `test_illFormed_…` show a command
that each check of WellFormed.lean refuses. -/
namespace Sys2Proof.Tests
set_option Elab.async false
open Sys2Proof Sys2Proof.Machine

/-! ### Small states -/

/-- A device in ACTIVE with its VCORE and its management plane, a committed configuration, and every register at its default. -/
def up : State := { State.reset with mgmtDown := false, committed := true, supply := { power := .active, vcore := true } }

/-- With values in the active bank. -/
def act (l : List (Nat × Nat)) (s : State) : State := { s with active := l.foldl (fun t e => tabSet dflt t e.1 e.2) s.active }

/-- With values in registers. -/
def reg (l : List (Nat × Nat)) (s : State) : State := { s with regs := l.foldl (fun t e => tabSet dflt t e.1 e.2) s.regs }

/-- OWNER is heard wherever requests are served. -/
theorem hearsOwner {s : State} (h : s.serves = true) : s.hears .owner := ⟨h, nofun⟩

/-- The role of a defined partition is heard. -/
theorem hearsPart {s : State} {p : Fin 16} (h : s.serves = true) (d : s.defined p = true) : s.hears (.partition p) :=
  ⟨h, fun q e => by cases e; exact d⟩

/-- A hypothesis on what an option holds is met where it holds nothing. -/
theorem ofNone {α : Type} {P : α → Prop} {o : Option α} (h : o = none) : ∀ a, o = some a → P a := fun _ e => by rw [h] at e; cases e

/-- A hypothesis on what an option holds is met where what it holds has the property. -/
theorem ofSome {α : Type} {P : α → Prop} {o : Option α} {b : α} (h : o = some b) (p : P b) : ∀ a, o = some a → P a :=
  fun _ e => by rw [h] at e; cases e; exact p

/-- An option holds something with a property. -/
theorem someWith {α : Type} {P : α → Prop} [DecidablePred P] {o : Option α} (h : o.any (fun x => decide (P x)) = true) :
    ∃ x, o = some x ∧ P x := by
  cases o with
  | none => cases h
  | some x => exact ⟨x, rfl, of_decide_eq_true h⟩

/-! ### The step, reset, islands and the frame clock -/

/-- With no commit armed no swap is due, at a cluster and at a request. -/
theorem idleAt {s : State} {n : Nat} (h : s.armed = none) (g : s.lags n = false) : s.noSwapAt n := ⟨ofNone h, g⟩
theorem idle {s : State} (h : s.armed = none) : s.noSwapDue := ofNone h

theorem meets_StepRunsFrontCommand :
    (∃ s : State, s.pending = [Instr.nop]) ∧ (∃ s : State, s.pending = []) :=
  ⟨⟨{ up with pending := [.nop] }, rfl⟩, ⟨up, rfl⟩⟩

theorem meets_DeviceTimeRunsForward :
    (∃ s t : State, exec .nop s = .next t) ∧ (∃ s t : State, s.pending = [] ∧ step s = .next t) :=
  ⟨⟨up, up, rfl⟩, ⟨up, up.tick, rfl, rfl⟩⟩

theorem meets_FramePulseAndReferenceKeepTime :
    (∃ s : State, s.supply.vcore = true ∧ 9 ∉ s.stalled ∧
      ∀ n < 8, (s.cluster n).clockLost = false → (s.cluster n).counter ≤ s.now + 100 ∧ s.now ≤ (s.cluster n).counter + 100) ∧
    (∃ s : State, s.supply.vcore = false) ∧ (∃ s : State, 9 ∈ s.stalled) ∧
    (∃ s : State, s.refFailAt = some 0 ∧ 0 + 10000000 ≤ s.now) ∧ (∃ s : State, s.refFailAt = some 0 ∧ s.now < 0 + 10000000) :=
  ⟨⟨{ up with now := 100 }, by decide +kernel⟩, ⟨State.reset, rfl⟩, ⟨{ up with stalled := [9] }, by decide⟩, ⟨{ up with refFailAt := some 0, now := 10000000 }, by decide +kernel⟩,
    ⟨{ up with refFailAt := some 0, now := 9999999 }, by decide +kernel⟩⟩

theorem meets_IslandFailureIsContained :
    (∃ (i : Island) (s : State), (∀ n, i ≠ .cl n) ∧ i ≠ .hutch ∧ islandDom i ∉ s.stalled ∧ islandDom i ∉ s.islandBad) ∧
    (∃ (n : Fin 8) (s : State), islandDom (.cl n) ∉ s.stalled ∧ (s.cluster n).clockLost = false) ∧
    (∃ s : State, islandDom .hutch ∉ s.stalled) ∧ (∃ (i : Island) (s : State), islandDom i ∈ s.stalled) ∧
    (∃ (i : Island) (s : State), (∀ n, i ≠ .cl n) ∧ i ≠ .hutch ∧ i ≠ .mgmt ∧ islandDom i ∉ s.supply.clockBad) ∧
    (∃ s : State, s.supply.xtalOk = true) :=
  ⟨⟨.nv, up, by decide +kernel⟩, ⟨7, up, by decide +kernel⟩, ⟨up, by decide⟩, ⟨.can 1, { up with stalled := [15] }, by decide +kernel⟩,
    ⟨.drive, { up with islandBad := [13], stalled := [13] }, by decide +kernel⟩, ⟨up, by decide +kernel⟩⟩

/-- The factory image in bank A starts while nothing is revoked and the rollback count is 0. -/
theorem factory_starts {s : State} (f : s.sec.factory = true) (r : s.reg secRevoked = 0) (c : s.reg secRollbackCount = 0) :
    s.imageCheck 0 = 0 := by
  simp [State.imageCheck, f, r, c, bitOf]

/-- A management plane that a reset has taken down, with the factory image in bank A. -/
def mgmtOut : State := { up with mgmtDown := true }

theorem meets_IslandsAndTheManagementPlaneReturn :
    (∃ (i : Island) (s : State), islandDom i ∈ s.stalled) ∧ (∃ (n : Fin 8) (s : State), islandDom (.cl n) ∈ s.stalled) ∧
    (∃ s : State, s.mgmtDown = true ∧ s.supply.vcore = true ∧ s.sec.inRom = false ∧ s.sec.halted = false ∧ 10 ∉ s.islandBad ∧
      s.bootChoice ≠ none ∧ s.supply.loadNext = none) ∧
    (∃ s : State, s.mgmtDown = true ∧ s.supply.vcore = true ∧ s.sec.inRom = false ∧ s.sec.halted = false ∧ 10 ∉ s.islandBad ∧
      s.bootChoice = none) := by
  refine ⟨⟨.drive, { up with stalled := [13] }, by decide +kernel⟩, ⟨0, { up with stalled := [1] }, by decide +kernel⟩,
    ⟨mgmtOut, rfl, rfl, rfl, rfl, by decide +kernel, ?_, rfl⟩,
    ⟨{ mgmtOut with sec := { factory := false } }, rfl, rfl, rfl, rfl, by decide +kernel, by decide +kernel⟩⟩
  have h : mgmtOut.imageCheck 0 = 0 := factory_starts rfl (by decide +kernel) (by decide +kernel)
  have p : mgmtOut.bootPref = 0 := rfl
  simp [State.bootChoice, p, h]

/-! ### The commit point -/

/-- A commit of set w armed at tick 0 with its T at 1000. -/
def armedSet (w : Nat) (s : State) : State := { s with armed := some { kind := .set w, tick := 1000, since := 0 } }

/-- That a staged content can pass every check, and fail one, is shown by meets_QueuedAndUnconfirmedCommits. -/
theorem meets_CommitsStageCheckArmAndSwap :
    (∃ s : State, s.serves = true ∧ s.armed = none ∧ s.queueC = []) ∧
    (∃ (p : Fin 16) (s : State), s.hears (.partition p) ∧ s.armed = none ∧ s.queueC = []) ∧
    (∃ (r : Role) (s : State), s.hears r ∧ r ≠ .owner) ∧
    (∃ (r : Role) (p : Fin 16) (s : State), s.hears r ∧ r ≠ .owner ∧ r ≠ .partition p) ∧
    (∃ (a : Armed) (s : State), s.armed = some a ∧ a.ready = true ∧ a.tick ≤ s.now ∧
      ∀ n < 8, (s.cluster n).clockLost = false → a.tick ≤ (s.cluster n).counter) ∧
    (∃ (a : Armed) (s : State), s.armed = some a ∧ s.now < a.tick) ∧
    (∃ (a : Armed) (s : State), s.armed = some a ∧ a.ready = false) :=
  ⟨⟨up, by decide +kernel⟩, ⟨15, act [(partDefined 15, 1)] up, hearsPart (by decide +kernel) (by decide +kernel), by decide +kernel⟩,
    ⟨.partition 15, act [(partDefined 15, 1)] up, hearsPart (by decide +kernel) (by decide +kernel), by decide⟩,
    ⟨.partition 15, 14, act [(partDefined 15, 1)] up, hearsPart (by decide +kernel) (by decide +kernel), by decide⟩,
    ⟨{ kind := .set 16, tick := 0, since := 0 }, { up with armed := some { kind := .set 16, tick := 0, since := 0 } }, rfl, by decide +kernel⟩,
    ⟨_, { armedSet 16 up with now := 999 }, rfl, by decide +kernel⟩,
    ⟨{ kind := .set 16, tick := 0, since := 0, ready := false }, { up with armed := some { kind := .set 16, tick := 0, since := 0, ready := false } }, rfl, rfl⟩⟩

/-- A commit of the set armed in this tick: its stage and check phases are in progress. -/
def checkingNow (s : State) : State := { s with armed := some { kind := .powerUp 0, tick := 1000, since := s.now } }

/-- Partition 15 of the device, defined. -/
def withP (s : State) : State := act [(partDefined 15, 1)] s

theorem meets_CommitRequestsWaitAreRefusedOrDiscard :
    (∃ s : State, s.serves = true ∧ s.setBusy 16 = false ∧ s.armed ≠ none ∧ s.checking = false) ∧
    (∃ s : State, s.serves = true ∧ s.setBusy 16 = false ∧ s.checking = true) ∧
    (∃ s : State, s.serves = true ∧ s.setBusy 16 = true) ∧
    (∃ (p : Fin 16) (s : State), s.hears (.partition p) ∧ s.setBusy p = false ∧ s.armed ≠ none ∧ s.checking = false) ∧
    (∃ (p : Fin 16) (s : State), s.hears (.partition p) ∧ s.setBusy p = false ∧ s.checking = true) ∧
    (∃ (p : Fin 16) (s : State), s.hears (.partition p) ∧ s.setBusy p = false) ∧
    (∃ (p : Fin 16) (s : State), s.hears (.partition p) ∧ s.setBusy p = true) ∧
    (∃ (r : Role) (p : Fin 16) (s : State), s.hears r ∧ r ≠ .owner ∧ r ≠ .partition p) :=
  ⟨⟨{ armedSet 3 up with now := 1 }, by decide +kernel⟩, ⟨checkingNow up, by decide +kernel⟩, ⟨{ up with queueC := [(16, 0)] }, by decide +kernel⟩,
    ⟨15, { withP (armedSet 3 up) with now := 1 }, hearsPart (by decide +kernel) (by decide +kernel), by decide +kernel⟩,
    ⟨15, checkingNow (withP up), hearsPart (by decide +kernel) (by decide +kernel), by decide +kernel⟩,
    ⟨15, withP up, hearsPart (by decide +kernel) (by decide +kernel), by decide +kernel⟩,
    ⟨15, withP (armedSet 15 up), hearsPart (by decide +kernel) (by decide +kernel), by decide +kernel⟩,
    ⟨.partition 15, 0, withP up, hearsPart (by decide +kernel) (by decide +kernel), by decide⟩⟩

/-- A commit of the set that waits, with nothing staged, and what its check phase judges. -/
def queuedUp : State := { up with queueC := [(16, 0)] }
def stagedUp : State := queuedUp.stageEntries 16

theorem staged_classes : stagedUp.checkClasses stagedUp.shad = none := by decide +kernel
theorem staged_windows : stagedUp.checkWindows stagedUp.shad = none := by decide +kernel
theorem staged_binding : checkBinding stagedUp.shad = none := by decide +kernel
theorem staged_rule2 : seqRule2 stagedUp.shad = none := by decide +kernel
theorem staged_sequence : seqRule1 stagedUp.shad = none ∧ seqRule3 stagedUp.shad = none ∧ seqRule4 stagedUp.shad = none ∧
    seqRule5 stagedUp.shad = none ∧ seqRule6 stagedUp.shad = none ∧ seqRule7 stagedUp.shad = none ∧ seqRule8 stagedUp.shad = none ∧
    seqRule9 stagedUp.shad = none ∧ seqRule10 stagedUp.shad = none := by decide +kernel
theorem staged_placement : checkPlacement stagedUp.shad stagedUp.supply.devid = none := by decide +kernel
theorem staged_others : stagedUp.checkOthers stagedUp.shad = none := by decide +kernel

/-- The defaults pass every check of a commit. -/
theorem emptyCommit_passes : stagedUp.checkAll stagedUp.shad = none := by
  obtain ⟨q1, q3, q4, q5, q6, q7, q8, q9, q10⟩ := staged_sequence
  simp [State.checkAll, checkSequence, staged_classes, staged_windows, staged_binding, staged_rule2, staged_placement, staged_others,
    q1, q3, q4, q5, q6, q7, q8, q9, q10]

theorem meets_QueuedAndUnconfirmedCommits :
    (∃ s : State, s.mgmtDown = false ∧ s.queueC = [(16, 0)] ∧ s.armed = none ∧
      (s.stageEntries 16).checkAll (s.stageEntries 16).shad = none) ∧
    (∃ s : State, s.mgmtDown = false ∧ s.queueC = [(16, 0)] ∧ s.armed = none ∧
      ∃ x, (s.stageEntries 16).checkAll (s.stageEntries 16).shad = some x ∧ x.st ≠ 0) ∧
    (∃ s : State, s.mgmtDown = false ∧ s.armed ≠ none ∧ s.queueC ≠ []) ∧
    (∃ (a : Armed) (s : State), s.armed = some a ∧ a.kind = .set 16 ∧ a.tick ≤ s.now + 200) ∧
    (∃ (a : Armed) (s : State), s.armed = some a ∧ s.now + 200 < a.tick) ∧
    (∃ s : State, s.mgmtDown = true) ∧
    (∃ (n : Nat) (pin : Bool) (a : Armed) (s : State), s.armed = some a ∧ a.kind = .switch n pin ∧ a.tick ≤ s.now + 200) ∧
    (∃ (n : Nat) (a : Armed) (s : State), s.armed = some a ∧ a.kind = .powerUp n ∧ a.tick ≤ s.now + 200) :=
  ⟨⟨queuedUp, rfl, rfl, rfl, emptyCommit_passes⟩,
    ⟨({ up with queueC := [(16, 0)] }).setStage 16 { entries := [(chKind 0, 1)] }, by decide +kernel, by decide +kernel,
      by decide +kernel, someWith (by decide +kernel)⟩,
    ⟨armedSet 16 { up with queueC := [(3, 0)] }, by decide +kernel⟩, ⟨_, { armedSet 16 up with now := 800 }, rfl, by decide +kernel⟩,
    ⟨_, { armedSet 16 up with now := 799 }, rfl, by decide +kernel⟩,
    ⟨State.reset, rfl⟩,
    ⟨3, true, { kind := .switch 3 true, tick := 200, since := 0 }, { up with armed := some { kind := .switch 3 true, tick := 200, since := 0 } }, rfl, rfl, by decide⟩,
    ⟨0, { kind := .powerUp 0, tick := 200, since := 0 }, { up with armed := some { kind := .powerUp 0, tick := 200, since := 0 } }, rfl, rfl, by decide⟩⟩

/-! ### Channels and pins -/

/-- Channel 511 a VOLTAGE channel of partition 15 in a state, with SETTLE_TIME 1 µs and DEADLINE 1 ms. -/
def volt (x : ChanX) : State :=
  (act [(chKind 511, 1), (chPartition 511, 15), (chSettleTime 511, 1), (chDeadline 511, 1)] up).setChan 511 x

/-- The same with the counter of its cluster at a tick. -/
def voltAt (n : Nat) (x : ChanX) : State := (volt x).setCluster 7 { counter := n }

/-- A crossing of the upper threshold that lasts, and one that does not reach it. -/
def above : Crossing := { side := .upper, pin := 3000000000, held := 1000000 }
def below : Crossing := { side := .upper, pin := 0, held := 1000000 }

/-- The channel in RUNNING, whose cluster has not come to the tick of the latest swap. -/
def laggard : State := reg [(profLastCommitTick, 1)] { volt { state := .running } with prior := (volt {}).active }

theorem meets_WindowExitTripsOnlyAConnectedChannel :
    (∃ (c : Fin 512) (x : Crossing) (s : State), s.connected c = true ∧ s.inWindow c = true ∧ (s.cluster (clOf c)).clockLost = false ∧
      s.noSwapAt (clOf c) ∧ s.asserts c x = true ∧ (s.latch (clOf c) (s.chPart c)).isSet = false) ∧
    (∃ (c : Fin 512) (x : Crossing) (s : State), s.kind c ≠ 0 ∧ s.connected c = false ∧ s.cutNow c = false ∧ (s.cluster (clOf c)).clockLost = false ∧
      s.noSwapAt (clOf c) ∧ s.timersIdle (s.stateOwner c) ∧ s.asserts c x = true ∧ (s.chan c).state = .settle ∧ s.inWindow c = true) ∧
    (∃ (c : Fin 512) (x : Crossing) (s : State), s.noSwapAt (clOf c) ∧ s.asserts c x = false) ∧
    (∃ (c : Fin 512) (x : Crossing) (s : State), s.noSwapDue ∧ (s.cluster (clOf c)).clockLost = true ∧ s.kind c ≠ 0 ∧ s.asserts c x = true) ∧
    (∃ (a : Armed) (s : State), s.armed = some a ∧ s.swapDue a = true) ∧
    (∃ (c : Fin 512) (x : Crossing) (q s : State), s.noSwapDue ∧ s.lags (clOf c) = true ∧ q = { s with active := s.prior } ∧
      q.connected c = true ∧ q.inWindow c = true ∧ q.asserts c x = true) :=
  ⟨⟨511, above, volt { state := .running }, by decide +kernel, by decide +kernel, by decide +kernel, ⟨idle rfl, by decide +kernel⟩, by decide +kernel⟩,
    ⟨511, above, voltAt 100 { state := .settle }, by decide +kernel, by decide +kernel, by decide +kernel, by decide +kernel, ⟨idle rfl, by decide +kernel⟩,
      fun _ => by decide +kernel, by decide +kernel, by decide +kernel, by decide +kernel⟩,
    ⟨511, below, volt {}, ⟨idle rfl, by decide +kernel⟩, by decide +kernel⟩,
    ⟨511, above, (volt {}).setCluster 7 { clockLost := true }, idle rfl, by decide +kernel⟩,
    ⟨_, armedSet 16 (voltAt 1000 {}), rfl, by decide +kernel⟩,
    ⟨511, above, _, laggard, idle rfl, by decide +kernel, rfl, by decide +kernel, by decide +kernel, by decide +kernel⟩⟩

theorem meets_WindowEntryThenSettlingThenRunning :
    (∃ (c : Fin 512) (v : Int) (s : State), s.kind c = 1 ∧ s.inWindow c = false ∧ (s.cluster (clOf c)).clockLost = false ∧ s.noSwapAt (clOf c) ∧
      s.clearsAt c ((s.chan c).upperCmp, (s.chan c).lowerCmp) v = true ∧
      s.act (chSettleTime c) ≠ 0 ∧ s.ctr (clOf c) < s.deadlineDue c ∧ (s.chan c).state = .armed) ∧
    (∃ (c : Fin 512) (v : Int) (s : State), s.kind c = 1 ∧ s.inWindow c = false ∧ (s.cluster (clOf c)).clockLost = false ∧ s.noSwapAt (clOf c) ∧
      s.clearsAt c ((s.chan c).upperCmp, (s.chan c).lowerCmp) v = true ∧
      (s.chan c).state = .absent) ∧
    (∃ (c : Fin 512) (v : Int) (s : State), s.kind c = 1 ∧ s.inWindow c = false ∧ (s.cluster (clOf c)).clockLost = false ∧ s.noSwapAt (clOf c) ∧
      s.clearsAt c ((s.chan c).upperCmp, (s.chan c).lowerCmp) v = true ∧
      s.deadlineDue c = s.ctr (clOf c) ∧ (s.chan c).state = .ramp) ∧
    (∃ (c : Fin 512) (v : Int) (s : State), s.kind c = 1 ∧ s.inWindow c = false ∧ (s.cluster (clOf c)).clockLost = false ∧ s.noSwapAt (clOf c) ∧
      s.clearsAt c ((s.chan c).upperCmp, (s.chan c).lowerCmp) v = true ∧
      s.deadlineDue c < s.ctr (clOf c) ∧ (s.chan c).state = .armed) ∧
    (∃ (c : Fin 512) (s : State), s.kind c = 1 ∧ s.inWindow c = true ∧ (s.cluster (clOf c)).clockLost = false ∧ s.noSwapAt (clOf c) ∧
      s.settleDue c < s.ctr (clOf c) ∧ (∀ d < 512, s.kind d = 2 → s.act (chCompanion d) = c.val → s.inWindow d = true) ∧
      (s.chan c).state = .settle ∧ s.settleDue c ≤ s.deadlineDue c) ∧
    (∃ (c : Fin 512) (s : State), s.kind c = 1 ∧ s.inWindow c = true ∧ (s.cluster (clOf c)).clockLost = false ∧ s.noSwapAt (clOf c) ∧
      s.settleDue c < s.ctr (clOf c) ∧ (∀ d < 512, s.kind d = 2 → s.act (chCompanion d) = c.val → s.inWindow d = true) ∧
      (s.chan c).state = .absent) ∧
    (∃ (c : Fin 512) (s : State), s.noSwapAt (clOf c) ∧ s.ctr (clOf c) ≤ s.settleDue c) ∧
    (∃ (c : Fin 512) (d : Nat) (s : State), s.kind c = 1 ∧ s.inWindow c = true ∧ (s.cluster (clOf c)).clockLost = false ∧
      s.noSwapAt (clOf c) ∧ s.settleDue c < s.ctr (clOf c) ∧ s.settleDue c ≤ s.deadlineDue c ∧ (s.chan c).state = .settle ∧
      (s.companions c).filter (fun e => !s.inWindow e && (s.chan e).state != .tripped) = [d] ∧ (s.part (s.chPart d)).line = false) := by
  refine ⟨⟨511, 2000000000, voltAt 99999 { state := .armed, lowerCmp := true }, ?_, ?_, ?_, idleAt rfl ?_, ?_⟩,
    ⟨511, 2000000000, volt { state := .absent, lowerCmp := true }, ?_, ?_, ?_, idleAt rfl ?_, ?_⟩,
    ⟨511, 2000000000, voltAt 100000 { state := .ramp, lowerCmp := true }, ?_, ?_, ?_, idleAt rfl ?_, ?_⟩,
    ⟨511, 2000000000, voltAt 100001 { state := .armed, lowerCmp := true }, ?_, ?_, ?_, idleAt rfl ?_, ?_⟩,
    ⟨511, voltAt 101 { state := .settle }, ?_, ?_, ?_, idleAt rfl ?_, ?_⟩, ⟨511, voltAt 101 { state := .absent }, ?_, ?_, ?_, idleAt rfl ?_, ?_⟩,
    ⟨511, voltAt 100 { state := .settle }, idleAt rfl ?_, ?_⟩,
    ⟨511, 510, (act [(chKind 510, 2), (chCompanion 510, 511)] (voltAt 101 { state := .settle })).setChan 510 { upperCmp := true }, ?_, ?_, ?_,
      idleAt rfl ?_, ?_⟩⟩ <;> decide +kernel

theorem meets_DeadlinesClearStaleAndVioBanks :
    (∃ (c : Fin 512) (s : State), s.kind c = 1 ∧ (s.cluster (clOf c)).clockLost = false ∧ s.noSwapAt (clOf c) ∧
      s.deadlineDue c < s.ctr (clOf c) ∧ (s.chan c).state = .settle ∧ s.inWindow c = true ∧ s.deadlineDue c < s.settleDue c) ∧
    (∃ (c : Fin 512) (s : State), s.kind c = 1 ∧ s.inWindow c = true ∧ (s.cluster (clOf c)).clockLost = false ∧ s.noSwapAt (clOf c) ∧
      s.settleDue c < s.ctr (clOf c) ∧ (s.chan c).state = .settle ∧ s.settleDue c ≤ s.deadlineDue c ∧
      (∀ d < 512, s.kind d = 2 → s.act (chCompanion d) = c.val → s.inWindow d = true)) ∧
    (∃ (c : Fin 512) (s : State), s.noSwapAt (clOf c) ∧ s.ctr (clOf c) ≤ s.deadlineDue c ∧ s.ctr (clOf c) ≤ s.settleDue c) ∧
    (∃ (r : Role) (c : Fin 512) (s : State), s.hears r ∧ ownerOr r (s.chPart c) = true) ∧
    (∃ (r : Role) (c : Fin 512) (s : State), s.hears r ∧ ownerOr r (s.chPart c) = false) ∧
    (∃ (r : Role) (c : Fin 512) (v : Byte) (s : State), s.hears r ∧ ownerOr r (s.chPart c) = true ∧ v ≠ 1) ∧
    (∃ (c : Fin 512) (s : State), s.kind c ≠ 0 ∧
      s.reg (chsResultTick c) * 10 + (4 * s.refreshBase (clOf c) (groupIn c) + (s.chan c).late) ≤ s.ctr (clOf c) * 10) ∧
    (∃ (c : Fin 512) (s : State), s.kind c ≠ 0 ∧ (s.cluster (clOf c)).clockLost = true) ∧
    (∃ s : State, s.committed = true) := by
  refine ⟨⟨511, voltAt 100001 { state := .settle, settleAt := 99901 }, ?_, ?_, idleAt rfl ?_, ?_⟩,
    ⟨511, voltAt 100001 { state := .settle, settleAt := 99900 }, ?_, ?_, ?_, idleAt rfl ?_, ?_⟩, ⟨511, voltAt 100 {}, idleAt rfl ?_, ?_⟩,
    ⟨.partition 15, 511, withP (volt {}), hearsPart ?_ ?_, ?_⟩, ⟨.partition 15, 0, withP up, hearsPart ?_ ?_, ?_⟩,
    ⟨.owner, 511, 0, withP (volt {}), hearsOwner ?_, ?_⟩, ⟨511, voltAt 1000000 {}, ?_⟩,
    ⟨511, (volt {}).setCluster 7 { clockLost := true }, ?_⟩, ⟨up, rfl⟩⟩ <;> decide +kernel

/-! ### Integrating measurement -/

theorem meets_ResultsRoundToTheirResolution :
    (∃ ps : Nat, 500000 ≤ ps ∧ ps < 1000000) ∧ (∃ ps : Nat, 16000000 ≤ ps ∧ ps ≤ 1024000000) ∧ (∃ mean : Int, mean ≤ 0) ∧
    (∃ mean : Int, 0 < mean) :=
  ⟨⟨500000, by decide⟩, ⟨1024000000, by decide⟩, ⟨0, by decide⟩, ⟨1, by decide⟩⟩

/-- R79 at its edges: half a step of an 11-bit result rounds up, and what rounds to 2.400 V reads 65,535. -/
theorem test_result_edges :
    resultOf 500000 585937 = 0 ∧ resultOf 500000 585938 = 32 ∧ resultOf 500000 2399414062 = 65504 ∧ resultOf 500000 2399414063 = 65535 := by
  decide +kernel

/-- Channel 511 a CURRENT channel that measures: its window has had its time. -/
def amps (k : Nat) (x : ChanX) : State := (act [(chKind 511, 2)] up).setChan 511 x |>.setCluster 7 { counter := k }

theorem meets_SliceResultsAndOpenWireTests :
    (∃ (c : Fin 512) (v : Visit) (s : State), s.measures c = true ∧ s.visitDue c (s.windowEnds c) = true ∧ s.owNext c = none ∧ 11 ∉ s.islandBad ∧
      (s.sliceWindow c).kind = 2 ∧ (s.chan c).gapClear = true ∧
      0 ≤ (s.sliceWindow c).charge v.mean (if (s.chan c).gapClear = true then 0 else clampInt (-gapMax) gapMax v.gap)) ∧
    (∃ (c : Fin 512) (v : Visit) (s : State), s.measures c = true ∧ s.visitDue c (s.windowEnds c) = true ∧ s.owNext c = none ∧ 11 ∉ s.islandBad ∧
      (s.sliceWindow c).kind = 2 ∧ (s.chan c).gapClear = false ∧
      (s.sliceWindow c).charge v.mean (if (s.chan c).gapClear = true then 0 else clampInt (-gapMax) gapMax v.gap) < 0) ∧
    (∃ (c : Fin 512) (s : State), s.measures c = false) ∧ (∃ (c : Fin 512) (s : State), s.measures c = true ∧ s.visitDue c (s.windowEnds c) = false) ∧
    (∃ (c : Fin 512) (s : State), s.owNext c ≠ none) ∧
    (∃ (n g : Fin 8) (s : State), s.committed = true ∧ (s.cluster n).clockLost = false ∧
      (∀ a, tabFind (s.cluster n).owAt g = some a → a + 10000000 ≤ s.now) ∧ ((s.cluster n).sliceMap[g.val]?).join ≠ none ∧
      511 ∈ s.boundIn n g ∧ s.owRun 511 = true) ∧
    (∃ (c : Fin 512) (first second : Visit) (a b : Nat) (s : State), s.owNext c = some true ∧ s.measures c = true ∧ s.visitDue c (s.pairEnds c) = true ∧
      11 ∉ s.islandBad ∧ a = resultOf (s.sliceWindow c).ps first.mean ∧ b = resultOf (s.pairWindow c).ps second.mean ∧
      13107200000 ≤ ((a : Int) - b).natAbs * 2400000 ∧ 1 ≤ (s.chan c).owFails) ∧
    (∃ (c : Fin 512) (first second : Visit) (a b : Nat) (s : State), s.owNext c = some false ∧ s.measures c = true ∧ s.visitDue c (s.pairEnds c) = true ∧
      (s.chan c).marginPend = none ∧ a = resultOf (s.sliceWindow c).ps first.mean ∧ b = resultOf (s.pairWindow c).ps second.mean ∧
      65536000000 ≤ ((a : Int) - b) * 2400000 ∧ 1 ≤ (s.chan c).owFails ∧ (s.chan c).openWire = false ∧ s.mgmtDown = false) ∧
    (∃ (c : Fin 512) (s : State), s.owNext c = some true ∧ s.visitDue c (s.pairEnds c) = false) ∧
    (∃ (c : Nat) (s : State), (s.round (clOf c) (groupIn c)).tested = true) :=
  ⟨⟨511, { mean := 0, gap := 0, tour := none }, amps 10000 {}, by decide +kernel⟩,
    ⟨511, { mean := -1000, gap := 0, tour := none }, amps 10000 { gapClear := false }, by decide +kernel⟩,
    ⟨0, up, by decide +kernel⟩, ⟨511, amps 0 {}, by decide +kernel⟩,
    ⟨511, act [(clOwRunEnable 7, 1)] (volt { state := .running, owKinds := [true] }), by decide +kernel⟩,
    ⟨7, 7, { (act [(clOwRunEnable 7, 1)] (volt { state := .running })).setCluster 7 { owAt := [(7, 0)] } with now := 10000000 },
      by decide +kernel, by decide +kernel, ofSome (b := 0) (by decide +kernel) (by decide +kernel), by decide +kernel⟩,
    ⟨511, { mean := 0, gap := 0, tour := none }, { mean := 1000000000, gap := 0, tour := none }, _, _,
      act [(clOwRunEnable 7, 1)] (voltAt 100000 { state := .running, owKinds := [true], owFails := 1 }), by decide +kernel, by decide +kernel,
      by decide +kernel, by decide +kernel, rfl, rfl, by decide +kernel⟩,
    ⟨511, { mean := 1000000000, gap := 0, tour := none }, { mean := 0, gap := 0, tour := none }, _, _,
      act [(clOwOffEnable 7, 1)] (voltAt 100000 { state := .off, owKinds := [false], owFails := 1 }), by decide +kernel, by decide +kernel,
      by decide +kernel, by decide +kernel, rfl, rfl, by decide +kernel⟩,
    ⟨511, act [(clOwRunEnable 7, 1)] (volt { state := .running, owKinds := [true] }), by decide +kernel⟩,
    ⟨511, up.setRound 7 7 { tested := true }, by decide +kernel⟩⟩

theorem meets_EpochsRotateAndCalibrateTheSpare :
    (∃ (n : Fin 8) (s : State), s.committed = true ∧ (s.cluster n).clockLost = false ∧ s.spare n ≠ none ∧ (s.cluster n).calDone = true ∧
      (s.cluster n).tourDone = true ∧ (s.cluster n).epochAt + 100000 * s.act (clEpoch n) ≤ s.now ∧ (s.cluster n).sliceMap.length = 9) ∧
    (∃ (n : Fin 8) (k : Nat) (cal : Calibration) (s : State), s.committed = true ∧ (s.cluster n).clockLost = false ∧
      (s.cluster n).calDone = false ∧ s.spare n = some k ∧ bitOf (s.cluster n).suspect k = true ∧ cal.inLimits = true) ∧
    (∃ (n : Fin 8) (k : Nat) (cal : Calibration) (s : State), s.committed = true ∧ (s.cluster n).clockLost = false ∧
      (s.cluster n).calDone = false ∧ s.spare n = some k ∧ bitOf (s.cluster n).suspect k = true ∧ cal.inLimits = false ∧
      (s.cluster n).sliceMap.length = 9) ∧
    (∃ (n : Fin 8) (k : Nat) (cal : Calibration) (s : State), s.committed = true ∧ (s.cluster n).clockLost = false ∧
      (s.cluster n).calDone = false ∧ s.spare n = some k ∧ bitOf (s.cluster n).suspect k = false ∧ (s.cluster n).refDone = false ∧
      (s.cluster n).refSuspect = false ∧ 1 ≤ (s.cluster n).refBad ∧
      196608000 < ((cal.checkRef % 65536 : Nat) * (2400000 : Int) - 81920000000).natAbs) :=
  ⟨⟨7, (act [(clEpoch 7, 1)] { up with now := 100000 }).setCluster 7 { calDone := true, tourDone := true }, by decide +kernel⟩,
    ⟨7, 8, { ref := 0, checkRef := 0, inLimits := true, refPass := true }, up.setCluster 7 { suspect := 256 }, by decide +kernel⟩,
    ⟨7, 8, { ref := 0, checkRef := 0, inLimits := false, refPass := true }, up.setCluster 7 { suspect := 256 }, by decide +kernel⟩,
    ⟨0, 8, { ref := 0, checkRef := 34216, inLimits := false, refPass := false }, up.setCluster 0 { refBad := 1 }, by decide +kernel⟩⟩

theorem meets_FailedSlicesAndLockSourcesFallBack :
    (∃ (n : Fin 8) (k : Fin 9) (s : State), bitOf (s.cluster n).failed k = false ∧ (s.cluster n).sliceMap.length = 9 ∧
      some k.val ∈ (s.cluster n).sliceMap) ∧
    (∃ s : State, s.act (clLockSource 7) ≠ 0 ∧ s.act (clWindowMode 7) = 1 ∧ (s.cluster 7).lockFall = false) ∧
    (∃ s : State, (s.cluster 7).lockFall = true ∧ (s.cluster 7).lockRes = false ∧ s.act (clLockSource 7) ≠ 0 ∧ s.carrierRuns (s.act (clLockSource 7) - 1) = true ∧
      (s.cluster 7).lockAt + 1000000000 / s.carrierFreq (s.act (clLockSource 7) - 1) ≤ s.now) ∧
    (∃ (n a : Nat) (s : State), n < 8 ∧ (s.cluster n).syncRestart = some a ∧ a ≤ s.now) ∧
    (∃ (n : Fin 8) (k : Fin 9) (s : State), bitOf (s.cluster n).failed k = true) ∧
    (∃ s : State, s.now < (s.cluster 7).lockAt + 1000000000 / s.carrierFreq (s.act (clLockSource 7) - 1)) ∧
    (∃ (n a : Nat) (s : State), n < 8 ∧ (s.cluster n).syncRestart = some a ∧ s.now < a) :=
  ⟨⟨7, 8, up, by decide +kernel⟩, ⟨act [(clLockSource 7, 4), (clWindowMode 7, 1)] up, by decide +kernel⟩,
    ⟨(act [(clLockSource 7, 1), (drvEnable 0, 1)] { up with now := 1000000000 }).setCluster 7 { lockFall := true }, by decide +kernel⟩,
    ⟨7, 0, up.setCluster 7 { syncRestart := some 0 }, by decide +kernel⟩,
    ⟨0, 0, up.setCluster 0 { failed := 1 }, by decide +kernel⟩,
    ⟨act [(clLockSource 7, 1), (drvEnable 0, 1)] up, by decide +kernel⟩,
    ⟨7, 1, up.setCluster 7 { syncRestart := some 1 }, by decide +kernel⟩⟩

/-! ### Shut-off and restart -/

theorem meets_DischargeFaultLinesAndSafeNEnd :
    (∃ (p : Fin 16) (k : Nat) (s : State), (s.part p).dischEnd = some k ∧ k ≤ s.now ∧ 255 ∈ (s.part p).dischEns ∧
      (s.cluster (enCl 255)).clockLost = false ∧ 0 ∈ (s.part p).dischEns ∧ (s.cluster (enCl 0)).clockLost = true ∧
      (s.en 0).asserted = true) ∧
    (∃ (p : Fin 16) (k : Nat) (s : State), (s.part p).dischEnd = some k ∧ s.now < k) ∧
    (∃ (n : Fin 4) (k : Nat) (s : State), (s.group n).fltDrive = some k ∧ k ≤ s.now) ∧
    (∃ (n : Fin 4) (k : Nat) (s : State), (s.group n).fltDrive = some k ∧ s.now < k) ∧
    (∃ (n : Fin 4) (k : Nat) (s : State), (s.group n).fltLow = some k ∧ k + 1000000 < s.now ∧ bitOf (s.reg fabsFltStuck) n = false) ∧
    (∃ (n : Fin 4) (s : State), bitOf (s.reg fabsFltStuck) n = true) ∧
    (∃ (n : Fin 4) (s : State), (s.group n).fltDrive = none ∧
      (∀ a, (s.group n).fltHigh = some a → a + 100000 ≤ s.now) ∧ bitOf (s.reg fabsFltStuck) n = true) ∧
    (∃ (n : Fin 4) (s : State), (s.group n).fltDrive ≠ none) ∧
    (∃ (n : Fin 4) (a : Nat) (s : State), (s.group n).fltHigh = some a ∧ s.now < a + 100000) ∧ (∃ s : State, s.safeHeld = false) ∧
    (∃ s : State, s.safeHeld = true) :=
  ⟨⟨15, 1, { ((up.setPart 15 { dischEnd := some 1, dischEns := [0, 255] }).setCluster 0 { clockLost := true }).setEn 0 { asserted := true } with
        now := 1 }, by decide +kernel⟩,
    ⟨15, 1, up.setPart 15 { dischEnd := some 1 }, by decide +kernel⟩,
    ⟨3, 1, { up.setGroup 3 { fltDrive := some 1 } with now := 1 }, by decide +kernel⟩, ⟨3, 1, up.setGroup 3 { fltDrive := some 1 }, by decide +kernel⟩,
    ⟨3, 0, { up.setGroup 3 { fltLow := some 0 } with now := 1000001 }, by decide +kernel⟩, ⟨3, reg [(fabsFltStuck, 8)] up, by decide +kernel⟩,
    ⟨3, { (reg [(fabsFltStuck, 8)] up).setGroup 3 { fltHigh := some 0 } with now := 100000 }, by decide +kernel,
      ofSome (b := 0) (by decide +kernel) (by decide +kernel), by decide +kernel⟩,
    ⟨0, up.setGroup 0 { fltDrive := some 0 }, by decide +kernel⟩, ⟨0, 0, { up.setGroup 0 { fltHigh := some 0 } with now := 99999 }, by decide +kernel⟩,
    ⟨up, by decide +kernel⟩, ⟨up.setPart 15 { state := .faulted }, by decide +kernel⟩⟩

/-- Partition 15 on devices 0 and 1, in step group 3, UP. -/
def spanned : State :=
  (act [(partDefined 15, 1), (partDeviceMap 15, 3), (partStepGroup 15, 3), (fabFltRxEnable, 8)] up).setPart 15 { state := .up }

theorem meets_FaultLineClockLossAndClockBack :
    (∃ (n : Fin 4) (s : State), (s.group n).fltDrive = none ∧ s.committed = true ∧ bitOf (s.act fabFltRxEnable) n = true ∧
      bitOf (s.reg fabsFltStuck) n = false ∧ s.defined 15 = true ∧ s.groupOf 15 = n.val ∧ s.spanning 15 = true ∧
      (s.part 15).state.isLive = true ∧ (s.part 15).line = false) ∧
    (∃ (n : Fin 4) (s : State), (s.group n).fltDrive = none ∧ bitOf (s.act fabFltRxEnable) n = false) ∧
    (∃ (p : Fin 16) (s : State), (s.part p).state.isLive = false ∧ s.cutThisTick p = false) ∧
    (∃ (n : Fin 8) (s : State), (s.cluster n).clockLost = false ∧ 15 ∈ s.lossHits n ∧ (s.part 15).line = false ∧
      ∀ m < 8, (s.latch m 15).isSet = false) ∧
    (∃ (n : Fin 8) (s : State) (c : Nat), (s.cluster n).clockLost = true ∧ (s.cluster n).lostTime + 100000 ≤ s.now ∧ n.val + 1 ∉ s.stalled ∧
      (∀ d < 512, s.kind d ≠ 2) ∧ c < 512 ∧ clOf c = n.val ∧ s.kind c = 1 ∧ bitOf (s.cluster n).lostParts (s.chPart c) = false ∧
      (s.chan c).parkPend = false ∧ (s.chan c).state = .absent) ∧
    (∃ (n : Fin 8) (s : State) (c : Nat), (s.cluster n).clockLost = true ∧ (s.cluster n).lostTime + 100000 ≤ s.now ∧ n.val + 1 ∉ s.stalled ∧
      c < 512 ∧ clOf c = n.val ∧ s.kind c = 1 ∧ bitOf (s.cluster n).lostParts (s.chPart c) = true) ∧
    (∃ (n : Fin 8) (s : State) (c : Nat), (s.cluster n).clockLost = true ∧ (s.cluster n).lostTime + 100000 ≤ s.now ∧ n.val + 1 ∉ s.stalled ∧
      c < 512 ∧ clOf c = n.val ∧ s.kind c = 1 ∧ bitOf (s.cluster n).lostParts (s.chPart c) = false ∧ (s.chan c).parkPend = false ∧
      (s.chan c).state = .settle ∧ s.deadlineDue c ≤ max (s.cluster n).counter s.now) ∧
    (∃ (n : Fin 8) (s : State), (s.cluster n).clockLost = false) ∧
    (∃ (n : Fin 8) (s : State), s.now < (s.cluster n).lostTime + 100000) ∧ (∃ (n : Fin 8) (s : State), n.val + 1 ∈ s.stalled) :=
  ⟨⟨3, spanned, by decide +kernel⟩, ⟨2, spanned, by decide +kernel⟩, ⟨14, spanned, by decide +kernel⟩, ⟨7, volt { state := .running }, by decide +kernel⟩,
    ⟨7, { (volt { state := .absent }).setCluster 7 { clockLost := true } with now := 100000 }, 511, by decide +kernel⟩,
    ⟨7, { (volt {}).setCluster 7 { clockLost := true, lostParts := 32768 } with now := 100000 }, 511, by decide +kernel⟩,
    ⟨7, { (volt { state := .settle }).setCluster 7 { clockLost := true } with now := 100000 }, 511, by decide +kernel⟩,
    ⟨7, up, by decide +kernel⟩, ⟨0, { up with now := 99999 }, by decide +kernel⟩, ⟨7, { up with stalled := [8] }, by decide +kernel⟩⟩

/-- Partition 15 with a channel, in a state. -/
def pState (x : PartX) : State := (withP (volt {})).setPart 15 x

theorem meets_RestartRetryAndForceOff :
    (∃ (p : Fin 16) (k : Nat) (s : State), (s.part p).retryAt = some k ∧ k ≤ s.now ∧ s.retryReady p = true ∧ (s.part p).state = .faulted ∧
      s.heldHigh p = none) ∧
    (∃ (p : Fin 16) (k c : Nat) (s : State), (s.part p).retryAt = some k ∧ k ≤ s.now ∧ s.retryReady p = true ∧
      (s.part p).state = .faulted ∧ s.heldHigh p = some c) ∧
    (∃ (p : Fin 16) (k : Nat) (s : State), (s.part p).retryAt = some k ∧ s.now < k) ∧
    (∃ (p : Fin 16) (k : Nat) (s : State), (s.part p).retryAt = some k ∧ s.retryReady p = false) ∧
    (∃ (r : Role) (p : Fin 16) (s : State), s.hears r ∧ ownerOr r p = true ∧ ((s.part p).state = .lockedOut ∧ r = .owner) ∧
      (s.thermal.hotShut.inForce && bitOf (s.act thShutMap) p) = false ∧ s.restartWaits p = false) ∧
    (∃ (r : Role) (p : Fin 16) (s : State), s.hears r ∧ ownerOr r p = true ∧ (s.part p).state = .faulted ∧
      (s.thermal.hotShut.inForce && bitOf (s.act thShutMap) p) = false ∧ s.restartWaits p = true) ∧
    (∃ (p : Fin 16) (s : State), s.serves = true ∧ s.defined p = true ∧ (s.part p).state = .lockedOut) ∧
    (∃ (p : Fin 16) (s : State), s.serves = true ∧ (s.part p).state.isFaulted = true ∧ s.thermal.hotShut.inForce = true ∧
      bitOf (s.act thShutMap) p = true) ∧
    (∃ (p : Fin 16) (s : State), s.serves = true ∧ (s.part p).state.isFaulted = false) ∧
    (∃ (r : Role) (p : Fin 16) (s : State), s.hears r ∧ ownerOr r p = true ∧ (s.part p).line = false) ∧
    (∃ (r : Role) (p : Fin 16) (s : State), s.hears r ∧ ownerOr r p = true ∧ (s.part p).line = true ∧
      s.cutThisTick p = false) ∧
    (∃ (r : Role) (p : Fin 16) (s : State), s.hears r ∧ ownerOr r p = false) :=
  ⟨⟨15, 1, { pState { state := .faulted, retryAt := some 1 } with now := 1 }, by decide +kernel⟩,
    ⟨15, 1, 511, { pState { state := .faulted, retryAt := some 1 } with now := 1 }.setChan 511 { upperCmp := true }, by decide +kernel⟩,
    ⟨15, 1, pState { retryAt := some 1 }, by decide +kernel⟩,
    ⟨15, 0, pState { retryAt := some 0, dischEnd := some 1 }, by decide +kernel⟩,
    ⟨.owner, 15, pState { state := .lockedOut }, hearsOwner (by decide +kernel), by decide +kernel⟩,
    ⟨.partition 15, 15, pState { state := .faulted, dischEnd := some 0 }, hearsPart (by decide +kernel) (by decide +kernel), by decide +kernel⟩,
    ⟨15, pState { state := .lockedOut }, by decide +kernel⟩,
    ⟨15, { act [(thShutMap, 32768)] (pState { state := .faulted }) with thermal := { hotShut := { inForce := true } } }, by decide +kernel⟩,
    ⟨15, pState {}, by decide +kernel⟩,
    ⟨.partition 15, 15, pState {}, hearsPart (by decide +kernel) (by decide +kernel), by decide +kernel⟩,
    ⟨.owner, 15, pState { line := true }, hearsOwner (by decide +kernel), by decide +kernel⟩,
    ⟨.partition 15, 14, pState {}, hearsPart (by decide +kernel) (by decide +kernel), by decide +kernel⟩⟩

/-! ### Sequences -/

/-- Partition 15 in step group 3 after the start-up hold, with what the device keeps of the group. -/
def barrier (g : GroupX) : State :=
  { act [(partDefined 15, 1), (partStepGroup 15, 3)] (volt {}) with trestle := { phase := 4, liftedAt := some 0 } }.setGroup 3 g

theorem meets_BarrierAdvancesOneState :
    (∃ (n : Fin 4) (s : State), s.committed = true ∧ s.stepCluster n ≠ none ∧ s.heldLow n = false ∧ (s.group n).zeroedAt ≠ some s.now ∧
      s.grpState n = s.goalOf n) ∧
    (∃ (n : Fin 4) (s : State), s.committed = true ∧ s.stepCluster n ≠ none ∧ s.heldLow n = false ∧ (s.group n).zeroedAt ≠ some s.now ∧
      s.grpState n < s.goalOf n) ∧
    (∃ (n : Fin 4) (s : State), s.committed = true ∧ s.stepCluster n ≠ none ∧ (s.group n).zeroedAt ≠ some s.now ∧
      s.grpState n ≠ s.goalOf n ∧ s.heldLow n = true) ∧
    (∃ (n : Fin 4) (s : State), (s.group n).zeroedAt = some s.now) ∧
    (∃ (n : Fin 4) (s : State), s.heldLow n = true) ∧
    (∃ (n : Fin 4) (k : Nat) (s : State), (s.group n).guardFrom = some k ∧ k + 100 ≤ s.now) ∧
    (∃ (n : Fin 4) (k : Nat) (s : State), (s.group n).guardFrom = some k ∧ s.now < k + 100) ∧
    (∃ (n : Fin 4) (s : State), s.serves = true ∧ ∀ p ∈ s.groupParts n, s.member p = false) ∧
    (∃ (n : Fin 4) (p : Nat) (s : State), s.serves = true ∧ p ∈ s.groupParts n ∧ s.member p = true) ∧
    (∃ (r : Role) (s : State), s.hears r ∧ r ≠ .owner) :=
  ⟨⟨3, reg [(grpGoal 3, 0)] (barrier {}), by decide +kernel⟩, ⟨3, reg [(grpGoal 3, 1)] (barrier {}), by decide +kernel⟩,
    ⟨3, reg [(grpGoal 3, 1)] (barrier { mismatch := true }), by decide +kernel⟩,
    ⟨3, barrier { zeroedAt := some 0 }, by decide +kernel⟩, ⟨3, barrier { mismatch := true }, by decide +kernel⟩, ⟨3, 0, { barrier { guardFrom := some 0 } with now := 100 }, by decide +kernel⟩,
    ⟨3, 0, { barrier { guardFrom := some 0 } with now := 99 }, by decide +kernel⟩, ⟨3, spanned, by decide +kernel⟩,
    ⟨3, 15, spanned.setPart 15 { phase := .inStep }, by decide +kernel⟩,
    ⟨.partition 15, pState {}, hearsPart (by decide +kernel) (by decide +kernel), by decide⟩⟩

theorem meets_GoalStartAndStopMoveMembers :
    (∃ (v : Byte) (s : State), s.serves = true ∧ v.toNat ≠ 255 ∧ s.switchChecks = false) ∧
    (∃ (p : Fin 16) (s : State), s.serves = true ∧ s.defined p = true) ∧
    (∃ (r : Role) (p : Fin 16) (s : State), s.hears r ∧ ownerOr r p = true ∧ s.committed = true ∧ s.switchChecks = false ∧
      (s.part p).state = .down ∧ s.member p = false ∧ s.startHeld p = false) ∧
    (∃ (r : Role) (p : Fin 16) (s : State), s.hears r ∧ ownerOr r p = true ∧ s.committed = true ∧ s.switchChecks = false ∧
      (s.part p).state = .down ∧ s.member p = false ∧ s.startHeld p = true ∧ (s.part p).startPend = false) ∧
    (∃ (r : Role) (p : Fin 16) (s : State), s.hears r ∧ ownerOr r p = true ∧ s.committed = false) ∧
    (∃ (r : Role) (p : Fin 16) (s : State), s.hears r ∧ ownerOr r p = true ∧ s.committed = true ∧ s.switchChecks = false ∧
      (s.part p).state.isFaulted = true) ∧
    (∃ (r : Role) (p : Fin 16) (s : State), s.hears r ∧ ownerOr r p = true ∧ (s.part p).state = .stopping) ∧
    (∃ (p : Fin 16) (s : State), (s.part p).startPend = true ∧ (s.part p).state.isFaulted = false ∧ s.startHeld p = false) ∧
    (∃ (p : Fin 16) (s : State), (s.part p).startPend = true ∧ (s.part p).state.isFaulted = true ∧ s.restartWaits p = false) ∧
    (∃ (p : Fin 16) (s : State), (s.part p).startPend = true ∧ (s.part p).state.isFaulted = false ∧ s.startHeld p = true) :=
  ⟨⟨254, up, by decide +kernel⟩, ⟨15, withP up, by decide +kernel⟩,
    ⟨.partition 15, 15, pState {}, hearsPart (by decide +kernel) (by decide +kernel), by decide +kernel⟩,
    ⟨.owner, 15, pState { dischEnd := some 1 }, hearsOwner (by decide +kernel), by decide +kernel⟩,
    ⟨.owner, 15, { pState {} with committed := false }, hearsOwner (by decide +kernel), by decide +kernel⟩,
    ⟨.owner, 15, pState { state := .lockedOut }, hearsOwner (by decide +kernel), by decide +kernel⟩,
    ⟨.partition 15, 15, pState { state := .stopping }, hearsPart (by decide +kernel) (by decide +kernel), by decide +kernel⟩,
    ⟨15, pState { startPend := true }, by decide +kernel⟩, ⟨15, pState { startPend := true, state := .faulted }, by decide +kernel⟩,
    ⟨15, pState { startPend := true, dischEnd := some 1 }, by decide +kernel⟩⟩

/-- An action entry of group state 1, ORDER 0 (Table 5-13): its type, target, DELAY and parameter. -/
def entry (type target delay param : Nat) : Nat := 1 + type * 65536 + target * 2 ^ 32 + delay * 2 ^ 48 + param * 2 ^ 64

/-- Partition 15 in the step into group state 1, with the entries 0 and 1 of its action table. -/
def stepping (w : Nat) : State :=
  act [(seqEntryBase 15, 0), (seqEntryCount 15, 2), (actEntry 0, w), (actEntry 1, entry 5 0 0 0)]
    (pState { state := .starting, phase := .inStep, step := some { st := 1, exit := false, order := 0 } })

/-- An armed action of partition 15 in slot 7, and one that is issued. -/
def armed (w : Nat) : ActX := { entry := w, part := 15, armed := true, armedAt := 0, issued := false, issuedAt := 0, slots := [7], result := none }
def issued (w : Nat) (r : Option (Nat × Nat)) : ActX := { armed w with issued := true, result := r }

/-- An action of entry 0. -/
def acting (w : Nat) (a : ActX) : State := { stepping w with actions := [(0, a)] }

/-- Entries 0 and 1 of partition 15, which has its floor of 42 slots in cluster 7 in use beside two other partitions there. -/
def crowded : State :=
  { act [(chKind 509, 1), (chPartition 509, 13), (chKind 510, 1), (chPartition 510, 14), (partDefined 13, 1), (partDefined 14, 1)]
      (stepping (entry 5 0 0 0)) with actions := (List.range 42).map (fun i => (100 + i, armed (entry 5 0 0 0))) }

theorem meets_ActionsArmIssueAndEnd :
    (∃ (e : Fin 4096) (p w : Nat) (s : State), s.partOfEntry e = some p ∧ w = s.act (actEntry e) ∧
      s.noSwapAt (s.entryCluster p w) ∧ s.isArmed e = false ∧ s.eligible p e = true ∧ s.armedCount p < s.slotQuota p ∧
      (∀ n ∈ s.actsOn p w, (s.cluster n).clockLost = false ∧ s.slotFree p n = true) ∧ s.outranked p e (s.actsOn p w) = false) ∧
    (∃ (e : Fin 4096) (p w : Nat) (s : State), s.partOfEntry e = some p ∧ w = s.act (actEntry e) ∧
      s.noSwapAt (s.entryCluster p w) ∧ s.isArmed e = false ∧ s.eligible p e = true ∧ s.armedCount p < s.slotQuota p ∧
      (∀ n ∈ s.actsOn p w, (s.cluster n).clockLost = false ∧ s.slotFree p n = true) ∧ s.outranked p e (s.actsOn p w) = true) ∧
    (∃ (e : Fin 4096) (p w : Nat) (s : State), s.partOfEntry e = some p ∧ w = s.act (actEntry e) ∧
      s.noSwapAt (s.entryCluster p w) ∧ s.isArmed e = false ∧ s.eligible p e = true ∧ ∃ n ∈ s.actsOn p w, (s.cluster n).clockLost = true ∨ s.slotFree p n = false) ∧
    (∃ (e : Fin 4096) (p w : Nat) (s : State), s.partOfEntry e = some p ∧ w = s.act (actEntry e) ∧
      s.noSwapAt (s.entryCluster p w) ∧ s.isArmed e = false ∧ s.eligible p e = true ∧ aeExit w = false ∧ s.slotQuota p ≤ s.armedCount p) ∧
    (∃ (e : Fin 4096) (a : ActX) (s : State), s.action e = some a ∧ s.noSwapAt (s.entryCluster a.part a.entry) ∧ a.armed = true ∧ a.issued = false ∧
      a.armedAt + 1000 * aeDelay a.entry ≤ s.now ∧ (∀ d, guardOf a.entry = some d → s.guardRuns d = true) ∧ aeType a.entry = 5) ∧
    (∃ (e : Fin 4096) (a : ActX) (s : State), s.action e = some a ∧ s.noSwapAt (s.entryCluster a.part a.entry) ∧ a.armed = true ∧ a.issued = false ∧
      a.armedAt + 1000 * aeDelay a.entry ≤ s.now ∧ (∀ d, guardOf a.entry = some d → s.guardRuns d = true) ∧ aeType a.entry = 1 ∧
      (s.en (aeTarget a.entry)).asserted = false ∧ (s.part a.part).line = false ∧ s.served (aeTarget a.entry) ≠ [] ∧
      ∀ d < 512, s.kind d ≠ 2) ∧
    (∃ (e : Fin 4096) (a : ActX) (s : State), s.action e = some a ∧ s.noSwapAt (s.entryCluster a.part a.entry) ∧ a.armed = true ∧ a.issued = false ∧
      a.armedAt + 1000 * aeDelay a.entry ≤ s.now ∧ (∀ d, guardOf a.entry = some d → s.guardRuns d = true) ∧ aeType a.entry = 8 ∧
      s.inGuard (aeTarget a.entry) (aeParam a.entry) = true ∧ s.runs (aeTarget a.entry) = true) ∧
    (∃ (e : Fin 4096) (a : ActX) (g : Nat) (s : State), s.action e = some a ∧ s.noSwapAt (s.entryCluster a.part a.entry) ∧ a.armed = true ∧ a.issued = false ∧
      a.armedAt + 1000 * aeDelay a.entry ≤ s.now ∧ guardOf a.entry = some g ∧ s.guardRuns g = false ∧ (s.part a.part).step = none) ∧
    (∃ (e : Fin 4096) (a : ActX) (st : SeqStep) (s : State), s.action e = some a ∧ a.issued = true ∧ (s.part a.part).step = some st ∧
      (∃ j ∈ s.orderEntries a.part st, j ≠ e.val ∧ j ∉ st.done) ∧ s.reached a = some none ∧ aeType a.entry ≠ 9) ∧
    (∃ (e : Fin 4096) (a : ActX) (st : SeqStep) (s : State), s.action e = some a ∧ a.issued = true ∧ (s.part a.part).step = some st ∧
      (∃ j ∈ s.orderEntries a.part st, j ≠ e.val ∧ j ∉ st.done) ∧ s.reached a = some (some 3)) ∧
    (∃ (e : Fin 4096) (a : ActX) (st : SeqStep) (s : State), s.action e = some a ∧ a.issued = true ∧ (s.part a.part).step = some st ∧
      (∃ j ∈ s.orderEntries a.part st, j ≠ e.val ∧ j ∉ st.done) ∧ s.limitOf a = some (5000000, 3) ∧ a.issuedAt + 5000000 ≤ s.now ∧
      s.reached a = none) ∧
    (∃ (e : Fin 4096) (a : ActX) (st : SeqStep) (s : State), s.action e = some a ∧ a.issued = true ∧ (s.part a.part).step = some st ∧
      (∃ j ∈ s.orderEntries a.part st, j ≠ e.val ∧ j ∉ st.done) ∧ s.reached a = some none ∧ aeType a.entry = 9 ∧
      (s.cluster (enCl (aeTarget a.entry))).clockLost = false) ∧
    (∃ (e : Fin 4096) (a : ActX) (s : State), s.action e = some a ∧ a.issued = true ∧ s.limitOf a = some (5000000, 3) ∧
      s.now < a.issuedAt + 5000000) ∧
    (∃ (e : Fin 4096) (s : State), s.partOfEntry e = none ∧ s.noSwapAt (s.entryCluster 0 (s.act (actEntry e)))) ∧
    (∃ (e : Fin 4096) (s : State), s.isArmed e = true) ∧
    (∃ (e : Fin 4096) (p w : Nat) (a : ActX) (s : State), s.partOfEntry e = some p ∧ w = s.act (actEntry e) ∧ s.noSwapAt (s.entryCluster p w) ∧
      s.isArmed e = false ∧ s.eligible p e = true ∧ aeExit w = false ∧ s.slotQuota p ≤ s.armedCount p ∧ s.action e = some a ∧ a.waited = true) ∧
    (∃ (e : Fin 4096) (a : ActX) (s : State), s.action e = some a ∧ s.noSwapAt (s.entryCluster a.part a.entry) ∧
      s.now < a.armedAt + 1000 * aeDelay a.entry) ∧
    (∃ (e : Fin 4096) (s : State), s.action e = none ∧ s.noSwapAt 0) ∧
    (∃ (e : Fin 4096) (a b : ActX) (g : Nat) (s : State), s.action e = some a ∧ s.noSwapAt (s.entryCluster a.part a.entry) ∧ a.armed = true ∧
      a.issued = false ∧ a.armedAt + 1000 * aeDelay a.entry ≤ s.now ∧ g = aeTarget a.entry ∧
      (∀ d, guardOf a.entry = some d → s.guardRuns d = true) ∧ b = { a with issued := true, issuedAt := s.now } ∧ aeType a.entry = 1 ∧
      (s.en g).asserted = false ∧ (s.part a.part).line = false ∧ s.served g = []) ∧
    (∃ (e : Fin 4096) (a b : ActX) (g : Nat) (s : State), s.action e = some a ∧ s.noSwapAt (s.entryCluster a.part a.entry) ∧ a.armed = true ∧
      a.issued = false ∧ a.armedAt + 1000 * aeDelay a.entry ≤ s.now ∧ g = aeTarget a.entry ∧
      (∀ d, guardOf a.entry = some d → s.guardRuns d = true) ∧ b = { a with issued := true, issuedAt := s.now } ∧ aeType a.entry = 1 ∧
      (s.en g).asserted = true) ∧
    (∃ (e : Fin 4096) (a b : ActX) (g : Nat) (s : State), s.action e = some a ∧ s.noSwapAt (s.entryCluster a.part a.entry) ∧ a.armed = true ∧
      a.issued = false ∧ a.armedAt + 1000 * aeDelay a.entry ≤ s.now ∧ g = aeTarget a.entry ∧
      (∀ d, guardOf a.entry = some d → s.guardRuns d = true) ∧ b = { a with issued := true, issuedAt := s.now } ∧ aeType a.entry = 1 ∧
      (s.en g).asserted = false ∧ (s.part a.part).line = true) ∧
    (∃ (e : Fin 4096) (a b : ActX) (g : Nat) (s : State), s.action e = some a ∧ s.noSwapAt (s.entryCluster a.part a.entry) ∧ a.armed = true ∧
      a.issued = false ∧ a.armedAt + 1000 * aeDelay a.entry ≤ s.now ∧ g = aeTarget a.entry ∧
      (∀ d, guardOf a.entry = some d → s.guardRuns d = true) ∧ b = { a with issued := true, issuedAt := s.now } ∧ aeType a.entry = 2 ∧
      (s.en g).asserted = true ∧ s.served g = []) ∧
    (∃ (e : Fin 4096) (a b : ActX) (g : Nat) (s : State), s.action e = some a ∧ s.noSwapAt (s.entryCluster a.part a.entry) ∧ a.armed = true ∧
      a.issued = false ∧ a.armedAt + 1000 * aeDelay a.entry ≤ s.now ∧ g = aeTarget a.entry ∧
      (∀ d, guardOf a.entry = some d → s.guardRuns d = true) ∧ b = { a with issued := true, issuedAt := s.now } ∧ aeType a.entry = 2 ∧
      (s.en g).asserted = false) ∧
    (∃ (e : Fin 4096) (a b : ActX) (g : Nat) (s : State), s.action e = some a ∧ s.noSwapAt (s.entryCluster a.part a.entry) ∧ a.armed = true ∧
      a.issued = false ∧ a.armedAt + 1000 * aeDelay a.entry ≤ s.now ∧ g = aeTarget a.entry ∧
      (∀ d, guardOf a.entry = some d → s.guardRuns d = true) ∧ b = { a with issued := true, issuedAt := s.now } ∧ aeType a.entry = 3 ∧
      (s.chan g).state = .off ∧ s.act (chKind g) = 0) ∧
    (∃ (e : Fin 4096) (a b : ActX) (g : Nat) (s : State), s.action e = some a ∧ s.noSwapAt (s.entryCluster a.part a.entry) ∧ a.armed = true ∧
      a.issued = false ∧ a.armedAt + 1000 * aeDelay a.entry ≤ s.now ∧ g = aeTarget a.entry ∧
      (∀ d, guardOf a.entry = some d → s.guardRuns d = true) ∧ b = { a with issued := true, issuedAt := s.now } ∧ aeType a.entry = 3 ∧
      (s.chan g).state ≠ .off) ∧
    (∃ (e : Fin 4096) (a b : ActX) (g : Nat) (s : State), s.action e = some a ∧ s.noSwapAt (s.entryCluster a.part a.entry) ∧ a.armed = true ∧
      a.issued = false ∧ a.armedAt + 1000 * aeDelay a.entry ≤ s.now ∧ g = aeTarget a.entry ∧
      (∀ d, guardOf a.entry = some d → s.guardRuns d = true) ∧ b = { a with issued := true, issuedAt := s.now } ∧ aeType a.entry = 4 ∧
      (s.chan g).state = .off ∧ aeTimeout a.entry = 0) ∧
    (∃ (e : Fin 4096) (a b : ActX) (g : Nat) (s : State), s.action e = some a ∧ s.noSwapAt (s.entryCluster a.part a.entry) ∧ a.armed = true ∧
      a.issued = false ∧ a.armedAt + 1000 * aeDelay a.entry ≤ s.now ∧ g = aeTarget a.entry ∧
      (∀ d, guardOf a.entry = some d → s.guardRuns d = true) ∧ b = { a with issued := true, issuedAt := s.now } ∧ aeType a.entry = 4 ∧
      (s.chan g).state = .off ∧ aeTimeout a.entry ≠ 0) ∧
    (∃ (e : Fin 4096) (a b : ActX) (g : Nat) (s : State), s.action e = some a ∧ s.noSwapAt (s.entryCluster a.part a.entry) ∧ a.armed = true ∧
      a.issued = false ∧ a.armedAt + 1000 * aeDelay a.entry ≤ s.now ∧ g = aeTarget a.entry ∧
      (∀ d, guardOf a.entry = some d → s.guardRuns d = true) ∧ b = { a with issued := true, issuedAt := s.now } ∧ aeType a.entry = 7) ∧
    (∃ (e : Fin 4096) (a b : ActX) (g : Nat) (s : State), s.action e = some a ∧ s.noSwapAt (s.entryCluster a.part a.entry) ∧ a.armed = true ∧
      a.issued = false ∧ a.armedAt + 1000 * aeDelay a.entry ≤ s.now ∧ g = aeTarget a.entry ∧
      (∀ d, guardOf a.entry = some d → s.guardRuns d = true) ∧ b = { a with issued := true, issuedAt := s.now } ∧ aeType a.entry = 8 ∧
      s.inGuard g (aeParam a.entry) = true ∧ s.trimBad g = false ∧ s.runs g = false) ∧
    (∃ (e : Fin 4096) (a b : ActX) (g : Nat) (s : State), s.action e = some a ∧ s.noSwapAt (s.entryCluster a.part a.entry) ∧ a.armed = true ∧
      a.issued = false ∧ a.armedAt + 1000 * aeDelay a.entry ≤ s.now ∧ g = aeTarget a.entry ∧
      (∀ d, guardOf a.entry = some d → s.guardRuns d = true) ∧ b = { a with issued := true, issuedAt := s.now } ∧ aeType a.entry = 8 ∧
      s.inGuard g (aeParam a.entry) = false) ∧
    (∃ (e : Fin 4096) (a b : ActX) (g : Nat) (s : State), s.action e = some a ∧ s.noSwapAt (s.entryCluster a.part a.entry) ∧ a.armed = true ∧
      a.issued = false ∧ a.armedAt + 1000 * aeDelay a.entry ≤ s.now ∧ g = aeTarget a.entry ∧
      (∀ d, guardOf a.entry = some d → s.guardRuns d = true) ∧ b = { a with issued := true, issuedAt := s.now } ∧ aeType a.entry = 9 ∧
      (s.part a.part).line = false) ∧
    (∃ (e : Fin 4096) (a b : ActX) (g : Nat) (s : State), s.action e = some a ∧ s.noSwapAt (s.entryCluster a.part a.entry) ∧ a.armed = true ∧
      a.issued = false ∧ a.armedAt + 1000 * aeDelay a.entry ≤ s.now ∧ g = aeTarget a.entry ∧
      (∀ d, guardOf a.entry = some d → s.guardRuns d = true) ∧ b = { a with issued := true, issuedAt := s.now } ∧ aeType a.entry = 9 ∧
      (s.part a.part).line = true) ∧
    (∃ (e : Fin 4096) (a b : ActX) (g : Nat) (s : State), s.action e = some a ∧ s.noSwapAt (s.entryCluster a.part a.entry) ∧ a.armed = true ∧
      a.issued = false ∧ a.armedAt + 1000 * aeDelay a.entry ≤ s.now ∧ g = aeTarget a.entry ∧
      (∀ d, guardOf a.entry = some d → s.guardRuns d = true) ∧ b = { a with issued := true, issuedAt := s.now } ∧ aeType a.entry = 10 ∧
      (s.act (capStartSrc g) ≠ 0 ∨ s.act (capStopSrc g) ≠ 0)) ∧
    (∃ (e : Fin 4096) (s : State), s.action e = none) ∧
    (∃ (e : Fin 4096) (a : ActX) (s : State), s.action e = some a ∧ a.issued = false) ∧
    (∃ (e : Fin 4096) (a : ActX) (s : State), s.action e = some a ∧ a.issued = true ∧ s.reached a = none) :=
  ⟨⟨0, 15, _, stepping (entry 5 0 0 0), by decide +kernel, rfl, idleAt rfl (by decide +kernel), by decide +kernel, by decide +kernel, by decide +kernel⟩,
    ⟨1, 15, _, crowded, by decide +kernel, rfl, idleAt rfl (by decide +kernel), by decide +kernel, by decide +kernel, by decide +kernel⟩,
    ⟨0, 15, _, (stepping (entry 5 0 0 0)).setCluster 7 { clockLost := true }, by decide +kernel, rfl, idleAt rfl (by decide +kernel), by decide +kernel, by decide +kernel,
      7, by decide +kernel⟩,
    ⟨0, 15, _, act [(budSlotQuota 0 15, 0)] (stepping (entry 5 0 0 0)), by decide +kernel, rfl, idleAt rfl (by decide +kernel), by decide +kernel, by decide +kernel,
      by decide +kernel⟩,
    ⟨0, armed (entry 5 0 1 0), { acting 0 (armed (entry 5 0 1 0)) with now := 1000 }, by decide +kernel, idleAt rfl (by decide +kernel), by decide +kernel, by decide +kernel,
      by decide +kernel, ofNone (by decide +kernel), by decide +kernel⟩,
    ⟨0, armed (entry 1 255 0 65535), act [(chEnable 511, 255)] (acting 0 (armed (entry 1 255 0 65535))), by decide +kernel, idleAt rfl (by decide +kernel), by decide +kernel,
      by decide +kernel, by decide +kernel, ofNone (by decide +kernel), by decide +kernel⟩,
    ⟨0, armed (entry 8 511 0 10000),
      (act [(chDivider 511, 1000), (chLowerCode 511, 0), (chUpperCode 511, 1000)] (acting 0 (armed (entry 8 511 0 10000)))).setChan 511
        { state := .running }, by decide +kernel, idleAt rfl (by decide +kernel), by decide +kernel, by decide +kernel, by decide +kernel, ofNone (by decide +kernel),
      by decide +kernel⟩,
    ⟨0, armed (entry 1 255 0 511), 511, (acting 0 (armed (entry 1 255 0 511))).setPart 15 {}, by decide +kernel, idleAt rfl (by decide +kernel), by decide +kernel⟩,
    ⟨0, issued (entry 5 0 0 0) none, { st := 1, exit := false, order := 0 }, acting 0 (issued (entry 5 0 0 0) none), by decide +kernel⟩,
    ⟨0, issued (entry 7 0 0 0) (some (2, 3)), { st := 1, exit := false, order := 0 }, acting 0 (issued (entry 7 0 0 0) (some (2, 3))),
      by decide +kernel⟩,
    ⟨0, issued (entry 7 0 0 0) none, { st := 1, exit := false, order := 0 },
      { acting 0 (issued (entry 7 0 0 0) none) with now := 5000000 }, by decide +kernel⟩,
    ⟨0, issued (entry 9 255 0 0) none, { st := 1, exit := false, order := 0 }, acting 0 (issued (entry 9 255 0 0) none), by decide +kernel⟩,
    ⟨0, issued (entry 7 0 0 0) none, { acting 0 (issued (entry 7 0 0 0) none) with now := 4999999 }, by decide +kernel⟩,
    ⟨4095, up, by decide +kernel, idleAt rfl (by decide +kernel)⟩,
    ⟨0, acting 0 (armed (entry 5 0 0 0)), by decide +kernel⟩,
    ⟨0, 15, _, { armed (entry 5 0 0 0) with armed := false, waited := true }, act [(budSlotQuota 0 15, 0)] { stepping (entry 5 0 0 0) with actions := [(0, { armed (entry 5 0 0 0) with armed := false, waited := true })] },
      by decide +kernel, rfl, idleAt rfl (by decide +kernel), by decide +kernel⟩,
    ⟨0, armed (entry 5 0 1 0), { acting 0 (armed (entry 5 0 1 0)) with now := 999 }, by decide +kernel, idleAt rfl (by decide +kernel), by decide +kernel⟩,
    ⟨4095, up, by decide +kernel, idleAt rfl (by decide +kernel)⟩,
    ⟨0, armed (entry 1 255 0 65535), _, _, (acting 0 (armed (entry 1 255 0 65535))), by decide +kernel, idleAt rfl (by decide +kernel), by decide +kernel, by decide +kernel,
      by decide +kernel, rfl, ofNone (by decide +kernel), rfl, by decide +kernel⟩,
    ⟨0, armed (entry 1 255 0 65535), _, _, (acting 0 (armed (entry 1 255 0 65535))).setEn 255 { asserted := true }, by decide +kernel, idleAt rfl (by decide +kernel), by decide +kernel, by decide +kernel,
      by decide +kernel, rfl, ofNone (by decide +kernel), rfl, by decide +kernel⟩,
    ⟨0, armed (entry 1 255 0 65535), _, _, (acting 0 (armed (entry 1 255 0 65535))).setPart 15 { line := true }, by decide +kernel, idleAt rfl (by decide +kernel), by decide +kernel, by decide +kernel,
      by decide +kernel, rfl, ofNone (by decide +kernel), rfl, by decide +kernel⟩,
    ⟨0, armed (entry 2 255 0 65535), _, _, (acting 0 (armed (entry 2 255 0 65535))).setEn 255 { asserted := true }, by decide +kernel, idleAt rfl (by decide +kernel), by decide +kernel, by decide +kernel,
      by decide +kernel, rfl, ofNone (by decide +kernel), rfl, by decide +kernel⟩,
    ⟨0, armed (entry 2 255 0 65535), _, _, (acting 0 (armed (entry 2 255 0 65535))), by decide +kernel, idleAt rfl (by decide +kernel), by decide +kernel, by decide +kernel,
      by decide +kernel, rfl, ofNone (by decide +kernel), rfl, by decide +kernel⟩,
    ⟨0, armed (entry 3 500 0 65535), _, _, (acting 0 (armed (entry 3 500 0 65535))), by decide +kernel, idleAt rfl (by decide +kernel), by decide +kernel, by decide +kernel,
      by decide +kernel, rfl, ofNone (by decide +kernel), rfl, by decide +kernel⟩,
    ⟨0, armed (entry 3 511 0 65535), _, _, (acting 0 (armed (entry 3 511 0 65535))).setChan 511 { state := .armed }, by decide +kernel, idleAt rfl (by decide +kernel), by decide +kernel, by decide +kernel,
      by decide +kernel, rfl, ofNone (by decide +kernel), rfl, by decide +kernel⟩,
    ⟨0, armed (entry 4 511 0 65535), _, _, (acting 0 (armed (entry 4 511 0 65535))), by decide +kernel, idleAt rfl (by decide +kernel), by decide +kernel, by decide +kernel,
      by decide +kernel, rfl, ofNone (by decide +kernel), rfl, by decide +kernel⟩,
    ⟨0, armed (entry 4 511 0 65535 + 2 ^ 96), _, _, (acting 0 (armed (entry 4 511 0 65535 + 2 ^ 96))), by decide +kernel, idleAt rfl (by decide +kernel), by decide +kernel, by decide +kernel,
      by decide +kernel, rfl, ofNone (by decide +kernel), rfl, by decide +kernel⟩,
    ⟨0, armed (entry 7 255 0 65535), _, _, (acting 0 (armed (entry 7 255 0 65535))), by decide +kernel, idleAt rfl (by decide +kernel), by decide +kernel, by decide +kernel,
      by decide +kernel, rfl, ofNone (by decide +kernel), rfl, by decide +kernel⟩,
    ⟨0, armed (entry 8 511 0 10000), _, _, act [(chDivider 511, 1000), (chLowerCode 511, 0), (chUpperCode 511, 1000)] (acting 0 (armed (entry 8 511 0 10000))), by decide +kernel, idleAt rfl (by decide +kernel), by decide +kernel, by decide +kernel,
      by decide +kernel, rfl, ofNone (by decide +kernel), rfl, by decide +kernel⟩,
    ⟨0, armed (entry 8 511 0 65535), _, _, act [(chDivider 511, 1000), (chLowerCode 511, 0), (chUpperCode 511, 1000)] (acting 0 (armed (entry 8 511 0 65535))), by decide +kernel, idleAt rfl (by decide +kernel), by decide +kernel, by decide +kernel,
      by decide +kernel, rfl, ofNone (by decide +kernel), rfl, by decide +kernel⟩,
    ⟨0, armed (entry 9 255 0 65535), _, _, (acting 0 (armed (entry 9 255 0 65535))), by decide +kernel, idleAt rfl (by decide +kernel), by decide +kernel, by decide +kernel,
      by decide +kernel, rfl, ofNone (by decide +kernel), rfl, by decide +kernel⟩,
    ⟨0, armed (entry 9 255 0 65535), _, _, (acting 0 (armed (entry 9 255 0 65535))).setPart 15 { line := true }, by decide +kernel, idleAt rfl (by decide +kernel), by decide +kernel, by decide +kernel,
      by decide +kernel, rfl, ofNone (by decide +kernel), rfl, by decide +kernel⟩,
    ⟨0, armed (entry 10 31 0 65535), _, _, act [(capStartSrc 31, 1)] (acting 0 (armed (entry 10 31 0 65535))), by decide +kernel, idleAt rfl (by decide +kernel), by decide +kernel, by decide +kernel,
      by decide +kernel, rfl, ofNone (by decide +kernel), rfl, by decide +kernel⟩,
    ⟨4095, up, by decide +kernel⟩,
    ⟨0, armed (entry 5 0 0 0), acting 0 (armed (entry 5 0 0 0)), by decide +kernel⟩,
    ⟨0, issued (entry 7 0 0 0) none, acting 0 (issued (entry 7 0 0 0) none), by decide +kernel⟩⟩

/-- Capture unit 31 of partition 15: it starts at the assertion of enable 255 and stops at its release, with LIMIT 1 µs. -/
def capture (x : CapX) : State :=
  (act [(capPartition 31, 15), (capStartSrc 31, 1), (capStartTarget 31, 255), (capStopSrc 31, 2), (capStopTarget 31, 255), (capLimit 31, 1)]
    (withP up)).setCap 31 x

theorem meets_CaptureUnitsMeasureOnce :
    (∃ (r : Role) (u : Fin 32) (s : State), s.hears r ∧ ownerOr r (s.act (capPartition u)) = true ∧
      ¬(s.act (capStartSrc u) = 0 ∧ s.act (capStopSrc u) = 0)) ∧
    (∃ (r : Role) (u : Fin 32) (s : State), s.hears r ∧ ownerOr r (s.act (capPartition u)) = true ∧ s.act (capStartSrc u) = 0 ∧
      s.act (capStopSrc u) = 0) ∧
    (∃ (u : Fin 32) (k : Nat) (s : State), (s.cap u).outcome = 1 ∧ (s.cap u).start = none ∧ (s.cap u).seenStart = some k ∧
      k ≤ s.sourceCtr (s.act (capStartSrc u)) (s.act (capStartTarget u)) ∧ k ≤ (s.cap u).startBy + 100 * s.act (capLimit u) ∧
      (s.cap u).stop = none) ∧
    (∃ (u : Fin 32) (k a : Nat) (s : State), (s.cap u).outcome = 1 ∧ (s.cap u).stop = none ∧ (s.cap u).seenStop = some k ∧
      k ≤ s.sourceCtr (s.act (capStopSrc u)) (s.act (capStopTarget u)) ∧ k ≤ (s.cap u).stopBy + 100 * s.act (capLimit u) ∧
      (s.cap u).start = some a ∧ a = k) ∧
    (∃ (u : Fin 32) (s : State), (s.cap u).outcome = 1 ∧ (s.cap u).armedAt + 100 * s.act (capLimit u) ≤ s.now ∧ (s.cap u).start ≠ none ∧
      (s.cap u).seenStop = none) ∧
    (∃ (u : Fin 32) (s : State), s.now < (s.cap u).armedAt + 100 * s.act (capLimit u)) :=
  ⟨⟨.partition 15, 31, capture {}, hearsPart (by decide +kernel) (by decide +kernel), by decide +kernel⟩,
    ⟨.owner, 31, up, hearsOwner (by decide +kernel), by decide +kernel⟩,
    ⟨31, 105, (capture { outcome := 1, startBy := 5, seenStart := some 105 }).setCluster 7 { counter := 105 }, by decide +kernel⟩,
    ⟨31, 105, 105, (capture { outcome := 1, start := some 105, stopBy := 5, seenStop := some 105 }).setCluster 7 { counter := 105 },
      by decide +kernel⟩,
    ⟨31, { capture { outcome := 1, start := some 5 } with now := 100 }, by decide +kernel⟩,
    ⟨31, { capture { outcome := 1 } with now := 99 }, by decide +kernel⟩⟩

/-! ### Budgets and the ledger -/

/-- A ledger that runs since tick 0 with 15 minutes of demand interval. -/
def metering (e : Nat) (s : State) : State := { s with ledger := { running := true, endAt := e } }

theorem meets_LedgerIntervalsAndTables :
    (∃ s : State, s.ledger.running = true ∧ s.subEndAt ≤ s.now) ∧ (∃ s : State, s.ledger.running = true ∧ s.now < s.subEndAt) ∧
    (∃ s : State, s.ledger.running = true ∧ s.supply.plw = false ∧ s.ledger.endAt ≤ s.now) ∧ (∃ s : State, s.ledger.running = true ∧ s.now < s.ledger.endAt) ∧
    (∃ (v : Byte) (s : State), s.serves = true ∧ v.toNat < 8 ∧ v.toNat ≠ s.table ∧ (∀ k < 32, s.act (strEnable k) ≠ 1) ∧
      ∀ p < 16, s.reg (partsStreamsPaused p) = 0) ∧
    (∃ (v : Byte) (s : State), s.serves = true ∧ s.table < 8 ∧ v.toNat = s.table) ∧
    (∃ (v : Byte) (s : State), s.serves = true ∧ 8 ≤ v.toNat) ∧ (∃ (p : Fin 16) (s : State), s.serves = true ∧ s.defined p = true) ∧
    (∃ (v : Nat) (s : State), s.act ledScheduleEnable = 1 ∧ s.supply.rtcValid = true ∧ s.supply.plw = false ∧ s.schedAt s.supply.rtc = some v ∧ v ≠ s.table ∧
      (s.ledger.running = true → s.now < s.ledger.endAt)) ∧
    (∃ s : State, s.act ledScheduleEnable ≠ 1) ∧
    (∃ s : State, s.supply.plw = true) :=
  ⟨⟨{ metering 1 up with now := 1 }, by decide +kernel⟩, ⟨metering 1 up, by decide +kernel⟩, ⟨{ metering 1 up with now := 1 }, by decide +kernel⟩,
    ⟨metering 1 up, by decide +kernel⟩, ⟨7, up, by decide +kernel⟩, ⟨7, reg [(ledActiveTable, 7)] up, by decide +kernel⟩,
    ⟨8, up, by decide +kernel⟩, ⟨15, withP up, by decide +kernel⟩,
    ⟨7, { act [(ledScheduleEnable, 1), (schedSched 0, 2 ^ 31 + 7 * 2 ^ 28 + 127 * 2 ^ 17)] up with
          supply := { power := .active, vcore := true, rtcValid := true } }, by decide +kernel⟩,
    ⟨up, by decide +kernel⟩,
    ⟨{ up with supply := { power := .active, vcore := true, plw := true } }, rfl⟩⟩

/-- Partition 15 in UP with a power budget of 1 mW and a grace of 1 ms. -/
def budgeted (x : PartX) : State :=
  act [(budPowerBudget 0 15, 1), (partReliefGrace 15, 1), (partEnforceStep 15 0, 1)] (pState { x with state := .up })

theorem meets_ReliefGraceAndFirstStep :
    (∃ (p : Fin 16) (s : State), s.mgmtDown = false ∧ s.ledger.hold = false ∧ s.committed = true ∧
      (∀ q < 16, q ≠ p.val → (s.part q).state ≠ .starting ∧ (s.part q).state ≠ .up) ∧ (s.part p).state = .up ∧
      (s.part p).relief = 0 ∧ s.reliefCause p = 0) ∧
    (∃ (p : Fin 16) (s : State), s.mgmtDown = false ∧ s.ledger.hold = false ∧ s.committed = true ∧
      (∀ q < 16, q ≠ p.val → (s.part q).state ≠ .starting ∧ (s.part q).state ≠ .up) ∧ (s.part p).state = .up ∧
      (s.part p).relief = 0 ∧ s.reliefCause p ≠ 0) ∧
    (∃ (p : Fin 16) (s : State), s.mgmtDown = false ∧ s.ledger.hold = false ∧ s.committed = true ∧
      (∀ q < 16, q ≠ p.val → (s.part q).state ≠ .starting ∧ (s.part q).state ≠ .up) ∧ (s.part p).state = .up ∧
      (s.part p).relief = 1 ∧ (s.part p).applied = [] ∧ s.reliefCause p = 0) ∧
    (∃ (p : Fin 16) (s : State), s.mgmtDown = false ∧ s.ledger.hold = false ∧ s.committed = true ∧
      (∀ q < 16, q ≠ p.val → (s.part q).state ≠ .starting ∧ (s.part q).state ≠ .up) ∧ (s.part p).state = .up ∧
      (s.part p).relief = 1 ∧ s.reliefCause p ≠ 0 ∧ s.reg (partsGraceEnd p) ≤ s.now ∧ s.enforceStep p 1 = 1) ∧
    (∃ (p : Fin 16) (s : State), s.mgmtDown = false ∧ s.ledger.hold = false ∧ s.committed = true ∧
      (∀ q < 16, q ≠ p.val → (s.part q).state ≠ .starting ∧ (s.part q).state ≠ .up) ∧ (s.part p).state = .up ∧
      (s.part p).relief = 1 ∧ s.reliefCause p ≠ 0 ∧ s.now < s.reg (partsGraceEnd p) ∧ 0 < s.grace p) ∧
    (∃ s : State, s.mgmtDown = true) :=
  ⟨⟨15, budgeted {}, by decide +kernel⟩, ⟨15, budgeted { overPower := true }, by decide +kernel⟩, ⟨15, budgeted { relief := 1 }, by decide +kernel⟩,
    ⟨15, { reg [(partsGraceEnd 15, 1)] (budgeted { relief := 1, overPower := true }) with now := 1 }, by decide +kernel⟩,
    ⟨15, reg [(partsGraceEnd 15, 1)] (budgeted { relief := 1, overPower := true }), by decide +kernel⟩, ⟨mgmtOut, rfl⟩⟩

/-! ### Cooperating devices -/

/-- Device 0 of two, which spans step group 3 with device 1, and what it knows of the Trestle. -/
def coop (x : TrestleX) : State := { act [(treExpectedMap, 3), (treGrpSpanMap 3, 3), (treTrestleTag, 7)] up with trestle := x }

/-- After discovery with both devices present; and the same as device 1, a follower. -/
def leading : TrestleX := { phase := 2, closedAt := some 0, present := [0, 1], heard := [(1, 0)] }
def following (x : TrestleX) : State := { coop { x with present := [0, 1], closedAt := some 0 } with supply := { power := .active, vcore := true, devid := 1 } }

theorem meets_DiscoveryFindsTheDevices :
    (∃ (k : Nat) (s : State), s.trestle.firstCommit = some k ∧ s.trestle.phase = 0 ∧ k + 500000 ≤ s.now) ∧
    (∃ (k : Nat) (s : State), s.trestle.beganAt = some k ∧ s.trestle.phase = 1 ∧ s.trestle.announced = false ∧
      k + 200000 * s.devid ≤ s.now ∧ s.alone = false ∧ s.peerOn = true ∧ s.trestle.dup = false) ∧
    (∃ (msg m : Bytes) (d : Nat) (s : State), s.peerOn = true ∧ peerParse 1 13 msg = some (d, m) ∧ d ≠ s.devid ∧
      leNat (m.take 4) = s.act treTrestleTag) ∧
    (∃ (msg m : Bytes) (d : Nat) (s : State), s.peerOn = true ∧ peerParse 1 13 msg = some (d, m) ∧ d ≠ s.devid ∧
      leNat (m.take 4) ≠ s.act treTrestleTag) ∧
    (∃ (msg m : Bytes) (s : State), s.peerOn = true ∧ peerParse 1 13 msg = some (s.devid, m) ∧ s.trestle.dup = false) ∧
    (∃ (msg : Bytes) (s : State), s.peerOn = true ∧ peerParse 1 13 msg = none) ∧
    (∃ (k : Nat) (s : State), s.trestle.beganAt = some k ∧ s.trestle.phase = 1 ∧ k + 3500000 ≤ s.now ∧ s.alone = false) ∧
    (∃ (k : Nat) (s : State), s.trestle.beganAt = some k ∧ s.trestle.phase = 1 ∧ s.allAnnounced = true ∧ s.alone = true) ∧
    (∃ s : State, ∀ k, s.trestle.firstCommit = some k → s.trestle.phase ≠ 0 ∨ s.now < k + 500000) ∧
    (∃ (msg m : Bytes) (s : State), s.peerOn = true ∧ peerParse 3 4 msg = some (s.devid, m)) ∧
    (∃ (msg m : Bytes) (d : Nat) (s : State), s.peerOn = true ∧ peerParse 1 13 msg = some (d, m) ∧ d ≠ s.devid ∧
      leNat (m.take 4) ≠ s.act treTrestleTag ∧ d ∉ s.trestle.foreign ∧ s.trestle.closedAt ≠ none ∧ d ∈ s.spanDevs 3 ∧
      s.devid ∈ s.spanDevs 3 ∧ s.act (treGrpMissingRule 3) = 0) :=
  ⟨⟨0, { coop { firstCommit := some 0 } with now := 500000 }, by decide +kernel⟩, ⟨0, coop { phase := 1, beganAt := some 0 }, by decide +kernel⟩,
    ⟨peerMsg 1 1 (7 :: List.replicate 12 0), 7 :: List.replicate 12 0, 1, coop {}, by decide +kernel⟩,
    ⟨peerMsg 1 1 (List.replicate 13 0), List.replicate 13 0, 1, coop {}, by decide +kernel⟩,
    ⟨peerMsg 1 0 (List.replicate 13 0), List.replicate 13 0, coop {}, by decide +kernel⟩,
    ⟨peerMsg 1 1 (List.replicate 12 0), coop {}, by decide +kernel⟩,
    ⟨0, { coop { phase := 1, beganAt := some 0 } with now := 3500000 }, by decide +kernel⟩,
    ⟨0, { up with trestle := { phase := 1, beganAt := some 0, announced := true } }, by decide +kernel⟩,
    ⟨coop {}, ofNone rfl⟩,
    ⟨peerMsg 3 0 [0, 0, 0, 0], [0, 0, 0, 0], coop {}, by decide +kernel⟩,
    ⟨peerMsg 1 1 (List.replicate 13 0), List.replicate 13 0, 1, coop leading, by decide +kernel⟩⟩

theorem meets_ReleaseLiftsTheStartupHold :
    (∃ s : State, s.leader = s.devid ∧ s.releaseNames ≠ [] ∧ s.trestle.dup = false) ∧
    (∃ (msg m : Bytes) (d : Nat) (s : State), s.peerOn = true ∧ peerParse 5 10 msg = some (d, m) ∧ d ≠ s.devid ∧ s.devid < 16 ∧ d ∉ s.trestle.foreign ∧
      bitOf (leNat (m.take 2)) s.devid = true ∧ s.trestle.dup = false) ∧
    (∃ (k d : Nat) (s : State), s.trestle.trel = some k ∧ s.leader = s.devid ∧ s.trestle.resent = false ∧ s.trestle.dup = false ∧
      k ≤ s.trestleTime + 1000000 ∧ s.trestleTime < k ∧ d < 16 ∧ bitOf s.trestle.relMap d = true ∧ d ≠ s.devid ∧ d ∉ s.trestle.relAcks) ∧
    (∃ (k : Nat) (s : State), s.trestle.liftedAt = none ∧ s.trestle.trel = some k ∧ k ≤ s.trestleTime) ∧
    (∃ (c : Nat) (s : State), s.trestle.liftedAt = none ∧ s.trestle.trel = none ∧ s.trestle.closedAt = some c ∧ c + 6000000 ≤ s.now) ∧
    (∃ (k : Nat) (s : State), s.trestle.trel = some k ∧ s.trestleTime < k) ∧
    (∃ s : State, s.trestle.trel = none ∧ s.trestle.liftedAt = none) ∧
    (∃ s : State, s.trestle.liftedAt ≠ none) ∧
    (∃ s : State, s.leader ≠ s.devid) ∧
    (∃ (msg m : Bytes) (d : Nat) (s : State), s.peerOn = true ∧ peerParse 5 10 msg = some (d, m) ∧ d ≠ s.devid ∧ d ∈ s.trestle.foreign) :=
  ⟨⟨coop { leading with pulses := 5 }, by decide +kernel⟩,
    ⟨peerMsg 5 0 (2 :: List.replicate 9 0), 2 :: List.replicate 9 0, 0, following {}, by decide +kernel⟩,
    ⟨1000000, 1, coop { leading with trel := some 1000000, relMap := 3 }, by decide +kernel⟩, ⟨0, coop { leading with trel := some 0 }, by decide +kernel⟩,
    ⟨0, { coop leading with now := 6000000 }, by decide +kernel⟩, ⟨1, coop { leading with trel := some 1 }, by decide +kernel⟩,
    ⟨coop leading, by decide⟩,
    ⟨coop { leading with liftedAt := some 0 }, by decide⟩,
    ⟨following {}, by decide +kernel⟩,
    ⟨peerMsg 5 0 (2 :: List.replicate 9 0), 2 :: List.replicate 9 0, 0, following { foreign := [0] }, by decide +kernel⟩⟩

theorem meets_PresenceAndStateChecksHoldTheGroups :
    (∃ s : State, s.trestle.closedAt ≠ none ∧ s.trestle.presAt + 100000 * s.act trePresencePeriod ≤ s.now ∧ s.peerOn = true ∧
      s.trestle.dup = false) ∧
    (∃ (msg m : Bytes) (d : Nat) (s : State), s.peerOn = true ∧ peerParse 2 13 msg = some (d, m) ∧ d ≠ s.devid ∧
      s.trestle.closedAt ≠ none ∧ ∃ n < 4, d ∈ s.spanDevs n ∧ s.devid ∈ s.spanDevs n ∧ d ∉ s.trestle.foreign ∧
        ¬(((m[n]?).getD 0).toNat = s.grpState n ∧ leNat ((m.drop (4 + 2 * n)).take 2) = s.reg (tresGrpAdvanceCount n)) ∧
        1 ≤ (tabFind (s.group n).disagree d).getD 0 ∧ (s.group n).stateAt ≠ some s.now ∧ n ∉ s.trestle.adopt) ∧
    (∃ (n : Fin 4) (k : Nat) (s : State), (s.group n).checkFrom = some k ∧ s.groupLeader n = s.devid ∧ (s.group n).resends ≤ 3 ∧
      s.now < k + 100000 * s.act treCheckTimeout) ∧
    (∃ (n : Fin 4) (k : Nat) (s : State), (s.group n).checkFrom = some k ∧ k + 100000 * s.act treCheckTimeout ≤ s.now) ∧
    (∃ (d : Fin 16) (k : Nat) (s : State), d.val ∈ s.trestle.present ∧ d.val ≠ s.devid ∧ tabFind s.trestle.heard d = some k ∧
      (∀ k, tabFind s.trestle.heard d = some k → k + s.act treLossCount * (100000 * s.act trePresencePeriod) ≤ s.now) ∧
      k + s.act treLossCount * (100000 * s.act trePresencePeriod) ≤ s.now) ∧
    (∃ s : State, s.trestle.closedAt = none) ∧
    (∃ (msg m : Bytes) (s : State), s.peerOn = true ∧ peerParse 2 13 msg = some (s.devid, m)) ∧
    (∃ (n : Fin 4) (s : State), s.groupLeader n = s.devid ∧ (s.group n).resends ≤ 3 ∧ (s.group n).checkFrom = none ∧
      (s.group n).repeats = true) ∧
    (∃ (n : Fin 4) (s : State), 3 < (s.group n).resends) ∧
    (∃ (msg m : Bytes) (n d : Nat) (s : State), s.peerOn = true ∧ peerParse 3 4 msg = some (d, m) ∧ d ≠ s.devid ∧
      ((m[0]?).getD 0).toNat = n ∧ n < 4 ∧ s.devid ∈ s.spanDevs n ∧ s.groupLeader n = d ∧
      ¬(((m[1]?).getD 0).toNat = s.grpState n ∧ leNat (m.drop 2) = s.reg (tresGrpAdvanceCount n)) ∧ (s.group n).mismatch = false) ∧
    (∃ (msg m : Bytes) (n d : Nat) (dis : List (Nat × Nat)) (held : Bool) (count : Nat) (s : State), s.peerOn = true ∧ peerParse 3 4 msg = some (d, m) ∧ d ≠ s.devid ∧
      ((m[0]?).getD 0).toNat = n ∧ n < 4 ∧ s.devid ∈ s.spanDevs n ∧ s.groupLeader n = d ∧
      ((m[1]?).getD 0).toNat = s.grpState n ∧ leNat (m.drop 2) = s.reg (tresGrpAdvanceCount n) ∧
      (s.group n).presTie = some (s.now, dis, held, count)) ∧
    (∃ (msg m : Bytes) (n d : Nat) (s : State), s.peerOn = true ∧ peerParse 3 4 msg = some (d, m) ∧ d ≠ s.devid ∧
      ((m[0]?).getD 0).toNat = n ∧ 3 < n) ∧
    (∃ (n : Fin 4) (s : State), ∀ k, (s.group n).checkFrom = some k → s.now < k + 100000 * s.act treCheckTimeout) ∧
    (∃ (d : Fin 16) (s : State), d.val = s.devid) :=
  ⟨⟨{ coop leading with now := 1000000000 }, by decide +kernel⟩,
    ⟨peerMsg 2 1 (List.replicate 13 1), List.replicate 13 1, 1, (coop leading).setGroup 3 { disagree := [(1, 1)] }, by decide +kernel⟩,
    ⟨3, 0, (coop leading).setGroup 3 { checkFrom := some 0 }, by decide +kernel⟩,
    ⟨3, 0, { (coop leading).setGroup 3 { checkFrom := some 0 } with now := 1000000000 }, by decide +kernel⟩,
    ⟨1, 0, { coop leading with now := 10000000000 }, by decide +kernel, by decide +kernel, by decide +kernel,
      ofSome (b := 0) (by decide +kernel) (by decide +kernel), by decide +kernel⟩,
    ⟨coop {}, rfl⟩,
    ⟨peerMsg 2 0 (List.replicate 13 0), List.replicate 13 0, coop {}, by decide +kernel⟩,
    ⟨3, (coop leading).setGroup 3 { repeats := true, resends := 3 }, by decide +kernel⟩,
    ⟨3, (coop leading).setGroup 3 { resends := 4 }, by decide +kernel⟩,
    ⟨peerMsg 3 0 [3, 1, 0, 0], [3, 1, 0, 0], 3, 0, following {}, by decide +kernel⟩,
    ⟨peerMsg 3 0 [3, 0, 0, 0], [3, 0, 0, 0], 3, 0, [], false, 0, (following {}).setGroup 3 { presTie := some (0, [], false, 0) }, by decide +kernel⟩,
    ⟨peerMsg 3 0 [4, 0, 0, 0], [4, 0, 0, 0], 4, 0, following {}, by decide +kernel⟩,
    ⟨0, up, ofNone rfl⟩,
    ⟨0, coop {}, by decide +kernel⟩⟩

theorem meets_TrestleTimeAlignsTheFollowers :
    (∃ s : State, s.leader = s.devid ∧ s.trestle.dup = false ∧ s.trestle.pulseAt = none ∧ s.trestle.closedAt.getD 0 + 1000000 ≤ s.now) ∧
    (∃ s : State, s.leader = s.devid ∧ s.trestle.dup = false ∧
      ∃ k, s.trestle.pulseAt = some k ∧ k + (if s.aligning then 500000 else 100000 * s.act treTsyncPeriod) ≤ s.now) ∧
    (∃ s : State, s.trestle.closedAt ≠ none ∧ s.leader ≠ s.devid ∧ 2 ∉ s.vioLost) ∧
    (∃ (msg m : Bytes) (d c k : Nat) (e : Int) (s : State), s.peerOn = true ∧ peerParse 4 9 msg = some (d, m) ∧ d ≠ s.devid ∧
      d ∉ s.trestle.foreign ∧ s.trestle.edge = some (c, k) ∧ s.now ≤ k + 100000 ∧ e = s.residual c (leNat (m.drop 1)) ∧ s.trestle.everAligned = true ∧
      e.natAbs ≤ 2000) ∧
    (∃ (msg m : Bytes) (d c k : Nat) (e : Int) (s : State), s.peerOn = true ∧ peerParse 4 9 msg = some (d, m) ∧ d ≠ s.devid ∧
      d ∉ s.trestle.foreign ∧ s.trestle.edge = some (c, k) ∧ s.now ≤ k + 100000 ∧ e = s.residual c (leNat (m.drop 1)) ∧ s.trestle.everAligned = true ∧
      2000 < e.natAbs) ∧
    (∃ (msg m : Bytes) (d : Nat) (s : State), s.peerOn = true ∧ peerParse 4 9 msg = some (d, m) ∧ d ≠ s.devid ∧ s.trestle.edge = none) ∧
    (∃ (msg m : Bytes) (d : Nat) (s : State), s.peerOn = true ∧ peerParse 6 4 msg = some (d, m) ∧ d ≠ s.devid ∧ m[0]? = some 4 ∧
      ((m[1]?).getD 0).toNat = s.trestle.pulseSeq) ∧
    (∃ (k : Nat) (s : State), s.trestle.edgeAt = some k ∧ s.leader ≠ s.devid ∧ s.trestle.lost = false ∧
      k + 300000 * s.act treTsyncPeriod ≤ s.now) ∧
    (∃ (s : State) (gap k a : Nat), gap = (if s.trestle.liftedAt = none ∧ s.trestle.aligns < 3 then 500000 else 100000 * s.act treTsyncPeriod) ∧
      s.trestle.edgeAt = some a ∧ k = a + 3 * gap ∧ s.leader ≠ s.devid ∧ s.leader ≠ 255 ∧ s.trestle.lost = false ∧ k ≤ s.now) ∧
    (∃ (s : State) (k a : Nat), s.trestle.edgeAt = none ∧ s.trestle.closedAt = some a ∧ k = a + 2000000 ∧ s.leader ≠ s.devid ∧
      s.leader ≠ 255 ∧ s.trestle.lost = false ∧ k ≤ s.now) ∧
    (∃ (s : State) (k a : Nat), s.trestle.edgeAt = none ∧ s.trestle.closedAt = some a ∧ k = a + 2000000 ∧ s.now < k) :=
  ⟨⟨{ coop leading with now := 1000000 }, by decide +kernel⟩,
    ⟨{ coop { leading with pulseAt := some 0 } with now := 500000 }, by decide +kernel, by decide +kernel, 0, by decide +kernel⟩,
    ⟨following {}, by decide +kernel⟩,
    ⟨peerMsg 4 0 (0 :: leBytes 8 0), 0 :: leBytes 8 0, 0, 200, 0, _, following { edge := some (200, 0), everAligned := true }, by decide +kernel,
      by decide +kernel, by decide +kernel, by decide +kernel, by decide +kernel, by decide +kernel, rfl, by decide +kernel⟩,
    ⟨peerMsg 4 0 (0 :: leBytes 8 0), 0 :: leBytes 8 0, 0, 1000, 0, _, following { edge := some (1000, 0), everAligned := true }, by decide +kernel,
      by decide +kernel, by decide +kernel, by decide +kernel, by decide +kernel, by decide +kernel, rfl, by decide +kernel⟩,
    ⟨peerMsg 4 0 (List.replicate 9 0), List.replicate 9 0, 0, following {}, by decide +kernel⟩,
    ⟨peerMsg 6 1 [4, 0, 0, 0], [4, 0, 0, 0], 1, coop leading, by decide +kernel⟩,
    ⟨0, { following { edgeAt := some 0 } with now := 1000000000000 }, by decide +kernel⟩,
    ⟨{ following { edgeAt := some 0 } with now := 1500000 }, 500000, 1500000, 0, by decide +kernel⟩,
    ⟨{ following {} with now := 2000000 }, 2000000, 0, by decide +kernel⟩,
    ⟨{ following {} with now := 1999999 }, 2000000, 0, by decide +kernel⟩⟩

/-! ### The dictionary, requests and events -/

/-- The item that writes KIND of channel 511 with 1, and the entry's row. -/
def kindItem : ReqItem := { write := true, shadow := false, snap := false, idx := 0x21FF, sub := 1, val := [1] }
def kindRow : Entry := ⟨1, 1, .rwc, 1, 1, 0, .between 0 3⟩

theorem meets_RegisterWritesStageOrTakeEffect :
    (∃ (k : Nat) (s : State), s.hears .owner ∧ s.noSwapDue ∧ k = ((s.sessions.find? (fun x => x.2.keyId == roleKey .owner)).map (fun x => x.1)).getD s.sessNext ∧
      s.itemCheck .owner k { kindItem with val := [4] } ≠ 0) ∧
    (∃ (k n b w : Nat) (o : Obj) (e : Entry) (s : State), s.hears .owner ∧ s.noSwapDue ∧
      k = ((s.sessions.find? (fun x => x.2.keyId == roleKey .owner)).map (fun x => x.1)).getD s.sessNext ∧
      s.itemCheck .owner k kindItem = 0 ∧ locate 0x21FF 1 = some (o, n, b) ∧ rowAt o n b = some e ∧ e.acc = .rwc ∧
      roleSet .owner = some w ∧ s.setBusy w = false ∧ s.heldElsewhere w (rk o.base n b) = false ∧
      (tabInsert (rk o.base n b) 1 (tabErase (s.stageSet w).entries (rk o.base n b))).length ≤ 1024 ∧
      setBytes (tabInsert (rk o.base n b) 1 (tabErase (s.stageSet w).entries (rk o.base n b))) ≤ 65536) ∧
    (∃ (k : Nat) (s : State), s.hears .owner ∧ s.noSwapDue ∧ s.itemCheck .owner k kindItem = 0 ∧ s.setBusy 16 = true) ∧
    (∃ (k : Nat) (s : State), s.hears .owner ∧ s.noSwapDue ∧ s.itemCheck .owner k kindItem = 0 ∧ s.setBusy 16 = false ∧
      s.heldElsewhere 16 (rk 0x2000 511 1) = true) ∧
    (∃ (k n b : Nat) (o : Obj) (e : Entry) (s : State), s.hears .owner ∧ s.noSwapDue ∧
      k = ((s.sessions.find? (fun x => x.2.keyId == roleKey .owner)).map (fun x => x.1)).getD s.sessNext ∧
      s.itemCheck .owner k { kindItem with idx := 0x34E0, val := [0xFF, 1] } = 0 ∧ locate 0x34E0 1 = some (o, n, b) ∧
      rowAt o n b = some e ∧ e.acc = .rw ∧ ¬(o.base = 0x1180 ∧ b = 8) ∧ s.writeSpecial k o.base n b 511 = none ∧
      rk o.base n b ∉ itemKeys .owner) ∧
    (∃ s : State, s.serves = false) ∧
    (∃ (r : Role) (s : State), s.serves = true ∧ s.undefinedRole r = true) :=
  ⟨⟨_, up, hearsOwner (by decide +kernel), idle rfl, rfl, by decide +kernel⟩,
    ⟨_, 511, 1, 16, objCh, kindRow, up, hearsOwner (by decide +kernel), idle rfl, rfl, by decide +kernel⟩,
    ⟨0, { up with queueC := [(16, 0)] }, hearsOwner (by decide +kernel), idle rfl, by decide +kernel⟩,
    ⟨0, up.setStage 15 { entries := [(rk 0x2000 511 1, 1)] }, hearsOwner (by decide +kernel), idle rfl, by decide +kernel⟩,
    ⟨_, 0, 1, objBench, ⟨1, 1, .rw, 2, 2, 65535, .orElse 0 511 0xFFFF⟩, up, hearsOwner (by decide +kernel), idle rfl, rfl, by decide +kernel⟩,
    ⟨State.reset, by decide +kernel⟩,
    ⟨.partition 15, up, by decide +kernel⟩⟩

/-- A batch of one item (Table 13-2): a write of KIND of channel 511 with 1, and a read of the identity. -/
def writeBatch : Bytes := [1, 0, 0, 0, 2, 0, 0xFF, 0x21, 1, 0, 1, 0, 1]
def readBatch : Bytes := [1, 0, 0, 0, 1, 0, 0x00, 0x10, 2, 0, 0, 0]

/-- The owner key of the tests, and a frame of KEY_ID 16 with a FRESH value and a good tag (Table 13-1). -/
def ownerKey : BitVec 128 := 0
def headed (fresh : Nat) : Bytes := [0x10, 0, 16, 0, 0, 0, 13, 0] ++ leBytes 4 fresh ++ writeBatch
def framed (fresh : Nat) : Bytes := headed fresh ++ leBytes 8 (tag64 ownerKey (headed fresh))

/-- A request that waits, of OWNER's key with its session. -/
def asking (b : Bytes) : State :=
  { up.setKey 16 { key := some ownerKey } with
    sessions := [(0, { tr := .spi, ep := 0, keyId := 16, opened := 0, lastUsed := 0, cursor := 0 })],
    inbox := [{ req := { tr := .spi, ep := 0, service := false, bytes := b }, at_ := 0 }] }

theorem leNat_of_leBytes (n v : Nat) (h : v < 256 ^ n) : leNat (leBytes n v) = v := by
  induction n generalizing v with
  | zero => simp only [Nat.pow_zero] at h; simp only [leBytes, leNat]; omega
  | succ n ih =>
    simp only [leBytes, leNat, ih (v / 256) (by rw [Nat.pow_succ] at h; omega), BitVec.toNat_ofNat]
    omega

theorem framed_tag (fresh : Nat) : (asking (framed fresh)).tagGood (framed fresh) = true := by
  have l : (headed fresh).length = 25 := rfl
  have f : (framed fresh).length = 33 := rfl
  have k : frKey (framed fresh) = 16 := rfl
  have y : ((asking (framed fresh)).key 16).key = some ownerKey := rfl
  have d : (framed fresh).drop 25 = leBytes 8 (tag64 ownerKey (headed fresh)) := by rw [← l]; exact List.drop_left ..
  have t : (framed fresh).take 25 = headed fresh := by rw [← l]; exact List.take_left ..
  have b : tag64 ownerKey (headed fresh) < 256 ^ 8 := by
    have := (Config.cmac ownerKey (headed fresh)).isLt
    unfold tag64
    omega
  simp only [State.tagGood, k, y, f, Nat.reduceSub, d, t, leNat_of_leBytes _ _ b, beq_self_eq_true]

/-- A fault-fabric test that would pass, and clean cells. -/
def fine : Hw := { fabricOk := true, senses := [] }
theorem noneWaits {s : State} (h : s.waits = []) (hw : Hw) : s = s.deliver hw := by
  simp [State.deliver, State.batchOpen, State.deliverLoop, h]

theorem meets_RequestsPassTheirSteps :
    (∃ (x : InReq) (hw : Hw) (s u : State), s.serves = true ∧ s.noSwapDue ∧ u = s.deliver hw ∧ u.batchOpen = false ∧ u.nextRequest = some x ∧ x.req.service = false ∧
      u.frameFits x.req.tr x.req.bytes = false) ∧
    (∃ (x : InReq) (hw : Hw) (s u : State), s.serves = true ∧ s.noSwapDue ∧ u = s.deliver hw ∧ u.batchOpen = false ∧ u.nextRequest = some x ∧ x.req.service = false ∧
      u.frameFits x.req.tr x.req.bytes = true ∧ u.tagGood x.req.bytes = false) ∧
    (∃ (x : InReq) (hw : Hw) (s u : State), s.serves = true ∧ s.noSwapDue ∧ u = s.deliver hw ∧ u.batchOpen = false ∧ u.nextRequest = some x ∧ x.req.service = false ∧
      u.frameFits x.req.tr x.req.bytes = true ∧ u.tagGood x.req.bytes = true ∧ (u.key (frKey x.req.bytes)).fresh (frFresh x.req.bytes) = none) ∧
    (∃ (x : InReq) (y : KeyX) (n : Nat) (z : Session) (it : ReqItem) (o : Obj) (m b : Nat) (e : Entry) (hw : Hw) (s u : State), s.serves = true ∧ s.noSwapDue ∧ u = s.deliver hw ∧ u.batchOpen = false ∧
      u.nextRequest = some x ∧ x.req.service = false ∧ u.tagGood x.req.bytes = true ∧ u.frameFits x.req.tr x.req.bytes = true ∧
      (u.key (frKey x.req.bytes)).fresh (frFresh x.req.bytes) = some y ∧ frKey x.req.bytes = 16 ∧
      u.findSession x.req.tr x.req.ep 16 = some n ∧ u.session n = some z ∧ z.keyId = 16 ∧ u.waiting n (frTid x.req.bytes) = none ∧
      u.cached z (frTid x.req.bytes) = none ∧ u.openRequests ≤ 256 ∧ parseBatch (frPayload x.req.bytes) = some [it] ∧ it.write = true ∧
      it.snap = false ∧ u.itemCheck .owner n it = 0 ∧ waitsFor it = none ∧ locate it.idx it.sub = some (o, m, b) ∧ rowAt o m b = some e ∧
      e.acc = .rwc ∧ u.setBusy 16 = false ∧ u.heldElsewhere 16 (rk o.base m b) = false ∧
      (tabInsert (rk o.base m b) (leNat it.val) (tabErase (u.stageSet 16).entries (rk o.base m b))).length ≤ 1024 ∧
      setBytes (tabInsert (rk o.base m b) (leNat it.val) (tabErase (u.stageSet 16).entries (rk o.base m b))) ≤ 65536) ∧
    (∃ (x : InReq) (w : Fin 16) (n : Nat) (z : Session) (it : ReqItem) (hw : Hw) (s u : State), s.serves = true ∧ s.noSwapDue ∧ u = s.deliver hw ∧ u.batchOpen = false ∧ u.nextRequest = some x ∧
      x.req.service = true ∧ u.findSession x.req.tr x.req.ep 17 = some n ∧ u.session n = some z ∧ z.tr = .svc w ∧ z.keyId = 17 ∧
      u.openRequests ≤ 256 ∧ parseBatch x.req.bytes = some [it] ∧ it.write = false ∧ it.snap = false ∧ u.itemCheck .service n it = 0) ∧
    (∃ s : State, s.serves = false) ∧
    (∃ (hw : Hw) (s u : State), s.serves = true ∧ s.noSwapDue ∧ u = s.deliver hw ∧ u.batchOpen = false ∧ u.nextRequest = none) :=
  ⟨⟨_, fine, asking [], _, by decide +kernel, idle rfl, noneWaits rfl fine, rfl, rfl, by decide +kernel⟩,
    ⟨_, fine, { asking (framed 1) with keys := [] }, _, by decide +kernel, idle rfl, noneWaits rfl fine, rfl, rfl, by decide +kernel⟩,
    ⟨_, fine, asking (framed 0), _, by decide +kernel, idle rfl, noneWaits rfl fine, rfl, rfl, by decide +kernel, by decide +kernel, framed_tag 0, by decide +kernel⟩,
    ⟨_, { key := some ownerKey, freshLast := 1, accepted := 1 }, 0, _, kindItem, objCh, 511, 1, kindRow, fine, asking (framed 1), _, by decide +kernel,
      idle rfl, noneWaits rfl fine, rfl, rfl, by decide +kernel, framed_tag 1, by decide +kernel, by decide +kernel, by decide +kernel, by decide +kernel, rfl, by decide +kernel⟩,
    ⟨_, 15, 0, _, { write := false, shadow := false, snap := false, idx := 0x1000, sub := 2, val := [] }, fine,
      { up with sessions := [(0, { tr := .svc 15, ep := 15, keyId := 17, opened := 0, lastUsed := 0, cursor := 0 })],
                inbox := [{ req := { tr := .svc 15, ep := 15, service := true, bytes := readBatch }, at_ := 0 }] }, _,
      by decide +kernel, idle rfl, noneWaits rfl fine, rfl, rfl, by decide +kernel, by decide +kernel, rfl, by decide +kernel⟩,
    ⟨State.reset, by decide +kernel⟩,
    ⟨fine, up, _, by decide +kernel, idle rfl, noneWaits rfl fine, rfl, rfl⟩⟩

theorem meets_PeerReadsHoldTheirResult :
    (∃ (i0 i1 sub pec : Byte) (s : State), s.supply.vcore = true ∧ 18 ∉ s.islandBad ∧ pec = crc8 [BitVec.ofNat 8 s.peerAddr, 0xD1, i0, i1, sub] ∧
       (s.lastSecond s.peerReqsAt).length < 100) ∧
    (∃ (i0 i1 sub pec : Byte) (s : State), s.supply.vcore = true ∧ 18 ∉ s.islandBad ∧ pec = crc8 [BitVec.ofNat 8 s.peerAddr, 0xD1, i0, i1, sub] ∧
       100 ≤ (s.lastSecond s.peerReqsAt).length) ∧
    (∃ (i0 i1 sub pec : Byte) (s : State), s.supply.vcore = true ∧ 18 ∉ s.islandBad ∧ pec ≠ crc8 [BitVec.ofNat 8 s.peerAddr, 0xD1, i0, i1, sub]) ∧
    (∃ (idx sub st : Nat) (v : Bytes) (s : State), s.supply.vcore = true ∧ 18 ∉ s.islandBad ∧ s.trestle.dup = false ∧ s.peerReq = some (idx, sub, st, v)) ∧
    (∃ (b : Bytes) (s : State), s.supply.vcore = true ∧ 18 ∉ s.islandBad ∧ b.length ≠ 5) ∧
    (∃ s : State, s.supply.vcore = false) ∧
    (∃ s : State, s.trestle.dup = true) ∧
    (∃ s : State, s.supply.vcore = true ∧ 18 ∉ s.islandBad ∧ s.trestle.dup = false ∧ s.peerReq = none) ∧
    (∃ (idx sub : Nat) (v : Bytes) (s : State), s.peerReq = some (idx, sub, 2, v) ∧ s.serves = true ∧ s.batchOpen = false ∧ s.noSwapDue ∧ s.openRequests < 256) ∧
    (∃ (idx sub : Nat) (v : Bytes) (s : State), s.peerReq = some (idx, sub, 2, v) ∧ s.serves = true ∧ s.batchOpen = false ∧ s.noSwapDue ∧ 256 ≤ s.openRequests) ∧
    (∃ s : State, s.serves = false) :=
  ⟨⟨0, 0x10, 2, _, { up with peerReqsAt := List.replicate 99 0 }, by decide +kernel, by decide +kernel, rfl, by decide +kernel⟩,
    ⟨0, 0x10, 2, _, { up with peerReqsAt := List.replicate 100 0 }, by decide +kernel, by decide +kernel, rfl, by decide +kernel⟩,
    ⟨0, 0x10, 2, crc8 [BitVec.ofNat 8 up.peerAddr, 0xD1, 0, 0x10, 2] + 1, up, by decide +kernel⟩,
    ⟨0x1000, 2, 0, [], { up with peerReq := some (0x1000, 2, 0, []) }, by decide +kernel⟩,
    ⟨[], up, by decide +kernel⟩,
    ⟨State.reset, rfl⟩,
    ⟨coop { dup := true }, rfl⟩,
    ⟨up, by decide +kernel⟩,
    ⟨0x1000, 2, [], { up with peerReq := some (0x1000, 2, 2, []) }, by decide +kernel, by decide +kernel, by decide +kernel, idle rfl,
      by decide +kernel⟩,
    ⟨0x1000, 2, [], { up with peerReq := some (0x1000, 2, 2, []), inbox := List.replicate 256 { req := { tr := .spi, ep := 0, service := false, bytes := [] }, at_ := 0 } },
      by decide +kernel, by decide +kernel, by decide +kernel, idle rfl, by decide +kernel⟩,
    ⟨State.reset, by decide +kernel⟩⟩

/-- An event on record, and a session of OWNER on the host link that has one to send. -/
def record (n : Nat) : EventRec := { code := 0x10, source := 1, part := 255, eseq := n }
def listening (x : Session) : State := { up with sessions := [(0, x)], evRing := [record 0] }
def ownerSession : Session := { tr := .spi, ep := 0, keyId := 16, opened := 0, lastUsed := 0, cursor := 0, subscribed := true, evOut := [record 0] }

/-- What an island raises: EV 0x10 of P15. -/
def windowLeft : EventBody := { code := 0x10, part := 15, clear := false, param := [] }

theorem enters {s : State} {d : Nat} (m : s.mgmtDown = false) (n : d ∉ s.stalled) : s.enters d := ⟨m, .inr n⟩
theorem entersNot {s : State} {d : Nat} (m : s.mgmtDown = true) : ¬ s.enters d := fun h => by rw [h.1] at m; cases m

theorem meets_EventsReachTheRingAndTheSessions :
    (∃ (src : Island) (ev : EventBody) (s : State), listedCode ev.code.toNat = true ∧ s.enters (islandDom src) ∧ s.evRing.length < 2048) ∧
    (∃ (src : Island) (ev : EventBody) (s : State), listedCode ev.code.toNat = true ∧ s.enters (islandDom src) ∧ s.evRing.length = 2048 ∧ s.overwritesUnread = false) ∧
    (∃ (src : Island) (ev : EventBody) (s : State), listedCode ev.code.toNat = true ∧ ¬ s.enters (islandDom src) ∧ src ≠ .mgmt ∧ (tabGet (fun _ => []) s.evQueues (islandDom src)).length < 64) ∧
    (∃ s : State, s.mgmtDown = true) ∧
    (∃ (k : Nat) (x : Session) (e : EventRec) (s : State), s.session k = some x ∧ s.hears (keyRole x.keyId) ∧ s.nextFor x = some e) ∧
    (∃ (k : Nat) (x : Session) (s : State), s.session k = some x ∧ s.hears (keyRole x.keyId) ∧ s.nextFor x = none ∧ x.keyId ≤ 16) ∧
    (∃ (k : Nat) (x : Session) (s : State), s.session k = some x ∧ s.hears (keyRole x.keyId) ∧ x.keyId = 17) ∧
    (∃ (k : Nat) (x : Session) (s : State), s.session k = some x ∧ s.serves = true ∧ x.subscribed = true ∧ x.evOut ≠ [] ∧
      (∀ a, x.evSentAt = some a → a + 100000 ≤ s.now) ∧ x.tr = .spi ∧ s.eventPlace x = true ∧ x.keyId ≤ 16) ∧
    (∃ (k a : Nat) (x : Session) (s : State), s.session k = some x ∧ x.evSentAt = some a ∧ s.now < a + 100000) ∧
    (∃ (src : Island) (ev : EventBody) (s : State), listedCode ev.code.toNat = true ∧ s.enters (islandDom src) ∧ s.evRing.length = 2048 ∧ s.overwritesUnread = true) ∧
    (∃ (src : Island) (ev : EventBody) (s : State), listedCode ev.code.toNat = true ∧ ¬ s.enters (islandDom src) ∧ src ≠ .mgmt ∧ 64 ≤ (tabGet (fun _ => []) s.evQueues (islandDom src)).length) ∧
    (∃ (k : Nat) (s : State), s.session k = none) ∧
    (∃ s : State, s.serves = false) ∧
    (∃ ev : EventBody, listedCode ev.code.toNat = false) :=
  ⟨⟨.hutch, windowLeft, { up with evRing := List.replicate 2047 (record 0) }, by decide +kernel, enters rfl (by decide +kernel), by decide +kernel⟩,
    ⟨.hutch, windowLeft, { up with evRing := List.replicate 2048 (record 0) }, by decide +kernel, enters rfl (by decide +kernel), by decide +kernel⟩,
    ⟨.hutch, windowLeft, { mgmtOut with evQueues := [(9, List.replicate 63 (record 0))] }, by decide +kernel, entersNot rfl, by decide +kernel⟩, ⟨mgmtOut, rfl⟩,
    ⟨0, ownerSession, record 0, listening ownerSession, by decide +kernel, hearsOwner (by decide +kernel), by decide +kernel⟩,
    ⟨0, { ownerSession with cursor := 1 }, listening { ownerSession with cursor := 1 }, by decide +kernel, hearsOwner (by decide +kernel),
      by decide +kernel⟩,
    ⟨0, { ownerSession with keyId := 17 }, listening { ownerSession with keyId := 17 }, by decide +kernel, ⟨by decide +kernel, nofun⟩, rfl⟩,
    ⟨0, { ownerSession with evSentAt := some 0 }, { listening { ownerSession with evSentAt := some 0 } with now := 100000 }, by decide +kernel,
      by decide +kernel, by decide +kernel, by decide +kernel, ofSome (b := 0) rfl (by decide +kernel), by decide +kernel⟩,
    ⟨0, 0, { ownerSession with evSentAt := some 0 }, { listening { ownerSession with evSentAt := some 0 } with now := 99999 }, by decide +kernel⟩,
    ⟨.hutch, windowLeft, { listening { ownerSession with cursor := 0 } with evRing := (List.range 2048).map record }, by decide +kernel, enters rfl (by decide +kernel), by decide +kernel⟩,
    ⟨.drive, windowLeft, { mgmtOut with evQueues := [(13, (List.range 64).map record)] }, by decide +kernel, entersNot rfl, by decide +kernel⟩,
    ⟨0, up, rfl⟩,
    ⟨State.reset, by decide +kernel⟩,
    ⟨{ windowLeft with code := 0x90 }, by decide +kernel⟩⟩

/-! ### Field links and the host link -/

/-- A device with CAN1 and the T1S link on, and device address 0. -/
def linked : State := act [(canEnable 1, 1), (t1sEnable, 1), (t1sEthertype, 0x88B5)] up

/-- The identifier of a request to device 0 from endpoint 5, with CAN_PREFIX as it stands by default (Table 13-5). -/
def toUs : BitVec 29 := BitVec.ofNat 29 ((linked.act (canCanPrefix 1)) * 32 * 65536 + 5 * 256)

/-- A T1S frame with one segment of a request. -/
def ethFrame (fcs : Bool) : EthFrame :=
  { unicast := true, fcsOk := fcs, src := 5, vlan := none, ethertype := 0x88B5, payload := 1 :: 9 :: 0 :: 0x80 :: List.replicate 42 0 }

/-- Stream 31 with one record in its ring, bound for the T1S link or the host link, with a flush time that has passed. -/
def streaming (dest : Nat) (s : State) : State :=
  { (act [(strEnable 31, 1), (strDestination 31, dest), (hostTelemIrqAge, 1)] s).setStream 31 { ring := [(0, 0, 0, 0)] } with now := 1000000000 }

theorem meets_FieldLinkFramesBringRequests :
    (∃ (k : Fin 2) (id : BitVec 29) (tid : Byte) (part : Bytes) (s : State), s.linkRuns (.can k) = true ∧ s.downCause k.val = 0 ∧
      s.serves = true ∧ s.canMine k.val id.toNat = true ∧ canLenOk (part.length + 3) = true ∧
      s.asm (.can k) (id.toNat / 256 % 256) tid.toNat = none ∧ (s.asms.filter (fun a => a.link == .can k)).length < 16) ∧
    (∃ (k : Fin 2) (id : BitVec 29) (data : Bytes) (s : State), s.linkRuns (.can k) = true ∧ s.downCause k.val = 0 ∧ canLenOk data.length = true ∧
      s.canMine k.val id.toNat = false) ∧
    (∃ (e : EthFrame) (tid : Byte) (part : Bytes) (s : State), s.linkRuns .t1s = true ∧ s.t1sSleep = false ∧ s.downCause 2 = 0 ∧
      s.serves = true ∧ e.fcsOk = true ∧ e.unicast = true ∧ e.ethertype.toNat = s.act t1sEthertype ∧ s.vlanOk e = true ∧
      e.payload = 1 :: tid :: 0 :: 0x80 :: part ∧ ethMin e ≤ e.payload.length ∧ e.payload.length ≤ 1500 ∧
      s.asm .t1s e.src.toNat tid.toNat = none ∧ (s.asms.filter (fun a => a.link == .t1s)).length < 16) ∧
    (∃ (e : EthFrame) (s : State), s.linkRuns .t1s = true ∧ s.t1sSleep = false ∧ e.fcsOk = false) ∧
    (∃ (l : Link) (ep : Nat) (tid : Byte) (a : Assembly) (s : State), s.asm l ep tid.toNat = some a ∧
      a.lastAt + 100000 * s.act dapSegTimeout < s.now) ∧
    (∃ (l : Link) (ep : Nat) (tid : Byte) (a : Assembly) (s : State), s.asm l ep tid.toNat = some a ∧
      s.now ≤ a.lastAt + 100000 * s.act dapSegTimeout) ∧
    (∃ (k : Fin 32) (s : State), s.act (strEnable k) = 1 ∧ s.act (strDestination k) = 2 ∧ (s.stream k).ring ≠ [] ∧ 11 ∉ s.islandBad ∧
      s.frameDue k = true ∧ s.linkRuns .t1s = true ∧ s.t1sSleep = false ∧ s.downCause 2 = 0) ∧
    (∃ (k : Fin 32) (s : State), s.act (strEnable k) = 1 ∧ s.act (strDestination k) = 2 ∧ (s.stream k).ring ≠ [] ∧ 11 ∉ s.islandBad ∧
      s.frameDue k = true ∧ s.t1sSleep = true) ∧
    (∃ (k : Fin 2) (data : Bytes) (s : State), s.linkRuns (.can k) = true ∧ canLenOk data.length = false) ∧
    (∃ (k : Fin 2) (data : Bytes) (s : State), s.linkRuns (.can k) = true ∧ s.downCause k.val ≠ 0 ∧ s.downCause k.val ≠ 1 ∧
      canLenOk data.length = true) ∧
    (∃ (l : Link) (ep : Nat) (tid : Byte) (s : State), s.asm l ep tid.toNat = none) ∧
    (∃ (k : Fin 32) (s : State), s.act (strEnable k) ≠ 1) :=
  ⟨⟨1, toUs, 9, List.replicate 61 0, linked, by decide +kernel⟩, ⟨1, toUs + 1, List.replicate 64 0, linked, by decide +kernel⟩,
    ⟨ethFrame true, 9, List.replicate 42 0, linked, by decide +kernel⟩, ⟨ethFrame false, linked, by decide +kernel⟩,
    ⟨.can 1, 5, 9, _, { act [(dapSegTimeout, 1)] up with asms := [{ link := .can 1, ep := 5, tid := 9, next := 1, bytes := [], lastAt := 0 }], now := 100001 },
      rfl, by decide +kernel⟩,
    ⟨.can 1, 5, 9, _, { act [(dapSegTimeout, 1)] up with asms := [{ link := .can 1, ep := 5, tid := 9, next := 1, bytes := [], lastAt := 0 }], now := 100000 },
      rfl, by decide +kernel⟩,
    ⟨31, streaming 2 linked, by decide +kernel⟩, ⟨31, streaming 2 { linked with t1sSleep := true }, by decide +kernel⟩,
    ⟨1, List.replicate 9 0, linked, by decide +kernel⟩,
    ⟨1, List.replicate 8 0, linked.setDown 1 2, by decide +kernel⟩,
    ⟨.t1s, 0, 0, up, rfl⟩,
    ⟨31, up, by decide +kernel⟩⟩

theorem meets_LinksAndHostsThatFallSilent :
    (∃ (l : Link) (c : LinkCause) (s : State), s.linkSees l c = true ∧ s.linkCause l c ≠ 0 ∧ s.downCause (linkNum l) = 0 ∧
      ¬(s.t1sSleep = true ∧ l = .t1s)) ∧
    (∃ (l : Link) (s : State), s.linkRuns l = true ∧ s.downCause (linkNum l) ≠ 0 ∧ s.downCause (linkNum l) ≠ 1) ∧
    (∃ (k : Fin 2) (s : State), s.linkRuns (.can k) = true ∧ s.downCause k.val = 1 ∧
      (s.linkX (.can k)).offAt + 100000 * s.act (canBusoffHold k.val) ≤ s.now) ∧
    (∃ (k : Nat) (x : Session) (s : State), s.session k = some x ∧ x.lastUsed + 100000000 * s.act dapSessionIdle < s.now ∧
      s.sessionAsked x = false) ∧
    (∃ (k : Nat) (x : Session) (s : State), s.session k = some x ∧ s.now ≤ x.lastUsed + 100000000 * s.act dapSessionIdle) ∧
    (∃ (p : Fin 16) (k : Nat) (s : State), (s.part p).hostAt = some k ∧ s.mgmtDown = false ∧ s.act (watchHostTimeout p) ≠ 0 ∧
      (s.part p).state ≠ .stopping ∧ k + 100000 * s.act (watchHostTimeout p) < s.now ∧ s.act (watchHostAction p) = 0) ∧
    (∃ (p : Fin 16) (k : Nat) (s : State), (s.part p).hostAt = some k ∧ s.mgmtDown = false ∧ s.act (watchHostTimeout p) ≠ 0 ∧
      (s.part p).state ≠ .stopping ∧ k + 100000 * s.act (watchHostTimeout p) < s.now ∧ s.act (watchHostAction p) = 1 ∧ (s.part p).state.isLive = true) ∧
    (∃ (p : Fin 16) (k : Nat) (s : State), (s.part p).hostAt = some k ∧ s.mgmtDown = false ∧ s.act (watchHostTimeout p) ≠ 0 ∧
      (s.part p).state ≠ .stopping ∧ k + 100000 * s.act (watchHostTimeout p) < s.now ∧ s.act (watchHostAction p) = 2 ∧ (s.part p).line = false) ∧
    (∃ s : State, s.linkRuns .t1s = true ∧ s.t1sSleep = false ∧ s.sleepOk = true) ∧
    (∃ s : State, s.linkRuns .t1s = true ∧ s.t1sSleep = false ∧ s.sleepOk = false) ∧
    (∃ s : State, s.linkRuns .t1s = true ∧ s.t1sSleep = true) ∧
    (∃ (k : Fin 2) (s : State), s.downCause k.val ≠ 1) ∧
    (∃ (k : Nat) (s : State), s.session k = none) ∧
    (∃ (p : Fin 16) (k : Nat) (s : State), (s.part p).hostAt = some k ∧ s.now ≤ k + 100000 * s.act (watchHostTimeout p)) ∧
    (∃ (l : Link) (c : LinkCause) (s : State), s.linkSees l c = true ∧ s.downCause (linkNum l) ≠ 0 ∧ s.downCause (linkNum l) ≠ 1 ∧
      ¬(s.t1sSleep = true ∧ l = .t1s) ∧ s.linkCause l c = 4) ∧
    (∃ (l : Link) (c : LinkCause) (s : State), s.linkSees l c = true ∧ s.downCause (linkNum l) ≠ 0 ∧ s.downCause (linkNum l) ≠ 1 ∧
      ¬(s.t1sSleep = true ∧ l = .t1s) ∧ s.linkCause l c = 1) ∧
    (∃ (l : Link) (c : LinkCause) (s : State), s.linkSees l c = true ∧ s.downCause (linkNum l) ≠ 0 ∧ s.downCause (linkNum l) ≠ 1 ∧
      ¬(s.t1sSleep = true ∧ l = .t1s) ∧ s.linkCause l c ≠ 1 ∧ s.linkCause l c ≠ 4) ∧
    (∃ (l : Link) (c : LinkCause) (s : State), s.linkSees l c = false) ∧
    (∃ (l : Link) (s : State), s.now < (s.linkX l).heardAt + 100000 * s.silence l) ∧
    (∃ (l : Link) (s : State), s.linkRuns l = false) ∧
    (∃ (l : Link) (s : State), s.linkRuns l = true ∧ s.downCause (linkNum l) = 0) ∧
    (∃ (k : Fin 2) (s : State), s.now < (s.linkX (.can k)).offAt + 100000 * s.act (canBusoffHold k.val)) ∧
    (∃ (p : Fin 16) (s : State), (s.part p).state = .stopping) :=
  ⟨⟨.can 1, .busOff, linked, by decide +kernel⟩, ⟨.t1s, linked.setDown 2 3, by decide +kernel⟩, ⟨1, { linked.setDown 1 1 with now := 100000000000 }, by decide +kernel⟩,
    ⟨0, ownerSession, { act [(dapSessionIdle, 1)] (listening ownerSession) with now := 100000001 }, by decide +kernel⟩,
    ⟨0, ownerSession, { act [(dapSessionIdle, 1)] (listening ownerSession) with now := 100000000 }, by decide +kernel⟩,
    ⟨15, 0, { act [(watchHostTimeout 15, 1), (watchHostAction 15, 0)] (pState { hostAt := some 0 }) with now := 1000001 }, by decide +kernel⟩,
    ⟨15, 0, { act [(watchHostTimeout 15, 1), (watchHostAction 15, 1)] (pState { hostAt := some 0, state := .up }) with now := 1000001 },
      by decide +kernel⟩,
    ⟨15, 0, { act [(watchHostTimeout 15, 1), (watchHostAction 15, 2)] (pState { hostAt := some 0, state := .up }) with now := 1000001 },
      by decide +kernel⟩,
    ⟨act [(t1sTc10SleepOk, 1)] linked, by decide +kernel⟩, ⟨act [(t1sTc10SleepOk, 0)] linked, by decide +kernel⟩,
    ⟨{ linked with t1sSleep := true }, by decide +kernel⟩,
    ⟨1, linked, by decide +kernel⟩,
    ⟨0, up, rfl⟩,
    ⟨15, 0, { act [(watchHostTimeout 15, 1)] (pState { hostAt := some 0 }) with now := 100000 }, by decide +kernel⟩,
    ⟨.t1s, .beaconLost, linked.setDown 2 3, by decide +kernel⟩,
    ⟨.can 1, .busOff, linked.setDown 1 2, by decide +kernel⟩,
    ⟨.can 1, .silence, linked.setDown 1 2, by decide +kernel⟩,
    ⟨.can 1, .busOff, State.reset, by decide +kernel⟩,
    ⟨.can 1, act [(canLinkSilence 1, 1)] linked, by decide +kernel⟩,
    ⟨.can 1, State.reset, by decide +kernel⟩,
    ⟨.can 1, linked, by decide +kernel⟩,
    ⟨1, act [(canBusoffHold 1, 1)] (linked.setDown 1 1), by decide +kernel⟩,
    ⟨15, pState { state := .stopping }, by decide +kernel⟩⟩

/-- A frame of the host: a NOP of one lane without room for data, with its CRC, its last byte changed by `bad` (R361, R362). -/
def nopFrame (bad : Byte) : Bytes := [0, 0, 0, 0] ++ leBytes 4 ((crc32 [0, 0, 0, 0]).toNat ^^^ (bad.toNat))

/-- Inside a host frame; and asleep with a DAP frame to deliver. -/
def inFrame : State := { up with host := { inFrame := true } }
def asleep (x : HostX) : State := act [(hostHostWakeMask, 7)] { up with host := { x with sleep := true, out := [(false, [0])] } }

theorem meets_HostLinkFramesAndSleep :
    (∃ s : State, s.hostRuns = true ∧ s.host.inFrame = false ∧ s.host.sleep = false ∧ s.host.wakeOpen = false) ∧
    (∃ (rx : SpiRx) (s : State), s.hostRuns = true ∧ s.host.inFrame = true ∧ s.host.sleep = false ∧ rx.bytes.length < 4) ∧
    (∃ (rx : SpiRx) (s : State), s.hostRuns = true ∧ s.host.inFrame = true ∧ s.host.sleep = false ∧ 4 ≤ rx.bytes.length ∧
      headerOk rx.bytes = false) ∧
    (∃ (rx : SpiRx) (s : State), s.hostRuns = true ∧ s.host.inFrame = true ∧ s.host.sleep = false ∧ 4 ≤ rx.bytes.length ∧
      headerOk rx.bytes = true ∧ rx.clocks < hfClocks rx.bytes) ∧
    (∃ (rx : SpiRx) (s : State), s.hostRuns = true ∧ s.host.inFrame = true ∧ s.host.sleep = false ∧ 4 ≤ rx.bytes.length ∧
      headerOk rx.bytes = true ∧ hfClocks rx.bytes < rx.clocks) ∧
    (∃ (rx : SpiRx) (s : State), s.hostRuns = true ∧ s.host.inFrame = true ∧ s.host.sleep = false ∧ 4 ≤ rx.bytes.length ∧
      headerOk rx.bytes = true ∧ rx.clocks = hfClocks rx.bytes ∧ hostCrcOk rx.bytes = true ∧ hfCmd rx.bytes = 0) ∧
    (∃ (rx : SpiRx) (s : State), s.hostRuns = true ∧ s.host.inFrame = true ∧ s.host.sleep = false ∧ 4 ≤ rx.bytes.length ∧
      headerOk rx.bytes = true ∧ rx.clocks = hfClocks rx.bytes ∧ hostCrcOk rx.bytes = false) ∧
    (∃ s : State, s.hostRuns = true ∧ s.host.sleep = false ∧ s.serves = true ∧ s.canArrive .spi = true) ∧
    (∃ s : State, s.hostRuns = true ∧ s.host.sleep = false ∧ s.serves = false) ∧
    (∃ s : State, s.hostRuns = true ∧ s.host.sleep = false ∧ s.serves = true ∧ s.canArrive .spi = false) ∧
    (∃ s : State, s.hostRuns = true ∧ s.host.sleep = false ∧ s.wakeWanted = true) ∧
    (∃ (lowNs : Nat) (s : State), s.hostRuns = true ∧ s.host.sleep = true ∧ lowNs < 1000) ∧
    (∃ (lowNs : Nat) (s : State), s.hostRuns = true ∧ s.host.sleep = true ∧ 1000 ≤ lowNs ∧ s.host.wakeOpen = true ∧
      s.now ≤ s.host.wakeAt + lowNs / 10) ∧
    (∃ (lowNs : Nat) (s : State), s.hostRuns = true ∧ s.host.sleep = true ∧ 1000 ≤ lowNs ∧ s.host.wakeOpen = true ∧
      s.host.wakeAt + lowNs / 10 < s.now) ∧
    (∃ s : State, s.hostRuns = true ∧ s.host.sleep = true ∧ s.host.wakeOpen = false ∧ s.wakeWanted = true) ∧
    (∃ (k : Fin 32) (s : State), s.hostRuns = true ∧ s.streamDue k = true ∧ s.host.wakeOpen = false ∧ s.host.sleep = true ∧
      bitOf (s.act hostHostWakeMask) 1 = true) ∧
    (∃ (k : Fin 32) (s : State), s.hostRuns = true ∧ s.streamDue k = true ∧ s.host.wakeOpen = false ∧ s.host.sleep = false) ∧
    (∃ s : State, s.hostRuns = false) ∧
    (∃ (k : Fin 32) (s : State), s.streamDue k = false) :=
  ⟨⟨up, by decide +kernel⟩, ⟨{ bytes := [0, 0, 0], clocks := 24 }, inFrame, by decide +kernel⟩,
    ⟨{ bytes := [15, 0, 0, 0], clocks := 32 }, inFrame, by decide +kernel⟩, ⟨{ bytes := nopFrame 0, clocks := 167 }, inFrame, by decide +kernel⟩,
    ⟨{ bytes := nopFrame 0, clocks := 169 }, inFrame, by decide +kernel⟩, ⟨{ bytes := nopFrame 0, clocks := 168 }, inFrame, by decide +kernel⟩,
    ⟨{ bytes := nopFrame 1, clocks := 168 }, inFrame, by decide +kernel⟩, ⟨up, by decide +kernel⟩, ⟨mgmtOut, by decide +kernel⟩,
    ⟨{ up with inbox := List.replicate 16 { req := { tr := .spi, ep := 0, service := false, bytes := [] }, at_ := 0 } }, by decide +kernel⟩,
    ⟨act [(hostHostWakeMask, 7)] { up with host := { out := [(false, [0])] } }, by decide +kernel⟩, ⟨999, asleep {}, by decide +kernel⟩,
    ⟨1000, { asleep { wakeOpen := true, wakeAt := 0 } with now := 100 }, by decide +kernel⟩,
    ⟨1000, { asleep { wakeOpen := true, wakeAt := 0 } with now := 101 }, by decide +kernel⟩, ⟨asleep {}, by decide +kernel⟩,
    ⟨31, streaming 1 (asleep {}), by decide +kernel⟩, ⟨31, streaming 1 up, by decide +kernel⟩,
    ⟨State.reset, by decide +kernel⟩,
    ⟨31, up, by decide +kernel⟩⟩

/-! ### Trims, margins and the Bench -/

/-- Channel 511 of partition 15 with a trim and a NOMINAL of 1 V, in a state; a sweep of it and a margin of it are set up. -/
def trimmed (kind : Nat) (x : ChanX) : State :=
  reg [(benchMarginSet 15, 2 ^ 511), (benchChannel 15, 511), (benchMode 15, 0), (benchSides 15, 1)]
    (act [(chTrimKind 511, kind), (chNominal 511, 1000000)] (withP (volt x)))

/-- A sweep in a phase on that channel. -/
def swept (b : Bench) (x : ChanX) : State := (trimmed 1 x).setPart 15 { state := .up, bench := { b with chan := 511 } }

theorem meets_TrimLoopAndStaticMargins :
    (∃ (c : Fin 512) (e n v : Nat) (s : State), e = s.act (chTrimId c) ∧ n = tgtPort (s.act (tgtEntry e)) ∧ s.kind c = 1 ∧
      s.act (chTrimKind c) = 2 ∧ (∀ a, (s.entry e).sentAt = some a → a + 100000 * s.act (psTrimPmbusPeriod n) ≤ s.now) ∧
      s.loopAsked e = false ∧ 18 ∉ s.islandBad ∧ s.loopNext c = some v) ∧
    (∃ (c : Fin 512) (a : Nat) (s : State), (s.entry (s.act (chTrimId c))).sentAt = some a ∧
      s.now < a + 100000 * s.act (psTrimPmbusPeriod (tgtPort (s.act (tgtEntry (s.act (chTrimId c))))))) ∧
    (∃ (r : Role) (p : Fin 16) (s : State), s.hears r ∧ ownerOr r p = true ∧ 511 ∈ s.marginChans p ∧
      (∀ c ∈ s.marginChans p, s.kind c = 1 ∧ s.chPart c = p ∧ (s.chan c).state = .running ∧ s.hasTrim c = true ∧ (s.chan c).owKinds = [] ∧
        s.mayApply c (s.marginGoal p c) = true) ∧ s.marginBarred p = false) ∧
    (∃ (r : Role) (p : Fin 16) (c : Nat) (s : State), s.hears r ∧ ownerOr r p = true ∧ c ∈ s.marginChans p ∧ (s.chan c).state ≠ .running) ∧
    (∃ (r : Role) (p : Fin 16) (c : Nat) (s : State), s.hears r ∧ ownerOr r p = true ∧ c ∈ s.chansOf p ∧ (s.chan c).staticMgn = true ∧
      (s.chan c).state = .margin) ∧
    (∃ (c : Fin 512) (s : State), s.loopNext c = none) ∧
    (∃ (r : Role) (p : Fin 16) (s : State), s.hears r ∧ ownerOr r p = true ∧ 511 ∈ s.marginChans p ∧
      (∀ c ∈ s.marginChans p, s.kind c = 1 ∧ s.chPart c = p ∧ (s.chan c).state = .running ∧ s.hasTrim c = true) ∧
      s.mayApply 511 (s.marginGoal p 511) = false) ∧
    (∃ (r : Role) (p : Fin 16) (s : State), s.hears r ∧ ownerOr r p = true ∧ 511 ∈ s.marginChans p ∧
      (∀ c ∈ s.marginChans p, s.kind c = 1 ∧ s.chPart c = p ∧ (s.chan c).state = .running ∧ s.hasTrim c = true ∧
        s.mayApply c (s.marginGoal p c) = true) ∧ s.marginBarred p = true) ∧
    (∃ (r : Role) (p : Fin 16) (s : State), s.hears r ∧ ownerOr r p = false) :=
  ⟨⟨511, _, _, 999999, act [(psTrimPmbusStepMax 0, 1)] (trimmed 2 { state := .running, hasResult := true, loopRail := 2000000 }), rfl, rfl, by decide +kernel, by decide +kernel,
      ofNone (by decide +kernel), by decide +kernel, by decide +kernel, by decide +kernel⟩,
    ⟨511, 0, (trimmed 2 {}).setEntry 0 { sentAt := some 0 }, by decide +kernel⟩,
    ⟨.partition 15, 15, trimmed 1 { state := .running }, hearsPart (by decide +kernel) (by decide +kernel), by decide +kernel⟩,
    ⟨.owner, 15, 511, trimmed 1 {}, hearsOwner (by decide +kernel), by decide +kernel⟩,
    ⟨.owner, 15, 511, trimmed 1 { state := .margin, staticMgn := true }, hearsOwner (by decide +kernel), by decide +kernel⟩,
    ⟨511, trimmed 2 {}, by decide +kernel⟩,
    ⟨.owner, 15, reg [(benchMarginOffset 15, 30000)] (trimmed 1 { state := .running }), hearsOwner (by decide +kernel), by decide +kernel⟩,
    ⟨.owner, 15, reg [(fwFwState, 5)] (trimmed 1 { state := .running }), hearsOwner (by decide +kernel), by decide +kernel⟩,
    ⟨.partition 15, 14, pState {}, hearsPart (by decide +kernel) (by decide +kernel), by decide +kernel⟩⟩

theorem meets_BenchSweepsStartWaitAndAbort :
    (∃ (p : Fin 16) (c : Nat) (s : State), s.hears .owner ∧ c = (s.benchParams p).chan ∧
      (decide (c < 512) && s.kind c == 1 && s.chPart c == p && s.hasTrim c) = true ∧ (s.benchParams p).mode ≠ 1 ∧
      (s.benchParams p).sides % 4 ≠ 0 ∧ (s.chan c).state ≠ .running) ∧
    (∃ (p : Fin 16) (c : Nat) (s : State), s.hears .owner ∧ c = (s.benchParams p).chan ∧
      (decide (c < 512) && s.kind c == 1 && s.chPart c == p && s.hasTrim c) = true ∧ (s.benchParams p).mode ≠ 1 ∧
      (s.benchParams p).sides % 4 ≠ 0 ∧ (s.chan c).state = .running ∧ (s.part p).relief = 0 ∧ s.sweeping p = true) ∧
    (∃ (p : Fin 16) (c : Nat) (s : State), s.hears .owner ∧ c = (s.benchParams p).chan ∧
      (decide (c < 512) && s.kind c == 1 && s.chPart c == p && s.hasTrim c) = true ∧ (s.benchParams p).mode ≠ 1 ∧
      (s.benchParams p).sides % 4 ≠ 0 ∧ (s.chan c).state = .running ∧ (s.part p).relief = 0 ∧ s.sweeping p = false ∧
      s.marginBarred p = false ∧ (s.setBench p (s.benchParams p)).sweepWaits p = false ∧ (s.chan c).owKinds = []) ∧
    (∃ (p : Fin 16) (c : Nat) (s : State), s.hears .owner ∧ c = (s.benchParams p).chan ∧
      (decide (c < 512) && s.kind c == 1 && s.chPart c == p && s.hasTrim c) = true ∧ (s.benchParams p).mode ≠ 1 ∧
      (s.benchParams p).sides % 4 ≠ 0 ∧ (s.chan c).state = .running ∧ (s.part p).relief = 0 ∧ s.sweeping p = false ∧
      s.marginBarred p = false ∧ (s.setBench p (s.benchParams p)).sweepWaits p = true ∧ s.act (chTrimKind c) ≠ 2) ∧
    (∃ (r : Role) (p : Fin 16) (s : State), s.hears r ∧ ownerOr r p = true ∧ s.sweeping p = true ∧ (s.bench p).phase.runs = true) ∧
    (∃ (r : Role) (p : Fin 16) (s : State), s.hears r ∧ ownerOr r p = true ∧ s.sweeping p = false) ∧
    (∃ s : State, s.waitMaint.find? s.maintReady = none) ∧
    (∃ (k : Nat) (s : State), k < 16 ∧ s.waitMaint.find? s.maintReady = some k ∧ (s.bench k).ending = false ∧
      (s.chan (s.bench k).chan).owKinds = []) ∧
    (∃ s : State, s.waitMaint.find? s.maintReady = some 16) ∧ (∃ s : State, s.waitMaint.find? s.maintReady = some 17) ∧
    (∃ s : State, s.waitMaint.find? s.maintReady = some 19) ∧
    (∃ (a : Nat) (s : State), s.fwWaitAt = some a ∧ a + 60000000000 ≤ s.now) ∧
    (∃ (a : Nat) (s : State), s.fwWaitAt = some a ∧ s.now < a + 60000000000) ∧
    (∃ (p : Fin 16) (s : State), s.hears .owner ∧ (s.benchParams p).sides % 4 = 0) ∧
    (∃ (p : Fin 16) (c : Nat) (s : State), s.hears .owner ∧ c = (s.benchParams p).chan ∧
      (decide (c < 512) && s.kind c == 1 && s.chPart c == p && s.hasTrim c) = true ∧ (s.benchParams p).mode ≠ 1 ∧
      (s.benchParams p).sides % 4 ≠ 0 ∧ (s.chan c).state = .running ∧ (s.part p).relief = 0 ∧ s.sweeping p = false ∧ s.marginBarred p = true) ∧
    (∃ (r : Role) (p : Fin 16) (s : State), s.hears r ∧ ownerOr r p = true ∧ s.sweeping p = false ∧
      ∃ c ∈ s.chansOf p, (s.chan c).staticMgn = true) ∧
    (∃ (r : Role) (p : Fin 16) (s : State), s.hears r ∧ ownerOr r p = true ∧ s.sweeping p = false ∧
      ∀ c ∈ s.chansOf p, (s.chan c).staticMgn = false) ∧
    (∃ (r : Role) (p : Fin 16) (s : State), s.hears r ∧ ownerOr r p = false) ∧
    (∃ s : State, s.fwWaitAt = none) :=
  ⟨⟨15, _, trimmed 1 {}, hearsOwner (by decide +kernel), rfl, by decide +kernel⟩,
    ⟨15, _, swept { phase := .dwelling } { state := .running }, hearsOwner (by decide +kernel), rfl, by decide +kernel⟩,
    ⟨15, _, trimmed 1 { state := .running }, hearsOwner (by decide +kernel), rfl, by decide +kernel⟩,
    ⟨15, _, (trimmed 1 { state := .running }).setCluster 7 { calDone := true }, hearsOwner (by decide +kernel), rfl, by decide +kernel⟩,
    ⟨.partition 15, 15, swept { phase := .dwelling } { state := .margin }, hearsPart (by decide +kernel) (by decide +kernel), by decide +kernel⟩,
    ⟨.owner, 15, swept { phase := .ended } {}, hearsOwner (by decide +kernel), by decide +kernel⟩,
    ⟨up, by decide +kernel⟩, ⟨15, { swept { phase := .waiting } { state := .running } with waitMaint := [15] }, by decide +kernel⟩,
    ⟨{ up with waitMaint := [16] }, by decide +kernel⟩, ⟨{ up with waitMaint := [17] }, by decide +kernel⟩,
    ⟨{ up with waitMaint := [19] }, by decide +kernel⟩, ⟨0, { up with fwWaitAt := some 0, now := 60000000000 }, by decide +kernel⟩,
    ⟨0, { up with fwWaitAt := some 0, now := 59999999999 }, by decide +kernel⟩,
    ⟨15, reg [(benchSides 15, 4)] (trimmed 1 {}), hearsOwner (by decide +kernel), by decide +kernel⟩,
    ⟨15, _, reg [(fwFwState, 5)] (trimmed 1 { state := .running }), hearsOwner (by decide +kernel), rfl, by decide +kernel⟩,
    ⟨.owner, 15, trimmed 1 { state := .margin, staticMgn := true }, hearsOwner (by decide +kernel), by decide +kernel, by decide +kernel, 511, by decide +kernel⟩,
    ⟨.owner, 15, trimmed 1 {}, hearsOwner (by decide +kernel), by decide +kernel⟩,
    ⟨.partition 15, 14, pState {}, hearsPart (by decide +kernel) (by decide +kernel), by decide +kernel⟩,
    ⟨up, rfl⟩⟩

theorem meets_BenchStepsPassAndFail :
    (∃ (p : Fin 16) (s : State), s.benchSettled p = true ∧ (s.bench p).pend = none ∧ (s.bench p).phase = .settling) ∧
    (∃ (p : Fin 16) (s : State), s.benchSettled p = true ∧ (s.bench p).pend = none ∧ (s.bench p).phase = .returning ∧ (s.bench p).ending = false ∧
      bitOf (s.bench p).sides 1 = false) ∧
    (∃ (p : Fin 16) (s : State), (s.bench p).phase = .settling ∧ (s.bench p).ending = false ∧ s.benchSettled p = false ∧
      (s.bench p).pend = none ∧ (s.bench p).since + 10000000 ≤ s.now) ∧
    (∃ (p : Fin 16) (s : State), (s.bench p).phase = .dwelling ∧ (s.bench p).since + 100000 * (s.bench p).dwell ≤ s.now ∧
      (s.bench p).ending = false ∧ (s.bench p).mode = 0) ∧
    (∃ (p : Fin 16) (s : State), (s.bench p).phase = .dwelling ∧ (s.bench p).since + 100000 * (s.bench p).dwell ≤ s.now ∧
      (s.bench p).ending = false ∧ (s.bench p).mode = 1 ∧ (s.bench p).watchBad = true) ∧
    (∃ (p : Fin 16) (s : State), (s.bench p).phase = .dwelling ∧ (s.bench p).since + 100000 * (s.bench p).dwell ≤ s.now ∧
      (s.bench p).ending = false ∧ (s.bench p).mode ≠ 0 ∧ (s.bench p).watchBad = false) ∧
    (∃ (r : Role) (p : Fin 16) (s : State), s.hears r ∧ ownerOr r p = true ∧ (s.bench p).pend = none ∧ (s.bench p).phase = .verdict ∧
      s.now ≤ (s.bench p).since + 100000 * (s.bench p).timeout) ∧
    (∃ (r : Role) (p : Fin 16) (s : State), s.hears r ∧ ownerOr r p = true ∧ (s.bench p).phase = .dwelling ∧
      s.now < (s.bench p).since + 100000 * (s.bench p).dwell) ∧
    (∃ (p : Fin 16) (s : State), (s.bench p).phase = .verdict ∧ (s.bench p).pend = none ∧
      (s.bench p).since + 100000 * (s.bench p).timeout < s.now) ∧
    (∃ (p : Fin 16) (s : State), (s.bench p).phase = .verdict ∧ (s.bench p).ending = false ∧
      s.now ≤ (s.bench p).since + 100000 * (s.bench p).timeout) ∧
    (∃ (p : Fin 16) (s : State), (s.bench p).phase = .returning ∧ (s.bench p).ending = false ∧ s.benchSettled p = false ∧
      (s.bench p).pend = none ∧ (s.bench p).since + 10000000 ≤ s.now ∧ (s.bench p).low = false ∧ bitOf (s.bench p).sides 1 = true) ∧
    (∃ (p : Fin 16) (s : State), s.now < (s.bench p).since + 100000 * (s.bench p).dwell) ∧
    (∃ (r : Role) (p : Fin 16) (s : State), s.hears r ∧ ownerOr r p = true ∧ (s.bench p).pend = none ∧ (s.bench p).phase = .dwelling ∧
      (s.bench p).mode = 0 ∧ (s.bench p).since + 100000 * (s.bench p).dwell ≤ s.now ∧
      s.now ≤ (s.bench p).since + 100000 * (s.bench p).dwell + 100000 * (s.bench p).timeout) ∧
    (∃ (r : Role) (p : Fin 16) (s : State), s.hears r ∧ ownerOr r p = true ∧ (s.bench p).phase = .dwelling ∧
      s.now < (s.bench p).since + 100000 * (s.bench p).dwell) ∧
    (∃ (r : Role) (p : Fin 16) (s : State), s.hears r ∧ ownerOr r p = false) ∧
    (∃ (r : Role) (p : Fin 16) (s : State), s.hears r ∧ ownerOr r p = true ∧ (s.bench p).pend = none ∧ (s.bench p).phase = .verdict ∧
      (s.bench p).mode = 0 ∧ (s.bench p).since + 100000 * (s.bench p).timeout < s.now) ∧
    (∃ (p : Fin 16) (s : State), (s.bench p).pend ≠ none) ∧
    (∃ (p : Nat) (s : State), (s.bench p).ending = false ∧ (s.bench p).pend = some .pass) ∧
    (∃ (p r : Nat) (s : State), (s.bench p).ending = false ∧ (s.bench p).pend = some (.side r)) ∧
    (∃ (p : Nat) (s : State), (s.bench p).ending = false ∧ (s.bench p).pend = some .back ∧ (s.bench p).low = false ∧ bitOf (s.bench p).sides 1 = true) ∧
    (∃ (p : Nat) (s : State), (s.bench p).ending = false ∧ (s.bench p).pend = some .back ∧ (s.bench p).low = true ∧ s.sweeping p = true) :=
  ⟨⟨15, swept { phase := .settling } { settled := 1000 }, by decide +kernel⟩,
    ⟨15, swept { phase := .returning, sides := 1 } { settled := 1000 }, by decide +kernel⟩,
    ⟨15, { swept { phase := .settling } {} with now := 10000000 }, by decide +kernel⟩,
    ⟨15, { swept { phase := .dwelling, dwell := 1 } {} with now := 100000 }, by decide +kernel⟩,
    ⟨15, swept { phase := .dwelling, mode := 1, watchBad := true } {}, by decide +kernel⟩,
    ⟨15, swept { phase := .dwelling, mode := 2 } {}, by decide +kernel⟩,
    ⟨.partition 15, 15, swept { phase := .verdict } {}, hearsPart (by decide +kernel) (by decide +kernel), by decide +kernel⟩,
    ⟨.owner, 15, swept { phase := .dwelling, dwell := 1 } {}, hearsOwner (by decide +kernel), by decide +kernel⟩,
    ⟨15, { swept { phase := .verdict, timeout := 1 } {} with now := 100001 }, by decide +kernel⟩,
    ⟨15, { swept { phase := .verdict, timeout := 1 } {} with now := 100000 }, by decide +kernel⟩,
    ⟨15, { swept { phase := .returning, sides := 3 } {} with now := 10000000 }, by decide +kernel⟩,
    ⟨15, { swept { phase := .dwelling, dwell := 1 } {} with now := 99999 }, by decide +kernel⟩,
    ⟨.owner, 15, { swept { phase := .dwelling, dwell := 1 } {} with now := 100000 }, hearsOwner (by decide +kernel), by decide +kernel⟩,
    ⟨.owner, 15, { swept { phase := .dwelling, dwell := 1 } {} with now := 99999 }, hearsOwner (by decide +kernel), by decide +kernel⟩,
    ⟨.partition 15, 14, pState {}, hearsPart (by decide +kernel) (by decide +kernel), by decide +kernel⟩,
    ⟨.owner, 15, { swept { phase := .verdict, timeout := 1 } {} with now := 100001 }, hearsOwner (by decide +kernel), by decide +kernel⟩,
    ⟨15, swept { phase := .verdict, pend := some .pass } {}, by decide +kernel⟩,
    ⟨15, swept { phase := .verdict, pend := some .pass } {}, by decide +kernel⟩,
    ⟨15, 2, swept { phase := .verdict, pend := some (.side 2) } {}, by decide +kernel⟩,
    ⟨15, swept { phase := .returning, pend := some .back, sides := 3 } {}, by decide +kernel⟩,
    ⟨15, swept { phase := .returning, pend := some .back, sides := 3, low := true } {}, by decide +kernel⟩⟩

/-! ### The first-fault log -/

/-- A flash that has read its journal, and one with a torn drawer in slot 0. -/
def nvUp : State := { up with nv := { journalRead := true } }
def torn (s : State) : State := s.setGranule 0x60000 { intent := true }

/-- A latch entry of cluster 7 for partition 15, whose event is open. -/
def latching (arrived : Bool) (x : PartX) : State :=
  (withP up).setPart 15 { x with eventOpen := true } |>.setLatch 7 15 { isSet := true, arrived := arrived }

/-- The open event of partition 0, cut at tick 1, with its merge window, at a tick. -/
def merging (k : Nat) (x : LogX) : State :=
  { up.setPart 0 { eventOpen := true, cutTick := some 1, snap := { kind := 1 }, merge := some { openedAt := 0, clusters := [7] } } with
    now := k, log := x }

theorem meets_LatchEntriesMergeIntoOneDrawer :
    (∃ (p : Fin 16) (n : Fin 8) (s : State), (s.latch n p).isSet = false) ∧
    (∃ (p : Fin 16) (n : Fin 8) (m : Merge) (s : State), (s.latch n p).isSet = true ∧ (s.latch n p).arrived = false ∧ 9 ∉ s.stalled ∧
      (s.part p).eventOpen = true ∧ (s.part p).hutchStage = false ∧ (s.part p).merge = some m) ∧
    (∃ (p : Fin 16) (n : Fin 8) (s : State), (s.latch n p).isSet = true ∧ (s.latch n p).arrived = false ∧ 9 ∉ s.stalled ∧
      (s.part p).eventOpen = true ∧ (s.part p).hutchStage = false ∧ (s.part p).merge = none ∧ (s.part p).merged = false) ∧
    (∃ (p : Fin 16) (n : Fin 8) (s : State), (s.latch n p).isSet = true ∧ (s.latch n p).arrived = false ∧ 9 ∉ s.stalled ∧
      (s.part p).eventOpen = true ∧ (s.part p).hutchStage = false ∧ (s.part p).merge = none ∧ (s.part p).merged = true) ∧
    (∃ (p : Fin 16) (n : Fin 8) (m : Merge) (s : State), (s.latch n p).isSet = true ∧ (s.latch n p).arrived = false ∧ 9 ∉ s.stalled ∧
      (s.part p).merge = some m ∧ m.openedAt + 100 < s.now ∧ (s.part p).eventOpen = true ∧ (s.part p).hutchStage = false) ∧
    (∃ (p : Fin 16) (m : Merge) (s : State), (s.part p).merge = some m ∧ m.openedAt + 100 < s.now ∧
      (∀ e ∈ s.log.closing, e.2.part = p → s.now ≤ e.1 + 100) ∧ (∀ q < p.val, s.eventStamp q = none ∨ s.eventStamp q ≠ s.eventStamp p) ∧
      s.latched = false ∧ s.log.staged.length < 32 ∧ (∀ u, s.log.staged.getLast? = some u → u.kind ≠ 2)) ∧
    (∃ (p : Fin 16) (m : Merge) (u : Drawer) (s : State), (s.part p).merge = some m ∧ m.openedAt + 100 < s.now ∧
      (∀ e ∈ s.log.closing, e.2.part = p → s.now ≤ e.1 + 100) ∧ (∀ q < p.val, s.eventStamp q = none ∨ s.eventStamp q ≠ s.eventStamp p) ∧
      s.latched = false ∧ s.log.staged.length < 32 ∧ (s.part p).snap.kind = 1 ∧ s.log.staged.getLast? = some u ∧ u.kind = 2 ∧
      u.firstTick = (s.mergeEntries p m.clusters).firstTick ∧ ∀ w, s.log.writing = some w → w.2.seq ≠ u.seq) ∧
    (∃ (p : Fin 16) (m : Merge) (s : State), (s.part p).merge = some m ∧ m.openedAt + 100 < s.now ∧
      (∀ e ∈ s.log.closing, e.2.part = p → s.now ≤ e.1 + 100) ∧ (∀ q < p.val, s.eventStamp q = none ∨ s.eventStamp q ≠ s.eventStamp p) ∧
      s.latched = false ∧ 32 ≤ s.log.staged.length) ∧
    (∃ (p : Fin 16) (s : State), (∀ e ∈ s.log.closing, e.2.part = p → s.now ≤ e.1 + 100) ∧
      ∀ m, (s.part p).merge = some m → s.now ≤ m.openedAt + 100) ∧
    (∃ (p : Fin 16) (s : State), (∀ e ∈ s.log.closing, e.2.part = p → s.now ≤ e.1 + 100) ∧
      ∃ q < p.val, s.eventStamp q ≠ none ∧ s.eventStamp q = s.eventStamp p) ∧ (∃ s : State, 9 ∈ s.stalled) := by
  refine ⟨⟨15, 7, up, by decide +kernel⟩, ⟨15, 7, _, latching false { merge := some { openedAt := 0, clusters := [6] } }, by decide +kernel, by decide +kernel,
      by decide +kernel, by decide +kernel, by decide +kernel, rfl⟩,
    ⟨15, 7, latching false {}, by decide +kernel⟩, ⟨15, 7, latching false { merged := true }, by decide +kernel⟩,
    ⟨15, 7, { openedAt := 0, clusters := [6] }, { latching false { merge := some { openedAt := 0, clusters := [6] } } with now := 101 },
      by decide +kernel⟩,
    ⟨0, { openedAt := 0, clusters := [7] }, merging 101 {}, by decide +kernel, by decide +kernel, by decide +kernel,
      fun q h => absurd h (Nat.not_lt_zero q), by decide +kernel, by decide +kernel, ofNone rfl⟩,
    ⟨0, { openedAt := 0, clusters := [7] }, { kind := 2, firstTick := 1 }, merging 101 { staged := [{ kind := 2, firstTick := 1 }] },
      by decide +kernel, by decide +kernel, by decide +kernel, fun q h => absurd h (Nat.not_lt_zero q), by decide +kernel, by decide +kernel,
      by decide +kernel, rfl, rfl, by decide +kernel, ofNone rfl⟩,
    ⟨0, { openedAt := 0, clusters := [7] }, merging 101 { staged := List.replicate 32 {} }, by decide +kernel, by decide +kernel,
      by decide +kernel, fun q h => absurd h (Nat.not_lt_zero q), by decide +kernel, by decide +kernel⟩,
    ⟨0, merging 100 {}, by decide +kernel, ofSome (b := { openedAt := 0, clusters := [7] }) (by decide +kernel) (by decide +kernel)⟩,
    ⟨1, (merging 101 {}).setPart 1 { eventOpen := true, cutTick := some 1 }, by decide +kernel, 0, by decide +kernel⟩,
    ⟨{ up with stalled := [9] }, by decide⟩⟩

/-- LATCHED mode with no free slot: every sector of the ring has failed. -/
theorem meets_LatchEntriesMergeIntoOneDrawer_full :
    ∃ (p : Fin 16) (m : Merge) (s : State), (s.part p).merge = some m ∧ m.openedAt + 100 < s.now ∧ s.latched = true ∧
      slots.any s.slotFreeAt = false ∧ (∀ e ∈ s.log.closing, e.2.part = p → s.now ≤ e.1 + 100) ∧
      ∀ q < p.val, s.eventStamp q = none ∨ s.eventStamp q ≠ s.eventStamp p :=
  ⟨0, { openedAt := 0, clusters := [7] },
    { act [(logMode, 1)] (up.setPart 0 { merge := some { openedAt := 0, clusters := [7] } }) with
      now := 101, sectors := (List.range 16).map (fun n => (1536 + n, { failed := true })) },
    by decide +kernel, by decide +kernel, by decide +kernel, by decide +kernel, by decide +kernel, fun q h => absurd h (Nat.not_lt_zero q)⟩

/-- Slot 0 being programmed with a drawer of an earlier power-up. -/
def writing : State :=
  { nvUp with log := { staged := [{ old := true }], writing := some (0, { old := true }) },
              nv := { journalRead := true, program := some { why := .drawer, erase := false, addr := 0x600000, data := List.replicate 128 0 } } }

theorem meets_DrawersCommitAndReadBack :
    (∃ (d : Drawer) (mk : Bool) (n : Nat) (s : State), s.nvReady = true ∧ s.eraseHalted = true ∧ s.log.writing = none ∧
      s.nextDrawer = some (d, mk) ∧ s.nextSlot = some n) ∧
    (∃ s : State, s.nvReady = false) ∧
    (∃ (n : Nat) (d : Drawer) (o : NvOp) (s : State), s.log.writing = some (n, d) ∧ s.nv.program = some o ∧ s.log.marker = none ∧
      s.mgmtDown = false ∧ d.old = true ∧ (s.log.staged.drop 1).any (fun x => x.old) = false) ∧
    (∃ s : State, s.log.writing = none) ∧
    (∃ (d : Drawer × Bool) (s : State), s.nvReady = true ∧ s.eraseHalted = true ∧ s.log.writing = none ∧ s.nextDrawer = some d ∧
      s.nextSlot = none ∧ s.latched = false ∧ s.sectorHolds (s.log.writePos / 32) = true ∧ s.log.writePos % 32 = 0 ∧ s.nv.queue = [] ∧
      s.nv.erase = none) ∧
    (∃ (n : Nat) (d : Drawer) (o : NvOp) (sense : Sense) (s : State), s.log.writing = some (n, d) ∧ s.nv.program = some o ∧
      o.addr = slotAddr n ∧ o.data.length = 128 ∧ (∀ g ∈ granulesOf (slotAddr n) 128, (s.granule g).damaged = false) ∧
      (s.sector (secOf (slotAddr n))).open_ = false ∧ (s.sector (secOf (slotAddr n))).failed = false ∧ sense.uncorrectable = [] ∧
      s.log.marker = none ∧ s.mgmtDown = false ∧ d.old = true ∧ (s.log.staged.drop 1).any (fun x => x.old) = false) ∧
    (∃ (n : Nat) (d : Drawer) (o : NvOp) (sense : Sense) (s : State), s.log.writing = some (n, d) ∧ s.nv.program = some o ∧
      o.addr = slotAddr n ∧ o.data.length = 128 ∧ (∀ g ∈ granulesOf (slotAddr n) 128, (s.granule g).damaged = false) ∧
      (s.sector (secOf (slotAddr n))).open_ = false ∧ (s.sector (secOf (slotAddr n))).failed = false ∧ 7 ∈ sense.uncorrectable) :=
  ⟨⟨{}, false, 0, { nvUp with log := { staged := [{}] }, now := 1 }, by decide +kernel⟩, ⟨up, by decide +kernel⟩,
    ⟨_, _, _, writing, rfl, rfl, by decide +kernel⟩, ⟨up, rfl⟩,
    ⟨({}, false), { torn nvUp with log := { staged := [{}] }, now := 1 }, by decide +kernel⟩,
    ⟨_, _, _, { corrected := 0, weak := 0, uncorrectable := [] }, writing, rfl, rfl, by decide +kernel⟩,
    ⟨_, _, _, { corrected := 0, weak := 0, uncorrectable := [7] }, writing, rfl, rfl, by decide +kernel⟩⟩

/-- A ring with a drawer in slot 0 is not empty. -/
theorem holdsOne {s : State} (h : s.occupied 0 = true) : s.occupiedCount ≠ 0 := by
  intro e
  have m : 0 ∈ slots.filter s.occupied := List.mem_filter.mpr ⟨List.mem_range.mpr (by omega), h⟩
  rw [List.eq_nil_of_length_eq_zero e] at m
  cases m

/-- Bytes laid out from an address on, as the flash holds them. -/
def laid : Nat → Bytes → List (Nat × Byte)
  | _, [] => []
  | a, b :: l => (a, b) :: laid (a + 1) l

theorem tabFind_laid (a i : Nat) (l : Bytes) (h : i < l.length) : tabFind (laid a l) (a + i) = some l[i] := by
  induction l generalizing a i with
  | nil => cases h
  | cons b l ih =>
    cases i with
    | zero => simp [laid, tabFind]
    | succ i =>
      have e : a + (i + 1) = a + 1 + i := by omega
      have n : a ≠ a + 1 + i := by omega
      simp only [laid, e, tabFind, n, if_false]
      exact ih (a + 1) i (by simpa using h)

/-- A drawer of partition 15 in the first slot, with the tag of the device. -/
def slotBody : Bytes := List.replicate 9 0 ++ [15] ++ List.replicate 110 0
def slotBytes : Bytes := slotBody ++ leBytes 8 (tag64 drawerKey slotBody)
def drawered : State :=
  { withP nvUp with flash := laid 0x600000 slotBytes,
                    granules := (List.range 8).map (fun i => (0x60000 + i, { intent := true, marker := true })) }

theorem drawered_cells : drawered.cells (slotAddr 0) 128 = slotBytes := by
  have l : slotBytes.length = 128 := rfl
  refine List.ext_getElem (by simp [State.cells, l]) (fun i h1 h2 => ?_)
  simp only [State.cells, List.getElem_map, List.getElem_range, State.cell, tabGet]
  have f : tabFind drawered.flash (slotAddr 0 + i) = some slotBytes[i] := tabFind_laid 0x600000 i slotBytes h2
  rw [f]
  rfl

theorem drawered_slot : drawered.slotStatus 0 = 0 := by decide +kernel

theorem drawered_status : drawered.drawerStatus 0 = 0 := by
  have b : tag64 drawerKey slotBody < 256 ^ 8 := by
    have := (Config.cmac drawerKey slotBody).isLt
    unfold tag64
    omega
  have t : slotBytes.take 120 = slotBody := List.take_left' (l₂ := leBytes 8 (tag64 drawerKey slotBody)) rfl
  have d : slotBytes.drop 120 = leBytes 8 (tag64 drawerKey slotBody) := List.drop_left' rfl
  simp only [State.drawerStatus, drawered_slot, drawered_cells, t, d, leNat_of_leBytes _ _ b, if_true]

theorem meets_LogCommandsEraseVerifyAndRead :
    (∃ s : State, s.serves = true ∧ s.occupiedCount = 0) ∧
    (∃ s : State, s.serves = true ∧ s.occupiedCount ≠ 0 ∧ s.waitMaint.contains 19 = true) ∧
    (∃ s : State, s.serves = true ∧ s.occupiedCount ≠ 0 ∧ s.log.command = 0 ∧ s.waitMaint.contains 18 = false ∧
      s.waitMaint.contains 19 = false ∧ s.nvBad = false ∧ s.nvInhibited = true) ∧
    (∃ s : State, s.serves = true ∧ s.occupiedCount ≠ 0 ∧ s.log.command = 0 ∧ s.waitMaint.contains 18 = false ∧
      s.waitMaint.contains 19 = false ∧ s.nvStops = false ∧ s.fwUpdates = true) ∧
    (∃ s : State, s.serves = true ∧ s.occupiedCount ≠ 0 ∧ s.log.command = 0 ∧ s.waitMaint.contains 18 = false ∧
      s.waitMaint.contains 19 = false ∧ s.nvStops = false ∧ s.fwUpdates = false ∧ s.nv.queue = [] ∧ s.nv.erase = none) ∧
    (∃ s : State, s.serves = true ∧ s.log.command = 0 ∧ s.waitMaint.contains 18 = false ∧ s.waitMaint.contains 19 = false) ∧
    (∃ (k : Nat) (x : Session) (sense : Sense) (s : State), s.serves = true ∧ s.nvBad = false ∧ sense.uncorrectable = [] ∧ s.session k = some x) ∧
    (∃ (p : Fin 16) (d : Fin 512) (s : State), s.hears (.partition p) ∧ s.mayReadDrawer (.partition p) d = false) ∧
    (∃ s : State, s.serves = true ∧ s.log.command = 0 ∧ s.waitMaint.contains 18 = false ∧ s.waitMaint.contains 19 = false ∧
      s.nvBad = true) ∧
    (∃ (r : Role) (s : State), s.hears r ∧ r ≠ .owner) ∧
    (∃ (p : Fin 16) (d : Fin 512) (s : State), s.hears (.partition p) ∧ s.nvBad = true ∧
      s.mayReadDrawer (.partition p) d = true) ∧
    (∃ (p : Fin 16) (d : Fin 512) (sense : Sense) (s : State), s.hears (.partition p) ∧ s.nvBad = false ∧ s.drawerStatus d = 0 ∧
      s.partAt d = p ∧ ∃ i ∈ sense.uncorrectable, i < 8) :=
  ⟨⟨nvUp, by decide +kernel⟩, ⟨{ torn nvUp with waitMaint := [19] }, by decide +kernel, holdsOne (by decide +kernel), by decide +kernel⟩,
    ⟨{ torn nvUp with supply := { power := .active, vcore := true, plw := true } }, by decide +kernel, holdsOne (by decide +kernel), by decide +kernel⟩,
    ⟨reg [(fwFwState, 2)] (torn nvUp), by decide +kernel, holdsOne (by decide +kernel), by decide +kernel⟩, ⟨torn nvUp, by decide +kernel, holdsOne (by decide +kernel), by decide +kernel⟩, ⟨torn nvUp, by decide +kernel⟩,
    ⟨0, ownerSession, { corrected := 0, weak := 0, uncorrectable := [] }, listening ownerSession, by decide +kernel⟩,
    ⟨15, 0, withP (torn nvUp), hearsPart (by decide +kernel) (by decide +kernel), by decide +kernel⟩,
    ⟨{ nvUp with islandBad := [12] }, by decide +kernel⟩,
    ⟨.partition 15, pState {}, hearsPart (by decide +kernel) (by decide +kernel), by decide⟩,
    ⟨15, 511, { withP nvUp with islandBad := [12] }, hearsPart (by decide +kernel) (by decide +kernel), by decide +kernel⟩,
    ⟨15, 0, { corrected := 0, weak := 0, uncorrectable := [7] }, drawered, hearsPart (by decide +kernel) (by decide +kernel), rfl, drawered_status,
      rfl, by decide⟩⟩

/-! ### The flash -/

/-- Flash work that waits or runs. -/
def program (a : Nat) : NvOp := { why := .owner, erase := false, addr := a, data := List.replicate 16 0 }
def erasing (s : State) (susp : Bool) (fails : Nat) : State :=
  { s with nv := { journalRead := true, erase := some { why := .owner, erase := true, addr := 0x640000 }, suspended := susp, verifyFail := fails } }

/-- A ledger ring whose first two sectors hold a record each, with a record that waits at the end of the first. -/
def fullLedger : State :=
  ({ nvUp with ledger := { queue := [⟨15, 0, 0, 0, 1, 0, 0⟩], ringPos := 128 } }).setGranule 0x61100 { intent := true, marker := true }

theorem meets_ProgramOperationsWriteTheirGranules :
    (∃ (r : Interval) (i : Nat) (s : State), s.ledger.queue = [r] ∧ s.nvReady = true ∧ s.eraseHalted = true ∧
      s.drawerWaits = false ∧ s.nextRecord = some i) ∧
    (∃ (n : Nat) (s : State), s.ledger.queue ≠ [] ∧ s.nvReady = true ∧ s.eraseHalted = true ∧ s.drawerWaits = false ∧ s.nextRecord = none ∧
      s.oldestLedger = some n ∧ (s.sector n).open_ = false ∧ s.nv.queue = [] ∧ s.nv.erase = none) ∧
    (∃ s : State, s.ledger.queue = []) ∧
    (∃ (o : NvOp) (s : State), s.nvFirst 5 = some o ∧ s.programRuns = true ∧ s.programWaits o = false ∧ s.programFits o = true ∧
      o.addr % 16 = 0) ∧
    (∃ (o : NvOp) (s : State), s.nvFirst 5 = some o ∧ s.programRuns = true ∧ s.programWaits o = false ∧ s.programFits o = false) ∧
    (∃ s : State, s.nvFirst 5 = none) ∧
    (∃ (done : Nat) (o : NvOp) (n : Nat) (d : Drawer) (s : State), s.nv.program = some o ∧ s.log.writing = some (n, d) ∧
      done < (granulesOf o.addr o.data.length).length) ∧
    (∃ (done : Nat) (o : NvOp) (s : State), s.nv.program = none ∧ s.nvFirst 5 = some o ∧ s.programRuns = true ∧ s.programWaits o = false ∧
      s.programFits o = true ∧ done < (granulesOf o.addr o.data.length).length) ∧
    (∃ (o : NvOp) (s : State), s.nvFirst 5 = some o ∧ s.programWaits o = true) ∧
    (∃ (done : Nat) (o : NvOp) (s : State), s.nv.program = some o ∧ s.log.writing = none ∧
      done < (granulesOf o.addr o.data.length).length) :=
  ⟨⟨⟨15, 0, 0, 0, 1, 0, 0⟩, 0, { nvUp with ledger := { queue := [⟨15, 0, 0, 0, 1, 0, 0⟩] } }, by decide +kernel⟩, 
    ⟨0x611, fullLedger, by decide +kernel⟩, ⟨up, rfl⟩,
    ⟨program 0x640000, { nvUp with nv := { journalRead := true, queue := [program 0x640000] } }, by decide +kernel⟩,
    ⟨program 0x640000, ({ nvUp with nv := { journalRead := true, queue := [program 0x640000] } }).setGranule 0x64000 { intent := true }, by decide +kernel⟩,
    ⟨up, by decide +kernel⟩, ⟨7, _, _, _, writing, rfl, rfl, by decide +kernel⟩,
    ⟨0, program 0x640000, { nvUp with nv := { journalRead := true, queue := [program 0x640000] } }, by decide +kernel⟩,
    ⟨program 0x640000, ({ nvUp with nv := { journalRead := true, queue := [program 0x640000] } }).setSector 0x640 { open_ := true }, by decide +kernel⟩,
    ⟨0, program 0x640000, { nvUp with nv := { journalRead := true, program := some (program 0x640000) } }, by decide +kernel⟩⟩

theorem meets_ErasesRunHaltAndEnd :
    (∃ (o : NvOp) (s : State), s.nvReady = true ∧ s.nv.erase = none ∧ s.drawerWaits = false ∧ s.ledgerWaits = false ∧ s.nextErase = some o) ∧
    (∃ s : State, s.nv.erase ≠ none) ∧
    (∃ (o : NvOp) (s : State), s.nv.erase = some o ∧ s.nv.suspended = false ∧ s.supply.plw = true) ∧
    (∃ (o : NvOp) (s : State), s.nv.erase = some o ∧ s.nv.suspended = false ∧ s.suspendAsked = true ∧ s.nv.eraseFrom + 50000 ≤ s.now) ∧
    (∃ s : State, s.supply.plw = false ∧ s.now < s.nv.eraseFrom + 50000) ∧
    (∃ (o : NvOp) (s : State), s.nv.erase = some o ∧ s.nv.suspended = true ∧ s.nv.program = none ∧ s.suspendAsked = false ∧
      s.supply.plw = false ∧ s.nvRuns = true) ∧
    (∃ s : State, s.nv.erase = none) ∧
    (∃ (o : NvOp) (s : State), s.nv.erase = some o ∧ s.nv.suspended = false ∧ o.why = .owner ∧ s.nv.verifyFail = 0) ∧
    (∃ (o : NvOp) (s : State), s.nv.erase = some o ∧ s.nv.suspended = false ∧ o.why = .owner ∧ s.nv.verifyFail ≠ 0) ∧
    (∃ s : State, s.nv.suspended = true) ∧ (∃ s : State, s.openSectors ≠ [] ∧ s.nvReady = true ∧ s.nv.erase = none) ∧
    (∃ s : State, s.openSectors = []) ∧
    (∃ s : State, s.act nvScrubEnable ≠ 0 ∧ s.nv.scrubAt + s.act nvScrubPeriod * 175781250 ≤ s.now ∧ s.nvRuns = true ∧
      s.nv.program = none ∧ s.nv.erase = none ∧ s.nv.queue = [] ∧ s.drawerWaits = false ∧ s.ledgerWaits = false) ∧
    (∃ s : State, s.act nvScrubEnable = 0) :=
  ⟨⟨_, { nvUp with nv := { journalRead := true, queue := [{ program 0x640000 with erase := true }] } }, by decide +kernel, by decide +kernel,
      by decide +kernel, by decide +kernel, rfl⟩,
    ⟨erasing up false 0, by decide +kernel⟩,
    ⟨_, erasing { up with supply := { power := .active, vcore := true, plw := true } } false 0, rfl, by decide +kernel⟩,
    ⟨_, { erasing { up with log := { staged := [{}] } } false 0 with now := 50000 }, rfl, by decide +kernel⟩,
    ⟨{ erasing up false 0 with now := 49999 }, by decide +kernel⟩, ⟨_, erasing up true 0, rfl, by decide +kernel⟩, ⟨up, rfl⟩,
    ⟨_, erasing up false 0, rfl, by decide +kernel⟩, ⟨_, erasing up false 1, rfl, by decide +kernel⟩, ⟨erasing up true 0, rfl⟩,
    ⟨nvUp.setSector 2047 { open_ := true }, by decide +kernel⟩, ⟨nvUp, by decide +kernel⟩,
    ⟨{ act [(nvScrubEnable, 1), (nvScrubPeriod, 1)] nvUp with now := 175781250 }, by decide +kernel⟩,
    ⟨act [(nvScrubEnable, 0)] nvUp, by decide +kernel⟩⟩

/-- OWNER's session with its memory window at an address. -/
def at_ (a : Nat) : Session := { ownerSession with memAddr := a }
def window (a : Nat) (s : State) : State := { s with sessions := [(0, at_ a)] }

theorem meets_MemoryWindowReadsWritesAndErases :
    (∃ (addr : BitVec 32) (s : State), s.serves = true ∧ memHidden addr.toNat = true) ∧
    (∃ (addr : BitVec 32) (s : State), s.serves = true ∧ memHidden addr.toNat = false ∧ memAddrOk addr.toNat = false) ∧
    (∃ (addr : BitVec 32) (x : Session) (s : State), s.serves = true ∧ memHidden addr.toNat = false ∧ memAddrOk addr.toNat = true ∧
      s.session 0 = some x) ∧
    (∃ (x : Session) (s : State), s.serves = true ∧ s.session 0 = some x ∧ s.nvBad = true) ∧
    (∃ (sense : Sense) (x : Session) (s : State), s.serves = true ∧ s.session 0 = some x ∧ s.nvBad = false ∧ sense.uncorrectable = []) ∧
    (∃ (data : Bytes) (x : Session) (s : State), s.serves = true ∧ s.session 0 = some x ∧ 16 ≤ data.length ∧ data.length ≤ 256 ∧
      x.memAddr < 0x640000) ∧
    (∃ (data : Bytes) (x : Session) (s : State), s.serves = true ∧ s.session 0 = some x ∧ 16 ≤ data.length ∧ data.length ≤ 256 ∧
      0x640000 ≤ x.memAddr ∧ 256 < x.memAddr % 256 + data.length) ∧
    (∃ (data : Bytes) (x : Session) (s : State), s.serves = true ∧ s.session 0 = some x ∧ 16 ≤ data.length ∧ data.length ≤ 256 ∧
      0x640000 ≤ x.memAddr ∧ x.memAddr % 256 + data.length ≤ 256 ∧ s.programRefusal x.memAddr data.length = some 0x0603) ∧
    (∃ (data : Bytes) (x : Session) (s : State), s.serves = true ∧ s.session 0 = some x ∧ 16 ≤ data.length ∧ data.length ≤ 256 ∧
      0x640000 ≤ x.memAddr ∧ x.memAddr % 256 + data.length ≤ 256 ∧ s.programRefusal x.memAddr data.length = none ∧ s.nvBad = false ∧
      s.nvInhibited = true) ∧
    (∃ (data : Bytes) (x : Session) (s : State), s.serves = true ∧ s.session 0 = some x ∧ 16 ≤ data.length ∧ data.length ≤ 256 ∧
      0x640000 ≤ x.memAddr ∧ x.memAddr % 256 + data.length ≤ 256 ∧ s.programRefusal x.memAddr data.length = none ∧ s.nvStops = false) ∧
    (∃ (addr : BitVec 32) (s : State), s.serves = true ∧ 0x800000 ≤ addr.toNat) ∧
    (∃ (addr : BitVec 32) (s : State), s.serves = true ∧ 0x640000 ≤ addr.toNat ∧ addr.toNat < 0x800000 ∧ addr.toNat % 4096 = 0 ∧
      s.nvStops = false ∧ (∀ o ∈ s.nv.queue, ¬(o.erase = true ∧ o.addr = addr.toNat)) ∧ s.nv.erase = none) ∧
    (∃ (k : Nat) (s : State), s.session k = none) ∧
    (∃ (r : Role) (s : State), s.hears r ∧ r ≠ .owner) ∧
    (∃ (data : Bytes) (x : Session) (s : State), s.serves = true ∧ s.session 0 = some x ∧ 256 < data.length) :=
  ⟨⟨0x3FFFF0, up, by decide +kernel⟩, ⟨0x400001, up, by decide +kernel⟩, ⟨0x7FFFF0, _, window 0x400000 up, by decide +kernel, by decide +kernel, by decide +kernel, rfl⟩,
    ⟨_, { window 0x400000 up with islandBad := [12] }, by decide +kernel, rfl, by decide +kernel⟩,
    ⟨{ corrected := 1, weak := 1, uncorrectable := [] }, _, window 0x400000 up, by decide +kernel, rfl, by decide +kernel⟩,
    ⟨List.replicate 16 0, at_ 0x63FFF0, window 0x63FFF0 up, by decide +kernel⟩,
    ⟨List.replicate 32 0, at_ 0x6400F0, window 0x6400F0 up, by decide +kernel⟩,
    ⟨List.replicate 16 0, at_ 0x6400F0, (window 0x6400F0 up).setGranule 0x6400F { intent := true }, by decide +kernel⟩,
    ⟨List.replicate 16 0, at_ 0x6400F0, { window 0x6400F0 up with supply := { power := .active, vcore := true, plw := true } }, by decide +kernel⟩,
    ⟨List.replicate 256 0, at_ 0x640000, window 0x640000 up, by decide +kernel⟩, ⟨0x800000, up, by decide +kernel⟩,
    ⟨0x7FF000, up, by decide +kernel⟩,
    ⟨0, up, rfl⟩,
    ⟨.partition 15, pState {}, hearsPart (by decide +kernel) (by decide +kernel), by decide⟩,
    ⟨List.replicate 257 0, _, window 0x640000 up, by decide +kernel, rfl, by decide +kernel⟩⟩

theorem meets_FirmwareIsErasedWrittenSealedAndActivated :
    (∃ s : State, s.serves = true ∧ s.reg fwFwState = 5) ∧
    (∃ s : State, s.serves = true ∧ s.fwUpdates = false ∧ s.reg fwFwState ≠ 5 ∧ s.waitMaint.contains 16 = false ∧ s.nvStops = false ∧
      s.logErases = true) ∧
    (∃ s : State, s.serves = true ∧ s.fwUpdates = false ∧ s.reg fwFwState ≠ 5 ∧ s.waitMaint.contains 16 = false ∧ s.nvStops = false ∧
      s.logErases = false ∧ s.switching = false) ∧
    (∃ (data : Bytes) (s : State), s.serves = true ∧ 16 ≤ data.length ∧ data.length ≤ 256 ∧ data.length % 16 = 0 ∧ s.reg fwFwState ≠ 2) ∧
    (∃ (data : Bytes) (s : State), s.serves = true ∧ 16 ≤ data.length ∧ data.length ≤ 256 ∧ data.length % 16 = 0 ∧ s.reg fwFwState = 2 ∧
      0x200000 < s.reg fwFwOffset + data.length) ∧
    (∃ (data : Bytes) (s : State), s.serves = true ∧ 16 ≤ data.length ∧ data.length ≤ 256 ∧ data.length % 16 = 0 ∧ s.reg fwFwState = 2 ∧
      s.reg fwFwOffset + data.length ≤ 0x200000 ∧ (s.sector (secOf (bankBase s.otherBank + s.reg fwFwOffset))).failed = false ∧
      (∀ g ∈ granulesOf (bankBase s.otherBank + s.reg fwFwOffset) data.length, (s.granule g).intent = false ∧ s.granuleAsked g = false) ∧
      s.nvStops = false) ∧
    (∃ s : State, s.serves = true ∧ s.reg fwFwState = 2 ∧ (∀ o ∈ s.nv.queue, o.why ≠ .firmware) ∧ s.imageCheck s.otherBank = 0) ∧
    (∃ s : State, s.serves = true ∧ s.reg fwFwState = 2 ∧ (∀ o ∈ s.nv.queue, o.why ≠ .firmware) ∧ s.imageCheck s.otherBank ≠ 0) ∧
    (∃ s : State, s.serves = true ∧ s.reg fwFwState ≠ 4) ∧ (∃ s : State, s.serves = true ∧ s.reg fwFwState = 4 ∧ s.anySweep = true) ∧
    (∃ s : State, s.serves = true ∧ s.reg fwFwState = 4 ∧ s.anySweep = false) ∧
    (∃ s : State, s.serves = true ∧ s.fwUpdates = false ∧ s.reg fwFwState ≠ 5 ∧ s.waitMaint.contains 16 = false ∧ s.nvBad = true) ∧
    (∃ (r : Role) (s : State), s.hears r ∧ r ≠ .owner) ∧
    (∃ (data : Bytes) (s : State), s.serves = true ∧ data.length % 16 ≠ 0) ∧
    (∃ s : State, s.serves = true ∧ s.reg fwFwState = 2 ∧ ∃ o ∈ s.nv.queue, o.why = .firmware) :=
  ⟨⟨reg [(fwFwState, 5)] up, by decide +kernel⟩, ⟨{ up with log := { command := 1 } }, by decide +kernel⟩, ⟨up, by decide +kernel⟩,
    ⟨List.replicate 16 0, up, by decide +kernel⟩,
    ⟨List.replicate 32 0, reg [(fwFwState, 2), (fwFwOffset, 0x1FFFF0)] up, by decide +kernel⟩,
    ⟨List.replicate 256 0, reg [(fwFwState, 2)] up, by decide +kernel⟩,
    ⟨{ reg [(fwFwState, 2)] up with sec := { running := 1, bootBank := 1 } }, by decide +kernel, by decide +kernel, by decide +kernel,
      factory_starts rfl (by decide +kernel) (by decide +kernel)⟩,
    ⟨reg [(fwFwState, 2)] up, by decide +kernel⟩, ⟨up, by decide +kernel⟩,
    ⟨reg [(fwFwState, 4)] (swept { phase := .dwelling } { state := .margin }), by decide +kernel⟩, ⟨reg [(fwFwState, 4)] up, by decide +kernel⟩,
    ⟨{ up with islandBad := [12] }, by decide +kernel⟩,
    ⟨.partition 15, pState {}, hearsPart (by decide +kernel) (by decide +kernel), by decide⟩,
    ⟨List.replicate 17 0, up, by decide +kernel⟩,
    ⟨{ reg [(fwFwState, 2)] up with nv := { queue := [{ program 0x200000 with why := .firmware }] } }, by decide +kernel⟩⟩

/-! ### The thermal function -/

/-- A thermal function whose last sample was at tick 0. -/
def thermal (x : ThermalX) : State := { act [(thShutMap, 32768)] (pState { state := .up }) with thermal := x }

theorem meets_ThermalSamplesWaitsAndPolls :
    (∃ (own : Int) (s : State), s.diodeReads = true ∧ s.noSwapAt 0 ∧
      (∀ a, s.thermal.sampleAt = some a → a + 100000 * (if s.thermal.fast then 1 else 10) ≤ s.now) ∧ s.thermal.suspect = false ∧
      s.thermal.hotShut.inForce = false ∧ s.limHotShut < own ∧ 2 ≤ s.thermal.hotShut.count ∧ s.hotParts ≠ [] ∧
      ∀ p ∈ s.hotParts, (s.part p).line = false) ∧
    (∃ (own : Int) (s : State), s.diodeReads = true ∧ s.noSwapAt 0 ∧
      (∀ a, s.thermal.sampleAt = some a → a + 100000 * (if s.thermal.fast then 1 else 10) ≤ s.now) ∧ s.thermal.suspect = false ∧
      s.thermal.hotShut.inForce = false ∧ own ≤ s.limHotShut) ∧
    (∃ (a : Nat) (s : State), s.thermal.sampleAt = some a ∧ s.now < a + 100000 * (if s.thermal.fast then 1 else 10)) ∧
    (∃ s : State, s.diodeReads = false) ∧
    (∃ s : State, s.mgmtDown = false ∧ s.thermal.boost = true ∧ s.thermal.hotShut.inForce = true ∧
      s.thermal.tBoost + 100000 * s.act thDriveWait ≤ s.now) ∧
    (∃ s : State, s.thermal.boost = false) ∧ (∃ s : State, ∀ a ∈ s.thermal.changes, a + 1000000000 ≤ s.now) ∧
    (∃ s : State, ∃ a ∈ s.thermal.changes, s.now < a + 1000000000) ∧
    (∃ s : State, s.supply.vcore = true ∧ s.thermal.lastOwnAt + 5000000 ≤ s.now ∧ s.thermal.noSample = false) ∧
    (∃ s : State, s.now < s.thermal.lastOwnAt + 5000000) ∧
    (∃ (readings : List (Option Int)) (s : State), s.mgmtDown = false ∧ s.committed = true ∧ s.thermal.noSample = false ∧
      (∀ a, s.thermal.pollAt = some a → a + 10000000 ≤ s.now) ∧ nbKind (s.act (thnNeighbour 7)) = 1 ∧ readings[7]? = some (some 250) ∧
      nbKind (s.act (thnNeighbour 6)) = 2 ∧ s.pollAsked 6 = false ∧ nbKind (s.act (thnNeighbour 5)) = 0) ∧
    (∃ (a : Nat) (s : State), s.thermal.pollAt = some a ∧ s.now < a + 10000000) ∧
    (∃ s : State, s.mgmtDown = false ∧ s.committed = true ∧ s.thermal.noSample = true ∧
      ∀ a, s.thermal.pollAt = some a → a + 10000000 ≤ s.now) ∧ (∃ s : State, s.mgmtDown = true) := by
  refine ⟨⟨(thermal {}).limHotShut + 1, { thermal { sampleAt := some 0, hotShut := { count := 2 } } with now := 1000000 }, by decide +kernel, idleAt rfl (by decide +kernel),
      ofSome (b := 0) rfl (by decide +kernel), by decide +kernel⟩,
    ⟨(thermal {}).limHotShut, { thermal { sampleAt := some 0 } with now := 1000000 }, by decide +kernel, idleAt rfl (by decide +kernel), ofSome (b := 0) rfl (by decide +kernel),
      by decide +kernel⟩,
    ⟨0, { thermal { sampleAt := some 0 } with now := 999999 }, by decide +kernel⟩, ⟨State.reset, by decide +kernel⟩,
    ⟨{ thermal { boost := true, hotShut := { inForce := true } } with now := 1000000000000 }, by decide +kernel⟩, ⟨up, rfl⟩,
    ⟨{ thermal { changes := [0] } with now := 1000000000 }, by decide +kernel⟩, ⟨{ thermal { changes := [0] } with now := 999999999 }, by decide +kernel⟩,
    ⟨{ up with now := 5000000 }, by decide +kernel⟩, ⟨{ up with now := 4999999 }, by decide +kernel⟩,
    ⟨[none, none, none, none, none, none, none, some 250],
      { act [(thnNeighbour 7, 2 ^ 30), (thnNeighbour 6, 2 * 2 ^ 30), (thnNeighbour 5, 0)] (thermal { pollAt := some 0 }) with now := 10000000 },
      by decide +kernel, by decide +kernel, by decide +kernel, ofSome (b := 0) rfl (by decide +kernel), by decide +kernel⟩,
    ⟨0, { thermal { pollAt := some 0 } with now := 9999999 }, by decide +kernel⟩,
    ⟨thermal { noSample := true }, rfl, rfl, rfl, ofNone rfl⟩, ⟨mgmtOut, rfl⟩⟩

/-! ### The drives -/

/-- Drive 3 of partition 15, which is UP, with its carrier. -/
def driven (x : DriveX) : State := (act [(drvEnable 3, 1), (drvPartition 3, 15)] (pState { state := .up })).setDrive 3 x

/-- A good position answer of a word. -/
def answered (w : Nat) : PosRead := { startLow := false, word := w, parity := false, released := true }

theorem meets_DrivesRunMeasureAndFault :
    (∃ (d : Fin 4) (s : State), s.carrierRuns d = true ∧ s.periodAt d (s.drive d).begun ≤ 10000 * s.now ∧
      (s.drive d).running = false) ∧
    (∃ (d : Fin 4) (s : State), s.carrierRuns d = true ∧ s.periodAt d (s.drive d).begun ≤ 10000 * s.now ∧
      (s.drive d).running = true ∧ s.act (drvCtrlMode d) ≠ 1 ∧ (s.drive d).vNew = false) ∧
    (∃ t m duty carry : Int, 0 ≤ t ∧ clampInt 0 t (duty * t / 65536 + carry) < m) ∧
    (∃ t m duty carry : Int, 0 ≤ t ∧ m ≤ clampInt 0 t (duty * t / 65536 + carry) ∧ t - clampInt 0 t (duty * t / 65536 + carry) < m) ∧
    (∃ (d : Fin 4) (s : State), s.carrierRuns d = false) ∧
    (∃ (d : Fin 4) (rd : PosRead) (w n : Nat) (step : Int) (s : State), s.carrierRuns d = true ∧
      s.act (drvPosPeriod d) ≤ (s.drive d).periods ∧ n = s.act (drvPosBits d) ∧ s.act (drvPosCode d) ≠ 1 ∧
      w = rd.word / 2 ^ s.act (drvPosStatusBits d) % 2 ^ n ∧
      step = (match (s.drive d).lastRaw with
        | none => 0
        | some old => posStep n w old) ∧
      step ≤ 2 ^ (n - 2) ∧ -(2 ^ (n - 2)) ≤ step ∧ s.readPasses d rd = true) ∧
    (∃ (d : Fin 4) (rd : PosRead) (s : State), s.carrierRuns d = true ∧ s.act (drvPosPeriod d) ≤ (s.drive d).periods ∧
      s.readPasses d rd = false ∧ (s.drive d).failRun = 2 ∧ (s.drive d).fault = 0) ∧
    (∃ (d : Fin 4) (s : State), (s.drive d).periods < s.act (drvPosPeriod d)) ∧
    (∃ (d : Fin 4) (s : State), (s.drive d).standstill = false ∧ (s.drive d).tChange + 10000000 < s.now) ∧
    (∃ (d : Fin 4) (s : State), s.now ≤ (s.drive d).tChange + 10000000) ∧
    (∃ (c : Fin 512) (d : Nat) (s : State), s.inWindow c = false ∧ d < 4 ∧ s.act (drvEnable d) = 1 ∧ c.val ∈ s.currentsOf d ∧
      (s.drive d).fault = 0) ∧
    (∃ (c : Fin 512) (s : State), s.inWindow c = true) ∧
    (∃ (d : Fin 4) (a : Nat) (s : State), (s.drive d).stallFrom = some a ∧ s.act (drvStallTime d) ≠ 0 ∧
      a + 100000 * s.act (drvStallTime d) ≤ s.now ∧ s.stalls d = true ∧ (s.drive d).fault = 0) ∧
    (∃ (d : Fin 4) (s : State), (s.drive d).stallFrom = none) ∧
    (∃ (r : Role) (d : Fin 4) (s : State), s.hears r ∧ ownerOr r (s.act (drvPartition d)) = true ∧ s.act (drvEnable d) = 1 ∧
      (s.drive d).fault = 0 ∧ s.committed = true ∧ 13 ∉ s.islandBad ∧ (s.part (s.act (drvPartition d))).state = .up) ∧
    (∃ (r : Role) (d : Fin 4) (s : State), s.hears r ∧ ownerOr r (s.act (drvPartition d)) = true ∧ s.faultPersists d = true) ∧
    (∃ (r : Role) (d : Fin 4) (s : State), s.hears r ∧ ownerOr r (s.act (drvPartition d)) = true ∧ s.faultPersists d = false) ∧
    (∃ (r : Role) (d : Fin 4) (s : State), s.hears r ∧ ownerOr r (s.act (drvPartition d)) = false) :=
  ⟨⟨3, { driven {} with now := 100000000 }, by decide +kernel⟩, ⟨3, { act [(drvCtrlMode 3, 2)] (driven { running := true }) with now := 100000000 }, by decide +kernel⟩,
    ⟨50000000, 2500, 0, 0, by decide⟩, ⟨50000000, 2500, 65536, 0, by decide⟩, ⟨3, up, by decide +kernel⟩,
    ⟨3, answered 0, _, _, _, driven { periods := 1000, lastRaw := some 0 }, by decide +kernel, by decide +kernel, rfl, by decide +kernel, rfl, rfl,
      by decide +kernel⟩,
    ⟨3, { answered 0 with startLow := true }, driven { periods := 1000, failRun := 2 }, by decide +kernel⟩, ⟨3, driven {}, by decide +kernel⟩,
    ⟨3, { driven { standstill := false } with now := 10000001 }, by decide +kernel⟩,
    ⟨3, { driven {} with now := 10000000 }, by decide +kernel⟩,
    ⟨511, 3, (act [(drvCur 3 0, 511)] (driven {})).setChan 511 { upperCmp := true }, by decide +kernel⟩, ⟨511, up, by decide +kernel⟩,
    ⟨3, 0, { act [(drvCtrlMode 3, 3), (drvStallTime 3, 1)] (driven { running := true, standstill := true, stallFrom := some 0, curSet := (driven {}).curLimit 3 }) with now := 100000 },
      by decide +kernel⟩,
    ⟨3, up, by decide +kernel⟩,
    ⟨.partition 15, 3, driven {}, hearsPart (by decide +kernel) (by decide +kernel), by decide +kernel⟩,
    ⟨.owner, 3, { driven {} with islandBad := [13] }, hearsOwner (by decide +kernel), by decide +kernel⟩,
    ⟨.owner, 3, driven {}, hearsOwner (by decide +kernel), by decide +kernel⟩,
    ⟨.partition 15, 2, driven {}, hearsPart (by decide +kernel) (by decide +kernel), by decide +kernel⟩⟩

/-! ### Supplies, power-up and resets -/

/-- A device in a power state. -/
def powered (x : SupplyX) : State := { up with supply := x }

theorem meets_PowerUpsFaultsAndSwitchovers :
    (∃ s : State, s.supply.power = .backup ∧ s.reg supStartPolicy = 0) ∧
    (∃ s : State, s.supply.power = .backup ∧ s.reg supStartPolicy ≠ 0 ∧ s.supply.pendWake = false) ∧
    (∃ s : State, s.supply.power = .backup ∧ s.reg supStartPolicy ≠ 0 ∧ s.supply.pendWake = true ∧ bitOf (s.reg supWakeMask) 0 = true) ∧
    (∃ s : State, s.supply.power ≠ .backup) ∧
    (∃ (straps : Straps) (s : State), s.supply.power = .starting ∧ s.supply.enCore = true ∧ s.supply.vcore = false ∧ s.supply.reason ≠ 4 ∧
      (((s.sampleStraps straps).vcoreUp).coldSets).bootChoice = some (0, 0) ∧ s.armed = none) ∧
    (∃ (straps : Straps) (s : State), s.supply.power = .starting ∧ s.supply.enCore = true ∧ s.supply.vcore = false ∧
      (((s.sampleStraps straps).vcoreUp).coldSets).bootChoice = none) ∧
    (∃ s : State, s.supply.vcore = true ∧ s.supply.power = .active ∧
      (s.supply.faultTicks.filter (fun a => decide (s.now < a + 6000000000))).length < 2) ∧
    (∃ s : State, s.supply.vcore = true ∧ s.supply.power = .active ∧
      2 ≤ (s.supply.faultTicks.filter (fun a => decide (s.now < a + 6000000000))).length) ∧
    (∃ s : State, s.supply.vcore = false) ∧
    (∃ s : State, s.supply.power = .starting ∧ s.supply.enCore = true ∧ s.supply.vcore = false ∧ s.supply.enCoreAt + 2000000 ≤ s.now) ∧
    (∃ s : State, s.supply.power = .starting ∧ s.supply.enCore = true ∧ s.supply.vcore = false ∧ s.now < s.supply.enCoreAt + 2000000) ∧
    (∃ (a : Nat) (s : State), s.supply.recoverAt = some a ∧ a ≤ s.now) ∧ (∃ (a : Nat) (s : State), s.supply.recoverAt = some a ∧ s.now < a) ∧
    (∃ s : State, s.supply.vauxAbove = false) ∧ (∃ s : State, s.supply.vauxAbove = true) := by
  refine ⟨⟨reg [(supStartPolicy, 0)] State.reset, by decide +kernel⟩, ⟨reg [(supStartPolicy, 1)] State.reset, by decide +kernel⟩,
    ⟨reg [(supStartPolicy, 1), (supWakeMask, 1)] (powered { pendWake := true }), by decide +kernel⟩, ⟨up, by decide +kernel⟩,
    ⟨{ devid := 15, enPol := true, psel := 3 }, { State.reset with supply := { power := .starting, enCore := true } }, rfl, rfl, rfl, by decide, ?_, rfl⟩,
    ⟨{ devid := 15, enPol := true, psel := 3 }, { State.reset with supply := { power := .starting, enCore := true, reason := 4 }, sec := { factory := false } },
      rfl, rfl, rfl, by decide +kernel⟩,
    ⟨powered { power := .active, vcore := true, faultTicks := [0] }, by decide +kernel⟩,
    ⟨{ powered { power := .active, vcore := true, faultTicks := [0, 1] } with now := 5999999999 }, by decide +kernel⟩, ⟨State.reset, rfl⟩,
    ⟨{ powered { power := .starting, enCore := true } with now := 2000000 }, by decide +kernel⟩,
    ⟨{ powered { power := .starting, enCore := true } with now := 1999999 }, by decide +kernel⟩,
    ⟨1, { powered { recoverAt := some 1 } with now := 1 }, by decide +kernel⟩, ⟨1, powered { recoverAt := some 1 }, by decide +kernel⟩,
    ⟨State.reset, rfl⟩, ⟨powered { vauxAbove := true }, rfl⟩⟩
  have h := @factory_starts ((({ State.reset with supply := { power := .starting, enCore := true } } : State).sampleStraps
    { devid := 15, enPol := true, psel := 3 }).vcoreUp.coldSets) (by decide +kernel) (by decide +kernel) (by decide +kernel)
  have p : ((({ State.reset with supply := { power := .starting, enCore := true } } : State).sampleStraps
    { devid := 15, enPol := true, psel := 3 }).vcoreUp.coldSets).bootPref = 0 := by decide +kernel
  simp only [State.bootChoice, p, h, if_true]

theorem meets_WarningsCopiesAndManagementResets :
    (∃ s : State, s.supply.power ≠ .backup ∧ s.supply.plw = false ∧ s.supply.vcore = true ∧ s.nv.erase ≠ none ∧ s.ledger.running = false) ∧
    (∃ s : State, s.supply.power ≠ .backup ∧ s.supply.plw = false ∧ s.supply.vcore = false) ∧ (∃ s : State, s.supply.power = .backup) ∧
    (∃ s : State, s.supply.plw = true ∧ s.supply.vcore = false) ∧
    (∃ s : State, s.supply.plw = true ∧ s.supply.vcore = true ∧ s.nv.erase ≠ none ∧ s.nv.program = none ∧ s.nvRuns = true ∧
      ({ s with supply := { s.supply with plw := false } }).suspendAsked = false) ∧
    (∃ s : State, s.supply.plw = false) ∧ (∃ (low : Bool) (s : State), s.supply.bkupLow ≠ low) ∧ (∃ s : State, s.supply.vcore = true) ∧
    (∃ (k : Nat), retainedKey k = true ∧ k ≠ evNewestEseq ∧ ∀ p < 16, k ≠ ledsEnergyIn p ∧ k ≠ ledsEnergyOut p) ∧
    (∃ s : State, s.supply.vcore = false) ∧ (∃ lowNs : Nat, 1000 ≤ lowNs) ∧ (∃ lowNs : Nat, 100 ≤ lowNs ∧ lowNs < 1000) ∧
    (∃ lowNs : Nat, lowNs < 100) ∧ (∃ s : State, s.supply.vcore = true ∧ s.mgmtDown = true ∧ s.sec.halted = true) ∧
    (∃ s : State, s.supply.vcore = true ∧ s.mgmtDown = true ∧ s.sec.halted = false) ∧
    (∃ s : State, s.serves = true ∧ s.allDown = true) ∧ (∃ s : State, s.serves = true ∧ s.allDown = false) ∧
    (∃ (r : Role) (s : State), s.hears r ∧ r ≠ .owner) :=
  ⟨⟨erasing up false 0, by decide +kernel⟩, ⟨powered { power := .standby }, by decide +kernel⟩, ⟨State.reset, rfl⟩,
    ⟨powered { power := .standby, plw := true }, by decide +kernel⟩,
    ⟨erasing (powered { power := .active, vcore := true, plw := true }) true 0, by decide +kernel⟩, ⟨up, rfl⟩, ⟨true, up, by decide⟩, ⟨up, rfl⟩,
    ⟨chsTripCount 511, by decide +kernel⟩, ⟨State.reset, rfl⟩, ⟨1000, by decide⟩, ⟨999, by decide⟩, ⟨99, by decide⟩,
    ⟨{ mgmtOut with sec := { halted := true } }, by decide +kernel⟩, ⟨mgmtOut, by decide +kernel⟩, ⟨up, by decide +kernel⟩,
    ⟨pState { state := .up }, by decide +kernel⟩, ⟨.partition 15, withP up, hearsPart (by decide +kernel) (by decide +kernel), by decide⟩⟩

theorem meets_ButtonWakeSleepAndClock :
    (∃ s : State, s.supply.longDone = true) ∧ (∃ (lowMs : Nat) (s : State), s.supply.longDone = false ∧ lowMs < 20) ∧
    (∃ (lowMs : Nat) (s : State), s.supply.longDone = false ∧ 20 ≤ lowMs ∧ lowMs ≤ 1000 ∧ s.supply.power = .backup) ∧
    (∃ (lowMs : Nat) (s : State), s.supply.longDone = false ∧ 20 ≤ lowMs ∧ lowMs ≤ 1000 ∧ s.supply.power = .standby ∧
      bitOf (s.reg supWakeMask) 0 = true) ∧
    (∃ (lowMs : Nat) (s : State), s.supply.longDone = false ∧ 20 ≤ lowMs ∧ lowMs ≤ 1000 ∧ s.supply.power = .standby ∧
      bitOf (s.reg supWakeMask) 0 = false) ∧
    (∃ (lowMs : Nat) (s : State), s.supply.longDone = false ∧ 20 ≤ lowMs ∧ lowMs ≤ 1000 ∧ s.supply.power = .active) ∧
    (∃ (lowMs : Nat) (s : State), s.supply.longDone = false ∧ 1000 < lowMs ∧ lowMs < s.reg supLongPress) ∧
    (∃ s : State, s.supply.power = .standby) ∧
    (∃ s : State, s.supply.power = .active ∧ s.supply.vcore = true ∧ (s.part 15).state ≠ .down ∧ (s.part 15).line = false) ∧
    (∃ (a : Nat) (s : State), s.supply.lpCycleAt = some a ∧ a ≤ s.now) ∧ (∃ (a : Nat) (s : State), s.supply.lpCycleAt = some a ∧ s.now < a) ∧
    (∃ s : State, s.supply.power = .standby ∧ s.supply.rtcValid = true ∧ s.reg supRtcAlarm ≠ 0 ∧ s.supply.rtc = s.reg supRtcAlarm ∧
      bitOf (s.reg supWakeMask) 2 = true) ∧
    (∃ s : State, s.supply.rtcValid = false) ∧
    (∃ (highUs : Nat) (s : State), 50 ≤ highUs ∧ s.supply.power = .standby ∧ bitOf (s.reg supWakeMask) 1 = true) ∧
    (∃ highUs : Nat, highUs < 50) ∧
    (∃ s : State, s.serves = true ∧ s.allDown = true ∧ s.nextDrawer = none ∧ s.nv.program = none) ∧
    (∃ s : State, s.serves = true ∧ s.allDown = false) ∧ (∃ s : State, s.serves = true ∧ s.ledger.running = false) ∧
    (∃ s : State, s.supply.power = .active ∧ s.supply.vcore = false) ∧
    (∃ s : State, s.supply.lpCycleAt = none) ∧
    (∃ s : State, s.serves = true ∧ s.allDown = true ∧ bitOf (s.reg supWakeMask) 0 = true ∧ s.supply.pressAt = some s.now) ∧
    (∃ (r : Role) (s : State), s.hears r ∧ r ≠ .owner) :=
  ⟨⟨powered { longDone := true }, rfl⟩, ⟨19, up, by decide +kernel⟩, ⟨20, State.reset, by decide +kernel⟩,
    ⟨1000, reg [(supWakeMask, 1)] (powered { power := .standby }), by decide +kernel⟩,
    ⟨1000, reg [(supWakeMask, 6)] (powered { power := .standby }), by decide +kernel⟩, ⟨20, up, by decide +kernel⟩,
    ⟨1001, reg [(supLongPress, 4000)] up, by decide +kernel⟩, ⟨powered { power := .standby }, rfl⟩, ⟨pState { state := .up }, by decide +kernel⟩,
    ⟨1, { powered { lpCycleAt := some 1 } with now := 1 }, by decide +kernel⟩, ⟨1, powered { lpCycleAt := some 1 }, by decide +kernel⟩,
    ⟨reg [(supWakeMask, 4), (supRtcAlarm, 7)] (powered { power := .standby, rtcValid := true, rtc := 7 }), by decide +kernel⟩, ⟨up, rfl⟩,
    ⟨50, reg [(supWakeMask, 2)] (powered { power := .standby }), by decide +kernel⟩, ⟨49, by decide⟩, ⟨up, by decide +kernel⟩,
    ⟨pState { state := .up }, by decide +kernel⟩, ⟨up, by decide +kernel⟩,
    ⟨powered { power := .active }, by decide +kernel⟩,
    ⟨up, rfl⟩,
    ⟨reg [(supWakeMask, 1)] (powered { power := .active, vcore := true, pressAt := some 0 }), by decide +kernel⟩,
    ⟨.partition 15, withP up, hearsPart (by decide +kernel) (by decide +kernel), by decide⟩⟩

/-! ### Security -/

/-- A value of KEY_LOAD: KEY_ID, KEY_VERSION 1, and 24 bytes of a wrapped key (Table 18-8). -/
def keyValue (id : Byte) : Bytes := [id, 0, 0, 0, 1, 0, 0, 0] ++ List.replicate 24 0

/-- The boot ROM waits since tick 0. -/
def inRom (factory : Bool) : State := { mgmtOut with sec := { inRom := true, factory := factory }, now := 1000000000 }

theorem meets_BootKeysDebugAttestAndRollback :
    (∃ s : State, s.sec.inRom = true ∧ s.supply.vcore = true ∧ s.sec.romAt + 1000000000 ≤ s.now ∧ s.bootChoice = none) ∧
    (∃ s : State, s.sec.inRom = true ∧ s.supply.vcore = true ∧ s.sec.romAt + 1000000000 ≤ s.now ∧ s.bootChoice = some (0, 0)) ∧
    (∃ s : State, s.now < s.sec.romAt + 1000000000) ∧
    (∃ (val : Bytes) (s : State), s.hears .owner ∧ val.length = 28 ∧ s.reg secOwnerState = 1) ∧
    (∃ (val : Bytes) (s : State), s.hears .owner ∧ val.length = 28 ∧ s.reg secOwnerState ≠ 1 ∧ 16 ≤ s.sec.initFails) ∧
    (∃ (val : Bytes) (s : State), s.hears .owner ∧ val.length = 28 ∧ s.reg secOwnerState ≠ 1 ∧ s.sec.initFails < 16 ∧ leNat (val.take 4) = 0) ∧
    (∃ (val : Bytes) (s : State), s.hears .owner ∧ val.length = 28 ∧ s.reg secOwnerState ≠ 1 ∧ s.sec.initFails < 16 ∧ leNat (val.take 4) ≠ 0) ∧
    (∃ (val : Bytes) (s : State), s.serves = true ∧ val.length = 32 ∧ keyLoadFits val = true ∧ klVersion val ≤ s.reg (keyKeyVersion (klId val))) ∧
    (∃ (val : Bytes) (s : State), s.serves = true ∧ val.length = 32 ∧ keyLoadFits val = true ∧ s.reg (keyKeyVersion 16) < klVersion val ∧
      klId val = 16 ∧ s.sealOrSwitch = true) ∧
    (∃ (val : Bytes) (s : State), s.serves = true ∧ val.length = 32 ∧ keyLoadFits val = true ∧
      s.reg (keyKeyVersion (klId val)) < klVersion val ∧ s.sealOrSwitch = false) ∧
    (∃ s : State, s.serves = true) ∧
    (∃ (val : Bytes) (s : State), s.serves = true ∧ val.length = 16 ∧ ∃ p < 16, (s.part p).state ≠ .down) ∧
    (∃ (val : Bytes) (s : State), s.serves = true ∧ val.length = 16 ∧ ∀ p < 16, (s.part p).state = .down) ∧
    (∃ s : State, s.serves = true ∧ s.sec.halted = false ∧ s.sec.unlocked = true) ∧
    (∃ s : State, s.supply.vcore = true ∧ s.sec.unlocked = true ∧ s.mgmtDown = false) ∧
    (∃ s : State, s.supply.vcore = true ∧ s.sec.unlocked = true ∧ s.sec.halted = true) ∧
    (∃ s : State, s.supply.vcore = true ∧ s.sec.unlocked = false) ∧ (∃ s : State, s.supply.vcore = false) ∧
    (∃ (val : Bytes) (s : State), s.hears (.partition 15) ∧ val.length = 10 ∧ leNat (val.take 2) < 512 ∧
      s.mayReadDrawer (.partition 15) (leNat (val.take 2)) = false) ∧
    (∃ (val : Bytes) (sense : Sense) (x : Session) (s : State), s.hears .owner ∧ val.length = 10 ∧ leNat (val.take 2) < 512 ∧
      s.mayReadDrawer .owner (leNat (val.take 2)) = true ∧ sense.uncorrectable = [] ∧ s.session 0 = some x) ∧
    (∃ s : State, s.supply.vcore = true ∧ s.mgmtDown = false ∧ s.committed = true ∧ s.reg secRollbackCount < s.imgRollback s.sec.running) ∧
    (∃ s : State, s.mgmtDown = true) ∧
    (∃ s : State, s.supply.vcore = false ∨ s.sec.inRom = false) ∧
    (∃ (r : Role) (s : State), s.hears r ∧ r ≠ .owner ∧ r ≠ .service) ∧
    (∃ (val : Bytes) (s : State), s.hears .owner ∧ val.length ≠ 28 ∧ val.length ≠ 10) ∧
    (∃ (val : Bytes) (s : State), s.hears .owner ∧ val.length = 32 ∧ keyLoadFits val = false) ∧
    (∃ (val : Bytes) (s : State), s.hears .owner ∧ val.length = 10 ∧ 512 ≤ leNat (val.take 2)) ∧
    (∃ (val : Bytes) (s : State), s.hears .owner ∧ val.length = 10 ∧ leNat (val.take 2) < 512 ∧
      s.mayReadDrawer .owner (leNat (val.take 2)) = true ∧ s.nvBad = true) ∧
    (∃ s : State, s.serves = true ∧ s.sec.halted = false ∧ s.sec.unlocked = false) := by
  refine ⟨⟨inRom false, by decide +kernel⟩, ⟨inRom true, rfl, rfl, by decide +kernel, ?_⟩, ⟨{ inRom true with now := 999999999 }, by decide +kernel⟩,
    ⟨List.replicate 28 0, reg [(secOwnerState, 1)] up, hearsOwner (by decide +kernel), by decide +kernel⟩,
    ⟨List.replicate 28 0, { reg [(secOwnerState, 0)] up with sec := { initFails := 16 } }, hearsOwner (by decide +kernel), by decide +kernel⟩,
    ⟨List.replicate 28 0, { reg [(secOwnerState, 0)] up with sec := { initFails := 15 } }, hearsOwner (by decide +kernel), by decide +kernel⟩,
    ⟨1 :: List.replicate 27 0, reg [(secOwnerState, 0)] up, hearsOwner (by decide +kernel), by decide +kernel⟩,
    ⟨keyValue 15, reg [(keyKeyVersion 15, 1)] up, by decide +kernel⟩,
    ⟨keyValue 16, { up with armed := some { kind := .switch 1 false, tick := 1, since := 0 } }, by decide +kernel⟩,
    ⟨keyValue 15, up, by decide +kernel⟩, ⟨up, rfl⟩,
    ⟨List.replicate 16 0, pState { state := .up }, by decide +kernel⟩, ⟨List.replicate 16 0, up, by decide +kernel⟩,
    ⟨{ up with sec := { unlocked := true } }, by decide +kernel⟩, ⟨{ up with sec := { unlocked := true } }, by decide +kernel⟩,
    ⟨{ mgmtOut with sec := { unlocked := true, halted := true } }, by decide +kernel⟩, ⟨up, by decide +kernel⟩, ⟨State.reset, rfl⟩,
    ⟨List.replicate 10 0, withP (torn nvUp), hearsPart (by decide +kernel) (by decide +kernel), by decide +kernel⟩,
    ⟨0xFF :: 1 :: List.replicate 8 0, { corrected := 0, weak := 0, uncorrectable := [] }, ownerSession, listening ownerSession,
      hearsOwner (by decide +kernel), by decide +kernel⟩,
    ⟨{ up with sec := { factory := false } }, by decide +kernel⟩, ⟨mgmtOut, rfl⟩,
    ⟨State.reset, by decide +kernel⟩,
    ⟨.partition 15, withP up, hearsPart (by decide +kernel) (by decide +kernel), by decide⟩,
    ⟨List.replicate 27 0, up, hearsOwner (by decide +kernel), by decide⟩,
    ⟨List.replicate 32 0xFF, up, hearsOwner (by decide +kernel), by decide +kernel⟩,
    ⟨0 :: 2 :: List.replicate 8 0, up, hearsOwner (by decide +kernel), by decide +kernel⟩,
    ⟨List.replicate 10 0, { up with islandBad := [12] }, hearsOwner (by decide +kernel), by decide +kernel⟩,
    ⟨up, by decide +kernel⟩⟩
  have h : (inRom true).imageCheck 0 = 0 := factory_starts rfl (by decide +kernel) (by decide +kernel)
  have p : (inRom true).bootPref = 0 := rfl
  simp only [State.bootChoice, p, h, if_true]

/-! ### Profiles -/

/-- A write session of OWNER's session 0 for shelf 3, which is the target. -/
def shelfWriting : NvX := { shelfw := some (some (.spi, 0, 16), 3) }
def shelving (s : State) : State := { reg [(shelfwTargetShelf, 3)] { s with sessions := [(0, ownerSession)] } with nv := shelfWriting }

/-- The same with its erase still waiting, and with one of its programs waiting. -/
def shelfErasing : State := { shelving up with nv := { shelfWriting with queue := [{ program 0x580000 with why := .shelf, erase := true }] } }
def shelfProgramming : State := { shelving up with nv := { shelfWriting with queue := [{ program 0x580000 with why := .shelf }] } }

/-- Shelf 3 with no page to write to left unsealed at its start. -/
def shelfPins (s : State) : State := reg [(profActiveShelf, 3)] (act [(profPinFollow, 1)] s)
theorem meets_ShelvesAreWrittenSealedAndSwitched :
    (∃ (k n : Nat) (s : State), s.serves = true ∧ n = s.reg shelfwTargetShelf ∧ s.shelfwOther k = true) ∧
    (∃ (k n : Nat) (s : State), s.serves = true ∧ n = s.reg shelfwTargetShelf ∧ s.shelfwOther k = false ∧ 4 ≤ n) ∧
    (∃ (k n : Nat) (s : State), s.serves = true ∧ n = s.reg shelfwTargetShelf ∧ s.shelfwOther k = false ∧ n < 4 ∧ s.shelfBarred n = true) ∧
    (∃ (k n : Nat) (s : State), s.serves = true ∧ n = s.reg shelfwTargetShelf ∧ s.shelfwOther k = false ∧ n < 4 ∧ s.shelfBarred n = false ∧
      s.nvStops = false) ∧
    (∃ (k n : Nat) (data : Bytes) (s : State), s.serves = true ∧ n = s.reg shelfwTargetShelf ∧ 16 ≤ data.length ∧ data.length ≤ 256 ∧
      data.length % 16 = 0 ∧ s.shelfwOther k = false ∧ s.shelfOpen n = false) ∧
    (∃ (k n : Nat) (data : Bytes) (s : State), s.serves = true ∧ n = s.reg shelfwTargetShelf ∧ 16 ≤ data.length ∧ data.length ≤ 256 ∧
      data.length % 16 = 0 ∧ s.shelfwOther k = false ∧ n < 4 ∧ s.shelfOpen n = true ∧ s.shelfWork true = true) ∧
    (∃ (k n off : Nat) (data : Bytes) (s : State), s.serves = true ∧ n = s.reg shelfwTargetShelf ∧ off = s.reg shelfwOffset ∧
      16 ≤ data.length ∧ data.length ≤ 256 ∧ data.length % 16 = 0 ∧ s.shelfwOther k = false ∧ n < 4 ∧ s.shelfOpen n = true ∧
      s.shelfWork true = false ∧ 0x80000 < off + data.length) ∧
    (∃ (k n off : Nat) (data : Bytes) (s : State), s.serves = true ∧ n = s.reg shelfwTargetShelf ∧ off = s.reg shelfwOffset ∧
      16 ≤ data.length ∧ data.length ≤ 256 ∧ data.length % 16 = 0 ∧ s.shelfwOther k = false ∧ n < 4 ∧ s.shelfOpen n = true ∧
      s.shelfWork true = false ∧ off + data.length ≤ 0x80000 ∧ s.blockFailed (shelfBase n + off) data.length = false ∧
      (∀ g ∈ granulesOf (shelfBase n + off) data.length, (s.granule g).intent = false ∧ s.granuleAsked g = false) ∧
      s.blockSealed (shelfBase n + off) data.length = false ∧ s.nvStops = false) ∧
    (∃ (k n : Nat) (s : State), s.serves = true ∧ n = s.reg shelfwTargetShelf ∧ s.shelfwOther k = false ∧ n < 4 ∧ s.shelfOpen n = true ∧
      s.shelfWork false = true) ∧
    (∃ (k n : Nat) (sense : Sense) (s : State), s.serves = true ∧ n = s.reg shelfwTargetShelf ∧ s.shelfwOther k = false ∧ n < 4 ∧
      s.shelfOpen n = true ∧ s.shelfWork true = false ∧ s.shelfWork false = false ∧ sense.uncorrectable = []) ∧
    (∃ (v : Byte) (s : State), s.serves = true ∧ 4 ≤ v.toNat) ∧ (∃ (v : Byte) (s : State), s.serves = true ∧ v.toNat < 4 ∧ s.switchCheck v.toNat ≠ 0) ∧
    (∃ (v : Byte) (s : State), s.serves = true ∧ v.toNat < 4 ∧ s.switchCheck v.toNat = 0) ∧
    (∃ s : State, s.supply.vcore = true ∧ s.act profPinFollow ≠ 1) ∧
    (∃ (v : Fin 4) (s : State), s.supply.vcore = true ∧ s.mgmtDown = false ∧ s.committed = true ∧ s.act profPinFollow = 1 ∧ s.switching = false ∧
      v.val = s.supply.psel ∧ v.val = s.reg profActiveShelf) ∧
    (∃ (v : Fin 4) (s : State), s.supply.vcore = true ∧ s.mgmtDown = false ∧ s.committed = true ∧ s.act profPinFollow = 1 ∧ s.switching = false ∧
      v.val = s.supply.psel ∧ v.val ≠ s.reg profActiveShelf) ∧
    (∃ (v : Fin 4) (s : State), s.supply.vcore = true ∧ s.mgmtDown = false ∧ s.committed = true ∧ s.act profPinFollow = 1 ∧ s.switching = false ∧
      v.val ≠ s.supply.psel) ∧
    (∃ s : State, s.supply.vcore = false) ∧
    (∃ (r : Role) (s : State), s.hears r ∧ r ≠ .owner) ∧
    (∃ (data : Bytes) (s : State), s.serves = true ∧ data.length < 16) ∧
    (∃ (data : Bytes) (s : State), s.serves = true ∧ 256 < data.length) ∧
    (∃ (data : Bytes) (s : State), s.serves = true ∧ data.length ≤ 256 ∧ data.length % 16 ≠ 0) ∧
    (∃ (k : Nat) (data : Bytes) (s : State), s.serves = true ∧ 16 ≤ data.length ∧ data.length ≤ 256 ∧ data.length % 16 = 0 ∧
      s.shelfwOther k = true) ∧
    (∃ (k n : Nat) (s : State), s.serves = true ∧ n = s.reg shelfwTargetShelf ∧ s.shelfwOther k = false ∧ n < 4 ∧ s.shelfBarred n = false ∧
      s.nvStops = true ∧ s.nvBad = true) ∧
    (∃ (k n : Nat) (s : State), s.serves = true ∧ n = s.reg shelfwTargetShelf ∧ s.shelfwOther k = false ∧ n < 4 ∧ s.shelfBarred n = false ∧
      s.nvStops = true ∧ s.nvBad = false) ∧
    (∃ (k n off : Nat) (data : Bytes) (s : State), s.serves = true ∧ n = s.reg shelfwTargetShelf ∧ off = s.reg shelfwOffset ∧
      16 ≤ data.length ∧ data.length ≤ 256 ∧ data.length % 16 = 0 ∧ s.shelfwOther k = false ∧ n < 4 ∧ s.shelfOpen n = true ∧
      s.shelfWork true = false ∧ off + data.length ≤ 0x80000 ∧ s.blockFailed (shelfBase n + off) data.length = true) ∧
    (∃ s : State, s.supply.vcore = true ∧ s.mgmtDown = false ∧ s.committed = true ∧ s.switching = true) ∧
    (∃ (k n off : Nat) (data : Bytes) (s : State), s.serves = true ∧ n = s.reg shelfwTargetShelf ∧ off = s.reg shelfwOffset ∧
      16 ≤ data.length ∧ data.length ≤ 256 ∧ data.length % 16 = 0 ∧ s.shelfwOther k = false ∧ n < 4 ∧ s.shelfOpen n = true ∧
      s.shelfWork true = false ∧ off + data.length ≤ 0x80000 ∧ s.blockFailed (shelfBase n + off) data.length = false ∧
      ∃ g ∈ granulesOf (shelfBase n + off) data.length, (s.granule g).intent = true ∨ s.granuleAsked g = true) ∧
    (∃ (k n off : Nat) (data : Bytes) (s : State), s.serves = true ∧ n = s.reg shelfwTargetShelf ∧ off = s.reg shelfwOffset ∧
      16 ≤ data.length ∧ data.length ≤ 256 ∧ data.length % 16 = 0 ∧ s.shelfwOther k = false ∧ n < 4 ∧ s.shelfOpen n = true ∧
      s.shelfWork true = false ∧ off + data.length ≤ 0x80000 ∧ s.blockFailed (shelfBase n + off) data.length = false ∧
      (∀ g ∈ granulesOf (shelfBase n + off) data.length, (s.granule g).intent = false ∧ s.granuleAsked g = false) ∧
      s.blockSealed (shelfBase n + off) data.length = true) ∧
    (∃ (k n off : Nat) (data : Bytes) (s : State), s.serves = true ∧ n = s.reg shelfwTargetShelf ∧ off = s.reg shelfwOffset ∧
      16 ≤ data.length ∧ data.length ≤ 256 ∧ data.length % 16 = 0 ∧ s.shelfwOther k = false ∧ n < 4 ∧ s.shelfOpen n = true ∧
      s.shelfWork true = false ∧ off + data.length ≤ 0x80000 ∧ s.blockFailed (shelfBase n + off) data.length = false ∧
      (∀ g ∈ granulesOf (shelfBase n + off) data.length, (s.granule g).intent = false ∧ s.granuleAsked g = false) ∧
      s.blockSealed (shelfBase n + off) data.length = false ∧ s.nvBad = true) ∧
    (∃ (k n off : Nat) (data : Bytes) (s : State), s.serves = true ∧ n = s.reg shelfwTargetShelf ∧ off = s.reg shelfwOffset ∧
      16 ≤ data.length ∧ data.length ≤ 256 ∧ data.length % 16 = 0 ∧ s.shelfwOther k = false ∧ n < 4 ∧ s.shelfOpen n = true ∧
      s.shelfWork true = false ∧ off + data.length ≤ 0x80000 ∧ s.blockFailed (shelfBase n + off) data.length = false ∧
      (∀ g ∈ granulesOf (shelfBase n + off) data.length, (s.granule g).intent = false ∧ s.granuleAsked g = false) ∧
      s.blockSealed (shelfBase n + off) data.length = false ∧ s.nvBad = false ∧ s.nvInhibited = true) ∧
    (∃ s : State, s.supply.vcore = true ∧ s.mgmtDown = true) ∧
    (∃ s : State, s.supply.vcore = true ∧ s.committed = false) :=
  ⟨⟨1, _, shelving up, by decide +kernel, rfl, by decide +kernel⟩, ⟨0, _, reg [(shelfwTargetShelf, 255)] up, by decide +kernel, rfl, by decide +kernel⟩,
    ⟨0, _, reg [(profActiveShelf, 3)] (shelving up), by decide +kernel, rfl, by decide +kernel⟩,
    ⟨0, _, reg [(profActiveShelf, 0)] (shelving up), by decide +kernel, rfl, by decide +kernel⟩,
    ⟨0, _, List.replicate 16 0, up, by decide +kernel, rfl, by decide +kernel⟩,
    ⟨0, _, List.replicate 16 0, shelfErasing,
      by decide +kernel, rfl, by decide +kernel⟩,
    ⟨0, _, _, List.replicate 32 0, reg [(shelfwOffset, 0x7FFF0)] (shelving up), by decide +kernel, rfl, rfl, by decide +kernel⟩,
    ⟨0, _, _, List.replicate 256 0, reg [(shelfwOffset, 0x7FF00)] (shelving up), by decide +kernel, rfl, rfl, by decide +kernel⟩,
    ⟨0, _, shelfProgramming, by decide +kernel, rfl,
      by decide +kernel⟩,
    ⟨0, _, { corrected := 0, weak := 0, uncorrectable := [] }, shelving up, by decide +kernel, rfl, by decide +kernel⟩,
    ⟨4, up, by decide +kernel⟩, ⟨3, reg [(shelfStatus 3, 8)] up, by decide +kernel⟩, ⟨3, reg [(shelfStatus 3, 1)] up, by decide +kernel⟩,
    ⟨act [(profPinFollow, 0)] up, by decide +kernel⟩, ⟨3, shelfPins (powered { power := .active, vcore := true, psel := 3 }), by decide +kernel⟩,
    ⟨0, shelfPins up, by decide +kernel⟩, ⟨3, shelfPins up, by decide +kernel⟩, ⟨State.reset, rfl⟩,
    ⟨.partition 15, withP up, hearsPart (by decide +kernel) (by decide +kernel), by decide⟩,
    ⟨List.replicate 15 0, up, by decide +kernel⟩,
    ⟨List.replicate 272 0, up, by decide +kernel⟩,
    ⟨List.replicate 17 0, up, by decide +kernel⟩,
    ⟨1, List.replicate 16 0, shelving up, by decide +kernel⟩,
    ⟨0, _, reg [(profActiveShelf, 0)] { shelving up with islandBad := [12] }, by decide +kernel, rfl, by decide +kernel⟩,
    ⟨0, _, reg [(profActiveShelf, 0)] { shelving (powered { power := .active, vcore := true, plw := true }) with now := 0 }, by decide +kernel, rfl,
      by decide +kernel⟩,
    ⟨0, _, _, List.replicate 16 0, (shelving up).setSector (secOf (shelfBase 3)) { failed := true }, by decide +kernel, rfl, rfl, by decide +kernel⟩,
    ⟨{ up with armed := some { kind := .switch 1 false, tick := 1, since := 0 } }, by decide +kernel⟩,
    ⟨0, _, _, List.replicate 16 0, shelfProgramming, by decide +kernel, rfl, rfl, by decide +kernel⟩,
    ⟨0, _, _, List.replicate 16 0, (shelving up).setGranule 0x58001 { intent := true }, by decide +kernel, rfl, rfl, by decide +kernel⟩,
    ⟨0, _, _, List.replicate 16 0, { shelving up with islandBad := [12] }, by decide +kernel, rfl, rfl, by decide +kernel⟩,
    ⟨0, _, _, List.replicate 16 0, shelving (powered { power := .active, vcore := true, plw := true }), by decide +kernel, rfl, rfl, by decide +kernel⟩,
    ⟨mgmtOut, rfl, rfl⟩,
    ⟨{ up with committed := false }, rfl, rfl⟩⟩

/-! ### Two-wire ports -/

/-- Port 7 on, with its state; a transaction of entry 255 on it. -/
def ported (x : PortX) : State := (act [(psEnable 7, 1)] up).setPort 7 x
def tx (why : PsWhy) : PsTx := { entry := 255, part := 15, cmd := 0x21, data := 1, why := why }

/-- A paged entry 255 of P15 at address 0x20, and an alert of that address with its word well read. -/
def alerting (x : PortX) : State := act [(psAlertEnable 7, 1), (tgtEntry 255, 2 ^ 31 + 7 * 2 ^ 28 + 15 * 2 ^ 20 + 0x20 * 2 ^ 13)] (ported x)
def alertRead : AlertRead := { modeCode := 0, mode := 0x1F, code := 0, word := 0x0040 }
def alertReply : AlertReply := { heldLow := false, response := some 0x40, reads := [alertRead] }

theorem meets_PowerStagePortsTakeTurnsAndReport :
    (∃ (n : Fin 8) (p g : Nat) (x : PsTx) (s : State), s.portRuns n = true ∧ (s.port n).busy = none ∧ (s.port n).recovering = false ∧
      (s.port n).stuck = false ∧ (s.port n).sdaLow = false ∧ g = tgtPage (s.act (tgtEntry x.entry)) ∧
      (∀ y ∈ (s.port n).queue, s.modeBad y.entry = false ∧ s.txLive y = true) ∧ (s.port n).nextPart = some p ∧
      (s.port n).queue.find? (fun y => y.part == p) = some x ∧ (s.entry x.entry).modeRead = false ∧ ∀ k, x.why ≠ .shutoff k) ∧
    (∃ (n : Fin 8) (p g : Nat) (x : PsTx) (s : State), s.portRuns n = true ∧ (s.port n).busy = none ∧ (s.port n).recovering = false ∧
      (s.port n).stuck = false ∧ (s.port n).sdaLow = false ∧ g = tgtPage (s.act (tgtEntry x.entry)) ∧
      (∀ y ∈ (s.port n).queue, s.modeBad y.entry = false ∧ s.txLive y = true) ∧ (s.port n).nextPart = some p ∧
      (s.port n).queue.find? (fun y => y.part == p) = some x ∧ (s.entry x.entry).modeRead = true ∧ x.why = .loop 511 ∧
      voutWord (s.entry x.entry).voutMode x.data < 65536) ∧
    (∃ (n : Fin 8) (s : State), (s.port n).stuck = true) ∧
    (∃ (n : Fin 8) (x : PsTx) (s : State), (s.port n).busy = some x ∧ x.paging = false ∧ x.why = .mode) ∧
    (∃ (n : Fin 8) (x : PsTx) (e : Nat) (a : ActX) (s : State), (s.port n).busy = some x ∧ x.why = .action e ∧ s.action e = some a ∧
      a.issued = true ∧ a.result = none) ∧
    (∃ (n : Fin 8) (x : PsTx) (s : State), (s.port n).busy = some x ∧ x.why = .shutoff 2) ∧ (∃ (n : Fin 8) (s : State), (s.port n).busy = none) ∧
    (∃ (n : Fin 9) (s : State), n.val < 8 ∧ (s.port n).stuck = false) ∧ (∃ (n : Fin 9) (s : State), n.val < 8 ∧ (s.port n).stuck = true) ∧
    (∃ (n : Fin 8) (reply : AlertReply) (a : Byte) (e : Nat) (r : AlertRead) (s : State), s.portRuns n = true ∧ (s.port n).busy = none ∧
      (s.port n).recovering = false ∧ (s.port n).stuck = false ∧ s.act (psAlertEnable n) ≠ 0 ∧ reply.heldLow = false ∧ reply.response = some a ∧
      s.entriesAt n (a.toNat / 2) = [e] ∧ reply.reads = [r] ∧ (s.entry e).modeRead = true ∧ r.code.val = 0) ∧
    (∃ (n : Fin 8) (s : State), s.portRuns n = true ∧ (s.port n).busy = none ∧ (s.port n).recovering = false ∧ (s.port n).stuck = false ∧
      s.act (psAlertEnable n) = 0) ∧
    (∃ (n : Fin 8) (s : State), s.portRuns n = false) ∧
    (∃ (n : Fin 8) (s : State), s.portRuns n = true ∧ (s.port n).busy = none ∧ (s.port n).recovering = false ∧ (s.port n).stuck = false ∧
      (s.port n).sdaLow = false ∧ (∀ y ∈ (s.port n).queue, s.modeBad y.entry = false ∧ s.txLive y = true) ∧ (s.port n).nextPart = none) ∧
    (∃ (n : Fin 8) (s : State), (s.port n).sdaLow = true) ∧
    (∃ (n : Fin 8) (x : PsTx) (s : State), (s.port n).busy = some x ∧ x.paging = true) ∧
    (∃ (n : Fin 8) (x : PsTx) (s : State), (s.port n).busy = some x ∧ x.paging = true ∧ x.why = .loop 511) ∧
    (∃ (n : Fin 9) (s : State), n.val < 8 ∧ (s.port n).busy = none) ∧
    (∃ (n : Fin 9) (x : PsTx) (s : State), n.val < 8 ∧ (s.port n).busy = some x) ∧
    (∃ (n : Fin 9) (s : State), (s.port n).recovering = true) ∧
    (∃ (n : Fin 9) (s : State), (s.port n).recovering = false) ∧
    (∃ n : Fin 9, n.val = 8) ∧
    (∃ (n : Fin 8) (reply : AlertReply) (s : State), s.portRuns n = true ∧ (s.port n).busy = none ∧ (s.port n).recovering = false ∧ (s.port n).stuck = false ∧
      s.act (psAlertEnable n) ≠ 0 ∧ reply.heldLow = false ∧ reply.response = none) ∧
    (∃ (n : Fin 8) (reply : AlertReply) (a : Byte) (s : State), s.portRuns n = true ∧ (s.port n).busy = none ∧ (s.port n).recovering = false ∧ (s.port n).stuck = false ∧
      s.act (psAlertEnable n) ≠ 0 ∧ reply.heldLow = false ∧ reply.response = some a ∧ s.entriesAt n (a.toNat / 2) = []) ∧
    (∃ (n : Fin 8) (reply : AlertReply) (s : State), s.portRuns n = true ∧ (s.port n).busy = none ∧ (s.port n).recovering = false ∧ (s.port n).stuck = false ∧
      reply.heldLow = true) ∧
    (∃ (n : Fin 8) (reply : AlertReply) (a : Byte) (e : Nat) (r : AlertRead) (s : State), s.portRuns n = true ∧ (s.port n).busy = none ∧ (s.port n).recovering = false ∧ (s.port n).stuck = false ∧
      s.act (psAlertEnable n) ≠ 0 ∧ reply.heldLow = false ∧ reply.response = some a ∧ s.entriesAt n (a.toNat / 2) = [e] ∧ reply.reads = [r] ∧
      (s.entry e).modeRead = false ∧ r.modeCode.val = 0) ∧
    (∃ (n : Fin 8) (reply : AlertReply) (a : Byte) (e : Nat) (r : AlertRead) (s : State), s.portRuns n = true ∧ (s.port n).busy = none ∧ (s.port n).recovering = false ∧ (s.port n).stuck = false ∧
      s.act (psAlertEnable n) ≠ 0 ∧ reply.heldLow = false ∧ reply.response = some a ∧ s.entriesAt n (a.toNat / 2) = [e] ∧ reply.reads = [r] ∧
      (s.entry e).modeRead = false ∧ r.modeCode.val = 4) :=
  ⟨⟨7, 15, _, tx (.loop 511), ported { queue := [tx (.loop 511)] }, by decide +kernel, by decide +kernel, by decide +kernel, by decide +kernel, by decide +kernel, rfl, by decide +kernel,
      by decide +kernel, by decide +kernel, by decide +kernel, nofun⟩,
    ⟨7, 15, _, tx (.loop 511), (ported { queue := [tx (.loop 511)] }).setEntry 255 { modeRead := true, voutMode := 0x1F }, by decide +kernel,
      by decide +kernel, by decide +kernel, by decide +kernel, by decide +kernel, rfl, by decide +kernel⟩,
    ⟨7, ported { stuck := true }, by decide +kernel⟩, ⟨7, tx .mode, ported { busy := some (tx .mode) }, by decide +kernel⟩,
    ⟨7, tx (.action 0), 0, issued (entry 7 255 0 0) none, { ported { busy := some (tx (.action 0)) } with actions := [(0, issued (entry 7 255 0 0) none)] },
      by decide +kernel⟩,
    ⟨7, tx (.shutoff 2), ported { busy := some (tx (.shutoff 2)) }, by decide +kernel⟩, ⟨7, ported {}, by decide +kernel⟩,
    ⟨7, ported {}, by decide +kernel⟩, ⟨7, ported { stuck := true }, by decide +kernel⟩,
    ⟨7, alertReply, 0x40, 255, alertRead,
      (alerting {}).setEntry 255 { modeRead := true }, by decide +kernel⟩,
    ⟨7, act [(psAlertEnable 7, 0)] (ported {}), by decide +kernel⟩, ⟨7, up, by decide +kernel⟩,
    ⟨7, ported {}, by decide +kernel⟩,
    ⟨7, ported { sdaLow := true }, by decide +kernel⟩,
    ⟨7, { tx (.loop 511) with paging := true }, ported { busy := some { tx (.loop 511) with paging := true } }, by decide +kernel⟩,
    ⟨7, { tx (.loop 511) with paging := true }, ported { busy := some { tx (.loop 511) with paging := true } }, by decide +kernel⟩,
    ⟨7, ported {}, by decide +kernel⟩,
    ⟨7, tx .mode, ported { busy := some (tx .mode) }, by decide +kernel⟩,
    ⟨8, up.setPort 8 { recovering := true }, by decide +kernel⟩,
    ⟨8, up, by decide +kernel⟩,
    ⟨8, rfl⟩,
    ⟨7, { heldLow := false, response := none, reads := [] }, alerting {}, by decide +kernel⟩,
    ⟨7, { alertReply with response := some 0x42 }, 0x42, alerting {}, by decide +kernel⟩,
    ⟨7, { alertReply with heldLow := true }, alerting {}, by decide +kernel⟩,
    ⟨7, alertReply, 0x40, 255, alertRead, alerting {}, by decide +kernel⟩,
    ⟨7, { alertReply with reads := [{ alertRead with modeCode := 4 }] }, 0x40, 255, { alertRead with modeCode := 4 }, alerting {}, by decide +kernel⟩⟩

/-- SVC window 15 on, at the highest address, and in a state. -/
def svc (x : SvcX) : State := (act [(svcSvcBase, 112), (svcSvcWindows, 32768), (svcServiceForm, 1), (svcAttnEnable, 1)] up).setWindow 15 x

theorem meets_SvcWindowsAndPeerArbitration :
    (∃ (w : Fin 16) (s : State), s.svcOpen w = false) ∧
    (∃ (a : Fin 128) (w : Nat) (p : Byte) (b : Bytes) (s : State), s.svcWindow a = some w ∧ 16 ≤ p.toNat ∧ p.toNat + b.length ≤ 256 ∧
      (s.window w).req.length + b.length ≤ 8476) ∧
    (∃ (a : Fin 128) (w : Nat) (event : Bool) (f : Bytes) (l : List (Bool × Bytes)) (c : Nat) (s : State), s.svcWindow a = some w ∧
      16 ≤ (s.window w).pointer ∧ (s.window w).pointer < 256 ∧ (s.window w).pointer + c ≤ 256 ∧ (s.window w).queue = (event, f) :: l ∧ c < f.length) ∧
    (∃ (a : Fin 128) (w : Nat) (s : State), s.svcWindow a = some w ∧ (s.window w).pointer = 0) ∧
    (∃ (w : Fin 16) (s : State), s.svcOpen w = true ∧ s.mgmtDown = false ∧ 4 ≤ s.outstanding w + (s.window w).queue.length) ∧
    (∃ (w : Fin 16) (b : Bytes) (s : State), s.svcOpen w = true ∧ s.mgmtDown = false ∧ (s.window w).overrun = false ∧
      s.outstanding w + (s.window w).queue.length < 4 ∧ s.act svcServiceForm ≠ 0 ∧ (s.window w).req = withCrc b) ∧
    (∃ (w : Fin 16) (s : State), s.svcOpen w = true ∧ s.mgmtDown = false ∧ s.act svcServiceForm = 0) ∧
    (∃ (w : Fin 16) (s : State), s.svcOpen w = true ∧ s.mgmtDown = false ∧ s.act svcServiceForm ≠ 0 ∧ (s.window w).overrun = false ∧
      (s.window w).req.length < 4) ∧
    (∃ s : State, s.act svcAttnEnable = 1 ∧ s.supply.vcore = true ∧ 18 ∉ s.islandBad ∧ 2 ∉ s.vioLost ∧ (∃ w < 16, s.attnDue w = true) ∧
      (s.port svcPort).stopAt + 5000 ≤ s.now) ∧
    (∃ s : State, (∀ w < 16, s.attnDue w = false) ∧ (s.port svcPort).again = false) ∧ (∃ s : State, s.peerOut = []) ∧ (∃ s : State, s.peerOut ≠ [] ∧ s.peerTries < 3) ∧
    (∃ s : State, s.peerOut ≠ [] ∧ 3 ≤ s.peerTries) ∧
    (∃ (a : Fin 128) (w : Nat) (event : Bool) (f : Bytes) (l : List (Bool × Bytes)) (s : State), s.svcWindow a = some w ∧ 16 ≤ (s.window w).pointer ∧
      (s.window w).pointer + f.length ≤ 256 ∧ (s.window w).queue = (event, f) :: l ∧ f ≠ []) ∧
    (∃ (w : Fin 16) (s : State), s.svcOpen w = true ∧ s.mgmtDown = true ∧ s.act svcServiceForm ≠ 0) ∧
    (∃ (w : Fin 16) (s : State), s.svcOpen w = true ∧ s.mgmtDown = false ∧ s.act svcServiceForm ≠ 0 ∧ (s.window w).overrun = true) ∧
    (∃ (a : Fin 128) (s : State), s.svcWindow a = none) ∧
    (∃ s : State, s.act svcAttnEnable = 1 ∧ s.supply.vcore = true ∧ 18 ∉ s.islandBad ∧ 2 ∉ s.vioLost ∧ (s.port svcPort).again = true ∧
      (s.port svcPort).stopAt + 5000 ≤ s.now) ∧
    (∃ s : State, s.now < (s.port svcPort).stopAt + 5000) ∧
    (∃ s : State, s.peerOut ≠ [] ∧ s.peerOn = true) ∧
    (∃ s : State, s.peerOn = false) :=
  ⟨⟨15, up, by decide +kernel⟩, ⟨127, 15, 255, [7], svc { req := List.replicate 16 0 }, by decide +kernel⟩,
    ⟨127, 15, true, [1, 2, 3], [], 1, svc { pointer := 255, queue := [(true, [1, 2, 3])] }, by decide +kernel⟩, ⟨127, 15, svc {}, by decide +kernel⟩,
    ⟨15, svc { queue := List.replicate 4 (false, [0]) }, by decide +kernel⟩,
    ⟨15, readBatch, svc { req := withCrc readBatch, queue := List.replicate 3 (false, [0]) }, by decide +kernel⟩,
    ⟨15, act [(svcServiceForm, 0)] (svc {}), by decide +kernel⟩, ⟨15, svc { req := [0, 0, 0] }, by decide +kernel⟩,
    ⟨{ svc { queue := [(false, [0])] } with now := 5000 }, by decide +kernel⟩, ⟨up, by decide +kernel⟩, ⟨up, rfl⟩, ⟨{ up with peerOut := [[0]], peerTries := 2 }, by decide +kernel⟩,
    ⟨{ up with peerOut := [[0]], peerTries := 3 }, by decide +kernel⟩,
    ⟨127, 15, true, [1, 2, 3], [(false, [4])], svc { pointer := 253, queue := [(true, [1, 2, 3]), (false, [4])] }, by decide +kernel⟩,
    ⟨15, { svc {} with mgmtDown := true }, by decide +kernel⟩,
    ⟨15, svc { overrun := true }, by decide +kernel⟩,
    ⟨126, svc {}, by decide +kernel⟩,
    ⟨(({ svc {} with now := 5000 } : State)).setPort svcPort { again := true }, by decide +kernel⟩,
    ⟨up, by decide +kernel⟩,
    ⟨{ coop {} with peerOut := [[0]] }, by decide +kernel⟩,
    ⟨State.reset, by decide +kernel⟩⟩

/-! ### The whole machine -/

theorem meets_EveryStepKeepsTheForms : ∃ s t : State, s.formsOk ∧ step s = .next t := ⟨up, up.tick, ⟨by decide +kernel, by decide +kernel, by decide +kernel⟩, rfl⟩

theorem meets_OnlyTheSwapBringsAConfiguration : ∃ (c : Instr) (s t : State), exec c s = .next t ∧ t.committed = true :=
  ⟨.nop, up, up, rfl, rfl⟩

theorem meets_SafeNRisesOnlyByItsRelease :
    ∃ (c : Instr) (s t : State), exec c s = .next t ∧ s.safeN = false ∧ t.safeN = true :=
  ⟨.safeNRelease, up, { up with safeN := true }, rfl, rfl, rfl⟩

/-! ### Commands that are not well formed -/

/-- A PEER message of 37 bytes. -/
def longMsg : Bytes := List.replicate 37 0

theorem test_illFormed_mean : Instr.wf (.sliceResult 0 { mean := 3600000001, gap := 0, tour := none }) = false := by decide
theorem test_illFormed_gap : Instr.wf (.sliceResult 0 { mean := 0, gap := -3600000000000000001, tour := none }) = false := by decide
theorem test_illFormed_eventPart : Instr.wf (.eventRaise .mgmt { code := 0, part := 16, clear := false, param := [] }) = false := by decide
theorem test_illFormed_eventParam :
    Instr.wf (.eventRaise .mgmt { code := 0, part := 255, clear := false, param := List.replicate 9 0 }) = false := by decide
theorem test_illFormed_canLength : Instr.wf (.canFrameReceive 0 true 0 (List.replicate 9 0)) = false := by decide
theorem test_illFormed_registerWrite : Instr.wf (.registerWrite .owner 0 0 (List.replicate 8453 0)) = false := by
  simp only [Instr.wf, List.length_replicate, Nat.reduceLeDiff, decide_false]
theorem test_illFormed_dapRequest (hw : Hw) :
    Instr.wf (.dapRequest (some { tr := .spi, ep := 0, service := false, bytes := List.replicate 8477 0 }) hw) = false := by
  simp only [Instr.wf, List.length_replicate, Nat.reduceLeDiff, decide_false]
theorem test_illFormed_dap : Instr.wf (.dap (List.replicate 19 0)) = false := by decide
theorem test_illFormed_spiFrameEnd : Instr.wf (.spiFrameEnd { bytes := [0, 0], clocks := 15 }) = false := by decide
theorem test_illFormed_lockFallback : Instr.wf (.lockFallback 4294967296) = false := by decide
theorem test_illFormed_hostResume : Instr.wf (.hostResume 4294967296) = false := by decide
theorem test_illFormed_mrN : Instr.wf (.mrN 4294967296) = false := by decide
theorem test_illFormed_pbRelease : Instr.wf (.pbRelease 4294967296) = false := by decide
theorem test_illFormed_canWake : Instr.wf (.canWake 4294967296) = false := by decide
theorem test_illFormed_neighbourPoll : Instr.wf (.neighbourPoll []) = false := by decide
theorem test_illFormed_peerMessages :
    Instr.wf (.announce longMsg) = false ∧ Instr.wf (.presence longMsg) = false ∧ Instr.wf (.state longMsg) = false ∧
      Instr.wf (.sync longMsg) = false ∧ Instr.wf (.ack longMsg) = false ∧ Instr.wf (.release longMsg) = false := by decide
theorem test_wellFormed_boundaries :
    Instr.wf (.sliceResult 0 { mean := 3600000000, gap := 0, tour := none }) = true ∧
      Instr.wf (.canFrameReceive 0 true 0 (List.replicate 64 0)) = true ∧ Instr.wf (.spiFrameEnd { bytes := [0, 0], clocks := 16 }) = true := by
  decide

/-! ### Worked examples of the spec -/

/-- The rail values that spec/02_channels.md works out: pin count 20,480 at ratio 1.000, and 54,613 at ratio 6.000. -/
theorem test_rail_examples :
    ((act [(chKind 0, 1)] up).windowNow 0).rail 20480 = 750000 ∧
      ((act [(chKind 0, 1), (chDivider 0, 6 * 65536)] up).windowNow 0).rail 54613 = 11999927 := by
  decide +kernel

/-- Table 3-3: eight bound channels of CL0 with 4 periods of 1 MHz refresh in 34.0 µs, and those of CL4 at 600 kHz in 55.3 µs. -/
theorem test_refresh_examples :
    (act ((List.range 8).map (fun i => (chKind i, 1))) up).refreshNs 0 0 = 34000 ∧
      ((act ((clSyncFreq 4, 600000) :: (List.range 8).map (fun i => (chKind (256 + i), 1))) up).refreshNs 4 0 + 50) / 100 = 553 := by
  decide +kernel

/-- The check values of CRC-32 (ISO-HDLC) and of the CRC-8 of SMBus, over the digits 1 to 9. -/
theorem test_crc_check_values :
    crc32 [0x31, 0x32, 0x33, 0x34, 0x35, 0x36, 0x37, 0x38, 0x39] = 0xCBF43926 ∧
      crc8 [0x31, 0x32, 0x33, 0x34, 0x35, 0x36, 0x37, 0x38, 0x39] = 0xF4 := by
  decide +kernel

/-- A deadline that has passed takes an ARMED channel to ABSENT, and with ABSENT_EN 1 its enable is inactive (R55). -/
theorem test_deadlineExpire_absent :
    (match exec (.deadlineExpire 511) ((act [(chAbsentEn 511, 1), (chEnable 511, 7)] (voltAt 100001 { state := .armed, lowerCmp := true })).setEn 7
      { asserted := true }) with
    | .next t => decide ((t.chan 511).state = .absent) && !(t.en 7).asserted
    | _ => false) = true := by
  decide +kernel

end Sys2Proof.Tests
end

namespace Sys2Proof.Machine

/-! ### The frame of every command: the queue and device time -/

/-- Every part of the state but the queue and device time. -/
def Fld.others : List Fld :=
  [.status, .reply, .timeFree, .refFailAt, .active, .prior, .shadow, .regs, .retained, .committed, .sets, .armed, .queueC, .switchSt, .chans,
   .ens, .trims, .clusters, .latches, .parts, .groups, .actions, .caps, .mgmtDown, .stalled, .islandBad, .fabricFault, .safeN, .vioLost, .later,
   .sessions, .sessNext, .asms, .inbox, .waits, .outFrames, .downs, .t1sSleep, .keys, .streams, .ports, .entries, .svc, .peerOut, .peerTries,
   .peerReq, .peerReqsAt, .drives, .trestle, .thermal, .supply, .ledger, .log, .nv, .host, .sec, .flash, .granules, .sectors, .waitMaint,
   .fwWaitAt, .draws, .events]

/-- What differs in neither the queue nor device time has the same device time. -/
theorem Same.now_others {s t : State} (h : Same Fld.others s t) : t.now = s.now := h.now (by decide)

/-- No command but the loss of continuity touches the queue or device time (log 9: a command takes no device time). -/
theorem exec_same_others (c : Instr) (s : State) (hc : c ≠ .continuityLoss) : ∀ t, exec c s = .next t → Same Fld.others s t := by
  cases c with
  | commit => apply execCommit_but <;> decide
  | commitDiscard => apply execCommitDiscard_but <;> decide
  | partitionCommit => apply execPartitionCommit_but <;> decide
  | partitionCommitDiscard => apply execPartitionCommitDiscard_but <;> decide
  | commitQueueStart => apply execCommitQueueStart_but <;> decide
  | swap => apply execSwap_but <;> decide
  | commitAbandon part => apply execCommitAbandon_but part <;> decide
  | framePulse => apply execFramePulse_but <;> decide
  | referenceFail => apply execReferenceFail_but <;> decide
  | timeFreeClear => apply execTimeFreeClear_but <;> decide
  | handshakeStall => apply execHandshakeStall_but <;> decide
  | islandClockFault => apply execIslandClockFault_but <;> decide
  | islandReady => apply execIslandReady_but <;> decide
  | mgmtResume => apply execMgmtResume_but <;> decide
  | windowExit => apply execWindowExit_but <;> decide
  | windowEnter => apply execWindowEnter_but <;> decide
  | settleTimeExpire => apply execSettleTimeExpire_but <;> decide
  | deadlineExpire => apply execDeadlineExpire_but <;> decide
  | clear => apply execClear_but <;> decide
  | sliceResult => apply execSliceResult_but <;> decide
  | epochEnd => apply execEpochEnd_but <;> decide
  | spareCalibrationDone => apply execSpareCalibrationDone_but <;> decide
  | sliceHwFault => apply execSliceHwFault_but <;> decide
  | openWireTest => apply execOpenWireTest_but <;> decide
  | openWireResult => apply execOpenWireResult_but <;> decide
  | lockFallback => apply execLockFallback_but <;> decide
  | lockResume => apply execLockResume_but; decide
  | syncoutRestart => apply execSyncoutRestart_but; decide
  | dischargeEnd => apply execDischargeEnd_but <;> decide
  | trFltReceive => apply execTrFltReceive_but <;> decide
  | fltPulseEnd => apply execFltPulseEnd_but; decide
  | fltStuck => apply execFltStuck_but <;> decide
  | fltStuckClear => apply execFltStuckClear_but <;> decide
  | clusterClockLoss => apply execClusterClockLoss_but <;> decide
  | clusterClockBack => apply execClusterClockBack_but <;> decide
  | retryDue => apply execRetryDue_but <;> decide
  | restart => apply execRestart_but <;> decide
  | forceOff => apply execForceOff_but <;> decide
  | safeNRelease => apply execSafeNRelease_but; decide
  | barrierAdvance => apply execBarrierAdvance_but <;> decide
  | guardEnd => apply execGuardEnd_but; decide
  | goal => apply execGoal_but <;> decide
  | start => apply execStart_but <;> decide
  | stop => apply execStop_but <;> decide
  | startPendingRelease => apply execStartPendingRelease_but <;> decide
  | actionArm => apply execActionArm_but <;> decide
  | actionIssue => apply execActionIssue_but <;> decide
  | actionComplete => apply execActionComplete_but <;> decide
  | actionTimeout => apply execActionTimeout_but <;> decide
  | armCapture => apply execArmCapture_but <;> decide
  | captureOccurrence => apply execCaptureOccurrence_but; decide
  | captureLimit => apply execCaptureLimit_but; decide
  | groupReset => apply execGroupReset_but <;> decide
  | discoveryBegin => apply execDiscoveryBegin_but; decide
  | announceSend => apply execAnnounceSend_but <;> decide
  | announce => apply execAnnounce_but <;> decide
  | discoveryClose => apply execDiscoveryClose_but <;> decide
  | presenceSend => apply execPresenceSend_but <;> decide
  | presence => apply execPresence_but <;> decide
  | stateSend => apply execStateSend_but <;> decide
  | state => apply execState_but <;> decide
  | stateCheckTimeout => apply execStateCheckTimeout_but <;> decide
  | tsyncPulse => apply execTsyncPulse_but <;> decide
  | tsyncEdge => apply execTsyncEdge_but; decide
  | sync => apply execSync_but <;> decide
  | ack => apply execAck_but <;> decide
  | tsyncLost => apply execTsyncLost_but <;> decide
  | releaseSend => apply execReleaseSend_but <;> decide
  | release => apply execRelease_but <;> decide
  | releaseResend => apply execReleaseResend_but <;> decide
  | startupHoldLift => apply execStartupHoldLift_but <;> decide
  | peerLost => apply execPeerLost_but <;> decide
  | subIntervalEnd => apply execSubIntervalEnd_but <;> decide
  | reliefEvaluate => apply execReliefEvaluate_but <;> decide
  | tableSelect => apply execTableSelect_but <;> decide
  | scheduleMatch => apply execScheduleMatch_but <;> decide
  | demandIntervalEnd => apply execDemandIntervalEnd_but <;> decide
  | ledgerRecordWrite => apply execLedgerRecordWrite_but <;> decide
  | dapRequest => apply execDapRequest_but <;> decide
  | registerWrite => apply execRegisterWrite_but <;> decide
  | eventNext => apply execEventNext_but <;> decide
  | eventRaise => apply execEventRaise_but <;> decide
  | eventSubscribe => apply execEventSubscribe_but <;> decide
  | eventFrameSend => apply execEventFrameSend_but <;> decide
  | canFrameReceive => apply execCanFrameReceive_but <;> decide
  | t1sFrameReceive => apply execT1sFrameReceive_but <;> decide
  | segTimeout => apply execSegTimeout_but <;> decide
  | sessionIdle => apply execSessionIdle_but; decide
  | linkDown => apply execLinkDown_but <;> decide
  | linkUp => apply execLinkUp_but <;> decide
  | busoffRecovery => apply execBusoffRecovery_but <;> decide
  | hostTimeout => apply execHostTimeout_but <;> decide
  | tc10SleepRequest => apply execTc10SleepRequest_but <;> decide
  | tc10WakeUp => apply execTc10WakeUp_but <;> decide
  | telemFrameSend => apply execTelemFrameSend_but <;> decide
  | spiFrameStart => apply execSpiFrameStart_but; decide
  | spiFrameEnd => apply execSpiFrameEnd_but <;> decide
  | nop => intro t ht; cases ht; rfl
  | dap => apply execDap_but <;> decide
  | sleepLink => apply execSleepLink_but; decide
  | hostResume => apply execHostResume_but <;> decide
  | deviceWake => apply execDeviceWake_but; decide
  | telemIrqAgeExpire => apply execTelemIrqAgeExpire_but; decide
  | pmbusTrimPeriod => apply execPmbusTrimPeriod_but; decide
  | marginApply => apply execMarginApply_but <;> decide
  | marginRemove => apply execMarginRemove_but <;> decide
  | benchStart => apply execBenchStart_but <;> decide
  | benchAbort => apply execBenchAbort_but <;> decide
  | benchSettled => apply execBenchSettled_but; decide
  | benchSettleTimeout => apply execBenchSettleTimeout_but; decide
  | benchDwellEnd => apply execBenchDwellEnd_but; decide
  | verdictPass => apply execVerdictPass_but <;> decide
  | verdictFail => apply execVerdictFail_but <;> decide
  | verdictTimeout => apply execVerdictTimeout_but; decide
  | maintenanceWaitStart => apply execMaintenanceWaitStart_but <;> decide
  | activationWaitTimeout => apply execActivationWaitTimeout_but <;> decide
  | latchEntryArrive => apply execLatchEntryArrive_but <;> decide
  | mergeWindowEnd => apply execMergeWindowEnd_but <;> decide
  | drawerCommit => apply execDrawerCommit_but <;> decide
  | drawerReadback => apply execDrawerReadback_but <;> decide
  | eraseOldest => apply execEraseOldest_but <;> decide
  | eraseAll => apply execEraseAll_but <;> decide
  | verifyAll => apply execVerifyAll_but <;> decide
  | drawerRead => apply execDrawerRead_but <;> decide
  | thermalSample => apply execThermalSample_but <;> decide
  | driveWaitExpire => apply execDriveWaitExpire_but; decide
  | chatterClear => apply execChatterClear_but; decide
  | neighbourPoll => apply execNeighbourPoll_but <;> decide
  | noSample => apply execNoSample_but <;> decide
  | vauxValid => apply execVauxValid_but <;> decide
  | powerUp => apply execPowerUp_but <;> decide
  | vcoreStartTimeout => apply execVcoreStartTimeout_but <;> decide
  | vcoreFault => apply execVcoreFault_but <;> decide
  | vcoreRecovery => apply execVcoreRecovery_but <;> decide
  | powerLossWarning => apply execPowerLossWarning_but <;> decide
  | warningWithdrawn => apply execWarningWithdrawn_but <;> decide
  | supplySwitchover => apply execSupplySwitchover_but <;> decide
  | continuityLoss => exact absurd rfl hc
  | bkupLow => apply execBkupLow_but <;> decide
  | retainedCopy => apply execRetainedCopy_but <;> decide
  | mrN => apply execMrN_but <;> decide
  | lockstepMismatch => apply execLockstepMismatch_but <;> decide
  | watchdog => apply execWatchdog_but <;> decide
  | resetRequestMgmt => apply execResetRequestMgmt_but <;> decide
  | resetRequestPower => apply execResetRequestPower_but <;> decide
  | pbRelease => apply execPbRelease_but <;> decide
  | longPress => apply execLongPress_but <;> decide
  | lpPowerCycle => apply execLpPowerCycle_but <;> decide
  | rtcAlarm => apply execRtcAlarm_but <;> decide
  | canWake => apply execCanWake_but <;> decide
  | sleep => apply execSleep_but <;> decide
  | rtc => apply execRtc_but <;> decide
  | bootRetry => apply execBootRetry_but <;> decide
  | ownerInit => apply execOwnerInit_but <;> decide
  | keyLoad => apply execKeyLoad_but <;> decide
  | debugChallenge => apply execDebugChallenge_but <;> decide
  | debugResponse => apply execDebugResponse_but <;> decide
  | debugLock => apply execDebugLock_but <;> decide
  | attestRequest => apply execAttestRequest_but <;> decide
  | rollbackAdvance => apply execRollbackAdvance_but; decide
  | debugPortRequest => apply execDebugPortRequest_but <;> decide
  | shelfErase => apply execShelfErase_but <;> decide
  | shelfData => apply execShelfData_but <;> decide
  | shelfSeal => apply execShelfSeal_but <;> decide
  | switch => apply execSwitch_but <;> decide
  | pselChange => apply execPselChange_but <;> decide
  | psTurn => apply execPsTurn_but <;> decide
  | psTransactionEnd => apply execPsTransactionEnd_but <;> decide
  | psStretchTimeout => apply execPsStretchTimeout_but <;> decide
  | sclReleased => apply execSclReleased_but; decide
  | lineStuck => apply execLineStuck_but <;> decide
  | lineStuckClear => apply execLineStuckClear_but <;> decide
  | psBusError => apply execPsBusError_but <;> decide
  | attentionRequest => apply execAttentionRequest_but <;> decide
  | svcWrite => apply execSvcWrite_but <;> decide
  | svcRead => apply execSvcRead_but <;> decide
  | submitDap => apply execSubmitDap_but <;> decide
  | submitService => apply execSubmitService_but <;> decide
  | windowClear => apply execWindowClear_but <;> decide
  | dropHead => apply execDropHead_but <;> decide
  | svcAttention => apply execSvcAttention_but <;> decide
  | peerReadRequest => apply execPeerReadRequest_but <;> decide
  | peerReadResult => apply execPeerReadResult_but <;> decide
  | peerArbitrationLoss => apply execPeerArbitrationLoss_but <;> decide
  | eraseRedo => apply execEraseRedo_but <;> decide
  | nvProgram => apply execNvProgram_but <;> decide
  | nvErase => apply execNvErase_but <;> decide
  | eraseSuspend => apply execEraseSuspend_but <;> decide
  | eraseResume => apply execEraseResume_but; decide
  | eraseDone => apply execEraseDone_but <;> decide
  | nvInterrupt => apply execNvInterrupt_but <;> decide
  | scrubRead => apply execScrubRead_but <;> decide
  | memRead => apply execMemRead_but <;> decide
  | memWrite => apply execMemWrite_but <;> decide
  | memErase => apply execMemErase_but <;> decide
  | memAddr => apply execMemAddr_but <;> decide
  | fwErase => apply execFwErase_but <;> decide
  | fwData => apply execFwData_but <;> decide
  | fwSeal => apply execFwSeal_but <;> decide
  | fwActivate => apply execFwActivate_but <;> decide
  | fwAbandon => apply execFwAbandon_but <;> decide
  | carrierPeriod => apply execCarrierPeriod_but <;> decide
  | positionRead => apply execPositionRead_but <;> decide
  | standstill => apply execStandstill_but <;> decide
  | driveOvercurrent => apply execDriveOvercurrent_but <;> decide
  | driveStall => apply execDriveStall_but <;> decide
  | run => apply execRun_but <;> decide
  | clearFault => apply execClearFault_but <;> decide
  | vioBankLoss => apply execVioBankLoss_but <;> decide
  | vioBankReturn => apply execVioBankReturn_but <;> decide
  | stale => apply execStale_but; decide

/-- The loss of continuity is a cold start, which begins device time at 0 (R27, R294); while VAUX is above the switchover threshold nothing
is lost. -/
theorem execContinuityLoss_now {s t : State} (h : execContinuityLoss s = .next t) : t.now = s.now ∨ t.now = 0 := by
  unfold execContinuityLoss at h
  split at h <;> obtain rfl := Host.Outcome.next.inj h
  · exact .inl rfl
  · exact .inr rfl

/-! ### One step -/

/-- A step with a command at the front of the queue runs it on the state with the queue's rest. -/
theorem step_of_pending_cons {c : Instr} {rest : List Instr} {s : State} (h : s.pending = c :: rest) :
    step s = exec c { s with pending := rest } := by
  unfold step
  rw [h]

/-- A step with an empty queue is the passing of time (log 1). -/
theorem step_of_pending_nil {s : State} (h : s.pending = []) : step s = .next s.tick := by
  unfold step
  rw [h]

/-! ### Device time in the tick of an empty queue -/

@[simp] theorem State.benchTurn_now (s : State) : s.benchTurn.now = s.now :=
  Same.now_others (by apply State.benchTurn_but <;> decide)
@[simp] theorem State.pinsTurn_now (s : State) : s.pinsTurn.now = s.now :=
  Same.now_others (by apply State.pinsTurn_but <;> decide)
@[simp] theorem State.peerTurn_now (s : State) : s.peerTurn.now = s.now :=
  Same.now_others (by apply State.peerTurn_but <;> decide)
@[simp] theorem State.swapIfDue_now (s : State) : s.swapIfDue.now = s.now :=
  Same.now_others (by apply State.swapIfDue_but <;> decide)
@[simp] theorem State.batchTurn_now (s : State) : s.batchTurn.now = s.now :=
  Same.now_others (by apply State.batchTurn_but <;> decide)

/-- The master never runs back: it counts on, or takes the median of the clusters where that is ahead (R28, R185). -/
theorem State.now_le_masterTick (s : State) : s.now ≤ s.masterTick.now := by
  unfold State.masterTick
  split
  · exact Nat.le_add_right ..
  · exact Nat.le_max_left ..

theorem State.now_le_tickVaux (s : State) : s.now ≤ s.tickVaux.now := by
  have clustersTicked : (s.each clustersAll (fun s n => s.setCluster n (s.cluster n).tick)).now = s.now :=
    State.each_keeps State.now _ _ (fun s n _ => State.setCluster_now s n _) s
  unfold State.tickVaux
  generalize s.each clustersAll _ = u at clustersTicked ⊢
  exact clustersTicked.ge.trans (State.now_le_masterTick { u with supply := u.supply.rtcPass 128 })

theorem State.now_le_tickCrystal (s : State) : s.now ≤ s.tickCrystal.now :=
  (Nat.le_add_right s.now 3051).trans (Nat.le_add_right ..)

/-- Device time does not run back as time passes, in BACKUP and with VAUX (R12, R27). -/
theorem State.now_le_timePasses (s : State) : s.now ≤ s.timePasses.now := by
  unfold State.timePasses
  split
  · exact s.now_le_tickCrystal
  · exact s.now_le_tickVaux

/-- Of the turns of a tick only the passing of time moves device time. -/
theorem State.now_le_tick (s : State) : s.now ≤ s.tick.now :=
  calc s.now = s.benchTurn.pinsTurn.peerTurn.now := by simp
    _ ≤ s.benchTurn.pinsTurn.peerTurn.timePasses.now := State.now_le_timePasses _
    _ = s.tick.now := by simp [State.tick]

/-- Settles O4: the frame of every command but the loss of continuity leaves device time out, and of an empty queue's tick only the
passing of time moves it. -/
theorem deviceTimeRunsForward : Obligations.DeviceTimeRunsForward := by
  unfold Obligations.DeviceTimeRunsForward
  constructor
  · intro c s t h
    by_cases hc : c = .continuityLoss
    · subst hc
      exact (execContinuityLoss_now h).imp_right (⟨rfl, ·⟩)
    · exact .inl (exec_same_others c s hc t h).now_others
  · intro s t hq h
    rw [step_of_pending_nil hq] at h
    obtain rfl := Host.Outcome.next.inj h
    exact s.now_le_tick

/-- Settles O1, by the two cases of the queue. -/
theorem stepRunsFrontCommand : Obligations.StepRunsFrontCommand := by
  unfold Obligations.StepRunsFrontCommand
  exact ⟨fun _ _ _ h => step_of_pending_cons h, fun _ h => step_of_pending_nil h⟩

end Sys2Proof.Machine

namespace Sys2Proof.Machine

/-! ### Which commands touch the banks and the flash (R15, R16, R409) -/

/-- Every part of the state but the banks, the commit mark and the flash cells. -/
def Fld.notBanks : List Fld :=
  [.pending, .now, .status, .reply, .timeFree, .refFailAt, .regs, .retained, .sets, .armed, .queueC, .switchSt, .chans, .ens, .trims,
   .clusters, .latches, .parts, .groups, .actions, .caps, .mgmtDown, .stalled, .islandBad, .fabricFault, .safeN, .vioLost, .later, .sessions,
   .sessNext, .asms, .inbox, .waits, .outFrames, .downs, .t1sSleep, .keys, .streams, .ports, .entries, .svc, .peerOut, .peerTries, .peerReq,
   .peerReqsAt, .drives, .trestle, .thermal, .supply, .ledger, .log, .nv, .host, .sec, .granules, .sectors, .waitMaint, .fwWaitAt, .draws,
   .events]

@[simp] theorem Fld.mem_notBanks (f : Fld) : f ∈ Fld.notBanks ↔ f ≠ .active ∧ f ≠ .prior ∧ f ≠ .committed ∧ f ≠ .shadow ∧ f ≠ .flash := by
  cases f <;> decide

/-- What an operation that brings no configuration does: the active banks are what they were, or none, the same of the mark of a commit, and
the canonical forms hold after it when they held before. -/
def BanksKept (s t : State) : Prop :=
  ((t.active = s.active ∧ t.committed = s.committed) ∨ (t.active = [] ∧ t.committed = false)) ∧ (s.formsOk → t.formsOk)

theorem BanksKept.refl (s : State) : BanksKept s s := ⟨.inl ⟨rfl, rfl⟩, id⟩

theorem BanksKept.trans {s t u : State} (h : BanksKept s t) (h' : BanksKept t u) : BanksKept s u := by
  refine ⟨?_, h'.2 ∘ h.2⟩
  rcases h'.1 with ⟨ha, hc⟩ | gone
  · rw [ha, hc]
    exact h.1
  · exact .inr gone

/-- The banks, the mark and the flash decide. -/
theorem BanksKept.of_fields {s t : State} (ha : t.active = s.active) (hc : t.committed = s.committed)
    (hs : s.formsOk → tabOk dflt t.shadow = true) (hf : Memory.wf s.flash = true → Memory.wf t.flash = true) : BanksKept s t :=
  ⟨.inl ⟨ha, hc⟩, fun h => ⟨hf h.1, ha ▸ h.2.1, hs h⟩⟩

theorem BanksKept.of_same {s t : State} (h : Same Fld.notBanks s t) : BanksKept s t :=
  .of_fields (h.active (by decide)) (h.committed (by decide)) (fun ok => h.shadow (by decide) ▸ ok.2.2) (fun ok => h.flash (by decide) ▸ ok)

/-- A frame without the banks and the mark leaves the flash to look at. -/
theorem BanksKept.of_flash {s t : State} (h : Same (.flash :: Fld.notBanks) s t)
    (hf : Memory.wf s.flash = true → Memory.wf t.flash = true) : BanksKept s t :=
  .of_fields (h.active (by decide)) (h.committed (by decide)) (fun ok => h.shadow (by decide) ▸ ok.2.2) hf

theorem BanksKept.ite {c : Prop} [Decidable c] {s t u : State} (ht : c → BanksKept s t) (hu : ¬ c → BanksKept s u) :
    BanksKept s (if c then t else u) := by
  split
  · exact ht ‹_›
  · exact hu ‹_›

theorem BanksKept.each {f : State → Nat → State} (h : ∀ s x, BanksKept s (f s x)) (l : List Nat) (s : State) :
    BanksKept s (s.each l f) := by
  induction l generalizing s with
  | nil => exact .refl s
  | cons x l ih => exact (h s x).trans (ih _)

/-- An item runs its operation or is refused, and is counted. -/
theorem BanksKept.item {s : State} {r : Role} {right valueOk : Bool} {f : State → State} (h : ∀ u, BanksKept u (f u)) :
    BanksKept s (s.item r right valueOk f) := by
  have answered : ∀ u c, BanksKept u (u.answer c) := fun u c => .of_same (by apply State.answer_but <;> decide)
  have counted : ∀ u, BanksKept u (u.countItem r) := fun u => .of_same (by apply State.countItem_but; decide)
  unfold State.item State.itemLen
  dsimp only
  refine .ite (fun _ => .refl s) (fun _ => .trans ?_ (counted _))
  exact .ite (fun _ => answered ..) (fun _ => .ite (fun _ => answered ..) (fun _ => .ite (fun _ => answered ..) (fun _ =>
    .ite (fun _ => answered ..) (fun _ => h s))))

/-- A command that brings no configuration. -/
def KeepsBanks (s : State) (o : Host.Outcome State Fault Refusal) : Prop := ∀ t, o = .next t → BanksKept s t

theorem KeepsBanks.ok {s t : State} (h : BanksKept s t) : KeepsBanks s (ok t) := by
  intro u e
  exact Host.Outcome.next.inj e ▸ h

theorem KeepsBanks.of_same {s : State} {o : Host.Outcome State Fault Refusal} (h : ∀ t, o = .next t → t.but Fld.notBanks = s.but Fld.notBanks) :
    KeepsBanks s o := fun t e => .of_same (h t e)

/-- What a command does as an item of a request. -/
theorem BanksKept.after {s : State} {o : Host.Outcome State Fault Refusal} (h : KeepsBanks s o) : BanksKept s (s.after o) := by
  unfold State.after
  split
  · exact h _ rfl
  · exact .refl s

/-! ### The flash cells -/

theorem State.setCells_banksKept (s : State) (a : Nat) (l : Bytes) : BanksKept s (s.setCells a l) := by
  induction l generalizing s a with
  | nil => exact .refl s
  | cons b l ih =>
    refine .trans (.of_flash ?_ (fun ok => ?_)) (ih (s.setCell a b) (a + 1))
    · apply State.setCell_but; decide
    · exact tabOk_set erased s.flash a b ok

theorem State.setMarkers_banksKept (s : State) (a : Nat) (data : Bytes) (k : Nat) : BanksKept s (s.setMarkers a data k) :=
  .each (fun s _ => (s.setCells_banksKept ..).trans (.of_same (by apply State.setGranule_but; decide))) _ s

theorem State.setIntents_banksKept (s : State) (gs : List Nat) : BanksKept s (s.setIntents gs) :=
  .of_same (by apply State.setIntents_but; decide)

theorem State.programAll_banksKept (s : State) (a : Nat) (data : Bytes) : BanksKept s (s.programAll a data) :=
  (s.setIntents_banksKept _).trans (State.setMarkers_banksKept ..)

theorem State.tear_banksKept (s : State) (o : NvOp) (done : Nat) : BanksKept s (s.tear o done) :=
  (s.setIntents_banksKept _).trans (State.setMarkers_banksKept ..)

/-- A part of a table in its canonical form is in its canonical form. -/
theorem tabOk_filter {α : Type} [DecidableEq α] {d : Nat → α} {t : List (Nat × α)} (p : Nat × α → Bool) (h : tabOk d t = true) :
    tabOk d (t.filter p) = true := by
  unfold tabOk at *
  rw [Bool.and_eq_true, tabSorted_iff, List.all_eq_true] at *
  exact ⟨h.1.filter _, fun x hx => h.2 x (List.mem_filter.mp hx).1⟩

theorem State.eraseSector_banksKept (s : State) (n : Nat) : BanksKept s (s.eraseSector n) :=
  .of_flash (by apply State.eraseSector_but <;> decide) (tabOk_filter _)

end Sys2Proof.Machine

namespace Sys2Proof.Machine

theorem State.redo_banksKept (s : State) (l : List Nat) : BanksKept s (s.redo l) := by
  unfold State.redo
  refine .trans (.each (fun u n => (u.eraseSector_banksKept n).trans (.of_same ?_)) l s) (.of_same (by apply State.raise_but <;> decide))
  dsimp only
  split <;> simp [Same, ↓State.setReg_but, ↓State.bump16_but, ↓State.bump32_but, ↓State.setSector_but]

theorem State.wayCleared_banksKept (s : State) : BanksKept s s.wayCleared := by
  unfold State.wayCleared
  extract_lets stuck u
  have cleared : BanksKept s u := .ite (fun _ => s.redo_banksKept _) (fun _ => .refl s)
  split
  · split
    · extract_lets n v sec
      have asked : BanksKept s v := cleared.trans (.of_same (State.but_nv _ _ _ (by decide)))
      exact (asked.trans (v.eraseSector_banksKept n)).trans (.of_same (by simp [Same, ↓State.raise_but, ↓State.bump32_but, ↓State.setSector_but]))
    · exact cleared
  · exact cleared

theorem State.drawerDone_banksKept (s : State) (n : Nat) (d : Drawer) : BanksKept s (s.drawerDone n d) :=
  .of_same (by apply State.drawerDone_but <;> decide)

theorem State.commitStaged_banksKept (boot : Bool) (k : Nat) (s : State) : BanksKept s (s.commitStaged boot k) := by
  induction k generalizing s with
  | zero => exact .refl s
  | succ k ih =>
    unfold State.commitStaged
    extract_lets u
    have cleared : BanksKept s u := .ite (fun _ => s.wayCleared_banksKept) (fun _ => .refl s)
    split
    · rename_i d isMarker n _ _
      split
      · split
        · extract_lets t
          have begun : BanksKept s t := cleared.trans (.of_same (by apply State.beginDrawer_but <;> decide))
          split
          · exact ((begun.trans (.of_same (State.but_nv _ _ _ (by decide)))).trans (State.setMarkers_banksKept ..)).trans
              ((State.drawerDone_banksKept ..).trans (ih _))
          · exact begun
        · exact cleared
      · exact cleared
    · exact cleared

theorem State.drawerTorn_banksKept (s : State) (d : Drawer) : BanksKept s (s.drawerTorn d) :=
  .of_same (by apply State.drawerTorn_but <;> decide)

theorem State.programStops_banksKept (s : State) : BanksKept s s.programStops := by
  unfold State.programStops
  split
  · exact .refl s
  · split
    · split
      · exact (State.setMarkers_banksKept ..).trans (State.drawerDone_banksKept ..)
      · exact ((BanksKept.of_same (State.but_draws _ _ _ (by decide))).trans (State.tear_banksKept ..)).trans (State.drawerTorn_banksKept ..)
    · exact .refl s

theorem State.programEnds_banksKept (s : State) : BanksKept s s.programEnds := by
  unfold State.programEnds
  split
  · exact ((BanksKept.of_same (State.but_nv _ _ _ (by decide))).trans (State.setMarkers_banksKept ..)).trans (State.drawerDone_banksKept ..)
  · exact .refl s

theorem State.foundTorn_banksKept (s : State) (a n : Nat) : BanksKept s (s.foundTorn a n) :=
  .of_same (by apply State.foundTorn_but <;> decide)

theorem State.programBreaks_banksKept (s : State) : BanksKept s s.programBreaks := by
  unfold State.programBreaks
  split
  · exact .refl s
  · extract_lets k t src u
    have torn : BanksKept s t :=
      ((BanksKept.of_same (State.but_draws _ _ _ (by decide))).trans (State.tear_banksKept ..)).trans (State.foundTorn_banksKept ..)
    have ended : BanksKept s u := torn.trans (.of_same (State.but_nv _ _ _ (by decide)))
    split
    · exact ended.trans (State.drawerTorn_banksKept ..)
    · exact ended

theorem State.nvFails_banksKept (s : State) : BanksKept s s.nvFails := by
  unfold State.nvFails
  extract_lets t
  have held : BanksKept s t := s.programBreaks_banksKept.trans (.of_same (by apply State.holdDrawers_but; decide))
  exact held.trans (.of_same ((State.but_log _ _ _ (by decide)).trans (State.but_nv _ _ _ (by decide))))

/-! ### Commands of the flash -/

theorem execDrawerReadback_banks (found : ReadBack) (s : State) : KeepsBanks s (execDrawerReadback found s) := by
  unfold execDrawerReadback
  split
  · rename_i n d o _ _
    extract_lets src u
    have ended : BanksKept s u := .of_same (State.but_nv _ _ _ (by decide))
    split
    · exact .ok ((ended.trans (State.foundTorn_banksKept ..)).trans (State.drawerTorn_banksKept ..))
    · extract_lets v
      have read : BanksKept s v := (ended.trans (State.setMarkers_banksKept ..)).trans (.of_same (by apply State.sensed_but <;> decide))
      split
      · exact .ok (read.trans (State.drawerTorn_banksKept ..))
      · exact .ok (read.trans (State.drawerDone_banksKept ..))
  · exact .ok (.refl s)

theorem execLedgerRecordWrite_banks (s : State) : KeepsBanks s (execLedgerRecordWrite s) := by
  unfold execLedgerRecordWrite
  split
  · exact .ok (.refl s)
  · split
    · exact .ok (.refl s)
    · split
      · extract_lets u v src
        have programmed : BanksKept s u := s.programAll_banksKept ..
        have noted : BanksKept s v := programmed.trans (.of_same (by apply State.setReg_but; decide))
        exact .ok (noted.trans (.of_same (State.but_ledger _ _ _ (by decide))))
      · split
        · split
          · exact .ok (.refl s)
          · exact .ok (.of_same (by apply State.askLedgerErase_but; decide))
        · exact .ok (.refl s)

theorem execNvProgram_banks (s : State) : KeepsBanks s (execNvProgram s) := by
  unfold execNvProgram
  split
  · exact .ok (.refl s)
  · split
    · exact .ok (.refl s)
    · extract_lets src u v
      have taken : BanksKept s u := .of_same (State.but_nv _ _ _ (by decide))
      split
      · exact .ok taken
      · have programmed : BanksKept s v := taken.trans (u.programAll_banksKept ..)
        exact .ok (programmed.trans (.ite (fun _ => .of_same (by apply State.setReg_but; decide)) (fun _ => .refl v)))

theorem execNvInterrupt_banks (done : Nat) (s : State) : KeepsBanks s (execNvInterrupt done s) := by
  have held : ∀ u : State, BanksKept u u.holdDrawers := fun u => .of_same (by apply State.holdDrawers_but; decide)
  unfold execNvInterrupt
  split
  · split
    · exact .ok (.refl s)
    · extract_lets u src v
      have torn : BanksKept s u := (s.tear_banksKept ..).trans (State.foundTorn_banksKept ..)
      have ended : BanksKept s v := torn.trans (.of_same (State.but_nv _ _ _ (by decide)))
      split
      · exact .ok ((ended.trans (State.drawerTorn_banksKept ..)).trans (held _))
      · exact .ok (ended.trans (held _))
  · split
    · exact .ok (.refl s)
    · split
      · exact .ok (.refl s)
      · extract_lets src u
        have taken : BanksKept s u := .of_same (State.but_nv _ _ _ (by decide))
        exact .ok (taken.trans (.ite (fun _ => u.tear_banksKept ..) (fun _ => .refl u)))

theorem execEraseDone_banks (verified : Bool) (s : State) : KeepsBanks s (execEraseDone verified s) := by
  have ends : ∀ (u : State) (o : NvOp) (f : Bool), BanksKept u (u.eraseEnds o f) := fun u o f => .of_same (by apply State.eraseEnds_but <;> decide)
  unfold execEraseDone
  split
  · exact .ok (.refl s)
  · split
    · exact .ok (.refl s)
    · extract_lets n src close u sec v src' w sec' x
      split
      · have erased : BanksKept s u := ((BanksKept.of_same (State.but_nv _ _ _ (by decide))).trans (State.eraseSector_banksKept ..)).trans
          (.of_same (by apply State.bump32_but; decide))
        exact .ok ((erased.trans (.of_same (by apply State.setSector_but; decide))).trans (ends ..))
      · have counted : BanksKept s v := .of_same (by apply State.bump16_but; decide)
        split
        · exact .ok (counted.trans (.of_same (State.but_nv _ _ _ (by decide))))
        · have closed : BanksKept s w := counted.trans (.of_same (State.but_nv _ _ _ (by decide)))
          have failed : BanksKept s x := closed.trans (.of_same (by apply State.setSector_but; decide))
          exact .ok ((failed.trans (.of_same (by apply State.raise_but <;> decide))).trans (ends ..))

theorem execEraseRedo_banks (s : State) : KeepsBanks s (execEraseRedo s) := by
  unfold execEraseRedo
  extract_lets l
  split
  · exact .ok (.refl s)
  · exact .ok (s.redo_banksKept l)

end Sys2Proof.Machine

namespace Sys2Proof.Machine

/-! ### The shadow banks (R16, R309) -/

theorem tabOk_foldl_set (l t : List (Nat × Nat)) (h : tabOk dflt t = true) :
    tabOk dflt (l.foldl (fun t e => tabSet dflt t e.1 e.2) t) = true := by
  induction l generalizing t with
  | nil => exact h
  | cons e l ih => exact ih _ (tabOk_set dflt t e.1 e.2 h)

/-- Another content of the shadow banks, in its canonical form. -/
theorem State.setShadow_banksKept (s : State) (x : List (Nat × Nat)) (h : s.formsOk → tabOk dflt x = true) :
    BanksKept s { s with shadow := x } := .of_fields rfl rfl h id

/-- The shadow banks are taken back to the active ones. -/
theorem State.dropShadow_banksKept (s : State) : BanksKept s { s with shadow := s.active } := s.setShadow_banksKept _ (·.2.1)

theorem State.stageEntries_banksKept (s : State) (w : Nat) : BanksKept s (s.stageEntries w) :=
  s.setShadow_banksKept _ (fun ok => tabOk_foldl_set _ _ ok.2.1)

theorem State.checkPhase_banksKept (s : State) (k : CommitKind) (good : Bool) : BanksKept s (s.checkPhase k good).1 :=
  .of_same (by apply State.checkPhase_but <;> decide)

theorem State.arm_banksKept (s : State) (k : CommitKind) : BanksKept s (s.arm k) := .of_same (by apply State.arm_but <;> decide)

theorem State.commitEnds_banksKept (s : State) (k : CommitKind) (st : Nat) : BanksKept s (s.commitEnds k st) :=
  .of_same (by apply State.commitEnds_but <;> decide)

theorem State.runCommit_banksKept (s : State) (w : Nat) (good : Bool) : BanksKept s (s.runCommit w good) := by
  have checked := (s.stageEntries_banksKept w).trans ((s.stageEntries w).checkPhase_banksKept (.set w) good)
  unfold State.runCommit
  split
  rename_i t st e
  rw [e] at checked
  exact .ite (fun _ => checked.trans (t.arm_banksKept _))
    (fun _ => checked.trans (t.dropShadow_banksKept.trans (State.commitEnds_banksKept ..)))

theorem State.answer_banksKept (s : State) (c : Nat) : BanksKept s (s.answer c) := .of_same (by apply State.answer_but <;> decide)

theorem State.commitRequest_banksKept (s : State) (w : Nat) (good : Bool) : BanksKept s (s.commitRequest w good) := by
  have queued : BanksKept s (s.enqueue w) := .of_same (by apply State.enqueue_but; decide)
  have run := s.runCommit_banksKept w good
  unfold State.commitRequest
  exact .ite (fun _ => s.answer_banksKept _) (fun _ => .ite (fun _ => s.answer_banksKept _) (fun _ => .ite
    (fun _ => queued.trans (State.answer_banksKept ..))
    (fun _ => .ite (fun _ => run.trans (State.answer_banksKept ..)) (fun _ => run.trans (State.answer_banksKept ..)))))

theorem State.discardRequest_banksKept (s : State) (w : Nat) : BanksKept s (s.discardRequest w) :=
  .of_same (by apply State.discardRequest_but <;> decide)

theorem State.queueStart_banksKept (s : State) (good : Bool) : BanksKept s (s.queueStart good) := by
  unfold State.queueStart
  split
  · exact .refl s
  · exact .ite (fun _ => .refl s) (fun _ => (BanksKept.of_same (State.but_queueC s _ _ (by decide))).trans (State.runCommit_banksKept ..))

theorem State.commitItem_banksKept (s : State) (r : Role) (right : Bool) (w : Nat) (b : Byte) (good : Bool) :
    BanksKept s (s.commitItem r right w b good) :=
  .item (fun u => .ite (fun _ => u.commitRequest_banksKept w good) (fun _ => u.discardRequest_banksKept w))

/-! ### Shelves and profiles (R303 to R309) -/

theorem State.shelfBank_ok (s : State) (n : Nat) : tabOk dflt (s.shelfBank n) = true := tabOk_foldl_set _ _ (tabOk_nil dflt)

theorem State.shelfStage_banksKept (s : State) (n : Nat) (k : CommitKind) (good : Bool) : BanksKept s (s.shelfStage n k good).1 := by
  have checked := (s.setShadow_banksKept _ (fun _ => s.shelfBank_ok n)).trans (State.checkPhase_banksKept _ k good)
  unfold State.shelfStage
  split
  rename_i t st e
  rw [e] at checked
  split
  · exact checked
  · exact checked.trans (t.dropShadow_banksKept.trans (.of_same (by apply State.setReg_but; decide)))

theorem State.shelfVerify_banksKept (s : State) (n : Nat) (hw : Hw) : BanksKept s (s.shelfVerify n hw) :=
  .of_same (by apply State.shelfVerify_but <;> decide)

theorem State.switchRefuse_banksKept (s : State) (n st : Nat) : BanksKept s (s.switchRefuse n st) :=
  .of_same (by apply State.switchRefuse_but <;> decide)

theorem State.switchRequest_banksKept (s : State) (n : Nat) (pin : Bool) (hw : Hw) : BanksKept s (s.switchRequest n pin hw) := by
  unfold State.switchRequest
  split
  · extract_lets u
    have verified : BanksKept s u := s.shelfVerify_banksKept n hw
    have discarded : BanksKept u (u.discardSets 2) := .of_same (by apply State.discardSets_but <;> decide)
    have staged := verified.trans (discarded.trans ((u.discardSets 2).shelfStage_banksKept n (.switch n pin) hw.fabricOk))
    split
    · exact verified.trans (u.switchRefuse_banksKept ..)
    · split
      rename_i t st e
      rw [e] at staged
      exact .ite (fun _ => staged.trans ((t.arm_banksKept _).trans (State.answer_banksKept ..))) (fun _ => staged.trans (t.switchRefuse_banksKept ..))
  · extract_lets u
    have counted : BanksKept s u := .ite (fun _ => .of_same (by apply State.bump16_but; decide)) (fun _ => .refl s)
    exact counted.trans (u.switchRefuse_banksKept ..)

theorem State.switchItem_banksKept (s : State) (r : Role) (b : Byte) (hw : Hw) : BanksKept s (s.switchItem r b hw) :=
  .item (fun u => .ite (fun _ => u.switchRequest_banksKept ..) (fun _ => u.switchRefuse_banksKept ..))

theorem State.tryShelf_banksKept (s : State) (n : Nat) (hw : Hw) : BanksKept s (s.tryShelf n hw).1 := by
  unfold State.tryShelf
  split
  · exact .refl s
  · extract_lets u
    have verified : BanksKept s u := s.shelfVerify_banksKept n hw
    have staged := verified.trans (u.shelfStage_banksKept n (.powerUp n) hw.fabricOk)
    split
    · exact verified
    · split
      rename_i t st e
      rw [e] at staged
      split
      · exact staged.trans (t.arm_banksKept _)
      · exact staged.trans (.of_same (by apply State.setReg_but; decide))

theorem State.fallbackEvent_banksKept (s : State) (tried : Bool) (n : Nat) : BanksKept s (s.fallbackEvent tried n) :=
  .of_same (by apply State.fallbackEvent_but <;> decide)

theorem State.tryFallback_banksKept (s : State) (hw : Hw) : BanksKept s (s.tryFallback hw) := by
  have tried := s.tryShelf_banksKept (s.reg profFallbackShelf) hw
  unfold State.tryFallback
  refine .ite (fun _ => s.fallbackEvent_banksKept ..) (fun _ => ?_)
  split
  rename_i t armed e
  rw [e] at tried
  exact .ite (fun _ => tried) (fun _ => tried.trans (t.fallbackEvent_banksKept ..))

theorem State.loadProfile_banksKept (s : State) (hw : Hw) : BanksKept s (s.loadProfile hw) := by
  have tried := s.tryShelf_banksKept s.supply.psel hw
  unfold State.loadProfile
  split
  rename_i t armed e
  rw [e] at tried
  exact .ite (fun _ => tried) (fun _ => tried.trans (t.tryFallback_banksKept hw))

theorem State.setSupply_banksKept (s : State) (x : SupplyX) : BanksKept s { s with supply := x } :=
  .of_same (State.but_supply s x _ (by decide))

theorem State.powerUpAbandoned_banksKept (s : State) (n : Nat) (hw : Hw) : BanksKept s (s.powerUpAbandoned n hw) :=
  .ite (fun _ => s.setSupply_banksKept _) (fun _ => .ite (fun _ => s.tryFallback_banksKept hw) (fun _ => s.fallbackEvent_banksKept ..))

theorem State.loadOn_banksKept (s : State) : BanksKept s s.loadOn := by
  unfold State.loadOn
  split
  · exact .refl s
  · exact (s.setSupply_banksKept _).trans (State.powerUpAbandoned_banksKept ..)

/-! ### Management resets (R35, R288, R447) -/

/-- A switch that a management reset takes back leaves the active banks in the shadow (R309). -/
theorem State.switchStops_banksKept (s : State) : BanksKept s s.switchStops := by
  have reg : ∀ u : State, BanksKept u (u.setReg profLastCommitStatus 0x0401) := fun u => .of_same (by apply State.setReg_but; decide)
  unfold State.switchStops
  split
  · exact .ite (fun _ => .trans (t := { s with armed := none, switchSt := 0, shadow := s.active, later := _, supply := _ })
      (.of_fields rfl rfl (fun ok => ok.2.1) id) (reg _)) (fun _ => .refl s)
  · exact .refl s

theorem State.mgmtReset_banksKept (s : State) (code : Nat) : BanksKept s (s.mgmtReset code) := by
  unfold State.mgmtReset
  extract_lets u v
  have counted : BanksKept s u := s.switchStops_banksKept.trans (.of_same (by
    simp [u, Same, ↓State.bump16_but, ↓State.setReg_but]))
  have cleared : BanksKept u v := .of_same (by
    simp [v, Same, ↓State.workReset_but, ↓State.sweepsReset_but, ↓State.discardSets_but])
  have shadow : v.formsOk → tabOk dflt (if v.armed.isSome then v.shadow else v.active) = true := fun ok => by
    split
    · exact ok.2.2
    · exact ok.2.1
  clear_value v
  exact (counted.trans cleared).trans (.of_fields rfl rfl shadow id)

theorem State.deliverHeld_banksKept (s : State) : BanksKept s s.deliverHeld := .of_same (by apply State.deliverHeld_but <;> decide)

theorem State.runBank_banksKept (s : State) (b check : Nat) : BanksKept s (s.runBank b check) := .of_same (by apply State.runBank_but <;> decide)

theorem State.resumeIn_banksKept (s : State) (b check : Nat) : BanksKept s (s.resumeIn b check) := by
  unfold State.resumeIn
  extract_lets u v
  have state : BanksKept s u := .ite (fun _ => .of_same (by apply State.setReg_but; decide)) (fun _ => .refl s)
  have ran : BanksKept u v := .of_same (by simp [v, Same, ↓State.runBank_but, ↓State.resumeTimers_but, ↓State.mgmtUp_but])
  exact (((state.trans ran).trans v.deliverHeld_banksKept).trans (.of_same (by apply State.raise_but <;> decide))).trans (State.loadOn_banksKept _)

theorem State.stayInRom_banksKept (s : State) : BanksKept s s.stayInRom := .of_same (by apply State.stayInRom_but <;> decide)

theorem execMgmtResume_banks (s : State) : KeepsBanks s (execMgmtResume s) := by
  unfold execMgmtResume
  split
  · exact .ok (.refl s)
  · split
    · exact .ok (s.resumeIn_banksKept ..)
    · exact .ok s.stayInRom_banksKept

theorem execBootRetry_banks (hw : Hw) (s : State) : KeepsBanks s (execBootRetry hw s) := by
  have up : ∀ b c, BanksKept s (s.mgmtUp.runBank b c) := fun b c =>
    (BanksKept.of_same (by apply State.mgmtUp_but <;> decide)).trans (State.runBank_banksKept ..)
  unfold execBootRetry
  split
  · exact .ok (.refl s)
  · split
    · exact .ok s.stayInRom_banksKept
    · split
      · exact .ok (((up ..).trans (State.deliverHeld_banksKept _)).trans (State.loadProfile_banksKept ..))
      · exact .ok (s.resumeIn_banksKept ..)

theorem State.fwActivate_banksKept (s : State) : BanksKept s s.fwActivate := by
  unfold State.fwActivate
  refine .trans (.of_same ?_) (State.mgmtReset_banksKept ..)
  exact (State.but_waitMaint _ _ _ (by decide)).trans ((State.but_fwWaitAt _ _ _ (by decide)).trans (State.but_sec _ _ _ (by decide)))

/-! ### Loss of VCORE and cold starts (R132, R286) -/

/-- The loss of VCORE takes the configuration away, and leaves the flash but for the program operation in progress (R132, R413). -/
theorem State.vcoreDown_banksKept (s : State) : BanksKept s s.vcoreDown := by
  unfold State.vcoreDown
  extract_lets u live
  have stopped : BanksKept s u := s.programStops_banksKept.trans (.each (fun v p => .of_same (by apply State.keepMerge_but; decide)) _ _)
  clear_value u live
  exact stopped.trans ⟨.inr ⟨rfl, rfl⟩, fun ok => ⟨ok.1, rfl, rfl⟩⟩

theorem State.coldStart_banksKept (s : State) : BanksKept s s.coldStart := ⟨.inr ⟨rfl, rfl⟩, fun ok => ⟨ok.1, rfl, rfl⟩⟩

theorem State.vcoreLost_banksKept (s : State) : BanksKept s s.vcoreLost := by
  unfold State.vcoreLost
  extract_lets t u l
  have down : BanksKept s t := s.vcoreDown_banksKept.trans (.of_same (by apply State.bump16_but; decide))
  exact .ite (fun _ => down.trans (t.setSupply_banksKept _)) (fun _ => down.trans (t.setSupply_banksKept _))

theorem State.powerCycle_banksKept (s : State) : BanksKept s s.powerCycle := s.vcoreDown_banksKept.trans (State.setSupply_banksKept ..)

theorem State.sleepNow_banksKept (s : State) : BanksKept s s.sleepNow := by
  have restored : ∀ (l : List (Nat × Nat)) (u : State), BanksKept u (l.foldl (fun s e => s.setReg e.1 e.2) u) :=
    fun l u => .of_same (foldl_but _ _ _ _ (fun v e _ => by apply State.setReg_but; decide))
  unfold State.sleepNow
  extract_lets u fw w src v supply nv x
  have programs : BanksKept s u := (s.programEnds_banksKept.trans (.of_same (by apply State.haltErase_but <;> decide))).trans
    (State.commitStaged_banksKept ..)
  have down : BanksKept s v := ((programs.trans (.of_same (State.but_nv _ _ _ (by decide)))).trans
    (.of_same (by apply State.retain_but <;> decide))).trans (State.vcoreDown_banksKept _)
  clear_value v
  have standby : BanksKept s x := down.trans (.of_same ((State.but_nv _ _ _ (by decide)).trans (State.but_supply _ _ _ (by decide))))
  exact (standby.trans (restored ..)).trans (.of_same (by apply State.wakePressed_but <;> decide))

end Sys2Proof.Machine

namespace Sys2Proof.Machine

/-! ### Items, requests and responses (R317, R320, R326) -/

theorem execSleep_banks (r : Role) (v : Byte) (s : State) : KeepsBanks s (execSleep r v s) :=
  .ok (.item (fun u => .ite (fun _ => u.sleepNow_banksKept.trans (State.answer_banksKept ..)) (fun _ => u.answer_banksKept _)))

theorem execResetRequestMgmt_banks (r : Role) (s : State) : KeepsBanks s (execResetRequestMgmt r s) :=
  .ok (.item (fun u => (u.mgmtReset_banksKept 6).trans (State.answer_banksKept ..)))

theorem execResetRequestPower_banks (r : Role) (s : State) : KeepsBanks s (execResetRequestPower r s) :=
  .ok (.item (fun u => .ite (fun _ => u.powerCycle_banksKept.trans (State.answer_banksKept ..)) (fun _ => u.answer_banksKept _)))

theorem State.fwCommand_banksKept (s : State) (r : Role) {f : State → State} (h : ∀ u, BanksKept u (f u)) : BanksKept s (s.fwCommand r f) :=
  .item (fun u => (h u).trans (.of_same (by apply State.setReg_but; decide)))

theorem execFwActivate_banks (r : Role) (s : State) : KeepsBanks s (execFwActivate r s) := by
  have stated : ∀ u : State, BanksKept u (u.setReg fwFwState 5) := fun u => .of_same (by apply State.setReg_but; decide)
  have asked : ∀ u : State, BanksKept u { u with waitMaint := u.waitMaint ++ [17], fwWaitAt := some u.now } := fun u =>
    .of_same ((State.but_fwWaitAt { u with waitMaint := u.waitMaint ++ [17] } _ _ (by decide)).trans (State.but_waitMaint u _ _ (by decide)))
  exact .ok (s.fwCommand_banksKept r (fun u => .ite (fun _ => u.answer_banksKept _) (fun _ => (stated u).trans (.ite
    (fun _ => (asked _).trans (State.answer_banksKept ..)) (fun _ => (State.fwActivate_banksKept _).trans (State.answer_banksKept ..))))))

theorem State.fwWrite_banksKept (s : State) (r : Role) (b : Byte) : BanksKept s (s.fwWrite r b) := by
  unfold State.fwWrite
  split
  · exact .after (.of_same (by apply execFwErase_but <;> decide))
  · exact .after (.of_same (by apply execFwSeal_but <;> decide))
  · exact .after (execFwActivate_banks _ _)
  · exact .after (.of_same (by apply execFwAbandon_but <;> decide))

theorem State.commandLow_banksKept (s : State) (r : Role) (k base u sub : Nat) (val : Bytes) (hw : Hw) :
    BanksKept s (s.commandLow r k base u sub val hw) := by
  unfold State.commandLow
  extract_lets b p
  split
  · exact s.commitItem_banksKept ..
  · exact s.switchItem_banksKept ..
  · exact s.commitItem_banksKept ..
  · exact .after (.of_same (by apply execShelfData_but <;> decide))
  · exact .ite (fun _ => .after (.of_same (by apply execShelfErase_but <;> decide))) (fun _ => .after (.of_same (by apply execShelfSeal_but <;> decide)))
  · exact .after (execSleep_banks _ _ _)
  · exact .ite (fun _ => .after (execResetRequestMgmt_banks _ _)) (fun _ => .after (execResetRequestPower_banks _ _))
  · exact .after (.of_same (by apply execRestart_but <;> decide))
  · exact .after (.of_same (by apply execForceOff_but <;> decide))
  · exact .after (.of_same (by apply execClear_but <;> decide))
  · exact .after (.of_same (by apply execStart_but <;> decide))
  · exact .after (.of_same (by apply execStop_but <;> decide))
  · exact .after (.of_same (by apply execArmCapture_but <;> decide))
  · exact .refl s

theorem State.commandHigh_banksKept (s : State) (r : Role) (k base u sub : Nat) (val : Bytes) (hw : Hw) :
    BanksKept s (s.commandHigh r k base u sub val hw) := by
  unfold State.commandHigh
  extract_lets b p
  split
  · exact .after (.of_same (by apply execTableSelect_but <;> decide))
  · exact .ite (fun _ => .after (.of_same (by apply execBenchStart_but <;> decide))) (fun _ => .after (.of_same (by apply execBenchAbort_but <;> decide)))
  · exact .ite (fun _ => .after (.of_same (by apply execVerdictPass_but <;> decide))) (fun _ => .after (.of_same (by apply execVerdictFail_but <;> decide)))
  · exact .ite (fun _ => .after (.of_same (by apply execMarginApply_but <;> decide))) (fun _ => .after (.of_same (by apply execMarginRemove_but <;> decide)))
  · exact .ite (fun _ => .after (.of_same (by apply execEraseOldest_but <;> decide))) (fun _ => .ite (fun _ => .after (.of_same (by apply execEraseAll_but <;> decide)))
      (fun _ => .after (.of_same (by apply execVerifyAll_but <;> decide))))
  · exact .after (.of_same (by apply execClearFault_but <;> decide))
  · exact .after (.of_same (by apply execOwnerInit_but <;> decide))
  · exact .of_same (by apply State.itemLen_but <;> first | decide | exact fun u => by apply State.keyLoad_but <;> decide)
  · exact .after (.of_same (by apply execDebugResponse_but <;> decide))
  · exact .after (.of_same (by apply execDebugLock_but <;> decide))
  · exact .after (.of_same (by apply execAttestRequest_but <;> decide))
  · exact .after (.of_same (by apply execGroupReset_but <;> decide))
  · exact .after (.of_same (by apply execMemWrite_but <;> decide))
  · exact .after (.of_same (by apply execMemErase_but <;> decide))
  · exact s.fwWrite_banksKept ..
  · exact .after (.of_same (by apply execFwData_but <;> decide))
  · exact .refl s

theorem State.countItem_banksKept (s : State) (r : Role) : BanksKept s (s.countItem r) := .of_same (by apply State.countItem_but; decide)

theorem State.writeItem_banksKept (s : State) (r : Role) (k : Nat) (x : ReqItem) (hw : Hw) : BanksKept s (s.writeItem r k x hw) := by
  have answered : ∀ c, BanksKept s ((s.answer c).countItem r) := fun c => (s.answer_banksKept c).trans (State.countItem_banksKept ..)
  unfold State.writeItem
  split
  · exact answered _
  · split
    · exact answered _
    · split
      · exact answered _
      · exact .trans (.of_same (by apply State.stageBy_but <;> decide)) (State.countItem_banksKept ..)
      · exact .of_same (by apply State.writeReg_but <;> decide)
      · exact .ite (fun _ => s.commandLow_banksKept ..) (fun _ => s.commandHigh_banksKept ..)

theorem State.runItem_banksKept (s : State) (r : Role) (k : Nat) (x : ReqItem) (hw : Hw) : BanksKept s (s.runItem r k x hw) :=
  .ite (fun _ => s.writeItem_banksKept ..) (fun _ => .trans (.of_same (by apply State.readItem_but <;> decide)) (State.countItem_banksKept ..))

theorem State.oneItem_banksKept (s : State) (r : Role) (k : Nat) (x : ReqItem) (hw : Hw) : BanksKept s (s.oneItem r k x hw) := by
  unfold State.oneItem
  split
  · exact s.runItem_banksKept ..
  · exact .of_same (by apply State.giveCode_but <;> decide)

theorem State.giveCodes_banksKept (s : State) (r : Role) (l : List (ReqItem × Nat)) : BanksKept s (s.giveCodes r l) :=
  .of_same (by apply State.giveCodes_but <;> decide)

theorem State.setWaits_banksKept (s : State) (x : List Wait) : BanksKept s { s with waits := x } := .of_same (State.but_waits s x _ (by decide))

theorem State.runOne_banksKept (s : State) (w : Wait) (left : Nat) (x : ReqItem) (hw : Hw) : BanksKept s (s.runOne w left x hw) := by
  unfold State.runOne
  split
  · exact .trans (.of_same (by apply State.give_but <;> decide)) (State.countItem_banksKept ..)
  · exact s.runItem_banksKept ..

/-- The items of a batch, one after the other. -/
theorem State.runItems_banksKept (w : Wait) (acted : Bool) (hw : Hw) (l : List ReqItem) (s : State) :
    BanksKept s (s.runItems w acted hw l).1 := by
  induction l generalizing s w acted with
  | nil =>
    unfold State.runItems
    split <;> exact .refl s
  | cons x rest ih =>
    have ran := s.runOne_banksKept w (rest.length + 1) x hw
    unfold State.runItems
    split
    · exact .refl s
    · split
      · exact s.setWaits_banksKept _
      · extract_lets t acted' done
        change BanksKept s t at ran
        clear_value t
        split
        · split
          · exact ran.trans (t.setWaits_banksKept _)
          · split
            · exact ran.trans (t.giveCodes_banksKept ..)
            · exact ran.trans (ih ..)
        · split
          · exact ran.trans (t.giveCodes_banksKept ..)
          · exact ran.trans (ih ..)

theorem State.afterItems_banksKept (s before : State) (w : Wait) (muted : Bool) (response : Option Bytes) :
    BanksKept s (s.afterItems before w muted response) := .of_same (by apply State.afterItems_but <;> decide)

theorem State.replyTo_banksKept (s : State) (muted : Bool) (k tid : Nat) (request response : Bytes) :
    BanksKept s (s.replyTo muted k tid request response) := .of_same (by apply State.replyTo_but <;> decide)

theorem State.runBatch_banksKept (s : State) (r : Role) (k tid : Nat) (request : Bytes) (l : List ReqItem) (muted : Bool) (hw : Hw) :
    BanksKept s (s.runBatch r k tid request l muted hw) := by
  unfold State.runBatch
  split
  · exact (s.giveCodes_banksKept ..).trans (State.replyTo_banksKept ..)
  · extract_lets w
    split
    · exact .of_same ((State.but_waits _ _ _ (by decide)).trans (State.but_draws _ _ _ (by decide)))
    · have ran := State.runItems_banksKept w false hw l s
      split
      rename_i t b e
      rw [e] at ran
      exact ran.trans (t.afterItems_banksKept ..)

theorem State.newRequest_banksKept (s : State) (r : Role) (k tid : Nat) (payload : Bytes) (muted : Bool) (hw : Hw) :
    BanksKept s (s.newRequest r k tid payload muted hw) := by
  have rated : BanksKept s (s.rateStep r).1 := .of_same (by apply State.rateStep_but <;> decide)
  unfold State.newRequest
  split
  · exact s.replyTo_banksKept ..
  · split
    rename_i t good e
    rw [e] at rated
    split
    · exact rated.trans (t.replyTo_banksKept ..)
    · split
      · exact rated.trans (t.replyTo_banksKept ..)
      · split
        · exact rated.trans (t.replyTo_banksKept ..)
        · exact rated.trans (t.runBatch_banksKept ..)

theorem State.sendPayload_banksKept (s : State) (tr : Transport) (ep keyId flags tid : Nat) (b : Bytes) :
    BanksKept s (s.sendPayload tr ep keyId flags tid b) := .of_same (by apply State.sendPayload_but <;> decide)

theorem State.onSession_banksKept (s : State) (k : Nat) (f : Session → Session) : BanksKept s (s.onSession k f) :=
  .of_same (by apply State.onSession_but; decide)

theorem State.sessionRequest_banksKept (s : State) (k : Nat) (x : InReq) (hw : Hw) : BanksKept s (s.sessionRequest k x hw) := by
  have bump32 : ∀ (u : State) (j : Nat), BanksKept u (u.bump32 j) := fun u j => .of_same (by apply State.bump32_but; decide)
  have bump16 : ∀ (u : State) (j : Nat), BanksKept u (u.bump16 j) := fun u j => .of_same (by apply State.bump16_but; decide)
  unfold State.sessionRequest
  extract_lets tid p u
  have used : BanksKept s u := s.onSession_banksKept ..
  split
  · exact used
  · split
    · exact .ite (fun _ => used.trans (bump32 ..)) (fun _ => used.trans (bump16 ..))
    · refine .ite (fun _ => used.trans (bump16 ..)) (fun _ => (used.trans (bump32 u dapsDupCount)).trans ?_)
      exact .ite (fun _ => .refl _) (fun _ => State.sendPayload_banksKept ..)
    · exact used.trans (u.newRequest_banksKept ..)

theorem State.openSession_banksKept (s : State) (tr : Transport) (ep keyId : Nat) : BanksKept s (s.openSession tr ep keyId).1 :=
  .of_same (by apply State.openSession_but <;> decide)

theorem State.inSession_banksKept (s : State) (x : InReq) (hw : Hw) : BanksKept s (s.inSession x hw) := by
  have opened := s.openSession_banksKept x.req.tr x.req.ep (frKey x.req.bytes)
  unfold State.inSession
  extract_lets k
  split
  · exact s.sessionRequest_banksKept ..
  · split
    · rename_i t e
      rw [e] at opened
      exact .ite (fun _ => opened) (fun _ => opened.trans (t.sendPayload_banksKept ..))
    · rename_i t n e
      rw [e] at opened
      extract_lets v
      have ran : BanksKept s v := opened.trans (t.sessionRequest_banksKept ..)
      exact .ite (fun _ => ran.trans (.of_same (State.but_sessions _ _ _ (by decide)))) (fun _ => ran)

theorem State.runFrame_banksKept (s : State) (x : InReq) (hw : Hw) : BanksKept s (s.runFrame x hw) := by
  have refused : ∀ (u : State) (b : Bytes), BanksKept u (u.refuseKey x b) := fun u b => .of_same (by apply State.refuseKey_but <;> decide)
  unfold State.runFrame
  extract_lets b k
  split
  · exact .of_same (by apply State.bump32_but; decide)
  · split
    · exact .trans (.of_same (by apply State.authFail_but <;> decide)) (refused ..)
    · split
      · exact .trans (.of_same (by apply State.bump32_but; decide)) (refused ..)
      · rename_i y _
        have seen : BanksKept s ((s.storeKey k y).hostSeen k) :=
          .trans (.of_same (State.storeKey_but _ _ _ _ (by decide) (by decide) (by decide) (by decide))) (.of_same (by apply State.hostSeen_but; decide))
        exact seen.trans (State.inSession_banksKept ..)

theorem State.runService_banksKept (s : State) (x : InReq) (hw : Hw) : BanksKept s (s.runService x hw) := by
  have opened := s.openSession_banksKept x.req.tr x.req.ep 17
  unfold State.runService
  extract_lets go
  have gone : ∀ u n, BanksKept u (go u n) := fun u n => (u.onSession_banksKept ..).trans (State.newRequest_banksKept ..)
  split
  · exact gone ..
  · split
    · rename_i t e
      rw [e] at opened
      exact opened.trans (t.sendPayload_banksKept ..)
    · rename_i t n e
      rw [e] at opened
      exact opened.trans (gone ..)

theorem State.runRequest_banksKept (s : State) (x : InReq) (hw : Hw) : BanksKept s (s.runRequest x hw) :=
  .ite (fun _ => s.runService_banksKept ..) (fun _ => s.runFrame_banksKept ..)

theorem State.deliverOne_banksKept (s : State) (w : Wait) (st : Nat) (hw : Hw) : BanksKept s (s.deliverOne w st hw) := by
  unfold State.deliverOne
  extract_lets done
  split
  · exact ((BanksKept.of_same (by apply State.countRefusal_but; decide)).trans (State.giveCodes_banksKept ..)).trans (State.afterItems_banksKept ..)
  · have ran := State.runItems_banksKept { w with done := done } false hw w.rest s
    split
    rename_i t b e
    rw [e] at ran
    exact ran.trans (t.afterItems_banksKept ..)

theorem State.deliverLoop_banksKept (n : Nat) (hw : Hw) (s : State) : BanksKept s (s.deliverLoop n hw) := by
  induction n generalizing s with
  | zero => exact .refl s
  | succ n ih =>
    unfold State.deliverLoop
    split
    · exact .refl s
    · exact ((s.setWaits_banksKept _).trans (State.deliverOne_banksKept ..)).trans (ih _)

theorem State.deliver_banksKept (s : State) (hw : Hw) : BanksKept s (s.deliver hw) :=
  .ite (fun _ => .refl s) (fun _ => State.deliverLoop_banksKept ..)

theorem State.batchTurn_banksKept (s : State) : BanksKept s s.batchTurn := by
  unfold State.batchTurn
  split
  · exact .refl s
  · rename_i w _
    extract_lets w' u
    split
    · exact s.setWaits_banksKept _
    · have ran := (s.setWaits_banksKept (s.waits.erase w)).trans (State.runItems_banksKept w' false w.hw w.rest u)
      split
      rename_i t b e
      rw [e] at ran
      exact ran.trans ((t.afterItems_banksKept ..).trans (State.deliver_banksKept ..))

theorem State.serveNext_banksKept (s : State) (hw : Hw) : BanksKept s (s.serveNext hw) := by
  unfold State.serveNext
  split
  · exact .refl s
  · exact (BanksKept.of_same (State.but_inbox s _ _ (by decide))).trans (State.runRequest_banksKept ..)

theorem State.peerRun_banksKept (s : State) (idx sub : Nat) : BanksKept s (s.peerRun idx sub) := by
  unfold State.peerRun
  split
  · exact .of_same (State.but_peerReq s _ _ (by decide))
  · extract_lets x t v
    have ran : BanksKept s t := s.oneItem_banksKept ..
    exact .ite (fun _ => ran.trans (.of_same (State.but_peerReq t _ _ (by decide)))) (fun _ => ran.trans (.of_same (State.but_peerReq t _ _ (by decide))))

end Sys2Proof.Machine

namespace Sys2Proof.Machine

/-! ### Commands that bring no configuration -/

theorem execCommit_banks (r : Role) (fabricOk : Bool) (s : State) : KeepsBanks s (execCommit r fabricOk s) :=
  .ok ((s.commitItem_banksKept ..).trans (State.deliver_banksKept ..))

theorem execCommitDiscard_banks (r : Role) (s : State) : KeepsBanks s (execCommitDiscard r s) := .ok (s.commitItem_banksKept ..)

theorem execPartitionCommit_banks (r : Role) (p : Fin 16) (fabricOk : Bool) (s : State) : KeepsBanks s (execPartitionCommit r p fabricOk s) :=
  .ok ((s.commitItem_banksKept ..).trans (State.deliver_banksKept ..))

theorem execPartitionCommitDiscard_banks (r : Role) (p : Fin 16) (s : State) : KeepsBanks s (execPartitionCommitDiscard r p s) :=
  .ok (s.commitItem_banksKept ..)

theorem execCommitQueueStart_banks (fabricOk : Bool) (s : State) : KeepsBanks s (execCommitQueueStart fabricOk s) := by
  unfold execCommitQueueStart
  split
  · exact .ok (.refl s)
  · exact .ok ((s.queueStart_banksKept ..).trans (State.deliver_banksKept ..))

theorem execCommitAbandon_banks (part : Participant) (hw : Hw) (s : State) : KeepsBanks s (execCommitAbandon part hw s) := by
  unfold execCommitAbandon
  split
  · exact .ok (.refl s)
  · split
    · exact .ok (.refl s)
    · extract_lets t
      have ended : BanksKept s t := .trans (.of_same (State.but_armed s none _ (by decide))) (State.commitEnds_banksKept ..)
      split
      · exact .ok (ended.trans (t.powerUpAbandoned_banksKept ..))
      · exact .ok (ended.trans (t.deliver_banksKept ..))

theorem execSwitch_banks (r : Role) (v : Byte) (hw : Hw) (s : State) : KeepsBanks s (execSwitch r v hw s) :=
  .ok ((s.switchItem_banksKept ..).trans (State.deliver_banksKept ..))

theorem State.pinSwitch_banksKept (s : State) (v : Nat) (hw : Hw) : BanksKept s (s.pinSwitch v hw) := by
  unfold State.pinSwitch
  extract_lets st t src u
  have asked : BanksKept s t := s.switchRequest_banksKept ..
  clear_value t
  have noted : BanksKept t u := .ite (fun _ => t.setSupply_banksKept _)
    (fun _ => (t.setSupply_banksKept _).trans (.of_same (by apply State.setReg_but; decide)))
  exact ((asked.trans noted).trans (u.deliver_banksKept hw)).trans (.of_same (State.but_status _ _ _ (by decide)))

theorem State.pinsJudged_banksKept (s : State) (hw : Hw) : BanksKept s (s.pinsJudged hw) := by
  unfold State.pinsJudged
  extract_lets v src t u
  have judged : BanksKept s t := s.setSupply_banksKept _
  have named : BanksKept s u := judged.trans (.ite (fun _ => .of_same (by apply State.setReg_but; decide)) (fun _ => .refl t))
  exact .ite (fun _ => named) (fun _ => named.trans (u.pinSwitch_banksKept ..))

theorem execPselChange_banks (v : Fin 4) (hw : Hw) (s : State) : KeepsBanks s (execPselChange v hw s) := by
  unfold execPselChange
  split
  · exact .ok (.refl s)
  · extract_lets src u
    have noted : BanksKept s u := s.setSupply_banksKept _
    split
    · exact .ok (noted.trans (u.pinsJudged_banksKept hw))
    · exact .ok noted

theorem State.pinsTurn_banksKept (s : State) : BanksKept s s.pinsTurn := by
  unfold State.pinsTurn
  split
  · exact .refl s
  · split
    · exact s.pinsJudged_banksKept noHw
    · split
      · exact .refl s
      · exact .ite (fun _ => s.pinSwitch_banksKept ..) (fun _ => s.setSupply_banksKept _)

theorem State.islandFails_banksKept (s : State) (d : Nat) : BanksKept s (s.islandFails d) := by
  unfold State.islandFails
  extract_lets u
  have marked : BanksKept s u := .of_same (State.but_islandBad s _ _ (by decide))
  split
  · exact marked.trans (u.mgmtReset_banksKept _)
  · exact marked.trans (.of_same (by apply State.telemetryFails_but <;> decide))
  · exact marked.trans u.nvFails_banksKept
  · exact marked.trans (.of_same (by apply State.driveFails_but <;> decide))
  · exact marked.trans (.of_same (by apply State.hostFails_but; decide))
  · exact marked.trans (.of_same (by apply State.twoWireFails_but; decide))
  · exact marked

theorem State.failOnce_banksKept (s : State) (d : Nat) : BanksKept s (s.failOnce d) :=
  .ite (fun _ => .refl s) (fun _ => s.islandFails_banksKept d)

theorem execHandshakeStall_banks (i : Island) (s : State) : KeepsBanks s (execHandshakeStall i s) := by
  unfold execHandshakeStall
  extract_lets d u
  have marked : BanksKept s u := .of_same (State.but_stalled s _ _ (by decide))
  have counted : BanksKept s (u.bump16 diagIslandFaultCount) := marked.trans (.of_same (by apply State.bump16_but; decide))
  split
  · exact .ok (.refl s)
  · split
    · split
      · exact .ok marked
      · exact .ok (marked.trans (.of_same (by apply State.clockLoss_but <;> decide)))
    · exact .ok counted
    · exact .ok (counted.trans (State.failOnce_banksKept ..))

theorem execIslandClockFault_banks (i : Island) (s : State) : KeepsBanks s (execIslandClockFault i s) := by
  have counted : ∀ u : State, BanksKept u (u.bump16 diagIslandFaultCount) := fun u => .of_same (by apply State.bump16_but; decide)
  have told : ∀ (u : State) (x : Bytes), BanksKept u (u.raise 9 0x16 255 false x) := fun u x => .of_same (by apply State.raise_but <;> decide)
  unfold execIslandClockFault
  extract_lets d src u
  split
  · exact .ok (.refl s)
  · split
    · exact .ok (.refl s)
    · exact .ok (((s.setSupply_banksKept _).trans (counted _)).trans (told ..))
  · split
    · exact .ok (.refl s)
    · have marked : BanksKept s u := .of_same ((State.but_supply { s with stalled := _ } _ _ (by decide)).trans (State.but_stalled s _ _ (by decide)))
      exact .ok (((marked.trans (counted u)).trans (State.failOnce_banksKept ..)).trans (told ..))

theorem State.maintStart_banksKept (s : State) (k : Nat) : BanksKept s (s.maintStart k) := by
  unfold State.maintStart
  extract_lets u
  have dropped : BanksKept s u := .of_same (State.but_waitMaint s _ _ (by decide))
  exact dropped.trans (.ite (fun _ => .of_same (by apply State.benchBegin_but <;> decide)) (fun _ =>
    .ite (fun _ => .of_same (by apply State.fwStart_but <;> decide)) (fun _ =>
    .ite (fun _ => u.fwActivate_banksKept) (fun _ => .of_same (by apply State.logEraseStart_but <;> decide)))))

theorem execMaintenanceWaitStart_banks (s : State) : KeepsBanks s (execMaintenanceWaitStart s) := by
  unfold execMaintenanceWaitStart
  split
  · exact .ok (.refl s)
  · exact .ok (s.maintStart_banksKept _)

theorem execActivationWaitTimeout_banks (s : State) : KeepsBanks s (execActivationWaitTimeout s) := by
  have ended : ∀ u p, BanksKept u (u.sweepEnd p 4) := fun u p => .of_same (by apply State.sweepEnd_but <;> decide)
  unfold execActivationWaitTimeout
  split
  · exact .ok (.refl s)
  · split
    · exact .ok ((BanksKept.each ended _ s).trans (State.fwActivate_banksKept _))
    · exact .ok (.refl s)

theorem execPowerUp_banks (start : Start) (hw : Hw) (s : State) : KeepsBanks s (execPowerUp start hw s) := by
  have judged : ∀ u : State, BanksKept u (u.truncated.lossTold.judgeCold start.die) := fun u => .of_same (by
    simp [Same, ↓State.judgeCold_but, ↓State.lossTold_but, ↓State.truncated_but])
  have locked : ∀ u : State, BanksKept u u.lockDebug := fun u => .of_same (by apply State.lockDebug_but <;> decide)
  unfold execPowerUp
  extract_lets u t
  have up : BanksKept s t := .of_same (by simp [t, Same, ↓State.coldSets_but, ↓State.vcoreUp_but, ↓State.sampleStraps_but])
  clear_value t
  split
  · exact .ok (.refl s)
  · split
    · refine .ok ((up.trans ?_).trans ((judged _).trans (State.commitStaged_banksKept ..)))
      exact t.stayInRom_banksKept.trans (.of_same (State.but_sec _ _ _ (by decide)))
    · exact .ok (((((up.trans (t.runBank_banksKept ..)).trans (State.deliverHeld_banksKept _)).trans (locked _)).trans
        ((judged _).trans (State.commitStaged_banksKept ..))).trans (State.loadProfile_banksKept ..))

theorem execVcoreFault_banks (s : State) : KeepsBanks s (execVcoreFault s) := by
  unfold execVcoreFault
  split
  · exact .ok s.vcoreLost_banksKept
  · exact .ok (.refl s)

theorem execVcoreStartTimeout_banks (s : State) : KeepsBanks s (execVcoreStartTimeout s) := by
  unfold execVcoreStartTimeout
  extract_lets u
  split
  · exact .ok s.vcoreLost_banksKept
  · exact .ok (.refl s)

theorem execSupplySwitchover_banks (falling : Bool) (s : State) : KeepsBanks s (execSupplySwitchover falling s) := by
  unfold execSupplySwitchover
  split
  · exact .ok (s.setSupply_banksKept _)
  · split
    · exact .ok (s.setSupply_banksKept _)
    · extract_lets u
      have down : BanksKept s u := s.vcoreDown_banksKept
      exact .ok (down.trans (u.setSupply_banksKept _))

theorem execContinuityLoss_banks (s : State) : KeepsBanks s (execContinuityLoss s) := by
  unfold execContinuityLoss
  split
  · exact .ok (.refl s)
  · exact .ok s.coldStart_banksKept

theorem execMrN_banks (lowNs : Nat) (s : State) : KeepsBanks s (execMrN lowNs s) := by
  unfold execMrN
  split
  · exact .ok (.refl s)
  · split
    · exact .ok (s.mgmtReset_banksKept 2)
    · extract_lets t
      have drawn : BanksKept s t := .of_same (State.but_draws s _ _ (by decide))
      split
      · exact .ok (drawn.trans (t.mgmtReset_banksKept 2))
      · exact .ok drawn

theorem execLockstepMismatch_banks (s : State) : KeepsBanks s (execLockstepMismatch s) := by
  unfold execLockstepMismatch
  split
  · exact .ok (.trans (.of_same (by apply State.bump16_but; decide)) (State.mgmtReset_banksKept ..))
  · exact .ok (.refl s)

theorem execWatchdog_banks (s : State) : KeepsBanks s (execWatchdog s) := by
  unfold execWatchdog
  split
  · exact .ok (s.mgmtReset_banksKept 4)
  · exact .ok (.refl s)

theorem execLpPowerCycle_banks (s : State) : KeepsBanks s (execLpPowerCycle s) := by
  unfold execLpPowerCycle
  split
  · exact .ok (.refl s)
  · split
    · exact .ok s.powerCycle_banksKept
    · exact .ok (.refl s)

/-- The commands that a due swap comes with (R14, R16, R19; log 24). -/
def comesWithSwap : Instr → Bool
  | .swap | .dapRequest .. | .registerWrite .. | .windowExit .. | .windowEnter .. | .settleTimeExpire .. | .deadlineExpire .. | .actionArm ..
  | .actionIssue .. | .thermalSample .. => true
  | _ => false

/-- No other command brings a configuration. -/
theorem exec_keepsBanks (c : Instr) (s : State) (hc : comesWithSwap c = false) : KeepsBanks s (exec c s) := by
  cases c with
  | commit => exact execCommit_banks _ _ _
  | commitDiscard => exact execCommitDiscard_banks _ _
  | partitionCommit => exact execPartitionCommit_banks _ _ _ _
  | partitionCommitDiscard => exact execPartitionCommitDiscard_banks _ _ _
  | commitQueueStart => exact execCommitQueueStart_banks _ _
  | swap => cases hc
  | commitAbandon part => exact execCommitAbandon_banks part _ _
  | framePulse => apply KeepsBanks.of_same; apply execFramePulse_but <;> decide
  | referenceFail => apply KeepsBanks.of_same; apply execReferenceFail_but <;> decide
  | timeFreeClear => apply KeepsBanks.of_same; apply execTimeFreeClear_but <;> decide
  | handshakeStall => exact execHandshakeStall_banks _ _
  | islandClockFault => exact execIslandClockFault_banks _ _
  | islandReady => apply KeepsBanks.of_same; apply execIslandReady_but <;> decide
  | mgmtResume => exact execMgmtResume_banks _
  | windowExit => cases hc
  | windowEnter => cases hc
  | settleTimeExpire => cases hc
  | deadlineExpire => cases hc
  | clear => apply KeepsBanks.of_same; apply execClear_but <;> decide
  | sliceResult => apply KeepsBanks.of_same; apply execSliceResult_but <;> decide
  | epochEnd => apply KeepsBanks.of_same; apply execEpochEnd_but <;> decide
  | spareCalibrationDone => apply KeepsBanks.of_same; apply execSpareCalibrationDone_but <;> decide
  | sliceHwFault => apply KeepsBanks.of_same; apply execSliceHwFault_but <;> decide
  | openWireTest => apply KeepsBanks.of_same; apply execOpenWireTest_but <;> decide
  | openWireResult => apply KeepsBanks.of_same; apply execOpenWireResult_but <;> decide
  | lockFallback => apply KeepsBanks.of_same; apply execLockFallback_but <;> decide
  | lockResume => apply KeepsBanks.of_same; apply execLockResume_but; decide
  | syncoutRestart => apply KeepsBanks.of_same; apply execSyncoutRestart_but; decide
  | dischargeEnd => apply KeepsBanks.of_same; apply execDischargeEnd_but <;> decide
  | trFltReceive => apply KeepsBanks.of_same; apply execTrFltReceive_but <;> decide
  | fltPulseEnd => apply KeepsBanks.of_same; apply execFltPulseEnd_but; decide
  | fltStuck => apply KeepsBanks.of_same; apply execFltStuck_but <;> decide
  | fltStuckClear => apply KeepsBanks.of_same; apply execFltStuckClear_but <;> decide
  | clusterClockLoss => apply KeepsBanks.of_same; apply execClusterClockLoss_but <;> decide
  | clusterClockBack => apply KeepsBanks.of_same; apply execClusterClockBack_but <;> decide
  | retryDue => apply KeepsBanks.of_same; apply execRetryDue_but <;> decide
  | restart => apply KeepsBanks.of_same; apply execRestart_but <;> decide
  | forceOff => apply KeepsBanks.of_same; apply execForceOff_but <;> decide
  | safeNRelease => apply KeepsBanks.of_same; apply execSafeNRelease_but; decide
  | barrierAdvance => apply KeepsBanks.of_same; apply execBarrierAdvance_but <;> decide
  | guardEnd => apply KeepsBanks.of_same; apply execGuardEnd_but; decide
  | goal => apply KeepsBanks.of_same; apply execGoal_but <;> decide
  | start => apply KeepsBanks.of_same; apply execStart_but <;> decide
  | stop => apply KeepsBanks.of_same; apply execStop_but <;> decide
  | startPendingRelease => apply KeepsBanks.of_same; apply execStartPendingRelease_but <;> decide
  | actionArm => cases hc
  | actionIssue => cases hc
  | actionComplete => apply KeepsBanks.of_same; apply execActionComplete_but <;> decide
  | actionTimeout => apply KeepsBanks.of_same; apply execActionTimeout_but <;> decide
  | armCapture => apply KeepsBanks.of_same; apply execArmCapture_but <;> decide
  | captureOccurrence => apply KeepsBanks.of_same; apply execCaptureOccurrence_but; decide
  | captureLimit => apply KeepsBanks.of_same; apply execCaptureLimit_but; decide
  | groupReset => apply KeepsBanks.of_same; apply execGroupReset_but <;> decide
  | discoveryBegin => apply KeepsBanks.of_same; apply execDiscoveryBegin_but; decide
  | announceSend => apply KeepsBanks.of_same; apply execAnnounceSend_but <;> decide
  | announce => apply KeepsBanks.of_same; apply execAnnounce_but <;> decide
  | discoveryClose => apply KeepsBanks.of_same; apply execDiscoveryClose_but <;> decide
  | presenceSend => apply KeepsBanks.of_same; apply execPresenceSend_but <;> decide
  | presence => apply KeepsBanks.of_same; apply execPresence_but <;> decide
  | stateSend => apply KeepsBanks.of_same; apply execStateSend_but <;> decide
  | state => apply KeepsBanks.of_same; apply execState_but <;> decide
  | stateCheckTimeout => apply KeepsBanks.of_same; apply execStateCheckTimeout_but <;> decide
  | tsyncPulse => apply KeepsBanks.of_same; apply execTsyncPulse_but <;> decide
  | tsyncEdge => apply KeepsBanks.of_same; apply execTsyncEdge_but; decide
  | sync => apply KeepsBanks.of_same; apply execSync_but <;> decide
  | ack => apply KeepsBanks.of_same; apply execAck_but <;> decide
  | tsyncLost => apply KeepsBanks.of_same; apply execTsyncLost_but <;> decide
  | releaseSend => apply KeepsBanks.of_same; apply execReleaseSend_but <;> decide
  | release => apply KeepsBanks.of_same; apply execRelease_but <;> decide
  | releaseResend => apply KeepsBanks.of_same; apply execReleaseResend_but <;> decide
  | startupHoldLift => apply KeepsBanks.of_same; apply execStartupHoldLift_but <;> decide
  | peerLost => apply KeepsBanks.of_same; apply execPeerLost_but <;> decide
  | subIntervalEnd => apply KeepsBanks.of_same; apply execSubIntervalEnd_but <;> decide
  | reliefEvaluate => apply KeepsBanks.of_same; apply execReliefEvaluate_but <;> decide
  | tableSelect => apply KeepsBanks.of_same; apply execTableSelect_but <;> decide
  | scheduleMatch => apply KeepsBanks.of_same; apply execScheduleMatch_but <;> decide
  | demandIntervalEnd => apply KeepsBanks.of_same; apply execDemandIntervalEnd_but <;> decide
  | ledgerRecordWrite => exact execLedgerRecordWrite_banks _
  | dapRequest => cases hc
  | registerWrite => cases hc
  | eventNext => apply KeepsBanks.of_same; apply execEventNext_but <;> decide
  | eventRaise => apply KeepsBanks.of_same; apply execEventRaise_but <;> decide
  | eventSubscribe => apply KeepsBanks.of_same; apply execEventSubscribe_but <;> decide
  | eventFrameSend => apply KeepsBanks.of_same; apply execEventFrameSend_but <;> decide
  | canFrameReceive => apply KeepsBanks.of_same; apply execCanFrameReceive_but <;> decide
  | t1sFrameReceive => apply KeepsBanks.of_same; apply execT1sFrameReceive_but <;> decide
  | segTimeout => apply KeepsBanks.of_same; apply execSegTimeout_but <;> decide
  | sessionIdle => apply KeepsBanks.of_same; apply execSessionIdle_but; decide
  | linkDown => apply KeepsBanks.of_same; apply execLinkDown_but <;> decide
  | linkUp => apply KeepsBanks.of_same; apply execLinkUp_but <;> decide
  | busoffRecovery => apply KeepsBanks.of_same; apply execBusoffRecovery_but <;> decide
  | hostTimeout => apply KeepsBanks.of_same; apply execHostTimeout_but <;> decide
  | tc10SleepRequest => apply KeepsBanks.of_same; apply execTc10SleepRequest_but <;> decide
  | tc10WakeUp => apply KeepsBanks.of_same; apply execTc10WakeUp_but <;> decide
  | telemFrameSend => apply KeepsBanks.of_same; apply execTelemFrameSend_but <;> decide
  | spiFrameStart => apply KeepsBanks.of_same; apply execSpiFrameStart_but; decide
  | spiFrameEnd => apply KeepsBanks.of_same; apply execSpiFrameEnd_but <;> decide
  | nop => exact .ok (.refl s)
  | dap => apply KeepsBanks.of_same; apply execDap_but <;> decide
  | sleepLink => apply KeepsBanks.of_same; apply execSleepLink_but; decide
  | hostResume => apply KeepsBanks.of_same; apply execHostResume_but <;> decide
  | deviceWake => apply KeepsBanks.of_same; apply execDeviceWake_but; decide
  | telemIrqAgeExpire => apply KeepsBanks.of_same; apply execTelemIrqAgeExpire_but; decide
  | pmbusTrimPeriod => apply KeepsBanks.of_same; apply execPmbusTrimPeriod_but; decide
  | marginApply => apply KeepsBanks.of_same; apply execMarginApply_but <;> decide
  | marginRemove => apply KeepsBanks.of_same; apply execMarginRemove_but <;> decide
  | benchStart => apply KeepsBanks.of_same; apply execBenchStart_but <;> decide
  | benchAbort => apply KeepsBanks.of_same; apply execBenchAbort_but <;> decide
  | benchSettled => apply KeepsBanks.of_same; apply execBenchSettled_but; decide
  | benchSettleTimeout => apply KeepsBanks.of_same; apply execBenchSettleTimeout_but; decide
  | benchDwellEnd => apply KeepsBanks.of_same; apply execBenchDwellEnd_but; decide
  | verdictPass => apply KeepsBanks.of_same; apply execVerdictPass_but <;> decide
  | verdictFail => apply KeepsBanks.of_same; apply execVerdictFail_but <;> decide
  | verdictTimeout => apply KeepsBanks.of_same; apply execVerdictTimeout_but; decide
  | maintenanceWaitStart => exact execMaintenanceWaitStart_banks _
  | activationWaitTimeout => exact execActivationWaitTimeout_banks _
  | latchEntryArrive => apply KeepsBanks.of_same; apply execLatchEntryArrive_but <;> decide
  | mergeWindowEnd => apply KeepsBanks.of_same; apply execMergeWindowEnd_but <;> decide
  | drawerCommit => apply KeepsBanks.of_same; apply execDrawerCommit_but <;> decide
  | drawerReadback => exact execDrawerReadback_banks _ _
  | eraseOldest => apply KeepsBanks.of_same; apply execEraseOldest_but <;> decide
  | eraseAll => apply KeepsBanks.of_same; apply execEraseAll_but <;> decide
  | verifyAll => apply KeepsBanks.of_same; apply execVerifyAll_but <;> decide
  | drawerRead => apply KeepsBanks.of_same; apply execDrawerRead_but <;> decide
  | thermalSample => cases hc
  | driveWaitExpire => apply KeepsBanks.of_same; apply execDriveWaitExpire_but; decide
  | chatterClear => apply KeepsBanks.of_same; apply execChatterClear_but; decide
  | neighbourPoll => apply KeepsBanks.of_same; apply execNeighbourPoll_but <;> decide
  | noSample => apply KeepsBanks.of_same; apply execNoSample_but <;> decide
  | vauxValid => apply KeepsBanks.of_same; apply execVauxValid_but <;> decide
  | powerUp => exact execPowerUp_banks _ _ _
  | vcoreStartTimeout => exact execVcoreStartTimeout_banks _
  | vcoreFault => exact execVcoreFault_banks _
  | vcoreRecovery => apply KeepsBanks.of_same; apply execVcoreRecovery_but <;> decide
  | powerLossWarning => apply KeepsBanks.of_same; apply execPowerLossWarning_but <;> decide
  | warningWithdrawn => apply KeepsBanks.of_same; apply execWarningWithdrawn_but <;> decide
  | supplySwitchover => exact execSupplySwitchover_banks _ _
  | continuityLoss => exact execContinuityLoss_banks _
  | bkupLow => apply KeepsBanks.of_same; apply execBkupLow_but <;> decide
  | retainedCopy => apply KeepsBanks.of_same; apply execRetainedCopy_but <;> decide
  | mrN => exact execMrN_banks _ _
  | lockstepMismatch => exact execLockstepMismatch_banks _
  | watchdog => exact execWatchdog_banks _
  | resetRequestMgmt => exact execResetRequestMgmt_banks _ _
  | resetRequestPower => exact execResetRequestPower_banks _ _
  | pbRelease => apply KeepsBanks.of_same; apply execPbRelease_but <;> decide
  | longPress => apply KeepsBanks.of_same; apply execLongPress_but <;> decide
  | lpPowerCycle => exact execLpPowerCycle_banks _
  | rtcAlarm => apply KeepsBanks.of_same; apply execRtcAlarm_but <;> decide
  | canWake => apply KeepsBanks.of_same; apply execCanWake_but <;> decide
  | sleep => exact execSleep_banks _ _ _
  | rtc => apply KeepsBanks.of_same; apply execRtc_but <;> decide
  | bootRetry => exact execBootRetry_banks _ _
  | ownerInit => apply KeepsBanks.of_same; apply execOwnerInit_but <;> decide
  | keyLoad => apply KeepsBanks.of_same; apply execKeyLoad_but <;> decide
  | debugChallenge => apply KeepsBanks.of_same; apply execDebugChallenge_but <;> decide
  | debugResponse => apply KeepsBanks.of_same; apply execDebugResponse_but <;> decide
  | debugLock => apply KeepsBanks.of_same; apply execDebugLock_but <;> decide
  | attestRequest => apply KeepsBanks.of_same; apply execAttestRequest_but <;> decide
  | rollbackAdvance => apply KeepsBanks.of_same; apply execRollbackAdvance_but; decide
  | debugPortRequest => apply KeepsBanks.of_same; apply execDebugPortRequest_but <;> decide
  | shelfErase => apply KeepsBanks.of_same; apply execShelfErase_but <;> decide
  | shelfData => apply KeepsBanks.of_same; apply execShelfData_but <;> decide
  | shelfSeal => apply KeepsBanks.of_same; apply execShelfSeal_but <;> decide
  | switch => exact execSwitch_banks _ _ _ _
  | pselChange => exact execPselChange_banks _ _ _
  | psTurn => apply KeepsBanks.of_same; apply execPsTurn_but <;> decide
  | psTransactionEnd => apply KeepsBanks.of_same; apply execPsTransactionEnd_but <;> decide
  | psStretchTimeout => apply KeepsBanks.of_same; apply execPsStretchTimeout_but <;> decide
  | sclReleased => apply KeepsBanks.of_same; apply execSclReleased_but; decide
  | lineStuck => apply KeepsBanks.of_same; apply execLineStuck_but <;> decide
  | lineStuckClear => apply KeepsBanks.of_same; apply execLineStuckClear_but <;> decide
  | psBusError => apply KeepsBanks.of_same; apply execPsBusError_but <;> decide
  | attentionRequest => apply KeepsBanks.of_same; apply execAttentionRequest_but <;> decide
  | svcWrite => apply KeepsBanks.of_same; apply execSvcWrite_but <;> decide
  | svcRead => apply KeepsBanks.of_same; apply execSvcRead_but <;> decide
  | submitDap => apply KeepsBanks.of_same; apply execSubmitDap_but <;> decide
  | submitService => apply KeepsBanks.of_same; apply execSubmitService_but <;> decide
  | windowClear => apply KeepsBanks.of_same; apply execWindowClear_but <;> decide
  | dropHead => apply KeepsBanks.of_same; apply execDropHead_but <;> decide
  | svcAttention => apply KeepsBanks.of_same; apply execSvcAttention_but <;> decide
  | peerReadRequest => apply KeepsBanks.of_same; apply execPeerReadRequest_but <;> decide
  | peerReadResult => apply KeepsBanks.of_same; apply execPeerReadResult_but <;> decide
  | peerArbitrationLoss => apply KeepsBanks.of_same; apply execPeerArbitrationLoss_but <;> decide
  | eraseRedo => exact execEraseRedo_banks _
  | nvProgram => exact execNvProgram_banks _
  | nvErase => apply KeepsBanks.of_same; apply execNvErase_but <;> decide
  | eraseSuspend => apply KeepsBanks.of_same; apply execEraseSuspend_but <;> decide
  | eraseResume => apply KeepsBanks.of_same; apply execEraseResume_but; decide
  | eraseDone => exact execEraseDone_banks _ _
  | nvInterrupt => exact execNvInterrupt_banks _ _
  | scrubRead => apply KeepsBanks.of_same; apply execScrubRead_but <;> decide
  | memRead => apply KeepsBanks.of_same; apply execMemRead_but <;> decide
  | memWrite => apply KeepsBanks.of_same; apply execMemWrite_but <;> decide
  | memErase => apply KeepsBanks.of_same; apply execMemErase_but <;> decide
  | memAddr => apply KeepsBanks.of_same; apply execMemAddr_but <;> decide
  | fwErase => apply KeepsBanks.of_same; apply execFwErase_but <;> decide
  | fwData => apply KeepsBanks.of_same; apply execFwData_but <;> decide
  | fwSeal => apply KeepsBanks.of_same; apply execFwSeal_but <;> decide
  | fwActivate => exact execFwActivate_banks _ _
  | fwAbandon => apply KeepsBanks.of_same; apply execFwAbandon_but <;> decide
  | carrierPeriod => apply KeepsBanks.of_same; apply execCarrierPeriod_but <;> decide
  | positionRead => apply KeepsBanks.of_same; apply execPositionRead_but <;> decide
  | standstill => apply KeepsBanks.of_same; apply execStandstill_but <;> decide
  | driveOvercurrent => apply KeepsBanks.of_same; apply execDriveOvercurrent_but <;> decide
  | driveStall => apply KeepsBanks.of_same; apply execDriveStall_but <;> decide
  | run => apply KeepsBanks.of_same; apply execRun_but <;> decide
  | clearFault => apply KeepsBanks.of_same; apply execClearFault_but <;> decide
  | vioBankLoss => apply KeepsBanks.of_same; apply execVioBankLoss_but <;> decide
  | vioBankReturn => apply KeepsBanks.of_same; apply execVioBankReturn_but <;> decide
  | stale => apply KeepsBanks.of_same; apply execStale_but; decide

end Sys2Proof.Machine

namespace Sys2Proof.Machine

/-! ### The swap takes the shadow banks (R16) -/

/-- What a swap may change beside the banks, the commit mark and the armed commit (R18 to R20). -/
def Fld.swapped : List Fld :=
  [.asms, .chans, .clusters, .downs, .drives, .ens, .entries, .events, .host, .inbox, .ledger, .parts, .regs, .sessions, .sets, .streams,
   .supply, .switchSt, .t1sSleep, .thermal, .trestle, .trims, .waits]

/-- The swap is what goes before it, the change of the banks, and what follows in the units. -/
theorem State.swap_takes (s : State) (a : Armed) : ∃ u, Same Fld.swapped s u ∧ Same Fld.swapped u.takeShadow (s.swap a) := by
  unfold State.swap
  extract_lets h old first diff syncs src period wins w t taken counted units ends
  have before : Same Fld.swapped s t := by simp [Same, Fld.swapped, t, w, h, ↓State.settleTokens_but, ↓State.warnKinds_but, ↓State.hostNote_but]
  have after : Same Fld.swapped taken (if first then (ends.scheduleUp.intervalStart true).powerUpDone else ends) := by
    have ended : Same Fld.swapped taken ends := by
      simp [Same, Fld.swapped, ends, units, counted, ↓State.swapEnds_but, ↓State.swapUnits_but, ↓State.swapRounds_but, ↓State.setReg_but]
    refine ended.trans ?_
    split
    · simp [Same, Fld.swapped, ↓State.powerUpDone_but, ↓State.intervalStart_but, ↓State.scheduleUp_but]
    · exact .refl _ _
  have change : ∃ u, Same Fld.swapped t u ∧ Same Fld.swapped u.takeShadow taken := by
    simp only [taken, State.intervalBreak]
    split
    · split
      · exact ⟨t, .refl _ _, .refl _ _⟩
      · exact ⟨t.subEnd.intervalClose 4, by simp [Same, Fld.swapped, ↓State.intervalClose_but, ↓State.subEnd_but],
          by simp [Same, Fld.swapped, ↓State.intervalStart_but]⟩
    · exact ⟨t, .refl _ _, .refl _ _⟩
  obtain ⟨u, hu, hu'⟩ := change
  exact ⟨u, before.trans hu, hu'.trans after⟩

/-- The banks after a swap (R16): the shadow bank is the active one, and the bank before it the prior one. -/
theorem State.swap_banks (s : State) (a : Armed) : (s.swap a).active = s.shadow ∧ (s.swap a).prior = s.active ∧ (s.swap a).shadow = s.shadow ∧
    (s.swap a).committed = true ∧ (s.swap a).armed = none ∧ (s.swap a).flash = s.flash ∧ (s.swap a).latches = s.latches := by
  obtain ⟨u, before, after⟩ := s.swap_takes a
  exact ⟨(after.active (by decide)).trans (before.shadow (by decide)), (after.prior (by decide)).trans (before.active (by decide)),
    (after.shadow (by decide)).trans (before.shadow (by decide)), after.committed (by decide), after.armed (by decide),
    (after.flash (by decide)).trans (before.flash (by decide)), (after.latches (by decide)).trans (before.latches (by decide))⟩

/-! ### Commands that a due swap comes with -/

/-- A due swap may come first, and no configuration is brought after it. -/
def BanksSwapped (s t : State) : Prop :=
  (BanksKept s t ∨ ((∃ a, s.armed = some a ∧ s.swapDue a = true) ∧ (t.active = s.shadow ∨ t.active = []))) ∧ (s.formsOk → t.formsOk)

theorem BanksSwapped.of_kept {s t : State} (h : BanksKept s t) : BanksSwapped s t := ⟨.inl h, h.2⟩

theorem BanksSwapped.trans_kept {s t u : State} (h : BanksSwapped s t) (h' : BanksKept t u) : BanksSwapped s u := by
  refine ⟨?_, h'.2 ∘ h.2⟩
  rcases h.1 with kept | ⟨due, taken⟩
  · exact .inl (kept.trans h')
  · rcases h'.1 with ⟨ha, -⟩ | ⟨gone, -⟩
    · exact .inr ⟨due, ha ▸ taken⟩
    · exact .inr ⟨due, .inr gone⟩

theorem State.swap_banksSwapped {s : State} {a : Armed} (h : s.armed = some a) (due : s.swapDue a = true) : BanksSwapped s (s.swap a) := by
  obtain ⟨active, -, shadow, -, -, flash, -⟩ := s.swap_banks a
  refine ⟨.inr ⟨⟨a, h, due⟩, .inl active⟩, fun ok => ?_⟩
  unfold State.formsOk
  rw [active, shadow, flash]
  exact ⟨ok.1, ok.2.2, ok.2.2⟩

theorem State.swapIfDue_banksSwapped (s : State) : BanksSwapped s s.swapIfDue := by
  unfold State.swapIfDue
  split
  · exact .of_kept (.refl s)
  · split
    · exact s.swap_banksSwapped ‹_› ‹_›
    · exact .of_kept (.refl s)

/-- What a cluster does under the bank that governs it leaves the active one as it is (R16). -/
theorem State.inBank_banksKept (s : State) (n : Nat) {f : State → State} (hf : ∀ u, Same Fld.notBanks u (f u)) : BanksKept s (s.inBank n f) := by
  have driven : ∀ u d, BanksKept u (u.driveSync d) := fun u d => .of_same (by apply State.driveSync_but <;> decide)
  have run := hf { s with active := s.prior }
  unfold State.inBank
  refine .ite (fun _ => .trans ?_ (.each driven _ _)) (fun _ => .of_same (hf s))
  exact .of_fields rfl (run.committed (by decide)) (fun ok => (congrArg _ (run.shadow (by decide))).trans ok.2.2)
    (fun ok => (congrArg _ (run.flash (by decide))).trans ok)

/-- A request that arrives moves neither the banks nor what a due swap is told by. -/
theorem BanksSwapped.of_arrived {s u t : State} (h : Same [.inbox, .regs, .svc] s u) (h' : BanksSwapped u t) : BanksSwapped s t := by
  have armed := h.armed (by decide)
  have shadow := h.shadow (by decide)
  have due : ∀ a, u.swapDue a = s.swapDue a := fun a => by
    unfold State.swapDue State.ctr State.cluster
    rw [h.now (by decide), h.clusters (by decide)]
  have arrived : BanksKept s u := .of_fields (h.active (by decide)) (h.committed (by decide)) (fun ok => shadow ▸ ok.2.2)
    (fun ok => h.flash (by decide) ▸ ok)
  refine ⟨?_, h'.2 ∘ arrived.2⟩
  rcases h'.1 with kept | ⟨⟨a, ha, hd⟩, taken⟩
  · exact .inl (arrived.trans kept)
  · exact .inr ⟨⟨a, armed ▸ ha, due a ▸ hd⟩, shadow ▸ taken⟩

theorem execDapRequest_swapped (x : Option Arrival) (hw : Hw) (s : State) : ∀ t, execDapRequest x hw s = .next t → BanksSwapped s t := by
  have served : ∀ u : State, BanksSwapped u (((u.swapIfDue.deliver hw).serveNext hw).deliver hw) := fun u =>
    u.swapIfDue_banksSwapped.trans_kept (((State.deliver_banksKept ..).trans (State.serveNext_banksKept ..)).trans (State.deliver_banksKept ..))
  intro t h
  unfold execDapRequest at h
  split at h <;> obtain rfl := Host.Outcome.next.inj h
  · exact .of_kept (.refl s)
  · refine .of_arrived ?_ (served _)
    split
    · exact .refl _ _
    · apply State.arrive_but <;> decide

theorem execRegisterWrite_swapped (r : Role) (idx : BitVec 16) (sub : Byte) (val : Bytes) (s : State) :
    ∀ t, execRegisterWrite r idx sub val s = .next t → BanksSwapped s t := by
  intro t h
  unfold execRegisterWrite at h
  split at h
  · obtain rfl := Host.Outcome.next.inj h
    exact .of_kept (.refl s)
  · split at h <;> obtain rfl := Host.Outcome.next.inj h
    · exact .of_kept ((s.answer_banksKept _).trans (State.countItem_banksKept ..))
    · exact s.swapIfDue_banksSwapped.trans_kept ((State.oneItem_banksKept ..).trans (State.deliver_banksKept ..))

theorem execSwap_swapped (s : State) : ∀ t, execSwap s = .next t → BanksSwapped s t := by
  intro t h
  unfold execSwap at h
  split at h
  · obtain rfl := Host.Outcome.next.inj h
    exact .of_kept (s.deliver_banksKept noHw)
  · split at h <;> obtain rfl := Host.Outcome.next.inj h
    · exact (s.swap_banksSwapped ‹_› ‹_›).trans_kept (State.deliver_banksKept ..)
    · exact .of_kept (.refl s)

/-- What comes at T or later comes after the swap (R19), in the bank of its cluster. -/
theorem swapIfDue_inBank_swapped {s t : State} {n : Nat} {f : State → State} (hf : ∀ u, Same Fld.notBanks u (f u))
    (h : ok (s.swapIfDue.inBank n f) = .next t) : BanksSwapped s t := by
  obtain rfl := Host.Outcome.next.inj h
  exact s.swapIfDue_banksSwapped.trans_kept (State.inBank_banksKept _ n hf)

/-- The commands that a due swap comes with make it first or not at all. -/
theorem exec_banksSwapped (c : Instr) (s t : State) (hc : comesWithSwap c = true) (h : exec c s = .next t) : BanksSwapped s t := by
  cases c with
  | swap => exact execSwap_swapped s t h
  | dapRequest x hw => exact execDapRequest_swapped x hw s t h
  | registerWrite r idx sub val => exact execRegisterWrite_swapped r idx sub val s t h
  | windowExit k x =>
    refine swapIfDue_inBank_swapped (fun u => ?_) h
    split
    · exact .refl _ _
    · apply State.exitAt_but <;> decide
  | windowEnter x =>
    refine swapIfDue_inBank_swapped (fun u => ?_) h
    split
    · exact .refl _ _
    · apply State.enterAt_but <;> decide
  | settleTimeExpire k => exact swapIfDue_inBank_swapped (fun u => by apply State.settleBy_but <;> decide) h
  | deadlineExpire k =>
    exact swapIfDue_inBank_swapped (fun u => by simp [Same, ↓State.deadlineBy_but, ↓State.settleBy_but]) h
  | actionArm e => exact swapIfDue_inBank_swapped (fun u => by apply State.armAction_but <;> decide) h
  | actionIssue e => exact swapIfDue_inBank_swapped (fun u => by apply State.issueAction_but <;> decide) h
  | thermalSample x =>
    change execThermalSample x s = .next t at h
    unfold execThermalSample at h
    extract_lets due at h
    split at h
    · refine swapIfDue_inBank_swapped (fun u => ?_) h
      simp [Same, ↓State.sample_but, ↓State.diodeTaken_but]
    · obtain rfl := Host.Outcome.next.inj h
      exact .of_kept (.refl s)
  | _ => cases hc

/-- Every command brings no configuration, but a due swap may come first at those of R14, R16 and R19. -/
theorem exec_banks (c : Instr) (s t : State) (h : exec c s = .next t) :
    BanksKept s t ∨ (comesWithSwap c = true ∧ BanksSwapped s t) := by
  cases hc : comesWithSwap c with
  | false => exact .inl (exec_keepsBanks c s hc t h)
  | true => exact .inr ⟨rfl, exec_banksSwapped c s t hc h⟩

theorem swapComes_of_due {c : Instr} {s : State} (hc : comesWithSwap c = true) (due : ∃ a, s.armed = some a ∧ s.swapDue a = true) :
    SwapComes c s := by
  obtain ⟨a, ha, hd⟩ := due
  refine ⟨a, ha, hd, ?_⟩
  cases c with
  | swap | dapRequest | registerWrite | windowExit | windowEnter | settleTimeExpire | deadlineExpire | actionArm | actionIssue
  | thermalSample => simp
  | _ => cases hc

/-- Settles O59: the frames keep the banks at every command but those that a due swap comes with, and these make it first. -/
theorem onlyTheSwapBringsAConfiguration : Obligations.OnlyTheSwapBringsAConfiguration := by
  unfold Obligations.OnlyTheSwapBringsAConfiguration
  have kept : ∀ (c : Instr) (s t : State), BanksKept s t → (t.active = s.active ∨ t.active = [] ∨ (SwapComes c s ∧ t.active = s.shadow)) ∧
      (t.committed = true → s.committed = true ∨ SwapComes c s) := by
    rintro c s t ⟨⟨ha, hc⟩ | ⟨ha, hc⟩, -⟩
    · exact ⟨.inl ha, fun h => .inl (hc ▸ h)⟩
    · exact ⟨.inr (.inl ha), fun h => by simp [hc] at h⟩
  intro c s t h
  rcases exec_banks c s t h with hk | ⟨hc, hk | ⟨due, taken⟩, -⟩
  · exact kept c s t hk
  · exact kept c s t hk
  · have comes := swapComes_of_due hc due
    exact ⟨.inr (taken.symm.imp_right (fun ha => ⟨comes, ha⟩)), fun _ => .inr comes⟩

theorem exec_formsOk {c : Instr} {s t : State} (ok : s.formsOk) (h : exec c s = .next t) : t.formsOk := by
  rcases exec_banks c s t h with hk | ⟨-, hk⟩
  · exact hk.2 ok
  · exact hk.2 ok

/-- The turns of a tick keep the forms, the swap that is due at its end among them. -/
theorem State.tick_formsOk {s : State} (ok : s.formsOk) : s.tick.formsOk := by
  have bench : BanksKept s s.benchTurn := .of_same (by apply State.benchTurn_but <;> decide)
  have passes : ∀ u : State, BanksKept u u.timePasses := fun u => .of_same (by apply State.timePasses_but <;> decide)
  have peer : ∀ u : State, BanksSwapped u u.peerTurn := fun u => by
    unfold State.peerTurn
    split
    · split
      · exact u.swapIfDue_banksSwapped.trans_kept (State.peerRun_banksKept ..)
      · exact .of_kept (.refl u)
    · exact .of_kept (.refl u)
  have judged := (State.pinsTurn_banksKept _).2 (bench.2 ok)
  exact (State.batchTurn_banksKept _).2 ((State.swapIfDue_banksSwapped _).2 ((passes _).2 ((peer _).2 judged)))

/-- Settles O57: every command and the turns of an empty queue keep the forms. -/
theorem everyStepKeepsTheForms : Obligations.EveryStepKeepsTheForms := by
  unfold Obligations.EveryStepKeepsTheForms
  intro s t ok h
  cases hq : s.pending with
  | nil =>
    rw [step_of_pending_nil hq] at h
    obtain rfl := Host.Outcome.next.inj h
    exact State.tick_formsOk ok
  | cons c rest =>
    rw [step_of_pending_cons hq] at h
    exact exec_formsOk (s := { s with pending := rest }) ok h

/-- Settles O58: the reset state's tables are empty. -/
theorem resetHasTheForms : Obligations.ResetHasTheForms := ⟨rfl, tabOk_nil dflt, tabOk_nil dflt⟩

end Sys2Proof.Machine

namespace Sys2Proof.Machine

/-! ### Frames of different lists -/

/-- Blanking out some parts does not show under a list that holds them. -/
theorem State.but_but {l m : List Fld} (h : ∀ f ∈ l, f ∈ m) (s : State) : (s.but l).but m = s.but m := by
  have hidden : ∀ {α : Type} (f : Fld) (d x : α), (if f ∈ m then d else if f ∈ l then d else x) = if f ∈ m then d else x := by
    intro α f d x
    split
    · rfl
    · exact if_neg (fun hl => ‹f ∉ m› (h f hl))
  have same : (s.but l).sessions = s.sessions ∨ (s.but l).sessions = onSessions s.sessions Session.noEvents ∧ Fld.events ∈ m ∨ Fld.sessions ∈ m := by
    unfold State.but
    dsimp only
    split
    · exact .inr (.inr (h _ ‹_›))
    · split
      · exact .inr (.inl ⟨rfl, h _ ‹_›⟩)
      · exact .inl rfl
  have blank : ((s.but l).but m).sessions = (s.but m).sessions := by
    change (if Fld.sessions ∈ m then [] else if Fld.events ∈ m then onSessions (s.but l).sessions Session.noEvents else (s.but l).sessions) =
      if Fld.sessions ∈ m then [] else if Fld.events ∈ m then onSessions s.sessions Session.noEvents else s.sessions
    rcases same with e | ⟨e, he⟩ | hm
    · rw [e]
    · rw [e, if_pos he, if_pos he, onSessions_noEvents _ Session.noEvents (fun _ => rfl)]
    · rw [if_pos hm, if_pos hm]
  unfold State.but at blank ⊢
  congr 1
  all_goals exact hidden _ _ _

/-- A frame holds with more parts left out. -/
theorem Same.mono {l m : List Fld} {s t : State} (h : Same l s t) (hm : ∀ f ∈ l, f ∈ m) : Same m s t := by
  have blanked := congrArg (State.but · m) h
  simp only [State.but_but hm] at blanked
  exact blanked

/-! ### The event ring and the queues of the islands (R24, R31, R330) -/

/-- The record that an event of an island makes. -/
def State.recordOf (s : State) (d c p : Nat) (cl : Bool) (x : Bytes) : EventRec :=
  { code := c, source := d, part := p, clear := cl, param := x, stamp := s.islandTime d }

/-- An event that reaches the ring enters it. -/
theorem State.raise_of_enters {s : State} {d : Nat} (h : s.enters d) (c p : Nat) (cl : Bool) (x : Bytes) :
    s.raise d c p cl x = s.ringEnter (s.recordOf d c p cl x) := by
  have reaches : (!s.mgmtDown && (d == 10 || !s.stalled.contains d)) = true := by
    simpa [State.enters] using h
  unfold State.raise
  rw [if_pos reaches]
  rfl

theorem State.not_reaches {s : State} {d : Nat} (h : ¬ s.enters d) : ¬ (!s.mgmtDown && (d == 10 || !s.stalled.contains d)) = true := by
  simpa [State.enters] using h

/-- With a place in its island's queue an event waits there. -/
theorem State.raise_of_queue {s : State} {d : Nat} (h : ¬ s.enters d) (hd : d ≠ 10) (room : (tabGet (fun _ => []) s.evQueues d).length < 64)
    (c p : Nat) (cl : Bool) (x : Bytes) : s.raise d c p cl x =
      { s with evQueues := tabSet (fun _ => []) s.evQueues d
                 (tabGet (fun _ => []) s.evQueues d ++ [{ s.recordOf d c p cl x with queued := true }]) } := by
  unfold State.raise
  rw [if_neg (State.not_reaches h), if_neg (by simpa using hd)]
  exact if_pos room

/-- With the queue of its island full an event is counted as lost. -/
theorem State.raise_of_full {s : State} {d : Nat} (h : ¬ s.enters d) (hd : d ≠ 10) (full : 64 ≤ (tabGet (fun _ => []) s.evQueues d).length)
    (c p : Nat) (cl : Bool) (x : Bytes) : s.raise d c p cl x = { s with evQueueGap := s.evQueueGap.insert d }.bump32 evEventsLost := by
  unfold State.raise
  rw [if_neg (State.not_reaches h), if_neg (by simpa using hd)]
  exact if_neg (by omega)

/-- An event of the management plane itself has no effect while it is down. -/
theorem State.raise_of_down {s : State} (h : s.mgmtDown = true) (c p : Nat) (cl : Bool) (x : Bytes) : s.raise 10 c p cl x = s := by
  unfold State.raise
  rw [if_neg (by simp [h])]
  exact if_pos rfl

/-- Where no unread record is overwritten nothing but the record enters. -/
theorem State.ringEnter_of_keeps {s : State} (h : s.overwritesUnread = false) (e : EventRec) : s.ringEnter e = s.ringPut e := by
  unfold State.ringEnter
  dsimp only
  rw [h, Bool.false_and]
  exact if_neg (by simp)

theorem State.overwritesUnread_of_room {s : State} (h : s.evRing.length < 2048) : s.overwritesUnread = false := by
  unfold State.overwritesUnread
  split
  · rfl
  · rename_i e l hr
    have short : ¬ 2048 ≤ s.evRing.length := by omega
    simp [short]

theorem State.ringPut_of_room {s : State} (h : s.evRing.length < 2048) (e : EventRec) :
    s.ringPut e = { s with evNext := s.evNext + 1, evRing := s.evRing ++ [{ e with eseq := s.evNext % 4294967296 }],
                           sessions := onSessions s.sessions (fun x => x.push { e with eseq := s.evNext % 4294967296 }) } := by
  unfold State.ringPut
  exact if_pos (by simp; omega)

/-- A full ring drops its oldest record. -/
theorem State.ringPut_of_full {s : State} (h : 2048 ≤ s.evRing.length) (e : EventRec) :
    (s.ringPut e).evRing = s.evRing.drop 1 ++ [{ e with eseq := s.evNext % 4294967296 }] ∧
    (s.ringPut e).reg evEventsLost = wrap32 (s.reg evEventsLost) := by
  unfold State.ringPut
  dsimp only
  rw [if_neg (by simp; omega)]
  refine ⟨?_, ?_⟩
  · rw [← List.drop_append_of_le_length (by omega)]
    rfl
  · rw [State.bump32_eq, State.setReg_reg, if_pos rfl]
    rfl

theorem Same.islandTime {l : List Fld} {s t : State} (h : Same l s t) (h1 : Fld.clusters ∉ l) (h2 : Fld.now ∉ l) (d : Nat) :
    t.islandTime d = s.islandTime d := by
  unfold State.islandTime
  rw [h.clusters h1, h.now h2]

/-! ### The sessions -/

theorem tabFind_map {α : Type} (k j : Nat) (f : α → α) (l : List (Nat × α)) :
    tabFind (l.map (fun e => if e.1 = k then (e.1, f e.2) else e)) j = if j = k then (tabFind l j).map f else tabFind l j := by
  induction l with
  | nil => simp [tabFind]
  | cons e l ih =>
    rw [List.map_cons]
    by_cases hk : e.1 = k <;> by_cases hj : e.1 = j <;> simp [tabFind, ih, hk, hj] <;> grind

theorem State.onSession_session (s : State) (k j : Nat) (f : Session → Session) :
    (s.onSession k f).session j = if j = k then (s.session j).map f else s.session j := tabFind_map k j f s.sessions

theorem State.onSession_self {s : State} {k : Nat} {x : Session} (h : s.session k = some x) (f : Session → Session) :
    (s.onSession k f).session k = some (f x) := by
  simp [State.onSession_session, h]

theorem State.onSession_other (s : State) {k j : Nat} (h : j ≠ k) (f : Session → Session) : (s.onSession k f).session j = s.session j := by
  simp [State.onSession_session, h]

theorem State.session_of_sessions {s t : State} (h : t.sessions = s.sessions) (k : Nat) : t.session k = s.session k :=
  congrArg (tabFind · k) h

theorem Same.session {l : List Fld} {s t : State} (h : Same l s t) (h1 : Fld.sessions ∉ l) (h2 : Fld.events ∉ l) (k : Nat) :
    t.session k = s.session k := State.session_of_sessions (h.sessions h1 h2) k

/-- An update of one session that leaves the registers and gives the answer of an item. -/
theorem State.onSession_same (s : State) (k : Nat) (f : Session → Session) : Same [.sessions] s (s.onSession k f) :=
  State.onSession_but s k f _ (by decide)

end Sys2Proof.Machine

namespace Sys2Proof.Machine

/-! ### An event of an island (R24, R31, R330) -/

theorem exec_eventRaise {ev : EventBody} (h : listedCode ev.code.toNat = true) (src : Island) (s : State) :
    exec (.eventRaise src ev) s = .next (s.raise (islandDom src) ev.code.toNat ev.part.toNat ev.clear ev.param) := by
  change execEventRaise src ev s = _
  unfold execEventRaise
  rw [h]
  rfl

theorem exec_eventRaise_unlisted {ev : EventBody} (h : listedCode ev.code.toNat = false) (src : Island) (s : State) :
    exec (.eventRaise src ev) s = .next s := by
  change execEventRaise src ev s = _
  unfold execEventRaise
  rw [h]
  rfl

theorem islandDom_ne_ten {src : Island} (h : src ≠ .mgmt) : islandDom src ≠ 10 := by
  cases src with
  | mgmt => exact absurd rfl h
  | cl n => simp only [islandDom]; omega
  | can k => simp only [islandDom]; omega
  | _ => simp [islandDom]

theorem State.raise_of_room {s : State} {d : Nat} (h : s.enters d) (room : s.evRing.length < 2048) (c p : Nat) (cl : Bool) (x : Bytes) :
    Same [.events] s (s.raise d c p cl x) ∧ (s.raise d c p cl x).evNext = s.evNext + 1 ∧
    (s.raise d c p cl x).evRing = s.evRing ++ [{ s.recordOf d c p cl x with eseq := s.evNext % 4294967296 }] := by
  rw [State.raise_of_enters h, State.ringEnter_of_keeps (State.overwritesUnread_of_room room), State.ringPut_of_room room]
  refine ⟨?_, rfl, rfl⟩
  have pushed := State.sessions_but { s with evNext := s.evNext + 1, evRing := s.evRing ++
    [{ s.recordOf d c p cl x with eseq := s.evNext % 4294967296 }] }
    (fun y => y.push { s.recordOf d c p cl x with eseq := s.evNext % 4294967296 }) [.events] (by decide) (fun y => y.push_noEvents _)
  exact pushed.trans ((State.but_evRing { s with evNext := s.evNext + 1 } _ _ (by decide)).trans (State.but_evNext s _ _ (by decide)))

/-! ### The readers of events (R331, R332) -/

theorem State.eventRead_some {s : State} {k : Nat} {x : Session} {e : EventRec} (h : s.session k = some x) (he : s.nextFor x = some e) :
    s.eventRead k = ((s.onSession k (fun y => { y with nextSeen := true })).onSession k
      (fun y => { y with cursor := (e.eseq + 1) % 4294967296 }), ({ e with gap := e.gap || s.gapBefore x }).bytes) := by
  unfold State.eventRead
  rw [h]
  dsimp only
  rw [he]

theorem State.eventRead_none {s : State} {k : Nat} {x : Session} (h : s.session k = some x) (he : s.nextFor x = none) :
    s.eventRead k = (s.onSession k (fun y => { y with nextSeen := true }), []) := by
  unfold State.eventRead
  rw [h]
  dsimp only
  rw [he]

theorem exec_eventNext {s : State} {k : Nat} {x : Session} (h : s.session k = some x) (heard : s.hears (keyRole x.keyId)) :
    exec (.eventNext k) s = .next (((s.eventRead k).1.give (s.eventRead k).2).countItem (keyRole x.keyId)) := by
  change execEventNext k s = _
  unfold execEventNext
  rw [h]
  exact congrArg _ (State.item_run _ _ _ _ _ heard.1 heard.2 rfl rfl)

/-- An item that changes the sessions only. -/
theorem ItemEnds.of_sessions {s u : State} (r : Role) (h : Same [.sessions] s u) (st : Nat) (b : Bytes) :
    ItemEnds r [.sessions] [] s (({ u with status := st, reply := b } : State).countItem r) st := by
  refine .of ?_ (.of_regs (.refl s _) (h.regs (by decide))) rfl
  have answered : Same ([.regs, .status, .reply] ++ [.sessions]) u { u with status := st, reply := b } :=
    (State.but_reply { u with status := st } b _ (by decide)).trans (State.but_status u st _ (by decide))
  exact Same.trans (h.mono (by decide)) answered

theorem ItemEnds.of_refused {s : State} (r : Role) (st : Nat) : ItemEnds r [] [] s ((s.answer st).countItem r) st :=
  .of (by apply State.answer_but <;> decide) (.of_regs (.refl s _) rfl) rfl

theorem State.countItem_session (s : State) (r : Role) (k : Nat) : (s.countItem r).session k = s.session k :=
  State.session_of_sessions (s.countItem_sessions r) k

theorem State.give_session (s : State) (b : Bytes) (k : Nat) : (s.give b).session k = s.session k := rfl

theorem State.answer_session (s : State) (st k : Nat) : (s.answer st).session k = s.session k := rfl

theorem eventNext_reads {s : State} {k : Nat} {x : Session} {e : EventRec} (h : s.session k = some x) (heard : s.hears (keyRole x.keyId))
    (he : s.nextFor x = some e) : Answers (.eventNext k) s (fun t => ItemEnds (keyRole x.keyId) [.sessions] [] s t 0 ∧
      t.reply = ({ e with gap := e.gap || s.gapBefore x }).bytes ∧
      t.session k = some { x with nextSeen := true, cursor := (e.eseq + 1) % 4294967296 } ∧
      ∀ j, j ≠ k → t.session j = s.session j) := by
  refine ⟨_, exec_eventNext h heard, ?_⟩
  rw [State.eventRead_some h he]
  refine ⟨.of_sessions _ ((s.onSession_same k _).trans (State.onSession_same _ k _)) 0 _, State.countItem_reply .., ?_, fun j hj => ?_⟩
  · rw [State.countItem_session, State.give_session, State.onSession_self (State.onSession_self h _)]
  · rw [State.countItem_session, State.give_session, State.onSession_other _ hj, State.onSession_other _ hj]

theorem eventNext_finds_none {s : State} {k : Nat} {x : Session} (h : s.session k = some x) (heard : s.hears (keyRole x.keyId))
    (he : s.nextFor x = none) : Answers (.eventNext k) s (fun t => ItemEnds (keyRole x.keyId) [.sessions] [] s t 0 ∧ t.reply = [] ∧
      t.session k = some { x with nextSeen := true }) := by
  refine ⟨_, exec_eventNext h heard, ?_⟩
  rw [State.eventRead_none h he]
  refine ⟨.of_sessions _ (s.onSession_same k _) 0 _, State.countItem_reply .., ?_⟩
  rw [State.countItem_session, State.give_session, State.onSession_self h]

/-! ### Subscriptions (R352) -/

/-- What EVENT_SUBSCRIBE makes of its session. -/
def Session.subscribe (v : Nat) (x : Session) : Session :=
  if v = 1 then { x with subscribed := true } else { x with subscribed := false, evOut := [], evGap := false }

theorem exec_eventSubscribe {s : State} {k : Nat} {x : Session} (h : s.session k = some x) (heard : s.hears (keyRole x.keyId))
    (hk : x.keyId ≤ 16) {v : Byte} (hv : v.toNat ≤ 1) :
    exec (.eventSubscribe k v) s = .next (((s.onSession k (Session.subscribe v.toNat)).answer 0).countItem (keyRole x.keyId)) := by
  change execEventSubscribe k v s = _
  unfold execEventSubscribe
  rw [h]
  exact congrArg _ (State.item_run _ _ _ _ _ heard.1 heard.2 (decide_eq_true hk) (decide_eq_true hv))

theorem eventSubscribe_ends {s : State} {k : Nat} {x : Session} (h : s.session k = some x) (heard : s.hears (keyRole x.keyId))
    (hk : x.keyId ≤ 16) {v : Byte} (hv : v.toNat ≤ 1) :
    Answers (.eventSubscribe k v) s (fun t => ItemEnds (keyRole x.keyId) [.sessions] [] s t 0 ∧
      t.session k = some (x.subscribe v.toNat) ∧ ∀ j, j ≠ k → t.session j = s.session j) := by
  refine ⟨_, exec_eventSubscribe h heard hk hv, .of_sessions _ (s.onSession_same k _) 0 _, ?_, fun j hj => ?_⟩
  · rw [State.countItem_session, State.answer_session, State.onSession_self h]
  · rw [State.countItem_session, State.answer_session, State.onSession_other _ hj]

theorem eventSubscribe_badValue {s : State} {k : Nat} {x : Session} (h : s.session k = some x) (heard : s.hears (keyRole x.keyId))
    (hk : x.keyId ≤ 16) {v : Byte} (hv : 2 ≤ v.toNat) :
    Answers (.eventSubscribe k v) s (fun t => ItemEnds (keyRole x.keyId) [] [] s t 0x0301) := by
  have run : exec (.eventSubscribe k v) s = .next ((s.answer 0x0301).countItem (keyRole x.keyId)) := by
    change execEventSubscribe k v s = _
    unfold execEventSubscribe
    rw [h]
    dsimp only
    rw [decide_eq_true hk, decide_eq_false (by omega), State.item_badValue _ _ _ heard.1 heard.2]
    rfl
  exact ⟨_, run, .of_refused _ _⟩

theorem eventSubscribe_serviceKey {s : State} {k : Nat} {x : Session} (h : s.session k = some x) (heard : s.hears (keyRole x.keyId))
    (hk : x.keyId = 17) (v : Byte) : Answers (.eventSubscribe k v) s (fun t => ItemEnds .service [] [] s t 0x0201) := by
  have role : keyRole x.keyId = .service := by rw [hk]; rfl
  have run : exec (.eventSubscribe k v) s = .next ((s.answer 0x0201).countItem .service) := by
    change execEventSubscribe k v s = _
    unfold execEventSubscribe
    rw [h]
    dsimp only
    rw [role] at heard ⊢
    rw [decide_eq_false (by omega), State.item_noRight _ _ _ _ heard.1 heard.2]
    rfl
  exact ⟨_, run, .of_refused _ _⟩

end Sys2Proof.Machine

namespace Sys2Proof.Machine

/-! ### The frames of a session (R339, R352) -/

/-- The record of a key is updated with no bad copy to repair: nothing changes. -/
theorem State.recordUpdated_clean {s : State} {r : Nat} (h : ∀ b ∈ s.nv.badCopies, b / 2 ≠ r) : s.recordUpdated r = s := by
  have none : s.nv.badCopies.filter (fun x => x / 2 == r) = [] := List.filter_eq_nil_iff.mpr (fun b hb => by simpa using h b hb)
  have all : s.nv.badCopies.filter (fun x => x / 2 != r) = s.nv.badCopies := List.filter_eq_self.mpr (fun b hb => by simpa using h b hb)
  unfold State.recordUpdated
  dsimp only
  rw [none, all]
  rfl

theorem State.storeKey_clean {s : State} {k : Nat} (h : ∀ b ∈ s.nv.badCopies, b / 2 ≠ k + 1) (x : KeyX) : s.storeKey k x = s.setKey k x := by
  unfold State.storeKey
  exact ite_eq_left_iff.mpr (fun _ => State.recordUpdated_clean (s := s.setKey k x) h)

/-- Sealing draws from the key and, without a key, from the free values. -/
theorem State.seal_same (s : State) (k flags tid : Nat) (b : Bytes) : Same [.draws, .events, .keys, .nv, .regs] s (s.seal k flags tid b).1 := by
  apply State.seal_but <;> decide

theorem State.seal_clean {s : State} {k : Nat} (h : ∀ b ∈ s.nv.badCopies, b / 2 ≠ k + 1) (flags tid : Nat) (b : Bytes) :
    Same [.draws, .keys] s (s.seal k flags tid b).1 := by
  unfold State.seal
  dsimp only
  rw [State.storeKey_clean h]
  have stored : Same [.draws, .keys] s (s.setKey k (s.key k).nextTx) := by apply State.setKey_but; decide
  split
  · exact stored
  · exact stored.trans (State.but_draws _ _ _ (by decide))

/-- What is sealed depends on the key, the device and the free values. -/
theorem State.seal_bytes {s u : State} {k : Nat} (hk : u.key k = s.key k) (hs : u.supply = s.supply) (hd : u.draws = s.draws) (flags tid : Nat)
    (b : Bytes) : (u.seal k flags tid b).2 = (s.seal k flags tid b).2 := by
  have stored : ∀ v : State, ∀ x, Same [.events, .keys, .nv, .regs] v (v.storeKey k x) := fun v x => by apply State.storeKey_but <;> decide
  have supplied : ∀ v : State, ∀ x, (v.storeKey k x).supply = v.supply := fun v x => (stored v x).supply (by decide)
  have drawn : ∀ v : State, ∀ x, (v.storeKey k x).draws = v.draws := fun v x => (stored v x).draws (by decide)
  unfold State.seal
  dsimp only
  rw [supplied, supplied, drawn, drawn, hk, hs, hd]
  split <;> rfl

/-! ### The event frame (R352) -/

/-- What a session holds once its oldest records are sent. -/
def Session.framed (at_ : Nat) (x : Session) : Session := { x with evOut := x.evOut.drop 8, evSentAt := some at_ }

/-- The state in which the frame of a session's oldest records is sealed. -/
def State.framing (s : State) (k : Nat) : State := s.onSession k (Session.framed s.now)

theorem State.framing_same (s : State) (k : Nat) : Same [.sessions] s (s.framing k) := s.onSession_same k _

/-- An event frame is due: the session is served, has records, and a place for the frame, a millisecond after the one before it. -/
def State.eventFrameDue (s : State) (x : Session) : Prop :=
  s.serves = true ∧ x.subscribed = true ∧ x.evOut ≠ [] ∧ (∀ a, x.evSentAt = some a → a + 100000 ≤ s.now) ∧ s.eventPlace x = true

theorem State.passed_of_le {s : State} {a n : Nat} (h : a + n ≤ s.now) : s.passed a n = true := decide_eq_true h

theorem exec_eventFrameSend {s : State} {k : Nat} {x : Session} (h : s.session k = some x) (due : s.eventFrameDue x) :
    exec (.eventFrameSend k) s = .next ((s.framing k).sendPayload x.tr x.ep x.keyId 1 0 (eventPayload (x.evOut.take 8))) := by
  obtain ⟨served, subscribed, records, ago, place⟩ := due
  change execEventFrameSend k s = _
  unfold execEventFrameSend
  rw [h]
  dsimp only
  refine if_neg ?_
  rw [served, subscribed, place, List.isEmpty_eq_false_iff.mpr records]
  cases hs : x.evSentAt with
  | none => simp
  | some a =>
    have after : s.passed a (msTicks 1) = true := State.passed_of_le (ago a hs)
    simp [after]

theorem State.sendPayload_seals {k : Nat} (hk : k ≤ 16) (s : State) (tr : Transport) (ep : Nat) (b : Bytes) :
    s.sendPayload tr ep k 1 0 b = (s.seal k 1 0 b).1.handOver tr ep 0 true (s.seal k 1 0 b).2 := by
  unfold State.sendPayload
  exact if_neg (by omega)

theorem State.linkSend_same {s : State} {tr : Transport} (h : tr = .t1s ∨ ∃ n, tr = .can n) (awake : s.t1sSleep = false) (ep tid : Nat)
    (ev : Bool) (b : Bytes) : Same [.outFrames, .regs] s (s.handOver tr ep tid ev b) := by
  rcases h with rfl | ⟨n, rfl⟩
  · unfold State.handOver
    dsimp only
    unfold State.t1sSend State.t1sWake
    rw [awake]
    simp [Same, ↓State.emit_but, foldl_but, ↓State.ite_but]
  · exact State.canSend_but _ _ _ _ _ _ (by decide) (by decide)

/-- An event frame that is due is sealed and handed over: with the copies of the key's record good, only the key, the free values and the
session change before that. -/
theorem eventFrame_sealed {s : State} {k : Nat} {x : Session} (h : s.session k = some x) (due : s.eventFrameDue x) (hk : x.keyId ≤ 16) :
    ∃ u, exec (.eventFrameSend k) s = .next (u.handOver x.tr x.ep 0 true (s.seal x.keyId 1 0 (eventPayload (x.evOut.take 8))).2) ∧
      Same [.draws, .events, .keys, .nv, .regs, .sessions] s u ∧
      ((∀ b ∈ s.nv.badCopies, b / 2 ≠ x.keyId + 1) → Same [.draws, .keys, .sessions] s u ∧
        u.session k = some { x with evOut := x.evOut.drop 8, evSentAt := some s.now }) := by
  have framed := s.framing_same k
  refine ⟨((s.framing k).seal x.keyId 1 0 (eventPayload (x.evOut.take 8))).1, ?_, ?_, fun clean => ?_⟩
  · rw [← State.seal_bytes (s := s) (u := s.framing k) rfl rfl rfl, ← State.sendPayload_seals hk]
    exact exec_eventFrameSend h due
  · exact (framed.mono (by decide)).trans ((State.seal_same ..).mono (by decide))
  · have tagged := State.seal_clean (s := s.framing k) clean 1 0 (eventPayload (x.evOut.take 8))
    refine ⟨(framed.mono (by decide)).trans (tagged.mono (by decide)), ?_⟩
    rw [tagged.session (by decide) (by decide)]
    exact State.onSession_self h _

theorem eventFrameSend_spi {s : State} {k : Nat} {x : Session} (h : s.session k = some x) (due : s.eventFrameDue x) (hk : x.keyId ≤ 16)
    (tr : x.tr = .spi) : Answers (.eventFrameSend k) s (fun t => Same [.draws, .events, .host, .keys, .nv, .regs, .sessions] s t ∧
      ((∀ b ∈ s.nv.badCopies, b / 2 ≠ x.keyId + 1) → Same [.draws, .host, .keys, .sessions] s t ∧
        t.session k = some { x with evOut := x.evOut.drop 8, evSentAt := some s.now }) ∧
      t.host.out = s.host.out ++ [(true, (s.seal x.keyId 1 0 (eventPayload (x.evOut.take 8))).2)]) := by
  obtain ⟨u, run, same, clean⟩ := eventFrame_sealed h due hk
  rw [tr] at run
  have handed : ∀ ep b, Same [.host] u (u.handOver .spi ep 0 true b) := fun ep b => State.but_host u _ _ (by decide)
  refine ⟨_, run, (same.mono (by decide)).trans ((handed ..).mono (by decide)), fun good => ?_, ?_⟩
  · obtain ⟨least, session⟩ := clean good
    exact ⟨(least.mono (by decide)).trans ((handed ..).mono (by decide)), ((handed ..).session (by decide) (by decide) k).trans session⟩
  · rw [← same.host (by decide)]
    rfl

theorem eventFrameSend_svc {s : State} {k : Nat} {x : Session} (h : s.session k = some x) (due : s.eventFrameDue x) (hk : x.keyId ≤ 16)
    (w : Fin 16) (tr : x.tr = .svc w) :
    Answers (.eventFrameSend k) s (fun t => Same [.draws, .events, .keys, .nv, .regs, .sessions, .svc] s t ∧
      ((∀ b ∈ s.nv.badCopies, b / 2 ≠ x.keyId + 1) → Same [.draws, .keys, .sessions, .svc] s t ∧
        t.session k = some { x with evOut := x.evOut.drop 8, evSentAt := some s.now }) ∧
      (t.window w).queue = (s.window w).queue ++ [(true, (s.seal x.keyId 1 0 (eventPayload (x.evOut.take 8))).2)]) := by
  obtain ⟨u, run, same, clean⟩ := eventFrame_sealed h due hk
  rw [tr] at run
  have handed : ∀ ep b, Same [.svc] u (u.handOver (.svc w) ep 0 true b) := fun ep b => State.setWindow_but _ _ _ _ (by decide)
  refine ⟨_, run, (same.mono (by decide)).trans ((handed ..).mono (by decide)), fun good => ?_, ?_⟩
  · obtain ⟨least, session⟩ := clean good
    exact ⟨(least.mono (by decide)).trans ((handed ..).mono (by decide)), ((handed ..).session (by decide) (by decide) k).trans session⟩
  · rw [← same.get_window (by decide)]
    exact congrArg SvcX.queue ((tabGet_set ..).trans (if_pos rfl))

theorem eventFrameSend_link {s : State} {k : Nat} {x : Session} (h : s.session k = some x) (due : s.eventFrameDue x) (hk : x.keyId ≤ 16)
    (tr : x.tr = .t1s ∨ ∃ n, x.tr = .can n) (awake : s.t1sSleep = false) : Answers (.eventFrameSend k) s (fun t =>
      Same [.draws, .events, .keys, .nv, .outFrames, .regs, .sessions] s t ∧
      ((∀ b ∈ s.nv.badCopies, b / 2 ≠ x.keyId + 1) → Same [.draws, .keys, .outFrames, .regs, .sessions] s t ∧
        t.session k = some { x with evOut := x.evOut.drop 8, evSentAt := some s.now })) := by
  obtain ⟨u, run, same, clean⟩ := eventFrame_sealed h due hk
  have handed := State.linkSend_same (s := u) tr ((same.t1sSleep (by decide)).trans awake)
  refine ⟨_, run, (same.mono (by decide)).trans ((handed ..).mono (by decide)), fun good => ?_⟩
  obtain ⟨least, session⟩ := clean good
  exact ⟨(least.mono (by decide)).trans ((handed ..).mono (by decide)), ((handed ..).session (by decide) (by decide) k).trans session⟩

/-- A session that has nothing to send, or no place for it, or has sent a frame within the millisecond, sends none. -/
theorem exec_eventFrameSend_not_due {s : State} {k : Nat} {x : Session} (h : s.session k = some x)
    (idle : x.subscribed = false ∨ x.evOut = [] ∨ s.eventPlace x = false ∨ ∃ a, x.evSentAt = some a ∧ s.now < a + 100000) :
    exec (.eventFrameSend k) s = .next s := by
  change execEventFrameSend k s = _
  unfold execEventFrameSend
  rw [h]
  refine if_pos ?_
  rcases idle with e | e | e | ⟨a, e, soon⟩
  · simp [e]
  · simp [e]
  · simp [e]
  · have early : s.passed a (msTicks 1) = false := decide_eq_false (by simp only [msTicks]; omega)
    simp [e, early]

/-- Commands of a session that is not there, and of any while no request is served, do nothing. -/
theorem exec_session_none {s : State} {k : Nat} (h : s.session k = none) (v : Byte) :
    exec (.eventNext k) s = .next s ∧ exec (.eventSubscribe k v) s = .next s ∧ exec (.eventFrameSend k) s = .next s := by
  change execEventNext k s = _ ∧ execEventSubscribe k v s = _ ∧ execEventFrameSend k s = _
  unfold execEventNext execEventSubscribe execEventFrameSend
  rw [h]
  exact ⟨rfl, rfl, rfl⟩

theorem exec_session_unserved {s : State} (h : s.serves = false) (k : Nat) (v : Byte) :
    exec (.eventNext k) s = .next s ∧ exec (.eventSubscribe k v) s = .next s ∧ exec (.eventFrameSend k) s = .next s := by
  cases hx : s.session k with
  | none => exact exec_session_none hx v
  | some x =>
    change execEventNext k s = _ ∧ execEventSubscribe k v s = _ ∧ execEventFrameSend k s = _
    unfold execEventNext execEventSubscribe execEventFrameSend
    rw [hx]
    exact ⟨congrArg _ (State.item_unserved _ _ _ _ _ h), congrArg _ (State.item_unserved _ _ _ _ _ h), if_pos (by simp [h])⟩

/-- Settles O34: the ring and the queues take the records as `ringPut` says, and each command of a session is an item or a sealed frame. -/
theorem eventsReachTheRingAndTheSessions : Obligations.EventsReachTheRingAndTheSessions := by
  unfold Obligations.EventsReachTheRingAndTheSessions
  refine ⟨fun src ev s hl enters room => ?_, fun src ev s hl enters full keeps => ?_, fun src ev s hl out hm room => ?_,
    fun src ev s hl enters _ _ => ?_, fun src ev s hl out hm full => ?_, fun ev s down => ?_,
    fun src ev s hl => exec_eventRaise_unlisted hl src s, fun k v s hx => exec_session_none hx v, fun k v s hs => exec_session_unserved hs k v,
    fun k x s hx heard => ⟨fun e he => eventNext_reads hx heard he, eventNext_finds_none hx heard⟩,
    fun k x s hx heard => ⟨fun hk => ?_, fun hk v hv => eventSubscribe_badValue hx heard hk hv, fun hk v => eventSubscribe_serviceKey hx heard hk v⟩,
    fun k x s hx served subscribed records ago place hk => ?_, fun k x s hx idle => exec_eventFrameSend_not_due hx idle⟩
  · exact ⟨_, exec_eventRaise hl src s, State.raise_of_room enters room ..⟩
  · refine ⟨_, exec_eventRaise hl src s, s.raise_same .., .raise (.refl s _) (by decide), ?_⟩
    rw [State.raise_of_enters enters, State.ringEnter_of_keeps keeps]
    obtain ⟨ring, lost⟩ := State.ringPut_of_full (by omega : 2048 ≤ s.evRing.length)
      (s.recordOf (islandDom src) ev.code.toNat ev.part.toNat ev.clear ev.param)
    exact ⟨lost, ring⟩
  · refine ⟨_, exec_eventRaise hl src s, ?_⟩
    rw [State.raise_of_queue out (islandDom_ne_ten hm) room]
    exact ⟨State.but_evQueues s _ _ (by decide), rfl, (tabGet_set ..).trans (if_pos rfl)⟩
  · exact ⟨_, exec_eventRaise hl src s, s.raise_same .., .raise (.refl s _) (by decide), s.raise_recorded _ _ _ _ _ enters⟩
  · refine ⟨_, exec_eventRaise hl src s, s.raise_same .., ?_⟩
    rw [State.raise_of_full out (islandDom_ne_ten hm) full]
    refine ⟨rfl, rfl, ?_, List.mem_insert_self⟩
    rw [State.bump32_eq, State.setReg_reg, if_pos rfl]
    rfl
  · cases hl : listedCode ev.code.toNat with
    | false => exact exec_eventRaise_unlisted hl .mgmt s
    | true => exact (exec_eventRaise hl .mgmt s).trans (congrArg _ (State.raise_of_down down ..))
  · refine ⟨eventSubscribe_ends hx heard hk (by decide), ?_⟩
    obtain ⟨t, run, ends, subscribed, -⟩ := eventSubscribe_ends hx heard hk (v := 0) (by decide)
    exact ⟨t, run, ends, subscribed⟩
  · have due : s.eventFrameDue x := ⟨served, subscribed, records, ago, place⟩
    exact ⟨eventFrameSend_spi hx due hk, fun w tr => eventFrameSend_svc hx due hk w tr, eventFrameSend_link hx due hk⟩

end Sys2Proof.Machine

namespace Sys2Proof.Machine

/-! ### What one cluster notes of another (R59, R122) -/

/-- One step of an operation over a list without repeats, seen from one of its units: the steps before it and after it are related by what
they leave. -/
theorem State.each_at {R : State → State → Prop} (refl : ∀ s, R s s) (trans : ∀ s t u, R s t → R t u → R s u) {f : State → Nat → State} {n : Nat}
    {l : List Nat} (nodup : l.Nodup) (mem : n ∈ l) (h : ∀ u, ∀ x ∈ l, x ≠ n → R u (f u x)) (s : State) :
    ∃ u, R s u ∧ R (f u n) (s.each l f) := by
  have run : ∀ l' : List Nat, (∀ x ∈ l', x ∈ l ∧ x ≠ n) → ∀ u : State, R u (u.each l' f) := by
    intro l'
    induction l' with
    | nil => exact fun _ u => refl u
    | cons x l' ih =>
      intro hl u
      have here := hl x (List.mem_cons_self ..)
      exact trans _ _ _ (h u x here.1 here.2) (ih (fun y hy => hl y (List.mem_cons_of_mem _ hy)) _)
  obtain ⟨a, b, rfl⟩ := List.append_of_mem mem
  rw [List.nodup_append, List.nodup_cons] at nodup
  obtain ⟨-, ⟨notB, -⟩, apart⟩ := nodup
  refine ⟨s.each a f, run a (fun x hx => ⟨by simp [hx], apart x hx n (List.mem_cons_self ..)⟩) s, ?_⟩
  have split : s.each (a ++ n :: b) f = (f (s.each a f) n).each b f := by
    unfold State.each
    rw [List.foldl_append, List.foldl_cons]
  rw [split]
  exact run b (fun x hx => ⟨by simp [hx], fun e => notB (e ▸ hx)⟩) _

/-- A cluster without its note of the partitions that were cut while its clock was lost. -/
def ClusterX.unnoted (x : ClusterX) : ClusterX := { x with lostParts := 0 }

/-- Every cluster but those of a list is as it was, but for what it notes of the partitions that were cut (R59). -/
def Noted (l : List Nat) (s t : State) : Prop := ∀ m, m ∉ l → (t.cluster m).unnoted = (s.cluster m).unnoted

theorem Noted.refl (l : List Nat) (s : State) : Noted l s s := fun _ _ => rfl

theorem Noted.trans {l : List Nat} {s t u : State} (h : Noted l s t) (h' : Noted l t u) : Noted l s u :=
  fun m hm => (h' m hm).trans (h m hm)

theorem Noted.of_same {l : List Fld} {s t : State} (h : Same l s t) (hc : Fld.clusters ∉ l) (ns : List Nat) : Noted ns s t :=
  fun m _ => congrArg ClusterX.unnoted (h.get_cluster hc m)

theorem Noted.mono {l : List Nat} {s t : State} (h : Noted [] s t) : Noted l s t := fun m _ => h m (by simp)

theorem Noted.each {l : List Nat} {f : State → Nat → State} (h : ∀ s x, Noted l s (f s x)) (xs : List Nat) (s : State) :
    Noted l s (s.each xs f) := by
  induction xs generalizing s with
  | nil => exact .refl l s
  | cons x xs ih => exact (h s x).trans (ih _)

theorem ClusterX.eq_of_unnoted {x y : ClusterX} (h : y.unnoted = x.unnoted) : y = { x with lostParts := y.lostParts } := by
  have restored : { y.unnoted with lostParts := y.lostParts } = { x.unnoted with lostParts := y.lostParts } := by rw [h]
  exact restored

theorem Noted.cluster {l : List Nat} {s t : State} (h : Noted l s t) {m : Nat} (hm : m ∉ l) :
    t.cluster m = { s.cluster m with lostParts := (t.cluster m).lostParts } := ClusterX.eq_of_unnoted (h m hm)

theorem Noted.clockLost {l : List Nat} {s t : State} (h : Noted l s t) {m : Nat} (hm : m ∉ l) :
    (t.cluster m).clockLost = (s.cluster m).clockLost := congrArg (fun x => x.clockLost) (h.cluster hm)

theorem Noted.counter {l : List Nat} {s t : State} (h : Noted l s t) {m : Nat} (hm : m ∉ l) :
    (t.cluster m).counter = (s.cluster m).counter := congrArg (fun x => x.counter) (h.cluster hm)

theorem State.setCluster_noted (s : State) (n : Nat) (x : ClusterX) : Noted [n] s (s.setCluster n x) := by
  intro m hm
  rw [State.setCluster_get, if_neg (by simpa using hm)]

theorem State.noteLost_noted (s : State) (p : Nat) : Noted [] s (s.noteLost p) := by
  refine .each (fun u n m _ => ?_) _ s
  rw [State.setCluster_get]
  split
  · subst m
    rfl
  · rfl

/-- What a shut-off changes beside the notes of the clusters. -/
def Fld.cut : List Fld :=
  [.actions, .caps, .chans, .drives, .ens, .entries, .events, .groups, .latches, .parts, .ports, .regs, .safeN, .trims, .waitMaint]

theorem State.cutChannels_noted (s : State) (p : Nat) (quiet : Bool) : Noted [] s (s.cutChannels p quiet) := by
  unfold State.cutChannels
  extract_lets u mine joined v w
  have ended : Same Fld.cut u v := State.each_but _ _ _ _ (fun t c _ => by simp [Fld.cut, ↓State.warnEnd_but])
  have marked : Same Fld.cut v w := State.each_but _ _ _ _ (fun t c _ => by simp [Fld.cut, ↓State.markCut_but])
  refine ((s.noteLost_noted p).trans (.of_same (ended.trans marked) (by decide) [])).trans (.of_same (l := Fld.cut) ?_ (by decide) [])
  exact State.each_but _ _ _ _ (fun t c _ => by simp [Fld.cut, ↓State.toState_but, ↓State.setChan_but])

theorem State.shutOff_noted (s : State) (p cause : Nat) (cl : Option Nat) (tick upper lower line : Nat) :
    Noted [] s (s.shutOff p cause cl tick upper lower line) := by
  unfold State.shutOff
  extract_lets x up spans a b c d e f g h i x' j k l m o
  have before : Same Fld.cut s c := by
    simp [Same, Fld.cut, a, b, c, ↓State.capturesEnd_but, ↓State.latchCause_but, ↓State.benchAbort_but, ↓State.openEvent_but]
  have halted : Same Fld.cut d g := by
    refine Same.trans (t := f) ?_ (State.each_but _ _ _ _ (fun t c _ => by simp [Fld.cut, ↓State.driveHalt_but]))
    simp [Same, Fld.cut, e, f, ↓State.trimsZero_but, ↓State.cutEnables_but]
  have judged : Same Fld.cut g k := by
    simp [Same, Fld.cut, h, i, j, k, ↓State.retryRule_but, ↓State.setPart_but, ↓State.cutSequence_but, ↓State.psShutoff_but]
  have driven : Same Fld.cut k l := by
    simp only [l]
    split
    · simp [Same, Fld.cut, ↓State.driveFlt_but]
    · exact .refl _ _
  have counted : Same Fld.cut l m := by simp [Same, Fld.cut, m, ↓State.setReg_but]
  have lowered : Same Fld.cut m { m with safeN := false } := State.but_safeN m false _ (by decide)
  have published : Same Fld.cut { m with safeN := false } (o.publishEntry p cause (match cl with | some n => n + 1 | none => 9)) := by
    simp [Same, Fld.cut, o, ↓State.publishEntry_but, ↓State.bareMerge_but]
  have after := (((halted.trans judged).trans driven).trans counted).trans (lowered.trans published)
  exact ((Noted.of_same before (by decide) []).trans (c.cutChannels_noted p _)).trans (.of_same after (by decide) [])

/-! ### The loss of a clock (R122) -/

/-- What a cluster whose clock is lost records. -/
def ClusterX.stopped (x : ClusterX) (now hits : Nat) : ClusterX :=
  { x with clockLost := true, lostAt := x.counter, lostTime := now, lostParts := 0, lostHits := hits }

theorem State.causeIn_noted (s : State) (p cause n tick upper lower : Nat) : Noted [] s (s.causeIn p cause n tick upper lower) :=
  .of_same (l := Fld.cut) (by apply State.causeIn_but <;> decide) (by decide) []

/-- A loss of a clock is noted in its cluster first; then the clusters note what it shuts off. -/
theorem State.clockLoss_noted (s : State) (n : Nat) : Noted []
    (s.setCluster n ((s.cluster n).stopped s.now ((s.lossHits n).map (fun p => 2 ^ p)).sum)) (s.clockLoss n) := by
  unfold State.clockLoss
  extract_lets hits first x a b c d e f g
  change Noted [] a _
  have ended : Same Fld.cut a b := State.each_but _ _ _ _ (fun t p _ => by simp [Fld.cut, ↓State.sweepEnd_but])
  have taken : Same Fld.cut b c := State.each_but _ _ _ _ (fun t i _ => by simp [Fld.cut, ↓State.marginOff_but])
  have lost : Same Fld.cut c d := by apply State.loseActions_but; decide
  have shut : Noted [] d e := .each (fun u p => by
    split
    · exact u.causeIn_noted p 2 n first 0 0
    · exact u.shutOff_noted p 2 (some n) first 0 0 0) _ d
  have flagged : Same Fld.cut e g := Same.trans (t := f) (by apply State.setReg_but; decide)
    (State.each_but _ _ _ _ (fun t p _ => by simp [Fld.cut, State.gapFlag, ↓State.setPart_but]))
  have raised : Same Fld.cut g ((g.bump16 fabsClkLossCount).raise 9 0x1B 255 false [BitVec.ofNat 8 n]) := by
    simp [Same, Fld.cut, ↓State.raise_but]
  exact ((Noted.of_same ((ended.trans taken).trans lost) (by decide) []).trans shut).trans (.of_same (flagged.trans raised) (by decide) [])

theorem State.clockLoss_others (s : State) (n : Nat) : Noted [n] s (s.clockLoss n) :=
  (s.setCluster_noted n _).trans (s.clockLoss_noted n).mono

theorem State.clockLoss_cluster (s : State) (n : Nat) :
    ((s.clockLoss n).cluster n).unnoted = ((s.cluster n).stopped s.now ((s.lossHits n).map (fun p => 2 ^ p)).sum).unnoted := by
  rw [s.clockLoss_noted n n (by simp), State.setCluster_get, if_pos rfl]

theorem State.clockLoss_now (s : State) (n : Nat) : (s.clockLoss n).now = s.now := by
  have same : Same (.clusters :: Fld.cut) s (s.clockLoss n) := by apply State.clockLoss_but <;> decide
  exact same.now (by decide)

end Sys2Proof.Machine

namespace Sys2Proof.Machine

/-! ### The frame pulse at one cluster (R25) -/

theorem roundAway_near (x : Int) (den : Nat) (h : 0 < den) :
    ∃ e : Int, -(den : Int) ≤ 2 * e ∧ 2 * e ≤ den ∧ den * roundAway x den + e = x := by
  have h' : (0 : Int) < den := by omega
  unfold roundAway
  split
  · have q := Int.mul_ediv_add_emod (2 * x + den) (2 * den)
    have r := Int.emod_nonneg (2 * x + den) (b := 2 * den) (by omega)
    have r' := Int.emod_lt_of_pos (2 * x + den) (b := 2 * den) (by omega)
    rw [Int.mul_assoc] at q
    exact ⟨x - den * ((2 * x + den) / (2 * den)), by omega, by omega, by omega⟩
  · have q := Int.mul_ediv_add_emod (-2 * x + den) (2 * den)
    have r := Int.emod_nonneg (-2 * x + den) (b := 2 * den) (by omega)
    have r' := Int.emod_lt_of_pos (-2 * x + den) (b := 2 * den) (by omega)
    rw [Int.mul_assoc] at q
    refine ⟨x + den * ((-2 * x + den) / (2 * den)), by omega, by omega, ?_⟩
    rw [Int.mul_neg]
    omega

/-- The increment stays within 1,000 ppm of 2^31. -/
theorem incrementFor_bounds (inc : Nat) (d grown : Int) (ticks : Nat) :
    2145336164 ≤ incrementFor inc d grown ticks ∧ incrementFor inc d grown ticks ≤ 2149631132 := by
  unfold incrementFor clampInt
  dsimp only
  split
  · omega
  · split <;> omega

/-- Where the bound is not met, the edges of a millisecond at the new increment remove the difference and its growth. -/
theorem incrementFor_removes {inc : Nat} {d grown : Int} {ticks : Nat} (lo : 2145336164 < incrementFor inc d grown ticks)
    (hi : incrementFor inc d grown ticks < 2149631132) :
    ∃ e : Int, -100000 ≤ e ∧ e ≤ 100000 ∧
      200000 * (incrementFor inc d grown ticks : Int) + e = 200000 * inc + (d + roundAway (grown * 100000) (max 1 ticks)) := by
  obtain ⟨e, le, ue, eq⟩ := roundAway_near (d + roundAway (grown * 100000) (max 1 ticks)) 200000 (by decide)
  refine ⟨e, by omega, by omega, ?_⟩
  have step : (incrementFor inc d grown ticks : Int) = inc + roundAway (d + roundAway (grown * 100000) (max 1 ticks)) 200000 := by
    unfold incrementFor clampInt at lo hi ⊢
    dsimp only at lo hi ⊢
    split at lo
    · omega
    · split at lo
      · omega
      · omega
  rw [step]
  push_cast at eq ⊢
  omega

theorem growth_of_millisecond (grown : Int) : roundAway (grown * 100000) (max 1 ((100000 : Nat) : Int)) = grown := by
  obtain ⟨e, le, ue, eq⟩ := roundAway_near (grown * 100000) 100000 (by decide)
  change roundAway (grown * 100000) ((100000 : Nat) : Int) = grown
  push_cast at *
  omega

theorem State.syncAdjust_cluster (s : State) (n m : Nat) : (s.syncAdjust n).cluster m =
    if m = n then { s.cluster m with syncInc := ((s.syncAdjust n).cluster m).syncInc } else s.cluster m := by
  unfold State.syncAdjust
  dsimp only
  split
  · split <;> rfl
  · rw [State.setCluster_get]
    split
    · subst m
      rfl
    · rfl

/-- A cluster whose clock is lost, or whose millisecond has not passed, takes no pulse. -/
theorem State.pulseAt_idle {s : State} {n : Nat} (h : (s.cluster n).clockLost = true ∨ s.pulseDue (s.cluster n) = false) : s.pulseAt n = s := by
  unfold State.pulseAt
  dsimp only
  exact if_pos (by rcases h with h | h <;> simp [h])

/-- The counter of cluster n is more than 1 µs away from device time. -/
def State.strays (s : State) (n : Nat) : Prop := s.now + 100 < (s.cluster n).counter ∨ (s.cluster n).counter + 100 < s.now

theorem State.pulseAt_strays {s : State} {n : Nat} (h : (s.cluster n).clockLost = false) (due : s.pulseDue (s.cluster n) = true)
    (far : s.strays n) : s.pulseAt n = s.clockLoss n := by
  unfold State.pulseAt
  dsimp only
  unfold State.strays at far
  rw [if_neg (by simp [h, due]), if_pos (by omega)]

/-- The increment that a pulse gives to cluster n. -/
def State.pulseInc (s : State) (n : Nat) : Nat :=
  match (s.cluster n).pulsed with
  | none => incrementFor (s.cluster n).inc (s.counterDiff (s.cluster n)) 0 100000
  | some t => incrementFor (s.cluster n).inc (s.counterDiff (s.cluster n)) (s.counterDiff (s.cluster n) - (s.cluster n).pulseDiff) (s.now - t)

theorem State.pulseInc_first {s : State} {n : Nat} (h : (s.cluster n).pulsed = none) :
    s.pulseInc n = incrementFor (s.cluster n).inc (s.counterDiff (s.cluster n)) 0 100000 := by
  unfold State.pulseInc
  rw [h]

theorem State.pulseInc_next {s : State} {n a : Nat} (h : (s.cluster n).pulsed = some a) : s.pulseInc n =
    incrementFor (s.cluster n).inc (s.counterDiff (s.cluster n)) (s.counterDiff (s.cluster n) - (s.cluster n).pulseDiff) (s.now - a) := by
  unfold State.pulseInc
  rw [h]

theorem State.pulseAt_taken {s : State} {n : Nat} (h : (s.cluster n).clockLost = false) (due : s.pulseDue (s.cluster n) = true)
    (near : ¬ s.strays n) : s.pulseAt n = (s.setCluster n
      { s.cluster n with inc := s.pulseInc n, pulsed := some s.now, pulseDiff := s.counterDiff (s.cluster n) }).syncAdjust n := by
  unfold State.pulseAt
  dsimp only
  unfold State.strays at near
  rw [if_neg (by simp [h, due]), if_neg (by omega)]
  rfl

theorem State.pulseAt_cluster {s : State} {n : Nat} (h : (s.cluster n).clockLost = false) (due : s.pulseDue (s.cluster n) = true)
    (near : ¬ s.strays n) : (s.pulseAt n).cluster n = { s.cluster n with
      inc := s.pulseInc n, pulsed := some s.now, pulseDiff := s.counterDiff (s.cluster n), syncInc := ((s.pulseAt n).cluster n).syncInc } := by
  rw [State.pulseAt_taken h due near]
  conv_lhs => rw [State.syncAdjust_cluster, if_pos rfl]
  rw [State.setCluster_get, if_pos rfl]

theorem State.pulseAt_same {s : State} {n : Nat} (near : (s.cluster n).clockLost = false → ¬ s.strays n) : Same [.clusters] s (s.pulseAt n) := by
  by_cases taken : (s.cluster n).clockLost = false ∧ s.pulseDue (s.cluster n) = true
  · rw [State.pulseAt_taken taken.1 taken.2 (near taken.1)]
    simp [Same, ↓State.syncAdjust_but, ↓State.setCluster_but]
  · rw [State.pulseAt_idle (by simpa [or_iff_not_imp_left] using taken)]
    exact .refl _ _

theorem State.pulseAt_others_same {s : State} {n : Nat} (near : (s.cluster n).clockLost = false → ¬ s.strays n) {m : Nat} (hm : m ≠ n) :
    (s.pulseAt n).cluster m = s.cluster m := by
  by_cases taken : (s.cluster n).clockLost = false ∧ s.pulseDue (s.cluster n) = true
  · rw [State.pulseAt_taken taken.1 taken.2 (near taken.1), State.syncAdjust_cluster, if_neg hm, State.setCluster_get, if_neg hm]
  · rw [State.pulseAt_idle (by simpa [or_iff_not_imp_left] using taken)]

/-- A pulse at one cluster leaves the others, but for what they note of a shut-off. -/
theorem State.pulseAt_noted (s : State) (n : Nat) : Noted [n] s (s.pulseAt n) ∧ (s.pulseAt n).now = s.now := by
  by_cases near : (s.cluster n).clockLost = false → ¬ s.strays n
  · refine ⟨fun m hm => ?_, (State.pulseAt_same near).now (by decide)⟩
    rw [State.pulseAt_others_same near (by simpa using hm)]
  · push Not at near
    obtain ⟨runs, far⟩ := near
    by_cases due : s.pulseDue (s.cluster n) = true
    · rw [State.pulseAt_strays runs due far]
      exact ⟨s.clockLoss_others n, s.clockLoss_now n⟩
    · rw [State.pulseAt_idle (.inr (by simpa using due))]
      exact ⟨.refl _ _, rfl⟩

/-! ### The frame pulse (R25) -/

theorem exec_framePulse {s : State} (h : s.supply.vcore = true) (joined : 9 ∉ s.stalled) :
    exec .framePulse s = .next (s.each clustersAll (fun s n => s.pulseAt n)) := by
  change execFramePulse s = _
  unfold execFramePulse
  exact if_neg (by simp [h, joined])

/-- Every running cluster is within 1 µs of device time. -/
def State.inStep (s : State) : Prop := ∀ n < 8, (s.cluster n).clockLost = false → ¬ s.strays n

/-- What the pulse at other clusters leaves, of clusters in step. -/
def PulseKept (n : Nat) (s t : State) : Prop := s.inStep → t.inStep ∧ Same [.clusters] s t ∧ t.cluster n = s.cluster n

theorem State.pulseAt_inStep {s : State} (h : s.inStep) {n : Nat} (hn : n < 8) : (s.pulseAt n).inStep := by
  intro m hm runs
  have now := (State.pulseAt_same (h n hn)).now (by decide)
  unfold State.strays
  rw [now]
  by_cases e : m = n
  · subst m
    by_cases taken : (s.cluster n).clockLost = false ∧ s.pulseDue (s.cluster n) = true
    · rw [State.pulseAt_cluster taken.1 taken.2 (h n hn taken.1)]
      exact h n hn taken.1
    · rw [State.pulseAt_idle (by simpa [or_iff_not_imp_left] using taken)] at runs ⊢
      exact h n hn runs
  · rw [State.pulseAt_others_same (h n hn) e] at runs ⊢
    exact h m hm runs

/-- The frame pulse at one of several clusters in step. -/
theorem State.framePulse_inStep {s : State} (h : s.inStep) {n : Nat} (hn : n < 8) : ∃ u, Same [.clusters] s u ∧ u.cluster n = s.cluster n ∧
    u.inStep ∧ Same [.clusters] s (s.each clustersAll (fun s n => s.pulseAt n)) ∧
    (s.each clustersAll (fun s n => s.pulseAt n)).cluster n = (u.pulseAt n).cluster n := by
  have trans : ∀ s t u, PulseKept n s t → PulseKept n t u → PulseKept n s u := fun s t u ht hu inStep => by
    obtain ⟨inStep', same, cluster⟩ := ht inStep
    obtain ⟨inStep'', same', cluster'⟩ := hu inStep'
    exact ⟨inStep'', same.trans same', cluster'.trans cluster⟩
  obtain ⟨u, before, after⟩ := State.each_at (R := PulseKept n) (fun s inStep => ⟨inStep, .refl _ s, rfl⟩) trans
    (f := fun s n => s.pulseAt n) (n := n) (l := clustersAll) List.nodup_range (List.mem_range.mpr hn) (fun u x hx hne inStep => by
      have near := inStep x (List.mem_range.mp hx)
      exact ⟨State.pulseAt_inStep inStep (List.mem_range.mp hx), State.pulseAt_same near, State.pulseAt_others_same near (Ne.symm hne)⟩) s
  obtain ⟨inStep, same, cluster⟩ := before h
  obtain ⟨-, same', cluster'⟩ := after (State.pulseAt_inStep inStep hn)
  exact ⟨u, same, cluster, inStep, (same.trans (State.pulseAt_same (inStep n hn))).trans same', cluster'⟩

theorem State.strays_of_kept {s u : State} {n : Nat} (hc : (u.cluster n).counter = (s.cluster n).counter) (hn : u.now = s.now) :
    u.strays n ↔ s.strays n := by
  unfold State.strays
  rw [hc, hn]

/-- What a pulse reads of a cluster and of device time. -/
theorem State.pulseDue_of_kept {s u : State} {x y : ClusterX} (hx : y.pulsed = x.pulsed) (hn : u.now = s.now) : u.pulseDue y = s.pulseDue x := by
  unfold State.pulseDue State.passed
  rw [hx, hn]

theorem State.pulseInc_of_kept {s u : State} {n : Nat} (hc : u.cluster n = s.cluster n) (hn : u.now = s.now) : u.pulseInc n = s.pulseInc n := by
  unfold State.pulseInc State.counterDiff
  rw [hc, hn]

theorem State.counterDiff_of_kept {s u : State} (x : ClusterX) (hn : u.now = s.now) : u.counterDiff x = s.counterDiff x := by
  unfold State.counterDiff
  rw [hn]

/-- The cluster after the pulse, of clusters in step. -/
theorem State.framePulse_cluster {s : State} (h : s.inStep) {n : Nat} (hn : n < 8) (runs : (s.cluster n).clockLost = false)
    (due : s.pulseDue (s.cluster n) = true) : ∃ i, (s.each clustersAll (fun s n => s.pulseAt n)).cluster n =
      { s.cluster n with inc := s.pulseInc n, pulsed := some s.now, pulseDiff := s.counterDiff (s.cluster n), syncInc := i } := by
  obtain ⟨u, same, cluster, inStep, -, taken⟩ := State.framePulse_inStep h hn
  have now := same.now (by decide)
  rw [taken, State.pulseAt_cluster (cluster ▸ runs) ((State.pulseDue_of_kept (by rw [cluster]) now).trans due) (inStep n hn (cluster ▸ runs)),
    State.pulseInc_of_kept cluster now, cluster, now, State.counterDiff_of_kept _ now]
  exact ⟨_, rfl⟩

theorem State.framePulse_idle {s : State} (h : s.inStep) {n : Nat} (hn : n < 8)
    (idle : (s.cluster n).clockLost = true ∨ s.pulseDue (s.cluster n) = false) :
    (s.each clustersAll (fun s n => s.pulseAt n)).cluster n = s.cluster n := by
  obtain ⟨u, same, cluster, -, -, taken⟩ := State.framePulse_inStep h hn
  rw [taken, State.pulseAt_idle (by rwa [cluster, State.pulseDue_of_kept rfl (same.now (by decide))]), cluster]

/-- The increment that a pulse gives, after the law of R25 (log 32). -/
theorem State.pulseInc_law {s : State} {n : Nat} (lo : 2145336164 < s.pulseInc n) (hi : s.pulseInc n < 2149631132) :
    ((s.cluster n).pulsed = none → ∃ e : Int, -100000 ≤ e ∧ e ≤ 100000 ∧
      200000 * (s.pulseInc n : Int) + e = 200000 * (s.cluster n).inc + s.counterDiff (s.cluster n)) ∧
    (∀ a, (s.cluster n).pulsed = some a → s.now = a + 100000 → ∃ e : Int, -100000 ≤ e ∧ e ≤ 100000 ∧
      200000 * (s.pulseInc n : Int) + e = 200000 * (s.cluster n).inc + s.counterDiff (s.cluster n) +
        (s.counterDiff (s.cluster n) - (s.cluster n).pulseDiff)) := by
  refine ⟨fun first => ?_, fun a before ago => ?_⟩
  · rw [State.pulseInc_first first] at lo hi ⊢
    obtain ⟨e, le, ue, eq⟩ := incrementFor_removes lo hi
    rw [growth_of_millisecond, Int.add_zero] at eq
    exact ⟨e, le, ue, eq⟩
  · rw [State.pulseInc_next before, show s.now - a = 100000 by omega] at lo hi ⊢
    obtain ⟨e, le, ue, eq⟩ := incrementFor_removes lo hi
    rw [growth_of_millisecond] at eq
    exact ⟨e, le, ue, by omega⟩

theorem State.pulseInc_bounds (s : State) (n : Nat) : 2145336164 ≤ s.pulseInc n ∧ s.pulseInc n ≤ 2149631132 := by
  unfold State.pulseInc
  split <;> exact incrementFor_bounds ..

/-- A pulse takes a running cluster that strays as one that lost its clock, and no other. -/
theorem State.framePulse_loses (s : State) {n : Nat} (hn : n < 8) (runs : (s.cluster n).clockLost = false)
    (due : s.pulseDue (s.cluster n) = true) :
    ((s.each clustersAll (fun s n => s.pulseAt n)).cluster n).clockLost = true ↔ s.strays n := by
  obtain ⟨u, ⟨noted, now⟩, ⟨noted', -⟩⟩ := State.each_at
    (R := fun s t => (t.cluster n).unnoted = (s.cluster n).unnoted ∧ t.now = s.now) (fun s => ⟨rfl, rfl⟩)
    (fun s t u h h' => ⟨h'.1.trans h.1, h'.2.trans h.2⟩) (f := fun s n => s.pulseAt n) (n := n) (l := clustersAll) List.nodup_range (List.mem_range.mpr hn)
    (fun u x _ hne => ⟨(u.pulseAt_noted x).1 n (by simpa using Ne.symm hne), (u.pulseAt_noted x).2⟩) s
  have kept := ClusterX.eq_of_unnoted noted
  have counter : (u.cluster n).counter = (s.cluster n).counter := by rw [kept]
  have pulsed : (u.cluster n).pulsed = (s.cluster n).pulsed := by rw [kept]
  have runs' : (u.cluster n).clockLost = false := by rw [kept]; exact runs
  have due' : u.pulseDue (u.cluster n) = true := (State.pulseDue_of_kept pulsed now).trans due
  have lost : ((s.each clustersAll (fun s n => s.pulseAt n)).cluster n).clockLost = ((u.pulseAt n).cluster n).clockLost := by
    rw [ClusterX.eq_of_unnoted noted']
  rw [lost, ← State.strays_of_kept counter now]
  by_cases far : u.strays n
  · rw [State.pulseAt_strays runs' due' far]
    exact iff_of_true (congrArg ClusterX.clockLost (u.clockLoss_cluster n)) far
  · rw [State.pulseAt_cluster runs' due' far]
    exact iff_of_false (by simp [runs']) far

/-! ### The reference (R28) -/

theorem exec_referenceFail (s : State) : Answers .referenceFail s (fun t => Same [.events, .refFailAt, .regs, .timeFree] s t ∧
    RegsBut s t [evEventsLost] ∧ t.timeFree = true ∧ t.refFailAt = some s.now ∧
    (s.timeFree = false → s.enters 9 → t.recorded 9 0x17 255 false []) ∧ (s.timeFree = true → t.evRing = s.evRing)) := by
  have noted : Same [.events, .refFailAt, .regs, .timeFree] s { s with refFailAt := some s.now } := State.but_refFailAt s _ _ (by decide)
  cases free : s.timeFree with
  | true =>
    have run : exec .referenceFail s = .next { s with refFailAt := some s.now } := if_pos free
    exact ⟨_, run, noted, .of_regs (.refl s _) rfl, free, rfl, nofun, fun _ => rfl⟩
  | false =>
    have run : exec .referenceFail s = .next ({ s with refFailAt := some s.now, timeFree := true }.raise 9 0x17 255) := if_neg (by simp [free])
    refine ⟨_, run, (noted.trans (State.but_timeFree _ _ _ (by decide))).trans (by apply State.raise_but <;> decide),
      .raise (.of_regs (.refl s _) rfl) (by decide), by simp, by simp, fun _ enters => ?_, nofun⟩
    exact State.raise_recorded _ _ _ _ _ _ enters

theorem exec_timeFreeClear {s : State} {a : Nat} (h : s.refFailAt = some a) : exec .timeFreeClear s =
    if a + 10000000 ≤ s.now then .next { s with timeFree := false, refFailAt := none } else .next s := by
  change execTimeFreeClear s = _
  unfold execTimeFreeClear
  rw [h]
  by_cases past : a + 10000000 ≤ s.now
  · exact (if_pos (decide_eq_true past)).trans (if_pos past).symm
  · have early : s.passed a (msTicks 100) = false := decide_eq_false past
    exact (if_neg (by simp [early])).trans (if_neg past).symm

/-- Settles O5: each cluster takes the pulse by itself, and those that stray lose their clock. -/
theorem framePulseAndReferenceKeepTime : Obligations.FramePulseAndReferenceKeepTime := by
  unfold Obligations.FramePulseAndReferenceKeepTime
  refine ⟨⟨fun s supplied joined near => ?_, fun s supplied joined => ?_, fun s idle => ?_⟩, exec_referenceFail, fun s a h past => ?_,
    fun s a h soon => ?_⟩
  · have inStep : s.inStep := fun n hn runs => by
      have := near n hn runs
      unfold State.strays
      omega
    refine ⟨_, exec_framePulse supplied joined, ?_, fun n hn => ?_, fun n hn idle => State.framePulse_idle inStep hn idle, fun n hn runs due => ?_⟩
    · obtain ⟨-, -, -, -, same, -⟩ := State.framePulse_inStep inStep (n := 0) (by decide)
      exact same
    · by_cases idle : (s.cluster n).clockLost = true ∨ s.pulseDue (s.cluster n) = false
      · rw [State.framePulse_idle inStep hn idle]
      · obtain ⟨i, taken⟩ := State.framePulse_cluster inStep hn (by simpa using fun h => idle (.inl h)) (by simpa using fun h => idle (.inr h))
        rw [taken]
    · obtain ⟨i, taken⟩ := State.framePulse_cluster inStep hn runs due
      rw [taken]
      obtain ⟨lo, hi⟩ := s.pulseInc_bounds n
      exact ⟨rfl, rfl, lo, hi, State.pulseInc_law⟩
  · exact ⟨_, exec_framePulse supplied joined, fun n hn runs due => s.framePulse_loses hn runs due⟩
  · exact if_pos (by rcases idle with h | h <;> simp [h])
  · refine ⟨_, (exec_timeFreeClear h).trans (if_pos past), ?_, rfl, rfl⟩
    exact (State.but_refFailAt { s with timeFree := false } _ _ (by decide)).trans (State.but_timeFree s _ _ (by decide))
  · exact (exec_timeFreeClear h).trans (if_neg (by omega))

end Sys2Proof.Machine

namespace Sys2Proof.Machine

/-! ### Items of the commit point (R322 to R324) -/

theorem State.hears_owner {s : State} (h : s.serves = true) : s.hears .owner := ⟨h, nofun⟩

theorem ownerOr_of {r : Role} {p : Fin 16} (h : r = .owner ∨ r = .partition p) : ownerOr r p = true := by
  rcases h with rfl | rfl <;> simp [ownerOr]

theorem not_ownerOr_of {r : Role} {p : Fin 16} (h : r ≠ .owner) (h' : r ≠ .partition p) : ownerOr r p = false := by
  cases r with
  | owner => exact absurd rfl h
  | partition q => exact beq_false_of_ne (fun e => h' (congrArg _ (Fin.ext e)))
  | _ => rfl

theorem State.commitItem_run {s : State} {r : Role} (heard : s.hears r) (w : Nat) (good : Bool) :
    s.commitItem r true w 1 good = (s.commitRequest w good).countItem r :=
  State.item_run _ _ _ _ _ heard.1 heard.2 rfl rfl

theorem State.commitItem_discard {s : State} {r : Role} (heard : s.hears r) (w : Nat) (good : Bool) :
    s.commitItem r true w 2 good = (s.discardRequest w).countItem r :=
  State.item_run _ _ _ _ _ heard.1 heard.2 rfl rfl

theorem State.commitItem_noRight {s : State} {r : Role} (heard : s.hears r) (w : Nat) (b : Byte) (good : Bool) :
    s.commitItem r false w b good = (s.answer 0x0201).countItem r :=
  State.item_noRight _ _ _ _ heard.1 heard.2

/-- A refusal without effect ends the item. -/
theorem State.commitRequest_refuses {s : State} {w st : Nat} {good : Bool} (h : s.commitRequest w good = s.answer st) (r : Role) :
    ItemEnds r [] [] s ((s.commitRequest w good).countItem r) st := h ▸ .of_refused r st

/-- A commit request while its set's own is in progress, or another one is armed (R323). -/
theorem State.commitRequest_busy {s : State} {w : Nat} (h : s.setBusy w = true) (good : Bool) : s.commitRequest w good = s.answer 0x0401 := by
  unfold State.commitRequest
  exact if_pos h

theorem State.commitRequest_armed {s : State} {w : Nat} (h : s.setBusy w = false) (armed : s.armed ≠ none) (late : s.checking = false)
    (good : Bool) : s.commitRequest w good = s.answer 0x0403 := by
  unfold State.commitRequest
  rw [h, late, if_neg Bool.false_ne_true]
  exact if_pos (by simpa [Option.isSome_iff_ne_none] using armed)

theorem State.armed_of_checking {s : State} (h : s.checking = true) : s.armed.isSome = true := by
  unfold State.checking at h
  cases ha : s.armed with
  | none => simp [ha] at h
  | some a => rfl

theorem State.commitRequest_queued {s : State} {w : Nat} (h : s.setBusy w = false) (now : s.checking = true) (good : Bool) :
    s.commitRequest w good = (s.enqueue w).answer 2 := by
  unfold State.commitRequest
  rw [h, now, State.armed_of_checking now]
  rfl

theorem State.commitRequest_runs {s : State} {w : Nat} (free : s.armed = none) (empty : s.queueC = []) (good : Bool) : s.commitRequest w good =
    if (s.runCommit w good).armed.isSome then (s.runCommit w good).answer 2
    else (s.runCommit w good).answer ((s.runCommit w good).stageSet w).lastStatus := by
  have idle : s.setBusy w = false := by simp [State.setBusy, State.armedSet, free, empty]
  unfold State.commitRequest
  rw [idle, free, empty]
  rfl

/-- The place that a request takes in the queue (R323, Table 12-5): behind every one of an earlier tick and of a set before its own. -/
theorem State.enqueue_place (s : State) (w : Nat) : ∃ a b, s.queueC = a ++ b ∧ (s.enqueue w).queueC = a ++ (w, s.now) :: b ∧
    (∀ x ∈ a, x.2 ≠ s.now ∨ setRank x.1 < setRank w) ∧ ∀ x, b.head? = some x → x.2 = s.now ∧ setRank w ≤ setRank x.1 := by
  refine ⟨_, _, (List.takeWhile_append_dropWhile (p := fun x => x.2 != s.now || decide (setRank x.1 < setRank w))).symm, ?_,
    fun x hx => ?_, fun x hx => ?_⟩
  · simp [State.enqueue]
  · simpa using List.mem_takeWhile_imp hx
  · have stops := List.head?_dropWhile_not (fun x : Nat × Nat => x.2 != s.now || decide (setRank x.1 < setRank w)) s.queueC
    rw [hx] at stops
    simpa using stops

theorem State.enqueue_same (s : State) (w : Nat) : Same [.queueC] s (s.enqueue w) := State.but_queueC _ _ _ (by decide)

theorem State.queued_ends (s : State) (r : Role) (w : Nat) : ItemEnds r [.queueC] [] s (((s.enqueue w).answer 2).countItem r) 2 := by
  have waits := s.enqueue_same w
  refine .of ((waits.mono (by decide)).trans ?_) (.of_regs (.refl s _) (waits.regs (by decide))) rfl
  apply State.answer_but <;> decide

/-! ### Discards (R324) -/

theorem State.discardRequest_busy {s : State} {w : Nat} (h : s.setBusy w = true) : s.discardRequest w = s.answer 0x0401 := by
  unfold State.discardRequest
  exact if_pos h

theorem State.setStage_get (s : State) (w v : Nat) (x : StageSet) : (s.setStage w x).stageSet v = if v = w then x else s.stageSet v :=
  tabGet_set _ _ _ _ _

theorem State.countItem_stageSet (s : State) (r : Role) (w : Nat) : (s.countItem r).stageSet w = s.stageSet w :=
  s.countItem_get_stageSet r w

theorem State.discard_ends {s : State} {w : Nat} (h : s.setBusy w = false) (r : Role) :
    ItemEnds r [.sets] [] s ((s.discardRequest w).countItem r) 0 ∧ (((s.discardRequest w).countItem r).stageSet w).entries = [] ∧
    AllBut s.stageSet ((s.discardRequest w).countItem r).stageSet [w] := by
  have run : s.discardRequest w = (s.setStage w { s.stageSet w with entries := [] }).answer 0 := by
    unfold State.discardRequest
    exact if_neg (by simp [h])
  have emptied : Same [.sets] s (s.setStage w { s.stageSet w with entries := [] }) := by apply State.setStage_but; decide
  rw [run]
  refine ⟨.of ((emptied.mono (by decide)).trans (by apply State.answer_but <;> decide)) (.of_regs (.refl s _) rfl) rfl, ?_, fun v hv => ?_⟩
  · rw [State.countItem_stageSet]
    exact congrArg StageSet.entries ((State.setStage_get ..).trans (if_pos rfl))
  · rw [State.countItem_stageSet]
    exact (State.setStage_get ..).trans (if_neg (by simpa using hv))

/-! ### The commands -/

theorem exec_commit (r : Role) (good : Bool) (s : State) :
    exec (.commit r good) s = .next ((s.commitItem r (isOwner r) 16 1 good).deliver { fabricOk := good, senses := [] }) := rfl

theorem exec_partitionCommit (r : Role) (p : Fin 16) (good : Bool) (s : State) :
    exec (.partitionCommit r p good) s = .next ((s.commitItem r (ownerOr r p) p 1 good).deliver { fabricOk := good, senses := [] }) := rfl

theorem exec_commitDiscard (r : Role) (s : State) : exec (.commitDiscard r) s = .next (s.commitItem r (isOwner r) 16 2 true) := rfl

theorem exec_partitionCommitDiscard (r : Role) (p : Fin 16) (s : State) :
    exec (.partitionCommitDiscard r p) s = .next (s.commitItem r (ownerOr r p) p 2 true) := rfl

theorem exec_ownerCommit {s : State} (h : s.serves = true) (good : Bool) : exec (.commit .owner good) s =
    .next (((s.commitRequest 16 good).countItem .owner).deliver { fabricOk := good, senses := [] }) := by
  rw [exec_commit, show isOwner .owner = true from rfl, State.commitItem_run (State.hears_owner h)]

theorem exec_setCommit {s : State} {r : Role} {p : Fin 16} (heard : s.hears r) (may : r = .owner ∨ r = .partition p) (good : Bool) :
    exec (.partitionCommit r p good) s = .next (((s.commitRequest p good).countItem r).deliver { fabricOk := good, senses := [] }) := by
  rw [exec_partitionCommit, ownerOr_of may, State.commitItem_run heard]

theorem exec_ownerDiscard {s : State} (h : s.serves = true) : exec (.commitDiscard .owner) s = .next ((s.discardRequest 16).countItem .owner) := by
  rw [exec_commitDiscard, show isOwner .owner = true from rfl, State.commitItem_discard (State.hears_owner h)]

theorem exec_setDiscard {s : State} {r : Role} {p : Fin 16} (heard : s.hears r) (may : r = .owner ∨ r = .partition p) :
    exec (.partitionCommitDiscard r p) s = .next ((s.discardRequest p).countItem r) := by
  rw [exec_partitionCommitDiscard, ownerOr_of may, State.commitItem_discard heard]

theorem not_isOwner {r : Role} (h : r ≠ .owner) : isOwner r = false := decide_eq_false h

/-- Settles O9: each request is refused, queued or answered by the one branch of `commitRequest` or `discardRequest` that its case names. -/
theorem commitRequestsWaitAreRefusedOrDiscard : Obligations.CommitRequestsWaitAreRefusedOrDiscard := by
  unfold Obligations.CommitRequestsWaitAreRefusedOrDiscard
  refine ⟨⟨fun good s served idle armed late => ?_, fun good s served idle now => ?_, fun good s served busy => ?_,
    fun r p good s heard may idle armed late => ?_, fun r p good s heard may idle now => ?_, fun r p good s heard may busy => ?_⟩,
    fun s served idle => ?_, fun r p s heard may idle => ?_, fun s served busy => ?_, fun r p s heard may busy => ?_, fun r s heard no => ?_,
    fun r p s heard no no' => ?_⟩
  · exact ⟨_, exec_ownerCommit served good, State.commitRequest_refuses (State.commitRequest_armed idle armed late good) _⟩
  · refine ⟨_, exec_ownerCommit served good, ?_⟩
    rw [State.commitRequest_queued idle now]
    obtain ⟨a, b, before, after, ahead, behind⟩ := s.enqueue_place 16
    exact ⟨s.queued_ends _ _, a, b, before, (State.countItem_queueC ..).trans after, fun x hx => (ahead x hx).resolve_right (by simp [setRank]),
      fun x hx => (behind x hx).1⟩
  · exact ⟨_, exec_ownerCommit served good, State.commitRequest_refuses (State.commitRequest_busy busy good) _⟩
  · exact ⟨_, exec_setCommit heard may good, State.commitRequest_refuses (State.commitRequest_armed idle armed late good) _⟩
  · refine ⟨_, exec_setCommit heard may good, ?_⟩
    rw [State.commitRequest_queued idle now]
    obtain ⟨a, b, before, after, ahead, behind⟩ := s.enqueue_place p
    have own : setRank p = p + 1 := if_neg (by omega)
    refine ⟨s.queued_ends _ _, a, b, before, (State.countItem_queueC ..).trans after, fun x hx => (ahead x hx).imp_right (fun lower => ?_),
      fun x hx => ?_⟩
    · rw [own] at lower
      unfold setRank at lower
      split at lower <;> omega
    · obtain ⟨now', upper⟩ := behind x hx
      rw [own] at upper
      unfold setRank at upper
      refine ⟨now', ?_⟩
      split at upper <;> omega
  · exact ⟨_, exec_setCommit heard may good, State.commitRequest_refuses (State.commitRequest_busy busy good) _⟩
  · exact ⟨_, exec_ownerDiscard served, State.discard_ends idle _⟩
  · exact ⟨_, exec_setDiscard heard may, State.discard_ends idle _⟩
  · exact ⟨_, exec_ownerDiscard served, State.discardRequest_busy busy ▸ .of_refused _ _⟩
  · exact ⟨_, exec_setDiscard heard may, State.discardRequest_busy busy ▸ .of_refused _ _⟩
  · refine ⟨_, exec_commitDiscard r s, ?_⟩
    rw [not_isOwner no, State.commitItem_noRight heard]
    exact .of_refused _ _
  · refine ⟨_, exec_partitionCommitDiscard r p s, ?_⟩
    rw [not_ownerOr_of no no', State.commitItem_noRight heard]
    exact .of_refused _ _

end Sys2Proof.Machine

namespace Sys2Proof.Machine

/-! ### The check phase (R16, R110) -/

/-- A test that passes, or has no line to touch. -/
theorem State.fabricTest_passes {s : State} {good : Bool} (h : good = true ∨ s.testLines = []) :
    (s.fabricTest good).2 = true ∧ Same [.regs] s (s.fabricTest good).1 ∧ RegsBut s (s.fabricTest good).1 [fabsFabricUntested] := by
  unfold State.fabricTest
  extract_lets l
  split
  · exact ⟨rfl, .refl _ s, .refl s _⟩
  · rename_i lines
    have passes : good = true := h.resolve_right (fun e => lines (by simp [l, e]))
    rw [if_pos passes]
    exact ⟨rfl, State.setReg_but _ _ _ _ (by decide), .setReg (.refl s _) (by decide)⟩

/-- A test that fails on a line. -/
theorem State.fabricTest_fails {s : State} {good : Bool} (h : good = false) (lines : s.testLines ≠ []) :
    s.fabricTest good = ({ s with fabricFault := true, safeN := false }.raise 9 0x1F 255, false) := by
  unfold State.fabricTest
  rw [h]
  exact (if_neg (by simpa using lines)).trans (if_neg Bool.false_ne_true)

theorem State.checkReport_same (s : State) (w : Nat) (x : Fail) : Same [.regs, .sets] s (s.checkReport (.set w) x) := by
  apply State.checkReport_but <;> decide

/-- Registers that a further step leaves alone. -/
theorem RegsBut.then_same {s t u : State} {l : List Nat} {f : List Fld} (h : RegsBut s t l) (h' : Same f t u) (hf : Fld.regs ∉ f) : RegsBut s u l :=
  h.of_regs (h'.regs hf)

theorem State.checkReport_eq (s : State) (w : Nat) (x : Fail) : ∃ r, s.checkReport (.set w) x =
    ((s.setReg diagCheckReport x.word).setReg diagCheckTick s.now).setStage w
      { ((s.setReg diagCheckReport x.word).setReg diagCheckTick s.now).stageSet w with lastReport := r } := by
  unfold State.checkReport
  extract_lets t
  exact ⟨_, rfl⟩

theorem State.checkReport_regs (s : State) (w : Nat) (x : Fail) : RegsBut s (s.checkReport (.set w) x) [diagCheckReport, diagCheckTick] := by
  obtain ⟨r, e⟩ := s.checkReport_eq w x
  rw [e]
  exact .of_regs (.setReg (.setReg (.refl s _) (by decide)) (by decide)) (State.setStage_regs ..)

theorem State.checkReport_word (s : State) (w : Nat) (x : Fail) : (s.checkReport (.set w) x).reg diagCheckReport = x.word := by
  obtain ⟨r, e⟩ := s.checkReport_eq w x
  rw [e, State.setStage_get_reg, State.setReg_reg_ne _ _ _ _ (by simp), State.setReg_reg_same]

theorem State.checkReport_entries (s : State) (w v : Nat) (x : Fail) :
    ((s.checkReport (.set w) x).stageSet v).entries = (s.stageSet v).entries := by
  obtain ⟨r, e⟩ := s.checkReport_eq w x
  rw [e, State.setStage_get]
  split
  · subst v
    rw [State.setReg_get_stageSet, State.setReg_get_stageSet]
  · rw [State.setReg_get_stageSet, State.setReg_get_stageSet]

/-- What the check phase of a set changes. -/
theorem State.checkPhase_same (s : State) (w : Nat) (good : Bool) :
    Same [.events, .fabricFault, .regs, .safeN, .sets] s (s.checkPhase (.set w) good).1 := by
  apply State.checkPhase_but <;> decide

theorem State.checkPhase_fails {s : State} {x : Fail} (h : s.checkAll s.shad = some x) (w : Nat) (good : Bool) :
    s.checkPhase (.set w) good = (s.checkReport (.set w) x, x.st) := by
  unfold State.checkPhase
  rw [h]

theorem State.checkPhase_passes {s : State} (h : s.checkAll s.shad = none) {good : Bool} (test : good = true ∨ s.testLines = []) (w : Nat) :
    s.checkPhase (.set w) good = ((s.fabricTest good).1.checkReport (.set w) { st := 0 }, 0) := by
  unfold State.checkPhase
  rw [h]
  dsimp only
  rw [(State.fabricTest_passes test).1]
  rfl

theorem State.checkPhase_untested {s : State} (h : s.checkAll s.shad = none) {good : Bool} (bad : good = false) (lines : s.testLines ≠ []) (w : Nat) :
    s.checkPhase (.set w) good =
      ((({ s with fabricFault := true, safeN := false } : State).raise 9 0x1F 255).checkReport (.set w) { st := 0x0701 }, 0x0701) := by
  unfold State.checkPhase
  rw [h]
  dsimp only
  rw [State.fabricTest_fails bad lines]
  rfl

theorem State.checkPhase_entries (s : State) (w v : Nat) (good : Bool) :
    ((s.checkPhase (.set w) good).1.stageSet v).entries = (s.stageSet v).entries := by
  have tested : Same [.events, .fabricFault, .regs, .safeN] s (s.fabricTest good).1 := by apply State.fabricTest_but <;> decide
  have kept := congrArg StageSet.entries (tested.get_stageSet (by decide) v)
  unfold State.checkPhase
  split
  · exact State.checkReport_entries ..
  · split
    rename_i t passed e
    rw [e] at kept
    split
    · exact (State.checkReport_entries ..).trans kept
    · exact (State.checkReport_entries ..).trans kept

/-! ### The end of a commit (R17) -/

/-- A commit of a set that ends with a status. -/
theorem State.setEnds_same (s : State) (w st : Nat) : Same [.events, .regs, .sets, .waits] s (s.commitEnds (.set w) st) := by
  unfold State.commitEnds
  simp [Same, ↓State.endWaits_but, ↓State.raise_but, ↓State.setStage_but, ↓State.setReg_but]

theorem State.setEnds_eq (s : State) (w st : Nat) : s.commitEnds (.set w) st =
    (((s.setReg profLastCommitStatus st).setStage w { s.stageSet w with lastStatus := st }).raise 10 2 (writerPart w) false (two st)).endWaits w st :=
  rfl

theorem State.endWaits_same (s : State) (what st : Nat) : Same [.waits] s (s.endWaits what st) := State.endWaits_but s what st _ (by decide)

theorem State.setEnds_regs (s : State) (w st : Nat) : RegsBut s (s.commitEnds (.set w) st) [profLastCommitStatus, evEventsLost] := by
  rw [State.setEnds_eq]
  have stated : RegsBut s (s.setReg profLastCommitStatus st) [profLastCommitStatus, evEventsLost] := .setReg (.refl s _) (by decide)
  exact (RegsBut.raise (stated.of_regs (State.setStage_regs ..)) (by decide)).then_same (State.endWaits_same ..) (by decide)

theorem State.setEnds_status (s : State) (w st : Nat) : (s.commitEnds (.set w) st).reg profLastCommitStatus = st := by
  rw [State.setEnds_eq, (State.endWaits_same ..).get_reg (by decide), State.raise_reg_ne _ _ _ _ _ _ _ (by decide), State.setStage_get_reg,
    State.setReg_reg, if_pos rfl]

theorem State.setEnds_set (s : State) (w v st : Nat) : (s.commitEnds (.set w) st).stageSet v =
    if v = w then { s.stageSet w with lastStatus := st } else s.stageSet v := by
  rw [State.setEnds_eq, (State.endWaits_same ..).get_stageSet (by decide), State.raise_get_stageSet, State.setStage_get,
    State.setReg_get_stageSet]

theorem State.endWaits_none {s : State} (h : s.waits = []) (what st : Nat) : (s.endWaits what st).waits = [] := by
  unfold State.endWaits
  simp [h]

theorem State.setEnds_waits {s : State} (h : s.waits = []) (w st : Nat) : (s.commitEnds (.set w) st).waits = [] := by
  rw [State.setEnds_eq]
  refine State.endWaits_none ?_ w st
  rw [State.raise_waits, State.setStage_waits, State.setReg_waits, h]

/-- With no request that waits nothing is sent. -/
theorem State.deliver_none {s : State} (h : s.waits = []) (hw : Hw) : s.deliver hw = s := by
  have stops : ∀ n, s.deliverLoop n hw = s := fun n => by
    cases n with
    | zero => rfl
    | succ n =>
      unfold State.deliverLoop
      rw [h]
      rfl
  unfold State.deliver
  rw [stops, ite_self]

/-! ### The commit of a set (R16, R322) -/

theorem State.runCommit_refused {s : State} {w : Nat} {good : Bool} {t : State} {st : Nat}
    (h : (s.stageEntries w).checkPhase (.set w) good = (t, st)) (ne : st ≠ 0) :
    s.runCommit w good = { t with shadow := t.active }.commitEnds (.set w) st := by
  unfold State.runCommit
  rw [h]
  exact if_neg ne

theorem State.runCommit_armed {s : State} {w : Nat} {good : Bool} {t : State}
    (h : (s.stageEntries w).checkPhase (.set w) good = (t, 0)) : s.runCommit w good = t.arm (.set w) := by
  unfold State.runCommit
  rw [h]
  rfl

theorem State.runCommit_entries (s : State) (w v : Nat) (good : Bool) : ((s.runCommit w good).stageSet v).entries = (s.stageSet v).entries := by
  have checked : (((s.stageEntries w).checkPhase (.set w) good).1.stageSet v).entries = (s.stageSet v).entries := State.checkPhase_entries ..
  cases h : (s.stageEntries w).checkPhase (.set w) good with
  | mk t st =>
    rw [h] at checked
    by_cases z : st = 0
    · rw [State.runCommit_armed (z ▸ h)]
      exact checked
    · rw [State.runCommit_refused h z, State.setEnds_set]
      split
      · subst v
        exact checked
      · exact checked

theorem State.runCommit_waits {s : State} (none : s.waits = []) (w : Nat) (good : Bool) : (s.runCommit w good).waits = [] := by
  have checked := (((s.stageEntries w).checkPhase_same w good).waits (by decide)).trans none
  cases h : (s.stageEntries w).checkPhase (.set w) good with
  | mk t st =>
    rw [h] at checked
    by_cases z : st = 0
    · rw [State.runCommit_armed (z ▸ h)]
      exact checked
    · rw [State.runCommit_refused h z]
      exact State.setEnds_waits (s := { t with shadow := t.active }) checked w st

/-- What the commit of a set leaves. -/
theorem State.runCommit_same (s : State) (w : Nat) (good : Bool) :
    Same [.armed, .events, .fabricFault, .regs, .safeN, .sets, .shadow, .switchSt, .waits] s (s.runCommit w good) := by
  apply State.runCommit_but <;> decide

theorem State.stageEntries_same (s : State) (w : Nat) : Same [.shadow] s (s.stageEntries w) := by apply State.stageEntries_but; decide

theorem State.arm_armed (s : State) (k : CommitKind) : (s.arm k).armed =
    some { kind := k, tick := s.now + usTicks (s.reg profCommitLead), since := s.now, ready := s.participantsReady } := rfl

theorem State.arm_shadow (s : State) (k : CommitKind) : (s.arm k).shadow = s.shadow := rfl

/-- With every check passed, and the test, the commit is armed. -/
theorem State.runCommit_arms {s : State} {w : Nat} {good : Bool} (h : (s.stageEntries w).checkAll (s.stageEntries w).shad = none)
    (test : good = true ∨ s.testLines = []) : (s.runCommit w good).armed =
      some { kind := .set w, tick := s.now + usTicks (s.reg profCommitLead), since := s.now, ready := s.participantsReady } ∧
    (s.runCommit w good).shadow = (s.stageEntries w).shadow := by
  have staged := s.stageEntries_same w
  have passed := State.checkPhase_passes h (good := good) test w
  obtain ⟨-, tested, untested⟩ := State.fabricTest_passes (s := s.stageEntries w) test
  rw [State.runCommit_armed passed, State.arm_armed, State.arm_shadow]
  generalize (s.stageEntries w).fabricTest good = x at *
  have reported := (tested.mono (m := [.regs, .sets]) (by decide)).trans (x.1.checkReport_same w { st := 0 })
  have all : Same [.regs, .sets, .shadow] s (x.1.checkReport (.set w) { st := 0 }) :=
    (staged.mono (by decide)).trans (reported.mono (by decide))
  have lead : (x.1.checkReport (.set w) { st := 0 }).reg profCommitLead = s.reg profCommitLead := by
    rw [State.checkReport_regs _ w _ _ (by decide), untested _ (by decide), staged.get_reg (by decide)]
  have ready : (x.1.checkReport (.set w) { st := 0 }).participantsReady = s.participantsReady := by
    unfold State.participantsReady State.cluster
    rw [all.clusters (by decide), all.islandBad (by decide)]
  rw [lead, ready, all.now (by decide), reported.shadow (by decide)]
  exact ⟨rfl, rfl⟩

/-- A commit that ends in its check phase, with the state in which its refusal is reported. -/
theorem State.runCommit_ends {s : State} {w : Nat} {good : Bool} {t : State} {st : Nat} (free : s.armed = none)
    (h : (s.stageEntries w).checkPhase (.set w) good = (t, st)) (ne : st ≠ 0) :
    (s.runCommit w good).armed = none ∧ (s.runCommit w good).shadow = s.active ∧ ((s.runCommit w good).stageSet w).lastStatus = st ∧
    (s.runCommit w good).reg profLastCommitStatus = st ∧ (s.runCommit w good).fabricFault = t.fabricFault ∧
    (s.runCommit w good).safeN = t.safeN ∧ (s.runCommit w good).reg diagCheckReport = t.reg diagCheckReport := by
  have checked := (s.stageEntries w).checkPhase_same w good
  rw [h] at checked
  rw [State.runCommit_refused h ne]
  have ends := ({ t with shadow := t.active } : State).setEnds_same w st
  refine ⟨(ends.armed (by decide)).trans ((checked.armed (by decide)).trans free), (ends.shadow (by decide)).trans (checked.active (by decide)),
    ?_, State.setEnds_status .., ends.fabricFault (by decide), ends.safeN (by decide), State.setEnds_regs _ _ _ _ (by decide)⟩
  rw [State.setEnds_set, if_pos rfl]

/-- The stage and check phases of a set, when no commit is armed. -/
theorem State.runCommit_stageAndCheck {s : State} (free : s.armed = none) (w : Nat) (good : Bool) : StageAndCheck s (s.runCommit w good) w good := by
  have same := s.runCommit_same w good
  refine ⟨same.active (by decide), same.committed (by decide), same.parts (by decide), same.chans (by decide), same.ens (by decide),
    s.runCommit_entries w w good, State.runCommit_arms, fun h bad lines => ?_, fun x h ne => ?_⟩
  · obtain ⟨armed, shadow, set, status, fault, safe, -⟩ := State.runCommit_ends free (State.checkPhase_untested h bad lines w) (by decide)
    have reported := ((({ s.stageEntries w with fabricFault := true, safeN := false } : State).raise 9 0x1F 255).checkReport_same w { st := 0x0701 })
    exact ⟨armed, shadow, fault.trans ((reported.fabricFault (by decide)).trans (State.raise_fabricFault ..)),
      safe.trans ((reported.safeN (by decide)).trans (State.raise_safeN ..)), set, status⟩
  · obtain ⟨armed, shadow, set, status, fault, -, report⟩ := State.runCommit_ends free (State.checkPhase_fails h w good) ne
    exact ⟨armed, shadow, fault.trans ((State.checkReport_same ..).fabricFault (by decide)), set, status,
      report.trans (State.checkReport_word ..)⟩

/-! ### The queue and an abandoned commit (R17, R323) -/

theorem State.queueStart_takes {s : State} {w tick : Nat} {rest : List (Nat × Nat)} (h : s.queueC = (w, tick) :: rest) (free : s.armed = none)
    (good : Bool) : s.queueStart good = ({ s with queueC := rest }).runCommit w good := by
  unfold State.queueStart
  rw [h, free]
  rfl

theorem State.queueStart_stands {s : State} (h : s.armed ≠ none ∨ s.queueC = []) (good : Bool) : s.queueStart good = s := by
  unfold State.queueStart
  split
  · rfl
  · rename_i x rest hq
    have armed : s.armed ≠ none := h.resolve_right (by simp [hq])
    exact if_pos (Option.isSome_iff_ne_none.mpr armed)

theorem exec_commitQueueStart {s : State} (up : s.mgmtDown = false) (good : Bool) :
    exec (.commitQueueStart good) s = .next ((s.queueStart good).deliver { fabricOk := good, senses := [] }) := if_neg (by simp [up])

/-- The commit of a set does not read the queue. -/
theorem StageAndCheck.of_queue {s u : State} {rest : List (Nat × Nat)} {w : Nat} {good : Bool}
    (h : StageAndCheck { s with queueC := rest } u w good) : StageAndCheck s u w good := h

/-- What an abandoned commit leads to: the end of its request, or the power-up's next shelf. -/
def State.abandoned (s : State) (k : CommitKind) (hw : Hw) : State :=
  match k with
  | .powerUp n => (({ s with armed := none } : State).commitEnds k 0x0404).powerUpAbandoned n hw
  | _ => (({ s with armed := none } : State).commitEnds k 0x0404).deliver hw

/-- A commit that is armed at T less 2 µs or later is abandoned. -/
theorem exec_commitAbandon {s : State} {a : Armed} (h : s.armed = some a) (late : a.tick ≤ s.now + 200) (part : Participant) (hw : Hw) :
    exec (.commitAbandon part hw) s = .next (s.abandoned a.kind hw) := by
  have passed : ¬ s.now + usTicks 2 < a.tick := by
    simp only [usTicks]
    omega
  change execCommitAbandon part hw s = _
  unfold execCommitAbandon
  rw [h]
  obtain ⟨kind, tick, since, ready⟩ := a
  cases kind with
  | set w => exact if_neg passed
  | switch n pin => exact if_neg passed
  | powerUp n => exact if_neg passed

theorem exec_commitAbandon_early {s : State} {a : Armed} (h : s.armed = some a) (early : s.now + 200 < a.tick) (part : Participant) (hw : Hw) :
    exec (.commitAbandon part hw) s = .next s := by
  change execCommitAbandon part hw s = _
  unfold execCommitAbandon
  rw [h]
  exact if_pos (by simp only [usTicks]; omega)

theorem exec_commitAbandon_none {s : State} (h : s.armed = none) (part : Participant) (hw : Hw) : exec (.commitAbandon part hw) s = .next s := by
  change execCommitAbandon part hw s = _
  unfold execCommitAbandon
  rw [h]
  rfl

theorem State.disarm_same (s : State) : Same [.armed] s { s with armed := none } := State.but_armed _ _ _ (by decide)

theorem setAbandon_ends {s : State} {a : Armed} {w : Nat} (h : s.armed = some a) (kind : a.kind = .set w) (late : a.tick ≤ s.now + 200)
    (part : Participant) (hw : Hw) : Answers (.commitAbandon part hw) s (fun t => ∃ u : State, t = u.deliver hw ∧ (s.waits = [] → t = u) ∧
      u.armed = none ∧ u.active = s.active ∧ u.shadow = s.shadow ∧
      u.committed = s.committed ∧ u.reg profLastCommitStatus = 0x0404 ∧ (u.stageSet w).lastStatus = 0x0404 ∧
      (u.stageSet w).entries = (s.stageSet w).entries ∧ AllBut s.stageSet u.stageSet [w] ∧
      Same [.armed, .regs, .sets, .events, .waits] s u ∧ RegsBut s u [profLastCommitStatus, evEventsLost]) := by
  have run := exec_commitAbandon h late part hw
  rw [kind] at run
  have ends := ({ s with armed := none } : State).setEnds_same w 0x0404
  have same : Same [.armed, .regs, .sets, .events, .waits] s (({ s with armed := none } : State).commitEnds (.set w) 0x0404) :=
    (s.disarm_same.mono (by decide)).trans (ends.mono (by decide))
  refine ⟨_, run, _, rfl, fun none => State.deliver_none (State.setEnds_waits (s := { s with armed := .none }) none w _) hw,
    ends.armed (by decide), same.active (by decide), same.shadow (by decide), same.committed (by decide), State.setEnds_status .., ?_, ?_,
    fun v hv => ?_, same, State.setEnds_regs { s with armed := none } w _⟩
  · rw [State.setEnds_set, if_pos rfl]
  · rw [State.setEnds_set, if_pos rfl]
    rfl
  · rw [State.setEnds_set, if_neg (by simpa using hv)]
    rfl

/-- No switch is in progress any more. -/
def State.switchIdle (s : State) : State := { s with switchSt := 0 }

theorem State.switchIdle_same (s : State) : Same [.switchSt] s s.switchIdle := State.but_switchSt _ _ _ (by decide)

theorem State.switchEnds_eq (s : State) (n : Nat) (pin : Bool) (st : Nat) : s.commitEnds (.switch n pin) st =
    (((s.setReg profLastCommitStatus st).switchIdle.raise 10 0x55 255 false
      ([BitVec.ofNat 8 n] ++ two st ++ [BitVec.ofNat 8 ((s.setReg profLastCommitStatus st).reg (shelfStatus n))])).endWaits 17 st) := rfl

theorem switchAbandon_ends {s : State} {a : Armed} {n : Nat} {pin : Bool} (h : s.armed = some a) (kind : a.kind = .switch n pin)
    (late : a.tick ≤ s.now + 200) (part : Participant) (hw : Hw) :
    Answers (.commitAbandon part hw) s (fun t => ∃ u : State, t = u.deliver hw ∧ (s.waits = [] → t = u) ∧
      u.armed = none ∧ u.switchSt = 0 ∧ u.reg profLastCommitStatus = 0x0404 ∧
      (s.mgmtDown = false → u.recorded 10 0x55 255 false ([BitVec.ofNat 8 n] ++ two 0x0404 ++ [BitVec.ofNat 8 (s.reg (shelfStatus n))])) ∧
      Same [.armed, .regs, .switchSt, .events, .waits] s u ∧ RegsBut s u [profLastCommitStatus, evEventsLost]) := by
  have run := exec_commitAbandon h late part hw
  rw [kind] at run
  refine ⟨_, run, ({ s with armed := none } : State).commitEnds (.switch n pin) 0x0404, rfl, ?_⟩
  change (s.waits = [] → (({ s with armed := none } : State).commitEnds (.switch n pin) 0x0404).deliver hw = _) ∧ _
  have shelf : ((({ s with armed := none } : State).setReg profLastCommitStatus 0x0404)).reg (shelfStatus n) = s.reg (shelfStatus n) :=
    (State.setReg_reg ..).trans (if_neg (by simp))
  rw [State.switchEnds_eq, shelf]
  generalize hb : [BitVec.ofNat 8 n] ++ two 0x0404 ++ [BitVec.ofNat 8 (s.reg (shelfStatus n))] = b
  generalize hv : (({ s with armed := none } : State).setReg profLastCommitStatus 0x0404).switchIdle = v
  have stated : Same [.armed, .regs, .switchSt] s v := by
    rw [← hv]
    have stated := (s.disarm_same.mono (m := [.armed, .regs, .switchSt]) (by decide)).trans (State.setReg_but _ profLastCommitStatus 0x0404 _ (by decide))
    exact stated.trans ((State.switchIdle_same _).mono (by decide))
  have regs : RegsBut s v [profLastCommitStatus, evEventsLost] := by
    rw [← hv]
    exact (RegsBut.setReg (.then_same (.refl s _) s.disarm_same (by decide)) (by decide)).then_same (State.switchIdle_same _) (by decide)
  have status : v.reg profLastCommitStatus = 0x0404 := by
    rw [← hv]
    rw [(State.switchIdle_same _).get_reg (by decide), State.setReg_reg, if_pos rfl]
  have free : v.armed = none ∧ v.switchSt = 0 := by
    rw [← hv]
    exact ⟨rfl, rfl⟩
  have told := (v.raise_same 10 0x55 255 false b).mono (m := [.regs, .events, .waits]) (by decide) |>.trans
    ((State.endWaits_same _ 17 0x0404).mono (by decide))
  have raised : (v.raise 10 0x55 255 false b).waits = v.waits := State.raise_waits ..
  refine ⟨fun none => State.deliver_none (State.endWaits_none (raised.trans ((stated.waits (by decide)).trans none)) _ _) hw,
    (told.armed (by decide)).trans free.1, (told.switchSt (by decide)).trans free.2, ?_, fun up => ?_,
    (stated.mono (by decide)).trans (told.mono (by decide)), (regs.raise (by decide)).then_same (State.endWaits_same ..) (by decide)⟩
  · rw [(State.endWaits_same ..).get_reg (by decide), State.raise_reg_ne _ _ _ _ _ _ _ (by decide), status]
  · exact v.raise_recorded _ _ _ _ _ ⟨(stated.mgmtDown (by decide)).trans up, .inl rfl⟩

theorem powerUpAbandon_ends {s : State} {a : Armed} {n : Nat} (h : s.armed = some a) (kind : a.kind = .powerUp n) (late : a.tick ≤ s.now + 200)
    (part : Participant) (hw : Hw) : Answers (.commitAbandon part hw) s (fun t => ∃ u : State, u.armed = none ∧ u.reg profLastCommitStatus = 0x0404 ∧
      Same [.armed, .regs] s u ∧ RegsBut s u [profLastCommitStatus] ∧
      (s.mgmtDown = true → t = { u with supply := { u.supply with loadNext := some n } }) ∧
      (s.mgmtDown = false → n = s.supply.psel → t = u.tryFallback hw) ∧
      (s.mgmtDown = false → n ≠ s.supply.psel → Same [.events, .regs] u t ∧ RegsBut u t [evEventsLost] ∧
        t.recorded 10 0x56 255 false [BitVec.ofNat 8 s.supply.psel, BitVec.ofNat 8 (s.reg (shelfStatus s.supply.psel)),
          BitVec.ofNat 8 (s.reg profFallbackShelf), BitVec.ofNat 8 (s.reg (shelfStatus (s.reg profFallbackShelf))), 255])) := by
  have run := exec_commitAbandon h late part hw
  rw [kind] at run
  generalize hu : ({ s with armed := none } : State).setReg profLastCommitStatus 0x0404 = u
  have result : s.abandoned (.powerUp n) hw = u.powerUpAbandoned n hw := by
    rw [← hu]
    rfl
  rw [result] at run
  have same : Same [.armed, .regs] s u := by
    rw [← hu]
    exact (State.setReg_but _ _ _ _ (by decide)).trans (State.but_armed _ _ _ (by decide))
  have regs : RegsBut s u [profLastCommitStatus] := by
    rw [← hu]
    exact .setReg (.of_regs (.refl s _) rfl) (by decide)
  have free : u.armed = none := by
    rw [← hu]
    rfl
  have status : u.reg profLastCommitStatus = 0x0404 := by
    rw [← hu]
    exact (State.setReg_reg ..).trans (if_pos rfl)
  have plane := same.mgmtDown (by decide)
  have supply := same.supply (by decide)
  refine ⟨_, run, u, free, status, same, regs, fun down => ?_, fun up own => ?_, fun up other => ?_⟩
  · exact if_pos (plane.trans down)
  · unfold State.powerUpAbandoned
    rw [if_neg (by simp [plane, up]), if_pos (by rw [supply, own])]
  · have event : u.powerUpAbandoned n hw = u.fallbackEvent true 255 := by
      unfold State.powerUpAbandoned
      rw [if_neg (by simp [plane, up]), if_neg (by rw [supply]; exact other)]
    rw [event]
    have shelf : ∀ k, u.reg (shelfStatus k) = s.reg (shelfStatus k) := fun k => regs _ (by simp)
    have fallback : u.reg profFallbackShelf = s.reg profFallbackShelf := regs _ (by decide)
    rw [← supply, ← shelf, ← fallback, ← shelf]
    exact ⟨u.raise_same .., .raise (.refl u _) (by decide), u.raise_recorded _ _ _ _ _ ⟨plane.trans up, .inl rfl⟩⟩

/-- Settles O10: the queue is served by the run of a commit, and an abandoned one ends as its kind says. -/
theorem queuedAndUnconfirmedCommits : Obligations.QueuedAndUnconfirmedCommits := by
  unfold Obligations.QueuedAndUnconfirmedCommits
  refine ⟨⟨fun w tick rest good s up queue free => ?_, fun good s up stands => ?_, fun good s down => if_pos down⟩,
    fun part hw w a s h kind late => setAbandon_ends h kind late part hw, fun part hw n pin a s h kind late => switchAbandon_ends h kind late part hw,
    fun part hw n a s h kind late => powerUpAbandon_ends h kind late part hw, fun part hw a s h early => exec_commitAbandon_early h early part hw,
    fun part hw s h => exec_commitAbandon_none h part hw⟩
  · have run := exec_commitQueueStart up good
    rw [State.queueStart_takes queue free] at run
    refine ⟨_, run, _, rfl, fun none => State.deliver_none (State.runCommit_waits (s := { s with queueC := rest }) none w good) _,
      StageAndCheck.of_queue (State.runCommit_stageAndCheck (s := { s with queueC := rest }) free w good), ?_⟩
    exact (State.runCommit_same _ w good).queueC (by decide)
  · have run := exec_commitQueueStart up good
    rw [State.queueStart_stands stands] at run
    exact ⟨_, run, rfl, fun none => State.deliver_none none _⟩

end Sys2Proof.Machine

namespace Sys2Proof.Machine

/-! ### What a swap leaves in the units (R18 to R20) -/

theorem rk_object (b u x : Nat) : rk b u x / 16777216 = b := by
  unfold rk
  omega

/-- An operation over a list, seen from what each of its steps leaves. -/
theorem State.each_rel {R : State → State → Prop} (refl : ∀ s, R s s) (trans : ∀ s t u, R s t → R t u → R s u) {f : State → Nat → State}
    (h : ∀ u x, R u (f u x)) (l : List Nat) (s : State) : R s (s.each l f) := by
  induction l generalizing s with
  | nil => exact refl s
  | cons x l ih => exact trans _ _ _ (h s x) (ih _)

/-- The states and lines of the partitions, the states of the channels, the levels of the enables and the registers of the profile object are as
they were. -/
structure UnitsKept (s t : State) : Prop where
  parts : ∀ p, (t.part p).state = (s.part p).state ∧ (t.part p).line = (s.part p).line
  chans : ∀ c, (t.chan c).state = (s.chan c).state
  ens : ∀ e, (t.en e).asserted = (s.en e).asserted
  profile : ∀ k, k / 16777216 = 0x1100 → t.reg k = s.reg k

theorem UnitsKept.refl (s : State) : UnitsKept s s := ⟨fun _ => ⟨rfl, rfl⟩, fun _ => rfl, fun _ => rfl, fun _ _ => rfl⟩

theorem UnitsKept.trans {s t u : State} (h : UnitsKept s t) (h' : UnitsKept t u) : UnitsKept s u :=
  ⟨fun p => ⟨(h'.parts p).1.trans (h.parts p).1, (h'.parts p).2.trans (h.parts p).2⟩, fun c => (h'.chans c).trans (h.chans c),
    fun e => (h'.ens e).trans (h.ens e), fun k hk => (h'.profile k hk).trans (h.profile k hk)⟩

theorem UnitsKept.of_same {f : List Fld} {s t : State} (h : Same f s t) (hf : ∀ x ∈ [Fld.parts, .chans, .ens, .regs], x ∉ f) : UnitsKept s t := by
  have hp := hf .parts (by decide)
  have hc := hf .chans (by decide)
  have he := hf .ens (by decide)
  have hr := hf .regs (by decide)
  exact ⟨fun p => by rw [h.get_part hp]; exact ⟨rfl, rfl⟩, fun c => by rw [h.get_chan hc], fun e => by rw [h.get_en he],
    fun k _ => h.get_reg hr k⟩

theorem UnitsKept.each {f : State → Nat → State} (h : ∀ u x, UnitsKept u (f u x)) (l : List Nat) (s : State) : UnitsKept s (s.each l f) :=
  State.each_rel .refl (fun _ _ _ => .trans) h l s

theorem UnitsKept.ite {c : Prop} [Decidable c] {s t u : State} (ht : UnitsKept s t) (hu : UnitsKept s u) : UnitsKept s (if c then t else u) := by
  split
  · exact ht
  · exact hu

theorem State.setReg_unitsKept (s : State) {k : Nat} (v : Nat) (h : k / 16777216 ≠ 0x1100) : UnitsKept s (s.setReg k v) :=
  ⟨fun _ => ⟨rfl, rfl⟩, fun _ => rfl, fun _ => rfl, fun _ hj => State.setReg_reg_ne _ _ _ _ (fun e => h (e ▸ hj))⟩

theorem State.raise_unitsKept (s : State) (d c p : Nat) (cl : Bool) (x : Bytes) : UnitsKept s (s.raise d c p cl x) :=
  ⟨fun q => by rw [State.raise_get_part]; exact ⟨rfl, rfl⟩, fun q => by rw [State.raise_get_chan], fun e => by rw [State.raise_get_en],
    fun k hk => State.raise_reg_ne _ _ _ _ _ _ _ (fun e => by rw [e, rk_object] at hk; cases hk)⟩

theorem State.setPart_unitsKept (s : State) {p : Nat} {x : PartX} (hs : x.state = (s.part p).state) (hl : x.line = (s.part p).line) :
    UnitsKept s (s.setPart p x) := by
  refine ⟨fun q => ?_, fun _ => rfl, fun _ => rfl, fun _ _ => rfl⟩
  rw [State.setPart_get]
  split
  · subst q
    exact ⟨hs, hl⟩
  · exact ⟨rfl, rfl⟩

theorem State.setChan_unitsKept (s : State) {c : Nat} {x : ChanX} (hs : x.state = (s.chan c).state) : UnitsKept s (s.setChan c x) := by
  refine ⟨fun _ => ⟨rfl, rfl⟩, fun d => ?_, fun _ => rfl, fun _ _ => rfl⟩
  rw [State.setChan_get]
  split
  · subst d
    exact hs
  · rfl

/-! ### The steps of a swap -/

theorem State.warnClear_unitsKept (s : State) (c : Nat) (quiet : Bool) : UnitsKept s (s.warnClear c quiet) := by
  unfold State.warnClear
  extract_lets x u v
  have cleared : UnitsKept s u := s.setChan_unitsKept rfl
  have upper : UnitsKept u v := .ite (State.raise_unitsKept ..) (.refl u)
  exact (cleared.trans upper).trans (.ite (State.raise_unitsKept ..) (.refl v))

theorem State.settleTokens_unitsKept (s : State) : UnitsKept s s.settleTokens := by
  unfold State.settleTokens
  refine .each (fun u p => ?_) _ s
  exact u.setPart_unitsKept rfl rfl

theorem State.subClose_unitsKept (s : State) (p : Nat) : UnitsKept s (s.subClose p) := by
  unfold State.subClose
  extract_lets x len recent subs subs' t d u
  have closed : UnitsKept s t := s.setPart_unitsKept rfl rfl
  have counted : UnitsKept t u := (t.setReg_unitsKept _ (by simp [rk_object])).trans (State.setReg_unitsKept _ _ (by simp [rk_object]))
  clear_value u t
  split
  · exact closed
  · split
    · exact closed.trans counted
    · exact (closed.trans counted).trans (u.setPart_unitsKept rfl rfl)

theorem State.but_ledger_unitsKept (s : State) (v : LedgerX) : UnitsKept s { s with ledger := v } :=
  .of_same (f := [.ledger]) (State.but_ledger _ _ _ (by decide)) (by decide)

theorem State.subEnd_unitsKept (s : State) : UnitsKept s s.subEnd := by
  unfold State.subEnd
  extract_lets src t u
  exact (s.but_ledger_unitsKept _).trans ((UnitsKept.each (fun v p => v.subClose_unitsKept p) _ t).trans (u.but_ledger_unitsKept _))

theorem State.ledgerEnqueue_unitsKept (s : State) (r : Interval) : UnitsKept s (s.ledgerEnqueue r) := by
  unfold State.ledgerEnqueue
  exact .ite (s.but_ledger_unitsKept _) (.ite (s.but_ledger_unitsKept _) (State.setReg_unitsKept _ _ (by simp [rk_object])))

theorem State.intervalClose_unitsKept (s : State) (flags : Nat) : UnitsKept s (s.intervalClose flags) := by
  unfold State.intervalClose
  refine .each (fun u p => ?_) _ s
  extract_lets v x
  have queued : UnitsKept u v := .ite (u.ledgerEnqueue_unitsKept _) (.refl u)
  exact queued.trans (v.setPart_unitsKept rfl rfl)

theorem State.intervalStart_unitsKept (s : State) (p : Bool) : UnitsKept s (s.intervalStart p) :=
  .of_same (f := [.ledger]) (by apply State.intervalStart_but; decide) (by decide)

theorem State.streamPace_unitsKept (s : State) (p : Nat) : UnitsKept s (s.streamPace p) := by
  unfold State.streamPace
  extract_lets limit order rates n paused t map
  have told : UnitsKept s t := .each (fun u k => .of_same (f := [.streams]) (State.setStream_but _ _ _ _ (by decide)) (by decide)) _ s
  refine .ite told (told.trans ((t.setReg_unitsKept _ (by simp [rk_object])).trans (State.raise_unitsKept ..)))

theorem State.judgePower_unitsKept (s : State) (p : Nat) : UnitsKept s (s.judgePower p) := .ite (.refl s) (s.setPart_unitsKept rfl rfl)

theorem State.tableSwitch_unitsKept (s : State) (v source : Nat) : UnitsKept s (s.tableSwitch v source) := by
  unfold State.tableSwitch
  extract_lets old breaks a b c d
  have closed : UnitsKept s a := .ite (s.intervalClose_unitsKept _) (.refl s)
  have set : UnitsKept a b := a.settleTokens_unitsKept.trans (State.setReg_unitsKept _ _ (by simp [rk_object]))
  have begun : UnitsKept b c := .ite (b.intervalStart_unitsKept _) (.refl b)
  have raised : UnitsKept c d := State.raise_unitsKept ..
  exact .ite (.refl s) ((((closed.trans set).trans begun).trans raised).trans
    (.each (fun u p => (u.streamPace_unitsKept p).trans (State.judgePower_unitsKept ..)) _ d))

theorem State.driveSync_unitsKept (s : State) (d : Nat) : UnitsKept s (s.driveSync d) := by
  unfold State.driveSync
  extract_lets x go y
  exact .ite (.refl s) (.trans (.of_same (f := [.drives]) (State.setDrive_but _ _ _ _ (by decide)) (by decide)) (State.raise_unitsKept ..))

theorem State.setCluster_unitsKept (s : State) (n : Nat) (x : ClusterX) : UnitsKept s (s.setCluster n x) :=
  .of_same (f := [.clusters]) (State.setCluster_but _ _ _ _ (by decide)) (by decide)

theorem State.setRound_unitsKept (s : State) (n g : Nat) (r : Round) : UnitsKept s (s.setRound n g r) := s.setCluster_unitsKept ..

theorem State.lockFalls_unitsKept (s : State) (period : Nat) : UnitsKept s (s.lockFalls period) := by
  unfold State.lockFalls
  extract_lets x shown t
  have fallen : UnitsKept s t := s.setCluster_unitsKept ..
  refine .ite fallen (fallen.trans (.trans (.each (fun u g => ?_) _ t) (State.raise_unitsKept ..)))
  exact u.setRound_unitsKept ..

theorem State.lengthen_unitsKept (s : State) (n g ns : Nat) : UnitsKept s (s.lengthen n g ns) := by
  unfold State.lengthen
  refine .each (fun u c => ?_) _ s
  exact u.setChan_unitsKept rfl

theorem State.roundBreak_unitsKept (s : State) (n g at_ : Nat) : UnitsKept s (s.roundBreak n g at_) := s.setRound_unitsKept ..

theorem State.syncBreak_unitsKept (s : State) (n tail : Nat) : UnitsKept s (s.syncBreak n tail) := by
  unfold State.syncBreak
  extract_lets on t0 x a waits b
  have held : UnitsKept s a := s.setCluster_unitsKept ..
  have rounds : UnitsKept a b := by
    refine .each (fun u g => ?_) _ a
    extract_lets r v
    have waiting : UnitsKept u v := .ite (u.setRound_unitsKept ..) (.refl u)
    have broken : ∀ at_, UnitsKept u (v.roundBreak n g at_) := fun at_ => waiting.trans (v.roundBreak_unitsKept ..)
    have lengthened : ∀ at_, UnitsKept u ((v.roundBreak n g at_).lengthen n g 10000) := fun at_ => (broken at_).trans (State.lengthen_unitsKept ..)
    split
    · exact .ite (.ite (lengthened _) (broken _)) waiting
    · exact .ite (lengthened _) waiting
  have units := held.trans rounds
  clear_value b
  refine .ite (units.trans (.each (fun u c => ?_) _ b)) units
  refine .ite (.refl u) ?_
  exact u.setChan_unitsKept rfl

theorem State.swapSync_unitsKept (s : State) (l : List (Nat × Nat)) : UnitsKept s (s.swapSync l) := by
  unfold State.swapSync
  induction l generalizing s with
  | nil => exact .refl s
  | cons x l ih =>
    rw [List.foldl_cons]
    exact (s.syncBreak_unitsKept x.1 x.2).trans (ih _)

theorem State.swapChans_unitsKept (s : State) (diff : List Nat) : UnitsKept s (s.swapChans diff) := by
  unfold State.swapChans
  extract_lets t
  have cleared : UnitsKept s t := by
    refine .each (fun u c => ?_) _ s
    exact u.setChan_unitsKept rfl
  refine cleared.trans (.each (fun u c => ?_) _ t)
  exact u.setChan_unitsKept rfl

theorem State.swapPairs_unitsKept (s : State) (old : List (Nat × Nat)) (first : Bool) : UnitsKept s (s.swapPairs old first) := by
  unfold State.swapPairs
  refine .each (fun u k => ?_) _ s
  exact u.raise_unitsKept ..

theorem State.swapDrives_unitsKept (s : State) (diff : List Nat) (first : Bool) (period : Nat) : UnitsKept s (s.swapDrives diff first period) := by
  unfold State.swapDrives
  extract_lets l a src x b
  have carriers : UnitsKept s a := by
    refine .each (fun u d => ?_) _ s
    exact .of_same (f := [.drives]) (State.setDrive_but _ _ _ _ (by decide)) (by decide)
  have lock : UnitsKept a b := .ite (a.setCluster_unitsKept ..) (.ite (a.lockFalls_unitsKept _) (.refl a))
  exact (carriers.trans lock).trans (.each (fun u d => u.driveSync_unitsKept d) _ b)

theorem State.swapStreams_unitsKept (s : State) (diff : List Nat) : UnitsKept s (s.swapStreams diff) := by
  have cleared : ∀ u k x, UnitsKept u (State.setStream u k x) := fun u k x =>
    .of_same (f := [.streams]) (State.setStream_but _ _ _ _ (by decide)) (by decide)
  unfold State.swapStreams
  extract_lets a b
  have rings : UnitsKept s a := .each (fun u k => by
    extract_lets x n on
    exact .ite ((cleared ..).trans (State.setReg_unitsKept _ _ (by simp [rk_object]))) (.ite (cleared ..) (.refl u))) _ s
  have rates : UnitsKept a b := .each (fun u k => u.setReg_unitsKept _ (by simp [rk_object])) _ a
  exact (rings.trans rates).trans (.each (fun u p => u.streamPace_unitsKept p) _ b)

/-- Every step of a swap but the enables leaves the units. -/
theorem State.swapUnits_rest (s : State) (diff : List Nat) (old : List (Nat × Nat)) (first : Bool) (syncs : List (Nat × Nat)) (period : Nat) :
    UnitsKept s (((((((((s.swapTrims).swapChans diff).swapSync syncs).swapPairs old first).swapThermal diff).swapDrives diff first
      period).swapStreams diff).swapTargets diff).swapLinks diff) := by
  have trims : ∀ u : State, UnitsKept u u.swapTrims := fun u => .of_same (f := [.entries, .trims]) (by apply State.swapTrims_but <;> decide) (by decide)
  have thermal : ∀ u : State, UnitsKept u (u.swapThermal diff) := fun u => .of_same (f := [.thermal]) (by apply State.swapThermal_but; decide) (by decide)
  have targets : ∀ u : State, UnitsKept u (u.swapTargets diff) := fun u => .of_same (f := [.entries]) (by apply State.swapTargets_but; decide) (by decide)
  have links : ∀ u : State, UnitsKept u (u.swapLinks diff) := fun u =>
    .of_same (f := [.asms, .downs, .inbox, .sessions, .t1sSleep]) (by apply State.swapLinks_but <;> decide) (by decide)
  exact (trims s).trans ((State.swapChans_unitsKept ..).trans ((State.swapSync_unitsKept ..).trans ((State.swapPairs_unitsKept ..).trans
    ((thermal _).trans ((State.swapDrives_unitsKept ..).trans ((State.swapStreams_unitsKept ..).trans ((targets _).trans (links _))))))))

/-- An enable takes its new mode and keeps its level, or is unused (R46). -/
theorem State.swapEnables_level (s : State) (e : Nat) :
    (s.swapEnables.en e).asserted = (s.en e).asserted ∨ s.swapEnables.act (chEnMode e) = 0 := by
  have step : ∀ u : State, ∀ x, ((u.modeEn x).en e).asserted = (u.en e).asserted ∨ u.act (chEnMode e) = 0 := fun u x => by
    change ((u.setEn x _).en e).asserted = _ ∨ _
    rw [State.setEn_get]
    by_cases hx : e = x
    · subst x
      by_cases unused : u.act (chEnMode e) = 0
      · exact .inr unused
      · rw [if_pos rfl, if_neg unused]
        exact .inl rfl
    · exact .inl (by rw [if_neg hx])
  refine (State.each_rel (R := fun s t => ((t.en e).asserted = (s.en e).asserted ∨ t.act (chEnMode e) = 0) ∧ ∀ k, t.act k = s.act k)
    (fun _ => ⟨.inl rfl, fun _ => rfl⟩) (fun s t u h h' => ⟨?_, fun k => (h'.2 k).trans (h.2 k)⟩) (fun u x => ⟨step u x, fun _ => rfl⟩) _ s).1
  rcases h'.1 with same | unused
  · rcases h.1 with same' | unused
    · exact .inl (same.trans same')
    · exact .inr ((h'.2 _).trans unused)
  · exact .inr unused

end Sys2Proof.Machine

namespace Sys2Proof.Machine

/-! ### The swap as a whole (R16, R18 to R20) -/

theorem State.hostNote_unitsKept (s : State) : UnitsKept s s.hostNote :=
  .of_same (f := [.host]) (by apply State.hostNote_but; decide) (by decide)

theorem State.warnKinds_unitsKept (s : State) (diff : List Nat) : UnitsKept s (s.warnKinds diff) := by
  unfold State.warnKinds
  exact .each (fun u c => u.warnClear_unitsKept c false) _ s

theorem State.takeShadow_unitsKept (s : State) : UnitsKept s s.takeShadow :=
  .of_same (f := [.active, .prior, .committed, .armed]) (by simp [Same, State.takeShadow, State.but]) (by decide)

theorem State.intervalBreak_unitsKept (s : State) : UnitsKept s (s.intervalBreak State.takeShadow) := by
  unfold State.intervalBreak
  extract_lets t
  have closed : UnitsKept s t := s.subEnd_unitsKept.trans (State.intervalClose_unitsKept ..)
  exact .ite s.takeShadow_unitsKept ((closed.trans t.takeShadow_unitsKept).trans (State.intervalStart_unitsKept ..))

theorem State.scheduleUp_unitsKept (s : State) : UnitsKept s s.scheduleUp := by
  unfold State.scheduleUp
  extract_lets src t
  have used : UnitsKept s t := s.but_ledger_unitsKept _
  split
  · exact used
  · refine .ite ?_ used
    split
    · exact used.trans (t.tableSwitch_unitsKept ..)
    · exact used

theorem State.powerUpDone_unitsKept (s : State) : UnitsKept s s.powerUpDone := by
  unfold State.powerUpDone
  extract_lets u a x b c d
  have goals : UnitsKept s a := by
    refine .ite (.each (fun v n => ?_) _ s) (.refl s)
    exact v.setReg_unitsKept _ (by simp [rk_object])
  have done : UnitsKept a b := .of_same (f := [.supply, .trestle])
    ((State.but_trestle { a with supply := _ } _ _ (by decide)).trans (State.but_supply a _ _ (by decide))) (by decide)
  have epochs : UnitsKept b c := by
    refine .each (fun v n => ?_) _ b
    exact v.setCluster_unitsKept ..
  have raised : UnitsKept c d := State.raise_unitsKept ..
  have all := ((goals.trans done).trans epochs).trans raised
  clear_value d
  exact .ite (all.trans (State.raise_unitsKept ..)) all

/-- The registers of the latest commit. -/
def commitKeys : List Nat := [profLastCommitStatus, profLastCommitTick, profCommitCount]

theorem commitKeys_object {k : Nat} (h : k ∈ commitKeys) : k / 16777216 = 0x1100 := by
  simp only [commitKeys, List.mem_cons, List.not_mem_nil, or_false] at h
  rcases h with rfl | rfl | rfl <;> exact rk_object ..

/-- What the swap means for its commit leaves the registers of the latest commit. -/
theorem State.swapEnds_regs (s : State) (a : Armed) (changed : Bool) {k : Nat} (hk : k ∈ commitKeys) :
    (s.swapEnds a changed).reg k = s.reg k := by
  have ne : k ≠ profActiveId ∧ k ≠ profActiveShelf ∧ k ≠ profPselRefused ∧ k ≠ evEventsLost ∧ ∀ n, k ≠ shelfStatus n := by
    simp only [commitKeys, List.mem_cons, List.not_mem_nil, or_false] at hk
    rcases hk with rfl | rfl | rfl <;> simp
  obtain ⟨id, shelf, refused, lost, status⟩ := ne
  have loaded : ∀ (u : State) (n v : Nat),
      (((u.setReg profActiveShelf n).setReg profActiveId v).setReg (shelfStatus n) 1).reg k = u.reg k := fun u n v => by
    rw [State.setReg_reg_ne _ _ _ _ (status n), State.setReg_reg_ne _ _ _ _ id, State.setReg_reg_ne _ _ _ _ shelf]
  unfold State.swapEnds
  extract_lets load t was
  have named : t.reg k = s.reg k := by
    simp only [t]
    split
    · exact State.setReg_reg_ne _ _ _ _ id
    · rfl
  split
  · rw [(State.endWaits_same ..).get_reg (by decide), State.raise_reg_ne _ _ _ _ _ _ _ lost, State.setStage_get_reg, named]
  · extract_lets u
    rw [(State.endWaits_same ..).get_reg (by decide)]
    change u.reg k = _
    rw [State.raise_reg_ne _ _ _ _ _ _ _ lost, State.setReg_reg_ne _ _ _ _ refused]
    exact loaded ..
  · rename_i n _
    unfold State.powerUpShelf
    split
    · exact loaded ..
    · unfold State.fallbackEvent
      rw [State.raise_reg_ne _ _ _ _ _ _ _ lost]
      exact loaded ..

theorem State.swapEnds_same (s : State) (a : Armed) (changed : Bool) :
    Same [.events, .regs, .sets, .switchSt, .waits] s (s.swapEnds a changed) := by
  apply State.swapEnds_but <;> decide

/-- The set of the commit is emptied, with its tick. -/
theorem State.swapEnds_set (s : State) {a : Armed} {w : Nat} (h : a.kind = .set w) (changed : Bool) :
    ((s.swapEnds a changed).stageSet w).entries = [] ∧ ((s.swapEnds a changed).stageSet w).lastTick = a.tick := by
  unfold State.swapEnds
  rw [h]
  extract_lets load t
  rw [(State.endWaits_same ..).get_stageSet (by decide), State.raise_get_stageSet, State.setStage_stageSet_same]
  exact ⟨rfl, rfl⟩

/-- What a swap does to the units, their registers and its commit. -/
structure Swapped (s t : State) (a : Armed) : Prop where
  parts : ∀ p, (t.part p).state = (s.part p).state ∧ (t.part p).line = (s.part p).line
  chans : ∀ c, (t.chan c).state = (s.chan c).state
  ens : ∀ e, (t.en e).asserted = (s.en e).asserted ∨ t.act (chEnMode e) = 0
  status : t.reg profLastCommitStatus = 0
  tick : t.reg profLastCommitTick = a.tick
  count : t.reg profCommitCount = wrap32 (s.reg profCommitCount)
  set : ∀ w, a.kind = .set w → (t.stageSet w).entries = [] ∧ (t.stageSet w).lastTick = a.tick

theorem Swapped.then_kept {s t u : State} {a : Armed} (h : Swapped s t a) (kept : UnitsKept t u)
    (same : Same [.clusters, .events, .ledger, .parts, .regs, .streams, .supply, .trestle] t u) : Swapped s u a := by
  refine ⟨fun p => ⟨(kept.parts p).1.trans (h.parts p).1, (kept.parts p).2.trans (h.parts p).2⟩, fun c => (kept.chans c).trans (h.chans c),
    fun e => ?_, (kept.profile _ (rk_object ..)).trans h.status, (kept.profile _ (rk_object ..)).trans h.tick,
    (kept.profile _ (rk_object ..)).trans h.count, fun w hw => ?_⟩
  · rw [kept.ens, same.get_act (by decide)]
    exact h.ens e
  · rw [same.get_stageSet (by decide)]
    exact h.set w hw

/-- The commit is counted (R16). -/
theorem State.counted_regs {s u : State} (h : UnitsKept s u) (tick : Nat) :
    (((u.setReg profLastCommitStatus 0).setReg profLastCommitTick tick).bump32 profCommitCount).reg profLastCommitStatus = 0 ∧
    (((u.setReg profLastCommitStatus 0).setReg profLastCommitTick tick).bump32 profCommitCount).reg profLastCommitTick = tick ∧
    (((u.setReg profLastCommitStatus 0).setReg profLastCommitTick tick).bump32 profCommitCount).reg profCommitCount =
      wrap32 (s.reg profCommitCount) := by
  rw [State.bump32_eq, State.setReg_reg_ne _ _ _ _ (by simp), State.setReg_reg_ne _ _ _ _ (by simp), State.setReg_reg_same,
    State.setReg_reg_ne _ _ _ _ (by simp), State.setReg_reg_same, State.setReg_reg_same, State.setReg_reg_ne _ _ _ _ (by simp),
    State.setReg_reg_ne _ _ _ _ (by simp), h.profile _ (rk_object ..)]
  exact ⟨rfl, rfl, rfl⟩

theorem State.swapUnits_enables (s : State) (old : List (Nat × Nat)) (first : Bool) (syncs : List (Nat × Nat)) (period : Nat) :
    UnitsKept s.swapEnables (s.swapUnits old first syncs period) := State.swapUnits_rest ..

/-- The units after the swap of a commit that is counted. -/
theorem State.swapUnits_swapped {s u : State} {a : Armed} (kept : UnitsKept s u) (wins : List (Nat × Nat × Window × Option Window))
    (old : List (Nat × Nat)) (first changed : Bool) (syncs : List (Nat × Nat)) (period : Nat) :
    Swapped s ((((((u.setReg profLastCommitStatus 0).setReg profLastCommitTick a.tick).bump32 profCommitCount).swapRounds wins first).swapUnits
      old first syncs period).swapEnds a changed) a := by
  obtain ⟨status, tick, count⟩ := State.counted_regs kept a.tick
  generalize hv : ((u.setReg profLastCommitStatus 0).setReg profLastCommitTick a.tick).bump32 profCommitCount = v at *
  have counted : Same [.regs] u v := by
    rw [← hv]
    simp [Same, ↓State.setReg_but]
  have begun : Same [.clusters] v (v.swapRounds wins first) := by apply State.swapRounds_but; decide
  generalize v.swapRounds wins first = b at *
  have enabled : Same [.ens] b b.swapEnables := by apply State.swapEnables_but; decide
  have rest := b.swapUnits_enables old first syncs period
  have modes : (b.swapUnits old first syncs period).active = b.swapEnables.active := by
    have all : Same Fld.swapped b (b.swapUnits old first syncs period) := by apply State.swapUnits_but <;> decide
    rw [all.active (by decide), enabled.active (by decide)]
  generalize b.swapUnits old first syncs period = c at *
  have ended := c.swapEnds_same a changed
  have before : Same [.clusters, .regs] u b := (counted.mono (by decide)).trans (begun.mono (by decide))
  have regs : ∀ k ∈ commitKeys, (c.swapEnds a changed).reg k = v.reg k := fun k hk => by
    rw [c.swapEnds_regs a changed hk, rest.profile k (commitKeys_object hk), enabled.get_reg (by decide), begun.get_reg (by decide)]
  refine ⟨fun p => ?_, fun d => ?_, fun e => ?_, (regs _ (by simp [commitKeys])).trans status, (regs _ (by simp [commitKeys])).trans tick,
    (regs _ (by simp [commitKeys])).trans count, fun w hw => c.swapEnds_set hw changed⟩
  · rw [ended.get_part (by decide), (rest.parts p).1, (rest.parts p).2, enabled.get_part (by decide), before.get_part (by decide)]
    exact kept.parts p
  · rw [ended.get_chan (by decide), rest.chans, enabled.get_chan (by decide), before.get_chan (by decide)]
    exact kept.chans d
  · have mode : (c.swapEnds a changed).act (chEnMode e) = b.swapEnables.act (chEnMode e) := by
      unfold State.act
      rw [ended.active (by decide), modes]
    rw [mode, ended.get_en (by decide), rest.ens, ← kept.ens, ← before.get_en (by decide)]
    exact b.swapEnables_level e

theorem State.swap_swapped (s : State) (a : Armed) : Swapped s (s.swap a) a := by
  unfold State.swap
  extract_lets h old first diff syncs src period wins w t taken counted units ends
  have noted : UnitsKept s t := (s.hostNote_unitsKept.trans (h.warnKinds_unitsKept diff)).trans w.settleTokens_unitsKept
  have taken_ : UnitsKept t taken := .ite t.intervalBreak_unitsKept t.takeShadow_unitsKept
  have swapped : Swapped s ends a := State.swapUnits_swapped (noted.trans taken_) ..
  clear_value ends
  split
  · refine swapped.then_kept ((ends.scheduleUp_unitsKept.trans (State.intervalStart_unitsKept ..)).trans (State.powerUpDone_unitsKept _)) ?_
    simp [Same, ↓State.powerUpDone_but, ↓State.intervalStart_but, ↓State.scheduleUp_but]
  · exact swapped

/-! ### The commands of the commit point -/

/-- What an answer and the count of its item leave of a commit. -/
theorem StageAndCheck.answered {s t : State} {w : Nat} {good : Bool} (h : StageAndCheck s t w good) (r : Role) (st : Nat) :
    StageAndCheck s ((t.answer st).countItem r) w good := by
  obtain ⟨active, committed, parts, chans, ens, entries, passed, untested, failed⟩ := h
  have regs : ∀ k, k ∉ itemKeys r → ((t.answer st).countItem r).reg k = t.reg k := fun k hk => (State.countItem_reg _ r k hk)
  have status : ((t.answer st).countItem r).reg profLastCommitStatus = t.reg profLastCommitStatus := regs _ (by cases r <;> simp [itemKeys])
  have report : ((t.answer st).countItem r).reg diagCheckReport = t.reg diagCheckReport := regs _ (by cases r <;> simp [itemKeys])
  have same : Same [.regs, .reply, .status] t ((t.answer st).countItem r) := by
    simp [Same, ↓State.countItem_but, ↓State.answer_but]
  unfold StageAndCheck
  rw [same.active (by decide), same.committed (by decide), same.parts (by decide), same.chans (by decide), same.ens (by decide),
    same.get_stageSet (by decide), same.armed (by decide), same.shadow (by decide), same.fabricFault (by decide), same.safeN (by decide), status,
    report]
  exact ⟨active, committed, parts, chans, ens, entries, passed, untested, failed⟩

/-- A commit request with no other in progress or queued (R16, R322). -/
theorem State.commitRequest_committing {s : State} (free : s.armed = none) (empty : s.queueC = []) (r : Role) (w : Nat) (good : Bool) :
    Committing s ((s.commitRequest w good).countItem r) w good := by
  have checked := State.runCommit_stageAndCheck free w good
  rw [State.commitRequest_runs free empty]
  generalize s.runCommit w good = t at *
  split
  · rename_i armed
    refine ⟨checked.answered r 2, fun _ => State.countItem_status .., fun none => ?_⟩
    rw [State.countItem_armed] at none
    rw [show t.armed = .none from none] at armed
    cases armed
  · rename_i ended
    refine ⟨checked.answered r _, fun some => absurd ?_ ended, fun _ => ?_⟩
    · rw [State.countItem_armed] at some
      exact Option.isSome_iff_ne_none.mpr some
    · rw [State.countItem_status, State.countItem_get_stageSet]
      rfl

theorem exec_swap_due {s : State} {a : Armed} (h : s.armed = some a) (due : s.swapDue a = true) :
    exec .swap s = .next ((s.swap a).deliver noHw) := by
  change execSwap s = _
  unfold execSwap
  rw [h]
  exact if_pos due

theorem exec_swap_early {s : State} {a : Armed} (h : s.armed = some a) (early : s.swapDue a = false) : exec .swap s = .next s := by
  change execSwap s = _
  unfold execSwap
  rw [h]
  exact if_neg (by simp [early])

/-- When a swap is due (R16; log 24). -/
theorem State.swapDue_iff (s : State) (a : Armed) : s.swapDue a = true ↔
    a.ready = true ∧ (a.tick ≤ s.now ∨ ∃ n < 8, (s.cluster n).clockLost = false ∧ a.tick ≤ (s.cluster n).counter) := by
  unfold State.swapDue clustersAll
  simp only [Bool.and_eq_true, Bool.or_eq_true, decide_eq_true_eq, List.any_eq_true, List.mem_range, Bool.not_eq_true']
  exact Iff.rfl

/-- Settles O8: a commit request runs the stage and check phases, and the swap is taken apart at the change of the banks. -/
theorem commitsStageCheckArmAndSwap : Obligations.CommitsStageCheckArmAndSwap := by
  unfold Obligations.CommitsStageCheckArmAndSwap
  refine ⟨⟨fun good s served free empty => ?_, fun r p good s heard may free empty => ?_, fun r good s heard no => ?_,
    fun r p good s heard no no' => ?_⟩, fun a s h ready due => ?_, fun a s h early => ?_⟩
  · exact ⟨_, exec_ownerCommit served good, State.commitRequest_committing free empty ..⟩
  · exact ⟨_, exec_setCommit heard may good, State.commitRequest_committing free empty ..⟩
  · refine ⟨_, exec_commit r good s, ?_⟩
    rw [not_isOwner no, State.commitItem_noRight heard]
    exact .of_refused _ _
  · refine ⟨_, exec_partitionCommit r p good s, ?_⟩
    rw [not_ownerOr_of no no', State.commitItem_noRight heard]
    exact .of_refused _ _
  · obtain ⟨active, prior, shadow, committed, armed, -, latches⟩ := s.swap_banks a
    have units := s.swap_swapped a
    exact ⟨_, exec_swap_due h ((s.swapDue_iff a).mpr ⟨ready, due⟩), active, prior, shadow, committed, armed, units.status, units.tick,
      units.count, units.parts, units.chans, units.ens, latches, units.set⟩
  · refine exec_swap_early h (Bool.eq_false_iff.mpr (fun due => ?_))
    obtain ⟨ready, now | ⟨n, hn, runs, now⟩⟩ := (s.swapDue_iff a).mp due
    · rcases early with e | ⟨e, -⟩
      · simp [ready] at e
      · omega
    · rcases early with e | ⟨-, e⟩
      · simp [ready] at e
      · exact absurd now (by have := e n hn runs; omega)

end Sys2Proof.Machine

namespace Sys2Proof.Machine

/-! ### A warning that is withdrawn while a record is held in it -/

/-- A device in a power-loss warning that has suspended an erase and holds one record of a bucket. -/
def warnedWithHeldRecord : State :=
  { State.reset with
    supply := { power := .active, vcore := true, plw := true },
    ledger :=
      { ringPos := 1, held := [{ part := 0, table := 0, flags := 0, startRtc := 0, dur := 0, ein := 0, eout := 0 }] },
    nv := { erase := some { why := .owner, erase := true, addr := 0 }, suspended := true } }

/-- Before the withdrawal nothing asks for the suspension of the erase: the record is held and not yet queued. -/
theorem warnedWithHeldRecord_suspendAsked :
    ({ warnedWithHeldRecord with
        supply := { warnedWithHeldRecord.supply with plw := false } } : State).suspendAsked = false := by
  decide +kernel

/-- The withdrawal queues the record, the ledger waits for a program, and the erase stays suspended. -/
theorem warnedWithHeldRecord_stays_suspended :
    (match exec .warningWithdrawn warnedWithHeldRecord with | .next t => t.nv.suspended | _ => false) = true := by
  decide +kernel

/-- Refutes O51: a record held in the warning is queued by the withdrawal before the suspension of the erase is judged, so the erase
does not go on although nothing asked for its suspension in the state before. -/
theorem not_warningsCopiesAndManagementResets : ¬ Obligations.WarningsCopiesAndManagementResets := by
  unfold Obligations.WarningsCopiesAndManagementResets
  rintro ⟨-, -, withdrawn, -⟩
  obtain ⟨t, run, -, -, -, -, -, goesOn⟩ := (withdrawn warnedWithHeldRecord rfl).2.2 rfl (.inl rfl) (by decide)
  have resumed : t.nv.suspended = false := goesOn (by decide) rfl (by decide +kernel) warnedWithHeldRecord_suspendAsked
  have stays := warnedWithHeldRecord_stays_suspended
  rw [run] at stays
  simp [resumed] at stays

end Sys2Proof.Machine

namespace Sys2Proof.Machine

/-! ### What the clusters note while a clock comes back (R59, R124) -/

/-- What leaves the clusters leaves what they note. -/
theorem Noted.of_cut {s t : State} (h : Same Fld.cut s t) : Noted [] s t := .of_same h (by decide) []

theorem Noted.ite {l : List Nat} {c : Prop} [Decidable c] {s t u : State} (ht : Noted l s t) (hu : Noted l s u) :
    Noted l s (if c then t else u) := by
  split
  · exact ht
  · exact hu

theorem State.setChan_noted (s : State) (c : Nat) (x : ChanX) : Noted [] s (s.setChan c x) := fun _ _ => rfl

theorem State.toState_noted (s : State) (c : Nat) (st : ChanState) (at_ : Nat) : Noted [] s (s.toState c st at_) :=
  .of_cut (by apply State.toState_but <;> decide)

theorem State.goAbsent_noted (s : State) (c at_ : Nat) : Noted [] s (s.goAbsent c at_) :=
  .of_cut (by apply State.goAbsent_but <;> decide)

theorem State.enterSettle_noted (s : State) (c : Nat) : Noted [] s (s.enterSettle c) :=
  .of_cut (by apply State.enterSettle_but <;> decide)

theorem State.trip_noted (s : State) (c : Nat) (side : Side) : Noted [] s (s.trip c side) := by
  unfold State.trip
  extract_lets p tick up lo t
  have tripped : Noted [] s t := .of_cut (by apply State.toTripped_but <;> decide)
  exact tripped.trans (.ite (t.causeIn_noted _ _ _ _ _ _) (t.shutOff_noted _ _ _ _ _ _ _))

theorem State.gateTrip_noted (s : State) (c : Nat) : Noted [] s (s.gateTrip c) := .each (fun u d => u.trip_noted d _) _ s

theorem State.settleBy_noted (s : State) (c t : Nat) : Noted [] s (s.settleBy c t) := by
  have recovered : Noted [] s (s.recover c (s.settleDue c)) := .of_cut (by apply State.recover_but <;> decide)
  exact .ite (Noted.trans (.ite recovered (s.toState_noted _ _ _)) (State.gateTrip_noted _ _)) (.refl [] s)

theorem State.deadlineBy_noted (s : State) (c t : Nat) : Noted [] s (s.deadlineBy c t) :=
  .of_cut (by apply State.deadlineBy_but <;> decide)

theorem State.timersBy_noted (s : State) (c : Nat) : Noted [] s (s.timersBy c) :=
  ((s.settleBy_noted c _).trans (State.deadlineBy_noted _ _ _)).trans (State.settleBy_noted _ _ _)

theorem State.leaves_noted (s : State) (c : Nat) : Noted [] s (s.leaves c) := by
  have marked : ∀ u : State, Same Fld.cut u (((u.unmark c).warnEnd c false).markCuts c) := fun u => by
    simp [Same, Fld.cut, ↓State.markCuts_but, ↓State.warnEnd_but, ↓State.unmark_but]
  exact ((s.timersBy_noted c).trans (.of_cut (marked _))).trans (State.setChan_noted _ _ _)

theorem State.parkChan_noted (s : State) (c : Nat) : Noted [] s (s.parkChan c) := by
  unfold State.parkChan
  extract_lets t
  exact .ite (s.leaves_noted c) ((s.leaves_noted c).trans (t.toState_noted _ _ _))

theorem State.resolveCut_noted (s : State) (c lost : Nat) (byLoss : Bool) : Noted [] s (s.resolveCut c lost byLoss) :=
  .of_cut (by apply State.resolveCut_but <;> decide)

theorem State.resolveChan_noted (s : State) (c : Nat) (k : ClusterX) : Noted [] s (s.resolveChan c k) := by
  unfold State.resolveChan
  extract_lets x p t late u
  have timed : Noted [] s u := s.setChan_noted _ _
  refine .ite (.refl [] s) (.ite (s.resolveCut_noted _ _ _) ?_)
  split
  · exact timed.trans (.ite (u.goAbsent_noted _ _)
      (.ite (((u.setChan_noted _ _).trans (State.enterSettle_noted _ _)).trans (State.gateTrip_noted _ _)) (.refl [] u)))
  iterate 2
    refine timed.trans (.ite (u.goAbsent_noted _ _) ?_)
    have ramp : Noted [] u (if x.state = .settle then u.toState c .ramp t else u) := .ite (u.toState_noted _ _ _) (.refl [] u)
    exact ramp.trans (.ite ((State.enterSettle_noted _ _).trans (State.gateTrip_noted _ _)) (.refl [] _))
  · exact timed

theorem State.parkBack_noted (s : State) (c : Nat) : Noted [] s (s.parkBack c) := by
  unfold State.parkBack
  extract_lets x a b
  have taken : Noted [] s a := s.setChan_noted _ _
  have parked : Noted [] a b := by
    refine .ite (.refl [] a) ?_
    split
    iterate 6 exact a.parkChan_noted c
    · exact .refl [] a
  have armed : Noted [] b (b.armChan c) := .of_cut (by apply State.armChan_but <;> decide)
  exact (taken.trans parked).trans (.ite (armed.trans (State.gateTrip_noted _ _)) (.refl [] b))

/-- A cluster whose clock is back: its counter is reloaded forward from device time and a new epoch begins (R124). -/
def ClusterX.reloaded (x : ClusterX) (now : Nat) : ClusterX :=
  { x with
    clockLost := false, counter := max x.counter now, acc := 0, inc := 2147483648, pulsed := none, pulseDiff := 0,
    epochAt := now, calDone := false, tourDone := false, toured := 0, refDone := false,
    rounds := x.rounds.map (fun (e : Nat × Round) =>
      (e.1, { e.2 with opens := max x.counter now, win := none, win2 := none, tested := false })) }

/-- The return of a clock is entered in its cluster first; then the clusters note what is shut off meanwhile. -/
theorem State.clockBack_noted (s : State) (n : Nat) :
    Noted [] (s.setCluster n ((s.cluster n).reloaded s.now)) (s.clockBack n) := by
  unfold State.clockBack
  extract_lets x mine a b c d e f
  change Noted [] a _
  clear_value a
  have seen : Noted [] a b := by
    refine .each (fun u c => ?_) _ a
    extract_lets y o
    exact .ite (.refl [] u) (u.setChan_noted _ _)
  have resolved : Noted [] b c := .each (fun u c => u.resolveChan_noted c x) _ b
  have parked : Noted [] c d := .each (fun u c => u.parkBack_noted c) _ c
  have ordered : Noted [] d e := .each (fun u e => .of_cut (by apply State.takeOrder_but <;> decide)) _ d
  have steered : Noted [] e f := by
    refine .each (fun u c => ?_) _ e
    exact .of_cut (by apply State.trimFollow_but <;> decide)
  clear_value f
  have ended : Noted [] f (f.each (partitions.filter (fun p => match (f.part p).dischEnd with | some t => decide (t ≤ f.now) | none => false))
      (fun u p => u.dischargeEnd p)) := .each (fun u p => .of_cut (by apply State.dischargeEnd_but <;> decide)) _ f
  exact ((((seen.trans resolved).trans parked).trans ordered).trans steered).trans ended

theorem State.clockBack_others (s : State) (n : Nat) : Noted [n] s (s.clockBack n) :=
  (s.setCluster_noted n _).trans (s.clockBack_noted n).mono

theorem State.clockBack_cluster (s : State) (n : Nat) :
    ((s.clockBack n).cluster n).unnoted = ((s.cluster n).reloaded s.now).unnoted := by
  rw [s.clockBack_noted n n (by simp), State.setCluster_get, if_pos rfl]

end Sys2Proof.Machine

namespace Sys2Proof.Machine

/-! ### States and lines of the partitions -/

/-- Every partition but those of a list keeps its state and its line. -/
structure LinesBut (l : List Nat) (s t : State) : Prop where
  keeps : ∀ p, p ∉ l → (t.part p).state = (s.part p).state ∧ (t.part p).line = (s.part p).line

theorem LinesBut.refl (l : List Nat) (s : State) : LinesBut l s s := ⟨fun _ _ => ⟨rfl, rfl⟩⟩

theorem LinesBut.trans {l : List Nat} {s t u : State} (h : LinesBut l s t) (h' : LinesBut l t u) : LinesBut l s u :=
  ⟨fun p hp => ⟨(h'.keeps p hp).1.trans (h.keeps p hp).1, (h'.keeps p hp).2.trans (h.keeps p hp).2⟩⟩

theorem LinesBut.mono {l m : List Nat} {s t : State} (h : LinesBut l s t) (hs : ∀ p ∈ l, p ∈ m) : LinesBut m s t :=
  ⟨fun p hp => h.keeps p (fun hl => hp (hs p hl))⟩

theorem LinesBut.of_same {l : List Fld} {s t : State} (h : Same l s t) (hn : Fld.parts ∉ l) (ps : List Nat) : LinesBut ps s t :=
  ⟨fun p _ => by
    rw [h.get_part hn]
    exact ⟨rfl, rfl⟩⟩

theorem LinesBut.each {l : List Nat} {f : State → Nat → State} {xs : List Nat} (h : ∀ u, ∀ x ∈ xs, LinesBut l u (f u x)) (s : State) :
    LinesBut l s (s.each xs f) := by
  induction xs generalizing s with
  | nil => exact .refl l s
  | cons x xs ih => exact (h s x (List.mem_cons_self ..)).trans (ih (fun u y hy => h u y (List.mem_cons_of_mem _ hy)) _)

theorem LinesBut.ite {l : List Nat} {c : Prop} [Decidable c] {s t u : State} (ht : LinesBut l s t) (hu : LinesBut l s u) :
    LinesBut l s (if c then t else u) := by
  split
  · exact ht
  · exact hu

/-- An update of a partition's record that keeps its state and its line. -/
theorem State.setPart_lines (s : State) {l : List Nat} {p : Nat} {x : PartX} (hs : x.state = (s.part p).state)
    (hl : x.line = (s.part p).line) : LinesBut l s (s.setPart p x) := by
  refine ⟨fun q _ => ?_⟩
  rw [State.setPart_get]
  split
  · subst q
    exact ⟨hs, hl⟩
  · exact ⟨rfl, rfl⟩

/-! ### The events that wait are delivered (R24, R31) -/

theorem ringEnter_all_reg {α : Type} (g : α → EventRec) (l : List α) {k : Nat} (h : k ≠ evEventsLost) (s : State) :
    (l.foldl (fun s e => s.ringEnter (g e)) s).reg k = s.reg k := by
  induction l generalizing s with
  | nil => rfl
  | cons e l ih => rw [List.foldl_cons, ih, State.ringEnter_reg s _ k h]

theorem ringEnter_all_same {α : Type} (g : α → EventRec) (l : List α) (s : State) :
    Same [.events, .regs] s (l.foldl (fun s e => s.ringEnter (g e)) s) := by
  induction l generalizing s with
  | nil => exact .refl _ s
  | cons e l ih =>
    rw [List.foldl_cons]
    exact Same.trans (State.ringEnter_but s _ _ (by decide) (by decide)) (ih _)

theorem State.deliverQueue_reg (s : State) (dom k : Nat) (h : k ≠ evEventsLost) : (s.deliverQueue dom).reg k = s.reg k := by
  unfold State.deliverQueue
  extract_lets q gap
  rw [ringEnter_all_reg _ _ h]
  rfl

theorem State.deliverHeld_reg (s : State) (k : Nat) (h : k ≠ evEventsLost) : s.deliverHeld.reg k = s.reg k := by
  unfold State.deliverHeld
  extract_lets t l
  have queues : t.reg k = s.reg k := State.each_keeps (fun s => s.reg k) _ _ (fun u d _ => u.deliverQueue_reg d k h) s
  clear_value l t
  rw [ringEnter_all_reg _ _ h, ← queues]
  rfl

/-- Nothing is owed any more. -/
theorem State.deliverHeld_later (s : State) : s.deliverHeld.later = [] := by
  unfold State.deliverHeld
  extract_lets t l
  clear_value l t
  exact (ringEnter_all_same _ _ _).later (by decide)

/-! ### An island is ready (R31) -/

/-- An island is joined again: its marks are taken away, and its queue is delivered while the management plane is up. -/
def State.rejoined (s : State) (d : Nat) : State :=
  let s := { s with stalled := s.stalled.filter (fun x => x != d), islandBad := s.islandBad.filter (fun x => x != d),
                    supply := { s.supply with clockBad := s.supply.clockBad.filter (fun x => x != d) } }
  if s.mgmtDown then s else s.deliverQueue d

/-- The state after an island that is stalled is ready: a cluster's clock may be back, and the drives come back. -/
def State.readied (s : State) : Island → State
  | .cl n => if (s.rejoined (n + 1)).mayReturn n then (s.rejoined (n + 1)).clockBack n else s.rejoined (n + 1)
  | .drive => (s.rejoined 13).driveReturns
  | i => s.rejoined (islandDom i)

theorem State.readied_cl (s : State) (n : Fin 8) : s.readied (.cl n) =
    if (s.rejoined (n + 1)).mayReturn n then (s.rejoined (n + 1)).clockBack n else s.rejoined (n + 1) := rfl

theorem State.readied_drive (s : State) : s.readied .drive = (s.rejoined 13).driveReturns := rfl

theorem exec_islandReady {i : Island} {s : State} (h : islandDom i ∈ s.stalled) : exec (.islandReady i) s = .next (s.readied i) := by
  have marked : ¬ (!s.stalled.contains (islandDom i)) = true := by simpa using h
  change execIslandReady i s = _
  unfold execIslandReady
  rw [if_neg marked]
  cases i with
  | cl n =>
    exact (apply_ite Host.Outcome.next _ _ _).symm
  | _ => rfl

/-- The state of an island whose marks are taken away, before its queue is delivered. -/
theorem State.rejoined_marks (s : State) (d : Nat) : Same [.events, .regs]
    { s with stalled := s.stalled.filter (fun x => x != d), islandBad := s.islandBad.filter (fun x => x != d),
             supply := { s.supply with clockBad := s.supply.clockBad.filter (fun x => x != d) } } (s.rejoined d) := by
  unfold State.rejoined
  extract_lets src t
  change Same _ t _
  split
  · exact .refl _ t
  · apply State.deliverQueue_but <;> decide

theorem State.rejoined_stalled (s : State) (d : Nat) : (s.rejoined d).stalled = s.stalled.filter (fun x => x != d) :=
  (s.rejoined_marks d).stalled (by decide)

theorem State.rejoined_islandBad (s : State) (d : Nat) : (s.rejoined d).islandBad = s.islandBad.filter (fun x => x != d) :=
  (s.rejoined_marks d).islandBad (by decide)

theorem State.rejoined_supply (s : State) (d : Nat) :
    (s.rejoined d).supply = { s.supply with clockBad := s.supply.clockBad.filter (fun x => x != d) } :=
  (s.rejoined_marks d).supply (by decide)

theorem State.rejoined_same (s : State) (d : Nat) : Same [.stalled, .islandBad, .supply, .events, .regs] s (s.rejoined d) := by
  refine Same.trans ?_ ((s.rejoined_marks d).mono (by decide))
  simp [Same, State.but]

theorem State.rejoined_regs (s : State) (d : Nat) : RegsBut s (s.rejoined d) [evEventsLost] := by
  intro k hk
  unfold State.rejoined
  extract_lets src t
  split
  · rfl
  · exact t.deliverQueue_reg d k (by simpa using hk)

/-- While the management plane is down nothing is delivered. -/
theorem State.rejoined_of_down {s : State} (d : Nat) (h : s.mgmtDown = true) :
    (s.rejoined d).regs = s.regs ∧ (s.rejoined d).evRing = s.evRing := by
  unfold State.rejoined
  extract_lets src t
  have down : t.mgmtDown = true := h
  rw [if_pos down]
  exact ⟨rfl, rfl⟩

end Sys2Proof.Machine

namespace Sys2Proof.Machine

/-! ### The drives come back (Table 17-1) -/

theorem State.setDrive_get (s : State) (d k : Nat) (x : DriveX) : (s.setDrive d x).drive k = if k = d then x else s.drive k := by
  split
  · subst k
    exact s.setDrive_drive_same d x
  · exact s.setDrive_drive_ne d k x ‹_›

theorem State.driveSync_fault (s : State) (d k : Nat) : ((s.driveSync d).drive k).fault = (s.drive k).fault := by
  unfold State.driveSync
  extract_lets x go y
  have kept : y.fault = (s.drive d).fault := by
    simp only [y]
    split <;> rfl
  split
  · rfl
  · rw [State.raise_get_drive, State.setDrive_get]
    split
    · subst k
      exact kept
    · rfl

theorem State.driveSync_regs (s : State) (d : Nat) : RegsBut s (s.driveSync d) [evEventsLost] := by
  unfold State.driveSync
  extract_lets x go y
  split
  · exact .refl s _
  · exact RegsBut.raise (.of_regs (.refl s _) rfl) (by simp)

/-- A drive takes a fault where it has none; the other drives keep theirs. -/
theorem State.driveFault_fault (s : State) (d cause k : Nat) : ((s.driveFault d cause).drive k).fault =
    if k = d ∧ (s.drive d).fault = 0 then cause else (s.drive k).fault := by
  unfold State.driveFault
  extract_lets src a x b
  have stamped : ∀ j, (a.drive j).fault = (s.drive j).fault := fun j => by
    simp only [a, State.setDrive_get]
    split
    · subst j
      rfl
    · rfl
  have here : x.fault = (s.drive d).fault := stamped d
  split
  · rename_i faulty
    rw [if_neg (fun h => faulty (here.trans h.2)), stamped]
  · rename_i sound
    rw [State.driveSync_fault, State.raise_get_drive]
    change ((a.setDrive d { x with fault := cause }).drive k).fault = _
    rw [State.setDrive_get]
    have clear : (s.drive d).fault = 0 := here ▸ not_not.mp sound
    by_cases hk : k = d
    · rw [if_pos hk, if_pos ⟨hk, clear⟩]
    · rw [if_neg hk, if_neg (fun h => hk h.1), stamped]

theorem State.driveFault_regs (s : State) (d cause : Nat) : RegsBut s (s.driveFault d cause) [drvsFaultCount d, evEventsLost] := by
  unfold State.driveFault
  extract_lets src a x b
  have stamped : RegsBut s a [drvsFaultCount d, evEventsLost] := .of_regs (.refl s _) rfl
  have faulty : RegsBut s b [drvsFaultCount d, evEventsLost] := (RegsBut.of_regs stamped rfl).bump16 (by simp)
  split
  · exact stamped
  · exact (faulty.raise (by simp)).trans ((State.driveSync_regs _ d).mono (by simp))

/-- One enabled drive comes back: RUN 0, no carrier yet, and fault 4. -/
def State.driveBack (s : State) (d : Nat) : State :=
  ((s.setReg (drvcRun d) 0).setDrive d { s.drive d with carrierAt := s.now, begun := 0, periods := 0 }).driveFault d 4

theorem State.driveReturns_eq (s : State) : s.driveReturns =
    s.carriersBegin.each ((List.range 4).filter (fun d => s.act (drvEnable d) == 1)) (fun s d => s.driveBack d) := rfl

theorem State.driveBack_regs (s : State) (d : Nat) : RegsBut s (s.driveBack d) [drvcRun d, drvsFaultCount d, evEventsLost] := by
  unfold State.driveBack
  have begun : RegsBut s (s.setReg (drvcRun d) 0) [drvcRun d, drvsFaultCount d, evEventsLost] := .setReg (.refl s _) (by simp)
  exact (RegsBut.of_regs begun rfl).trans ((State.driveFault_regs _ d 4).mono (by simp))

theorem State.driveBack_run (s : State) (d : Nat) : (s.driveBack d).reg (drvcRun d) = 0 := by
  unfold State.driveBack
  rw [State.driveFault_regs _ d 4 _ (by simp), State.setDrive_get_reg, State.setReg_reg_same]

theorem State.driveBack_fault (s : State) (d k : Nat) : ((s.driveBack d).drive k).fault =
    if k = d ∧ (s.drive d).fault = 0 then 4 else (s.drive k).fault := by
  unfold State.driveBack
  rw [State.driveFault_fault, State.setDrive_drive_same, State.setDrive_get]
  by_cases hk : k = d
  · rw [if_pos hk, hk]
  · rw [if_neg hk]
    rfl

/-- The drive island is back: an enabled drive has RUN 0, and fault 4 if it had none. -/
theorem State.driveReturns_drive (s : State) {d : Nat} (hd : d < 4) (h : s.act (drvEnable d) = 1) :
    s.driveReturns.reg (drvcRun d) = 0 ∧
      (s.driveReturns.drive d).fault = if (s.drive d).fault = 0 then 4 else (s.drive d).fault := by
  rw [State.driveReturns_eq]
  have begun : Same [.clusters] s s.carriersBegin := by
    unfold State.carriersBegin
    split
    · exact State.setCluster_but _ _ _ _ (by decide)
    · exact .refl _ s
  generalize s.carriersBegin = c at begun ⊢
  have fault : (c.drive d).fault = (s.drive d).fault := congrArg DriveX.fault (begun.get_drive (by decide) d)
  have mem : d ∈ (List.range 4).filter (fun d => s.act (drvEnable d) == 1) := by simp [hd, h]
  obtain ⟨u, before, after⟩ := State.each_at (s := c) (f := fun s d => s.driveBack d)
    (R := fun s t => t.reg (drvcRun d) = s.reg (drvcRun d) ∧ (t.drive d).fault = (s.drive d).fault) (fun _ => ⟨rfl, rfl⟩)
    (fun _ _ _ h h' => ⟨h'.1.trans h.1, h'.2.trans h.2⟩) (List.Nodup.filter _ List.nodup_range) mem (fun u x hx other => by
      have small : x < 4 := by simpa using (List.mem_filter.mp hx).1
      refine ⟨u.driveBack_regs x _ (by simp; omega), ?_⟩
      rw [State.driveBack_fault, if_neg (fun e => other e.1.symm)])
  have kept : (u.drive d).fault = (s.drive d).fault := before.2.trans fault
  rw [after.1, after.2, u.driveBack_run, u.driveBack_fault, kept]
  exact ⟨rfl, by simp only [true_and]⟩

/-! ### The management plane resumes (R36) -/

theorem State.mgmtUp_same (s : State) : Same [.mgmtDown, .svc, .sec, .regs] s s.mgmtUp := by
  apply State.mgmtUp_but <;> decide

theorem State.shiftGrace_regs (s : State) {k : Nat} (h : ∀ p, k ≠ partsGraceEnd p) : s.shiftGrace.reg k = s.reg k := by
  unfold State.shiftGrace
  extract_lets d
  exact State.each_keeps (fun s => s.reg k) _ _ (fun u p _ => State.setReg_reg_ne _ _ _ _ (h p)) s

theorem State.resumeTimers_reg (s : State) {k : Nat} (h : ∀ p, k ≠ partsGraceEnd p) : s.resumeTimers.reg k = s.reg k := by
  unfold State.resumeTimers
  extract_lets t th later
  have kept : t.reg k = s.reg k := by
    refine (State.each_keeps (fun s => s.reg k) _ _ (fun u p _ => ?_) s.shiftGrace).trans (s.shiftGrace_regs h)
    exact u.setPart_get_reg ..
  refine (Same.get_reg (l := [.thermal]) ?_ (by decide) k).trans kept
  exact State.but_thermal _ _ _ (by decide)

theorem State.resumeTimers_lines (s : State) : LinesBut [] s s.resumeTimers := by
  unfold State.resumeTimers
  extract_lets t th later
  have shifted : LinesBut [] s s.shiftGrace := .of_same (l := [.regs]) (by apply State.shiftGrace_but; decide) (by decide) []
  have begun : LinesBut [] s.shiftGrace t := by
    refine .each (fun u p _ => ?_) _
    exact u.setPart_lines rfl rfl
  refine (shifted.trans begun).trans (.of_same (l := [.thermal]) ?_ (by decide) [])
  exact State.but_thermal _ _ _ (by decide)

theorem State.runBank_reg (s : State) (b check : Nat) {k : Nat} (h : k ≠ identFwOther) (he : k ≠ evEventsLost) :
    (s.runBank b check).reg k = s.reg k := by
  unfold State.runBank
  extract_lets was src t u
  have set : u.reg k = s.reg k := by
    simp only [u]
    split
    · rfl
    · exact State.setReg_reg_ne _ _ _ _ h
  split
  · exact set
  · rw [State.raise_reg_ne _ _ _ _ _ _ _ he, set]

end Sys2Proof.Machine

namespace Sys2Proof.Machine

/-! ### MGMT_RESUME (R36, R447) -/

theorem State.loadOn_of_none {s : State} (h : s.supply.loadNext = none) : s.loadOn = s := by
  unfold State.loadOn
  rw [h]

theorem exec_mgmtResume {s : State} (hd : s.mgmtDown = true) (hv : s.supply.vcore = true) (hr : s.sec.inRom = false)
    (hh : s.sec.halted = false) (hb : 10 ∉ s.islandBad) : exec .mgmtResume s = match s.bootChoice with
      | some (b, c) => .next (s.resumeIn b c)
      | none => .next s.stayInRom := by
  have comes : ¬ (!s.mgmtDown || !s.supply.vcore || s.sec.inRom || s.sec.halted || s.islandBad.contains 10) = true := by
    simp [hd, hv, hr, hh, hb]
  change execMgmtResume s = _
  unfold execMgmtResume
  rw [if_neg comes]
  rfl

/-- The management plane is up in a bank, before what waits is delivered. -/
def State.upIn (s : State) (b check : Nat) : State :=
  (if s.reg supLastMgmtReset = 5 then s.setReg fwFwState 0 else s).mgmtUp.resumeTimers.runBank b check

theorem State.resumeIn_eq (s : State) (b check : Nat) : s.resumeIn b check =
    ((s.upIn b check).deliverHeld.raise 10 0x51 255 false [BitVec.ofNat 8 ((s.upIn b check).reg supLastMgmtReset)]).loadOn := rfl

theorem State.mgmtUp_since (s : State) : s.mgmtUp.reg devMgmtUpSince = s.now := State.setReg_reg_same ..

theorem State.mgmtUp_reg (s : State) {k : Nat} (h : k ≠ devMgmtUpSince) : s.mgmtUp.reg k = s.reg k := State.setReg_reg_ne _ _ _ _ h

/-- The steps of a resume after the management plane is up leave its mark and SVC. -/
theorem State.upIn_steps (u : State) (b check : Nat) : Same [.parts, .regs, .thermal, .events, .sec] u (u.resumeTimers.runBank b check) :=
  Same.trans (t := u.resumeTimers) (by apply State.resumeTimers_but <;> decide) (by apply State.runBank_but <;> decide)

theorem State.upIn_same (s : State) (b check : Nat) :
    Same [.events, .mgmtDown, .parts, .regs, .sec, .svc, .thermal] s (s.upIn b check) := by
  unfold State.upIn
  have reset : Same [.regs] s (if s.reg supLastMgmtReset = 5 then s.setReg fwFwState 0 else s) := by
    split
    · exact State.setReg_but _ _ _ _ (by decide)
    · exact .refl _ s
  generalize (if s.reg supLastMgmtReset = 5 then s.setReg fwFwState 0 else s) = a at reset ⊢
  exact ((reset.mono (by decide)).trans (a.mgmtUp_same.mono (by decide))).trans ((State.upIn_steps ..).mono (by decide))

theorem State.upIn_up (s : State) (b check : Nat) : (s.upIn b check).mgmtDown = false ∧ (s.upIn b check).svc = [] := by
  unfold State.upIn
  generalize (if s.reg supLastMgmtReset = 5 then s.setReg fwFwState 0 else s) = a
  have steps := a.mgmtUp.upIn_steps b check
  exact ⟨steps.mgmtDown (by decide), steps.svc (by decide)⟩

theorem State.upIn_reg (s : State) (b check : Nat) {k : Nat} (hg : ∀ p, k ≠ partsGraceEnd p) (hi : k ≠ identFwOther) (he : k ≠ evEventsLost) :
    (s.upIn b check).reg k = (if s.reg supLastMgmtReset = 5 then s.setReg fwFwState 0 else s).mgmtUp.reg k := by
  unfold State.upIn
  rw [State.runBank_reg _ _ _ hi he, State.resumeTimers_reg _ hg]

theorem State.upIn_since (s : State) (b check : Nat) : (s.upIn b check).reg devMgmtUpSince = s.now := by
  rw [State.upIn_reg _ _ _ (by simp) (by simp) (by simp), State.mgmtUp_since]
  split
  · exact State.setReg_now ..
  · rfl

theorem State.upIn_cause (s : State) (b check : Nat) : (s.upIn b check).reg supLastMgmtReset = s.reg supLastMgmtReset := by
  rw [State.upIn_reg _ _ _ (by simp) (by simp) (by simp), State.mgmtUp_reg _ (by simp)]
  split
  · exact State.setReg_reg_ne _ _ _ _ (by simp)
  · rfl

theorem State.upIn_lines (s : State) (b check : Nat) : LinesBut [] s (s.upIn b check) := by
  unfold State.upIn
  have reset : Same [.regs] s (if s.reg supLastMgmtReset = 5 then s.setReg fwFwState 0 else s) := by
    split
    · exact State.setReg_but _ _ _ _ (by decide)
    · exact .refl _ s
  generalize (if s.reg supLastMgmtReset = 5 then s.setReg fwFwState 0 else s) = a at reset ⊢
  have run : Same [.events, .regs, .sec] a.mgmtUp.resumeTimers (a.mgmtUp.resumeTimers.runBank b check) := by
    apply State.runBank_but <;> decide
  exact (((LinesBut.of_same reset (by decide) []).trans (.of_same a.mgmtUp_same (by decide) [])).trans a.mgmtUp.resumeTimers_lines).trans
    (.of_same run (by decide) [])

/-- What holds after the management plane has resumed in a bank. -/
theorem State.resumeIn_resumed (s : State) (b check : Nat) (h : s.supply.loadNext = none) :
    (s.resumeIn b check).mgmtDown = false ∧
      Same [.events, .later, .mgmtDown, .parts, .regs, .sec, .svc, .thermal] s (s.resumeIn b check) ∧
      (∀ p, ((s.resumeIn b check).part p).state = (s.part p).state ∧ ((s.resumeIn b check).part p).line = (s.part p).line) ∧
      (s.resumeIn b check).later = [] ∧ (s.resumeIn b check).svc = [] ∧ (s.resumeIn b check).reg devMgmtUpSince = s.now ∧
      (s.resumeIn b check).recorded 10 0x51 255 false [BitVec.ofNat 8 (s.reg supLastMgmtReset)] := by
  rw [State.resumeIn_eq, State.upIn_cause]
  have same := s.upIn_same b check
  have up := s.upIn_up b check
  have since := s.upIn_since b check
  have lines := s.upIn_lines b check
  generalize s.upIn b check = u at same up since lines ⊢
  have held : Same [.events, .later, .regs] u u.deliverHeld := by apply State.deliverHeld_but <;> decide
  have owed : u.deliverHeld.later = [] := u.deliverHeld_later
  have sinceHeld : u.deliverHeld.reg devMgmtUpSince = u.reg devMgmtUpSince := u.deliverHeld_reg _ (by simp)
  generalize u.deliverHeld = v at held owed sinceHeld ⊢
  have enters : v.enters 10 := ⟨(held.mgmtDown (by decide)).trans up.1, .inl rfl⟩
  have told : Same [.events, .regs] v (v.raise 10 0x51 255 false [BitVec.ofNat 8 (s.reg supLastMgmtReset)]) := by
    apply State.raise_but <;> decide
  have record := v.raise_recorded 10 0x51 255 false [BitVec.ofNat 8 (s.reg supLastMgmtReset)] enters
  have sinceTold := v.raise_reg_ne 10 0x51 255 false [BitVec.ofNat 8 (s.reg supLastMgmtReset)] devMgmtUpSince (by simp)
  generalize v.raise 10 0x51 255 false [BitVec.ofNat 8 (s.reg supLastMgmtReset)] = w at told record sinceTold ⊢
  have loaded : w.supply.loadNext = none := by
    rw [told.supply (by decide), held.supply (by decide), same.supply (by decide), h]
  rw [State.loadOn_of_none loaded]
  have all : Same [.events, .later, .mgmtDown, .parts, .regs, .sec, .svc, .thermal] s w :=
    ((same.mono (by decide)).trans (held.mono (by decide))).trans (told.mono (by decide))
  refine ⟨by rw [told.mgmtDown (by decide), held.mgmtDown (by decide), up.1], all, fun p => ?_, by rw [told.later (by decide), owed],
    by rw [told.svc (by decide), held.svc (by decide), up.2], by rw [sinceTold, sinceHeld, since], record⟩
  rw [told.get_part (by decide), held.get_part (by decide)]
  exact lines.keeps p (by simp)

/-! ### What ISLAND_READY says of the marks and of each island -/

theorem mem_filter_ne {l : List Nat} {d e : Nat} : d ∈ l.filter (fun x => x != e) ↔ d ∈ l ∧ d ≠ e := by simp

/-- The marks of an island, and of no other, are taken away, in a state that differs from the one after the rejoining in other parts only. -/
theorem State.rejoined_unmarked {s t : State} {d : Nat} {l : List Fld} (h : Same l (s.rejoined d) t)
    (hl : ∀ f ∈ [Fld.stalled, .islandBad, .active], f ∉ l) : d ∉ t.stalled ∧ d ∉ t.islandBad ∧
      (∀ e, e ≠ d → (e ∈ t.stalled ↔ e ∈ s.stalled) ∧ (e ∈ t.islandBad ↔ e ∈ s.islandBad)) ∧ t.active = s.active := by
  rw [h.stalled (hl _ (by decide)), h.islandBad (hl _ (by decide)), h.active (hl _ (by decide)), State.rejoined_stalled,
    State.rejoined_islandBad, (s.rejoined_same d).active (by decide)]
  simp only [mem_filter_ne]
  exact ⟨by simp, by simp, fun e he => ⟨by simp [he], by simp [he]⟩, trivial⟩

theorem State.clockBack_same (s : State) (n : Nat) : Same (.clusters :: Fld.cut) s (s.clockBack n) := by
  apply State.clockBack_but <;> decide

theorem State.driveReturns_same (s : State) : Same [.clusters, .drives, .events, .regs] s s.driveReturns := by
  apply State.driveReturns_but <;> decide

/-- Settles O7: the marks are taken away and the queue delivered, then a cluster's clock or the drives come back; a resume is taken in its steps. -/
theorem islandsAndTheManagementPlaneReturn : Obligations.IslandsAndTheManagementPlaneReturn := by
  unfold Obligations.IslandsAndTheManagementPlaneReturn
  refine ⟨⟨fun i s h => ?_, fun n s h => ?_⟩, fun s hd hv hr hh hb hc hn => ?_, fun s hd hv hr hh hb hc => ?_⟩
  · have run := exec_islandReady h
    have rest : (∀ n, i ≠ .cl n) → i ≠ .drive → Same [.stalled, .islandBad, .supply, .events, .regs] s (s.rejoined (islandDom i)) ∧
        RegsBut s (s.rejoined (islandDom i)) [evEventsLost] ∧
        (s.mgmtDown = true → (s.rejoined (islandDom i)).reg evEventsLost = s.reg evEventsLost ∧
          (s.rejoined (islandDom i)).evRing = s.evRing) ∧
        (s.rejoined (islandDom i)).supply = { s.supply with clockBad := s.supply.clockBad.filter (fun d => d != islandDom i) } :=
      fun _ _ => ⟨s.rejoined_same _, s.rejoined_regs _, fun down => by
        obtain ⟨regs, ring⟩ := s.rejoined_of_down (islandDom i) down
        exact ⟨by unfold State.reg; rw [regs], ring⟩, s.rejoined_supply _⟩
    cases i with
    | cl n =>
      refine ⟨_, run, ?_⟩
      have same : Same (.clusters :: Fld.cut) (s.rejoined (n + 1)) (if (s.rejoined (n + 1)).mayReturn n then
          (s.rejoined (n + 1)).clockBack n else s.rejoined (n + 1)) := by
        split
        · exact State.clockBack_same ..
        · exact .refl _ _
      obtain ⟨stalled, bad, others, active⟩ := State.rejoined_unmarked same (by decide)
      exact ⟨stalled, bad, others, active, fun no => absurd rfl (no n), fun no => by cases no⟩
    | drive =>
      rw [State.readied_drive] at run
      refine ⟨_, run, ?_⟩
      have same := (s.rejoined 13).driveReturns_same
      obtain ⟨stalled, bad, others, active⟩ := State.rejoined_unmarked same (by decide)
      have joined := s.rejoined_same 13
      refine ⟨stalled, bad, others, active, fun _ no => absurd rfl no, fun _ =>
        ⟨(joined.mono (by decide)).trans (same.mono (by decide)), fun d hd enabled => ?_⟩⟩
      obtain ⟨off, fault⟩ := (s.rejoined 13).driveReturns_drive hd ((joined.get_act (by decide) _).trans enabled)
      rw [joined.get_drive (by decide)] at fault
      refine ⟨off, ?_, fun sound => by rw [fault, if_pos sound]⟩
      rw [fault]
      split
      · decide
      · assumption
    | hutch | mgmt | telemetry | nv | can k | t1s | host | twoWire =>
      obtain ⟨stalled, bad, others, active⟩ := State.rejoined_unmarked (Same.refl [] (s.rejoined _)) (by decide)
      exact ⟨_, run, stalled, bad, others, active, rest, fun no => by cases no⟩
  · refine ⟨_, exec_islandReady h, fun may => ?_, fun may => ?_⟩
    all_goals
      have joined := s.rejoined_same (n + 1)
      have asks : (s.rejoined (n + 1)).mayReturn n = s.mayReturn n := by
        unfold State.mayReturn State.passed
        rw [joined.get_cluster (by decide), joined.now (by decide)]
    · rw [State.readied_cl, if_pos (asks.trans may)]
      have back := (s.rejoined (n + 1)).clockBack_cluster n
      rw [joined.get_cluster (by decide), joined.now (by decide)] at back
      generalize ((s.rejoined (n + 1)).clockBack n).cluster n = x at back ⊢
      have whole := ClusterX.eq_of_unnoted back
      rw [whole]
      exact ⟨rfl, Nat.le_max_left ..⟩
    · rw [State.readied_cl, if_neg (by rw [asks, may]; decide)]
      exact joined.clusters (by decide)
  · obtain ⟨⟨b, c⟩, choice⟩ := Option.ne_none_iff_exists'.mp hc
    have run := exec_mgmtResume hd hv hr hh hb
    rw [choice] at run
    exact ⟨_, run, s.resumeIn_resumed b c hn⟩
  · have run := exec_mgmtResume hd hv hr hh hb
    rw [hc] at run
    exact ⟨_, run, by simp [Same, State.stayInRom, State.but], rfl, rfl⟩

end Sys2Proof.Machine

namespace Sys2Proof.Machine

/-! ### The objects whose registers an operation writes -/

/-- Every register but those of the listed objects keeps its value. -/
structure ObjectsBut (l : List Nat) (s t : State) : Prop where
  keeps : ∀ k, k / 16777216 ∉ l → t.reg k = s.reg k

theorem ObjectsBut.refl (l : List Nat) (s : State) : ObjectsBut l s s := ⟨fun _ _ => rfl⟩

theorem ObjectsBut.trans {l : List Nat} {s t u : State} (h : ObjectsBut l s t) (h' : ObjectsBut l t u) : ObjectsBut l s u :=
  ⟨fun k hk => (h'.keeps k hk).trans (h.keeps k hk)⟩

theorem ObjectsBut.mono {l m : List Nat} {s t : State} (h : ObjectsBut l s t) (hs : ∀ b ∈ l, b ∈ m) : ObjectsBut m s t :=
  ⟨fun k hk => h.keeps k (fun hl => hk (hs _ hl))⟩

theorem ObjectsBut.of_same {f : List Fld} {s t : State} (h : Same f s t) (hr : Fld.regs ∉ f) (l : List Nat) : ObjectsBut l s t :=
  ⟨fun k _ => h.get_reg hr k⟩

theorem ObjectsBut.ite {l : List Nat} {c : Prop} [Decidable c] {s t u : State} (ht : ObjectsBut l s t) (hu : ObjectsBut l s u) :
    ObjectsBut l s (if c then t else u) := by
  split
  · exact ht
  · exact hu

theorem ObjectsBut.each {l : List Nat} {f : State → Nat → State} (h : ∀ u x, ObjectsBut l u (f u x)) (xs : List Nat) (s : State) :
    ObjectsBut l s (s.each xs f) :=
  State.each_rel (.refl l) (fun _ _ _ => .trans) h xs s

/-- A register of an object outside the list. -/
theorem ObjectsBut.at {l : List Nat} {s t : State} (h : ObjectsBut l s t) {b : Nat} (hb : b ∉ l) (u x : Nat) :
    t.reg (rk b u x) = s.reg (rk b u x) := h.keeps _ (by rwa [rk_object])

theorem State.setReg_objects (s : State) {l : List Nat} {b : Nat} (h : b ∈ l) (u x v : Nat) : ObjectsBut l s (s.setReg (rk b u x) v) :=
  ⟨fun _ hj => State.setReg_reg_ne _ _ _ _ (fun e => hj (by rwa [e, rk_object]))⟩

/-- EVENTS_LOST is a register of object 0x1010. -/
theorem State.raise_objects (s : State) {l : List Nat} (h : 0x1010 ∈ l) (d c p : Nat) (cl : Bool) (x : Bytes) :
    ObjectsBut l s (s.raise d c p cl x) :=
  ⟨fun k hk => State.raise_reg_ne _ _ _ _ _ _ _ (fun e => hk (by rw [e, rk_object]; exact h))⟩

theorem State.setChan_objects (s : State) (c : Nat) (x : ChanX) (l : List Nat) : ObjectsBut l s (s.setChan c x) :=
  .of_same (f := [.chans]) (State.setChan_but _ _ _ _ (by decide)) (by decide) _

theorem State.setPart_objects (s : State) (p : Nat) (x : PartX) (l : List Nat) : ObjectsBut l s (s.setPart p x) :=
  .of_same (f := [.parts]) (State.setPart_but _ _ _ _ (by decide)) (by decide) _

/-! ### Channels -/

/-- A change of a channel's state writes registers of the channel's status alone. -/
theorem State.toState_objects (s : State) (c : Nat) (st : ChanState) (at_ : Nat) : ObjectsBut [0x2400] s (s.toState c st at_) := by
  unfold State.toState
  extract_lets x a b d
  have set : ObjectsBut [0x2400] s a := s.setChan_objects ..
  have stamped : ObjectsBut [0x2400] a (a.setReg (chsStateSince c) at_) := a.setReg_objects (by decide) ..
  have noted : ObjectsBut [0x2400] (a.setReg (chsStateSince c) at_) b := .of_same (f := [.caps]) (by apply State.noteCap_but; decide) (by decide) _
  have counted : ObjectsBut [0x2400] b d := by
    simp only [d]
    split
    · exact (b.setReg_objects (by decide) ..).trans (State.setReg_objects _ (by decide) ..)
    · exact b.setReg_objects (by decide) ..
    · exact .refl _ b
  exact ((set.trans (stamped.trans noted)).trans counted).trans
    (.of_same (f := [.entries, .trims]) (by apply State.trimFollow_but <;> decide) (by decide) _)

theorem State.marginOff_objects (s : State) (c : Nat) : ObjectsBut [0x2400] s (s.marginOff c) := by
  unfold State.marginOff
  extract_lets t
  have dropped : ObjectsBut [0x2400] s t := s.setChan_objects ..
  exact .ite (dropped.trans (t.toState_objects ..)) dropped

theorem State.marginEnd_objects (s : State) (c reason : Nat) : ObjectsBut [0x2400] s (s.marginEnd c reason) :=
  .ite (s.setChan_objects ..) (s.marginOff_objects c)

/-- The end of a sweep writes registers of the channel that it margins and of the bench, and EVENTS_LOST. -/
theorem State.sweepEnd_objects (s : State) (p reason : Nat) : ObjectsBut [0x2400, 0x34E0, 0x1010] s (s.sweepEnd p reason) := by
  unfold State.sweepEnd
  extract_lets b t u x src v w
  have freed : ObjectsBut [0x2400, 0x34E0, 0x1010] s t := by
    refine .of_same (f := [.waitMaint]) ?_ (by decide) _
    exact State.but_waitMaint _ _ _ (by decide)
  have ended : ObjectsBut [0x2400, 0x34E0, 0x1010] t u := .ite ((t.marginEnd_objects ..).mono (by simp)) (.refl _ t)
  have marked : ObjectsBut [0x2400, 0x34E0, 0x1010] u v := u.setPart_objects ..
  have told : ObjectsBut [0x2400, 0x34E0, 0x1010] v w :=
    ((v.setReg_objects (by decide) ..).trans (State.setReg_objects _ (by decide) ..)).trans (State.setReg_objects _ (by decide) ..)
  exact .ite (.refl _ s) ((((freed.trans ended).trans marked).trans told).trans (w.raise_objects (by decide) ..))

end Sys2Proof.Machine

namespace Sys2Proof.Machine

/-! ### What the failures of the islands leave (Table 1-4) -/

/-- One unit of a list without repeats, after an operation whose other steps leave it: what its own step makes of it. -/
theorem State.each_unit {α : Type} (g : State → α) {f : State → Nat → State} {l : List Nat} {n : Nat} (nodup : l.Nodup) (mem : n ∈ l)
    (h : ∀ u, ∀ x ∈ l, x ≠ n → g (f u x) = g u) (s : State) : ∃ u, g u = g s ∧ g (s.each l f) = g (f u n) :=
  State.each_at (R := fun s t => g t = g s) (fun _ => rfl) (fun _ _ _ h h' => h'.trans h) nodup mem h s

/-! ### The telemetry, two-wire and host islands -/

theorem State.hostNote_host (s : State) : s.hostNote.host = { s.host with wakeReason := s.hostNote.host.wakeReason } := by
  unfold State.hostNote
  split <;> rfl

theorem State.telemetryFails_host (s : State) : s.telemetryFails.host = { s.host with wakeReason := s.telemetryFails.host.wakeReason } := by
  have kept : s.telemetryFails.host = s.hostNote.host := by
    unfold State.telemetryFails
    refine State.each_keeps (fun s => s.host) _ _ (fun u k _ => ?_) s.hostNote
    exact u.setStream_host ..
  rw [kept]
  exact s.hostNote_host

theorem State.telemetryFails_stream (s : State) {k : Nat} (hk : k < 32) :
    (s.telemetryFails.stream k).ring = [] ∧ (s.telemetryFails.stream k).runs = [] := by
  unfold State.telemetryFails
  rw [State.each_setStream (fun _ x => { x with runs := [], ring := [] }) _ List.nodup_range, if_pos (List.mem_range.mpr hk)]
  exact ⟨rfl, rfl⟩

theorem State.twoWireFails_port (s : State) {n : Nat} (hn : n < 8) : (s.twoWireFails.port n).busy = none := by
  unfold State.twoWireFails
  obtain ⟨u, -, after⟩ := State.each_unit (fun s => s.port n) (f := fun s n =>
      let x := s.port n
      let keep : List PsTx := match x.busy with
        | some t => (match t.why with
          | .shutoff _ => [{ t with page := 255, paging := false }]
          | _ => [])
        | none => []
      s.setPort n { x with busy := none, queue := keep ++ x.queue, recovering := false, sdaLow := false })
    List.nodup_range (List.mem_range.mpr hn) (fun u x _ other => by
      show (State.setPort u x _).port n = _
      rw [State.setPort_get, if_neg (Ne.symm other)]) ((s.setPort 8 {}).setPort svcPort {})
  refine (congrArg PortX.busy after).trans ?_
  show ((State.setPort u n _).port n).busy = none
  rw [State.setPort_get, if_pos rfl]

/-! ### The drive island -/

theorem State.driveSync_running (s : State) (d : Nat) : ((s.driveSync d).drive d).running = s.driveRuns d := by
  unfold State.driveSync
  extract_lets x go y
  split
  · rename_i same
    exact (beq_iff_eq.mp same).symm
  · rw [State.raise_get_drive, State.setDrive_drive_same]
    simp only [y]
    split
    · exact ‹go = true›.symm
    · exact (Bool.not_eq_true _ ▸ ‹¬ go = true› : go = false).symm

theorem State.driveSync_drive_ne (s : State) {d k : Nat} (h : k ≠ d) : (s.driveSync d).drive k = s.drive k := by
  unfold State.driveSync
  extract_lets x go y
  split
  · rfl
  · rw [State.raise_get_drive, State.setDrive_drive_ne _ _ _ _ h]

theorem State.driveRuns_of_bad {s : State} (h : 13 ∈ s.islandBad) (d : Nat) : s.driveRuns d = false := by
  unfold State.driveRuns
  simp [h]

theorem State.driveFails_drive {s : State} (h : 13 ∈ s.islandBad) {d : Nat} (hd : d < 4) : (s.driveFails.drive d).running = false := by
  unfold State.driveFails
  extract_lets src locks t
  have stopped : (t.drive d).running = false := by
    obtain ⟨u, before, after⟩ := State.each_unit (fun s => (s.drive d, s.islandBad)) (f := fun s d => s.driveSync d)
      List.nodup_range (List.mem_range.mpr hd) (fun u x _ other => by
        have same : Same [.drives, .events, .regs] u (u.driveSync x) := by apply State.driveSync_but <;> decide
        rw [State.driveSync_drive_ne _ (Ne.symm other), same.islandBad (by decide)]) s
    have bad : 13 ∈ u.islandBad := by
      rw [show u.islandBad = s.islandBad from congrArg Prod.snd before]
      exact h
    refine (congrArg (fun x => x.1.running) after).trans ?_
    exact (u.driveSync_running d).trans (State.driveRuns_of_bad bad d)
  split
  · have same : Same [.clusters, .events, .regs] t (t.lockFalls (t.carrierPs (src - 1))) := by apply State.lockFalls_but <;> decide
    rw [same.get_drive (by decide), stopped]
  · exact stopped

theorem State.lockFalls_regs (s : State) (period : Nat) : RegsBut s (s.lockFalls period) [evEventsLost] := by
  unfold State.lockFalls
  extract_lets x shown t
  have fallen : RegsBut s t [evEventsLost] := .of_regs (.refl s _) rfl
  split
  · exact fallen
  · refine RegsBut.raise ?_ (by simp)
    refine fallen.each (fun u g _ => ?_)
    exact .of_regs (.refl u _) rfl

theorem State.driveFails_regs (s : State) : RegsBut s s.driveFails [evEventsLost] := by
  unfold State.driveFails
  extract_lets src locks t
  have stopped : RegsBut s t [evEventsLost] := RegsBut.each (.refl s _) (fun u d _ => u.driveSync_regs d)
  split
  · exact stopped.trans (t.lockFalls_regs _)
  · exact stopped

/-! ### The NV island -/

theorem State.foundTorn_regs (s : State) (a n : Nat) : RegsBut s (s.foundTorn a n) [nvsTornPages] := by
  unfold State.foundTorn
  extract_lets torn pages
  refine RegsBut.each (.refl s _) (fun u pg _ => ?_)
  extract_lets l
  split
  · exact .refl u _
  · refine RegsBut.bump16 ?_ (by simp)
    refine RegsBut.each (.refl u _) (fun v g _ => ?_)
    exact .of_regs (.refl v _) rfl

theorem State.tear_same (s : State) (o : NvOp) (done : Nat) : Same [.flash, .granules] s (s.tear o done) := by
  apply State.tear_but <;> decide

theorem State.drawerTorn_regs (s : State) (d : Drawer) : RegsBut s (s.drawerTorn d) [logsTornCount] := by
  unfold State.drawerTorn
  extract_lets again src t
  exact RegsBut.bump16 (.of_regs (.refl s _) rfl) (by simp)

theorem State.drawerTorn_seqs (s : State) (d : Drawer) :
    (s.drawerTorn d).log.staged.map (fun d => d.seq) = s.log.staged.map (fun d => d.seq) := by
  unfold State.drawerTorn
  extract_lets again src t
  change (s.log.staged.map again).map (fun d => d.seq) = _
  rw [List.map_map]
  refine List.map_congr_left (fun x _ => ?_)
  simp only [again, Function.comp]
  split <;> rfl

theorem State.holdDrawers_seqs (s : State) : s.holdDrawers.log.staged.map (fun d => d.seq) = s.log.staged.map (fun d => d.seq) := by
  unfold State.holdDrawers
  extract_lets busy
  change (s.log.staged.map _).map (fun d : Drawer => d.seq) = _
  rw [List.map_map]
  refine List.map_congr_left (fun x _ => ?_)
  simp only [Function.comp]
  split <;> rfl

/-- A torn program leaves the log, and the registers but the count of torn pages. -/
theorem State.tornFound (s : State) (o : NvOp) (k a n : Nat) :
    ((s.tear o k).foundTorn a n).log = s.log ∧ RegsBut s ((s.tear o k).foundTorn a n) [nvsTornPages] := by
  have found : Same [.granules, .regs] (s.tear o k) ((s.tear o k).foundTorn a n) := by apply State.foundTorn_but <;> decide
  exact ⟨(found.log (by decide)).trans ((s.tear_same o k).log (by decide)),
    RegsBut.trans (fun j _ => (s.tear_same o k).get_reg (by decide) j) ((s.tear o k).foundTorn_regs a n)⟩

/-- A program operation in progress ends torn: none is in progress, no staged drawer is lost, and the registers but those of torn pages and
drawers are as they were. -/
theorem State.programBreaks_ends (s : State) : s.programBreaks.nv.program = none ∧
    s.programBreaks.log.staged.map (fun d => d.seq) = s.log.staged.map (fun d => d.seq) ∧
    RegsBut s s.programBreaks [nvsTornPages, logsTornCount] := by
  unfold State.programBreaks
  split
  · exact ⟨‹_›, rfl, .refl s _⟩
  · rename_i o _
    extract_lets k t src u
    obtain ⟨log, regs⟩ := State.tornFound { s with draws := s.draws + 1 } o k o.addr o.data.length
    have drawn : RegsBut s { s with draws := s.draws + 1 } [nvsTornPages, logsTornCount] := fun _ _ => rfl
    have ended : u.log = s.log ∧ u.nv.program = none ∧ RegsBut s u [nvsTornPages, logsTornCount] :=
      ⟨log, rfl, (drawn.trans (regs.mono (by simp))).of_regs rfl⟩
    clear_value u
    obtain ⟨ulog, none', uregs⟩ := ended
    split
    · rename_i d _
      have same : Same [.log, .regs] u (u.drawerTorn d) := by apply State.drawerTorn_but <;> decide
      exact ⟨by rw [same.nv (by decide), none'], by rw [State.drawerTorn_seqs, ulog],
        uregs.trans ((u.drawerTorn_regs d).mono (by simp))⟩
    · exact ⟨none', by rw [ulog], uregs⟩

theorem State.nvFails_ends (s : State) : s.nvFails.nv.queue = [] ∧ s.nvFails.nv.program = none ∧ s.nvFails.nv.erase = none ∧
    s.nvFails.log.staged.map (fun d => d.seq) = s.log.staged.map (fun d => d.seq) ∧
    RegsBut s s.nvFails [nvsTornPages, logsTornCount] := by
  obtain ⟨none', seqs, regs⟩ := s.programBreaks_ends
  unfold State.nvFails
  extract_lets t
  have held : t.nv = s.programBreaks.nv := rfl
  have kept : t.log.staged.map (fun d => d.seq) = s.log.staged.map (fun d => d.seq) := (State.holdDrawers_seqs _).trans seqs
  have same : RegsBut s t [nvsTornPages, logsTornCount] := regs.of_regs rfl
  have ended : t.nv.program = none := held ▸ none'
  clear_value t
  exact ⟨rfl, ended, rfl, kept, same.of_regs rfl⟩

end Sys2Proof.Machine

namespace Sys2Proof.Machine

/-! ### A management reset (R35, R36) -/

/-- A switch armed in this tick is abandoned; any other armed commit stays. -/
theorem State.switchStops_armed {s : State} (h : ¬ s.switchAsked) : s.switchStops.armed = s.armed := by
  unfold State.switchStops
  split
  · rename_i n pin tick since ready armed
    split
    · exact absurd ⟨_, n, pin, armed, rfl, ‹since = s.now›⟩ h
    · rfl
  · rfl

theorem State.switchStops_objects (s : State) : ObjectsBut [0x1100] s s.switchStops := by
  unfold State.switchStops
  split
  · refine .ite ?_ (.refl _ s)
    refine .trans (.of_same (f := [.armed, .switchSt, .shadow, .later, .supply]) ?_ (by decide) _) (State.setReg_objects _ (by decide) ..)
    simp [Same, State.but]
  · exact .refl _ s

theorem State.discardSets_regs (s : State) : RegsBut s (s.discardSets 1) [] := by
  have ends : ∀ (l : List Nat) (g : State → Nat → State), (∀ u w, RegsBut u (g u w) []) → ∀ u : State, RegsBut u (l.foldl g u) [] := by
    intro l g h
    induction l with
    | nil => exact fun u => .refl u _
    | cons w l ih =>
      intro u
      rw [List.foldl_cons]
      exact (h u w).trans (ih _)
  unfold State.discardSets
  extract_lets tell queued t u
  have told : ∀ v code w param, RegsBut v (tell v code w param) [] := fun v _ _ _ => .of_regs (.refl v _) rfl
  have emptied : RegsBut s t [] := by
    refine RegsBut.each (.refl s _) (fun v w _ => ?_)
    extract_lets x y
    have set : RegsBut v y [] := fun k _ => State.setStage_get_reg ..
    split
    · exact set
    · exact RegsBut.trans set (told y _ _ _)
  have ended : RegsBut t u [] := ends _ _ (fun v w => by
    have waits := (tell v 2 w (two 0x0401)).endWaits_same w 0x0401
    exact RegsBut.trans (told v 2 w (two 0x0401)) (fun k _ => waits.get_reg (by decide) k)) t
  clear_value u
  exact (emptied.trans ended).of_regs rfl

theorem State.marginOff_parts (s : State) (c : Nat) : Same [.caps, .chans, .entries, .regs, .trims] s (s.marginOff c) := by
  apply State.marginOff_but <;> decide

theorem State.marginEnd_lines (s : State) (c reason : Nat) : LinesBut [] s (s.marginEnd c reason) := by
  have dropped : Same [.chans] s (s.marginDrop c) := State.setChan_but _ _ _ _ (by decide)
  exact .ite (.of_same dropped (by decide) _) (.of_same (s.marginOff_parts c) (by decide) _)

theorem State.sweepEnd_lines (s : State) (p reason : Nat) : LinesBut [] s (s.sweepEnd p reason) := by
  unfold State.sweepEnd
  extract_lets b t u x src v w
  have freed : LinesBut [] s t := by
    refine .of_same (l := [.waitMaint]) ?_ (by decide) _
    exact State.but_waitMaint _ _ _ (by decide)
  have ended : LinesBut [] t u := .ite (t.marginEnd_lines ..) (.refl _ t)
  have marked : LinesBut [] u v := u.setPart_lines rfl rfl
  have told : Same [.regs] v w := by simp [Same, w, ↓State.setReg_but]
  have raised : Same [.events, .regs] w (w.raise (clOf b.chan + 1) 0x1D p false (two b.chan ++ [BitVec.ofNat 8 reason])) := by
    apply State.raise_but <;> decide
  exact .ite (.refl _ s) ((((freed.trans ended).trans marked).trans (.of_same told (by decide) _)).trans (.of_same raised (by decide) _))

theorem State.sweepsReset_lines (s : State) : LinesBut [] s s.sweepsReset := by
  unfold State.sweepsReset
  refine .each (fun u p _ => ?_) s
  extract_lets v b src
  have taken : LinesBut [] u v := .each (fun w c _ => .of_same (w.marginOff_parts c) (by decide) _) u
  clear_value v
  refine .ite (taken.trans ?_) (.ite (taken.trans (v.sweepEnd_lines ..)) taken)
  exact v.setPart_lines rfl rfl

theorem State.sweepsReset_objects (s : State) : ObjectsBut [0x2400, 0x34E0, 0x1010] s s.sweepsReset := by
  unfold State.sweepsReset
  refine .each (fun u p => ?_) _ s
  extract_lets v b src
  have taken : ObjectsBut [0x2400, 0x34E0, 0x1010] u v := .each (fun w c => (w.marginOff_objects c).mono (by simp)) _ u
  exact .ite (taken.trans (v.setPart_objects ..)) (.ite (taken.trans (v.sweepEnd_objects ..)) taken)

theorem State.workReset_objects (s : State) : ObjectsBut [0x1100, 0x1120, 0x7830] s s.workReset := by
  unfold State.workReset
  extract_lets t
  have cleared : ObjectsBut [0x1100, 0x1120, 0x7830] s t :=
    (((s.setReg_objects (by decide) ..).trans (State.setReg_objects _ (by decide) ..)).trans (State.setReg_objects _ (by decide) ..)).trans
      (State.setReg_objects _ (by decide) ..)
  exact .ite (cleared.trans (t.setReg_objects (by decide) ..)) cleared

/-- What a management reset leaves of the registers, of the partitions and of an armed commit. -/
theorem State.mgmtReset_leaves (s : State) (code : Nat) :
    ObjectsBut [0x1100, 0x1120, 0x1180, 0x1010, 0x2400, 0x34E0, 0x7830] s (s.mgmtReset code) ∧ LinesBut [] s (s.mgmtReset code) ∧
      (¬ s.switchAsked → (s.mgmtReset code).armed = s.armed) ∧ (s.mgmtReset code).mgmtDown = true := by
  unfold State.mgmtReset
  extract_lets a b
  have stopped : Same [.armed, .later, .regs, .shadow, .supply, .switchSt] s s.switchStops := by apply State.switchStops_but <;> decide
  have coded : Same [.regs] s.switchStops a := by simp [Same, a, ↓State.setReg_but]
  have discarded : Same [.events, .later, .queueC, .regs, .sets, .waits] a (a.discardSets 1) := by
    apply State.discardSets_but <;> decide
  have swept : Same [.caps, .chans, .entries, .events, .parts, .regs, .trims, .waitMaint] (a.discardSets 1) (a.discardSets 1).sweepsReset := by
    apply State.sweepsReset_but <;> decide
  have worked : Same [.regs] (a.discardSets 1).sweepsReset b := by apply State.workReset_but; decide
  have codedRegs : ObjectsBut [0x1180] s.switchStops a := (State.setReg_objects _ (by decide) ..).trans (State.setReg_objects _ (by decide) ..)
  have regs : ObjectsBut [0x1100, 0x1120, 0x1180, 0x1010, 0x2400, 0x34E0, 0x7830] s b :=
    ((((s.switchStops_objects.mono (by simp)).trans (codedRegs.mono (by simp))).trans ⟨fun k _ => a.discardSets_regs k (by simp)⟩).trans
      ((State.sweepsReset_objects _).mono (by simp))).trans ((State.workReset_objects _).mono (by simp))
  have lines : LinesBut [] s b :=
    ((((LinesBut.of_same stopped (by decide) _).trans (.of_same coded (by decide) _)).trans (.of_same discarded (by decide) _)).trans
      (State.sweepsReset_lines _)).trans (.of_same worked (by decide) _)
  have armed : ¬ s.switchAsked → b.armed = s.armed := fun h => by
    rw [worked.armed (by decide), swept.armed (by decide), discarded.armed (by decide), coded.armed (by decide), State.switchStops_armed h]
  clear_value b
  exact ⟨⟨fun k hk => regs.keeps k hk⟩, ⟨fun p hp => lines.keeps p hp⟩, armed, rfl⟩

end Sys2Proof.Machine

namespace Sys2Proof.Machine

/-! ### An island fails (R31 to R33, Table 1-4) -/

/-- An island is marked as failed. -/
def State.markBad (s : State) (d : Nat) : State := { s with islandBad := s.islandBad.insert d }

/-- What the failure of an island may change beside its mark. -/
def Fld.fails : List Fld :=
  [.armed, .asms, .caps, .chans, .clusters, .draws, .drives, .entries, .events, .flash, .fwWaitAt, .granules, .host, .inbox, .later, .ledger,
    .log, .mgmtDown, .nv, .parts, .peerReq, .ports, .queueC, .regs, .sec, .sessions, .sets, .shadow, .streams, .supply, .svc, .switchSt, .trims,
    .waitMaint, .waits]

theorem State.islandFails_same (s : State) (d : Nat) : Same Fld.fails (s.markBad d) (s.islandFails d) := by
  unfold State.islandFails
  extract_lets t
  change Same Fld.fails t _
  split
  · apply State.mgmtReset_but <;> decide
  · apply State.telemetryFails_but <;> decide
  · apply State.nvFails_but <;> decide
  · apply State.driveFails_but <;> decide
  · apply State.hostFails_but; decide
  · apply State.twoWireFails_but; decide
  · exact .refl _ t

/-- The count of island faults is no register of a failure's own. -/
theorem State.islandFails_count (s : State) (d : Nat) : (s.islandFails d).reg diagIslandFaultCount = s.reg diagIslandFaultCount := by
  unfold State.islandFails
  extract_lets t
  change _ = t.reg diagIslandFaultCount
  clear_value t
  split
  · exact (t.mgmtReset_leaves _).1.at (by decide) _ _
  · have same : Same [.host, .streams] t t.telemetryFails := by apply State.telemetryFails_but <;> decide
    exact same.get_reg (by decide) _
  · exact t.nvFails_ends.2.2.2.2 _ (by simp)
  · exact t.driveFails_regs _ (by simp)
  · rfl
  · have same : Same [.ports] t t.twoWireFails := by apply State.twoWireFails_but; decide
    exact same.get_reg (by decide) _
  · rfl

/-! ### HANDSHAKE_STALL -/

/-- An island is marked as stalled, and counted. -/
def State.stall (s : State) (d : Nat) : State := { s with stalled := s.stalled.insert d }.bump16 diagIslandFaultCount

theorem State.stall_same (s : State) (d : Nat) : Same [.stalled, .regs] s (s.stall d) :=
  Same.trans (t := { s with stalled := s.stalled.insert d }) (State.but_stalled _ _ _ (by decide)) (State.setReg_but _ _ _ _ (by decide))

theorem State.stall_regs (s : State) (d : Nat) : RegsBut s (s.stall d) [diagIslandFaultCount] :=
  RegsBut.bump16 (.of_regs (.refl s _) rfl) (by simp)

theorem State.stall_count (s : State) (d : Nat) : (s.stall d).reg diagIslandFaultCount = sat16 (s.reg diagIslandFaultCount) :=
  State.setReg_reg_same ..

theorem exec_handshakeStall {i : Island} {s : State} (hc : ∀ n, i ≠ .cl n) (hh : i ≠ .hutch) (hs : islandDom i ∉ s.stalled)
    (hb : islandDom i ∉ s.islandBad) : exec (.handshakeStall i) s = .next ((s.stall (islandDom i)).islandFails (islandDom i)) := by
  have sound : (s.stall (islandDom i)).failOnce (islandDom i) = (s.stall (islandDom i)).islandFails (islandDom i) := by
    unfold State.failOnce
    rw [(s.stall_same (islandDom i)).islandBad (by decide), if_neg (by simpa using hb)]
  rw [← sound]
  change execHandshakeStall i s = _
  unfold execHandshakeStall
  rw [if_neg (by simpa using hs)]
  cases i with
  | cl n => exact absurd rfl (hc n)
  | hutch => exact absurd rfl hh
  | _ => rfl

theorem exec_handshakeStall_cl {n : Fin 8} {s : State} (hs : islandDom (.cl n) ∉ s.stalled) (hl : (s.cluster n).clockLost = false) :
    exec (.handshakeStall (.cl n)) s = .next (State.clockLoss { s with stalled := s.stalled.insert (islandDom (.cl n)) } n) := by
  change execHandshakeStall (.cl n) s = _
  unfold execHandshakeStall
  rw [if_neg (by simpa using hs)]
  have runs : ¬ (s.cluster n).clockLost = true := by simp [hl]
  exact if_neg runs

theorem exec_handshakeStall_hutch {s : State} (hs : islandDom .hutch ∉ s.stalled) :
    exec (.handshakeStall .hutch) s = .next (s.stall (islandDom .hutch)) := by
  change execHandshakeStall .hutch s = _
  unfold execHandshakeStall
  rw [if_neg (by simpa using hs)]
  rfl

theorem exec_handshakeStall_stalled {i : Island} {s : State} (hs : islandDom i ∈ s.stalled) : exec (.handshakeStall i) s = .next s := by
  change execHandshakeStall i s = _
  unfold execHandshakeStall
  exact if_pos (by simpa using hs)

/-! ### ISLAND_CLOCK_FAULT -/

/-- An island whose clock is at fault is marked as stalled, and its monitor stands. -/
def State.clockFault (s : State) (d : Nat) : State :=
  { s with stalled := s.stalled.insert d, supply := { s.supply with clockBad := s.supply.clockBad.insert d } }

theorem exec_islandClockFault {i : Island} {s : State} (hc : ∀ n, i ≠ .cl n) (hh : i ≠ .hutch) (hb : islandDom i ∉ s.supply.clockBad) :
    exec (.islandClockFault i) s = .next ((((s.clockFault (islandDom i)).bump16 diagIslandFaultCount).failOnce (islandDom i)).raise 9 0x16 255
      false [BitVec.ofNat 8 (islandDom i)]) := by
  change execIslandClockFault i s = _
  unfold execIslandClockFault
  cases i with
  | cl n => exact absurd rfl (hc n)
  | hutch => exact absurd rfl hh
  | _ => exact if_neg (by simpa using hb)

theorem exec_islandClockFault_hutch {s : State} (h : s.supply.xtalOk = true) : exec (.islandClockFault .hutch) s = .next
    (({ s with supply := { s.supply with xtalOk := false, rtcDegraded := true } }.bump16 diagIslandFaultCount).raise 9 0x16 255 false [9]) := by
  change execIslandClockFault .hutch s = _
  unfold execIslandClockFault
  exact if_neg (by simp [h])

/-! ### What a stall changes -/

theorem mem_insert_other {l : List Nat} {d e : Nat} (h : e ≠ d) : e ∈ l.insert d ↔ e ∈ l := by simp [h]

/-- What the failure of a stalled island leaves, whichever it is. -/
theorem State.stall_fails (s : State) (d : Nat) :
    d ∈ ((s.stall d).islandFails d).stalled ∧ d ∈ ((s.stall d).islandFails d).islandBad ∧
      (∀ e, e ≠ d → (e ∈ ((s.stall d).islandFails d).stalled ↔ e ∈ s.stalled) ∧
        (e ∈ ((s.stall d).islandFails d).islandBad ↔ e ∈ s.islandBad)) ∧
      ((s.stall d).islandFails d).active = s.active ∧ ((s.stall d).islandFails d).ens = s.ens ∧
      ((s.stall d).islandFails d).latches = s.latches ∧ ((s.stall d).islandFails d).safeN = s.safeN := by
  have failed := (s.stall d).islandFails_same d
  have stalled := s.stall_same d
  rw [failed.stalled (by decide), failed.islandBad (by decide), failed.active (by decide), failed.ens (by decide),
    failed.latches (by decide), failed.safeN (by decide)]
  change d ∈ s.stalled.insert d ∧ d ∈ (s.stall d).islandBad.insert d ∧ (∀ e, e ≠ d → (e ∈ s.stalled.insert d ↔ e ∈ s.stalled) ∧
    (e ∈ (s.stall d).islandBad.insert d ↔ e ∈ s.islandBad)) ∧ (s.stall d).active = _ ∧ (s.stall d).ens = _ ∧ (s.stall d).latches = _ ∧
    (s.stall d).safeN = _
  rw [stalled.islandBad (by decide)]
  exact ⟨by simp, by simp, fun e he => ⟨mem_insert_other he, mem_insert_other he⟩, stalled.active (by decide), stalled.ens (by decide),
    stalled.latches (by decide), stalled.safeN (by decide)⟩

/-- A stalled island that is marked as failed, before its failure does anything. -/
theorem State.stall_marked (s : State) (d : Nat) : Same [.stalled, .islandBad, .regs] s ((s.stall d).markBad d) :=
  ((s.stall_same d).mono (by decide)).trans (State.but_islandBad _ _ _ (by decide))

theorem State.stall_marked_regs (s : State) (d : Nat) : RegsBut s ((s.stall d).markBad d) [diagIslandFaultCount] :=
  (s.stall_regs d).of_regs rfl

end Sys2Proof.Machine

namespace Sys2Proof.Machine

/-! ### The failure of each island after a stall -/

/-- A frame and the register frame of the count carry over what an island's own failure leaves. -/
theorem State.stall_then {s t : State} {d : Nat} {l : List Fld} (h : Same l ((s.stall d).markBad d) t) :
    Same ([.stalled, .islandBad, .regs] ++ l) s t :=
  ((s.stall_marked d).mono (by simp_all)).trans (h.mono (fun _ hf => List.mem_append_right _ hf))

theorem State.stall_regs_then {s t : State} {d : Nat} {l : List Fld} (h : Same l ((s.stall d).markBad d) t) (hr : Fld.regs ∉ l) :
    RegsBut s t [diagIslandFaultCount] :=
  (s.stall_marked_regs d).trans (fun k _ => h.get_reg hr k)

theorem State.islandFails_host (s : State) : s.islandFails 17 = (s.markBad 17).hostFails := rfl

theorem State.islandFails_telemetry (s : State) : s.islandFails 11 = (s.markBad 11).telemetryFails := rfl

theorem State.islandFails_twoWire (s : State) : s.islandFails 18 = (s.markBad 18).twoWireFails := rfl

theorem State.islandFails_drive (s : State) : s.islandFails 13 = (s.markBad 13).driveFails := rfl

theorem State.islandFails_nv (s : State) : s.islandFails 12 = (s.markBad 12).nvFails := rfl

theorem State.islandFails_mgmt (s : State) :
    s.islandFails 10 = (s.markBad 10).mgmtReset ((s.markBad 10).reg supLastMgmtReset) := rfl

theorem stall_silent (s : State) {d : Nat} (h : (s.stall d).islandFails d = (s.stall d).markBad d) :
    Same [.stalled, .islandBad, .regs] s ((s.stall d).islandFails d) ∧ RegsBut s ((s.stall d).islandFails d) [diagIslandFaultCount] := by
  rw [h]
  exact ⟨s.stall_marked d, s.stall_marked_regs d⟩

theorem stall_host (s : State) : Same [.stalled, .islandBad, .regs, .host] s ((s.stall 17).islandFails 17) ∧
    RegsBut s ((s.stall 17).islandFails 17) [diagIslandFaultCount] ∧
    ((s.stall 17).islandFails 17).host = { s.host with inFrame := false } := by
  rw [State.islandFails_host]
  have same : Same [.host] ((s.stall 17).markBad 17) ((s.stall 17).markBad 17).hostFails := by apply State.hostFails_but; decide
  have marked := s.stall_marked 17
  have host : ((s.stall 17).markBad 17).hostFails.host = { ((s.stall 17).markBad 17).host with inFrame := false } := rfl
  rw [marked.host (by decide)] at host
  exact ⟨State.stall_then same, State.stall_regs_then same (by decide), host⟩

theorem stall_telemetry (s : State) : Same [.stalled, .islandBad, .regs, .streams, .host] s ((s.stall 11).islandFails 11) ∧
    RegsBut s ((s.stall 11).islandFails 11) [diagIslandFaultCount] ∧
    ((s.stall 11).islandFails 11).host = { s.host with wakeReason := ((s.stall 11).islandFails 11).host.wakeReason } ∧
    ∀ k < 32, (((s.stall 11).islandFails 11).stream k).ring = [] ∧ (((s.stall 11).islandFails 11).stream k).runs = [] := by
  rw [State.islandFails_telemetry]
  have marked := s.stall_marked 11
  have same : Same [.streams, .host] ((s.stall 11).markBad 11) ((s.stall 11).markBad 11).telemetryFails := by
    apply State.telemetryFails_but <;> decide
  have host := ((s.stall 11).markBad 11).telemetryFails_host
  rw [marked.host (by decide)] at host
  exact ⟨State.stall_then same, State.stall_regs_then same (by decide), host, fun k hk => State.telemetryFails_stream _ hk⟩

theorem stall_twoWire (s : State) : Same [.stalled, .islandBad, .regs, .ports] s ((s.stall 18).islandFails 18) ∧
    RegsBut s ((s.stall 18).islandFails 18) [diagIslandFaultCount] ∧ ∀ n < 8, (((s.stall 18).islandFails 18).port n).busy = none := by
  rw [State.islandFails_twoWire]
  have same : Same [.ports] ((s.stall 18).markBad 18) ((s.stall 18).markBad 18).twoWireFails := by apply State.twoWireFails_but; decide
  exact ⟨State.stall_then same, State.stall_regs_then same (by decide), fun n hn => State.twoWireFails_port _ hn⟩

theorem stall_drive (s : State) : Same [.stalled, .islandBad, .regs, .drives, .clusters, .events] s ((s.stall 13).islandFails 13) ∧
    ∀ d < 4, (((s.stall 13).islandFails 13).drive d).running = false := by
  rw [State.islandFails_drive]
  have same : Same [.drives, .clusters, .events, .regs] ((s.stall 13).markBad 13) ((s.stall 13).markBad 13).driveFails := by
    apply State.driveFails_but <;> decide
  have bad : 13 ∈ ((s.stall 13).markBad 13).islandBad := List.mem_insert_self ..
  exact ⟨(State.stall_then same).mono (by decide), fun d hd => State.driveFails_drive bad hd⟩

theorem stall_nv (s : State) : Same [.stalled, .islandBad, .regs, .nv, .log, .flash, .granules, .draws] s ((s.stall 12).islandFails 12) ∧
    ((s.stall 12).islandFails 12).log.staged.map (fun d => d.seq) = s.log.staged.map (fun d => d.seq) ∧
    ((s.stall 12).islandFails 12).nv.queue = [] ∧ ((s.stall 12).islandFails 12).nv.program = none ∧
    ((s.stall 12).islandFails 12).nv.erase = none := by
  rw [State.islandFails_nv]
  have same : Same [.draws, .flash, .granules, .log, .nv, .regs] ((s.stall 12).markBad 12) ((s.stall 12).markBad 12).nvFails := by
    apply State.nvFails_but <;> decide
  obtain ⟨queue, program, erase, seqs, -⟩ := ((s.stall 12).markBad 12).nvFails_ends
  rw [(s.stall_marked 12).log (by decide)] at seqs
  exact ⟨(State.stall_then same).mono (by decide), seqs, queue, program, erase⟩

theorem switchAsked_of_same {l : List Fld} {s t : State} (h : Same l s t) (ha : Fld.armed ∉ l) (hn : Fld.now ∉ l) :
    t.switchAsked ↔ s.switchAsked := by
  unfold State.switchAsked
  rw [h.armed ha, h.now hn]

theorem stall_mgmt (s : State) : (¬ s.switchAsked → ((s.stall 10).islandFails 10).armed = s.armed) ∧
    ((s.stall 10).islandFails 10).mgmtDown = true ∧ ((s.stall 10).islandFails 10).clusters = s.clusters ∧
    ((s.stall 10).islandFails 10).drives = s.drives ∧ ((s.stall 10).islandFails 10).streams = s.streams ∧
    ∀ p, (((s.stall 10).islandFails 10).part p).state = (s.part p).state ∧ (((s.stall 10).islandFails 10).part p).line = (s.part p).line := by
  rw [State.islandFails_mgmt]
  have marked := s.stall_marked 10
  obtain ⟨-, lines, armed, down⟩ := ((s.stall 10).markBad 10).mgmtReset_leaves (((s.stall 10).markBad 10).reg supLastMgmtReset)
  have same : Same (Fld.fails.filter (fun f => f != .clusters && f != .drives && f != .streams)) ((s.stall 10).markBad 10)
      (((s.stall 10).markBad 10).mgmtReset (((s.stall 10).markBad 10).reg supLastMgmtReset)) := by
    apply State.mgmtReset_but <;> decide
  generalize ((s.stall 10).markBad 10).mgmtReset (((s.stall 10).markBad 10).reg supLastMgmtReset) = t at *
  have asked := switchAsked_of_same marked (by decide) (by decide)
  refine ⟨fun h => (armed (fun h' => h (asked.mp h'))).trans (marked.armed (by decide)), down, (same.clusters (by decide)).trans
    (marked.clusters (by decide)), (same.drives (by decide)).trans (marked.drives (by decide)), (same.streams (by decide)).trans
    (marked.streams (by decide)), fun p => ?_⟩
  have kept := lines.keeps p (by simp)
  rwa [marked.get_part (by decide)] at kept

theorem stall_armed (s : State) {i : Island} (hc : ∀ n, i ≠ .cl n) (hh : i ≠ .hutch) (hm : i ≠ .mgmt) :
    ((s.stall (islandDom i)).islandFails (islandDom i)).armed = s.armed := by
  cases i with
  | cl n => exact absurd rfl (hc n)
  | hutch => exact absurd rfl hh
  | mgmt => exact absurd rfl hm
  | telemetry => exact (stall_telemetry s).1.armed (by decide)
  | nv => exact (stall_nv s).1.armed (by decide)
  | drive => exact (stall_drive s).1.armed (by decide)
  | can k => exact (stall_silent s (by fin_cases k <;> rfl)).1.armed (by decide)
  | t1s => exact (stall_silent s (d := 16) rfl).1.armed (by decide)
  | host => exact (stall_host s).1.armed (by decide)
  | twoWire => exact (stall_twoWire s).1.armed (by decide)

/-! ### What a clock fault changes -/

theorem State.islandFails_mgmtDown (s : State) {d : Nat} (h : d ≠ 10) : (s.islandFails d).mgmtDown = s.mgmtDown := by
  unfold State.islandFails
  extract_lets t
  change _ = t.mgmtDown
  clear_value t
  split
  · exact absurd rfl h
  · have same : Same [.host, .streams] t t.telemetryFails := by apply State.telemetryFails_but <;> decide
    exact same.mgmtDown (by decide)
  · have same : Same [.draws, .flash, .granules, .log, .nv, .regs] t t.nvFails := by apply State.nvFails_but <;> decide
    exact same.mgmtDown (by decide)
  · have same : Same [.drives, .clusters, .events, .regs] t t.driveFails := by apply State.driveFails_but <;> decide
    exact same.mgmtDown (by decide)
  · rfl
  · have same : Same [.ports] t t.twoWireFails := by apply State.twoWireFails_but; decide
    exact same.mgmtDown (by decide)
  · rfl

/-- What an island that fails unless it has failed already leaves. -/
theorem State.failOnce_leaves (s : State) {d : Nat} (h : d ≠ 10) : d ∈ (s.failOnce d).islandBad ∧ (s.failOnce d).stalled = s.stalled ∧
    (s.failOnce d).active = s.active ∧ (s.failOnce d).ens = s.ens ∧ (s.failOnce d).latches = s.latches ∧
    (s.failOnce d).mgmtDown = s.mgmtDown ∧ (s.failOnce d).reg diagIslandFaultCount = s.reg diagIslandFaultCount := by
  unfold State.failOnce
  split
  · exact ⟨by simpa using ‹s.islandBad.contains d = true›, rfl, rfl, rfl, rfl, rfl, rfl⟩
  · have failed := s.islandFails_same d
    refine ⟨?_, failed.stalled (by decide), failed.active (by decide), failed.ens (by decide), failed.latches (by decide),
      s.islandFails_mgmtDown h, s.islandFails_count d⟩
    rw [failed.islandBad (by decide)]
    exact List.mem_insert_self ..

/-- The island number of an island that is no cluster, not the Hutch and not the management plane is neither of theirs. -/
theorem islandDom_ne {i : Island} (hc : ∀ n, i ≠ .cl n) (hh : i ≠ .hutch) (hm : i ≠ .mgmt) : islandDom i ≠ 9 ∧ islandDom i ≠ 10 := by
  cases i with
  | cl n => exact absurd rfl (hc n)
  | hutch => exact absurd rfl hh
  | mgmt => exact absurd rfl hm
  | can k => exact ⟨by simp only [islandDom]; omega, by simp only [islandDom]; omega⟩
  | _ => exact ⟨by decide, by decide⟩

/-- Settles O6: the marks and the count stand before an island's own failure, and each failure keeps the parts that Table 1-4 does not name. -/
theorem islandFailureIsContained : Obligations.IslandFailureIsContained := by
  unfold Obligations.IslandFailureIsContained
  refine ⟨fun i s hc hh hs hb => ?_, fun n s hs hl => ?_, fun s hs => ?_, fun i s hs => exec_handshakeStall_stalled hs,
    fun i s hc hh hm hb => ?_, fun s hx => ?_⟩
  · refine ⟨_, exec_handshakeStall hc hh hs hb, ?_⟩
    obtain ⟨stalled, bad, others, active, ens, latches, safe⟩ := s.stall_fails (islandDom i)
    have count : ((s.stall (islandDom i)).islandFails (islandDom i)).reg diagIslandFaultCount = sat16 (s.reg diagIslandFaultCount) :=
      (State.islandFails_count _ _).trans (s.stall_count _)
    refine ⟨stalled, bad, others, active, ens, latches, safe, ?_, count, ?_, ?_, ?_, ?_, ?_, ?_, ?_⟩
    · intro h
      by_cases hm : i = .mgmt
      · subst i
        exact (stall_mgmt s).1 (h.resolve_left (fun no => no rfl))
      · exact stall_armed s hc hh hm
    · rintro (⟨k, rfl⟩ | rfl)
      · exact stall_silent s (by fin_cases k <;> rfl)
      · exact stall_silent s (d := 16) rfl
    · rintro rfl
      exact stall_host s
    · rintro rfl
      exact stall_telemetry s
    · rintro rfl
      exact stall_twoWire s
    · rintro rfl
      exact stall_drive s
    · rintro rfl
      exact stall_nv s
    · rintro rfl
      exact (stall_mgmt s).2
  · refine ⟨_, exec_handshakeStall_cl hs hl, ?_⟩
    have marked : Same [.stalled] s { s with stalled := s.stalled.insert (islandDom (.cl n)) } := State.but_stalled _ _ _ (by decide)
    have mark : islandDom (.cl n) ∈ ({ s with stalled := s.stalled.insert (islandDom (.cl n)) } : State).stalled := List.mem_insert_self ..
    generalize { s with stalled := s.stalled.insert (islandDom (.cl n)) } = u at marked mark
    have lost : Same (.clusters :: Fld.cut) u (u.clockLoss n) := by apply State.clockLoss_but <;> decide
    refine ⟨by rwa [lost.stalled (by decide)], ?_, by rw [lost.active (by decide), marked.active (by decide)], fun m hm other => ?_⟩
    · rw [ClusterX.eq_of_unnoted (u.clockLoss_cluster n)]
      rfl
    · rw [← marked.get_cluster (by decide)]
      exact (u.clockLoss_others n).cluster (by simpa using other)
  · exact ⟨_, exec_handshakeStall_hutch hs, s.stall_same _, s.stall_regs _, s.stall_count _, List.mem_insert_self ..⟩
  · refine ⟨_, exec_islandClockFault hc hh hb, ?_⟩
    obtain ⟨notHutch, notMgmt⟩ := islandDom_ne hc hh hm
    generalize islandDom i = d at notHutch notMgmt
    have counted : ((s.clockFault d).bump16 diagIslandFaultCount).reg diagIslandFaultCount = sat16 (s.reg diagIslandFaultCount) :=
      State.setReg_reg_same ..
    have marked : ((s.clockFault d).bump16 diagIslandFaultCount).stalled = s.stalled.insert d := rfl
    have faulted : Same [.stalled, .supply, .regs] s ((s.clockFault d).bump16 diagIslandFaultCount) :=
      Same.trans (t := s.clockFault d) (by simp [Same, State.clockFault, State.but]) (State.setReg_but _ _ _ _ (by decide))
    generalize (s.clockFault d).bump16 diagIslandFaultCount = u at counted marked faulted
    obtain ⟨bad, stalled, active, ens, latches, down, count⟩ := u.failOnce_leaves notMgmt
    generalize u.failOnce d = v at bad stalled active ens latches down count
    have told := v.raise_same 9 0x16 255 false [BitVec.ofNat 8 d]
    rw [told.stalled (by decide), told.islandBad (by decide), told.active (by decide), told.ens (by decide), told.latches (by decide),
      State.raise_reg_ne _ _ _ _ _ _ _ (by simp), stalled, marked, active, ens, latches, count, counted]
    refine ⟨List.mem_insert_self .., bad, faulted.active (by decide), faulted.ens (by decide), faulted.latches (by decide), rfl, fun enters => ?_⟩
    obtain ⟨up, joined⟩ := enters
    refine v.raise_recorded _ _ _ _ _ ⟨by rw [down, faulted.mgmtDown (by decide), up], .inr ?_⟩
    rw [stalled, marked, mem_insert_other (Ne.symm notHutch)]
    exact joined.resolve_left (by decide)
  · refine ⟨_, exec_islandClockFault_hutch hx, ?_⟩
    have degraded : Same [.supply] s { s with supply := { s.supply with xtalOk := false, rtcDegraded := true } } := by
      simp [Same, State.but]
    have supply : ({ s with supply := { s.supply with xtalOk := false, rtcDegraded := true } } : State).supply =
        { s.supply with xtalOk := false, rtcDegraded := true } := rfl
    generalize { s with supply := { s.supply with xtalOk := false, rtcDegraded := true } } = u at degraded supply
    have counted : Same [.regs] u (u.bump16 diagIslandFaultCount) := State.setReg_but _ _ _ _ (by decide)
    have told := (u.bump16 diagIslandFaultCount).raise_same 9 0x16 255 false [9]
    refine ⟨((degraded.mono (by decide)).trans (counted.mono (by decide))).trans (told.mono (by decide)), ?_,
      by rw [told.supply (by decide), counted.supply (by decide), supply], ?_, fun enters => ?_⟩
    · refine RegsBut.raise (.bump16 (fun k _ => degraded.get_reg (by decide) k) (by simp)) (by simp)
    · rw [State.raise_reg_ne _ _ _ _ _ _ _ (by simp), ← degraded.get_reg (by decide)]
      exact State.setReg_reg_same ..
    · refine State.raise_recorded _ _ _ _ _ _ ⟨?_, ?_⟩
      · rw [counted.mgmtDown (by decide), degraded.mgmtDown (by decide), enters.1]
      · rw [counted.stalled (by decide), degraded.stalled (by decide)]
        exact enters.2

end Sys2Proof.Machine

namespace Sys2Proof.Machine

/-! ### What a shut-off leaves of the other partitions (R113, R118) -/

/-- What the partitions but those of a list keep while partitions of the list are shut off: state, line, latch entries and the registers of their
shut-off. The registers of the fault fabric but the count of driven fault lines stay, and SAFE_N stays low. -/
structure CutBut (l : List Nat) (s t : State) : Prop where
  lines : ∀ p, p ∉ l → (t.part p).state = (s.part p).state ∧ (t.part p).line = (s.part p).line
  latches : ∀ p < 16, p ∉ l → ∀ n, t.latch n p = s.latch n p
  shuts : ∀ p < 16, p ∉ l → ∀ x, t.reg (rk 0x2710 p x) = s.reg (rk 0x2710 p x)
  fabric : ∀ x, x % 256 ≠ 11 → t.reg (rk 0x2700 0 x) = s.reg (rk 0x2700 0 x)
  safe : s.safeN = false → t.safeN = false

theorem CutBut.refl (l : List Nat) (s : State) : CutBut l s s :=
  ⟨fun _ _ => ⟨rfl, rfl⟩, fun _ _ _ _ => rfl, fun _ _ _ _ => rfl, fun _ _ => rfl, id⟩

theorem CutBut.trans {l : List Nat} {s t u : State} (h : CutBut l s t) (h' : CutBut l t u) : CutBut l s u :=
  ⟨fun p hp => ⟨(h'.lines p hp).1.trans (h.lines p hp).1, (h'.lines p hp).2.trans (h.lines p hp).2⟩,
    fun p hp hl n => (h'.latches p hp hl n).trans (h.latches p hp hl n), fun p hp hl x => (h'.shuts p hp hl x).trans (h.shuts p hp hl x),
    fun x hx => (h'.fabric x hx).trans (h.fabric x hx), fun hs => h'.safe (h.safe hs)⟩

theorem CutBut.mono {l m : List Nat} {s t : State} (h : CutBut l s t) (hs : ∀ p ∈ l, p ∈ m) : CutBut m s t :=
  ⟨fun p hp => h.lines p (fun hl => hp (hs p hl)), fun p hp hm => h.latches p hp (fun hl => hm (hs p hl)),
    fun p hp hm => h.shuts p hp (fun hl => hm (hs p hl)), h.fabric, h.safe⟩

theorem CutBut.ite {l : List Nat} {c : Prop} [Decidable c] {s t u : State} (ht : CutBut l s t) (hu : CutBut l s u) :
    CutBut l s (if c then t else u) := by
  split
  · exact ht
  · exact hu

theorem CutBut.each {l : List Nat} {f : State → Nat → State} {xs : List Nat} (h : ∀ u, ∀ x ∈ xs, CutBut l u (f u x)) (s : State) :
    CutBut l s (s.each xs f) := by
  induction xs generalizing s with
  | nil => exact .refl l s
  | cons x xs ih => exact (h s x (List.mem_cons_self ..)).trans (ih (fun u y hy => h u y (List.mem_cons_of_mem _ hy)) _)

/-- An operation that keeps the lines, and writes no register of a shut-off or of the fabric. -/
theorem CutBut.of_parts {l : List Nat} {f : List Fld} {b : List Nat} {s t : State} (hl : LinesBut l s t) (h : Same f s t)
    (hf : ∀ x ∈ [Fld.latches, .safeN], x ∉ f) (ho : ObjectsBut b s t) (hb : ∀ o ∈ [0x2710, 0x2700], o ∉ b) : CutBut l s t :=
  ⟨hl.keeps, fun p _ _ n => h.get_latch (hf _ (by decide)) n p, fun p _ _ x => ho.at (hb _ (by decide)) p x,
    fun x _ => ho.at (hb _ (by decide)) 0 x, fun hs => (h.safeN (hf _ (by decide))).trans hs⟩

/-- An operation on neither partitions nor latch entries nor SAFE_N that writes no register of a shut-off or of the fabric. -/
theorem CutBut.of_objects {f : List Fld} {b : List Nat} {s t : State} (h : Same f s t) (hf : ∀ x ∈ [Fld.parts, .latches, .safeN], x ∉ f)
    (ho : ObjectsBut b s t) (hb : ∀ o ∈ [0x2710, 0x2700], o ∉ b) : CutBut [] s t :=
  .of_parts (.of_same h (hf _ (by decide)) _) h (fun x hx => hf x (List.mem_cons_of_mem _ hx)) ho hb

/-- An operation that writes no register. -/
theorem CutBut.of_same {f : List Fld} {s t : State} (h : Same f s t) (hf : ∀ x ∈ [Fld.parts, .latches, .safeN, .regs], x ∉ f) :
    CutBut [] s t :=
  .of_objects h (fun x hx => hf x (by simp at hx ⊢; tauto)) (.of_same h (hf _ (by decide)) []) (by simp)

theorem State.setPart_cutBut (s : State) {p : Nat} {x : PartX} (hs : x.state = (s.part p).state) (hl : x.line = (s.part p).line) :
    CutBut [] s (s.setPart p x) :=
  .of_parts (s.setPart_lines hs hl) (State.setPart_but s p x [.parts] (by decide)) (by decide) (s.setPart_objects p x []) (by simp)

theorem State.raise_cutBut (s : State) (d c p : Nat) (cl : Bool) (x : Bytes) : CutBut [] s (s.raise d c p cl x) :=
  .of_objects (s.raise_same ..) (by decide) (s.raise_objects (l := [0x1010]) (by simp) ..) (by decide)

theorem State.setReg_cutBut (s : State) {b : Nat} (hb : b ≠ 0x2710) (hb' : b ≠ 0x2700) (u x v : Nat) : CutBut [] s (s.setReg (rk b u x) v) :=
  .of_objects (f := [.regs]) (State.setReg_but _ _ _ _ (by decide)) (by decide) (s.setReg_objects (l := [b]) (by simp) u x v)
    (by simp [hb.symm, hb'.symm])

/-! ### The steps of a shut-off -/

theorem State.openEvent_cutBut (s : State) (p cause : Nat) : CutBut [] s (s.openEvent p cause) := by
  unfold State.openEvent
  extract_lets x
  refine .ite ?_ (.refl _ s)
  exact s.setPart_cutBut rfl rfl

theorem State.marginEnd_cutBut (s : State) (c reason : Nat) : CutBut [] s (s.marginEnd c reason) :=
  .of_objects (f := [.caps, .chans, .entries, .regs, .trims]) (by apply State.marginEnd_but <;> decide) (by decide)
    (s.marginEnd_objects c reason) (by decide)

theorem State.sweepEnd_cutBut (s : State) (p reason : Nat) : CutBut [] s (s.sweepEnd p reason) :=
  .of_parts (f := [.caps, .chans, .entries, .events, .parts, .regs, .trims, .waitMaint]) (s.sweepEnd_lines p reason)
    (by apply State.sweepEnd_but <;> decide) (by decide) (s.sweepEnd_objects p reason) (by decide)

theorem State.benchAbort_cutBut (s : State) (p reason : Nat) : CutBut [] s (s.benchAbort p reason) :=
  (s.sweepEnd_cutBut p reason).trans (.each (fun u c _ => u.marginEnd_cutBut c reason) _)

theorem State.setLatch_get (s : State) (n p m q : Nat) (x : Latch) :
    (s.setLatch n p x).latch m q = if 16 * m + q = 16 * n + p then x else s.latch m q := tabGet_set _ _ _ _ _

theorem State.setLatch_cutBut (s : State) (n : Nat) {p : Nat} (hp : p < 16) (x : Latch) : CutBut [p] s (s.setLatch n p x) := by
  refine ⟨fun _ _ => ⟨rfl, rfl⟩, fun q hq hl m => ?_, fun _ _ _ _ => rfl, fun _ _ => rfl, id⟩
  rw [State.setLatch_get, if_neg]
  have other : q ≠ p := by simpa using hl
  omega

theorem State.latchEntry_cutBut (s : State) (n : Nat) {p : Nat} (hp : p < 16) (cause tick upper lower line : Nat) :
    CutBut [p] s (s.latchEntry n p cause tick upper lower line) := s.setLatch_cutBut n hp _

theorem State.latchCause_cutBut (s : State) {p : Nat} (hp : p < 16) (cause : Nat) (cl : Option Nat) (tick upper lower line : Nat) :
    CutBut [p] s (s.latchCause p cause cl tick upper lower line) := by
  unfold State.latchCause
  split
  · exact s.latchEntry_cutBut _ hp ..
  · exact .each (fun u n _ => u.latchEntry_cutBut n hp ..) s

theorem State.warnClear_objects (s : State) (c : Nat) (quiet : Bool) : ObjectsBut [0x1010] s (s.warnClear c quiet) := by
  unfold State.warnClear
  extract_lets x t u
  have cleared : ObjectsBut [0x1010] s t := s.setChan_objects ..
  have upper : ObjectsBut [0x1010] t u := .ite (t.raise_objects (by decide) ..) (.refl _ t)
  exact (cleared.trans upper).trans (.ite (u.raise_objects (by decide) ..) (.refl _ u))

theorem State.warnEnd_objects (s : State) (c : Nat) (quiet : Bool) : ObjectsBut [0x1010] s (s.warnEnd c quiet) :=
  .ite (.refl _ s) (.each (fun u d => u.warnClear_objects d quiet) _ s)

theorem State.warnEnd_cutBut (s : State) (c : Nat) (quiet : Bool) : CutBut [] s (s.warnEnd c quiet) :=
  .of_objects (f := [.chans, .events, .regs]) (by apply State.warnEnd_but <;> decide) (by decide) (s.warnEnd_objects c quiet) (by decide)

theorem State.toState_cutBut (s : State) (c : Nat) (st : ChanState) (at_ : Nat) : CutBut [] s (s.toState c st at_) :=
  .of_objects (f := [.caps, .chans, .entries, .regs, .trims]) (by apply State.toState_but <;> decide) (by decide)
    (s.toState_objects c st at_) (by decide)

theorem State.setChan_cutBut (s : State) (c : Nat) (x : ChanX) : CutBut [] s (s.setChan c x) :=
  .of_same (f := [.chans]) (State.setChan_but _ _ _ _ (by decide)) (by decide)

theorem State.cutChannels_cutBut (s : State) (p : Nat) (quiet : Bool) : CutBut [] s (s.cutChannels p quiet) := by
  unfold State.cutChannels
  extract_lets u mine joined v w
  have noted : CutBut [] s u := .of_same (f := [.clusters]) (by apply State.noteLost_but; decide) (by decide)
  have ended : CutBut [] u v := .each (fun t c _ => t.warnEnd_cutBut c quiet) u
  have marked : CutBut [] v w := .each (fun t c _ => .of_same (f := [.chans]) (by apply State.markCut_but; decide) (by decide)) v
  refine ((noted.trans ended).trans marked).trans (.each (fun t c _ => ?_) w)
  exact (t.setChan_cutBut ..).trans (State.toState_cutBut ..)

theorem State.cutEnables_cutBut (s : State) (p : Nat) : CutBut [] s (s.cutEnables p) := by
  unfold State.cutEnables
  extract_lets time es t
  have latched : CutBut [] s t := .each (fun u e _ => .of_same (f := [.caps, .ens]) (by apply State.latchEn_but <;> decide) (by decide)) s
  clear_value t
  refine .ite latched (latched.trans ?_)
  exact t.setPart_cutBut rfl rfl

theorem State.driveSync_objects (s : State) (d : Nat) : ObjectsBut [0x1010] s (s.driveSync d) :=
  ⟨fun k hk => s.driveSync_regs d k (by rintro h; simp only [List.mem_singleton] at h; subst h; exact hk (by simp [rk_object]))⟩

theorem State.driveSync_cutBut (s : State) (d : Nat) : CutBut [] s (s.driveSync d) :=
  .of_objects (f := [.drives, .events, .regs]) (by apply State.driveSync_but <;> decide) (by decide) (s.driveSync_objects d) (by decide)

theorem State.driveHalt_cutBut (s : State) (d : Nat) : CutBut [] s (s.driveHalt d) :=
  (s.setReg_cutBut (by decide) (by decide) ..).trans (State.driveSync_cutBut ..)

theorem State.cutSequence_cutBut (s : State) (p : Nat) : CutBut [] s (s.cutSequence p) := by
  unfold State.cutSequence
  extract_lets t x u
  have withdrawn : CutBut [] s t := .of_same (f := [.actions]) (by apply State.withdraw_but; decide) (by decide)
  have left : CutBut [] t u := t.setPart_cutBut rfl rfl
  have zeroed : CutBut [] u (u.groupZero (u.groupOf p)) :=
    (u.setReg_cutBut (by decide) (by decide) ..).trans (.of_same (f := [.groups]) (State.setGroup_but _ _ _ _ (by decide)) (by decide))
  exact .ite ((withdrawn.trans left).trans zeroed) (withdrawn.trans left)

theorem State.driveFlt_cutBut (s : State) (n : Nat) : CutBut [] s (s.driveFlt n) := by
  unfold State.driveFlt
  extract_lets g t
  have counted : CutBut [] s t := by
    refine .ite (.refl _ s) ⟨fun _ _ => ⟨rfl, rfl⟩, fun _ _ _ _ => rfl, fun _ _ _ _ => ?_, fun x hx => ?_, id⟩
    · exact State.setReg_reg_ne _ _ _ _ (by simp)
    · exact State.setReg_reg_ne _ _ _ _ (by simp; omega)
  exact counted.trans (.of_same (f := [.groups]) (State.setGroup_but _ _ _ _ (by decide)) (by decide))

theorem State.bareMerge_cutBut (s : State) (p : Nat) : CutBut [] s (s.bareMerge p) := by
  unfold State.bareMerge
  extract_lets x
  refine .ite ?_ (.refl _ s)
  exact s.setPart_cutBut rfl rfl

theorem State.publishEntry_cutBut (s : State) (p cause dom : Nat) : CutBut [] s (s.publishEntry p cause dom) := by
  unfold State.publishEntry
  extract_lets src t
  have frozen : CutBut [] s t := s.setPart_cutBut rfl rfl
  exact frozen.trans (t.raise_cutBut ..)

end Sys2Proof.Machine

namespace Sys2Proof.Machine

/-! ### The state of a partition that is shut off (R113, R125, R127) -/

theorem State.partSince_objects (s : State) (p : Nat) (x : PartX) (at_ : Nat) : ObjectsBut [0x3020, 0x1010] s (s.partSince p x at_) := by
  unfold State.partSince
  extract_lets t
  have stamped : ObjectsBut [0x3020, 0x1010] s t := .ite (.refl _ s) (s.setReg_objects (by decide) ..)
  exact stamped.trans (t.setPart_objects ..)

theorem State.partSince_part (s : State) (p q : Nat) (x : PartX) (at_ : Nat) :
    (s.partSince p x at_).part q = if q = p then x else s.part q := by
  unfold State.partSince
  extract_lets t
  have kept : t.part q = s.part q := by
    simp only [t]
    split
    · rfl
    · exact State.setReg_get_part ..
  rw [State.setPart_get, kept]

theorem State.toPart_objects (s : State) (p : Nat) (st : PartState) (at_ : Nat) : ObjectsBut [0x3020, 0x1010] s (s.toPart p st at_) := by
  unfold State.toPart
  extract_lets x ends t u
  have since : ObjectsBut [0x3020, 0x1010] s t := s.partSince_objects ..
  have synced : ObjectsBut [0x3020, 0x1010] t u := .each (fun v d => (v.driveSync_objects d).mono (by simp)) _ t
  exact .ite (since.trans synced) ((since.trans synced).trans (((u.setReg_objects (by decide) ..).trans
    (State.setReg_objects _ (by decide) ..)).trans (State.setReg_objects _ (by decide) ..)))

/-- A partition takes a state and keeps its line; the others keep both. -/
theorem State.toPart_part (s : State) (p q : Nat) (st : PartState) (at_ : Nat) :
    ((s.toPart p st at_).part q).state = (if q = p then st else (s.part q).state) ∧ ((s.toPart p st at_).part q).line = (s.part q).line := by
  unfold State.toPart
  extract_lets x ends t u
  have since : (t.part q).state = (if q = p then st else (s.part q).state) ∧ (t.part q).line = (s.part q).line := by
    simp only [t]
    rw [State.partSince_part]
    by_cases hq : q = p
    · subst q
      rw [if_pos rfl, if_pos rfl]
      exact ⟨rfl, rfl⟩
    · rw [if_neg hq, if_neg hq]
      exact ⟨rfl, rfl⟩
  have synced : u.part q = t.part q := State.each_keeps (fun s => s.part q) _ _ (fun v d _ => by
    have same : Same [.drives, .events, .regs] v (v.driveSync d) := by apply State.driveSync_but <;> decide
    exact same.get_part (by decide) q) t
  split
  · rwa [synced]
  · rwa [State.setReg_get_part, State.setReg_get_part, State.setReg_get_part, synced]

theorem State.toPart_cutBut (s : State) (p : Nat) (st : PartState) (at_ : Nat) : CutBut [p] s (s.toPart p st at_) := by
  refine .of_parts (f := [.drives, .events, .parts, .regs]) ⟨fun q hq => ?_⟩ (by apply State.toPart_but <;> decide) (by decide)
    (s.toPart_objects p st at_) (by decide)
  have other : q ≠ p := by simpa using hq
  obtain ⟨state, line⟩ := s.toPart_part p q st at_
  exact ⟨by rw [state, if_neg other], line⟩

theorem State.setReg_shuts_cutBut (s : State) {p : Nat} (hp : p < 16) (x v : Nat) : CutBut [p] s (s.setReg (rk 0x2710 p x) v) := by
  refine ⟨fun q _ => ?_, fun q _ _ n => ?_, fun q hq hl y => State.setReg_reg_ne _ _ _ _ ?_, fun y _ => State.setReg_reg_ne _ _ _ _ (by simp), id⟩
  · rw [State.setReg_get_part]
    exact ⟨rfl, rfl⟩
  · exact State.setReg_get_latch ..
  · have other : q ≠ p := by simpa using hl
    rw [ne_eq, rk_inj]
    omega

/-- The update of a partition that leaves the other ones. -/
theorem State.setPart_cutBut_self (s : State) (p : Nat) (x : PartX) : CutBut [p] s (s.setPart p x) := by
  refine .of_parts (f := [.parts]) ⟨fun q hq => ?_⟩ (State.setPart_but s p x [.parts] (by decide)) (by decide) (s.setPart_objects p x []) (by simp)
  rw [State.setPart_get, if_neg (by simpa using hq)]
  exact ⟨rfl, rfl⟩

theorem State.retryRule_cutBut (s : State) {p : Nat} (hp : p < 16) (cause first up : Nat) : CutBut [p] s (s.retryRule p cause first up) := by
  unfold State.retryRule
  extract_lets x used0 used count out due t u v
  have counted : CutBut [p] s t := s.setReg_shuts_cutBut hp ..
  have noted : CutBut [p] t u := t.setPart_cutBut_self ..
  have planned : CutBut [p] u v := u.setReg_shuts_cutBut hp ..
  exact ((counted.trans noted).trans planned).trans (v.toPart_cutBut ..)

/-- The retry rule ends in FAULTED or LOCKED_OUT; the line is kept, and of the registers of the shut-off all but those of the retries. -/
theorem State.retryRule_faulted (s : State) (p cause first up : Nat) : ((s.retryRule p cause first up).part p).state.isFaulted = true ∧
    ((s.retryRule p cause first up).part p).line = (s.part p).line ∧
    ∀ x, x % 256 ≠ 4 → x % 256 ≠ 5 → (s.retryRule p cause first up).reg (rk 0x2710 p x) = s.reg (rk 0x2710 p x) := by
  unfold State.retryRule
  extract_lets x used0 used count out due t u v
  obtain ⟨state, line⟩ := v.toPart_part p p (if out = true then PartState.lockedOut else .faulted) (v.now + 1)
  refine ⟨?_, line.trans ?_, fun y h4 h5 => ?_⟩
  · rw [state, if_pos rfl]
    split <;> rfl
  · have planned : v.part p = u.part p := State.setReg_get_part ..
    rw [planned]
    change ((t.setPart p _).part p).line = _
    rw [State.setPart_get, if_pos rfl]
  · rw [(v.toPart_objects ..).at (by decide)]
    change (u.setReg (shutsNextRetryTick p) _).reg _ = _
    rw [State.setReg_reg_ne _ _ _ _ (by simp; omega), State.setPart_get_reg]
    exact State.setReg_reg_ne _ _ _ _ (by simp; omega)

/-! ### A shut-off in its phases (R113) -/

/-- The units of a partition are cut: its captures, channels, enables, trims, drives and ports, and its place in the sequence. -/
def State.cutUnits (s : State) (p cause : Nat) : State :=
  let s := s.capturesEnd p
  let s := s.cutChannels p (cause == 1)
  let s := s.cutEnables p
  let s := s.trimsZero p
  let s := s.each (s.drivesOf p) (fun s d => s.driveHalt d)
  let s := s.psShutoff p
  s.cutSequence p

/-- The line of a partition is set, its state and its registers of the shut-off follow. -/
def State.cutLine (s : State) (p cause tick up : Nat) (spans : Bool) : State :=
  let s := s.setPart p { s.part p with line := true, cutTick := some s.now }
  let s := s.retryRule p cause tick up
  let s := if spans then s.driveFlt (s.groupOf p) else s
  ((s.bump16 (shutsShutoffCount p)).setReg (shutsLastShutoffTick p) (s.earliest p tick)).setReg (shutsLastCause p) cause

/-- SAFE_N falls, and the shut-off is told. -/
def State.cutTold (s : State) (p cause : Nat) (cl : Option Nat) : State :=
  ({ s with safeN := false }.bareMerge p).publishEntry p cause (match cl with
    | some n => n + 1
    | none => 9)

theorem State.shutOff_eq (s : State) (p cause : Nat) (cl : Option Nat) (tick upper lower line : Nat) :
    s.shutOff p cause cl tick upper lower line =
      (((((s.openEvent p cause).benchAbort p 2).latchCause p cause cl tick upper lower line).cutUnits p cause).cutLine p cause tick
        (if (s.part p).state.isUp then s.now - (s.part p).upSince.getD s.now else (s.part p).upLast)
        (s.spanning p && cause != 3)).cutTold p cause cl := rfl

theorem State.cutUnits_cutBut (s : State) (p cause : Nat) : CutBut [] s (s.cutUnits p cause) := by
  unfold State.cutUnits
  extract_lets a b c d e f
  have ended : CutBut [] s a := .of_same (f := [.caps]) (by apply State.capturesEnd_but; decide) (by decide)
  have channels : CutBut [] a b := a.cutChannels_cutBut ..
  have enables : CutBut [] b c := b.cutEnables_cutBut ..
  have trims : CutBut [] c d := .of_same (f := [.trims]) (by apply State.trimsZero_but; decide) (by decide)
  have drives : CutBut [] d e := .each (fun u x _ => u.driveHalt_cutBut x) d
  have ports : CutBut [] e f := .of_same (f := [.ports]) (by apply State.psShutoff_but; decide) (by decide)
  exact (((((ended.trans channels).trans enables).trans trims).trans drives).trans ports).trans (f.cutSequence_cutBut ..)

theorem State.cutLine_cutBut (s : State) {p : Nat} (hp : p < 16) (cause tick up : Nat) (spans : Bool) :
    CutBut [p] s (s.cutLine p cause tick up spans) := by
  unfold State.cutLine
  extract_lets src a b c
  have set : CutBut [p] s a := s.setPart_cutBut_self ..
  have ruled : CutBut [p] a b := a.retryRule_cutBut hp ..
  have driven : CutBut [p] b c := .ite ((b.driveFlt_cutBut _).mono (by simp)) (.refl _ b)
  exact (((set.trans ruled).trans driven).trans (c.setReg_shuts_cutBut hp ..)).trans
    ((State.setReg_shuts_cutBut _ hp ..).trans (State.setReg_shuts_cutBut _ hp ..))

theorem State.cutTold_cutBut (s : State) (p cause : Nat) (cl : Option Nat) : CutBut [] s (s.cutTold p cause cl) := by
  have lowered : CutBut [] s { s with safeN := false } :=
    ⟨fun _ _ => ⟨rfl, rfl⟩, fun _ _ _ _ => rfl, fun _ _ _ _ => rfl, fun _ _ => rfl, fun _ => rfl⟩
  exact (lowered.trans (State.bareMerge_cutBut ..)).trans (State.publishEntry_cutBut ..)

theorem State.cutTold_safeN (s : State) (p cause : Nat) (cl : Option Nat) : (s.cutTold p cause cl).safeN = false :=
  ((State.bareMerge_cutBut { s with safeN := false } p).trans (State.publishEntry_cutBut ..)).safe rfl

theorem State.shutOff_cutBut (s : State) {p : Nat} (hp : p < 16) (cause : Nat) (cl : Option Nat) (tick upper lower line : Nat) :
    CutBut [p] s (s.shutOff p cause cl tick upper lower line) := by
  rw [State.shutOff_eq]
  have opened : CutBut [p] s ((s.openEvent p cause).benchAbort p 2) :=
    ((s.openEvent_cutBut p cause).trans (State.benchAbort_cutBut ..)).mono (by simp)
  exact (((opened.trans (State.latchCause_cutBut _ hp ..)).trans ((State.cutUnits_cutBut ..).mono (by simp))).trans
    (State.cutLine_cutBut _ hp ..)).trans ((State.cutTold_cutBut ..).mono (by simp))

/-- What a shut-off makes of the line, the state and the registers of its partition. -/
theorem State.cutLine_part (s : State) {p : Nat} (hp : p < 16) (cause tick up : Nat) (spans : Bool) :
    ((s.cutLine p cause tick up spans).part p).line = true ∧ ((s.cutLine p cause tick up spans).part p).state.isFaulted = true ∧
      (s.cutLine p cause tick up spans).reg (shutsLastCause p) = cause ∧
      (s.cutLine p cause tick up spans).reg (shutsShutoffCount p) = sat16 (s.reg (shutsShutoffCount p)) := by
  unfold State.cutLine
  extract_lets src a b c
  obtain ⟨faulted, line, regs⟩ := a.retryRule_faulted p cause tick up
  have driven : CutBut [] b c := .ite (b.driveFlt_cutBut _) (.refl _ b)
  obtain ⟨stateKept, lineKept⟩ := driven.lines p (by simp)
  have set : (a.part p).line = true := by
    change ((s.setPart p _).part p).line = true
    rw [State.setPart_get, if_pos rfl]
  have count : c.reg (shutsShutoffCount p) = s.reg (shutsShutoffCount p) :=
    ((driven.shuts p hp (by simp) _).trans (regs _ (by decide) (by decide))).trans (State.setPart_get_reg ..)
  have after : ∀ v w, (((c.bump16 (shutsShutoffCount p)).setReg (shutsLastShutoffTick p) v).setReg (shutsLastCause p) w).part p = c.part p :=
    fun v w => by
      rw [State.setReg_get_part, State.setReg_get_part]
      exact State.setReg_get_part ..
  rw [after, lineKept, stateKept]
  refine ⟨line.trans set, faulted, State.setReg_reg_same .., ?_⟩
  rw [State.setReg_reg_ne _ _ _ _ (by simp), State.setReg_reg_ne _ _ _ _ (by simp)]
  exact (State.setReg_reg_same ..).trans (congrArg sat16 count)

/-- What a shut-off makes of its partition: the line is set, the state is FAULTED or LOCKED_OUT, and its registers tell the cause and the count. -/
theorem State.shutOff_part (s : State) {p : Nat} (hp : p < 16) (cause : Nat) (cl : Option Nat) (tick upper lower line : Nat) :
    ((s.shutOff p cause cl tick upper lower line).part p).line = true ∧
      ((s.shutOff p cause cl tick upper lower line).part p).state.isFaulted = true ∧
      (s.shutOff p cause cl tick upper lower line).reg (shutsLastCause p) = cause ∧
      (s.shutOff p cause cl tick upper lower line).reg (shutsShutoffCount p) = sat16 (s.reg (shutsShutoffCount p)) ∧
      (s.shutOff p cause cl tick upper lower line).safeN = false := by
  rw [State.shutOff_eq]
  have opened : CutBut [] s ((s.openEvent p cause).benchAbort p 2) := (s.openEvent_cutBut p cause).trans (State.benchAbort_cutBut ..)
  generalize (s.openEvent p cause).benchAbort p 2 = a at opened
  have latched : (a.latchCause p cause cl tick upper lower line).regs = a.regs := by
    have same : Same [.latches] a (a.latchCause p cause cl tick upper lower line) := by apply State.latchCause_but; decide
    exact same.regs (by decide)
  have units := (a.latchCause p cause cl tick upper lower line).cutUnits_cutBut p cause
  have count : ((a.latchCause p cause cl tick upper lower line).cutUnits p cause).reg (shutsShutoffCount p) = s.reg (shutsShutoffCount p) := by
    rw [units.shuts p hp (by simp), ← opened.shuts p hp (by simp)]
    unfold State.reg
    rw [latched]
  generalize (a.latchCause p cause cl tick upper lower line).cutUnits p cause = b at count
  obtain ⟨set, faulted, told, counted⟩ := b.cutLine_part hp cause tick
    (if (s.part p).state.isUp then s.now - (s.part p).upSince.getD s.now else (s.part p).upLast) (s.spanning p && cause != 3)
  generalize b.cutLine p cause tick
    (if (s.part p).state.isUp then s.now - (s.part p).upSince.getD s.now else (s.part p).upLast) (s.spanning p && cause != 3) = c
    at set faulted told counted
  have last := c.cutTold_cutBut p cause cl
  obtain ⟨stateKept, lineKept⟩ := last.lines p (by simp)
  rw [stateKept, lineKept, last.shuts p hp (by simp), last.shuts p hp (by simp)]
  exact ⟨set, faulted, told, counted.trans (congrArg sat16 count), c.cutTold_safeN p cause cl⟩

/-! ### LAST_SHUTOFF_TICK (Table 4-12) -/

theorem State.latchEntry_self (s : State) (n p cause tick upper lower line : Nat) :
    ((s.latchEntry n p cause tick upper lower line).latch n p).isSet = true ∧
      ((s.latchEntry n p cause tick upper lower line).latch n p).firstTick = tick := by
  unfold State.latchEntry
  rw [State.setLatch_get, if_pos rfl]
  unfold State.withResult
  split <;> exact ⟨rfl, rfl⟩

theorem State.latchEntry_other (s : State) {n m : Nat} (h : m ≠ n) (p cause tick upper lower line : Nat) :
    (s.latchEntry n p cause tick upper lower line).latch m p = s.latch m p := by
  unfold State.latchEntry
  rw [State.setLatch_get, if_neg (by omega)]

/-- With one set entry the earliest first tick is that entry's. -/
theorem State.earliest_of_one {s : State} {n p : Nat} (hn : n < 8) (hs : (s.latch n p).isSet = true)
    (ho : ∀ m < 8, m ≠ n → (s.latch m p).isSet = false) (tick : Nat) : s.earliest p tick = (s.latch n p).firstTick := by
  have only : clustersAll.filter (fun m => (s.latch m p).isSet) = [n] := by
    have alone : clustersAll.filter (fun m => m == n) = [n] := by
      interval_cases n <;> rfl
    rw [← alone]
    refine List.filter_congr (fun m hm => ?_)
    by_cases e : m = n
    · rw [e, hs, beq_self_eq_true]
    · rw [ho m (List.mem_range.mp hm) e, beq_eq_false_iff_ne.mpr e]
  unfold State.earliest
  rw [only]
  rfl

theorem State.earliest_of_latches {s t : State} {p : Nat} (h : ∀ n, t.latch n p = s.latch n p) (tick : Nat) :
    t.earliest p tick = s.earliest p tick := by
  unfold State.earliest
  simp only [h]

theorem State.cutLine_tick (s : State) {p : Nat} (hp : p < 16) (cause tick up : Nat) (spans : Bool) :
    (s.cutLine p cause tick up spans).reg (shutsLastShutoffTick p) = s.earliest p tick := by
  unfold State.cutLine
  extract_lets src a b c
  have ruled : Same [.drives, .events, .parts, .regs] a b := by apply State.retryRule_but <;> decide
  have driven : CutBut [] b c := .ite (b.driveFlt_cutBut _) (.refl _ b)
  have latches : ∀ n, c.latch n p = s.latch n p := fun n =>
    (driven.latches p hp (by simp) n).trans ((ruled.get_latch (by decide) n p).trans (State.setPart_get_latch ..))
  rw [State.setReg_reg_ne _ _ _ _ (by simp), State.setReg_reg_same]
  exact State.earliest_of_latches latches tick

/-- A shut-off by a cause of one cluster, with no entry set before, has the stamp of that cause. -/
theorem State.shutOff_tick (s : State) {n p : Nat} (hp : p < 16) (hn : n < 8) (h : ∀ m < 8, (s.latch m p).isSet = false)
    (cause tick upper lower line : Nat) : (s.shutOff p cause (some n) tick upper lower line).reg (shutsLastShutoffTick p) = tick := by
  rw [State.shutOff_eq]
  have opened : CutBut [] s ((s.openEvent p cause).benchAbort p 2) := (s.openEvent_cutBut p cause).trans (State.benchAbort_cutBut ..)
  generalize (s.openEvent p cause).benchAbort p 2 = a at opened
  change (((((a.latchEntry n p cause tick upper lower line).cutUnits p cause).cutLine p cause tick _ _).cutTold p cause (some n)).reg _) = _
  rw [(State.cutTold_cutBut ..).shuts p hp (by simp), State.cutLine_tick _ hp,
    State.earliest_of_latches ((State.cutUnits_cutBut ..).latches p hp (by simp))]
  obtain ⟨set, first⟩ := a.latchEntry_self n p cause tick upper lower line
  rw [State.earliest_of_one hn set, first]
  intro m hm other
  rw [State.latchEntry_other _ other, opened.latches p hp (by simp), h m hm]

end Sys2Proof.Machine

namespace Sys2Proof.Machine

/-! ### Causes that come while the line is set (R22, R128, R129) -/

theorem State.joinCause_cutBut (s : State) {p : Nat} (hp : p < 16) (cause tick : Nat) : CutBut [p] s (s.joinCause p cause tick) := by
  unfold State.joinCause
  extract_lets x t u
  have stamped : CutBut [p] s t := s.setReg_shuts_cutBut hp ..
  have ruled : CutBut [p] t u := (t.retryRule_cutBut hp ..).trans (State.setReg_shuts_cutBut _ hp ..)
  have driven : CutBut [p] u (u.driveFlt (u.groupOf p)) := (u.driveFlt_cutBut _).mono (by simp)
  exact .ite ((stamped.trans ruled).trans (.ite driven (.refl _ u))) stamped

theorem State.countLater_cutBut (s : State) {p : Nat} (hp : p < 16) (cl : Option Nat) : CutBut [p] s (s.countLater p cl) := by
  unfold State.countLater
  extract_lets n?
  cases n? with
  | none => exact .refl _ s
  | some n => exact .ite (s.setLatch_cutBut n hp _) (.refl _ s)

theorem State.causeIn_cutBut (s : State) {p : Nat} (hp : p < 16) (cause n tick upper lower : Nat) :
    CutBut [p] s (s.causeIn p cause n tick upper lower) := by
  unfold State.causeIn
  extract_lets x
  have first : CutBut [p] s (((s.latchEntry n p cause tick upper lower 0).joinCause p cause tick).publishEntry p cause (n + 1)) :=
    ((s.latchEntry_cutBut n hp ..).trans (State.joinCause_cutBut _ hp ..)).trans ((State.publishEntry_cutBut ..).mono (by simp))
  exact .ite first (.ite ((s.setLatch_cutBut n hp _).trans (State.joinCause_cutBut _ hp ..)) (s.countLater_cutBut hp _))

theorem State.joinAll_cutBut (s : State) {p : Nat} (hp : p < 16) (cause line : Nat) : CutBut [p] s (s.joinAll p cause line) := by
  unfold State.joinAll
  extract_lets fresh same t u v
  have entered : CutBut [p] s t := .each (fun w n _ => w.latchEntry_cutBut n hp ..) s
  have joined : CutBut [p] t u := .each (fun w n _ => w.setLatch_cutBut n hp _) t
  have ruled : CutBut [p] u v := u.joinCause_cutBut hp ..
  have all := (entered.trans joined).trans ruled
  exact .ite all (all.trans ((v.publishEntry_cutBut ..).mono (by simp)))

theorem State.causeAt_cutBut (s : State) {p : Nat} (hp : p < 16) (cause line : Nat) : CutBut [p] s (s.causeAt p cause line) := by
  unfold State.causeAt
  extract_lets t
  have counted : CutBut [p] s t := s.countLater_cutBut hp _
  have cancelled : CutBut [p] t ((t.setPart p { t.part p with retryAt := none, startPend := false }).setReg (shutsNextRetryTick p) 0) :=
    (t.setPart_cutBut_self ..).trans (State.setReg_shuts_cutBut _ hp ..)
  exact .ite (s.shutOff_cutBut hp ..) (.ite (s.joinAll_cutBut hp ..) (.ite (counted.trans cancelled) counted))

/-- A partition whose turn comes in a list of shut-offs, seen through what the others leave of it. -/
theorem CutBut.at_turn {f : State → Nat → State} {l : List Nat} {p : Nat} (nodup : l.Nodup) (mem : p ∈ l)
    (h : ∀ u, ∀ x ∈ l, CutBut [x] u (f u x)) (s : State) :
    ∃ u, CutBut (l.filter (· != p)) s u ∧ CutBut (l.filter (· != p)) (f u p) (s.each l f) :=
  State.each_at (.refl _) (fun _ _ _ => .trans) nodup mem
    (fun u x hx other => (h u x hx).mono (by simp_all)) s

theorem CutBut.of_turns {f : State → Nat → State} {l : List Nat} (h : ∀ u, ∀ x ∈ l, CutBut [x] u (f u x)) (s : State) :
    CutBut l s (s.each l f) := .each (fun u x hx => (h u x hx).mono (by simp_all)) s

/-! ### TR_FLT_RECEIVE (R119) -/

/-- What is known of a fault line after an edge that another driver made. -/
def GroupX.heard (g : GroupX) (now : Nat) : GroupX :=
  { g with fltLow := if g.fltLow.isSome then g.fltLow else some now, fltHigh := some now, fltPeer := true }

theorem exec_trFltReceive {n : Fin 4} {s : State} (hd : (s.group n).fltDrive = none) (hc : s.committed = true)
    (hr : bitOf (s.act fabFltRxEnable) n = true) (hs : bitOf (s.reg fabsFltStuck) n = false) {t : State}
    (ht : t = (s.setGroup n ((s.group n).heard s.now)).bump16 (fabsFltRxCount n)) :
    exec (.trFltReceive n) s = .next (t.each ((t.groupParts n).filter
      (fun p => t.spanning p && ((t.part p).state.isLive || t.cutThisTick p))) (fun s p => s.causeAt p 3 n)) := by
  subst ht
  change execTrFltReceive n s = _
  unfold execTrFltReceive
  refine if_neg ?_
  rintro (hidden | off | off | stuck)
  · simp [hd] at hidden
  · exact absurd (hc.symm.trans off) (by decide)
  · exact absurd (hr.symm.trans off) (by decide)
  · exact absurd (hs.symm.trans stuck) (by decide)

theorem exec_trFltReceive_off {n : Fin 4} {s : State} (h : s.committed = false ∨ bitOf (s.act fabFltRxEnable) n = false) :
    exec (.trFltReceive n) s = .next (s.setGroup n ((s.group n).heard s.now)) := by
  change execTrFltReceive n s = _
  unfold execTrFltReceive
  refine if_pos ?_
  rcases h with h | h
  · exact .inr (.inl h)
  · exact .inr (.inr (.inl h))

theorem State.setGroup_cutBut (s : State) (n : Nat) (g : GroupX) : CutBut [] s (s.setGroup n g) :=
  .of_same (f := [.groups]) (State.setGroup_but _ _ _ _ (by decide)) (by decide)

/-- The first clause of O19: an edge that this device can see shuts off the live spanning partitions of the group, and no other. -/
theorem trFltReceive_cuts (n : Fin 4) (s : State) (hd : (s.group n).fltDrive = none) (hc : s.committed = true)
    (hr : bitOf (s.act fabFltRxEnable) n = true) (hs : bitOf (s.reg fabsFltStuck) n = false) :
    Answers (.trFltReceive n) s (fun t =>
      Same [.actions, .caps, .chans, .clusters, .drives, .ens, .entries, .events, .groups, .latches, .parts, .ports, .regs, .safeN, .trims,
        .waitMaint] s t ∧
      t.reg (fabsFltRxCount n) = sat16 (s.reg (fabsFltRxCount n)) ∧
      ∀ p < 16,
        (s.defined p = true ∧ s.groupOf p = n.val ∧ s.spanning p = true ∧ (s.part p).state.isLive = true → (s.part p).line = false →
          (t.part p).line = true ∧ (t.part p).state.isFaulted = true ∧ t.reg (shutsLastCause p) = 3 ∧ t.safeN = false ∧
          t.reg (shutsShutoffCount p) = sat16 (s.reg (shutsShutoffCount p))) ∧
        (¬(s.defined p = true ∧ s.groupOf p = n.val ∧ s.spanning p = true ∧ (s.part p).state.isLive = true) → s.cutThisTick p = false →
          (t.part p).line = (s.part p).line ∧ (t.part p).state = (s.part p).state)) := by
  have known := s.setGroup_cutBut n ((s.group n).heard s.now)
  have counted : ∀ u : State, Same [.regs] u (u.bump16 (fabsFltRxCount n)) := fun u => State.setReg_but _ _ _ _ (by decide)
  have heard : Same [.groups, .regs] s ((s.setGroup n ((s.group n).heard s.now)).bump16 (fabsFltRxCount n)) :=
    Same.trans (t := s.setGroup n ((s.group n).heard s.now)) (State.setGroup_but _ _ _ _ (by decide)) ((counted _).mono (by decide))
  have count : ((s.setGroup n ((s.group n).heard s.now)).bump16 (fabsFltRxCount n)).reg (fabsFltRxCount n) = sat16 (s.reg (fabsFltRxCount n)) :=
    State.setReg_reg_same ..
  have shuts : ∀ p x, ((s.setGroup n ((s.group n).heard s.now)).bump16 (fabsFltRxCount n)).reg (rk 0x2710 p x) = s.reg (rk 0x2710 p x) :=
    fun p x => State.setReg_reg_ne _ _ _ _ (by simp)
  have run := exec_trFltReceive hd hc hr hs rfl
  generalize (s.setGroup n ((s.group n).heard s.now)).bump16 (fabsFltRxCount n) = u at heard count shuts run
  have part : ∀ p, u.part p = s.part p := heard.get_part (by decide)
  have act : ∀ k, u.act k = s.act k := heard.get_act (by decide)
  have hit : ∀ p, p ∈ (u.groupParts n).filter (fun p => u.spanning p && ((u.part p).state.isLive || u.cutThisTick p)) ↔
      (p < 16 ∧ s.defined p = true ∧ s.groupOf p = n.val) ∧ s.spanning p = true ∧
        ((s.part p).state.isLive = true ∨ s.cutThisTick p = true) := fun p => by
    simp only [State.groupParts, partitions, State.defined, State.groupOf, State.spanning, State.cutThisTick, List.mem_filter, List.mem_range,
      part, act, heard.now (by decide), Bool.and_eq_true, Bool.or_eq_true, beq_iff_eq]
  have nodup : ((u.groupParts n).filter (fun p => u.spanning p && ((u.part p).state.isLive || u.cutThisTick p))).Nodup :=
    (List.nodup_range.filter _).filter _
  generalize (u.groupParts n).filter (fun p => u.spanning p && ((u.part p).state.isLive || u.cutThisTick p)) = l at hit nodup run
  have small : ∀ p ∈ l, p < 16 := fun p hp => ((hit p).mp hp).1.1
  have turns : ∀ v, ∀ x ∈ l, CutBut [x] v (v.causeAt x 3 n) := fun v x hx => v.causeAt_cutBut (small x hx) 3 n
  have frame : Same (.clusters :: Fld.cut) u (u.each l (fun s p => s.causeAt p 3 n)) :=
    State.each_but _ _ _ _ (fun v x _ => by apply State.causeAt_but <;> decide)
  have all := CutBut.of_turns turns u
  refine ⟨_, run, (heard.mono (by decide)).trans (frame.mono (by decide)), (all.fabric _ (by omega)).trans count, fun p hp => ⟨?_, ?_⟩⟩
  · rintro ⟨defined, group, spanning, live⟩ clear
    have mem : p ∈ l := (hit p).mpr ⟨⟨hp, defined, group⟩, spanning, .inl live⟩
    obtain ⟨v, before, after⟩ := CutBut.at_turn nodup mem turns u
    have out : p ∉ l.filter (· != p) := by simp
    have open' : (v.part p).line = false := by rw [(before.lines p out).2, part, clear]
    have shut : v.causeAt p 3 n = v.shutOff p 3 none v.now 0 0 n := by
      unfold State.causeAt
      rw [if_pos (by simp [open'])]
    rw [shut] at after
    obtain ⟨line, faulted, cause, number, safe⟩ := v.shutOff_part hp 3 none v.now 0 0 n
    rw [(after.lines p out).1, (after.lines p out).2, after.shuts p hp out, after.shuts p hp out]
    exact ⟨line, faulted, cause, after.safe safe, by rw [number, before.shuts p hp out, shuts]⟩
  · intro apart before
    have out : p ∉ l := fun mem => by
      obtain ⟨⟨-, defined, group⟩, spanning, live | cut⟩ := (hit p).mp mem
      · exact apart ⟨defined, group, spanning, live⟩
      · rw [before] at cut
        cases cut
    rw [(all.lines p out).1, (all.lines p out).2, part]
    exact ⟨rfl, rfl⟩

end Sys2Proof.Machine

namespace Sys2Proof.Machine

/-! ### The loss of a cluster's clock (R122, R123) -/

theorem State.marginOff_cutBut (s : State) (c : Nat) : CutBut [] s (s.marginOff c) :=
  .of_objects (s.marginOff_parts c) (by decide) (s.marginOff_objects c) (by decide)

theorem State.gapFlag_cutBut (s : State) (p : Nat) : CutBut [] s (s.gapFlag p) := by
  unfold State.gapFlag
  exact s.setPart_cutBut rfl rfl

/-- A partition that a lost clock hits: shut off by it, or with the loss entered in the shut-off there is. -/
def State.clockLossOf (n first : Nat) (s : State) (p : Nat) : State :=
  if (s.part p).line then s.causeIn p 2 n first 0 0 else s.shutOff p 2 (some n) first 0 0 0

theorem State.clockLossOf_cutBut (s : State) (n first : Nat) {p : Nat} (hp : p < 16) : CutBut [p] s (s.clockLossOf n first p) :=
  .ite (s.causeIn_cutBut hp ..) (s.shutOff_cutBut hp ..)

/-- A loss of a clock up to the partitions that it hits: sweeps and margins end, and the actions of the cluster wait. -/
def State.clockLossBegun (s : State) (n : Nat) : State :=
  let s := s.setCluster n ((s.cluster n).stopped s.now ((s.lossHits n).map (fun p => 2 ^ p)).sum)
  let s := s.each (partitions.filter (fun p => clOf (s.part p).bench.chan == n)) (fun s p => s.sweepEnd p 6)
  let s := s.each ((List.range 64).filter (fun i => (s.chan (64 * n + i)).staticMgn)) (fun s i => s.marginOff (64 * n + i))
  s.loseActions n

/-- A loss of a clock after its partitions are shut off: the fault lines are untested, the running intervals marked, and the loss is told. -/
def State.clockLossTold (s : State) (n : Nat) : State :=
  let s := s.setReg fabsFabricUntested 65535
  let s := s.each (partitions.filter (fun p => s.countsIn p n)) (fun s p => s.gapFlag p)
  (s.bump16 fabsClkLossCount).raise 9 0x1B 255 false [BitVec.ofNat 8 n]

theorem State.clockLoss_eq (s : State) (n : Nat) :
    s.clockLoss n = ((s.clockLossBegun n).each (s.lossHits n) (fun u p => u.clockLossOf n (s.now - 20) p)).clockLossTold n := rfl

theorem State.clockLossBegun_cutBut (s : State) (n : Nat) : CutBut [] s (s.clockLossBegun n) := by
  unfold State.clockLossBegun
  extract_lets a b c
  have stopped : CutBut [] s a := .of_same (f := [.clusters]) (State.setCluster_but _ _ _ _ (by decide)) (by decide)
  have ended : CutBut [] a b := .each (fun u p _ => u.sweepEnd_cutBut p 6) a
  have taken : CutBut [] b c := .each (fun u i _ => u.marginOff_cutBut _) b
  exact ((stopped.trans ended).trans taken).trans (.of_same (f := [.actions]) (by apply State.loseActions_but; decide) (by decide))

theorem State.clockLossBegun_same (s : State) (n : Nat) : Same (.clusters :: Fld.cut) s (s.clockLossBegun n) := by
  unfold State.clockLossBegun
  extract_lets a b c
  have stopped : Same (.clusters :: Fld.cut) s a := State.setCluster_but _ _ _ _ (by decide)
  have ended : Same (.clusters :: Fld.cut) a b := State.each_but _ _ _ _ (fun u p _ => by apply State.sweepEnd_but <;> decide)
  have taken : Same (.clusters :: Fld.cut) b c := State.each_but _ _ _ _ (fun u p _ => by apply State.marginOff_but <;> decide)
  exact ((stopped.trans ended).trans taken).trans (by apply State.loseActions_but; decide)

theorem State.lossHits_lt {s : State} {n p : Nat} (h : p ∈ s.lossHits n) : p < 16 :=
  List.mem_range.mp (List.mem_filter.mp h).1

/-- What the telling of a loss leaves: the partitions' lines and states, the registers of their shut-offs, and SAFE_N. -/
theorem State.clockLossTold_leaves (s : State) (n : Nat) :
    (∀ p, ((s.clockLossTold n).part p).state = (s.part p).state ∧ ((s.clockLossTold n).part p).line = (s.part p).line) ∧
      (∀ p < 16, ∀ x, (s.clockLossTold n).reg (rk 0x2710 p x) = s.reg (rk 0x2710 p x)) ∧ (s.safeN = false → (s.clockLossTold n).safeN = false) ∧
      (s.clockLossTold n).reg fabsFabricUntested = 65535 ∧ (s.clockLossTold n).reg fabsClkLossCount = sat16 (s.reg fabsClkLossCount) ∧
      (s.enters 9 → (s.clockLossTold n).recorded 9 0x1B 255 false [BitVec.ofNat 8 n]) := by
  unfold State.clockLossTold
  extract_lets a b
  have flagged : CutBut [] a b := .each (fun u p _ => u.gapFlag_cutBut p) a
  have told := (b.bump16 fabsClkLossCount).raise_cutBut 9 0x1B 255 false [BitVec.ofNat 8 n]
  have flaggedSame : Same [.parts] a b := State.each_but _ _ _ _ (fun u p _ => by apply State.gapFlag_but; decide)
  have count : b.reg fabsClkLossCount = s.reg fabsClkLossCount :=
    (flagged.fabric _ (by decide)).trans (State.setReg_reg_ne _ _ _ _ (by simp))
  have untested : b.reg fabsFabricUntested = 65535 := (flagged.fabric _ (by decide)).trans (State.setReg_reg_same ..)
  have part : ∀ p, ((b.bump16 fabsClkLossCount).part p) = b.part p := fun p => State.setReg_get_part ..
  have partA : ∀ p, a.part p = s.part p := fun p => State.setReg_get_part ..
  have up : a.mgmtDown = s.mgmtDown ∧ a.stalled = s.stalled ∧ a.safeN = s.safeN :=
    ⟨State.setReg_mgmtDown .., State.setReg_stalled .., State.setReg_safeN ..⟩
  have upB : (b.bump16 fabsClkLossCount).mgmtDown = b.mgmtDown ∧ (b.bump16 fabsClkLossCount).stalled = b.stalled ∧
      (b.bump16 fabsClkLossCount).safeN = b.safeN := ⟨State.setReg_mgmtDown .., State.setReg_stalled .., State.setReg_safeN ..⟩
  refine ⟨fun p => ?_, fun p hp x => ?_, fun low => ?_, ?_, ?_, fun enters => ?_⟩
  · rw [(told.lines p (by simp)).1, (told.lines p (by simp)).2, part, (flagged.lines p (by simp)).1, (flagged.lines p (by simp)).2, partA]
    exact ⟨rfl, rfl⟩
  · rw [told.shuts p hp (by simp)]
    refine (State.setReg_reg_ne _ _ _ _ (by simp)).trans ?_
    rw [flagged.shuts p hp (by simp)]
    exact State.setReg_reg_ne _ _ _ _ (by simp)
  · exact told.safe (upB.2.2.trans (flagged.safe (up.2.2.trans low)))
  · rw [told.fabric _ (by decide)]
    exact (State.setReg_reg_ne _ _ _ _ (by simp)).trans untested
  · rw [told.fabric _ (by decide)]
    exact (State.setReg_reg_same ..).trans (congrArg sat16 count)
  · refine State.raise_recorded _ _ _ _ _ _ ?_
    unfold State.enters
    rw [upB.1, upB.2.1, flaggedSame.mgmtDown (by decide), flaggedSame.stalled (by decide), up.1, up.2.1]
    exact enters

/-- The clause of O19 on a lost clock: the partitions with a connected channel there are shut off, and no other. -/
theorem clusterClockLoss_cuts (n : Fin 8) (s : State) (hl : (s.cluster n).clockLost = false) :
    Answers (.clusterClockLoss n) s (fun t =>
      Same [.actions, .caps, .chans, .clusters, .drives, .ens, .entries, .events, .groups, .latches, .parts, .ports, .regs, .safeN, .trims,
        .waitMaint] s t ∧
      (∀ m < 8, m ≠ n.val → t.cluster m = { s.cluster m with lostParts := (t.cluster m).lostParts }) ∧
      t.cluster n = { s.cluster n with clockLost := true, lostAt := (s.cluster n).counter, lostTime := s.now,
                                       lostParts := (t.cluster n).lostParts, lostHits := (t.cluster n).lostHits } ∧
      t.reg fabsFabricUntested = 65535 ∧ t.reg fabsClkLossCount = sat16 (s.reg fabsClkLossCount) ∧
      (s.enters 9 → t.recorded 9 0x1B 255 false [BitVec.ofNat 8 n]) ∧
      ∀ p < 16,
        (p ∈ s.lossHits n → (s.part p).line = false → (t.part p).line = true ∧ (t.part p).state.isFaulted = true ∧
          t.reg (shutsLastCause p) = 2 ∧ t.safeN = false ∧
          ((∀ m < 8, (s.latch m p).isSet = false) → t.reg (shutsLastShutoffTick p) = s.now - 20)) ∧
        (p ∉ s.lossHits n → (t.part p).line = (s.part p).line ∧ (t.part p).state = (s.part p).state)) := by
  have run : exec (.clusterClockLoss n) s = .next (s.clockLoss n) := by
    change execClusterClockLoss n s = _
    unfold execClusterClockLoss
    exact if_neg (by simp [hl])
  have frame : Same (.clusters :: Fld.cut) s (s.clockLoss n) := by apply State.clockLoss_but <;> decide
  have others := s.clockLoss_others n
  have own := ClusterX.eq_of_unnoted (s.clockLoss_cluster n)
  refine ⟨_, run, frame.mono (by decide), fun m hm other => others.cluster (by simpa using other), ?_, ?_⟩
  · rw [own]
    rfl
  rw [State.clockLoss_eq]
  have begun := s.clockLossBegun_cutBut n
  have begunSame := s.clockLossBegun_same n
  generalize s.clockLossBegun n = u at begun begunSame
  have nodup : (s.lossHits n).Nodup := List.nodup_range.filter _
  have small : ∀ p ∈ s.lossHits n, p < 16 := fun p hp => State.lossHits_lt hp
  have turns : ∀ v, ∀ x ∈ s.lossHits n, CutBut [x] v (v.clockLossOf n (s.now - 20) x) := fun v x hx => v.clockLossOf_cutBut n _ (small x hx)
  have cutSame : Same (.clusters :: Fld.cut) u (u.each (s.lossHits n) (fun v p => v.clockLossOf n (s.now - 20) p)) :=
    State.each_but _ _ _ _ (fun v p _ => by
      unfold State.clockLossOf
      split
      · apply State.causeIn_but <;> decide
      · apply State.shutOff_but <;> decide)
  have all := CutBut.of_turns turns u
  have turn : ∀ p ∈ s.lossHits n, ∃ v, CutBut ((s.lossHits n).filter (· != p)) u v ∧
      CutBut ((s.lossHits n).filter (· != p)) (v.clockLossOf n (s.now - 20) p) (u.each (s.lossHits n) (fun v p => v.clockLossOf n (s.now - 20) p)) :=
    fun p hp => CutBut.at_turn nodup hp turns u
  generalize u.each (s.lossHits n) (fun v p => v.clockLossOf n (s.now - 20) p) = w at cutSame all turn
  obtain ⟨lines, shuts, safe, untested, count, told⟩ := w.clockLossTold_leaves n
  refine ⟨untested, by rw [count, all.fabric _ (by decide), begun.fabric _ (by decide)], fun enters => told ?_, fun p hp => ⟨fun hit clear => ?_,
    fun apart => ?_⟩⟩
  · unfold State.enters
    rw [cutSame.mgmtDown (by decide), cutSame.stalled (by decide), begunSame.mgmtDown (by decide), begunSame.stalled (by decide)]
    exact enters
  · obtain ⟨v, before, after⟩ := turn p hit
    have out : p ∉ (s.lossHits n).filter (· != p) := by simp
    have open' : (v.part p).line = false := by rw [(before.lines p out).2, (begun.lines p (by simp)).2, clear]
    have shut : v.clockLossOf n (s.now - 20) p = v.shutOff p 2 (some n) (s.now - 20) 0 0 0 := if_neg (by simp [open'])
    rw [shut] at after
    obtain ⟨line, faulted, cause, number, low⟩ := v.shutOff_part hp 2 (some n) (s.now - 20) 0 0 0
    rw [(lines p).1, (lines p).2, (after.lines p out).1, (after.lines p out).2, shuts p hp, shuts p hp, after.shuts p hp out,
      after.shuts p hp out]
    refine ⟨line, faulted, cause, safe (after.safe low), fun none' => ?_⟩
    refine v.shutOff_tick hp n.isLt (fun m hm => ?_) 2 (s.now - 20) 0 0 0
    rw [before.latches p hp out, begun.latches p hp (by simp), none' m hm]
  · rw [(lines p).1, (lines p).2, (all.lines p apart).1, (all.lines p apart).2, (begun.lines p (by simp)).1, (begun.lines p (by simp)).2]
    exact ⟨rfl, rfl⟩

end Sys2Proof.Machine

namespace Sys2Proof.Machine

/-! ### Channels that are OFF or TRIPPED stay so while a clock comes back (R56, R59) -/

/-- A channel is OFF or TRIPPED. -/
def ChanX.out (x : ChanX) : Prop := x.state = .off ∨ x.state = .tripped

/-- Every channel that is OFF or TRIPPED stays so. -/
structure OutKept (s t : State) : Prop where
  keeps : ∀ c, (s.chan c).out → (t.chan c).out

theorem OutKept.refl (s : State) : OutKept s s := ⟨fun _ h => h⟩

theorem OutKept.trans {s t u : State} (h : OutKept s t) (h' : OutKept t u) : OutKept s u := ⟨fun c hc => h'.keeps c (h.keeps c hc)⟩

theorem OutKept.of_same {l : List Fld} {s t : State} (h : Same l s t) (hn : Fld.chans ∉ l) : OutKept s t :=
  ⟨fun c hc => by rwa [h.get_chan hn]⟩

theorem OutKept.ite {c : Prop} [Decidable c] {s t u : State} (ht : c → OutKept s t) (hu : ¬ c → OutKept s u) :
    OutKept s (if c then t else u) := by
  split
  · exact ht ‹_›
  · exact hu ‹_›

theorem OutKept.each {f : State → Nat → State} (h : ∀ u x, OutKept u (f u x)) (xs : List Nat) (s : State) : OutKept s (s.each xs f) :=
  State.each_rel .refl (fun _ _ _ => .trans) h xs s

/-- A change of a channel's state is one of its record alone. -/
theorem State.toState_chan (s : State) (c d : Nat) (st : ChanState) (at_ : Nat) : (s.toState c st at_).chan d =
    if d = c then { s.chan c with
      state := st, entered := tabInsert st.code at_ (tabErase (s.chan c).entered st.code),
      recovered := if st = .off then false else (s.chan c).recovered,
      settled := if st = .running || st = .margin then (s.chan c).settled else 0 } else s.chan d := by
  unfold State.toState
  extract_lets x t u v
  have noted : Same [.caps, .regs] t u := by simp [Same, u, ↓State.setReg_but, ↓State.noteCap_but]
  have counted : Same [.regs] u v := by
    simp only [v]
    split
    · exact Same.trans (State.setReg_but _ _ _ _ (by decide)) (State.setReg_but _ _ _ _ (by decide))
    · exact State.setReg_but _ _ _ _ (by decide)
    · exact .refl _ u
  have steered : Same [.entries, .trims] v (v.trimFollow c st) := by apply State.trimFollow_but <;> decide
  rw [steered.get_chan (by decide), counted.get_chan (by decide), noted.get_chan (by decide)]
  exact State.setChan_get ..

theorem State.toState_state (s : State) (c : Nat) (st : ChanState) (at_ : Nat) : ((s.toState c st at_).chan c).state = st := by
  rw [State.toState_chan, if_pos rfl]

theorem State.toState_outKept (s : State) {c : Nat} {st : ChanState} (h : (st = .off ∨ st = .tripped) ∨ ¬ (s.chan c).out) (at_ : Nat) :
    OutKept s (s.toState c st at_) := by
  refine ⟨fun d hd => ?_⟩
  rw [State.toState_chan]
  split
  · subst d
    exact h.resolve_right (fun no => no hd)
  · exact hd

theorem State.setChan_outKept (s : State) {c : Nat} {x : ChanX} (h : (s.chan c).out → x.out) : OutKept s (s.setChan c x) := by
  refine ⟨fun d hd => ?_⟩
  rw [State.setChan_get]
  split
  · subst d
    exact h hd
  · exact hd

/-- An update of a channel's record that keeps its state. -/
theorem State.setChan_outKept_of_state (s : State) {c : Nat} {x : ChanX} (h : x.state = (s.chan c).state) : OutKept s (s.setChan c x) :=
  s.setChan_outKept (fun hc => by rwa [ChanX.out, h])

theorem State.warnClear_outKept (s : State) (c : Nat) (quiet : Bool) : OutKept s (s.warnClear c quiet) := by
  unfold State.warnClear
  extract_lets x t u
  have cleared : OutKept s t := s.setChan_outKept_of_state rfl
  have raised : ∀ v : State, ∀ d k p cl y, OutKept v (v.raise d k p cl y) := fun v d k p cl y => .of_same (v.raise_same ..) (by decide)
  have upper : OutKept t u := .ite (fun _ => raised ..) (fun _ => .refl t)
  exact (cleared.trans upper).trans (.ite (fun _ => raised ..) (fun _ => .refl u))

theorem State.warnEnd_outKept (s : State) (c : Nat) (quiet : Bool) : OutKept s (s.warnEnd c quiet) :=
  .ite (fun _ => .refl s) (fun _ => .each (fun u d => u.warnClear_outKept d quiet) _ s)

theorem State.markCut_outKept (s : State) (c : Nat) : OutKept s (s.markCut c) := by
  unfold State.markCut
  extract_lets x
  refine .ite (fun _ => ?_) (fun _ => .refl s)
  exact s.setChan_outKept_of_state rfl

theorem State.marginOff_outKept (s : State) (c : Nat) : OutKept s (s.marginOff c) := by
  unfold State.marginOff
  extract_lets t
  have dropped : OutKept s t := by
    unfold t State.marginDrop
    exact s.setChan_outKept_of_state rfl
  have state : (t.chan c).state = (s.chan c).state := by
    change ((s.setChan c _).chan c).state = _
    rw [State.setChan_get, if_pos rfl]
  refine .ite (fun h => dropped.trans (t.toState_outKept (.inr ?_) _)) (fun _ => dropped)
  rw [ChanX.out, state, h.1]
  decide

theorem State.marginEnd_outKept (s : State) (c reason : Nat) : OutKept s (s.marginEnd c reason) := by
  refine .ite (fun _ => ?_) (fun _ => s.marginOff_outKept c)
  unfold State.marginDrop
  exact s.setChan_outKept_of_state rfl

theorem State.sweepEnd_outKept (s : State) (p reason : Nat) : OutKept s (s.sweepEnd p reason) := by
  unfold State.sweepEnd
  extract_lets b t u x src v w
  have freed : OutKept s t := by
    refine .of_same (l := [.waitMaint]) ?_ (by decide)
    exact State.but_waitMaint _ _ _ (by decide)
  have ended : OutKept t u := .ite (fun _ => t.marginEnd_outKept ..) (fun _ => .refl t)
  have marked : OutKept u v := .of_same (l := [.parts]) (State.setPart_but _ _ _ _ (by decide)) (by decide)
  have told : OutKept v w := .of_same (l := [.regs]) (by simp [Same, w, ↓State.setReg_but]) (by decide)
  exact .ite (fun _ => .refl s) (fun _ => (((freed.trans ended).trans marked).trans told).trans (.of_same (w.raise_same ..) (by decide)))

theorem State.cutChannels_outKept (s : State) (p : Nat) (quiet : Bool) : OutKept s (s.cutChannels p quiet) := by
  unfold State.cutChannels
  extract_lets u mine joined v w
  have noted : OutKept s u := .of_same (l := [.clusters]) (by apply State.noteLost_but; decide) (by decide)
  have ended : OutKept u v := .each (fun t c => t.warnEnd_outKept c quiet) _ u
  have marked : OutKept v w := .each (fun t c => t.markCut_outKept c) _ v
  refine ((noted.trans ended).trans marked).trans (.each (fun t c => ?_) _ w)
  refine .trans ?_ (State.toState_outKept _ (.inl (.inl rfl)) _)
  exact t.setChan_outKept_of_state rfl

theorem State.shutOff_outKept (s : State) (p cause : Nat) (cl : Option Nat) (tick upper lower line : Nat) :
    OutKept s (s.shutOff p cause cl tick upper lower line) := by
  unfold State.shutOff
  extract_lets x up spans a b c d e f g h i x' j k l m o
  have opened : OutKept s (s.openEvent p cause) := .of_same (l := [.parts]) (by apply State.openEvent_but; decide) (by decide)
  have aborted : OutKept (s.openEvent p cause) a :=
    ((s.openEvent p cause).sweepEnd_outKept p 2).trans (.each (fun u c => u.marginEnd_outKept c 2) _ _)
  have latched : Same [.latches, .caps] a c := by simp [Same, b, c, ↓State.capturesEnd_but, ↓State.latchCause_but]
  have cut : OutKept c d := c.cutChannels_outKept ..
  have halted : Same (Fld.cut.erase .chans) d g := by
    refine Same.trans (t := f) ?_ (State.each_but _ _ _ _ (fun t c _ => by simp [Fld.cut, ↓State.driveHalt_but]))
    simp [Same, Fld.cut, e, f, ↓State.trimsZero_but, ↓State.cutEnables_but]
  have judged : Same (Fld.cut.erase .chans) g k := by
    simp [Same, Fld.cut, h, i, j, k, ↓State.retryRule_but, ↓State.setPart_but, ↓State.cutSequence_but, ↓State.psShutoff_but]
  have driven : Same (Fld.cut.erase .chans) k l := by
    simp only [l]
    split
    · simp [Same, Fld.cut, ↓State.driveFlt_but]
    · exact .refl _ _
  have counted : Same (Fld.cut.erase .chans) l m := by simp [Same, Fld.cut, m, ↓State.setReg_but]
  have lowered : Same (Fld.cut.erase .chans) m { m with safeN := false } := State.but_safeN m false _ (by decide)
  have published : Same (Fld.cut.erase .chans) { m with safeN := false } (o.publishEntry p cause (match cl with | some n => n + 1 | none => 9)) := by
    simp [Same, Fld.cut, o, ↓State.publishEntry_but, ↓State.bareMerge_but]
  have after := (((halted.trans judged).trans driven).trans counted).trans (lowered.trans published)
  exact (((opened.trans aborted).trans (.of_same latched (by decide))).trans cut).trans (.of_same after (by decide))

end Sys2Proof.Machine

namespace Sys2Proof.Machine

/-! ### Trips and timers while a clock comes back -/

theorem State.causeIn_outKept (s : State) (p cause n tick upper lower : Nat) : OutKept s (s.causeIn p cause n tick upper lower) :=
  .of_same (l := Fld.cut.erase .chans) (by apply State.causeIn_but <;> decide) (by decide)

theorem ChanX.uncut_state (x : ChanX) (tick : Nat) : (x.uncut tick).state = x.state := by
  unfold ChanX.uncut
  split <;> rfl

theorem State.toTripped_outKept (s : State) (c tick : Nat) : OutKept s (s.toTripped c tick) := by
  unfold State.toTripped
  extract_lets t src v
  have warned : OutKept s (s.warnEnd c true) := s.warnEnd_outKept c true
  have marked : OutKept (s.warnEnd c true) t := .each (fun u d => u.markCut_outKept d) _ _
  clear_value t
  have uncut : OutKept t v := t.setChan_outKept_of_state ((t.chan c).uncut_state tick)
  have tripped : OutKept v (v.toState c .tripped (tick + 1)) := v.toState_outKept (.inl (.inr rfl)) _
  exact (((warned.trans marked).trans uncut).trans tripped).trans (.of_same (l := [.regs]) (State.setReg_but _ _ _ _ (by decide)) (by decide))

theorem State.trip_outKept (s : State) (c : Nat) (side : Side) : OutKept s (s.trip c side) := by
  unfold State.trip
  extract_lets p tick up lo t
  have tripped : OutKept s t := s.toTripped_outKept c tick
  exact tripped.trans (.ite (fun _ => t.causeIn_outKept ..) (fun _ => t.shutOff_outKept ..))

theorem State.gateTrip_outKept (s : State) (c : Nat) : OutKept s (s.gateTrip c) := .each (fun u d => u.trip_outKept d _) _ s

theorem State.enterSettle_outKept (s : State) {c : Nat} (h : ¬ (s.chan c).out) : OutKept s (s.enterSettle c) := by
  unfold State.enterSettle
  extract_lets t src u v
  have timed : OutKept s u := s.setChan_outKept_of_state rfl
  have state : (u.chan c).state = (s.chan c).state := by
    change ((s.setChan c _).chan c).state = _
    rw [State.setChan_get, if_pos rfl]
  have settled : OutKept u v := u.toState_outKept (.inr (by rwa [ChanX.out, state])) _
  refine .ite (fun _ => (timed.trans settled).trans (v.toState_outKept (.inr ?_) _)) (fun _ => timed.trans settled)
  rw [ChanX.out, show (v.chan c).state = .settle from u.toState_state ..]
  decide

theorem State.goAbsent_outKept (s : State) {c : Nat} (h : ¬ (s.chan c).out) (at_ : Nat) : OutKept s (s.goAbsent c at_) := by
  unfold State.goAbsent
  extract_lets t u
  have absent : OutKept s t := s.toState_outKept (.inr h) at_
  have raised : OutKept t u := .of_same (t.raise_same ..) (by decide)
  exact .ite (fun _ => (absent.trans raised).trans (.of_same (l := [.caps, .ens]) (by apply State.orderEn_but <;> decide) (by decide)))
    (fun _ => absent.trans raised)

theorem State.recover_outKept (s : State) {c : Nat} (h : ¬ (s.chan c).out) (at_ : Nat) : OutKept s (s.recover c at_) := by
  unfold State.recover
  extract_lets t src u
  have running : OutKept s t := s.toState_outKept (.inr h) at_
  have noted : OutKept t (t.setChan c { t.chan c with recovered := true }) := t.setChan_outKept_of_state rfl
  have counted : OutKept (t.setChan c { t.chan c with recovered := true }) u :=
    .of_same (l := [.regs]) (State.setReg_but _ _ _ _ (by decide)) (by decide)
  exact ((running.trans noted).trans counted).trans (.of_same (u.raise_same ..) (by decide))

/-- A channel whose settle timer acts is in SETTLE or ABSENT. -/
theorem State.settles_not_out {s : State} {c t : Nat} (h : s.settles c t = true) : ¬ (s.chan c).out := by
  unfold State.settles at h
  rintro (off | tripped)
  · simp [off] at h
  · simp [tripped] at h

theorem State.settleBy_outKept (s : State) (c t : Nat) : OutKept s (s.settleBy c t) := by
  refine .ite (fun h => .trans (.ite (fun _ => ?_) (fun _ => ?_)) (State.gateTrip_outKept _ c)) (fun _ => .refl s)
  · exact s.recover_outKept (State.settles_not_out h) _
  · exact s.toState_outKept (.inr (State.settles_not_out h)) _

theorem State.deadlineBy_outKept (s : State) (c t : Nat) : OutKept s (s.deadlineBy c t) := by
  unfold State.deadlineBy
  extract_lets due
  refine .ite (fun _ => ?_) (fun _ => .refl s)
  split
  · exact s.goAbsent_outKept (by rw [ChanX.out, ‹(s.chan c).state = .armed›]; decide) _
  · exact s.goAbsent_outKept (by rw [ChanX.out, ‹(s.chan c).state = .ramp›]; decide) _
  · exact .ite (fun _ => .refl s) (fun _ => s.goAbsent_outKept (by rw [ChanX.out, ‹(s.chan c).state = .settle›]; decide) _)
  · exact .refl s

theorem State.timersBy_outKept (s : State) (c : Nat) : OutKept s (s.timersBy c) :=
  ((s.settleBy_outKept c _).trans (State.deadlineBy_outKept ..)).trans (State.settleBy_outKept ..)

theorem State.unmark_outKept (s : State) (c : Nat) : OutKept s (s.unmark c) := by
  unfold State.unmark
  extract_lets x
  split
  · exact .refl s
  · rename_i m _
    refine .ite (fun _ => .refl s) (fun stays => ?_)
    extract_lets new t
    have unseen : OutKept s t := .of_same (l := [.caps]) (by apply State.unseeCap_but; decide) (by decide)
    have same : Same [.caps] s t := by apply State.unseeCap_but; decide
    have inside : ¬ (t.chan c).out := by
      rw [same.get_chan (by decide)]
      rintro (off | tripped)
      · exact stays (.inr (.inr off))
      · exact stays (.inr (.inl tripped))
    exact (unseen.trans (t.setChan_outKept (fun out => absurd out inside))).trans
      (.of_same (l := [.regs]) (State.setReg_but _ _ _ _ (by decide)) (by decide))

theorem State.leaves_outKept (s : State) (c : Nat) : OutKept s (s.leaves c) := by
  unfold State.leaves
  extract_lets t
  have marked : OutKept s t := (((s.timersBy_outKept c).trans (State.unmark_outKept ..)).trans (State.warnEnd_outKept ..)).trans
    (.each (fun u d => u.markCut_outKept d) _ _)
  clear_value t
  refine marked.trans ?_
  exact t.setChan_outKept_of_state rfl

theorem State.parkChan_outKept (s : State) (c : Nat) : OutKept s (s.parkChan c) := by
  unfold State.parkChan
  extract_lets t
  have left : OutKept s t := s.leaves_outKept c
  refine .ite (fun _ => left) (fun stays => left.trans (t.toState_outKept (.inr ?_) _))
  intro out
  simp only [Bool.or_eq_true, decide_eq_true_eq] at stays
  exact stays out

theorem State.armChan_outKept (s : State) {c : Nat} (h : ¬ (s.chan c).out) : OutKept s (s.armChan c) := by
  unfold State.armChan
  extract_lets t src u v w
  have timed : OutKept s u := s.setChan_outKept_of_state rfl
  have state : (u.chan c).state = (s.chan c).state := by
    change ((s.setChan c _).chan c).state = _
    rw [State.setChan_get, if_pos rfl]
  have armed : OutKept u v := u.toState_outKept (.inr (by rwa [ChanX.out, state])) _
  have asks : Same [.ports] v w := by
    simp only [w]
    split
    · apply State.askSetpoint_but; decide
    · exact .refl _ v
  have all := (timed.trans armed).trans (.of_same asks (by decide))
  have stateW : (w.chan c).state = .armed := by
    rw [asks.get_chan (by decide)]
    exact u.toState_state ..
  clear_value w
  refine .ite (fun _ => all.trans (.trans (t := w.setChan c { w.chan c with rampSkip := true }) ?_ (State.enterSettle_outKept _ ?_)))
    (fun _ => all)
  · exact w.setChan_outKept_of_state rfl
  · rw [State.setChan_get, if_pos rfl, ChanX.out]
    simp [stateW]

/-! ### The channels of a cluster whose clock is back (R59) -/

theorem State.resolveCut_out (s : State) (c lost : Nat) (byLoss : Bool) : ((s.resolveCut c lost byLoss).chan c).out := by
  unfold State.resolveCut
  extract_lets x p at_ trips quiet t
  split
  · assumption
  · rw [ChanX.out, State.toState_state]
    split
    · exact .inr rfl
    · exact .inl rfl

theorem State.resolveCut_outKept (s : State) (c lost : Nat) (byLoss : Bool) : OutKept s (s.resolveCut c lost byLoss) := by
  unfold State.resolveCut
  extract_lets x p at_ trips quiet t
  have warned : OutKept s t := s.warnEnd_outKept c quiet
  clear_value t
  refine .ite (fun _ => .refl s) (fun _ => warned.trans
    (.trans (t := t.setChan c { t.chan c with marginSet := none, staticMgn := false, marginPend := none }) ?_ (State.toState_outKept _ (.inl ?_) _)))
  · exact t.setChan_outKept_of_state rfl
  · split
    · exact .inr rfl
    · exact .inl rfl

theorem State.resolveChan_outKept (s : State) (c : Nat) (k : ClusterX) : OutKept s (s.resolveChan c k) := by
  unfold State.resolveChan
  extract_lets x p t late u
  have timed : OutKept s u := s.setChan_outKept_of_state rfl
  have state : (u.chan c).state = x.state := by
    change ((s.setChan c _).chan c).state = _
    rw [State.setChan_get, if_pos rfl]
  clear_value u
  refine .ite (fun _ => .refl s) (fun _ => .ite (fun _ => s.resolveCut_outKept ..) (fun _ => ?_))
  have inside : ∀ st, x.state = st → st ≠ .off → st ≠ .tripped → ¬ (u.chan c).out := fun st hx ho ht => by
    rw [ChanX.out, state, hx]
    exact fun h => h.elim ho ht
  split
  · rename_i hx
    have stays := inside _ hx (by decide) (by decide)
    refine timed.trans (.ite (fun _ => u.goAbsent_outKept stays _) (fun _ => .ite (fun _ => ?_) (fun _ => .refl u)))
    refine .trans (.trans (t := u.setChan c { u.chan c with rampSkip := true }) ?_ (State.enterSettle_outKept _ ?_)) (State.gateTrip_outKept ..)
    · exact u.setChan_outKept_of_state rfl
    · rw [State.setChan_get, if_pos rfl]
      exact stays
  iterate 2
    rename_i hx
    have stays := inside _ hx (by decide) (by decide)
    refine timed.trans (.ite (fun _ => u.goAbsent_outKept stays _) (fun _ => ?_))
    have ramp : ∀ v, v = (if x.state = .settle then u.toState c .ramp t else u) → OutKept u v ∧ ¬ (v.chan c).out := by
      rintro v rfl
      by_cases settle : x.state = .settle
      · rw [if_pos settle]
        exact ⟨u.toState_outKept (.inr stays) _, by rw [ChanX.out, State.toState_state]; decide⟩
      · rw [if_neg settle]
        exact ⟨.refl u, stays⟩
    obtain ⟨kept, staysRamp⟩ := ramp _ rfl
    exact kept.trans (.ite (fun _ => (State.enterSettle_outKept _ staysRamp).trans (State.gateTrip_outKept ..)) (fun _ => .refl _))
  · exact timed

theorem State.parkBack_outKept (s : State) (c : Nat) : OutKept s (s.parkBack c) := by
  unfold State.parkBack
  extract_lets x t u
  have taken : OutKept s t := s.setChan_outKept_of_state rfl
  have parked : OutKept t u := by
    refine .ite (fun _ => .refl t) (fun _ => ?_)
    split
    iterate 6 exact t.parkChan_outKept c
    · exact .refl t
  refine (taken.trans parked).trans (.ite (fun h => (u.armChan_outKept ?_).trans (State.gateTrip_outKept ..)) (fun _ => .refl u))
  simp only [Bool.and_eq_true, beq_iff_eq] at h
  rw [ChanX.out, h.2]
  decide

end Sys2Proof.Machine

namespace Sys2Proof.Machine

/-! ### With no CURRENT channel an operation on a channel leaves the others (R107) -/

/-- No CURRENT channel is configured. -/
def State.NoCurrent (s : State) : Prop := ∀ d < 512, s.kind d ≠ 2

theorem State.NoCurrent.companions {s : State} (h : s.NoCurrent) (c : Nat) : s.companions c = [] := by
  unfold State.companions
  refine List.filter_eq_nil_iff.mpr (fun d hd => ?_)
  have other := h d (List.mem_range.mp hd)
  simp [other]

/-- Without a companion the connection gate trips nothing. -/
theorem State.NoCurrent.gateTrip {s : State} (h : s.NoCurrent) (c : Nat) : s.gateTrip c = s := by
  unfold State.gateTrip
  rw [h.companions]
  rfl

/-- The configuration and every channel but one are as they were. -/
structure OnlyChan (c : Nat) (s t : State) : Prop where
  active : t.active = s.active
  chans : ∀ d, d ≠ c → t.chan d = s.chan d

theorem OnlyChan.refl (c : Nat) (s : State) : OnlyChan c s s := ⟨rfl, fun _ _ => rfl⟩

theorem OnlyChan.trans {c : Nat} {s t u : State} (h : OnlyChan c s t) (h' : OnlyChan c t u) : OnlyChan c s u :=
  ⟨h'.active.trans h.active, fun d hd => (h'.chans d hd).trans (h.chans d hd)⟩

theorem OnlyChan.of_same {l : List Fld} {s t : State} (h : Same l s t) (hn : Fld.chans ∉ l) (ha : Fld.active ∉ l) (c : Nat) : OnlyChan c s t :=
  ⟨h.active ha, fun d _ => h.get_chan hn d⟩

theorem OnlyChan.ite {c : Nat} {p : Prop} [Decidable p] {s t u : State} (ht : OnlyChan c s t) (hu : OnlyChan c s u) :
    OnlyChan c s (if p then t else u) := by
  split
  · exact ht
  · exact hu

theorem State.NoCurrent.of_active {s t : State} (h : s.NoCurrent) (ha : t.active = s.active) : t.NoCurrent := by
  intro d hd
  have kind : t.kind d = s.kind d := by
    unfold State.kind State.act
    rw [ha]
  rw [kind]
  exact h d hd

theorem OnlyChan.noCurrent {c : Nat} {s t : State} (h : OnlyChan c s t) (hs : s.NoCurrent) : t.NoCurrent := hs.of_active h.active

theorem State.setChan_only (s : State) (c : Nat) (x : ChanX) : OnlyChan c s (s.setChan c x) :=
  ⟨rfl, fun d hd => by rw [State.setChan_get, if_neg hd]⟩

theorem State.toState_only (s : State) (c : Nat) (st : ChanState) (at_ : Nat) : OnlyChan c s (s.toState c st at_) := by
  have same : Same [.caps, .chans, .entries, .regs, .trims] s (s.toState c st at_) := by apply State.toState_but <;> decide
  exact ⟨same.active (by decide), fun d hd => by rw [State.toState_chan, if_neg hd]⟩

theorem State.setReg_only (s : State) (c k v : Nat) : OnlyChan c s (s.setReg k v) :=
  .of_same (l := [.regs]) (State.setReg_but _ _ _ _ (by decide)) (by decide) (by decide) c

theorem State.raise_only (s : State) (c d k p : Nat) (cl : Bool) (x : Bytes) : OnlyChan c s (s.raise d k p cl x) :=
  .of_same (s.raise_same ..) (by decide) (by decide) c

theorem State.warnClear_only (s : State) (c : Nat) (quiet : Bool) : OnlyChan c s (s.warnClear c quiet) := by
  unfold State.warnClear
  extract_lets x t u
  have cleared : OnlyChan c s t := s.setChan_only ..
  have upper : OnlyChan c t u := .ite (t.raise_only ..) (.refl c t)
  exact (cleared.trans upper).trans (.ite (u.raise_only ..) (.refl c u))

theorem State.NoCurrent.warnEnd {s : State} (h : s.NoCurrent) (c : Nat) (quiet : Bool) : OnlyChan c s (s.warnEnd c quiet) := by
  unfold State.warnEnd
  rw [h.companions]
  exact .ite (.refl c s) (s.warnClear_only c quiet)

theorem State.NoCurrent.markCuts {s : State} (h : s.NoCurrent) (c : Nat) : OnlyChan c s (s.markCuts c) := by
  unfold State.markCuts
  rw [h.companions]
  change OnlyChan c s (s.markCut c)
  unfold State.markCut
  extract_lets x
  exact .ite (s.setChan_only ..) (.refl c s)

theorem State.goAbsent_only (s : State) (c at_ : Nat) : OnlyChan c s (s.goAbsent c at_) := by
  unfold State.goAbsent
  extract_lets t u
  have absent : OnlyChan c s u := (s.toState_only c .absent at_).trans (State.raise_only ..)
  have ordered : Same [.caps, .ens] u (u.orderEn (u.act (chEnable c)) false) := by apply State.orderEn_but <;> decide
  exact .ite (absent.trans (.of_same ordered (by decide) (by decide) c)) absent

theorem State.enterSettle_only (s : State) (c : Nat) : OnlyChan c s (s.enterSettle c) := by
  unfold State.enterSettle
  extract_lets t src u v
  have settled : OnlyChan c s v := (s.setChan_only ..).trans (u.toState_only ..)
  exact .ite (settled.trans (v.toState_only ..)) settled

theorem State.recover_only (s : State) (c at_ : Nat) : OnlyChan c s (s.recover c at_) := by
  unfold State.recover
  extract_lets t src u
  have running : OnlyChan c s t := s.toState_only ..
  have noted : OnlyChan c t (t.setChan c { t.chan c with recovered := true }) := t.setChan_only ..
  have counted : Same [.regs] (t.setChan c { t.chan c with recovered := true }) u := State.setReg_but _ _ _ _ (by decide)
  exact ((running.trans noted).trans (.of_same counted (by decide) (by decide) c)).trans (u.raise_only ..)

theorem State.NoCurrent.settleBy {s : State} (h : s.NoCurrent) (c t : Nat) : OnlyChan c s (s.settleBy c t) := by
  unfold State.settleBy
  have moved : OnlyChan c s (if (s.chan c).state = .absent then s.recover c (s.settleDue c) else s.toState c .running (s.settleDue c)) :=
    .ite (s.recover_only ..) (s.toState_only ..)
  rw [(moved.noCurrent h).gateTrip]
  exact .ite moved (.refl c s)

theorem State.deadlineBy_only (s : State) (c t : Nat) : OnlyChan c s (s.deadlineBy c t) := by
  unfold State.deadlineBy
  extract_lets due
  refine .ite ?_ (.refl c s)
  split
  · exact s.goAbsent_only ..
  · exact s.goAbsent_only ..
  · exact .ite (.refl c s) (s.goAbsent_only ..)
  · exact .refl c s

theorem State.NoCurrent.timersBy {s : State} (h : s.NoCurrent) (c : Nat) : OnlyChan c s (s.timersBy c) := by
  have settled := h.settleBy c (s.ctr (clOf c))
  have late := (s.settleBy c (s.ctr (clOf c))).deadlineBy_only c (s.ctr (clOf c))
  exact (settled.trans late).trans (((settled.trans late).noCurrent h).settleBy ..)

theorem State.unmark_only (s : State) (c : Nat) : OnlyChan c s (s.unmark c) := by
  unfold State.unmark
  extract_lets x
  split
  · exact .refl c s
  · refine .ite (.refl c s) ?_
    extract_lets new t
    have unseen : Same [.caps] s t := by apply State.unseeCap_but; decide
    clear_value t
    exact (OnlyChan.of_same unseen (by decide) (by decide) c).trans ((t.setChan_only ..).trans (State.setReg_only ..))

theorem State.NoCurrent.leaves {s : State} (h : s.NoCurrent) (c : Nat) : OnlyChan c s (s.leaves c) := by
  unfold State.leaves
  extract_lets t
  have timed := h.timersBy c
  have unmarked := timed.trans ((s.timersBy c).unmark_only c)
  have warned := unmarked.trans ((unmarked.noCurrent h).warnEnd c false)
  have marked : OnlyChan c s t := warned.trans ((warned.noCurrent h).markCuts c)
  clear_value t
  exact marked.trans (t.setChan_only ..)

theorem State.NoCurrent.parkChan {s : State} (h : s.NoCurrent) (c : Nat) : OnlyChan c s (s.parkChan c) := by
  unfold State.parkChan
  extract_lets t
  have left : OnlyChan c s t := h.leaves c
  exact .ite left (left.trans (t.toState_only ..))

theorem State.armChan_only (s : State) (c : Nat) : OnlyChan c s (s.armChan c) := by
  unfold State.armChan
  extract_lets t src u v w
  have armed : OnlyChan c s v := (s.setChan_only ..).trans (u.toState_only ..)
  have asks : Same [.ports] v w := by
    simp only [w]
    split
    · apply State.askSetpoint_but; decide
    · exact .refl _ v
  have all := armed.trans (.of_same asks (by decide) (by decide) c)
  clear_value w
  exact .ite (all.trans ((w.setChan_only ..).trans (State.enterSettle_only ..))) all

theorem State.NoCurrent.resolveCut {s : State} (h : s.NoCurrent) (c lost : Nat) (byLoss : Bool) : OnlyChan c s (s.resolveCut c lost byLoss) := by
  unfold State.resolveCut
  extract_lets x p at_ trips quiet t
  have warned : OnlyChan c s t := h.warnEnd c quiet
  clear_value t
  exact .ite (.refl c s) (warned.trans ((t.setChan_only ..).trans (State.toState_only ..)))

theorem State.NoCurrent.resolveChan {s : State} (h : s.NoCurrent) (c : Nat) (k : ClusterX) : OnlyChan c s (s.resolveChan c k) := by
  unfold State.resolveChan
  extract_lets x p t late u
  have timed : OnlyChan c s u := s.setChan_only ..
  have hu := timed.noCurrent h
  clear_value u
  refine .ite (.refl c s) (.ite (h.resolveCut ..) ?_)
  split
  · have entered : OnlyChan c u ((u.setChan c { u.chan c with rampSkip := true }).enterSettle c) :=
      (u.setChan_only ..).trans (State.enterSettle_only ..)
    refine timed.trans (.ite (u.goAbsent_only ..) (.ite ?_ (.refl c u)))
    rw [(entered.noCurrent hu).gateTrip]
    exact entered
  iterate 2
    have ramp : OnlyChan c u (if x.state = .settle then u.toState c .ramp t else u) := .ite (u.toState_only ..) (.refl c u)
    have entered := ramp.trans (State.enterSettle_only (if x.state = .settle then u.toState c .ramp t else u) c)
    refine timed.trans (.ite (u.goAbsent_only ..) ?_)
    have gated : OnlyChan c u (((if x.state = .settle then u.toState c .ramp t else u).enterSettle c).gateTrip c) := by
      rw [(entered.noCurrent hu).gateTrip]
      exact entered
    exact .ite gated ramp
  · exact timed

theorem State.NoCurrent.parkBack {s : State} (h : s.NoCurrent) (c : Nat) : OnlyChan c s (s.parkBack c) := by
  unfold State.parkBack
  extract_lets x t u
  have taken : OnlyChan c s t := s.setChan_only ..
  have ht := taken.noCurrent h
  have parked : OnlyChan c t u := by
    refine .ite (.refl c t) ?_
    split
    iterate 6 exact ht.parkChan c
    · exact .refl c t
  have armed : OnlyChan c u (u.armChan c) := u.armChan_only c
  rw [((parked.trans armed).noCurrent ht).gateTrip]
  exact (taken.trans parked).trans (.ite armed (.refl c u))

end Sys2Proof.Machine

namespace Sys2Proof.Machine

/-! ### The return of a clock in its phases (R124) -/

/-- The channels of cluster n. -/
def chansIn (n : Nat) : List Nat := (List.range 64).map (fun i => 64 * n + i)

theorem mem_chansIn {n c : Nat} : c ∈ chansIn n ↔ clOf c = n := by
  unfold chansIn clOf
  simp only [List.mem_map, List.mem_range]
  exact ⟨by rintro ⟨i, hi, rfl⟩; omega, fun h => ⟨c % 64, by omega, by omega⟩⟩

theorem chansIn_nodup (n : Nat) : (chansIn n).Nodup := List.nodup_range.map (fun _ _ h => by simpa using h)

/-- The counter is reloaded, and the comparator outputs are seen again. -/
def State.clockSeen (s : State) (n : Nat) : State :=
  (s.setCluster n ((s.cluster n).reloaded s.now)).each (chansIn n) (fun s c =>
    let y := s.chan c
    let o := y.lostCmp.getD (y.upperCmp, y.lowerCmp)
    if s.kind c = 0 then s
    else s.setChan c { y with owKinds := [], gapClear := true, upperCmp := o.1, lowerCmp := o.2, lostCmp := none })

/-- After the channels are resolved: parks, orders, trims and discharge enables that waited for the clock. -/
def State.clockCaughtUp (s : State) (n : Nat) : State :=
  let s := s.each ((chansIn n).filter (fun c => (s.chan c).parkPend || (s.chan c).unparkPend)) (fun s c => s.parkBack c)
  let s := s.each ((List.range 32).map (fun i => 32 * n + i)) (fun s e => s.takeOrder e)
  let s := s.each ((List.range 512).filter (fun c => s.kind c == 1 && s.act (chTrimKind c) == 1 && s.act (chTrimId c) / 16 == n))
    (fun s c => s.trimFollow c (s.chan c).state)
  s.each (partitions.filter (fun p => match (s.part p).dischEnd with
      | some t => decide (t ≤ s.now)
      | none => false)) (fun s p => s.dischargeEnd p)

theorem State.clockBack_eq (s : State) (n : Nat) : s.clockBack n =
    ((s.clockSeen n).each (chansIn n) (fun u c => u.resolveChan c (s.cluster n))).clockCaughtUp n := by
  unfold State.clockBack
  extract_lets x mine a b c d e f
  have seen : b = s.clockSeen n := rfl
  have resolved : c = (s.clockSeen n).each (chansIn n) (fun u c => u.resolveChan c (s.cluster n)) := by
    simp only [c, seen]
    rfl
  rw [← resolved]
  clear_value c
  unfold State.clockCaughtUp
  extract_lets d' e' f'
  have parked : d = d' := rfl
  have ordered : e = e' := by
    simp only [e, parked]
    rfl
  clear_value e'
  clear_value d d'
  have steered : f = f' := by
    subst ordered
    rfl
  clear_value f f'
  subst steered
  rfl

theorem State.clockSeen_same (s : State) (n : Nat) : Same [.clusters, .chans] s (s.clockSeen n) := by
  unfold State.clockSeen
  refine Same.trans (t := s.setCluster n ((s.cluster n).reloaded s.now)) (State.setCluster_but _ _ _ _ (by decide))
    (State.each_but _ _ _ _ (fun u c _ => ?_))
  extract_lets y o
  split
  · rfl
  · exact State.setChan_but _ _ _ _ (by decide)

theorem State.clockSeen_cluster (s : State) (n : Nat) : (s.clockSeen n).cluster n = (s.cluster n).reloaded s.now := by
  unfold State.clockSeen
  rw [State.each_keeps (fun s => s.cluster n) _ _ (fun u c _ => ?_)]
  · rw [State.setCluster_get, if_pos rfl]
  · extract_lets y o
    split <;> rfl

/-- What is seen again of a channel leaves its state, its timer and a park that waits. -/
theorem State.clockSeen_chan (s : State) (n c : Nat) : ((s.clockSeen n).chan c).state = (s.chan c).state ∧
    ((s.clockSeen n).chan c).armedAt = (s.chan c).armedAt ∧ ((s.clockSeen n).chan c).parkPend = (s.chan c).parkPend := by
  have kept := State.each_keeps (fun s => ((s.chan c).state, (s.chan c).armedAt, (s.chan c).parkPend)) (fun s c =>
    let y := s.chan c
    let o := y.lostCmp.getD (y.upperCmp, y.lowerCmp)
    if s.kind c = 0 then s
    else s.setChan c { y with owKinds := [], gapClear := true, upperCmp := o.1, lowerCmp := o.2, lostCmp := none }) (chansIn n)
    (fun u d _ => by
      extract_lets y o
      split
      · rfl
      · simp only [State.setChan_get]
        split
        · subst c
          rfl
        · rfl) (s.setCluster n ((s.cluster n).reloaded s.now))
  simp only [Prod.mk.injEq, State.setCluster_get_chan] at kept
  exact kept

/-- The orders, trims and discharge enables that waited leave the channels. -/
theorem State.caughtUp_rest (t : State) (n : Nat) : Same [.caps, .ens, .entries, .trims, .parts] t
    (let s := t.each ((List.range 32).map (fun i => 32 * n + i)) (fun s e => s.takeOrder e)
     let s := s.each ((List.range 512).filter (fun c => s.kind c == 1 && s.act (chTrimKind c) == 1 && s.act (chTrimId c) / 16 == n))
       (fun s c => s.trimFollow c (s.chan c).state)
     s.each (partitions.filter (fun p => match (s.part p).dischEnd with
         | some t => decide (t ≤ s.now)
         | none => false)) (fun s p => s.dischargeEnd p)) := by
  extract_lets u v
  have ordered : Same [.caps, .ens, .entries, .trims, .parts] t u :=
    State.each_but _ _ _ _ (fun w e _ => by apply State.takeOrder_but <;> decide)
  have steered : Same [.caps, .ens, .entries, .trims, .parts] u v :=
    State.each_but _ _ _ _ (fun w c _ => by apply State.trimFollow_but <;> decide)
  exact (ordered.trans steered).trans (State.each_but _ _ _ _ (fun w p _ => by apply State.dischargeEnd_but <;> decide))

theorem State.clockCaughtUp_eq (s : State) (n : Nat) : Same [.caps, .ens, .entries, .trims, .parts]
    (s.each ((chansIn n).filter (fun c => (s.chan c).parkPend || (s.chan c).unparkPend)) (fun s c => s.parkBack c)) (s.clockCaughtUp n) :=
  State.caughtUp_rest _ n

theorem State.clockCaughtUp_outKept (s : State) (n : Nat) : OutKept s (s.clockCaughtUp n) :=
  .trans (.each (fun u c => u.parkBack_outKept c) _ s) (.of_same (s.clockCaughtUp_eq n) (by decide))

/-! ### What the return of the clock makes of a channel (R59) -/

/-- A channel is ABSENT with its settle timer begun at a tick and no park waiting. -/
def State.AbsentFrom (s : State) (c : Nat) (k : Option Nat) : Prop :=
  (s.chan c).state = .absent ∧ (s.chan c).parkPend = false ∧ ∀ t, k = some t → (s.chan c).settleAt = t

theorem State.AbsentFrom.of_chan {s t : State} {c : Nat} {k : Option Nat} (h : s.AbsentFrom c k) (hc : t.chan c = s.chan c) : t.AbsentFrom c k := by
  unfold State.AbsentFrom
  rwa [hc]

/-- A channel with no park waiting that is ABSENT stays so when relief's orders are caught up. -/
theorem State.AbsentFrom.parkBack {s : State} {c : Nat} {k : Option Nat} (h : s.AbsentFrom c k) : (s.parkBack c).AbsentFrom c k := by
  obtain ⟨absent, none', timer⟩ := h
  unfold State.parkBack
  extract_lets x t u
  have chan : t.chan c = { s.chan c with parkPend := false, unparkPend := false } := by
    change ((s.setChan c _).chan c) = _
    rw [State.setChan_get, if_pos rfl]
  have skip : u = t := if_pos (by simp [x, none'])
  rw [skip]
  have stays : t.AbsentFrom c k := by
    unfold State.AbsentFrom
    rw [chan]
    exact ⟨absent, rfl, timer⟩
  rw [if_neg]
  · exact stays
  · rw [chan]
    simp [absent]

theorem State.AbsentFrom.caughtUp {s : State} {c : Nat} {k : Option Nat} (h : s.AbsentFrom c k) (hs : s.NoCurrent) (n : Nat) :
    (s.clockCaughtUp n).AbsentFrom c k := by
  have parked : ∀ (l : List Nat) (u : State), u.NoCurrent → u.AbsentFrom c k → (u.each l (fun s c => s.parkBack c)).AbsentFrom c k := by
    intro l
    induction l with
    | nil => exact fun _ _ absent => absent
    | cons d l ih =>
      intro u hu absent
      rw [State.each_cons]
      refine ih _ ((hu.parkBack d).noCurrent hu) ?_
      by_cases hd : c = d
      · subst d
        exact absent.parkBack
      · exact absent.of_chan ((hu.parkBack d).chans c hd)
  exact (parked _ s hs h).of_chan ((s.clockCaughtUp_eq n).get_chan (by decide) c)

theorem State.goAbsent_chan (s : State) (c at_ : Nat) : ((s.goAbsent c at_).chan c).state = .absent ∧
    ((s.goAbsent c at_).chan c).parkPend = (s.chan c).parkPend := by
  unfold State.goAbsent
  extract_lets t u
  have chan : u.chan c = t.chan c := (t.raise_same ..).get_chan (by decide) c
  have absent : (t.chan c).state = .absent ∧ (t.chan c).parkPend = (s.chan c).parkPend := by
    change ((s.toState c .absent at_).chan c).state = _ ∧ ((s.toState c .absent at_).chan c).parkPend = _
    rw [State.toState_chan, if_pos rfl]
    exact ⟨rfl, rfl⟩
  have ordered : Same [.caps, .ens] u (u.orderEn (u.act (chEnable c)) false) := by apply State.orderEn_but <;> decide
  split
  · rwa [ordered.get_chan (by decide), chan]
  · rwa [chan]

/-- A channel of a partition that was not cut meanwhile: an ABSENT one begins its settle timer anew, one past its deadline is ABSENT. -/
theorem State.resolveChan_absent {s : State} {c : Nat} {k : ClusterX} (hk : s.kind c = 1) (hl : bitOf k.lostParts (s.chPart c) = false)
    (hp : (s.chan c).parkPend = false) :
    ((s.chan c).state = .absent → (s.resolveChan c k).AbsentFrom c (some (s.ctr (clOf c)))) ∧
      ((s.chan c).state = .armed ∨ (s.chan c).state = .ramp ∨ (s.chan c).state = .settle → s.deadlineDue c ≤ s.ctr (clOf c) →
        (s.resolveChan c k).AbsentFrom c none) := by
  unfold State.resolveChan
  extract_lets x p t late u
  have chan : u.chan c = { s.chan c with settleAt := t } := by
    change ((s.setChan c _).chan c) = _
    rw [State.setChan_get, if_pos rfl]
  clear_value u
  rw [if_neg (by simp [hk]), if_neg (by rw [hl]; decide)]
  refine ⟨fun absent => ?_, fun waits due => ?_⟩
  · have hx : x.state = .absent := absent
    rw [hx]
    unfold State.AbsentFrom
    rw [chan]
    exact ⟨absent, hp, fun v hv => by cases hv; rfl⟩
  · have past : late = true := decide_eq_true due
    obtain ⟨gone, pend⟩ := u.goAbsent_chan c t
    have done : (u.goAbsent c t).AbsentFrom c none := ⟨gone, by rw [pend, chan]; exact hp, fun v hv => by cases hv⟩
    have hx : x.state = .armed ∨ x.state = .ramp ∨ x.state = .settle := waits
    rcases hx with hx | hx | hx
    all_goals
      rw [hx]
      show (if late = true then _ else _ : State).AbsentFrom c none
      rw [if_pos past]
      exact done

end Sys2Proof.Machine

namespace Sys2Proof.Machine

/-! ### CLUSTER_CLOCK_BACK (R59, R124) -/

theorem exec_clusterClockBack {n : Fin 8} {s : State} (hl : (s.cluster n).clockLost = true) (hp : (s.cluster n).lostTime + 100000 ≤ s.now)
    (hs : n.val + 1 ∉ s.stalled) : exec (.clusterClockBack n) s = .next (s.clockBack n) := by
  have passed : s.passed (s.cluster n).lostTime (msTicks 1) = true := decide_eq_true hp
  have may : (s.mayReturn n && !s.stalled.contains (n.val + 1)) = true := by
    unfold State.mayReturn
    simp [hl, passed, hs]
  change execClusterClockBack n s = _
  unfold execClusterClockBack
  exact if_pos may

theorem exec_clusterClockBack_waits {n : Fin 8} {s : State}
    (h : (s.cluster n).clockLost = false ∨ s.now < (s.cluster n).lostTime + 100000 ∨ n.val + 1 ∈ s.stalled) :
    exec (.clusterClockBack n) s = .next s := by
  have waits : ¬ (s.mayReturn n && !s.stalled.contains (n.val + 1)) = true := by
    have late : s.mayReturn n = true → (s.cluster n).clockLost = true ∧ (s.cluster n).lostTime + 100000 ≤ s.now := fun may => by
      unfold State.mayReturn at may
      rw [Bool.and_eq_true] at may
      exact ⟨may.1, of_decide_eq_true may.2⟩
    rw [Bool.and_eq_true]
    rintro ⟨may, joined⟩
    obtain ⟨lost, due⟩ := late may
    rcases h with runs | early | isolated
    · rw [lost] at runs
      cases runs
    · omega
    · simp [isolated] at joined
  change execClusterClockBack n s = _
  unfold execClusterClockBack
  exact if_neg waits

/-- Before the channels are resolved the configuration is as it was, and the counter of the cluster is reloaded. -/
theorem State.clockSeen_reads (s : State) (n : Nat) : (∀ k, (s.clockSeen n).act k = s.act k) ∧
    ((s.clockSeen n).cluster n).counter = max (s.cluster n).counter s.now :=
  ⟨(s.clockSeen_same n).get_act (by decide), by rw [State.clockSeen_cluster]; rfl⟩

/-- What the resolving of other channels leaves for the one that is to come: the configuration, the counter and, with no CURRENT channel, its
record. -/
structure BeforeTurn (n c : Nat) (s t : State) : Prop where
  active : t.active = s.active
  noted : Noted [] s t
  out : OutKept s t
  chan : s.NoCurrent → t.chan c = s.chan c

theorem BeforeTurn.refl (n c : Nat) (s : State) : BeforeTurn n c s s := ⟨rfl, .refl [] s, .refl s, fun _ => rfl⟩

theorem BeforeTurn.trans {n c : Nat} {s t u : State} (h : BeforeTurn n c s t) (h' : BeforeTurn n c t u) : BeforeTurn n c s u :=
  ⟨h'.active.trans h.active, h.noted.trans h'.noted, h.out.trans h'.out, fun hs => (h'.chan (hs.of_active h.active)).trans (h.chan hs)⟩

theorem State.resolveChan_same (s : State) (c : Nat) (k : ClusterX) : Same (.clusters :: Fld.cut) s (s.resolveChan c k) := by
  apply State.resolveChan_but <;> decide

theorem State.resolveChan_beforeTurn (s : State) (n : Nat) {c d : Nat} (h : d ≠ c) (k : ClusterX) : BeforeTurn n c s (s.resolveChan d k) :=
  ⟨(s.resolveChan_same d k).active (by decide), s.resolveChan_noted d k, s.resolveChan_outKept d k,
    fun hs => (hs.resolveChan d k).chans c (Ne.symm h)⟩

/-- The turn of a channel when the clock of its cluster is back: the state at its turn, and what follows it. -/
theorem State.clockBack_turn (s : State) {n c : Nat} (hc : clOf c = n) : ∃ u, BeforeTurn n c (s.clockSeen n) u ∧
    ∃ v, BeforeTurn n c (u.resolveChan c (s.cluster n)) v ∧ s.clockBack n = v.clockCaughtUp n := by
  obtain ⟨u, before, after⟩ := State.each_at (R := BeforeTurn n c) (.refl n c) (fun _ _ _ => .trans) (chansIn_nodup n) (mem_chansIn.mpr hc)
    (f := fun u c => u.resolveChan c (s.cluster n)) (fun u d _ hd => u.resolveChan_beforeTurn n hd _) (s.clockSeen n)
  exact ⟨u, before, _, after, s.clockBack_eq n⟩

/-- A channel of a partition that was cut meanwhile is OFF or TRIPPED. -/
theorem State.clockBack_cut {s : State} {n c : Nat} (hc : clOf c = n) (hk : s.kind c = 1)
    (hl : bitOf (s.cluster n).lostParts (s.chPart c) = true) : ((s.clockBack n).chan c).out := by
  obtain ⟨u, before, v, after, back⟩ := s.clockBack_turn hc
  have act : ∀ k, u.act k = s.act k := fun k => by
    unfold State.act
    rw [before.active]
    exact (s.clockSeen_reads n).1 k
  have kind : u.kind c = 1 := (act _).trans hk
  have part : u.chPart c = s.chPart c := by
    unfold State.chPart State.kind
    simp only [act]
  have resolved : ((u.resolveChan c (s.cluster n)).chan c).out := by
    unfold State.resolveChan
    extract_lets x p t late w
    rw [if_neg (by simp [kind]), if_pos (by rw [show p = s.chPart c from part, hl])]
    exact u.resolveCut_out ..
  rw [back]
  exact (v.clockCaughtUp_outKept n).keeps c (after.out.keeps c resolved)

/-- With no CURRENT channel a channel of another partition with no park waiting is resolved by its own timers. -/
theorem State.clockBack_absent {s : State} {n c : Nat} (hs : s.NoCurrent) (hc : clOf c = n) (hk : s.kind c = 1)
    (hl : bitOf (s.cluster n).lostParts (s.chPart c) = false) (hp : (s.chan c).parkPend = false) :
    ((s.chan c).state = .absent → (s.clockBack n).AbsentFrom c (some (max (s.cluster n).counter s.now))) ∧
      ((s.chan c).state = .armed ∨ (s.chan c).state = .ramp ∨ (s.chan c).state = .settle →
        s.deadlineDue c ≤ max (s.cluster n).counter s.now → (s.clockBack n).AbsentFrom c none) := by
  obtain ⟨u, before, v, after, back⟩ := s.clockBack_turn hc
  have act : ∀ k, u.act k = s.act k := fun k => by
    unfold State.act
    rw [before.active]
    exact (s.clockSeen_reads n).1 k
  have seen : (s.clockSeen n).NoCurrent := hs.of_active ((s.clockSeen_same n).active (by decide))
  have hu : u.NoCurrent := seen.of_active before.active
  have resolvedSame := (u.resolveChan_same c (s.cluster n)).active (by decide)
  have hr : (u.resolveChan c (s.cluster n)).NoCurrent := hu.of_active resolvedSame
  have hv : v.NoCurrent := hr.of_active after.active
  have chan : u.chan c = (s.clockSeen n).chan c := before.chan seen
  obtain ⟨state, armedAt, park⟩ := s.clockSeen_chan n c
  rw [← chan] at state armedAt park
  have kind : u.kind c = 1 := (act _).trans hk
  have part : u.chPart c = s.chPart c := by
    unfold State.chPart State.kind
    simp only [act]
  have ctr : u.ctr (clOf c) = max (s.cluster n).counter s.now := by
    rw [hc]
    exact (before.noted.counter (by simp)).trans (s.clockSeen_reads n).2
  have due : u.deadlineDue c = s.deadlineDue c := by
    unfold State.deadlineDue
    rw [armedAt, act]
  obtain ⟨absent, past⟩ := State.resolveChan_absent (k := s.cluster n) kind (by rw [part]; exact hl) (park.trans hp)
  rw [ctr] at absent past
  rw [state] at absent past
  rw [due] at past
  have last : ∀ {k}, (u.resolveChan c (s.cluster n)).AbsentFrom c k → (s.clockBack n).AbsentFrom c k := fun h => by
    rw [back]
    exact (h.of_chan (after.chan hr)).caughtUp hv n
  exact ⟨fun h => last (absent h), fun h h' => last (past h h')⟩

/-- Settles O19: the shut-offs leave the other partitions, and each phase of a clock's return keeps what the one before made of a channel. -/
theorem faultLineClockLossAndClockBack : Obligations.FaultLineClockLossAndClockBack := by
  unfold Obligations.FaultLineClockLossAndClockBack
  refine ⟨⟨fun n s hd hc hr hs => trFltReceive_cuts n s hd hc hr hs, fun n s h => ⟨_, exec_trFltReceive_off h,
      State.setGroup_but _ _ _ _ (by decide), fun m hm => ?_⟩, fun n s hl => clusterClockLoss_cuts n s hl, fun n s hl => ?_⟩,
    fun n s hl hp hs => ⟨_, exec_clusterClockBack hl hp hs, ?_, ?_, ?_⟩, fun n s h => exec_clusterClockBack_waits h⟩
  · exact State.setGroup_group_ne _ _ _ _ (by simpa using hm)
  · change execClusterClockLoss n s = _
    unfold execClusterClockLoss
    exact if_pos hl
  · exact Same.mono (l := .clusters :: Fld.cut) (by apply State.clockBack_but <;> decide) (by decide)
  · exact fun m hm other => (s.clockBack_others n).cluster (by simpa using other)
  · have own := ClusterX.eq_of_unnoted (s.clockBack_cluster n)
    have counter : ((s.clockBack n).cluster n).counter = max (s.cluster n).counter s.now := by
      rw [own]
      rfl
    refine ⟨by rw [own]; rfl, counter, by rw [own]; rfl, by rw [own]; rfl, fun c hc hn hk hl => State.clockBack_cut hn hk hl,
      fun none' c hc hn hk hl hp => ?_⟩
    obtain ⟨absent, past⟩ := State.clockBack_absent none' hn hk hl hp
    rw [counter]
    refine ⟨fun h => ?_, fun h h' => (past h h').1⟩
    obtain ⟨state, -, timer⟩ := absent h
    exact ⟨state, timer _ rfl⟩

end Sys2Proof.Machine

namespace Sys2Proof.Machine

/-! ### What a channel's measurement has published and counted (R67, R95, R97) -/

/-- The registers of a channel's latest result, its stamp, rail value and extremes. -/
def resultKeys (c : Nat) : List Nat := [chsResult c, chsResultTick c, chsRailValue c, chsMinResult c, chsMaxResult c]

/-- The charge counters of a channel. -/
def chargeKeys (c : Nat) : List Nat := [clsChargePos (clOf c) (c % 64), clsChargeNeg (clOf c) (c % 64)]

/-- The latest result of a channel as its cluster holds it. -/
def ChanX.result (x : ChanX) : Nat × Nat × Int × Bool × Nat := (x.res, x.resAt, x.rail, x.stale, x.late)

/-- What the charge of a channel's next visit is added to. -/
def ChanX.charge (x : ChanX) : Bool × Nat × Nat := (x.gapClear, x.chargeRem, x.chargeRemN)

/-- The outcomes of a channel's open-wire tests. -/
def ChanX.tally (x : ChanX) : Nat × Nat × Bool := (x.owFails, x.owPasses, x.openWire)

/-- What the record of a channel says of its measurement. -/
def ChanX.measured (x : ChanX) : (Nat × Nat × Int × Bool × Nat) × (Bool × Nat × Nat) × (Nat × Nat × Bool) := (x.result, x.charge, x.tally)

/-- A part of channel c's record, and some registers, are as they were. -/
structure VisitKept {α : Type} (g : ChanX → α) (keys : List Nat) (c : Nat) (s t : State) : Prop where
  chan : g (t.chan c) = g (s.chan c)
  regs : ∀ k ∈ keys, t.reg k = s.reg k

/-- The measurement of channel c is as it was. -/
abbrev Measured (c : Nat) (s t : State) : Prop := VisitKept ChanX.measured (resultKeys c ++ chargeKeys c) c s t

section
variable {α : Type} {g : ChanX → α} {keys : List Nat} {c : Nat} {s t u : State}

theorem VisitKept.refl (g : ChanX → α) (keys : List Nat) (c : Nat) (s : State) : VisitKept g keys c s s := ⟨rfl, fun _ _ => rfl⟩

theorem VisitKept.trans (h : VisitKept g keys c s t) (h' : VisitKept g keys c t u) : VisitKept g keys c s u :=
  ⟨h'.chan.trans h.chan, fun k hk => (h'.regs k hk).trans (h.regs k hk)⟩

theorem VisitKept.of_same {l : List Fld} (h : Same l s t) (hc : Fld.chans ∉ l) (hr : Fld.regs ∉ l) : VisitKept g keys c s t :=
  ⟨by rw [h.get_chan hc], fun k _ => h.get_reg hr k⟩

theorem VisitKept.ite {p : Prop} [Decidable p] (ht : p → VisitKept g keys c s t) (hu : ¬ p → VisitKept g keys c s u) :
    VisitKept g keys c s (if p then t else u) := by
  split
  · exact ht ‹_›
  · exact hu ‹_›

theorem VisitKept.each {f : State → Nat → State} (h : ∀ u x, VisitKept g keys c u (f u x)) (xs : List Nat) (s : State) :
    VisitKept g keys c s (s.each xs f) :=
  State.each_rel (.refl g keys c) (fun _ _ _ => .trans) h xs s

theorem State.setChan_visit (s : State) {d : Nat} {x : ChanX} (h : d = c → g x = g (s.chan c)) : VisitKept g keys c s (s.setChan d x) := by
  refine ⟨?_, fun k _ => by rw [State.setChan_get_reg]⟩
  rw [State.setChan_get]
  split
  · exact h (by simp_all)
  · rfl

theorem State.setReg_visit (s : State) {k : Nat} (h : k ∉ keys) (v : Nat) : VisitKept g keys c s (s.setReg k v) :=
  ⟨by rw [State.setReg_get_chan], fun j hj => State.setReg_reg_ne _ _ _ _ (fun e => h (e ▸ hj))⟩

theorem State.raise_visit (s : State) (h : evEventsLost ∉ keys) (d k p : Nat) (cl : Bool) (x : Bytes) : VisitKept g keys c s (s.raise d k p cl x) :=
  ⟨by rw [(s.raise_same d k p cl x).get_chan (by decide)], fun j hj => State.raise_reg_ne _ _ _ _ _ _ _ (fun e => h (e ▸ hj))⟩

end

theorem Measured.result {c : Nat} {s t : State} (h : Measured c s t) : VisitKept ChanX.result (resultKeys c) c s t :=
  ⟨congrArg Prod.fst h.chan, fun k hk => h.regs k (List.mem_append_left _ hk)⟩

theorem Measured.charge {c : Nat} {s t : State} (h : Measured c s t) : VisitKept ChanX.charge (chargeKeys c) c s t :=
  ⟨congrArg (fun x => x.2.1) h.chan, fun k hk => h.regs k (List.mem_append_right _ hk)⟩

theorem Measured.tally {c : Nat} {s t : State} (h : Measured c s t) : VisitKept ChanX.tally [] c s t :=
  ⟨congrArg (fun x => x.2.2) h.chan, fun _ hk => nomatch hk⟩

/-- A register of another object than the status of channels and of clusters is none of a measurement. -/
theorem rk_notMeasured {b : Nat} (h : b ≠ 0x2400) (h' : b ≠ 0x2600) (c u x : Nat) : rk b u x ∉ resultKeys c ++ chargeKeys c := by
  simp [resultKeys, chargeKeys, h, h']

/-- Of the status of channels, a result has the registers 3 to 5, 7 and 8. -/
theorem rk_notResult {x : Nat} (h : x % 256 ∉ [3, 4, 5, 7, 8]) (c u : Nat) : rk 0x2400 u x ∉ resultKeys c ++ chargeKeys c := by
  simp only [List.mem_cons, List.not_mem_nil, or_false, not_or] at h
  obtain ⟨h3, h4, h5, h7, h8⟩ := h
  simp [resultKeys, chargeKeys, h3, h4, h5, h7, h8]

/-- Of the status of clusters, the charges have the registers from 0x40 on. -/
theorem rk_notCharge {x : Nat} (h : x < 0x40) (c u : Nat) : rk 0x2600 u x ∉ resultKeys c ++ chargeKeys c := by
  simp [resultKeys, chargeKeys]
  omega

theorem State.raise_measured (s : State) (c d k p : Nat) (cl : Bool) (x : Bytes) : Measured c s (s.raise d k p cl x) :=
  s.raise_visit (rk_notMeasured (by decide) (by decide) _ _ _) ..

theorem State.setPart_measured (s : State) (c p : Nat) (x : PartX) : Measured c s (s.setPart p x) :=
  .of_same (l := [.parts]) (State.setPart_but _ _ _ _ (by decide)) (by decide) (by decide)

theorem State.setCluster_measured (s : State) (c n : Nat) (x : ClusterX) : Measured c s (s.setCluster n x) :=
  .of_same (l := [.clusters]) (State.setCluster_but _ _ _ _ (by decide)) (by decide) (by decide)

/-- An update of a channel's record that says the same of its measurement. -/
theorem State.setChan_measured (s : State) (c : Nat) {d : Nat} {x : ChanX} (h : x.measured = (s.chan d).measured) : Measured c s (s.setChan d x) :=
  s.setChan_visit (fun e => by rw [h, e])

/-! ### Which operations on a channel leave its measurement -/

theorem State.toState_measured (s : State) (c d : Nat) (st : ChanState) (at_ : Nat) : Measured c s (s.toState d st at_) := by
  unfold State.toState
  extract_lets x a b e
  have set : Measured c s a := s.setChan_measured c rfl
  have stamped : Measured c a (a.setReg (chsStateSince d) at_) := a.setReg_visit (rk_notResult (by decide) _ _) _
  have noted : Measured c (a.setReg (chsStateSince d) at_) b := .of_same (l := [.caps]) (by apply State.noteCap_but; decide) (by decide) (by decide)
  have counted : Measured c b e := by
    simp only [e]
    split
    · exact (b.setReg_visit (rk_notResult (by decide) _ _) _).trans (State.setReg_visit _ (rk_notResult (by decide) _ _) _)
    · exact b.setReg_visit (rk_notResult (by decide) _ _) _
    · exact .refl _ _ c b
  exact ((set.trans (stamped.trans noted)).trans counted).trans
    (.of_same (l := [.entries, .trims]) (by apply State.trimFollow_but <;> decide) (by decide) (by decide))

theorem State.warnClear_measured (s : State) (c d : Nat) (quiet : Bool) : Measured c s (s.warnClear d quiet) := by
  unfold State.warnClear
  extract_lets x t u
  have cleared : Measured c s t := s.setChan_measured c rfl
  have upper : Measured c t u := .ite (fun _ => t.raise_measured ..) (fun _ => .refl _ _ c t)
  exact (cleared.trans upper).trans (.ite (fun _ => u.raise_measured ..) (fun _ => .refl _ _ c u))

theorem State.warnEnd_measured (s : State) (c d : Nat) (quiet : Bool) : Measured c s (s.warnEnd d quiet) :=
  .ite (fun _ => .refl _ _ c s) (fun _ => .each (fun u e => u.warnClear_measured c e quiet) _ s)

theorem State.warnEvent_measured (s : State) (c d side : Nat) (e : Option Bool) : Measured c s (s.warnEvent d side e) := by
  unfold State.warnEvent
  split
  · exact .refl _ _ c s
  · exact s.raise_measured ..

theorem State.warnEvaluate_measured (s : State) (c d r : Nat) : Measured c s (s.warnEvaluate d r) := by
  unfold State.warnEvaluate
  refine .ite (fun _ => .refl _ _ c s) (fun _ => ?_)
  extract_lets n hyst u l above below x
  dsimp only
  generalize ht : s.setChan d _ = t
  have set : Measured c s t := by
    rw [← ht]
    exact s.setChan_measured c rfl
  exact (set.trans (t.warnEvent_measured ..)).trans (State.warnEvent_measured ..)

theorem State.rampDetect_measured (s : State) (c d r : Nat) : Measured c s (s.rampDetect d r) := by
  unfold State.rampDetect
  exact .ite (fun _ => s.toState_measured ..) (fun _ => .refl _ _ c s)

theorem State.settleCount_measured (s : State) (c d r : Nat) : Measured c s (s.settleCount d r) := by
  unfold State.settleCount
  extract_lets x
  have counted : ∀ n, Measured c s (s.setChan d { x with settled := n }) := fun n => s.setChan_measured c rfl
  exact .ite (fun _ => counted _) (fun _ => .refl _ _ c s)

theorem State.benchWatch_measured (s : State) (c d r : Nat) : Measured c s (s.benchWatch d r) :=
  .of_same (l := [.parts]) (by apply State.benchWatch_but; decide) (by decide) (by decide)

theorem State.setTrim_measured (s : State) (c t : Nat) (x : TrimX) : Measured c s (s.setTrim t x) :=
  .of_same (l := [.trims]) (State.setTrim_but _ _ _ _ (by decide)) (by decide) (by decide)

theorem State.currentLoop_measured (s : State) (c d mid : Nat) : Measured c s (s.currentLoop d mid) := by
  unfold State.currentLoop
  dsimp only
  have told : ∀ v w, Measured c s ((s.setReg (drvsId d) v).setReg (drvsIq d) w) := fun v w =>
    (s.setReg_visit (rk_notMeasured (by decide) (by decide) _ _ _) v).trans (State.setReg_visit _ (rk_notMeasured (by decide) (by decide) _ _ _) w)
  have driven : ∀ (u : State) x, Measured c u (u.setDrive d x) := fun u x =>
    .of_same (l := [.drives]) (State.setDrive_but _ _ _ _ (by decide)) (by decide) (by decide)
  exact .ite (fun _ => (told ..).trans (driven ..)) (fun _ => (told ..).trans (driven ..))

theorem State.phasePublished_measured (s : State) (c d mid : Nat) : Measured c s (s.phasePublished d mid) := by
  refine .each (fun u k => ?_) _ s
  have fresh : ∀ x, Measured c u (u.setDrive k x) := fun x =>
    .of_same (l := [.drives]) (State.setDrive_but _ _ _ _ (by decide)) (by decide) (by decide)
  exact .ite (fun _ => (fresh _).trans (State.currentLoop_measured ..)) (fun _ => fresh _)

theorem State.trimUpdate_measured (s : State) (c d : Nat) (rail : Int) : Measured c s (s.trimUpdate d rail) := by
  unfold State.trimUpdate
  extract_lets x t e lo hi y slew m code
  have set : ∀ z, Measured c s (s.setTrim t z) := fun z => s.setTrim_measured c t z
  have saturated : ∀ z k p cl b, Measured c s (((s.setTrim t z).bump16 (trmSatCount t)).raise k 0x29 p cl b) := fun z k p cl b =>
    ((set z).trans (State.setReg_visit _ (rk_notMeasured (by decide) (by decide) _ _ _) _)).trans (State.raise_measured ..)
  clear_value x t e lo hi y slew m code
  refine .ite (fun _ => .refl _ _ c s) (fun _ => .ite (fun _ => set _) (fun _ => .ite (fun _ => ?_) (fun _ => set _)))
  exact .ite (fun _ => set _) (fun _ => saturated ..)

theorem State.marginOn_measured (s : State) (c d v : Nat) (static : Bool) : Measured c s (s.marginOn d v static) := by
  unfold State.marginOn
  extract_lets x y t src u
  have waits : Measured c s (s.setChan d { y with marginPend := some v }) := s.setChan_measured c rfl
  have noted : Measured c s (s.setChan d y) := s.setChan_measured c rfl
  have ended : Measured c (s.setChan d y) t := State.warnEnd_measured ..
  clear_value t
  have set : Measured c t u := t.setChan_measured c rfl
  refine .ite (fun _ => waits) (fun _ => ?_)
  exact .ite (fun _ => (noted.trans ended).trans set) (fun _ => ((noted.trans ended).trans set).trans (u.toState_measured ..))

theorem State.marginAfter_measured (s : State) (c d : Nat) : Measured c s (s.marginAfter d) := by
  unfold State.marginAfter
  have dropped : Measured c s (s.setChan d { s.chan d with marginPend := none }) := s.setChan_measured c rfl
  have ended : Measured c s (s.setChan d { s.chan d with marginPend := none, staticMgn := false }) := s.setChan_measured c rfl
  split
  · exact .refl _ _ c s
  · exact .ite (fun _ => dropped.trans (State.marginOn_measured ..)) (fun _ => ended)

theorem State.owSkip_measured (s : State) (c d : Nat) : Measured c s (s.owSkip d) := by
  unfold State.owSkip
  have dropped : Measured c s (s.setChan d { s.chan d with owKinds := [] }) := s.setChan_measured c rfl
  exact .ite (fun _ => .refl _ _ c s) (fun _ => dropped.trans (State.marginAfter_measured ..))

end Sys2Proof.Machine

namespace Sys2Proof.Machine

/-! ### Publishing a result (R67) -/

/-- A result is kept for the other planes and published in the tables: the first phase of `State.publish`. -/
def State.resultNoted (s : State) (c : Nat) (w : Window) (r : Nat) (test : Bool) : State :=
  let stamp := s.ctr (clOf c)
  let rail := w.rail r
  let s := s.tableTake c r rail stamp
  let s := s.noteCap (fun src d lvl => d == c && ((src == 4 && decide (lvl ≤ r)) || (src == 5 && decide (r ≤ lvl)))) stamp
  let x := s.chan c
  s.setChan c { x with res := r, rail := rail, hasResult := true, stale := false, resAt := stamp, late := 0,
                       loopRail := if test then x.loopRail else rail, loopRes := if test then x.loopRes else r,
                       prevRes := if x.hasResult then some (x.res, x.resAt) else none }

/-- What a result drives: the second phase of `State.publish`. -/
def State.resultUsed (s : State) (c : Nat) (w : Window) (r : Nat) (test : Bool) : State :=
  let s := (s.rampDetect c r).warnEvaluate c r
  let s := (s.settleCount c r).benchWatch c r
  if test then s else (s.trimUpdate c (w.rail r)).phasePublished c (s.now - w.ps / 20000)

theorem State.publish_eq (s : State) (c : Nat) (w : Window) (r : Nat) (test : Bool) :
    s.publish c w r test = (s.resultNoted c w r test).resultUsed c w r test := rfl

theorem State.resultUsed_measured (s : State) (c : Nat) (w : Window) (r : Nat) (test : Bool) : Measured c s (s.resultUsed c w r test) := by
  unfold State.resultUsed
  extract_lets t u
  have warned : Measured c s t := (s.rampDetect_measured ..).trans (State.warnEvaluate_measured ..)
  have watched : Measured c t u := (t.settleCount_measured ..).trans (State.benchWatch_measured ..)
  clear_value t u
  exact .ite (fun _ => warned.trans watched)
    (fun _ => (warned.trans watched).trans ((u.trimUpdate_measured ..).trans (State.phasePublished_measured ..)))

/-- A sample enters registers of the stream's status, and EVENTS_LOST. -/
theorem State.samplePut_visit (s : State) {keys : List Nat} (h : ∀ k ∈ keys, ∀ d x, k ≠ rk 0x58C0 d x ∧ k ≠ evEventsLost) (c k head value stamp : Nat) :
    VisitKept (fun x => x) keys c s (s.samplePut k head value stamp) := by
  have stream : ∀ x, VisitKept (fun x => x) keys c s (s.setStream k x) := fun x =>
    .of_same (l := [.streams]) (State.setStream_but _ _ _ _ (by decide)) (by decide) (by decide)
  have status : ∀ (t : State) x v, VisitKept (fun x => x) keys c t (t.setReg (rk 0x58C0 k x) v) := fun t x v =>
    t.setReg_visit (fun hk => (h _ hk k x).1 rfl) v
  unfold State.samplePut
  extract_lets x recs y t
  have lost : VisitKept (fun x => x) keys c s t := (stream _).trans (status ..)
  refine .ite (fun _ => ((stream _).trans (status ..)).trans (status ..)) (fun _ => ?_)
  exact .ite (fun _ => lost) (fun _ => lost.trans (t.raise_visit (fun hk => (h _ hk 0 0).2 rfl) ..))

theorem State.streamsTake_visit (s : State) {keys : List Nat} (h : ∀ k ∈ keys, ∀ d x, k ≠ rk 0x58C0 d x ∧ k ≠ evEventsLost)
    (c d r stamp : Nat) (stale : Bool) : VisitKept (fun x => x) keys c s (s.streamsTake d r stamp stale) := by
  refine .each (fun u k => ?_) _ s
  have stream : ∀ x, VisitKept (fun x => x) keys c u (u.setStream k x) := fun x =>
    .of_same (l := [.streams]) (State.setStream_but _ _ _ _ (by decide)) (by decide) (by decide)
  unfold State.streamResult
  dsimp only
  refine .ite (fun _ => stream _) (fun _ => .ite (fun _ => stream _) (fun _ => ?_))
  exact (stream _).trans (State.samplePut_visit _ h ..)

/-- The registers of a measurement are none of a stream's, and not EVENTS_LOST. -/
theorem visitKeys_apart (c k : Nat) (hk : k ∈ resultKeys c ++ chargeKeys c) (d x : Nat) : k ≠ rk 0x58C0 d x ∧ k ≠ evEventsLost := by
  constructor <;> rintro rfl
  · exact rk_notMeasured (by decide) (by decide) _ _ _ hk
  · exact rk_notMeasured (by decide) (by decide) _ _ _ hk

end Sys2Proof.Machine

namespace Sys2Proof.Machine

/-- A channel's part of the status table as a result fills it. -/
structure Tabled (c r stamp : Nat) (rail : Int) (s t : State) : Prop where
  result : t.reg (chsResult c) = r
  stamp : t.reg (chsResultTick c) = stamp
  rail : t.reg (chsRailValue c) = ofSigned 32 rail
  least : t.reg (chsMinResult c) = min (s.reg (chsMinResult c)) r
  most : t.reg (chsMaxResult c) = max (s.reg (chsMaxResult c)) r

/-- What leaves the registers of the result leaves the table as it was filled. -/
theorem Tabled.trans {c r stamp : Nat} {rail : Int} {s t u : State} (h : Tabled c r stamp rail s t) {α : Type} {g : ChanX → α}
    (h' : VisitKept g (resultKeys c) c t u) : Tabled c r stamp rail s u where
  result := (h'.regs _ (by simp [resultKeys])).trans h.result
  stamp := (h'.regs _ (by simp [resultKeys])).trans h.stamp
  rail := (h'.regs _ (by simp [resultKeys])).trans h.rail
  least := (h'.regs _ (by simp [resultKeys])).trans h.least
  most := (h'.regs _ (by simp [resultKeys])).trans h.most

theorem State.tableTake_tabled (s : State) (c r stamp : Nat) (rail : Int) (h : 11 ∉ s.islandBad) : Tabled c r stamp rail s (s.tableTake c r rail stamp) := by
  unfold State.tableTake
  rw [if_neg (by simpa using h)]
  extract_lets stale a b d e
  have filled : Tabled c r stamp rail s e := by
    constructor <;> simp [a, b, d, e]
  clear_value e
  exact filled.trans (e.streamsTake_visit (fun k hk => visitKeys_apart c k (List.mem_append_left _ hk)) c c r stamp stale)

/-- The table keeps the charges, and the record of every channel. -/
theorem State.tableTake_charges (s : State) (c r stamp : Nat) (rail : Int) : VisitKept (fun x => x) (chargeKeys c) c s (s.tableTake c r rail stamp) := by
  unfold State.tableTake
  refine .ite (fun _ => .refl _ _ c s) (fun _ => ?_)
  have status : ∀ (t : State) x v, VisitKept (fun x => x) (chargeKeys c) c t (t.setReg (rk 0x2400 c x) v) := fun t x v =>
    t.setReg_visit (by simp [chargeKeys]) v
  extract_lets stale a b d e
  have stamped : VisitKept (fun x => x) (chargeKeys c) c s a := (status s 3 r).trans (status _ 4 stamp)
  have railed : VisitKept (fun x => x) (chargeKeys c) c a b := status ..
  have least : VisitKept (fun x => x) (chargeKeys c) c b d := status ..
  have most : VisitKept (fun x => x) (chargeKeys c) c d e := status ..
  clear_value a b d e
  exact (((stamped.trans railed).trans least).trans most).trans
    (State.streamsTake_visit _ (fun k hk => visitKeys_apart c k (List.mem_append_right _ hk)) ..)

/-! ### The record of a channel whose result is noted -/

section
variable (s : State) (c : Nat) (w : Window) (r : Nat) (test : Bool)

theorem State.resultNoted_tabled (h : 11 ∉ s.islandBad) : Tabled c r (s.ctr (clOf c)) (w.rail r) s (s.resultNoted c w r test) := by
  unfold State.resultNoted
  extract_lets stamp rail t u x
  have tabled : Tabled c r stamp rail s t := s.tableTake_tabled c r stamp rail h
  have noted : VisitKept ChanX.charge (resultKeys c) c t u := .of_same (l := [.caps]) (by apply State.noteCap_but; decide) (by decide) (by decide)
  clear_value u
  exact (tabled.trans noted).trans (u.setChan_visit (g := ChanX.charge) (fun _ => rfl))

theorem State.resultNoted_charge : VisitKept ChanX.charge (chargeKeys c) c s (s.resultNoted c w r test) := by
  unfold State.resultNoted
  extract_lets stamp rail t u x
  have tabled := s.tableTake_charges c r stamp rail
  have noted : VisitKept ChanX.charge (chargeKeys c) c t u := .of_same (l := [.caps]) (by apply State.noteCap_but; decide) (by decide) (by decide)
  have kept : VisitKept ChanX.charge (chargeKeys c) c s t := ⟨congrArg ChanX.charge tabled.chan, tabled.regs⟩
  clear_value t u
  exact (kept.trans noted).trans (u.setChan_visit (fun _ => rfl))

theorem State.resultNoted_tally : VisitKept ChanX.tally [] c s (s.resultNoted c w r test) := by
  unfold State.resultNoted
  extract_lets stamp rail t u x
  have tabled := s.tableTake_charges c r stamp rail
  have noted : VisitKept ChanX.tally [] c t u := .of_same (l := [.caps]) (by apply State.noteCap_but; decide) (by decide) (by decide)
  have kept : VisitKept ChanX.tally [] c s t := ⟨congrArg ChanX.tally tabled.chan, fun _ hk => nomatch hk⟩
  clear_value t u
  exact (kept.trans noted).trans (u.setChan_visit (fun _ => rfl))

theorem State.resultNoted_result : ((s.resultNoted c w r test).chan c).result = (r, s.ctr (clOf c), w.rail r, false, 0) := by
  unfold State.resultNoted
  extract_lets stamp rail t u x
  rw [State.setChan_get, if_pos rfl]
  rfl

theorem State.publish_result : ((s.publish c w r test).chan c).result = (r, s.ctr (clOf c), w.rail r, false, 0) := by
  rw [State.publish_eq]
  exact (State.resultUsed_measured ..).result.chan.trans (s.resultNoted_result c w r test)

theorem State.publish_tabled (h : 11 ∉ s.islandBad) : Tabled c r (s.ctr (clOf c)) (w.rail r) s (s.publish c w r test) := by
  rw [State.publish_eq]
  exact (s.resultNoted_tabled c w r test h).trans (State.resultUsed_measured ..).result

theorem State.publish_charge : VisitKept ChanX.charge (chargeKeys c) c s (s.publish c w r test) := by
  rw [State.publish_eq]
  exact (s.resultNoted_charge c w r test).trans (State.resultUsed_measured ..).charge

theorem State.publish_tally : VisitKept ChanX.tally [] c s (s.publish c w r test) := by
  rw [State.publish_eq]
  exact (s.resultNoted_tally c w r test).trans (State.resultUsed_measured ..).tally

end

/-! ### The charge of a visit (R97) -/

/-- The charge q entered the counter of its sign without loss, the remainder carried, modulo 2^64 nC. -/
structure Charged (c : Nat) (q : Int) (s t : State) : Prop where
  pos : 0 ≤ q → t.reg (clsChargeNeg (clOf c) (c % 64)) = s.reg (clsChargeNeg (clOf c) (c % 64)) ∧
    ∃ w, (t.reg (clsChargePos (clOf c) (c % 64)) + 18446744073709551616 * w) * unitCharge + (t.chan c).chargeRem =
      s.reg (clsChargePos (clOf c) (c % 64)) * unitCharge + (s.chan c).chargeRem + q.natAbs
  neg : q < 0 → t.reg (clsChargePos (clOf c) (c % 64)) = s.reg (clsChargePos (clOf c) (c % 64)) ∧
    ∃ w, (t.reg (clsChargeNeg (clOf c) (c % 64)) + 18446744073709551616 * w) * unitCharge + (t.chan c).chargeRemN =
      s.reg (clsChargeNeg (clOf c) (c % 64)) * unitCharge + (s.chan c).chargeRemN + q.natAbs

theorem ChanX.charge_eq_iff (x y : ChanX) : x.charge = y.charge ↔ x.gapClear = y.gapClear ∧ x.chargeRem = y.chargeRem ∧ x.chargeRemN = y.chargeRemN := by
  simp [ChanX.charge]

/-- Only the counters and the remainders matter to what a charge has entered. -/
theorem Charged.of_kept {c : Nat} {q : Int} {s s' t t' : State} (h : Charged c q s' t)
    (hs : (s'.chan c).chargeRem = (s.chan c).chargeRem ∧ (s'.chan c).chargeRemN = (s.chan c).chargeRemN ∧ ∀ k ∈ chargeKeys c, s'.reg k = s.reg k)
    (ht : VisitKept ChanX.charge (chargeKeys c) c t t') : Charged c q s t' := by
  obtain ⟨rem, remN, regs⟩ := hs
  obtain ⟨-, rem', remN'⟩ := (ChanX.charge_eq_iff ..).mp ht.chan
  have posKey : clsChargePos (clOf c) (c % 64) ∈ chargeKeys c := List.mem_cons_self ..
  have negKey : clsChargeNeg (clOf c) (c % 64) ∈ chargeKeys c := List.mem_cons_of_mem _ (List.mem_cons_self ..)
  have pos := h.pos
  have neg := h.neg
  rw [← ht.regs _ posKey, ← ht.regs _ negKey, regs _ posKey, regs _ negKey, ← rem', rem] at pos
  rw [← ht.regs _ posKey, ← ht.regs _ negKey, regs _ posKey, regs _ negKey, ← remN', remN] at neg
  exact ⟨pos, neg⟩

/-- A quotient and a remainder carry what was divided. -/
theorem carried (a r u m : Nat) : ∃ w, ((a + r / u) % m + m * w) * u + r % u = a * u + r := by
  refine ⟨(a + r / u) / m, ?_⟩
  rw [Nat.mod_add_div, Nat.add_mul, Nat.add_assoc, Nat.mul_comm (r / u), Nat.div_add_mod]

theorem State.addCharge_charged (s : State) (c : Nat) (q : Int) : Charged c q s (s.addCharge c q) := by
  have apart : clsChargeNeg (clOf c) (c % 64) ≠ clsChargePos (clOf c) (c % 64) := by
    simp
    omega
  constructor <;> intro sign <;> unfold State.addCharge
  · simp only [if_pos sign]
    refine ⟨by rw [State.setReg_reg_ne _ _ _ _ apart, State.setChan_get_reg], ?_⟩
    obtain ⟨w, hw⟩ := carried (s.reg (clsChargePos (clOf c) (c % 64))) ((s.chan c).chargeRem + q.natAbs) unitCharge 18446744073709551616
    refine ⟨w, ?_⟩
    rw [State.setReg_reg_same, State.setReg_get_chan, State.setChan_get, if_pos rfl, State.setChan_get_reg, Nat.add_assoc]
    exact hw
  · have sign' : ¬ 0 ≤ q := by omega
    simp only [if_neg sign']
    refine ⟨by rw [State.setReg_reg_ne _ _ _ _ apart.symm, State.setChan_get_reg], ?_⟩
    obtain ⟨w, hw⟩ := carried (s.reg (clsChargeNeg (clOf c) (c % 64))) ((s.chan c).chargeRemN + q.natAbs) unitCharge 18446744073709551616
    refine ⟨w, ?_⟩
    rw [State.setReg_reg_same, State.setReg_get_chan, State.setChan_get, if_pos rfl, State.setChan_get_reg, Nat.add_assoc]
    exact hw

end Sys2Proof.Machine

namespace Sys2Proof.Machine

/-! ### The visit of a CURRENT channel (R97 to R99, R220) -/

/-- A charge leaves the result of its channel. -/
theorem State.addCharge_result (s : State) (c : Nat) (q : Int) : VisitKept ChanX.result (resultKeys c) c s (s.addCharge c q) := by
  unfold State.addCharge
  extract_lets n x k r t
  have added : VisitKept ChanX.result (resultKeys c) c s t := s.setChan_visit (fun _ => by split <;> rfl)
  clear_value t
  refine added.trans (t.setReg_visit ?_ _)
  simp only [k]
  split <;> simp [resultKeys]

/-- A charge leaves the outcomes of the tests of its channel. -/
theorem State.addCharge_tally (s : State) (c : Nat) (q : Int) : VisitKept ChanX.tally [] c s (s.addCharge c q) := by
  unfold State.addCharge
  extract_lets n x k r t
  have added : VisitKept ChanX.tally [] c s t := s.setChan_visit (fun _ => by split <;> rfl)
  clear_value t
  exact added.trans (t.setReg_visit (by simp) _)

theorem State.addEnergy_measured (s : State) (c : Nat) (e : Int) : Measured c s (s.addEnergy c e) := by
  unfold State.addEnergy
  extract_lets p x r t y m
  have added : Measured c s t := s.setChan_measured c (by split <;> rfl)
  clear_value t
  exact added.trans (t.setPart_measured ..)

/-- The gap integral of a visit is taken up: the first phase of `State.visitCounts` (R98). -/
def State.gapTaken (s : State) (c : Nat) (gap : Int) : State :=
  s.setChan c { s.chan c with gapClear := false, gapSat := !(s.chan c).gapClear && (decide (gapMax < gap) || decide (gap < -gapMax)) }

/-- The charge of a visit under a window (R97, R98). -/
def State.visitCharge (s : State) (c : Nat) (w : Window) (mean gap : Int) : Int :=
  w.charge mean (if (s.chan c).gapClear then 0 else clampInt (-gapMax) gapMax gap)

/-- The visit of a CURRENT channel takes the gap, adds the charge, and then leaves the measurement as it is. -/
theorem State.visitCounts_charged (s : State) (c : Nat) (w : Window) (mean gap : Int) (h : w.kind = 2) :
    Measured c ((s.gapTaken c gap).addCharge c (s.visitCharge c w mean gap)) (s.visitCounts c w mean gap) := by
  unfold State.visitCounts
  rw [if_neg (by simpa using h)]
  extract_lets x sat g q t u e
  change Measured c u _
  have flagged : Measured c u e := .ite (fun _ => by
    unfold State.gapFlag
    exact u.setPart_measured ..) (fun _ => .refl _ _ c u)
  clear_value e u
  exact .ite (fun _ => flagged.trans (e.addEnergy_measured ..)) (fun _ => .refl _ _ c u)

theorem State.gapTaken_result (s : State) (c : Nat) (gap : Int) : VisitKept ChanX.result (resultKeys c) c s (s.gapTaken c gap) :=
  s.setChan_visit (fun _ => rfl)

theorem State.gapTaken_tally (s : State) (c : Nat) (gap : Int) : VisitKept ChanX.tally [] c s (s.gapTaken c gap) :=
  s.setChan_visit (fun _ => rfl)

theorem State.visitCounts_other (s : State) (c : Nat) (w : Window) (mean gap : Int) (h : w.kind ≠ 2) : s.visitCounts c w mean gap = s := by
  unfold State.visitCounts
  exact if_pos h

theorem State.visitCounts_result (s : State) (c : Nat) (w : Window) (mean gap : Int) :
    VisitKept ChanX.result (resultKeys c) c s (s.visitCounts c w mean gap) := by
  by_cases h : w.kind = 2
  · exact ((s.gapTaken_result c gap).trans (State.addCharge_result ..)).trans (s.visitCounts_charged c w mean gap h).result
  · rw [s.visitCounts_other c w mean gap h]
    exact .refl _ _ c s

theorem State.visitCounts_tally (s : State) (c : Nat) (w : Window) (mean gap : Int) :
    VisitKept ChanX.tally [] c s (s.visitCounts c w mean gap) := by
  by_cases h : w.kind = 2
  · exact ((s.gapTaken_tally c gap).trans (State.addCharge_tally ..)).trans (s.visitCounts_charged c w mean gap h).tally
  · rw [s.visitCounts_other c w mean gap h]
    exact .refl _ _ c s

/-- The charge of a visit, of a channel whose gap integrator and counters are as they were in s, enters its counter. -/
theorem State.visitCounts_enters (s t : State) (c : Nat) (w : Window) (mean gap : Int) (h : w.kind = 2) (kept : VisitKept ChanX.charge (chargeKeys c) c s t) :
    Charged c (s.visitCharge c w mean gap) s (t.visitCounts c w mean gap) := by
  obtain ⟨clear, rem, remN⟩ := (ChanX.charge_eq_iff ..).mp kept.chan
  have charge : t.visitCharge c w mean gap = s.visitCharge c w mean gap := by
    unfold State.visitCharge
    rw [clear]
  have entered := t.visitCounts_charged c w mean gap h
  rw [charge] at entered
  refine ((t.gapTaken c gap).addCharge_charged c (s.visitCharge c w mean gap)).of_kept ⟨?_, ?_, fun k hk => ?_⟩ entered.charge
  · rw [← rem]
    unfold State.gapTaken
    rw [State.setChan_get, if_pos rfl]
  · rw [← remN]
    unfold State.gapTaken
    rw [State.setChan_get, if_pos rfl]
  · rw [← kept.regs k hk]
    unfold State.gapTaken
    rw [State.setChan_get_reg]

end Sys2Proof.Machine

namespace Sys2Proof.Machine

/-! ### The rounds of the groups (R65, R94) -/

/-- The configuration in force, the rounds of every group and the counters of the clusters are as they were. -/
structure RoundsKept (s t : State) : Prop where
  active : t.active = s.active
  rounds : ∀ n, (t.cluster n).rounds = (s.cluster n).rounds
  counter : ∀ n, (t.cluster n).counter = (s.cluster n).counter

theorem RoundsKept.refl (s : State) : RoundsKept s s := ⟨rfl, fun _ => rfl, fun _ => rfl⟩

theorem RoundsKept.trans {s t u : State} (h : RoundsKept s t) (h' : RoundsKept t u) : RoundsKept s u :=
  ⟨h'.active.trans h.active, fun n => (h'.rounds n).trans (h.rounds n), fun n => (h'.counter n).trans (h.counter n)⟩

theorem RoundsKept.of_same {l : List Fld} {s t : State} (h : Same l s t) (hc : Fld.clusters ∉ l) (ha : Fld.active ∉ l) : RoundsKept s t :=
  ⟨h.active ha, fun n => by rw [h.get_cluster hc], fun n => by rw [h.get_cluster hc]⟩

theorem RoundsKept.ite {p : Prop} [Decidable p] {s t u : State} (ht : RoundsKept s t) (hu : RoundsKept s u) : RoundsKept s (if p then t else u) := by
  split
  · exact ht
  · exact hu

theorem State.setCluster_rounds (s : State) {n : Nat} {x : ClusterX} (hr : x.rounds = (s.cluster n).rounds) (hc : x.counter = (s.cluster n).counter) :
    RoundsKept s (s.setCluster n x) := by
  refine ⟨rfl, fun m => ?_, fun m => ?_⟩ <;> rw [State.setCluster_get] <;> split <;> simp_all

section
variable {s t : State} (h : RoundsKept s t)
include h

theorem RoundsKept.ctr (n : Nat) : t.ctr n = s.ctr n := h.counter n

theorem RoundsKept.round (n g : Nat) : t.round n g = s.round n g := by
  unfold State.round
  rw [h.rounds]

theorem RoundsKept.boundIn (n g : Nat) : t.boundIn n g = s.boundIn n g := by
  unfold State.boundIn State.kind State.act
  rw [h.active]

end

/-! ### The comparison of the tour leaves the rounds (R85, R86) -/

theorem State.setReg_rounds (s : State) (k v : Nat) : RoundsKept s (s.setReg k v) :=
  .of_same (l := [.regs]) (State.setReg_but _ _ _ _ (by decide)) (by decide) (by decide)

theorem State.raise_rounds (s : State) (d k p : Nat) (cl : Bool) (x : Bytes) : RoundsKept s (s.raise d k p cl x) :=
  .of_same (s.raise_same ..) (by decide) (by decide)

theorem State.tourClose_rounds (s : State) (n : Nat) : RoundsKept s (s.tourClose n) := by
  unfold State.tourClose
  have closed : RoundsKept s (s.setCluster n { s.cluster n with tourDone := true }) := s.setCluster_rounds rfl rfl
  exact .ite (closed.trans (State.setReg_rounds ..)) (.refl s)

theorem State.tourMark_rounds (s : State) (c : Nat) : RoundsKept s (s.tourMark c) := by
  unfold State.tourMark
  extract_lets n src
  have marked : RoundsKept s (s.setCluster n { src with toured := src.toured ||| 2 ^ (c % 64) }) := s.setCluster_rounds rfl rfl
  exact marked.trans (State.tourClose_rounds ..)

theorem State.spareFails_rounds (s : State) (n k : Nat) : RoundsKept s (s.spareFails n k) := by
  unfold State.spareFails State.sliceEvent
  extract_lets x m
  have failed : RoundsKept s (s.setCluster n { x with failed := x.failed ||| 2 ^ k, sliceMap := x.sliceMap.set 8 none }) := s.setCluster_rounds rfl rfl
  exact failed.trans (State.raise_rounds ..)

theorem State.takeOver_rounds (s : State) (n g : Nat) (hw ends : Bool) : RoundsKept s (s.takeOver n g hw ends) := by
  unfold State.takeOver
  extract_lets x endsNow
  split
  · extract_lets again src y t u
    have taken : RoundsKept s (s.setCluster n y) := s.setCluster_rounds rfl rfl
    have told : RoundsKept s t := taken.trans (State.raise_rounds ..)
    have counted : RoundsKept t u := .ite (State.setReg_rounds ..) (.refl t)
    clear_value t u
    exact .ite ((told.trans counted).trans (u.spareFails_rounds ..)) (told.trans counted)
  · exact .refl s

theorem State.tourCompare_rounds (s : State) (c ps r : Nat) (x : Tour) : RoundsKept s (s.tourCompare c ps r x) := by
  unfold State.tourCompare
  extract_lets n ends t
  have counted : RoundsKept s t := State.setReg_rounds ..
  clear_value t
  refine .ite (s.tourMark_rounds c) (.ite ?_ (.ite ?_ (.ite ?_ ?_)))
  · split
    · exact counted
    · exact counted.trans (t.setCluster_rounds rfl rfl)
  · exact counted.trans (t.takeOver_rounds ..)
  · exact counted.trans (t.tourMark_rounds c)
  · exact counted.trans (t.takeOver_rounds ..)

/-! ### The comparison of the tour leaves the measurement -/

theorem State.tourClose_measured (s : State) (c n : Nat) : Measured c s (s.tourClose n) := by
  unfold State.tourClose
  exact .ite (fun _ => (s.setCluster_measured ..).trans (State.setReg_visit _ (rk_notCharge (by decide) _ _) _)) (fun _ => .refl _ _ c s)

theorem State.tourMark_measured (s : State) (c d : Nat) : Measured c s (s.tourMark d) :=
  (s.setCluster_measured ..).trans (State.tourClose_measured ..)

theorem State.spareFails_measured (s : State) (c n k : Nat) : Measured c s (s.spareFails n k) := by
  unfold State.spareFails State.sliceEvent
  extract_lets x m
  exact (s.setCluster_measured ..).trans (State.raise_measured ..)

theorem State.takeOver_measured (s : State) (c n g : Nat) (hw ends : Bool) : Measured c s (s.takeOver n g hw ends) := by
  unfold State.takeOver
  extract_lets x endsNow
  split
  · extract_lets again src y t u
    have told : Measured c s t := (s.setCluster_measured c n y).trans (State.raise_measured ..)
    have counted : Measured c t u := .ite (fun _ => State.setReg_visit _ (rk_notCharge (by decide) _ _) _) (fun _ => .refl _ _ c t)
    clear_value t u
    exact .ite (fun _ => (told.trans counted).trans (u.spareFails_measured ..)) (fun _ => told.trans counted)
  · exact .refl _ _ c s

theorem State.tourCompare_measured (s : State) (c d ps r : Nat) (x : Tour) : Measured c s (s.tourCompare d ps r x) := by
  unfold State.tourCompare
  extract_lets n ends t
  have counted : Measured c s t := State.setReg_visit _ (rk_notCharge (by decide) _ _) _
  clear_value t
  refine .ite (fun _ => s.tourMark_measured c d) (fun _ => .ite (fun _ => ?_) (fun _ => .ite (fun _ => ?_) (fun _ => .ite (fun _ => ?_) (fun _ => ?_))))
  · split
    · exact counted
    · exact counted.trans (t.setCluster_measured ..)
  · exact counted.trans (t.takeOver_measured ..)
  · exact counted.trans (t.tourMark_measured ..)
  · exact counted.trans (t.takeOver_measured ..)

/-! ### The end of a visit (R65, R94) -/

/-- The open source window of a lock is noted at the end of a visit: the first phase of `State.visitEnd` (R72). -/
def State.lockNoted (s : State) (n at_ : Nat) : State :=
  if (s.cluster n).lockRes && (s.cluster n).lockOpen.isNone then s.setCluster n { s.cluster n with lockOpen := some at_ } else s

theorem State.lockNoted_rounds (s : State) (n at_ : Nat) : RoundsKept s (s.lockNoted n at_) :=
  .ite (s.setCluster_rounds rfl rfl) (.refl s)

theorem State.setRound_same (s : State) (n g : Nat) (r : Round) : (s.setRound n g r).round n g = r := by
  unfold State.round State.setRound
  rw [State.setCluster_get, if_pos rfl, tabFind_insert_self _ _ _ (tabFind_erase_self ..)]
  rfl

/-- The round of a group after a visit of channel c. -/
def State.roundAfter (s : State) (c : Nat) (pair : Bool) : Round :=
  { last := some c, opens := max (s.ctr (clOf c) + 25) (s.round (clOf c) (groupIn c)).hold, hold := (s.round (clOf c) (groupIn c)).hold,
    tested := ((s.round (clOf c) (groupIn c)).tested || pair) && (s.boundIn (clOf c) (groupIn c)).any (fun d => decide (c < d)) }

theorem State.visitEnd_round (s : State) (c : Nat) (pair : Bool) : (s.visitEnd c pair).round (clOf c) (groupIn c) = s.roundAfter c pair := by
  unfold State.visitEnd
  extract_lets n r at_ src t wraps
  rw [State.setRound_same]
  have noted : RoundsKept s t := s.lockNoted_rounds n at_
  simp only [wraps, noted.boundIn, Bool.not_not]
  rfl

theorem State.visitEnd_counter (s : State) (c : Nat) (pair : Bool) (n : Nat) : (s.visitEnd c pair).ctr n = s.ctr n := by
  unfold State.visitEnd
  extract_lets m r at_ src t wraps
  have noted : RoundsKept s t := s.lockNoted_rounds m at_
  rw [← noted.ctr]
  unfold State.ctr State.setRound
  rw [State.setCluster_get]
  split
  · subst n
    rfl
  · rfl

theorem State.visitEnd_measured (s : State) (c d : Nat) (pair : Bool) : Measured c s (s.visitEnd d pair) :=
  .of_same (l := [.clusters]) (by apply State.visitEnd_but; decide) (by decide) (by decide)

/-- With no window kept, the channel after the one served last is next. -/
theorem State.nextIn_of_round (s : State) {n g c : Nat} (hw : (s.round n g).win = none) (hl : (s.round n g).last = some c) :
    s.nextIn n g = ((s.boundIn n g).find? (fun d => decide (c < d))).or (s.boundIn n g).head? := by
  unfold State.nextIn
  simp only [hw, hl]

theorem State.roundAfter_eq {s t : State} (h : RoundsKept s t) (c : Nat) (pair : Bool) : t.roundAfter c pair = s.roundAfter c pair := by
  unfold State.roundAfter
  rw [h.ctr, h.round, h.boundIn]

end Sys2Proof.Machine

namespace Sys2Proof.Machine

/-! ### The visit of a channel ends with its result (R26, R43, R44, R65, R67) -/

/-- A visit with its result and its charge, before a comparison of the tour. -/
def State.visited (s : State) (c : Nat) (v : Visit) : State :=
  (((s.publish c (s.sliceWindow c) (resultOf (s.sliceWindow c).ps v.mean) false).visitCounts c (s.sliceWindow c) v.mean v.gap).owSkip c).visitEnd c false

/-- A visit that is due ends so, with the comparison of a tour that joins it. -/
theorem exec_sliceResult {c : Fin 512} {s : State} (v : Visit) (hm : s.measures c = true) (hd : s.visitDue c (s.windowEnds c) = true)
    (ho : s.owNext c = none) :
    Answers (.sliceResult c v) s (fun t => t = s.visited c v ∨ ∃ ps r x, t = (s.visited c v).tourCompare c ps r x) := by
  have run : exec (.sliceResult c v) s = execSliceResult c v s := rfl
  unfold execSliceResult at run
  rw [if_neg (by simp [hm, hd, ho])] at run
  extract_lets w r t u joins e at run
  change exec _ s = match v.tour with
    | none => ok (s.visited c v)
    | some x => if joins then ok ((s.visited c v).tourCompare c w.ps r x) else ok (s.visited c v) at run
  cases h : v.tour with
  | none =>
    rw [h] at run
    exact ⟨_, run, .inl rfl⟩
  | some x =>
    rw [h] at run
    cases hj : joins with
    | false => exact ⟨_, by rw [run, hj]; rfl, .inl rfl⟩
    | true => exact ⟨_, by rw [run, hj]; rfl, .inr ⟨_, _, _, rfl⟩⟩

/-- A visit that is not due, or before an open-wire pair, has no effect. -/
theorem exec_sliceResult_idle {c : Fin 512} {s : State} (v : Visit)
    (h : s.measures c = false ∨ s.visitDue c (s.windowEnds c) = false ∨ s.owNext c ≠ none) : exec (.sliceResult c v) s = .next s := by
  change execSliceResult c v s = _
  unfold execSliceResult
  refine if_pos ?_
  rcases h with h | h | h
  · simp [h]
  · simp [h]
  · simp [Option.isSome_iff_ne_none, h]

section
variable (s : State) (c : Nat) (v : Visit)

/-- What a visit may change. -/
def Fld.visit : List Fld := [.caps, .chans, .clusters, .drives, .entries, .events, .parts, .regs, .streams, .trims]

theorem State.publish_same (w : Window) (r : Nat) (test : Bool) : Same (Fld.visit.erase .clusters) s (s.publish c w r test) := by
  apply State.publish_but <;> decide

theorem State.visited_same : Same Fld.visit s (s.visited c v) := by
  have published := (s.publish_same c (s.sliceWindow c) (resultOf (s.sliceWindow c).ps v.mean) false).mono (m := Fld.visit) (by decide)
  refine published.trans ?_
  simp [State.visited, Same, Fld.visit, ↓State.visitCounts_but, ↓State.owSkip_but, ↓State.visitEnd_but]

/-- A visit's result stands in the record of its channel, its charge in the counters. -/
theorem State.visited_result : ((s.visited c v).chan c).result = (resultOf (s.sliceWindow c).ps v.mean, s.ctr (clOf c),
    (s.sliceWindow c).rail (resultOf (s.sliceWindow c).ps v.mean), false, 0) := by
  unfold State.visited
  rw [(State.visitEnd_measured ..).result.chan, (State.owSkip_measured ..).result.chan, (State.visitCounts_result ..).chan, State.publish_result]

theorem State.visited_tabled (h : 11 ∉ s.islandBad) : Tabled c (resultOf (s.sliceWindow c).ps v.mean) (s.ctr (clOf c))
    ((s.sliceWindow c).rail (resultOf (s.sliceWindow c).ps v.mean)) s (s.visited c v) :=
  (s.publish_tabled c _ _ false h).trans
    (((State.visitCounts_result ..).trans (State.owSkip_measured ..).result).trans (State.visitEnd_measured ..).result)

theorem State.visited_charged (h : (s.sliceWindow c).kind = 2) : Charged c (s.visitCharge c (s.sliceWindow c) v.mean v.gap) s (s.visited c v) := by
  have entered := s.visitCounts_enters _ c (s.sliceWindow c) v.mean v.gap h
    (s.publish_charge c (s.sliceWindow c) (resultOf (s.sliceWindow c).ps v.mean) false)
  exact entered.of_kept ⟨rfl, rfl, fun _ _ => rfl⟩ ((State.owSkip_measured ..).charge.trans (State.visitEnd_measured ..).charge)

/-- The group's next channel comes after the changeover. -/
theorem State.visited_round : (s.visited c v).round (clOf c) (groupIn c) = s.roundAfter c false := by
  unfold State.visited
  rw [State.visitEnd_round]
  refine State.roundAfter_eq ?_ c false
  have published : RoundsKept s (s.publish c (s.sliceWindow c) (resultOf (s.sliceWindow c).ps v.mean) false) :=
    .of_same (s.publish_same ..) (by decide) (by decide)
  have counted : Same [.chans, .parts, .regs] (s.publish c (s.sliceWindow c) (resultOf (s.sliceWindow c).ps v.mean) false)
      ((s.publish c (s.sliceWindow c) (resultOf (s.sliceWindow c).ps v.mean) false).visitCounts c (s.sliceWindow c) v.mean v.gap) := by
    apply State.visitCounts_but <;> decide
  have skipped : ∀ u : State, Same [.caps, .chans, .entries, .events, .regs, .trims] u (u.owSkip c) := fun u => by
    apply State.owSkip_but <;> decide
  exact (published.trans (.of_same counted (by decide) (by decide))).trans (.of_same (skipped _) (by decide) (by decide))

end

theorem ChanX.result_eq_iff (x : ChanX) (r at_ : Nat) (rail : Int) (stale : Bool) (late : Nat) : x.result = (r, at_, rail, stale, late) ↔
    x.res = r ∧ x.resAt = at_ ∧ x.rail = rail ∧ x.stale = stale ∧ x.late = late := by
  simp [ChanX.result]

/-- The comparison of the tour, or none, leaves what a visit has done. -/
structure VisitLeft (c : Nat) (u t : State) : Prop where
  same : Same Fld.visit u t
  measured : Measured c u t
  rounds : RoundsKept u t

theorem State.tourCompare_left (u : State) (c ps r : Nat) (x : Tour) : VisitLeft c u (u.tourCompare c ps r x) where
  same := by apply State.tourCompare_but <;> decide
  measured := u.tourCompare_measured ..
  rounds := u.tourCompare_rounds ..

/-- A visit that is due publishes its result and enters its charge. -/
theorem sliceResult_answers {c : Fin 512} {s : State} (v : Visit) (hm : s.measures c = true) (hd : s.visitDue c (s.windowEnds c) = true)
    (ho : s.owNext c = none) : Answers (.sliceResult c v) s (fun t => VisitLeft c (s.visited c v) t) := by
  obtain ⟨t, run, h⟩ := exec_sliceResult v hm hd ho
  refine ⟨t, run, ?_⟩
  rcases h with rfl | ⟨ps, r, x, rfl⟩
  · exact ⟨.refl _ _, .refl _ _ _ _, .refl _⟩
  · exact State.tourCompare_left ..

theorem State.visited_next {s t : State} {c : Nat} {v : Visit} (h : VisitLeft c (s.visited c v) t) :
    t.nextIn (clOf c) (groupIn c) =
      ((s.boundIn (clOf c) (groupIn c)).find? (fun d => decide (c < d))).or (s.boundIn (clOf c) (groupIn c)).head? := by
  have round : t.round (clOf c) (groupIn c) = s.roundAfter c false := by rw [h.rounds.round, State.visited_round]
  have bound : t.boundIn (clOf c) (groupIn c) = s.boundIn (clOf c) (groupIn c) := by
    unfold State.boundIn State.kind State.act
    rw [((s.visited_same c v).trans h.same).active (by decide)]
  rw [t.nextIn_of_round (c := c) (by rw [round]; rfl) (by rw [round]; rfl), bound]

end Sys2Proof.Machine

namespace Sys2Proof.Machine

/-! ### A test falls due on the channels of a group (R92 to R94) -/

/-- Which tests fit a channel depends on the configuration in force and on the states of the channels. -/
theorem State.owFits_of_states {s t : State} (ha : t.active = s.active) (hs : ∀ d, (t.chan d).state = (s.chan d).state) (c : Nat) (run : Bool) :
    t.owFits c run = s.owFits c run := by
  unfold State.owFits State.owRun State.owOff State.chState State.kind State.act
  simp only [ha, hs]

/-- The test pairs of a channel become due, and nothing else of it changes. -/
theorem State.each_owBegin (l : List Nat) (h : l.Nodup) (s : State) (k : Nat) : (s.each l (fun s c => s.owBegin c)).chan k =
    if k ∈ l then { s.chan k with owKinds := [true, false].filter (s.owFits k) } else s.chan k := by
  induction l generalizing s with
  | nil => simp
  | cons x l ih =>
    rw [List.nodup_cons] at h
    have fits : (s.owBegin x).owFits k = s.owFits k := by
      funext run
      refine State.owFits_of_states (s := s) (t := s.owBegin x) rfl (fun d => ?_) k run
      unfold State.owBegin
      rw [State.setChan_get]
      split
      · subst d
        rfl
      · rfl
    rw [State.each_cons, ih h.2, fits]
    unfold State.owBegin
    rw [State.setChan_get]
    by_cases hk : k = x
    · subst hk
      simp [h.1]
    · simp [hk]

theorem State.boundIn_nodup (s : State) (n g : Nat) : (s.boundIn n g).Nodup := by
  unfold State.boundIn
  refine List.Nodup.filter _ (List.Nodup.map (fun i j h => ?_) List.nodup_range)
  omega

/-- A test that is due has the kinds that fit before each channel of its group that takes one. -/
theorem exec_openWireTest {n g : Fin 8} {s : State} (hc : s.committed = true) (hl : (s.cluster n).clockLost = false)
    (hd : ∀ a, tabFind (s.cluster n).owAt g = some a → a + 10000000 ≤ s.now) (hs : ((s.cluster n).sliceMap[g.val]?).join ≠ none) :
    exec (.openWireTest n g) s = .next
      ((s.setCluster n { s.cluster n with owAt := tabInsert g.val s.now (tabErase (s.cluster n).owAt g) }).each
        ((s.boundIn n g).filter (fun c => s.owOff c || s.owRun c)) (fun s c => s.owBegin c)) := by
  change execOpenWireTest n g s = _
  unfold execOpenWireTest
  extract_lets x due src
  have isDue : due = true := by
    simp only [due]
    split
    · rfl
    · exact decide_eq_true (hd _ ‹_›)
  exact if_pos ⟨hc, hl, isDue, Option.isSome_iff_ne_none.mpr hs⟩

theorem openWireTest_answers (n g : Fin 8) (s : State) (hc : s.committed = true) (hl : (s.cluster n).clockLost = false)
    (hd : ∀ a, tabFind (s.cluster n).owAt g = some a → a + 10000000 ≤ s.now) (hs : ((s.cluster n).sliceMap[g.val]?).join ≠ none) :
    Answers (.openWireTest n g) s (fun t => Same [.chans, .clusters] s t ∧ AllBut s.cluster t.cluster [n.val] ∧
      (∀ c, t.chan c = { s.chan c with owKinds := (t.chan c).owKinds }) ∧
      (∀ c, c ∉ s.boundIn n g → t.chan c = s.chan c) ∧
      ∀ c ∈ s.boundIn n g, (t.chan c).owKinds = if s.owOff c = true ∨ s.owRun c = true then [true, false].filter (s.owFits c)
        else (s.chan c).owKinds) := by
  refine ⟨_, exec_openWireTest hc hl hd hs, ?_⟩
  generalize hu : s.setCluster n _ = u
  have noted : Same [.clusters] s u := by
    rw [← hu]
    exact State.setCluster_but _ _ _ _ (by decide)
  have begun : Same [.chans] u (u.each ((s.boundIn n g).filter (fun c => s.owOff c || s.owRun c)) (fun s c => s.owBegin c)) := by
    apply State.each_but
    intro t c _
    apply State.owBegin_but
    decide
  have chan := fun k => u.each_owBegin ((s.boundIn n g).filter (fun c => s.owOff c || s.owRun c)) (List.Nodup.filter _ (s.boundIn_nodup n g)) k
  have fits : ∀ k, u.owFits k = s.owFits k := fun k => funext (State.owFits_of_states (noted.active (by decide))
    (fun d => by rw [noted.get_chan (by decide)]) k)
  generalize u.each _ _ = t at begun chan
  simp only [fits, noted.get_chan (i := _) (show Fld.chans ∉ [Fld.clusters] by decide), List.mem_filter, Bool.or_eq_true] at chan
  refine ⟨(noted.mono (by decide)).trans (begun.mono (by decide)), fun m hm => ?_, fun c => ?_, fun c hc => ?_, fun c hc => ?_⟩
  · rw [begun.get_cluster (by decide), ← hu, State.setCluster_get, if_neg (by simpa using hm)]
  · rw [chan c]
    split <;> rfl
  · rw [chan c, if_neg (fun h => hc h.1)]
  · rw [chan c]
    by_cases fit : s.owOff c = true ∨ s.owRun c = true
    · rw [if_pos ⟨hc, fit⟩, if_pos fit]
    · rw [if_neg (fun h => fit h.2), if_neg fit]

/-! ### The mean of a pair (R93) -/

/-- The mean of a pair is a step of the resolution next to it, or the largest result. -/
theorem pairMean_near (ps a b : Nat) : (pairMean ps a b = 65535 ∧ 131070 ≤ a + b + 2 ^ (16 - resolution ps)) ∨
    (pairMean ps a b % 2 ^ (16 - resolution ps) = 0 ∧ a + b < 2 * pairMean ps a b + 2 ^ (16 - resolution ps) ∧
      2 * pairMean ps a b ≤ a + b + 2 ^ (16 - resolution ps)) := by
  unfold pairMean
  dsimp only
  have steps : 0 < 2 ^ (16 - resolution ps) := Nat.two_pow_pos _
  generalize 2 ^ (16 - resolution ps) = step at steps ⊢
  have low := Nat.div_mul_le_self (a + b + step) (2 * step)
  have high := Nat.lt_div_mul_add (a := a + b + step) (b := 2 * step) (by omega)
  have whole : (a + b + step) / (2 * step) * (2 * step) = 2 * ((a + b + step) / (2 * step) * step) := by
    rw [← Nat.mul_assoc, Nat.mul_comm _ 2, Nat.mul_assoc]
  have mult : (a + b + step) / (2 * step) * step % step = 0 := Nat.mul_mod_left ..
  rw [whole] at low high
  generalize (a + b + step) / (2 * step) * step = m at low high mult
  rcases Nat.le_total 65535 m with above | under
  · left
    rw [Nat.min_eq_left above]
    omega
  · right
    rw [Nat.min_eq_right under]
    exact ⟨mult, by omega, by omega⟩

/-! ### A round has one pair (R94) -/

theorem State.owNext_tested {c : Nat} {s : State} (h : (s.round (clOf c) (groupIn c)).tested = true) : s.owNext c = none := by
  unfold State.owNext
  exact if_pos h

/-! ### The outcome of a test (R95) -/

section
variable (s : State) (c : Nat)

/-- A failing outcome is counted; the second in succession sets OPEN_WIRE. -/
theorem State.owCount_fails : ((s.owCount c true).chan c).owFails = (s.chan c).owFails + 1 ∧ ((s.owCount c true).chan c).owPasses = 0 ∧
    (1 ≤ (s.chan c).owFails → ((s.owCount c true).chan c).openWire = true) := by
  unfold State.owCount
  extract_lets x y
  split
  · rw [(State.raise_same ..).get_chan (by decide), State.setChan_get, if_pos rfl]
    exact ⟨rfl, rfl, fun _ => rfl⟩
  · rename_i unset
    rw [if_neg (by simp [y])]
    rw [State.setChan_get, if_pos rfl]
    refine ⟨rfl, rfl, fun again => ?_⟩
    simp only [y, if_true, Bool.and_eq_true, Bool.not_eq_true', decide_eq_true_eq, not_and] at unset ⊢
    by_contra clear
    rw [Bool.not_eq_true] at clear
    exact unset clear (by simp only [x]; omega)

/-- A passing outcome is counted; the second in succession clears OPEN_WIRE. -/
theorem State.owCount_passes : ((s.owCount c false).chan c).owFails = 0 ∧ ((s.owCount c false).chan c).owPasses = (s.chan c).owPasses + 1 ∧
    (1 ≤ (s.chan c).owPasses → ((s.owCount c false).chan c).openWire = false) := by
  unfold State.owCount
  extract_lets x y
  rw [if_neg (by simp [y])]
  split
  · rw [(State.raise_same ..).get_chan (by decide), State.setChan_get, if_pos rfl]
    exact ⟨rfl, rfl, fun _ => rfl⟩
  · rename_i set
    rw [State.setChan_get, if_pos rfl]
    refine ⟨rfl, rfl, fun again => ?_⟩
    simp only [y, Bool.false_eq_true, if_false, Bool.and_eq_true, decide_eq_true_eq, not_and] at set ⊢
    by_contra still
    rw [Bool.not_eq_false] at still
    exact set still (by simp only [x]; omega)

end

end Sys2Proof.Machine

namespace Sys2Proof.Machine

/-! ### The two visits of a pair (R92 to R95) -/

/-- Both visits of a pair are counted: the first phase of `State.owResult` (R94, R97). -/
def State.pairCounted (s : State) (c : Nat) (run : Bool) (first second : Visit) : State :=
  let w := s.sliceWindow c
  let v := s.pairWindow c
  let s := s.setChan c { s.chan c with owKinds := (s.chan c).owKinds.drop ((s.chan c).owKinds.idxOf run + 1) }
  let s := s.lengthen (clOf c) (groupIn c) ((w.ps + 250000) / 1000)
  (s.visitCounts c w first.mean first.gap).visitCounts c v second.mean second.gap

/-- The phases of a pair: its visits, its mean, which a pair of an OFF or PARKED channel does not publish, and its outcome (R93). -/
theorem State.owResult_eq (s : State) (c : Nat) (run : Bool) (first second : Visit) : s.owResult c run first second =
    (((if run then (s.pairCounted c run first second).publish c (s.pairWindow c)
        (pairMean (s.pairWindow c).ps (resultOf (s.sliceWindow c).ps first.mean) (resultOf (s.pairWindow c).ps second.mean)) true
      else s.pairCounted c run first second).owCount c
        (pairFails run (resultOf (s.sliceWindow c).ps first.mean) (resultOf (s.pairWindow c).ps second.mean))).visitEnd c true).marginAfter c := rfl

theorem State.owResult_run (s : State) (c : Nat) (first second : Visit) : s.owResult c true first second =
    ((((s.pairCounted c true first second).publish c (s.pairWindow c)
      (pairMean (s.pairWindow c).ps (resultOf (s.sliceWindow c).ps first.mean) (resultOf (s.pairWindow c).ps second.mean)) true).owCount c
      (pairFails true (resultOf (s.sliceWindow c).ps first.mean) (resultOf (s.pairWindow c).ps second.mean))).visitEnd c true).marginAfter c := by
  rw [State.owResult_eq, if_pos rfl]

theorem State.owResult_off (s : State) (c : Nat) (first second : Visit) : s.owResult c false first second =
    (((s.pairCounted c false first second).owCount c
      (pairFails false (resultOf (s.sliceWindow c).ps first.mean) (resultOf (s.pairWindow c).ps second.mean))).visitEnd c true).marginAfter c := by
  rw [State.owResult_eq, if_neg Bool.false_ne_true]

theorem exec_openWireResult {c : Fin 512} {run : Bool} {s : State} (first second : Visit) (ho : s.owNext c = some run) (hm : s.measures c = true)
    (hd : s.visitDue c (s.pairEnds c) = true) : exec (.openWireResult c first second) s = .next (s.owResult c run first second) := by
  change execOpenWireResult c first second s = _
  unfold execOpenWireResult
  simp only [ho]
  exact if_pos (by simp [hm, hd])

theorem exec_openWireResult_idle {c : Fin 512} {s : State} (first second : Visit)
    (h : s.owNext c = none ∨ s.measures c = false ∨ s.visitDue c (s.pairEnds c) = false) : exec (.openWireResult c first second) s = .next s := by
  change execOpenWireResult c first second s = _
  unfold execOpenWireResult
  cases ho : s.owNext c with
  | none => rfl
  | some run =>
    refine if_neg ?_
    rcases h with h | h | h
    · rw [ho] at h
      cases h
    · simp [h]
    · simp [h]

/-! ### Which of the channel stays over a pair -/

theorem State.lengthen_chan (s : State) (n g ns d : Nat) : (s.lengthen n g ns).chan d =
    if d ∈ s.boundIn n g then { s.chan d with late := (s.chan d).late + ns } else s.chan d := by
  unfold State.lengthen
  exact State.each_setChan (fun _ x => { x with late := x.late + ns }) (s.boundIn n g) (s.boundIn_nodup n g) s d

theorem State.lengthen_tally (s : State) (n g ns c : Nat) : VisitKept ChanX.tally [] c s (s.lengthen n g ns) := by
  refine ⟨?_, fun _ hk => nomatch hk⟩
  rw [State.lengthen_chan]
  split <;> rfl

theorem State.owCount_result (s : State) (c : Nat) (fails : Bool) : VisitKept ChanX.result (resultKeys c) c s (s.owCount c fails) := by
  unfold State.owCount
  extract_lets x y
  have set : ∀ b, VisitKept ChanX.result (resultKeys c) c s (s.setChan c { y with openWire := b }) := fun b => s.setChan_visit (fun _ => rfl)
  have told : ∀ b k p cl z, VisitKept ChanX.result (resultKeys c) c s ((s.setChan c { y with openWire := b }).raise k 0x14 p cl z) := fun b k p cl z =>
    (set b).trans (State.raise_measured ..).result
  exact .ite (fun _ => told ..) (fun _ => .ite (fun _ => told ..) (fun _ => s.setChan_visit (fun _ => rfl)))

section
variable (s : State) (c : Nat) (run : Bool) (first second : Visit)

theorem State.pairCounted_tally : VisitKept ChanX.tally [] c s (s.pairCounted c run first second) := by
  unfold State.pairCounted
  extract_lets w v src t u
  have dropped : VisitKept ChanX.tally [] c s t := s.setChan_visit (fun _ => rfl)
  have delayed : VisitKept ChanX.tally [] c t u := t.lengthen_tally ..
  clear_value u t
  exact ((dropped.trans delayed).trans (u.visitCounts_tally ..)).trans (State.visitCounts_tally ..)

theorem State.pairCounted_same : Same [.chans, .parts, .regs] s (s.pairCounted c run first second) := by
  simp [State.pairCounted, Same, ↓State.visitCounts_but, ↓State.lengthen_but, ↓State.setChan_but]

end

/-! ### The pair of a RUNNING or MEASURE channel (R93) -/

/-- The pair fails from 0.200 V difference on. -/
theorem pairFails_run (a b : Nat) : pairFails true a b = decide (13107200000 ≤ ((a : Int) - b).natAbs * 2400000) := by
  unfold pairFails
  rw [if_pos rfl]

/-- The pair fails from 1.000 V on, of the first over the second. -/
theorem pairFails_off (a b : Nat) : pairFails false a b = decide (65536000000 ≤ ((a : Int) - b) * 2400000) := by
  unfold pairFails
  rw [if_neg Bool.false_ne_true]
  simp

section
variable (s : State) (c : Nat) (first second : Visit)

theorem State.owResult_run_same : Same Fld.visit s (s.owResult c true first second) := by
  rw [State.owResult_run]
  have counted := (s.pairCounted_same c true first second).mono (m := Fld.visit) (by decide)
  generalize s.pairCounted c true first second = t at counted
  have published : ∀ w r, Same Fld.visit t (t.publish c w r true) := fun w r => (t.publish_same c w r true).mono (by decide)
  have ended : ∀ u fails, Same Fld.visit u (((u.owCount c fails).visitEnd c true).marginAfter c) := fun u fails => by
    simp [Same, Fld.visit, ↓State.owCount_but, ↓State.visitEnd_but, ↓State.marginAfter_but]
  exact (counted.trans (published _ _)).trans (ended _ _)

/-- What a pair of a running channel has published and counted when its outcome is. -/
theorem State.owResult_run_measured : Measured c (((s.pairCounted c true first second).publish c (s.pairWindow c)
      (pairMean (s.pairWindow c).ps (resultOf (s.sliceWindow c).ps first.mean) (resultOf (s.pairWindow c).ps second.mean)) true).owCount c
      (pairFails true (resultOf (s.sliceWindow c).ps first.mean) (resultOf (s.pairWindow c).ps second.mean)))
    (s.owResult c true first second) := by
  rw [State.owResult_run]
  exact (State.visitEnd_measured ..).trans (State.marginAfter_measured ..)

theorem State.owResult_run_res : ((s.owResult c true first second).chan c).res =
    pairMean (s.pairWindow c).ps (resultOf (s.sliceWindow c).ps first.mean) (resultOf (s.pairWindow c).ps second.mean) := by
  have kept := (State.owCount_result ..).trans (s.owResult_run_measured c first second).result
  have result := kept.chan.trans (State.publish_result ..)
  exact ((ChanX.result_eq_iff ..).mp result).1

theorem State.owResult_run_table (h : 11 ∉ s.islandBad) : (s.owResult c true first second).reg (chsResult c) =
    pairMean (s.pairWindow c).ps (resultOf (s.sliceWindow c).ps first.mean) (resultOf (s.pairWindow c).ps second.mean) := by
  have up : 11 ∉ (s.pairCounted c true first second).islandBad := by rwa [(s.pairCounted_same c true first second).islandBad (by decide)]
  exact ((State.publish_tabled _ c _ _ true up).trans
    ((State.owCount_result ..).trans (s.owResult_run_measured c first second).result)).result

end

theorem ChanX.tally_eq_iff (x y : ChanX) : x.tally = y.tally ↔ x.owFails = y.owFails ∧ x.owPasses = y.owPasses ∧ x.openWire = y.openWire := by
  simp [ChanX.tally]

/-- A failing pair, over a state with the same outcomes before it. -/
theorem owCount_fails_of_tally {c : Nat} {s t u : State} (before : VisitKept ChanX.tally [] c s t) (after : VisitKept ChanX.tally [] c (t.owCount c true) u) :
    (u.chan c).owFails = (s.chan c).owFails + 1 ∧ (u.chan c).owPasses = 0 ∧ (1 ≤ (s.chan c).owFails → (u.chan c).openWire = true) := by
  obtain ⟨fails, -, -⟩ := (ChanX.tally_eq_iff ..).mp before.chan
  obtain ⟨fails', passes', wire'⟩ := (ChanX.tally_eq_iff ..).mp after.chan
  rw [fails', passes', wire', ← fails]
  exact t.owCount_fails c

/-- A passing pair, over a state with the same outcomes before it. -/
theorem owCount_passes_of_tally {c : Nat} {s t u : State} (before : VisitKept ChanX.tally [] c s t) (after : VisitKept ChanX.tally [] c (t.owCount c false) u) :
    (u.chan c).owFails = 0 ∧ (u.chan c).owPasses = (s.chan c).owPasses + 1 ∧ (1 ≤ (s.chan c).owPasses → (u.chan c).openWire = false) := by
  obtain ⟨-, passes, -⟩ := (ChanX.tally_eq_iff ..).mp before.chan
  obtain ⟨fails', passes', wire'⟩ := (ChanX.tally_eq_iff ..).mp after.chan
  rw [fails', passes', wire', ← passes]
  exact t.owCount_passes c

theorem openWireResult_run_answers (c : Fin 512) (first second : Visit) (a b : Nat) (s : State) (ho : s.owNext c = some true)
    (hm : s.measures c = true) (hd : s.visitDue c (s.pairEnds c) = true) (ha : a = resultOf (s.sliceWindow c).ps first.mean)
    (hb : b = resultOf (s.pairWindow c).ps second.mean) : Answers (.openWireResult c first second) s (fun t =>
      Same [.caps, .chans, .clusters, .drives, .entries, .events, .parts, .regs, .streams, .trims] s t ∧
      (11 ∉ s.islandBad → t.reg (chsResult c) = pairMean (s.pairWindow c).ps a b) ∧ (t.chan c).res = pairMean (s.pairWindow c).ps a b ∧
      (13107200000 ≤ ((a : Int) - b).natAbs * 2400000 → (t.chan c).owFails = (s.chan c).owFails + 1 ∧ (t.chan c).owPasses = 0 ∧
        (1 ≤ (s.chan c).owFails → (t.chan c).openWire = true)) ∧
      (((a : Int) - b).natAbs * 2400000 < 13107200000 → (t.chan c).owFails = 0 ∧ (t.chan c).owPasses = (s.chan c).owPasses + 1 ∧
        (1 ≤ (s.chan c).owPasses → (t.chan c).openWire = false))) := by
  have before := (s.pairCounted_tally c true first second).trans (State.publish_tally _ c (s.pairWindow c) (pairMean (s.pairWindow c).ps a b) true)
  have after := (s.owResult_run_measured c first second).tally
  subst ha hb
  rw [pairFails_run] at after
  refine ⟨_, exec_openWireResult first second ho hm hd, s.owResult_run_same c first second, s.owResult_run_table c first second,
    s.owResult_run_res c first second, fun fails => ?_, fun passes => ?_⟩
  · rw [decide_eq_true fails] at after
    exact owCount_fails_of_tally before after
  · rw [decide_eq_false (by omega)] at after
    exact owCount_passes_of_tally before after

end Sys2Proof.Machine

namespace Sys2Proof.Machine

/-! ### The pair of an OFF or PARKED channel (R92) -/

/-- What the visits and the outcome of a pair leave: the configuration, every other channel, the delay and the waiting margin of channel c, and
every register but its charges and EVENTS_LOST. -/
structure PairKept (c : Nat) (s t : State) : Prop where
  only : OnlyChan c s t
  late : (t.chan c).late = (s.chan c).late
  pend : (t.chan c).marginPend = (s.chan c).marginPend
  regs : ∀ k, k ∉ [clsChargePos (clOf c) (c % 64), clsChargeNeg (clOf c) (c % 64), evEventsLost] → t.reg k = s.reg k

section
variable {c : Nat} {s t u : State}

theorem PairKept.refl (c : Nat) (s : State) : PairKept c s s := ⟨.refl c s, rfl, rfl, fun _ _ => rfl⟩

theorem PairKept.trans (h : PairKept c s t) (h' : PairKept c t u) : PairKept c s u :=
  ⟨h.only.trans h'.only, h'.late.trans h.late, h'.pend.trans h.pend, fun k hk => (h'.regs k hk).trans (h.regs k hk)⟩

theorem PairKept.of_same {l : List Fld} (h : Same l s t) (hc : Fld.chans ∉ l) (ha : Fld.active ∉ l) (hr : Fld.regs ∉ l) : PairKept c s t :=
  ⟨.of_same h hc ha c, by rw [h.get_chan hc], by rw [h.get_chan hc], fun k _ => h.get_reg hr k⟩

theorem PairKept.ite {p : Prop} [Decidable p] (ht : PairKept c s t) (hu : PairKept c s u) : PairKept c s (if p then t else u) := by
  split
  · exact ht
  · exact hu

theorem State.setChan_pair (s : State) {c : Nat} {x : ChanX} (hl : x.late = (s.chan c).late) (hp : x.marginPend = (s.chan c).marginPend) :
    PairKept c s (s.setChan c x) := by
  refine ⟨s.setChan_only c x, ?_, ?_, fun k _ => by rw [State.setChan_get_reg]⟩
  · rw [State.setChan_get, if_pos rfl, hl]
  · rw [State.setChan_get, if_pos rfl, hp]

theorem State.setReg_pair (s : State) {c k : Nat} (h : k ∈ [clsChargePos (clOf c) (c % 64), clsChargeNeg (clOf c) (c % 64), evEventsLost]) (v : Nat) :
    PairKept c s (s.setReg k v) :=
  ⟨s.setReg_only .., by rw [State.setReg_get_chan], by rw [State.setReg_get_chan], fun _ hj => State.setReg_reg_ne _ _ _ _ (fun e => hj (e ▸ h))⟩

theorem State.raise_pair (s : State) (c d k p : Nat) (cl : Bool) (x : Bytes) : PairKept c s (s.raise d k p cl x) := by
  have chan : (s.raise d k p cl x).chan c = s.chan c := (s.raise_same ..).get_chan (by decide) c
  exact ⟨s.raise_only .., by rw [chan], by rw [chan], fun j hj => State.raise_reg_ne _ _ _ _ _ _ _ (fun e => hj (by simp [e]))⟩

end

theorem State.addCharge_pair (s : State) (c : Nat) (q : Int) : PairKept c s (s.addCharge c q) := by
  unfold State.addCharge
  extract_lets n x k r t
  have added : PairKept c s t := s.setChan_pair (by split <;> rfl) (by split <;> rfl)
  clear_value t
  refine added.trans (t.setReg_pair ?_ _)
  simp only [k]
  split <;> simp [n]

theorem State.setPart_pair (s : State) (c p : Nat) (x : PartX) : PairKept c s (s.setPart p x) :=
  .of_same (l := [.parts]) (State.setPart_but _ _ _ _ (by decide)) (by decide) (by decide) (by decide)

theorem State.addEnergy_pair (s : State) (c : Nat) (e : Int) : PairKept c s (s.addEnergy c e) := by
  unfold State.addEnergy
  extract_lets p x r t y m
  have added : PairKept c s t := s.setChan_pair (by split <;> rfl) (by split <;> rfl)
  clear_value t
  exact added.trans (t.setPart_pair ..)

theorem State.visitCounts_pair (s : State) (c : Nat) (w : Window) (mean gap : Int) : PairKept c s (s.visitCounts c w mean gap) := by
  unfold State.visitCounts
  refine .ite (.refl c s) ?_
  extract_lets x sat g q t u e
  have taken : PairKept c s t := s.setChan_pair rfl rfl
  have charged : PairKept c t u := t.addCharge_pair ..
  have flagged : PairKept c u e := .ite (u.setPart_pair ..) (.refl c u)
  clear_value e u t
  exact .ite (((taken.trans charged).trans flagged).trans (e.addEnergy_pair ..)) (taken.trans charged)

theorem State.owCount_pair (s : State) (c : Nat) (fails : Bool) : PairKept c s (s.owCount c fails) := by
  unfold State.owCount
  extract_lets x y
  have set : ∀ b, PairKept c s (s.setChan c { y with openWire := b }) := fun b => s.setChan_pair rfl rfl
  have same : PairKept c s (s.setChan c y) := s.setChan_pair rfl rfl
  exact .ite ((set true).trans (State.raise_pair ..)) (.ite ((set false).trans (State.raise_pair ..)) same)

theorem State.visitEnd_pair (s : State) (c : Nat) (pair : Bool) : PairKept c s (s.visitEnd c pair) :=
  .of_same (l := [.clusters]) (by apply State.visitEnd_but; decide) (by decide) (by decide) (by decide)

/-- Without a margin that waits, the end of a pair applies none. -/
theorem State.marginAfter_none {s : State} {c : Nat} (h : (s.chan c).marginPend = none) : s.marginAfter c = s := by
  unfold State.marginAfter
  simp only [h]

/-- The pairs before a channel that it no longer takes are dropped, and the visits of its group come later (R94). -/
def State.pairDelayed (s : State) (c ns : Nat) (run : Bool) : State :=
  (s.setChan c { s.chan c with owKinds := (s.chan c).owKinds.drop ((s.chan c).owKinds.idxOf run + 1) }).lengthen (clOf c) (groupIn c) ns

/-- A channel's visits come a visit slot later in the group of a pair. -/
def State.delayBy (s : State) (c d ns : Nat) : Nat := if d ∈ s.boundIn (clOf c) (groupIn c) then ns else 0

section
variable (s : State) (c ns : Nat) (run : Bool)

theorem State.pairDelayed_other {d : Nat} (h : d ≠ c) : (s.pairDelayed c ns run).chan d = { s.chan d with late := (s.chan d).late + s.delayBy c d ns } := by
  unfold State.pairDelayed State.delayBy
  rw [State.lengthen_chan, State.setChan_get, if_neg h]
  change (if d ∈ s.boundIn (clOf c) (groupIn c) then _ else _) = _
  split <;> simp_all

theorem State.pairDelayed_late : ((s.pairDelayed c ns run).chan c).late = (s.chan c).late + s.delayBy c c ns := by
  unfold State.pairDelayed State.delayBy
  rw [State.lengthen_chan, State.setChan_get, if_pos rfl]
  change (if c ∈ s.boundIn (clOf c) (groupIn c) then _ else _ : ChanX).late = _
  split <;> simp_all

theorem State.pairDelayed_pend : ((s.pairDelayed c ns run).chan c).marginPend = (s.chan c).marginPend := by
  unfold State.pairDelayed
  rw [State.lengthen_chan, State.setChan_get, if_pos rfl]
  split <;> rfl

theorem State.pairDelayed_same : Same [.chans] s (s.pairDelayed c ns run) := by
  simp [State.pairDelayed, Same, ↓State.lengthen_but, ↓State.setChan_but]

theorem State.pairCounted_pair (first second : Visit) :
    PairKept c (s.pairDelayed c (((s.sliceWindow c).ps + 250000) / 1000) run) (s.pairCounted c run first second) :=
  (State.visitCounts_pair ..).trans (State.visitCounts_pair ..)

end

/-! ### What the end of a visit leaves of its cluster -/

theorem State.visitEnd_clockLost (s : State) (c : Nat) (pair : Bool) (n : Nat) : ((s.visitEnd c pair).cluster n).clockLost = (s.cluster n).clockLost := by
  unfold State.visitEnd
  extract_lets m r at_ src t wraps
  have noted : (t.cluster n).clockLost = (s.cluster n).clockLost := by
    simp only [t]
    split
    · rw [State.setCluster_get]
      split
      · subst n
        rfl
      · rfl
    · rfl
  rw [← noted]
  unfold State.setRound
  rw [State.setCluster_get]
  split
  · subst n
    rfl
  · rfl

/-- The end of a visit leaves the events recorded. -/
theorem State.visitEnd_recorded {s : State} {d k p : Nat} {cl : Bool} {x : Bytes} (h : s.recorded d k p cl x) (c : Nat) (pair : Bool) :
    (s.visitEnd c pair).recorded d k p cl x := by
  have same : Same [.clusters] s (s.visitEnd c pair) := by apply State.visitEnd_but; decide
  have time : (s.visitEnd c pair).islandTime d = s.islandTime d := by
    have counter := s.visitEnd_counter c pair (d - 1)
    have lost := s.visitEnd_clockLost c pair (d - 1)
    unfold State.ctr State.cluster at counter
    unfold State.cluster at lost
    unfold State.islandTime
    simp only [counter, lost, same.now (by decide)]
  obtain ⟨e, he, hs⟩ := h
  refine ⟨e, ?_, ?_⟩
  · rwa [same.evRing (by decide)]
  · rwa [time]

/-- The second failing test in succession is raised, of an input that was not open. -/
theorem State.owCount_recorded {s : State} {c : Nat} (h : 1 ≤ (s.chan c).owFails) (hw : (s.chan c).openWire = false) (he : s.enters (clOf c + 1)) :
    (s.owCount c true).recorded (clOf c + 1) 0x14 (s.chPart c) false (two c) := by
  unfold State.owCount
  extract_lets x y
  rw [if_pos (by simp [x, y, hw, h])]
  exact State.raise_recorded _ _ _ _ _ _ he

end Sys2Proof.Machine

namespace Sys2Proof.Machine

/-- The pair of an OFF or PARKED channel, once its outcome is counted, only ends its visit, where no margin waits. -/
theorem State.owResult_off_end {s : State} {c : Nat} (first second : Visit) (hp : (s.chan c).marginPend = none) : s.owResult c false first second =
    ((s.pairCounted c false first second).owCount c
      (pairFails false (resultOf (s.sliceWindow c).ps first.mean) (resultOf (s.pairWindow c).ps second.mean))).visitEnd c true := by
  rw [State.owResult_off]
  refine State.marginAfter_none ?_
  have kept := ((s.pairCounted_pair c false first second).trans (State.owCount_pair _ c
    (pairFails false (resultOf (s.sliceWindow c).ps first.mean) (resultOf (s.pairWindow c).ps second.mean)))).trans (State.visitEnd_pair _ c true)
  rw [kept.pend, State.pairDelayed_pend, hp]

section
variable {s : State} {c : Nat} (first second : Visit) (hp : (s.chan c).marginPend = none)
include hp

theorem State.owResult_off_pair : PairKept c (s.pairDelayed c (((s.sliceWindow c).ps + 250000) / 1000) false) (s.owResult c false first second) := by
  rw [State.owResult_off_end first second hp]
  exact ((s.pairCounted_pair c false first second).trans (State.owCount_pair ..)).trans (State.visitEnd_pair ..)

theorem State.owResult_off_same : Same [.chans, .clusters, .events, .parts, .regs] s (s.owResult c false first second) := by
  rw [State.owResult_off_end first second hp]
  have counted := (s.pairCounted_same c false first second).mono (m := [.chans, .clusters, .events, .parts, .regs]) (by decide)
  have ended : ∀ u fails, Same [.chans, .clusters, .events, .parts, .regs] u ((u.owCount c fails).visitEnd c true) := fun u fails => by
    simp [Same, ↓State.owCount_but, ↓State.visitEnd_but]
  exact counted.trans (ended _ _)

theorem State.owResult_off_other {d : Nat} (hd : d ≠ c) :
    (s.owResult c false first second).chan d = { s.chan d with late := ((s.owResult c false first second).chan d).late } := by
  rw [(State.owResult_off_pair first second hp).only.chans d hd, State.pairDelayed_other _ _ _ _ hd]

theorem State.owResult_off_late (d : Nat) : ((s.owResult c false first second).chan d).late =
    (s.chan d).late + s.delayBy c d (((s.sliceWindow c).ps + 250000) / 1000) := by
  by_cases hd : d = c
  · subst hd
    rw [(State.owResult_off_pair first second hp).late, State.pairDelayed_late]
  · rw [(State.owResult_off_pair first second hp).only.chans d hd, State.pairDelayed_other _ _ _ _ hd]

theorem State.owResult_off_round : (s.owResult c false first second).round (clOf c) (groupIn c) = s.roundAfter c true := by
  rw [State.owResult_off_end first second hp, State.visitEnd_round]
  have counted : RoundsKept s (s.pairCounted c false first second) := .of_same (s.pairCounted_same ..) (by decide) (by decide)
  have judged : ∀ u fails, RoundsKept u (u.owCount c fails) := fun u fails =>
    .of_same (l := [.chans, .events, .regs]) (by apply State.owCount_but <;> decide) (by decide) (by decide)
  exact State.roundAfter_eq (counted.trans (judged _ _)) c true

theorem State.owResult_off_regs :
    RegsBut s (s.owResult c false first second) [clsChargePos (clOf c) (c % 64), clsChargeNeg (clOf c) (c % 64), evEventsLost] := by
  intro k hk
  rw [(State.owResult_off_pair first second hp).regs k hk, (s.pairDelayed_same ..).get_reg (by decide)]

end

/-- A failing pair that sets OPEN_WIRE is raised. -/
theorem State.owResult_off_recorded {s : State} {c : Nat} (first second : Visit) (hp : (s.chan c).marginPend = none)
    (hf : pairFails false (resultOf (s.sliceWindow c).ps first.mean) (resultOf (s.pairWindow c).ps second.mean) = true)
    (h : 1 ≤ (s.chan c).owFails) (hw : (s.chan c).openWire = false) (he : s.enters (clOf c + 1)) :
    (s.owResult c false first second).recorded (clOf c + 1) 0x14 (s.chPart c) false (two c) := by
  rw [State.owResult_off_end first second hp, hf]
  have same := s.pairCounted_same c false first second
  obtain ⟨fails, -, wire⟩ := (ChanX.tally_eq_iff ..).mp (s.pairCounted_tally c false first second).chan
  have part : (s.pairCounted c false first second).chPart c = s.chPart c := by
    unfold State.chPart State.kind State.act
    rw [same.active (by decide)]
  have enters : (s.pairCounted c false first second).enters (clOf c + 1) := by
    unfold State.enters
    rwa [same.mgmtDown (by decide), same.stalled (by decide)]
  rw [← part]
  exact State.visitEnd_recorded (State.owCount_recorded (by rwa [fails]) (by rwa [wire]) enters) c true

theorem openWireResult_off_answers (c : Fin 512) (first second : Visit) (a b : Nat) (s : State) (ho : s.owNext c = some false)
    (hm : s.measures c = true) (hd : s.visitDue c (s.pairEnds c) = true) (hp : (s.chan c).marginPend = none)
    (ha : a = resultOf (s.sliceWindow c).ps first.mean) (hb : b = resultOf (s.pairWindow c).ps second.mean) :
    Answers (.openWireResult c first second) s (fun t => Same [.chans, .clusters, .events, .parts, .regs] s t ∧
      (∀ d, d ≠ c.val → t.chan d = { s.chan d with late := (t.chan d).late }) ∧
      (∀ d, (t.chan d).late = (s.chan d).late +
        if d ∈ s.boundIn (clOf c) (groupIn c) then ((s.sliceWindow c).ps + 250000) / 1000 else 0) ∧
      (t.round (clOf c) (groupIn c)).tested = (s.boundIn (clOf c) (groupIn c)).any (fun d => decide (c.val < d)) ∧
      RegsBut s t [clsChargePos (clOf c) (c.val % 64), clsChargeNeg (clOf c) (c.val % 64), evEventsLost] ∧
      (65536000000 ≤ ((a : Int) - b) * 2400000 → (t.chan c).owFails = (s.chan c).owFails + 1 ∧ (t.chan c).owPasses = 0 ∧
        (1 ≤ (s.chan c).owFails → (t.chan c).openWire = true ∧
          ((s.chan c).openWire = false → s.enters (clOf c + 1) → t.recorded (clOf c + 1) 0x14 (s.chPart c) false (two c)))) ∧
      (((a : Int) - b) * 2400000 < 65536000000 → (t.chan c).owFails = 0 ∧ (t.chan c).owPasses = (s.chan c).owPasses + 1 ∧
        (1 ≤ (s.chan c).owPasses → (t.chan c).openWire = false))) := by
  have after : VisitKept ChanX.tally [] c ((s.pairCounted c false first second).owCount c
      (pairFails false (resultOf (s.sliceWindow c).ps first.mean) (resultOf (s.pairWindow c).ps second.mean))) (s.owResult c false first second) := by
    rw [State.owResult_off_end first second hp]
    exact (State.visitEnd_measured ..).tally
  have before := s.pairCounted_tally c false first second
  have recorded := State.owResult_off_recorded first second hp
  subst ha hb
  rw [pairFails_off] at after recorded
  refine ⟨_, exec_openWireResult first second ho hm hd, State.owResult_off_same first second hp,
    fun d => State.owResult_off_other first second hp, State.owResult_off_late first second hp, ?_, State.owResult_off_regs first second hp,
    fun fails => ?_, fun passes => ?_⟩
  · rw [State.owResult_off_round first second hp]
    unfold State.roundAfter
    simp
  · rw [decide_eq_true fails] at after
    obtain ⟨count, passes, opened⟩ := owCount_fails_of_tally before after
    exact ⟨count, passes, fun again => ⟨opened again, recorded (decide_eq_true fails) again⟩⟩
  · rw [decide_eq_false (by omega)] at after
    exact owCount_passes_of_tally before after

/-- What a visit that is due leaves in the record of its channel, the tables, the round and the counters. -/
theorem sliceResult_visit (c : Fin 512) (v : Visit) (s : State) (hm : s.measures c = true) (hd : s.visitDue c (s.windowEnds c) = true)
    (ho : s.owNext c = none) : Answers (.sliceResult c v) s (fun t =>
      Same Fld.visit s t ∧
      (11 ∉ s.islandBad → Tabled c (resultOf (s.sliceWindow c).ps v.mean) (s.ctr (clOf c))
        ((s.sliceWindow c).rail (resultOf (s.sliceWindow c).ps v.mean)) s t) ∧
      (t.chan c).result = (resultOf (s.sliceWindow c).ps v.mean, s.ctr (clOf c), (s.sliceWindow c).rail (resultOf (s.sliceWindow c).ps v.mean), false, 0) ∧
      t.nextIn (clOf c) (groupIn c) =
        ((s.boundIn (clOf c) (groupIn c)).find? (fun d => decide (c.val < d))).or (s.boundIn (clOf c) (groupIn c)).head? ∧
      t.round (clOf c) (groupIn c) = s.roundAfter c false ∧
      ((s.sliceWindow c).kind = 2 → Charged c (s.visitCharge c (s.sliceWindow c) v.mean v.gap) s t)) := by
  obtain ⟨t, run, left⟩ := sliceResult_answers v hm hd ho
  refine ⟨t, run, (s.visited_same c v).trans left.same, fun up => (s.visited_tabled c v up).trans left.measured.result, ?_,
    State.visited_next left, ?_, fun kind => ?_⟩
  · rw [left.measured.result.chan, State.visited_result]
  · rw [left.rounds.round, State.visited_round]
  · exact (s.visited_charged c v kind).of_kept ⟨rfl, rfl, fun _ _ => rfl⟩ left.measured.charge

/-- Settles O15: a visit publishes its result and then only drives what leaves its measurement; a pair counts two visits, its outcome, and publishes
its mean where its channel runs. -/
theorem sliceResultsAndOpenWireTests : Obligations.SliceResultsAndOpenWireTests := by
  unfold Obligations.SliceResultsAndOpenWireTests
  refine ⟨⟨fun c v s hm hd ho => ?_, fun c v s h => exec_sliceResult_idle v h⟩, openWireTest_answers, pairMean_near, fun c s => State.owNext_tested,
    openWireResult_run_answers, openWireResult_off_answers, fun c first second s => exec_openWireResult_idle first second⟩
  obtain ⟨t, run, same, tabled, result, next, round, charged⟩ := sliceResult_visit c v s hm hd ho
  obtain ⟨res, resAt, rail, stale, late⟩ := (ChanX.result_eq_iff ..).mp result
  refine ⟨t, run, same, fun up => ?_, res, resAt, rail, stale, late, next, by rw [round]; rfl, fun kind q hq => ?_⟩
  · obtain ⟨shown, stamp, value, least, most⟩ := tabled up
    exact ⟨shown, stamp, value, by rw [least, shown], by rw [most, shown]⟩
  · have entered := charged kind
    rw [State.visitCharge, ← hq] at entered
    exact ⟨entered.pos, entered.neg⟩

end Sys2Proof.Machine

namespace Sys2Proof.Machine

/-! ### Which configuration a command on a channel meets (R16, R19) -/

theorem State.swapIfDue_of_none {s : State} (h : s.noSwapDue) : s.swapIfDue = s := by
  unfold State.swapIfDue
  split
  · rfl
  · exact if_neg (by simp [h _ ‹_›])

theorem State.swapIfDue_of_due {s : State} {a : Armed} (h : s.armed = some a) (due : s.swapDue a = true) : s.swapIfDue = s.swap a := by
  unfold State.swapIfDue
  rw [h]
  exact if_pos due

/-- After a swap no commit is armed. -/
theorem State.swap_noSwapDue (s : State) (a : Armed) : (s.swap a).noSwapDue := by
  obtain ⟨-, -, -, -, armed, -, -⟩ := s.swap_banks a
  intro b hb
  rw [armed] at hb
  cases hb

theorem State.inBank_active {s : State} {n : Nat} (h : s.lags n = false) (f : State → State) : s.inBank n f = f s := if_neg (by simp [h])

theorem State.inBank_prior {s : State} {n : Nat} (h : s.lags n = true) (f : State → State) : s.inBank n f =
    ({ f { s with active := s.prior } with active := s.active }).each (List.range 4) (fun s d => s.driveSync d) := if_pos h

theorem State.noSwapAt.runs {s : State} {n : Nat} (h : s.noSwapAt n) (f : State → State) : s.swapIfDue.inBank n f = f s := by
  rw [State.swapIfDue_of_none h.1, State.inBank_active h.2]

theorem exec_windowExit {c : Fin 512} {x : Crossing} {s : State} (h : s.noSwapAt (clOf c)) (hk : s.kind c ≠ 0) (ha : s.asserts c x = true) :
    exec (.windowExit c x) s = .next (s.exitAt c x.side) := by
  change ok _ = _
  rw [h.runs, if_neg (by simp [hk, ha])]
  rfl

theorem exec_windowExit_quiet {c : Fin 512} {x : Crossing} {s : State} (h : s.noSwapAt (clOf c)) (ha : s.asserts c x = false) :
    exec (.windowExit c x) s = .next s := by
  change ok _ = _
  rw [h.runs, if_pos (by simp [ha])]
  rfl

theorem exec_windowEnter {c : Fin 512} {v : Int} {s : State} (h : s.noSwapAt (clOf c)) (hk : s.kind c ≠ 0) :
    exec (.windowEnter ⟨c, v⟩) s = .next (s.enterAt c v) := by
  change ok _ = _
  rw [h.runs, if_neg hk]
  rfl

theorem exec_windowEnter_unused {c : Fin 512} {v : Int} {s : State} (h : s.noSwapAt (clOf c)) (hk : s.kind c = 0) :
    exec (.windowEnter ⟨c, v⟩) s = .next s := by
  change ok _ = _
  rw [h.runs, if_pos hk]
  rfl

theorem exec_settleTimeExpire {c : Fin 512} {s : State} (h : s.noSwapAt (clOf c)) :
    exec (.settleTimeExpire c) s = .next (s.settleBy c (s.ctr (clOf c))) := by
  change ok _ = _
  rw [h.runs]
  rfl

theorem exec_deadlineExpire {c : Fin 512} {s : State} (h : s.noSwapAt (clOf c)) :
    exec (.deadlineExpire c) s = .next ((s.settleBy c (s.ctr (clOf c))).deadlineBy c (s.ctr (clOf c))) := by
  change ok _ = _
  rw [h.runs]
  rfl

/-- A due swap comes first: after it the command meets no due swap (R19). -/
theorem exec_timed_due {s : State} {a : Armed} (h : s.armed = some a) (due : s.swapDue a = true) (c : Fin 512) (x : Crossing) (v : Int) :
    exec (.windowExit c x) s = exec (.windowExit c x) (s.swap a) ∧ exec (.windowEnter ⟨c, v⟩) s = exec (.windowEnter ⟨c, v⟩) (s.swap a) ∧
      exec (.settleTimeExpire c) s = exec (.settleTimeExpire c) (s.swap a) ∧
      exec (.deadlineExpire c) s = exec (.deadlineExpire c) (s.swap a) := by
  have first := State.swapIfDue_of_due h due
  have then' := State.swapIfDue_of_none (s.swap_noSwapDue a)
  change ok _ = ok _ ∧ ok _ = ok _ ∧ ok _ = ok _ ∧ ok _ = ok _
  rw [first, then']
  exact ⟨rfl, rfl, rfl, rfl⟩

/-! ### The compare (R101, R104) -/

theorem State.asserts_iff (s : State) (c : Nat) (x : Crossing) : s.asserts c x = true ↔ 10 * s.act (chDeglitch c) ≤ x.held ∧
    (x.side = .upper → (s.act (chUpperCode c) : Int) * 2343750 < x.pin) ∧
    (x.side = .lower → x.pin < (s.act (chLowerCode c) : Int) * 2343750) := by
  unfold State.asserts codeNv
  cases x.side <;> simp

theorem State.clearsAt_iff (s : State) (c : Nat) (outs : Bool × Bool) (v : Int) : s.clearsAt c outs v = true ↔
    (outs.1 = true → v < (s.act (chUpperCode c) : Int) * 2343750 - s.act (chHysteresis c) * 2343750) ∧
    (outs.2 = true → (s.act (chLowerCode c) : Int) * 2343750 + s.act (chHysteresis c) * 2343750 < v) := by
  unfold State.clearsAt codeNv
  cases outs.1 <;> cases outs.2 <;> simp

/-! ### Connected channels (R54, R58) -/

theorem State.connected_iff (s : State) (c : Nat) : s.connected c = true ↔ (s.part (s.chPart c)).line = false ∧
    (s.kind c = 1 ∧ ((s.chan c).state = .running ∨ (s.chan c).state = .margin) ∨
      s.kind c = 2 ∧ (s.chan c).state ≠ .tripped ∧ ((s.chan (s.act (chCompanion c))).state = .running ∨
        (s.chan (s.act (chCompanion c))).state = .margin)) := by
  unfold State.connected State.chState
  by_cases voltage : s.kind c = 1
  · simp [voltage, and_comm]
  · by_cases current : s.kind c = 2
    · by_cases tripped : (s.chan c).state = .tripped
      · simp [current, tripped]
      · simp [current, tripped, and_comm]
    · simp [voltage, current]

theorem State.connected_kind {s : State} {c : Nat} (h : s.connected c = true) : s.kind c ≠ 0 := by
  obtain ⟨-, ⟨voltage, -⟩ | ⟨current, -⟩⟩ := (s.connected_iff c).mp h
  · omega
  · omega

theorem State.connected_line {s : State} {c : Nat} (h : s.connected c = true) : (s.part (s.chPart c)).line = false := ((s.connected_iff c).mp h).1

/-- What is connected depends on a channel that is RUNNING or MARGIN. -/
theorem State.connected_owner {s : State} {c : Nat} (h : s.connected c = true) :
    (s.chan (s.stateOwner c)).state = .running ∨ (s.chan (s.stateOwner c)).state = .margin := by
  unfold State.stateOwner
  obtain ⟨-, ⟨voltage, runs⟩ | ⟨current, -, runs⟩⟩ := (s.connected_iff c).mp h
  · rwa [if_neg (by omega)]
  · rwa [if_pos current]

/-! ### The timers of a channel (R53, R55, R57) -/

theorem State.settles_iff (s : State) (c t : Nat) : s.settles c t = true ↔ s.kind c = 1 ∧ s.inWindow c = true ∧ s.settleDue c < t ∧
    (s.cluster (clOf c)).clockLost = false ∧ ((s.chan c).state = .settle ∧ s.settleDue c ≤ s.deadlineDue c ∨
      (s.chan c).state = .absent ∧ s.act (chAbsentEn c) = 0) := by
  unfold State.settles
  cases (s.chan c).state <;> simp [and_assoc]

/-- Up to its tick, and out of window, the settle timer does not act. -/
theorem State.settles_early {s : State} {c t : Nat} (h : t ≤ s.settleDue c) : s.settles c t = false := by
  rw [Bool.eq_false_iff, ne_eq, State.settles_iff]
  rintro ⟨-, -, due, -⟩
  omega

theorem State.settles_outside {s : State} {c : Nat} (h : s.inWindow c = false) (t : Nat) : s.settles c t = false := by
  rw [Bool.eq_false_iff, ne_eq, State.settles_iff]
  rintro ⟨-, inside, -⟩
  rw [h] at inside
  cases inside

theorem State.settleBy_idle {s : State} {c t : Nat} (h : s.settles c t = false) : s.settleBy c t = s := if_neg (by simp [h])

theorem State.settleBy_settle {s : State} {c t : Nat} (h : s.settles c t = true) (hs : (s.chan c).state = .settle) :
    s.settleBy c t = (s.toState c .running (s.settleDue c)).gateTrip c := by
  unfold State.settleBy
  rw [if_pos h, if_neg (by simp [hs])]

theorem State.settleBy_absent {s : State} {c t : Nat} (h : s.settles c t = true) (hs : (s.chan c).state = .absent) :
    s.settleBy c t = (s.recover c (s.settleDue c)).gateTrip c := by
  unfold State.settleBy
  rw [if_pos h, if_pos hs]

/-- The deadline of a channel was reached before a tick, and no settle timer has won over it. -/
def State.misses (s : State) (c t : Nat) : Prop := s.kind c = 1 ∧ s.deadlineDue c < t ∧ (s.cluster (clOf c)).clockLost = false ∧
  ((s.chan c).state = .armed ∨ (s.chan c).state = .ramp ∨
    (s.chan c).state = .settle ∧ ¬ (s.inWindow c = true ∧ s.settleDue c ≤ s.deadlineDue c))

/-- A channel that misses its deadline has no settle timer that wins. -/
theorem State.misses.settles {s : State} {c t : Nat} (h : s.misses c t) (t' : Nat) : s.settles c t' = false := by
  obtain ⟨-, -, -, waits⟩ := h
  rw [Bool.eq_false_iff, ne_eq, State.settles_iff]
  rintro ⟨-, inside, -, -, ⟨settle, first⟩ | ⟨absent, -⟩⟩
  · simp only [settle, reduceCtorEq, false_or, true_and] at waits
    exact waits ⟨inside, first⟩
  · simp [absent] at waits

theorem State.deadlineBy_acts {s : State} {c t : Nat} (h : s.misses c t) : s.deadlineBy c t = s.goAbsent c (s.deadlineDue c) := by
  obtain ⟨voltage, late, runs, waits⟩ := h
  unfold State.deadlineBy
  extract_lets due
  rw [if_pos ⟨voltage, late, runs⟩]
  rcases waits with armed | ramp | ⟨settle, lost⟩
  · rw [armed]
  · rw [ramp]
  · rw [settle]
    exact if_neg lost

theorem State.deadlineBy_idle {s : State} {c t : Nat} (h : ¬ s.misses c t) : s.deadlineBy c t = s := by
  unfold State.deadlineBy
  extract_lets due
  split
  · rename_i reached
    obtain ⟨voltage, late, runs⟩ := reached
    split
    · exact absurd ⟨voltage, late, runs, .inl ‹_›⟩ h
    · exact absurd ⟨voltage, late, runs, .inr (.inl ‹_›)⟩ h
    · refine if_pos ?_
      by_contra lost
      exact h ⟨voltage, late, runs, .inr (.inr ⟨‹_›, lost⟩)⟩
    · rfl
  · rfl

theorem State.timersIdle.settles {s : State} {c : Nat} (h : s.timersIdle c) : s.settles c (s.ctr (clOf c)) = false := by
  rw [Bool.eq_false_iff, ne_eq, State.settles_iff]
  rintro ⟨voltage, -, due, -, waits⟩
  have early := (h voltage).1 (waits.imp And.left And.left)
  omega

theorem State.timersIdle.misses {s : State} {c : Nat} (h : s.timersIdle c) : ¬ s.misses c (s.ctr (clOf c)) := by
  rintro ⟨voltage, late, -, waits⟩
  have early := (h voltage).2 (waits.imp id (Or.imp id And.left))
  omega

theorem State.timersBy_unchanged {s : State} {c : Nat} (h : s.settles c (s.ctr (clOf c)) = false) (h' : ¬ s.misses c (s.ctr (clOf c))) :
    s.timersBy c = s := by
  unfold State.timersBy
  extract_lets t
  rw [State.settleBy_idle h, State.deadlineBy_idle h', State.settleBy_idle h]

theorem State.timersBy_idle {s : State} {c : Nat} (h : s.timersIdle c) : s.timersBy c = s := State.timersBy_unchanged h.settles h.misses

/-- No timer runs for a channel that is RUNNING or MARGIN. -/
theorem State.timersIdle_of_runs {s : State} {c : Nat} (h : (s.chan c).state = .running ∨ (s.chan c).state = .margin) : s.timersIdle c := by
  intro _
  rcases h with running | margin
  · simp [running]
  · simp [margin]

/-! ### The exit of a channel (R53 to R58) -/

/-- The output of a comparator is asserted, and the captures of it have seen that. -/
def State.exitSeen (s : State) (c : Nat) (side : Side) : State :=
  let x := (s.chan c).setCmp side true
  let t := s.ctr (clOf c)
  let s' := s.setChan c { x with exitAt := if s.inWindow c then some t else x.exitAt,
                                 upperAt := if side = .upper then some t else x.upperAt }
  if side = .upper then s'.noteCap (fun src d _ => src == 7 && d == c) t else s'

theorem State.windowExit_outside {s : State} {c : Nat} (h : s.inWindow c = false) (side : Side) : s.windowExit c side = s.exitSeen c side := by
  unfold State.windowExit
  extract_lets wasIn joined x t u v
  exact if_pos (by simp [wasIn, h])

theorem State.windowExit_joined {s : State} {c : Nat} (h : s.inWindow c = true) (hj : s.connected c = true) (side : Side) :
    s.windowExit c side = (s.exitSeen c side).trip c side := by
  unfold State.windowExit
  extract_lets wasIn joined x t u v
  rw [if_neg (by simp [wasIn, h]), if_pos (by simp [joined, hj])]
  rfl

theorem State.windowExit_unjoined {s : State} {c : Nat} (h : s.inWindow c = true) (hj : s.connected c = false) (hc : s.cutNow c = false)
    (side : Side) : s.windowExit c side = (s.exitSeen c side).exitUnjoined c := by
  unfold State.windowExit
  extract_lets wasIn joined x t u v
  rw [if_neg (by simp [wasIn, h]), if_neg (by simp [joined, hj, hc])]
  rfl

theorem State.exitAt_lost {s : State} {c : Nat} (h : (s.cluster (clOf c)).clockLost = true) (side : Side) : s.exitAt c side =
    s.setChan c { s.chan c with lostCmp := some ((s.chan c).lostOuts.1 || side == .upper, (s.chan c).lostOuts.2 || side == .lower) } := if_pos h

theorem State.exitAt_idle {s : State} {c : Nat} (h : (s.cluster (clOf c)).clockLost = false) (ht : s.timersIdle (s.stateOwner c)) (side : Side) :
    s.exitAt c side = s.windowExit c side := by
  unfold State.exitAt
  rw [if_neg (by simp [h]), State.timersBy_idle ht]

theorem State.exitSeen_same (s : State) (c : Nat) (side : Side) : Same [.caps, .chans] s (s.exitSeen c side) := by
  unfold State.exitSeen
  extract_lets x t u
  have set : Same [.caps, .chans] s u := State.setChan_but _ _ _ _ (by decide)
  split
  · exact set.trans (State.noteCap_but _ _ _ _ (by decide))
  · exact set

theorem ChanX.setCmp_state (x : ChanX) (side : Side) (b : Bool) : (x.setCmp side b).state = x.state := by cases side <;> rfl

/-- An exit is seen in the record of its channel alone, which keeps its state. -/
theorem State.exitSeen_chan (s : State) (c : Nat) (side : Side) : (∀ d, d ≠ c → (s.exitSeen c side).chan d = s.chan d) ∧
    ((s.exitSeen c side).chan c).state = (s.chan c).state ∧ (s.exitSeen c side).inWindow c = false := by
  unfold State.exitSeen State.inWindow
  extract_lets x t u
  have noted : ∀ d, (if side = .upper then u.noteCap (fun src d _ => src == 7 && d == c) t else u).chan d = u.chan d := fun d => by
    split
    · exact Same.get_chan (l := [.caps]) (State.noteCap_but _ _ _ _ (by decide)) (by decide) d
    · rfl
  simp only [noted]
  refine ⟨fun d hd => State.setChan_chan_ne _ _ _ _ hd, ?_, ?_⟩
  · simp only [u, State.setChan_chan_same]
    exact (s.chan c).setCmp_state side true
  · simp only [u, State.setChan_chan_same, x]
    cases side <;> simp [ChanX.setCmp]

end Sys2Proof.Machine

namespace Sys2Proof.Machine

/-! ### What the entry of a state leaves (Tables 2-3 and 2-6) -/

/-- The registers after a channel has entered a state at a tick: STATE_SINCE, and what the state counts. -/
def State.stateCounted (s : State) (c : Nat) (st : ChanState) (at_ : Nat) : State :=
  let s := s.setReg (chsStateSince c) at_
  match st with
  | .tripped => (s.bump16 (chsTripCount c)).setReg (chsLastTripTick c) at_
  | .absent => s.bump16 (chsAbsentCount c)
  | _ => s

/-- The registers of the counters of a state. -/
def ChanState.counters (st : ChanState) (c : Nat) : List Nat :=
  match st with
  | .tripped => [chsTripCount c, chsLastTripTick c]
  | .absent => [chsAbsentCount c]
  | _ => []

theorem State.toState_same (s : State) (c : Nat) (st : ChanState) (at_ : Nat) :
    Same [.caps, .chans, .entries, .regs, .trims] s (s.toState c st at_) := by
  apply State.toState_but <;> decide

theorem State.toState_reg (s : State) (c : Nat) (st : ChanState) (at_ k : Nat) :
    (s.toState c st at_).reg k = (s.stateCounted c st at_).reg k := by
  unfold State.toState
  extract_lets x t u v
  have steered : Same [.entries, .trims] v (v.trimFollow c st) := by apply State.trimFollow_but <;> decide
  have noted : Same [.caps] (t.setReg (chsStateSince c) at_) u := State.noteCap_but _ _ _ _ (by decide)
  have begun : u.regs = (s.setReg (chsStateSince c) at_).regs := noted.regs (by decide)
  have counted : v.regs = (s.stateCounted c st at_).regs := by
    clear_value u
    unfold State.stateCounted
    cases st <;> simp [v, State.setReg, State.reg, begun]
  unfold State.reg
  rw [steered.regs (by decide), counted]

theorem State.stateCounted_regs (s : State) (c : Nat) (st : ChanState) (at_ : Nat) :
    RegsBut s (s.stateCounted c st at_) (chsStateSince c :: st.counters c) := by
  have stamped : ∀ l, RegsBut s (s.setReg (chsStateSince c) at_) (chsStateSince c :: l) := fun l => RegsBut.setReg (.refl s _) (by simp)
  unfold State.stateCounted
  cases st with
  | tripped => exact RegsBut.setReg (RegsBut.bump16 (stamped _) (by simp [ChanState.counters])) (by simp [ChanState.counters])
  | absent => exact RegsBut.bump16 (stamped _) (by simp [ChanState.counters])
  | _ => exact stamped _

theorem State.toState_regs (s : State) (c : Nat) (st : ChanState) (at_ : Nat) :
    RegsBut s (s.toState c st at_) (chsStateSince c :: st.counters c) :=
  fun k hk => (s.toState_reg c st at_ k).trans (s.stateCounted_regs c st at_ k hk)

theorem State.toState_since (s : State) (c : Nat) (st : ChanState) (at_ : Nat) : (s.toState c st at_).reg (chsStateSince c) = at_ := by
  rw [State.toState_reg]
  unfold State.stateCounted
  cases st <;> simp

theorem State.toState_absentCount (s : State) (c at_ : Nat) :
    (s.toState c .absent at_).reg (chsAbsentCount c) = sat16 (s.reg (chsAbsentCount c)) := by
  rw [State.toState_reg]
  simp [State.stateCounted]

theorem State.toState_tripCount (s : State) (c at_ : Nat) :
    (s.toState c .tripped at_).reg (chsTripCount c) = sat16 (s.reg (chsTripCount c)) := by
  rw [State.toState_reg]
  simp [State.stateCounted]

theorem State.toState_other (s : State) {c d : Nat} (h : d ≠ c) (st : ChanState) (at_ : Nat) : (s.toState c st at_).chan d = s.chan d := by
  rw [State.toState_chan, if_neg h]

/-- A change of state leaves the comparator outputs and the settle timer. -/
theorem State.toState_kept (s : State) (c : Nat) (st : ChanState) (at_ : Nat) : ((s.toState c st at_).chan c).settleAt = (s.chan c).settleAt ∧
    ((s.toState c st at_).chan c).rampSkip = (s.chan c).rampSkip ∧ ∀ d, (s.toState c st at_).inWindow d = s.inWindow d := by
  refine ⟨by rw [State.toState_chan, if_pos rfl], by rw [State.toState_chan, if_pos rfl], fun d => ?_⟩
  unfold State.inWindow
  rw [State.toState_chan]
  split
  · subst d
    rfl
  · rfl

/-! ### A channel that leaves window without being connected (Table 2-3) -/

theorem State.exitUnjoined_settle {s : State} {c : Nat} (h : (s.chan c).state = .settle) :
    s.exitUnjoined c = ((s.markTick c).toState c .ramp (s.ctr (clOf c))).bump16 (chsWindowExits c) := by
  unfold State.exitUnjoined
  rw [h]

theorem State.exitUnjoined_other {s : State} {c : Nat} (h : (s.chan c).state ≠ .settle) : s.exitUnjoined c = s := by
  unfold State.exitUnjoined
  split
  · exact absurd ‹_› h
  · rfl

theorem State.markTick_same (s : State) (c : Nat) : Same [.chans] s (s.markTick c) := State.markTick_but _ _ _ (by decide)

/-- The mark of what a channel was in a tick is in its record alone, and leaves the rest of that. -/
theorem State.markTick_chan (s : State) (c : Nat) : (∀ d, d ≠ c → (s.markTick c).chan d = s.chan d) ∧
    (s.markTick c).chan c = { s.chan c with mark := ((s.markTick c).chan c).mark } := by
  unfold State.markTick
  extract_lets x t
  split
  · exact ⟨fun _ _ => rfl, rfl⟩
  · exact ⟨fun d hd => State.setChan_chan_ne _ _ _ _ hd, by rw [State.setChan_chan_same]⟩

theorem State.exitUnjoined_same (s : State) (c : Nat) : Same [.caps, .chans, .entries, .regs, .trims] s (s.exitUnjoined c) := by
  apply State.exitUnjoined_but <;> decide

/-- What an exit that is no trip makes of a channel in SETTLE: it is in RAMP again, and the exit is counted. -/
theorem State.exitUnjoined_ramp {s : State} {c : Nat} (h : (s.chan c).state = .settle) :
    (∀ d, d ≠ c → (s.exitUnjoined c).chan d = s.chan d) ∧ RegsBut s (s.exitUnjoined c) [chsStateSince c, chsWindowExits c] ∧
      ((s.exitUnjoined c).chan c).state = .ramp ∧ (s.exitUnjoined c).reg (chsStateSince c) = s.ctr (clOf c) ∧
      (s.exitUnjoined c).reg (chsWindowExits c) = sat16 (s.reg (chsWindowExits c)) ∧ (s.exitUnjoined c).inWindow c = s.inWindow c := by
  rw [State.exitUnjoined_settle h]
  have marked := s.markTick_same c
  obtain ⟨others, own⟩ := s.markTick_chan c
  have window : (s.markTick c).inWindow c = s.inWindow c := by
    unfold State.inWindow
    rw [own]
  generalize s.markTick c = u at marked others own window
  have regs := u.toState_regs c .ramp (s.ctr (clOf c))
  obtain ⟨-, -, kept⟩ := u.toState_kept c .ramp (s.ctr (clOf c))
  have chan : ∀ d, ((u.toState c .ramp (s.ctr (clOf c))).bump16 (chsWindowExits c)).chan d = (u.toState c .ramp (s.ctr (clOf c))).chan d :=
    fun d => State.setReg_get_chan ..
  refine ⟨fun d hd => ?_, ?_, ?_, ?_, ?_, ?_⟩
  · rw [chan, State.toState_other _ hd, others d hd]
  · refine RegsBut.bump16 (fun k hk => ?_) (by simp)
    rw [regs k (by simp_all [ChanState.counters]), marked.get_reg (by decide)]
  · rw [chan, State.toState_state]
  · exact (State.setReg_reg_ne _ _ _ _ (by simp)).trans (u.toState_since ..)
  · refine (State.setReg_reg_same ..).trans (congrArg sat16 ?_)
    rw [regs _ (by simp [ChanState.counters]), marked.get_reg (by decide)]
  · rw [← window, ← kept c]
    unfold State.inWindow
    rw [chan]

end Sys2Proof.Machine

namespace Sys2Proof.Machine

/-! ### The enables in a shut-off (R113, R115) -/

theorem State.latchEn_en (s : State) (e k : Nat) (b : Bool) : (s.latchEn e b).en k =
    if k = e then { s.en e with
      asserted := b, order := none, changedAt := if (s.en e).asserted == b then (s.en e).changedAt else some (s.ctr (enCl e)) }
    else s.en k := by
  unfold State.latchEn
  extract_lets x t u
  have set : u.en k = if k = e then { x with asserted := b, order := none, changedAt := if x.asserted == b then x.changedAt else some t }
      else s.en k := State.setEn_get ..
  rw [← set]
  split
  · rfl
  · exact Same.get_en (l := [.caps]) (State.noteCap_but _ _ _ _ (by decide)) (by decide) k

/-- Each enable of a list without repeats takes its level, and no other one does. -/
theorem State.each_latchEn {l : List Nat} (nodup : l.Nodup) (g : Nat → Bool) (s : State) (k : Nat) :
    (k ∈ l → ((s.each l (fun s e => s.latchEn e (g e))).en k).asserted = g k) ∧
      (k ∉ l → (s.each l (fun s e => s.latchEn e (g e))).en k = s.en k) := by
  refine ⟨fun mem => ?_, fun out => State.each_keeps (fun s => s.en k) _ _ (fun u e he => ?_) s⟩
  · obtain ⟨u, -, after⟩ := State.each_unit (fun s => s.en k) (f := fun s e => s.latchEn e (g e)) nodup mem
      (fun u e _ other => by rw [State.latchEn_en, if_neg (Ne.symm other)]) s
    refine (congrArg EnX.asserted after).trans ?_
    rw [State.latchEn_en, if_pos rfl]
  · exact (u.latchEn_en e k (g e)).trans (if_neg (by rintro rfl; exact out he))

/-- The enables of the partition are inactive, but a discharge enable with a DISCHARGE_TIME; no other enable changes. -/
theorem State.cutEnables_en (s : State) (p : Nat) {e : Nat} (he : e < 256) :
    if s.act (chEnMode e) ≠ 0 ∧ s.act (chEnPartition e) = p then
      ((s.cutEnables p).en e).asserted = (s.isDischarge e && s.act (shutDischargeTime p) != 0)
    else (s.cutEnables p).en e = s.en e := by
  unfold State.cutEnables
  extract_lets time es t
  have mem : e ∈ s.ensOf p ↔ s.act (chEnMode e) ≠ 0 ∧ s.act (chEnPartition e) = p := by
    unfold State.ensOf
    simp [he]
  have kept : (if es.isEmpty then t else t.setPart p { t.part p with dischEnd := some (t.now + msTicks time), dischEns := es }).en e = t.en e := by
    split
    · rfl
    · exact State.setPart_get_en ..
  rw [kept]
  obtain ⟨own, other⟩ := State.each_latchEn (l := s.ensOf p) (List.nodup_range.filter _) (fun e => es.contains e) s e
  split
  · rename_i mine
    refine (own (mem.mpr mine)).trans ?_
    by_cases none' : time = 0
    · have rest : s.act (shutDischargeTime p) = 0 := none'
      simp [es, none', rest]
    · have timed : s.act (shutDischargeTime p) ≠ 0 := none'
      have member := mem.mpr mine
      simp [es, none', timed, member]
  · exact other (fun h => ‹¬ _› (mem.mp h))

/-! ### The channels in a shut-off (R56) -/

/-- A channel goes OFF at the tick after the present one, and its margin ends. -/
def State.cutOff (s : State) (c : Nat) : State :=
  (s.setChan c { s.chan c with marginSet := none, staticMgn := false, marginPend := none }).toState c .off (s.ctr (clOf c) + 1)

theorem State.cutOff_state (s : State) (c : Nat) : ((s.cutOff c).chan c).state = .off := State.toState_state ..

theorem State.cutOff_other (s : State) {c d : Nat} (h : d ≠ c) : (s.cutOff c).chan d = s.chan d := by
  unfold State.cutOff
  rw [State.toState_other _ h, State.setChan_chan_ne _ _ _ _ h]

theorem State.cutOff_regs (s : State) (c : Nat) : RegsBut s (s.cutOff c) [chsStateSince c] :=
  fun k hk => (State.toState_regs _ c .off _ k hk).trans (State.setChan_get_reg ..)

/-- A shut-off reaches the channels of partition p: their warnings end, and the connected ones keep its tick. -/
def State.cutMarked (s : State) (p : Nat) (quiet : Bool) : State :=
  let s := s.noteLost p
  let joined := ((s.chansOf p).filter (fun c => !(s.cluster (clOf c)).clockLost)).filter (fun c => s.connected c)
  (s.each joined (fun s c => s.warnEnd c quiet)).each joined (fun s c => s.markCut c)

/-- The channels that a shut-off of partition p takes to OFF. -/
def State.cutList (s : State) (p : Nat) (quiet : Bool) : List Nat :=
  let u := s.cutMarked p quiet
  (((s.noteLost p).chansOf p).filter (fun c => !((s.noteLost p).cluster (clOf c)).clockLost)).filter
    (fun c => u.kind c == 1 && (u.chan c).state != .off && (u.chan c).state != .tripped)

theorem State.cutChannels_eq (s : State) (p : Nat) (quiet : Bool) :
    s.cutChannels p quiet = (s.cutMarked p quiet).each (s.cutList p quiet) (fun s c => s.cutOff c) := rfl

theorem State.noteLost_same (s : State) (p : Nat) : Same [.clusters] s (s.noteLost p) := State.noteLost_but _ _ _ (by decide)

theorem State.cutMarked_same (s : State) (p : Nat) (quiet : Bool) : Same [.chans, .clusters, .events, .regs] s (s.cutMarked p quiet) := by
  unfold State.cutMarked
  extract_lets u joined
  have noted : Same [.chans, .clusters, .events, .regs] s u := (s.noteLost_same p).mono (by decide)
  refine (noted.trans (State.each_but _ _ _ _ (fun v c _ => ?_))).trans (State.each_but _ _ _ _ (fun v c _ => ?_))
  · apply State.warnEnd_but <;> decide
  · apply State.markCut_but; decide

theorem State.cutMarked_units (s : State) (p : Nat) (quiet : Bool) : UnitsKept s (s.cutMarked p quiet) := by
  unfold State.cutMarked
  extract_lets u joined
  have noted : UnitsKept s u := .of_same (s.noteLost_same p) (by decide)
  refine (noted.trans (.each (fun v c => ?_) _ _)).trans (.each (fun v c => ?_) _ _)
  · exact .ite (.refl v) (.each (fun w d => w.warnClear_unitsKept d quiet) _ v)
  · unfold State.markCut
    extract_lets x
    refine .ite ?_ (.refl v)
    exact v.setChan_unitsKept rfl

theorem State.cutMarked_objects (s : State) (p : Nat) (quiet : Bool) : ObjectsBut [0x1010] s (s.cutMarked p quiet) := by
  unfold State.cutMarked
  extract_lets u joined
  have noted : ObjectsBut [0x1010] s u := .of_same (s.noteLost_same p) (by decide) _
  refine (noted.trans (.each (fun v c => v.warnEnd_objects c quiet) _ _)).trans (.each (fun v c => ?_) _ _)
  exact .of_same (f := [.chans]) (State.markCut_but _ _ _ (by decide)) (by decide) _

theorem State.mem_cutList {s : State} {p c : Nat} {quiet : Bool} : c ∈ s.cutList p quiet ↔
    c < 512 ∧ s.kind c = 1 ∧ s.chPart c = p ∧ (s.cluster (clOf c)).clockLost = false ∧ ¬ (s.chan c).out := by
  have noted := s.noteLost_same p
  have marked := s.cutMarked_same p quiet
  have lost : ((s.noteLost p).cluster (clOf c)).clockLost = (s.cluster (clOf c)).clockLost := (s.noteLost_noted p).clockLost (by simp)
  have kind : (s.cutMarked p quiet).kind c = s.kind c := marked.get_act (by decide) _
  have mine : c ∈ (s.noteLost p).chansOf p ↔ c < 512 ∧ s.kind c ≠ 0 ∧ s.chPart c = p := by
    have act := noted.get_act (by decide)
    unfold State.chansOf State.chPart State.kind
    simp [act]
  unfold State.cutList ChanX.out
  simp only [List.mem_filter, mine, lost, kind, (s.cutMarked_units p quiet).chans, Bool.and_eq_true, Bool.not_eq_true', beq_iff_eq, bne_iff_ne,
    ne_eq, not_or]
  constructor
  · rintro ⟨⟨⟨small, -, part⟩, runs⟩, ⟨voltage, off⟩, tripped⟩
    exact ⟨small, voltage, part, runs, off, tripped⟩
  · rintro ⟨small, voltage, part, runs, off, tripped⟩
    exact ⟨⟨⟨small, by omega, part⟩, runs⟩, ⟨voltage, off⟩, tripped⟩

theorem State.cutList_nodup (s : State) (p : Nat) (quiet : Bool) : (s.cutList p quiet).Nodup :=
  ((List.nodup_range.filter _).filter _).filter _

/-- Every VOLTAGE channel of the partition is OFF or TRIPPED, where its cluster has its clock. -/
theorem State.cutChannels_out (s : State) {p c : Nat} (quiet : Bool) (hc : c < 512) (hk : s.kind c = 1) (hp : s.chPart c = p)
    (hl : (s.cluster (clOf c)).clockLost = false) : ((s.cutChannels p quiet).chan c).out := by
  by_cases out : (s.chan c).out
  · exact (s.cutChannels_outKept p quiet).keeps c out
  · obtain ⟨u, -, after⟩ := State.each_unit (fun s => s.chan c) (f := fun s c => s.cutOff c) (s.cutList_nodup p quiet)
      (State.mem_cutList.mpr ⟨hc, hk, hp, hl, out⟩) (fun u d _ other => u.cutOff_other (Ne.symm other)) (s.cutMarked p quiet)
    rw [State.cutChannels_eq, ChanX.out]
    exact .inl ((congrArg ChanX.state after).trans (u.cutOff_state c))

/-! ### Trips in a shut-off -/

/-- No trip is counted, and none is taken back. -/
structure TripsKept (s t : State) : Prop where
  counts : ∀ c, t.reg (chsTripCount c) = s.reg (chsTripCount c)
  tripped : ∀ c, (s.chan c).state = .tripped → (t.chan c).state = .tripped

theorem TripsKept.refl (s : State) : TripsKept s s := ⟨fun _ => rfl, fun _ h => h⟩

theorem TripsKept.trans {s t u : State} (h : TripsKept s t) (h' : TripsKept t u) : TripsKept s u :=
  ⟨fun c => (h'.counts c).trans (h.counts c), fun c hc => h'.tripped c (h.tripped c hc)⟩

theorem TripsKept.of_objects {f : List Fld} {b : List Nat} {s t : State} (h : Same f s t) (hc : Fld.chans ∉ f) (ho : ObjectsBut b s t)
    (hb : 0x2400 ∉ b) : TripsKept s t :=
  ⟨fun c => ho.at hb c _, fun c hs => by rwa [h.get_chan hc]⟩

theorem TripsKept.of_same {f : List Fld} {s t : State} (h : Same f s t) (hc : Fld.chans ∉ f) (hr : Fld.regs ∉ f) : TripsKept s t :=
  .of_objects h hc (.of_same h hr []) (by simp)

theorem TripsKept.ite {c : Prop} [Decidable c] {s t u : State} (ht : TripsKept s t) (hu : TripsKept s u) : TripsKept s (if c then t else u) := by
  split
  · exact ht
  · exact hu

theorem TripsKept.each {f : State → Nat → State} (h : ∀ u x, TripsKept u (f u x)) (l : List Nat) (s : State) : TripsKept s (s.each l f) :=
  State.each_rel .refl (fun _ _ _ => .trans) h l s

theorem State.marginDrop_trips (s : State) (c : Nat) : TripsKept s (s.marginDrop c) := by
  refine ⟨fun _ => rfl, fun d hd => ?_⟩
  unfold State.marginDrop
  rw [State.setChan_get]
  split
  · subst d
    exact hd
  · exact hd

theorem State.sweepEnd_trips (s : State) (p : Nat) : TripsKept s (s.sweepEnd p 2) := by
  unfold State.sweepEnd
  extract_lets b t u x src v w
  have freed : TripsKept s t := .of_same (f := [.waitMaint]) (State.but_waitMaint _ _ _ (by decide)) (by decide) (by decide)
  have ended : TripsKept t u := .ite (t.marginDrop_trips _) (.refl t)
  have marked : TripsKept u v := .of_same (f := [.parts]) (State.setPart_but _ _ _ _ (by decide)) (by decide) (by decide)
  have told : TripsKept v w := .of_objects (f := [.regs]) (by simp [Same, w, ↓State.setReg_but]) (by decide) (b := [0x34E0])
    (((v.setReg_objects (by decide) ..).trans (State.setReg_objects _ (by decide) ..)).trans (State.setReg_objects _ (by decide) ..)) (by decide)
  have raised : TripsKept w _ := .of_objects (w.raise_same (clOf b.chan + 1) 0x1D p false (two b.chan ++ [BitVec.ofNat 8 2])) (by decide)
    (w.raise_objects (l := [0x1010]) (by decide) ..) (by decide)
  exact .ite (.refl s) ((((freed.trans ended).trans marked).trans told).trans raised)

theorem State.benchAbort_trips (s : State) (p : Nat) : TripsKept s (s.benchAbort p 2) :=
  (s.sweepEnd_trips p).trans (.each (fun u c => u.marginDrop_trips c) _ _)

theorem State.cutChannels_trips (s : State) (p : Nat) (quiet : Bool) : TripsKept s (s.cutChannels p quiet) := by
  refine ⟨fun c => ?_, fun c hc => ?_⟩
  · rw [State.cutChannels_eq, State.each_keeps (fun s => s.reg (chsTripCount c)) _ _ (fun u d _ => u.cutOff_regs d _ (by simp))]
    exact (s.cutMarked_objects p quiet).at (by decide) _ _
  · have spared : c ∉ s.cutList p quiet := fun h => by
      obtain ⟨-, -, -, -, live⟩ := State.mem_cutList.mp h
      exact live (.inr hc)
    rw [State.cutChannels_eq, State.each_keeps (fun s => s.chan c) _ _
      (fun u d hd => u.cutOff_other (by rintro rfl; exact spared hd)), (s.cutMarked_units p quiet).chans, hc]

end Sys2Proof.Machine

namespace Sys2Proof.Machine

/-! ### The phases of a shut-off, for a partition of any number (R113) -/

/-- What a shut-off cuts of a partition beside its channels. -/
def State.cutRest (s : State) (p : Nat) : State :=
  let s := s.cutEnables p
  let s := s.trimsZero p
  let s := s.each (s.drivesOf p) (fun s d => s.driveHalt d)
  let s := s.psShutoff p
  s.cutSequence p

theorem State.cutUnits_eq (s : State) (p cause : Nat) :
    s.cutUnits p cause = ((s.capturesEnd p).cutChannels p (cause == 1)).cutRest p := rfl

theorem State.cutEnables_same (s : State) (p : Nat) : Same [.caps, .ens, .parts] s (s.cutEnables p) := by
  apply State.cutEnables_but <;> decide

theorem State.cutRest_after (s : State) (p : Nat) :
    Same [.actions, .drives, .events, .groups, .parts, .ports, .regs, .trims] (s.cutEnables p) (s.cutRest p) := by
  unfold State.cutRest
  extract_lets a b c d
  have zeroed : Same [.actions, .drives, .events, .groups, .parts, .ports, .regs, .trims] a b := by apply State.trimsZero_but; decide
  have halted : Same [.actions, .drives, .events, .groups, .parts, .ports, .regs, .trims] b c :=
    State.each_but _ _ _ _ (fun u x _ => by apply State.driveHalt_but <;> decide)
  have asked : Same [.actions, .drives, .events, .groups, .parts, .ports, .regs, .trims] c d := by apply State.psShutoff_but; decide
  exact ((zeroed.trans halted).trans asked).trans (by apply State.cutSequence_but <;> decide)

theorem State.cutRest_same (s : State) (p : Nat) :
    Same [.actions, .caps, .drives, .ens, .events, .groups, .parts, .ports, .regs, .trims] s (s.cutRest p) :=
  ((s.cutEnables_same p).mono (by decide)).trans ((s.cutRest_after p).mono (by decide))

theorem State.cutSequence_objects (s : State) (p : Nat) : ObjectsBut [0x2860] s (s.cutSequence p) := by
  unfold State.cutSequence
  extract_lets t x u
  have withdrawn : ObjectsBut [0x2860] s t := .of_same (f := [.actions]) (by apply State.withdraw_but; decide) (by decide) _
  have left : ObjectsBut [0x2860] t u := t.setPart_objects ..
  have zeroed : ObjectsBut [0x2860] u (u.groupZero (u.groupOf p)) := (u.setReg_objects (by decide) ..).trans
    (.of_same (f := [.groups]) (State.setGroup_but _ _ _ _ (by decide)) (by decide) _)
  exact .ite ((withdrawn.trans left).trans zeroed) (withdrawn.trans left)

theorem State.cutRest_objects (s : State) (p : Nat) : ObjectsBut [0x1010, 0x2860, 0x5010] s (s.cutRest p) := by
  unfold State.cutRest
  extract_lets a b c d
  have enables : ObjectsBut [0x1010, 0x2860, 0x5010] s a := .of_same (s.cutEnables_same p) (by decide) _
  have zeroed : ObjectsBut [0x1010, 0x2860, 0x5010] a b := .of_same (f := [.trims]) (by apply State.trimsZero_but; decide) (by decide) _
  have halted : ObjectsBut [0x1010, 0x2860, 0x5010] b c :=
    .each (fun u x => (u.setReg_objects (by decide) ..).trans ((State.driveSync_objects _ x).mono (by simp))) _ b
  have asked : ObjectsBut [0x1010, 0x2860, 0x5010] c d := .of_same (f := [.ports]) (by apply State.psShutoff_but; decide) (by decide) _
  exact (((enables.trans zeroed).trans halted).trans asked).trans ((d.cutSequence_objects p).mono (by simp))

theorem State.cutChannels_objects (s : State) (p : Nat) (quiet : Bool) : ObjectsBut [0x1010, 0x2400] s (s.cutChannels p quiet) := by
  rw [State.cutChannels_eq]
  exact ((s.cutMarked_objects p quiet).mono (by simp)).trans
    (.each (fun u c => (u.setChan_objects ..).trans ((State.toState_objects _ c ..).mono (by simp))) _ _)

theorem State.cutUnits_objects (s : State) (p cause : Nat) : ObjectsBut [0x1010, 0x2400, 0x2860, 0x5010] s (s.cutUnits p cause) := by
  rw [State.cutUnits_eq]
  have ended : ObjectsBut [0x1010, 0x2400, 0x2860, 0x5010] s (s.capturesEnd p) :=
    .of_same (f := [.caps]) (by apply State.capturesEnd_but; decide) (by decide) _
  exact (ended.trans ((State.cutChannels_objects ..).mono (by simp))).trans ((State.cutRest_objects ..).mono (by simp))

theorem State.driveFlt_objects (s : State) (n : Nat) : ObjectsBut [0x2700] s (s.driveFlt n) := by
  unfold State.driveFlt
  extract_lets g t
  have counted : ObjectsBut [0x2700] s t := .ite (.refl _ s) (s.setReg_objects (by decide) ..)
  exact counted.trans (.of_same (f := [.groups]) (State.setGroup_but _ _ _ _ (by decide)) (by decide) _)

theorem State.retryRule_objects (s : State) (p cause first up : Nat) :
    ObjectsBut [0x2710, 0x3020, 0x1010] s (s.retryRule p cause first up) := by
  unfold State.retryRule
  extract_lets x used0 used count out due t u v
  have counted : ObjectsBut [0x2710, 0x3020, 0x1010] s t := s.setReg_objects (by decide) ..
  have noted : ObjectsBut [0x2710, 0x3020, 0x1010] t u := t.setPart_objects ..
  have planned : ObjectsBut [0x2710, 0x3020, 0x1010] u v := u.setReg_objects (by decide) ..
  exact ((counted.trans noted).trans planned).trans ((v.toPart_objects ..).mono (by simp))

theorem State.retryRule_lines (s : State) (p cause first up : Nat) : LinesBut [p] s (s.retryRule p cause first up) := by
  unfold State.retryRule
  extract_lets x used0 used count out due t u v
  have noted : LinesBut [p] t u := ⟨fun q hq => by
    change ((t.setPart p _).part q).state = _ ∧ ((t.setPart p _).part q).line = _
    rw [State.setPart_get, if_neg (by simpa using hq)]
    exact ⟨rfl, rfl⟩⟩
  have counted : LinesBut [p] s t := .of_same (l := [.regs]) (State.setReg_but _ _ _ _ (by decide)) (by decide) _
  have planned : LinesBut [p] u v := .of_same (l := [.regs]) (State.setReg_but _ _ _ _ (by decide)) (by decide) _
  exact ((counted.trans noted).trans planned).trans ⟨(v.toPart_cutBut p _ _).lines⟩

theorem State.cutLine_objects (s : State) (p cause tick up : Nat) (spans : Bool) :
    ObjectsBut [0x2710, 0x2700, 0x3020, 0x1010] s (s.cutLine p cause tick up spans) := by
  unfold State.cutLine
  extract_lets src a b c
  have set : ObjectsBut [0x2710, 0x2700, 0x3020, 0x1010] s a := s.setPart_objects ..
  have ruled : ObjectsBut [0x2710, 0x2700, 0x3020, 0x1010] a b := (a.retryRule_objects ..).mono (by simp)
  have driven : ObjectsBut [0x2710, 0x2700, 0x3020, 0x1010] b c := .ite ((b.driveFlt_objects _).mono (by simp)) (.refl _ b)
  exact (((set.trans ruled).trans driven).trans (c.setReg_objects (by decide) ..)).trans
    ((State.setReg_objects _ (by decide) ..).trans (State.setReg_objects _ (by decide) ..))

theorem State.cutLine_same (s : State) (p cause tick up : Nat) (spans : Bool) :
    Same [.drives, .events, .groups, .parts, .regs] s (s.cutLine p cause tick up spans) := by
  unfold State.cutLine
  extract_lets src a b c
  have set : Same [.drives, .events, .groups, .parts, .regs] s a := State.setPart_but _ _ _ _ (by decide)
  have ruled : Same [.drives, .events, .groups, .parts, .regs] a b := by apply State.retryRule_but <;> decide
  have driven : Same [.drives, .events, .groups, .parts, .regs] b c := by
    simp only [c]
    split
    · apply State.driveFlt_but <;> decide
    · exact .refl _ b
  exact ((set.trans ruled).trans driven).trans (by simp [Same, ↓State.setReg_but])

/-- The line and the state of the partition that is cut, its registers of the shut-off, and the other partitions. -/
theorem State.cutLine_cuts (s : State) (p cause tick up : Nat) (spans : Bool) :
    ((s.cutLine p cause tick up spans).part p).line = true ∧ ((s.cutLine p cause tick up spans).part p).state.isFaulted = true ∧
      (s.cutLine p cause tick up spans).reg (shutsLastCause p) = cause ∧
      (s.cutLine p cause tick up spans).reg (shutsShutoffCount p) = sat16 (s.reg (shutsShutoffCount p)) ∧
      LinesBut [p] s (s.cutLine p cause tick up spans) := by
  unfold State.cutLine
  extract_lets src a b c
  have set : (a.part p).line = true ∧ LinesBut [p] s a := by
    refine ⟨?_, ⟨fun q hq => ?_⟩⟩
    · change ((s.setPart p _).part p).line = true
      rw [State.setPart_get, if_pos rfl]
    · change ((s.setPart p _).part q).state = _ ∧ ((s.setPart p _).part q).line = _
      rw [State.setPart_get, if_neg (by simpa using hq)]
      exact ⟨rfl, rfl⟩
  obtain ⟨faulted, line, regs⟩ := a.retryRule_faulted p cause tick up
  have driven : LinesBut [] b c ∧ ObjectsBut [0x2700] b c := by
    refine ⟨.ite (.of_same (l := [.groups, .regs]) ?_ (by decide) _) (.refl _ b), .ite (b.driveFlt_objects _) (.refl _ b)⟩
    apply State.driveFlt_but <;> decide
  have told : ∀ v w, LinesBut [] c (((c.bump16 (shutsShutoffCount p)).setReg (shutsLastShutoffTick p) v).setReg (shutsLastCause p) w) :=
    fun v w => .of_same (l := [.regs]) (by simp [Same, ↓State.setReg_but]) (by decide) _
  have count : c.reg (shutsShutoffCount p) = s.reg (shutsShutoffCount p) :=
    (driven.2.at (by decide) _ _).trans ((regs _ (by decide) (by decide)).trans (State.setPart_get_reg ..))
  obtain ⟨state, kept⟩ := (driven.1.trans (told _ _)).keeps p (by simp)
  refine ⟨kept.trans (line.trans set.1), by rw [state]; exact faulted, State.setReg_reg_same .., ?_,
    ((set.2.trans (a.retryRule_lines ..)).trans (driven.1.mono (by simp))).trans ((told _ _).mono (by simp))⟩
  rw [State.setReg_reg_ne _ _ _ _ (by simp), State.setReg_reg_ne _ _ _ _ (by simp)]
  exact (State.setReg_reg_same ..).trans (congrArg sat16 count)

theorem State.cutTold_same (s : State) (p cause : Nat) (cl : Option Nat) : Same [.events, .parts, .regs, .safeN] s (s.cutTold p cause cl) := by
  unfold State.cutTold
  have lowered : Same [.events, .parts, .regs, .safeN] s { s with safeN := false } := State.but_safeN _ _ _ (by decide)
  exact lowered.trans (by simp [Same, ↓State.bareMerge_but, ↓State.publishEntry_but])

theorem State.publishEntry_objects (s : State) (p cause dom : Nat) : ObjectsBut [0x1010] s (s.publishEntry p cause dom) :=
  (s.setPart_objects ..).trans (State.raise_objects _ (by decide) ..)

theorem State.cutTold_objects (s : State) (p cause : Nat) (cl : Option Nat) : ObjectsBut [0x1010] s (s.cutTold p cause cl) := by
  unfold State.cutTold
  have lowered : ObjectsBut [0x1010] s { s with safeN := false } := ⟨fun _ _ => rfl⟩
  have merged : ObjectsBut [0x1010] { s with safeN := false } ({ s with safeN := false }.bareMerge p) :=
    .of_same (f := [.parts]) (by apply State.bareMerge_but; decide) (by decide) _
  exact (lowered.trans merged).trans (State.publishEntry_objects ..)

/-- An event opens, and a sweep and the margins of the partition end. -/
def State.cutOpened (s : State) (p cause : Nat) : State := (s.openEvent p cause).benchAbort p 2

theorem State.cutOpened_same (s : State) (p cause : Nat) :
    Same [.caps, .chans, .entries, .events, .parts, .regs, .trims, .waitMaint] s (s.cutOpened p cause) :=
  Same.trans (t := s.openEvent p cause) (by apply State.openEvent_but; decide) (by apply State.benchAbort_but <;> decide)

theorem State.cutOpened_lines (s : State) (p cause : Nat) : LinesBut [] s (s.cutOpened p cause) :=
  ⟨((s.openEvent_cutBut p cause).trans (State.benchAbort_cutBut ..)).lines⟩

theorem State.cutOpened_objects (s : State) (p cause : Nat) : ObjectsBut [0x2400, 0x34E0, 0x1010] s (s.cutOpened p cause) := by
  have opened : ObjectsBut [0x2400, 0x34E0, 0x1010] s (s.openEvent p cause) :=
    .of_same (f := [.parts]) (by apply State.openEvent_but; decide) (by decide) _
  exact (opened.trans (State.sweepEnd_objects ..)).trans (.each (fun u c => (u.marginEnd_objects c 2).mono (by simp)) _ _)

theorem State.latchCause_same (s : State) (p cause : Nat) (cl : Option Nat) (tick upper lower line : Nat) :
    Same [.latches] s (s.latchCause p cause cl tick upper lower line) := by
  apply State.latchCause_but; decide

/-- A shut-off up to the cut of the units. -/
def State.cutBegun (s : State) (p cause : Nat) (cl : Option Nat) (tick upper lower line : Nat) : State :=
  (s.cutOpened p cause).latchCause p cause cl tick upper lower line

theorem State.cutBegun_same (s : State) (p cause : Nat) (cl : Option Nat) (tick upper lower line : Nat) :
    Same [.caps, .chans, .entries, .events, .latches, .parts, .regs, .trims, .waitMaint] s (s.cutBegun p cause cl tick upper lower line) :=
  ((s.cutOpened_same p cause).mono (by decide)).trans ((State.latchCause_same ..).mono (by decide))

theorem State.shutOff_steps (s : State) (p cause : Nat) (cl : Option Nat) (tick upper lower line : Nat) : ∃ up spans,
    s.shutOff p cause cl tick upper lower line =
      (((s.cutBegun p cause cl tick upper lower line).cutUnits p cause).cutLine p cause tick up spans).cutTold p cause cl := ⟨_, _, rfl⟩

end Sys2Proof.Machine

namespace Sys2Proof.Machine

/-! ### What a shut-off leads to, for a partition of any number (R113, R114, R118) -/

theorem State.capturesEnd_same (s : State) (p : Nat) : Same [.caps] s (s.capturesEnd p) := State.capturesEnd_but _ _ _ (by decide)

theorem State.cutChannels_same (s : State) (p : Nat) (quiet : Bool) :
    Same [.caps, .chans, .clusters, .entries, .events, .regs, .trims] s (s.cutChannels p quiet) := by
  apply State.cutChannels_but <;> decide

theorem State.cutUnits_same (s : State) (p cause : Nat) :
    Same [.actions, .caps, .chans, .clusters, .drives, .ens, .entries, .events, .groups, .parts, .ports, .regs, .trims] s (s.cutUnits p cause) := by
  rw [State.cutUnits_eq]
  exact (((s.capturesEnd_same p).mono (by decide)).trans ((State.cutChannels_same ..).mono (by decide))).trans
    ((State.cutRest_same ..).mono (by decide))

/-- After the units are cut, a shut-off changes no enable, channel, cluster or latch entry. -/
theorem State.cutTail_same (s : State) (p cause tick up : Nat) (spans : Bool) (cl : Option Nat) :
    Same [.drives, .events, .groups, .parts, .regs, .safeN] s ((s.cutLine p cause tick up spans).cutTold p cause cl) :=
  ((s.cutLine_same p cause tick up spans).mono (by decide)).trans ((State.cutTold_same ..).mono (by decide))

theorem State.cutUnits_en (s : State) (p cause : Nat) {e : Nat} (he : e < 256) :
    if s.act (chEnMode e) ≠ 0 ∧ s.act (chEnPartition e) = p then
      ((s.cutUnits p cause).en e).asserted = (s.isDischarge e && s.act (shutDischargeTime p) != 0)
    else (s.cutUnits p cause).en e = s.en e := by
  have before : Same [.caps, .chans, .clusters, .entries, .events, .regs, .trims] s ((s.capturesEnd p).cutChannels p (cause == 1)) :=
    ((s.capturesEnd_same p).mono (by decide)).trans (State.cutChannels_same ..)
  rw [State.cutUnits_eq]
  generalize (s.capturesEnd p).cutChannels p (cause == 1) = u at before
  have act := before.get_act (by decide)
  have cut := u.cutEnables_en p he
  have discharge : u.isDischarge e = s.isDischarge e := congrArg (bitOf · e) (act _)
  rw [(u.cutRest_after p).get_en (by decide), ← act, ← act, ← act, ← discharge, ← before.get_en (by decide)]
  exact cut

theorem State.cutUnits_out (s : State) {p c : Nat} (cause : Nat) (hc : c < 512) (hk : s.kind c = 1) (hp : s.chPart c = p)
    (hl : (s.cluster (clOf c)).clockLost = false) : ((s.cutUnits p cause).chan c).out := by
  have before := s.capturesEnd_same p
  rw [State.cutUnits_eq, (State.cutRest_same ..).get_chan (by decide)]
  refine State.cutChannels_out _ _ hc ?_ ?_ ?_
  · exact (before.get_act (by decide) _).trans hk
  · refine Eq.trans ?_ hp
    unfold State.chPart State.kind
    rw [before.get_act (by decide), before.get_act (by decide)]
  · rwa [before.get_cluster (by decide)]

theorem State.shutOff_same (s : State) (p cause : Nat) (cl : Option Nat) (tick upper lower line : Nat) :
    Same [.actions, .caps, .chans, .clusters, .drives, .ens, .entries, .events, .groups, .latches, .parts, .ports, .regs, .safeN, .trims,
      .waitMaint] s (s.shutOff p cause cl tick upper lower line) := by
  apply State.shutOff_but <;> decide

theorem State.shutOff_shutDown (s : State) (p cause : Nat) (cl : Option Nat) (tick upper lower line : Nat) :
    ShutDown s (s.shutOff p cause cl tick upper lower line) p cause := by
  have frame := s.shutOff_same p cause cl tick upper lower line
  obtain ⟨up, spans, steps⟩ := s.shutOff_steps p cause cl tick upper lower line
  rw [steps] at frame ⊢
  have begun := s.cutBegun_same p cause cl tick upper lower line
  have opened : LinesBut [] s (s.cutBegun p cause cl tick upper lower line) ∧
      ObjectsBut [0x2400, 0x34E0, 0x1010] s (s.cutBegun p cause cl tick upper lower line) :=
    ⟨(s.cutOpened_lines p cause).trans (.of_same (State.latchCause_same ..) (by decide) _),
      (s.cutOpened_objects p cause).trans (.of_same (State.latchCause_same ..) (by decide) _)⟩
  generalize s.cutBegun p cause cl tick upper lower line = b at begun opened frame
  have units : LinesBut [] b (b.cutUnits p cause) := ⟨(b.cutUnits_cutBut p cause).lines⟩
  have tail := (b.cutUnits p cause).cutTail_same p cause tick up spans cl
  have enables := fun e (he : e < 256) => b.cutUnits_en p cause he
  have channels := fun c (hc : c < 512) => b.cutUnits_out (p := p) (c := c) cause hc
  have unitsRegs := b.cutUnits_objects p cause
  generalize b.cutUnits p cause = u at units tail enables channels unitsRegs frame
  obtain ⟨line', faulted, lastCause, count, lines⟩ := u.cutLine_cuts p cause tick up spans
  have told : LinesBut [] (u.cutLine p cause tick up spans) _ := ⟨(State.cutTold_cutBut _ p cause cl).lines⟩
  have toldRegs := (u.cutLine p cause tick up spans).cutTold_objects p cause cl
  have act := begun.get_act (by decide)
  obtain ⟨state, kept⟩ := told.keeps p (by simp)
  refine ⟨kept.trans line', by rw [state]; exact faulted, State.cutTold_safeN .., (toldRegs.at (by decide) _ _).trans lastCause, ?_,
    frame.active (by decide), frame.shadow (by decide), fun e he => ?_, fun c hc hk hp hl => ?_, fun q _ hq => ?_⟩
  · refine (toldRegs.at (by decide) _ _).trans (count.trans (congrArg sat16 ?_))
    exact (unitsRegs.at (by decide) _ _).trans (opened.2.at (by decide) _ _)
  · have discharge : b.isDischarge e = s.isDischarge e := congrArg (bitOf · e) (act _)
    rw [tail.get_en (by decide), ← act, ← act, ← act, ← discharge, ← begun.get_en (by decide)]
    exact enables e he
  · rw [tail.get_chan (by decide)]
    refine channels c hc ((act _).trans hk) (Eq.trans ?_ hp) ((congrArg ClusterX.clockLost (begun.get_cluster (by decide) _)).trans hl)
    unfold State.chPart State.kind
    rw [act, act]
  · obtain ⟨state', kept'⟩ := ((((opened.1.trans units).mono (by simp)).trans lines).trans (told.mono (by simp))).keeps q (by simpa using hq)
    exact ⟨kept', state'⟩

theorem State.shutOff_trips (s : State) (p cause : Nat) (cl : Option Nat) (tick upper lower line : Nat) :
    TripsKept s (s.shutOff p cause cl tick upper lower line) := by
  obtain ⟨up, spans, steps⟩ := s.shutOff_steps p cause cl tick upper lower line
  rw [steps]
  have opened : TripsKept s (s.openEvent p cause) :=
    .of_same (f := [.parts]) (by apply State.openEvent_but; decide) (by decide) (by decide)
  have begun : TripsKept s (s.cutBegun p cause cl tick upper lower line) :=
    (opened.trans (State.benchAbort_trips ..)).trans (.of_same (State.latchCause_same ..) (by decide) (by decide))
  have units : ∀ b : State, TripsKept b (b.cutUnits p cause) := fun b => by
    rw [State.cutUnits_eq]
    exact ((TripsKept.of_same (b.capturesEnd_same p) (by decide) (by decide)).trans (State.cutChannels_trips ..)).trans
      (.of_objects (State.cutRest_same ..) (by decide) (State.cutRest_objects ..) (by decide))
  have lined : ∀ u : State, TripsKept u (u.cutLine p cause tick up spans) := fun u =>
    .of_objects (State.cutLine_same ..) (by decide) (State.cutLine_objects ..) (by decide)
  exact ((begun.trans (units _)).trans (lined _)).trans
    (.of_objects (State.cutTold_same ..) (by decide) (State.cutTold_objects ..) (by decide))

/-- A fault latch entry says that a cause came at a tick, with its sides. -/
def Latch.says (x : Latch) (cause tick upper lower : Nat) : Prop :=
  x.isSet = true ∧ x.firstTick = tick ∧ x.cause = cause ∧ x.upperMap = upper ∧ x.lowerMap = lower

theorem State.latchEntry_says (s : State) (n p cause tick upper lower line : Nat) :
    ((s.latchEntry n p cause tick upper lower line).latch n p).says cause tick upper lower := by
  unfold State.latchEntry
  rw [State.setLatch_get, if_pos rfl]
  unfold State.withResult
  split <;> exact ⟨rfl, rfl, rfl, rfl, rfl⟩

/-- A shut-off by a cause of one cluster sets the entry of that. -/
theorem State.shutOff_entry (s : State) (p cause n tick upper lower line : Nat) :
    ((s.shutOff p cause (some n) tick upper lower line).latch n p).says cause tick upper lower := by
  obtain ⟨up, spans, steps⟩ := s.shutOff_steps p cause (some n) tick upper lower line
  rw [steps, (State.cutTail_same ..).get_latch (by decide), (State.cutUnits_same ..).get_latch (by decide)]
  exact State.latchEntry_says ..

/-- A shut-off of a cause of one cluster is told as EV 0x10 of the island of that. -/
theorem State.shutOff_recorded (s : State) (p cause n tick upper lower line : Nat) (h : s.enters (n + 1)) :
    ∃ m, (s.shutOff p cause (some n) tick upper lower line).recorded (n + 1) 0x10 p false [BitVec.ofNat 8 cause, m] := by
  have frame := s.shutOff_same p cause (some n) tick upper lower line
  obtain ⟨up, spans, steps⟩ := s.shutOff_steps p cause (some n) tick upper lower line
  obtain ⟨mgmt, joined⟩ := h
  rw [← frame.mgmtDown (by decide)] at mgmt
  rw [← frame.stalled (by decide)] at joined
  rw [steps] at mgmt joined ⊢
  unfold State.cutTold State.publishEntry at mgmt joined ⊢
  rw [State.raise_mgmtDown] at mgmt
  rw [State.raise_stalled] at joined
  exact ⟨_, State.raise_recorded _ _ _ _ _ _ ⟨mgmt, joined⟩⟩

end Sys2Proof.Machine

namespace Sys2Proof.Machine

/-! ### A trip while the line of the partition is clear (R54, R56) -/

/-- A shut-off is one since an earlier state, from which no configuration, enable, clock or partition and not its count has changed. -/
theorem ShutDown.of_before {f : List Fld} {s u t : State} {p cause : Nat} (h : ShutDown u t p cause) (same : Same f s u)
    (hf : ∀ x ∈ [Fld.active, .shadow, .ens, .clusters, .parts], x ∉ f) (hc : u.reg (shutsShutoffCount p) = s.reg (shutsShutoffCount p)) :
    ShutDown s t p cause := by
  simp only [List.forall_mem_cons, List.not_mem_nil, false_implies, implies_true, and_true] at hf
  obtain ⟨active, shadow, ens, clusters, parts⟩ := hf
  obtain ⟨line, faulted, safe, last, count, act, shad, enables, channels, others⟩ := h
  have chPart : ∀ c, u.chPart c = s.chPart c := fun c => by
    unfold State.chPart State.kind
    rw [same.get_act active, same.get_act active]
  refine ⟨line, faulted, safe, last, by rw [count, hc], act.trans (same.active active), shad.trans (same.shadow shadow), fun e he => ?_,
    fun c hc hk hp hl => channels c hc ((same.get_act active _).trans hk) ((chPart c).trans hp) (by rwa [same.get_cluster clusters]),
    fun q hq ne => by rw [← same.get_part parts]; exact others q hq ne⟩
  have own := enables e he
  rwa [same.get_act active, same.get_act active, same.get_act active, same.get_en ens,
    show u.isDischarge e = s.isDischarge e from congrArg (bitOf · e) (same.get_act active _)] at own

/-- A channel that goes TRIPPED, before its record is entered. -/
def State.tripStart (s : State) (c tick : Nat) : State :=
  let s := (s.warnEnd c true).each ((s.companions c).filter (fun d => d != c)) (fun s d => s.markCut d)
  s.setChan c { (s.chan c).uncut tick with marginSet := none, staticMgn := false, marginPend := none }

theorem State.toTripped_eq (s : State) (c tick : Nat) :
    s.toTripped c tick = ((s.tripStart c tick).toState c .tripped (tick + 1)).setReg (chsLastTripTick c) tick := rfl

theorem State.toTripped_same (s : State) (c tick : Nat) :
    Same [.caps, .chans, .entries, .events, .regs, .trims] s (s.toTripped c tick) := by
  apply State.toTripped_but <;> decide

theorem State.tripStart_objects (s : State) (c tick : Nat) : ObjectsBut [0x1010] s (s.tripStart c tick) := by
  unfold State.tripStart
  extract_lets u
  have marked : ObjectsBut [0x1010] (s.warnEnd c true) u :=
    .each (fun v d => .of_same (f := [.chans]) (State.markCut_but _ _ _ (by decide)) (by decide) _) _ _
  exact ((s.warnEnd_objects c true).trans marked).trans (State.setChan_objects ..)

theorem State.toTripped_objects (s : State) (c tick : Nat) : ObjectsBut [0x1010, 0x2400] s (s.toTripped c tick) := by
  rw [State.toTripped_eq]
  exact (((s.tripStart_objects c tick).mono (by simp)).trans ((State.toState_objects ..).mono (by simp))).trans
    (State.setReg_objects _ (by decide) ..)

theorem State.toTripped_state (s : State) (c tick : Nat) : ((s.toTripped c tick).chan c).state = .tripped := by
  rw [State.toTripped_eq, State.setReg_get_chan, State.toState_state]

theorem State.toTripped_count (s : State) (c tick : Nat) : (s.toTripped c tick).reg (chsTripCount c) = sat16 (s.reg (chsTripCount c)) := by
  rw [State.toTripped_eq, State.setReg_reg_ne _ _ _ _ (by simp), State.toState_tripCount]
  exact congrArg sat16 ((s.tripStart_objects c tick).at (by decide) c 9)

/-- The map of a latch entry that has a channel on a side. -/
def sideMap (c : Nat) (side which : Side) : Nat := if side = which then 2 ^ (c % 64) else 0

theorem State.trip_clear {s : State} {c : Nat} (h : (s.part (s.chPart c)).line = false) (side : Side) :
    s.trip c side = (s.toTripped c (s.ctr (clOf c))).shutOff (s.chPart c) 1 (some (clOf c)) (s.ctr (clOf c))
      (sideMap c side .upper) (sideMap c side .lower) 0 := by
  unfold State.trip
  extract_lets p tick up lo t
  have line : (t.part p).line = false := (congrArg PartX.line ((s.toTripped_same c tick).get_part (by decide) p)).trans h
  exact if_neg (by simp [line])

theorem State.trip_same (s : State) (c : Nat) (side : Side) :
    Same [.actions, .caps, .chans, .clusters, .drives, .ens, .entries, .events, .groups, .latches, .parts, .ports, .regs, .safeN, .trims,
      .waitMaint] s (s.trip c side) := by
  apply State.trip_but <;> decide

theorem State.trip_shutDown {s : State} {c : Nat} (h : (s.part (s.chPart c)).line = false) (side : Side) :
    ShutDown s (s.trip c side) (s.chPart c) 1 := by
  rw [State.trip_clear h]
  exact (State.shutOff_shutDown ..).of_before (s.toTripped_same c _) (by decide) ((s.toTripped_objects c _).at (by decide) _ _)

theorem State.trip_tripped {s : State} {c : Nat} (h : (s.part (s.chPart c)).line = false) (side : Side) :
    ((s.trip c side).chan c).state = .tripped ∧ (s.trip c side).reg (chsTripCount c) = sat16 (s.reg (chsTripCount c)) := by
  rw [State.trip_clear h]
  have kept := (s.toTripped c (s.ctr (clOf c))).shutOff_trips (s.chPart c) 1 (some (clOf c)) (s.ctr (clOf c))
    (sideMap c side .upper) (sideMap c side .lower) 0
  exact ⟨kept.tripped c (s.toTripped_state c _), (kept.counts c).trans (s.toTripped_count c _)⟩

theorem State.trip_entry {s : State} {c : Nat} (h : (s.part (s.chPart c)).line = false) (side : Side) :
    ((s.trip c side).latch (clOf c) (s.chPart c)).says 1 (s.ctr (clOf c)) (sideMap c side .upper) (sideMap c side .lower) := by
  rw [State.trip_clear h]
  exact State.shutOff_entry ..

theorem State.trip_recorded {s : State} {c : Nat} (h : (s.part (s.chPart c)).line = false) (side : Side) (he : s.enters (clOf c + 1)) :
    ∃ m, (s.trip c side).recorded (clOf c + 1) 0x10 (s.chPart c) false [1, m] := by
  have same := s.toTripped_same c (s.ctr (clOf c))
  obtain ⟨mgmt, joined⟩ := he
  rw [State.trip_clear h]
  exact State.shutOff_recorded _ _ _ _ _ _ _ _ ⟨(same.mgmtDown (by decide)).trans mgmt, by rwa [same.stalled (by decide)]⟩

/-! ### An exit of a connected channel (R54) -/

theorem State.connected_exitSeen {s : State} {c : Nat} (h : s.connected c = true) (side : Side) :
    ((s.exitSeen c side).part ((s.exitSeen c side).chPart c)).line = false ∧ (s.exitSeen c side).chPart c = s.chPart c := by
  have seen := s.exitSeen_same c side
  have part : (s.exitSeen c side).chPart c = s.chPart c := by
    unfold State.chPart State.kind
    rw [seen.get_act (by decide), seen.get_act (by decide)]
  refine ⟨?_, part⟩
  rw [part, seen.get_part (by decide)]
  exact State.connected_line h

/-- With no timer due, an exit of a connected channel is a trip. -/
theorem State.exitAt_connected {s : State} {c : Nat} (h : s.connected c = true) (hw : s.inWindow c = true)
    (hl : (s.cluster (clOf c)).clockLost = false) (side : Side) : s.exitAt c side = (s.exitSeen c side).trip c side := by
  rw [State.exitAt_idle hl (State.timersIdle_of_runs (State.connected_owner h)), State.windowExit_joined hw h]

end Sys2Proof.Machine

namespace Sys2Proof.Machine

theorem Same.get_ctr {l : List Fld} {s t : State} (h : Same l s t) (hn : Fld.clusters ∉ l) (n : Nat) : t.ctr n = s.ctr n :=
  congrArg ClusterX.counter (h.get_cluster hn n)

theorem State.lags_of_lost {s : State} {n : Nat} (h : (s.cluster n).clockLost = true) : s.lags n = false := by simp [State.lags, h]

theorem State.runs_of_lags {s : State} {n : Nat} (h : s.lags n = true) : (s.cluster n).clockLost = false := by
  simp only [State.lags, Bool.and_eq_true, Bool.not_eq_true'] at h
  exact h.1

/-- What an exit of a connected channel leads to (R54). -/
theorem State.exitAt_trip {s : State} {c : Nat} (h : s.connected c = true) (hw : s.inWindow c = true)
    (hl : (s.cluster (clOf c)).clockLost = false) (side : Side) :
    ShutDown s (s.exitAt c side) (s.chPart c) 1 ∧ ((s.exitAt c side).chan c).state = .tripped ∧
      (s.exitAt c side).reg (chsTripCount c) = sat16 (s.reg (chsTripCount c)) ∧
      ((s.exitAt c side).latch (clOf c) (s.chPart c)).says 1 (s.ctr (clOf c)) (sideMap c side .upper) (sideMap c side .lower) ∧
      (s.enters (clOf c + 1) → ∃ m, (s.exitAt c side).recorded (clOf c + 1) 0x10 (s.chPart c) false [1, m]) := by
  obtain ⟨line, part⟩ := State.connected_exitSeen h side
  have seen := s.exitSeen_same c side
  rw [State.exitAt_connected h hw hl, ← part, ← seen.get_ctr (by decide), ← seen.get_reg (by decide)]
  obtain ⟨tripped, count⟩ := State.trip_tripped line side
  refine ⟨(State.trip_shutDown line side).of_before seen (by decide) (seen.get_reg (by decide) _), tripped, count, State.trip_entry line side,
    fun enters => State.trip_recorded line side ?_⟩
  obtain ⟨mgmt, joined⟩ := enters
  exact ⟨by rwa [seen.mgmtDown (by decide)], by rwa [seen.stalled (by decide)]⟩

theorem State.exitAt_same {s : State} {c : Nat} (h : s.connected c = true) (hw : s.inWindow c = true)
    (hl : (s.cluster (clOf c)).clockLost = false) (side : Side) :
    Same [.actions, .caps, .chans, .clusters, .drives, .ens, .entries, .events, .groups, .latches, .parts, .ports, .regs, .safeN, .trims,
      .waitMaint] s (s.exitAt c side) := by
  rw [State.exitAt_connected h hw hl]
  exact ((s.exitSeen_same c side).mono (by decide)).trans (State.trip_same ..)

/-- An exit that is no trip changes the state of its channel as Table 2-3 states. -/
def ExitOnly (s t : State) (c : Nat) : Prop :=
  Same [.caps, .chans, .entries, .regs, .trims] s t ∧ AllBut s.chan t.chan [c] ∧ RegsBut s t [chsStateSince c, chsWindowExits c] ∧
    t.inWindow c = false ∧
    ((s.chan c).state = .settle → s.inWindow c = true → (t.chan c).state = .ramp ∧ t.reg (chsStateSince c) = s.ctr (clOf c) ∧
      t.reg (chsWindowExits c) = sat16 (s.reg (chsWindowExits c))) ∧
    ((s.chan c).state ≠ .settle → (t.chan c).state = (s.chan c).state ∧ t.regs = s.regs ∧ t.trims = s.trims ∧ t.entries = s.entries)

/-- An exit that is only seen. -/
theorem State.exitSeen_only (s : State) {c : Nat} (side : Side) (h : (s.chan c).state = .settle → s.inWindow c = false) :
    ExitOnly s (s.exitSeen c side) c := by
  have seen := s.exitSeen_same c side
  obtain ⟨others, state, out⟩ := s.exitSeen_chan c side
  refine ⟨seen.mono (by decide), fun d hd => others d (by simpa using hd), fun k _ => seen.get_reg (by decide) k, out, fun settle inside => ?_,
    fun _ => ⟨state, seen.regs (by decide), seen.trims (by decide), seen.entries (by decide)⟩⟩
  rw [h settle] at inside
  cases inside

theorem State.windowExit_only {s : State} {c : Nat} (hj : s.connected c = false) (hc : s.cutNow c = false) (side : Side) :
    ExitOnly s (s.windowExit c side) c := by
  by_cases inside : s.inWindow c = true
  · rw [State.windowExit_unjoined inside hj hc]
    have seen := s.exitSeen_same c side
    obtain ⟨others, state, out⟩ := s.exitSeen_chan c side
    by_cases settle : (s.chan c).state = .settle
    · obtain ⟨others', regs, ramp, since, exits, window⟩ := State.exitUnjoined_ramp (s := s.exitSeen c side) (state.trans settle)
      refine ⟨(seen.mono (by decide)).trans (State.exitUnjoined_same ..), fun d hd => ?_,
        fun k hk => (regs k hk).trans (seen.get_reg (by decide) k), window.trans out,
        fun _ _ => ⟨ramp, since.trans (seen.get_ctr (by decide) _), exits.trans (congrArg sat16 (seen.get_reg (by decide) _))⟩,
        fun other => absurd settle other⟩
      have other : d ≠ c := by simpa using hd
      exact (others' d other).trans (others d other)
    · rw [State.exitUnjoined_other (by rwa [state])]
      exact s.exitSeen_only side (fun h => absurd h settle)
  · rw [State.windowExit_outside (by simpa using inside)]
    exact s.exitSeen_only side (fun _ => by simpa using inside)

/-- In a cluster that lags, an exit is judged under the bank before the latest swap (R16). -/
theorem exec_windowExit_lagging {c : Fin 512} {x : Crossing} {s : State} (due : s.noSwapDue) (lags : s.lags (clOf c) = true)
    (hk : { s with active := s.prior }.kind c ≠ 0) (ha : { s with active := s.prior }.asserts c x = true) :
    exec (.windowExit c x) s =
      .next (({ { s with active := s.prior }.exitAt c x.side with active := s.active }).each (List.range 4) (fun s d => s.driveSync d)) := by
  change ok _ = _
  rw [State.swapIfDue_of_none due, State.inBank_prior lags, if_neg (by simp [hk, ha])]
  rfl

/-- Settles O11: an exit of a connected channel is a trip with its shut-off (`State.exitAt_trip`), any other one changes its channel alone
(`State.windowExit_only`), and the swap and the lagging cluster decide the bank that judges it. -/
theorem windowExitTripsOnlyAConnectedChannel : Obligations.WindowExitTripsOnlyAConnectedChannel := by
  unfold Obligations.WindowExitTripsOnlyAConnectedChannel
  refine ⟨fun c s => s.connected_iff c, fun c x s joined inside runs noSwap asserts => ?_,
    fun c x s used unjoined uncut runs noSwap idle asserts => ?_, fun c x s => s.asserts_iff c x,
    fun c x s noSwap quiet => exec_windowExit_quiet noSwap quiet, fun c x s due lost used asserts => ?_,
    fun c x a v s armed due => exec_timed_due armed due c x v, fun c x q s due lags bank joined inside asserts => ?_⟩
  · obtain ⟨shut, tripped, count, entry, told⟩ := State.exitAt_trip joined inside runs x.side
    exact ⟨_, exec_windowExit noSwap (State.connected_kind joined) asserts, State.exitAt_same joined inside runs x.side, shut, tripped, count,
      fun _ => entry, told⟩
  · refine ⟨_, exec_windowExit noSwap used asserts, ?_⟩
    rw [State.exitAt_idle runs idle]
    exact State.windowExit_only unjoined uncut x.side
  · refine ⟨_, exec_windowExit ⟨due, State.lags_of_lost lost⟩ used asserts, ?_⟩
    rw [State.exitAt_lost lost]
    exact ⟨State.setChan_but _ _ _ _ (by decide), fun d hd => State.setChan_chan_ne _ _ _ _ (by simpa using hd),
      State.setChan_chan_same ..⟩
  · subst bank
    refine ⟨_, exec_windowExit_lagging due lags (State.connected_kind joined) asserts, ?_⟩
    have runs : ({ s with active := s.prior }.cluster (clOf c)).clockLost = false := State.runs_of_lags lags
    obtain ⟨⟨line, -⟩, tripped, -⟩ := State.exitAt_trip joined inside runs x.side
    have exited := State.exitAt_same joined inside runs x.side
    generalize { s with active := s.prior }.exitAt c x.side = u at line tripped exited
    have synced : Same [.drives, .events, .regs] { u with active := s.active }
        (({ u with active := s.active }).each (List.range 4) (fun s d => s.driveSync d)) :=
      State.each_but _ _ _ _ (fun v d _ => by apply State.driveSync_but <;> decide)
    refine ⟨synced.active (by decide), (synced.prior (by decide)).trans (exited.prior (by decide)), ?_, ?_⟩
    · rw [synced.get_part (by decide)]
      exact line
    · rw [synced.get_chan (by decide)]
      exact tripped

end Sys2Proof.Machine

namespace Sys2Proof.Machine

/-! ### The entry of a channel in its window (R53, Table 2-3) -/

/-- The comparator outputs of a channel clear, and the captures of it have seen that. -/
def State.clearSeen (s : State) (c : Nat) : State :=
  let t := s.ctr (clOf c)
  let x := s.chan c
  let s := s.setChan c { x with upperCmp := false, lowerCmp := false, lowerOff := if x.lowerCmp then some t else x.lowerOff }
  if x.lowerCmp then s.noteCap (fun src d _ => src == 6 && d == c) t else s

/-- A VOLTAGE channel is in its window, and its settle timer starts. -/
def State.enterSeen (s : State) (c : Nat) : State :=
  ((s.clearSeen c).markTick c).setChan c { ((s.clearSeen c).markTick c).chan c with settleAt := s.ctr (clOf c) }

theorem State.clearSeen_same (s : State) (c : Nat) : Same [.caps, .chans] s (s.clearSeen c) := by
  unfold State.clearSeen
  extract_lets t x u
  have cleared : Same [.caps, .chans] s u := State.setChan_but _ _ _ _ (by decide)
  split
  · exact cleared.trans (State.noteCap_but _ _ _ _ (by decide))
  · exact cleared

theorem State.clearSeen_chan (s : State) (c : Nat) : (∀ d, d ≠ c → (s.clearSeen c).chan d = s.chan d) ∧
    ((s.clearSeen c).chan c).state = (s.chan c).state ∧ ((s.clearSeen c).chan c).armedAt = (s.chan c).armedAt ∧
    (s.clearSeen c).inWindow c = true := by
  unfold State.clearSeen State.inWindow
  extract_lets t x u
  have noted : ∀ d, (if x.lowerCmp = true then u.noteCap (fun src d _ => src == 6 && d == c) t else u).chan d = u.chan d := fun d => by
    split
    · exact Same.get_chan (l := [.caps]) (State.noteCap_but _ _ _ _ (by decide)) (by decide) d
    · rfl
  simp only [noted]
  refine ⟨fun d hd => State.setChan_chan_ne _ _ _ _ hd, ?_, ?_, ?_⟩ <;> simp [u, x]

theorem State.enterSeen_same (s : State) (c : Nat) : Same [.caps, .chans] s (s.enterSeen c) :=
  ((s.clearSeen_same c).trans (((s.clearSeen c).markTick_same c).mono (by decide))).trans (State.setChan_but _ _ _ _ (by decide))

/-- An entry is seen in the record of its channel alone, which keeps its state. -/
theorem State.enterSeen_chan (s : State) (c : Nat) : (∀ d, d ≠ c → (s.enterSeen c).chan d = s.chan d) ∧
    ((s.enterSeen c).chan c).state = (s.chan c).state ∧ ((s.enterSeen c).chan c).settleAt = s.ctr (clOf c) ∧
    (s.enterSeen c).inWindow c = true := by
  obtain ⟨cleared, state, -, window⟩ := s.clearSeen_chan c
  obtain ⟨others, marked⟩ := (s.clearSeen c).markTick_chan c
  unfold State.enterSeen State.inWindow
  simp only [State.setChan_chan_same]
  refine ⟨fun d hd => (State.setChan_chan_ne _ _ _ _ hd).trans ((others d hd).trans (cleared d hd)), ?_, trivial, ?_⟩
  · rw [marked]
    exact state
  · rw [marked]
    exact window

/-- What an entry that is seen makes of a VOLTAGE channel, with its deadline reached or not. -/
def State.entryEffect (s : State) (c : Nat) (late : Bool) : State :=
  match (s.chan c).state with
  | .armed => if late then s else ((s.setChan c { s.chan c with rampSkip := true }).enterSettle c).gateTrip c
  | .ramp => if late then s else (s.enterSettle c).gateTrip c
  | _ => s

theorem State.windowEnter_eq {s : State} {c : Nat} (hk : s.kind c = 1) :
    s.windowEnter c = (s.enterSeen c).entryEffect c (decide (s.deadlineDue c ≤ s.ctr (clOf c))) := by
  have seen := s.clearSeen_same c
  obtain ⟨-, -, armed, -⟩ := s.clearSeen_chan c
  have kind : (s.clearSeen c).kind c = 1 := (seen.get_act (by decide) _).trans hk
  have due : (s.clearSeen c).deadlineDue c = s.deadlineDue c := by
    unfold State.deadlineDue
    rw [armed, seen.get_act (by decide)]
  rw [← due]
  exact if_neg (not_not.mpr kind)

theorem State.entryEffect_stays {s : State} {c : Nat} {late : Bool} (h : late = true ∨ (s.chan c).state = .absent) :
    s.entryEffect c late = s := by
  unfold State.entryEffect
  rcases h with rfl | absent
  · split
    · exact if_pos rfl
    · exact if_pos rfl
    · rfl
  · rw [absent]

/-- A channel that is ABSENT, or whose deadline is reached, keeps its state for what comes. -/
theorem State.windowEnter_stays {s : State} {c : Nat} (hk : s.kind c = 1)
    (h : s.deadlineDue c ≤ s.ctr (clOf c) ∨ (s.chan c).state = .absent) : s.windowEnter c = s.enterSeen c := by
  obtain ⟨-, state, -, -⟩ := s.enterSeen_chan c
  rw [State.windowEnter_eq hk, State.entryEffect_stays (h.imp decide_eq_true state.trans)]

/-- The state in which a channel that enters its window from ARMED or RAMP begins to settle. -/
def State.settleFrom (s : State) (c : Nat) : State :=
  if (s.chan c).state = .armed then (s.enterSeen c).setChan c { (s.enterSeen c).chan c with rampSkip := true } else s.enterSeen c

theorem State.windowEnter_settles {s : State} {c : Nat} (hk : s.kind c = 1) (ht : s.ctr (clOf c) < s.deadlineDue c)
    (h : (s.chan c).state = .armed ∨ (s.chan c).state = .ramp) : s.windowEnter c = ((s.settleFrom c).enterSettle c).gateTrip c := by
  obtain ⟨-, state, -, -⟩ := s.enterSeen_chan c
  rw [State.windowEnter_eq hk]
  unfold State.entryEffect State.settleFrom
  rw [state]
  rcases h with armed | ramp
  · rw [armed, if_pos rfl]
    exact if_neg (by simpa using ht)
  · rw [ramp, if_neg (show ChanState.ramp ≠ .armed by decide)]
    exact if_neg (by simpa using ht)

theorem State.settleFrom_same (s : State) (c : Nat) : Same [.caps, .chans] s (s.settleFrom c) := by
  unfold State.settleFrom
  split
  · exact (s.enterSeen_same c).trans (State.setChan_but _ _ _ _ (by decide))
  · exact s.enterSeen_same c

theorem State.settleFrom_chan (s : State) (c : Nat) : (∀ d, d ≠ c → (s.settleFrom c).chan d = s.chan d) ∧
    (s.settleFrom c).inWindow c = true ∧ ((s.chan c).state = .armed → ((s.settleFrom c).chan c).rampSkip = true) := by
  obtain ⟨others, -, -, window⟩ := s.enterSeen_chan c
  unfold State.settleFrom State.inWindow
  split
  · simp only [State.setChan_chan_same]
    exact ⟨fun d hd => (State.setChan_chan_ne _ _ _ _ hd).trans (others d hd), window, fun _ => trivial⟩
  · exact ⟨others, window, fun armed => absurd armed ‹_›⟩

/-! ### Settling (R53) -/

theorem State.enterSettle_timed {s : State} {c : Nat} (h : s.act (chSettleTime c) ≠ 0) :
    s.enterSettle c = (s.setChan c { s.chan c with settleAt := s.ctr (clOf c) }).toState c .settle (s.ctr (clOf c)) := by
  unfold State.enterSettle
  extract_lets t src u v
  have timed : Same [.caps, .chans, .entries, .regs, .trims] s v :=
    Same.trans (t := u) (State.setChan_but _ _ _ _ (by decide)) (u.toState_same ..)
  exact if_neg (by rwa [timed.get_act (by decide)])

/-- What a channel that enters SETTLE with its timer is and leaves. -/
theorem State.enterSettle_settle {s : State} {c : Nat} (h : s.act (chSettleTime c) ≠ 0) :
    Same [.caps, .chans, .entries, .regs, .trims] s (s.enterSettle c) ∧ (∀ d, d ≠ c → (s.enterSettle c).chan d = s.chan d) ∧
      RegsBut s (s.enterSettle c) [chsStateSince c] ∧ (s.enterSettle c).reg (chsStateSince c) = s.ctr (clOf c) ∧
      ((s.enterSettle c).chan c).state = .settle ∧ ((s.enterSettle c).chan c).settleAt = s.ctr (clOf c) ∧
      (s.enterSettle c).inWindow c = s.inWindow c ∧ ((s.enterSettle c).chan c).rampSkip = (s.chan c).rampSkip := by
  rw [State.enterSettle_timed h]
  have timed : Same [.chans] s (s.setChan c { s.chan c with settleAt := s.ctr (clOf c) }) := State.setChan_but _ _ _ _ (by decide)
  have others : ∀ d, d ≠ c → (s.setChan c { s.chan c with settleAt := s.ctr (clOf c) }).chan d = s.chan d :=
    fun d hd => State.setChan_chan_ne _ _ _ _ hd
  have own : (s.setChan c { s.chan c with settleAt := s.ctr (clOf c) }).chan c = { s.chan c with settleAt := s.ctr (clOf c) } :=
    State.setChan_chan_same ..
  generalize s.setChan c { s.chan c with settleAt := s.ctr (clOf c) } = u at timed others own
  obtain ⟨settleAt, rampSkip, window⟩ := u.toState_kept c .settle (s.ctr (clOf c))
  refine ⟨(timed.mono (by decide)).trans (u.toState_same ..), fun d hd => (State.toState_other _ hd _ _).trans (others d hd),
    fun k hk => (u.toState_regs c .settle _ k hk).trans (timed.get_reg (by decide) k), u.toState_since .., u.toState_state ..,
    by rw [settleAt, own], ?_, by rw [rampSkip, own]⟩
  rw [window]
  unfold State.inWindow
  rw [own]

/-! ### The connection gate of the CURRENT channels (R107) -/

theorem State.mem_companions {s : State} {c d : Nat} : d ∈ s.companions c ↔ d < 512 ∧ s.kind d = 2 ∧ s.act (chCompanion d) = c := by
  simp [State.companions]

/-- The gate finds no exit when no CURRENT channel of a channel is connected and out of window. -/
theorem State.gateTrip_none {s : State} {c : Nat} (h : ∀ d ∈ s.companions c, s.connected d = false ∨ s.inWindow d = true) :
    s.gateTrip c = s := by
  have none' : (s.companions c).filter (fun d => s.connected d && !s.inWindow d) = [] := by
    rw [List.filter_eq_nil_iff]
    intro d hd
    rcases h d hd with unjoined | inside
    · simp [unjoined]
    · simp [inside]
  unfold State.gateTrip
  rw [none']
  rfl

/-- A CURRENT channel is connected by its companion, so not in SETTLE of that. -/
theorem State.gateTrip_settle {s : State} {c : Nat} (h : (s.chan c).state = .settle) : s.gateTrip c = s := by
  refine State.gateTrip_none (fun d hd => .inl ?_)
  obtain ⟨-, current, companion⟩ := State.mem_companions.mp hd
  rw [Bool.eq_false_iff, ne_eq, State.connected_iff, companion, h, current]
  simp

/-- The gate finds no exit when every CURRENT channel of a channel is in window, before its state changes alone. -/
theorem State.gateTrip_inside {f : List Fld} {s u : State} {c : Nat} (same : Same f s u) (hf : Fld.active ∉ f)
    (others : ∀ d, d ≠ c → u.chan d = s.chan d) (hk : s.kind c = 1)
    (h : ∀ d < 512, s.kind d = 2 → s.act (chCompanion d) = c → s.inWindow d = true) : u.gateTrip c = u := by
  refine State.gateTrip_none (fun d hd => .inr ?_)
  obtain ⟨small, current, companion⟩ := State.mem_companions.mp hd
  have kind : s.kind d = 2 := (same.get_act hf _).symm.trans current
  unfold State.inWindow
  rw [others d (by rintro rfl; omega)]
  exact h d small kind ((same.get_act hf _).symm.trans companion)

/-! ### A settle timer that expires (R53, R57) -/

/-- A channel that recovers, before that is told. -/
def State.recoverCounted (s : State) (c at_ : Nat) : State :=
  ((s.toState c .running at_).setChan c { (s.toState c .running at_).chan c with recovered := true }).bump16 (chsRecoverCount c)

theorem State.recover_eq (s : State) (c at_ : Nat) : s.recover c at_ =
    (s.recoverCounted c at_).raise (clOf c + 1) 0x13 ((s.recoverCounted c at_).chPart c) false (two c) := rfl

theorem State.recoverCounted_same (s : State) (c at_ : Nat) : Same [.caps, .chans, .entries, .regs, .trims] s (s.recoverCounted c at_) :=
  ((s.toState_same c _ at_).trans (State.setChan_but _ _ _ _ (by decide))).trans (State.bump16_but _ _ _ (by decide))

theorem State.recoverCounted_regs (s : State) (c at_ : Nat) :
    RegsBut s (s.recoverCounted c at_) [chsStateSince c, chsRecoverCount c] ∧ (s.recoverCounted c at_).reg (chsStateSince c) = at_ ∧
      (s.recoverCounted c at_).reg (chsRecoverCount c) = sat16 (s.reg (chsRecoverCount c)) := by
  have regs := s.toState_regs c .running at_
  have noted := regs.then_same (State.setChan_but _ c { (s.toState c .running at_).chan c with recovered := true } [.chans] (by decide)) (by decide)
  refine ⟨RegsBut.bump16 (noted.mono (by simp [ChanState.counters])) (by simp), ?_, ?_⟩
  · unfold State.recoverCounted State.bump16
    rw [State.setReg_reg_ne _ _ _ _ (by simp), State.setChan_get_reg, State.toState_since]
  · unfold State.recoverCounted State.bump16
    rw [State.setReg_reg_same, State.setChan_get_reg, regs _ (by simp [ChanState.counters])]

/-- What a channel that recovers is and leaves (Table 2-3). -/
theorem State.recover_recovers (s : State) (c at_ : Nat) :
    Same [.caps, .chans, .entries, .regs, .trims, .events] s (s.recover c at_) ∧ (∀ d, d ≠ c → (s.recover c at_).chan d = s.chan d) ∧
      RegsBut s (s.recover c at_) [chsStateSince c, chsRecoverCount c, evEventsLost] ∧ ((s.recover c at_).chan c).state = .running ∧
      (s.recover c at_).reg (chsStateSince c) = at_ ∧ ((s.recover c at_).chan c).recovered = true ∧
      (s.recover c at_).reg (chsRecoverCount c) = sat16 (s.reg (chsRecoverCount c)) ∧
      (s.enters (clOf c + 1) → (s.recover c at_).recorded (clOf c + 1) 0x13 (s.chPart c) false (two c)) := by
  rw [State.recover_eq]
  have counted := s.recoverCounted_same c at_
  obtain ⟨regs, since, count⟩ := s.recoverCounted_regs c at_
  have others : ∀ d, d ≠ c → (s.recoverCounted c at_).chan d = s.chan d := fun d hd => by
    unfold State.recoverCounted State.bump16
    rw [State.setReg_get_chan, State.setChan_chan_ne _ _ _ _ hd, State.toState_other _ hd]
  have own : (s.recoverCounted c at_).chan c = { (s.toState c .running at_).chan c with recovered := true } := by
    unfold State.recoverCounted State.bump16
    rw [State.setReg_get_chan, State.setChan_chan_same]
  have running : ((s.recoverCounted c at_).chan c).state = .running := by
    rw [own]
    exact s.toState_state c .running at_
  have recovered : ((s.recoverCounted c at_).chan c).recovered = true := by rw [own]
  have part : (s.recoverCounted c at_).chPart c = s.chPart c := by
    unfold State.chPart State.kind
    rw [counted.get_act (by decide), counted.get_act (by decide)]
  generalize s.recoverCounted c at_ = u at counted regs since count others running recovered part
  have told := u.raise_same (clOf c + 1) 0x13 (u.chPart c) false (two c)
  refine ⟨(counted.mono (by decide)).trans (told.mono (by decide)), fun d hd => (told.get_chan (by decide) d).trans (others d hd),
    RegsBut.raise (regs.mono (by simp)) (by simp), by rwa [told.get_chan (by decide)],
    by rwa [State.raise_reg_ne _ _ _ _ _ _ _ (by simp)], by rwa [told.get_chan (by decide)],
    by rwa [State.raise_reg_ne _ _ _ _ _ _ _ (by simp)], fun enters => ?_⟩
  obtain ⟨mgmt, joined⟩ := enters
  rw [part]
  exact State.raise_recorded _ _ _ _ _ _ ⟨(counted.mgmtDown (by decide)).trans mgmt, by rwa [counted.stalled (by decide)]⟩

/-- A settle timer that expires in SETTLE, with no exit at the gate (R53). -/
theorem State.settleBy_runs {s : State} {c t : Nat} (h : s.settles c t = true) (hs : (s.chan c).state = .settle)
    (hg : ∀ d < 512, s.kind d = 2 → s.act (chCompanion d) = c → s.inWindow d = true) :
    s.settleBy c t = s.toState c .running (s.settleDue c) := by
  rw [State.settleBy_settle h hs]
  exact State.gateTrip_inside (s.toState_same ..) (by decide) (fun d hd => State.toState_other _ hd _ _) ((s.settles_iff c t).mp h).1 hg

theorem State.settleBy_recovers {s : State} {c t : Nat} (h : s.settles c t = true) (hs : (s.chan c).state = .absent)
    (hg : ∀ d < 512, s.kind d = 2 → s.act (chCompanion d) = c → s.inWindow d = true) :
    s.settleBy c t = s.recover c (s.settleDue c) := by
  rw [State.settleBy_absent h hs]
  obtain ⟨same, others, -⟩ := s.recover_recovers c (s.settleDue c)
  exact State.gateTrip_inside same (by decide) others ((s.settles_iff c t).mp h).1 hg

/-- The one CURRENT channel that the gate finds out of its window trips (R107). -/
theorem State.gateTrip_one {s : State} {c d : Nat} (hs : (s.chan c).state = .running)
    (h : (s.companions c).filter (fun e => !s.inWindow e && (s.chan e).state != .tripped) = [d])
    (line : (s.part (s.chPart d)).line = false) : s.gateTrip c = s.trip d (if (s.chan d).upperCmp then .upper else .lower) := by
  have joined : ∀ e ∈ s.companions c, (s.connected e && !s.inWindow e) =
      (!(s.part (s.chPart e)).line && (!s.inWindow e && (s.chan e).state != .tripped)) := fun e he => by
    obtain ⟨-, current, companion⟩ := State.mem_companions.mp he
    have line' : s.connected e = true ↔ (s.part (s.chPart e)).line = false ∧ (s.chan e).state ≠ .tripped := by
      simp [State.connected_iff, current, companion, hs]
    rw [Bool.eq_iff_iff, Bool.and_eq_true, line']
    simp only [Bool.and_eq_true, Bool.not_eq_true', bne_iff_ne]
    exact ⟨fun ⟨⟨clear, live⟩, outside⟩ => ⟨clear, outside, live⟩, fun ⟨clear, outside, live⟩ => ⟨⟨clear, live⟩, outside⟩⟩
  have found : (s.companions c).filter (fun e => s.connected e && !s.inWindow e) = [d] := by
    rw [List.filter_congr joined, ← List.filter_filter, h]
    simp [line]
  unfold State.gateTrip
  rw [found, State.each, List.foldl_cons, List.foldl_nil]

end Sys2Proof.Machine

namespace Sys2Proof.Machine

/-! ### A deadline (R55) -/

theorem recorded_of_same {f : List Fld} {s t : State} (h : Same f s t) (h1 : Fld.events ∉ f) (h2 : Fld.clusters ∉ f) (h3 : Fld.now ∉ f)
    {dom code part : Nat} {clear : Bool} {param : Bytes} (hr : s.recorded dom code part clear param) : t.recorded dom code part clear param := by
  unfold State.recorded
  rw [h.evRing h1, h.islandTime h2 h3]
  exact hr

/-- A channel is ABSENT, and that is told. -/
def State.absentTold (s : State) (c at_ : Nat) : State :=
  (s.toState c .absent at_).raise (clOf c + 1) 0x11 ((s.toState c .absent at_).chPart c) false (two c)

theorem State.absentTold_same (s : State) (c at_ : Nat) : Same [.caps, .chans, .entries, .regs, .trims, .events] s (s.absentTold c at_) :=
  ((s.toState_same c .absent at_).mono (by decide)).trans ((State.raise_same ..).mono (by decide))

/-- A deadline deasserts the enable of its channel with ABSENT_EN 1, and leaves it else. -/
theorem State.goAbsent_eq (s : State) (c at_ : Nat) : s.goAbsent c at_ =
    if s.act (chAbsentEn c) = 1 ∧ s.act (chEnable c) < 256 then (s.absentTold c at_).orderEn (s.act (chEnable c)) false
    else s.absentTold c at_ := by
  have act := (s.absentTold_same c at_).get_act (by decide)
  rw [← act, ← act]
  rfl

theorem State.absentTold_tells (s : State) (c at_ : Nat) :
    (∀ d, d ≠ c → (s.absentTold c at_).chan d = s.chan d) ∧ ((s.absentTold c at_).chan c).state = .absent ∧
      RegsBut s (s.absentTold c at_) [chsStateSince c, chsAbsentCount c, evEventsLost] ∧ (s.absentTold c at_).reg (chsStateSince c) = at_ ∧
      (s.absentTold c at_).reg (chsAbsentCount c) = sat16 (s.reg (chsAbsentCount c)) ∧
      (s.enters (clOf c + 1) → (s.absentTold c at_).recorded (clOf c + 1) 0x11 (s.chPart c) false (two c)) := by
  have entered := s.toState_same c .absent at_
  have part : (s.toState c .absent at_).chPart c = s.chPart c := by
    unfold State.chPart State.kind
    rw [entered.get_act (by decide), entered.get_act (by decide)]
  have regs := s.toState_regs c .absent at_
  have others : ∀ d, d ≠ c → (s.toState c .absent at_).chan d = s.chan d := fun d hd => State.toState_other _ hd _ _
  have state := s.toState_state c .absent at_
  have since := s.toState_since c .absent at_
  have count := s.toState_absentCount c at_
  unfold State.absentTold
  rw [part]
  generalize s.toState c .absent at_ = u at entered regs others state since count
  have told := u.raise_same (clOf c + 1) 0x11 (s.chPart c) false (two c)
  refine ⟨fun d hd => (told.get_chan (by decide) d).trans (others d hd), by rwa [told.get_chan (by decide)],
    RegsBut.raise (regs.mono (by simp [ChanState.counters])) (by simp), by rwa [State.raise_reg_ne _ _ _ _ _ _ _ (by simp)],
    by rwa [State.raise_reg_ne _ _ _ _ _ _ _ (by simp)], fun enters => ?_⟩
  obtain ⟨mgmt, joined⟩ := enters
  exact State.raise_recorded _ _ _ _ _ _ ⟨(entered.mgmtDown (by decide)).trans mgmt, by rwa [entered.stalled (by decide)]⟩

/-- The enables after a deadline. -/
theorem State.goAbsent_after (s : State) (c at_ : Nat) : Same [.caps, .ens] (s.absentTold c at_) (s.goAbsent c at_) := by
  rw [State.goAbsent_eq]
  split
  · apply State.orderEn_but <;> decide
  · exact .refl _ _

theorem State.goAbsent_same (s : State) (c at_ : Nat) : Same [.caps, .chans, .entries, .regs, .trims, .ens, .events] s (s.goAbsent c at_) :=
  ((s.absentTold_same c at_).mono (by decide)).trans ((s.goAbsent_after c at_).mono (by decide))

theorem State.goAbsent_window (s : State) (c at_ : Nat) : (s.goAbsent c at_).inWindow c = s.inWindow c := by
  have after := s.goAbsent_after c at_
  have told := (s.toState c .absent at_).raise_same (clOf c + 1) 0x11 ((s.toState c .absent at_).chPart c) false (two c)
  obtain ⟨-, -, window⟩ := s.toState_kept c .absent at_
  rw [← window c]
  unfold State.inWindow
  rw [after.get_chan (by decide), State.absentTold, told.get_chan (by decide)]

/-- A channel that is out of its window after its deadline is ABSENT. -/
theorem State.timersBy_late {s : State} {c : Nat} (h : s.misses c (s.ctr (clOf c))) (hw : s.inWindow c = false) :
    s.timersBy c = s.goAbsent c (s.deadlineDue c) := by
  unfold State.timersBy
  extract_lets t
  rw [State.settleBy_idle (State.settles_outside hw t), State.deadlineBy_acts h,
    State.settleBy_idle (State.settles_outside ((s.goAbsent_window c _).trans hw) t)]

/-! ### WINDOW_ENTER (R53) -/

theorem State.enterAt_clears {s : State} {c : Nat} {v : Int} (hl : (s.cluster (clOf c)).clockLost = false) (hw : s.inWindow c = false)
    (hv : s.clearsAt c ((s.chan c).upperCmp, (s.chan c).lowerCmp) v = true) : s.enterAt c v = (s.timersBy c).windowEnter c := by
  unfold State.enterAt
  rw [if_neg (by simp [hl]), if_neg (by simp [hw, hv])]

theorem State.enterAt_keeps {s : State} {c : Nat} {v : Int} (hl : (s.cluster (clOf c)).clockLost = false)
    (h : s.inWindow c = true ∨ s.clearsAt c ((s.chan c).upperCmp, (s.chan c).lowerCmp) v = false) : s.enterAt c v = s := by
  unfold State.enterAt
  rw [if_neg (by simp [hl]), if_pos (by simpa using h)]

/-- A channel that keeps its state in the entry, with no deadline before the present tick. -/
theorem State.enterAt_stays {s : State} {c : Nat} {v : Int} (hk : s.kind c = 1) (hl : (s.cluster (clOf c)).clockLost = false)
    (hw : s.inWindow c = false) (hv : s.clearsAt c ((s.chan c).upperCmp, (s.chan c).lowerCmp) v = true)
    (hm : ¬ s.misses c (s.ctr (clOf c))) (h : s.deadlineDue c ≤ s.ctr (clOf c) ∨ (s.chan c).state = .absent) :
    s.enterAt c v = s.enterSeen c := by
  rw [State.enterAt_clears hl hw hv, State.timersBy_unchanged (State.settles_outside hw _) hm, State.windowEnter_stays hk h]

/-- A channel that settles in the entry (R53). -/
theorem State.enterAt_settles {s : State} {c : Nat} {v : Int} (hk : s.kind c = 1) (hl : (s.cluster (clOf c)).clockLost = false)
    (hw : s.inWindow c = false) (hv : s.clearsAt c ((s.chan c).upperCmp, (s.chan c).lowerCmp) v = true)
    (ht : s.act (chSettleTime c) ≠ 0) (hd : s.ctr (clOf c) < s.deadlineDue c)
    (hs : (s.chan c).state = .armed ∨ (s.chan c).state = .ramp) : s.enterAt c v = (s.settleFrom c).enterSettle c := by
  have early : ¬ s.misses c (s.ctr (clOf c)) := fun ⟨_, late, _⟩ => by omega
  have timed : (s.settleFrom c).act (chSettleTime c) ≠ 0 := by rwa [(s.settleFrom_same c).get_act (by decide)]
  obtain ⟨-, -, -, -, settle, -⟩ := State.enterSettle_settle timed
  rw [State.enterAt_clears hl hw hv, State.timersBy_unchanged (State.settles_outside hw _) early, State.windowEnter_settles hk hd hs,
    State.gateTrip_settle settle]

/-- What the entry makes of a channel that settles. -/
theorem State.settleFrom_settles {s : State} {c : Nat} (h : s.act (chSettleTime c) ≠ 0) :
    Same [.caps, .chans, .entries, .regs, .trims] s ((s.settleFrom c).enterSettle c) ∧
      AllBut s.chan ((s.settleFrom c).enterSettle c).chan [c] ∧ RegsBut s ((s.settleFrom c).enterSettle c) [chsStateSince c] ∧
      ((s.settleFrom c).enterSettle c).reg (chsStateSince c) = s.ctr (clOf c) ∧
      (((s.settleFrom c).enterSettle c).chan c).state = .settle ∧ (((s.settleFrom c).enterSettle c).chan c).settleAt = s.ctr (clOf c) ∧
      ((s.settleFrom c).enterSettle c).inWindow c = true ∧
      ((s.chan c).state = .armed → (((s.settleFrom c).enterSettle c).chan c).rampSkip = true) := by
  have from' := s.settleFrom_same c
  obtain ⟨others, window, skip⟩ := s.settleFrom_chan c
  obtain ⟨same, others', regs, since, state, settleAt, window', skip'⟩ :=
    State.enterSettle_settle (s := s.settleFrom c) (c := c) (by rwa [from'.get_act (by decide)])
  have ctr := from'.get_ctr (by decide) (clOf c)
  refine ⟨(from'.mono (by decide)).trans same, fun d hd => ?_, fun k hk => (regs k hk).trans (from'.get_reg (by decide) k),
    since.trans ctr, state, settleAt.trans ctr, window'.trans window, fun armed => skip'.trans (skip armed)⟩
  have other : d ≠ c := by simpa using hd
  exact (others' d other).trans (others d other)

/-- A channel past its deadline is ABSENT, and starts its settle timer. -/
theorem State.enterAt_late {s : State} {c : Nat} {v : Int} (hk : s.kind c = 1) (hl : (s.cluster (clOf c)).clockLost = false)
    (hw : s.inWindow c = false) (hv : s.clearsAt c ((s.chan c).upperCmp, (s.chan c).lowerCmp) v = true)
    (hd : s.deadlineDue c < s.ctr (clOf c)) (hs : (s.chan c).state = .armed ∨ (s.chan c).state = .ramp) :
    s.enterAt c v = (s.goAbsent c (s.deadlineDue c)).enterSeen c := by
  have missed : s.misses c (s.ctr (clOf c)) := ⟨hk, hd, hl, hs.imp_right .inl⟩
  have kind : (s.goAbsent c (s.deadlineDue c)).kind c = 1 := ((s.goAbsent_same c _).get_act (by decide) _).trans hk
  obtain ⟨absent, -⟩ := s.goAbsent_chan c (s.deadlineDue c)
  rw [State.enterAt_clears hl hw hv, State.timersBy_late missed hw, State.windowEnter_stays kind (.inr absent)]

/-- The deadline of a channel and its entry after it. -/
theorem State.absentEnter_since (s : State) (c at_ : Nat) : AllBut s.chan ((s.goAbsent c at_).enterSeen c).chan [c] ∧
    (((s.goAbsent c at_).enterSeen c).chan c).state = .absent ∧ ((s.goAbsent c at_).enterSeen c).inWindow c = true ∧
    (((s.goAbsent c at_).enterSeen c).chan c).settleAt = s.ctr (clOf c) ∧ ((s.goAbsent c at_).enterSeen c).reg (chsStateSince c) = at_ := by
  have after := s.goAbsent_after c at_
  obtain ⟨others, -, -, since, -, -⟩ := s.absentTold_tells c at_
  obtain ⟨absent, -⟩ := s.goAbsent_chan c at_
  obtain ⟨others', state, settleAt, window⟩ := (s.goAbsent c at_).enterSeen_chan c
  refine ⟨fun d hd => ?_, state.trans absent, window, settleAt.trans ((s.goAbsent_same c at_).get_ctr (by decide) _), ?_⟩
  · have other : d ≠ c := by simpa using hd
    rw [others' d other, after.get_chan (by decide), others d other]
  · rw [((s.goAbsent c at_).enterSeen_same c).get_reg (by decide), after.get_reg (by decide), since]

/-- A channel out of its window whose companion becomes RUNNING trips (R107). -/
theorem State.settleBy_trips {s : State} {c d t : Nat} (h : s.settles c t = true) (hs : (s.chan c).state = .settle)
    (hg : (s.companions c).filter (fun e => !s.inWindow e && (s.chan e).state != .tripped) = [d])
    (line : (s.part (s.chPart d)).line = false) :
    ShutDown s (s.settleBy c t) (s.chPart d) 1 ∧ ((s.settleBy c t).chan d).state = .tripped := by
  have entered := s.toState_same c .running (s.settleDue c)
  have act := entered.get_act (by decide)
  have kind := ((s.settles_iff c t).mp h).1
  obtain ⟨-, -, window⟩ := s.toState_kept c .running (s.settleDue c)
  have companions : (s.toState c .running (s.settleDue c)).companions c = s.companions c := by
    unfold State.companions State.kind
    simp only [act]
  have found : ((s.toState c .running (s.settleDue c)).companions c).filter (fun e =>
      !(s.toState c .running (s.settleDue c)).inWindow e && ((s.toState c .running (s.settleDue c)).chan e).state != .tripped) = [d] := by
    rw [companions, ← hg]
    refine List.filter_congr (fun e he => ?_)
    obtain ⟨-, current, -⟩ := State.mem_companions.mp he
    rw [window, State.toState_other _ (by rintro rfl; omega)]
  have part : (s.toState c .running (s.settleDue c)).chPart d = s.chPart d := by
    unfold State.chPart State.kind
    rw [act, act]
  have clear : ((s.toState c .running (s.settleDue c)).part ((s.toState c .running (s.settleDue c)).chPart d)).line = false := by
    rw [part, entered.get_part (by decide), line]
  rw [State.settleBy_settle h hs, State.gateTrip_one (s.toState_state ..) found clear, ← part]
  exact ⟨(State.trip_shutDown clear _).of_before entered (by decide) ((s.toState_objects c ..).at (by decide) _ _),
    (State.trip_tripped clear _).1⟩

/-- Settles O12: the entry of a window in each state (`State.enterAt_settles`, `State.enterAt_stays`, `State.enterAt_late`), the settle timer
(`State.settleBy_runs`, `State.settleBy_recovers`) and the gate of the CURRENT channels (`State.settleBy_trips`). -/
theorem windowEntryThenSettlingThenRunning : Obligations.WindowEntryThenSettlingThenRunning := by
  unfold Obligations.WindowEntryThenSettlingThenRunning
  refine ⟨⟨fun c v s voltage outside runs noSwap clears timed early waits => ?_, fun c v s voltage outside runs noSwap clears absent => ?_,
      fun c v s voltage outside runs noSwap clears now waits => ?_, fun c v s voltage outside runs noSwap clears late waits => ?_,
      fun c v s => s.clearsAt_iff c _ v, fun c v s runs noSwap stays => ?_⟩,
    fun c s voltage inside runs noSwap due gate => ⟨fun settle first => ?_, fun absent held => ?_, fun absent free => ?_⟩,
    fun c s noSwap early => ?_, fun c d s voltage inside runs noSwap due first settle gate line => ?_⟩
  · refine ⟨_, exec_windowEnter noSwap (by omega), ?_⟩
    rw [State.enterAt_settles voltage runs outside clears timed early waits]
    exact State.settleFrom_settles timed
  · obtain ⟨others, state, settleAt, window⟩ := s.enterSeen_chan c
    refine ⟨_, exec_windowEnter noSwap (by omega), ?_⟩
    rw [State.enterAt_stays voltage runs outside clears (fun ⟨_, _, _, waits⟩ => by simp [absent] at waits) (.inr absent)]
    exact ⟨s.enterSeen_same c, fun d hd => others d (by simpa using hd), state.trans absent, settleAt, window⟩
  · obtain ⟨others, state, -, window⟩ := s.enterSeen_chan c
    refine ⟨_, exec_windowEnter noSwap (by omega), ?_⟩
    rw [State.enterAt_stays voltage runs outside clears (fun ⟨_, late, _⟩ => by omega) (.inl (by omega))]
    exact ⟨s.enterSeen_same c, fun d hd => others d (by simpa using hd), state, window⟩
  · refine ⟨_, exec_windowEnter noSwap (by omega), ?_⟩
    rw [State.enterAt_late voltage runs outside clears late waits]
    exact s.absentEnter_since c _
  · by_cases used : s.kind c = 0
    · exact exec_windowEnter_unused noSwap used
    · rw [exec_windowEnter noSwap used, State.enterAt_keeps runs stays]
  · have acts := (s.settles_iff c (s.ctr (clOf c))).mpr ⟨voltage, inside, due, runs, .inl ⟨settle, first⟩⟩
    refine ⟨_, exec_settleTimeExpire noSwap, ?_⟩
    rw [State.settleBy_runs acts settle gate]
    exact ⟨s.toState_same .., fun d hd => State.toState_other _ (by simpa using hd) _ _, s.toState_regs c .running _, s.toState_since ..,
      s.toState_state ..⟩
  · rw [exec_settleTimeExpire noSwap, State.settleBy_idle]
    rw [Bool.eq_false_iff, ne_eq, State.settles_iff]
    rintro ⟨-, -, -, -, ⟨settle, -⟩ | ⟨-, free⟩⟩
    · rw [absent] at settle
      cases settle
    · omega
  · have acts := (s.settles_iff c (s.ctr (clOf c))).mpr ⟨voltage, inside, due, runs, .inr ⟨absent, free⟩⟩
    refine ⟨_, exec_settleTimeExpire noSwap, ?_⟩
    rw [State.settleBy_recovers acts absent gate]
    obtain ⟨same, others, rest⟩ := s.recover_recovers c (s.settleDue c)
    exact ⟨same, fun d hd => others d (by simpa using hd), rest⟩
  · rw [exec_settleTimeExpire noSwap, State.settleBy_idle (State.settles_early early)]
  · have acts := (s.settles_iff c (s.ctr (clOf c))).mpr ⟨voltage, inside, due, runs, .inl ⟨settle, first⟩⟩
    exact ⟨_, exec_settleTimeExpire noSwap, State.settleBy_trips acts settle gate line⟩

end Sys2Proof.Machine

namespace Sys2Proof.Machine

/-! ### What a deadline makes of an enable (R55) -/

/-- An ordered level is taken, or it waits for the clock of the cluster (R33). -/
theorem State.orderEn_en (s : State) (e : Nat) (b : Bool) : (∀ k, k ≠ e → (s.orderEn e b).en k = s.en k) ∧
    ((s.cluster (enCl e)).clockLost = false → ((s.orderEn e b).en e).asserted = b) ∧
    ((s.cluster (enCl e)).clockLost = true → (s.orderEn e b).en e = { s.en e with order := some b }) := by
  unfold State.orderEn
  split
  · rename_i lost
    refine ⟨fun k hk => (State.setEn_get ..).trans (if_neg hk), fun runs => ?_, fun _ => (State.setEn_get ..).trans (if_pos rfl)⟩
    rw [lost] at runs
    cases runs
  · rename_i runs
    refine ⟨fun k hk => by rw [State.latchEn_en, if_neg hk], fun _ => by rw [State.latchEn_en, if_pos rfl], fun lost => absurd lost runs⟩

/-- What a deadline does (R55). -/
theorem State.goAbsent_absents (s : State) (c at_ : Nat) :
    AllBut s.chan (s.goAbsent c at_).chan [c] ∧ AllBut s.en (s.goAbsent c at_).en [s.act (chEnable c)] ∧
      RegsBut s (s.goAbsent c at_) [chsStateSince c, chsAbsentCount c, evEventsLost] ∧ ((s.goAbsent c at_).chan c).state = .absent ∧
      (s.goAbsent c at_).reg (chsStateSince c) = at_ ∧ (s.goAbsent c at_).reg (chsAbsentCount c) = sat16 (s.reg (chsAbsentCount c)) ∧
      (s.enters (clOf c + 1) → (s.goAbsent c at_).recorded (clOf c + 1) 0x11 (s.chPart c) false (two c)) := by
  have after := s.goAbsent_after c at_
  have told := s.absentTold_same c at_
  obtain ⟨others, absent, regs, since, count, event⟩ := s.absentTold_tells c at_
  refine ⟨fun d hd => (after.get_chan (by decide) d).trans (others d (by simpa using hd)), fun e he => ?_,
    regs.then_same after (by decide), by rwa [after.get_chan (by decide)], by rwa [after.get_reg (by decide)],
    by rwa [after.get_reg (by decide)], fun enters => recorded_of_same after (by decide) (by decide) (by decide) (event enters)⟩
  obtain ⟨kept, -⟩ := (s.absentTold c at_).orderEn_en (s.act (chEnable c)) false
  rw [State.goAbsent_eq]
  split
  · exact (kept e (by simpa using he)).trans (told.get_en (by decide) e)
  · exact told.get_en (by decide) e

theorem State.goAbsent_deasserts {s : State} {c : Nat} (at_ : Nat) (h : s.act (chAbsentEn c) = 1) (he : s.act (chEnable c) < 256) :
    ((s.cluster (enCl (s.act (chEnable c)))).clockLost = false → ((s.goAbsent c at_).en (s.act (chEnable c))).asserted = false) ∧
      ((s.cluster (enCl (s.act (chEnable c)))).clockLost = true →
        (s.goAbsent c at_).en (s.act (chEnable c)) = { s.en (s.act (chEnable c)) with order := some false }) := by
  have told := s.absentTold_same c at_
  obtain ⟨-, runs, lost⟩ := (s.absentTold c at_).orderEn_en (s.act (chEnable c)) false
  rw [told.get_cluster (by decide), told.get_en (by decide)] at lost
  rw [told.get_cluster (by decide)] at runs
  rw [State.goAbsent_eq, if_pos ⟨h, he⟩]
  exact ⟨runs, lost⟩

theorem State.goAbsent_holds {s : State} {c : Nat} (at_ : Nat) (h : s.act (chAbsentEn c) ≠ 1) : (s.goAbsent c at_).ens = s.ens := by
  rw [State.goAbsent_eq, if_neg (fun both => h both.1)]
  exact (s.absentTold_same c at_).ens (by decide)

/-! ### CLEAR (R62, R63) -/

/-- The default of a register is that of the row of its object. -/
theorem dflt_of_row {b u sub v : Nat} (hb : b ≠ 0x3000) (hs : sub < 256)
    (h : (objOf b).bind (fun o => (o.row sub).map Entry.dflt) = some v) : dflt (rk b u sub) = v := by
  have base : rk b u sub / 16777216 = b := by unfold rk; omega
  have row : rk b u sub % 256 = sub := by unfold rk; omega
  unfold dflt
  extract_lets base' unit' sub'
  have hbase : base' = b := base
  have hsub : sub' = sub := row
  rw [hbase, hsub, if_neg (by simp [hb])]
  cases ho : objOf b with
  | none => simp [ho] at h
  | some o =>
    cases hr : o.row sub with
    | none => simp [ho, hr] at h
    | some e => simpa [ho, hr] using h

/-- CLEAR names the counters of one channel. -/
def countSubs : List Nat := [0x07, 0x08, 0x09, 0x0A, 0x0B, 0x0C, 0x0D]

theorem State.clearCounts_reg (s : State) {c sub : Nat} (h : sub ∈ countSubs) :
    (s.clearCounts c).reg (rk 0x2400 c sub) = dflt (rk 0x2400 c sub) := by
  have small : ∀ x ∈ countSubs, x < 256 := by decide
  obtain ⟨u, -, after⟩ := State.each_unit (fun s => s.reg (rk 0x2400 c sub))
    (f := fun s sub => s.setReg (rk 0x2400 c sub) (dflt (rk 0x2400 c sub)))
    (l := countSubs) (by decide) h (fun u x hx other => State.setReg_reg_ne _ _ _ _ (by
      have := small x hx
      have := small sub h
      unfold rk
      omega)) s
  exact after.trans (State.setReg_reg_same ..)

theorem State.clearCounts_regs (s : State) (c : Nat) : RegsBut s (s.clearCounts c) (countSubs.map (rk 0x2400 c)) :=
  RegsBut.each (.refl s _) (fun u _ hx => RegsBut.setReg (.refl u _) (List.mem_map_of_mem hx))

theorem exec_clear {r : Role} {c : Fin 512} {s : State} (hs : s.hears r) (h : ownerOr r (s.chPart c) = true) :
    exec (.clear r c 1) s = .next (((s.clearCounts c).answer 0).countItem r) := by
  change ok (s.item r (ownerOr r (s.chPart c)) true _) = _
  rw [State.item_run _ _ _ _ _ hs.1 hs.2 h rfl]
  rfl

theorem exec_clear_noRight {r : Role} {c : Fin 512} (v : Byte) {s : State} (hs : s.hears r) (h : ownerOr r (s.chPart c) = false) :
    exec (.clear r c v) s = .next ((s.answer 0x0201).countItem r) := by
  change ok (s.item r (ownerOr r (s.chPart c)) _ _) = _
  rw [h, State.item_noRight _ _ _ _ hs.1 hs.2]
  rfl

theorem exec_clear_badValue {r : Role} {c : Fin 512} {v : Byte} {s : State} (hs : s.hears r) (h : ownerOr r (s.chPart c) = true)
    (hv : v ≠ 1) : exec (.clear r c v) s = .next ((s.answer 0x0301).countItem r) := by
  change ok (s.item r (ownerOr r (s.chPart c)) (v == 1) _) = _
  rw [h, show (v == 1) = false by simpa using hv, State.item_badValue _ _ _ hs.1 hs.2]
  rfl

/-- A counter of CLEAR has its default afterwards, for the counting of the request is elsewhere. -/
theorem State.cleared_reg (s : State) (r : Role) {c sub v : Nat} (h : sub ∈ countSubs)
    (hv : (objOf 0x2400).bind (fun o => (o.row sub).map Entry.dflt) = some v) :
    (((s.clearCounts c).answer 0).countItem r).reg (rk 0x2400 c sub) = v := by
  have small : ∀ x ∈ countSubs, x < 256 := by decide
  have answered : ((s.clearCounts c).answer 0).reg (rk 0x2400 c sub) = (s.clearCounts c).reg (rk 0x2400 c sub) := rfl
  rw [State.countItem_reg _ r _ (by cases r <;> simp [itemKeys]), answered, s.clearCounts_reg h]
  exact dflt_of_row (by decide) (small sub h) hv

/-! ### VIO banks (R468) -/

theorem bankEnables_nodup (n : Nat) : (bankEnables n).Nodup := by
  unfold bankEnables
  split
  · exact List.nodup_range.map (fun i j h => by simpa using h)
  · exact List.nodup_nil

theorem bank_of_mem {n e : Nat} (h : e ∈ bankEnables n) : e / 128 = n := by
  unfold bankEnables at h
  split at h
  · obtain ⟨i, hi, rfl⟩ := List.mem_map.mp h
    have := List.mem_range.mp hi
    omega
  · simp at h

theorem State.modeEn_en (s : State) (e k : Nat) : (s.modeEn e).en k = if k = e then
    (if s.act (chEnMode e) = 0 then {} else
      { s.en e with configured := !s.vioLost.contains (e / 128), mode := s.act (chEnMode e), polarity := s.enPolarity e }) else s.en k :=
  State.setEn_get ..

/-- A list of enables takes the mode and polarity of the active bank, each from what it was. -/
theorem State.each_modeEn {l : List Nat} (nodup : l.Nodup) (s : State) :
    Same [.ens] s (s.each l (fun s e => s.modeEn e)) ∧ (∀ e, e ∉ l → (s.each l (fun s e => s.modeEn e)).en e = s.en e) ∧
      ∀ e ∈ l, (s.each l (fun s e => s.modeEn e)).en e = (s.modeEn e).en e := by
  refine ⟨State.each_but _ _ _ _ (fun u e _ => State.modeEn_but _ _ _ (by decide)),
    fun e he => State.each_keeps (fun s => s.en e) _ _ (fun u x hx => ?_) s, fun e he => ?_⟩
  · rw [State.modeEn_en, if_neg (by rintro rfl; exact he hx)]
  · obtain ⟨u, ⟨same, own⟩, ⟨-, after⟩⟩ := State.each_at (R := fun s t => Same [.ens] s t ∧ t.en e = s.en e)
      (fun s => ⟨.refl _ s, rfl⟩)
      (fun _ _ _ h h' => ⟨h.1.trans h'.1, h'.2.trans h.2⟩) (f := fun s e => s.modeEn e) nodup he
      (fun u x _ other => ⟨State.modeEn_but _ _ _ (by decide), by rw [State.modeEn_en, if_neg (Ne.symm other)]⟩) s
    have polarity : u.enPolarity e = s.enPolarity e := by
      unfold State.enPolarity State.strapPol
      rw [same.get_act (by decide), same.supply (by decide)]
    rw [after, State.modeEn_en, State.modeEn_en, if_pos rfl, if_pos rfl, own, polarity, same.vioLost (by decide), same.get_act (by decide)]

end Sys2Proof.Machine

namespace Sys2Proof.Machine

/-- A bank that is lost (R468). -/
theorem vioBankLoss_leaves (b : VioBank) (s : State) : Answers (.vioBankLoss b) s (fun t => Same [.vioLost, .ens] s t ∧ vioNum b ∈ t.vioLost ∧
    AllBut s.en t.en (bankEnables (vioNum b)) ∧
    ∀ e ∈ bankEnables (vioNum b), t.en e = { s.en e with configured := false, mode := 0, polarity := 0 }) := by
  refine ⟨_, rfl, ?_⟩
  have lost : Same [.vioLost] s { s with vioLost := s.vioLost.insert (vioNum b) } := State.but_vioLost _ _ _ (by decide)
  have named : vioNum b ∈ ({ s with vioLost := s.vioLost.insert (vioNum b) } : State).vioLost := List.mem_insert_self ..
  generalize { s with vioLost := s.vioLost.insert (vioNum b) } = u at lost named
  have emptied : Same [.ens] u (u.each (bankEnables (vioNum b))
      (fun s e => s.setEn e { s.en e with configured := false, mode := 0, polarity := 0 })) :=
    State.each_but _ _ _ _ (fun v e _ => State.setEn_but _ _ _ _ (by decide))
  have ens := State.each_setEn (fun _ x => { x with configured := false, mode := 0, polarity := 0 }) _ (bankEnables_nodup (vioNum b)) u
  refine ⟨(lost.mono (by decide)).trans (emptied.mono (by decide)), by rwa [emptied.vioLost (by decide)], fun e he => ?_, fun e he => ?_⟩
  · exact (ens e).trans ((if_neg he).trans (lost.get_en (by decide) e))
  · refine (ens e).trans ((if_pos he).trans ?_)
    rw [lost.get_en (by decide)]

/-- A bank that returns (R468). -/
theorem vioBankReturn_restores (b : VioBank) {s : State} (h : s.committed = true) : Answers (.vioBankReturn b) s (fun t =>
    Same [.vioLost, .ens] s t ∧ vioNum b ∉ t.vioLost ∧ (∀ n, n ≠ vioNum b → (n ∈ t.vioLost ↔ n ∈ s.vioLost)) ∧
    AllBut s.en t.en (bankEnables (vioNum b)) ∧
    ∀ e ∈ bankEnables (vioNum b), s.act (chEnMode e) ≠ 0 →
      t.en e = { s.en e with configured := true, mode := s.act (chEnMode e), polarity := s.enPolarity e }) := by
  refine ⟨_, if_neg (by simp [h]), ?_⟩
  have back : Same [.vioLost] s { s with vioLost := s.vioLost.filter (fun x => x != vioNum b) } := State.but_vioLost _ _ _ (by decide)
  have named : ∀ n, n ∈ ({ s with vioLost := s.vioLost.filter (fun x => x != vioNum b) } : State).vioLost ↔
      n ∈ s.vioLost ∧ n ≠ vioNum b := fun n => by simp
  have polarity : ∀ e, ({ s with vioLost := s.vioLost.filter (fun x => x != vioNum b) } : State).enPolarity e = s.enPolarity e := fun _ => rfl
  generalize ({ s with vioLost := s.vioLost.filter (fun x => x != vioNum b) } : State) = u at back named polarity
  obtain ⟨same, others, taken⟩ := State.each_modeEn ((bankEnables_nodup (vioNum b)).filter (fun e => u.act (chEnMode e) != 0)) u
  have vio := same.vioLost (by decide)
  refine ⟨(back.mono (by decide)).trans (same.mono (by decide)), ?_, fun n hn => ?_, fun e he => ?_, fun e he used => ?_⟩
  · rw [vio, named]
    exact fun both => both.2 rfl
  · rw [vio, named]
    exact and_iff_left hn
  · exact (others e (fun mem => he (List.mem_filter.mp mem).1)).trans (back.get_en (by decide) e)
  · rw [← back.get_act (by decide)] at used
    have free : u.vioLost.contains (e / 128) = false := by
      rw [bank_of_mem he, List.contains_eq_mem, decide_eq_false_iff_not, named]
      exact fun both => both.2 rfl
    refine (taken e (List.mem_filter.mpr ⟨he, by simpa using used⟩)).trans ?_
    rw [State.modeEn_en, if_pos rfl, if_neg used, free, polarity, back.get_en (by decide), back.get_act (by decide)]
    rfl

/-- Settles O13: a deadline (`State.goAbsent_absents`, `State.goAbsent_deasserts`), the counters of CLEAR (`State.cleared_reg`), STALE, and the
enables of a bank (`vioBankLoss_leaves`, `vioBankReturn_restores`). -/
theorem deadlinesClearStaleAndVioBanks : Obligations.DeadlinesClearStaleAndVioBanks := by
  unfold Obligations.DeadlinesClearStaleAndVioBanks
  refine ⟨⟨fun c s voltage runs noSwap late waits => ?_, fun c s voltage inside runs noSwap due settle first gate => ?_,
      fun c s noSwap early early' => ?_⟩,
    ⟨fun r c s hears right => ?_, fun r c v s hears none' => ⟨_, exec_clear_noRight v hears none', .of_refused r _⟩,
      fun r c v s hears right other => ⟨_, exec_clear_badValue hears right other, .of_refused r _⟩,
      fun c s used old => ⟨_, if_pos ⟨used, old⟩, State.setChan_but _ _ _ _ (by decide),
        fun d hd => State.setChan_chan_ne _ _ _ _ (by simpa using hd), State.setChan_chan_same ..⟩⟩,
    vioBankLoss_leaves, fun b s committed => vioBankReturn_restores b committed⟩
  · have missed : s.misses c (s.ctr (clOf c)) := by
      refine ⟨voltage, late, runs, waits.imp_right (Or.imp_right (And.imp_right ?_))⟩
      rintro (outside | later) ⟨inside, first⟩
      · rw [outside] at inside
        cases inside
      · omega
    refine ⟨_, exec_deadlineExpire noSwap, ?_⟩
    rw [State.settleBy_idle (missed.settles _), State.deadlineBy_acts missed]
    obtain ⟨others, enables, regs, absent, since, count, event⟩ := s.goAbsent_absents c (s.deadlineDue c)
    exact ⟨s.goAbsent_same c _, others, enables, regs, absent, since, count, event, State.goAbsent_deasserts _, State.goAbsent_holds _⟩
  · have acts := (s.settles_iff c (s.ctr (clOf c))).mpr ⟨voltage, inside, due, runs, .inl ⟨settle, first⟩⟩
    have running := s.toState_state c .running (s.settleDue c)
    refine ⟨_, exec_deadlineExpire noSwap, ?_⟩
    rw [State.settleBy_runs acts settle gate, State.deadlineBy_idle (fun ⟨_, _, _, waits⟩ => by simp [running] at waits)]
    exact ⟨s.toState_same .., running⟩
  · rw [exec_deadlineExpire noSwap, State.settleBy_idle (State.settles_early early'),
      State.deadlineBy_idle (fun ⟨_, late, _⟩ => by omega)]
  · have default : ∀ {sub v : Nat}, sub ∈ countSubs → (objOf 0x2400).bind (fun o => (o.row sub).map Entry.dflt) = some v →
      (((s.clearCounts c).answer 0).countItem r).reg (rk 0x2400 c sub) = v := s.cleared_reg r
    have cleared : Same [.regs, .status, .reply] s ((s.clearCounts c).answer 0) :=
      Same.trans (t := s.clearCounts c) (State.clearCounts_but _ _ _ (by decide)) (by apply State.answer_but <;> decide)
    refine ⟨_, exec_clear hears right, .of cleared (fun k hk => (s.clearCounts_regs c) k (fun mem => hk (List.mem_append_left _ mem))) rfl,
      default (by decide) rfl, default (by decide) rfl, default (by decide) rfl, default (by decide) rfl, default (by decide) rfl,
      default (by decide) rfl, default (by decide) rfl⟩

end Sys2Proof.Machine

namespace Sys2Proof.Machine

/-! ### Rounding a window mean (R79) -/

/-- The mean of a window in steps of its resolution, halves up, before it is clipped (R79). -/
def meanSteps (ps : Nat) (mean : Int) : Int := (2 * mean * 2 ^ resolution ps + 2400000000) / (2 * 2400000000)

theorem resultOf_eq (ps : Nat) (mean : Int) : resultOf ps mean = if meanSteps ps mean ≤ 0 then 0
    else if 2 ^ resolution ps ≤ meanSteps ps mean then 65535 else (meanSteps ps mean).toNat * 2 ^ (16 - resolution ps) := rfl

/-- The rounded mean is within half a step of the mean. -/
theorem meanSteps_near (ps : Nat) (mean : Int) :
    2 * meanSteps ps mean * 2400000000 ≤ 2 * mean * 2 ^ resolution ps + 2400000000 ∧
      2 * mean * 2 ^ resolution ps + 2400000000 < 2 * (meanSteps ps mean + 1) * 2400000000 := by
  unfold meanSteps
  generalize 2 * mean * 2 ^ resolution ps + 2400000000 = x
  omega

theorem meanSteps_nonneg {ps : Nat} {mean : Int} (h : 0 < mean) : 0 ≤ meanSteps ps mean := by
  have scaled : 0 ≤ 2 * mean * 2 ^ resolution ps := by positivity
  have near := (meanSteps_near ps mean).2
  omega

theorem resultOf_nonpos {ps : Nat} {mean : Int} (h : mean ≤ 0) : resultOf ps mean = 0 := by
  have scaled : 2 * mean * 2 ^ resolution ps ≤ 0 := mul_nonpos_of_nonpos_of_nonneg (by omega) (by positivity)
  have near := (meanSteps_near ps mean).1
  rw [resultOf_eq, if_pos (by omega)]

/-- Below full scale a result is its rounded mean, with the bits beyond the resolution 0. -/
theorem resultOf_below {ps q : Nat} {mean : Int} (h : meanSteps ps mean = q) (low : q < 2 ^ resolution ps) :
    resultOf ps mean = q * 2 ^ (16 - resolution ps) := by
  have under : ¬ (2 : Int) ^ resolution ps ≤ q := by exact_mod_cast Nat.not_le.mpr low
  rw [resultOf_eq, h, if_neg under, Int.toNat_natCast]
  split
  · have zero : q = 0 := by omega
    rw [zero, Nat.zero_mul]
  · rfl

/-- From a rounded 2.400 V on a result reads 65,535. -/
theorem resultOf_full {ps q : Nat} {mean : Int} (h : meanSteps ps mean = q) (high : 2 ^ resolution ps ≤ q) : resultOf ps mean = 65535 := by
  have reached : (2 : Int) ^ resolution ps ≤ q := by exact_mod_cast high
  have positive : 0 < q := Nat.lt_of_lt_of_le (Nat.two_pow_pos _) high
  rw [resultOf_eq, h, if_neg (by omega), if_pos reached]

/-- Settles O14: the rounded mean is near the mean (`meanSteps_near`), and a result is it, clipped. -/
theorem resultsRoundToTheirResolution : Obligations.ResultsRoundToTheirResolution := by
  unfold Obligations.ResultsRoundToTheirResolution
  refine ⟨fun ps => ?_, fun ps mean => resultOf_nonpos, fun ps mean positive => ?_⟩
  · unfold resolution
    refine ⟨?_, ?_, ?_, ?_, ?_, ?_⟩ <;> intro low high <;> split_ifs <;> omega
  · obtain ⟨q, hq⟩ := Int.eq_ofNat_of_zero_le (meanSteps_nonneg (ps := ps) positive)
    have near := meanSteps_near ps mean
    rw [hq] at near
    exact ⟨q, near.1, near.2, resultOf_below hq, resultOf_full hq⟩

end Sys2Proof.Machine

namespace Sys2Proof.Machine

/-! ### What an operation of one cluster leaves -/

theorem bitOf_eq_testBit (v i : Nat) : bitOf v i = v.testBit i := Nat.testBit_eq_decide_div_mod_eq.symm

theorem bitOf_or_self (v i : Nat) : bitOf (v ||| 2 ^ i) i = true := by
  rw [bitOf_eq_testBit, Nat.testBit_or, Nat.testBit_two_pow_self, Bool.or_true]

theorem Same.enters {l : List Fld} {s t : State} (h : Same l s t) (hm : Fld.mgmtDown ∉ l) (hs : Fld.stalled ∉ l) {d : Nat} (he : s.enters d) :
    t.enters d := by
  unfold State.enters
  rwa [h.mgmtDown hm, h.stalled hs]

/-- Every other cluster is as it was, and every register but those of a list. -/
structure OnCluster (n : Nat) (keys : List Nat) (s t : State) : Prop where
  others : AllBut s.cluster t.cluster [n]
  regs : RegsBut s t keys

section
variable {n : Nat} {keys : List Nat}

theorem OnCluster.refl (s : State) : OnCluster n keys s s := ⟨fun _ _ => rfl, .refl s keys⟩

theorem OnCluster.trans {s t u : State} (h : OnCluster n keys s t) (h' : OnCluster n keys t u) : OnCluster n keys s u :=
  ⟨fun m hm => (h'.others m hm).trans (h.others m hm), h.regs.trans h'.regs⟩

theorem OnCluster.mono {more : List Nat} {s t : State} (h : OnCluster n keys s t) (hs : ∀ k ∈ keys, k ∈ more) : OnCluster n more s t :=
  ⟨h.others, h.regs.mono hs⟩

theorem State.setCluster_on (s : State) (x : ClusterX) : OnCluster n keys s (s.setCluster n x) :=
  ⟨fun _ hm => State.setCluster_cluster_ne _ _ _ _ (by simpa using hm), .of_regs (.refl s keys) rfl⟩

theorem State.setReg_on (s : State) {k : Nat} (h : k ∈ keys) (v : Nat) : OnCluster n keys s (s.setReg k v) :=
  ⟨fun _ _ => rfl, (RegsBut.refl s keys).setReg h⟩

theorem State.raise_on (s : State) (h : evEventsLost ∈ keys) (d c p : Nat) (cl : Bool) (x : Bytes) : OnCluster n keys s (s.raise d c p cl x) :=
  ⟨fun _ _ => State.raise_get_cluster .., (RegsBut.refl s keys).raise h⟩

end

/-- The ring of events and what gives its stamps are as they were. -/
structure StampsKept (s t : State) : Prop where
  ring : t.evRing = s.evRing
  now : t.now = s.now
  clocks : ∀ m, (t.cluster m).counter = (s.cluster m).counter ∧ (t.cluster m).clockLost = (s.cluster m).clockLost

theorem StampsKept.trans {s t u : State} (h : StampsKept s t) (h' : StampsKept t u) : StampsKept s u :=
  ⟨h'.ring.trans h.ring, h'.now.trans h.now,
    fun m => ⟨(h'.clocks m).1.trans (h.clocks m).1, (h'.clocks m).2.trans (h.clocks m).2⟩⟩

theorem StampsKept.recorded {s t : State} (h : StampsKept s t) {d c p : Nat} {cl : Bool} {x : Bytes} (hr : s.recorded d c p cl x) :
    t.recorded d c p cl x := by
  have time : t.islandTime d = s.islandTime d := by
    obtain ⟨counter, lost⟩ := h.clocks (d - 1)
    unfold State.cluster at counter lost
    unfold State.islandTime
    simp only [counter, lost, h.now]
  unfold State.recorded
  rwa [h.ring, time]

theorem State.setCluster_stamps (s : State) {n : Nat} {x : ClusterX} (hc : x.counter = (s.cluster n).counter)
    (hl : x.clockLost = (s.cluster n).clockLost) : StampsKept s (s.setCluster n x) := by
  refine ⟨rfl, rfl, fun m => ?_⟩
  rw [State.setCluster_get]
  split
  · next same =>
    subst same
    exact ⟨hc, hl⟩
  · exact ⟨rfl, rfl⟩

theorem State.setReg_stamps (s : State) (k v : Nat) : StampsKept s (s.setReg k v) := ⟨rfl, rfl, fun _ => ⟨rfl, rfl⟩⟩

/-! ### The end of the check tour -/

theorem State.tourClose_cases (s : State) (n : Nat) : s.tourClose n = s ∨
    s.tourClose n = (s.setCluster n { s.cluster n with tourDone := true }).setReg (clsLastTourTick n) (s.ctr n) := by
  unfold State.tourClose
  split
  · exact .inr rfl
  · exact .inl rfl

theorem State.tourClose_of_done {s : State} {n : Nat} (h : (s.cluster n).tourDone = true) : s.tourClose n = s := by
  unfold State.tourClose State.tourRuns
  simp [h]

theorem State.tourClose_cluster (s : State) (n : Nat) :
    (s.tourClose n).cluster n = { s.cluster n with tourDone := ((s.tourClose n).cluster n).tourDone } := by
  rcases s.tourClose_cases n with same | closed
  · rw [same]
  · rw [closed, State.setReg_get_cluster, State.setCluster_cluster_same]

theorem State.tourClose_on (s : State) (n : Nat) : OnCluster n [clsLastTourTick n] s (s.tourClose n) := by
  rcases s.tourClose_cases n with same | closed
  · rw [same]
    exact .refl s
  · rw [closed]
    exact (s.setCluster_on _).trans (State.setReg_on _ (List.mem_singleton.mpr rfl) _)

theorem State.tourClose_stamps (s : State) (n : Nat) : StampsKept s (s.tourClose n) := by
  rcases s.tourClose_cases n with same | closed
  · rw [same]
    exact ⟨rfl, rfl, fun _ => ⟨rfl, rfl⟩⟩
  · have ended : StampsKept s (s.setCluster n { s.cluster n with tourDone := true }) := s.setCluster_stamps rfl rfl
    rw [closed]
    exact ended.trans (State.setReg_stamps ..)

/-! ### The map of the slices (Table 3-5) -/

theorem State.spare_of_map {s : State} {n : Nat} {x : Option Nat} (h : (s.cluster n).sliceMap[8]? = some x) : s.spare n = x := by
  unfold State.spare
  rw [h]
  rfl

/-- A group takes a slice and the spare's place takes another: what stands at each place of the map. -/
theorem places_of_exchange {m : List (Option Nat)} (len : m.length = 9) {g : Nat} (hg : g < 8) (x y : Option Nat) :
    ((m.set g x).set 8 y)[g]? = some x ∧ ((m.set g x).set 8 y)[8]? = some y ∧ ∀ k < 8, k ≠ g → ((m.set g x).set 8 y)[k]? = m[k]? := by
  refine ⟨?_, ?_, fun k low other => ?_⟩
  · rw [List.getElem?_set_ne (by omega), List.getElem?_set_self (by omega)]
  · rw [List.getElem?_set_self (by rw [List.length_set]; omega)]
  · rw [List.getElem?_set_ne (by omega), List.getElem?_set_ne (Ne.symm other)]

/-! ### A spare that fails (R87) -/

theorem State.spareFails_cluster (s : State) (n k : Nat) : (s.spareFails n k).cluster n =
    { s.cluster n with failed := (s.cluster n).failed ||| 2 ^ k, sliceMap := (s.cluster n).sliceMap.set 8 none } := by
  unfold State.spareFails State.sliceEvent
  rw [State.raise_get_cluster, State.setCluster_cluster_same]

theorem State.sliceEvent_recorded {s : State} {n : Nat} (k : Nat) (h : s.enters (n + 1)) :
    ∃ m, (s.sliceEvent n k).recorded (n + 1) 0x18 255 false m := ⟨_, State.raise_recorded _ _ _ _ _ _ h⟩

theorem State.sliceEvent_on (s : State) (n k : Nat) : OnCluster n [clsEpochCount n, evEventsLost] s (s.sliceEvent n k) :=
  State.raise_on _ (by simp) ..

/-- A slice of a cluster has FAILED, with EV 0x18, and the cluster's slices are arranged anew. -/
structure SliceFailed (n k : Nat) (m : List (Option Nat)) (s t : State) : Prop where
  on : OnCluster n [clsEpochCount n, evEventsLost] s t
  failed : bitOf (t.cluster n).failed k = true
  map : (t.cluster n).sliceMap = m
  told : s.enters (n + 1) → ∃ x, t.recorded (n + 1) 0x18 255 false x

theorem State.spareFails_failed (s : State) (n k : Nat) : SliceFailed n k ((s.cluster n).sliceMap.set 8 none) s (s.spareFails n k) where
  on := (s.setCluster_on _).trans (State.sliceEvent_on ..)
  failed := by
    rw [State.spareFails_cluster]
    exact bitOf_or_self ..
  map := by rw [State.spareFails_cluster]
  told := fun enters => State.sliceEvent_recorded k enters

end Sys2Proof.Machine

namespace Sys2Proof.Machine

/-! ### The end of an epoch (R81, R83) -/

theorem State.epochEnd_cluster (s : State) (n : Nat) : (s.epochEnd n).cluster n = { s.cluster n with
    sliceMap := ((s.cluster n).sliceMap.set (s.reg (clsEpochCount n) % 8) (s.spare n)).set 8
      ((s.cluster n).sliceMap[s.reg (clsEpochCount n) % 8]?).join,
    epochAt := s.now, calDone := false, tourDone := false, toured := 0, refDone := false } := by
  unfold State.epochEnd
  rw [State.bump32_eq, State.setReg_get_cluster, State.setCluster_cluster_same]

theorem State.epochEnd_on (s : State) (n : Nat) : OnCluster n [clsEpochCount n] s (s.epochEnd n) :=
  (s.setCluster_on _).trans (State.setReg_on _ (List.mem_singleton.mpr rfl) _)

theorem State.epochEnd_count (s : State) (n : Nat) : (s.epochEnd n).reg (clsEpochCount n) = wrap32 (s.reg (clsEpochCount n)) :=
  State.setReg_reg_same ..

theorem exec_epochEnd {n : Fin 8} {s : State} (committed : s.committed = true) (clock : (s.cluster n).clockLost = false) (spare : s.spare n ≠ none)
    (calibrated : (s.cluster n).calDone = true) (toured : (s.cluster n).tourDone = true)
    (due : (s.cluster n).epochAt + 100000 * s.act (clEpoch n) ≤ s.now) : exec (.epochEnd n) s = .next (s.epochEnd n) := by
  have run : exec (.epochEnd n) s = execEpochEnd n s := rfl
  rw [run]
  unfold execEpochEnd
  simp only [State.tourClose_of_done toured]
  exact if_pos ⟨committed, clock, Option.isSome_iff_ne_none.mpr spare, calibrated, toured, State.passed_of_le due⟩

/-! ### Calibration of the spare (R82, R86, R91) -/

/-- The check reference is judged: only its own marks of the cluster can change. -/
theorem State.refCheck_cluster (s : State) (n check : Nat) : (s.refCheck n check).cluster n = { s.cluster n with
    refBad := ((s.refCheck n check).cluster n).refBad, refGood := ((s.refCheck n check).cluster n).refGood,
    refDone := ((s.refCheck n check).cluster n).refDone, refSuspect := ((s.refCheck n check).cluster n).refSuspect } := by
  unfold State.refCheck
  extract_lets bad x y
  split
  · rfl
  · split
    · rw [State.raise_get_cluster, State.setCluster_cluster_same]
    · split <;> rw [State.setCluster_cluster_same]

theorem State.refCheck_on (s : State) (n check : Nat) : OnCluster n [evEventsLost] s (s.refCheck n check) := by
  unfold State.refCheck
  extract_lets bad x y
  split
  · exact .refl s
  · split
    · exact (s.setCluster_on _).trans (State.raise_on _ (by simp) ..)
    · split <;> exact s.setCluster_on _

/-- The second epoch in succession beyond the limit sets REF_SUSPECT, with EV 0x19 (R91). -/
theorem State.refCheck_suspects {s : State} {n check : Nat} (first : (s.cluster n).refDone = false) (clear : (s.cluster n).refSuspect = false)
    (again : 1 ≤ (s.cluster n).refBad) (beyond : 196608000 < ((check : Int) * 2400000 - 81920000000).natAbs) :
    ((s.refCheck n check).cluster n).refSuspect = true ∧
      (s.enters (n + 1) → (s.refCheck n check).recorded (n + 1) 0x19 255 false [BitVec.ofNat 8 n]) := by
  unfold State.refCheck
  extract_lets bad x y
  have twice : 2 ≤ y.refBad := by
    simp only [y, bad, x, beyond, decide_true, if_true]
    omega
  rw [if_neg (by simp [x, first]), if_pos (by simp [x, clear, twice])]
  refine ⟨?_, fun enters => State.raise_recorded _ _ _ _ _ _ enters⟩
  rw [State.raise_get_cluster, State.setCluster_cluster_same]

/-- The readings of a calibration are reported, and the check reference is judged. -/
def State.calRead (s : State) (n : Nat) (cal : Calibration) : State :=
  ((s.setReg (clsRefResult n) (cal.ref % 65536)).setReg (clsCheckRefResult n) (cal.checkRef % 65536)).refCheck n (cal.checkRef % 65536)

/-- A slice is calibrated; a suspect one is cleared by a passing reference read. -/
def ClusterX.calibratedBy (x : ClusterX) (k now : Nat) (cal : Calibration) : ClusterX :=
  { x with calibrated := x.calibrated ||| 2 ^ k, calAt := tabInsert k now (tabErase x.calAt k), calDone := true,
           suspect := if bitOf x.suspect k && cal.refPass then x.suspect - 2 ^ k else x.suspect }

theorem State.spareCalibrated_eq (s : State) (n k : Nat) (cal : Calibration) : s.spareCalibrated n k cal =
    if bitOf ((s.calRead n cal).cluster n).suspect k && !cal.inLimits then (s.calRead n cal).spareFails n k
    else ((s.calRead n cal).setCluster n (((s.calRead n cal).cluster n).calibratedBy k (s.calRead n cal).now cal)).tourClose n := rfl

/-- The registers that a calibration of the spare writes. -/
def calKeys (n : Nat) : List Nat := [clsRefResult n, clsCheckRefResult n, clsLastTourTick n, evEventsLost]

theorem State.calRead_on (s : State) (n : Nat) (cal : Calibration) : OnCluster n (calKeys n) s (s.calRead n cal) :=
  ((s.setReg_on (by simp [calKeys]) _).trans (State.setReg_on _ (by simp [calKeys]) _)).trans
    ((State.refCheck_on ..).mono (by simp [calKeys]))

theorem State.calRead_cluster (s : State) (n : Nat) (cal : Calibration) : ((s.calRead n cal).cluster n).suspect = (s.cluster n).suspect ∧
    ((s.calRead n cal).cluster n).sliceMap = (s.cluster n).sliceMap ∧ ((s.calRead n cal).cluster n).failed = (s.cluster n).failed := by
  unfold State.calRead
  rw [State.refCheck_cluster]
  exact ⟨rfl, rfl, rfl⟩

theorem State.calRead_regs (s : State) (n : Nat) (cal : Calibration) : (s.calRead n cal).reg (clsRefResult n) = cal.ref % 65536 ∧
    (s.calRead n cal).reg (clsCheckRefResult n) = cal.checkRef % 65536 := by
  have judged := (State.refCheck_on ((s.setReg (clsRefResult n) (cal.ref % 65536)).setReg (clsCheckRefResult n) (cal.checkRef % 65536)) n
    (cal.checkRef % 65536)).regs
  refine ⟨(judged _ (by simp)).trans ?_, (judged _ (by simp)).trans (State.setReg_reg_same ..)⟩
  rw [State.setReg_reg_ne _ _ _ _ (by simp), State.setReg_reg_same]

theorem State.calRead_same (s : State) (n : Nat) (cal : Calibration) : Same [.clusters, .events, .regs] s (s.calRead n cal) :=
  (State.refCheck_but _ _ _ _ (by decide) (by decide) (by decide)).trans
    ((State.setReg_but _ _ _ _ (by decide)).trans (State.setReg_but _ _ _ _ (by decide)))

/-- The second reading in succession beyond the limit sets REF_SUSPECT. -/
theorem State.calRead_suspects {s : State} {n : Nat} {cal : Calibration} (first : (s.cluster n).refDone = false)
    (clear : (s.cluster n).refSuspect = false) (again : 1 ≤ (s.cluster n).refBad)
    (beyond : 196608000 < ((cal.checkRef % 65536 : Nat) * (2400000 : Int) - 81920000000).natAbs) :
    ((s.calRead n cal).cluster n).refSuspect = true ∧
      (s.enters (n + 1) → (s.calRead n cal).recorded (n + 1) 0x19 255 false [BitVec.ofNat 8 n]) :=
  State.refCheck_suspects (s := (s.setReg (clsRefResult n) (cal.ref % 65536)).setReg (clsCheckRefResult n) (cal.checkRef % 65536))
    first clear again beyond

theorem exec_spareCalibrationDone {n : Fin 8} {k : Nat} {s : State} (cal : Calibration) (committed : s.committed = true)
    (clock : (s.cluster n).clockLost = false) (waits : (s.cluster n).calDone = false) (spare : s.spare n = some k) :
    exec (.spareCalibrationDone n cal) s = .next (s.spareCalibrated n k cal) := by
  have run : exec (.spareCalibrationDone n cal) s = execSpareCalibrationDone n cal s := rfl
  rw [run]
  unfold execSpareCalibrationDone
  rw [spare]
  exact if_pos ⟨committed, clock, waits⟩

/-- The spare is calibrated: the readings stand as reported, and its cluster is that of the reading with the slice calibrated. -/
theorem State.spareCalibrated_passes {s : State} {n k : Nat} {cal : Calibration}
    (passes : bitOf (s.cluster n).suspect k = false ∨ cal.inLimits = true) :
    OnCluster n [clsLastTourTick n] (s.calRead n cal) (s.spareCalibrated n k cal) ∧ StampsKept (s.calRead n cal) (s.spareCalibrated n k cal) ∧
      ∃ done, (s.spareCalibrated n k cal).cluster n =
        { ((s.calRead n cal).cluster n).calibratedBy k (s.calRead n cal).now cal with tourDone := done } := by
  have keeps : ¬ (bitOf ((s.calRead n cal).cluster n).suspect k && !cal.inLimits) = true := by
    rw [(s.calRead_cluster n cal).1]
    rcases passes with clear | within
    · simp [clear]
    · simp [within]
  rw [State.spareCalibrated_eq, if_neg keeps]
  generalize s.calRead n cal = u
  have written : StampsKept u (u.setCluster n ((u.cluster n).calibratedBy k u.now cal)) := u.setCluster_stamps rfl rfl
  have own : (u.setCluster n ((u.cluster n).calibratedBy k u.now cal)).cluster n = (u.cluster n).calibratedBy k u.now cal :=
    State.setCluster_cluster_same ..
  have closed := (u.setCluster n ((u.cluster n).calibratedBy k u.now cal)).tourClose_cluster n
  rw [own] at closed
  exact ⟨(u.setCluster_on _).trans (State.tourClose_on ..), written.trans (State.tourClose_stamps ..), _, closed⟩

/-- A suspect spare outside its limits fails. -/
theorem State.spareCalibrated_fails {s : State} {n k : Nat} {cal : Calibration} (suspect : bitOf (s.cluster n).suspect k = true)
    (broken : cal.inLimits = false) : s.spareCalibrated n k cal = (s.calRead n cal).spareFails n k := by
  rw [State.spareCalibrated_eq, (s.calRead_cluster n cal).1, suspect, broken]
  rfl

/-- Settles O16: an epoch's end (`State.epochEnd_cluster`), a calibration that passes (`State.spareCalibrated_passes`) with the judgement of the
check reference (`State.refCheck_suspects`), and one that fails its spare (`State.spareFails_failed`). -/
theorem epochsRotateAndCalibrateTheSpare : Obligations.EpochsRotateAndCalibrateTheSpare := by
  unfold Obligations.EpochsRotateAndCalibrateTheSpare
  refine ⟨fun n s committed clock spare calibrated toured due len => ?_, fun n k cal s committed clock waits spare passes => ?_,
    fun n k cal s committed clock waits spare suspect broken len => ?_⟩
  · have run := exec_epochEnd committed clock spare calibrated toured due
    have on := s.epochEnd_on n
    have group : s.reg (clsEpochCount n) % 8 < 8 := Nat.mod_lt _ (by decide)
    obtain ⟨served, left⟩ : ∃ x, (s.cluster n).sliceMap[s.reg (clsEpochCount n) % 8]? = some x :=
      ⟨_, List.getElem?_eq_getElem (by omega)⟩
    obtain ⟨taken, replaced, others⟩ := places_of_exchange len group (s.spare n) served
    refine ⟨_, run, State.epochEnd_but _ _ _ (by decide) (by decide), on.regs, on.others, s.epochEnd_count n, ?_⟩
    rw [State.epochEnd_cluster, left]
    exact ⟨by simpa using len, taken, replaced, others, rfl, rfl⟩
  · obtain ⟨on, stamps, done, cluster⟩ := State.spareCalibrated_passes passes
    obtain ⟨suspect, map, failed⟩ := s.calRead_cluster n cal
    obtain ⟨ref, check⟩ := s.calRead_regs n cal
    have all := (s.calRead_on n cal).trans (on.mono (by simp [calKeys]))
    refine ⟨_, exec_spareCalibrationDone cal committed clock waits spare, State.spareCalibrated_but _ _ _ _ _ (by decide) (by decide) (by decide),
      all.others, all.regs, (on.regs _ (by simp)).trans ref, (on.regs _ (by simp)).trans check, ?_⟩
    rw [cluster]
    refine ⟨rfl, bitOf_or_self .., map, failed, fun notPassed => ?_, fun first clear again beyond => ?_⟩
    · simp [ClusterX.calibratedBy, notPassed, suspect]
    · obtain ⟨marked, told⟩ := State.calRead_suspects first clear again beyond
      exact ⟨marked, fun enters => stamps.recorded (told enters)⟩
  · have fails := (s.calRead n cal).spareFails_failed n k
    have read := s.calRead_on n cal
    rw [(s.calRead_cluster n cal).2.1] at fails
    refine ⟨_, exec_spareCalibrationDone cal committed clock waits spare, State.spareCalibrated_but _ _ _ _ _ (by decide) (by decide) (by decide), ?_⟩
    rw [State.spareCalibrated_fails suspect broken]
    refine ⟨fun m hm => (fails.on.others m hm).trans (read.others m hm), fails.failed, State.spare_of_map ?_,
      fun enters => fails.told ((s.calRead_same n cal).enters (by decide) (by decide) enters)⟩
    rw [fails.map, List.getElem?_set_self (by omega)]

end Sys2Proof.Machine

namespace Sys2Proof.Machine

/-! ### A slice whose hardware fails (R88) -/

theorem State.place_of_spare {s : State} {n : Nat} (len : (s.cluster n).sliceMap.length = 9) : (s.cluster n).sliceMap[8]? = some (s.spare n) := by
  unfold State.spare
  rw [List.getElem?_eq_getElem (by omega)]
  rfl

/-- The slice found in a map without being the spare serves a group. -/
theorem serves_of_found {m : List (Option Nat)} (len : m.length = 9) {g k : Nat} (found : m.findIdx? (fun x => x == some k) = some g)
    (notSpare : m[8]? ≠ some (some k)) : g < 8 ∧ m[g]? = some (some k) := by
  obtain ⟨low, here, -⟩ := List.findIdx?_eq_some_iff_getElem.mp found
  have serving : m[g]? = some (some k) := by rw [List.getElem?_eq_getElem low, beq_iff_eq.mp here]
  refine ⟨?_, serving⟩
  have other : g ≠ 8 := fun eight => notSpare (eight ▸ serving)
  omega

/-- A takeover from a slice whose hardware has failed: the spare serves the group, and then the slice fails as the spare (R86, R88). -/
theorem State.takeOver_fails {s : State} {n g a sp : Nat} (serving : (s.cluster n).sliceMap[g]? = some (some a)) (spare : s.spare n = some sp)
    (ends : Bool) : ∃ u, s.takeOver n g true ends = u.spareFails n a ∧ OnCluster n [clsEpochCount n, evEventsLost] s u ∧
      Same [.clusters, .events, .regs] s u ∧ (u.cluster n).sliceMap = ((s.cluster n).sliceMap.set g (some sp)).set 8 (some a) := by
  unfold State.takeOver
  extract_lets x endsNow
  have active : (x.sliceMap[g]?).join = some a := by rw [serving]; rfl
  rw [active, spare]
  dsimp -zeta only
  extract_lets again src y t u
  have told : OnCluster n [clsEpochCount n, evEventsLost] s t := (s.setCluster_on y).trans (State.raise_on _ (by simp) ..)
  have toldSame : Same [.clusters, .events, .regs] s t :=
    (State.raise_but _ _ _ _ _ _ _ (by decide) (by decide)).trans (State.setCluster_but _ _ _ _ (by decide))
  have own : t.cluster n = y := by rw [State.raise_get_cluster, State.setCluster_cluster_same]
  refine ⟨u, if_pos (by simp), ?_⟩
  simp only [u]
  split
  · exact ⟨told.trans (t.setReg_on (by simp) _), toldSame.trans (State.setReg_but _ _ _ _ (by decide)), by
      rw [State.bump32_eq, State.setReg_get_cluster, own]⟩
  · exact ⟨told, toldSame, by rw [own]⟩

theorem State.sliceHwFault_failed {s : State} {n k : Nat} (h : bitOf (s.cluster n).failed k = true) : s.sliceHwFault n k = s := if_pos h

/-- The spare fails. -/
theorem State.sliceHwFault_spare {s : State} {n k : Nat} (sound : bitOf (s.cluster n).failed k = false) (spare : s.spare n = some k) :
    SliceFailed n k ((s.cluster n).sliceMap.set 8 none) s (s.sliceHwFault n k) := by
  unfold State.sliceHwFault
  rw [if_neg (by simp [sound]), if_pos spare]
  exact s.spareFails_failed n k

/-- An active slice fails and is replaced by the spare. -/
theorem State.sliceHwFault_replaced {s : State} {n k g sp : Nat} (sound : bitOf (s.cluster n).failed k = false) (spare : s.spare n = some sp)
    (other : sp ≠ k) (found : (s.cluster n).sliceMap.findIdx? (fun x => x == some k) = some g) (serving : (s.cluster n).sliceMap[g]? = some (some k)) :
    SliceFailed n k (((s.cluster n).sliceMap.set g (some sp)).set 8 none) s (s.sliceHwFault n k) := by
  have run : s.sliceHwFault n k = s.takeOver n g true false := by
    unfold State.sliceHwFault
    simp [sound, spare, other, found]
  obtain ⟨u, taken, on, same, map⟩ := State.takeOver_fails serving spare false
  have fails := u.spareFails_failed n k
  rw [map, List.set_set] at fails
  rw [run, taken]
  exact ⟨on.trans fails.on, fails.failed, fails.map, fun enters => fails.told (same.enters (by decide) (by decide) enters)⟩

/-- An active slice fails with no spare: its group is left unserved. -/
theorem State.sliceHwFault_unserved {s : State} {n k g : Nat} (sound : bitOf (s.cluster n).failed k = false) (spare : s.spare n = none)
    (found : (s.cluster n).sliceMap.findIdx? (fun x => x == some k) = some g) :
    SliceFailed n k ((s.cluster n).sliceMap.set g none) s (s.sliceHwFault n k) := by
  have run : s.sliceHwFault n k = (s.setCluster n { s.cluster n with
      failed := (s.cluster n).failed ||| 2 ^ k, sliceMap := (s.cluster n).sliceMap.set g none }).sliceEvent n k := by
    unfold State.sliceHwFault
    simp [sound, spare, found]
  have cluster : (s.sliceHwFault n k).cluster n = { s.cluster n with
      failed := (s.cluster n).failed ||| 2 ^ k, sliceMap := (s.cluster n).sliceMap.set g none } := by
    rw [run]
    unfold State.sliceEvent
    rw [State.raise_get_cluster, State.setCluster_cluster_same]
  refine ⟨?_, ?_, ?_, fun enters => ?_⟩
  · rw [run]
    exact (s.setCluster_on _).trans (State.sliceEvent_on ..)
  · rw [cluster]
    exact bitOf_or_self ..
  · rw [cluster]
  · rw [run]
    exact State.sliceEvent_recorded k enters

/-- The map after slice k fails, found at place g: as the spare it leaves none, as an active slice it is replaced by the spare, and with no spare
its group is left unserved (R88). -/
def mapAfterFault (m : List (Option Nat)) (spare : Option Nat) (k g : Nat) : List (Option Nat) :=
  match spare with
  | none => m.set g none
  | some sp => if sp = k then m.set 8 none else (m.set g (some sp)).set 8 none

theorem State.sliceHwFault_fails {s : State} {n k g : Nat} (sound : bitOf (s.cluster n).failed k = false) (len : (s.cluster n).sliceMap.length = 9)
    (found : (s.cluster n).sliceMap.findIdx? (fun x => x == some k) = some g) :
    SliceFailed n k (mapAfterFault (s.cluster n).sliceMap (s.spare n) k g) s (s.sliceHwFault n k) ∧
      (mapAfterFault (s.cluster n).sliceMap (s.spare n) k g)[8]? = some none := by
  have place := State.place_of_spare len
  unfold mapAfterFault
  cases spare : s.spare n with
  | none =>
    rw [spare] at place
    refine ⟨State.sliceHwFault_unserved sound spare found, ?_⟩
    have group := (serves_of_found len found (by rw [place]; simp)).1
    rw [List.getElem?_set_ne (by omega), place]
  | some sp =>
    rw [spare] at place
    dsimp only
    split
    · next same =>
      subst same
      exact ⟨State.sliceHwFault_spare sound spare, List.getElem?_set_self (by omega)⟩
    · next other =>
      have serving := (serves_of_found len found (by rw [place]; simpa using other)).2
      exact ⟨State.sliceHwFault_replaced sound spare other found serving, List.getElem?_set_self (by rw [List.length_set]; omega)⟩

end Sys2Proof.Machine

namespace Sys2Proof.Machine

/-! ### The rounds of one cluster change (R65, R72) -/

/-- Nothing differs but the rounds of cluster n. -/
structure RoundsOnly (n : Nat) (s t : State) : Prop where
  same : Same [.clusters] s t
  others : AllBut s.cluster t.cluster [n]
  own : t.cluster n = { s.cluster n with rounds := (t.cluster n).rounds }

theorem RoundsOnly.refl (n : Nat) (s : State) : RoundsOnly n s s := ⟨.refl _ s, fun _ _ => rfl, rfl⟩

theorem RoundsOnly.trans {n : Nat} {s t u : State} (h : RoundsOnly n s t) (h' : RoundsOnly n t u) : RoundsOnly n s u :=
  ⟨h.same.trans h'.same, fun m hm => (h'.others m hm).trans (h.others m hm), by rw [h'.own, h.own]⟩

theorem RoundsOnly.ctr {n : Nat} {s t : State} (h : RoundsOnly n s t) : t.ctr n = s.ctr n := by
  unfold State.ctr
  rw [h.own]

theorem State.setRound_only (s : State) (n g : Nat) (r : Round) : RoundsOnly n s (s.setRound n g r) := by
  refine ⟨State.setRound_but _ _ _ _ _ (by decide), fun m hm => State.setCluster_cluster_ne _ _ _ _ (by simpa using hm), ?_⟩
  unfold State.setRound
  rw [State.setCluster_cluster_same]

theorem State.setRound_other (s : State) (n : Nat) {g k : Nat} (h : k ≠ g) (r : Round) : (s.setRound n g r).round n k = s.round n k := by
  unfold State.round State.setRound
  rw [State.setCluster_cluster_same, tabFind_insert_ne _ _ h, tabFind_erase_ne _ h]

/-- An operation that sets the round of each group of a cluster, from its group's round and the counter alone. -/
theorem State.each_round {f : State → Nat → State} {n : Nat} {next : Round → Nat → Nat → Round}
    (h : ∀ u g, f u g = u.setRound n g (next (u.round n g) (u.ctr n) g)) (s : State) :
    RoundsOnly n s (s.each (List.range 8) f) ∧
      ∀ g < 8, (s.each (List.range 8) f).round n g = next (s.round n g) (s.ctr n) g := by
  refine ⟨State.each_rel (RoundsOnly.refl n) (fun _ _ _ => RoundsOnly.trans) (fun u g => by rw [h]; exact u.setRound_only ..) _ s, fun g hg => ?_⟩
  obtain ⟨u, before, after⟩ := State.each_at (R := fun s t => RoundsOnly n s t ∧ t.round n g = s.round n g) (fun s => ⟨.refl n s, rfl⟩)
    (fun _ _ _ h h' => ⟨h.1.trans h'.1, h'.2.trans h.2⟩) List.nodup_range (List.mem_range.mpr hg)
    (f := f) (fun u k _ other => by rw [h]; exact ⟨u.setRound_only .., u.setRound_other n (Ne.symm other) _⟩) s
  rw [after.2, h, State.setRound_same, before.2, before.1.ctr]

/-! ### The carrier that is the lock source of CL7 stops (R72) -/

/-- CL7 has fallen back since now. -/
def State.fallen (s : State) (period : Nat) : State :=
  s.setCluster 7 { s.cluster 7 with lockFall := true, lockPeriod := period, lockAt := s.now, lockRes := false, lockOpen := none }

/-- The fall before which the fallback did not show: the windows in progress are discarded, and it is told. -/
theorem State.lockFalls_eq {s : State} (h : (s.cluster 7).lockFall = false) (period : Nat) : s.lockFalls period =
    ((s.fallen period).each (List.range 8) (fun u g => u.roundBreak 7 g (u.ctr 7))).raise 8 0x1A 255 false [7] := by
  have hidden : s.lockShown = false := by simp [State.lockShown, h]
  unfold State.lockFalls
  rw [hidden]
  rfl

/-- The windows in progress of CL7 are discarded, and the next ones open from now on. -/
theorem State.each_roundBreak (s : State) : RoundsOnly 7 s (s.each (List.range 8) (fun u g => u.roundBreak 7 g (u.ctr 7))) ∧
    ∀ g < 8, (s.each (List.range 8) (fun u g => u.roundBreak 7 g (u.ctr 7))).round 7 g =
      { s.round 7 g with opens := s.ctr 7, win := none, win2 := none } :=
  State.each_round (next := fun r now _ => { r with opens := now, win := none, win2 := none }) (fun _ _ => rfl) s

theorem State.lockFalls_cluster {s : State} (h : (s.cluster 7).lockFall = false) (period : Nat) :
    AllBut s.cluster (s.lockFalls period).cluster [7] ∧
      (s.lockFalls period).cluster 7 = { s.cluster 7 with
        lockFall := true, lockPeriod := period, lockAt := s.now, lockRes := false, lockOpen := none,
        rounds := ((s.lockFalls period).cluster 7).rounds } ∧
      ∀ g < 8, (s.lockFalls period).round 7 g = { s.round 7 g with opens := s.ctr 7, win := none, win2 := none } := by
  have own : (s.fallen period).cluster 7 =
      { s.cluster 7 with lockFall := true, lockPeriod := period, lockAt := s.now, lockRes := false, lockOpen := none } :=
    State.setCluster_cluster_same ..
  have others : AllBut s.cluster (s.fallen period).cluster [7] := fun _ hm => State.setCluster_cluster_ne _ _ _ _ (by simpa using hm)
  obtain ⟨broken, rounds⟩ := (s.fallen period).each_roundBreak
  rw [State.lockFalls_eq h]
  refine ⟨fun m hm => ?_, ?_, fun g hg => ?_⟩
  · rw [State.raise_get_cluster, broken.others m hm, others m hm]
  · rw [State.raise_get_cluster, broken.own, own]
  · have told := (State.raise_rounds ((s.fallen period).each (List.range 8) (fun u g => u.roundBreak 7 g (u.ctr 7))) 8 0x1A 255 false [7]).round 7 g
    have before : RoundsKept s (s.fallen period) := s.setCluster_rounds rfl rfl
    rw [told, rounds g hg, before.round, before.ctr]

theorem exec_lockFallback {s : State} (source : s.act (clLockSource 7) ≠ 0) (lock : s.act (clWindowMode 7) = 1) (period : Nat) :
    exec (.lockFallback period) s = .next (s.lockFalls period) := if_neg (by simp [source, lock])

/-- In fallback the windows are LOCK_PERIODS of the last carrier period, to the nearest 10 ns. -/
theorem State.windowPs_fallen {s : State} {n : Nat} (lock : s.act (clWindowMode n) = 1) (fallen : (s.cluster n).lockFall = true)
    (waits : (s.cluster n).lockRes = false) :
    s.windowPs n = roundUp (s.act (clLockPeriods n) * (s.cluster n).lockPeriod) 10000 * 10000 := by
  unfold State.windowPs
  rw [if_neg (by simp [lock]), if_pos (by simp [fallen, waits])]

/-- Once the carrier has run its 10 periods the windows are LOCK_PERIODS periods of the lock source. -/
theorem State.windowPs_lock {s : State} {n : Nat} (lock : s.act (clWindowMode n) = 1) (resumed : (s.cluster n).lockRes = true) :
    s.windowPs n = s.act (clLockPeriods n) * 1000000000000 / s.lockFreq n := by
  unfold State.windowPs
  rw [if_neg (by simp [lock]), if_neg (by simp [resumed])]

theorem Same.get_lockFreq {l : List Fld} {s t : State} (h : Same l s t) (hl : Fld.active ∉ l) (n : Nat) : t.lockFreq n = s.lockFreq n := by
  unfold State.lockFreq State.carrierFreq State.carrierOf
  simp only [h.get_act hl]

theorem lockFallback_answers (period : Nat) (s : State) (source : s.act (clLockSource 7) ≠ 0) (lock : s.act (clWindowMode 7) = 1)
    (locked : (s.cluster 7).lockFall = false) :
    Answers (.lockFallback period) s (fun t => Same [.clusters, .events, .regs] s t ∧ AllBut s.cluster t.cluster [7] ∧
      RegsBut s t [evEventsLost] ∧
      t.cluster 7 = { s.cluster 7 with
        lockFall := true, lockPeriod := period, lockAt := s.now, lockRes := false, lockOpen := none, rounds := (t.cluster 7).rounds } ∧
      (∀ g < 8, t.round 7 g = { s.round 7 g with opens := s.ctr 7, win := none, win2 := none }) ∧ t.lockShown = true ∧
      t.windowPs 7 = roundUp (s.act (clLockPeriods 7) * period) 10000 * 10000 ∧
      (s.enters 8 → t.recorded 8 0x1A 255 false [7])) := by
  have same : Same [.clusters, .events, .regs] s (s.lockFalls period) := State.lockFalls_but _ _ _ (by decide) (by decide) (by decide)
  obtain ⟨others, own, rounds⟩ := State.lockFalls_cluster locked period
  have fallen : ((s.lockFalls period).cluster 7).lockFall = true := congrArg ClusterX.lockFall own
  have waits : ((s.lockFalls period).cluster 7).lockRes = false := congrArg ClusterX.lockRes own
  have unopened : ((s.lockFalls period).cluster 7).lockOpen = none := congrArg ClusterX.lockOpen own
  have measured : ((s.lockFalls period).cluster 7).lockPeriod = period := congrArg ClusterX.lockPeriod own
  refine ⟨_, exec_lockFallback source lock period, same, others, s.lockFalls_regs period, own, rounds, ?_, ?_, fun enters => ?_⟩
  · simp [State.lockShown, fallen, unopened]
  · rw [State.windowPs_fallen (by rw [same.get_act (by decide), lock]) fallen waits, measured, same.get_act (by decide)]
  · have before : Same [.clusters] s ((s.fallen period).each (List.range 8) (fun u g => u.roundBreak 7 g (u.ctr 7))) :=
      Same.trans (State.setCluster_but _ _ _ _ (by decide)) (s.fallen period).each_roundBreak.1.same
    rw [State.lockFalls_eq locked]
    exact State.raise_recorded _ _ _ _ _ _ (before.enters (by decide) (by decide) enters)

/-! ### The carrier has run for 10 periods (R72) -/

/-- A window in progress is that of the channel whose turn it is, which measures, once it is open (R73). -/
theorem State.mem_openWindows {s : State} {x : Nat × Nat × Window × Option Window} : x ∈ s.openWindows ↔ ∃ n < 8, ∃ g < 8, ∃ c,
    s.nextIn n g = some c ∧ s.measures c = true ∧ (s.round n g).opens < s.ctr n ∧ x = (n, g, s.sliceWindow c,
      if (s.owNext c).isSome && decide (s.windowEnds c + 25 < s.ctr n) then some (s.pairWindow c) else none) := by
  unfold State.openWindows
  constructor
  · intro mem
    obtain ⟨l, hl, mem⟩ := List.mem_flatten.mp mem
    obtain ⟨n, hn, rfl⟩ := List.mem_map.mp hl
    obtain ⟨g, hg, here⟩ := List.mem_filterMap.mp mem
    split at here
    · next c next =>
      split at here
      · next opened =>
        obtain ⟨measures, opened⟩ := Bool.and_eq_true_iff.mp opened
        exact ⟨n, List.mem_range.mp hn, g, List.mem_range.mp hg, c, next, measures, of_decide_eq_true opened, (Option.some.inj here).symm⟩
      · cases here
    · cases here
  · rintro ⟨n, hn, g, hg, c, next, measures, opened, rfl⟩
    refine List.mem_flatten.mpr ⟨_, List.mem_map.mpr ⟨n, List.mem_range.mpr hn, rfl⟩, List.mem_filterMap.mpr ⟨g, List.mem_range.mpr hg, ?_⟩⟩
    simp only [next, measures, opened, decide_true, Bool.and_self, if_true]

/-- The window in progress of a group is found by its cluster and group. -/
theorem State.find_openWindows {s : State} {n g c : Nat} (hn : n < 8) (hg : g < 8) (next : s.nextIn n g = some c) (measures : s.measures c = true)
    (opened : (s.round n g).opens < s.ctr n) :
    ∃ x, s.openWindows.find? (fun x => x.1 == n && x.2.1 == g) = some x ∧ x.2.2.1 = s.sliceWindow c := by
  have there : (s.openWindows.find? (fun x => x.1 == n && x.2.1 == g)).isSome := by
    rw [List.find?_isSome]
    exact ⟨_, State.mem_openWindows.mpr ⟨n, hn, g, hg, c, next, measures, opened, rfl⟩, by simp⟩
  obtain ⟨x, found⟩ := Option.isSome_iff_exists.mp there
  obtain ⟨m, -, k, -, d, next', -, -, rfl⟩ := State.mem_openWindows.mp (List.mem_of_find?_eq_some found)
  obtain ⟨rfl, rfl⟩ : m = n ∧ k = g := by simpa using List.find?_some found
  obtain rfl : c = d := Option.some.inj (next.symm.trans next')
  exact ⟨_, found, rfl⟩

/-- The round of a group after a change of the settings: a window in progress is kept with its settings, and no other opens before now (R73). -/
def roundKept (l : List (Nat × Nat × Window × Option Window)) (n : Nat) (r : Round) (now g : Nat) : Round :=
  match l.find? (fun x => x.1 == n && x.2.1 == g) with
  | some x => { r with win := some x.2.2.1, win2 := x.2.2.2 }
  | none => { r with opens := max r.opens now }

theorem State.keepWindows_eq (s : State) (n g : Nat) (l : List (Nat × Nat × Window × Option Window)) :
    s.keepWindows n g l = s.setRound n g (roundKept l n (s.round n g) (s.ctr n) g) := by
  unfold State.keepWindows roundKept
  dsimp only
  cases l.find? (fun x => x.1 == n && x.2.1 == g) <;> rfl

/-- CL7 takes LOCK windows again from now on. -/
def State.resumed (s : State) (opens : Option Nat) : State := s.setCluster 7 { s.cluster 7 with lockRes := true, lockOpen := opens }

theorem State.lockResumes_eq (s : State) : ∃ opens, s.lockResumes =
    (s.resumed opens).each (List.range 8) (fun u g => u.keepWindows 7 g s.openWindows) := ⟨_, rfl⟩

theorem State.lockResumes_cluster (s : State) : AllBut s.cluster s.lockResumes.cluster [7] ∧
    s.lockResumes.cluster 7 = { s.cluster 7 with
      lockRes := true, lockOpen := (s.lockResumes.cluster 7).lockOpen, rounds := (s.lockResumes.cluster 7).rounds } ∧
    ∀ g < 8, s.lockResumes.round 7 g = roundKept s.openWindows 7 (s.round 7 g) (s.ctr 7) g := by
  obtain ⟨opens, run⟩ := s.lockResumes_eq
  have own : (s.resumed opens).cluster 7 = { s.cluster 7 with lockRes := true, lockOpen := opens } := State.setCluster_cluster_same ..
  have others : AllBut s.cluster (s.resumed opens).cluster [7] := fun _ hm => State.setCluster_cluster_ne _ _ _ _ (by simpa using hm)
  obtain ⟨kept, rounds⟩ := State.each_round (next := roundKept s.openWindows 7) (fun u g => u.keepWindows_eq 7 g s.openWindows) (s.resumed opens)
  rw [run]
  refine ⟨fun m hm => (kept.others m hm).trans (others m hm), by rw [kept.own, own], fun g hg => ?_⟩
  have before : RoundsKept s (s.resumed opens) := s.setCluster_rounds rfl rfl
  rw [rounds g hg, before.round, before.ctr]

theorem exec_lockResume {s : State} (fallen : (s.cluster 7).lockFall = true) (waits : (s.cluster 7).lockRes = false)
    (source : s.act (clLockSource 7) ≠ 0) (runs : s.carrierRuns (s.act (clLockSource 7) - 1) = true)
    (due : (s.cluster 7).lockAt + 1000000000 / s.carrierFreq (s.act (clLockSource 7) - 1) ≤ s.now) :
    exec .lockResume s = .next s.lockResumes := if_pos ⟨fallen, waits, source, runs, State.passed_of_le due⟩

theorem exec_lockResume_early {s : State} (early : s.now < (s.cluster 7).lockAt + 1000000000 / s.carrierFreq (s.act (clLockSource 7) - 1)) :
    exec .lockResume s = .next s := by
  refine if_neg ?_
  rintro ⟨-, -, -, -, due⟩
  exact absurd (of_decide_eq_true due) (by omega)

theorem lockResume_answers (s : State) (fallen : (s.cluster 7).lockFall = true) (waits : (s.cluster 7).lockRes = false)
    (source : s.act (clLockSource 7) ≠ 0) (runs : s.carrierRuns (s.act (clLockSource 7) - 1) = true)
    (due : (s.cluster 7).lockAt + 1000000000 / s.carrierFreq (s.act (clLockSource 7) - 1) ≤ s.now) :
    Answers .lockResume s (fun t => Same [.clusters] s t ∧ AllBut s.cluster t.cluster [7] ∧
      t.cluster 7 = { s.cluster 7 with lockRes := true, lockOpen := (t.cluster 7).lockOpen, rounds := (t.cluster 7).rounds } ∧
      (s.act (clWindowMode 7) = 1 → t.windowPs 7 = s.act (clLockPeriods 7) * 1000000000000 / s.lockFreq 7) ∧
      (∀ g < 8, ∀ c, s.nextIn 7 g = some c → s.measures c = true → (s.round 7 g).opens < s.ctr 7 →
        (t.round 7 g).win = some (s.sliceWindow c) ∧ (t.round 7 g).opens = (s.round 7 g).opens)) := by
  have same : Same [.clusters] s s.lockResumes := State.lockResumes_but _ _ (by decide)
  obtain ⟨others, own, rounds⟩ := s.lockResumes_cluster
  refine ⟨_, exec_lockResume fallen waits source runs due, same, others, own, fun lock => ?_, fun g hg c next measures opened => ?_⟩
  · have resumed : (s.lockResumes.cluster 7).lockRes = true := congrArg ClusterX.lockRes own
    rw [State.windowPs_lock (by rw [same.get_act (by decide), lock]) resumed, same.get_act (by decide), same.get_lockFreq (by decide)]
  · obtain ⟨x, found, window⟩ := State.find_openWindows (by decide) hg next measures opened
    rw [rounds g hg]
    unfold roundKept
    rw [found]
    exact ⟨congrArg some window, rfl⟩

/-! ### A common origin of SYNCOUTs comes (R77) -/

/-- SYNCOUTn starts when its origin has come. -/
def State.syncDue (s : State) (n : Nat) : State :=
  match (s.cluster n).syncRestart with
  | none => s
  | some t => if t ≤ s.now then s.syncStart n t else s

theorem State.syncDue_other (s : State) {n m : Nat} (h : m ≠ n) : (s.syncDue n).cluster m = s.cluster m := by
  unfold State.syncDue
  split
  · rfl
  · split
    · exact State.setCluster_cluster_ne _ _ _ _ h
    · rfl

theorem State.syncDue_same (s : State) (n : Nat) : Same [.clusters] s (s.syncDue n) := by
  unfold State.syncDue
  split
  · exact .refl _ s
  · split
    · exact State.syncStart_but _ _ _ _ (by decide)
    · exact .refl _ s

theorem State.syncDue_starts {s : State} {n a : Nat} (origin : (s.cluster n).syncRestart = some a) (come : a ≤ s.now) :
    (s.syncDue n).cluster n = { s.cluster n with syncOrigin := some a, syncRestart := none, syncAcc := s.syncTarget n a,
                                                 syncInc := syncIncrement (s.act (clSyncFreq n)) 0 } := by
  unfold State.syncDue
  rw [origin]
  dsimp only
  rw [if_pos come]
  exact State.setCluster_cluster_same ..

theorem State.syncDue_waits {s : State} {n : Nat} (h : ∀ a, (s.cluster n).syncRestart = some a → s.now < a) : s.syncDue n = s := by
  unfold State.syncDue
  split
  · rfl
  · next a origin => exact if_neg (Nat.not_le.mpr (h a origin))

theorem exec_syncoutRestart (s : State) : exec .syncoutRestart s = .next (s.each clustersAll State.syncDue) := rfl

/-- Each cluster's SYNCOUT starts by itself: what it is after the command is what its own start makes of it. -/
theorem State.each_syncDue (s : State) {n : Nat} (hn : n < 8) : ∃ u, Same [.clusters] s u ∧ u.cluster n = s.cluster n ∧
    (s.each clustersAll State.syncDue).cluster n = (u.syncDue n).cluster n := by
  obtain ⟨u, ⟨same, own⟩, -, after⟩ := State.each_at (R := fun s t => Same [.clusters] s t ∧ t.cluster n = s.cluster n)
    (fun s => ⟨.refl _ s, rfl⟩) (fun _ _ _ h h' => ⟨h.1.trans h'.1, h'.2.trans h.2⟩) (f := State.syncDue) (l := clustersAll)
    List.nodup_range (List.mem_range.mpr hn) (fun u k _ other => ⟨u.syncDue_same k, u.syncDue_other (Ne.symm other)⟩) s
  exact ⟨u, same, own, after⟩

theorem Same.get_syncTarget {l : List Fld} {s t : State} (h : Same l s t) (ha : Fld.active ∉ l) (hn : Fld.now ∉ l) (n at_ : Nat) :
    t.syncTarget n at_ = s.syncTarget n at_ := by
  unfold State.syncTarget
  rw [h.get_act ha, h.get_act ha, h.now hn]

theorem syncoutRestart_answers (s : State) : Answers .syncoutRestart s (fun t => Same [.clusters] s t ∧ ∀ n < 8,
    (∀ a, (s.cluster n).syncRestart = some a → a ≤ s.now →
      t.cluster n = { s.cluster n with syncOrigin := some a, syncRestart := none, syncAcc := s.syncTarget n a,
                                       syncInc := syncIncrement (s.act (clSyncFreq n)) 0 }) ∧
    (∀ a, (s.cluster n).syncRestart = some a → s.now < a → t.cluster n = s.cluster n) ∧
    ((s.cluster n).syncRestart = none → t.cluster n = s.cluster n)) := by
  refine ⟨_, exec_syncoutRestart s, State.each_but _ _ _ _ (fun u n _ => u.syncDue_same n), fun n hn => ?_⟩
  obtain ⟨u, same, own, after⟩ := s.each_syncDue hn
  have now := same.now (by decide)
  rw [after, ← own]
  refine ⟨fun a origin come => ?_, fun a origin early => ?_, fun free => ?_⟩
  · rw [State.syncDue_starts origin (by rwa [now]), same.get_syncTarget (by decide) (by decide), same.get_act (by decide)]
  · rw [State.syncDue_waits (fun b hb => by rw [now, ← Option.some.inj (origin.symm.trans hb)]; exact early)]
  · rw [State.syncDue_waits (fun b hb => by rw [free] at hb; cases hb)]

/-- Settles O17: a failed slice by the place it is found at (`State.sliceHwFault_fails`), the fallback of CL7 and its end
(`lockFallback_answers`, `lockResume_answers`), and the restarts of the SYNCOUTs (`syncoutRestart_answers`). -/
theorem failedSlicesAndLockSourcesFallBack : Obligations.FailedSlicesAndLockSourcesFallBack := by
  unfold Obligations.FailedSlicesAndLockSourcesFallBack
  refine ⟨⟨fun n k s sound len mem => ?_, fun n k s failed => congrArg ok (State.sliceHwFault_failed failed)⟩,
    lockFallback_answers, lockResume_answers, fun s early => exec_lockResume_early early, syncoutRestart_answers⟩
  obtain ⟨g, found⟩ : ∃ g, (s.cluster n).sliceMap.findIdx? (fun x => x == some k.val) = some g :=
    Option.isSome_iff_exists.mp (by rw [List.findIdx?_isSome]; exact List.any_eq_true.mpr ⟨_, mem, by simp⟩)
  obtain ⟨fails, noSpare⟩ := State.sliceHwFault_fails sound len found
  refine ⟨_, rfl, State.sliceHwFault_but _ _ _ _ (by decide) (by decide) (by decide), fails.on.others, fails.on.regs, fails.failed,
    State.spare_of_map (by rw [fails.map, noSpare]), fails.told, fun spare => ?_, fun g' sp spare other found' => ?_, fun g' spare found' => ?_⟩
  · rw [fails.map, spare]
    exact if_pos rfl
  · obtain rfl : g = g' := Option.some.inj (found.symm.trans found')
    rw [fails.map, spare]
    exact if_neg other
  · obtain rfl : g = g' := Option.some.inj (found.symm.trans found')
    rw [fails.map, spare]
    rfl

end Sys2Proof.Machine

namespace Sys2Proof.Machine

/-! ### SAFE_N alone (R130)

SAFE_N falls at a shut-off and at a failed fault-fabric test, and is low after a loss of VCORE; only its release raises it. The lemmas of the
form `f_low` say of each operation that can reach one of these that SAFE_N is low after it when it was low before. They speak of SAFE_N
through the frame of all other parts, so that the frames of the operations that leave SAFE_N alone carry them over the rest. -/

/-- Every part of the state but SAFE_N. -/
def Fld.butSafeN : List Fld := .pending :: .now :: Fld.others.filter (· ≠ .safeN)

@[simp] theorem Fld.mem_butSafeN (f : Fld) : f ∈ Fld.butSafeN ↔ f ≠ .safeN := by
  cases f <;> decide

@[simp] theorem State.safeN_low (s : State) : (({ s with safeN := false } : State).but Fld.butSafeN).safeN = false := rfl

@[simp] theorem State.ite_safeN (c : Prop) [Decidable c] (t u : State) : (if c then t else u).safeN = if c then t.safeN else u.safeN := by
  split <;> rfl

/-- A shut-off sets it low. -/
@[simp] theorem State.shutOff_low (s : State) (p cause : Nat) (cl : Option Nat) (tick upper lower line : Nat) :
    ((s.shutOff p cause cl tick upper lower line).but Fld.butSafeN).safeN = false := by
  obtain ⟨-, -, low, -⟩ := s.shutOff_shutDown p cause cl tick upper lower line
  exact low

/-- A step with no actions is complete at once; else its first ORDER group begins (R136). -/
theorem State.openStep_cases (s : State) (p st : Nat) (exit : Bool) :
    s.openStep p st exit = (s, true) ∨
      ∃ o, s.openStep p st exit =
        (s.setPart p { s.part p with step := some { st := st, exit := exit, order := o }, waitRaised := false }, false) := by
  unfold State.openStep
  split
  · exact .inl rfl
  · exact .inr ⟨_, rfl⟩

section
variable {s : State} (h : (s.but Fld.butSafeN).safeN = false)
include h

theorem Same.low {f : List Fld} {t : State} (same : Same f s t) (hf : Fld.safeN ∉ f) : (t.but Fld.butSafeN).safeN = false :=
  (same.safeN hf).trans h

theorem State.each_low {f : State → Nat → State} {l : List Nat}
    (hf : ∀ u : State, (u.but Fld.butSafeN).safeN = false → ∀ x, ((f u x).but Fld.butSafeN).safeN = false) :
    ((s.each l f).but Fld.butSafeN).safeN = false := by
  induction l generalizing s with
  | nil => exact h
  | cons x l ih => exact ih (hf s h x)

/-! ### Cuts, trips and timers (R54 to R58) -/

@[simp] theorem State.causeAt_low (p cause line : Nat) : ((s.causeAt p cause line).but Fld.butSafeN).safeN = false := by
  simp [State.causeAt, h]

@[simp] theorem State.each_causeAt_low (l : List Nat) (cause line : Nat) :
    ((s.each l (fun s p => s.causeAt p cause line)).but Fld.butSafeN).safeN = false :=
  State.each_low h (fun _ hu p => State.causeAt_low hu p cause line)

@[simp] theorem State.trip_low (c : Nat) (side : Side) : ((s.trip c side).but Fld.butSafeN).safeN = false := by
  simp [State.trip, h]

@[simp] theorem State.gateTrip_low (c : Nat) : ((s.gateTrip c).but Fld.butSafeN).safeN = false :=
  State.each_low h (fun _ hu _ => State.trip_low hu ..)

@[simp] theorem State.settleBy_low (c t : Nat) : ((s.settleBy c t).but Fld.butSafeN).safeN = false := by
  simp [State.settleBy, h]

@[simp] theorem State.timersBy_low (c : Nat) : ((s.timersBy c).but Fld.butSafeN).safeN = false := by
  simp [State.timersBy, h]

@[simp] theorem State.leaves_low (c : Nat) : ((s.leaves c).but Fld.butSafeN).safeN = false := by
  simp [State.leaves, h]

@[simp] theorem State.chanOff_low (c : Nat) : ((s.chanOff c).but Fld.butSafeN).safeN = false := by
  simp [State.chanOff, h]

@[simp] theorem State.parkChan_low (c : Nat) : ((s.parkChan c).but Fld.butSafeN).safeN = false := by
  simp [State.parkChan, h]

theorem State.each_chanOff_low (l : List Nat) : ((s.each l (fun s c => s.chanOff c)).but Fld.butSafeN).safeN = false :=
  State.each_low h (fun _ hu _ => State.chanOff_low hu _)

@[simp] theorem State.deassertEn_low (e : Nat) : ((s.deassertEn e).but Fld.butSafeN).safeN = false :=
  State.each_chanOff_low (by simp [h]) _

/-! ### The sequence of a partition (R134 to R160) -/

@[simp] theorem State.sweepDown_low (p : Nat) : ((s.sweepDown p).but Fld.butSafeN).safeN = false := by
  unfold State.sweepDown
  extract_lets runs lost held off zeroed freed x left down halted
  have before : (held.but Fld.butSafeN).safeN = false := by simp [held, lost, h]
  have after : (off.but Fld.butSafeN).safeN = false := State.each_chanOff_low before _
  simp [halted, down, left, freed, zeroed, after]

@[simp] theorem State.finalSweep_low (p : Nat) : ((s.finalSweep p).but Fld.butSafeN).safeN = false := by
  have timed : ((s.each (s.chansOf p) (fun s c => s.timersBy c)).but Fld.butSafeN).safeN = false :=
    State.each_low h (fun _ hu _ => State.timersBy_low hu _)
  simp [State.finalSweep, timed]

@[simp] theorem State.walk_low (k p : Nat) : ((s.walk k p).but Fld.butSafeN).safeN = false := by
  induction k generalizing s with
  | zero => exact h
  | succ k ih =>
    unfold State.walk
    extract_lets x n down placed low
    split
    · exact h
    · exact h
    · rcases down.openStep_cases p x.position true with e | ⟨o, e⟩ <;> simp [e, down, h]
    · rcases placed.openStep_cases p (x.position + 1) false with e | ⟨o, e⟩ <;> simp [e, placed, h, ih]
    · rcases s.openStep_cases p x.position true with e | ⟨o, e⟩ <;> simp [e, h, ih]

@[simp] theorem State.goOn_low (p : Nat) : ((s.goOn p).but Fld.butSafeN).safeN = false := by
  simp [State.goOn, h]

@[simp] theorem State.stepDone_low (p : Nat) : ((s.stepDone p).but Fld.butSafeN).safeN = false := by
  unfold State.stepDone
  extract_lets x stamped y
  split <;> simp [stamped, h]

@[simp] theorem State.orderAdvance_low (p e : Nat) : ((s.orderAdvance p e).but Fld.butSafeN).safeN = false := by
  unfold State.orderAdvance
  extract_lets
  split
  · exact h
  · extract_lets
    split
    · split <;> simp [h]
    · simp [h]

@[simp] theorem State.join_low (p : Nat) : ((s.join p).but Fld.butSafeN).safeN = false := by
  simp [State.join, h]

@[simp] theorem State.startOrWait_low (p : Nat) : ((s.startOrWait p).but Fld.butSafeN).safeN = false := by
  simp [State.startOrWait, h]

@[simp] theorem State.restartPart_low (p : Nat) : ((s.restartPart p).but Fld.butSafeN).safeN = false := by
  simp [State.restartPart, h]

@[simp] theorem State.descend_low (p low : Nat) : ((s.descend p low).but Fld.butSafeN).safeN = false := by
  simp [State.descend, h]

@[simp] theorem State.stopPart_low (p : Nat) : ((s.stopPart p).but Fld.butSafeN).safeN = false := by
  unfold State.stopPart
  dsimp only
  split <;> simp [h]

@[simp] theorem State.goalWrite_low (n v : Nat) : ((s.goalWrite n v).but Fld.butSafeN).safeN = false := by
  refine State.each_low (by simp [h]) (fun u hu p => ?_)
  simp [hu]

@[simp] theorem State.advance_low (n : Nat) : ((s.advance n).but Fld.butSafeN).safeN = false := by
  unfold State.advance
  extract_lets g v up moved
  refine State.each_low (by simp [moved, h]) (fun u hu p => ?_)
  extract_lets x placed
  split
  · split
    · rcases placed.openStep_cases p v false with e | ⟨o, e⟩ <;> simp [e, placed, hu]
    · simp [placed, hu]
  · simp [hu]
  · exact hu
  · exact hu
  · exact hu

/-! ### The start-up of the Trestle (R170 to R177) -/

@[simp] theorem State.releaseGroups_low : (s.releaseGroups.but Fld.butSafeN).safeN = false := by
  unfold State.releaseGroups
  split
  · exact h
  · exact State.each_low h (fun u hu n => State.each_low (by simp [hu]) (fun v hv p => State.startOrWait_low hv p))

@[simp] theorem State.liftHold_low : (s.liftHold.but Fld.butSafeN).safeN = false := by
  simp [State.liftHold, h]

@[simp] theorem State.closeDiscovery_low : (s.closeDiscovery.but Fld.butSafeN).safeN = false := by
  simp [State.closeDiscovery, h]

@[simp] theorem State.joinClose_low : (s.joinClose.but Fld.butSafeN).safeN = false := by
  unfold State.joinClose
  extract_lets closed
  have low : (closed.but Fld.butSafeN).safeN = false := State.closeDiscovery_low h
  simp [low]

@[simp] theorem State.lateHear_low (d : Nat) : ((s.lateHear d).but Fld.butSafeN).safeN = false := by
  unfold State.lateHear
  extract_lets lead
  split <;> simp [h]

/-! ### The clock of a cluster (R59, R122 to R124) -/

@[simp] theorem State.clockLoss_low (n : Nat) : ((s.clockLoss n).but Fld.butSafeN).safeN = false := by
  have begun : ((s.clockLossBegun n).but Fld.butSafeN).safeN = false := by simp [State.clockLossBegun, h]
  have hit : (((s.clockLossBegun n).each (s.lossHits n) (fun u p => u.clockLossOf n (s.now - 20) p)).but Fld.butSafeN).safeN = false :=
    State.each_low begun (fun u hu p => by simp [State.clockLossOf, hu])
  rw [State.clockLoss_eq]
  simp [State.clockLossTold, hit]

@[simp] theorem State.resolveChan_low (c : Nat) (k : ClusterX) : ((s.resolveChan c k).but Fld.butSafeN).safeN = false := by
  unfold State.resolveChan
  extract_lets x p t late started entered ramped
  split
  · exact h
  · split
    · simp [h]
    · split <;> simp [ramped, started, h]

@[simp] theorem State.parkBack_low (c : Nat) : ((s.parkBack c).but Fld.butSafeN).safeN = false := by
  unfold State.parkBack
  extract_lets x cleared parked
  have low : (parked.but Fld.butSafeN).safeN = false := by
    simp only [parked]
    split
    · simp [cleared, h]
    · split <;> simp [cleared, h]
  simp [low]

@[simp] theorem State.clockBack_low (n : Nat) : ((s.clockBack n).but Fld.butSafeN).safeN = false := by
  have seen : ((s.clockSeen n).but Fld.butSafeN).safeN = false := Same.low h (s.clockSeen_same n) (by decide)
  have resolved := State.each_low (l := chansIn n) seen (fun u hu c => State.resolveChan_low hu c (s.cluster n))
  rw [State.clockBack_eq]
  unfold State.clockCaughtUp
  extract_lets parked ordered steered
  have low : (parked.but Fld.butSafeN).safeN = false := State.each_low resolved (fun u hu c => State.parkBack_low hu c)
  simp [steered, ordered, low]

@[simp] theorem State.retry_low (p : Nat) : ((s.retry p).but Fld.butSafeN).safeN = false := by
  unfold State.retry
  dsimp only
  split <;> simp [h]

@[simp] theorem State.restartWrite_low (r : Role) (p : Nat) : ((s.restartWrite r p).but Fld.butSafeN).safeN = false := by
  unfold State.restartWrite
  dsimp only
  split <;> simp [h]

@[simp] theorem State.pulseAt_low (n : Nat) : ((s.pulseAt n).but Fld.butSafeN).safeN = false := by
  unfold State.pulseAt
  dsimp only
  simp [h]

/-! ### Relief (R214 to R217) -/

@[simp] theorem State.parkOne_low (c : Nat) : ((s.parkOne c).but Fld.butSafeN).safeN = false := by
  simp [State.parkOne, h]

@[simp] theorem State.unparkOne_low (c : Nat) : ((s.unparkOne c).but Fld.butSafeN).safeN = false := by
  simp [State.unparkOne, h]

@[simp] theorem State.park_low (p : Nat) : ((s.park p).but Fld.butSafeN).safeN = false :=
  State.each_low (by simp [h]) (fun _ hu c => State.parkOne_low hu c)

@[simp] theorem State.unpark_low (p : Nat) : ((s.unpark p).but Fld.butSafeN).safeN = false :=
  State.each_low (by simp [h]) (fun _ hu c => State.unparkOne_low hu c)

@[simp] theorem State.applyStep_low (p type : Nat) : ((s.applyStep p type).but Fld.butSafeN).safeN = false := by
  unfold State.applyStep
  split <;> simp [h]

@[simp] theorem State.undoStep_low (p type : Nat) : ((s.undoStep p type).but Fld.butSafeN).safeN = false := by
  unfold State.undoStep
  split <;> simp [h]

@[simp] theorem State.enforce_low (p k : Nat) : ((s.enforce p k).but Fld.butSafeN).safeN = false := by
  simp [State.enforce, h]

@[simp] theorem State.reliefEnd_low (p : Nat) : ((s.reliefEnd p).but Fld.butSafeN).safeN = false := by
  unfold State.reliefEnd
  extract_lets l x freed undone
  have low : (undone.but Fld.butSafeN).safeN = false := State.each_low (by simp [freed, h]) (fun _ hu t => State.undoStep_low hu p t)
  simp [low]

@[simp] theorem State.relief_low (p : Nat) : ((s.relief p).but Fld.butSafeN).safeN = false := by
  simp [State.relief, h]

/-! ### The commit point (R16, R110, R309) -/

@[simp] theorem State.fabricTest_low (good : Bool) : ((s.fabricTest good).1.but Fld.butSafeN).safeN = false := by
  unfold State.fabricTest
  dsimp only
  split
  · exact h
  · split
    · simp [h]
    · exact State.raise_safeN ..

@[simp] theorem State.checkPhase_low (k : CommitKind) (good : Bool) : ((s.checkPhase k good).1.but Fld.butSafeN).safeN = false := by
  unfold State.checkPhase
  dsimp only
  split
  · simp [h]
  · split <;> simp [h]

@[simp] theorem State.runCommit_low (w : Nat) (good : Bool) : ((s.runCommit w good).but Fld.butSafeN).safeN = false := by
  simp [State.runCommit, h]

@[simp] theorem State.commitRequest_low (w : Nat) (good : Bool) : ((s.commitRequest w good).but Fld.butSafeN).safeN = false := by
  simp [State.commitRequest, h]

@[simp] theorem State.queueStart_low (good : Bool) : ((s.queueStart good).but Fld.butSafeN).safeN = false := by
  unfold State.queueStart
  split <;> simp [h]

@[simp] theorem State.shelfStage_low (n : Nat) (k : CommitKind) (good : Bool) :
    ((s.shelfStage n k good).1.but Fld.butSafeN).safeN = false := by
  unfold State.shelfStage
  dsimp only
  split <;> simp [h]

@[simp] theorem State.switchRequest_low (n : Nat) (pin : Bool) (hw : Hw) : ((s.switchRequest n pin hw).but Fld.butSafeN).safeN = false := by
  unfold State.switchRequest
  dsimp only
  split <;> simp [h]

@[simp] theorem State.tryShelf_low (n : Nat) (hw : Hw) : ((s.tryShelf n hw).1.but Fld.butSafeN).safeN = false := by
  unfold State.tryShelf
  dsimp only
  split
  · exact h
  · split
    · simp [h]
    · split <;> simp [h]

@[simp] theorem State.tryFallback_low (hw : Hw) : ((s.tryFallback hw).but Fld.butSafeN).safeN = false := by
  simp [State.tryFallback, h]

@[simp] theorem State.loadProfile_low (hw : Hw) : ((s.loadProfile hw).but Fld.butSafeN).safeN = false := by
  simp [State.loadProfile, h]

@[simp] theorem State.powerUpAbandoned_low (n : Nat) (hw : Hw) : ((s.powerUpAbandoned n hw).but Fld.butSafeN).safeN = false := by
  simp [State.powerUpAbandoned, h]

@[simp] theorem State.loadOn_low : (s.loadOn.but Fld.butSafeN).safeN = false := by
  unfold State.loadOn
  split <;> simp [h]

@[simp] theorem State.resumeIn_low (b check : Nat) : ((s.resumeIn b check).but Fld.butSafeN).safeN = false := by
  simp [State.resumeIn, h]

/-! ### Temperatures (R264 to R270) -/

@[simp] theorem State.sampleHotShut_low (v : Int) : ((s.sampleHotShut v).but Fld.butSafeN).safeN = false := by
  unfold State.sampleHotShut
  dsimp only
  split
  · simp [h]
  · simp [h]

@[simp] theorem State.sample_low (own : Int) : ((s.sample own).but Fld.butSafeN).safeN = false := by
  unfold State.sample
  extract_lets hot first highest lowest stamped
  have low : (stamped.but Fld.butSafeN).safeN = false := by simp [stamped, lowest, highest, h]
  simp [low]

@[simp] theorem State.medianTaken_low (m : Int) (since : Nat) : ((s.medianTaken m since).but Fld.butSafeN).safeN = false := by
  unfold State.medianTaken
  dsimp only
  split
  · simp [h]
  · split <;> simp [h]

@[simp] theorem State.poll_low (readings : List (Option Int)) : ((s.poll readings).but Fld.butSafeN).safeN = false := by
  unfold State.poll
  extract_lets since x begun taken
  have low : (taken.but Fld.butSafeN).safeN = false := by simp [taken, begun, foldl_but, h]
  split <;> simp [low]

/-! ### VCORE and the supplies (R132, R286) -/

omit h in
@[simp] theorem State.vcoreDown_low (s : State) : (s.vcoreDown.but Fld.butSafeN).safeN = false := rfl

omit h in
@[simp] theorem State.coldStart_low (s : State) : (s.coldStart.but Fld.butSafeN).safeN = false := rfl

omit h in
@[simp] theorem State.vcoreLost_low (s : State) : (s.vcoreLost.but Fld.butSafeN).safeN = false := by
  unfold State.vcoreLost
  dsimp only
  split <;> rfl

omit h in
@[simp] theorem State.powerCycle_low (s : State) : (s.powerCycle.but Fld.butSafeN).safeN = false := rfl

omit h in
@[simp] theorem State.sleepNow_low (s : State) : (s.sleepNow.but Fld.butSafeN).safeN = false := by
  unfold State.sleepNow
  extract_lets before fw w x fallen y z asleep
  have fell : (fallen.but Fld.butSafeN).safeN = false := State.vcoreDown_low _
  clear_value fallen
  have low : (asleep.but Fld.butSafeN).safeN = false := fell
  simp [foldl_but, low]

@[simp] theorem State.longForceOff_low : (s.longForceOff.but Fld.butSafeN).safeN = false := by
  unfold State.longForceOff
  split
  · exact State.each_low h (fun u hu p => by simp [hu])
  · simp [h]

/-! ### Crossings of a channel (R53, R54) -/

@[simp] theorem State.windowExit_low (c : Nat) (side : Side) : ((s.windowExit c side).but Fld.butSafeN).safeN = false := by
  unfold State.windowExit
  dsimp only
  simp [h]

@[simp] theorem State.exitAt_low (c : Nat) (side : Side) : ((s.exitAt c side).but Fld.butSafeN).safeN = false := by
  simp [State.exitAt, h]

@[simp] theorem State.windowEnter_low (c : Nat) : ((s.windowEnter c).but Fld.butSafeN).safeN = false := by
  unfold State.windowEnter
  extract_lets t x cleared seen late y marked
  have low : (marked.but Fld.butSafeN).safeN = false := by simp [marked, seen, cleared, h]
  split
  · simp [seen, cleared, h]
  · split <;> simp [low]

@[simp] theorem State.enterAt_low (c : Nat) (pin : Int) : ((s.enterAt c pin).but Fld.butSafeN).safeN = false := by
  simp [State.enterAt, h]

theorem State.inBank_low (n : Nat) {f : State → State}
    (hf : ∀ u : State, (u.but Fld.butSafeN).safeN = false → ((f u).but Fld.butSafeN).safeN = false) :
    ((s.inBank n f).but Fld.butSafeN).safeN = false := by
  have prior : ((f { s with active := s.prior }).but Fld.butSafeN).safeN = false := hf _ (by simp [h])
  simp [State.inBank, prior, hf s h]

/-! ### Commands of the sequence (R137 to R165) -/

@[simp] theorem State.goalRequest_low (n v : Nat) : ((s.goalRequest n v).but Fld.butSafeN).safeN = false := by
  simp [State.goalRequest, h]

@[simp] theorem State.startWrite_low (p : Nat) : ((s.startWrite p).but Fld.butSafeN).safeN = false := by
  unfold State.startWrite
  split
  · simp [h]
  · split
    · simp [h]
    · split <;> simp [h]

@[simp] theorem State.stopWrite_low (p : Nat) : ((s.stopWrite p).but Fld.butSafeN).safeN = false := by
  simp [State.stopWrite, h]

@[simp] theorem State.finish_low (p e : Nat) : ((s.finish p e).but Fld.butSafeN).safeN = false := by
  simp [State.finish, h]

@[simp] theorem State.flagged_low (p e reason : Nat) : ((s.flagged p e reason).but Fld.butSafeN).safeN = false := by
  simp [State.flagged, h]

@[simp] theorem State.skipped_low (p e : Nat) : ((s.skipped p e).but Fld.butSafeN).safeN = false := by
  simp [State.skipped, h]

@[simp] theorem State.actIssue_low (p e w : Nat) : ((s.actIssue p e w).1.but Fld.butSafeN).safeN = false := by
  have gated : ∀ t, (((s.assertEn t).each (s.served t) (fun s c => s.gateTrip c)).but Fld.butSafeN).safeN = false := fun t =>
    State.each_low (by simp [h]) (fun _ hu c => State.gateTrip_low hu c)
  unfold State.actIssue
  dsimp only
  split
  case h_1 => split_ifs <;> simp [h, gated]
  case h_2 => split <;> simp [h]
  case h_7 => split <;> simp [h]
  all_goals simp [h]

@[simp] theorem State.issueAction_low (e : Nat) : ((s.issueAction e).but Fld.butSafeN).safeN = false := by
  unfold State.issueAction
  dsimp only
  split
  · exact h
  · next a _ =>
    have issued : (((s.setAction e { a with issued := true, issuedAt := s.now }).actIssue a.part e a.entry).1.but
        Fld.butSafeN).safeN = false := by
      simp [h]
    split_ifs <;> simp [h, issued]

/-! ### Dictionary requests (R317 to R328) -/

theorem State.item_low (r : Role) (right lenOk valueOk : Bool) {f : State → State} (hf : ((f s).but Fld.butSafeN).safeN = false) :
    ((s.itemLen r right lenOk valueOk f).but Fld.butSafeN).safeN = false := by
  simp [State.itemLen, h, hf]

@[simp] theorem State.commitItem_low (r : Role) (right : Bool) (w : Nat) (b : Byte) (good : Bool) :
    ((s.commitItem r right w b good).but Fld.butSafeN).safeN = false :=
  State.item_low h _ _ _ _ (by simp [h])

@[simp] theorem State.switchItem_low (r : Role) (b : Byte) (hw : Hw) : ((s.switchItem r b hw).but Fld.butSafeN).safeN = false :=
  State.item_low h _ _ _ _ (by simp [h])

/-- What a command answers leaves SAFE_N low. -/
def StaysLow (o : Host.Outcome State Fault Refusal) : Prop := ∀ t, o = .next t → (t.but Fld.butSafeN).safeN = false

omit h in
@[simp] theorem staysLow_ok (t : State) : StaysLow (ok t) ↔ (t.but Fld.butSafeN).safeN = false := by
  simp [StaysLow, ok]

theorem StaysLow.of_same {o : Host.Outcome State Fault Refusal} {f : List Fld} (same : ∀ t, o = .next t → Same f s t)
    (hf : Fld.safeN ∉ f) : StaysLow o := fun t ht => Same.low h (same t ht) hf

theorem StaysLow.after {o : Host.Outcome State Fault Refusal} (ho : StaysLow o) : ((s.after o).but Fld.butSafeN).safeN = false := by
  unfold State.after
  split
  · exact ho _ rfl
  · exact h

theorem execRestart_low (r : Role) (p : Fin 16) (v : Byte) : StaysLow (execRestart r p v s) :=
  (staysLow_ok _).mpr (State.item_low h _ _ _ _ (by simp [h]))

theorem execForceOff_low (r : Role) (p : Fin 16) (v : Byte) : StaysLow (execForceOff r p v s) :=
  (staysLow_ok _).mpr (State.item_low h _ _ _ _ (by simp [h]))

theorem execStart_low (r : Role) (p : Fin 16) (v : Byte) : StaysLow (execStart r p v s) :=
  (staysLow_ok _).mpr (State.item_low h _ _ _ _ (by simp [h]))

theorem execStop_low (r : Role) (p : Fin 16) (v : Byte) : StaysLow (execStop r p v s) :=
  (staysLow_ok _).mpr (State.item_low h _ _ _ _ (by simp [h]))

theorem execSleep_low (r : Role) (v : Byte) : StaysLow (execSleep r v s) := by
  refine (staysLow_ok _).mpr (State.item_low h _ _ _ _ ?_)
  split <;> simp [h]

theorem execResetRequestPower_low (r : Role) : StaysLow (execResetRequestPower r s) := by
  refine (staysLow_ok _).mpr (State.item_low h _ _ _ _ ?_)
  split <;> simp [h]

theorem State.writeSpecial_low (k base u sub v : Nat) :
    ∀ t, s.writeSpecial k base u sub v = some t → (t.but Fld.butSafeN).safeN = false := by
  intro t ht
  unfold State.writeSpecial at ht
  split at ht
  case h_11 => cases ht
  all_goals
    obtain rfl := Option.some.inj ht
    simp [h]

@[simp] theorem State.writeReg_low (r : Role) (k base u sub : Nat) (b : Bytes) :
    ((s.writeReg r k base u sub b).but Fld.butSafeN).safeN = false := by
  unfold State.writeReg
  split
  · exact StaysLow.after h (StaysLow.of_same (f := Fld.butSafeN) h (by apply execRtc_but <;> simp) (by simp))
  · extract_lets t
    have low : (t.but Fld.butSafeN).safeN = false := by
      simp only [t]
      split
      · exact State.writeSpecial_low h _ _ _ _ _ _ ‹_›
      · simp [h]
    simp [low]

@[simp] theorem State.commandLow_low (r : Role) (k base u sub : Nat) (val : Bytes) (hw : Hw) :
    ((s.commandLow r k base u sub val hw).but Fld.butSafeN).safeN = false := by
  unfold State.commandLow
  extract_lets b p
  split
  · simp [h]
  · simp [h]
  · simp [h]
  · exact StaysLow.after h (StaysLow.of_same (f := Fld.butSafeN) h (by apply execShelfData_but <;> simp) (by simp))
  · split
    · exact StaysLow.after h (StaysLow.of_same h (f := Fld.butSafeN) (by apply execShelfErase_but <;> simp) (by simp))
    · exact StaysLow.after h (StaysLow.of_same h (f := Fld.butSafeN) (by apply execShelfSeal_but <;> simp) (by simp))
  · exact StaysLow.after h (execSleep_low h r b)
  · split
    · exact StaysLow.after h (StaysLow.of_same h (f := Fld.butSafeN) (by apply execResetRequestMgmt_but <;> simp) (by simp))
    · exact StaysLow.after h (execResetRequestPower_low h r)
  · exact StaysLow.after h (execRestart_low h r p b)
  · exact StaysLow.after h (execForceOff_low h r p b)
  · exact StaysLow.after h (StaysLow.of_same h (f := Fld.butSafeN) (by apply execClear_but <;> simp) (by simp))
  · exact StaysLow.after h (execStart_low h r p b)
  · exact StaysLow.after h (execStop_low h r p b)
  · exact StaysLow.after h (StaysLow.of_same h (f := Fld.butSafeN) (by apply execArmCapture_but <;> simp) (by simp))
  · exact h

@[simp] theorem State.writeItem_low (r : Role) (k : Nat) (x : ReqItem) (hw : Hw) : ((s.writeItem r k x hw).but Fld.butSafeN).safeN = false := by
  unfold State.writeItem
  split
  · simp [h]
  · split
    · simp [h]
    · split <;> simp [h]

@[simp] theorem State.runItem_low (r : Role) (k : Nat) (x : ReqItem) (hw : Hw) : ((s.runItem r k x hw).but Fld.butSafeN).safeN = false := by
  simp [State.runItem, h]

@[simp] theorem State.oneItem_low (r : Role) (k : Nat) (x : ReqItem) (hw : Hw) : ((s.oneItem r k x hw).but Fld.butSafeN).safeN = false := by
  unfold State.oneItem
  split <;> simp [h]

@[simp] theorem State.runOne_low (w : Wait) (left : Nat) (x : ReqItem) (hw : Hw) : ((s.runOne w left x hw).but Fld.butSafeN).safeN = false := by
  unfold State.runOne
  split <;> simp [h]

@[simp] theorem State.runItems_low (w : Wait) (acted : Bool) (hw : Hw) (l : List ReqItem) :
    ((s.runItems w acted hw l).1.but Fld.butSafeN).safeN = false := by
  induction l generalizing s w acted with
  | nil =>
    unfold State.runItems
    split <;> exact h
  | cons x rest ih =>
    unfold State.runItems
    split
    · exact h
    · split
      · simp [h]
      · extract_lets t acted done
        have low : (t.but Fld.butSafeN).safeN = false := State.runOne_low h ..
        clear_value t
        split
        · split
          · simp [low]
          · split
            · simp [low]
            · exact ih low ..
        · split
          · simp [low]
          · exact ih low ..

@[simp] theorem State.runBatch_low (r : Role) (k tid : Nat) (request : Bytes) (l : List ReqItem) (muted : Bool) (hw : Hw) :
    ((s.runBatch r k tid request l muted hw).but Fld.butSafeN).safeN = false := by
  unfold State.runBatch
  split
  · simp [h]
  · extract_lets w
    split
    · exact h
    · have low := State.runItems_low h w false hw l
      simp [low]

@[simp] theorem State.newRequest_low (r : Role) (k tid : Nat) (payload : Bytes) (muted : Bool) (hw : Hw) :
    ((s.newRequest r k tid payload muted hw).but Fld.butSafeN).safeN = false := by
  unfold State.newRequest
  dsimp only
  split
  · simp [h]
  · split
    · simp [h]
    · split
      · simp [h]
      · split <;> simp [h]

@[simp] theorem State.sessionRequest_low (k : Nat) (x : InReq) (hw : Hw) : ((s.sessionRequest k x hw).but Fld.butSafeN).safeN = false := by
  unfold State.sessionRequest
  dsimp only
  split
  · simp [h]
  · split <;> simp [h]

@[simp] theorem State.inSession_low (x : InReq) (hw : Hw) : ((s.inSession x hw).but Fld.butSafeN).safeN = false := by
  unfold State.inSession
  extract_lets k
  split
  · simp [h]
  · have opened : ((s.openSession x.req.tr x.req.ep k).1.but Fld.butSafeN).safeN = false := by simp [h]
    split <;> simp_all

@[simp] theorem State.runFrame_low (x : InReq) (hw : Hw) : ((s.runFrame x hw).but Fld.butSafeN).safeN = false := by
  unfold State.runFrame
  extract_lets b k
  split
  · simp [h]
  · split
    · simp [h]
    · split <;> simp [h]

@[simp] theorem State.runService_low (x : InReq) (hw : Hw) : ((s.runService x hw).but Fld.butSafeN).safeN = false := by
  unfold State.runService
  extract_lets go
  have goes : ∀ (u : State) (n : Nat), (u.but Fld.butSafeN).safeN = false → ((go u n).but Fld.butSafeN).safeN = false := fun u n hu => by
    simp [go, hu]
  split
  · exact goes _ _ h
  · have opened : ((s.openSession x.req.tr x.req.ep 17).1.but Fld.butSafeN).safeN = false := by simp [h]
    split <;> simp_all

@[simp] theorem State.runRequest_low (x : InReq) (hw : Hw) : ((s.runRequest x hw).but Fld.butSafeN).safeN = false := by
  simp [State.runRequest, h]

@[simp] theorem State.deliverOne_low (w : Wait) (st : Nat) (hw : Hw) : ((s.deliverOne w st hw).but Fld.butSafeN).safeN = false := by
  simp [State.deliverOne, h]

@[simp] theorem State.deliverLoop_low (n : Nat) (hw : Hw) : ((State.deliverLoop n hw s).but Fld.butSafeN).safeN = false := by
  induction n generalizing s with
  | zero => exact h
  | succ n ih =>
    unfold State.deliverLoop
    split
    · exact h
    · exact ih (by simp [h])

@[simp] theorem State.deliver_low (hw : Hw) : ((s.deliver hw).but Fld.butSafeN).safeN = false := by
  simp [State.deliver, h]

@[simp] theorem State.serveNext_low (hw : Hw) : ((s.serveNext hw).but Fld.butSafeN).safeN = false := by
  unfold State.serveNext
  split <;> simp [h]

@[simp] theorem State.pinSwitch_low (v : Nat) (hw : Hw) : ((s.pinSwitch v hw).but Fld.butSafeN).safeN = false := by
  unfold State.pinSwitch
  extract_lets st t su u src
  have asked : (t.but Fld.butSafeN).safeN = false := State.switchRequest_low h ..
  have low : (u.but Fld.butSafeN).safeN = false := by
    simp only [u]
    split_ifs <;> simp [asked]
  have served : ((u.deliver hw).but Fld.butSafeN).safeN = false := State.deliver_low low hw
  simp [src, served]

@[simp] theorem State.pinsJudged_low (hw : Hw) : ((s.pinsJudged hw).but Fld.butSafeN).safeN = false := by
  unfold State.pinsJudged
  extract_lets v x t u
  have low : (u.but Fld.butSafeN).safeN = false := by simp [u, t, h]
  split_ifs <;> simp [low]

/-! ### Commands of the front (every command that can touch SAFE_N but its release) -/

theorem execAnnounceSend_low : StaysLow (execAnnounceSend s) := by
  unfold execAnnounceSend
  split
  · split_ifs <;> simp [h]
  · simp [h]

theorem execDiscoveryClose_low : StaysLow (execDiscoveryClose s) := by
  unfold execDiscoveryClose
  split
  · split_ifs <;> simp [h]
  · simp [h]

omit h in
theorem State.followLeader_low {f : State → State} (hf : ((f s).but Fld.butSafeN).safeN = false) :
    ((s.followLeader f).but Fld.butSafeN).safeN = false := by
  unfold State.followLeader
  extract_lets a mine t u
  have low : (t.but Fld.butSafeN).safeN = false := hf
  have repeated : (u.but Fld.butSafeN).safeN = false := State.each_low low (fun v hv n => by simp [hv])
  split_ifs <;> simp [repeated]

theorem execPresence_low (msg : Bytes) : StaysLow (execPresence msg s) := by
  unfold execPresence
  split_ifs
  · simp [h]
  · split
    · simp [h]
    · split_ifs
      · simp [h]
      · refine (staysLow_ok _).mpr (State.followLeader_low ?_)
        extract_lets heard x u adopted compared back
        have low : (u.but Fld.butSafeN).safeN = false := by simp [u, heard, h]
        have taken : (adopted.but Fld.butSafeN).safeN = false := by simp [adopted, low]
        have judged : (compared.but Fld.butSafeN).safeN = false := State.each_low taken (fun v hv n => by simp [hv])
        have there : (back.but Fld.butSafeN).safeN = false := State.each_low judged (fun v hv n => by simp [hv])
        split_ifs <;> simp [low, there]

theorem execStartupHoldLift_low : StaysLow (execStartupHoldLift s) := by
  unfold execStartupHoldLift
  dsimp only
  split_ifs <;> simp [h]

theorem execTrFltReceive_low (n : Fin 4) : StaysLow (execTrFltReceive n s) := by
  unfold execTrFltReceive
  extract_lets g hidden t u
  have low : (t.but Fld.butSafeN).safeN = false := by simp [t, h]
  have counted : (u.but Fld.butSafeN).safeN = false := by simp [u, low]
  split_ifs
  · simp [low]
  · exact (staysLow_ok _).mpr (State.each_causeAt_low counted ..)

theorem execClusterClockLoss_low (n : Fin 8) : StaysLow (execClusterClockLoss n s) := by
  unfold execClusterClockLoss
  split_ifs <;> simp [h]

theorem execClusterClockBack_low (n : Fin 8) : StaysLow (execClusterClockBack n s) := by
  unfold execClusterClockBack
  split_ifs <;> simp [h]

theorem execRetryDue_low (p : Fin 16) : StaysLow (execRetryDue p s) := by
  unfold execRetryDue
  split
  · simp [h]
  · split_ifs <;> simp [h]

theorem execFramePulse_low : StaysLow (execFramePulse s) := by
  unfold execFramePulse
  split_ifs
  · simp [h]
  · exact (staysLow_ok _).mpr (State.each_low h (fun _ hu n => State.pulseAt_low hu n))

theorem execReliefEvaluate_low : StaysLow (execReliefEvaluate s) := by
  unfold execReliefEvaluate
  split_ifs
  · simp [h]
  · exact (staysLow_ok _).mpr (State.each_low h (fun _ hu p => State.relief_low hu p))

theorem execThermalSample_low (own : Int) : StaysLow (execThermalSample own s) := by
  unfold execThermalSample
  extract_lets due
  split_ifs
  · exact (staysLow_ok _).mpr (State.inBank_low (by simp [h]) 0 (fun u hu => by simp [hu]))
  · simp [h]

theorem execNeighbourPoll_low (readings : List (Option Int)) : StaysLow (execNeighbourPoll readings s) := by
  unfold execNeighbourPoll
  dsimp only
  split_ifs <;> simp [h]

theorem execMgmtResume_low : StaysLow (execMgmtResume s) := by
  unfold execMgmtResume
  split_ifs
  · simp [h]
  · split <;> simp [h]

theorem execBootRetry_low (hw : Hw) : StaysLow (execBootRetry hw s) := by
  unfold execBootRetry
  split
  · simp [h]
  · split
    · simp [h]
    · split <;> simp [h]

theorem execWindowExit_low (c : Fin 512) (x : Crossing) : StaysLow (execWindowExit c x s) :=
  (staysLow_ok _).mpr (State.inBank_low (by simp [h]) _ (fun u hu => by split_ifs <;> simp [hu]))

theorem execWindowEnter_low (x : Inside) : StaysLow (execWindowEnter x s) :=
  (staysLow_ok _).mpr (State.inBank_low (by simp [h]) _ (fun u hu => by split_ifs <;> simp [hu]))

theorem execSettleTimeExpire_low (c : Fin 512) : StaysLow (execSettleTimeExpire c s) :=
  (staysLow_ok _).mpr (State.inBank_low (by simp [h]) _ (fun u hu => by simp [hu]))

theorem execDeadlineExpire_low (c : Fin 512) : StaysLow (execDeadlineExpire c s) :=
  (staysLow_ok _).mpr (State.inBank_low (by simp [h]) _ (fun u hu => by simp [hu]))

theorem execBarrierAdvance_low (n : Fin 4) : StaysLow (execBarrierAdvance n s) := by
  unfold execBarrierAdvance
  extract_lets checks t x u
  have low : (u.but Fld.butSafeN).safeN = false := by simp [u, t, h]
  split_ifs <;> simp [h, low]

theorem execGoal_low (r : Role) (n : Fin 4) (v : Byte) : StaysLow (execGoal r n v s) :=
  (staysLow_ok _).mpr (State.item_low h _ _ _ _ (by simp [h]))

theorem execStartPendingRelease_low (p : Fin 16) : StaysLow (execStartPendingRelease p s) := by
  unfold execStartPendingRelease
  split_ifs <;> simp [h]

theorem execActionIssue_low (e : Fin 4096) : StaysLow (execActionIssue e s) :=
  (staysLow_ok _).mpr (State.inBank_low (by simp [h]) _ (fun u hu => by simp [hu]))

theorem execActionComplete_low (e : Fin 4096) : StaysLow (execActionComplete e s) := by
  unfold execActionComplete
  split
  · simp [h]
  · split
    · simp [h]
    · split
      · simp [h]
      · dsimp only
        split <;> simp [h]
      · simp [h]

theorem execActionTimeout_low (e : Fin 4096) : StaysLow (execActionTimeout e s) := by
  unfold execActionTimeout
  split
  · simp [h]
  · split
    · simp [h]
    · split_ifs <;> simp [h]

theorem execPowerUp_low (start : Start) (hw : Hw) : StaysLow (execPowerUp start hw s) := by
  unfold execPowerUp
  extract_lets u t x y
  have low : (t.but Fld.butSafeN).safeN = false := by simp [t, h]
  have inRom : (x.but Fld.butSafeN).safeN = false := by simp [x, low]
  split_ifs
  · simp [h]
  · split
    · simp [inRom]
    · simp [low]

theorem execVcoreFault_low : StaysLow (execVcoreFault s) := by
  unfold execVcoreFault
  split_ifs <;> simp [h]

theorem execVcoreStartTimeout_low : StaysLow (execVcoreStartTimeout s) := by
  unfold execVcoreStartTimeout
  dsimp only
  split_ifs <;> simp [h]

theorem execSupplySwitchover_low (falling : Bool) : StaysLow (execSupplySwitchover falling s) := by
  unfold execSupplySwitchover
  dsimp only
  split_ifs <;> simp [h]

theorem execContinuityLoss_low : StaysLow (execContinuityLoss s) := by
  unfold execContinuityLoss
  split_ifs <;> simp [h]

theorem execLongPress_low : StaysLow (execLongPress s) := by
  unfold execLongPress
  extract_lets x t u
  have low : (t.but Fld.butSafeN).safeN = false := by simp [t, h]
  have off : (u.but Fld.butSafeN).safeN = false := State.longForceOff_low low
  split_ifs <;> simp [low, off]

theorem execLpPowerCycle_low : StaysLow (execLpPowerCycle s) := by
  unfold execLpPowerCycle
  split
  · simp [h]
  · split_ifs <;> simp [h]

theorem execDapRequest_low (a : Option Arrival) (hw : Hw) : StaysLow (execDapRequest a hw s) := by
  unfold execDapRequest
  extract_lets t
  have low : (t.but Fld.butSafeN).safeN = false := by
    simp only [t]
    split <;> simp [h]
  split_ifs
  · simp [h]
  · have served : ((((t.swapIfDue.deliver hw).serveNext hw)).but Fld.butSafeN).safeN = false :=
      State.serveNext_low (State.deliver_low (by simp [low]) hw) hw
    simp [served]

theorem execRegisterWrite_low (r : Role) (idx : BitVec 16) (sub : Byte) (val : Bytes) : StaysLow (execRegisterWrite r idx sub val s) := by
  unfold execRegisterWrite
  extract_lets t k x
  split_ifs
  · simp [h]
  · simp [h]
  · have run : ((t.oneItem r k x noHw).but Fld.butSafeN).safeN = false := State.oneItem_low (by simp [t, h]) r k x noHw
    simp [run]

theorem execCommit_low (r : Role) (good : Bool) : StaysLow (execCommit r good s) := by simp [execCommit, h]

theorem execCommitDiscard_low (r : Role) : StaysLow (execCommitDiscard r s) := by simp [execCommitDiscard, h]

theorem execPartitionCommit_low (r : Role) (p : Fin 16) (good : Bool) : StaysLow (execPartitionCommit r p good s) := by
  simp [execPartitionCommit, h]

theorem execPartitionCommitDiscard_low (r : Role) (p : Fin 16) : StaysLow (execPartitionCommitDiscard r p s) := by
  simp [execPartitionCommitDiscard, h]

theorem execCommitQueueStart_low (good : Bool) : StaysLow (execCommitQueueStart good s) := by
  unfold execCommitQueueStart
  split_ifs <;> simp [h]

theorem execSwap_low : StaysLow (execSwap s) := by
  unfold execSwap
  split
  · simp [h]
  · split_ifs <;> simp [h]

theorem execCommitAbandon_low (part : Participant) (hw : Hw) : StaysLow (execCommitAbandon part hw s) := by
  unfold execCommitAbandon
  split
  · simp [h]
  · next a _ =>
    extract_lets t
    have low : (t.but Fld.butSafeN).safeN = false := by simp [t, h]
    split_ifs
    · simp [h]
    · split <;> simp [low]

theorem execSwitch_low (r : Role) (v : Byte) (hw : Hw) : StaysLow (execSwitch r v hw s) := by simp [execSwitch, h]

theorem execPselChange_low (v : Fin 4) (hw : Hw) : StaysLow (execPselChange v hw s) := by
  unfold execPselChange
  dsimp only
  split_ifs <;> simp [h]

theorem execEventSubscribe_low (k : Nat) (v : Byte) : StaysLow (execEventSubscribe k v s) := by
  unfold execEventSubscribe
  split
  · simp [h]
  · refine (staysLow_ok _).mpr (State.item_low h _ _ _ _ ?_)
    cases written : s.writeSpecial k 0x5848 0 1 v.toNat with
    | none => exact h
    | some t => exact State.writeSpecial_low h _ _ _ _ _ t written

theorem execHostTimeout_low (p : Fin 16) : StaysLow (execHostTimeout p s) := by
  unfold execHostTimeout
  split
  · simp [h]
  · extract_lets n a x t u
    have low : (u.but Fld.butSafeN).safeN = false := by simp [u, t, h]
    split_ifs <;> simp [h, low]

theorem execHandshakeStall_low (i : Island) : StaysLow (execHandshakeStall i s) := by
  unfold execHandshakeStall
  extract_lets d t
  have low : (t.but Fld.butSafeN).safeN = false := by simp [t, h]
  split_ifs
  · simp [h]
  · split
    · split_ifs <;> simp [low]
    · simp [low]
    · simp [low]

theorem execIslandReady_low (i : Island) : StaysLow (execIslandReady i s) := by
  unfold execIslandReady
  extract_lets d x t u
  have low : (u.but Fld.butSafeN).safeN = false := by
    have joined : (t.but Fld.butSafeN).safeN = false := h
    simp only [u]
    split_ifs <;> simp [joined]
  split_ifs
  · simp [h]
  · split
    · split_ifs <;> simp [low]
    · simp [low]
    · simp [low]

/-- **No command but the release of SAFE_N raises it** (R130): where it is low, it is low after every other command. -/
theorem exec_low (c : Instr) (hc : c ≠ .safeNRelease) : StaysLow (exec c s) := by
  cases c with
  | commit => apply execCommit_low h
  | commitDiscard => apply execCommitDiscard_low h
  | partitionCommit => apply execPartitionCommit_low h
  | partitionCommitDiscard => apply execPartitionCommitDiscard_low h
  | commitQueueStart => apply execCommitQueueStart_low h
  | swap => apply execSwap_low h
  | commitAbandon part hw => exact execCommitAbandon_low h part hw
  | framePulse => apply execFramePulse_low h
  | referenceFail => exact .of_same (f := Fld.butSafeN) h (by apply execReferenceFail_but <;> simp) (by simp)
  | timeFreeClear => exact .of_same (f := Fld.butSafeN) h (by apply execTimeFreeClear_but <;> simp) (by simp)
  | handshakeStall => apply execHandshakeStall_low h
  | islandClockFault => exact .of_same (f := Fld.butSafeN) h (by apply execIslandClockFault_but <;> simp) (by simp)
  | islandReady => apply execIslandReady_low h
  | mgmtResume => apply execMgmtResume_low h
  | windowExit => apply execWindowExit_low h
  | windowEnter => apply execWindowEnter_low h
  | settleTimeExpire => apply execSettleTimeExpire_low h
  | deadlineExpire => apply execDeadlineExpire_low h
  | clear => exact .of_same (f := Fld.butSafeN) h (by apply execClear_but <;> simp) (by simp)
  | sliceResult => exact .of_same (f := Fld.butSafeN) h (by apply execSliceResult_but <;> simp) (by simp)
  | epochEnd => exact .of_same (f := Fld.butSafeN) h (by apply execEpochEnd_but <;> simp) (by simp)
  | spareCalibrationDone => exact .of_same (f := Fld.butSafeN) h (by apply execSpareCalibrationDone_but <;> simp) (by simp)
  | sliceHwFault => exact .of_same (f := Fld.butSafeN) h (by apply execSliceHwFault_but <;> simp) (by simp)
  | openWireTest => exact .of_same (f := Fld.butSafeN) h (by apply execOpenWireTest_but <;> simp) (by simp)
  | openWireResult => exact .of_same (f := Fld.butSafeN) h (by apply execOpenWireResult_but <;> simp) (by simp)
  | lockFallback => exact .of_same (f := Fld.butSafeN) h (by apply execLockFallback_but <;> simp) (by simp)
  | lockResume => exact .of_same (f := Fld.butSafeN) h (by apply execLockResume_but; simp) (by simp)
  | syncoutRestart => exact .of_same (f := Fld.butSafeN) h (by apply execSyncoutRestart_but; simp) (by simp)
  | dischargeEnd => exact .of_same (f := Fld.butSafeN) h (by apply execDischargeEnd_but <;> simp) (by simp)
  | trFltReceive => apply execTrFltReceive_low h
  | fltPulseEnd => exact .of_same (f := Fld.butSafeN) h (by apply execFltPulseEnd_but; simp) (by simp)
  | fltStuck => exact .of_same (f := Fld.butSafeN) h (by apply execFltStuck_but <;> simp) (by simp)
  | fltStuckClear => exact .of_same (f := Fld.butSafeN) h (by apply execFltStuckClear_but <;> simp) (by simp)
  | clusterClockLoss => apply execClusterClockLoss_low h
  | clusterClockBack => apply execClusterClockBack_low h
  | retryDue => apply execRetryDue_low h
  | restart => apply execRestart_low h
  | forceOff => apply execForceOff_low h
  | safeNRelease => exact absurd rfl hc
  | barrierAdvance => apply execBarrierAdvance_low h
  | guardEnd => exact .of_same (f := Fld.butSafeN) h (by apply execGuardEnd_but; simp) (by simp)
  | goal => apply execGoal_low h
  | start => apply execStart_low h
  | stop => apply execStop_low h
  | startPendingRelease => apply execStartPendingRelease_low h
  | actionArm => exact .of_same (f := Fld.butSafeN) h (by apply execActionArm_but <;> simp) (by simp)
  | actionIssue => apply execActionIssue_low h
  | actionComplete => apply execActionComplete_low h
  | actionTimeout => apply execActionTimeout_low h
  | armCapture => exact .of_same (f := Fld.butSafeN) h (by apply execArmCapture_but <;> simp) (by simp)
  | captureOccurrence => exact .of_same (f := Fld.butSafeN) h (by apply execCaptureOccurrence_but; simp) (by simp)
  | captureLimit => exact .of_same (f := Fld.butSafeN) h (by apply execCaptureLimit_but; simp) (by simp)
  | groupReset => exact .of_same (f := Fld.butSafeN) h (by apply execGroupReset_but <;> simp) (by simp)
  | discoveryBegin => exact .of_same (f := Fld.butSafeN) h (by apply execDiscoveryBegin_but; simp) (by simp)
  | announceSend => apply execAnnounceSend_low h
  | announce => exact .of_same (f := Fld.butSafeN) h (by apply execAnnounce_but <;> simp) (by simp)
  | discoveryClose => apply execDiscoveryClose_low h
  | presenceSend => exact .of_same (f := Fld.butSafeN) h (by apply execPresenceSend_but <;> simp) (by simp)
  | presence => apply execPresence_low h
  | stateSend => exact .of_same (f := Fld.butSafeN) h (by apply execStateSend_but <;> simp) (by simp)
  | state => exact .of_same (f := Fld.butSafeN) h (by apply execState_but <;> simp) (by simp)
  | stateCheckTimeout => exact .of_same (f := Fld.butSafeN) h (by apply execStateCheckTimeout_but <;> simp) (by simp)
  | tsyncPulse => exact .of_same (f := Fld.butSafeN) h (by apply execTsyncPulse_but <;> simp) (by simp)
  | tsyncEdge => exact .of_same (f := Fld.butSafeN) h (by apply execTsyncEdge_but; simp) (by simp)
  | sync => exact .of_same (f := Fld.butSafeN) h (by apply execSync_but <;> simp) (by simp)
  | ack => exact .of_same (f := Fld.butSafeN) h (by apply execAck_but <;> simp) (by simp)
  | tsyncLost => exact .of_same (f := Fld.butSafeN) h (by apply execTsyncLost_but <;> simp) (by simp)
  | releaseSend => exact .of_same (f := Fld.butSafeN) h (by apply execReleaseSend_but <;> simp) (by simp)
  | release => exact .of_same (f := Fld.butSafeN) h (by apply execRelease_but <;> simp) (by simp)
  | releaseResend => exact .of_same (f := Fld.butSafeN) h (by apply execReleaseResend_but <;> simp) (by simp)
  | startupHoldLift => apply execStartupHoldLift_low h
  | peerLost => exact .of_same (f := Fld.butSafeN) h (by apply execPeerLost_but <;> simp) (by simp)
  | subIntervalEnd => exact .of_same (f := Fld.butSafeN) h (by apply execSubIntervalEnd_but <;> simp) (by simp)
  | reliefEvaluate => apply execReliefEvaluate_low h
  | tableSelect => exact .of_same (f := Fld.butSafeN) h (by apply execTableSelect_but <;> simp) (by simp)
  | scheduleMatch => exact .of_same (f := Fld.butSafeN) h (by apply execScheduleMatch_but <;> simp) (by simp)
  | demandIntervalEnd => exact .of_same (f := Fld.butSafeN) h (by apply execDemandIntervalEnd_but <;> simp) (by simp)
  | ledgerRecordWrite => exact .of_same (f := Fld.butSafeN) h (by apply execLedgerRecordWrite_but <;> simp) (by simp)
  | dapRequest => apply execDapRequest_low h
  | registerWrite => apply execRegisterWrite_low h
  | eventNext => exact .of_same (f := Fld.butSafeN) h (by apply execEventNext_but <;> simp) (by simp)
  | eventRaise => exact .of_same (f := Fld.butSafeN) h (by apply execEventRaise_but <;> simp) (by simp)
  | eventSubscribe => apply execEventSubscribe_low h
  | eventFrameSend => exact .of_same (f := Fld.butSafeN) h (by apply execEventFrameSend_but <;> simp) (by simp)
  | canFrameReceive => exact .of_same (f := Fld.butSafeN) h (by apply execCanFrameReceive_but <;> simp) (by simp)
  | t1sFrameReceive => exact .of_same (f := Fld.butSafeN) h (by apply execT1sFrameReceive_but <;> simp) (by simp)
  | segTimeout => exact .of_same (f := Fld.butSafeN) h (by apply execSegTimeout_but <;> simp) (by simp)
  | sessionIdle => exact .of_same (f := Fld.butSafeN) h (by apply execSessionIdle_but; simp) (by simp)
  | linkDown => exact .of_same (f := Fld.butSafeN) h (by apply execLinkDown_but <;> simp) (by simp)
  | linkUp => exact .of_same (f := Fld.butSafeN) h (by apply execLinkUp_but <;> simp) (by simp)
  | busoffRecovery => exact .of_same (f := Fld.butSafeN) h (by apply execBusoffRecovery_but <;> simp) (by simp)
  | hostTimeout => apply execHostTimeout_low h
  | tc10SleepRequest => exact .of_same (f := Fld.butSafeN) h (by apply execTc10SleepRequest_but <;> simp) (by simp)
  | tc10WakeUp => exact .of_same (f := Fld.butSafeN) h (by apply execTc10WakeUp_but <;> simp) (by simp)
  | telemFrameSend => exact .of_same (f := Fld.butSafeN) h (by apply execTelemFrameSend_but <;> simp) (by simp)
  | spiFrameStart => exact .of_same (f := Fld.butSafeN) h (by apply execSpiFrameStart_but; simp) (by simp)
  | spiFrameEnd => exact .of_same (f := Fld.butSafeN) h (by apply execSpiFrameEnd_but <;> simp) (by simp)
  | nop => exact (staysLow_ok s).mpr h
  | dap => exact .of_same (f := Fld.butSafeN) h (by apply execDap_but <;> simp) (by simp)
  | sleepLink => exact .of_same (f := Fld.butSafeN) h (by apply execSleepLink_but; simp) (by simp)
  | hostResume => exact .of_same (f := Fld.butSafeN) h (by apply execHostResume_but <;> simp) (by simp)
  | deviceWake => exact .of_same (f := Fld.butSafeN) h (by apply execDeviceWake_but; simp) (by simp)
  | telemIrqAgeExpire => exact .of_same (f := Fld.butSafeN) h (by apply execTelemIrqAgeExpire_but; simp) (by simp)
  | pmbusTrimPeriod => exact .of_same (f := Fld.butSafeN) h (by apply execPmbusTrimPeriod_but; simp) (by simp)
  | marginApply => exact .of_same (f := Fld.butSafeN) h (by apply execMarginApply_but <;> simp) (by simp)
  | marginRemove => exact .of_same (f := Fld.butSafeN) h (by apply execMarginRemove_but <;> simp) (by simp)
  | benchStart => exact .of_same (f := Fld.butSafeN) h (by apply execBenchStart_but <;> simp) (by simp)
  | benchAbort => exact .of_same (f := Fld.butSafeN) h (by apply execBenchAbort_but <;> simp) (by simp)
  | benchSettled => exact .of_same (f := Fld.butSafeN) h (by apply execBenchSettled_but; simp) (by simp)
  | benchSettleTimeout => exact .of_same (f := Fld.butSafeN) h (by apply execBenchSettleTimeout_but; simp) (by simp)
  | benchDwellEnd => exact .of_same (f := Fld.butSafeN) h (by apply execBenchDwellEnd_but; simp) (by simp)
  | verdictPass => exact .of_same (f := Fld.butSafeN) h (by apply execVerdictPass_but <;> simp) (by simp)
  | verdictFail => exact .of_same (f := Fld.butSafeN) h (by apply execVerdictFail_but <;> simp) (by simp)
  | verdictTimeout => exact .of_same (f := Fld.butSafeN) h (by apply execVerdictTimeout_but; simp) (by simp)
  | maintenanceWaitStart => exact .of_same (f := Fld.butSafeN) h (by apply execMaintenanceWaitStart_but <;> simp) (by simp)
  | activationWaitTimeout => exact .of_same (f := Fld.butSafeN) h (by apply execActivationWaitTimeout_but <;> simp) (by simp)
  | latchEntryArrive => exact .of_same (f := Fld.butSafeN) h (by apply execLatchEntryArrive_but <;> simp) (by simp)
  | mergeWindowEnd => exact .of_same (f := Fld.butSafeN) h (by apply execMergeWindowEnd_but <;> simp) (by simp)
  | drawerCommit => exact .of_same (f := Fld.butSafeN) h (by apply execDrawerCommit_but <;> simp) (by simp)
  | drawerReadback => exact .of_same (f := Fld.butSafeN) h (by apply execDrawerReadback_but <;> simp) (by simp)
  | eraseOldest => exact .of_same (f := Fld.butSafeN) h (by apply execEraseOldest_but <;> simp) (by simp)
  | eraseAll => exact .of_same (f := Fld.butSafeN) h (by apply execEraseAll_but <;> simp) (by simp)
  | verifyAll => exact .of_same (f := Fld.butSafeN) h (by apply execVerifyAll_but <;> simp) (by simp)
  | drawerRead => exact .of_same (f := Fld.butSafeN) h (by apply execDrawerRead_but <;> simp) (by simp)
  | thermalSample => apply execThermalSample_low h
  | driveWaitExpire => exact .of_same (f := Fld.butSafeN) h (by apply execDriveWaitExpire_but; simp) (by simp)
  | chatterClear => exact .of_same (f := Fld.butSafeN) h (by apply execChatterClear_but; simp) (by simp)
  | neighbourPoll => apply execNeighbourPoll_low h
  | noSample => exact .of_same (f := Fld.butSafeN) h (by apply execNoSample_but <;> simp) (by simp)
  | vauxValid => exact .of_same (f := Fld.butSafeN) h (by apply execVauxValid_but <;> simp) (by simp)
  | powerUp => apply execPowerUp_low h
  | vcoreStartTimeout => apply execVcoreStartTimeout_low h
  | vcoreFault => apply execVcoreFault_low h
  | vcoreRecovery => exact .of_same (f := Fld.butSafeN) h (by apply execVcoreRecovery_but <;> simp) (by simp)
  | powerLossWarning => exact .of_same (f := Fld.butSafeN) h (by apply execPowerLossWarning_but <;> simp) (by simp)
  | warningWithdrawn => exact .of_same (f := Fld.butSafeN) h (by apply execWarningWithdrawn_but <;> simp) (by simp)
  | supplySwitchover => apply execSupplySwitchover_low h
  | continuityLoss => apply execContinuityLoss_low h
  | bkupLow => exact .of_same (f := Fld.butSafeN) h (by apply execBkupLow_but <;> simp) (by simp)
  | retainedCopy => exact .of_same (f := Fld.butSafeN) h (by apply execRetainedCopy_but <;> simp) (by simp)
  | mrN => exact .of_same (f := Fld.butSafeN) h (by apply execMrN_but <;> simp) (by simp)
  | lockstepMismatch => exact .of_same (f := Fld.butSafeN) h (by apply execLockstepMismatch_but <;> simp) (by simp)
  | watchdog => exact .of_same (f := Fld.butSafeN) h (by apply execWatchdog_but <;> simp) (by simp)
  | resetRequestMgmt => exact .of_same (f := Fld.butSafeN) h (by apply execResetRequestMgmt_but <;> simp) (by simp)
  | resetRequestPower => apply execResetRequestPower_low h
  | pbRelease => exact .of_same (f := Fld.butSafeN) h (by apply execPbRelease_but <;> simp) (by simp)
  | longPress => apply execLongPress_low h
  | lpPowerCycle => apply execLpPowerCycle_low h
  | rtcAlarm => exact .of_same (f := Fld.butSafeN) h (by apply execRtcAlarm_but <;> simp) (by simp)
  | canWake => exact .of_same (f := Fld.butSafeN) h (by apply execCanWake_but <;> simp) (by simp)
  | sleep => apply execSleep_low h
  | rtc => exact .of_same (f := Fld.butSafeN) h (by apply execRtc_but <;> simp) (by simp)
  | bootRetry => apply execBootRetry_low h
  | ownerInit => exact .of_same (f := Fld.butSafeN) h (by apply execOwnerInit_but <;> simp) (by simp)
  | keyLoad => exact .of_same (f := Fld.butSafeN) h (by apply execKeyLoad_but <;> simp) (by simp)
  | debugChallenge => exact .of_same (f := Fld.butSafeN) h (by apply execDebugChallenge_but <;> simp) (by simp)
  | debugResponse => exact .of_same (f := Fld.butSafeN) h (by apply execDebugResponse_but <;> simp) (by simp)
  | debugLock => exact .of_same (f := Fld.butSafeN) h (by apply execDebugLock_but <;> simp) (by simp)
  | attestRequest => exact .of_same (f := Fld.butSafeN) h (by apply execAttestRequest_but <;> simp) (by simp)
  | rollbackAdvance => exact .of_same (f := Fld.butSafeN) h (by apply execRollbackAdvance_but; simp) (by simp)
  | debugPortRequest => exact .of_same (f := Fld.butSafeN) h (by apply execDebugPortRequest_but <;> simp) (by simp)
  | shelfErase => exact .of_same (f := Fld.butSafeN) h (by apply execShelfErase_but <;> simp) (by simp)
  | shelfData => exact .of_same (f := Fld.butSafeN) h (by apply execShelfData_but <;> simp) (by simp)
  | shelfSeal => exact .of_same (f := Fld.butSafeN) h (by apply execShelfSeal_but <;> simp) (by simp)
  | switch => apply execSwitch_low h
  | pselChange => apply execPselChange_low h
  | psTurn => exact .of_same (f := Fld.butSafeN) h (by apply execPsTurn_but <;> simp) (by simp)
  | psTransactionEnd => exact .of_same (f := Fld.butSafeN) h (by apply execPsTransactionEnd_but <;> simp) (by simp)
  | psStretchTimeout => exact .of_same (f := Fld.butSafeN) h (by apply execPsStretchTimeout_but <;> simp) (by simp)
  | sclReleased => exact .of_same (f := Fld.butSafeN) h (by apply execSclReleased_but; simp) (by simp)
  | lineStuck => exact .of_same (f := Fld.butSafeN) h (by apply execLineStuck_but <;> simp) (by simp)
  | lineStuckClear => exact .of_same (f := Fld.butSafeN) h (by apply execLineStuckClear_but <;> simp) (by simp)
  | psBusError => exact .of_same (f := Fld.butSafeN) h (by apply execPsBusError_but <;> simp) (by simp)
  | attentionRequest => exact .of_same (f := Fld.butSafeN) h (by apply execAttentionRequest_but <;> simp) (by simp)
  | svcWrite => exact .of_same (f := Fld.butSafeN) h (by apply execSvcWrite_but <;> simp) (by simp)
  | svcRead => exact .of_same (f := Fld.butSafeN) h (by apply execSvcRead_but <;> simp) (by simp)
  | submitDap => exact .of_same (f := Fld.butSafeN) h (by apply execSubmitDap_but <;> simp) (by simp)
  | submitService => exact .of_same (f := Fld.butSafeN) h (by apply execSubmitService_but <;> simp) (by simp)
  | windowClear => exact .of_same (f := Fld.butSafeN) h (by apply execWindowClear_but <;> simp) (by simp)
  | dropHead => exact .of_same (f := Fld.butSafeN) h (by apply execDropHead_but <;> simp) (by simp)
  | svcAttention => exact .of_same (f := Fld.butSafeN) h (by apply execSvcAttention_but <;> simp) (by simp)
  | peerReadRequest => exact .of_same (f := Fld.butSafeN) h (by apply execPeerReadRequest_but <;> simp) (by simp)
  | peerReadResult => exact .of_same (f := Fld.butSafeN) h (by apply execPeerReadResult_but <;> simp) (by simp)
  | peerArbitrationLoss => exact .of_same (f := Fld.butSafeN) h (by apply execPeerArbitrationLoss_but <;> simp) (by simp)
  | eraseRedo => exact .of_same (f := Fld.butSafeN) h (by apply execEraseRedo_but <;> simp) (by simp)
  | nvProgram => exact .of_same (f := Fld.butSafeN) h (by apply execNvProgram_but <;> simp) (by simp)
  | nvErase => exact .of_same (f := Fld.butSafeN) h (by apply execNvErase_but <;> simp) (by simp)
  | eraseSuspend => exact .of_same (f := Fld.butSafeN) h (by apply execEraseSuspend_but <;> simp) (by simp)
  | eraseResume => exact .of_same (f := Fld.butSafeN) h (by apply execEraseResume_but; simp) (by simp)
  | eraseDone => exact .of_same (f := Fld.butSafeN) h (by apply execEraseDone_but <;> simp) (by simp)
  | nvInterrupt => exact .of_same (f := Fld.butSafeN) h (by apply execNvInterrupt_but <;> simp) (by simp)
  | scrubRead => exact .of_same (f := Fld.butSafeN) h (by apply execScrubRead_but <;> simp) (by simp)
  | memRead => exact .of_same (f := Fld.butSafeN) h (by apply execMemRead_but <;> simp) (by simp)
  | memWrite => exact .of_same (f := Fld.butSafeN) h (by apply execMemWrite_but <;> simp) (by simp)
  | memErase => exact .of_same (f := Fld.butSafeN) h (by apply execMemErase_but <;> simp) (by simp)
  | memAddr => exact .of_same (f := Fld.butSafeN) h (by apply execMemAddr_but <;> simp) (by simp)
  | fwErase => exact .of_same (f := Fld.butSafeN) h (by apply execFwErase_but <;> simp) (by simp)
  | fwData => exact .of_same (f := Fld.butSafeN) h (by apply execFwData_but <;> simp) (by simp)
  | fwSeal => exact .of_same (f := Fld.butSafeN) h (by apply execFwSeal_but <;> simp) (by simp)
  | fwActivate => exact .of_same (f := Fld.butSafeN) h (by apply execFwActivate_but <;> simp) (by simp)
  | fwAbandon => exact .of_same (f := Fld.butSafeN) h (by apply execFwAbandon_but <;> simp) (by simp)
  | carrierPeriod => exact .of_same (f := Fld.butSafeN) h (by apply execCarrierPeriod_but <;> simp) (by simp)
  | positionRead => exact .of_same (f := Fld.butSafeN) h (by apply execPositionRead_but <;> simp) (by simp)
  | standstill => exact .of_same (f := Fld.butSafeN) h (by apply execStandstill_but <;> simp) (by simp)
  | driveOvercurrent => exact .of_same (f := Fld.butSafeN) h (by apply execDriveOvercurrent_but <;> simp) (by simp)
  | driveStall => exact .of_same (f := Fld.butSafeN) h (by apply execDriveStall_but <;> simp) (by simp)
  | run => exact .of_same (f := Fld.butSafeN) h (by apply execRun_but <;> simp) (by simp)
  | clearFault => exact .of_same (f := Fld.butSafeN) h (by apply execClearFault_but <;> simp) (by simp)
  | vioBankLoss => exact .of_same (f := Fld.butSafeN) h (by apply execVioBankLoss_but <;> simp) (by simp)
  | vioBankReturn => exact .of_same (f := Fld.butSafeN) h (by apply execVioBankReturn_but <;> simp) (by simp)
  | stale => exact .of_same (f := Fld.butSafeN) h (by apply execStale_but; simp) (by simp)

end

/-- The release does nothing while something holds SAFE_N low (R130). -/
theorem execSafeNRelease_held {s t : State} (low : s.safeN = false) (next : execSafeNRelease s = .next t) (high : t.safeN = true) :
    s.safeHeld = false := by
  by_contra held
  rw [Bool.not_eq_false] at held
  obtain rfl : s = t := by simpa [execSafeNRelease, held, ok] using next
  simp [low] at high

/-- What no condition holds low has a committed configuration, no fabric fault and no partition shut off (R130). -/
theorem State.safeHeld_eq_false {s : State} (free : s.safeHeld = false) :
    s.committed = true ∧ s.fabricFault = false ∧ ∀ p < 16, (s.part p).state.isFaulted = false := by
  simp only [State.safeHeld, Bool.or_eq_false_iff, Bool.not_eq_false', List.any_eq_false, Bool.not_eq_true] at free
  obtain ⟨⟨committed, fabric⟩, parts⟩ := free
  exact ⟨committed, fabric, fun p hp => parts p (by simpa [partitions] using hp)⟩

/-- Settles O60: of all commands only the release raises SAFE_N (`exec_low`), and it does so only where nothing holds the line low. -/
theorem safeNRisesOnlyByItsRelease : Obligations.SafeNRisesOnlyByItsRelease := by
  unfold Obligations.SafeNRisesOnlyByItsRelease
  intro c s t next low high
  by_cases release : c = .safeNRelease
  · subst release
    exact ⟨rfl, State.safeHeld_eq_false (execSafeNRelease_held low next high)⟩
  · have stays : t.safeN = false := exec_low low c release t next
    exact absurd high (by simp [stays])

end Sys2Proof.Machine

namespace Sys2Proof.Machine

/-! ### The end of a discharge (R113, R115) -/

/-- The end of a discharge makes an enable inactive in its mode, but in a cluster whose clock is lost, where the order waits. -/
theorem State.releaseEn_en (s : State) (e : Nat) : (∀ k, k ≠ e → (s.releaseEn e).en k = s.en k) ∧
    ((s.cluster (enCl e)).clockLost = false → ((s.releaseEn e).en e).asserted = false) ∧
    ((s.cluster (enCl e)).clockLost = true → (s.releaseEn e).en e = { s.en e with order := some false }) := by
  unfold State.releaseEn
  split
  · next lost =>
    obtain ⟨others, -, waits⟩ := s.orderEn_en e false
    exact ⟨others, fun runs => absurd lost (by simp [runs]), waits⟩
  · next runs =>
    refine ⟨fun k hk => ?_, fun _ => ?_, fun lost => absurd lost runs⟩
    · rw [State.modeEn_en, if_neg hk, State.latchEn_en, if_neg hk]
    · rw [State.modeEn_en, if_pos rfl, State.latchEn_en, if_pos rfl]
      split <;> rfl

/-- What the end of a discharge over a list of enables leaves of each enable. -/
structure DischEnded (es : List Nat) (s t : State) : Prop where
  inactive : ∀ e ∈ es, (s.cluster (enCl e)).clockLost = false → (t.en e).asserted = false
  waits : ∀ e ∈ es, (s.cluster (enCl e)).clockLost = true → t.en e = { s.en e with order := some false }
  others : ∀ e, e ∉ es → t.en e = s.en e

theorem State.each_releaseEn (es : List Nat) (s : State) : DischEnded es s (s.each es (fun s e => s.releaseEn e)) := by
  induction es generalizing s with
  | nil => exact ⟨by simp, by simp, fun e _ => rfl⟩
  | cons x es ih =>
    obtain ⟨others, inactive, waits⟩ := s.releaseEn_en x
    have clusters : ∀ n, (s.releaseEn x).cluster n = s.cluster n :=
      Same.get_cluster (l := [.caps, .ens]) (State.releaseEn_but _ _ _ (by decide) (by decide)) (by decide)
    obtain ⟨restInactive, restWaits, restOthers⟩ := ih (s.releaseEn x)
    simp only [clusters] at restInactive restWaits
    rw [State.each_cons]
    refine ⟨fun e he runs => ?_, fun e he lost => ?_, fun e he => ?_⟩
    · by_cases rest : e ∈ es
      · exact restInactive e rest runs
      · obtain rfl : e = x := (List.mem_cons.mp he).resolve_right rest
        rw [restOthers e rest, inactive runs]
    · have first : (s.releaseEn x).en e = { s.en e with order := some false } ∨ (s.releaseEn x).en e = s.en e := by
        by_cases hx : e = x
        · subst hx
          exact .inl (waits lost)
        · exact .inr (others e hx)
      by_cases rest : e ∈ es
      · rw [restWaits e rest lost]
        rcases first with set | kept
        · rw [set]
        · rw [kept]
      · obtain rfl : e = x := (List.mem_cons.mp he).resolve_right rest
        rw [restOthers e rest, waits lost]
    · obtain ⟨hx, rest⟩ := not_or.mp (List.mem_cons.not.mp he)
      rw [restOthers e rest, others e hx]

/-- The discharge has ended when none of its enables is asserted in a cluster whose clock is lost. -/
theorem State.dischargeEnd_part (s : State) (p : Nat) : AllBut s.part (s.dischargeEnd p).part [p] ∧
    DischEnded (s.part p).dischEns s (s.dischargeEnd p) ∧
    ((s.dischargeEnd p).part p = s.part p ∧
        (∃ e ∈ (s.part p).dischEns, (s.cluster (enCl e)).clockLost = true ∧ (s.en e).asserted = true) ∨
      (s.dischargeEnd p).part p = { s.part p with dischEnd := none, dischEns := [] } ∧
        ∀ e ∈ (s.part p).dischEns, (s.cluster (enCl e)).clockLost = true → (s.en e).asserted = false) := by
  unfold State.dischargeEnd
  extract_lets es t
  have ended : DischEnded es s t := s.each_releaseEn es
  have same : Same [.caps, .ens] s t := State.each_but _ _ _ _ (fun u e _ => State.releaseEn_but u e _ (by decide) (by decide))
  have part : ∀ q, t.part q = s.part q := same.get_part (by decide)
  have held : ∀ e ∈ es, (t.cluster (enCl e)).clockLost = true → (t.en e).asserted = (s.en e).asserted := fun e he lost => by
    rw [same.get_cluster (by decide)] at lost
    rw [ended.waits e he lost]
  simp only [same.get_cluster (by decide)] at held ⊢
  split
  · next waiting =>
    obtain ⟨e, he, asserted⟩ := List.any_eq_true.mp waiting
    rw [Bool.and_eq_true] at asserted
    obtain ⟨lost, asserted⟩ := asserted
    exact ⟨fun q _ => part q, ended, .inl ⟨part p, e, he, lost, (held e he lost).symm.trans asserted⟩⟩
  · next released =>
    refine ⟨fun q hq => ?_, ⟨ended.inactive, ended.waits, ended.others⟩, .inr ⟨?_, fun e he lost => ?_⟩⟩
    · rw [State.setPart_get, if_neg (by simpa using hq), part]
    · rw [State.setPart_get, if_pos rfl]
      exact congrArg (fun x : PartX => { x with dischEnd := none, dischEns := [] }) (part p)
    · rw [← held e he lost]
      by_contra asserted
      rw [Bool.not_eq_false] at asserted
      exact released (List.any_eq_true.mpr ⟨e, he, by rw [lost, asserted]; rfl⟩)

theorem exec_dischargeEnd_due {p : Fin 16} {s : State} {k : Nat} (end_ : (s.part p).dischEnd = some k) (due : k ≤ s.now) :
    exec (.dischargeEnd p) s = .next (s.dischargeEnd p) := by
  change execDischargeEnd p s = _
  simp [execDischargeEnd, end_, due, ok]

theorem exec_dischargeEnd_early {p : Fin 16} {s : State} {k : Nat} (end_ : (s.part p).dischEnd = some k) (early : s.now < k) :
    exec (.dischargeEnd p) s = .next s := by
  change execDischargeEnd p s = _
  simp [execDischargeEnd, end_, early.not_ge, ok]

/-! ### The pulse of TR_FLTn and a stuck line (R116, R118, R121) -/

theorem exec_fltPulseEnd_early {n : Fin 4} {s : State} {k : Nat} (drive : (s.group n).fltDrive = some k) (early : s.now < k) :
    exec (.fltPulseEnd n) s = .next s := by
  change execFltPulseEnd n s = _
  simp [execFltPulseEnd, drive, early.not_ge, ok]

theorem exec_fltPulseEnd_due {n : Fin 4} {s : State} {k : Nat} (drive : (s.group n).fltDrive = some k) (due : k ≤ s.now) :
    exec (.fltPulseEnd n) s = .next (s.setGroup n { s.group n with
      fltDrive := none, fltLow := if (s.group n).fltPeer then (s.group n).fltLow else none, fltHigh := some s.now }) := by
  change execFltPulseEnd n s = _
  simp [execFltPulseEnd, drive, due, ok]

theorem exec_fltStuck_done {n : Fin 4} {s : State} (stuck : bitOf (s.reg fabsFltStuck) n = true) : exec (.fltStuck n) s = .next s := by
  change execFltStuck n s = _
  unfold execFltStuck
  split
  · rfl
  · rw [if_neg (by simp [stuck])]
    rfl

/-- The state before EV 0x45 of a line found stuck. -/
def State.stuckFound (s : State) (n : Nat) : State :=
  (s.setGroup n { s.group n with fltHigh := some s.now }).setReg fabsFltStuck (s.reg fabsFltStuck + 2 ^ n)

theorem exec_fltStuck_found {n : Fin 4} {s : State} {k : Nat} (low : (s.group n).fltLow = some k) (long : k + 1000000 < s.now)
    (clear : bitOf (s.reg fabsFltStuck) n = false) :
    exec (.fltStuck n) s = .next ((s.stuckFound n).raise 1 0x45 255 false [BitVec.ofNat 8 n]) := by
  change execFltStuck n s = _
  unfold execFltStuck
  split
  · next high =>
    rw [high] at low
    cases low
  · next since at_ =>
    obtain rfl : k = since := Option.some.inj (low.symm.trans at_)
    exact if_pos ⟨long, clear⟩

/-- A line found stuck sets its bit, with EV 0x45. -/
theorem State.stuckFound_told (s : State) (n : Nat) (x : Bytes) : ∃ t, t = (s.stuckFound n).raise 1 0x45 255 false x ∧
    Same [.events, .groups, .regs] s t ∧ RegsBut s t [fabsFltStuck, evEventsLost] ∧ AllBut s.group t.group [n] ∧
    t.group n = { s.group n with fltHigh := some s.now } ∧ t.reg fabsFltStuck = s.reg fabsFltStuck + 2 ^ n ∧
    (s.enters 1 → t.recorded 1 0x45 255 false x) := by
  have found : Same [.groups, .regs] s (s.stuckFound n) := by simp [Same, State.stuckFound]
  have told := (s.stuckFound n).raise_same 1 0x45 255 false x
  have regs : RegsBut s (s.stuckFound n) [fabsFltStuck, evEventsLost] :=
    RegsBut.setReg (t := s.setGroup n _) (fun _ _ => rfl) (by simp)
  refine ⟨_, rfl, (found.mono (by decide)).trans (told.mono (by decide)), regs.raise (by simp), fun m hm => ?_, ?_, ?_, fun enters => ?_⟩
  · rw [told.get_group (by decide)]
    exact State.setGroup_group_ne _ _ _ _ (by simpa using hm)
  · rw [told.get_group (by decide)]
    exact State.setGroup_group_same ..
  · rw [State.raise_reg_ne _ _ _ _ _ _ _ (by decide)]
    exact State.setReg_reg_same ..
  · exact State.raise_recorded _ _ _ _ _ _ (found.enters (by decide) (by decide) enters)

theorem exec_fltStuckClear_early {n : Fin 4} {s : State}
    (early : (s.group n).fltDrive ≠ none ∨ ∃ a, (s.group n).fltHigh = some a ∧ s.now < a + 100000) :
    exec (.fltStuckClear n) s = .next s := by
  change execFltStuckClear n s = _
  unfold execFltStuckClear
  refine if_pos ?_
  rcases early with driven | ⟨a, high, early⟩
  · exact .inl (Option.isSome_iff_ne_none.mpr driven)
  · right
    rw [high]
    simpa [State.passed, msTicks] using early

/-- The state after a stuck line has been high for 1 ms: nothing is known of the line any more. -/
def State.lineHigh (s : State) (n : Nat) : State := s.setGroup n { s.group n with fltLow := none, fltHigh := none, fltPeer := false }

theorem exec_fltStuckClear_high {n : Fin 4} {s : State} (free : (s.group n).fltDrive = none)
    (high : ∀ a, (s.group n).fltHigh = some a → a + 100000 ≤ s.now) (stuck : bitOf (s.reg fabsFltStuck) n = true) :
    exec (.fltStuckClear n) s = .next ((s.lineHigh n).setReg fabsFltStuck (s.reg fabsFltStuck - 2 ^ n.val)) := by
  change execFltStuckClear n s = _
  unfold execFltStuckClear
  refine (if_neg ?_).trans (if_pos stuck)
  rintro (driven | short)
  · rw [free] at driven
    cases driven
  · split at short
    · cases short
    · next a since =>
      have passed : s.passed a (msTicks 1) = true := State.passed_of_le (high a since)
      simp [passed] at short

/-! ### The release of SAFE_N (R130) -/

theorem exec_safeNRelease_free {s : State} (free : s.safeHeld = false) : exec .safeNRelease s = .next { s with safeN := true } := by
  change execSafeNRelease s = _
  simp [execSafeNRelease, free, ok]

theorem exec_safeNRelease_waits {s : State} (held : s.safeHeld = true) : exec .safeNRelease s = .next s := by
  change execSafeNRelease s = _
  simp [execSafeNRelease, held, ok]

/-- Settles O18: the discharge by `State.dischargeEnd_part`, a stuck line by `State.stuckFound_told`, the other ends by what their command
does when its time has come and before it. -/
theorem dischargeFaultLinesAndSafeNEnd : Obligations.DischargeFaultLinesAndSafeNEnd := by
  unfold Obligations.DischargeFaultLinesAndSafeNEnd
  refine ⟨fun p k s end_ due => ⟨_, exec_dischargeEnd_due end_ due, ?_⟩, fun p k s end_ early => exec_dischargeEnd_early end_ early,
    fun n k s drive => ⟨fun due => ⟨_, exec_fltPulseEnd_due drive due, ?_⟩, exec_fltPulseEnd_early drive⟩,
    fun n k s low long clear => ?_, fun n s stuck => exec_fltStuck_done stuck,
    fun n s free high stuck => ⟨_, exec_fltStuckClear_high free high stuck, ?_⟩, fun n s early => exec_fltStuckClear_early early,
    fun s free => ⟨_, exec_safeNRelease_free free, ?_, rfl⟩, fun s held => exec_safeNRelease_waits held⟩
  · obtain ⟨parts, ended, part⟩ := s.dischargeEnd_part p
    exact ⟨State.dischargeEnd_but _ _ _ (by decide) (by decide) (by decide), parts,
      fun e he => ⟨ended.inactive e he, ended.waits e he⟩, ended.others, part⟩
  · exact ⟨State.setGroup_but _ _ _ _ (by decide), fun m hm => State.setGroup_group_ne _ _ _ _ (by simpa using hm),
      State.setGroup_group_same ..⟩
  · obtain ⟨_, rfl, told⟩ := s.stuckFound_told n [BitVec.ofNat 8 n]
    exact ⟨_, exec_fltStuck_found low long clear, told⟩
  · exact ⟨by simp [Same, State.lineHigh], RegsBut.setReg (t := s.lineHigh n) (fun _ _ => rfl) (by simp),
      fun m hm => State.setGroup_group_ne _ _ _ _ (by simpa using hm), State.setGroup_group_same .., State.setReg_reg_same ..⟩
  · simp [Same]

end Sys2Proof.Machine

namespace Sys2Proof.Machine

/-! ### A restart (R126, R127, R138)

A partition that is restarted is in step or catching up: its walk does not descend, so nothing of its sweep down is reached. -/

/-- What a partition's start leaves: the line, the pending retry, the other partitions, and all registers but those of its state, its last step,
its drives and the lost events. -/
structure Climbs (p : Nat) (s t : State) : Prop where
  same : Same [.drives, .events, .parts, .regs] s t
  objects : ObjectsBut [0x3020, 0x1010, 0x2840, 0x5010] s t
  others : AllBut s.part t.part [p]
  line : (t.part p).line = (s.part p).line
  retry : (t.part p).retryAt = (s.part p).retryAt

theorem Climbs.refl (p : Nat) (s : State) : Climbs p s s := ⟨.refl _ s, .refl _ s, fun _ _ => rfl, rfl, rfl⟩

theorem Climbs.trans {p : Nat} {s t u : State} (h : Climbs p s t) (h' : Climbs p t u) : Climbs p s u :=
  ⟨h.same.trans h'.same, h.objects.trans h'.objects, fun q hq => (h'.others q hq).trans (h.others q hq), h'.line.trans h.line,
    h'.retry.trans h.retry⟩

/-- What leaves the partitions alone. -/
theorem Climbs.of_objects {p : Nat} {f : List Fld} {s t : State} (same : Same f s t) (hf : ∀ x ∈ f, x ∈ [Fld.drives, .events, .regs])
    (objects : ObjectsBut [0x3020, 0x1010, 0x2840, 0x5010] s t) : Climbs p s t := by
  have parts : Fld.parts ∉ f := fun hp => absurd (hf _ hp) (by decide)
  have wider : ∀ x ∈ [Fld.drives, .events, .regs], x ∈ [Fld.drives, .events, .parts, .regs] := by decide
  exact ⟨same.mono (fun x hx => wider x (hf x hx)), objects, fun q _ => same.get_part parts q, by rw [same.get_part parts],
    by rw [same.get_part parts]⟩

theorem State.setPart_climbs (s : State) (p : Nat) {x : PartX} (line : x.line = (s.part p).line) (retry : x.retryAt = (s.part p).retryAt) :
    Climbs p s (s.setPart p x) :=
  ⟨State.setPart_but _ _ _ _ (by decide), s.setPart_objects .., fun q hq => (State.setPart_get ..).trans (if_neg (by simpa using hq)),
    by rw [State.setPart_get, if_pos rfl, line], by rw [State.setPart_get, if_pos rfl, retry]⟩

theorem State.raise_climbs (s : State) (q d c p : Nat) (cl : Bool) (x : Bytes) : Climbs q s (s.raise d c p cl x) :=
  .of_objects (s.raise_same ..) (by decide) (s.raise_objects (by decide) ..)

/-- A partition that takes a state keeps its line, its retry and its place in the sequence, and the others keep all. -/
theorem State.toPart_kept (s : State) (p : Nat) (st : PartState) (at_ : Nat) :
    AllBut s.part (s.toPart p st at_).part [p] ∧ ((s.toPart p st at_).part p).line = (s.part p).line ∧
      ((s.toPart p st at_).part p).retryAt = (s.part p).retryAt ∧ ((s.toPart p st at_).part p).phase = (s.part p).phase := by
  unfold State.toPart
  extract_lets x ends t u
  have synced : ∀ q, u.part q = t.part q := fun q => State.each_keeps (fun s => s.part q) _ _ (fun v d _ =>
    Same.get_part (l := [.drives, .events, .regs]) (by apply State.driveSync_but <;> decide) (by decide) q) t
  have own : (u.part p).line = (s.part p).line ∧ (u.part p).retryAt = (s.part p).retryAt ∧ (u.part p).phase = (s.part p).phase := by
    rw [synced, State.partSince_part, if_pos rfl]
    exact ⟨rfl, rfl, rfl⟩
  have others : AllBut s.part u.part [p] := fun q hq => by
    rw [synced, State.partSince_part, if_neg (by simpa using hq)]
  split
  · exact ⟨others, own⟩
  · simp only [AllBut, State.setReg_get_part]
    exact ⟨others, own⟩

theorem State.toPart_climbs (s : State) (p : Nat) (st : PartState) (at_ : Nat) : Climbs p s (s.toPart p st at_) := by
  obtain ⟨others, line, retry, -⟩ := s.toPart_kept p st at_
  exact ⟨by apply State.toPart_but <;> decide, (s.toPart_objects ..).mono (by decide), others, line, retry⟩

theorem State.runOnUp_climbs (s : State) (p q : Nat) : Climbs q s (s.runOnUp p) :=
  .of_objects (f := [.drives, .events, .regs]) (by apply State.runOnUp_but <;> decide) (by decide)
    (.each (fun u d => (u.setReg_objects (by decide) ..).trans ((State.driveSync_objects _ d).mono (by decide))) _ s)

/-- A member that has reached its goal is UP (R138). -/
theorem State.reachUp_climbs (s : State) (p : Nat) : Climbs p s (s.reachUp p) :=
  ((s.toPart_climbs ..).trans (State.runOnUp_climbs ..)).trans (State.raise_climbs ..)

theorem State.reachUp_state (s : State) (p : Nat) : ((s.reachUp p).part p).state = .up := by
  have run : Same [.drives, .events, .regs] (s.toPart p .up s.now) ((s.toPart p .up s.now).runOnUp p) := by apply State.runOnUp_but <;> decide
  unfold State.reachUp
  extract_lets t u
  have up : (t.part p).state = .up := by
    rw [(s.toPart_part p p .up s.now).1, if_pos rfl]
  rw [State.raise_get_part, run.get_part (by decide)]
  exact up

theorem State.turnDown_climbs (s : State) (p : Nat) : Climbs p s (s.turnDown p) := by
  unfold State.turnDown
  split
  · exact s.toPart_climbs ..
  · exact .refl p s

theorem State.turnDown_state {s : State} {p : Nat} (start : (s.part p).state = .starting) : ((s.turnDown p).part p).state = .stopping := by
  unfold State.turnDown
  rw [if_pos (.inl start), (s.toPart_part p p .stopping s.now).1, if_pos rfl]

/-- The next ORDER group of a step, or no action at all: the state stays. -/
theorem State.openStep_climbs (s : State) (p st : Nat) (exit : Bool) :
    Climbs p s (s.openStep p st exit).1 ∧ ((s.openStep p st exit).1.part p).state = (s.part p).state ∧
      ((s.openStep p st exit).1.part p).phase = (s.part p).phase := by
  rcases s.openStep_cases p st exit with e | ⟨o, e⟩ <;> rw [e]
  · exact ⟨.refl p s, rfl, rfl⟩
  · exact ⟨s.setPart_climbs p rfl rfl, by rw [State.setPart_get, if_pos rfl], by rw [State.setPart_get, if_pos rfl]⟩

theorem State.stepTick_climbs (s : State) (p q : Nat) : Climbs q s (s.setReg (seqsLastStepTick p) s.now) :=
  .of_objects (f := [.regs]) (State.setReg_but _ _ _ _ (by decide)) (by decide) (s.setReg_objects (by decide) ..)

theorem Climbs.group {p : Nat} {s t : State} (h : Climbs p s t) : t.groupOf p = s.groupOf p ∧ (∀ n, t.grpState n = s.grpState n) ∧
    ∀ n, t.goalOf n = s.goalOf n :=
  ⟨h.same.get_act (by decide) _, fun n => h.objects.at (by decide) n 1, fun n => h.objects.at (by decide) n 2⟩

/-- What a start comes to: STARTING or UP up to its goal, STARTING or STOPPING above it. -/
structure Starts (p : Nat) (s t : State) : Prop where
  climbs : Climbs p s t
  toGoal : s.grpState (s.groupOf p) ≤ s.goalOf (s.groupOf p) → (t.part p).state = .starting ∨ (t.part p).state = .up
  above : s.goalOf (s.groupOf p) < s.grpState (s.groupOf p) → (t.part p).state = .starting ∨ (t.part p).state = .stopping

theorem Starts.after {p : Nat} {s t u : State} (h : Climbs p s t) (h' : Starts p t u) : Starts p s u := by
  obtain ⟨of, state, goal⟩ := h.group
  obtain ⟨climbs, toGoal, above⟩ := h'
  simp only [of, state, goal] at toGoal above
  exact ⟨h.trans climbs, toGoal, above⟩

theorem Starts.of_starting {p : Nat} {s t : State} (h : Climbs p s t) (start : (t.part p).state = .starting) : Starts p s t :=
  ⟨h, fun _ => .inl start, fun _ => .inl start⟩

/-- The walk of a partition that starts in step or catching up (R136, R138). -/
theorem State.walk_starts (k : Nat) (s : State) (p : Nat) (start : (s.part p).state = .starting)
    (phase : (s.part p).phase = .inStep ∨ (s.part p).phase = .catchingUp) : Starts p s (s.walk k p) := by
  induction k generalizing s with
  | zero => exact .of_starting (.refl p s) start
  | succ k ih =>
    unfold State.walk
    extract_lets x n down placed low
    have start : x.state = .starting := start
    rcases phase with inStep | catching
    · have inStep : x.phase = .inStep := inStep
      rw [inStep]
      dsimp only
      split
      · next there =>
        rw [if_pos (.inl start)]
        exact ⟨s.reachUp_climbs p, fun _ => .inr (s.reachUp_state p), fun above => absurd there above.ne'⟩
      · split
        · exact .of_starting (.refl p s) start
        · next away notBelow =>
          have beyond : s.goalOf (s.groupOf p) < s.grpState (s.groupOf p) := lt_of_le_of_ne (not_lt.mp notBelow) (Ne.symm away)
          split
          · exact .of_starting (.refl p s) start
          · have turned := s.turnDown_climbs p
            have stopping := State.turnDown_state start
            obtain ⟨opened, kept, -⟩ := down.openStep_climbs p x.position true
            split
            · next t e =>
              rw [e] at opened kept
              exact ⟨turned.trans opened, fun le => absurd beyond le.not_gt, fun _ => .inr (kept.trans stopping)⟩
            · next t e =>
              rw [e] at opened kept
              have left : Climbs p t _ := t.setPart_climbs p (x := { t.part p with exitDone := true }) rfl rfl
              refine ⟨(turned.trans opened).trans (left.trans (State.stepTick_climbs _ p p)), fun le => absurd beyond le.not_gt, fun _ => .inr ?_⟩
              rw [State.setReg_get_part, State.setPart_get, if_pos rfl]
              exact kept.trans stopping
    · have catching : x.phase = .catchingUp := catching
      rw [catching]
      dsimp only
      split
      · refine .after (s.setPart_climbs p (x := { x with phase := .inStep, exitDone := false }) rfl rfl) (ih _ ?_ (.inl ?_))
        · rw [State.setPart_get, if_pos rfl]
          exact start
        · rw [State.setPart_get, if_pos rfl]
      · have moved : Climbs p s placed := s.setPart_climbs p rfl rfl
        have state : (placed.part p).state = .starting ∧ (placed.part p).phase = .catchingUp := by
          rw [State.setPart_get, if_pos rfl]
          exact ⟨start, catching⟩
        obtain ⟨opened, kept, keptPhase⟩ := placed.openStep_climbs p (x.position + 1) false
        split
        · next t e =>
          rw [e] at opened kept
          exact .of_starting (moved.trans opened) (kept.trans state.1)
        · next t e =>
          rw [e] at opened kept keptPhase
          exact .after ((moved.trans opened).trans (t.stepTick_climbs p p)) (ih _ (kept.trans state.1) (.inr (keptPhase.trans state.2)))

/-- What the release of a partition leaves (R126): the line and the pending retry are gone. -/
structure Released (p : Nat) (s t : State) : Prop where
  same : Same [.caps, .chans, .entries, .latches, .log, .parts, .regs, .trims] s t
  others : AllBut s.part t.part [p]
  line : (t.part p).line = false
  retry : (t.part p).retryAt = none
  regs : ∀ k, k / 16777216 ≠ 0x2400 → k ≠ shutsNextRetryTick p → t.reg k = s.reg k
  tick : t.reg (shutsNextRetryTick p) = 0

theorem State.keepMerge_same (s : State) (p : Nat) : Same [.log] s (s.keepMerge p) := State.keepMerge_but _ _ _ (by decide)

theorem State.release_released (s : State) (p : Nat) : Released p s (s.release p) := by
  have frame : Same [.caps, .chans, .entries, .latches, .log, .parts, .regs, .trims] s (s.release p) := by apply State.release_but <;> decide
  unfold State.release
  extract_lets cleared out x freed
  have unlatched : Same [.latches, .log] s cleared :=
    ((s.keepMerge_same p).mono (by decide)).trans (State.each_but _ _ _ _ (fun u n _ => by split <;> simp))
  have off : Same [.caps, .chans, .entries, .regs, .trims] cleared out :=
    State.each_but _ _ _ _ (fun u c _ => by apply State.toState_but <;> decide)
  have objects : ObjectsBut [0x2400] s out :=
    (ObjectsBut.of_same unlatched (by decide) _).trans (.each (fun u c => u.toState_objects ..) _ _)
  have parts : ∀ q, out.part q = s.part q := fun q => (off.get_part (by decide) q).trans (unlatched.get_part (by decide) q)
  refine ⟨frame, fun q hq => ?_, ?_, ?_, fun k object tick => ?_, State.setReg_reg_same ..⟩
  · rw [State.setReg_get_part, State.setPart_get, if_neg (by simpa using hq), parts]
  · rw [State.setReg_get_part, State.setPart_get, if_pos rfl]
  · rw [State.setReg_get_part, State.setPart_get, if_pos rfl]
  · rw [State.setReg_reg_ne _ _ _ _ tick, State.setPart_get_reg]
    exact objects.keeps k (fun mem => object (List.mem_singleton.mp mem))

/-- What a restart comes to (R126, R127, R138). -/
structure Restarted (p : Nat) (s t : State) : Prop where
  same : Same [.caps, .chans, .drives, .entries, .events, .latches, .log, .parts, .regs, .trims] s t
  others : AllBut s.part t.part [p]
  line : (t.part p).line = false
  retry : (t.part p).retryAt = none
  used : t.reg (shutsRetriesUsed p) = s.reg (shutsRetriesUsed p)
  tick : t.reg (shutsNextRetryTick p) = 0
  down : s.grpState (s.groupOf p) = 0 ∧ s.goalOf (s.groupOf p) = 0 → (t.part p).state = .down
  toGoal : s.grpState (s.groupOf p) ≤ s.goalOf (s.groupOf p) → 0 < s.goalOf (s.groupOf p) →
    (t.part p).state = .starting ∨ (t.part p).state = .up
  above : s.goalOf (s.groupOf p) < s.grpState (s.groupOf p) → (t.part p).state = .starting ∨ (t.part p).state = .stopping

/-- A walk that starts in STARTING, in step or catching up, and with no step under way. -/
theorem State.goOn_starts {s : State} {p : Nat} (start : (s.part p).state = .starting)
    (phase : (s.part p).phase = .inStep ∨ (s.part p).phase = .catchingUp) : Starts p s (s.goOn p) := by
  unfold State.goOn
  split
  · exact .of_starting (.refl p s) start
  · exact s.walk_starts _ p start phase

/-- A restart from what its release and its start leave. -/
theorem Restarted.of {p : Nat} {s t u : State} (released : Released p s t) (climbs : Climbs p t u)
    (down : t.grpState (t.groupOf p) = 0 ∧ t.goalOf (t.groupOf p) = 0 → (u.part p).state = .down)
    (toGoal : t.grpState (t.groupOf p) ≤ t.goalOf (t.groupOf p) → 0 < t.goalOf (t.groupOf p) →
      (u.part p).state = .starting ∨ (u.part p).state = .up)
    (above : t.goalOf (t.groupOf p) < t.grpState (t.groupOf p) → (u.part p).state = .starting ∨ (u.part p).state = .stopping) :
    Restarted p s u := by
  have group : t.groupOf p = s.groupOf p := released.same.get_act (by decide) _
  have state : ∀ m, t.grpState m = s.grpState m := fun m => released.regs _ (by rw [rk_object]; decide) (by simp)
  have goal : ∀ m, t.goalOf m = s.goalOf m := fun m => released.regs _ (by rw [rk_object]; decide) (by simp)
  rw [group, state, goal] at down toGoal above
  exact ⟨(released.same.mono (by decide)).trans (climbs.same.mono (by decide)),
    fun q hq => (climbs.others q hq).trans (released.others q hq), climbs.line.trans released.line, climbs.retry.trans released.retry,
    (climbs.objects.at (by decide) _ _).trans (released.regs _ (by rw [rk_object]; decide) (by simp)),
    (climbs.objects.at (by decide) _ _).trans released.tick, down, toGoal, above⟩

theorem State.restartPart_restarted (s : State) (p : Nat) : Restarted p s (s.restartPart p) := by
  unfold State.restartPart
  extract_lets t n x u
  have released : Released p s t := s.release_released p
  clear_value t
  have placed : Climbs p t u := t.setPart_climbs p rfl rfl
  obtain ⟨group, state, goal⟩ := placed.group
  split
  · next zero =>
    have down : ((u.toPart p .down u.now).part p).state = .down := by
      rw [(u.toPart_part p p .down u.now).1, if_pos rfl]
    obtain ⟨grp0, goal0⟩ : t.grpState n = 0 ∧ t.goalOf n = 0 := by rwa [state, goal] at zero
    exact .of released (placed.trans (u.toPart_climbs ..)) (fun _ => down) (fun _ positive => absurd goal0 positive.ne')
      (fun higher => absurd (grp0 ▸ higher) (Nat.not_lt_zero _))
  · next climbs =>
    have phase : (u.part p).phase = .inStep ∨ (u.part p).phase = .catchingUp := by
      rw [State.setPart_get, if_pos rfl]
      dsimp only
      split
      · exact .inl rfl
      · exact .inr rfl
    have start : ((u.toPart p .starting u.now).part p).state = .starting := by
      rw [(u.toPart_part p p .starting u.now).1, if_pos rfl]
    obtain ⟨-, -, -, place⟩ := u.toPart_kept p .starting u.now
    obtain ⟨all, toGoal, above⟩ := Starts.after (placed.trans (u.toPart_climbs p .starting u.now))
      (State.goOn_starts start (by rwa [place]))
    exact .of released all (fun zero => absurd zero (by rwa [state, goal] at climbs)) (fun le _ => toGoal le) above

/-! ### The retry (R126, R127) -/

theorem Same.heldHigh {f : List Fld} {s t : State} (h : Same f s t) (ha : Fld.active ∉ f) (hc : Fld.chans ∉ f) (p : Nat) :
    t.heldHigh p = s.heldHigh p := by
  unfold State.heldHigh State.chansOf State.chPart State.kind State.act State.chan
  rw [h.active ha, h.chans hc]

theorem Same.restartWaits {f : List Fld} {s t : State} (h : Same f s t) (ha : Fld.active ∉ f) (hg : Fld.groups ∉ f) {p : Nat}
    (end_ : (t.part p).dischEnd = (s.part p).dischEnd) : t.restartWaits p = s.restartWaits p := by
  unfold State.restartWaits State.fltHeld State.spanning State.groupOf State.act State.group
  rw [end_, h.active ha, h.groups hg]

/-- What a restart comes to for the partition, and that no other one changes. -/
def RestartEnds (p : Nat) (s t : State) : Prop :=
  AllBut s.part t.part [p] ∧ (t.part p).line = false ∧
  (s.grpState (s.groupOf p) = 0 ∧ s.goalOf (s.groupOf p) = 0 → (t.part p).state = .down) ∧
  (s.grpState (s.groupOf p) ≤ s.goalOf (s.groupOf p) → 0 < s.goalOf (s.groupOf p) →
    (t.part p).state = .starting ∨ (t.part p).state = .up) ∧
  (s.goalOf (s.groupOf p) < s.grpState (s.groupOf p) → (t.part p).state = .starting ∨ (t.part p).state = .stopping) ∧
  (t.part p).retryAt = none

/-- A command prepares a restart in the registers of the partition's shut-offs, and ends it outside the partitions. -/
theorem Restarted.ends {p : Nat} {f : List Fld} {s u v t : State} (h : Restarted p u v) (before : Same [.parts, .regs] s u)
    (others : AllBut s.part u.part [p]) (objects : ObjectsBut [0x2710] s u) (after : Same f v t) (hf : Fld.parts ∉ f) : RestartEnds p s t := by
  obtain ⟨-, othersV, line, retry, -, -, down, toGoal, above⟩ := h
  have group : u.groupOf p = s.groupOf p := before.get_act (by decide) _
  have state : ∀ n, u.grpState n = s.grpState n := fun n => objects.at (by decide) n 1
  have goal : ∀ n, u.goalOf n = s.goalOf n := fun n => objects.at (by decide) n 2
  have parts := after.get_part hf
  rw [group, state, goal] at down toGoal above
  unfold RestartEnds
  simp only [AllBut, parts]
  exact ⟨fun q hq => (othersV q hq).trans (others q hq), line, down, toGoal, above, retry⟩

theorem Same.homeDom {f : List Fld} {s t : State} (h : Same f s t) (ha : Fld.active ∉ f) (p : Nat) : t.homeDom p = s.homeDom p := by
  have holds : ∀ n, t.holdsIn p n = s.holdsIn p n := fun n => by
    unfold State.holdsIn
    rw [show t.act = s.act from funext (h.get_act ha)]
  unfold State.homeDom State.home
  simp only [holds]

/-- The registers of a retry that has come: it is counted, and no other is to come. -/
def State.retryStamped (s : State) (p : Nat) : State :=
  (s.setReg (shutsRetriesUsed p) (s.reg (shutsRetriesUsed p) + 1)).setReg (shutsNextRetryTick p) 0

/-- The state in which the rails are looked at. -/
def State.retryCounted (s : State) (p : Nat) : State :=
  (s.retryStamped p).setPart p { (s.retryStamped p).part p with retryAt := none }

theorem State.retry_of_low {s : State} {p : Nat} (low : (s.retryCounted p).heldHigh p = none) :
    s.retry p = ((s.retryCounted p).restartPart p).raise ((s.retryCounted p).homeDom p) 0x1C p false
      [BitVec.ofNat 8 (s.reg (shutsRetriesUsed p) + 1)] := by
  unfold State.retry
  extract_lets used t x u
  have counted : s.retryCounted p = u := rfl
  rw [counted] at low ⊢
  split
  · next c high => exact absurd (low.symm.trans high) nofun
  · rfl

theorem State.retry_of_high {s : State} {p c : Nat} (high : (s.retryCounted p).heldHigh p = some c) :
    s.retry p = (s.retryCounted p).raise ((s.retryCounted p).homeDom p) 0x1E p false (two c) := by
  unfold State.retry
  extract_lets used t x u
  have counted : s.retryCounted p = u := rfl
  rw [counted] at high ⊢
  split
  · next d found =>
    obtain rfl : c = d := Option.some.inj (high.symm.trans found)
    rfl
  · next low => exact absurd (low.symm.trans high) nofun

theorem State.retryStamped_part (s : State) (p q : Nat) : (s.retryStamped p).part q = s.part q := by
  rw [State.retryStamped, State.setReg_get_part, State.setReg_get_part]

theorem State.retryCounted_same (s : State) (p : Nat) : Same [.parts, .regs] s (s.retryCounted p) := by
  simp [Same, State.retryCounted, State.retryStamped]

theorem State.retryCounted_part (s : State) (p q : Nat) :
    (s.retryCounted p).part q = if q = p then { s.part p with retryAt := none } else s.part q := by
  rw [State.retryCounted, State.setPart_get, State.retryStamped_part, State.retryStamped_part]

theorem State.retryCounted_regs (s : State) (p : Nat) : RegsBut s (s.retryCounted p) [shutsRetriesUsed p, shutsNextRetryTick p] :=
  .of_regs (.setReg (.setReg (.refl s _) (by simp)) (by simp)) rfl

theorem State.retryCounted_objects (s : State) (p : Nat) : ObjectsBut [0x2710] s (s.retryCounted p) :=
  ((s.setReg_objects (by decide) ..).trans (State.setReg_objects _ (by decide) ..)).trans (State.setPart_objects ..)

theorem State.retryCounted_used (s : State) (p : Nat) : (s.retryCounted p).reg (shutsRetriesUsed p) = s.reg (shutsRetriesUsed p) + 1 := by
  unfold State.retryCounted State.retryStamped
  rw [State.setPart_get_reg, State.setReg_reg_ne _ _ _ _ (by simp), State.setReg_reg_same]

theorem State.retryCounted_others (s : State) (p : Nat) : AllBut s.part (s.retryCounted p).part [p] := fun q hq => by
  rw [State.retryCounted_part, if_neg (by simpa using hq)]

theorem exec_retryDue {p : Fin 16} {s : State} {k : Nat} (at_ : (s.part p).retryAt = some k) (due : k ≤ s.now) (ready : s.retryReady p = true)
    (faulted : (s.part p).state = .faulted) : exec (.retryDue p) s = .next (s.retry p) := by
  change execRetryDue p s = _
  simp [execRetryDue, at_, due, ready, faulted, ok]

theorem exec_retryDue_waits {p : Fin 16} {s : State} {k : Nat} (at_ : (s.part p).retryAt = some k)
    (waits : s.now < k ∨ s.retryReady p = false) : exec (.retryDue p) s = .next s := by
  have early : ¬(k ≤ s.now ∧ s.retryReady p = true ∧ (s.part p).state = .faulted) := by
    rintro ⟨due, ready, -⟩
    rcases waits with before | held
    · exact absurd due before.not_ge
    · simp [held] at ready
  change execRetryDue p s = _
  simp only [execRetryDue, at_]
  exact if_neg early

/-- A retry that nothing holds high is a restart, counted, with EV 0x1C. -/
theorem State.retry_restarts {s : State} {p : Nat} (low : s.heldHigh p = none) :
    Same [.caps, .chans, .drives, .entries, .events, .latches, .log, .parts, .regs, .trims] s (s.retry p) ∧ RestartEnds p s (s.retry p) ∧
    (s.retry p).reg (shutsRetriesUsed p) = s.reg (shutsRetriesUsed p) + 1 ∧ (s.retry p).reg (shutsNextRetryTick p) = 0 ∧
    (s.enters (s.homeDom p) →
      (s.retry p).recorded (s.homeDom p) 0x1C p false [BitVec.ofNat 8 (s.reg (shutsRetriesUsed p) + 1)]) := by
  have counted := s.retryCounted_same p
  have restarted := (s.retryCounted p).restartPart_restarted p
  have upTo := (counted.mono (by decide)).trans restarted.same
  rw [State.retry_of_low ((counted.heldHigh (by decide) (by decide) p).trans low), counted.homeDom (by decide)]
  refine ⟨upTo.trans ((State.raise_same ..).mono (by decide)),
    restarted.ends counted (s.retryCounted_others p) (s.retryCounted_objects p) (State.raise_same ..) (by decide), ?_, ?_, fun enters => ?_⟩
  · rw [State.raise_reg_ne _ _ _ _ _ _ _ (by simp), restarted.used, s.retryCounted_used]
  · rw [State.raise_reg_ne _ _ _ _ _ _ _ (by simp), restarted.tick]
  · exact State.raise_recorded _ _ _ _ _ _ (upTo.enters (by decide) (by decide) enters)

/-- A retry that finds a rail held high is counted and not made, with EV 0x1E. -/
theorem State.retry_refused {s : State} {p c : Nat} (high : s.heldHigh p = some c) :
    Same [.events, .parts, .regs] s (s.retry p) ∧ AllBut s.part (s.retry p).part [p] ∧
    RegsBut s (s.retry p) [shutsRetriesUsed p, shutsNextRetryTick p, evEventsLost] ∧
    (s.retry p).part p = { s.part p with retryAt := none } ∧ (s.retry p).reg (shutsRetriesUsed p) = s.reg (shutsRetriesUsed p) + 1 ∧
    (s.enters (s.homeDom p) → (s.retry p).recorded (s.homeDom p) 0x1E p false (two c)) := by
  have counted := s.retryCounted_same p
  have upTo : Same [.events, .parts, .regs] s (s.retryCounted p) := counted.mono (by decide)
  rw [State.retry_of_high ((counted.heldHigh (by decide) (by decide) p).trans high), counted.homeDom (by decide)]
  refine ⟨upTo.trans ((State.raise_same ..).mono (by decide)), ?_, ((s.retryCounted_regs p).mono (by simp)).raise (by simp), ?_, ?_,
    fun enters => ?_⟩
  · simp only [AllBut, State.raise_get_part]
    exact s.retryCounted_others p
  · rw [State.raise_get_part, s.retryCounted_part, if_pos rfl]
  · rw [State.raise_reg_ne _ _ _ _ _ _ _ (by simp), s.retryCounted_used]
  · exact State.raise_recorded _ _ _ _ _ _ (upTo.enters (by decide) (by decide) enters)

/-! ### RESTART (R126, R270) -/

/-- The state in which RESTART asks whether it has to wait: the retries are given back, and none is to come. -/
def State.restartCleared (s : State) (p : Nat) : State :=
  ((s.setReg (shutsRetriesUsed p) 0).setPart p { (s.setReg (shutsRetriesUsed p) 0).part p with retryAt := none }).setReg
    (shutsNextRetryTick p) 0

theorem State.restartCleared_same (s : State) (p : Nat) : Same [.parts, .regs] s (s.restartCleared p) := by
  simp [Same, State.restartCleared]

theorem State.restartCleared_part (s : State) (p q : Nat) :
    (s.restartCleared p).part q = if q = p then { s.part p with retryAt := none } else s.part q := by
  rw [State.restartCleared, State.setReg_get_part, State.setPart_get, State.setReg_get_part, State.setReg_get_part]

theorem State.restartCleared_others (s : State) (p : Nat) : AllBut s.part (s.restartCleared p).part [p] := fun q hq => by
  rw [State.restartCleared_part, if_neg (by simpa using hq)]

theorem State.restartCleared_regs (s : State) (p : Nat) : RegsBut s (s.restartCleared p) [shutsRetriesUsed p, shutsNextRetryTick p] :=
  .setReg (.of_regs (.setReg (.refl s _) (by simp)) rfl) (by simp)

theorem State.restartCleared_objects (s : State) (p : Nat) : ObjectsBut [0x2710] s (s.restartCleared p) :=
  ((s.setReg_objects (by decide) ..).trans (State.setPart_objects ..)).trans (State.setReg_objects _ (by decide) ..)

theorem State.restartCleared_used (s : State) (p : Nat) : (s.restartCleared p).reg (shutsRetriesUsed p) = 0 := by
  unfold State.restartCleared
  rw [State.setReg_reg_ne _ _ _ _ (by simp), State.setPart_get_reg, State.setReg_reg_same]

theorem State.restartCleared_waits (s : State) (p : Nat) : (s.restartCleared p).restartWaits p = s.restartWaits p :=
  (s.restartCleared_same p).restartWaits (by decide) (by decide) (by rw [State.restartCleared_part, if_pos rfl])

/-- The state in which a RESTART waits for the discharge or for TR_FLT. -/
def State.restartPending (s : State) (p : Nat) : State :=
  (s.restartCleared p).setPart p { (s.restartCleared p).part p with startPend := true }

theorem State.restartPending_same (s : State) (p : Nat) : Same [.parts, .regs] s (s.restartPending p) :=
  (s.restartCleared_same p).trans (State.setPart_but _ _ _ _ (by decide))

theorem State.restartPending_regs (s : State) (p : Nat) : RegsBut s (s.restartPending p) [shutsRetriesUsed p, shutsNextRetryTick p] :=
  .of_regs (s.restartCleared_regs p) rfl

theorem State.restartPending_part (s : State) (p q : Nat) :
    (s.restartPending p).part q = if q = p then { s.part p with retryAt := none, startPend := true } else s.part q := by
  rw [State.restartPending, State.setPart_get]
  split
  · rw [State.restartCleared_part, if_pos rfl]
  · next other => rw [State.restartCleared_part, if_neg other]

/-- What RESTART does, by the state of the partition (R126, R270). -/
theorem State.restartWrite_eq (s : State) (r : Role) (p : Nat) : s.restartWrite r p =
    if (s.part p).state.isFaulted = false then s.answer 0x0503
    else if (s.part p).state = .lockedOut ∧ isOwner r = false then s.answer 0x0201
    else if (s.thermal.hotShut.inForce && bitOf (s.act thShutMap) p) = true then s.answer 0x0507
    else if s.restartWaits p then (s.restartPending p).answer 2
    else ((s.restartCleared p).restartPart p).answer 0 := by
  rw [← s.restartCleared_waits p]
  unfold State.restartWrite
  extract_lets x t y u
  have cleared : u = s.restartCleared p := rfl
  have pending : u.setPart p { u.part p with startPend := true } = s.restartPending p := rfl
  have state : (s.part p).state = x.state := rfl
  rw [pending, cleared, state]
  clear cleared pending state
  cases x.state with
  | faulted => rfl
  | lockedOut => rfl
  | _ => rfl

/-- RESTART for a partition that is shut off and that the role may restart. -/
theorem State.restartWrite_allowed {s : State} {r : Role} {p : Nat}
    (off : (s.part p).state = .faulted ∨ ((s.part p).state = .lockedOut ∧ r = .owner))
    (cool : (s.thermal.hotShut.inForce && bitOf (s.act thShutMap) p) = false) :
    s.restartWrite r p =
      if s.restartWaits p then (s.restartPending p).answer 2 else ((s.restartCleared p).restartPart p).answer 0 := by
  rw [State.restartWrite_eq, cool]
  rcases off with faulted | ⟨locked, rfl⟩
  · simp [faulted, PartState.isFaulted]
  · simp [locked, PartState.isFaulted, isOwner]

theorem State.restartWrite_locked {s : State} {r : Role} {p : Nat} (locked : (s.part p).state = .lockedOut) (other : isOwner r = false) :
    s.restartWrite r p = s.answer 0x0201 := by
  simp [State.restartWrite_eq, locked, other, PartState.isFaulted]

theorem State.restartWrite_hot {s : State} {p : Nat} (off : (s.part p).state.isFaulted = true) (hot : s.thermal.hotShut.inForce = true)
    (shut : bitOf (s.act thShutMap) p = true) : s.restartWrite .owner p = s.answer 0x0507 := by
  simp [State.restartWrite_eq, off, hot, shut, isOwner]

theorem State.restartWrite_notOff {s : State} {r : Role} {p : Nat} (on : (s.part p).state.isFaulted = false) :
    s.restartWrite r p = s.answer 0x0503 := by
  simp [State.restartWrite_eq, on]

theorem exec_restart_run {r : Role} {p : Fin 16} {s : State} (hears : s.hears r) (right : ownerOr r p = true) :
    exec (.restart r p 1) s = .next ((s.restartWrite r p).countItem r) := by
  exact congrArg ok (State.item_run s r _ _ _ hears.1 hears.2 right rfl)

theorem exec_restart_noRight {r : Role} {p : Fin 16} {v : Byte} {s : State} (hears : s.hears r) (noRight : ownerOr r p = false) :
    exec (.restart r p v) s = .next ((s.answer 0x0201).countItem r) := by
  change ok (s.item r (ownerOr r p) _ _) = _
  rw [noRight]
  exact congrArg ok (State.item_noRight s r _ _ hears.1 hears.2)

theorem restart_refused {r : Role} {p : Fin 16} {s : State} {st : Nat} (hears : s.hears r) (right : ownerOr r p = true)
    (refused : s.restartWrite r p = s.answer st) : Answers (.restart r p 1) s (fun t => ItemEnds r [] [] s t st) :=
  ⟨_, exec_restart_run hears right, by rw [refused]; exact .of_refused r st⟩

/-- The counts of requests are no register of a partition's shut-offs. -/
theorem shuts_not_itemKey (r : Role) (u x : Nat) : rk 0x2710 u x ∉ itemKeys r := by
  cases r <;> simp [itemKeys]

/-- The answer to a request and its count. -/
theorem State.answered_same (s : State) (st : Nat) (r : Role) : Same [.regs, .reply, .status] s ((s.answer st).countItem r) :=
  Same.trans (by apply State.answer_but <;> decide) (((s.answer st).countItem_same r).mono (by decide))

theorem State.answered_shuts (s : State) (st : Nat) (r : Role) (u x : Nat) :
    ((s.answer st).countItem r).reg (rk 0x2710 u x) = s.reg (rk 0x2710 u x) := (s.answer st).countItem_reg r _ (shuts_not_itemKey r u x)

theorem restart_runs {r : Role} {p : Fin 16} {s : State} (hears : s.hears r) (right : ownerOr r p = true)
    (off : (s.part p).state = .faulted ∨ ((s.part p).state = .lockedOut ∧ r = .owner))
    (cool : (s.thermal.hotShut.inForce && bitOf (s.act thShutMap) p) = false) (free : s.restartWaits p = false) :
    Answers (.restart r p 1) s (fun t =>
      Same [.caps, .chans, .drives, .entries, .events, .latches, .log, .parts, .regs, .reply, .status, .trims] s t ∧
      RestartEnds p s t ∧ t.reg (shutsRetriesUsed p) = 0 ∧ t.status = 0) := by
  have restarted := (s.restartCleared p).restartPart_restarted p
  have cleared := s.restartCleared_same p
  generalize ran : (s.restartCleared p).restartPart p = v at restarted
  have ends := v.answered_same 0 r
  refine ⟨_, exec_restart_run hears right, ?_⟩
  rw [State.restartWrite_allowed off cool, free, if_neg (by decide), ran]
  refine ⟨((cleared.mono (by decide)).trans (restarted.same.mono (by decide))).trans (ends.mono (by decide)),
    restarted.ends cleared (s.restartCleared_others p) (s.restartCleared_objects p) ends (by decide), ?_, ?_⟩
  · rw [State.answered_shuts]
    exact restarted.used.trans (s.restartCleared_used p)
  · rw [State.countItem_status]
    rfl

theorem restart_waits {r : Role} {p : Fin 16} {s : State} (hears : s.hears r) (right : ownerOr r p = true)
    (off : (s.part p).state = .faulted ∨ ((s.part p).state = .lockedOut ∧ r = .owner))
    (cool : (s.thermal.hotShut.inForce && bitOf (s.act thShutMap) p) = false) (waits : s.restartWaits p = true) :
    Answers (.restart r p 1) s (fun t =>
      ItemEnds r [.parts] [shutsRetriesUsed p, shutsNextRetryTick p] s t 2 ∧ AllBut s.part t.part [p.val] ∧
      t.part p = { s.part p with retryAt := none, startPend := true }) := by
  refine ⟨_, exec_restart_run hears right, ?_⟩
  rw [State.restartWrite_allowed off cool, waits, if_pos rfl]
  have answered := (s.restartPending p).answered_same 2 r
  refine ⟨.of (((s.restartPending_same p).mono (by decide)).trans (by apply State.answer_but <;> decide))
    (.of_regs ((s.restartPending_regs p).mono (by simp)) rfl) rfl, fun q hq => ?_, ?_⟩
  · rw [answered.get_part (by decide)]
    exact (s.restartPending_part p q).trans (if_neg (by simpa using hq))
  · rw [answered.get_part (by decide)]
    exact (s.restartPending_part p p).trans (if_pos rfl)

/-! ### FORCE_OFF (R108, R125) -/

theorem exec_forceOff_run {r : Role} {p : Fin 16} {s : State} (hears : s.hears r) (right : ownerOr r p = true) :
    exec (.forceOff r p 1) s = .next (((s.causeAt p 6 0).answer 0).countItem r) :=
  congrArg ok (State.item_run s r _ _ _ hears.1 hears.2 right rfl)

theorem exec_forceOff_noRight {r : Role} {p : Fin 16} {v : Byte} {s : State} (hears : s.hears r) (noRight : ownerOr r p = false) :
    exec (.forceOff r p v) s = .next ((s.answer 0x0201).countItem r) := by
  change ok (s.item r (ownerOr r p) _ _) = _
  rw [noRight]
  exact congrArg ok (State.item_noRight s r _ _ hears.1 hears.2)

/-- A shut-off stays one while the request that asked for it is answered. -/
theorem ShutDown.answered {s u : State} {p cause : Nat} (h : ShutDown s u p cause) (st : Nat) (r : Role) :
    ShutDown s ((u.answer st).countItem r) p cause := by
  have same := u.answered_same st r
  have shuts := u.answered_shuts st r
  generalize (u.answer st).countItem r = t at same shuts
  obtain ⟨line, faulted, safe, last, count, act, shad, enables, channels, others⟩ := h
  have part := same.get_part (by decide)
  unfold ShutDown
  simp only [part, same.safeN (by decide), shuts, same.active (by decide), same.shadow (by decide), same.get_en (by decide),
    same.get_chan (by decide)]
  exact ⟨line, faulted, safe, last, count, act, shad, enables, channels, others⟩

theorem forceOff_shuts {r : Role} {p : Fin 16} {s : State} (hears : s.hears r) (right : ownerOr r p = true) (clear : (s.part p).line = false) :
    Answers (.forceOff r p 1) s (fun t =>
      Same [.actions, .caps, .chans, .clusters, .drives, .ens, .entries, .events, .groups, .latches, .parts, .ports, .regs, .reply, .safeN,
        .status, .trims, .waitMaint] s t ∧ ShutDown s t p 6 ∧ t.status = 0) := by
  have cut : s.causeAt p 6 0 = s.shutOff p 6 none s.now 0 0 0 := by simp [State.causeAt, clear]
  refine ⟨_, exec_forceOff_run hears right, ?_⟩
  rw [cut]
  exact ⟨((s.shutOff_same ..).mono (by decide)).trans ((State.answered_same ..).mono (by decide)), (s.shutOff_shutDown ..).answered 0 r,
    by rw [State.countItem_status]; rfl⟩

/-- FORCE_OFF cancels the retry that is to come and a start that waits. -/
def State.retryCancelled (s : State) (p : Nat) : State :=
  ((s.countLater p none).setPart p { (s.countLater p none).part p with retryAt := none, startPend := false }).setReg
    (shutsNextRetryTick p) 0

theorem State.countLater_same (s : State) (p : Nat) (cl : Option Nat) : Same [.latches] s (s.countLater p cl) :=
  State.countLater_but _ _ _ _ (by decide)

theorem State.retryCancelled_same (s : State) (p : Nat) : Same [.latches, .parts, .regs] s (s.retryCancelled p) := by
  simp [Same, State.retryCancelled]

theorem State.retryCancelled_part (s : State) (p q : Nat) :
    (s.retryCancelled p).part q = if q = p then { s.part p with retryAt := none, startPend := false } else s.part q := by
  have kept := (s.countLater_same p none).get_part (by decide)
  rw [State.retryCancelled, State.setReg_get_part, State.setPart_get, kept, kept]

theorem State.retryCancelled_regs (s : State) (p : Nat) : RegsBut s (s.retryCancelled p) [shutsNextRetryTick p] :=
  .setReg (.of_regs (.refl s _) ((s.countLater_same p none).regs (by decide))) (by simp)

theorem State.causeAt_cancels {s : State} {p : Nat} (off : (s.part p).line = true) (earlier : s.cutThisTick p = false) :
    s.causeAt p 6 0 = s.retryCancelled p := by
  unfold State.causeAt
  rw [off, earlier]
  rfl

theorem forceOff_cancels {r : Role} {p : Fin 16} {s : State} (hears : s.hears r) (right : ownerOr r p = true)
    (off : (s.part p).line = true) (earlier : s.cutThisTick p = false) :
    Answers (.forceOff r p 1) s (fun t => ItemEnds r [.latches, .parts] [shutsNextRetryTick p] s t 0 ∧ AllBut s.part t.part [p.val] ∧
      t.part p = { s.part p with retryAt := none, startPend := false } ∧ t.reg (shutsNextRetryTick p) = 0) := by
  have answered := (s.retryCancelled p).answered_same 0 r
  refine ⟨_, exec_forceOff_run hears right, ?_⟩
  rw [State.causeAt_cancels off earlier]
  refine ⟨.of (((s.retryCancelled_same p).mono (by decide)).trans (by apply State.answer_but <;> decide))
    (.of_regs ((s.retryCancelled_regs p).mono (by simp)) rfl) rfl, fun q hq => ?_, ?_, ?_⟩
  · rw [answered.get_part (by decide)]
    exact (s.retryCancelled_part p q).trans (if_neg (by simpa using hq))
  · rw [answered.get_part (by decide)]
    exact (s.retryCancelled_part p p).trans (if_pos rfl)
  · rw [State.answered_shuts]
    exact State.setReg_reg_same ..

/-- Settles O20: the retry by `State.retry_restarts` and `State.retry_refused`, RESTART by `restart_runs`, `restart_waits` and what refuses it,
FORCE_OFF by `forceOff_shuts` and `forceOff_cancels`. -/
theorem restartRetryAndForceOff : Obligations.RestartRetryAndForceOff := by
  unfold Obligations.RestartRetryAndForceOff
  refine ⟨⟨fun p k s at_ due ready faulted => ⟨fun low => ?_, fun c high => ?_⟩, fun p k s at_ waits => exec_retryDue_waits at_ waits,
      fun r p s hears right off cool => ⟨fun free => ?_, restart_waits hears right off cool⟩, fun p s serves defined locked => ?_,
      fun r p v s hears noRight => ⟨_, exec_restart_noRight hears noRight, .of_refused r _⟩, fun p s serves off hot shut => ?_,
      fun p s serves on => ?_⟩,
    fun r p s hears right clear => forceOff_shuts hears right clear,
    fun r p s hears right off earlier => forceOff_cancels hears right off earlier,
    fun r p v s hears noRight => ⟨_, exec_forceOff_noRight hears noRight, .of_refused r _⟩⟩
  · obtain ⟨same, ⟨others, line, down, toGoal, above, retry⟩, used, tick, told⟩ := State.retry_restarts low
    exact ⟨_, exec_retryDue at_ due ready faulted, same.mono (by decide), others, line, down, toGoal, above, retry, used, tick, told⟩
  · exact ⟨_, exec_retryDue at_ due ready faulted, State.retry_refused high⟩
  · obtain ⟨t, run, same, ⟨others, line, down, toGoal, above, retry⟩, used, status⟩ := restart_runs hears right off cool free
    exact ⟨t, run, same.mono (by decide), others, line, down, toGoal, above, retry, used, status⟩
  · have hears : s.hears (.partition p) := ⟨serves, fun q hq => by cases hq; exact defined⟩
    exact restart_refused hears (ownerOr_of (.inr rfl)) (State.restartWrite_locked locked rfl)
  · exact restart_refused (State.hears_owner serves) rfl (State.restartWrite_hot off hot shut)
  · exact restart_refused (State.hears_owner serves) rfl (State.restartWrite_notOff on)

end Sys2Proof.Machine

namespace Sys2Proof.Machine

/-! ### Arming a capture unit (R164) -/

theorem exec_armCapture {r : Role} {u : Fin 32} {s : State} (hears : s.hears r) (right : ownerOr r (s.act (capPartition u)) = true) :
    exec (.armCapture r u 1) s = .next ((s.captureWrite u).countItem r) :=
  congrArg ok (State.item_run s r _ _ _ hears.1 hears.2 right rfl)

/-- An armed unit has its previous outcome cleared. -/
theorem State.captureArm_arms {s : State} {u : Nat} (sources : ¬(s.act (capStartSrc u) = 0 ∧ s.act (capStopSrc u) = 0)) :
    ((s.captureArm u).cap u).outcome = 1 ∧ ((s.captureArm u).cap u).armedAt = s.now ∧ ((s.captureArm u).cap u).start = none ∧
      ((s.captureArm u).cap u).stop = none ∧ ((s.captureArm u).cap u).dur = 0 := by
  unfold State.captureArm
  extract_lets a b i j
  rw [if_neg sources, State.setCap_cap_same]
  exact ⟨rfl, rfl, rfl, rfl, rfl⟩

theorem State.captureArm_same (s : State) (u : Nat) : Same [.caps] s (s.captureArm u) := State.captureArm_but _ _ _ (by decide)

theorem State.captureArm_others (s : State) (u : Nat) : AllBut s.cap (s.captureArm u).cap [u] := by
  intro k hk
  unfold State.captureArm
  extract_lets a b i j
  split
  · rfl
  · exact State.setCap_cap_ne _ _ _ _ (by simpa using hk)

/-! ### Taking an occurrence (R164, R165) -/

theorem exec_captureOccurrence (u : Fin 32) (side : Bool) (s : State) :
    exec (.captureOccurrence u side) s = .next (s.setCap u (s.captureTake u side)) := rfl

/-- A change of one unit. -/
theorem State.setCap_only (s : State) (u : Nat) (x : CapX) : Same [.caps] s (s.setCap u x) ∧ AllBut s.cap (s.setCap u x).cap [u] :=
  ⟨State.setCap_but _ _ _ _ (by decide), fun _ hk => State.setCap_cap_ne _ _ _ _ (by simpa using hk)⟩

/-- A unit that lacks a side takes the occurrence that it has seen of that side. -/
theorem CapX.take_start {x : CapX} {k m : Nat} (running : x.outcome = 1) (lacks : x.start = none) (seen : x.seenStart = some k) (le : k ≤ m) :
    x.take true m = { x with start := some k }.close := by
  simp [CapX.take, running, lacks, seen, le]

theorem CapX.take_stop {x : CapX} {k m : Nat} (running : x.outcome = 1) (lacks : x.stop = none) (seen : x.seenStop = some k) (le : k ≤ m) :
    x.take false m = { x with stop := some k }.close := by
  simp [CapX.take, running, lacks, seen, le]

/-- A side that is held, or of which nothing has been seen, is not taken. -/
theorem CapX.take_nothing {x : CapX} {side : Bool} (h : (if side then x.start else x.stop) ≠ none ∨ (if side then x.seenStart else x.seenStop) = none)
    (m : Nat) : x.take side m = x := by
  unfold CapX.take
  rcases h with held | unseen
  · exact if_neg (fun takes => held (Option.isNone_iff_eq_none.mp takes.2))
  · rw [unseen]
    exact ite_self x

/-- The sides stay when a unit closes, and one that lacks a side goes on. -/
theorem CapX.close_sides (x : CapX) : x.close.start = x.start ∧ x.close.stop = x.stop ∧
    (x.start = none ∨ x.stop = none → x.close = x) := by
  unfold CapX.close
  split
  · next a b start stop =>
    simp only [start, stop, reduceCtorEq, or_self, false_implies, and_true]
    split
    · exact ⟨rfl, rfl⟩
    · split
      · exact ⟨rfl, rfl⟩
      · exact ⟨rfl, rfl⟩
  · exact ⟨rfl, rfl, fun _ => rfl⟩

/-- Outcome and duration of a unit with both sides (Table 5-12). -/
theorem CapX.close_outcome {x : CapX} {a b : Nat} (start : x.start = some a) (stop : x.stop = some b) :
    (a < b → x.close.outcome = 2 ∧ x.close.dur = b - a) ∧ (a = b → x.close.outcome = 3) ∧ (b < a → x.close.outcome = 4) := by
  unfold CapX.close
  rw [start, stop]
  refine ⟨fun before => ?_, fun same => ?_, fun after => ?_⟩
  · simp [before]
  · simp [same]
  · simp [after.not_gt, after.ne']

/-! ### The end of a unit at LIMIT (R165) -/

theorem exec_captureLimit {u : Fin 32} {s : State} (running : (s.cap u).outcome = 1) (past : (s.cap u).armedAt + 100 * s.act (capLimit u) ≤ s.now) :
    exec (.captureLimit u) s = .next (s.captureEnd u) :=
  if_pos ⟨running, State.passed_of_le past⟩

theorem exec_captureLimit_early {u : Fin 32} {s : State} (early : s.now < (s.cap u).armedAt + 100 * s.act (capLimit u)) :
    exec (.captureLimit u) s = .next s :=
  if_neg (fun ends => absurd (of_decide_eq_true ends.2) early.not_ge)

theorem State.captureTake_nothing {s : State} {u : Nat} {side : Bool}
    (h : (if side then (s.cap u).start else (s.cap u).stop) ≠ none ∨ (if side then (s.cap u).seenStart else (s.cap u).seenStop) = none) :
    s.captureTake u side = s.cap u := by
  cases side
  · exact CapX.take_nothing h _
  · exact CapX.take_nothing h _

/-- A unit with nothing more to take ends as it stands. -/
theorem State.captureEnd_cap {s : State} {u : Nat} (start : (s.cap u).start ≠ none ∨ (s.cap u).seenStart = none)
    (stop : (s.cap u).stop ≠ none ∨ (s.cap u).seenStop = none) : (s.captureEnd u).cap u = (s.cap u).atLimit := by
  unfold State.captureEnd
  extract_lets t v
  have first : t.cap u = s.cap u := (State.setCap_cap_same ..).trans (State.captureTake_nothing start)
  have second : v.cap u = s.cap u :=
    (State.setCap_cap_same ..).trans ((State.captureTake_nothing (by rw [first]; exact stop)).trans first)
  rw [State.setCap_cap_same, second]

theorem State.captureEnd_only (s : State) (u : Nat) : Same [.caps] s (s.captureEnd u) ∧ AllBut s.cap (s.captureEnd u).cap [u] := by
  refine ⟨State.captureEnd_but _ _ _ (by decide), fun k hk => ?_⟩
  have other : k ≠ u := by simpa using hk
  unfold State.captureEnd
  rw [State.setCap_cap_ne _ _ _ _ other, State.setCap_cap_ne _ _ _ _ other, State.setCap_cap_ne _ _ _ _ other]

theorem CapX.atLimit_ends {x : CapX} (running : x.outcome = 1) :
    x.atLimit.dur = 0 ∧ x.atLimit.outcome = if x.start.isSome ∧ x.stop = none then 6 else 5 := by
  simp [CapX.atLimit, running]

/-- Settles O24: ARM by `State.captureArm_arms`, an occurrence by `CapX.take_start`, `CapX.take_stop` and `CapX.close_outcome`, the end at LIMIT by
`State.captureEnd_cap`. -/
theorem captureUnitsMeasureOnce : Obligations.CaptureUnitsMeasureOnce := by
  unfold Obligations.CaptureUnitsMeasureOnce
  refine ⟨fun r u s hears right => ⟨fun sources => ?_, fun noStart noStop => ?_⟩, fun u k s running lacks seen come within => ?_,
    fun u k s running lacks seen come within => ?_, fun u s running past start stop => ?_, fun u s early => exec_captureLimit_early early⟩
  · obtain ⟨outcome, armedAt, start, stop, dur⟩ := State.captureArm_arms sources
    refine ⟨_, exec_armCapture hears right, ?_⟩
    rw [show s.captureWrite u = (s.captureArm u).answer 0 from if_neg sources]
    refine ⟨.of (((s.captureArm_same u).mono (by decide)).trans (by apply State.answer_but <;> decide))
      (.of_regs (.refl s _) ((s.captureArm_same u).regs (by decide))) rfl, ?_⟩
    simp only [AllBut, State.countItem_get_cap, State.answer_get_cap]
    exact ⟨s.captureArm_others u, outcome, armedAt, start, stop, dur⟩
  · refine ⟨_, exec_armCapture hears right, ?_⟩
    rw [show s.captureWrite u = s.answer 0x0301 from if_pos ⟨noStart, noStop⟩]
    exact .of_refused r _
  · obtain ⟨same, others⟩ := s.setCap_only u (s.captureTake u true)
    have taken : s.captureTake u true = { s.cap u with start := some k }.close :=
      CapX.take_start running lacks seen (le_min come within)
    obtain ⟨start, stop, open_⟩ := CapX.close_sides { s.cap u with start := some k }
    refine ⟨_, exec_captureOccurrence u true s, same, others, ?_⟩
    rw [State.setCap_cap_same, taken]
    exact ⟨start, stop, fun lacksStop => (congrArg _ (open_ (.inr lacksStop))).trans running, fun b held => CapX.close_outcome rfl held⟩
  · obtain ⟨same, others⟩ := s.setCap_only u (s.captureTake u false)
    have taken : s.captureTake u false = { s.cap u with stop := some k }.close :=
      CapX.take_stop running lacks seen (le_min come within)
    obtain ⟨start, stop, open_⟩ := CapX.close_sides { s.cap u with stop := some k }
    refine ⟨_, exec_captureOccurrence u false s, same, others, ?_⟩
    rw [State.setCap_cap_same, taken]
    exact ⟨stop, start, fun lacksStart => (congrArg _ (open_ (.inl lacksStart))).trans running, fun a held => CapX.close_outcome held rfl⟩
  · obtain ⟨same, others⟩ := s.captureEnd_only u
    obtain ⟨dur, outcome⟩ := CapX.atLimit_ends running
    refine ⟨_, exec_captureLimit running past, same, others, ?_⟩
    rw [State.captureEnd_cap start stop]
    exact ⟨dur, outcome⟩

end Sys2Proof.Machine

namespace Sys2Proof.Machine

/-! ### What every operation of a sequence leaves, trips in a final sweep included (R107, R156, R157) -/

/-- No action comes. Of the registers of goals, sequences and groups only a group's state is set, to 0 by the shut-off of a replay partition, and
the tick of a partition's last step, to the present one. -/
structure SeqKept (s t : State) : Prop where
  now : t.now = s.now
  actions : ∀ e, s.action e = none → t.action e = none
  regs : ∀ k, k / 16777216 ∈ [0x2820, 0x2840, 0x2860] → t.reg k = s.reg k ∨ (∃ n, k = grpsState n) ∧ t.reg k = 0 ∨
    (∃ p, k = seqsLastStepTick p) ∧ t.reg k = s.now

theorem SeqKept.refl (s : State) : SeqKept s s := ⟨rfl, fun _ h => h, fun _ _ => .inl rfl⟩

theorem SeqKept.trans {s t u : State} (h : SeqKept s t) (h' : SeqKept t u) : SeqKept s u := by
  refine ⟨h'.now.trans h.now, fun e none => h'.actions e (h.actions e none), fun k hk => ?_⟩
  rcases h'.regs k hk with kept | zero | stamped
  · rw [kept]
    exact h.regs k hk
  · exact .inr (.inl zero)
  · rw [← h.now]
    exact .inr (.inr stamped)

theorem SeqKept.ite {c : Prop} [Decidable c] {s t u : State} (ht : SeqKept s t) (hu : SeqKept s u) : SeqKept s (if c then t else u) := by
  split
  · exact ht
  · exact hu

theorem SeqKept.each {f : State → Nat → State} (h : ∀ u x, SeqKept u (f u x)) (l : List Nat) (s : State) : SeqKept s (s.each l f) :=
  State.each_rel .refl (fun _ _ _ => .trans) h l s

theorem SeqKept.of_objects {f : List Fld} {b : List Nat} {s t : State} (same : Same f s t) (hf : ∀ x ∈ [Fld.now, .actions], x ∉ f)
    (objects : ObjectsBut b s t) (hb : ∀ o ∈ [0x2820, 0x2840, 0x2860], o ∉ b) : SeqKept s t :=
  ⟨same.now (hf _ (by decide)), fun e none => (same.get_action (hf _ (by decide)) e).trans none, fun k hk => .inl (objects.keeps k (hb _ hk))⟩

theorem SeqKept.of_same {f : List Fld} {s t : State} (same : Same f s t) (hf : ∀ x ∈ [Fld.now, .actions, .regs], x ∉ f) : SeqKept s t :=
  .of_objects same (fun x hx => hf x (by revert x hx; decide)) (.of_same same (hf _ (by decide)) []) (by simp)

section
variable {s t : State} (h : SeqKept s t)
include h

/-- The state of a group that is 0 stays 0. -/
theorem SeqKept.grpState {n : Nat} (zero : s.grpState n = 0) : t.grpState n = 0 := by
  rcases h.regs (grpsState n) (by rw [rk_object]; decide) with kept | ⟨-, down⟩ | ⟨⟨p, other⟩, -⟩
  · exact kept.trans zero
  · exact down
  · simp at other

theorem SeqKept.goalOf (n : Nat) : t.goalOf n = s.goalOf n := by
  rcases h.regs (grpGoal n) (by rw [rk_object]; decide) with kept | ⟨⟨m, other⟩, -⟩ | ⟨⟨p, other⟩, -⟩
  · exact kept
  · simp at other
  · simp at other

theorem SeqKept.lastAdvance (n : Nat) : t.reg (grpsLastAdvanceTick n) = s.reg (grpsLastAdvanceTick n) := by
  rcases h.regs (grpsLastAdvanceTick n) (by rw [rk_object]; decide) with kept | ⟨⟨m, other⟩, -⟩ | ⟨⟨p, other⟩, -⟩
  · exact kept
  · simp at other
  · simp at other

/-- The counts of a sequence stay. -/
theorem SeqKept.count (p : Nat) {x : Nat} (hx : x % 256 ≠ 0x0D) : t.reg (rk 0x2840 p x) = s.reg (rk 0x2840 p x) := by
  rcases h.regs (rk 0x2840 p x) (by rw [rk_object]; decide) with kept | ⟨⟨m, other⟩, -⟩ | ⟨⟨q, other⟩, -⟩
  · exact kept
  · simp at other
  · simp [hx] at other

/-- A step that ended in this tick ended in this tick. -/
theorem SeqKept.lastStep {p : Nat} (stamped : s.reg (seqsLastStepTick p) = s.now) : t.reg (seqsLastStepTick p) = s.now := by
  rcases h.regs (seqsLastStepTick p) (by rw [rk_object]; decide) with kept | ⟨⟨m, other⟩, -⟩ | ⟨-, again⟩
  · exact kept.trans stamped
  · simp at other
  · exact again

end

theorem State.setPart_seqKept (s : State) (p : Nat) (x : PartX) : SeqKept s (s.setPart p x) :=
  .of_same (f := [.parts]) (State.setPart_but _ _ _ _ (by decide)) (by decide)

/-- A step of a partition ends now. -/
theorem State.stepTick_seqKept (s : State) (p : Nat) : SeqKept s (s.setReg (seqsLastStepTick p) s.now) := by
  refine ⟨rfl, fun _ none => none, fun k _ => ?_⟩
  rw [State.setReg_reg]
  split
  · exact .inr (.inr ⟨⟨p, ‹_›⟩, rfl⟩)
  · exact .inl rfl

/-- The actions that are withdrawn are gone. -/
theorem tabFind_filter_none {α : Type} {t : List (Nat × α)} {k : Nat} (keep : Nat × α → Bool) (h : tabFind t k = none) :
    tabFind (t.filter keep) k = none := by
  induction t with
  | nil => rfl
  | cons x t ih =>
    obtain ⟨a, v⟩ := x
    simp only [tabFind] at h
    split at h
    · cases h
    · next other =>
      rw [List.filter_cons]
      split
      · simp only [tabFind, if_neg other]
        exact ih h
      · exact ih h

theorem State.withdraw_seqKept (s : State) (p : Nat) (entryOnly : Bool) : SeqKept s (s.withdraw p entryOnly) :=
  ⟨rfl, fun _ none => tabFind_filter_none _ none, fun _ _ => .inl rfl⟩

/-! ### Shut-offs -/

theorem State.cutSequence_seqKept (s : State) (p : Nat) : SeqKept s (s.cutSequence p) := by
  unfold State.cutSequence
  extract_lets t x u
  have left : SeqKept s u := (s.withdraw_seqKept p false).trans (State.setPart_seqKept ..)
  have zeroed : SeqKept u (u.setReg (grpsState (u.groupOf p)) 0) := by
    refine ⟨rfl, fun _ none => none, fun k _ => ?_⟩
    rw [State.setReg_reg]
    split
    · exact .inr (.inl ⟨⟨_, ‹_›⟩, rfl⟩)
    · exact .inl rfl
  exact .ite ((left.trans zeroed).trans (.of_same (f := [.groups]) (State.setGroup_but _ _ _ _ (by decide)) (by decide))) left

theorem State.cutRest_seqKept (s : State) (p : Nat) : SeqKept s (s.cutRest p) := by
  unfold State.cutRest
  extract_lets a b c d
  have enables : SeqKept s a := .of_same (s.cutEnables_same p) (by decide)
  have zeroed : SeqKept a b := .of_same (f := [.trims]) (by apply State.trimsZero_but; decide) (by decide)
  have halted : SeqKept b c := .each (fun u x => .of_objects (f := [.drives, .events, .regs]) (b := [0x1010, 0x5010])
    (by apply State.driveHalt_but <;> decide) (by decide)
    ((u.setReg_objects (by decide) ..).trans ((State.driveSync_objects _ x).mono (by simp))) (by decide)) _ b
  have asked : SeqKept c d := .of_same (f := [.ports]) (by apply State.psShutoff_but; decide) (by decide)
  exact (((enables.trans zeroed).trans halted).trans asked).trans (d.cutSequence_seqKept p)

theorem State.cutUnits_seqKept (s : State) (p cause : Nat) : SeqKept s (s.cutUnits p cause) := by
  rw [State.cutUnits_eq]
  exact ((SeqKept.of_same (s.capturesEnd_same p) (by decide)).trans
    (.of_objects (State.cutChannels_same ..) (by decide) (State.cutChannels_objects ..) (by decide))).trans (State.cutRest_seqKept ..)

theorem State.shutOff_seqKept (s : State) (p cause : Nat) (cl : Option Nat) (tick upper lower line : Nat) :
    SeqKept s (s.shutOff p cause cl tick upper lower line) := by
  obtain ⟨up, spans, steps⟩ := s.shutOff_steps p cause cl tick upper lower line
  rw [steps]
  have opened : SeqKept s (s.cutOpened p cause) := .of_objects (s.cutOpened_same p cause) (by decide) (s.cutOpened_objects p cause) (by decide)
  have begun : SeqKept s (s.cutBegun p cause cl tick upper lower line) := opened.trans (.of_same (State.latchCause_same ..) (by decide))
  have line : ∀ u, SeqKept u (u.cutLine p cause tick up spans) := fun u =>
    .of_objects (State.cutLine_same ..) (by decide) (State.cutLine_objects ..) (by decide)
  exact ((begun.trans (State.cutUnits_seqKept ..)).trans (line _)).trans
    (.of_objects (State.cutTold_same ..) (by decide) (State.cutTold_objects ..) (by decide))

theorem State.joinCause_seqKept (s : State) (p cause tick : Nat) : SeqKept s (s.joinCause p cause tick) := by
  refine .of_objects (f := [.drives, .events, .groups, .parts, .regs]) (b := [0x2710, 0x2700, 0x3020, 0x1010])
    (by apply State.joinCause_but <;> decide) (by decide) ?_ (by decide)
  unfold State.joinCause
  extract_lets x t u
  have stamped : ObjectsBut [0x2710, 0x2700, 0x3020, 0x1010] s t := s.setReg_objects (by decide) ..
  have ruled : ObjectsBut [0x2710, 0x2700, 0x3020, 0x1010] t u :=
    ((t.retryRule_objects ..).mono (by simp)).trans (State.setReg_objects _ (by decide) ..)
  have driven : ObjectsBut [0x2710, 0x2700, 0x3020, 0x1010] u (u.driveFlt (u.groupOf p)) := (u.driveFlt_objects _).mono (by simp)
  exact .ite ((stamped.trans ruled).trans (.ite driven (.refl _ u))) stamped

theorem State.causeIn_seqKept (s : State) (p cause n tick upper lower : Nat) : SeqKept s (s.causeIn p cause n tick upper lower) := by
  unfold State.causeIn
  extract_lets x
  have latched : ∀ y, SeqKept s (s.setLatch n p y) := fun y => .of_same (f := [.latches]) (State.setLatch_but _ _ _ _ _ (by decide)) (by decide)
  have told : ∀ u : State, SeqKept u (u.publishEntry p cause (n + 1)) := fun u =>
    .of_objects (f := [.events, .parts, .regs]) (by apply State.publishEntry_but <;> decide) (by decide) (u.publishEntry_objects ..) (by decide)
  exact .ite (((latched _).trans (State.joinCause_seqKept ..)).trans (told _))
    (.ite ((latched _).trans (State.joinCause_seqKept ..)) (.of_same (s.countLater_same ..) (by decide)))

theorem State.trip_seqKept (s : State) (c : Nat) (side : Side) : SeqKept s (s.trip c side) := by
  unfold State.trip
  extract_lets p tick up lo t
  have tripped : SeqKept s t := .of_objects (s.toTripped_same ..) (by decide) (s.toTripped_objects ..) (by decide)
  exact .ite (tripped.trans (State.causeIn_seqKept ..)) (tripped.trans (State.shutOff_seqKept ..))

/-! ### Timers -/

theorem State.toState_seqKept (s : State) (c : Nat) (st : ChanState) (at_ : Nat) : SeqKept s (s.toState c st at_) :=
  .of_objects (s.toState_same ..) (by decide) (s.toState_objects ..) (by decide)

theorem State.raise_seqKept (s : State) (d c p : Nat) (cl : Bool) (x : Bytes) : SeqKept s (s.raise d c p cl x) :=
  .of_objects (s.raise_same ..) (by decide) (s.raise_objects (l := [0x1010]) (by decide) ..) (by decide)

theorem State.orderEn_seqKept (s : State) (e : Nat) (b : Bool) : SeqKept s (s.orderEn e b) :=
  .of_same (f := [.caps, .ens]) (by apply State.orderEn_but <;> decide) (by decide)

theorem State.recover_seqKept (s : State) (c at_ : Nat) : SeqKept s (s.recover c at_) := by
  have counted : ObjectsBut [0x2400] s (s.recoverCounted c at_) :=
    ((s.toState_objects ..).trans (State.setChan_objects ..)).trans (State.setReg_objects _ (by decide) ..)
  rw [State.recover_eq]
  exact (SeqKept.of_objects (s.recoverCounted_same c at_) (by decide) counted (by decide)).trans (State.raise_seqKept ..)

theorem State.goAbsent_seqKept (s : State) (c at_ : Nat) : SeqKept s (s.goAbsent c at_) := by
  have told : SeqKept s (s.absentTold c at_) := (s.toState_seqKept ..).trans (State.raise_seqKept ..)
  rw [State.goAbsent_eq]
  exact .ite (told.trans (State.orderEn_seqKept ..)) told

theorem State.settleBy_seqKept (s : State) (c t : Nat) : SeqKept s (s.settleBy c t) :=
  .ite (.trans (.ite (s.recover_seqKept ..) (s.toState_seqKept ..)) (.each (fun u d => u.trip_seqKept d _) _ _)) (.refl s)

theorem State.deadlineBy_seqKept (s : State) (c t : Nat) : SeqKept s (s.deadlineBy c t) := by
  by_cases misses : s.misses c t
  · rw [State.deadlineBy_acts misses]
    exact s.goAbsent_seqKept ..
  · rw [State.deadlineBy_idle misses]
    exact .refl s

theorem State.timersBy_seqKept (s : State) (c : Nat) : SeqKept s (s.timersBy c) :=
  ((s.settleBy_seqKept ..).trans (State.deadlineBy_seqKept ..)).trans (State.settleBy_seqKept ..)

/-! ### Channels that go OFF -/

theorem State.unmark_objects (s : State) (c : Nat) : ObjectsBut [0x2400] s (s.unmark c) := by
  unfold State.unmark
  extract_lets x
  split
  · exact .refl _ s
  · refine .ite (.refl _ s) ?_
    extract_lets new t
    have unseen : ObjectsBut [0x2400] s t := .of_same (f := [.caps]) (by apply State.unseeCap_but; decide) (by decide) _
    exact (unseen.trans (t.setChan_objects ..)).trans (State.setReg_objects _ (by decide) ..)

/-- What a stop of a channel does, once the timers that were due have acted. -/
def State.stopped (s : State) (c : Nat) : State :=
  let s := ((s.unmark c).warnEnd c false).markCuts c
  s.setChan c { s.chan c with marginSet := none, staticMgn := false, marginPend := none }

theorem State.leaves_eq (s : State) (c : Nat) : s.leaves c = (s.timersBy c).stopped c := rfl

theorem State.markCuts_same (s : State) (c : Nat) : Same [.chans] s (s.markCuts c) := State.markCuts_but _ _ _ (by decide)

theorem State.stopped_same (s : State) (c : Nat) : Same [.caps, .chans, .events, .regs] s (s.stopped c) := by
  have unmarked : Same [.caps, .chans, .events, .regs] s (s.unmark c) := by apply State.unmark_but <;> decide
  have ended : Same [.caps, .chans, .events, .regs] (s.unmark c) ((s.unmark c).warnEnd c false) := by apply State.warnEnd_but <;> decide
  exact ((unmarked.trans ended).trans ((State.markCuts_same ..).mono (by decide))).trans (State.setChan_but _ _ _ _ (by decide))

theorem State.stopped_objects (s : State) (c : Nat) : ObjectsBut [0x1010, 0x2400] s (s.stopped c) :=
  ((((s.unmark_objects c).mono (by simp)).trans ((State.warnEnd_objects ..).mono (by simp))).trans
    (.of_same (State.markCuts_same ..) (by decide) _)).trans (State.setChan_objects ..)

theorem State.leaves_seqKept (s : State) (c : Nat) : SeqKept s (s.leaves c) :=
  (s.timersBy_seqKept c).trans (.of_objects (State.stopped_same ..) (by decide) (State.stopped_objects ..) (by decide))

theorem State.chanOff_seqKept (s : State) (c : Nat) : SeqKept s (s.chanOff c) :=
  .ite (.refl s) (.ite (s.leaves_seqKept c) ((s.leaves_seqKept c).trans (State.toState_seqKept ..)))

/-! ### The sequence of a partition (R134 to R160) -/

theorem State.toPart_same (s : State) (p : Nat) (st : PartState) (at_ : Nat) : Same [.drives, .events, .parts, .regs] s (s.toPart p st at_) := by
  apply State.toPart_but <;> decide

theorem State.toPart_seqKept (s : State) (p : Nat) (st : PartState) (at_ : Nat) : SeqKept s (s.toPart p st at_) :=
  .of_objects (s.toPart_same ..) (by decide) (s.toPart_objects ..) (by decide)

theorem State.driveHalt_objects (s : State) (d : Nat) : ObjectsBut [0x1010, 0x5010] s (s.driveHalt d) :=
  (s.setReg_objects (by decide) ..).trans ((State.driveSync_objects ..).mono (by simp))

theorem State.sweepDown_seqKept (s : State) (p : Nat) : SeqKept s (s.sweepDown p) := by
  unfold State.sweepDown
  extract_lets runs lost held off zeroed freed x left down halted
  have noted : SeqKept s lost := .of_same (s.noteLost_same p) (by decide)
  have dropped : SeqKept lost held := .each (fun u e => u.orderEn_seqKept e _) _ lost
  have stopped : SeqKept held off := .each (fun u c => u.chanOff_seqKept c) _ held
  have trimmed : SeqKept off zeroed := .each (fun u c => .of_same (f := [.trims]) (State.setTrim_but _ _ _ _ (by decide)) (by decide)) _ off
  have withdrawn : SeqKept zeroed left := (zeroed.withdraw_seqKept p false).trans (State.setPart_seqKept ..)
  have ended : SeqKept left down := left.toPart_seqKept ..
  have still : SeqKept down halted := .each (fun u d => .of_objects (f := [.drives, .events, .regs]) (by apply State.driveHalt_but <;> decide)
    (by decide) (u.driveHalt_objects d) (by decide)) _ down
  exact ((((((noted.trans dropped).trans stopped).trans trimmed).trans withdrawn).trans ended).trans still).trans (State.raise_seqKept ..)

theorem State.finalSweep_seqKept (s : State) (p : Nat) : SeqKept s (s.finalSweep p) := by
  unfold State.finalSweep
  extract_lets t
  have timed : SeqKept s t := .each (fun u c => u.timersBy_seqKept c) _ s
  exact .ite timed (timed.trans (t.sweepDown_seqKept p))

theorem State.reachUp_seqKept (s : State) (p : Nat) : SeqKept s (s.reachUp p) := by
  have run : SeqKept (s.toPart p .up s.now) ((s.toPart p .up s.now).runOnUp p) :=
    .of_objects (f := [.drives, .events, .regs]) (b := [0x1010, 0x5010]) (by apply State.runOnUp_but <;> decide) (by decide)
      (.each (fun u d => (u.setReg_objects (by decide) ..).trans ((State.driveSync_objects _ d).mono (by simp))) _ _) (by decide)
  exact ((s.toPart_seqKept ..).trans run).trans (State.raise_seqKept ..)

theorem State.turnDown_seqKept (s : State) (p : Nat) : SeqKept s (s.turnDown p) := .ite (s.toPart_seqKept ..) (.refl s)

/-- The next ORDER group of a step begins, or the step has none. -/
theorem State.openStep_seqKept (s : State) (p st : Nat) (exit : Bool) : SeqKept s (s.openStep p st exit).1 := by
  rcases s.openStep_cases p st exit with e | ⟨o, e⟩ <;> rw [e]
  · exact .refl s
  · exact s.setPart_seqKept ..

theorem State.walk_seqKept (k : Nat) (s : State) (p : Nat) : SeqKept s (s.walk k p) := by
  induction k generalizing s with
  | zero => exact .refl s
  | succ k ih =>
    unfold State.walk
    extract_lets x n down placed low
    have turned : SeqKept s down := s.turnDown_seqKept p
    have moved : SeqKept s placed := s.setPart_seqKept ..
    split
    · exact .refl s
    · exact .refl s
    · refine .ite (.ite (s.reachUp_seqKept p) (.refl s)) (.ite (.refl s) (.ite (.refl s) ?_))
      have opened := down.openStep_seqKept p x.position true
      split
      · next u e =>
        rw [e] at opened
        exact turned.trans opened
      · next u e =>
        rw [e] at opened
        exact ((turned.trans opened).trans (u.setPart_seqKept ..)).trans (State.stepTick_seqKept _ p)
    · refine .ite ((s.setPart_seqKept ..).trans (ih _)) ?_
      have opened := placed.openStep_seqKept p (x.position + 1) false
      split
      · next u e =>
        rw [e] at opened
        exact moved.trans opened
      · next u e =>
        rw [e] at opened
        exact ((moved.trans opened).trans (u.stepTick_seqKept p)).trans (ih _)
    · refine .ite (.ite (s.finalSweep_seqKept p) (s.setPart_seqKept ..)) ?_
      have opened := s.openStep_seqKept p x.position true
      split
      · next u e =>
        rw [e] at opened
        exact opened
      · next u e =>
        rw [e] at opened
        exact ((opened.trans (u.setPart_seqKept ..)).trans (State.stepTick_seqKept _ p)).trans (ih _)

theorem State.goOn_seqKept (s : State) (p : Nat) : SeqKept s (s.goOn p) := .ite (.refl s) (s.walk_seqKept ..)

theorem State.benchAbort_objects (s : State) (p reason : Nat) : ObjectsBut [0x2400, 0x34E0, 0x1010] s (s.benchAbort p reason) :=
  (s.sweepEnd_objects ..).trans (.each (fun u c => (u.marginEnd_objects c reason).mono (by simp)) _ _)

theorem State.benchAbort_same (s : State) (p reason : Nat) :
    Same [.caps, .chans, .entries, .events, .parts, .regs, .trims, .waitMaint] s (s.benchAbort p reason) := by
  apply State.benchAbort_but <;> decide

theorem State.benchAbort_seqKept (s : State) (p reason : Nat) : SeqKept s (s.benchAbort p reason) :=
  .of_objects (s.benchAbort_same ..) (by decide) (s.benchAbort_objects ..) (by decide)

end Sys2Proof.Machine

namespace Sys2Proof.Machine

/-! ### What the timers of a channel are judged by (R53, R55, R57) -/

def ChanX.timing (x : ChanX) : ChanState × Nat × Nat := (x.state, x.settleAt, x.armedAt)

/-- Every channel but those of a list is timed as it was. -/
structure TimesBut (l : List Nat) (s t : State) : Prop where
  keeps : ∀ d, d ∉ l → (t.chan d).timing = (s.chan d).timing

theorem TimesBut.refl (l : List Nat) (s : State) : TimesBut l s s := ⟨fun _ _ => rfl⟩

theorem TimesBut.trans {l : List Nat} {s t u : State} (h : TimesBut l s t) (h' : TimesBut l t u) : TimesBut l s u :=
  ⟨fun d hd => (h'.keeps d hd).trans (h.keeps d hd)⟩

theorem TimesBut.mono {l m : List Nat} {s t : State} (h : TimesBut l s t) (hs : ∀ d ∈ l, d ∈ m) : TimesBut m s t :=
  ⟨fun d hd => h.keeps d (fun hl => hd (hs d hl))⟩

theorem TimesBut.ite {l : List Nat} {c : Prop} [Decidable c] {s t u : State} (ht : TimesBut l s t) (hu : TimesBut l s u) :
    TimesBut l s (if c then t else u) := by
  split
  · exact ht
  · exact hu

theorem TimesBut.each {l : List Nat} {f : State → Nat → State} (h : ∀ u x, TimesBut l u (f u x)) (xs : List Nat) (s : State) :
    TimesBut l s (s.each xs f) := State.each_rel (.refl l) (fun _ _ _ => .trans) h xs s

theorem TimesBut.of_same {f : List Fld} {s t : State} (same : Same f s t) (hf : Fld.chans ∉ f) (l : List Nat) : TimesBut l s t :=
  ⟨fun d _ => congrArg ChanX.timing (same.get_chan hf d)⟩

theorem TimesBut.of_only {c : Nat} {s t : State} (h : OnlyChan c s t) : TimesBut [c] s t :=
  ⟨fun d hd => congrArg ChanX.timing (h.chans d (by simpa using hd))⟩

theorem State.setChan_times (s : State) {c : Nat} {x : ChanX} (h : x.timing = (s.chan c).timing) (l : List Nat) :
    TimesBut l s (s.setChan c x) := by
  refine ⟨fun d _ => ?_⟩
  rw [State.setChan_get]
  split
  · subst d
    exact h
  · rfl

theorem State.raise_times (s : State) (l : List Nat) (d c p : Nat) (cl : Bool) (x : Bytes) : TimesBut l s (s.raise d c p cl x) :=
  .of_same (s.raise_same ..) (by decide) l

theorem State.warnEnd_times (s : State) (c : Nat) (quiet : Bool) : TimesBut [] s (s.warnEnd c quiet) := by
  have cleared : ∀ (u : State) d, TimesBut [] u (u.warnClear d quiet) := fun u d => by
    unfold State.warnClear
    extract_lets x v w
    have flags : TimesBut [] u v := by
      apply State.setChan_times
      rfl
    have upper : TimesBut [] v w := .ite (v.raise_times ..) (.refl _ v)
    exact (flags.trans upper).trans (.ite (w.raise_times ..) (.refl _ w))
  exact .ite (.refl _ s) (.each cleared _ s)

theorem State.markCuts_times (s : State) (c : Nat) : TimesBut [] s (s.markCuts c) :=
  .each (fun u d => .ite (by apply State.setChan_times; rfl) (.refl _ u)) _ s

theorem State.stopped_times (s : State) (c : Nat) : TimesBut [c] s (s.stopped c) := by
  unfold State.stopped
  extract_lets t
  have marked : TimesBut [c] s t := ((TimesBut.of_only (s.unmark_only c)).trans ((State.warnEnd_times ..).mono (by simp))).trans
    ((State.markCuts_times ..).mono (by simp))
  exact marked.trans (.of_only (t.setChan_only ..))

/-! ### Timers that stay idle -/

/-- Every channel is timed as before, or has come to a state without a timer. -/
structure Rests (s t : State) : Prop where
  active : t.active = s.active
  ctr : ∀ n, t.ctr n = s.ctr n
  chans : ∀ c, ((t.chan c).out ∨ (t.chan c).state = .running) ∨ (t.chan c).timing = (s.chan c).timing

theorem Rests.refl (s : State) : Rests s s := ⟨rfl, fun _ => rfl, fun _ => .inr rfl⟩

theorem Rests.trans {s t u : State} (h : Rests s t) (h' : Rests t u) : Rests s u := by
  refine ⟨h'.active.trans h.active, fun n => (h'.ctr n).trans (h.ctr n), fun c => ?_⟩
  rcases h'.chans c with still | same
  · exact .inl still
  · have state : (u.chan c).state = (t.chan c).state := congrArg Prod.fst same
    rw [ChanX.out, state, same]
    exact h.chans c

theorem Rests.of_times {f : List Fld} {s t : State} (same : Same f s t) (hf : ∀ x ∈ [Fld.active, .clusters], x ∉ f) (times : TimesBut [] s t) :
    Rests s t := by
  refine ⟨same.active (hf _ (by decide)), fun n => ?_, fun c => .inr (times.keeps c (by simp))⟩
  unfold State.ctr
  rw [same.get_cluster (hf _ (by decide))]

theorem Rests.of_same {f : List Fld} {s t : State} (same : Same f s t) (hf : ∀ x ∈ [Fld.active, .clusters, .chans], x ∉ f) : Rests s t :=
  .of_times same (fun x hx => hf x (by revert x hx; decide)) (.of_same same (hf _ (by decide)) [])

/-- One channel has come to a state without a timer, and the others are timed as before. -/
theorem Rests.of_one {f : List Fld} {c : Nat} {s t : State} (same : Same f s t) (hf : ∀ x ∈ [Fld.active, .clusters], x ∉ f)
    (times : TimesBut [c] s t) (still : (t.chan c).out ∨ (t.chan c).state = .running) : Rests s t := by
  refine ⟨same.active (hf _ (by decide)), fun n => ?_, fun d => ?_⟩
  · unfold State.ctr
    rw [same.get_cluster (hf _ (by decide))]
  · by_cases hd : d = c
    · rw [hd]
      exact .inl still
    · exact .inr (times.keeps d (by simpa using hd))

theorem Rests.ite {c : Prop} [Decidable c] {s t u : State} (ht : c → Rests s t) (hu : ¬ c → Rests s u) : Rests s (if c then t else u) := by
  split
  · exact ht ‹_›
  · exact hu ‹_›

theorem Rests.idle {s t : State} (h : Rests s t) {c : Nat} (idle : s.timersIdle c) : t.timersIdle c := by
  intro kind
  rcases h.chans c with ((off | tripped) | running) | same
  · simp [off]
  · simp [tripped]
  · simp [running]
  · simp only [ChanX.timing, Prod.mk.injEq] at same
    obtain ⟨state, settleAt, armedAt⟩ := same
    have act : t.act = s.act := funext fun k => by
      unfold State.act
      rw [h.active]
    unfold State.settleDue State.deadlineDue
    rw [state, settleAt, armedAt, h.ctr, act]
    exact idle (by rwa [State.kind, act] at kind)

/-- No timer of a channel was due before the present tick. -/
def State.Idle (s : State) : Prop := ∀ c < 512, s.timersIdle c

theorem Rests.allIdle {s t : State} (h : Rests s t) (idle : s.Idle) : t.Idle := fun c hc => h.idle (idle c hc)

/-! ### Channels that go OFF while no timer was due -/

theorem State.chanOff_idle {s : State} {c : Nat} (idle : s.timersIdle c) : s.chanOff c =
    if (s.chan c).state = .off || (s.chan c).state = .tripped then s
    else if ((s.stopped c).chan c).state = .off || ((s.stopped c).chan c).state = .tripped then s.stopped c
    else (s.stopped c).toState c .off ((s.stopped c).ctr (clOf c)) := by
  unfold State.chanOff
  rw [State.leaves_eq, State.timersBy_idle idle]

theorem State.chanOff_out (s : State) (c : Nat) : ((s.chanOff c).chan c).out := by
  unfold State.chanOff
  extract_lets t
  split
  · next out => simpa [ChanX.out] using out
  · split
    · next out => simpa [ChanX.out] using out
    · exact .inl (State.toState_state ..)

theorem State.chanOff_same {s : State} {c : Nat} (idle : s.timersIdle c) :
    Same [.caps, .chans, .entries, .events, .regs, .trims] s (s.chanOff c) := by
  have stopped : Same [.caps, .chans, .entries, .events, .regs, .trims] s (s.stopped c) := (s.stopped_same c).mono (by decide)
  rw [State.chanOff_idle idle]
  split
  · exact .refl _ s
  · split
    · exact stopped
    · exact stopped.trans ((State.toState_same ..).mono (by decide))

theorem State.chanOff_objects {s : State} {c : Nat} (idle : s.timersIdle c) : ObjectsBut [0x1010, 0x2400] s (s.chanOff c) := by
  rw [State.chanOff_idle idle]
  exact .ite (.refl _ s) (.ite (s.stopped_objects c) ((s.stopped_objects c).trans ((State.toState_objects ..).mono (by simp))))

theorem State.chanOff_rests {s : State} {c : Nat} (idle : s.timersIdle c) : Rests s (s.chanOff c) := by
  have others : TimesBut [c] s (s.chanOff c) := by
    rw [State.chanOff_idle idle]
    exact .ite (.refl _ s) (.ite (s.stopped_times c) ((s.stopped_times c).trans (.of_only (State.toState_only ..))))
  exact .of_one (State.chanOff_same idle) (by decide) others (.inl (s.chanOff_out c))

theorem State.chanOff_outKept (s : State) (c : Nat) : OutKept s (s.chanOff c) := by
  unfold State.chanOff
  extract_lets t
  have left : OutKept s t := s.leaves_outKept c
  exact .ite (fun _ => .refl s) (fun _ => .ite (fun _ => left) (fun _ => left.trans (t.toState_outKept (.inl (.inl rfl)) _)))

/-- Channels of a list go OFF, none of which had a timer due. -/
theorem State.each_chanOff {s : State} {l : List Nat} (idle : ∀ c ∈ l, s.timersIdle c) :
    Same [.caps, .chans, .entries, .events, .regs, .trims] s (s.each l (fun s c => s.chanOff c)) ∧
    ObjectsBut [0x1010, 0x2400] s (s.each l (fun s c => s.chanOff c)) ∧ Rests s (s.each l (fun s c => s.chanOff c)) := by
  induction l generalizing s with
  | nil => exact ⟨.refl _ s, .refl _ s, .refl s⟩
  | cons c l ih =>
    have here := idle c (List.mem_cons_self ..)
    have rests := State.chanOff_rests here
    obtain ⟨same, objects, still⟩ := ih (s := s.chanOff c) (fun d hd => rests.idle (idle d (List.mem_cons_of_mem _ hd)))
    exact ⟨(State.chanOff_same here).trans same, (State.chanOff_objects here).trans objects, rests.trans still⟩

/-- Each of them is OFF or TRIPPED then. -/
theorem State.each_chanOff_out (s : State) {l : List Nat} {c : Nat} (hc : c ∈ l) : ((s.each l (fun s c => s.chanOff c)).chan c).out := by
  induction l generalizing s with
  | nil => cases hc
  | cons d l ih =>
    rcases List.mem_cons.mp hc with rfl | later
    · exact (OutKept.each (fun u x => u.chanOff_outKept x) l _).keeps c (s.chanOff_out c)
    · exact ih _ later

/-! ### Sequences while no timer was due -/

/-- What a step that ends and a sweep to DOWN may change while no timer was due. -/
def calmFlds : List Fld := [.actions, .caps, .chans, .clusters, .drives, .ens, .entries, .events, .parts, .regs, .trims]

/-- An operation of the sequences of some partitions, in which no partition is shut off: the lines stay, and so do the other partitions and the
registers of the groups and their goals; no timer comes to be due. -/
structure Calm (f : List Fld) (ps : List Nat) (s t : State) : Prop where
  same : Same f s t
  objects : ObjectsBut [0x1010, 0x2400, 0x2840, 0x3020, 0x34E0, 0x5010] s t
  others : AllBut s.part t.part ps
  lines : ∀ p, (t.part p).line = (s.part p).line
  rests : Rests s t

theorem Calm.refl (f : List Fld) (ps : List Nat) (s : State) : Calm f ps s s :=
  ⟨.refl f s, .refl _ s, fun _ _ => rfl, fun _ => rfl, .refl s⟩

theorem Calm.trans {f : List Fld} {ps : List Nat} {s t u : State} (h : Calm f ps s t) (h' : Calm f ps t u) : Calm f ps s u :=
  ⟨h.same.trans h'.same, h.objects.trans h'.objects, fun p hp => (h'.others p hp).trans (h.others p hp),
    fun p => (h'.lines p).trans (h.lines p), h.rests.trans h'.rests⟩

theorem Calm.mono {f g : List Fld} {ps qs : List Nat} {s t : State} (h : Calm f ps s t) (hf : ∀ x ∈ f, x ∈ g) (hp : ∀ p ∈ ps, p ∈ qs) :
    Calm g qs s t :=
  ⟨h.same.mono hf, h.objects, fun p np => h.others p (fun mem => np (hp p mem)), h.lines, h.rests⟩

theorem Calm.ite {f : List Fld} {ps : List Nat} {c : Prop} [Decidable c] {s t u : State} (ht : c → Calm f ps s t) (hu : ¬ c → Calm f ps s u) :
    Calm f ps s (if c then t else u) := by
  split
  · exact ht ‹_›
  · exact hu ‹_›

/-- An operation over a list of partitions, each of whose turns finds no timer due. -/
theorem Calm.each {f : List Fld} {ps : List Nat} {g : State → Nat → State} {l : List Nat} (h : ∀ u, u.Idle → ∀ x ∈ l, Calm f ps u (g u x))
    {s : State} (idle : s.Idle) : Calm f ps s (s.each l g) := by
  induction l generalizing s with
  | nil => exact .refl f ps s
  | cons x l ih =>
    have here := h s idle x (List.mem_cons_self ..)
    exact here.trans (ih (fun u hu y hy => h u hu y (List.mem_cons_of_mem _ hy)) (here.rests.allIdle idle))

/-- What leaves the partitions alone. -/
theorem Calm.of_same {f g : List Fld} {b : List Nat} {s t : State} (same : Same f s t) (hf : ∀ x ∈ f, x ∈ g) (hp : Fld.parts ∉ f)
    (objects : ObjectsBut b s t) (hb : ∀ o ∈ b, o ∈ [0x1010, 0x2400, 0x2840, 0x3020, 0x34E0, 0x5010]) (rests : Rests s t) (ps : List Nat) :
    Calm g ps s t :=
  ⟨same.mono hf, objects.mono hb, fun p _ => same.get_part hp p, fun p => by rw [same.get_part hp], rests⟩

/-- A start's steps are among them. -/
theorem Calm.of_climbs {p : Nat} {s t : State} (h : Climbs p s t) : Calm calmFlds [p] s t := by
  refine ⟨h.same.mono (by decide), h.objects.mono (by decide), h.others, fun q => ?_, .of_same h.same (by decide)⟩
  by_cases hq : q = p
  · subst q
    exact h.line
  · rw [h.others q (by simpa using hq)]

theorem State.withdraw_same (s : State) (p : Nat) (entryOnly : Bool) : Same [.actions] s (s.withdraw p entryOnly) :=
  State.withdraw_but _ _ _ _ (by decide)

theorem State.noteLost_rests (s : State) (p : Nat) : Rests s (s.noteLost p) :=
  ⟨(s.noteLost_same p).active (by decide), fun n => (s.noteLost_noted p).counter (by simp),
    fun c => .inr (congrArg ChanX.timing ((s.noteLost_same p).get_chan (by decide) c))⟩

theorem State.mem_chansOf_lt {s : State} {p c : Nat} (h : c ∈ s.chansOf p) : c < 512 := List.mem_range.mp (List.mem_filter.mp h).1

theorem State.drivesDown_climbs (s : State) (p q : Nat) : Climbs q s (s.drivesDown p) :=
  .of_objects (f := [.drives, .events, .regs]) (by apply State.drivesDown_but <;> decide) (by decide)
    (.each (fun u d => (u.driveHalt_objects d).mono (by decide)) _ s)

theorem State.partLeft_climbs (s : State) (p : Nat) : Climbs p s (s.setPart p
    { s.part p with phase := .notMember, position := 0, step := none, exitDone := false, descendTo := none }) :=
  s.setPart_climbs p rfl rfl

theorem State.sweepDown_calm {s : State} (idle : s.Idle) (p : Nat) : Calm calmFlds [p] s (s.sweepDown p) := by
  unfold State.sweepDown
  extract_lets runs lost held off zeroed freed x left down halted
  have noted : Calm calmFlds [p] s lost := .of_same (s.noteLost_same p) (by decide) (by decide)
    (.of_same (s.noteLost_same p) (by decide) []) (by simp) (s.noteLost_rests p) _
  have ordered : Same [.caps, .ens] lost held := State.each_but _ _ _ _ (fun u e _ => by apply State.orderEn_but <;> decide)
  have dropped : Calm calmFlds [p] lost held := .of_same ordered (by decide) (by decide) (.of_same ordered (by decide) []) (by simp)
    (.of_same ordered (by decide)) _
  have still : held.Idle := (noted.trans dropped).rests.allIdle idle
  obtain ⟨stoppedSame, stoppedObjects, stoppedRests⟩ : Same [.caps, .chans, .entries, .events, .regs, .trims] held off ∧
      ObjectsBut [0x1010, 0x2400] held off ∧ Rests held off :=
    State.each_chanOff (fun c hc => still c (State.mem_chansOf_lt (List.mem_of_mem_filter hc)))
  have stopped : Calm calmFlds [p] held off := .of_same stoppedSame (by decide) (by decide) stoppedObjects (by simp) stoppedRests _
  have trimmed : Same [.actions, .trims] off zeroed := State.each_but _ _ _ _ (fun u c _ => State.setTrim_but _ _ _ _ (by decide))
  have withdrawn : Same [.actions, .trims] off freed := trimmed.trans ((zeroed.withdraw_same p false).mono (by decide))
  have loosed : Calm calmFlds [p] off freed := .of_same withdrawn (by decide) (by decide) (.of_same withdrawn (by decide) []) (by simp)
    (.of_same withdrawn (by decide)) _
  have parted : Climbs p freed left := freed.partLeft_climbs p
  have ended : Climbs p left (halted.raise (halted.homeDom p) 0x40 p false [0]) :=
    ((left.toPart_climbs ..).trans (down.drivesDown_climbs ..)).trans (State.raise_climbs ..)
  exact (((noted.trans dropped).trans stopped).trans loosed).trans (.of_climbs (parted.trans ended))

/-- An operation that leaves the state as it is at each unit of a list. -/
theorem State.each_id {f : State → Nat → State} {l : List Nat} {s : State} (h : ∀ x ∈ l, f s x = s) : s.each l f = s := by
  induction l with
  | nil => rfl
  | cons x l ih =>
    rw [State.each_cons, h x (List.mem_cons_self ..)]
    exact ih (fun y hy => h y (List.mem_cons_of_mem _ hy))

theorem State.finalSweep_idle {s : State} (idle : s.Idle) (p : Nat) :
    s.finalSweep p = if (s.part p).line then s else s.sweepDown p := by
  unfold State.finalSweep
  rw [State.each_id (fun c hc => State.timersBy_idle (idle c (State.mem_chansOf_lt hc)))]

theorem State.finalSweep_calm {s : State} (idle : s.Idle) (p : Nat) : Calm calmFlds [p] s (s.finalSweep p) := by
  rw [State.finalSweep_idle idle]
  exact .ite (fun _ => .refl _ _ s) (fun _ => State.sweepDown_calm idle p)

/-- The tick of a step that ends, beside a change of the partition's record. -/
theorem State.stepTick_calm (s : State) (p : Nat) : Calm calmFlds [p] s (s.setReg (seqsLastStepTick p) s.now) :=
  .of_climbs (s.stepTick_climbs p p)

/-- A member in step takes no part of a descent (R135). -/
theorem State.walk_inStep_climbs (k : Nat) {s : State} {p : Nat} (inStep : (s.part p).phase = .inStep) : Climbs p s (s.walk k p) := by
  cases k with
  | zero => exact .refl p s
  | succ k =>
    unfold State.walk
    extract_lets x n down placed low
    have inStep : x.phase = .inStep := inStep
    have turned : Climbs p s down := s.turnDown_climbs p
    rw [inStep]
    dsimp only
    split
    · split
      · exact s.reachUp_climbs p
      · exact .refl p s
    · split
      · exact .refl p s
      · split
        · exact .refl p s
        · obtain ⟨opened, -, -⟩ := down.openStep_climbs p x.position true
          split
          · next u e =>
            rw [e] at opened
            exact turned.trans opened
          · next u e =>
            rw [e] at opened
            exact ((turned.trans opened).trans (u.setPart_climbs p (x := { u.part p with exitDone := true }) rfl rfl)).trans
              (State.stepTick_climbs _ p p)

/-- No step follows for a partition that is no member or that relief has lowered. -/
theorem State.walk_resting (k : Nat) {s : State} {p : Nat} (rests : (s.part p).phase = .notMember ∨ (s.part p).phase = .lowered) :
    s.walk k p = s := by
  cases k with
  | zero => rfl
  | succ k => rcases rests with phase | phase <;> simp [State.walk, phase]

theorem State.walk_calm (k : Nat) {s : State} (idle : s.Idle) (p : Nat) : Calm calmFlds [p] s (s.walk k p) := by
  induction k generalizing s with
  | zero => exact .refl _ _ s
  | succ k ih =>
    cases phase : (s.part p).phase with
    | inStep => exact .of_climbs (State.walk_inStep_climbs (k + 1) phase)
    | notMember =>
      rw [State.walk_resting _ (.inl phase)]
      exact .refl _ _ s
    | lowered =>
      rw [State.walk_resting _ (.inr phase)]
      exact .refl _ _ s
    | catchingUp =>
      unfold State.walk
      extract_lets x n down placed low
      rw [show x.phase = .catchingUp from phase]
      refine .ite (fun _ => ?_) (fun _ => ?_)
      · have joined : Calm calmFlds [p] s (s.setPart p { x with phase := .inStep, exitDone := false }) := .of_climbs (s.setPart_climbs p rfl rfl)
        exact joined.trans (ih (joined.rests.allIdle idle))
      · have moved : Calm calmFlds [p] s placed := .of_climbs (s.setPart_climbs p rfl rfl)
        have opened : Calm calmFlds [p] placed (placed.openStep p (x.position + 1) false).1 := .of_climbs (placed.openStep_climbs p _ _).1
        split
        · next u e =>
          rw [e] at opened
          exact moved.trans opened
        · next u e =>
          rw [e] at opened
          have ticked := (moved.trans opened).trans (u.stepTick_calm p)
          exact ticked.trans (ih (ticked.rests.allIdle idle))
    | descending =>
      unfold State.walk
      extract_lets x n down placed low
      rw [show x.phase = .descending from phase]
      refine .ite (fun _ => .ite (fun _ => State.finalSweep_calm idle p) (fun _ => ?_)) (fun _ => ?_)
      · exact .of_climbs (s.setPart_climbs p rfl rfl)
      · have opened : Calm calmFlds [p] s (s.openStep p x.position true).1 := .of_climbs (s.openStep_climbs p _ _).1
        split
        · next u e =>
          rw [e] at opened
          exact opened
        · next u e =>
          rw [e] at opened
          have lower : Calm calmFlds [p] u (u.setPart p { u.part p with position := x.position - 1 }) := .of_climbs (u.setPart_climbs p rfl rfl)
          have ticked := (opened.trans lower).trans (State.stepTick_calm _ p)
          exact ticked.trans (ih (ticked.rests.allIdle idle))

theorem State.goOn_calm {s : State} (idle : s.Idle) (p : Nat) : Calm calmFlds [p] s (s.goOn p) :=
  .ite (fun _ => .refl _ _ s) (fun _ => State.walk_calm _ idle p)

end Sys2Proof.Machine

namespace Sys2Proof.Machine

/-! ### The advance of a group (R134, R135) -/

/-- The state that an advance takes the group to: one nearer its goal. -/
def State.nextStep (s : State) (n : Nat) : Nat := if s.grpState n < s.goalOf n then s.grpState n + 1 else s.grpState n - 1

/-- The group has taken its next state, and no partition has followed it yet. -/
def State.stepped (s : State) (n : Nat) : State := (s.setReg (grpsState n) (s.nextStep n)).setReg (grpsLastAdvanceTick n) s.now

theorem State.stepped_same (s : State) (n : Nat) : Same [.regs] s (s.stepped n) :=
  .trans (State.setReg_but _ _ _ _ (by decide)) (State.setReg_but _ _ _ _ (by decide))

/-- A partition follows its group to state v. -/
def State.follow (s : State) (p v : Nat) (up : Bool) : State :=
  let x := s.part p
  match x.phase with
  | .inStep =>
    let s := s.setPart p { x with position := v, exitDone := false }
    if up then
      match s.openStep p v false with
      | (s, false) => s
      | (s, true) => (s.setReg (seqsLastStepTick p) s.now).goOn p
    else if v = 0 then s.finalSweep p
    else s.goOn p
  | .lowered =>
    if !up && v == x.position then (s.setPart p { x with phase := .inStep, exitDone := false }).goOn p else s
  | .notMember | .catchingUp | .descending => s

theorem State.advance_eq (s : State) (n : Nat) : s.advance n =
    (s.stepped n).each (s.groupParts n) (fun u p => u.follow p (s.nextStep n) (decide (s.grpState n < s.goalOf n))) := rfl

theorem Climbs.ite {p : Nat} {c : Prop} [Decidable c] {s t u : State} (ht : Climbs p s t) (hu : Climbs p s u) :
    Climbs p s (if c then t else u) := by
  split
  · exact ht
  · exact hu

theorem State.goOn_inStep_climbs {s : State} {p : Nat} (inStep : (s.part p).phase = .inStep) : Climbs p s (s.goOn p) :=
  .ite (.refl p s) (State.walk_inStep_climbs _ inStep)

/-- A member that has taken its group's new state goes on from there. -/
theorem State.takes_climbs (s : State) (p v : Nat) :
    Climbs p s ((s.setPart p { s.part p with position := v, exitDone := false })) := s.setPart_climbs p rfl rfl

theorem State.follow_up_climbs {s : State} {p v : Nat} (inStep : (s.part p).phase = .inStep) : Climbs p s (s.follow p v true) := by
  unfold State.follow
  extract_lets x taken
  rw [show x.phase = .inStep from inStep]
  obtain ⟨opened, -, phase⟩ := taken.openStep_climbs p v false
  have took : Climbs p s taken := s.takes_climbs p v
  have still : (taken.part p).phase = .inStep := by
    rw [State.setPart_get, if_pos rfl]
    exact inStep
  dsimp only
  rw [if_pos rfl]
  split
  · next u e =>
    rw [e] at opened
    exact took.trans opened
  · next u e =>
    rw [e] at opened phase
    exact ((took.trans opened).trans (u.stepTick_climbs p p)).trans (State.goOn_inStep_climbs (phase.trans still))

theorem State.follow_seqKept (s : State) (p v : Nat) (up : Bool) : SeqKept s (s.follow p v up) := by
  unfold State.follow
  extract_lets x taken
  have took : SeqKept s taken := s.setPart_seqKept ..
  cases x.phase with
  | inStep =>
    refine .ite ?_ (.ite (took.trans (taken.finalSweep_seqKept p)) (took.trans (taken.goOn_seqKept p)))
    have opened := took.trans (taken.openStep_seqKept p v false)
    split
    · next u e =>
      rw [e] at opened
      exact opened
    · next u e =>
      rw [e] at opened
      exact (opened.trans (u.stepTick_seqKept p)).trans (State.goOn_seqKept ..)
  | lowered => exact .ite ((s.setPart_seqKept ..).trans (State.goOn_seqKept ..)) (.refl s)
  | notMember => exact .refl s
  | catchingUp => exact .refl s
  | descending => exact .refl s

/-- A lowered partition that its group has come down to is in step again (R155). -/
theorem State.follow_lowered_climbs {s : State} {p v : Nat} {up : Bool} (lowered : (s.part p).phase = .lowered) :
    Climbs p s (s.follow p v up) := by
  unfold State.follow
  extract_lets x taken
  rw [show x.phase = .lowered from lowered]
  have joined : Climbs p s (s.setPart p { x with phase := .inStep, exitDone := false }) := by apply State.setPart_climbs <;> rfl
  refine .ite (joined.trans (State.goOn_inStep_climbs ?_)) (.refl p s)
  rw [State.setPart_get, if_pos rfl]

theorem State.follow_rests {s : State} {p : Nat} (v : Nat) (up : Bool)
    (rests : (s.part p).phase = .notMember ∨ (s.part p).phase = .catchingUp ∨ (s.part p).phase = .descending) : s.follow p v up = s := by
  rcases rests with phase | phase | phase <;> simp only [State.follow, phase]

/-- Down to a state above 0 a member in step goes on, and to state 0 it ends in its final sweep. -/
theorem State.follow_down {s : State} {p v : Nat} (inStep : (s.part p).phase = .inStep) : s.follow p v false =
    if v = 0 then (s.setPart p { s.part p with position := v, exitDone := false }).finalSweep p
    else (s.setPart p { s.part p with position := v, exitDone := false }).goOn p := by
  simp only [State.follow, inStep]
  exact if_neg (by simp)

/-- Above state 0 no final sweep follows. -/
theorem State.follow_climbs (s : State) (p : Nat) {v : Nat} (above : 0 < v) (up : Bool) : Climbs p s (s.follow p v up) := by
  cases phase : (s.part p).phase with
  | inStep =>
    cases up with
    | true => exact State.follow_up_climbs phase
    | false =>
      rw [State.follow_down phase, if_neg above.ne']
      refine (s.takes_climbs p v).trans (State.goOn_inStep_climbs ?_)
      rw [State.setPart_get, if_pos rfl]
      exact phase
  | lowered => exact State.follow_lowered_climbs phase
  | notMember =>
    rw [State.follow_rests v up (.inl phase)]
    exact .refl p s
  | catchingUp =>
    rw [State.follow_rests v up (.inr (.inl phase))]
    exact .refl p s
  | descending =>
    rw [State.follow_rests v up (.inr (.inr phase))]
    exact .refl p s

theorem State.follow_calm {s : State} (idle : s.Idle) (p v : Nat) (up : Bool) (toZero : up = true → 0 < v) :
    Calm calmFlds [p] s (s.follow p v up) := by
  rcases Nat.eq_zero_or_pos v with rfl | above
  · cases up with
    | true => exact absurd (toZero rfl) (lt_irrefl 0)
    | false =>
      by_cases inStep : (s.part p).phase = .inStep
      · have took : Calm calmFlds [p] s _ := .of_climbs (s.takes_climbs p 0)
        rw [State.follow_down inStep, if_pos rfl]
        exact took.trans (State.finalSweep_calm (took.rests.allIdle idle) p)
      · by_cases lowered : (s.part p).phase = .lowered
        · exact .of_climbs (State.follow_lowered_climbs lowered)
        · rw [State.follow_rests]
          · exact .refl _ _ s
          · cases phase : (s.part p).phase <;> simp_all
  · exact .of_climbs (s.follow_climbs p above up)

/-- The group keeps its new state while its partitions follow. -/
theorem State.advance_grpState (s : State) (n : Nat) : (s.advance n).grpState n = s.nextStep n := by
  have stepped : (s.stepped n).grpState n = s.nextStep n := by simp [State.stepped, State.grpState]
  rw [State.advance_eq]
  rcases Nat.eq_zero_or_pos (s.nextStep n) with zero | above
  · exact ((SeqKept.each (fun u p => u.follow_seqKept p _ _) _ _).grpState (stepped.trans zero)).trans zero.symm
  · have kept : ∀ (l : List Nat) (u : State), (u.each l fun u p => u.follow p (s.nextStep n) (decide (s.grpState n < s.goalOf n))).grpState n =
        u.grpState n :=
      fun l u => State.each_rel (R := fun a b : State => b.grpState n = a.grpState n) (fun _ => rfl) (fun _ _ _ h h' => h'.trans h)
        (fun v p => (v.follow_climbs p above _).group.2.1 n) l u
    exact (kept _ _).trans stepped

theorem State.advance_tick (s : State) (n : Nat) : (s.advance n).reg (grpsLastAdvanceTick n) = s.now := by
  rw [State.advance_eq, (SeqKept.each (fun u p => u.follow_seqKept p _ _) _ _).lastAdvance]
  exact State.setReg_reg_same ..

theorem State.advance_calm {s : State} (idle : s.Idle) (n : Nat) : Calm calmFlds (s.groupParts n) (s.stepped n) (s.advance n) := by
  rw [State.advance_eq]
  refine .each (fun u quiet p hp => (State.follow_calm quiet p _ _ fun up => ?_).mono (fun _ h => h) (by simpa using hp))
    ((Rests.of_same (s.stepped_same n) (by decide)).allIdle idle)
  simp [State.nextStep, of_decide_eq_true up]

/-! ### The barrier (R169, R170, R183) -/

/-- The advance is counted, and its guard and its check begin. -/
def State.guarded (s : State) (n : Nat) : State :=
  (s.setReg (tresGrpAdvanceCount n) ((s.reg (tresGrpAdvanceCount n) + 1) % 65536)).setGroup n
    { s.group n with guardFrom := some s.now, checkFrom := if s.checksWithPeers n then some s.now else none, resends := 0 }

section
variable {n : Fin 4} {s : State}

theorem exec_barrierAdvance_unready (h : s.committed = false ∨ s.stepCluster n = none ∨ (s.group n).zeroedAt = some s.now) :
    exec (.barrierAdvance n) s = .next s := if_pos h

section
variable (ready : ¬(s.committed = false ∨ s.stepCluster n = none ∨ (s.group n).zeroedAt = some s.now))
include ready

theorem exec_barrierAdvance_rest (rest : s.grpState n = s.goalOf n) :
    exec (.barrierAdvance n) s = .next (s.bump16 (tresGrpGlitchCount n)) := (if_neg ready).trans (if_pos rest)

theorem exec_barrierAdvance_held (under : s.grpState n ≠ s.goalOf n) (held : s.heldLow n = true) : exec (.barrierAdvance n) s = .next s :=
  (if_neg ready).trans ((if_neg under).trans (if_pos held))

theorem exec_barrierAdvance_moves (under : s.grpState n ≠ s.goalOf n) (free : s.heldLow n = false) :
    exec (.barrierAdvance n) s = .next ((s.guarded n).advance n) :=
  (if_neg ready).trans ((if_neg under).trans (if_neg (by simp [free])))
end

theorem exec_guardEnd_due {k : Nat} (guard : (s.group n).guardFrom = some k) (past : k + 100 ≤ s.now) :
    exec (.guardEnd n) s = .next (s.setGroup n { s.group n with guardFrom := none }) := by
  change execGuardEnd n s = _
  unfold execGuardEnd
  rw [guard]
  exact if_pos (State.passed_of_le past)

theorem exec_guardEnd_early {k : Nat} (guard : (s.group n).guardFrom = some k) (early : s.now < k + 100) : exec (.guardEnd n) s = .next s := by
  change execGuardEnd n s = _
  unfold execGuardEnd
  rw [guard]
  exact if_neg (fun past => absurd (of_decide_eq_true past) early.not_ge)

theorem exec_groupReset_owner (serves : s.serves = true) : exec (.groupReset .owner n 1) s = .next ((s.groupReset n).countItem .owner) :=
  congrArg ok (State.item_run s .owner _ _ _ serves nofun rfl rfl)

theorem exec_groupReset_noRight {r : Role} (hears : s.hears r) (other : r ≠ .owner) (v : Byte) :
    exec (.groupReset r n v) s = .next ((s.answer 0x0201).countItem r) := by
  have noRight : isOwner r = false := by cases r <;> simp_all [isOwner]
  change execGroupReset r n v s = _
  unfold execGroupReset
  rw [noRight, State.item_noRight s r _ _ hears.1 hears.2]
  rfl
end

/-- The registers of the groups, their goals and their counts are no counts of requests. -/
theorem State.answered_group (s : State) (st : Nat) (r : Role) (u : Nat) {o x : Nat} (h : o ∈ [0x2820, 0x2860, 0x7030]) :
    ((s.answer st).countItem r).reg (rk o u x) = s.reg (rk o u x) := by
  refine (s.answer st).countItem_reg r _ ?_
  simp only [List.mem_cons, List.not_mem_nil, or_false] at h
  rcases h with rfl | rfl | rfl <;> cases r <;> simp [itemKeys]

theorem State.guarded_same (s : State) (n : Nat) : Same [.groups, .regs] s (s.guarded n) :=
  .trans (State.setReg_but _ _ _ _ (by decide)) (State.setGroup_but _ _ _ _ (by decide))

theorem State.guarded_reg (s : State) (n : Nat) : RegsBut s (s.guarded n) [tresGrpAdvanceCount n] :=
  .of_regs ((RegsBut.refl s _).setReg (by simp)) rfl

/-- While no timer is overdue, an advance leaves the other groups, every goal, and the partitions of the other groups. -/
theorem State.advance_leaves {s : State} (idle : s.Idle) (n : Fin 4) :
    Same (.groups :: calmFlds) s ((s.guarded n).advance n) ∧
    (∀ m < 4, ((s.guarded n).advance n).goalOf m = s.goalOf m ∧ (m ≠ n.val → ((s.guarded n).advance n).grpState m = s.grpState m)) ∧
    AllBut s.group ((s.guarded n).advance n).group [n.val] ∧ (((s.guarded n).advance n).group n).guardFrom = some s.now ∧
    ((s.guarded n).advance n).reg (tresGrpAdvanceCount n) = (s.reg (tresGrpAdvanceCount n) + 1) % 65536 ∧
    ∀ p, p ∉ s.groupParts n → ((s.guarded n).advance n).part p = s.part p := by
  have before : Same [.groups, .regs] s ((s.guarded n).stepped n) := (s.guarded_same n).trans (((s.guarded n).stepped_same n).mono (by decide))
  have calm := State.advance_calm ((Rests.of_same (s.guarded_same n) (by decide)).allIdle idle) n
  have regs : RegsBut s ((s.guarded n).stepped n) [tresGrpAdvanceCount n, grpsState n, grpsLastAdvanceTick n] :=
    (((s.guarded_reg n).mono (by simp)).setReg (by simp)).setReg (by simp)
  have group : ∀ m, ((s.guarded n).advance n).group m = (s.guarded n).group m := fun m => calm.same.get_group (by decide) m
  refine ⟨(before.mono (by decide)).trans (calm.same.mono (by decide)), fun m small => ⟨?_, fun other => ?_⟩,
    fun m other => ?_, ?_, ?_, fun p out => ?_⟩
  · exact (calm.objects.at (by decide) m 2).trans (regs _ (by simp))
  · exact (calm.objects.at (by decide) m 1).trans (regs _ (by simp; omega))
  · rw [group]
    exact State.setGroup_group_ne _ _ _ _ (by simpa using other)
  · rw [group]
    exact congrArg GroupX.guardFrom (State.setGroup_group_same ..)
  · refine (calm.objects.at (by decide) n _).trans ?_
    simp [State.stepped, State.guarded]
  · refine (calm.others p ?_).trans (before.get_part (by decide) p)
    have parts : (s.guarded n).groupParts n = s.groupParts n := by
      unfold State.groupParts State.defined State.groupOf
      simp only [(s.guarded_same n).get_act (by decide)]
    rw [parts]
    exact out

/-- A reset of a group that no partition is a member of (R183). -/
theorem State.groupReset_free {s : State} {n : Nat} (out : ∀ p ∈ s.groupParts n, s.member p = false) : s.groupReset n =
    (((s.setGroup n { s.group n with zeroedAt := some s.now }).setReg (grpsState n) 0).setReg (tresGrpAdvanceCount n) 0).answer 0 :=
  if_neg (by simpa using out)

theorem State.groupReset_member {s : State} {n p : Nat} (mem : p ∈ s.groupParts n) (member : s.member p = true) :
    s.groupReset n = s.answer 0x0505 := if_pos (List.any_eq_true.mpr ⟨p, mem, member⟩)

/-- Settles O21: an advance takes the group one state on (`State.advance_grpState`), and while no timer is overdue its partitions follow without a
change of another group (`State.advance_calm`). -/
theorem barrierAdvancesOneState : Obligations.BarrierAdvancesOneState := by
  unfold Obligations.BarrierAdvancesOneState
  refine ⟨fun n s committed cluster zeroed => ?_, fun n s unready => exec_barrierAdvance_unready unready, fun n k s guard =>
    ⟨fun past => ⟨_, exec_guardEnd_due guard past, State.setGroup_but _ _ _ _ (by decide),
      fun m other => State.setGroup_group_ne _ _ _ _ (by simpa using other), State.setGroup_group_same ..⟩, exec_guardEnd_early guard⟩,
    fun n s serves out => ?_, fun n p s serves mem member => ?_,
    fun r n v s hears other => ⟨_, exec_groupReset_noRight hears other v, .of_refused r _⟩⟩
  · have ready : ¬(s.committed = false ∨ s.stepCluster n = none ∨ (s.group n).zeroedAt = some s.now) := by simp [committed, cluster, zeroed]
    refine ⟨fun rest => ⟨_, exec_barrierAdvance_rest ready rest, State.bump16_but _ _ _ (by decide), .bump16 (.refl s _) (by simp), by simp⟩,
      fun under free => ⟨_, exec_barrierAdvance_moves ready under free, ?_⟩, exec_barrierAdvance_held ready⟩
    have state : (s.guarded n).grpState n = s.grpState n := (s.guarded_reg n) _ (by simp)
    have goal : ∀ m : Nat, (s.guarded n).goalOf m = s.goalOf m := fun m => (s.guarded_reg n) _ (by simp)
    have next := (s.guarded n).advance_grpState n
    simp only [State.nextStep, state, goal] at next
    refine ⟨((s.guarded_same n).mono (by decide)).trans (by apply State.advance_but <;> decide), fun below => next.trans (if_pos below),
      fun above => next.trans (if_neg above.le.not_gt), (s.guarded n).advance_tick n, fun idle => ?_⟩
    obtain ⟨same, goals, others, guard, count, parts⟩ := State.advance_leaves idle n
    exact ⟨same.mono (by decide), goals, others, guard, count, parts⟩
  · refine ⟨_, exec_groupReset_owner serves, ?_⟩
    rw [State.groupReset_free out]
    refine ⟨.of ?_ ?_ rfl, ?_, ?_, fun m other => ?_, ?_⟩
    · exact .trans (State.setGroup_but _ _ _ _ (by decide)) (.trans (State.setReg_but _ _ _ _ (by decide))
        (.trans (State.setReg_but _ _ _ _ (by decide)) (by apply State.answer_but <;> decide)))
    · exact .of_regs ((RegsBut.setReg (.refl s _) (by simp)).setReg (by simp)) rfl
    · unfold State.grpState
      rw [State.answered_group _ _ _ _ (by decide)]
      simp
    · rw [State.answered_group _ _ _ _ (by decide), State.setReg_reg_same]
    · simp only [State.countItem_get_group, State.answer_get_group, State.setReg_get_group]
      exact State.setGroup_group_ne _ _ _ _ (by simpa using other)
    · simp
  · refine ⟨_, exec_groupReset_owner serves, ?_⟩
    rw [State.groupReset_member mem member]
    exact .of_refused .owner _

end Sys2Proof.Machine

namespace Sys2Proof.Machine

/-! ### A start leaves the partition a member (R138) -/

/-- In step or catching up. -/
def PartX.climbing (x : PartX) : Prop := x.phase = .inStep ∨ x.phase = .catchingUp

theorem PartX.climbing.member {s : State} {p : Nat} (h : (s.part p).climbing) : s.member p = true := by
  unfold State.member
  rcases h with phase | phase <;> simp [phase]

/-- A partition that climbs goes on climbing, and whether a start of it is pending stays. -/
structure Stays (p : Nat) (s t : State) : Prop where
  pend : (t.part p).startPend = (s.part p).startPend
  climbing : (s.part p).climbing → (t.part p).climbing

theorem Stays.refl (p : Nat) (s : State) : Stays p s s := ⟨rfl, fun h => h⟩

theorem Stays.trans {p : Nat} {s t u : State} (h : Stays p s t) (h' : Stays p t u) : Stays p s u :=
  ⟨h'.pend.trans h.pend, fun hs => h'.climbing (h.climbing hs)⟩

theorem Stays.ite {p : Nat} {c : Prop} [Decidable c] {s t u : State} (ht : Stays p s t) (hu : Stays p s u) : Stays p s (if c then t else u) := by
  split
  · exact ht
  · exact hu

theorem Stays.of_part {p : Nat} {s t : State} (h : t.part p = s.part p) : Stays p s t := ⟨by rw [h], fun hs => by rwa [h]⟩

theorem Stays.setPart {s : State} {p : Nat} {x : PartX} (pend : x.startPend = (s.part p).startPend)
    (climbing : (s.part p).climbing → x.climbing) : Stays p s (s.setPart p x) := by
  refine ⟨?_, fun h => ?_⟩ <;> rw [State.setPart_get, if_pos rfl]
  · exact pend
  · exact climbing h

theorem State.toPart_stays (s : State) (p : Nat) (st : PartState) (at_ : Nat) : Stays p s (s.toPart p st at_) := by
  have pend : ((s.toPart p st at_).part p).startPend = (s.part p).startPend := by
    unfold State.toPart
    extract_lets x ends t u
    have synced : u.part p = t.part p := State.each_keeps (fun s => s.part p) _ _ (fun v d _ =>
      Same.get_part (l := [.drives, .events, .regs]) (by apply State.driveSync_but <;> decide) (by decide) p) t
    have own : (u.part p).startPend = (s.part p).startPend := by
      rw [synced, State.partSince_part, if_pos rfl]
    split
    · exact own
    · exact own
  obtain ⟨-, -, -, phase⟩ := s.toPart_kept p st at_
  exact ⟨pend, fun h => by rwa [PartX.climbing, phase]⟩

theorem State.openStep_stays (s : State) (p st : Nat) (exit : Bool) : Stays p s (s.openStep p st exit).1 := by
  rcases s.openStep_cases p st exit with e | ⟨o, e⟩ <;> rw [e]
  · exact .refl p s
  · exact .setPart rfl (fun h => h)

theorem State.reachUp_stays (s : State) (p : Nat) : Stays p s (s.reachUp p) := by
  have run : Same [.drives, .events, .regs] (s.toPart p .up s.now) ((s.toPart p .up s.now).runOnUp p) := by apply State.runOnUp_but <;> decide
  exact ((s.toPart_stays ..).trans (.of_part (run.get_part (by decide) p))).trans (.of_part (State.raise_get_part ..))

theorem State.turnDown_stays (s : State) (p : Nat) : Stays p s (s.turnDown p) := .ite (s.toPart_stays ..) (.refl p s)

theorem State.walk_stays (k : Nat) {s : State} {p : Nat} (climbing : (s.part p).climbing) : Stays p s (s.walk k p) := by
  induction k generalizing s with
  | zero => exact .refl p s
  | succ k ih =>
    unfold State.walk
    extract_lets x n down placed low
    rcases id climbing with inStep | catching
    · rw [show x.phase = .inStep from inStep]
      refine .ite (.ite (s.reachUp_stays p) (.refl p s)) (.ite (.refl p s) (.ite (.refl p s) ?_))
      have opened := (s.turnDown_stays p).trans (down.openStep_stays p x.position true)
      split
      · next u e =>
        rw [e] at opened
        exact opened
      · next u e =>
        rw [e] at opened
        exact opened.trans (.trans (.setPart (x := { u.part p with exitDone := true }) rfl (fun h => h)) (.of_part (State.setReg_get_part ..)))
    · rw [show x.phase = .catchingUp from catching]
      have joined : Stays p s (s.setPart p { x with phase := .inStep, exitDone := false }) := .setPart rfl (fun _ => .inl rfl)
      have moved : Stays p s placed := .setPart rfl (fun h => h)
      refine .ite (joined.trans (ih (joined.climbing climbing))) ?_
      have opened := moved.trans (placed.openStep_stays p (x.position + 1) false)
      split
      · next u e =>
        rw [e] at opened
        exact opened
      · next u e =>
        rw [e] at opened
        exact opened.trans (.trans (.of_part (State.setReg_get_part ..)) (ih (opened.climbing climbing)))

theorem State.goOn_stays {s : State} {p : Nat} (climbing : (s.part p).climbing) : Stays p s (s.goOn p) :=
  .ite (.refl p s) (State.walk_stays _ climbing)

/-- What a START, or the end of the last hold, makes of a partition (R138): a member without a pending start, which climbs when its group or its
goal is above 0. -/
structure Joins (p : Nat) (s t : State) : Prop where
  climbs : Climbs p s t
  climbing : (t.part p).climbing
  pend : (t.part p).startPend = false
  toGoal : s.grpState (s.groupOf p) ≤ s.goalOf (s.groupOf p) → 0 < s.goalOf (s.groupOf p) → (t.part p).state = .starting ∨ (t.part p).state = .up
  above : s.goalOf (s.groupOf p) < s.grpState (s.groupOf p) → (t.part p).state = .starting ∨ (t.part p).state = .stopping
  rest : s.grpState (s.groupOf p) = 0 → s.goalOf (s.groupOf p) = 0 → (t.part p).state = (s.part p).state

theorem State.join_joins (s : State) (p : Nat) : Joins p s (s.join p) := by
  unfold State.join
  extract_lets n x t
  have placed : Climbs p s t := by apply State.setPart_climbs <;> rfl
  have member : (t.part p).startPend = false ∧ (t.part p).climbing ∧ (t.part p).state = (s.part p).state := by
    rw [State.setPart_get, if_pos rfl]
    refine ⟨rfl, ?_, rfl⟩
    unfold PartX.climbing
    dsimp only
    split
    · exact .inl rfl
    · exact .inr rfl
  obtain ⟨pend, climbing, state⟩ := member
  obtain ⟨group, grps, goals⟩ := placed.group
  split
  · have took := t.toPart_stays p .starting t.now
    have on := took.climbing climbing
    have start : ((t.toPart p .starting t.now).part p).state = .starting := by
      rw [(t.toPart_part p p .starting t.now).1, if_pos rfl]
    obtain ⟨climbs, toGoal, above⟩ := Starts.after (placed.trans (t.toPart_climbs p .starting t.now)) (State.goOn_starts start on)
    have stays := took.trans (State.goOn_stays on)
    refine ⟨climbs, stays.climbing climbing, stays.pend.trans pend, fun le _ => toGoal le, above, fun grp0 goal0 => ?_⟩
    next under =>
      rw [show s.groupOf p = n from rfl] at grp0 goal0
      rw [grps, goals, grp0, goal0] at under
      simp at under
  · next rests =>
    rw [not_or, grps, goals, Nat.not_lt, Nat.not_lt, Nat.le_zero, Nat.le_zero] at rests
    obtain ⟨grp0, goal0⟩ := rests
    refine ⟨placed, climbing, pend, fun _ up => absurd goal0 up.ne', fun up => ?_, fun _ _ => state⟩
    exact absurd (grp0 ▸ up) (Nat.not_lt_zero _)

/-- A restart ends a pending start. -/
theorem State.restartPart_pend (s : State) (p : Nat) : ((s.restartPart p).part p).startPend = false := by
  unfold State.restartPart
  extract_lets t n x u
  clear_value t
  have placed : (u.part p).startPend = false ∧ (u.part p).climbing := by
    rw [State.setPart_get, if_pos rfl]
    refine ⟨rfl, ?_⟩
    unfold PartX.climbing
    dsimp only
    split
    · exact .inl rfl
    · exact .inr rfl
  obtain ⟨pend, climbing⟩ := placed
  split
  · exact (u.toPart_stays ..).pend.trans pend
  · have took := u.toPart_stays p .starting u.now
    exact (took.trans (State.goOn_stays (took.climbing climbing))).pend.trans pend


/-! ### The end of a margin keeps the timers idle (R237, R240) -/

theorem State.marginDrop_rests (s : State) (c : Nat) : Rests s (s.marginDrop c) := by
  refine .of_times (f := [.chans]) (State.marginDrop_but _ _ _ (by decide)) (by decide) ?_
  apply State.setChan_times
  rfl

theorem State.marginOff_rests (s : State) (c : Nat) : Rests s (s.marginOff c) := by
  have dropped := s.marginDrop_rests c
  refine .ite (fun _ => dropped.trans ?_) (fun _ => dropped)
  refine .of_one (f := [.caps, .chans, .entries, .regs, .trims]) (by apply State.toState_but <;> decide) (by decide)
    (.of_only (State.toState_only ..)) (.inr ?_)
  rw [State.toState_chan, if_pos rfl]

/-- A goal or a stop may end a sweep that waits for the next maintenance too. -/
def stopFlds : List Fld := .waitMaint :: calmFlds

theorem State.marginEnd_calm (s : State) (c reason p : Nat) : Calm stopFlds [p] s (s.marginEnd c reason) := by
  have same : Same [.caps, .chans, .entries, .regs, .trims] s (s.marginEnd c reason) := by apply State.marginEnd_but <;> decide
  exact .of_same same (by decide) (by decide) (s.marginEnd_objects c reason) (by simp)
    (.ite (fun _ => s.marginDrop_rests c) (fun _ => s.marginOff_rests c)) _

theorem State.sweepEnd_calm (s : State) (p reason : Nat) : Calm stopFlds [p] s (s.sweepEnd p reason) := by
  unfold State.sweepEnd
  extract_lets b t u x src v w
  have freedSame : Same [.waitMaint] s t := State.but_waitMaint _ _ _ (by decide)
  have freed : Calm stopFlds [p] s t := .of_same freedSame (by decide) (by decide) (.of_same freedSame (by decide) []) (by simp)
    (.of_same freedSame (by decide)) _
  have ended : Calm stopFlds [p] t u := .ite (fun _ => t.marginEnd_calm ..) (fun _ => .refl _ _ t)
  have marked : Climbs p u v := by apply State.setPart_climbs <;> rfl
  have toldSame : Same [.regs] v w := by simp [Same, w, ↓State.setReg_but]
  have told : Calm stopFlds [p] v w := .of_same toldSame (by decide) (by decide)
    (((v.setReg_objects (by decide) ..).trans (State.setReg_objects _ (by decide) ..)).trans (State.setReg_objects _ (by decide) ..))
    (b := [0x34E0]) (by simp) (.of_same toldSame (by decide)) _
  have raised : Climbs p w (w.raise (clOf b.chan + 1) 0x1D p false (two b.chan ++ [BitVec.ofNat 8 reason])) := State.raise_climbs ..
  have climbed : ∀ {a b : State}, Climbs p a b → Calm stopFlds [p] a b := fun h => (Calm.of_climbs h).mono (by decide) (by simp)
  exact .ite (fun _ => .refl _ _ s) (fun _ => (((freed.trans ended).trans (climbed marked)).trans told).trans (climbed raised))

theorem State.benchAbort_calm {s : State} (idle : s.Idle) (p reason : Nat) : Calm stopFlds [p] s (s.benchAbort p reason) :=
  have ended := s.sweepEnd_calm p reason
  ended.trans (.each (fun u _ c _ => u.marginEnd_calm c reason p) (ended.rests.allIdle idle))

/-! ### Stops (R155) -/

theorem State.sweepDown_state (s : State) (p : Nat) : ((s.sweepDown p).part p).state = .down := by
  unfold State.sweepDown
  extract_lets runs lost held off zeroed freed x left down halted
  have same : Same [.drives, .events, .regs] down halted := by apply State.drivesDown_but <;> decide
  rw [State.raise_get_part, same.get_part (by decide), (left.toPart_part p p .down left.now).1, if_pos rfl]

/-- A partition that is STOPPING, or DOWN. -/
def PartX.stops (x : PartX) : Prop := x.state = .stopping ∨ x.state = .down

theorem State.finalSweep_stops {s : State} (idle : s.Idle) {p : Nat} (line : (s.part p).line = false) : ((s.finalSweep p).part p).stops := by
  rw [State.finalSweep_idle idle, if_neg (by simp [line])]
  exact .inr (s.sweepDown_state p)

/-- A descent of a partition that is not shut off ends STOPPING or DOWN, while no timer is overdue. -/
theorem State.walk_stops (k : Nat) {s : State} (idle : s.Idle) {p : Nat} (line : (s.part p).line = false) (stopping : (s.part p).state = .stopping)
    (phase : (s.part p).phase = .descending) : ((s.walk k p).part p).stops := by
  induction k generalizing s with
  | zero => exact .inl stopping
  | succ k ih =>
    unfold State.walk
    extract_lets x n down placed low
    rw [show x.phase = .descending from phase]
    dsimp only
    split
    · split
      · exact State.finalSweep_stops idle line
      · rw [State.setPart_get, if_pos rfl]
        exact .inl stopping
    · obtain ⟨opened, state, keptPhase⟩ := s.openStep_climbs p x.position true
      split
      · next u e =>
        rw [e] at state
        exact .inl (state.trans stopping)
      · next u e =>
        rw [e] at opened state keptPhase
        have lower : Climbs p u (u.setPart p { u.part p with position := x.position - 1 }) := u.setPart_climbs p rfl rfl
        have all := (opened.trans lower).trans (State.stepTick_climbs _ p p)
        refine ih ((Calm.of_climbs all).rests.allIdle idle) (all.line.trans line) ?_ ?_
        · rw [State.setReg_get_part, State.setPart_get, if_pos rfl]
          exact state.trans stopping
        · rw [State.setReg_get_part, State.setPart_get, if_pos rfl]
          exact keptPhase.trans phase

theorem State.goOn_stops {s : State} (idle : s.Idle) {p : Nat} (line : (s.part p).line = false) (stopping : (s.part p).state = .stopping)
    (phase : (s.part p).phase = .descending) : ((s.goOn p).part p).stops := by
  unfold State.goOn
  split
  · exact .inl stopping
  · exact State.walk_stops _ idle line stopping phase

/-- What a descent begins with: the entry actions withdrawn, and the partition set to descend. -/
def State.descending (s : State) (p low : Nat) : State :=
  let s := s.withdraw p true
  let x := s.part p
  let entryStep := match x.step with
    | some st => !st.exit
    | none => false
  s.setPart p { x with
    phase := .descending, descendTo := some low,
    step := if entryStep then none else x.step,
    position := if x.exitDone then x.position - 1 else x.position,
    exitDone := false }

theorem State.descend_eq (s : State) (p low : Nat) : s.descend p low = (s.descending p low).goOn p := rfl

theorem State.descending_calm (s : State) (p low : Nat) : Calm calmFlds [p] s (s.descending p low) := by
  unfold State.descending
  extract_lets t x entryStep
  have freed : Calm calmFlds [p] s t := .of_same (s.withdraw_same p true) (by decide) (by decide)
    (.of_same (s.withdraw_same p true) (by decide) []) (by simp) (.of_same (s.withdraw_same p true) (by decide)) _
  exact freed.trans (.of_climbs (by apply State.setPart_climbs <;> rfl))

theorem State.descending_part (s : State) (p low : Nat) :
    ((s.descending p low).part p).state = (s.part p).state ∧ ((s.descending p low).part p).phase = .descending := by
  unfold State.descending
  extract_lets t x entryStep
  have kept : t.part p = s.part p := (s.withdraw_same p true).get_part (by decide) p
  rw [State.setPart_get, if_pos rfl]
  exact ⟨show (t.part p).state = _ by rw [kept], rfl⟩

theorem State.stopPart_eq {s : State} {p : Nat} (runs : (s.part p).state = .starting ∨ (s.part p).state = .up ∨ (s.part p).state = .stopping) :
    s.stopPart p = ((s.benchAbort p 5).toPart p .stopping (s.benchAbort p 5).now).descend p 0 := by
  rcases runs with state | state | state <;> simp only [State.stopPart, state]

/-- A STOP while no timer is overdue. -/
theorem State.stopPart_calm {s : State} (idle : s.Idle) {p : Nat}
    (runs : (s.part p).state = .starting ∨ (s.part p).state = .up ∨ (s.part p).state = .stopping) :
    Calm stopFlds [p] s (s.stopPart p) ∧ ((s.part p).line = false → ((s.stopPart p).part p).stops) := by
  rw [State.stopPart_eq runs, State.descend_eq]
  have aborted := State.benchAbort_calm idle p 5
  generalize s.benchAbort p 5 = t at aborted
  have stopped : Calm calmFlds [p] t (t.toPart p .stopping t.now) := .of_climbs (t.toPart_climbs ..)
  have state : ((t.toPart p .stopping t.now).part p).state = .stopping := by
    rw [(t.toPart_part p p .stopping t.now).1, if_pos rfl]
  generalize t.toPart p .stopping t.now = u at stopped state
  have begun : Calm stopFlds [p] s (u.descending p 0) := aborted.trans ((stopped.trans (u.descending_calm p 0)).mono (by decide) (by simp))
  have still := begun.rests.allIdle idle
  obtain ⟨kept, phase⟩ := u.descending_part p 0
  exact ⟨begun.trans ((State.goOn_calm still p).mono (by decide) (by simp)),
    fun line => State.goOn_stops still ((begun.lines p).trans line) (kept.trans state) phase⟩

/-! ### A write of a goal (R137) -/

/-- How a member follows a write v of the goal of group n. -/
def State.goalFollow (s : State) (n v p : Nat) : State :=
  let x := s.part p
  if x.state = .down ∧ 0 < v ∧ s.fltHeld p then s.memberWaits p
  else
    let s :=
      if x.state = .down ∧ 0 < v then s.toPart p .starting s.now
      else if x.state = .up ∧ s.grpState n < v then s.toPart p .starting s.now
      else if (x.state = .starting ∨ x.state = .up) ∧ v < x.position then (s.benchAbort p 5).toPart p .stopping s.now
      else s
    s.goOn p

theorem State.goalWrite_eq (s : State) (n v : Nat) : s.goalWrite n v =
    (s.setReg (grpGoal n) v).each ((s.groupParts n).filter (fun p => s.member p)) (fun u p => u.goalFollow n v p) := rfl

theorem State.memberWaits_climbs (s : State) (p : Nat) : Climbs p s (s.memberWaits p) :=
  (s.setPart_climbs p (x := { s.part p with startPend := true, phase := .notMember }) rfl rfl).trans (State.raise_climbs ..)

theorem State.goalFollow_calm {s : State} (idle : s.Idle) (n v p : Nat) : Calm stopFlds [p] s (s.goalFollow n v p) := by
  have climbed : ∀ {a b : State}, Climbs p a b → Calm stopFlds [p] a b := fun h => (Calm.of_climbs h).mono (by decide) (by simp)
  unfold State.goalFollow
  extract_lets x t
  have aborted := State.benchAbort_calm idle p 5
  have moved : Calm stopFlds [p] s t := .ite (fun _ => climbed (s.toPart_climbs ..)) (fun _ => .ite (fun _ => climbed (s.toPart_climbs ..))
    (fun _ => .ite (fun _ => aborted.trans (climbed (State.toPart_climbs ..))) (fun _ => .refl _ _ s)))
  exact .ite (fun _ => climbed (s.memberWaits_climbs p))
    (fun _ => moved.trans ((State.goOn_calm (moved.rests.allIdle idle) p).mono (by decide) (by simp)))

theorem State.goalFollow_seqKept (s : State) (n v p : Nat) : SeqKept s (s.goalFollow n v p) := by
  unfold State.goalFollow
  extract_lets x t
  have moved : SeqKept s t := .ite (s.toPart_seqKept ..) (.ite (s.toPart_seqKept ..)
    (.ite ((s.benchAbort_seqKept p 5).trans (State.toPart_seqKept ..)) (.refl s)))
  exact .ite ((s.setPart_seqKept ..).trans (State.raise_seqKept ..)) (moved.trans (t.goOn_seqKept p))

theorem State.goalWrite_goal (s : State) (n v : Nat) : (s.goalWrite n v).goalOf n = v := by
  rw [State.goalWrite_eq, (SeqKept.each (fun u p => u.goalFollow_seqKept n v p) _ _).goalOf]
  exact State.setReg_reg_same ..

theorem State.goalWrite_calm {s : State} (idle : s.Idle) (n v : Nat) :
    Calm stopFlds (s.groupParts n) (s.setReg (grpGoal n) v) (s.goalWrite n v) := by
  have set : Same [.regs] s (s.setReg (grpGoal n) v) := State.setReg_but _ _ _ _ (by decide)
  rw [State.goalWrite_eq]
  exact .each (fun u quiet p hp => (State.goalFollow_calm quiet n v p).mono (fun _ h => h) (by simpa using List.mem_of_mem_filter hp))
    ((Rests.of_same set (by decide)).allIdle idle)


/-! ### GOAL, START, STOP and the end of a hold (R137, R138, R155, R160) -/

/-- A change between two states, answered and counted. -/
theorem State.answered_part (s : State) (st : Nat) (r : Role) (p : Nat) : ((s.answer st).countItem r).part p = s.part p :=
  (s.answered_same st r).get_part (by decide) p

theorem State.answered_status (s : State) (st : Nat) (r : Role) : ((s.answer st).countItem r).status = st :=
  State.countItem_status ..

theorem exec_goal_owner {n : Fin 4} {v : Byte} {s : State} (serves : s.serves = true) (value : v.toNat ≠ 255) (free : s.switchChecks = false) :
    exec (.goal .owner n v) s = .next (((s.goalWrite n v.toNat).answer 0).countItem .owner) := by
  have valid : (v != 255) = true := bne_iff_ne.mpr (fun e => value (by rw [e]; rfl))
  refine congrArg ok ((State.item_run s .owner _ _ _ serves nofun rfl valid).trans ?_)
  exact congrArg (State.countItem · .owner) (if_neg (by simp [free]))

theorem exec_goal_255 {n : Fin 4} {s : State} (serves : s.serves = true) :
    exec (.goal .owner n 255) s = .next ((s.answer 0x0301).countItem .owner) :=
  congrArg ok (State.item_badValue s .owner _ serves nofun)

theorem exec_goal_noRight {n : Fin 4} {p : Fin 16} {v : Byte} {s : State} (hears : s.hears (.partition p)) :
    exec (.goal (.partition p) n v) s = .next ((s.answer 0x0201).countItem (.partition p)) :=
  congrArg ok (State.item_noRight s (.partition p) _ _ hears.1 hears.2)

section
variable {r : Role} {p : Fin 16} {s : State} (hears : s.hears r) (right : ownerOr r p = true)
include hears right

theorem exec_start : exec (.start r p 1) s = .next ((s.startWrite p).countItem r) :=
  congrArg ok (State.item_run s r _ _ _ hears.1 hears.2 right rfl)

theorem exec_stop : exec (.stop r p 1) s = .next ((s.stopWrite p).countItem r) :=
  congrArg ok (State.item_run s r _ _ _ hears.1 hears.2 right rfl)
end

section
variable {p : Fin 16} {s : State}

theorem State.startWrite_refused (committed : s.committed = true) (free : s.switchChecks = false) (off : (s.part p).state.isFaulted = true) :
    s.startWrite p = s.answer 0x0504 := by
  unfold State.startWrite
  rw [if_neg (by simp [committed]), if_neg (by simp [free])]
  cases state : (s.part p).state <;> simp_all [PartState.isFaulted]

theorem State.startWrite_down (committed : s.committed = true) (free : s.switchChecks = false) (down : (s.part p).state = .down)
    (out : s.member p = false) : s.startWrite p = (s.startOrWait p).answer 0 := by
  unfold State.startWrite
  rw [if_neg (by simp [committed]), if_neg (by simp [free]), down]
  dsimp only
  rw [if_neg (by simp [out])]

theorem State.stopWrite_runs (runs : (s.part p).state = .starting ∨ (s.part p).state = .up ∨ (s.part p).state = .stopping) :
    s.stopWrite p = (s.stopPart p).answer 0 := by
  refine if_neg ?_
  rcases runs with state | state | state <;> simp [state, PartState.isFaulted]

theorem State.stopWrite_down (down : (s.part p).state = .down) :
    s.stopWrite p = (s.setPart p { s.part p with startPend := false, phase := .notMember, position := 0 }).answer 0 := by
  have stopped : s.stopPart p = s.setPart p { s.part p with startPend := false, phase := .notMember, position := 0 } := by
    simp only [State.stopPart, down]
  unfold State.stopWrite
  rw [if_neg (by simp [down, PartState.isFaulted]), stopped]

section
variable (pend : (s.part p).startPend = true)
include pend

theorem exec_release_start (on : (s.part p).state.isFaulted = false) :
    exec (.startPendingRelease p) s = .next (if s.startHeld p then s else s.join p) := by
  change execStartPendingRelease p s = _
  unfold execStartPendingRelease
  rw [if_neg (by simp [pend]), if_neg (by simp [on])]
  split <;> rfl

theorem exec_release_restart (off : (s.part p).state.isFaulted = true) :
    exec (.startPendingRelease p) s = .next (if s.restartWaits p then s else s.restartPart p) := by
  change execStartPendingRelease p s = _
  unfold execStartPendingRelease
  rw [if_neg (by simp [pend]), if_pos off]
  split <;> rfl
end
end

/-- While no timer is overdue, a write of a goal leaves the groups' states, the other goals, the lines, and the partitions of the other groups. -/
theorem State.goalWrite_leaves {s : State} (idle : s.Idle) (n : Fin 4) (v : Nat) :
    Same stopFlds s (s.goalWrite n v) ∧
    (∀ m < 4, (s.goalWrite n v).grpState m = s.grpState m ∧ (m ≠ n.val → (s.goalWrite n v).goalOf m = s.goalOf m)) ∧
    (∀ p, ((s.goalWrite n v).part p).line = (s.part p).line) ∧ ∀ p, p ∉ s.groupParts n → (s.goalWrite n v).part p = s.part p := by
  have calm := State.goalWrite_calm idle n v
  have set : Same [.regs] s (s.setReg (grpGoal n) v) := State.setReg_but _ _ _ _ (by decide)
  refine ⟨(set.mono (by decide)).trans calm.same, fun m small => ⟨?_, fun other => ?_⟩, calm.lines, calm.others⟩
  · exact (calm.objects.at (by decide) m 1).trans (State.setReg_reg_ne _ _ _ _ (by simp))
  · exact (calm.objects.at (by decide) m 2).trans (State.setReg_reg_ne _ _ _ _ (by simp; omega))

theorem State.answered_grp (s : State) (st : Nat) (r : Role) (n : Nat) :
    ((s.answer st).countItem r).grpState n = s.grpState n ∧ ((s.answer st).countItem r).goalOf n = s.goalOf n :=
  ⟨s.answered_group st r n (by decide), s.answered_group st r n (by decide)⟩

theorem Restarted.state {p : Nat} {s t : State} (h : Restarted p s t) :
    (t.part p).state = .starting ∨ (t.part p).state = .up ∨ (t.part p).state = .stopping ∨ (t.part p).state = .down := by
  rcases Nat.lt_or_ge (s.goalOf (s.groupOf p)) (s.grpState (s.groupOf p)) with above | le
  · rcases h.above above with state | state <;> simp [state]
  · rcases Nat.eq_zero_or_pos (s.goalOf (s.groupOf p)) with zero | up
    · simp [h.down ⟨Nat.le_zero.mp (zero ▸ le), zero⟩]
    · rcases h.toGoal le up with state | state <;> simp [state]

/-- Settles O22: a goal moves its members by `State.goalFollow`, a start by `State.join_joins`, a stop by `State.stopPart_calm`, a restart that waited
by `State.restartPart_restarted`. -/
theorem goalStartAndStopMoveMembers : Obligations.GoalStartAndStopMoveMembers := by
  unfold Obligations.GoalStartAndStopMoveMembers
  refine ⟨fun n v s serves value free => ⟨_, exec_goal_owner serves value free, ?_⟩,
    fun n s serves => ⟨_, exec_goal_255 serves, .of_refused .owner _⟩,
    fun n p v s serves defined => ⟨_, exec_goal_noRight ⟨serves, fun q e => by cases e; exact defined⟩, .of_refused _ _⟩,
    fun r p s hears right committed free down out =>
      ⟨fun held => ⟨_, exec_start hears right, ?_⟩, fun held fresh => ⟨_, exec_start hears right, ?_⟩⟩,
    fun r p s hears right committed => ⟨_, exec_start hears right, ?_⟩,
    fun r p s hears right off => ⟨⟨_, exec_stop hears right, ?_⟩, fun committed free => ⟨_, exec_start hears right, ?_⟩⟩,
    fun r p s hears right runs => ⟨_, exec_stop hears right, ?_⟩, fun r p s hears right down => ⟨_, exec_stop hears right, ?_⟩,
    fun p s pend => ⟨fun on held => ⟨_, exec_release_start pend on, ?_⟩, fun off free => ⟨_, exec_release_restart pend off, ?_⟩,
      fun off waits => (exec_release_restart pend off).trans (congrArg _ (if_pos waits)),
      fun on held => (exec_release_start pend on).trans (congrArg _ (if_pos held))⟩⟩
  · have written : Same sweepFlds s (s.goalWrite n v.toNat) := by apply State.goalWrite_but <;> decide
    have answered := (s.goalWrite n v.toNat).answered_same 0 .owner
    refine ⟨(written.mono (by decide)).trans (answered.mono (by decide)), State.answered_status .., ?_, fun idle => ?_⟩
    · rw [(State.answered_grp ..).2]
      exact s.goalWrite_goal n _
    · obtain ⟨same, groups, lines, others⟩ := State.goalWrite_leaves idle n v.toNat
      simp only [State.answered_grp, State.answered_part]
      exact ⟨(same.mono (by decide)).trans (answered.mono (by decide)), groups, lines, others⟩
  · rw [State.startWrite_down committed free down out, show s.startOrWait p = s.join p from if_neg (by simp [held])]
    obtain ⟨climbs, climbing, -, toGoal, above, rest⟩ := s.join_joins p
    have member : ((s.join p).answer 0 |>.countItem r).member p = true := by
      apply PartX.climbing.member
      rwa [State.answered_part]
    simp only [AllBut, State.answered_part]
    exact ⟨(climbs.same.mono (by decide)).trans (((s.join p).answered_same 0 r).mono (by decide)), climbs.others, State.answered_status .., member,
      climbs.line, toGoal, above, fun grp0 goal0 => (rest grp0 goal0).trans down⟩
  · rw [State.startWrite_down committed free down out, show s.startOrWait p = _ from (if_pos held).trans (if_neg (by simp [fresh]))]
    have set : Same [.parts] s (s.setPart p { s.part p with startPend := true }) := State.setPart_but _ _ _ _ (by decide)
    have regs : RegsBut s (s.setPart p { s.part p with startPend := true }) [evEventsLost] := .of_regs (.refl s _) (set.regs (by decide))
    refine ⟨.of ?_ (.of_regs ((regs.raise (by simp)).mono (by simp)) rfl) rfl, fun q other => ?_, ?_, fun enters => ?_⟩
    · exact .trans (set.mono (by decide)) (.trans ((State.raise_same ..).mono (by decide)) (by apply State.answer_but <;> decide))
    · rw [State.answered_part, State.raise_get_part, State.setPart_get, if_neg (by simpa using other)]
    · rw [State.answered_part, State.raise_get_part, State.setPart_get, if_pos rfl]
    · exact recorded_of_same (State.answered_same ..) (by decide) (by decide) (by decide)
        (State.raise_recorded _ _ _ _ _ _ (set.enters (by decide) (by decide) enters))
  · rw [show s.startWrite p = s.answer 0x050B from if_pos (by simp [committed])]
    exact .of_refused r _
  · rw [show s.stopWrite p = s.answer 0x0504 from if_pos off]
    exact .of_refused r _
  · rw [State.startWrite_refused committed free off]
    exact .of_refused r _
  · rw [State.stopWrite_runs runs]
    have stopped : Same sweepFlds s (s.stopPart p) := by apply State.stopPart_but <;> decide
    have answered := (s.stopPart p).answered_same 0 r
    simp only [AllBut, State.answered_part]
    refine ⟨(stopped.mono (by decide)).trans (answered.mono (by decide)), State.answered_status .., fun idle => ?_⟩
    obtain ⟨calm, stops⟩ := State.stopPart_calm idle runs
    exact ⟨(calm.same.mono (by decide)).trans (answered.mono (by decide)), calm.others, calm.lines p, stops⟩
  · rw [State.stopWrite_down down]
    refine ⟨.of ?_ (.of_regs (.refl s _) rfl) rfl, fun q other => ?_, ?_⟩
    · exact .trans (State.setPart_but _ _ _ _ (by decide)) (by apply State.answer_but <;> decide)
    · rw [State.answered_part, State.setPart_get, if_neg (by simpa using other)]
    · rw [State.answered_part, State.setPart_get, if_pos rfl]
  · rw [if_neg (by simp [held])]
    obtain ⟨climbs, climbing, ended, -, -, -⟩ := s.join_joins p
    exact ⟨climbs.same.mono (by decide), climbs.others, climbing.member, climbs.line, ended⟩
  · rw [if_neg (by simp [free])]
    have restarted := s.restartPart_restarted p
    refine ⟨restarted.same.mono (by decide), restarted.others, restarted.line, s.restartPart_pend p, ?_⟩
    exact restarted.state

end Sys2Proof.Machine

namespace Sys2Proof.Machine

/-! ### The actions on record (R145) -/

@[simp] theorem State.setAction_action_same (s : State) (e : Nat) (x : ActX) : (s.setAction e x).action e = some x :=
  tabFind_insert_self _ _ _ (tabFind_erase_self _ _)

@[simp] theorem State.setAction_action_ne (s : State) {e j : Nat} (x : ActX) (h : j ≠ e) : (s.setAction e x).action j = s.action j :=
  (tabFind_insert_ne _ _ h).trans (tabFind_erase_ne _ h)

@[simp] theorem State.dropAction_action_same (s : State) (e : Nat) : (s.dropAction e).action e = none := tabFind_erase_self _ _

@[simp] theorem State.dropAction_action_ne (s : State) {e j : Nat} (h : j ≠ e) : (s.dropAction e).action j = s.action j := tabFind_erase_ne _ h

theorem State.setAction_same (s : State) (e : Nat) (x : ActX) : Same [.actions] s (s.setAction e x) := State.setAction_but _ _ _ _ (by decide)

theorem State.dropAction_same (s : State) (e : Nat) : Same [.actions] s (s.dropAction e) := State.dropAction_but _ _ _ (by decide)

/-! ### The end of a step (R143) -/

/-- A step that ends notes its tick, and the sequence goes on from there. -/
theorem State.stepDone_after {s : State} {p : Nat} {st : SeqStep} (step : (s.part p).step = some st) :
    SeqKept (s.setReg (seqsLastStepTick p) s.now) (s.stepDone p) := by
  unfold State.stepDone
  extract_lets x ticked
  rw [show x.step = some st from step]
  exact .trans (.ite (.ite (State.setPart_seqKept ..) (State.setPart_seqKept ..)) (State.setPart_seqKept ..)) (State.goOn_seqKept ..)

theorem State.stepDone_none {s : State} {p : Nat} (step : (s.part p).step = none) : s.stepDone p = s := by simp only [State.stepDone, step]

theorem State.stepDone_seqKept (s : State) (p : Nat) : SeqKept s (s.stepDone p) := by
  cases step : (s.part p).step with
  | none =>
    rw [State.stepDone_none step]
    exact .refl s
  | some st => exact (s.stepTick_seqKept p).trans (State.stepDone_after step)

theorem State.orderAdvance_seqKept (s : State) (p e : Nat) : SeqKept s (s.orderAdvance p e) := by
  unfold State.orderAdvance
  extract_lets x
  split
  · exact .refl s
  · refine .ite ?_ (s.setPart_seqKept ..)
    split
    · exact s.setPart_seqKept ..
    · exact (s.setPart_seqKept ..).trans (State.stepDone_seqKept ..)

theorem State.dropAction_seqKept (s : State) (e : Nat) : SeqKept s (s.dropAction e) := by
  refine ⟨rfl, fun j none => ?_, fun _ _ => .inl rfl⟩
  by_cases h : j = e
  · subst j
    exact s.dropAction_action_same e
  · rwa [State.dropAction_action_ne s h]

theorem State.finish_seqKept (s : State) (p e : Nat) : SeqKept s (s.finish p e) :=
  (s.dropAction_seqKept e).trans (State.orderAdvance_seqKept ..)

/-- An action that ends holds no slot any more. -/
theorem State.finish_action (s : State) (p e : Nat) : (s.finish p e).action e = none :=
  (State.orderAdvance_seqKept ..).actions e (s.dropAction_action_same e)

/-- The entries of a step and their order are those of the bank in force. -/
theorem stepEntries_of_act {s t : State} (h : t.act = s.act) (p st : Nat) (exit : Bool) : t.stepEntries p st exit = s.stepEntries p st exit := by
  simp only [State.stepEntries, State.rangeOf, h]

theorem orderEntries_of_act {s t : State} (h : t.act = s.act) (p : Nat) (x : SeqStep) : t.orderEntries p x = s.orderEntries p x := by
  simp only [State.orderEntries, stepEntries_of_act h, h]

theorem nextOrder_of_act {s t : State} (h : t.act = s.act) (es : List Nat) (lo : Nat) : t.nextOrder es lo = s.nextOrder es lo := by
  simp only [State.nextOrder, h]

theorem stepEnds_of_act {s t : State} (h : t.act = s.act) {p : Nat} (part : t.part p = s.part p) (e : Nat) : t.stepEnds p e ↔ s.stepEnds p e := by
  simp only [State.stepEnds, part, orderEntries_of_act h, stepEntries_of_act h, nextOrder_of_act h]

section
variable {s : State} {p e : Nat}

theorem State.orderAdvance_none (step : (s.part p).step = none) : s.orderAdvance p e = s := by simp only [State.orderAdvance, step]

section
variable {st : SeqStep} (step : (s.part p).step = some st)
include step

/-- Other actions of the ORDER group are under way. -/
theorem State.orderAdvance_open (more : ∃ j ∈ s.orderEntries p st, j ≠ e ∧ j ∉ st.done) :
    s.orderAdvance p e = s.setPart p { s.part p with step := some { st with done := e :: st.done } } := by
  obtain ⟨j, mem, ne, out⟩ := more
  simp only [State.orderAdvance, step]
  refine if_neg (fun all => ?_)
  have done := List.all_eq_true.mp all j mem
  simp [ne, out] at done

/-- The action was the last one of its ORDER group, and another group follows. -/
theorem State.orderAdvance_next (all : ∀ j ∈ s.orderEntries p st, j = e ∨ j ∈ st.done) {o : Nat}
    (next : s.nextOrder (s.stepEntries p st.st st.exit) (st.order + 1) = some o) :
    s.orderAdvance p e = s.setPart p { s.part p with step := some { st with order := o, done := [] } } := by
  simp only [State.orderAdvance, step, next]
  exact if_pos (List.all_eq_true.mpr (fun j mem => by simpa using all j mem))

/-- The action was the last one of its step. -/
theorem State.orderAdvance_ends (all : ∀ j ∈ s.orderEntries p st, j = e ∨ j ∈ st.done)
    (next : s.nextOrder (s.stepEntries p st.st st.exit) (st.order + 1) = none) :
    s.orderAdvance p e = (s.setPart p { s.part p with step := some { st with done := e :: st.done } }).stepDone p := by
  simp only [State.orderAdvance, step, next]
  exact if_pos (List.all_eq_true.mpr (fun j mem => by simpa using all j mem))
end

/-- An action that does not end its step, for the partition's step. -/
theorem State.orderAdvance_stays (on : ¬ s.stepEnds p e) :
    ((s.part p).step = none → s.orderAdvance p e = s) ∧ Same [.parts] s (s.orderAdvance p e) ∧ AllBut s.part (s.orderAdvance p e).part [p] ∧
    ∀ st, (s.part p).step = some st →
      ((∃ j ∈ s.orderEntries p st, j ≠ e ∧ j ∉ st.done) →
        (s.orderAdvance p e).part p = { s.part p with step := some { st with done := e :: st.done } }) ∧
      ((∀ j ∈ s.orderEntries p st, j = e ∨ j ∈ st.done) → ∀ o, s.nextOrder (s.stepEntries p st.st st.exit) (st.order + 1) = some o →
        (s.orderAdvance p e).part p = { s.part p with step := some { st with order := o, done := [] } }) := by
  have placed : ∀ x, Same [.parts] s (s.setPart p x) ∧ AllBut s.part (s.setPart p x).part [p] ∧ (s.setPart p x).part p = x := fun x =>
    ⟨State.setPart_but _ _ _ _ (by decide), fun q other => (State.setPart_get ..).trans (if_neg (by simpa using other)),
      (State.setPart_get ..).trans (if_pos rfl)⟩
  cases step : (s.part p).step with
  | none =>
    rw [State.orderAdvance_none step]
    exact ⟨fun _ => rfl, .refl _ s, fun _ _ => rfl, nofun⟩
  | some st =>
    refine ⟨nofun, ?_⟩
    by_cases all : ∀ j ∈ s.orderEntries p st, j = e ∨ j ∈ st.done
    · cases next : s.nextOrder (s.stepEntries p st.st st.exit) (st.order + 1) with
      | none => exact absurd ⟨st, step, all, next⟩ on
      | some o =>
        rw [State.orderAdvance_next step all next]
        obtain ⟨same, others, own⟩ := placed { s.part p with step := some { st with order := o, done := [] } }
        refine ⟨same, others, fun st' same' => ?_⟩
        cases same'
        refine ⟨fun ⟨j, mem, ne, out⟩ => ?_, fun _ o' same' => ?_⟩
        · exact ((all j mem).elim ne out).elim
        · rw [next] at same'
          cases same'
          exact own
    · have more : ∃ j ∈ s.orderEntries p st, j ≠ e ∧ j ∉ st.done := by
        push Not at all
        exact all
      rw [State.orderAdvance_open step more]
      obtain ⟨same, others, own⟩ := placed { s.part p with step := some { st with done := e :: st.done } }
      refine ⟨same, others, fun st' same' => ?_⟩
      cases same'
      exact ⟨fun _ => own, fun all' => absurd all' all⟩

theorem State.orderAdvance_tick (ends : s.stepEnds p e) : (s.orderAdvance p e).reg (seqsLastStepTick p) = s.now := by
  obtain ⟨st, step, all, next⟩ := ends
  rw [State.orderAdvance_ends step all next]
  have own : ((s.setPart p { s.part p with step := some { st with done := e :: st.done } }).part p).step =
      some { st with done := e :: st.done } := by
    rw [State.setPart_get, if_pos rfl]
  exact (State.stepDone_after own).lastStep (State.setReg_reg_same ..)
end

/-- The end of an action after an operation that leaves the partitions, the bank in force and the time as they are. -/
theorem ActionEnds.of {f l : List Fld} {ks : List Nat} {s u : State} {p e : Nat} (same : Same f s u) (hf : ∀ x ∈ f, x ∈ .actions :: l)
    (hl : ∀ x ∈ l, x ∈ sweepFlds ∧ x ≠ .parts) (regs : RegsBut s u ks) (others : ∀ j, j ≠ e → u.action j = s.action j) :
    ActionEnds s (u.finish p e) p e l ks := by
  have wider : ∀ x ∈ f, x ∈ sweepFlds := fun x hx => (List.mem_cons.mp (hf x hx)).elim (fun h => h ▸ by decide) (fun h => (hl x h).1)
  have out : ∀ x, x ∉ sweepFlds → x ∉ f := fun x hx mem => hx (wider x mem)
  have noParts : Fld.parts ∉ f := fun mem => (List.mem_cons.mp (hf _ mem)).elim nofun (fun h => (hl _ h).2 rfl)
  have dropped : Same (.actions :: l) s (u.dropAction e) := (same.mono hf).trans ((u.dropAction_same e).mono (by simp))
  have narrow : ∀ x ∈ .actions :: l, x ∈ [.actions, .parts] ++ l := fun x hx =>
    (List.mem_cons.mp hx).elim (fun h => h ▸ by simp) (List.mem_append_right _)
  have act : (u.dropAction e).act = s.act := funext (fun i => (same.get_act (out _ (by decide)) i))
  have part : ∀ q, (u.dropAction e).part q = s.part q := fun q => same.get_part noParts q
  refine ⟨u.finish_action p e, fun on => ?_, fun ends => ⟨?_, ?_⟩⟩
  · have on' := (stepEnds_of_act act (part p) e).not.mpr on
    obtain ⟨rests, placed, alone, steps⟩ := State.orderAdvance_stays on'
    simp only [part, orderEntries_of_act act, stepEntries_of_act act, nextOrder_of_act act] at rests steps
    refine ⟨(dropped.mono narrow).trans (placed.mono (by simp)), ?_, fun j other => ?_, fun q other => (alone q other).trans (part q),
      fun none => ?_, steps⟩
    · have kept : RegsBut s (u.dropAction e) ks := .of_regs regs rfl
      exact kept.then_same (u := (u.dropAction e).orderAdvance p e) placed (by decide)
    · exact (placed.get_action (by decide) j).trans ((u.dropAction_action_ne other).trans (others j other))
    · exact (congrArg (State.part · p) (rests none)).trans (part p)
  · exact (same.mono wider).trans (by apply State.finish_but <;> decide)
  · refine (State.orderAdvance_tick ((stepEnds_of_act act (part p) e).mpr ends)).trans ?_
    exact same.now (out _ (by decide))


/-! ### SKIPPED and FLAGGED (R141, R144) -/

/-- Unless its step ends, the end of an action changes the actions and the partitions only. -/
theorem State.finish_frame {s : State} {p e : Nat} (on : ¬ s.stepEnds p e) : Same [.actions, .parts] s (s.finish p e) := by
  obtain ⟨-, stays, -⟩ : ActionEnds s (s.finish p e) p e [] [] := .of (.refl [] s) (by simp) (by simp) (.refl s _) (fun _ _ => rfl)
  exact (stays on).1

/-- The outcome of an action that is not DONE: counted, and told by EV 0x41. -/
def State.told (s : State) (p e k : Nat) (reason : Byte) : State := (s.bump16 k).raise (s.homeDom p) 0x41 p false (two e ++ [reason])

theorem State.skipped_eq (s : State) (p e : Nat) : s.skipped p e = (s.told p e (seqsSkippedCount p) 5).finish p e := rfl

theorem State.flagged_eq (s : State) (p e r : Nat) : s.flagged p e r =
    (if r = 0 then s.bump16 (seqsFlaggedCount p) else s.told p e (seqsFlaggedCount p) (BitVec.ofNat 8 r)).finish p e := rfl

theorem State.finish_count (s : State) (p e : Nat) {x : Nat} (hx : x % 256 ≠ 0x0D) : (s.finish p e).reg (rk 0x2840 p x) = s.reg (rk 0x2840 p x) :=
  (s.finish_seqKept p e).count p hx

section
variable (s : State) (p e : Nat) {x : Nat} (hx : x % 256 ≠ 0x0D)
include hx

theorem State.bump16_ends : ActionEnds s ((s.bump16 (rk 0x2840 p x)).finish p e) p e [.events, .regs] [rk 0x2840 p x, evEventsLost] ∧
    ((s.bump16 (rk 0x2840 p x)).finish p e).reg (rk 0x2840 p x) = sat16 (s.reg (rk 0x2840 p x)) := by
  have same : Same [.regs] s (s.bump16 (rk 0x2840 p x)) := State.bump16_but _ _ _ (by decide)
  exact ⟨.of same (by simp) (by decide) (.bump16 (.refl s _) (by simp)) (fun _ _ => rfl), (State.finish_count _ p e hx).trans (by simp)⟩

theorem State.told_ends (reason : Byte) :
    ActionEnds s ((s.told p e (rk 0x2840 p x) reason).finish p e) p e [.events, .regs] [rk 0x2840 p x, evEventsLost] ∧
    ((s.told p e (rk 0x2840 p x) reason).finish p e).reg (rk 0x2840 p x) = sat16 (s.reg (rk 0x2840 p x)) ∧
    (¬ s.stepEnds p e → s.enters (s.homeDom p) →
      ((s.told p e (rk 0x2840 p x) reason).finish p e).recorded (s.homeDom p) 0x41 p false (two e ++ [reason])) := by
  have counted : Same [.regs] s (s.bump16 (rk 0x2840 p x)) := State.bump16_but _ _ _ (by decide)
  have same : Same [.events, .regs] s (s.told p e (rk 0x2840 p x) reason) := (counted.mono (by decide)).trans (State.raise_same ..)
  refine ⟨.of same (by simp) (by decide) (.raise (.bump16 (.refl s _) (by simp)) (by simp)) (fun j _ => same.get_action (by decide) j), ?_,
    fun on enters => ?_⟩
  · rw [State.finish_count _ p e hx]
    refine (State.raise_reg_ne _ _ _ _ _ _ _ ?_).trans (State.setReg_reg_same ..)
    simp
  · have on' := (stepEnds_of_act (funext (same.get_act (by decide))) (same.get_part (by decide) p) e).not.mpr on
    exact recorded_of_same (State.finish_frame on') (by decide) (by decide) (by decide)
      (State.raise_recorded _ _ _ _ _ _ (counted.enters (by decide) (by decide) enters))
end

/-- An action that is FLAGGED for a reason; one of its own event (0) has none here. -/
theorem State.flagged_ends (s : State) (p e r : Nat) :
    ActionEnds s (s.flagged p e r) p e [.events, .regs] [seqsFlaggedCount p, evEventsLost] ∧
    (s.flagged p e r).reg (seqsFlaggedCount p) = sat16 (s.reg (seqsFlaggedCount p)) ∧
    (r ≠ 0 → ¬ s.stepEnds p e → s.enters (s.homeDom p) →
      (s.flagged p e r).recorded (s.homeDom p) 0x41 p false (two e ++ [BitVec.ofNat 8 r])) := by
  rw [State.flagged_eq]
  split
  · next zero =>
    obtain ⟨ends, count⟩ := s.bump16_ends p e (x := 0x0A) (by decide)
    exact ⟨ends, count, fun other => absurd zero other⟩
  · obtain ⟨ends, count, told⟩ := s.told_ends p e (x := 0x0A) (by decide) (BitVec.ofNat 8 r)
    exact ⟨ends, count, fun _ => told⟩

/-! ### Outcomes and limits (R141) -/

section
variable {e : Fin 4096} {a : ActX} {s : State}

theorem exec_actionComplete_none (none : s.action e = none) : exec (.actionComplete e) s = .next s := by
  change execActionComplete e s = _
  simp only [execActionComplete, none]
  rfl

theorem exec_actionTimeout_none (none : s.action e = none) : exec (.actionTimeout e) s = .next s := by
  change execActionTimeout e s = _
  simp only [execActionTimeout, none]
  rfl

variable (act : s.action e = some a)
include act

theorem exec_actionComplete_fresh (fresh : a.issued = false) : exec (.actionComplete e) s = .next s := by
  change execActionComplete e s = _
  simp only [execActionComplete, act]
  exact if_pos fresh

theorem exec_actionComplete_open (issued : a.issued = true) (open_ : s.reached a = none) : exec (.actionComplete e) s = .next s := by
  change execActionComplete e s = _
  simp only [execActionComplete, act, open_]
  rw [if_neg (by simp [issued])]
  rfl

theorem exec_actionComplete_done (issued : a.issued = true) (done : s.reached a = some none) : exec (.actionComplete e) s =
    .next ((if aeType a.entry = 9 then s.orderEn (aeTarget a.entry) false else s).finish a.part e) := by
  change execActionComplete e s = _
  simp only [execActionComplete, act, done]
  rw [if_neg (by simp [issued])]
  rfl

theorem exec_actionComplete_flagged {r : Nat} (issued : a.issued = true) (flag : s.reached a = some (some r)) :
    exec (.actionComplete e) s = .next (s.flagged a.part e r) := by
  change execActionComplete e s = _
  simp only [execActionComplete, act, flag]
  rw [if_neg (by simp [issued])]
  rfl

theorem exec_actionTimeout_noLimit (none : s.limitOf a = none) : exec (.actionTimeout e) s = .next s := by
  change execActionTimeout e s = _
  simp only [execActionTimeout, act, none]
  rfl

theorem exec_actionTimeout_limit {k r : Nat} (limit : s.limitOf a = some (k, r)) : exec (.actionTimeout e) s =
    .next (if a.issued ∧ s.passed a.issuedAt k ∧ (s.reached a).isNone then s.flagged a.part e r else s) := by
  change execActionTimeout e s = _
  simp only [execActionTimeout, act, limit]
  split <;> rfl

/-- The limit of an action has not come, or its outcome came first. -/
theorem exec_actionTimeout_early (early : a.issued = false ∨ s.limitOf a = none ∨ s.reached a ≠ none ∨
    ∃ k r, s.limitOf a = some (k, r) ∧ s.now < a.issuedAt + k) : exec (.actionTimeout e) s = .next s := by
  cases limit : s.limitOf a with
  | none => exact exec_actionTimeout_noLimit act limit
  | some kr =>
    obtain ⟨k, r⟩ := kr
    rw [exec_actionTimeout_limit act limit, if_neg]
    rintro ⟨issued, past, open_⟩
    rcases early with fresh | none | reached | ⟨k', r', limit', before⟩
    · simp [fresh] at issued
    · simp [limit] at none
    · exact reached (Option.isNone_iff_eq_none.mp open_)
    · rw [limit] at limit'
      cases limit'
      exact absurd (of_decide_eq_true past) before.not_ge
end

/-- Every limit has a reason. -/
theorem State.limitOf_reason {s : State} {a : ActX} {k r : Nat} (limit : s.limitOf a = some (k, r)) : r ≠ 0 := by
  unfold State.limitOf at limit
  extract_lets w ms at limit
  split at limit <;> cases limit <;> decide

/-- A DISCHARGE that ends makes its enable inactive, where the clock runs. -/
theorem State.discharge_ends (s : State) (p e g : Nat) : ActionEnds s ((s.orderEn g false).finish p e) p e [.caps, .ens] [] ∧
    (¬ s.stepEnds p e → AllBut s.en ((s.orderEn g false).finish p e).en [g] ∧
      ((s.cluster (enCl g)).clockLost = false → (((s.orderEn g false).finish p e).en g).asserted = false)) := by
  have same : Same [.caps, .ens] s (s.orderEn g false) := by apply State.orderEn_but <;> decide
  obtain ⟨others, low, -⟩ := s.orderEn_en g false
  refine ⟨.of same (by simp) (by decide) (.of_regs (.refl s _) (same.regs (by decide))) (fun j _ => same.get_action (by decide) j), fun on => ?_⟩
  have on' := (stepEnds_of_act (funext (same.get_act (by decide))) (same.get_part (by decide) p) e).not.mpr on
  have ens : ∀ k, ((s.orderEn g false).finish p e).en k = (s.orderEn g false).en k := (State.finish_frame on').get_en (by decide)
  simp only [AllBut, ens]
  exact ⟨fun k other => others k (by simpa using other), low⟩

end Sys2Proof.Machine

namespace Sys2Proof.Machine

/-! ### Enables and channels that an action turns on or off (R142) -/

theorem State.latchEn_same (s : State) (g : Nat) (b : Bool) : Same [.caps, .ens] s (s.latchEn g b) := by
  apply State.latchEn_but <;> decide

/-- One enable takes a level. -/
theorem State.latchEn_level (s : State) (g : Nat) (b : Bool) : ((s.latchEn g b).en g).asserted = b ∧ AllBut s.en (s.latchEn g b).en [g] := by
  refine ⟨?_, fun k other => ?_⟩
  · rw [State.latchEn_en, if_pos rfl]
  · rw [State.latchEn_en, if_neg (by simpa using other)]

theorem State.armChan_same (s : State) (c : Nat) : Same [.caps, .chans, .entries, .ports, .regs, .trims] s (s.armChan c) := by
  apply State.armChan_but <;> decide

theorem State.toState_window (s : State) (c d : Nat) (st : ChanState) (at_ : Nat) : (s.toState c st at_).inWindow d = s.inWindow d := by
  unfold State.inWindow
  rw [State.toState_chan]
  split
  · subst d
    rfl
  · rfl

/-- A change of a channel that leaves its comparators as they are. -/
theorem State.setChan_window (s : State) {c : Nat} {x : ChanX} (upper : x.upperCmp = (s.chan c).upperCmp) (lower : x.lowerCmp = (s.chan c).lowerCmp)
    (d : Nat) : (s.setChan c x).inWindow d = s.inWindow d := by
  unfold State.inWindow
  rw [State.setChan_get]
  split
  · subst d
    rw [upper, lower]
  · rfl

theorem State.enterSettle_window (s : State) (c d : Nat) : (s.enterSettle c).inWindow d = s.inWindow d := by
  unfold State.enterSettle
  extract_lets t src u v
  have timed : u.inWindow d = s.inWindow d := by apply State.setChan_window <;> rfl
  have settled : v.inWindow d = s.inWindow d := (u.toState_window ..).trans timed
  split
  · exact (v.toState_window ..).trans settled
  · exact settled

theorem State.enterSettle_state (s : State) (c : Nat) : ((s.enterSettle c).chan c).state ≠ .off := by
  unfold State.enterSettle
  extract_lets t src u v
  split <;> rw [State.toState_state] <;> decide

/-- A channel that is armed keeps its comparators, and is not OFF. -/
theorem State.armChan_arms (s : State) (c : Nat) : (∀ d, (s.armChan c).inWindow d = s.inWindow d) ∧ ((s.armChan c).chan c).state ≠ .off := by
  unfold State.armChan
  extract_lets t src u v w
  have asks : Same [.ports] v w := by
    simp only [w]
    split
    · apply State.askSetpoint_but; decide
    · exact .refl _ v
  have armed : (v.chan c).state = .armed := State.toState_state ..
  have window : ∀ d, v.inWindow d = s.inWindow d := fun d => (State.toState_window ..).trans (by apply State.setChan_window <;> rfl)
  have asked : ∀ d, w.chan d = v.chan d := asks.get_chan (by decide)
  have still : ∀ d, w.inWindow d = s.inWindow d := fun d => by
    rw [← window]
    exact congrArg (fun x : ChanX => !x.upperCmp && !x.lowerCmp) (asked d)
  clear_value w
  split
  · refine ⟨fun d => ((State.enterSettle_window ..).trans (by apply State.setChan_window <;> rfl)).trans (still d), ?_⟩
    exact State.enterSettle_state _ c
  · refine ⟨still, ?_⟩
    rw [asked, armed]
    decide

theorem State.armChan_on (s : State) (c d : Nat) (on : (s.chan c).state ≠ .off) : ((s.armChan d).chan c).state ≠ .off := by
  by_cases h : c = d
  · subst d
    exact (s.armChan_arms c).2
  · rwa [(s.armChan_only d).chans c h]

theorem State.each_armChan_on {l : List Nat} {c : Nat} (s : State) (on : (s.chan c).state ≠ .off ∨ c ∈ l) :
    ((s.each l (fun u d => u.armChan d)).chan c).state ≠ .off := by
  induction l generalizing s with
  | nil => simpa using on
  | cons d l ih =>
    refine ih (s.armChan d) ?_
    rcases on with on | mem
    · exact .inl (s.armChan_on c d on)
    · rcases List.mem_cons.mp mem with rfl | mem
      · exact .inl (s.armChan_arms c).2
      · exact .inr mem

/-- The gates of a channel trip nothing while every CURRENT companion of it is in window (R107). -/
theorem State.gateTrip_clear {s t : State} {c : Nat} (act : t.act = s.act) (window : ∀ d, t.inWindow d = s.inWindow d) (clear : s.gatesClear c) :
    t.gateTrip c = t := by
  refine State.gateTrip_none (fun d mem => .inr ?_)
  obtain ⟨small, current, companion⟩ := State.mem_companions.mp mem
  unfold State.kind at current
  rw [act] at current companion
  exact (window d).trans (clear d small current companion)

/-- An enable that is asserted arms the channels that it serves. -/
theorem State.assertEn_asserts (s : State) (g : Nat) : Same [.caps, .chans, .ens, .entries, .ports, .regs, .trims] s (s.assertEn g) ∧
    ((s.assertEn g).en g).asserted = true ∧ AllBut s.en (s.assertEn g).en [g] ∧ (∀ c ∈ s.served g, ((s.assertEn g).chan c).state ≠ .off) ∧
    ∀ d, (s.assertEn g).inWindow d = s.inWindow d := by
  obtain ⟨level, others⟩ := s.latchEn_level g true
  have armed : Same [.caps, .chans, .entries, .ports, .regs, .trims] (s.latchEn g true) (s.assertEn g) :=
    State.each_but _ _ _ _ (fun u c _ => u.armChan_same c)
  have ens := armed.get_en (by decide)
  have chans := (s.latchEn_same g true).get_chan (by decide)
  refine ⟨((s.latchEn_same g true).mono (by decide)).trans (armed.mono (by decide)), (congrArg EnX.asserted (ens g)).trans level,
    fun k other => (ens k).trans (others k other), fun c mem => State.each_armChan_on _ ?_, fun d => ?_⟩
  · by_cases off : (s.chan c).state = .off
    · exact .inr (List.mem_filter.mpr ⟨mem, decide_eq_true off⟩)
    · left
      rwa [chans]
  · refine (State.each_keeps (fun u => u.inWindow d) _ _ (fun u c _ => (u.armChan_arms c).1 d) _).trans ?_
    unfold State.inWindow
    rw [chans]

theorem State.assertEn_empty {s : State} {g : Nat} (none : s.served g = []) : s.assertEn g = s.latchEn g true := by
  unfold State.assertEn
  rw [none]
  rfl

/-- An enable that goes inactive takes the channels that it serves OFF, none of which had a timer due. -/
theorem State.deassertEn_idle {s : State} {g : Nat} (idle : ∀ c ∈ s.served g, s.timersIdle c) :
    Same [.caps, .chans, .ens, .entries, .events, .regs, .trims] s (s.deassertEn g) ∧ ((s.deassertEn g).en g).asserted = false ∧
    AllBut s.en (s.deassertEn g).en [g] ∧ ∀ c ∈ s.served g, ((s.deassertEn g).chan c).out := by
  obtain ⟨level, others⟩ := s.latchEn_level g false
  have still : Rests s (s.latchEn g false) := .of_same (s.latchEn_same g false) (by decide)
  obtain ⟨off, -, -⟩ := State.each_chanOff (fun c mem => still.idle (idle c mem))
  have ens := off.get_en (by decide)
  exact ⟨((s.latchEn_same g false).mono (by decide)).trans (off.mono (by decide)), (congrArg EnX.asserted (ens g)).trans level,
    fun k other => (ens k).trans (others k other), fun c mem => State.each_chanOff_out _ mem⟩

/-! ### What an action does when it issues (Table 5-3) -/

section
variable {s : State} {p e w : Nat}

theorem State.actIssue_enable (type : aeType w = 1) : s.actIssue p e w =
    if (s.en (aeTarget w)).asserted then (s, true)
    else if (s.part p).line then (s, false)
    else ((s.assertEn (aeTarget w)).each (s.served (aeTarget w)) (fun s c => s.gateTrip c), (s.served (aeTarget w)).isEmpty) := by
  simp only [State.actIssue, type]

theorem State.actIssue_disable (type : aeType w = 2) : s.actIssue p e w =
    if (s.en (aeTarget w)).asserted then (s.deassertEn (aeTarget w), false) else (s, true) := by
  simp only [State.actIssue, type]

theorem State.actIssue_arm (type : aeType w = 3) : s.actIssue p e w =
    (if (s.chan (aeTarget w)).state = .off then (s.armChan (aeTarget w)).gateTrip (aeTarget w) else s, false) := by
  simp only [State.actIssue, type]

theorem State.actIssue_off (type : aeType w = 4) : s.actIssue p e w = (s.chanOff (aeTarget w), aeTimeout w == 0) := by
  simp only [State.actIssue, type]

theorem State.actIssue_wait (type : aeType w = 5 ∨ aeType w = 6) : s.actIssue p e w = (s, false) := by
  rcases type with type | type <;> simp only [State.actIssue, type]

theorem State.actIssue_port (type : aeType w = 7) : s.actIssue p e w =
    (s.askPort { entry := aeTarget w, part := p, cmd := field (aeParam w) 0 8, data := field (aeParam w) 8 16, why := .action e }, false) := by
  simp only [State.actIssue, type]

theorem State.actIssue_trim (type : aeType w = 8) : s.actIssue p e w =
    (s.setChan (aeTarget w) { s.chan (aeTarget w) with held := some (aeParam w), settled := 0 }, !s.runs (aeTarget w)) := by
  simp only [State.actIssue, type]

theorem State.actIssue_discharge (type : aeType w = 9) : s.actIssue p e w =
    (if (s.part p).line then s else s.latchEn (aeTarget w) true, false) := by
  simp only [State.actIssue, type]

theorem State.actIssue_capture (type : aeType w = 10) : s.actIssue p e w = (s.captureArm (aeTarget w), true) := by
  simp only [State.actIssue, type]

/-- An enable whose channels' gates are clear. -/
theorem State.actIssue_asserts (type : aeType w = 1) (low : (s.en (aeTarget w)).asserted = false) (line : (s.part p).line = false)
    (clear : ∀ c ∈ s.served (aeTarget w), s.gatesClear c) :
    s.actIssue p e w = (s.assertEn (aeTarget w), (s.served (aeTarget w)).isEmpty) := by
  obtain ⟨same, -, -, -, window⟩ := s.assertEn_asserts (aeTarget w)
  rw [State.actIssue_enable type, if_neg (by simp [low]), if_neg (by simp [line]),
    State.each_id (fun c mem => State.gateTrip_clear (funext (same.get_act (by decide))) window (clear c mem))]

theorem State.actIssue_arms (type : aeType w = 3) (off : (s.chan (aeTarget w)).state = .off) (clear : s.gatesClear (aeTarget w)) :
    s.actIssue p e w = (s.armChan (aeTarget w), false) := by
  rw [State.actIssue_arm type, if_pos off, State.gateTrip_clear (funext ((s.armChan_same _).get_act (by decide))) (s.armChan_arms _).1 clear]
end

/-! ### Issuing (R143, R144) -/

section
variable {e : Fin 4096} {a : ActX} {s : State} (act : s.action e = some a) (free : s.noSwapAt (s.entryCluster a.part a.entry))
include act free

theorem exec_actionIssue : exec (.actionIssue e) s = .next (s.issueAction e) := by
  change ok (s.swapIfDue.inBank (match s.swapIfDue.action e with
    | some a => s.swapIfDue.entryCluster a.part a.entry
    | none => 0) (fun s => s.issueAction e)) = _
  rw [State.swapIfDue_of_none free.1, act, State.inBank_active free.2]
  rfl

/-- An action that is not armed, that has issued, or whose DELAY still runs. -/
theorem exec_actionIssue_early (early : a.armed = false ∨ a.issued = true ∨ s.now < a.armedAt + 1000 * aeDelay a.entry) :
    exec (.actionIssue e) s = .next s := by
  rw [exec_actionIssue act free]
  simp only [State.issueAction, act]
  rw [if_pos]
  exact early.imp_right (.imp_right (fun before => decide_eq_false before.not_ge))

section
variable (armed : a.armed = true) (fresh : a.issued = false) (due : a.armedAt + 1000 * aeDelay a.entry ≤ s.now)
include armed fresh due

theorem exec_actionIssue_skipped {d : Nat} (guard : guardOf a.entry = some d) (rests : s.guardRuns d = false) :
    exec (.actionIssue e) s = .next (s.skipped a.part e) := by
  rw [exec_actionIssue act free]
  simp only [State.issueAction, act]
  rw [if_neg (by simp [armed, fresh, State.passed_of_le due]), if_pos (by simp [guard, rests])]

section
variable (guards : ∀ d, guardOf a.entry = some d → s.guardRuns d = true)
include guards

omit free in
theorem State.issueAction_guarded : s.issueAction e =
    if aeType a.entry = 8 ∧ (s.inGuard (aeTarget a.entry) (aeParam a.entry) = false ∨ s.trimBad (aeTarget a.entry)) then s.flagged a.part e 4
    else
      let (t, done) := (s.setAction e { a with issued := true, issuedAt := s.now }).actIssue a.part e a.entry
      if done then t.finish a.part e else t := by
  have runs : (guardOf a.entry).all (fun g => s.guardRuns g) = true := Option.all_eq_true _ _ |>.mpr guards
  simp only [State.issueAction, act]
  rw [if_neg (by simp [armed, fresh, State.passed_of_le due]), if_neg (by simp [runs])]

theorem exec_actionIssue_flagged (type : aeType a.entry = 8)
    (bad : s.inGuard (aeTarget a.entry) (aeParam a.entry) = false ∨ s.trimBad (aeTarget a.entry) = true) :
    exec (.actionIssue e) s = .next (s.flagged a.part e 4) := by
  rw [exec_actionIssue act free, State.issueAction_guarded act armed fresh due guards, if_pos ⟨type, bad⟩]

/-- An action that issues, with its effect. -/
theorem exec_actionIssue_effect
    (good : aeType a.entry = 8 → s.inGuard (aeTarget a.entry) (aeParam a.entry) = true ∧ s.trimBad (aeTarget a.entry) = false)
    {t : State} {done : Bool} (effect : (s.setAction e { a with issued := true, issuedAt := s.now }).actIssue a.part e a.entry = (t, done)) :
    exec (.actionIssue e) s = .next (if done then t.finish a.part e else t) := by
  rw [exec_actionIssue act free, State.issueAction_guarded act armed fresh due guards, effect, if_neg]
  rintro ⟨type, bad⟩
  obtain ⟨inside, ok⟩ := good type
  simp [inside, ok] at bad
end
end
end

end Sys2Proof.Machine

namespace Sys2Proof.Machine

/-! ### Arming (R149 to R153) -/

section
variable {e : Fin 4096} {s : State}

theorem exec_actionArm (free : s.noSwapAt (s.entryCluster ((s.partOfEntry e).getD 0) (s.act (actEntry e)))) :
    exec (.actionArm e) s = .next (s.armAction e) := by
  change ok (s.swapIfDue.inBank (s.swapIfDue.entryCluster ((s.swapIfDue.partOfEntry e).getD 0) (s.swapIfDue.act (actEntry e)))
    (fun s => s.armAction e)) = _
  rw [State.swapIfDue_of_none free.1, State.inBank_active free.2]
  rfl

theorem State.armAction_unowned (none : s.partOfEntry e = none) : s.armAction e = s := by simp only [State.armAction, none]

variable {p : Nat} (owner : s.partOfEntry e = some p)
include owner

/-- An entry that is armed already, or whose turn has not come. -/
theorem State.armAction_rests (rests : s.isArmed e = true ∨ s.eligible p e = false) : s.armAction e = s := by
  simp only [State.armAction, owner]
  exact if_pos rests

section
variable (open_ : s.isArmed e = false) (turn : s.eligible p e = true)
include open_ turn

/-- An entry takes its slots when nothing holds it, and no other request of the tick stands before it. -/
theorem State.armAction_free (quota : s.quotaHolds p (s.act (actEntry e)) = false)
    (slots : s.slotsFree p (s.actsOn p (s.act (actEntry e))) = true) : s.armAction e =
    if s.outranked p e (s.actsOn p (s.act (actEntry e))) then s
    else s.setAction e { entry := s.act (actEntry e), part := p, armed := true, armedAt := s.now, issued := false, issuedAt := 0,
                         slots := s.actsOn p (s.act (actEntry e)), result := none } := by
  simp only [State.armAction, owner]
  rw [if_neg (by simp [open_, turn]), if_neg (by simp [quota]), if_neg (by simp [slots])]

theorem State.armAction_held (held : s.quotaHolds p (s.act (actEntry e)) = true ∨ s.slotsFree p (s.actsOn p (s.act (actEntry e))) = false) :
    s.armAction e = s.waitAction p e (s.act (actEntry e)) (s.quotaHolds p (s.act (actEntry e))) := by
  simp only [State.armAction, owner]
  rw [if_neg (by simp [open_, turn])]
  cases quota : s.quotaHolds p (s.act (actEntry e)) with
  | true => exact if_pos rfl
  | false =>
    have full : s.slotsFree p (s.actsOn p (s.act (actEntry e))) = false := held.resolve_left (by simp [quota])
    rw [if_neg (by simp), if_pos (by simp [full])]
end
end

theorem State.quotaHolds_iff (s : State) (p w : Nat) : s.quotaHolds p w = true ↔ aeExit w = false ∧ s.slotQuota p ≤ s.armedCount p := by
  simp [State.quotaHolds]

theorem State.slotsFree_iff (s : State) (p : Nat) (cls : List Nat) :
    s.slotsFree p cls = true ↔ ∀ n ∈ cls, (s.cluster n).clockLost = false ∧ s.slotFree p n = true := by
  simp [State.slotsFree]

/-- An entry that waits for a slot or for quota. -/
def State.slotWait (s : State) (p w : Nat) : ActX :=
  { entry := w, part := p, armed := false, armedAt := s.now, issued := false, issuedAt := 0, slots := [], result := none, waited := true }

section
variable {s : State} {p e : Nat} (w : Nat) (quota : Bool)

theorem State.waitAction_again {a : ActX} (act : s.action e = some a) (waited : a.waited = true) : s.waitAction p e w quota = s := by
  simp only [State.waitAction, act]
  exact if_pos waited

theorem State.waitAction_first (first : ∀ a, s.action e = some a → a.waited = false) : s.waitAction p e w quota =
    if (s.part p).waitRaised then (s.setAction e (s.slotWait p w)).bump32 (seqsSlotWaitCount p)
    else (((s.setAction e (s.slotWait p w)).bump32 (seqsSlotWaitCount p)).setPart p { s.part p with waitRaised := true }).raise 10 0x42 p false
      [BitVec.ofNat 8 (aeState w), if quota then 2 else 1] := by
  unfold State.waitAction
  extract_lets again t
  have fresh : again = false := by
    simp only [again]
    split
    · exact first _ ‹_›
    · rfl
  rw [if_neg (by simp [fresh])]
  rfl

/-- The first wait of an entry is counted, and told once in a step (R153). -/
theorem State.waitAction_waits (first : ∀ a, s.action e = some a → a.waited = false) :
    Same [.actions, .events, .parts, .regs] s (s.waitAction p e w quota) ∧
    RegsBut s (s.waitAction p e w quota) [seqsSlotWaitCount p, evEventsLost] ∧
    (s.waitAction p e w quota).reg (seqsSlotWaitCount p) = wrap32 (s.reg (seqsSlotWaitCount p)) ∧
    (s.waitAction p e w quota).action e = some (s.slotWait p w) ∧ AllBut s.part (s.waitAction p e w quota).part [p] ∧
    (s.waitAction p e w quota).part p = { s.part p with waitRaised := true } ∧
    ((s.part p).waitRaised = false → s.enters 10 → (s.waitAction p e w quota).recorded 10 0x42 p false
      [BitVec.ofNat 8 (aeState w), if quota then 2 else 1]) := by
  rw [State.waitAction_first w quota first]
  have waits := s.setAction_same e (s.slotWait p w)
  have counted : Same [.actions, .regs] s ((s.setAction e (s.slotWait p w)).bump32 (seqsSlotWaitCount p)) :=
    (waits.mono (by decide)).trans (State.bump32_but _ _ _ (by decide))
  have regs : RegsBut s ((s.setAction e (s.slotWait p w)).bump32 (seqsSlotWaitCount p)) [seqsSlotWaitCount p, evEventsLost] :=
    .bump32 (.of_regs (.refl s _) rfl) (by simp)
  have action : ((s.setAction e (s.slotWait p w)).bump32 (seqsSlotWaitCount p)).action e = some (s.slotWait p w) := s.setAction_action_same e _
  have count : ((s.setAction e (s.slotWait p w)).bump32 (seqsSlotWaitCount p)).reg (seqsSlotWaitCount p) = wrap32 (s.reg (seqsSlotWaitCount p)) :=
    State.setReg_reg_same ..
  have part : ∀ q, ((s.setAction e (s.slotWait p w)).bump32 (seqsSlotWaitCount p)).part q = s.part q := counted.get_part (by decide)
  generalize (s.setAction e (s.slotWait p w)).bump32 (seqsSlotWaitCount p) = t at counted regs action count part
  split
  · next raised =>
    refine ⟨counted.mono (by decide), regs, count, action, fun q _ => part q, ?_, fun fresh => by simp [fresh] at raised⟩
    rw [part, ← raised]
  · have marked : Same [.parts] t (t.setPart p { s.part p with waitRaised := true }) := State.setPart_but _ _ _ _ (by decide)
    refine ⟨((counted.mono (by decide)).trans (marked.mono (by decide))).trans ((State.raise_same ..).mono (by decide)),
      .raise (.of_regs regs (marked.regs (by decide))) (by simp), ?_, ?_, fun q other => ?_, ?_, fun _ enters => ?_⟩
    · exact (State.raise_reg_ne _ _ _ _ _ _ _ (by simp)).trans count
    · exact ((State.raise_same ..).get_action (by decide) e).trans action
    · rw [State.raise_get_part, State.setPart_get, if_neg (by simpa using other), part]
    · rw [State.raise_get_part, State.setPart_get, if_pos rfl]
    · exact State.raise_recorded _ _ _ _ _ _ (marked.enters (by decide) (by decide) (counted.enters (by decide) (by decide) enters))
end

end Sys2Proof.Machine

namespace Sys2Proof.Machine

/-! ### Requests with a slot and with none (R149, R151) -/

section
variable {e : Fin 4096} {p : Nat} {s : State} (owner : s.partOfEntry e = some p) (open_ : s.isArmed e = false) (turn : s.eligible p e = true)
include owner open_ turn

theorem State.armAction_takes (within : aeExit (s.act (actEntry e)) = true ∨ s.armedCount p < s.slotQuota p)
    (slots : ∀ n ∈ s.actsOn p (s.act (actEntry e)), (s.cluster n).clockLost = false ∧ s.slotFree p n = true) : s.armAction e =
    if s.outranked p e (s.actsOn p (s.act (actEntry e))) then s
    else s.setAction e { entry := s.act (actEntry e), part := p, armed := true, armedAt := s.now, issued := false, issuedAt := 0,
                         slots := s.actsOn p (s.act (actEntry e)), result := none } := by
  refine State.armAction_free owner open_ turn (Bool.eq_false_iff.mpr (fun holds => ?_)) ((s.slotsFree_iff p _).mpr slots)
  obtain ⟨entry, used⟩ := (s.quotaHolds_iff p _).mp holds
  rcases within with exit | below
  · simp [exit] at entry
  · exact absurd below used.not_gt

theorem State.armAction_waits (held : aeExit (s.act (actEntry e)) = false ∧ s.slotQuota p ≤ s.armedCount p ∨
      ∃ n ∈ s.actsOn p (s.act (actEntry e)), (s.cluster n).clockLost = true ∨ s.slotFree p n = false) :
    s.armAction e = s.waitAction p e (s.act (actEntry e)) (s.quotaHolds p (s.act (actEntry e))) := by
  refine State.armAction_held owner open_ turn (held.imp (s.quotaHolds_iff p _).mpr (fun ⟨n, mem, full⟩ => Bool.eq_false_iff.mpr (fun slots => ?_)))
  obtain ⟨clock, slot⟩ := (s.slotsFree_iff p _).mp slots n mem
  simp [clock, slot] at full
end

/-! ### Issued actions (Table 5-3) -/

/-- An effect that leaves the actions, after the entry is noted as issued. -/
theorem State.issued_keeps {f : List Fld} {s t : State} {e : Nat} {b : ActX} (same : Same f (s.setAction e b) t) (hf : Fld.actions ∉ f) :
    Same (.actions :: f) s t ∧ t.action e = some b ∧ ∀ j, j ≠ e → t.action j = s.action j :=
  ⟨((s.setAction_same e b).mono (by simp)).trans (same.mono (by simp +contextual)), (same.get_action hf e).trans (s.setAction_action_same e b),
    fun j other => (same.get_action hf j).trans (s.setAction_action_ne b other)⟩

/-- The end of an action that issues and is complete at once. -/
theorem State.issued_ends {f : List Fld} {s t : State} {e p : Nat} {b : ActX} (same : Same f (s.setAction e b) t)
    (hf : ∀ x ∈ f, x ∈ [Fld.caps, .chans, .ens]) : ActionEnds s (t.finish p e) p e f [] := by
  have narrow : ∀ x ∈ [Fld.caps, .chans, .ens], x ∈ sweepFlds ∧ x ≠ .parts := by decide
  have out : ∀ x, x ∉ [Fld.caps, .chans, .ens] → x ∉ f := fun x hx mem => hx (hf x mem)
  obtain ⟨kept, -, others⟩ := State.issued_keeps same (out _ (by decide))
  exact .of kept (fun _ h => h) (fun x hx => narrow x (hf x hx)) (.of_regs (.refl s _) (same.regs (out _ (by decide)))) others

/-- Unless its step ends, the end of an action that issues leaves what its effect has done. -/
theorem State.issued_frame {f : List Fld} {s t : State} {e p : Nat} {b : ActX} (same : Same f (s.setAction e b) t)
    (hf : ∀ x ∈ [Fld.active, .parts], x ∉ f) (on : ¬ s.stepEnds p e) : Same [.actions, .parts] t (t.finish p e) :=
  State.finish_frame ((stepEnds_of_act (funext (same.get_act (hf _ (by decide)))) (same.get_part (hf _ (by decide)) p) e).not.mpr on)

/-- An action that is FLAGGED for a reason of Table 5-4 is told by EV 0x41. -/
theorem State.flagged_told (s : State) (p e : Nat) {r : Nat} (reason : r ≠ 0) :
    ActionEnds s (s.flagged p e r) p e [.events, .regs] [seqsFlaggedCount p, evEventsLost] ∧
    (s.flagged p e r).reg (seqsFlaggedCount p) = sat16 (s.reg (seqsFlaggedCount p)) ∧
    (¬ s.stepEnds p e → s.enters (s.homeDom p) →
      (s.flagged p e r).recorded (s.homeDom p) 0x41 p false (two e ++ [BitVec.ofNat 8 r])) := by
  obtain ⟨ends, count, told⟩ := s.flagged_ends p e r
  exact ⟨ends, count, told reason⟩

theorem State.captureArm_capture (s : State) (u : Nat) : Same [.caps] s (s.captureArm u) ∧ AllBut s.cap (s.captureArm u).cap [u] ∧
    (s.act (capStartSrc u) ≠ 0 ∨ s.act (capStopSrc u) ≠ 0 →
      ((s.captureArm u).cap u).outcome = 1 ∧ ((s.captureArm u).cap u).armedAt = s.now) := by
  refine ⟨s.captureArm_same u, s.captureArm_others u, fun sources => ?_⟩
  obtain ⟨outcome, armedAt, -⟩ := State.captureArm_arms (s := s) (u := u) (fun none => sources.elim (· none.1) (· none.2))
  exact ⟨outcome, armedAt⟩

/-- A transaction that an action asks a port for waits behind the others of the port. -/
theorem State.askPort_queues (s : State) (tx : PsTx) : Same [.ports] s (s.askPort tx) ∧
    AllBut s.port (s.askPort tx).port [tgtPort (s.act (tgtEntry tx.entry))] ∧ (s.askPort tx).port (tgtPort (s.act (tgtEntry tx.entry))) =
      { s.port (tgtPort (s.act (tgtEntry tx.entry))) with queue := (s.port (tgtPort (s.act (tgtEntry tx.entry)))).queue ++ [tx] } :=
  ⟨State.askPort_but _ _ _ (by decide), fun _ other => State.setPort_port_ne _ _ _ _ (by simpa using other), State.setPort_port_same ..⟩

/-- A SET_TRIM holds its value for the trim loop. -/
theorem State.setChan_held (s : State) (c : Nat) (x : ChanX) : Same [.chans] s (s.setChan c x) ∧ AllBut s.chan (s.setChan c x).chan [c] ∧
    (s.setChan c x).chan c = x :=
  ⟨State.setChan_but _ _ _ _ (by decide), fun _ other => State.setChan_chan_ne _ _ _ _ (by simpa using other), State.setChan_chan_same ..⟩

/-- Action e, as it stands in a, issues now, and stands as b then (R143, R144). -/
structure Issuing (e : Fin 4096) (a b : ActX) (s : State) : Prop where
  act : s.action e = some a
  free : s.noSwapAt (s.entryCluster a.part a.entry)
  armed : a.armed = true
  fresh : a.issued = false
  due : a.armedAt + 1000 * aeDelay a.entry ≤ s.now
  guards : ∀ d, guardOf a.entry = some d → s.guardRuns d = true
  issued : b = { a with issued := true, issuedAt := s.now }

section
variable {e : Fin 4096} {a b : ActX} {s t : State} (h : Issuing e a b s)
variable (good : aeType a.entry = 8 → s.inGuard (aeTarget a.entry) (aeParam a.entry) = true ∧ s.trimBad (aeTarget a.entry) = false)
include h good

/-- An effect after which the action goes on to its outcome. -/
theorem Issuing.goesOn {f : List Fld} (effect : (s.setAction e b).actIssue a.part e a.entry = (t, false)) (same : Same f (s.setAction e b) t)
    (hf : Fld.actions ∉ f) :
    exec (.actionIssue e) s = .next t ∧ Same (.actions :: f) s t ∧ t.action e = some b ∧ ∀ j, j ≠ e.val → t.action j = s.action j := by
  obtain ⟨act, free, armed, fresh, due, guards, rfl⟩ := h
  exact ⟨exec_actionIssue_effect act free armed fresh due guards good effect, State.issued_keeps same hf⟩

/-- An effect after which the action is complete. -/
theorem Issuing.ends (effect : (s.setAction e b).actIssue a.part e a.entry = (t, true)) :
    exec (.actionIssue e) s = .next (t.finish a.part e) := by
  obtain ⟨act, free, armed, fresh, due, guards, rfl⟩ := h
  exact exec_actionIssue_effect act free armed fresh due guards good effect
end

theorem exec_actionIssue_none {e : Fin 4096} {s : State} (unknown : s.action e = none) (free : s.noSwapAt 0) :
    exec (.actionIssue e) s = .next s := by
  change ok (s.swapIfDue.inBank (match s.swapIfDue.action e with
    | some a => s.swapIfDue.entryCluster a.part a.entry
    | none => 0) (fun s => s.issueAction e)) = _
  rw [State.swapIfDue_of_none free.1, unknown, State.inBank_active free.2]
  simp only [State.issueAction, unknown]
  rfl

section
variable {e : Fin 4096} {a b : ActX} {s : State} (h : Issuing e a b s)
include h

/-- ENABLE on an enable whose channels' gates are clear: their channels are armed. -/
theorem Issuing.enables (type : aeType a.entry = 1) (low : (s.en (aeTarget a.entry)).asserted = false) (line : (s.part a.part).line = false)
    (clear : ∀ c ∈ s.served (aeTarget a.entry), s.gatesClear c) (serves : s.served (aeTarget a.entry) ≠ []) :
    Answers (.actionIssue e) s (fun t => Same [.actions, .caps, .chans, .ens, .entries, .ports, .regs, .trims] s t ∧
      (t.en (aeTarget a.entry)).asserted = true ∧ AllBut s.en t.en [aeTarget a.entry] ∧
      (∀ c ∈ s.served (aeTarget a.entry), (t.chan c).state ≠ .off) ∧ t.action e = some b) := by
  obtain ⟨same, high, others, on, -⟩ := (s.setAction e b).assertEn_asserts (aeTarget a.entry)
  have effect := State.actIssue_asserts (s := s.setAction e b) (e := e) type low line clear
  obtain ⟨run, kept, own, -⟩ := h.goesOn (by omega)
    (effect.trans (congrArg (Prod.mk _) (List.isEmpty_eq_false_iff.mpr serves))) same (by decide)
  exact ⟨_, run, kept, high, others, on, own⟩

/-- ENABLE on an enable that serves no channel ends at once. -/
theorem Issuing.enables_none (type : aeType a.entry = 1) (low : (s.en (aeTarget a.entry)).asserted = false) (line : (s.part a.part).line = false)
    (alone : s.served (aeTarget a.entry) = []) :
    Answers (.actionIssue e) s (fun t => ActionEnds s t a.part e [.caps, .ens] [] ∧
      (¬ s.stepEnds a.part e → (t.en (aeTarget a.entry)).asserted = true ∧ AllBut s.en t.en [aeTarget a.entry])) := by
  obtain ⟨high, others⟩ := (s.setAction e b).latchEn_level (aeTarget a.entry) true
  have same := (s.setAction e b).latchEn_same (aeTarget a.entry) true
  have alone : (s.setAction e b).served (aeTarget a.entry) = [] := alone
  have effect := State.actIssue_asserts (s := s.setAction e b) (e := e) type low line (by simp [alone])
  rw [State.assertEn_empty alone, alone] at effect
  refine ⟨_, h.ends (by omega) effect, State.issued_ends same (by decide), fun on => ?_⟩
  have ens := (State.issued_frame same (by decide) on).get_en (by decide)
  simp only [AllBut, ens]
  exact ⟨high, others⟩

/-- DISABLE of an enable takes the channels that it serves OFF. -/
theorem Issuing.disables (type : aeType a.entry = 2) (high : (s.en (aeTarget a.entry)).asserted = true)
    (idle : ∀ c ∈ s.served (aeTarget a.entry), s.timersIdle c) : Answers (.actionIssue e) s (fun t =>
      Same [.actions, .caps, .chans, .ens, .entries, .events, .regs, .trims] s t ∧ (t.en (aeTarget a.entry)).asserted = false ∧
      AllBut s.en t.en [aeTarget a.entry] ∧ (∀ c ∈ s.served (aeTarget a.entry), (t.chan c).out) ∧ t.action e = some b) := by
  obtain ⟨same, low, others, off⟩ := State.deassertEn_idle (s := s.setAction e b) idle
  obtain ⟨run, kept, own, -⟩ := h.goesOn (by omega) ((State.actIssue_disable type).trans (if_pos high)) same (by decide)
  exact ⟨_, run, kept, low, others, off, own⟩

/-- ARM of a channel whose gates are clear. -/
theorem Issuing.arms (type : aeType a.entry = 3) (off : (s.chan (aeTarget a.entry)).state = .off) (clear : s.gatesClear (aeTarget a.entry)) :
    Answers (.actionIssue e) s (fun t => Same [.actions, .caps, .chans, .entries, .ports, .regs, .trims] s t ∧
      AllBut s.chan t.chan [aeTarget a.entry] ∧ (t.chan (aeTarget a.entry)).state ≠ .off ∧ t.action e = some b) := by
  obtain ⟨run, kept, own, -⟩ := h.goesOn (by omega) (State.actIssue_arms type off clear) (State.armChan_same ..) (by decide)
  exact ⟨_, run, kept, fun c other => (State.armChan_only ..).chans c (by simpa using other), (State.armChan_arms ..).2, own⟩

/-- OFF of a channel, which its decay ends, or which ends at once with TIMEOUT 0. -/
theorem Issuing.turnsOff (type : aeType a.entry = 4) (idle : s.timersIdle (aeTarget a.entry)) :
    (aeTimeout a.entry ≠ 0 → Answers (.actionIssue e) s (fun t => Same [.actions, .caps, .chans, .entries, .events, .regs, .trims] s t ∧
      (t.chan (aeTarget a.entry)).out ∧ t.action e = some b)) ∧
    (aeTimeout a.entry = 0 → Answers (.actionIssue e) s (fun t => t.action e = none ∧
      (¬ s.stepEnds a.part e → Same [.actions, .caps, .chans, .entries, .events, .parts, .regs, .trims] s t ∧
        (t.chan (aeTarget a.entry)).out))) := by
  have same : Same [.caps, .chans, .entries, .events, .regs, .trims] (s.setAction e b) ((s.setAction e b).chanOff (aeTarget a.entry)) :=
    State.chanOff_same idle
  have off := (s.setAction e b).chanOff_out (aeTarget a.entry)
  have effect := State.actIssue_off (s := s.setAction e b) (p := a.part) (e := e) type
  refine ⟨fun limit => ?_, fun zero => ?_⟩
  · obtain ⟨run, kept, own, -⟩ := h.goesOn (by omega) (effect.trans (congrArg (Prod.mk _) (beq_false_of_ne limit))) same (by decide)
    exact ⟨_, run, kept, off, own⟩
  · refine ⟨_, h.ends (by omega) (effect.trans (congrArg (Prod.mk _) (beq_iff_eq.mpr zero))), State.finish_action .., fun on => ?_⟩
    have frame := State.issued_frame same (by decide) on
    obtain ⟨kept, -, -⟩ := State.issued_keeps same (by decide)
    exact ⟨(kept.mono (by decide)).trans (frame.mono (by decide)), by rwa [frame.get_chan (by decide)]⟩

/-- A transaction of a power-stage port. -/
theorem Issuing.asks (type : aeType a.entry = 7) : Answers (.actionIssue e) s (fun t => Same [.actions, .ports] s t ∧ t.action e = some b ∧
    AllBut s.port t.port [tgtPort (s.act (tgtEntry (aeTarget a.entry)))] ∧ t.port (tgtPort (s.act (tgtEntry (aeTarget a.entry)))) =
      { s.port (tgtPort (s.act (tgtEntry (aeTarget a.entry)))) with
        queue := (s.port (tgtPort (s.act (tgtEntry (aeTarget a.entry))))).queue ++
          [{ entry := aeTarget a.entry, part := a.part, cmd := field (aeParam a.entry) 0 8, data := field (aeParam a.entry) 8 16,
             why := .action e }] }) := by
  obtain ⟨same, others, port⟩ := (s.setAction e b).askPort_queues
    { entry := aeTarget a.entry, part := a.part, cmd := field (aeParam a.entry) 0 8, data := field (aeParam a.entry) 8 16, why := .action e }
  obtain ⟨run, kept, own, -⟩ := h.goesOn (by omega) (State.actIssue_port type) same (by decide)
  exact ⟨_, run, kept, own, others, port⟩

/-- SET_TRIM within the guard band, of a channel that runs or of one that does not. -/
theorem Issuing.trims (type : aeType a.entry = 8) (inside : s.inGuard (aeTarget a.entry) (aeParam a.entry) = true)
    (good : s.trimBad (aeTarget a.entry) = false) :
    (s.runs (aeTarget a.entry) = true → Answers (.actionIssue e) s (fun t => Same [.actions, .chans] s t ∧ AllBut s.chan t.chan [aeTarget a.entry] ∧
      t.chan (aeTarget a.entry) = { s.chan (aeTarget a.entry) with held := some (aeParam a.entry), settled := 0 } ∧ t.action e = some b)) ∧
    (s.runs (aeTarget a.entry) = false → Answers (.actionIssue e) s (fun t => ActionEnds s t a.part e [.chans] [] ∧
      (¬ s.stepEnds a.part e → AllBut s.chan t.chan [aeTarget a.entry] ∧
        t.chan (aeTarget a.entry) = { s.chan (aeTarget a.entry) with held := some (aeParam a.entry), settled := 0 }))) := by
  obtain ⟨same, others, own⟩ := (s.setAction e b).setChan_held (aeTarget a.entry)
    { (s.setAction e b).chan (aeTarget a.entry) with held := some (aeParam a.entry), settled := 0 }
  have effect := State.actIssue_trim (s := s.setAction e b) (p := a.part) (e := e) type
  refine ⟨fun runs => ?_, fun rests => ?_⟩
  · obtain ⟨run, kept, act, -⟩ := h.goesOn (fun _ => ⟨inside, good⟩) (effect.trans (congrArg (Prod.mk _) (congrArg (! ·) runs))) same (by decide)
    exact ⟨_, run, kept, others, own, act⟩
  · refine ⟨_, h.ends (fun _ => ⟨inside, good⟩) (effect.trans (congrArg (Prod.mk _) (congrArg (! ·) rests))), State.issued_ends same (by decide),
      fun on => ?_⟩
    have chans := (State.issued_frame same (by decide) on).get_chan (by decide)
    simp only [AllBut, chans]
    exact ⟨others, own⟩

/-- DISCHARGE: its enable goes active, unless the partition is shut off. -/
theorem Issuing.discharges (type : aeType a.entry = 9) :
    ((s.part a.part).line = false → Answers (.actionIssue e) s (fun t => Same [.actions, .caps, .ens] s t ∧
      AllBut s.en t.en [aeTarget a.entry] ∧ (t.en (aeTarget a.entry)).asserted = true ∧ t.action e = some b)) ∧
    ((s.part a.part).line = true → Answers (.actionIssue e) s (fun t => Same [.actions] s t ∧ t.action e = some b)) := by
  have effect := State.actIssue_discharge (s := s.setAction e b) (p := a.part) (e := e) type
  refine ⟨fun line => ?_, fun line => ?_⟩
  · obtain ⟨high, others⟩ := (s.setAction e b).latchEn_level (aeTarget a.entry) true
    obtain ⟨run, kept, own, -⟩ := h.goesOn (by omega) (effect.trans (congrArg (Prod.mk · _) (if_neg (ne_true_of_eq_false line))))
      (State.latchEn_same ..) (by decide)
    exact ⟨_, run, kept, others, high, own⟩
  · obtain ⟨run, kept, own, -⟩ := h.goesOn (by omega) (effect.trans (congrArg (Prod.mk · _) (if_pos line))) (.refl [] _) (by decide)
    exact ⟨_, run, kept, own⟩

/-- CAPTURE_ARM ends at once. -/
theorem Issuing.captures (type : aeType a.entry = 10) : Answers (.actionIssue e) s (fun t => ActionEnds s t a.part e [.caps] [] ∧
    (¬ s.stepEnds a.part e → AllBut s.cap t.cap [aeTarget a.entry] ∧
      (s.act (capStartSrc (aeTarget a.entry)) ≠ 0 ∨ s.act (capStopSrc (aeTarget a.entry)) ≠ 0 →
        (t.cap (aeTarget a.entry)).outcome = 1 ∧ (t.cap (aeTarget a.entry)).armedAt = s.now))) := by
  obtain ⟨same, others, arms⟩ := (s.setAction e b).captureArm_capture (aeTarget a.entry)
  refine ⟨_, h.ends (by omega) (State.actIssue_capture type), State.issued_ends same (by decide), fun on => ?_⟩
  have caps := (State.issued_frame same (by decide) on).get_cap (by decide)
  simp only [AllBut, caps]
  exact ⟨others, arms⟩

/-- An action with nothing left to do is complete at once. -/
theorem Issuing.nothing (type : aeType a.entry ≠ 8) (effect : (s.setAction e b).actIssue a.part e a.entry = (s.setAction e b, true)) :
    Answers (.actionIssue e) s (fun t => ActionEnds s t a.part e [] []) :=
  ⟨_, h.ends (fun other => absurd other type) effect, State.issued_ends (.refl [] _) (by decide)⟩

/-- An action that only waits. -/
theorem Issuing.waits (type : aeType a.entry ≠ 8) (effect : (s.setAction e b).actIssue a.part e a.entry = (s.setAction e b, false)) :
    Answers (.actionIssue e) s (fun t => Same [.actions] s t ∧ t.action e = some b ∧ ∀ j, j ≠ e.val → t.action j = s.action j) :=
  ⟨_, h.goesOn (fun other => absurd other type) effect (.refl [] _) (by decide)⟩
end

/-- The same, without the other actions. -/
theorem Issuing.waits_own {e : Fin 4096} {a b : ActX} {s : State} (h : Issuing e a b s) (type : aeType a.entry ≠ 8)
    (effect : (s.setAction e b).actIssue a.part e a.entry = (s.setAction e b, false)) :
    Answers (.actionIssue e) s (fun t => Same [.actions] s t ∧ t.action e = some b) := by
  obtain ⟨t, run, kept, own, -⟩ := h.waits type effect
  exact ⟨t, run, kept, own⟩

/-! ### The statement -/

/-- Settles O23: an entry arms by `State.armAction_free` or waits by `State.waitAction_waits`; it issues by `exec_actionIssue_effect`, and ends by
`ActionEnds.of` or `State.flagged_ends`. -/
theorem actionsArmIssueAndEnd : Obligations.ActionsArmIssueAndEnd := by
  unfold Obligations.ActionsArmIssueAndEnd
  refine ⟨⟨fun e p w s owner word free => ?_, fun e s unowned free => ?_⟩, ⟨fun e a s act free early => exec_actionIssue_early act free early,
    fun e s unknown free => exec_actionIssue_none unknown free, fun e a b g s act free armed fresh due target guards issued => ?_,
    fun e a d s act free armed fresh due guard rests => ⟨_, exec_actionIssue_skipped act free armed fresh due guard rests, ?_⟩⟩,
    fun e s none => ⟨exec_actionComplete_none none, exec_actionTimeout_none none⟩,
    fun e a s act fresh => ⟨exec_actionComplete_fresh act fresh, exec_actionTimeout_early act (.inl fresh)⟩,
    fun e a s act issued => ⟨exec_actionComplete_open act issued, fun done other => ⟨_, exec_actionComplete_done act issued done, ?_⟩,
      fun done type => ⟨_, exec_actionComplete_done act issued done, ?_⟩,
      fun r flag => ⟨_, exec_actionComplete_flagged act issued flag, s.flagged_ends a.part e r⟩,
      fun early => exec_actionTimeout_early act (.inr early), fun k r limit past open_ => ⟨s.flagged a.part e r, ?_, ?_⟩⟩⟩
  · subst word
    have run := exec_actionArm (e := e) (s := s) (by rwa [owner])
    refine ⟨fun open_ turn => ⟨fun within slots => ⟨fun first => ⟨_, run, ?_⟩, fun behind => ?_⟩, fun held => ⟨fun fresh => ⟨_, run, ?_⟩,
      fun a act waited => ?_⟩⟩, fun rests => ?_⟩
    · rw [State.armAction_takes owner open_ turn within slots, if_neg (ne_true_of_eq_false first)]
      exact ⟨s.setAction_same .., s.setAction_action_same .., fun j other => s.setAction_action_ne _ other⟩
    · rw [run, State.armAction_takes owner open_ turn within slots, if_pos behind]
    · rw [State.armAction_waits owner open_ turn held, ← if_congr (s.quotaHolds_iff p _) rfl rfl]
      exact State.waitAction_waits _ _ fresh
    · rw [run, State.armAction_waits owner open_ turn held, State.waitAction_again _ _ act waited]
    · rw [run, State.armAction_rests owner rests]
  · rw [exec_actionArm (by rwa [unowned]), State.armAction_unowned unowned]
  · subst target
    have h : Issuing e a b s := ⟨act, free, armed, fresh, due, guards, issued⟩
    exact ⟨fun type => h.waits (by omega) (State.actIssue_wait type),
      fun type low line clear => ⟨h.enables type low line clear, h.enables_none type low line⟩,
      fun type high => h.nothing (by omega) ((State.actIssue_enable type).trans (if_pos high)),
      fun type low line => h.waits_own (by omega)
        ((State.actIssue_enable type).trans ((if_neg (ne_true_of_eq_false low)).trans (if_pos line))),
      h.disables, fun type low => h.nothing (by omega) ((State.actIssue_disable type).trans (if_neg (ne_true_of_eq_false low))),
      h.arms, fun type on => h.waits_own (by omega) ((State.actIssue_arm type).trans (congrArg (Prod.mk · _) (if_neg on))),
      h.turnsOff, h.asks, h.trims, fun type bad =>
        ⟨_, exec_actionIssue_flagged act free armed fresh due guards type bad, s.flagged_told a.part e (by decide)⟩,
      h.discharges, h.captures⟩
  · rw [State.skipped_eq]
    exact s.told_ends a.part e (by decide) 5
  · rw [if_neg other]
    exact .of (.refl [] s) (by simp) (by simp) (.refl s _) (fun _ _ => rfl)
  · rw [if_pos type]
    exact s.discharge_ends a.part e _
  · rw [exec_actionTimeout_limit act limit, if_pos ⟨issued, State.passed_of_le past, by simp [open_]⟩]
  · exact s.flagged_told a.part e (State.limitOf_reason limit)

end Sys2Proof.Machine
